-- ==== Sys2Proof/Word.lean ====
section
/-! DEFINITION. Sys2Proof/Word.lean: the word of the register space and of the lane engines: 32 bits (spec/00_scope.md, "All
registers are 32 bits wide"). -/
namespace Sys2Proof

/-- A register word or an engine word. -/
abbrev Word := BitVec 32

/-- The byte of a flash device. -/
abbrev Byte := BitVec 8

end Sys2Proof
end

