-- ==== Sys2Proof/Syntax.lean ====
section
/-! DEFINITION. Sys2Proof/Syntax.lean: the commands of the block, one constructor per row of spec/opcode_table.json.
A command is a register access, a protocol message or an event on a pin, a bridge, a lane or a measured quantity; its operands
are what the command carries and, for an event of the analogue world, what was measured. -/
namespace Sys2Proof

/-- One OTUCn multiframe as a client's lanes deliver it (R171): whether its frames and its multiframe were aligned; STAT of the ODUCn PM; BDI and
the 64 TTI bytes of the OTUC SM; and the BIP violations and BEI of SM and PM over its frames. -/
structure OtuFrames where
  aligned : Bool
  multi : Bool
  stat : Nat
  bdi : Bool
  tti : List Nat
  smBip : Nat
  smBei : Nat
  pmBip : Nat
  pmBei : Nat
  deriving DecidableEq, Repr

/-- What is measured at a one-second tick (R244): each reference input's mean offset against XO_IN over the second, in 0.001 ppb, where one
was measured (R229); the offset of XO_IN as seen through the loop (R236); the host FEC counts of each client (R188); and how many events
tied with the edge (R161). -/
structure Second where
  refs : List (Option Int)
  xo : Int
  hsl : List (List Nat)
  ties : Nat
  deriving DecidableEq, Repr

/-- What a calibration run measures of one ADC sub-slice (R320, R322): gain in 0.01 %, offset in 0.1 LSB and skew in fs, each in pass 1
and pass 2 with the trims at mid-range, and what would remain of them once trimmed, in 0.01 %, 0.25 LSB and fs. -/
structure SubSlice where
  gain : Int × Int
  ofs : Int × Int
  skew : Int × Int
  resGain : Nat
  resOfs : Nat
  resSkew : Nat
  deriving DecidableEq, Repr

/-- What a calibration run measures of one DAC lane (R321, R322): gain and offset in the units of `SubSlice`, in pass 1 and pass 2; what would
remain of them once trimmed; and in a FULL run the current of each unit cell, 63 and then 8 spares, in 0.01 LSB. -/
structure DacLane where
  gain : Int × Int
  ofs : Int × Int
  resGain : Nat
  resOfs : Nat
  cells : List (Int × Int)
  deriving DecidableEq, Repr

/-- What HELLO brings of the partner (R335, R337, R341), and the link's one-way delay in 0.1 ns (R338). -/
structure Hello where
  hub : Bool
  feeder : Nat
  prefer : Nat
  state : Nat
  ltxLine : Nat
  lrxLine : Nat
  rateTx : Nat
  rateRx : Nat
  treeId : Nat
  tEq : Nat
  delay : Nat
  deriving DecidableEq, Repr

/-- What a sample record names of an instruction (Table PMC-2): its delays in lc, final state and target; where an overflow brought it also
its thread, privilege, SKID, opcode, whether it is tagged, PC, tag and SEQ. -/
structure Followed where
  dIssue : Nat
  dAccept : Nat
  dFinal : Nat
  final : Nat
  target : Nat
  thread : Nat
  super : Nat
  skid : Nat
  op : Nat
  tagged : Nat
  pc : Nat
  tag : Nat
  seq : Nat
  deriving DecidableEq, Repr

/-- The commands of the block, one constructor per row of spec/opcode_table.json, in its order. An operand with a default is a measurement that a
term may leave out: an empty list or 0 is then what was measured. -/
inductive Instr where
  /-- R7: A write to a register field that has no row of its own, applied under its access code. Operands: the writing master (R11), the BAR0 byte offset, the dword and its byte enables. -/
  | registerWrite (master addr value be : Nat)
  /-- R10: A read of an RC field returns its value and clears it; an event that coincides is kept for the next read. Operands: the reading master and the BAR0 byte offset of the dword read. -/
  | readClear (master addr : Nat)
  /-- R382: A read of SYN.TIME_LO, CRY.TX_NEXT_LO, PMC.CNT_LO or ENG JRNL_RD[0] takes a per-master snapshot of the related words. Operands: the reading master and the BAR0 byte offset of the dword read. -/
  | snapshotRead (master addr : Nat)
  /-- R381: A locked read, an AtomicOp, or any BAR0 request before HOST_OPEN completes as Unsupported Request and touches no register. Operands: 0 a locked read, 1 an AtomicOp, else a plain request; the function 0 to 7; the offset. -/
  | pcieUnsupportedRequest (kind function addr : Nat)
  /-- R7: A write of 1 to SYS.LOCK freezes every RWL field until a device reset. Operand: the dword written. -/
  | sysLock (value : Nat)
  /-- R14: A bridge reaches its prefill of 32 words; its island starts and its slack monitor is armed. Operand: the bridge, numbered as `bridgeMonitor` numbers them. -/
  | bridgePrefilled (b : Nat)
  /-- R16: An island takes a word from an empty feeding bridge; it emits its idle word, counts UNDERRUN and takes the hard-margin action. Operand: the bridge. -/
  | bridgeUnderflow (b : Nat)
  /-- R16: An island delivers a word into a full fed bridge; the word is dropped, counted and the hard-margin action taken. Operand: the bridge. -/
  | bridgeOverflow (b : Nat)
  /-- R18: A monitor's slack stays below SOFT for SOFT_DWELL; the SLACK_LOW bit is set and an AVS increase may be requested. Operands: the monitor and its slack in words. -/
  | slackLow (m now : Nat)
  /-- R20: A monitor's slack reaches HARD or lower; the monitor's action is taken in the same island cycle and HARD_CNT counts. Operands: the monitor and its slack in words. -/
  | hardMarginCrossing (m now : Nat)
  /-- R19: All armed monitors have held slack at or above SOFT + HYST for LOWER_DWELL; the device requests VDD_CORE down by one step. Operand: the slack of monitors 0, 1, ... as it stands; none listed means as last seen. -/
  | avsDecreaseRequest (levels : List Nat)
  /-- R21: With AUTO_RELEASE set, every monitor of a path has held slack at or above SOFT for 10 ms; its action is released. Operand: the slack of monitors 0, 1, ... held for 10 ms; none listed means as last seen. -/
  | autoRelease (levels : List Nat)
  /-- R21: A write of 1 to PWR.SLACK_CTRL.RELEASE releases, action by action, each hard-margin action whose monitors are all at or above SOFT. Operand: the slack of monitors 0, 1, ... at the write; none listed means as last seen. -/
  | release (levels : List Nat)
  /-- R21: A released hard-margin action ends at the next SLF frame boundary of FRM's transmit counters. -/
  | actionReleaseEffect
  /-- R24: A write to PWR.SLACK_CFG[m] takes effect only if 1 ≤ HARD < SOFT ≤ 24, otherwise it is ignored and CFG_ERR is set. Operands: the monitor and the dword written. -/
  | slackCfgWrite (m value : Nat)
  /-- R46: LTX.CTRL.EN written 1: the six checks run in order and on success the DAC bridges prefill. -/
  | ltxEnable
  /-- R46: An enabled LTX starts with symbol 0 of the next SLF frame of FRM's transmit counters. -/
  | ltxStart
  /-- R47: LTX.CTRL.EN written 0 mutes the output under source 3 and keeps the active bank. -/
  | ltxDisable
  /-- R45: A write of LTX.CTRL.MUTE sets or clears mute source 0. Operand: MUTE as written. -/
  | hostMute (value : Nat)
  /-- R45: After every mute source has cleared, the output resumes at symbol 0 of the next SLF frame. -/
  | muteResume
  /-- R36: At symbol 0 of frame 0 of multiframe M + 4 the banks exchange, BANK toggles, LOAD_SWAP is set and the shadow unlocks. Operand: the direction, 0 downstream, 1 upstream. -/
  | loadSwap (d : Nat)
  /-- R38: A write to LTX.FREQ_OFS is checked against R28 with both banks and refused with CFG_ERR if it breaks it. Operand: the dword written. -/
  | freqOfsWrite (value : Nat)
  /-- R38: An accepted frequency offset takes effect at the next 4,096-sample block boundary with phase continuity. -/
  | freqOfsApply
  /-- R40: A write of LTX.CDPRE_CTRL.GO starts, or holds, a cross-fade to the response for LTX.CDPRE.D. -/
  | cdpreGo
  /-- R40: A pre-compensation cross-fade ends; CD_DONE is set and a held GO starts. Operand: the blocks of 4,096 samples since the fade began. -/
  | cdpreFadeDone (blocks : Nat := 0)
  /-- R41: A write to LTX.SKEW[d] starts a slew at 1/64 ps per block. Operands: the lane and the dword written. -/
  | skewWrite (d value : Nat)
  /-- R41: All lanes reach their skew values and SKEW_SLEW clears. Operand: the blocks of 4,096 samples that pass; lanes that have not arrived after
  them go on. -/
  | skewSlewDone (blocks : Nat := 0)
  /-- R42: A write of LTX.CTRL.PEQ_SWAP requests a pre-emphasis bank swap, merged with any pending one. -/
  | peqSwap
  /-- R42: The pre-emphasis banks of all four lanes exchange at the next 4,096-sample block boundary. -/
  | peqSwapApply
  /-- R43: A write of LTX.CTRL.PD_SWAP requests a pre-distortion bank swap. -/
  | pdSwap
  /-- R43: The pre-distortion banks exchange at the next 4,096-sample block boundary. -/
  | pdSwapApply
  /-- R72: LRX.CTRL.EN written 1: the six checks run in order and on success LRX enters PREFILL. -/
  | lrxEnable
  /-- R73: LRX.CTRL.EN written 0 makes the state OFF, invalidates all LLRs and keeps both banks. -/
  | lrxDisable
  /-- R51: The combined RMS stays below LOS_THR for 32 symbol periods; LOS is declared and adaptation freezes. Operand: the combined RMS in 1/4 LSB. -/
  | losSet (rms : Nat)
  /-- R51: The RMS stays at or above LOS_THR + LOS_HYST for 32 symbol periods; LOS clears and tracking resumes. Operand: the combined RMS in 1/4 LSB. -/
  | losClear (rms : Nat)
  /-- R51: LOS lasts longer than HOLD_MS and LRX returns to state CD. -/
  | losHoldExpiry
  /-- R53: A write of LRX.CD_CTRL.GO starts, holds or replaces a dispersion fade, and cancels an armed one. -/
  | cdGo
  /-- R53: A write of LRX.CD_CTRL.ARM arms a fade on the next LOS clearing, or is refused with CFG_ERR. -/
  | cdArm
  /-- R53: A write of LRX.CD_CTRL.DISARM cancels an armed fade. -/
  | cdDisarm
  /-- R53: A dispersion fade ends; CD_DONE is set and a held GO starts. Operand: the blocks it has run for. -/
  | cdFadeDone (blocks : Nat := 0)
  /-- R55: The dispersion estimate of state CD completes, is written to CD_EST and LRX.CD and applied; LRX goes to COARSE. Operand: the estimate in ps/nm. -/
  | cdEstimateDone (est : Int)
  /-- R60: The coarse offset estimate settles within ±30 MHz and LRX goes to SUBCARRIER. Operands: the estimate and how far it still moves, in 100
  kHz. -/
  | coarseLock (ofs : Int) (spread : Nat := 0)
  /-- R60: Coarse lock is not reached within ACQ_TMO of entering CD; ACQ_RETRY counts and LRX returns to CD. -/
  | acqTmo
  /-- R65: A subcarrier's SNR reaches LOCK_SNR in 4 consecutive updates and it enters LOCK. Operands: the subcarrier and its SNR in 1/16 dB. -/
  | scLock (k snr : Nat)
  /-- R65: A subcarrier's SNR is below LOCK_SNR − 1 dB in 4 consecutive updates and it returns to ACQ. Operands: the subcarrier and its SNR in 1/16 dB. -/
  | scUnlock (k snr : Nat)
  /-- R64: No DATA or BEACON subcarrier is in LOCK for 16 frames and LRX returns to COARSE. -/
  | trackLost
  /-- R58: A subcarrier's two outputs correlate above 0.8 over a frame; its taps return to initial values and SING_CNT counts. Operands: the
  subcarrier and the magnitude of the correlation, a fraction. -/
  | singular (k : Nat) (num : Nat := 0) (den : Nat := 0)
  /-- R61: A frame alignment word is found rotated by a multiple of 90°; the slip is counted and, with CS_EN, corrected. Operands: the subcarrier and
  the quarter turns. -/
  | cycleSlip (k : Nat) (turns : Nat := 0)
  /-- R62: Every 2^n line symbols LRX measures the total offset and moves the fine-tune output by 2^−GAIN of it. Operand: the mean fine offset of the
  locked subcarriers, in 100 kHz. -/
  | lofbUpdate (mean : Int)
  /-- R63: LSR reports the offload command complete; the fine-tune output steps back and LOFB_PENDING clears. -/
  | lofbOffloadDone
  /-- R63: An offload command does not complete within SER_TMO; offloading stops and LOFB_ERR is set. -/
  | lofbErr
  /-- R64: A write of LRX.CTRL.RESTART returns LRX to state CD from any state but OFF. -/
  | restart
  /-- R66: At the end of each 2^W-frame window LRX latches the SNR values and sets SNR_LATCH. Operands: by
  subcarrier, and by leaf, its number, then the sums over the window of |s|² and of |y − s|² on X and the same two on Y, then, for a leaf, 1 where
  all its slots were locked; delay, loss and residual dispersion. -/
  | snrLatch (rows leaves : List (List Nat)) (imp : List Int)
  /-- R70: A decoded shaping block that cannot have been sent is forwarded errored and counted. Operands: the subcarrier and the 128 decoded
  amplitudes of the block. -/
  | dmErr (k : Nat := 0) (block : List Nat := [])
  /-- R59: At the start or end of a leaf's slot on a SLOT subcarrier its equaliser tap set is loaded or saved. Operands: the subcarrier, the leaf, and whether its slot starts. -/
  | tapSetSwitch (k l : Nat) (start : Bool)
  /-- R81: SCM.CHG_CTRL.COMMIT_DS snapshots DS_NEXT, assigns a version, writes the LTX shadow bank and sends LOAD_TABLE. -/
  | commitDs
  /-- R81: SCM.CHG_CTRL.COMMIT_US snapshots US_NEXT, assigns a version, writes the LRX shadow bank and sends LOAD_TABLE. -/
  | commitUs
  /-- R84: SCM.CHG_CTRL.ABORT_DS cancels a downstream change in LOADING, or is ignored. -/
  | abortDs
  /-- R84: SCM.CHG_CTRL.ABORT_US cancels an upstream change in LOADING, or is ignored. -/
  | abortUs
  /-- R81: With the local shadow ready and all leaves acknowledged, the next downstream multiframe becomes M and the countdown starts. Operand: the direction. -/
  | loadAnnounce (d : Nat)
  /-- R82: Not every addressed leaf has acknowledged within ACK_TMO multiframes; the change is abandoned. Operand: the direction. -/
  | loadAckTmo (d : Nat)
  /-- R85: A write to FEC.CFG is judged field by field; rate or ITER_MAX changes while the path is enabled are refused. Operand: the dword written. -/
  | fecCfgWrite (value : Nat)
  /-- R91: An LDPC codeword finishes decoding and is counted as good, failed or invalid. Operands: the subcarrier, whether the syndrome
  is zero, iterations, corrected bits, uncorrected rows, and the leaf on a SLOT subcarrier. -/
  | codewordDecode (k : Nat) (ok : Bool) (iter bits rows : Nat) (l : Nat := 0)
  /-- R386: VLK.CTRL.EN written 1: the hub judges itself on a tree from the next frame; a leaf moves from OFF to SEARCH. -/
  | vlkEnable
  /-- R278: VLK.CTRL.EN written 0 counts as a reset of master VLK and returns to point-to-point judgement. -/
  | vlkDisable
  /-- R102: A leaf decodes a VDF, checks its CRC and handles its header and messages. Operands: the header fields of Table VLK-1, whether the CRC passes, and whether a message of an illegal length was found. -/
  | vdfReceive (tree beacon feeder regOpen mfn wake gver gann gnext crcOk badLen : Nat)
  /-- R121: A stranger loses its beacon for 16 frames and returns to SEARCH. Operand: the frames since the beacon was last in TRACK and in frame. -/
  | beaconLost (frames : Nat)
  /-- R103: The hub receives a leaf's upstream management container and passes its messages to VLK. Operands as for VDF_RECEIVE. -/
  | mgmtContainer (crcOk badLen : Nat)
  /-- R105: A leaf receives the tree grid, FEC rates, US_OFS, registration subcarriers and T_eq. Operands: the header and the content (Table VLK-3). -/
  | treeInfo (addr flags seq baud spacing nsc rates usOfs rscM1 : Nat) (scs : List Nat) (teq : Nat)
  /-- R108: The hub receives a registration request from a good burst, appends RTT, offset and SNR and queues it. Operand: nonzero where the ACTIVE leaf of that identifier is sending now; the message is that of the oldest GOOD burst. -/
  | regReq (sending : Nat)
  /-- R109: A stranger takes its leaf number, group, EqD and frequency and enters ASSIGNED; with SYNC a registered leaf updates the other feeder's EqD. Operands: the header and the content (Table VLK-3). -/
  | regAssign (addr flags seq idLo idHi leaf beacon member khi eqd0 v0 eqd1 v1 freq start : Nat)
  /-- R107: A stranger receives a rejection and returns to SEARCH. Operand: the identifier rejected. -/
  | regReject (idLo idHi : Nat)
  /-- R109: The hub acknowledges a leaf's confirmation, sets it ACTIVE and sends SYNC tables. Operands: the leaf and the header. -/
  | regConfirm (l flags seq : Nat)
  /-- R121: A deregistration ends the registration; the leaf returns to SEARCH or the hub frees the leaf. Operands: the header. -/
  | dereg (addr flags seq : Nat)
  /-- R99: A leaf receives an EqD delta and applies it at its next upstream frame boundary. Operands: the header and the delta in 0.1 ns. -/
  | rangeAdj (addr flags seq : Nat) (delta : Int)
  /-- R110: A leaf adds an upstream offset delta to LTX.FREQ_OFS or answers FREQ_REFUSED. Operands: the header and the delta in 100 kHz. -/
  | freqAdj (addr flags seq : Nat) (delta : Int)
  /-- R112: A leaf writes its grant entries into its shadow and answers GRANT_ACK. Operands: the header, the version and the leaf's rows. -/
  | grantTable (addr flags seq ver : Nat) (rows : List (List Nat))
  /-- R112: The hub receives a leaf's grant acknowledgement, READY or NAK. Operands: the leaf, the header, the version and 0 READY or 1 NAK. -/
  | grantAck (l flags seq ver status : Nat)
  /-- R81: A leaf writes the loading entries into its shadow bank and answers LOAD_ACK or LOAD_NAK. Operands: the header, direction, version, first subcarrier and entries. -/
  | loadTable (addr flags seq d ver lo : Nat) (entries : List Nat)
  /-- R81: The hub records a leaf's acknowledgement of a loading version. Operands: the leaf, the header, direction and version. -/
  | loadAck (l flags seq d ver : Nat)
  /-- R82: The hub receives a refusal of a loading version and abandons the change. Operands: the leaf, the header, direction and version. -/
  | loadNak (l flags seq d ver : Nat)
  /-- R82: A leaf receives the cancellation of a loading version. Operands: the header, direction and version. -/
  | loadCancel (addr flags seq d ver : Nat)
  /-- R83: The hub receives a leaf's mismatch report and sends the active table again as a change. Operands: the leaf, the header and the direction. -/
  | loadMismatch (l flags seq d : Nat)
  /-- R77: The hub's VLK writes a leaf's reported SNRs into SCM.DS_SNR. Operands: the leaf, the header, its first subcarrier and its LRX.SNR dwords. -/
  | snrReport (l flags seq lo : Nat) (vals : List Nat)
  /-- R114: A leaf's VLK performs up to 120 register writes as master 97 and answers REG_RESP. Operands: the header and the address-value pairs. -/
  | regWrite (addr flags seq : Nat) (pairs : List (Nat × Nat))
  /-- R114: A leaf's VLK reads up to 232 addresses as master 97 and answers REG_RESP. Operands: the header and the addresses. -/
  | regRead (addr flags seq : Nat) (addrs : List Nat)
  /-- R114: The hub queues a register response carrying values and per-address status. Operands: the leaf, the header and the words of the body. -/
  | regResp (l flags seq : Nat) (body : List Nat)
  /-- R115: A leaf opens a firmware push and erases its inactive flash slot. Operands: the header and the content (R115). -/
  | fwOpen (addr flags seq version size crc : Nat)
  /-- R115: A leaf writes up to 1,008 bytes of image at the given offset. Operands: destination, flags, SEQ, byte offset and the bytes. -/
  | fwData (addr flags seq offset : Nat) (bytes : List Nat)
  /-- R115: A leaf closes the push and answers FW_STATUS with its missing-piece bitmap. Operands: the header. -/
  | fwClose (addr flags seq : Nat)
  /-- R115: The hub queues a leaf's firmware status bitmap. Operands: the header and the bitmap; in a leaf a request for it. -/
  | fwStatus (addr flags seq : Nat) (bitmap : List Nat)
  /-- R115: A leaf activates the pushed slot under the trial-and-rollback rule. Operands: the header. -/
  | fwActivate (addr flags seq : Nat)
  /-- R105: The hub queues a leaf's request for REST. Operands: the leaf and the header. -/
  | restReq (l flags seq : Nat)
  /-- R116: A leaf takes START_MF, CYCLE_MF and LISTEN_FR, or cancels REST with CYCLE_MF = 0. Operands: the header and the content (Table VLK-3). -/
  | restGrant (addr flags seq start cycle listen : Nat)
  /-- R119: The hub receives a leaf's wake acknowledgement, sets it ACTIVE and releases its held flows. Operands: the leaf and the header. -/
  | wakeAck (l flags seq : Nat)
  /-- R105: A sender receives ACK(SEQ, status) and stops repeating the message. Operands: the sender (512 the hub), the SEQ and the status. -/
  | ack (peer q status : Nat)
  /-- R106: A USER message is passed unchanged into the receive ring. Operands: the header and the words of the body. -/
  | user (addr flags type seq : Nat) (body : List Nat)
  /-- R105: A message of undefined TYPE is discarded, counted and acknowledged UNKNOWN if ACK_REQ. Operands: the header. -/
  | unknownType (addr flags seq : Nat)
  /-- R105: An unacknowledged message reaches its repeat interval and is sent again. Operands: the receiver (512 the hub) and the SEQ. -/
  | retxTimeout (peer q : Nat)
  /-- R106: A write of VLK.TXPOST[q].GO queues the message in TXBUF[q] for sending. Operands: the queue, LEN and BEACON. -/
  | txpost (q len beacon : Nat)
  /-- R106: A write of VLK.RXPOP releases the oldest message of the receive ring. -/
  | rxpop
  /-- R98: Within one frame of a silence condition VLK writes LTX.CTRL.MUTE = 1 and sets SILENT. -/
  | upstreamSilent
  /-- R98: At the first upstream frame after no silence condition holds, VLK writes MUTE = 0. -/
  | upstreamResume
  /-- R99: A leaf's averaged arrival error exceeds TRIG; the hub sends RANGE_ADJ and updates LEAF_EQD. Operands: the leaf, the error in 1/16 symbol
  and the measurements averaged. -/
  | rangeTrigger (l : Nat) (e : Int) (n : Nat := 0)
  /-- R110: A leaf's averaged offset exceeds 20 MHz; the hub sends FREQ_ADJ. Operands: the leaf and its averaged offset in 100 kHz. -/
  | freqTrigger (l : Nat) (ofs : Int)
  /-- R107: A stranger sends REG_REQ in a randomly chosen open opportunity with EqD = 0. Operands: the opportunity chosen: multiframe, frame, index and subcarrier. -/
  | regAttempt (mfn fn i sc : Nat)
  /-- R107: No answer within REG_TMO frames; the stranger tries again with the next attempt number. Operand: the frames since the attempt. -/
  | regTmo (frames : Nat)
  /-- R107: A write of VLK.CTRL.REG_GO resumes registration after REG_GIVEUP. -/
  | regGo
  /-- R107: A write of VLK.CTRL.REG_OPEN opens registration, refused unless every REG_SC entry is BURST. Operand: REG_OPEN as written. -/
  | regOpen (value : Nat)
  /-- R109: At START_MF an assigned leaf begins its upstream allocation and sends REG_CONFIRM. Operand: the multiframe. -/
  | upstreamStart (mfn : Nat)
  /-- R111: SCM.GRANT_CTRL.COMMIT validates GRANT_NEXT and starts a grant change, or refuses it. -/
  | grantCommit
  /-- R112: SCM.GRANT_CTRL.ABORT cancels a grant change in LOADING. -/
  | grantAbort
  /-- R112: All grant acknowledgements are in; the countdown runs in GRANT_ANN from multiframe M. -/
  | grantAnnounce
  /-- R112: At downstream multiframe M + 4 the grant tables exchange and GRANT_SWAP is set. -/
  | grantSwap
  /-- R112: Grant acknowledgements fail to arrive in time; the change is abandoned and GRANT_FAIL is set. -/
  | grantAckTmo
  /-- R116: At START_MF a leaf enters REST and requests the power state. Operand: the multiframe. -/
  | leafRestStart (mfn : Nat)
  /-- R117: At a 10 ms tick the leaf repeats its refused REST entry request. -/
  | restRetry
  /-- R116: LEAD_US before a listen multiframe the resting leaf wakes to read the listen VDFs. Operand: the multiframe. -/
  | listenWake (mfn : Nat := 0)
  /-- R116: After the last listen frame with no WAKE bit or message the leaf returns to REST. Operand: the frames that have gone. -/
  | listenEnd (frames : Nat := 0)
  /-- R121: A leaf's silence condition or unread listen VDF lasts LOST_MS and it enters LOST. Operand: how long the condition has lasted, in milliseconds. -/
  | leafLostTmo (ms : Nat)
  /-- R118: At START_MF the hub marks the leaf RESTING and holds its downstream flows. Operand: the leaf. -/
  | hubRestStart (l : Nat)
  /-- R118: A write of VLK.WAKE sets the leaf's WAKE bit in every VDF until WAKE_ACK. Operand: the leaf written to VLK.WAKE. -/
  | wake (l : Nat)
  /-- R118: WAKE_TMO listen periods pass without WAKE_ACK; the leaf becomes LOST. Operands: the leaf and the listen periods that have passed. -/
  | wakeTmo (l periods : Nat)
  /-- R121: No upstream from an ACTIVE leaf for LOST_MF multiframes; the hub sets it LOST. Operands: the leaf and the multiframes without upstream. -/
  | leafLost (l mf : Nat)
  /-- R127: BRX.CTRL.EN written 1: four checks run in order and the channels in use enter SEARCH. -/
  | brxEnable
  /-- R130: BRX.CTRL.EN written 0 returns every channel to OFF. -/
  | brxDisable
  /-- R129: A correlation peak is detected at t + 4 and acts by channel state. Operands: the channel, Q at the peak and its Λ in 0.1 dBL, the
  downstream position of the preamble's arrival and of the detection, what has been measured of a burst that this one ends, Q at the four symbols
  after the peak, and the channel's mean power in 0.1 dBL. -/
  | peakDetect (c q : Nat) (lambda : Int) (aMfn aFn aOfs dMfn dFn dSym psym fofs snr : Nat) (after : List Nat := []) (level : Int := 0)
  /-- R131: At t + 104 the header is decided; accepted opens the burst, else HDR_FAIL and SEARCH. Operands: the channel, the 32 header bits and whether their CRC passed. -/
  | headerDecision (c hdr crcOk : Nat)
  /-- R132: An open burst closes at its last end-marker symbol as GOOD or CRC_ERR. Operands: the channel, whether the payload's CRC passed, the end
  marker's correlation in 1/256 of its ideal value, frequency offset, SNR and message. -/
  | burstClose (c crcOk em fofs snr : Nat) (msg : List Nat)
  /-- R140: Eight symbols after a close the burst record is written to the ring, or dropped if full. -/
  | burstRecord
  /-- R136: 32 consecutive absent symbols close the burst TRUNCATED or abandon the attempt. Operands: the channel, what has been measured of the
  burst, and the energies of the run's symbols in 0.1 dBL. -/
  | gapClose (c psym fofs snr : Nat) (run : List Int := [])
  /-- R136: A run of 1 to 31 absent symbols ends with a present one and is bridged with zero LLRs. Operands: the channel, the energies of the run's
  symbols and of the one after it, in 0.1 dBL. -/
  | fade (c : Nat) (run : List Int := []) (next : Int := 0)
  /-- R137: 32 consecutive present symbols in SEARCH without detection count one orphan episode. Operands: the channel, the symbols in a row that
  were not present before the run, and the run's energies in 0.1 dBL. -/
  | orphan (c : Nat) (quiet : Nat := 0) (run : List Int := [])
  /-- R138: 32 consecutive symbols below ABS_THR set an upstream subcarrier's SC_ABSENT bit. Operands: the subcarrier, and its latest symbols as
  their energies in 0.1 dBL and frame numbers. -/
  | scAbsentSet (k : Nat) (symbols : List (Int × Nat) := [])
  /-- R138: 32 consecutive symbols at or above ABS_THR clear the SC_ABSENT bit. Operands: the subcarrier, and its latest symbols as their energies in
  0.1 dBL and frame numbers. -/
  | scAbsentClear (k : Nat) (symbols : List (Int × Nat) := [])
  /-- R140: A write of BRX.REC_POP releases the oldest burst record. -/
  | recPop
  /-- R141: A write of BRX.COL_POP releases the oldest complete collision log entry, or is ignored. -/
  | colPop
  /-- R142: A write of FRM.CTRL.TX_EN starts the transmit frame counters at FN 0, MFN 0 on the next frame. Operand: TX_EN as written. -/
  | txEn (value : Nat)
  /-- R142: A transmit SLF frame begins and its overhead block is formed. Operands: in a leaf the multiframe and frame it is timed against; by
  subcarrier the covered bits of the frame before (R147). -/
  | txFrame (mfn fn : Nat) (covered : List (List Bool))
  /-- R153: A write of FRM.CTRL.RX_EN starts frame search, or is refused with CFG_ERR. Operand: RX_EN as written. -/
  | rxEn (value : Nat)
  /-- R153: A write of FRM.CTRL.RESEARCH forces out-of-frame and a new search. -/
  | research
  /-- R154: A search position and rotation matches the FAW within FAW_TOL and opens a candidate, or is ignored. Operands: the bit position, the rotation and the bits that differ. -/
  | fawHit (pos rot errs : Nat)
  /-- R155: A candidate is judged at the end of its overhead block; it advances a match or is removed. Operands: the candidate's next position and rotation, the bits that differ there, and the overhead word that follows. -/
  | candidateJudge (pos rot errs word : Nat)
  /-- R156: In-frame, each frame's FAW is checked, errors counted and mismatches judged. Operands: the subcarrier, the bits that differ and the rotation found on Y. -/
  | fawCheck (k errs rotY : Nat)
  /-- R156: Five consecutive FAW mismatches declare out-of-frame and restart search. -/
  | oof
  /-- R143: An overhead word is decoded and CRC-checked, and its fields are taken. Operands: the subcarrier, on a tree the leaf, the word, the
  covered bits of the stream's last frame as received, and the position expected. -/
  | overheadWord (k l word : Nat) (covered : List Bool) (mfn fn : Nat)
  /-- R157: Five consecutive FN mismatches clear IN_MF and the FN counter flywheels. Operands: the subcarrier and, on a tree, the leaf. -/
  | oom (k l : Nat)
  /-- R157: Three consecutive valid incrementing FN values restore IN_MF. Operands: the subcarrier and, on a tree, the leaf. -/
  | mfRestore (k l : Nat)
  /-- R158: The hub checks an upstream DATA or granted SLOT frame for the FAW near its expected position. Operands: the subcarrier, the leaf and the bits that differ. -/
  | upstreamFawCheck (k l errs : Nat)
  /-- R158: Five consecutive upstream checks without a hit declare that subcarrier or leaf out-of-frame. Operands: the subcarrier and the leaf. -/
  | upstreamOof (k l : Nat)
  /-- R158: Three consecutive upstream hits restore in-frame. Operands: the subcarrier and the leaf. -/
  | upstreamInFrame (k l : Nat)
  /-- R244: The time counter reaches a multiple of 10,000,000 ns. Operands: its number in the second, the OTUCn multiframes of the
  tick with their clients, what each converter's monitor shows, and the events that tied with the tick. -/
  | tenMsTick (n : Nat) (otu : List (Nat × OtuFrames)) (levels : List (Nat × Nat × Nat)) (ties : Nat := 0)
  /-- R160: A defect's set count reaches SET and it is declared; DEF_CHG is set. Operands: the kind of entity (0 line, 1 subcarrier, 2 flow, 3 lane, 4 client), which one, and the defect. -/
  | defectDeclare (kind i d : Nat)
  /-- R160: A declared defect's clear count reaches CLR and it is cleared; DEF_CHG is set. Operands: as for DEFECT_DECLARE. -/
  | defectClear (kind i d : Nat)
  /-- R160: A write to FRM.DEF_CFG[d] resets the counters of every instance of d. Operands: the defect and the dword written. -/
  | defCfgWrite (d value : Nat)
  /-- R244: The nanoseconds of the time counter wrap to 0 and every counter bank latches. Operand: what is measured over the second. -/
  | secondTick (d : Second)
  /-- R164: M consecutive bad or good seconds start or end raw dDEG. Operand: the subcarrier, or 512 + the client. -/
  | degOnset (i : Nat)
  /-- R165: The same 64-byte TTI in 3 consecutive multiframes is accepted into TTI_RX. -/
  | ttiAccept
  /-- R166: The same SSM in 3 consecutive valid words is accepted, SSM_CHG set and passed to SYN. -/
  | ssmAccept
  /-- R152: A received container frame is checked, matched to a flow and ordered by SEQ in the egress window. Operands: the subcarrier, on a tree the leaf, whether FEC or LRX marked a bit of it, the 16 header bytes, the payload bytes and the tag. -/
  | cfReceive (k l bad : Nat) (hdr payload : List Nat) (tag : Nat)
  /-- R168: A CF is written to a flow's egress slip buffer, deleted, or overflows. Operand: the flow. -/
  | slipWrite (f : Nat)
  /-- R168: The egress reads a CF from the slip buffer, repeating or emitting IDLE when low. Operands: the flow, and for a VLAN flow where Ethernet
  frames end in the CF's bytes. -/
  | slipRead (f : Nat) (ends : List Nat := [])
  /-- R184: HSL.CLI_CFG[c].EN written 1: six checks run and on success egress starts and the client enters SIGNAL. Operand: the client. -/
  | cliEnable (c : Nat)
  /-- R184: HSL.CLI_CFG[c].EN written 0 takes the client to OFF and powers its lanes down. Operand: the client. -/
  | cliDisable (c : Nat)
  /-- R179: A lane's amplitude stays above threshold for 1 µs and signal detect sets. Operand: the lane. -/
  | signalDetect (n : Nat)
  /-- R179: A lane's amplitude stays below threshold for 1 µs; the client drops to SIGNAL. Operand: the lane. -/
  | signalLoss (n : Nat)
  /-- R179: A lane's CDR locks; when all are locked the client moves to LANE_LOCK. Operand: the lane. -/
  | cdrLock (n : Nat)
  /-- R179: A lane loses CDR lock and the client drops to CDR. Operand: the lane. -/
  | cdrLoss (n : Nat)
  /-- R180: A lane locks on alignment markers, inverting polarity if found complemented. Operands: the lane, whether its markers are complemented, and the lane number they carry. -/
  | laneLock (n comp id : Nat)
  /-- R179: A lane loses marker lock and the client drops to LANE_LOCK. Operand: the lane. -/
  | markerLockLoss (n : Nat)
  /-- R181: A changed TX_REV takes effect at the next alignment-marker boundary and ORDER_CHG is set. Operand: the client. -/
  | egressOrderChange (c : Nat)
  /-- R182: At an alignment marker the skew is measured; within 180 ns the client deskews and enters UP. Operands: the client, the skew in 0.1 ns and, of a FlexO client, the identifier its lanes carry. -/
  | deskewMeasure (c meas flexo : Nat)
  /-- R183: A client has not reached UP within LINK_TMO; RETRY counts and it returns to CDR or stays in SIGNAL. Operands: the client and the milliseconds without UP. -/
  | linkTmo (c ms : Nat)
  /-- R195: An FLW READ command copies entry f into the staging words. Operand: the flow. -/
  | flowRead (f : Nat)
  /-- R195: An FLW WRITE command runs the checks of Table FLW-2 and replaces entry f, or is refused. Operand: the flow; the entry stands in the staging words. -/
  | flowWrite (f : Nat)
  /-- R195: An FLW REMOVE command clears entry f and discards its buffered CFs. Operand: the flow. -/
  | flowRemove (f : Nat)
  /-- R195: A WRITE or REMOVE takes effect before the next CF and CMD_DONE is set. Operand: the time in ns. -/
  | flowCmdApply (now : Nat := 0)
  /-- R192: At the start of a CF on a subcarrier FLW picks a flow or FILL and sends its CF. Operands: the subcarrier and the time in ns. -/
  | cfSchedule (k now : Nat)
  /-- R193: A flow's token count reaches its cap; RATE_SHORT is set and lost tokens counted. Operands: the flow and the time in ns. -/
  | tokenCap (f now : Nat)
  /-- R192: Client data arrives at a flow's ingress; beyond two CFs it is discarded and ING_OVF set. Operands: the client, the VLAN or tributary slot, whether a block is marked errored, and the bytes. -/
  | clientIngress (c vlan slot errored : Nat) (data : List Nat)
  /-- R200: QDM.CTRL.EN written 1: frequency and regions are checked and each enabled port trains. -/
  | qdmEnable
  /-- R200: A port's training ends with OK or FAIL and the failing step. Operands: the port and the failing step, 0 for none. -/
  | qdrTrainDone (p step : Nat)
  /-- R200: A write of QDM.CTRL.RETRAIN repeats training on ports not in use. -/
  | qdrRetrain
  /-- R200: Every 100 ms QDM re-centres each bit by at most one step within the training area. Operands: the port and by bit 1 up, 2 down, else no step. -/
  | qdrRecentre (p : Nat) (moves : List Nat)
  /-- R204: A read parity error marks the word errored, counts it and records its address. Operands: the port, the word address and the flow whose CF the word belongs to. -/
  | qdrParityError (p addr f : Nat)
  /-- R204: The device reports an address parity error and it is counted. Operand: the port. -/
  | addrParityError (p : Nat)
  /-- R204: A port's errors in one second reach ERR_THR; the port is declared failed and taken out of use. Operand: the port. -/
  | qdrPortFail (p : Nat)
  /-- R217: A read of CRY.LOCK grants the lock to a permitted master or returns the owner plus one. Operands: the reading master and those whose reads coincide with its own. -/
  | cryLockAcquire (master : Nat) (user : Bool) (rivals : List Nat)
  /-- R217: A write of CRY.LOCK by its owner releases it; by another master sets NOT_OWNER. Operand: the writing master. -/
  | cryLockRelease (master : Nat) (user : Bool)
  /-- R218: LOAD writes key and salt into slot (CTX, PHASE), or is refused. Operands: the writing master, the context and the phase. -/
  | keyLoad (master : Nat) (user : Bool) (ctx ph : Nat)
  /-- R216: ROLL makes the named phase the active transmit phase, or is refused EMPTY. Operands: the writing master, the context and the phase. -/
  | keyRoll (master : Nat) (user : Bool) (ctx ph : Nat)
  /-- R218: CLEAR empties a slot, or is refused ACTIVE. Operands: the writing master, the context and the phase. -/
  | keyClear (master : Nat) (user : Bool) (ctx ph : Nat)
  /-- R209: CLEAR_CTX empties both slots and returns counters and receive state to 0, or is refused IN_USE. Operands: the writing master and the context. -/
  | keyClearCtx (master : Nat) (user : Bool) (ctx : Nat)
  /-- R218: A key command with an undefined OP is refused UNDEFINED. Operands: the writing master, the context, the phase and the undefined OP: 0, 5, 6 or 7. -/
  | keyCmdUndefined (master : Nat) (user : Bool) (ctx ph op : Nat)
  /-- R218: A key command completes; BUSY clears, CMD_DONE or CMD_ERR is set and KEY_DATA clears. -/
  | keyCmdComplete
  /-- R220: An erasure condition erases every key, counter and receive state of Oryx within 2 µs. Operands: the alarm of Table CRY-3 and whether its condition persists. -/
  | erasure (cause : Nat) (present : Bool)
  /-- R223: Every 2^16th downstream frame the active sends every context's NEXT and receive state to the standby. -/
  | cryCounterMirror
  /-- R227: A reference input meets a failure condition and enters FAILED within 1 ms. Operands: the input and whether it shows no activity. -/
  | refFail (i lost : Nat)
  /-- R230: The failure conditions of an input end and it enters WTR. Operand: the input. -/
  | refRestore (i : Nat)
  /-- R230: An input holds |y1| < 0.7 TOL for WTR_S seconds and becomes QUALIFIED. Operand: the input. -/
  | wtrComplete (i : Nat)
  /-- R230: An input in DRIFT_WATCH holds within 0.7 TOL for WTR_S seconds and returns to QUALIFIED. Operand: the input. -/
  | driftWatchEnd (i : Nat)
  /-- R230: An input exceeds TOL for DQ_S seconds, or 2 TOL for 3 seconds, and is disqualified. Operand: the input. -/
  | refDq (i : Nat)
  /-- R228: No QL write or valid in-band QL within QL_TMO; the QL becomes FAILED. Operands: the input and the seconds without a quality level. -/
  | qlTmo (i seconds : Nat)
  /-- R228: A write to SYN.REF_QL[i] sets the input's QL and restarts QL_TMO. Operands: the input and the dword written. -/
  | refQlWrite (i value : Nat)
  /-- R232: Within 10 ms of a change SYN selects among eligible inputs and moves the loop. -/
  | selection
  /-- R234: The phase error stays within ±50 ns for 10 s and the loop enters LOCKED. -/
  | loopLock
  /-- R236: A sample completes QUAR_S seconds of quarantine and enters the history. -/
  | quarantineExit
  /-- R237: Every 60 s in TC_MODE 1 SYN fits the temperature coefficients to the history. -/
  | tcFit
  /-- R241: A write to SYN.PSTEP[o] adds to the pending step, or is ignored with PSTEP_RANGE. Operands: the output and the dword written. -/
  | pstepWrite (o value : Nat)
  /-- R241: An output's phase step completes and PSTEP_DONE is set. Operand: the output. -/
  | pstepDone (o : Nat)
  /-- R242: A write to SYN.PRIV_KEY advances the key sequence or is refused with PRIV_ERR. Operands: the writing master and the dword. -/
  | privKeyWrite (master : Nat) (user : Bool) (value : Nat)
  /-- R242: A write of NCO_CTRL[p].OPEN = 1 within 1 ms of the key opens the output's loop. Operands: the writing master, the output and the microseconds since the second key. -/
  | loopOpen (master : Nat) (user : Bool) (p us : Nat)
  /-- R242: The owner writes NCO_FREQ[p] and the open NCO moves with phase continuity. Operands: the writing master, the output and the dword. -/
  | ncoFreqWrite (master : Nat) (user : Bool) (p value : Nat)
  /-- R243: The owner writes OPEN = 0 and the NCO ramps back to the loop over 1 s. Operands: the writing master and the output. -/
  | loopClose (master : Nat) (user : Bool) (p : Nat)
  /-- R243: The loop has been open MAX_OPEN_S seconds; it closes and PRIV_CLOSED is set. Operands: the output and the seconds its loop has been open. -/
  | maxOpenExpiry (p seconds : Nat)
  /-- R244: A write of SYN.TIME_CTRL.SET arms loading of TIME_SET_S. -/
  | timeSet
  /-- R245: A write of SYN.TIME_CTRL.ALIGN arms alignment to the next PPS_IN edge. -/
  | timeAlign
  /-- R245: A rising PPS_IN edge is measured and, if armed, zeroes TIME_LO with a one-second tick. Operands: the nanoseconds since the last one-second tick and what an armed alignment's second measures. -/
  | ppsInEdge (ns : Nat) (d : Second)
  /-- R252: rd ← rs1 + rs2. Operands: the engine and the thread whose turn it is. -/
  | add (n t : Nat)
  /-- R252: rd ← rs1 − rs2. Operands: the engine and the thread whose turn it is. -/
  | sub (n t : Nat)
  /-- R252: rd ← rs1 AND rs2. Operands: the engine and the thread whose turn it is. -/
  | andOp (n t : Nat)
  /-- R252: rd ← rs1 OR rs2. Operands: the engine and the thread whose turn it is. -/
  | orOp (n t : Nat)
  /-- R252: rd ← rs1 XOR rs2. Operands: the engine and the thread whose turn it is. -/
  | xor (n t : Nat)
  /-- R252: rd ← rs1 shifted left by rs2[4:0]. Operands: the engine and the thread whose turn it is. -/
  | sll (n t : Nat)
  /-- R252: rd ← rs1 shifted right logically by rs2[4:0]. Operands: the engine and the thread whose turn it is. -/
  | srl (n t : Nat)
  /-- R252: rd ← rs1 shifted right arithmetically by rs2[4:0]. Operands: the engine and the thread whose turn it is. -/
  | sra (n t : Nat)
  /-- R252: rd ← 1 if rs1 < rs2 signed, else 0. Operands: the engine and the thread whose turn it is. -/
  | slt (n t : Nat)
  /-- R252: rd ← 1 if rs1 < rs2 unsigned, else 0. Operands: the engine and the thread whose turn it is. -/
  | sltu (n t : Nat)
  /-- R252: rd ← low 32 bits of rs1 × rs2. Operands: the engine and the thread whose turn it is. -/
  | mul (n t : Nat)
  /-- R252: rd ← high 32 bits of the signed product. Operands: the engine and the thread whose turn it is. -/
  | mulh (n t : Nat)
  /-- R252: rd ← high 32 bits of the unsigned product. Operands: the engine and the thread whose turn it is. -/
  | mulhu (n t : Nat)
  /-- R252: rd ← the smaller of rs1 and rs2. Operands: the engine and the thread whose turn it is. -/
  | min (n t : Nat)
  /-- R252: rd ← the larger of rs1 and rs2. Operands: the engine and the thread whose turn it is. -/
  | max (n t : Nat)
  /-- R252: rd ← count of leading zeros of rs1. Operands: the engine and the thread whose turn it is. -/
  | clz (n t : Nat)
  /-- R252: rd ← count of one bits of rs1. Operands: the engine and the thread whose turn it is. -/
  | popc (n t : Nat)
  /-- R252: rd ← rs1 + signed immediate. Operands: the engine and the thread whose turn it is. -/
  | addi (n t : Nat)
  /-- R252: rd ← rs1 AND zero-extended immediate. Operands: the engine and the thread whose turn it is. -/
  | andi (n t : Nat)
  /-- R252: rd ← rs1 OR zero-extended immediate. Operands: the engine and the thread whose turn it is. -/
  | ori (n t : Nat)
  /-- R252: rd ← rs1 XOR zero-extended immediate. Operands: the engine and the thread whose turn it is. -/
  | xori (n t : Nat)
  /-- R252: rd ← 1 if rs1 < signed immediate, else 0. Operands: the engine and the thread whose turn it is. -/
  | slti (n t : Nat)
  /-- R252: rd ← rs1 shifted by an immediate amount, kind chosen by imm[6:5]. Operands: the engine and the thread whose turn it is. -/
  | shi (n t : Nat)
  /-- R252: rd ← immediate shifted left 16. Operands: the engine and the thread whose turn it is. -/
  | lui (n t : Nat)
  /-- R252: Branch if rs1 equals rs2. Operands: the engine and the thread whose turn it is. -/
  | beq (n t : Nat)
  /-- R252: Branch if rs1 differs from rs2. Operands: the engine and the thread whose turn it is. -/
  | bne (n t : Nat)
  /-- R252: Branch if rs1 < rs2 signed. Operands: the engine and the thread whose turn it is. -/
  | blt (n t : Nat)
  /-- R252: Branch if rs1 ≥ rs2 signed. Operands: the engine and the thread whose turn it is. -/
  | bge (n t : Nat)
  /-- R252: Branch if rs1 < rs2 unsigned. Operands: the engine and the thread whose turn it is. -/
  | bltu (n t : Nat)
  /-- R252: Branch if rs1 ≥ rs2 unsigned. Operands: the engine and the thread whose turn it is. -/
  | bgeu (n t : Nat)
  /-- R252: rd ← PC + 1 and PC ← PC + off21. Operands: the engine and the thread whose turn it is. -/
  | jal (n t : Nat)
  /-- R252: rd ← PC + 1 and PC ← rs1 + immediate. Operands: the engine and the thread whose turn it is. -/
  | jalr (n t : Nat)
  /-- R252: rd ← DMEM word at rs1 + immediate. Operands: the engine and the thread whose turn it is. -/
  | ldw (n t : Nat)
  /-- R252: DMEM word at rs1 + immediate ← rs2. Operands: the engine and the thread whose turn it is. -/
  | stw (n t : Nat)
  /-- R252: Atomically exchanges rs2 with the DMEM word at rs1, returning the old value. Operands: the engine and the thread whose turn it is. -/
  | lxch (n t : Nat)
  /-- R252: Atomically adds rs2 to the DMEM word at rs1, returning the old value. Operands: the engine and the thread whose turn it is. -/
  | ladd (n t : Nat)
  /-- R253: Tagged register-space read delivered into rb at APPLIED. Operands: the engine and the thread whose turn it is. -/
  | rld (n t : Nat)
  /-- R253: Tagged register-space write of rb. Operands: the engine and the thread whose turn it is. -/
  | rst (n t : Nat)
  /-- R259: Tagged table DMA from register space to DMEM under a descriptor. Operands: the engine and the thread whose turn it is. -/
  | dmar (n t : Nat)
  /-- R259: Tagged table DMA from DMEM to register space under a descriptor. Operands: the engine and the thread whose turn it is. -/
  | dmaw (n t : Nat)
  /-- R259: Tagged transfer from QDR-IV to DMEM within a permitted area. Operands: the engine and the thread whose turn it is. -/
  | qrd (n t : Nat)
  /-- R259: Tagged transfer from DMEM to QDR-IV free words. Operands: the engine and the thread whose turn it is. -/
  | qwr (n t : Nat)
  /-- R258: Tagged remote atomic swap of a register. Operands: the engine and the thread whose turn it is. -/
  | aswp (n t : Nat)
  /-- R258: Tagged remote atomic add to a register. Operands: the engine and the thread whose turn it is. -/
  | aadd (n t : Nat)
  /-- R258: Tagged remote atomic AND to a register. Operands: the engine and the thread whose turn it is. -/
  | aand (n t : Nat)
  /-- R258: Tagged remote atomic OR to a register. Operands: the engine and the thread whose turn it is. -/
  | aor (n t : Nat)
  /-- R258: Tagged remote compare-and-swap of a register. Operands: the engine and the thread whose turn it is. -/
  | acas (n t : Nat)
  /-- R260: The thread waits for an event of Table ENG-6 or a timeout. Operands: the engine and the thread whose turn it is. -/
  | wait (n t : Nat)
  /-- R258: Waits until earlier tagged operations of the thread or engine are final. Operands: the engine and the thread whose turn it is. -/
  | fence (n t : Nat)
  /-- R265: Writes a MARK journal entry and returns its SEQ. Operands: the engine and the thread whose turn it is. -/
  | jmark (n t : Nat)
  /-- R255: Returns the state of a tag without waiting. Operands: the engine and the thread whose turn it is. -/
  | tstat (n t : Nat)
  /-- R255: Releases a tag, or sets AUTO on a running operation. Operands: the engine and the thread whose turn it is. -/
  | trel (n t : Nat)
  /-- R252: The thread stops and HALT is set. Operands: the engine and the thread whose turn it is. -/
  | halt (n t : Nat)
  /-- R252: The thread gives up its issue turn. Operands: the engine and the thread whose turn it is. -/
  | yield (n t : Nat)
  /-- R252: Sets a bit of the engine's FLAGS. Operands: the engine and the thread whose turn it is. -/
  | setf (n t : Nat)
  /-- R252: Clears a bit of the engine's FLAGS. Operands: the engine and the thread whose turn it is. -/
  | clrf (n t : Nat)
  /-- R250: The thread lowers its own privilege to USER. Operands: the engine and the thread whose turn it is. -/
  | drop (n t : Nat)
  /-- R252: rd ← engine, thread and privilege of the issuing thread. Operands: the engine and the thread whose turn it is. -/
  | self (n t : Nat)
  /-- R253: A thread stalled for a free tag exceeds ACC_TMO and faults. Operands: the engine and the thread. -/
  | tagExhaust (n t : Nat)
  /-- R257: The target accepts a tagged request and the operation becomes ACCEPTED. Operands: the engine and the journal entry. -/
  | opAccept (n j : Nat)
  /-- R257: A request is not accepted within ACC_TMO and ends ABORTED with TIMEOUT. Operands: the engine and the journal entry. -/
  | accTmo (n j : Nat)
  /-- R254: A tagged operation reaches APPLIED, PARTIAL or ABORTED and its journal entry records it. Operands: the engine, the journal entry, how many words have taken effect, and 0 or the parity error that ends it. -/
  | opFinal (n j words parity : Nat)
  /-- R260: A waiting thread's event occurs and it resumes with the event's result. Operands: the engine and the thread. -/
  | waitEnd (n t : Nat)
  /-- R260: A WAIT's timeout expires and it returns 0xFFFF_FFFF. Operands: the engine and the thread. -/
  | waitTimeout (n t : Nat)
  /-- R262: ENG[n].CTRL.START starts a thread at ENTRY, releasing its final held tags. Operands: the engine and the thread. -/
  | threadStart (n t : Nat)
  /-- R262: ENG[n].CTRL.STOP stops a thread after its current instruction. Operands: the engine and the thread. -/
  | threadStop (n t : Nat)
  /-- R263: ENG[n].CTRL.RESET stops all threads, ends unaccepted operations and releases tags and locks. Operand: the engine. -/
  | engReset (n : Nat)
  /-- R267: An access to ENG[n].MEM_DATA reads or writes IMEM or DMEM and advances ADDR; IMEM writes while running are refused. Operands: the master, the engine, whether it writes, and the dword written. -/
  | memDataAccess (master n : Nat) (write : Bool) (value : Nat)
  /-- R266: A write of ENG.SE.SPILL_POP releases the oldest spilled entry. -/
  | spillPop
  /-- R270: IMG_CTRL.ACTIVATE updates the slot record for a trial of a valid slot and performs the image-loading reset. Operand: the slot written with ACTIVATE. -/
  | activate (slot : Nat)
  /-- R270: IMG_CTRL.HEALTH_OK within the trial window clears TRIAL. -/
  | healthOk
  /-- R270: The trial window expires without HEALTH_OK; the record rolls back and the image-loading reset follows. -/
  | healthTmo
  /-- R270: A write to SYS.ROLLBACK swaps CUR and PREV and performs the image-loading reset, or sets ACT_ERR. -/
  | rollback
  /-- R273: A write to a channel data word by its bound sender, refused while FULL or unbound. Operands: the writing master, the channel, the word and the dword. -/
  | mbxDataWrite (master : Nat) (user : Bool) (n i value : Nat)
  /-- R273: A doorbell write sets FULL and LEN and rings the receiver. Operands: the writing master, the channel and the dword. -/
  | doorbell (master : Nat) (user : Bool) (n value : Nat)
  /-- R274: The bound receiver's read of word LEN − 1 clears FULL and sets TAKEN. Operands: the reading master and the channel, of which it reads word LEN − 1. -/
  | mbxTake (master : Nat) (user : Bool) (n : Nat)
  /-- R272: A write to MBX.BIND[n] binds or unbinds a channel, or is refused with BIND_ERR. Operands: the writing master, the channel and the dword. -/
  | bind (master : Nat) (user : Bool) (n value : Nat)
  /-- R280: A read of MBX.LOCK[n] grants a free lock or returns the owner plus one. Operands: the reading master, the lock and the masters whose reads coincide with its own. -/
  | mbxLockAcquire (master : Nat) (user : Bool) (n : Nat) (rivals : List Nat)
  /-- R281: A write of MBX.LOCK[n] by its owner releases it; by another master sets LOCK_ERR. Operands: the writing master and the lock. -/
  | mbxLockRelease (master : Nat) (user : Bool) (n : Nat)
  /-- R278: A PCIe function-level reset resets that master, releasing its locks and setting RESET_SEEN bits. Operand: the function 0 to 7. -/
  | functionLevelReset (f : Nat)
  /-- R339: A post to receiver PEER arrives at the partner and is posted on the same channel there. Operands: the channel and the words of the post. -/
  | peerPost (n : Nat) (words : List Nat)
  /-- R284: A write to PMC.CNT_LO[i] loads the counter with the staged and written values. Operands: the writing master, the counter and the dword. -/
  | cntLoWrite (master i value : Nat)
  /-- R284: A write to PMC.CNT_HI[i] stages the upper bits for the writing master. Operands: the writing master, the counter and the dword. -/
  | cntHiWrite (master i value : Nat)
  /-- R289: A watched counter wraps; OVF_STAT and OVF are set and a sample is taken. Operand: the counter. -/
  | pmcOverflow (i : Nat)
  /-- R288: The random-tagging gap runs out and an instruction is picked to follow, or skipped. Operands: the engine and thread picked, its privilege, the opcode, whether it is tagged, its PC and tag. -/
  | samplePick (engine thread super op tagged pc tag : Nat)
  /-- R290: A followed sample is complete and its record enters the ring and trace, or is dropped. Operands: none for the picked instruction, else the overflow source; and what was seen of the instruction. -/
  | sampleRecord (src : Option Nat) (x : Followed)
  /-- R290: A write of PMC.SMP_POP releases the oldest sample record. -/
  | smpPop
  /-- R287: After the sample in progress completes, the sampling method changes and MODE_CHG is set. -/
  | methodChange
  /-- R294: The HKA timer reaches PERIOD ticks. -/
  | hkaTimer
  /-- R294: A write of HKA.SEQ_GO is the software trigger of the sequence. -/
  | seqGo
  /-- R294: The sequence delay of DELAY ticks ends and entry 0 is converted. -/
  | delayEnd
  /-- R297: A conversion ends, its result is written and the next conversion is chosen by priority. Operand: the converter's code before saturation. -/
  | conversionEnd (code : Int)
  /-- R296: An injected conversion request, by write or trigger, is made pending or refused. -/
  | injGo
  /-- R293: Each millisecond HKA scans the die sensors and updates DIE_TEMP and DIE_HOT. -/
  | backgroundScan
  /-- R298: HKA's own 512-conversion calibration ends and the suspended sequence resumes. Operand: the sum of the 512 codes. -/
  | hkaCalDone (sum : Int)
  /-- R301: A PWM period starts; pending writes and the dither sign take effect. Operand: the PWM output. -/
  | pwmPeriodStart (p : Nat)
  /-- R301: A PWM output reaches its compare tick and falls. Operand: the PWM output. -/
  | pwmCompare (p : Nat)
  /-- R303: An FLT channel takes a new input sample from its source. Operands: the channel and, of a monitor tap, the sum of squares over its block. -/
  | fltSample (f sum : Nat)
  /-- R308: The CIC produces an output and the FIR and detectors update. Operand: the channel. -/
  | fltOutput (f : Nat)
  /-- R309: A restarted channel's step response has passed and VALID rises. Operand: the channel. -/
  | fltValid (f : Nat)
  /-- R308: A write of CH_CTRL[f].SWAP starts or holds a coefficient cross-fade. Operand: the channel. -/
  | firSwap (f : Nat)
  /-- R308: A cross-fade ends; BANK toggles and FADE_DONE is set. Operand: the channel. -/
  | firFadeDone (f : Nat)
  /-- R309: A CH_CFG write that changes the chain restarts the channel. Operands: the channel and the dword written. -/
  | fltCfgWrite (f value : Nat)
  /-- R309: A PRESET write loads a preset configuration and ROM and restarts the channel. Operands: the channel and PRESET as written. -/
  | fltPreset (f preset : Nat)
  /-- R314: A write of LOOP_CFG[b].EN enables a loop from the target's value, or is refused when MIN > MAX. Operands: the loop and the dword written. -/
  | biasLoopEnable (b value : Nat)
  /-- R312: A write of LSR.SER_CMD[l] sends an MSA command frame, or is ignored when one is pending. Operands: the serial port and the dword written. -/
  | serCmd (l value : Nat)
  /-- R312: An MSA response frame arrives and is checked. Operands: the serial port and the frame. -/
  | serResponse (l frame : Nat)
  /-- R312: Every 1 ms LSR polls a pending frequency change until none is pending. Operands: the serial port and whether the operation is still pending. -/
  | serPoll (l : Nat) (waiting : Bool)
  /-- R312: No response arrives within 10 ms and SER_ERR is set. Operand: the serial port. -/
  | serTimeout (l : Nat)
  /-- R313: A host write to LSR.FT_OUT[i] sets the fine-tune code, or is ignored when owned. Operands: the fine-tune output and the dword written. -/
  | ftOutWrite (i value : Nat)
  /-- R313: A write to LSR.FT_CFG[i].GAIN_KHZ below 196 is refused with CFG_ERR. Operands: the fine-tune output and the dword written. -/
  | gainKhzWrite (i value : Nat)
  /-- R318: CAL.CTRL.GO_FULL starts a FULL calibration run, or is ignored with BUSY. -/
  | goFull
  /-- R318: CAL.CTRL.GO_TRACK starts a TRACK calibration run, or is ignored with BUSY. -/
  | goTrack
  /-- R325: The RETRY_S wait after a failed automatic run ends. -/
  | calRetryExpiry
  /-- R326: CAL.CTRL.ABORT abandons a run in its passes; values are kept. -/
  | calAbort
  /-- R317: The 1 ms sine check of the reference ends; on failure the run ends with NOREF. Operand: the tone seen, in mV peak-to-peak, 0 for none. -/
  | sineCheck (mvpp : Nat)
  /-- R319: A calibration pass over every element ends. -/
  | calPassEnd
  /-- R322: Both passes are done; agreement is judged and the run is applied or refused with CAL_DISAGREE. Operands: what the two passes measured of each ADC's sub-slices and of each DAC lane. -/
  | calRunEnd (adc : List (List SubSlice)) (dac : List DacLane)
  /-- R323: The calibration sector write ends; FLASH_BUSY clears or FLASH_ERR is set. Operand: whether the sector was written and verified. -/
  | calFlashDone (ok : Bool)
  /-- R328: BST.CTRL.GO runs the masked slices one at a time. Operand: MASK as written. -/
  | bistGo (mask : Nat)
  /-- R328: BST.CTRL.ABORT ends the slice in progress as ABORTED. -/
  | bistAbort
  /-- R328: A self-test slice ends with its result and the next slice of the mask starts. Operands: 1 PASS, 2 FAIL; the detail and the time in 100 µs. -/
  | sliceEnd (result detail elapsed : Nat)
  /-- R327: A slice exceeds its budget and ends TIMEOUT. -/
  | sliceTimeout
  /-- R329: A write of BST.CTRL.OVERRIDE releases the safe state in MANUFACTURE or RETURNED. Operand: OVERRIDE as written. -/
  | override (value : Nat)
  /-- R332: A write of LCM.TRANS is judged and, if permitted, fuse programming starts. Operands: the writing master and the dword. -/
  | lcmTransition (master value : Nat)
  /-- R332: Fuse programming completes; SCRAPPED takes effect or an image-loading reset follows. -/
  | fuseDone
  /-- R333: LCM.KEY_CTRL.COMMIT burns a staged key hash into a slot, or is refused. Operand: the slot written with COMMIT. -/
  | keyCommit (k : Nat)
  /-- R333: LCM.KEY_CTRL.REVOKE marks a key slot revoked, or is refused. Operand: the slot written with REVOKE. -/
  | keyRevoke (k : Nat)
  /-- R334: A read of LCM.CHALLENGE word 0 renews the challenge if it is older than 10 minutes. Operand: the reading master. -/
  | challengeRead (master : Nat)
  /-- R340: PEER.CTRL.EN written 1 moves the device to LINKING. -/
  | peerEnable
  /-- R337: PEER.CTRL.EN written 0 fails the link and returns to OFF. -/
  | peerDisable
  /-- R337: All peer lanes lock and HELLO has matched for 100 ms; the link comes UP. Operand: what HELLO brings of the partner. -/
  | peerLinkUp (h : Hello)
  /-- R337: A peer lane loses lock, codewords fail or peer hold takes force; the link fails. Operands: bit i for peer lane i still locked; the uncorrectable codewords in a row. -/
  | peerLinkFail (locked codewords : Nat)
  /-- R337: No heartbeat arrives for 100 µs and the link fails. -/
  | heartbeatTmo
  /-- R340: With SOLO_OK and no link within LINK_WAIT_S the device becomes ACTIVE_ALONE. -/
  | linkWaitExpiry
  /-- R340: PEER.CTRL.FORCE_ACTIVE moves LINKING to ACTIVE_ALONE. -/
  | forceActive
  /-- R343: The bulk copy completes and the device enters STANDBY. -/
  | syncDone
  /-- R343: A mirror record is applied whole on the standby as master 96. Operands: the kind of record, its words and the time in ns. -/
  | mirrorRecord (kind : Nat) (words : List Nat) (now : Nat := 0)
  /-- R344: PEER.CTRL.SWITCH starts a handover, or is refused with SWITCH_REFUSED. Operand: whether SWITCH was written at the partner. -/
  | switch (remote : Bool)
  /-- R344: On the active a safe state, a mute held MUTE_MS or an LTX disable starts a handover. Operand: how long a transmit mute has been held, in milliseconds. -/
  | activeFault (ms : Nat)
  /-- R344: On the standby the link is failed and upstream dark for DARK_MS; it takes over. Operand: how long the link has been failed and the upstream dark, in milliseconds. -/
  | partnerLost (ms : Nat)
  /-- R345: The standby receives HANDOVER and takes over. Operand: the trigger that the message names. -/
  | handover (trig : Nat)
  /-- R345: LASER_MS after takeover the new active releases MUTE. -/
  | laserSettled
  /-- R347: The standby averages a leaf's arrival error, computes its EqD and sends it to the active if it differs. Operands: the leaf; on the standby its averaged arrival error in 0.1 ns; on the active the EqD the standby sends. -/
  | eqdMeasure (l : Nat) (e : Int) (eqd : Nat)
  /-- R351: A rail is below its threshold and power-on reset is held. Operand: a mask of the rails below their thresholds. -/
  | powerOnReset (rails : Nat)
  /-- R351: A rail falls below its threshold for 1 µs while running and causes a power-on reset. Operand: the rail. -/
  | railDrop (r : Nat)
  /-- R351: A rail falls below its warning level and RAIL_WARN is set. Operand: the rail. -/
  | railWarn (r : Nat)
  /-- R351: Every rail has stayed up 10 ms with RESET_N high and reset is released. -/
  | resetRelease
  /-- R354: RESET_N held low for 1 µs causes a cold reset. -/
  | resetN
  /-- R354: PCIe PERST# causes a cold or warm reset, or an endpoint-only reset, by PERST_MODE. -/
  | perst
  /-- R354: SYS.RESET written with WARM and the key performs a warm device reset. Operand: the dword written to SYS.RESET. -/
  | warmReset (value : Nat)
  /-- R354: A warm reset that loads an image, after activation, rollback, trial expiry or a life-cycle transition. -/
  | imageLoadingReset
  /-- R356: A write of SYS.SOFT_RST resets each selected block to its disabled reset state. Operand: the dword written to SYS.SOFT_RST. -/
  | softReset (mask : Nat)
  /-- R356: A block's soft reset completes and held accesses are performed. Operand: the block. -/
  | softResetDone (b : Nat)
  /-- R357: After a device reset boot runs its phases to OPEN or FAILED. Operand: bit 0 where pass 2 of slot CUR reads another CRC than pass 1, bit 1 where that of PREV does. -/
  | boot (misread : Nat)
  /-- R353: A host write to PWR.AVS_SET makes one AVSBus request, or is refused. Operand: the dword written. -/
  | avsSet (value : Nat)
  /-- R352: Every 10 µs PWR reads VOUT of a pending request. Operand: VOUT as read, in millivolts. -/
  | avsPoll (mv : Nat)
  /-- R352: A VOUT read lies within TOL_MV of the target and the request is acknowledged. Operand: VOUT as read, in millivolts. -/
  | avsAck (mv : Nat)
  /-- R352: A request is not acknowledged within TMO; AVS_FAIL is set. -/
  | avsTimeout
  /-- R353: A write of PWR.PMB_CMD.GO runs one PMBus read or write word. Operand: the dword written. -/
  | pmbCmd (value : Nat)
  /-- R361: A REST entry request is judged and, if not refused, REST entry begins. -/
  | restEnter
  /-- R362: Paths stop, QDR enters retention, VRET is requested and STATE becomes REST. -/
  | restEntryDone
  /-- R364: A wake event, by write, VLK schedule or masked interrupt, starts the wake sequence. Operand: 0 the host's write, 1 the Voluman schedule, 2 an interrupt that the mask names. -/
  | restWake (source : Nat)
  /-- R364: The wake sequence completes; STATE becomes AWAKE and REST_EXITED is set. Operands: the time the wake took and the re-centring of each QDR port. -/
  | restExitDone (us : Nat) (moves : List (List Nat))
  /-- R360: A BOOT flash READ reads 1 to 64 words. Operand: LEN; the address stands in FL_ADDR. -/
  | flRead (len : Nat)
  /-- R360: A BOOT flash PROGRAM writes words within a page, or is refused. Operand: LEN; the words stand in FL_DATA. -/
  | flProgram (len : Nat)
  /-- R360: A BOOT flash ERASE erases a 64 KiB sector, or is refused. -/
  | flErase
  /-- R360: A flash command completes and BUSY clears. Operand: whether the device read back what was meant. -/
  | flDone (verify : Bool)
  /-- R46: The DAC or ADC clock from SYN locks at its FS_MHZ, and CVT.DAC_STAT.CLK_LOCK or CVT.ADC_STAT.CLK_LOCK rises, with READY following once the converter is powered and calibrated. Operand: the DAC clock, else the ADC clock. -/
  | converterClockLock (dac : Bool)
  /-- R61: After LOS clears within HOLD_MS, carrier phase is re-acquired within 256 subcarrier symbols and the LLRs become valid again. -/
  | phaseReacquired
  /-- R245: No PPS_IN edge has arrived for 1.1 s and SYN.PPS_IN_ERR.VALID falls to 0. Operand: the milliseconds since the last PPS_IN edge. -/
  | ppsInValidExpiry (ms : Nat)
  /-- R353: A PMBus read or write word transaction started by PWR.PMB_CMD.GO completes; GO reads 0, and PMB_DATA and NACK are updated. Operands: the word read and whether the transaction was not acknowledged. -/
  | pmbCmdDone (data nack : Nat)
  /-- R290: A sample record's trace write is not granted QDR bandwidth within 10 µs; it is dropped, SMP_DROP.TRACE counts it and INT_CAUSE.SMP_DROP is set. -/
  | traceWriteTimeout
  deriving DecidableEq, Repr

end Sys2Proof
end

