-- ==== Sys2Proof/Config.lean ====
section
/-! DEFINITION. Sys2Proof/Config.lean: what the spec leaves open or takes from a published standard it does not restate: opaque
constants, so that nothing can be proved about their values. -/
namespace Sys2Proof.Config

/-- A value the spec leaves open (notes/assumptions/2.md). The machine applies it to a counter it holds, so that every use is a
fresh value. -/
opaque freeValue : Nat → Nat

/-- The error of the CIC's normalised gain at an order and a decimation, in units of 2^-63; the machine bounds it below 2^-16 (R304,
notes/assumptions/2.md). -/
opaque cicGain : Nat → Nat → Nat

/-- Word i of the calibration set that the factory wrote for this part (R6, R324; notes/assumptions/13.md). -/
opaque factorySet : Nat → Nat

/-- Tap t of the compensation ROM of an FLT preset (R309, notes/assumptions/2.md). -/
opaque compensationRom : Nat → Nat → Nat

/-- The normalisation of the min-sum decoder at a rate, in 1/256 (R90 names no value; notes/assumptions/2.md). -/
opaque minSumScale : Nat → Nat

/-- The target that the gain of a burst channel tracks towards, in 0.1 dBL (R128 names no value; notes/assumptions/2.md). -/
opaque ibexTarget : Int

/-- One update of the loop that steers a client's NCO (R186 gives its order, inputs and bandwidth only): bandwidth in Hz, the offset in
0.001 ppm, the integrator, J and the fill of the buffer; the new offset and integrator (notes/assumptions/2.md). -/
opaque adaptiveLoop : Nat → Int → Nat → Int → Nat → Int × Nat

/-- Passes that the staircase decoder makes over its window (R90 names no number; notes/assumptions/2.md). -/
opaque staircasePasses : Nat

end Sys2Proof.Config
end

