-- ==== Sys2Proof/Machine/Bits.lean ====
section
/-! DEFINITION. Sys2Proof/Machine/Bits.lean: bit fields, two's complement and the small arithmetic the meanings share. -/
namespace Sys2Proof.Machine

/-- The `w`-bit two's-complement number that `n` spells. -/
def signed (w n : Nat) : Int :=
  let m := n % 2 ^ w
  if m < 2 ^ (w - 1) then (m : Int) else (m : Int) - (2 ^ w : Nat)

/-- The `w`-bit pattern of an integer. -/
def unsigned (w : Nat) (x : Int) : Nat := (x % ((2 ^ w : Nat) : Int)).toNat

/-- Bits `lo` to `lo + w - 1` of `n`. -/
def slice (n lo w : Nat) : Nat := (n >>> lo) % 2 ^ w

/-- Bit `b` of `n` set. -/
def withBit (n b : Nat) : Nat := n ||| (1 <<< b)

/-- Bit `b` of `n` cleared. -/
def withoutBit (n b : Nat) : Nat := if n.testBit b then n - 2 ^ b else n

/-- A number limited to `hi`. -/
def atMost (hi n : Nat) : Nat := if n ≤ hi then n else hi

/-- An integer limited to `lo` to `hi`. -/
def clampInt (lo hi x : Int) : Int := if x < lo then lo else if hi < x then hi else x

/-- Division rounded up. -/
def ceilDiv (a b : Nat) : Nat := if b = 0 then 0 else (a + b - 1) / b

/-- Division rounded to the nearest, ties away from zero. -/
def roundDiv (a b : Nat) : Nat := if b = 0 then 0 else (2 * a + b) / (2 * b)

/-- Integer division rounded to the nearest, ties away from zero. -/
def roundDivInt (a : Int) (b : Nat) : Int :=
  if a < 0 then -((roundDiv a.natAbs b : Nat) : Int) else ((roundDiv a.natAbs b : Nat) : Int)

/-- The number of one bits below bit `w`. -/
def popBits : Nat → Nat → Nat
  | 0, _ => 0
  | w + 1, n => (if n.testBit w then 1 else 0) + popBits w n

/-- A Bool as 0 or 1. -/
def b01 (b : Bool) : Nat := if b then 1 else 0

end Sys2Proof.Machine
end

