-- ==== Sys2Proof/Machine/Fields.lean ====
section
/-! DEFINITION. Sys2Proof/Machine/Fields.lean: every register field the spec names, one definition each, written from the
field maps of spec/00 to spec/17 and the register index of spec/19 (Table SYS-13, Table SYS-14): the register's address and
element strides, the field's bits, its access code (Table SYS-3) and its reset value (Table SYS-15). -/
namespace Sys2Proof.Machine

/-- Access codes of Table SYS-3 (R7). -/
inductive Access where
  | rw | ro | wo | w1c | w1s | rc | rwl | rws
  deriving DecidableEq, Repr

/-- Where a register, or an array of up to three indices of it, lies: the byte address of element 0, and for each index
how many elements it has and how many bytes apart they stand. Engine windows (64 lane engines and the supervisor, engine 64)
are given addresses from 0x100_0000, above the 16 MiB register space, at `engineWindow` + 0x4000 × n (`canonAddr`). -/
structure Shape where
  addr : Nat
  n1 : Nat
  d1 : Nat
  n2 : Nat
  d2 : Nat
  n3 : Nat
  d3 : Nat
  deriving DecidableEq, Repr

def shape0 (a : Nat) : Shape := ⟨a, 1, 0, 1, 0, 1, 0⟩
def shape1 (a n1 d1 : Nat) : Shape := ⟨a, n1, d1, 1, 0, 1, 0⟩
def shape2 (a n1 d1 n2 d2 : Nat) : Shape := ⟨a, n1, d1, n2, d2, 1, 0⟩
def shape3 (a n1 d1 n2 d2 n3 d3 : Nat) : Shape := ⟨a, n1, d1, n2, d2, n3, d3⟩

/-- One field of a register. `resetTab` lists the reset values of the first elements of the last index, where the field map
gives one value per element; every other element resets to `reset`. -/
structure Field where
  shape : Shape
  lo : Nat
  width : Nat
  access : Access
  reset : Nat
  resetTab : List Nat
  deriving DecidableEq, Repr

def fld (s : Shape) (lo w : Nat) (a : Access) : Field := ⟨s, lo, w, a, 0, []⟩
def fldR (s : Shape) (lo w : Nat) (a : Access) (r : Nat) : Field := ⟨s, lo, w, a, r, []⟩
def fldT (s : Shape) (lo w : Nat) (a : Access) (r : Nat) (t : List Nat) : Field := ⟨s, lo, w, a, r, t⟩

/-- The byte address of an element of a register. -/
def Shape.at (s : Shape) (i j k : Nat) : Nat := s.addr + i * s.d1 + j * s.d2 + k * s.d3

/-- The indices name an element that exists. -/
def Shape.has (s : Shape) (i j k : Nat) : Bool := decide (i < s.n1) && decide (j < s.n2) && decide (k < s.n3)

/-- The key a field's value is held under: the bit address of its lowest bit. -/
def Field.key (f : Field) (i j k : Nat) : Nat := f.shape.at i j k * 8 + f.lo

/-- The last index a field's register has, by which its reset value may vary. -/
def Field.lastIndex (f : Field) (i j k : Nat) : Nat :=
  if f.shape.d3 ≠ 0 then k else if f.shape.d2 ≠ 0 then j else i

/-- The value after power-on reset (R9). -/
def Field.resetAt (f : Field) (i j k : Nat) : Nat := f.resetTab.getD (f.lastIndex i j k) f.reset

/-! ### SYS (spec/17, register index in spec/19_register_index.md Table SYS-14) -/

def S.SYS_ID : Shape := shape0 0x0
def F.SYS_ID_PART : Field := fldR S.SYS_ID 0 16 .ro 12822
def F.SYS_ID_DIE_REV : Field := fldR S.SYS_ID 16 8 .ro 1
def S.SYS_ROLE : Shape := shape0 0x4
def F.SYS_ROLE_ROLE : Field := fld S.SYS_ROLE 0 2 .ro
def S.SYS_STAT : Shape := shape0 0x8
def F.SYS_STAT_PHASE : Field := fld S.SYS_STAT 0 3 .ro
def F.SYS_STAT_HOST_OPEN : Field := fld S.SYS_STAT 3 1 .ro
def S.SYS_LOCK : Shape := shape0 0xC
def F.SYS_LOCK_LOCK : Field := fld S.SYS_LOCK 0 1 .w1s
def S.SYS_INT_CAUSE : Shape := shape0 0x10
def F.SYS_INT_CAUSE_ROLE_LIMIT : Field := fld S.SYS_INT_CAUSE 0 1 .w1c
def F.SYS_INT_CAUSE_BOOT_DONE : Field := fld S.SYS_INT_CAUSE 1 1 .w1c
def S.SYS_INT_MASK : Shape := shape0 0x14
def F.SYS_INT_MASK_MASK : Field := fld S.SYS_INT_MASK 0 2 .rw
def S.SYS_INT_SUMMARY : Shape := shape0 0x18
def F.SYS_INT_SUMMARY_BLK : Field := fld S.SYS_INT_SUMMARY 0 26 .ro
def S.SYS_RESET : Shape := shape0 0x20
def F.SYS_RESET_WARM : Field := fld S.SYS_RESET 0 1 .wo
def F.SYS_RESET_KEY : Field := fld S.SYS_RESET 16 16 .wo
def S.SYS_SOFT_RST : Shape := shape0 0x24
def F.SYS_SOFT_RST_BLK : Field := fld S.SYS_SOFT_RST 0 26 .w1s
def S.SYS_RST_CFG : Shape := shape0 0x28
def F.SYS_RST_CFG_PERST_MODE : Field := fld S.SYS_RST_CFG 0 2 .rws
def S.SYS_RST_CAUSE : Shape := shape0 0x2C
def F.SYS_RST_CAUSE_SRC : Field := fldR S.SYS_RST_CAUSE 0 3 .ro 1
def F.SYS_RST_CAUSE_RAIL : Field := fld S.SYS_RST_CAUSE 3 6 .ro
def S.SYS_ROLLBACK : Shape := shape0 0x30
def F.SYS_ROLLBACK_GO : Field := fld S.SYS_ROLLBACK 0 1 .w1s
def S.SYS_VEC_MAP : Shape := shape1 0x100 26 0x4
def F.SYS_VEC_MAP_VEC : Field := fldT S.SYS_VEC_MAP 0 6 .rw 0 [0, 1, 2, 3, 4, 5, 6, 7, 8, 9, 10, 11, 12, 13, 14, 15, 16, 17, 18, 19, 20, 21, 22, 23, 24, 25]

/-! ### BOOT (spec/17, register index in spec/19_register_index.md Table SYS-14) -/

def S.BOOT_STAT : Shape := shape0 0x10000
def F.BOOT_STAT_ERR : Field := fld S.BOOT_STAT 0 3 .ro
def F.BOOT_STAT_DESC_OK : Field := fld S.BOOT_STAT 3 1 .ro
def F.BOOT_STAT_SPI_MHZ : Field := fldR S.BOOT_STAT 8 8 .ro 12
def S.BOOT_FL_CMD : Shape := shape0 0x10010
def F.BOOT_FL_CMD_OP : Field := fld S.BOOT_FL_CMD 0 2 .rw
def F.BOOT_FL_CMD_LEN : Field := fldR S.BOOT_FL_CMD 2 7 .rw 1
def F.BOOT_FL_CMD_GO : Field := fld S.BOOT_FL_CMD 31 1 .w1s
def S.BOOT_FL_ADDR : Shape := shape0 0x10014
def F.BOOT_FL_ADDR_ADDR : Field := fld S.BOOT_FL_ADDR 0 24 .rw
def S.BOOT_FL_STAT : Shape := shape0 0x10018
def F.BOOT_FL_STAT_BUSY : Field := fld S.BOOT_FL_STAT 0 1 .ro
def F.BOOT_FL_STAT_ERR : Field := fld S.BOOT_FL_STAT 1 3 .ro
def S.BOOT_FL_DATA : Shape := shape1 0x10100 64 0x4
def F.BOOT_FL_DATA_DATA : Field := fld S.BOOT_FL_DATA 0 32 .rw

/-! ### LCM (spec/15, register index in spec/19_register_index.md Table SYS-14) -/

def S.LCM_STATE : Shape := shape0 0x20000
def F.LCM_STATE_STATE : Field := fld S.LCM_STATE 0 3 .ro
def S.LCM_TRANS : Shape := shape0 0x20004
def F.LCM_TRANS_TARGET : Field := fld S.LCM_TRANS 0 3 .wo
def F.LCM_TRANS_KEY : Field := fld S.LCM_TRANS 3 2 .wo
def F.LCM_TRANS_CONFIRM : Field := fld S.LCM_TRANS 16 16 .wo
def S.LCM_STAT : Shape := shape0 0x20008
def F.LCM_STAT_BUSY : Field := fld S.LCM_STAT 0 1 .ro
def F.LCM_STAT_ERR : Field := fld S.LCM_STAT 1 3 .ro
def S.LCM_INT_CAUSE : Shape := shape0 0x20010
def F.LCM_INT_CAUSE_DONE : Field := fld S.LCM_INT_CAUSE 0 1 .w1c
def F.LCM_INT_CAUSE_REFUSED : Field := fld S.LCM_INT_CAUSE 1 1 .w1c
def S.LCM_INT_MASK : Shape := shape0 0x20014
def F.LCM_INT_MASK_MASK : Field := fld S.LCM_INT_MASK 0 2 .rw
def S.LCM_KEY_CTRL : Shape := shape0 0x20018
def F.LCM_KEY_CTRL_SLOT : Field := fld S.LCM_KEY_CTRL 0 2 .rw
def F.LCM_KEY_CTRL_COMMIT : Field := fld S.LCM_KEY_CTRL 2 1 .w1s
def F.LCM_KEY_CTRL_REVOKE : Field := fld S.LCM_KEY_CTRL 3 1 .w1s
def S.LCM_KEY_STAT : Shape := shape0 0x2001C
def F.LCM_KEY_STAT_WRITTEN : Field := fld S.LCM_KEY_STAT 0 4 .ro
def F.LCM_KEY_STAT_REVOKED : Field := fld S.LCM_KEY_STAT 4 4 .ro
def S.LCM_DEV_ID : Shape := shape1 0x20020 2 0x4
def F.LCM_DEV_ID_VAL : Field := fld S.LCM_DEV_ID 0 32 .ro
def S.LCM_CHALLENGE : Shape := shape1 0x20030 4 0x4
def F.LCM_CHALLENGE_VAL : Field := fld S.LCM_CHALLENGE 0 32 .ro
def S.LCM_AUTH : Shape := shape1 0x20040 48 0x4
def F.LCM_AUTH_DATA : Field := fld S.LCM_AUTH 0 32 .wo
def S.LCM_KEY_HASH : Shape := shape2 0x20100 4 0x40 12 0x4
def F.LCM_KEY_HASH_DATA : Field := fld S.LCM_KEY_HASH 0 32 .rw

/-! ### PWR (spec/01, 17, register index in spec/19_register_index.md Table SYS-14) -/

def S.PWR_INT_CAUSE : Shape := shape0 0x30010
def F.PWR_INT_CAUSE_SLACK : Field := fld S.PWR_INT_CAUSE 0 1 .w1c
def F.PWR_INT_CAUSE_AVS_REFUSED : Field := fld S.PWR_INT_CAUSE 1 1 .w1c
def F.PWR_INT_CAUSE_REST_ENTERED : Field := fld S.PWR_INT_CAUSE 2 1 .w1c
def F.PWR_INT_CAUSE_REST_EXITED : Field := fld S.PWR_INT_CAUSE 3 1 .w1c
def F.PWR_INT_CAUSE_REST_REFUSED : Field := fld S.PWR_INT_CAUSE 4 1 .w1c
def F.PWR_INT_CAUSE_WAKE_HELD : Field := fld S.PWR_INT_CAUSE 5 1 .w1c
def F.PWR_INT_CAUSE_RAIL_WARN : Field := fld S.PWR_INT_CAUSE 6 1 .w1c
def S.PWR_INT_MASK : Shape := shape0 0x30014
def F.PWR_INT_MASK_MASK : Field := fld S.PWR_INT_MASK 0 7 .rw
def S.PWR_AVS_CFG : Shape := shape0 0x30020
def F.PWR_AVS_CFG_CLK : Field := fldR S.PWR_AVS_CFG 0 2 .rw 2
def F.PWR_AVS_CFG_RAIL : Field := fld S.PWR_AVS_CFG 2 2 .rw
def F.PWR_AVS_CFG_TMO : Field := fldR S.PWR_AVS_CFG 4 8 .rw 50
def F.PWR_AVS_CFG_TOL_MV : Field := fldR S.PWR_AVS_CFG 12 4 .rw 10
def S.PWR_AVS_SET : Shape := shape0 0x30024
def F.PWR_AVS_SET_MV : Field := fldR S.PWR_AVS_SET 0 10 .rw 850
def S.PWR_AVS_READ : Shape := shape0 0x30028
def F.PWR_AVS_READ_MV : Field := fld S.PWR_AVS_READ 0 10 .ro
def F.PWR_AVS_READ_BUSY : Field := fld S.PWR_AVS_READ 16 1 .ro
def S.PWR_PMB_CMD : Shape := shape0 0x30030
def F.PWR_PMB_CMD_CODE : Field := fld S.PWR_PMB_CMD 0 8 .rw
def F.PWR_PMB_CMD_ADDR : Field := fld S.PWR_PMB_CMD 8 7 .rw
def F.PWR_PMB_CMD_READ : Field := fld S.PWR_PMB_CMD 15 1 .rw
def F.PWR_PMB_CMD_GO : Field := fld S.PWR_PMB_CMD 31 1 .w1s
def S.PWR_PMB_DATA : Shape := shape0 0x30034
def F.PWR_PMB_DATA_DATA : Field := fld S.PWR_PMB_DATA 0 16 .rw
def F.PWR_PMB_DATA_NACK : Field := fld S.PWR_PMB_DATA 16 1 .ro
def S.PWR_REST_CTRL : Shape := shape0 0x30040
def F.PWR_REST_CTRL_ENTER : Field := fld S.PWR_REST_CTRL 0 1 .w1s
def F.PWR_REST_CTRL_WAKE : Field := fld S.PWR_REST_CTRL 1 1 .w1s
def S.PWR_REST_CFG : Shape := shape0 0x30044
def F.PWR_REST_CFG_VRET_MV : Field := fldR S.PWR_REST_CFG 0 10 .rw 600
def S.PWR_REST_WAKE_MASK : Shape := shape0 0x30048
def F.PWR_REST_WAKE_MASK_BLK : Field := fld S.PWR_REST_WAKE_MASK 0 26 .rw
def S.PWR_REST_STAT : Shape := shape0 0x3004C
def F.PWR_REST_STAT_STATE : Field := fld S.PWR_REST_STAT 0 2 .ro
def F.PWR_REST_STAT_WAKE_HELD : Field := fld S.PWR_REST_STAT 2 1 .ro
def F.PWR_REST_STAT_ERR : Field := fld S.PWR_REST_STAT 3 3 .ro
def F.PWR_REST_STAT_WAKE_US : Field := fld S.PWR_REST_STAT 16 8 .ro
def S.PWR_RAIL_STAT : Shape := shape0 0x30050
def F.PWR_RAIL_STAT_GOOD : Field := fld S.PWR_RAIL_STAT 0 6 .ro
def F.PWR_RAIL_STAT_WARN : Field := fld S.PWR_RAIL_STAT 8 6 .w1c
def S.PWR_SLACK_CTRL : Shape := shape0 0x30100
def F.PWR_SLACK_CTRL_AVS_AUTO : Field := fldR S.PWR_SLACK_CTRL 0 1 .rw 1
def F.PWR_SLACK_CTRL_AVS_STEP : Field := fldR S.PWR_SLACK_CTRL 4 4 .rw 2
def F.PWR_SLACK_CTRL_SOFT_DWELL : Field := fldR S.PWR_SLACK_CTRL 8 8 .rw 10
def F.PWR_SLACK_CTRL_LOWER_DWELL : Field := fldR S.PWR_SLACK_CTRL 16 8 .rw 10
def F.PWR_SLACK_CTRL_AUTO_RELEASE : Field := fld S.PWR_SLACK_CTRL 24 1 .rw
def F.PWR_SLACK_CTRL_RELEASE : Field := fld S.PWR_SLACK_CTRL 25 1 .w1s
def F.PWR_SLACK_CTRL_HYST : Field := fldR S.PWR_SLACK_CTRL 26 4 .rw 4
def S.PWR_SLACK_STAT : Shape := shape0 0x30104
def F.PWR_SLACK_STAT_LOW : Field := fld S.PWR_SLACK_STAT 0 16 .w1c
def F.PWR_SLACK_STAT_HARD : Field := fld S.PWR_SLACK_STAT 16 16 .w1c
def S.PWR_VMIN : Shape := shape0 0x30108
def F.PWR_VMIN_VMIN_MV : Field := fldR S.PWR_VMIN 0 10 .ro 840
def F.PWR_VMIN_VREQ_MV : Field := fldR S.PWR_VMIN 16 10 .ro 850
def S.PWR_SAFE_STAT : Shape := shape0 0x3010C
def F.PWR_SAFE_STAT_TX_MUTED : Field := fld S.PWR_SAFE_STAT 0 1 .ro
def F.PWR_SAFE_STAT_RX_SAFE : Field := fld S.PWR_SAFE_STAT 1 1 .ro
def F.PWR_SAFE_STAT_UP_SAFE : Field := fld S.PWR_SAFE_STAT 2 1 .ro
def F.PWR_SAFE_STAT_PEER_HELD : Field := fld S.PWR_SAFE_STAT 3 1 .ro
def F.PWR_SAFE_STAT_AVS_CEILING : Field := fld S.PWR_SAFE_STAT 4 1 .w1c
def F.PWR_SAFE_STAT_AVS_FAIL : Field := fld S.PWR_SAFE_STAT 5 1 .w1c
def F.PWR_SAFE_STAT_RELEASE_REFUSED : Field := fld S.PWR_SAFE_STAT 6 1 .w1c
def F.PWR_SAFE_STAT_CFG_ERR : Field := fld S.PWR_SAFE_STAT 7 1 .w1c
def S.PWR_SLACK_CFG : Shape := shape1 0x30140 16 0x4
def F.PWR_SLACK_CFG_SOFT : Field := fldR S.PWR_SLACK_CFG 0 6 .rw 8
def F.PWR_SLACK_CFG_HARD : Field := fldR S.PWR_SLACK_CFG 8 6 .rwl 2
def S.PWR_SLACK_LVL : Shape := shape1 0x30180 16 0x4
def F.PWR_SLACK_LVL_NOW : Field := fldR S.PWR_SLACK_LVL 0 6 .ro 32
def F.PWR_SLACK_LVL_MIN : Field := fldR S.PWR_SLACK_LVL 8 6 .rc 32
def F.PWR_SLACK_LVL_HARD_CNT : Field := fld S.PWR_SLACK_LVL 16 8 .rc
def F.PWR_SLACK_LVL_UNDERRUN : Field := fld S.PWR_SLACK_LVL 24 8 .rc

/-! ### ENG (spec/12, register index in spec/19_register_index.md Table SYS-14) -/

def S.ENG_CTRL : Shape := shape1 0x1000000 65 0x4000
def F.ENG_CTRL_RESET : Field := fld S.ENG_CTRL 0 1 .w1s
def F.ENG_CTRL_START : Field := fld S.ENG_CTRL 1 4 .w1s
def F.ENG_CTRL_STOP : Field := fld S.ENG_CTRL 5 4 .w1s
def S.ENG_STAT : Shape := shape1 0x1000004 65 0x4000
def F.ENG_STAT_LOADED : Field := fld S.ENG_STAT 0 1 .ro
def F.ENG_STAT_RUNNING : Field := fld S.ENG_STAT 1 4 .ro
def F.ENG_STAT_FAULTED : Field := fld S.ENG_STAT 5 4 .ro
def F.ENG_STAT_TAGS_USED : Field := fld S.ENG_STAT 9 9 .ro
def F.ENG_STAT_INFLIGHT : Field := fld S.ENG_STAT 18 9 .ro
def S.ENG_CFG : Shape := shape1 0x1000008 65 0x4000
def F.ENG_CFG_ACC_TMO : Field := fldR S.ENG_CFG 0 16 .rw 1000
def S.ENG_INT_CAUSE : Shape := shape1 0x1000010 65 0x4000
def F.ENG_INT_CAUSE_FAULT : Field := fld S.ENG_INT_CAUSE 0 1 .w1c
def F.ENG_INT_CAUSE_HALT : Field := fld S.ENG_INT_CAUSE 1 1 .w1c
def F.ENG_INT_CAUSE_ABORT : Field := fld S.ENG_INT_CAUSE 2 1 .w1c
def F.ENG_INT_CAUSE_MEM_REFUSED : Field := fld S.ENG_INT_CAUSE 3 1 .w1c
def F.ENG_INT_CAUSE_SPILL_LOST : Field := fld S.ENG_INT_CAUSE 4 1 .w1c
def F.ENG_INT_CAUSE_ACT_ERR : Field := fld S.ENG_INT_CAUSE 5 1 .w1c
def S.ENG_INT_MASK : Shape := shape1 0x1000014 65 0x4000
def F.ENG_INT_MASK_MASK : Field := fld S.ENG_INT_MASK 0 6 .rw
def S.ENG_THR : Shape := shape2 0x1000020 65 0x4000 4 0x4
def F.ENG_THR_ENTRY : Field := fld S.ENG_THR 0 12 .rw
def F.ENG_THR_SUPER : Field := fld S.ENG_THR 12 1 .rw
def S.ENG_THR_STAT : Shape := shape2 0x1000030 65 0x4000 4 0x4
def F.ENG_THR_STAT_PC : Field := fld S.ENG_THR_STAT 0 12 .ro
def F.ENG_THR_STAT_STATE : Field := fld S.ENG_THR_STAT 12 3 .ro
def F.ENG_THR_STAT_CAUSE : Field := fld S.ENG_THR_STAT 15 3 .ro
def S.ENG_FLAGS : Shape := shape1 0x1000040 65 0x4000
def F.ENG_FLAGS_FLAG : Field := fld S.ENG_FLAGS 0 32 .rw
def S.ENG_QACC : Shape := shape1 0x1000048 65 0x4000
def F.ENG_QACC_FREE_R : Field := fld S.ENG_QACC 0 1 .rw
def F.ENG_QACC_FREE_W : Field := fld S.ENG_QACC 1 1 .rw
def F.ENG_QACC_LOG_R : Field := fld S.ENG_QACC 2 1 .rw
def S.ENG_UWIN : Shape := shape2 0x1000050 65 0x4000 4 0x4
def F.ENG_UWIN_BASE : Field := fld S.ENG_UWIN 0 12 .rw
def F.ENG_UWIN_PAGES : Field := fld S.ENG_UWIN 12 12 .rw
def F.ENG_UWIN_WRITE : Field := fld S.ENG_UWIN 24 1 .rw
def S.ENG_JRNL_HEAD : Shape := shape1 0x1000080 65 0x4000
def F.ENG_JRNL_HEAD_VAL : Field := fld S.ENG_JRNL_HEAD 0 20 .ro
def S.ENG_JRNL_SEQ : Shape := shape1 0x1000084 65 0x4000
def F.ENG_JRNL_SEQ_VAL : Field := fld S.ENG_JRNL_SEQ 0 20 .ro
def S.ENG_JRNL_IDX : Shape := shape1 0x1000088 65 0x4000
def F.ENG_JRNL_IDX_IDX : Field := fld S.ENG_JRNL_IDX 0 10 .rw
def S.ENG_JRNL_RD : Shape := shape2 0x1000090 65 0x4000 4 0x4
def F.ENG_JRNL_RD_DATA : Field := fld S.ENG_JRNL_RD 0 32 .ro
def S.ENG_MEM_ADDR : Shape := shape1 0x10000A0 65 0x4000
def F.ENG_MEM_ADDR_ADDR : Field := fld S.ENG_MEM_ADDR 0 15 .rw
def F.ENG_MEM_ADDR_SPACE : Field := fld S.ENG_MEM_ADDR 15 1 .rw
def S.ENG_MEM_DATA : Shape := shape1 0x10000A4 65 0x4000
def F.ENG_MEM_DATA_DATA : Field := fld S.ENG_MEM_DATA 0 32 .rw
def S.ENG_GREG : Shape := shape3 0x1000200 65 0x4000 4 0x80 32 0x4
def F.ENG_GREG_VAL : Field := fld S.ENG_GREG 0 32 .ro
def S.ENG_TAG : Shape := shape2 0x1001000 65 0x4000 256 0x4
def F.ENG_TAG_STATE : Field := fld S.ENG_TAG 0 3 .ro
def F.ENG_TAG_ALLOC : Field := fld S.ENG_TAG 3 1 .ro
def F.ENG_TAG_THREAD : Field := fld S.ENG_TAG 4 2 .ro
def F.ENG_TAG_AUTO : Field := fld S.ENG_TAG 6 1 .ro
def F.ENG_TAG_JIDX : Field := fld S.ENG_TAG 16 10 .ro

/-! ### SE (spec/12, register index in spec/19_register_index.md Table SYS-14) -/

def S.SE_IMG_STAT : Shape := shape0 0x1103000
def F.SE_IMG_STAT_SLOT : Field := fld S.SE_IMG_STAT 0 1 .ro
def F.SE_IMG_STAT_PREV_VALID : Field := fld S.SE_IMG_STAT 1 1 .ro
def F.SE_IMG_STAT_TRIAL : Field := fld S.SE_IMG_STAT 2 1 .ro
def F.SE_IMG_STAT_BOOT_FAIL : Field := fld S.SE_IMG_STAT 3 1 .ro
def F.SE_IMG_STAT_RB_CAUSE : Field := fld S.SE_IMG_STAT 4 2 .rws
def F.SE_IMG_STAT_TRIAL_LEFT : Field := fld S.SE_IMG_STAT 16 16 .ro
def S.SE_IMG_CTRL : Shape := shape0 0x1103004
def F.SE_IMG_CTRL_HEALTH_OK : Field := fld S.SE_IMG_CTRL 0 1 .w1s
def F.SE_IMG_CTRL_ACTIVATE : Field := fld S.SE_IMG_CTRL 1 1 .w1s
def F.SE_IMG_CTRL_SLOT : Field := fld S.SE_IMG_CTRL 2 1 .rw
def S.SE_IMG_VER : Shape := shape0 0x1103008
def F.SE_IMG_VER_VERSION : Field := fld S.SE_IMG_VER 0 32 .ro
def S.SE_PREV_VER : Shape := shape0 0x110300C
def F.SE_PREV_VER_VERSION : Field := fld S.SE_PREV_VER 0 32 .ro
def S.SE_SPILL_STAT : Shape := shape0 0x1103010
def F.SE_SPILL_STAT_COUNT : Field := fld S.SE_SPILL_STAT 0 16 .ro
def F.SE_SPILL_STAT_LOST : Field := fld S.SE_SPILL_STAT 16 16 .rws
def S.SE_SPILL_POP : Shape := shape0 0x1103014
def F.SE_SPILL_POP_POP : Field := fld S.SE_SPILL_POP 0 1 .w1s
def S.SE_SPILL_RD : Shape := shape1 0x1103020 4 0x4
def F.SE_SPILL_RD_DATA : Field := fld S.SE_SPILL_RD 0 32 .ro

/-! ### MBX (spec/13, register index in spec/19_register_index.md Table SYS-14) -/

def S.MBX_INT_CAUSE : Shape := shape0 0x200010
def F.MBX_INT_CAUSE_DOORBELL : Field := fld S.MBX_INT_CAUSE 0 1 .w1c
def F.MBX_INT_CAUSE_TAKEN : Field := fld S.MBX_INT_CAUSE 1 1 .w1c
def F.MBX_INT_CAUSE_POST_REFUSED : Field := fld S.MBX_INT_CAUSE 2 1 .w1c
def F.MBX_INT_CAUSE_BIND_ERR : Field := fld S.MBX_INT_CAUSE 3 1 .w1c
def F.MBX_INT_CAUSE_LOCK_ERR : Field := fld S.MBX_INT_CAUSE 4 1 .w1c
def F.MBX_INT_CAUSE_ACCESS_ERR : Field := fld S.MBX_INT_CAUSE 5 1 .w1c
def F.MBX_INT_CAUSE_RESET_SEEN : Field := fld S.MBX_INT_CAUSE 6 1 .w1c
def S.MBX_INT_MASK : Shape := shape0 0x200014
def F.MBX_INT_MASK_MASK : Field := fld S.MBX_INT_MASK 0 7 .rw
def S.MBX_DB_PEND : Shape := shape1 0x200020 2 0x4
def F.MBX_DB_PEND_CH : Field := fld S.MBX_DB_PEND 0 32 .w1c
def S.MBX_TAKEN_PEND : Shape := shape1 0x200028 2 0x4
def F.MBX_TAKEN_PEND_CH : Field := fld S.MBX_TAKEN_PEND 0 32 .w1c
def S.MBX_BIND : Shape := shape1 0x200100 64 0x4
def F.MBX_BIND_SENDER : Field := fld S.MBX_BIND 0 8 .rwl
def F.MBX_BIND_RECEIVER : Field := fld S.MBX_BIND 8 8 .rwl
def F.MBX_BIND_EN : Field := fld S.MBX_BIND 16 1 .rwl
def S.MBX_LOCK_STAT : Shape := shape1 0x200200 64 0x4
def F.MBX_LOCK_STAT_OWNER : Field := fld S.MBX_LOCK_STAT 0 8 .ro
def F.MBX_LOCK_STAT_CONTENDED : Field := fld S.MBX_LOCK_STAT 8 1 .w1c
def F.MBX_LOCK_STAT_LOCK_BROKEN : Field := fld S.MBX_LOCK_STAT 9 1 .w1c
def S.MBX_DATA : Shape := shape2 0x201000 64 0x80 16 0x4
def F.MBX_DATA_DATA : Field := fld S.MBX_DATA 0 32 .rw
def S.MBX_DOORBELL : Shape := shape1 0x201040 64 0x80
def F.MBX_DOORBELL_LEN : Field := fld S.MBX_DOORBELL 0 5 .wo
def S.MBX_STAT : Shape := shape1 0x201044 64 0x80
def F.MBX_STAT_FULL : Field := fld S.MBX_STAT 0 1 .ro
def F.MBX_STAT_LEN : Field := fld S.MBX_STAT 1 5 .ro
def F.MBX_STAT_TAKEN : Field := fld S.MBX_STAT 6 1 .w1c
def F.MBX_STAT_RX_RESET_SEEN : Field := fld S.MBX_STAT 7 1 .w1c
def F.MBX_STAT_SENDER_RESET_SEEN : Field := fld S.MBX_STAT 8 1 .w1c
def F.MBX_STAT_POST_REFUSED : Field := fld S.MBX_STAT 9 1 .w1c
def S.MBX_LOCK : Shape := shape1 0x201048 64 0x80
def F.MBX_LOCK_LOCK : Field := fld S.MBX_LOCK 0 8 .rw

/-! ### PMC (spec/13, register index in spec/19_register_index.md Table SYS-14) -/

def S.PMC_INT_CAUSE : Shape := shape0 0x240010
def F.PMC_INT_CAUSE_OVF : Field := fld S.PMC_INT_CAUSE 0 1 .w1c
def F.PMC_INT_CAUSE_SMP_AVAIL : Field := fld S.PMC_INT_CAUSE 1 1 .w1c
def F.PMC_INT_CAUSE_SMP_DROP : Field := fld S.PMC_INT_CAUSE 2 1 .w1c
def F.PMC_INT_CAUSE_MODE_CHG : Field := fld S.PMC_INT_CAUSE 3 1 .w1c
def S.PMC_INT_MASK : Shape := shape0 0x240014
def F.PMC_INT_MASK_MASK : Field := fld S.PMC_INT_MASK 0 4 .rw
def S.PMC_SMP_CFG : Shape := shape0 0x240020
def F.PMC_SMP_CFG_MODE : Field := fld S.PMC_SMP_CFG 0 2 .rw
def F.PMC_SMP_CFG_TRACE : Field := fld S.PMC_SMP_CFG 2 1 .rw
def F.PMC_SMP_CFG_SE : Field := fld S.PMC_SMP_CFG 3 1 .rw
def F.PMC_SMP_CFG_N : Field := fldR S.PMC_SMP_CFG 8 16 .rw 4096
def S.PMC_SMP_STAT : Shape := shape0 0x240024
def F.PMC_SMP_STAT_METHOD : Field := fld S.PMC_SMP_STAT 0 2 .ro
def F.PMC_SMP_STAT_ACTIVE_LE : Field := fld S.PMC_SMP_STAT 2 7 .ro
def F.PMC_SMP_STAT_COUNT : Field := fld S.PMC_SMP_STAT 16 7 .ro
def S.PMC_SMP_POP : Shape := shape0 0x240028
def F.PMC_SMP_POP_POP : Field := fld S.PMC_SMP_POP 0 1 .w1s
def S.PMC_SMP_DROP : Shape := shape0 0x24002C
def F.PMC_SMP_DROP_RING : Field := fld S.PMC_SMP_DROP 0 10 .rc
def F.PMC_SMP_DROP_TRACE : Field := fld S.PMC_SMP_DROP 10 10 .rc
def F.PMC_SMP_DROP_SKIP : Field := fld S.PMC_SMP_DROP 20 12 .rc
def S.PMC_OVF_SEL : Shape := shape1 0x240030 4 0x4
def F.PMC_OVF_SEL_CNT : Field := fld S.PMC_OVF_SEL 0 11 .rw
def F.PMC_OVF_SEL_EN : Field := fld S.PMC_OVF_SEL 16 1 .rw
def S.PMC_OVF_STAT : Shape := shape0 0x240040
def F.PMC_OVF_STAT_OVF : Field := fld S.PMC_OVF_STAT 0 4 .w1c
def S.PMC_SMP_ENG : Shape := shape1 0x240048 2 0x4
def F.PMC_SMP_ENG_LE : Field := fld S.PMC_SMP_ENG 0 32 .rw
def S.PMC_SMP_RD : Shape := shape1 0x240080 8 0x4
def F.PMC_SMP_RD_DATA : Field := fld S.PMC_SMP_RD 0 32 .ro
def S.PMC_GRP_FILT : Shape := shape1 0x240100 24 0x4
def F.PMC_GRP_FILT_PRIV : Field := fldR S.PMC_GRP_FILT 0 2 .rw 3
def F.PMC_GRP_FILT_CLASS : Field := fldR S.PMC_GRP_FILT 2 5 .rw 31
def F.PMC_GRP_FILT_MASTER : Field := fld S.PMC_GRP_FILT 8 8 .rw
def F.PMC_GRP_FILT_MMASK : Field := fld S.PMC_GRP_FILT 16 8 .rw
def S.PMC_GRP_WIN : Shape := shape2 0x240200 24 0x8 2 0x4
def F.PMC_GRP_WIN_ADDR : Field := fldT S.PMC_GRP_WIN 0 24 .rw 0 [0, 16777215]
def S.PMC_CNT_LO : Shape := shape1 0x241000 1536 0x8
def F.PMC_CNT_LO_LO : Field := fld S.PMC_CNT_LO 0 32 .rw
def S.PMC_CNT_HI : Shape := shape1 0x241004 1536 0x8
def F.PMC_CNT_HI_HI : Field := fld S.PMC_CNT_HI 0 16 .rw

/-! ### HKA (spec/14, register index in spec/19_register_index.md Table SYS-14) -/

def S.HKA_CTRL : Shape := shape0 0x280000
def F.HKA_CTRL_EN : Field := fld S.HKA_CTRL 0 1 .rw
def F.HKA_CTRL_LP : Field := fld S.HKA_CTRL 1 1 .rw
def F.HKA_CTRL_LEN_M1 : Field := fld S.HKA_CTRL 2 5 .rw
def S.HKA_TRIG : Shape := shape0 0x280004
def F.HKA_TRIG_SRC : Field := fld S.HKA_TRIG 0 5 .rw
def F.HKA_TRIG_DELAY : Field := fld S.HKA_TRIG 16 16 .rw
def S.HKA_SEQ_GO : Shape := shape0 0x280008
def F.HKA_SEQ_GO_GO : Field := fld S.HKA_SEQ_GO 0 1 .w1s
def S.HKA_STAT : Shape := shape0 0x28000C
def F.HKA_STAT_STATE : Field := fld S.HKA_STAT 0 2 .ro
def F.HKA_STAT_NEXT : Field := fld S.HKA_STAT 2 5 .ro
def F.HKA_STAT_INJ_PEND : Field := fld S.HKA_STAT 7 1 .ro
def F.HKA_STAT_CAL_HOLD : Field := fld S.HKA_STAT 8 1 .ro
def S.HKA_INT_CAUSE : Shape := shape0 0x280010
def F.HKA_INT_CAUSE_SEQ_DONE : Field := fld S.HKA_INT_CAUSE 0 1 .w1c
def F.HKA_INT_CAUSE_INJ_DONE : Field := fld S.HKA_INT_CAUSE 1 1 .w1c
def F.HKA_INT_CAUSE_TRIG_MISS : Field := fld S.HKA_INT_CAUSE 2 1 .w1c
def F.HKA_INT_CAUSE_INJ_REFUSED : Field := fld S.HKA_INT_CAUSE 3 1 .w1c
def S.HKA_INT_MASK : Shape := shape0 0x280014
def F.HKA_INT_MASK_MASK : Field := fld S.HKA_INT_MASK 0 4 .rw
def S.HKA_TIMER : Shape := shape0 0x280018
def F.HKA_TIMER_PERIOD : Field := fld S.HKA_TIMER 0 24 .rw
def S.HKA_MISS_CNT : Shape := shape0 0x28001C
def F.HKA_MISS_CNT_COUNT : Field := fld S.HKA_MISS_CNT 0 32 .rc
def S.HKA_INJ : Shape := shape0 0x280020
def F.HKA_INJ_CH : Field := fld S.HKA_INJ 0 5 .rw
def F.HKA_INJ_DIFF : Field := fld S.HKA_INJ 5 1 .rw
def F.HKA_INJ_ALIGN : Field := fld S.HKA_INJ 6 1 .rw
def F.HKA_INJ_TSRC : Field := fld S.HKA_INJ 7 5 .rw
def F.HKA_INJ_GO : Field := fld S.HKA_INJ 31 1 .w1s
def S.HKA_INJ_RES : Shape := shape0 0x280024
def F.HKA_INJ_RES_DATA : Field := fld S.HKA_INJ_RES 0 16 .ro
def F.HKA_INJ_RES_NEW : Field := fld S.HKA_INJ_RES 16 1 .rc
def F.HKA_INJ_RES_OVR : Field := fld S.HKA_INJ_RES 17 1 .rc
def S.HKA_DIE_TEMP : Shape := shape1 0x280030 5 0x4
def F.HKA_DIE_TEMP_TEMP : Field := fld S.HKA_DIE_TEMP 0 16 .ro
def S.HKA_DIE_HOT : Shape := shape0 0x280044
def F.HKA_DIE_HOT_TEMP : Field := fld S.HKA_DIE_HOT 0 16 .ro
def S.HKA_SUPMUX : Shape := shape0 0x280048
def F.HKA_SUPMUX_SEL : Field := fld S.HKA_SUPMUX 0 3 .rw
def S.HKA_SEQ : Shape := shape1 0x280100 32 0x4
def F.HKA_SEQ_CH : Field := fld S.HKA_SEQ 0 5 .rw
def F.HKA_SEQ_DIFF : Field := fld S.HKA_SEQ 5 1 .rw
def F.HKA_SEQ_ALIGN : Field := fld S.HKA_SEQ 6 1 .rw
def S.HKA_RES : Shape := shape1 0x280180 32 0x4
def F.HKA_RES_DATA : Field := fld S.HKA_RES 0 16 .ro
def F.HKA_RES_NEW : Field := fld S.HKA_RES 16 1 .rc
def F.HKA_RES_OVR : Field := fld S.HKA_RES 17 1 .rc
def S.HKA_PWM_PER : Shape := shape1 0x280200 8 0x10
def F.HKA_PWM_PER_VAL : Field := fld S.HKA_PWM_PER 0 16 .rw
def S.HKA_PWM_DUTY : Shape := shape1 0x280204 8 0x10
def F.HKA_PWM_DUTY_VAL : Field := fld S.HKA_PWM_DUTY 0 16 .rw
def S.HKA_PWM_DITH : Shape := shape1 0x280208 8 0x10
def F.HKA_PWM_DITH_VAL : Field := fld S.HKA_PWM_DITH 0 16 .rw
def F.HKA_PWM_DITH_DITH_N : Field := fldR S.HKA_PWM_DITH 16 8 .rw 1

/-! ### FLT (spec/14, register index in spec/19_register_index.md Table SYS-14) -/

def S.FLT_CTRL : Shape := shape0 0x290000
def F.FLT_CTRL_EN : Field := fld S.FLT_CTRL 0 8 .rw
def S.FLT_INT_CAUSE : Shape := shape0 0x290010
def F.FLT_INT_CAUSE_ENV_HI : Field := fld S.FLT_INT_CAUSE 0 8 .w1c
def F.FLT_INT_CAUSE_ENV_LO : Field := fld S.FLT_INT_CAUSE 8 8 .w1c
def F.FLT_INT_CAUSE_FADE_DONE : Field := fld S.FLT_INT_CAUSE 16 8 .w1c
def F.FLT_INT_CAUSE_SHADOW_BUSY : Field := fld S.FLT_INT_CAUSE 24 8 .w1c
def S.FLT_INT_MASK : Shape := shape0 0x290014
def F.FLT_INT_MASK_MASK : Field := fld S.FLT_INT_MASK 0 32 .rw
def S.FLT_CH_CFG : Shape := shape1 0x290100 8 0x40
def F.FLT_CH_CFG_SRC : Field := fldR S.FLT_CH_CFG 0 6 .rw 63
def F.FLT_CH_CFG_CHAIN : Field := fld S.FLT_CH_CFG 6 2 .rw
def F.FLT_CH_CFG_ORDER : Field := fld S.FLT_CH_CFG 8 2 .rw
def F.FLT_CH_CFG_DEC_M1 : Field := fldR S.FLT_CH_CFG 10 12 .rw 3
def F.FLT_CH_CFG_MED : Field := fld S.FLT_CH_CFG 22 2 .rw
def F.FLT_CH_CFG_LOCKIN : Field := fld S.FLT_CH_CFG 24 1 .rw
def F.FLT_CH_CFG_LOCKIN_PWM : Field := fld S.FLT_CH_CFG 25 3 .rw
def S.FLT_CH_CTRL : Shape := shape1 0x290104 8 0x40
def F.FLT_CH_CTRL_PRESET : Field := fld S.FLT_CH_CTRL 0 3 .rw
def F.FLT_CH_CTRL_SWAP : Field := fld S.FLT_CH_CTRL 3 1 .w1s
def F.FLT_CH_CTRL_XFADE : Field := fld S.FLT_CH_CTRL 4 3 .rw
def F.FLT_CH_CTRL_LOCKIN_DLY : Field := fld S.FLT_CH_CTRL 8 8 .rw
def S.FLT_CH_STAT : Shape := shape1 0x290108 8 0x40
def F.FLT_CH_STAT_VALID : Field := fld S.FLT_CH_STAT 0 1 .ro
def F.FLT_CH_STAT_FADING : Field := fld S.FLT_CH_STAT 1 1 .ro
def F.FLT_CH_STAT_SWAP_HELD : Field := fld S.FLT_CH_STAT 2 1 .ro
def F.FLT_CH_STAT_BANK : Field := fld S.FLT_CH_STAT 3 1 .ro
def F.FLT_CH_STAT_ABOVE : Field := fld S.FLT_CH_STAT 4 1 .ro
def F.FLT_CH_STAT_SAT : Field := fld S.FLT_CH_STAT 5 1 .w1c
def S.FLT_DET_CFG : Shape := shape1 0x29010C 8 0x40
def F.FLT_DET_CFG_HOLD : Field := fldR S.FLT_DET_CFG 0 10 .rw 16
def F.FLT_DET_CFG_DECAY : Field := fldR S.FLT_DET_CFG 10 4 .rw 4
def F.FLT_DET_CFG_RMS_W : Field := fldR S.FLT_DET_CFG 14 4 .rw 4
def F.FLT_DET_CFG_ATK : Field := fldR S.FLT_DET_CFG 18 4 .rw 1
def F.FLT_DET_CFG_REL : Field := fldR S.FLT_DET_CFG 22 4 .rw 6
def S.FLT_OUT : Shape := shape1 0x290110 8 0x40
def F.FLT_OUT_VAL : Field := fld S.FLT_OUT 0 24 .ro
def S.FLT_PEAK : Shape := shape1 0x290114 8 0x40
def F.FLT_PEAK_VAL : Field := fld S.FLT_PEAK 0 24 .ro
def S.FLT_RMS : Shape := shape1 0x290118 8 0x40
def F.FLT_RMS_VAL : Field := fld S.FLT_RMS 0 24 .ro
def S.FLT_ENV : Shape := shape1 0x29011C 8 0x40
def F.FLT_ENV_VAL : Field := fld S.FLT_ENV 0 24 .ro
def S.FLT_THR_HI : Shape := shape1 0x290120 8 0x40
def F.FLT_THR_HI_VAL : Field := fld S.FLT_THR_HI 0 24 .rw
def S.FLT_THR_LO : Shape := shape1 0x290124 8 0x40
def F.FLT_THR_LO_VAL : Field := fld S.FLT_THR_LO 0 24 .rw
def S.FLT_FIR : Shape := shape2 0x291000 8 0x80 32 0x4
def F.FLT_FIR_C : Field := fldT S.FLT_FIR 0 18 .rw 0 [65536]

/-! ### CAL (spec/15, register index in spec/19_register_index.md Table SYS-14) -/

def S.CAL_CTRL : Shape := shape0 0x2A0000
def F.CAL_CTRL_GO_FULL : Field := fld S.CAL_CTRL 0 1 .w1s
def F.CAL_CTRL_GO_TRACK : Field := fld S.CAL_CTRL 1 1 .w1s
def F.CAL_CTRL_ABORT : Field := fld S.CAL_CTRL 2 1 .w1s
def F.CAL_CTRL_AUTO : Field := fldR S.CAL_CTRL 3 1 .rw 1
def F.CAL_CTRL_RETRY_S : Field := fldR S.CAL_CTRL 16 12 .rw 60
def S.CAL_STAT : Shape := shape0 0x2A0004
def F.CAL_STAT_STATE : Field := fld S.CAL_STAT 0 3 .ro
def F.CAL_STAT_TYPE : Field := fld S.CAL_STAT 3 1 .ro
def F.CAL_STAT_VALID : Field := fld S.CAL_STAT 4 1 .ro
def F.CAL_STAT_SOURCE : Field := fld S.CAL_STAT 5 1 .ro
def F.CAL_STAT_FLASH_BUSY : Field := fld S.CAL_STAT 6 1 .ro
def F.CAL_STAT_FLASH_BAD : Field := fld S.CAL_STAT 7 1 .ro
def S.CAL_INT_CAUSE : Shape := shape0 0x2A0010
def F.CAL_INT_CAUSE_DONE : Field := fld S.CAL_INT_CAUSE 0 1 .w1c
def F.CAL_INT_CAUSE_CAL_DISAGREE : Field := fld S.CAL_INT_CAUSE 1 1 .w1c
def F.CAL_INT_CAUSE_NOREF : Field := fld S.CAL_INT_CAUSE 2 1 .w1c
def F.CAL_INT_CAUSE_ABORTED : Field := fld S.CAL_INT_CAUSE 3 1 .w1c
def F.CAL_INT_CAUSE_BUSY : Field := fld S.CAL_INT_CAUSE 4 1 .w1c
def F.CAL_INT_CAUSE_REPAIR : Field := fld S.CAL_INT_CAUSE 5 1 .w1c
def F.CAL_INT_CAUSE_FLASH_ERR : Field := fld S.CAL_INT_CAUSE 6 1 .w1c
def S.CAL_INT_MASK : Shape := shape0 0x2A0014
def F.CAL_INT_MASK_MASK : Field := fld S.CAL_INT_MASK 0 7 .rw
def S.CAL_COUNT : Shape := shape0 0x2A0018
def F.CAL_COUNT_VAL : Field := fld S.CAL_COUNT 0 32 .ro
def S.CAL_LAST_TIME : Shape := shape0 0x2A001C
def F.CAL_LAST_TIME_VAL : Field := fld S.CAL_LAST_TIME 0 32 .ro
def S.CAL_LAST_TEMP : Shape := shape0 0x2A0020
def F.CAL_LAST_TEMP_VAL : Field := fld S.CAL_LAST_TEMP 0 32 .ro
def S.CAL_DELTA_T : Shape := shape0 0x2A0024
def F.CAL_DELTA_T_VAL : Field := fldR S.CAL_DELTA_T 0 32 .rw 8
def S.CAL_DEFERRED : Shape := shape0 0x2A0028
def F.CAL_DEFERRED_VAL : Field := fld S.CAL_DEFERRED 0 1 .w1c
def S.CAL_DIS_STAT : Shape := shape0 0x2A002C
def F.CAL_DIS_STAT_QTY : Field := fld S.CAL_DIS_STAT 0 2 .ro
def F.CAL_DIS_STAT_DAC : Field := fld S.CAL_DIS_STAT 2 1 .ro
def F.CAL_DIS_STAT_P : Field := fld S.CAL_DIS_STAT 3 2 .ro
def F.CAL_DIS_STAT_ELEM : Field := fld S.CAL_DIS_STAT 5 8 .ro
def F.CAL_DIS_STAT_DIFF : Field := fld S.CAL_DIS_STAT 16 16 .ro
def S.CAL_ADC_STAT : Shape := shape1 0x2A0040 4 0x4
def F.CAL_ADC_STAT_SPARES_FREE : Field := fld S.CAL_ADC_STAT 0 5 .ro
def F.CAL_ADC_STAT_SHORT : Field := fld S.CAL_ADC_STAT 5 1 .ro
def F.CAL_ADC_STAT_WORST_GAIN : Field := fld S.CAL_ADC_STAT 8 8 .ro
def F.CAL_ADC_STAT_WORST_OFS : Field := fld S.CAL_ADC_STAT 16 8 .ro
def F.CAL_ADC_STAT_WORST_SKEW : Field := fld S.CAL_ADC_STAT 24 8 .ro
def S.CAL_DAC_STAT : Shape := shape1 0x2A0050 4 0x4
def F.CAL_DAC_STAT_SPARES_FREE : Field := fld S.CAL_DAC_STAT 0 5 .ro
def F.CAL_DAC_STAT_SHORT : Field := fld S.CAL_DAC_STAT 5 1 .ro
def F.CAL_DAC_STAT_WORST_GAIN : Field := fld S.CAL_DAC_STAT 8 8 .ro
def F.CAL_DAC_STAT_WORST_OFS : Field := fld S.CAL_DAC_STAT 16 8 .ro
def F.CAL_DAC_STAT_WORST_SKEW : Field := fld S.CAL_DAC_STAT 24 8 .ro

/-! ### BST (spec/15, register index in spec/19_register_index.md Table SYS-14) -/

def S.BST_CTRL : Shape := shape0 0x2B0000
def F.BST_CTRL_MASK : Field := fld S.BST_CTRL 0 8 .rw
def F.BST_CTRL_GO : Field := fld S.BST_CTRL 8 1 .w1s
def F.BST_CTRL_ABORT : Field := fld S.BST_CTRL 9 1 .w1s
def F.BST_CTRL_OVERRIDE : Field := fld S.BST_CTRL 10 1 .rw
def S.BST_STARTUP : Shape := shape0 0x2B0004
def F.BST_STARTUP_SET : Field := fldR S.BST_STARTUP 0 8 .rw 14
def S.BST_STAT : Shape := shape0 0x2B0008
def F.BST_STAT_BUSY : Field := fld S.BST_STAT 0 1 .ro
def F.BST_STAT_CUR : Field := fld S.BST_STAT 1 3 .ro
def F.BST_STAT_SAFE : Field := fld S.BST_STAT 4 1 .ro
def F.BST_STAT_SAFE_BY : Field := fld S.BST_STAT 8 8 .ro
def S.BST_INT_CAUSE : Shape := shape0 0x2B0010
def F.BST_INT_CAUSE_DONE : Field := fld S.BST_INT_CAUSE 0 1 .w1c
def F.BST_INT_CAUSE_FAIL : Field := fld S.BST_INT_CAUSE 1 1 .w1c
def F.BST_INT_CAUSE_SAFE : Field := fld S.BST_INT_CAUSE 2 1 .w1c
def F.BST_INT_CAUSE_REFUSED : Field := fld S.BST_INT_CAUSE 3 1 .w1c
def S.BST_INT_MASK : Shape := shape0 0x2B0014
def F.BST_INT_MASK_MASK : Field := fld S.BST_INT_MASK 0 4 .rw
def S.BST_RESULT : Shape := shape1 0x2B0040 8 0x4
def F.BST_RESULT_RESULT : Field := fld S.BST_RESULT 0 3 .ro
def F.BST_RESULT_DETAIL : Field := fld S.BST_RESULT 8 8 .ro
def F.BST_RESULT_ELAPSED : Field := fld S.BST_RESULT 16 16 .ro

/-! ### CRY (spec/10, register index in spec/19_register_index.md Table SYS-14) -/

def S.CRY_CTRL : Shape := shape0 0x300000
def F.CRY_CTRL_TAMPER_EN : Field := fldR S.CRY_CTRL 0 1 .rwl 1
def F.CRY_CTRL_REPLAY_EN : Field := fldR S.CRY_CTRL 1 1 .rw 1
def S.CRY_LOCK : Shape := shape0 0x300004
def F.CRY_LOCK_LOCK : Field := fld S.CRY_LOCK 0 8 .rw
def S.CRY_LOCK_STAT : Shape := shape0 0x300008
def F.CRY_LOCK_STAT_OWNER : Field := fld S.CRY_LOCK_STAT 0 8 .ro
def F.CRY_LOCK_STAT_CONTENDED : Field := fld S.CRY_LOCK_STAT 8 1 .w1c
def F.CRY_LOCK_STAT_LOCK_BROKEN : Field := fld S.CRY_LOCK_STAT 9 1 .w1c
def S.CRY_INT_CAUSE : Shape := shape0 0x300010
def F.CRY_INT_CAUSE_ERASED : Field := fld S.CRY_INT_CAUSE 0 1 .w1c
def F.CRY_INT_CAUSE_NOT_OWNER : Field := fld S.CRY_INT_CAUSE 1 1 .w1c
def F.CRY_INT_CAUSE_CMD_DONE : Field := fld S.CRY_INT_CAUSE 2 1 .w1c
def F.CRY_INT_CAUSE_CMD_ERR : Field := fld S.CRY_INT_CAUSE 3 1 .w1c
def F.CRY_INT_CAUSE_TAG_FAIL : Field := fld S.CRY_INT_CAUSE 4 1 .w1c
def F.CRY_INT_CAUSE_RESYNC : Field := fld S.CRY_INT_CAUSE 5 1 .w1c
def F.CRY_INT_CAUSE_REPLAY : Field := fld S.CRY_INT_CAUSE 6 1 .w1c
def F.CRY_INT_CAUSE_TX_NOKEY : Field := fld S.CRY_INT_CAUSE 7 1 .w1c
def F.CRY_INT_CAUSE_GUARD_JUMP : Field := fld S.CRY_INT_CAUSE 8 1 .w1c
def F.CRY_INT_CAUSE_KEY_MISS : Field := fld S.CRY_INT_CAUSE 9 1 .w1c
def S.CRY_INT_MASK : Shape := shape0 0x300014
def F.CRY_INT_MASK_MASK : Field := fld S.CRY_INT_MASK 0 10 .rw
def S.CRY_KEY_CMD : Shape := shape0 0x300020
def F.CRY_KEY_CMD_CTX : Field := fld S.CRY_KEY_CMD 0 12 .rw
def F.CRY_KEY_CMD_PHASE : Field := fld S.CRY_KEY_CMD 12 1 .rw
def F.CRY_KEY_CMD_OP : Field := fld S.CRY_KEY_CMD 13 3 .rw
def F.CRY_KEY_CMD_GO : Field := fld S.CRY_KEY_CMD 31 1 .w1s
def S.CRY_KEY_STAT : Shape := shape0 0x300024
def F.CRY_KEY_STAT_BUSY : Field := fld S.CRY_KEY_STAT 0 1 .ro
def F.CRY_KEY_STAT_ERR_CODE : Field := fld S.CRY_KEY_STAT 1 3 .ro
def S.CRY_KEY_SALT : Shape := shape0 0x300028
def F.CRY_KEY_SALT_SALT : Field := fld S.CRY_KEY_SALT 0 32 .wo
def S.CRY_KEY_DATA : Shape := shape1 0x300030 8 0x4
def F.CRY_KEY_DATA_KEY : Field := fld S.CRY_KEY_DATA 0 32 .wo
def S.CRY_ERASE_STAT : Shape := shape0 0x300050
def F.CRY_ERASE_STAT_CAUSE : Field := fld S.CRY_ERASE_STAT 0 6 .rws
def F.CRY_ERASE_STAT_ALARM_NOW : Field := fld S.CRY_ERASE_STAT 8 1 .ro
def F.CRY_ERASE_STAT_COUNT : Field := fld S.CRY_ERASE_STAT 16 16 .rws
def S.CRY_CTX_SEL : Shape := shape0 0x300060
def F.CRY_CTX_SEL_CTX : Field := fld S.CRY_CTX_SEL 0 12 .rw
def S.CRY_CTX_STAT : Shape := shape0 0x300064
def F.CRY_CTX_STAT_A_VALID : Field := fld S.CRY_CTX_STAT 0 1 .ro
def F.CRY_CTX_STAT_B_VALID : Field := fld S.CRY_CTX_STAT 1 1 .ro
def F.CRY_CTX_STAT_TX_PH : Field := fld S.CRY_CTX_STAT 2 1 .ro
def F.CRY_CTX_STAT_RX_SYNC : Field := fld S.CRY_CTX_STAT 3 1 .ro
def F.CRY_CTX_STAT_RX_PH : Field := fld S.CRY_CTX_STAT 4 1 .ro
def F.CRY_CTX_STAT_USED : Field := fld S.CRY_CTX_STAT 5 1 .ro
def S.CRY_TX_NEXT_LO : Shape := shape0 0x300068
def F.CRY_TX_NEXT_LO_CTR : Field := fld S.CRY_TX_NEXT_LO 0 32 .ro
def S.CRY_TX_NEXT_HI : Shape := shape0 0x30006C
def F.CRY_TX_NEXT_HI_CTR : Field := fld S.CRY_TX_NEXT_HI 0 32 .ro
def S.CRY_TX_CUR_LO : Shape := shape0 0x300070
def F.CRY_TX_CUR_LO_CTR : Field := fld S.CRY_TX_CUR_LO 0 32 .ro
def S.CRY_TX_CUR_HI : Shape := shape0 0x300074
def F.CRY_TX_CUR_HI_CTR : Field := fld S.CRY_TX_CUR_HI 0 32 .ro
def S.CRY_RX_LAST_LO : Shape := shape0 0x300078
def F.CRY_RX_LAST_LO_CTR : Field := fld S.CRY_RX_LAST_LO 0 32 .ro
def S.CRY_RX_LAST_HI : Shape := shape0 0x30007C
def F.CRY_RX_LAST_HI_CTR : Field := fld S.CRY_RX_LAST_HI 0 32 .ro
def S.CRY_SALT : Shape := shape1 0x300080 2 0x4
def F.CRY_SALT_SALT : Field := fld S.CRY_SALT 0 32 .ro
def S.CRY_CNT : Shape := shape1 0x3000C0 7 0x4
def F.CRY_CNT_COUNT : Field := fld S.CRY_CNT 0 32 .rc

/-! ### SYN (spec/11, register index in spec/19_register_index.md Table SYS-14) -/

def S.SYN_CTRL : Shape := shape0 0x340000
def F.SYN_CTRL_EN : Field := fld S.SYN_CTRL 0 1 .rw
def F.SYN_CTRL_QL_EN : Field := fldR S.SYN_CTRL 1 1 .rw 1
def F.SYN_CTRL_QL_OPT : Field := fld S.SYN_CTRL 2 1 .rw
def F.SYN_CTRL_REVERTIVE : Field := fld S.SYN_CTRL 3 1 .rw
def F.SYN_CTRL_PBO : Field := fldR S.SYN_CTRL 4 1 .rw 1
def F.SYN_CTRL_FORCE_HO : Field := fld S.SYN_CTRL 5 1 .rw
def F.SYN_CTRL_BW : Field := fldR S.SYN_CTRL 6 2 .rw 1
def S.SYN_STAT : Shape := shape0 0x340004
def F.SYN_STAT_LOOP : Field := fld S.SYN_STAT 0 2 .ro
def F.SYN_STAT_SEL : Field := fldR S.SYN_STAT 2 4 .ro 15
def F.SYN_STAT_SEL_QL : Field := fldR S.SYN_STAT 6 4 .ro 15
def F.SYN_STAT_OUT_QL : Field := fldR S.SYN_STAT 10 4 .ro 11
def F.SYN_STAT_MODEL_VALID : Field := fld S.SYN_STAT 14 1 .ro
def S.SYN_INT_CAUSE : Shape := shape0 0x340010
def F.SYN_INT_CAUSE_SEL_CHG : Field := fld S.SYN_INT_CAUSE 0 1 .w1c
def F.SYN_INT_CAUSE_LOOP_CHG : Field := fld S.SYN_INT_CAUSE 1 1 .w1c
def F.SYN_INT_CAUSE_REF_QUAL : Field := fld S.SYN_INT_CAUSE 2 1 .w1c
def F.SYN_INT_CAUSE_REF_DRIFT : Field := fld S.SYN_INT_CAUSE 3 1 .w1c
def F.SYN_INT_CAUSE_REF_DQ : Field := fld S.SYN_INT_CAUSE 4 1 .w1c
def F.SYN_INT_CAUSE_REF_FAIL : Field := fld S.SYN_INT_CAUSE 5 1 .w1c
def F.SYN_INT_CAUSE_REF_DISAGREE : Field := fld S.SYN_INT_CAUSE 6 1 .w1c
def F.SYN_INT_CAUSE_QL_CHG : Field := fld S.SYN_INT_CAUSE 7 1 .w1c
def F.SYN_INT_CAUSE_QL_TMO : Field := fld S.SYN_INT_CAUSE 8 1 .w1c
def F.SYN_INT_CAUSE_PSTEP_DONE : Field := fld S.SYN_INT_CAUSE 9 1 .w1c
def F.SYN_INT_CAUSE_PSTEP_RANGE : Field := fld S.SYN_INT_CAUSE 10 1 .w1c
def F.SYN_INT_CAUSE_PRIV_ERR : Field := fld S.SYN_INT_CAUSE 11 1 .w1c
def F.SYN_INT_CAUSE_PRIV_CLOSED : Field := fld S.SYN_INT_CAUSE 12 1 .w1c
def F.SYN_INT_CAUSE_TIME_SET : Field := fld S.SYN_INT_CAUSE 13 1 .w1c
def F.SYN_INT_CAUSE_PPS_ALIGN : Field := fld S.SYN_INT_CAUSE 14 1 .w1c
def S.SYN_INT_MASK : Shape := shape0 0x340014
def F.SYN_INT_MASK_MASK : Field := fld S.SYN_INT_MASK 0 15 .rw
def S.SYN_SEL_CTRL : Shape := shape0 0x340018
def F.SYN_SEL_CTRL_REF : Field := fld S.SYN_SEL_CTRL 0 3 .rw
def F.SYN_SEL_CTRL_FORCE : Field := fld S.SYN_SEL_CTRL 3 1 .rw
def S.SYN_DISAGREE_PPB : Shape := shape0 0x34001C
def F.SYN_DISAGREE_PPB_PPB : Field := fldR S.SYN_DISAGREE_PPB 0 16 .rw 4600
def S.SYN_QUAL_CFG : Shape := shape0 0x340020
def F.SYN_QUAL_CFG_WTR_S : Field := fldR S.SYN_QUAL_CFG 0 10 .rw 300
def F.SYN_QUAL_CFG_DQ_S : Field := fldR S.SYN_QUAL_CFG 10 6 .rw 10
def F.SYN_QUAL_CFG_FILT : Field := fldR S.SYN_QUAL_CFG 16 4 .rw 6
def F.SYN_QUAL_CFG_HORIZON_S : Field := fldR S.SYN_QUAL_CFG 20 12 .rw 900
def S.SYN_QL_CFG : Shape := shape0 0x340024
def F.SYN_QL_CFG_OWN_QL : Field := fldR S.SYN_QL_CFG 0 4 .rw 11
def F.SYN_QL_CFG_QL_TMO : Field := fldR S.SYN_QL_CFG 4 8 .rw 5
def S.SYN_HO_CFG : Shape := shape0 0x340030
def F.SYN_HO_CFG_MIN_S : Field := fldR S.SYN_HO_CFG 0 12 .rw 900
def F.SYN_HO_CFG_HALF_S : Field := fldR S.SYN_HO_CFG 12 12 .rw 1200
def F.SYN_HO_CFG_QUAR_S : Field := fldR S.SYN_HO_CFG 24 8 .rw 128
def S.SYN_HO_MODE : Shape := shape0 0x340034
def F.SYN_HO_MODE_TC_MODE : Field := fld S.SYN_HO_MODE 0 2 .rw
def F.SYN_HO_MODE_AGE_MODE : Field := fld S.SYN_HO_MODE 2 2 .rw
def F.SYN_HO_MODE_TEMP_SEQ : Field := fld S.SYN_HO_MODE 4 5 .rw
def S.SYN_HO_STAT : Shape := shape0 0x340038
def F.SYN_HO_STAT_SAMPLES : Field := fld S.SYN_HO_STAT 0 12 .ro
def F.SYN_HO_STAT_FROZEN : Field := fldR S.SYN_HO_STAT 12 1 .ro 1
def F.SYN_HO_STAT_TC_ORDER : Field := fld S.SYN_HO_STAT 13 2 .ro
def F.SYN_HO_STAT_AGE_S : Field := fldR S.SYN_HO_STAT 16 16 .ro 65535
def S.SYN_HO_TEMP_CAL : Shape := shape0 0x34003C
def F.SYN_HO_TEMP_CAL_GAIN : Field := fld S.SYN_HO_TEMP_CAL 0 16 .rw
def F.SYN_HO_TEMP_CAL_OFFSET : Field := fld S.SYN_HO_TEMP_CAL 16 16 .rw
def S.SYN_HO_TEMP : Shape := shape0 0x340040
def F.SYN_HO_TEMP_THETA : Field := fld S.SYN_HO_TEMP 0 16 .ro
def F.SYN_HO_TEMP_VALID : Field := fld S.SYN_HO_TEMP 16 1 .ro
def S.SYN_HO_TC : Shape := shape1 0x340044 3 0x4
def F.SYN_HO_TC_C : Field := fld S.SYN_HO_TC 0 32 .rw
def S.SYN_HO_AGE : Shape := shape1 0x340050 2 0x4
def F.SYN_HO_AGE_A : Field := fld S.SYN_HO_AGE 0 32 .rw
def S.SYN_HO_AGE_T : Shape := shape0 0x340058
def F.SYN_HO_AGE_T_D0 : Field := fldR S.SYN_HO_AGE_T 0 16 .rw 30
def S.SYN_HO_AGE_START : Shape := shape0 0x34005C
def F.SYN_HO_AGE_START_T_START : Field := fld S.SYN_HO_AGE_START 0 32 .rw
def S.SYN_HO_FREQ : Shape := shape0 0x340060
def F.SYN_HO_FREQ_F : Field := fld S.SYN_HO_FREQ 0 32 .ro
def S.SYN_REF_CFG : Shape := shape1 0x340100 8 0x4
def F.SYN_REF_CFG_EN : Field := fld S.SYN_REF_CFG 0 1 .rw
def F.SYN_REF_CFG_PRI : Field := fld S.SYN_REF_CFG 1 4 .rw
def F.SYN_REF_CFG_QL_SRC : Field := fldT S.SYN_REF_CFG 5 1 .rw 0 [0, 0, 1, 0, 0, 0, 0, 1]
def F.SYN_REF_CFG_TOL : Field := fldR S.SYN_REF_CFG 6 12 .rw 460
def S.SYN_REF_FREQ : Shape := shape1 0x340120 2 0x4
def F.SYN_REF_FREQ_HZ : Field := fldR S.SYN_REF_FREQ 0 32 .rw 10000000
def S.SYN_REF_QL : Shape := shape1 0x340140 8 0x4
def F.SYN_REF_QL_QL : Field := fldR S.SYN_REF_QL 0 4 .rw 15
def S.SYN_REF_STAT : Shape := shape1 0x340160 8 0x4
def F.SYN_REF_STAT_STATE : Field := fld S.SYN_REF_STAT 0 3 .ro
def F.SYN_REF_STAT_QL_EFF : Field := fldR S.SYN_REF_STAT 3 5 .ro 16
def F.SYN_REF_STAT_DISAGREE : Field := fld S.SYN_REF_STAT 8 1 .ro
def F.SYN_REF_STAT_ELIGIBLE : Field := fld S.SYN_REF_STAT 9 1 .ro
def F.SYN_REF_STAT_WTR_LEFT : Field := fld S.SYN_REF_STAT 16 10 .ro
def S.SYN_REF_OFS : Shape := shape1 0x340180 8 0x4
def F.SYN_REF_OFS_VAL : Field := fld S.SYN_REF_OFS 0 32 .ro
def S.SYN_REF_RATE : Shape := shape1 0x3401A0 8 0x4
def F.SYN_REF_RATE_VAL : Field := fld S.SYN_REF_RATE 0 32 .ro
def S.SYN_OUT_CFG : Shape := shape1 0x340200 6 0x4
def F.SYN_OUT_CFG_EN : Field := fld S.SYN_OUT_CFG 0 1 .rw
def F.SYN_OUT_CFG_SRC : Field := fld S.SYN_OUT_CFG 1 1 .rw
def F.SYN_OUT_CFG_SQ_FREERUN : Field := fldR S.SYN_OUT_CFG 2 1 .rw 1
def F.SYN_OUT_CFG_SQ_QL : Field := fldR S.SYN_OUT_CFG 3 4 .rw 11
def F.SYN_OUT_CFG_SQ_QL_EN : Field := fld S.SYN_OUT_CFG 7 1 .rw
def S.SYN_OUT_FREQ : Shape := shape1 0x340220 6 0x4
def F.SYN_OUT_FREQ_HZ : Field := fld S.SYN_OUT_FREQ 0 32 .rw
def S.SYN_PSTEP : Shape := shape1 0x340300 8 0x4
def F.SYN_PSTEP_AMOUNT : Field := fld S.SYN_PSTEP 0 20 .rw
def S.SYN_PSTEP_CFG : Shape := shape0 0x340320
def F.SYN_PSTEP_CFG_SLEW : Field := fldR S.SYN_PSTEP_CFG 0 10 .rw 100
def S.SYN_PRIV_KEY : Shape := shape0 0x340400
def F.SYN_PRIV_KEY_KEY : Field := fld S.SYN_PRIV_KEY 0 32 .wo
def S.SYN_NCO_CTRL : Shape := shape1 0x340410 2 0x4
def F.SYN_NCO_CTRL_OPEN : Field := fld S.SYN_NCO_CTRL 0 1 .rw
def F.SYN_NCO_CTRL_OWNER : Field := fld S.SYN_NCO_CTRL 8 8 .ro
def S.SYN_NCO_FREQ : Shape := shape1 0x340418 2 0x4
def F.SYN_NCO_FREQ_F : Field := fld S.SYN_NCO_FREQ 0 32 .rw
def S.SYN_PRIV_CFG : Shape := shape0 0x340420
def F.SYN_PRIV_CFG_MAX_OPEN_S : Field := fldR S.SYN_PRIV_CFG 0 16 .rw 600
def S.SYN_TIME_LO : Shape := shape0 0x340500
def F.SYN_TIME_LO_VAL : Field := fld S.SYN_TIME_LO 0 32 .ro
def S.SYN_TIME_HI : Shape := shape0 0x340504
def F.SYN_TIME_HI_VAL : Field := fld S.SYN_TIME_HI 0 32 .ro
def S.SYN_TIME_SET_S : Shape := shape0 0x340508
def F.SYN_TIME_SET_S_VAL : Field := fld S.SYN_TIME_SET_S 0 32 .rw
def S.SYN_TIME_CTRL : Shape := shape0 0x34050C
def F.SYN_TIME_CTRL_SET : Field := fld S.SYN_TIME_CTRL 0 1 .w1s
def F.SYN_TIME_CTRL_ALIGN : Field := fld S.SYN_TIME_CTRL 1 1 .w1s
def F.SYN_TIME_CTRL_SET_PEND : Field := fld S.SYN_TIME_CTRL 2 1 .ro
def F.SYN_TIME_CTRL_ALIGN_PEND : Field := fld S.SYN_TIME_CTRL 3 1 .ro
def S.SYN_PPS_CFG : Shape := shape0 0x340510
def F.SYN_PPS_CFG_IN_EN : Field := fld S.SYN_PPS_CFG 0 1 .rw
def F.SYN_PPS_CFG_OUT_EN : Field := fld S.SYN_PPS_CFG 1 1 .rw
def F.SYN_PPS_CFG_WIDTH_US : Field := fldR S.SYN_PPS_CFG 8 8 .rw 100
def S.SYN_PPS_IN_ERR : Shape := shape0 0x340514
def F.SYN_PPS_IN_ERR_ERR : Field := fld S.SYN_PPS_IN_ERR 0 30 .ro
def F.SYN_PPS_IN_ERR_VALID : Field := fld S.SYN_PPS_IN_ERR 30 1 .ro

/-! ### HSL (spec/08, register index in spec/19_register_index.md Table SYS-14) -/

def S.HSL_CTRL : Shape := shape0 0x400000
def F.HSL_CTRL_GRP_EN : Field := fld S.HSL_CTRL 0 4 .rw
def S.HSL_LINK_CFG : Shape := shape0 0x400004
def F.HSL_LINK_CFG_LINK_TMO : Field := fldR S.HSL_LINK_CFG 0 8 .rw 100
def S.HSL_INT_CAUSE : Shape := shape0 0x400010
def F.HSL_INT_CAUSE_CFG_ERR : Field := fld S.HSL_INT_CAUSE 0 1 .w1c
def F.HSL_INT_CAUSE_CLI_UP : Field := fld S.HSL_INT_CAUSE 1 1 .w1c
def F.HSL_INT_CAUSE_CLI_DOWN : Field := fld S.HSL_INT_CAUSE 2 1 .w1c
def F.HSL_INT_CAUSE_ORDER_CHG : Field := fld S.HSL_INT_CAUSE 3 1 .w1c
def F.HSL_INT_CAUSE_DSK_OVER : Field := fld S.HSL_INT_CAUSE 4 1 .w1c
def F.HSL_INT_CAUSE_DSK_RANGE : Field := fld S.HSL_INT_CAUSE 5 1 .w1c
def F.HSL_INT_CAUSE_HI_SER : Field := fld S.HSL_INT_CAUSE 6 1 .w1c
def F.HSL_INT_CAUSE_RCLK_SQ : Field := fld S.HSL_INT_CAUSE 7 1 .w1c
def S.HSL_INT_MASK : Shape := shape0 0x400014
def F.HSL_INT_MASK_MASK : Field := fld S.HSL_INT_MASK 0 8 .rw
def S.HSL_RCLK_SEL : Shape := shape1 0x400020 4 0x4
def F.HSL_RCLK_SEL_LANE : Field := fld S.HSL_RCLK_SEL 0 5 .rw
def F.HSL_RCLK_SEL_EN : Field := fld S.HSL_RCLK_SEL 8 1 .rw
def F.HSL_RCLK_SEL_SQUELCHED : Field := fldR S.HSL_RCLK_SEL 9 1 .ro 1
def S.HSL_LANE_CFG : Shape := shape1 0x400100 32 0x4
def F.HSL_LANE_CFG_REACH : Field := fld S.HSL_LANE_CFG 0 2 .rw
def F.HSL_LANE_CFG_POL_AUTO : Field := fldR S.HSL_LANE_CFG 2 1 .rw 1
def F.HSL_LANE_CFG_RX_INV_FORCE : Field := fld S.HSL_LANE_CFG 3 1 .rw
def F.HSL_LANE_CFG_TX_INV : Field := fld S.HSL_LANE_CFG 4 1 .rw
def S.HSL_LANE_TXEQ : Shape := shape1 0x400180 32 0x4
def F.HSL_LANE_TXEQ_PRE2 : Field := fld S.HSL_LANE_TXEQ 0 6 .rw
def F.HSL_LANE_TXEQ_PRE1 : Field := fldR S.HSL_LANE_TXEQ 8 6 .rw 60
def F.HSL_LANE_TXEQ_MAIN : Field := fldR S.HSL_LANE_TXEQ 16 6 .rw 56
def F.HSL_LANE_TXEQ_POST1 : Field := fld S.HSL_LANE_TXEQ 24 6 .rw
def S.HSL_LANE_STAT : Shape := shape1 0x400200 32 0x4
def F.HSL_LANE_STAT_SIG : Field := fld S.HSL_LANE_STAT 0 1 .ro
def F.HSL_LANE_STAT_CDR_LOCK : Field := fld S.HSL_LANE_STAT 1 1 .ro
def F.HSL_LANE_STAT_AM_LOCK : Field := fld S.HSL_LANE_STAT 2 1 .ro
def F.HSL_LANE_STAT_RX_INV : Field := fld S.HSL_LANE_STAT 3 1 .ro
def F.HSL_LANE_STAT_LANE_ID : Field := fld S.HSL_LANE_STAT 8 8 .ro
def F.HSL_LANE_STAT_LOCK_LOST : Field := fld S.HSL_LANE_STAT 16 8 .rc
def S.HSL_CLI_CFG : Shape := shape1 0x400400 32 0x4
def F.HSL_CLI_CFG_EN : Field := fld S.HSL_CLI_CFG 0 1 .rw
def F.HSL_CLI_CFG_TYPE : Field := fld S.HSL_CLI_CFG 1 5 .rw
def F.HSL_CLI_CFG_FIRST_LANE : Field := fld S.HSL_CLI_CFG 6 5 .rw
def F.HSL_CLI_CFG_M_M1 : Field := fld S.HSL_CLI_CFG 11 3 .rw
def F.HSL_CLI_CFG_REV_MODE : Field := fldR S.HSL_CLI_CFG 14 2 .rw 1
def F.HSL_CLI_CFG_TCLK : Field := fld S.HSL_CLI_CFG 16 2 .rw
def F.HSL_CLI_CFG_JT_BW : Field := fldR S.HSL_CLI_CFG 18 2 .rw 1
def F.HSL_CLI_CFG_DSK_HOLD : Field := fld S.HSL_CLI_CFG 20 11 .rw
def S.HSL_CLI_STAT : Shape := shape1 0x400480 32 0x4
def F.HSL_CLI_STAT_STATE : Field := fld S.HSL_CLI_STAT 0 3 .ro
def F.HSL_CLI_STAT_ORDER : Field := fld S.HSL_CLI_STAT 3 2 .ro
def F.HSL_CLI_STAT_TX_REV : Field := fld S.HSL_CLI_STAT 5 1 .ro
def F.HSL_CLI_STAT_HI_SER : Field := fld S.HSL_CLI_STAT 6 1 .ro
def F.HSL_CLI_STAT_RX_LF : Field := fld S.HSL_CLI_STAT 7 1 .ro
def F.HSL_CLI_STAT_RX_RF : Field := fld S.HSL_CLI_STAT 8 1 .ro
def F.HSL_CLI_STAT_DSK_OVER : Field := fld S.HSL_CLI_STAT 9 1 .ro
def F.HSL_CLI_STAT_DSK_RANGE : Field := fld S.HSL_CLI_STAT 10 1 .ro
def F.HSL_CLI_STAT_CFG_STEP : Field := fld S.HSL_CLI_STAT 11 3 .ro
def F.HSL_CLI_STAT_RETRY : Field := fld S.HSL_CLI_STAT 16 8 .rc
def F.HSL_CLI_STAT_FLEXO_ID : Field := fld S.HSL_CLI_STAT 24 8 .ro
def S.HSL_CLI_DSK : Shape := shape1 0x400500 32 0x4
def F.HSL_CLI_DSK_MEAS : Field := fld S.HSL_CLI_DSK 0 11 .ro
def F.HSL_CLI_DSK_APPLIED : Field := fld S.HSL_CLI_DSK 16 11 .ro
def S.HSL_CLI_FEC : Shape := shape2 0x401000 32 0x10 4 0x4
def F.HSL_CLI_FEC_COUNT : Field := fld S.HSL_CLI_FEC 0 32 .ro

/-! ### FLW (spec/09, register index in spec/19_register_index.md Table SYS-14) -/

def S.FLW_CMD : Shape := shape0 0x480004
def F.FLW_CMD_FLOW : Field := fld S.FLW_CMD 0 12 .rw
def F.FLW_CMD_OP : Field := fld S.FLW_CMD 12 2 .rw
def F.FLW_CMD_GO : Field := fld S.FLW_CMD 31 1 .w1s
def S.FLW_CMD_STAT : Shape := shape0 0x480008
def F.FLW_CMD_STAT_BUSY : Field := fld S.FLW_CMD_STAT 0 1 .ro
def F.FLW_CMD_STAT_ERR_CODE : Field := fld S.FLW_CMD_STAT 1 4 .ro
def S.FLW_INT_CAUSE : Shape := shape0 0x480010
def F.FLW_INT_CAUSE_CMD_DONE : Field := fld S.FLW_INT_CAUSE 0 1 .w1c
def F.FLW_INT_CAUSE_CMD_ERR : Field := fld S.FLW_INT_CAUSE 1 1 .w1c
def F.FLW_INT_CAUSE_RATE_SHORT : Field := fld S.FLW_INT_CAUSE 2 1 .w1c
def F.FLW_INT_CAUSE_ING_OVF : Field := fld S.FLW_INT_CAUSE 3 1 .w1c
def F.FLW_INT_CAUSE_SLEEP_DROP : Field := fld S.FLW_INT_CAUSE 4 1 .w1c
def S.FLW_INT_MASK : Shape := shape0 0x480014
def F.FLW_INT_MASK_MASK : Field := fld S.FLW_INT_MASK 0 5 .rw
def S.FLW_UNKNOWN_CNT : Shape := shape0 0x480018
def F.FLW_UNKNOWN_CNT_COUNT : Field := fld S.FLW_UNKNOWN_CNT 0 32 .rc
def S.FLW_SLEEP_CFG : Shape := shape0 0x48001C
def F.FLW_SLEEP_CFG_CAP : Field := fldR S.FLW_SLEEP_CFG 0 16 .rw 256
def S.FLW_STAGE : Shape := shape1 0x480020 5 0x4
def F.FLW_STAGE_DATA : Field := fld S.FLW_STAGE 0 32 .rw
def S.FLW_CLI_UNMATCH : Shape := shape1 0x480100 32 0x4
def F.FLW_CLI_UNMATCH_COUNT : Field := fld S.FLW_CLI_UNMATCH 0 32 .rc
def S.FLW_SLEEP_DROP : Shape := shape1 0x480800 512 0x4
def F.FLW_SLEEP_DROP_COUNT : Field := fld S.FLW_SLEEP_DROP 0 32 .rc
def S.FLW_FT : Shape := shape2 0x490000 3072 0x20 8 0x4
def F.FLW_FT_DATA : Field := fld S.FLW_FT 0 32 .ro
def S.FLW_FSTAT : Shape := shape1 0x4B0000 3072 0x4
def F.FLW_FSTAT_TX_BLOCKED : Field := fld S.FLW_FSTAT 0 1 .ro
def F.FLW_FSTAT_RATE_SHORT : Field := fld S.FLW_FSTAT 1 1 .w1c
def F.FLW_FSTAT_ING_OVF : Field := fld S.FLW_FSTAT 2 1 .w1c
def F.FLW_FSTAT_HELD : Field := fld S.FLW_FSTAT 3 1 .ro
def F.FLW_FSTAT_SHORT_CNT : Field := fld S.FLW_FSTAT 16 16 .rc

/-! ### QDM (spec/09, register index in spec/19_register_index.md Table SYS-14) -/

def S.QDM_CTRL : Shape := shape0 0x4C0000
def F.QDM_CTRL_EN : Field := fld S.QDM_CTRL 0 1 .rw
def F.QDM_CTRL_RETRAIN : Field := fld S.QDM_CTRL 1 1 .w1s
def F.QDM_CTRL_FREQ_MHZ : Field := fldR S.QDM_CTRL 2 11 .rw 1066
def F.QDM_CTRL_ERR_THR : Field := fldR S.QDM_CTRL 13 11 .rw 64
def S.QDM_STAT : Shape := shape0 0x4C0004
def F.QDM_STAT_PORT_FAIL : Field := fld S.QDM_STAT 0 2 .ro
def F.QDM_STAT_IN_USE : Field := fld S.QDM_STAT 2 2 .ro
def S.QDM_INT_CAUSE : Shape := shape0 0x4C0010
def F.QDM_INT_CAUSE_CFG_ERR : Field := fld S.QDM_INT_CAUSE 0 1 .w1c
def F.QDM_INT_CAUSE_TRAIN_FAIL : Field := fld S.QDM_INT_CAUSE 1 1 .w1c
def F.QDM_INT_CAUSE_REGION_ERR : Field := fld S.QDM_INT_CAUSE 2 1 .w1c
def F.QDM_INT_CAUSE_DATA_PERR : Field := fld S.QDM_INT_CAUSE 3 1 .w1c
def F.QDM_INT_CAUSE_ADDR_PERR : Field := fld S.QDM_INT_CAUSE 4 1 .w1c
def F.QDM_INT_CAUSE_PORT_FAIL : Field := fld S.QDM_INT_CAUSE 5 1 .w1c
def F.QDM_INT_CAUSE_POOL_EMPTY : Field := fld S.QDM_INT_CAUSE 6 1 .w1c
def S.QDM_INT_MASK : Shape := shape0 0x4C0014
def F.QDM_INT_MASK_MASK : Field := fld S.QDM_INT_MASK 0 7 .rw
def S.QDM_BW : Shape := shape0 0x4C0018
def F.QDM_BW_LIMIT : Field := fld S.QDM_BW 0 16 .ro
def F.QDM_BW_USED : Field := fld S.QDM_BW 16 16 .ro
def S.QDM_POOL_STAT : Shape := shape0 0x4C001C
def F.QDM_POOL_STAT_QDR_FREE : Field := fld S.QDM_POOL_STAT 0 14 .ro
def F.QDM_POOL_STAT_DIE_FREE : Field := fldR S.QDM_POOL_STAT 16 13 .ro 4096
def S.QDM_PORT_CFG : Shape := shape1 0x4C0020 2 0x4
def F.QDM_PORT_CFG_EN : Field := fld S.QDM_PORT_CFG 0 1 .rw
def F.QDM_PORT_CFG_DENSITY : Field := fldR S.QDM_PORT_CFG 1 2 .rw 2
def S.QDM_TRAIN_STAT : Shape := shape1 0x4C0028 2 0x4
def F.QDM_TRAIN_STAT_OK : Field := fld S.QDM_TRAIN_STAT 0 1 .ro
def F.QDM_TRAIN_STAT_FAIL : Field := fld S.QDM_TRAIN_STAT 1 1 .ro
def F.QDM_TRAIN_STAT_STEP : Field := fld S.QDM_TRAIN_STAT 2 3 .ro
def S.QDM_ERR_CNT : Shape := shape1 0x4C0030 2 0x4
def F.QDM_ERR_CNT_DATA : Field := fld S.QDM_ERR_CNT 0 16 .rc
def F.QDM_ERR_CNT_ADDR : Field := fld S.QDM_ERR_CNT 16 16 .rc
def S.QDM_ERR_ADDR : Shape := shape1 0x4C0038 2 0x4
def F.QDM_ERR_ADDR_ADDR : Field := fld S.QDM_ERR_ADDR 0 23 .ro
def S.QDM_REGION : Shape := shape2 0x4C0100 2 0x20 5 0x4
def F.QDM_REGION_BASE : Field := fld S.QDM_REGION 0 10 .rw
def F.QDM_REGION_SIZE : Field := fld S.QDM_REGION 16 10 .rw

/-! ### FRM (spec/07, register index in spec/19_register_index.md Table SYS-14) -/

def S.FRM_CTRL : Shape := shape0 0x500000
def F.FRM_CTRL_TX_EN : Field := fld S.FRM_CTRL 0 1 .rw
def F.FRM_CTRL_RX_EN : Field := fld S.FRM_CTRL 1 1 .rw
def F.FRM_CTRL_BDI_FORCE : Field := fld S.FRM_CTRL 2 1 .rw
def F.FRM_CTRL_SSM_SRC : Field := fld S.FRM_CTRL 3 1 .rw
def F.FRM_CTRL_TIM_ACT : Field := fld S.FRM_CTRL 4 1 .rw
def F.FRM_CTRL_RESEARCH : Field := fld S.FRM_CTRL 5 1 .w1s
def S.FRM_ALIGN_CFG : Shape := shape0 0x500004
def F.FRM_ALIGN_CFG_FAW_TOL : Field := fldR S.FRM_ALIGN_CFG 0 3 .rw 4
def F.FRM_ALIGN_CFG_ALIGN_SC : Field := fld S.FRM_ALIGN_CFG 16 9 .rw
def S.FRM_ALIGN_STAT : Shape := shape0 0x500008
def F.FRM_ALIGN_STAT_STATE : Field := fld S.FRM_ALIGN_STAT 0 2 .ro
def F.FRM_ALIGN_STAT_IN_MF : Field := fld S.FRM_ALIGN_STAT 2 1 .ro
def F.FRM_ALIGN_STAT_MFN_VALID : Field := fld S.FRM_ALIGN_STAT 3 1 .ro
def F.FRM_ALIGN_STAT_ROT_X : Field := fld S.FRM_ALIGN_STAT 4 2 .ro
def F.FRM_ALIGN_STAT_ROT_Y : Field := fld S.FRM_ALIGN_STAT 6 2 .ro
def F.FRM_ALIGN_STAT_CAND : Field := fld S.FRM_ALIGN_STAT 8 4 .ro
def S.FRM_INT_CAUSE : Shape := shape0 0x500010
def F.FRM_INT_CAUSE_IN_FRAME : Field := fld S.FRM_INT_CAUSE 0 1 .w1c
def F.FRM_INT_CAUSE_OOF : Field := fld S.FRM_INT_CAUSE 1 1 .w1c
def F.FRM_INT_CAUSE_OOM : Field := fld S.FRM_INT_CAUSE 2 1 .w1c
def F.FRM_INT_CAUSE_DEF_CHG : Field := fld S.FRM_INT_CAUSE 3 1 .w1c
def F.FRM_INT_CAUSE_PM_LATCH : Field := fld S.FRM_INT_CAUSE 4 1 .w1c
def F.FRM_INT_CAUSE_RA_OVF : Field := fld S.FRM_INT_CAUSE 5 1 .w1c
def F.FRM_INT_CAUSE_RA_JUST : Field := fld S.FRM_INT_CAUSE 6 1 .w1c
def F.FRM_INT_CAUSE_CAND_OVF : Field := fld S.FRM_INT_CAUSE 7 1 .w1c
def F.FRM_INT_CAUSE_SSM_CHG : Field := fld S.FRM_INT_CAUSE 8 1 .w1c
def F.FRM_INT_CAUSE_CFG_ERR : Field := fld S.FRM_INT_CAUSE 9 1 .w1c
def S.FRM_INT_MASK : Shape := shape0 0x500014
def F.FRM_INT_MASK_MASK : Field := fld S.FRM_INT_MASK 0 10 .rw
def S.FRM_PATTERN_AMBIG : Shape := shape0 0x500018
def F.FRM_PATTERN_AMBIG_COUNT : Field := fld S.FRM_PATTERN_AMBIG 0 32 .rc
def S.FRM_BOUNDARY_TIES : Shape := shape0 0x50001C
def F.FRM_BOUNDARY_TIES_COUNT : Field := fld S.FRM_BOUNDARY_TIES 0 32 .rc
def S.FRM_CAND_OVF : Shape := shape0 0x500020
def F.FRM_CAND_OVF_COUNT : Field := fld S.FRM_CAND_OVF 0 32 .rc
def S.FRM_SSM_TX : Shape := shape0 0x500024
def F.FRM_SSM_TX_SSM : Field := fldR S.FRM_SSM_TX 0 4 .rw 15
def S.FRM_SSM_RX : Shape := shape0 0x500028
def F.FRM_SSM_RX_SSM : Field := fldR S.FRM_SSM_RX 0 4 .ro 15
def F.FRM_SSM_RX_VALID : Field := fld S.FRM_SSM_RX 4 1 .ro
def S.FRM_DEG_CFG : Shape := shape0 0x50002C
def F.FRM_DEG_CFG_THR : Field := fldR S.FRM_DEG_CFG 0 16 .rw 1000
def F.FRM_DEG_CFG_M : Field := fldR S.FRM_DEG_CFG 16 4 .rw 7
def S.FRM_PM_STAT : Shape := shape0 0x500030
def F.FRM_PM_STAT_SEQ : Field := fld S.FRM_PM_STAT 0 16 .ro
def S.FRM_TIM_CFG : Shape := shape0 0x500034
def F.FRM_TIM_CFG_SAPI : Field := fldR S.FRM_TIM_CFG 0 1 .rw 1
def F.FRM_TIM_CFG_DAPI : Field := fldR S.FRM_TIM_CFG 1 1 .rw 1
def S.FRM_DEF_CFG : Shape := shape1 0x500040 12 0x4
def F.FRM_DEF_CFG_SET : Field := fldR S.FRM_DEF_CFG 0 10 .rw 250
def F.FRM_DEF_CFG_CLR : Field := fldR S.FRM_DEF_CFG 16 10 .rw 1000
def S.FRM_DEF_LINE : Shape := shape0 0x500080
def F.FRM_DEF_LINE_DEF : Field := fld S.FRM_DEF_LINE 0 12 .ro
def F.FRM_DEF_LINE_RAW : Field := fld S.FRM_DEF_LINE 16 12 .ro
def S.FRM_TTI_TX : Shape := shape1 0x500100 16 0x4
def F.FRM_TTI_TX_DATA : Field := fld S.FRM_TTI_TX 0 32 .rw
def S.FRM_TTI_EXP : Shape := shape1 0x500140 16 0x4
def F.FRM_TTI_EXP_DATA : Field := fld S.FRM_TTI_EXP 0 32 .rw
def S.FRM_TTI_RX : Shape := shape1 0x500180 16 0x4
def F.FRM_TTI_RX_DATA : Field := fld S.FRM_TTI_RX 0 32 .ro
def S.FRM_DEF_SC : Shape := shape1 0x501000 512 0x4
def F.FRM_DEF_SC_DEF : Field := fld S.FRM_DEF_SC 0 12 .ro
def F.FRM_DEF_SC_RAW : Field := fld S.FRM_DEF_SC 16 12 .ro
def S.FRM_DEF_FLOW : Shape := shape1 0x502000 3072 0x4
def F.FRM_DEF_FLOW_DEF : Field := fld S.FRM_DEF_FLOW 0 12 .ro
def F.FRM_DEF_FLOW_RAW : Field := fld S.FRM_DEF_FLOW 16 12 .ro
def S.FRM_DEF_LANE : Shape := shape1 0x505000 32 0x4
def F.FRM_DEF_LANE_DEF : Field := fld S.FRM_DEF_LANE 0 12 .ro
def F.FRM_DEF_LANE_RAW : Field := fld S.FRM_DEF_LANE 16 12 .ro
def S.FRM_DEF_CLI : Shape := shape1 0x505080 32 0x4
def F.FRM_DEF_CLI_DEF : Field := fld S.FRM_DEF_CLI 0 12 .ro
def F.FRM_DEF_CLI_RAW : Field := fld S.FRM_DEF_CLI 16 12 .ro
def S.FRM_RA_CFG : Shape := shape1 0x506000 3072 0x4
def F.FRM_RA_CFG_MODE : Field := fldR S.FRM_RA_CFG 0 2 .rw 2
def F.FRM_RA_CFG_IDLE_WIN : Field := fldR S.FRM_RA_CFG 2 12 .rw 1024
def S.FRM_RA_STAT : Shape := shape1 0x509000 3072 0x4
def F.FRM_RA_STAT_JUST : Field := fld S.FRM_RA_STAT 0 1 .ro
def F.FRM_RA_STAT_FILL : Field := fld S.FRM_RA_STAT 1 4 .ro
def S.FRM_SC_PM : Shape := shape2 0x510000 512 0x20 7 0x4
def F.FRM_SC_PM_COUNT : Field := fld S.FRM_SC_PM 0 32 .ro
def S.FRM_CLI_PM : Shape := shape2 0x518000 32 0x10 4 0x4
def F.FRM_CLI_PM_COUNT : Field := fld S.FRM_CLI_PM 0 32 .ro
def S.FRM_FPM : Shape := shape2 0x520000 3072 0x20 8 0x4
def F.FRM_FPM_COUNT : Field := fld S.FRM_FPM 0 32 .ro

/-! ### FEC (spec/04, register index in spec/19_register_index.md Table SYS-14) -/

def S.FEC_CFG : Shape := shape0 0x580000
def F.FEC_CFG_RATE_TX : Field := fldR S.FEC_CFG 0 2 .rw 1
def F.FEC_CFG_RATE_RX : Field := fldR S.FEC_CFG 2 2 .rw 1
def F.FEC_CFG_ITER_MAX : Field := fldR S.FEC_CFG 4 5 .rw 8
def F.FEC_CFG_ET_EN : Field := fldR S.FEC_CFG 9 1 .rw 1
def S.FEC_INT_CAUSE : Shape := shape0 0x580010
def F.FEC_INT_CAUSE_CFG_ERR : Field := fld S.FEC_INT_CAUSE 0 1 .w1c
def F.FEC_INT_CAUSE_PRE_SD : Field := fld S.FEC_INT_CAUSE 1 1 .w1c
def F.FEC_INT_CAUSE_PM_LATCH : Field := fld S.FEC_INT_CAUSE 2 1 .w1c
def S.FEC_INT_MASK : Shape := shape0 0x580014
def F.FEC_INT_MASK_MASK : Field := fld S.FEC_INT_MASK 0 3 .rw
def S.FEC_SD_THR : Shape := shape0 0x580018
def F.FEC_SD_THR_THR : Field := fldR S.FEC_SD_THR 0 16 .rw 20000
def S.FEC_SD_MAP : Shape := shape1 0x580040 16 0x4
def F.FEC_SD_MAP_SC : Field := fld S.FEC_SD_MAP 0 32 .ro
def S.FEC_ITER_HIST : Shape := shape1 0x580080 19 0x4
def F.FEC_ITER_HIST_COUNT : Field := fld S.FEC_ITER_HIST 0 32 .ro
def S.FEC_PM_CBITS : Shape := shape1 0x581000 512 0x4
def F.FEC_PM_CBITS_COUNT : Field := fld S.FEC_PM_CBITS 0 32 .ro
def S.FEC_PM_CW : Shape := shape1 0x581800 512 0x4
def F.FEC_PM_CW_OK : Field := fld S.FEC_PM_CW 0 32 .ro
def S.FEC_PM_FAIL : Shape := shape1 0x582000 512 0x4
def F.FEC_PM_FAIL_LDPC : Field := fld S.FEC_PM_FAIL 0 16 .ro
def F.FEC_PM_FAIL_ROWS : Field := fld S.FEC_PM_FAIL 16 16 .ro
def S.FEC_PM_CBITS_HI : Shape := shape1 0x582800 512 0x4
def F.FEC_PM_CBITS_HI_COUNT : Field := fld S.FEC_PM_CBITS_HI 0 16 .ro
def S.FEC_PM_INVAL : Shape := shape1 0x583000 512 0x4
def F.FEC_PM_INVAL_COUNT : Field := fld S.FEC_PM_INVAL 0 32 .ro
def S.FEC_QC_BASE : Shape := shape2 0x584000 3 0x4000 3645 0x4
def F.FEC_QC_BASE_SHIFT : Field := fld S.FEC_QC_BASE 0 8 .ro
def F.FEC_QC_BASE_ZERO : Field := fld S.FEC_QC_BASE 8 1 .ro

/-! ### LTX (spec/02, register index in spec/19_register_index.md Table SYS-14) -/

def S.LTX_CTRL : Shape := shape0 0x600000
def F.LTX_CTRL_EN : Field := fld S.LTX_CTRL 0 1 .rw
def F.LTX_CTRL_MUTE : Field := fld S.LTX_CTRL 1 1 .rw
def F.LTX_CTRL_PEQ_SWAP : Field := fld S.LTX_CTRL 4 1 .w1s
def F.LTX_CTRL_PD_SWAP : Field := fld S.LTX_CTRL 5 1 .w1s
def S.LTX_LINE_CFG : Shape := shape0 0x600004
def F.LTX_LINE_CFG_BAUD_MBD : Field := fld S.LTX_LINE_CFG 0 19 .rw
def F.LTX_LINE_CFG_SPACING : Field := fldR S.LTX_LINE_CFG 19 4 .rw 3
def F.LTX_LINE_CFG_NSC_M1 : Field := fld S.LTX_LINE_CFG 23 9 .rw
def S.LTX_STAT : Shape := shape0 0x600008
def F.LTX_STAT_ACTIVE : Field := fld S.LTX_STAT 0 1 .ro
def F.LTX_STAT_BANK : Field := fld S.LTX_STAT 1 1 .ro
def F.LTX_STAT_SHADOW_READY : Field := fld S.LTX_STAT 2 1 .ro
def F.LTX_STAT_ANNOUNCED : Field := fld S.LTX_STAT 3 1 .ro
def F.LTX_STAT_MUTE_SRC : Field := fldR S.LTX_STAT 4 4 .ro 8
def F.LTX_STAT_CD_FADING : Field := fld S.LTX_STAT 8 1 .ro
def F.LTX_STAT_SKEW_SLEW : Field := fld S.LTX_STAT 9 1 .ro
def F.LTX_STAT_PEQ_PENDING : Field := fld S.LTX_STAT 10 1 .ro
def F.LTX_STAT_PD_PENDING : Field := fld S.LTX_STAT 11 1 .ro
def F.LTX_STAT_CFG_STEP : Field := fld S.LTX_STAT 12 3 .ro
def F.LTX_STAT_ERR_SC : Field := fld S.LTX_STAT 16 9 .ro
def S.LTX_INT_CAUSE : Shape := shape0 0x600010
def F.LTX_INT_CAUSE_CFG_ERR : Field := fld S.LTX_INT_CAUSE 0 1 .w1c
def F.LTX_INT_CAUSE_TABLE_ERR : Field := fld S.LTX_INT_CAUSE 1 1 .w1c
def F.LTX_INT_CAUSE_SHADOW_LOCKED : Field := fld S.LTX_INT_CAUSE 2 1 .w1c
def F.LTX_INT_CAUSE_LOAD_SWAP : Field := fld S.LTX_INT_CAUSE 3 1 .w1c
def F.LTX_INT_CAUSE_LOAD_CANCELLED : Field := fld S.LTX_INT_CAUSE 4 1 .w1c
def F.LTX_INT_CAUSE_CD_DONE : Field := fld S.LTX_INT_CAUSE 5 1 .w1c
def F.LTX_INT_CAUSE_CD_RANGE : Field := fld S.LTX_INT_CAUSE 6 1 .w1c
def F.LTX_INT_CAUSE_CLIP : Field := fld S.LTX_INT_CAUSE 7 1 .w1c
def S.LTX_INT_MASK : Shape := shape0 0x600014
def F.LTX_INT_MASK_MASK : Field := fld S.LTX_INT_MASK 0 8 .rw
def S.LTX_FREQ_OFS : Shape := shape0 0x600020
def F.LTX_FREQ_OFS_OFS : Field := fld S.LTX_FREQ_OFS 0 16 .rw
def S.LTX_CDPRE : Shape := shape0 0x600030
def F.LTX_CDPRE_D : Field := fld S.LTX_CDPRE 0 22 .rw
def S.LTX_CDPRE_CTRL : Shape := shape0 0x600034
def F.LTX_CDPRE_CTRL_K : Field := fldR S.LTX_CDPRE_CTRL 0 4 .rw 6
def F.LTX_CDPRE_CTRL_GO : Field := fld S.LTX_CDPRE_CTRL 4 1 .w1s
def S.LTX_GAIN : Shape := shape1 0x600040 4 0x4
def F.LTX_GAIN_GAIN : Field := fldR S.LTX_GAIN 0 13 .rw 1024
def S.LTX_CLIP_CNT : Shape := shape1 0x600050 4 0x4
def F.LTX_CLIP_CNT_COUNT : Field := fld S.LTX_CLIP_CNT 0 32 .rc
def S.LTX_SKEW : Shape := shape1 0x600060 4 0x4
def F.LTX_SKEW_SKEW : Field := fld S.LTX_SKEW 0 12 .rw
def S.LTX_PEQ : Shape := shape2 0x600100 4 0x40 15 0x4
def F.LTX_PEQ_TAP : Field := fldT S.LTX_PEQ 0 12 .rw 0 [0, 0, 0, 0, 0, 0, 0, 1024]
def S.LTX_PD_LUT : Shape := shape2 0x600400 4 0x200 65 0x4
def F.LTX_PD_LUT_Y : Field := fldT S.LTX_PD_LUT 0 11 .rw 0 [1536, 1552, 1568, 1584, 1600, 1616, 1632, 1648, 1664, 1680, 1696, 1712, 1728, 1744, 1760, 1776, 1792, 1808, 1824, 1840, 1856, 1872, 1888, 1904, 1920, 1936, 1952, 1968, 1984, 2000, 2016, 2032, 0, 16, 32, 48, 64, 80, 96, 112, 128, 144, 160, 176, 192, 208, 224, 240, 256, 272, 288, 304, 320, 336, 352, 368, 384, 400, 416, 432, 448, 464, 480, 496, 512]

/-! ### LRX (spec/03, register index in spec/19_register_index.md Table SYS-14) -/

def S.LRX_CTRL : Shape := shape0 0x680000
def F.LRX_CTRL_EN : Field := fld S.LRX_CTRL 0 1 .rw
def F.LRX_CTRL_CD_AUTO : Field := fldR S.LRX_CTRL 1 1 .rw 1
def F.LRX_CTRL_EQ_FREEZE : Field := fld S.LRX_CTRL 2 1 .rw
def F.LRX_CTRL_LOFB_EN : Field := fldR S.LRX_CTRL 3 1 .rw 1
def F.LRX_CTRL_RESTART : Field := fld S.LRX_CTRL 4 1 .w1s
def S.LRX_LINE_CFG : Shape := shape0 0x680004
def F.LRX_LINE_CFG_BAUD_MBD : Field := fld S.LRX_LINE_CFG 0 19 .rw
def F.LRX_LINE_CFG_SPACING : Field := fldR S.LRX_LINE_CFG 19 4 .rw 3
def F.LRX_LINE_CFG_NSC_M1 : Field := fld S.LRX_LINE_CFG 23 9 .rw
def S.LRX_STAT : Shape := shape0 0x680008
def F.LRX_STAT_STATE : Field := fld S.LRX_STAT 0 3 .ro
def F.LRX_STAT_LOS : Field := fld S.LRX_STAT 3 1 .ro
def F.LRX_STAT_BANK : Field := fld S.LRX_STAT 4 1 .ro
def F.LRX_STAT_SHADOW_READY : Field := fld S.LRX_STAT 5 1 .ro
def F.LRX_STAT_ANNOUNCED : Field := fld S.LRX_STAT 6 1 .ro
def F.LRX_STAT_CD_FADING : Field := fld S.LRX_STAT 7 1 .ro
def F.LRX_STAT_CD_ARMED : Field := fld S.LRX_STAT 8 1 .ro
def F.LRX_STAT_CD_HELD : Field := fld S.LRX_STAT 9 1 .ro
def F.LRX_STAT_LOFB_PENDING : Field := fld S.LRX_STAT 10 1 .ro
def F.LRX_STAT_LOFB_LIMIT : Field := fld S.LRX_STAT 11 1 .ro
def F.LRX_STAT_CFG_STEP : Field := fld S.LRX_STAT 12 3 .ro
def F.LRX_STAT_ERR_SC : Field := fld S.LRX_STAT 16 9 .ro
def F.LRX_STAT_ACQ_RETRY : Field := fld S.LRX_STAT 25 7 .ro
def S.LRX_RXGRP : Shape := shape0 0x68000C
def F.LRX_RXGRP_K_LO : Field := fld S.LRX_RXGRP 0 9 .rw
def F.LRX_RXGRP_K_HI : Field := fld S.LRX_RXGRP 16 9 .rw
def S.LRX_INT_CAUSE : Shape := shape0 0x680010
def F.LRX_INT_CAUSE_CFG_ERR : Field := fld S.LRX_INT_CAUSE 0 1 .w1c
def F.LRX_INT_CAUSE_TABLE_ERR : Field := fld S.LRX_INT_CAUSE 1 1 .w1c
def F.LRX_INT_CAUSE_SHADOW_LOCKED : Field := fld S.LRX_INT_CAUSE 2 1 .w1c
def F.LRX_INT_CAUSE_LOAD_SWAP : Field := fld S.LRX_INT_CAUSE 3 1 .w1c
def F.LRX_INT_CAUSE_CD_DONE : Field := fld S.LRX_INT_CAUSE 4 1 .w1c
def F.LRX_INT_CAUSE_CD_RANGE : Field := fld S.LRX_INT_CAUSE 5 1 .w1c
def F.LRX_INT_CAUSE_TRACK : Field := fld S.LRX_INT_CAUSE 6 1 .w1c
def F.LRX_INT_CAUSE_TRACK_LOST : Field := fld S.LRX_INT_CAUSE 7 1 .w1c
def F.LRX_INT_CAUSE_ACQ_TMO : Field := fld S.LRX_INT_CAUSE 8 1 .w1c
def F.LRX_INT_CAUSE_LOS_CHG : Field := fld S.LRX_INT_CAUSE 9 1 .w1c
def F.LRX_INT_CAUSE_CYCLE_SLIP : Field := fld S.LRX_INT_CAUSE 10 1 .w1c
def F.LRX_INT_CAUSE_LOFB_LIMIT : Field := fld S.LRX_INT_CAUSE 11 1 .w1c
def F.LRX_INT_CAUSE_LOFB_ERR : Field := fld S.LRX_INT_CAUSE 12 1 .w1c
def F.LRX_INT_CAUSE_SNR_LATCH : Field := fld S.LRX_INT_CAUSE 13 1 .w1c
def F.LRX_INT_CAUSE_DM_ERR : Field := fld S.LRX_INT_CAUSE 14 1 .w1c
def F.LRX_INT_CAUSE_SINGULAR : Field := fld S.LRX_INT_CAUSE 15 1 .w1c
def F.LRX_INT_CAUSE_LOAD_CANCELLED : Field := fld S.LRX_INT_CAUSE 16 1 .w1c
def S.LRX_INT_MASK : Shape := shape0 0x680014
def F.LRX_INT_MASK_MASK : Field := fld S.LRX_INT_MASK 0 17 .rw
def S.LRX_ACQ_CFG : Shape := shape0 0x680018
def F.LRX_ACQ_CFG_LOS_THR : Field := fldR S.LRX_ACQ_CFG 0 8 .rw 8
def F.LRX_ACQ_CFG_LOS_HYST : Field := fldR S.LRX_ACQ_CFG 8 4 .rw 4
def F.LRX_ACQ_CFG_HOLD_MS : Field := fldR S.LRX_ACQ_CFG 16 8 .rw 10
def F.LRX_ACQ_CFG_ACQ_TMO : Field := fldR S.LRX_ACQ_CFG 24 8 .rw 50
def S.LRX_CD : Shape := shape0 0x680030
def F.LRX_CD_D : Field := fld S.LRX_CD 0 22 .rw
def S.LRX_CD_CTRL : Shape := shape0 0x680034
def F.LRX_CD_CTRL_K : Field := fldR S.LRX_CD_CTRL 0 4 .rw 6
def F.LRX_CD_CTRL_GO : Field := fld S.LRX_CD_CTRL 4 1 .w1s
def F.LRX_CD_CTRL_ARM : Field := fld S.LRX_CD_CTRL 5 1 .w1s
def F.LRX_CD_CTRL_DISARM : Field := fld S.LRX_CD_CTRL 6 1 .w1s
def S.LRX_CD_RES : Shape := shape0 0x680038
def F.LRX_CD_RES_RES : Field := fld S.LRX_CD_RES 0 21 .rw
def S.LRX_CD_EST : Shape := shape0 0x68003C
def F.LRX_CD_EST_EST : Field := fld S.LRX_CD_EST 0 22 .ro
def F.LRX_CD_EST_VALID : Field := fld S.LRX_CD_EST 22 1 .ro
def S.LRX_EQ_CFG : Shape := shape0 0x680040
def F.LRX_EQ_CFG_TAPS : Field := fldR S.LRX_EQ_CFG 0 5 .rw 15
def F.LRX_EQ_CFG_MU_ACQ : Field := fldR S.LRX_EQ_CFG 8 4 .rw 8
def F.LRX_EQ_CFG_MU_TRK : Field := fldR S.LRX_EQ_CFG 12 4 .rw 12
def F.LRX_EQ_CFG_LOCK_SNR : Field := fldR S.LRX_EQ_CFG 16 10 .rw 96
def S.LRX_CR_CFG : Shape := shape0 0x680044
def F.LRX_CR_CFG_PH_AVG : Field := fldR S.LRX_CR_CFG 0 6 .rw 16
def F.LRX_CR_CFG_CS_EN : Field := fldR S.LRX_CR_CFG 6 1 .rw 1
def S.LRX_LOFB_CFG : Shape := shape0 0x680048
def F.LRX_LOFB_CFG_PERIOD : Field := fldR S.LRX_LOFB_CFG 0 5 .rw 16
def F.LRX_LOFB_CFG_GAIN : Field := fldR S.LRX_LOFB_CFG 8 4 .rw 4
def F.LRX_LOFB_CFG_SER_TMO : Field := fldR S.LRX_LOFB_CFG 16 8 .rw 50
def S.LRX_LOFB_STAT : Shape := shape0 0x68004C
def F.LRX_LOFB_STAT_FINE : Field := fld S.LRX_LOFB_STAT 0 10 .ro
def F.LRX_LOFB_STAT_SER : Field := fld S.LRX_LOFB_STAT 16 13 .ro
def S.LRX_CFO : Shape := shape0 0x680050
def F.LRX_CFO_TOTAL : Field := fld S.LRX_CFO 0 17 .ro
def S.LRX_SNR_CFG : Shape := shape0 0x680054
def F.LRX_SNR_CFG_WIN : Field := fldR S.LRX_SNR_CFG 0 4 .rw 2
def S.LRX_IMP : Shape := shape0 0x680058
def F.LRX_IMP_DGD : Field := fld S.LRX_IMP 0 10 .ro
def F.LRX_IMP_PDL : Field := fld S.LRX_IMP 10 10 .ro
def S.LRX_CD_RESID : Shape := shape0 0x68005C
def F.LRX_CD_RESID_RESID : Field := fld S.LRX_CD_RESID 0 16 .ro
def S.LRX_CSLIP_CNT : Shape := shape0 0x680060
def F.LRX_CSLIP_CNT_COUNT : Field := fld S.LRX_CSLIP_CNT 0 32 .rc
def S.LRX_DM_ERR_CNT : Shape := shape0 0x680064
def F.LRX_DM_ERR_CNT_COUNT : Field := fld S.LRX_DM_ERR_CNT 0 32 .rc
def S.LRX_SING_CNT : Shape := shape0 0x680068
def F.LRX_SING_CNT_COUNT : Field := fld S.LRX_SING_CNT 0 32 .rc
def S.LRX_SC_STAT : Shape := shape1 0x681000 512 0x4
def F.LRX_SC_STAT_LOCK : Field := fld S.LRX_SC_STAT 0 2 .ro
def F.LRX_SC_STAT_CSLIP : Field := fld S.LRX_SC_STAT 8 8 .rc
def S.LRX_SNR : Shape := shape1 0x681800 512 0x4
def F.LRX_SNR_SNR_X : Field := fld S.LRX_SNR 0 10 .ro
def F.LRX_SNR_SNR_Y : Field := fld S.LRX_SNR 10 10 .ro
def F.LRX_SNR_SNR : Field := fld S.LRX_SNR 20 10 .ro
def F.LRX_SNR_VALID : Field := fld S.LRX_SNR 30 1 .ro
def S.LRX_SNR_LEAF : Shape := shape1 0x682000 512 0x4
def F.LRX_SNR_LEAF_SNR_X : Field := fld S.LRX_SNR_LEAF 0 10 .ro
def F.LRX_SNR_LEAF_SNR_Y : Field := fld S.LRX_SNR_LEAF 10 10 .ro
def F.LRX_SNR_LEAF_SNR : Field := fld S.LRX_SNR_LEAF 20 10 .ro
def F.LRX_SNR_LEAF_VALID : Field := fld S.LRX_SNR_LEAF 30 1 .ro

/-! ### SCM (spec/04, 05, register index in spec/19_register_index.md Table SYS-14) -/

def S.SCM_CTRL : Shape := shape0 0x700000
def F.SCM_CTRL_AUTO_DS : Field := fld S.SCM_CTRL 0 1 .rw
def F.SCM_CTRL_AUTO_US : Field := fld S.SCM_CTRL 1 1 .rw
def S.SCM_LOAD_CFG : Shape := shape0 0x700004
def F.SCM_LOAD_CFG_MARGIN_DS : Field := fldR S.SCM_LOAD_CFG 0 8 .rw 16
def F.SCM_LOAD_CFG_MARGIN_US : Field := fldR S.SCM_LOAD_CFG 8 8 .rw 16
def F.SCM_LOAD_CFG_HYST : Field := fldR S.SCM_LOAD_CFG 16 8 .rw 8
def F.SCM_LOAD_CFG_STALE : Field := fldR S.SCM_LOAD_CFG 24 8 .rw 16
def S.SCM_GAP : Shape := shape1 0x700008 3 0x4
def F.SCM_GAP_GAP : Field := fldT S.SCM_GAP 0 8 .rw 0 [24, 20, 18]
def S.SCM_CHG_CFG : Shape := shape0 0x700014
def F.SCM_CHG_CFG_MIN_GAP : Field := fldR S.SCM_CHG_CFG 0 8 .rw 4
def F.SCM_CHG_CFG_ACK_TMO : Field := fldR S.SCM_CHG_CFG 8 8 .rw 8
def S.SCM_CHG_CTRL : Shape := shape0 0x700018
def F.SCM_CHG_CTRL_COMMIT_DS : Field := fld S.SCM_CHG_CTRL 0 1 .w1s
def F.SCM_CHG_CTRL_COMMIT_US : Field := fld S.SCM_CHG_CTRL 1 1 .w1s
def F.SCM_CHG_CTRL_ABORT_DS : Field := fld S.SCM_CHG_CTRL 2 1 .w1s
def F.SCM_CHG_CTRL_ABORT_US : Field := fld S.SCM_CHG_CTRL 3 1 .w1s
def S.SCM_CHG_STAT : Shape := shape0 0x70001C
def F.SCM_CHG_STAT_DS_STATE : Field := fld S.SCM_CHG_STAT 0 2 .ro
def F.SCM_CHG_STAT_DS_VER : Field := fld S.SCM_CHG_STAT 2 8 .ro
def F.SCM_CHG_STAT_US_STATE : Field := fld S.SCM_CHG_STAT 10 2 .ro
def F.SCM_CHG_STAT_US_VER : Field := fld S.SCM_CHG_STAT 12 8 .ro
def F.SCM_CHG_STAT_MIS_LEAF : Field := fld S.SCM_CHG_STAT 20 9 .ro
def S.SCM_INT_CAUSE : Shape := shape0 0x700020
def F.SCM_INT_CAUSE_SWAP : Field := fld S.SCM_INT_CAUSE 0 1 .w1c
def F.SCM_INT_CAUSE_CHG_FAIL : Field := fld S.SCM_INT_CAUSE 1 1 .w1c
def F.SCM_INT_CAUSE_BUSY : Field := fld S.SCM_INT_CAUSE 2 1 .w1c
def F.SCM_INT_CAUSE_LATE_SWAP : Field := fld S.SCM_INT_CAUSE 3 1 .w1c
def F.SCM_INT_CAUSE_VER_MISMATCH : Field := fld S.SCM_INT_CAUSE 4 1 .w1c
def F.SCM_INT_CAUSE_SHORT : Field := fld S.SCM_INT_CAUSE 5 1 .w1c
def S.SCM_INT_MASK : Shape := shape0 0x700024
def F.SCM_INT_MASK_MASK : Field := fld S.SCM_INT_MASK 0 6 .rw
def S.SCM_GRANT_CTRL : Shape := shape0 0x700028
def F.SCM_GRANT_CTRL_COMMIT : Field := fld S.SCM_GRANT_CTRL 0 1 .w1s
def F.SCM_GRANT_CTRL_ABORT : Field := fld S.SCM_GRANT_CTRL 1 1 .w1s
def S.SCM_GRANT_STAT : Shape := shape0 0x70002C
def F.SCM_GRANT_STAT_STATE : Field := fld S.SCM_GRANT_STAT 0 2 .ro
def F.SCM_GRANT_STAT_VER : Field := fld S.SCM_GRANT_STAT 2 8 .ro
def F.SCM_GRANT_STAT_ERR : Field := fld S.SCM_GRANT_STAT 10 1 .w1c
def S.SCM_NAK_MAP : Shape := shape1 0x700040 16 0x4
def F.SCM_NAK_MAP_LEAF : Field := fld S.SCM_NAK_MAP 0 32 .w1c
def S.SCM_DS_NEXT : Shape := shape1 0x701000 512 0x4
def F.SCM_DS_NEXT_ENTRY : Field := fld S.SCM_DS_NEXT 0 32 .rw
def S.SCM_US_NEXT : Shape := shape1 0x701800 512 0x4
def F.SCM_US_NEXT_ENTRY : Field := fld S.SCM_US_NEXT 0 32 .rw
def S.SCM_DS_ACT : Shape := shape1 0x702000 512 0x4
def F.SCM_DS_ACT_ENTRY : Field := fld S.SCM_DS_ACT 0 32 .ro
def S.SCM_US_ACT : Shape := shape1 0x702800 512 0x4
def F.SCM_US_ACT_ENTRY : Field := fld S.SCM_US_ACT 0 32 .ro
def S.SCM_DS_SNR : Shape := shape1 0x703000 512 0x4
def F.SCM_DS_SNR_SNR_X : Field := fld S.SCM_DS_SNR 0 10 .ro
def F.SCM_DS_SNR_SNR_Y : Field := fld S.SCM_DS_SNR 10 10 .ro
def F.SCM_DS_SNR_SNR : Field := fld S.SCM_DS_SNR 20 10 .ro
def F.SCM_DS_SNR_VALID : Field := fld S.SCM_DS_SNR 30 1 .ro
def S.SCM_SC_FLAG : Shape := shape1 0x703800 512 0x4
def F.SCM_SC_FLAG_STALE : Field := fld S.SCM_SC_FLAG 0 1 .ro
def F.SCM_SC_FLAG_SHORT : Field := fld S.SCM_SC_FLAG 1 1 .ro
def F.SCM_SC_FLAG_OVER : Field := fld S.SCM_SC_FLAG 2 1 .ro
def F.SCM_SC_FLAG_US_STALE : Field := fld S.SCM_SC_FLAG 16 1 .ro
def F.SCM_SC_FLAG_US_SHORT : Field := fld S.SCM_SC_FLAG 17 1 .ro
def F.SCM_SC_FLAG_US_OVER : Field := fld S.SCM_SC_FLAG 18 1 .ro
def S.SCM_GRANT_SC : Shape := shape1 0x704000 64 0x4
def F.SCM_GRANT_SC_SC : Field := fld S.SCM_GRANT_SC 0 9 .rw
def F.SCM_GRANT_SC_EN : Field := fld S.SCM_GRANT_SC 9 1 .rw
def S.SCM_GRANT_NEXT : Shape := shape2 0x706000 64 0x80 32 0x4
def F.SCM_GRANT_NEXT_LEAF_E : Field := fld S.SCM_GRANT_NEXT 0 9 .rw
def F.SCM_GRANT_NEXT_VAL_E : Field := fld S.SCM_GRANT_NEXT 9 1 .rw
def F.SCM_GRANT_NEXT_LEAF_O : Field := fld S.SCM_GRANT_NEXT 16 9 .rw
def F.SCM_GRANT_NEXT_VAL_O : Field := fld S.SCM_GRANT_NEXT 25 1 .rw
def S.SCM_GRANT_ACT : Shape := shape2 0x708000 64 0x80 32 0x4
def F.SCM_GRANT_ACT_LEAF_E : Field := fld S.SCM_GRANT_ACT 0 9 .ro
def F.SCM_GRANT_ACT_VAL_E : Field := fld S.SCM_GRANT_ACT 9 1 .ro
def F.SCM_GRANT_ACT_LEAF_O : Field := fld S.SCM_GRANT_ACT 16 9 .ro
def F.SCM_GRANT_ACT_VAL_O : Field := fld S.SCM_GRANT_ACT 25 1 .ro

/-! ### BRX (spec/06, register index in spec/19_register_index.md Table SYS-14) -/

def S.BRX_CTRL : Shape := shape0 0x740000
def F.BRX_CTRL_EN : Field := fld S.BRX_CTRL 0 1 .rw
def F.BRX_CTRL_WIDEN : Field := fldR S.BRX_CTRL 1 2 .rw 1
def S.BRX_DET_CFG : Shape := shape0 0x740004
def F.BRX_DET_CFG_Q_THR : Field := fldR S.BRX_DET_CFG 0 8 .rw 120
def S.BRX_RESTART_MARGIN : Shape := shape0 0x740008
def F.BRX_RESTART_MARGIN_MARGIN : Field := fldR S.BRX_RESTART_MARGIN 0 8 .rw 30
def S.BRX_CAPTURE_MARGIN : Shape := shape0 0x74000C
def F.BRX_CAPTURE_MARGIN_MARGIN : Field := fldR S.BRX_CAPTURE_MARGIN 0 8 .rw 60
def S.BRX_INT_CAUSE : Shape := shape0 0x740010
def F.BRX_INT_CAUSE_CFG_ERR : Field := fld S.BRX_INT_CAUSE 0 1 .w1c
def F.BRX_INT_CAUSE_REC_AVAIL : Field := fld S.BRX_INT_CAUSE 1 1 .w1c
def F.BRX_INT_CAUSE_COLLISION : Field := fld S.BRX_INT_CAUSE 2 1 .w1c
def F.BRX_INT_CAUSE_PREEMPTED : Field := fld S.BRX_INT_CAUSE 3 1 .w1c
def F.BRX_INT_CAUSE_TRUNCATED : Field := fld S.BRX_INT_CAUSE 4 1 .w1c
def F.BRX_INT_CAUSE_DROP : Field := fld S.BRX_INT_CAUSE 5 1 .w1c
def F.BRX_INT_CAUSE_CH_OFF : Field := fld S.BRX_INT_CAUSE 6 1 .w1c
def S.BRX_INT_MASK : Shape := shape0 0x740014
def F.BRX_INT_MASK_MASK : Field := fld S.BRX_INT_MASK 0 7 .rw
def S.BRX_STAT : Shape := shape0 0x740018
def F.BRX_STAT_CH : Field := fld S.BRX_STAT 0 12 .ro
def F.BRX_STAT_CFG_STEP : Field := fld S.BRX_STAT 12 3 .ro
def S.BRX_ENG_CFG : Shape := shape0 0x74001C
def F.BRX_ENG_CFG_DROP : Field := fldR S.BRX_ENG_CFG 0 8 .rw 100
def F.BRX_ENG_CFG_ABS_THR : Field := fldR S.BRX_ENG_CFG 8 10 .rw 120
def S.BRX_REC_STAT : Shape := shape0 0x740020
def F.BRX_REC_STAT_COUNT : Field := fld S.BRX_REC_STAT 0 9 .ro
def S.BRX_REC_POP : Shape := shape0 0x740024
def F.BRX_REC_POP_POP : Field := fld S.BRX_REC_POP 0 1 .w1s
def S.BRX_COL_STAT : Shape := shape0 0x740028
def F.BRX_COL_STAT_COUNT : Field := fld S.BRX_COL_STAT 0 9 .ro
def F.BRX_COL_STAT_HEAD_DONE : Field := fld S.BRX_COL_STAT 9 1 .ro
def S.BRX_COL_POP : Shape := shape0 0x74002C
def F.BRX_COL_POP_POP : Field := fld S.BRX_COL_POP 0 1 .w1s
def S.BRX_DROP_CNT : Shape := shape0 0x740030
def F.BRX_DROP_CNT_REC : Field := fld S.BRX_DROP_CNT 0 16 .rc
def F.BRX_DROP_CNT_COL : Field := fld S.BRX_DROP_CNT 16 16 .rc
def S.BRX_REC_DATA : Shape := shape1 0x740040 8 0x4
def F.BRX_REC_DATA_DATA : Field := fld S.BRX_REC_DATA 0 32 .ro
def S.BRX_COL_DATA : Shape := shape1 0x740060 4 0x4
def F.BRX_COL_DATA_DATA : Field := fld S.BRX_COL_DATA 0 32 .ro
def S.BRX_CNT : Shape := shape2 0x740100 4 0x40 11 0x4
def F.BRX_CNT_COUNT : Field := fld S.BRX_CNT 0 32 .rc
def S.BRX_SC_ABSENT : Shape := shape1 0x740200 16 0x4
def F.BRX_SC_ABSENT_SC : Field := fld S.BRX_SC_ABSENT 0 32 .ro

/-! ### VLK (spec/05, register index in spec/19_register_index.md Table SYS-14) -/

def S.VLK_CTRL : Shape := shape0 0x780000
def F.VLK_CTRL_EN : Field := fld S.VLK_CTRL 0 1 .rw
def F.VLK_CTRL_AUTO_RANGE : Field := fldR S.VLK_CTRL 1 1 .rw 1
def F.VLK_CTRL_AUTO_FREQ : Field := fldR S.VLK_CTRL 2 1 .rw 1
def F.VLK_CTRL_REG_OPEN : Field := fld S.VLK_CTRL 3 1 .rw
def F.VLK_CTRL_REG_GO : Field := fld S.VLK_CTRL 4 1 .w1s
def S.VLK_TREE_CFG : Shape := shape0 0x780004
def F.VLK_TREE_CFG_TREE_ID : Field := fldR S.VLK_TREE_CFG 0 16 .rw 65535
def F.VLK_TREE_CFG_FEEDER : Field := fld S.VLK_TREE_CFG 16 1 .ro
def S.VLK_T_EQ : Shape := shape0 0x780008
def F.VLK_T_EQ_T_EQ : Field := fldR S.VLK_T_EQ 0 24 .rw 5200000
def S.VLK_REG_CFG : Shape := shape0 0x78000C
def F.VLK_REG_CFG_RSC_M1 : Field := fld S.VLK_REG_CFG 0 2 .rw
def F.VLK_REG_CFG_REG_TMO : Field := fldR S.VLK_REG_CFG 8 8 .rw 64
def F.VLK_REG_CFG_RETRY_MAX : Field := fldR S.VLK_REG_CFG 16 8 .rw 16
def S.VLK_REG_SC : Shape := shape1 0x780010 4 0x4
def F.VLK_REG_SC_SC : Field := fld S.VLK_REG_SC 0 9 .rw
def S.VLK_US_OFS : Shape := shape0 0x780020
def F.VLK_US_OFS_OFS : Field := fld S.VLK_US_OFS 0 16 .rw
def S.VLK_RETX_CFG : Shape := shape0 0x780024
def F.VLK_RETX_CFG_RETX_TMO : Field := fldR S.VLK_RETX_CFG 0 8 .rw 8
def F.VLK_RETX_CFG_RETX_MAX : Field := fldR S.VLK_RETX_CFG 8 4 .rw 4
def S.VLK_RANGE_CFG : Shape := shape0 0x780028
def F.VLK_RANGE_CFG_TRIG : Field := fldR S.VLK_RANGE_CFG 0 8 .rw 8
def F.VLK_RANGE_CFG_AVG : Field := fldR S.VLK_RANGE_CFG 8 8 .rw 16
def F.VLK_RANGE_CFG_LOST_MF : Field := fldR S.VLK_RANGE_CFG 16 8 .rw 32
def S.VLK_STAT : Shape := shape0 0x78002C
def F.VLK_STAT_ACTIVE_CNT : Field := fld S.VLK_STAT 0 10 .ro
def F.VLK_STAT_LAST_LEAF : Field := fld S.VLK_STAT 10 10 .ro
def F.VLK_STAT_DUP_REQ : Field := fld S.VLK_STAT 20 8 .rc
def S.VLK_INT_CAUSE : Shape := shape0 0x780030
def F.VLK_INT_CAUSE_RX_AVAIL : Field := fld S.VLK_INT_CAUSE 0 1 .w1c
def F.VLK_INT_CAUSE_RETX_FAIL : Field := fld S.VLK_INT_CAUSE 1 1 .w1c
def F.VLK_INT_CAUSE_REREG : Field := fld S.VLK_INT_CAUSE 2 1 .w1c
def F.VLK_INT_CAUSE_DUP_ID : Field := fld S.VLK_INT_CAUSE 3 1 .w1c
def F.VLK_INT_CAUSE_LEAF_LOST : Field := fld S.VLK_INT_CAUSE 4 1 .w1c
def F.VLK_INT_CAUSE_WAKE_TMO : Field := fld S.VLK_INT_CAUSE 5 1 .w1c
def F.VLK_INT_CAUSE_GRANT_SWAP : Field := fld S.VLK_INT_CAUSE 6 1 .w1c
def F.VLK_INT_CAUSE_GRANT_FAIL : Field := fld S.VLK_INT_CAUSE 7 1 .w1c
def F.VLK_INT_CAUSE_FREQ_FAIL : Field := fld S.VLK_INT_CAUSE 8 1 .w1c
def F.VLK_INT_CAUSE_GROUP_ERR : Field := fld S.VLK_INT_CAUSE 9 1 .w1c
def F.VLK_INT_CAUSE_REG_GIVEUP : Field := fld S.VLK_INT_CAUSE 10 1 .w1c
def F.VLK_INT_CAUSE_STATE_CHG : Field := fld S.VLK_INT_CAUSE 11 1 .w1c
def F.VLK_INT_CAUSE_REST_HELD : Field := fld S.VLK_INT_CAUSE 12 1 .w1c
def F.VLK_INT_CAUSE_CFG_ERR : Field := fld S.VLK_INT_CAUSE 13 1 .w1c
def S.VLK_INT_MASK : Shape := shape0 0x780034
def F.VLK_INT_MASK_MASK : Field := fld S.VLK_INT_MASK 0 14 .rw
def S.VLK_CRC_ERR_CNT : Shape := shape0 0x780040
def F.VLK_CRC_ERR_CNT_COUNT : Field := fld S.VLK_CRC_ERR_CNT 0 32 .rc
def S.VLK_RETX_CNT : Shape := shape0 0x780044
def F.VLK_RETX_CNT_COUNT : Field := fld S.VLK_RETX_CNT 0 32 .rc
def S.VLK_RX_DROP_CNT : Shape := shape0 0x780048
def F.VLK_RX_DROP_CNT_COUNT : Field := fld S.VLK_RX_DROP_CNT 0 32 .rc
def S.VLK_SELF : Shape := shape0 0x780050
def F.VLK_SELF_LEAF : Field := fldR S.VLK_SELF 0 9 .ro 511
def F.VLK_SELF_SILENT : Field := fldR S.VLK_SELF 9 1 .ro 1
def F.VLK_SELF_STATE : Field := fld S.VLK_SELF 10 3 .ro
def F.VLK_SELF_MEMBER : Field := fld S.VLK_SELF 16 6 .ro
def S.VLK_SELF_EQD : Shape := shape1 0x780054 2 0x4
def F.VLK_SELF_EQD_EQD : Field := fld S.VLK_SELF_EQD 0 24 .ro
def F.VLK_SELF_EQD_VALID : Field := fld S.VLK_SELF_EQD 24 1 .ro
def S.VLK_REST_CFG : Shape := shape0 0x780060
def F.VLK_REST_CFG_LEAD_US : Field := fldR S.VLK_REST_CFG 0 12 .rw 2000
def F.VLK_REST_CFG_LOST_MS : Field := fldR S.VLK_REST_CFG 12 8 .rw 100
def F.VLK_REST_CFG_WAKE_TMO : Field := fldR S.VLK_REST_CFG 20 8 .rw 4
def S.VLK_WAKE : Shape := shape0 0x780064
def F.VLK_WAKE_LEAF : Field := fld S.VLK_WAKE 0 9 .wo
def S.VLK_TXPOST : Shape := shape1 0x780080 8 0x4
def F.VLK_TXPOST_LEN : Field := fld S.VLK_TXPOST 0 11 .rw
def F.VLK_TXPOST_BEACON : Field := fld S.VLK_TXPOST 16 9 .rw
def F.VLK_TXPOST_GO : Field := fld S.VLK_TXPOST 31 1 .w1s
def S.VLK_RXSTAT : Shape := shape0 0x7800A0
def F.VLK_RXSTAT_LEN : Field := fld S.VLK_RXSTAT 0 11 .ro
def F.VLK_RXSTAT_COUNT : Field := fld S.VLK_RXSTAT 16 6 .ro
def S.VLK_RXPOP : Shape := shape0 0x7800A4
def F.VLK_RXPOP_POP : Field := fld S.VLK_RXPOP 0 1 .w1s
def S.VLK_TXBUF : Shape := shape2 0x781000 8 0x400 256 0x4
def F.VLK_TXBUF_DATA : Field := fld S.VLK_TXBUF 0 32 .rw
def S.VLK_RXBUF : Shape := shape1 0x783000 256 0x4
def F.VLK_RXBUF_DATA : Field := fld S.VLK_RXBUF 0 32 .ro
def S.VLK_LEAF : Shape := shape1 0x784000 512 0x4
def F.VLK_LEAF_STATE : Field := fld S.VLK_LEAF 0 3 .rw
def F.VLK_LEAF_BEACON : Field := fld S.VLK_LEAF 4 9 .rw
def F.VLK_LEAF_MEMBER : Field := fld S.VLK_LEAF 13 6 .rw
def S.VLK_LEAF_EQD : Shape := shape2 0x785000 512 0x8 2 0x4
def F.VLK_LEAF_EQD_EQD : Field := fld S.VLK_LEAF_EQD 0 24 .rw
def F.VLK_LEAF_EQD_VALID : Field := fld S.VLK_LEAF_EQD 24 1 .rw
def S.VLK_LEAF_ID : Shape := shape2 0x786000 512 0x8 2 0x4
def F.VLK_LEAF_ID_ID : Field := fld S.VLK_LEAF_ID 0 32 .rw

/-! ### CVT (spec/02, 03, register index in spec/19_register_index.md Table SYS-14) -/

def S.CVT_DAC_FS : Shape := shape0 0x7C0000
def F.CVT_DAC_FS_FS_MHZ : Field := fld S.CVT_DAC_FS 0 19 .rw
def S.CVT_DAC_CFG : Shape := shape1 0x7C0010 4 0x4
def F.CVT_DAC_CFG_EN : Field := fld S.CVT_DAC_CFG 0 1 .rw
def F.CVT_DAC_CFG_SRC : Field := fldT S.CVT_DAC_CFG 1 2 .rw 0 [0, 1, 2, 3]
def F.CVT_DAC_CFG_INV : Field := fld S.CVT_DAC_CFG 3 1 .rw
def F.CVT_DAC_CFG_SWING_MV : Field := fldR S.CVT_DAC_CFG 4 10 .rw 600
def S.CVT_DAC_STAT : Shape := shape0 0x7C0020
def F.CVT_DAC_STAT_CLK_LOCK : Field := fld S.CVT_DAC_STAT 0 1 .ro
def F.CVT_DAC_STAT_READY : Field := fld S.CVT_DAC_STAT 1 4 .ro
def F.CVT_DAC_STAT_WRITE_REFUSED : Field := fld S.CVT_DAC_STAT 8 1 .w1c
def F.CVT_DAC_STAT_MAP_ERR : Field := fld S.CVT_DAC_STAT 9 1 .w1c
def S.CVT_ADC_FS : Shape := shape0 0x7C0040
def F.CVT_ADC_FS_FS_MHZ : Field := fld S.CVT_ADC_FS 0 19 .rw
def S.CVT_ADC_CFG : Shape := shape1 0x7C0050 4 0x4
def F.CVT_ADC_CFG_EN : Field := fld S.CVT_ADC_CFG 0 1 .rw
def F.CVT_ADC_CFG_SRC : Field := fldT S.CVT_ADC_CFG 1 2 .rw 0 [0, 1, 2, 3]
def F.CVT_ADC_CFG_INV : Field := fld S.CVT_ADC_CFG 3 1 .rw
def F.CVT_ADC_CFG_FS_MV : Field := fldR S.CVT_ADC_CFG 4 10 .rw 400
def S.CVT_ADC_STAT : Shape := shape0 0x7C0060
def F.CVT_ADC_STAT_CLK_LOCK : Field := fld S.CVT_ADC_STAT 0 1 .ro
def F.CVT_ADC_STAT_READY : Field := fld S.CVT_ADC_STAT 1 4 .ro
def F.CVT_ADC_STAT_WRITE_REFUSED : Field := fld S.CVT_ADC_STAT 8 1 .w1c
def F.CVT_ADC_STAT_MAP_ERR : Field := fld S.CVT_ADC_STAT 9 1 .w1c
def S.CVT_ADC_LVL : Shape := shape1 0x7C0070 4 0x4
def F.CVT_ADC_LVL_RMS : Field := fld S.CVT_ADC_LVL 0 10 .ro
def F.CVT_ADC_LVL_OVR : Field := fld S.CVT_ADC_LVL 16 16 .rc

/-! ### LSR (spec/14, register index in spec/19_register_index.md Table SYS-14) -/

def S.LSR_CTRL : Shape := shape0 0x7E0000
def F.LSR_CTRL_SIG_EN : Field := fld S.LSR_CTRL 0 1 .rw
def F.LSR_CTRL_SER_EN : Field := fld S.LSR_CTRL 1 2 .rw
def S.LSR_STAT : Shape := shape0 0x7E0004
def F.LSR_STAT_LASER_EN : Field := fld S.LSR_STAT 0 1 .ro
def F.LSR_STAT_HOLD : Field := fldR S.LSR_STAT 1 3 .ro 1
def F.LSR_STAT_SER_BUSY : Field := fld S.LSR_STAT 4 2 .ro
def S.LSR_INT_CAUSE : Shape := shape0 0x7E0010
def F.LSR_INT_CAUSE_SER_DONE : Field := fld S.LSR_INT_CAUSE 0 1 .w1c
def F.LSR_INT_CAUSE_SER_ERR : Field := fld S.LSR_INT_CAUSE 1 1 .w1c
def F.LSR_INT_CAUSE_OWNED : Field := fld S.LSR_INT_CAUSE 2 1 .w1c
def F.LSR_INT_CAUSE_CFG_ERR : Field := fld S.LSR_INT_CAUSE 3 1 .w1c
def F.LSR_INT_CAUSE_LOOP_LIMIT : Field := fld S.LSR_INT_CAUSE 4 1 .w1c
def S.LSR_INT_MASK : Shape := shape0 0x7E0014
def F.LSR_INT_MASK_MASK : Field := fld S.LSR_INT_MASK 0 5 .rw
def S.LSR_SER_CFG : Shape := shape0 0x7E0018
def F.LSR_SER_CFG_BAUD : Field := fld S.LSR_SER_CFG 0 2 .rw
def S.LSR_SER_CMD : Shape := shape1 0x7E0020 2 0x8
def F.LSR_SER_CMD_FRAME : Field := fld S.LSR_SER_CMD 0 32 .rw
def S.LSR_SER_RESP : Shape := shape1 0x7E0024 2 0x8
def F.LSR_SER_RESP_FRAME : Field := fld S.LSR_SER_RESP 0 32 .ro
def S.LSR_FT_CFG : Shape := shape1 0x7E0040 2 0x4
def F.LSR_FT_CFG_GAIN_KHZ : Field := fldR S.LSR_FT_CFG 0 16 .rw 250
def S.LSR_FT_OUT : Shape := shape1 0x7E0048 2 0x4
def F.LSR_FT_OUT_MHZ : Field := fld S.LSR_FT_OUT 0 10 .rw
def F.LSR_FT_OUT_LIMIT : Field := fld S.LSR_FT_OUT 10 1 .ro
def F.LSR_FT_OUT_OWNER : Field := fld S.LSR_FT_OUT 11 2 .ro
def S.LSR_LOOP_CFG : Shape := shape1 0x7E0100 8 0x10
def F.LSR_LOOP_CFG_EN : Field := fld S.LSR_LOOP_CFG 0 1 .rw
def F.LSR_LOOP_CFG_IN_F : Field := fld S.LSR_LOOP_CFG 1 3 .rw
def F.LSR_LOOP_CFG_IN_DET : Field := fld S.LSR_LOOP_CFG 4 2 .rw
def F.LSR_LOOP_CFG_TARGET : Field := fld S.LSR_LOOP_CFG 6 4 .rw
def F.LSR_LOOP_CFG_KI : Field := fldR S.LSR_LOOP_CFG 10 5 .rw 8
def F.LSR_LOOP_CFG_SIGN : Field := fld S.LSR_LOOP_CFG 15 1 .rw
def S.LSR_LOOP_SET : Shape := shape1 0x7E0104 8 0x10
def F.LSR_LOOP_SET_SET : Field := fld S.LSR_LOOP_SET 0 24 .rw
def S.LSR_LOOP_LIM : Shape := shape1 0x7E0108 8 0x10
def F.LSR_LOOP_LIM_MIN : Field := fld S.LSR_LOOP_LIM 0 16 .rw
def F.LSR_LOOP_LIM_MAX : Field := fldR S.LSR_LOOP_LIM 16 16 .rw 65535
def S.LSR_LOOP_STAT : Shape := shape1 0x7E010C 8 0x10
def F.LSR_LOOP_STAT_U : Field := fld S.LSR_LOOP_STAT 0 16 .ro
def F.LSR_LOOP_STAT_AT_LIMIT : Field := fld S.LSR_LOOP_STAT 16 1 .ro

/-! ### PEER (spec/16, register index in spec/19_register_index.md Table SYS-14) -/

def S.PEER_CTRL : Shape := shape0 0x7F0000
def F.PEER_CTRL_EN : Field := fld S.PEER_CTRL 0 1 .rw
def F.PEER_CTRL_SWITCH : Field := fld S.PEER_CTRL 1 1 .w1s
def F.PEER_CTRL_FORCE_ACTIVE : Field := fld S.PEER_CTRL 2 1 .w1s
def F.PEER_CTRL_AUTO_EQD : Field := fldR S.PEER_CTRL 3 1 .rw 1
def S.PEER_CFG : Shape := shape0 0x7F0004
def F.PEER_CFG_FEEDER : Field := fld S.PEER_CFG 0 1 .rw
def F.PEER_CFG_PREFER : Field := fld S.PEER_CFG 1 1 .rw
def F.PEER_CFG_REACH : Field := fld S.PEER_CFG 2 2 .rw
def F.PEER_CFG_SOLO_OK : Field := fld S.PEER_CFG 4 1 .rw
def F.PEER_CFG_DARK_MS : Field := fldR S.PEER_CFG 5 7 .rw 10
def F.PEER_CFG_LASER_MS : Field := fldR S.PEER_CFG 12 6 .rw 20
def F.PEER_CFG_MUTE_MS : Field := fldR S.PEER_CFG 18 6 .rw 5
def F.PEER_CFG_LINK_WAIT_S : Field := fldR S.PEER_CFG 24 8 .rw 60
def S.PEER_STAT : Shape := shape0 0x7F0008
def F.PEER_STAT_STATE : Field := fld S.PEER_STAT 0 3 .ro
def F.PEER_STAT_LINK : Field := fld S.PEER_STAT 3 1 .ro
def F.PEER_STAT_LANE_LOCK : Field := fld S.PEER_STAT 4 4 .ro
def F.PEER_STAT_PHASE_OK : Field := fld S.PEER_STAT 8 1 .ro
def F.PEER_STAT_MISMATCH : Field := fld S.PEER_STAT 9 1 .ro
def F.PEER_STAT_LAST_TRIG : Field := fld S.PEER_STAT 10 2 .ro
def S.PEER_INT_CAUSE : Shape := shape0 0x7F0010
def F.PEER_INT_CAUSE_LINK_CHG : Field := fld S.PEER_INT_CAUSE 0 1 .w1c
def F.PEER_INT_CAUSE_STATE_CHG : Field := fld S.PEER_INT_CAUSE 1 1 .w1c
def F.PEER_INT_CAUSE_TAKEOVER : Field := fld S.PEER_INT_CAUSE 2 1 .w1c
def F.PEER_INT_CAUSE_SYNC_DONE : Field := fld S.PEER_INT_CAUSE 3 1 .w1c
def F.PEER_INT_CAUSE_SWITCH_REFUSED : Field := fld S.PEER_INT_CAUSE 4 1 .w1c
def F.PEER_INT_CAUSE_SPLIT : Field := fld S.PEER_INT_CAUSE 5 1 .w1c
def F.PEER_INT_CAUSE_MISMATCH : Field := fld S.PEER_INT_CAUSE 6 1 .w1c
def F.PEER_INT_CAUSE_MIRRORED : Field := fld S.PEER_INT_CAUSE 7 1 .w1c
def F.PEER_INT_CAUSE_EQD_UPD : Field := fld S.PEER_INT_CAUSE 8 1 .w1c
def S.PEER_INT_MASK : Shape := shape0 0x7F0014
def F.PEER_INT_MASK_MASK : Field := fld S.PEER_INT_MASK 0 9 .rw
def S.PEER_DELAY : Shape := shape0 0x7F0018
def F.PEER_DELAY_DELAY : Field := fld S.PEER_DELAY 0 20 .ro
def S.PEER_TAKE_CNT : Shape := shape0 0x7F001C
def F.PEER_TAKE_CNT_COUNT : Field := fld S.PEER_TAKE_CNT 0 32 .rws
def S.PEER_EQD_CFG : Shape := shape0 0x7F0020
def F.PEER_EQD_CFG_WIN_US : Field := fldR S.PEER_EQD_CFG 0 8 .rw 50
def F.PEER_EQD_CFG_AVG : Field := fldR S.PEER_EQD_CFG 8 8 .rw 16
def S.PEER_EQD_MEAS : Shape := shape1 0x7F1000 512 0x4
def F.PEER_EQD_MEAS_EQD : Field := fld S.PEER_EQD_MEAS 0 24 .ro
def F.PEER_EQD_MEAS_VALID : Field := fld S.PEER_EQD_MEAS 24 1 .ro

end Sys2Proof.Machine
end

