-- ==== Sys2Proof/Machine/Hidden.lean ====
section
/-! DEFINITION. Sys2Proof/Machine/Hidden.lean: the state the spec gives the blocks beside their registers, where it is a number,
a flag or an array of them: banks, timers, counters, runs. Each is held like a register field, above the register space at
0x400_0000 + 0x100_0000 × (block number), so that a reset of a block clears both alike. -/
namespace Sys2Proof.Machine

/-- R14: bridge b has been prefilled. -/
def H.PWR_PREFILLED : Field := fld (shape1 0x7000000 646 0x1) 0 1 .ro

/-- R14: bit m, monitor m is armed. -/
def H.PWR_ARMED : Field := fld (shape0 0x7000288) 0 16 .ro

/-- R352: the unrounded target of the last request, in half millivolts. -/
def H.PWR_TARGET : Field := fldR (shape0 0x7000290) 0 16 .ro 1700

/-- R22: a request of the minimum waits for the one in progress. -/
def H.PWR_VMIN_WAITS : Field := fld (shape0 0x7000298) 0 1 .ro

/-- R22: the request in progress is one of the minimum. -/
def H.PWR_VMIN_ASKED : Field := fld (shape0 0x70002A0) 0 1 .ro

/-- R22: a request of the minimum timed out; it is made again when the host clears AVS_FAIL. -/
def H.PWR_VMIN_FAILED : Field := fld (shape0 0x70002A8) 0 1 .ro

/-- R21: bit a, action a (0 transmit mute, 1 receive safe, 2 upstream safe, 3 peer hold) is released and ends at the next frame. -/
def H.PWR_RELEASING : Field := fld (shape0 0x70002B0) 0 4 .ro

/-- R22: LTX holds a commanded rate increase until a request is acknowledged. -/
def H.PWR_HOLD_TX : Field := fld (shape0 0x70002B8) 0 1 .ro

/-- R22: LRX holds a commanded rate increase until a request is acknowledged. -/
def H.PWR_HOLD_RX : Field := fld (shape0 0x70002C0) 0 1 .ro

/-- R89: the position of subcarrier k's transmit stream, modulo the superblock. -/
def H.FEC_TX_POS : Field := fld (shape1 0x15000000 512 0x4) 0 32 .ro

/-- R89: the stream position subcarrier k's receiver last read in FEC_PH. -/
def H.FEC_RX_POS : Field := fld (shape1 0x15000800 512 0x4) 0 32 .ro

/-- R89: subcarrier k's receiver has read FEC_PH and decodes. -/
def H.FEC_RX_ON : Field := fld (shape1 0x15001000 512 0x1) 0 1 .ro

/-- R92: corrected bits of the running second. -/
def H.FEC_LIVE_CBITS : Field := fld (shape1 0x15001200 512 0x8) 0 48 .ro

/-- R92: good codewords of the running second. -/
def H.FEC_LIVE_CW : Field := fld (shape1 0x15002200 512 0x4) 0 32 .ro

/-- R92: LDPC failures of the running second. -/
def H.FEC_LIVE_LDPC : Field := fld (shape1 0x15002A00 512 0x4) 0 16 .ro

/-- R92: uncorrected staircase rows of the running second. -/
def H.FEC_LIVE_ROWS : Field := fld (shape1 0x15003200 512 0x4) 0 16 .ro

/-- R92: codewords not decoded in the running second. -/
def H.FEC_LIVE_INVAL : Field := fld (shape1 0x15003A00 512 0x4) 0 32 .ro

/-- R92: codewords of the running second by iterations. -/
def H.FEC_LIVE_HIST : Field := fld (shape1 0x15004200 19 0x4) 0 32 .ro

/-- R35, R36: the active loading bank. -/
def H.LTX_ACTIVE : Field := fld (shape1 0x16000000 512 0x4) 0 32 .ro

/-- R35, R36: the shadow loading bank. -/
def H.LTX_SHADOW : Field := fld (shape1 0x16000800 512 0x4) 0 32 .ro

/-- R81: the version of the active bank. -/
def H.LTX_ACT_VER : Field := fld (shape0 0x16001000) 0 8 .ro

/-- R81: the version of the shadow bank. -/
def H.LTX_SHADOW_VER : Field := fld (shape0 0x16001008) 0 8 .ro

/-- R36: an exchange is scheduled. -/
def H.LTX_SWAP_DUE : Field := fld (shape0 0x16001010) 0 1 .ro

/-- R36: the multiframe at whose frame 0 the banks exchange. -/
def H.LTX_SWAP_MF : Field := fld (shape0 0x16001018) 0 24 .ro

/-- R42: the active pre-emphasis bank. -/
def H.LTX_PEQ_ACTIVE : Field := fldT (shape2 0x16001020 4 0x3C 15 0x4) 0 12 .ro 0 [0, 0, 0, 0, 0, 0, 0, 1024]

/-- R43: the active pre-distortion bank. -/
def H.LTX_PD_ACTIVE : Field := fldT (shape2 0x16001110 4 0x104 65 0x4) 0 11 .ro 0 [1536, 1552, 1568, 1584, 1600, 1616, 1632, 1648, 1664, 1680, 1696, 1712, 1728, 1744, 1760, 1776, 1792, 1808, 1824, 1840, 1856, 1872, 1888, 1904, 1920, 1936, 1952, 1968, 1984, 2000, 2016, 2032, 0, 16, 32, 48, 64, 80, 96, 112, 128, 144, 160, 176, 192, 208, 224, 240, 256, 272, 288, 304, 320, 336, 352, 368, 384, 400, 416, 432, 448, 464, 480, 496, 512]

/-- R40: the dispersion of the present pre-compensation response. -/
def H.LTX_D_NOW : Field := fld (shape0 0x16001520) 0 22 .ro

/-- R40: the dispersion the running cross-fade moves to. -/
def H.LTX_D_FADE : Field := fld (shape0 0x16001528) 0 22 .ro

/-- R40: a GO is held until the present fade ends. -/
def H.LTX_GO_HELD : Field := fld (shape0 0x16001530) 0 1 .ro

/-- R41: the skew lane d has reached. -/
def H.LTX_SKEW_NOW : Field := fld (shape1 0x16001538 4 0x4) 0 12 .ro

/-- R38: the frequency offset in effect. -/
def H.LTX_OFS_NOW : Field := fld (shape0 0x16001548) 0 16 .ro

/-- R38: an accepted frequency offset waits for its block boundary. -/
def H.LTX_OFS_PENDING : Field := fld (shape0 0x16001550) 0 1 .ro

/-- R45: the DACs carry the signal; 0 while they put out the mid-scale code. -/
def H.LTX_OUTPUT : Field := fld (shape0 0x16001558) 0 1 .ro

/-- R69: the active receive bank. -/
def H.LRX_ACTIVE : Field := fld (shape1 0x17000000 512 0x4) 0 32 .ro

/-- R69: the shadow receive bank. -/
def H.LRX_SHADOW : Field := fld (shape1 0x17000800 512 0x4) 0 32 .ro

/-- R81: the version of the active receive bank. -/
def H.LRX_ACT_VER : Field := fld (shape0 0x17001000) 0 8 .ro

/-- R81: the version of the shadow receive bank. -/
def H.LRX_SHADOW_VER : Field := fld (shape0 0x17001008) 0 8 .ro

/-- R69: an exchange is scheduled. -/
def H.LRX_SWAP_DUE : Field := fld (shape0 0x17001010) 0 1 .ro

/-- R69: the multiframe at whose frame 0 the banks exchange. -/
def H.LRX_SWAP_MF : Field := fld (shape0 0x17001018) 0 24 .ro

/-- R53: the dispersion of the present response. -/
def H.LRX_D_NOW : Field := fld (shape0 0x17001020) 0 22 .ro

/-- R53: the dispersion the running fade moves to. -/
def H.LRX_D_FADE : Field := fld (shape0 0x17001028) 0 22 .ro

/-- R63: the serial offset commanded and not yet complete, signed MHz. -/
def H.LRX_LOFB_OFFLOAD : Field := fld (shape0 0x17001038) 0 13 .ro

/-- R63: offloading has stopped until the host writes LOFB_EN again. -/
def H.LRX_LOFB_STOPPED : Field := fld (shape0 0x17001040) 0 1 .ro

/-- R61: the LLRs stay invalid until carrier phase is re-acquired. -/
def H.LRX_LLR_HOLD : Field := fld (shape0 0x17001048) 0 1 .ro

/-- R66: subcarrier k has been in LOCK since the window began. -/
def H.LRX_WIN_LOCK : Field := fldR (shape1 0x17001050 512 0x1) 0 1 .ro 1

/-- R57: the equaliser taps of subcarrier k, as one abstract value; 0 is the initial taps. -/
def H.LRX_TAPS : Field := fld (shape1 0x17001250 512 0x8) 0 64 .ro

/-- R59: the tap store, each set as one abstract value; 0 is the initial taps. -/
def H.LRX_TAP_SET : Field := fld (shape1 0x17002250 2048 0x8) 0 64 .ro

/-- R59: the pair a set belongs to, as 1 + 512 × leaf + subcarrier; 0 is a free set. -/
def H.LRX_SET_OWNER : Field := fld (shape1 0x17006250 2048 0x4) 0 20 .ro

/-- R59: the leaf whose slot runs on SLOT subcarrier k; 512 between slots. -/
def H.LRX_SLOT_LEAF : Field := fldR (shape1 0x17008250 512 0x4) 0 10 .ro 512

/-- R40: the dispersion a held GO was written with. -/
def H.LTX_D_HELD : Field := fld (shape0 0x16001560) 0 22 .ro

/-- R53: the dispersion a held GO was written with. -/
def H.LRX_D_HELD : Field := fld (shape0 0x17008A50) 0 22 .ro

/-- R53: the dispersion an armed fade was written with. -/
def H.LRX_D_ARMED : Field := fld (shape0 0x17008A58) 0 22 .ro

/-- R59, R65: the lock state of a stored tap set. -/
def H.LRX_SET_LOCK : Field := fld (shape1 0x17008A60 2048 0x1) 0 2 .ro

/-- R62: the fine-tune output before rounding, signed, in 100 kHz / 2^15. -/
def H.LRX_FINE : Field := fld (shape0 0x17009260) 0 40 .ro

/-- R312: a host command waits on port l. -/
def H.LSR_HOST_PEND : Field := fld (shape1 0x1C000000 2 0x1) 0 1 .ro

/-- R312: a host command's frame is in progress on port l. -/
def H.LSR_HOST_RUN : Field := fld (shape1 0x1C000008 2 0x1) 0 1 .ro

/-- R312: one of LSR's own commands waits on port l. -/
def H.LSR_OWN_PEND : Field := fld (shape1 0x1C000010 2 0x1) 0 1 .ro

/-- R312: one of LSR's own commands is in progress on port l: 1 an offset command, 2 a channel command. -/
def H.LSR_OWN_RUN : Field := fld (shape1 0x1C000018 2 0x1) 0 2 .ro

/-- R312: LSR's own command on port l. -/
def H.LSR_OWN_CMD : Field := fld (shape1 0x1C000020 2 0x4) 0 32 .ro

/-- R312: a frequency change is polled on port l. -/
def H.LSR_POLLING : Field := fld (shape1 0x1C000028 2 0x1) 0 1 .ro

/-- R313: the code of fine-tune output i. -/
def H.LSR_CODE : Field := fldR (shape1 0x1C000030 2 0x4) 0 12 .ro 2048

/-- R63: LSR has reported the offload command complete. -/
def H.LSR_OWN_DONE : Field := fld (shape0 0x1C000038) 0 1 .ro

/-- R142: the frame number of the running transmit frame. -/
def H.FRM_TX_FN : Field := fld (shape0 0x14000000) 0 8 .ro

/-- R142: the multiframe number of the running transmit frame. -/
def H.FRM_TX_MFN : Field := fld (shape0 0x14000008) 0 24 .ro

/-- R142: a transmit frame has begun since TX_EN was written 1. -/
def H.FRM_TX_RUN : Field := fld (shape0 0x14000010) 0 1 .ro

/-- R157: the received frame number, flywheeling when out of multiframe. -/
def H.FRM_RX_FN : Field := fld (shape0 0x14000018) 0 8 .ro

/-- R157: the received multiframe number. -/
def H.FRM_RX_MFN : Field := fld (shape0 0x14000020) 0 24 .ro

/-- R81: the last version assigned, downstream 0 and upstream 1. -/
def H.SCM_LAST_VER : Field := fld (shape1 0x18000000 2 0x1) 0 8 .ro

/-- R81: the first announcing multiframe of the direction's change. -/
def H.SCM_M : Field := fld (shape1 0x18000008 2 0x4) 0 24 .ro

/-- R82: the multiframe count in which the direction's commit was made. -/
def H.SCM_START_MF : Field := fld (shape1 0x18000010 2 0x4) 0 32 .ro

/-- R80: the multiframe count of the direction's last swap. -/
def H.SCM_SWAP_MF : Field := fld (shape1 0x18000018 2 0x4) 0 32 .ro

/-- R80: a swap of the direction has taken place since the last device reset. -/
def H.SCM_SWAPPED : Field := fld (shape1 0x18000020 2 0x1) 0 1 .ro

/-- R81: leaf l is addressed by the direction's change in flight. -/
def H.SCM_ADDRESSED : Field := fld (shape2 0x18000028 2 0x200 512 0x1) 0 1 .ro

/-- R81: leaf l has acknowledged the direction's change in flight. -/
def H.SCM_ACKED : Field := fld (shape2 0x18000428 2 0x200 512 0x1) 0 1 .ro

/-- R77: the multiframe count in which subcarrier k's SNR of the direction was latched. -/
def H.SCM_SNR_MF : Field := fld (shape2 0x18000828 2 0x800 512 0x4) 0 32 .ro

/-- R112: the last grant version assigned. -/
def H.SCM_GRANT_LAST : Field := fld (shape0 0x18001828) 0 8 .ro

/-- R112: the first announcing multiframe of the grant change. -/
def H.SCM_GRANT_M : Field := fld (shape0 0x18001830) 0 24 .ro

/-- R112: the multiframe count of the grant commit. -/
def H.SCM_GRANT_START : Field := fld (shape0 0x18001838) 0 32 .ro

/-- R112: leaf l is addressed by the grant change in flight. -/
def H.SCM_GRANT_ADDR : Field := fld (shape1 0x18001840 512 0x1) 0 1 .ro

/-- R112: leaf l has acknowledged the grant change in flight. -/
def H.SCM_GRANT_ACKED : Field := fld (shape1 0x18001A40 512 0x1) 0 1 .ro

/-- R112: the snapshot of the grant entries of the change in flight, as the dwords of GRANT_NEXT. -/
def H.SCM_GRANT_SNAP : Field := fld (shape2 0x18001C40 64 0x80 32 0x4) 0 26 .ro

/-- R386: the judgement in force: on a tree, from the frame after VLK.CTRL.EN was written 1. -/
def H.VLK_TREE : Field := fld (shape0 0x1A000000) 0 1 .ro

/-- R105: the next SEQ to a receiver, per ACK_REQ stream. -/
def H.VLK_SEQ : Field := fld (shape2 0x1A000008 1024 0x2 2 0x1) 0 8 .ro

/-- R99: a RANGE_ADJ to leaf l is not yet acknowledged. -/
def H.VLK_ADJ_PEND : Field := fld (shape1 0x1A000810 512 0x1) 0 1 .ro

/-- R118: the WAKE bit of leaf l is sent in every VDF. -/
def H.VLK_WAKE_BIT : Field := fld (shape1 0x1A000A10 512 0x1) 0 1 .ro

/-- R116: a REST_GRANT to leaf l is in force. -/
def H.VLK_REST_SET : Field := fld (shape1 0x1A000C10 512 0x1) 0 1 .ro

/-- R116: START_MF of leaf l. -/
def H.VLK_REST_START : Field := fld (shape1 0x1A000E10 512 0x4) 0 24 .ro

/-- R116: CYCLE_MF of leaf l. -/
def H.VLK_REST_CYCLE : Field := fld (shape1 0x1A001610 512 0x1) 0 8 .ro

/-- R116: LISTEN_FR of leaf l. -/
def H.VLK_REST_LISTEN : Field := fld (shape1 0x1A001810 512 0x1) 0 5 .ro

/-- R107: the attempt number a. -/
def H.VLK_ATTEMPT : Field := fld (shape0 0x1A001A10) 0 8 .ro

/-- R107: registration waits for REG_GO. -/
def H.VLK_GIVEUP : Field := fld (shape0 0x1A001A18) 0 1 .ro

/-- R107: a REG_REQ has been sent and no answer has come. -/
def H.VLK_REG_WAIT : Field := fld (shape0 0x1A001A20) 0 1 .ro

/-- R121: the previous leaf number a REG_REQ carries; 0x3FF for none. -/
def H.VLK_PREV_LEAF : Field := fldR (shape0 0x1A001A28) 0 10 .ro 1023

/-- R97: the EqD in use. -/
def H.VLK_EQD_NOW : Field := fld (shape0 0x1A001A30) 0 24 .ro

/-- R99: an EqD delta that waits for the next upstream frame boundary, signed. -/
def H.VLK_EQD_DELTA : Field := fld (shape0 0x1A001A38) 0 24 .ro

/-- R109: START_MF of REG_ASSIGN. -/
def H.VLK_UP_START : Field := fld (shape0 0x1A001A40) 0 24 .ro

/-- R109: the upstream allocation runs. -/
def H.VLK_UP_ON : Field := fld (shape0 0x1A001A48) 0 1 .ro

/-- R116: the leaf holds a REST_GRANT. -/
def H.VLK_S_REST : Field := fld (shape0 0x1A001A50) 0 1 .ro

/-- R116: START_MF of the leaf's own REST_GRANT. -/
def H.VLK_S_START : Field := fld (shape0 0x1A001A58) 0 24 .ro

/-- R116: CYCLE_MF of the leaf's own REST_GRANT. -/
def H.VLK_S_CYCLE : Field := fld (shape0 0x1A001A60) 0 8 .ro

/-- R116: LISTEN_FR of the leaf's own REST_GRANT. -/
def H.VLK_S_LISTEN : Field := fld (shape0 0x1A001A68) 0 5 .ro

/-- R116: the leaf is awake for a listen period. -/
def H.VLK_LISTENING : Field := fld (shape0 0x1A001A70) 0 1 .ro

/-- R116: the leaf has read a listen VDF with its WAKE bit or a message to it. -/
def H.VLK_HEARD : Field := fld (shape0 0x1A001A78) 0 1 .ro

/-- R116: the leaf has read its last listen VDF. -/
def H.VLK_LISTEN_READ : Field := fld (shape0 0x1A001A80) 0 1 .ro

/-- R117: the refused REST entry is repeated at every 10 ms tick. -/
def H.VLK_RETRY : Field := fld (shape0 0x1A001A88) 0 1 .ro

/-- R112: the grant version of the leaf's shadow. -/
def H.VLK_G_SHADOW_VER : Field := fld (shape0 0x1A001A90) 0 8 .ro

/-- R112: the grant version of the leaf's active grants. -/
def H.VLK_G_ACT_VER : Field := fld (shape0 0x1A001A98) 0 8 .ro

/-- R112: the leaf's shadow grants: bit FN mod 64 of row g, as two words. -/
def H.VLK_G_SHADOW : Field := fld (shape2 0x1A001AA0 64 0x8 2 0x4) 0 32 .ro

/-- R112: the leaf's active grants. -/
def H.VLK_G_ACT : Field := fld (shape2 0x1A001CA0 64 0x8 2 0x4) 0 32 .ro

/-- R112: the multiframe of the leaf's grant exchange. -/
def H.VLK_G_SWAP_MF : Field := fld (shape0 0x1A001EA0) 0 24 .ro

/-- R98: frames without a VDF that passed its CRC. -/
def H.VLK_NO_VDF : Field := fld (shape0 0x1A001EA8) 0 8 .ro

/-- R107: REG_OPEN of the last VDF. -/
def H.VLK_OPEN_NOW : Field := fld (shape0 0x1A001EB0) 0 1 .ro

/-- R115: a firmware push is open. -/
def H.VLK_FW_ON : Field := fld (shape0 0x1A001EB8) 0 1 .ro

/-- R115: the version FW_OPEN gave. -/
def H.VLK_FW_VER : Field := fld (shape0 0x1A001EC0) 0 32 .ro

/-- R115: the size FW_OPEN gave, in bytes. -/
def H.VLK_FW_SIZE : Field := fld (shape0 0x1A001EC8) 0 32 .ro

/-- R115: the CRC-32C FW_OPEN gave. -/
def H.VLK_FW_CRC : Field := fld (shape0 0x1A001ED0) 0 32 .ro

/-- R112: 1 + the subcarrier of row g in the leaf's shadow grants; 0 for none. -/
def H.VLK_G_SC_SHADOW : Field := fld (shape1 0x1A001ED8 64 0x4) 0 10 .ro

/-- R112: 1 + the subcarrier of row g in the leaf's active grants; 0 for none. -/
def H.VLK_G_SC_ACT : Field := fld (shape1 0x1A001FD8 64 0x4) 0 10 .ro

/-- R284: counter i. -/
def H.PMC_CNT : Field := fld (shape1 0xA000000 1536 0x8) 0 48 .ro

/-- R382: master m holds a snapshot of counter i. -/
def H.PMC_SNAP_VALID : Field := fld (shape2 0xA003000 128 0x600 1536 0x1) 0 1 .ro

/-- R382: bits 47 to 32 of the snapshot master m took of counter i. -/
def H.PMC_SNAP_HI : Field := fld (shape2 0xA033000 128 0x1800 1536 0x4) 0 16 .ro

/-- R284, R382: the upper bits master m staged for counter i. -/
def H.PMC_STAGE : Field := fld (shape2 0xA0F3000 128 0x1800 1536 0x4) 0 16 .ro

/-- R290: the sample ring. -/
def H.PMC_RING : Field := fld (shape2 0xA1B3000 64 0x20 8 0x4) 0 32 .ro

/-- R290: the ring entry of the oldest record. -/
def H.PMC_RING_HEAD : Field := fld (shape0 0xA1B3800) 0 6 .ro

/-- R288: an instruction is followed. -/
def H.PMC_FOLLOW : Field := fld (shape0 0xA1B3808) 0 1 .ro

/-- R288: word 0 of the record of the followed instruction. -/
def H.PMC_FOLLOW_HEAD : Field := fld (shape0 0xA1B3810) 0 32 .ro

/-- R288: word 1 of the record of the followed instruction. -/
def H.PMC_FOLLOW_PC : Field := fld (shape0 0xA1B3818) 0 20 .ro

/-- R288: its fetch time, in lc. -/
def H.PMC_FOLLOW_T : Field := fld (shape0 0xA1B3820) 0 32 .ro

/-- R289: source s wrapped on an ENGINE counter and awaits its instruction. -/
def H.PMC_OVF_DUE : Field := fld (shape1 0xA1B3828 4 0x1) 0 1 .ro

/-- R289: the time source s wrapped, in lc. -/
def H.PMC_OVF_T : Field := fld (shape1 0xA1B3830 4 0x4) 0 32 .ro

/-- R290: records written to the trace ring, modulo its size. -/
def H.PMC_TRACE_POS : Field := fld (shape0 0xA1B3840) 0 24 .ro

/-- R215: slot ph of context c holds a key. -/
def H.CRY_VALID : Field := fld (shape2 0xF000000 3072 0x2 2 0x1) 0 1 .ro

/-- R215: word i of the key in slot ph of context c. -/
def H.CRY_KEY : Field := fld (shape3 0xF001800 3072 0x40 2 0x20 8 0x4) 0 32 .ro

/-- R215: the salt of slot ph of context c. -/
def H.CRY_SALT : Field := fld (shape2 0xF031800 3072 0x8 2 0x4) 0 32 .ro

/-- R215: the active transmit phase of context c. -/
def H.CRY_TX_PH : Field := fld (shape1 0xF037800 3072 0x1) 0 1 .ro

/-- R209: NEXT of context c. -/
def H.CRY_NEXT : Field := fld (shape1 0xF038400 3072 0x8) 0 64 .ro

/-- R209: the last counter context c used; all ones if none. -/
def H.CRY_CUR : Field := fldR (shape1 0xF03E400 3072 0x8) 0 64 .ro 18446744073709551615

/-- R211: the tracked upper counter of context c. -/
def H.CRY_U : Field := fld (shape1 0xF044400 3072 0x8) 0 48 .ro

/-- R211: the highest accepted counter of context c. -/
def H.CRY_LAST : Field := fld (shape1 0xF04A400 3072 0x8) 0 64 .ro

/-- R211: the SEQ of the last frame of context c seen. -/
def H.CRY_LAST_SEQ : Field := fld (shape1 0xF050400 3072 0x4) 0 16 .ro

/-- R211: the SYNC flag of context c. -/
def H.CRY_SYNC : Field := fld (shape1 0xF053400 3072 0x1) 0 1 .ro

/-- KP of the last accepted frame of context c. -/
def H.CRY_RX_PH : Field := fld (shape1 0xF054000 3072 0x1) 0 1 .ro

/-- R212: bit i: counter LAST − i of context c has been accepted. -/
def H.CRY_WIN : Field := fld (shape1 0xF054C00 3072 0x4) 0 16 .ro

/-- R213: the PART values the run of context c holds; 0 for no run. -/
def H.CRY_RUN_MASK : Field := fld (shape1 0xF057C00 3072 0x1) 0 4 .ro

/-- R213: the SEQ of the run's last frame. -/
def H.CRY_RUN_SEQ : Field := fld (shape1 0xF058800 3072 0x4) 0 16 .ro

/-- R213: the CPART of each PART of the run. -/
def H.CRY_RUN_PART : Field := fld (shape2 0xF05B800 3072 0x10 4 0x4) 0 12 .ro

/-- R213: the set of context c is complete and awaits a DATA frame. -/
def H.CRY_CAND : Field := fld (shape1 0xF067800 3072 0x1) 0 1 .ro

/-- R218: the code the command in progress will report. -/
def H.CRY_RESULT : Field := fld (shape0 0xF068400) 0 3 .ro

/-- R382: master m holds a snapshot of the counter words. -/
def H.CRY_SNAP_VALID : Field := fld (shape1 0xF068408 128 0x1) 0 1 .ro

/-- R382: the snapshot of TX_NEXT_HI, TX_CUR_LO, TX_CUR_HI, RX_LAST_LO and RX_LAST_HI of master m. -/
def H.CRY_SNAP : Field := fld (shape2 0xF068488 128 0x14 5 0x4) 0 32 .ro

/-- R189: 1 + the enabled encrypted flow that uses context c; 0 for none. -/
def H.FLW_CTX_FLOW : Field := fld (shape1 0x12000000 3072 0x4) 0 13 .ro

/-- R365: a wake event came while the entry was in progress. -/
def H.PWR_WAKE_PEND : Field := fld (shape0 0x70002D0) 0 1 .ro

/-- R362: QDM holds the devices in retention. -/
def H.PWR_QDR_RET : Field := fld (shape0 0x70002D8) 0 1 .ro

/-- R120: the FEEDER bit last received; 2 before the first. -/
def H.VLK_FEEDER_IN : Field := fldR (shape0 0x1A0020D8) 0 2 .ro 2

/-- R97, R120: the feeder whose EqD is in use. -/
def H.VLK_FEEDER_USE : Field := fld (shape0 0x1A0020E0) 0 1 .ro

/-- R120: 1: the feeder changed and a silent frame is due; 2: the silent frame runs. -/
def H.VLK_SWITCH_SILENT : Field := fld (shape0 0x1A0020E8) 0 2 .ro

/-- R105, TREE_INFO: BAUD_MBD of the tree as last received. -/
def H.VLK_T_BAUD : Field := fld (shape0 0x1A0020F0) 0 20 .ro

/-- R105, TREE_INFO: SPACING of the tree as last received. -/
def H.VLK_T_SPACING : Field := fld (shape0 0x1A0020F8) 0 8 .ro

/-- R105, TREE_INFO: NSC_M1 of the tree as last received. -/
def H.VLK_T_NSC_M1 : Field := fld (shape0 0x1A002100) 0 9 .ro

/-- R105, TREE_INFO: the FEC rates of the tree as last received, RATE_TX in bits 1:0 and RATE_RX in bits 3:2. -/
def H.VLK_T_RATES : Field := fld (shape0 0x1A002108) 0 4 .ro

/-- R105, TREE_INFO: T_eq of the tree as last received. -/
def H.VLK_T_EQ : Field := fld (shape0 0x1A002110) 0 24 .ro

/-- R115: the bytes of word i of the image that have arrived. -/
def H.VLK_FW_HAVE : Field := fld (shape1 0x1A002118 1048576 0x1) 0 4 .ro

/-- R83, R119: the ACT_VER of the direction last read in the downstream overhead. -/
def H.VLK_RX_ACT : Field := fld (shape1 0x1A102118 2 0x1) 0 8 .ro

/-- R112, R119: the GRANT_VER of the last VDF. -/
def H.VLK_RX_GVER : Field := fld (shape0 0x1A102120) 0 8 .ro

/-- R83: LOAD_MISMATCH has been reported for the direction's present difference. -/
def H.VLK_SEND_MISMATCH : Field := fld (shape1 0x1A102128 2 0x1) 0 1 .ro

/-- R112: GRANT_ACK with status NAK has been sent for the present difference. -/
def H.VLK_G_NAK_SENT : Field := fld (shape0 0x1A102130) 0 1 .ro

/-- R112: the leaf's grants exchange at G_SWAP_MF. -/
def H.VLK_G_SWAP : Field := fld (shape0 0x1A102138) 0 1 .ro

/-- R181: the egress lanes of client c are sent reversed. -/
def H.HSL_EGRESS_REV : Field := fld (shape1 0x11000000 32 0x1) 0 1 .ro

/-- R184: the REV_MODE of client c since its last entry to ORDER. -/
def H.HSL_REV_USED : Field := fldR (shape1 0x11000020 32 0x1) 0 2 .ro 1

/-- R184: the DSK_HOLD of client c since its last entry to ORDER. -/
def H.HSL_HOLD_USED : Field := fld (shape1 0x11000040 32 0x4) 0 11 .ro

/-- R167: the live counters of subcarrier k, word w of Table FRM-7. -/
def H.FRM_LIVE_SC : Field := fld (shape2 0x14000028 512 0x20 8 0x4) 0 32 .ro

/-- R167: the live counters of PM index i, word w of Table FRM-7. -/
def H.FRM_LIVE_F : Field := fld (shape2 0x14004028 3072 0x20 8 0x4) 0 32 .ro

/-- R167: the live counters of client c. -/
def H.FRM_LIVE_CLI : Field := fld (shape2 0x1401C028 32 0x10 4 0x4) 0 32 .ro

/-- R165: byte j of the TTI being received. -/
def H.FRM_TTI_BUF : Field := fld (shape1 0x1401C228 64 0x1) 0 8 .ro

/-- R165: bit j: byte j of the TTI has been received in this multiframe. -/
def H.FRM_TTI_GOT : Field := fld (shape0 0x1401C268) 0 64 .ro

/-- R165: byte j of the last whole TTI. -/
def H.FRM_TTI_LAST : Field := fld (shape1 0x1401C270 64 0x1) 0 8 .ro

/-- R165: multiframes in a row with the last TTI, up to 3. -/
def H.FRM_TTI_RUN : Field := fld (shape0 0x1401C2B0) 0 2 .ro

/-- R165: a TTI has been accepted. -/
def H.FRM_TTI_ACC : Field := fld (shape0 0x1401C2B8) 0 1 .ro

/-- R166: the SSM of the last valid word. -/
def H.FRM_SSM_LAST : Field := fld (shape0 0x1401C2C0) 0 4 .ro

/-- R166: valid words in a row with that SSM, up to 3. -/
def H.FRM_SSM_RUN : Field := fld (shape0 0x1401C2C8) 0 2 .ro

/-- R156: consecutive frames with a FAW mismatch. -/
def H.FRM_FAW_MISS : Field := fld (shape0 0x1401C2D0) 0 3 .ro

/-- R157: consecutive FN mismatches. -/
def H.FRM_FN_MISS : Field := fld (shape0 0x1401C2D8) 0 3 .ro

/-- R157: the FN of the last valid word. -/
def H.FRM_FN_LAST : Field := fld (shape0 0x1401C2E0) 0 8 .ro

/-- R157: valid words in a row whose FN values increment by 1. -/
def H.FRM_FN_RUN : Field := fld (shape0 0x1401C2E8) 0 2 .ro

/-- R155: the present window's contest has been counted. -/
def H.FRM_AMBIG : Field := fld (shape0 0x1401C2F0) 0 1 .ro

/-- Table FRM-6: BDI of the last valid word of the line. -/
def H.FRM_BDI_LINE : Field := fld (shape0 0x1401C2F8) 0 1 .ro

/-- Table FRM-6: BDI of the last valid word of subcarrier k. -/
def H.FRM_BDI_SC : Field := fld (shape1 0x1401C300 512 0x1) 0 1 .ro

/-- R165: the LEAF of subcarrier k's last valid word with s = 3 is not the expected one. -/
def H.FRM_LEAF_BAD : Field := fld (shape1 0x1401C500 512 0x1) 0 1 .ro

/-- R158: upstream subcarrier k is out-of-frame for leaf l. -/
def H.FRM_UP_OOF : Field := fld (shape2 0x1401C700 512 0x200 512 0x1) 0 1 .ro

/-- R158: consecutive checks of (k, l) without a hit. -/
def H.FRM_UP_MISS : Field := fld (shape2 0x1405C700 512 0x200 512 0x1) 0 3 .ro

/-- R158: consecutive checks of (k, l) with a hit. -/
def H.FRM_UP_HIT : Field := fld (shape2 0x1409C700 512 0x200 512 0x1) 0 2 .ro

/-- R158: the stream (k, l) is out of multiframe. -/
def H.FRM_UP_OOM : Field := fld (shape2 0x140DC700 512 0x200 512 0x1) 0 1 .ro

/-- R158: consecutive FN or MFN mismatches of (k, l). -/
def H.FRM_UP_FN_MISS : Field := fld (shape2 0x1411C700 512 0x200 512 0x1) 0 3 .ro

/-- R158: consecutive matching words of (k, l). -/
def H.FRM_UP_FN_RUN : Field := fld (shape2 0x1415C700 512 0x200 512 0x1) 0 2 .ro

/-- R160: raw conditions of the line seen in this tick. -/
def H.FRM_SEEN_LINE : Field := fld (shape0 0x1419CF40) 0 12 .ro

/-- R160: raw conditions of subcarrier k seen in this tick. -/
def H.FRM_SEEN_SC : Field := fld (shape1 0x1419CF48 512 0x4) 0 12 .ro

/-- R160: raw conditions of flow f seen in this tick. -/
def H.FRM_SEEN_FLOW : Field := fld (shape1 0x1419D748 3072 0x4) 0 12 .ro

/-- R160: raw conditions of lane n seen in this tick. -/
def H.FRM_SEEN_LANE : Field := fld (shape1 0x141A0748 32 0x4) 0 12 .ro

/-- R160: raw conditions of client c seen in this tick. -/
def H.FRM_SEEN_CLI : Field := fld (shape1 0x141A07C8 32 0x4) 0 12 .ro

/-- R160: setc of the line's defects. -/
def H.FRM_SETC_LINE : Field := fld (shape2 0x141A0848 1 0x30 12 0x4) 0 10 .ro

/-- R160: clrc of the line's defects. -/
def H.FRM_CLRC_LINE : Field := fld (shape2 0x141A0878 1 0x30 12 0x4) 0 10 .ro

/-- R160: setc of subcarrier k's defects. -/
def H.FRM_SETC_SC : Field := fld (shape2 0x141A08A8 512 0x30 12 0x4) 0 10 .ro

/-- R160: clrc of subcarrier k's defects. -/
def H.FRM_CLRC_SC : Field := fld (shape2 0x141A68A8 512 0x30 12 0x4) 0 10 .ro

/-- R160: setc of flow f's defects. -/
def H.FRM_SETC_FLOW : Field := fld (shape2 0x141AC8A8 3072 0x30 12 0x4) 0 10 .ro

/-- R160: clrc of flow f's defects. -/
def H.FRM_CLRC_FLOW : Field := fld (shape2 0x141D08A8 3072 0x30 12 0x4) 0 10 .ro

/-- R160: setc of lane n's defects. -/
def H.FRM_SETC_LANE : Field := fld (shape2 0x141F48A8 32 0x30 12 0x4) 0 10 .ro

/-- R160: clrc of lane n's defects. -/
def H.FRM_CLRC_LANE : Field := fld (shape2 0x141F4EA8 32 0x30 12 0x4) 0 10 .ro

/-- R160: setc of client c's defects. -/
def H.FRM_SETC_CLI : Field := fld (shape2 0x141F54A8 32 0x30 12 0x4) 0 10 .ro

/-- R160: clrc of client c's defects. -/
def H.FRM_CLRC_CLI : Field := fld (shape2 0x141F5AA8 32 0x30 12 0x4) 0 10 .ro

/-- R171: raw OTUCn conditions of client c. -/
def H.FRM_CLI_RAW : Field := fld (shape1 0x141F60A8 32 0x4) 0 12 .ro

/-- R164: consecutive bad seconds of subcarrier k (0 to 511) or client c (512 + c), up to 10. -/
def H.FRM_DEG_BAD : Field := fld (shape1 0x141F6128 544 0x1) 0 4 .ro

/-- R164: consecutive seconds that are not bad, up to 10. -/
def H.FRM_DEG_GOOD : Field := fld (shape1 0x141F6348 544 0x1) 0 4 .ro

/-- R164: raw dDEG of subcarrier k or client c. -/
def H.FRM_DEG_RAW : Field := fld (shape1 0x141F6568 544 0x1) 0 1 .ro

/-- R170: consecutive CFs of flow f without an idle. -/
def H.FRM_RA_RUN : Field := fld (shape1 0x141F6788 3072 0x4) 0 12 .ro

/-- R170: the egress of flow f follows JUST. -/
def H.FRM_EG_JUST : Field := fld (shape1 0x141F9788 3072 0x1) 0 1 .ro

/-- Table FRM-6: the TYPE of the last CF of flow f received. -/
def H.FRM_LAST_TYPE : Field := fld (shape1 0x141FA388 3072 0x1) 0 3 .ro

/-- R197: the egress window of flow f has started. -/
def H.FRM_WIN_ON : Field := fld (shape1 0x141FAF88 3072 0x1) 0 1 .ro

/-- R152: the SEQ the egress of flow f waits for. -/
def H.FRM_WIN_SEQ : Field := fld (shape1 0x141FBB88 3072 0x4) 0 16 .ro

/-- R151: the management container frame of this multiframe is due. -/
def H.FRM_MGMT_DUE : Field := fld (shape0 0x141FEB88) 0 1 .ro

/-- R197: the SEQ of the next CF of flow f. -/
def H.FLW_TX_SEQ : Field := fld (shape1 0x12003000 3072 0x4) 0 16 .ro

/-- R192: the tokens of flow f, in 1/(16 × 10^9) token. -/
def H.FLW_TOK : Field := fld (shape1 0x12006000 3072 0x8) 0 48 .ro

/-- R192: the time the tokens of flow f were last counted, in ns. -/
def H.FLW_TOK_T : Field := fld (shape1 0x1200C000 3072 0x8) 0 64 .ro

/-- R193: the part of a lost token of flow f not yet counted, in 1/(16 × 10^9) token. -/
def H.FLW_LOST : Field := fld (shape1 0x12012000 3072 0x8) 0 40 .ro

/-- R192: 1 + the strict flow served last. -/
def H.FLW_RR_STRICT : Field := fld (shape0 0x12018000) 0 13 .ro

/-- R192: 1 + the non-strict flow served last. -/
def H.FLW_RR_PLAIN : Field := fld (shape0 0x12018008) 0 13 .ro

/-- R192: 1 + the flow that deficit round-robin serves. -/
def H.FLW_DRR : Field := fld (shape0 0x12018010) 0 13 .ro

/-- R192: the CFs deficit round-robin still gives that flow. -/
def H.FLW_DRR_LEFT : Field := fld (shape0 0x12018018) 0 8 .ro

/-- R177, R192: the next CF of flow f is sent with ERR = 1. -/
def H.FLW_ERR_NEXT : Field := fld (shape1 0x12018020 3072 0x1) 0 1 .ro

/-- R196: the PM index of flow f in effect. -/
def H.FLW_PMI : Field := fld (shape1 0x12018C20 3072 0x4) 0 12 .ro

/-- R195: the operation under way. -/
def H.FLW_OP : Field := fld (shape0 0x1201BC20) 0 2 .ro

/-- R195: the flow of the operation under way. -/
def H.FLW_OP_FLOW : Field := fld (shape0 0x1201BC28) 0 12 .ro

/-- R201: the sum of RATE over the enabled BUF = 0 flows. -/
def H.QDM_COMMITTED : Field := fld (shape0 0x13000000) 0 48 .ro

/-- R201: pool slots reserved by BUF = 0 flows. -/
def H.QDM_RESERVED : Field := fld (shape0 0x13000008) 0 14 .ro

/-- R201: pool slots drawn beyond the reservations. -/
def H.QDM_EXTRA : Field := fld (shape0 0x13000010) 0 14 .ro

/-- R201: the DATA CFs flow f holds in its egress store. -/
def H.QDM_HELD : Field := fld (shape1 0x13000018 3072 0x1) 0 4 .ro

/-- R201: pool slots filled on port p. -/
def H.QDM_POOL_USED : Field := fld (shape1 0x13000C18 2 0x4) 0 14 .ro

/-- R198: sleep slots filled on port p. -/
def H.QDM_SLEEP_USED : Field := fld (shape1 0x13000C20 2 0x4) 0 14 .ro

/-- R200: bit p, port p trains. -/
def H.QDM_TRAINING : Field := fld (shape0 0x13000C28) 0 2 .ro

/-- R204: errors of port p in the running second. -/
def H.QDM_ERRS_SEC : Field := fld (shape1 0x13000C30 2 0x4) 0 16 .ro

/-- R200: how far bit b of port p has been re-centred since training, signed, in 1/64 UI. -/
def H.QDM_CENTRE : Field := fld (shape2 0x13000C38 2 0x24 36 0x1) 0 8 .ro

/-- R230: seconds in a row within 0.7 TOL of input i. -/
def H.SYN_GOOD : Field := fld (shape1 0x10000000 8 0x4) 0 10 .ro

/-- R230: seconds in a row in which yh of input i stood at or above TOL. -/
def H.SYN_OVER : Field := fld (shape1 0x10000020 8 0x1) 0 6 .ro

/-- R230: seconds in a row in which y1 of input i stood at or above 2 TOL. -/
def H.SYN_OVER2 : Field := fld (shape1 0x10000028 8 0x1) 0 2 .ro

/-- R228: REF_QL[i] has been written and has not timed out. -/
def H.SYN_QL_OK : Field := fld (shape1 0x10000030 8 0x1) 0 1 .ro

/-- R228: the in-band quality level of LINE has been read and is not timed out. -/
def H.SYN_LINE_OK : Field := fld (shape0 0x10000038) 0 1 .ro

/-- R228, R235: the quality level the pair partner sends. -/
def H.SYN_PEER_QL : Field := fldR (shape0 0x10000040) 0 4 .ro 15

/-- R236: the loop has been LOCKED since the last one-second tick. -/
def H.SYN_LOCK_FULL : Field := fld (shape0 0x10000048) 0 1 .ro

/-- R242: how far master m has come: 1 the first key, 2 both, 3 both and a 10 ms tick since. -/
def H.SYN_KEYSTEP : Field := fld (shape1 0x10000050 128 0x1) 0 2 .ro

/-- R245: 10 ms ticks since the last PPS_IN edge. -/
def H.SYN_PPS_AGE : Field := fldR (shape0 0x100000D0) 0 7 .ro 127

/-- R240: SYNC_OUTo runs; it is held low otherwise. -/
def H.SYN_OUT_RUN : Field := fld (shape1 0x100000D8 6 0x1) 0 1 .ro

/-- R248: the instruction memory. -/
def H.ENG_IMEM : Field := fld (shape2 0x8000000 65 0x4000 4096 0x4) 0 32 .ro

/-- R248: the data memory, by word. -/
def H.ENG_DMEM : Field := fld (shape2 0x8104000 65 0x2000 2048 0x4) 0 32 .ro

/-- R265: the journal. -/
def H.ENG_JRNL : Field := fld (shape3 0x8186000 65 0x4000 1024 0x10 4 0x4) 0 32 .ro

/-- R265: the journal entry has been written. -/
def H.ENG_JVALID : Field := fld (shape2 0x828A000 65 0x400 1024 0x1) 0 1 .ro

/-- R382: JRNL_RD words 1 to 3 as master m snapshot them. -/
def H.ENG_JSNAP : Field := fld (shape3 0x829A400 98 0x30C 65 0xC 3 0x4) 0 32 .ro

/-- R382: master m holds a snapshot of engine n's journal. -/
def H.ENG_JSNAP_VALID : Field := fld (shape2 0x82ACE98 98 0x41 65 0x1) 0 1 .ro

/-- R252: the thread has run past instruction 4,095. -/
def H.ENG_PAST : Field := fld (shape2 0x82AE780 65 0x4 4 0x1) 0 1 .ro

/-- R260: the edge the waiting thread waits for has come. -/
def H.ENG_EDGE : Field := fld (shape2 0x82AE888 65 0x4 4 0x1) 0 1 .ro

/-- R266: the ring place the next spilled entry takes. -/
def H.ENG_SPILL_POS : Field := fld (shape0 0x82AE990) 0 24 .ro

/-- R266: spilled entries held. -/
def H.ENG_SPILL_CNT : Field := fld (shape0 0x82AE998) 0 24 .ro

/-- R266: BASE and SIZE of the two JOURNAL regions the held entries were spilled to. -/
def H.ENG_SPILL_MAP : Field := fld (shape0 0x82AE9A0) 0 40 .ro

/-- R297: what the converter converts: 0 nothing, 1 a sequence entry, 2 the injected channel, 3 a sensor of the scan, 4 the calibration. -/
def H.HKA_RUN : Field := fld (shape0 0xB000000) 0 3 .ro

/-- R291, R292: channel, DIFF and ALIGN of the conversion in progress, as HKA.SEQ lays them out. -/
def H.HKA_CUR : Field := fld (shape0 0xB000008) 0 7 .ro

/-- R293: a background scan has fallen due or is under way. -/
def H.HKA_SCAN_DUE : Field := fld (shape0 0xB000010) 0 1 .ro

/-- R293: the next sensor of the scan. -/
def H.HKA_SCAN_S : Field := fld (shape0 0xB000018) 0 3 .ro

/-- R297: a calibration waits for HKA. -/
def H.HKA_CAL_WAIT : Field := fld (shape0 0xB000020) 0 1 .ro

/-- R298: what STAT.STATE returns to when the calibration ends. -/
def H.HKA_SEQ_STATE : Field := fld (shape0 0xB000028) 0 2 .ro

/-- R292: the code of entry e's latest result, as if ALIGN were 0, signed. -/
def H.HKA_CODE : Field := fld (shape1 0xB000030 32 0x4) 0 16 .ro

/-- R292: the same of the injected result. -/
def H.HKA_INJ_CODE : Field := fld (shape0 0xB0000B0) 0 16 .ro

/-- R300: entry e's result was written since the last one-second tick. -/
def H.HKA_FRESH : Field := fld (shape1 0xB0000B8 32 0x1) 0 1 .ro

/-- R301: the period in force. -/
def H.HKA_PWM_P : Field := fld (shape1 0xB0000D8 8 0x4) 0 16 .ro

/-- R301: the duty in force. -/
def H.HKA_PWM_C : Field := fld (shape1 0xB0000F8 8 0x4) 0 16 .ro

/-- R301: the dither amplitude in force. -/
def H.HKA_PWM_A : Field := fld (shape1 0xB000118 8 0x4) 0 16 .ro

/-- R302: the dither sign in force is minus. -/
def H.HKA_PWM_MINUS : Field := fld (shape1 0xB000138 8 0x1) 0 1 .ro

/-- R302: periods with the present sign. -/
def H.HKA_PWM_CNT : Field := fld (shape1 0xB000140 8 0x4) 0 9 .ro

/-- R301: the output pin. -/
def H.HKA_PWM_OUT : Field := fld (shape1 0xB000160 8 0x1) 0 1 .ro

/-- R303: the value that waits at channel f's input. -/
def H.FLT_IN : Field := fld (shape1 0xC000000 8 0x4) 0 24 .ro

/-- R303: a value waits at channel f's input. -/
def H.FLT_IN_NEW : Field := fld (shape1 0xC000020 8 0x1) 0 1 .ro

/-- R304: samples taken since the last CIC output. -/
def H.FLT_PHASE : Field := fld (shape1 0xC000028 8 0x4) 0 12 .ro

/-- R309: samples taken since the restart, saturating. -/
def H.FLT_SAMPLES : Field := fld (shape1 0xC000048 8 0x4) 0 24 .ro

/-- R304: a decimated value waits for the FIR. -/
def H.FLT_DUE : Field := fld (shape1 0xC000068 8 0x1) 0 1 .ro

/-- R304: that value. -/
def H.FLT_DUE_VAL : Field := fld (shape1 0xC000070 8 0x4) 0 24 .ro

/-- R308: the active coefficient bank. -/
def H.FLT_TAP : Field := fldT (shape2 0xC000090 8 0x80 32 0x4) 0 18 .ro 0 [65536]

/-- R308: a cross-fade starts at the next output. -/
def H.FLT_SWAP_DUE : Field := fld (shape1 0xC000490 8 0x1) 0 1 .ro

/-- R308: outputs of the running fade. -/
def H.FLT_FADE_I : Field := fld (shape1 0xC000498 8 0x4) 0 11 .ro

/-- R308: its length. -/
def H.FLT_FADE_L : Field := fld (shape1 0xC0004B8 8 0x4) 0 11 .ro

/-- R310: outputs without a new maximum, saturating. -/
def H.FLT_HOLD_CNT : Field := fld (shape1 0xC0004D8 8 0x4) 0 10 .ro

/-- R310: outputs of the running block. -/
def H.FLT_RMS_CNT : Field := fld (shape1 0xC0004F8 8 0x4) 0 13 .ro

/-- R310: the sum of their squares. -/
def H.FLT_RMS_SUM : Field := fld (shape1 0xC000518 8 0x8) 0 64 .ro

/-- R325: the run in progress was started by a GO. -/
def H.CAL_HOST : Field := fld (shape0 0xD000000) 0 1 .ro

/-- R323: SYN.TIME_HI at the start of the run. -/
def H.CAL_T0 : Field := fld (shape0 0xD000008) 0 32 .ro

/-- R323: DIE_TEMP[4] at the start of the run. -/
def H.CAL_TEMP0 : Field := fld (shape0 0xD000010) 0 16 .ro

/-- R319: both passes of the run are done. -/
def H.CAL_PASSED : Field := fld (shape0 0xD000018) 0 1 .ro

/-- R325: the RETRY_S wait runs. -/
def H.CAL_RETRY : Field := fld (shape0 0xD000020) 0 1 .ro

/-- R326: an automatic run waits for a self-test slice. -/
def H.CAL_AUTO_PEND : Field := fld (shape0 0xD000028) 0 1 .ro

/-- R320: the sub-slice is active. -/
def H.CAL_ADC_SEL : Field := fld (shape2 0xD000030 4 0x90 144 0x1) 0 1 .ro

/-- R320: twice the gain, offset and skew error the sub-slice's trims cancel, signed. -/
def H.CAL_ADC_TRIM : Field := fld (shape3 0xD000270 4 0x6C0 144 0xC 3 0x4) 0 16 .ro

/-- R321: the unit cell is in use. -/
def H.CAL_DAC_SEL : Field := fld (shape2 0xD001D70 4 0x47 71 0x1) 0 1 .ro

/-- R321: twice the gain and offset error the lane's trims cancel, signed. -/
def H.CAL_DAC_TRIM : Field := fld (shape2 0xD001E90 4 0x8 2 0x4) 0 16 .ro

/-- R328: slices of the run that have not ended. -/
def H.BST_TODO : Field := fld (shape0 0xE000000) 0 8 .ro

/-- R328: the slice waits for a calibration run. -/
def H.BST_WAITING : Field := fld (shape0 0xE000008) 0 1 .ro

/-- R332: the state being programmed. -/
def H.LCM_TARGET : Field := fld (shape0 0x6000000) 0 3 .ro

/-- R333: the burned key hashes. -/
def H.LCM_FUSE_HASH : Field := fld (shape2 0x6000008 4 0x30 12 0x4) 0 32 .ro

/-- R334: seconds since the challenge was renewed, saturating. -/
def H.LCM_CHAL_AGE : Field := fld (shape0 0x60000C8) 0 16 .ro

/-- R268: the START bit of the thread's THREADS word. -/
def H.ENG_START : Field := fld (shape2 0x82AE9A8 65 0x4 4 0x1) 0 1 .ro

/-- R342, R345: PEER holds LTX.CTRL.MUTE at 1. -/
def H.PEER_MUTE_HELD : Field := fld (shape0 0x1D000000) 0 1 .ro

/-- R345: the value LTX.CTRL.MUTE returns to when PEER lets it go. -/
def H.PEER_MUTE_WAS : Field := fld (shape0 0x1D000008) 0 1 .ro

/-- R340: the partner's state as last known. -/
def H.PEER_PARTNER : Field := fld (shape0 0x1D000010) 0 3 .ro

/-- R345: the new active waits LASER_MS. -/
def H.PEER_SETTLING : Field := fld (shape0 0x1D000018) 0 1 .ro

/-- R346: flow f counts a sleep drop when it first sends. -/
def H.FLW_LOST_HELD : Field := fld (shape1 0x1201BC30 3072 0x1) 0 1 .ro

/-- R382: master m holds a snapshot of TIME_HI. -/
def H.SYN_TSNAP_ON : Field := fld (shape1 0x100000E0 128 0x1) 0 1 .ro

/-- R382: the seconds master m snapshot with TIME_LO. -/
def H.SYN_TSNAP : Field := fld (shape1 0x10000160 128 0x4) 0 32 .ro

/-- R351, R354: the device is held in reset. -/
def H.SYS_HELD : Field := fld (shape0 0x4000000) 0 1 .ro

/-- R18: bit m, monitor m has stayed below its SOFT margin for SOFT_DWELL and is still below it. -/
def H.PWR_LOW : Field := fld (shape0 0x70002E0) 0 16 .ro

/-- R40: the blocks that the cross-fade under way lasts. -/
def H.LTX_FADE_LEN : Field := fld (shape0 0x16001568) 0 11 .ro

/-- R53: blocks of the dispersion fade in progress, 2^K as CD_CTRL.K stood when it started. -/
def H.LRX_FADE_LEN : Field := fld (shape0 0x17009268) 0 11 .ro

/-- R60: the digital rotation of the coarse recovery, signed, in 1/32768 of 100 kHz. -/
def H.LRX_ROT : Field := fld (shape0 0x17009270) 0 48 .ro

/-- R29: the frequency offset that the device has commanded of laser l, signed, in MHz: 0 the local oscillator, 1 the signal laser. -/
def H.LSR_SET : Field := fld (shape1 0x1C000040 2 0x4) 0 32 .ro

/-- R29: a channel command of the device waits on serial port l. -/
def H.LSR_TUNE_PEND : Field := fld (shape1 0x1C000050 2 0x1) 0 1 .ro

/-- R29: the channel command of the device on serial port l. -/
def H.LSR_TUNE_CMD : Field := fld (shape1 0x1C000060 2 0x4) 0 32 .ro

/-- R61: quarter turns by which the detected cycle slips of subcarrier k are corrected. -/
def H.LRX_QUAD : Field := fld (shape1 0x17009278 512 0x1) 0 2 .ro

/-- R81: multiframes that the transmit counters have begun since the device reset; loading and grant changes and the age of an SNR count in them. -/
def H.SCM_MF : Field := fld (shape0 0x18003C48) 0 32 .ro

/-- R77: the multiframe count at which the SNR of leaf l over its slots was latched. -/
def H.SCM_LEAF_MF : Field := fld (shape1 0x18003C50 512 0x4) 0 32 .ro

/-- R83: the leaf plus 1 whose LOAD_MISMATCH of the direction came while a change was in flight: the active table is sent once it ends. -/
def H.SCM_RESEND : Field := fld (shape1 0x18004458 2 0x2) 0 10 .ro

/-- R89: subcarrier k has read FEC_PH and waits for a superblock boundary. -/
def H.FEC_RX_WAIT : Field := fld (shape1 0x15004250 512 0x1) 0 1 .ro

/-- R89: the stream of leaf l on SLOT subcarrier k (index l, k) is decoded. -/
def H.FEC_SL_ON : Field := fld (shape2 0x15004458 512 0x200 512 0x1) 0 1 .ro

/-- R89: the stream of leaf l on SLOT subcarrier k has read FEC_PH and waits for a superblock boundary. -/
def H.FEC_SL_WAIT : Field := fld (shape2 0x15044460 512 0x200 512 0x1) 0 1 .ro

/-- R89: the stream position of leaf l on SLOT subcarrier k at its next frame. -/
def H.FEC_SL_POS : Field := fld (shape2 0x15084468 512 0x800 512 0x4) 0 32 .ro

/-- R91: the codeword in progress of subcarrier k began with invalid LLRs. -/
def H.FEC_PART : Field := fld (shape1 0x15184470 512 0x1) 0 1 .ro

/-- R91: bits of subcarrier k have been marked errored or invalid since its last container frame. -/
def H.FEC_MARK : Field := fld (shape1 0x15184678 512 0x1) 0 1 .ro

/-- R100: the averaged arrival error of leaf l, signed, in 1/16 symbol. -/
def H.VLK_ARR_ERR : Field := fld (shape1 0x1A102148 512 0x2) 0 16 .ro

/-- R95: the K_HI of the receive group that leaf l was assigned, plus 1; 0 while no REG_ASSIGN has named it. -/
def H.VLK_LEAF_KHI : Field := fld (shape1 0x1A102550 512 0x2) 0 10 .ro

/-- R107: the first registration opportunity among which the present attempt chooses, as 16 times frame plus index. -/
def H.VLK_REG_BASE : Field := fld (shape0 0x1A102958) 0 36 .ro

/-- R116: the multiframe whose first VDFs the leaf listens to. -/
def H.VLK_LISTEN_MF : Field := fld (shape0 0x1A102960) 0 24 .ro

/-- R106: the transmit queue that is served next on beacon b; a leaf uses the first. -/
def H.VLK_RR : Field := fld (shape1 0x1A102968 512 0x1) 0 3 .ro

/-- R137: An orphan episode of the channel goes on. -/
def H.BRX_EPISODE : Field := fld (shape1 0x19000000 4 0x1) 0 1 .ro

/-- R165: the 64 TTI bytes that client c last carried, four in a word. -/
def H.FRM_CLI_TTI : Field := fld (shape2 0x141FEB90 32 0x40 16 0x4) 0 32 .ro

/-- R165: multiframes in a row in which client c carried them, up to 3. -/
def H.FRM_CLI_RUN : Field := fld (shape1 0x141FF398 32 0x1) 0 2 .ro

/-- R165: the accepted TTI of client c, four bytes in a word. -/
def H.FRM_CLI_RX : Field := fld (shape2 0x141FF3C0 32 0x40 16 0x4) 0 32 .ro

/-- R165: a TTI of client c has been accepted. -/
def H.FRM_CLI_ACC : Field := fld (shape1 0x141FFBC8 32 0x1) 0 1 .ro

/-- R164: raw conditions of client c in the second. -/
def H.FRM_SEC_CLI : Field := fld (shape1 0x141FFBF0 32 0x2) 0 12 .ro

/-- R164: dLOS, dLOF and dLOM of subcarrier k, or of the line that carries it, were raw-present in the second. -/
def H.FRM_SEC_SC : Field := fld (shape1 0x141FFC38 512 0x1) 0 3 .ro

/-- R147: one more than the number of the last frame of leaf l (0 without a tree) on subcarrier k, counted in frames; index k l. -/
def H.FRM_BIP_AT : Field := fld (shape2 0x141FFE40 512 0x1000 512 0x8) 0 33 .ro

/-- R158: words in a row of leaf l on subcarrier k whose MFN differed, up to 7; index k l. -/
def H.FRM_UP_MFN_MISS : Field := fld (shape2 0x143FFE40 512 0x200 512 0x1) 0 3 .ro

/-- R149: container frames whose start on transmit subcarrier k lies in the frames sent and that have not begun. -/
def H.FRM_CF_DUE : Field := fld (shape1 0x1443FE48 512 0x2) 0 16 .ro

/-- R185: what the egress of client c sends: 0 nothing, 1 the replacement signal, 2 what a flow feeds. -/
def H.HSL_OUT : Field := fld (shape1 0x110000C8 32 0x1) 0 2 .ro

/-- R186: the offset of the NCO of client c, signed, in 0.001 ppm. -/
def H.HSL_NCO : Field := fld (shape1 0x110000F0 32 0x4) 0 20 .ro

/-- R186: the integrator of its loop. -/
def H.HSL_NCO_INT : Field := fld (shape1 0x11000178 32 0x8) 0 64 .ro

/-- R203: word i of the on-die burst assembly area. -/
def H.BRX_DIE : Field := fld (shape1 0x19000010 2048 0x4) 0 32 .ro

/-- R216: 1 + 2 times the context plus the phase that a ROLL in progress makes active when it completes; 0 none. -/
def H.CRY_ROLL : Field := fld (shape0 0xF068E90) 0 14 .ro

/-- R235: the quality level last passed to the pair partner; 16 none since the link came up. -/
def H.SYN_QL_SENT : Field := fldR (shape0 0x10000368) 0 5 .ro 16

/-- R243: 10 ms ticks left of the ramp of output p to the loop frequency after its loop closed. -/
def H.SYN_NCO_RAMP : Field := fld (shape1 0x10000370 2 0x1) 0 7 .ro

/-- R289: the thread whose event took the sample of overflow source s. -/
def H.PMC_OVF_THR : Field := fld (shape1 0xA1B3848 4 0x1) 0 2 .ro

/-- R289: instructions that this thread has issued since, while the sample of overflow source s is due. -/
def H.PMC_OVF_SKID : Field := fld (shape1 0xA1B3858 4 0x1) 0 3 .ro

/-- R291, R299: Ticks of the conversion in progress: 50 at full rate, 400 in low-power mode. -/
def H.HKA_TICKS : Field := fld (shape0 0xB000170) 0 9 .ro

end Sys2Proof.Machine
end

