-- ==== Sys2Proof/Machine/RegMap.lean ====
section
/-! DEFINITION. Sys2Proof/Machine/RegMap.lean: the registers by name, each with its place and its fields, and the lookup of an
address of the register space (spec/19_register_index.md, Tables SYS-13 and SYS-14). -/
namespace Sys2Proof.Machine

/-- Every register of Table SYS-14, named BLOCK_REGISTER. `SE_` names those of the supervisor's window alone. -/
inductive RegId where
  | SYS_ID | SYS_ROLE | SYS_STAT | SYS_LOCK | SYS_INT_CAUSE | SYS_INT_MASK
  | SYS_INT_SUMMARY | SYS_RESET | SYS_SOFT_RST | SYS_RST_CFG | SYS_RST_CAUSE | SYS_ROLLBACK
  | SYS_VEC_MAP | BOOT_STAT | BOOT_FL_CMD | BOOT_FL_ADDR | BOOT_FL_STAT | BOOT_FL_DATA
  | LCM_STATE | LCM_TRANS | LCM_STAT | LCM_INT_CAUSE | LCM_INT_MASK | LCM_KEY_CTRL
  | LCM_KEY_STAT | LCM_DEV_ID | LCM_CHALLENGE | LCM_AUTH | LCM_KEY_HASH | PWR_INT_CAUSE
  | PWR_INT_MASK | PWR_AVS_CFG | PWR_AVS_SET | PWR_AVS_READ | PWR_PMB_CMD | PWR_PMB_DATA
  | PWR_REST_CTRL | PWR_REST_CFG | PWR_REST_WAKE_MASK | PWR_REST_STAT | PWR_RAIL_STAT | PWR_SLACK_CTRL
  | PWR_SLACK_STAT | PWR_VMIN | PWR_SAFE_STAT | PWR_SLACK_CFG | PWR_SLACK_LVL | ENG_CTRL
  | ENG_STAT | ENG_CFG | ENG_INT_CAUSE | ENG_INT_MASK | ENG_THR | ENG_THR_STAT
  | ENG_FLAGS | ENG_QACC | ENG_UWIN | ENG_JRNL_HEAD | ENG_JRNL_SEQ | ENG_JRNL_IDX
  | ENG_JRNL_RD | ENG_MEM_ADDR | ENG_MEM_DATA | ENG_GREG | ENG_TAG | SE_IMG_STAT
  | SE_IMG_CTRL | SE_IMG_VER | SE_PREV_VER | SE_SPILL_STAT | SE_SPILL_POP | SE_SPILL_RD
  | MBX_INT_CAUSE | MBX_INT_MASK | MBX_DB_PEND | MBX_TAKEN_PEND | MBX_BIND | MBX_LOCK_STAT
  | MBX_DATA | MBX_DOORBELL | MBX_STAT | MBX_LOCK | PMC_INT_CAUSE | PMC_INT_MASK
  | PMC_SMP_CFG | PMC_SMP_STAT | PMC_SMP_POP | PMC_SMP_DROP | PMC_OVF_SEL | PMC_OVF_STAT
  | PMC_SMP_ENG | PMC_SMP_RD | PMC_GRP_FILT | PMC_GRP_WIN | PMC_CNT_LO | PMC_CNT_HI
  | HKA_CTRL | HKA_TRIG | HKA_SEQ_GO | HKA_STAT | HKA_INT_CAUSE | HKA_INT_MASK
  | HKA_TIMER | HKA_MISS_CNT | HKA_INJ | HKA_INJ_RES | HKA_DIE_TEMP | HKA_DIE_HOT
  | HKA_SUPMUX | HKA_SEQ | HKA_RES | HKA_PWM_PER | HKA_PWM_DUTY | HKA_PWM_DITH
  | FLT_CTRL | FLT_INT_CAUSE | FLT_INT_MASK | FLT_CH_CFG | FLT_CH_CTRL | FLT_CH_STAT
  | FLT_DET_CFG | FLT_OUT | FLT_PEAK | FLT_RMS | FLT_ENV | FLT_THR_HI
  | FLT_THR_LO | FLT_FIR | CAL_CTRL | CAL_STAT | CAL_INT_CAUSE | CAL_INT_MASK
  | CAL_COUNT | CAL_LAST_TIME | CAL_LAST_TEMP | CAL_DELTA_T | CAL_DEFERRED | CAL_DIS_STAT
  | CAL_ADC_STAT | CAL_DAC_STAT | BST_CTRL | BST_STARTUP | BST_STAT | BST_INT_CAUSE
  | BST_INT_MASK | BST_RESULT | CRY_CTRL | CRY_LOCK | CRY_LOCK_STAT | CRY_INT_CAUSE
  | CRY_INT_MASK | CRY_KEY_CMD | CRY_KEY_STAT | CRY_KEY_SALT | CRY_KEY_DATA | CRY_ERASE_STAT
  | CRY_CTX_SEL | CRY_CTX_STAT | CRY_TX_NEXT_LO | CRY_TX_NEXT_HI | CRY_TX_CUR_LO | CRY_TX_CUR_HI
  | CRY_RX_LAST_LO | CRY_RX_LAST_HI | CRY_SALT | CRY_CNT | SYN_CTRL | SYN_STAT
  | SYN_INT_CAUSE | SYN_INT_MASK | SYN_SEL_CTRL | SYN_DISAGREE_PPB | SYN_QUAL_CFG | SYN_QL_CFG
  | SYN_HO_CFG | SYN_HO_MODE | SYN_HO_STAT | SYN_HO_TEMP_CAL | SYN_HO_TEMP | SYN_HO_TC
  | SYN_HO_AGE | SYN_HO_AGE_T | SYN_HO_AGE_START | SYN_HO_FREQ | SYN_REF_CFG | SYN_REF_FREQ
  | SYN_REF_QL | SYN_REF_STAT | SYN_REF_OFS | SYN_REF_RATE | SYN_OUT_CFG | SYN_OUT_FREQ
  | SYN_PSTEP | SYN_PSTEP_CFG | SYN_PRIV_KEY | SYN_NCO_CTRL | SYN_NCO_FREQ | SYN_PRIV_CFG
  | SYN_TIME_LO | SYN_TIME_HI | SYN_TIME_SET_S | SYN_TIME_CTRL | SYN_PPS_CFG | SYN_PPS_IN_ERR
  | HSL_CTRL | HSL_LINK_CFG | HSL_INT_CAUSE | HSL_INT_MASK | HSL_RCLK_SEL | HSL_LANE_CFG
  | HSL_LANE_TXEQ | HSL_LANE_STAT | HSL_CLI_CFG | HSL_CLI_STAT | HSL_CLI_DSK | HSL_CLI_FEC
  | FLW_CMD | FLW_CMD_STAT | FLW_INT_CAUSE | FLW_INT_MASK | FLW_UNKNOWN_CNT | FLW_SLEEP_CFG
  | FLW_STAGE | FLW_CLI_UNMATCH | FLW_SLEEP_DROP | FLW_FT | FLW_FSTAT | QDM_CTRL
  | QDM_STAT | QDM_INT_CAUSE | QDM_INT_MASK | QDM_BW | QDM_POOL_STAT | QDM_PORT_CFG
  | QDM_TRAIN_STAT | QDM_ERR_CNT | QDM_ERR_ADDR | QDM_REGION | FRM_CTRL | FRM_ALIGN_CFG
  | FRM_ALIGN_STAT | FRM_INT_CAUSE | FRM_INT_MASK | FRM_PATTERN_AMBIG | FRM_BOUNDARY_TIES | FRM_CAND_OVF
  | FRM_SSM_TX | FRM_SSM_RX | FRM_DEG_CFG | FRM_PM_STAT | FRM_TIM_CFG | FRM_DEF_CFG
  | FRM_DEF_LINE | FRM_TTI_TX | FRM_TTI_EXP | FRM_TTI_RX | FRM_DEF_SC | FRM_DEF_FLOW
  | FRM_DEF_LANE | FRM_DEF_CLI | FRM_RA_CFG | FRM_RA_STAT | FRM_SC_PM | FRM_CLI_PM
  | FRM_FPM | FEC_CFG | FEC_INT_CAUSE | FEC_INT_MASK | FEC_SD_THR | FEC_SD_MAP
  | FEC_ITER_HIST | FEC_PM_CBITS | FEC_PM_CW | FEC_PM_FAIL | FEC_PM_CBITS_HI | FEC_PM_INVAL
  | FEC_QC_BASE | LTX_CTRL | LTX_LINE_CFG | LTX_STAT | LTX_INT_CAUSE | LTX_INT_MASK
  | LTX_FREQ_OFS | LTX_CDPRE | LTX_CDPRE_CTRL | LTX_GAIN | LTX_CLIP_CNT | LTX_SKEW
  | LTX_PEQ | LTX_PD_LUT | LRX_CTRL | LRX_LINE_CFG | LRX_STAT | LRX_RXGRP
  | LRX_INT_CAUSE | LRX_INT_MASK | LRX_ACQ_CFG | LRX_CD | LRX_CD_CTRL | LRX_CD_RES
  | LRX_CD_EST | LRX_EQ_CFG | LRX_CR_CFG | LRX_LOFB_CFG | LRX_LOFB_STAT | LRX_CFO
  | LRX_SNR_CFG | LRX_IMP | LRX_CD_RESID | LRX_CSLIP_CNT | LRX_DM_ERR_CNT | LRX_SING_CNT
  | LRX_SC_STAT | LRX_SNR | LRX_SNR_LEAF | SCM_CTRL | SCM_LOAD_CFG | SCM_GAP
  | SCM_CHG_CFG | SCM_CHG_CTRL | SCM_CHG_STAT | SCM_INT_CAUSE | SCM_INT_MASK | SCM_GRANT_CTRL
  | SCM_GRANT_STAT | SCM_NAK_MAP | SCM_DS_NEXT | SCM_US_NEXT | SCM_DS_ACT | SCM_US_ACT
  | SCM_DS_SNR | SCM_SC_FLAG | SCM_GRANT_SC | SCM_GRANT_NEXT | SCM_GRANT_ACT | BRX_CTRL
  | BRX_DET_CFG | BRX_RESTART_MARGIN | BRX_CAPTURE_MARGIN | BRX_INT_CAUSE | BRX_INT_MASK | BRX_STAT
  | BRX_ENG_CFG | BRX_REC_STAT | BRX_REC_POP | BRX_COL_STAT | BRX_COL_POP | BRX_DROP_CNT
  | BRX_REC_DATA | BRX_COL_DATA | BRX_CNT | BRX_SC_ABSENT | VLK_CTRL | VLK_TREE_CFG
  | VLK_T_EQ | VLK_REG_CFG | VLK_REG_SC | VLK_US_OFS | VLK_RETX_CFG | VLK_RANGE_CFG
  | VLK_STAT | VLK_INT_CAUSE | VLK_INT_MASK | VLK_CRC_ERR_CNT | VLK_RETX_CNT | VLK_RX_DROP_CNT
  | VLK_SELF | VLK_SELF_EQD | VLK_REST_CFG | VLK_WAKE | VLK_TXPOST | VLK_RXSTAT
  | VLK_RXPOP | VLK_TXBUF | VLK_RXBUF | VLK_LEAF | VLK_LEAF_EQD | VLK_LEAF_ID
  | CVT_DAC_FS | CVT_DAC_CFG | CVT_DAC_STAT | CVT_ADC_FS | CVT_ADC_CFG | CVT_ADC_STAT
  | CVT_ADC_LVL | LSR_CTRL | LSR_STAT | LSR_INT_CAUSE | LSR_INT_MASK | LSR_SER_CFG
  | LSR_SER_CMD | LSR_SER_RESP | LSR_FT_CFG | LSR_FT_OUT | LSR_LOOP_CFG | LSR_LOOP_SET
  | LSR_LOOP_LIM | LSR_LOOP_STAT | PEER_CTRL | PEER_CFG | PEER_STAT | PEER_INT_CAUSE
  | PEER_INT_MASK | PEER_DELAY | PEER_TAKE_CNT | PEER_EQD_CFG | PEER_EQD_MEAS
  deriving DecidableEq, Repr

def RegId.shape : RegId → Shape
  | .SYS_ID => S.SYS_ID
  | .SYS_ROLE => S.SYS_ROLE
  | .SYS_STAT => S.SYS_STAT
  | .SYS_LOCK => S.SYS_LOCK
  | .SYS_INT_CAUSE => S.SYS_INT_CAUSE
  | .SYS_INT_MASK => S.SYS_INT_MASK
  | .SYS_INT_SUMMARY => S.SYS_INT_SUMMARY
  | .SYS_RESET => S.SYS_RESET
  | .SYS_SOFT_RST => S.SYS_SOFT_RST
  | .SYS_RST_CFG => S.SYS_RST_CFG
  | .SYS_RST_CAUSE => S.SYS_RST_CAUSE
  | .SYS_ROLLBACK => S.SYS_ROLLBACK
  | .SYS_VEC_MAP => S.SYS_VEC_MAP
  | .BOOT_STAT => S.BOOT_STAT
  | .BOOT_FL_CMD => S.BOOT_FL_CMD
  | .BOOT_FL_ADDR => S.BOOT_FL_ADDR
  | .BOOT_FL_STAT => S.BOOT_FL_STAT
  | .BOOT_FL_DATA => S.BOOT_FL_DATA
  | .LCM_STATE => S.LCM_STATE
  | .LCM_TRANS => S.LCM_TRANS
  | .LCM_STAT => S.LCM_STAT
  | .LCM_INT_CAUSE => S.LCM_INT_CAUSE
  | .LCM_INT_MASK => S.LCM_INT_MASK
  | .LCM_KEY_CTRL => S.LCM_KEY_CTRL
  | .LCM_KEY_STAT => S.LCM_KEY_STAT
  | .LCM_DEV_ID => S.LCM_DEV_ID
  | .LCM_CHALLENGE => S.LCM_CHALLENGE
  | .LCM_AUTH => S.LCM_AUTH
  | .LCM_KEY_HASH => S.LCM_KEY_HASH
  | .PWR_INT_CAUSE => S.PWR_INT_CAUSE
  | .PWR_INT_MASK => S.PWR_INT_MASK
  | .PWR_AVS_CFG => S.PWR_AVS_CFG
  | .PWR_AVS_SET => S.PWR_AVS_SET
  | .PWR_AVS_READ => S.PWR_AVS_READ
  | .PWR_PMB_CMD => S.PWR_PMB_CMD
  | .PWR_PMB_DATA => S.PWR_PMB_DATA
  | .PWR_REST_CTRL => S.PWR_REST_CTRL
  | .PWR_REST_CFG => S.PWR_REST_CFG
  | .PWR_REST_WAKE_MASK => S.PWR_REST_WAKE_MASK
  | .PWR_REST_STAT => S.PWR_REST_STAT
  | .PWR_RAIL_STAT => S.PWR_RAIL_STAT
  | .PWR_SLACK_CTRL => S.PWR_SLACK_CTRL
  | .PWR_SLACK_STAT => S.PWR_SLACK_STAT
  | .PWR_VMIN => S.PWR_VMIN
  | .PWR_SAFE_STAT => S.PWR_SAFE_STAT
  | .PWR_SLACK_CFG => S.PWR_SLACK_CFG
  | .PWR_SLACK_LVL => S.PWR_SLACK_LVL
  | .ENG_CTRL => S.ENG_CTRL
  | .ENG_STAT => S.ENG_STAT
  | .ENG_CFG => S.ENG_CFG
  | .ENG_INT_CAUSE => S.ENG_INT_CAUSE
  | .ENG_INT_MASK => S.ENG_INT_MASK
  | .ENG_THR => S.ENG_THR
  | .ENG_THR_STAT => S.ENG_THR_STAT
  | .ENG_FLAGS => S.ENG_FLAGS
  | .ENG_QACC => S.ENG_QACC
  | .ENG_UWIN => S.ENG_UWIN
  | .ENG_JRNL_HEAD => S.ENG_JRNL_HEAD
  | .ENG_JRNL_SEQ => S.ENG_JRNL_SEQ
  | .ENG_JRNL_IDX => S.ENG_JRNL_IDX
  | .ENG_JRNL_RD => S.ENG_JRNL_RD
  | .ENG_MEM_ADDR => S.ENG_MEM_ADDR
  | .ENG_MEM_DATA => S.ENG_MEM_DATA
  | .ENG_GREG => S.ENG_GREG
  | .ENG_TAG => S.ENG_TAG
  | .SE_IMG_STAT => S.SE_IMG_STAT
  | .SE_IMG_CTRL => S.SE_IMG_CTRL
  | .SE_IMG_VER => S.SE_IMG_VER
  | .SE_PREV_VER => S.SE_PREV_VER
  | .SE_SPILL_STAT => S.SE_SPILL_STAT
  | .SE_SPILL_POP => S.SE_SPILL_POP
  | .SE_SPILL_RD => S.SE_SPILL_RD
  | .MBX_INT_CAUSE => S.MBX_INT_CAUSE
  | .MBX_INT_MASK => S.MBX_INT_MASK
  | .MBX_DB_PEND => S.MBX_DB_PEND
  | .MBX_TAKEN_PEND => S.MBX_TAKEN_PEND
  | .MBX_BIND => S.MBX_BIND
  | .MBX_LOCK_STAT => S.MBX_LOCK_STAT
  | .MBX_DATA => S.MBX_DATA
  | .MBX_DOORBELL => S.MBX_DOORBELL
  | .MBX_STAT => S.MBX_STAT
  | .MBX_LOCK => S.MBX_LOCK
  | .PMC_INT_CAUSE => S.PMC_INT_CAUSE
  | .PMC_INT_MASK => S.PMC_INT_MASK
  | .PMC_SMP_CFG => S.PMC_SMP_CFG
  | .PMC_SMP_STAT => S.PMC_SMP_STAT
  | .PMC_SMP_POP => S.PMC_SMP_POP
  | .PMC_SMP_DROP => S.PMC_SMP_DROP
  | .PMC_OVF_SEL => S.PMC_OVF_SEL
  | .PMC_OVF_STAT => S.PMC_OVF_STAT
  | .PMC_SMP_ENG => S.PMC_SMP_ENG
  | .PMC_SMP_RD => S.PMC_SMP_RD
  | .PMC_GRP_FILT => S.PMC_GRP_FILT
  | .PMC_GRP_WIN => S.PMC_GRP_WIN
  | .PMC_CNT_LO => S.PMC_CNT_LO
  | .PMC_CNT_HI => S.PMC_CNT_HI
  | .HKA_CTRL => S.HKA_CTRL
  | .HKA_TRIG => S.HKA_TRIG
  | .HKA_SEQ_GO => S.HKA_SEQ_GO
  | .HKA_STAT => S.HKA_STAT
  | .HKA_INT_CAUSE => S.HKA_INT_CAUSE
  | .HKA_INT_MASK => S.HKA_INT_MASK
  | .HKA_TIMER => S.HKA_TIMER
  | .HKA_MISS_CNT => S.HKA_MISS_CNT
  | .HKA_INJ => S.HKA_INJ
  | .HKA_INJ_RES => S.HKA_INJ_RES
  | .HKA_DIE_TEMP => S.HKA_DIE_TEMP
  | .HKA_DIE_HOT => S.HKA_DIE_HOT
  | .HKA_SUPMUX => S.HKA_SUPMUX
  | .HKA_SEQ => S.HKA_SEQ
  | .HKA_RES => S.HKA_RES
  | .HKA_PWM_PER => S.HKA_PWM_PER
  | .HKA_PWM_DUTY => S.HKA_PWM_DUTY
  | .HKA_PWM_DITH => S.HKA_PWM_DITH
  | .FLT_CTRL => S.FLT_CTRL
  | .FLT_INT_CAUSE => S.FLT_INT_CAUSE
  | .FLT_INT_MASK => S.FLT_INT_MASK
  | .FLT_CH_CFG => S.FLT_CH_CFG
  | .FLT_CH_CTRL => S.FLT_CH_CTRL
  | .FLT_CH_STAT => S.FLT_CH_STAT
  | .FLT_DET_CFG => S.FLT_DET_CFG
  | .FLT_OUT => S.FLT_OUT
  | .FLT_PEAK => S.FLT_PEAK
  | .FLT_RMS => S.FLT_RMS
  | .FLT_ENV => S.FLT_ENV
  | .FLT_THR_HI => S.FLT_THR_HI
  | .FLT_THR_LO => S.FLT_THR_LO
  | .FLT_FIR => S.FLT_FIR
  | .CAL_CTRL => S.CAL_CTRL
  | .CAL_STAT => S.CAL_STAT
  | .CAL_INT_CAUSE => S.CAL_INT_CAUSE
  | .CAL_INT_MASK => S.CAL_INT_MASK
  | .CAL_COUNT => S.CAL_COUNT
  | .CAL_LAST_TIME => S.CAL_LAST_TIME
  | .CAL_LAST_TEMP => S.CAL_LAST_TEMP
  | .CAL_DELTA_T => S.CAL_DELTA_T
  | .CAL_DEFERRED => S.CAL_DEFERRED
  | .CAL_DIS_STAT => S.CAL_DIS_STAT
  | .CAL_ADC_STAT => S.CAL_ADC_STAT
  | .CAL_DAC_STAT => S.CAL_DAC_STAT
  | .BST_CTRL => S.BST_CTRL
  | .BST_STARTUP => S.BST_STARTUP
  | .BST_STAT => S.BST_STAT
  | .BST_INT_CAUSE => S.BST_INT_CAUSE
  | .BST_INT_MASK => S.BST_INT_MASK
  | .BST_RESULT => S.BST_RESULT
  | .CRY_CTRL => S.CRY_CTRL
  | .CRY_LOCK => S.CRY_LOCK
  | .CRY_LOCK_STAT => S.CRY_LOCK_STAT
  | .CRY_INT_CAUSE => S.CRY_INT_CAUSE
  | .CRY_INT_MASK => S.CRY_INT_MASK
  | .CRY_KEY_CMD => S.CRY_KEY_CMD
  | .CRY_KEY_STAT => S.CRY_KEY_STAT
  | .CRY_KEY_SALT => S.CRY_KEY_SALT
  | .CRY_KEY_DATA => S.CRY_KEY_DATA
  | .CRY_ERASE_STAT => S.CRY_ERASE_STAT
  | .CRY_CTX_SEL => S.CRY_CTX_SEL
  | .CRY_CTX_STAT => S.CRY_CTX_STAT
  | .CRY_TX_NEXT_LO => S.CRY_TX_NEXT_LO
  | .CRY_TX_NEXT_HI => S.CRY_TX_NEXT_HI
  | .CRY_TX_CUR_LO => S.CRY_TX_CUR_LO
  | .CRY_TX_CUR_HI => S.CRY_TX_CUR_HI
  | .CRY_RX_LAST_LO => S.CRY_RX_LAST_LO
  | .CRY_RX_LAST_HI => S.CRY_RX_LAST_HI
  | .CRY_SALT => S.CRY_SALT
  | .CRY_CNT => S.CRY_CNT
  | .SYN_CTRL => S.SYN_CTRL
  | .SYN_STAT => S.SYN_STAT
  | .SYN_INT_CAUSE => S.SYN_INT_CAUSE
  | .SYN_INT_MASK => S.SYN_INT_MASK
  | .SYN_SEL_CTRL => S.SYN_SEL_CTRL
  | .SYN_DISAGREE_PPB => S.SYN_DISAGREE_PPB
  | .SYN_QUAL_CFG => S.SYN_QUAL_CFG
  | .SYN_QL_CFG => S.SYN_QL_CFG
  | .SYN_HO_CFG => S.SYN_HO_CFG
  | .SYN_HO_MODE => S.SYN_HO_MODE
  | .SYN_HO_STAT => S.SYN_HO_STAT
  | .SYN_HO_TEMP_CAL => S.SYN_HO_TEMP_CAL
  | .SYN_HO_TEMP => S.SYN_HO_TEMP
  | .SYN_HO_TC => S.SYN_HO_TC
  | .SYN_HO_AGE => S.SYN_HO_AGE
  | .SYN_HO_AGE_T => S.SYN_HO_AGE_T
  | .SYN_HO_AGE_START => S.SYN_HO_AGE_START
  | .SYN_HO_FREQ => S.SYN_HO_FREQ
  | .SYN_REF_CFG => S.SYN_REF_CFG
  | .SYN_REF_FREQ => S.SYN_REF_FREQ
  | .SYN_REF_QL => S.SYN_REF_QL
  | .SYN_REF_STAT => S.SYN_REF_STAT
  | .SYN_REF_OFS => S.SYN_REF_OFS
  | .SYN_REF_RATE => S.SYN_REF_RATE
  | .SYN_OUT_CFG => S.SYN_OUT_CFG
  | .SYN_OUT_FREQ => S.SYN_OUT_FREQ
  | .SYN_PSTEP => S.SYN_PSTEP
  | .SYN_PSTEP_CFG => S.SYN_PSTEP_CFG
  | .SYN_PRIV_KEY => S.SYN_PRIV_KEY
  | .SYN_NCO_CTRL => S.SYN_NCO_CTRL
  | .SYN_NCO_FREQ => S.SYN_NCO_FREQ
  | .SYN_PRIV_CFG => S.SYN_PRIV_CFG
  | .SYN_TIME_LO => S.SYN_TIME_LO
  | .SYN_TIME_HI => S.SYN_TIME_HI
  | .SYN_TIME_SET_S => S.SYN_TIME_SET_S
  | .SYN_TIME_CTRL => S.SYN_TIME_CTRL
  | .SYN_PPS_CFG => S.SYN_PPS_CFG
  | .SYN_PPS_IN_ERR => S.SYN_PPS_IN_ERR
  | .HSL_CTRL => S.HSL_CTRL
  | .HSL_LINK_CFG => S.HSL_LINK_CFG
  | .HSL_INT_CAUSE => S.HSL_INT_CAUSE
  | .HSL_INT_MASK => S.HSL_INT_MASK
  | .HSL_RCLK_SEL => S.HSL_RCLK_SEL
  | .HSL_LANE_CFG => S.HSL_LANE_CFG
  | .HSL_LANE_TXEQ => S.HSL_LANE_TXEQ
  | .HSL_LANE_STAT => S.HSL_LANE_STAT
  | .HSL_CLI_CFG => S.HSL_CLI_CFG
  | .HSL_CLI_STAT => S.HSL_CLI_STAT
  | .HSL_CLI_DSK => S.HSL_CLI_DSK
  | .HSL_CLI_FEC => S.HSL_CLI_FEC
  | .FLW_CMD => S.FLW_CMD
  | .FLW_CMD_STAT => S.FLW_CMD_STAT
  | .FLW_INT_CAUSE => S.FLW_INT_CAUSE
  | .FLW_INT_MASK => S.FLW_INT_MASK
  | .FLW_UNKNOWN_CNT => S.FLW_UNKNOWN_CNT
  | .FLW_SLEEP_CFG => S.FLW_SLEEP_CFG
  | .FLW_STAGE => S.FLW_STAGE
  | .FLW_CLI_UNMATCH => S.FLW_CLI_UNMATCH
  | .FLW_SLEEP_DROP => S.FLW_SLEEP_DROP
  | .FLW_FT => S.FLW_FT
  | .FLW_FSTAT => S.FLW_FSTAT
  | .QDM_CTRL => S.QDM_CTRL
  | .QDM_STAT => S.QDM_STAT
  | .QDM_INT_CAUSE => S.QDM_INT_CAUSE
  | .QDM_INT_MASK => S.QDM_INT_MASK
  | .QDM_BW => S.QDM_BW
  | .QDM_POOL_STAT => S.QDM_POOL_STAT
  | .QDM_PORT_CFG => S.QDM_PORT_CFG
  | .QDM_TRAIN_STAT => S.QDM_TRAIN_STAT
  | .QDM_ERR_CNT => S.QDM_ERR_CNT
  | .QDM_ERR_ADDR => S.QDM_ERR_ADDR
  | .QDM_REGION => S.QDM_REGION
  | .FRM_CTRL => S.FRM_CTRL
  | .FRM_ALIGN_CFG => S.FRM_ALIGN_CFG
  | .FRM_ALIGN_STAT => S.FRM_ALIGN_STAT
  | .FRM_INT_CAUSE => S.FRM_INT_CAUSE
  | .FRM_INT_MASK => S.FRM_INT_MASK
  | .FRM_PATTERN_AMBIG => S.FRM_PATTERN_AMBIG
  | .FRM_BOUNDARY_TIES => S.FRM_BOUNDARY_TIES
  | .FRM_CAND_OVF => S.FRM_CAND_OVF
  | .FRM_SSM_TX => S.FRM_SSM_TX
  | .FRM_SSM_RX => S.FRM_SSM_RX
  | .FRM_DEG_CFG => S.FRM_DEG_CFG
  | .FRM_PM_STAT => S.FRM_PM_STAT
  | .FRM_TIM_CFG => S.FRM_TIM_CFG
  | .FRM_DEF_CFG => S.FRM_DEF_CFG
  | .FRM_DEF_LINE => S.FRM_DEF_LINE
  | .FRM_TTI_TX => S.FRM_TTI_TX
  | .FRM_TTI_EXP => S.FRM_TTI_EXP
  | .FRM_TTI_RX => S.FRM_TTI_RX
  | .FRM_DEF_SC => S.FRM_DEF_SC
  | .FRM_DEF_FLOW => S.FRM_DEF_FLOW
  | .FRM_DEF_LANE => S.FRM_DEF_LANE
  | .FRM_DEF_CLI => S.FRM_DEF_CLI
  | .FRM_RA_CFG => S.FRM_RA_CFG
  | .FRM_RA_STAT => S.FRM_RA_STAT
  | .FRM_SC_PM => S.FRM_SC_PM
  | .FRM_CLI_PM => S.FRM_CLI_PM
  | .FRM_FPM => S.FRM_FPM
  | .FEC_CFG => S.FEC_CFG
  | .FEC_INT_CAUSE => S.FEC_INT_CAUSE
  | .FEC_INT_MASK => S.FEC_INT_MASK
  | .FEC_SD_THR => S.FEC_SD_THR
  | .FEC_SD_MAP => S.FEC_SD_MAP
  | .FEC_ITER_HIST => S.FEC_ITER_HIST
  | .FEC_PM_CBITS => S.FEC_PM_CBITS
  | .FEC_PM_CW => S.FEC_PM_CW
  | .FEC_PM_FAIL => S.FEC_PM_FAIL
  | .FEC_PM_CBITS_HI => S.FEC_PM_CBITS_HI
  | .FEC_PM_INVAL => S.FEC_PM_INVAL
  | .FEC_QC_BASE => S.FEC_QC_BASE
  | .LTX_CTRL => S.LTX_CTRL
  | .LTX_LINE_CFG => S.LTX_LINE_CFG
  | .LTX_STAT => S.LTX_STAT
  | .LTX_INT_CAUSE => S.LTX_INT_CAUSE
  | .LTX_INT_MASK => S.LTX_INT_MASK
  | .LTX_FREQ_OFS => S.LTX_FREQ_OFS
  | .LTX_CDPRE => S.LTX_CDPRE
  | .LTX_CDPRE_CTRL => S.LTX_CDPRE_CTRL
  | .LTX_GAIN => S.LTX_GAIN
  | .LTX_CLIP_CNT => S.LTX_CLIP_CNT
  | .LTX_SKEW => S.LTX_SKEW
  | .LTX_PEQ => S.LTX_PEQ
  | .LTX_PD_LUT => S.LTX_PD_LUT
  | .LRX_CTRL => S.LRX_CTRL
  | .LRX_LINE_CFG => S.LRX_LINE_CFG
  | .LRX_STAT => S.LRX_STAT
  | .LRX_RXGRP => S.LRX_RXGRP
  | .LRX_INT_CAUSE => S.LRX_INT_CAUSE
  | .LRX_INT_MASK => S.LRX_INT_MASK
  | .LRX_ACQ_CFG => S.LRX_ACQ_CFG
  | .LRX_CD => S.LRX_CD
  | .LRX_CD_CTRL => S.LRX_CD_CTRL
  | .LRX_CD_RES => S.LRX_CD_RES
  | .LRX_CD_EST => S.LRX_CD_EST
  | .LRX_EQ_CFG => S.LRX_EQ_CFG
  | .LRX_CR_CFG => S.LRX_CR_CFG
  | .LRX_LOFB_CFG => S.LRX_LOFB_CFG
  | .LRX_LOFB_STAT => S.LRX_LOFB_STAT
  | .LRX_CFO => S.LRX_CFO
  | .LRX_SNR_CFG => S.LRX_SNR_CFG
  | .LRX_IMP => S.LRX_IMP
  | .LRX_CD_RESID => S.LRX_CD_RESID
  | .LRX_CSLIP_CNT => S.LRX_CSLIP_CNT
  | .LRX_DM_ERR_CNT => S.LRX_DM_ERR_CNT
  | .LRX_SING_CNT => S.LRX_SING_CNT
  | .LRX_SC_STAT => S.LRX_SC_STAT
  | .LRX_SNR => S.LRX_SNR
  | .LRX_SNR_LEAF => S.LRX_SNR_LEAF
  | .SCM_CTRL => S.SCM_CTRL
  | .SCM_LOAD_CFG => S.SCM_LOAD_CFG
  | .SCM_GAP => S.SCM_GAP
  | .SCM_CHG_CFG => S.SCM_CHG_CFG
  | .SCM_CHG_CTRL => S.SCM_CHG_CTRL
  | .SCM_CHG_STAT => S.SCM_CHG_STAT
  | .SCM_INT_CAUSE => S.SCM_INT_CAUSE
  | .SCM_INT_MASK => S.SCM_INT_MASK
  | .SCM_GRANT_CTRL => S.SCM_GRANT_CTRL
  | .SCM_GRANT_STAT => S.SCM_GRANT_STAT
  | .SCM_NAK_MAP => S.SCM_NAK_MAP
  | .SCM_DS_NEXT => S.SCM_DS_NEXT
  | .SCM_US_NEXT => S.SCM_US_NEXT
  | .SCM_DS_ACT => S.SCM_DS_ACT
  | .SCM_US_ACT => S.SCM_US_ACT
  | .SCM_DS_SNR => S.SCM_DS_SNR
  | .SCM_SC_FLAG => S.SCM_SC_FLAG
  | .SCM_GRANT_SC => S.SCM_GRANT_SC
  | .SCM_GRANT_NEXT => S.SCM_GRANT_NEXT
  | .SCM_GRANT_ACT => S.SCM_GRANT_ACT
  | .BRX_CTRL => S.BRX_CTRL
  | .BRX_DET_CFG => S.BRX_DET_CFG
  | .BRX_RESTART_MARGIN => S.BRX_RESTART_MARGIN
  | .BRX_CAPTURE_MARGIN => S.BRX_CAPTURE_MARGIN
  | .BRX_INT_CAUSE => S.BRX_INT_CAUSE
  | .BRX_INT_MASK => S.BRX_INT_MASK
  | .BRX_STAT => S.BRX_STAT
  | .BRX_ENG_CFG => S.BRX_ENG_CFG
  | .BRX_REC_STAT => S.BRX_REC_STAT
  | .BRX_REC_POP => S.BRX_REC_POP
  | .BRX_COL_STAT => S.BRX_COL_STAT
  | .BRX_COL_POP => S.BRX_COL_POP
  | .BRX_DROP_CNT => S.BRX_DROP_CNT
  | .BRX_REC_DATA => S.BRX_REC_DATA
  | .BRX_COL_DATA => S.BRX_COL_DATA
  | .BRX_CNT => S.BRX_CNT
  | .BRX_SC_ABSENT => S.BRX_SC_ABSENT
  | .VLK_CTRL => S.VLK_CTRL
  | .VLK_TREE_CFG => S.VLK_TREE_CFG
  | .VLK_T_EQ => S.VLK_T_EQ
  | .VLK_REG_CFG => S.VLK_REG_CFG
  | .VLK_REG_SC => S.VLK_REG_SC
  | .VLK_US_OFS => S.VLK_US_OFS
  | .VLK_RETX_CFG => S.VLK_RETX_CFG
  | .VLK_RANGE_CFG => S.VLK_RANGE_CFG
  | .VLK_STAT => S.VLK_STAT
  | .VLK_INT_CAUSE => S.VLK_INT_CAUSE
  | .VLK_INT_MASK => S.VLK_INT_MASK
  | .VLK_CRC_ERR_CNT => S.VLK_CRC_ERR_CNT
  | .VLK_RETX_CNT => S.VLK_RETX_CNT
  | .VLK_RX_DROP_CNT => S.VLK_RX_DROP_CNT
  | .VLK_SELF => S.VLK_SELF
  | .VLK_SELF_EQD => S.VLK_SELF_EQD
  | .VLK_REST_CFG => S.VLK_REST_CFG
  | .VLK_WAKE => S.VLK_WAKE
  | .VLK_TXPOST => S.VLK_TXPOST
  | .VLK_RXSTAT => S.VLK_RXSTAT
  | .VLK_RXPOP => S.VLK_RXPOP
  | .VLK_TXBUF => S.VLK_TXBUF
  | .VLK_RXBUF => S.VLK_RXBUF
  | .VLK_LEAF => S.VLK_LEAF
  | .VLK_LEAF_EQD => S.VLK_LEAF_EQD
  | .VLK_LEAF_ID => S.VLK_LEAF_ID
  | .CVT_DAC_FS => S.CVT_DAC_FS
  | .CVT_DAC_CFG => S.CVT_DAC_CFG
  | .CVT_DAC_STAT => S.CVT_DAC_STAT
  | .CVT_ADC_FS => S.CVT_ADC_FS
  | .CVT_ADC_CFG => S.CVT_ADC_CFG
  | .CVT_ADC_STAT => S.CVT_ADC_STAT
  | .CVT_ADC_LVL => S.CVT_ADC_LVL
  | .LSR_CTRL => S.LSR_CTRL
  | .LSR_STAT => S.LSR_STAT
  | .LSR_INT_CAUSE => S.LSR_INT_CAUSE
  | .LSR_INT_MASK => S.LSR_INT_MASK
  | .LSR_SER_CFG => S.LSR_SER_CFG
  | .LSR_SER_CMD => S.LSR_SER_CMD
  | .LSR_SER_RESP => S.LSR_SER_RESP
  | .LSR_FT_CFG => S.LSR_FT_CFG
  | .LSR_FT_OUT => S.LSR_FT_OUT
  | .LSR_LOOP_CFG => S.LSR_LOOP_CFG
  | .LSR_LOOP_SET => S.LSR_LOOP_SET
  | .LSR_LOOP_LIM => S.LSR_LOOP_LIM
  | .LSR_LOOP_STAT => S.LSR_LOOP_STAT
  | .PEER_CTRL => S.PEER_CTRL
  | .PEER_CFG => S.PEER_CFG
  | .PEER_STAT => S.PEER_STAT
  | .PEER_INT_CAUSE => S.PEER_INT_CAUSE
  | .PEER_INT_MASK => S.PEER_INT_MASK
  | .PEER_DELAY => S.PEER_DELAY
  | .PEER_TAKE_CNT => S.PEER_TAKE_CNT
  | .PEER_EQD_CFG => S.PEER_EQD_CFG
  | .PEER_EQD_MEAS => S.PEER_EQD_MEAS

def RegId.fields : RegId → List Field
  | .SYS_ID => [F.SYS_ID_PART, F.SYS_ID_DIE_REV]
  | .SYS_ROLE => [F.SYS_ROLE_ROLE]
  | .SYS_STAT => [F.SYS_STAT_PHASE, F.SYS_STAT_HOST_OPEN]
  | .SYS_LOCK => [F.SYS_LOCK_LOCK]
  | .SYS_INT_CAUSE => [F.SYS_INT_CAUSE_ROLE_LIMIT, F.SYS_INT_CAUSE_BOOT_DONE]
  | .SYS_INT_MASK => [F.SYS_INT_MASK_MASK]
  | .SYS_INT_SUMMARY => [F.SYS_INT_SUMMARY_BLK]
  | .SYS_RESET => [F.SYS_RESET_WARM, F.SYS_RESET_KEY]
  | .SYS_SOFT_RST => [F.SYS_SOFT_RST_BLK]
  | .SYS_RST_CFG => [F.SYS_RST_CFG_PERST_MODE]
  | .SYS_RST_CAUSE => [F.SYS_RST_CAUSE_SRC, F.SYS_RST_CAUSE_RAIL]
  | .SYS_ROLLBACK => [F.SYS_ROLLBACK_GO]
  | .SYS_VEC_MAP => [F.SYS_VEC_MAP_VEC]
  | .BOOT_STAT => [F.BOOT_STAT_ERR, F.BOOT_STAT_DESC_OK, F.BOOT_STAT_SPI_MHZ]
  | .BOOT_FL_CMD => [F.BOOT_FL_CMD_OP, F.BOOT_FL_CMD_LEN, F.BOOT_FL_CMD_GO]
  | .BOOT_FL_ADDR => [F.BOOT_FL_ADDR_ADDR]
  | .BOOT_FL_STAT => [F.BOOT_FL_STAT_BUSY, F.BOOT_FL_STAT_ERR]
  | .BOOT_FL_DATA => [F.BOOT_FL_DATA_DATA]
  | .LCM_STATE => [F.LCM_STATE_STATE]
  | .LCM_TRANS => [F.LCM_TRANS_TARGET, F.LCM_TRANS_KEY, F.LCM_TRANS_CONFIRM]
  | .LCM_STAT => [F.LCM_STAT_BUSY, F.LCM_STAT_ERR]
  | .LCM_INT_CAUSE => [F.LCM_INT_CAUSE_DONE, F.LCM_INT_CAUSE_REFUSED]
  | .LCM_INT_MASK => [F.LCM_INT_MASK_MASK]
  | .LCM_KEY_CTRL => [F.LCM_KEY_CTRL_SLOT, F.LCM_KEY_CTRL_COMMIT, F.LCM_KEY_CTRL_REVOKE]
  | .LCM_KEY_STAT => [F.LCM_KEY_STAT_WRITTEN, F.LCM_KEY_STAT_REVOKED]
  | .LCM_DEV_ID => [F.LCM_DEV_ID_VAL]
  | .LCM_CHALLENGE => [F.LCM_CHALLENGE_VAL]
  | .LCM_AUTH => [F.LCM_AUTH_DATA]
  | .LCM_KEY_HASH => [F.LCM_KEY_HASH_DATA]
  | .PWR_INT_CAUSE => [F.PWR_INT_CAUSE_SLACK, F.PWR_INT_CAUSE_AVS_REFUSED, F.PWR_INT_CAUSE_REST_ENTERED, F.PWR_INT_CAUSE_REST_EXITED, F.PWR_INT_CAUSE_REST_REFUSED, F.PWR_INT_CAUSE_WAKE_HELD, F.PWR_INT_CAUSE_RAIL_WARN]
  | .PWR_INT_MASK => [F.PWR_INT_MASK_MASK]
  | .PWR_AVS_CFG => [F.PWR_AVS_CFG_CLK, F.PWR_AVS_CFG_RAIL, F.PWR_AVS_CFG_TMO, F.PWR_AVS_CFG_TOL_MV]
  | .PWR_AVS_SET => [F.PWR_AVS_SET_MV]
  | .PWR_AVS_READ => [F.PWR_AVS_READ_MV, F.PWR_AVS_READ_BUSY]
  | .PWR_PMB_CMD => [F.PWR_PMB_CMD_CODE, F.PWR_PMB_CMD_ADDR, F.PWR_PMB_CMD_READ, F.PWR_PMB_CMD_GO]
  | .PWR_PMB_DATA => [F.PWR_PMB_DATA_DATA, F.PWR_PMB_DATA_NACK]
  | .PWR_REST_CTRL => [F.PWR_REST_CTRL_ENTER, F.PWR_REST_CTRL_WAKE]
  | .PWR_REST_CFG => [F.PWR_REST_CFG_VRET_MV]
  | .PWR_REST_WAKE_MASK => [F.PWR_REST_WAKE_MASK_BLK]
  | .PWR_REST_STAT => [F.PWR_REST_STAT_STATE, F.PWR_REST_STAT_WAKE_HELD, F.PWR_REST_STAT_ERR, F.PWR_REST_STAT_WAKE_US]
  | .PWR_RAIL_STAT => [F.PWR_RAIL_STAT_GOOD, F.PWR_RAIL_STAT_WARN]
  | .PWR_SLACK_CTRL => [F.PWR_SLACK_CTRL_AVS_AUTO, F.PWR_SLACK_CTRL_AVS_STEP, F.PWR_SLACK_CTRL_SOFT_DWELL, F.PWR_SLACK_CTRL_LOWER_DWELL, F.PWR_SLACK_CTRL_AUTO_RELEASE, F.PWR_SLACK_CTRL_RELEASE, F.PWR_SLACK_CTRL_HYST]
  | .PWR_SLACK_STAT => [F.PWR_SLACK_STAT_LOW, F.PWR_SLACK_STAT_HARD]
  | .PWR_VMIN => [F.PWR_VMIN_VMIN_MV, F.PWR_VMIN_VREQ_MV]
  | .PWR_SAFE_STAT => [F.PWR_SAFE_STAT_TX_MUTED, F.PWR_SAFE_STAT_RX_SAFE, F.PWR_SAFE_STAT_UP_SAFE, F.PWR_SAFE_STAT_PEER_HELD, F.PWR_SAFE_STAT_AVS_CEILING, F.PWR_SAFE_STAT_AVS_FAIL, F.PWR_SAFE_STAT_RELEASE_REFUSED, F.PWR_SAFE_STAT_CFG_ERR]
  | .PWR_SLACK_CFG => [F.PWR_SLACK_CFG_SOFT, F.PWR_SLACK_CFG_HARD]
  | .PWR_SLACK_LVL => [F.PWR_SLACK_LVL_NOW, F.PWR_SLACK_LVL_MIN, F.PWR_SLACK_LVL_HARD_CNT, F.PWR_SLACK_LVL_UNDERRUN]
  | .ENG_CTRL => [F.ENG_CTRL_RESET, F.ENG_CTRL_START, F.ENG_CTRL_STOP]
  | .ENG_STAT => [F.ENG_STAT_LOADED, F.ENG_STAT_RUNNING, F.ENG_STAT_FAULTED, F.ENG_STAT_TAGS_USED, F.ENG_STAT_INFLIGHT]
  | .ENG_CFG => [F.ENG_CFG_ACC_TMO]
  | .ENG_INT_CAUSE => [F.ENG_INT_CAUSE_FAULT, F.ENG_INT_CAUSE_HALT, F.ENG_INT_CAUSE_ABORT, F.ENG_INT_CAUSE_MEM_REFUSED, F.ENG_INT_CAUSE_SPILL_LOST, F.ENG_INT_CAUSE_ACT_ERR]
  | .ENG_INT_MASK => [F.ENG_INT_MASK_MASK]
  | .ENG_THR => [F.ENG_THR_ENTRY, F.ENG_THR_SUPER]
  | .ENG_THR_STAT => [F.ENG_THR_STAT_PC, F.ENG_THR_STAT_STATE, F.ENG_THR_STAT_CAUSE]
  | .ENG_FLAGS => [F.ENG_FLAGS_FLAG]
  | .ENG_QACC => [F.ENG_QACC_FREE_R, F.ENG_QACC_FREE_W, F.ENG_QACC_LOG_R]
  | .ENG_UWIN => [F.ENG_UWIN_BASE, F.ENG_UWIN_PAGES, F.ENG_UWIN_WRITE]
  | .ENG_JRNL_HEAD => [F.ENG_JRNL_HEAD_VAL]
  | .ENG_JRNL_SEQ => [F.ENG_JRNL_SEQ_VAL]
  | .ENG_JRNL_IDX => [F.ENG_JRNL_IDX_IDX]
  | .ENG_JRNL_RD => [F.ENG_JRNL_RD_DATA]
  | .ENG_MEM_ADDR => [F.ENG_MEM_ADDR_ADDR, F.ENG_MEM_ADDR_SPACE]
  | .ENG_MEM_DATA => [F.ENG_MEM_DATA_DATA]
  | .ENG_GREG => [F.ENG_GREG_VAL]
  | .ENG_TAG => [F.ENG_TAG_STATE, F.ENG_TAG_ALLOC, F.ENG_TAG_THREAD, F.ENG_TAG_AUTO, F.ENG_TAG_JIDX]
  | .SE_IMG_STAT => [F.SE_IMG_STAT_SLOT, F.SE_IMG_STAT_PREV_VALID, F.SE_IMG_STAT_TRIAL, F.SE_IMG_STAT_BOOT_FAIL, F.SE_IMG_STAT_RB_CAUSE, F.SE_IMG_STAT_TRIAL_LEFT]
  | .SE_IMG_CTRL => [F.SE_IMG_CTRL_HEALTH_OK, F.SE_IMG_CTRL_ACTIVATE, F.SE_IMG_CTRL_SLOT]
  | .SE_IMG_VER => [F.SE_IMG_VER_VERSION]
  | .SE_PREV_VER => [F.SE_PREV_VER_VERSION]
  | .SE_SPILL_STAT => [F.SE_SPILL_STAT_COUNT, F.SE_SPILL_STAT_LOST]
  | .SE_SPILL_POP => [F.SE_SPILL_POP_POP]
  | .SE_SPILL_RD => [F.SE_SPILL_RD_DATA]
  | .MBX_INT_CAUSE => [F.MBX_INT_CAUSE_DOORBELL, F.MBX_INT_CAUSE_TAKEN, F.MBX_INT_CAUSE_POST_REFUSED, F.MBX_INT_CAUSE_BIND_ERR, F.MBX_INT_CAUSE_LOCK_ERR, F.MBX_INT_CAUSE_ACCESS_ERR, F.MBX_INT_CAUSE_RESET_SEEN]
  | .MBX_INT_MASK => [F.MBX_INT_MASK_MASK]
  | .MBX_DB_PEND => [F.MBX_DB_PEND_CH]
  | .MBX_TAKEN_PEND => [F.MBX_TAKEN_PEND_CH]
  | .MBX_BIND => [F.MBX_BIND_SENDER, F.MBX_BIND_RECEIVER, F.MBX_BIND_EN]
  | .MBX_LOCK_STAT => [F.MBX_LOCK_STAT_OWNER, F.MBX_LOCK_STAT_CONTENDED, F.MBX_LOCK_STAT_LOCK_BROKEN]
  | .MBX_DATA => [F.MBX_DATA_DATA]
  | .MBX_DOORBELL => [F.MBX_DOORBELL_LEN]
  | .MBX_STAT => [F.MBX_STAT_FULL, F.MBX_STAT_LEN, F.MBX_STAT_TAKEN, F.MBX_STAT_RX_RESET_SEEN, F.MBX_STAT_SENDER_RESET_SEEN, F.MBX_STAT_POST_REFUSED]
  | .MBX_LOCK => [F.MBX_LOCK_LOCK]
  | .PMC_INT_CAUSE => [F.PMC_INT_CAUSE_OVF, F.PMC_INT_CAUSE_SMP_AVAIL, F.PMC_INT_CAUSE_SMP_DROP, F.PMC_INT_CAUSE_MODE_CHG]
  | .PMC_INT_MASK => [F.PMC_INT_MASK_MASK]
  | .PMC_SMP_CFG => [F.PMC_SMP_CFG_MODE, F.PMC_SMP_CFG_TRACE, F.PMC_SMP_CFG_SE, F.PMC_SMP_CFG_N]
  | .PMC_SMP_STAT => [F.PMC_SMP_STAT_METHOD, F.PMC_SMP_STAT_ACTIVE_LE, F.PMC_SMP_STAT_COUNT]
  | .PMC_SMP_POP => [F.PMC_SMP_POP_POP]
  | .PMC_SMP_DROP => [F.PMC_SMP_DROP_RING, F.PMC_SMP_DROP_TRACE, F.PMC_SMP_DROP_SKIP]
  | .PMC_OVF_SEL => [F.PMC_OVF_SEL_CNT, F.PMC_OVF_SEL_EN]
  | .PMC_OVF_STAT => [F.PMC_OVF_STAT_OVF]
  | .PMC_SMP_ENG => [F.PMC_SMP_ENG_LE]
  | .PMC_SMP_RD => [F.PMC_SMP_RD_DATA]
  | .PMC_GRP_FILT => [F.PMC_GRP_FILT_PRIV, F.PMC_GRP_FILT_CLASS, F.PMC_GRP_FILT_MASTER, F.PMC_GRP_FILT_MMASK]
  | .PMC_GRP_WIN => [F.PMC_GRP_WIN_ADDR]
  | .PMC_CNT_LO => [F.PMC_CNT_LO_LO]
  | .PMC_CNT_HI => [F.PMC_CNT_HI_HI]
  | .HKA_CTRL => [F.HKA_CTRL_EN, F.HKA_CTRL_LP, F.HKA_CTRL_LEN_M1]
  | .HKA_TRIG => [F.HKA_TRIG_SRC, F.HKA_TRIG_DELAY]
  | .HKA_SEQ_GO => [F.HKA_SEQ_GO_GO]
  | .HKA_STAT => [F.HKA_STAT_STATE, F.HKA_STAT_NEXT, F.HKA_STAT_INJ_PEND, F.HKA_STAT_CAL_HOLD]
  | .HKA_INT_CAUSE => [F.HKA_INT_CAUSE_SEQ_DONE, F.HKA_INT_CAUSE_INJ_DONE, F.HKA_INT_CAUSE_TRIG_MISS, F.HKA_INT_CAUSE_INJ_REFUSED]
  | .HKA_INT_MASK => [F.HKA_INT_MASK_MASK]
  | .HKA_TIMER => [F.HKA_TIMER_PERIOD]
  | .HKA_MISS_CNT => [F.HKA_MISS_CNT_COUNT]
  | .HKA_INJ => [F.HKA_INJ_CH, F.HKA_INJ_DIFF, F.HKA_INJ_ALIGN, F.HKA_INJ_TSRC, F.HKA_INJ_GO]
  | .HKA_INJ_RES => [F.HKA_INJ_RES_DATA, F.HKA_INJ_RES_NEW, F.HKA_INJ_RES_OVR]
  | .HKA_DIE_TEMP => [F.HKA_DIE_TEMP_TEMP]
  | .HKA_DIE_HOT => [F.HKA_DIE_HOT_TEMP]
  | .HKA_SUPMUX => [F.HKA_SUPMUX_SEL]
  | .HKA_SEQ => [F.HKA_SEQ_CH, F.HKA_SEQ_DIFF, F.HKA_SEQ_ALIGN]
  | .HKA_RES => [F.HKA_RES_DATA, F.HKA_RES_NEW, F.HKA_RES_OVR]
  | .HKA_PWM_PER => [F.HKA_PWM_PER_VAL]
  | .HKA_PWM_DUTY => [F.HKA_PWM_DUTY_VAL]
  | .HKA_PWM_DITH => [F.HKA_PWM_DITH_VAL, F.HKA_PWM_DITH_DITH_N]
  | .FLT_CTRL => [F.FLT_CTRL_EN]
  | .FLT_INT_CAUSE => [F.FLT_INT_CAUSE_ENV_HI, F.FLT_INT_CAUSE_ENV_LO, F.FLT_INT_CAUSE_FADE_DONE, F.FLT_INT_CAUSE_SHADOW_BUSY]
  | .FLT_INT_MASK => [F.FLT_INT_MASK_MASK]
  | .FLT_CH_CFG => [F.FLT_CH_CFG_SRC, F.FLT_CH_CFG_CHAIN, F.FLT_CH_CFG_ORDER, F.FLT_CH_CFG_DEC_M1, F.FLT_CH_CFG_MED, F.FLT_CH_CFG_LOCKIN, F.FLT_CH_CFG_LOCKIN_PWM]
  | .FLT_CH_CTRL => [F.FLT_CH_CTRL_PRESET, F.FLT_CH_CTRL_SWAP, F.FLT_CH_CTRL_XFADE, F.FLT_CH_CTRL_LOCKIN_DLY]
  | .FLT_CH_STAT => [F.FLT_CH_STAT_VALID, F.FLT_CH_STAT_FADING, F.FLT_CH_STAT_SWAP_HELD, F.FLT_CH_STAT_BANK, F.FLT_CH_STAT_ABOVE, F.FLT_CH_STAT_SAT]
  | .FLT_DET_CFG => [F.FLT_DET_CFG_HOLD, F.FLT_DET_CFG_DECAY, F.FLT_DET_CFG_RMS_W, F.FLT_DET_CFG_ATK, F.FLT_DET_CFG_REL]
  | .FLT_OUT => [F.FLT_OUT_VAL]
  | .FLT_PEAK => [F.FLT_PEAK_VAL]
  | .FLT_RMS => [F.FLT_RMS_VAL]
  | .FLT_ENV => [F.FLT_ENV_VAL]
  | .FLT_THR_HI => [F.FLT_THR_HI_VAL]
  | .FLT_THR_LO => [F.FLT_THR_LO_VAL]
  | .FLT_FIR => [F.FLT_FIR_C]
  | .CAL_CTRL => [F.CAL_CTRL_GO_FULL, F.CAL_CTRL_GO_TRACK, F.CAL_CTRL_ABORT, F.CAL_CTRL_AUTO, F.CAL_CTRL_RETRY_S]
  | .CAL_STAT => [F.CAL_STAT_STATE, F.CAL_STAT_TYPE, F.CAL_STAT_VALID, F.CAL_STAT_SOURCE, F.CAL_STAT_FLASH_BUSY, F.CAL_STAT_FLASH_BAD]
  | .CAL_INT_CAUSE => [F.CAL_INT_CAUSE_DONE, F.CAL_INT_CAUSE_CAL_DISAGREE, F.CAL_INT_CAUSE_NOREF, F.CAL_INT_CAUSE_ABORTED, F.CAL_INT_CAUSE_BUSY, F.CAL_INT_CAUSE_REPAIR, F.CAL_INT_CAUSE_FLASH_ERR]
  | .CAL_INT_MASK => [F.CAL_INT_MASK_MASK]
  | .CAL_COUNT => [F.CAL_COUNT_VAL]
  | .CAL_LAST_TIME => [F.CAL_LAST_TIME_VAL]
  | .CAL_LAST_TEMP => [F.CAL_LAST_TEMP_VAL]
  | .CAL_DELTA_T => [F.CAL_DELTA_T_VAL]
  | .CAL_DEFERRED => [F.CAL_DEFERRED_VAL]
  | .CAL_DIS_STAT => [F.CAL_DIS_STAT_QTY, F.CAL_DIS_STAT_DAC, F.CAL_DIS_STAT_P, F.CAL_DIS_STAT_ELEM, F.CAL_DIS_STAT_DIFF]
  | .CAL_ADC_STAT => [F.CAL_ADC_STAT_SPARES_FREE, F.CAL_ADC_STAT_SHORT, F.CAL_ADC_STAT_WORST_GAIN, F.CAL_ADC_STAT_WORST_OFS, F.CAL_ADC_STAT_WORST_SKEW]
  | .CAL_DAC_STAT => [F.CAL_DAC_STAT_SPARES_FREE, F.CAL_DAC_STAT_SHORT, F.CAL_DAC_STAT_WORST_GAIN, F.CAL_DAC_STAT_WORST_OFS, F.CAL_DAC_STAT_WORST_SKEW]
  | .BST_CTRL => [F.BST_CTRL_MASK, F.BST_CTRL_GO, F.BST_CTRL_ABORT, F.BST_CTRL_OVERRIDE]
  | .BST_STARTUP => [F.BST_STARTUP_SET]
  | .BST_STAT => [F.BST_STAT_BUSY, F.BST_STAT_CUR, F.BST_STAT_SAFE, F.BST_STAT_SAFE_BY]
  | .BST_INT_CAUSE => [F.BST_INT_CAUSE_DONE, F.BST_INT_CAUSE_FAIL, F.BST_INT_CAUSE_SAFE, F.BST_INT_CAUSE_REFUSED]
  | .BST_INT_MASK => [F.BST_INT_MASK_MASK]
  | .BST_RESULT => [F.BST_RESULT_RESULT, F.BST_RESULT_DETAIL, F.BST_RESULT_ELAPSED]
  | .CRY_CTRL => [F.CRY_CTRL_TAMPER_EN, F.CRY_CTRL_REPLAY_EN]
  | .CRY_LOCK => [F.CRY_LOCK_LOCK]
  | .CRY_LOCK_STAT => [F.CRY_LOCK_STAT_OWNER, F.CRY_LOCK_STAT_CONTENDED, F.CRY_LOCK_STAT_LOCK_BROKEN]
  | .CRY_INT_CAUSE => [F.CRY_INT_CAUSE_ERASED, F.CRY_INT_CAUSE_NOT_OWNER, F.CRY_INT_CAUSE_CMD_DONE, F.CRY_INT_CAUSE_CMD_ERR, F.CRY_INT_CAUSE_TAG_FAIL, F.CRY_INT_CAUSE_RESYNC, F.CRY_INT_CAUSE_REPLAY, F.CRY_INT_CAUSE_TX_NOKEY, F.CRY_INT_CAUSE_GUARD_JUMP, F.CRY_INT_CAUSE_KEY_MISS]
  | .CRY_INT_MASK => [F.CRY_INT_MASK_MASK]
  | .CRY_KEY_CMD => [F.CRY_KEY_CMD_CTX, F.CRY_KEY_CMD_PHASE, F.CRY_KEY_CMD_OP, F.CRY_KEY_CMD_GO]
  | .CRY_KEY_STAT => [F.CRY_KEY_STAT_BUSY, F.CRY_KEY_STAT_ERR_CODE]
  | .CRY_KEY_SALT => [F.CRY_KEY_SALT_SALT]
  | .CRY_KEY_DATA => [F.CRY_KEY_DATA_KEY]
  | .CRY_ERASE_STAT => [F.CRY_ERASE_STAT_CAUSE, F.CRY_ERASE_STAT_ALARM_NOW, F.CRY_ERASE_STAT_COUNT]
  | .CRY_CTX_SEL => [F.CRY_CTX_SEL_CTX]
  | .CRY_CTX_STAT => [F.CRY_CTX_STAT_A_VALID, F.CRY_CTX_STAT_B_VALID, F.CRY_CTX_STAT_TX_PH, F.CRY_CTX_STAT_RX_SYNC, F.CRY_CTX_STAT_RX_PH, F.CRY_CTX_STAT_USED]
  | .CRY_TX_NEXT_LO => [F.CRY_TX_NEXT_LO_CTR]
  | .CRY_TX_NEXT_HI => [F.CRY_TX_NEXT_HI_CTR]
  | .CRY_TX_CUR_LO => [F.CRY_TX_CUR_LO_CTR]
  | .CRY_TX_CUR_HI => [F.CRY_TX_CUR_HI_CTR]
  | .CRY_RX_LAST_LO => [F.CRY_RX_LAST_LO_CTR]
  | .CRY_RX_LAST_HI => [F.CRY_RX_LAST_HI_CTR]
  | .CRY_SALT => [F.CRY_SALT_SALT]
  | .CRY_CNT => [F.CRY_CNT_COUNT]
  | .SYN_CTRL => [F.SYN_CTRL_EN, F.SYN_CTRL_QL_EN, F.SYN_CTRL_QL_OPT, F.SYN_CTRL_REVERTIVE, F.SYN_CTRL_PBO, F.SYN_CTRL_FORCE_HO, F.SYN_CTRL_BW]
  | .SYN_STAT => [F.SYN_STAT_LOOP, F.SYN_STAT_SEL, F.SYN_STAT_SEL_QL, F.SYN_STAT_OUT_QL, F.SYN_STAT_MODEL_VALID]
  | .SYN_INT_CAUSE => [F.SYN_INT_CAUSE_SEL_CHG, F.SYN_INT_CAUSE_LOOP_CHG, F.SYN_INT_CAUSE_REF_QUAL, F.SYN_INT_CAUSE_REF_DRIFT, F.SYN_INT_CAUSE_REF_DQ, F.SYN_INT_CAUSE_REF_FAIL, F.SYN_INT_CAUSE_REF_DISAGREE, F.SYN_INT_CAUSE_QL_CHG, F.SYN_INT_CAUSE_QL_TMO, F.SYN_INT_CAUSE_PSTEP_DONE, F.SYN_INT_CAUSE_PSTEP_RANGE, F.SYN_INT_CAUSE_PRIV_ERR, F.SYN_INT_CAUSE_PRIV_CLOSED, F.SYN_INT_CAUSE_TIME_SET, F.SYN_INT_CAUSE_PPS_ALIGN]
  | .SYN_INT_MASK => [F.SYN_INT_MASK_MASK]
  | .SYN_SEL_CTRL => [F.SYN_SEL_CTRL_REF, F.SYN_SEL_CTRL_FORCE]
  | .SYN_DISAGREE_PPB => [F.SYN_DISAGREE_PPB_PPB]
  | .SYN_QUAL_CFG => [F.SYN_QUAL_CFG_WTR_S, F.SYN_QUAL_CFG_DQ_S, F.SYN_QUAL_CFG_FILT, F.SYN_QUAL_CFG_HORIZON_S]
  | .SYN_QL_CFG => [F.SYN_QL_CFG_OWN_QL, F.SYN_QL_CFG_QL_TMO]
  | .SYN_HO_CFG => [F.SYN_HO_CFG_MIN_S, F.SYN_HO_CFG_HALF_S, F.SYN_HO_CFG_QUAR_S]
  | .SYN_HO_MODE => [F.SYN_HO_MODE_TC_MODE, F.SYN_HO_MODE_AGE_MODE, F.SYN_HO_MODE_TEMP_SEQ]
  | .SYN_HO_STAT => [F.SYN_HO_STAT_SAMPLES, F.SYN_HO_STAT_FROZEN, F.SYN_HO_STAT_TC_ORDER, F.SYN_HO_STAT_AGE_S]
  | .SYN_HO_TEMP_CAL => [F.SYN_HO_TEMP_CAL_GAIN, F.SYN_HO_TEMP_CAL_OFFSET]
  | .SYN_HO_TEMP => [F.SYN_HO_TEMP_THETA, F.SYN_HO_TEMP_VALID]
  | .SYN_HO_TC => [F.SYN_HO_TC_C]
  | .SYN_HO_AGE => [F.SYN_HO_AGE_A]
  | .SYN_HO_AGE_T => [F.SYN_HO_AGE_T_D0]
  | .SYN_HO_AGE_START => [F.SYN_HO_AGE_START_T_START]
  | .SYN_HO_FREQ => [F.SYN_HO_FREQ_F]
  | .SYN_REF_CFG => [F.SYN_REF_CFG_EN, F.SYN_REF_CFG_PRI, F.SYN_REF_CFG_QL_SRC, F.SYN_REF_CFG_TOL]
  | .SYN_REF_FREQ => [F.SYN_REF_FREQ_HZ]
  | .SYN_REF_QL => [F.SYN_REF_QL_QL]
  | .SYN_REF_STAT => [F.SYN_REF_STAT_STATE, F.SYN_REF_STAT_QL_EFF, F.SYN_REF_STAT_DISAGREE, F.SYN_REF_STAT_ELIGIBLE, F.SYN_REF_STAT_WTR_LEFT]
  | .SYN_REF_OFS => [F.SYN_REF_OFS_VAL]
  | .SYN_REF_RATE => [F.SYN_REF_RATE_VAL]
  | .SYN_OUT_CFG => [F.SYN_OUT_CFG_EN, F.SYN_OUT_CFG_SRC, F.SYN_OUT_CFG_SQ_FREERUN, F.SYN_OUT_CFG_SQ_QL, F.SYN_OUT_CFG_SQ_QL_EN]
  | .SYN_OUT_FREQ => [F.SYN_OUT_FREQ_HZ]
  | .SYN_PSTEP => [F.SYN_PSTEP_AMOUNT]
  | .SYN_PSTEP_CFG => [F.SYN_PSTEP_CFG_SLEW]
  | .SYN_PRIV_KEY => [F.SYN_PRIV_KEY_KEY]
  | .SYN_NCO_CTRL => [F.SYN_NCO_CTRL_OPEN, F.SYN_NCO_CTRL_OWNER]
  | .SYN_NCO_FREQ => [F.SYN_NCO_FREQ_F]
  | .SYN_PRIV_CFG => [F.SYN_PRIV_CFG_MAX_OPEN_S]
  | .SYN_TIME_LO => [F.SYN_TIME_LO_VAL]
  | .SYN_TIME_HI => [F.SYN_TIME_HI_VAL]
  | .SYN_TIME_SET_S => [F.SYN_TIME_SET_S_VAL]
  | .SYN_TIME_CTRL => [F.SYN_TIME_CTRL_SET, F.SYN_TIME_CTRL_ALIGN, F.SYN_TIME_CTRL_SET_PEND, F.SYN_TIME_CTRL_ALIGN_PEND]
  | .SYN_PPS_CFG => [F.SYN_PPS_CFG_IN_EN, F.SYN_PPS_CFG_OUT_EN, F.SYN_PPS_CFG_WIDTH_US]
  | .SYN_PPS_IN_ERR => [F.SYN_PPS_IN_ERR_ERR, F.SYN_PPS_IN_ERR_VALID]
  | .HSL_CTRL => [F.HSL_CTRL_GRP_EN]
  | .HSL_LINK_CFG => [F.HSL_LINK_CFG_LINK_TMO]
  | .HSL_INT_CAUSE => [F.HSL_INT_CAUSE_CFG_ERR, F.HSL_INT_CAUSE_CLI_UP, F.HSL_INT_CAUSE_CLI_DOWN, F.HSL_INT_CAUSE_ORDER_CHG, F.HSL_INT_CAUSE_DSK_OVER, F.HSL_INT_CAUSE_DSK_RANGE, F.HSL_INT_CAUSE_HI_SER, F.HSL_INT_CAUSE_RCLK_SQ]
  | .HSL_INT_MASK => [F.HSL_INT_MASK_MASK]
  | .HSL_RCLK_SEL => [F.HSL_RCLK_SEL_LANE, F.HSL_RCLK_SEL_EN, F.HSL_RCLK_SEL_SQUELCHED]
  | .HSL_LANE_CFG => [F.HSL_LANE_CFG_REACH, F.HSL_LANE_CFG_POL_AUTO, F.HSL_LANE_CFG_RX_INV_FORCE, F.HSL_LANE_CFG_TX_INV]
  | .HSL_LANE_TXEQ => [F.HSL_LANE_TXEQ_PRE2, F.HSL_LANE_TXEQ_PRE1, F.HSL_LANE_TXEQ_MAIN, F.HSL_LANE_TXEQ_POST1]
  | .HSL_LANE_STAT => [F.HSL_LANE_STAT_SIG, F.HSL_LANE_STAT_CDR_LOCK, F.HSL_LANE_STAT_AM_LOCK, F.HSL_LANE_STAT_RX_INV, F.HSL_LANE_STAT_LANE_ID, F.HSL_LANE_STAT_LOCK_LOST]
  | .HSL_CLI_CFG => [F.HSL_CLI_CFG_EN, F.HSL_CLI_CFG_TYPE, F.HSL_CLI_CFG_FIRST_LANE, F.HSL_CLI_CFG_M_M1, F.HSL_CLI_CFG_REV_MODE, F.HSL_CLI_CFG_TCLK, F.HSL_CLI_CFG_JT_BW, F.HSL_CLI_CFG_DSK_HOLD]
  | .HSL_CLI_STAT => [F.HSL_CLI_STAT_STATE, F.HSL_CLI_STAT_ORDER, F.HSL_CLI_STAT_TX_REV, F.HSL_CLI_STAT_HI_SER, F.HSL_CLI_STAT_RX_LF, F.HSL_CLI_STAT_RX_RF, F.HSL_CLI_STAT_DSK_OVER, F.HSL_CLI_STAT_DSK_RANGE, F.HSL_CLI_STAT_CFG_STEP, F.HSL_CLI_STAT_RETRY, F.HSL_CLI_STAT_FLEXO_ID]
  | .HSL_CLI_DSK => [F.HSL_CLI_DSK_MEAS, F.HSL_CLI_DSK_APPLIED]
  | .HSL_CLI_FEC => [F.HSL_CLI_FEC_COUNT]
  | .FLW_CMD => [F.FLW_CMD_FLOW, F.FLW_CMD_OP, F.FLW_CMD_GO]
  | .FLW_CMD_STAT => [F.FLW_CMD_STAT_BUSY, F.FLW_CMD_STAT_ERR_CODE]
  | .FLW_INT_CAUSE => [F.FLW_INT_CAUSE_CMD_DONE, F.FLW_INT_CAUSE_CMD_ERR, F.FLW_INT_CAUSE_RATE_SHORT, F.FLW_INT_CAUSE_ING_OVF, F.FLW_INT_CAUSE_SLEEP_DROP]
  | .FLW_INT_MASK => [F.FLW_INT_MASK_MASK]
  | .FLW_UNKNOWN_CNT => [F.FLW_UNKNOWN_CNT_COUNT]
  | .FLW_SLEEP_CFG => [F.FLW_SLEEP_CFG_CAP]
  | .FLW_STAGE => [F.FLW_STAGE_DATA]
  | .FLW_CLI_UNMATCH => [F.FLW_CLI_UNMATCH_COUNT]
  | .FLW_SLEEP_DROP => [F.FLW_SLEEP_DROP_COUNT]
  | .FLW_FT => [F.FLW_FT_DATA]
  | .FLW_FSTAT => [F.FLW_FSTAT_TX_BLOCKED, F.FLW_FSTAT_RATE_SHORT, F.FLW_FSTAT_ING_OVF, F.FLW_FSTAT_HELD, F.FLW_FSTAT_SHORT_CNT]
  | .QDM_CTRL => [F.QDM_CTRL_EN, F.QDM_CTRL_RETRAIN, F.QDM_CTRL_FREQ_MHZ, F.QDM_CTRL_ERR_THR]
  | .QDM_STAT => [F.QDM_STAT_PORT_FAIL, F.QDM_STAT_IN_USE]
  | .QDM_INT_CAUSE => [F.QDM_INT_CAUSE_CFG_ERR, F.QDM_INT_CAUSE_TRAIN_FAIL, F.QDM_INT_CAUSE_REGION_ERR, F.QDM_INT_CAUSE_DATA_PERR, F.QDM_INT_CAUSE_ADDR_PERR, F.QDM_INT_CAUSE_PORT_FAIL, F.QDM_INT_CAUSE_POOL_EMPTY]
  | .QDM_INT_MASK => [F.QDM_INT_MASK_MASK]
  | .QDM_BW => [F.QDM_BW_LIMIT, F.QDM_BW_USED]
  | .QDM_POOL_STAT => [F.QDM_POOL_STAT_QDR_FREE, F.QDM_POOL_STAT_DIE_FREE]
  | .QDM_PORT_CFG => [F.QDM_PORT_CFG_EN, F.QDM_PORT_CFG_DENSITY]
  | .QDM_TRAIN_STAT => [F.QDM_TRAIN_STAT_OK, F.QDM_TRAIN_STAT_FAIL, F.QDM_TRAIN_STAT_STEP]
  | .QDM_ERR_CNT => [F.QDM_ERR_CNT_DATA, F.QDM_ERR_CNT_ADDR]
  | .QDM_ERR_ADDR => [F.QDM_ERR_ADDR_ADDR]
  | .QDM_REGION => [F.QDM_REGION_BASE, F.QDM_REGION_SIZE]
  | .FRM_CTRL => [F.FRM_CTRL_TX_EN, F.FRM_CTRL_RX_EN, F.FRM_CTRL_BDI_FORCE, F.FRM_CTRL_SSM_SRC, F.FRM_CTRL_TIM_ACT, F.FRM_CTRL_RESEARCH]
  | .FRM_ALIGN_CFG => [F.FRM_ALIGN_CFG_FAW_TOL, F.FRM_ALIGN_CFG_ALIGN_SC]
  | .FRM_ALIGN_STAT => [F.FRM_ALIGN_STAT_STATE, F.FRM_ALIGN_STAT_IN_MF, F.FRM_ALIGN_STAT_MFN_VALID, F.FRM_ALIGN_STAT_ROT_X, F.FRM_ALIGN_STAT_ROT_Y, F.FRM_ALIGN_STAT_CAND]
  | .FRM_INT_CAUSE => [F.FRM_INT_CAUSE_IN_FRAME, F.FRM_INT_CAUSE_OOF, F.FRM_INT_CAUSE_OOM, F.FRM_INT_CAUSE_DEF_CHG, F.FRM_INT_CAUSE_PM_LATCH, F.FRM_INT_CAUSE_RA_OVF, F.FRM_INT_CAUSE_RA_JUST, F.FRM_INT_CAUSE_CAND_OVF, F.FRM_INT_CAUSE_SSM_CHG, F.FRM_INT_CAUSE_CFG_ERR]
  | .FRM_INT_MASK => [F.FRM_INT_MASK_MASK]
  | .FRM_PATTERN_AMBIG => [F.FRM_PATTERN_AMBIG_COUNT]
  | .FRM_BOUNDARY_TIES => [F.FRM_BOUNDARY_TIES_COUNT]
  | .FRM_CAND_OVF => [F.FRM_CAND_OVF_COUNT]
  | .FRM_SSM_TX => [F.FRM_SSM_TX_SSM]
  | .FRM_SSM_RX => [F.FRM_SSM_RX_SSM, F.FRM_SSM_RX_VALID]
  | .FRM_DEG_CFG => [F.FRM_DEG_CFG_THR, F.FRM_DEG_CFG_M]
  | .FRM_PM_STAT => [F.FRM_PM_STAT_SEQ]
  | .FRM_TIM_CFG => [F.FRM_TIM_CFG_SAPI, F.FRM_TIM_CFG_DAPI]
  | .FRM_DEF_CFG => [F.FRM_DEF_CFG_SET, F.FRM_DEF_CFG_CLR]
  | .FRM_DEF_LINE => [F.FRM_DEF_LINE_DEF, F.FRM_DEF_LINE_RAW]
  | .FRM_TTI_TX => [F.FRM_TTI_TX_DATA]
  | .FRM_TTI_EXP => [F.FRM_TTI_EXP_DATA]
  | .FRM_TTI_RX => [F.FRM_TTI_RX_DATA]
  | .FRM_DEF_SC => [F.FRM_DEF_SC_DEF, F.FRM_DEF_SC_RAW]
  | .FRM_DEF_FLOW => [F.FRM_DEF_FLOW_DEF, F.FRM_DEF_FLOW_RAW]
  | .FRM_DEF_LANE => [F.FRM_DEF_LANE_DEF, F.FRM_DEF_LANE_RAW]
  | .FRM_DEF_CLI => [F.FRM_DEF_CLI_DEF, F.FRM_DEF_CLI_RAW]
  | .FRM_RA_CFG => [F.FRM_RA_CFG_MODE, F.FRM_RA_CFG_IDLE_WIN]
  | .FRM_RA_STAT => [F.FRM_RA_STAT_JUST, F.FRM_RA_STAT_FILL]
  | .FRM_SC_PM => [F.FRM_SC_PM_COUNT]
  | .FRM_CLI_PM => [F.FRM_CLI_PM_COUNT]
  | .FRM_FPM => [F.FRM_FPM_COUNT]
  | .FEC_CFG => [F.FEC_CFG_RATE_TX, F.FEC_CFG_RATE_RX, F.FEC_CFG_ITER_MAX, F.FEC_CFG_ET_EN]
  | .FEC_INT_CAUSE => [F.FEC_INT_CAUSE_CFG_ERR, F.FEC_INT_CAUSE_PRE_SD, F.FEC_INT_CAUSE_PM_LATCH]
  | .FEC_INT_MASK => [F.FEC_INT_MASK_MASK]
  | .FEC_SD_THR => [F.FEC_SD_THR_THR]
  | .FEC_SD_MAP => [F.FEC_SD_MAP_SC]
  | .FEC_ITER_HIST => [F.FEC_ITER_HIST_COUNT]
  | .FEC_PM_CBITS => [F.FEC_PM_CBITS_COUNT]
  | .FEC_PM_CW => [F.FEC_PM_CW_OK]
  | .FEC_PM_FAIL => [F.FEC_PM_FAIL_LDPC, F.FEC_PM_FAIL_ROWS]
  | .FEC_PM_CBITS_HI => [F.FEC_PM_CBITS_HI_COUNT]
  | .FEC_PM_INVAL => [F.FEC_PM_INVAL_COUNT]
  | .FEC_QC_BASE => [F.FEC_QC_BASE_SHIFT, F.FEC_QC_BASE_ZERO]
  | .LTX_CTRL => [F.LTX_CTRL_EN, F.LTX_CTRL_MUTE, F.LTX_CTRL_PEQ_SWAP, F.LTX_CTRL_PD_SWAP]
  | .LTX_LINE_CFG => [F.LTX_LINE_CFG_BAUD_MBD, F.LTX_LINE_CFG_SPACING, F.LTX_LINE_CFG_NSC_M1]
  | .LTX_STAT => [F.LTX_STAT_ACTIVE, F.LTX_STAT_BANK, F.LTX_STAT_SHADOW_READY, F.LTX_STAT_ANNOUNCED, F.LTX_STAT_MUTE_SRC, F.LTX_STAT_CD_FADING, F.LTX_STAT_SKEW_SLEW, F.LTX_STAT_PEQ_PENDING, F.LTX_STAT_PD_PENDING, F.LTX_STAT_CFG_STEP, F.LTX_STAT_ERR_SC]
  | .LTX_INT_CAUSE => [F.LTX_INT_CAUSE_CFG_ERR, F.LTX_INT_CAUSE_TABLE_ERR, F.LTX_INT_CAUSE_SHADOW_LOCKED, F.LTX_INT_CAUSE_LOAD_SWAP, F.LTX_INT_CAUSE_LOAD_CANCELLED, F.LTX_INT_CAUSE_CD_DONE, F.LTX_INT_CAUSE_CD_RANGE, F.LTX_INT_CAUSE_CLIP]
  | .LTX_INT_MASK => [F.LTX_INT_MASK_MASK]
  | .LTX_FREQ_OFS => [F.LTX_FREQ_OFS_OFS]
  | .LTX_CDPRE => [F.LTX_CDPRE_D]
  | .LTX_CDPRE_CTRL => [F.LTX_CDPRE_CTRL_K, F.LTX_CDPRE_CTRL_GO]
  | .LTX_GAIN => [F.LTX_GAIN_GAIN]
  | .LTX_CLIP_CNT => [F.LTX_CLIP_CNT_COUNT]
  | .LTX_SKEW => [F.LTX_SKEW_SKEW]
  | .LTX_PEQ => [F.LTX_PEQ_TAP]
  | .LTX_PD_LUT => [F.LTX_PD_LUT_Y]
  | .LRX_CTRL => [F.LRX_CTRL_EN, F.LRX_CTRL_CD_AUTO, F.LRX_CTRL_EQ_FREEZE, F.LRX_CTRL_LOFB_EN, F.LRX_CTRL_RESTART]
  | .LRX_LINE_CFG => [F.LRX_LINE_CFG_BAUD_MBD, F.LRX_LINE_CFG_SPACING, F.LRX_LINE_CFG_NSC_M1]
  | .LRX_STAT => [F.LRX_STAT_STATE, F.LRX_STAT_LOS, F.LRX_STAT_BANK, F.LRX_STAT_SHADOW_READY, F.LRX_STAT_ANNOUNCED, F.LRX_STAT_CD_FADING, F.LRX_STAT_CD_ARMED, F.LRX_STAT_CD_HELD, F.LRX_STAT_LOFB_PENDING, F.LRX_STAT_LOFB_LIMIT, F.LRX_STAT_CFG_STEP, F.LRX_STAT_ERR_SC, F.LRX_STAT_ACQ_RETRY]
  | .LRX_RXGRP => [F.LRX_RXGRP_K_LO, F.LRX_RXGRP_K_HI]
  | .LRX_INT_CAUSE => [F.LRX_INT_CAUSE_CFG_ERR, F.LRX_INT_CAUSE_TABLE_ERR, F.LRX_INT_CAUSE_SHADOW_LOCKED, F.LRX_INT_CAUSE_LOAD_SWAP, F.LRX_INT_CAUSE_CD_DONE, F.LRX_INT_CAUSE_CD_RANGE, F.LRX_INT_CAUSE_TRACK, F.LRX_INT_CAUSE_TRACK_LOST, F.LRX_INT_CAUSE_ACQ_TMO, F.LRX_INT_CAUSE_LOS_CHG, F.LRX_INT_CAUSE_CYCLE_SLIP, F.LRX_INT_CAUSE_LOFB_LIMIT, F.LRX_INT_CAUSE_LOFB_ERR, F.LRX_INT_CAUSE_SNR_LATCH, F.LRX_INT_CAUSE_DM_ERR, F.LRX_INT_CAUSE_SINGULAR, F.LRX_INT_CAUSE_LOAD_CANCELLED]
  | .LRX_INT_MASK => [F.LRX_INT_MASK_MASK]
  | .LRX_ACQ_CFG => [F.LRX_ACQ_CFG_LOS_THR, F.LRX_ACQ_CFG_LOS_HYST, F.LRX_ACQ_CFG_HOLD_MS, F.LRX_ACQ_CFG_ACQ_TMO]
  | .LRX_CD => [F.LRX_CD_D]
  | .LRX_CD_CTRL => [F.LRX_CD_CTRL_K, F.LRX_CD_CTRL_GO, F.LRX_CD_CTRL_ARM, F.LRX_CD_CTRL_DISARM]
  | .LRX_CD_RES => [F.LRX_CD_RES_RES]
  | .LRX_CD_EST => [F.LRX_CD_EST_EST, F.LRX_CD_EST_VALID]
  | .LRX_EQ_CFG => [F.LRX_EQ_CFG_TAPS, F.LRX_EQ_CFG_MU_ACQ, F.LRX_EQ_CFG_MU_TRK, F.LRX_EQ_CFG_LOCK_SNR]
  | .LRX_CR_CFG => [F.LRX_CR_CFG_PH_AVG, F.LRX_CR_CFG_CS_EN]
  | .LRX_LOFB_CFG => [F.LRX_LOFB_CFG_PERIOD, F.LRX_LOFB_CFG_GAIN, F.LRX_LOFB_CFG_SER_TMO]
  | .LRX_LOFB_STAT => [F.LRX_LOFB_STAT_FINE, F.LRX_LOFB_STAT_SER]
  | .LRX_CFO => [F.LRX_CFO_TOTAL]
  | .LRX_SNR_CFG => [F.LRX_SNR_CFG_WIN]
  | .LRX_IMP => [F.LRX_IMP_DGD, F.LRX_IMP_PDL]
  | .LRX_CD_RESID => [F.LRX_CD_RESID_RESID]
  | .LRX_CSLIP_CNT => [F.LRX_CSLIP_CNT_COUNT]
  | .LRX_DM_ERR_CNT => [F.LRX_DM_ERR_CNT_COUNT]
  | .LRX_SING_CNT => [F.LRX_SING_CNT_COUNT]
  | .LRX_SC_STAT => [F.LRX_SC_STAT_LOCK, F.LRX_SC_STAT_CSLIP]
  | .LRX_SNR => [F.LRX_SNR_SNR_X, F.LRX_SNR_SNR_Y, F.LRX_SNR_SNR, F.LRX_SNR_VALID]
  | .LRX_SNR_LEAF => [F.LRX_SNR_LEAF_SNR_X, F.LRX_SNR_LEAF_SNR_Y, F.LRX_SNR_LEAF_SNR, F.LRX_SNR_LEAF_VALID]
  | .SCM_CTRL => [F.SCM_CTRL_AUTO_DS, F.SCM_CTRL_AUTO_US]
  | .SCM_LOAD_CFG => [F.SCM_LOAD_CFG_MARGIN_DS, F.SCM_LOAD_CFG_MARGIN_US, F.SCM_LOAD_CFG_HYST, F.SCM_LOAD_CFG_STALE]
  | .SCM_GAP => [F.SCM_GAP_GAP]
  | .SCM_CHG_CFG => [F.SCM_CHG_CFG_MIN_GAP, F.SCM_CHG_CFG_ACK_TMO]
  | .SCM_CHG_CTRL => [F.SCM_CHG_CTRL_COMMIT_DS, F.SCM_CHG_CTRL_COMMIT_US, F.SCM_CHG_CTRL_ABORT_DS, F.SCM_CHG_CTRL_ABORT_US]
  | .SCM_CHG_STAT => [F.SCM_CHG_STAT_DS_STATE, F.SCM_CHG_STAT_DS_VER, F.SCM_CHG_STAT_US_STATE, F.SCM_CHG_STAT_US_VER, F.SCM_CHG_STAT_MIS_LEAF]
  | .SCM_INT_CAUSE => [F.SCM_INT_CAUSE_SWAP, F.SCM_INT_CAUSE_CHG_FAIL, F.SCM_INT_CAUSE_BUSY, F.SCM_INT_CAUSE_LATE_SWAP, F.SCM_INT_CAUSE_VER_MISMATCH, F.SCM_INT_CAUSE_SHORT]
  | .SCM_INT_MASK => [F.SCM_INT_MASK_MASK]
  | .SCM_GRANT_CTRL => [F.SCM_GRANT_CTRL_COMMIT, F.SCM_GRANT_CTRL_ABORT]
  | .SCM_GRANT_STAT => [F.SCM_GRANT_STAT_STATE, F.SCM_GRANT_STAT_VER, F.SCM_GRANT_STAT_ERR]
  | .SCM_NAK_MAP => [F.SCM_NAK_MAP_LEAF]
  | .SCM_DS_NEXT => [F.SCM_DS_NEXT_ENTRY]
  | .SCM_US_NEXT => [F.SCM_US_NEXT_ENTRY]
  | .SCM_DS_ACT => [F.SCM_DS_ACT_ENTRY]
  | .SCM_US_ACT => [F.SCM_US_ACT_ENTRY]
  | .SCM_DS_SNR => [F.SCM_DS_SNR_SNR_X, F.SCM_DS_SNR_SNR_Y, F.SCM_DS_SNR_SNR, F.SCM_DS_SNR_VALID]
  | .SCM_SC_FLAG => [F.SCM_SC_FLAG_STALE, F.SCM_SC_FLAG_SHORT, F.SCM_SC_FLAG_OVER, F.SCM_SC_FLAG_US_STALE, F.SCM_SC_FLAG_US_SHORT, F.SCM_SC_FLAG_US_OVER]
  | .SCM_GRANT_SC => [F.SCM_GRANT_SC_SC, F.SCM_GRANT_SC_EN]
  | .SCM_GRANT_NEXT => [F.SCM_GRANT_NEXT_LEAF_E, F.SCM_GRANT_NEXT_VAL_E, F.SCM_GRANT_NEXT_LEAF_O, F.SCM_GRANT_NEXT_VAL_O]
  | .SCM_GRANT_ACT => [F.SCM_GRANT_ACT_LEAF_E, F.SCM_GRANT_ACT_VAL_E, F.SCM_GRANT_ACT_LEAF_O, F.SCM_GRANT_ACT_VAL_O]
  | .BRX_CTRL => [F.BRX_CTRL_EN, F.BRX_CTRL_WIDEN]
  | .BRX_DET_CFG => [F.BRX_DET_CFG_Q_THR]
  | .BRX_RESTART_MARGIN => [F.BRX_RESTART_MARGIN_MARGIN]
  | .BRX_CAPTURE_MARGIN => [F.BRX_CAPTURE_MARGIN_MARGIN]
  | .BRX_INT_CAUSE => [F.BRX_INT_CAUSE_CFG_ERR, F.BRX_INT_CAUSE_REC_AVAIL, F.BRX_INT_CAUSE_COLLISION, F.BRX_INT_CAUSE_PREEMPTED, F.BRX_INT_CAUSE_TRUNCATED, F.BRX_INT_CAUSE_DROP, F.BRX_INT_CAUSE_CH_OFF]
  | .BRX_INT_MASK => [F.BRX_INT_MASK_MASK]
  | .BRX_STAT => [F.BRX_STAT_CH, F.BRX_STAT_CFG_STEP]
  | .BRX_ENG_CFG => [F.BRX_ENG_CFG_DROP, F.BRX_ENG_CFG_ABS_THR]
  | .BRX_REC_STAT => [F.BRX_REC_STAT_COUNT]
  | .BRX_REC_POP => [F.BRX_REC_POP_POP]
  | .BRX_COL_STAT => [F.BRX_COL_STAT_COUNT, F.BRX_COL_STAT_HEAD_DONE]
  | .BRX_COL_POP => [F.BRX_COL_POP_POP]
  | .BRX_DROP_CNT => [F.BRX_DROP_CNT_REC, F.BRX_DROP_CNT_COL]
  | .BRX_REC_DATA => [F.BRX_REC_DATA_DATA]
  | .BRX_COL_DATA => [F.BRX_COL_DATA_DATA]
  | .BRX_CNT => [F.BRX_CNT_COUNT]
  | .BRX_SC_ABSENT => [F.BRX_SC_ABSENT_SC]
  | .VLK_CTRL => [F.VLK_CTRL_EN, F.VLK_CTRL_AUTO_RANGE, F.VLK_CTRL_AUTO_FREQ, F.VLK_CTRL_REG_OPEN, F.VLK_CTRL_REG_GO]
  | .VLK_TREE_CFG => [F.VLK_TREE_CFG_TREE_ID, F.VLK_TREE_CFG_FEEDER]
  | .VLK_T_EQ => [F.VLK_T_EQ_T_EQ]
  | .VLK_REG_CFG => [F.VLK_REG_CFG_RSC_M1, F.VLK_REG_CFG_REG_TMO, F.VLK_REG_CFG_RETRY_MAX]
  | .VLK_REG_SC => [F.VLK_REG_SC_SC]
  | .VLK_US_OFS => [F.VLK_US_OFS_OFS]
  | .VLK_RETX_CFG => [F.VLK_RETX_CFG_RETX_TMO, F.VLK_RETX_CFG_RETX_MAX]
  | .VLK_RANGE_CFG => [F.VLK_RANGE_CFG_TRIG, F.VLK_RANGE_CFG_AVG, F.VLK_RANGE_CFG_LOST_MF]
  | .VLK_STAT => [F.VLK_STAT_ACTIVE_CNT, F.VLK_STAT_LAST_LEAF, F.VLK_STAT_DUP_REQ]
  | .VLK_INT_CAUSE => [F.VLK_INT_CAUSE_RX_AVAIL, F.VLK_INT_CAUSE_RETX_FAIL, F.VLK_INT_CAUSE_REREG, F.VLK_INT_CAUSE_DUP_ID, F.VLK_INT_CAUSE_LEAF_LOST, F.VLK_INT_CAUSE_WAKE_TMO, F.VLK_INT_CAUSE_GRANT_SWAP, F.VLK_INT_CAUSE_GRANT_FAIL, F.VLK_INT_CAUSE_FREQ_FAIL, F.VLK_INT_CAUSE_GROUP_ERR, F.VLK_INT_CAUSE_REG_GIVEUP, F.VLK_INT_CAUSE_STATE_CHG, F.VLK_INT_CAUSE_REST_HELD, F.VLK_INT_CAUSE_CFG_ERR]
  | .VLK_INT_MASK => [F.VLK_INT_MASK_MASK]
  | .VLK_CRC_ERR_CNT => [F.VLK_CRC_ERR_CNT_COUNT]
  | .VLK_RETX_CNT => [F.VLK_RETX_CNT_COUNT]
  | .VLK_RX_DROP_CNT => [F.VLK_RX_DROP_CNT_COUNT]
  | .VLK_SELF => [F.VLK_SELF_LEAF, F.VLK_SELF_SILENT, F.VLK_SELF_STATE, F.VLK_SELF_MEMBER]
  | .VLK_SELF_EQD => [F.VLK_SELF_EQD_EQD, F.VLK_SELF_EQD_VALID]
  | .VLK_REST_CFG => [F.VLK_REST_CFG_LEAD_US, F.VLK_REST_CFG_LOST_MS, F.VLK_REST_CFG_WAKE_TMO]
  | .VLK_WAKE => [F.VLK_WAKE_LEAF]
  | .VLK_TXPOST => [F.VLK_TXPOST_LEN, F.VLK_TXPOST_BEACON, F.VLK_TXPOST_GO]
  | .VLK_RXSTAT => [F.VLK_RXSTAT_LEN, F.VLK_RXSTAT_COUNT]
  | .VLK_RXPOP => [F.VLK_RXPOP_POP]
  | .VLK_TXBUF => [F.VLK_TXBUF_DATA]
  | .VLK_RXBUF => [F.VLK_RXBUF_DATA]
  | .VLK_LEAF => [F.VLK_LEAF_STATE, F.VLK_LEAF_BEACON, F.VLK_LEAF_MEMBER]
  | .VLK_LEAF_EQD => [F.VLK_LEAF_EQD_EQD, F.VLK_LEAF_EQD_VALID]
  | .VLK_LEAF_ID => [F.VLK_LEAF_ID_ID]
  | .CVT_DAC_FS => [F.CVT_DAC_FS_FS_MHZ]
  | .CVT_DAC_CFG => [F.CVT_DAC_CFG_EN, F.CVT_DAC_CFG_SRC, F.CVT_DAC_CFG_INV, F.CVT_DAC_CFG_SWING_MV]
  | .CVT_DAC_STAT => [F.CVT_DAC_STAT_CLK_LOCK, F.CVT_DAC_STAT_READY, F.CVT_DAC_STAT_WRITE_REFUSED, F.CVT_DAC_STAT_MAP_ERR]
  | .CVT_ADC_FS => [F.CVT_ADC_FS_FS_MHZ]
  | .CVT_ADC_CFG => [F.CVT_ADC_CFG_EN, F.CVT_ADC_CFG_SRC, F.CVT_ADC_CFG_INV, F.CVT_ADC_CFG_FS_MV]
  | .CVT_ADC_STAT => [F.CVT_ADC_STAT_CLK_LOCK, F.CVT_ADC_STAT_READY, F.CVT_ADC_STAT_WRITE_REFUSED, F.CVT_ADC_STAT_MAP_ERR]
  | .CVT_ADC_LVL => [F.CVT_ADC_LVL_RMS, F.CVT_ADC_LVL_OVR]
  | .LSR_CTRL => [F.LSR_CTRL_SIG_EN, F.LSR_CTRL_SER_EN]
  | .LSR_STAT => [F.LSR_STAT_LASER_EN, F.LSR_STAT_HOLD, F.LSR_STAT_SER_BUSY]
  | .LSR_INT_CAUSE => [F.LSR_INT_CAUSE_SER_DONE, F.LSR_INT_CAUSE_SER_ERR, F.LSR_INT_CAUSE_OWNED, F.LSR_INT_CAUSE_CFG_ERR, F.LSR_INT_CAUSE_LOOP_LIMIT]
  | .LSR_INT_MASK => [F.LSR_INT_MASK_MASK]
  | .LSR_SER_CFG => [F.LSR_SER_CFG_BAUD]
  | .LSR_SER_CMD => [F.LSR_SER_CMD_FRAME]
  | .LSR_SER_RESP => [F.LSR_SER_RESP_FRAME]
  | .LSR_FT_CFG => [F.LSR_FT_CFG_GAIN_KHZ]
  | .LSR_FT_OUT => [F.LSR_FT_OUT_MHZ, F.LSR_FT_OUT_LIMIT, F.LSR_FT_OUT_OWNER]
  | .LSR_LOOP_CFG => [F.LSR_LOOP_CFG_EN, F.LSR_LOOP_CFG_IN_F, F.LSR_LOOP_CFG_IN_DET, F.LSR_LOOP_CFG_TARGET, F.LSR_LOOP_CFG_KI, F.LSR_LOOP_CFG_SIGN]
  | .LSR_LOOP_SET => [F.LSR_LOOP_SET_SET]
  | .LSR_LOOP_LIM => [F.LSR_LOOP_LIM_MIN, F.LSR_LOOP_LIM_MAX]
  | .LSR_LOOP_STAT => [F.LSR_LOOP_STAT_U, F.LSR_LOOP_STAT_AT_LIMIT]
  | .PEER_CTRL => [F.PEER_CTRL_EN, F.PEER_CTRL_SWITCH, F.PEER_CTRL_FORCE_ACTIVE, F.PEER_CTRL_AUTO_EQD]
  | .PEER_CFG => [F.PEER_CFG_FEEDER, F.PEER_CFG_PREFER, F.PEER_CFG_REACH, F.PEER_CFG_SOLO_OK, F.PEER_CFG_DARK_MS, F.PEER_CFG_LASER_MS, F.PEER_CFG_MUTE_MS, F.PEER_CFG_LINK_WAIT_S]
  | .PEER_STAT => [F.PEER_STAT_STATE, F.PEER_STAT_LINK, F.PEER_STAT_LANE_LOCK, F.PEER_STAT_PHASE_OK, F.PEER_STAT_MISMATCH, F.PEER_STAT_LAST_TRIG]
  | .PEER_INT_CAUSE => [F.PEER_INT_CAUSE_LINK_CHG, F.PEER_INT_CAUSE_STATE_CHG, F.PEER_INT_CAUSE_TAKEOVER, F.PEER_INT_CAUSE_SYNC_DONE, F.PEER_INT_CAUSE_SWITCH_REFUSED, F.PEER_INT_CAUSE_SPLIT, F.PEER_INT_CAUSE_MISMATCH, F.PEER_INT_CAUSE_MIRRORED, F.PEER_INT_CAUSE_EQD_UPD]
  | .PEER_INT_MASK => [F.PEER_INT_MASK_MASK]
  | .PEER_DELAY => [F.PEER_DELAY_DELAY]
  | .PEER_TAKE_CNT => [F.PEER_TAKE_CNT_COUNT]
  | .PEER_EQD_CFG => [F.PEER_EQD_CFG_WIN_US, F.PEER_EQD_CFG_AVG]
  | .PEER_EQD_MEAS => [F.PEER_EQD_MEAS_EQD, F.PEER_EQD_MEAS_VALID]

def blockRegsSYS : List RegId :=
  [.SYS_ID, .SYS_ROLE, .SYS_STAT, .SYS_LOCK, .SYS_INT_CAUSE,
   .SYS_INT_MASK, .SYS_INT_SUMMARY, .SYS_RESET, .SYS_SOFT_RST, .SYS_RST_CFG,
   .SYS_RST_CAUSE, .SYS_ROLLBACK, .SYS_VEC_MAP]

def blockRegsBOOT : List RegId :=
  [.BOOT_STAT, .BOOT_FL_CMD, .BOOT_FL_ADDR, .BOOT_FL_STAT, .BOOT_FL_DATA]

def blockRegsLCM : List RegId :=
  [.LCM_STATE, .LCM_TRANS, .LCM_STAT, .LCM_INT_CAUSE, .LCM_INT_MASK,
   .LCM_KEY_CTRL, .LCM_KEY_STAT, .LCM_DEV_ID, .LCM_CHALLENGE, .LCM_AUTH,
   .LCM_KEY_HASH]

def blockRegsPWR : List RegId :=
  [.PWR_INT_CAUSE, .PWR_INT_MASK, .PWR_AVS_CFG, .PWR_AVS_SET, .PWR_AVS_READ,
   .PWR_PMB_CMD, .PWR_PMB_DATA, .PWR_REST_CTRL, .PWR_REST_CFG, .PWR_REST_WAKE_MASK,
   .PWR_REST_STAT, .PWR_RAIL_STAT, .PWR_SLACK_CTRL, .PWR_SLACK_STAT, .PWR_VMIN,
   .PWR_SAFE_STAT, .PWR_SLACK_CFG, .PWR_SLACK_LVL]

def blockRegsENG : List RegId :=
  [.ENG_CTRL, .ENG_STAT, .ENG_CFG, .ENG_INT_CAUSE, .ENG_INT_MASK,
   .ENG_THR, .ENG_THR_STAT, .ENG_FLAGS, .ENG_QACC, .ENG_UWIN,
   .ENG_JRNL_HEAD, .ENG_JRNL_SEQ, .ENG_JRNL_IDX, .ENG_JRNL_RD, .ENG_MEM_ADDR,
   .ENG_MEM_DATA, .ENG_GREG, .ENG_TAG]

def blockRegsSE : List RegId :=
  [.SE_IMG_STAT, .SE_IMG_CTRL, .SE_IMG_VER, .SE_PREV_VER, .SE_SPILL_STAT,
   .SE_SPILL_POP, .SE_SPILL_RD]

def blockRegsMBX : List RegId :=
  [.MBX_INT_CAUSE, .MBX_INT_MASK, .MBX_DB_PEND, .MBX_TAKEN_PEND, .MBX_BIND,
   .MBX_LOCK_STAT, .MBX_DATA, .MBX_DOORBELL, .MBX_STAT, .MBX_LOCK]

def blockRegsPMC : List RegId :=
  [.PMC_INT_CAUSE, .PMC_INT_MASK, .PMC_SMP_CFG, .PMC_SMP_STAT, .PMC_SMP_POP,
   .PMC_SMP_DROP, .PMC_OVF_SEL, .PMC_OVF_STAT, .PMC_SMP_ENG, .PMC_SMP_RD,
   .PMC_GRP_FILT, .PMC_GRP_WIN, .PMC_CNT_LO, .PMC_CNT_HI]

def blockRegsHKA : List RegId :=
  [.HKA_CTRL, .HKA_TRIG, .HKA_SEQ_GO, .HKA_STAT, .HKA_INT_CAUSE,
   .HKA_INT_MASK, .HKA_TIMER, .HKA_MISS_CNT, .HKA_INJ, .HKA_INJ_RES,
   .HKA_DIE_TEMP, .HKA_DIE_HOT, .HKA_SUPMUX, .HKA_SEQ, .HKA_RES,
   .HKA_PWM_PER, .HKA_PWM_DUTY, .HKA_PWM_DITH]

def blockRegsFLT : List RegId :=
  [.FLT_CTRL, .FLT_INT_CAUSE, .FLT_INT_MASK, .FLT_CH_CFG, .FLT_CH_CTRL,
   .FLT_CH_STAT, .FLT_DET_CFG, .FLT_OUT, .FLT_PEAK, .FLT_RMS,
   .FLT_ENV, .FLT_THR_HI, .FLT_THR_LO, .FLT_FIR]

def blockRegsCAL : List RegId :=
  [.CAL_CTRL, .CAL_STAT, .CAL_INT_CAUSE, .CAL_INT_MASK, .CAL_COUNT,
   .CAL_LAST_TIME, .CAL_LAST_TEMP, .CAL_DELTA_T, .CAL_DEFERRED, .CAL_DIS_STAT,
   .CAL_ADC_STAT, .CAL_DAC_STAT]

def blockRegsBST : List RegId :=
  [.BST_CTRL, .BST_STARTUP, .BST_STAT, .BST_INT_CAUSE, .BST_INT_MASK,
   .BST_RESULT]

def blockRegsCRY : List RegId :=
  [.CRY_CTRL, .CRY_LOCK, .CRY_LOCK_STAT, .CRY_INT_CAUSE, .CRY_INT_MASK,
   .CRY_KEY_CMD, .CRY_KEY_STAT, .CRY_KEY_SALT, .CRY_KEY_DATA, .CRY_ERASE_STAT,
   .CRY_CTX_SEL, .CRY_CTX_STAT, .CRY_TX_NEXT_LO, .CRY_TX_NEXT_HI, .CRY_TX_CUR_LO,
   .CRY_TX_CUR_HI, .CRY_RX_LAST_LO, .CRY_RX_LAST_HI, .CRY_SALT, .CRY_CNT]

def blockRegsSYN : List RegId :=
  [.SYN_CTRL, .SYN_STAT, .SYN_INT_CAUSE, .SYN_INT_MASK, .SYN_SEL_CTRL,
   .SYN_DISAGREE_PPB, .SYN_QUAL_CFG, .SYN_QL_CFG, .SYN_HO_CFG, .SYN_HO_MODE,
   .SYN_HO_STAT, .SYN_HO_TEMP_CAL, .SYN_HO_TEMP, .SYN_HO_TC, .SYN_HO_AGE,
   .SYN_HO_AGE_T, .SYN_HO_AGE_START, .SYN_HO_FREQ, .SYN_REF_CFG, .SYN_REF_FREQ,
   .SYN_REF_QL, .SYN_REF_STAT, .SYN_REF_OFS, .SYN_REF_RATE, .SYN_OUT_CFG,
   .SYN_OUT_FREQ, .SYN_PSTEP, .SYN_PSTEP_CFG, .SYN_PRIV_KEY, .SYN_NCO_CTRL,
   .SYN_NCO_FREQ, .SYN_PRIV_CFG, .SYN_TIME_LO, .SYN_TIME_HI, .SYN_TIME_SET_S,
   .SYN_TIME_CTRL, .SYN_PPS_CFG, .SYN_PPS_IN_ERR]

def blockRegsHSL : List RegId :=
  [.HSL_CTRL, .HSL_LINK_CFG, .HSL_INT_CAUSE, .HSL_INT_MASK, .HSL_RCLK_SEL,
   .HSL_LANE_CFG, .HSL_LANE_TXEQ, .HSL_LANE_STAT, .HSL_CLI_CFG, .HSL_CLI_STAT,
   .HSL_CLI_DSK, .HSL_CLI_FEC]

def blockRegsFLW : List RegId :=
  [.FLW_CMD, .FLW_CMD_STAT, .FLW_INT_CAUSE, .FLW_INT_MASK, .FLW_UNKNOWN_CNT,
   .FLW_SLEEP_CFG, .FLW_STAGE, .FLW_CLI_UNMATCH, .FLW_SLEEP_DROP, .FLW_FT,
   .FLW_FSTAT]

def blockRegsQDM : List RegId :=
  [.QDM_CTRL, .QDM_STAT, .QDM_INT_CAUSE, .QDM_INT_MASK, .QDM_BW,
   .QDM_POOL_STAT, .QDM_PORT_CFG, .QDM_TRAIN_STAT, .QDM_ERR_CNT, .QDM_ERR_ADDR,
   .QDM_REGION]

def blockRegsFRM : List RegId :=
  [.FRM_CTRL, .FRM_ALIGN_CFG, .FRM_ALIGN_STAT, .FRM_INT_CAUSE, .FRM_INT_MASK,
   .FRM_PATTERN_AMBIG, .FRM_BOUNDARY_TIES, .FRM_CAND_OVF, .FRM_SSM_TX, .FRM_SSM_RX,
   .FRM_DEG_CFG, .FRM_PM_STAT, .FRM_TIM_CFG, .FRM_DEF_CFG, .FRM_DEF_LINE,
   .FRM_TTI_TX, .FRM_TTI_EXP, .FRM_TTI_RX, .FRM_DEF_SC, .FRM_DEF_FLOW,
   .FRM_DEF_LANE, .FRM_DEF_CLI, .FRM_RA_CFG, .FRM_RA_STAT, .FRM_SC_PM,
   .FRM_CLI_PM, .FRM_FPM]

def blockRegsFEC : List RegId :=
  [.FEC_CFG, .FEC_INT_CAUSE, .FEC_INT_MASK, .FEC_SD_THR, .FEC_SD_MAP,
   .FEC_ITER_HIST, .FEC_PM_CBITS, .FEC_PM_CW, .FEC_PM_FAIL, .FEC_PM_CBITS_HI,
   .FEC_PM_INVAL, .FEC_QC_BASE]

def blockRegsLTX : List RegId :=
  [.LTX_CTRL, .LTX_LINE_CFG, .LTX_STAT, .LTX_INT_CAUSE, .LTX_INT_MASK,
   .LTX_FREQ_OFS, .LTX_CDPRE, .LTX_CDPRE_CTRL, .LTX_GAIN, .LTX_CLIP_CNT,
   .LTX_SKEW, .LTX_PEQ, .LTX_PD_LUT]

def blockRegsLRX : List RegId :=
  [.LRX_CTRL, .LRX_LINE_CFG, .LRX_STAT, .LRX_RXGRP, .LRX_INT_CAUSE,
   .LRX_INT_MASK, .LRX_ACQ_CFG, .LRX_CD, .LRX_CD_CTRL, .LRX_CD_RES,
   .LRX_CD_EST, .LRX_EQ_CFG, .LRX_CR_CFG, .LRX_LOFB_CFG, .LRX_LOFB_STAT,
   .LRX_CFO, .LRX_SNR_CFG, .LRX_IMP, .LRX_CD_RESID, .LRX_CSLIP_CNT,
   .LRX_DM_ERR_CNT, .LRX_SING_CNT, .LRX_SC_STAT, .LRX_SNR, .LRX_SNR_LEAF]

def blockRegsSCM : List RegId :=
  [.SCM_CTRL, .SCM_LOAD_CFG, .SCM_GAP, .SCM_CHG_CFG, .SCM_CHG_CTRL,
   .SCM_CHG_STAT, .SCM_INT_CAUSE, .SCM_INT_MASK, .SCM_GRANT_CTRL, .SCM_GRANT_STAT,
   .SCM_NAK_MAP, .SCM_DS_NEXT, .SCM_US_NEXT, .SCM_DS_ACT, .SCM_US_ACT,
   .SCM_DS_SNR, .SCM_SC_FLAG, .SCM_GRANT_SC, .SCM_GRANT_NEXT, .SCM_GRANT_ACT]

def blockRegsBRX : List RegId :=
  [.BRX_CTRL, .BRX_DET_CFG, .BRX_RESTART_MARGIN, .BRX_CAPTURE_MARGIN, .BRX_INT_CAUSE,
   .BRX_INT_MASK, .BRX_STAT, .BRX_ENG_CFG, .BRX_REC_STAT, .BRX_REC_POP,
   .BRX_COL_STAT, .BRX_COL_POP, .BRX_DROP_CNT, .BRX_REC_DATA, .BRX_COL_DATA,
   .BRX_CNT, .BRX_SC_ABSENT]

def blockRegsVLK : List RegId :=
  [.VLK_CTRL, .VLK_TREE_CFG, .VLK_T_EQ, .VLK_REG_CFG, .VLK_REG_SC,
   .VLK_US_OFS, .VLK_RETX_CFG, .VLK_RANGE_CFG, .VLK_STAT, .VLK_INT_CAUSE,
   .VLK_INT_MASK, .VLK_CRC_ERR_CNT, .VLK_RETX_CNT, .VLK_RX_DROP_CNT, .VLK_SELF,
   .VLK_SELF_EQD, .VLK_REST_CFG, .VLK_WAKE, .VLK_TXPOST, .VLK_RXSTAT,
   .VLK_RXPOP, .VLK_TXBUF, .VLK_RXBUF, .VLK_LEAF, .VLK_LEAF_EQD,
   .VLK_LEAF_ID]

def blockRegsCVT : List RegId :=
  [.CVT_DAC_FS, .CVT_DAC_CFG, .CVT_DAC_STAT, .CVT_ADC_FS, .CVT_ADC_CFG,
   .CVT_ADC_STAT, .CVT_ADC_LVL]

def blockRegsLSR : List RegId :=
  [.LSR_CTRL, .LSR_STAT, .LSR_INT_CAUSE, .LSR_INT_MASK, .LSR_SER_CFG,
   .LSR_SER_CMD, .LSR_SER_RESP, .LSR_FT_CFG, .LSR_FT_OUT, .LSR_LOOP_CFG,
   .LSR_LOOP_SET, .LSR_LOOP_LIM, .LSR_LOOP_STAT]

def blockRegsPEER : List RegId :=
  [.PEER_CTRL, .PEER_CFG, .PEER_STAT, .PEER_INT_CAUSE, .PEER_INT_MASK,
   .PEER_DELAY, .PEER_TAKE_CNT, .PEER_EQD_CFG, .PEER_EQD_MEAS]

/-- The registers of the block whose range holds the canonical address `a` (Table SYS-13). -/
def regsAround (a : Nat) : List RegId :=
  if a < 0x10000 then blockRegsSYS
  else if a < 0x1C000 then blockRegsBOOT
  else if a < 0x30000 then blockRegsLCM
  else if a < 0x100000 then blockRegsPWR
  else if a < 0x240000 then blockRegsMBX
  else if a < 0x280000 then blockRegsPMC
  else if a < 0x290000 then blockRegsHKA
  else if a < 0x2A0000 then blockRegsFLT
  else if a < 0x2B0000 then blockRegsCAL
  else if a < 0x300000 then blockRegsBST
  else if a < 0x340000 then blockRegsCRY
  else if a < 0x400000 then blockRegsSYN
  else if a < 0x480000 then blockRegsHSL
  else if a < 0x4C0000 then blockRegsFLW
  else if a < 0x500000 then blockRegsQDM
  else if a < 0x580000 then blockRegsFRM
  else if a < 0x600000 then blockRegsFEC
  else if a < 0x680000 then blockRegsLTX
  else if a < 0x700000 then blockRegsLRX
  else if a < 0x740000 then blockRegsSCM
  else if a < 0x780000 then blockRegsBRX
  else if a < 0x7C0000 then blockRegsVLK
  else if a < 0x7E0000 then blockRegsCVT
  else if a < 0x7F0000 then blockRegsLSR
  else if a < 0x800000 then blockRegsPEER
  else if a < 0x1000000 then []
  else if a < 0x1103000 then blockRegsENG
  else blockRegsENG ++ blockRegsSE

/-- The address of the register space at which the engine windows are held: LEn at n, the supervisor at 64. -/
def engineWindow : Nat := 0x1000000

/-- A byte offset of BAR0 as the address the fields are held under: the ENG block and the supervisor's window of the BOOT
range are moved to the engine windows, every other offset is itself (R380); beyond the 16 MiB of BAR0 there is nothing. -/
def canonAddr (a : Nat) : Nat :=
  if 0x100000 ≤ a ∧ a < 0x200000 then engineWindow + (a - 0x100000)
  else if 0x1C000 ≤ a ∧ a < 0x20000 then engineWindow + 64 * 0x4000 + (a - 0x1C000)
  else if a < 0x1000000 then a
  else 0xFFFFFFFF

/-- The BAR0 byte offset of a register's element. -/
def RegId.barAddr (r : RegId) (i j k : Nat) : Nat :=
  let a := r.shape.addr + i * r.shape.d1 + j * r.shape.d2 + k * r.shape.d3
  if a < engineWindow then a
  else if a < engineWindow + 64 * 0x4000 then 0x100000 + (a - engineWindow)
  else 0x1C000 + (a - (engineWindow + 64 * 0x4000))

/-- The indices at which address `a` lies in a register of shape `s`, if it does. -/
def Shape.find (s : Shape) (a : Nat) : Option (Nat × Nat × Nat) :=
  if a < s.addr then none
  else
    let o := a - s.addr
    let i := if s.d1 = 0 then 0 else o / s.d1
    let o1 := o - i * s.d1
    let j := if s.d2 = 0 then 0 else o1 / s.d2
    let o2 := o1 - j * s.d2
    let k := if s.d3 = 0 then 0 else o2 / s.d3
    if s.has i j k && decide (o2 - k * s.d3 = 0) then some (i, j, k) else none

/-- The register and element at a canonical address. `none` is an unnamed offset (R8). -/
def locate (a : Nat) : Option (RegId × Nat × Nat × Nat) :=
  (regsAround a).findSome? (fun r => (r.shape.find a).map (fun x => (r, x)))

end Sys2Proof.Machine
end

