-- ==== Sys2Proof/Machine/Store.lean ====
section
/-! DEFINITION. Sys2Proof/Machine/Store.lean: the sparse table every array of the machine is held in: a list of
(key, value) pairs with strictly rising keys in which no entry equals what an unlisted key reads as. -/
namespace Sys2Proof.Machine

/-- A sparse table. Unlisted keys read as a default that the reader names. -/
abbrev Store (α : Type) := List (Nat × α)

/-- The value held under key `k`, if one is listed. -/
def Store.find {α : Type} (k : Nat) : Store α → Option α
  | [] => none
  | (k', v) :: rest => if k' = k then some v else Store.find k rest

/-- The value under key `k`; `d` is what an unlisted key reads as. -/
def Store.get {α : Type} (d : α) (m : Store α) (k : Nat) : α := (Store.find k m).getD d

/-- Enter `v` under `k`, keeping the keys rising. -/
def Store.insert {α : Type} (k : Nat) (v : α) : Store α → Store α
  | [] => [(k, v)]
  | (k', v') :: rest =>
    if k < k' then (k, v) :: (k', v') :: rest
    else if k = k' then (k, v) :: rest
    else (k', v') :: Store.insert k v rest

/-- Remove what is held under `k`. -/
def Store.erase {α : Type} (k : Nat) : Store α → Store α
  | [] => []
  | (k', v') :: rest => if k' = k then Store.erase k rest else (k', v') :: Store.erase k rest

/-- Write `v` under `k`; a value equal to the default is held by listing nothing. -/
def Store.put {α : Type} [DecidableEq α] (d : α) (m : Store α) (k : Nat) (v : α) : Store α :=
  if v = d then Store.erase k m else Store.insert k v m

/-- Every key of the table is above `b`. -/
def Store.above {α : Type} (b : Nat) : Store α → Bool
  | [] => true
  | (k, _) :: rest => decide (b < k) && Store.above b rest

/-- The canonical form of a table: keys strictly rising. -/
def Store.sorted {α : Type} : Store α → Bool
  | [] => true
  | (k, _) :: rest => Store.above k rest && Store.sorted rest

/-- The canonical form of a memory: keys strictly rising, no entry equal to the default `d`. -/
def Store.wf {α : Type} [DecidableEq α] (d : α) (m : Store α) : Bool :=
  Store.sorted m && m.all (fun e => decide (e.2 ≠ d))

end Sys2Proof.Machine
end

