-- ==== Sys2Proof/Machine/Factory.lean ====
section
/-! DEFINITION. Sys2Proof/Machine/Factory.lean: what the part ships with in its flash: the factory calibration set (R6, R324), in the layout of
notes/assumptions/18.md. -/
namespace Sys2Proof.Machine

/-- CRC-32C, shifted over the low `n` bits of a word, first bit first. -/
def Flash.crcBits (n x crc : Nat) : Nat :=
  match n with
  | 0 => crc
  | n + 1 =>
    let b := (x ^^^ crc) % 2
    Flash.crcBits n (x / 2) (if b = 1 then (crc / 2) ^^^ 0x82F63B78 else crc / 2)

/-- CRC-32C of little-endian words: reflected, from all ones, inverted at the end (notes/assumptions/19.md, PRESUMED of the published code). -/
def Flash.crc32c (words : List Nat) : Nat := (words.foldl (fun a w => Flash.crcBits 32 w a) 0xFFFFFFFF) ^^^ 0xFFFFFFFF

/-- The words a calibration set has before its CRC. -/
def Cal.setLength : Nat := 4 + 4 * 144 * 4 + 4 * 73

/-- Word i of the factory's set (R324): COUNT 1 and SOURCE FACTORY; the rest differs from part to part. -/
def Cal.factoryWord (i : Nat) : Nat := if i = 0 then 1 else if i = 3 then 0 else Config.factorySet i % (2 ^ 32 - 1)

/-- The factory's set but for its CRC. -/
def Cal.factorySet : List Nat := (List.range Cal.setLength).map Cal.factoryWord

/-- The flash as shipped: the set, closed by its CRC, in the sector at byte address 0x0020_0000. A CRC that equals what an erased word reads
stands there unlisted. -/
def Cal.factoryFlash : Store Nat :=
  (List.range Cal.setLength).map (fun i => (0x80000 + i, Cal.factoryWord i)) ++
  (if Flash.crc32c Cal.factorySet = 2 ^ 32 - 1 then [] else [(0x80000 + Cal.setLength, Flash.crc32c Cal.factorySet)])

end Sys2Proof.Machine
end

