-- ==== Sys2Proof/Machine/State.lean ====
section
/-! DEFINITION. Sys2Proof/Machine/State.lean: the machine's state. Every register field of the spec's field maps is held in `csr`
(Machine/Fields.lean names them), and beside them every number, flag and array of numbers that the spec gives a block beyond its
registers (Machine/Hidden.lean names those); queues, messages and records are held in one structure per block. -/
namespace Sys2Proof.Machine
open Sys2Proof

/-- A message of the Voluman link (Table VLK-2). `beacon` is the beacon it is sent on (0x1FF for all; 0 upstream), `addr` the
destination downstream and the source upstream, `body` the words after the 8-byte header. -/
structure VMsg where
  beacon : Nat
  addr : Nat
  ackReq : Bool
  sync : Bool
  type : Nat
  seq : Nat
  body : List Nat
  deriving DecidableEq, Repr

/-- A message sent with ACK_REQ that has not been acknowledged (R105). -/
structure Unacked where
  msg : VMsg
  /-- Frames, or upstream multiframes, since it was last sent. -/
  age : Nat
  /-- How often it has been repeated. -/
  repeats : Nat
  deriving DecidableEq, Repr

/-- VLK's queues and rings (R105, R106). -/
structure VlkState where
  /-- Messages VLK generated itself, oldest first. -/
  own : List VMsg := []
  /-- Posted messages with their queue number, oldest first. -/
  posted : List (Nat × VMsg) := []
  unacked : List Unacked := []
  /-- The receive ring: each message as its words, oldest first. -/
  ring : List (List Nat) := []
  /-- The last 32 SEQ accepted from a sender, each with 256 × the status it was acknowledged with: the hub is sender 512, leaf l is
  sender l. -/
  seen : Store (List Nat) := []
  /-- The identifiers of the REG_REQ messages queued of late, each with its age in frames (Table VLK-4). -/
  recent : List (Nat × Nat) := []
  /-- The grant versions that VDFs have named, newest first, each with the multiframe it was first read in (R112). -/
  gvers : List (Nat × Nat) := []
  deriving DecidableEq, Repr

/-- A container frame (R149, R150): its header fields, the justification J of R169, its payload as bytes, and the tag an encrypted
payload ends with. -/
structure Cf where
  type : Nat := 3
  flow : Nat := 0xFFF
  seq : Nat := 0
  just : Bool := false
  err : Bool := false
  jc : Nat := 0
  cipher : Nat := 0
  payload : List Nat := []
  tag : Nat := 0
  /-- At reception: the stream of the frame it came in, as 1 for the searched one or 2 + 512 × subcarrier + leaf on a tree, while a run of frame
  alignment mismatches may yet declare the frame lost (R156, R158); 0 otherwise. -/
  suspect : Nat := 0
  deriving DecidableEq, Repr

/-- A peak that Ibex follows: an attempt, and once its header is accepted an open burst (R130). -/
structure Burst where
  serial : Nat := 0
  /-- Λ of the peak, in 0.1 dBL, and its Q, in 0.1 dB (R129). -/
  lambda : Int := 0
  q : Nat := 0
  /-- The frozen gain, as the input level in 0.1 dBL that it puts at the target (R128). -/
  level : Int := 0
  /-- The downstream position at the first preamble symbol's arrival (R140). -/
  arrMfn : Nat := 0
  arrFn : Nat := 0
  arrOfs : Nat := 0
  restarted : Bool := false
  faded : Bool := false
  hdr : Nat := 0
  deriving DecidableEq, Repr

/-- A closed burst whose record is due (R132, R140). -/
structure Closed where
  ch : Nat
  status : Nat
  emMiss : Nat
  psym : Nat
  burst : Burst
  fofs : Nat
  snr : Nat
  msg : List Nat
  deriving DecidableEq, Repr

/-- An entry of the collision log (R141); `cur` and `new` are the bursts it names, by serial number, 0 once ended or for none. -/
structure Collision where
  ch : Nat
  phase : Nat
  outcome : Nat
  delta : Int
  mfn : Nat
  fn : Nat
  sym : Nat
  cur : Nat
  new : Nat
  newHdr : Bool
  curWord : Nat
  newWord : Nat
  deriving DecidableEq, Repr

/-- BRX beyond its registers (R130, R140, R141). -/
structure BrxState where
  /-- The attempt or open burst of each channel. -/
  cur : Store Burst := []
  serial : Nat := 0
  closed : List Closed := []
  ring : List (List Nat) := []
  log : List Collision := []
  /-- Messages of GOOD bursts that VLK has yet to take (R132). -/
  good : List Closed := []
  deriving DecidableEq, Repr

/-- A container frame in an egress slip buffer or a sleep queue: its flow, and the QDR port that holds its payload, 2 for the on-die
store or a descriptor (R201). -/
structure Stored where
  flow : Nat
  port : Nat
  frame : Cf
  deriving DecidableEq, Repr

/-- FLW's stores (R192, R198). -/
structure FlwState where
  /-- The client bytes at each flow's ingress, oldest first. -/
  ingress : Store (List Nat) := []
  /-- The bytes of it that hold errored blocks (R177), as first position and end. -/
  errored : Store (List (Nat × Nat)) := []
  /-- The bytes of a VLAN flow that have left its slip buffer since its last whole frame (R190). -/
  part : Store (List Nat) := []
  /-- The queue of each resting leaf. -/
  sleep : Store (List Stored) := []
  deriving DecidableEq, Repr

/-- A candidate of the frame search (R154, R155): its last FAW position, counted in bits from the start of the search, its rotation,
how many matches it has made and the FN of match 2. -/
structure Cand where
  pos : Nat
  rot : Nat
  made : Nat
  fn : Nat
  deriving DecidableEq, Repr

/-- FRM beyond its registers (R152, R154, R168). -/
structure FrmState where
  cands : List Cand := []
  /-- Candidates removed at in-frame that may still complete match 3 in the same window (R155). -/
  rivals : List Cand := []
  /-- The window in which in-frame was declared. -/
  window : Nat := 0
  /-- Frames of each flow held until the missing SEQ arrives or its window passes (R152). -/
  held : Store (List Cf) := []
  /-- Frames of each flow in SEQ order that await their write to the slip buffer. -/
  ready : Store (List Cf) := []
  /-- The egress slip buffer of each flow (R168). -/
  slip : Store (List Stored) := []
  deriving DecidableEq, Repr

/-- A rational number: numerator and denominator. -/
structure Q where
  num : Int := 0
  den : Nat := 1
  deriving DecidableEq, Repr

/-- What SYN has measured of a reference input (R229): x in 0.001 ppb, the offsets y1 of the last seconds, newest first, and the filter,
slope and lag-free values formed from them, in ppb. -/
structure SynInput where
  x : Int := 0
  recent : List Q := []
  yf : Q := {}
  r : Q := {}
  yh : Q := {}
  p : Q := {}
  deriving DecidableEq, Repr

/-- A holdover sample (R236): the offset in 0.001 ppb, the oscillator temperature in °C, the time, and the second it was formed in. -/
structure Sample where
  f : Int
  theta : Q
  time : Nat
  second : Nat
  deriving DecidableEq, Repr

/-- SYN beyond its registers (R229, R236 to R239). -/
structure SynState where
  inputs : Store SynInput := []
  /-- Samples in quarantine and in the history, oldest first. -/
  quarantine : List Sample := []
  history : List Sample := []
  /-- Hourly base frequencies: the time, and f_base in 2^-16 ppb. -/
  hourly : List (Nat × Int) := []
  /-- Seconds counted. -/
  seconds : Nat := 0
  deriving DecidableEq, Repr

/-- A tagged operation that is not final (R253, R254): its engine and journal entry, the issuing thread and whether that ran at USER,
the opcode, the register that receives a result (0 for none), the values of rb and of the register after it at issue, the DMEM byte
address, the register-space or QDR address, the words asked for, the register stride in words, and whether the target has accepted
it. -/
structure EngOp where
  engine : Nat
  jidx : Nat
  thread : Nat
  user : Bool
  op : Nat
  dest : Nat
  val : Nat
  val2 : Nat
  mem : Nat
  target : Nat
  count : Nat
  stride : Nat
  accepted : Bool := false
  deriving DecidableEq, Repr

/-- The engines beyond their registers and memories: their open operations, in issue order. -/
structure EngState where
  ops : List EngOp := []
  deriving DecidableEq, Repr

/-- What an FLT channel has under way (R304, R305, R307, R308): the CIC's integrators and the combs' last inputs, first stage first; the
median window, the FIR history and the dither signs at the input samples, newest first. -/
structure FltChan where
  integ : List Int := []
  comb : List Int := []
  median : List Int := []
  fir : List Int := []
  signs : List Bool := []
  deriving DecidableEq, Repr

/-- What a client's egress puts out: a container frame's bytes, an Ethernet frame of a VLAN flow (R190), or the replacement signal of R163:
the local-fault ordered set, or ODUk AIS. -/
inductive Egress where
  | cf (frame : Cf)
  | frame (bytes : List Nat)
  | localFault
  | oduAis
  deriving DecidableEq, Repr

/-- What the device puts out at its interfaces, in the order it does so (`State.out`, newest first). -/
inductive Emit where
  /-- A read completion: the master and the dword (R381). -/
  | readData (master addr value : Nat)
  /-- An Unsupported Request completion (R358, R381). -/
  | unsupported (function addr : Nat)
  /-- An MSI-X message: function and vector (R383). -/
  | msix (function vector : Nat)
  /-- An AVSBus Write VOUT: rail and millivolts (R352). -/
  | avsWrite (rail mv : Nat)
  /-- A PMBus word transaction: address, code, read, data (R353). -/
  | pmbus (addr code rd data : Nat)
  /-- A frame on a laser's serial port (R312). -/
  | serial (port frame : Nat)
  /-- A Voluman downstream frame on a beacon: its header bytes 0 to 27 and its messages (R101, R102). -/
  | vdf (beacon : Nat) (header : List Nat) (msgs : List VMsg)
  /-- A registration burst of a stranger on a subcarrier (R107, R122). -/
  | burst (sc : Nat) (msg : VMsg)
  /-- A container frame starts on a transmit subcarrier (R192): its 16 header bytes (Table FRM-4) and what they describe. -/
  | cf (k : Nat) (header : List Nat) (frame : Cf)
  /-- The overhead blocks of a transmit frame, by subcarrier: the bits on X and those on Y, first bit first (R143, R144). -/
  | overhead (blocks : List (Nat × List Nat × List Nat))
  /-- What flow f's egress gives client c (63 for none) for a container frame (R168). -/
  | client (c f : Nat) (out : Egress)
  /-- The egress of client c turns to a signal of its own (R163, R177, R185). -/
  | egress (c : Nat) (out : Egress)
  /-- The 1PPS output rises and stays high for so many microseconds (R245). -/
  | pulse (us : Nat)
  /-- A message to the pair partner over the peer lanes: its kind and words (spec/16_redundant_pair.md). -/
  | peer (kind : Nat) (words : List Nat)
  deriving DecidableEq, Repr

/-- The MSI-X machinery of the eight functions (R383). -/
structure MsixState where
  /-- Bit f: MSI-X is enabled on function f. -/
  enabled : Nat := 0
  /-- 64 × function + vector: 1 where the table entry is unmasked. -/
  unmasked : Store Nat := []
  /-- 64 × function + vector: 1 where the pending bit is set. -/
  pend : Store Nat := []
  /-- 192 × function + 3 × vector + i: the address dwords (i = 0, 1) and the data dword (i = 2) of the entry. -/
  entry : Store Nat := []
  deriving DecidableEq, Repr

/-- A register access that is held (R356, R363): who makes it, the BAR0 byte offset, the dword, and whether it writes. -/
structure HeldAccess where
  master : Nat
  user : Bool
  addr : Nat
  value : Nat
  write : Bool
  deriving DecidableEq, Repr

/-- The state of the machine. -/
structure State where
  /-- Every register field and every hidden field, by the bit address of its lowest bit; one that is not listed holds its reset
  value. -/
  csr : Store Nat := []
  msix : MsixState := {}
  vlk : VlkState := {}
  brx : BrxState := {}
  flw : FlwState := {}
  frm : FrmState := {}
  syn : SynState := {}
  eng : EngState := {}
  /-- FLT's channels, by number. -/
  flt : Store FltChan := []
  /-- The words of the two QDR-IV devices: port × 2^23 + word address; an unlisted word reads 0 (notes/assumptions/13.md). -/
  qdr : Store Nat := []
  /-- The flash, by word address; an unlisted word reads 0xFFFF_FFFF, the erased state (notes/assumptions/13.md); as shipped it holds the
  factory's calibration set. -/
  flash : Store Nat := []
  /-- How many free values have been drawn: the model's own field (notes/assumptions/2.md). -/
  drawn : Nat := 0
  /-- Accesses held until a soft reset ends or the device wakes, oldest first (R356, R363). -/
  held : List HeldAccess := []
  /-- What the device has put out, newest first. -/
  out : List Emit := []
  /-- The commands that wait, first in first out. -/
  pending : List Instr := []
  deriving DecidableEq, Repr

/-- Faults. No command of the block stops with one: the spec describes every error as an effect on state. -/
inductive Fault where
  /-- Raised by no command. Safe. -/
  | none
  deriving DecidableEq, Repr

/-- Refusals. -/
inductive Refusal where
  /-- The command has no meaning in the model. Raised by no meaning. Safe. -/
  | notModelled (mnemonic : String)
  deriving DecidableEq, Repr

/-- The machine right after power-on reset: every register field at its reset value, nothing under way, the factory's set in the flash. -/
def State.reset : State := { flash := Cal.factoryFlash }

end Sys2Proof.Machine
end

