-- ==== Sys2Proof/Machine/Ops.lean ====
section
/-! DEFINITION. Sys2Proof/Machine/Ops.lean: the named operations over the state: register fields, outputs, free values, and the
interrupt summary with its MSI-X messages (R383, R384), which every command ends with. -/
namespace Sys2Proof.Machine
open Sys2Proof

/-- The value of a register field, of its `width` bits. An element that does not exist reads 0 (R8). -/
def State.get (s : State) (f : Field) (i j k : Nat := 0) : Nat :=
  if f.shape.has i j k then Store.get (f.resetAt i j k) s.csr (f.key i j k) % 2 ^ f.width else 0

/-- Give a register field a value (its low `width` bits). A field at its reset value is listed nowhere; an element that does
not exist holds nothing (R8). -/
def State.put (s : State) (f : Field) (v : Nat) (i j k : Nat := 0) : State :=
  if f.shape.has i j k then
    { s with csr := Store.put (f.resetAt i j k) s.csr (f.key i j k) (v % 2 ^ f.width) }
  else s

/-- A one-bit field, or any field as nonzero. -/
def State.on (s : State) (f : Field) (i j k : Nat := 0) : Bool := s.get f i j k != 0

/-- Set a one-bit field. -/
def State.set (s : State) (f : Field) (i j k : Nat := 0) : State := s.put f 1 i j k

/-- Clear a field. -/
def State.clr (s : State) (f : Field) (i j k : Nat := 0) : State := s.put f 0 i j k

/-- Bit `b` of a field that is a map of bits. -/
def State.bit (s : State) (f : Field) (b : Nat) (i j k : Nat := 0) : Bool := (s.get f i j k).testBit b

/-- Set bit `b` of a map. -/
def State.setBit (s : State) (f : Field) (b : Nat) (i j k : Nat := 0) : State := s.put f (withBit (s.get f i j k) b) i j k

/-- Clear bit `b` of a map. -/
def State.clrBit (s : State) (f : Field) (b : Nat) (i j k : Nat := 0) : State := s.put f (withoutBit (s.get f i j k) b) i j k

/-- Give bit `b` of a map a value. -/
def State.putBit (s : State) (f : Field) (b : Nat) (v : Bool) (i j k : Nat := 0) : State :=
  if v then s.setBit f b i j k else s.clrBit f b i j k

/-- Add to a counter that saturates. -/
def State.count (s : State) (f : Field) (n : Nat := 1) (i j k : Nat := 0) : State :=
  s.put f (atMost (2 ^ f.width - 1) (s.get f i j k + n)) i j k

/-- Add to a counter that wraps. -/
def State.countWrap (s : State) (f : Field) (n : Nat := 1) (i j k : Nat := 0) : State := s.put f (s.get f i j k + n) i j k

/-- A field as a two's-complement number. -/
def State.sget (s : State) (f : Field) (i j k : Nat := 0) : Int := signed f.width (s.get f i j k)

/-- Give a field a two's-complement number. -/
def State.sput (s : State) (f : Field) (v : Int) (i j k : Nat := 0) : State := s.put f (unsigned f.width v) i j k

/-- `f` where the condition holds. -/
def State.when (s : State) (c : Bool) (f : State → State) : State := if c then f s else s

/-- `f 0`, `f 1`, ... `f (n - 1)` in turn. -/
def State.each (s : State) (n : Nat) (f : Nat → State → State) : State := (List.range n).foldl (fun t i => f i t) s

/-- `f` for every element of a list in turn. -/
def State.eachOf {α : Type} (s : State) (l : List α) (f : α → State → State) : State := l.foldl (fun t x => f x t) s

/-- The range of keys an array of fields that shares its addresses with no other field is held under. -/
def Field.range (f : Field) : Nat × Nat :=
  (f.shape.addr * 8, f.shape.addr * 8 + (if f.shape.d1 = 0 then 8 else f.shape.n1 * f.shape.d1 * 8))

/-- Every listed key from `lo` up to, not including, `hi` returns to its reset value. -/
def State.wipeRange (s : State) (lo hi : Nat) : State :=
  { s with csr := s.csr.filter (fun e => !(decide (lo ≤ e.1) && decide (e.1 < hi))) }

/-- Every element of a hidden array returns to its reset value. -/
def State.wipe (s : State) (f : Field) : State := s.wipeRange f.range.1 f.range.2

/-- The device puts something out. -/
def State.emit (s : State) (o : Emit) : State := { s with out := o :: s.out }

/-- A fresh free value, reduced to `w` bits (notes/assumptions/2.md). -/
def State.free (s : State) (w : Nat) : Nat := Config.freeValue s.drawn % 2 ^ w

/-- The free value has been used. -/
def State.drew (s : State) : State := { s with drawn := s.drawn + 1 }

/-- The device runs as a leaf (R1). -/
def State.leaf (s : State) : Bool := s.get F.SYS_ROLE_ROLE == 1

/-- SYNC or STANDBY of a redundant pair: the device listens and sends nothing (R342). -/
def State.passive (s : State) : Bool := s.get F.PEER_STAT_STATE == 2 || s.get F.PEER_STAT_STATE == 3

/-- The dword held for a register: its fields, each at its bits. -/
def State.word (s : State) (r : RegId) (i j k : Nat := 0) : Nat :=
  r.fields.foldl (fun a f => a + s.get f i j k * 2 ^ f.lo) 0

/-- The blocks of Table SYS-5 with an INT_CAUSE register of one window, with their number (R384: BOOT and CVT have none). -/
def interruptBlocks : List (Nat × RegId × Field) :=
  [(0, .SYS_INT_CAUSE, F.SYS_INT_MASK_MASK), (2, .LCM_INT_CAUSE, F.LCM_INT_MASK_MASK),
   (3, .PWR_INT_CAUSE, F.PWR_INT_MASK_MASK), (5, .MBX_INT_CAUSE, F.MBX_INT_MASK_MASK),
   (6, .PMC_INT_CAUSE, F.PMC_INT_MASK_MASK), (7, .HKA_INT_CAUSE, F.HKA_INT_MASK_MASK),
   (8, .FLT_INT_CAUSE, F.FLT_INT_MASK_MASK), (9, .CAL_INT_CAUSE, F.CAL_INT_MASK_MASK),
   (10, .BST_INT_CAUSE, F.BST_INT_MASK_MASK), (11, .CRY_INT_CAUSE, F.CRY_INT_MASK_MASK),
   (12, .SYN_INT_CAUSE, F.SYN_INT_MASK_MASK), (13, .HSL_INT_CAUSE, F.HSL_INT_MASK_MASK),
   (14, .FLW_INT_CAUSE, F.FLW_INT_MASK_MASK), (15, .QDM_INT_CAUSE, F.QDM_INT_MASK_MASK),
   (16, .FRM_INT_CAUSE, F.FRM_INT_MASK_MASK), (17, .FEC_INT_CAUSE, F.FEC_INT_MASK_MASK),
   (18, .LTX_INT_CAUSE, F.LTX_INT_MASK_MASK), (19, .LRX_INT_CAUSE, F.LRX_INT_MASK_MASK),
   (20, .SCM_INT_CAUSE, F.SCM_INT_MASK_MASK), (21, .BRX_INT_CAUSE, F.BRX_INT_MASK_MASK),
   (22, .VLK_INT_CAUSE, F.VLK_INT_MASK_MASK), (24, .LSR_INT_CAUSE, F.LSR_INT_MASK_MASK),
   (25, .PEER_INT_CAUSE, F.PEER_INT_MASK_MASK)]

/-- Bit 4: some engine window has an unmasked cause (R384). -/
def State.engineInterrupt (s : State) : Bool :=
  (List.range 65).any (fun n =>
    let m := s.get F.ENG_INT_MASK_MASK n
    m != 0 && (m &&& s.word .ENG_INT_CAUSE n) != 0)

/-- SYS.INT_SUMMARY.BLK: bit b is set where block b has a cause whose mask bit is 1 (notes/assumptions/5.md, DEDUCED). -/
def State.summary (s : State) : Nat :=
  interruptBlocks.foldl
    (fun a x =>
      let m := s.get x.2.2
      if m != 0 && (m &&& s.word x.2.1) != 0 then a + 2 ^ x.1 else a)
    (if s.engineInterrupt then 16 else 0)

/-- One function takes vector `v`: a message where its MSI-X is enabled and the entry unmasked, else its pending bit (R383). -/
def State.vector (s : State) (f v : Nat) : State :=
  if s.msix.enabled.testBit f && Store.get 0 s.msix.unmasked (64 * f + v) == 1 then s.emit (.msix f v)
  else { s with msix := { s.msix with pend := Store.put 0 s.msix.pend (64 * f + v) 1 } }

/-- The interrupt outputs of a command that took the machine from `s` to `t`: every block whose summary bit rises sends its
vector on all eight functions (R383). -/
def settle (s t : State) : State :=
  let a := s.summary
  let b := t.summary
  if a = b then t
  else t.each 26 (fun n u =>
    if b.testBit n && !a.testBit n then u.each 8 (fun f w => w.vector f (t.get F.SYS_VEC_MAP_VEC n)) else u)

/-- A command completes: the machine goes from `s` to `t` and its interrupt outputs follow. -/
def done (s t : State) : Host.Outcome State Fault Refusal := .next (settle s t)

end Sys2Proof.Machine
end

