-- ==== Sys2Proof/Machine/Flash.lean ====
section
/-! DEFINITION. Sys2Proof/Machine/Flash.lean: the flash and BOOT's flash commands (spec/17_power_reset_and_start_up.md, R359, R360). -/
namespace Sys2Proof.Machine.Flash
open Sys2Proof Sys2Proof.Machine

/-- What an erased word reads. -/
def erased : Nat := 2 ^ 32 - 1

/-- The flash word at word address `w` (24-bit byte addresses). -/
def read (s : State) (w : Nat) : Nat := Store.get erased s.flash w

/-- `n` words from word address `w`. -/
def readWords (s : State) (w n : Nat) : List Nat := (List.range n).map (fun i => read s (w + i))

/-- Programming clears bits (notes/assumptions/16.md, PRESUMED of serial NOR flash). -/
def program (w : Nat) (data : List Nat) (s : State) : State :=
  s.eachOf data.zipIdx (fun x t => { t with flash := Store.put erased t.flash (w + x.2) (read t (w + x.2) &&& x.1 % 2 ^ 32) })

/-- The words from `lo` up to, not including, `hi` are erased. -/
def erase (lo hi : Nat) (s : State) : State :=
  { s with flash := s.flash.filter (fun e => !(decide (lo ≤ e.1) && decide (e.1 < hi))) }

/-- The 64 KiB sector of a byte address. -/
def sector (a : Nat) : Nat := a / 65536

/-- Writes to the sector are refused (R360): the slot records, the running slot, and outside MANUFACTURE and RETURNED the descriptor
and calibration sectors. -/
def isProtected (s : State) (a : Nat) : Bool :=
  let b := sector a
  let life := s.get F.LCM_STATE_STATE
  let slot := 0x40 + 0x40 * s.get F.SE_IMG_STAT_SLOT
  b == 0x30 || b == 0x31 || (decide (slot ≤ b) && decide (b < slot + 0x40)) || ((b == 0 || b == 0x20) && life != 1 && life != 4)

def busy (s : State) : Bool := s.on F.BOOT_FL_STAT_BUSY

/-- The words a LEN value asks for. -/
def lenOf (v : Nat) : Nat := max 1 v

/-- A command of length `len` is accepted, or refused with its ERR: 1 PROTECTED, 2 BUSY, 4 RANGE. -/
def check (s : State) (op len : Nat) : Nat :=
  let a := s.get F.BOOT_FL_ADDR_ADDR
  if busy s then 2
  else if a % 4 ≠ 0 ∨ (op ≠ 2 ∧ (64 < len ∨ 2 ^ 24 < a + 4 * len)) ∨ (op = 1 ∧ a / 256 ≠ (a + 4 * len - 4) / 256) then 4
  else if (op = 1 || op = 2) && isProtected s a then 1
  else 0

/-- What an accepted command does to the flash or to FL_DATA. -/
def act (op len : Nat) (s : State) : State :=
  let a := s.get F.BOOT_FL_ADDR_ADDR / 4
  match op with
  | 1 => program a ((List.range len).map (fun i => s.get F.BOOT_FL_DATA_DATA i)) s
  | 2 => erase (a / 16384 * 16384) (a / 16384 * 16384 + 16384) s
  | _ => s.eachOf (readWords s a len).zipIdx (fun x t => t.put F.BOOT_FL_DATA_DATA x.1 x.2)

/-- A flash command of the host (R360): FL_CMD written with GO. -/
def command (op lenField : Nat) (s : State) : State :=
  let len := lenOf lenField
  let e := check s op len
  if e ≠ 0 then s.put F.BOOT_FL_STAT_ERR e
  else
    let s := (s.put F.BOOT_FL_CMD_OP op).put F.BOOT_FL_CMD_LEN lenField
    let s := ((s.set F.BOOT_FL_CMD_GO).set F.BOOT_FL_STAT_BUSY).clr F.BOOT_FL_STAT_ERR
    act op len s

/-- A write of FL_CMD. -/
def writeCmd (v : Nat) (s : State) : State :=
  if v.testBit 31 then command (let o := slice v 0 2; if o = 3 then 0 else o) (slice v 2 7) s
  else (s.put F.BOOT_FL_CMD_OP (slice v 0 2)).put F.BOOT_FL_CMD_LEN (slice v 2 7)

/-- FL_DONE (R360): the command completes; `verify` says that the device read back what was meant. -/
def finish (verify : Bool) (s : State) : State :=
  if busy s then
    let s := (s.clr F.BOOT_FL_STAT_BUSY).clr F.BOOT_FL_CMD_GO
    if verify then s else s.put F.BOOT_FL_STAT_ERR 3
  else s

end Sys2Proof.Machine.Flash
end

