-- ==== Sys2Proof/Machine/Lsr.lean ====
section
/-! DEFINITION. Sys2Proof/Machine/Lsr.lean: laser control (spec/14_housekeeping_and_optics_control.md, R311 to R313): the serial
ports, the fine-tune outputs and the LASER_EN pin. -/
namespace Sys2Proof.Machine.Lsr
open Sys2Proof Sys2Proof.Machine

/-- The four-bit checksum of an MSA frame over its other 28 bits (notes/assumptions/8.md, PRESUMED from the tunable laser MSA):
the exclusive or of its nibbles. -/
def checksum (frame : Nat) : Nat :=
  ((List.range 7).map (fun i => slice frame (4 * i) 4)).foldl (· ^^^ ·) 0

/-- The frame with its checksum in bits 31 to 28. -/
def sealed (frame : Nat) : Nat := checksum frame * 2 ^ 28 + frame % 2 ^ 28

/-- A command frame: write bit, register, data (MSA layout, notes/assumptions/8.md). -/
def command (write reg data : Nat) : Nat := sealed (write * 2 ^ 24 + reg % 256 * 65536 + data % 65536)

/-- The status a response carries (bits 25 and 24): 0 OK, 3 pending, others failures (notes/assumptions/8.md). -/
def status (frame : Nat) : Nat := slice frame 24 2

/-- A command that changes a frequency: a write to a channel, grid, first-channel or fine-tune register of the MSA
(notes/assumptions/8.md). -/
def changesFrequency (frame : Nat) : Bool :=
  frame.testBit 24 && [0x30, 0x34, 0x35, 0x36, 0x62].contains (slice frame 16 8)

/-- SER_BUSY of port l. -/
def showBusy (l : Nat) (s : State) : State :=
  s.putBit F.LSR_STAT_SER_BUSY l
    (s.on H.LSR_HOST_PEND l || s.on H.LSR_HOST_RUN l || s.on H.LSR_OWN_PEND l || s.on H.LSR_OWN_RUN l || s.on H.LSR_TUNE_PEND l)

/-- An idle port sends what waits on it, LSR's own commands first (R312), a channel before an offset. LSR_OWN_RUN is 1 while an offset
command of the device runs, 2 while a channel command does. -/
def sendNext (l : Nat) (s : State) : State :=
  let s :=
    if s.on H.LSR_HOST_RUN l || s.on H.LSR_OWN_RUN l || !s.bit F.LSR_CTRL_SER_EN l then s
    else if s.on H.LSR_TUNE_PEND l then
      ((s.clr H.LSR_TUNE_PEND l).put H.LSR_OWN_RUN 2 l).emit (.serial l (s.get H.LSR_TUNE_CMD l))
    else if s.on H.LSR_OWN_PEND l then
      ((s.clr H.LSR_OWN_PEND l).set H.LSR_OWN_RUN l).emit (.serial l (s.get H.LSR_OWN_CMD l))
    else if s.on H.LSR_HOST_PEND l then
      ((s.clr H.LSR_HOST_PEND l).set H.LSR_HOST_RUN l).emit (.serial l (s.get F.LSR_SER_CMD_FRAME l))
    else s
  showBusy l s

/-- A write of SER_CMD[l] (R312): a further host command while one is pending or in progress is ignored. -/
def serCmd (l v : Nat) (s : State) : State :=
  if s.on H.LSR_HOST_PEND l || s.on H.LSR_HOST_RUN l then s
  else sendNext l ((s.put F.LSR_SER_CMD_FRAME (sealed v) l).set H.LSR_HOST_PEND l)

/-- The commanded frequency of laser l relative to its nominal one, in MHz: its channel and offset, and for the local oscillator the serial
and fine-tune offsets of R62 and R63. -/
def frequency (s : State) (l : Nat) : Int :=
  s.sget H.LSR_SET l + (if l = 0 then s.sget F.LRX_LOFB_STAT_SER + s.sget F.LSR_FT_OUT_MHZ 0 else 0)

/-- One of LSR's own commands on port l. -/
def ownCommand (l frame : Nat) (s : State) : State :=
  sendNext l ((s.put H.LSR_OWN_CMD frame l).set H.LSR_OWN_PEND l)

/-- The offset command of laser l (register 0x62, notes/assumptions/8.md): what the channel leaves of the commanded frequency, with the
serial offset `ser` of R63. -/
def offsetCommand (s : State) (l : Nat) (ser : Int) : Nat := command 1 0x62 (unsigned 16 (s.sget H.LSR_SET l % 100 + ser))

/-- The laser of port l is set to a frequency offset in MHz from its nominal frequency (R29, R71): a channel of 100 MHz, and the remainder
with the serial offset in force. A frequency already commanded is not commanded again. -/
def tune (l : Nat) (mhz : Int) (s : State) : State :=
  if s.sget H.LSR_SET l = mhz then s
  else
    let s := s.sput H.LSR_SET mhz l
    let s := (s.put H.LSR_TUNE_CMD (command 1 0x30 (unsigned 16 (mhz / 100))) l).set H.LSR_TUNE_PEND l
    ownCommand l (offsetCommand s l (if l = 0 then s.sget F.LRX_LOFB_STAT_SER else 0)) s

/-- The command in progress on port l ends: SER_DONE or SER_ERR (R312), and the next one is sent. -/
def finish (l : Nat) (ok : Bool) (s : State) : State :=
  let own := s.get H.LSR_OWN_RUN l == 1
  let s := ((s.clr H.LSR_HOST_RUN l).clr H.LSR_OWN_RUN l).clr H.LSR_POLLING l
  let s := if ok then s.set F.LSR_INT_CAUSE_SER_DONE else s.set F.LSR_INT_CAUSE_SER_ERR
  let s := if own && ok && l == 0 then s.set H.LSR_OWN_DONE else s
  sendNext l s

/-- The command in progress on port l changes a frequency. -/
def runningChange (s : State) (l : Nat) : Bool :=
  if s.on H.LSR_OWN_RUN l then changesFrequency (s.get (if s.get H.LSR_OWN_RUN l = 2 then H.LSR_TUNE_CMD else H.LSR_OWN_CMD) l) else changesFrequency (s.get F.LSR_SER_CMD_FRAME l)

/-- A response arrives on port l and is checked (R312). -/
def response (l frame : Nat) (s : State) : State :=
  if s.on H.LSR_HOST_RUN l || s.on H.LSR_OWN_RUN l then
    let s := if s.on H.LSR_HOST_RUN l then s.put F.LSR_SER_RESP_FRAME frame l else s
    if slice frame 28 4 ≠ checksum frame ∨ status frame = 1 ∨ status frame = 2 then finish l false s
    else if runningChange s l then s.set H.LSR_POLLING l
    else if status frame = 3 then s.set H.LSR_POLLING l
    else finish l true s
  else s

/-- The 1 ms poll of a frequency change on port l shows whether an operation is still pending (R312). -/
def poll (l : Nat) (waiting : Bool) (s : State) : State :=
  if s.on H.LSR_POLLING l then (if waiting then s.emit (.serial l (command 0 0 0)) else finish l true s) else s

/-- No response within 10 ms (R312). -/
def timeout (l : Nat) (s : State) : State :=
  if s.on H.LSR_HOST_RUN l || s.on H.LSR_OWN_RUN l then finish l false s else s

/-- A write to LSR.CTRL. -/
def writeCtrl (v : Nat) (s : State) : State :=
  let s := (s.put F.LSR_CTRL_SIG_EN (slice v 0 1)).put F.LSR_CTRL_SER_EN (slice v 1 2)
  sendNext 1 (sendNext 0 s)

/-- Fine-tune output i is set to a frequency in MHz, as the code of R313; FTUNE0 is what LOFB_STAT.FINE shows (R62). -/
def setFine (i : Nat) (mhz : Int) (s : State) : State :=
  let s := if i = 0 then s.sput F.LRX_LOFB_STAT_FINE mhz else s
  let raw := 2048 + roundDivInt (1000 * mhz) (s.get F.LSR_FT_CFG_GAIN_KHZ i)
  let code := clampInt 0 4095 raw
  ((s.sput F.LSR_FT_OUT_MHZ mhz i).put F.LSR_FT_OUT_LIMIT (b01 (decide (code ≠ raw))) i).put H.LSR_CODE code.toNat i

/-- The owner of fine-tune output i (R313): LRX of FTUNE0 while LOFB_EN is 1, a loop of FTUNE1 while one targets it. -/
def owner (s : State) (i : Nat) : Nat :=
  if i = 0 then (if s.on F.LRX_CTRL_LOFB_EN then 1 else 0)
  else if (List.range 8).any (fun b => s.on F.LSR_LOOP_CFG_EN b && s.get F.LSR_LOOP_CFG_TARGET b == 8) then 2 else 0

def showOwners (s : State) : State :=
  (s.put F.LSR_FT_OUT_OWNER (owner s 0) 0).put F.LSR_FT_OUT_OWNER (owner s 1) 1

/-- A host write to FT_OUT[i] (R313). -/
def writeFtOut (i v : Nat) (s : State) : State :=
  if owner s i ≠ 0 then s.set F.LSR_INT_CAUSE_OWNED else setFine i (signed 10 v) s

/-- A write to FT_CFG[i].GAIN_KHZ (R313): the output keeps its frequency under the new gain. -/
def writeGain (i v : Nat) (s : State) : State :=
  if v % 65536 < 196 then s.set F.LSR_INT_CAUSE_CFG_ERR
  else setFine i (s.sget F.LSR_FT_OUT_MHZ i) (s.put F.LSR_FT_CFG_GAIN_KHZ v i)

/-- The pair holds the laser off: states LINKING, SYNC and STANDBY of Table PEER-1 (R340, R342). -/
def standby (s : State) : Bool := [1, 2, 3].contains (s.get F.PEER_STAT_STATE)

/-- LSR.STAT.HOLD and the LASER_EN pin (R311). -/
def laser (s : State) : State :=
  let safe := s.on F.BST_STAT_SAFE || s.get F.LCM_STATE_STATE == 5
  let hold := b01 (!s.on F.LSR_CTRL_SIG_EN) + 2 * b01 safe + 4 * b01 (standby s)
  if hold = s.get F.LSR_STAT_HOLD then s
  else (s.put F.LSR_STAT_HOLD hold).put F.LSR_STAT_LASER_EN (b01 (hold == 0))

end Sys2Proof.Machine.Lsr
end

