-- ==== Sys2Proof/Machine/Hka.lean ====
section
/-! DEFINITION. Sys2Proof/Machine/Hka.lean: housekeeping conversion and the PWM outputs
(spec/14_housekeeping_and_optics_control.md, R291 to R302). -/
namespace Sys2Proof.Machine.Hka
open Sys2Proof Sys2Proof.Machine

/-! ### Results (R291, R292) -/

/-- DIFF counts for channels 0 to 15; channel 23 is differential (Table HKA-1). -/
def differential (ch diff : Nat) : Bool := if ch < 16 then diff == 1 else ch == 23

/-- A code saturates at the ends of its range. -/
def limit (ch diff : Nat) (code : Int) : Int :=
  if differential ch diff then clampInt (-8192) 8191 code else clampInt 0 16383 code

/-- The 16-bit value a code is stored as. -/
def stored (ch diff align : Nat) (code : Int) : Nat :=
  let c := limit ch diff code
  if align = 1 then unsigned 14 c * 4 else unsigned 16 c

/-- A new result for a register with DATA, NEW and OVR (R295). -/
def deliver (data new ovr : Field) (e v : Nat) (s : State) : State :=
  let s := if s.on new e then s.set ovr e else s
  (s.put data v e).set new e

/-! ### What is converted next (R297, R298) -/

/-- The ticks of a conversion of kind k that starts now (R291, R298, R299): CTRL.LP as it stands, low-power mode in REST, and the 0.5 µs of a
calibration's conversions. -/
def ticks (k : Nat) (s : State) : Nat :=
  if k ≠ 4 ∧ (s.on F.HKA_CTRL_LP ∨ s.get F.PWR_REST_STAT_STATE = 2) then 400 else 50

/-- The converter starts on kind k, with a channel, DIFF and ALIGN. -/
def begin (k ch diff align : Nat) (s : State) : State :=
  ((s.put H.HKA_RUN k).put H.HKA_CUR (ch + 32 * diff + 64 * align)).put H.HKA_TICKS (ticks k s)

/-- A calibration takes HKA: sequence conversions are suspended (R298). -/
def beginCal (s : State) : State :=
  let s := (s.clr H.HKA_CAL_WAIT).put H.HKA_SEQ_STATE (s.get F.HKA_STAT_STATE)
  begin 4 23 1 0 ((s.put F.HKA_STAT_STATE 3).set F.HKA_STAT_CAL_HOLD)

/-- An idle converter takes what comes first (R297). -/
def choose (s : State) : State :=
  if s.get H.HKA_RUN ≠ 0 then s
  else if s.on F.HKA_STAT_INJ_PEND && s.on F.HKA_CTRL_EN then
    begin 2 (s.get F.HKA_INJ_CH) (s.get F.HKA_INJ_DIFF) (s.get F.HKA_INJ_ALIGN) (s.clr F.HKA_STAT_INJ_PEND)
  else if s.on H.HKA_CAL_WAIT then beginCal s
  else if s.on H.HKA_SCAN_DUE && s.on F.HKA_CTRL_EN then begin 3 (16 + s.get H.HKA_SCAN_S) 0 0 s
  else if s.get F.HKA_STAT_STATE = 2 ∧ s.on F.HKA_CTRL_EN then
    let e := s.get F.HKA_STAT_NEXT
    begin 1 (s.get F.HKA_SEQ_CH e) (s.get F.HKA_SEQ_DIFF e) (s.get F.HKA_SEQ_ALIGN e) s
  else s

/-! ### Triggers and requests (R294, R296) -/

/-- A trigger of the sequence. -/
def trigger (s : State) : State :=
  if !s.on F.HKA_CTRL_EN then s
  else if s.get F.HKA_STAT_STATE = 0 then (s.put F.HKA_STAT_STATE 1).clr F.HKA_STAT_NEXT
  else (s.count F.HKA_MISS_CNT_COUNT).set F.HKA_INT_CAUSE_TRIG_MISS

/-- INJ_GO: a request for an injected conversion. -/
def inject (s : State) : State :=
  if s.on F.HKA_STAT_INJ_PEND || s.get H.HKA_RUN == 2 then s.set F.HKA_INT_CAUSE_INJ_REFUSED
  else choose (s.set F.HKA_STAT_INJ_PEND)

/-- A trigger source as TRIG.SRC and INJ.TSRC name it: 18 to 31 act as 0 (R294). -/
def source (v : Nat) : Nat := if 18 ≤ v then 0 else v

/-- Source n triggers: the injected request first (Table LSR-1). -/
def fire (n : Nat) (s : State) : State :=
  let s := if source (s.get F.HKA_INJ_TSRC) = n then inject s else s
  if source (s.get F.HKA_TRIG_SRC) = n then trigger s else s

/-- HKA_TIMER. -/
def timer (s : State) : State := if s.get F.HKA_TIMER_PERIOD = 0 then s else fire 1 s

/-- SEQ_GO: the trigger where SRC names software. -/
def seqGo (s : State) : State := if source (s.get F.HKA_TRIG_SRC) = 0 then trigger s else s

/-- DELAY_END: the sequence converts from entry 0. -/
def delayEnd (s : State) : State :=
  if s.get F.HKA_STAT_STATE = 1 then choose (s.put F.HKA_STAT_STATE 2)
  else if s.get F.HKA_STAT_STATE = 3 ∧ s.get H.HKA_SEQ_STATE = 1 then s.put H.HKA_SEQ_STATE 2
  else s

/-- BACKGROUND_SCAN (R293): a scan falls due. -/
def scanDue (s : State) : State :=
  if !s.on F.HKA_CTRL_EN || s.on H.HKA_SCAN_DUE then s else choose ((s.set H.HKA_SCAN_DUE).clr H.HKA_SCAN_S)

/-- A calibration asks for HKA (R298): behind an injected conversion it is deferred. -/
def requestCal (s : State) : State :=
  let s := if s.on F.HKA_STAT_INJ_PEND || s.get H.HKA_RUN == 2 then s.put F.CAL_DEFERRED_VAL 1 else s
  choose (s.set H.HKA_CAL_WAIT)

/-- The calibration lets HKA go (R298): the sequence resumes at the entry where it stopped. -/
def releaseCal (s : State) : State :=
  if s.on F.HKA_STAT_CAL_HOLD then
    choose (((s.clr F.HKA_STAT_CAL_HOLD).clr H.HKA_RUN).put F.HKA_STAT_STATE (s.get H.HKA_SEQ_STATE))
  else s.clr H.HKA_CAL_WAIT

/-- The highest of the five sensors (R293). -/
def hottest (s : State) : Int :=
  ((List.range 5).map (fun i => s.sget F.HKA_DIE_TEMP_TEMP i)).foldl max (s.sget F.HKA_DIE_TEMP_TEMP 0)

/-- CONVERSION_END (R295 to R297): the converter shows `code`, before saturation; its result is written and the next conversion chosen. -/
def conversionEnd (code : Int) (s : State) : State :=
  let cur := s.get H.HKA_CUR
  let ch := cur % 32
  let diff := slice cur 5 1
  let v := stored ch diff (slice cur 6 1) code
  let idle := s.clr H.HKA_RUN
  match s.get H.HKA_RUN with
  | 1 =>
    let e := s.get F.HKA_STAT_NEXT
    let s := ((deliver F.HKA_RES_DATA F.HKA_RES_NEW F.HKA_RES_OVR e v idle).sput H.HKA_CODE (limit ch diff code) e).set H.HKA_FRESH e
    if e < s.get F.HKA_CTRL_LEN_M1 then choose (s.put F.HKA_STAT_NEXT (e + 1))
    else choose (((s.clr F.HKA_STAT_NEXT).clr F.HKA_STAT_STATE).set F.HKA_INT_CAUSE_SEQ_DONE)
  | 2 =>
    let s := (deliver F.HKA_INJ_RES_DATA F.HKA_INJ_RES_NEW F.HKA_INJ_RES_OVR 0 v idle).sput H.HKA_INJ_CODE (limit ch diff code)
    choose (s.set F.HKA_INT_CAUSE_INJ_DONE)
  | 3 =>
    let i := s.get H.HKA_SCAN_S
    let s := idle.sput F.HKA_DIE_TEMP_TEMP (limit ch diff code - 4096) i
    if i < 4 then choose (s.put H.HKA_SCAN_S (i + 1))
    else choose (((s.clr H.HKA_SCAN_S).clr H.HKA_SCAN_DUE).sput F.HKA_DIE_HOT_TEMP (hottest s))
  | _ => s

/-! ### PWM outputs (R301, R302) -/

/-- C′ of the running period. -/
def highTicks (s : State) (p : Nat) : Nat :=
  let c : Int := s.get H.HKA_PWM_C p
  let a : Int := s.get H.HKA_PWM_A p
  (clampInt 0 (s.get H.HKA_PWM_P p) (if s.on H.HKA_PWM_MINUS p then c - a else c + a)).toNat

/-- Periods of one sign: 0 acts as 256. -/
def halfDither (s : State) (p : Nat) : Nat :=
  let n := s.get F.HKA_PWM_DITH_DITH_N p
  if n = 0 then 256 else n

/-- The dither sign of the period that starts: plus for the first DITH_N periods, then alternating; no dither without an amplitude. -/
def dither (p : Nat) (s : State) : State :=
  if s.get H.HKA_PWM_A p = 0 then (s.clr H.HKA_PWM_MINUS p).clr H.HKA_PWM_CNT p
  else if s.get H.HKA_PWM_CNT p < halfDither s p then s.put H.HKA_PWM_CNT (s.get H.HKA_PWM_CNT p + 1) p
  else (s.put H.HKA_PWM_MINUS (1 - s.get H.HKA_PWM_MINUS p) p).put H.HKA_PWM_CNT 1 p

/-- PWM_PERIOD_START: PER, DUTY and DITH take effect, and the output rises where C′ is above 0; a period of 0 stops it low. -/
def periodStart (p : Nat) (s : State) : State :=
  if 8 ≤ p then s
  else
    let s := (s.put H.HKA_PWM_P (s.get F.HKA_PWM_PER_VAL p) p).put H.HKA_PWM_C (s.get F.HKA_PWM_DUTY_VAL p) p
    let s := s.put H.HKA_PWM_A (s.get F.HKA_PWM_DITH_VAL p) p
    if s.get H.HKA_PWM_P p = 0 then s.clr H.HKA_PWM_OUT p
    else
      let s := dither p s
      fire (2 + p) (s.put H.HKA_PWM_OUT (b01 (decide (0 < highTicks s p))) p)

/-- PWM_COMPARE: tick C′ of the period, where it lies inside. -/
def compare (p : Nat) (s : State) : State :=
  if p < 8 ∧ s.on H.HKA_PWM_OUT p ∧ highTicks s p < s.get H.HKA_PWM_P p then fire (10 + p) (s.clr H.HKA_PWM_OUT p) else s

/-- A write of PWM_DUTY[p]; ignored while an enabled loop targets the PWM (R313). -/
def writeDuty (p v : Nat) (s : State) : State :=
  if (List.range 8).any (fun b => s.on F.LSR_LOOP_CFG_EN b && s.get F.LSR_LOOP_CFG_TARGET b == p) then s.set F.LSR_INT_CAUSE_OWNED
  else s.put F.HKA_PWM_DUTY_VAL v p

/-- A write of HKA.CTRL. -/
def writeCtrl (v : Nat) (s : State) : State :=
  choose (((s.put F.HKA_CTRL_EN v).put F.HKA_CTRL_LP (slice v 1 1)).put F.HKA_CTRL_LEN_M1 (slice v 2 5))

/-- A write of HKA.INJ: the settings, then GO. -/
def writeInj (v : Nat) (s : State) : State :=
  let s := ((s.put F.HKA_INJ_CH v).put F.HKA_INJ_DIFF (slice v 5 1)).put F.HKA_INJ_ALIGN (slice v 6 1)
  let s := s.put F.HKA_INJ_TSRC (slice v 7 5)
  if v.testBit 31 then inject s else s

end Sys2Proof.Machine.Hka
end

