-- ==== Sys2Proof/Machine/Flt.lean ====
section
/-! DEFINITION. Sys2Proof/Machine/Flt.lean: the filter chains and their detectors (spec/14_housekeeping_and_optics_control.md, R303 to
R310), and the bias loops that FLT outputs drive (R314). Values are integers in 1/256 of an input LSB. -/
namespace Sys2Proof.Machine.Flt
open Sys2Proof Sys2Proof.Machine

/-! ### Rounding (R306) -/

/-- The integer nearest to n/d, ties to even. -/
def halfEven (n : Int) (d : Nat) : Int :=
  let q := n / (d : Int)
  let r := n - q * (d : Int)
  if 2 * r < d then q else if (d : Int) < 2 * r then q + 1 else if q % 2 = 0 then q else q + 1

/-- The largest word. -/
def top : Int := 8388607

/-- A result of channel f, saturated at ±(2^23 − 1). -/
def sat (f : Nat) (x : Int) (s : State) : Int × State :=
  if x < -top ∨ top < x then (clampInt (-top) top x, s.set F.FLT_CH_STAT_SAT f) else (x, s)

/-- The square root, rounded down, found bit by bit from bit b − 1. -/
def rootBits (n : Nat) : Nat → Nat → Nat
  | 0, r => r
  | b + 1, r => if (r + 2 ^ b) * (r + 2 ^ b) ≤ n then rootBits n b (r + 2 ^ b) else rootBits n b r

/-- The square root of n/d rounded to the nearest integer, ties to even. -/
def rootHalfEven (n d : Nat) : Nat :=
  let k := rootBits (n / d) 24 0
  let mid := (2 * k + 1) * (2 * k + 1) * d
  if 4 * n < mid then k else if mid < 4 * n then k + 1 else if k % 2 = 0 then k else k + 1

/-! ### The chain -/

def chan (s : State) (f : Nat) : FltChan := Store.get {} s.flt f

def setChan (f : Nat) (c : FltChan) (s : State) : State := { s with flt := Store.put {} s.flt f c }

def order (s : State) (f : Nat) : Nat := 3 + min 2 (s.get F.FLT_CH_CFG_ORDER f)

def decimation (s : State) (f : Nat) : Nat := max 3 (s.get F.FLT_CH_CFG_DEC_M1 f) + 1

/-- CHAIN: 0 CIC alone, 1 median then CIC, 2 CIC then median; 3 acts as 0. -/
def chain (s : State) (f : Nat) : Nat := let c := s.get F.FLT_CH_CFG_CHAIN f; if c = 3 then 0 else c

def window (s : State) (f : Nat) : Nat := 3 + 2 * min 2 (s.get F.FLT_CH_CFG_MED f)

def insertSorted (x : Int) : List Int → List Int
  | [] => [x]
  | y :: l => if x ≤ y then x :: y :: l else y :: insertSorted x l

/-- The newest `n` of a history, zeros before its start. -/
def recent (n : Nat) (l : List Int) : List Int := (List.range n).map (fun i => l.getD i 0)

/-- The median of the last w values (R305). -/
def medianOf (w : Nat) (l : List Int) : Int := ((recent w l).foldr insertSorted []).getD (w / 2) 0

/-- One sample through the integrators. -/
def integrate (x : Int) : List Int → List Int
  | [] => []
  | a :: rest => (a + x) :: integrate (a + x) rest

/-- One decimated value through the combs: the output and the combs' inputs. -/
def combs (x : Int) : List Int → Int × List Int
  | [] => (x, [])
  | a :: rest => let r := combs (x - a) rest; (r.1, x :: r.2)

/-- The normalised CIC output (R304): the gain is 1 within less than 2^-16. -/
def normalise (n d : Nat) (x : Int) : Int :=
  let err : Int := (Config.cicGain n d % (2 ^ 48 - 1) : Nat) - (2 ^ 47 - 1)
  halfEven (x * ((2 ^ 63 : Nat) + err)) (d ^ n * 2 ^ 63)

/-- The median of channel f takes a value. -/
def median (f : Nat) (x : Int) (s : State) : Int × State :=
  let c := chan s f
  let m := (x :: c.median).take 7
  (medianOf (window s f) m, setChan f { c with median := m } s)

/-- The CIC of channel f takes a sample: every D samples an output. -/
def cic (f : Nat) (x : Int) (s : State) : Option Int × State :=
  let n := order s f
  let c := chan s f
  let i := integrate x (recent n c.integ)
  let p := s.get H.FLT_PHASE f + 1
  if p < decimation s f then (none, (setChan f { c with integ := i } s).put H.FLT_PHASE p f)
  else
    let r := combs (i.getD (n - 1) 0) (recent n c.comb)
    let s := (setChan f { c with integ := i, comb := r.2 } s).clr H.FLT_PHASE f
    let y := sat f (normalise n (decimation s f) r.1) s
    (some y.1, y.2)

/-- The dither sign that multiplies this sample (R307). -/
def lockSign (f : Nat) (s : State) : Int × State :=
  if s.on F.FLT_CH_CFG_LOCKIN f then
    let c := chan s f
    let signs := (s.on H.HKA_PWM_MINUS (s.get F.FLT_CH_CFG_LOCKIN_PWM f) :: c.signs).take 256
    (if signs.getD (s.get F.FLT_CH_CTRL_LOCKIN_DLY f) false then -1 else 1, setChan f { c with signs := signs } s)
  else (1, s)

/-- A value at the input of channel f goes through lock-in, median and CIC; a decimated value waits for the FIR. -/
def take (f : Nat) (x : Int) (s : State) : State :=
  let s := s.count H.FLT_SAMPLES 1 f
  let g := lockSign f s
  let a := if chain g.2 f = 1 then median f (g.1 * x) g.2 else (g.1 * x, g.2)
  match cic f a.1 a.2 with
  | (none, s) => s
  | (some y, s) =>
    let b := if chain s f = 2 then median f y s else (y, s)
    (b.2.sput H.FLT_DUE_VAL b.1 f).set H.FLT_DUE f

/-! ### FIR, cross-fade and detectors (R308, R310) -/

/-- FIR_FADE_DONE (R308): the banks change places, FADE_DONE; a held SWAP starts. -/
def fadeDone (f : Nat) (s : State) : State :=
  if s.on F.FLT_CH_STAT_FADING f && decide (s.get H.FLT_FADE_L f ≤ s.get H.FLT_FADE_I f) then
    let t := s.each 32 (fun k u => (u.put H.FLT_TAP (s.get F.FLT_FIR_C f k) f k).put F.FLT_FIR_C (s.get H.FLT_TAP f k) f k)
    let t := ((t.put F.FLT_CH_STAT_BANK (1 - t.get F.FLT_CH_STAT_BANK f) f).clr F.FLT_CH_STAT_FADING f).clr H.FLT_FADE_I f
    let t := t.setBit F.FLT_INT_CAUSE_FADE_DONE f
    if t.on F.FLT_CH_STAT_SWAP_HELD f then
      ((t.clr F.FLT_CH_STAT_SWAP_HELD f).set H.FLT_SWAP_DUE f).put H.FLT_FADE_L (16 * 2 ^ min 6 (t.get F.FLT_CH_CTRL_XFADE f)) f
    else t
  else s

/-- A due cross-fade begins with this output. -/
def fadeStart (f : Nat) (s : State) : State :=
  if s.on H.FLT_SWAP_DUE f then ((s.clr H.FLT_SWAP_DUE f).set F.FLT_CH_STAT_FADING f).clr H.FLT_FADE_I f else s

/-- FIR_SWAP (R308). -/
def swap (f : Nat) (s : State) : State :=
  if s.on F.FLT_CH_STAT_FADING f then s.set F.FLT_CH_STAT_SWAP_HELD f
  else (s.set H.FLT_SWAP_DUE f).put H.FLT_FADE_L (16 * 2 ^ min 6 (s.get F.FLT_CH_CTRL_XFADE f)) f

/-- Σ c_t x(n − t) of a bank, rounded. -/
def firSum (s : State) (bank : Field) (f : Nat) (x : List Int) : Int :=
  halfEven (((List.range 32).map (fun t => s.sget bank f t * x.getD t 0)).foldl (· + ·) 0) 65536

/-- The FIR output of channel f for a new value. -/
def fir (f : Nat) (x : Int) (s : State) : Int × State :=
  let c := chan s f
  let h := (x :: c.fir).take 32
  let s := fadeStart f (setChan f { c with fir := h } s)
  let old := sat f (firSum s H.FLT_TAP f h) s
  if old.2.on F.FLT_CH_STAT_FADING f then
    let new := sat f (firSum old.2 F.FLT_FIR_C f h) old.2
    let s := new.2
    let i := s.get H.FLT_FADE_I f + 1
    let l := s.get H.FLT_FADE_L f
    (halfEven (old.1 * ((l : Int) - (i : Int)) + new.1 * (i : Int)) l, s.put H.FLT_FADE_I i f)
  else old

/-- PEAK follows |y|, and decays after HOLD outputs without a new maximum. -/
def peak (f : Nat) (a : Int) (s : State) : State :=
  let p := s.sget F.FLT_PEAK_VAL f
  if p < a then (s.sput F.FLT_PEAK_VAL a f).clr H.FLT_HOLD_CNT f
  else if s.get H.FLT_HOLD_CNT f < s.get F.FLT_DET_CFG_HOLD f then s.count H.FLT_HOLD_CNT 1 f
  else
    let d := 2 ^ s.get F.FLT_DET_CFG_DECAY f
    s.sput F.FLT_PEAK_VAL (max a (halfEven (p * ((d : Nat) : Int) - p) d)) f

/-- RMS over blocks of 2^RMS_W outputs. -/
def rms (f : Nat) (a : Int) (s : State) : State :=
  let n := 2 ^ min 12 (s.get F.FLT_DET_CFG_RMS_W f)
  let sum := s.get H.FLT_RMS_SUM f + a.natAbs * a.natAbs
  let c := s.get H.FLT_RMS_CNT f + 1
  if c < n then (s.put H.FLT_RMS_SUM sum f).put H.FLT_RMS_CNT c f
  else ((s.clr H.FLT_RMS_SUM f).clr H.FLT_RMS_CNT f).put F.FLT_RMS_VAL (rootHalfEven sum c) f

/-- ENV, and the thresholds it crosses. -/
def envelope (f : Nat) (a : Int) (s : State) : State :=
  let e := s.sget F.FLT_ENV_VAL f
  let k := if e < a then s.get F.FLT_DET_CFG_ATK f else s.get F.FLT_DET_CFG_REL f
  let e := e + halfEven (a - e) (2 ^ k)
  let s := s.sput F.FLT_ENV_VAL e f
  if s.on F.FLT_CH_STAT_ABOVE f then
    if e < s.sget F.FLT_THR_LO_VAL f then (s.clr F.FLT_CH_STAT_ABOVE f).setBit F.FLT_INT_CAUSE_ENV_LO f else s
  else if s.sget F.FLT_THR_HI_VAL f ≤ e then (s.set F.FLT_CH_STAT_ABOVE f).setBit F.FLT_INT_CAUSE_ENV_HI f
  else s

/-- The detector value that a loop takes (R314). -/
def detector (s : State) (f det : Nat) : Int :=
  match det with
  | 0 => s.sget F.FLT_OUT_VAL f
  | 1 => s.sget F.FLT_PEAK_VAL f
  | 2 => s.sget F.FLT_RMS_VAL f
  | _ => s.sget F.FLT_ENV_VAL f

/-! ### Bias loops (R314) -/

/-- A number of u's format: unsigned ticks, or signed MHz for target 8. -/
def limitOf (target v : Nat) : Int := if target = 8 then signed 16 v else (v : Int)

/-- The target's present value. -/
def targetValue (s : State) (target : Nat) : Int :=
  if target = 8 then s.sget F.LSR_FT_OUT_MHZ 1 else (s.get F.HKA_PWM_DUTY_VAL target : Int)

/-- The target takes u. -/
def drive (target : Nat) (u : Int) (s : State) : State :=
  if target = 8 then Lsr.setFine 1 u s else s.put F.HKA_PWM_DUTY_VAL u.toNat target

/-- One update of loop b. -/
def loop (b : Nat) (s : State) : State :=
  let t := s.get F.LSR_LOOP_CFG_TARGET b
  let f := s.get F.LSR_LOOP_CFG_IN_F b
  if !s.on F.FLT_CH_STAT_VALID f then s
  else
    let e := clampInt (-8388608) 8388607 (s.sget F.LSR_LOOP_SET_SET b - detector s f (s.get F.LSR_LOOP_CFG_IN_DET b))
    let d := halfEven e (2 ^ s.get F.LSR_LOOP_CFG_KI b)
    let u := limitOf t (s.get F.LSR_LOOP_STAT_U b)
    let raw := if s.on F.LSR_LOOP_CFG_SIGN b then u - d else u + d
    let u := clampInt (limitOf t (s.get F.LSR_LOOP_LIM_MIN b)) (limitOf t (s.get F.LSR_LOOP_LIM_MAX b)) raw
    let u := if t = 8 then clampInt (-400) 400 u else u
    let s := (s.sput F.LSR_LOOP_STAT_U u b).put F.LSR_LOOP_STAT_AT_LIMIT (b01 (decide (u ≠ raw))) b
    let s := if u = raw then s else s.set F.LSR_INT_CAUSE_LOOP_LIMIT
    drive t u s

/-- The loops fed by channel f update. -/
def loops (f : Nat) (s : State) : State :=
  s.each 8 (fun b t => if t.on F.LSR_LOOP_CFG_EN b && t.get F.LSR_LOOP_CFG_IN_F b == f then loop b t else t)

/-- BIAS_LOOP_ENABLE: a write of LOOP_CFG[b]. EN is refused where MIN exceeds MAX, and reads 0 for a target above 8; u starts from the
target's present value. -/
def writeLoopCfg (b v : Nat) (s : State) : State :=
  let was := s.on F.LSR_LOOP_CFG_EN b && s.get F.LSR_LOOP_CFG_TARGET b == slice v 6 4
  let t := slice v 6 4
  let s := ((s.put F.LSR_LOOP_CFG_IN_F (slice v 1 3) b).put F.LSR_LOOP_CFG_IN_DET (slice v 4 2) b).put F.LSR_LOOP_CFG_TARGET t b
  let s := ((s.put F.LSR_LOOP_CFG_KI (slice v 10 5) b).put F.LSR_LOOP_CFG_SIGN (slice v 15 1) b).clr F.LSR_LOOP_CFG_EN b
  let s :=
    if v % 2 = 0 ∨ 8 < t then s
    else if limitOf t (s.get F.LSR_LOOP_LIM_MAX b) < limitOf t (s.get F.LSR_LOOP_LIM_MIN b) then s.set F.LSR_INT_CAUSE_CFG_ERR
    else (if was then s else (s.sput F.LSR_LOOP_STAT_U (targetValue s t) b).clr F.LSR_LOOP_STAT_AT_LIMIT b).set F.LSR_LOOP_CFG_EN b
  Lsr.showOwners s

/-! ### Events -/

/-- FLT_OUTPUT: a decimated value of channel f goes through the FIR and the detectors, and its loops update. -/
def output (f : Nat) (s : State) : State :=
  if s.on H.FLT_DUE f then
    let r := fir f (s.sget H.FLT_DUE_VAL f) (fadeDone f (s.clr H.FLT_DUE f))
    let a : Int := r.1.natAbs
    loops f (envelope f a (rms f a (peak f a (r.2.sput F.FLT_OUT_VAL r.1 f))))
  else s

/-- The value at channel f's input is sampled; an earlier output that waits is worked off first. -/
def consume (f : Nat) (s : State) : State :=
  if s.on H.FLT_IN_NEW f then take f (s.sget H.FLT_IN f) (output f (s.clr H.FLT_IN_NEW f)) else s

/-- A source of number `src` has a new value. -/
def offer (src : Nat) (x : Int) (s : State) : State :=
  s.each 8 (fun f t =>
    if t.bit F.FLT_CTRL_EN f && t.get F.FLT_CH_CFG_SRC f == src then ((consume f t).sput H.FLT_IN x f).set H.FLT_IN_NEW f else t)

/-- A result of HKA's conversion of kind `k`, entry `e`, goes to the channels it feeds (R292, R303). -/
def fromHka (k e : Nat) (s : State) : State :=
  match k with
  | 1 => offer e (s.sget H.HKA_CODE e * 256) s
  | 2 => offer 40 (s.sget H.HKA_INJ_CODE * 256) s
  | _ => s

/-- FLT_SAMPLE: channel f takes its new sample. A monitor tap gives `sum`, the sum of (code − 128)^2 over its block of 4,096 samples. -/
def sample (f sum : Nat) (s : State) : State :=
  if 8 ≤ f ∨ !s.bit F.FLT_CTRL_EN f then s
  else
    let src := s.get F.FLT_CH_CFG_SRC f
    let s := if 32 ≤ src ∧ src < 40 then
        ((consume f s).sput H.FLT_IN (halfEven (atMost (4096 * 16384) sum) 16) f).set H.FLT_IN_NEW f
      else s
    consume f s

/-- The input samples after which the step response and 31 FIR outputs have passed (R304, R305, R309). -/
def settling (s : State) (f : Nat) : Nat :=
  let d := decimation s f
  let half := (window s f - 1) / 2
  order s f * (d - 1) + 1 + 31 * d + (if chain s f = 1 then half else if chain s f = 2 then half * d else 0)

/-- FLT_VALID (R309). -/
def valid (f : Nat) (s : State) : State :=
  if f < 8 ∧ s.bit F.FLT_CTRL_EN f ∧ settling s f ≤ s.get H.FLT_SAMPLES f then s.set F.FLT_CH_STAT_VALID f else s

/-! ### Settings (R309) -/

/-- The running and the held cross-fade of channel f are abandoned. -/
def abandonFade (f : Nat) (s : State) : State :=
  ((s.clr F.FLT_CH_STAT_FADING f).clr F.FLT_CH_STAT_SWAP_HELD f).clr H.FLT_SWAP_DUE f

/-- Channel f restarts. -/
def restart (f : Nat) (s : State) : State :=
  let s := setChan f {} (abandonFade f s)
  let s := [H.FLT_IN_NEW, H.FLT_PHASE, H.FLT_SAMPLES, H.FLT_DUE, H.FLT_HOLD_CNT, H.FLT_RMS_CNT, H.FLT_RMS_SUM, F.FLT_OUT_VAL,
    F.FLT_PEAK_VAL, F.FLT_RMS_VAL, F.FLT_ENV_VAL, F.FLT_CH_STAT_ABOVE].foldl (fun t g => t.clr g f) s
  s.clr F.FLT_CH_STAT_VALID f

/-- FLT_CFG_WRITE: a write of CH_CFG[f]; a change of SRC, CHAIN, ORDER, DEC_M1, MED or LOCKIN restarts the channel. -/
def writeCfg (f v : Nat) (s : State) : State :=
  let same := s.get F.FLT_CH_CFG_SRC f == slice v 0 6 && s.get F.FLT_CH_CFG_CHAIN f == slice v 6 2 &&
    s.get F.FLT_CH_CFG_ORDER f == slice v 8 2 && s.get F.FLT_CH_CFG_DEC_M1 f == slice v 10 12 &&
    s.get F.FLT_CH_CFG_MED f == slice v 22 2 && s.get F.FLT_CH_CFG_LOCKIN f == slice v 24 1
  let s := ((s.put F.FLT_CH_CFG_SRC v f).put F.FLT_CH_CFG_CHAIN (slice v 6 2) f).put F.FLT_CH_CFG_ORDER (slice v 8 2) f
  let s := ((s.put F.FLT_CH_CFG_DEC_M1 (slice v 10 12) f).put F.FLT_CH_CFG_MED (slice v 22 2) f).put F.FLT_CH_CFG_LOCKIN (slice v 24 1) f
  let s := (s.put F.FLT_CH_CFG_LOCKIN_PWM (slice v 25 3) f).clr F.FLT_CH_CTRL_PRESET f
  if same then s else restart f s

/-- Table FLT-1: CHAIN, ORDER, DEC_M1 and, where there is a median, MED. -/
def presetRow : Nat → Option (Nat × Nat × Nat × Option Nat)
  | 1 => some (0, 2, 1023, none)
  | 2 => some (1, 1, 127, some 1)
  | 3 => some (0, 0, 15, none)
  | 4 => some (2, 0, 3, some 0)
  | _ => none

/-- FLT_PRESET: the chain settings, the compensation ROM into the active bank, a restart. -/
def preset (f p : Nat) (s : State) : State :=
  match presetRow p with
  | none => s
  | some (c, o, d, m) =>
    let s := ((s.put F.FLT_CH_CFG_CHAIN c f).put F.FLT_CH_CFG_ORDER o f).put F.FLT_CH_CFG_DEC_M1 d f
    let s := match m with
      | some m => s.put F.FLT_CH_CFG_MED m f
      | none => s
    let s := s.each 32 (fun t u => u.put H.FLT_TAP (Config.compensationRom p t) f t)
    (restart f s).put F.FLT_CH_CTRL_PRESET p f

/-- A write of CH_CTRL[f]: the settings, then PRESET and SWAP. -/
def writeCtrl (f v : Nat) (s : State) : State :=
  let s := (s.put F.FLT_CH_CTRL_XFADE (slice v 4 3) f).put F.FLT_CH_CTRL_LOCKIN_DLY (slice v 8 8) f
  let s := preset f (slice v 0 3) s
  if v.testBit 3 then swap f s else s

/-- A write of FIR[f][t]: the shadow bank, not while a fade brings it in. -/
def writeFir (f t v : Nat) (s : State) : State :=
  if s.on F.FLT_CH_STAT_FADING f then s.setBit F.FLT_INT_CAUSE_SHADOW_BUSY f else s.put F.FLT_FIR_C v f t

end Sys2Proof.Machine.Flt
end

