-- ==== Sys2Proof/Machine/Pmc.lean ====
section
/-! DEFINITION. Sys2Proof/Machine/Pmc.lean: the performance counters and the sampler (spec/13_mailboxes_and_counters.md, R284 to
R290). Every block counts its events through `event`. -/
namespace Sys2Proof.Machine.Pmc
open Sys2Proof Sys2Proof.Machine

/-- The nanoseconds of the time counter. The machine moves it at its ticks (R244); the time since the last tick is a free value below
10 ms (notes/assumptions/2.md, notes/assumptions/17.md), and whoever reads it draws it. -/
def timeLo (s : State) : Nat := s.get F.SYN_TIME_LO_VAL + s.free 24 % 10000000

/-- The time base of R288: lc counted from the SYN time counter, modulo 2^32; 1.328125 is 85/64. -/
def now (s : State) : Nat := (85 * timeLo s / 64 + 1328125000 * s.get F.SYN_TIME_HI_VAL) % 2 ^ 32

/-- Who caused an event: a master and whether its thread runs at USER privilege (R286). -/
structure Who where
  master : Nat
  user : Bool
  deriving DecidableEq, Repr

/-- The filter of group g (R286). -/
def passes (s : State) (g cls : Nat) (who : Option Who) (addr : Option Nat) : Bool :=
  s.bit F.PMC_GRP_FILT_CLASS cls g &&
  (match who with
   | none => true
   | some w =>
     (decide (96 ≤ w.master) || s.bit F.PMC_GRP_FILT_PRIV (b01 w.user) g) &&
     decide ((w.master &&& s.get F.PMC_GRP_FILT_MMASK g) = (s.get F.PMC_GRP_FILT_MASTER g &&& s.get F.PMC_GRP_FILT_MMASK g))) &&
  (match addr with
   | none => true
   | some a =>
     let base := s.get F.PMC_GRP_WIN_ADDR g 0
     let limit := s.get F.PMC_GRP_WIN_ADDR g 1
     decide (limit < base) || (decide (base ≤ a) && decide (a ≤ limit)))

/-- The trace ring: word addresses of its two parts, as (first word, words) of port 0 and port 1 (R290, R203). -/
def traceParts (s : State) : List (Nat × Nat) :=
  (List.range 2).map (fun p =>
    (p * 2 ^ 23 + s.get F.QDM_REGION_BASE p 4 * 16384,
     if s.bit F.QDM_STAT_IN_USE p then s.get F.QDM_REGION_SIZE p 4 * 16384 else 0))

def traceAddr (parts : List (Nat × Nat)) (w : Nat) : Nat :=
  match parts with
  | [(a, n), (b, _)] => if w < n then a + w else b + (w - n)
  | _ => 0

/-- Append a record to the trace ring (R290), overwriting the oldest. -/
def trace (rec : List Nat) (s : State) : State :=
  let parts := traceParts s
  let size := (parts.map Prod.snd).foldl (· + ·) 0 / 8
  if s.on F.PMC_SMP_CFG_TRACE && decide (0 < size) then
    let pos := s.get H.PMC_TRACE_POS
    let s := s.eachOf rec.zipIdx (fun x t =>
      { t with qdr := Store.put 0 t.qdr (traceAddr parts (8 * (pos % size) + x.2)) x.1 })
    s.put H.PMC_TRACE_POS ((pos + 1) % size)
  else s

/-- A record enters the ring, or is dropped where it is full (R290). -/
def record (rec : List Nat) (s : State) : State :=
  let n := s.get F.PMC_SMP_STAT_COUNT
  if n < 64 then
    let e := (s.get H.PMC_RING_HEAD + n) % 64
    let s := s.each 8 (fun w t => t.put H.PMC_RING (rec.getD w 0) e w)
    trace rec ((s.put F.PMC_SMP_STAT_COUNT (n + 1)).set F.PMC_INT_CAUSE_SMP_AVAIL)
  else trace rec ((s.count F.PMC_SMP_DROP_RING).set F.PMC_INT_CAUSE_SMP_DROP)

/-- TRACE_WRITE_TIMEOUT (R290): the record's trace write is dropped. -/
def traceTimeout (s : State) : State :=
  if s.on F.PMC_SMP_CFG_TRACE then (s.count F.PMC_SMP_DROP_TRACE).set F.PMC_INT_CAUSE_SMP_DROP else s

/-- SMP_POP (R290). -/
def pop (s : State) : State :=
  let n := s.get F.PMC_SMP_STAT_COUNT
  if n = 0 then s else (s.put F.PMC_SMP_STAT_COUNT (n - 1)).put H.PMC_RING_HEAD (s.get H.PMC_RING_HEAD + 1)

/-- SMP_RD[w]: word w of the oldest record; 0 when empty. -/
def ringWord (s : State) (w : Nat) : Nat :=
  if s.get F.PMC_SMP_STAT_COUNT = 0 then 0 else s.get H.PMC_RING (s.get H.PMC_RING_HEAD) w

/-- Counter i wraps (R289): under overflow sampling every enabled source that watches it takes a sample. ENGINE counters name an
instruction, which SAMPLE_RECORD brings; the others name none. -/
def overflow (i : Nat) (s : State) : State :=
  if s.get F.PMC_SMP_STAT_METHOD ≠ 2 then s
  else s.each 4 (fun src t =>
    if t.on F.PMC_OVF_SEL_EN src && t.get F.PMC_OVF_SEL_CNT src == i then
      let t := (t.setBit F.PMC_OVF_STAT_OVF src).set F.PMC_INT_CAUSE_OVF
      if i < 520 then ((t.set H.PMC_OVF_DUE src).put H.PMC_OVF_T (now t) src).drew
      else record [1 + 127 * 2 + src * 2 ^ 14, 0, now t, 0, 0, 0, 0, 0] t.drew
    else t)

/-- Counter i counts n (R284); 2^48 − 1 wraps to 0. -/
def add (i n : Nat) (s : State) : State :=
  if n = 0 then s
  else
    let v := s.get H.PMC_CNT i + n
    let s := s.put H.PMC_CNT v i
    if v < 2 ^ 48 then s else overflow i s

/-- An event of counter i and class `cls` (R285, R286). -/
def event (i cls : Nat) (who : Option Who) (addr : Option Nat) (s : State) : State :=
  if passes s (i / 64) cls who addr then add i 1 s else s

/-- The event that an access is, which took the machine from `s` to `t`: it is judged by the groups' filters as they stood, and its count
falls together with the access, so that a bit it sets stays set through a W1C write and is kept for the next read (R10). -/
def access (i : Nat) (who : Who) (addr : Nat) (s t : State) : State := if passes s (i / 64) 1 (some who) (some addr) then add i 1 t else t

/-- A SYSTEM event. -/
def system (i : Nat) (s : State) : State := event i 4 none none s

/-- PMC_OVERFLOW (R289): the event by which counter i goes from 2^48 − 1 to 0. -/
def wrap (i : Nat) (s : State) : State := if s.get H.PMC_CNT i = 2 ^ 48 - 1 then add i 1 s else s

/-- CNT_LO[i] read by master m (R284, R382). -/
def readLo (m i : Nat) (s : State) : Nat × State :=
  let v := s.get H.PMC_CNT i
  (v % 2 ^ 32, (s.set H.PMC_SNAP_VALID m i).put H.PMC_SNAP_HI (v / 2 ^ 32) m i)

/-- CNT_HI[i] read by master m: its snapshot, or the live bits where it holds none (R382). -/
def readHi (m i : Nat) (s : State) : Nat :=
  if s.on H.PMC_SNAP_VALID m i then s.get H.PMC_SNAP_HI m i else s.get H.PMC_CNT i / 2 ^ 32

/-- CNT_HI_WRITE (R284). -/
def writeHi (m i v : Nat) (s : State) : State := s.put H.PMC_STAGE v m i

/-- Counters that Table PMC-1 lists; the others count nothing and read 0 (R285). -/
def listed (i : Nat) : Bool := decide (i < 1252)

/-- CNT_LO_WRITE (R284): the counter takes the staged and the written value together. -/
def writeLo (m i v : Nat) (s : State) : State :=
  if listed i then s.put H.PMC_CNT (s.get H.PMC_STAGE m i * 2 ^ 32 + v % 2 ^ 32) i else s

/-- Engine e (64 the supervisor) is sampled (R288). -/
def sampled (s : State) (e : Nat) : Bool :=
  if e = 64 then s.on F.PMC_SMP_CFG_SE else s.bit F.PMC_SMP_ENG_LE (e % 32) (e / 32)

/-- The lane engines that are active: a thread in RUN, WAIT, STALL_TAG or FAULT (R287). -/
def activeEngines (s : State) : Nat :=
  ((List.range 64).filter (fun e =>
    (List.range 4).any (fun t => s.get F.ENG_THR_STAT_STATE e t != 0 && s.get F.ENG_THR_STAT_STATE e t != 5))).length

/-- The method that SMP_CFG asks for (R287). -/
def method (s : State) : Nat :=
  match s.get F.PMC_SMP_CFG_MODE with
  | 0 => 0
  | 1 => if activeEngines s ≤ 16 then 1 else 2
  | _ => 2

/-- METHOD_CHANGE (R287): once the sample in progress is complete. -/
def methodChange (s : State) : State :=
  if s.on H.PMC_FOLLOW || method s == s.get F.PMC_SMP_STAT_METHOD then s
  else (s.put F.PMC_SMP_STAT_METHOD (method s)).set F.PMC_INT_CAUSE_MODE_CHG

/-- Word 0 of a record (Table PMC-2) but for FINAL. -/
def head (meth engine thread super skid src op tagged : Nat) : Nat :=
  meth + engine % 128 * 2 + thread % 4 * 256 + super % 2 * 1024 + skid % 8 * 2048 + src % 4 * 2 ^ 14 + op % 64 * 2 ^ 16 + tagged % 2 * 2 ^ 25

/-- SAMPLE_PICK (R288): the picked instruction is followed, or the pick skipped while one is. -/
def pick (engine thread super op tagged pc tag : Nat) (s : State) : State :=
  if s.get F.PMC_SMP_STAT_METHOD ≠ 1 ∨ !sampled s engine then s
  else if s.on H.PMC_FOLLOW then s.count F.PMC_SMP_DROP_SKIP
  else
    ((((s.set H.PMC_FOLLOW).put H.PMC_FOLLOW_HEAD (head 0 engine thread super 0 0 op tagged)).put H.PMC_FOLLOW_PC
      (pc % 4096 + (if tagged = 0 then 0 else tag % 256 * 4096))).put H.PMC_FOLLOW_T (now s)).drew

/-- SAMPLE_RECORD of the followed instruction (R290): its delays, final state and target. -/
def sampleRecord (dIssue dAccept dFinal final target : Nat) (s : State) : State :=
  if s.on H.PMC_FOLLOW then
    let h := s.get H.PMC_FOLLOW_HEAD
    let tagged := h.testBit 25
    let z := fun (x : Nat) => if tagged then atMost 65535 x else 0
    record [h + (if tagged then final % 8 * 2 ^ 22 else 0), s.get H.PMC_FOLLOW_PC, s.get H.PMC_FOLLOW_T,
      atMost 65535 dIssue + z dAccept * 65536, z dFinal, target % 2 ^ 32, 0, 0] (s.clr H.PMC_FOLLOW)
  else s

/-- The sample of source src is due and names the next instruction of a thread of engine n (R289). -/
def follows (s : State) (src n : Nat) : Bool :=
  s.on H.PMC_OVF_DUE src && s.get F.PMC_OVF_SEL_CNT src / 8 == n && s.get F.PMC_OVF_SEL_CNT src % 8 != 2 && s.get F.PMC_OVF_SEL_CNT src % 8 != 3

/-- Thread t of engine n has issued seven instructions since its event, and is held from an eighth (R289). -/
def heldBack (s : State) (n t : Nat) : Bool :=
  (List.range 4).any (fun src => follows s src n && s.get H.PMC_OVF_THR src == t && s.get H.PMC_OVF_SKID src == 7)

/-- Thread t of engine n issues an instruction: the samples that are due for it count it (R289). -/
def skid (n t : Nat) (s : State) : State :=
  s.each 4 (fun src u => if follows u src n && u.get H.PMC_OVF_THR src == t then u.put H.PMC_OVF_SKID (u.get H.PMC_OVF_SKID src + 1) src else u)

/-- Counter i of engine n has taken its event from thread t; a sample that it makes due is that thread's (R289). -/
def caused (t : Nat) (was s : State) : State :=
  s.each 4 (fun src u => if u.on H.PMC_OVF_DUE src && !was.on H.PMC_OVF_DUE src then (u.put H.PMC_OVF_THR t src).clr H.PMC_OVF_SKID src else u)

/-- SAMPLE_RECORD of an overflow source whose counter belongs to an engine (R289). -/
def overflowRecord (src thread super skid op tagged pc tag final seq target : Nat) (s : State) : State :=
  if s.on H.PMC_OVF_DUE src then
    let i := s.get F.PMC_OVF_SEL_CNT src
    let j := i % 8
    let named := j = 2 ∨ j = 3
    let thread := if named then thread else s.get H.PMC_OVF_THR src
    let skid := s.get H.PMC_OVF_SKID src
    record [head 1 (i / 8) thread super (if named then 0 else skid) src op tagged +
        (if tagged = 0 then 0 else final % 8 * 2 ^ 22), pc % 4096 + (if tagged = 0 then 0 else tag % 256 * 4096),
      s.get H.PMC_OVF_T src, 0, 0, target % 2 ^ 32, if named then seq % 2 ^ 20 else 0, 0] (s.clr H.PMC_OVF_DUE src)
  else s

end Sys2Proof.Machine.Pmc
end

