-- ==== Sys2Proof/Machine/Fec.lean ====
section
/-! DEFINITION. Sys2Proof/Machine/Fec.lean: the SD-FEC (spec/04_bit_loading_and_fec.md, R85 to R93): its configuration, the coded
streams, the decoder's counters, and the base matrix of the inner code. -/
namespace Sys2Proof.Machine.Fec
open Sys2Proof Sys2Proof.Machine

/-- Base rows, information columns and the constants a and c of rate r (R86). -/
def rateParams (r : Nat) : Nat × Nat × Nat × Nat :=
  match r with
  | 0 => (27, 108, 37, 11)
  | 1 => (15, 120, 53, 29)
  | _ => (7, 128, 91, 7)

/-- The circulant at base position (i, j) of rate r: its shift, or none where it is zero (R86). -/
def circulant (r i j : Nat) : Option Nat :=
  let p := rateParams r
  let mb := p.1
  let kb := p.2.1
  if mb ≤ i then none
  else if j < kb then
    let q := mb / 3
    if i = j % mb ∨ i = (j + q) % mb ∨ i = (j + 2 * q) % mb then some ((p.2.2.1 * (i + 1) * (j + 1) + p.2.2.2 * i) % 256)
    else none
  else if j = kb + i ∨ j + 1 = kb + i then (if kb + mb ≤ j then none else some 0)
  else none

/-- FEC.QC_BASE[r][x] as it reads (R86). -/
def qcBase (r x : Nat) : Nat :=
  match circulant r (x / 135) (x % 135) with
  | some s => s
  | none => 256

/-- The superblock length in bits (R89). -/
def superblock (r : Nat) : Nat :=
  match r with
  | 0 => 3456000
  | 1 => 345600
  | _ => 864000

/-- Coded positions of one frame of a subcarrier under a loading entry: 254 pairs of shaping blocks (R88). -/
def frameBits (entry : Nat) : Nat :=
  let c := slice entry 3 2
  254 * (if c = 0 then 2 * slice entry 5 9 else 256 * (c + 1))

/-- FEC_STREAM_START (R89) for transmit subcarrier k: position 0 with B_1. -/
def startTx (k : Nat) (s : State) : State := (s.clr H.FEC_TX_POS k).clr H.FRM_CF_DUE k

/-- FEC_STREAM_START (R89) for receive subcarrier k: nothing is counted until FEC_PH has been read and a superblock begins; on a SLOT
subcarrier so for the stream of each leaf. -/
def startRx (k : Nat) (s : State) : State :=
  let s := ((s.clr H.FEC_RX_ON k).clr H.FEC_RX_WAIT k).clr H.FEC_RX_POS k
  s.each 512 (fun l t => (t.clr H.FEC_SL_ON l k).clr H.FEC_SL_WAIT l k)

/-- FEC_STREAM_START for every receive subcarrier. -/
def startRxAll (s : State) : State :=
  (((((s.wipe H.FEC_RX_ON).wipe H.FEC_RX_WAIT).wipe H.FEC_RX_POS).wipe H.FEC_SL_ON).wipe H.FEC_SL_WAIT).wipe H.FEC_SL_POS

/-- Modes that carry an SD-FEC stream: DATA and SLOT. -/
def carries (entry : Nat) : Bool := entry % 8 == 1 || entry % 8 == 3

/-- A table swap starts the streams of the subcarriers that change to DATA or SLOT from another mode (R89). -/
def swapStarts (old new : Nat) : Bool := carries new && !carries old

/-- Subcarrier k carries one stream of each leaf that it grants slots (R89). -/
def slotted (s : State) (k : Nat) : Bool := s.get H.LRX_ACTIVE k % 8 == 3

/-- The stream of subcarrier k, on a SLOT subcarrier that of leaf l, is decoded. -/
def rxOn (s : State) (k l : Nat) : Bool := if slotted s k then s.on H.FEC_SL_ON l k else s.on H.FEC_RX_ON k

/-- It has read FEC_PH and waits for a superblock boundary. -/
def rxWaits (s : State) (k l : Nat) : Bool := if slotted s k then s.on H.FEC_SL_WAIT l k else s.on H.FEC_RX_WAIT k

/-- The stream position at its next frame. -/
def rxPos (s : State) (k l : Nat) : Nat := if slotted s k then s.get H.FEC_SL_POS l k else s.get H.FEC_RX_POS k

def setRxPos (k l pos : Nat) (s : State) : State := if slotted s k then s.put H.FEC_SL_POS pos l k else s.put H.FEC_RX_POS pos k

/-- A received frame of the stream begins (R88, R89): its position moves on by the frame's share, and a stream that waits is decoded from
the superblock boundary that stands at the frame's start or lies within it. -/
def rxFrame (k l : Nat) (s : State) : State :=
  if !(rxOn s k l || rxWaits s k l) then s
  else
    let sb := superblock (s.get F.FEC_CFG_RATE_RX)
    let p := rxPos s k l
    let q := p + frameBits (s.get H.LRX_ACTIVE k)
    let s := setRxPos k l (q % sb) s
    if !(rxWaits s k l) || (p != 0 && decide (q < sb)) then s
    else if slotted s k then (s.set H.FEC_SL_ON l k).clr H.FEC_SL_WAIT l k
    else (s.set H.FEC_RX_ON k).clr H.FEC_RX_WAIT k

/-- The receiver reads FEC_PH of the stream in its frame number `idx` of the multiframe (R89), as it stood at the multiframe's first shaping
block; a stream that is decoded or waits already keeps its own count. -/
def readPhase (k l ph idx : Nat) (s : State) : State :=
  if rxOn s k l || rxWaits s k l then s
  else
    let s := setRxPos k l ((ph + idx * frameBits (s.get H.LRX_ACTIVE k)) % superblock (s.get F.FEC_CFG_RATE_RX)) s
    rxFrame k l (if slotted s k then s.set H.FEC_SL_WAIT l k else s.set H.FEC_RX_WAIT k)

/-- FEC_PH of transmit subcarrier k in its frame number `idx` of the multiframe (R89): the position at the multiframe's first shaping
block, from which the frames before have moved it. Where the stream began within the multiframe it is the position counted back, so that
the same sum holds at the receiver. -/
def txPhase (s : State) (k entry idx : Nat) : Nat :=
  let sb := superblock (s.get F.FEC_CFG_RATE_TX)
  (s.get H.FEC_TX_POS k + (sb - idx * frameBits entry % sb)) % sb

/-- Staircase information bits in one codeword's span: its information less the staircase parity, a sixteenth (R88). -/
def infoOfSpan (r : Nat) : Nat := 240 * (rateParams r).2.1

/-- Staircase information bits that stand before position `pos` of a superblock, counted with a span's parity at its end. -/
def infoBefore (r pos : Nat) : Nat := pos / 34560 * infoOfSpan r + min (pos % 34560) (infoOfSpan r)

/-- Container frames, of 48,000 bits end to end from position 0 (R149), that begin before position `pos` of a superblock. -/
def framesBefore (r pos : Nat) : Nat := ceilDiv (infoBefore r pos) 48000

/-- Container frames that begin while the stream moves by `n` from position `p` of a superblock. -/
def framesIn (r p n : Nat) : Nat :=
  let sb := superblock r
  (p + n) / sb * framesBefore r sb + framesBefore r ((p + n) % sb) - framesBefore r p

/-- A transmit frame sends its share of the stream of subcarrier k under `entry` (R88, R89); the container frames that begin within it are
due (R149). -/
def advance (k entry : Nat) (s : State) : State :=
  if entry % 8 = 1 then
    let r := s.get F.FEC_CFG_RATE_TX
    let p := s.get H.FEC_TX_POS k
    (s.put H.FEC_TX_POS ((p + frameBits entry) % superblock r) k).count H.FRM_CF_DUE (framesIn r p (frameBits entry)) k
  else s

/-- One rate field of a write to FEC.CFG (R85). -/
def writeRate (f : Field) (enabled : Bool) (v : Nat) (start : State → State) (s : State) : State :=
  if v = s.get f then s
  else if v = 3 ∨ enabled then s.set F.FEC_INT_CAUSE_CFG_ERR
  else start (s.put f v)

/-- A write to FEC.CFG, judged field by field (R85, R90). -/
def writeCfg (v : Nat) (s : State) : State :=
  let s := writeRate F.FEC_CFG_RATE_TX (s.on F.LTX_CTRL_EN) (slice v 0 2) (fun s => s.each 512 startTx) s
  let s := writeRate F.FEC_CFG_RATE_RX (s.on F.LRX_CTRL_EN) (slice v 2 2) startRxAll s
  let it := max 6 (atMost 18 (slice v 4 5))
  let s :=
    if it = s.get F.FEC_CFG_ITER_MAX then s
    else if s.on F.LRX_CTRL_EN then s.set F.FEC_INT_CAUSE_CFG_ERR
    else s.put F.FEC_CFG_ITER_MAX it
  s.put F.FEC_CFG_ET_EN (slice v 9 1)

/-- The LLRs of receive subcarrier k are valid: no LOS, phase acquired, and the subcarrier in LOCK (R51, R61, R65). -/
def llrValid (s : State) (k : Nat) : Bool :=
  s.on F.LRX_CTRL_EN && !s.on F.LRX_STAT_LOS && !s.on H.LRX_LLR_HOLD && s.get F.LRX_SC_STAT_LOCK k == 2

/-- The LLRs of subcarrier k become valid within a codeword, which then holds invalid ones (R91). -/
def validFrom (k : Nat) (s : State) : State := s.set H.FEC_PART k

/-- Bits of subcarrier k pass marked errored or invalid (R70, R91): FRM takes the mark with the container frame they belong to. -/
def mark (k : Nat) (s : State) : State := s.set H.FEC_MARK k

/-- The frames of leaf l arrive more than 2 symbols off their time (R100). -/
def late (s : State) (l : Nat) : Bool := decide (32 < (s.sget H.VLK_ARR_ERR l).natAbs)

/-- A codeword of subcarrier k, on a SLOT subcarrier of leaf l, finishes (R91, R92): `sound` says that its syndrome is zero, after `iter` iterations with
`bits` corrected; `rows` staircase rows stay uncorrected. What the decoders make of the LLRs is in `Code.lean`. A codeword with an invalid
LLR, at its end or earlier, is only counted in PM_INVAL; one of a leaf that arrives too far off counts as errored (R100). ITER_HIST counts codewords that stopped on a zero syndrome: one that is not zero
after I iterations is an LDPC failure and is not counted there (notes/assumptions/88.md). -/
def codeword (k l : Nat) (sound : Bool) (iter bits rows : Nat) (s : State) : State :=
  if !rxOn s k l then s
  else if !llrValid s k || s.on H.FEC_PART k then
    mark k (if llrValid s k then (s.clr H.FEC_PART k).count H.FEC_LIVE_INVAL 1 k else s.count H.FEC_LIVE_INVAL 1 k)
  else
    let ok := sound && !(slotted s k && late s l)
    let s := if 0 < rows || (slotted s k && late s l) then mark k s else s
    let i := if s.on F.FEC_CFG_ET_EN then atMost (s.get F.FEC_CFG_ITER_MAX) iter else s.get F.FEC_CFG_ITER_MAX
    let s := s.count H.FEC_LIVE_ROWS rows k
    let s := if Pmc.passes s ((704 + k) / 64) 3 none none then Pmc.add (704 + k) i s else s
    if ok then ((s.count H.FEC_LIVE_CW 1 k).count H.FEC_LIVE_CBITS bits k).count H.FEC_LIVE_HIST 1 i
    else s.count H.FEC_LIVE_LDPC 1 k

/-- FEC_PM_LATCH (R92) and PRE_SD (R93) of one subcarrier. One that is not judged (PM_CW = 0) shows 0 in SD_MAP: nothing of it lay above
SD_THR in that second (notes/assumptions/88.md). -/
def latchSc (k : Nat) (s : State) : State :=
  let cw := s.get H.FEC_LIVE_CW k
  let bits := s.get H.FEC_LIVE_CBITS k
  let inval := s.get H.FEC_LIVE_INVAL k
  let s := (((((s.put F.FEC_PM_CBITS_COUNT bits k).put F.FEC_PM_CBITS_HI_COUNT (bits / 2 ^ 32) k).put F.FEC_PM_CW_OK cw k).put
    F.FEC_PM_INVAL_COUNT inval k).put F.FEC_PM_FAIL_LDPC (s.get H.FEC_LIVE_LDPC k) k).put
    F.FEC_PM_FAIL_ROWS (s.get H.FEC_LIVE_ROWS k) k
  let s := ((((s.clr H.FEC_LIVE_CW k).clr H.FEC_LIVE_CBITS k).clr H.FEC_LIVE_INVAL k).clr H.FEC_LIVE_LDPC k).clr H.FEC_LIVE_ROWS k
  let exceeds := cw ≠ 0 ∧ s.get F.FEC_SD_THR_THR * cw * 34560 < bits * 1000000
  let s := s.putBit F.FEC_SD_MAP_SC (k % 32) (decide exceeds) (k / 32)
  if exceeds then s.set F.FEC_INT_CAUSE_PRE_SD else s

/-- FEC_PM_LATCH (R92): the live counters latch and restart from 0 on the one-second tick. -/
def latch (s : State) : State :=
  let s := s.each 512 latchSc
  let s := s.each 19 (fun i t => (t.put F.FEC_ITER_HIST_COUNT (t.get H.FEC_LIVE_HIST i) i).clr H.FEC_LIVE_HIST i)
  s.set F.FEC_INT_CAUSE_PM_LATCH

end Sys2Proof.Machine.Fec
end

