-- ==== Sys2Proof/Machine/PwrOps.lean ====
section
/-! DEFINITION. Sys2Proof/Machine/PwrOps.lean: the operations of PWR that other blocks call: slack monitors and the bridges they
watch, the minimum VDD_CORE, and the AVSBus request (spec/01_clockless_architecture.md, spec/17_power_reset_and_start_up.md). -/
namespace Sys2Proof.Machine.Pwr
open Sys2Proof Sys2Proof.Machine

/-- The monitors that watch a bridge (R17, Table PWR-1). Bridges 0 to 639 are those of the islands in the order of Table SYS-6;
640 to 645 are the internal bridges of monitors 2, 3, 4, 5, 6 and 13. An upstream subcarrier's bridge is watched by monitor
11 where the subcarrier is of mode SLOT or BURST, else by monitor 12. -/
def bridgeMonitor (usMode : Nat → Nat) (b : Nat) : Option Nat :=
  if b < 512 then some (if usMode b = 3 ∨ usMode b = 4 then 11 else 12)
  else if b < 528 then some 0
  else if b < 544 then some 1
  else if b < 576 then some 8
  else if b < 608 then some 7
  else if b < 616 then some 14
  else if b < 619 then some 9
  else if b < 622 then some 10
  else if b = 622 then some 15
  else if b < 640 then none
  else [some 2, some 3, some 4, some 5, some 6, some 13].getD (b - 640) none

/-- The present mode of upstream subcarrier k: bits 2 to 0 of its active entry (Table SCM-1). -/
def usMode (s : State) (k : Nat) : Nat := (if s.leaf then s.get H.LTX_ACTIVE k else s.get H.LRX_ACTIVE k) % 8

/-- The island of bridge b runs (R15): that of an upstream subcarrier that is unused (beyond N or of mode NULL) and, in leaf role,
those of host lane groups 1 to 3 are stopped and powered down with their bridges. -/
def running (s : State) (b : Nat) : Bool :=
  if b < 512 then
    decide (b ≤ s.get (if s.leaf then F.LTX_LINE_CFG_NSC_M1 else F.LRX_LINE_CFG_NSC_M1)) && usMode s b != 0
  else !(s.leaf && decide (544 ≤ b) && decide (b < 608) && decide (8 ≤ (b - 544) % 32))

def monitorOf (s : State) (b : Nat) : Option Nat := bridgeMonitor (usMode s) b

/-- Bit a of a monitor's hard-margin action: 0 transmit mute, 1 receive safe output, 2 upstream safe output, 3 peer hold
(R17, Table PWR-1). -/
def actionsOf (m : Nat) : Nat :=
  [1, 2, 2, 2, 1, 1, 2, 1, 2, 3, 3, 4, 4, 3, 8, 0].getD m 0

/-- The interrupt that every bit of SLACK_STAT and bits 7 to 4 of SAFE_STAT set. -/
def event (s : State) : State := s.set F.PWR_INT_CAUSE_SLACK

def armed (s : State) (m : Nat) : Bool := s.bit H.PWR_ARMED m

/-- Some monitor that has spent SOFT_DWELL below its SOFT margin is still below it (R18). -/
def anyStaysLow (s : State) : Bool :=
  (List.range 16).any (fun m => armed s m && s.bit H.PWR_LOW m && decide (s.get F.PWR_SLACK_LVL_NOW m < s.get F.PWR_SLACK_CFG_SOFT m))

/-- Monitor m no longer counts as below its SOFT margin once its slack is at or above it (R18). -/
def recovered (m : Nat) (s : State) : State :=
  if s.get F.PWR_SLACK_CFG_SOFT m ≤ s.get F.PWR_SLACK_LVL_NOW m then s.clrBit H.PWR_LOW m else s

/-- Monitor m shows a slack; an unarmed monitor reports 32 (R14). -/
def observe (m now : Nat) (s : State) : State :=
  let v := if armed s m then atMost 32 now else 32
  let s := recovered m (s.put F.PWR_SLACK_LVL_NOW v m)
  if v < s.get F.PWR_SLACK_LVL_MIN m then s.put F.PWR_SLACK_LVL_MIN v m else s

/-- The slacks of the monitors as they stand, first monitor 0. -/
def observeAll (levels : List Nat) (s : State) : State := s.eachOf levels.zipIdx (fun x t => observe x.2 x.1 t)

/-- Write VOUT (R352): the target in half millivolts becomes the last one requested, rounded up to a whole millivolt. -/
def request (halfMv : Nat) (s : State) : State :=
  let mv := ceilDiv halfMv 2
  let s := (s.put H.PWR_TARGET halfMv).clr H.PWR_VMIN_ASKED
  ((s.put F.PWR_VMIN_VREQ_MV mv).set F.PWR_AVS_READ_BUSY).emit (.avsWrite (s.get F.PWR_AVS_CFG_RAIL) mv)

/-- AVS_STEP in half millivolts: units of 2.5 mV, 0 acting as 1. -/
def stepHalfMv (s : State) : Nat := 5 * max 1 (s.get F.PWR_SLACK_CTRL_AVS_STEP)

def busy (s : State) : Bool := s.on F.PWR_AVS_READ_BUSY

/-- AVS_INCREASE_REQUEST (R18): up by one step, or AVS_CEILING where that would exceed 0.85 V. -/
def increase (s : State) : State :=
  if s.on F.PWR_SLACK_CTRL_AVS_AUTO && !s.on F.PWR_SAFE_STAT_AVS_FAIL && !s.on F.PWR_SAFE_STAT_AVS_CEILING && !busy s then
    let t := s.get H.PWR_TARGET + stepHalfMv s
    if t > 1700 then event (s.set F.PWR_SAFE_STAT_AVS_CEILING) else Pmc.system 1248 (request t s)
  else s

/-- Table PWR-2: symbol rate in MBd, and VDD_CORE in mV at −5, 25, 85 and 110 °C. -/
def vminRows : List (Nat × List Nat) :=
  [(60000, [620, 600, 600, 610]), (100000, [650, 630, 630, 640]), (140000, [690, 670, 660, 680]),
   (180000, [730, 710, 700, 720]), (220000, [770, 750, 740, 760]), (260000, [810, 790, 780, 800]),
   (290000, [840, 820, 810, 830])]

/-- One column of Table PWR-2 at the rate num/den MBd, interpolated linearly and rounded up to the next 5 mV (R23). -/
def vminColumn (c num den : Nat) : List (Nat × List Nat) → Nat
  | (r0, v0) :: (r1, v1) :: rest =>
    if num ≤ r0 * den then ceilDiv (v0.getD c 0) 5 * 5
    else if num < r1 * den then
      let a := v0.getD c 0
      let b := v1.getD c 0
      let d := (r1 - r0) * den
      ceilDiv (a * d + (b - a) * (num - r0 * den)) (5 * d) * 5
    else vminColumn c num den ((r1, v1) :: rest)
  | [(_, v)] => ceilDiv (v.getD c 0) 5 * 5
  | [] => 0

/-- The columns that count at a junction temperature in 1/64 °C (R23). -/
def vminColumns (t : Int) : List Nat :=
  if t ≤ -320 then [0] else if t < 1600 then [0, 1] else if t = 1600 then [1] else if t < 5440 then [1, 2]
  else if t = 5440 then [2] else if t < 7040 then [2, 3] else [3]

/-- The symbol rate that counts, as numerator and denominator in MBd (R23, R71). -/
def vminRate (s : State) : Nat × Nat :=
  let tx := s.on F.LTX_CTRL_EN
  let rx := s.on F.LRX_CTRL_EN
  let n := s.get F.LRX_LINE_CFG_NSC_M1 + 1
  if s.leaf then
    if tx || rx then
      (s.get F.LRX_LINE_CFG_BAUD_MBD * (s.get F.LRX_RXGRP_K_HI + 1 - s.get F.LRX_RXGRP_K_LO), n)
    else (60000, 1)
  else
    let a := if tx then s.get F.LTX_LINE_CFG_BAUD_MBD else 0
    let b := if rx then s.get F.LRX_LINE_CFG_BAUD_MBD else 0
    if tx || rx then (max a b, 1) else (60000, 1)

/-- PWR.VMIN.VMIN_MV (R23). -/
def vmin (s : State) : Nat :=
  let r := vminRate s
  ((vminColumns (s.sget F.HKA_DIE_HOT_TEMP)).map (fun c => vminColumn c r.1 r.2 vminRows)).foldl max 0

/-- The request of R22: the present minimum. -/
def askVmin (s : State) : State :=
  let s := request (2 * s.get F.PWR_VMIN_VMIN_MV) s
  ((s.set H.PWR_VMIN_ASKED).clr H.PWR_VMIN_WAITS).clr H.PWR_VMIN_FAILED

/-- VMIN_REQUEST (R22): the minimum is requested at once where it lies above the last request; a request in progress makes it
wait. LTX and LRX hold a rate increase meanwhile. -/
def vminRequest (s : State) : State :=
  let v := s.get F.PWR_VMIN_VMIN_MV
  if s.get F.PWR_VMIN_VREQ_MV < v then
    if busy s then s.set H.PWR_VMIN_WAITS
    else askVmin s
  else s

/-- VMIN_RECOMPUTE (R23) with the request of R22. -/
def vminRecompute (s : State) : State := vminRequest (s.put F.PWR_VMIN_VMIN_MV (vmin s))

/-- A request has ended: the one of R22 that waited is made. -/
def vminResume (s : State) : State :=
  if s.on H.PWR_VMIN_WAITS then vminRequest (s.clr H.PWR_VMIN_WAITS) else s

/-- A request of R22 is still to be acknowledged: it waits, is in progress, or timed out and is to be made again. -/
def vminOutstanding (s : State) : Bool :=
  s.on H.PWR_VMIN_WAITS || s.on H.PWR_VMIN_FAILED || (busy s && s.on H.PWR_VMIN_ASKED)

/-- The request in progress is acknowledged (R352): a waiting request of R22 is made; a rate increase is held no longer once no request of
R22 is outstanding; the increase is repeated while a monitor stays below its SOFT margin (R18). -/
def acknowledge (s : State) : State :=
  let s := s.clr F.PWR_AVS_READ_BUSY
  let s := vminResume (s.clr F.PWR_REST_STAT_WAKE_HELD)
  let s := if vminOutstanding s then s else (s.clr H.PWR_HOLD_TX).clr H.PWR_HOLD_RX
  if !busy s && anyStaysLow s then increase s else s

/-- A VOUT read shows `mv` (R352): AVS_READ takes it, and it acknowledges the request where it lies within TOL_MV. -/
def poll (mv : Nat) (s : State) : State :=
  if busy s then
    let s := s.put F.PWR_AVS_READ_MV mv
    let t := s.get F.PWR_VMIN_VREQ_MV
    let tol := max 1 (s.get F.PWR_AVS_CFG_TOL_MV)
    if mv ≤ t + tol ∧ t ≤ mv + tol then acknowledge s else s
  else s

/-- The request times out (R352): AVS_FAIL. One of R22 is made again when the host clears the bit; in the wake it holds the
device WAKING (WAKE_HELD, R365); a request of R22 that waited is made now (R22). -/
def timeout (s : State) : State :=
  if busy s then
    let s := event ((s.clr F.PWR_AVS_READ_BUSY).set F.PWR_SAFE_STAT_AVS_FAIL)
    let s := if s.on H.PWR_VMIN_ASKED then s.set H.PWR_VMIN_FAILED else s
    let s := if s.get F.PWR_REST_STAT_STATE = 3 then (s.set F.PWR_REST_STAT_WAKE_HELD).set F.PWR_INT_CAUSE_WAKE_HELD else s
    vminResume s
  else s

/-- The monitors of the bridges in a range are disarmed and report 32 (R14, R362). -/
def disarm (m : Nat) (s : State) : State :=
  ((s.clrBit H.PWR_ARMED m).clrBit H.PWR_LOW m).put F.PWR_SLACK_LVL_NOW 32 m

/-- Bridge b is prefilled and its monitor armed (R14), where its island runs (R15). -/
def prefill (b : Nat) (s : State) : State :=
  if running s b then
    let s := s.set H.PWR_PREFILLED b
    match monitorOf s b with
    | some m => s.setBit H.PWR_ARMED m
    | none => s
  else s

/-- Every bridge from `lo` on, `n` of them, has been prefilled. -/
def prefilled (s : State) (lo n : Nat) : Bool :=
  (List.range n).all (fun i => s.on H.PWR_PREFILLED (lo + i))

/-- The bridges from `lo` on, `n` of them, are empty again. -/
def drain (lo n : Nat) (s : State) : State :=
  s.each n (fun i t => t.clr H.PWR_PREFILLED (lo + i))

/-- Action a (0 to 3) is in force (PWR.SAFE_STAT). -/
def inForce (s : State) (a : Nat) : Bool :=
  [s.on F.PWR_SAFE_STAT_TX_MUTED, s.on F.PWR_SAFE_STAT_RX_SAFE, s.on F.PWR_SAFE_STAT_UP_SAFE,
   s.on F.PWR_SAFE_STAT_PEER_HELD].getD a false

/-- The monitors whose action includes path a all stand at or above their SOFT margins (R21). -/
def pathClear (s : State) (a : Nat) : Bool :=
  (List.range 16).all (fun m =>
    !(actionsOf m).testBit a || !armed s m || decide (s.get F.PWR_SLACK_CFG_SOFT m ≤ s.get F.PWR_SLACK_LVL_NOW m))

/-- RELEASE (R21): each action in force is released where its monitors allow; where one stays, RELEASE_REFUSED is set. -/
def release (s : State) : State :=
  let free := (List.range 4).filter (fun a => inForce s a && pathClear s a)
  let stays := (List.range 4).any (fun a => inForce s a && !pathClear s a)
  let s := s.eachOf free (fun a t => t.setBit H.PWR_RELEASING a)
  if stays then event (s.set F.PWR_SAFE_STAT_RELEASE_REFUSED) else s

/-- AUTO_RELEASE (R21): an action whose monitors have all held slack for 10 ms is released. -/
def autoRelease (s : State) : State :=
  if s.on F.PWR_SLACK_CTRL_AUTO_RELEASE then
    s.eachOf ((List.range 4).filter (fun a => inForce s a && pathClear s a)) (fun a t => t.setBit H.PWR_RELEASING a)
  else s

/-- AVS_DECREASE_REQUEST (R19): down by one step, never below VMIN_MV; no request where that would not lower the target, and none in REST. -/
def decrease (s : State) : State :=
  let hold := (List.range 16).all (fun m =>
    !armed s m || decide (s.get F.PWR_SLACK_CFG_SOFT m + s.get F.PWR_SLACK_CTRL_HYST ≤ s.get F.PWR_SLACK_LVL_NOW m))
  if s.on H.PWR_ARMED && s.get F.PWR_REST_STAT_STATE != 2 && hold && s.on F.PWR_SLACK_CTRL_AVS_AUTO && !s.on F.PWR_SAFE_STAT_AVS_FAIL && !busy s
      && s.get F.PWR_SLACK_CTRL_LOWER_DWELL != 0 then
    let t := max (s.get H.PWR_TARGET - stepHalfMv s) (2 * s.get F.PWR_VMIN_VMIN_MV)
    if t < s.get H.PWR_TARGET then Pmc.system 1249 (request t s) else s
  else s

/-- SLACK_LOW (R18): the alarm bit, and the increase where the device makes slack-driven requests. -/
def slackLow (m now : Nat) (s : State) : State :=
  if armed s m && decide (now < s.get F.PWR_SLACK_CFG_SOFT m) then
    increase (event (Pmc.system (1216 + m) (((observe m now s).setBit F.PWR_SLACK_STAT_LOW m).setBit H.PWR_LOW m)))
  else s

/-- A write to SLACK_CFG[m] (R24): judged with the new values, HARD keeping its value under SYS.LOCK. Whether a monitor stays below its
SOFT margin is judged by the new one (R18). -/
def writeSlackCfg (m v : Nat) (s : State) : State :=
  let soft := slice v 0 6
  let hard := if s.on F.SYS_LOCK_LOCK then s.get F.PWR_SLACK_CFG_HARD m else slice v 8 6
  if 1 ≤ hard ∧ hard < soft ∧ soft ≤ 24 then recovered m ((s.put F.PWR_SLACK_CFG_SOFT soft m).put F.PWR_SLACK_CFG_HARD hard m)
  else event (s.set F.PWR_SAFE_STAT_CFG_ERR)

/-- A write to SLACK_CTRL: the settings, then RELEASE. -/
def writeSlackCtrl (v : Nat) (s : State) : State :=
  let s := ((((s.put F.PWR_SLACK_CTRL_AVS_AUTO (slice v 0 1)).put F.PWR_SLACK_CTRL_AVS_STEP (slice v 4 4)).put
    F.PWR_SLACK_CTRL_SOFT_DWELL (slice v 8 8)).put F.PWR_SLACK_CTRL_LOWER_DWELL (slice v 16 8)).put
    F.PWR_SLACK_CTRL_AUTO_RELEASE (slice v 24 1)
  let s := s.put F.PWR_SLACK_CTRL_HYST (slice v 26 4)
  if v.testBit 25 then release s else s

/-- AVS_FAIL or AVS_CEILING has been cleared: a request of R22 that timed out is made again, at once or after the one in progress (R22);
slack-driven requests resume for a monitor that stays below its SOFT margin (R18). -/
def resume (s : State) : State :=
  let s := if s.on H.PWR_VMIN_FAILED && !s.on F.PWR_SAFE_STAT_AVS_FAIL then
      (if busy s then (s.set H.PWR_VMIN_WAITS).clr H.PWR_VMIN_FAILED else askVmin s) else s
  if !busy s && anyStaysLow s then increase s else s

/-- A write to SAFE_STAT clears the bits written 1; what a cleared AVS_FAIL or AVS_CEILING held back goes on. -/
def writeSafeStat (v : Nat) (s : State) : State :=
  let was := (v.testBit 4 && s.on F.PWR_SAFE_STAT_AVS_CEILING) || (v.testBit 5 && s.on F.PWR_SAFE_STAT_AVS_FAIL)
  let s := (((s.when (v.testBit 4) (·.clr F.PWR_SAFE_STAT_AVS_CEILING)).when (v.testBit 5)
    (·.clr F.PWR_SAFE_STAT_AVS_FAIL)).when (v.testBit 6) (·.clr F.PWR_SAFE_STAT_RELEASE_REFUSED)).when (v.testBit 7)
    (·.clr F.PWR_SAFE_STAT_CFG_ERR)
  if was then resume s else s

/-- A host write to AVS_SET (R353). -/
def writeAvsSet (v : Nat) (s : State) : State :=
  let mv := slice v 0 10
  if s.on F.PWR_SLACK_CTRL_AVS_AUTO || busy s || decide (mv < s.get F.PWR_VMIN_VMIN_MV) || decide (850 < mv) then
    s.set F.PWR_INT_CAUSE_AVS_REFUSED
  else request (2 * mv) (s.put F.PWR_AVS_SET_MV mv)

/-- A write to PMB_CMD (R353): with GO a word transaction starts; a write while one runs changes nothing. -/
def writePmbCmd (v : Nat) (s : State) : State :=
  if s.on F.PWR_PMB_CMD_GO then s
  else
    let s := ((s.put F.PWR_PMB_CMD_CODE (slice v 0 8)).put F.PWR_PMB_CMD_ADDR (slice v 8 7)).put F.PWR_PMB_CMD_READ (slice v 15 1)
    if v.testBit 31 then
      (s.set F.PWR_PMB_CMD_GO).emit
        (.pmbus (slice v 8 7) (slice v 0 8) (slice v 15 1) (if v.testBit 15 then 0 else s.get F.PWR_PMB_DATA_DATA))
    else s

/-- The transaction completes (R353): GO reads 0, a read's word is taken, and NACK shows whether it was acknowledged. -/
def pmbDone (data nack : Nat) (s : State) : State :=
  if s.on F.PWR_PMB_CMD_GO then
    let s := (s.clr F.PWR_PMB_CMD_GO).put F.PWR_PMB_DATA_NACK (b01 (nack != 0))
    if s.on F.PWR_PMB_CMD_READ && nack == 0 then s.put F.PWR_PMB_DATA_DATA data else s
  else s

end Sys2Proof.Machine.Pwr
end

