-- ==== Sys2Proof/Machine/Ltx.lean ====
section
/-! DEFINITION. Sys2Proof/Machine/Ltx.lean: the line transmit path and the converters' configuration (spec/02_line_transmit.md). -/
namespace Sys2Proof.Machine

namespace Cvt
open Sys2Proof Sys2Proof.Machine

/-- READY of every converter: its clock locked, the converter powered and calibrated (CVT.DAC_STAT, CVT.ADC_STAT, R324). -/
def refresh (s : State) : State :=
  s.each 4 (fun p t =>
    (t.putBit F.CVT_DAC_STAT_READY p (t.on F.CVT_DAC_STAT_CLK_LOCK && t.on F.CVT_DAC_CFG_EN p && t.on F.CAL_STAT_VALID)).putBit
      F.CVT_ADC_STAT_READY p (t.on F.CVT_ADC_STAT_CLK_LOCK && t.on F.CVT_ADC_CFG_EN p && t.on F.CAL_STAT_VALID))

/-- Four selectors form a permutation of 0 to 3 (R44, R49). -/
def permutes (a b c d : Nat) : Bool :=
  a != b && a != c && a != d && b != c && b != d && c != d && decide (a < 4) && decide (b < 4) && decide (c < 4) && decide (d < 4)

def dacMapped (s : State) : Bool :=
  permutes (s.get F.CVT_DAC_CFG_SRC 0) (s.get F.CVT_DAC_CFG_SRC 1) (s.get F.CVT_DAC_CFG_SRC 2) (s.get F.CVT_DAC_CFG_SRC 3)

def adcMapped (s : State) : Bool :=
  permutes (s.get F.CVT_ADC_CFG_SRC 0) (s.get F.CVT_ADC_CFG_SRC 1) (s.get F.CVT_ADC_CFG_SRC 2) (s.get F.CVT_ADC_CFG_SRC 3)

/-- A write to CVT.DAC_FS (R47): refused while LTX is enabled; a new rate unlocks the DAC clock until it locks again. -/
def writeDacFs (v : Nat) (s : State) : State :=
  if s.on F.LTX_CTRL_EN then s.set F.CVT_DAC_STAT_WRITE_REFUSED
  else if slice v 0 19 = s.get F.CVT_DAC_FS_FS_MHZ then s
  else refresh ((s.put F.CVT_DAC_FS_FS_MHZ v).clr F.CVT_DAC_STAT_CLK_LOCK)

/-- A write to CVT.ADC_FS (R49). -/
def writeAdcFs (v : Nat) (s : State) : State :=
  if s.on F.LRX_CTRL_EN then s.set F.CVT_ADC_STAT_WRITE_REFUSED
  else if slice v 0 19 = s.get F.CVT_ADC_FS_FS_MHZ then s
  else refresh ((s.put F.CVT_ADC_FS_FS_MHZ v).clr F.CVT_ADC_STAT_CLK_LOCK)

/-- The DAC clock (`dac` true) or the ADC clock locks at its FS_MHZ (R46); a rate of 0 stops the clock. -/
def clockLock (dac : Bool) (s : State) : State :=
  if dac then
    if s.get F.CVT_DAC_FS_FS_MHZ = 0 then s else refresh (s.set F.CVT_DAC_STAT_CLK_LOCK)
  else
    if s.get F.CVT_ADC_FS_FS_MHZ = 0 then s else refresh (s.set F.CVT_ADC_STAT_CLK_LOCK)

end Cvt

namespace Ltx
open Sys2Proof Sys2Proof.Machine

/-- The entry's h lies in the range of its constellation (Table LTX-1, R31). -/
def entropyOk (entry : Nat) : Bool :=
  let h := slice entry 5 9
  match slice entry 3 2 with
  | 0 => decide (96 ≤ h) && decide (h ≤ 128)
  | 1 => decide (144 ≤ h) && decide (h ≤ 256)
  | 2 => decide (224 ≤ h) && decide (h ≤ 384)
  | _ => decide (352 ≤ h) && decide (h ≤ 480)

/-- What R31, R74 and R75 ask of an entry whatever the direction, `rate` being the SD-FEC rate of it. -/
def entryOk (rate entry : Nat) : Bool :=
  let mode := entry % 8
  let c := slice entry 3 2
  let p := signed 8 (slice entry 14 8)
  decide (mode ≤ 4) && !entry.testBit 31 && decide (-60 ≤ p) && decide (p ≤ 60) &&
  (mode == 0 || mode == 4 || entropyOk entry) &&
  (mode != 2 || (c == 0 && slice entry 5 9 == 128)) &&
  ((mode != 1 && mode != 3) || c != 3 || rate != 0)

/-- The modes LTX permits in the role (Table LTX-2, R34): NULL and DATA in both, BEACON in a hub, SLOT and BURST in a leaf. -/
def modeOk (leaf : Bool) (entry : Nat) : Bool :=
  let mode := entry % 8
  mode == 0 || mode == 1 || (if leaf then mode == 3 || mode == 4 else mode == 2)

def subcarriers (s : State) : Nat := s.get F.LTX_LINE_CFG_NSC_M1 + 1

/-- The first entry of a bank that is not valid (R35); `rate` is RATE_TX. -/
def firstBad (s : State) (bank : Field) : Option Nat :=
  (List.range (subcarriers s)).find? (fun k =>
    let e := s.get bank k
    !(entryOk (s.get F.FEC_CFG_RATE_TX) e && modeOk s.leaf e))

/-- The span of a bank (R28): the whole grid in a hub; in a leaf its subcarriers that are not NULL. -/
def span (s : State) (bank : Field) : Option (Nat × Nat) :=
  if s.leaf then
    let used := (List.range (subcarriers s)).filter (fun k => s.get bank k % 8 != 0)
    match used.head?, used.getLast? with
    | some a, some b => some (a, b)
    | _, _ => none
  else some (0, subcarriers s - 1)

/-- R28 for a bank at a frequency offset in 100 kHz: 8 × F_s ≥ 9 × (W + 2 |F_ofs|), all in MHz × 100 N; a leaf's span is at most 64
subcarriers wide. -/
def spanOk (s : State) (bank : Field) (ofs : Int) : Bool :=
  match span s bank with
  | none => true
  | some (lo, hi) =>
    let n := subcarriers s
    let w := (hi + 1 - lo) * (100 + s.get F.LTX_LINE_CFG_SPACING) * s.get F.LTX_LINE_CFG_BAUD_MBD
    (!s.leaf || decide (hi + 1 - lo ≤ 64)) &&
    decide (9 * (w + 20 * n * ofs.natAbs) ≤ 800 * n * s.get F.CVT_DAC_FS_FS_MHZ)

/-- LTX_SHADOW_VALIDATE (R35): SHADOW_READY, or TABLE_ERR with the first failing subcarrier, k_hi where only R28 fails. -/
def validate (s : State) : State :=
  match firstBad s H.LTX_SHADOW with
  | some k => ((s.clr F.LTX_STAT_SHADOW_READY).set F.LTX_INT_CAUSE_TABLE_ERR).put F.LTX_STAT_ERR_SC k
  | none =>
    if spanOk s H.LTX_SHADOW (s.sget F.LTX_FREQ_OFS_OFS) then s.set F.LTX_STAT_SHADOW_READY
    else
      let hi := ((span s H.LTX_SHADOW).map Prod.snd).getD 0
      ((s.clr F.LTX_STAT_SHADOW_READY).set F.LTX_INT_CAUSE_TABLE_ERR).put F.LTX_STAT_ERR_SC hi

/-- SCM, or a LOAD_TABLE message, writes entries (subcarrier, word) into the shadow bank under a version; a locked bank ignores
them and sets SHADOW_LOCKED (R36). -/
def writeShadow (ver : Nat) (entries : List (Nat × Nat)) (s : State) : State :=
  if s.on F.LTX_STAT_ANNOUNCED then s.set F.LTX_INT_CAUSE_SHADOW_LOCKED
  else validate ((s.eachOf entries (fun x t => t.put H.LTX_SHADOW x.2 x.1)).put H.LTX_SHADOW_VER ver)

/-- The announcement of an exchange at multiframe `mf` locks the shadow bank (R36). -/
def announce (mf : Nat) (s : State) : State :=
  ((s.set F.LTX_STAT_ANNOUNCED).set H.LTX_SWAP_DUE).put H.LTX_SWAP_MF mf

/-- Mute source b appears (R45): the DACs go to mid-scale. -/
def mute (b : Nat) (s : State) : State := (s.setBit F.LTX_STAT_MUTE_SRC b).clr H.LTX_OUTPUT

/-- Mute source b clears (R45); the output resumes at the next frame without a source. -/
def unmute (b : Nat) (s : State) : State := s.clrBit F.LTX_STAT_MUTE_SRC b

/-- The frame counters run and no mute source is left: the output resumes (R45). A DAC whose bridge has not been prefilled since it
last stopped puts out mid-scale (R14). -/
def resume (s : State) : State :=
  if s.on F.FRM_CTRL_TX_EN && s.get F.LTX_STAT_MUTE_SRC == 0 && Pwr.prefilled s 512 16 then s.set H.LTX_OUTPUT else s

/-- LTX.CTRL.MUTE takes a value (R45, source 0). -/
def setMute (v : Nat) (s : State) : State :=
  let s := s.put F.LTX_CTRL_MUTE v
  if v % 2 = 1 then mute 0 s else unmute 0 s

/-- A write of LTX.CTRL.MUTE; while PEER holds it at 1 (R342, R345) the value waits. -/
def hostMute (v : Nat) (s : State) : State :=
  if s.on H.PEER_MUTE_HELD then s.put H.PEER_MUTE_WAS v else setMute v s

/-- The checks of R46 in order; 0 where all pass. -/
def check (s : State) : Nat :=
  let b := s.get F.LTX_LINE_CFG_BAUD_MBD
  let sp := s.get F.LTX_LINE_CFG_SPACING
  let fs := s.get F.CVT_DAC_FS_FS_MHZ
  if b < 60000 ∨ 290000 < b then 1
  else if sp < 1 ∨ 10 < sp then 2
  else if !s.on F.CVT_DAC_STAT_CLK_LOCK then 3
  else if fs < 4000 ∨ 340000 < fs then 4
  else if (firstBad s H.LTX_ACTIVE).isSome || !spanOk s H.LTX_ACTIVE (s.sget F.LTX_FREQ_OFS_OFS) then 5
  else if !Cvt.dacMapped s then 6
  else 0

/-- LTX.CTRL.EN written 1 (R46). On success every stream starts (R89), the minimum VDD_CORE is recomputed (R23), and the rate
increase waits for a request that this makes (R22). MAP_ERR is set where the permutation of R44 is the first check to fail: the spec does not
say whether it is set beside an earlier failure (notes/assumptions/86.md). -/
def enable (s : State) : State :=
  if s.on F.LTX_CTRL_EN then s
  else
    let c := check s
    if c = 0 then
      let s := ((s.set F.LTX_CTRL_EN).clr F.LTX_STAT_CFG_STEP).put H.LTX_OFS_NOW (s.get F.LTX_FREQ_OFS_OFS)
      let s := Pwr.vminRecompute (s.each 512 Fec.startTx)
      if s.get F.PWR_VMIN_VMIN_MV > 0 && Pwr.busy s && (s.on H.PWR_VMIN_ASKED || s.on H.PWR_VMIN_WAITS) then s.set H.PWR_HOLD_TX
      else s
    else
      let s := (s.set F.LTX_INT_CAUSE_CFG_ERR).put F.LTX_STAT_CFG_STEP c
      if c = 6 then s.set F.CVT_DAC_STAT_MAP_ERR else s

/-- An enabled LTX starts with symbol 0 of the next frame of FRM's transmit counters (R46): its DAC bridges are prefilled, the
counters run and no rate increase is held. -/
def start (s : State) : State :=
  if s.on F.LTX_CTRL_EN && !s.on F.LTX_STAT_ACTIVE && s.on F.FRM_CTRL_TX_EN && Pwr.prefilled s 512 16 && !s.on H.PWR_HOLD_TX then
    resume (unmute 3 (s.set F.LTX_STAT_ACTIVE))
  else s

/-- LOAD_CANCELLED (R37): an announced change is cancelled at the transmitter; SCM's direction returns to IDLE (Table SCM-4). -/
def cancel (s : State) : State :=
  if s.on F.LTX_STAT_ANNOUNCED then
    let s := ((s.clr F.LTX_STAT_ANNOUNCED).clr F.LTX_STAT_SHADOW_READY).clr H.LTX_SWAP_DUE
    let s := s.set F.LTX_INT_CAUSE_LOAD_CANCELLED
    if !s.leaf && s.get F.SCM_CHG_STAT_DS_STATE == 2 then s.clr F.SCM_CHG_STAT_DS_STATE else s
  else s

/-- LTX.CTRL.EN written 0 (R37, R47): an announced change is cancelled; of an enabled LTX the output is muted at once under source 3, the
active bank kept. -/
def disable (s : State) : State :=
  let s := cancel s
  if s.on F.LTX_CTRL_EN then
    Pwr.vminRecompute ((((mute 3 s).clr F.LTX_CTRL_EN).clr F.LTX_STAT_ACTIVE).clr H.PWR_HOLD_TX)
  else s

/-- The exchange of the loading banks (R36), all 512 entries of each; the streams of changed subcarriers start anew (R89). -/
def swap (s : State) : State :=
  let n := subcarriers s
  let s := s.each 512 (fun k t =>
    let a := t.get H.LTX_ACTIVE k
    let b := t.get H.LTX_SHADOW k
    let t := (t.put H.LTX_ACTIVE b k).put H.LTX_SHADOW a k
    if decide (k < n) && Fec.swapStarts a b then Fec.startTx k t else t)
  let va := s.get H.LTX_ACT_VER
  let s := (s.put H.LTX_ACT_VER (s.get H.LTX_SHADOW_VER)).put H.LTX_SHADOW_VER va
  let s := (s.put F.LTX_STAT_BANK (1 - s.get F.LTX_STAT_BANK)).set F.LTX_INT_CAUSE_LOAD_SWAP
  ((s.clr F.LTX_STAT_SHADOW_READY).clr F.LTX_STAT_ANNOUNCED).clr H.LTX_SWAP_DUE

/-- A write to LTX.LINE_CFG (R47). -/
def writeLineCfg (v : Nat) (s : State) : State :=
  if s.on F.LTX_CTRL_EN then s.set F.LTX_INT_CAUSE_CFG_ERR
  else ((s.put F.LTX_LINE_CFG_BAUD_MBD (slice v 0 19)).put F.LTX_LINE_CFG_SPACING (slice v 19 4)).put F.LTX_LINE_CFG_NSC_M1 (slice v 23 9)

/-- The frequency offset `v` (16 bits) keeps R28 with the active and with the shadow bank (R38). -/
def offsetOk (s : State) (v : Nat) : Bool :=
  spanOk s H.LTX_ACTIVE (signed 16 v) && spanOk s H.LTX_SHADOW (signed 16 v)

/-- A write to LTX.FREQ_OFS (R38). -/
def writeFreqOfs (v : Nat) (s : State) : State :=
  if offsetOk s (v % 65536) then (s.put F.LTX_FREQ_OFS_OFS v).set H.LTX_OFS_PENDING
  else s.set F.LTX_INT_CAUSE_CFG_ERR

/-- The accepted offset takes effect at the next 4,096-sample block boundary (R38). -/
def applyFreqOfs (s : State) : State :=
  if s.on H.LTX_OFS_PENDING then (s.clr H.LTX_OFS_PENDING).put H.LTX_OFS_NOW (s.get F.LTX_FREQ_OFS_OFS) else s

/-- |D| ≤ D_max(B) (R39), D in ps/nm and B in MBd. -/
def withinDmax (d b : Nat) : Bool := decide (d ≤ 1200000) && decide (d * (b * b) ≤ 160000 * (290000 * 290000))

/-- The blocks of 4,096 samples that a cross-fade lasts: 2^K, K below 2 acting as 2 and above 10 as 10 (R40, R53). -/
def fadeBlocks (k : Nat) : Nat := 2 ^ min 10 (max 2 k)

/-- A cross-fade to the response for D starts; its length is the present K's. -/
def startFade (d : Nat) (s : State) : State :=
  ((s.set F.LTX_STAT_CD_FADING).put H.LTX_D_FADE d).put H.LTX_FADE_LEN (fadeBlocks (s.get F.LTX_CDPRE_CTRL_K))

/-- A write of LTX.CDPRE_CTRL.GO (R40): a fade to the response for D starts, or is held while one runs; a value outside ±D_max is
ignored with CD_RANGE (R39). In leaf role the stage is not available: GO starts nothing and sets ROLE_LIMIT (notes/assumptions/86.md). -/
def cdpreGo (s : State) : State :=
  if s.leaf then s.set F.SYS_INT_CAUSE_ROLE_LIMIT
  else if !withinDmax (s.sget F.LTX_CDPRE_D).natAbs (s.get F.LTX_LINE_CFG_BAUD_MBD) then s.set F.LTX_INT_CAUSE_CD_RANGE
  else if s.on F.LTX_STAT_CD_FADING then (s.set H.LTX_GO_HELD).put H.LTX_D_HELD (s.get F.LTX_CDPRE_D)
  else startFade (s.get F.LTX_CDPRE_D) s

/-- The cross-fade ends once its blocks have passed (R40): CD_DONE, and a held GO starts. -/
def cdpreDone (blocks : Nat) (s : State) : State :=
  if s.on F.LTX_STAT_CD_FADING && decide (s.get H.LTX_FADE_LEN ≤ blocks) then
    let s := ((s.clr F.LTX_STAT_CD_FADING).put H.LTX_D_NOW (s.get H.LTX_D_FADE)).set F.LTX_INT_CAUSE_CD_DONE
    if s.on H.LTX_GO_HELD then startFade (s.get H.LTX_D_HELD) (s.clr H.LTX_GO_HELD) else s
  else s

/-- A write to LTX.CDPRE: not available in leaf role (R39). -/
def writeCdpre (v : Nat) (s : State) : State :=
  if s.leaf then s.set F.SYS_INT_CAUSE_ROLE_LIMIT else s.put F.LTX_CDPRE_D v

/-- A write to LTX.CDPRE_CTRL. -/
def writeCdpreCtrl (v : Nat) (s : State) : State :=
  let s := s.put F.LTX_CDPRE_CTRL_K (slice v 0 4)
  if v.testBit 4 then cdpreGo s else s

/-- A write to LTX.SKEW[d] (R41): a slew towards the new value runs until every lane has arrived. -/
def writeSkew (d v : Nat) (s : State) : State :=
  let s := s.put F.LTX_SKEW_SKEW v d
  if (List.range 4).all (fun i => s.get F.LTX_SKEW_SKEW i == s.get H.LTX_SKEW_NOW i) then s.clr F.LTX_STAT_SKEW_SLEW
  else s.set F.LTX_STAT_SKEW_SLEW

/-- A skew moved towards its target by at most n steps. -/
def approach (n : Nat) (now target : Int) : Int := now + clampInt (-(n : Int)) n (target - now)

/-- Blocks of 4,096 samples pass: each lane moves by 1/64 ps in each until it reaches its value; SKEW_SLEW clears when all have (R41). -/
def skewBlocks (n : Nat) (s : State) : State :=
  let s := s.each 4 (fun d t => t.sput H.LTX_SKEW_NOW (approach n (t.sget H.LTX_SKEW_NOW d) (t.sget F.LTX_SKEW_SKEW d)) d)
  if (List.range 4).all (fun i => s.get F.LTX_SKEW_SKEW i == s.get H.LTX_SKEW_NOW i) then s.clr F.LTX_STAT_SKEW_SLEW else s

/-- The pre-emphasis banks of all four lanes exchange (R42). -/
def peqApply (s : State) : State :=
  if s.on F.LTX_STAT_PEQ_PENDING then
    let s := s.each 4 (fun d t => t.each 15 (fun x u =>
      let a := u.get H.LTX_PEQ_ACTIVE d x
      (u.put H.LTX_PEQ_ACTIVE (u.get F.LTX_PEQ_TAP d x) d x).put F.LTX_PEQ_TAP a d x))
    s.clr F.LTX_STAT_PEQ_PENDING
  else s

/-- The pre-distortion banks of all four lanes exchange (R43). -/
def pdApply (s : State) : State :=
  if s.on F.LTX_STAT_PD_PENDING then
    let s := s.each 4 (fun d t => t.each 65 (fun x u =>
      let a := u.get H.LTX_PD_ACTIVE d x
      (u.put H.LTX_PD_ACTIVE (u.get F.LTX_PD_LUT_Y d x) d x).put F.LTX_PD_LUT_Y a d x))
    s.clr F.LTX_STAT_PD_PENDING
  else s

/-- PEQ_SWAP and PD_SWAP (R42, R43): the exchange is requested; a request that waits already takes this one in. -/
def peqRequest (s : State) : State := s.set F.LTX_STAT_PEQ_PENDING
def pdRequest (s : State) : State := s.set F.LTX_STAT_PD_PENDING

/-- A write to LTX.CTRL: mute, bank swaps, then the enable. -/
def writeCtrl (v : Nat) (s : State) : State :=
  let s := hostMute (slice v 1 1) s
  let s := s.when (v.testBit 4) peqRequest
  let s := s.when (v.testBit 5) pdRequest
  if v.testBit 0 then enable s else disable s

/-- Samples of lane d reach full scale and are clipped (R43). -/
def clip (d n : Nat) (s : State) : State :=
  if n = 0 then s else (s.count F.LTX_CLIP_CNT_COUNT n d).set F.LTX_INT_CAUSE_CLIP

/-- The DAC code of a pre-distorted value y, given as y × 2048 (R43): 128 + round(128 y), half to even. `Line.code` gives it of any
value. -/
def dacCode (y2048 : Int) : Nat :=
  let y := clampInt (-2048) 2032 y2048
  let q := y / 16
  let r := y % 16
  let q := if r > 8 ∨ (r = 8 ∧ q % 2 = 1) then q + 1 else q
  (128 + q).toNat

/-- The code lane mapping and polarity give physical DAC p for the codes of the four logical lanes (R44); mid-scale while the
output is muted (R45). -/
def dacOutput (s : State) (codes : List Nat) (p : Nat) : Nat :=
  let c := if s.on H.LTX_OUTPUT then codes.getD (s.get F.CVT_DAC_CFG_SRC p) 128 else 128
  if s.on F.CVT_DAC_CFG_INV p then 255 - c else c

end Ltx
end Sys2Proof.Machine
end

