-- ==== Sys2Proof/Machine/Cal.lean ====
section
/-! DEFINITION. Sys2Proof/Machine/Cal.lean: calibration runs and the calibration set (spec/15_calibration_and_self_test.md, R316 to R326).
What an element measures is the operand of the command that ends the run; what its trims can cancel is held with the selection. -/
namespace Sys2Proof.Machine.Cal
open Sys2Proof Sys2Proof.Machine

/-- CAL.STAT.STATE: 0 IDLE, 1 HKA, 2 SINE, 3 PASS1, 4 PASS2, 5 FLASH. -/
def state (s : State) : Nat := s.get F.CAL_STAT_STATE

def track (s : State) : Bool := s.on F.CAL_STAT_TYPE

def lineOn (s : State) : Bool := s.on F.LTX_CTRL_EN || s.on F.LRX_CTRL_EN

/-- The conditions of R318 for a run of a type, and the life cycle's (R331). -/
def allowed (s : State) (isTrack : Bool) : Bool :=
  s.get F.LCM_STATE_STATE != 5 && s.on F.CVT_ADC_STAT_CLK_LOCK &&
  (isTrack || (!lineOn s && s.on F.CVT_DAC_STAT_CLK_LOCK))

/-- A self-test slice holds the converters: ALOOP or BANDGAP (R326). -/
def sliceHolds (s : State) : Bool :=
  s.on F.BST_STAT_BUSY && !s.on H.BST_WAITING && (s.get F.BST_STAT_CUR == 2 || s.get F.BST_STAT_CUR == 3)

/-- A run starts (R323: the time and the temperature as they stand). -/
def start (isTrack host : Bool) (s : State) : State :=
  let s := ((s.put F.CAL_STAT_STATE 1).put F.CAL_STAT_TYPE (b01 isTrack)).put H.CAL_HOST (b01 host)
  let s := ((s.put H.CAL_T0 (s.get F.SYN_TIME_HI_VAL)).sput H.CAL_TEMP0 (s.sget F.HKA_DIE_TEMP_TEMP 4)).clr H.CAL_PASSED
  Hka.requestCal s

/-- GO_FULL and GO_TRACK (R318, R326). -/
def go (isTrack : Bool) (s : State) : State :=
  if state s ≠ 0 ∨ sliceHolds s ∨ !allowed s isTrack then s.set F.CAL_INT_CAUSE_BUSY else start isTrack true s

/-- The run ends without new values: an automatic one waits RETRY_S (R325). -/
def endBad (s : State) : State :=
  let s := Hka.releaseCal s
  (if s.on H.CAL_HOST then s else s.set H.CAL_RETRY).clr F.CAL_STAT_STATE

/-- The run in progress is abandoned; the values in use are kept. -/
def abandon (s : State) : State :=
  if 1 ≤ state s ∧ state s ≤ 4 then endBad (s.set F.CAL_INT_CAUSE_ABORTED) else s

/-- LTX or LRX has been enabled: a FULL run is abandoned (R318). -/
def lineEnabled (s : State) : State := if lineOn s && !track s then abandon s else s

/-- CAL_ABORT: abandons a run in its passes (Table CAL-1). -/
def abort (s : State) : State := if state s = 3 ∨ state s = 4 then abandon s else s

/-- The automatic run that the present enables ask for (R325). -/
def autoStart (s : State) : State :=
  let t := lineOn s
  if !allowed s t then s
  else if sliceHolds s then s.set H.CAL_AUTO_PEND
  else start t false (s.clr H.CAL_AUTO_PEND)

/-- A background scan has ended (R325): the temperature against LAST_TEMP. -/
def temperature (s : State) : State :=
  let d := (s.sget F.HKA_DIE_TEMP_TEMP 4 - s.sget F.CAL_LAST_TEMP_VAL).natAbs
  if s.on F.CAL_CTRL_AUTO && s.on F.CAL_STAT_VALID && state s == 0 && !s.on H.CAL_RETRY &&
      decide (64 * s.get F.CAL_DELTA_T_VAL < d) then autoStart s
  else s

/-- CAL_RETRY_EXPIRY. -/
def retryExpiry (s : State) : State := s.clr H.CAL_RETRY

/-- A self-test slice that held the converters has ended. -/
def sliceEnded (s : State) : State :=
  if s.on H.CAL_AUTO_PEND && state s == 0 then autoStart (s.clr H.CAL_AUTO_PEND) else s

/-- HKA_CAL_DONE (R298, R317): `sum` of the 512 channel-23 conversions; HKA is released, and the mean judged. -/
def hkaDone (sum : Int) (s : State) : State :=
  if !s.on F.HKA_STAT_CAL_HOLD then s
  else
    let s := Hka.releaseCal s
    if state s ≠ 1 then s
    else if (sum - 4096 * 512).natAbs ≤ 8 * 512 then s.put F.CAL_STAT_STATE 2
    else endBad (s.set F.CAL_INT_CAUSE_NOREF)

/-- SINE_CHECK (R317): the tone ADC 0's tap showed within 1 ms, in mV peak-to-peak, 0 for none. -/
def sine (mvpp : Nat) (s : State) : State :=
  if state s ≠ 2 then s
  else if 80 ≤ mvpp then s.put F.CAL_STAT_STATE 3
  else endBad (s.set F.CAL_INT_CAUSE_NOREF)

/-- CAL_PASS_END (R319). -/
def passEnd (s : State) : State :=
  if state s = 3 then s.put F.CAL_STAT_STATE 4
  else if state s = 4 then s.set H.CAL_PASSED
  else s

/-! ### Agreement and choice (R320 to R322) -/

/-- A difference between the passes above its limit: the quantity and the difference. -/
def apart (q limit : Nat) (x : Int × Int) : Option (Nat × Nat) :=
  let d := (x.1 - x.2).natAbs
  if limit < d then some (q, d) else none

/-- The first quantity on which an element disagrees (R322): gain, offset, skew. -/
def disagrees (gain ofs skew : Int × Int) : Option (Nat × Nat) :=
  (apart 0 20 gain).or ((apart 1 20 ofs).or (apart 2 50 skew))

/-- The first disagreement of a run: DAC bit, converter, element, quantity and difference. -/
def firstApart (isTrack : Bool) (adc : List (List SubSlice)) (dac : List DacLane) : Option (Nat × Nat × Nat × Nat × Nat) :=
  let a := adc.zipIdx.findSome? (fun x => x.1.zipIdx.findSome? (fun y =>
    (disagrees y.1.gain y.1.ofs y.1.skew).map (fun r => (0, x.2, y.2, r.1, r.2))))
  let d := dac.zipIdx.findSome? (fun x =>
    ((disagrees x.1.gain x.1.ofs (0, 0)).map (fun r => (1, x.2, 0, r.1, r.2))).or
      (if isTrack then none
       else x.1.cells.zipIdx.findSome? (fun y => (apart 1 200 y.1).map (fun r => (1, x.2, y.2, r.1, r.2 / 10)))))
  a.or d

/-- Twice the mean of two passes. -/
def both (x : Int × Int) : Int := x.1 + x.2

/-- R320: the measured errors lie within the trim ranges. -/
def usable (e : SubSlice) : Bool :=
  decide ((both e.gain).natAbs ≤ 600) && decide ((both e.ofs).natAbs ≤ 240) && decide ((both e.skew).natAbs ≤ 1200)

/-- R320: the worst of the residuals in steps of 0.2 %, 2 LSB and 50 fs, times 200. -/
def score (e : SubSlice) : Nat := max (10 * e.resGain) (max (25 * e.resOfs) (4 * e.resSkew))

/-- `a` comes before `b` in the choice: usable ones first, then the smaller residual, then the lower index. -/
def before (a b : SubSlice × Nat) : Bool :=
  if usable a.1 = usable b.1 then decide (score a.1 < score b.1) || (score a.1 == score b.1 && decide (a.2 ≤ b.2)) else usable a.1

def rank (x : SubSlice × Nat) : List (SubSlice × Nat) → List (SubSlice × Nat)
  | [] => [x]
  | y :: l => if before x y then x :: y :: l else y :: rank x l

/-- The 128 best of an ADC's sub-slices. -/
def chosen (l : List SubSlice) : List (SubSlice × Nat) := (l.zipIdx.foldr rank []).take 128

/-- The largest of a list. -/
def worst (l : List Nat) : Nat := l.foldl max 0

/-- ADC p takes its new selection and trims (R320). -/
def applyAdc (p : Nat) (l : List SubSlice) (s : State) : State :=
  let c := chosen l
  let n := (l.filter usable).length
  let s := s.each 144 (fun e t => (((t.clr H.CAL_ADC_SEL p e).clr H.CAL_ADC_TRIM p e 0).clr H.CAL_ADC_TRIM p e 1).clr H.CAL_ADC_TRIM p e 2)
  let s := s.eachOf c (fun x t =>
    (((t.set H.CAL_ADC_SEL p x.2).sput H.CAL_ADC_TRIM (both x.1.gain) p x.2 0).sput H.CAL_ADC_TRIM (both x.1.ofs) p x.2 1).sput
      H.CAL_ADC_TRIM (both x.1.skew) p x.2 2)
  let s := (s.put F.CAL_ADC_STAT_SPARES_FREE (n - 128) p).put F.CAL_ADC_STAT_SHORT (b01 (decide (n < 128))) p
  let s := s.put F.CAL_ADC_STAT_WORST_GAIN (atMost 255 (worst (c.map (fun x => x.1.resGain)))) p
  let s := s.put F.CAL_ADC_STAT_WORST_OFS (atMost 255 (worst (c.map (fun x => x.1.resOfs)))) p
  let s := s.put F.CAL_ADC_STAT_WORST_SKEW (atMost 255 (worst (c.map (fun x => x.1.resSkew)))) p
  if n < 128 then s.set F.CAL_INT_CAUSE_REPAIR else s

/-- The cell's current, twice the mean of the passes times the number of cells, lies within 0.5 LSB of the mean (R321). -/
def cellGood (l : List (Int × Int)) (c : Int × Int) : Bool :=
  let n : Int := l.length
  decide (((both c) * n - (l.map both).foldl (· + ·) 0).natAbs ≤ 100 * l.length)

/-- The distance of a cell from the mean, in the same units. -/
def cellError (l : List (Int × Int)) (c : Int × Int) : Nat :=
  ((both c) * (l.length : Int) - (l.map both).foldl (· + ·) 0).natAbs

/-- The bad regular cell with the smallest error, by index. -/
def keepOne (l : List (Int × Int)) (bad : List Nat) : Option Nat :=
  bad.foldl (fun a e => match a with
    | none => some e
    | some b => if cellError l (l.getD e (0, 0)) < cellError l (l.getD b (0, 0)) then some e else some b) none

/-- `n` of the bad cells, smallest error first. -/
def keepBest (l : List (Int × Int)) : Nat → List Nat → List Nat
  | 0, _ => []
  | n + 1, bad => match keepOne l bad with
    | none => []
    | some e => e :: keepBest l n (bad.filter (· ≠ e))

/-- DAC p's unit cells after a FULL run (R321): the good regular cells, good spares in the places of the others, and where the spares run
out the cells with the smallest error. -/
def applyCells (p : Nat) (l : List (Int × Int)) (s : State) : State :=
  let good := fun e => cellGood l (l.getD e (0, 0))
  let keep := (List.range 63).filter good
  let spares := ((List.range 8).map (· + 63)).filter (fun e => good e)
  let fill := spares.take (63 - keep.length)
  let short := 63 - keep.length - fill.length
  let rest := keepBest l short ((List.range 71).filter (fun e => !good e))
  let s := s.each 71 (fun e t => t.clr H.CAL_DAC_SEL p e)
  let s := s.eachOf (keep ++ fill ++ rest) (fun e t => t.set H.CAL_DAC_SEL p e)
  let s := (s.put F.CAL_DAC_STAT_SPARES_FREE (spares.length - fill.length) p).put F.CAL_DAC_STAT_SHORT (b01 (decide (0 < short))) p
  if 0 < short then s.set F.CAL_INT_CAUSE_REPAIR else s

/-- DAC p's gain and offset trims (R318, R321). -/
def applyLane (p : Nat) (d : DacLane) (s : State) : State :=
  let s := (s.sput H.CAL_DAC_TRIM (both d.gain) p 0).sput H.CAL_DAC_TRIM (both d.ofs) p 1
  (s.put F.CAL_DAC_STAT_WORST_GAIN (atMost 255 d.resGain) p).put F.CAL_DAC_STAT_WORST_OFS (atMost 255 d.resOfs) p

/-- CAL_RUN_END (R322, R323): the passes agree and the new values are applied, or the run is refused. -/
def runEnd (adc : List (List SubSlice)) (dac : List DacLane) (s : State) : State :=
  if state s ≠ 4 ∨ !s.on H.CAL_PASSED then s
  else match firstApart (track s) adc dac with
    | some (d, p, e, q, diff) =>
      let s := ((s.put F.CAL_DIS_STAT_QTY q).put F.CAL_DIS_STAT_DAC d).put F.CAL_DIS_STAT_P p
      let s := (s.put F.CAL_DIS_STAT_ELEM e).put F.CAL_DIS_STAT_DIFF (atMost 65535 diff)
      endBad (s.set F.CAL_INT_CAUSE_CAL_DISAGREE)
    | none =>
      let s := s.eachOf (adc.take 4).zipIdx (fun x t => applyAdc x.2 x.1 t)
      let s := s.eachOf (dac.take 4).zipIdx (fun x t => applyLane x.2 x.1 (if track t then t else applyCells x.2 x.1.cells t))
      let s := (s.countWrap F.CAL_COUNT_VAL).put F.CAL_LAST_TIME_VAL (s.get H.CAL_T0)
      let s := s.put F.CAL_LAST_TEMP_VAL (unsigned 32 (s.sget H.CAL_TEMP0))
      let s := ((s.set F.CAL_STAT_SOURCE).set F.CAL_STAT_VALID).set F.CAL_INT_CAUSE_DONE
      let s := (s.put F.CAL_STAT_STATE 5).set F.CAL_STAT_FLASH_BUSY
      Cvt.refresh (Flash.erase 0x80000 0x84000 s)

/-! ### The calibration sector (R323, R324; its layout in notes/assumptions/18.md) -/

/-- The words of the set but for the closing CRC. -/
def setWords (s : State) : List Nat :=
  [s.get F.CAL_COUNT_VAL, s.get F.CAL_LAST_TIME_VAL, s.get F.CAL_LAST_TEMP_VAL, s.get F.CAL_STAT_SOURCE] ++
  (List.range 4).flatMap (fun p => (List.range 144).flatMap (fun e =>
    [s.get H.CAL_ADC_SEL p e, s.get H.CAL_ADC_TRIM p e 0, s.get H.CAL_ADC_TRIM p e 1, s.get H.CAL_ADC_TRIM p e 2])) ++
  (List.range 4).flatMap (fun p => (List.range 71).map (fun e => s.get H.CAL_DAC_SEL p e) ++ [s.get H.CAL_DAC_TRIM p 0, s.get H.CAL_DAC_TRIM p 1])

/-- CAL_FLASH_DONE (R323): the write ends and is verified or not. -/
def flashDone (ok : Bool) (s : State) : State :=
  if !s.on F.CAL_STAT_FLASH_BUSY then s
  else
    let s := (s.clr F.CAL_STAT_FLASH_BUSY).clr F.CAL_STAT_STATE
    if ok then
      let w := setWords s
      Flash.program 0x80000 (w ++ [Flash.crc32c w]) s
    else s.set F.CAL_INT_CAUSE_FLASH_ERR

/-- The set is loaded at a reset that loads an image (R324). -/
def load (s : State) : State :=
  let w := Flash.readWords s 0x80000 setLength
  if Flash.crc32c w ≠ Flash.read s (0x80000 + setLength) then
    Cvt.refresh ((s.set F.CAL_STAT_FLASH_BAD).clr F.CAL_STAT_VALID)
  else
    let s := ((s.put F.CAL_COUNT_VAL (w.getD 0 0)).put F.CAL_LAST_TIME_VAL (w.getD 1 0)).put F.CAL_LAST_TEMP_VAL (w.getD 2 0)
    let s := ((s.put F.CAL_STAT_SOURCE (w.getD 3 0)).set F.CAL_STAT_VALID).clr F.CAL_STAT_FLASH_BAD
    let s := s.each 4 (fun p t => t.each 144 (fun e u =>
      let o := 4 + (p * 144 + e) * 4
      ((u.put H.CAL_ADC_SEL (w.getD o 0) p e).put H.CAL_ADC_TRIM (w.getD (o + 1) 0) p e 0).put H.CAL_ADC_TRIM (w.getD (o + 2) 0) p e 1
        |>.put H.CAL_ADC_TRIM (w.getD (o + 3) 0) p e 2))
    let s := s.each 4 (fun p t =>
      let o := 4 + 4 * 144 * 4 + p * 73
      ((t.each 71 (fun e u => u.put H.CAL_DAC_SEL (w.getD (o + e) 0) p e)).put H.CAL_DAC_TRIM (w.getD (o + 71) 0) p 0).put
        H.CAL_DAC_TRIM (w.getD (o + 72) 0) p 1)
    Cvt.refresh s

end Sys2Proof.Machine.Cal
end

