-- ==== Sys2Proof/Machine/Mbx.lean ====
section
/-! DEFINITION. Sys2Proof/Machine/Mbx.lean: mailbox channels, doorbells and locks (spec/13_mailboxes_and_counters.md, R271 to R283),
the lock of CRY that shares their rules (R217, R219), and the reset of a master (R277, R278). -/
namespace Sys2Proof.Machine.Mbx
open Sys2Proof Sys2Proof.Machine

/-- A number of Table SYS-4 that names a master. -/
def isMaster (m : Nat) : Bool :=
  (decide (1 ≤ m) && decide (m ≤ 9)) || (decide (16 ≤ m) && decide (m ≤ 79)) || m == 96 || m == 97

/-- F0 to F7. -/
def isHost (m : Nat) : Bool := decide (1 ≤ m) && decide (m ≤ 8)

def bound (s : State) (n : Nat) : Bool := s.on F.MBX_BIND_EN n

def isSender (s : State) (n m : Nat) : Bool := bound s n && s.get F.MBX_BIND_SENDER n == m

def isReceiver (s : State) (n m : Nat) : Bool := bound s n && s.get F.MBX_BIND_RECEIVER n == m

def accessErr (s : State) : State := s.set F.MBX_INT_CAUSE_ACCESS_ERR

def refuse (n : Nat) (s : State) : State := (s.set F.MBX_STAT_POST_REFUSED n).set F.MBX_INT_CAUSE_POST_REFUSED

/-- A write to a data word (R271, R273). -/
def writeData (who : Pmc.Who) (n i v : Nat) (s : State) : State :=
  if !isSender s n who.master then accessErr s
  else if s.on F.MBX_STAT_FULL n then refuse n s
  else s.put F.MBX_DATA_DATA v n i

/-- The words of a posted message. -/
def message (s : State) (n : Nat) : List Nat :=
  (List.range (s.get F.MBX_STAT_LEN n)).map (fun i => s.get F.MBX_DATA_DATA n i)

/-- The receiver's bell (R276, Table MBX-1). Engines see FULL itself; a post to PEER goes to the partner (R339). -/
def ring (n : Nat) (s : State) : State :=
  let r := s.get F.MBX_BIND_RECEIVER n
  if isHost r || r == 97 then (s.setBit F.MBX_DB_PEND_CH (n % 32) (n / 32)).set F.MBX_INT_CAUSE_DOORBELL
  else if r = 96 then s.emit (.peer 1 (n :: message s n))
  else s

/-- The words a LEN value posts (R273). -/
def postLen (v : Nat) : Nat := if v % 32 = 0 ∨ 16 < v % 32 then 16 else v % 32

/-- A post is accepted: FULL, LEN and the bell. -/
def post (who : Pmc.Who) (n len : Nat) (s : State) : State :=
  let s := (s.set F.MBX_STAT_FULL n).put F.MBX_STAT_LEN len n
  ring n (Pmc.event (576 + 2 * n) 2 (some who) (some (0x201040 + 0x80 * n)) s)

/-- DOORBELL (R273). -/
def doorbell (who : Pmc.Who) (n v : Nat) (s : State) : State :=
  if !isSender s n who.master then accessErr s
  else if s.on F.MBX_STAT_FULL n then refuse n s
  else post who n (postLen v) s

/-- A read of a data word (R274, R275): the word, and the state after it. The receiver's read of word LEN − 1 takes the message. -/
def readData (who : Pmc.Who) (n i : Nat) (s : State) : Nat × State :=
  if isReceiver s n who.master then
    let v := s.get F.MBX_DATA_DATA n i
    if s.on F.MBX_STAT_FULL n && i + 1 == s.get F.MBX_STAT_LEN n then
      let s := (s.clr F.MBX_STAT_FULL n).set F.MBX_STAT_TAKEN n
      let s := Pmc.event (577 + 2 * n) 2 (some who) (some (0x201000 + 0x80 * n + 4 * i)) s
      if isHost (s.get F.MBX_BIND_SENDER n) then
        (v, (s.setBit F.MBX_TAKEN_PEND_CH (n % 32) (n / 32)).set F.MBX_INT_CAUSE_TAKEN)
      else (v, s)
    else (v, s)
  else if isSender s n who.master then (s.get F.MBX_DATA_DATA n i, s)
  else (0, accessErr s)

/-- BIND (R272). -/
def bind (who : Pmc.Who) (n v : Nat) (s : State) : State :=
  let snd := slice v 0 8
  let rcv := slice v 8 8
  let en := v.testBit 16
  let bad := !(isHost who.master || who.master == 9) || s.on F.MBX_STAT_FULL n || s.on F.SYS_LOCK_LOCK ||
    (en && (!isMaster snd || !isMaster rcv || snd == rcv))
  if bad then s.set F.MBX_INT_CAUSE_BIND_ERR
  else
    let s := ((s.put F.MBX_BIND_SENDER snd n).put F.MBX_BIND_RECEIVER rcv n).put F.MBX_BIND_EN (b01 en) n
    if en then (s.clr F.MBX_STAT_RX_RESET_SEEN n).clr F.MBX_STAT_SENDER_RESET_SEEN n else s

/-- Events 573 to 575 of Table PMC-1. -/
def lockEvent (j : Nat) (who : Pmc.Who) (addr : Nat) (s : State) : State := Pmc.event (573 + j) 1 (some who) (some addr) s

/-- A read of MBX.LOCK[n] (R280): what it returns, and the state. -/
def lockRead (who : Pmc.Who) (n : Nat) (s : State) : Nat × State :=
  let o := s.get F.MBX_LOCK_STAT_OWNER n
  if o = 0 then (0, lockEvent 0 who (0x201048 + 0x80 * n) (s.put F.MBX_LOCK_STAT_OWNER who.master n))
  else if o = who.master then (0, s)
  else (o + 1, s)

/-- Reads of a free lock that coincide (R282): `who` wins, the rivals read its number plus one, CONTENDED is set. -/
def contend (who : Pmc.Who) (rivals : List Nat) (n : Nat) (s : State) : State :=
  let free := s.get F.MBX_LOCK_STAT_OWNER n == 0
  let r := lockRead who n s
  let a := 0x201048 + 0x80 * n
  let s := r.2.emit (.readData who.master a r.1)
  let s := if free && !rivals.isEmpty then lockEvent 1 who a (s.set F.MBX_LOCK_STAT_CONTENDED n) else s
  s.eachOf rivals (fun m t =>
    let x := lockRead ⟨m, false⟩ n t
    x.2.emit (.readData m a x.1))

/-- A write of MBX.LOCK[n] (R281). -/
def lockWrite (who : Pmc.Who) (n : Nat) (s : State) : State :=
  if s.get F.MBX_LOCK_STAT_OWNER n = who.master then s.clr F.MBX_LOCK_STAT_OWNER n else s.set F.MBX_INT_CAUSE_LOCK_ERR

/-! ### The lock of CRY (R217, R218, R219) -/

/-- A master that may manage keys: F0 to F7, SE, a lane engine at SUPER (R217). -/
def mayManage (who : Pmc.Who) : Bool :=
  isHost who.master || who.master == 9 || (decide (16 ≤ who.master) && decide (who.master ≤ 79) && !who.user)

/-- KEY_DATA and KEY_SALT are cleared (R218). -/
def clearKeyData (s : State) : State := (s.each 8 (fun i t => t.clr F.CRY_KEY_DATA_KEY i)).clr F.CRY_KEY_SALT_SALT

/-- A read of CRY.LOCK (R217). -/
def cryRead (who : Pmc.Who) (s : State) : Nat × State :=
  let o := s.get F.CRY_LOCK_STAT_OWNER
  if !mayManage who then (0xFF, s)
  else if o = 0 then (0, lockEvent 0 who 0x300004 (s.put F.CRY_LOCK_STAT_OWNER who.master))
  else if o = who.master then (0, s)
  else (o + 1, s)

/-- Coinciding reads of CRY.LOCK. -/
def cryContend (who : Pmc.Who) (rivals : List Nat) (s : State) : State :=
  let free := s.get F.CRY_LOCK_STAT_OWNER == 0 && mayManage who
  let r := cryRead who s
  let s := r.2.emit (.readData who.master 0x300004 r.1)
  let s := if free && !rivals.isEmpty then lockEvent 1 who 0x300004 (s.set F.CRY_LOCK_STAT_CONTENDED) else s
  s.eachOf rivals (fun m t =>
    let x := cryRead ⟨m, false⟩ t
    x.2.emit (.readData m 0x300004 x.1))

/-- A write of CRY.LOCK (R217). -/
def cryWrite (who : Pmc.Who) (s : State) : State :=
  if s.get F.CRY_LOCK_STAT_OWNER = who.master then clearKeyData (s.clr F.CRY_LOCK_STAT_OWNER)
  else s.set F.CRY_INT_CAUSE_NOT_OWNER

/-- CRY.LOCK is released by a reset of its owner or an erasure (R219). -/
def cryBreak (s : State) : State :=
  if s.on F.CRY_LOCK_STAT_OWNER then
    let o := s.get F.CRY_LOCK_STAT_OWNER
    lockEvent 2 ⟨o, false⟩ 0x300004 (clearKeyData ((s.clr F.CRY_LOCK_STAT_OWNER).set F.CRY_LOCK_STAT_LOCK_BROKEN))
  else s

/-- A master is reset (R277, R278): its channels remember it and its locks are released. -/
def masterReset (m : Nat) (s : State) : State :=
  let s := s.each 64 (fun n t =>
    let t := if isReceiver t n m then (t.set F.MBX_STAT_RX_RESET_SEEN n).set F.MBX_INT_CAUSE_RESET_SEEN else t
    let t := if isSender t n m then (t.set F.MBX_STAT_SENDER_RESET_SEEN n).set F.MBX_INT_CAUSE_RESET_SEEN else t
    if t.get F.MBX_LOCK_STAT_OWNER n = m then
      lockEvent 2 ⟨m, false⟩ (0x201048 + 0x80 * n) ((t.clr F.MBX_LOCK_STAT_OWNER n).set F.MBX_LOCK_STAT_LOCK_BROKEN n)
    else t)
  if s.get F.CRY_LOCK_STAT_OWNER = m then cryBreak s else s

/-- PEER_POST (R339): a post made at the partner arrives and is posted on the same channel here, by PEER as its sender. While the channel
is FULL or unbound the message waits on the link. -/
def peerPost (n : Nat) (words : List Nat) (s : State) : State :=
  if !bound s n ∨ s.on F.MBX_STAT_FULL n then s
  else if !isSender s n 96 then accessErr s
  else
    let s := s.eachOf (words.take 16).zipIdx (fun x t => t.put F.MBX_DATA_DATA x.1 n x.2)
    post ⟨96, false⟩ n (max 1 (min 16 words.length)) s

end Sys2Proof.Machine.Mbx
end

