-- ==== Sys2Proof/Machine/Qdm.lean ====
section
/-! DEFINITION. Sys2Proof/Machine/Qdm.lean: the QDR-IV ports, their training and errors, and the CF stores (spec/09_flows_and_memory.md,
R200 to R204). -/
namespace Sys2Proof.Machine.Qdm
open Sys2Proof Sys2Proof.Machine

/-- A port is trained and in use. -/
def inUse (s : State) (p : Nat) : Bool := s.bit F.QDM_STAT_IN_USE p

/-- Words of 4 data bytes in a device (R200). -/
def words (s : State) (p : Nat) : Nat := 2 ^ (21 + min 2 (s.get F.QDM_PORT_CFG_DENSITY p))

/-- The first word of the training area: the last 16,384 words (R200). -/
def trainingBase (s : State) (p : Nat) : Nat := words s p - 16384

/-- Region r of port p (R203), as its first word and its end: units of 64 KiB, 16,384 words. -/
def region (s : State) (p r : Nat) : Nat × Nat :=
  let b := s.get F.QDM_REGION_BASE p r * 16384
  (b, b + s.get F.QDM_REGION_SIZE p r * 16384)

def present (s : State) (p r : Nat) : Bool := s.get F.QDM_REGION_SIZE p r != 0

/-- Two regions of a port do not overlap. -/
def apart (a b : Nat × Nat) : Bool := decide (a.2 ≤ b.1) || decide (b.2 ≤ a.1)

/-- The regions of port p lie apart, in the device, below its training area (R203). -/
def regionsOk (s : State) (p : Nat) : Bool :=
  let rs := (List.range 5).filter (present s p)
  rs.all (fun r => decide ((region s p r).2 ≤ trainingBase s p) && rs.all (fun q => q == r || apart (region s p r) (region s p q)))

/-- A port with a region of non-zero size. -/
def needed (s : State) (p : Nat) : Bool := (List.range 5).any (present s p)

/-- Slots of 6,016 bytes in region r of port p, 0 where the port is not in use (R201). -/
def slots (s : State) (p r : Nat) : Nat := if inUse s p then s.get F.QDM_REGION_SIZE p r * 65536 / 6016 else 0

/-- The slots of the QDR pool. -/
def pool (s : State) : Nat := slots s 0 0 + slots s 1 0

/-- Ports that have trained and are in use. -/
def ports (s : State) : Nat := popBits 2 (s.get F.QDM_STAT_IN_USE)

/-- LIMIT of R201 in bit/s: 0.8 × (trained ports × 2 data ports × 2 × FREQ_MHZ × 32) Mb/s. -/
def limit (s : State) : Nat := 102400000 * ports s * s.get F.QDM_CTRL_FREQ_MHZ

/-- The committed traffic in bit/s: Σ RATE/16 × 6,016 × 8 × 2 (R201). -/
def committed (sumRate : Nat) : Nat := sumRate * 6016

/-- POOL_STAT and BW follow the stores. -/
def refresh (s : State) : State :=
  let s := s.put F.QDM_POOL_STAT_QDR_FREE (pool s - (s.get H.QDM_RESERVED + s.get H.QDM_EXTRA))
  (s.put F.QDM_BW_LIMIT (limit s / 100000000)).put F.QDM_BW_USED (committed (s.get H.QDM_COMMITTED) / 100000000)

/-- QDR transfers count per port (Table PMC-1). -/
def transferred (p n : Nat) (s : State) : State :=
  if Pmc.passes s ((1250 + p) / 64) 4 none none then Pmc.add (1250 + p) n s else s

/-! ### Stores (R201) -/

/-- A flow reserves its egress store when it is enabled. -/
def reserve (buf rate : Nat) (s : State) : State :=
  if buf = 1 then s.put F.QDM_POOL_STAT_DIE_FREE (s.get F.QDM_POOL_STAT_DIE_FREE - 8)
  else refresh ((s.put H.QDM_RESERVED (s.get H.QDM_RESERVED + 2)).put H.QDM_COMMITTED (s.get H.QDM_COMMITTED + rate))

def unreserve (buf rate : Nat) (s : State) : State :=
  if buf = 1 then s.put F.QDM_POOL_STAT_DIE_FREE (s.get F.QDM_POOL_STAT_DIE_FREE + 8)
  else refresh ((s.put H.QDM_RESERVED (s.get H.QDM_RESERVED - 2)).put H.QDM_COMMITTED (s.get H.QDM_COMMITTED - rate))

/-- A store can be reserved (R201). -/
def canReserve (s : State) (buf rate : Nat) : Bool :=
  if buf = 1 then decide (8 ≤ s.get F.QDM_POOL_STAT_DIE_FREE)
  else decide (s.get H.QDM_RESERVED + s.get H.QDM_EXTRA + 2 ≤ pool s) && decide (committed (s.get H.QDM_COMMITTED + rate) ≤ limit s)

/-- The port with more room in region r's slots, of which `used` are filled. -/
def roomier (s : State) (used : Field) (r : Nat) : Option Nat :=
  let room := fun p => slots s p r - s.get used p
  if room 0 = 0 ∧ room 1 = 0 then none else if room 0 < room 1 then some 1 else some 0

/-- Flow f draws a slot for a DATA CF: the port, 2 on die; none where there is no slot free. -/
def draw (f buf : Nat) (s : State) : Option Nat × State :=
  let held := s.get H.QDM_HELD f
  if buf = 1 then (some 2, s.put H.QDM_HELD (held + 1) f)
  else if 2 ≤ held ∧ s.get F.QDM_POOL_STAT_QDR_FREE = 0 then (none, s)
  else match roomier s H.QDM_POOL_USED 0 with
    | none => (none, s)
    | some p =>
      let s := if 2 ≤ held then s.put H.QDM_EXTRA (s.get H.QDM_EXTRA + 1) else s
      (some p, transferred p 1504 (refresh ((s.put H.QDM_HELD (held + 1) f).put H.QDM_POOL_USED (s.get H.QDM_POOL_USED p + 1) p)))

/-- A DATA CF of flow f leaves its slot. -/
def free (f port : Nat) (s : State) : State :=
  let held := s.get H.QDM_HELD f
  let s := s.put H.QDM_HELD (held - 1) f
  if port < 2 then
    let s := if 2 < held then s.put H.QDM_EXTRA (s.get H.QDM_EXTRA - 1) else s
    refresh (s.put H.QDM_POOL_USED (s.get H.QDM_POOL_USED port - 1) port)
  else s

/-! ### Enable and training (R200, R203) -/

/-- Ports in `mask` begin to train. -/
def train (mask : Nat) (s : State) : State :=
  s.each 2 (fun p t =>
    if mask.testBit p then
      let t := t.each 36 (fun b u => u.clr H.QDM_CENTRE p b)
      (((t.setBit H.QDM_TRAINING p).clr F.QDM_TRAIN_STAT_OK p).clr F.QDM_TRAIN_STAT_FAIL p).clr F.QDM_TRAIN_STAT_STEP p
    else t)

/-- The ports fitted, as a mask. -/
def fitted (s : State) : Nat := s.get F.QDM_PORT_CFG_EN 0 + 2 * s.get F.QDM_PORT_CFG_EN 1

/-- QDM_ENABLE (R200, R203). -/
def enable (s : State) : State :=
  if s.on F.QDM_CTRL_EN then s
  else
    let f := s.get F.QDM_CTRL_FREQ_MHZ
    if f < 400 ∨ 1066 < f then s.set F.QDM_INT_CAUSE_CFG_ERR
    else if (List.range 2).any (fun p => !regionsOk s p || (needed s p && !s.on F.QDM_PORT_CFG_EN p)) then
      s.set F.QDM_INT_CAUSE_REGION_ERR
    else train (fitted s) (s.set F.QDM_CTRL_EN)

/-- QDM.CTRL.EN written 0: no port is in use. -/
def disable (s : State) : State :=
  if s.on F.QDM_CTRL_EN then refresh (((s.clr F.QDM_CTRL_EN).clr F.QDM_STAT_IN_USE).clr H.QDM_TRAINING) else s

/-- QDR_TRAIN_DONE (R200, R203): `step` is the failing step, 0 for none. When no port trains any longer, a needed port that has not
trained refuses the enable. -/
def trained (p step : Nat) (s : State) : State :=
  if !s.bit H.QDM_TRAINING p then s
  else
    let s := s.clrBit H.QDM_TRAINING p
    let s :=
      if step = 0 then ((s.set F.QDM_TRAIN_STAT_OK p).setBit F.QDM_STAT_IN_USE p).clrBit F.QDM_STAT_PORT_FAIL p
      else ((s.set F.QDM_TRAIN_STAT_FAIL p).put F.QDM_TRAIN_STAT_STEP step p).set F.QDM_INT_CAUSE_TRAIN_FAIL
    if s.get H.QDM_TRAINING = 0 ∧ (List.range 2).any (fun q => needed s q && !s.on F.QDM_TRAIN_STAT_OK q) then
      (disable s).set F.QDM_INT_CAUSE_REGION_ERR
    else refresh s

/-- QDR_RETRAIN (R200): fitted ports not in use train again. -/
def retrain (s : State) : State :=
  if s.on F.QDM_CTRL_EN then
    train ((List.range 2).foldl (fun a p =>
      if (fitted s).testBit p && !inUse s p && !s.bit H.QDM_TRAINING p then a + 2 ^ p else a) 0) s
  else s

/-- QDR_RECENTRE (R200): each bit moves by at most one step (1 up, 2 down, else none), within the training area. -/
def recentre (p : Nat) (moves : List Nat) (s : State) : State :=
  if p < 2 ∧ inUse s p then
    s.eachOf (moves.take 36).zipIdx (fun x t =>
      if x.1 = 1 then t.sput H.QDM_CENTRE (t.sget H.QDM_CENTRE p x.2 + 1) p x.2
      else if x.1 = 2 then t.sput H.QDM_CENTRE (t.sget H.QDM_CENTRE p x.2 - 1) p x.2
      else t)
  else s

/-- A write of QDM.CTRL: FREQ_MHZ only while EN is 0. -/
def writeCtrl (v : Nat) (s : State) : State :=
  let s := if s.on F.QDM_CTRL_EN then s else s.put F.QDM_CTRL_FREQ_MHZ (slice v 2 11)
  let s := s.put F.QDM_CTRL_ERR_THR (slice v 13 11)
  let s := if v % 2 = 1 then enable s else disable s
  if v.testBit 1 then retrain s else s

/-- A write of QDM.REGION[p][r]: only while EN is 0 (R203). -/
def writeRegion (p r v : Nat) (s : State) : State :=
  if s.on F.QDM_CTRL_EN then s else (s.put F.QDM_REGION_BASE (slice v 0 10) p r).put F.QDM_REGION_SIZE (slice v 16 10) p r

/-! ### Errors (R204) -/

/-- A read parity error at word `addr` of port p. -/
def dataError (p addr : Nat) (s : State) : State :=
  if p < 2 then
    (((s.count F.QDM_ERR_CNT_DATA 1 p).put F.QDM_ERR_ADDR_ADDR addr p).set F.QDM_INT_CAUSE_DATA_PERR).count H.QDM_ERRS_SEC 1 p
  else s

/-- ADDR_PARITY_ERROR. -/
def addrError (p : Nat) (s : State) : State :=
  if p < 2 then ((s.count F.QDM_ERR_CNT_ADDR 1 p).set F.QDM_INT_CAUSE_ADDR_PERR).count H.QDM_ERRS_SEC 1 p else s

/-- The errors of the second reach ERR_THR. -/
def failing (s : State) (p : Nat) : Bool :=
  let t := s.get F.QDM_CTRL_ERR_THR
  decide (p < 2) && inUse s p && t != 0 && decide (t ≤ s.get H.QDM_ERRS_SEC p)

end Sys2Proof.Machine.Qdm
end

