-- ==== Sys2Proof/Machine/Eng.lean ====
section
/-! DEFINITION. Sys2Proof/Machine/Eng.lean: the Odivo engines: threads, instructions, tagged operations up to the point where they
reach the register network, the journal and its spill ring (spec/12_odivo_engines.md, R248 to R267). An instruction command
(n t) is the issue turn of thread t of engine n, 64 being the supervisor. -/
namespace Sys2Proof.Machine.Eng
open Sys2Proof Sys2Proof.Machine

/-! ### Words (R251, Tables ENG-2 and ENG-3) -/

def opc (w : Nat) : Nat := slice w 26 6
/-- [25:21]: rd, rt, or rs2 of format S, or rs1 of format B. -/
def fa (w : Nat) : Nat := slice w 21 5
/-- [20:16]: rs1, ra, or rs2 of format B. -/
def fb (w : Nat) : Nat := slice w 16 5
/-- [15:11]: rs2 or rb. -/
def fc (w : Nat) : Nat := slice w 11 5
/-- fn or the event number. -/
def fn (w : Nat) : Nat := slice w 0 11
def imm16 (w : Nat) : Nat := slice w 0 16
def simm16 (w : Nat) : Int := signed 16 w

/-- A word of Table ENG-3: a listed opcode, fn and event, and 0 in every bit shown as 0. -/
def legal (w : Nat) : Bool :=
  let o := opc w
  if o = 0 then decide (fn w ≤ 0x10)
  else if o = 6 then decide (slice w 7 9 = 0) && decide (slice w 5 2 < 3)
  else if o = 7 then decide (fb w = 0)
  else if o ≤ 0x11 then true
  else if o = 0x12 ∨ o = 0x13 then decide (fn w = 0)
  else if 0x18 ≤ o ∧ o ≤ 0x1D then true
  else if 0x20 ≤ o ∧ o ≤ 0x23 then true
  else if o = 0x24 then decide (fc w ≠ 31)
  else if o = 0x30 then decide (fn w ≤ 8)
  else if o = 0x31 then decide (fn w ≤ 1)
  else if 0x32 ≤ o ∧ o ≤ 0x34 then decide (fn w = 0)
  else if o = 0x38 then decide (fn w ≤ 5)
  else false

/-- The registers an instruction reads. -/
def sources (w : Nat) : List Nat :=
  let o := opc w
  if o = 0 then (if 0xF ≤ fn w then [fb w] else [fb w, fc w])
  else if o ≤ 6 then [fb w]
  else if o = 7 then []
  else if o ≤ 0xD then [fa w, fb w]
  else if o = 0xE then []
  else if o ≤ 0x10 then [fb w]
  else if o = 0x11 then [fa w, fb w]
  else if o ≤ 0x13 then [fb w, fc w]
  else if o = 0x18 ∨ (0x1A ≤ o ∧ o ≤ 0x1D) then [fb w]
  else if o = 0x24 then [fb w, fc w, fc w + 1]
  else if o ≤ 0x24 then [fb w, fc w]
  else if o = 0x30 then [fb w, fc w]
  else if o = 0x31 then []
  else if o = 0x32 then [fb w, fc w]
  else if o ≤ 0x34 then [fb w]
  else if fn w = 2 ∨ fn w = 3 then [fb w]
  else []

/-! ### Threads (R248 to R250) -/

/-- Register r of a thread; g0 reads 0. -/
def reg (s : State) (n t r : Nat) : Nat := if r = 0 then 0 else s.get F.ENG_GREG_VAL n t r

/-- A register is written; g0 is not. -/
def setReg (n t r v : Nat) (s : State) : State := if r = 0 then s else s.put F.ENG_GREG_VAL v n t r

def thread (s : State) (n t : Nat) : Nat := s.get F.ENG_THR_STAT_STATE n t

def pc (s : State) (n t : Nat) : Nat := s.get F.ENG_THR_STAT_PC n t

def word (s : State) (n t : Nat) : Nat := s.get H.ENG_IMEM n (pc s n t)

/-- The master of an engine (R11). -/
def master (n : Nat) : Nat := if n = 64 then 9 else 16 + n

def who (s : State) (n t : Nat) : Pmc.Who := ⟨master n, !s.on F.ENG_THR_SUPER n t⟩

/-- Event j of engine n (Table PMC-1). -/
def event (n t j : Nat) (s : State) : State := Pmc.caused t s (Pmc.event (8 * n + j) 0 (some (who s n t)) none s)

/-- STAT.RUNNING and STAT.FAULTED follow the threads. -/
def refreshStat (n : Nat) (s : State) : State :=
  let bits := fun (p : Nat → Bool) => (List.range 4).foldl (fun a t => if p (thread s n t) then a + 2 ^ t else a) 0
  (s.put F.ENG_STAT_RUNNING (bits (fun x => decide (1 ≤ x) && decide (x ≤ 3))) n).put F.ENG_STAT_FAULTED (bits (· == 4)) n

/-- The thread's state changes. -/
def enter (n t st : Nat) (s : State) : State := refreshStat n (s.put F.ENG_THR_STAT_STATE st n t)

/-- A thread faults (R262). -/
def fault (n t c : Nat) (s : State) : State :=
  enter n t 4 (event n t 6 ((s.put F.ENG_THR_STAT_CAUSE c n t).set F.ENG_INT_CAUSE_FAULT n))

/-- The next instruction is the one after. -/
def next (n t : Nat) (s : State) : State :=
  if pc s n t = 4095 then s.set H.ENG_PAST n t else s.put F.ENG_THR_STAT_PC (pc s n t + 1) n t

/-- A result of an open RLD or remote atomic of the thread is awaited in register r (R249). -/
def awaited (s : State) (n t r : Nat) : Bool :=
  r != 0 && s.eng.ops.any (fun o => o.engine == n && o.thread == t && o.dest == r)

/-- An issue turn of a thread whose word is one that `sel` picks (R249). A thread in STALL_TAG tries its instruction again. A turn
where the thread's word is another instruction, or reads an awaited register, or where the thread is held for a sample (R289), has no
effect. -/
def issue (sel : Nat → Bool) (act : Nat → State → State) (n t : Nat) (s : State) : State :=
  if (thread s n t ≠ 1 ∧ thread s n t ≠ 3) ∨ Pmc.heldBack s n t then s
  else if s.on H.ENG_PAST n t then fault n t 4 s
  else
    let w := word s n t
    if !legal w then fault n t 1 s
    else if !sel w || (sources w).any (awaited s n t) then s
    else act w s

/-- An instruction of the thread issues (R289, Table PMC-1). -/
def issued (n t : Nat) (s : State) : State := event n t 0 (Pmc.skid n t s)

/-- The instruction completes with a value for register r: it counts as issued, and the thread goes on. -/
def complete (n t r v : Nat) (s : State) : State := next n t (setReg n t r v (issued n t s))

/-! ### Arithmetic, logic and branches -/

def bv (x : Nat) : Word := BitVec.ofNat 32 x

/-- fn k of opcode 0. -/
def alu (k : Nat) (f : Word → Word → Word) (n t : Nat) : State → State :=
  issue (fun w => opc w == 0 && fn w == k)
    (fun w s => complete n t (fa w) (f (bv (reg s n t (fb w))) (bv (reg s n t (fc w)))).toNat s) n t

/-- The high word of a product of two integers. -/
def high (x : Int) : Word := BitVec.ofInt 32 (x / 4294967296)

/-- Leading zeros of the low `w` bits. -/
def leading : Nat → Nat → Nat
  | 0, _ => 0
  | w + 1, x => if x.testBit w then 0 else leading w x + 1

def clz (x : Word) : Word := bv (leading 32 x.toNat)

def popc (x : Word) : Word := bv (popBits 32 x.toNat)

/-- An opcode of format I: f of rs1 and the immediate bits. -/
def immediate (o : Nat) (f : Word → Nat → Word) (n t : Nat) : State → State :=
  issue (fun w => opc w == o) (fun w s => complete n t (fa w) (f (bv (reg s n t (fb w))) (imm16 w)).toNat s) n t

/-- A signed immediate. -/
def sext (i : Nat) : Word := BitVec.ofInt 32 (signed 16 i)

/-- SHI: its kind in bits 6:5, its distance in bits 4:0. -/
def shi (x : Word) (i : Nat) : Word :=
  match slice i 5 2 with
  | 0 => x <<< slice i 0 5
  | 1 => x >>> slice i 0 5
  | _ => x.sshiftRight (slice i 0 5)

/-- The thread goes to an instruction; beyond IMEM is a fault at the instruction that goes there (R252, R262). -/
def jump (n t : Nat) (target : Int) (s : State) : State :=
  if target < 0 ∨ 4095 < target then fault n t 4 s
  else s.put F.ENG_THR_STAT_PC target.toNat n t

/-- An opcode of format B. -/
def branch (o : Nat) (c : Word → Word → Bool) (n t : Nat) : State → State :=
  issue (fun w => opc w == o)
    (fun w s =>
      if c (bv (reg s n t (fa w))) (bv (reg s n t (fb w))) then
        let target : Int := pc s n t + simm16 w
        if target < 0 ∨ 4095 < target then fault n t 4 s else jump n t target (issued n t s)
      else complete n t 0 0 s) n t

/-- A jump that links. -/
def link (n t r : Nat) (target : Int) (s : State) : State :=
  if target < 0 ∨ 4095 < target then fault n t 4 s
  else jump n t target (setReg n t r (pc s n t + 1) (issued n t s))

def jal (n t : Nat) : State → State :=
  issue (fun w => opc w == 0xE) (fun w s => link n t (fa w) (pc s n t + signed 21 w) s) n t

def jalr (n t : Nat) : State → State :=
  issue (fun w => opc w == 0xF)
    (fun w s => link n t (fa w) ((bv (reg s n t (fb w)) + sext (imm16 w)).toNat : Nat) s) n t

/-! ### DMEM -/

/-- The fault of a DMEM byte address (R252, R262). -/
def memFault (a : Nat) : Option Nat := if a % 4 ≠ 0 then some 2 else if 8188 < a then some 3 else none

def mem (s : State) (n a : Nat) : Nat := s.get H.ENG_DMEM n (a / 4)

def setMem (n a v : Nat) (s : State) : State := s.put H.ENG_DMEM v n (a / 4)

/-- An access to DMEM at rs1 plus an offset: the value for a register, and the state. -/
def access (o : Nat) (offset : Nat → Int) (dst : Nat → Nat) (f : Nat → Nat → State → State) (n t : Nat) : State → State :=
  issue (fun w => opc w == o)
    (fun w s =>
      let a := unsigned 32 (reg s n t (fb w) + offset w)
      match memFault a with
      | some c => fault n t c s
      | none => f w a (complete n t (dst w) (mem s n a) s)) n t

def ldw (n t : Nat) : State → State := access 0x10 simm16 fa (fun _ _ s => s) n t

def stw (n t : Nat) : State → State :=
  access 0x11 simm16 (fun _ => 0) (fun w a s => setMem n a (reg s n t (fa w)) s) n t

/-- LXCH and LADD: the word is read, then written from what was read and rs2. -/
def local_ (o : Nat) (f : Nat → Nat → Nat) (n t : Nat) : State → State :=
  issue (fun w => opc w == o)
    (fun w s =>
      let a := reg s n t (fb w)
      match memFault a with
      | some c => fault n t c s
      | none => complete n t (fa w) (mem s n a) (setMem n a (f (mem s n a) (reg s n t (fc w))) s)) n t

/-! ### The journal (R265, R266) -/

/-- Entry j is not final. -/
def isOpen (s : State) (n j : Nat) : Bool :=
  s.on H.ENG_JVALID n j && decide (s.get H.ENG_JRNL n j 0 % 16 < 2)

/-- The first entry at or after index i that is final or unused. -/
def place (s : State) (n i : Nat) : Nat :=
  ((List.range 1024).find? (fun k => !isOpen s n ((i + k) % 1024))).map (fun k => (i + k) % 1024) |>.getD (i % 1024)

/-- The JOURNAL regions: word address and words of each port's part, none where the port is not in use (R203, R266). -/
def spillParts (s : State) : List (Nat × Nat) :=
  (List.range 2).map (fun p =>
    (p * 2 ^ 23 + s.get F.QDM_REGION_BASE p 3 * 16384,
     if s.bit F.QDM_STAT_IN_USE p then s.get F.QDM_REGION_SIZE p 3 * 16384 else 0))

/-- The regions as one number. -/
def spillMap (s : State) : Nat :=
  (List.range 2).foldl (fun a p =>
    a + (if s.bit F.QDM_STAT_IN_USE p then (s.get F.QDM_REGION_BASE p 3 + 1024 * s.get F.QDM_REGION_SIZE p 3) * 2 ^ (20 * p) else 0)) 0

/-- Entries the spill ring has room for. -/
def spillSize (s : State) : Nat := ((spillParts s).map Prod.snd).foldl (· + ·) 0 / 4

/-- Spilled entries held: 0 unless QDM is enabled with the regions they were spilled to (R266). -/
def spilled (s : State) : Nat :=
  if spillSize s = 0 ∨ spillMap s ≠ s.get H.ENG_SPILL_MAP then 0 else s.get H.ENG_SPILL_CNT

/-- Word w of the oldest spilled entry; 0 when there is none. -/
def spillRead (s : State) (w : Nat) : Nat :=
  let size := spillSize s
  if spilled s = 0 then 0
  else
    let oldest := (s.get H.ENG_SPILL_POS + size - spilled s) % size
    Store.get 0 s.qdr (Pmc.traceAddr (spillParts s) (4 * oldest + w))

/-- SPILL_POP (R266). -/
def spillPop (s : State) : State := if spilled s = 0 then s else s.put H.ENG_SPILL_CNT (s.get H.ENG_SPILL_CNT - 1)

/-- An entry goes to the spill ring; the oldest is dropped where it is full. -/
def spill (n j : Nat) (s : State) : State :=
  let size := spillSize s
  if size = 0 then s
  else
    let s := if spillMap s = s.get H.ENG_SPILL_MAP then s
      else ((s.put H.ENG_SPILL_MAP (spillMap s)).clr H.ENG_SPILL_CNT).clr H.ENG_SPILL_POS
    let pos := s.get H.ENG_SPILL_POS % size
    let s := s.each 4 (fun w t =>
      { t with qdr := Store.put 0 t.qdr (Pmc.traceAddr (spillParts s) (4 * pos + w)) (s.get H.ENG_JRNL n j w) })
    let s := s.put H.ENG_SPILL_POS ((pos + 1) % size)
    if s.get H.ENG_SPILL_CNT < size then s.put H.ENG_SPILL_CNT (s.get H.ENG_SPILL_CNT + 1)
    else (s.count F.SE_SPILL_STAT_LOST).set F.ENG_INT_CAUSE_SPILL_LOST 64

/-- JRNL_HEAD, the index of the next new entry: bits [9:0] of its register (R265). -/
def head (s : State) (n : Nat) : Nat := s.get F.ENG_JRNL_HEAD_VAL n % 1024

/-- A new entry of words w0, PC, target and w3: it takes JRNL_HEAD and the next SEQ; the final entry it overwrites is spilled. -/
def append (n w0 pc target w3 : Nat) (s : State) : State :=
  let j := head s n
  let seq := s.get F.ENG_JRNL_SEQ_VAL n
  let s := if s.on H.ENG_JVALID n j then spill n j s else s
  let s := (s.set H.ENG_JVALID n j).put H.ENG_JRNL w0 n j 0
  let s := ((s.put H.ENG_JRNL (pc + seq * 4096) n j 1).put H.ENG_JRNL target n j 2).put H.ENG_JRNL (w3 + n * 2 ^ 24) n j 3
  (s.put F.ENG_JRNL_SEQ_VAL (seq + 1) n).put F.ENG_JRNL_HEAD_VAL (place s n (j + 1)) n

/-- JMARK (Table ENG-7). -/
def jmark (n t : Nat) : State → State :=
  issue (fun w => opc w == 0x32)
    (fun w s =>
      let seq := s.get F.ENG_JRNL_SEQ_VAL n
      let w0 := 2 + 8 + 16 * t + 64 * s.get F.ENG_THR_SUPER n t + 0x32 * 2 ^ 16
      let s' := append n w0 (pc s n t) (reg s n t (fb w)) (reg s n t (fc w) % 4096) s
      event n t 7 (complete n t (fa w) seq s')) n t

/-- JRNL_RD[0] read by master m: it snapshots all four words (R382). -/
def journalFirst (m n : Nat) (s : State) : Nat × State :=
  let j := s.get F.ENG_JRNL_IDX_IDX n
  (s.get H.ENG_JRNL n j 0, (s.set H.ENG_JSNAP_VALID m n).each 3 (fun w t => t.put H.ENG_JSNAP (s.get H.ENG_JRNL n j (w + 1)) m n w))

/-- JRNL_RD[w], w = 1 to 3, read by master m. -/
def journalWord (s : State) (m n w : Nat) : Nat :=
  if s.on H.ENG_JSNAP_VALID m n then s.get H.ENG_JSNAP m n (w - 1) else s.get H.ENG_JRNL n (s.get F.ENG_JRNL_IDX_IDX n) w

/-! ### Tags and final states (R254, R255) -/

/-- The lowest free tag. -/
def freeTag (s : State) (n : Nat) : Option Nat := (List.range 256).find? (fun k => !s.on F.ENG_TAG_ALLOC n k)

def releaseTag (n k : Nat) (s : State) : State :=
  if s.on F.ENG_TAG_ALLOC n k then (s.clr F.ENG_TAG_ALLOC n k).put F.ENG_STAT_TAGS_USED (s.get F.ENG_STAT_TAGS_USED n - 1) n else s

/-- A tag the thread holds. -/
def owned (s : State) (n t k : Nat) : Bool := s.on F.ENG_TAG_ALLOC n k && s.get F.ENG_TAG_THREAD n k == t

def isFinal (s : State) (n k : Nat) : Bool := decide (2 ≤ s.get F.ENG_TAG_STATE n k)

/-- A waiting thread resumes with a result. -/
def resume (n t v : Nat) (s : State) : State :=
  next n t (enter n t 1 (setReg n t (fa (word s n t)) v s))

/-- The thread waits for this tag. -/
def waitsFor (s : State) (n t k : Nat) : Bool :=
  let w := word s n t
  thread s n t == 2 && opc w == 0x30 && fn w == 0 && reg s n t (fb w) % 256 == k

/-- Entry j becomes final: state, cause and DONE are recorded, and a tag that is still allocated to it follows (R254, R255). A thread that
waits for a tag with AUTO set resumes as the tag is freed. -/
def finalise (n j st cause done : Nat) (s : State) : State :=
  let w0 := s.get H.ENG_JRNL n j 0
  let w3 := s.get H.ENG_JRNL n j 3
  let t := slice w0 4 2
  let k := slice w0 8 8
  let w := ⟨master n, !w0.testBit 6⟩
  let s := s.put H.ENG_JRNL (w0 - w0 % 8 + st + cause * 2 ^ 22) n j 0
  let s := s.put H.ENG_JRNL (w3 - slice w3 12 12 * 4096 + done * 4096) n j 3
  let s := s.put F.ENG_STAT_INFLIGHT (s.get F.ENG_STAT_INFLIGHT n - 1) n
  let s := { s with eng := { s.eng with ops := s.eng.ops.filter (fun o => !(o.engine == n && o.jidx == j)) } }
  let s := Pmc.event (8 * n + (if st = 2 then 2 else 3)) 0 (some w) none s
  let s := if st = 2 then s else s.set F.ENG_INT_CAUSE_ABORT n
  if s.on F.ENG_TAG_ALLOC n k && s.get F.ENG_TAG_JIDX n k == j then
    let s := s.put F.ENG_TAG_STATE st n k
    if s.on F.ENG_TAG_AUTO n k then releaseTag n k (if waitsFor s n t k then resume n t st s else s) else s
  else s

/-! ### Checks before issue (R250, R257, R259) -/

/-- The last address of each block's range (Table SYS-13, R380). -/
def blockEnds : List Nat :=
  [0x10000, 0x1C000, 0x20000, 0x30000, 0x100000, 0x200000, 0x240000, 0x280000, 0x290000, 0x2A0000, 0x2B0000, 0x300000, 0x340000,
   0x400000, 0x480000, 0x4C0000, 0x500000, 0x580000, 0x600000, 0x680000, 0x700000, 0x740000, 0x780000, 0x7C0000, 0x7E0000, 0x7F0000,
   0x800000, 0x1000000]

/-- The range an address lies in. -/
def rangeOf (a : Nat) : Nat := (blockEnds.filter (fun e => decide (e ≤ a))).length

/-- The register words of an operation. -/
def targets (a count stride : Nat) : List Nat := (List.range count).map (fun i => a + 4 * stride * i)

/-- The addresses can be reached: aligned, in BAR0, in one block (R257, R259). -/
def inRange (l : List Nat) : Bool :=
  l.all (fun a => decide (a % 4 = 0) && decide (a < 0x1000000) && decide (rangeOf a = rangeOf (l.headD 0)))

/-- A lane engine's rule for one address (R250): no write to ENG but its own FLAGS, nothing in the supervisor's window. -/
def laneMay (n a : Nat) (write : Bool) : Bool :=
  n == 64 ||
  (!(decide (0x1C000 ≤ a) && decide (a < 0x20000)) &&
   (!write || !(decide (0x100000 ≤ a) && decide (a < 0x200000)) || a == 0x100040 + 0x4000 * n))

/-- A USER thread reaches an address through one of the windows (R250). -/
def windowMay (s : State) (n a : Nat) (write : Bool) : Bool :=
  (List.range 4).any (fun w =>
    let b := s.get F.ENG_UWIN_BASE n w
    decide (b ≤ a / 4096) && decide (a / 4096 < b + s.get F.ENG_UWIN_PAGES n w) && (!write || s.on F.ENG_UWIN_WRITE n w))

/-- The cause that ends a register-space operation before it leaves the engine, 0 for none. -/
def registerCause (s : State) (n t : Nat) (l : List Nat) (write : Bool) : Nat :=
  if l.isEmpty || !inRange l then 2
  else if l.all (fun a => laneMay n a write && (s.on F.ENG_THR_SUPER n t || windowMay s n a write)) then 0 else 1

/-- The same for a QDR operation on `c` words from word address `a` of port p (R259). -/
def qdrCause (s : State) (n p a c : Nat) (write : Bool) : Nat :=
  let rs := (List.range 5).filter (Qdm.present s p)
  let within := fun (r : Nat) => decide ((Qdm.region s p r).1 ≤ a) && decide (a < (Qdm.region s p r).2)
  match rs.find? within with
  | some r =>
    if (Qdm.region s p r).2 < a + c then 2
    else if !write && decide (3 ≤ r) && s.on F.ENG_QACC_LOG_R n then 0 else 1
  | none =>
    if Qdm.trainingBase s p < a + c || rs.any (fun r => !Qdm.apart (a, a + c) (Qdm.region s p r)) then 2
    else if write then (if s.on F.ENG_QACC_FREE_W n then 0 else 1)
    else if s.on F.ENG_QACC_FREE_R n then 0 else 1

/-- A DMEM range of `c` words from byte address `a`. -/
def memRange (a c : Nat) : Bool := decide (a % 4 = 0) && decide (a + 4 * c ≤ 8192)

/-! ### Tagged instructions (R253) -/

/-- A tagged instruction issues: the tag, its number to rt, the journal entry in state ISSUED. `o` is the operation with its
engine, entry and thread to be filled in; a cause other than 0 ends it ABORTED at once. -/
def launch (w : Nat) (o : EngOp) (journalTarget cause n t : Nat) (s : State) : State :=
  match freeTag s n with
  | none => if thread s n t = 3 then s else enter n t 3 (event n t 4 s)
  | some k =>
    let auto := slice w 10 1
    let j := head s n
    let user := !s.on F.ENG_THR_SUPER n t
    let w0 := 16 * t + 64 * b01 (!user) + 128 * auto + 256 * k + opc w * 2 ^ 16
    let here := pc s n t
    let s := enter n t 1 s
    let s := event n t 1 (complete n t (fa w) k (append n w0 here journalTarget (o.count % 4096) s))
    let s := ((s.clr F.ENG_TAG_STATE n k).set F.ENG_TAG_ALLOC n k).put F.ENG_TAG_THREAD t n k
    let s := (s.put F.ENG_TAG_AUTO auto n k).put F.ENG_TAG_JIDX j n k
    let s := (s.put F.ENG_STAT_TAGS_USED (s.get F.ENG_STAT_TAGS_USED n + 1) n).put F.ENG_STAT_INFLIGHT (s.get F.ENG_STAT_INFLIGHT n + 1) n
    if cause = 0 then { s with eng := { s.eng with ops := s.eng.ops ++ [{ o with jidx := j, user := user }] } }
    else finalise n j 4 cause 0 s

/-- The address ra + 4 × imm10. -/
def tagBase (s : State) (n t w : Nat) : Nat := unsigned 32 (reg s n t (fb w) + 4 * signed 10 w)

/-- RLD, RST and the remote atomics: one word. -/
def single (o : Nat) (write returns : Bool) (n t : Nat) : State → State :=
  issue (fun w => opc w == o)
    (fun w s =>
      let a := tagBase s n t w
      launch w ⟨n, 0, t, false, o, (if returns then fc w else 0), reg s n t (fc w), reg s n t (fc w + 1), 0, a, 1, 1, false⟩
        a (registerCause s n t [a] write) n t s) n t

/-- The three words of a descriptor (R259), or the fault of its address. -/
def descriptor (s : State) (n a : Nat) : Nat ⊕ (Nat × Nat × Nat) :=
  match memFault a, memFault (a + 8) with
  | some c, _ => .inl c
  | none, some c => .inl c
  | none, none => .inr (mem s n a, mem s n (a + 4), mem s n (a + 8))

/-- DMAR and DMAW. -/
def dma (o : Nat) (write : Bool) (n t : Nat) : State → State :=
  issue (fun w => opc w == o)
    (fun w s =>
      match descriptor s n (tagBase s n t w) with
      | .inl c => fault n t c s
      | .inr (d0, d1, d2) =>
        let c := d2 % 4096
        let stride := max 1 (slice d2 16 8)
        let m := d1 % 8192
        let cause := if c = 0 ∨ 2048 < c ∨ !memRange m c then 2 else registerCause s n t (targets d0 c stride) write
        launch w ⟨n, 0, t, false, o, 0, 0, 0, m, d0, c, stride, false⟩ d0 cause n t s) n t

/-- QRD and QWR. -/
def qdr (o : Nat) (write : Bool) (n t : Nat) : State → State :=
  issue (fun w => opc w == o)
    (fun w s =>
      match descriptor s n (tagBase s n t w) with
      | .inl c => fault n t c s
      | .inr (d0, d1, d2) =>
        let a := d0 % 2 ^ 23
        let p := d0 / 2 ^ 31
        let cause := if d2 = 0 ∨ 2048 < d2 ∨ !memRange d1 d2 then 2 else qdrCause s n p a d2 write
        launch w ⟨n, 0, t, false, o, 0, 0, 0, d1, p * 2 ^ 31 + a, d2, 1, false⟩ (p * 2 ^ 31 + a) cause n t s) n t

/-- TAG_EXHAUST (R253). -/
def tagExhaust (n t : Nat) (s : State) : State :=
  if thread s n t = 3 ∧ freeTag s n = none then fault n t 5 s else s

/-- OP_ACCEPT (R257): the target takes the request of entry j. -/
def accept (n j : Nat) (s : State) : State :=
  if s.eng.ops.any (fun o => o.engine == n && o.jidx == j && !o.accepted) then
    let w0 := s.get H.ENG_JRNL n j 0
    let k := slice w0 8 8
    let s := s.put H.ENG_JRNL (w0 - w0 % 8 + 1) n j 0
    let s := { s with eng := { s.eng with
      ops := s.eng.ops.map (fun o => if o.engine == n && o.jidx == j then { o with accepted := true } else o) } }
    if s.on F.ENG_TAG_ALLOC n k && s.get F.ENG_TAG_JIDX n k == j then s.put F.ENG_TAG_STATE 1 n k else s
  else s

/-- ACC_TMO (R257): the request of entry j was not accepted in time. -/
def acceptTimeout (n j : Nat) (s : State) : State :=
  if s.eng.ops.any (fun o => o.engine == n && o.jidx == j && !o.accepted) then finalise n j 4 3 0 s else s

/-! ### Waiting (R260) -/

/-- What a WAIT with word w returns now, and the tag it releases; none while its event is not present. `atEnd` is false when the WAIT
issues, true when its event comes. -/
def waitResult (s : State) (n t w : Nat) (atEnd : Bool) : Option (Nat × Option Nat) :=
  let x := reg s n t (fb w)
  match fn w with
  | 0 => if owned s n t (x % 256) && isFinal s n (x % 256) then some (s.get F.ENG_TAG_STATE n (x % 256), some (x % 256)) else none
  | 1 => ((List.range 256).find? (fun k => owned s n t k && isFinal s n k && !s.on F.ENG_TAG_AUTO n k)).map
      (fun k => (k + 256 * s.get F.ENG_TAG_STATE n k, some k))
  | 2 => if Mbx.isReceiver s x (master n) then (if s.on F.MBX_STAT_FULL x then some (x, none) else none) else some (0xFFFFFFFE, none)
  | 3 => if atEnd && s.on H.ENG_EDGE n t then some (s.get H.FRM_TX_MFN, none) else none
  | 4 => if atEnd && s.on H.ENG_EDGE n t then some (s.get F.SYN_TIME_HI_VAL, none) else none
  | 5 => if atEnd && s.on H.ENG_EDGE n t then some (0, none) else none
  | 6 => if x < 32 && s.summary.testBit x then some (0, none) else none
  | 7 => if x < 32 && s.bit F.ENG_FLAGS_FLAG x n then some (0, none) else none
  | _ => if atEnd || x == 0 then some (0, none) else none

/-- WAIT (R255, R260). -/
def wait (n t : Nat) : State → State :=
  issue (fun w => opc w == 0x30)
    (fun w s =>
      if fn w == 0 && !owned s n t (reg s n t (fb w) % 256) then fault n t 6 s
      else match waitResult s n t w false with
        | some (v, k) => complete n t (fa w) v (match k with | some k => releaseTag n k s | none => s)
        | none => enter n t 2 (event n t 5 (issued n t (s.clr H.ENG_EDGE n t)))) n t

/-- WAIT_END: the event of a waiting thread has come. -/
def waitEnd (n t : Nat) (s : State) : State :=
  if thread s n t ≠ 2 then s
  else match waitResult s n t (word s n t) true with
    | some (v, k) => resume n t v (match k with | some k => releaseTag n k s | none => s)
    | none => s

/-- WAIT_TIMEOUT: the time of rs2 has passed; g0 means none. -/
def waitTimeout (n t : Nat) (s : State) : State :=
  if thread s n t ≠ 2 ∨ fc (word s n t) = 0 then s else resume n t 0xFFFFFFFF s

/-- An edge of events 3 to 5: every thread that waits for it may resume. -/
def edge (ev : Nat) (s : State) : State :=
  s.each 65 (fun n u => u.each 4 (fun t v =>
    if thread v n t == 2 && opc (word v n t) == 0x30 && fn (word v n t) == ev then v.set H.ENG_EDGE n t else v))

/-- FENCE (R258): it completes once no earlier operation of the thread, or of the engine, is open. -/
def fence (n t : Nat) : State → State :=
  issue (fun w => opc w == 0x31)
    (fun w s =>
      if s.eng.ops.any (fun o => o.engine == n && (fn w == 1 || o.thread == t)) then s else complete n t 0 0 s) n t

/-! ### Tags by number, and SYS -/

def tstat (n t : Nat) : State → State :=
  issue (fun w => opc w == 0x33)
    (fun w s =>
      let k := reg s n t (fb w) % 256
      if owned s n t k then complete n t (fa w) (s.get F.ENG_TAG_STATE n k) s else fault n t 6 s) n t

/-- AUTO is set on a running operation: in its tag and in its entry (R255). -/
def makeAuto (n k : Nat) (s : State) : State :=
  let j := s.get F.ENG_TAG_JIDX n k
  (s.set F.ENG_TAG_AUTO n k).setBit H.ENG_JRNL 7 n j 0

/-- A tag is let go: released if final, else left to free itself. -/
def letGo (n k : Nat) (s : State) : State := if isFinal s n k then releaseTag n k s else makeAuto n k s

def trel (n t : Nat) : State → State :=
  issue (fun w => opc w == 0x34)
    (fun w s =>
      let k := reg s n t (fb w) % 256
      if owned s n t k then complete n t 0 0 (letGo n k s) else fault n t 6 s) n t

/-- fn k of opcode 0x38. -/
def sys (k : Nat) (act : Nat → State → State) (n t : Nat) : State → State :=
  issue (fun w => opc w == 0x38 && fn w == k) act n t

def halt (n t : Nat) : State → State :=
  sys 0 (fun _ s => enter n t 5 ((issued n t s).set F.ENG_INT_CAUSE_HALT n)) n t

def yield_ (n t : Nat) : State → State := sys 1 (fun _ s => complete n t 0 0 s) n t

def setFlag (v : Bool) (n t : Nat) : State → State :=
  sys (if v then 2 else 3) (fun w s => complete n t 0 0 (s.putBit F.ENG_FLAGS_FLAG (reg s n t (fb w) % 32) v n)) n t

def drop (n t : Nat) : State → State := sys 4 (fun _ s => (complete n t 0 0 s).clr F.ENG_THR_SUPER n t) n t

def self (n t : Nat) : State → State :=
  sys 5 (fun w s => complete n t (fa w) (n + 256 * t + 1024 * s.get F.ENG_THR_SUPER n t) s) n t

/-! ### Control from outside (R248, R262) -/

/-- The thread starts at ENTRY: its final held tags are released, its running operations free their own. -/
def launchThread (n t : Nat) (s : State) : State :=
  let s := s.each 256 (fun k u => if owned u n t k then letGo n k u else u)
  let s := ((s.clr F.ENG_THR_STAT_CAUSE n t).clr H.ENG_PAST n t).put F.ENG_THR_STAT_PC (s.get F.ENG_THR_ENTRY n t) n t
  enter n t 1 s

/-- THREAD_START: ignored for a thread that runs or waits, for a lane engine a leaf does not have (R248), and in SCRAPPED, where no engine
starts (Table LCM-1). -/
def start (n t : Nat) (s : State) : State :=
  if 65 ≤ n ∨ 4 ≤ t then s
  else if s.leaf && decide (16 ≤ n) && decide (n < 64) then s.set F.SYS_INT_CAUSE_ROLE_LIMIT
  else if s.get F.LCM_STATE_STATE = 5 then s
  else if 1 ≤ thread s n t ∧ thread s n t ≤ 3 then s
  else launchThread n t s

/-- THREAD_STOP. -/
def stop (n t : Nat) (s : State) : State :=
  if 1 ≤ thread s n t ∧ thread s n t ≤ 3 then enter n t 0 s else s

/-- No thread of the engine runs, waits or is stalled. -/
def quiet (s : State) (n : Nat) : Bool := s.get F.ENG_STAT_RUNNING n == 0

/-- MEM_ADDR after an access. -/
def memNext (n : Nat) (s : State) : State := s.put F.ENG_MEM_ADDR_ADDR (s.get F.ENG_MEM_ADDR_ADDR n + 4) n

/-- A read of MEM_DATA. -/
def memRead (n : Nat) (s : State) : Nat × State :=
  let a := s.get F.ENG_MEM_ADDR_ADDR n / 4
  (if s.on F.ENG_MEM_ADDR_SPACE n then s.get H.ENG_DMEM n a else s.get H.ENG_IMEM n a, memNext n s)

/-- A write of MEM_DATA; IMEM is written only while no thread of the engine runs (Table ENG-9). -/
def memWrite (n v : Nat) (s : State) : State :=
  let a := s.get F.ENG_MEM_ADDR_ADDR n / 4
  memNext n
    (if s.on F.ENG_MEM_ADDR_SPACE n then s.put H.ENG_DMEM v n a
     else if quiet s n then s.put H.ENG_IMEM v n a
     else s.set F.ENG_INT_CAUSE_MEM_REFUSED n)

end Sys2Proof.Machine.Eng
end

