-- ==== Sys2Proof/Machine/Lrx.lean ====
section
/-! DEFINITION. Sys2Proof/Machine/Lrx.lean: the line receive path (spec/03_line_receive.md, R48 to R73). -/
namespace Sys2Proof.Machine.Lrx
open Sys2Proof Sys2Proof.Machine

def subcarriers (s : State) : Nat := s.get F.LRX_LINE_CFG_NSC_M1 + 1

def state (s : State) : Nat := s.get F.LRX_STAT_STATE

/-- The received span (R50). -/
def span (s : State) : Nat × Nat :=
  if s.leaf then (s.get F.LRX_RXGRP_K_LO, s.get F.LRX_RXGRP_K_HI) else (0, subcarriers s - 1)

/-- W_rx in 10 kHz × N (R50). -/
def width (s : State) : Nat :=
  let p := span s
  (p.2 + 1 - p.1) * (100 + s.get F.LRX_LINE_CFG_SPACING) * s.get F.LRX_LINE_CFG_BAUD_MBD

/-- F_cap = min(4.0 GHz, (F_s/1.125 − W_rx)/2) in 100 kHz (R50). -/
def capture (s : State) : Nat :=
  let n := subcarriers s
  min 40000 ((8000 * n * s.get F.CVT_ADC_FS_FS_MHZ - 90 * width s) / (1800 * n))

/-- F_s ≥ 1.125 (W_rx + 1 GHz), in MHz × 100 N (R50); a leaf's group is at most 64 subcarriers wide and in order. -/
def rateOk (s : State) : Bool :=
  let p := span s
  let n := subcarriers s
  decide (p.1 ≤ p.2) && (!s.leaf || decide (p.2 + 1 - p.1 ≤ 64)) &&
  decide (9 * (width s + 100000 * n) ≤ 800 * n * s.get F.CVT_ADC_FS_FS_MHZ)

/-- The modes LRX permits in the role (Table LRX-3). -/
def modeOk (leaf : Bool) (entry : Nat) : Bool :=
  let mode := entry % 8
  mode == 0 || mode == 1 || (if leaf then mode == 2 else mode == 3 || mode == 4)

/-- The (leaf, SLOT subcarrier) pairs a bank needs tap sets for: the leaves that hold grants on each SLOT subcarrier (R59). -/
def slotPairs (s : State) (bank : Field) : List (Nat × Nat) :=
  ((List.range 64).flatMap (fun g =>
    let k := s.get F.SCM_GRANT_SC_SC g
    if s.on F.SCM_GRANT_SC_EN g && s.get bank k % 8 == 3 then
      (List.range 32).flatMap (fun p =>
        (if s.on F.SCM_GRANT_ACT_VAL_E g p then [(s.get F.SCM_GRANT_ACT_LEAF_E g p, k)] else []) ++
        (if s.on F.SCM_GRANT_ACT_VAL_O g p then [(s.get F.SCM_GRANT_ACT_LEAF_O g p, k)] else []))
    else [])).eraseDups

/-- The first entry of a receive bank that is not valid (R69); a table that needs more than 2,048 tap sets fails at its first SLOT
subcarrier (R59). -/
def firstBad (s : State) (bank : Field) : Option Nat :=
  let bad := (List.range (subcarriers s)).find? (fun k =>
    let e := s.get bank k
    !(Ltx.entryOk (s.get F.FEC_CFG_RATE_RX) e && modeOk s.leaf e))
  match bad with
  | some k => some k
  | none =>
    let slot := (List.range (subcarriers s)).find? (fun k => s.get bank k % 8 == 3)
    match slot with
    | none => none
    | some k => if 2048 < (slotPairs s bank).length then some k else none

/-- LRX_SHADOW_VALIDATE (R69). -/
def validate (s : State) : State :=
  match firstBad s H.LRX_SHADOW with
  | some k => ((s.clr F.LRX_STAT_SHADOW_READY).set F.LRX_INT_CAUSE_TABLE_ERR).put F.LRX_STAT_ERR_SC k
  | none => s.set F.LRX_STAT_SHADOW_READY

/-- Entries (subcarrier, word) are written into the receive shadow bank under a version; a locked bank ignores them (R36). -/
def writeShadow (ver : Nat) (entries : List (Nat × Nat)) (s : State) : State :=
  if s.on F.LRX_STAT_ANNOUNCED then s.set F.LRX_INT_CAUSE_SHADOW_LOCKED
  else validate ((s.eachOf entries (fun x t => t.put H.LRX_SHADOW x.2 x.1)).put H.LRX_SHADOW_VER ver)

/-- The announcement of an exchange at multiframe `mf` locks the shadow bank. -/
def announce (mf : Nat) (s : State) : State :=
  ((s.set F.LRX_STAT_ANNOUNCED).set H.LRX_SWAP_DUE).put H.LRX_SWAP_MF mf

/-- The receive entry of subcarrier k in use. -/
def entry (s : State) (k : Nat) : Nat := s.get H.LRX_ACTIVE k

/-- Subcarrier k lies in the span and is not NULL: it is demultiplexed (R56). -/
def processed (s : State) (k : Nat) : Bool :=
  decide ((span s).1 ≤ k) && decide (k ≤ (span s).2) && entry s k % 8 != 0

/-- A DATA or BEACON subcarrier in LOCK. -/
def anchored (s : State) : Bool :=
  (List.range (subcarriers s)).any (fun k =>
    s.get F.LRX_SC_STAT_LOCK k == 2 && processed s k && (entry s k % 8 == 1 || entry s k % 8 == 2))

/-- The taps of subcarrier k have adapted (R57), by CMA in ACQ and decision-directed in LOCK (`Receive.adapted`), which takes the samples
of the line: their new content is a free value (notes/assumptions/2.md). They are frozen by EQ_FREEZE and in LOS (R51), and between the slots
of a SLOT subcarrier (R59). -/
def adapt (k : Nat) (s : State) : State :=
  if s.on F.LRX_CTRL_EQ_FREEZE || s.on F.LRX_STAT_LOS || (entry s k % 8 == 3 && s.get H.LRX_SLOT_LEAF k == 512) then s
  else (s.put H.LRX_TAPS (s.free 64) k).drew

/-- Every subcarrier takes a lock state, and the window's lock is broken: ACQ where it is processed and `acq`, else IDLE. The spec names
no way into or out of IDLE: it is held here up to coarse lock, and by NULL subcarriers (notes/assumptions/87.md). -/
def relock (acq : Bool) (s : State) : State :=
  s.each (subcarriers s) (fun k t => (t.put F.LRX_SC_STAT_LOCK (b01 (acq && processed t k)) k).clr H.LRX_WIN_LOCK k)

/-- The state of Table LRX-2 changes; leaving TRACK sets TRACK_LOST, entering it TRACK (R64). -/
def enter (n : Nat) (s : State) : State :=
  let s := if state s = 5 ∧ n ≠ 5 then s.set F.LRX_INT_CAUSE_TRACK_LOST else s
  let s := if n = 5 ∧ state s ≠ 5 then s.set F.LRX_INT_CAUSE_TRACK else s
  s.put F.LRX_STAT_STATE n

/-- State CD is entered (R55): acquisition starts from the initial taps (R57); a running fade completes first (Table LRX-1). -/
def enterCd (s : State) : State :=
  let s := relock false (enter 2 s)
  let s := s.each (subcarriers s) (fun k t => (t.clr H.LRX_TAPS k).clr H.LRX_QUAD k)
  s.clr H.LRX_LLR_HOLD

/-- From PREFILL to CD (R64): the ADC bridges are prefilled and no rate increase is held. -/
def leavePrefill (s : State) : State :=
  if state s = 1 ∧ Pwr.prefilled s 528 16 ∧ !s.on H.PWR_HOLD_RX then enterCd s else s

/-- The checks of R72 in order; 0 where all pass. -/
def check (s : State) : Nat :=
  let b := s.get F.LRX_LINE_CFG_BAUD_MBD
  let sp := s.get F.LRX_LINE_CFG_SPACING
  let fs := s.get F.CVT_ADC_FS_FS_MHZ
  let res := s.get F.LRX_CD_RES_RES
  if b < 60000 ∨ 290000 < b ∨ sp < 1 ∨ 10 < sp then 1
  else if !s.on F.CVT_ADC_STAT_CLK_LOCK then 2
  else if fs < 4000 ∨ 340000 < fs ∨ !rateOk s then 3
  else if !Ltx.withinDmax res b || decide (res < (s.sget F.LRX_CD_D).natAbs) then 4
  else if (firstBad s H.LRX_ACTIVE).isSome then 5
  else if !Cvt.adcMapped s then 6
  else 0

/-- f_c,rx in MHz (R50): where the local oscillator of a leaf stands relative to the hub's carrier (R71). -/
def centreOffset (s : State) : Int :=
  let p := span s
  let n := subcarriers s
  roundDivInt ((((p.1 + p.2 + 1 : Nat) : Int) - n) * (((100 + s.get F.LRX_LINE_CFG_SPACING) * s.get F.LRX_LINE_CFG_BAUD_MBD : Nat) : Int))
    (200 * n)

/-- LRX.CTRL.EN written 1 (R72): on success the state is PREFILL, and the stage starts with the response for LRX.CD.D (R52). In leaf role
the local oscillator is set to the group through LSR (R71). -/
def enable (s : State) : State :=
  if s.on F.LRX_CTRL_EN then s
  else
    let c := check s
    if c = 0 then
      let s := ((enter 1 (s.set F.LRX_CTRL_EN)).clr F.LRX_STAT_CFG_STEP).put H.LRX_D_NOW (s.get F.LRX_CD_D)
      let s := if s.leaf then Lsr.tune 0 (centreOffset s) s else s
      let s := Pwr.vminRecompute (Fec.startRxAll s)
      let s := if Pwr.busy s && (s.on H.PWR_VMIN_ASKED || s.on H.PWR_VMIN_WAITS) then s.set H.PWR_HOLD_RX else s
      leavePrefill s
    else
      let s := (s.set F.LRX_INT_CAUSE_CFG_ERR).put F.LRX_STAT_CFG_STEP c
      if c = 6 then s.set F.CVT_ADC_STAT_MAP_ERR else s

/-- LRX_LOAD_CANCELLED (R73): an announced change is cancelled at the receiver. -/
def cancel (s : State) : State :=
  if s.on F.LRX_STAT_ANNOUNCED then
    let s := ((s.clr F.LRX_STAT_ANNOUNCED).clr F.LRX_STAT_SHADOW_READY).clr H.LRX_SWAP_DUE
    let s := s.set F.LRX_INT_CAUSE_LOAD_CANCELLED
    if !s.leaf && s.get F.SCM_CHG_STAT_US_STATE == 2 then s.clr F.SCM_CHG_STAT_US_STATE else s
  else s

/-- Every fade, held GO and armed fade is abandoned (Table LRX-1). -/
def dropFades (s : State) : State :=
  ((s.clr F.LRX_STAT_CD_FADING).clr F.LRX_STAT_CD_ARMED).clr F.LRX_STAT_CD_HELD

/-- LRX.CTRL.EN written 0 (R73); an announced change is cancelled also where EN was 0. -/
def disable (s : State) : State :=
  if s.on F.LRX_CTRL_EN then
    let s := relock false (enter 0 (s.clr F.LRX_CTRL_EN))
    let s := (dropFades s).clr F.LRX_STAT_ACQ_RETRY
    let s := if s.on F.LRX_STAT_LOS then (s.clr F.LRX_STAT_LOS).set F.LRX_INT_CAUSE_LOS_CHG else s
    Pwr.vminRecompute (cancel ((s.clr H.PWR_HOLD_RX).clr H.LRX_LLR_HOLD))
  else cancel s

/-- A write of LRX.CTRL.RESTART (R64). -/
def restart (s : State) : State := if state s = 0 then s else enterCd s

/-- The combined RMS, in 1/4 LSB, has stayed below LOS_THR (R51). A HOLD_MS of 0 returns to CD as soon as LOS is set. -/
def losSet (rms : Nat) (s : State) : State :=
  if s.on F.LRX_CTRL_EN && !s.on F.LRX_STAT_LOS && decide (rms < s.get F.LRX_ACQ_CFG_LOS_THR) then
    let s := (s.set F.LRX_STAT_LOS).set F.LRX_INT_CAUSE_LOS_CHG
    if s.get F.LRX_ACQ_CFG_HOLD_MS = 0 ∧ 2 ≤ state s then enterCd s else s
  else s

/-- The blocks of a fade: 2^K, K limited to 2 to 10 (R53). -/
def fadeBlocks (s : State) : Nat := 2 ^ max 2 (min 10 (s.get F.LRX_CD_CTRL_K))

/-- CD_FADE_START (R53): a fade to `d` starts, over 2^K blocks of the K of that moment (notes/assumptions/87.md). -/
def startFade (d : Nat) (s : State) : State :=
  ((s.set F.LRX_STAT_CD_FADING).put H.LRX_D_FADE d).put H.LRX_FADE_LEN (fadeBlocks s)

/-- The combined RMS has stayed at or above LOS_THR + LOS_HYST (R51): tracking resumes, the LLRs staying invalid until carrier
phase is re-acquired (R61), and an armed fade starts (R53). -/
def losClear (rms : Nat) (s : State) : State :=
  if s.on F.LRX_STAT_LOS && decide (s.get F.LRX_ACQ_CFG_LOS_THR + s.get F.LRX_ACQ_CFG_LOS_HYST ≤ rms) then
    let s := (s.clr F.LRX_STAT_LOS).set F.LRX_INT_CAUSE_LOS_CHG
    let s := if 3 ≤ state s then s.set H.LRX_LLR_HOLD else s
    if s.on F.LRX_STAT_CD_ARMED then startFade (s.get H.LRX_D_ARMED) (s.clr F.LRX_STAT_CD_ARMED) else s
  else s

/-- LOS has lasted longer than HOLD_MS (R51, Table LRX-2). -/
def losExpired (s : State) : State := if s.on F.LRX_STAT_LOS && decide (2 ≤ state s) then enterCd s else s

/-- |LRX.CD.D| lies within the reservation (R52). -/
def dInRange (s : State) : Bool := decide ((s.sget F.LRX_CD_D).natAbs ≤ s.get F.LRX_CD_RES_RES)

/-- CD_GO (R53, Table LRX-1). While LRX is OFF the stage does not run and a GO in range does nothing, which the spec does not say
(notes/assumptions/87.md). -/
def cdGo (s : State) : State :=
  if !dInRange s then s.set F.LRX_INT_CAUSE_CD_RANGE
  else if state s = 0 then s
  else
    let s := s.clr F.LRX_STAT_CD_ARMED
    if s.on F.LRX_STAT_CD_FADING then (s.set F.LRX_STAT_CD_HELD).put H.LRX_D_HELD (s.get F.LRX_CD_D)
    else startFade (s.get F.LRX_CD_D) s

/-- CD_ARM (R53, Table LRX-1); while LRX is OFF as CD_GO (notes/assumptions/87.md). -/
def cdArm (s : State) : State :=
  if s.on F.LRX_STAT_CD_FADING || s.on F.LRX_STAT_CD_HELD then s.set F.LRX_INT_CAUSE_CFG_ERR
  else if !dInRange s then s.set F.LRX_INT_CAUSE_CD_RANGE
  else if state s = 0 then s
  else (s.set F.LRX_STAT_CD_ARMED).put H.LRX_D_ARMED (s.get F.LRX_CD_D)

def cdDisarm (s : State) : State := s.clr F.LRX_STAT_CD_ARMED

/-- A dispersion fade has run for `blocks` blocks: at its end (R53) CD_DONE is set, and a held GO starts. -/
def cdFadeDone (blocks : Nat) (s : State) : State :=
  if s.on F.LRX_STAT_CD_FADING && decide (s.get H.LRX_FADE_LEN ≤ blocks) then
    let s := ((s.clr F.LRX_STAT_CD_FADING).put H.LRX_D_NOW (s.get H.LRX_D_FADE)).set F.LRX_INT_CAUSE_CD_DONE
    if s.on F.LRX_STAT_CD_HELD then startFade (s.get H.LRX_D_HELD) (s.clr F.LRX_STAT_CD_HELD)
    else s
  else s

/-- State CD ends (R55): with CD_AUTO the estimate is written to CD_EST and LRX.CD and applied, else the host's value is; LRX goes
to COARSE. An estimate lies within ±RES, where the scan looks (`Receive.scan`). In TRACK the estimate alone is kept up to date, but not
while LOS freezes tracking (R51). -/
def cdEstimate (est : Int) (s : State) : State :=
  let res : Int := ((s.get F.LRX_CD_RES_RES : Nat) : Int)
  if state s = 2 ∧ !s.on F.LRX_STAT_CD_FADING then
    let s :=
      if s.on F.LRX_CTRL_CD_AUTO then
        let est := clampInt (-res) res est
        ((s.sput F.LRX_CD_EST_EST est).set F.LRX_CD_EST_VALID).sput F.LRX_CD_D est
      else s
    enter 3 (s.put H.LRX_D_NOW (s.get F.LRX_CD_D))
  else if state s = 5 ∧ !s.on F.LRX_STAT_LOS then (s.sput F.LRX_CD_EST_EST est).set F.LRX_CD_EST_VALID
  else s

/-- Coarse lock (R60): an estimate within ±F_cap, given in 100 kHz, that moves by no more than `spread` has settled within ±30 MHz. The
digital rotation takes the offset out, and the subcarriers acquire. -/
def coarseLock (ofs : Int) (spread : Nat) (s : State) : State :=
  if state s = 3 ∧ ofs.natAbs ≤ capture s ∧ spread ≤ 300 ∧ !s.on F.LRX_STAT_LOS then
    relock true (enter 4 (s.sput H.LRX_ROT (ofs * 32768)))
  else s

/-- ACQ_TMO since entering CD without coarse lock, or without a lock in SUBCARRIER (R60, Table LRX-2). -/
def acqTimeout (s : State) : State :=
  if 2 ≤ state s ∧ state s ≤ 4 then
    enterCd ((s.set F.LRX_INT_CAUSE_ACQ_TMO).count F.LRX_STAT_ACQ_RETRY)
  else s

/-- Subcarrier k has had an SNR (1/16 dB) at or above LOCK_SNR in 4 consecutive updates (R65); the first DATA or BEACON
subcarrier to lock brings TRACK (R64). -/
def scLock (k snr : Nat) (s : State) : State :=
  if 4 ≤ state s ∧ !s.on F.LRX_STAT_LOS ∧ processed s k ∧ s.get F.LRX_SC_STAT_LOCK k ≠ 2 ∧ s.get F.LRX_EQ_CFG_LOCK_SNR ≤ snr then
    let s := Fec.validFrom k (adapt k (s.put F.LRX_SC_STAT_LOCK 2 k))
    if state s = 4 ∧ (entry s k % 8 = 1 ∨ entry s k % 8 = 2) then enter 5 s else s
  else s

/-- Subcarrier k has had an SNR below LOCK_SNR − 1 dB in 4 consecutive updates (R65); LOS freezes it (R51). -/
def scUnlock (k snr : Nat) (s : State) : State :=
  if s.get F.LRX_SC_STAT_LOCK k = 2 ∧ !s.on F.LRX_STAT_LOS ∧ snr + 16 < s.get F.LRX_EQ_CFG_LOCK_SNR then
    (s.put F.LRX_SC_STAT_LOCK 1 k).clr H.LRX_WIN_LOCK k
  else s

/-- No DATA or BEACON subcarrier has been in LOCK for 16 frames (R64), LOS not freezing them (R51). -/
def trackLost (s : State) : State := if state s = 5 ∧ !s.on F.LRX_STAT_LOS ∧ !anchored s then relock false (enter 3 s) else s

/-- The two outputs of subcarrier k correlate with `num`/`den` in magnitude over a frame: above 0.8 both have converged to one polarisation
(R58). -/
def singular (k num den : Nat) (s : State) : State :=
  if 4 ≤ state s ∧ processed s k ∧ !s.on F.LRX_STAT_LOS ∧ 4 * den < 5 * num then
    ((((s.put F.LRX_SC_STAT_LOCK 1 k).clr H.LRX_WIN_LOCK k).clr H.LRX_TAPS k).count F.LRX_SING_CNT_COUNT).set
      F.LRX_INT_CAUSE_SINGULAR
  else s

/-- A frame alignment word of subcarrier k is found rotated by `turns` quarter turns (R61): with CS_EN the rotation is corrected from that
frame on, so that the quadrant kept in LRX_QUAD grows by it. A subcarrier whose carrier recovery LOS freezes shows none. -/
def cycleSlip (k turns : Nat) (s : State) : State :=
  if turns % 4 = 0 ∨ !processed s k ∨ s.on F.LRX_STAT_LOS then s
  else
    let s := if s.on F.LRX_CR_CFG_CS_EN then s.countWrap H.LRX_QUAD turns k else s
    ((s.count F.LRX_SC_STAT_CSLIP 1 k).count F.LRX_CSLIP_CNT_COUNT).set F.LRX_INT_CAUSE_CYCLE_SLIP

/-- Carrier phase has been re-acquired after LOS cleared within HOLD_MS (R61): the LLRs become valid again. -/
def phaseReacquired (s : State) : State :=
  if s.on F.LRX_STAT_LOS || !s.on H.LRX_LLR_HOLD then s
  else (s.clr H.LRX_LLR_HOLD).each (subcarriers s) (fun k t => if t.get F.LRX_SC_STAT_LOCK k = 2 then Fec.validFrom k t else t)

/-- The outputs stand at an end of the ±3.6 GHz range (R63). -/
def lofbLimit (s : State) (fine : Int) : Bool :=
  let ser := s.sget F.LRX_LOFB_STAT_SER
  (decide (400 ≤ fine) && decide (3200 ≤ ser)) || (decide (fine ≤ -400) && decide (ser ≤ -3200))

/-- FTUNE0's present value with its fraction (R62): what LRX last gave it, or what the host wrote since. -/
def fine (s : State) : Int :=
  let x := s.sget H.LRX_FINE
  let mhz := s.sget F.LSR_FT_OUT_MHZ 0
  if roundDivInt x (10 * 32768) = mhz then x else mhz * 327680

/-- Show the fine-tune output: FTUNE0 through LSR with LOFB_STAT.FINE, and the limit (R62, R63). -/
def showFine (x : Int) (s : State) : State :=
  let mhz := roundDivInt x (10 * 32768)
  let s := Lsr.setFine 0 mhz (s.sput H.LRX_FINE x)
  let lim := lofbLimit s mhz
  let s := if lim && !s.on F.LRX_STAT_LOFB_LIMIT then s.set F.LRX_INT_CAUSE_LOFB_LIMIT else s
  s.put F.LRX_STAT_LOFB_LIMIT (b01 lim)

/-- LOFB_OFFLOAD (R63): past ±300 MHz a serial offset equal to the fine-tune value is commanded, within ±3.2 GHz, and the
fine-tune output held. -/
def offload (s : State) : State :=
  let fine := s.sget F.LRX_LOFB_STAT_FINE
  let ser := s.sget F.LRX_LOFB_STAT_SER
  let tgt := clampInt (-3200) 3200 (ser + fine)
  if 300 < fine.natAbs ∧ !s.on H.LRX_LOFB_STOPPED ∧ !s.on F.LRX_STAT_LOFB_PENDING ∧ tgt ≠ ser then
    let s := ((s.set F.LRX_STAT_LOFB_PENDING).sput H.LRX_LOFB_OFFLOAD (tgt - ser)).clr H.LSR_OWN_DONE
    Lsr.ownCommand 0 (Lsr.offsetCommand s 0 tgt) s
  else s

/-- LOFB_UPDATE (R62): the total offset, the coarse rotation plus the mean fine offset of the locked subcarriers (100 kHz), is reported, and
the fine-tune output moves by 2^−GAIN of it, within ±400 MHz, the rotation following the step so that the received signal does not move;
while an offload is pending it is held (R63). -/
def lofbUpdate (mean : Int) (s : State) : State :=
  if s.on F.LRX_CTRL_LOFB_EN && (state s == 3 || state s == 5) && !s.on F.LRX_STAT_LOS then
    let total := roundDivInt (s.sget H.LRX_ROT) 32768 + mean
    let s := s.sput F.LRX_CFO_TOTAL total
    if s.on F.LRX_STAT_LOFB_PENDING then s
    else
      let x := clampInt (-131072000) 131072000 (fine s + total * (32768 / 2 ^ s.get F.LRX_LOFB_CFG_GAIN : Nat))
      offload (showFine x (s.sput H.LRX_ROT (s.sget H.LRX_ROT - (x - fine s))))
  else s

/-- LSR reports the offload complete (R63): the fine-tune output steps back by the same amount. LSR_OWN_DONE is LSR's report. -/
def offloadDone (s : State) : State :=
  if s.on F.LRX_STAT_LOFB_PENDING && s.on H.LSR_OWN_DONE then
    let d := s.sget H.LRX_LOFB_OFFLOAD
    let s := ((s.clr F.LRX_STAT_LOFB_PENDING).clr H.LSR_OWN_DONE).sput F.LRX_LOFB_STAT_SER (s.sget F.LRX_LOFB_STAT_SER + d)
    showFine (fine s - d * 327680) s
  else s

/-- The offload has not completed within SER_TMO (R63): the output stays held and offloading stops. -/
def offloadError (s : State) : State :=
  if s.on F.LRX_STAT_LOFB_PENDING then (s.set F.LRX_INT_CAUSE_LOFB_ERR).set H.LRX_LOFB_STOPPED else s

/-- An impossible shaping block of subcarrier k (R70): its bits pass marked errored. -/
def dmError (k : Nat) (s : State) : State := Fec.mark k ((s.count F.LRX_DM_ERR_CNT_COUNT).set F.LRX_INT_CAUSE_DM_ERR)

/-- One subcarrier's three SNRs latch (R66); VALID where it was in LOCK for the whole window. -/
def latchSnr (k x y c : Nat) (s : State) : State :=
  let s := (((s.put F.LRX_SNR_SNR_X (atMost 1023 x) k).put F.LRX_SNR_SNR_Y (atMost 1023 y) k).put F.LRX_SNR_SNR (atMost 1023 c) k).put
    F.LRX_SNR_VALID (s.get H.LRX_WIN_LOCK k) k
  s.put H.LRX_WIN_LOCK (b01 (s.get F.LRX_SC_STAT_LOCK k == 2)) k

/-- A leaf's SNRs over its slots latch (R66). -/
def latchLeaf (l x y c ok : Nat) (s : State) : State :=
  (((s.put F.LRX_SNR_LEAF_SNR_X (atMost 1023 x) l).put F.LRX_SNR_LEAF_SNR_Y (atMost 1023 y) l).put
    F.LRX_SNR_LEAF_SNR (atMost 1023 c) l).put F.LRX_SNR_LEAF_VALID ok l

/-- The estimates of the window (R67), kept in TRACK only: delay, loss, residual dispersion and the received carrier offset. -/
def latchImpairments (imp : List Int) (s : State) : State :=
  if state s = 5 then
    match imp with
    | dgd :: pdl :: resid :: rest =>
      let s := ((s.put F.LRX_IMP_DGD (atMost 1023 dgd.toNat)).put F.LRX_IMP_PDL (atMost 1023 pdl.toNat)).sput
        F.LRX_CD_RESID_RESID resid
      match rest with
      | cfo :: _ => s.sput F.LRX_CFO_TOTAL cfo
      | [] => s
    | _ => s
  else s

/-- The set allocated to a (leaf, subcarrier) pair. -/
def ownSet (s : State) (l k : Nat) : Option Nat := (List.range 2048).find? (fun i => s.get H.LRX_SET_OWNER i == 1 + 512 * l + k)

/-- The set allocated to a pair, or the first free one (R59). -/
def setOf (s : State) (l k : Nat) : Option Nat :=
  match ownSet s l k with
  | some i => some i
  | none => (List.range 2048).find? (fun i => s.get H.LRX_SET_OWNER i == 0)

/-- The tap sets of pairs that the receive table no longer has are freed (R59). -/
def freeSets (s : State) : State :=
  if s.leaf then s
  else
    let pairs := slotPairs s H.LRX_ACTIVE
    s.each 2048 (fun i t =>
      let o := t.get H.LRX_SET_OWNER i
      if o != 0 && !pairs.contains ((o - 1) / 512, (o - 1) % 512) then t.clr H.LRX_SET_OWNER i else t)

/-- At the start of a leaf's slot on SLOT subcarrier k its tap set is loaded; the pair's set is allocated at its first slot, from the initial
taps in ACQ. At the end the set is saved (R59). -/
def tapSwitch (k l : Nat) (start : Bool) (s : State) : State :=
  if s.leaf ∨ !(slotPairs s H.LRX_ACTIVE).contains (l, k) then s
  else
    match if start then setOf s l k else ownSet s l k with
    | none => s
    | some i =>
      if start then
        let fresh := s.get H.LRX_SET_OWNER i == 0
        let s := if fresh then ((s.put H.LRX_SET_OWNER (1 + 512 * l + k) i).clr H.LRX_TAP_SET i).put H.LRX_SET_LOCK 1 i else s
        ((s.put H.LRX_TAPS (s.get H.LRX_TAP_SET i) k).put F.LRX_SC_STAT_LOCK (s.get H.LRX_SET_LOCK i) k).put H.LRX_SLOT_LEAF l k
      else if s.get H.LRX_SLOT_LEAF k = l then
        let s := adapt k s
        ((s.put H.LRX_TAP_SET (s.get H.LRX_TAPS k) i).put H.LRX_SET_LOCK (s.get F.LRX_SC_STAT_LOCK k) i).put H.LRX_SLOT_LEAF 512 k
      else s

/-- The exchange of the receive banks (R36, R69), all 512 entries of each; the streams of changed subcarriers start anew (R89), the tap sets of pairs that
the table no longer has are freed (R59), and subcarriers that become NULL go to IDLE. -/
def swap (s : State) : State :=
  let n := subcarriers s
  let s := s.each 512 (fun k t =>
    let a := t.get H.LRX_ACTIVE k
    let b := t.get H.LRX_SHADOW k
    let t := (t.put H.LRX_ACTIVE b k).put H.LRX_SHADOW a k
    if n ≤ k then t else
    let t := if Fec.swapStarts a b then Fec.startRx k t else t
    if b % 8 = 0 then (t.clr F.LRX_SC_STAT_LOCK k).clr H.LRX_WIN_LOCK k
    else if a % 8 = 0 ∧ 4 ≤ state t then ((t.put F.LRX_SC_STAT_LOCK 1 k).clr H.LRX_TAPS k).clr H.LRX_WIN_LOCK k
    else t)
  let s := freeSets s
  let va := s.get H.LRX_ACT_VER
  let s := (s.put H.LRX_ACT_VER (s.get H.LRX_SHADOW_VER)).put H.LRX_SHADOW_VER va
  let s := (s.put F.LRX_STAT_BANK (1 - s.get F.LRX_STAT_BANK)).set F.LRX_INT_CAUSE_LOAD_SWAP
  ((s.clr F.LRX_STAT_SHADOW_READY).clr F.LRX_STAT_ANNOUNCED).clr H.LRX_SWAP_DUE

def cfgErr (s : State) : State := s.set F.LRX_INT_CAUSE_CFG_ERR

/-- A write to LRX.LINE_CFG (R73). -/
def writeLineCfg (v : Nat) (s : State) : State :=
  if s.on F.LRX_CTRL_EN then cfgErr s
  else ((s.put F.LRX_LINE_CFG_BAUD_MBD (slice v 0 19)).put F.LRX_LINE_CFG_SPACING (slice v 19 4)).put F.LRX_LINE_CFG_NSC_M1 (slice v 23 9)

/-- A write to LRX.RXGRP (R73); in leaf role a group wider than 64 subcarriers is beyond the role's limits (R2). -/
def writeRxGrp (v : Nat) (s : State) : State :=
  if s.on F.LRX_CTRL_EN then cfgErr s
  else if s.leaf && decide (slice v 0 9 + 63 < slice v 16 9) then s.set F.SYS_INT_CAUSE_ROLE_LIMIT
  else (s.put F.LRX_RXGRP_K_LO (slice v 0 9)).put F.LRX_RXGRP_K_HI (slice v 16 9)

/-- A write to LRX.CD_RES (R52). -/
def writeCdRes (v : Nat) (s : State) : State := if s.on F.LRX_CTRL_EN then cfgErr s else s.put F.LRX_CD_RES_RES v

/-- The tap count a TAPS value acts as (R57). -/
def tapCount (v : Nat) : Nat := let t := if v % 2 = 0 then v + 1 else v; max 7 (atMost 31 t)

/-- A write to LRX.EQ_CFG (R57): TAPS changes only while EN is 0. -/
def writeEqCfg (v : Nat) (s : State) : State :=
  let s :=
    if slice v 0 5 = s.get F.LRX_EQ_CFG_TAPS then s
    else if s.on F.LRX_CTRL_EN then cfgErr s
    else s.put F.LRX_EQ_CFG_TAPS (slice v 0 5)
  ((s.put F.LRX_EQ_CFG_MU_ACQ (slice v 8 4)).put F.LRX_EQ_CFG_MU_TRK (slice v 12 4)).put F.LRX_EQ_CFG_LOCK_SNR (slice v 16 10)

/-- A write to LRX.CD_CTRL. The spec gives no order for the command bits of one write: DISARM acts first, then GO, then ARM, which a fade
that GO started refuses (notes/assumptions/87.md). -/
def writeCdCtrl (v : Nat) (s : State) : State :=
  let s := s.put F.LRX_CD_CTRL_K (slice v 0 4)
  let s := s.when (v.testBit 6) cdDisarm
  let s := s.when (v.testBit 4) cdGo
  s.when (v.testBit 5) cdArm

/-- A write to LRX.CTRL: writing LOFB_EN 1 also restarts offloading. RESTART acts after EN, on the state that EN leaves, PREFILL too: the
spec gives no order for the two in one write (notes/assumptions/87.md). -/
def writeCtrl (v : Nat) (s : State) : State :=
  let s := ((s.put F.LRX_CTRL_CD_AUTO (slice v 1 1)).put F.LRX_CTRL_EQ_FREEZE (slice v 2 1)).put F.LRX_CTRL_LOFB_EN (slice v 3 1)
  let s := if v.testBit 3 then (if s.on H.LRX_LOFB_STOPPED then (s.clr H.LRX_LOFB_STOPPED).clr F.LRX_STAT_LOFB_PENDING else s) else s
  let s := if v.testBit 0 then enable s else disable s
  s.when (v.testBit 4) restart

end Sys2Proof.Machine.Lrx
end

