-- ==== Sys2Proof/Machine/Hsl.lean ====
section
/-! DEFINITION. Sys2Proof/Machine/Hsl.lean: host serial lanes and clients (spec/08_host_lanes.md, R172 to R188). -/
namespace Sys2Proof.Machine.Hsl
open Sys2Proof Sys2Proof.Machine

/-- Table HSL-2: TYPE, lanes of an instance, and the OTUC number of an instance (0 for Ethernet). -/
def types : List (Nat × Nat × Nat) :=
  [(1, 2, 0), (2, 1, 0), (3, 4, 0), (4, 2, 0), (5, 1, 0), (6, 8, 0), (7, 4, 0), (8, 2, 0), (9, 8, 0), (10, 4, 0), (11, 8, 0),
   (16, 2, 1), (17, 1, 1), (18, 4, 2), (19, 2, 2), (20, 8, 4), (21, 4, 4), (22, 2, 4)]

def typeRow (t : Nat) : Option (Nat × Nat) := (types.find? (fun x => x.1 == t)).map Prod.snd

def typeOf (s : State) (c : Nat) : Nat := s.get F.HSL_CLI_CFG_TYPE c
def defined (t : Nat) : Bool := (typeRow t).isSome
def isFlexo (t : Nat) : Bool := decide (16 ≤ t) && defined t
def isEthernet (t : Nat) : Bool := decide (t < 16) && defined t

/-- The lanes of client c: how many (R176), and the numbers. -/
def width (s : State) (c : Nat) : Nat :=
  match typeRow (typeOf s c) with
  | some (k, _) => k * (s.get F.HSL_CLI_CFG_M_M1 c + 1)
  | none => 0

def lanes (s : State) (c : Nat) : List Nat := (List.range (width s c)).map (fun i => s.get F.HSL_CLI_CFG_FIRST_LANE c + i)

def enabled (s : State) (c : Nat) : Bool := s.on F.HSL_CLI_CFG_EN c

/-- The enabled client that lane n belongs to. -/
def clientOf (s : State) (n : Nat) : Option Nat := (List.range 32).find? (fun c => enabled s c && (lanes s c).contains n)

/-- The link state of client c (Table HSL-3): 0 OFF, 1 SIGNAL, 2 CDR, 3 LANE_LOCK, 4 ORDER, 5 DESKEW, 6 UP. -/
def state (s : State) (c : Nat) : Nat := s.get F.HSL_CLI_STAT_STATE c

/-- n of the client's OTUCn (R176). -/
def otucn (s : State) (c : Nat) : Nat :=
  match typeRow (typeOf s c) with
  | some (_, n) => n * (s.get F.HSL_CLI_CFG_M_M1 c + 1)
  | none => 0

/-- The client moves to a link state; entries to and exits from UP are reported (R179). -/
def move (c n : Nat) (s : State) : State :=
  let old := state s c
  let s := s.put F.HSL_CLI_STAT_STATE n c
  if old ≠ 6 ∧ n = 6 then s.set F.HSL_INT_CAUSE_CLI_UP
  else if old = 6 ∧ n ≠ 6 then s.set F.HSL_INT_CAUSE_CLI_DOWN
  else s

/-! ### Egress (R177, R185, R186) -/

/-- The timing of client c's egress (R186): 0 SYN line transmit timing, 1 SYN local oscillator, 2 its own NCO. -/
def timing (s : State) (c : Nat) : Nat := if s.get F.HSL_CLI_CFG_TCLK c = 3 then 1 else s.get F.HSL_CLI_CFG_TCLK c

/-- The loop bandwidth in Hz. -/
def bandwidth (s : State) (c : Nat) : Nat := match s.get F.HSL_CLI_CFG_JT_BW c with | 0 => 10 | 1 => 100 | _ => 1000

/-- One update of the second-order loop of client c's NCO from a justification and the fill of the egress buffer: within ±400 ppm. The spec
gives the loop its order, inputs and bandwidth, and no coefficients (notes/assumptions/2.md). -/
def steer (c : Nat) (j : Int) (fill : Nat) (s : State) : State :=
  let r := Config.adaptiveLoop (bandwidth s c) (signed 20 (s.get H.HSL_NCO c)) (s.get H.HSL_NCO_INT c) j fill
  (s.put H.HSL_NCO (unsigned 20 (clampInt (-400000) 400000 r.1)) c).put H.HSL_NCO_INT r.2 c

/-- The client's replacement signal (R163): for OTUCn ODUk AIS, else the local-fault ordered set. -/
def replacement (s : State) (c : Nat) : Egress := if isFlexo (typeOf s c) then .oduAis else .localFault

/-- Client c's egress sends its replacement signal until a valid flow feeds it (R177, R185). -/
def replace (c : Nat) (s : State) : State := (s.put H.HSL_OUT 1 c).emit (.egress c (replacement s c))

/-- The reach of a lane (Table HSL-1): 3 acts as 1, and a 212G lane has no long one. -/
def reach (s : State) (n : Nat) (is212 : Bool) : Nat :=
  let r := s.get F.HSL_LANE_CFG_REACH n
  if r = 3 ∨ (r = 2 ∧ is212) then 1 else r

/-- A bit of a lane as it is received and as it is sent (R180): inversion complements both bits of a PAM4 symbol. -/
def received (s : State) (n : Nat) (bit : Bool) : Bool := bit != s.on F.HSL_LANE_STAT_RX_INV n
def sent (s : State) (n : Nat) (bit : Bool) : Bool := bit != s.on F.HSL_LANE_CFG_TX_INV n

/-! ### Raw conditions (R172) -/

def rawLol (s : State) (n : Nat) : Bool :=
  (clientOf s n).isSome && !(s.on F.HSL_LANE_STAT_SIG n && s.on F.HSL_LANE_STAT_CDR_LOCK n)

def rawLofLane (s : State) (n : Nat) : Bool :=
  match clientOf s n with
  | some c => isFlexo (typeOf s c) && s.on F.HSL_LANE_STAT_CDR_LOCK n && !s.on F.HSL_LANE_STAT_AM_LOCK n
  | none => false

def rawLoa (s : State) (c : Nat) : Bool := enabled s c && decide (state s c < 6)

/-- RCLK_SQUELCH (R187): each recovered clock is squelched while disabled, its lane's raw dLOL is present, or its lane is of no enabled
client; a change is reported. -/
def squelch (s : State) : State :=
  s.each 4 (fun i t =>
    let n := t.get F.HSL_RCLK_SEL_LANE i
    let sq := !t.on F.HSL_RCLK_SEL_EN i || rawLol t n || (clientOf t n).isNone
    if sq = t.on F.HSL_RCLK_SEL_SQUELCHED i then t
    else (t.put F.HSL_RCLK_SEL_SQUELCHED (b01 sq) i).set F.HSL_INT_CAUSE_RCLK_SQ)

/-! ### Bring-up (R179 to R183) -/

/-- ORDER_JUDGE (R181): 0 ASC, 1 DESC, 2 MIXED, 3 SINGLE, from the lane numbers carried. -/
def judge (ids : List Nat) : Nat :=
  if ids.length ≤ 1 then 3
  else
    let pairs := ids.zip (ids.drop 1)
    if pairs.all (fun p => decide (p.1 < p.2)) then 0
    else if pairs.all (fun p => decide (p.2 < p.1)) then 1
    else 2

/-- Entry to ORDER: the fields of CLI_CFG written since take effect (R184), the order is judged and TX_REV follows REV_MODE; DESKEW
comes in the same symbol. -/
def order (c : Nat) (s : State) : State :=
  let s := (s.put H.HSL_REV_USED (s.get F.HSL_CLI_CFG_REV_MODE c) c).put H.HSL_HOLD_USED (s.get F.HSL_CLI_CFG_DSK_HOLD c) c
  let j := judge ((lanes s c).map (fun n => s.get F.HSL_LANE_STAT_LANE_ID n))
  let rev := match s.get H.HSL_REV_USED c with
    | 0 => 0
    | 1 => b01 (j == 1)
    | _ => 1
  move c 5 ((s.put F.HSL_CLI_STAT_ORDER j c).put F.HSL_CLI_STAT_TX_REV rev c)

/-- The client climbs while the condition of its state holds on every lane (Table HSL-3). -/
def climb (c : Nat) (s : State) : State :=
  let all := fun (f : Field) (t : State) => (lanes t c).all (fun n => t.on f n)
  let s := if state s c = 1 ∧ all F.HSL_LANE_STAT_SIG s then move c 2 s else s
  let s := if state s c = 2 ∧ all F.HSL_LANE_STAT_CDR_LOCK s then move c 3 s else s
  if state s c = 3 ∧ all F.HSL_LANE_STAT_AM_LOCK s then order c s else s

/-- A lane event takes the client down to state n where it stands above it (R179). -/
def fall (c n : Nat) (s : State) : State := if n < state s c then move c n s else s

/-- An event on a lane of an enabled client. -/
def onLane (n : Nat) (f : Nat → State → State) (s : State) : State :=
  match clientOf s n with
  | some c => squelch (f c s)
  | none => s

def signalDetect (n : Nat) (s : State) : State := onLane n (fun c t => climb c (t.set F.HSL_LANE_STAT_SIG n)) s

/-- A lane loses its lock on the clock or the markers: what rests on it falls too. -/
def loseMarkers (n : Nat) (s : State) : State := s.clr F.HSL_LANE_STAT_AM_LOCK n

def loseCdr (n : Nat) (s : State) : State := loseMarkers n (s.clr F.HSL_LANE_STAT_CDR_LOCK n)

def signalLoss (n : Nat) (s : State) : State :=
  onLane n (fun c t =>
    let t := if t.on F.HSL_LANE_STAT_CDR_LOCK n then t.count F.HSL_LANE_STAT_LOCK_LOST 1 n else t
    fall c 1 (loseCdr n (t.clr F.HSL_LANE_STAT_SIG n))) s

def cdrLock (n : Nat) (s : State) : State :=
  onLane n (fun c t =>
    if t.on F.HSL_LANE_STAT_SIG n && decide (2 ≤ state t c) then climb c (t.set F.HSL_LANE_STAT_CDR_LOCK n) else t) s

def cdrLoss (n : Nat) (s : State) : State :=
  onLane n (fun c t =>
    if t.on F.HSL_LANE_STAT_CDR_LOCK n then fall c 2 (loseCdr n (t.count F.HSL_LANE_STAT_LOCK_LOST 1 n)) else t) s

/-- LANE_LOCK (R180): markers found, complemented or not, carrying lane number `id`. -/
def laneLock (n comp id : Nat) (s : State) : State :=
  onLane n (fun c t =>
    let auto := t.on F.HSL_LANE_CFG_POL_AUTO n
    let inv := if auto then min 1 comp else t.get F.HSL_LANE_CFG_RX_INV_FORCE n
    if t.on F.HSL_LANE_STAT_CDR_LOCK n && decide (3 ≤ state t c) && (auto || min 1 comp == inv) then
      climb c (((t.set F.HSL_LANE_STAT_AM_LOCK n).put F.HSL_LANE_STAT_RX_INV inv n).put F.HSL_LANE_STAT_LANE_ID id n)
    else t) s

def markerLoss (n : Nat) (s : State) : State :=
  onLane n (fun c t =>
    if t.on F.HSL_LANE_STAT_AM_LOCK n then fall c 3 (loseMarkers n (t.count F.HSL_LANE_STAT_LOCK_LOST 1 n)) else t) s

/-- EGRESS_ORDER_CHANGE (R181): at an alignment-marker boundary the egress takes TX_REV. -/
def egressOrder (c : Nat) (s : State) : State :=
  let r := s.get F.HSL_CLI_STAT_TX_REV c
  if s.get H.HSL_EGRESS_REV c = r then s else (s.put H.HSL_EGRESS_REV r c).set F.HSL_INT_CAUSE_ORDER_CHG

/-- The physical lane that carries logical lane i of client c (R181). -/
def egressLane (s : State) (c i : Nat) : Nat :=
  s.get F.HSL_CLI_CFG_FIRST_LANE c + (if s.on H.HSL_EGRESS_REV c then width s c - 1 - i else i)

/-- DESKEW_MEASURE (R182): the skew in 0.1 ns. -/
def deskew (c meas : Nat) (s : State) : State :=
  if state s c ≠ 5 then s
  else
    let s := s.put F.HSL_CLI_DSK_MEAS (min meas 2047) c
    let hold := s.get H.HSL_HOLD_USED c
    let exceeds := hold != 0 && decide (hold < meas)
    let s := s.put F.HSL_CLI_STAT_DSK_OVER (b01 exceeds) c
    let s := if exceeds then s.set F.HSL_INT_CAUSE_DSK_OVER else s
    if 1800 < meas then (s.set F.HSL_CLI_STAT_DSK_RANGE c).set F.HSL_INT_CAUSE_DSK_RANGE
    else move c 6 ((s.clr F.HSL_CLI_STAT_DSK_RANGE c).put F.HSL_CLI_DSK_APPLIED (max meas hold) c)

/-- The delay of the lane that arrives `later` after the earliest (R182), in 0.1 ns. -/
def laneDelay (s : State) (c later : Nat) : Nat := s.get F.HSL_CLI_DSK_APPLIED c - later

/-- LINK_TMO (R183): `ms` milliseconds without UP. -/
def linkTimeout (c ms : Nat) (s : State) : State :=
  if state s c = 0 ∨ state s c = 6 ∨ ms < max 1 (s.get F.HSL_LINK_CFG_LINK_TMO) then s
  else
    let s := s.count F.HSL_CLI_STAT_RETRY 1 c
    if state s c = 1 then s
    else squelch (move c 2 (s.eachOf (lanes s c) loseCdr))

/-! ### Enabling (R184, R185) -/

def powerOfTwo (n : Nat) : Nat := if n ≤ 1 then 1 else if n ≤ 2 then 2 else if n ≤ 4 then 4 else 8

/-- The checks of R184 in order; 0 where all pass. -/
def check (s : State) (c : Nat) : Nat :=
  let t := typeOf s c
  let f := s.get F.HSL_CLI_CFG_FIRST_LANE c
  let w := width s c
  if !defined t || (isEthernet t && s.get F.HSL_CLI_CFG_M_M1 c != 0) then 1
  else if 8 < w ∨ f % powerOfTwo w ≠ 0 ∨ f / 8 ≠ (f + w - 1) / 8 then 2
  else if !(s.get F.HSL_CTRL_GRP_EN).testBit (f / 8) then 3
  else if (List.range 32).any (fun d => d != c && enabled s d && (lanes s d).any (fun n => (lanes s c).contains n)) then 4
  else if 32 < otucn s c + (((List.range 32).filter (fun d => d != c && enabled s d)).map (otucn s)).foldl (· + ·) 0 then 5
  else if (isEthernet t && s.get F.HSL_CLI_CFG_TCLK c == 2) || decide (1800 < s.get F.HSL_CLI_CFG_DSK_HOLD c) then 6
  else 0

/-- The egress lane order at EN = 1 (R181): before the first judgement only REV_MODE 2 reverses. -/
def startOrder (c : Nat) (s : State) : State :=
  let m := s.get F.HSL_CLI_CFG_REV_MODE c
  let r := b01 (decide (2 ≤ m))
  ((s.put H.HSL_REV_USED m c).put F.HSL_CLI_STAT_TX_REV r c).put H.HSL_EGRESS_REV r c

/-- CLI_ENABLE (R184, R185, R2): the egress starts with the replacement signal, whatever the ingress. -/
def enable (c : Nat) (s : State) : State :=
  if enabled s c then s
  else if s.leaf && decide (8 ≤ s.get F.HSL_CLI_CFG_FIRST_LANE c) then s.set F.SYS_INT_CAUSE_ROLE_LIMIT
  else
    let e := check s c
    if e = 0 then squelch (move c 1 (replace c (startOrder c ((s.set F.HSL_CLI_CFG_EN c).clr F.HSL_CLI_STAT_CFG_STEP c))))
    else (s.set F.HSL_INT_CAUSE_CFG_ERR).put F.HSL_CLI_STAT_CFG_STEP e c

/-- A lane is powered down. -/
def powerDown (n : Nat) (s : State) : State := (loseCdr n (s.clr F.HSL_LANE_STAT_SIG n)).clr F.HSL_LANE_STAT_RX_INV n

/-- CLI_DISABLE (R184). -/
def disable (c : Nat) (s : State) : State :=
  if enabled s c then squelch (move c 0 (((s.eachOf (lanes s c) powerDown).clr F.HSL_CLI_CFG_EN c).clr H.HSL_OUT c)) else s

/-- A write of HSL.CLI_CFG[c] (R184): while EN is 1 TYPE, FIRST_LANE and M_M1 are kept. A leaf ignores one that would enable a client outside
group 0 (R2). -/
def writeCliCfg (c v : Nat) (s : State) : State :=
  if s.leaf && v % 2 == 1 && !enabled s c && decide (8 ≤ slice v 6 5) then s.set F.SYS_INT_CAUSE_ROLE_LIMIT else
  let place := fun (t : State) =>
    ((t.put F.HSL_CLI_CFG_TYPE (slice v 1 5) c).put F.HSL_CLI_CFG_FIRST_LANE (slice v 6 5) c).put F.HSL_CLI_CFG_M_M1 (slice v 11 3) c
  let same := s.get F.HSL_CLI_CFG_TYPE c = slice v 1 5 ∧ s.get F.HSL_CLI_CFG_FIRST_LANE c = slice v 6 5 ∧
    s.get F.HSL_CLI_CFG_M_M1 c = slice v 11 3
  let s := if !enabled s c then place s else if same then s else s.set F.HSL_INT_CAUSE_CFG_ERR
  let s := (s.put F.HSL_CLI_CFG_REV_MODE (slice v 14 2) c).put F.HSL_CLI_CFG_TCLK (slice v 16 2) c
  let s := (s.put F.HSL_CLI_CFG_JT_BW (slice v 18 2) c).put F.HSL_CLI_CFG_DSK_HOLD (slice v 20 11) c
  if v % 2 = 1 then enable c s else disable c s

/-- A write of HSL.CTRL (R184, R2): a leaf ignores one that names another group than 0; the lanes of a group that is powered down lose what
they had. -/
def writeCtrl (v : Nat) (s : State) : State :=
  let w := v % 16
  if s.leaf && decide (2 ≤ w) then s.set F.SYS_INT_CAUSE_ROLE_LIMIT else
  let off := s.get F.HSL_CTRL_GRP_EN
  let s := s.put F.HSL_CTRL_GRP_EN w
  s.each 32 (fun n t => if off.testBit (n / 8) && !w.testBit (n / 8) then signalLoss n t else t)

/-- A write of HSL.RCLK_SEL[i] (R187). -/
def writeRclk (i v : Nat) (s : State) : State :=
  squelch ((s.put F.HSL_RCLK_SEL_LANE (slice v 0 5) i).put F.HSL_RCLK_SEL_EN (slice v 8 1) i)

/-- HSL_PM_LATCH (R188): what client c's link counted in the second: corrected, uncorrectable, corrected symbols, all codewords, the
degraded state, and local and remote fault. -/
def latch (rows : List (List Nat)) (s : State) : State :=
  s.each 32 (fun c t =>
    let r := (rows.find? (fun x => x.getD 0 32 == c)).getD []
    let t := t.each 4 (fun w u => u.put F.HSL_CLI_FEC_COUNT (min (2 ^ 32 - 1) (r.getD (w + 1) 0)) c w)
    let eth := isEthernet (typeOf t c)
    let hi := eth && r.getD 5 0 != 0
    let t := if hi && !t.on F.HSL_CLI_STAT_HI_SER c then t.set F.HSL_INT_CAUSE_HI_SER else t
    ((t.put F.HSL_CLI_STAT_HI_SER (b01 hi) c).put F.HSL_CLI_STAT_RX_LF (b01 (r.getD 6 0 != 0)) c).put
      F.HSL_CLI_STAT_RX_RF (b01 (r.getD 7 0 != 0)) c)

end Sys2Proof.Machine.Hsl
end

