-- ==== Sys2Proof/Machine/Bst.lean ====
section
/-! DEFINITION. Sys2Proof/Machine/Bst.lean: the self-test slices and the safe state (spec/15_calibration_and_self_test.md, R327 to
R331). -/
namespace Sys2Proof.Machine.Bst
open Sys2Proof Sys2Proof.Machine

def life (s : State) : Nat := s.get F.LCM_STATE_STATE

def scrapped (s : State) : Bool := life s == 5

/-- MANUFACTURE and RETURNED: every slice, and OVERRIDE (R329, Table LCM-1). -/
def workshop (s : State) : Bool := life s == 1 || life s == 4

/-! ### The safe state (R329, R331) -/

/-- A failed slice or SCRAPPED holds the safe state. -/
def safeHeld (s : State) : Bool :=
  scrapped s || (s.get F.BST_STAT_SAFE_BY != 0 && !(s.on F.BST_CTRL_OVERRIDE && workshop s))

/-- STAT.SAFE, mute source 2 and the LASER_EN pin follow; an entry is reported. -/
def refresh (s : State) : State :=
  if safeHeld s then
    if s.on F.BST_STAT_SAFE then s else Lsr.laser (Ltx.mute 2 ((s.set F.BST_STAT_SAFE).set F.BST_INT_CAUSE_SAFE))
  else if s.on F.BST_STAT_SAFE then Lsr.laser (Ltx.unmute 2 (s.clr F.BST_STAT_SAFE)) else s

/-- OVERRIDE (R329): only in MANUFACTURE and RETURNED. -/
def override (v : Nat) (s : State) : State :=
  if workshop s then refresh (s.put F.BST_CTRL_OVERRIDE v) else s

/-! ### Slices (R327, R328) -/

/-- Slices that lose contents. -/
def destructive (n : Nat) : Bool := n == 0 || n == 5

/-- The life cycle permits the slice (Table LCM-1). -/
def permitted (s : State) (n : Nat) : Bool := !scrapped s && (workshop s || !destructive n)

/-- No thread of any engine runs, waits or is stalled. -/
def enginesIdle (s : State) : Bool := (List.range 65).all (Eng.quiet s)

/-- A lane of an enabled group belongs to no enabled client. -/
def freeLane (s : State) : Bool :=
  (List.range 32).any (fun n => (s.get F.HSL_CTRL_GRP_EN).testBit (n / 8) && (Hsl.clientOf s n).isNone)

/-- The preconditions of Table BST-1. -/
def ready (s : State) (n : Nat) : Bool :=
  match n with
  | 0 => !s.on F.LTX_CTRL_EN && !s.on F.LRX_CTRL_EN && !s.on F.BRX_CTRL_EN && !s.on F.VLK_CTRL_EN && !s.on F.PEER_CTRL_EN &&
      !s.on F.QDM_CTRL_EN && (List.range 32).all (fun c => !Hsl.enabled s c) && enginesIdle s
  | 2 => !s.on F.LTX_CTRL_EN && !s.on F.LRX_CTRL_EN
  | 4 => freeLane s
  | 5 => s.on F.QDM_CTRL_EN
  | 6 => s.on F.QDM_CTRL_EN
  | _ => true

/-- The slice uses the converters. -/
def needsConverters (n : Nat) : Bool := n == 2 || n == 3

/-- A calibration run holds the converters. -/
def runHolds (s : State) : Bool := decide (1 ≤ s.get F.CAL_STAT_STATE) && decide (s.get F.CAL_STAT_STATE ≤ 4)

/-- The slice takes its turn: refused, skipped, waiting for a calibration run, or running. -/
def turn (n : Nat) (s : State) : Bool × State :=
  if !permitted s n then (false, (s.put F.BST_RESULT_RESULT 5 n).set F.BST_INT_CAUSE_REFUSED)
  else if !ready s n then (false, s.put F.BST_RESULT_RESULT 4 n)
  else
    let s := (s.set F.BST_STAT_BUSY).put F.BST_STAT_CUR n
    (true, if needsConverters n && runHolds s then s.set H.BST_WAITING else s)

/-- The run ends: DONE. -/
def finish (s : State) : State := ((s.clr F.BST_STAT_BUSY).clr H.BST_TODO).set F.BST_INT_CAUSE_DONE

/-- The slices of a list, lowest first, until one runs. -/
def nextOf : List Nat → State → State
  | [], s => finish s
  | n :: rest, s =>
    if s.bit H.BST_TODO n then
      let r := turn n (s.clrBit H.BST_TODO n)
      if r.1 then r.2 else nextOf rest r.2
    else nextOf rest s

def next (s : State) : State := nextOf (List.range 7) s

/-- A run of the slices of a mask; bit 7 is ignored. -/
def start (mask : Nat) (s : State) : State :=
  if s.on F.BST_STAT_BUSY then s else next (s.put H.BST_TODO (mask % 128))

/-- A waiting slice begins once no calibration run holds the converters (R328). -/
def unwait (s : State) : State := if s.on H.BST_WAITING && !runHolds s then s.clr H.BST_WAITING else s

/-- What MARCH_FULL leaves in the engines' memories: contents lost (R327, notes/assumptions/2.md). -/
def loseEngines (s : State) : State :=
  s.each 65 (fun n t =>
    let t := t.each 4096 (fun a u => (u.put H.ENG_IMEM (u.free 32) n a).drew)
    t.each 2048 (fun a u => (u.put H.ENG_DMEM (u.free 32) n a).drew))

/-- What QDR_FULL leaves in the devices: contents lost. -/
def loseQdr (s : State) : State :=
  s.each (2 ^ 24) (fun a t => { t with qdr := Store.put 0 t.qdr a (t.free 32) }.drew)

/-- The contents a slice loses. -/
def lose (n : Nat) (s : State) : State := if n = 0 then loseEngines s else if n = 5 then loseQdr s else s

/-- BIST_ABORT: the slice in progress ends ABORTED and no later one runs. -/
def abort (s : State) : State :=
  if s.on F.BST_STAT_BUSY then
    let n := s.get F.BST_STAT_CUR
    let s := if s.on H.BST_WAITING then s else lose n s
    Cal.sliceEnded ((finish (s.put F.BST_RESULT_RESULT 6 n)).clr H.BST_WAITING)
  else s

/-- A write of BST.CTRL: MASK and OVERRIDE, then ABORT and GO. -/
def writeCtrl (v : Nat) (s : State) : State :=
  let s := override (slice v 10 1) (s.put F.BST_CTRL_MASK v)
  let s := if v.testBit 9 then abort s else s
  if v.testBit 8 then start (s.get F.BST_CTRL_MASK) s else s

/-- The slice in progress ends with a result: 1 PASS, 2 FAIL, 3 TIMEOUT, 4 SKIPPED. -/
def ended (result detail elapsed : Nat) (s : State) : State :=
  let n := s.get F.BST_STAT_CUR
  let s := lose n s
  let s := ((s.put F.BST_RESULT_RESULT result n).put F.BST_RESULT_DETAIL detail n).put F.BST_RESULT_ELAPSED (atMost 65535 elapsed) n
  let s := if result = 2 ∨ result = 3 then s.set F.BST_INT_CAUSE_FAIL else s
  let s :=
    if n < 4 ∧ (result = 2 ∨ result = 3) then refresh (s.setBit F.BST_STAT_SAFE_BY n)
    else if n < 4 ∧ result = 1 then refresh (s.clrBit F.BST_STAT_SAFE_BY n)
    else s
  Cal.sliceEnded (next s)

/-- SLICE_END (R328): BANDGAP ends SKIPPED without its reference. -/
def sliceEnd (result detail elapsed : Nat) (s : State) : State :=
  if s.on F.BST_STAT_BUSY && !s.on H.BST_WAITING && (result == 1 || result == 2 || (result == 4 && s.get F.BST_STAT_CUR == 3)) then
    ended result detail elapsed s
  else s

/-- The time budget of a slice, in 100 µs (Table BST-1); SERDES_LB has one for each enabled group. -/
def budget (s : State) (n : Nat) : Nat :=
  [250, 400, 200, 20, 50 * popBits 4 (s.get F.HSL_CTRL_GRP_EN), 6000, 500].getD n 0

/-- SLICE_TIMEOUT (R327): the slice has run for its whole budget. -/
def sliceTimeout (s : State) : State :=
  if s.on F.BST_STAT_BUSY && !s.on H.BST_WAITING then ended 3 0 (budget s (s.get F.BST_STAT_CUR)) s else s

end Sys2Proof.Machine.Bst
end

