-- ==== Sys2Proof/Machine/Bytes.lean ====
section
/-! DEFINITION. Sys2Proof/Machine/Bytes.lean: words as bytes and their check code (spec/05_point_to_multipoint.md, R101, R103; R125). -/
namespace Sys2Proof.Machine
open Sys2Proof

/-- The bytes of words, each low byte first (Table VLK-2). -/
def bytesOf (w : List Nat) : List Nat := w.flatMap (fun x => [x % 256, x / 256 % 256, x / 65536 % 256, x / 16777216 % 256])

/-- Bytes as words, the inverse. -/
def wordsOf : List Nat → List Nat
  | a :: b :: c :: d :: rest => (a % 256 + 256 * (b % 256) + 65536 * (c % 256) + 16777216 * (d % 256)) :: wordsOf rest
  | _ => []

/-- CRC-32C over bytes (the code of Flash.crc32c). -/
def crcBytes (bytes : List Nat) : Nat := (bytes.foldl (fun a b => Flash.crcBits 8 (b % 256) a) 0xFFFFFFFF) ^^^ 0xFFFFFFFF

/-- A CRC of width w over the bits of a list, first bit first: R124 (16 bits, 0x1021) and Table FRM-2 (12 bits, 0x80F). -/
def Frm.crc (w poly init : Nat) (bits : List Bool) : Nat :=
  bits.foldl (fun c b =>
    let top := c.testBit (w - 1)
    let c := c * 2 % 2 ^ w
    if top != b then c ^^^ poly else c) init

/-- The n low bits of x, the highest first. -/
def Frm.bitsOf (n x : Nat) : List Bool := (List.range n).map (fun i => x.testBit (n - 1 - i))

/-- The CRC-16 of a container frame's header (R150): over bytes 0 to 4 and 8 to 13. -/
def Frm.headerCrc (h : List Nat) : Nat := Frm.crc 16 0x1021 0xFFFF ((h.take 5 ++ (h.drop 8).take 6).flatMap (Frm.bitsOf 8))

/-- Bytes filled with zeros to `n`. -/
def padTo (n : Nat) (bytes : List Nat) : List Nat := bytes ++ List.replicate (n - bytes.length) 0

/-- A frame of `n` bytes: its content, zeros, and the CRC-32C over the bytes before it (R101, R103). -/
def checked (n : Nat) (bytes : List Nat) : List Nat :=
  let b := padTo (n - 4) bytes
  b ++ bytesOf [crcBytes b]

end Sys2Proof.Machine
end

