-- ==== Sys2Proof/Machine/Crypto.lean ====
section
/-! DEFINITION. Sys2Proof/Machine/Crypto.lean: the published algorithms the spec names and does not restate: AES-256 (FIPS 197) in
Galois/Counter Mode (SP 800-38D) for R205, SHA-384 (FIPS 180-4) and ECDSA over P-384 (FIPS 186-5) for R269, R333 and R334. PRESUMED of those
standards (notes/assumptions/3.md). Words of 32 bits stand big-endian, byte 0 in bits 31 to 24. -/
namespace Sys2Proof.Machine

/-- A big-endian number of `n` bytes. -/
def bytesBig (n x : Nat) : List Nat := (List.range n).map (fun i => x / 256 ^ (n - 1 - i) % 256)

/-- The number that bytes spell big-endian. -/
def bigOf (bytes : List Nat) : Nat := bytes.foldl (fun a b => a * 256 + b) 0

/-- Bytes of 32-bit words, big-endian. -/
def bytesOfBig (w : List Nat) : List Nat := w.flatMap (bytesBig 4)

/-- Bytes cut into blocks of `n + 1`, at most `fuel` of them. -/
def blocksOf (n : Nat) : Nat → List Nat → List (List Nat)
  | 0, _ => []
  | _, [] => []
  | fuel + 1, b => b.take (n + 1) :: blocksOf n fuel (b.drop (n + 1))

/-! ### AES-256 (FIPS 197) -/

/-- x times the polynomial x in GF(2^8). -/
def Aes.double (x : Nat) : Nat := if x < 128 then 2 * x else (2 * x) ^^^ 0x11B

/-- The product in GF(2^8) over the low `n` bits of y. -/
def Aes.mulBits : Nat → Nat → Nat → Nat
  | 0, _, _ => 0
  | n + 1, x, y => (if y % 2 = 1 then x else 0) ^^^ Aes.mulBits n (Aes.double x) (y / 2)

def Aes.mul (x y : Nat) : Nat := Aes.mulBits 8 x y

/-- x to the power 254, the inverse in GF(2^8), with 0 for 0: the product of the squares x^2 to x^128. -/
def Aes.inverse (x : Nat) : Nat :=
  ((List.range 7).foldl (fun (a : Nat × Nat) _ => let q := Aes.mul a.1 a.1; (q, Aes.mul a.2 q)) (x, 1)).2

def Aes.rotate (x n : Nat) : Nat := x * 2 ^ n % 256 + x / 2 ^ (8 - n)

/-- SubBytes of one byte. -/
def Aes.sub (x : Nat) : Nat :=
  let b := Aes.inverse x
  b ^^^ Aes.rotate b 1 ^^^ Aes.rotate b 2 ^^^ Aes.rotate b 3 ^^^ Aes.rotate b 4 ^^^ 0x63

/-- Two byte strings, added. -/
def Aes.add (a b : List Nat) : List Nat := List.zipWith (· ^^^ ·) a b

/-- ShiftRows of a block in column order. -/
def Aes.shiftRows (b : List Nat) : List Nat := (List.range 16).map (fun i => b.getD ((i + 4 * (i % 4)) % 16) 0)

/-- MixColumns: byte r of a column. -/
def Aes.mixColumns (b : List Nat) : List Nat :=
  (List.range 16).map (fun i =>
    let x := fun j => b.getD (i / 4 * 4 + (i + j) % 4) 0
    Aes.mul 2 (x 0) ^^^ Aes.mul 3 (x 1) ^^^ x 2 ^^^ x 3)

/-- Word i of the expanded key, from those before it. -/
def Aes.keyWord (w : List (List Nat)) (i : Nat) : List Nat :=
  let t := w.getD (i - 1) []
  let t :=
    if i % 8 = 0 then Aes.add ((t.drop 1 ++ t.take 1).map Aes.sub) [2 ^ (i / 8 - 1), 0, 0, 0]
    else if i % 8 = 4 then t.map Aes.sub else t
  Aes.add (w.getD (i - 8) []) t

/-- KeyExpansion: 60 words from a key of 32 bytes. -/
def Aes.expand (key : List Nat) : List (List Nat) :=
  (List.range 52).foldl (fun w j => w ++ [Aes.keyWord w (j + 8)]) (blocksOf 3 8 key)

/-- Round key r. -/
def Aes.roundKey (w : List (List Nat)) (r : Nat) : List Nat := ((w.drop (4 * r)).take 4).flatten

/-- A block under an expanded key: 14 rounds, the last without MixColumns. -/
def Aes.encrypt (w : List (List Nat)) (block : List Nat) : List Nat :=
  let b := (List.range 13).foldl (fun b r => Aes.add (Aes.mixColumns (Aes.shiftRows (b.map Aes.sub))) (Aes.roundKey w (r + 1)))
    (Aes.add block (Aes.roundKey w 0))
  Aes.add (Aes.shiftRows (b.map Aes.sub)) (Aes.roundKey w 14)

/-! ### Galois/Counter Mode (SP 800-38D), with an IV of 96 bits and a tag of 128 -/

/-- The product in GF(2^128), over the low n bits of x from bit n − 1 down; bit 127 is the coefficient of 1. -/
def Gcm.mulBits : Nat → Nat → Nat → Nat
  | 0, _, _ => 0
  | n + 1, x, v =>
    (if x.testBit n then v else 0) ^^^ Gcm.mulBits n x (if v % 2 = 1 then (v / 2) ^^^ (0xE1 * 2 ^ 120) else v / 2)

/-- GHASH of whole blocks under the hash subkey. -/
def Gcm.hash (h : Nat) (blocks : List Nat) : Nat := blocks.foldl (fun y x => Gcm.mulBits 128 (y ^^^ x) h) 0

/-- Bytes as blocks, the last filled with zeros. -/
def Gcm.blocks (bytes : List Nat) : List Nat := (blocksOf 15 bytes.length bytes).map (fun b => bigOf (padTo 16 b))

/-- Counter block n of a nonce. -/
def Gcm.counter (nonce : List Nat) (n : Nat) : List Nat := nonce ++ bytesBig 4 n

/-- The text under the counter blocks from 2 on (R205): a plaintext becomes its ciphertext, and a ciphertext its plaintext. -/
def Gcm.cipher (key nonce text : List Nat) : List Nat :=
  let w := Aes.expand key
  (blocksOf 15 text.length text).zipIdx.flatMap (fun b => Aes.add b.1 (Aes.encrypt w (Gcm.counter nonce (b.2 + 2))))

/-- The tag of associated data and a ciphertext, as a number of 128 bits. -/
def Gcm.tag (key nonce aad text : List Nat) : Nat :=
  let w := Aes.expand key
  let h := bigOf (Aes.encrypt w (List.replicate 16 0))
  Gcm.hash h (Gcm.blocks aad ++ Gcm.blocks text ++ [8 * aad.length * 2 ^ 64 + 8 * text.length]) ^^^
    bigOf (Aes.encrypt w (Gcm.counter nonce 1))

/-! ### SHA-384 (FIPS 180-4) -/

/-- The largest r below 2^n with r^k at most x, above a start: by bisection. -/
def Sha.root (k x : Nat) : Nat → Nat → Nat
  | 0, r => r
  | n + 1, r => if (r + 2 ^ n) ^ k ≤ x then Sha.root k x n (r + 2 ^ n) else Sha.root k x n r

/-- The first 64 bits of the fractional part of the k-th root of p. -/
def Sha.fraction (k p : Nat) : Nat := Sha.root k (p * 2 ^ (64 * k)) 70 0 % 2 ^ 64

/-- The first 80 primes. -/
def Sha.primes : List Nat := (List.range 410).filter (fun n => decide (2 ≤ n) && (List.range 21).all (fun d => decide (d < 2) || decide (n ≤ d) || n % d != 0))

/-- The constants of the 80 rounds. -/
def Sha.constants : List Nat := Sha.primes.map (Sha.fraction 3)

/-- The initial hash value of SHA-384. -/
def Sha.initial : List Nat := ((Sha.primes.drop 8).take 8).map (Sha.fraction 2)

def Sha.rotate (x n : Nat) : Nat := x / 2 ^ n + x * 2 ^ (64 - n) % 2 ^ 64

/-- The next word of a message schedule of which the last sixteen words are given. -/
def Sha.nextWord (w : List Nat) : Nat :=
  let g := fun i => w.getD i 0
  let s0 := Sha.rotate (g 1) 1 ^^^ Sha.rotate (g 1) 8 ^^^ g 1 / 2 ^ 7
  let s1 := Sha.rotate (g 14) 19 ^^^ Sha.rotate (g 14) 61 ^^^ g 14 / 2 ^ 6
  (g 0 + s0 + g 9 + s1) % 2 ^ 64

/-- One round with its constant: the eight working variables and the window of the schedule. -/
def Sha.round (x : List Nat × List Nat) (k : Nat) : List Nat × List Nat :=
  let g := fun i => x.1.getD i 0
  let big1 := Sha.rotate (g 4) 14 ^^^ Sha.rotate (g 4) 18 ^^^ Sha.rotate (g 4) 41
  let big0 := Sha.rotate (g 0) 28 ^^^ Sha.rotate (g 0) 34 ^^^ Sha.rotate (g 0) 39
  let ch := (g 4 &&& g 5) ^^^ ((2 ^ 64 - 1 - g 4) &&& g 6)
  let maj := (g 0 &&& g 1) ^^^ (g 0 &&& g 2) ^^^ (g 1 &&& g 2)
  let t1 := g 7 + big1 + ch + k + x.2.getD 0 0
  ([(t1 + big0 + maj) % 2 ^ 64, g 0, g 1, g 2, (g 3 + t1) % 2 ^ 64, g 4, g 5, g 6], x.2.drop 1 ++ [Sha.nextWord x.2])

/-- One block of 128 bytes. -/
def Sha.block (h : List Nat) (b : List Nat) : List Nat :=
  let w := (blocksOf 7 16 b).map bigOf
  List.zipWith (fun a x => (a + x) % 2 ^ 64) h (Sha.constants.foldl Sha.round (h, w)).1

/-- A message with its padding: the bit 1, zeros and the length in 128 bits. -/
def Sha.padded (m : List Nat) : List Nat := m ++ [128] ++ List.replicate ((239 - m.length % 128) % 128) 0 ++ bytesBig 16 (8 * m.length)

/-- SHA-384 of bytes, as 48 bytes. -/
def Sha.sha384 (m : List Nat) : List Nat :=
  let p := Sha.padded m
  (((blocksOf 127 p.length p).foldl Sha.block Sha.initial).take 6).flatMap (bytesBig 8)

/-! ### ECDSA over P-384 (FIPS 186-5) -/

/-- The prime of the field. -/
def P384.p : Nat := 2 ^ 384 - 2 ^ 128 - 2 ^ 96 + 2 ^ 32 - 1

/-- The order of the base point. -/
def P384.n : Nat := 0xffffffffffffffffffffffffffffffffffffffffffffffffc7634d81f4372ddf581a0db248b0a77aecec196accc52973

/-- The coefficient b; a is −3. -/
def P384.b : Nat := 0xb3312fa7e23ee7e4988e056be3f82d19181d9c6efe8141120314088f5013875ac656398d8a2ed19d2a85c8edd3ec2aef

/-- The base point. -/
def P384.g : Nat × Nat :=
  (0xaa87ca22be8b05378eb1c71ef320ad746e1d3b628ba79b9859f741e082542a385502f25dbf55296c3a545e3872760ab7,
   0x3617de4a96262c6f5d9e98bf9292dc29f8f41dbd289a147ce9da3113b5f0b8c00a60b1ce1d7e819d7a431d7c90ea0e5f)

/-- x to the power e modulo m, over the low `k` bits of e. -/
def P384.power (m : Nat) : Nat → Nat → Nat → Nat
  | 0, _, _ => 1
  | k + 1, x, e => (if e % 2 = 1 then x else 1) * P384.power m k (x * x % m) (e / 2) % m

/-- The inverse modulo a prime of at most 384 bits. -/
def P384.inverse (m x : Nat) : Nat := P384.power m 384 (x % m) (m - 2)

/-- The right side of the curve's equation. -/
def P384.cubic (x : Nat) : Nat := (x * x * x + (P384.p - 3) * x + P384.b) % P384.p

/-- A point of the curve in affine coordinates; none is the point at infinity. -/
abbrev P384.Point := Option (Nat × Nat)

/-- The point stands on the curve. -/
def P384.onCurve (q : Nat × Nat) : Bool := decide (q.1 < P384.p) && decide (q.2 < P384.p) && q.2 * q.2 % P384.p == P384.cubic q.1

/-- The third point of the line of slope l through a, and another of abscissa x, mirrored. -/
def P384.third (l : Nat) (a : Nat × Nat) (x : Nat) : Nat × Nat :=
  let x3 := (l * l + 2 * P384.p - a.1 - x) % P384.p
  (x3, (l * (a.1 + P384.p - x3) + P384.p - a.2) % P384.p)

/-- The sum of two points. -/
def P384.add : P384.Point → P384.Point → P384.Point
  | none, q => q
  | q, none => q
  | some a, some b =>
    if a.1 = b.1 then
      if (a.2 + b.2) % P384.p = 0 then none
      else some (P384.third (3 * (a.1 * a.1 + P384.p - 1) * P384.inverse P384.p (2 * a.2) % P384.p) a b.1)
    else some (P384.third ((b.2 + P384.p - a.2) * P384.inverse P384.p (b.1 + P384.p - a.1) % P384.p) a b.1)

/-- A multiple of a point, over the low `n` bits of k. -/
def P384.times : Nat → Nat → P384.Point → P384.Point
  | 0, _, _ => none
  | n + 1, k, q => P384.add (if k % 2 = 1 then q else none) (P384.times n (k / 2) (P384.add q q))

/-- The integers r and s of a signature lie in their range. -/
def Ecdsa.inRange (r s : Nat) : Bool := decide (1 ≤ r) && decide (r < P384.n) && decide (1 ≤ s) && decide (s < P384.n)

/-- The integer of a message: its SHA-384. -/
def Ecdsa.digest (m : List Nat) : Nat := bigOf (Sha.sha384 m)

/-- The public key q verifies the signature r, s of a message. -/
def Ecdsa.verify (q : Nat × Nat) (r s : Nat) (m : List Nat) : Bool :=
  let w := P384.inverse P384.n s
  let x := P384.add (P384.times 384 (Ecdsa.digest m * w % P384.n) (some P384.g)) (P384.times 384 (r * w % P384.n) (some q))
  Ecdsa.inRange r s && P384.onCurve q && (match x with
    | none => false
    | some a => a.1 % P384.n == r)

/-- The points whose abscissa is r modulo the order. -/
def Ecdsa.points (r : Nat) : List (Nat × Nat) :=
  [r, r + P384.n].flatMap (fun x =>
    let y := P384.power P384.p 384 (P384.cubic x) ((P384.p + 1) / 4)
    [(x, y), (x, (P384.p - y) % P384.p)].filter P384.onCurve)

/-- The public keys that verify a signature: q = r⁻¹ (s R − e G) for each point R of abscissa r. -/
def Ecdsa.keys (r s : Nat) (m : List Nat) : List (Nat × Nat) :=
  let w := P384.inverse P384.n r
  let e := P384.times 384 ((P384.n - Ecdsa.digest m % P384.n) * w % P384.n) (some P384.g)
  (Ecdsa.points r).filterMap (fun x => P384.add (P384.times 384 (s * w % P384.n) (some x)) e)

/-- The hash a public key is known by (R333): SHA-384 of x ‖ y, big-endian. -/
def Ecdsa.keyHash (q : Nat × Nat) : List Nat := Sha.sha384 (bytesBig 48 q.1 ++ bytesBig 48 q.2)

/-- A signature verifies against a public key of which only the hash is known (R269: LCM holds the hash, and an image carries no key): some
public key of that hash verifies it. -/
def Ecdsa.signedUnder (hash : List Nat) (r s : Nat) (m : List Nat) : Bool :=
  Ecdsa.inRange r s && (Ecdsa.keys r s m).any (fun q => Ecdsa.verify q r s m && Ecdsa.keyHash q == hash)

end Sys2Proof.Machine
end

