-- ==== Sys2Proof/Machine/Cry.lean ====
section
/-! DEFINITION. Sys2Proof/Machine/Cry.lean: line encryption and the key vault (spec/10_line_encryption.md, R205 to R225). The cipher
itself stands in Crypto.lean. -/
namespace Sys2Proof.Machine.Cry
open Sys2Proof Sys2Proof.Machine

/-- The life-cycle states this chapter names (Table LCM-1): FIELD and SCRAPPED. -/
def field : Nat := 3
def scrapped : Nat := 5

/-- The 32 bytes of a slot's key; byte 4i of KEY_DATA[i] in [7:0]. -/
def key (s : State) (c ph : Nat) : List Nat := bytesOf ((List.range 8).map (fun i => s.get H.CRY_KEY c ph i))

/-- The IV of R208: SALT then CTR, big-endian. -/
def nonce (s : State) (c ph ctr : Nat) : List Nat := bytesBig 4 (s.get H.CRY_SALT c ph) ++ bytesBig 8 ctr

/-- Header bytes 0 to 13 (Table FRM-4); the justification bytes are those of J (R169). -/
def header (f : Cf) : List Nat :=
  let w := f.type % 16 * 4096 + f.flow % 4096
  [w / 256, w % 256, f.seq / 256 % 256, f.seq % 256, b01 f.just + 2 * b01 f.err, f.jc / 65536 % 256, f.jc / 256 % 256, f.jc % 256,
   f.cipher / 256 % 256, f.cipher % 256, 0, 0, 0, 0]

/-- All 16 header bytes: those and their CRC-16 (R150). -/
def headerBytes (f : Cf) : List Nat := let h := header f; h ++ [Frm.headerCrc h / 256, Frm.headerCrc h % 256]

/-- CPART of an upper counter (R207, Table CRY-1). -/
def cpart (upper part : Nat) : Nat := slice upper (12 * part) 12

/-- Payload bytes of zeros: 5,984, or 5,968 with a tag (R150). -/
def zeros (n : Nat) : List Nat := List.replicate n 0

/-- Every counter, key and receive state of Oryx is erased (R220, R222). -/
def eraseVault (s : State) : State :=
  [H.CRY_VALID, H.CRY_KEY, H.CRY_SALT, H.CRY_NEXT, H.CRY_CUR, H.CRY_U, H.CRY_LAST, H.CRY_LAST_SEQ, H.CRY_SYNC, H.CRY_RX_PH, H.CRY_WIN,
   H.CRY_RUN_MASK, H.CRY_RUN_SEQ, H.CRY_RUN_PART, H.CRY_CAND].foldl State.wipe (Mbx.clearKeyData s)

/-- An encrypted flow is added on context c (R209, R213): NEXT rises to a multiple of 2^16, SYNC is 0. -/
def addFlow (c : Nat) (s : State) : State :=
  let n := s.get H.CRY_NEXT c
  let s := s.put H.CRY_NEXT (ceilDiv n 65536 * 65536) c
  ((s.clr H.CRY_SYNC c).clr H.CRY_RUN_MASK c).clr H.CRY_CAND c

/-- The counter a frame with SEQ q takes from NEXT = n (R209): the least value at or above n whose low 16 bits are q. -/
def counterFor (n q : Nat) : Nat :=
  let base := n / 65536 * 65536 + q % 65536
  if base < n then base + 65536 else base

/-- CF_ENCRYPT (R206, R209, R221): a frame of an encrypted flow on context c as it is sent. -/
def encrypt (c : Nat) (f : Cf) (s : State) : Cf × State :=
  let ctr := counterFor (s.get H.CRY_NEXT c) f.seq
  let ph := s.get H.CRY_TX_PH c
  let s := (s.put H.CRY_NEXT (ctr + 1) c).put H.CRY_CUR ctr c
  let part := f.seq % 4
  let f := { f with cipher := ph * 32768 + part * 4096 + cpart (ctr / 65536) part }
  if f.type ≠ 0 then (f, s)
  else if s.on H.CRY_VALID c ph then
    let ct := Gcm.cipher (key s c ph) (nonce s c ph ctr) f.payload
    ({ f with payload := ct, tag := Gcm.tag (key s c ph) (nonce s c ph ctr) (header f) ct }, s)
  else
    ({ f with payload := zeros 5968, tag := 0, err := true }, (s.count F.CRY_CNT_COUNT 1 5).set F.CRY_INT_CAUSE_TX_NOKEY)

/-- What becomes of a received frame of an encrypted flow. `restart` says that the egress window restarts at its SEQ (R213). -/
inductive Fate where
  | discarded
  | errored
  | good (payload : List Nat) (restart : Bool)
  deriving DecidableEq, Repr

/-- The prediction of R211 step 1. -/
def predict (u last q : Nat) : Nat :=
  if q + 32768 < last then (u + 1) % 2 ^ 48 else if last + 32768 < q then (u + 2 ^ 48 - 1) % 2 ^ 48 else u

def nosync (s : State) : State := s.count F.CRY_CNT_COUNT 1 3

/-- The tag of a frame under counter `ctr`: none where KP names an empty slot, else whether it passes (R214). -/
def check (s : State) (c ctr : Nat) (f : Cf) : Option Bool :=
  let kp := f.cipher / 32768
  if s.on H.CRY_VALID c kp then
    some (Gcm.tag (key s c kp) (nonce s c kp ctr) (header f) f.payload == f.tag)
  else none

def plain (s : State) (c ctr : Nat) (f : Cf) : List Nat :=
  let kp := f.cipher / 32768
  Gcm.cipher (key s c kp) (nonce s c kp ctr) f.payload

/-- R214: a tag that fails, or an empty slot. -/
def failed (r : Option Bool) (s : State) : State :=
  match r with
  | none => (s.count F.CRY_CNT_COUNT 1 2).set F.CRY_INT_CAUSE_KEY_MISS
  | some _ => (s.count F.CRY_CNT_COUNT 1 0).set F.CRY_INT_CAUSE_TAG_FAIL

/-- A counter is accepted: LAST, the replay window, U, the last SEQ and KP (R211, R212). -/
def accept (c ctr : Nat) (f : Cf) (s : State) : State :=
  let last := s.get H.CRY_LAST c
  let win := s.get H.CRY_WIN c
  let s :=
    if last < ctr then (s.put H.CRY_LAST ctr c).put H.CRY_WIN (if ctr - last < 16 then win * 2 ^ (ctr - last) + 1 else 1) c
    else s.put H.CRY_WIN (withBit win (last - ctr)) c
  ((s.put H.CRY_U (ctr / 65536) c).put H.CRY_LAST_SEQ f.seq c).put H.CRY_RX_PH (f.cipher / 32768) c

/-- A replay (R212). -/
def replayed (s : State) (c ctr : Nat) : Bool :=
  let last := s.get H.CRY_LAST c
  s.on F.CRY_CTRL_REPLAY_EN && decide (ctr ≤ last) && (decide (ctr + 16 ≤ last) || (s.get H.CRY_WIN c).testBit (last - ctr))

/-- A run starts with this frame (R213). -/
def startRun (c : Nat) (f : Cf) (s : State) : State :=
  let p := f.seq % 4
  (((s.put H.CRY_RUN_MASK (2 ^ p) c).put H.CRY_RUN_SEQ f.seq c).put H.CRY_RUN_PART (f.cipher % 4096) c p).clr H.CRY_CAND c

/-- The run takes this frame, or a new one starts with it. -/
def extendRun (c : Nat) (f : Cf) (s : State) : State :=
  let p := f.seq % 4
  if s.get H.CRY_RUN_MASK c = 0 ∨ f.seq ≤ s.get H.CRY_RUN_SEQ c then startRun c f s
  else ((s.setBit H.CRY_RUN_MASK p c).put H.CRY_RUN_SEQ f.seq c).put H.CRY_RUN_PART (f.cipher % 4096) c p

/-- The upper counter the run's four parts spell. -/
def candidate (s : State) (c : Nat) : Nat :=
  (List.range 4).foldl (fun a p => a + s.get H.CRY_RUN_PART c p * 2 ^ (12 * p)) 0

/-- A DATA frame is tried with a candidate (R213): RESYNC, or the next frame begins a new run. -/
def tryCandidate (c cand : Nat) (f : Cf) (s : State) : Fate × State :=
  let ctr := cand % 2 ^ 48 * 65536 + f.seq
  let r := check s c ctr f
  let s := (s.clr H.CRY_RUN_MASK c).clr H.CRY_CAND c
  if r = some true then
    let p := plain s c ctr f
    let s := ((s.set H.CRY_SYNC c).put H.CRY_LAST ctr c).clr H.CRY_WIN c
    (.good p true, ((accept c ctr f s).count F.CRY_CNT_COUNT 1 4).set F.CRY_INT_CAUSE_RESYNC)
  else (.errored, nosync (failed r (s.put H.CRY_LAST_SEQ f.seq c)))

/-- A frame received while SYNC is 0 (R213). -/
def collect (c : Nat) (f : Cf) (s : State) : Fate × State :=
  let data := f.type = 0
  if s.on H.CRY_CAND c then
    if data then
      let cand := candidate s c + (if f.seq < s.get H.CRY_RUN_SEQ c then 1 else 0)
      tryCandidate c cand f s
    else (.good f.payload false, s.put H.CRY_LAST_SEQ f.seq c)
  else
    let s := extendRun c f (s.put H.CRY_LAST_SEQ f.seq c)
    if s.get H.CRY_RUN_MASK c = 15 then
      if data then tryCandidate c (candidate s c) f s else (.good f.payload false, s.set H.CRY_CAND c)
    else if data then (.errored, nosync s)
    else (.good f.payload false, s)

/-- CF_DECRYPT (R211 to R214): a received frame of an encrypted flow on context c. -/
def decrypt (c : Nat) (f : Cf) (s : State) : Fate × State :=
  if !s.on H.CRY_SYNC c then collect c f s
  else
    let u := predict (s.get H.CRY_U c) (s.get H.CRY_LAST_SEQ c) f.seq
    if f.cipher % 4096 ≠ cpart u (f.seq % 4) then
      let s := startRun c f (((s.clr H.CRY_SYNC c).count F.CRY_CNT_COUNT 1 6).put H.CRY_LAST_SEQ f.seq c)
      if f.type = 0 then (.errored, nosync s) else (.good f.payload false, s)
    else if f.type ≠ 0 then (.good f.payload false, s.put H.CRY_LAST_SEQ f.seq c)
    else
      let ctr := u * 65536 + f.seq
      if replayed s c ctr then
        (.discarded, ((s.put H.CRY_LAST_SEQ f.seq c).count F.CRY_CNT_COUNT 1 1).set F.CRY_INT_CAUSE_REPLAY)
      else
        let r := check s c ctr f
        if r = some true then (.good (plain s c ctr f) false, accept c ctr f s)
        else (.errored, failed r (s.put H.CRY_LAST_SEQ f.seq c))

/-! ### Key commands (R216, R218) -/

/-- An enabled encrypted flow uses context c. -/
def used (s : State) (c : Nat) : Bool := s.on H.FLW_CTX_FLOW c

/-- The common part of every key command (R218): the owner's write of KEY_CMD with GO. `act` judges and performs the command and
answers its code. -/
def command (who : Pmc.Who) (ctx ph op : Nat) (act : State → Nat × State) (s : State) : State :=
  if s.get F.CRY_LOCK_STAT_OWNER ≠ who.master then s.set F.CRY_INT_CAUSE_NOT_OWNER
  else if s.on F.CRY_KEY_STAT_BUSY then
    Mbx.clearKeyData ((s.put F.CRY_KEY_STAT_ERR_CODE 7).set F.CRY_INT_CAUSE_CMD_ERR)
  else
    let s := ((s.put F.CRY_KEY_CMD_CTX ctx).put F.CRY_KEY_CMD_PHASE ph).put F.CRY_KEY_CMD_OP op
    let s := (s.set F.CRY_KEY_STAT_BUSY).set F.CRY_KEY_CMD_GO
    let r := if s.on F.CRY_ERASE_STAT_ALARM_NOW then (6, s) else act s
    r.2.put H.CRY_RESULT r.1

/-- LOAD (Table CRY-2). -/
def load (ctx ph : Nat) (s : State) : Nat × State :=
  if 3071 < ctx then (2, s)
  else if used s ctx && s.get H.CRY_TX_PH ctx == ph then (3, s)
  else
    let s := s.each 8 (fun i t => t.put H.CRY_KEY (t.get F.CRY_KEY_DATA_KEY i) ctx ph i)
    (0, (s.put H.CRY_SALT (s.get F.CRY_KEY_SALT_SALT) ctx ph).set H.CRY_VALID ctx ph)

/-- ROLL (R216): the phase is active once the command completes. -/
def roll (ctx ph : Nat) (s : State) : Nat × State :=
  if 3071 < ctx then (2, s)
  else if !s.on H.CRY_VALID ctx ph then (4, s)
  else (0, s.put H.CRY_ROLL (1 + 2 * ctx + ph % 2))

/-- The ROLL in progress, if any, completes; the active mirrors TX_PH to the standby (R216, R223). -/
def rolled (s : State) : State :=
  let r := s.get H.CRY_ROLL
  let ctx := (r - 1) / 2
  let ph := (r - 1) % 2
  if r = 0 then s
  else
    let s := s.put H.CRY_TX_PH ph ctx
    if s.get F.PEER_STAT_STATE = 4 then s.emit (.peer 6 [ctx, ph]) else s

/-- A slot is emptied. -/
def empty (ctx ph : Nat) (s : State) : State :=
  ((s.each 8 (fun i t => t.clr H.CRY_KEY ctx ph i)).clr H.CRY_SALT ctx ph).clr H.CRY_VALID ctx ph

/-- CLEAR. -/
def clear (ctx ph : Nat) (s : State) : Nat × State :=
  if 3071 < ctx then (2, s)
  else if used s ctx && s.get H.CRY_TX_PH ctx == ph then (3, s)
  else (0, empty ctx ph s)

/-- CLEAR_CTX (R209). -/
def clearCtx (ctx : Nat) (s : State) : Nat × State :=
  if 3071 < ctx then (2, s)
  else if used s ctx then (5, s)
  else
    let s := empty ctx 1 (empty ctx 0 s)
    let s := ((((s.clr H.CRY_NEXT ctx).put H.CRY_CUR (2 ^ 64 - 1) ctx).clr H.CRY_U ctx).clr H.CRY_LAST ctx).clr H.CRY_LAST_SEQ ctx
    let s := ((((s.clr H.CRY_SYNC ctx).clr H.CRY_RX_PH ctx).clr H.CRY_WIN ctx).clr H.CRY_RUN_MASK ctx).clr H.CRY_RUN_SEQ ctx
    (0, s.each 4 (fun p t => t.clr H.CRY_RUN_PART ctx p) |>.clr H.CRY_CAND ctx)

/-- A write of KEY_CMD with GO by its operation (Table CRY-2). -/
def keyCmd (who : Pmc.Who) (ctx ph op : Nat) (s : State) : State :=
  command who ctx ph op
    (match op with
     | 1 => load ctx ph
     | 2 => roll ctx ph
     | 3 => clear ctx ph
     | 4 => clearCtx ctx
     | _ => fun t => (1, t)) s

/-- KEY_CMD_COMPLETE (R218). -/
def complete (s : State) : State :=
  if s.on F.CRY_KEY_STAT_BUSY then
    let r := s.get H.CRY_RESULT
    let s := ((s.clr F.CRY_KEY_STAT_BUSY).clr F.CRY_KEY_CMD_GO).put F.CRY_KEY_STAT_ERR_CODE r
    let s := if r = 0 then rolled s else s
    let s := Mbx.clearKeyData ((s.clr H.CRY_RESULT).clr H.CRY_ROLL)
    if r = 0 then s.set F.CRY_INT_CAUSE_CMD_DONE else s.set F.CRY_INT_CAUSE_CMD_ERR
  else s

/-- A write of KEY_CMD. -/
def writeKeyCmd (who : Pmc.Who) (v : Nat) (s : State) : State :=
  if v.testBit 31 then keyCmd who (slice v 0 12) (slice v 12 1) (slice v 13 3) s
  else if s.get F.CRY_LOCK_STAT_OWNER ≠ who.master then s.set F.CRY_INT_CAUSE_NOT_OWNER
  else ((s.put F.CRY_KEY_CMD_CTX (slice v 0 12)).put F.CRY_KEY_CMD_PHASE (slice v 12 1)).put F.CRY_KEY_CMD_OP (slice v 13 3)

/-- A write of KEY_SALT or KEY_DATA[i] (R218). -/
def writeKeyWord (who : Pmc.Who) (f : Field) (i v : Nat) (s : State) : State :=
  if s.get F.CRY_LOCK_STAT_OWNER ≠ who.master then s.set F.CRY_INT_CAUSE_NOT_OWNER else s.put f v i

/-- The alarm's condition can act in this state (Table CRY-3). -/
def alarmActs (s : State) (cause : Nat) : Bool :=
  match cause with
  | 0 => s.on F.CRY_CTRL_TAMPER_EN
  | 4 => s.get F.LCM_STATE_STATE == field
  | n => decide (n ≤ 5)

/-- ERASURE (R220, R219, R221): alarm `cause` erases Oryx; `present` says whether its condition persists. A cause above 5 names no
alarm and only shows that no condition is present any more. -/
def erasure (cause : Nat) (present : Bool) (s : State) : State :=
  if alarmActs s cause then
    let s := eraseVault s
    let s := ((s.setBit F.CRY_ERASE_STAT_CAUSE cause).count F.CRY_ERASE_STAT_COUNT).set F.CRY_INT_CAUSE_ERASED
    let s := if s.on F.CRY_KEY_STAT_BUSY then s.put H.CRY_RESULT 6 else s
    Mbx.cryBreak (s.put F.CRY_ERASE_STAT_ALARM_NOW (b01 present))
  else if 5 < cause then s.clr F.CRY_ERASE_STAT_ALARM_NOW
  else s

/-- GUARD_JUMP (R224): every context's NEXT moves on by 2^40. -/
def guardJump (s : State) : State :=
  (s.each 3072 (fun c t => t.put H.CRY_NEXT (t.get H.CRY_NEXT c + 2 ^ 40) c)).set F.CRY_INT_CAUSE_GUARD_JUMP

/-- What the active mirrors of context c (R223): NEXT and the receive state. -/
def mirrorWords (s : State) (c : Nat) : List Nat :=
  [c, s.get H.CRY_NEXT c, s.get H.CRY_U c, s.get H.CRY_LAST c, s.get H.CRY_LAST_SEQ c, s.get H.CRY_SYNC c, s.get H.CRY_RX_PH c,
   s.get H.CRY_WIN c]

/-- CRY_COUNTER_MIRROR (R223): the active sends the NEXT and the receive state of every context. -/
def counterMirror (s : State) : State :=
  if s.get F.PEER_STAT_STATE = 4 then s.each 3072 (fun c t => t.emit (.peer 7 (mirrorWords t c))) else s

/-- A counter mirror of a context is applied on the standby. -/
def applyMirror (w : List Nat) (s : State) : State :=
  match w with
  | [c, n, u, l, q, y, p, b] =>
    (((((((s.put H.CRY_NEXT n c).put H.CRY_U u c).put H.CRY_LAST l c).put H.CRY_LAST_SEQ q c).put H.CRY_SYNC y c).put H.CRY_RX_PH p c)).put
      H.CRY_WIN b c
  | _ => s

/-! ### What the registers of the selected context read (R382) -/

def ctx (s : State) : Nat := s.get F.CRY_CTX_SEL_CTX

/-- The six counter words of the selected context, TX_NEXT_LO first. -/
def counterWords (s : State) : List Nat :=
  let c := ctx s
  [s.get H.CRY_NEXT c % 2 ^ 32, s.get H.CRY_NEXT c / 2 ^ 32, s.get H.CRY_CUR c % 2 ^ 32, s.get H.CRY_CUR c / 2 ^ 32,
   s.get H.CRY_LAST c % 2 ^ 32, s.get H.CRY_LAST c / 2 ^ 32]

/-- TX_NEXT_LO read by master m takes its snapshot. -/
def snapshot (m : Nat) (s : State) : Nat × State :=
  let w := counterWords s
  let s := s.each 5 (fun i t => t.put H.CRY_SNAP (w.getD (i + 1) 0) m i)
  (w.getD 0 0, s.set H.CRY_SNAP_VALID m)

/-- Counter word i (1 to 5) as master m reads it. -/
def counterWord (s : State) (m i : Nat) : Nat :=
  if s.on H.CRY_SNAP_VALID m then s.get H.CRY_SNAP m (i - 1) else (counterWords s).getD i 0

/-- CTX_STAT. -/
def ctxStat (s : State) : Nat :=
  let c := ctx s
  s.get H.CRY_VALID c 0 + 2 * s.get H.CRY_VALID c 1 + 4 * s.get H.CRY_TX_PH c + 8 * s.get H.CRY_SYNC c + 16 * s.get H.CRY_RX_PH c +
    32 * b01 (used s c)

end Sys2Proof.Machine.Cry
end

