-- ==== Sys2Proof/Machine/Lcm.lean ====
section
/-! DEFINITION. Sys2Proof/Machine/Lcm.lean: the life cycle, the key hashes and the authorisation
(spec/15_calibration_and_self_test.md, R331 to R334). -/
namespace Sys2Proof.Machine.Lcm
open Sys2Proof Sys2Proof.Machine

def life (s : State) : Nat := s.get F.LCM_STATE_STATE

/-- A request is refused with its ERR. -/
def refuse (e : Nat) (s : State) : State := (s.put F.LCM_STAT_ERR e).set F.LCM_INT_CAUSE_REFUSED

/-- A slot written and not revoked. -/
def usable (s : State) (k : Nat) : Bool := s.bit F.LCM_KEY_STAT_WRITTEN k && !s.bit F.LCM_KEY_STAT_REVOKED k

def anyUsable (s : State) : Bool := (List.range 4).any (usable s)

/-- A new challenge (R334): random. -/
def renew (s : State) : State := (s.each 4 (fun w t => (t.put F.LCM_CHALLENGE_VAL (t.free 32) w).drew)).clr H.LCM_CHAL_AGE

/-- CHALLENGE word 0 is read (R334): a value older than 10 minutes is renewed first. -/
def readChallenge (s : State) : Nat × State :=
  let s := if 600 < s.get H.LCM_CHAL_AGE then renew s else s
  (s.get F.LCM_CHALLENGE_VAL 0, s)

/-- The transitions of R332. -/
def order (a b : Nat) : Bool :=
  (a == 0 && b == 1) || ((a == 0 || a == 1) && b == 2) || (a == 2 && b == 3) || (a == 3 && b == 4) || (a != 5 && b == 5)

/-- The words of a run of LCM.AUTH. -/
def authWords (s : State) (lo : Nat) : List Nat := (List.range 24).map (fun i => s.get F.LCM_AUTH_DATA (lo + i))

/-- The burned hash of slot k. -/
def hash (s : State) (k : Nat) : List Nat := (List.range 12).map (fun w => s.get H.LCM_FUSE_HASH k w)

/-- What the authorisation signs (R334): DEV_ID low word first, CHALLENGE and the byte 4; the low byte of a word first
(notes/assumptions/3.md). -/
def authMessage (s : State) : List Nat :=
  bytesOf ([s.get F.LCM_DEV_ID_VAL 0, s.get F.LCM_DEV_ID_VAL 1] ++ (List.range 4).map (fun w => s.get F.LCM_CHALLENGE_VAL w)) ++ [4]

/-- The authorisation of R334 under slot k: the key hashes to the slot, and the signature verifies. -/
def authorised (s : State) (k : Nat) : Bool :=
  let key := bytesOfBig (authWords s 0)
  let sig := bytesOfBig (authWords s 24)
  usable s k && Sha.sha384 key == bytesOfBig (hash s k) &&
    Ecdsa.verify (bigOf (key.take 48), bigOf (key.drop 48)) (bigOf (sig.take 48)) (bigOf (sig.drop 48)) (authMessage s)

/-- The first check that fails (R332); 0 where none does. -/
def judge (master target key confirm : Nat) (s : State) : Nat :=
  if !Mbx.isHost master then 3
  else if s.on F.LCM_STAT_BUSY then 6
  else if confirm ≠ 0x5CA1 then 5
  else if !order (life s) target then 1
  else if target = 2 && !anyUsable s then 2
  else if target = 4 && !authorised s key then 4
  else 0

/-- LCM_TRANSITION (R332): a write of LCM.TRANS. A request for RETURNED renews the challenge. -/
def transition (master v : Nat) (s : State) : State :=
  let target := slice v 0 3
  let e := judge master target (slice v 3 2) (slice v 16 16) s
  let s := if e = 0 then ((s.set F.LCM_STAT_BUSY).put H.LCM_TARGET target).clr F.LCM_STAT_ERR else refuse e s
  if target = 4 then renew s else s

/-- The fuses are programmed (R332): the new state. SCRAPPED takes effect at once: Oryx is erased and the safe state held; a slice in
progress is aborted. Of the other transitions the Bool asks for the image-loading reset. -/
def fuseDone (s : State) : Bool × State :=
  if !s.on F.LCM_STAT_BUSY then (false, s)
  else
    let t := s.get H.LCM_TARGET
    let s := Bst.abort (((s.clr F.LCM_STAT_BUSY).set F.LCM_INT_CAUSE_DONE).put F.LCM_STATE_STATE t)
    if t = 5 then (false, Lsr.laser (Bst.refresh (Cry.erasure 5 false s))) else (true, s)

/-- KEY_COMMIT (R333). -/
def keyCommit (k : Nat) (s : State) : State :=
  if life s ≠ 0 ∧ life s ≠ 1 then refuse 1 s
  else if s.bit F.LCM_KEY_STAT_WRITTEN k then refuse 7 s
  else
    let s := s.each 12 (fun w t => t.put H.LCM_FUSE_HASH (s.get F.LCM_KEY_HASH_DATA k w) k w)
    s.setBit F.LCM_KEY_STAT_WRITTEN k

/-- KEY_REVOKE (R333). -/
def keyRevoke (k : Nat) (s : State) : State :=
  if life s < 2 ∨ 4 < life s then refuse 1 s
  else if !usable s k then refuse 7 s
  else if ((List.range 4).filter (usable s)).length ≤ 1 then refuse 2 s
  else s.setBit F.LCM_KEY_STAT_REVOKED k

/-- A write of KEY_CTRL: SLOT, then COMMIT, then REVOKE. -/
def writeKeyCtrl (v : Nat) (s : State) : State :=
  let k := slice v 0 2
  let s := s.put F.LCM_KEY_CTRL_SLOT k
  let s := if v.testBit 2 then keyCommit k s else s
  if v.testBit 3 then keyRevoke k s else s

/-- A write of KEY_HASH[k][w]: staging in BLANK and MANUFACTURE (R333). -/
def writeKeyHash (k w v : Nat) (s : State) : State :=
  if life s = 0 ∨ life s = 1 then s.put F.LCM_KEY_HASH_DATA v k w else s

/-- What LCM reads of its fuses at every device reset (R357 phase FUSES): an unfinished transition is forgotten, staged hashes are gone,
the challenge is new. -/
def readFuses (s : State) : State :=
  renew (s.each 4 (fun k t => t.each 12 (fun w u => u.put F.LCM_KEY_HASH_DATA (u.get H.LCM_FUSE_HASH k w) k w)))

end Sys2Proof.Machine.Lcm
end

