-- ==== Sys2Proof/Machine/Img.lean ====
section
/-! DEFINITION. Sys2Proof/Machine/Img.lean: images, slots and the slot record (spec/12_odivo_engines.md, R268 to R270), the flash
descriptor (R359), and the firmware push of a leaf (R115). -/
namespace Sys2Proof.Machine.Img
open Sys2Proof Sys2Proof.Machine

/-! ### Images (R268, R269) -/

/-- The first word of slot A or B. -/
def slotBase (slot : Nat) : Nat := 0x100000 + 0x100000 * slot

/-- Word i of the image in a slot. -/
def word (s : State) (slot i : Nat) : Nat := Flash.read s (slotBase slot + i)

/-- The 32-bit word at byte offset b of the image. -/
def atByte (s : State) (slot b : Nat) : Nat :=
  (word s slot (b / 4) + 2 ^ 32 * word s slot (b / 4 + 1)) / 2 ^ (8 * (b % 4)) % 2 ^ 32

def version (s : State) (slot : Nat) : Nat := word s slot 2
def length (s : State) (slot : Nat) : Nat := word s slot 3
def sections (s : State) (slot : Nat) : Nat := word s slot 4
def role (s : State) (slot : Nat) : Nat := slice (word s slot 1) 16 2
def keyId (s : State) (slot : Nat) : Nat := word s slot 6

/-- A section table entry (Table ENG-11): ENGINE, KIND, DEST, LENGTH, FILE_OFFSET. -/
structure Section where
  engine : Nat
  kind : Nat
  dest : Nat
  length : Nat
  offset : Nat
  deriving DecidableEq, Repr

def sectionAt (s : State) (slot i : Nat) : Section :=
  let w := fun j => word s slot (64 + 4 * i + j)
  ⟨slice (w 0) 0 8, slice (w 0) 8 24, w 1, w 2, w 3⟩

def table (s : State) (slot : Nat) : List Section := (List.range (sections s slot)).map (sectionAt s slot)

/-- The two ranges of bytes have one in common. -/
def touches (a n lo hi : Nat) : Bool := decide (a < hi) && decide (lo < a + n) && decide (0 < n)

/-- A section lies within the image and within its destination, and touches nothing it may not (R269). -/
def sectionOk (leaf : Bool) (imgLen : Nat) (x : Section) : Bool :=
  decide (x.length % 4 = 0) && decide (x.offset + x.length ≤ imgLen) &&
  (if x.kind = 3 then
     x.engine == 255 && decide (x.dest % 4 = 0) && decide (x.dest + x.length ≤ 0x1000000) &&
       !touches x.dest x.length 0x300000 0x340000 && !touches x.dest x.length 0x340400 0x340420
   else
     decide (x.engine ≤ 64) && !(leaf && decide (16 ≤ x.engine) && decide (x.engine < 64)) &&
       (match x.kind with
        | 0 => decide (x.dest % 4 = 0) && decide (x.dest + x.length ≤ 16384)
        | 1 => decide (x.dest % 4 = 0) && decide (x.dest + x.length ≤ 8192)
        | 2 => decide (x.dest = 0) && decide (x.length = 16)
        | _ => false))

/-- Words lo to hi − 1 of the image. -/
def span (s : State) (slot lo hi : Nat) : List Nat := (List.range (hi - lo)).map (fun i => word s slot (lo + i))

/-- The signature of an image verifies under the slot KEY_ID (R269), over bytes 0x000 to 0x05F and 0x100 to the end. -/
def signed (s : State) (slot : Nat) : Bool :=
  let sig := bytesOf (span s slot 24 48)
  Ecdsa.signedUnder (bytesOfBig (Lcm.hash s (keyId s slot))) (bigOf (sig.take 48)) (bigOf (sig.drop 48))
    (bytesOf (span s slot 0 24 ++ span s slot 64 (length s slot / 4)))

/-- R269: the image in a slot is valid. -/
def valid (s : State) (slot : Nat) : Bool :=
  let len := length s slot
  let n := sections s slot
  let sane := word s slot 0 == 0x4F445649 && slice (word s slot 1) 0 16 == 1 && decide (slice (word s slot 1) 16 16 < 2) &&
    decide (len % 4 = 0) && decide (len ≤ 0x400000) && decide (1 ≤ n) && decide (n ≤ 255) && decide (0x100 + 16 * n ≤ len)
  sane && Flash.crc32c (span s slot 0 7 ++ span s slot 64 (len / 4)) == word s slot 7 &&
    Lcm.usable s (keyId s slot) && decide (keyId s slot < 4) &&
    signed s slot &&
    (table s slot).all (sectionOk (role s slot == 1) len)

/-! ### The slot record (R270; its layout in notes/assumptions/18.md) -/

/-- A slot record: CUR, PREV, PREV_VALID, TRIAL, TRIED. -/
structure Record where
  cur : Nat := 0
  prev : Nat := 0
  prevValid : Bool := false
  trial : Bool := false
  tried : Bool := false
  deriving DecidableEq, Repr

/-- The first word of a copy. -/
def copyBase (c : Nat) : Nat := 0xC0000 + 0x4000 * c

def copyOk (s : State) (c : Nat) : Bool :=
  Flash.crc32c [Flash.read s (copyBase c), Flash.read s (copyBase c + 1)] == Flash.read s (copyBase c + 2)

def generation (s : State) (c : Nat) : Nat := Flash.read s (copyBase c + 1)

/-- The copy in use: a good one, of two the higher generation. -/
def copyInUse (s : State) : Option Nat :=
  match copyOk s 0, copyOk s 1 with
  | true, true => if generation s 0 < generation s 1 then some 1 else some 0
  | true, false => some 0
  | false, true => some 1
  | false, false => none

def decode (w : Nat) : Record := ⟨slice w 0 1, slice w 1 1, w.testBit 2, w.testBit 3, w.testBit 4⟩

def encode (r : Record) : Nat := r.cur % 2 + 2 * (r.prev % 2) + 4 * b01 r.prevValid + 8 * b01 r.trial + 16 * b01 r.tried

/-- The record; without a good copy slot A, nothing remembered. -/
def record (s : State) : Record :=
  match copyInUse s with
  | some c => decode (Flash.read s (copyBase c))
  | none => {}

/-- An update writes the other copy with the next generation. -/
def writeRecord (r : Record) (s : State) : State :=
  let g := match copyInUse s with
    | some c => generation s c
    | none => 0
  let c := match copyInUse s with
    | some 0 => 1
    | _ => 0
  let w := [encode r, (g + 1) % 2 ^ 32]
  Flash.program (copyBase c) (w ++ [Flash.crc32c w]) (Flash.erase (copyBase c) (copyBase c + 0x4000) s)

/-- IMG_STAT and the version registers follow the record. -/
def showRecord (s : State) : State :=
  let r := record s
  let s := ((s.put F.SE_IMG_STAT_SLOT r.cur).put F.SE_IMG_STAT_PREV_VALID (b01 r.prevValid)).put F.SE_IMG_STAT_TRIAL (b01 r.trial)
  (s.put F.SE_IMG_VER_VERSION (version s r.cur)).put F.SE_PREV_VER_VERSION (if r.prevValid then version s r.prev else 0)

def swapped (r : Record) : Record := { r with cur := r.prev, prev := r.cur, trial := false, tried := false }

/-- Activation of a slot (R270); the Bool asks for the image-loading reset. -/
def activate (slot : Nat) (s : State) : Bool × State :=
  if valid s slot then
    (true, writeRecord ⟨slot, (record s).cur, true, true, false⟩ s)
  else (false, s.set F.ENG_INT_CAUSE_ACT_ERR 64)

/-- HEALTH_OK (R270): within the trial window TRIAL is cleared. -/
def healthOk (s : State) : State :=
  if s.on F.SE_IMG_STAT_TRIAL && s.get F.SYS_STAT_PHASE == 5 then
    (writeRecord { record s with trial := false, tried := false } (s.clr F.SE_IMG_STAT_TRIAL)).clr F.SE_IMG_STAT_TRIAL_LEFT
  else s

/-- HEALTH_TMO (R270): the window ends without HEALTH_OK; the Bool asks for the image-loading reset. -/
def healthTimeout (s : State) : Bool × State :=
  if s.on F.SE_IMG_STAT_TRIAL && s.get F.SYS_STAT_PHASE == 5 then
    (true, writeRecord (swapped (record s)) (s.put F.SE_IMG_STAT_RB_CAUSE 2))
  else (false, s)

/-- ROLLBACK (R270); the Bool asks for the image-loading reset. -/
def rollback (s : State) : Bool × State :=
  let r := record s
  if r.prevValid && valid s r.prev then (true, writeRecord (swapped r) (s.put F.SE_IMG_STAT_RB_CAUSE 1))
  else (false, s.set F.ENG_INT_CAUSE_ACT_ERR 64)

/-! ### The descriptor (R359) -/

/-- READ_CMD and LANES agree. -/
def lanesOk (cmd lanes : Nat) : Bool :=
  ((cmd == 0x03 || cmd == 0x0B) && lanes == 1) || ((cmd == 0x6B || cmd == 0xEB) && lanes == 4)

def descriptorOk (s : State) : Bool :=
  let w := Flash.readWords s 0 4
  w.getD 0 0 == 0x53504644 && lanesOk (slice (w.getD 1 0) 0 8) (slice (w.getD 1 0) 8 8) && decide (slice (w.getD 1 0) 16 8 ≤ 15) &&
    w.getD 2 0 == 0 && Flash.crc32c (w.take 3) == w.getD 3 0

/-- BOOT reads the descriptor: the clock in use, or ERR = DESC with the defaults. -/
def readDescriptor (s : State) : State :=
  if descriptorOk s then
    (s.set F.BOOT_STAT_DESC_OK).put F.BOOT_STAT_SPI_MHZ (100 / (slice (Flash.read s 1) 24 8 + 1))
  else s.put F.BOOT_STAT_ERR 1

/-! ### Loading (R269) -/

/-- The words of a section with their place in it. -/
def data (s : State) (slot : Nat) (x : Section) : List (Nat × Nat) :=
  (List.range (x.length / 4)).map (fun i => (atByte s slot (x.offset + 4 * i), i))

/-- A THREADS word: ENTRY, SUPER and START. -/
def loadThread (n t w : Nat) (s : State) : State :=
  ((s.put F.ENG_THR_ENTRY w n t).put F.ENG_THR_SUPER (slice w 12 1) n t).put H.ENG_START (slice w 13 1) n t

/-- A section is loaded; `tableWord` writes a TABLE word. -/
def loadSection (tableWord : Nat → Nat → State → State) (slot : Nat) (x : Section) (s : State) : State :=
  let d := data s slot x
  match x.kind with
  | 0 => (s.eachOf d (fun y t => t.put H.ENG_IMEM y.1 x.engine (x.dest / 4 + y.2))).set F.ENG_STAT_LOADED x.engine
  | 1 => s.eachOf d (fun y t => t.put H.ENG_DMEM y.1 x.engine (x.dest / 4 + y.2))
  | 2 => s.eachOf d (fun y t => loadThread x.engine y.2 y.1 t)
  | _ => s.eachOf d (fun y t => tableWord (x.dest + 4 * y.2) y.1 t)

/-! ### The firmware push of a leaf (R115) -/

/-- The slot that does not run. -/
def spare (s : State) : Nat := 1 - s.get F.SE_IMG_STAT_SLOT

/-- FW_OPEN: the slot is erased. -/
def fwOpen (version size crc : Nat) (s : State) : State :=
  let b := slotBase (spare s)
  let s := ((s.set H.VLK_FW_ON).put H.VLK_FW_VER version).put H.VLK_FW_SIZE size
  Flash.erase b (b + 0x100000) ((s.put H.VLK_FW_CRC crc).wipe H.VLK_FW_HAVE)

/-- Byte `a` of the pushed image is programmed. -/
def fwByte (a x : Nat) (s : State) : State :=
  let m := 2 ^ (8 * (a % 4))
  (Flash.program (slotBase (spare s) + a / 4) [2 ^ 32 - 1 - 255 * m + x % 256 * m] s).setBit H.VLK_FW_HAVE (a % 4) (a / 4)

/-- FW_DATA: up to 1,008 bytes from a byte offset; those within the slot are programmed. -/
def fwData (offset : Nat) (bytes : List Nat) (s : State) : State :=
  if s.on H.VLK_FW_ON then
    s.eachOf (bytes.take 1008).zipIdx (fun x t => if offset + x.2 < 0x400000 then fwByte (offset + x.2) x.1 t else t)
  else s

/-- Piece i of 1,024 bytes is missing. -/
def missing (s : State) (i : Nat) : Bool :=
  decide (1024 * i < s.get H.VLK_FW_SIZE) &&
    !(List.range 1024).all (fun b => decide (s.get H.VLK_FW_SIZE ≤ 1024 * i + b) || s.bit H.VLK_FW_HAVE (b % 4) (256 * i + b / 4))

/-- The bitmap of missing pieces, as 128 words. -/
def bitmap (s : State) : List Nat :=
  (List.range 128).map (fun w => (List.range 32).foldl (fun a b => if missing s (32 * w + b) then a + 2 ^ b else a) 0)

end Sys2Proof.Machine.Img
end

