-- ==== Sys2Proof/Machine/Rest.lean ====
section
/-! DEFINITION. Sys2Proof/Machine/Rest.lean: entering REST and waking from it (spec/17_power_reset_and_start_up.md, R361 to R365). -/
namespace Sys2Proof.Machine.Rest
open Sys2Proof Sys2Proof.Machine

/-- PWR.REST_STAT.STATE: 0 AWAKE, 1 ENTERING, 2 REST, 3 WAKING. -/
def state (s : State) : Nat := s.get F.PWR_REST_STAT_STATE

/-- The data paths run (R362, R363). -/
def awake (s : State) : Bool := state s == 0

/-- The condition of R361 that refuses an entry; 0 for none. -/
def refusal (s : State) : Nat :=
  if s.on F.PEER_CTRL_EN then 1
  else if s.on F.CAL_STAT_STATE || s.on F.CAL_STAT_FLASH_BUSY then 2
  else if s.on F.BST_STAT_BUSY then 3
  else if s.on F.BOOT_FL_STAT_BUSY then 4
  else if s.get F.SYS_STAT_PHASE ≠ 5 ∨ state s ≠ 0 then 5
  else 0

/-- The egress of every enabled client sends its replacement signal until its lanes stop (R362 step 1). -/
def replaced (s : State) : State := s.each 32 (fun c t => if Hsl.enabled t c then Hsl.replace c t else t)

/-- REST_ENTER (R361, R362 step 1); the Bool says whether the entry is accepted. -/
def enter (s : State) : Bool × State :=
  let e := refusal s
  if e = 0 then (true, replaced (Ltx.mute 3 ((s.put F.PWR_REST_STAT_STATE 1).clr H.PWR_WAKE_PEND)))
  else (false, (s.put F.PWR_REST_STAT_ERR e).set F.PWR_INT_CAUSE_REST_REFUSED)

/-- The wake starts (Table PWR-5 step 1): VMIN_MV is requested, at once or when the request in progress ends. -/
def begin (s : State) : State :=
  let s := s.put F.PWR_REST_STAT_STATE 3
  if Pwr.busy s then s.set H.PWR_VMIN_WAITS else Pwr.askVmin s

/-- REST_WAKE (R364, R365). -/
def wake (s : State) : State :=
  match state s with
  | 2 => begin s
  | 1 => s.set H.PWR_WAKE_PEND
  | _ => s

/-- A bit of SYS.INT_SUMMARY that REST_WAKE_MASK names is set (R364). -/
def masked (s : State) : Bool := (s.summary &&& s.get F.PWR_REST_WAKE_MASK_BLK) != 0

end Sys2Proof.Machine.Rest
end

