-- ==== Sys2Proof/Machine/VlkBase.lean ====
section
/-! DEFINITION. Sys2Proof/Machine/VlkBase.lean: the Voluman link's messages (spec/05_point_to_multipoint.md, R101 to R106): sending,
acknowledging and repeating them, the receive ring, the frame that carries them. -/
namespace Sys2Proof.Machine.Vlk
open Sys2Proof Sys2Proof.Machine

/-- A resting leaf that has been called (R116): it is awake for its hub. -/
def called (s : State) : Bool := s.get F.VLK_SELF_STATE == 5 && s.on H.VLK_LISTENING && s.on H.VLK_HEARD

/-- A leaf's upstream allocation is in use (Table VLK-6): in ACTIVE, in ASSIGNED from START_MF on, and in a called leaf that catches up before
its WAKE_ACK (R119, notes/assumptions/89.md). -/
def allocated (s : State) : Bool := s.get F.VLK_SELF_STATE == 4 || (s.get F.VLK_SELF_STATE == 3 && s.on H.VLK_UP_ON) || called s

/-- This device transmits on DATA subcarrier k of its bank: a hub on each, a leaf on those whose entry names it (R96) while its allocation
is in use. -/
def owns (s : State) (k : Nat) : Bool := !s.leaf || (allocated s && slice (s.get H.LTX_ACTIVE k) 22 9 == s.get F.VLK_SELF_LEAF)

/-- The length of a message on the wire: its words, in steps of 16 bytes, 64 bytes at least (R104). -/
def wireLen (m : VMsg) : Nat := max 64 (ceilDiv (8 + 4 * m.body.length) 16 * 16)

/-- The first two words of a message (Table VLK-2), bytes in rising order from bit 0. -/
def headerWords (m : VMsg) : List Nat :=
  [m.addr % 1024 + 1024 * b01 m.ackReq + 2048 * b01 m.sync + 65536 * (m.type % 256) + 16777216 * (m.seq % 256), wireLen m]

/-- A message as its words. -/
def words (m : VMsg) : List Nat := headerWords m ++ m.body

/-- A message's bytes, zero to its length. -/
def messageBytes (m : VMsg) : List Nat := padTo (wireLen m) (bytesOf (words m))

/-- The 4,096 bytes of a management container (R103). -/
def containerBytes (messages : List VMsg) : List Nat := checked 4096 (messages.flatMap messageBytes)

/-- The LEN values a message may have (R104). -/
def lenOk (len : Nat) : Bool := decide (64 ≤ len) && decide (len ≤ 1024) && len % 16 == 0

/-- Broadcast destinations: all members of a beacon, all leaves (Table VLK-2). -/
def broadcast (addr : Nat) : Bool := addr == 0x3FE || addr == 0x3FF

/-- VLK sends a message of its own (R106): it takes the next SEQ of its receiver's stream; a broadcast is never acknowledged. -/
def send (beacon addr type : Nat) (ackReq sync : Bool) (body : List Nat) (s : State) : State :=
  let a := ackReq && !broadcast addr
  let q := s.get H.VLK_SEQ (addr % 1024) (b01 a)
  let m : VMsg := ⟨beacon, addr, a, sync, type, q, body⟩
  let s := s.put H.VLK_SEQ (q + 1) (addr % 1024) (b01 a)
  { s with vlk := { s.vlk with own := s.vlk.own ++ [m] } }

/-- The hub sends to leaf l on the leaf's beacon. -/
def toLeaf (l type : Nat) (ackReq sync : Bool) (body : List Nat) (s : State) : State :=
  send (s.get F.VLK_LEAF_BEACON l) l type ackReq sync body s

/-- The leaf's own number as its messages carry it: 0x3FD while a stranger. -/
def selfAddr (s : State) : Nat := let l := s.get F.VLK_SELF_LEAF; if l = 0x1FF then 0x3FD else l

/-- The leaf sends upstream. -/
def toHub (type : Nat) (ackReq : Bool) (body : List Nat) (s : State) : State :=
  send 0 (selfAddr s) type ackReq false body s

/-- Status values of ACK (notes/assumptions/12.md, DESIGN CHOICE: the spec names them and gives no numbers). -/
def statusOk : Nat := 0
def statusUnknown : Nat := 1
def statusFreqRefused : Nat := 2

/-- A message enters the receive ring (R106), or is discarded and counted where it holds 32; the Bool says whether it entered. -/
def ringPush (w : List Nat) (s : State) : Bool × State :=
  if s.vlk.ring.length < 32 then
    let s := { s with vlk := { s.vlk with ring := s.vlk.ring ++ [w] } }
    let s := s.put F.VLK_RXSTAT_COUNT s.vlk.ring.length
    (true, s.set F.VLK_INT_CAUSE_RX_AVAIL)
  else (false, s.count F.VLK_RX_DROP_CNT_COUNT)

/-- RXPOP (R106): the oldest message is released. -/
def ringPop (s : State) : State :=
  let s := { s with vlk := { s.vlk with ring := s.vlk.ring.drop 1 } }
  s.put F.VLK_RXSTAT_COUNT s.vlk.ring.length

/-- RXSTAT.LEN and RXBUF[w] as they read: those of the oldest message. -/
def ringLen (s : State) : Nat :=
  match s.vlk.ring with
  | [] => 0
  | m :: _ => m.getD 1 0 % 2048

def ringWord (s : State) (w : Nat) : Nat :=
  match s.vlk.ring with
  | [] => 0
  | m :: _ => m.getD w 0

/-- SEQ `q` matches one of the last 32 accepted from the sender (R105): the status it was acknowledged with. -/
def duplicate (s : State) (sender q : Nat) : Option Nat :=
  ((Store.get [] s.vlk.seen sender).find? (fun x => x % 256 == q % 256)).map (· / 256)

/-- SEQ `q` has been accepted from the sender, with a status. -/
def remember (sender q status : Nat) (s : State) : State :=
  let l := ((Store.get [] s.vlk.seen sender) ++ [q % 256 + 256 * status])
  { s with vlk := { s.vlk with seen := Store.put [] s.vlk.seen sender (l.drop (l.length - 32)) } }

/-- ACK(SEQ, status) goes into the receiver's next frame or container (R105). -/
def ack (sender q status : Nat) (s : State) : State :=
  if sender = 512 then toHub 0x48 false [q, status] s else toLeaf sender 0x48 false false [q, status] s

/-- A message with ACK_REQ is received (R105): a duplicate is acknowledged again, with the same status, and not acted on; `act` answers the new state and
the status, none where the message is not accepted and so not acknowledged. -/
def receive (sender q : Nat) (ackReq bcast : Bool) (act : State → State × Option Nat) (s : State) : State :=
  if ackReq && !bcast then
    match duplicate s sender q with
    | some st => ack sender q st s
    | none =>
      let r := act s
      match r.2 with
      | some st => ack sender q st (remember sender q st r.1)
      | none => r.1
  else (act s).1

/-- A message that awaits an acknowledgement was sent to `peer` (512 the hub): to its number, or to a stranger by the identifier in body
bytes 8 to 15, which the hub holds for leaf `peer` since it answered (Table VLK-2, R109). -/
def sentTo (s : State) (peer : Nat) (m : VMsg) : Bool :=
  peer == 512 || m.addr == peer ||
  (m.addr == 0x3FD && m.body.getD 0 0 == s.get F.VLK_LEAF_ID_ID peer 0 && m.body.getD 1 0 == s.get F.VLK_LEAF_ID_ID peer 1)

/-- An acknowledgement arrives from `peer` for SEQ q: the message is no longer repeated (R105). -/
def acked (peer q : Nat) (s : State) : State :=
  { s with vlk := { s.vlk with unacked := s.vlk.unacked.filter (fun u => !(u.msg.seq == q && sentTo s peer u.msg)) } }

/-- The message of SEQ q that `peer` has not acknowledged. -/
def findUnacked (s : State) (peer q : Nat) : Option Unacked := s.vlk.unacked.find? (fun u => u.msg.seq == q && sentTo s peer u.msg)

/-- The repeat interval in frames downstream, one multiframe upstream (R105). -/
def retxInterval (s : State) : Nat := if s.leaf then 1 else max 1 (s.get F.VLK_RETX_CFG_RETX_TMO)

/-- An unacknowledged message has reached its repeat interval (R105): it is sent again, or, its repeats exhausted, given up:
RETX_FAIL. -/
def retx (peer q : Nat) (s : State) : State :=
  match findUnacked s peer q with
  | none => s
  | some u =>
    if u.age < retxInterval s then s
    else
      let others := s.vlk.unacked.filter (fun x => x != u)
      if u.repeats < s.get F.VLK_RETX_CFG_RETX_MAX then
        { s with vlk := { s.vlk with own := s.vlk.own ++ [u.msg], unacked := others ++ [⟨u.msg, 0, u.repeats + 1⟩] } }
      else
        let s := { s with vlk := { s.vlk with unacked := others } }
        ((s.count F.VLK_RETX_CNT_COUNT).set F.VLK_INT_CAUSE_RETX_FAIL).put F.VLK_STAT_LAST_LEAF u.msg.addr

/-- A message that is sent with ACK_REQ for the first time awaits its acknowledgement. -/
def await (m : VMsg) (s : State) : State :=
  if m.ackReq && !s.vlk.unacked.any (fun u => u.msg == m) then
    { s with vlk := { s.vlk with unacked := s.vlk.unacked ++ [⟨m, 0, 0⟩] } }
  else s

/-- A frame or container of `room` bytes takes messages in order while they fit; the rest is left (R102: none spans two). -/
def pack (room : Nat) : List VMsg → List VMsg × List VMsg
  | [] => ([], [])
  | m :: rest =>
    if wireLen m ≤ room then
      let r := pack (room - wireLen m) rest
      (m :: r.1, r.2)
    else ([], m :: rest)

/-- The posted messages in the order they are served: queue `q` first, one of each queue in turn (R106). -/
def roundRobin (q : Nat) (l : List (Nat × VMsg)) : List (Nat × VMsg) :=
  let rounds := (List.range l.length).map (fun r =>
    (List.range 8).filterMap (fun i => ((l.filter (fun x => x.1 == (q + i) % 8))[r]?)))
  rounds.flatten

/-- The queue served next after the first `n` messages of that order: the one after the last served. -/
def nextQueue (q n : Nat) (order : List (Nat × VMsg)) : Nat :=
  match (order.take n).getLast? with
  | some x => (x.1 + 1) % 8
  | none => q

/-- A message for every beacon (0x1FF) is copied to each of them (R106). -/
def copies (bs : List Nat) (m : VMsg) : List VMsg := if m.beacon = 0x1FF then bs.map (fun b => { m with beacon := b }) else [m]

/-- The waiting messages for every beacon become one for each, in their places. -/
def spread (bs : List Nat) (s : State) : State :=
  if bs.isEmpty then s
  else { s with vlk := { s.vlk with
    own := s.vlk.own.flatMap (copies bs),
    posted := s.vlk.posted.flatMap (fun x => (copies bs x.2).map (fun m => (x.1, m))) } }

/-- Every message waiting grows older by one (R105). -/
def age (s : State) : State :=
  { s with vlk := { s.vlk with unacked := s.vlk.unacked.map (fun u => { u with age := u.age + 1 }) } }

/-- The beacons of the active downstream table (R95). -/
def beacons (s : State) : List Nat :=
  (List.range (Ltx.subcarriers s)).filter (fun k => s.get H.LTX_ACTIVE k % 8 == 2)

/-- Bytes 0 to 27 of the VDF header on beacon b (Table VLK-1), fields of more than one byte low byte first (notes/assumptions/85.md). From multiframe M + 4 on the announced grant version is the active one
(R112). -/
def vdfHeader (s : State) (b : Nat) : List Nat :=
  let tree := s.get F.VLK_TREE_CFG_TREE_ID
  let flags := b + 512 * s.get F.PEER_CFG_FEEDER + 1024 * s.get F.VLK_CTRL_REG_OPEN
  let mfn := s.get H.FRM_TX_MFN
  let wakeOf := fun i => (List.range 512).any (fun l =>
    s.on H.VLK_WAKE_BIT l && s.get F.VLK_LEAF_BEACON l == b && s.get F.VLK_LEAF_MEMBER l == i)
  let wake := (List.range 8).map (fun j =>
    ((List.range 8).map (fun i => if wakeOf (8 * j + i) then 2 ^ i else 0)).foldl (· + ·) 0)
  let since := (mfn + 2 ^ 24 - s.get H.SCM_GRANT_M) % 2 ^ 24
  let due := s.get F.SCM_GRANT_STAT_STATE == 2
  let ann := due && decide (since < 4)
  [tree % 256, tree / 256, flags % 256, flags / 256, mfn % 256, mfn / 256 % 256, mfn / 65536, s.get H.FRM_TX_FN] ++ wake ++
  [if due && decide (4 ≤ since) && decide (since < 2 ^ 23) then s.get H.SCM_GRANT_LAST else s.get F.SCM_GRANT_STAT_VER,
    if ann then 4 - since else 0, if ann then s.get H.SCM_GRANT_LAST else 0] ++ List.replicate 9 0

/-- The messages of beacon b (in a leaf those of its container) that fit in `room` bytes: VLK's own first, then the posted ones, one of each
queue in turn. They leave their queues, and those with ACK_REQ await it. -/
def fetch (mine : VMsg → Bool) (b room : Nat) (s : State) : List VMsg × State :=
  let own := pack room (s.vlk.own.filter mine)
  let used := (own.1.map wireLen).foldl (· + ·) 0
  let q := s.get H.VLK_RR b
  let order := roundRobin q (s.vlk.posted.filter (fun x => mine x.2))
  let post := if own.2.isEmpty then (pack (room - used) (order.map Prod.snd)).1 else []
  let sent := own.1 ++ post
  let s := s.eachOf sent await
  let s := { s with vlk := { s.vlk with
    own := s.vlk.own.filter (fun m => !own.1.contains m),
    posted := s.vlk.posted.filter (fun x => !post.contains x.2) } }
  (sent, s.put H.VLK_RR (nextQueue q post.length order) b)

/-- VDF_SEND on one beacon (R101, R102): its messages while they fit in 4,032 bytes. -/
def vdfSend (b : Nat) (s : State) : State :=
  let r := fetch (fun m => m.beacon == b) b 4032 s
  r.2.emit (.vdf b (vdfHeader s b) r.1)

/-- The scrambler of the SLF payload is FRM's; the rate 1/2, constraint length 7 code is R101's: generators 171 and 133 octal over the
last seven input bits, newest first. -/
def parity (n : Nat) : Nat := popBits 7 n % 2

def encodeBit (window : Nat) : List Nat := [parity (window &&& 0x79), parity (window &&& 0x5B)]

/-- The coded bits of a bit list under the tail-biting code (R101): the encoder starts in the state of the last six input bits. -/
def encodeFrom (st : Nat) : List Nat → List Nat
  | [] => []
  | b :: rest => encodeBit (b * 64 + st) ++ encodeFrom ((b * 64 + st) / 2) rest

def tailState (bits : List Nat) : Nat :=
  (bits.drop (bits.length - 6)).foldl (fun st b => (b * 64 + st) / 2) 0

def encode (bits : List Nat) : List Nat := encodeFrom (tailState bits) bits

end Sys2Proof.Machine.Vlk
end

