-- ==== Sys2Proof/Machine/Scm.lean ====
section
/-! DEFINITION. Sys2Proof/Machine/Scm.lean: the loading changes and grant changes of a hub, and the loading computed from the SNR
(spec/04_bit_loading_and_fec.md R74 to R84, spec/05_point_to_multipoint.md R95, R111 to R113). Direction 0 is downstream, 1
upstream. -/
namespace Sys2Proof.Machine.Scm
open Sys2Proof Sys2Proof.Machine

/-! ### The loading an SNR supports (R78), in fixed point -/

/-- Fraction bits of a power ratio. -/
def powBits : Nat := 96

/-- 10^(1/160) with `powBits` fraction bits: the ratio of 1/16 dB. -/
def step16 : Nat := 80376591214812237727436256582

/-- The ratio of `n` sixteenths of a decibel, with `powBits` fraction bits. -/
def ratioUp : Nat → Nat
  | 0 => 2 ^ powBits
  | n + 1 => (ratioUp n * step16) >>> powBits

/-- 10^(x/160) with `powBits` fraction bits. -/
def ratio (x : Int) : Nat := if x < 0 then 2 ^ (2 * powBits) / ratioUp x.natAbs else ratioUp x.natAbs

/-- `n` fraction bits of the base-2 logarithm of a mantissa between 1 and 2, by squaring. -/
def logBits : Nat → Nat → Nat → Nat
  | 0, acc, _ => acc
  | n + 1, acc, m =>
    let q := (m * m) >>> powBits
    if q ≥ 2 ^ (powBits + 1) then logBits n (2 * acc + 1) (q / 2) else logBits n (2 * acc) q

/-- log2 of `v` / 2^powBits, with 48 fraction bits; `v` at least 2^powBits. -/
def log2Fix (v : Nat) : Nat :=
  let e := Nat.log2 v
  (e - powBits) * 2 ^ 48 + logBits 48 0 (if powBits ≤ e then v >>> (e - powBits) else v)

/-- Nt = log2(1 + 10^(x/10)) for x in 1/16 dB, with 48 fraction bits (R78). -/
def netBits (x : Int) : Nat := log2Fix (2 ^ powBits + ratio x)

/-- The exact rates of Table FEC-1. -/
def rateNum (r : Nat) : Nat := [3, 5, 8].getD r 8
def rateDen (r : Nat) : Nat := [4, 6, 9].getD r 9

/-- log2 of the constellation, and the limits of h (Table LTX-1). -/
def labelBits (c : Nat) : Nat := 2 * (c + 1)
def hMin (c : Nat) : Nat := [96, 144, 224, 352].getD c 0
def hMax (c : Nat) : Nat := [128, 256, 384, 480].getD c 0

/-- The search of R78 from constellation c up; `nt` has 48 fraction bits. -/
def fitFrom (r nt : Nat) : List Nat → Nat × Nat
  | [] => if r = 0 then (2, 384) else (3, 480)
  | c :: rest =>
    if c = 3 ∧ r = 0 then fitFrom r nt rest
    else
      let d := rateDen r
      let hc := 64 * (nt * d + (d - rateNum r) * labelBits c * 2 ^ 48)
      if hc ≤ hMax c * d * 2 ^ 48 then
        if hMin c ≤ hc / (d * 2 ^ 48) then (c, hc / (d * 2 ^ 48)) else (c - 1, hMax (c - 1))
      else fitFrom r nt rest

/-- fit(x) of R78: constellation and h, or none for SHORT. -/
def fit (r : Nat) (x : Int) : Option (Nat × Nat) :=
  let nt := netBits x
  let a := nt * rateDen r
  let b := rateNum r * 2 ^ 48
  if 2 * a < 3 * b then none
  else if a ≤ 2 * b then some (0, 64 * a / b)
  else some (fitFrom r nt [1, 2, 3])

/-! ### The fields of a direction -/

def auto (d : Nat) : Field := if d = 0 then F.SCM_CTRL_AUTO_DS else F.SCM_CTRL_AUTO_US
def margin (d : Nat) : Field := if d = 0 then F.SCM_LOAD_CFG_MARGIN_DS else F.SCM_LOAD_CFG_MARGIN_US
def nextTab (d : Nat) : Field := if d = 0 then F.SCM_DS_NEXT_ENTRY else F.SCM_US_NEXT_ENTRY
def chState (d : Nat) : Field := if d = 0 then F.SCM_CHG_STAT_DS_STATE else F.SCM_CHG_STAT_US_STATE
def chVer (d : Nat) : Field := if d = 0 then F.SCM_CHG_STAT_DS_VER else F.SCM_CHG_STAT_US_VER
def stale (d : Nat) : Field := if d = 0 then F.SCM_SC_FLAG_STALE else F.SCM_SC_FLAG_US_STALE
def short (d : Nat) : Field := if d = 0 then F.SCM_SC_FLAG_SHORT else F.SCM_SC_FLAG_US_SHORT
def overField (d : Nat) : Field := if d = 0 then F.SCM_SC_FLAG_OVER else F.SCM_SC_FLAG_US_OVER

/-- The hub's local bank of direction d is LTX's downstream, LRX's upstream; a leaf's the other way round. -/
def localTx (leaf : Bool) (d : Nat) : Bool := (d == 0) != leaf
def active (s : State) (d : Nat) : Field := if localTx s.leaf d then H.LTX_ACTIVE else H.LRX_ACTIVE
def rate (s : State) (d : Nat) : Nat :=
  if localTx s.leaf d then s.get F.FEC_CFG_RATE_TX else s.get F.FEC_CFG_RATE_RX
def subcarriers (s : State) (d : Nat) : Nat := if localTx s.leaf d then Ltx.subcarriers s else Lrx.subcarriers s
def ready (s : State) (d : Nat) : Bool :=
  if localTx s.leaf d then s.on F.LTX_STAT_SHADOW_READY else s.on F.LRX_STAT_SHADOW_READY
def writeBank (d ver : Nat) (entries : List (Nat × Nat)) (s : State) : State :=
  if localTx s.leaf d then Ltx.writeShadow ver entries s else Lrx.writeShadow ver entries s
def announceBank (d mf : Nat) (s : State) : State :=
  if localTx s.leaf d then Ltx.announce mf s else Lrx.announce mf s
def shadowVer (s : State) (d : Nat) : Nat :=
  if localTx s.leaf d then s.get H.LTX_SHADOW_VER else s.get H.LRX_SHADOW_VER
def activeVer (s : State) (d : Nat) : Nat :=
  if localTx s.leaf d then s.get H.LTX_ACT_VER else s.get H.LRX_ACT_VER
def swapDue (s : State) (d : Nat) : Bool := if localTx s.leaf d then s.on H.LTX_SWAP_DUE else s.on H.LRX_SWAP_DUE

/-- The next version, modulo 256 and skipping 0 (R81). -/
def nextVer (v : Nat) : Nat := v % 255 + 1

/-- The difference of two multiframe numbers. -/
def mfSince (now start : Nat) : Nat := (now + 2 ^ 24 - start) % 2 ^ 24

/-- Multiframes that have begun since a count was taken (R77, R80, R82). The count goes on where the transmit counters stop and start
again. -/
def since (s : State) (start : Nat) : Nat := (s.get H.SCM_MF + 2 ^ 32 - start) % 2 ^ 32

/-- The multiframe and frame number of the transmit frame that comes next (R142). -/
def nextFrame (s : State) : Nat × Nat :=
  if !s.on H.FRM_TX_RUN then (0, 0)
  else if s.get H.FRM_TX_FN = 255 then ((s.get H.FRM_TX_MFN + 1) % 2 ^ 24, 0)
  else (s.get H.FRM_TX_MFN, s.get H.FRM_TX_FN + 1)

/-! ### Beacon groups and the leaves of a change -/

/-- The groups of a downstream table (R95): each beacon with the end of its group. -/
def groups (n : Nat) (entry : Nat → Nat) : List (Nat × Nat) :=
  let bs := (List.range n).filter (fun k => entry k % 8 == 2)
  bs.zip ((bs.drop 1) ++ [n])

/-- The leaf has a number in the tree and takes part in changes: ASSIGNED or ACTIVE (R118 excepts RESTING; notes/assumptions/14.md
says so of LOST). -/
def awaited (s : State) (l : Nat) : Bool := s.get F.VLK_LEAF_STATE l == 1 || s.get F.VLK_LEAF_STATE l == 2

/-- The limits of R95 on a downstream table: a group is at most 64 wide; the beacon of every leaf opens a group that holds the leaf's
receive group; a beacon carries at most 64 leaves, with member indices that differ. -/
def groupsOk (s : State) (n : Nat) (entry : Nat → Nat) : Bool :=
  let gs := groups n entry
  gs.all (fun g => decide (g.2 - g.1 ≤ 64)) &&
  (List.range 512).all (fun l => s.get F.VLK_LEAF_STATE l == 0 ||
    gs.any (fun g => g.1 == s.get F.VLK_LEAF_BEACON l && decide (s.get H.VLK_LEAF_KHI l ≤ g.2))) &&
  (gs.all (fun g =>
    let ms := ((List.range 512).filter (fun l => s.get F.VLK_LEAF_STATE l != 0 && s.get F.VLK_LEAF_BEACON l == g.1)).map
      (fun l => s.get F.VLK_LEAF_MEMBER l)
    decide (ms.length ≤ 64) && decide (ms.eraseDups.length = ms.length)))

/-- The group of leaf l: the beacon group of the active downstream table that its beacon opens (notes/assumptions/14.md). -/
def leafGroup (s : State) (l : Nat) : Nat × Nat :=
  ((groups (Ltx.subcarriers s) (fun k => s.get H.LTX_ACTIVE k)).find? (fun g => g.1 == s.get F.VLK_LEAF_BEACON l)).getD (0, 0)

/-- The body of LOAD_TABLE and of the answers: direction, version, then for LOAD_TABLE the first subcarrier and the entries. -/
def loadBody (d ver lo : Nat) (entries : List Nat) : List Nat := d :: ver :: lo :: entries

/-- Send LOAD_TABLE to leaf l with the entries a table gives its group (R81 step 3). -/
def sendTable (d ver l : Nat) (sync : Bool) (entry : Nat → Nat) (s : State) : State :=
  let g := leafGroup s l
  Vlk.toLeaf l 0x20 true sync (loadBody d ver g.1 ((List.range (g.2 - g.1)).map (fun i => entry (g.1 + i)))) s

/-! ### A loading change (R81, R82, R84) -/

/-- The leaves that the change in flight addresses. -/
def addressed (s : State) (d : Nat) : List Nat := (List.range 512).filter (fun l => s.on H.SCM_ADDRESSED d l)

def failing (s : State) (d : Nat) : List Nat := (addressed s d).filter (fun l => !s.on H.SCM_ACKED d l)

/-- The change in flight ends without a swap; LOAD_CANCEL(V) goes to the addressed leaves. -/
def drop (d : Nat) (s : State) : State :=
  let v := s.get H.SCM_LAST_VER d
  let s := s.eachOf (addressed s d) (fun l t => Vlk.toLeaf l 0x23 true false [d, v] t)
  let s := s.each 512 (fun l t => (t.clr H.SCM_ADDRESSED d l).clr H.SCM_ACKED d l)
  s.clr (chState d)

/-- CHG_FAIL (R82): the change is abandoned, with the failing leaves in NAK_MAP. -/
def abandon (d : Nat) (leaves : List Nat) (s : State) : State :=
  let s := drop d s
  let s := s.eachOf leaves (fun l t => t.setBit F.SCM_NAK_MAP_LEAF (l % 32) (l / 32))
  s.set F.SCM_INT_CAUSE_CHG_FAIL

/-- Start a change to a table (R81 steps 1 to 3): it addresses the leaves that take part and whose group differs; with `resend` every leaf
that takes part, and the one that asked for it, given plus 1. -/
def start (d : Nat) (entry : Nat → Nat) (resend : Nat) (s : State) : State :=
  let v := nextVer (s.get H.SCM_LAST_VER d)
  let act := active s d
  let s := ((s.put H.SCM_LAST_VER v d).put (chState d) 1).put H.SCM_START_MF (s.get H.SCM_MF) d
  let s := writeBank d v ((List.range 512).map (fun k => (k, entry k))) s
  let s := s.each 512 (fun l t =>
    let g := leafGroup t l
    let differs := (List.range (g.2 - g.1)).any (fun i => entry (g.1 + i) != t.get act (g.1 + i))
    let t := (t.clr H.SCM_ACKED d l).clr H.SCM_ADDRESSED d l
    if l + 1 == resend || (awaited t l && (resend != 0 || differs)) then sendTable d v l false entry (t.set H.SCM_ADDRESSED d l) else t)
  if ready s d then s else abandon d [] s

/-- The staged table of a direction. -/
def staged (s : State) (d k : Nat) : Nat := s.get (nextTab d) k

/-- COMMIT_DS and COMMIT_US (R81, R84, R95, R113). -/
def commit (d : Nat) (s : State) : State :=
  if s.leaf then s.set F.SYS_INT_CAUSE_ROLE_LIMIT
  else if s.get (chState d) ≠ 0 ∨ (d = 1 ∧ s.get F.SCM_GRANT_STAT_STATE ≠ 0) then s.set F.SCM_INT_CAUSE_BUSY
  else if d = 0 && !groupsOk s (subcarriers s 0) (staged s 0) then (s.set F.SCM_INT_CAUSE_BUSY).set F.VLK_INT_CAUSE_GROUP_ERR
  else start d (staged s d) 0 s

/-- ABORT_DS and ABORT_US (R84). -/
def abort (d : Nat) (s : State) : State :=
  if s.leaf then s.set F.SYS_INT_CAUSE_ROLE_LIMIT
  else match s.get (chState d) with
    | 0 => s
    | 1 => drop d s
    | _ => s.set F.SCM_INT_CAUSE_BUSY

/-- LOAD_ANNOUNCE (R81 step 5): the next downstream multiframe becomes M. -/
def announce (d : Nat) (s : State) : State :=
  let n := nextFrame s
  if !s.leaf && s.get (chState d) == 1 && ready s d && (failing s d).isEmpty && s.on F.FRM_CTRL_TX_EN && n.2 == 0 then
    announceBank d ((n.1 + 4) % 2 ^ 24) ((s.put (chState d) 2).put H.SCM_M n.1 d)
  else s

/-- LOAD_ACK_TMO (R82): counted in multiframes while the transmit counters run (R81). -/
def ackTimeout (d : Nat) (s : State) : State :=
  let late := decide (max 1 (s.get F.SCM_CHG_CFG_ACK_TMO) ≤ since s (s.get H.SCM_START_MF d))
  if s.get (chState d) == 1 && s.on H.FRM_TX_RUN && late && !(failing s d).isEmpty then abandon d (failing s d) s else s

/-- LOAD_ACK(V) from leaf l (R81 step 4). -/
def acked (l d ver : Nat) (s : State) : State :=
  if s.get (chState d) = 1 ∧ ver = s.get H.SCM_LAST_VER d ∧ s.on H.SCM_ADDRESSED d l then s.set H.SCM_ACKED d l else s

/-- LOAD_NAK(V) from leaf l (R82). -/
def nakked (l d ver : Nat) (s : State) : State :=
  if s.get (chState d) = 1 ∧ ver = s.get H.SCM_LAST_VER d then abandon d [l] s else s

/-- A deregistered leaf's acknowledgement is no longer awaited (Table SCM-4). -/
def forget (l : Nat) (s : State) : State :=
  ((s.clr H.SCM_ADDRESSED 0 l).clr H.SCM_ADDRESSED 1 l).clr H.SCM_GRANT_ADDR l

/-- LOAD_MISMATCH of leaf l (R83): the active table is sent again as a change; where a change of the direction is in flight, once it has
ended. A RESTING leaf that has been woken asks so to catch up (Table VLK-5) and is addressed with the others. -/
def resend (d l : Nat) (s : State) : State :=
  if s.leaf then s
  else if s.get (chState d) ≠ 0 then s.put H.SCM_RESEND (l + 1) d
  else start d (fun k => s.get (active s d) k) (l + 1) (s.clr H.SCM_RESEND d)

/-- A table that is to be sent again is, when no change is in flight any more. -/
def resendDue (s : State) : State :=
  s.each 2 (fun d t => if t.on H.SCM_RESEND d ∧ t.get (chState d) = 0 then resend d (t.get H.SCM_RESEND d - 1) t else t)

/-- The local exchange has taken place (R81 step 6): version, SWAP, the OVER flags of the direction. It counts as made in multiframe `due`,
M + 4, which the transmit counters may be about to begin. -/
def swapped (d due : Nat) (s : State) : State :=
  let s := (s.put (chVer d) (activeVer s d)).set F.SCM_INT_CAUSE_SWAP
  if s.leaf then s
  else
    let s := s.each 512 (fun k t => t.clr (overField d) k)
    let s := s.each 512 (fun l t => (t.clr H.SCM_ADDRESSED d l).clr H.SCM_ACKED d l)
    ((s.clr (chState d)).put H.SCM_SWAP_MF (s.get H.SCM_MF + b01 (mfSince (s.get H.FRM_TX_MFN) due == 2 ^ 24 - 1)) d).set H.SCM_SWAPPED d

/-- Soft reset of the LTX or LRX that holds the direction's bank (Table SCM-4). -/
def bankReset (d : Nat) (s : State) : State :=
  match s.get (chState d) with
  | 0 => s
  | 1 => abandon d [] s
  | _ => (s.clr (chState d)).set F.SCM_INT_CAUSE_CHG_FAIL

/-- The countdown in the downstream overhead of multiframe `mfn`: 4, 3, 2, 1 while direction d is announced, else 0 (R81). -/
def countdown (s : State) (d mfn : Nat) : Nat :=
  if s.get (chState d) = 2 then 4 - mfSince mfn (s.get H.SCM_M d) else 0

/-- ACT_VER of direction d in the downstream overhead of multiframe `mfn` (R81 step 6). -/
def overheadVer (s : State) (d mfn : Nat) : Nat :=
  if s.get (chState d) = 2 ∧ 4 ≤ mfSince mfn (s.get H.SCM_M d) ∧ mfSince mfn (s.get H.SCM_M d) < 2 ^ 23 then s.get H.SCM_LAST_VER d else s.get (chVer d)

/-! ### Loading from SNR (R77, R79, R80) -/

/-- The leaves that hold grants on subcarrier k in the active grant table. -/
def grantHolders (s : State) (k : Nat) : List Nat :=
  ((List.range 64).flatMap (fun g =>
    if s.on F.SCM_GRANT_SC_EN g && s.get F.SCM_GRANT_SC_SC g == k then
      (List.range 32).flatMap (fun p =>
        (if s.on F.SCM_GRANT_ACT_VAL_E g p then [s.get F.SCM_GRANT_ACT_LEAF_E g p] else []) ++
        (if s.on F.SCM_GRANT_ACT_VAL_O g p then [s.get F.SCM_GRANT_ACT_LEAF_O g p] else []))
    else [])).eraseDups

/-- A value latched at a count is not older than STALE multiframes (R77). -/
def fresh (s : State) (stamp : Nat) : Bool := decide (since s stamp ≤ max 1 (s.get F.SCM_LOAD_CFG_STALE))

/-- SNR_LEAF[l] is usable: VALID, and latched within the age limit. -/
def leafUsable (s : State) (l : Nat) : Bool := s.on F.LRX_SNR_LEAF_VALID l && fresh s (s.get H.SCM_LEAF_MF l)

/-- The usable SNR of subcarrier k under a mode, in 1/16 dB (R77). -/
def snr (s : State) (d k mode : Nat) : Option Nat :=
  if d = 0 then
    if s.on F.SCM_DS_SNR_VALID k && fresh s (s.get H.SCM_SNR_MF 0 k) then some (s.get F.SCM_DS_SNR_SNR k) else none
  else if mode = 3 then
    let ls := grantHolders s k
    let vs := ls.map (fun l => s.get F.LRX_SNR_LEAF_SNR l)
    match vs.min? with
    | none => none
    | some v => if ls.any (fun l => s.get F.LRX_SNR_LEAF_SNR l == v && !leafUsable s l) then none else some v
  else if s.on F.LRX_SNR_VALID k && fresh s (s.get H.SCM_SNR_MF 1 k) then some (s.get F.LRX_SNR_SNR k)
  else none

/-- h_dn's argument: S − MARG − G in 1/16 dB (R78). -/
def arg (s : State) (d v : Nat) : Int := (v : Int) - (s.get (margin d) : Int) - (s.get F.SCM_GAP_GAP (rate s d) : Int)

/-- The outcome of R79 for one entry: constellation, h and whether SHORT. `old` is the present entry, none where the entry has just
been set to DATA or SLOT. -/
def decide79 (dn up : Option (Nat × Nat)) (old : Option (Nat × Nat)) : Nat × Nat × Bool :=
  match dn with
  | none => (0, 96, true)
  | some (cd, hd) =>
    match old with
    | none =>
      match up with
      | some (cu, hu) => (cu, hu, false)
      | none => (0, 96, false)
    | some (c0, h0) =>
      if hd < h0 then (cd, hd, false)
      else match up with
        | some (cu, hu) => if h0 < hu then (cu, hu, false) else (c0, h0, false)
        | none => (c0, h0, false)

/-- One entry of LOADING_COMPUTE. An entry just set to DATA or SLOT, whose active mode is another, has no present loading for R79. Without a
usable SNR the entry keeps the present CONST and H; one that has none, its active entry being NULL, keeps what the host staged, which can be
committed (R77, notes/assumptions/88.md). -/
def computeEntry (d k : Nat) (s : State) : State :=
  let nxt := s.get (nextTab d) k
  let mode := nxt % 8
  if mode ≠ 1 ∧ mode ≠ 3 then s
  else
    let act := s.get (active s d) k
    let kept := if act % 8 = 1 ∨ act % 8 = 3 then some (slice act 3 2, slice act 5 9) else none
    let old := if act % 8 = mode then kept else none
    let write := fun (c h : Nat) (t : State) =>
      t.put (nextTab d) (nxt - slice nxt 3 11 * 8 + c * 8 + h * 32) k
    match snr s d k mode with
    | none =>
      let s := s.set (stale d) k
      match kept with
      | some (c0, h0) => write c0 h0 s
      | none => s
    | some v =>
      let x := arg s d v
      let r := rate s d
      let res := decide79 (fit r x) (fit r (x - (s.get F.SCM_LOAD_CFG_HYST : Int))) old
      let s := if res.2.2 && !s.on (short d) k then s.set F.SCM_INT_CAUSE_SHORT else s
      write res.1 res.2.1 ((s.clr (stale d) k).put (short d) (b01 res.2.2) k)

/-- OVER of subcarrier k where the fit found lies below the active h. SHORT lies below every h, QPSK's 96 too (notes/assumptions/88.md). -/
def markOver (d k act : Nat) (found : Option (Nat × Nat)) (s : State) : State :=
  match found with
  | none => s.set (overField d) k
  | some (_, h) => if h < slice act 5 9 then s.set (overField d) k else s

/-- During a change in flight: OVER where h_dn lies below the active h (Table SCM-4). -/
def judgeOver (d k : Nat) (s : State) : State :=
  let act := s.get (active s d) k
  if act % 8 ≠ 1 ∧ act % 8 ≠ 3 then s
  else match snr s d k (act % 8) with
    | none => s
    | some v => markOver d k act (fit (rate s d) (arg s d v)) s

/-- An entry of the staged table lies below the active one. -/
def decreases (s : State) (d k : Nat) : Bool :=
  let a := s.get (active s d) k
  let b := s.get (nextTab d) k
  (a % 8 == 1 || a % 8 == 3) && (b % 8 == 1 || b % 8 == 3) && decide (slice b 5 9 < slice a 5 9)

/-- LOADING_COMPUTE of one direction at an SNR latch (R80, R84). -/
def compute (d : Nat) (s : State) : State :=
  if s.leaf || !s.on (auto d) || (d == 0 && !s.on H.VLK_TREE) then s
  else
    let n := subcarriers s d
    if s.get (chState d) ≠ 0 then s.each n (judgeOver d)
    else
      let s := s.each n (computeEntry d)
      let differs := (List.range 512).any (fun k => s.get (nextTab d) k != s.get (active s d) k)
      -- the count of a swap may lie one ahead of the multiframes begun (`swapped`): none have passed then
      let gap := !s.on H.SCM_SWAPPED d ||
        decide (s.get F.SCM_CHG_CFG_MIN_GAP ≤ since s (s.get H.SCM_SWAP_MF d) % (2 ^ 32 - 1))
      if differs && ((List.range n).any (decreases s d) || gap) then commit d s else s

def latched (s : State) : State := compute 1 (compute 0 s)

/-! ### Grants (R111, R112, R113) -/

/-- The entries of a grant table named by three functions of (row, frame of the cycle): the leaf, if any. -/
def entryOf (word : Nat) (odd : Bool) : Option Nat :=
  if odd then (if word.testBit 25 then some (slice word 16 9) else none)
  else (if word.testBit 9 then some (slice word 0 9) else none)

/-- GRANT_NEXT[g][p] as a dword. -/
def nextWord (s : State) (g p : Nat) : Nat := s.word .SCM_GRANT_NEXT g p
def actWord (s : State) (g p : Nat) : Nat := s.word .SCM_GRANT_ACT g p

/-- The leaf that row g's active grant entry of frame fn names (R111). -/
def grantee (s : State) (g fn : Nat) : Option Nat := entryOf (actWord s g (fn % 64 / 2)) (fn % 2 == 1)

/-- The row of subcarrier k in the active grant table. -/
def grantRow (s : State) (k : Nat) : Option Nat :=
  (List.range 64).find? (fun g => s.on F.SCM_GRANT_SC_EN g && s.get F.SCM_GRANT_SC_SC g == k)

/-- The leaf that holds subcarrier k in frame fn. -/
def grantedIn (s : State) (k fn : Nat) : Option Nat :=
  match grantRow s k with
  | some g => grantee s g fn
  | none => none

/-- The leaves named in row g, frame by frame. -/
def rowLeaves (word : Nat → Nat → Nat) (g : Nat) : List Nat :=
  (List.range 64).filterMap (fun f => entryOf (word g (f / 2)) (f % 2 == 1))

def rowsIn (s : State) : List Nat := (List.range 64).filter (fun g => s.on F.SCM_GRANT_SC_EN g)

/-- R111: the staged table is valid. -/
def grantOk (s : State) : Bool :=
  let rows := rowsIn s
  let scs := rows.map (fun g => s.get F.SCM_GRANT_SC_SC g)
  let us := fun k => s.get H.LRX_ACTIVE k
  let named := fun g => rowLeaves (nextWord s) g
  let all := rows.map named
  let flat := all.flatten.eraseDups
  scs.all (fun k => us k % 8 == 3 && decide (k < Lrx.subcarriers s)) &&
  decide (scs.eraseDups.length = scs.length) &&
  flat.all (fun l => s.get F.VLK_LEAF_STATE l == 1 || s.get F.VLK_LEAF_STATE l == 2) &&
  all.all (fun ls => ls.eraseDups.all (fun l => decide (ls.count l ≤ 32))) &&
  (List.range 512).all (fun l =>
    s.get F.VLK_LEAF_STATE l != 2 || flat.contains l ||
    (List.range (Lrx.subcarriers s)).any (fun k => us k % 8 == 1 && slice (us k) 22 9 == l)) &&
  decide ((all.map (fun ls => ls.eraseDups.length)).foldl (· + ·) 0 ≤ 2048)

/-- The body of GRANT_TABLE for leaf l: the version, then for each row that names it the row and subcarrier and two words of frames. -/
def grantBody (s : State) (word : Nat → Nat → Nat) (ver l : Nat) : List Nat :=
  ver :: (rowsIn s).flatMap (fun g =>
    let mine := fun f => entryOf (word g (f / 2)) (f % 2 == 1) == some l
    let half := fun o => ((List.range 32).map (fun i => if mine (o + i) then 2 ^ i else 0)).foldl (· + ·) 0
    if half 0 = 0 ∧ half 32 = 0 then [] else [512 * g + s.get F.SCM_GRANT_SC_SC g, half 0, half 32])

/-- Send GRANT_TABLE with the active version to leaf l with SYNC = 1 (R109, R112). -/
def sendGrants (l : Nat) (s : State) : State :=
  Vlk.toLeaf l 0x18 true true (grantBody s (actWord s) (s.get F.SCM_GRANT_STAT_VER) l) s

/-- The leaves a grant change addresses: those that take part and are named in the active or the new table
(notes/assumptions/15.md). -/
def grantLeaves (s : State) : List Nat :=
  (((rowsIn s).flatMap (fun g => rowLeaves (actWord s) g ++ rowLeaves (nextWord s) g)).eraseDups).filter (awaited s)

/-- GRANT_COMMIT (R111, R112, R113). -/
def grantCommit (s : State) : State :=
  if s.leaf then s.set F.SYS_INT_CAUSE_ROLE_LIMIT
  else if s.get F.SCM_GRANT_STAT_STATE ≠ 0 ∨ s.get F.SCM_CHG_STAT_US_STATE ≠ 0 then s.set F.SCM_INT_CAUSE_BUSY
  else if !grantOk s then (s.set F.SCM_GRANT_STAT_ERR).set F.VLK_INT_CAUSE_GRANT_FAIL
  else
    let v := nextVer (s.get H.SCM_GRANT_LAST)
    let ls := grantLeaves s
    let s := ((s.put H.SCM_GRANT_LAST v).put F.SCM_GRANT_STAT_STATE 1).put H.SCM_GRANT_START (s.get H.SCM_MF)
    let s := s.each 64 (fun g t => t.each 32 (fun p u => u.put H.SCM_GRANT_SNAP (nextWord u g p) g p))
    let s := s.each 512 (fun l t => (t.clr H.SCM_GRANT_ADDR l).clr H.SCM_GRANT_ACKED l)
    s.eachOf ls (fun l t => Vlk.toLeaf l 0x18 true false (grantBody t (nextWord t) v l) (t.set H.SCM_GRANT_ADDR l))

def grantFailing (s : State) : List Nat :=
  (List.range 512).filter (fun l => s.on H.SCM_GRANT_ADDR l && !s.on H.SCM_GRANT_ACKED l)

def grantEnd (s : State) : State :=
  (s.each 512 (fun l t => (t.clr H.SCM_GRANT_ADDR l).clr H.SCM_GRANT_ACKED l)).clr F.SCM_GRANT_STAT_STATE

/-- Acknowledgement failure abandons the grant change (R112 with R82). -/
def grantAbandon (leaves : List Nat) (s : State) : State :=
  let s := grantEnd s
  let s := s.eachOf leaves (fun l t => t.setBit F.SCM_NAK_MAP_LEAF (l % 32) (l / 32))
  (s.set F.SCM_INT_CAUSE_CHG_FAIL).set F.VLK_INT_CAUSE_GRANT_FAIL

/-- GRANT_ABORT (R112, R113). -/
def grantAbort (s : State) : State :=
  if s.leaf then s.set F.SYS_INT_CAUSE_ROLE_LIMIT
  else match s.get F.SCM_GRANT_STAT_STATE with
    | 0 => s
    | 1 => grantEnd s
    | _ => s.set F.SCM_INT_CAUSE_BUSY

/-- GRANT_ANNOUNCE (R112). -/
def grantAnnounce (s : State) : State :=
  let n := nextFrame s
  if !s.leaf && s.get F.SCM_GRANT_STAT_STATE == 1 && (grantFailing s).isEmpty && s.on F.FRM_CTRL_TX_EN && n.2 == 0 then
    (s.put F.SCM_GRANT_STAT_STATE 2).put H.SCM_GRANT_M n.1
  else s

/-- GRANT_ACK_TMO (R112). -/
def grantTimeout (s : State) : State :=
  let late := decide (max 1 (s.get F.SCM_CHG_CFG_ACK_TMO) ≤ since s (s.get H.SCM_GRANT_START))
  if s.get F.SCM_GRANT_STAT_STATE == 1 && s.on H.FRM_TX_RUN && late && !(grantFailing s).isEmpty then
    grantAbandon (grantFailing s) s
  else s

/-- GRANT_ACK from leaf l (R112): READY in a change of that version; a NAK fails the change, or asks for the active table. -/
def grantAcked (l ver status : Nat) (s : State) : State :=
  let mine := s.get F.SCM_GRANT_STAT_STATE == 1 && ver == s.get H.SCM_GRANT_LAST && s.on H.SCM_GRANT_ADDR l
  if mine then (if status = 0 then s.set H.SCM_GRANT_ACKED l else grantAbandon [l] s)
  else if status = 0 then s
  else sendGrants l s

/-- The transmit frame `m`, 0 runs or is the next one. -/
def atMultiframe (s : State) (m : Nat) : Bool :=
  (s.on H.FRM_TX_RUN && s.get H.FRM_TX_MFN == m && s.get H.FRM_TX_FN == 0) || (s.on F.FRM_CTRL_TX_EN && nextFrame s == (m, 0))

/-- GRANT_SWAP on the hub (R112): at M + 4 the tables exchange. -/
def grantSwap (s : State) : State :=
  if s.get F.SCM_GRANT_STAT_STATE == 2 && atMultiframe s ((s.get H.SCM_GRANT_M + 4) % 2 ^ 24) then
    let s := s.each 64 (fun g t => t.each 32 (fun p u =>
      let w := u.get H.SCM_GRANT_SNAP g p
      (((u.put F.SCM_GRANT_ACT_LEAF_E (slice w 0 9) g p).put F.SCM_GRANT_ACT_VAL_E (slice w 9 1) g p).put
        F.SCM_GRANT_ACT_LEAF_O (slice w 16 9) g p).put F.SCM_GRANT_ACT_VAL_O (slice w 25 1) g p))
    Lrx.freeSets ((grantEnd (s.put F.SCM_GRANT_STAT_VER (s.get H.SCM_GRANT_LAST))).set F.VLK_INT_CAUSE_GRANT_SWAP)
  else s

end Sys2Proof.Machine.Scm
end

