-- ==== Sys2Proof/Machine/VlkLeaf.lean ====
section
/-! DEFINITION. Sys2Proof/Machine/VlkLeaf.lean: the Voluman link in leaf role (spec/05_point_to_multipoint.md, R97, R98, R102, R107,
R109, R110, R112, R116 to R121). -/
namespace Sys2Proof.Machine.Vlk
open Sys2Proof Sys2Proof.Machine

def enabled (s : State) : Bool := s.on F.VLK_CTRL_EN

/-- VLK.SELF.STATE: 0 OFF, 1 SEARCH, 2 STRANGER, 3 ASSIGNED, 4 ACTIVE, 5 REST, 6 LOST (Table VLK-6). -/
def state (s : State) : Nat := s.get F.VLK_SELF_STATE

/-- Leaf role with the link enabled and the data paths running. -/
def leafOn (s : State) : Bool := s.leaf && enabled s && Rest.awake s

/-- VLK holds the upstream silent: LTX.CTRL.MUTE = 1 and SELF.SILENT (R98). -/
def silence (s : State) : State := (Ltx.hostMute 1 s).set F.VLK_SELF_SILENT

/-- An attempt begins (R107): it chooses among the opportunities from the next frame on. -/
def attemptFrom (s : State) : State :=
  s.put H.VLK_REG_BASE (16 * (256 * s.get H.FRM_RX_MFN + s.get H.FRM_RX_FN + 1))

/-- A new state of Table VLK-6 (R121). Entering SEARCH or LOST ends master 97 (R277, R278). A STRANGER's attempts begin (R107). -/
def setState (n : Nat) (s : State) : State :=
  if state s = n then s
  else
    let s := (s.put F.VLK_SELF_STATE n).set F.VLK_INT_CAUSE_STATE_CHG
    match n with
    | 1 => Mbx.masterReset 97 (silence ((((s.put F.VLK_SELF_LEAF 0x1FF).clr H.VLK_UP_ON).clr H.VLK_S_REST).clr H.VLK_REG_WAIT))
    | 2 => attemptFrom ((((s.put F.VLK_SELF_LEAF 0x1FF).clr H.VLK_UP_ON).clr H.VLK_ATTEMPT).clr H.VLK_REG_WAIT)
    | 6 =>
      let s := (s.put H.VLK_PREV_LEAF (s.get F.VLK_SELF_LEAF)).set F.VLK_INT_CAUSE_LEAF_LOST
      Mbx.masterReset 97 (silence ((s.clr H.VLK_S_REST).clr H.VLK_LISTENING))
    | _ => s

/-- A silence condition of R98 holds. -/
def mustBeSilent (s : State) : Bool :=
  let ref := s.get F.SYN_REF_STAT_STATE 2
  s.on F.LRX_STAT_LOS || Lrx.state s != 5 || s.get F.FRM_ALIGN_STAT_STATE != 2 || decide (16 ≤ s.get H.VLK_NO_VDF) ||
  ref == 0 || ref == 4

/-- VLK_ENABLE (R386, R121). -/
def enable (s : State) : State :=
  if enabled s then s
  else
    let s := s.set F.VLK_CTRL_EN
    if s.leaf then silence (setState 1 s) else s

/-- VLK_DISABLE (R386, R277): a reset of master 97. -/
def disable (s : State) : State :=
  if enabled s then
    let s := Mbx.masterReset 97 (s.clr F.VLK_CTRL_EN)
    if s.leaf then silence ((setState 0 s).put F.VLK_SELF_LEAF 0x1FF) else s
  else s

/-- UPSTREAM_SILENT (R98). A resting leaf judges none of the conditions (Table VLK-6). -/
def upstreamSilent (s : State) : State :=
  if leafOn s && state s != 5 && mustBeSilent s && !s.on F.VLK_SELF_SILENT then silence s else s

/-- The leaf's loading banks and grants are those in force (R119). -/
def banksCurrent (s : State) : Bool :=
  Scm.activeVer s 0 == s.get H.VLK_RX_ACT 0 && Scm.activeVer s 1 == s.get H.VLK_RX_ACT 1 &&
  s.get H.VLK_G_ACT_VER == s.get H.VLK_RX_GVER

/-- The EqD of the feeder in use (R97, R120). -/
def takeEqd (s : State) : State := s.put H.VLK_EQD_NOW (s.get F.VLK_SELF_EQD_EQD (s.get H.VLK_FEEDER_USE))

/-- The EqD delta that waits applies to the feeder in use (R99). -/
def applyDelta (s : State) : State :=
  let d := s.sget H.VLK_EQD_DELTA
  if d = 0 then s
  else
    let e := unsigned 24 ((s.get H.VLK_EQD_NOW : Nat) + d)
    ((s.put H.VLK_EQD_NOW e).put F.VLK_SELF_EQD_EQD e (s.get H.VLK_FEEDER_USE)).clr H.VLK_EQD_DELTA

/-- FEEDER_CHANGE (R120): a leaf of the tree whose VDF names the other feeder. A delta that waits belongs to the old feeder. A leaf that has
no EqD for the new one falls silent and registers again. -/
def feederCheck (s : State) : State :=
  let f := s.get H.VLK_FEEDER_IN
  if f < 2 ∧ f ≠ s.get H.VLK_FEEDER_USE ∧ (state s = 3 ∨ state s = 4) then
    let s := silence ((applyDelta s).put H.VLK_FEEDER_USE f)
    if s.on F.VLK_SELF_EQD_VALID f then s.put H.VLK_SWITCH_SILENT 1
    else setState 2 (s.put H.VLK_PREV_LEAF (s.get F.VLK_SELF_LEAF))
  else s

/-- The called leaf sends WAKE_ACK and becomes ACTIVE once its banks are current and its upstream runs (R119). -/
def wakeUp (s : State) : State :=
  if called s && banksCurrent s && !s.on F.VLK_SELF_SILENT then
    feederCheck (setState 4 (toHub 0x42 true [] ((s.clr H.VLK_LISTENING).clr H.VLK_S_REST)))
  else s

/-- UPSTREAM_RESUME (R98, R119): MUTE is lifted at the first upstream frame without a silence condition. What the leaf then sends is its
state's: REG_REQ bursts while STRANGER, its allocation in ASSIGNED from START_MF and in ACTIVE (Table VLK-6). A called leaf has its upstream
back to catch up by R83 and R112, and sends WAKE_ACK once it has (notes/assumptions/89.md). -/
def upstreamResume (s : State) : State :=
  if leafOn s && s.on F.VLK_SELF_SILENT && !mustBeSilent s && s.get H.VLK_SWITCH_SILENT == 0 &&
      ([2, 3, 4].contains (state s) || called s) then
    wakeUp ((Ltx.hostMute 0 s).clr F.VLK_SELF_SILENT)
  else s

/-! ### The VDF (R102, R107, R112, R116, R120) -/

/-- The VDF is of the tree this leaf looks for. -/
def treeMatches (s : State) (tree : Nat) : Bool :=
  s.get F.VLK_TREE_CFG_TREE_ID == 0xFFFF || s.get F.VLK_TREE_CFG_TREE_ID == tree

/-- The registration subcarriers in use, as the lowest and the highest. -/
def regSpan (s : State) : Nat × Nat :=
  let l := (List.range (s.get F.VLK_REG_CFG_RSC_M1 + 1)).map (fun i => s.get F.VLK_REG_SC_SC i)
  (l.foldl Nat.min 511, l.foldl Nat.max 0)

/-- f_c of an upstream span in MHz (R29). -/
def spanCentre (lo hi : Nat) (s : State) : Int :=
  let per := (100 + s.get F.LTX_LINE_CFG_SPACING) * s.get F.LTX_LINE_CFG_BAUD_MBD
  let n := Ltx.subcarriers s
  roundDivInt ((((lo + hi + 1 : Nat) : Int) - n) * (per : Int)) (200 * n)

/-- The leaf sets its signal laser, through LSR, to f_LO − f_c,rx + US_OFS + f_c (R110): f_c that of its registration subcarriers while a
stranger, else of its upstream span. -/
def aimLaser (s : State) : State :=
  let span := if state s < 3 then some (regSpan s) else Ltx.span s H.LTX_ACTIVE
  match span with
  | some (lo, hi) =>
    Lsr.tune 1 (Lsr.frequency s 0 - Lrx.centreOffset s + 100 * s.sget F.VLK_US_OFS_OFS + spanCentre lo hi s) s
  | none => s

/-- SEARCH or LOST turns to STRANGER (Table VLK-6): the beacon is in TRACK and in frame. -/
def foundBeacon (s : State) : State :=
  if Lrx.state s = 5 ∧ s.get F.FRM_ALIGN_STAT_STATE = 2 then
    match state s with
    | 1 => aimLaser (setState 2 (s.put H.VLK_PREV_LEAF 0x3FF))
    | 6 => aimLaser (setState 2 s)
    | _ => s
  else s

/-- The grant version the leaf uses in multiframe `mfn` (R112). -/
def grantVerAt (s : State) (mfn : Nat) : Nat :=
  if s.on H.VLK_G_SWAP && decide (Scm.mfSince mfn (s.get H.VLK_G_SWAP_MF) < 2 ^ 23) then s.get H.VLK_G_SHADOW_VER
  else s.get H.VLK_G_ACT_VER

/-- GRANT_ANN and GRANT_VER of a VDF (R112). -/
def readGrants (mfn ver ann next : Nat) (s : State) : State :=
  let s := s.put H.VLK_RX_GVER ver
  let s := if (s.vlk.gvers.headD (0, 256)).2 = ver then s
    else { s with vlk := { s.vlk with gvers := (mfn, ver) :: s.vlk.gvers.take 63 } }
  let s := if ann ≠ 0 ∧ s.get H.VLK_G_SHADOW_VER = next ∧ !s.on H.VLK_G_SWAP then
      (s.set H.VLK_G_SWAP).put H.VLK_G_SWAP_MF (mfn + ann)
    else s
  if state s < 3 ∨ state s = 6 ∨ grantVerAt s mfn = ver then s.clr H.VLK_G_NAK_SENT
  else if s.get H.VLK_G_SHADOW_VER = ver then (s.set H.VLK_G_SWAP).put H.VLK_G_SWAP_MF (mfn + 1)
  else if s.on H.VLK_G_NAK_SENT then s
  else toHub 0x19 true [ver, 1] (s.set H.VLK_G_NAK_SENT)

/-- A resting leaf reads a VDF of its listen multiframe, or, where it could read none there, of a later one (R116): its WAKE bit keeps it
awake. -/
def readListen (mfn wake : Nat) (s : State) : State :=
  if state s = 5 ∧ s.on H.VLK_LISTENING ∧ Scm.mfSince mfn (s.get H.VLK_LISTEN_MF) < 2 ^ 23 then
    let s := s.set H.VLK_LISTEN_READ
    if wake.testBit (s.get F.VLK_SELF_MEMBER) then s.set H.VLK_HEARD else s
  else s

/-- VDF_RECEIVE (R102): the header of a VDF; its messages follow as commands of their own. `badLen` says that a message of an illegal
length made the rest of the frame discarded (R104). -/
def vdfReceive (tree beacon feeder regOpen mfn wake gver gann gnext crcOk badLen : Nat) (s : State) : State :=
  if !leafOn s then s
  else if crcOk = 0 then (s.count F.VLK_CRC_ERR_CNT_COUNT).count H.VLK_NO_VDF
  else
    let s := s.clr H.VLK_NO_VDF
    if !treeMatches s tree || beacon != s.get F.LRX_RXGRP_K_LO then s
    else
      let s := foundBeacon (s.put H.VLK_OPEN_NOW regOpen)
      let s := readListen mfn wake s
      let s := readGrants mfn gver gann gnext s
      let s := s.put H.VLK_FEEDER_IN feeder
      let s := wakeUp (if state s < 3 then s.put H.VLK_FEEDER_USE feeder else feederCheck s)
      if badLen = 0 then s else s.count F.VLK_CRC_ERR_CNT_COUNT

/-- BEACON_LOST (Table VLK-6): the stranger has been without its beacon for `frames` frames. -/
def beaconLost (frames : Nat) (s : State) : State :=
  if s.leaf && enabled s && state s == 2 && decide (16 ≤ frames) then setState 1 s else s

/-! ### Messages to the leaf -/

/-- The message's destination is this leaf (Table VLK-2). -/
def toMe (s : State) (addr : Nat) : Bool :=
  leafOn s &&
  ((decide (3 ≤ state s) && state s != 6 && ((addr == s.get F.VLK_SELF_LEAF && addr != 0x1FF) || addr == 0x3FE)) ||
   (decide (2 ≤ state s) && addr == 0x3FF))

/-- A message addressed to a listening leaf keeps it awake (R116). -/
def heard (addr : Nat) (s : State) : State :=
  if state s = 5 ∧ s.on H.VLK_LISTENING ∧ addr = s.get F.VLK_SELF_LEAF then s.set H.VLK_HEARD else s

/-- A downstream message reaches the leaf; flags bit 0 is ACK_REQ. -/
def down (addr flags seq : Nat) (act : State → State × Option Nat) (s : State) : State :=
  if toMe s addr then receive 512 seq (flags.testBit 0) (broadcast addr) act (heard addr s) else s

/-- An act that is always accepted. -/
def accept (f : State → State) (s : State) : State × Option Nat := (f s, some statusOk)

/-- TREE_INFO (Table VLK-3): a new upstream offset or new registration subcarriers move the signal laser (R110). -/
def treeInfo (baud spacing nsc rates usOfs rscM1 : Nat) (scs : List Nat) (teq : Nat) (s : State) : State :=
  let was := s.get F.VLK_US_OFS_OFS
  let span := regSpan s
  let s := (((s.put H.VLK_T_BAUD baud).put H.VLK_T_SPACING spacing).put H.VLK_T_NSC_M1 nsc).put H.VLK_T_RATES rates
  let s := ((s.put F.VLK_US_OFS_OFS usOfs).put F.VLK_REG_CFG_RSC_M1 rscM1).put H.VLK_T_EQ teq
  let t := s.eachOf (scs.take 4).zipIdx (fun x t => t.put F.VLK_REG_SC_SC x.1 x.2)
  if 2 ≤ state t ∧ (t.get F.VLK_US_OFS_OFS ≠ was ∨ regSpan t ≠ span) then aimLaser t else t

/-- The identifier is the device's (LCM.DEV_ID). -/
def isMine (s : State) (lo hi : Nat) : Bool := s.get F.LCM_DEV_ID_VAL 0 == lo && s.get F.LCM_DEV_ID_VAL 1 == hi

/-- The stranger joins (R109): group, EqD for the feeder of the header, frequency, ASSIGNED. -/
def join (leaf beacon member khi eqd0 v0 eqd1 v1 freq start : Nat) (s : State) : State :=
  let s := setState 3 s
  let s := (s.put F.VLK_SELF_LEAF leaf).put F.VLK_SELF_MEMBER member
  let s := if s.get F.LRX_RXGRP_K_LO = beacon then s
    else
      let on := s.on F.LRX_CTRL_EN
      let s := Lrx.writeRxGrp (beacon + 65536 * khi) (Lrx.disable s)
      if on then Lrx.enable s else s
  let s := (s.put F.VLK_SELF_EQD_EQD eqd0 0).put F.VLK_SELF_EQD_VALID v0 0
  let s := (s.put F.VLK_SELF_EQD_EQD eqd1 1).put F.VLK_SELF_EQD_VALID v1 1
  let s := takeEqd ((s.put H.VLK_FEEDER_USE (s.get H.VLK_FEEDER_IN)).clr H.VLK_EQD_DELTA)
  let s := Ltx.writeFreqOfs freq s
  let s := aimLaser s
  (((s.put H.VLK_UP_START start).clr H.VLK_UP_ON).clr H.VLK_REG_WAIT).clr H.VLK_ATTEMPT

/-- REG_ASSIGN with SYNC to a registered leaf (R348): the EqD of the feeder not in use. -/
def syncEqd (beacon member eqd0 v0 eqd1 v1 : Nat) (s : State) : State × Option Nat :=
  if beacon = s.get F.LRX_RXGRP_K_LO ∧ member = s.get F.VLK_SELF_MEMBER then
    let s := if s.get H.VLK_FEEDER_USE = 0 then (s.put F.VLK_SELF_EQD_EQD eqd1 1).put F.VLK_SELF_EQD_VALID v1 1
      else (s.put F.VLK_SELF_EQD_EQD eqd0 0).put F.VLK_SELF_EQD_VALID v0 0
    (s, some statusOk)
  else (s, none)

/-- REG_ASSIGN (R109, R348): addressed to a stranger by identifier, or with SYNC to the leaf's own number. -/
def regAssign (addr flags seq idLo idHi leaf beacon member khi eqd0 v0 eqd1 v1 freq start : Nat) (s : State) : State :=
  if addr = 0x3FD then
    if leafOn s && state s == 2 && isMine s idLo idHi then
      receive 512 seq (flags.testBit 0) false (accept (join leaf beacon member khi eqd0 v0 eqd1 v1 freq start)) s
    else s
  else
    down addr flags seq (fun t =>
      if flags.testBit 1 && leaf == addr && (state t == 4 || state t == 5) then syncEqd beacon member eqd0 v0 eqd1 v1 t
      else (t, none)) s

/-- REG_REJECT (Table VLK-6): the stranger returns to SEARCH. -/
def regReject (idLo idHi : Nat) (s : State) : State :=
  if leafOn s && state s == 2 && isMine s idLo idHi then setState 1 s else s

/-- RANGE_ADJ (R99): the delta waits for the next upstream frame boundary. -/
def rangeAdj (delta : Int) (s : State) : State := s.sput H.VLK_EQD_DELTA (s.sget H.VLK_EQD_DELTA + delta)

/-- FREQ_ADJ (R110). -/
def freqAdj (delta : Int) (s : State) : State × Option Nat :=
  let v := s.sget F.LTX_FREQ_OFS_OFS + delta
  if -32768 ≤ v ∧ v ≤ 32767 ∧ Ltx.offsetOk s (unsigned 16 v) then (Ltx.writeFreqOfs (unsigned 16 v) s, some statusOk)
  else (s.set F.LTX_INT_CAUSE_CFG_ERR, some statusFreqRefused)

/-- GRANT_TABLE (R112): the leaf's rows, each as 512 × g + subcarrier and two words of frames. -/
def grantTable (ver : Nat) (rows : List (List Nat)) (s : State) : State :=
  let s := s.each 64 (fun g t => ((t.clr H.VLK_G_SHADOW g 0).clr H.VLK_G_SHADOW g 1).clr H.VLK_G_SC_SHADOW g)
  let s := s.eachOf rows (fun r t =>
    let g := r.getD 0 0 / 512
    ((t.put H.VLK_G_SHADOW (r.getD 1 0) g 0).put H.VLK_G_SHADOW (r.getD 2 0) g 1).put H.VLK_G_SC_SHADOW (1 + r.getD 0 0 % 512) g)
  toHub 0x19 true [ver, 0] ((s.put H.VLK_G_SHADOW_VER ver).clr H.VLK_G_NAK_SENT)

/-- LOAD_TABLE (R81 step 4). -/
def loadTable (d ver lo : Nat) (entries : List Nat) (s : State) : State :=
  let s := Scm.writeBank d ver (entries.zipIdx.map (fun x => (lo + x.2, x.1))) s
  toHub (if Scm.ready s d then 0x21 else 0x22) true [d, ver] s

/-- LOAD_CANCEL (R82): the leaf's shadow no longer holds the version. -/
def loadCancel (d ver : Nat) (s : State) : State :=
  if Scm.shadowVer s d = ver ∧ !Scm.swapDue s d then
    if Scm.localTx s.leaf d then s.clr H.LTX_SHADOW_VER else s.clr H.LRX_SHADOW_VER
  else s

/-- REST_GRANT (R116, Table VLK-5). -/
def restGrant (start cycle listen : Nat) (s : State) : State :=
  if cycle = 0 then s.clr H.VLK_S_REST
  else (((s.set H.VLK_S_REST).put H.VLK_S_START start).put H.VLK_S_CYCLE cycle).put H.VLK_S_LISTEN listen

/-- Two fields exchange what they hold at g, w. -/
def exchange (a b : Field) (g w : Nat) (s : State) : State := (s.put a (s.get b g w) g w).put b (s.get a g w) g w

/-- The active grants swap at the next frame boundary of their multiframe (R112). -/
def grantSwapLeaf (mfn : Nat) (s : State) : State :=
  if s.on H.VLK_G_SWAP && decide (Scm.mfSince mfn (s.get H.VLK_G_SWAP_MF) < 2 ^ 23) then
    let s := s.each 64 (fun g t =>
      exchange H.VLK_G_SC_ACT H.VLK_G_SC_SHADOW g 0 (exchange H.VLK_G_ACT H.VLK_G_SHADOW g 1 (exchange H.VLK_G_ACT H.VLK_G_SHADOW g 0 t)))
    let v := s.get H.VLK_G_ACT_VER
    (((s.put H.VLK_G_ACT_VER (s.get H.VLK_G_SHADOW_VER)).put H.VLK_G_SHADOW_VER v).clr H.VLK_G_SWAP).set F.VLK_INT_CAUSE_GRANT_SWAP
  else s

/-- GRANT_VER in the VDFs of downstream multiframe `mfn` (R112): the leaf's own frame of that number leaves EqD later. -/
def gverAt (s : State) (mfn : Nat) : Option Nat :=
  (s.vlk.gvers.find? (fun x => decide (Scm.mfSince mfn x.1 < 2 ^ 23))).map Prod.snd

/-- The leaf transmits in the SLOT frame (mfn, FN) of subcarrier k (R112). -/
def slotGranted (s : State) (k mfn fn : Nat) : Bool :=
  allocated s && gverAt s mfn == some (s.get H.VLK_G_ACT_VER) &&
  (List.range 64).any (fun g => s.get H.VLK_G_SC_ACT g == k + 1 && (s.get H.VLK_G_ACT g (fn % 64 / 32)).testBit (fn % 32))

/-- An upstream frame boundary (R99, R120, R112): the EqD delta applies, a feeder switch advances, the grants exchange. -/
def frameBoundary (mfn : Nat) (s : State) : State :=
  if !leafOn s then s
  else
    let s := if s.get H.VLK_SWITCH_SILENT = 0 then applyDelta s else s
    let s := match s.get H.VLK_SWITCH_SILENT with
      | 1 => s.put H.VLK_SWITCH_SILENT 2
      | 2 => upstreamResume (takeEqd (s.clr H.VLK_SWITCH_SILENT))
      | _ => s
    grantSwapLeaf mfn s

/-! ### Registration (R107, R109) -/

/-- The opportunities among which attempt a chooses (R107). -/
def choices (a : Nat) : Nat := 2 ^ (min a 8 + 3)

/-- REG_ATTEMPT (R107): the opportunity that the stranger chose, among the next 2^(a+3) of the attempt, arrives. If it is open the REG_REQ burst
leaves with EqD = 0 under the BURST entry of its registration subcarrier (R34); if it is closed the stranger chooses again without counting
an attempt (Table VLK-4). Whether it is open is what the last VDF said (notes/assumptions/34.md). -/
def regAttempt (mfn fn i sc : Nat) (s : State) : State :=
  let inUse := (List.range (s.get F.VLK_REG_CFG_RSC_M1 + 1)).any (fun j => s.get F.VLK_REG_SC_SC j == sc)
  let opp := 16 * (256 * mfn + fn) + i
  let among := decide ((opp + 2 ^ 36 - s.get H.VLK_REG_BASE) % 2 ^ 36 < choices (s.get H.VLK_ATTEMPT + 1))
  if leafOn s && state s == 2 && !s.on H.VLK_GIVEUP && !s.on H.VLK_REG_WAIT && !mustBeSilent s && !s.on F.VLK_SELF_SILENT &&
      inUse && decide (i < 16) && among && s.get H.LTX_ACTIVE sc % 8 == 4 then
    if !s.on H.VLK_OPEN_NOW then s.put H.VLK_REG_BASE (opp + 1)
    else
    let q := s.get H.VLK_SEQ 0x3FD 0
    let m : VMsg := ⟨0, 0x3FD, false, false, 0x02, q,
      [s.get F.LCM_DEV_ID_VAL 0, s.get F.LCM_DEV_ID_VAL 1, s.get H.VLK_PREV_LEAF, mfn, fn, i, sc, s.get F.SE_IMG_VER_VERSION]⟩
    let s := ((s.put H.VLK_SEQ (q + 1) 0x3FD 0).clr H.VLK_EQD_NOW).count H.VLK_ATTEMPT
    (s.set H.VLK_REG_WAIT).emit (.burst sc m)
  else s

/-- REG_TMO (R107): no answer within `frames` frames; REG_GIVEUP after RETRY_MAX attempts. -/
def regTimeout (frames : Nat) (s : State) : State :=
  if leafOn s && state s == 2 && s.on H.VLK_REG_WAIT && decide (max 1 (s.get F.VLK_REG_CFG_REG_TMO) ≤ frames) then
    let s := attemptFrom (s.clr H.VLK_REG_WAIT)
    let lim := s.get F.VLK_REG_CFG_RETRY_MAX
    if lim ≠ 0 ∧ lim ≤ s.get H.VLK_ATTEMPT then (s.set F.VLK_INT_CAUSE_REG_GIVEUP).set H.VLK_GIVEUP else s
  else s

/-- REG_GO (R107): registration resumes. -/
def regGo (s : State) : State :=
  if s.leaf && s.on H.VLK_GIVEUP then attemptFrom ((s.clr H.VLK_GIVEUP).clr H.VLK_ATTEMPT) else s

/-- UPSTREAM_START (R109): at START_MF the allocation begins with REG_CONFIRM. -/
def upstreamStart (mfn : Nat) (s : State) : State :=
  if leafOn s && state s == 3 && !s.on H.VLK_UP_ON && mfn == s.get H.VLK_UP_START then
    toHub 0x05 true [] (s.set H.VLK_UP_ON)
  else s

/-! ### REST (R116, R117, R121) -/

/-- The leaf asks PWR for REST; a refusal is REST_HELD and is repeated at every 10 ms tick (R117). -/
def askRest (s : State) : State :=
  let r := Rest.enter s
  if r.1 then r.2 else (r.2.set F.VLK_INT_CAUSE_REST_HELD).set H.VLK_RETRY

/-- LEAF_REST_START (R116, R117). -/
def restStart (mfn : Nat) (s : State) : State :=
  if leafOn s && state s == 4 && s.on H.VLK_S_REST && mfn == s.get H.VLK_S_START then
    askRest (silence ((setState 5 s).clr H.VLK_LISTENING))
  else s

/-- REST_RETRY (R117). -/
def restRetry (s : State) : State :=
  if s.leaf && enabled s && state s == 5 && s.on H.VLK_RETRY && !s.on H.VLK_LISTENING then
    let r := Rest.enter s
    if r.1 then r.2.clr H.VLK_RETRY else r.2
  else s

/-- LISTEN_WAKE (R116): LEAD_US before multiframe `mfn`, a multiple of CYCLE_MF after START_MF. -/
def listenWake (mfn : Nat) (s : State) : State :=
  let m := Scm.mfSince mfn (s.get H.VLK_S_START)
  if s.leaf && enabled s && state s == 5 && s.on H.VLK_S_REST && !s.on H.VLK_LISTENING && m != 0 && m % s.get H.VLK_S_CYCLE == 0 then
    Rest.wake (((((s.put H.VLK_LISTEN_MF mfn).set H.VLK_LISTENING).clr H.VLK_HEARD).clr H.VLK_LISTEN_READ).clr H.VLK_RETRY)
  else s

/-- LISTEN_END (R116): the last of LISTEN_FR frames is past, `frames` having gone, and nothing called the leaf; one that has read no listen
VDF stays awake. -/
def listenEnd (frames : Nat) (s : State) : State :=
  if leafOn s && decide (max 1 (s.get H.VLK_S_LISTEN) ≤ frames) && state s == 5 && s.on H.VLK_LISTENING && s.on H.VLK_LISTEN_READ && !s.on H.VLK_HEARD && s.on H.VLK_S_REST then
    askRest (s.clr H.VLK_LISTENING)
  else s

/-- LEAF_LOST_TMO (Table VLK-6): the condition has lasted `ms` milliseconds. -/
def lostTimeout (ms : Nat) (s : State) : State :=
  let cond := ((state s == 3 || state s == 4) && mustBeSilent s) || (state s == 5 && s.on H.VLK_LISTENING && !s.on H.VLK_LISTEN_READ)
  if s.leaf && enabled s && cond && decide (s.get F.VLK_REST_CFG_LOST_MS ≤ ms) then setState 6 s else s

/-- SNR_REPORT (Table VLK-3): the first subcarrier of the leaf's group and its LRX.SNR dwords. -/
def snrReport (s : State) : List Nat :=
  let lo := s.get F.LRX_RXGRP_K_LO
  lo :: (List.range (min 64 (s.get F.LRX_RXGRP_K_HI + 1 - lo))).map (fun i => s.word .LRX_SNR (lo + i))

/-- The management container of an upstream multiframe, as its bytes (R103): SNR_REPORT and then the messages that fit. -/
def sendContainer (s : State) : List Nat × State :=
  let r := fetch (fun _ => true) 0 4092 (toHub 0x28 false (snrReport s) s)
  (containerBytes r.1, r.2)

end Sys2Proof.Machine.Vlk
end

