-- ==== Sys2Proof/Machine/VlkHub.lean ====
section
/-! DEFINITION. Sys2Proof/Machine/VlkHub.lean: the Voluman link in hub role (spec/05_point_to_multipoint.md, R99, R105 to R110, R112,
R118, R121), and what both roles share: the receive ring, posting, acknowledgements. -/
namespace Sys2Proof.Machine.Vlk
open Sys2Proof Sys2Proof.Machine

def hubOn (s : State) : Bool := !s.leaf && enabled s

/-- Table VLK-7: 0 FREE, 1 ASSIGNED, 2 ACTIVE, 3 RESTING, 4 LOST. -/
def leafState (s : State) (l : Nat) : Nat := s.get F.VLK_LEAF_STATE l

def counted (n : Nat) : Nat := if n = 2 ∨ n = 3 then 1 else 0

/-- Leaf l takes a state of Table VLK-7; ACTIVE_CNT follows. A leaf that leaves the tree, or rests, is awaited no longer (R118, Table
SCM-4), and one that leaves REST holds no REST_GRANT. -/
def setLeaf (l n : Nat) (s : State) : State :=
  let c := s.get F.VLK_STAT_ACTIVE_CNT + counted n - counted (leafState s l)
  let s := (s.put F.VLK_LEAF_STATE n l).put F.VLK_STAT_ACTIVE_CNT c
  let s := if n = 0 ∨ n = 3 then Scm.forget l s else s
  if n = 3 then s else (s.clr H.VLK_REST_SET l).when (n != 4) (fun t => t.clr H.VLK_WAKE_BIT l)

/-- Entering LOST (Table VLK-7). -/
def lose (l : Nat) (s : State) : State := ((setLeaf l 4 s).set F.VLK_INT_CAUSE_LEAF_LOST).put F.VLK_STAT_LAST_LEAF l

/-- A write of VLK.LEAF[l]: engines write FREE or ASSIGNED only; another STATE is not taken. -/
def writeLeaf (l v : Nat) (s : State) : State :=
  if s.leaf then s
  else
    let s := (s.put F.VLK_LEAF_BEACON (slice v 4 9) l).put F.VLK_LEAF_MEMBER (slice v 13 6) l
    if v % 8 < 2 then setLeaf l (v % 8) s else s

/-- An upstream message from leaf l, which holds a number in the tree. -/
def up (l flags seq : Nat) (act : State → State × Option Nat) (s : State) : State :=
  if hubOn s && decide (l < 512) && leafState s l != 0 then receive l seq (flags.testBit 0) false act s else s

/-- A message for the ring: it is accepted, and acknowledged, only where it enters (R106). -/
def queue (m : List Nat) (s : State) : State × Option Nat :=
  let r := ringPush m s
  (r.2, if r.1 then some statusOk else none)

/-- A message as the ring holds it. -/
def ringMsg (addr flags type seq : Nat) (body : List Nat) : List Nat :=
  words ⟨0, addr, flags.testBit 0, flags.testBit 1, type, seq, body⟩

/-- MGMT_CONTAINER (R103, R104): its messages follow as commands of their own. -/
def container (crcOk badLen : Nat) (s : State) : State :=
  if hubOn s && (crcOk == 0 || badLen != 0) then s.count F.VLK_CRC_ERR_CNT_COUNT else s

/-- TREE_INFO as the hub sends it, on every beacon (Table VLK-3). -/
def sendTreeInfo (s : State) : State :=
  send 0x1FF 0x3FF 0x01 false false
    ([s.get F.LTX_LINE_CFG_BAUD_MBD, s.get F.LTX_LINE_CFG_SPACING, s.get F.LTX_LINE_CFG_NSC_M1,
      s.get F.FEC_CFG_RATE_TX + 4 * s.get F.FEC_CFG_RATE_RX, s.get F.VLK_US_OFS_OFS, s.get F.VLK_REG_CFG_RSC_M1] ++
     (List.range 4).map (fun i => s.get F.VLK_REG_SC_SC i) ++ [s.get F.VLK_T_EQ_T_EQ]) s

/-- VDF_SEND of one downstream frame (R101, R102): TREE_INFO joins at least once per 16 frames; every beacon sends. -/
def sendFrames (s : State) : State :=
  if hubOn s && s.on H.VLK_TREE && !s.passive then
    let s := if s.get H.FRM_TX_FN % 16 = 0 ∧ !(beacons s).isEmpty then sendTreeInfo s else s
    let bs := beacons s
    let s := (spread bs s).eachOf bs vdfSend
    { s with vlk := { s.vlk with recent := s.vlk.recent.map (fun x => (x.1, x.2 + 1)) } }
  else s

/-- R386: a write of VLK.CTRL.EN changes the judgement from the next frame. -/
def judge (s : State) : State := s.put H.VLK_TREE (b01 (hubOn s))

/-! ### Registration (R108, R109) -/

/-- The leaf that holds an identifier. -/
def holder (s : State) (lo hi : Nat) : Option Nat :=
  (List.range 512).find? (fun l => leafState s l != 0 && s.get F.VLK_LEAF_ID_ID l 0 == lo && s.get F.VLK_LEAF_ID_ID l 1 == hi)

/-- A REG_REQ of a good burst (R108, Table VLK-4): its words, with RTT, offset and SNR put into message bytes 48 to 59; `sending` says
that the ACTIVE leaf of that identifier is still heard. -/
def regReq (msg : List Nat) (rtt ofs snr sending : Nat) (s : State) : State :=
  let idLo := msg.getD 2 0
  let idHi := msg.getD 3 0
  let id := idLo + 2 ^ 32 * idHi
  let tmo := max 1 (s.get F.VLK_REG_CFG_REG_TMO)
  if !hubOn s then s
  else if s.vlk.recent.any (fun x => x.1 == id && decide (x.2 < tmo)) then s.count F.VLK_STAT_DUP_REQ
  else
    let h := (holder s idLo idHi).map (leafState s)
    let s := match h with
      | none => s
      | some st => if st = 2 ∧ sending ≠ 0 then s.set F.VLK_INT_CAUSE_DUP_ID else s.set F.VLK_INT_CAUSE_REREG
    if h = some 1 then s
    else
      let s := (ringPush (((msg.set 12 rtt).set 13 ofs).set 14 snr) s).2
      { s with vlk := { s.vlk with recent := (s.vlk.recent.filter (fun x => x.1 != id && decide (x.2 < tmo))) ++ [(id, 0)] } }

/-- REG_CONFIRM (R109): the leaf becomes ACTIVE and is sent the active tables with SYNC = 1. -/
def regConfirm (l : Nat) (s : State) : State :=
  if leafState s l = 1 then
    let s := setLeaf l 2 s
    let s := Scm.sendTable 0 (Scm.activeVer s 0) l true (fun k => s.get (Scm.active s 0) k) s
    let s := Scm.sendTable 1 (Scm.activeVer s 1) l true (fun k => s.get (Scm.active s 1) k) s
    Scm.sendGrants l s
  else s

/-- DEREG (Table VLK-3): in a leaf the registration ends; in the hub the leaf is freed. -/
def dereg (addr flags seq : Nat) (s : State) : State :=
  if s.leaf then down addr flags seq (accept (setState 1)) s
  else up addr flags seq (accept (setLeaf addr 0)) s

/-! ### Ranging and frequency (R99, R110) -/

/-- RANGE_TRIGGER (R99): `e` is the arrival error of leaf l in 1/16 symbol, averaged over `n` measurements. It is kept: R100 judges the
leaf's SLOT frames by it. -/
def rangeTrigger (l : Nat) (e : Int) (n : Nat) (s : State) : State :=
  if n < max 1 (s.get F.VLK_RANGE_CFG_AVG) then s else
  let s := if hubOn s then s.sput H.VLK_ARR_ERR (clampInt (-32768) 32767 e) l else s
  if hubOn s && !s.passive && s.on F.VLK_CTRL_AUTO_RANGE && leafState s l == 2 && !s.on H.VLK_ADJ_PEND l &&
      decide (s.get F.VLK_RANGE_CFG_TRIG < e.natAbs) then
    let n := Lrx.subcarriers s
    let b := s.get F.LRX_LINE_CFG_BAUD_MBD
    let lim := ((20000 * n / b : Nat) : Int)
    let d := clampInt (-lim) lim (roundDivInt (-e * (n * 10000 : Nat)) (16 * b))
    let f := s.get F.PEER_CFG_FEEDER
    let s := s.put F.VLK_LEAF_EQD_EQD (unsigned 24 ((s.get F.VLK_LEAF_EQD_EQD l f : Nat) + d)) l f
    toLeaf l 0x10 true false [unsigned 32 d] (s.set H.VLK_ADJ_PEND l)
  else s

/-- FREQ_TRIGGER (R110): `ofs` is the averaged offset of leaf l in 100 kHz. -/
def freqTrigger (l : Nat) (ofs : Int) (s : State) : State :=
  if hubOn s && !s.passive && s.on F.VLK_CTRL_AUTO_FREQ && leafState s l != 0 && leafState s l != 4 && decide (200 < ofs.natAbs) then
    toLeaf l 0x11 true false [unsigned 32 (-ofs)] s
  else s

/-- SNR_REPORT (Table VLK-3): the reported SNRs of the subcarriers whose entry names leaf l (R96) go into SCM.DS_SNR. -/
def snrReported (l lo : Nat) (vals : List Nat) (s : State) : State :=
  s.eachOf vals.zipIdx (fun x t =>
    let k := lo + x.2
    if slice (t.get H.LTX_ACTIVE k) 22 9 = l then
      let t := (t.put F.SCM_DS_SNR_SNR_X (slice x.1 0 10) k).put F.SCM_DS_SNR_SNR_Y (slice x.1 10 10) k
      let t := (t.put F.SCM_DS_SNR_SNR (slice x.1 20 10) k).put F.SCM_DS_SNR_VALID (slice x.1 30 1) k
      t.put H.SCM_SNR_MF (t.get H.SCM_MF) 0 k
    else t)

/-! ### REST on the hub (R116, R118) -/

/-- A REST_GRANT goes to leaf l (Table VLK-3): CYCLE_MF 0 cancels. -/
def grantRest (l start cycle listen : Nat) (s : State) : State :=
  if cycle = 0 then s.clr H.VLK_REST_SET l
  else (((s.set H.VLK_REST_SET l).put H.VLK_REST_START start l).put H.VLK_REST_CYCLE cycle l).put H.VLK_REST_LISTEN listen l

/-- HUB_REST_START (R118): START_MF of the leaf's REST_GRANT has come. -/
def hubRestStart (l : Nat) (s : State) : State :=
  if hubOn s && leafState s l == 2 && s.on H.VLK_REST_SET l && Scm.atMultiframe s (s.get H.VLK_REST_START l) then setLeaf l 3 s
  else s

/-- WAKE (R118): a write of VLK.WAKE sets the WAKE bit of a resting leaf. -/
def wake (l : Nat) (s : State) : State :=
  if hubOn s && leafState s l == 3 then s.set H.VLK_WAKE_BIT l else s

/-- Traffic for leaf l (R118, Table VLK-5): a resting leaf is woken; a grant that has not begun is cancelled. -/
def traffic (l : Nat) (s : State) : State :=
  if hubOn s && leafState s l == 2 && s.on H.VLK_REST_SET l then
    toLeaf l 0x41 true false [s.get H.VLK_REST_START l, 0, 0] (s.clr H.VLK_REST_SET l)
  else wake l s

/-- WAKE_TMO (R118): `periods` listen periods have passed without WAKE_ACK. A standby judges no leaf LOST (R342). -/
def wakeTimeout (l periods : Nat) (s : State) : State :=
  if hubOn s && !s.passive && leafState s l == 3 && s.on H.VLK_WAKE_BIT l && decide (s.get F.VLK_REST_CFG_WAKE_TMO ≤ periods) then
    (lose l s).set F.VLK_INT_CAUSE_WAKE_TMO
  else s

/-- LEAF_LOST (Table VLK-7): no upstream from an ACTIVE leaf for `mf` multiframes. -/
def leafLost (l mf : Nat) (s : State) : State :=
  if hubOn s && !s.passive && leafState s l == 2 && decide (s.get F.VLK_RANGE_CFG_LOST_MF ≤ mf) then lose l s else s

/-- WAKE_ACK (R119): the leaf is ACTIVE; its WAKE bit ends. -/
def wakeAck (l : Nat) (s : State) : State := (setLeaf l 2 s).clr H.VLK_WAKE_BIT l

/-! ### Both roles -/

/-- ACK(SEQ, status) from `peer` (512 the hub) (R105, R99, R110, R121). -/
def ackReceived (peer q status : Nat) (s : State) : State :=
  match findUnacked s peer q with
  | none => s
  | some u =>
    let s := acked peer q s
    if s.leaf then
      if u.msg.type = 0x05 ∧ state s = 3 then setState 4 s else s
    else
      let s := if u.msg.type = 0x10 then s.clr H.VLK_ADJ_PEND u.msg.addr else s
      if u.msg.type = 0x11 ∧ status = statusFreqRefused then s.set F.VLK_INT_CAUSE_FREQ_FAIL else s

/-- USER and every other message for the ring, in either role (R106). -/
def toRing (addr flags type seq : Nat) (body : List Nat) (s : State) : State :=
  if s.leaf then down addr flags seq (queue (ringMsg addr flags type seq body)) s
  else up addr flags seq (queue (ringMsg addr flags type seq body)) s

/-- UNKNOWN_TYPE (R105). -/
def unknown (addr flags seq : Nat) (s : State) : State :=
  let act := fun (t : State) => (t.count F.VLK_RX_DROP_CNT_COUNT, some statusUnknown)
  if s.leaf then down addr flags seq act s else up addr flags seq act s

/-- The hub learns a REST_GRANT from the message that an engine posts (R116, R118), and from a REG_ASSIGN the end of the receive group that it
gives a leaf (R95; its body is the identifier, leaf number, beacon, member index and K_HI, in words, notes/assumptions/15.md). -/
def learn (m : VMsg) (s : State) : State :=
  if m.type = 0x03 then s.put H.VLK_LEAF_KHI (m.body.getD 5 0 % 512 + 1) (m.body.getD 2 512)
  else if m.type = 0x41 ∧ m.addr < 512 then grantRest m.addr (m.body.getD 0 0) (m.body.getD 1 0) (m.body.getD 2 0) s else s

/-- TXPOST (R106): the message in TXBUF[q] is queued; VLK gives it its SEQ (R104). -/
def txPost (q len beacon : Nat) (s : State) : State :=
  let s := (s.put F.VLK_TXPOST_LEN len q).put F.VLK_TXPOST_BEACON beacon q
  if !lenOk len then s
  else
    let w := (List.range (len / 4)).map (fun i => s.get F.VLK_TXBUF_DATA q i)
    let h := w.getD 0 0
    let addr := if s.leaf then selfAddr s else h % 1024
    let a := h.testBit 10 && (s.leaf || !broadcast addr)
    let n := s.get H.VLK_SEQ addr (b01 a)
    let m : VMsg := ⟨beacon, addr, a, h.testBit 11, slice h 16 8, n, w.drop 2⟩
    let s := s.put H.VLK_SEQ (n + 1) addr (b01 a)
    let s := { s with vlk := { s.vlk with posted := s.vlk.posted ++ [(q, m)] } }
    if s.leaf then s else learn m s

/-- A write of VLK.TXPOST[q]. -/
def writeTxPost (q v : Nat) (s : State) : State :=
  if v.testBit 31 then txPost q (slice v 0 11) (slice v 16 9) s
  else (s.put F.VLK_TXPOST_LEN (slice v 0 11) q).put F.VLK_TXPOST_BEACON (slice v 16 9) q

/-- REG_OPEN (VLK.CTRL.REG_OPEN): refused unless every registration subcarrier in use is BURST in the active upstream table. -/
def regOpen (v : Nat) (s : State) : State :=
  if s.leaf then s
  else if v % 2 = 0 then s.clr F.VLK_CTRL_REG_OPEN
  else if (List.range (s.get F.VLK_REG_CFG_RSC_M1 + 1)).all (fun i => s.get H.LRX_ACTIVE (s.get F.VLK_REG_SC_SC i) % 8 == 4) then
    s.set F.VLK_CTRL_REG_OPEN
  else s

/-- A write of VLK.CTRL. -/
def writeCtrl (v : Nat) (s : State) : State :=
  let s := (s.put F.VLK_CTRL_AUTO_RANGE (slice v 1 1)).put F.VLK_CTRL_AUTO_FREQ (slice v 2 1)
  let s := regOpen (slice v 3 1) s
  let s := if v.testBit 4 then regGo s else s
  if v.testBit 0 then enable s else disable s

/-- A write of VLK.T_EQ (R97). -/
def writeTEq (v : Nat) (s : State) : State :=
  if enabled s then s.set F.VLK_INT_CAUSE_CFG_ERR else s.put F.VLK_T_EQ_T_EQ v

end Sys2Proof.Machine.Vlk
end

