-- ==== Sys2Proof/Machine/Brx.lean ====
section
/-! DEFINITION. Sys2Proof/Machine/Brx.lean: burst reception (spec/06_burst_reception.md, R126 to R141). -/
namespace Sys2Proof.Machine.Brx
open Sys2Proof Sys2Proof.Machine

/-- The state of channel c (Table BRX-3): 0 OFF, 1 SEARCH, 2 HEADER, 3 PAYLOAD. -/
def state (s : State) (c : Nat) : Nat := slice (s.get F.BRX_STAT_CH) (3 * c) 3

def setState (c n : Nat) (s : State) : State :=
  let v := s.get F.BRX_STAT_CH
  s.put F.BRX_STAT_CH (v - slice v (3 * c) 3 * 2 ^ (3 * c) + n * 2 ^ (3 * c))

def count (c e : Nat) (s : State) : State := s.count F.BRX_CNT_COUNT 1 c e

/-- Channels in use (R126). -/
def inUse (s : State) (c : Nat) : Bool := decide (c ≤ s.get F.VLK_REG_CFG_RSC_M1)

def widen (s : State) : Nat := min 2 (s.get F.BRX_CTRL_WIDEN)

def usMode (s : State) (k : Nat) : Nat := s.get H.LRX_ACTIVE k % 8

/-- The carrier offsets that a channel searches, ±(W + 0.25) Δ, in 100 kHz (R126). -/
def capture (s : State) : Nat :=
  (4 * widen s + 1) * (100 + s.get F.LRX_LINE_CFG_SPACING) * s.get F.LRX_LINE_CFG_BAUD_MBD / (40 * Lrx.subcarriers s)

/-- A measured offset as the record holds it (R126, R140): within the channel's capture range. -/
def offset (s : State) (fofs : Nat) : Nat := unsigned 16 (clampInt (-(capture s : Int)) (capture s) (signed 16 fofs))

/-- Checks 3 and 4 of R127 for channel c. -/
def isBurst (s : State) (c : Nat) : Bool :=
  let k := s.get F.VLK_REG_SC_SC c
  decide (k < Lrx.subcarriers s) && usMode s k == 4

def clearAround (s : State) (c : Nat) : Bool :=
  let k := s.get F.VLK_REG_SC_SC c
  (List.range (widen s)).all (fun i =>
    decide (i + 1 ≤ k) && decide (k + i + 1 < Lrx.subcarriers s) && usMode s (k - i - 1) == 0 && usMode s (k + i + 1) == 0)

/-- The checks of R127 in order; 0 where all pass. -/
def check (s : State) : Nat :=
  let cs := (List.range 4).filter (inUse s)
  if s.leaf then 1
  else if !s.on F.LRX_CTRL_EN then 2
  else if !cs.all (isBurst s) then 3
  else if !cs.all (clearAround s) then 4
  else 0

/-- BRX_ENABLE (R127). -/
def enable (s : State) : State :=
  if s.on F.BRX_CTRL_EN then s
  else
    let e := check s
    if e = 0 then
      ((s.set F.BRX_CTRL_EN).clr F.BRX_STAT_CFG_STEP).each 4 (fun c t => if inUse t c then setState c 1 t else t)
    else
      let s := (s.set F.BRX_INT_CAUSE_CFG_ERR).put F.BRX_STAT_CFG_STEP e
      if e = 1 then s.set F.SYS_INT_CAUSE_ROLE_LIMIT else s

/-- What channel c follows; after a close its `level` is the gain from which tracking resumes (R128). -/
def current (s : State) (c : Nat) : Burst := Store.get {} s.brx.cur c

def follow (c : Nat) (b : Burst) (s : State) : State := { s with brx := { s.brx with cur := Store.put {} s.brx.cur c b } }

/-- What a log entry holds of a burst (Table BRX-6 word 2): hash, previous leaf and, of a GOOD burst, the leaf. -/
def identity (s : State) (hdr : Nat) (good : Bool) (msg : List Nat) : Nat :=
  let l := if good then (Vlk.holder s (msg.getD 2 0) (msg.getD 3 0)).getD 0x1FF else 0x1FF
  slice hdr 0 14 + slice hdr 14 9 * 2 ^ 14 + l * 2 ^ 23

def nobody : Nat := 0x1FF * 2 ^ 23

/-- Burst `serial` has ended with an identity word (`nobody` for an attempt): the entries that name it are completed (R141). -/
def resolve (serial word : Nat) (s : State) : State :=
  { s with brx := { s.brx with log := s.brx.log.map (fun e =>
    let e := if e.cur = serial then { e with cur := 0, curWord := if e.phase = 1 then word else nobody } else e
    if e.new = serial then { e with new := 0, newWord := if e.newHdr then word else nobody } else e) } }

def headDone (s : State) : Bool :=
  match s.brx.log with
  | e :: _ => e.cur == 0 && e.new == 0
  | [] => false

/-- REC_STAT and COL_STAT follow the ring and the log. -/
def refresh (s : State) : State :=
  ((s.put F.BRX_REC_STAT_COUNT s.brx.ring.length).put F.BRX_COL_STAT_COUNT s.brx.log.length).put F.BRX_COL_STAT_HEAD_DONE
    (b01 (headDone s))

/-- An open burst closes with a status (Table BRX-5); its record is due 8 symbols later (R132). -/
def close (c status em psym fofs snr : Nat) (msg : List Nat) (s : State) : State :=
  let x : Closed := ⟨c, status, em, psym, current s c, offset s fofs, snr % 1024, msg⟩
  setState c 1 { s with brx := { s.brx with closed := s.brx.closed ++ [x] } }

/-- An attempt is abandoned: FALSE_START (R133, R136, R139). -/
def abandon (c : Nat) (s : State) : State := refresh (resolve (current s c).serial nobody (setState c 1 (count c 1 s)))

/-- An open burst closes early as TRUNCATED (status 2). -/
def truncate (c psym fofs snr : Nat) (s : State) : State := close c 2 0 psym fofs snr [] (count c 5 s)

/-- P, the payload symbols the header's LEN gives (Table BRX-1). -/
def payloadSymbols (hdr : Nat) : Nat := 4 * (64 + 16 * slice hdr 27 3 + 4)

/-- A channel stops or is made safe: an open burst is TRUNCATED, an attempt abandoned. What was measured of the burst until then, and how many
of its payload symbols had come, is a free value (notes/assumptions/50.md). -/
def halt (c : Nat) (s : State) : State :=
  match state s c with
  | 3 => (truncate c (min (payloadSymbols (current s c).hdr) (s.free 10)) ((s.drew).free 16) ((s.drew.drew).free 10) s).drew.drew.drew
  | 2 => abandon c s
  | _ => s

/-- An upstream safe output takes force (R139). -/
def safe (s : State) : State := s.each 4 halt

/-- BRX_DISABLE (R130). -/
def disable (s : State) : State :=
  (s.clr F.BRX_CTRL_EN).each 4 (fun c t => setState c 0 (halt c t))

/-- Channels that serve no registration subcarrier are off (R126). -/
def outOfUse (s : State) : State := s.each 4 (fun c t => if !inUse t c && state t c != 0 then setState c 0 (halt c t) else t)

/-- After an upstream table swap (R127): a channel whose checks fail stops, one whose checks pass again restarts. -/
def recheck (s : State) : State :=
  if !s.on F.BRX_CTRL_EN then s
  else (outOfUse s).each 4 (fun c t =>
    if !inUse t c then t
    else if isBurst t c && clearAround t c && t.on F.LRX_CTRL_EN then (if state t c = 0 then setState c 1 t else t)
    else if state t c = 0 then t
    else setState c 0 ((halt c t).set F.BRX_INT_CAUSE_CH_OFF))

/-- A write of BRX.CTRL (R127). -/
def writeCtrl (v : Nat) (s : State) : State :=
  let w := slice v 1 2
  let s := if !s.on F.BRX_CTRL_EN then s.put F.BRX_CTRL_WIDEN w
    else if w = s.get F.BRX_CTRL_WIDEN then s else s.set F.BRX_INT_CAUSE_CFG_ERR
  if v % 2 = 1 then enable s else disable s

/-- A new attempt on a peak: HEADER, the gain frozen (R128, R130). An orphan episode of the channel is over (R137). -/
def openAttempt (c : Nat) (b : Burst) (s : State) : State :=
  let n := s.brx.serial + 1
  let s := s.clr H.BRX_EPISODE c
  setState c 2 (follow c { b with serial := n } { s with brx := { s.brx with serial := n } })

/-- The collision log takes an entry, or drops it where it holds 64 (R141). -/
def logEntry (e : Collision) (s : State) : State :=
  if s.brx.log.length < 64 then refresh { s with brx := { s.brx with log := s.brx.log ++ [e] } }
  else (s.count F.BRX_DROP_CNT_COL).set F.BRX_INT_CAUSE_DROP

/-- The saturated Λ (notes/assumptions/50.md): the largest of its field. -/
def saturated : Int := 32767

/-- Λ as channel c reports it (R128, R129): while its gain is frozen, a peak more than 15 dB above the level at the target saturates. -/
def seen (s : State) (c : Nat) (lambda : Int) : Int :=
  if 2 ≤ state s c ∧ (current s c).level + 150 < lambda then saturated else clampInt (-32768) saturated lambda

/-- A peak stands at t (R129): Q reaches the threshold and exceeds Q at each of t + 1 to t + 4. -/
def isPeak (s : State) (q : Nat) (after : List Nat) : Bool :=
  decide (max 60 (s.get F.BRX_DET_CFG_Q_THR) ≤ q) && decide (4 ≤ after.length) && (after.take 4).all (fun x => decide (x < q))

/-- PEAK_DETECT (R129, R130, R133, R134, R139): Q of channel c at t and at the symbols after it, Λ, the mean power that a tracking gain
stands at, the arrival of the first preamble symbol, the downstream position of the detection, and what has been measured so far of the burst
in progress. A restart or capture loads the gain with the new peak's level (R128). -/
def peak (c q : Nat) (after : List Nat) (level lambda : Int) (aMfn aFn aOfs dMfn dFn dSym psym fofs snr : Nat) (s : State) : State :=
  if !(decide (c < 4)) || state s c == 0 || !isPeak s q after then s
  else
    let s := count c 0 s
    let l := seen s c lambda
    let b : Burst := { lambda := l, q := q, level := l, arrMfn := aMfn, arrFn := aFn, arrOfs := aOfs }
    let cur := current s c
    let d := l - cur.lambda
    let entry := fun (phase outcome new : Nat) =>
      (⟨c, phase, outcome, d, dMfn, dFn, dSym, cur.serial, new, false, nobody, nobody⟩ : Collision)
    if s.on F.PWR_SAFE_STAT_UP_SAFE then count c 10 s
    else match state s c with
      | 1 => openAttempt c { b with level := level } s
      | 2 =>
        if (max 1 (s.get F.BRX_RESTART_MARGIN_MARGIN) : Int) ≤ d then
          let s := logEntry (entry 0 0 (s.brx.serial + 1)) s
          openAttempt c { b with restarted := true } (abandon c s)
        else logEntry (entry 0 2 0) (count c 7 s)
      | _ =>
        let s := (count c 7 s).set F.BRX_INT_CAUSE_COLLISION
        if (max 1 (s.get F.BRX_CAPTURE_MARGIN_MARGIN) : Int) ≤ d then
          let s := logEntry (entry 1 1 (s.brx.serial + 1)) s
          openAttempt c b (close c 3 0 psym fofs snr [] ((count c 6 s).set F.BRX_INT_CAUSE_PREEMPTED))
        else logEntry (entry 1 2 0) s

/-- HEADER_DECISION (R131): the 32 header bits and whether their CRC passed. -/
def header (c hdr crcOk : Nat) (s : State) : State :=
  if !(decide (c < 4)) || state s c != 2 then s
  else
    let b := current s c
    if crcOk ≠ 0 ∧ slice hdr 30 2 = 1 ∧ slice hdr 27 3 ≤ 4 then
      let s := { s with brx := { s.brx with log := s.brx.log.map (fun e =>
        if e.new = b.serial then { e with newHdr := true } else e) } }
      setState c 3 (follow c { b with hdr := hdr % 2 ^ 32 } s)
    else refresh (resolve b.serial nobody (setState c 1 (count c 2 s)))

/-- A burst's payload is assembled in the burst assembly area (R132): region 2 of the first port that has one and is in use, 64 words of it
for each channel (notes/assumptions/50.md); without such a region, in the on-die area (R203). -/
def assemble (c : Nat) (msg : List Nat) (s : State) : State :=
  match (List.range 2).find? (fun p => Qdm.inUse s p && Qdm.present s p 2) with
  | some p =>
    let base := p * 2 ^ 23 + (Qdm.region s p 2).1 + 64 * c
    let w := msg.take 64
    Qdm.transferred p w.length (s.eachOf w.zipIdx (fun x t => { t with qdr := Store.put 0 t.qdr (base + x.2) (x.1 % 2 ^ 32) }))
  | none => s.eachOf (msg.take 64).zipIdx (fun x t => t.put H.BRX_DIE x.1 (64 * c + x.2))

/-- EM_MISS (R132): the end marker's correlation, in 1/256 of its ideal value, is below half. -/
def emMiss (em : Nat) : Nat := b01 (decide (em < 128))

/-- BURST_CLOSE (R132): at the last end-marker symbol, with the payload's CRC, the end marker's correlation, the measurements and the
message. -/
def burstClose (c crcOk em fofs snr : Nat) (msg : List Nat) (s : State) : State :=
  if !(decide (c < 4)) || state s c != 3 then s
  else
    let n := payloadSymbols (current s c).hdr
    if crcOk ≠ 0 then close c 0 (emMiss em) n fofs snr msg (count c 3 (assemble c msg s))
    else close c 1 (emMiss em) n fofs snr [] (count c 4 (assemble c msg s))

/-- The record of a closed burst (Table BRX-5). -/
def record (x : Closed) : List Nat :=
  let b := x.burst
  [x.ch + 4 * x.status + 16 * x.emMiss + 32 * b01 b.faded + 64 * b01 b.restarted + 65536 * x.psym, b.hdr,
   b.arrMfn % 2 ^ 24 + 2 ^ 24 * (b.arrFn % 256), b.arrOfs % 2 ^ 21, x.fofs % 65536 + 65536 * (x.snr % 1024),
   unsigned 16 b.lambda + 65536 * (b.q % 1024), if x.status = 0 then x.msg.getD 2 0 else 0, if x.status = 0 then x.msg.getD 3 0 else 0]

/-- BURST_RECORD (R140): the record of the oldest closed burst is written or dropped; a GOOD burst's message passes to VLK; the log
entries that name the burst are completed (R141). -/
def writeRecord (s : State) : State :=
  match s.brx.closed with
  | [] => s
  | x :: rest =>
    let s := { s with brx := { s.brx with closed := rest } }
    let s := if s.brx.ring.length < 256 then
        ({ s with brx := { s.brx with ring := s.brx.ring ++ [record x] } }).set F.BRX_INT_CAUSE_REC_AVAIL
      else (s.count F.BRX_DROP_CNT_REC).set F.BRX_INT_CAUSE_DROP
    let s := if x.status = 0 then { s with brx := { s.brx with good := s.brx.good ++ [x] } } else s
    refresh (resolve x.burst.serial (identity s x.burst.hdr (x.status == 0) x.msg) s)

/-- A symbol of a run is absent (R136): its energy, in 0.1 dBL, lies more than DROP below the Λ of the peak that the channel follows. -/
def isAbsent (s : State) (c : Nat) (e : Int) : Bool := decide (e < (current s c).lambda - s.get F.BRX_ENG_CFG_DROP)

/-- GAP_CLOSE (R136): 32 consecutive absent symbols, by their energies. -/
def gap (c : Nat) (run : List Int) (psym fofs snr : Nat) (s : State) : State :=
  if run.length < 32 ∨ !run.all (isAbsent s c) then s
  else match (if c < 4 then state s c else 0) with
  | 3 => (truncate c psym fofs snr s).set F.BRX_INT_CAUSE_TRUNCATED
  | 2 => abandon c s
  | _ => s

/-- FADE (R136): 1 to 31 absent symbols and then a present one. -/
def fade (c : Nat) (run : List Int) (next : Int) (s : State) : State :=
  if c < 4 ∧ 2 ≤ state s c ∧ 1 ≤ run.length ∧ run.length ≤ 31 ∧ run.all (isAbsent s c) ∧ !isAbsent s c next then
    follow c { current s c with faded := true } (count c 9 s)
  else s

/-- A symbol is present in SEARCH and on a subcarrier (R137, R138). -/
def isPresent (s : State) (e : Int) : Bool := decide ((s.get F.BRX_ENG_CFG_ABS_THR : Int) ≤ e)

/-- ORPHAN (R137): 32 consecutive present symbols without a detection, by their energies, after a run of `quiet` that were not present. It counts
once: an episode goes on until 32 consecutive symbols are not present, or a detection opens an attempt. -/
def orphan (c quiet : Nat) (run : List Int) (s : State) : State :=
  if c < 4 ∧ state s c = 1 ∧ 32 ≤ run.length ∧ run.all (isPresent s) ∧ (s.on H.BRX_EPISODE c = false ∨ 32 ≤ quiet) then
    (count c 8 s).set H.BRX_EPISODE c
  else s

/-- Upstream subcarrier k is judged (R138, R118): DATA of a leaf that does not rest, or SLOT. -/
def judged (s : State) (k : Nat) : Bool :=
  !s.leaf && decide (k < Lrx.subcarriers s) &&
  (usMode s k == 3 || (usMode s k == 1 && s.get F.VLK_LEAF_STATE (slice (s.get H.LRX_ACTIVE k) 22 9) != 3))

/-- A symbol of frame fn counts on subcarrier k (R138): on SLOT only where the frame is granted to an ACTIVE leaf. -/
def counts (s : State) (k fn : Nat) : Bool :=
  usMode s k != 3 || (match Scm.grantedIn s k fn with | some l => s.get F.VLK_LEAF_STATE l == 2 | none => false)

/-- The last 32 symbols of subcarrier k that count lie below ABS_THR (`v`), or at or above it: each symbol is its energy and its frame. -/
def run (s : State) (k : Nat) (v : Bool) (symbols : List (Int × Nat)) : Bool :=
  let l := symbols.filter (fun x => counts s k x.2)
  decide (32 ≤ l.length) && (l.drop (l.length - 32)).all (fun x => isPresent s x.1 != v)

/-- SC_ABSENT_SET and SC_ABSENT_CLEAR (R138). -/
def absent (k : Nat) (v : Bool) (symbols : List (Int × Nat)) (s : State) : State :=
  if judged s k && run s k v symbols then s.putBit F.BRX_SC_ABSENT_SC (k % 32) v (k / 32) else s

/-- Subcarrier k is absent for the frames of leaf l (R138, R118): a bit that is not judged says nothing. -/
def isGone (s : State) (k l : Nat) : Bool :=
  s.bit F.BRX_SC_ABSENT_SC (k % 32) (k / 32) && judged s k && s.get F.VLK_LEAF_STATE l != 3

def recPop (s : State) : State := refresh { s with brx := { s.brx with ring := s.brx.ring.drop 1 } }

/-- COL_POP (R141): ignored while the oldest entry is not DONE. -/
def colPop (s : State) : State :=
  if headDone s then refresh { s with brx := { s.brx with log := s.brx.log.drop 1 } } else s

/-- REC_DATA[w] and COL_DATA[w] as they read. -/
def recWord (s : State) (w : Nat) : Nat := (s.brx.ring.headD []).getD w 0

def logWords (e : Collision) : List Nat :=
  [e.ch + 4 * e.phase + 8 * e.outcome + 32 * b01 (e.cur == 0 && e.new == 0) + 64 * b01 e.newHdr + 65536 * unsigned 16 (clampInt (-32768) 32767 e.delta),
   e.fn % 256 + 256 * (e.sym % 2 ^ 14) + 2 ^ 22 * (e.mfn % 1024), e.curWord, e.newWord]

def colWord (s : State) (w : Nat) : Nat :=
  match s.brx.log with
  | e :: _ => (logWords e).getD w 0
  | [] => 0

/-- RTT_COMPUTE (R108, R140): in 0.1 ns, from the arrival of the first preamble symbol, the opportunity (MFN, FN, index) the message
names, and the 64-symbol guard. -/
def rtt (s : State) (b : Burst) (mfn fn i : Nat) : Nat :=
  let dm : Int := signed 24 (unsigned 24 ((b.arrMfn : Int) - mfn))
  let sym : Int := (256 * dm + ((b.arrFn : Int) - fn)) * 16320 - 1020 * i - 64
  let r := roundDivInt (sym * (Lrx.subcarriers s * 10000 : Nat)) (s.get F.LRX_LINE_CFG_BAUD_MBD) + b.arrOfs
  if r < 0 ∨ (s.get F.VLK_T_EQ_T_EQ : Int) < r then 0xFFFFFFFF else r.toNat

/-- REG_REQ (R108): VLK takes the message of the oldest GOOD burst. -/
def regReq (sending : Nat) (s : State) : State :=
  match s.brx.good with
  | [] => s
  | x :: rest =>
    let s := { s with brx := { s.brx with good := rest } }
    let m := x.msg
    if slice (m.getD 0 0) 16 8 = 2 then
      Vlk.regReq m (rtt s x.burst (m.getD 5 0) (m.getD 6 0) (m.getD 7 0)) (unsigned 32 (signed 16 x.fofs)) x.snr sending s
    else s.count F.VLK_RX_DROP_CNT_COUNT

end Sys2Proof.Machine.Brx
end

