-- ==== Sys2Proof/Machine/Flw.lean ====
section
/-! DEFINITION. Sys2Proof/Machine/Flw.lean: the flow table, client ingress, scheduling of container frames and sleep queues
(spec/09_flows_and_memory.md, R189 to R199; R150, R169, R170). -/
namespace Sys2Proof.Machine.Flw
open Sys2Proof Sys2Proof.Machine

/-! ### Flow table entries (Table FLW-1) -/

/-- An entry as its words 0 to 4. -/
abbrev Entry := List Nat

def entry (s : State) (f : Nat) : Entry := (List.range 5).map (fun w => s.get F.FLW_FT_DATA f w)

def part (e : Entry) (w lo n : Nat) : Nat := slice (e.getD w 0) lo n
def en (e : Entry) : Bool := part e 0 0 1 == 1
def lock (e : Entry) : Bool := part e 0 1 1 == 1
def txEn (e : Entry) : Bool := part e 0 2 1 == 1
def rxEn (e : Entry) : Bool := part e 0 3 1 == 1
def cli (e : Entry) : Nat := part e 0 4 6
def trib (e : Entry) : Nat := part e 0 10 2
def ciphEn (e : Entry) : Bool := part e 0 12 1 == 1
def strict (e : Entry) : Bool := part e 0 13 1 == 1
def buf (e : Entry) : Nat := part e 0 14 1
def lflow (e : Entry) : Nat := part e 0 16 12
def sel (e : Entry) : Nat := part e 1 0 12
def nts (e : Entry) : Nat := part e 1 12 10
def weight (e : Entry) : Nat := part e 1 24 8
def rate (e : Entry) : Nat := part e 2 0 30
def scLo (e : Entry) : Nat := part e 3 0 9
def scHi (e : Entry) : Nat := part e 3 9 9
def leafOf (e : Entry) : Nat := part e 3 18 9
def pmi (e : Entry) : Nat := part e 4 0 12
def ctx (e : Entry) : Nat := part e 4 16 12

/-- The named bits of words 0 to 4; the others are reserved and read 0. -/
def masks : List Nat := [0x0FFF7FFF, 0xFF3FFFFF, 0x3FFFFFFF, 0x07FFFFFF, 0x0FFF0FFF]

/-- The staged entry (R195). -/
def staged (s : State) : Entry := masks.zipIdx.map (fun x => s.get F.FLW_STAGE_DATA x.2 &&& x.1)

/-- The enabled flows: word 0 of an entry is listed only where it is not 0, so the listed fields name every flow with EN = 1. -/
def enabled (s : State) : List Nat :=
  let base := F.FLW_FT_DATA.key 0 0 0
  s.csr.filterMap (fun x =>
    let off := x.1 - base
    if decide (base ≤ x.1) && off % 256 == 0 && decide (off / 256 < 3072) && x.2 % 2 == 1 then some (off / 256) else none)

/-- The client bytes a CF carries (R150). -/
def capacity (e : Entry) : Nat := if ciphEn e then 5968 else 5984

/-- TRIB suits a client type (R190). -/
def suits (t typ : Nat) : Bool := t == 0 || (t == 1 && Hsl.isFlexo typ) || (t == 2 && Hsl.isEthernet typ)

/-- The flow's input is failed (R173, R190). -/
def inputFailed (s : State) (e : Entry) : Bool :=
  let c := cli e
  let typ := Hsl.typeOf s c
  let raw := s.get H.FRM_CLI_RAW c
  decide (Hsl.state s c < 6) || !suits (trib e) typ || (Hsl.isFlexo typ && (raw.testBit 1 || raw.testBit 2))

/-- Subcarrier k is in the flow's transmit set (R191). -/
def inSet (s : State) (e : Entry) (k : Nat) : Bool :=
  let m := s.get H.LTX_ACTIVE k % 8
  if s.leaf then (m == 1 && slice (s.get H.LTX_ACTIVE k) 22 9 == s.get F.VLK_SELF_LEAF) || m == 3
  else m == 1 && decide (scLo e ≤ k) && decide (k ≤ scHi e)

/-- TX_BLOCKED (R193): the transmit set holds no DATA subcarrier and no grant frame. -/
def blocked (s : State) (f : Nat) : Bool :=
  let e := entry s f
  en e && !(List.range (Ltx.subcarriers s)).any (fun k =>
    inSet s e k && (s.get H.LTX_ACTIVE k % 8 == 1 || (List.range 64).any (fun fn => Vlk.slotGranted s k (s.get H.FRM_TX_MFN) fn)))

/-- The flow's leaf is RESTING (R198). -/
def resting (s : State) (e : Entry) : Bool := !s.leaf && s.on H.VLK_TREE && s.get F.VLK_LEAF_STATE (leafOf e) == 3

/-! ### Ingress (R190, R192) -/

def ingress (s : State) (f : Nat) : List Nat := Store.get [] s.flw.ingress f

def setIngress (f : Nat) (l : List Nat) (s : State) : State := { s with flw := { s.flw with ingress := Store.put [] s.flw.ingress f l } }

/-- The stretches of the ingress that hold errored blocks (R177). -/
def errored (s : State) (f : Nat) : List (Nat × Nat) := Store.get [] s.flw.errored f

def setErrored (f : Nat) (l : List (Nat × Nat)) (s : State) : State :=
  { s with flw := { s.flw with errored := Store.put [] s.flw.errored f l } }

/-- `n` bytes leave the ingress: they, whether they held an errored block or follow lost bytes, and the rest (R177, R192). -/
def leave (f n : Nat) (s : State) : List Nat × Bool × State :=
  let l := ingress s f
  let bad := (errored s f).any (fun x => decide (x.1 < n)) || s.on H.FLW_ERR_NEXT f
  let left := ((errored s f).filter (fun x => decide (n < x.2))).map (fun x => (x.1 - n, x.2 - n))
  (l.take n, bad, (setErrored f left (setIngress f (l.drop n) s)).clr H.FLW_ERR_NEXT f)

/-- The enabled flow that takes client c's data of a VLAN or tributary slot (R190). -/
def taker (s : State) (c vlan slot : Nat) : Option Nat :=
  (enabled s).find? (fun f =>
    let e := entry s f
    cli e == c && match trib e with
      | 0 => true
      | 1 => decide (sel e ≤ slot) && decide (slot < sel e + nts e)
      | _ => sel e == vlan)

/-- CLIENT_INGRESS (R192, R190, R177): data of client c (one Ethernet frame, or ODU bytes) for the flow that takes it. `bad` says that
it holds a block from an uncorrectable codeword. -/
def clientIngress (c vlan slot bad : Nat) (data : List Nat) (s : State) : State :=
  if !(decide (c < 32)) || Hsl.state s c != 6 || s.passive then s
  else match taker s c vlan slot with
    | none => if Hsl.isEthernet (Hsl.typeOf s c) then s.count F.FLW_CLI_UNMATCH_COUNT 1 c else s
    | some f =>
      let e := entry s f
      if !txEn e || inputFailed s e then s
      else
        let s := if !s.leaf && s.on H.VLK_TREE then Vlk.traffic (leafOf e) s else s
        let held := ingress s f
        let s := if bad = 0 ∨ 2 * capacity e < held.length + data.length then s
          else setErrored f (errored s f ++ [(held.length, held.length + data.length)]) s
        if held.length + data.length ≤ 2 * capacity e then setIngress f (held ++ data) s
        else
          let s := (s.set F.FLW_FSTAT_ING_OVF f).set F.FLW_INT_CAUSE_ING_OVF
          if Hsl.isFlexo (Hsl.typeOf s c) then
            (setIngress f (held ++ data.take (2 * capacity e - held.length)) s).set H.FLW_ERR_NEXT f
          else s

/-! ### Tokens (R192, R193) -/

/-- A token, and the cap of 16, in units of 1/(16 × 10^9). -/
def token : Nat := 16 * 10 ^ 9
def tokenCap : Nat := 16 * token

/-- The tokens of flow f grow at RATE/16 per second up to time `now` (ns); those above the cap are lost and counted. -/
def accrue (now f : Nat) (s : State) : State :=
  let e := entry s f
  let t := s.get H.FLW_TOK f + rate e * (now - s.get H.FLW_TOK_T f)
  let s := s.put H.FLW_TOK_T (max now (s.get H.FLW_TOK_T f)) f
  if t < tokenCap then s.put H.FLW_TOK t f
  else
    let lost := s.get H.FLW_LOST f + (t - tokenCap)
    let s := ((s.put H.FLW_TOK tokenCap f).put H.FLW_LOST (lost % token) f).count F.FLW_FSTAT_SHORT_CNT (lost / token) f
    (s.set F.FLW_FSTAT_RATE_SHORT f).set F.FLW_INT_CAUSE_RATE_SHORT

/-- TOKEN_CAP (R193). -/
def tokenCapReached (f now : Nat) (s : State) : State := if f < 3072 ∧ en (entry s f) ∧ txEn (entry s f) then accrue now f s else s

/-! ### Sleep queues (R198, R199) -/

def sleepQueue (s : State) (l : Nat) : List Stored := Store.get [] s.flw.sleep l

def setSleep (l : Nat) (q : List Stored) (s : State) : State := { s with flw := { s.flw with sleep := Store.put [] s.flw.sleep l q } }

/-- A held or holdable CF of leaf l is discarded. -/
def sleepDrop (l : Nat) (s : State) : State := (s.count F.FLW_SLEEP_DROP_COUNT 1 l).set F.FLW_INT_CAUSE_SLEEP_DROP

/-- Flow f's held CFs. -/
def heldOf (s : State) (f : Nat) : List Stored := (sleepQueue s (leafOf (entry s f))).filter (fun x => x.flow == f)

/-- FSTAT.HELD. -/
def isHeld (s : State) (f : Nat) : Bool := !(heldOf s f).isEmpty

def sleepFree (port : Nat) (s : State) : State := if port < 2 then s.put H.QDM_SLEEP_USED (s.get H.QDM_SLEEP_USED port - 1) port else s

/-- SLEEP_HOLD (R198): the DATA CF that flow f would send is appended to its leaf's queue, or dropped. -/
def hold (f : Nat) (s : State) : State :=
  let e := entry s f
  let l := leafOf e
  let d := leave f (capacity e) s
  let frame : Cf := { type := 0, flow := lflow e, err := d.2.1, payload := d.1 }
  let s := Vlk.wake l d.2.2
  if s.on F.FRM_RA_STAT_JUST f || decide (max 1 (s.get F.FLW_SLEEP_CFG_CAP) ≤ (sleepQueue s l).length) then sleepDrop l s
  else match Qdm.roomier s H.QDM_SLEEP_USED 1 with
    | none => sleepDrop l s
    | some p =>
      Qdm.transferred p 1504
        ((setSleep l (sleepQueue s l ++ [⟨f, p, frame⟩]) s).put H.QDM_SLEEP_USED (s.get H.QDM_SLEEP_USED p + 1) p)

/-! ### Scheduling (R192, R194, R150, R169, R170) -/

/-- A DATA CF of flow f is ready: one is held for its leaf, or the ingress holds C bytes. -/
def ready (s : State) (f : Nat) : Bool := isHeld s f || decide (capacity (entry s f) ≤ (ingress s f).length)

/-- The next flow after `last` (as 1 + flow) in turn. -/
def turn (last : Nat) (l : List Nat) : Option Nat :=
  match l.find? (fun f => decide (last ≤ f)) with
  | some f => some f
  | none => l.head?

/-- Steps 1 to 3 of R192: the flow picked and whether it spends a token. -/
def pick (s : State) (l : List Nat) : Option (Nat × Bool) :=
  let rich := l.filter (fun f => decide (token ≤ s.get H.FLW_TOK f))
  match turn (s.get H.FLW_RR_STRICT) (rich.filter (fun f => strict (entry s f))) with
  | some f => some (f, true)
  | none =>
    match turn (s.get H.FLW_RR_PLAIN) (rich.filter (fun f => !strict (entry s f))) with
    | some f => some (f, true)
    | none =>
      let ex := l.filter (fun f => ready s f && weight (entry s f) != 0 && !lock (entry s f) && cli (entry s f) != 63 &&
        !inputFailed s (entry s f))
      let cur := s.get H.FLW_DRR
      if s.get H.FLW_DRR_LEFT ≠ 0 ∧ cur ≠ 0 ∧ ex.contains (cur - 1) then some (cur - 1, false)
      else (turn cur ex).map (fun f => (f, false))

/-- The flow served moves its pointer, or spends a CF of its turn. -/
def served (f : Nat) (spend : Bool) (s : State) : State :=
  if spend then
    let s := s.put H.FLW_TOK (s.get H.FLW_TOK f - token) f
    if strict (entry s f) then s.put H.FLW_RR_STRICT (f + 1) else s.put H.FLW_RR_PLAIN (f + 1)
  else
    let left := if s.get H.FLW_DRR = f + 1 ∧ s.get H.FLW_DRR_LEFT ≠ 0 then s.get H.FLW_DRR_LEFT else weight (entry s f)
    (s.put H.FLW_DRR (f + 1)).put H.FLW_DRR_LEFT (left - 1)

/-- J for a JUST frame (R169): e is the deviation of the ingress from its centre, one CF of bytes; round is to the nearest, ties away
from zero. -/
def justification (s : State) (f : Nat) : Int :=
  let e : Int := ((ingress s f).length : Int) - (capacity (entry s f) : Int)
  clampInt (-2) 2 (roundDivInt e 4)

/-- Table FRM-8: the code of J, and its three copies. -/
def jcCode (j : Int) : Nat := if j = -2 then 0xC3 else if j = -1 then 0xF0 else if j = 1 then 0x0F else if j = 2 then 0x3C else 0
def jcCopies (j : Int) : Nat := jcCode j * 0x010101

/-- The TYPE a flow's CF takes (R192): LCK 5, OCI 6, AIS 4, DATA 0, IDLE 1. -/
def cfType (s : State) (f : Nat) (spend : Bool) : Nat :=
  let e := entry s f
  if !spend then 0
  else if lock e then 5
  else if cli e = 63 then 6
  else if inputFailed s e then 4
  else if s.on F.FRM_RA_STAT_JUST f || ready s f then 0
  else 1

/-- RA_JUST (R170): an AUTO flow that has carried IDLE_WIN CFs without idle switches to JUST from the next. -/
def watchIdle (f type : Nat) (s : State) : State :=
  if s.get F.FRM_RA_CFG_MODE f < 2 ∨ s.on F.FRM_RA_STAT_JUST f then s
  else if type ≠ 0 then s.clr H.FRM_RA_RUN f
  else
    let s := s.count H.FRM_RA_RUN 1 f
    if max 1 (s.get F.FRM_RA_CFG_IDLE_WIN f) ≤ s.get H.FRM_RA_RUN f then
      (s.set F.FRM_RA_STAT_JUST f).set F.FRM_INT_CAUSE_RA_JUST
    else s

/-- The frame's client bytes and its ERR: the oldest held CF, else from the ingress, C bytes or C − 2 + J. -/
def takeData (f : Nat) (j : Int) (just : Bool) (s : State) : List Nat × Bool × State :=
  let e := entry s f
  let c := capacity e
  match heldOf s f with
  | x :: _ =>
    let q := sleepQueue s (leafOf e)
    (x.frame.payload, x.frame.err, sleepFree x.port (setSleep (leafOf e) (q.erase x) s))
  | [] =>
    let d := leave f (if just then (c - 2 + j).toNat else c) s
    (padTo c d.1, d.2.1, d.2.2)

/-- A container frame starts on subcarrier k: its header bytes with their CRC-16 (Table FRM-4, R150). -/
def putCf (k : Nat) (x : Cf) (s : State) : State := s.emit (.cf k (Cry.headerBytes x) x)

/-- A flow sends a CF on subcarrier k. -/
def sendCf (f k : Nat) (spend : Bool) (s : State) : State :=
  let e := entry s f
  let s := if s.on H.FLW_LOST_HELD f then sleepDrop (leafOf e) (s.clr H.FLW_LOST_HELD f) else s
  let type := cfType s f spend
  let just := s.on F.FRM_RA_STAT_JUST f
  let j := if just && type == 0 then justification s f else 0
  let d := if type = 0 then takeData f j just s else (Cry.zeros (capacity e), false, s)
  let s := served f spend d.2.2
  let frame : Cf := { type := type, flow := lflow e, seq := s.get H.FLW_TX_SEQ f, just := just, err := d.2.1,
                      jc := if just && type == 0 then jcCopies j else 0, payload := d.1 }
  let s := s.put H.FLW_TX_SEQ (frame.seq + 1) f
  let out := if ciphEn e then Cry.encrypt (ctx e) frame s else (frame, s)
  watchIdle f type (putCf k out.1 out.2)

/-- R194: no CF starts on a subcarrier that will be neither DATA nor SLOT after an announced swap, nor on a row in which the leaf will
hold no entries. -/
def startsNone (s : State) (k : Nat) : Bool :=
  let m := s.get H.LTX_SHADOW k % 8
  (s.on F.LTX_STAT_ANNOUNCED && m != 1 && m != 3) ||
  (s.leaf && s.get H.LTX_ACTIVE k % 8 == 3 && s.on H.VLK_G_SWAP &&
    !(List.range 64).any (fun g => s.get H.VLK_G_SC_SHADOW g == k + 1))

/-- The subcarrier on which the leaf's management container goes (R151): its lowest DATA subcarrier, else the lowest of its granted SLOT
rows. -/
def mgmtSubcarrier (s : State) : Option Nat :=
  let ks := List.range (Ltx.subcarriers s)
  match ks.find? (fun k => s.get H.LTX_ACTIVE k % 8 == 1 && Vlk.owns s k) with
  | some k => some k
  | none => ((List.range 64).find? (fun g => s.on H.VLK_G_SC_ACT g)).map (fun g => s.get H.VLK_G_SC_ACT g - 1)

/-- Subcarrier k carries CFs of this device now: DATA, or in a leaf SLOT in a granted frame. -/
def carries (s : State) (k : Nat) : Bool :=
  let m := s.get H.LTX_ACTIVE k % 8
  decide (k < Ltx.subcarriers s) && ((m == 1 && Vlk.owns s k) || (s.leaf && m == 3 && Vlk.slotGranted s k (s.get H.FRM_TX_MFN) (s.get H.FRM_TX_FN)))

/-- CF_SCHEDULE (R192): the next CF that is due on subcarrier k (R149) starts, at time `now` (ns). -/
def schedule (k now : Nat) (s : State) : State :=
  if !s.on F.LTX_STAT_ACTIVE || !Rest.awake s || s.passive || !carries s k || startsNone s k || s.get H.FRM_CF_DUE k == 0 then s
  else
  let s := s.put H.FRM_CF_DUE (s.get H.FRM_CF_DUE k - 1) k
  if s.leaf && s.on H.FRM_MGMT_DUE && mgmtSubcarrier s == some k then
    let r := Vlk.sendContainer (s.clr H.FRM_MGMT_DUE)
    putCf k { type := 2, flow := 0xFFF, payload := padTo 5984 r.1 } r.2
  else
    let l := (enabled s).filter (fun f => txEn (entry s f) && inSet s (entry s f) k)
    let s := s.eachOf l (accrue now)
    let s := s.eachOf (l.filter (fun f => resting s (entry s f))) (fun f t =>
      if decide (capacity (entry t f) ≤ (ingress t f).length) && !lock (entry t f) && !inputFailed t (entry t f) then hold f t else t)
    match pick s (l.filter (fun f => !resting s (entry s f))) with
    | some (f, spend) => sendCf f k spend s
    | none => putCf k { type := 3, flow := 0xFFF, payload := Cry.zeros 5984 } s

/-! ### Commands (R195 to R197) -/

/-- Entries a and b of one client meet (Table FLW-2, OVERLAP). -/
def overlap (a b : Entry) : Bool :=
  cli a == cli b && cli a != 63 &&
  (trib a == 0 || trib b == 0 ||
   (trib a == 1 && trib b == 1 && decide (sel a < sel b + nts b) && decide (sel b < sel a + nts a)) ||
   (trib a == 2 && trib b == 2 && sel a == sel b))

/-- SEL and NTS are in the range TRIB gives them (Table FLW-1). -/
def placeOk (e : Entry) : Bool :=
  match trib e with
  | 0 => sel e == 0 && nts e == 0
  | 1 => decide (1 ≤ nts e) && decide (sel e + nts e ≤ 640)
  | 2 => decide (1 ≤ sel e) && decide (sel e ≤ 4094) && nts e == 0
  | _ => false

/-- The SET check (Table FLW-2, R191, R386); a leaf ignores the fields. -/
def setOk (s : State) (e : Entry) : Bool :=
  s.leaf ||
  (decide (scLo e ≤ scHi e) && decide (scHi e < Ltx.subcarriers s) &&
   (!s.on F.VLK_CTRL_EN ||
    match (Scm.groups (Ltx.subcarriers s) (fun k => s.get H.LTX_ACTIVE k)).find? (fun g =>
        decide (g.1 ≤ scLo e) && decide (scLo e < g.2)) with
    | some g => decide (scHi e < g.2) && s.get F.VLK_LEAF_STATE (leafOf e) != 0 && s.get F.VLK_LEAF_BEACON (leafOf e) == g.1
    | none => false))

/-- The fields of Table FLW-3 that an enabled flow does not change. -/
def fixed (e : Entry) : List Nat := [cli e, trib e, sel e, nts e, lflow e, ctx e, b01 (ciphEn e), buf e, leafOf e]

/-- The store of a staged entry can be reserved; one the flow already holds stays. -/
def storeOk (s : State) (e old : Entry) : Bool :=
  if en old && buf old == buf e then
    buf e == 1 || decide (Qdm.committed (s.get H.QDM_COMMITTED + rate e - rate old) ≤ Qdm.limit s) || decide (rate e ≤ rate old)
  else Qdm.canReserve s (buf e) (rate e)

/-- The checks of Table FLW-2 in order; 0 where all pass. -/
def check (s : State) (f : Nat) (e : Entry) : Nat :=
  let old := entry s f
  let others := (enabled s).filter (fun g => g != f)
  let typ := Hsl.typeOf s (cli e)
  if s.leaf && decide (63 < f) then 1
  else if !placeOk e || decide (3071 < pmi e) || decide (3071 < ctx e) || (rate e == 0 && txEn e) then 2
  else if (31 < cli e ∧ cli e ≠ 63) ∨ (cli e < 32 ∧ Hsl.defined typ ∧ !suits (trib e) typ) then 3
  else if en e && others.any (fun g => overlap e (entry s g)) then 4
  else if (!s.leaf && lflow e != f) || (s.leaf && en e && others.any (fun g => lflow (entry s g) == lflow e)) then 5
  else if en e && others.any (fun g => ciphEn (entry s g) && ctx (entry s g) == ctx e) then 6
  else if !setOk s e then 7
  else if en e && !storeOk s e old then 8
  else if en old && fixed e != fixed old then 9
  else 0

def busy (s : State) : Bool := s.on F.FLW_CMD_STAT_BUSY

/-- A command is refused with a code (R195). -/
def refuse (code : Nat) (s : State) : State := (s.put F.FLW_CMD_STAT_ERR_CODE code).set F.FLW_INT_CAUSE_CMD_ERR

/-- A command completes (R195). -/
def complete (s : State) : State := ((s.clr F.FLW_CMD_STAT_BUSY).clr F.FLW_CMD_STAT_ERR_CODE).set F.FLW_INT_CAUSE_CMD_DONE

/-- FLOW_READ (R195). -/
def read (f : Nat) (s : State) : State :=
  if 3071 < f then refuse 2 s
  else complete (s.each 5 (fun w t => t.put F.FLW_STAGE_DATA (t.get F.FLW_FT_DATA f w) w))

/-- A WRITE (op 1) or REMOVE (op 2) is accepted: it takes effect at FLOW_CMD_APPLY. -/
def accept (f op : Nat) (s : State) : State := ((s.set F.FLW_CMD_STAT_BUSY).put H.FLW_OP op).put H.FLW_OP_FLOW f

/-- FLOW_WRITE (R195, Table FLW-2). -/
def write (f : Nat) (s : State) : State :=
  if 3071 < f then refuse 2 s
  else
    let c := check s f (staged s)
    if c = 0 then accept f 1 s
    else if c = 1 then (refuse 1 s).set F.SYS_INT_CAUSE_ROLE_LIMIT
    else refuse c s

/-- FLOW_REMOVE (R195). -/
def remove (f : Nat) (s : State) : State := if 3071 < f then refuse 2 s else accept f 2 s

/-- A command meets one under way (R195): ERR_CODE 10. -/
def unlessBusy (g : State → State) (s : State) : State := if busy s then s.put F.FLW_CMD_STAT_ERR_CODE 10 else g s

/-- A command of a flow number and an operation. -/
def command (f op : Nat) (s : State) : State :=
  unlessBusy (fun t => match op with
    | 1 => write f t
    | 2 => remove f t
    | _ => read f t) s

/-- A write of FLW.CMD. -/
def writeCmd (v : Nat) (s : State) : State :=
  unlessBusy (fun t =>
    let t := (t.put F.FLW_CMD_FLOW (slice v 0 12)).put F.FLW_CMD_OP (slice v 12 2)
    if v.testBit 31 then command (slice v 0 12) (slice v 12 2) t else t) s

/-- A write of FLW.STAGE[w]. -/
def writeStage (w v : Nat) (s : State) : State := unlessBusy (fun t => t.put F.FLW_STAGE_DATA v w) s

/-- Everything buffered of flow f is discarded and its store freed (R197, Table FLW-4). -/
def stop (f : Nat) (s : State) : State :=
  let e := entry s f
  let s := s.eachOf (Store.get [] s.frm.slip f) (fun x t => if x.frame.type = 0 then Qdm.free f x.port t else t)
  let s := { s with frm := { s.frm with slip := Store.put [] s.frm.slip f [], held := Store.put [] s.frm.held f [],
                                        ready := Store.put [] s.frm.ready f [] } }
  let s := s.eachOf (heldOf s f) (fun x t => sleepDrop (leafOf e) (sleepFree x.port t))
  let s := setSleep (leafOf e) ((sleepQueue s (leafOf e)).filter (fun x => x.flow != f)) s
  let s := { s with flw := { s.flw with part := Store.put [] s.flw.part f [] } }
  let s := Qdm.unreserve (buf e) (rate e) (setErrored f [] (setIngress f [] s))
  let s := [H.FLW_TX_SEQ, H.FLW_TOK, H.FLW_LOST, H.FLW_ERR_NEXT, H.FRM_RA_RUN, H.FRM_EG_JUST, H.FRM_LAST_TYPE, H.FRM_WIN_ON,
            H.FRM_WIN_SEQ, H.QDM_HELD, H.FRM_SEEN_FLOW, F.FRM_RA_STAT_JUST, F.FRM_RA_STAT_FILL, F.FRM_DEF_FLOW_DEF].foldl
              (fun t x => t.clr x f) s
  let s := s.each 12 (fun d t => (t.clr H.FRM_SETC_FLOW f d).clr H.FRM_CLRC_FLOW f d)
  let s := if ciphEn e then s.clr H.FLW_CTX_FLOW (ctx e) else s
  if rxEn e && decide (cli e < 32) && Hsl.enabled s (cli e) &&
      !(enabled s).any (fun g => g != f && rxEn (entry s g) && cli (entry s g) == cli e) then
    Hsl.replace (cli e) s
  else s

/-- A flow is added (R197) at time `now`: SEQ 0, no tokens, which grow from here; the mode its RA_CFG gives; its store is reserved. -/
def start (f : Nat) (e : Entry) (now : Nat) (s : State) : State :=
  let s := Qdm.reserve (buf e) (rate e) ((s.put H.FLW_PMI (pmi e) f).put H.FLW_TOK_T now f)
  let s := s.put F.FRM_RA_STAT_JUST (b01 (s.get F.FRM_RA_CFG_MODE f == 1)) f
  if ciphEn e then (Cry.addFlow (ctx e) s).put H.FLW_CTX_FLOW (f + 1) (ctx e) else s

/-- Entry f becomes the words of e. -/
def store (f : Nat) (e : Entry) (s : State) : State := s.eachOf e.zipIdx (fun x t => t.put F.FLW_FT_DATA x.1 f x.2)

/-- Entry f is replaced at time `now`; a new RATE counts from then on, the tokens held stay (R196). -/
def replace (f : Nat) (e : Entry) (now : Nat) (s : State) : State :=
  let old := entry s f
  if en old && en e then
    let s := accrue now f s
    let s := if buf e = 1 then s
      else Qdm.refresh (s.put H.QDM_COMMITTED (s.get H.QDM_COMMITTED + rate e - rate old))
    store f e s
  else
    let s := if en old then stop f s else s
    let s := if en e then start f e now s else s
    store f e s

/-- FLOW_CMD_APPLY (R195, R196, R197) at time `now` (ns): the command under way takes effect before the next CF. -/
def apply (now : Nat) (s : State) : State :=
  if !busy s then s
  else
    let f := s.get H.FLW_OP_FLOW
    if s.get H.FLW_OP = 1 then complete (replace f (staged s) now s)
    else if en (entry s f) then complete (store f [0, 0, 0, 0, 0] (stop f s))
    else complete s

/-- A write of FRM.RA_CFG[f] (R170): the mode starts again. -/
def writeRaCfg (f v : Nat) (s : State) : State :=
  let s := (s.put F.FRM_RA_CFG_MODE (slice v 0 2) f).put F.FRM_RA_CFG_IDLE_WIN (slice v 2 12) f
  (s.put F.FRM_RA_STAT_JUST (b01 (slice v 0 2 == 1)) f).clr H.FRM_RA_RUN f

/-- R196: a changed PMI takes effect at the one-second tick. -/
def latchPmi (s : State) : State :=
  s.eachOf (enabled s) (fun f t => t.put H.FLW_PMI (pmi (entry t f)) f)

/-! ### What a failed QDR port does to the stores (R204) -/

/-- The DATA CFs of port p are delivered marked errored; the held ones are dropped. -/
def portFail (p : Nat) (s : State) : State :=
  if !Qdm.failing s p then s
  else
    let s := { s with frm := { s.frm with slip := s.frm.slip.map (fun (x : Nat × List Stored) => (x.1, x.2.map (fun (y : Stored) =>
      if y.port = p then { y with frame := { y.frame with err := true } } else y))) } }
    let s := s.each 512 (fun l t =>
      let lost := (sleepQueue t l).filter (fun x => x.port == p)
      setSleep l ((sleepQueue t l).filter (fun x => x.port != p)) (t.eachOf lost (fun (x : Stored) u => sleepDrop l (sleepFree x.port u))))
    Qdm.refresh (((s.clrBit F.QDM_STAT_IN_USE p).setBit F.QDM_STAT_PORT_FAIL p).set F.QDM_INT_CAUSE_PORT_FAIL)

/-- QDR_PARITY_ERROR (R204): the CF that the word belongs to, the head DATA CF of flow f, is passed marked errored. -/
def parityError (p addr f : Nat) (s : State) : State :=
  let mark := fun (l : List Stored) => match l with
    | x :: rest => { x with frame := { x.frame with err := true } } :: rest
    | [] => []
  Qdm.dataError p addr { s with frm := { s.frm with slip := Store.put [] s.frm.slip f (mark (Store.get [] s.frm.slip f)) } }

end Sys2Proof.Machine.Flw
end

