-- ==== Sys2Proof/Machine/FrmDef.lean ====
section
/-! DEFINITION. Sys2Proof/Machine/FrmDef.lean: defects: raw conditions, suppression, integration, consequent actions, bad seconds
(spec/07_framing_and_overhead.md, R159 to R167). -/
namespace Sys2Proof.Machine.Frm
open Sys2Proof Sys2Proof.Machine

/-- A hub on a tree (R386): the judgement in force. -/
def onTree (s : State) : Bool := !s.leaf && s.on H.VLK_TREE

/-- A mask from its bits. -/
def mask (l : List (Nat × Bool)) : Nat := l.foldl (fun a x => if x.2 then a + 2 ^ x.1 else a) 0

def inFrame (s : State) : Bool := s.get F.FRM_ALIGN_STAT_STATE == 2

/-- Raw dTIM of the line (R165). -/
def rawTim (s : State) : Bool :=
  let differ := fun (j : Nat) => s.get F.FRM_TTI_RX_DATA j != s.get F.FRM_TTI_EXP_DATA j
  s.on H.FRM_TTI_ACC &&
  ((s.on F.FRM_TIM_CFG_SAPI && (List.range 4).any differ) || (s.on F.FRM_TIM_CFG_DAPI && (List.range 4).any (fun j => differ (4 + j))))

/-- Raw conditions of the line (Table FRM-6). On a tree the hub searches no frame (R153). -/
def rawLine (s : State) : Nat :=
  let los := s.on F.LRX_STAT_LOS
  if onTree s then mask [(0, los)]
  else mask [(0, los), (1, s.on F.FRM_CTRL_RX_EN && !inFrame s), (2, inFrame s && !s.on F.FRM_ALIGN_STAT_IN_MF),
             (4, s.on H.FRM_BDI_LINE), (7, rawTim s)]

/-- The leaves whose frames upstream subcarrier k carries: the one its DATA entry names, or the ACTIVE ones with grants on it. -/
def upLeaves (s : State) (k : Nat) : List Nat :=
  let e := s.get H.LRX_ACTIVE k
  if e % 8 = 1 then [slice e 22 9]
  else if e % 8 = 3 then (Scm.grantHolders s k).filter (fun l => s.get F.VLK_LEAF_STATE l == 2)
  else []

/-- Raw conditions of the frames of leaf l on upstream subcarrier k. -/
def rawStream (s : State) (k l : Nat) : Nat :=
  let oof := s.on H.FRM_UP_OOF k l
  mask [(0, Brx.isGone s k l), (1, oof), (2, !oof && s.on H.FRM_UP_OOM k l)]

/-- Raw conditions of subcarrier k; one that is NULL carries no frames and has none. -/
def rawSc (s : State) (k : Nat) : Nat :=
  let own := mask [(4, s.on H.FRM_BDI_SC k), (8, s.on H.FRM_DEG_RAW k)]
  if s.get H.LRX_ACTIVE k % 8 = 0 then 0
  else if onTree s then
    (upLeaves s k).foldl (fun a l => a ||| rawStream s k l) (own ||| mask [(7, s.on H.FRM_LEAF_BAD k)])
  else own

/-- The raw conditions of the entities that carry a flow (R159): the line, or on a tree the upstream streams of its leaf. -/
def carrier (s : State) (e : Flw.Entry) : Nat :=
  if onTree s then
    let l := Flw.leafOf e
    ((List.range (Lrx.subcarriers s)).filter (fun k => (upLeaves s k).contains l)).foldl
      (fun a k => a ||| rawStream s k l ||| mask [(7, s.on H.FRM_LEAF_BAD k)]) 0
  else rawLine s

/-- Raw conditions of flow f. -/
def rawFlow (s : State) (f : Nat) : Nat :=
  let e := Flw.entry s f
  if Flw.en e && Flw.rxEn e then
    let t := s.get H.FRM_LAST_TYPE f
    (carrier s e % 8) ||| mask [(3, t == 4), (5, t == 5), (6, t == 6)]
  else 0

def rawLane (s : State) (n : Nat) : Nat := mask [(9, Hsl.rawLol s n), (11, Hsl.rawLofLane s n)]

/-- Raw conditions of client c (R171, R172). -/
def rawCli (s : State) (c : Nat) : Nat :=
  let otu := if Hsl.enabled s c && Hsl.isFlexo (Hsl.typeOf s c) then s.get H.FRM_CLI_RAW c &&& 0xFE else 0
  otu ||| mask [(8, s.on H.FRM_DEG_RAW (512 + c)), (10, Hsl.rawLoa s c)]

/-- The defects that suppress defect d (R162), highest first: dLOS; dLOF; dLOM; dAIS, dLCK, dOCI; dTIM; dBDI, dDEG. -/
def above (d : Nat) : Nat :=
  match d with
  | 1 => 0x01
  | 2 => 0x03
  | 3 => 0x07
  | 5 => 0x07
  | 6 => 0x07
  | 7 => 0x6F
  | 4 => 0xEF
  | 8 => 0xEF
  | _ => 0

/-- What of a raw mask is not suppressed (R162): by the entity itself or by what carries it. -/
def unsuppressed (raw carried : Nat) : Nat := mask ((List.range 12).map (fun d => (d, raw.testBit d && ((raw ||| carried) &&& above d) == 0)))

/-- The raw conditions that count, entity by entity. dLOL suppresses dLOFLANE; either suppresses dLOA of a client that uses the lane. -/
def effLine (s : State) : Nat := unsuppressed (rawLine s) 0
def effSc (s : State) (k : Nat) : Nat := unsuppressed (rawSc s k) (rawLine s)
def effFlow (s : State) (f : Nat) : Nat := unsuppressed (rawFlow s f) (carrier s (Flw.entry s f))
def effLane (s : State) (n : Nat) : Nat :=
  let r := rawLane s n
  if r.testBit 9 then r &&& 0x200 else r
def effCli (s : State) (c : Nat) : Nat :=
  let r := unsuppressed (rawCli s c) 0
  if (Hsl.lanes s c).any (fun n => rawLane s n != 0) then withoutBit r 10 else r

/-- The subcarriers in use: transmitted or received as anything but NULL. -/
def subcarriersInUse (s : State) : List Nat :=
  (List.range (Lrx.subcarriers s)).filter (fun k => s.get H.LRX_ACTIVE k % 8 != 0)

def clients (s : State) : List Nat := (List.range 32).filter (Hsl.enabled s)

/-- The bits of v are added to entry i of a field of remembered conditions. -/
def remember (f : Field) (v i : Nat) (s : State) : State := if v = 0 then s else s.put f (s.get f i ||| v) i

/-- dLOS, dLOF and dLOM that make a second of subcarrier k bad (R164): its own, or off a tree those of the line that carries it. -/
def lossOf (s : State) (k : Nat) : Nat := (rawSc s k ||| (if onTree s then 0 else rawLine s)) &&& 7

/-- The conditions of this moment are remembered for the tick and for the second (R160, R167). -/
def note (s : State) : State :=
  let s := remember H.FRM_SEEN_LINE (effLine s) 0 s
  let s := s.eachOf (subcarriersInUse s) (fun k t =>
    let v := effSc t k
    let t := remember H.FRM_SEC_SC (lossOf t k) k (remember H.FRM_SEEN_SC v k t)
    if v = 0 then t else t.put H.FRM_LIVE_SC (t.get H.FRM_LIVE_SC k 6 ||| v) k 6)
  let s := s.eachOf (Flw.enabled s) (fun f t =>
    let v := effFlow t f
    let i := t.get H.FLW_PMI f
    let t := remember H.FRM_SEEN_FLOW v f t
    if v = 0 then t else t.put H.FRM_LIVE_F (t.get H.FRM_LIVE_F i 7 ||| v) i 7)
  let s := s.each 32 (fun n t => remember H.FRM_SEEN_LANE (effLane t n) n t)
  s.eachOf (clients s) (fun c t => remember H.FRM_SEC_CLI (rawCli t c) c (remember H.FRM_SEEN_CLI (effCli t c) c t))

/-! ### Integration (R160) -/

def setTicks (s : State) (d : Nat) : Nat := min 1000 (s.get F.FRM_DEF_CFG_SET d)
def clrTicks (s : State) (d : Nat) : Nat := min 1000 (s.get F.FRM_DEF_CFG_CLR d)

/-- The fields of one kind of entity: raw conditions seen, set and clear counts, declared defects. -/
structure Kind where
  seen : Field
  setc : Field
  clrc : Field
  declared : Field

def kinds : List Kind :=
  [⟨H.FRM_SEEN_LINE, H.FRM_SETC_LINE, H.FRM_CLRC_LINE, F.FRM_DEF_LINE_DEF⟩,
   ⟨H.FRM_SEEN_SC, H.FRM_SETC_SC, H.FRM_CLRC_SC, F.FRM_DEF_SC_DEF⟩,
   ⟨H.FRM_SEEN_FLOW, H.FRM_SETC_FLOW, H.FRM_CLRC_FLOW, F.FRM_DEF_FLOW_DEF⟩,
   ⟨H.FRM_SEEN_LANE, H.FRM_SETC_LANE, H.FRM_CLRC_LANE, F.FRM_DEF_LANE_DEF⟩,
   ⟨H.FRM_SEEN_CLI, H.FRM_SETC_CLI, H.FRM_CLRC_CLI, F.FRM_DEF_CLI_DEF⟩]

def kind (n : Nat) : Kind := kinds.getD n ⟨H.FRM_SEEN_LINE, H.FRM_SETC_LINE, H.FRM_CLRC_LINE, F.FRM_DEF_LINE_DEF⟩

/-- The present conditions of entity i of a kind. -/
def present (s : State) (n i : Nat) : Nat :=
  match n with
  | 0 => effLine s
  | 1 => effSc s i
  | 2 => effFlow s i
  | 3 => effLane s i
  | _ => effCli s i

def changed (s : State) : State := s.set F.FRM_INT_CAUSE_DEF_CHG

/-- Defect d of entity i of kind x is declared where its set count has reached SET; SET = 0 declares at the raw onset itself. -/
def declare (x : Nat) (i d raw : Nat) (s : State) : State :=
  let n := setTicks s d
  let due := if n = 0 then raw.testBit d else decide (n ≤ s.get (kind x).setc i d)
  if due && !s.bit (kind x).declared d i then changed (s.setBit (kind x).declared d i) else s

/-- It is cleared where its clear count has reached CLR; CLR = 0 clears at the raw end itself. -/
def clear (x : Nat) (i d raw : Nat) (s : State) : State :=
  let n := clrTicks s d
  let due := if n = 0 then !raw.testBit d else decide (n ≤ s.get (kind x).clrc i d)
  if due && s.bit (kind x).declared d i then changed (s.clrBit (kind x).declared d i) else s

/-- One tick of every defect of entity i (R160). The clear count of a defect that is not declared is not observable and stays 0. -/
def integrateEntity (x : Nat) (i : Nat) (s : State) : State :=
  let seen := s.get (kind x).seen i
  let s := s.clr (kind x).seen i
  s.each 12 (fun d t =>
    if seen.testBit d then clear x i d seen (declare x i d seen ((t.count (kind x).setc 1 i d).clr (kind x).clrc i d))
    else
      let t := t.clr (kind x).setc i d
      let t := if t.bit (kind x).declared d i then t.count (kind x).clrc 1 i d else t
      clear x i d seen t)

/-- Subcarriers that have something to integrate: those in use, and those out of use whose defects or counts have not ended. -/
def integrated (s : State) : List Nat :=
  let pending := fun (f : Field) => (s.csr.filter (fun e => decide (f.range.1 ≤ e.1) && decide (e.1 < f.range.2))).map (fun e =>
    (e.1 - f.range.1) / 8 / f.shape.d1)
  ((List.range 512).filter (fun k => s.get H.LRX_ACTIVE k % 8 != 0 && decide (k < Lrx.subcarriers s))) ++
    ((pending F.FRM_DEF_SC_DEF ++ pending H.FRM_SETC_SC).eraseDups.filter (fun k =>
      s.get H.LRX_ACTIVE k % 8 == 0 || decide (Lrx.subcarriers s ≤ k)))

/-! ### OTUCn clients (R171) -/

/-- A TTI as 16 words. -/
def ttiWords (tti : List Nat) : List Nat := (List.range 16).map (fun j => (List.range 4).foldl (fun a i => a + tti.getD (4 * j + i) 0 % 256 * 256 ^ i) 0)

/-- A multiframe's TTI of client c: the same one in 3 multiframes in a row is accepted (R165). -/
def cliTti (c : Nat) (tti : List Nat) (s : State) : State :=
  let w := ttiWords tti
  let same := (List.range 16).all (fun j => s.get H.FRM_CLI_TTI c j == w.getD j 0)
  let run := if same ∧ s.get H.FRM_CLI_RUN c ≠ 0 then min 3 (s.get H.FRM_CLI_RUN c + 1) else 1
  let s := (s.each 16 (fun j t => t.put H.FRM_CLI_TTI (w.getD j 0) c j)).put H.FRM_CLI_RUN run c
  if run = 3 then (s.each 16 (fun j t => t.put H.FRM_CLI_RX (w.getD j 0) c j)).set H.FRM_CLI_ACC c else s

/-- Raw dTIM of client c (R165, Table FRM-9). -/
def cliTim (s : State) (c : Nat) : Bool :=
  let differ := fun (j : Nat) => s.get H.FRM_CLI_RX c j != s.get F.FRM_TTI_EXP_DATA j
  s.on H.FRM_CLI_ACC c &&
  ((s.on F.FRM_TIM_CFG_SAPI && (List.range 4).any differ) || (s.on F.FRM_TIM_CFG_DAPI && (List.range 4).any (fun j => differ (4 + j))))

/-- STAT of an ODUCn PM: AIS, LCK and OCI (notes/assumptions/90.md, PRESUMED of ITU-T G.709). -/
def statAis : Nat := 7
def statLck : Nat := 5
def statOci : Nat := 6

/-- A multiframe of FlexO client c is terminated (R171, Table FRM-6): its raw conditions, and its BIP and BEI (R167). What a frame that is not
aligned carries is not read. -/
def otuFrames (c : Nat) (x : OtuFrames) (s : State) : State :=
  if !(decide (c < 32) && Hsl.enabled s c && Hsl.isFlexo (Hsl.typeOf s c)) then s
  else
    let read := x.aligned && x.multi
    let s := if read then cliTti c x.tti s else s
    let s := s.put H.FRM_CLI_RAW (mask [(1, !x.aligned), (2, x.aligned && !x.multi), (3, read && x.stat == statAis), (4, read && x.bdi),
      (5, read && x.stat == statLck), (6, read && x.stat == statOci), (7, read && cliTim s c)]) c
    let s := if read then [x.smBip, x.smBei, x.pmBip, x.pmBei].zipIdx.foldl (fun t e => t.count H.FRM_LIVE_CLI e.1 c e.2) s else s
    note s

/-- DEFECT_INTEGRATE (R160): one tick of every instance. `otu` gives the OTUCn multiframes that came in the tick, each with its client; `ties` the
events that tied with the tick's edge (R161). -/
def integrate (otu : List (Nat × OtuFrames)) (ties : Nat) (s : State) : State :=
  let s := note (s.eachOf otu (fun x t => otuFrames x.1 x.2 t))
  let s := integrateEntity 0 0 (s.count F.FRM_BOUNDARY_TIES_COUNT ties)
  let s := s.eachOf (integrated s) (integrateEntity 1)
  let s := s.eachOf (Flw.enabled s) (integrateEntity 2)
  let s := s.each 32 (integrateEntity 3)
  let s := s.each 32 (integrateEntity 4)
  note s

/-- DEFECT_DECLARE and DEFECT_CLEAR (R160) of defect d of entity i of kind n: 0 line, 1 subcarrier, 2 flow, 3 lane, 4 client. -/
def declareOne (n i d : Nat) (s : State) : State :=
  let s := note s
  if n < 5 ∧ d < 12 then declare n i d (present s n i) s else s

def clearOne (n i d : Nat) (s : State) : State :=
  let raw := present s n i
  if n < 5 ∧ d < 12 then clear n i d raw s else s

/-- Every element of a two-index array with second index d returns to 0. -/
def clearColumn (f : Field) (d : Nat) (s : State) : State := s.each f.shape.n1 (fun i t => t.clr f i d)

/-- DEF_CFG_WRITE (R160): the counters of every instance of d are reset; declared states stay. -/
def writeDefCfg (d v : Nat) (s : State) : State :=
  let s := (s.put F.FRM_DEF_CFG_SET (slice v 0 10) d).put F.FRM_DEF_CFG_CLR (slice v 16 10) d
  s.each 5 (fun n t => clearColumn (kind n).clrc d (clearColumn (kind n).setc d t))

/-! ### Consequent actions (R163) -/

/-- The raw conditions that make what an entity carries invalid: dLOS, dLOF, dLOM, and dTIM where TIM_ACT is 1. -/
def invalidating (s : State) : Nat := if s.on F.FRM_CTRL_TIM_ACT then 0x87 else 0x07

/-- Flow f is valid for its client: no line-level condition, no dAIS, dLCK, dOCI, and no receive or upstream safe output (R163, R20). The upstream
safe output invalidates the continuous upstream flows: those of a hub on a tree, each of which a leaf feeds from upstream subcarriers that BRX
does not receive as bursts, DATA or SLOT; a point-to-point hub has none (notes/assumptions/82.md, DESIGN CHOICE: the spec does not say which
flows these are on SLOT or point to point). -/
def flowValid (s : State) (f : Nat) : Bool :=
  (carrier s (Flw.entry s f) &&& invalidating s) == 0 && (rawFlow s f &&& 0x68) == 0 && !s.on F.PWR_SAFE_STAT_RX_SAFE &&
  !(onTree s && s.on F.PWR_SAFE_STAT_UP_SAFE)

/-- BDI sent on the line (R146). -/
def bdi (s : State) : Bool :=
  s.on F.FRM_CTRL_BDI_FORCE || (!onTree s && (rawLine s &&& invalidating s) != 0)

/-! ### The second (R164, R167) -/

/-- A second of subcarrier k or client c (512 + c) was bad, or was not. -/
def judgeSecond (i : Nat) (bad : Bool) (s : State) : State :=
  if bad then (s.put H.FRM_DEG_BAD (min 10 (s.get H.FRM_DEG_BAD i + 1)) i).clr H.FRM_DEG_GOOD i
  else (s.put H.FRM_DEG_GOOD (min 10 (s.get H.FRM_DEG_GOOD i + 1)) i).clr H.FRM_DEG_BAD i

def degM (s : State) : Nat := max 2 (min 10 (s.get F.FRM_DEG_CFG_M))

/-- BAD_SECOND (R164), from the counters just latched and the conditions that were raw-present in the second. -/
def badSeconds (s : State) : State :=
  let thr := max 1 (s.get F.FRM_DEG_CFG_THR)
  let s := s.eachOf (subcarriersInUse s) (fun k t =>
    judgeSecond k (decide (thr ≤ t.get F.FRM_SC_PM_COUNT k 0) || t.on H.FRM_SEC_SC k) t)
  let s := s.eachOf (clients s) (fun c t =>
    judgeSecond (512 + c) (decide (thr ≤ t.get F.FRM_CLI_PM_COUNT c 0) || (t.get H.FRM_SEC_CLI c &&& 7) != 0) t)
  (s.wipe H.FRM_SEC_SC).wipe H.FRM_SEC_CLI

/-- DEG_ONSET (R164): M consecutive bad seconds start raw dDEG, M that are not bad end it. -/
def degOnset (i : Nat) (s : State) : State :=
  if degM s ≤ s.get H.FRM_DEG_BAD i then note (s.set H.FRM_DEG_RAW i)
  else if degM s ≤ s.get H.FRM_DEG_GOOD i then s.clr H.FRM_DEG_RAW i
  else s

/-- The entries of an array of live counters move to the array of latched ones, which has the same layout; the live ones are 0. -/
def moveArray (live latched : Field) (n : Nat) (s : State) : State :=
  let moved := s.csr.filter (fun e => decide (live.range.1 ≤ e.1) && decide (e.1 < live.range.2))
  ((s.wipe live).wipe latched).eachOf moved (fun e t =>
    let off := (e.1 - live.range.1) / 8
    if off % live.shape.d1 / 4 < n then t.put latched e.2 (off / live.shape.d1) (off % live.shape.d1 / 4) else t)

/-- PM_LATCH (R167, R161); `ties` are the events that tied with the edge. -/
def latch (ties : Nat) (s : State) : State :=
  let s := moveArray H.FRM_LIVE_F F.FRM_FPM_COUNT 8 (moveArray H.FRM_LIVE_SC F.FRM_SC_PM_COUNT 7 s)
  let s := moveArray H.FRM_LIVE_CLI F.FRM_CLI_PM_COUNT 4 s
  let s := (s.countWrap F.FRM_PM_STAT_SEQ).set F.FRM_INT_CAUSE_PM_LATCH
  note (badSeconds (s.count F.FRM_BOUNDARY_TIES_COUNT ties))

end Sys2Proof.Machine.Frm
end

