-- ==== Sys2Proof/Machine/FrmRx.lean ====
section
/-! DEFINITION. Sys2Proof/Machine/FrmRx.lean: received frames: alignment, the overhead word, container frames and the egress slip
buffers (spec/07_framing_and_overhead.md, R143 to R158, R165, R166, R168, R169; R83). -/
namespace Sys2Proof.Machine.Frm
open Sys2Proof Sys2Proof.Machine

/-- Bit positions of a frame on one polarisation (R154). -/
def frameLen : Nat := 32640

/-- The CRC-12 of an overhead word (Table FRM-2). -/
def crc12 (word : Nat) : Nat := crc 12 0x80F 0xFFF (bitsOf 76 (word / 4096))

/-- The word is not a failed word (R143). -/
def wordOk (word : Nat) : Bool := crc12 word == word % 4096

def wordFn (word : Nat) : Nat := slice word 80 8
def wordVer (word d : Nat) : Nat := slice word (if d = 0 then 72 else 64) 8

/-! ### Frame alignment (R153 to R157) -/

/-- The subcarrier searched (R153). -/
def searched (s : State) : Nat := if s.leaf then s.get F.LRX_RXGRP_K_LO else s.get F.FRM_ALIGN_CFG_ALIGN_SC

def showCands (s : State) : State := s.put F.FRM_ALIGN_STAT_CAND s.frm.cands.length

def setCands (l rivals : List Cand) (s : State) : State := showCands { s with frm := { s.frm with cands := l, rivals := rivals } }

/-- A search begins: bit positions count from here (R155). -/
def search (s : State) : State :=
  let s := (((s.put F.FRM_ALIGN_STAT_STATE 1).clr F.FRM_ALIGN_STAT_IN_MF).clr F.FRM_ALIGN_STAT_MFN_VALID).clr F.FRM_SSM_RX_VALID
  let s := (((s.clr H.FRM_FAW_MISS).clr H.FRM_FN_MISS).clr H.FRM_FN_RUN).clr H.FRM_SSM_RUN
  setCands [] [] ((((s.clr H.FRM_TTI_GOT).clr H.FRM_TTI_RUN).clr H.FRM_AMBIG).wipe H.FRM_BIP_AT)

/-- RX_EN (R153). -/
def rxEnable (s : State) : State :=
  if s.on F.FRM_CTRL_RX_EN then s
  else if onTree s then s.set F.FRM_CTRL_RX_EN
  else if !s.leaf && s.get H.LRX_ACTIVE (s.get F.FRM_ALIGN_CFG_ALIGN_SC) % 8 != 1 then s.set F.FRM_INT_CAUSE_CFG_ERR
  else note (search (s.set F.FRM_CTRL_RX_EN))

/-- RX_EN written 0: no frame is searched or held. -/
def rxDisable (s : State) : State :=
  if s.on F.FRM_CTRL_RX_EN then (search (s.clr F.FRM_CTRL_RX_EN)).put F.FRM_ALIGN_STAT_STATE 0 else s

/-- Count in word w of the flow's performance counters (Table FRM-7, R167). -/
def countFlow (f w n : Nat) (s : State) : State := s.count H.FRM_LIVE_F n (s.get H.FLW_PMI f) w

/-- Frames in the receive path, changed one by one. -/
def mapFrames (g : Cf → Cf) (s : State) : State :=
  let cfs := fun (l : Store (List Cf)) => l.map (fun (x : Nat × List Cf) => (x.1, x.2.map g))
  { s with frm := { s.frm with held := cfs s.frm.held, ready := cfs s.frm.ready,
                               slip := s.frm.slip.map (fun (x : Nat × List Stored) =>
                                 (x.1, x.2.map (fun (y : Stored) => { y with frame := g y.frame }))) } }

/-- The flows whose frames in the receive path are suspect on a stream, one entry for each frame that is not yet errored. -/
def suspects (s : State) (id : Nat) : List Nat :=
  let is := fun (x : Cf) => x.suspect == id && !x.err
  let of := fun (l : Store (List Cf)) => l.flatMap (fun (x : Nat × List Cf) => (x.2.filter is).map (fun _ => x.1))
  of s.frm.held ++ of s.frm.ready ++
    s.frm.slip.flatMap (fun (x : Nat × List Stored) => (x.2.filter (fun (y : Stored) => is y.frame)).map (fun _ => x.1))

/-- A frame of a stream matched: what came before it is no longer suspect. -/
def cleared (id : Nat) (s : State) : State := mapFrames (fun x => if x.suspect = id then { x with suspect := 0 } else x) s

/-- Out-of-frame (R156): what the receive path still holds of the mismatched frames is invalid, and counts so (R152). -/
def invalidate (id : Nat) (s : State) : State :=
  mapFrames (fun x => if x.suspect = id then { x with suspect := 0, err := true } else x)
    (s.eachOf (suspects s id) (fun f t => countFlow f 1 1 t))

/-- A stream's number among the suspects: 1 is the searched one. -/
def streamId (s : State) (k l : Nat) : Nat := if onTree s then 2 + 512 * k + l else 1

/-- Out-of-frame (R156): OOF, and the search restarts; received data of the five frames that is still held is invalid. -/
def outOfFrame (s : State) : State := note (search (invalidate 1 (s.set F.FRM_INT_CAUSE_OOF)))

/-- RESEARCH (R153). -/
def research (s : State) : State := if s.get F.FRM_ALIGN_STAT_STATE = 0 then s else outOfFrame s

/-- FAW_HIT (R154): `errs` bits differ at bit position `pos` from the start of the search under rotation `rot`. -/
def fawHit (pos rot errs : Nat) (s : State) : State :=
  let held := s.frm.cands.any (fun c => c.pos % frameLen == pos % frameLen && c.rot == rot)
  if s.get F.FRM_ALIGN_STAT_STATE ≠ 1 ∨ 3 < rot ∨ s.get F.FRM_ALIGN_CFG_FAW_TOL < errs ∨ held then s
  else if 8 ≤ s.frm.cands.length then (s.count F.FRM_CAND_OVF_COUNT).set F.FRM_INT_CAUSE_CAND_OVF
  else setCands (s.frm.cands ++ [⟨pos, rot, 1, 0⟩]) s.frm.rivals s

/-- The judgement of a candidate from its next position (R155): the candidate after a match, or none where it is removed; the Bool says
that it has completed match 3. -/
def judgement (c : Cand) (hit : Bool) (word : Nat) : Option (Cand × Bool) :=
  if !hit || !wordOk word then none
  else if c.made = 1 then some (⟨c.pos + frameLen, c.rot, 2, wordFn word⟩, false)
  else if wordFn word = (c.fn + 1) % 256 then some (⟨c.pos + frameLen, c.rot, 3, wordFn word⟩, true)
  else none

/-- IN_FRAME (R155, R156, R157): candidate c is confirmed; the others can still contest it in the same window. -/
def inFrameAt (c : Cand) (rest : List Cand) (s : State) : State :=
  let s := setCands [] rest { s with frm := { s.frm with window := (c.pos + 128) / frameLen } }
  let s := (((s.put F.FRM_ALIGN_STAT_STATE 2).set F.FRM_ALIGN_STAT_IN_MF).put F.FRM_ALIGN_STAT_ROT_X c.rot).put H.FRM_RX_FN c.fn
  let s := ((s.put H.FRM_FN_LAST c.fn).put H.FRM_FN_RUN 2).set F.FRM_SSM_RX_VALID
  note (s.set F.FRM_INT_CAUSE_IN_FRAME)

/-- CANDIDATE_JUDGE (R155): the candidate whose next position is `pos` under `rot`: `errs` FAW bits differ there, and `word` is the
overhead word that follows. -/
def candidateJudge (pos rot errs word : Nat) (s : State) : State :=
  let is := fun (c : Cand) => c.pos + frameLen == pos && c.rot == rot
  let hit := decide (errs ≤ s.get F.FRM_ALIGN_CFG_FAW_TOL)
  match s.frm.cands.find? is with
  | some c =>
    let rest := s.frm.cands.filter (fun x => !is x)
    match judgement c hit word with
    | none => setCands rest s.frm.rivals s
    | some (c', true) => inFrameAt c' rest s
    | some (c', false) => setCands (s.frm.cands.map (fun x => if is x then c' else x)) s.frm.rivals s
  | none =>
    match s.frm.rivals.find? is with
    | none => s
    | some c =>
      let s := setCands s.frm.cands (s.frm.rivals.filter (fun x => !is x)) s
      match judgement c hit word with
      | some (c', true) =>
        if (c'.pos + 128) / frameLen = s.frm.window ∧ !s.on H.FRM_AMBIG then (s.count F.FRM_PATTERN_AMBIG_COUNT).set H.FRM_AMBIG else s
      | _ => s

/-- Received subcarrier k carries SLF frames under the one search of this role (R142, R153). -/
def framed (s : State) (k : Nat) : Bool :=
  let m := s.get H.LRX_ACTIVE k % 8
  !onTree s && Lrx.processed s k && (m == 1 || m == 2)

/-- FAW_CHECK (R156, R157): the FAW of a frame of subcarrier k in-frame; the frame of the searched one advances the counters. -/
def fawCheck (k errs rotY : Nat) (s : State) : State :=
  if !inFrame s || !framed s k then s
  else
    let s := s.count H.FRM_LIVE_SC errs k 3
    if k ≠ searched s then s
    else
      let fn := (s.get H.FRM_RX_FN + 1) % 256
      let s := s.put H.FRM_RX_FN fn
      let s := if fn = 0 ∧ s.on F.FRM_ALIGN_STAT_MFN_VALID then s.put H.FRM_RX_MFN (s.get H.FRM_RX_MFN + 1) else s
      let s := s.put F.FRM_ALIGN_STAT_ROT_Y rotY
      if s.get F.FRM_ALIGN_CFG_FAW_TOL < errs then s.put H.FRM_FAW_MISS (min 7 (s.get H.FRM_FAW_MISS + 1))
      else if s.on H.FRM_FAW_MISS then cleared 1 (s.clr H.FRM_FAW_MISS) else s

/-- OOF (R156). -/
def oof (s : State) : State := if inFrame s && decide (5 ≤ s.get H.FRM_FAW_MISS) then outOfFrame s else s

/-! ### The overhead word (R143 to R147, R157, R165, R166, R83) -/

/-- BIP-8 over the covered bits of a frame (R147): bit i is the parity of the bits at positions ≡ i modulo 8. -/
def bip (covered : List Bool) : Nat :=
  (List.range 8).foldl (fun a i => a + (covered.zipIdx.filter (fun x => x.1 && x.2 % 8 == i)).length % 2 * 2 ^ i) 0

/-- The stream that a frame of subcarrier k belongs to: on a tree that of leaf l. -/
def streamLeaf (s : State) (l : Nat) : Nat := if onTree s then l else 0

/-- The frame's number, as this end counts: on a tree as expected, else by the frame counter. -/
def frameNumber (s : State) (mfn fn : Nat) : Nat :=
  if onTree s then 256 * mfn + fn else 256 * s.get H.FRM_RX_MFN + s.get H.FRM_RX_FN

/-- The frame that the word's BIP covers is the stream's last one (R147): the frame before, on SLOT no more than one grant cycle before. -/
def comparable (s : State) (k l now : Nat) : Bool :=
  let at_ := s.get H.FRM_BIP_AT k (streamLeaf s l)
  let since := (now + 2 ^ 32 - (at_ - 1)) % 2 ^ 32
  at_ != 0 && (if onTree s && s.get H.LRX_ACTIVE k % 8 == 3 then decide (1 ≤ since) && decide (since ≤ 64) else since % 256 == 1)

/-- BIP_CHECK (R147): the parity of the covered bits of the stream's last frame, decoded and descrambled, against that of the word. -/
def bipCheck (k l word : Nat) (covered : List Bool) (now : Nat) (s : State) : State :=
  if !comparable s k l now then s
  else
    let v := popBits 8 (slice word 36 8 ^^^ bip covered)
    let s := s.count H.FRM_LIVE_SC v k 0
    let s := if v = 0 then s else s.count H.FRM_LIVE_SC 1 k 1
    s.count H.FRM_LIVE_SC 1 k 2

/-- The frame is now the stream's last one. -/
def stampFrame (k l now : Nat) (s : State) : State := s.put H.FRM_BIP_AT (now % 2 ^ 32 + 1) k (streamLeaf s l)

/-- FN and MFN of the searched stream (R157). -/
def countWord (word : Nat) (s : State) : State :=
  let fn := wordFn word
  let s := if s.on F.FRM_ALIGN_STAT_IN_MF then
      if fn = s.get H.FRM_RX_FN then s.clr H.FRM_FN_MISS else s.put H.FRM_FN_MISS (min 7 (s.get H.FRM_FN_MISS + 1))
    else s
  let run := if fn = (s.get H.FRM_FN_LAST + 1) % 256 ∧ s.get H.FRM_FN_RUN ≠ 0 then min 3 (s.get H.FRM_FN_RUN + 1) else 1
  let s := (s.put H.FRM_FN_RUN run).put H.FRM_FN_LAST fn
  if fn % 4 = 0 ∧ !s.on F.FRM_ALIGN_STAT_MFN_VALID then (s.put H.FRM_RX_MFN (slice word 12 24)).set F.FRM_ALIGN_STAT_MFN_VALID else s

/-- A byte of the received trail trace (Table FRM-3, R165): the run of multiframes with the same 64 bytes. -/
def traceByte (word : Nat) (s : State) : State :=
  let fn := wordFn word
  if fn % 4 ≠ 2 then s
  else
    let j := fn / 4
    let s := if 2 ^ j ≤ s.get H.FRM_TTI_GOT then (s.clr H.FRM_TTI_GOT).clr H.FRM_TTI_RUN else s
    let s := (s.put H.FRM_TTI_BUF (slice word 28 8) j).setBit H.FRM_TTI_GOT j
    if s.get H.FRM_TTI_GOT = 2 ^ 64 - 1 then
      let same := (List.range 64).all (fun i => s.get H.FRM_TTI_BUF i == s.get H.FRM_TTI_LAST i)
      let s := s.each 64 (fun i t => t.put H.FRM_TTI_LAST (t.get H.FRM_TTI_BUF i) i)
      (s.put H.FRM_TTI_RUN (if same ∧ s.get H.FRM_TTI_RUN ≠ 0 then min 3 (s.get H.FRM_TTI_RUN + 1) else 1)).clr H.FRM_TTI_GOT
    else s

/-- The run of words with the same SSM (R166). -/
def ssmWord (word : Nat) (s : State) : State :=
  let c := slice word 48 4
  let run := if c = s.get H.FRM_SSM_LAST ∧ s.get H.FRM_SSM_RUN ≠ 0 then min 3 (s.get H.FRM_SSM_RUN + 1) else 1
  (s.put H.FRM_SSM_LAST c).put H.FRM_SSM_RUN run

/-- The version of direction d that this end uses in multiframe m. -/
def verAt (s : State) (d m : Nat) : Nat :=
  let due := if Scm.localTx s.leaf d then s.get H.LTX_SWAP_MF else s.get H.LRX_SWAP_MF
  if Scm.swapDue s d && decide (Scm.mfSince m due < 2 ^ 23) then Scm.shadowVer s d else Scm.activeVer s d

/-- LOAD_COUNTDOWN and LATE_SWAP of direction d in a leaf (R83), read in multiframe m; LOAD_MISMATCH is reported once for each
version that the overhead names. -/
def loadWord (word m d : Nat) (s : State) : State :=
  let v := wordVer word d
  let cd := slice word 52 3
  let s := if cd ≠ 0 ∧ b01 (word.testBit 63) = d ∧ slice word 55 8 = Scm.shadowVer s d ∧ !Scm.swapDue s d then
      Scm.announceBank d ((m + cd) % 2 ^ 24) s
    else s
  let s := if s.get H.VLK_RX_ACT d = v then s else (s.put H.VLK_RX_ACT v d).clr H.VLK_SEND_MISMATCH d
  if verAt s d m = v then s.clr H.VLK_SEND_MISMATCH d
  else if Scm.shadowVer s d = v then
    if Scm.swapDue s d then s else (Scm.announceBank d ((m + 1) % 2 ^ 24) s).set F.SCM_INT_CAUSE_LATE_SWAP
  else if s.on H.VLK_SEND_MISMATCH d ∨ Vlk.state s < 3 ∨ Vlk.state s = 6 then s
  else Vlk.toHub 0x24 true [d, v] (s.set H.VLK_SEND_MISMATCH d)

/-- A valid word of a stream under the one search. -/
def searchedWord (k l word : Nat) (s : State) : State :=
  let s := s.put H.FRM_BDI_SC (b01 (word.testBit 47)) k
  let fn := wordFn word
  let s := if fn % 4 = 1 ∧ s.get H.LRX_ACTIVE k % 8 = 1 then Fec.readPhase k l (slice word 12 22) fn s else s
  let s := if k = searched s then
      let s := s.put H.FRM_BDI_LINE (b01 (word.testBit 47))
      ssmWord word (traceByte word (countWord word s))
    else s
  if s.leaf && Vlk.enabled s && s.on F.FRM_ALIGN_STAT_MFN_VALID then
    let m := s.get H.FRM_RX_MFN
    loadWord word m 1 (loadWord word m 0 s)
  else s

/-- The frame's number in its multiframe among those that carry the stream (R145): FN, or on SLOT the count of the leaf's granted frames
before it. MUX's selector s is this modulo 4. -/
def frameIndex (s : State) (k leaf fn : Nat) : Nat :=
  if s.get H.LRX_ACTIVE k % 8 = 3 then
    match Scm.grantRow s k with
    | some g => ((List.range fn).filter (fun n => Scm.grantee s g n == some leaf)).length
    | none => fn
  else fn

/-- The leaf expected on subcarrier k in frame fn (R165). -/
def expectedLeaf (s : State) (k fn : Nat) : Nat :=
  if s.get H.LRX_ACTIVE k % 8 = 3 then
    match Scm.grantRow s k with
    | some g => (Scm.grantee s g fn).getD 0x1FF
    | none => 0x1FF
  else slice (s.get H.LRX_ACTIVE k) 22 9

/-- The hub checks the frames of leaf l on upstream subcarrier k (R158); those of a RESTING leaf are not checked. -/
def checked (s : State) (k l : Nat) : Bool :=
  onTree s && s.on F.FRM_CTRL_RX_EN && (upLeaves s k).contains l && s.get F.VLK_LEAF_STATE l != 3

/-- A run of mismatches grows where `bad`, and ends else. -/
def missRun (f : Field) (bad : Bool) (k l : Nat) (s : State) : State :=
  if bad then s.put f (min 7 (s.get f k l + 1)) k l else s.clr f k l

/-- A valid word of leaf l on upstream subcarrier k, expected at multiframe mfn, frame fn (R157, R158, R83, R165): FN is judged in each word,
MFN in those that carry it. -/
def upstreamWord (k l word mfn fn : Nat) (s : State) : State :=
  let s := s.put H.FRM_BDI_SC (b01 (word.testBit 47)) k
  let idx := frameIndex s k l fn
  let sel := idx % 4
  let mux := slice word 12 24
  let badMfn := sel == 0 && mux != mfn
  let s := missRun H.FRM_UP_FN_MISS (wordFn word != fn) k l s
  let s := if sel = 0 then missRun H.FRM_UP_MFN_MISS badMfn k l s else s
  let s := if wordFn word = fn ∧ !badMfn then s.put H.FRM_UP_FN_RUN (min 3 (s.get H.FRM_UP_FN_RUN k l + 1)) k l
    else s.clr H.FRM_UP_FN_RUN k l
  let s := if sel = 1 then Fec.readPhase k l (slice word 12 22) idx s else s
  let s := if sel = 3 then s.put H.FRM_LEAF_BAD (b01 (mux % 512 != expectedLeaf s k fn)) k else s
  if wordVer word 1 = Scm.activeVer s 1 then s else (s.put F.SCM_CHG_STAT_MIS_LEAF l).set F.SCM_INT_CAUSE_VER_MISMATCH

/-- OVERHEAD_WORD (R143): a word of subcarrier k is decoded. On a tree it is of leaf l, expected at multiframe mfn, frame fn; `covered` holds
the covered bits of the stream's last frame as received (R147). -/
def overheadWord (k l word : Nat) (covered : List Bool) (mfn fn : Nat) (s : State) : State :=
  let mine := if onTree s then checked s k l else inFrame s && framed s k
  if !mine then s
  else
  let now := frameNumber s mfn fn
  let s := Fec.rxFrame k l s
  if !wordOk word then stampFrame k l now (s.count H.FRM_LIVE_SC 1 k 4)
  else
    let s := stampFrame k l now (bipCheck k l word covered now s)
    note (if onTree s then upstreamWord k l word mfn fn s else searchedWord k l word s)

/-- OOM (R157, R158): on a tree, of the frames of leaf l on subcarrier k. -/
def oom (k l : Nat) (s : State) : State :=
  if onTree s then
    if !s.on H.FRM_UP_OOM k l && (decide (5 ≤ s.get H.FRM_UP_FN_MISS k l) || decide (5 ≤ s.get H.FRM_UP_MFN_MISS k l)) then
      note (((s.set H.FRM_UP_OOM k l).clr H.FRM_UP_FN_RUN k l).set F.FRM_INT_CAUSE_OOM)
    else s
  else if s.on F.FRM_ALIGN_STAT_IN_MF && decide (5 ≤ s.get H.FRM_FN_MISS) then
    note (((s.clr F.FRM_ALIGN_STAT_IN_MF).clr H.FRM_FN_RUN).set F.FRM_INT_CAUSE_OOM)
  else s

/-- MF_RESTORE (R157, R158). -/
def mfRestore (k l : Nat) (s : State) : State :=
  if onTree s then
    if s.on H.FRM_UP_OOM k l && s.get H.FRM_UP_FN_RUN k l == 3 then ((s.clr H.FRM_UP_OOM k l).clr H.FRM_UP_FN_MISS k l).clr H.FRM_UP_MFN_MISS k l else s
  else if inFrame s && !s.on F.FRM_ALIGN_STAT_IN_MF && s.get H.FRM_FN_RUN == 3 then
    ((s.set F.FRM_ALIGN_STAT_IN_MF).put H.FRM_RX_FN (s.get H.FRM_FN_LAST)).clr H.FRM_FN_MISS
  else s

/-- UPSTREAM_FAW_CHECK (R158): `errs` is the least number of bits that differ within ±8 positions of the one expected. -/
def upstreamFawCheck (k l errs : Nat) (s : State) : State :=
  if !checked s k l then s
  else
    let s := if s.on H.FRM_UP_OOF k l then s else s.count H.FRM_LIVE_SC errs k 3
    if errs ≤ s.get F.FRM_ALIGN_CFG_FAW_TOL then
      let s := if s.on H.FRM_UP_MISS k l then cleared (streamId s k l) s else s
      (s.put H.FRM_UP_HIT (min 3 (s.get H.FRM_UP_HIT k l + 1)) k l).clr H.FRM_UP_MISS k l
    else (s.put H.FRM_UP_MISS (min 7 (s.get H.FRM_UP_MISS k l + 1)) k l).clr H.FRM_UP_HIT k l

/-- UPSTREAM_OOF (R158). -/
def upstreamOof (k l : Nat) (s : State) : State :=
  if checked s k l && !s.on H.FRM_UP_OOF k l && decide (5 ≤ s.get H.FRM_UP_MISS k l) then
    note (invalidate (streamId s k l) ((s.set H.FRM_UP_OOF k l).set F.FRM_INT_CAUSE_OOF))
  else s

/-- UPSTREAM_IN_FRAME (R158): the stream is then also in-multiframe (R157). -/
def upstreamInFrame (k l : Nat) (s : State) : State :=
  if checked s k l && s.on H.FRM_UP_OOF k l && s.get H.FRM_UP_HIT k l == 3 then
    let s := ((s.clr H.FRM_UP_OOM k l).clr H.FRM_UP_FN_MISS k l).clr H.FRM_UP_MFN_MISS k l
    (s.clr H.FRM_UP_OOF k l).set F.FRM_INT_CAUSE_IN_FRAME
  else s

/-- TTI_ACCEPT (R165). -/
def ttiAccept (s : State) : State :=
  if s.get H.FRM_TTI_RUN = 3 then
    let s := s.each 16 (fun j t => t.put F.FRM_TTI_RX_DATA
      ((List.range 4).foldl (fun a i => a + t.get H.FRM_TTI_LAST (4 * j + i) * 256 ^ i) 0) j)
    note (s.set H.FRM_TTI_ACC)
  else s

/-- SSM_ACCEPT (R166). -/
def ssmAccept (s : State) : State :=
  if inFrame s && s.get H.FRM_SSM_RUN == 3 && s.get H.FRM_SSM_LAST != s.get F.FRM_SSM_RX_SSM then
    (s.put F.FRM_SSM_RX_SSM (s.get H.FRM_SSM_LAST)).set F.FRM_INT_CAUSE_SSM_CHG
  else s

/-! ### Container frames (R149 to R152, R191) -/

/-- A header as its 16 bytes (Table FRM-4): the frame it describes. -/
def parse (h : List Nat) : Cf :=
  let b := fun i => h.getD i 0
  { type := b 0 / 16, flow := b 0 % 16 * 256 + b 1, seq := b 2 * 256 + b 3, just := (b 4).testBit 0, err := (b 4).testBit 1,
    jc := b 5 * 65536 + b 6 * 256 + b 7, cipher := b 8 * 256 + b 9 }

/-- The checks of R150. -/
def headerOk (h : List Nat) : Bool :=
  let f := parse h
  headerCrc h == h.getD 14 0 * 256 + h.getD 15 0 && decide (f.type ≤ 6) &&
  (if f.type = 2 ∨ f.type = 3 then f.flow == 0xFFF else decide (f.flow < 3072))

/-- The entry that takes a received CF of flow number n of leaf l (R189, R191). -/
def receiver (s : State) (n l : Nat) : Option Nat :=
  let takes := fun f => Flw.en (Flw.entry s f) && Flw.rxEn (Flw.entry s f)
  if s.leaf then (Flw.enabled s).find? (fun f => takes f && Flw.lflow (Flw.entry s f) == n)
  else if takes n && (!onTree s || Flw.leafOf (Flw.entry s n) == l) then some n else none

/-- An enabled flow of this leaf has line flow number n: a CF that names it is the leaf's own (R191). -/
def namedHere (s : State) (n : Nat) : Bool := (Flw.enabled s).any (fun f => Flw.lflow (Flw.entry s f) == n)

/-- Count in the low (0) or the high (1) half of word w, which saturates by itself. -/
def countHalf (f w half : Nat) (s : State) : State :=
  let i := s.get H.FLW_PMI f
  let v := s.get H.FRM_LIVE_F i w
  let n := slice v (16 * half) 16
  if n = 65535 then s else s.put H.FRM_LIVE_F (v + 2 ^ (16 * half)) i w

/-- The code nearest to a majority result (R169): the value of J, or none where it is further than one bit from every code. -/
def jcValue (m : Nat) : Option Int :=
  let near := fun (c : Nat) => decide (popBits 8 (m ^^^ c) ≤ 1)
  if near 0 then some 0 else if near 0x0F then some 1 else if near 0x3C then some 2
  else if near 0xF0 then some (-1) else if near 0xC3 then some (-2) else none

/-- The bitwise majority of JC1, JC2, JC3. -/
def majority (jc : Nat) : Nat :=
  let a := slice jc 16 8
  let b := slice jc 8 8
  let c := slice jc 0 8
  (a &&& b) ||| (b &&& c) ||| (a &&& c)

/-- The justification of a JUST DATA frame is decoded (R169): counted, and errored where no code is near. -/
def justify (f : Nat) (x : Cf) (s : State) : Cf × State :=
  if x.just ∧ x.type = 0 then
    match jcValue (majority x.jc) with
    | some j => ({ x with jc := Flw.jcCopies j },
        if 0 < j then countHalf f 5 0 s else if j < 0 then countHalf f 5 1 s else s)
    | none => ({ x with jc := 0, err := true }, countHalf f 6 0 s)
  else (x, s)

def setHeld (f : Nat) (l : List Cf) (s : State) : State := { s with frm := { s.frm with held := Store.put [] s.frm.held f l } }
def setReady (f : Nat) (l : List Cf) (s : State) : State := { s with frm := { s.frm with ready := Store.put [] s.frm.ready f l } }

/-- How far q lies past e, modulo 65,536. -/
def ahead (e q : Nat) : Nat := (q + 65536 - e) % 65536

/-- Enter a frame among the held ones, which lie in SEQ order from e. -/
def hold (e : Nat) (x : Cf) : List Cf → List Cf
  | [] => [x]
  | y :: l => if ahead e x.seq < ahead e y.seq then x :: y :: l else if x.seq = y.seq then y :: l else y :: hold e x l

/-- The frames that follow e without a gap, and the SEQ after them. -/
def consecutive (e : Nat) : List Cf → List Cf × List Cf × Nat
  | [] => ([], [], e)
  | y :: l =>
    if y.seq = e then
      let r := consecutive ((e + 1) % 65536) l
      (y :: r.1, r.2.1, r.2.2)
    else ([], y :: l, e)

/-- The egress window of flow f takes a frame (R152): 16 CFs ending at the newest SEQ. -/
def window (f : Nat) (restart : Bool) (x : Cf) (s : State) : State :=
  let held := Store.get [] s.frm.held f
  let ready := Store.get [] s.frm.ready f
  if restart || !s.on H.FRM_WIN_ON f then
    ((setReady f (ready ++ held ++ [x]) (setHeld f [] s)).set H.FRM_WIN_ON f).put H.FRM_WIN_SEQ (x.seq + 1) f
  else
    let e := s.get H.FRM_WIN_SEQ f
    let a := ahead e x.seq
    if 32768 ≤ a then
      let newest := match held.getLast? with
        | some y => ahead e y.seq + 1
        | none => 0
      if 16 < newest + (65536 - a) - 1 then countFlow f 2 1 s else s
    else
      let held := hold e x held
      let last := match held.getLast? with
        | some y => ahead e y.seq
        | none => 0
      let cut := last - 15
      let out := held.filter (fun y => decide (ahead e y.seq < cut))
      let rest := held.filter (fun y => !decide (ahead e y.seq < cut))
      let s := countFlow f 2 (cut - out.length) s
      let r := consecutive ((e + cut) % 65536) rest
      (setReady f (ready ++ out ++ r.1) (setHeld f r.2.1 s)).put H.FRM_WIN_SEQ r.2.2 f

/-- A CF of flow f that is not discarded: its justification is taken off, an error counted, and it enters the window. -/
def accept (f : Nat) (x : Cf) (restart : Bool) (s : State) : State :=
  let j := justify f x s
  window f restart j.1 (if j.1.err then countFlow f 1 1 j.2 else j.2)

/-- A CF of flow f (R152, R211): decrypted, its errors counted, and put in order. Under the receive safe output it is invalid (R20). -/
def take (f : Nat) (bad : Bool) (x : Cf) (s : State) : State :=
  let e := Flw.entry s f
  let bad := bad || s.on F.PWR_SAFE_STAT_RX_SAFE
  let s := (countFlow f 0 1 s).put H.FRM_LAST_TYPE x.type f
  let s := if x.type = 1 then countFlow f 3 1 s else s
  let r := if Flw.ciphEn e then Cry.decrypt (Flw.ctx e) x s else (Cry.Fate.good x.payload false, s)
  note (match r.1 with
    | .discarded => r.2
    | .errored => accept f { x with err := true } false r.2
    | .good p restart => accept f { x with payload := p, err := x.err || bad } restart r.2)

/-- Subcarrier k gives received CFs of leaf l: its stream is in frame and its FEC_PH has been read. -/
def delivers (s : State) (k l : Nat) : Bool :=
  let m := s.get H.LRX_ACTIVE k % 8
  Rest.awake s && Lrx.processed s k && Fec.rxOn s k l &&
  (if onTree s then (m == 1 || m == 3) && (upLeaves s k).contains l && !s.on H.FRM_UP_OOF k l else m == 1 && inFrame s)

/-- CF_RECEIVE (R149 to R152): a CF of subcarrier k, on a tree of leaf l. `bad` says that FEC or LRX marked a bit of it. A MGMT CF is the
container whose messages follow as commands of their own (R151). -/
def cfReceive (k l bad : Nat) (hdr payload : List Nat) (tag : Nat) (s : State) : State :=
  if !delivers s k l then s
  else
  let bad := if s.on H.FEC_MARK k then 1 else bad
  let s := s.clr H.FEC_MARK k
  if !headerOk hdr then s.count H.FRM_LIVE_SC 1 k 5
  else
    let suspect := if onTree s then s.on H.FRM_UP_MISS k l else s.on H.FRM_FAW_MISS
    let x := { parse hdr with payload := payload, tag := tag, suspect := if suspect then streamId s k l else 0 }
    if x.type = 2 ∨ x.type = 3 then s
    else match receiver s x.flow l with
      | some f => take f (bad != 0) x s
      | none => if s.leaf && !namedHere s x.flow then s else s.count F.FLW_UNKNOWN_CNT_COUNT

/-! ### Egress slip buffers (R168, R201) -/

def slip (s : State) (f : Nat) : List Stored := Store.get [] s.frm.slip f

/-- The buffer changes; RA_STAT shows its fill. -/
def setSlip (f : Nat) (l : List Stored) (s : State) : State :=
  ({ s with frm := { s.frm with slip := Store.put [] s.frm.slip f l } }).put F.FRM_RA_STAT_FILL l.length f

/-- A frame that holds no data: IDLE, AIS, LCK, OCI. -/
def idle (x : Cf) : Bool := x.type != 0

def overflow (f : Nat) (s : State) : State := (countHalf f 6 1 s).set F.FRM_INT_CAUSE_RA_OVF

/-- SLIP_WRITE (R168): the oldest frame in order is written to flow f's buffer. -/
def slipWrite (f : Nat) (s : State) : State :=
  match Store.get [] s.frm.ready f with
  | [] => s
  | x :: rest =>
    let s := (setReady f rest s).put H.FRM_EG_JUST (b01 x.just) f
    let l := slip s f
    if idle x then
      if !x.just && decide (3 ≤ l.length) then countHalf f 4 0 s
      else if 8 ≤ l.length then overflow f s
      else setSlip f (l ++ [⟨f, 3, x⟩]) s
    else if 8 ≤ l.length then overflow f s
    else match Qdm.draw f (Flw.buf (Flw.entry s f)) s with
      | (some p, s) => setSlip f (l ++ [⟨f, p, x⟩]) s
      | (none, s) => (overflow f s).set F.QDM_INT_CAUSE_POOL_EMPTY

/-- The whole Ethernet frames in the bytes of a VLAN flow from position `at_`, which end at the positions given, and what is left of
the last (R190). -/
def cutFrames (at_ : Nat) : List Nat → List Nat → List (List Nat) × List Nat
  | [], bytes => ([], bytes)
  | n :: rest, bytes =>
    let r := cutFrames n rest (bytes.drop (n - at_))
    (bytes.take (n - at_) :: r.1, r.2)

/-- The frames of a client's VLAN flows are merged at frame boundaries, in the order in which they are whole (R190). -/
def merge (c f : Nat) (x : Cf) (ends : List Nat) (s : State) : State :=
  let part := Store.get [] s.flw.part f
  let r := cutFrames 0 (ends.map (fun n => part.length + n)) (part ++ (if x.type = 0 then x.payload else []))
  ({ s with flw := { s.flw with part := Store.put [] s.flw.part f r.2 } }).eachOf r.1 (fun y t => t.emit (.client c f (.frame y)))

/-- The egress of a client under adaptive timing (R186): a JUST frame steers its NCO; while the flow is invalid or in SLIP it holds. -/
def steer (c f : Nat) (x : Cf) (s : State) : State :=
  if c < 32 ∧ Hsl.timing s c = 2 ∧ x.just ∧ x.type = 0 ∧ flowValid s f then
    Hsl.steer c ((jcValue (majority x.jc)).getD 0) (slip s f).length s
  else s

/-- The client of flow f has what the CF carries, or the replacement signal (R163, R20); a frame that a safe output replaces counts as
errored where it has not (R20). `ends` are the ends of Ethernet frames in its bytes. -/
def give (f : Nat) (x : Cf) (ends : List Nat) (s : State) : State :=
  let e := Flw.entry s f
  let c := Flw.cli e
  let ok := flowValid s f && Rest.awake s
  let s := steer c f x s
  let s := if (s.on F.PWR_SAFE_STAT_RX_SAFE || s.on F.PWR_SAFE_STAT_UP_SAFE) && !ok && !x.err then countFlow f 1 1 s else s
  let s := if c < 32 ∧ Hsl.enabled s c then s.put H.HSL_OUT (if ok then 2 else 1) c else s
  if !ok then
    ({ s with flw := { s.flw with part := Store.put [] s.flw.part f [] } }).emit (.client c f (Hsl.replacement s c))
  else if Flw.trib e = 2 then merge c f x ends s
  else s.emit (.client c f (.cf x))

/-- SLIP_READ (R168): the egress of flow f takes its next CF; the client has it, or the replacement signal (R163). -/
def slipRead (f : Nat) (ends : List Nat) (s : State) : State :=
  if !(Flw.en (Flw.entry s f) && Flw.rxEn (Flw.entry s f)) then s
  else
    match slip s f with
    | [] => if s.on H.FRM_EG_JUST f then s else give f { type := 1, flow := f } [] (countHalf f 4 1 s)
    | x :: rest =>
      if rest.isEmpty && idle x.frame && !x.frame.just then give f x.frame [] (countHalf f 4 1 s)
      else
        let s := setSlip f rest s
        give f x.frame ends (if idle x.frame then s else Qdm.free f x.port s)

end Sys2Proof.Machine.Frm
end

