-- ==== Sys2Proof/Machine/Safe.lean ====
section
/-! DEFINITION. Sys2Proof/Machine/Safe.lean: the hard-margin actions of the slack monitors and their release
(spec/01_clockless_architecture.md, R16, R20, R21). -/
namespace Sys2Proof.Machine.Pwr
open Sys2Proof Sys2Proof.Machine

/-- Action a of Table PWR-1 is taken; one that was being released stays in force (R21). -/
def takeAction (a : Nat) (s : State) : State :=
  let s := s.clrBit H.PWR_RELEASING a
  match a with
  | 0 => (Ltx.mute 1 s).set F.PWR_SAFE_STAT_TX_MUTED
  | 1 => s.set F.PWR_SAFE_STAT_RX_SAFE
  | 2 => Brx.safe (s.set F.PWR_SAFE_STAT_UP_SAFE)
  | _ => s.set F.PWR_SAFE_STAT_PEER_HELD

/-- The actions of monitor m. -/
def takeActions (m : Nat) (s : State) : State :=
  s.each 4 (fun a t => if (actionsOf m).testBit a then takeAction a t else t)

/-- HARD_MARGIN_CROSSING (R20): monitor m's slack passes to HARD or lower. -/
def hardCrossing (m now : Nat) (s : State) : State :=
  if armed s m && decide (now ≤ s.get F.PWR_SLACK_CFG_HARD m) then
    let s := (observe m now s).count F.PWR_SLACK_LVL_HARD_CNT 1 m
    takeActions m (event (Pmc.system (1232 + m) (s.setBit F.PWR_SLACK_STAT_HARD m)))
  else s

/-- BRIDGE_UNDERFLOW and BRIDGE_OVERFLOW (R16) of bridge b, whose island runs (R15) and takes or delivers words, the bridge having been
prefilled (R14): counted in UNDERRUN, never again in HARD_CNT. -/
def bridgeFault (b : Nat) (s : State) : State :=
  match monitorOf s b with
  | none => s
  | some m =>
    if armed s m && running s b && s.on H.PWR_PREFILLED b then
      let s := (observe m 0 s).count F.PWR_SLACK_LVL_UNDERRUN 1 m
      takeActions m (if s.bit F.PWR_SLACK_STAT_HARD m then s else event (s.setBit F.PWR_SLACK_STAT_HARD m))
    else s

/-- Action a ends (R21). -/
def endAction (a : Nat) (s : State) : State :=
  match a with
  | 0 => Ltx.resume (Ltx.unmute 1 (s.clr F.PWR_SAFE_STAT_TX_MUTED))
  | 1 => s.clr F.PWR_SAFE_STAT_RX_SAFE
  | 2 => s.clr F.PWR_SAFE_STAT_UP_SAFE
  | _ => s.clr F.PWR_SAFE_STAT_PEER_HELD

/-- ACTION_RELEASE_EFFECT (R21): at a frame boundary of the transmit counters every released action ends. -/
def releaseEffect (s : State) : State :=
  if s.on F.FRM_CTRL_TX_EN then
    let r := s.get H.PWR_RELEASING
    (s.each 4 (fun a t => if r.testBit a then endAction a t else t)).clr H.PWR_RELEASING
  else s

end Sys2Proof.Machine.Pwr
end

