-- ==== Sys2Proof/Machine/FrmTx.lean ====
section
/-! DEFINITION. Sys2Proof/Machine/FrmTx.lean: transmit frames: the frame counters, the overhead words, and what happens at a frame boundary
(spec/07_framing_and_overhead.md, R142 to R147, R151). -/
namespace Sys2Proof.Machine.Frm
open Sys2Proof Sys2Proof.Machine

/-- A write of TX_EN (R142): the counters start on the next frame; with TX_EN at 0 they do not run (R81). -/
def txEnable (v : Nat) (s : State) : State :=
  if v % 2 = 1 then s.set F.FRM_CTRL_TX_EN else (s.clr F.FRM_CTRL_TX_EN).clr H.FRM_TX_RUN

/-- SSM of the transmit overhead (R146, R235). -/
def ssm (s : State) : Nat :=
  if s.leaf then 15
  else if s.on F.FRM_CTRL_SSM_SRC then s.get F.FRM_SSM_TX_SSM
  else if s.get F.SYN_STAT_SEL = 2 then 15
  else s.get F.SYN_STAT_OUT_QL

/-- LOAD_ANN as DIR, V, CD (Table FRM-2): where both directions are announced, even frames carry the downstream one. -/
def announcement (s : State) (mfn fn : Nat) : Nat × Nat × Nat :=
  if s.leaf then (0, 0, 0)
  else
    let c0 := Scm.countdown s 0 mfn
    let c1 := Scm.countdown s 1 mfn
    if c0 ≠ 0 ∧ (c1 = 0 ∨ fn % 2 = 0) then (0, s.get H.SCM_LAST_VER 0, c0)
    else if c1 ≠ 0 then (1, s.get H.SCM_LAST_VER 1, c1)
    else (0, 0, 0)

/-- ACT_VER of direction d (R81 step 6). -/
def actVer (s : State) (d mfn : Nat) : Nat := if s.leaf then Scm.activeVer s d else Scm.overheadVer s d mfn

/-- Byte i of TTI_TX. -/
def ttiByte (s : State) (i : Nat) : Nat := slice (s.get F.FRM_TTI_TX_DATA (i / 4)) (8 * (i % 4)) 8

/-- The row on which a leaf is granted subcarrier k in frame fn. -/
def rowOf (s : State) (k fn : Nat) : Option Nat :=
  (List.range 64).find? (fun g => s.get H.VLK_G_SC_ACT g == k + 1 && (s.get H.VLK_G_ACT g (fn % 64 / 32)).testBit (fn % 32))

/-- The frame's number among those of the multiframe that row g grants this leaf (R145). -/
def grantIndex (s : State) (g fn : Nat) : Nat :=
  ((List.range fn).filter (fun n => (s.get H.VLK_G_ACT g (n % 64 / 32)).testBit (n % 32))).length

/-- MUX in the frame numbered `idx` of those that carry subcarrier k in the multiframe: the selector is idx mod 4 (Table FRM-3). -/
def mux (s : State) (k mfn fn idx : Nat) (slot : Bool) : Nat :=
  match idx % 4 with
  | 0 => mfn
  | 1 => Fec.txPhase s k (s.get H.LTX_ACTIVE k) idx
  | 2 => if slot then 0 else ttiByte s (fn / 4) * 65536
  | _ => if s.leaf then s.get F.VLK_SELF_LEAF else 0x1FF

/-- The overhead word of subcarrier k (Table FRM-2). -/
def txWord (s : State) (k mfn fn bip idx : Nat) (slot : Bool) : Nat :=
  let a := announcement s mfn fn
  let upper := fn * 2 ^ 68 + actVer s 0 mfn * 2 ^ 60 + actVer s 1 mfn * 2 ^ 52 + a.1 * 2 ^ 51 + a.2.1 * 2 ^ 43 + a.2.2 * 2 ^ 40 +
    ssm s * 2 ^ 36 + b01 (bdi s) * 2 ^ 35 + bip % 256 * 2 ^ 24 + mux s k mfn fn idx slot
  upper * 4096 + crc 12 0x80F 0xFFF (bitsOf 76 upper)

/-- The frame alignment word (Table FRM-1). -/
def faw : Nat := 0x9AE35C07B1

/-- The bits of block 0 on X and on Y, first bit first (Table FRM-1): the FAW or its complement, and half of the coded word. -/
def blockZero (word : Nat) : List Nat × List Nat :=
  let coded := Vlk.encode ((bitsOf 88 word).map b01)
  ((bitsOf 40 faw).map b01 ++ coded.take 88, (bitsOf 40 (faw ^^^ (2 ^ 40 - 1))).map b01 ++ coded.drop 88)

/-- The payload scrambler (R148): bits of a frame from its first covered bit; bit i of the register is s[i + 1]. Applied again with the same
start it descrambles. -/
def scrambleFrom (reg : Nat) : List Bool → List Bool
  | [] => []
  | b :: rest =>
    let k := (((reg.testBit 0 != reg.testBit 2) != reg.testBit 11) != reg.testBit 15)
    (b != k) :: scrambleFrom (reg * 2 % 65536 + b01 k) rest

def scramble (bits : List Bool) : List Bool := scrambleFrom 0xFFFF bits

/-- Subcarrier k begins its frame: the word of a DATA or BEACON subcarrier, or of a granted SLOT frame of a leaf, and the frame's share
of its FEC stream (R88, R145). -/
def txSubcarrier (mfn fn : Nat) (covered : List (List Bool)) (k : Nat) (acc : List (Nat × Nat)) (s : State) :
    List (Nat × Nat) × State :=
  let e := s.get H.LTX_ACTIVE k
  let bip := bip (covered.getD k [])
  match e % 8 with
  | 1 =>
    if !Vlk.owns s k then (acc, s) else
    ((k, txWord s k mfn fn bip fn false) :: acc, Fec.advance k e s)
  | 2 => ((k, txWord s k mfn fn bip fn false) :: acc, s)
  | 3 =>
    match if s.leaf && Vlk.slotGranted s k mfn fn then rowOf s k fn else none with
    | none => (acc, s)
    | some g =>
      ((k, txWord s k mfn fn bip (grantIndex s g fn) true) :: acc, Fec.advance k (e - 2) s)
  | _ => (acc, s)

/-- What happens at the first frame of a multiframe. -/
def multiframeStart (s : State) : State :=
  let s := s.countWrap H.SCM_MF
  if s.leaf then Vlk.age (s.set H.FRM_MGMT_DUE) else s

/-- TX_FRAME (R142 to R146): a transmit frame begins. A hub's counters start at 0 and run on; a leaf's frame carries the (mfn, fn) of the
downstream frame it is timed against (R97). `covered` is, by subcarrier, the covered bits of the frame before, on SLOT of the leaf's last
granted one (R147). -/
def txFrame (mfn fn : Nat) (covered : List (List Bool)) (s : State) : State :=
  if !s.on F.FRM_CTRL_TX_EN || !Rest.awake s then s
  else
    let p := if s.leaf then (mfn % 2 ^ 24, fn % 256) else Scm.nextFrame s
    let s := ((s.set H.FRM_TX_RUN).put H.FRM_TX_MFN p.1).put H.FRM_TX_FN p.2
    let s := Vlk.judge s
    let s := if p.2 = 0 then multiframeStart s else s
    let s := if s.leaf then Vlk.frameBoundary p.1 s else s
    let s := Ltx.resume (Ltx.start (Pwr.releaseEffect s))
    let r := if s.on F.LTX_STAT_ACTIVE then
        (List.range (Ltx.subcarriers s)).foldl (fun (a : List (Nat × Nat) × State) k => txSubcarrier p.1 p.2 covered k a.1 a.2) ([], s)
      else ([], s)
    let s := if s.on F.LTX_STAT_ACTIVE then r.2.emit (.overhead (r.1.reverse.map (fun x => (x.1, blockZero x.2)))) else r.2
    let s := if s.leaf then s else Scm.resendDue s
    note (Vlk.sendFrames (if Vlk.hubOn s then Vlk.age s else s))

end Sys2Proof.Machine.Frm
end

