-- ==== Sys2Proof/Machine/Num.lean ====
section
/-! DEFINITION. Sys2Proof/Machine/Num.lean: rational arithmetic, the exponential and the logarithm that R238 and R239 use, and least squares
(R229, R237). -/
namespace Sys2Proof.Machine

/-- n / d in lowest terms; 0 where d is 0. -/
def Q.mk' (n : Int) (d : Nat) : Q :=
  if d = 0 then {} else
    let g := max 1 (Nat.gcd n.natAbs d)
    ⟨n / (g : Int), d / g⟩

def Q.int (n : Int) : Q := ⟨n, 1⟩
def Q.add (a b : Q) : Q := Q.mk' (a.num * (b.den : Int) + b.num * (a.den : Int)) (a.den * b.den)
def Q.neg (a : Q) : Q := ⟨-a.num, a.den⟩
def Q.sub (a b : Q) : Q := Q.add a (Q.neg b)
def Q.mul (a b : Q) : Q := Q.mk' (a.num * b.num) (a.den * b.den)
def Q.div (a b : Q) : Q :=
  if b.num < 0 then Q.mk' (-(a.num * (b.den : Int))) (a.den * b.num.natAbs) else Q.mk' (a.num * (b.den : Int)) (a.den * b.num.natAbs)
def Q.abs (a : Q) : Q := ⟨a.num.natAbs, a.den⟩
def Q.isZero (a : Q) : Bool := a.num == 0
def Q.le (a b : Q) : Bool := decide (a.num * (b.den : Int) ≤ b.num * (a.den : Int))
def Q.lt (a b : Q) : Bool := !Q.le b a
/-- Rounded to the nearest integer, ties away from zero. -/
def Q.round (a : Q) : Int := roundDivInt a.num a.den
def Q.sum (l : List Q) : Q := l.foldl Q.add {}

/-- An integer held to w bits of two's complement. -/
def sat (w : Nat) (x : Int) : Int := clampInt (-(2 ^ (w - 1) : Nat)) ((2 ^ (w - 1) : Nat) - 1) x

/-- ln 2 with 96 fraction bits. -/
def ln2 : Nat := 54916777467707473351141471128

/-- The terms of e^(−z) from term i on, z with 96 fraction bits. -/
def expTerms : Nat → Nat → Int → Int → Int → Int
  | 0, _, _, _, acc => acc
  | n + 1, i, z, t, acc =>
    let t := -(t * z / ((2 ^ 96 : Nat) : Int)) / ((i : Nat) : Int)
    expTerms n (i + 1) z t (acc + t)

/-- 2^(−a/b) to within 2^-80 (R239). -/
def pow2neg (a b : Nat) : Q :=
  let b := max 1 b
  let z := a % b * ln2 / b
  let e := expTerms 40 1 (z : Int) ((2 ^ 96 : Nat) : Int) ((2 ^ 96 : Nat) : Int)
  Q.mk' e (2 ^ 96 * 2 ^ (a / b))

/-- ln x for a positive rational (R238), to within 2^-46. -/
def lnQ (x : Q) : Q :=
  let up := fun (n d : Nat) => Q.mk' ((Scm.log2Fix (n * 2 ^ 96 / max 1 d) * ln2 : Nat) : Int) (2 ^ 144)
  if Q.le (Q.int 1) x then up x.num.natAbs x.den else Q.neg (up x.den x.num.natAbs)

/-- The least-squares slope of a list against 0, 1, 2, ... (R229). -/
def slope (l : List Q) : Q :=
  let n := l.length
  if n < 2 then {} else
    let sy := Q.sum l
    let sjy := Q.sum (l.zipIdx.map (fun x => Q.mul (Q.int x.2) x.1))
    let top := Q.sub (Q.mul (Q.int 12) sjy) (Q.mul (Q.int (6 * (n - 1))) sy)
    Q.div top (Q.int (n * (n * n - 1)))

/-- The least-squares slope of points (t, y). -/
def slopeAt (l : List (Q × Q)) : Q :=
  let n := Q.int l.length
  let st := Q.sum (l.map Prod.fst)
  let sy := Q.sum (l.map Prod.snd)
  let stt := Q.sum (l.map (fun x => Q.mul x.1 x.1))
  let sty := Q.sum (l.map (fun x => Q.mul x.1 x.2))
  let den := Q.sub (Q.mul n stt) (Q.mul st st)
  if Q.isZero den then {} else Q.div (Q.sub (Q.mul n sty) (Q.mul st sy)) den

/-- Gauss and Jordan on the rows of an augmented matrix: column c is cleared in every row but its pivot's. `done` holds the pivot rows so
far. None where the matrix is singular. -/
def eliminate : Nat → Nat → List (List Q) → List (List Q) → Option (List (List Q))
  | 0, _, done, _ => some done
  | n + 1, c, done, rows =>
    match rows.find? (fun r => !(r.getD c {}).isZero) with
    | none => none
    | some p =>
      let p := p.map (fun x => Q.div x (p.getD c {}))
      let clear := fun (r : List Q) => (r.zip p).map (fun x => Q.sub x.1 (Q.mul (r.getD c {}) x.2))
      let at_ := rows.findIdx (fun r => !(r.getD c {}).isZero)
      eliminate n (c + 1) (done.map clear ++ [p]) ((rows.eraseIdx at_).map clear)

/-- The least-squares coefficients of y over the basis values of each point (R237). -/
def fitLeast (k : Nat) (points : List (List Q × Q)) : Option (List Q) :=
  let entry := fun (i j : Nat) => Q.sum (points.map (fun x => Q.mul (x.1.getD i {}) (x.1.getD j {})))
  let right := fun (i : Nat) => Q.sum (points.map (fun x => Q.mul (x.1.getD i {}) x.2))
  let rows := (List.range k).map (fun i => (List.range k).map (entry i) ++ [right i])
  (eliminate k 0 [] rows).map (fun m => m.map (fun r => r.getD k {}))

end Sys2Proof.Machine
end

