-- ==== Sys2Proof/Machine/Syn.lean ====
section
/-! DEFINITION. Sys2Proof/Machine/Syn.lean: synchronisation and holdover (spec/11_synchronisation.md, R226 to R247). -/
namespace Sys2Proof.Machine.Syn
open Sys2Proof Sys2Proof.Machine

/-- SYN.REF_STAT[i].STATE (Table SYN-3): 0 FAILED, 1 WTR, 2 QUALIFIED, 3 DRIFT_WATCH, 4 DISQUALIFIED. -/
def state (s : State) (i : Nat) : Nat := s.get F.SYN_REF_STAT_STATE i
/-- SYN.STAT.LOOP (Table SYN-4): 0 FREERUN, 1 ACQUIRE, 2 LOCKED, 3 HOLDOVER. -/
def loop (s : State) : Nat := s.get F.SYN_STAT_LOOP
/-- The selected input; 15 for none. -/
def sel (s : State) : Nat := s.get F.SYN_STAT_SEL

def input (s : State) (i : Nat) : SynInput := Store.get {} s.syn.inputs i
def setInput (i : Nat) (x : SynInput) (s : State) : State := { s with syn := { s.syn with inputs := Store.put {} s.syn.inputs i x } }

/-! ### Quality levels (R228, R235) -/

/-- The rank of a code under the option in use (Table SYN-2); none where it is not selectable or has no entry. -/
def rank (s : State) (c : Nat) : Option Nat :=
  if s.on F.SYN_CTRL_QL_OPT then
    match c with
    | 1 => some 1 | 0 => some 2 | 7 => some 3 | 4 => some 4 | 13 => some 5 | 10 => some 6 | 12 => some 7 | 14 => some 8
    | _ => none
  else
    match c with
    | 2 => some 1 | 4 => some 2 | 8 => some 3 | 11 => some 4
    | _ => none

/-- A code without an entry is treated as DNU or DUS. -/
def known (s : State) (c : Nat) : Nat := if (rank s c).isSome then c else 15

/-- The peer link is failed (R227). -/
def peerFailed (s : State) : Bool := !s.on F.PEER_STAT_LINK

/-- The effective QL of input i (R228); 16 FAILED. -/
def effQl (s : State) (i : Nat) : Nat :=
  if s.on F.SYN_REF_CFG_QL_SRC i && i == 2 then
    if s.on F.FRM_SSM_RX_VALID then known s (s.get F.FRM_SSM_RX_SSM)
    else if s.get F.SYN_QL_CFG_QL_TMO ≠ 0 ∧ s.on H.SYN_LINE_OK then known s (s.get F.FRM_SSM_RX_SSM) else 16
  else if s.on F.SYN_REF_CFG_QL_SRC i && i == 7 then
    if peerFailed s then 16 else known s (s.get H.SYN_PEER_QL)
  else if s.on H.SYN_QL_OK i then known s (s.get F.SYN_REF_QL_QL i) else 16

/-- OUT_QL (R235). -/
def outQl (s : State) : Nat :=
  if loop s = 1 ∨ loop s = 2 then min 15 (s.get F.SYN_REF_STAT_QL_EFF (sel s)) else s.get F.SYN_QL_CFG_OWN_QL

/-- Input i meets R231 but for the exclusion of R233. -/
def fit (s : State) (i : Nat) : Bool :=
  let worst := (rank s (s.get F.SYN_QL_CFG_OWN_QL)).getD 99
  s.on F.SYN_REF_CFG_EN i && s.get F.SYN_REF_CFG_PRI i != 0 && (state s i == 2 || (state s i == 3 && sel s == i)) &&
  (!s.on F.SYN_CTRL_QL_EN || (match rank s (s.get F.SYN_REF_STAT_QL_EFF i) with
    | some r => decide (r ≤ worst)
    | none => false))

/-- A SYNC_OUT runs (R240). -/
def runs (s : State) (o : Nat) : Bool :=
  let below := match rank s (s.get F.SYN_STAT_OUT_QL), rank s (s.get F.SYN_OUT_CFG_SQ_QL o) with
    | some a, some b => decide (b < a)
    | none, some _ => true
    | _, none => false
  s.on F.SYN_OUT_CFG_EN o && s.get F.SYN_OUT_FREQ_HZ o != 0 &&
  !(s.on F.SYN_OUT_CFG_SQ_FREERUN o && loop s == 0) && !(s.on F.SYN_OUT_CFG_SQ_QL_EN o && below)

/-- What the pair partner is passed: OUT_QL, or 0xF while input 7 is selected (R235, R338). -/
def passed (s : State) : Nat := if sel s = 7 then 15 else s.get F.SYN_STAT_OUT_QL

/-- The partner receives the quality level as it changes, and once the link is up (R235, R338). -/
def passQl (s : State) : State :=
  if peerFailed s then s.put H.SYN_QL_SENT 16
  else if s.get H.SYN_QL_SENT = passed s then s
  else (s.emit (.peer 10 [passed s])).put H.SYN_QL_SENT (passed s)

/-- What SYN shows follows its state: quality levels, eligibility, outputs (R228, R231, R235, R240). -/
def refresh (s : State) : State :=
  let s := if s.on F.FRM_SSM_RX_VALID then s.set H.SYN_LINE_OK else s
  let s := s.each 8 (fun i t =>
    let q := effQl t i
    if q = t.get F.SYN_REF_STAT_QL_EFF i then t else (t.put F.SYN_REF_STAT_QL_EFF q i).set F.SYN_INT_CAUSE_QL_CHG)
  let s := s.each 8 (fun i t => t.put F.SYN_REF_STAT_ELIGIBLE (b01 (fit t i && !t.on F.SYN_REF_STAT_DISAGREE i)) i)
  let s := s.put F.SYN_STAT_SEL_QL (if sel s = 15 then 15 else min 15 (s.get F.SYN_REF_STAT_QL_EFF (sel s)))
  let s := passQl (s.put F.SYN_STAT_OUT_QL (outQl s))
  s.each 6 (fun o t => t.put H.SYN_OUT_RUN (b01 (runs t o)) o)

/-- The partner's quality level arrives (R228, R235). -/
def peerQl (q : Nat) (s : State) : State := if peerFailed s then s else refresh (s.put H.SYN_PEER_QL q)

/-! ### The loop and the selection (R231 to R234) -/

/-- The quarantine queue is discarded (R236). -/
def dropQuarantine (s : State) : State := { s with syn := { s.syn with quarantine := [] } }

/-- The loop takes a state of Table SYN-4. -/
def setLoop (n : Nat) (s : State) : State :=
  if loop s = n then s
  else
    let s := (s.put F.SYN_STAT_LOOP n).set F.SYN_INT_CAUSE_LOOP_CHG
    if n = 2 then s else (dropQuarantine s).clr H.SYN_LOCK_FULL

/-- HOLDOVER with a valid model, else FREERUN (R234). -/
def coast (s : State) : State := setLoop (if s.on F.SYN_STAT_MODEL_VALID then 3 else 0) s

/-- Without a selection ACQUIRE and LOCKED end. -/
def unlocked (s : State) : State := if loop s = 1 ∨ loop s = 2 then coast s else s

/-- A selection, 15 for none (R232). -/
def setSel (n : Nat) (s : State) : State :=
  if sel s = n then s else dropQuarantine ((s.put F.SYN_STAT_SEL n).set F.SYN_INT_CAUSE_SEL_CHG)

/-- R233 for two inputs that disagree: a is excluded (true) or b is. -/
def excludesFirst (s : State) (a b : Nat) : Bool :=
  let half := Q.mk' (s.get F.SYN_DISAGREE_PPB_PPB) 2
  let off := fun i => Q.abs (input s i).yh
  let smaller := Q.lt (off b) (off a)
  if s.on F.SYN_STAT_MODEL_VALID then
    if sel s = a then !Q.le (off a) half && smaller
    else if sel s = b then Q.le (off b) half || smaller
    else smaller
  else if sel s = a then false
  else if sel s = b then true
  else decide ((input s b).x.natAbs < (input s a).x.natAbs)

/-- Inputs a and b are eligible, of equal rank, and disagree (R233). -/
def disagree (s : State) (a b : Nat) : Bool :=
  fit s a && fit s b && s.get F.SYN_REF_CFG_PRI a == s.get F.SYN_REF_CFG_PRI b &&
  (!s.on F.SYN_CTRL_QL_EN || rank s (s.get F.SYN_REF_STAT_QL_EFF a) == rank s (s.get F.SYN_REF_STAT_QL_EFF b)) &&
  !Q.le (Q.abs (Q.sub (input s a).yh (input s b).yh)) (Q.int (s.get F.SYN_DISAGREE_PPB_PPB))

/-- The pairs of inputs, the lower first. -/
def pairs : List (Nat × Nat) := (List.range 8).flatMap (fun a => ((List.range 8).filter (fun b => decide (a < b))).map (fun b => (a, b)))

/-- The disagreement rule of R233, judged each second. -/
def judgeDisagreement (s : State) : State :=
  let out := pairs.foldl (fun (l : List Nat) p =>
    if l.contains p.1 || l.contains p.2 || !disagree s p.1 p.2 then l
    else (if excludesFirst s p.1 p.2 then p.1 else p.2) :: l) []
  s.each 8 (fun i t =>
    let x := out.contains i
    let t := if x && !t.on F.SYN_REF_STAT_DISAGREE i then t.set F.SYN_INT_CAUSE_REF_DISAGREE else t
    t.put F.SYN_REF_STAT_DISAGREE (b01 x) i)

/-- The rank that selection compares: all are equal where QL_EN is 0 (R232). -/
def order (s : State) (i : Nat) : Nat :=
  if s.on F.SYN_CTRL_QL_EN then (rank s (s.get F.SYN_REF_STAT_QL_EFF i)).getD 99 else 0

/-- The input that R232 selects; 15 for none. -/
def choice (s : State) : Nat :=
  if !s.on F.SYN_CTRL_EN then 15
  else if s.on F.SYN_SEL_CTRL_FORCE then
    let i := s.get F.SYN_SEL_CTRL_REF
    if state s i = 0 ∨ state s i = 4 then 15 else i
  else
    let ok := (List.range 8).filter (fun i => s.on F.SYN_REF_STAT_ELIGIBLE i)
    let best := ok.foldl (fun a i => min a (order s i)) 100
    let now := sel s
    if !s.on F.SYN_CTRL_REVERTIVE && ok.contains now && order s now == best then now
    else
      let ql := ok.filter (fun i => order s i == best)
      let pri := ql.foldl (fun a i => min a (s.get F.SYN_REF_CFG_PRI i)) 100
      let tied := ql.filter (fun i => s.get F.SYN_REF_CFG_PRI i == pri)
      if tied.contains now then now else tied.head?.getD 15

/-- The loop follows the selection (R234). `changed` says that another input is selected. -/
def follow (changed : Bool) (s : State) : State :=
  if !s.on F.SYN_CTRL_EN then setLoop 0 s
  else if s.on F.SYN_CTRL_FORCE_HO then coast s
  else if sel s = 15 then unlocked s
  else if changed || loop s == 0 || loop s == 3 then setLoop 1 s
  else s

/-- SELECTION (R232, R234). -/
def selection (s : State) : State :=
  if !Rest.awake s then s
  else
    let s := refresh s
    let n := choice s
    refresh (follow (n != sel s) (setSel n s))

/-- LOOP_LOCK (R234). -/
def loopLock (s : State) : State := if loop s = 1 then refresh (setLoop 2 s) else s

/-! ### Input states (R227, R230) -/

/-- The conditions of R227 that the device's own state shows; the edges of REFIN are seen from outside. -/
def failing (s : State) (i : Nat) : Bool :=
  !s.on F.SYN_REF_CFG_EN i || (s.on F.SYN_CTRL_QL_EN && s.get F.SYN_REF_STAT_QL_EFF i == 16) ||
  (match i with
   | 0 | 1 => false
   | 2 => Frm.onTree s || Lrx.state s != 5 || (Frm.rawLine s &&& 3) != 0
   | 7 => peerFailed s
   | n => s.on F.HSL_RCLK_SEL_SQUELCHED (n - 3))

/-- An input whose source is powered down in REST is not judged until the device is awake again (R246). -/
def dormant (s : State) (i : Nat) : Bool := decide (2 ≤ s.get F.PWR_REST_STAT_STATE) && decide (2 ≤ i) && decide (i ≤ 6)

/-- An input enters a state of Table SYN-3. -/
def setState (i n : Nat) (s : State) : State :=
  let s := (((s.put F.SYN_REF_STAT_STATE n i).clr H.SYN_GOOD i).clr H.SYN_OVER i).clr H.SYN_OVER2 i
  let s := s.put F.SYN_REF_STAT_WTR_LEFT (if n = 1 then s.get F.SYN_QUAL_CFG_WTR_S else 0) i
  let s := if n ≠ 2 ∧ sel s = i then (dropQuarantine s).clr H.SYN_LOCK_FULL else s
  match n with
  | 0 => setInput i {} (s.set F.SYN_INT_CAUSE_REF_FAIL)
  | 2 => s.set F.SYN_INT_CAUSE_REF_QUAL
  | 3 => s.set F.SYN_INT_CAUSE_REF_DRIFT
  | 4 => s.set F.SYN_INT_CAUSE_REF_DQ
  | _ => s

/-- REF_FAIL (R227): `lost` says that the input shows no activity. When the selected input fails the loop enters HOLDOVER or FREERUN
within 1 ms (R234); SELECTION follows (Table SYN-6). -/
def refFail (i lost : Nat) (s : State) : State :=
  let s := refresh s
  if decide (i < 8) && state s i != 0 && !dormant s i && (failing s i || lost != 0) then
    let s := setState i 0 s
    refresh (if sel s = i then unlocked (setSel 15 s) else s)
  else s

/-- REF_RESTORE (R230). -/
def refRestore (i : Nat) (s : State) : State :=
  let s := refresh s
  if s.on F.SYN_CTRL_EN && decide (i < 8) && state s i == 0 && !dormant s i && !failing s i then refresh (setState i 1 s) else s

/-- FILT, limited to 4 to 10. -/
def filt (s : State) : Nat := max 4 (min 10 (s.get F.SYN_QUAL_CFG_FILT))

/-- TOL in ppb. -/
def tol (s : State) (i : Nat) : Nat := 10 * s.get F.SYN_REF_CFG_TOL i

/-- |v| is below n/10 of TOL. -/
def within (s : State) (i n : Nat) (v : Q) : Bool := Q.lt (Q.abs v) (Q.mk' (n * tol s i : Nat) 10)

/-- WTR_COMPLETE (R230): yf is loaded with the mean of the last 2^FILT seconds. -/
def wtrComplete (i : Nat) (s : State) : State :=
  if decide (i < 8) && state s i == 1 && decide (s.get F.SYN_QUAL_CFG_WTR_S ≤ s.get H.SYN_GOOD i) then
    let x := input s i
    let l := x.recent.take (2 ^ filt s)
    let m := if l.isEmpty then {} else Q.div (Q.sum l) (Q.int l.length)
    refresh (setState i 2 (setInput i { x with yf := m } s))
  else s

/-- DRIFT_WATCH_END (R230). -/
def driftWatchEnd (i : Nat) (s : State) : State :=
  if decide (i < 8) && state s i == 3 && decide (s.get F.SYN_QUAL_CFG_WTR_S ≤ s.get H.SYN_GOOD i) then refresh (setState i 2 s) else s

/-- REF_DQ (R230). -/
def refDq (i : Nat) (s : State) : State :=
  let exceeds := decide (max 1 (s.get F.SYN_QUAL_CFG_DQ_S) ≤ s.get H.SYN_OVER i) || decide (3 ≤ s.get H.SYN_OVER2 i)
  if decide (i < 8) && (state s i == 2 || state s i == 3) && exceeds then refresh (setState i 4 s) else s

/-- QL_TMO (R228): `seconds` since the last write of REF_QL[i], or since FRM.SSM_RX.VALID ended. -/
def qlTimeout (i seconds : Nat) (s : State) : State :=
  let t := s.get F.SYN_QL_CFG_QL_TMO
  if t = 0 ∨ seconds < t ∨ 7 < i then s
  else if s.on F.SYN_REF_CFG_QL_SRC i && i == 2 then
    if !s.on F.FRM_SSM_RX_VALID && s.on H.SYN_LINE_OK then refresh ((s.clr H.SYN_LINE_OK).set F.SYN_INT_CAUSE_QL_TMO) else s
  else if s.on F.SYN_REF_CFG_QL_SRC i && i == 7 then s
  else if s.on H.SYN_QL_OK i then refresh ((s.clr H.SYN_QL_OK i).set F.SYN_INT_CAUSE_QL_TMO) else s

/-- REF_QL_WRITE (R228). -/
def writeRefQl (i v : Nat) (s : State) : State := if i < 8 then refresh ((s.put F.SYN_REF_QL_QL v i).set H.SYN_QL_OK i) else s

/-- What is conditional on SYN's configuration after a write of SYN.CTRL (R232, R234). -/
def writeCtrl (v : Nat) (s : State) : State :=
  let s := (((((s.put F.SYN_CTRL_EN (slice v 0 1)).put F.SYN_CTRL_QL_EN (slice v 1 1)).put F.SYN_CTRL_QL_OPT (slice v 2 1)).put
    F.SYN_CTRL_REVERTIVE (slice v 3 1)).put F.SYN_CTRL_PBO (slice v 4 1)).put F.SYN_CTRL_FORCE_HO (slice v 5 1)
  let s := s.put F.SYN_CTRL_BW (slice v 6 2)
  refresh (if !s.on F.SYN_CTRL_EN then setLoop 0 (setSel 15 s) else if s.on F.SYN_CTRL_FORCE_HO then coast s else s)

/-! ### Holdover (R236 to R239) -/

/-- T(θ) in ppb (R237). -/
def tempTerm (s : State) (theta : Q) : Q :=
  let m := s.get F.SYN_HO_MODE_TC_MODE
  if m = 1 ∨ m = 2 then
    let d := Q.sub theta (Q.int 25)
    let c := fun j e => Q.mk' (s.sget F.SYN_HO_TC_C j) (2 ^ e)
    Q.mul d (Q.add (c 0 16) (Q.mul d (Q.add (c 1 20) (Q.mul d (c 2 24)))))
  else {}

/-- A(t) in ppb (R238); where the logarithm has no value the spec states none: a free value. -/
def ageTerm (s : State) (time : Nat) : Q :=
  let m := s.get F.SYN_HO_MODE_AGE_MODE
  if m = 1 ∨ m = 2 then
    let d := Q.mk' ((time : Int) - (s.get F.SYN_HO_AGE_START_T_START : Int)) 86400
    let arg := Q.add (Q.int 1) (Q.div d (Q.int (max 1 (s.get F.SYN_HO_AGE_T_D0))))
    let a := fun j => Q.mk' (s.sget F.SYN_HO_AGE_A j) 65536
    if Q.lt {} arg then Q.add (Q.mul (a 0) d) (Q.mul (a 1) (lnQ arg)) else Q.mk' (signed 32 (s.free 32)) 65536
  else {}

def time (s : State) : Nat := s.get F.SYN_TIME_HI_VAL

/-- θ now (R237): the code of the sequence entry's latest result (R292). -/
def theta (s : State) : Q :=
  let e := s.get F.SYN_HO_MODE_TEMP_SEQ
  let r := s.sget H.HKA_CODE e
  Q.add (Q.mk' (s.sget F.SYN_HO_TEMP_CAL_OFFSET) 16) (Q.mk' (s.sget F.SYN_HO_TEMP_CAL_GAIN * r) 4096)

/-- f_base (R239). -/
def base (s : State) : Q :=
  let h := max 1 (s.get F.SYN_HO_CFG_HALF_S)
  let terms := s.syn.history.map (fun x =>
    let w := pow2neg (s.syn.seconds - x.second) h
    (w, Q.mul w (Q.sub (Q.sub (Q.mk' x.f 1000) (tempTerm s x.theta)) (ageTerm s x.time))))
  let ws := Q.sum (terms.map Prod.fst)
  if ws.isZero then {} else Q.div (Q.sum (terms.map Prod.snd)) ws

/-- f_HO(t) (R239). -/
def prediction (s : State) : Q := Q.add (base s) (Q.add (tempTerm s (theta s)) (ageTerm s (time s)))

/-- The model's registers follow the history (R239). -/
def showModel (s : State) : State :=
  let n := s.syn.history.length
  let valid := decide (s.get F.SYN_HO_CFG_MIN_S ≤ n) && decide (0 < n)
  let s := (s.put F.SYN_HO_STAT_SAMPLES n).put F.SYN_STAT_MODEL_VALID (b01 valid)
  let s := s.put F.SYN_HO_STAT_AGE_S (match s.syn.history.getLast? with
    | some x => min 65535 (s.syn.seconds - x.second)
    | none => 65535)
  if valid then s.sput F.SYN_HO_FREQ_F (sat 32 (Q.round (Q.mul (prediction s) (Q.int 65536)))) else s

/-- QUARANTINE_EXIT (R236): the oldest sample whose quarantine is over enters the history, which holds 3,600. -/
def quarantineExit (s : State) : State :=
  match s.syn.quarantine with
  | [] => s
  | x :: rest =>
    if s.syn.seconds < x.second + s.get F.SYN_HO_CFG_QUAR_S then s
    else
      let h := s.syn.history ++ [x]
      showModel { s with syn := { s.syn with quarantine := rest, history := h.drop (h.length - 3600) } }

/-- The span of θ in the history. -/
def span (l : List Sample) : Q :=
  match l with
  | [] => {}
  | x :: rest =>
    let lo := rest.foldl (fun a y => if Q.lt y.theta a then y.theta else a) x.theta
    let hi := rest.foldl (fun a y => if Q.lt a y.theta then y.theta else a) x.theta
    Q.sub hi lo

/-- A write of HO_TC[j]: only in TC_MODE 2 (R237). -/
def writeTc (j v : Nat) (s : State) : State := if s.get F.SYN_HO_MODE_TC_MODE = 2 then s.put F.SYN_HO_TC_C v j else s

/-- A write of HO_AGE[j]: a1 is learned in AGE_MODE 2 (R238). -/
def writeAge (j v : Nat) (s : State) : State := if j = 0 ∧ s.get F.SYN_HO_MODE_AGE_MODE = 2 then s else s.put F.SYN_HO_AGE_A v j

/-- TC_FIT (R237): with a constant term, after removing the ageing term; a history without a unique fit changes nothing. -/
def tcFit (s : State) : State :=
  if s.get F.SYN_HO_MODE_TC_MODE ≠ 1 then s
  else
    let sp := span s.syn.history
    let k := if Q.le (Q.int 6) sp then 3 else if Q.le (Q.int 2) sp then 1 else 0
    if k = 0 then s
    else
      let pts := s.syn.history.map (fun x =>
        let d := Q.sub x.theta (Q.int 25)
        ([Q.int 1, d, Q.mul d d, Q.mul d (Q.mul d d)].take (k + 1), Q.sub (Q.mk' x.f 1000) (ageTerm s x.time)))
      match fitLeast (k + 1) pts with
      | none => s
      | some c =>
        let s := s.each 3 (fun j t => t.sput F.SYN_HO_TC_C
          (sat 32 (Q.round (Q.mul (c.getD (j + 1) {}) (Q.int ((2 ^ (16 + 4 * j) : Nat) : Int))))) j)
        showModel (s.put F.SYN_HO_STAT_TC_ORDER k)

/-- The hourly base frequency, and a1 from it (R238, AGE_MODE 2). -/
def hourly (s : State) : State :=
  if s.syn.seconds % 3600 ≠ 0 ∨ s.on F.SYN_HO_STAT_FROZEN ∨ !s.on F.SYN_STAT_MODEL_VALID then s
  else
    let l := s.syn.hourly ++ [(time s, Q.round (Q.mul (base s) (Q.int 65536)))]
    let l := l.drop (l.length - 48)
    let s := { s with syn := { s.syn with hourly := l } }
    if s.get F.SYN_HO_MODE_AGE_MODE = 2 ∧ 2 ≤ l.length then
      s.sput F.SYN_HO_AGE_A (sat 32 (Q.round (slopeAt (l.map (fun x => (Q.mk' x.1 86400, Q.int x.2)))))) 0
    else s

/-! ### The one-second tick (R229, R230, R236, R244) -/

/-- A counter of input i that counts seconds in a row. -/
def bump (f : Field) (i : Nat) (c : Bool) (s : State) : State := if c then s.count f 1 i else s.clr f i

/-- REF_MEASURE of input i (R229): x in 0.001 ppb. -/
def measure (i : Nat) (x : Int) (s : State) : State :=
  let m : Q := if s.on F.SYN_STAT_MODEL_VALID then prediction s else {}
  let a := input s i
  let n := Q.int ((2 ^ filt s : Nat) : Int)
  let y1 := Q.add (Q.mk' x 1000) m
  let yf := Q.add a.yf (Q.div (Q.sub y1 a.yf) n)
  let recent := (y1 :: a.recent).take 1024
  let r := slope (recent.take 256).reverse
  let yh := Q.add yf (Q.mul r n)
  let p := Q.add yh (Q.mul r (Q.int (s.get F.SYN_QUAL_CFG_HORIZON_S)))
  let s := setInput i ⟨x, recent, yf, r, yh, p⟩ s
  let s := s.sput F.SYN_REF_OFS_VAL (sat 32 (Q.round (Q.mul yh (Q.int 1000)))) i
  let s := s.sput F.SYN_REF_RATE_VAL (sat 32 (Q.round (Q.mul r (Q.int 1000000)))) i
  match state s i with
  | 1 =>
    let s := bump H.SYN_GOOD i (within s i 7 y1) s
    s.put F.SYN_REF_STAT_WTR_LEFT (s.get F.SYN_QUAL_CFG_WTR_S - s.get H.SYN_GOOD i) i
  | 2 =>
    let s := bump H.SYN_OVER2 i (!within s i 20 y1) (bump H.SYN_OVER i (!within s i 10 yh) s)
    if within s i 8 yh && within s i 8 p then s
    else
      let o := s.get H.SYN_OVER i
      let o2 := s.get H.SYN_OVER2 i
      ((setState i 3 s).put H.SYN_OVER o i).put H.SYN_OVER2 o2 i
  | 3 => bump H.SYN_GOOD i (within s i 7 yh && within s i 7 p) (bump H.SYN_OVER2 i (!within s i 20 y1) (bump H.SYN_OVER i (!within s i 10 yh) s))
  | 4 => if within s i 7 y1 then setState i 1 s else s
  | _ => s

/-- HO_SAMPLE (R236): the offset of XO_IN in 0.001 ppb over the second. -/
def sample (xo : Int) (s : State) : State :=
  let forms := loop s == 2 && s.on H.SYN_LOCK_FULL && decide (sel s < 8) && state s (sel s) == 2 && !s.on F.SYN_SEL_CTRL_FORCE
  let s := (s.put F.SYN_HO_STAT_FROZEN (b01 (!forms))).put H.SYN_LOCK_FULL (b01 (loop s == 2))
  if forms then { s with syn := { s.syn with quarantine := s.syn.quarantine ++ [⟨xo, theta s, time s, s.syn.seconds⟩] } } else s

/-- The time counter at a one-second tick (R244): TIME_SET_APPLY, or the increment. -/
def timeStep (s : State) : State :=
  let s := if s.on F.SYN_TIME_CTRL_SET_PEND then
      ((s.put F.SYN_TIME_HI_VAL (s.get F.SYN_TIME_SET_S_VAL)).clr F.SYN_TIME_CTRL_SET_PEND).set F.SYN_INT_CAUSE_TIME_SET
    else s.countWrap F.SYN_TIME_HI_VAL
  let s := s.clr F.SYN_TIME_LO_VAL
  if s.on F.SYN_PPS_CFG_OUT_EN then s.emit (.pulse (max 1 (s.get F.SYN_PPS_CFG_WIDTH_US))) else s

/-- SYN's part of a one-second tick. -/
def second (d : Second) (s : State) : State :=
  let s := timeStep s
  let s := { s with syn := { s.syn with seconds := s.syn.seconds + 1 } }
  let s := (s.sput F.SYN_HO_TEMP_THETA (sat 16 (Q.round (Q.mul (theta s) (Q.int 64))))).put F.SYN_HO_TEMP_VALID
    (s.get H.HKA_FRESH (s.get F.SYN_HO_MODE_TEMP_SEQ))
  let s := s.wipe H.HKA_FRESH
  let s := if s.on F.SYN_CTRL_EN then
      judgeDisagreement (s.each 8 (fun i t =>
        match d.refs.getD i none with
        | some x => if state t i != 0 && !dormant t i then measure i x t else t
        | none => t))
    else s
  refresh (hourly (showModel (sample d.xo s))).drew

/-! ### What moves between the events of an output (R241, R243) -/

/-- The loop frequency, in 2^-16 ppb: 0 in FREERUN, f_HO in HOLDOVER; of a loop that follows an input no register shows it: a free value. -/
def loopFreq (s : State) : Nat :=
  match loop s with
  | 0 => 0
  | 3 => s.get F.SYN_HO_FREQ_F
  | _ => s.free 32

/-- A tick of 10 ms of the ramp of output p's NCO, n ticks before its end (R243). -/
def rampTick (p : Nat) (s : State) : State :=
  let n := s.get H.SYN_NCO_RAMP p
  if n = 0 ∨ s.on F.SYN_NCO_CTRL_OPEN p then s
  else
    let f := s.sget F.SYN_NCO_FREQ_F p
    ((s.sput F.SYN_NCO_FREQ_F (f + (signed 32 (loopFreq s) - f) / n) p).put H.SYN_NCO_RAMP (n - 1) p).drew

/-- A tick of 10 ms of the step of output o: its phase moves by SLEW ns/s; the last of it is the completion's (R241). -/
def slewTick (o : Nat) (s : State) : State :=
  let a := s.sget F.SYN_PSTEP_AMOUNT o
  let d : Int := 10 * max 1 (s.get F.SYN_PSTEP_CFG_SLEW)
  if d < a then s.sput F.SYN_PSTEP_AMOUNT (a - d) o
  else if a < -d then s.sput F.SYN_PSTEP_AMOUNT (a + d) o
  else s

/-- SYN's part of a 10 ms tick, the n-th of its second: the counter, the age of the last PPS_IN edge (R245), the 1 ms of R242, the steps of R241
and the ramps of R243. -/
def tenMs (n : Nat) (s : State) : State :=
  let s := s.put F.SYN_TIME_LO_VAL (n % 100 * 10000000)
  let s := s.put H.SYN_PPS_AGE (min 127 (s.get H.SYN_PPS_AGE + 1))
  let s := if 110 < s.get H.SYN_PPS_AGE then s.clr F.SYN_PPS_IN_ERR_VALID else s
  let s := (s.each 8 slewTick).each 2 rampTick
  s.each 128 (fun m t => match t.get H.SYN_KEYSTEP m with
    | 2 => t.put H.SYN_KEYSTEP 3 m
    | 3 => t.clr H.SYN_KEYSTEP m
    | _ => t)

/-! ### Outputs and phase steps (R241) -/

/-- PSTEP_WRITE (R241): AMOUNT in ps, two's complement of 20 bits. -/
def pstep (o v : Nat) (s : State) : State :=
  if 7 < o then s
  else if s.leaf && o == 0 then s.set F.SYS_INT_CAUSE_ROLE_LIMIT
  else
    let a := s.sget F.SYN_PSTEP_AMOUNT o + signed 20 (v % 2 ^ 20)
    if -500000 ≤ a ∧ a ≤ 500000 then s.sput F.SYN_PSTEP_AMOUNT a o else s.set F.SYN_INT_CAUSE_PSTEP_RANGE

/-- PSTEP_DONE (R241). -/
def pstepDone (o : Nat) (s : State) : State :=
  if s.on F.SYN_PSTEP_AMOUNT o then (s.clr F.SYN_PSTEP_AMOUNT o).set F.SYN_INT_CAUSE_PSTEP_DONE else s

/-! ### Opening the loop (R242, R243) -/

/-- The masters that may open a loop: F0 to F7, SE, a lane engine at SUPER privilege. -/
def mayOpen (who : Pmc.Who) : Bool :=
  Mbx.isHost who.master || who.master == 9 || (decide (16 ≤ who.master) && decide (who.master < 80) && !who.user)

def privErr (s : State) : State := s.set F.SYN_INT_CAUSE_PRIV_ERR

/-- PRIV_KEY_WRITE. -/
def privKey (who : Pmc.Who) (v : Nat) (s : State) : State :=
  if mayOpen who && v == 0x0C48A30E then s.put H.SYN_KEYSTEP 1 who.master
  else if mayOpen who && v == 0x5E7A91D2 && s.get H.SYN_KEYSTEP who.master == 1 then s.put H.SYN_KEYSTEP 2 who.master
  else privErr (s.clr H.SYN_KEYSTEP who.master)

/-- Another SYN write of the master's own between the two keys ends its sequence. -/
def otherWrite (m : Nat) (s : State) : State := if s.get H.SYN_KEYSTEP m = 1 then s.clr H.SYN_KEYSTEP m else s

/-- LOOP_OPEN: output p, 0 or 1, within `us` microseconds of the second key. -/
def openLoop (who : Pmc.Who) (p us : Nat) (s : State) : State :=
  let m := who.master
  if s.on F.SYN_NCO_CTRL_OPEN p && s.get F.SYN_NCO_CTRL_OWNER p == m then s
  else if mayOpen who && decide (p < 2) && decide (2 ≤ s.get H.SYN_KEYSTEP m) && decide (us ≤ 1000) && !s.on F.SYN_NCO_CTRL_OPEN p &&
      !(s.leaf && p == 0) then
    (((((s.set F.SYN_NCO_CTRL_OPEN p).put F.SYN_NCO_CTRL_OWNER m p).put F.SYN_NCO_FREQ_F (loopFreq s) p).clr H.SYN_KEYSTEP m).clr
      H.SYN_NCO_RAMP p).drew
  else privErr (s.clr H.SYN_KEYSTEP m)

/-- Output p closes; its NCO ramps to the loop frequency over the next second (R243). -/
def close (p : Nat) (s : State) : State := ((s.clr F.SYN_NCO_CTRL_OPEN p).clr F.SYN_NCO_CTRL_OWNER p).put H.SYN_NCO_RAMP 100 p

/-- LOOP_CLOSE: the owner writes OPEN = 0. -/
def closeLoop (who : Pmc.Who) (p : Nat) (s : State) : State :=
  if s.on F.SYN_NCO_CTRL_OPEN p && s.get F.SYN_NCO_CTRL_OWNER p == who.master then close p s else privErr s

/-- NCO_FREQ_WRITE. -/
def ncoFreq (who : Pmc.Who) (p v : Nat) (s : State) : State :=
  if s.on F.SYN_NCO_CTRL_OPEN p && s.get F.SYN_NCO_CTRL_OWNER p == who.master then s.put F.SYN_NCO_FREQ_F v p else privErr s

/-- MAX_OPEN_EXPIRY (R243): output p's loop has been open for `seconds`. -/
def maxOpen (p seconds : Nat) (s : State) : State :=
  let m := s.get F.SYN_PRIV_CFG_MAX_OPEN_S
  if s.on F.SYN_NCO_CTRL_OPEN p && m != 0 && decide (m ≤ seconds) then (close p s).set F.SYN_INT_CAUSE_PRIV_CLOSED else s

/-- The owner of an open loop is reset (R243). -/
def ownerReset (m : Nat) (s : State) : State :=
  (s.clr H.SYN_KEYSTEP m).each 2 (fun p t =>
    if t.on F.SYN_NCO_CTRL_OPEN p && t.get F.SYN_NCO_CTRL_OWNER p == m then (close p t).set F.SYN_INT_CAUSE_PRIV_CLOSED else t)

/-! ### Time (R244, R245) -/

/-- TIME_SET. -/
def armSet (s : State) : State := s.set F.SYN_TIME_CTRL_SET_PEND

/-- TIME_ALIGN. -/
def armAlign (s : State) : State := s.set F.SYN_TIME_CTRL_ALIGN_PEND

/-- PPS_IN_EDGE (R245): `ns` is the time since the last one-second tick; `tick` is the rest of a one-second tick, which an armed alignment
generates. -/
def ppsEdge (ns : Nat) (tick : State → State) (s : State) : State :=
  let s := if s.on F.SYN_PPS_CFG_IN_EN then
      let n := ns % 1000000000
      let e : Int := if n ≤ 500000000 then (n : Int) else (n : Int) - 1000000000
      ((s.sput F.SYN_PPS_IN_ERR_ERR e).set F.SYN_PPS_IN_ERR_VALID).clr H.SYN_PPS_AGE
    else s
  if s.on F.SYN_TIME_CTRL_ALIGN_PEND then tick ((s.clr F.SYN_TIME_CTRL_ALIGN_PEND).set F.SYN_INT_CAUSE_PPS_ALIGN) else s

/-! ### REST (R246) -/

/-- Entry to REST: the loop coasts; an input in WTR whose source is powered down starts its count again. -/
def restEnter (s : State) : State :=
  let s := if s.on F.SYN_CTRL_EN then coast s else s
  refresh (s.each 8 (fun i t => if state t i == 1 && decide (2 ≤ i) && decide (i ≤ 6) then
    (t.clr H.SYN_GOOD i).put F.SYN_REF_STAT_WTR_LEFT (t.get F.SYN_QUAL_CFG_WTR_S) i else t))

end Sys2Proof.Machine.Syn
end

