-- ==== Sys2Proof/Machine/Peer.lean ====
section
/-! DEFINITION. Sys2Proof/Machine/Peer.lean: the redundant hub pair (spec/16_redundant_pair.md). A message to the partner is an
`Emit.peer`: kind 1 a mailbox post, 2 mirrored items, 3 the bulk copy of them, 4 an EqD for the active, 5 HANDOVER with its trigger,
6 a TX_PH, 7 a counter mirror, 8 a SWITCH request, 9 an entry of the flow table, 10 a quality level (notes/assumptions/20.md). -/
namespace Sys2Proof.Machine.Peer
open Sys2Proof Sys2Proof.Machine

def state (s : State) : Nat := s.get F.PEER_STAT_STATE

/-! ### States (R340 to R342) -/

/-- PEER holds LTX.CTRL.MUTE at 1 (R342, R345). -/
def hold (s : State) : State :=
  if s.on H.PEER_MUTE_HELD then s
  else Ltx.setMute 1 ((s.put H.PEER_MUTE_WAS (s.get F.LTX_CTRL_MUTE)).set H.PEER_MUTE_HELD)

/-- PEER lets LTX.CTRL.MUTE go. -/
def letGo (s : State) : State :=
  if s.on H.PEER_MUTE_HELD then Ltx.setMute (s.get H.PEER_MUTE_WAS) (s.clr H.PEER_MUTE_HELD) else s

/-- The device enters a state of Table PEER-1: the laser and MUTE follow. -/
def enter (n : Nat) (s : State) : State :=
  if state s = n then s
  else
    let s := (s.put F.PEER_STAT_STATE n).set F.PEER_INT_CAUSE_STATE_CHG
    let s := if n = 2 ∨ n = 3 then hold s else if s.on H.PEER_SETTLING then s else letGo s
    Lsr.laser (s.put F.PEER_STAT_PHASE_OK (b01 (n == 3 && s.on F.PEER_STAT_LINK)))

/-! ### Mirrored state (R343, Table PEER-2) -/

/-- The items that are mirrored field by field. -/
def mirrored : List Field :=
  [RegId.FRM_RA_CFG, .SCM_DS_NEXT, .SCM_US_NEXT, .SCM_CHG_STAT, .SCM_GRANT_SC, .SCM_GRANT_NEXT, .SCM_GRANT_ACT, .SCM_GRANT_STAT,
   .VLK_LEAF, .VLK_LEAF_ID, .VLK_LEAF_EQD, .VLK_REG_SC, .VLK_REG_CFG, .VLK_US_OFS].flatMap RegId.fields ++
  [H.LTX_ACTIVE, H.LRX_ACTIVE, H.LTX_SHADOW, H.LRX_SHADOW, H.LTX_ACT_VER, H.LTX_SHADOW_VER, H.LTX_SWAP_DUE, H.LTX_SWAP_MF,
   F.LTX_STAT_ANNOUNCED, H.LRX_ACT_VER, H.LRX_SHADOW_VER, H.LRX_SWAP_DUE, H.LRX_SWAP_MF, F.LRX_STAT_ANNOUNCED, H.SCM_LAST_VER, H.SCM_M, H.SCM_START_MF, H.SCM_SWAP_MF, H.SCM_SWAPPED, H.SCM_MF, H.SCM_ADDRESSED, H.SCM_ACKED,
   H.SCM_GRANT_LAST, H.SCM_GRANT_M, H.SCM_GRANT_START, H.SCM_GRANT_ADDR, H.SCM_GRANT_ACKED, H.SCM_GRANT_SNAP, H.VLK_LEAF_KHI, H.VLK_WAKE_BIT,
   H.VLK_REST_SET, H.VLK_REST_START, H.VLK_REST_CYCLE, H.VLK_REST_LISTEN]

/-- The element of a field that a key names. -/
def element (f : Field) (key : Nat) : Option (Nat × Nat × Nat) :=
  if key < f.lo ∨ (key - f.lo) % 8 ≠ 0 then none else f.shape.find ((key - f.lo) / 8)

/-- The mirrored item that a key names: its number and indices. -/
def item (key : Nat) : Option (Nat × Nat × Nat × Nat) :=
  mirrored.zipIdx.findSome? (fun x => (element x.1 key).map (fun e => (x.2, e)))

/-- The words of an item in a record. -/
def itemWords (s : State) (x : Nat × Nat × Nat × Nat) : List Nat :=
  [x.1, x.2.1, x.2.2.1, x.2.2.2, s.get (mirrored.getD x.1 F.SYS_ID_PART) x.2.1 x.2.2.1 x.2.2.2]

/-- Keys held differently in two tables. -/
def changed : Nat → Store Nat → Store Nat → List Nat
  | 0, _, _ => []
  | _ + 1, [], l => l.map Prod.fst
  | _ + 1, l, [] => l.map Prod.fst
  | n + 1, (k, v) :: a, (k', v') :: b =>
    if k = k' then (if v = v' then changed n a b else k :: changed n a b)
    else if k < k' then k :: changed n a ((k', v') :: b)
    else k' :: changed n ((k, v) :: a) b

/-- The flow that a key of the flow table belongs to. -/
def flowOf (key : Nat) : Option Nat := (element F.FLW_FT_DATA key).map Prod.fst

/-- A record of an entry of the flow table. -/
def flowRecord (s : State) (f : Nat) : Emit := .peer 9 (f :: Flw.entry s f)

/-- What the active sends of the change from `s` to `t` (R343). -/
def mirror (s t : State) : State :=
  if state t ≠ 4 then t
  else
    let keys := changed (s.csr.length + t.csr.length + 1) s.csr t.csr
    let items := keys.filterMap item
    let t := if items.isEmpty then t else t.emit (.peer 2 (items.flatMap (itemWords t)))
    t.eachOf (keys.filterMap flowOf).eraseDups (fun f u => u.emit (flowRecord u f))

/-- The bulk copy and the counter mirror that follow a link's coming up (R343). -/
def bulkCopy (s : State) : State :=
  let keys := s.csr.map Prod.fst
  let s := s.emit (.peer 3 ((keys.filterMap item).flatMap (itemWords s)))
  Cry.counterMirror (s.eachOf (keys.filterMap flowOf).eraseDups (fun f u => u.emit (flowRecord u f)))

/-- Mirrored items are applied, five words each. -/
def applyItems : Nat → List Nat → State → State
  | n + 1, m :: i :: j :: k :: v :: rest, s =>
    applyItems n rest (match mirrored[m]? with
      | some f => s.put f v i j k
      | none => s)
  | _, _, s => s

/-- MIRROR_RECORD (R343): a record of the active is applied whole on the standby. The partner's quality level comes to either device
(R235). -/
def record (kind : Nat) (w : List Nat) (now : Nat) (s : State) : State :=
  if kind = 10 then Syn.peerQl (w.getD 0 15) s
  else if !s.passive then s
  else match kind with
    | 2 => applyItems w.length w s
    | 3 => applyItems w.length w { s with csr := s.csr.filter (fun e => (item e.1).isNone) }
    | 6 => if w.getD 0 0 < 3072 then s.put H.CRY_TX_PH (w.getD 1 0) (w.getD 0 0) else s
    | 7 => Cry.applyMirror w s
    | 9 => if w.getD 0 0 < 3072 ∧ w.length = 6 then Flw.replace (w.getD 0 0) (w.drop 1) now s else s
    | _ => s

/-! ### The link (R335 to R339) -/

/-- Preference decides for this device (R341). -/
def preferred (s : State) (h : Hello) : Bool :=
  if s.get F.PEER_CFG_PREFER = h.prefer then s.get F.PEER_CFG_FEEDER == 0 else s.on F.PEER_CFG_PREFER

/-- The two devices can form a pair (R335). -/
def matching (s : State) (h : Hello) : Bool :=
  !s.leaf && h.hub && s.get F.PEER_CFG_FEEDER != h.feeder && s.word .LTX_LINE_CFG == h.ltxLine && s.word .LRX_LINE_CFG == h.lrxLine &&
    s.get F.FEC_CFG_RATE_TX == h.rateTx && s.get F.FEC_CFG_RATE_RX == h.rateRx && s.get F.VLK_TREE_CFG_TREE_ID == h.treeId &&
    s.get F.VLK_T_EQ_T_EQ == h.tEq

/-- The election at link-up (R341). -/
def elect (h : Hello) (s : State) : State :=
  let mine := state s == 5
  let theirs := h.state == 5
  if mine && !theirs then bulkCopy (enter 4 (s.put H.PEER_PARTNER 2))
  else if !mine && theirs then enter 2 (s.put H.PEER_PARTNER 4)
  else if preferred s h then bulkCopy (enter 4 (s.put H.PEER_PARTNER 2))
  else enter 2 (if mine then (s.put H.PEER_PARTNER 4).set F.PEER_INT_CAUSE_SPLIT else s.put H.PEER_PARTNER 4)

/-- PEER_LINK_UP (R337): every lane is locked, the lanes are deskewed, and HELLO has been exchanged for 100 ms with these values. -/
def linkUp (h : Hello) (s : State) : State :=
  if !s.on F.PEER_CTRL_EN || s.on F.PEER_STAT_LINK then s
  else if !matching s h then
    ((s.put F.PEER_STAT_LANE_LOCK 15).set F.PEER_STAT_MISMATCH).set F.PEER_INT_CAUSE_MISMATCH
  else if s.on F.PWR_SAFE_STAT_PEER_HELD then s
  else
    let s := ((s.put F.PEER_STAT_LANE_LOCK 15).clr F.PEER_STAT_MISMATCH).put F.PEER_DELAY_DELAY h.delay
    Syn.refresh (elect h ((s.set F.PEER_STAT_LINK).set F.PEER_INT_CAUSE_LINK_CHG))

/-- The link fails (R337): channels and locks of PEER as after a reset of it (Table MBX-2), and the pair state follows. A standby stays
one while the dark time runs. -/
def linkFailed (s : State) : State :=
  if !s.on F.PEER_STAT_LINK then s
  else
    let s := ((s.clr F.PEER_STAT_LINK).set F.PEER_INT_CAUSE_LINK_CHG).clr F.PEER_STAT_PHASE_OK
    let s := Mbx.masterReset 96 s
    let s := match state s with
      | 4 => enter 5 s
      | 2 => enter 1 s
      | _ => s
    Syn.refresh s

/-- The peer hold of R20, once in force: the link is reported as failed, which ends the mirroring (R337). -/
def held (s : State) : State := if s.on F.PWR_SAFE_STAT_PEER_HELD then linkFailed s else s

/-- PEER_LINK_FAIL (R337): bit i of `locked` says whether peer lane i still holds its lock; `codewords` counts uncorrectable codewords
in a row. -/
def linkFail (locked codewords : Nat) (s : State) : State :=
  if s.on F.PEER_CTRL_EN && (locked % 16 != 15 || decide (8 ≤ codewords) || s.on F.PWR_SAFE_STAT_PEER_HELD) then
    linkFailed (s.put F.PEER_STAT_LANE_LOCK locked)
  else s

/-- HEARTBEAT_TMO (R337). -/
def heartbeatTimeout (s : State) : State := linkFailed s

/-- PEER_ENABLE and PEER_DISABLE (R337, R340). -/
def enable (s : State) : State := if s.on F.PEER_CTRL_EN then s else enter 1 (s.set F.PEER_CTRL_EN)

def disable (s : State) : State :=
  if s.on F.PEER_CTRL_EN then
    enter 0 ((((linkFailed s).clr F.PEER_CTRL_EN).clr F.PEER_STAT_LANE_LOCK).clr H.PEER_SETTLING)
  else s

/-- LINK_WAIT_EXPIRY and FORCE_ACTIVE (Table PEER-1). -/
def linkWaitExpiry (s : State) : State :=
  if state s = 1 ∧ s.on F.PEER_CFG_SOLO_OK ∧ !s.on F.PEER_STAT_LINK then enter 5 s else s

def forceActive (s : State) : State := if state s = 1 then enter 5 s else s

/-- SYNC_DONE (R343): the bulk copy completes, on the device that receives it and on the active that sent it. -/
def syncDone (s : State) : State :=
  if state s = 2 ∧ s.on F.PEER_STAT_LINK then (enter 3 s).set F.PEER_INT_CAUSE_SYNC_DONE
  else if state s = 4 then s.put H.PEER_PARTNER 3
  else s

/-! ### Switchover (R344 to R346) -/

/-- A loading or grant change that is still in LOADING is abandoned (R346). -/
def dropChanges (s : State) : State :=
  let s := s.each 2 (fun d t => if t.get (Scm.chState d) = 1 then Scm.abandon d [] t else t)
  if s.get F.SCM_GRANT_STAT_STATE = 1 then Scm.grantAbandon [] s else s

/-- Flows of resting leaves have lost what the old active held (R346). -/
def sleepingLeaves (s : State) : State :=
  s.eachOf ((Flw.enabled s).filter (fun f => Flw.resting s (Flw.entry s f))) (fun f t => t.set H.FLW_LOST_HELD f)

/-- The takeover (R345, R346). -/
def takeover (trig : Nat) (s : State) : State :=
  let s := enter 5 ((s.set H.PEER_SETTLING).put F.PEER_STAT_LAST_TRIG trig)
  let s := Cry.guardJump s
  let s := sleepingLeaves ((dropChanges s).wipe H.FRM_WIN_ON)
  (s.set F.PEER_INT_CAUSE_TAKEOVER).count F.PEER_TAKE_CNT_COUNT

/-- The active hands over (R345). -/
def handOver (trig : Nat) (s : State) : State :=
  enter 2 (((hold s).emit (.peer 5 [trig])).put H.PEER_PARTNER 4)

/-- SWITCH (R344): written here, or (`remote`) at the partner. -/
def switch (remote : Bool) (s : State) : State :=
  if state s = 4 ∧ s.get H.PEER_PARTNER = 3 then handOver 1 s
  else if remote then s
  else if state s = 3 ∧ s.on F.PEER_STAT_LINK then s.emit (.peer 8 [])
  else s.set F.PEER_INT_CAUSE_SWITCH_REFUSED

/-- ACTIVE_FAULT (R344): the safe state, a transmit mute held for `ms`, or LTX disabled. While the partner's SYNC is not complete there
is no takeover (Table PEER-4), so that the active hands over only to a partner in STANDBY. -/
def activeFault (ms : Nat) (s : State) : State :=
  if state s = 4 ∧ s.get H.PEER_PARTNER = 3 ∧ (s.on F.BST_STAT_SAFE ∨ !s.on F.LTX_CTRL_EN ∨
      (s.on F.PWR_SAFE_STAT_TX_MUTED ∧ max 1 (s.get F.PEER_CFG_MUTE_MS) ≤ ms)) then handOver 2 s
  else s

/-- Every upstream DATA subcarrier of an ACTIVE leaf is absent (R344). -/
def dark (s : State) : Bool :=
  (List.range 512).all (fun k =>
    let e := s.get H.LRX_ACTIVE k
    !(e % 8 == 1 && s.get F.VLK_LEAF_STATE (slice e 22 9) == 2) || s.bit F.BRX_SC_ABSENT_SC (k % 32) (k / 32))

/-- PARTNER_LOST (R344): the link has been failed, and where leaves are ACTIVE the upstream dark, for `ms`. A standby whose upstream is
not dark when DARK_MS has passed returns to LINKING. -/
def partnerLost (ms : Nat) (s : State) : State :=
  if state s = 3 ∧ !s.on F.PEER_STAT_LINK ∧ max 1 (s.get F.PEER_CFG_DARK_MS) ≤ ms then
    if dark s then takeover 3 s else enter 1 s
  else s

/-- HANDOVER (R345) arrives with its trigger. -/
def handover (trig : Nat) (s : State) : State :=
  if state s = 3 then takeover trig (s.put H.PEER_PARTNER 2) else s

/-- LASER_SETTLED (R345): MUTE is released. With the link up and the partner in SYNC the device is ACTIVE. -/
def laserSettled (s : State) : State :=
  if s.on H.PEER_SETTLING then
    let s := letGo (s.clr H.PEER_SETTLING)
    if state s = 5 ∧ s.on F.PEER_STAT_LINK ∧ s.get H.PEER_PARTNER = 2 then bulkCopy (enter 4 s) else s
  else s

/-! ### EqD of the standby's feeder (R347) -/

/-- REG_ASSIGN with SYNC = 1 for leaf l (Table VLK-3), naming its present place. -/
def assignSync (l : Nat) (s : State) : State :=
  Vlk.toLeaf l 0x03 true true
    [s.get F.VLK_LEAF_ID_ID l 0, s.get F.VLK_LEAF_ID_ID l 1, l, s.get F.VLK_LEAF_BEACON l, s.get F.VLK_LEAF_MEMBER l,
     s.get F.VLK_LEAF_EQD_EQD l 0, s.get F.VLK_LEAF_EQD_VALID l 0, s.get F.VLK_LEAF_EQD_EQD l 1, s.get F.VLK_LEAF_EQD_VALID l 1] s

/-- EQD_MEASURE (R347): on the standby, `e` is the averaged arrival error of leaf l in 0.1 ns; on the active, `eqd` is what the standby
sends. -/
def eqdMeasure (l : Nat) (e : Int) (eqd : Nat) (s : State) : State :=
  let own := s.get F.PEER_CFG_FEEDER
  let other := 1 - own
  if 512 ≤ l then s
  else if state s = 3 ∧ s.get F.VLK_LEAF_STATE l = 2 then
    let v := unsigned 24 ((s.get F.VLK_LEAF_EQD_EQD l other : Int) - 2 * e)
    let s := (s.put F.PEER_EQD_MEAS_EQD v l).set F.PEER_EQD_MEAS_VALID l
    let now : Int := s.get F.VLK_LEAF_EQD_EQD l own
    if s.on F.PEER_CTRL_AUTO_EQD && (decide (10 < ((v : Int) - now).natAbs) || !s.on F.VLK_LEAF_EQD_VALID l own) then
      (s.emit (.peer 4 [l, v])).set F.PEER_INT_CAUSE_EQD_UPD
    else s
  else if state s = 4 then
    (assignSync l ((s.put F.VLK_LEAF_EQD_EQD eqd l other).set F.VLK_LEAF_EQD_VALID l other)).set F.PEER_INT_CAUSE_EQD_UPD
  else s

/-! ### Registers -/

/-- A write of PEER.CTRL. -/
def writeCtrl (v : Nat) (s : State) : State :=
  let s := s.put F.PEER_CTRL_AUTO_EQD (slice v 3 1)
  let s := if v % 2 = 1 then enable s else disable s
  let s := if v.testBit 1 then switch false s else s
  if v.testBit 2 then forceActive s else s

/-- A write of PEER.CFG: only while EN is 0. -/
def writeCfg (v : Nat) (s : State) : State :=
  if s.on F.PEER_CTRL_EN then s
  else
    let s := ((s.put F.PEER_CFG_FEEDER v).put F.PEER_CFG_PREFER (slice v 1 1)).put F.PEER_CFG_REACH (slice v 2 2)
    let s := ((s.put F.PEER_CFG_SOLO_OK (slice v 4 1)).put F.PEER_CFG_DARK_MS (slice v 5 7)).put F.PEER_CFG_LASER_MS (slice v 12 6)
    (s.put F.PEER_CFG_MUTE_MS (slice v 18 6)).put F.PEER_CFG_LINK_WAIT_S (slice v 24 8)

/-- Registers of FLW, SCM and VLK that only PEER writes on the standby (R343). -/
def isMirrored (r : RegId) : Bool :=
  [RegId.SCM_DS_NEXT, .SCM_US_NEXT, .SCM_GRANT_SC, .SCM_GRANT_NEXT, .VLK_LEAF, .VLK_LEAF_ID, .VLK_LEAF_EQD, .VLK_WAKE, .VLK_REG_SC,
   .VLK_REG_CFG, .VLK_US_OFS].contains r

end Sys2Proof.Machine.Peer
end

