-- ==== Sys2Proof/Machine/Sys.lean ====
section
/-! DEFINITION. Sys2Proof/Machine/Sys.lean: resets of masters, engines and blocks, and the rest of the way into REST and out of it
(spec/12_odivo_engines.md R263, spec/17_power_reset_and_start_up.md R356 and R361 to R365). -/
namespace Sys2Proof.Machine.Sys
open Sys2Proof Sys2Proof.Machine

/-- A master is reset (Table MBX-2): its channels and locks, and the loops it holds open (R243). -/
def masterReset (m : Nat) (s : State) : State := Syn.ownerReset m (Mbx.masterReset m s)

/-- The open operations of an engine. -/
def openOps (s : State) (n : Nat) : List EngOp := s.eng.ops.filter (fun o => o.engine == n)

/-- DONE of the journal entry of an operation (R256). -/
def doneOf (s : State) (o : EngOp) : Nat := slice (s.get H.ENG_JRNL o.engine o.jidx 3) 12 12

/-- An operation ends early with a cause: PARTIAL where a word has taken effect, else ABORTED (Table ENG-5). -/
def cut (o : EngOp) (cause : Nat) (s : State) : State :=
  let d := doneOf s o
  Eng.finalise o.engine o.jidx (if d = 0 then 4 else 3) cause d s

/-- Reads deliver into DMEM or into a register: RLD, DMAR and QRD. -/
def isRead (o : EngOp) : Bool := o.op == 0x18 || o.op == 0x1A || o.op == 0x1C

/-- What a soft reset does to one open operation of its engine (R263). -/
def resetOp (o : EngOp) (s : State) : State :=
  if !o.accepted then Eng.finalise o.engine o.jidx 4 4 0 s
  else if isRead o then cut o 4 s
  else { s with eng := { s.eng with
    ops := s.eng.ops.map (fun x => if x.engine == o.engine && x.jidx == o.jidx then { x with dest := 0 } else x) } }

/-- The registers of an engine's window that its reset returns (Table SYS-10), but for what R263 keeps: THR and the journal's pointers. -/
def engineRegs : List Field :=
  [F.ENG_CFG_ACC_TMO, F.ENG_INT_CAUSE_FAULT, F.ENG_INT_CAUSE_HALT, F.ENG_INT_CAUSE_ABORT, F.ENG_INT_CAUSE_MEM_REFUSED,
   F.ENG_INT_CAUSE_SPILL_LOST, F.ENG_INT_CAUSE_ACT_ERR, F.ENG_INT_MASK_MASK, F.ENG_FLAGS_FLAG, F.ENG_QACC_FREE_R, F.ENG_QACC_FREE_W,
   F.ENG_QACC_LOG_R, F.ENG_JRNL_IDX_IDX, F.ENG_MEM_ADDR_ADDR, F.ENG_MEM_ADDR_SPACE]

/-- ENG_RESET (R263): a soft reset of engine n. -/
def engineReset (n : Nat) (s : State) : State :=
  if 65 ≤ n then s
  else
    let s := engineRegs.foldl (fun t f => t.put f f.reset n) s
    let s := s.each 4 (fun w t => ((t.clr F.ENG_UWIN_BASE n w).clr F.ENG_UWIN_PAGES n w).clr F.ENG_UWIN_WRITE n w)
    let s := s.each 4 (fun t u =>
      let u := Eng.enter n t 0 (((u.clr F.ENG_THR_STAT_PC n t).clr F.ENG_THR_STAT_CAUSE n t).clr H.ENG_PAST n t)
      u.each 32 (fun r v => Eng.setReg n t r 0 v))
    let s := s.eachOf (openOps s n) resetOp
    let s := s.each 256 (fun k t => if t.on F.ENG_TAG_ALLOC n k then Eng.releaseTag n k t else t)
    masterReset (Eng.master n) s

/-! ### Soft reset of a block (R356) -/

/-- Block b of Table SYS-5 has the register range from the first to below the second address (Table SYS-13). -/
def blockRange (b : Nat) : Nat × Nat :=
  ([(0x0, 0x10000), (0x10000, 0x1C000), (0x20000, 0x30000), (0x30000, 0x100000), (0x100000, 0x200000), (0x200000, 0x240000),
    (0x240000, 0x280000), (0x280000, 0x290000), (0x290000, 0x2A0000), (0x2A0000, 0x2B0000), (0x2B0000, 0x300000), (0x300000, 0x340000),
    (0x340000, 0x400000), (0x400000, 0x480000), (0x480000, 0x4C0000), (0x4C0000, 0x500000), (0x500000, 0x580000), (0x580000, 0x600000),
    (0x600000, 0x680000), (0x680000, 0x700000), (0x700000, 0x740000), (0x740000, 0x780000), (0x780000, 0x7C0000), (0x7C0000, 0x7E0000),
    (0x7E0000, 0x7F0000), (0x7F0000, 0x800000)] : List (Nat × Nat)).getD b (0, 0)

/-- The block of a BAR0 offset; the supervisor's window is of ENG (Table SYS-13). 26 where no block lies. -/
def blockOf (a : Nat) : Nat :=
  if 0x1C000 ≤ a ∧ a < 0x20000 then 4
  else ((List.range 26).find? (fun b => decide ((blockRange b).1 ≤ a) && decide (a < (blockRange b).2))).getD 26

/-- A key is held by an element of a field's array. -/
def holds (f : Field) (k : Nat) : Bool :=
  decide (f.lo ≤ k) && decide ((k - f.lo) % 8 = 0) && (f.shape.find ((k - f.lo) / 8)).isSome

/-- The key lies among the registers or the hidden fields of block b. -/
def keyIn (b k : Nat) : Bool :=
  let a := k / 8
  (decide ((blockRange b).1 ≤ a) && decide (a < (blockRange b).2)) ||
  (decide (0x4000000 + 0x1000000 * b ≤ a) && decide (a < 0x5000000 + 0x1000000 * b))

/-- What a soft reset of block b leaves alone: RWS and RWL fields (Table SYS-10), the calibration in use, the judgement of R386, and
the account of the slots that flows hold in QDM (which end with their flows). -/
def kept (b : Nat) : List Field :=
  match b with
  | 5 => [F.MBX_BIND_SENDER, F.MBX_BIND_RECEIVER, F.MBX_BIND_EN]
  | 9 => [F.CAL_STAT_VALID, F.CAL_STAT_SOURCE, F.CAL_STAT_FLASH_BAD,
          F.CAL_ADC_STAT_SPARES_FREE, F.CAL_ADC_STAT_SHORT, F.CAL_ADC_STAT_WORST_GAIN, F.CAL_ADC_STAT_WORST_OFS, F.CAL_ADC_STAT_WORST_SKEW,
          F.CAL_DAC_STAT_SPARES_FREE, F.CAL_DAC_STAT_SHORT, F.CAL_DAC_STAT_WORST_GAIN, F.CAL_DAC_STAT_WORST_OFS, F.CAL_DAC_STAT_WORST_SKEW,
          H.CAL_ADC_SEL, H.CAL_ADC_TRIM, H.CAL_DAC_SEL, H.CAL_DAC_TRIM]
  | 11 => [F.CRY_CTRL_TAMPER_EN, F.CRY_ERASE_STAT_CAUSE, F.CRY_ERASE_STAT_COUNT]
  | 15 => [H.QDM_COMMITTED, H.QDM_RESERVED, H.QDM_EXTRA, H.QDM_HELD, H.QDM_POOL_USED, H.QDM_SLEEP_USED, F.QDM_POOL_STAT_DIE_FREE]
  | 22 => [H.VLK_TREE]
  | 25 => [F.PEER_TAKE_CNT_COUNT]
  | _ => []

/-- The fields of block b take their reset values. -/
def resetFields (b : Nat) (s : State) : State :=
  { s with csr := s.csr.filter (fun e => !(keyIn b e.1 && !(kept b).any (fun f => holds f e.1))) }

/-- What a block does as it takes its disabled state, by its own chapter, before its fields reset. -/
def quiesce (b : Nat) (s : State) : State :=
  match b with
  | 9 => Cal.abandon s
  | 10 => Bst.abort s
  | 13 => s.each 32 Hsl.disable
  | 14 => s.eachOf (Flw.enabled s) Flw.stop
  | 15 => Qdm.disable s
  | 16 => s.eachOf s.frm.slip (fun e t => t.eachOf e.2 (fun x u => if x.frame.type = 0 then Qdm.free e.1 x.port u else u))
  | 18 => Ltx.disable (Scm.bankReset (if s.leaf then 1 else 0) s)
  | 19 => Lrx.disable (Scm.bankReset (if s.leaf then 0 else 1) s)
  | 21 => Brx.disable s
  | 25 => Peer.disable s
  | _ => s

/-- The queues, rings and records of block b are emptied. -/
def resetQueues (b : Nat) (s : State) : State :=
  match b with
  | 8 => { s with flt := [] }
  | 12 => { s with syn := {} }
  | 14 => { s with flw := {} }
  | 16 => { s with frm := {} }
  | 21 => { s with brx := {} }
  | 22 => { s with vlk := {} }
  | _ => s

/-- What other blocks make of it: the mute sources that PWR, BST and PEER hold stay, and source 3 mutes the line (R45); pins, ready
bits and summaries follow. -/
def aftermath (b : Nat) (sources : Nat) (s : State) : State :=
  match b with
  | 10 => Bst.refresh s
  | 12 => Syn.refresh s
  | 13 => Hsl.squelch s
  | 15 => Qdm.refresh s
  | 18 =>
    let s := (s.put F.LTX_STAT_MUTE_SRC ((sources &&& 6) ||| 8)).clr H.LTX_OUTPUT
    if s.on H.PEER_MUTE_HELD then Ltx.setMute 1 s else s
  | 22 => if s.leaf then Vlk.silence s else s
  | 23 => Cvt.refresh s
  | 24 => Lsr.laser (Lsr.showOwners s)
  | 25 => Lsr.laser s
  | _ => s

/-- The operations that block b has accepted end under TARGET_RESET (R356, Table ENG-5). -/
def targetReset (b : Nat) (s : State) : State :=
  s.eachOf s.eng.ops (fun o t =>
    if o.accepted && (if o.op == 0x1C || o.op == 0x1D then b == 15 else blockOf o.target == b) then cut o 6 t else t)

/-- SOFT_RESET of one block (R356); blocks 0 to 4 ignore it. -/
def softReset (b : Nat) (s : State) : State :=
  if b < 5 ∨ 25 < b then s
  else
    let s := targetReset b s
    let sources := s.get F.LTX_STAT_MUTE_SRC
    let s := aftermath b sources (resetQueues b (resetFields b (quiesce b s)))
    s.setBit F.SYS_SOFT_RST_BLK b

/-- A write of SYS.SOFT_RST. -/
def softResets (mask : Nat) (s : State) : State := s.each 26 (fun b t => if mask.testBit b then softReset b t else t)

/-! ### REST (R361 to R365) -/

/-- The blocks whose writes are stored while the device rests (R363): FEC, LTX, LRX, BRX, HSL, PEER and CVT. -/
def stops (b : Nat) : Bool := [13, 17, 18, 19, 21, 23, 25].contains b

/-- The monitors of the islands that stop: DAC and ADC phases, host and peer lanes, upstream islands (R362, Table PWR-1). -/
def stoppedMonitors : List Nat := [0, 1, 7, 8, 11, 12, 14]

/-- REST_ENTRY_DONE (R362): the paths have stopped. A wake event that came meanwhile starts the wake (R365). -/
def restEntryDone (s : State) : State :=
  if Rest.state s ≠ 1 then s
  else
    let s := s.set H.PWR_QDR_RET
    let s := s.eachOf stoppedMonitors Pwr.disarm
    let s := Pwr.drain 0 616 s
    let s := Pwr.request (2 * max 600 (s.get F.PWR_REST_CFG_VRET_MV)) s
    let s := (s.put F.PWR_REST_STAT_STATE 2).set F.PWR_INT_CAUSE_REST_ENTERED
    let s := (Syn.restEnter s).wipe H.HSL_OUT
    if s.on H.PWR_WAKE_PEND then Rest.begin (s.clr H.PWR_WAKE_PEND) else s

/-- REST_WAKE by its source: 0 the host's write, 1 VLK's schedule in a leaf, 2 a bit of INT_SUMMARY that the mask names (R364). -/
def restWake (source : Nat) (s : State) : State :=
  if source = 2 ∧ !Rest.masked s then s
  else if source = 1 ∧ !s.leaf then s
  else Rest.wake s

/-- Each client starts again from SIGNAL: its lanes have lost what they had (R364). -/
def wakeClient (c : Nat) (s : State) : State :=
  if Hsl.enabled s c then Hsl.replace c (Hsl.move c 1 (s.eachOf (Hsl.lanes s c) Hsl.powerDown)) else s

/-- The wake has had its VDD_CORE (Table PWR-5 step 2). -/
def wakePowered (s : State) : Bool :=
  !(Pwr.busy s && s.on H.PWR_VMIN_ASKED) && !s.on H.PWR_VMIN_WAITS && !s.on F.PWR_REST_STAT_WAKE_HELD

/-- The paths are released (R364): the state, the paths and QDR. `us` is the time the wake took; `moves` the re-centring of
each QDR port (R200). -/
def restExit (us : Nat) (moves : List (List Nat)) (s : State) : State :=
  let s := s.clr H.PWR_QDR_RET
  let s := s.each 2 (fun p t => Qdm.recentre p (moves.getD p []) t)
  let s := ((s.clr F.PWR_REST_STAT_STATE).set F.PWR_INT_CAUSE_REST_EXITED).put F.PWR_REST_STAT_WAKE_US (min 255 us)
  let s := if s.on F.LTX_STAT_ACTIVE then Ltx.unmute 3 s else s
  let s := if s.on F.LRX_CTRL_EN then Lrx.leavePrefill (Lrx.enter 1 s) else s
  Cal.temperature (s.each 32 wakeClient)

end Sys2Proof.Machine.Sys
end

