-- ==== Sys2Proof/Machine/Bus.lean ====
section
/-! DEFINITION. Sys2Proof/Machine/Bus.lean: an access to a register of the register space, whoever makes it (R7 to R11, R380 to R382): what
a read answers and does, and what a write does. The three registers whose write resets the device are left to Reset.lean. -/
namespace Sys2Proof.Machine.Bus
open Sys2Proof Sys2Proof.Machine

/-! ### Reads -/

/-- A dword with other bits added at a place. -/
def plus (w lo v : Nat) : Nat := w + v * 2 ^ lo

/-- Raw conditions show while FRM evaluates them (R363). -/
def raw (s : State) (v : Nat) : Nat := if Rest.awake s then v else 0

/-- The field as it reads: write-only fields read 0, and a stored write of a stopped block reads back (R7, R363). -/
def shownField (s : State) (stored : Option Nat) (f : Field) (i j k : Nat) : Nat :=
  match f.access, stored with
  | .wo, _ => 0
  | .rw, some v => slice v f.lo f.width
  | .rwl, some v => slice v f.lo f.width
  | _, _ => s.get f i j k

/-- The last write of a BAR0 offset that is held. -/
def storedWrite (s : State) (addr : Nat) : Option Nat :=
  (s.held.filter (fun x => x.write && x.addr == addr)).getLast?.map (fun x => x.value)

/-- A register's dword as its fields hold it. -/
def fieldsWord (s : State) (stored : Option Nat) (r : RegId) (i j k : Nat) : Nat :=
  r.fields.foldl (fun a f => a + shownField s stored f i j k * 2 ^ f.lo) 0

/-- What register r shows to master m without any effect of reading it: the fields, and what the blocks form as they are read. -/
def shown (m addr : Nat) (r : RegId) (i j k : Nat) (s : State) : Nat :=
  let w := fieldsWord s (storedWrite s addr) r i j k
  match r with
  | .SYS_INT_SUMMARY => s.summary
  | .ENG_JRNL_RD => Eng.journalWord s m i j
  | .SE_SPILL_STAT => plus w 0 (min 65535 (Eng.spilled s))
  | .SE_SPILL_RD => Eng.spillRead s i
  | .PMC_SMP_STAT => plus w 2 (Pmc.activeEngines s)
  | .PMC_SMP_RD => Pmc.ringWord s i
  | .PMC_CNT_LO => s.get H.PMC_CNT i % 2 ^ 32
  | .PMC_CNT_HI => Pmc.readHi m i s
  | .CRY_CTX_STAT => Cry.ctxStat s
  | .CRY_TX_NEXT_HI => Cry.counterWord s m 1
  | .CRY_TX_CUR_LO => Cry.counterWord s m 2
  | .CRY_TX_CUR_HI => Cry.counterWord s m 3
  | .CRY_RX_LAST_LO => Cry.counterWord s m 4
  | .CRY_RX_LAST_HI => Cry.counterWord s m 5
  | .CRY_SALT => s.get H.CRY_SALT (Cry.ctx s) i
  | .SYN_TIME_HI => if s.on H.SYN_TSNAP_ON m then s.get H.SYN_TSNAP m else w
  | .FLW_FSTAT => plus (plus w 0 (b01 (Flw.blocked s i))) 3 (b01 (Flw.isHeld s i))
  | .FRM_DEF_LINE => plus w 16 (raw s (Frm.rawLine s))
  | .FRM_DEF_SC => plus w 16 (raw s (Frm.rawSc s i))
  | .FRM_DEF_FLOW => plus w 16 (raw s (Frm.rawFlow s i))
  | .FRM_DEF_LANE => plus w 16 (raw s (Frm.rawLane s i))
  | .FRM_DEF_CLI => plus w 16 (raw s (Frm.rawCli s i))
  | .FEC_QC_BASE => Fec.qcBase i j
  | .SCM_DS_ACT => s.get (Scm.active s 0) i
  | .SCM_US_ACT => s.get (Scm.active s 1) i
  | .BRX_REC_DATA => Brx.recWord s i
  | .BRX_COL_DATA => Brx.colWord s i
  | .VLK_TREE_CFG => plus w 16 (if s.leaf then 0 else s.get F.PEER_CFG_FEEDER)
  | .VLK_RXSTAT => plus w 0 (Vlk.ringLen s)
  | .VLK_RXBUF => Vlk.ringWord s i
  | _ => w

/-- The fields of register r that a read clears (R7); MIN of a slack level takes NOW instead. -/
def clearOnRead (r : RegId) (i j k : Nat) (s : State) : State :=
  match r with
  | .PWR_SLACK_LVL =>
    ((s.put F.PWR_SLACK_LVL_MIN (s.get F.PWR_SLACK_LVL_NOW i) i).clr F.PWR_SLACK_LVL_HARD_CNT i).clr F.PWR_SLACK_LVL_UNDERRUN i
  | _ => s.eachOf (r.fields.filter (fun f => f.access == .rc)) (fun f t => t.clr f i j k)

/-- TIME_LO: nanoseconds, and the reader's snapshot of the seconds (R244, R382). -/
def readTime (m : Nat) (s : State) : Nat × State :=
  (Pmc.timeLo s, ((s.set H.SYN_TSNAP_ON m).put H.SYN_TSNAP (s.get F.SYN_TIME_HI_VAL) m).drew)

/-- A general register of a thread; while the thread runs the value is undefined. -/
def readGreg (n t r : Nat) (s : State) : Nat × State :=
  if 1 ≤ Eng.thread s n t ∧ Eng.thread s n t ≤ 3 then (s.free 32, s.drew) else (Eng.reg s n t r, s)

/-- A read of register r: the dword, and the state after its side effects. -/
def readReg (who : Pmc.Who) (addr : Nat) (r : RegId) (i j k : Nat) (s : State) : Nat × State :=
  match r with
  | .MBX_DATA => Mbx.readData who i j s
  | .MBX_LOCK => Mbx.lockRead who i s
  | .CRY_LOCK => Mbx.cryRead who s
  | .CRY_TX_NEXT_LO => Cry.snapshot who.master s
  | .PMC_CNT_LO => Pmc.readLo who.master i s
  | .SYN_TIME_LO => readTime who.master s
  | .ENG_JRNL_RD => if j = 0 then Eng.journalFirst who.master i s else (Eng.journalWord s who.master i j, s)
  | .ENG_MEM_DATA => Eng.memRead i s
  | .ENG_GREG => readGreg i j k s
  | .LCM_CHALLENGE => if i = 0 then Lcm.readChallenge s else (shown who.master addr r i j k s, s)
  | _ => (shown who.master addr r i j k s, clearOnRead r i j k s)

/-- A read of the dword at a BAR0 offset by a master (R8, R285, R380). -/
def read (who : Pmc.Who) (addr : Nat) (s : State) : Nat × State :=
  match locate (canonAddr addr) with
  | none => (0, Pmc.event 572 1 (some who) (some addr) s)
  | some (r, i, j, k) =>
    let x := readReg who addr r i j k s
    (x.1, Pmc.access (520 + 2 * Sys.blockOf addr) who addr s x.2)

/-! ### Writes -/

/-- The RWS fields whose description has no "write 0 to clear": read and written like RW (R7). -/
def freely : List Field := [F.SYS_RST_CFG_PERST_MODE, F.CRY_ERASE_STAT_COUNT]

/-- A field takes its bits of a dword under its access code (R7). RWS fields with "write 0 to clear" take a written 0 only. -/
def writeField (v i j k : Nat) (f : Field) (s : State) : State :=
  let b := slice v f.lo f.width
  let old := s.get f i j k
  match f.access with
  | .rw => s.put f b i j k
  | .rwl => if s.on F.SYS_LOCK_LOCK then s else s.put f b i j k
  | .w1c => s.put f (old - (old &&& b)) i j k
  | .w1s => s.put f (old ||| b) i j k
  | .rws => if freely.contains f then s.put f b i j k else if b = 0 then s.clr f i j k else s
  | _ => s

/-- A write that does no more than its access codes say. -/
def plain (r : RegId) (i j k v : Nat) (s : State) : State := s.eachOf r.fields (writeField v i j k)

/-- ENG[n].CTRL: RESET, then STOP and START of each thread. -/
def writeEngCtrl (n v : Nat) (s : State) : State :=
  let s := if v.testBit 0 then Sys.engineReset n s else s
  let s := s.each 4 (fun t u => if v.testBit (5 + t) then Eng.stop n t u else u)
  s.each 4 (fun t u => if v.testBit (1 + t) then Eng.start n t u else u)

/-- ENG[n].THR[t]: SUPER is taken from a host function or SE only (R250). -/
def writeThr (who : Pmc.Who) (n t v : Nat) (s : State) : State :=
  let s := s.put F.ENG_THR_ENTRY (slice v 0 12) n t
  if 1 ≤ who.master ∧ who.master ≤ 9 then s.put F.ENG_THR_SUPER (slice v 12 1) n t else s

/-- CAL.CTRL: the settings, then ABORT, GO_FULL and GO_TRACK. -/
def writeCal (v : Nat) (s : State) : State :=
  let s := (s.put F.CAL_CTRL_AUTO (slice v 3 1)).put F.CAL_CTRL_RETRY_S (slice v 16 12)
  let s := if v.testBit 2 then Bst.unwait (Cal.abort s) else s
  let s := if v.testBit 0 then Cal.go false s else s
  if v.testBit 1 then Cal.go true s else s

/-- PWR.REST_CTRL: ENTER, then WAKE. -/
def writeRest (v : Nat) (s : State) : State :=
  let s := if v.testBit 0 then (Rest.enter s).2 else s
  if v.testBit 1 then Sys.restWake 0 s else s

/-- TX_EN as written; a value it has already changes nothing. -/
def frmTxEn (v : Nat) (s : State) : State := if s.get F.FRM_CTRL_TX_EN = v then s else Frm.txEnable v s

/-- FRM.CTRL. -/
def writeFrm (v : Nat) (s : State) : State :=
  let s := ((s.put F.FRM_CTRL_BDI_FORCE (slice v 2 1)).put F.FRM_CTRL_SSM_SRC (slice v 3 1)).put F.FRM_CTRL_TIM_ACT (slice v 4 1)
  let s := frmTxEn (slice v 0 1) s
  let s := if v.testBit 1 then Frm.rxEnable s else Frm.rxDisable s
  if v.testBit 5 then Frm.research s else s

/-- SCM.CHG_CTRL: the aborts, then the commits. -/
def writeChange (v : Nat) (s : State) : State :=
  let s := if v.testBit 2 then Scm.abort 0 s else s
  let s := if v.testBit 3 then Scm.abort 1 s else s
  let s := if v.testBit 0 then Scm.commit 0 s else s
  if v.testBit 1 then Scm.commit 1 s else s

/-- SCM.GRANT_CTRL: ABORT, then COMMIT. -/
def writeGrant (v : Nat) (s : State) : State :=
  let s := if v.testBit 1 then Scm.grantAbort s else s
  if v.testBit 0 then Scm.grantCommit s else s

/-- SYN.NCO_CTRL[p] (R242, R243): the bus shows no time finer than the ticks, so that OPEN counts as within 1 ms of the second key while no
10 ms tick has come since (notes/assumptions/21.md). -/
def writeNco (who : Pmc.Who) (p v : Nat) (s : State) : State :=
  if v.testBit 0 then Syn.openLoop who p (if s.get H.SYN_KEYSTEP who.master = 2 then 0 else 1001) s else Syn.closeLoop who p s

/-- SYN.TIME_CTRL. -/
def writeTime (v : Nat) (s : State) : State :=
  let s := if v.testBit 0 then Syn.armSet s else s
  if v.testBit 1 then Syn.armAlign s else s

/-- LTX or LRX has been written: an enable abandons a FULL calibration run, and a slice that waits for the converters looks again. -/
def lineWritten (s t : State) : State :=
  if (!s.on F.LTX_CTRL_EN && t.on F.LTX_CTRL_EN) || (!s.on F.LRX_CTRL_EN && t.on F.LRX_CTRL_EN) then
    Bst.unwait (Cal.lineEnabled t) else t

/-- FLW.CMD on the standby answers ERR_CODE 0 and does nothing (R343). -/
def writeFlow (v : Nat) (s : State) : State := if s.passive then s.clr F.FLW_CMD_STAT_ERR_CODE else Flw.writeCmd v s

/-- PCIe configuration and the like aside, what the write of a register does (R7 and the field maps). -/
def act (who : Pmc.Who) (r : RegId) (i j k v : Nat) (s : State) : State :=
  match r with
  | .SYS_SOFT_RST => Sys.softResets v s
  | .SYS_RESET => s
  | .SYS_ROLLBACK => s
  | .SE_IMG_CTRL => s
  | .BOOT_FL_CMD => Flash.writeCmd v s
  | .LCM_TRANS => Lcm.transition who.master v s
  | .LCM_KEY_CTRL => Lcm.writeKeyCtrl v s
  | .LCM_AUTH => s.put F.LCM_AUTH_DATA v i
  | .LCM_KEY_HASH => Lcm.writeKeyHash i j v s
  | .PWR_AVS_SET => Pwr.writeAvsSet v s
  | .PWR_PMB_CMD => Pwr.writePmbCmd v s
  | .PWR_REST_CTRL => writeRest v s
  | .PWR_SLACK_CTRL => Pwr.writeSlackCtrl v s
  | .PWR_SLACK_CFG => Pwr.writeSlackCfg i v s
  | .PWR_SAFE_STAT => Pwr.writeSafeStat v s
  | .ENG_CTRL => writeEngCtrl i v s
  | .ENG_THR => writeThr who i j v s
  | .ENG_MEM_DATA => Eng.memWrite i v s
  | .SE_SPILL_POP => if v.testBit 0 then Eng.spillPop s else s
  | .MBX_BIND => Mbx.bind who i v s
  | .MBX_DATA => Mbx.writeData who i j v s
  | .MBX_DOORBELL => Mbx.doorbell who i v s
  | .MBX_LOCK => Mbx.lockWrite who i s
  | .PMC_SMP_POP => if v.testBit 0 then Pmc.pop s else s
  | .PMC_CNT_LO => Pmc.writeLo who.master i v s
  | .PMC_CNT_HI => Pmc.writeHi who.master i v s
  | .HKA_CTRL => Hka.writeCtrl v s
  | .HKA_SEQ_GO => if v.testBit 0 then Hka.seqGo s else s
  | .HKA_INJ => Hka.writeInj v s
  | .HKA_PWM_DUTY => Hka.writeDuty i v s
  | .FLT_CH_CFG => Flt.writeCfg i v s
  | .FLT_CH_CTRL => Flt.writeCtrl i v s
  | .FLT_FIR => Flt.writeFir i j v s
  | .CAL_CTRL => writeCal v s
  | .BST_CTRL => Bst.writeCtrl v s
  | .CRY_LOCK => Mbx.cryWrite who s
  | .CRY_KEY_CMD => Cry.writeKeyCmd who v s
  | .CRY_KEY_SALT => Cry.writeKeyWord who F.CRY_KEY_SALT_SALT 0 v s
  | .CRY_KEY_DATA => Cry.writeKeyWord who F.CRY_KEY_DATA_KEY i v s
  | .SYN_CTRL => Syn.writeCtrl v s
  | .SYN_REF_QL => Syn.writeRefQl i (v % 16) s
  | .SYN_HO_TC => Syn.writeTc i v s
  | .SYN_HO_AGE => Syn.writeAge i v s
  | .SYN_PSTEP => Syn.pstep i v s
  | .SYN_PRIV_KEY => Syn.privKey who v s
  | .SYN_NCO_CTRL => writeNco who i v s
  | .SYN_NCO_FREQ => Syn.ncoFreq who i v s
  | .SYN_TIME_CTRL => writeTime v s
  | .HSL_CTRL => Hsl.writeCtrl v s
  | .HSL_RCLK_SEL => Hsl.writeRclk i v s
  | .HSL_CLI_CFG => Hsl.writeCliCfg i v s
  | .FLW_CMD => writeFlow v s
  | .FLW_STAGE => Flw.writeStage i v s
  | .QDM_CTRL => Qdm.writeCtrl v s
  | .QDM_REGION => Qdm.writeRegion i j v s
  | .FRM_CTRL => writeFrm v s
  | .FRM_DEF_CFG => Frm.writeDefCfg i v s
  | .FRM_RA_CFG => Flw.writeRaCfg i v s
  | .FEC_CFG => Fec.writeCfg v s
  | .LTX_CTRL => Ltx.writeCtrl v s
  | .LTX_LINE_CFG => Ltx.writeLineCfg v s
  | .LTX_FREQ_OFS => Ltx.writeFreqOfs v s
  | .LTX_CDPRE => Ltx.writeCdpre v s
  | .LTX_CDPRE_CTRL => Ltx.writeCdpreCtrl v s
  | .LTX_SKEW => Ltx.writeSkew i v s
  | .LRX_CTRL => Lrx.writeCtrl v s
  | .LRX_LINE_CFG => Lrx.writeLineCfg v s
  | .LRX_RXGRP => Lrx.writeRxGrp v s
  | .LRX_CD_CTRL => Lrx.writeCdCtrl v s
  | .LRX_CD_RES => Lrx.writeCdRes v s
  | .LRX_EQ_CFG => Lrx.writeEqCfg v s
  | .SCM_CHG_CTRL => writeChange v s
  | .SCM_GRANT_CTRL => writeGrant v s
  | .BRX_CTRL => Brx.writeCtrl v s
  | .BRX_REC_POP => if v.testBit 0 then Brx.recPop s else s
  | .BRX_COL_POP => if v.testBit 0 then Brx.colPop s else s
  | .VLK_CTRL => Vlk.writeCtrl v s
  | .VLK_T_EQ => Vlk.writeTEq v s
  | .VLK_REG_CFG => Brx.outOfUse (plain r i j k v s)
  | .VLK_WAKE => Vlk.wake (v % 512) s
  | .VLK_TXPOST => Vlk.writeTxPost i v s
  | .VLK_RXPOP => if v.testBit 0 then Vlk.ringPop s else s
  | .VLK_LEAF => Vlk.writeLeaf i v s
  | .CVT_DAC_FS => Cvt.writeDacFs v s
  | .CVT_ADC_FS => Cvt.writeAdcFs v s
  | .CVT_DAC_CFG => Cvt.refresh (plain r i j k v s)
  | .CVT_ADC_CFG => Cvt.refresh (plain r i j k v s)
  | .LSR_CTRL => Lsr.laser (Lsr.writeCtrl v s)
  | .LSR_SER_CMD => Lsr.serCmd i v s
  | .LSR_FT_CFG => Lsr.writeGain i v s
  | .LSR_FT_OUT => Lsr.writeFtOut i v s
  | .LSR_LOOP_CFG => Flt.writeLoopCfg i v s
  | .PEER_CTRL => Peer.writeCtrl v s
  | .PEER_CFG => Peer.writeCfg v s
  | _ => plain r i j k v s

/-- What goes with a write of its block: SYN follows its configuration and a key sequence ends with another SYN write (R242); LTX and LRX
enables meet CAL (R318). -/
def follow (who : Pmc.Who) (r : RegId) (b : Nat) (s t : State) : State :=
  if b = 12 then
    let t := if r = .SYN_PRIV_KEY ∨ r = .SYN_NCO_CTRL then t else Syn.otherWrite who.master t
    Syn.refresh t
  else if b = 18 ∨ b = 19 then lineWritten s t
  else t

/-- The write is carried out (R13). The standby takes mirrored registers from PEER alone (R343). -/
def perform (who : Pmc.Who) (addr v : Nat) (s : State) : State :=
  match locate (canonAddr addr) with
  | none => Pmc.event 572 1 (some who) (some addr) s
  | some (r, i, j, k) =>
    Pmc.access (521 + 2 * Sys.blockOf addr) who addr s
      (if s.passive && who.master != 96 && Peer.isMirrored r then s.set F.PEER_INT_CAUSE_MIRRORED
       else follow who r (Sys.blockOf addr) s (act who r i j k v s))

/-- The block is in soft reset (R356). -/
def inReset (s : State) (addr : Nat) : Bool := s.bit F.SYS_SOFT_RST_BLK (Sys.blockOf addr)

/-- The block is stopped in REST (R363). -/
def stopped (s : State) (addr : Nat) : Bool := decide (2 ≤ Rest.state s) && Sys.stops (Sys.blockOf addr)

/-- An access waits. -/
def hold (who : Pmc.Who) (addr v : Nat) (write : Bool) (s : State) : State :=
  { s with held := s.held ++ [⟨who.master, who.user, addr, v, write⟩] }

/-- A write of a dword at a BAR0 offset by a master (R356, R363, R381). -/
def write (who : Pmc.Who) (addr v : Nat) (s : State) : State :=
  if inReset s addr || stopped s addr then hold who addr v true s else perform who addr (v % 2 ^ 32) s

/-- A write that a command of its own stands for, of register r at i, j by a master: counted, taken by the standby from PEER alone, and held
as the dword it would write where the block holds its writes (R13, R343, R356, R363). `dword` makes the dword written of the one that
stands there; `f` is the effect. All elements of a register lie in one block. -/
def row (who : Pmc.Who) (r : RegId) (i j : Nat) (dword : Nat → Nat) (f : State → State) (s : State) : State :=
  let addr := r.barAddr i j 0
  let first := r.barAddr 0 0 0
  if !r.shape.has i j 0 then s
  else if inReset s first || stopped s first then hold who addr (dword (fieldsWord s (storedWrite s addr) r i j 0)) true s
  else
    Pmc.access (521 + 2 * Sys.blockOf first) who addr s
      (if s.passive && who.master != 96 && Peer.isMirrored r then s.set F.PEER_INT_CAUSE_MIRRORED
       else follow who r (Sys.blockOf first) s (f s))

/-- A dword with a field of it replaced. -/
def into (f : Field) (v w : Nat) : Nat := w - 2 ^ f.lo * slice w f.lo f.width + 2 ^ f.lo * (v % 2 ^ f.width)

/-- A row that names no writer: F0 writes (notes/assumptions/22.md). -/
def host : Pmc.Who := ⟨1, false⟩

/-- A read by a master whose answer leaves for it, or waits while the block is in soft reset. -/
def fetch (who : Pmc.Who) (addr : Nat) (s : State) : State :=
  if inReset s addr then hold who addr 0 false s
  else
    let r := read who addr s
    r.2.emit (.readData who.master addr r.1)

/-- A held access is made. A read's answer leaves for its master. -/
def release (x : HeldAccess) (s : State) : State :=
  let who : Pmc.Who := ⟨x.master, x.user⟩
  if x.write then perform who x.addr (x.value % 2 ^ 32) s
  else
    let r := read who x.addr s
    r.2.emit (.readData x.master x.addr r.1)

/-- The held accesses that a condition picks are made, in order. -/
def releaseAll (which : HeldAccess → Bool) (s : State) : State :=
  let l := s.held.filter which
  let s := { s with held := s.held.filter (fun x => !which x) }
  s.eachOf l release

/-- SOFT_RESET_DONE (R356): the soft reset of block b is over. -/
def softResetDone (b : Nat) (s : State) : State :=
  if s.bit F.SYS_SOFT_RST_BLK b then
    releaseAll (fun x => Sys.blockOf x.addr == b) (s.clrBit F.SYS_SOFT_RST_BLK b)
  else s

/-- REST_EXIT_DONE (R364): the device is awake; stored writes act. -/
def restExitDone (us : Nat) (moves : List (List Nat)) (s : State) : State :=
  if Rest.state s = 3 ∧ Sys.wakePowered s then
    releaseAll (fun x => !s.bit F.SYS_SOFT_RST_BLK (Sys.blockOf x.addr)) (Sys.restExit us moves s)
  else s

end Sys2Proof.Machine.Bus
end

