-- ==== Sys2Proof/Machine/EngBus.lean ====
section
/-! DEFINITION. Sys2Proof/Machine/EngBus.lean: the words of tagged operations as they take effect at their targets, and the final states
they lead to (R253 to R264). -/
namespace Sys2Proof.Machine.EngBus
open Sys2Proof Sys2Proof.Machine

/-- How a write reaches a register. -/
abbrev Writer := Pmc.Who → Nat → Nat → State → State

/-- The operation goes to QDR-IV. -/
def isQdr (o : EngOp) : Bool := o.op == 0x1C || o.op == 0x1D

/-- Port and word address of a QDR operation's word i. -/
def port (o : EngOp) : Nat := o.target / 2 ^ 31
def qdrKey (o : EngOp) (i : Nat) : Nat := port o * 2 ^ 23 + o.target % 2 ^ 23 + i

/-- The master and privilege of an operation (R250). -/
def who (o : EngOp) : Pmc.Who := ⟨Eng.master o.engine, o.user⟩

/-- What a remote atomic writes for the old value it reads (R258); none where a compare fails. -/
def atomic (o : EngOp) (old : Nat) : Option Nat :=
  match o.op with
  | 0x20 => some o.val
  | 0x21 => some ((old + o.val) % 2 ^ 32)
  | 0x22 => some (old &&& o.val)
  | 0x23 => some (old ||| o.val)
  | _ => if old = o.val then some o.val2 else none

/-- Word i of an operation takes effect at source and destination (R256); the Nat is what a register target read as. -/
def word (w : Writer) (o : EngOp) (i : Nat) (s : State) : Nat × State :=
  let a := o.target + 4 * o.stride * i
  let m := o.mem + 4 * i
  match o.op with
  | 0x18 => Bus.read (who o) a s
  | 0x19 => (0, w (who o) a o.val s)
  | 0x1A =>
    let r := Bus.read (who o) a s
    (r.1, Eng.setMem o.engine m r.1 r.2)
  | 0x1B => (0, w (who o) a (Eng.mem s o.engine m) s)
  | 0x1C => (0, Eng.setMem o.engine m (Store.get 0 s.qdr (qdrKey o i)) s)
  | 0x1D => (0, { s with qdr := Store.put 0 s.qdr (qdrKey o i) (Eng.mem s o.engine m) })
  | _ =>
    let r := Bus.read (who o) a s
    (r.1, match atomic o r.1 with | some v => w (who o) a v r.2 | none => r.2)

/-- The operation is open still. -/
def isOpen (s : State) (o : EngOp) : Bool := s.eng.ops.any (fun x => x.engine == o.engine && x.jidx == o.jidx)

/-- DONE of an open operation. -/
def setDone (o : EngOp) (d : Nat) (s : State) : State :=
  let w3 := s.get H.ENG_JRNL o.engine o.jidx 3
  s.put H.ENG_JRNL (w3 - slice w3 12 12 * 4096 + d * 4096) o.engine o.jidx 3

/-- `n` words from word i on take effect one after another, while the operation is open (R256). -/
def run (w : Writer) (o : EngOp) : Nat → Nat → Nat × State → Nat × State
  | 0, _, r => r
  | n + 1, i, r =>
    if isOpen r.2 o then
      let t := word w o i r.2
      run w o n (i + 1) (t.1, if isOpen t.2 o then setDone o (i + 1) t.2 else t.2)
    else r

/-- An earlier write of the engine to the same block has not taken effect (R13, R258). -/
def waits (s : State) (o : EngOp) : Bool :=
  !isQdr o && ((Sys.openOps s o.engine).takeWhile (fun x => x.jidx != o.jidx)).any
    (fun x => !isQdr x && !Sys.isRead x && Sys.blockOf x.target == Sys.blockOf o.target)

/-- Every word has taken effect: a result goes to its register and the operation is APPLIED (R253, R254). -/
def applied (o : EngOp) (v : Nat) (s : State) : State :=
  let s := if o.op == 0x18 || decide (0x20 ≤ o.op) then Eng.setReg o.engine o.thread o.dest v s else s
  Eng.finalise o.engine o.jidx 2 0 o.count s

/-- OP_FINAL (R254, R256): words of the accepted operation of entry j take effect, up to `words` of them in all. It is final once all
have, or where QDR-IV fails it: QDM or the port out of use, or, with `parity`, a parity error in the word that follows (Table ENG-5). -/
def final (w : Writer) (n j words parity : Nat) (s : State) : State :=
  match s.eng.ops.find? (fun o => o.engine == n && o.jidx == j && o.accepted) with
  | none => s
  | some o =>
    if waits s o then s
    else if isQdr o && !Qdm.inUse s (port o) then Sys.cut o 7 s
    else
      let d := Sys.doneOf s o
      let k := max d (min words o.count)
      let r := run w o (k - d) d (0, s)
      let s := if isQdr o then Qdm.transferred (port o) (k - d) r.2 else r.2
      if !isOpen s o then s
      else if k = o.count then applied o r.1 s
      else if parity = 1 ∧ o.op = 0x1C then
        Eng.finalise n j 3 8 k (Qdm.dataError (port o) (o.target % 2 ^ 23 + k) s)
      else s

/-- OP_ACCEPT (R257): a block in soft reset and QDR in retention take no request (R356, R362). -/
def accept (n j : Nat) (s : State) : State :=
  match s.eng.ops.find? (fun o => o.engine == n && o.jidx == j) with
  | none => s
  | some o =>
    if isQdr o then (if s.on H.PWR_QDR_RET then s else Eng.accept n j s)
    else if Bus.inReset s o.target then s
    else Eng.accept n j s

/-- What a warm device reset makes of one open operation (R261, R264). The word at index DONE of an accepted write may take
effect: a free value says whether it does (notes/assumptions/2.md). -/
def convert (o : EngOp) (s : State) : State :=
  if !o.accepted then Eng.finalise o.engine o.jidx 4 5 0 s
  else
    let d := Sys.doneOf s o
    let t := if !Sys.isRead o && s.free 1 == 1 then (word Bus.write o d s.drew).2 else s.drew
    let w0 := t.get H.ENG_JRNL o.engine o.jidx 0
    Eng.finalise o.engine o.jidx (if d = 0 then 4 else 3) 5 d (t.put H.ENG_JRNL (w0 ||| 2 ^ 26) o.engine o.jidx 0)

end Sys2Proof.Machine.EngBus
end

