-- ==== Sys2Proof/Machine/Reset.lean ====
section
/-! DEFINITION. Sys2Proof/Machine/Reset.lean: device resets (spec/17_power_reset_and_start_up.md, R351 to R355), and the writes that
ask for one. -/
namespace Sys2Proof.Machine.Reset
open Sys2Proof Sys2Proof.Machine

/-- What every device reset keeps: the fuses of LCM and what the supply monitors show. -/
def fixed : List Field :=
  [F.LCM_STATE_STATE, F.LCM_KEY_STAT_WRITTEN, F.LCM_KEY_STAT_REVOKED, F.LCM_DEV_ID_VAL, H.LCM_FUSE_HASH, F.PWR_RAIL_STAT_GOOD]

/-- What a warm reset keeps beside: RWS fields, the journals and their pointers (Table SYS-10, R264). -/
def sticky : List Field :=
  [F.SYS_RST_CFG_PERST_MODE, F.SE_IMG_STAT_RB_CAUSE, F.SE_SPILL_STAT_LOST, F.CRY_ERASE_STAT_CAUSE, F.CRY_ERASE_STAT_COUNT,
   F.PEER_TAKE_CNT_COUNT, H.ENG_JRNL, H.ENG_JVALID, F.ENG_JRNL_HEAD_VAL, F.ENG_JRNL_SEQ_VAL, H.ENG_SPILL_POS, H.ENG_SPILL_CNT,
   H.ENG_SPILL_MAP]

/-- A snapshot of a master does not outlive the reset (R382). -/
def snapshots : List Field := [H.SYN_TSNAP_ON, H.SYN_TSNAP]

/-- The key survives: fuses always, and of a warm reset SYN and what sticks. -/
def survives (warm : Bool) (k : Nat) : Bool :=
  fixed.any (fun f => Sys.holds f k) ||
  (warm && (sticky.any (fun f => Sys.holds f k) || (Sys.keyIn 12 k && !snapshots.any (fun f => Sys.holds f k))))

/-- A calibration sector being written is left erased (R324). -/
def tornFlash (s : State) : State :=
  if s.on F.CAL_STAT_FLASH_BUSY then Flash.erase 0x80000 0x84000 s else s

/-- A slice in progress has lost its contents (R327). -/
def tornSlice (s : State) : State :=
  if s.on F.BST_STAT_BUSY && !s.on H.BST_WAITING then Bst.lose (s.get F.BST_STAT_CUR) s else s

/-- Everything a device reset returns (R355): the fields, the queues and records, the memories of the engines; QDR-IV contents stay at a
warm reset only. What the device has put out, and what waits to come in, are no part of it. -/
def clear (warm : Bool) (s : State) : State :=
  { csr := s.csr.filter (fun e => survives warm e.1)
    msix := if warm then s.msix else {}
    syn := if warm then s.syn else {}
    qdr := if warm then s.qdr else []
    flash := s.flash
    drawn := s.drawn
    out := s.out
    pending := s.pending }

/-- A device reset with its cause (Table SYS-9): 1 power-on, 2 RESET_N, 3 PERST#, 4 warm, 5 image-loading. SCRAPPED holds the safe
state. Boot follows as a command of its own. -/
def device (warm : Bool) (cause : Nat) (s : State) : State :=
  let s := if warm then s.eachOf s.eng.ops EngBus.convert else s
  let s := clear warm (tornSlice (tornFlash s))
  let s := s.put F.SYS_RST_CAUSE_SRC cause
  Bst.refresh (Syn.refresh s)

/-- WARM_RESET and IMAGE_LOADING_RESET (R354). -/
def warm (s : State) : State := device true 4 s
def image (s : State) : State := device true 5 s

/-- The image-loading reset where it is asked for. -/
def imageIf (r : Bool × State) : State := if r.1 then image r.2 else r.2

/-- A power-on reset by the rails of a mask (R351): it is held until they are back. -/
def powerOn (rails : Nat) (s : State) : State :=
  let held := s.on H.SYS_HELD
  let was := s.get F.SYS_RST_CAUSE_RAIL
  let s := device false 1 s
  let s := s.put F.SYS_RST_CAUSE_RAIL (if held then was ||| rails else rails)
  (s.put F.PWR_RAIL_STAT_GOOD (s.get F.PWR_RAIL_STAT_GOOD - (s.get F.PWR_RAIL_STAT_GOOD &&& rails))).set H.SYS_HELD

/-- RAIL_WARN (R351): rail r falls below its warning level. -/
def railWarn (r : Nat) (s : State) : State :=
  if r < 6 then (s.setBit F.PWR_RAIL_STAT_WARN r).set F.PWR_INT_CAUSE_RAIL_WARN else s

/-- RESET_RELEASE (R351): every rail has stayed up for 10 ms with RESET_N high. -/
def release (s : State) : State := (s.clr H.SYS_HELD).put F.PWR_RAIL_STAT_GOOD 63

/-- RESET_N (R354): low for 1 µs; the reset is held while it is low. -/
def resetN (s : State) : State := (device false 2 s).set H.SYS_HELD

/-- FUNCTION_LEVEL_RESET of function f (R278); its MSI-X table is at its reset state. -/
def function (f : Nat) (s : State) : State :=
  if 8 ≤ f then s
  else
    let s := Sys.masterReset (f + 1) s
    { s with msix := { enabled := withoutBit s.msix.enabled f
                       unmasked := s.msix.unmasked.filter (fun e => e.1 / 64 != f)
                       pend := s.msix.pend.filter (fun e => e.1 / 64 != f)
                       entry := s.msix.entry.filter (fun e => e.1 / 192 != f) } }

/-- PERST (R354) by PERST_MODE: 0 and 3 cold, 1 warm, 2 the endpoint only. -/
def perst (s : State) : State :=
  match s.get F.SYS_RST_CFG_PERST_MODE with
  | 1 => device true 3 s
  | 2 => s.each 8 function
  | _ => device false 3 s

/-! ### Writes that ask for a reset -/

/-- The key of SYS.RESET (Table SYS-9). -/
def warmKey (v : Nat) : Bool := v.testBit 0 && slice v 16 16 == 0xA5C3

/-- ENG.SE.IMG_CTRL: SLOT, then HEALTH_OK and ACTIVATE (R270). -/
def writeImgCtrl (v : Nat) (s : State) : State :=
  let s := s.put F.SE_IMG_CTRL_SLOT (slice v 2 1)
  let s := if v.testBit 0 then Img.healthOk s else s
  if v.testBit 1 then imageIf (Img.activate (slice v 2 1) s) else s

/-- A write of a dword at a BAR0 offset by any master, with the resets that it may ask for. -/
def write (who : Pmc.Who) (addr v : Nat) (s : State) : State :=
  let t := Bus.write who addr v s
  match locate (canonAddr addr) with
  | some (.SYS_RESET, _, _, _) => if warmKey v then warm t else t
  | some (.SYS_ROLLBACK, _, _, _) => if v.testBit 0 then imageIf (Img.rollback t) else t
  | some (.SE_IMG_CTRL, _, _, _) => writeImgCtrl v t
  | _ => t

end Sys2Proof.Machine.Reset
end

