-- ==== Sys2Proof/Machine/Remote.lean ====
section
/-! DEFINITION. Sys2Proof/Machine/Remote.lean: what the Voluman link does in a leaf for its hub: register accesses as master 97 (R114) and the
firmware push (R115). -/
namespace Sys2Proof.Machine.Remote
open Sys2Proof Sys2Proof.Machine

/-- VLK as a master (Table SYS-4). -/
def vlk : Pmc.Who := ⟨97, false⟩

/-- The status of an address (R114): 0 OK, 1 DENIED, 2 UNNAMED. -/
def status (s : State) (addr : Nat) : Nat :=
  if Sys.blockOf addr = 11 then 1
  else
    match locate (canonAddr addr) with
    | none => 2
    | some (r, _, _, _) =>
      if r = .SYN_PRIV_KEY ∨ (s.on F.SYS_LOCK_LOCK ∧ r.fields.any (fun f => f.access == .rwl)) then 1 else 0

/-- 2 bits each, the first lowest, sixteen in a word. -/
def packStatus (l : List Nat) : List Nat :=
  (List.range ((l.length + 15) / 16)).map (fun w => ((l.drop (16 * w)).take 16).foldr (fun x a => x + 4 * a) 0)

/-- REG_RESP (Table VLK-8) to a request of SEQ `q` and TYPE `type` for n addresses. -/
def respond (q type n : Nat) (values statuses : List Nat) (s : State) : State :=
  Vlk.toHub 0x32 true ([q % 256 + 2 ^ 8 * type + 2 ^ 16 * n, 0] ++ values ++ packStatus statuses) s

/-- One write of a REG_WRITE, the statuses so far before it. A write that ends the leaf's link ends the message. -/
def writeOne (x : Nat × Nat) (p : List Nat × State) : List Nat × State :=
  let st := status p.2 x.1
  if Vlk.leafOn p.2 then (p.1 ++ [st], if st = 1 then p.2 else Reset.write vlk x.1 x.2 p.2) else p

/-- One read of a REG_READ: values and statuses so far before it. A block in soft reset answers what it will hold when the reset ends. -/
def readOne (addr : Nat) (p : (List Nat × List Nat) × State) : (List Nat × List Nat) × State :=
  let st := status p.2 addr
  if st = 1 then ((p.1.1 ++ [0], p.1.2 ++ [st]), p.2)
  else
    let r := Bus.read vlk addr p.2
    ((p.1.1 ++ [if st = 0 then r.1 else 0], p.1.2 ++ [st]), r.2)

/-- REG_WRITE (R114): at most 120 pairs; it is answered while the link is there to answer. -/
def regWrite (addr flags seq : Nat) (pairs : List (Nat × Nat)) (s : State) : State :=
  if 120 < pairs.length then (if Vlk.toMe s addr then s.count F.VLK_CRC_ERR_CNT_COUNT else s)
  else
    Vlk.down addr flags seq (fun t =>
      let r := pairs.foldl (fun p x => writeOne x p) ([], t)
      if Vlk.leafOn r.2 then (respond seq 0x30 pairs.length [] r.1 r.2, some Vlk.statusOk) else (r.2, none)) s

/-- REG_READ (R114): at most 232 addresses. -/
def regRead (addr flags seq : Nat) (addrs : List Nat) (s : State) : State :=
  if 232 < addrs.length then (if Vlk.toMe s addr then s.count F.VLK_CRC_ERR_CNT_COUNT else s)
  else
    Vlk.down addr flags seq (fun t =>
      let r := addrs.foldl (fun p x => readOne x p) (([], []), t)
      (respond seq 0x31 addrs.length r.1.1 r.1.2 r.2, some Vlk.statusOk)) s

/-- FW_OPEN, FW_DATA (R115). -/
def fwOpen (addr flags seq version size crc : Nat) (s : State) : State :=
  Vlk.down addr flags seq (Vlk.accept (Img.fwOpen version size crc)) s

def fwData (addr flags seq offset : Nat) (bytes : List Nat) (s : State) : State :=
  Vlk.down addr flags seq (Vlk.accept (Img.fwData offset bytes)) s

/-- FW_STATUS as the leaf sends it (R115). -/
def sendFwStatus (s : State) : State := Vlk.toHub 0x3B true (Img.bitmap s) s

/-- FW_CLOSE (R115). -/
def fwClose (addr flags seq : Nat) (s : State) : State :=
  Vlk.down addr flags seq (Vlk.accept (fun t => (sendFwStatus t).clr H.VLK_FW_ON)) s

/-- FW_STATUS (R115): in the hub a leaf's bitmap, which is queued; in a leaf a request for it. -/
def fwStatus (addr flags seq : Nat) (bitmap : List Nat) (s : State) : State :=
  if s.leaf then Vlk.down addr flags seq (Vlk.accept sendFwStatus) s else Vlk.toRing addr flags 0x3B seq bitmap s

/-- FW_ACTIVATE (R115, R270): the pushed slot is activated as IMG_CTRL.ACTIVATE would. -/
def fwActivate (addr flags seq : Nat) (s : State) : State :=
  Vlk.down addr flags seq (fun t =>
    let r := Img.activate (Img.spare t) t
    (Reset.imageIf r, if r.1 then none else some Vlk.statusOk)) s

end Sys2Proof.Machine.Remote
end

