-- ==== Sys2Proof/Machine/Boot.lean ====
section
/-! DEFINITION. Sys2Proof/Machine/Boot.lean: the boot phases (spec/17_power_reset_and_start_up.md, R357; R269, R270, R324, R330). -/
namespace Sys2Proof.Machine.Boot
open Sys2Proof Sys2Proof.Machine

def phase (s : State) : Nat := s.get F.SYS_STAT_PHASE

/-- PHASE reaches OPEN or FAILED: the host interface opens (Table SYS-11). -/
def opened (p : Nat) (s : State) : State := ((s.put F.SYS_STAT_PHASE p).set F.SYS_STAT_HOST_OPEN).set F.SYS_INT_CAUSE_BOOT_DONE

/-- Phase FAILED without a valid image (R270). -/
def failed (s : State) : State := opened 6 (s.set F.SE_IMG_STAT_BOOT_FAIL)

/-- The trial window in seconds (Table ENG-10). -/
def healthS (s : State) (slot : Nat) : Nat :=
  let h := Img.word s slot 5
  if h = 0 then 30 else h

/-- Phase OPEN: threads start and the trial window begins (R269, R270). -/
def openNow (s : State) : State :=
  let s := s.each 65 (fun n t => t.each 4 (fun h u => if u.on H.ENG_START n h then Eng.start n h u else u))
  let s := if s.on F.SE_IMG_STAT_TRIAL then s.put F.SE_IMG_STAT_TRIAL_LEFT (min 65535 (healthS s (s.get F.SE_IMG_STAT_SLOT))) else s
  opened 5 s

/-- Phase SLICES ends once the start-up slices have run (R330). -/
def slicesDone (s : State) : State := if phase s = 4 ∧ ¬ s.on F.BST_STAT_BUSY then openNow s else s

/-- SE as a master at SUPER. -/
def se : Pmc.Who := ⟨9, false⟩

/-- A word of a TABLE section (R269). A word that resets the device ends this boot. -/
def tableWord (a v : Nat) (s : State) : State := if phase s = 3 then Reset.write se a v s else s

/-- What pass 2 loaded is cleared (R357). -/
def unload (slot : Nat) (s : State) : State :=
  s.eachOf (Img.table s slot) (fun x t =>
    match x.kind with
    | 0 => (t.eachOf (List.range (x.length / 4)) (fun i u => u.clr H.ENG_IMEM x.engine (x.dest / 4 + i))).clr F.ENG_STAT_LOADED x.engine
    | 1 => t.eachOf (List.range (x.length / 4)) (fun i u => u.clr H.ENG_DMEM x.engine (x.dest / 4 + i))
    | 2 => t.each 4 (fun i u => Img.loadThread x.engine i 0 u)
    | _ => t)

/-- Pass 2 over a slot (R357): the sections in table order. -/
def loadSlot (slot : Nat) (s : State) : State :=
  s.eachOf (Img.table s slot) (fun x t => if phase t = 3 then Img.loadSection tableWord slot x t else t)

/-- The role and the slot of the image that boots. -/
def takeImage (s : State) : State :=
  let s := Img.showRecord s
  s.put F.SYS_ROLE_ROLE (Img.role s (Img.record s).cur)

/-- The VERIFY_FAIL branch of R270: the slots exchange. -/
def verifyFail (s : State) : State :=
  (Img.writeRecord (Img.swapped (Img.record s)) (s.put F.SE_IMG_STAT_RB_CAUSE 3)).put F.BOOT_STAT_ERR 3

/-- Phases LOAD and SLICES from the slot CUR. -/
def loadAndTest (s : State) : State :=
  let s := loadSlot (Img.record s).cur (takeImage (s.put F.SYS_STAT_PHASE 3))
  if phase s = 3 then slicesDone (Bst.start (s.get F.BST_STARTUP_SET) (s.put F.SYS_STAT_PHASE 4)) else s

/-- Phase LOAD (R324, R357). `misread` bit 0: pass 2 of CUR reads another CRC than pass 1; bit 1: so does that of PREV. -/
def load (misread : Nat) (s : State) : State :=
  let r := Img.record s
  let s := Cal.load (s.put F.SYS_STAT_PHASE 3)
  if misread.testBit 0 then
    let s := loadSlot r.cur (takeImage s)
    if phase s = 3 then
      let s := unload r.cur s
      if r.prevValid && Img.valid s r.prev && !misread.testBit 1 then loadAndTest (verifyFail s)
      else failed (s.put F.BOOT_STAT_ERR 3)
    else s
  else loadAndTest s

/-- Phase VERIFY (R270). -/
def verify (misread : Nat) (s : State) : State :=
  let r := Img.record s
  let s := s.put F.SYS_STAT_PHASE 2
  if Img.valid s r.cur then load misread s
  else if r.prevValid && Img.valid s r.prev then load (misread / 2) (verifyFail s)
  else failed (Img.showRecord (s.put F.BOOT_STAT_ERR 3))

/-- Phase FLASH: the descriptor and the slot record (R359, R270). -/
def readFlash (s : State) : State :=
  let s := Img.readDescriptor (s.put F.SYS_STAT_PHASE 1)
  let s := if (Img.copyInUse s).isNone then s.put F.BOOT_STAT_ERR 2 else s
  let r := Img.record s
  if r.trial && r.tried then Img.writeRecord (Img.swapped r) (s.put F.SE_IMG_STAT_RB_CAUSE 2)
  else if r.trial then Img.writeRecord { r with tried := true } s
  else s

/-- Boot may begin: no power-on reset or RESET_N is held, every rail is above its threshold (R351), and no boot has run. -/
def ready (s : State) : Bool :=
  !s.on H.SYS_HELD && s.get F.PWR_RAIL_STAT_GOOD == 63 && phase s == 0 && !s.on F.SYS_STAT_HOST_OPEN

/-- BOOT (R357): LCM reads its fuses first. In SCRAPPED no image is read. -/
def boot (misread : Nat) (s : State) : State :=
  if !ready s then s
  else
    let s := Lcm.readFuses s
    if Lcm.life s = 5 then opened 6 s else verify misread (readFlash s)

/-- Events that may end the last start-up slice. -/
def sliceEnd (result detail elapsed : Nat) (s : State) : State := slicesDone (Bst.sliceEnd result detail elapsed s)
def sliceTimeout (s : State) : State := slicesDone (Bst.sliceTimeout s)
def bistAbort (s : State) : State := slicesDone (Bst.abort s)

end Sys2Proof.Machine.Boot
end

