-- ==== Sys2Proof/Machine/Access.lean ====
section
/-! DEFINITION. Sys2Proof/Machine/Access.lean: memory requests as they arrive (spec/19_register_index.md, R381 to R383): by the PCIe functions
through the host interface once it is open, by every other master on the register network; and the MSI-X table of each function. -/
namespace Sys2Proof.Machine.Access
open Sys2Proof Sys2Proof.Machine

/-- Functions F0 to F7 are masters 1 to 8 (Table SYS-4). -/
def isFunction (m : Nat) : Bool := decide (1 ≤ m) && decide (m ≤ 8)

/-- A request of a function before the host interface is open (R358). -/
def closed (s : State) (m : Nat) : Bool := isFunction m && !s.on F.SYS_STAT_HOST_OPEN

/-! ### MSI-X (R383; what PCI Express fixes of it is PRESUMED, notes/assumptions/23.md) -/

/-- The byte offset at which the commands give the BAR2 of the function that asks. -/
def bar2 : Nat := 0x1000000

/-- A vector that waits leaves once MSI-X is enabled and its entry unmasked. -/
def sendPending (f v : Nat) (s : State) : State :=
  if Store.get 0 s.msix.pend (64 * f + v) = 1 ∧ s.msix.enabled.testBit f = true ∧ Store.get 0 s.msix.unmasked (64 * f + v) = 1 then
    { s with msix := { s.msix with pend := Store.put 0 s.msix.pend (64 * f + v) 0 } }.emit (.msix f v)
  else s

/-- A dword is written in BAR2 of function f: the table, or at 0x2000 the control word with MSI-X Enable in bit 31. -/
def msixWrite (f x v : Nat) (s : State) : State :=
  let n := x / 16
  let i := x / 4 % 4
  if x = 0x2000 then
    { s with msix := { s.msix with enabled := if v.testBit 31 then withBit s.msix.enabled f else withoutBit s.msix.enabled f } }.each 64
      (sendPending f)
  else if 64 ≤ n then s
  else if i = 3 then
    sendPending f n { s with msix := { s.msix with unmasked := Store.put 0 s.msix.unmasked (64 * f + n) (1 - v % 2) } }
  else { s with msix := { s.msix with entry := Store.put 0 s.msix.entry (192 * f + 3 * n + i) (v % 2 ^ 32) } }

/-- A dword of BAR2 of function f as it reads. -/
def msixRead (s : State) (f x : Nat) : Nat :=
  let n := x / 16
  let i := x / 4 % 4
  if x = 0x2000 then (if s.msix.enabled.testBit f then 2 ^ 31 else 0)
  else if 0x1000 ≤ x ∧ x < 0x1008 then
    (List.range 32).foldl (fun a b => a + 2 ^ b * Store.get 0 s.msix.pend (64 * f + 32 * (x / 4 % 2) + b)) 0
  else if 64 ≤ n then 0
  else if i = 3 then 1 - Store.get 0 s.msix.unmasked (64 * f + n)
  else Store.get 0 s.msix.entry (192 * f + 3 * n + i)

/-! ### Requests -/

/-- A write of a dword (R381): with some byte enables missing it is ignored as a whole. -/
def write (m addr v be : Nat) (s : State) : State :=
  if closed s m then s.emit (.unsupported (m - 1) addr)
  else if be % 16 ≠ 15 then s
  else if bar2 ≤ addr then (if isFunction m then msixWrite (m - 1) (addr - bar2) v s else s)
  else Reset.write ⟨m, false⟩ addr (v % 2 ^ 32) s

/-- A read of a dword (R381); its answer leaves for the master. -/
def read (m addr : Nat) (s : State) : State :=
  if closed s m then s.emit (.unsupported (m - 1) addr)
  else if bar2 ≤ addr then
    s.emit (.readData m addr (if isFunction m then msixRead s (m - 1) (addr - bar2) else 0))
  else Bus.fetch ⟨m, false⟩ addr s

/-- A locked read (kind 0), an AtomicOp (kind 1), or another request, which is unsupported before the interface is open (R358, R381). -/
def unsupported (kind f addr : Nat) (s : State) : State :=
  if f < 8 ∧ (kind < 2 ∨ ¬ s.on F.SYS_STAT_HOST_OPEN) then s.emit (.unsupported f addr) else s

/-! ### Completion -/

/-- A command that may change what the pair mirrors completes: the mirror records leave (R343), and the interrupt outputs follow. -/
def doneMirrored (s t : State) : Host.Outcome State Fault Refusal := done s (Peer.mirror s t)

end Sys2Proof.Machine.Access
end

