-- ==== Sys2Proof/Machine/Signal.lean ====
section
/-! DEFINITION. Sys2Proof/Machine/Signal.lean: how the line's bits become symbols: the subcarrier grid, shaping blocks and their
enumeration, known symbols, net rate and latency (spec/01_clockless_architecture.md R25, spec/02_line_transmit.md R27 to R33,
spec/03_line_receive.md R54 and R70, spec/04_bit_loading_and_fec.md R76), the Voluman frame (spec/05_point_to_multipoint.md R101,
R102) and the registration burst (spec/06_burst_receiver.md R122 to R125). No register shows a symbol: these functions say what the
state's tables and queues stand for on the line. -/
namespace Sys2Proof.Machine.Signal
open Sys2Proof Sys2Proof.Machine

/-! ### The subcarrier grid (R27, R29) -/

/-- The spacing Δ of the grid in MHz: SF × B/N. -/
def spacing (baud spc n : Nat) : Q := Q.mk' ((100 + spc) * baud : Nat) (100 * n)

/-- The centre of subcarrier k relative to the carrier, in MHz: (k − (N − 1)/2) × Δ. -/
def centre (baud spc n k : Nat) : Q :=
  Q.mk' ((2 * (k : Int) + 1 - n) * ((100 + spc) * baud : Nat)) (200 * n)

/-- The mid-point of a leaf's span k_lo to k_hi (R29), in MHz: the offset of its signal laser from the hub's carrier. -/
def midpoint (baud spc n lo hi : Nat) : Q :=
  Q.mk' (((lo + hi + 1 : Nat) - (n : Int)) * ((100 + spc) * baud : Nat)) (200 * n)

/-- The centre of subcarrier k of this device's transmitter on the grid; LTX.FREQ_OFS shifts the span from there (`Line.shifted`). -/
def txCentre (s : State) (k : Nat) : Q :=
  centre (s.get F.LTX_LINE_CFG_BAUD_MBD) (s.get F.LTX_LINE_CFG_SPACING) (Ltx.subcarriers s) k

/-! ### Blocks (R30, R33) -/

/-- Symbols of a subcarrier frame on each polarisation, of a block, and blocks of a frame. -/
def frameSymbols : Nat := 16320
def blockSymbols : Nat := 64
def frameBlocks : Nat := 255

/-- Where the n-th shaping block of a subcarrier's frame stands, n = 0 to 507: its block number and whether it is on Y. Encoder output is
dealt to the X block, then to the Y block, then to the next X block. -/
def shapingBlock (n : Nat) : Nat × Bool := (n / 2 + 1, n % 2 == 1)

/-- Bits that a shaping block carries: h, but for QPSK with odd h one more on X and one less on Y. -/
def blockBits (const h : Nat) (y : Bool) : Nat :=
  if const = 0 ∧ h % 2 = 1 then (if y then h - 1 else h + 1) else h

/-- Data symbols of a QPSK block: the other symbols are known. -/
def dataSymbols (h : Nat) (y : Bool) : Nat := blockBits 0 h y / 2

/-- The symbol at position p of a block with K known symbols is a known one (R33). -/
def known (k p : Nat) : Bool := decide (p * k / 64 < (p + 1) * k / 64)

/-- The positions that a QPSK block's data symbols fill, in order. -/
def dataPositions (h : Nat) (y : Bool) : List Nat :=
  (List.range blockSymbols).filter (fun p => !known (blockSymbols - dataSymbols h y) p)

/-! ### Shaping (R32) -/

/-- The amplitude levels of a constellation (Table LTX-1), smallest first. -/
def levels (const : Nat) : List Nat := (List.range (2 ^ const)).map (fun i => 2 * i + 1)

/-- Sequences of n amplitudes from the levels with energy at most e. -/
def within (lv : List Nat) : Nat → Nat → Nat
  | 0, _ => 1
  | n + 1, e => (lv.map (fun a => if a * a ≤ e then within lv n (e - a * a) else 0)).foldl (· + ·) 0

/-- E: the smallest energy that at least 2^k sequences of 128 amplitudes do not exceed. -/
def bound (lv : List Nat) (k : Nat) : Nat :=
  ((List.range (128 * 225 + 1)).find? (fun e => decide (2 ^ k ≤ within lv 128 e))).getD 0

/-- The first amplitude of the sequence at position i among those of n + 1 amplitudes with energy at most e in lexicographic order, and
its position among those that begin with this amplitude. -/
def first (lv : List Nat) (n e : Nat) : List Nat → Nat → Option (Nat × Nat)
  | [], _ => none
  | a :: rest, i =>
    let c := if a * a ≤ e then within lv n (e - a * a) else 0
    if i < c then some (a, i) else first lv n e rest (i - c)

/-- The sequence of n amplitudes at position i of that order; none where there are fewer. -/
def sequence (lv : List Nat) : Nat → Nat → Nat → Option (List Nat)
  | 0, _, i => if i = 0 then some [] else none
  | n + 1, e, i => match first lv n e lv i with
    | some (a, j) => (sequence lv n (e - a * a) j).map (a :: ·)
    | none => none

/-- The position of a sequence in that order: how many come before it. -/
def position (lv : List Nat) (e : Nat) : List Nat → Nat
  | [] => 0
  | a :: rest =>
    ((lv.filter (· < a)).map (fun b => if b * b ≤ e then within lv rest.length (e - b * b) else 0)).foldl (· + ·) 0 +
      position lv (e - a * a) rest

/-- Σ a². -/
def energy (l : List Nat) : Nat := (l.map (fun a => a * a)).foldl (· + ·) 0

/-- The number that a list of bits spells, first bit most significant. -/
def number (bits : List Nat) : Nat := bits.foldl (fun a b => 2 * a + b % 2) 0

/-- The amplitudes of a shaping block from its index bits. -/
def amplitudes (const : Nat) (index : List Nat) : Option (List Nat) :=
  sequence (levels const) 128 (bound (levels const) index.length) (number index)

/-- The index bits of 128 decoded amplitudes (R70); none for a block that cannot have been sent, which DM_ERR reports. -/
def indexOf (const k : Nat) (amp : List Nat) : Option Nat :=
  if amp.length = 128 ∧ amp.all (fun a => (levels const).contains a) then
    let e := bound (levels const) k
    let i := position (levels const) e amp
    if energy amp ≤ e ∧ i < 2 ^ k then some i else none
  else none

/-- The label of a level 2 i + 1: the binary-reflected Gray code of i. -/
def label (level : Nat) : Nat := let i := level / 2; i ^^^ (i / 2)

/-- The total energy of all sequences of n amplitudes with energy at most e. -/
def energyAll (lv : List Nat) : Nat → Nat → Nat
  | 0, _ => 0
  | n + 1, e =>
    (lv.map (fun a => if a * a ≤ e then a * a * within lv n (e - a * a) + energyAll lv n (e - a * a) else 0)).foldl (· + ·) 0

/-- The total energy of the first m sequences of n amplitudes, `go` summing over the first amplitude. -/
def energyFirst (lv : List Nat) : Nat → Nat → Nat → Nat
  | 0, _, _ => 0
  | n + 1, e, m =>
    (lv.foldl (fun (acc : Nat × Nat) a =>
      let c := if a * a ≤ e then within lv n (e - a * a) else 0
      if acc.2 < c then (acc.1 + a * a * acc.2 + energyFirst lv n (e - a * a) acc.2, 0)
      else (acc.1 + (if a * a ≤ e then a * a * c + energyAll lv n (e - a * a) else 0), acc.2 - c)) (0, m)).1

/-- Ē: the mean energy per amplitude over the sequences of index 0 to 2^k − 1. Symbols are scaled by 1/√(2 Ē). -/
def meanEnergy (const k : Nat) : Q :=
  Q.mk' (energyFirst (levels const) 128 (bound (levels const) k) (2 ^ k) : Nat) (128 * 2 ^ k)

/-- The sign of amplitude j under sign bit b: 0 is positive. -/
def withSign (a b : Nat) : Int := if b % 2 = 0 then (a : Int) else -(a : Int)

/-- The 64 symbols of a shaped block, in-phase and quadrature parts before scaling: index bits first, then 128 sign bits. -/
def shaped (const : Nat) (bits : List Nat) : Option (List (Int × Int)) :=
  (amplitudes const (bits.take (bits.length - 128))).map (fun amp =>
    let v := amp.zipWith withSign (bits.drop (bits.length - 128))
    (List.range blockSymbols).map (fun i => (v.getD (2 * i) 0, v.getD (2 * i + 1) 0)))

/-- The 64 symbols of a QPSK block: known symbols are (1 + j)/√2, data fills the other positions in order. -/
def qpsk (h : Nat) (y : Bool) (bits : List Nat) : List (Int × Int) :=
  let at' := dataPositions h y
  (List.range blockSymbols).map (fun p => match at'.idxOf? p with
    | some i => (withSign 1 (bits.getD (2 * i) 0), withSign 1 (bits.getD (2 * i + 1) 0))
    | none => (1, 1))

/-! ### Net rate (R76) and latency (R25, R54) -/

/-- The SD-FEC rate R (Table FEC-1). -/
def fecRate (r : Nat) : Q := match r with
  | 0 => Q.mk' 3 4
  | 1 => Q.mk' 5 6
  | _ => Q.mk' 8 9

/-- Net bits per 2D symbol under a loading entry: H − (1 − R) L, and R H for QPSK. -/
def netBits (entry r : Nat) : Q :=
  let c := slice entry 3 2
  let h := Q.mk' (slice entry 5 9 : Nat) 64
  if c = 0 then Q.mul (fecRate r) h
  else Q.sub h (Q.mul (Q.sub (Q.int 1) (fecRate r)) (Q.int (2 * c + 2 : Nat)))

/-- The net rate of a DATA or SLOT subcarrier in Mb/s. -/
def netRate (baud n entry r : Nat) : Q := Q.mul (Q.mk' (2 * baud * 254 : Nat) (n * 255)) (netBits entry r)

/-- L_TX in latency cycles (R12, R25): the symbol rate in MBd, pre-compensated dispersion in ps/nm, deskew in 0.1 ns. -/
def latencyTx (baud d dsk : Nat) : Nat :=
  138 + ceilDiv 14500000 baud + ceilDiv (d * baud) (240 * 290000) + ceilDiv (dsk * 1000) 7529

/-- L_EQX of T taps and N subcarriers. -/
def latencyTaps (baud n t : Nat) : Nat := ceilDiv ((t - 1) * n * 10000000) (2 * 7529 * baud) - 2

/-- L_RX: dispersion in ps/nm, at most I iterations. -/
def latencyRx (baud n d i t : Nat) : Nat :=
  400 + 22 * i - 176 + ceilDiv 61480000 baud + ceilDiv (d * baud) (240 * 290000) + latencyTaps baud n t

/-- D_eq (R54): the residual dispersion in ps/nm that an equaliser of T taps absorbs. -/
def absorbed (baud n t : Nat) : Q := Q.mk' ((t - 1) * 60700 * n * n * 1000000 : Nat) (baud * baud)

/-! ### The Voluman frame on a beacon (R101, R102) -/

/-- The 4,064 bytes of a VDF: header, messages back to back, zeros, and the CRC-32C over the 4,060 bytes before it. -/
def vdf (header : List Nat) (messages : List VMsg) : List Nat := checked 4064 (header ++ messages.flatMap Vlk.messageBytes)

/-- Bytes as bits, each byte most significant bit first. -/
def bitsMsb (bytes : List Nat) : List Bool := bytes.flatMap (Frm.bitsOf 8)

/-- The coded bits of scrambled bytes (R101, R125, R148). -/
def coded (bytes : List Nat) : List Nat := Vlk.encode ((Frm.scramble (bitsMsb bytes)).map b01)

/-- Where coded bit i of a VDF stands (R101): its shaping block, whether on Y, the symbol, and whether it is the quadrature bit. -/
def vdfPlace (i : Nat) : Nat × Bool × Nat × Bool :=
  let b := shapingBlock (i / 128)
  (b.1, b.2, i % 128 / 2, i % 2 == 1)

/-! ### The registration burst (R122 to R125) -/

/-- The message length L in bytes and the payload symbols P of a header's LEN. -/
def burstMessage (len : Nat) : Nat := 64 + 16 * len
def burstPayload (len : Nat) : Nat := 4 * (burstMessage len + 4)

/-- A burst's length in symbols. -/
def burstSymbols (len : Nat) : Nat := 448 + burstPayload len

/-- The phase of p(n) = exp(−j π n²/256) in units of π/256. -/
def phase (n : Nat) : Nat := (512 - n * n % 512) % 512

/-- A symbol of a burst on one polarisation: nothing, a phase in units of π/256, or a QPSK point by its signs. -/
inductive BurstSymbol where
  | zero
  | phase (p : Nat)
  | point (i q : Int)
  deriving DecidableEq, Repr

/-- The header word (Table BRX-2). -/
def burstHeader (len opp prev idLo idHi : Nat) : Nat :=
  2 ^ 30 + len % 8 * 2 ^ 27 + opp % 16 * 2 ^ 23 + prev % 512 * 2 ^ 14 + crcBytes (bytesOf [idLo, idHi]) % 2 ^ 14

/-- The 96 coded bits of a header: 32 bits and their CRC-16 (R124). -/
def headerCoded (word : Nat) : List Nat :=
  let b := Frm.bitsOf 32 word
  Vlk.encode ((b ++ Frm.bitsOf 16 (Frm.crc 16 0x1021 0xFFFF b)).map b01)

/-- The coded bits of the payload: the message and its CRC-32C. -/
def payloadCoded (message : List Nat) : List Nat := coded (message ++ bytesOf [crcBytes message])

/-- Symbol s of a burst with its header word and message bytes, on X or on Y (Table BRX-1). -/
def burst (word : Nat) (message : List Nat) (y : Bool) (s : Nat) : BurstSymbol :=
  let p := burstPayload (slice word 27 3)
  let turn := fun n => if y then phase ((n + 128) % 256) else phase n
  if s < 64 then .zero
  else if s < 320 then .phase (turn (s - 64))
  else if s < 416 then
    let v := withSign 1 ((headerCoded word).getD (s - 320) 0)
    .point v v
  else if s < 416 + p then
    let b := payloadCoded message
    let i := 4 * (s - 416) + (if y then 2 else 0)
    .point (withSign 1 (b.getD i 0)) (withSign 1 (b.getD (i + 1) 0))
  else if s < 448 + p then .phase ((turn (s - 416 - p) + 256) % 512)
  else .zero

end Sys2Proof.Machine.Signal
end

