-- ==== Sys2Proof/Machine/Wave.lean ====
section
/-! DEFINITION. Sys2Proof/Machine/Wave.lean: complex numbers with rational parts, sine, cosine, square root and decibels, for the arithmetic
on samples that the line chapters state over real numbers. What is irrational is computed to within 2^-80 (notes/assumptions/59.md). -/
namespace Sys2Proof.Machine

/-- A complex number. -/
structure Cx where
  re : Q := {}
  im : Q := {}
  deriving DecidableEq, Repr

def Cx.real (x : Q) : Cx := ⟨x, {}⟩
def Cx.add (a b : Cx) : Cx := ⟨Q.add a.re b.re, Q.add a.im b.im⟩
def Cx.sub (a b : Cx) : Cx := ⟨Q.sub a.re b.re, Q.sub a.im b.im⟩
def Cx.mul (a b : Cx) : Cx :=
  ⟨Q.sub (Q.mul a.re b.re) (Q.mul a.im b.im), Q.add (Q.mul a.re b.im) (Q.mul a.im b.re)⟩
def Cx.scale (r : Q) (a : Cx) : Cx := ⟨Q.mul r a.re, Q.mul r a.im⟩
def Cx.conj (a : Cx) : Cx := ⟨a.re, Q.neg a.im⟩
/-- |a|². -/
def Cx.norm2 (a : Cx) : Q := Q.add (Q.mul a.re a.re) (Q.mul a.im a.im)
def Cx.sum (l : List Cx) : Cx := l.foldl Cx.add {}

/-- The terms of cos z + j sin z from term i on, z with 96 fraction bits; `t` is the term before. -/
def cisTerms : Nat → Nat → Int → Int → Int × Int → Int × Int
  | 0, _, _, _, acc => acc
  | n + 1, i, z, t, (c, d) =>
    let t := t * z / ((2 ^ 96 : Nat) : Int) / ((i : Nat) : Int)
    cisTerms n (i + 1) z t
      (match i % 4 with | 0 => (c + t, d) | 1 => (c, d + t) | 2 => (c - t, d) | _ => (c, d - t))

/-- 2π with 96 fraction bits. -/
def twoPi : Nat := 497805226624462170461043889244

/-- π. -/
def piQ : Q := Q.mk' (twoPi : Nat) (2 ^ 97)

/-- exp(j 2π x): x in turns. -/
def cis (x : Q) : Cx :=
  let turn := x.num % ((max 1 x.den : Nat) : Int)
  let z := turn * (twoPi : Nat) / ((max 1 x.den : Nat) : Int)
  let r := cisTerms 64 1 z ((2 ^ 96 : Nat) : Int) (((2 ^ 96 : Nat) : Int), 0)
  ⟨Q.mk' r.1 (2 ^ 96), Q.mk' r.2 (2 ^ 96)⟩

/-- The square root of a rational that is not negative. -/
def Q.sqrt (x : Q) : Q := if x.num ≤ 0 then {} else Q.mk' (Nat.sqrt (x.num.natAbs * 2 ^ 192 / max 1 x.den) : Nat) (2 ^ 96)

/-- log2 10 × 10^40. -/
def log2Ten : Nat := 33219280948873623478703194294893901758648

/-- 10^(d/200): the amplitude factor of d tenths of a decibel. -/
def tenths (d : Int) : Q :=
  let p := pow2neg (d.natAbs * log2Ten) (200 * 10 ^ 40)
  if d ≤ 0 then p else Q.div (Q.int 1) p

/-- Rounded to the nearest integer, half to even. -/
def Q.roundEven (x : Q) : Int :=
  let d : Int := ((max 1 x.den : Nat) : Int)
  let q := x.num / d
  let r := 2 * (x.num % d)
  if d < r ∨ (r = d ∧ q % 2 = 1) then q + 1 else q

/-- A rational limited to `lo` to `hi`. -/
def Q.clamp (lo hi x : Q) : Q := if Q.lt x lo then lo else if Q.lt hi x then hi else x

/-- The discrete Fourier transform of a record, bin by bin. -/
def dft (x : List Cx) : List Cx :=
  (List.range x.length).map (fun b => Cx.sum (x.zipIdx.map (fun e => Cx.mul e.1 (cis (Q.mk' (-((b * e.2 : Nat) : Int)) x.length)))))

/-- Its inverse. -/
def idft (x : List Cx) : List Cx :=
  (List.range x.length).map (fun i =>
    Cx.scale (Q.mk' 1 x.length) (Cx.sum (x.zipIdx.map (fun e => Cx.mul e.1 (cis (Q.mk' ((i * e.2 : Nat) : Int) x.length))))))

/-- The frequency of bin b of an n-sample record at sample rate fs: the upper half are the negative ones. -/
def binFrequency (fs : Q) (n b : Nat) : Q := Q.mul fs (if 2 * b < n then Q.mk' b n else Q.mk' ((b : Int) - n) n)

/-- A record through a linear stage of frequency response `h`; the record is taken as one period (notes/assumptions/11.md). -/
def through (fs : Q) (h : Q → Cx) (x : List Cx) : List Cx :=
  idft ((dft x).zipIdx.map (fun e => Cx.mul e.1 (h (binFrequency fs x.length e.2))))

/-- Sample i of a cross-fade over n samples, linear from the old to the new output (R40, R53, R308). -/
def faded (n i : Nat) (old new : Cx) : Cx := Cx.add old (Cx.scale (Q.mk' (min i n : Nat) (max 1 n)) (Cx.sub new old))

end Sys2Proof.Machine
end

