-- ==== Sys2Proof/Machine/Line.lean ====
section
/-! DEFINITION. Sys2Proof/Machine/Line.lean: the transmitter's arithmetic on samples, stage by stage in the order of R26
(spec/02_line_transmit.md, R26 to R29, R32, R34, R38 to R44): what the tables, banks and settings that the state holds make of symbols.
Frequencies are in MHz, times in microseconds; a lane's full scale is 1. -/
namespace Sys2Proof.Machine.Line
open Sys2Proof Sys2Proof.Machine

/-! ### Stage 1: symbols (R32 to R34) -/

/-- The power factor 10^(P/20) of a loading entry (R34). -/
def powerFactor (entry : Nat) : Q := tenths (signed 8 (slice entry 14 8))

/-- 1/√(2Ē) of an entry's shaping blocks (R32); QPSK has Ē = 1. -/
def unitScale (const h : Nat) : Q := Q.div (Q.int 1) (Q.sqrt (Q.mul (Q.int 2) (if const = 0 then Q.int 1 else Signal.meanEnergy const (h - 128))))

/-- A symbol scaled and multiplied by the entry's power factor. -/
def driven (entry const h : Nat) (x : Int × Int) : Cx :=
  Cx.scale (Q.mul (unitScale const h) (powerFactor entry)) ⟨Q.int x.1, Q.int x.2⟩

/-- The 64 symbols of a block under a loading entry: its bits on X or Y. -/
def block (entry : Nat) (y : Bool) (bits : List Nat) : List Cx :=
  let c := slice entry 3 2
  let h := slice entry 5 9
  ((if c = 0 then some (Signal.qpsk h y bits) else Signal.shaped c bits).getD (List.replicate 64 (0, 0))).map (driven entry c h)

/-- The 64 symbols of the overhead block: uniform QPSK under the entry's power factor (R30, R34). -/
def overhead (entry : Nat) (bits : List Nat) : List Cx := (Signal.qpsk 128 false bits).map (driven entry 0 128)

/-! ### Stage 2: synthesis (R27) -/

/-- The root-raised-cosine pulse of roll-off beta at time t in symbols, of unit energy (R27). -/
def pulse (beta t : Q) : Q :=
  let one := Q.int 1
  let sin := fun (x : Q) => (cis (Q.div x (Q.int 2))).im
  let cos := fun (x : Q) => (cis (Q.div x (Q.int 2))).re
  let four := Q.mul (Q.int 4) (Q.mul beta t)
  if t.isZero then Q.add one (Q.mul beta (Q.sub (Q.div (Q.int 4) piQ) one))
  else if (Q.sub (Q.mul four four) one).isZero then
    let a := Q.div one (Q.mul (Q.int 4) beta)
    let p := Q.div (Q.int 2) piQ
    Q.div (Q.mul beta (Q.add (Q.mul (Q.add one p) (sin a)) (Q.mul (Q.sub one p) (cos a)))) (Q.sqrt (Q.int 2))
  else
    Q.div (Q.add (sin (Q.mul t (Q.sub one beta))) (Q.mul four (cos (Q.mul t (Q.add one beta)))))
      (Q.mul (Q.mul piQ t) (Q.sub one (Q.mul four four)))

/-- The roll-off β = SF − 1. -/
def rollOff (spc : Nat) : Q := Q.mk' spc 100

/-- What one subcarrier centred at `f` contributes at time t: its symbols, `rate` of them in a microsecond, from time 0 on. -/
def carrier (beta rate f t : Q) (symbols : List Cx) : Cx :=
  Cx.mul (cis (Q.mul f t))
    (Cx.sum (symbols.zipIdx.map (fun e => Cx.scale (pulse beta (Q.sub (Q.mul t rate) (Q.int e.2))) e.1)))

/-- The centre of subcarrier k as this device synthesises it, in MHz: on the grid in a hub, from the span's mid-point in a leaf, whose
signal laser is offset by that (R27, R29). -/
def centre (s : State) (k : Nat) : Q :=
  let f := Signal.txCentre s k
  if s.leaf then
    match Ltx.span s H.LTX_ACTIVE with
    | some (lo, hi) =>
      Q.sub f (Signal.midpoint (s.get F.LTX_LINE_CFG_BAUD_MBD) (s.get F.LTX_LINE_CFG_SPACING) (Ltx.subcarriers s) lo hi)
    | none => f
  else f

/-- The subcarriers that transmit under the active bank (R34): not NULL, and on DATA and SLOT those that this device owns or is granted now
(R96, R112). A BURST subcarrier sends zeros between bursts. -/
def transmitting (s : State) : List Nat :=
  (List.range (Ltx.subcarriers s)).filter (fun k =>
    let m := s.get H.LTX_ACTIVE k % 8
    m == 2 || m == 4 || (m == 1 && Vlk.owns s k) || (m == 3 && Vlk.slotGranted s k (s.get H.FRM_TX_MFN) (s.get H.FRM_TX_FN)))

/-- The composite is scaled so that with every power offset at 0 dB a lane has an RMS of 0.25 of full scale (R43): n subcarriers give it the
power n/2. -/
def fullScale (n : Nat) : Q := Q.div (Q.mk' 1 4) (Q.sqrt (Q.mk' n 2))

/-- Sample i of one polarisation: every transmitting subcarrier's symbols, a list per subcarrier number. -/
def synthesis (s : State) (symbols : Nat → List Cx) (i : Nat) : Cx :=
  let fs := s.get F.CVT_DAC_FS_FS_MHZ
  let rate := Q.mk' (s.get F.LTX_LINE_CFG_BAUD_MBD : Nat) (Ltx.subcarriers s)
  let ks := transmitting s
  Cx.scale (fullScale ks.length)
    (Cx.sum (ks.map (fun k => carrier (rollOff (s.get F.LTX_LINE_CFG_SPACING)) rate (centre s k) (Q.mk' (i : Nat) fs) (symbols k))))

/-! ### Stage 3: frequency offset (R38) -/

/-- LTX.FREQ_OFS in force, in MHz. -/
def offset (s : State) : Q := Q.mk' (signed 16 (s.get H.LTX_OFS_NOW)) 10

/-- The turns of the offset's rotation at sample i, where it took the values of `changes` (from sample, MHz) in turn: a change keeps the
phase reached, so that phase is continuous. -/
def turns (fs : Nat) (changes : List (Nat × Q)) (i : Nat) : Q :=
  let ends := (changes.drop 1).map (fun c => min i c.1) ++ [i]
  Q.sum ((changes.zip ends).map (fun c => Q.mul c.1.2 (Q.mk' ((c.2 - min i c.1.1 : Nat) : Int) fs)))

/-- A sample under the offset. -/
def shifted (fs : Nat) (changes : List (Nat × Q)) (i : Nat) (x : Cx) : Cx := Cx.mul x (cis (turns fs changes i))

/-! ### Stage 4: dispersion pre-compensation (R39, R40) -/

/-- H_pre(f) = exp(+j π D λ₀² f²/c) of D ps/nm at carrier f₀, λ₀ = c/f₀; f and f₀ in MHz (R39). -/
def response (d : Int) (f0 f : Q) : Cx :=
  let r := Q.div f f0
  cis (Q.mul (Q.mk' (d * 299792458) 2000) (Q.mul r r))

/-- The inverse all-pass, of a receiver (R52). -/
def inverse (d : Int) (f0 f : Q) : Cx := Cx.conj (response d f0 f)

/-- A record through the stage: D = 0 bypasses it. -/
def compensate (fs : Nat) (d : Int) (f0 : Q) (x : List Cx) : List Cx :=
  if d = 0 then x else through (Q.int fs) (response d f0) x

/-- The stage while a fade of `len` blocks runs, `at_` samples into it: from the present response to the new one (R40). -/
def compensateFading (fs len at_ : Nat) (now target : Int) (f0 : Q) (x : List Cx) : List Cx :=
  ((compensate fs now f0 x).zip (compensate fs target f0 x)).zipIdx.map (fun e => faded (4096 * len) (at_ + e.2) e.1.1 e.1.2)

/-- What the state has the stage do: its present response, or the fade under way. -/
def stage4 (s : State) (f0 : Q) (at_ : Nat) (x : List Cx) : List Cx :=
  let fs := s.get F.CVT_DAC_FS_FS_MHZ
  if s.on F.LTX_STAT_CD_FADING then
    compensateFading fs (s.get H.LTX_FADE_LEN) at_ (signed 22 (s.get H.LTX_D_NOW)) (signed 22 (s.get H.LTX_D_FADE)) f0 x
  else compensate fs (signed 22 (s.get H.LTX_D_NOW)) f0 x

/-! ### Stages 5 to 9, on each of the lanes XI, XQ, YI, YQ (R41 to R44) -/

/-- The four lanes of the two polarisations. -/
def lanes (x y : List Cx) : List (List Q) := [x.map (·.re), x.map (·.im), y.map (·.re), y.map (·.im)]

/-- Lane d delayed by a number of 1/64 ps (R41). -/
def skewed (fs : Nat) (n : Int) (x : List Q) : List Q :=
  if n = 0 then x
  else (through (Q.int fs) (fun f => cis (Q.mul f (Q.mk' (-n) 64000000))) (x.map Cx.real)).map (·.re)

/-- The 15-tap FIR: taps of value/1,024, tap 7 the centre (R42). A sample outside the record is 0. -/
def preEmphasis (taps : List Int) (x : List Q) : List Q :=
  (List.range x.length).map (fun i =>
    Q.sum (taps.zipIdx.map (fun e => if e.2 ≤ i + 7 then Q.mul (Q.mk' e.1 1024) (x.getD (i + 7 - e.2) {}) else {})))

/-- GAIN/1,024 and the clipping to ±(1 − 2⁻¹¹) of what reaches full scale; the Bool says whether the sample was clipped (R43). -/
def gained (gain : Nat) (x : Q) : Q × Bool :=
  let v := Q.mul (Q.mk' gain 1024) x
  let top := Q.mk' 2047 2048
  if Q.le (Q.int 1) v then (top, true) else if Q.le v (Q.int (-1)) then (Q.neg top, true) else (v, false)

/-- The pre-distortion table: knots y_j/512 at −1 + j/32, linear between them, clamped to −1 to 1 − 2⁻⁷ (R43). -/
def predistorted (knots : List Int) (x : Q) : Q :=
  let u := Q.mul (Q.int 32) (Q.add x (Q.int 1))
  let j := (u.num / ((max 1 u.den : Nat) : Int)).toNat
  let a := Q.mk' (knots.getD j 0) 512
  let b := Q.mk' (knots.getD (j + 1) (knots.getD j 0)) 512
  Q.clamp (Q.int (-1)) (Q.mk' 127 128) (Q.add a (Q.mul (Q.sub u (Q.int j)) (Q.sub b a)))

/-- The DAC code of a pre-distorted value: 128 + round(128 y), half to even (R43). -/
def code (y : Q) : Nat := (128 + Q.roundEven (Q.mul (Q.int 128) y)).toNat

def pdKnots (s : State) (d : Nat) : List Int := (List.range 65).map (fun j => signed 11 (s.get H.LTX_PD_ACTIVE d j))
def peqTaps (s : State) (d : Nat) : List Int := (List.range 15).map (fun t => signed 12 (s.get H.LTX_PEQ_ACTIVE d t))

/-- Lane d from skew to code: the codes and how many samples were clipped. -/
def lane (s : State) (d : Nat) (x : List Q) : List Nat × Nat :=
  let v := (preEmphasis (peqTaps s d) (skewed (s.get F.CVT_DAC_FS_FS_MHZ) (signed 12 (s.get H.LTX_SKEW_NOW d)) x)).map
    (gained (s.get F.LTX_GAIN_GAIN d))
  (v.map (fun e => code (predistorted (pdKnots s d) e.1)), (v.filter (·.2)).length)

/-- The whole path of R26 over a record of `n` samples from sample `i0` on: the symbols of each subcarrier on X and on Y, the carrier
frequency f₀, the changes of the frequency offset and the samples since a fade began. The answer is what each physical DAC puts out, and
the samples clipped on each lane. -/
def transmit (s : State) (x y : Nat → List Cx) (f0 : Q) (changes : List (Nat × Q)) (i0 n fade : Nat) : List (List Nat) × List Nat :=
  let fs := s.get F.CVT_DAC_FS_FS_MHZ
  let pol := fun (p : Nat → List Cx) =>
    stage4 s f0 fade ((List.range n).map (fun i => shifted fs changes (i0 + i) (synthesis s p (i0 + i))))
  let out := (lanes (pol x) (pol y)).zipIdx.map (fun e => lane s e.2 e.1)
  ((List.range 4).map (fun p => (List.range n).map (fun i => Ltx.dacOutput s (out.map (fun e => e.1.getD i 128)) p)), out.map (·.2))

end Sys2Proof.Machine.Line
end

