-- ==== Sys2Proof/Machine/Receive.lean ====
section
/-! DEFINITION. Sys2Proof/Machine/Receive.lean: the receiver's arithmetic on samples, stage by stage in the order of R48
(spec/03_line_receive.md, R49 to R70): what LRX does to the samples of a block, and what it judges from them. The commands of the receiver
carry the judgements; these functions say how each is made. Frequencies are in MHz, times in microseconds. -/
namespace Sys2Proof.Machine.Receive
open Sys2Proof Sys2Proof.Machine

/-! ### Stage 1: the ADCs (R49) -/

/-- The code that physical ADC p delivers is read under its polarity. -/
def read (s : State) (p code : Nat) : Nat := if s.on F.CVT_ADC_CFG_INV p then 255 - code else code

/-- The physical ADC whose SRC is logical lane d. -/
def adcOf (s : State) (d : Nat) : Nat := ((List.range 4).find? (fun p => s.get F.CVT_ADC_CFG_SRC p == d)).getD d

/-- The codes of the four physical ADCs as the lanes XI, XQ, YI, YQ. -/
def laneCodes (s : State) (codes : List Nat) : List Nat :=
  (List.range 4).map (fun d => let p := adcOf s d; read s p (codes.getD p 128))

/-- A code counts as an overload. -/
def overload (code : Nat) : Bool := code == 0 || code == 255

/-- A lane's sample: offset binary with mid-scale 128, full scale 1. -/
def sample (code : Nat) : Q := Q.mk' ((code : Int) - 128) 128

/-- The combined RMS of four lanes of codes, in 1/4 LSB (R51). -/
def rms (lanes : List (List Nat)) : Nat :=
  let all := lanes.flatten
  Nat.sqrt ((all.map (fun (c : Nat) => (((c : Nat) : Int) - 128).natAbs ^ 2)).foldl (· + ·) 0 * 16 / max 1 all.length)

/-! ### Stage 2: dispersion (R52 to R55) -/

/-- A record through the all-pass H_cd of D ps/nm at the local oscillator f₀. -/
def compensate (fs : Nat) (d : Int) (f0 : Q) (x : List Cx) : List Cx :=
  if d = 0 then x else through (Q.int fs) (Line.inverse d f0) x

/-- What the state has the stage do `at_` samples into a fade: its present response, or the linear cross-fade to the new one over 2^K blocks
of 4,096 samples (R53). -/
def stage2 (s : State) (f0 : Q) (at_ : Nat) (x : List Cx) : List Cx :=
  let fs := s.get F.CVT_ADC_FS_FS_MHZ
  let now := compensate fs (signed 22 (s.get H.LRX_D_NOW)) f0 x
  if s.on F.LRX_STAT_CD_FADING then
    (now.zip (compensate fs (signed 22 (s.get H.LRX_D_FADE)) f0 x)).zipIdx.map
      (fun e => faded (4096 * s.get H.LRX_FADE_LEN) (at_ + e.2) e.1.1 e.1.2)
  else now

/-- The candidates of the scan of state CD: ±RES in steps of D_eq/2, from 0 outwards to both ends (R55). -/
def scan (s : State) : List Int :=
  let res := s.get F.LRX_CD_RES_RES
  let half := Q.div (Signal.absorbed (s.get F.LRX_LINE_CFG_BAUD_MBD) (Lrx.subcarriers s) (Lrx.tapCount (s.get F.LRX_EQ_CFG_TAPS))) (Q.int 2)
  let step := max 1 (half.num.natAbs / max 1 half.den)
  (List.range (2 * (res / step) + 1)).map (fun i => ((i * step : Nat) : Int) - ((res / step * step : Nat) : Int))

/-- Blocks that the refinement of the best candidate may take. -/
def refineBlocks : Nat := 2 ^ 16

/-! ### Stage 3: coarse frequency correction (R60) -/

/-- The offset of the span from the balance of power between its band edges, MHz: `up` and `dn` are the powers within ±F_cap of its upper and
lower edge, which an offset f gives in the ratio F_cap + f to F_cap − f. -/
def edgeOffset (cap up dn : Q) : Q := if (Q.add up dn).isZero then {} else Q.mul cap (Q.div (Q.sub up dn) (Q.add up dn))

/-- F_cap in MHz (R50). -/
def capture (s : State) : Q := Q.mk' (Lrx.capture s : Nat) 10

/-- The power of a record within ±cap of a frequency. -/
def powerAt (fs cap f : Q) (x : List Cx) : Q :=
  Q.sum ((dft x).zipIdx.map (fun e => if Q.le (Q.sub (binFrequency fs x.length e.2) f).abs cap then e.1.norm2 else {}))

/-- The coarse estimate from a record of one polarisation. -/
def coarse (s : State) (x : List Cx) : Q :=
  let fs := Q.int (s.get F.CVT_ADC_FS_FS_MHZ)
  let half := Q.mk' (Lrx.width s : Nat) (200 * Lrx.subcarriers s)
  edgeOffset (capture s) (powerAt fs (capture s) half x) (powerAt fs (capture s) (Q.neg half) x)

/-- The digital rotation in force, in MHz. -/
def rotation (s : State) : Q := Q.mk' (s.sget H.LRX_ROT) 327680

/-- Sample i with the coarse offset taken out. -/
def rotated (s : State) (i : Nat) (x : Cx) : Cx := Cx.mul x (cis (Q.neg (Q.mul (rotation s) (Q.mk' i (s.get F.CVT_ADC_FS_FS_MHZ)))))

/-- Blocks within which coarse lock is reached. -/
def coarseBlocks : Nat := 2 ^ 14

/-! ### Stage 4: demultiplexing and timing (R56) -/

/-- The centre of subcarrier k in the received span, which is centred at f_c,rx (R50). -/
def centre (s : State) (k : Nat) : Q :=
  let b := s.get F.LRX_LINE_CFG_BAUD_MBD
  let sp := s.get F.LRX_LINE_CFG_SPACING
  let n := Lrx.subcarriers s
  Q.sub (Signal.centre b sp n k) (Signal.midpoint b sp n (Lrx.span s).1 (Lrx.span s).2)

/-- The clock offset that timing recovery tracks for a subcarrier, limited to ±100 ppm (in ppm). -/
def timing (ppm : Q) : Q := Q.clamp (Q.int (-100)) (Q.int 100) ppm

/-- Subcarrier k through its matched root-raised-cosine filter of roll-off SF − 1: output m, two for each symbol, its symbol clock offset by
`ppm` and its first symbol at `t0`. A NULL subcarrier is not computed. -/
def demultiplexed (s : State) (k : Nat) (ppm t0 : Q) (x : List Cx) (m : Nat) : Option Cx :=
  if !Lrx.processed s k then none
  else
    let fs := s.get F.CVT_ADC_FS_FS_MHZ
    let rate := Q.mk' (s.get F.LRX_LINE_CFG_BAUD_MBD : Nat) (Lrx.subcarriers s)
    let rate := Q.mul rate (Q.add (Q.int 1) (Q.div (timing ppm) (Q.int 1000000)))
    let tm := Q.add t0 (Q.div (Q.mk' m 2) rate)
    some (Cx.sum (x.zipIdx.map (fun e =>
      let t := Q.mk' (e.2 : Nat) fs
      Cx.scale (Line.pulse (Line.rollOff (s.get F.LRX_LINE_CFG_SPACING)) (Q.mul rate (Q.sub t tm)))
        (Cx.mul e.1 (cis (Q.neg (Q.mul (centre s k) t)))))))

/-! ### Stage 5: the equaliser (R57, R58) -/

/-- The taps of a butterfly: into X from X and from Y, into Y from X and from Y. -/
structure Taps where
  xx : List Cx
  xy : List Cx
  yx : List Cx
  yy : List Cx
  deriving DecidableEq, Repr

/-- The taps at the start of acquisition: 1 at the centre of the direct paths, else 0. -/
def initial (t : Nat) : Taps :=
  let one := (List.range t).map (fun i => if i = t / 2 then Cx.real (Q.int 1) else {})
  let zero := List.replicate t ({} : Cx)
  ⟨one, zero, zero, one⟩

/-- The T samples that symbol n of a stream of two samples a symbol takes. -/
def window (t n : Nat) (x : List Cx) : List Cx :=
  (List.range t).map (fun i => if t / 2 ≤ 2 * n + i then x.getD (2 * n + i - t / 2) {} else {})

def dot (h w : List Cx) : Cx := Cx.sum ((h.zip w).map (fun e => Cx.mul e.1 e.2))

/-- The two outputs of symbol n. -/
def equalised (h : Taps) (n : Nat) (x y : List Cx) : Cx × Cx :=
  let wx := window h.xx.length n x
  let wy := window h.xx.length n y
  (Cx.add (dot h.xx wx) (dot h.xy wy), Cx.add (dot h.yx wx) (dot h.yy wy))

/-- The error of the constant-modulus algorithm: the overhead block and the known symbols have modulus 1. -/
def cmaError (y : Cx) : Cx := Cx.scale (Q.sub (Q.int 1) y.norm2) y

/-- The error of the decision-directed one: the decided symbol less the output. -/
def ddError (s y : Cx) : Cx := Cx.sub s y

/-- Taps after one step 2^−mu along an error. -/
def stepped (mu : Nat) (err : Cx) (h w : List Cx) : List Cx :=
  (h.zip w).map (fun e => Cx.add e.1 (Cx.scale (Q.mk' 1 (2 ^ mu)) (Cx.mul err (Cx.conj e.2))))

/-- One adaptation of subcarrier k at symbol n: CMA with step 2^−MU_ACQ in ACQ, decision-directed with 2^−MU_TRK in LOCK on the decided
symbols `sx` and `sy`; none with EQ_FREEZE, in LOS (R51) and between slots (R59). -/
def adapted (s : State) (k n : Nat) (sx sy : Cx) (x y : List Cx) (h : Taps) : Taps :=
  if s.on F.LRX_CTRL_EQ_FREEZE || s.on F.LRX_STAT_LOS || (Lrx.entry s k % 8 == 3 && s.get H.LRX_SLOT_LEAF k == 512) then h
  else
    let o := equalised h n x y
    let lock := s.get F.LRX_SC_STAT_LOCK k == 2
    let mu := if lock then s.get F.LRX_EQ_CFG_MU_TRK else s.get F.LRX_EQ_CFG_MU_ACQ
    let ex := if lock then ddError sx o.1 else cmaError o.1
    let ey := if lock then ddError sy o.2 else cmaError o.2
    let wx := window h.xx.length n x
    let wy := window h.xx.length n y
    ⟨stepped mu ex h.xx wx, stepped mu ex h.xy wy, stepped mu ey h.yx wx, stepped mu ey h.yy wy⟩

/-- The two outputs of a frame correlate with magnitude above 0.8 (R58). -/
def singular (x y : List Cx) : Bool :=
  let c := Cx.sum ((x.zip y).map (fun e => Cx.mul e.1 (Cx.conj e.2)))
  let p := fun (l : List Cx) => Q.sum (l.map Cx.norm2)
  Q.lt (Q.mul (Q.mk' 16 25) (Q.mul (p x) (p y))) c.norm2

/-! ### Stage 6: carrier recovery (R61) -/

/-- The capture range of a subcarrier's fine recovery, MHz: min(Δ/8, 100 MHz). -/
def fineRange (s : State) : Q :=
  let d := Q.div (Signal.spacing (s.get F.LRX_LINE_CFG_BAUD_MBD) (s.get F.LRX_LINE_CFG_SPACING) (Lrx.subcarriers s)) (Q.int 8)
  if Q.le d (Q.int 100) then d else Q.int 100

/-- The levels of a dimension under both signs. -/
def signedLevels (c : Nat) : List Int := (Signal.levels c).flatMap (fun (a : Nat) => [Int.ofNat a, -Int.ofNat a])

/-- The points of an entry's constellation, scaled as sent. -/
def points (entry : Nat) : List Cx :=
  let c := slice entry 3 2
  let lv := signedLevels c
  lv.flatMap (fun i => lv.map (fun q => Line.driven entry c (slice entry 5 9) (i, q)))

/-- The nearest of a list of points. -/
def nearest (ps : List Cx) (y : Cx) : Cx :=
  (ps.foldl (fun (best : Option (Cx × Q)) p =>
    let d := (Cx.sub y p).norm2
    match best with
    | some b => if Q.lt d b.2 then some (p, d) else some b
    | none => some (p, d)) none).elim {} Prod.fst

/-- Blind phase search over PH_AVG symbols (0 acts as 1): of 64 phases of a quarter turn the one that leaves the least error against the
nearest points, or against the known symbols where `refs` has them. The number of phases is the model's (notes/assumptions/87.md). -/
def phase (s : State) (entry : Nat) (ys : List Cx) (refs : List (Option Cx)) : Nat :=
  let n := max 1 (s.get F.LRX_CR_CFG_PH_AVG)
  let ps := points entry
  let cost := fun (b : Nat) => Q.sum (((ys.take n).zipIdx).map (fun e =>
    let y := Cx.mul e.1 (cis (Q.mk' (-(b : Int)) 256))
    (Cx.sub y (((refs.getD e.2 none)).getD (nearest ps y))).norm2))
  ((List.range 64).foldl (fun (best : Nat × Q) b => let c := cost b; if Q.lt c best.2 then (b, c) else best) (0, cost 0)).1

/-- The quarter turns by which a frame alignment word is found rotated: the rotation under which it agrees best with its known symbols. -/
def quadrant (ys known : List Cx) : Nat :=
  let agree := fun (q : Nat) => (Cx.sum ((ys.zip known).map (fun e => Cx.mul (Cx.mul e.1 (cis (Q.mk' (-(q : Int)) 4))) (Cx.conj e.2)))).re
  ((List.range 4).foldl (fun (best : Nat × Q) q => let a := agree q; if Q.lt best.2 a then (q, a) else best) (0, agree 0)).1

/-- A symbol of subcarrier k after the quarter turns that CS_EN has corrected are taken out. -/
def squared (s : State) (k : Nat) (y : Cx) : Cx := Cx.mul y (cis (Q.mk' (-(s.get H.LRX_QUAD k : Int)) 4))

/-! ### Stage 7: SNR (R66) -/

/-- Σ|s|² and Σ|y − s|² over outputs with their symbols. -/
def sums (l : List (Cx × Cx)) : Q × Q := (Q.sum (l.map (fun e => e.2.norm2)), Q.sum (l.map (fun e => (Cx.sub e.1 e.2).norm2)))

/-- A ratio of powers as an unsigned number of 1/16 dB: 160 log10(num/den), lower values 0, higher ones 1,023. Between two steps the lower one
is taken (notes/assumptions/87.md). -/
def sixteenths (num den : Nat) : Nat :=
  if num ≤ den then 0 else if den = 0 then 1023
  else
    let n := 160 * (Scm.log2Fix (num * 2 ^ 96 / den) * 10 ^ 40) / (log2Ten * 2 ^ 48)
    min 1023 (if 10 ^ (n + 1) * den ^ 160 ≤ num ^ 160 then n + 1 else n)

/-! ### Stage 8: soft demapping (R68) -/

/-- The mean energy of a level under weights 2^(−ν a²), ν in units of 2^-40. -/
def meanUnder (lv : List Nat) (nu : Nat) : Q :=
  let w := lv.map (fun a => pow2neg (nu * a * a) (2 ^ 40))
  Q.div (Q.sum ((lv.zip w).map (fun e => Q.mul (Q.int (e.1 * e.1 : Nat)) e.2))) (Q.sum w)

/-- ν (in units of 2^-40) of λ = ν ln 2 for which the mean energy equals Ē, by halving. -/
def priorOf (lv : List Nat) (mean : Q) : Nat :=
  ((List.range 42).foldl (fun (lohi : Nat × Nat) _ =>
    let m := (lohi.1 + lohi.2) / 2
    if Q.lt mean (meanUnder lv m) then (m, lohi.2) else (lohi.1, m)) (0, 2 ^ 42)).1

/-- The label and sign bits of an amplitude, sign first: label bits as R32 numbers them, then the sign. -/
def bitsOfLevel (c : Nat) (v : Int) : List Bool := Frm.bitsOf c (Signal.label v.natAbs) ++ [decide (v < 0)]

/-- An LLR as 6 bits in steps of 0.5, from −16.0 to +15.5. -/
def quantised (x : Q) : Int := clampInt (-32) 31 (Q.roundEven (Q.mul (Q.int 2) x))

/-- The max-log LLRs of one dimension of a symbol of constellation c: `y` is the received value in units of the levels, `var` the noise
variance in those units, `nu` the prior. A positive LLR favours 0. -/
def llrs (c : Nat) (nu : Nat) (var y : Q) : List Int :=
  let lv := signedLevels c
  let metric := fun (v : Int) =>
    let e := Q.sub y (Q.int v)
    Q.sub (Q.neg (Q.div (Q.mul e e) (Q.mul (Q.int 2) var))) (Q.mul (Q.mk' (nu * ln2 : Nat) (2 ^ 136)) (Q.int (v * v)))
  let best := fun (l : List Int) => (l.map metric).foldl (fun (a : Option Q) m =>
    match a with | some b => if Q.lt b m then some m else some b | none => some m) none
  (List.range (c + 1)).map (fun b =>
    let side := fun (one : Bool) => best (lv.filter (fun v => (bitsOfLevel c v).getD b false == one))
    match side false, side true with
    | some z, some o => quantised (Q.sub z o)
    | _, _ => 0)

/-- The LLRs of a data symbol of a DATA or SLOT entry: the in-phase dimension's, then the quadrature's; `snr` is the polarisation's latest
SNR in 1/16 dB. The overhead block is demapped with c = 0 whatever the entry. -/
def softSymbol (entry snr : Nat) (overhead : Bool) (y : Cx) : List Int :=
  let c := if overhead then 0 else slice entry 3 2
  let h := slice entry 5 9
  let mean := if c = 0 then Q.int 1 else Signal.meanEnergy c (h - 128)
  let unit := Q.mul (Line.unitScale c h) (Line.powerFactor entry)
  let var := Q.div mean (Q.mk' (Scm.ratioUp snr : Nat) (2 ^ Scm.powBits))
  let nu := if c = 0 then 0 else priorOf (Signal.levels c) mean
  llrs c nu var (Q.div y.re unit) ++ llrs c nu var (Q.div y.im unit)

/-- The LLRs of a block of subcarrier k: known symbols removed, zero where the subcarrier's LLRs are invalid (R51, R65). -/
def softBlock (s : State) (k snr : Nat) (yPol : Bool) (ys : List Cx) : List Int :=
  let e := Lrx.entry s k
  let at_ := if slice e 3 2 = 0 then Signal.dataPositions (slice e 5 9) yPol else List.range 64
  let l := (at_.map (fun p => softSymbol e snr false (ys.getD p {}))).flatten
  if Fec.llrValid s k then l else l.map (fun _ => 0)

/-! ### Stage 10: inverse distribution matching (R70) -/

/-- A block's h bits from its decoded amplitudes and sign bits; none where it cannot have been sent. -/
def unshaped (const h : Nat) (amp signs : List Nat) : Option (List Nat) :=
  (Signal.indexOf const (h - 128) amp).map (fun i => (Frm.bitsOf (h - 128) i).map b01 ++ signs)

end Sys2Proof.Machine.Receive
end

