-- ==== Sys2Proof/Machine/Tick.lean ====
section
/-! DEFINITION. Sys2Proof/Machine/Tick.lean: events that several blocks act on: the ticks of the time counter (R244), the exchange of loading
banks (R36), SNR latches (R66), conversions (R293, R295). -/
namespace Sys2Proof.Machine.Tick
open Sys2Proof Sys2Proof.Machine

/-- Raw conditions that an event has changed count in the tick and the second they were present in (R160, R167). -/
def noted (s : State) : State := if Rest.awake s then Frm.note s else s

/-! ### Ticks (R244) -/

/-- A second less of the trial window (R270). -/
def trial (s : State) : State :=
  let n := s.get F.SE_IMG_STAT_TRIAL_LEFT
  if s.on F.SE_IMG_STAT_TRIAL ∧ s.get F.SYS_STAT_PHASE = 5 then s.put F.SE_IMG_STAT_TRIAL_LEFT (n - 1) else s

/-- A second in the blocks beside SYN (R92, R160, R167, R188, R196, R204, R260, R334). -/
def blocks (d : Second) (s : State) : State :=
  let s := Hsl.latch d.hsl (Fec.latch (Frm.latch d.ties s))
  let s := (Flw.latchPmi s).wipe H.QDM_ERRS_SEC
  Eng.edge 4 (trial (s.count H.LCM_CHAL_AGE))

/-- SECOND_TICK. -/
def second (d : Second) (s : State) : State := blocks d (Syn.second d s)

/-- What a converter's monitor shows over the tick: samples clipped by its DAC lane, the RMS at its ADC and overloads there. -/
def level (p : Nat) (x : Nat × Nat × Nat) (s : State) : State :=
  let s := if s.on F.LTX_CTRL_EN then Ltx.clip p x.1 s else s
  (s.put F.CVT_ADC_LVL_RMS (min 1023 x.2.1) p).count F.CVT_ADC_LVL_OVR x.2.2 p

/-- TEN_MS_TICK, the n-th of its second. -/
def tenMs (n ties : Nat) (otu : List (Nat × OtuFrames)) (levels : List (Nat × Nat × Nat)) (s : State) : State :=
  let s := Syn.tenMs n s
  let s := if Rest.awake s then Frm.integrate otu ties s else s
  Eng.edge 5 (s.eachOf (levels.take 4).zipIdx (fun x t => level x.2 x.1 t))

/-- PPS_IN_EDGE (R245). -/
def ppsIn (ns : Nat) (d : Second) (s : State) : State := Syn.ppsEdge ns (second d) s

/-- TX_FRAME: events of Table ENG-6 see frame 0 of a multiframe. -/
def txFrame (mfn fn : Nat) (covered : List (List Bool)) (s : State) : State :=
  let t := Frm.txFrame mfn fn covered s
  if s.on F.FRM_CTRL_TX_EN && Rest.awake s && t.get H.FRM_TX_FN == 0 then Eng.edge 3 t else t

/-! ### Loading -/

/-- The multiframe that the end whose bank exchanges has reached, where its counters run (R36, R69, R81): a transmitter counts its own
multiframes, a receiver the received ones as FRM counts them. The upstream frames of a tree are those that ranging aligns to the hub's own
count (R97, R158), and the exchange comes T_eq after it. -/
def reached (d : Nat) (s : State) : Option Nat :=
  if Scm.localTx s.leaf d || Frm.onTree s then (if s.on H.FRM_TX_RUN then some (Scm.nextFrame s).1 else none)
  else if s.on F.FRM_ALIGN_STAT_MFN_VALID then some ((s.get H.FRM_RX_MFN + s.get H.FRM_RX_FN / 255) % 2 ^ 24)
  else none

/-- LOAD_SWAP of direction d (R36): not before multiframe M + 4, and not while the end's frames are not counted. The channels of Ibex look at the new upstream table (R127), and a leaf's signal laser follows its span (R110). -/
def loadSwap (d : Nat) (s : State) : State :=
  let due := if Scm.localTx s.leaf d then s.get H.LTX_SWAP_MF else s.get H.LRX_SWAP_MF
  let early : Bool := match reached d s with
    | some m => decide (2 ^ 23 ≤ Scm.mfSince m due)
    | none => true
  if 2 ≤ d ∨ ¬ Scm.swapDue s d ∨ early then s
  else
    let s := Scm.swapped d due (if Scm.localTx s.leaf d then Ltx.swap s else Lrx.swap s)
    if d = 1 then (if s.leaf then (if Vlk.leafOn s ∧ 3 ≤ Vlk.state s then Vlk.aimLaser s else s) else Brx.recheck s) else s

/-- The three SNRs of sums Σ|s|² and Σ|y − s|² on X and on Y: X, Y and combined (R66). -/
def snrOf (r : List Nat) : Nat × Nat × Nat :=
  let a := r.getD 1 0
  let b := r.getD 2 0
  let c := r.getD 3 0
  let d := r.getD 4 0
  (Receive.sixteenths a b, Receive.sixteenths c d, Receive.sixteenths (a + c) (b + d))

/-- SNR_LATCH (R66, R67): by subcarrier and by leaf the sums of the window on X and on Y, for a leaf whether all its slots were locked; the
impairments. SCM computes from the new values (R77 to R80). -/
def snrLatch (rows leaves : List (List Nat)) (imp : List Int) (s : State) : State :=
  if !s.on F.LRX_CTRL_EN then s
  else
    let s := s.each (Lrx.subcarriers s) (fun k t =>
      if Lrx.processed t k then
        let v := snrOf ((rows.find? (fun x => x.getD 0 512 == k)).getD [])
        Lrx.adapt k ((Lrx.latchSnr k v.1 v.2.1 v.2.2 t).put H.SCM_SNR_MF (t.get H.SCM_MF) 1 k)
      else (t.clr F.LRX_SNR_VALID k).clr H.LRX_WIN_LOCK k)
    let s := s.eachOf (leaves.filter (fun x => decide (x.getD 0 512 < 512))) (fun x t =>
      let v := snrOf x
      (Lrx.latchLeaf (x.getD 0 0) v.1 v.2.1 v.2.2 (x.getD 5 0 % 2) t).put H.SCM_LEAF_MF (t.get H.SCM_MF) (x.getD 0 0))
    Scm.latched ((Lrx.latchImpairments imp s).set F.LRX_INT_CAUSE_SNR_LATCH)

/-- DM_ERR (R70): a decoded shaping block of subcarrier k, by its amplitudes, that the enumeration cannot have given. -/
def dmError (k : Nat) (block : List Nat) (s : State) : State :=
  let e := Lrx.entry s k
  let c := slice e 3 2
  if !s.on F.LRX_CTRL_EN || !Lrx.processed s k || !Fec.carries e || c == 0 || (Signal.indexOf c (slice e 5 9 - 128) block).isSome then s
  else Lrx.dmError k s

/-! ### Conversions -/

/-- A background scan has ended (R23, R325). In REST VDD_CORE stays at VRET_MV (R362), so that nothing is requested (notes/assumptions/9.md);
CAL looks at the temperature while the device is awake. -/
def scanned (s : State) : State :=
  let s := if Rest.state s = 2 then s.put F.PWR_VMIN_VMIN_MV (Pwr.vmin s) else Pwr.vminRecompute s
  if Rest.awake s then Cal.temperature s else s

/-- CONVERSION_END: the result goes on to the channels of FLT that it feeds (R303). -/
def conversionEnd (code : Int) (s : State) : State :=
  let kind := s.get H.HKA_RUN
  let e := s.get F.HKA_STAT_NEXT
  let last := s.get H.HKA_SCAN_S
  let s := Flt.fromHka kind e (Hka.conversionEnd code s)
  if kind = 3 ∧ 4 ≤ last then scanned s else s

/-- HKA_CAL_DONE: a slice that waited for the converters looks again. -/
def hkaCalDone (sum : Int) (s : State) : State := Bst.unwait (Cal.hkaDone sum s)

/-! ### Other events -/

/-- DESKEW_MEASURE (R182); a FlexO client shows the identifier its lanes carry. -/
def deskew (c meas flexo : Nat) (s : State) : State :=
  let s := if Hsl.state s c = 5 ∧ Hsl.isFlexo (Hsl.typeOf s c) then s.put F.HSL_CLI_STAT_FLEXO_ID flexo c else s
  noted (Hsl.deskew c meas s)

/-- Reads of a lock that coincide (R217, R282): `f` is the race; every read is counted. -/
def race (addr : Nat) (who : Pmc.Who) (rivals : List Nat) (f : State → State) (s : State) : State :=
  if rivals.isEmpty || Bus.inReset s addr then
    (Bus.fetch who addr s).eachOf rivals (fun m t => Bus.fetch ⟨m, false⟩ addr t)
  else
    let j := 520 + 2 * Sys.blockOf addr
    f ((Pmc.event j 1 (some who) (some addr) s).eachOf rivals (fun m t => Pmc.event j 1 (some ⟨m, false⟩) (some addr) t))

/-- The dword of CRY.KEY_CMD with GO. -/
def keyDword (ctx ph op : Nat) : Nat := ctx % 4096 + 2 ^ 12 * (ph % 2) + 2 ^ 13 * (op % 8) + 2 ^ 31

/-- PPS_IN_VALID_EXPIRY (R245): 1.1 s without an edge. -/
def ppsExpiry (ms : Nat) (s : State) : State := if 1100 ≤ ms then s.clr F.SYN_PPS_IN_ERR_VALID else s

/-- SAMPLE_RECORD (R290) of the picked instruction, or of an overflow source. -/
def sampleRecord (src : Option Nat) (x : Followed) (s : State) : State :=
  match src with
  | none => Pmc.sampleRecord x.dIssue x.dAccept x.dFinal x.final x.target s
  | some k => Pmc.overflowRecord k x.thread x.super x.skid x.op x.tagged x.pc x.tag x.final x.seq x.target s

end Sys2Proof.Machine.Tick
end

