-- ==== Sys2Proof/Machine/ExecBrx.lean ====
section
/-! DEFINITION. Sys2Proof/Machine/ExecBrx.lean: the commands of burst reception (spec/06_burst_reception.md). -/
namespace Sys2Proof.Machine
open Sys2Proof

/-- BRX_ENABLE (R127). -/
def execBrxEnable (s : State) : Host.Outcome State Fault Refusal :=
  done s (Bus.row Bus.host .BRX_CTRL 0 0 (Bus.into F.BRX_CTRL_EN 1) Brx.enable s)

/-- BRX_DISABLE (R130). -/
def execBrxDisable (s : State) : Host.Outcome State Fault Refusal :=
  done s (Bus.row Bus.host .BRX_CTRL 0 0 (Bus.into F.BRX_CTRL_EN 0) Brx.disable s)

/-- PEAK_DETECT (R129). -/
def execPeakDetect (c q : Nat) (lambda : Int) (aMfn aFn aOfs dMfn dFn dSym psym fofs snr : Nat) (s : State) (after : List Nat := []) (level : Int := 0) :
    Host.Outcome State Fault Refusal :=
  done s (Brx.peak c q after level lambda aMfn aFn aOfs dMfn dFn dSym psym fofs snr s)

/-- HEADER_DECISION (R131). -/
def execHeaderDecision (c hdr crcOk : Nat) (s : State) : Host.Outcome State Fault Refusal :=
  done s (Brx.header c hdr crcOk s)

/-- BURST_CLOSE (R132). -/
def execBurstClose (c crcOk em fofs snr : Nat) (msg : List Nat) (s : State) : Host.Outcome State Fault Refusal :=
  done s (Brx.burstClose c crcOk em fofs snr msg s)

/-- BURST_RECORD (R140). -/
def execBurstRecord (s : State) : Host.Outcome State Fault Refusal :=
  done s (Brx.writeRecord s)

/-- GAP_CLOSE (R136). -/
def execGapClose (c psym fofs snr : Nat) (s : State) (run : List Int := []) : Host.Outcome State Fault Refusal :=
  done s (Brx.gap c run psym fofs snr s)

/-- FADE (R136). -/
def execFade (c : Nat) (s : State) (run : List Int := []) (next : Int := 0) : Host.Outcome State Fault Refusal :=
  done s (Brx.fade c run next s)

/-- ORPHAN (R137). -/
def execOrphan (c : Nat) (s : State) (quiet : Nat := 0) (run : List Int := []) : Host.Outcome State Fault Refusal :=
  done s (Brx.orphan c quiet run s)

/-- SC_ABSENT_SET (R138). -/
def execScAbsentSet (k : Nat) (s : State) (symbols : List (Int × Nat) := []) : Host.Outcome State Fault Refusal :=
  done s (Tick.noted (Brx.absent k true symbols s))

/-- SC_ABSENT_CLEAR (R138). -/
def execScAbsentClear (k : Nat) (s : State) (symbols : List (Int × Nat) := []) : Host.Outcome State Fault Refusal :=
  done s (Brx.absent k false symbols s)

/-- REC_POP (R140). -/
def execRecPop (s : State) : Host.Outcome State Fault Refusal :=
  done s (Bus.row Bus.host .BRX_REC_POP 0 0 (Bus.into F.BRX_REC_POP_POP 1) Brx.recPop s)

/-- COL_POP (R141). -/
def execColPop (s : State) : Host.Outcome State Fault Refusal :=
  done s (Bus.row Bus.host .BRX_COL_POP 0 0 (Bus.into F.BRX_COL_POP_POP 1) Brx.colPop s)

end Sys2Proof.Machine
end

