-- ==== Sys2Proof/Machine/ExecCal.lean ====
section
/-! DEFINITION. Sys2Proof/Machine/ExecCal.lean: the commands of calibration, self-test and life cycle (spec/15_calibration_and_self_test.md). -/
namespace Sys2Proof.Machine
open Sys2Proof

/-- GO_FULL (R318). -/
def execGoFull (s : State) : Host.Outcome State Fault Refusal :=
  done s (Bus.row Bus.host .CAL_CTRL 0 0 (Bus.into F.CAL_CTRL_GO_FULL 1) (Cal.go false) s)

/-- GO_TRACK (R318). -/
def execGoTrack (s : State) : Host.Outcome State Fault Refusal :=
  done s (Bus.row Bus.host .CAL_CTRL 0 0 (Bus.into F.CAL_CTRL_GO_TRACK 1) (Cal.go true) s)

/-- CAL_RETRY_EXPIRY (R325). -/
def execCalRetryExpiry (s : State) : Host.Outcome State Fault Refusal :=
  done s (Cal.retryExpiry s)

/-- CAL_ABORT (R326). -/
def execCalAbort (s : State) : Host.Outcome State Fault Refusal :=
  done s (Bus.row Bus.host .CAL_CTRL 0 0 (Bus.into F.CAL_CTRL_ABORT 1) (fun t => Bst.unwait (Cal.abort t)) s)

/-- SINE_CHECK (R317). -/
def execSineCheck (mvpp : Nat) (s : State) : Host.Outcome State Fault Refusal :=
  done s (Bst.unwait (Cal.sine mvpp s))

/-- CAL_PASS_END (R319). -/
def execCalPassEnd (s : State) : Host.Outcome State Fault Refusal :=
  done s (Cal.passEnd s)

/-- CAL_RUN_END (R322). -/
def execCalRunEnd (adc : List (List SubSlice)) (dac : List DacLane) (s : State) : Host.Outcome State Fault Refusal :=
  done s (Bst.unwait (Cal.runEnd adc dac s))

/-- CAL_FLASH_DONE (R323). -/
def execCalFlashDone (ok : Bool) (s : State) : Host.Outcome State Fault Refusal :=
  done s (Bst.unwait (Cal.flashDone ok s))

/-- BIST_GO (R328). -/
def execBistGo (mask : Nat) (s : State) : Host.Outcome State Fault Refusal :=
  done s (Bus.row Bus.host .BST_CTRL 0 0 (fun _ => (mask % 256 + 2 ^ 8)) (fun t => Bst.writeCtrl (mask % 256 + 2 ^ 8 + 2 ^ 10 *
    t.get F.BST_CTRL_OVERRIDE) t) s)

/-- BIST_ABORT (R328). -/
def execBistAbort (s : State) : Host.Outcome State Fault Refusal :=
  done s (Bus.row Bus.host .BST_CTRL 0 0 (Bus.into F.BST_CTRL_ABORT 1) Boot.bistAbort s)

/-- SLICE_END (R328). -/
def execSliceEnd (result detail elapsed : Nat) (s : State) : Host.Outcome State Fault Refusal :=
  done s (Boot.sliceEnd result detail elapsed s)

/-- SLICE_TIMEOUT (R327). -/
def execSliceTimeout (s : State) : Host.Outcome State Fault Refusal :=
  done s (Boot.sliceTimeout s)

/-- OVERRIDE (R329). -/
def execOverride (value : Nat) (s : State) : Host.Outcome State Fault Refusal :=
  done s (Bus.row Bus.host .BST_CTRL 0 0 (Bus.into F.BST_CTRL_OVERRIDE value) (Bst.override (value % 2)) s)

/-- LCM_TRANSITION (R332). -/
def execLcmTransition (master value : Nat) (s : State) : Host.Outcome State Fault Refusal :=
  done s (Bus.row (⟨master, false⟩) .LCM_TRANS 0 0 (fun _ => value) (Lcm.transition master value) s)

/-- FUSE_DONE (R332). -/
def execFuseDone (s : State) : Host.Outcome State Fault Refusal :=
  done s (Reset.imageIf (Lcm.fuseDone s))

/-- KEY_COMMIT (R333). -/
def execKeyCommit (k : Nat) (s : State) : Host.Outcome State Fault Refusal :=
  done s (Bus.row Bus.host .LCM_KEY_CTRL 0 0 (fun _ => (k % 4 + 4)) (Lcm.writeKeyCtrl (k % 4 + 4)) s)

/-- KEY_REVOKE (R333). -/
def execKeyRevoke (k : Nat) (s : State) : Host.Outcome State Fault Refusal :=
  done s (Bus.row Bus.host .LCM_KEY_CTRL 0 0 (fun _ => (k % 4 + 8)) (Lcm.writeKeyCtrl (k % 4 + 8)) s)

/-- CHALLENGE_READ (R334). -/
def execChallengeRead (master : Nat) (s : State) : Host.Outcome State Fault Refusal :=
  done s (Bus.fetch ⟨master, false⟩ (RegId.barAddr .LCM_CHALLENGE 0 0 0) s)

end Sys2Proof.Machine
end

