-- ==== Sys2Proof/Machine/ExecCry.lean ====
section
/-! DEFINITION. Sys2Proof/Machine/ExecCry.lean: the commands of line encryption (spec/10_line_encryption.md). A master comes with whether its thread runs at USER privilege (R286). -/
namespace Sys2Proof.Machine
open Sys2Proof

/-- CRY_LOCK_ACQUIRE (R217). -/
def execCryLockAcquire (master : Nat) (user : Bool) (rivals : List Nat) (s : State) : Host.Outcome State Fault Refusal :=
  done s (Tick.race (RegId.barAddr .CRY_LOCK 0 0 0) ⟨master, user⟩ rivals (Mbx.cryContend ⟨master, user⟩ rivals) s)

/-- CRY_LOCK_RELEASE (R217). -/
def execCryLockRelease (master : Nat) (user : Bool) (s : State) : Host.Outcome State Fault Refusal :=
  done s (Bus.row (⟨master, user⟩) .CRY_LOCK 0 0 (fun _ => 0) (Mbx.cryWrite ⟨master, user⟩) s)

/-- KEY_LOAD (R218). -/
def execKeyLoad (master : Nat) (user : Bool) (ctx ph : Nat) (s : State) : Host.Outcome State Fault Refusal :=
  done s (Bus.row (⟨master, user⟩) .CRY_KEY_CMD 0 0 (fun _ => (Tick.keyDword ctx ph 1)) (Cry.writeKeyCmd ⟨master, user⟩
    (Tick.keyDword ctx ph 1)) s)

/-- KEY_ROLL (R216). -/
def execKeyRoll (master : Nat) (user : Bool) (ctx ph : Nat) (s : State) : Host.Outcome State Fault Refusal :=
  done s (Bus.row (⟨master, user⟩) .CRY_KEY_CMD 0 0 (fun _ => (Tick.keyDword ctx ph 2)) (Cry.writeKeyCmd ⟨master, user⟩
    (Tick.keyDword ctx ph 2)) s)

/-- KEY_CLEAR (R218). -/
def execKeyClear (master : Nat) (user : Bool) (ctx ph : Nat) (s : State) : Host.Outcome State Fault Refusal :=
  done s (Bus.row (⟨master, user⟩) .CRY_KEY_CMD 0 0 (fun _ => (Tick.keyDword ctx ph 3)) (Cry.writeKeyCmd ⟨master, user⟩
    (Tick.keyDword ctx ph 3)) s)

/-- KEY_CLEAR_CTX (R209). -/
def execKeyClearCtx (master : Nat) (user : Bool) (ctx : Nat) (s : State) : Host.Outcome State Fault Refusal :=
  done s (Bus.row (⟨master, user⟩) .CRY_KEY_CMD 0 0 (fun _ => (Tick.keyDword ctx 0 4)) (Cry.writeKeyCmd ⟨master, user⟩
    (Tick.keyDword ctx 0 4)) s)

/-- KEY_CMD_UNDEFINED (R218). -/
def execKeyCmdUndefined (master : Nat) (user : Bool) (ctx ph op : Nat) (s : State) : Host.Outcome State Fault Refusal :=
  done s (if 1 ≤ op % 8 ∧ op % 8 ≤ 4 then s else Bus.row ⟨master, user⟩ .CRY_KEY_CMD 0 0 (fun _ => Tick.keyDword ctx ph op)
    (Cry.writeKeyCmd ⟨master, user⟩ (Tick.keyDword ctx ph op)) s)

/-- KEY_CMD_COMPLETE (R218). -/
def execKeyCmdComplete (s : State) : Host.Outcome State Fault Refusal :=
  done s (Cry.complete s)

/-- ERASURE (R220). -/
def execErasure (cause : Nat) (present : Bool) (s : State) : Host.Outcome State Fault Refusal :=
  done s (Cry.erasure cause present s)

/-- CRY_COUNTER_MIRROR (R223). -/
def execCryCounterMirror (s : State) : Host.Outcome State Fault Refusal :=
  done s (Cry.counterMirror s)

end Sys2Proof.Machine
end

