-- ==== Sys2Proof/Machine/ExecEng.lean ====
section
/-! DEFINITION. Sys2Proof/Machine/ExecEng.lean: the commands of the Odivo engines (spec/12_odivo_engines.md): each instruction as one issue turn of thread t of engine n (64 the supervisor). -/
namespace Sys2Proof.Machine
open Sys2Proof

/-- ADD (R252). -/
def execAdd (n t : Nat) (s : State) : Host.Outcome State Fault Refusal :=
  done s (Eng.alu 0 (· + ·) n t s)

/-- SUB (R252). -/
def execSub (n t : Nat) (s : State) : Host.Outcome State Fault Refusal :=
  done s (Eng.alu 1 (· - ·) n t s)

/-- AND (R252). -/
def execAndOp (n t : Nat) (s : State) : Host.Outcome State Fault Refusal :=
  done s (Eng.alu 2 (· &&& ·) n t s)

/-- OR (R252). -/
def execOrOp (n t : Nat) (s : State) : Host.Outcome State Fault Refusal :=
  done s (Eng.alu 3 (· ||| ·) n t s)

/-- XOR (R252). -/
def execXor (n t : Nat) (s : State) : Host.Outcome State Fault Refusal :=
  done s (Eng.alu 4 (· ^^^ ·) n t s)

/-- SLL (R252). -/
def execSll (n t : Nat) (s : State) : Host.Outcome State Fault Refusal :=
  done s (Eng.alu 5 (fun x y => x <<< (y.toNat % 32)) n t s)

/-- SRL (R252). -/
def execSrl (n t : Nat) (s : State) : Host.Outcome State Fault Refusal :=
  done s (Eng.alu 6 (fun x y => x >>> (y.toNat % 32)) n t s)

/-- SRA (R252). -/
def execSra (n t : Nat) (s : State) : Host.Outcome State Fault Refusal :=
  done s (Eng.alu 7 (fun x y => x.sshiftRight (y.toNat % 32)) n t s)

/-- SLT (R252). -/
def execSlt (n t : Nat) (s : State) : Host.Outcome State Fault Refusal :=
  done s (Eng.alu 8 (fun x y => if x.slt y then 1 else 0) n t s)

/-- SLTU (R252). -/
def execSltu (n t : Nat) (s : State) : Host.Outcome State Fault Refusal :=
  done s (Eng.alu 9 (fun x y => if x.ult y then 1 else 0) n t s)

/-- MUL (R252). -/
def execMul (n t : Nat) (s : State) : Host.Outcome State Fault Refusal :=
  done s (Eng.alu 10 (· * ·) n t s)

/-- MULH (R252). -/
def execMulh (n t : Nat) (s : State) : Host.Outcome State Fault Refusal :=
  done s (Eng.alu 11 (fun x y => Eng.high (x.toInt * y.toInt)) n t s)

/-- MULHU (R252). -/
def execMulhu (n t : Nat) (s : State) : Host.Outcome State Fault Refusal :=
  done s (Eng.alu 12 (fun x y => Eng.high (x.toNat * y.toNat)) n t s)

/-- MIN (R252). -/
def execMin (n t : Nat) (s : State) : Host.Outcome State Fault Refusal :=
  done s (Eng.alu 13 (fun x y => if y.slt x then y else x) n t s)

/-- MAX (R252). -/
def execMax (n t : Nat) (s : State) : Host.Outcome State Fault Refusal :=
  done s (Eng.alu 14 (fun x y => if x.slt y then y else x) n t s)

/-- CLZ (R252). -/
def execClz (n t : Nat) (s : State) : Host.Outcome State Fault Refusal :=
  done s (Eng.alu 15 (fun x _ => Eng.clz x) n t s)

/-- POPC (R252). -/
def execPopc (n t : Nat) (s : State) : Host.Outcome State Fault Refusal :=
  done s (Eng.alu 16 (fun x _ => Eng.popc x) n t s)

/-- ADDI (R252). -/
def execAddi (n t : Nat) (s : State) : Host.Outcome State Fault Refusal :=
  done s (Eng.immediate 1 (fun x i => x + Eng.sext i) n t s)

/-- ANDI (R252). -/
def execAndi (n t : Nat) (s : State) : Host.Outcome State Fault Refusal :=
  done s (Eng.immediate 2 (fun x i => x &&& Eng.bv i) n t s)

/-- ORI (R252). -/
def execOri (n t : Nat) (s : State) : Host.Outcome State Fault Refusal :=
  done s (Eng.immediate 3 (fun x i => x ||| Eng.bv i) n t s)

/-- XORI (R252). -/
def execXori (n t : Nat) (s : State) : Host.Outcome State Fault Refusal :=
  done s (Eng.immediate 4 (fun x i => x ^^^ Eng.bv i) n t s)

/-- SLTI (R252). -/
def execSlti (n t : Nat) (s : State) : Host.Outcome State Fault Refusal :=
  done s (Eng.immediate 5 (fun x i => if x.slt (Eng.sext i) then 1 else 0) n t s)

/-- SHI (R252). -/
def execShi (n t : Nat) (s : State) : Host.Outcome State Fault Refusal :=
  done s (Eng.immediate 6 Eng.shi n t s)

/-- LUI (R252). -/
def execLui (n t : Nat) (s : State) : Host.Outcome State Fault Refusal :=
  done s (Eng.immediate 7 (fun _ i => Eng.bv (i * 65536)) n t s)

/-- BEQ (R252). -/
def execBeq (n t : Nat) (s : State) : Host.Outcome State Fault Refusal :=
  done s (Eng.branch 8 (fun x y => x == y) n t s)

/-- BNE (R252). -/
def execBne (n t : Nat) (s : State) : Host.Outcome State Fault Refusal :=
  done s (Eng.branch 9 (fun x y => x != y) n t s)

/-- BLT (R252). -/
def execBlt (n t : Nat) (s : State) : Host.Outcome State Fault Refusal :=
  done s (Eng.branch 10 (fun x y => x.slt y) n t s)

/-- BGE (R252). -/
def execBge (n t : Nat) (s : State) : Host.Outcome State Fault Refusal :=
  done s (Eng.branch 11 (fun x y => !x.slt y) n t s)

/-- BLTU (R252). -/
def execBltu (n t : Nat) (s : State) : Host.Outcome State Fault Refusal :=
  done s (Eng.branch 12 (fun x y => x.ult y) n t s)

/-- BGEU (R252). -/
def execBgeu (n t : Nat) (s : State) : Host.Outcome State Fault Refusal :=
  done s (Eng.branch 13 (fun x y => !x.ult y) n t s)

/-- JAL (R252). -/
def execJal (n t : Nat) (s : State) : Host.Outcome State Fault Refusal :=
  done s (Eng.jal n t s)

/-- JALR (R252). -/
def execJalr (n t : Nat) (s : State) : Host.Outcome State Fault Refusal :=
  done s (Eng.jalr n t s)

/-- LDW (R252). -/
def execLdw (n t : Nat) (s : State) : Host.Outcome State Fault Refusal :=
  done s (Eng.ldw n t s)

/-- STW (R252). -/
def execStw (n t : Nat) (s : State) : Host.Outcome State Fault Refusal :=
  done s (Eng.stw n t s)

/-- LXCH (R252). -/
def execLxch (n t : Nat) (s : State) : Host.Outcome State Fault Refusal :=
  done s (Eng.local_ 0x12 (fun _ y => y) n t s)

/-- LADD (R252). -/
def execLadd (n t : Nat) (s : State) : Host.Outcome State Fault Refusal :=
  done s (Eng.local_ 0x13 (fun old y => (old + y) % 2 ^ 32) n t s)

/-- RLD (R253). -/
def execRld (n t : Nat) (s : State) : Host.Outcome State Fault Refusal :=
  done s (Eng.single 0x18 false true n t s)

/-- RST (R253). -/
def execRst (n t : Nat) (s : State) : Host.Outcome State Fault Refusal :=
  done s (Eng.single 0x19 true false n t s)

/-- DMAR (R259). -/
def execDmar (n t : Nat) (s : State) : Host.Outcome State Fault Refusal :=
  done s (Eng.dma 0x1A false n t s)

/-- DMAW (R259). -/
def execDmaw (n t : Nat) (s : State) : Host.Outcome State Fault Refusal :=
  done s (Eng.dma 0x1B true n t s)

/-- QRD (R259). -/
def execQrd (n t : Nat) (s : State) : Host.Outcome State Fault Refusal :=
  done s (Eng.qdr 0x1C false n t s)

/-- QWR (R259). -/
def execQwr (n t : Nat) (s : State) : Host.Outcome State Fault Refusal :=
  done s (Eng.qdr 0x1D true n t s)

/-- ASWP (R258). -/
def execAswp (n t : Nat) (s : State) : Host.Outcome State Fault Refusal :=
  done s (Eng.single 0x20 true true n t s)

/-- AADD (R258). -/
def execAadd (n t : Nat) (s : State) : Host.Outcome State Fault Refusal :=
  done s (Eng.single 0x21 true true n t s)

/-- AAND (R258). -/
def execAand (n t : Nat) (s : State) : Host.Outcome State Fault Refusal :=
  done s (Eng.single 0x22 true true n t s)

/-- AOR (R258). -/
def execAor (n t : Nat) (s : State) : Host.Outcome State Fault Refusal :=
  done s (Eng.single 0x23 true true n t s)

/-- ACAS (R258). -/
def execAcas (n t : Nat) (s : State) : Host.Outcome State Fault Refusal :=
  done s (Eng.single 0x24 true true n t s)

/-- WAIT (R260). -/
def execWait (n t : Nat) (s : State) : Host.Outcome State Fault Refusal :=
  done s (Eng.wait n t s)

/-- FENCE (R258). -/
def execFence (n t : Nat) (s : State) : Host.Outcome State Fault Refusal :=
  done s (Eng.fence n t s)

/-- JMARK (R265). -/
def execJmark (n t : Nat) (s : State) : Host.Outcome State Fault Refusal :=
  done s (Eng.jmark n t s)

/-- TSTAT (R255). -/
def execTstat (n t : Nat) (s : State) : Host.Outcome State Fault Refusal :=
  done s (Eng.tstat n t s)

/-- TREL (R255). -/
def execTrel (n t : Nat) (s : State) : Host.Outcome State Fault Refusal :=
  done s (Eng.trel n t s)

/-- HALT (R252). -/
def execHalt (n t : Nat) (s : State) : Host.Outcome State Fault Refusal :=
  done s (Eng.halt n t s)

/-- YIELD (R252). -/
def execYield (n t : Nat) (s : State) : Host.Outcome State Fault Refusal :=
  done s (Eng.yield_ n t s)

/-- SETF (R252). -/
def execSetf (n t : Nat) (s : State) : Host.Outcome State Fault Refusal :=
  done s (Eng.setFlag true n t s)

/-- CLRF (R252). -/
def execClrf (n t : Nat) (s : State) : Host.Outcome State Fault Refusal :=
  done s (Eng.setFlag false n t s)

/-- DROP (R250). -/
def execDrop (n t : Nat) (s : State) : Host.Outcome State Fault Refusal :=
  done s (Eng.drop n t s)

/-- SELF (R252). -/
def execSelf (n t : Nat) (s : State) : Host.Outcome State Fault Refusal :=
  done s (Eng.self n t s)

/-- TAG_EXHAUST (R253). -/
def execTagExhaust (n t : Nat) (s : State) : Host.Outcome State Fault Refusal :=
  done s (Eng.tagExhaust n t s)

/-- OP_ACCEPT (R257). -/
def execOpAccept (n j : Nat) (s : State) : Host.Outcome State Fault Refusal :=
  done s (EngBus.accept n j s)

/-- ACC_TMO (R257). -/
def execAccTmo (n j : Nat) (s : State) : Host.Outcome State Fault Refusal :=
  done s (Eng.acceptTimeout n j s)

/-- OP_FINAL (R254). -/
def execOpFinal (n j words parity : Nat) (s : State) : Host.Outcome State Fault Refusal :=
  Access.doneMirrored s (EngBus.final Reset.write n j words parity s)

/-- WAIT_END (R260). -/
def execWaitEnd (n t : Nat) (s : State) : Host.Outcome State Fault Refusal :=
  done s (Eng.waitEnd n t s)

/-- WAIT_TIMEOUT (R260). -/
def execWaitTimeout (n t : Nat) (s : State) : Host.Outcome State Fault Refusal :=
  done s (Eng.waitTimeout n t s)

/-- THREAD_START (R262). -/
def execThreadStart (n t : Nat) (s : State) : Host.Outcome State Fault Refusal :=
  done s (Bus.row Bus.host .ENG_CTRL n 0 (fun _ => (2 ^ (1 + t % 4))) (Eng.start n (t % 4)) s)

/-- THREAD_STOP (R262). -/
def execThreadStop (n t : Nat) (s : State) : Host.Outcome State Fault Refusal :=
  done s (Bus.row Bus.host .ENG_CTRL n 0 (fun _ => (2 ^ (5 + t % 4))) (Eng.stop n (t % 4)) s)

/-- ENG_RESET (R263). -/
def execEngReset (n : Nat) (s : State) : Host.Outcome State Fault Refusal :=
  done s (Bus.row Bus.host .ENG_CTRL n 0 (Bus.into F.ENG_CTRL_RESET 1) (Sys.engineReset n) s)

/-- MEM_DATA_ACCESS (R267). -/
def execMemDataAccess (master n : Nat) (write : Bool) (value : Nat) (s : State) : Host.Outcome State Fault Refusal :=
  done s (if write then Bus.row ⟨master, false⟩ .ENG_MEM_DATA n 0 (fun _ => value) (Eng.memWrite n (value % 2 ^ 32)) s else
    Bus.fetch ⟨master, false⟩ (RegId.barAddr .ENG_MEM_DATA n 0 0) s)

/-- SPILL_POP (R266). -/
def execSpillPop (s : State) : Host.Outcome State Fault Refusal :=
  done s (Bus.row Bus.host .SE_SPILL_POP 0 0 (Bus.into F.SE_SPILL_POP_POP 1) Eng.spillPop s)

/-- ACTIVATE (R270). -/
def execActivate (slot : Nat) (s : State) : Host.Outcome State Fault Refusal :=
  done s (Reset.write Bus.host (RegId.barAddr .SE_IMG_CTRL 0 0 0) (2 + 4 * (slot % 2)) s)

/-- HEALTH_OK (R270). -/
def execHealthOk (s : State) : Host.Outcome State Fault Refusal :=
  done s (Reset.write Bus.host (RegId.barAddr .SE_IMG_CTRL 0 0 0) (1 + 4 * s.get F.SE_IMG_CTRL_SLOT) s)

/-- HEALTH_TMO (R270). -/
def execHealthTmo (s : State) : Host.Outcome State Fault Refusal :=
  done s (Reset.imageIf (Img.healthTimeout s))

/-- ROLLBACK (R270). -/
def execRollback (s : State) : Host.Outcome State Fault Refusal :=
  done s (Reset.write Bus.host (RegId.barAddr .SYS_ROLLBACK 0 0 0) 1 s)

end Sys2Proof.Machine
end

