-- ==== Sys2Proof/Machine/ExecFlw.lean ====
section
/-! DEFINITION. Sys2Proof/Machine/ExecFlw.lean: the commands of flows and QDR-IV memory (spec/09_flows_and_memory.md). -/
namespace Sys2Proof.Machine
open Sys2Proof

/-- FLOW_READ (R195). -/
def execFlowRead (f : Nat) (s : State) : Host.Outcome State Fault Refusal :=
  done s (Bus.row Bus.host .FLW_CMD 0 0 (fun _ => (f % 4096 + 2 ^ 31)) (Bus.writeFlow (f % 4096 + 2 ^ 31)) s)

/-- FLOW_WRITE (R195). -/
def execFlowWrite (f : Nat) (s : State) : Host.Outcome State Fault Refusal :=
  Access.doneMirrored s (Bus.row Bus.host .FLW_CMD 0 0 (fun _ => (f % 4096 + 2 ^ 12 + 2 ^ 31)) (Bus.writeFlow (f % 4096 + 2 ^ 12
    + 2 ^ 31)) s)

/-- FLOW_REMOVE (R195). -/
def execFlowRemove (f : Nat) (s : State) : Host.Outcome State Fault Refusal :=
  Access.doneMirrored s (Bus.row Bus.host .FLW_CMD 0 0 (fun _ => (f % 4096 + 2 ^ 13 + 2 ^ 31)) (Bus.writeFlow (f % 4096 + 2 ^ 13
    + 2 ^ 31)) s)

/-- FLOW_CMD_APPLY (R195). -/
def execFlowCmdApply (s : State) (now : Nat := 0) : Host.Outcome State Fault Refusal :=
  Access.doneMirrored s (Flw.apply now s)

/-- CF_SCHEDULE (R192). -/
def execCfSchedule (k now : Nat) (s : State) : Host.Outcome State Fault Refusal :=
  done s (if Rest.awake s then Flw.schedule k now s else s)

/-- TOKEN_CAP (R193). -/
def execTokenCap (f now : Nat) (s : State) : Host.Outcome State Fault Refusal :=
  done s (Flw.tokenCapReached f now s)

/-- CLIENT_INGRESS (R192). -/
def execClientIngress (c vlan slot errored : Nat) (data : List Nat) (s : State) : Host.Outcome State Fault Refusal :=
  done s (Flw.clientIngress c vlan slot errored data s)

/-- QDM_ENABLE (R200). -/
def execQdmEnable (s : State) : Host.Outcome State Fault Refusal :=
  done s (Bus.row Bus.host .QDM_CTRL 0 0 (Bus.into F.QDM_CTRL_EN 1) Qdm.enable s)

/-- QDR_TRAIN_DONE (R200). -/
def execQdrTrainDone (p step : Nat) (s : State) : Host.Outcome State Fault Refusal :=
  done s (Qdm.trained p step s)

/-- QDR_RETRAIN (R200). -/
def execQdrRetrain (s : State) : Host.Outcome State Fault Refusal :=
  done s (Bus.row Bus.host .QDM_CTRL 0 0 (Bus.into F.QDM_CTRL_RETRAIN 1) Qdm.retrain s)

/-- QDR_RECENTRE (R200). -/
def execQdrRecentre (p : Nat) (moves : List Nat) (s : State) : Host.Outcome State Fault Refusal :=
  done s (Qdm.recentre p moves s)

/-- QDR_PARITY_ERROR (R204). -/
def execQdrParityError (p addr f : Nat) (s : State) : Host.Outcome State Fault Refusal :=
  done s (Flw.parityError p addr f s)

/-- ADDR_PARITY_ERROR (R204). -/
def execAddrParityError (p : Nat) (s : State) : Host.Outcome State Fault Refusal :=
  done s (Qdm.addrError p s)

/-- QDR_PORT_FAIL (R204). -/
def execQdrPortFail (p : Nat) (s : State) : Host.Outcome State Fault Refusal :=
  done s (Flw.portFail p s)

end Sys2Proof.Machine
end

