-- ==== Sys2Proof/Machine/ExecFrm.lean ====
section
/-! DEFINITION. Sys2Proof/Machine/ExecFrm.lean: the commands of framing, defects and performance (spec/07_framing_and_overhead.md), and the ticks (R244). -/
namespace Sys2Proof.Machine
open Sys2Proof

/-- TX_EN (R142). -/
def execTxEn (value : Nat) (s : State) : Host.Outcome State Fault Refusal :=
  Access.doneMirrored s (Bus.row Bus.host .FRM_CTRL 0 0 (Bus.into F.FRM_CTRL_TX_EN value) (Bus.frmTxEn (value % 2)) s)

/-- TX_FRAME (R142). -/
def execTxFrame (mfn fn : Nat) (covered : List (List Bool)) (s : State) : Host.Outcome State Fault Refusal :=
  Access.doneMirrored s (Tick.txFrame mfn fn covered s)

/-- RX_EN (R153). -/
def execRxEn (value : Nat) (s : State) : Host.Outcome State Fault Refusal :=
  done s (Bus.row Bus.host .FRM_CTRL 0 0 (Bus.into F.FRM_CTRL_RX_EN value) (if value % 2 = 1 then Frm.rxEnable else Frm.rxDisable) s)

/-- RESEARCH (R153). -/
def execResearch (s : State) : Host.Outcome State Fault Refusal :=
  done s (Bus.row Bus.host .FRM_CTRL 0 0 (Bus.into F.FRM_CTRL_RESEARCH 1) Frm.research s)

/-- FAW_HIT (R154). -/
def execFawHit (pos rot errs : Nat) (s : State) : Host.Outcome State Fault Refusal :=
  done s (Frm.fawHit pos rot errs s)

/-- CANDIDATE_JUDGE (R155). -/
def execCandidateJudge (pos rot errs word : Nat) (s : State) : Host.Outcome State Fault Refusal :=
  done s (Frm.candidateJudge pos rot errs word s)

/-- FAW_CHECK (R156). -/
def execFawCheck (k errs rotY : Nat) (s : State) : Host.Outcome State Fault Refusal :=
  done s (Frm.fawCheck k errs rotY s)

/-- OOF (R156). -/
def execOof (s : State) : Host.Outcome State Fault Refusal :=
  done s (Frm.oof s)

/-- OVERHEAD_WORD (R143). -/
def execOverheadWord (k l word : Nat) (covered : List Bool) (mfn fn : Nat) (s : State) : Host.Outcome State Fault Refusal :=
  Access.doneMirrored s (Frm.overheadWord k l word covered mfn fn s)

/-- OOM (R157). -/
def execOom (k l : Nat) (s : State) : Host.Outcome State Fault Refusal :=
  done s (Frm.oom k l s)

/-- MF_RESTORE (R157). -/
def execMfRestore (k l : Nat) (s : State) : Host.Outcome State Fault Refusal :=
  done s (Frm.mfRestore k l s)

/-- UPSTREAM_FAW_CHECK (R158). -/
def execUpstreamFawCheck (k l errs : Nat) (s : State) : Host.Outcome State Fault Refusal :=
  done s (Frm.upstreamFawCheck k l errs s)

/-- UPSTREAM_OOF (R158). -/
def execUpstreamOof (k l : Nat) (s : State) : Host.Outcome State Fault Refusal :=
  done s (Frm.upstreamOof k l s)

/-- UPSTREAM_IN_FRAME (R158). -/
def execUpstreamInFrame (k l : Nat) (s : State) : Host.Outcome State Fault Refusal :=
  done s (Frm.upstreamInFrame k l s)

/-- TEN_MS_TICK (R244). -/
def execTenMsTick (n : Nat) (otu : List (Nat × OtuFrames)) (levels : List (Nat × Nat × Nat)) (s : State) (ties : Nat := 0) :
    Host.Outcome State Fault Refusal :=
  done s (Tick.tenMs n ties otu levels s)

/-- DEFECT_DECLARE (R160). -/
def execDefectDeclare (kind i d : Nat) (s : State) : Host.Outcome State Fault Refusal :=
  done s (Frm.declareOne kind i d s)

/-- DEFECT_CLEAR (R160). -/
def execDefectClear (kind i d : Nat) (s : State) : Host.Outcome State Fault Refusal :=
  done s (Frm.clearOne kind i d s)

/-- DEF_CFG_WRITE (R160). -/
def execDefCfgWrite (d value : Nat) (s : State) : Host.Outcome State Fault Refusal :=
  done s (Bus.row Bus.host .FRM_DEF_CFG d 0 (fun _ => value) (Frm.writeDefCfg d value) s)

/-- SECOND_TICK (R244). -/
def execSecondTick (d : Second) (s : State) : Host.Outcome State Fault Refusal :=
  done s (Tick.second d s)

/-- DEG_ONSET (R164). -/
def execDegOnset (i : Nat) (s : State) : Host.Outcome State Fault Refusal :=
  done s (Frm.degOnset i s)

/-- TTI_ACCEPT (R165). -/
def execTtiAccept (s : State) : Host.Outcome State Fault Refusal :=
  done s (Frm.ttiAccept s)

/-- SSM_ACCEPT (R166). -/
def execSsmAccept (s : State) : Host.Outcome State Fault Refusal :=
  done s (Frm.ssmAccept s)

/-- CF_RECEIVE (R152). -/
def execCfReceive (k l bad : Nat) (hdr payload : List Nat) (tag : Nat) (s : State) : Host.Outcome State Fault Refusal :=
  done s (Frm.cfReceive k l bad hdr payload tag s)

/-- SLIP_WRITE (R168). -/
def execSlipWrite (f : Nat) (s : State) : Host.Outcome State Fault Refusal :=
  done s (Frm.slipWrite f s)

/-- SLIP_READ (R168). -/
def execSlipRead (f : Nat) (s : State) (ends : List Nat := []) : Host.Outcome State Fault Refusal :=
  done s (Frm.slipRead f ends s)

end Sys2Proof.Machine
end

