-- ==== Sys2Proof/Machine/ExecHost.lean ====
section
/-! DEFINITION. Sys2Proof/Machine/ExecHost.lean: the commands of the register network, the bridges and slack (R7 to R24, R381, R382). -/
namespace Sys2Proof.Machine
open Sys2Proof

/-- REGISTER_WRITE (R7). -/
def execRegisterWrite (master addr value be : Nat) (s : State) : Host.Outcome State Fault Refusal :=
  Access.doneMirrored s (Access.write master addr value be s)

/-- READ_CLEAR (R10). -/
def execReadClear (master addr : Nat) (s : State) : Host.Outcome State Fault Refusal :=
  Access.doneMirrored s (Access.read master addr s)

/-- SNAPSHOT_READ (R382). -/
def execSnapshotRead (master addr : Nat) (s : State) : Host.Outcome State Fault Refusal :=
  Access.doneMirrored s (Access.read master addr s)

/-- PCIE_UNSUPPORTED_REQUEST (R381). -/
def execPcieUnsupportedRequest (kind function addr : Nat) (s : State) : Host.Outcome State Fault Refusal :=
  done s (Access.unsupported kind function addr s)

/-- SYS_LOCK (R7). -/
def execSysLock (value : Nat) (s : State) : Host.Outcome State Fault Refusal :=
  done s (Bus.row Bus.host .SYS_LOCK 0 0 (fun _ => value) (State.when · (value.testBit 0) (·.set F.SYS_LOCK_LOCK)) s)

/-- BRIDGE_PREFILLED (R14). -/
def execBridgePrefilled (b : Nat) (s : State) : Host.Outcome State Fault Refusal :=
  done s (Lrx.leavePrefill (Pwr.prefill b s))

/-- BRIDGE_UNDERFLOW (R16). -/
def execBridgeUnderflow (b : Nat) (s : State) : Host.Outcome State Fault Refusal :=
  Access.doneMirrored s (Peer.held (Pwr.bridgeFault b s))

/-- BRIDGE_OVERFLOW (R16). -/
def execBridgeOverflow (b : Nat) (s : State) : Host.Outcome State Fault Refusal :=
  Access.doneMirrored s (Peer.held (Pwr.bridgeFault b s))

/-- SLACK_LOW (R18). -/
def execSlackLow (m now : Nat) (s : State) : Host.Outcome State Fault Refusal :=
  done s (Pwr.slackLow m now s)

/-- HARD_MARGIN_CROSSING (R20). -/
def execHardMarginCrossing (m now : Nat) (s : State) : Host.Outcome State Fault Refusal :=
  Access.doneMirrored s (Peer.held (Pwr.hardCrossing m now s))

/-- AVS_DECREASE_REQUEST (R19). -/
def execAvsDecreaseRequest (levels : List Nat) (s : State) : Host.Outcome State Fault Refusal :=
  done s (Pwr.decrease (Pwr.observeAll levels s))

/-- AUTO_RELEASE (R21). -/
def execAutoRelease (levels : List Nat) (s : State) : Host.Outcome State Fault Refusal :=
  done s (Pwr.autoRelease (Pwr.observeAll levels s))

/-- RELEASE (R21). -/
def execRelease (levels : List Nat) (s : State) : Host.Outcome State Fault Refusal :=
  done s (Bus.row Bus.host .PWR_SLACK_CTRL 0 0 (Bus.into F.PWR_SLACK_CTRL_RELEASE 1) (fun t => Pwr.release (Pwr.observeAll levels t)) s)

/-- ACTION_RELEASE_EFFECT (R21). -/
def execActionReleaseEffect (s : State) : Host.Outcome State Fault Refusal :=
  done s (Pwr.releaseEffect s)

/-- SLACK_CFG_WRITE (R24). -/
def execSlackCfgWrite (m value : Nat) (s : State) : Host.Outcome State Fault Refusal :=
  done s (Bus.row Bus.host .PWR_SLACK_CFG m 0 (fun _ => value) (Pwr.writeSlackCfg m value) s)

end Sys2Proof.Machine
end

