-- ==== Sys2Proof/Machine/ExecHsl.lean ====
section
/-! DEFINITION. Sys2Proof/Machine/ExecHsl.lean: the commands of the host lanes (spec/08_host_lanes.md). -/
namespace Sys2Proof.Machine
open Sys2Proof

/-- CLI_ENABLE (R184). -/
def execCliEnable (c : Nat) (s : State) : Host.Outcome State Fault Refusal :=
  done s (Bus.row Bus.host .HSL_CLI_CFG c 0 (Bus.into F.HSL_CLI_CFG_EN 1) (fun t => Tick.noted (Hsl.enable c t)) s)

/-- CLI_DISABLE (R184). -/
def execCliDisable (c : Nat) (s : State) : Host.Outcome State Fault Refusal :=
  done s (Bus.row Bus.host .HSL_CLI_CFG c 0 (Bus.into F.HSL_CLI_CFG_EN 0) (fun t => Tick.noted (Hsl.disable c t)) s)

/-- SIGNAL_DETECT (R179). -/
def execSignalDetect (n : Nat) (s : State) : Host.Outcome State Fault Refusal :=
  done s (Tick.noted (Hsl.signalDetect n s))

/-- SIGNAL_LOSS (R179). -/
def execSignalLoss (n : Nat) (s : State) : Host.Outcome State Fault Refusal :=
  done s (Tick.noted (Hsl.signalLoss n s))

/-- CDR_LOCK (R179). -/
def execCdrLock (n : Nat) (s : State) : Host.Outcome State Fault Refusal :=
  done s (Tick.noted (Hsl.cdrLock n s))

/-- CDR_LOSS (R179). -/
def execCdrLoss (n : Nat) (s : State) : Host.Outcome State Fault Refusal :=
  done s (Tick.noted (Hsl.cdrLoss n s))

/-- LANE_LOCK (R180). -/
def execLaneLock (n comp id : Nat) (s : State) : Host.Outcome State Fault Refusal :=
  done s (Tick.noted (Hsl.laneLock n comp id s))

/-- MARKER_LOCK_LOSS (R179). -/
def execMarkerLockLoss (n : Nat) (s : State) : Host.Outcome State Fault Refusal :=
  done s (Tick.noted (Hsl.markerLoss n s))

/-- EGRESS_ORDER_CHANGE (R181). -/
def execEgressOrderChange (c : Nat) (s : State) : Host.Outcome State Fault Refusal :=
  done s (Hsl.egressOrder c s)

/-- DESKEW_MEASURE (R182). -/
def execDeskewMeasure (c meas flexo : Nat) (s : State) : Host.Outcome State Fault Refusal :=
  done s (Tick.deskew c meas flexo s)

/-- LINK_TMO (R183). -/
def execLinkTmo (c ms : Nat) (s : State) : Host.Outcome State Fault Refusal :=
  done s (Tick.noted (Hsl.linkTimeout c ms s))

end Sys2Proof.Machine
end

