-- ==== Sys2Proof/Machine/ExecLrx.lean ====
section
/-! DEFINITION. Sys2Proof/Machine/ExecLrx.lean: the commands of the line receiver (spec/03_line_receive.md). -/
namespace Sys2Proof.Machine
open Sys2Proof

/-- LRX_ENABLE (R72). -/
def execLrxEnable (s : State) : Host.Outcome State Fault Refusal :=
  Access.doneMirrored s (Bus.row Bus.host .LRX_CTRL 0 0 (Bus.into F.LRX_CTRL_EN 1) Lrx.enable s)

/-- LRX_DISABLE (R73). -/
def execLrxDisable (s : State) : Host.Outcome State Fault Refusal :=
  Access.doneMirrored s (Bus.row Bus.host .LRX_CTRL 0 0 (Bus.into F.LRX_CTRL_EN 0) Lrx.disable s)

/-- LOS_SET (R51). -/
def execLosSet (rms : Nat) (s : State) : Host.Outcome State Fault Refusal :=
  done s (Tick.noted (Lrx.losSet rms s))

/-- LOS_CLEAR (R51). -/
def execLosClear (rms : Nat) (s : State) : Host.Outcome State Fault Refusal :=
  done s (Tick.noted (Lrx.losClear rms s))

/-- LOS_HOLD_EXPIRY (R51). -/
def execLosHoldExpiry (s : State) : Host.Outcome State Fault Refusal :=
  done s (Tick.noted (Lrx.losExpired s))

/-- CD_GO (R53). -/
def execCdGo (s : State) : Host.Outcome State Fault Refusal :=
  done s (Bus.row Bus.host .LRX_CD_CTRL 0 0 (Bus.into F.LRX_CD_CTRL_GO 1) Lrx.cdGo s)

/-- CD_ARM (R53). -/
def execCdArm (s : State) : Host.Outcome State Fault Refusal :=
  done s (Bus.row Bus.host .LRX_CD_CTRL 0 0 (Bus.into F.LRX_CD_CTRL_ARM 1) Lrx.cdArm s)

/-- CD_DISARM (R53). -/
def execCdDisarm (s : State) : Host.Outcome State Fault Refusal :=
  done s (Bus.row Bus.host .LRX_CD_CTRL 0 0 (Bus.into F.LRX_CD_CTRL_DISARM 1) Lrx.cdDisarm s)

/-- CD_FADE_DONE (R53). -/
def execCdFadeDone (s : State) (blocks : Nat := 0) : Host.Outcome State Fault Refusal :=
  done s (Lrx.cdFadeDone blocks s)

/-- CD_ESTIMATE_DONE (R55). -/
def execCdEstimateDone (est : Int) (s : State) : Host.Outcome State Fault Refusal :=
  done s (Lrx.cdEstimate est s)

/-- COARSE_LOCK (R60). -/
def execCoarseLock (ofs : Int) (s : State) (spread : Nat := 0) : Host.Outcome State Fault Refusal :=
  done s (Lrx.coarseLock ofs spread s)

/-- ACQ_TMO (R60). -/
def execAcqTmo (s : State) : Host.Outcome State Fault Refusal :=
  done s (Lrx.acqTimeout s)

/-- SC_LOCK (R65). -/
def execScLock (k snr : Nat) (s : State) : Host.Outcome State Fault Refusal :=
  done s (Lrx.scLock k snr s)

/-- SC_UNLOCK (R65). -/
def execScUnlock (k snr : Nat) (s : State) : Host.Outcome State Fault Refusal :=
  done s (Lrx.scUnlock k snr s)

/-- TRACK_LOST (R64). -/
def execTrackLost (s : State) : Host.Outcome State Fault Refusal :=
  done s (Lrx.trackLost s)

/-- SINGULAR (R58). -/
def execSingular (k : Nat) (s : State) (num : Nat := 0) (den : Nat := 0) : Host.Outcome State Fault Refusal :=
  done s (Lrx.singular k num den s)

/-- CYCLE_SLIP (R61). -/
def execCycleSlip (k : Nat) (s : State) (turns : Nat := 0) : Host.Outcome State Fault Refusal :=
  done s (Lrx.cycleSlip k turns s)

/-- LOFB_UPDATE (R62). -/
def execLofbUpdate (mean : Int) (s : State) : Host.Outcome State Fault Refusal :=
  done s (Lrx.lofbUpdate mean s)

/-- LOFB_OFFLOAD_DONE (R63). -/
def execLofbOffloadDone (s : State) : Host.Outcome State Fault Refusal :=
  done s (Lrx.offloadDone s)

/-- LOFB_ERR (R63). -/
def execLofbErr (s : State) : Host.Outcome State Fault Refusal :=
  done s (Lrx.offloadError s)

/-- RESTART (R64). -/
def execRestart (s : State) : Host.Outcome State Fault Refusal :=
  done s (Bus.row Bus.host .LRX_CTRL 0 0 (Bus.into F.LRX_CTRL_RESTART 1) Lrx.restart s)

/-- SNR_LATCH (R66). -/
def execSnrLatch (rows leaves : List (List Nat)) (imp : List Int) (s : State) : Host.Outcome State Fault Refusal :=
  Access.doneMirrored s (Tick.snrLatch rows leaves imp s)

/-- DM_ERR (R70). -/
def execDmErr (s : State) (k : Nat := 0) (block : List Nat := []) : Host.Outcome State Fault Refusal :=
  done s (Tick.dmError k block s)

/-- TAP_SET_SWITCH (R59). -/
def execTapSetSwitch (k l : Nat) (start : Bool) (s : State) : Host.Outcome State Fault Refusal :=
  done s (Lrx.tapSwitch k l start s)

/-- PHASE_REACQUIRED (R61). -/
def execPhaseReacquired (s : State) : Host.Outcome State Fault Refusal :=
  done s (Lrx.phaseReacquired s)

end Sys2Proof.Machine
end

