-- ==== Sys2Proof/Machine/ExecLtx.lean ====
section
/-! DEFINITION. Sys2Proof/Machine/ExecLtx.lean: the commands of the line transmitter (spec/02_line_transmit.md). -/
namespace Sys2Proof.Machine
open Sys2Proof

/-- LTX_ENABLE (R46). -/
def execLtxEnable (s : State) : Host.Outcome State Fault Refusal :=
  Access.doneMirrored s (Bus.row Bus.host .LTX_CTRL 0 0 (Bus.into F.LTX_CTRL_EN 1) Ltx.enable s)

/-- LTX_START (R46). -/
def execLtxStart (s : State) : Host.Outcome State Fault Refusal :=
  done s (Ltx.start s)

/-- LTX_DISABLE (R47). -/
def execLtxDisable (s : State) : Host.Outcome State Fault Refusal :=
  Access.doneMirrored s (Bus.row Bus.host .LTX_CTRL 0 0 (Bus.into F.LTX_CTRL_EN 0) Ltx.disable s)

/-- HOST_MUTE (R45). -/
def execHostMute (value : Nat) (s : State) : Host.Outcome State Fault Refusal :=
  done s (Bus.row Bus.host .LTX_CTRL 0 0 (Bus.into F.LTX_CTRL_MUTE value) (Ltx.hostMute (value % 2)) s)

/-- MUTE_RESUME (R45). -/
def execMuteResume (s : State) : Host.Outcome State Fault Refusal :=
  done s (Ltx.resume s)

/-- LOAD_SWAP (R36). -/
def execLoadSwap (d : Nat) (s : State) : Host.Outcome State Fault Refusal :=
  Access.doneMirrored s (Tick.loadSwap d s)

/-- FREQ_OFS_WRITE (R38). -/
def execFreqOfsWrite (value : Nat) (s : State) : Host.Outcome State Fault Refusal :=
  done s (Bus.row Bus.host .LTX_FREQ_OFS 0 0 (fun _ => value) (Ltx.writeFreqOfs value) s)

/-- FREQ_OFS_APPLY (R38). -/
def execFreqOfsApply (s : State) : Host.Outcome State Fault Refusal :=
  done s (Ltx.applyFreqOfs s)

/-- CDPRE_GO (R40). -/
def execCdpreGo (s : State) : Host.Outcome State Fault Refusal :=
  done s (Bus.row Bus.host .LTX_CDPRE_CTRL 0 0 (Bus.into F.LTX_CDPRE_CTRL_GO 1) Ltx.cdpreGo s)

/-- CDPRE_FADE_DONE (R40). -/
def execCdpreFadeDone (s : State) (blocks : Nat := 0) : Host.Outcome State Fault Refusal :=
  done s (Ltx.cdpreDone blocks s)

/-- SKEW_WRITE (R41). -/
def execSkewWrite (d value : Nat) (s : State) : Host.Outcome State Fault Refusal :=
  done s (Bus.row Bus.host .LTX_SKEW d 0 (fun _ => value) (Ltx.writeSkew d value) s)

/-- SKEW_SLEW_DONE (R41). -/
def execSkewSlewDone (s : State) (blocks : Nat := 0) : Host.Outcome State Fault Refusal :=
  done s (Ltx.skewBlocks blocks s)

/-- PEQ_SWAP (R42). -/
def execPeqSwap (s : State) : Host.Outcome State Fault Refusal :=
  done s (Bus.row Bus.host .LTX_CTRL 0 0 (Bus.into F.LTX_CTRL_PEQ_SWAP 1) Ltx.peqRequest s)

/-- PEQ_SWAP_APPLY (R42). -/
def execPeqSwapApply (s : State) : Host.Outcome State Fault Refusal :=
  done s (Ltx.peqApply s)

/-- PD_SWAP (R43). -/
def execPdSwap (s : State) : Host.Outcome State Fault Refusal :=
  done s (Bus.row Bus.host .LTX_CTRL 0 0 (Bus.into F.LTX_CTRL_PD_SWAP 1) Ltx.pdRequest s)

/-- PD_SWAP_APPLY (R43). -/
def execPdSwapApply (s : State) : Host.Outcome State Fault Refusal :=
  done s (Ltx.pdApply s)

/-- CONVERTER_CLOCK_LOCK (R46). -/
def execConverterClockLock (dac : Bool) (s : State) : Host.Outcome State Fault Refusal :=
  done s (Bst.unwait (Cvt.clockLock dac s))

end Sys2Proof.Machine
end

