-- ==== Sys2Proof/Machine/ExecMbx.lean ====
section
/-! DEFINITION. Sys2Proof/Machine/ExecMbx.lean: the commands of mailboxes, locks and performance counters (spec/13_mailboxes_and_counters.md). -/
namespace Sys2Proof.Machine
open Sys2Proof

/-- MBX_DATA_WRITE (R273). -/
def execMbxDataWrite (master : Nat) (user : Bool) (n i value : Nat) (s : State) : Host.Outcome State Fault Refusal :=
  done s (Bus.row (⟨master, user⟩) .MBX_DATA n i (fun _ => value) (Mbx.writeData ⟨master, user⟩ n i (value % 2 ^ 32)) s)

/-- DOORBELL (R273). -/
def execDoorbell (master : Nat) (user : Bool) (n value : Nat) (s : State) : Host.Outcome State Fault Refusal :=
  done s (Bus.row (⟨master, user⟩) .MBX_DOORBELL n 0 (fun _ => value) (Mbx.doorbell ⟨master, user⟩ n value) s)

/-- MBX_TAKE (R274). -/
def execMbxTake (master : Nat) (user : Bool) (n : Nat) (s : State) : Host.Outcome State Fault Refusal :=
  done s (Bus.fetch ⟨master, user⟩ (RegId.barAddr .MBX_DATA n (s.get F.MBX_STAT_LEN n - 1) 0) s)

/-- BIND (R272). -/
def execBind (master : Nat) (user : Bool) (n value : Nat) (s : State) : Host.Outcome State Fault Refusal :=
  done s (Bus.row (⟨master, user⟩) .MBX_BIND n 0 (fun _ => value) (Mbx.bind ⟨master, user⟩ n value) s)

/-- MBX_LOCK_ACQUIRE (R280). -/
def execMbxLockAcquire (master : Nat) (user : Bool) (n : Nat) (rivals : List Nat) (s : State) : Host.Outcome State Fault Refusal :=
  done s (Tick.race (RegId.barAddr .MBX_LOCK n 0 0) ⟨master, user⟩ rivals (Mbx.contend ⟨master, user⟩ rivals n) s)

/-- MBX_LOCK_RELEASE (R281). -/
def execMbxLockRelease (master : Nat) (user : Bool) (n : Nat) (s : State) : Host.Outcome State Fault Refusal :=
  done s (Bus.row (⟨master, user⟩) .MBX_LOCK n 0 (fun _ => 0) (Mbx.lockWrite ⟨master, user⟩ n) s)

/-- FUNCTION_LEVEL_RESET (R278). -/
def execFunctionLevelReset (f : Nat) (s : State) : Host.Outcome State Fault Refusal :=
  done s (Reset.function f s)

/-- PEER_POST (R339). -/
def execPeerPost (n : Nat) (words : List Nat) (s : State) : Host.Outcome State Fault Refusal :=
  done s (Mbx.peerPost n words s)

/-- CNT_LO_WRITE (R284). -/
def execCntLoWrite (master i value : Nat) (s : State) : Host.Outcome State Fault Refusal :=
  done s (Bus.row (⟨master, false⟩) .PMC_CNT_LO i 0 (fun _ => value) (Pmc.writeLo master i (value % 2 ^ 32)) s)

/-- CNT_HI_WRITE (R284). -/
def execCntHiWrite (master i value : Nat) (s : State) : Host.Outcome State Fault Refusal :=
  done s (Bus.row (⟨master, false⟩) .PMC_CNT_HI i 0 (fun _ => value) (Pmc.writeHi master i (value % 2 ^ 32)) s)

/-- PMC_OVERFLOW (R289). -/
def execPmcOverflow (i : Nat) (s : State) : Host.Outcome State Fault Refusal :=
  done s (Pmc.wrap i s)

/-- SAMPLE_PICK (R288). -/
def execSamplePick (engine thread super op tagged pc tag : Nat) (s : State) : Host.Outcome State Fault Refusal :=
  done s (Pmc.pick engine thread super op tagged pc tag s)

/-- SAMPLE_RECORD (R290). -/
def execSampleRecord (src : Option Nat) (x : Followed) (s : State) : Host.Outcome State Fault Refusal :=
  done s (Tick.sampleRecord src x s)

/-- SMP_POP (R290). -/
def execSmpPop (s : State) : Host.Outcome State Fault Refusal :=
  done s (Bus.row Bus.host .PMC_SMP_POP 0 0 (Bus.into F.PMC_SMP_POP_POP 1) Pmc.pop s)

/-- METHOD_CHANGE (R287). -/
def execMethodChange (s : State) : Host.Outcome State Fault Refusal :=
  done s (Pmc.methodChange s)

/-- TRACE_WRITE_TIMEOUT (R290). -/
def execTraceWriteTimeout (s : State) : Host.Outcome State Fault Refusal :=
  done s (Pmc.traceTimeout s)

end Sys2Proof.Machine
end

