-- ==== Sys2Proof/Machine/ExecOpt.lean ====
section
/-! DEFINITION. Sys2Proof/Machine/ExecOpt.lean: the commands of housekeeping, filters, bias loops and laser ports (spec/14_housekeeping_and_optics_control.md). -/
namespace Sys2Proof.Machine
open Sys2Proof

/-- HKA_TIMER (R294). -/
def execHkaTimer (s : State) : Host.Outcome State Fault Refusal :=
  done s (Hka.timer s)

/-- SEQ_GO (R294). -/
def execSeqGo (s : State) : Host.Outcome State Fault Refusal :=
  done s (Bus.row Bus.host .HKA_SEQ_GO 0 0 (Bus.into F.HKA_SEQ_GO_GO 1) Hka.seqGo s)

/-- DELAY_END (R294). -/
def execDelayEnd (s : State) : Host.Outcome State Fault Refusal :=
  done s (Hka.delayEnd s)

/-- CONVERSION_END (R297). -/
def execConversionEnd (code : Int) (s : State) : Host.Outcome State Fault Refusal :=
  done s (Tick.conversionEnd code s)

/-- INJ_GO (R296). -/
def execInjGo (s : State) : Host.Outcome State Fault Refusal :=
  done s (Bus.row Bus.host .HKA_INJ 0 0 (Bus.into F.HKA_INJ_GO 1) Hka.inject s)

/-- BACKGROUND_SCAN (R293). -/
def execBackgroundScan (s : State) : Host.Outcome State Fault Refusal :=
  done s (Hka.scanDue s)

/-- HKA_CAL_DONE (R298). -/
def execHkaCalDone (sum : Int) (s : State) : Host.Outcome State Fault Refusal :=
  done s (Tick.hkaCalDone sum s)

/-- PWM_PERIOD_START (R301). -/
def execPwmPeriodStart (p : Nat) (s : State) : Host.Outcome State Fault Refusal :=
  done s (Hka.periodStart p s)

/-- PWM_COMPARE (R301). -/
def execPwmCompare (p : Nat) (s : State) : Host.Outcome State Fault Refusal :=
  done s (Hka.compare p s)

/-- FLT_SAMPLE (R303). -/
def execFltSample (f sum : Nat) (s : State) : Host.Outcome State Fault Refusal :=
  done s (Flt.sample f sum s)

/-- FLT_OUTPUT (R308). -/
def execFltOutput (f : Nat) (s : State) : Host.Outcome State Fault Refusal :=
  done s (Flt.output f s)

/-- FLT_VALID (R309). -/
def execFltValid (f : Nat) (s : State) : Host.Outcome State Fault Refusal :=
  done s (Flt.valid f s)

/-- FIR_SWAP (R308). -/
def execFirSwap (f : Nat) (s : State) : Host.Outcome State Fault Refusal :=
  done s (Bus.row Bus.host .FLT_CH_CTRL f 0 (Bus.into F.FLT_CH_CTRL_SWAP 1) (Flt.swap f) s)

/-- FIR_FADE_DONE (R308). -/
def execFirFadeDone (f : Nat) (s : State) : Host.Outcome State Fault Refusal :=
  done s (Flt.fadeDone f s)

/-- FLT_CFG_WRITE (R309). -/
def execFltCfgWrite (f value : Nat) (s : State) : Host.Outcome State Fault Refusal :=
  done s (Bus.row Bus.host .FLT_CH_CFG f 0 (fun _ => value) (Flt.writeCfg f value) s)

/-- FLT_PRESET (R309). -/
def execFltPreset (f preset : Nat) (s : State) : Host.Outcome State Fault Refusal :=
  done s (Bus.row Bus.host .FLT_CH_CTRL f 0 (Bus.into F.FLT_CH_CTRL_PRESET preset) (Flt.preset f (preset % 8)) s)

/-- BIAS_LOOP_ENABLE (R314). -/
def execBiasLoopEnable (b value : Nat) (s : State) : Host.Outcome State Fault Refusal :=
  done s (Bus.row Bus.host .LSR_LOOP_CFG b 0 (fun _ => value) (Flt.writeLoopCfg b value) s)

/-- SER_CMD (R312). -/
def execSerCmd (l value : Nat) (s : State) : Host.Outcome State Fault Refusal :=
  done s (Bus.row Bus.host .LSR_SER_CMD l 0 (fun _ => value) (Lsr.serCmd l value) s)

/-- SER_RESPONSE (R312). -/
def execSerResponse (l frame : Nat) (s : State) : Host.Outcome State Fault Refusal :=
  done s (Lsr.response l frame s)

/-- SER_POLL (R312). -/
def execSerPoll (l : Nat) (waiting : Bool) (s : State) : Host.Outcome State Fault Refusal :=
  done s (Lsr.poll l waiting s)

/-- SER_TIMEOUT (R312). -/
def execSerTimeout (l : Nat) (s : State) : Host.Outcome State Fault Refusal :=
  done s (Lsr.timeout l s)

/-- FT_OUT_WRITE (R313). -/
def execFtOutWrite (i value : Nat) (s : State) : Host.Outcome State Fault Refusal :=
  done s (Bus.row Bus.host .LSR_FT_OUT i 0 (fun _ => value) (Lsr.writeFtOut i value) s)

/-- GAIN_KHZ_WRITE (R313). -/
def execGainKhzWrite (i value : Nat) (s : State) : Host.Outcome State Fault Refusal :=
  done s (Bus.row Bus.host .LSR_FT_CFG i 0 (fun _ => value) (Lsr.writeGain i value) s)

end Sys2Proof.Machine
end

