-- ==== Sys2Proof/Machine/ExecPeer.lean ====
section
/-! DEFINITION. Sys2Proof/Machine/ExecPeer.lean: the commands of the redundant pair (spec/16_redundant_pair.md). -/
namespace Sys2Proof.Machine
open Sys2Proof

/-- PEER_ENABLE (R340). -/
def execPeerEnable (s : State) : Host.Outcome State Fault Refusal :=
  Access.doneMirrored s (Bus.row Bus.host .PEER_CTRL 0 0 (Bus.into F.PEER_CTRL_EN 1) Peer.enable s)

/-- PEER_DISABLE (R337). -/
def execPeerDisable (s : State) : Host.Outcome State Fault Refusal :=
  Access.doneMirrored s (Bus.row Bus.host .PEER_CTRL 0 0 (Bus.into F.PEER_CTRL_EN 0) Peer.disable s)

/-- PEER_LINK_UP (R337). -/
def execPeerLinkUp (h : Hello) (s : State) : Host.Outcome State Fault Refusal :=
  Access.doneMirrored s (Peer.linkUp h s)

/-- PEER_LINK_FAIL (R337). -/
def execPeerLinkFail (locked codewords : Nat) (s : State) : Host.Outcome State Fault Refusal :=
  Access.doneMirrored s (Peer.linkFail locked codewords s)

/-- HEARTBEAT_TMO (R337). -/
def execHeartbeatTmo (s : State) : Host.Outcome State Fault Refusal :=
  Access.doneMirrored s (Peer.heartbeatTimeout s)

/-- LINK_WAIT_EXPIRY (R340). -/
def execLinkWaitExpiry (s : State) : Host.Outcome State Fault Refusal :=
  Access.doneMirrored s (Peer.linkWaitExpiry s)

/-- FORCE_ACTIVE (R340). -/
def execForceActive (s : State) : Host.Outcome State Fault Refusal :=
  Access.doneMirrored s (Bus.row Bus.host .PEER_CTRL 0 0 (Bus.into F.PEER_CTRL_FORCE_ACTIVE 1) Peer.forceActive s)

/-- SYNC_DONE (R343). -/
def execSyncDone (s : State) : Host.Outcome State Fault Refusal :=
  Access.doneMirrored s (Peer.syncDone s)

/-- MIRROR_RECORD (R343). -/
def execMirrorRecord (kind : Nat) (words : List Nat) (s : State) (now : Nat := 0) : Host.Outcome State Fault Refusal :=
  done s (Peer.record kind words now s)

/-- SWITCH (R344). -/
def execSwitch (remote : Bool) (s : State) : Host.Outcome State Fault Refusal :=
  Access.doneMirrored s (if remote then Peer.switch true s else Bus.row Bus.host .PEER_CTRL 0 0 (Bus.into F.PEER_CTRL_SWITCH 1)
    (Peer.switch false) s)

/-- ACTIVE_FAULT (R344). -/
def execActiveFault (ms : Nat) (s : State) : Host.Outcome State Fault Refusal :=
  Access.doneMirrored s (Peer.activeFault ms s)

/-- PARTNER_LOST (R344). -/
def execPartnerLost (ms : Nat) (s : State) : Host.Outcome State Fault Refusal :=
  Access.doneMirrored s (Peer.partnerLost ms s)

/-- HANDOVER (R345). -/
def execHandover (trig : Nat) (s : State) : Host.Outcome State Fault Refusal :=
  Access.doneMirrored s (Peer.handover trig s)

/-- LASER_SETTLED (R345). -/
def execLaserSettled (s : State) : Host.Outcome State Fault Refusal :=
  Access.doneMirrored s (Peer.laserSettled s)

/-- EQD_MEASURE (R347). -/
def execEqdMeasure (l : Nat) (e : Int) (eqd : Nat) (s : State) : Host.Outcome State Fault Refusal :=
  Access.doneMirrored s (Peer.eqdMeasure l e eqd s)

end Sys2Proof.Machine
end

