-- ==== Sys2Proof/Machine/ExecPwr.lean ====
section
/-! DEFINITION. Sys2Proof/Machine/ExecPwr.lean: the commands of power, reset, boot and REST (spec/17_power_reset_and_start_up.md). -/
namespace Sys2Proof.Machine
open Sys2Proof

/-- POWER_ON_RESET (R351). -/
def execPowerOnReset (rails : Nat) (s : State) : Host.Outcome State Fault Refusal :=
  done s (Reset.powerOn rails s)

/-- RAIL_DROP (R351). -/
def execRailDrop (r : Nat) (s : State) : Host.Outcome State Fault Refusal :=
  done s (if r < 6 then Reset.powerOn (2 ^ r) s else s)

/-- RAIL_WARN (R351). -/
def execRailWarn (r : Nat) (s : State) : Host.Outcome State Fault Refusal :=
  done s (Reset.railWarn r s)

/-- RESET_RELEASE (R351). -/
def execResetRelease (s : State) : Host.Outcome State Fault Refusal :=
  done s (Reset.release s)

/-- RESET_N (R354). -/
def execResetN (s : State) : Host.Outcome State Fault Refusal :=
  done s (Reset.resetN s)

/-- PERST (R354). -/
def execPerst (s : State) : Host.Outcome State Fault Refusal :=
  done s (Reset.perst s)

/-- WARM_RESET (R354). -/
def execWarmReset (value : Nat) (s : State) : Host.Outcome State Fault Refusal :=
  done s (Reset.write Bus.host (RegId.barAddr .SYS_RESET 0 0 0) (value % 2 ^ 32) s)

/-- IMAGE_LOADING_RESET (R354). -/
def execImageLoadingReset (s : State) : Host.Outcome State Fault Refusal :=
  done s (Reset.image s)

/-- SOFT_RESET (R356). -/
def execSoftReset (mask : Nat) (s : State) : Host.Outcome State Fault Refusal :=
  Access.doneMirrored s (Bus.row Bus.host .SYS_SOFT_RST 0 0 (fun _ => mask) (Sys.softResets mask) s)

/-- SOFT_RESET_DONE (R356). -/
def execSoftResetDone (b : Nat) (s : State) : Host.Outcome State Fault Refusal :=
  Access.doneMirrored s (Bus.softResetDone b s)

/-- BOOT (R357). -/
def execBoot (misread : Nat) (s : State) : Host.Outcome State Fault Refusal :=
  done s (Boot.boot misread s)

/-- AVS_SET (R353). -/
def execAvsSet (value : Nat) (s : State) : Host.Outcome State Fault Refusal :=
  done s (Bus.row Bus.host .PWR_AVS_SET 0 0 (fun _ => value) (Pwr.writeAvsSet value) s)

/-- AVS_POLL (R352). -/
def execAvsPoll (mv : Nat) (s : State) : Host.Outcome State Fault Refusal :=
  done s (Lrx.leavePrefill (Pwr.poll mv s))

/-- AVS_ACK (R352). -/
def execAvsAck (mv : Nat) (s : State) : Host.Outcome State Fault Refusal :=
  done s (Lrx.leavePrefill (Pwr.poll mv s))

/-- AVS_TIMEOUT (R352). -/
def execAvsTimeout (s : State) : Host.Outcome State Fault Refusal :=
  done s (Pwr.timeout s)

/-- PMB_CMD (R353). -/
def execPmbCmd (value : Nat) (s : State) : Host.Outcome State Fault Refusal :=
  done s (Bus.row Bus.host .PWR_PMB_CMD 0 0 (fun _ => value) (Pwr.writePmbCmd value) s)

/-- PMB_CMD_DONE (R353). -/
def execPmbCmdDone (data nack : Nat) (s : State) : Host.Outcome State Fault Refusal :=
  done s (Pwr.pmbDone data nack s)

/-- REST_ENTER (R361). -/
def execRestEnter (s : State) : Host.Outcome State Fault Refusal :=
  done s (Bus.row Bus.host .PWR_REST_CTRL 0 0 (Bus.into F.PWR_REST_CTRL_ENTER 1) (fun t => (Rest.enter t).2) s)

/-- REST_ENTRY_DONE (R362). -/
def execRestEntryDone (s : State) : Host.Outcome State Fault Refusal :=
  Access.doneMirrored s (Sys.restEntryDone s)

/-- REST_WAKE (R364). -/
def execRestWake (source : Nat) (s : State) : Host.Outcome State Fault Refusal :=
  done s (if source = 0 then Bus.row Bus.host .PWR_REST_CTRL 0 0 (Bus.into F.PWR_REST_CTRL_WAKE 1) (Sys.restWake 0) s else
    Sys.restWake source s)

/-- REST_EXIT_DONE (R364). -/
def execRestExitDone (us : Nat) (moves : List (List Nat)) (s : State) : Host.Outcome State Fault Refusal :=
  Access.doneMirrored s (Bus.restExitDone us moves s)

/-- FL_READ (R360). -/
def execFlRead (len : Nat) (s : State) : Host.Outcome State Fault Refusal :=
  done s (Bus.row Bus.host .BOOT_FL_CMD 0 0 (fun _ => (4 * (len % 128) + 2 ^ 31)) (Flash.writeCmd (4 * (len % 128) + 2 ^ 31)) s)

/-- FL_PROGRAM (R360). -/
def execFlProgram (len : Nat) (s : State) : Host.Outcome State Fault Refusal :=
  done s (Bus.row Bus.host .BOOT_FL_CMD 0 0 (fun _ => (1 + 4 * (len % 128) + 2 ^ 31)) (Flash.writeCmd (1 + 4 * (len % 128) + 2 ^ 31)) s)

/-- FL_ERASE (R360). -/
def execFlErase (s : State) : Host.Outcome State Fault Refusal :=
  done s (Bus.row Bus.host .BOOT_FL_CMD 0 0 (fun _ => (2 + 2 ^ 31)) (Flash.writeCmd (2 + 2 ^ 31)) s)

/-- FL_DONE (R360). -/
def execFlDone (verify : Bool) (s : State) : Host.Outcome State Fault Refusal :=
  done s (Flash.finish verify s)

end Sys2Proof.Machine
end

