-- ==== Sys2Proof/Machine/ExecScm.lean ====
section
/-! DEFINITION. Sys2Proof/Machine/ExecScm.lean: the commands of the loading and grant changes and SD-FEC (spec/04_bit_loading_and_fec.md; R111, R112). -/
namespace Sys2Proof.Machine
open Sys2Proof

/-- COMMIT_DS (R81). -/
def execCommitDs (s : State) : Host.Outcome State Fault Refusal :=
  Access.doneMirrored s (Bus.row Bus.host .SCM_CHG_CTRL 0 0 (Bus.into F.SCM_CHG_CTRL_COMMIT_DS 1) (Scm.commit 0) s)

/-- COMMIT_US (R81). -/
def execCommitUs (s : State) : Host.Outcome State Fault Refusal :=
  Access.doneMirrored s (Bus.row Bus.host .SCM_CHG_CTRL 0 0 (Bus.into F.SCM_CHG_CTRL_COMMIT_US 1) (Scm.commit 1) s)

/-- ABORT_DS (R84). -/
def execAbortDs (s : State) : Host.Outcome State Fault Refusal :=
  Access.doneMirrored s (Bus.row Bus.host .SCM_CHG_CTRL 0 0 (Bus.into F.SCM_CHG_CTRL_ABORT_DS 1) (Scm.abort 0) s)

/-- ABORT_US (R84). -/
def execAbortUs (s : State) : Host.Outcome State Fault Refusal :=
  Access.doneMirrored s (Bus.row Bus.host .SCM_CHG_CTRL 0 0 (Bus.into F.SCM_CHG_CTRL_ABORT_US 1) (Scm.abort 1) s)

/-- LOAD_ANNOUNCE (R81). -/
def execLoadAnnounce (d : Nat) (s : State) : Host.Outcome State Fault Refusal :=
  Access.doneMirrored s (Scm.announce d s)

/-- LOAD_ACK_TMO (R82). -/
def execLoadAckTmo (d : Nat) (s : State) : Host.Outcome State Fault Refusal :=
  Access.doneMirrored s (Scm.ackTimeout d s)

/-- FEC_CFG_WRITE (R85). -/
def execFecCfgWrite (value : Nat) (s : State) : Host.Outcome State Fault Refusal :=
  done s (Bus.row Bus.host .FEC_CFG 0 0 (fun _ => value) (Fec.writeCfg value) s)

/-- CODEWORD_DECODE (R91). -/
def execCodewordDecode (k : Nat) (ok : Bool) (iter bits rows : Nat) (s : State) (l : Nat := 0) : Host.Outcome State Fault Refusal :=
  done s (Fec.codeword k l ok iter bits rows s)

/-- GRANT_COMMIT (R111). -/
def execGrantCommit (s : State) : Host.Outcome State Fault Refusal :=
  Access.doneMirrored s (Bus.row Bus.host .SCM_GRANT_CTRL 0 0 (Bus.into F.SCM_GRANT_CTRL_COMMIT 1) Scm.grantCommit s)

/-- GRANT_ABORT (R112). -/
def execGrantAbort (s : State) : Host.Outcome State Fault Refusal :=
  Access.doneMirrored s (Bus.row Bus.host .SCM_GRANT_CTRL 0 0 (Bus.into F.SCM_GRANT_CTRL_ABORT 1) Scm.grantAbort s)

/-- GRANT_ANNOUNCE (R112). -/
def execGrantAnnounce (s : State) : Host.Outcome State Fault Refusal :=
  Access.doneMirrored s (Scm.grantAnnounce s)

/-- GRANT_SWAP (R112). -/
def execGrantSwap (s : State) : Host.Outcome State Fault Refusal :=
  Access.doneMirrored s (if s.leaf then Vlk.grantSwapLeaf (s.get H.FRM_TX_MFN) s else Scm.grantSwap s)

/-- GRANT_ACK_TMO (R112). -/
def execGrantAckTmo (s : State) : Host.Outcome State Fault Refusal :=
  Access.doneMirrored s (Scm.grantTimeout s)

end Sys2Proof.Machine
end

