-- ==== Sys2Proof/Machine/ExecSyn.lean ====
section
/-! DEFINITION. Sys2Proof/Machine/ExecSyn.lean: the commands of synchronisation (spec/11_synchronisation.md). -/
namespace Sys2Proof.Machine
open Sys2Proof

/-- REF_FAIL (R227). -/
def execRefFail (i lost : Nat) (s : State) : Host.Outcome State Fault Refusal :=
  done s (Syn.refFail i lost s)

/-- REF_RESTORE (R230). -/
def execRefRestore (i : Nat) (s : State) : Host.Outcome State Fault Refusal :=
  done s (Syn.refRestore i s)

/-- WTR_COMPLETE (R230). -/
def execWtrComplete (i : Nat) (s : State) : Host.Outcome State Fault Refusal :=
  done s (Syn.wtrComplete i s)

/-- DRIFT_WATCH_END (R230). -/
def execDriftWatchEnd (i : Nat) (s : State) : Host.Outcome State Fault Refusal :=
  done s (Syn.driftWatchEnd i s)

/-- REF_DQ (R230). -/
def execRefDq (i : Nat) (s : State) : Host.Outcome State Fault Refusal :=
  done s (Syn.refDq i s)

/-- QL_TMO (R228). -/
def execQlTmo (i seconds : Nat) (s : State) : Host.Outcome State Fault Refusal :=
  done s (Syn.qlTimeout i seconds s)

/-- REF_QL_WRITE (R228). -/
def execRefQlWrite (i value : Nat) (s : State) : Host.Outcome State Fault Refusal :=
  done s (Bus.row Bus.host .SYN_REF_QL i 0 (fun _ => value) (Syn.writeRefQl i (value % 16)) s)

/-- SELECTION (R232). -/
def execSelection (s : State) : Host.Outcome State Fault Refusal :=
  done s (Syn.selection s)

/-- LOOP_LOCK (R234). -/
def execLoopLock (s : State) : Host.Outcome State Fault Refusal :=
  done s (Syn.loopLock s)

/-- QUARANTINE_EXIT (R236). -/
def execQuarantineExit (s : State) : Host.Outcome State Fault Refusal :=
  done s (Syn.quarantineExit s)

/-- TC_FIT (R237). -/
def execTcFit (s : State) : Host.Outcome State Fault Refusal :=
  done s (Syn.tcFit s)

/-- PSTEP_WRITE (R241). -/
def execPstepWrite (o value : Nat) (s : State) : Host.Outcome State Fault Refusal :=
  done s (Bus.row Bus.host .SYN_PSTEP o 0 (fun _ => value) (Syn.pstep o value) s)

/-- PSTEP_DONE (R241). -/
def execPstepDone (o : Nat) (s : State) : Host.Outcome State Fault Refusal :=
  done s (Syn.pstepDone o s)

/-- PRIV_KEY_WRITE (R242). -/
def execPrivKeyWrite (master : Nat) (user : Bool) (value : Nat) (s : State) : Host.Outcome State Fault Refusal :=
  done s (Bus.row (⟨master, user⟩) .SYN_PRIV_KEY 0 0 (fun _ => value) (Syn.privKey ⟨master, user⟩ value) s)

/-- LOOP_OPEN (R242). -/
def execLoopOpen (master : Nat) (user : Bool) (p us : Nat) (s : State) : Host.Outcome State Fault Refusal :=
  done s (Bus.row (⟨master, user⟩) .SYN_NCO_CTRL p 0 (fun _ => 1) (Syn.openLoop ⟨master, user⟩ p us) s)

/-- NCO_FREQ_WRITE (R242). -/
def execNcoFreqWrite (master : Nat) (user : Bool) (p value : Nat) (s : State) : Host.Outcome State Fault Refusal :=
  done s (Bus.row (⟨master, user⟩) .SYN_NCO_FREQ p 0 (fun _ => value) (Syn.ncoFreq ⟨master, user⟩ p value) s)

/-- LOOP_CLOSE (R243). -/
def execLoopClose (master : Nat) (user : Bool) (p : Nat) (s : State) : Host.Outcome State Fault Refusal :=
  done s (Bus.row (⟨master, user⟩) .SYN_NCO_CTRL p 0 (fun _ => 0) (Syn.closeLoop ⟨master, user⟩ p) s)

/-- MAX_OPEN_EXPIRY (R243). -/
def execMaxOpenExpiry (p seconds : Nat) (s : State) : Host.Outcome State Fault Refusal :=
  done s (Syn.maxOpen p seconds s)

/-- TIME_SET (R244). -/
def execTimeSet (s : State) : Host.Outcome State Fault Refusal :=
  done s (Bus.row Bus.host .SYN_TIME_CTRL 0 0 (Bus.into F.SYN_TIME_CTRL_SET 1) Syn.armSet s)

/-- TIME_ALIGN (R245). -/
def execTimeAlign (s : State) : Host.Outcome State Fault Refusal :=
  done s (Bus.row Bus.host .SYN_TIME_CTRL 0 0 (Bus.into F.SYN_TIME_CTRL_ALIGN 1) Syn.armAlign s)

/-- PPS_IN_EDGE (R245). -/
def execPpsInEdge (ns : Nat) (d : Second) (s : State) : Host.Outcome State Fault Refusal :=
  done s (Tick.ppsIn ns d s)

/-- PPS_IN_VALID_EXPIRY (R245). -/
def execPpsInValidExpiry (ms : Nat) (s : State) : Host.Outcome State Fault Refusal :=
  done s (Tick.ppsExpiry ms s)

end Sys2Proof.Machine
end

