-- ==== Sys2Proof/Machine/ExecVlk.lean ====
section
/-! DEFINITION. Sys2Proof/Machine/ExecVlk.lean: the commands of the Voluman link (spec/05_point_to_multipoint.md). FLAGS bit 0 is ACK_REQ, bit 1 SYNC (Table VLK-2). -/
namespace Sys2Proof.Machine
open Sys2Proof

/-- VLK_ENABLE (R386). -/
def execVlkEnable (s : State) : Host.Outcome State Fault Refusal :=
  Access.doneMirrored s (Bus.row Bus.host .VLK_CTRL 0 0 (Bus.into F.VLK_CTRL_EN 1) Vlk.enable s)

/-- VLK_DISABLE (R278). -/
def execVlkDisable (s : State) : Host.Outcome State Fault Refusal :=
  Access.doneMirrored s (Bus.row Bus.host .VLK_CTRL 0 0 (Bus.into F.VLK_CTRL_EN 0) Vlk.disable s)

/-- VDF_RECEIVE (R102). -/
def execVdfReceive (tree beacon feeder regOpen mfn wake gver gann gnext crcOk badLen : Nat) (s : State) : Host.Outcome State Fault Refusal :=
  Access.doneMirrored s (Vlk.vdfReceive tree beacon feeder regOpen mfn wake gver gann gnext crcOk badLen s)

/-- BEACON_LOST (R121). -/
def execBeaconLost (frames : Nat) (s : State) : Host.Outcome State Fault Refusal :=
  done s (Vlk.beaconLost frames s)

/-- MGMT_CONTAINER (R103). -/
def execMgmtContainer (crcOk badLen : Nat) (s : State) : Host.Outcome State Fault Refusal :=
  done s (Vlk.container crcOk badLen s)

/-- TREE_INFO (R105). -/
def execTreeInfo (addr flags seq baud spacing nsc rates usOfs rscM1 : Nat) (scs : List Nat) (teq : Nat) (s : State) : Host.Outcome State Fault Refusal :=
  done s (Vlk.down addr flags seq (Vlk.accept (Vlk.treeInfo baud spacing nsc rates usOfs rscM1 scs teq)) s)

/-- REG_REQ (R108). -/
def execRegReq (sending : Nat) (s : State) : Host.Outcome State Fault Refusal :=
  Access.doneMirrored s (Brx.regReq sending s)

/-- REG_ASSIGN (R109). -/
def execRegAssign (addr flags seq idLo idHi leaf beacon member khi eqd0 v0 eqd1 v1 freq start : Nat) (s : State) : Host.Outcome State Fault Refusal :=
  Access.doneMirrored s (Vlk.regAssign addr flags seq idLo idHi leaf beacon member khi eqd0 v0 eqd1 v1 freq start s)

/-- REG_REJECT (R107). -/
def execRegReject (idLo idHi : Nat) (s : State) : Host.Outcome State Fault Refusal :=
  done s (Vlk.regReject idLo idHi s)

/-- REG_CONFIRM (R109). -/
def execRegConfirm (l flags seq : Nat) (s : State) : Host.Outcome State Fault Refusal :=
  Access.doneMirrored s (Vlk.up l flags seq (Vlk.accept (Vlk.regConfirm l)) s)

/-- DEREG (R121). -/
def execDereg (addr flags seq : Nat) (s : State) : Host.Outcome State Fault Refusal :=
  Access.doneMirrored s (Vlk.dereg addr flags seq s)

/-- RANGE_ADJ (R99). -/
def execRangeAdj (addr flags seq : Nat) (delta : Int) (s : State) : Host.Outcome State Fault Refusal :=
  done s (Vlk.down addr flags seq (Vlk.accept (Vlk.rangeAdj delta)) s)

/-- FREQ_ADJ (R110). -/
def execFreqAdj (addr flags seq : Nat) (delta : Int) (s : State) : Host.Outcome State Fault Refusal :=
  done s (Vlk.down addr flags seq (Vlk.freqAdj delta) s)

/-- GRANT_TABLE (R112). -/
def execGrantTable (addr flags seq ver : Nat) (rows : List (List Nat)) (s : State) : Host.Outcome State Fault Refusal :=
  Access.doneMirrored s (Vlk.down addr flags seq (Vlk.accept (Vlk.grantTable ver rows)) s)

/-- GRANT_ACK (R112). -/
def execGrantAck (l flags seq ver status : Nat) (s : State) : Host.Outcome State Fault Refusal :=
  Access.doneMirrored s (Vlk.up l flags seq (Vlk.accept (Scm.grantAcked l ver status)) s)

/-- LOAD_TABLE (R81). -/
def execLoadTable (addr flags seq d ver lo : Nat) (entries : List Nat) (s : State) : Host.Outcome State Fault Refusal :=
  Access.doneMirrored s (Vlk.down addr flags seq (Vlk.accept (Vlk.loadTable d ver lo entries)) s)

/-- LOAD_ACK (R81). -/
def execLoadAck (l flags seq d ver : Nat) (s : State) : Host.Outcome State Fault Refusal :=
  Access.doneMirrored s (Vlk.up l flags seq (Vlk.accept (Scm.acked l d ver)) s)

/-- LOAD_NAK (R82). -/
def execLoadNak (l flags seq d ver : Nat) (s : State) : Host.Outcome State Fault Refusal :=
  Access.doneMirrored s (Vlk.up l flags seq (Vlk.accept (Scm.nakked l d ver)) s)

/-- LOAD_CANCEL (R82). -/
def execLoadCancel (addr flags seq d ver : Nat) (s : State) : Host.Outcome State Fault Refusal :=
  Access.doneMirrored s (Vlk.down addr flags seq (Vlk.accept (Vlk.loadCancel d ver)) s)

/-- LOAD_MISMATCH (R83). -/
def execLoadMismatch (l flags seq d : Nat) (s : State) : Host.Outcome State Fault Refusal :=
  Access.doneMirrored s (Vlk.up l flags seq (Vlk.accept (Scm.resend d l)) s)

/-- SNR_REPORT (R77). -/
def execSnrReport (l flags seq lo : Nat) (vals : List Nat) (s : State) : Host.Outcome State Fault Refusal :=
  done s (Vlk.up l flags seq (Vlk.accept (Vlk.snrReported l lo vals)) s)

/-- REG_WRITE (R114). -/
def execRegWrite (addr flags seq : Nat) (pairs : List (Nat × Nat)) (s : State) : Host.Outcome State Fault Refusal :=
  Access.doneMirrored s (Remote.regWrite addr flags seq pairs s)

/-- REG_READ (R114). -/
def execRegRead (addr flags seq : Nat) (addrs : List Nat) (s : State) : Host.Outcome State Fault Refusal :=
  Access.doneMirrored s (Remote.regRead addr flags seq addrs s)

/-- REG_RESP (R114). -/
def execRegResp (l flags seq : Nat) (body : List Nat) (s : State) : Host.Outcome State Fault Refusal :=
  done s (Vlk.toRing l flags 0x32 seq body s)

/-- FW_OPEN (R115). -/
def execFwOpen (addr flags seq version size crc : Nat) (s : State) : Host.Outcome State Fault Refusal :=
  done s (Remote.fwOpen addr flags seq version size crc s)

/-- FW_DATA (R115). -/
def execFwData (addr flags seq offset : Nat) (bytes : List Nat) (s : State) : Host.Outcome State Fault Refusal :=
  done s (Remote.fwData addr flags seq offset bytes s)

/-- FW_CLOSE (R115). -/
def execFwClose (addr flags seq : Nat) (s : State) : Host.Outcome State Fault Refusal :=
  done s (Remote.fwClose addr flags seq s)

/-- FW_STATUS (R115). -/
def execFwStatus (addr flags seq : Nat) (bitmap : List Nat) (s : State) : Host.Outcome State Fault Refusal :=
  done s (Remote.fwStatus addr flags seq bitmap s)

/-- FW_ACTIVATE (R115). -/
def execFwActivate (addr flags seq : Nat) (s : State) : Host.Outcome State Fault Refusal :=
  done s (Remote.fwActivate addr flags seq s)

/-- REST_REQ (R105). -/
def execRestReq (l flags seq : Nat) (s : State) : Host.Outcome State Fault Refusal :=
  done s (Vlk.toRing l flags 0x40 seq [] s)

/-- REST_GRANT (R116). -/
def execRestGrant (addr flags seq start cycle listen : Nat) (s : State) : Host.Outcome State Fault Refusal :=
  done s (Vlk.down addr flags seq (Vlk.accept (Vlk.restGrant start cycle listen)) s)

/-- WAKE_ACK (R119). -/
def execWakeAck (l flags seq : Nat) (s : State) : Host.Outcome State Fault Refusal :=
  Access.doneMirrored s (Vlk.up l flags seq (Vlk.accept (Vlk.wakeAck l)) s)

/-- ACK (R105). -/
def execAck (peer q status : Nat) (s : State) : Host.Outcome State Fault Refusal :=
  Access.doneMirrored s (Vlk.ackReceived peer q status s)

/-- USER (R106). -/
def execUser (addr flags type seq : Nat) (body : List Nat) (s : State) : Host.Outcome State Fault Refusal :=
  done s (if 0x50 ≤ type ∧ type ≤ 0x7F then Vlk.toRing addr flags type seq body s else s)

/-- UNKNOWN_TYPE (R105). -/
def execUnknownType (addr flags seq : Nat) (s : State) : Host.Outcome State Fault Refusal :=
  done s (Vlk.unknown addr flags seq s)

/-- RETX_TIMEOUT (R105). -/
def execRetxTimeout (peer q : Nat) (s : State) : Host.Outcome State Fault Refusal :=
  Access.doneMirrored s (Vlk.retx peer q s)

/-- TXPOST (R106). -/
def execTxpost (q len beacon : Nat) (s : State) : Host.Outcome State Fault Refusal :=
  Access.doneMirrored s (Bus.row Bus.host .VLK_TXPOST q 0 (fun _ => (len % 2048 + 2 ^ 16 * (beacon % 512) + 2 ^ 31))
    (Vlk.writeTxPost q (len % 2048 + 2 ^ 16 * (beacon % 512) + 2 ^ 31)) s)

/-- RXPOP (R106). -/
def execRxpop (s : State) : Host.Outcome State Fault Refusal :=
  done s (Bus.row Bus.host .VLK_RXPOP 0 0 (Bus.into F.VLK_RXPOP_POP 1) Vlk.ringPop s)

/-- UPSTREAM_SILENT (R98). -/
def execUpstreamSilent (s : State) : Host.Outcome State Fault Refusal :=
  done s (Vlk.upstreamSilent s)

/-- UPSTREAM_RESUME (R98). -/
def execUpstreamResume (s : State) : Host.Outcome State Fault Refusal :=
  done s (Vlk.upstreamResume s)

/-- RANGE_TRIGGER (R99). -/
def execRangeTrigger (l : Nat) (e : Int) (s : State) (n : Nat := 0) : Host.Outcome State Fault Refusal :=
  Access.doneMirrored s (Vlk.rangeTrigger l e n s)

/-- FREQ_TRIGGER (R110). -/
def execFreqTrigger (l : Nat) (ofs : Int) (s : State) : Host.Outcome State Fault Refusal :=
  done s (Vlk.freqTrigger l ofs s)

/-- REG_ATTEMPT (R107). -/
def execRegAttempt (mfn fn i sc : Nat) (s : State) : Host.Outcome State Fault Refusal :=
  done s (Vlk.regAttempt mfn fn i sc s)

/-- REG_TMO (R107). -/
def execRegTmo (frames : Nat) (s : State) : Host.Outcome State Fault Refusal :=
  done s (Vlk.regTimeout frames s)

/-- REG_GO (R107). -/
def execRegGo (s : State) : Host.Outcome State Fault Refusal :=
  done s (Bus.row Bus.host .VLK_CTRL 0 0 (Bus.into F.VLK_CTRL_REG_GO 1) Vlk.regGo s)

/-- REG_OPEN (R107). -/
def execRegOpen (value : Nat) (s : State) : Host.Outcome State Fault Refusal :=
  done s (Bus.row Bus.host .VLK_CTRL 0 0 (Bus.into F.VLK_CTRL_REG_OPEN value) (Vlk.regOpen (value % 2)) s)

/-- UPSTREAM_START (R109). -/
def execUpstreamStart (mfn : Nat) (s : State) : Host.Outcome State Fault Refusal :=
  done s (Vlk.upstreamStart mfn s)

/-- LEAF_REST_START (R116). -/
def execLeafRestStart (mfn : Nat) (s : State) : Host.Outcome State Fault Refusal :=
  done s (Vlk.restStart mfn s)

/-- REST_RETRY (R117). -/
def execRestRetry (s : State) : Host.Outcome State Fault Refusal :=
  done s (Vlk.restRetry s)

/-- LISTEN_WAKE (R116). -/
def execListenWake (s : State) (mfn : Nat := 0) : Host.Outcome State Fault Refusal :=
  done s (Vlk.listenWake mfn s)

/-- LISTEN_END (R116). -/
def execListenEnd (s : State) (frames : Nat := 0) : Host.Outcome State Fault Refusal :=
  done s (Vlk.listenEnd frames s)

/-- LEAF_LOST_TMO (R121). -/
def execLeafLostTmo (ms : Nat) (s : State) : Host.Outcome State Fault Refusal :=
  done s (Vlk.lostTimeout ms s)

/-- HUB_REST_START (R118). -/
def execHubRestStart (l : Nat) (s : State) : Host.Outcome State Fault Refusal :=
  Access.doneMirrored s (Vlk.hubRestStart l s)

/-- WAKE (R118). -/
def execWake (l : Nat) (s : State) : Host.Outcome State Fault Refusal :=
  Access.doneMirrored s (Bus.row Bus.host .VLK_WAKE 0 0 (fun _ => l) (Vlk.wake (l % 512)) s)

/-- WAKE_TMO (R118). -/
def execWakeTmo (l periods : Nat) (s : State) : Host.Outcome State Fault Refusal :=
  Access.doneMirrored s (Vlk.wakeTimeout l periods s)

/-- LEAF_LOST (R121). -/
def execLeafLost (l mf : Nat) (s : State) : Host.Outcome State Fault Refusal :=
  Access.doneMirrored s (Vlk.leafLost l mf s)

end Sys2Proof.Machine
end

