-- ==== Sys2Proof/Machine/Meanings.lean ====
section
/-! DEFINITION. Sys2Proof/Machine/Meanings.lean: the meanings of all commands, family by family. -/
end

