-- ==== Sys2Proof/Machine/Dispatch.lean ====
section
/-! DEFINITION. Sys2Proof/Machine/Dispatch.lean: one arm per command. -/
namespace Sys2Proof.Machine
open Sys2Proof

def exec (i : Instr) (s : State) : Host.Outcome State Fault Refusal :=
  match i with
  | .registerWrite master addr value be => Sys2Proof.Machine.execRegisterWrite master addr value be s
  | .readClear master addr => Sys2Proof.Machine.execReadClear master addr s
  | .snapshotRead master addr => Sys2Proof.Machine.execSnapshotRead master addr s
  | .pcieUnsupportedRequest kind function addr => Sys2Proof.Machine.execPcieUnsupportedRequest kind function addr s
  | .sysLock value => Sys2Proof.Machine.execSysLock value s
  | .bridgePrefilled b => Sys2Proof.Machine.execBridgePrefilled b s
  | .bridgeUnderflow b => Sys2Proof.Machine.execBridgeUnderflow b s
  | .bridgeOverflow b => Sys2Proof.Machine.execBridgeOverflow b s
  | .slackLow m now => Sys2Proof.Machine.execSlackLow m now s
  | .hardMarginCrossing m now => Sys2Proof.Machine.execHardMarginCrossing m now s
  | .avsDecreaseRequest levels => Sys2Proof.Machine.execAvsDecreaseRequest levels s
  | .autoRelease levels => Sys2Proof.Machine.execAutoRelease levels s
  | .release levels => Sys2Proof.Machine.execRelease levels s
  | .actionReleaseEffect => Sys2Proof.Machine.execActionReleaseEffect s
  | .slackCfgWrite m value => Sys2Proof.Machine.execSlackCfgWrite m value s
  | .ltxEnable => Sys2Proof.Machine.execLtxEnable s
  | .ltxStart => Sys2Proof.Machine.execLtxStart s
  | .ltxDisable => Sys2Proof.Machine.execLtxDisable s
  | .hostMute value => Sys2Proof.Machine.execHostMute value s
  | .muteResume => Sys2Proof.Machine.execMuteResume s
  | .loadSwap d => Sys2Proof.Machine.execLoadSwap d s
  | .freqOfsWrite value => Sys2Proof.Machine.execFreqOfsWrite value s
  | .freqOfsApply => Sys2Proof.Machine.execFreqOfsApply s
  | .cdpreGo => Sys2Proof.Machine.execCdpreGo s
  | .cdpreFadeDone blocks => Sys2Proof.Machine.execCdpreFadeDone s blocks
  | .skewWrite d value => Sys2Proof.Machine.execSkewWrite d value s
  | .skewSlewDone blocks => Sys2Proof.Machine.execSkewSlewDone s blocks
  | .peqSwap => Sys2Proof.Machine.execPeqSwap s
  | .peqSwapApply => Sys2Proof.Machine.execPeqSwapApply s
  | .pdSwap => Sys2Proof.Machine.execPdSwap s
  | .pdSwapApply => Sys2Proof.Machine.execPdSwapApply s
  | .lrxEnable => Sys2Proof.Machine.execLrxEnable s
  | .lrxDisable => Sys2Proof.Machine.execLrxDisable s
  | .losSet rms => Sys2Proof.Machine.execLosSet rms s
  | .losClear rms => Sys2Proof.Machine.execLosClear rms s
  | .losHoldExpiry => Sys2Proof.Machine.execLosHoldExpiry s
  | .cdGo => Sys2Proof.Machine.execCdGo s
  | .cdArm => Sys2Proof.Machine.execCdArm s
  | .cdDisarm => Sys2Proof.Machine.execCdDisarm s
  | .cdFadeDone blocks => Sys2Proof.Machine.execCdFadeDone s blocks
  | .cdEstimateDone est => Sys2Proof.Machine.execCdEstimateDone est s
  | .coarseLock ofs spread => Sys2Proof.Machine.execCoarseLock ofs s spread
  | .acqTmo => Sys2Proof.Machine.execAcqTmo s
  | .scLock k snr => Sys2Proof.Machine.execScLock k snr s
  | .scUnlock k snr => Sys2Proof.Machine.execScUnlock k snr s
  | .trackLost => Sys2Proof.Machine.execTrackLost s
  | .singular k num den => Sys2Proof.Machine.execSingular k s num den
  | .cycleSlip k turns => Sys2Proof.Machine.execCycleSlip k s turns
  | .lofbUpdate mean => Sys2Proof.Machine.execLofbUpdate mean s
  | .lofbOffloadDone => Sys2Proof.Machine.execLofbOffloadDone s
  | .lofbErr => Sys2Proof.Machine.execLofbErr s
  | .restart => Sys2Proof.Machine.execRestart s
  | .snrLatch rows leaves imp => Sys2Proof.Machine.execSnrLatch rows leaves imp s
  | .dmErr k block => Sys2Proof.Machine.execDmErr s k block
  | .tapSetSwitch k l start => Sys2Proof.Machine.execTapSetSwitch k l start s
  | .commitDs => Sys2Proof.Machine.execCommitDs s
  | .commitUs => Sys2Proof.Machine.execCommitUs s
  | .abortDs => Sys2Proof.Machine.execAbortDs s
  | .abortUs => Sys2Proof.Machine.execAbortUs s
  | .loadAnnounce d => Sys2Proof.Machine.execLoadAnnounce d s
  | .loadAckTmo d => Sys2Proof.Machine.execLoadAckTmo d s
  | .fecCfgWrite value => Sys2Proof.Machine.execFecCfgWrite value s
  | .codewordDecode k ok iter bits rows l => Sys2Proof.Machine.execCodewordDecode k ok iter bits rows s l
  | .vlkEnable => Sys2Proof.Machine.execVlkEnable s
  | .vlkDisable => Sys2Proof.Machine.execVlkDisable s
  | .vdfReceive tree beacon feeder regOpen mfn wake gver gann gnext crcOk badLen => Sys2Proof.Machine.execVdfReceive tree beacon feeder regOpen mfn wake gver gann gnext crcOk badLen s
  | .beaconLost frames => Sys2Proof.Machine.execBeaconLost frames s
  | .mgmtContainer crcOk badLen => Sys2Proof.Machine.execMgmtContainer crcOk badLen s
  | .treeInfo addr flags seq baud spacing nsc rates usOfs rscM1 scs teq => Sys2Proof.Machine.execTreeInfo addr flags seq baud spacing nsc rates usOfs rscM1 scs teq s
  | .regReq sending => Sys2Proof.Machine.execRegReq sending s
  | .regAssign addr flags seq idLo idHi leaf beacon member khi eqd0 v0 eqd1 v1 freq start => Sys2Proof.Machine.execRegAssign addr flags seq idLo idHi leaf beacon member khi eqd0 v0 eqd1 v1 freq start s
  | .regReject idLo idHi => Sys2Proof.Machine.execRegReject idLo idHi s
  | .regConfirm l flags seq => Sys2Proof.Machine.execRegConfirm l flags seq s
  | .dereg addr flags seq => Sys2Proof.Machine.execDereg addr flags seq s
  | .rangeAdj addr flags seq delta => Sys2Proof.Machine.execRangeAdj addr flags seq delta s
  | .freqAdj addr flags seq delta => Sys2Proof.Machine.execFreqAdj addr flags seq delta s
  | .grantTable addr flags seq ver rows => Sys2Proof.Machine.execGrantTable addr flags seq ver rows s
  | .grantAck l flags seq ver status => Sys2Proof.Machine.execGrantAck l flags seq ver status s
  | .loadTable addr flags seq d ver lo entries => Sys2Proof.Machine.execLoadTable addr flags seq d ver lo entries s
  | .loadAck l flags seq d ver => Sys2Proof.Machine.execLoadAck l flags seq d ver s
  | .loadNak l flags seq d ver => Sys2Proof.Machine.execLoadNak l flags seq d ver s
  | .loadCancel addr flags seq d ver => Sys2Proof.Machine.execLoadCancel addr flags seq d ver s
  | .loadMismatch l flags seq d => Sys2Proof.Machine.execLoadMismatch l flags seq d s
  | .snrReport l flags seq lo vals => Sys2Proof.Machine.execSnrReport l flags seq lo vals s
  | .regWrite addr flags seq pairs => Sys2Proof.Machine.execRegWrite addr flags seq pairs s
  | .regRead addr flags seq addrs => Sys2Proof.Machine.execRegRead addr flags seq addrs s
  | .regResp l flags seq body => Sys2Proof.Machine.execRegResp l flags seq body s
  | .fwOpen addr flags seq version size crc => Sys2Proof.Machine.execFwOpen addr flags seq version size crc s
  | .fwData addr flags seq offset bytes => Sys2Proof.Machine.execFwData addr flags seq offset bytes s
  | .fwClose addr flags seq => Sys2Proof.Machine.execFwClose addr flags seq s
  | .fwStatus addr flags seq bitmap => Sys2Proof.Machine.execFwStatus addr flags seq bitmap s
  | .fwActivate addr flags seq => Sys2Proof.Machine.execFwActivate addr flags seq s
  | .restReq l flags seq => Sys2Proof.Machine.execRestReq l flags seq s
  | .restGrant addr flags seq start cycle listen => Sys2Proof.Machine.execRestGrant addr flags seq start cycle listen s
  | .wakeAck l flags seq => Sys2Proof.Machine.execWakeAck l flags seq s
  | .ack peer q status => Sys2Proof.Machine.execAck peer q status s
  | .user addr flags type seq body => Sys2Proof.Machine.execUser addr flags type seq body s
  | .unknownType addr flags seq => Sys2Proof.Machine.execUnknownType addr flags seq s
  | .retxTimeout peer q => Sys2Proof.Machine.execRetxTimeout peer q s
  | .txpost q len beacon => Sys2Proof.Machine.execTxpost q len beacon s
  | .rxpop => Sys2Proof.Machine.execRxpop s
  | .upstreamSilent => Sys2Proof.Machine.execUpstreamSilent s
  | .upstreamResume => Sys2Proof.Machine.execUpstreamResume s
  | .rangeTrigger l e n => Sys2Proof.Machine.execRangeTrigger l e s n
  | .freqTrigger l ofs => Sys2Proof.Machine.execFreqTrigger l ofs s
  | .regAttempt mfn fn ix sc => Sys2Proof.Machine.execRegAttempt mfn fn ix sc s
  | .regTmo frames => Sys2Proof.Machine.execRegTmo frames s
  | .regGo => Sys2Proof.Machine.execRegGo s
  | .regOpen value => Sys2Proof.Machine.execRegOpen value s
  | .upstreamStart mfn => Sys2Proof.Machine.execUpstreamStart mfn s
  | .grantCommit => Sys2Proof.Machine.execGrantCommit s
  | .grantAbort => Sys2Proof.Machine.execGrantAbort s
  | .grantAnnounce => Sys2Proof.Machine.execGrantAnnounce s
  | .grantSwap => Sys2Proof.Machine.execGrantSwap s
  | .grantAckTmo => Sys2Proof.Machine.execGrantAckTmo s
  | .leafRestStart mfn => Sys2Proof.Machine.execLeafRestStart mfn s
  | .restRetry => Sys2Proof.Machine.execRestRetry s
  | .listenWake mfn => Sys2Proof.Machine.execListenWake s mfn
  | .listenEnd frames => Sys2Proof.Machine.execListenEnd s frames
  | .leafLostTmo ms => Sys2Proof.Machine.execLeafLostTmo ms s
  | .hubRestStart l => Sys2Proof.Machine.execHubRestStart l s
  | .wake l => Sys2Proof.Machine.execWake l s
  | .wakeTmo l periods => Sys2Proof.Machine.execWakeTmo l periods s
  | .leafLost l mf => Sys2Proof.Machine.execLeafLost l mf s
  | .brxEnable => Sys2Proof.Machine.execBrxEnable s
  | .brxDisable => Sys2Proof.Machine.execBrxDisable s
  | .peakDetect c q lambda aMfn aFn aOfs dMfn dFn dSym psym fofs snr after level => Sys2Proof.Machine.execPeakDetect c q lambda aMfn aFn aOfs dMfn dFn dSym psym fofs snr s after level
  | .headerDecision c hdr crcOk => Sys2Proof.Machine.execHeaderDecision c hdr crcOk s
  | .burstClose c crcOk em fofs snr msg => Sys2Proof.Machine.execBurstClose c crcOk em fofs snr msg s
  | .burstRecord => Sys2Proof.Machine.execBurstRecord s
  | .gapClose c psym fofs snr run => Sys2Proof.Machine.execGapClose c psym fofs snr s run
  | .fade c run next => Sys2Proof.Machine.execFade c s run next
  | .orphan c quiet run => Sys2Proof.Machine.execOrphan c s quiet run
  | .scAbsentSet k symbols => Sys2Proof.Machine.execScAbsentSet k s symbols
  | .scAbsentClear k symbols => Sys2Proof.Machine.execScAbsentClear k s symbols
  | .recPop => Sys2Proof.Machine.execRecPop s
  | .colPop => Sys2Proof.Machine.execColPop s
  | .txEn value => Sys2Proof.Machine.execTxEn value s
  | .txFrame mfn fn covered => Sys2Proof.Machine.execTxFrame mfn fn covered s
  | .rxEn value => Sys2Proof.Machine.execRxEn value s
  | .research => Sys2Proof.Machine.execResearch s
  | .fawHit pos rot errs => Sys2Proof.Machine.execFawHit pos rot errs s
  | .candidateJudge pos rot errs word => Sys2Proof.Machine.execCandidateJudge pos rot errs word s
  | .fawCheck k errs rotY => Sys2Proof.Machine.execFawCheck k errs rotY s
  | .oof => Sys2Proof.Machine.execOof s
  | .overheadWord k l word covered mfn fn => Sys2Proof.Machine.execOverheadWord k l word covered mfn fn s
  | .oom k l => Sys2Proof.Machine.execOom k l s
  | .mfRestore k l => Sys2Proof.Machine.execMfRestore k l s
  | .upstreamFawCheck k l errs => Sys2Proof.Machine.execUpstreamFawCheck k l errs s
  | .upstreamOof k l => Sys2Proof.Machine.execUpstreamOof k l s
  | .upstreamInFrame k l => Sys2Proof.Machine.execUpstreamInFrame k l s
  | .tenMsTick n otu levels ties => Sys2Proof.Machine.execTenMsTick n otu levels s ties
  | .defectDeclare kind ix d => Sys2Proof.Machine.execDefectDeclare kind ix d s
  | .defectClear kind ix d => Sys2Proof.Machine.execDefectClear kind ix d s
  | .defCfgWrite d value => Sys2Proof.Machine.execDefCfgWrite d value s
  | .secondTick d => Sys2Proof.Machine.execSecondTick d s
  | .degOnset ix => Sys2Proof.Machine.execDegOnset ix s
  | .ttiAccept => Sys2Proof.Machine.execTtiAccept s
  | .ssmAccept => Sys2Proof.Machine.execSsmAccept s
  | .cfReceive k l bad hdr payload tag => Sys2Proof.Machine.execCfReceive k l bad hdr payload tag s
  | .slipWrite f => Sys2Proof.Machine.execSlipWrite f s
  | .slipRead f ends => Sys2Proof.Machine.execSlipRead f s ends
  | .cliEnable c => Sys2Proof.Machine.execCliEnable c s
  | .cliDisable c => Sys2Proof.Machine.execCliDisable c s
  | .signalDetect n => Sys2Proof.Machine.execSignalDetect n s
  | .signalLoss n => Sys2Proof.Machine.execSignalLoss n s
  | .cdrLock n => Sys2Proof.Machine.execCdrLock n s
  | .cdrLoss n => Sys2Proof.Machine.execCdrLoss n s
  | .laneLock n comp id => Sys2Proof.Machine.execLaneLock n comp id s
  | .markerLockLoss n => Sys2Proof.Machine.execMarkerLockLoss n s
  | .egressOrderChange c => Sys2Proof.Machine.execEgressOrderChange c s
  | .deskewMeasure c meas flexo => Sys2Proof.Machine.execDeskewMeasure c meas flexo s
  | .linkTmo c ms => Sys2Proof.Machine.execLinkTmo c ms s
  | .flowRead f => Sys2Proof.Machine.execFlowRead f s
  | .flowWrite f => Sys2Proof.Machine.execFlowWrite f s
  | .flowRemove f => Sys2Proof.Machine.execFlowRemove f s
  | .flowCmdApply now => Sys2Proof.Machine.execFlowCmdApply s now
  | .cfSchedule k now => Sys2Proof.Machine.execCfSchedule k now s
  | .tokenCap f now => Sys2Proof.Machine.execTokenCap f now s
  | .clientIngress c vlan slot errored data => Sys2Proof.Machine.execClientIngress c vlan slot errored data s
  | .qdmEnable => Sys2Proof.Machine.execQdmEnable s
  | .qdrTrainDone p step => Sys2Proof.Machine.execQdrTrainDone p step s
  | .qdrRetrain => Sys2Proof.Machine.execQdrRetrain s
  | .qdrRecentre p moves => Sys2Proof.Machine.execQdrRecentre p moves s
  | .qdrParityError p addr f => Sys2Proof.Machine.execQdrParityError p addr f s
  | .addrParityError p => Sys2Proof.Machine.execAddrParityError p s
  | .qdrPortFail p => Sys2Proof.Machine.execQdrPortFail p s
  | .cryLockAcquire master user rivals => Sys2Proof.Machine.execCryLockAcquire master user rivals s
  | .cryLockRelease master user => Sys2Proof.Machine.execCryLockRelease master user s
  | .keyLoad master user ctx ph => Sys2Proof.Machine.execKeyLoad master user ctx ph s
  | .keyRoll master user ctx ph => Sys2Proof.Machine.execKeyRoll master user ctx ph s
  | .keyClear master user ctx ph => Sys2Proof.Machine.execKeyClear master user ctx ph s
  | .keyClearCtx master user ctx => Sys2Proof.Machine.execKeyClearCtx master user ctx s
  | .keyCmdUndefined master user ctx ph op => Sys2Proof.Machine.execKeyCmdUndefined master user ctx ph op s
  | .keyCmdComplete => Sys2Proof.Machine.execKeyCmdComplete s
  | .erasure cause present => Sys2Proof.Machine.execErasure cause present s
  | .cryCounterMirror => Sys2Proof.Machine.execCryCounterMirror s
  | .refFail ix lost => Sys2Proof.Machine.execRefFail ix lost s
  | .refRestore ix => Sys2Proof.Machine.execRefRestore ix s
  | .wtrComplete ix => Sys2Proof.Machine.execWtrComplete ix s
  | .driftWatchEnd ix => Sys2Proof.Machine.execDriftWatchEnd ix s
  | .refDq ix => Sys2Proof.Machine.execRefDq ix s
  | .qlTmo ix seconds => Sys2Proof.Machine.execQlTmo ix seconds s
  | .refQlWrite ix value => Sys2Proof.Machine.execRefQlWrite ix value s
  | .selection => Sys2Proof.Machine.execSelection s
  | .loopLock => Sys2Proof.Machine.execLoopLock s
  | .quarantineExit => Sys2Proof.Machine.execQuarantineExit s
  | .tcFit => Sys2Proof.Machine.execTcFit s
  | .pstepWrite o value => Sys2Proof.Machine.execPstepWrite o value s
  | .pstepDone o => Sys2Proof.Machine.execPstepDone o s
  | .privKeyWrite master user value => Sys2Proof.Machine.execPrivKeyWrite master user value s
  | .loopOpen master user p us => Sys2Proof.Machine.execLoopOpen master user p us s
  | .ncoFreqWrite master user p value => Sys2Proof.Machine.execNcoFreqWrite master user p value s
  | .loopClose master user p => Sys2Proof.Machine.execLoopClose master user p s
  | .maxOpenExpiry p seconds => Sys2Proof.Machine.execMaxOpenExpiry p seconds s
  | .timeSet => Sys2Proof.Machine.execTimeSet s
  | .timeAlign => Sys2Proof.Machine.execTimeAlign s
  | .ppsInEdge ns d => Sys2Proof.Machine.execPpsInEdge ns d s
  | .add n t => Sys2Proof.Machine.execAdd n t s
  | .sub n t => Sys2Proof.Machine.execSub n t s
  | .andOp n t => Sys2Proof.Machine.execAndOp n t s
  | .orOp n t => Sys2Proof.Machine.execOrOp n t s
  | .xor n t => Sys2Proof.Machine.execXor n t s
  | .sll n t => Sys2Proof.Machine.execSll n t s
  | .srl n t => Sys2Proof.Machine.execSrl n t s
  | .sra n t => Sys2Proof.Machine.execSra n t s
  | .slt n t => Sys2Proof.Machine.execSlt n t s
  | .sltu n t => Sys2Proof.Machine.execSltu n t s
  | .mul n t => Sys2Proof.Machine.execMul n t s
  | .mulh n t => Sys2Proof.Machine.execMulh n t s
  | .mulhu n t => Sys2Proof.Machine.execMulhu n t s
  | .min n t => Sys2Proof.Machine.execMin n t s
  | .max n t => Sys2Proof.Machine.execMax n t s
  | .clz n t => Sys2Proof.Machine.execClz n t s
  | .popc n t => Sys2Proof.Machine.execPopc n t s
  | .addi n t => Sys2Proof.Machine.execAddi n t s
  | .andi n t => Sys2Proof.Machine.execAndi n t s
  | .ori n t => Sys2Proof.Machine.execOri n t s
  | .xori n t => Sys2Proof.Machine.execXori n t s
  | .slti n t => Sys2Proof.Machine.execSlti n t s
  | .shi n t => Sys2Proof.Machine.execShi n t s
  | .lui n t => Sys2Proof.Machine.execLui n t s
  | .beq n t => Sys2Proof.Machine.execBeq n t s
  | .bne n t => Sys2Proof.Machine.execBne n t s
  | .blt n t => Sys2Proof.Machine.execBlt n t s
  | .bge n t => Sys2Proof.Machine.execBge n t s
  | .bltu n t => Sys2Proof.Machine.execBltu n t s
  | .bgeu n t => Sys2Proof.Machine.execBgeu n t s
  | .jal n t => Sys2Proof.Machine.execJal n t s
  | .jalr n t => Sys2Proof.Machine.execJalr n t s
  | .ldw n t => Sys2Proof.Machine.execLdw n t s
  | .stw n t => Sys2Proof.Machine.execStw n t s
  | .lxch n t => Sys2Proof.Machine.execLxch n t s
  | .ladd n t => Sys2Proof.Machine.execLadd n t s
  | .rld n t => Sys2Proof.Machine.execRld n t s
  | .rst n t => Sys2Proof.Machine.execRst n t s
  | .dmar n t => Sys2Proof.Machine.execDmar n t s
  | .dmaw n t => Sys2Proof.Machine.execDmaw n t s
  | .qrd n t => Sys2Proof.Machine.execQrd n t s
  | .qwr n t => Sys2Proof.Machine.execQwr n t s
  | .aswp n t => Sys2Proof.Machine.execAswp n t s
  | .aadd n t => Sys2Proof.Machine.execAadd n t s
  | .aand n t => Sys2Proof.Machine.execAand n t s
  | .aor n t => Sys2Proof.Machine.execAor n t s
  | .acas n t => Sys2Proof.Machine.execAcas n t s
  | .wait n t => Sys2Proof.Machine.execWait n t s
  | .fence n t => Sys2Proof.Machine.execFence n t s
  | .jmark n t => Sys2Proof.Machine.execJmark n t s
  | .tstat n t => Sys2Proof.Machine.execTstat n t s
  | .trel n t => Sys2Proof.Machine.execTrel n t s
  | .halt n t => Sys2Proof.Machine.execHalt n t s
  | .yield n t => Sys2Proof.Machine.execYield n t s
  | .setf n t => Sys2Proof.Machine.execSetf n t s
  | .clrf n t => Sys2Proof.Machine.execClrf n t s
  | .drop n t => Sys2Proof.Machine.execDrop n t s
  | .self n t => Sys2Proof.Machine.execSelf n t s
  | .tagExhaust n t => Sys2Proof.Machine.execTagExhaust n t s
  | .opAccept n j => Sys2Proof.Machine.execOpAccept n j s
  | .accTmo n j => Sys2Proof.Machine.execAccTmo n j s
  | .opFinal n j words parity => Sys2Proof.Machine.execOpFinal n j words parity s
  | .waitEnd n t => Sys2Proof.Machine.execWaitEnd n t s
  | .waitTimeout n t => Sys2Proof.Machine.execWaitTimeout n t s
  | .threadStart n t => Sys2Proof.Machine.execThreadStart n t s
  | .threadStop n t => Sys2Proof.Machine.execThreadStop n t s
  | .engReset n => Sys2Proof.Machine.execEngReset n s
  | .memDataAccess master n write value => Sys2Proof.Machine.execMemDataAccess master n write value s
  | .spillPop => Sys2Proof.Machine.execSpillPop s
  | .activate slot => Sys2Proof.Machine.execActivate slot s
  | .healthOk => Sys2Proof.Machine.execHealthOk s
  | .healthTmo => Sys2Proof.Machine.execHealthTmo s
  | .rollback => Sys2Proof.Machine.execRollback s
  | .mbxDataWrite master user n ix value => Sys2Proof.Machine.execMbxDataWrite master user n ix value s
  | .doorbell master user n value => Sys2Proof.Machine.execDoorbell master user n value s
  | .mbxTake master user n => Sys2Proof.Machine.execMbxTake master user n s
  | .bind master user n value => Sys2Proof.Machine.execBind master user n value s
  | .mbxLockAcquire master user n rivals => Sys2Proof.Machine.execMbxLockAcquire master user n rivals s
  | .mbxLockRelease master user n => Sys2Proof.Machine.execMbxLockRelease master user n s
  | .functionLevelReset f => Sys2Proof.Machine.execFunctionLevelReset f s
  | .peerPost n words => Sys2Proof.Machine.execPeerPost n words s
  | .cntLoWrite master ix value => Sys2Proof.Machine.execCntLoWrite master ix value s
  | .cntHiWrite master ix value => Sys2Proof.Machine.execCntHiWrite master ix value s
  | .pmcOverflow ix => Sys2Proof.Machine.execPmcOverflow ix s
  | .samplePick engine thread super op tagged pc tag => Sys2Proof.Machine.execSamplePick engine thread super op tagged pc tag s
  | .sampleRecord src x => Sys2Proof.Machine.execSampleRecord src x s
  | .smpPop => Sys2Proof.Machine.execSmpPop s
  | .methodChange => Sys2Proof.Machine.execMethodChange s
  | .hkaTimer => Sys2Proof.Machine.execHkaTimer s
  | .seqGo => Sys2Proof.Machine.execSeqGo s
  | .delayEnd => Sys2Proof.Machine.execDelayEnd s
  | .conversionEnd code => Sys2Proof.Machine.execConversionEnd code s
  | .injGo => Sys2Proof.Machine.execInjGo s
  | .backgroundScan => Sys2Proof.Machine.execBackgroundScan s
  | .hkaCalDone sum => Sys2Proof.Machine.execHkaCalDone sum s
  | .pwmPeriodStart p => Sys2Proof.Machine.execPwmPeriodStart p s
  | .pwmCompare p => Sys2Proof.Machine.execPwmCompare p s
  | .fltSample f sum => Sys2Proof.Machine.execFltSample f sum s
  | .fltOutput f => Sys2Proof.Machine.execFltOutput f s
  | .fltValid f => Sys2Proof.Machine.execFltValid f s
  | .firSwap f => Sys2Proof.Machine.execFirSwap f s
  | .firFadeDone f => Sys2Proof.Machine.execFirFadeDone f s
  | .fltCfgWrite f value => Sys2Proof.Machine.execFltCfgWrite f value s
  | .fltPreset f preset => Sys2Proof.Machine.execFltPreset f preset s
  | .biasLoopEnable b value => Sys2Proof.Machine.execBiasLoopEnable b value s
  | .serCmd l value => Sys2Proof.Machine.execSerCmd l value s
  | .serResponse l frame => Sys2Proof.Machine.execSerResponse l frame s
  | .serPoll l waiting => Sys2Proof.Machine.execSerPoll l waiting s
  | .serTimeout l => Sys2Proof.Machine.execSerTimeout l s
  | .ftOutWrite ix value => Sys2Proof.Machine.execFtOutWrite ix value s
  | .gainKhzWrite ix value => Sys2Proof.Machine.execGainKhzWrite ix value s
  | .goFull => Sys2Proof.Machine.execGoFull s
  | .goTrack => Sys2Proof.Machine.execGoTrack s
  | .calRetryExpiry => Sys2Proof.Machine.execCalRetryExpiry s
  | .calAbort => Sys2Proof.Machine.execCalAbort s
  | .sineCheck mvpp => Sys2Proof.Machine.execSineCheck mvpp s
  | .calPassEnd => Sys2Proof.Machine.execCalPassEnd s
  | .calRunEnd adc dac => Sys2Proof.Machine.execCalRunEnd adc dac s
  | .calFlashDone ok => Sys2Proof.Machine.execCalFlashDone ok s
  | .bistGo mask => Sys2Proof.Machine.execBistGo mask s
  | .bistAbort => Sys2Proof.Machine.execBistAbort s
  | .sliceEnd result detail elapsed => Sys2Proof.Machine.execSliceEnd result detail elapsed s
  | .sliceTimeout => Sys2Proof.Machine.execSliceTimeout s
  | .override value => Sys2Proof.Machine.execOverride value s
  | .lcmTransition master value => Sys2Proof.Machine.execLcmTransition master value s
  | .fuseDone => Sys2Proof.Machine.execFuseDone s
  | .keyCommit k => Sys2Proof.Machine.execKeyCommit k s
  | .keyRevoke k => Sys2Proof.Machine.execKeyRevoke k s
  | .challengeRead master => Sys2Proof.Machine.execChallengeRead master s
  | .peerEnable => Sys2Proof.Machine.execPeerEnable s
  | .peerDisable => Sys2Proof.Machine.execPeerDisable s
  | .peerLinkUp h => Sys2Proof.Machine.execPeerLinkUp h s
  | .peerLinkFail locked codewords => Sys2Proof.Machine.execPeerLinkFail locked codewords s
  | .heartbeatTmo => Sys2Proof.Machine.execHeartbeatTmo s
  | .linkWaitExpiry => Sys2Proof.Machine.execLinkWaitExpiry s
  | .forceActive => Sys2Proof.Machine.execForceActive s
  | .syncDone => Sys2Proof.Machine.execSyncDone s
  | .mirrorRecord kind words now => Sys2Proof.Machine.execMirrorRecord kind words s now
  | .switch remote => Sys2Proof.Machine.execSwitch remote s
  | .activeFault ms => Sys2Proof.Machine.execActiveFault ms s
  | .partnerLost ms => Sys2Proof.Machine.execPartnerLost ms s
  | .handover trig => Sys2Proof.Machine.execHandover trig s
  | .laserSettled => Sys2Proof.Machine.execLaserSettled s
  | .eqdMeasure l e eqd => Sys2Proof.Machine.execEqdMeasure l e eqd s
  | .powerOnReset rails => Sys2Proof.Machine.execPowerOnReset rails s
  | .railDrop r => Sys2Proof.Machine.execRailDrop r s
  | .railWarn r => Sys2Proof.Machine.execRailWarn r s
  | .resetRelease => Sys2Proof.Machine.execResetRelease s
  | .resetN => Sys2Proof.Machine.execResetN s
  | .perst => Sys2Proof.Machine.execPerst s
  | .warmReset value => Sys2Proof.Machine.execWarmReset value s
  | .imageLoadingReset => Sys2Proof.Machine.execImageLoadingReset s
  | .softReset mask => Sys2Proof.Machine.execSoftReset mask s
  | .softResetDone b => Sys2Proof.Machine.execSoftResetDone b s
  | .boot misread => Sys2Proof.Machine.execBoot misread s
  | .avsSet value => Sys2Proof.Machine.execAvsSet value s
  | .avsPoll mv => Sys2Proof.Machine.execAvsPoll mv s
  | .avsAck mv => Sys2Proof.Machine.execAvsAck mv s
  | .avsTimeout => Sys2Proof.Machine.execAvsTimeout s
  | .pmbCmd value => Sys2Proof.Machine.execPmbCmd value s
  | .restEnter => Sys2Proof.Machine.execRestEnter s
  | .restEntryDone => Sys2Proof.Machine.execRestEntryDone s
  | .restWake source => Sys2Proof.Machine.execRestWake source s
  | .restExitDone us moves => Sys2Proof.Machine.execRestExitDone us moves s
  | .flRead len => Sys2Proof.Machine.execFlRead len s
  | .flProgram len => Sys2Proof.Machine.execFlProgram len s
  | .flErase => Sys2Proof.Machine.execFlErase s
  | .flDone verify => Sys2Proof.Machine.execFlDone verify s
  | .converterClockLock dac => Sys2Proof.Machine.execConverterClockLock dac s
  | .phaseReacquired => Sys2Proof.Machine.execPhaseReacquired s
  | .ppsInValidExpiry ms => Sys2Proof.Machine.execPpsInValidExpiry ms s
  | .pmbCmdDone data nack => Sys2Proof.Machine.execPmbCmdDone data nack s
  | .traceWriteTimeout => Sys2Proof.Machine.execTraceWriteTimeout s

end Sys2Proof.Machine
end

