-- ==== Sys2Proof/Machine/Footprint.lean ====
section
/-! DEFINITION. Sys2Proof/Machine/Footprint.lean: the parts of the state that each command may write. -/
namespace Sys2Proof.Machine
open Sys2Proof

/-- A part of the state that a command may write. -/
inductive Part where
  /-- An element of a field. -/
  | fld (f : Field)
  /-- All elements of a hidden array at once. -/
  | arr (f : Field)
  | msix | vlk | brx | flw | frm | syn | eng | flt | qdr | flash | held

namespace Footprint

/-- Some parts, and the parts of some groups. -/
def of (l : List Part) (groups : List (List Part)) : List Part := l ++ groups.flatten

/-! Groups of parts that are written together. -/

/-- What a counter overflow may write while overflow sampling runs: the record, the ring, the trace (R289). -/
def sampled : List Part := [.fld F.PMC_INT_CAUSE_SMP_AVAIL, .fld F.PMC_SMP_DROP_RING, .fld F.PMC_SMP_STAT_COUNT, .fld H.PMC_OVF_DUE,
  .fld H.PMC_RING, .fld H.PMC_TRACE_POS]
/-- What the count of an event writes (R284, R286). -/
def counted : List Part := [.fld F.PMC_INT_CAUSE_OVF, .fld F.PMC_OVF_STAT_OVF, .fld H.PMC_CNT, .fld H.PMC_OVF_T]
/-- The states of threads and the summary of them (R248). -/
def threads : List Part := [.fld F.ENG_STAT_FAULTED, .fld F.ENG_STAT_RUNNING, .fld F.ENG_THR_STAT_STATE]
/-- A host access that is held or turned away (R343, R356). -/
def accessed : List Part := [.held, .fld F.PEER_INT_CAUSE_MIRRORED]
/-- The housekeeping converter chooses its next conversion (R297, R298). -/
def converter : List Part := [.fld F.HKA_STAT_CAL_HOLD, .fld F.HKA_STAT_INJ_PEND, .fld H.HKA_CAL_WAIT, .fld H.HKA_CUR, .fld H.HKA_RUN,
  .fld H.HKA_SEQ_STATE]
/-- What SYN shows of its references and outputs (R228, R231, R235, R240). -/
def synShown : List Part := [.fld F.SYN_INT_CAUSE_QL_CHG, .fld F.SYN_REF_STAT_ELIGIBLE, .fld F.SYN_REF_STAT_QL_EFF,
  .fld F.SYN_STAT_OUT_QL, .fld F.SYN_STAT_SEL_QL, .fld H.SYN_LINE_OK, .fld H.SYN_OUT_RUN]
/-- Defects noted for the second under way (FRM). -/
def noted : List Part := [.fld H.FRM_SEEN_CLI, .fld H.FRM_SEEN_LANE, .fld H.FRM_SEEN_LINE, .fld H.FRM_SEEN_SC]
/-- One journal entry, and its spill (R253). -/
def journal : List Part := [.fld F.ENG_JRNL_HEAD_VAL, .fld F.ENG_JRNL_SEQ_VAL, .fld F.SE_SPILL_STAT_LOST, .fld H.ENG_JVALID,
  .fld H.ENG_SPILL_MAP, .fld H.ENG_SPILL_POS]
/-- A request to the voltage regulator. -/
def avsRequest : List Part := [.fld F.PWR_AVS_READ_BUSY, .fld F.PWR_VMIN_VREQ_MV, .fld H.PWR_TARGET, .fld H.PWR_VMIN_ASKED]
/-- A reference qualifies, fails or is disqualified (R230). -/
def reference : List Part := [.fld F.SYN_INT_CAUSE_REF_DQ, .fld F.SYN_INT_CAUSE_REF_DRIFT, .fld F.SYN_INT_CAUSE_REF_FAIL,
  .fld F.SYN_INT_CAUSE_REF_QUAL, .fld F.SYN_REF_STAT_STATE, .fld F.SYN_REF_STAT_WTR_LEFT, .fld H.SYN_OVER, .fld H.SYN_OVER2]
/-- The mute that a pair asks for. -/
def peerMute : List Part := [.fld F.LTX_CTRL_MUTE, .fld H.PEER_MUTE_WAS]
/-- The state of the pair. -/
def pairState : List Part := [.fld F.PEER_INT_CAUSE_STATE_CHG, .fld F.PEER_STAT_PHASE_OK, .fld F.PEER_STAT_STATE, .fld H.PEER_MUTE_HELD]
/-- The staged key and salt (R203). -/
def keyStaging : List Part := [.fld F.CRY_KEY_DATA_KEY, .fld F.CRY_KEY_SALT_SALT]
/-- One output sample of a filter. -/
def filterState : List Part := [.flt, .fld F.FLT_CH_STAT_ABOVE, .fld F.FLT_ENV_VAL, .fld F.FLT_OUT_VAL, .fld F.FLT_PEAK_VAL,
  .fld F.FLT_RMS_VAL, .fld H.FLT_DUE, .fld H.FLT_HOLD_CNT, .fld H.FLT_RMS_CNT, .fld H.FLT_RMS_SUM]
/-- The state of a leaf on its link. -/
def leafState : List Part := [.fld F.VLK_INT_CAUSE_STATE_CHG, .fld F.VLK_SELF_LEAF, .fld F.VLK_SELF_STATE, .fld H.VLK_PREV_LEAF]
/-- The receiver enters or leaves TRACK. -/
def tracking : List Part := [.fld F.LRX_INT_CAUSE_TRACK, .fld F.LRX_INT_CAUSE_TRACK_LOST, .fld F.LRX_STAT_STATE]
/-- Tags in use (R253). -/
def tags : List Part := [.fld F.ENG_STAT_TAGS_USED, .fld F.ENG_TAG_ALLOC]
/-- Resets a mailbox peer has to see (R278). -/
def resetSeen : List Part := [.fld F.MBX_STAT_RX_RESET_SEEN, .fld F.MBX_STAT_SENDER_RESET_SEEN]
/-- The receive counter of a context (R207, R209). -/
def receiveCounter : List Part := [.fld H.CRY_LAST, .fld H.CRY_LAST_SEQ, .fld H.CRY_RUN_SEQ, .fld H.CRY_RX_PH, .fld H.CRY_U,
  .fld H.CRY_WIN]
/-- A calibration starts or waits. -/
def calStart : List Part := [.fld F.CAL_DEFERRED_VAL, .fld F.CAL_STAT_TYPE, .fld H.CAL_HOST, .fld H.CAL_T0, .fld H.CAL_TEMP0]
/-- What a key command writes. -/
def keyCommand : List Part := [.fld F.CRY_KEY_CMD_CTX, .fld F.CRY_KEY_CMD_OP, .fld F.CRY_KEY_CMD_PHASE, .fld H.CRY_KEY, .fld H.CRY_SALT,
  .fld H.CRY_TX_PH, .fld H.CRY_VALID]
/-- The laser on, or its tuning held. -/
def laser : List Part := [.fld F.LSR_STAT_HOLD, .fld F.LSR_STAT_LASER_EN]
/-- Marks that a reset of a lock or mailbox owner leaves (R278, R280). -/
def resetMarks : List Part := [.fld F.MBX_INT_CAUSE_RESET_SEEN, .fld F.MBX_LOCK_STAT_LOCK_BROKEN]
/-- The rings of the bridge (R140). -/
def rings : List Part := [.fld F.BRX_COL_STAT_COUNT, .fld F.BRX_COL_STAT_HEAD_DONE, .fld F.BRX_REC_STAT_COUNT]
/-- Defects under integration (FRM). -/
def integration : List Part := [.fld H.FRM_CLRC_CLI, .fld H.FRM_CLRC_LANE, .fld H.FRM_CLRC_LINE, .fld H.FRM_CLRC_SC, .fld H.FRM_SETC_CLI,
  .fld H.FRM_SETC_LANE, .fld H.FRM_SETC_LINE, .fld H.FRM_SETC_SC]
/-- What the checks of a subcarrier table report. -/
def loadChecks : List Part := [.fld F.LRX_INT_CAUSE_SHADOW_LOCKED, .fld F.LRX_INT_CAUSE_TABLE_ERR, .fld F.LRX_STAT_ERR_SC,
  .fld F.LTX_INT_CAUSE_SHADOW_LOCKED, .fld F.LTX_INT_CAUSE_TABLE_ERR, .fld F.LTX_STAT_ERR_SC]
/-- A client port goes up or down. -/
def clientState : List Part := [.fld F.HSL_CLI_STAT_STATE, .fld F.HSL_INT_CAUSE_CLI_DOWN, .fld F.HSL_INT_CAUSE_CLI_UP]
/-- Open operations and their tags (R253). -/
def operations : List Part := [.eng, .fld F.ENG_TAG_STATE]
/-- An operation reaches its final state (R254). -/
def finalState : List Part := [.fld F.ENG_INT_CAUSE_ABORT, .fld F.ENG_STAT_INFLIGHT]
/-- The serial bus of the lasers. -/
def serial : List Part := [.fld F.LSR_STAT_SER_BUSY, .fld H.LSR_HOST_PEND, .fld H.LSR_HOST_RUN, .fld H.LSR_OWN_PEND, .fld H.LSR_OWN_RUN]
/-- A VMIN request that waits or failed. -/
def vminRequest : List Part := [.fld H.PWR_VMIN_FAILED, .fld H.PWR_VMIN_WAITS]
/-- A key command ends. -/
def keyDone : List Part := [.fld F.CRY_INT_CAUSE_CMD_ERR, .fld F.CRY_KEY_CMD_GO, .fld F.CRY_KEY_STAT_BUSY, .fld F.CRY_KEY_STAT_ERR_CODE]
/-- The entry of a tag (R253). -/
def tagEntry : List Part := [.fld F.ENG_TAG_JIDX, .fld F.ENG_TAG_THREAD]
/-- A context looks for the counter again (R209). -/
def resync : List Part := [.fld H.CRY_CAND, .fld H.CRY_RUN_MASK, .fld H.CRY_SYNC]
/-- Laser fine tuning. -/
def fineTune : List Part := [.fld F.LSR_FT_OUT_LIMIT, .fld F.LSR_FT_OUT_MHZ, .fld H.LSR_CODE]
/-- A self-test ends (BST). -/
def slices : List Part := [.fld F.BST_INT_CAUSE_DONE, .fld F.BST_RESULT_RESULT, .fld F.BST_STAT_BUSY, .fld H.BST_TODO, .fld H.ENG_IMEM]
/-- Safe actions in force (R20). -/
def safeActions : List Part := [.fld F.PWR_SAFE_STAT_PEER_HELD, .fld F.PWR_SAFE_STAT_RX_SAFE, .fld F.PWR_SAFE_STAT_TX_MUTED,
  .fld F.PWR_SAFE_STAT_UP_SAFE]
/-- What decoding counts before the snapshot. -/
def decoded : List Part := [.fld H.FEC_LIVE_CBITS, .fld H.FEC_LIVE_CW, .fld H.FEC_LIVE_HIST, .fld H.FEC_LIVE_INVAL, .fld H.FEC_LIVE_LDPC,
  .fld H.FEC_LIVE_ROWS]
/-- A flow command (FLW). -/
def flowCommand : List Part := [.fld F.FLW_CMD_FLOW, .fld F.FLW_CMD_OP, .fld F.FLW_INT_CAUSE_CMD_ERR, .fld F.FLW_STAGE_DATA,
  .fld H.FLW_OP, .fld H.FLW_OP_FLOW]
/-- A coefficient fade of a filter channel. -/
def fade : List Part := [.fld F.FLT_CH_STAT_BANK, .fld F.FLT_FIR_C, .fld F.FLT_INT_CAUSE_FADE_DONE, .fld H.FLT_FADE_I]
/-- Multi-frame alignment and trail trace. -/
def alignment : List Part := [.fld F.FRM_ALIGN_STAT_MFN_VALID, .fld H.FRM_SSM_RUN, .fld H.FRM_TTI_GOT, .fld H.FRM_TTI_RUN]
/-- The holdover model (SYN). -/
def holdoverModel : List Part := [.fld F.SYN_HO_FREQ_F, .fld F.SYN_HO_STAT_AGE_S, .fld F.SYN_HO_STAT_SAMPLES, .fld F.SYN_STAT_MODEL_VALID]

/-! What each command may write. -/

def wPcieUnsupportedRequest : List Part := [.msix]
def wSysLock : List Part := of [.msix, .qdr, .fld F.PMC_INT_CAUSE_SMP_DROP, .fld F.SYS_LOCK_LOCK] [sampled, counted, accessed]
def wBridgePrefilled : List Part := of [.msix, .fld F.LRX_SC_STAT_LOCK, .fld H.LRX_LLR_HOLD, .fld H.LRX_QUAD, .fld H.LRX_TAPS, .fld
  H.LRX_WIN_LOCK, .fld H.PWR_ARMED, .fld H.PWR_PREFILLED] [tracking]
def wBridgeUnderflow : List Part := of [.brx, .msix, .qdr, .fld F.BRX_CNT_COUNT, .fld F.BRX_STAT_CH, .fld F.CRY_LOCK_STAT_LOCK_BROKEN,
  .fld F.CRY_LOCK_STAT_OWNER, .fld F.LTX_STAT_MUTE_SRC, .fld F.MBX_LOCK_STAT_OWNER, .fld F.PEER_INT_CAUSE_LINK_CHG, .fld F.PEER_STAT_LINK,
  .fld F.PMC_INT_CAUSE_SMP_DROP, .fld F.PWR_INT_CAUSE_SLACK, .fld F.PWR_SLACK_LVL_MIN, .fld F.PWR_SLACK_LVL_NOW, .fld
  F.PWR_SLACK_LVL_UNDERRUN, .fld F.PWR_SLACK_STAT_HARD, .fld H.LTX_OUTPUT, .fld H.PWR_LOW, .fld H.PWR_RELEASING, .fld H.SYN_QL_SENT]
  [sampled, counted, synShown, peerMute, pairState, keyStaging, resetSeen, laser, resetMarks, rings, safeActions]
def wBridgeOverflow : List Part := of [.brx, .msix, .qdr, .fld F.BRX_CNT_COUNT, .fld F.BRX_STAT_CH, .fld F.CRY_LOCK_STAT_LOCK_BROKEN, .fld
  F.CRY_LOCK_STAT_OWNER, .fld F.LTX_STAT_MUTE_SRC, .fld F.MBX_LOCK_STAT_OWNER, .fld F.PEER_INT_CAUSE_LINK_CHG, .fld F.PEER_STAT_LINK, .fld
  F.PMC_INT_CAUSE_SMP_DROP, .fld F.PWR_INT_CAUSE_SLACK, .fld F.PWR_SLACK_LVL_MIN, .fld F.PWR_SLACK_LVL_NOW, .fld F.PWR_SLACK_LVL_UNDERRUN,
  .fld F.PWR_SLACK_STAT_HARD, .fld H.LTX_OUTPUT, .fld H.PWR_LOW, .fld H.PWR_RELEASING, .fld H.SYN_QL_SENT] [sampled, counted, synShown,
  peerMute, pairState, keyStaging, resetSeen, laser, resetMarks, rings, safeActions]
def wSlackLow : List Part := of [.msix, .qdr, .fld F.PMC_INT_CAUSE_SMP_DROP, .fld F.PWR_INT_CAUSE_SLACK, .fld F.PWR_SAFE_STAT_AVS_CEILING,
  .fld F.PWR_SLACK_LVL_MIN, .fld F.PWR_SLACK_LVL_NOW, .fld F.PWR_SLACK_STAT_LOW, .fld H.PWR_LOW] [sampled, counted, avsRequest]
def wHardMarginCrossing : List Part := of [.brx, .msix, .qdr, .fld F.BRX_CNT_COUNT, .fld F.BRX_STAT_CH, .fld F.CRY_LOCK_STAT_LOCK_BROKEN,
  .fld F.CRY_LOCK_STAT_OWNER, .fld F.LTX_STAT_MUTE_SRC, .fld F.MBX_LOCK_STAT_OWNER, .fld F.PEER_INT_CAUSE_LINK_CHG, .fld F.PEER_STAT_LINK,
  .fld F.PMC_INT_CAUSE_SMP_DROP, .fld F.PWR_INT_CAUSE_SLACK, .fld F.PWR_SLACK_LVL_HARD_CNT, .fld F.PWR_SLACK_LVL_MIN, .fld
  F.PWR_SLACK_LVL_NOW, .fld F.PWR_SLACK_STAT_HARD, .fld H.LTX_OUTPUT, .fld H.PWR_LOW, .fld H.PWR_RELEASING, .fld H.SYN_QL_SENT] [sampled,
  counted, synShown, peerMute, pairState, keyStaging, resetSeen, laser, resetMarks, rings, safeActions]
def wAvsDecreaseRequest : List Part := of [.msix, .qdr, .fld F.PMC_INT_CAUSE_SMP_DROP, .fld F.PWR_SLACK_LVL_MIN, .fld F.PWR_SLACK_LVL_NOW,
  .fld H.PWR_LOW] [sampled, counted, avsRequest]
def wAutoRelease : List Part := [.msix, .fld F.PWR_SLACK_LVL_MIN, .fld F.PWR_SLACK_LVL_NOW, .fld H.PWR_LOW, .fld H.PWR_RELEASING]
def wRelease : List Part := of [.msix, .qdr, .fld F.PMC_INT_CAUSE_SMP_DROP, .fld F.PWR_INT_CAUSE_SLACK, .fld
  F.PWR_SAFE_STAT_RELEASE_REFUSED, .fld F.PWR_SLACK_LVL_MIN, .fld F.PWR_SLACK_LVL_NOW, .fld H.PWR_LOW, .fld H.PWR_RELEASING] [sampled,
  counted, accessed]
def wActionReleaseEffect : List Part := of [.msix, .fld F.LTX_STAT_MUTE_SRC, .fld H.LTX_OUTPUT, .fld H.PWR_RELEASING] [safeActions]
def wSlackCfgWrite : List Part := of [.msix, .qdr, .fld F.PMC_INT_CAUSE_SMP_DROP, .fld F.PWR_INT_CAUSE_SLACK, .fld
  F.PWR_SAFE_STAT_CFG_ERR, .fld F.PWR_SLACK_CFG_HARD, .fld F.PWR_SLACK_CFG_SOFT, .fld H.PWR_LOW] [sampled, counted, accessed]
def wLtxEnable : List Part := of [.msix, .qdr, .fld F.CAL_INT_CAUSE_ABORTED, .fld F.CAL_STAT_STATE, .fld F.CVT_DAC_STAT_MAP_ERR, .fld
  F.HKA_STAT_STATE, .fld F.LTX_CTRL_EN, .fld F.LTX_INT_CAUSE_CFG_ERR, .fld F.LTX_STAT_CFG_STEP, .fld F.PMC_INT_CAUSE_SMP_DROP, .fld
  F.PWR_VMIN_VMIN_MV, .fld H.BST_WAITING, .fld H.CAL_RETRY, .fld H.FEC_TX_POS, .fld H.FRM_CF_DUE, .fld H.HKA_TICKS, .fld H.LTX_OFS_NOW,
  .fld H.PWR_HOLD_TX] [sampled, counted, accessed, converter, avsRequest, vminRequest]
def wLtxStart : List Part := [.msix, .fld F.LTX_STAT_ACTIVE, .fld F.LTX_STAT_MUTE_SRC, .fld H.LTX_OUTPUT]
def wLtxDisable : List Part := of [.msix, .qdr, .fld F.CAL_INT_CAUSE_ABORTED, .fld F.CAL_STAT_STATE, .fld F.HKA_STAT_STATE, .fld
  F.LTX_CTRL_EN, .fld F.LTX_INT_CAUSE_LOAD_CANCELLED, .fld F.LTX_STAT_ACTIVE, .fld F.LTX_STAT_ANNOUNCED, .fld F.LTX_STAT_MUTE_SRC, .fld
  F.LTX_STAT_SHADOW_READY, .fld F.PMC_INT_CAUSE_SMP_DROP, .fld F.PWR_VMIN_VMIN_MV, .fld F.SCM_CHG_STAT_DS_STATE, .fld H.BST_WAITING, .fld
  H.CAL_RETRY, .fld H.HKA_TICKS, .fld H.LTX_OUTPUT, .fld H.LTX_SWAP_DUE, .fld H.PWR_HOLD_TX] [sampled, counted, accessed, converter,
  avsRequest, vminRequest]
def wHostMute : List Part := of [.msix, .qdr, .fld F.CAL_INT_CAUSE_ABORTED, .fld F.CAL_STAT_STATE, .fld F.HKA_STAT_STATE, .fld
  F.LTX_STAT_MUTE_SRC, .fld F.PMC_INT_CAUSE_SMP_DROP, .fld H.BST_WAITING, .fld H.CAL_RETRY, .fld H.HKA_TICKS, .fld H.LTX_OUTPUT] [sampled,
  counted, accessed, converter, peerMute]
def wMuteResume : List Part := [.msix, .fld H.LTX_OUTPUT]
def wLoadSwap : List Part := of [.brx, .msix, .fld F.BRX_CNT_COUNT, .fld F.BRX_INT_CAUSE_CH_OFF, .fld F.BRX_STAT_CH, .fld
  F.LRX_INT_CAUSE_LOAD_SWAP, .fld F.LRX_SC_STAT_LOCK, .fld F.LRX_STAT_ANNOUNCED, .fld F.LRX_STAT_BANK, .fld F.LRX_STAT_SHADOW_READY, .fld
  F.LTX_INT_CAUSE_LOAD_SWAP, .fld F.LTX_STAT_ANNOUNCED, .fld F.LTX_STAT_BANK, .fld F.LTX_STAT_SHADOW_READY, .fld F.SCM_CHG_STAT_DS_STATE,
  .fld F.SCM_CHG_STAT_DS_VER, .fld F.SCM_CHG_STAT_US_STATE, .fld F.SCM_CHG_STAT_US_VER, .fld F.SCM_INT_CAUSE_SWAP, .fld
  F.SCM_SC_FLAG_OVER, .fld F.SCM_SC_FLAG_US_OVER, .fld H.FEC_RX_ON, .fld H.FEC_RX_POS, .fld H.FEC_RX_WAIT, .fld H.FEC_SL_ON, .fld
  H.FEC_SL_WAIT, .fld H.FEC_TX_POS, .fld H.FRM_CF_DUE, .fld H.LRX_ACTIVE, .fld H.LRX_ACT_VER, .fld H.LRX_SET_OWNER, .fld H.LRX_SHADOW,
  .fld H.LRX_SHADOW_VER, .fld H.LRX_SWAP_DUE, .fld H.LRX_TAPS, .fld H.LRX_WIN_LOCK, .fld H.LSR_OWN_CMD, .fld H.LSR_SET, .fld
  H.LSR_TUNE_CMD, .fld H.LSR_TUNE_PEND, .fld H.LTX_ACTIVE, .fld H.LTX_ACT_VER, .fld H.LTX_SHADOW, .fld H.LTX_SHADOW_VER, .fld
  H.LTX_SWAP_DUE, .fld H.SCM_ACKED, .fld H.SCM_ADDRESSED, .fld H.SCM_SWAPPED, .fld H.SCM_SWAP_MF] [rings, serial]
def wFreqOfsWrite : List Part := of [.msix, .qdr, .fld F.CAL_INT_CAUSE_ABORTED, .fld F.CAL_STAT_STATE, .fld F.HKA_STAT_STATE, .fld
  F.LTX_FREQ_OFS_OFS, .fld F.LTX_INT_CAUSE_CFG_ERR, .fld F.PMC_INT_CAUSE_SMP_DROP, .fld H.BST_WAITING, .fld H.CAL_RETRY, .fld H.HKA_TICKS,
  .fld H.LTX_OFS_PENDING] [sampled, counted, accessed, converter]
def wFreqOfsApply : List Part := [.msix, .fld H.LTX_OFS_NOW, .fld H.LTX_OFS_PENDING]
def wCdpreGo : List Part := of [.msix, .qdr, .fld F.CAL_INT_CAUSE_ABORTED, .fld F.CAL_STAT_STATE, .fld F.HKA_STAT_STATE, .fld
  F.LTX_INT_CAUSE_CD_RANGE, .fld F.LTX_STAT_CD_FADING, .fld F.PMC_INT_CAUSE_SMP_DROP, .fld F.SYS_INT_CAUSE_ROLE_LIMIT, .fld H.BST_WAITING,
  .fld H.CAL_RETRY, .fld H.HKA_TICKS, .fld H.LTX_D_FADE, .fld H.LTX_D_HELD, .fld H.LTX_FADE_LEN, .fld H.LTX_GO_HELD] [sampled, counted,
  accessed, converter]
def wCdpreFadeDone : List Part := [.msix, .fld F.LTX_INT_CAUSE_CD_DONE, .fld F.LTX_STAT_CD_FADING, .fld H.LTX_D_FADE, .fld H.LTX_D_NOW,
  .fld H.LTX_FADE_LEN, .fld H.LTX_GO_HELD]
def wSkewWrite : List Part := of [.msix, .qdr, .fld F.CAL_INT_CAUSE_ABORTED, .fld F.CAL_STAT_STATE, .fld F.HKA_STAT_STATE, .fld
  F.LTX_SKEW_SKEW, .fld F.LTX_STAT_SKEW_SLEW, .fld F.PMC_INT_CAUSE_SMP_DROP, .fld H.BST_WAITING, .fld H.CAL_RETRY, .fld H.HKA_TICKS]
  [sampled, counted, accessed, converter]
def wSkewSlewDone : List Part := [.msix, .fld F.LTX_STAT_SKEW_SLEW, .fld H.LTX_SKEW_NOW]
def wPeqSwap : List Part := of [.msix, .qdr, .fld F.CAL_INT_CAUSE_ABORTED, .fld F.CAL_STAT_STATE, .fld F.HKA_STAT_STATE, .fld
  F.LTX_STAT_PEQ_PENDING, .fld F.PMC_INT_CAUSE_SMP_DROP, .fld H.BST_WAITING, .fld H.CAL_RETRY, .fld H.HKA_TICKS] [sampled, counted,
  accessed, converter]
def wPeqSwapApply : List Part := [.msix, .fld F.LTX_PEQ_TAP, .fld F.LTX_STAT_PEQ_PENDING, .fld H.LTX_PEQ_ACTIVE]
def wPdSwap : List Part := of [.msix, .qdr, .fld F.CAL_INT_CAUSE_ABORTED, .fld F.CAL_STAT_STATE, .fld F.HKA_STAT_STATE, .fld
  F.LTX_STAT_PD_PENDING, .fld F.PMC_INT_CAUSE_SMP_DROP, .fld H.BST_WAITING, .fld H.CAL_RETRY, .fld H.HKA_TICKS] [sampled, counted,
  accessed, converter]
def wPdSwapApply : List Part := [.msix, .fld F.LTX_PD_LUT_Y, .fld F.LTX_STAT_PD_PENDING, .fld H.LTX_PD_ACTIVE]
def wLrxEnable : List Part := of [.msix, .qdr, .arr H.FEC_RX_ON, .arr H.FEC_RX_POS, .arr H.FEC_RX_WAIT, .arr H.FEC_SL_ON, .arr
  H.FEC_SL_POS, .arr H.FEC_SL_WAIT, .fld F.CAL_INT_CAUSE_ABORTED, .fld F.CAL_STAT_STATE, .fld F.CVT_ADC_STAT_MAP_ERR, .fld
  F.HKA_STAT_STATE, .fld F.LRX_CTRL_EN, .fld F.LRX_INT_CAUSE_CFG_ERR, .fld F.LRX_SC_STAT_LOCK, .fld F.LRX_STAT_CFG_STEP, .fld
  F.PMC_INT_CAUSE_SMP_DROP, .fld F.PWR_VMIN_VMIN_MV, .fld H.BST_WAITING, .fld H.CAL_RETRY, .fld H.HKA_TICKS, .fld H.LRX_D_NOW, .fld
  H.LRX_LLR_HOLD, .fld H.LRX_QUAD, .fld H.LRX_TAPS, .fld H.LRX_WIN_LOCK, .fld H.LSR_OWN_CMD, .fld H.LSR_SET, .fld H.LSR_TUNE_CMD, .fld
  H.LSR_TUNE_PEND, .fld H.PWR_HOLD_RX] [sampled, counted, accessed, converter, avsRequest, tracking, serial, vminRequest]
def wLrxDisable : List Part := of [.msix, .qdr, .fld F.CAL_INT_CAUSE_ABORTED, .fld F.CAL_STAT_STATE, .fld F.HKA_STAT_STATE, .fld
  F.LRX_CTRL_EN, .fld F.LRX_INT_CAUSE_LOAD_CANCELLED, .fld F.LRX_INT_CAUSE_LOS_CHG, .fld F.LRX_SC_STAT_LOCK, .fld F.LRX_STAT_ACQ_RETRY,
  .fld F.LRX_STAT_ANNOUNCED, .fld F.LRX_STAT_CD_ARMED, .fld F.LRX_STAT_CD_FADING, .fld F.LRX_STAT_CD_HELD, .fld F.LRX_STAT_LOS, .fld
  F.LRX_STAT_SHADOW_READY, .fld F.PMC_INT_CAUSE_SMP_DROP, .fld F.PWR_VMIN_VMIN_MV, .fld F.SCM_CHG_STAT_US_STATE, .fld H.BST_WAITING, .fld
  H.CAL_RETRY, .fld H.HKA_TICKS, .fld H.LRX_LLR_HOLD, .fld H.LRX_SWAP_DUE, .fld H.LRX_WIN_LOCK, .fld H.PWR_HOLD_RX] [sampled, counted,
  accessed, converter, avsRequest, tracking, vminRequest]
def wLosSet : List Part := of [.msix, .fld F.LRX_INT_CAUSE_LOS_CHG, .fld F.LRX_SC_STAT_LOCK, .fld F.LRX_STAT_LOS, .fld H.FRM_LIVE_F, .fld
  H.FRM_LIVE_SC, .fld H.FRM_SEC_CLI, .fld H.FRM_SEC_SC, .fld H.FRM_SEEN_FLOW, .fld H.LRX_LLR_HOLD, .fld H.LRX_QUAD, .fld H.LRX_TAPS, .fld
  H.LRX_WIN_LOCK] [noted, tracking]
def wLosClear : List Part := of [.msix, .fld F.LRX_INT_CAUSE_LOS_CHG, .fld F.LRX_STAT_CD_ARMED, .fld F.LRX_STAT_CD_FADING, .fld
  F.LRX_STAT_LOS, .fld H.FRM_LIVE_F, .fld H.FRM_LIVE_SC, .fld H.FRM_SEC_CLI, .fld H.FRM_SEC_SC, .fld H.FRM_SEEN_FLOW, .fld H.LRX_D_FADE,
  .fld H.LRX_FADE_LEN, .fld H.LRX_LLR_HOLD] [noted]
def wLosHoldExpiry : List Part := of [.msix, .fld F.LRX_SC_STAT_LOCK, .fld H.FRM_LIVE_F, .fld H.FRM_LIVE_SC, .fld H.FRM_SEC_CLI, .fld
  H.FRM_SEC_SC, .fld H.FRM_SEEN_FLOW, .fld H.LRX_LLR_HOLD, .fld H.LRX_QUAD, .fld H.LRX_TAPS, .fld H.LRX_WIN_LOCK] [noted, tracking]
def wCdGo : List Part := of [.msix, .qdr, .fld F.CAL_INT_CAUSE_ABORTED, .fld F.CAL_STAT_STATE, .fld F.HKA_STAT_STATE, .fld
  F.LRX_INT_CAUSE_CD_RANGE, .fld F.LRX_STAT_CD_ARMED, .fld F.LRX_STAT_CD_FADING, .fld F.LRX_STAT_CD_HELD, .fld F.PMC_INT_CAUSE_SMP_DROP,
  .fld H.BST_WAITING, .fld H.CAL_RETRY, .fld H.HKA_TICKS, .fld H.LRX_D_FADE, .fld H.LRX_D_HELD, .fld H.LRX_FADE_LEN] [sampled, counted,
  accessed, converter]
def wCdArm : List Part := of [.msix, .qdr, .fld F.CAL_INT_CAUSE_ABORTED, .fld F.CAL_STAT_STATE, .fld F.HKA_STAT_STATE, .fld
  F.LRX_INT_CAUSE_CD_RANGE, .fld F.LRX_INT_CAUSE_CFG_ERR, .fld F.LRX_STAT_CD_ARMED, .fld F.PMC_INT_CAUSE_SMP_DROP, .fld H.BST_WAITING,
  .fld H.CAL_RETRY, .fld H.HKA_TICKS, .fld H.LRX_D_ARMED] [sampled, counted, accessed, converter]
def wCdDisarm : List Part := of [.msix, .qdr, .fld F.CAL_INT_CAUSE_ABORTED, .fld F.CAL_STAT_STATE, .fld F.HKA_STAT_STATE, .fld
  F.LRX_STAT_CD_ARMED, .fld F.PMC_INT_CAUSE_SMP_DROP, .fld H.BST_WAITING, .fld H.CAL_RETRY, .fld H.HKA_TICKS] [sampled, counted, accessed,
  converter]
def wCdFadeDone : List Part := [.msix, .fld F.LRX_INT_CAUSE_CD_DONE, .fld F.LRX_STAT_CD_FADING, .fld F.LRX_STAT_CD_HELD, .fld
  H.LRX_D_FADE, .fld H.LRX_D_NOW, .fld H.LRX_FADE_LEN]
def wCdEstimateDone : List Part := of [.msix, .fld F.LRX_CD_D, .fld F.LRX_CD_EST_EST, .fld F.LRX_CD_EST_VALID, .fld H.LRX_D_NOW]
  [tracking]
def wCoarseLock : List Part := of [.msix, .fld F.LRX_SC_STAT_LOCK, .fld H.LRX_ROT, .fld H.LRX_WIN_LOCK] [tracking]
def wAcqTmo : List Part := of [.msix, .fld F.LRX_INT_CAUSE_ACQ_TMO, .fld F.LRX_SC_STAT_LOCK, .fld F.LRX_STAT_ACQ_RETRY, .fld
  H.LRX_LLR_HOLD, .fld H.LRX_QUAD, .fld H.LRX_TAPS, .fld H.LRX_WIN_LOCK] [tracking]
def wScLock : List Part := of [.msix, .fld F.LRX_SC_STAT_LOCK, .fld H.FEC_PART, .fld H.LRX_TAPS] [tracking]
def wScUnlock : List Part := [.msix, .fld F.LRX_SC_STAT_LOCK, .fld H.LRX_WIN_LOCK]
def wTrackLost : List Part := of [.msix, .fld F.LRX_SC_STAT_LOCK, .fld H.LRX_WIN_LOCK] [tracking]
def wSingular : List Part := [.msix, .fld F.LRX_INT_CAUSE_SINGULAR, .fld F.LRX_SC_STAT_LOCK, .fld F.LRX_SING_CNT_COUNT, .fld H.LRX_TAPS,
  .fld H.LRX_WIN_LOCK]
def wCycleSlip : List Part := [.msix, .fld F.LRX_CSLIP_CNT_COUNT, .fld F.LRX_INT_CAUSE_CYCLE_SLIP, .fld F.LRX_SC_STAT_CSLIP, .fld
  H.LRX_QUAD]
def wLofbUpdate : List Part := of [.msix, .fld F.LRX_CFO_TOTAL, .fld F.LRX_INT_CAUSE_LOFB_LIMIT, .fld F.LRX_LOFB_STAT_FINE, .fld
  F.LRX_STAT_LOFB_LIMIT, .fld F.LRX_STAT_LOFB_PENDING, .fld H.LRX_FINE, .fld H.LRX_LOFB_OFFLOAD, .fld H.LRX_ROT, .fld H.LSR_OWN_CMD, .fld
  H.LSR_OWN_DONE, .fld H.LSR_TUNE_PEND] [serial, fineTune]
def wLofbOffloadDone : List Part := of [.msix, .fld F.LRX_INT_CAUSE_LOFB_LIMIT, .fld F.LRX_LOFB_STAT_FINE, .fld F.LRX_LOFB_STAT_SER, .fld
  F.LRX_STAT_LOFB_LIMIT, .fld F.LRX_STAT_LOFB_PENDING, .fld H.LRX_FINE, .fld H.LSR_OWN_DONE] [fineTune]
def wLofbErr : List Part := [.msix, .fld F.LRX_INT_CAUSE_LOFB_ERR, .fld H.LRX_LOFB_STOPPED]
def wRestart : List Part := of [.msix, .qdr, .fld F.CAL_INT_CAUSE_ABORTED, .fld F.CAL_STAT_STATE, .fld F.HKA_STAT_STATE, .fld
  F.LRX_SC_STAT_LOCK, .fld F.PMC_INT_CAUSE_SMP_DROP, .fld H.BST_WAITING, .fld H.CAL_RETRY, .fld H.HKA_TICKS, .fld H.LRX_LLR_HOLD, .fld
  H.LRX_QUAD, .fld H.LRX_TAPS, .fld H.LRX_WIN_LOCK] [sampled, counted, accessed, converter, tracking]
def wSnrLatch : List Part := of [.msix, .vlk, .fld F.LRX_CD_RESID_RESID, .fld F.LRX_CFO_TOTAL, .fld F.LRX_IMP_DGD, .fld F.LRX_IMP_PDL,
  .fld F.LRX_INT_CAUSE_SNR_LATCH, .fld F.LRX_SNR_LEAF_SNR, .fld F.LRX_SNR_LEAF_SNR_X, .fld F.LRX_SNR_LEAF_SNR_Y, .fld
  F.LRX_SNR_LEAF_VALID, .fld F.LRX_SNR_SNR, .fld F.LRX_SNR_SNR_X, .fld F.LRX_SNR_SNR_Y, .fld F.LRX_SNR_VALID, .fld
  F.LRX_STAT_SHADOW_READY, .fld F.LTX_STAT_SHADOW_READY, .fld F.SCM_CHG_STAT_DS_STATE, .fld F.SCM_CHG_STAT_US_STATE, .fld
  F.SCM_DS_NEXT_ENTRY, .fld F.SCM_INT_CAUSE_BUSY, .fld F.SCM_INT_CAUSE_CHG_FAIL, .fld F.SCM_INT_CAUSE_SHORT, .fld F.SCM_NAK_MAP_LEAF, .fld
  F.SCM_SC_FLAG_OVER, .fld F.SCM_SC_FLAG_SHORT, .fld F.SCM_SC_FLAG_STALE, .fld F.SCM_SC_FLAG_US_OVER, .fld F.SCM_SC_FLAG_US_SHORT, .fld
  F.SCM_SC_FLAG_US_STALE, .fld F.SCM_US_NEXT_ENTRY, .fld F.SYS_INT_CAUSE_ROLE_LIMIT, .fld F.VLK_INT_CAUSE_GROUP_ERR, .fld H.LRX_SHADOW,
  .fld H.LRX_SHADOW_VER, .fld H.LRX_TAPS, .fld H.LRX_WIN_LOCK, .fld H.LTX_SHADOW, .fld H.LTX_SHADOW_VER, .fld H.SCM_ACKED, .fld
  H.SCM_ADDRESSED, .fld H.SCM_LAST_VER, .fld H.SCM_LEAF_MF, .fld H.SCM_SNR_MF, .fld H.SCM_START_MF, .fld H.VLK_SEQ] [loadChecks]
def wDmErr : List Part := [.msix, .fld F.LRX_DM_ERR_CNT_COUNT, .fld F.LRX_INT_CAUSE_DM_ERR, .fld H.FEC_MARK]
def wTapSetSwitch : List Part := [.msix, .fld F.LRX_SC_STAT_LOCK, .fld H.LRX_SET_LOCK, .fld H.LRX_SET_OWNER, .fld H.LRX_SLOT_LEAF, .fld
  H.LRX_TAPS, .fld H.LRX_TAP_SET]
def wCommitDs : List Part := of [.msix, .qdr, .vlk, .fld F.LRX_STAT_SHADOW_READY, .fld F.LTX_STAT_SHADOW_READY, .fld
  F.PMC_INT_CAUSE_SMP_DROP, .fld F.SCM_CHG_STAT_DS_STATE, .fld F.SCM_CHG_STAT_US_STATE, .fld F.SCM_INT_CAUSE_BUSY, .fld
  F.SCM_INT_CAUSE_CHG_FAIL, .fld F.SCM_NAK_MAP_LEAF, .fld F.SYS_INT_CAUSE_ROLE_LIMIT, .fld F.VLK_INT_CAUSE_GROUP_ERR, .fld H.LRX_SHADOW,
  .fld H.LRX_SHADOW_VER, .fld H.LTX_SHADOW, .fld H.LTX_SHADOW_VER, .fld H.SCM_ACKED, .fld H.SCM_ADDRESSED, .fld H.SCM_LAST_VER, .fld
  H.SCM_START_MF, .fld H.VLK_SEQ] [sampled, counted, accessed, loadChecks]
def wCommitUs : List Part := of [.msix, .qdr, .vlk, .fld F.LRX_STAT_SHADOW_READY, .fld F.LTX_STAT_SHADOW_READY, .fld
  F.PMC_INT_CAUSE_SMP_DROP, .fld F.SCM_CHG_STAT_DS_STATE, .fld F.SCM_CHG_STAT_US_STATE, .fld F.SCM_INT_CAUSE_BUSY, .fld
  F.SCM_INT_CAUSE_CHG_FAIL, .fld F.SCM_NAK_MAP_LEAF, .fld F.SYS_INT_CAUSE_ROLE_LIMIT, .fld F.VLK_INT_CAUSE_GROUP_ERR, .fld H.LRX_SHADOW,
  .fld H.LRX_SHADOW_VER, .fld H.LTX_SHADOW, .fld H.LTX_SHADOW_VER, .fld H.SCM_ACKED, .fld H.SCM_ADDRESSED, .fld H.SCM_LAST_VER, .fld
  H.SCM_START_MF, .fld H.VLK_SEQ] [sampled, counted, accessed, loadChecks]
def wAbortDs : List Part := of [.msix, .qdr, .vlk, .fld F.PMC_INT_CAUSE_SMP_DROP, .fld F.SCM_CHG_STAT_DS_STATE, .fld
  F.SCM_CHG_STAT_US_STATE, .fld F.SCM_INT_CAUSE_BUSY, .fld F.SYS_INT_CAUSE_ROLE_LIMIT, .fld H.SCM_ACKED, .fld H.SCM_ADDRESSED, .fld
  H.VLK_SEQ] [sampled, counted, accessed]
def wAbortUs : List Part := of [.msix, .qdr, .vlk, .fld F.PMC_INT_CAUSE_SMP_DROP, .fld F.SCM_CHG_STAT_DS_STATE, .fld
  F.SCM_CHG_STAT_US_STATE, .fld F.SCM_INT_CAUSE_BUSY, .fld F.SYS_INT_CAUSE_ROLE_LIMIT, .fld H.SCM_ACKED, .fld H.SCM_ADDRESSED, .fld
  H.VLK_SEQ] [sampled, counted, accessed]
def wLoadAnnounce : List Part := [.msix, .fld F.LRX_STAT_ANNOUNCED, .fld F.LTX_STAT_ANNOUNCED, .fld F.SCM_CHG_STAT_DS_STATE, .fld
  F.SCM_CHG_STAT_US_STATE, .fld H.LRX_SWAP_DUE, .fld H.LRX_SWAP_MF, .fld H.LTX_SWAP_DUE, .fld H.LTX_SWAP_MF, .fld H.SCM_M]
def wLoadAckTmo : List Part := [.msix, .vlk, .fld F.SCM_CHG_STAT_DS_STATE, .fld F.SCM_CHG_STAT_US_STATE, .fld F.SCM_INT_CAUSE_CHG_FAIL,
  .fld F.SCM_NAK_MAP_LEAF, .fld H.SCM_ACKED, .fld H.SCM_ADDRESSED, .fld H.VLK_SEQ]
def wFecCfgWrite : List Part := of [.msix, .qdr, .arr H.FEC_RX_ON, .arr H.FEC_RX_POS, .arr H.FEC_RX_WAIT, .arr H.FEC_SL_ON, .arr
  H.FEC_SL_POS, .arr H.FEC_SL_WAIT, .fld F.FEC_CFG_ET_EN, .fld F.FEC_CFG_ITER_MAX, .fld F.FEC_CFG_RATE_RX, .fld F.FEC_CFG_RATE_TX, .fld
  F.FEC_INT_CAUSE_CFG_ERR, .fld F.PMC_INT_CAUSE_SMP_DROP, .fld H.FEC_TX_POS, .fld H.FRM_CF_DUE] [sampled, counted, accessed]
def wCodewordDecode : List Part := of [.msix, .qdr, .fld F.PMC_INT_CAUSE_SMP_DROP, .fld H.FEC_MARK, .fld H.FEC_PART] [sampled, counted,
  decoded]
def wVlkEnable : List Part := of [.msix, .qdr, .fld F.CRY_LOCK_STAT_LOCK_BROKEN, .fld F.CRY_LOCK_STAT_OWNER, .fld F.LTX_STAT_MUTE_SRC,
  .fld F.MBX_LOCK_STAT_OWNER, .fld F.PMC_INT_CAUSE_SMP_DROP, .fld F.VLK_CTRL_EN, .fld F.VLK_INT_CAUSE_LEAF_LOST, .fld F.VLK_SELF_SILENT,
  .fld H.LTX_OUTPUT, .fld H.VLK_ATTEMPT, .fld H.VLK_LISTENING, .fld H.VLK_REG_BASE, .fld H.VLK_REG_WAIT, .fld H.VLK_S_REST, .fld
  H.VLK_UP_ON] [sampled, counted, accessed, peerMute, keyStaging, leafState, resetSeen, resetMarks]
def wVlkDisable : List Part := of [.msix, .qdr, .fld F.CRY_LOCK_STAT_LOCK_BROKEN, .fld F.CRY_LOCK_STAT_OWNER, .fld F.LTX_STAT_MUTE_SRC,
  .fld F.MBX_LOCK_STAT_OWNER, .fld F.PMC_INT_CAUSE_SMP_DROP, .fld F.VLK_CTRL_EN, .fld F.VLK_INT_CAUSE_LEAF_LOST, .fld F.VLK_SELF_SILENT,
  .fld H.LTX_OUTPUT, .fld H.VLK_ATTEMPT, .fld H.VLK_LISTENING, .fld H.VLK_REG_BASE, .fld H.VLK_REG_WAIT, .fld H.VLK_S_REST, .fld
  H.VLK_UP_ON] [sampled, counted, accessed, peerMute, keyStaging, leafState, resetSeen, resetMarks]
def wVdfReceive : List Part := of [.msix, .qdr, .vlk, .fld F.CRY_LOCK_STAT_LOCK_BROKEN, .fld F.CRY_LOCK_STAT_OWNER, .fld
  F.LTX_STAT_MUTE_SRC, .fld F.MBX_LOCK_STAT_OWNER, .fld F.PMC_INT_CAUSE_SMP_DROP, .fld F.VLK_CRC_ERR_CNT_COUNT, .fld
  F.VLK_INT_CAUSE_LEAF_LOST, .fld F.VLK_SELF_EQD_EQD, .fld F.VLK_SELF_SILENT, .fld H.LSR_OWN_CMD, .fld H.LSR_SET, .fld H.LSR_TUNE_CMD,
  .fld H.LSR_TUNE_PEND, .fld H.LTX_OUTPUT, .fld H.VLK_ATTEMPT, .fld H.VLK_EQD_DELTA, .fld H.VLK_EQD_NOW, .fld H.VLK_FEEDER_IN, .fld
  H.VLK_FEEDER_USE, .fld H.VLK_G_NAK_SENT, .fld H.VLK_G_SWAP, .fld H.VLK_G_SWAP_MF, .fld H.VLK_HEARD, .fld H.VLK_LISTENING, .fld
  H.VLK_LISTEN_READ, .fld H.VLK_NO_VDF, .fld H.VLK_OPEN_NOW, .fld H.VLK_REG_BASE, .fld H.VLK_REG_WAIT, .fld H.VLK_RX_GVER, .fld H.VLK_SEQ,
  .fld H.VLK_SWITCH_SILENT, .fld H.VLK_S_REST, .fld H.VLK_UP_ON] [sampled, counted, peerMute, keyStaging, leafState, resetSeen,
  resetMarks, serial]
def wBeaconLost : List Part := of [.msix, .qdr, .fld F.CRY_LOCK_STAT_LOCK_BROKEN, .fld F.CRY_LOCK_STAT_OWNER, .fld F.LTX_STAT_MUTE_SRC,
  .fld F.MBX_LOCK_STAT_OWNER, .fld F.PMC_INT_CAUSE_SMP_DROP, .fld F.VLK_INT_CAUSE_LEAF_LOST, .fld F.VLK_SELF_SILENT, .fld H.LTX_OUTPUT,
  .fld H.VLK_ATTEMPT, .fld H.VLK_LISTENING, .fld H.VLK_REG_BASE, .fld H.VLK_REG_WAIT, .fld H.VLK_S_REST, .fld H.VLK_UP_ON] [sampled,
  counted, peerMute, keyStaging, leafState, resetSeen, resetMarks]
def wMgmtContainer : List Part := [.msix, .fld F.VLK_CRC_ERR_CNT_COUNT]
def wTreeInfo : List Part := of [.msix, .vlk, .fld F.VLK_REG_CFG_RSC_M1, .fld F.VLK_REG_SC_SC, .fld F.VLK_US_OFS_OFS, .fld H.LSR_OWN_CMD,
  .fld H.LSR_SET, .fld H.LSR_TUNE_CMD, .fld H.LSR_TUNE_PEND, .fld H.VLK_HEARD, .fld H.VLK_SEQ, .fld H.VLK_T_BAUD, .fld H.VLK_T_EQ, .fld
  H.VLK_T_NSC_M1, .fld H.VLK_T_RATES, .fld H.VLK_T_SPACING] [serial]
def wRegReq : List Part := [.brx, .msix, .vlk, .fld F.VLK_INT_CAUSE_DUP_ID, .fld F.VLK_INT_CAUSE_REREG, .fld F.VLK_INT_CAUSE_RX_AVAIL,
  .fld F.VLK_RXSTAT_COUNT, .fld F.VLK_RX_DROP_CNT_COUNT, .fld F.VLK_STAT_DUP_REQ]
def wRegAssign : List Part := of [.msix, .qdr, .vlk, .arr H.FEC_RX_ON, .arr H.FEC_RX_POS, .arr H.FEC_RX_WAIT, .arr H.FEC_SL_ON, .arr
  H.FEC_SL_POS, .arr H.FEC_SL_WAIT, .fld F.CRY_LOCK_STAT_LOCK_BROKEN, .fld F.CRY_LOCK_STAT_OWNER, .fld F.CVT_ADC_STAT_MAP_ERR, .fld
  F.LRX_CTRL_EN, .fld F.LRX_INT_CAUSE_CFG_ERR, .fld F.LRX_INT_CAUSE_LOAD_CANCELLED, .fld F.LRX_INT_CAUSE_LOS_CHG, .fld F.LRX_RXGRP_K_HI,
  .fld F.LRX_RXGRP_K_LO, .fld F.LRX_SC_STAT_LOCK, .fld F.LRX_STAT_ACQ_RETRY, .fld F.LRX_STAT_ANNOUNCED, .fld F.LRX_STAT_CD_ARMED, .fld
  F.LRX_STAT_CD_FADING, .fld F.LRX_STAT_CD_HELD, .fld F.LRX_STAT_CFG_STEP, .fld F.LRX_STAT_LOS, .fld F.LRX_STAT_SHADOW_READY, .fld
  F.LTX_FREQ_OFS_OFS, .fld F.LTX_INT_CAUSE_CFG_ERR, .fld F.LTX_STAT_MUTE_SRC, .fld F.MBX_LOCK_STAT_OWNER, .fld F.PMC_INT_CAUSE_SMP_DROP,
  .fld F.PWR_VMIN_VMIN_MV, .fld F.SCM_CHG_STAT_US_STATE, .fld F.SYS_INT_CAUSE_ROLE_LIMIT, .fld F.VLK_INT_CAUSE_LEAF_LOST, .fld
  F.VLK_SELF_EQD_EQD, .fld F.VLK_SELF_EQD_VALID, .fld F.VLK_SELF_MEMBER, .fld F.VLK_SELF_SILENT, .fld H.LRX_D_NOW, .fld H.LRX_LLR_HOLD,
  .fld H.LRX_QUAD, .fld H.LRX_SWAP_DUE, .fld H.LRX_TAPS, .fld H.LRX_WIN_LOCK, .fld H.LSR_OWN_CMD, .fld H.LSR_SET, .fld H.LSR_TUNE_CMD,
  .fld H.LSR_TUNE_PEND, .fld H.LTX_OFS_PENDING, .fld H.LTX_OUTPUT, .fld H.PWR_HOLD_RX, .fld H.VLK_ATTEMPT, .fld H.VLK_EQD_DELTA, .fld
  H.VLK_EQD_NOW, .fld H.VLK_FEEDER_USE, .fld H.VLK_HEARD, .fld H.VLK_LISTENING, .fld H.VLK_REG_BASE, .fld H.VLK_REG_WAIT, .fld H.VLK_SEQ,
  .fld H.VLK_S_REST, .fld H.VLK_UP_ON, .fld H.VLK_UP_START] [sampled, counted, avsRequest, peerMute, keyStaging, leafState, tracking,
  resetSeen, resetMarks, serial, vminRequest]
def wRegReject : List Part := of [.msix, .qdr, .fld F.CRY_LOCK_STAT_LOCK_BROKEN, .fld F.CRY_LOCK_STAT_OWNER, .fld F.LTX_STAT_MUTE_SRC,
  .fld F.MBX_LOCK_STAT_OWNER, .fld F.PMC_INT_CAUSE_SMP_DROP, .fld F.VLK_INT_CAUSE_LEAF_LOST, .fld F.VLK_SELF_SILENT, .fld H.LTX_OUTPUT,
  .fld H.VLK_ATTEMPT, .fld H.VLK_LISTENING, .fld H.VLK_REG_BASE, .fld H.VLK_REG_WAIT, .fld H.VLK_S_REST, .fld H.VLK_UP_ON] [sampled,
  counted, peerMute, keyStaging, leafState, resetSeen, resetMarks]
def wRegConfirm : List Part := [.msix, .vlk, .fld F.VLK_LEAF_STATE, .fld F.VLK_STAT_ACTIVE_CNT, .fld H.SCM_ADDRESSED, .fld
  H.SCM_GRANT_ADDR, .fld H.VLK_REST_SET, .fld H.VLK_SEQ, .fld H.VLK_WAKE_BIT]
def wDereg : List Part := of [.msix, .qdr, .vlk, .fld F.CRY_LOCK_STAT_LOCK_BROKEN, .fld F.CRY_LOCK_STAT_OWNER, .fld F.LTX_STAT_MUTE_SRC,
  .fld F.MBX_LOCK_STAT_OWNER, .fld F.PMC_INT_CAUSE_SMP_DROP, .fld F.VLK_INT_CAUSE_LEAF_LOST, .fld F.VLK_LEAF_STATE, .fld
  F.VLK_SELF_SILENT, .fld F.VLK_STAT_ACTIVE_CNT, .fld H.LTX_OUTPUT, .fld H.SCM_ADDRESSED, .fld H.SCM_GRANT_ADDR, .fld H.VLK_ATTEMPT, .fld
  H.VLK_HEARD, .fld H.VLK_LISTENING, .fld H.VLK_REG_BASE, .fld H.VLK_REG_WAIT, .fld H.VLK_REST_SET, .fld H.VLK_SEQ, .fld H.VLK_S_REST,
  .fld H.VLK_UP_ON, .fld H.VLK_WAKE_BIT] [sampled, counted, peerMute, keyStaging, leafState, resetSeen, resetMarks]
def wRangeAdj : List Part := [.msix, .vlk, .fld H.VLK_EQD_DELTA, .fld H.VLK_HEARD, .fld H.VLK_SEQ]
def wFreqAdj : List Part := [.msix, .vlk, .fld F.LTX_FREQ_OFS_OFS, .fld F.LTX_INT_CAUSE_CFG_ERR, .fld H.LTX_OFS_PENDING, .fld H.VLK_HEARD,
  .fld H.VLK_SEQ]
def wGrantTable : List Part := [.msix, .vlk, .fld H.VLK_G_NAK_SENT, .fld H.VLK_G_SC_SHADOW, .fld H.VLK_G_SHADOW, .fld H.VLK_G_SHADOW_VER,
  .fld H.VLK_HEARD, .fld H.VLK_SEQ]
def wGrantAck : List Part := [.msix, .vlk, .fld F.SCM_GRANT_STAT_STATE, .fld F.SCM_INT_CAUSE_CHG_FAIL, .fld F.SCM_NAK_MAP_LEAF, .fld
  F.VLK_INT_CAUSE_GRANT_FAIL, .fld H.SCM_GRANT_ACKED, .fld H.SCM_GRANT_ADDR, .fld H.VLK_SEQ]
def wLoadTable : List Part := of [.msix, .vlk, .fld F.LRX_STAT_SHADOW_READY, .fld F.LTX_STAT_SHADOW_READY, .fld H.LRX_SHADOW, .fld
  H.LRX_SHADOW_VER, .fld H.LTX_SHADOW, .fld H.LTX_SHADOW_VER, .fld H.VLK_HEARD, .fld H.VLK_SEQ] [loadChecks]
def wLoadAck : List Part := [.msix, .vlk, .fld H.SCM_ACKED, .fld H.VLK_SEQ]
def wLoadNak : List Part := [.msix, .vlk, .fld F.SCM_CHG_STAT_DS_STATE, .fld F.SCM_CHG_STAT_US_STATE, .fld F.SCM_INT_CAUSE_CHG_FAIL, .fld
  F.SCM_NAK_MAP_LEAF, .fld H.SCM_ACKED, .fld H.SCM_ADDRESSED, .fld H.VLK_SEQ]
def wLoadCancel : List Part := [.msix, .vlk, .fld H.LRX_SHADOW_VER, .fld H.LTX_SHADOW_VER, .fld H.VLK_HEARD, .fld H.VLK_SEQ]
def wLoadMismatch : List Part := of [.msix, .vlk, .fld F.LRX_STAT_SHADOW_READY, .fld F.LTX_STAT_SHADOW_READY, .fld
  F.SCM_CHG_STAT_DS_STATE, .fld F.SCM_CHG_STAT_US_STATE, .fld F.SCM_INT_CAUSE_CHG_FAIL, .fld F.SCM_NAK_MAP_LEAF, .fld H.LRX_SHADOW, .fld
  H.LRX_SHADOW_VER, .fld H.LTX_SHADOW, .fld H.LTX_SHADOW_VER, .fld H.SCM_ACKED, .fld H.SCM_ADDRESSED, .fld H.SCM_LAST_VER, .fld
  H.SCM_RESEND, .fld H.SCM_START_MF, .fld H.VLK_SEQ] [loadChecks]
def wSnrReport : List Part := [.msix, .vlk, .fld F.SCM_DS_SNR_SNR, .fld F.SCM_DS_SNR_SNR_X, .fld F.SCM_DS_SNR_SNR_Y, .fld
  F.SCM_DS_SNR_VALID, .fld H.SCM_SNR_MF, .fld H.VLK_SEQ]
def wRegResp : List Part := [.msix, .vlk, .fld F.VLK_INT_CAUSE_RX_AVAIL, .fld F.VLK_RXSTAT_COUNT, .fld F.VLK_RX_DROP_CNT_COUNT, .fld
  H.VLK_HEARD, .fld H.VLK_SEQ]
def wFwOpen : List Part := [.flash, .msix, .vlk, .arr H.VLK_FW_HAVE, .fld H.VLK_FW_CRC, .fld H.VLK_FW_ON, .fld H.VLK_FW_SIZE, .fld
  H.VLK_FW_VER, .fld H.VLK_HEARD, .fld H.VLK_SEQ]
def wFwData : List Part := [.flash, .msix, .vlk, .fld H.VLK_FW_HAVE, .fld H.VLK_HEARD, .fld H.VLK_SEQ]
def wFwClose : List Part := [.msix, .vlk, .fld H.VLK_FW_ON, .fld H.VLK_HEARD, .fld H.VLK_SEQ]
def wFwStatus : List Part := [.msix, .vlk, .fld F.VLK_INT_CAUSE_RX_AVAIL, .fld F.VLK_RXSTAT_COUNT, .fld F.VLK_RX_DROP_CNT_COUNT, .fld
  H.VLK_HEARD, .fld H.VLK_SEQ]
def wRestReq : List Part := [.msix, .vlk, .fld F.VLK_INT_CAUSE_RX_AVAIL, .fld F.VLK_RXSTAT_COUNT, .fld F.VLK_RX_DROP_CNT_COUNT, .fld
  H.VLK_HEARD, .fld H.VLK_SEQ]
def wRestGrant : List Part := [.msix, .vlk, .fld H.VLK_HEARD, .fld H.VLK_SEQ, .fld H.VLK_S_CYCLE, .fld H.VLK_S_LISTEN, .fld H.VLK_S_REST,
  .fld H.VLK_S_START]
def wWakeAck : List Part := [.msix, .vlk, .fld F.VLK_LEAF_STATE, .fld F.VLK_STAT_ACTIVE_CNT, .fld H.SCM_ADDRESSED, .fld H.SCM_GRANT_ADDR,
  .fld H.VLK_REST_SET, .fld H.VLK_SEQ, .fld H.VLK_WAKE_BIT]
def wAck : List Part := of [.msix, .qdr, .vlk, .fld F.CRY_LOCK_STAT_LOCK_BROKEN, .fld F.CRY_LOCK_STAT_OWNER, .fld F.LTX_STAT_MUTE_SRC,
  .fld F.MBX_LOCK_STAT_OWNER, .fld F.PMC_INT_CAUSE_SMP_DROP, .fld F.VLK_INT_CAUSE_FREQ_FAIL, .fld F.VLK_INT_CAUSE_LEAF_LOST, .fld
  F.VLK_SELF_SILENT, .fld H.LTX_OUTPUT, .fld H.VLK_ADJ_PEND, .fld H.VLK_ATTEMPT, .fld H.VLK_LISTENING, .fld H.VLK_REG_BASE, .fld
  H.VLK_REG_WAIT, .fld H.VLK_S_REST, .fld H.VLK_UP_ON] [sampled, counted, peerMute, keyStaging, leafState, resetSeen, resetMarks]
def wUser : List Part := [.msix, .vlk, .fld F.VLK_INT_CAUSE_RX_AVAIL, .fld F.VLK_RXSTAT_COUNT, .fld F.VLK_RX_DROP_CNT_COUNT, .fld
  H.VLK_HEARD, .fld H.VLK_SEQ]
def wUnknownType : List Part := [.msix, .vlk, .fld F.VLK_RX_DROP_CNT_COUNT, .fld H.VLK_HEARD, .fld H.VLK_SEQ]
def wRetxTimeout : List Part := [.msix, .vlk, .fld F.VLK_INT_CAUSE_RETX_FAIL, .fld F.VLK_RETX_CNT_COUNT, .fld F.VLK_STAT_LAST_LEAF]
def wTxpost : List Part := of [.msix, .qdr, .vlk, .fld F.PMC_INT_CAUSE_SMP_DROP, .fld F.VLK_TXPOST_BEACON, .fld F.VLK_TXPOST_LEN, .fld
  H.VLK_LEAF_KHI, .fld H.VLK_REST_CYCLE, .fld H.VLK_REST_LISTEN, .fld H.VLK_REST_SET, .fld H.VLK_REST_START, .fld H.VLK_SEQ] [sampled,
  counted, accessed]
def wRxpop : List Part := of [.msix, .qdr, .vlk, .fld F.PMC_INT_CAUSE_SMP_DROP, .fld F.VLK_RXSTAT_COUNT] [sampled, counted, accessed]
def wUpstreamSilent : List Part := of [.msix, .fld F.LTX_STAT_MUTE_SRC, .fld F.VLK_SELF_SILENT, .fld H.LTX_OUTPUT] [peerMute]
def wUpstreamResume : List Part := of [.msix, .qdr, .vlk, .fld F.CRY_LOCK_STAT_LOCK_BROKEN, .fld F.CRY_LOCK_STAT_OWNER, .fld
  F.LTX_STAT_MUTE_SRC, .fld F.MBX_LOCK_STAT_OWNER, .fld F.PMC_INT_CAUSE_SMP_DROP, .fld F.VLK_INT_CAUSE_LEAF_LOST, .fld F.VLK_SELF_EQD_EQD,
  .fld F.VLK_SELF_SILENT, .fld H.LTX_OUTPUT, .fld H.VLK_ATTEMPT, .fld H.VLK_EQD_DELTA, .fld H.VLK_EQD_NOW, .fld H.VLK_FEEDER_USE, .fld
  H.VLK_LISTENING, .fld H.VLK_REG_BASE, .fld H.VLK_REG_WAIT, .fld H.VLK_SEQ, .fld H.VLK_SWITCH_SILENT, .fld H.VLK_S_REST, .fld
  H.VLK_UP_ON] [sampled, counted, peerMute, keyStaging, leafState, resetSeen, resetMarks]
def wRangeTrigger : List Part := [.msix, .vlk, .fld F.VLK_LEAF_EQD_EQD, .fld H.VLK_ADJ_PEND, .fld H.VLK_ARR_ERR, .fld H.VLK_SEQ]
def wFreqTrigger : List Part := [.msix, .vlk, .fld H.VLK_SEQ]
def wRegAttempt : List Part := [.msix, .fld H.VLK_ATTEMPT, .fld H.VLK_EQD_NOW, .fld H.VLK_REG_BASE, .fld H.VLK_REG_WAIT, .fld H.VLK_SEQ]
def wRegTmo : List Part := [.msix, .fld F.VLK_INT_CAUSE_REG_GIVEUP, .fld H.VLK_GIVEUP, .fld H.VLK_REG_BASE, .fld H.VLK_REG_WAIT]
def wRegGo : List Part := of [.msix, .qdr, .fld F.PMC_INT_CAUSE_SMP_DROP, .fld H.VLK_ATTEMPT, .fld H.VLK_GIVEUP, .fld H.VLK_REG_BASE]
  [sampled, counted, accessed]
def wRegOpen : List Part := of [.msix, .qdr, .fld F.PMC_INT_CAUSE_SMP_DROP, .fld F.VLK_CTRL_REG_OPEN] [sampled, counted, accessed]
def wUpstreamStart : List Part := [.msix, .vlk, .fld H.VLK_SEQ, .fld H.VLK_UP_ON]
def wGrantCommit : List Part := of [.msix, .qdr, .vlk, .fld F.PMC_INT_CAUSE_SMP_DROP, .fld F.SCM_GRANT_STAT_ERR, .fld
  F.SCM_GRANT_STAT_STATE, .fld F.SCM_INT_CAUSE_BUSY, .fld F.SYS_INT_CAUSE_ROLE_LIMIT, .fld F.VLK_INT_CAUSE_GRANT_FAIL, .fld
  H.SCM_GRANT_ACKED, .fld H.SCM_GRANT_ADDR, .fld H.SCM_GRANT_LAST, .fld H.SCM_GRANT_SNAP, .fld H.SCM_GRANT_START, .fld H.VLK_SEQ]
  [sampled, counted, accessed]
def wGrantAbort : List Part := of [.msix, .qdr, .fld F.PMC_INT_CAUSE_SMP_DROP, .fld F.SCM_GRANT_STAT_STATE, .fld F.SCM_INT_CAUSE_BUSY,
  .fld F.SYS_INT_CAUSE_ROLE_LIMIT, .fld H.SCM_GRANT_ACKED, .fld H.SCM_GRANT_ADDR] [sampled, counted, accessed]
def wGrantAnnounce : List Part := [.msix, .fld F.SCM_GRANT_STAT_STATE, .fld H.SCM_GRANT_M]
def wGrantSwap : List Part := [.msix, .fld F.SCM_GRANT_ACT_LEAF_E, .fld F.SCM_GRANT_ACT_LEAF_O, .fld F.SCM_GRANT_ACT_VAL_E, .fld
  F.SCM_GRANT_ACT_VAL_O, .fld F.SCM_GRANT_STAT_STATE, .fld F.SCM_GRANT_STAT_VER, .fld F.VLK_INT_CAUSE_GRANT_SWAP, .fld H.LRX_SET_OWNER,
  .fld H.SCM_GRANT_ACKED, .fld H.SCM_GRANT_ADDR, .fld H.VLK_G_ACT, .fld H.VLK_G_ACT_VER, .fld H.VLK_G_SC_ACT, .fld H.VLK_G_SC_SHADOW, .fld
  H.VLK_G_SHADOW, .fld H.VLK_G_SHADOW_VER, .fld H.VLK_G_SWAP]
def wGrantAckTmo : List Part := [.msix, .fld F.SCM_GRANT_STAT_STATE, .fld F.SCM_INT_CAUSE_CHG_FAIL, .fld F.SCM_NAK_MAP_LEAF, .fld
  F.VLK_INT_CAUSE_GRANT_FAIL, .fld H.SCM_GRANT_ACKED, .fld H.SCM_GRANT_ADDR]
def wLeafRestStart : List Part := of [.msix, .qdr, .fld F.CRY_LOCK_STAT_LOCK_BROKEN, .fld F.CRY_LOCK_STAT_OWNER, .fld F.LTX_STAT_MUTE_SRC,
  .fld F.MBX_LOCK_STAT_OWNER, .fld F.PMC_INT_CAUSE_SMP_DROP, .fld F.PWR_INT_CAUSE_REST_REFUSED, .fld F.PWR_REST_STAT_ERR, .fld
  F.PWR_REST_STAT_STATE, .fld F.VLK_INT_CAUSE_LEAF_LOST, .fld F.VLK_INT_CAUSE_REST_HELD, .fld F.VLK_SELF_SILENT, .fld H.HSL_OUT, .fld
  H.LTX_OUTPUT, .fld H.PWR_WAKE_PEND, .fld H.VLK_ATTEMPT, .fld H.VLK_LISTENING, .fld H.VLK_REG_BASE, .fld H.VLK_REG_WAIT, .fld
  H.VLK_RETRY, .fld H.VLK_S_REST, .fld H.VLK_UP_ON] [sampled, counted, peerMute, keyStaging, leafState, resetSeen, resetMarks]
def wRestRetry : List Part := [.msix, .fld F.LTX_STAT_MUTE_SRC, .fld F.PWR_INT_CAUSE_REST_REFUSED, .fld F.PWR_REST_STAT_ERR, .fld
  F.PWR_REST_STAT_STATE, .fld H.HSL_OUT, .fld H.LTX_OUTPUT, .fld H.PWR_WAKE_PEND, .fld H.VLK_RETRY]
def wListenWake : List Part := of [.msix, .fld F.PWR_REST_STAT_STATE, .fld H.PWR_WAKE_PEND, .fld H.VLK_HEARD, .fld H.VLK_LISTENING, .fld
  H.VLK_LISTEN_MF, .fld H.VLK_LISTEN_READ, .fld H.VLK_RETRY] [avsRequest, vminRequest]
def wListenEnd : List Part := [.msix, .fld F.LTX_STAT_MUTE_SRC, .fld F.PWR_INT_CAUSE_REST_REFUSED, .fld F.PWR_REST_STAT_ERR, .fld
  F.PWR_REST_STAT_STATE, .fld F.VLK_INT_CAUSE_REST_HELD, .fld H.HSL_OUT, .fld H.LTX_OUTPUT, .fld H.PWR_WAKE_PEND, .fld H.VLK_LISTENING,
  .fld H.VLK_RETRY]
def wLeafLostTmo : List Part := of [.msix, .qdr, .fld F.CRY_LOCK_STAT_LOCK_BROKEN, .fld F.CRY_LOCK_STAT_OWNER, .fld F.LTX_STAT_MUTE_SRC,
  .fld F.MBX_LOCK_STAT_OWNER, .fld F.PMC_INT_CAUSE_SMP_DROP, .fld F.VLK_INT_CAUSE_LEAF_LOST, .fld F.VLK_SELF_SILENT, .fld H.LTX_OUTPUT,
  .fld H.VLK_ATTEMPT, .fld H.VLK_LISTENING, .fld H.VLK_REG_BASE, .fld H.VLK_REG_WAIT, .fld H.VLK_S_REST, .fld H.VLK_UP_ON] [sampled,
  counted, peerMute, keyStaging, leafState, resetSeen, resetMarks]
def wHubRestStart : List Part := [.msix, .fld F.VLK_LEAF_STATE, .fld F.VLK_STAT_ACTIVE_CNT, .fld H.SCM_ADDRESSED, .fld H.SCM_GRANT_ADDR,
  .fld H.VLK_REST_SET, .fld H.VLK_WAKE_BIT]
def wWake : List Part := of [.msix, .qdr, .fld F.PMC_INT_CAUSE_SMP_DROP, .fld H.VLK_WAKE_BIT] [sampled, counted, accessed]
def wWakeTmo : List Part := [.msix, .fld F.VLK_INT_CAUSE_LEAF_LOST, .fld F.VLK_INT_CAUSE_WAKE_TMO, .fld F.VLK_LEAF_STATE, .fld
  F.VLK_STAT_ACTIVE_CNT, .fld F.VLK_STAT_LAST_LEAF, .fld H.SCM_ADDRESSED, .fld H.SCM_GRANT_ADDR, .fld H.VLK_REST_SET, .fld H.VLK_WAKE_BIT]
def wLeafLost : List Part := [.msix, .fld F.VLK_INT_CAUSE_LEAF_LOST, .fld F.VLK_LEAF_STATE, .fld F.VLK_STAT_ACTIVE_CNT, .fld
  F.VLK_STAT_LAST_LEAF, .fld H.SCM_ADDRESSED, .fld H.SCM_GRANT_ADDR, .fld H.VLK_REST_SET, .fld H.VLK_WAKE_BIT]
def wBrxEnable : List Part := of [.msix, .qdr, .fld F.BRX_CTRL_EN, .fld F.BRX_INT_CAUSE_CFG_ERR, .fld F.BRX_STAT_CFG_STEP, .fld
  F.BRX_STAT_CH, .fld F.PMC_INT_CAUSE_SMP_DROP, .fld F.SYS_INT_CAUSE_ROLE_LIMIT] [sampled, counted, accessed]
def wBrxDisable : List Part := of [.brx, .msix, .qdr, .fld F.BRX_CNT_COUNT, .fld F.BRX_CTRL_EN, .fld F.BRX_STAT_CH, .fld
  F.PMC_INT_CAUSE_SMP_DROP] [sampled, counted, accessed, rings]
def wPeakDetect : List Part := of [.brx, .msix, .fld F.BRX_CNT_COUNT, .fld F.BRX_DROP_CNT_COL, .fld F.BRX_INT_CAUSE_COLLISION, .fld
  F.BRX_INT_CAUSE_DROP, .fld F.BRX_INT_CAUSE_PREEMPTED, .fld F.BRX_STAT_CH, .fld H.BRX_EPISODE] [rings]
def wHeaderDecision : List Part := of [.brx, .msix, .fld F.BRX_CNT_COUNT, .fld F.BRX_STAT_CH] [rings]
def wBurstClose : List Part := of [.brx, .msix, .qdr, .fld F.BRX_CNT_COUNT, .fld F.BRX_STAT_CH, .fld F.PMC_INT_CAUSE_SMP_DROP, .fld
  H.BRX_DIE] [sampled, counted]
def wBurstRecord : List Part := of [.brx, .msix, .fld F.BRX_DROP_CNT_REC, .fld F.BRX_INT_CAUSE_DROP, .fld F.BRX_INT_CAUSE_REC_AVAIL]
  [rings]
def wGapClose : List Part := of [.brx, .msix, .fld F.BRX_CNT_COUNT, .fld F.BRX_INT_CAUSE_TRUNCATED, .fld F.BRX_STAT_CH] [rings]
def wFade : List Part := [.brx, .msix, .fld F.BRX_CNT_COUNT]
def wOrphan : List Part := [.msix, .fld F.BRX_CNT_COUNT, .fld H.BRX_EPISODE]
def wScAbsentSet : List Part := of [.msix, .fld F.BRX_SC_ABSENT_SC, .fld H.FRM_LIVE_F, .fld H.FRM_LIVE_SC, .fld H.FRM_SEC_CLI, .fld
  H.FRM_SEC_SC, .fld H.FRM_SEEN_FLOW] [noted]
def wScAbsentClear : List Part := [.msix, .fld F.BRX_SC_ABSENT_SC]
def wRecPop : List Part := of [.brx, .msix, .qdr, .fld F.PMC_INT_CAUSE_SMP_DROP] [sampled, counted, accessed, rings]
def wColPop : List Part := of [.brx, .msix, .qdr, .fld F.PMC_INT_CAUSE_SMP_DROP] [sampled, counted, accessed, rings]
def wTxEn : List Part := of [.msix, .qdr, .fld F.FRM_CTRL_TX_EN, .fld F.PMC_INT_CAUSE_SMP_DROP, .fld H.FRM_TX_RUN] [sampled, counted,
  accessed]
def wTxFrame : List Part := of [.msix, .qdr, .vlk, .fld F.CRY_LOCK_STAT_LOCK_BROKEN, .fld F.CRY_LOCK_STAT_OWNER, .fld
  F.LRX_STAT_SHADOW_READY, .fld F.LTX_STAT_ACTIVE, .fld F.LTX_STAT_MUTE_SRC, .fld F.LTX_STAT_SHADOW_READY, .fld F.MBX_LOCK_STAT_OWNER,
  .fld F.PMC_INT_CAUSE_SMP_DROP, .fld F.SCM_CHG_STAT_DS_STATE, .fld F.SCM_CHG_STAT_US_STATE, .fld F.SCM_INT_CAUSE_CHG_FAIL, .fld
  F.SCM_NAK_MAP_LEAF, .fld F.VLK_INT_CAUSE_GRANT_SWAP, .fld F.VLK_INT_CAUSE_LEAF_LOST, .fld F.VLK_SELF_EQD_EQD, .fld F.VLK_SELF_SILENT,
  .fld H.ENG_EDGE, .fld H.FEC_TX_POS, .fld H.FRM_CF_DUE, .fld H.FRM_LIVE_F, .fld H.FRM_LIVE_SC, .fld H.FRM_MGMT_DUE, .fld H.FRM_SEC_CLI,
  .fld H.FRM_SEC_SC, .fld H.FRM_SEEN_FLOW, .fld H.FRM_TX_FN, .fld H.FRM_TX_MFN, .fld H.FRM_TX_RUN, .fld H.LRX_SHADOW, .fld
  H.LRX_SHADOW_VER, .fld H.LTX_OUTPUT, .fld H.LTX_SHADOW, .fld H.LTX_SHADOW_VER, .fld H.PWR_RELEASING, .fld H.SCM_ACKED, .fld
  H.SCM_ADDRESSED, .fld H.SCM_LAST_VER, .fld H.SCM_MF, .fld H.SCM_RESEND, .fld H.SCM_START_MF, .fld H.VLK_ATTEMPT, .fld H.VLK_EQD_DELTA,
  .fld H.VLK_EQD_NOW, .fld H.VLK_FEEDER_USE, .fld H.VLK_G_ACT, .fld H.VLK_G_ACT_VER, .fld H.VLK_G_SC_ACT, .fld H.VLK_G_SC_SHADOW, .fld
  H.VLK_G_SHADOW, .fld H.VLK_G_SHADOW_VER, .fld H.VLK_G_SWAP, .fld H.VLK_LISTENING, .fld H.VLK_REG_BASE, .fld H.VLK_REG_WAIT, .fld
  H.VLK_RR, .fld H.VLK_SEQ, .fld H.VLK_SWITCH_SILENT, .fld H.VLK_S_REST, .fld H.VLK_TREE, .fld H.VLK_UP_ON] [sampled, counted, noted,
  peerMute, keyStaging, leafState, resetSeen, resetMarks, loadChecks, safeActions]
def wRxEn : List Part := of [.frm, .msix, .qdr, .arr H.FRM_BIP_AT, .fld F.FRM_ALIGN_STAT_CAND, .fld F.FRM_ALIGN_STAT_IN_MF, .fld
  F.FRM_ALIGN_STAT_STATE, .fld F.FRM_CTRL_RX_EN, .fld F.FRM_INT_CAUSE_CFG_ERR, .fld F.FRM_SSM_RX_VALID, .fld F.PMC_INT_CAUSE_SMP_DROP,
  .fld H.FRM_AMBIG, .fld H.FRM_FAW_MISS, .fld H.FRM_FN_MISS, .fld H.FRM_FN_RUN, .fld H.FRM_LIVE_F, .fld H.FRM_LIVE_SC, .fld H.FRM_SEC_CLI,
  .fld H.FRM_SEC_SC, .fld H.FRM_SEEN_FLOW] [sampled, counted, accessed, noted, alignment]
def wResearch : List Part := of [.frm, .msix, .qdr, .arr H.FRM_BIP_AT, .fld F.FRM_ALIGN_STAT_CAND, .fld F.FRM_ALIGN_STAT_IN_MF, .fld
  F.FRM_ALIGN_STAT_STATE, .fld F.FRM_INT_CAUSE_OOF, .fld F.FRM_SSM_RX_VALID, .fld F.PMC_INT_CAUSE_SMP_DROP, .fld H.FRM_AMBIG, .fld
  H.FRM_FAW_MISS, .fld H.FRM_FN_MISS, .fld H.FRM_FN_RUN, .fld H.FRM_LIVE_F, .fld H.FRM_LIVE_SC, .fld H.FRM_SEC_CLI, .fld H.FRM_SEC_SC,
  .fld H.FRM_SEEN_FLOW] [sampled, counted, accessed, noted, alignment]
def wFawHit : List Part := [.frm, .msix, .fld F.FRM_ALIGN_STAT_CAND, .fld F.FRM_CAND_OVF_COUNT, .fld F.FRM_INT_CAUSE_CAND_OVF]
def wCandidateJudge : List Part := of [.frm, .msix, .fld F.FRM_ALIGN_STAT_CAND, .fld F.FRM_ALIGN_STAT_IN_MF, .fld F.FRM_ALIGN_STAT_ROT_X,
  .fld F.FRM_ALIGN_STAT_STATE, .fld F.FRM_INT_CAUSE_IN_FRAME, .fld F.FRM_PATTERN_AMBIG_COUNT, .fld F.FRM_SSM_RX_VALID, .fld H.FRM_AMBIG,
  .fld H.FRM_FN_LAST, .fld H.FRM_FN_RUN, .fld H.FRM_LIVE_F, .fld H.FRM_LIVE_SC, .fld H.FRM_RX_FN, .fld H.FRM_SEC_CLI, .fld H.FRM_SEC_SC,
  .fld H.FRM_SEEN_FLOW] [noted]
def wFawCheck : List Part := [.frm, .msix, .fld F.FRM_ALIGN_STAT_ROT_Y, .fld H.FRM_FAW_MISS, .fld H.FRM_LIVE_SC, .fld H.FRM_RX_FN, .fld
  H.FRM_RX_MFN]
def wOof : List Part := of [.frm, .msix, .arr H.FRM_BIP_AT, .fld F.FRM_ALIGN_STAT_CAND, .fld F.FRM_ALIGN_STAT_IN_MF, .fld
  F.FRM_ALIGN_STAT_STATE, .fld F.FRM_INT_CAUSE_OOF, .fld F.FRM_SSM_RX_VALID, .fld H.FRM_AMBIG, .fld H.FRM_FAW_MISS, .fld H.FRM_FN_MISS,
  .fld H.FRM_FN_RUN, .fld H.FRM_LIVE_F, .fld H.FRM_LIVE_SC, .fld H.FRM_SEC_CLI, .fld H.FRM_SEC_SC, .fld H.FRM_SEEN_FLOW] [noted,
  alignment]
def wOverheadWord : List Part := of [.msix, .vlk, .fld F.LRX_STAT_ANNOUNCED, .fld F.LTX_STAT_ANNOUNCED, .fld F.SCM_CHG_STAT_MIS_LEAF, .fld
  F.SCM_INT_CAUSE_LATE_SWAP, .fld F.SCM_INT_CAUSE_VER_MISMATCH, .fld H.FEC_RX_ON, .fld H.FEC_RX_POS, .fld H.FEC_RX_WAIT, .fld H.FEC_SL_ON,
  .fld H.FEC_SL_POS, .fld H.FEC_SL_WAIT, .fld H.FRM_BDI_LINE, .fld H.FRM_BDI_SC, .fld H.FRM_BIP_AT, .fld H.FRM_FN_LAST, .fld
  H.FRM_FN_MISS, .fld H.FRM_FN_RUN, .fld H.FRM_LEAF_BAD, .fld H.FRM_LIVE_F, .fld H.FRM_LIVE_SC, .fld H.FRM_RX_MFN, .fld H.FRM_SEC_CLI,
  .fld H.FRM_SEC_SC, .fld H.FRM_SEEN_FLOW, .fld H.FRM_SSM_LAST, .fld H.FRM_TTI_BUF, .fld H.FRM_TTI_LAST, .fld H.FRM_UP_FN_MISS, .fld
  H.FRM_UP_FN_RUN, .fld H.FRM_UP_MFN_MISS, .fld H.LRX_SWAP_DUE, .fld H.LRX_SWAP_MF, .fld H.LTX_SWAP_DUE, .fld H.LTX_SWAP_MF, .fld
  H.VLK_RX_ACT, .fld H.VLK_SEND_MISMATCH, .fld H.VLK_SEQ] [noted, alignment]
def wOom : List Part := of [.msix, .fld F.FRM_ALIGN_STAT_IN_MF, .fld F.FRM_INT_CAUSE_OOM, .fld H.FRM_FN_RUN, .fld H.FRM_LIVE_F, .fld
  H.FRM_LIVE_SC, .fld H.FRM_SEC_CLI, .fld H.FRM_SEC_SC, .fld H.FRM_SEEN_FLOW, .fld H.FRM_UP_FN_RUN, .fld H.FRM_UP_OOM] [noted]
def wMfRestore : List Part := [.msix, .fld F.FRM_ALIGN_STAT_IN_MF, .fld H.FRM_FN_MISS, .fld H.FRM_RX_FN, .fld H.FRM_UP_FN_MISS, .fld
  H.FRM_UP_MFN_MISS, .fld H.FRM_UP_OOM]
def wUpstreamFawCheck : List Part := [.frm, .msix, .fld H.FRM_LIVE_SC, .fld H.FRM_UP_HIT, .fld H.FRM_UP_MISS]
def wUpstreamOof : List Part := of [.frm, .msix, .fld F.FRM_INT_CAUSE_OOF, .fld H.FRM_LIVE_F, .fld H.FRM_LIVE_SC, .fld H.FRM_SEC_CLI, .fld
  H.FRM_SEC_SC, .fld H.FRM_SEEN_FLOW, .fld H.FRM_UP_OOF] [noted]
def wUpstreamInFrame : List Part := [.msix, .fld F.FRM_INT_CAUSE_IN_FRAME, .fld H.FRM_UP_FN_MISS, .fld H.FRM_UP_MFN_MISS, .fld
  H.FRM_UP_OOF, .fld H.FRM_UP_OOM]
def wTenMsTick : List Part := of [.msix, .fld F.CVT_ADC_LVL_OVR, .fld F.CVT_ADC_LVL_RMS, .fld F.FRM_BOUNDARY_TIES_COUNT, .fld
  F.FRM_DEF_CLI_DEF, .fld F.FRM_DEF_FLOW_DEF, .fld F.FRM_DEF_LANE_DEF, .fld F.FRM_DEF_LINE_DEF, .fld F.FRM_DEF_SC_DEF, .fld
  F.FRM_INT_CAUSE_DEF_CHG, .fld F.LTX_CLIP_CNT_COUNT, .fld F.LTX_INT_CAUSE_CLIP, .fld F.SYN_NCO_FREQ_F, .fld F.SYN_PPS_IN_ERR_VALID, .fld
  F.SYN_PSTEP_AMOUNT, .fld F.SYN_TIME_LO_VAL, .fld H.ENG_EDGE, .fld H.FRM_CLI_ACC, .fld H.FRM_CLI_RAW, .fld H.FRM_CLI_RUN, .fld
  H.FRM_CLI_RX, .fld H.FRM_CLI_TTI, .fld H.FRM_CLRC_FLOW, .fld H.FRM_LIVE_CLI, .fld H.FRM_LIVE_F, .fld H.FRM_LIVE_SC, .fld H.FRM_SEC_CLI,
  .fld H.FRM_SEC_SC, .fld H.FRM_SEEN_FLOW, .fld H.FRM_SETC_FLOW, .fld H.SYN_KEYSTEP, .fld H.SYN_NCO_RAMP, .fld H.SYN_PPS_AGE] [noted,
  integration]
def wDefectDeclare : List Part := of [.msix, .fld F.FRM_DEF_CLI_DEF, .fld F.FRM_DEF_FLOW_DEF, .fld F.FRM_DEF_LANE_DEF, .fld
  F.FRM_DEF_LINE_DEF, .fld F.FRM_DEF_SC_DEF, .fld F.FRM_INT_CAUSE_DEF_CHG, .fld H.FRM_LIVE_F, .fld H.FRM_LIVE_SC, .fld H.FRM_SEC_CLI, .fld
  H.FRM_SEC_SC, .fld H.FRM_SEEN_FLOW] [noted]
def wDefectClear : List Part := [.msix, .fld F.FRM_DEF_CLI_DEF, .fld F.FRM_DEF_FLOW_DEF, .fld F.FRM_DEF_LANE_DEF, .fld F.FRM_DEF_LINE_DEF,
  .fld F.FRM_DEF_SC_DEF, .fld F.FRM_INT_CAUSE_DEF_CHG]
def wDefCfgWrite : List Part := of [.msix, .qdr, .fld F.FRM_DEF_CFG_CLR, .fld F.FRM_DEF_CFG_SET, .fld F.PMC_INT_CAUSE_SMP_DROP, .fld
  H.FRM_CLRC_FLOW, .fld H.FRM_SETC_FLOW] [sampled, counted, accessed, integration]
def wSecondTick : List Part := of [.msix, .syn, .arr F.FRM_CLI_PM_COUNT, .arr F.FRM_FPM_COUNT, .arr F.FRM_SC_PM_COUNT, .arr
  H.FRM_LIVE_CLI, .arr H.FRM_LIVE_F, .arr H.FRM_LIVE_SC, .arr H.FRM_SEC_CLI, .arr H.FRM_SEC_SC, .arr H.HKA_FRESH, .arr H.QDM_ERRS_SEC,
  .fld F.FEC_INT_CAUSE_PM_LATCH, .fld F.FEC_INT_CAUSE_PRE_SD, .fld F.FEC_ITER_HIST_COUNT, .fld F.FEC_PM_CBITS_COUNT, .fld
  F.FEC_PM_CBITS_HI_COUNT, .fld F.FEC_PM_CW_OK, .fld F.FEC_PM_FAIL_LDPC, .fld F.FEC_PM_FAIL_ROWS, .fld F.FEC_PM_INVAL_COUNT, .fld
  F.FEC_SD_MAP_SC, .fld F.FRM_BOUNDARY_TIES_COUNT, .fld F.FRM_CLI_PM_COUNT, .fld F.FRM_FPM_COUNT, .fld F.FRM_INT_CAUSE_PM_LATCH, .fld
  F.FRM_PM_STAT_SEQ, .fld F.FRM_SC_PM_COUNT, .fld F.HSL_CLI_FEC_COUNT, .fld F.HSL_CLI_STAT_HI_SER, .fld F.HSL_CLI_STAT_RX_LF, .fld
  F.HSL_CLI_STAT_RX_RF, .fld F.HSL_INT_CAUSE_HI_SER, .fld F.SE_IMG_STAT_TRIAL_LEFT, .fld F.SYN_HO_AGE_A, .fld F.SYN_HO_STAT_FROZEN, .fld
  F.SYN_HO_TEMP_THETA, .fld F.SYN_HO_TEMP_VALID, .fld F.SYN_INT_CAUSE_REF_DISAGREE, .fld F.SYN_INT_CAUSE_TIME_SET, .fld F.SYN_REF_OFS_VAL,
  .fld F.SYN_REF_RATE_VAL, .fld F.SYN_REF_STAT_DISAGREE, .fld F.SYN_TIME_CTRL_SET_PEND, .fld F.SYN_TIME_HI_VAL, .fld F.SYN_TIME_LO_VAL,
  .fld H.ENG_EDGE, .fld H.FLW_PMI, .fld H.FRM_DEG_BAD, .fld H.FRM_DEG_GOOD, .fld H.FRM_LIVE_F, .fld H.FRM_LIVE_SC, .fld H.FRM_SEC_CLI,
  .fld H.FRM_SEC_SC, .fld H.FRM_SEEN_FLOW, .fld H.LCM_CHAL_AGE, .fld H.SYN_GOOD, .fld H.SYN_LOCK_FULL, .fld H.SYN_QL_SENT] [synShown,
  noted, reference, decoded, holdoverModel]
def wDegOnset : List Part := of [.msix, .fld H.FRM_DEG_RAW, .fld H.FRM_LIVE_F, .fld H.FRM_LIVE_SC, .fld H.FRM_SEC_CLI, .fld H.FRM_SEC_SC,
  .fld H.FRM_SEEN_FLOW] [noted]
def wTtiAccept : List Part := of [.msix, .fld F.FRM_TTI_RX_DATA, .fld H.FRM_LIVE_F, .fld H.FRM_LIVE_SC, .fld H.FRM_SEC_CLI, .fld
  H.FRM_SEC_SC, .fld H.FRM_SEEN_FLOW, .fld H.FRM_TTI_ACC] [noted]
def wSsmAccept : List Part := [.msix, .fld F.FRM_INT_CAUSE_SSM_CHG, .fld F.FRM_SSM_RX_SSM]
def wCfReceive : List Part := of [.frm, .msix, .fld F.CRY_CNT_COUNT, .fld F.CRY_INT_CAUSE_KEY_MISS, .fld F.CRY_INT_CAUSE_REPLAY, .fld
  F.CRY_INT_CAUSE_RESYNC, .fld F.CRY_INT_CAUSE_TAG_FAIL, .fld F.FLW_UNKNOWN_CNT_COUNT, .fld H.CRY_RUN_PART, .fld H.FEC_MARK, .fld
  H.FRM_LAST_TYPE, .fld H.FRM_LIVE_F, .fld H.FRM_LIVE_SC, .fld H.FRM_SEC_CLI, .fld H.FRM_SEC_SC, .fld H.FRM_SEEN_FLOW, .fld H.FRM_WIN_ON,
  .fld H.FRM_WIN_SEQ] [noted, receiveCounter, resync]
def wSlipWrite : List Part := of [.frm, .msix, .qdr, .fld F.FRM_INT_CAUSE_RA_OVF, .fld F.FRM_RA_STAT_FILL, .fld F.PMC_INT_CAUSE_SMP_DROP,
  .fld F.QDM_BW_LIMIT, .fld F.QDM_BW_USED, .fld F.QDM_INT_CAUSE_POOL_EMPTY, .fld F.QDM_POOL_STAT_QDR_FREE, .fld H.FRM_EG_JUST, .fld
  H.FRM_LIVE_F, .fld H.QDM_EXTRA, .fld H.QDM_HELD, .fld H.QDM_POOL_USED] [sampled, counted]
def wSlipRead : List Part := [.flw, .frm, .msix, .fld F.FRM_RA_STAT_FILL, .fld F.QDM_BW_LIMIT, .fld F.QDM_BW_USED, .fld
  F.QDM_POOL_STAT_QDR_FREE, .fld H.FRM_LIVE_F, .fld H.HSL_NCO, .fld H.HSL_NCO_INT, .fld H.HSL_OUT, .fld H.QDM_EXTRA, .fld H.QDM_HELD, .fld
  H.QDM_POOL_USED]
def wCliEnable : List Part := of [.msix, .qdr, .fld F.HSL_CLI_CFG_EN, .fld F.HSL_CLI_STAT_CFG_STEP, .fld F.HSL_CLI_STAT_TX_REV, .fld
  F.HSL_INT_CAUSE_CFG_ERR, .fld F.HSL_INT_CAUSE_RCLK_SQ, .fld F.HSL_RCLK_SEL_SQUELCHED, .fld F.PMC_INT_CAUSE_SMP_DROP, .fld
  F.SYS_INT_CAUSE_ROLE_LIMIT, .fld H.FRM_LIVE_F, .fld H.FRM_LIVE_SC, .fld H.FRM_SEC_CLI, .fld H.FRM_SEC_SC, .fld H.FRM_SEEN_FLOW, .fld
  H.HSL_EGRESS_REV, .fld H.HSL_OUT, .fld H.HSL_REV_USED] [sampled, counted, accessed, noted, clientState]
def wCliDisable : List Part := of [.msix, .qdr, .fld F.HSL_CLI_CFG_EN, .fld F.HSL_INT_CAUSE_RCLK_SQ, .fld F.HSL_LANE_STAT_AM_LOCK, .fld
  F.HSL_LANE_STAT_CDR_LOCK, .fld F.HSL_LANE_STAT_RX_INV, .fld F.HSL_LANE_STAT_SIG, .fld F.HSL_RCLK_SEL_SQUELCHED, .fld
  F.PMC_INT_CAUSE_SMP_DROP, .fld H.FRM_LIVE_F, .fld H.FRM_LIVE_SC, .fld H.FRM_SEC_CLI, .fld H.FRM_SEC_SC, .fld H.FRM_SEEN_FLOW, .fld
  H.HSL_OUT] [sampled, counted, accessed, noted, clientState]
def wSignalDetect : List Part := of [.msix, .fld F.HSL_CLI_STAT_ORDER, .fld F.HSL_CLI_STAT_TX_REV, .fld F.HSL_INT_CAUSE_RCLK_SQ, .fld
  F.HSL_LANE_STAT_SIG, .fld F.HSL_RCLK_SEL_SQUELCHED, .fld H.FRM_LIVE_F, .fld H.FRM_LIVE_SC, .fld H.FRM_SEC_CLI, .fld H.FRM_SEC_SC, .fld
  H.FRM_SEEN_FLOW, .fld H.HSL_HOLD_USED, .fld H.HSL_REV_USED] [noted, clientState]
def wSignalLoss : List Part := of [.msix, .fld F.HSL_INT_CAUSE_RCLK_SQ, .fld F.HSL_LANE_STAT_AM_LOCK, .fld F.HSL_LANE_STAT_CDR_LOCK, .fld
  F.HSL_LANE_STAT_LOCK_LOST, .fld F.HSL_LANE_STAT_SIG, .fld F.HSL_RCLK_SEL_SQUELCHED, .fld H.FRM_LIVE_F, .fld H.FRM_LIVE_SC, .fld
  H.FRM_SEC_CLI, .fld H.FRM_SEC_SC, .fld H.FRM_SEEN_FLOW] [noted, clientState]
def wCdrLock : List Part := of [.msix, .fld F.HSL_CLI_STAT_ORDER, .fld F.HSL_CLI_STAT_TX_REV, .fld F.HSL_INT_CAUSE_RCLK_SQ, .fld
  F.HSL_LANE_STAT_CDR_LOCK, .fld F.HSL_RCLK_SEL_SQUELCHED, .fld H.FRM_LIVE_F, .fld H.FRM_LIVE_SC, .fld H.FRM_SEC_CLI, .fld H.FRM_SEC_SC,
  .fld H.FRM_SEEN_FLOW, .fld H.HSL_HOLD_USED, .fld H.HSL_REV_USED] [noted, clientState]
def wCdrLoss : List Part := of [.msix, .fld F.HSL_INT_CAUSE_RCLK_SQ, .fld F.HSL_LANE_STAT_AM_LOCK, .fld F.HSL_LANE_STAT_CDR_LOCK, .fld
  F.HSL_LANE_STAT_LOCK_LOST, .fld F.HSL_RCLK_SEL_SQUELCHED, .fld H.FRM_LIVE_F, .fld H.FRM_LIVE_SC, .fld H.FRM_SEC_CLI, .fld H.FRM_SEC_SC,
  .fld H.FRM_SEEN_FLOW] [noted, clientState]
def wLaneLock : List Part := of [.msix, .fld F.HSL_CLI_STAT_ORDER, .fld F.HSL_CLI_STAT_TX_REV, .fld F.HSL_INT_CAUSE_RCLK_SQ, .fld
  F.HSL_LANE_STAT_AM_LOCK, .fld F.HSL_LANE_STAT_LANE_ID, .fld F.HSL_LANE_STAT_RX_INV, .fld F.HSL_RCLK_SEL_SQUELCHED, .fld H.FRM_LIVE_F,
  .fld H.FRM_LIVE_SC, .fld H.FRM_SEC_CLI, .fld H.FRM_SEC_SC, .fld H.FRM_SEEN_FLOW, .fld H.HSL_HOLD_USED, .fld H.HSL_REV_USED] [noted,
  clientState]
def wMarkerLockLoss : List Part := of [.msix, .fld F.HSL_INT_CAUSE_RCLK_SQ, .fld F.HSL_LANE_STAT_AM_LOCK, .fld F.HSL_LANE_STAT_LOCK_LOST,
  .fld F.HSL_RCLK_SEL_SQUELCHED, .fld H.FRM_LIVE_F, .fld H.FRM_LIVE_SC, .fld H.FRM_SEC_CLI, .fld H.FRM_SEC_SC, .fld H.FRM_SEEN_FLOW]
  [noted, clientState]
def wEgressOrderChange : List Part := [.msix, .fld F.HSL_INT_CAUSE_ORDER_CHG, .fld H.HSL_EGRESS_REV]
def wDeskewMeasure : List Part := of [.msix, .fld F.HSL_CLI_DSK_APPLIED, .fld F.HSL_CLI_DSK_MEAS, .fld F.HSL_CLI_STAT_DSK_OVER, .fld
  F.HSL_CLI_STAT_DSK_RANGE, .fld F.HSL_CLI_STAT_FLEXO_ID, .fld F.HSL_INT_CAUSE_DSK_OVER, .fld F.HSL_INT_CAUSE_DSK_RANGE, .fld
  H.FRM_LIVE_F, .fld H.FRM_LIVE_SC, .fld H.FRM_SEC_CLI, .fld H.FRM_SEC_SC, .fld H.FRM_SEEN_FLOW] [noted, clientState]
def wLinkTmo : List Part := of [.msix, .fld F.HSL_CLI_STAT_RETRY, .fld F.HSL_INT_CAUSE_RCLK_SQ, .fld F.HSL_LANE_STAT_AM_LOCK, .fld
  F.HSL_LANE_STAT_CDR_LOCK, .fld F.HSL_RCLK_SEL_SQUELCHED, .fld H.FRM_LIVE_F, .fld H.FRM_LIVE_SC, .fld H.FRM_SEC_CLI, .fld H.FRM_SEC_SC,
  .fld H.FRM_SEEN_FLOW] [noted, clientState]
def wFlowRead : List Part := of [.msix, .qdr, .fld F.FLW_CMD_STAT_BUSY, .fld F.FLW_CMD_STAT_ERR_CODE, .fld F.FLW_INT_CAUSE_CMD_DONE, .fld
  F.PMC_INT_CAUSE_SMP_DROP, .fld F.SYS_INT_CAUSE_ROLE_LIMIT] [sampled, counted, accessed, flowCommand]
def wFlowWrite : List Part := of [.msix, .qdr, .fld F.FLW_CMD_STAT_BUSY, .fld F.FLW_CMD_STAT_ERR_CODE, .fld F.FLW_INT_CAUSE_CMD_DONE, .fld
  F.PMC_INT_CAUSE_SMP_DROP, .fld F.SYS_INT_CAUSE_ROLE_LIMIT] [sampled, counted, accessed, flowCommand]
def wFlowRemove : List Part := of [.msix, .qdr, .fld F.FLW_CMD_STAT_BUSY, .fld F.FLW_CMD_STAT_ERR_CODE, .fld F.FLW_INT_CAUSE_CMD_DONE,
  .fld F.PMC_INT_CAUSE_SMP_DROP, .fld F.SYS_INT_CAUSE_ROLE_LIMIT] [sampled, counted, accessed, flowCommand]
def wFlowCmdApply : List Part := of [.flw, .frm, .msix, .fld F.FLW_CMD_STAT_BUSY, .fld F.FLW_CMD_STAT_ERR_CODE, .fld
  F.FLW_FSTAT_RATE_SHORT, .fld F.FLW_FSTAT_SHORT_CNT, .fld F.FLW_FT_DATA, .fld F.FLW_INT_CAUSE_CMD_DONE, .fld F.FLW_INT_CAUSE_RATE_SHORT,
  .fld F.FLW_INT_CAUSE_SLEEP_DROP, .fld F.FLW_SLEEP_DROP_COUNT, .fld F.FRM_DEF_FLOW_DEF, .fld F.FRM_RA_STAT_FILL, .fld F.FRM_RA_STAT_JUST,
  .fld F.QDM_BW_LIMIT, .fld F.QDM_BW_USED, .fld F.QDM_POOL_STAT_DIE_FREE, .fld F.QDM_POOL_STAT_QDR_FREE, .fld H.CRY_NEXT, .fld
  H.FLW_CTX_FLOW, .fld H.FLW_ERR_NEXT, .fld H.FLW_LOST, .fld H.FLW_PMI, .fld H.FLW_TOK, .fld H.FLW_TOK_T, .fld H.FLW_TX_SEQ, .fld
  H.FRM_CLRC_FLOW, .fld H.FRM_EG_JUST, .fld H.FRM_LAST_TYPE, .fld H.FRM_RA_RUN, .fld H.FRM_SEEN_FLOW, .fld H.FRM_SETC_FLOW, .fld
  H.FRM_WIN_ON, .fld H.FRM_WIN_SEQ, .fld H.HSL_OUT, .fld H.QDM_COMMITTED, .fld H.QDM_EXTRA, .fld H.QDM_HELD, .fld H.QDM_POOL_USED, .fld
  H.QDM_RESERVED, .fld H.QDM_SLEEP_USED] [resync]
def wCfSchedule : List Part := of [.flw, .msix, .qdr, .vlk, .fld F.CRY_CNT_COUNT, .fld F.CRY_INT_CAUSE_TX_NOKEY, .fld
  F.FLW_FSTAT_RATE_SHORT, .fld F.FLW_FSTAT_SHORT_CNT, .fld F.FLW_INT_CAUSE_RATE_SHORT, .fld F.FLW_INT_CAUSE_SLEEP_DROP, .fld
  F.FLW_SLEEP_DROP_COUNT, .fld F.FRM_INT_CAUSE_RA_JUST, .fld F.FRM_RA_STAT_JUST, .fld F.PMC_INT_CAUSE_SMP_DROP, .fld H.CRY_CUR, .fld
  H.CRY_NEXT, .fld H.FLW_DRR, .fld H.FLW_DRR_LEFT, .fld H.FLW_ERR_NEXT, .fld H.FLW_LOST, .fld H.FLW_LOST_HELD, .fld H.FLW_RR_PLAIN, .fld
  H.FLW_RR_STRICT, .fld H.FLW_TOK, .fld H.FLW_TOK_T, .fld H.FLW_TX_SEQ, .fld H.FRM_CF_DUE, .fld H.FRM_MGMT_DUE, .fld H.FRM_RA_RUN, .fld
  H.QDM_SLEEP_USED, .fld H.VLK_RR, .fld H.VLK_SEQ, .fld H.VLK_WAKE_BIT] [sampled, counted]
def wTokenCap : List Part := [.msix, .fld F.FLW_FSTAT_RATE_SHORT, .fld F.FLW_FSTAT_SHORT_CNT, .fld F.FLW_INT_CAUSE_RATE_SHORT, .fld
  H.FLW_LOST, .fld H.FLW_TOK, .fld H.FLW_TOK_T]
def wClientIngress : List Part := [.flw, .msix, .vlk, .fld F.FLW_CLI_UNMATCH_COUNT, .fld F.FLW_FSTAT_ING_OVF, .fld
  F.FLW_INT_CAUSE_ING_OVF, .fld H.FLW_ERR_NEXT, .fld H.VLK_REST_SET, .fld H.VLK_SEQ, .fld H.VLK_WAKE_BIT]
def wQdmEnable : List Part := of [.msix, .qdr, .fld F.PMC_INT_CAUSE_SMP_DROP, .fld F.QDM_CTRL_EN, .fld F.QDM_INT_CAUSE_CFG_ERR, .fld
  F.QDM_INT_CAUSE_REGION_ERR, .fld F.QDM_TRAIN_STAT_FAIL, .fld F.QDM_TRAIN_STAT_OK, .fld F.QDM_TRAIN_STAT_STEP, .fld H.QDM_CENTRE, .fld
  H.QDM_TRAINING] [sampled, counted, accessed]
def wQdrTrainDone : List Part := [.msix, .fld F.QDM_BW_LIMIT, .fld F.QDM_BW_USED, .fld F.QDM_CTRL_EN, .fld F.QDM_INT_CAUSE_REGION_ERR,
  .fld F.QDM_INT_CAUSE_TRAIN_FAIL, .fld F.QDM_POOL_STAT_QDR_FREE, .fld F.QDM_STAT_IN_USE, .fld F.QDM_STAT_PORT_FAIL, .fld
  F.QDM_TRAIN_STAT_FAIL, .fld F.QDM_TRAIN_STAT_OK, .fld F.QDM_TRAIN_STAT_STEP, .fld H.QDM_TRAINING]
def wQdrRetrain : List Part := of [.msix, .qdr, .fld F.PMC_INT_CAUSE_SMP_DROP, .fld F.QDM_TRAIN_STAT_FAIL, .fld F.QDM_TRAIN_STAT_OK, .fld
  F.QDM_TRAIN_STAT_STEP, .fld H.QDM_CENTRE, .fld H.QDM_TRAINING] [sampled, counted, accessed]
def wQdrRecentre : List Part := [.msix, .fld H.QDM_CENTRE]
def wQdrParityError : List Part := [.frm, .msix, .fld F.QDM_ERR_ADDR_ADDR, .fld F.QDM_ERR_CNT_DATA, .fld F.QDM_INT_CAUSE_DATA_PERR, .fld
  H.QDM_ERRS_SEC]
def wAddrParityError : List Part := [.msix, .fld F.QDM_ERR_CNT_ADDR, .fld F.QDM_INT_CAUSE_ADDR_PERR, .fld H.QDM_ERRS_SEC]
def wQdrPortFail : List Part := [.flw, .frm, .msix, .fld F.FLW_INT_CAUSE_SLEEP_DROP, .fld F.FLW_SLEEP_DROP_COUNT, .fld F.QDM_BW_LIMIT,
  .fld F.QDM_BW_USED, .fld F.QDM_INT_CAUSE_PORT_FAIL, .fld F.QDM_POOL_STAT_QDR_FREE, .fld F.QDM_STAT_IN_USE, .fld F.QDM_STAT_PORT_FAIL,
  .fld H.QDM_SLEEP_USED]
def wCryLockRelease : List Part := of [.msix, .qdr, .fld F.CRY_INT_CAUSE_NOT_OWNER, .fld F.CRY_LOCK_STAT_OWNER, .fld
  F.PMC_INT_CAUSE_SMP_DROP] [sampled, counted, accessed, keyStaging]
def wKeyLoad : List Part := of [.msix, .qdr, .fld F.CRY_INT_CAUSE_NOT_OWNER, .fld F.CRY_KEY_CMD_CTX, .fld F.CRY_KEY_CMD_OP, .fld
  F.CRY_KEY_CMD_PHASE, .fld F.PMC_INT_CAUSE_SMP_DROP, .fld H.CRY_CUR, .fld H.CRY_KEY, .fld H.CRY_NEXT, .fld H.CRY_RESULT, .fld H.CRY_ROLL,
  .fld H.CRY_RUN_PART, .fld H.CRY_SALT, .fld H.CRY_VALID] [sampled, counted, accessed, keyStaging, receiveCounter, keyDone, resync]
def wKeyRoll : List Part := of [.msix, .qdr, .fld F.CRY_INT_CAUSE_NOT_OWNER, .fld F.CRY_KEY_CMD_CTX, .fld F.CRY_KEY_CMD_OP, .fld
  F.CRY_KEY_CMD_PHASE, .fld F.PMC_INT_CAUSE_SMP_DROP, .fld H.CRY_CUR, .fld H.CRY_KEY, .fld H.CRY_NEXT, .fld H.CRY_RESULT, .fld H.CRY_ROLL,
  .fld H.CRY_RUN_PART, .fld H.CRY_SALT, .fld H.CRY_VALID] [sampled, counted, accessed, keyStaging, receiveCounter, keyDone, resync]
def wKeyClear : List Part := of [.msix, .qdr, .fld F.CRY_INT_CAUSE_NOT_OWNER, .fld F.CRY_KEY_CMD_CTX, .fld F.CRY_KEY_CMD_OP, .fld
  F.CRY_KEY_CMD_PHASE, .fld F.PMC_INT_CAUSE_SMP_DROP, .fld H.CRY_CUR, .fld H.CRY_KEY, .fld H.CRY_NEXT, .fld H.CRY_RESULT, .fld H.CRY_ROLL,
  .fld H.CRY_RUN_PART, .fld H.CRY_SALT, .fld H.CRY_VALID] [sampled, counted, accessed, keyStaging, receiveCounter, keyDone, resync]
def wKeyClearCtx : List Part := of [.msix, .qdr, .fld F.CRY_INT_CAUSE_NOT_OWNER, .fld F.CRY_KEY_CMD_CTX, .fld F.CRY_KEY_CMD_OP, .fld
  F.CRY_KEY_CMD_PHASE, .fld F.PMC_INT_CAUSE_SMP_DROP, .fld H.CRY_CUR, .fld H.CRY_KEY, .fld H.CRY_NEXT, .fld H.CRY_RESULT, .fld H.CRY_ROLL,
  .fld H.CRY_RUN_PART, .fld H.CRY_SALT, .fld H.CRY_VALID] [sampled, counted, accessed, keyStaging, receiveCounter, keyDone, resync]
def wKeyCmdUndefined : List Part := of [.msix, .qdr, .fld F.CRY_INT_CAUSE_NOT_OWNER, .fld F.CRY_KEY_CMD_CTX, .fld F.CRY_KEY_CMD_OP, .fld
  F.CRY_KEY_CMD_PHASE, .fld F.PMC_INT_CAUSE_SMP_DROP, .fld H.CRY_CUR, .fld H.CRY_KEY, .fld H.CRY_NEXT, .fld H.CRY_RESULT, .fld H.CRY_ROLL,
  .fld H.CRY_RUN_PART, .fld H.CRY_SALT, .fld H.CRY_VALID] [sampled, counted, accessed, keyStaging, receiveCounter, keyDone, resync]
def wKeyCmdComplete : List Part := of [.msix, .fld F.CRY_INT_CAUSE_CMD_DONE, .fld H.CRY_RESULT, .fld H.CRY_ROLL, .fld H.CRY_TX_PH]
  [keyStaging, keyDone]
def wErasure : List Part := of [.msix, .qdr, .arr H.CRY_CAND, .arr H.CRY_CUR, .arr H.CRY_KEY, .arr H.CRY_LAST, .arr H.CRY_LAST_SEQ, .arr
  H.CRY_NEXT, .arr H.CRY_RUN_MASK, .arr H.CRY_RUN_PART, .arr H.CRY_RUN_SEQ, .arr H.CRY_RX_PH, .arr H.CRY_SALT, .arr H.CRY_SYNC, .arr
  H.CRY_U, .arr H.CRY_VALID, .arr H.CRY_WIN, .fld F.CRY_ERASE_STAT_ALARM_NOW, .fld F.CRY_ERASE_STAT_CAUSE, .fld F.CRY_ERASE_STAT_COUNT,
  .fld F.CRY_INT_CAUSE_ERASED, .fld F.CRY_LOCK_STAT_LOCK_BROKEN, .fld F.CRY_LOCK_STAT_OWNER, .fld F.PMC_INT_CAUSE_SMP_DROP, .fld
  H.CRY_RESULT] [sampled, counted, keyStaging]
def wCryCounterMirror : List Part := [.msix]
def wRefFail : List Part := of [.msix, .syn, .fld F.SYN_INT_CAUSE_LOOP_CHG, .fld F.SYN_INT_CAUSE_SEL_CHG, .fld F.SYN_STAT_LOOP, .fld
  F.SYN_STAT_SEL, .fld H.SYN_GOOD, .fld H.SYN_LOCK_FULL, .fld H.SYN_QL_SENT] [synShown, reference]
def wRefRestore : List Part := of [.msix, .syn, .fld H.SYN_GOOD, .fld H.SYN_LOCK_FULL, .fld H.SYN_QL_SENT] [synShown, reference]
def wWtrComplete : List Part := of [.msix, .syn, .fld H.SYN_GOOD, .fld H.SYN_LOCK_FULL, .fld H.SYN_QL_SENT] [synShown, reference]
def wDriftWatchEnd : List Part := of [.msix, .syn, .fld H.SYN_GOOD, .fld H.SYN_LOCK_FULL, .fld H.SYN_QL_SENT] [synShown, reference]
def wRefDq : List Part := of [.msix, .syn, .fld H.SYN_GOOD, .fld H.SYN_LOCK_FULL, .fld H.SYN_QL_SENT] [synShown, reference]
def wQlTmo : List Part := of [.msix, .fld F.SYN_INT_CAUSE_QL_TMO, .fld H.SYN_QL_OK, .fld H.SYN_QL_SENT] [synShown]
def wRefQlWrite : List Part := of [.msix, .qdr, .fld F.PMC_INT_CAUSE_SMP_DROP, .fld F.SYN_REF_QL_QL, .fld H.SYN_KEYSTEP, .fld H.SYN_QL_OK,
  .fld H.SYN_QL_SENT] [sampled, counted, accessed, synShown]
def wSelection : List Part := of [.msix, .syn, .fld F.SYN_INT_CAUSE_LOOP_CHG, .fld F.SYN_INT_CAUSE_SEL_CHG, .fld F.SYN_STAT_LOOP, .fld
  F.SYN_STAT_SEL, .fld H.SYN_LOCK_FULL, .fld H.SYN_QL_SENT] [synShown]
def wLoopLock : List Part := of [.msix, .syn, .fld F.SYN_INT_CAUSE_LOOP_CHG, .fld F.SYN_STAT_LOOP, .fld H.SYN_LOCK_FULL, .fld
  H.SYN_QL_SENT] [synShown]
def wQuarantineExit : List Part := of [.msix, .syn] [holdoverModel]
def wTcFit : List Part := of [.msix, .fld F.SYN_HO_STAT_TC_ORDER, .fld F.SYN_HO_TC_C] [holdoverModel]
def wPstepWrite : List Part := of [.msix, .qdr, .fld F.PMC_INT_CAUSE_SMP_DROP, .fld F.SYN_INT_CAUSE_PSTEP_RANGE, .fld F.SYN_PSTEP_AMOUNT,
  .fld F.SYS_INT_CAUSE_ROLE_LIMIT, .fld H.SYN_KEYSTEP, .fld H.SYN_QL_SENT] [sampled, counted, accessed, synShown]
def wPstepDone : List Part := [.msix, .fld F.SYN_INT_CAUSE_PSTEP_DONE, .fld F.SYN_PSTEP_AMOUNT]
def wPrivKeyWrite : List Part := of [.msix, .qdr, .fld F.PMC_INT_CAUSE_SMP_DROP, .fld F.SYN_INT_CAUSE_PRIV_ERR, .fld H.SYN_KEYSTEP, .fld
  H.SYN_QL_SENT] [sampled, counted, accessed, synShown]
def wLoopOpen : List Part := of [.msix, .qdr, .fld F.PMC_INT_CAUSE_SMP_DROP, .fld F.SYN_INT_CAUSE_PRIV_ERR, .fld F.SYN_NCO_CTRL_OPEN, .fld
  F.SYN_NCO_CTRL_OWNER, .fld F.SYN_NCO_FREQ_F, .fld H.SYN_KEYSTEP, .fld H.SYN_NCO_RAMP, .fld H.SYN_QL_SENT] [sampled, counted, accessed,
  synShown]
def wNcoFreqWrite : List Part := of [.msix, .qdr, .fld F.PMC_INT_CAUSE_SMP_DROP, .fld F.SYN_INT_CAUSE_PRIV_ERR, .fld F.SYN_NCO_FREQ_F,
  .fld H.SYN_KEYSTEP, .fld H.SYN_QL_SENT] [sampled, counted, accessed, synShown]
def wLoopClose : List Part := of [.msix, .qdr, .fld F.PMC_INT_CAUSE_SMP_DROP, .fld F.SYN_INT_CAUSE_PRIV_ERR, .fld F.SYN_NCO_CTRL_OPEN,
  .fld F.SYN_NCO_CTRL_OWNER, .fld H.SYN_KEYSTEP, .fld H.SYN_NCO_RAMP, .fld H.SYN_QL_SENT] [sampled, counted, accessed, synShown]
def wMaxOpenExpiry : List Part := [.msix, .fld F.SYN_INT_CAUSE_PRIV_CLOSED, .fld F.SYN_NCO_CTRL_OPEN, .fld F.SYN_NCO_CTRL_OWNER, .fld
  H.SYN_NCO_RAMP]
def wTimeSet : List Part := of [.msix, .qdr, .fld F.PMC_INT_CAUSE_SMP_DROP, .fld F.SYN_TIME_CTRL_SET_PEND, .fld H.SYN_KEYSTEP, .fld
  H.SYN_QL_SENT] [sampled, counted, accessed, synShown]
def wTimeAlign : List Part := of [.msix, .qdr, .fld F.PMC_INT_CAUSE_SMP_DROP, .fld F.SYN_TIME_CTRL_ALIGN_PEND, .fld H.SYN_KEYSTEP, .fld
  H.SYN_QL_SENT] [sampled, counted, accessed, synShown]
def wPpsInEdge : List Part := of [.msix, .syn, .arr F.FRM_CLI_PM_COUNT, .arr F.FRM_FPM_COUNT, .arr F.FRM_SC_PM_COUNT, .arr H.FRM_LIVE_CLI,
  .arr H.FRM_LIVE_F, .arr H.FRM_LIVE_SC, .arr H.FRM_SEC_CLI, .arr H.FRM_SEC_SC, .arr H.HKA_FRESH, .arr H.QDM_ERRS_SEC, .fld
  F.FEC_INT_CAUSE_PM_LATCH, .fld F.FEC_INT_CAUSE_PRE_SD, .fld F.FEC_ITER_HIST_COUNT, .fld F.FEC_PM_CBITS_COUNT, .fld
  F.FEC_PM_CBITS_HI_COUNT, .fld F.FEC_PM_CW_OK, .fld F.FEC_PM_FAIL_LDPC, .fld F.FEC_PM_FAIL_ROWS, .fld F.FEC_PM_INVAL_COUNT, .fld
  F.FEC_SD_MAP_SC, .fld F.FRM_BOUNDARY_TIES_COUNT, .fld F.FRM_CLI_PM_COUNT, .fld F.FRM_FPM_COUNT, .fld F.FRM_INT_CAUSE_PM_LATCH, .fld
  F.FRM_PM_STAT_SEQ, .fld F.FRM_SC_PM_COUNT, .fld F.HSL_CLI_FEC_COUNT, .fld F.HSL_CLI_STAT_HI_SER, .fld F.HSL_CLI_STAT_RX_LF, .fld
  F.HSL_CLI_STAT_RX_RF, .fld F.HSL_INT_CAUSE_HI_SER, .fld F.SE_IMG_STAT_TRIAL_LEFT, .fld F.SYN_HO_AGE_A, .fld F.SYN_HO_STAT_FROZEN, .fld
  F.SYN_HO_TEMP_THETA, .fld F.SYN_HO_TEMP_VALID, .fld F.SYN_INT_CAUSE_PPS_ALIGN, .fld F.SYN_INT_CAUSE_REF_DISAGREE, .fld
  F.SYN_INT_CAUSE_TIME_SET, .fld F.SYN_PPS_IN_ERR_ERR, .fld F.SYN_PPS_IN_ERR_VALID, .fld F.SYN_REF_OFS_VAL, .fld F.SYN_REF_RATE_VAL, .fld
  F.SYN_REF_STAT_DISAGREE, .fld F.SYN_TIME_CTRL_ALIGN_PEND, .fld F.SYN_TIME_CTRL_SET_PEND, .fld F.SYN_TIME_HI_VAL, .fld F.SYN_TIME_LO_VAL,
  .fld H.ENG_EDGE, .fld H.FLW_PMI, .fld H.FRM_DEG_BAD, .fld H.FRM_DEG_GOOD, .fld H.FRM_LIVE_F, .fld H.FRM_LIVE_SC, .fld H.FRM_SEC_CLI,
  .fld H.FRM_SEC_SC, .fld H.FRM_SEEN_FLOW, .fld H.LCM_CHAL_AGE, .fld H.SYN_GOOD, .fld H.SYN_LOCK_FULL, .fld H.SYN_PPS_AGE, .fld
  H.SYN_QL_SENT] [synShown, noted, reference, decoded, holdoverModel]
def wAdd : List Part := of [.msix, .qdr, .fld F.ENG_GREG_VAL, .fld F.ENG_INT_CAUSE_FAULT, .fld F.ENG_THR_STAT_CAUSE, .fld
  F.ENG_THR_STAT_PC, .fld F.PMC_INT_CAUSE_SMP_DROP, .fld H.ENG_PAST, .fld H.PMC_OVF_SKID, .fld H.PMC_OVF_THR] [sampled, counted, threads]
def wSub : List Part := of [.msix, .qdr, .fld F.ENG_GREG_VAL, .fld F.ENG_INT_CAUSE_FAULT, .fld F.ENG_THR_STAT_CAUSE, .fld
  F.ENG_THR_STAT_PC, .fld F.PMC_INT_CAUSE_SMP_DROP, .fld H.ENG_PAST, .fld H.PMC_OVF_SKID, .fld H.PMC_OVF_THR] [sampled, counted, threads]
def wAndOp : List Part := of [.msix, .qdr, .fld F.ENG_GREG_VAL, .fld F.ENG_INT_CAUSE_FAULT, .fld F.ENG_THR_STAT_CAUSE, .fld
  F.ENG_THR_STAT_PC, .fld F.PMC_INT_CAUSE_SMP_DROP, .fld H.ENG_PAST, .fld H.PMC_OVF_SKID, .fld H.PMC_OVF_THR] [sampled, counted, threads]
def wOrOp : List Part := of [.msix, .qdr, .fld F.ENG_GREG_VAL, .fld F.ENG_INT_CAUSE_FAULT, .fld F.ENG_THR_STAT_CAUSE, .fld
  F.ENG_THR_STAT_PC, .fld F.PMC_INT_CAUSE_SMP_DROP, .fld H.ENG_PAST, .fld H.PMC_OVF_SKID, .fld H.PMC_OVF_THR] [sampled, counted, threads]
def wXor : List Part := of [.msix, .qdr, .fld F.ENG_GREG_VAL, .fld F.ENG_INT_CAUSE_FAULT, .fld F.ENG_THR_STAT_CAUSE, .fld
  F.ENG_THR_STAT_PC, .fld F.PMC_INT_CAUSE_SMP_DROP, .fld H.ENG_PAST, .fld H.PMC_OVF_SKID, .fld H.PMC_OVF_THR] [sampled, counted, threads]
def wSll : List Part := of [.msix, .qdr, .fld F.ENG_GREG_VAL, .fld F.ENG_INT_CAUSE_FAULT, .fld F.ENG_THR_STAT_CAUSE, .fld
  F.ENG_THR_STAT_PC, .fld F.PMC_INT_CAUSE_SMP_DROP, .fld H.ENG_PAST, .fld H.PMC_OVF_SKID, .fld H.PMC_OVF_THR] [sampled, counted, threads]
def wSrl : List Part := of [.msix, .qdr, .fld F.ENG_GREG_VAL, .fld F.ENG_INT_CAUSE_FAULT, .fld F.ENG_THR_STAT_CAUSE, .fld
  F.ENG_THR_STAT_PC, .fld F.PMC_INT_CAUSE_SMP_DROP, .fld H.ENG_PAST, .fld H.PMC_OVF_SKID, .fld H.PMC_OVF_THR] [sampled, counted, threads]
def wSra : List Part := of [.msix, .qdr, .fld F.ENG_GREG_VAL, .fld F.ENG_INT_CAUSE_FAULT, .fld F.ENG_THR_STAT_CAUSE, .fld
  F.ENG_THR_STAT_PC, .fld F.PMC_INT_CAUSE_SMP_DROP, .fld H.ENG_PAST, .fld H.PMC_OVF_SKID, .fld H.PMC_OVF_THR] [sampled, counted, threads]
def wSlt : List Part := of [.msix, .qdr, .fld F.ENG_GREG_VAL, .fld F.ENG_INT_CAUSE_FAULT, .fld F.ENG_THR_STAT_CAUSE, .fld
  F.ENG_THR_STAT_PC, .fld F.PMC_INT_CAUSE_SMP_DROP, .fld H.ENG_PAST, .fld H.PMC_OVF_SKID, .fld H.PMC_OVF_THR] [sampled, counted, threads]
def wSltu : List Part := of [.msix, .qdr, .fld F.ENG_GREG_VAL, .fld F.ENG_INT_CAUSE_FAULT, .fld F.ENG_THR_STAT_CAUSE, .fld
  F.ENG_THR_STAT_PC, .fld F.PMC_INT_CAUSE_SMP_DROP, .fld H.ENG_PAST, .fld H.PMC_OVF_SKID, .fld H.PMC_OVF_THR] [sampled, counted, threads]
def wMul : List Part := of [.msix, .qdr, .fld F.ENG_GREG_VAL, .fld F.ENG_INT_CAUSE_FAULT, .fld F.ENG_THR_STAT_CAUSE, .fld
  F.ENG_THR_STAT_PC, .fld F.PMC_INT_CAUSE_SMP_DROP, .fld H.ENG_PAST, .fld H.PMC_OVF_SKID, .fld H.PMC_OVF_THR] [sampled, counted, threads]
def wMulh : List Part := of [.msix, .qdr, .fld F.ENG_GREG_VAL, .fld F.ENG_INT_CAUSE_FAULT, .fld F.ENG_THR_STAT_CAUSE, .fld
  F.ENG_THR_STAT_PC, .fld F.PMC_INT_CAUSE_SMP_DROP, .fld H.ENG_PAST, .fld H.PMC_OVF_SKID, .fld H.PMC_OVF_THR] [sampled, counted, threads]
def wMulhu : List Part := of [.msix, .qdr, .fld F.ENG_GREG_VAL, .fld F.ENG_INT_CAUSE_FAULT, .fld F.ENG_THR_STAT_CAUSE, .fld
  F.ENG_THR_STAT_PC, .fld F.PMC_INT_CAUSE_SMP_DROP, .fld H.ENG_PAST, .fld H.PMC_OVF_SKID, .fld H.PMC_OVF_THR] [sampled, counted, threads]
def wMin : List Part := of [.msix, .qdr, .fld F.ENG_GREG_VAL, .fld F.ENG_INT_CAUSE_FAULT, .fld F.ENG_THR_STAT_CAUSE, .fld
  F.ENG_THR_STAT_PC, .fld F.PMC_INT_CAUSE_SMP_DROP, .fld H.ENG_PAST, .fld H.PMC_OVF_SKID, .fld H.PMC_OVF_THR] [sampled, counted, threads]
def wMax : List Part := of [.msix, .qdr, .fld F.ENG_GREG_VAL, .fld F.ENG_INT_CAUSE_FAULT, .fld F.ENG_THR_STAT_CAUSE, .fld
  F.ENG_THR_STAT_PC, .fld F.PMC_INT_CAUSE_SMP_DROP, .fld H.ENG_PAST, .fld H.PMC_OVF_SKID, .fld H.PMC_OVF_THR] [sampled, counted, threads]
def wClz : List Part := of [.msix, .qdr, .fld F.ENG_GREG_VAL, .fld F.ENG_INT_CAUSE_FAULT, .fld F.ENG_THR_STAT_CAUSE, .fld
  F.ENG_THR_STAT_PC, .fld F.PMC_INT_CAUSE_SMP_DROP, .fld H.ENG_PAST, .fld H.PMC_OVF_SKID, .fld H.PMC_OVF_THR] [sampled, counted, threads]
def wPopc : List Part := of [.msix, .qdr, .fld F.ENG_GREG_VAL, .fld F.ENG_INT_CAUSE_FAULT, .fld F.ENG_THR_STAT_CAUSE, .fld
  F.ENG_THR_STAT_PC, .fld F.PMC_INT_CAUSE_SMP_DROP, .fld H.ENG_PAST, .fld H.PMC_OVF_SKID, .fld H.PMC_OVF_THR] [sampled, counted, threads]
def wAddi : List Part := of [.msix, .qdr, .fld F.ENG_GREG_VAL, .fld F.ENG_INT_CAUSE_FAULT, .fld F.ENG_THR_STAT_CAUSE, .fld
  F.ENG_THR_STAT_PC, .fld F.PMC_INT_CAUSE_SMP_DROP, .fld H.ENG_PAST, .fld H.PMC_OVF_SKID, .fld H.PMC_OVF_THR] [sampled, counted, threads]
def wAndi : List Part := of [.msix, .qdr, .fld F.ENG_GREG_VAL, .fld F.ENG_INT_CAUSE_FAULT, .fld F.ENG_THR_STAT_CAUSE, .fld
  F.ENG_THR_STAT_PC, .fld F.PMC_INT_CAUSE_SMP_DROP, .fld H.ENG_PAST, .fld H.PMC_OVF_SKID, .fld H.PMC_OVF_THR] [sampled, counted, threads]
def wOri : List Part := of [.msix, .qdr, .fld F.ENG_GREG_VAL, .fld F.ENG_INT_CAUSE_FAULT, .fld F.ENG_THR_STAT_CAUSE, .fld
  F.ENG_THR_STAT_PC, .fld F.PMC_INT_CAUSE_SMP_DROP, .fld H.ENG_PAST, .fld H.PMC_OVF_SKID, .fld H.PMC_OVF_THR] [sampled, counted, threads]
def wXori : List Part := of [.msix, .qdr, .fld F.ENG_GREG_VAL, .fld F.ENG_INT_CAUSE_FAULT, .fld F.ENG_THR_STAT_CAUSE, .fld
  F.ENG_THR_STAT_PC, .fld F.PMC_INT_CAUSE_SMP_DROP, .fld H.ENG_PAST, .fld H.PMC_OVF_SKID, .fld H.PMC_OVF_THR] [sampled, counted, threads]
def wSlti : List Part := of [.msix, .qdr, .fld F.ENG_GREG_VAL, .fld F.ENG_INT_CAUSE_FAULT, .fld F.ENG_THR_STAT_CAUSE, .fld
  F.ENG_THR_STAT_PC, .fld F.PMC_INT_CAUSE_SMP_DROP, .fld H.ENG_PAST, .fld H.PMC_OVF_SKID, .fld H.PMC_OVF_THR] [sampled, counted, threads]
def wShi : List Part := of [.msix, .qdr, .fld F.ENG_GREG_VAL, .fld F.ENG_INT_CAUSE_FAULT, .fld F.ENG_THR_STAT_CAUSE, .fld
  F.ENG_THR_STAT_PC, .fld F.PMC_INT_CAUSE_SMP_DROP, .fld H.ENG_PAST, .fld H.PMC_OVF_SKID, .fld H.PMC_OVF_THR] [sampled, counted, threads]
def wLui : List Part := of [.msix, .qdr, .fld F.ENG_GREG_VAL, .fld F.ENG_INT_CAUSE_FAULT, .fld F.ENG_THR_STAT_CAUSE, .fld
  F.ENG_THR_STAT_PC, .fld F.PMC_INT_CAUSE_SMP_DROP, .fld H.ENG_PAST, .fld H.PMC_OVF_SKID, .fld H.PMC_OVF_THR] [sampled, counted, threads]
def wBeq : List Part := of [.msix, .qdr, .fld F.ENG_GREG_VAL, .fld F.ENG_INT_CAUSE_FAULT, .fld F.ENG_THR_STAT_CAUSE, .fld
  F.ENG_THR_STAT_PC, .fld F.PMC_INT_CAUSE_SMP_DROP, .fld H.ENG_PAST, .fld H.PMC_OVF_SKID, .fld H.PMC_OVF_THR] [sampled, counted, threads]
def wBne : List Part := of [.msix, .qdr, .fld F.ENG_GREG_VAL, .fld F.ENG_INT_CAUSE_FAULT, .fld F.ENG_THR_STAT_CAUSE, .fld
  F.ENG_THR_STAT_PC, .fld F.PMC_INT_CAUSE_SMP_DROP, .fld H.ENG_PAST, .fld H.PMC_OVF_SKID, .fld H.PMC_OVF_THR] [sampled, counted, threads]
def wBlt : List Part := of [.msix, .qdr, .fld F.ENG_GREG_VAL, .fld F.ENG_INT_CAUSE_FAULT, .fld F.ENG_THR_STAT_CAUSE, .fld
  F.ENG_THR_STAT_PC, .fld F.PMC_INT_CAUSE_SMP_DROP, .fld H.ENG_PAST, .fld H.PMC_OVF_SKID, .fld H.PMC_OVF_THR] [sampled, counted, threads]
def wBge : List Part := of [.msix, .qdr, .fld F.ENG_GREG_VAL, .fld F.ENG_INT_CAUSE_FAULT, .fld F.ENG_THR_STAT_CAUSE, .fld
  F.ENG_THR_STAT_PC, .fld F.PMC_INT_CAUSE_SMP_DROP, .fld H.ENG_PAST, .fld H.PMC_OVF_SKID, .fld H.PMC_OVF_THR] [sampled, counted, threads]
def wBltu : List Part := of [.msix, .qdr, .fld F.ENG_GREG_VAL, .fld F.ENG_INT_CAUSE_FAULT, .fld F.ENG_THR_STAT_CAUSE, .fld
  F.ENG_THR_STAT_PC, .fld F.PMC_INT_CAUSE_SMP_DROP, .fld H.ENG_PAST, .fld H.PMC_OVF_SKID, .fld H.PMC_OVF_THR] [sampled, counted, threads]
def wBgeu : List Part := of [.msix, .qdr, .fld F.ENG_GREG_VAL, .fld F.ENG_INT_CAUSE_FAULT, .fld F.ENG_THR_STAT_CAUSE, .fld
  F.ENG_THR_STAT_PC, .fld F.PMC_INT_CAUSE_SMP_DROP, .fld H.ENG_PAST, .fld H.PMC_OVF_SKID, .fld H.PMC_OVF_THR] [sampled, counted, threads]
def wJal : List Part := of [.msix, .qdr, .fld F.ENG_GREG_VAL, .fld F.ENG_INT_CAUSE_FAULT, .fld F.ENG_THR_STAT_CAUSE, .fld
  F.ENG_THR_STAT_PC, .fld F.PMC_INT_CAUSE_SMP_DROP, .fld H.PMC_OVF_SKID, .fld H.PMC_OVF_THR] [sampled, counted, threads]
def wJalr : List Part := of [.msix, .qdr, .fld F.ENG_GREG_VAL, .fld F.ENG_INT_CAUSE_FAULT, .fld F.ENG_THR_STAT_CAUSE, .fld
  F.ENG_THR_STAT_PC, .fld F.PMC_INT_CAUSE_SMP_DROP, .fld H.PMC_OVF_SKID, .fld H.PMC_OVF_THR] [sampled, counted, threads]
def wLdw : List Part := of [.msix, .qdr, .fld F.ENG_GREG_VAL, .fld F.ENG_INT_CAUSE_FAULT, .fld F.ENG_THR_STAT_CAUSE, .fld
  F.ENG_THR_STAT_PC, .fld F.PMC_INT_CAUSE_SMP_DROP, .fld H.ENG_PAST, .fld H.PMC_OVF_SKID, .fld H.PMC_OVF_THR] [sampled, counted, threads]
def wStw : List Part := of [.msix, .qdr, .fld F.ENG_GREG_VAL, .fld F.ENG_INT_CAUSE_FAULT, .fld F.ENG_THR_STAT_CAUSE, .fld
  F.ENG_THR_STAT_PC, .fld F.PMC_INT_CAUSE_SMP_DROP, .fld H.ENG_DMEM, .fld H.ENG_PAST, .fld H.PMC_OVF_SKID, .fld H.PMC_OVF_THR] [sampled,
  counted, threads]
def wLxch : List Part := of [.msix, .qdr, .fld F.ENG_GREG_VAL, .fld F.ENG_INT_CAUSE_FAULT, .fld F.ENG_THR_STAT_CAUSE, .fld
  F.ENG_THR_STAT_PC, .fld F.PMC_INT_CAUSE_SMP_DROP, .fld H.ENG_DMEM, .fld H.ENG_PAST, .fld H.PMC_OVF_SKID, .fld H.PMC_OVF_THR] [sampled,
  counted, threads]
def wLadd : List Part := of [.msix, .qdr, .fld F.ENG_GREG_VAL, .fld F.ENG_INT_CAUSE_FAULT, .fld F.ENG_THR_STAT_CAUSE, .fld
  F.ENG_THR_STAT_PC, .fld F.PMC_INT_CAUSE_SMP_DROP, .fld H.ENG_DMEM, .fld H.ENG_PAST, .fld H.PMC_OVF_SKID, .fld H.PMC_OVF_THR] [sampled,
  counted, threads]
def wRld : List Part := of [.msix, .qdr, .fld F.ENG_GREG_VAL, .fld F.ENG_INT_CAUSE_FAULT, .fld F.ENG_INT_CAUSE_SPILL_LOST, .fld
  F.ENG_TAG_AUTO, .fld F.ENG_THR_STAT_CAUSE, .fld F.ENG_THR_STAT_PC, .fld F.PMC_INT_CAUSE_SMP_DROP, .fld H.ENG_JRNL, .fld H.ENG_PAST, .fld
  H.ENG_SPILL_CNT, .fld H.PMC_OVF_SKID, .fld H.PMC_OVF_THR] [sampled, counted, threads, journal, tags, operations, finalState, tagEntry]
def wRst : List Part := of [.msix, .qdr, .fld F.ENG_GREG_VAL, .fld F.ENG_INT_CAUSE_FAULT, .fld F.ENG_INT_CAUSE_SPILL_LOST, .fld
  F.ENG_TAG_AUTO, .fld F.ENG_THR_STAT_CAUSE, .fld F.ENG_THR_STAT_PC, .fld F.PMC_INT_CAUSE_SMP_DROP, .fld H.ENG_JRNL, .fld H.ENG_PAST, .fld
  H.ENG_SPILL_CNT, .fld H.PMC_OVF_SKID, .fld H.PMC_OVF_THR] [sampled, counted, threads, journal, tags, operations, finalState, tagEntry]
def wDmar : List Part := of [.msix, .qdr, .fld F.ENG_GREG_VAL, .fld F.ENG_INT_CAUSE_FAULT, .fld F.ENG_INT_CAUSE_SPILL_LOST, .fld
  F.ENG_TAG_AUTO, .fld F.ENG_THR_STAT_CAUSE, .fld F.ENG_THR_STAT_PC, .fld F.PMC_INT_CAUSE_SMP_DROP, .fld H.ENG_JRNL, .fld H.ENG_PAST, .fld
  H.ENG_SPILL_CNT, .fld H.PMC_OVF_SKID, .fld H.PMC_OVF_THR] [sampled, counted, threads, journal, tags, operations, finalState, tagEntry]
def wDmaw : List Part := of [.msix, .qdr, .fld F.ENG_GREG_VAL, .fld F.ENG_INT_CAUSE_FAULT, .fld F.ENG_INT_CAUSE_SPILL_LOST, .fld
  F.ENG_TAG_AUTO, .fld F.ENG_THR_STAT_CAUSE, .fld F.ENG_THR_STAT_PC, .fld F.PMC_INT_CAUSE_SMP_DROP, .fld H.ENG_JRNL, .fld H.ENG_PAST, .fld
  H.ENG_SPILL_CNT, .fld H.PMC_OVF_SKID, .fld H.PMC_OVF_THR] [sampled, counted, threads, journal, tags, operations, finalState, tagEntry]
def wQrd : List Part := of [.msix, .qdr, .fld F.ENG_GREG_VAL, .fld F.ENG_INT_CAUSE_FAULT, .fld F.ENG_INT_CAUSE_SPILL_LOST, .fld
  F.ENG_TAG_AUTO, .fld F.ENG_THR_STAT_CAUSE, .fld F.ENG_THR_STAT_PC, .fld F.PMC_INT_CAUSE_SMP_DROP, .fld H.ENG_JRNL, .fld H.ENG_PAST, .fld
  H.ENG_SPILL_CNT, .fld H.PMC_OVF_SKID, .fld H.PMC_OVF_THR] [sampled, counted, threads, journal, tags, operations, finalState, tagEntry]
def wQwr : List Part := of [.msix, .qdr, .fld F.ENG_GREG_VAL, .fld F.ENG_INT_CAUSE_FAULT, .fld F.ENG_INT_CAUSE_SPILL_LOST, .fld
  F.ENG_TAG_AUTO, .fld F.ENG_THR_STAT_CAUSE, .fld F.ENG_THR_STAT_PC, .fld F.PMC_INT_CAUSE_SMP_DROP, .fld H.ENG_JRNL, .fld H.ENG_PAST, .fld
  H.ENG_SPILL_CNT, .fld H.PMC_OVF_SKID, .fld H.PMC_OVF_THR] [sampled, counted, threads, journal, tags, operations, finalState, tagEntry]
def wAswp : List Part := of [.msix, .qdr, .fld F.ENG_GREG_VAL, .fld F.ENG_INT_CAUSE_FAULT, .fld F.ENG_INT_CAUSE_SPILL_LOST, .fld
  F.ENG_TAG_AUTO, .fld F.ENG_THR_STAT_CAUSE, .fld F.ENG_THR_STAT_PC, .fld F.PMC_INT_CAUSE_SMP_DROP, .fld H.ENG_JRNL, .fld H.ENG_PAST, .fld
  H.ENG_SPILL_CNT, .fld H.PMC_OVF_SKID, .fld H.PMC_OVF_THR] [sampled, counted, threads, journal, tags, operations, finalState, tagEntry]
def wAadd : List Part := of [.msix, .qdr, .fld F.ENG_GREG_VAL, .fld F.ENG_INT_CAUSE_FAULT, .fld F.ENG_INT_CAUSE_SPILL_LOST, .fld
  F.ENG_TAG_AUTO, .fld F.ENG_THR_STAT_CAUSE, .fld F.ENG_THR_STAT_PC, .fld F.PMC_INT_CAUSE_SMP_DROP, .fld H.ENG_JRNL, .fld H.ENG_PAST, .fld
  H.ENG_SPILL_CNT, .fld H.PMC_OVF_SKID, .fld H.PMC_OVF_THR] [sampled, counted, threads, journal, tags, operations, finalState, tagEntry]
def wAand : List Part := of [.msix, .qdr, .fld F.ENG_GREG_VAL, .fld F.ENG_INT_CAUSE_FAULT, .fld F.ENG_INT_CAUSE_SPILL_LOST, .fld
  F.ENG_TAG_AUTO, .fld F.ENG_THR_STAT_CAUSE, .fld F.ENG_THR_STAT_PC, .fld F.PMC_INT_CAUSE_SMP_DROP, .fld H.ENG_JRNL, .fld H.ENG_PAST, .fld
  H.ENG_SPILL_CNT, .fld H.PMC_OVF_SKID, .fld H.PMC_OVF_THR] [sampled, counted, threads, journal, tags, operations, finalState, tagEntry]
def wAor : List Part := of [.msix, .qdr, .fld F.ENG_GREG_VAL, .fld F.ENG_INT_CAUSE_FAULT, .fld F.ENG_INT_CAUSE_SPILL_LOST, .fld
  F.ENG_TAG_AUTO, .fld F.ENG_THR_STAT_CAUSE, .fld F.ENG_THR_STAT_PC, .fld F.PMC_INT_CAUSE_SMP_DROP, .fld H.ENG_JRNL, .fld H.ENG_PAST, .fld
  H.ENG_SPILL_CNT, .fld H.PMC_OVF_SKID, .fld H.PMC_OVF_THR] [sampled, counted, threads, journal, tags, operations, finalState, tagEntry]
def wAcas : List Part := of [.msix, .qdr, .fld F.ENG_GREG_VAL, .fld F.ENG_INT_CAUSE_FAULT, .fld F.ENG_INT_CAUSE_SPILL_LOST, .fld
  F.ENG_TAG_AUTO, .fld F.ENG_THR_STAT_CAUSE, .fld F.ENG_THR_STAT_PC, .fld F.PMC_INT_CAUSE_SMP_DROP, .fld H.ENG_JRNL, .fld H.ENG_PAST, .fld
  H.ENG_SPILL_CNT, .fld H.PMC_OVF_SKID, .fld H.PMC_OVF_THR] [sampled, counted, threads, journal, tags, operations, finalState, tagEntry]
def wWait : List Part := of [.msix, .qdr, .fld F.ENG_GREG_VAL, .fld F.ENG_INT_CAUSE_FAULT, .fld F.ENG_THR_STAT_CAUSE, .fld
  F.ENG_THR_STAT_PC, .fld F.PMC_INT_CAUSE_SMP_DROP, .fld H.ENG_EDGE, .fld H.ENG_PAST, .fld H.PMC_OVF_SKID, .fld H.PMC_OVF_THR] [sampled,
  counted, threads, tags]
def wFence : List Part := of [.msix, .qdr, .fld F.ENG_GREG_VAL, .fld F.ENG_INT_CAUSE_FAULT, .fld F.ENG_THR_STAT_CAUSE, .fld
  F.ENG_THR_STAT_PC, .fld F.PMC_INT_CAUSE_SMP_DROP, .fld H.ENG_PAST, .fld H.PMC_OVF_SKID, .fld H.PMC_OVF_THR] [sampled, counted, threads]
def wJmark : List Part := of [.msix, .qdr, .fld F.ENG_GREG_VAL, .fld F.ENG_INT_CAUSE_FAULT, .fld F.ENG_INT_CAUSE_SPILL_LOST, .fld
  F.ENG_THR_STAT_CAUSE, .fld F.ENG_THR_STAT_PC, .fld F.PMC_INT_CAUSE_SMP_DROP, .fld H.ENG_JRNL, .fld H.ENG_PAST, .fld H.ENG_SPILL_CNT,
  .fld H.PMC_OVF_SKID, .fld H.PMC_OVF_THR] [sampled, counted, threads, journal]
def wTstat : List Part := of [.msix, .qdr, .fld F.ENG_GREG_VAL, .fld F.ENG_INT_CAUSE_FAULT, .fld F.ENG_THR_STAT_CAUSE, .fld
  F.ENG_THR_STAT_PC, .fld F.PMC_INT_CAUSE_SMP_DROP, .fld H.ENG_PAST, .fld H.PMC_OVF_SKID, .fld H.PMC_OVF_THR] [sampled, counted, threads]
def wTrel : List Part := of [.msix, .qdr, .fld F.ENG_GREG_VAL, .fld F.ENG_INT_CAUSE_FAULT, .fld F.ENG_TAG_AUTO, .fld F.ENG_THR_STAT_CAUSE,
  .fld F.ENG_THR_STAT_PC, .fld F.PMC_INT_CAUSE_SMP_DROP, .fld H.ENG_JRNL, .fld H.ENG_PAST, .fld H.PMC_OVF_SKID, .fld H.PMC_OVF_THR]
  [sampled, counted, threads, tags]
def wHalt : List Part := of [.msix, .qdr, .fld F.ENG_INT_CAUSE_FAULT, .fld F.ENG_INT_CAUSE_HALT, .fld F.ENG_THR_STAT_CAUSE, .fld
  F.PMC_INT_CAUSE_SMP_DROP, .fld H.PMC_OVF_SKID, .fld H.PMC_OVF_THR] [sampled, counted, threads]
def wYield : List Part := of [.msix, .qdr, .fld F.ENG_GREG_VAL, .fld F.ENG_INT_CAUSE_FAULT, .fld F.ENG_THR_STAT_CAUSE, .fld
  F.ENG_THR_STAT_PC, .fld F.PMC_INT_CAUSE_SMP_DROP, .fld H.ENG_PAST, .fld H.PMC_OVF_SKID, .fld H.PMC_OVF_THR] [sampled, counted, threads]
def wSetf : List Part := of [.msix, .qdr, .fld F.ENG_FLAGS_FLAG, .fld F.ENG_GREG_VAL, .fld F.ENG_INT_CAUSE_FAULT, .fld
  F.ENG_THR_STAT_CAUSE, .fld F.ENG_THR_STAT_PC, .fld F.PMC_INT_CAUSE_SMP_DROP, .fld H.ENG_PAST, .fld H.PMC_OVF_SKID, .fld H.PMC_OVF_THR]
  [sampled, counted, threads]
def wClrf : List Part := of [.msix, .qdr, .fld F.ENG_FLAGS_FLAG, .fld F.ENG_GREG_VAL, .fld F.ENG_INT_CAUSE_FAULT, .fld
  F.ENG_THR_STAT_CAUSE, .fld F.ENG_THR_STAT_PC, .fld F.PMC_INT_CAUSE_SMP_DROP, .fld H.ENG_PAST, .fld H.PMC_OVF_SKID, .fld H.PMC_OVF_THR]
  [sampled, counted, threads]
def wDrop : List Part := of [.msix, .qdr, .fld F.ENG_GREG_VAL, .fld F.ENG_INT_CAUSE_FAULT, .fld F.ENG_THR_STAT_CAUSE, .fld
  F.ENG_THR_STAT_PC, .fld F.ENG_THR_SUPER, .fld F.PMC_INT_CAUSE_SMP_DROP, .fld H.ENG_PAST, .fld H.PMC_OVF_SKID, .fld H.PMC_OVF_THR]
  [sampled, counted, threads]
def wSelf : List Part := of [.msix, .qdr, .fld F.ENG_GREG_VAL, .fld F.ENG_INT_CAUSE_FAULT, .fld F.ENG_THR_STAT_CAUSE, .fld
  F.ENG_THR_STAT_PC, .fld F.PMC_INT_CAUSE_SMP_DROP, .fld H.ENG_PAST, .fld H.PMC_OVF_SKID, .fld H.PMC_OVF_THR] [sampled, counted, threads]
def wTagExhaust : List Part := of [.msix, .qdr, .fld F.ENG_INT_CAUSE_FAULT, .fld F.ENG_THR_STAT_CAUSE, .fld F.PMC_INT_CAUSE_SMP_DROP, .fld
  H.PMC_OVF_SKID, .fld H.PMC_OVF_THR] [sampled, counted, threads]
def wOpAccept : List Part := of [.msix, .fld H.ENG_JRNL] [operations]
def wAccTmo : List Part := of [.msix, .qdr, .fld F.ENG_GREG_VAL, .fld F.ENG_THR_STAT_PC, .fld F.PMC_INT_CAUSE_SMP_DROP, .fld H.ENG_JRNL,
  .fld H.ENG_PAST] [sampled, counted, threads, tags, operations, finalState]
def wWaitEnd : List Part := of [.msix, .fld F.ENG_GREG_VAL, .fld F.ENG_THR_STAT_PC, .fld H.ENG_PAST] [threads, tags]
def wWaitTimeout : List Part := of [.msix, .fld F.ENG_GREG_VAL, .fld F.ENG_THR_STAT_PC, .fld H.ENG_PAST] [threads]
def wThreadStart : List Part := of [.msix, .qdr, .fld F.ENG_TAG_AUTO, .fld F.ENG_THR_STAT_CAUSE, .fld F.ENG_THR_STAT_PC, .fld
  F.PMC_INT_CAUSE_SMP_DROP, .fld F.SYS_INT_CAUSE_ROLE_LIMIT, .fld H.ENG_JRNL, .fld H.ENG_PAST] [sampled, counted, threads, accessed, tags]
def wThreadStop : List Part := of [.msix, .qdr, .fld F.PMC_INT_CAUSE_SMP_DROP] [sampled, counted, threads, accessed]
def wEngReset : List Part := of [.msix, .qdr, .fld F.CRY_LOCK_STAT_LOCK_BROKEN, .fld F.CRY_LOCK_STAT_OWNER, .fld F.ENG_CFG_ACC_TMO, .fld
  F.ENG_FLAGS_FLAG, .fld F.ENG_GREG_VAL, .fld F.ENG_INT_CAUSE_ACT_ERR, .fld F.ENG_INT_CAUSE_FAULT, .fld F.ENG_INT_CAUSE_HALT, .fld
  F.ENG_INT_CAUSE_MEM_REFUSED, .fld F.ENG_INT_CAUSE_SPILL_LOST, .fld F.ENG_INT_MASK_MASK, .fld F.ENG_JRNL_IDX_IDX, .fld
  F.ENG_MEM_ADDR_ADDR, .fld F.ENG_MEM_ADDR_SPACE, .fld F.ENG_QACC_FREE_R, .fld F.ENG_QACC_FREE_W, .fld F.ENG_QACC_LOG_R, .fld
  F.ENG_THR_STAT_CAUSE, .fld F.ENG_THR_STAT_PC, .fld F.ENG_UWIN_BASE, .fld F.ENG_UWIN_PAGES, .fld F.ENG_UWIN_WRITE, .fld
  F.MBX_LOCK_STAT_OWNER, .fld F.PMC_INT_CAUSE_SMP_DROP, .fld F.SYN_INT_CAUSE_PRIV_CLOSED, .fld F.SYN_NCO_CTRL_OPEN, .fld
  F.SYN_NCO_CTRL_OWNER, .fld H.ENG_JRNL, .fld H.ENG_PAST, .fld H.SYN_KEYSTEP, .fld H.SYN_NCO_RAMP] [sampled, counted, threads, accessed,
  keyStaging, tags, resetSeen, resetMarks, operations, finalState]
def wSpillPop : List Part := of [.msix, .qdr, .fld F.PMC_INT_CAUSE_SMP_DROP, .fld H.ENG_SPILL_CNT] [sampled, counted, accessed]
def wMbxDataWrite : List Part := of [.msix, .qdr, .fld F.MBX_DATA_DATA, .fld F.MBX_INT_CAUSE_ACCESS_ERR, .fld
  F.MBX_INT_CAUSE_POST_REFUSED, .fld F.MBX_STAT_POST_REFUSED, .fld F.PMC_INT_CAUSE_SMP_DROP] [sampled, counted, accessed]
def wDoorbell : List Part := of [.msix, .qdr, .fld F.MBX_DB_PEND_CH, .fld F.MBX_INT_CAUSE_ACCESS_ERR, .fld F.MBX_INT_CAUSE_DOORBELL, .fld
  F.MBX_INT_CAUSE_POST_REFUSED, .fld F.MBX_STAT_FULL, .fld F.MBX_STAT_LEN, .fld F.MBX_STAT_POST_REFUSED, .fld F.PMC_INT_CAUSE_SMP_DROP]
  [sampled, counted, accessed]
def wBind : List Part := of [.msix, .qdr, .fld F.MBX_BIND_EN, .fld F.MBX_BIND_RECEIVER, .fld F.MBX_BIND_SENDER, .fld
  F.MBX_INT_CAUSE_BIND_ERR, .fld F.PMC_INT_CAUSE_SMP_DROP] [sampled, counted, accessed, resetSeen]
def wMbxLockRelease : List Part := of [.msix, .qdr, .fld F.MBX_INT_CAUSE_LOCK_ERR, .fld F.MBX_LOCK_STAT_OWNER, .fld
  F.PMC_INT_CAUSE_SMP_DROP] [sampled, counted, accessed]
def wFunctionLevelReset : List Part := of [.msix, .qdr, .fld F.CRY_LOCK_STAT_LOCK_BROKEN, .fld F.CRY_LOCK_STAT_OWNER, .fld
  F.MBX_LOCK_STAT_OWNER, .fld F.PMC_INT_CAUSE_SMP_DROP, .fld F.SYN_INT_CAUSE_PRIV_CLOSED, .fld F.SYN_NCO_CTRL_OPEN, .fld
  F.SYN_NCO_CTRL_OWNER, .fld H.SYN_KEYSTEP, .fld H.SYN_NCO_RAMP] [sampled, counted, keyStaging, resetSeen, resetMarks]
def wPeerPost : List Part := of [.msix, .qdr, .fld F.MBX_DATA_DATA, .fld F.MBX_DB_PEND_CH, .fld F.MBX_INT_CAUSE_ACCESS_ERR, .fld
  F.MBX_INT_CAUSE_DOORBELL, .fld F.MBX_STAT_FULL, .fld F.MBX_STAT_LEN, .fld F.PMC_INT_CAUSE_SMP_DROP] [sampled, counted]
def wCntLoWrite : List Part := of [.msix, .qdr, .fld F.PMC_INT_CAUSE_SMP_DROP] [sampled, counted, accessed]
def wCntHiWrite : List Part := of [.msix, .qdr, .fld F.PMC_INT_CAUSE_SMP_DROP, .fld H.PMC_STAGE] [sampled, counted, accessed]
def wPmcOverflow : List Part := of [.msix, .qdr, .fld F.PMC_INT_CAUSE_SMP_DROP] [sampled, counted]
def wSamplePick : List Part := [.msix, .fld F.PMC_SMP_DROP_SKIP, .fld H.PMC_FOLLOW, .fld H.PMC_FOLLOW_HEAD, .fld H.PMC_FOLLOW_PC, .fld
  H.PMC_FOLLOW_T]
def wSampleRecord : List Part := of [.msix, .qdr, .fld F.PMC_INT_CAUSE_SMP_DROP, .fld H.PMC_FOLLOW] [sampled]
def wSmpPop : List Part := of [.msix, .qdr, .fld F.PMC_INT_CAUSE_SMP_DROP, .fld H.PMC_RING_HEAD] [sampled, counted, accessed]
def wMethodChange : List Part := [.msix, .fld F.PMC_INT_CAUSE_MODE_CHG, .fld F.PMC_SMP_STAT_METHOD]
def wHkaTimer : List Part := of [.msix, .fld F.HKA_INT_CAUSE_INJ_REFUSED, .fld F.HKA_INT_CAUSE_TRIG_MISS, .fld F.HKA_MISS_CNT_COUNT, .fld
  F.HKA_STAT_NEXT, .fld F.HKA_STAT_STATE, .fld H.HKA_TICKS] [converter]
def wSeqGo : List Part := of [.msix, .qdr, .fld F.HKA_INT_CAUSE_TRIG_MISS, .fld F.HKA_MISS_CNT_COUNT, .fld F.HKA_STAT_NEXT, .fld
  F.HKA_STAT_STATE, .fld F.PMC_INT_CAUSE_SMP_DROP] [sampled, counted, accessed]
def wDelayEnd : List Part := of [.msix, .fld F.HKA_STAT_STATE, .fld H.HKA_TICKS] [converter]
def wConversionEnd : List Part := of [.msix, .fld F.CAL_STAT_STATE, .fld F.FLT_CH_STAT_FADING, .fld F.FLT_CH_STAT_SAT, .fld
  F.FLT_CH_STAT_SWAP_HELD, .fld F.FLT_INT_CAUSE_ENV_HI, .fld F.FLT_INT_CAUSE_ENV_LO, .fld F.HKA_DIE_HOT_TEMP, .fld F.HKA_DIE_TEMP_TEMP,
  .fld F.HKA_INJ_RES_DATA, .fld F.HKA_INJ_RES_NEW, .fld F.HKA_INJ_RES_OVR, .fld F.HKA_INT_CAUSE_INJ_DONE, .fld F.HKA_INT_CAUSE_SEQ_DONE,
  .fld F.HKA_PWM_DUTY_VAL, .fld F.HKA_RES_DATA, .fld F.HKA_RES_NEW, .fld F.HKA_RES_OVR, .fld F.HKA_STAT_NEXT, .fld F.HKA_STAT_STATE, .fld
  F.LRX_LOFB_STAT_FINE, .fld F.LSR_INT_CAUSE_LOOP_LIMIT, .fld F.LSR_LOOP_STAT_AT_LIMIT, .fld F.LSR_LOOP_STAT_U, .fld F.PWR_VMIN_VMIN_MV,
  .fld H.CAL_AUTO_PEND, .fld H.CAL_PASSED, .fld H.FLT_DUE_VAL, .fld H.FLT_FADE_L, .fld H.FLT_IN, .fld H.FLT_IN_NEW, .fld H.FLT_PHASE, .fld
  H.FLT_SAMPLES, .fld H.FLT_SWAP_DUE, .fld H.FLT_TAP, .fld H.HKA_CODE, .fld H.HKA_FRESH, .fld H.HKA_INJ_CODE, .fld H.HKA_SCAN_DUE, .fld
  H.HKA_SCAN_S, .fld H.HKA_TICKS] [converter, avsRequest, filterState, calStart, vminRequest, fineTune, fade]
def wInjGo : List Part := of [.msix, .qdr, .fld F.HKA_INT_CAUSE_INJ_REFUSED, .fld F.HKA_STAT_STATE, .fld F.PMC_INT_CAUSE_SMP_DROP, .fld
  H.HKA_TICKS] [sampled, counted, accessed, converter]
def wBackgroundScan : List Part := of [.msix, .fld F.HKA_STAT_STATE, .fld H.HKA_SCAN_DUE, .fld H.HKA_SCAN_S, .fld H.HKA_TICKS] [converter]
def wHkaCalDone : List Part := of [.msix, .fld F.CAL_INT_CAUSE_NOREF, .fld F.CAL_STAT_STATE, .fld F.HKA_STAT_STATE, .fld H.BST_WAITING,
  .fld H.CAL_RETRY, .fld H.HKA_TICKS] [converter]
def wPwmPeriodStart : List Part := of [.msix, .fld F.HKA_INT_CAUSE_INJ_REFUSED, .fld F.HKA_INT_CAUSE_TRIG_MISS, .fld F.HKA_MISS_CNT_COUNT,
  .fld F.HKA_STAT_NEXT, .fld F.HKA_STAT_STATE, .fld H.HKA_PWM_A, .fld H.HKA_PWM_C, .fld H.HKA_PWM_CNT, .fld H.HKA_PWM_MINUS, .fld
  H.HKA_PWM_OUT, .fld H.HKA_PWM_P, .fld H.HKA_TICKS] [converter]
def wPwmCompare : List Part := of [.msix, .fld F.HKA_INT_CAUSE_INJ_REFUSED, .fld F.HKA_INT_CAUSE_TRIG_MISS, .fld F.HKA_MISS_CNT_COUNT,
  .fld F.HKA_STAT_NEXT, .fld F.HKA_STAT_STATE, .fld H.HKA_PWM_OUT, .fld H.HKA_TICKS] [converter]
def wFltSample : List Part := of [.msix, .fld F.FLT_CH_STAT_FADING, .fld F.FLT_CH_STAT_SAT, .fld F.FLT_CH_STAT_SWAP_HELD, .fld
  F.FLT_INT_CAUSE_ENV_HI, .fld F.FLT_INT_CAUSE_ENV_LO, .fld F.HKA_PWM_DUTY_VAL, .fld F.LRX_LOFB_STAT_FINE, .fld
  F.LSR_INT_CAUSE_LOOP_LIMIT, .fld F.LSR_LOOP_STAT_AT_LIMIT, .fld F.LSR_LOOP_STAT_U, .fld H.FLT_DUE_VAL, .fld H.FLT_FADE_L, .fld H.FLT_IN,
  .fld H.FLT_IN_NEW, .fld H.FLT_PHASE, .fld H.FLT_SAMPLES, .fld H.FLT_SWAP_DUE, .fld H.FLT_TAP] [filterState, fineTune, fade]
def wFltOutput : List Part := of [.msix, .fld F.FLT_CH_STAT_FADING, .fld F.FLT_CH_STAT_SAT, .fld F.FLT_CH_STAT_SWAP_HELD, .fld
  F.FLT_INT_CAUSE_ENV_HI, .fld F.FLT_INT_CAUSE_ENV_LO, .fld F.HKA_PWM_DUTY_VAL, .fld F.LRX_LOFB_STAT_FINE, .fld
  F.LSR_INT_CAUSE_LOOP_LIMIT, .fld F.LSR_LOOP_STAT_AT_LIMIT, .fld F.LSR_LOOP_STAT_U, .fld H.FLT_FADE_L, .fld H.FLT_SWAP_DUE, .fld
  H.FLT_TAP] [filterState, fineTune, fade]
def wFltValid : List Part := [.msix, .fld F.FLT_CH_STAT_VALID]
def wFirSwap : List Part := of [.msix, .qdr, .fld F.FLT_CH_STAT_SWAP_HELD, .fld F.PMC_INT_CAUSE_SMP_DROP, .fld H.FLT_FADE_L, .fld
  H.FLT_SWAP_DUE] [sampled, counted, accessed]
def wFirFadeDone : List Part := of [.msix, .fld F.FLT_CH_STAT_FADING, .fld F.FLT_CH_STAT_SWAP_HELD, .fld H.FLT_FADE_L, .fld
  H.FLT_SWAP_DUE, .fld H.FLT_TAP] [fade]
def wFltCfgWrite : List Part := of [.msix, .qdr, .fld F.FLT_CH_CFG_CHAIN, .fld F.FLT_CH_CFG_DEC_M1, .fld F.FLT_CH_CFG_LOCKIN, .fld
  F.FLT_CH_CFG_LOCKIN_PWM, .fld F.FLT_CH_CFG_MED, .fld F.FLT_CH_CFG_ORDER, .fld F.FLT_CH_CFG_SRC, .fld F.FLT_CH_CTRL_PRESET, .fld
  F.FLT_CH_STAT_FADING, .fld F.FLT_CH_STAT_SWAP_HELD, .fld F.FLT_CH_STAT_VALID, .fld F.PMC_INT_CAUSE_SMP_DROP, .fld H.FLT_IN_NEW, .fld
  H.FLT_PHASE, .fld H.FLT_SAMPLES, .fld H.FLT_SWAP_DUE] [sampled, counted, accessed, filterState]
def wFltPreset : List Part := of [.msix, .qdr, .fld F.FLT_CH_CFG_CHAIN, .fld F.FLT_CH_CFG_DEC_M1, .fld F.FLT_CH_CFG_MED, .fld
  F.FLT_CH_CFG_ORDER, .fld F.FLT_CH_CTRL_PRESET, .fld F.FLT_CH_STAT_FADING, .fld F.FLT_CH_STAT_SWAP_HELD, .fld F.FLT_CH_STAT_VALID, .fld
  F.PMC_INT_CAUSE_SMP_DROP, .fld H.FLT_IN_NEW, .fld H.FLT_PHASE, .fld H.FLT_SAMPLES, .fld H.FLT_SWAP_DUE, .fld H.FLT_TAP] [sampled,
  counted, accessed, filterState]
def wBiasLoopEnable : List Part := of [.msix, .qdr, .fld F.LSR_FT_OUT_OWNER, .fld F.LSR_INT_CAUSE_CFG_ERR, .fld F.LSR_LOOP_CFG_EN, .fld
  F.LSR_LOOP_CFG_IN_DET, .fld F.LSR_LOOP_CFG_IN_F, .fld F.LSR_LOOP_CFG_KI, .fld F.LSR_LOOP_CFG_SIGN, .fld F.LSR_LOOP_CFG_TARGET, .fld
  F.LSR_LOOP_STAT_AT_LIMIT, .fld F.LSR_LOOP_STAT_U, .fld F.PMC_INT_CAUSE_SMP_DROP] [sampled, counted, accessed]
def wSerCmd : List Part := of [.msix, .qdr, .fld F.LSR_SER_CMD_FRAME, .fld F.PMC_INT_CAUSE_SMP_DROP, .fld H.LSR_TUNE_PEND] [sampled,
  counted, accessed, serial]
def wSerResponse : List Part := of [.msix, .fld F.LSR_INT_CAUSE_SER_DONE, .fld F.LSR_INT_CAUSE_SER_ERR, .fld F.LSR_SER_RESP_FRAME, .fld
  H.LSR_OWN_DONE, .fld H.LSR_POLLING, .fld H.LSR_TUNE_PEND] [serial]
def wSerPoll : List Part := of [.msix, .fld F.LSR_INT_CAUSE_SER_DONE, .fld F.LSR_INT_CAUSE_SER_ERR, .fld H.LSR_OWN_DONE, .fld
  H.LSR_POLLING, .fld H.LSR_TUNE_PEND] [serial]
def wSerTimeout : List Part := of [.msix, .fld F.LSR_INT_CAUSE_SER_DONE, .fld F.LSR_INT_CAUSE_SER_ERR, .fld H.LSR_OWN_DONE, .fld
  H.LSR_POLLING, .fld H.LSR_TUNE_PEND] [serial]
def wFtOutWrite : List Part := of [.msix, .qdr, .fld F.LRX_LOFB_STAT_FINE, .fld F.LSR_INT_CAUSE_OWNED, .fld F.PMC_INT_CAUSE_SMP_DROP]
  [sampled, counted, accessed, fineTune]
def wGainKhzWrite : List Part := of [.msix, .qdr, .fld F.LRX_LOFB_STAT_FINE, .fld F.LSR_FT_CFG_GAIN_KHZ, .fld F.LSR_INT_CAUSE_CFG_ERR,
  .fld F.PMC_INT_CAUSE_SMP_DROP] [sampled, counted, accessed, fineTune]
def wGoFull : List Part := of [.msix, .qdr, .fld F.CAL_INT_CAUSE_BUSY, .fld F.CAL_STAT_STATE, .fld F.HKA_STAT_STATE, .fld
  F.PMC_INT_CAUSE_SMP_DROP, .fld H.CAL_PASSED, .fld H.HKA_TICKS] [sampled, counted, accessed, converter, calStart]
def wGoTrack : List Part := of [.msix, .qdr, .fld F.CAL_INT_CAUSE_BUSY, .fld F.CAL_STAT_STATE, .fld F.HKA_STAT_STATE, .fld
  F.PMC_INT_CAUSE_SMP_DROP, .fld H.CAL_PASSED, .fld H.HKA_TICKS] [sampled, counted, accessed, converter, calStart]
def wCalRetryExpiry : List Part := [.msix, .fld H.CAL_RETRY]
def wCalAbort : List Part := of [.msix, .qdr, .fld F.CAL_INT_CAUSE_ABORTED, .fld F.CAL_STAT_STATE, .fld F.HKA_STAT_STATE, .fld
  F.PMC_INT_CAUSE_SMP_DROP, .fld H.BST_WAITING, .fld H.CAL_RETRY, .fld H.HKA_TICKS] [sampled, counted, accessed, converter]
def wSineCheck : List Part := of [.msix, .fld F.CAL_INT_CAUSE_NOREF, .fld F.CAL_STAT_STATE, .fld F.HKA_STAT_STATE, .fld H.BST_WAITING,
  .fld H.CAL_RETRY, .fld H.HKA_TICKS] [converter]
def wCalPassEnd : List Part := [.msix, .fld F.CAL_STAT_STATE, .fld H.CAL_PASSED]
def wCalRunEnd : List Part := of [.flash, .msix, .fld F.CAL_ADC_STAT_SHORT, .fld F.CAL_ADC_STAT_SPARES_FREE, .fld
  F.CAL_ADC_STAT_WORST_GAIN, .fld F.CAL_ADC_STAT_WORST_OFS, .fld F.CAL_ADC_STAT_WORST_SKEW, .fld F.CAL_COUNT_VAL, .fld
  F.CAL_DAC_STAT_SHORT, .fld F.CAL_DAC_STAT_SPARES_FREE, .fld F.CAL_DAC_STAT_WORST_GAIN, .fld F.CAL_DAC_STAT_WORST_OFS, .fld
  F.CAL_DIS_STAT_DAC, .fld F.CAL_DIS_STAT_DIFF, .fld F.CAL_DIS_STAT_ELEM, .fld F.CAL_DIS_STAT_P, .fld F.CAL_DIS_STAT_QTY, .fld
  F.CAL_INT_CAUSE_CAL_DISAGREE, .fld F.CAL_INT_CAUSE_DONE, .fld F.CAL_INT_CAUSE_REPAIR, .fld F.CAL_LAST_TEMP_VAL, .fld
  F.CAL_LAST_TIME_VAL, .fld F.CAL_STAT_FLASH_BUSY, .fld F.CAL_STAT_SOURCE, .fld F.CAL_STAT_STATE, .fld F.CAL_STAT_VALID, .fld
  F.CVT_ADC_STAT_READY, .fld F.CVT_DAC_STAT_READY, .fld F.HKA_STAT_STATE, .fld H.BST_WAITING, .fld H.CAL_ADC_SEL, .fld H.CAL_ADC_TRIM,
  .fld H.CAL_DAC_SEL, .fld H.CAL_DAC_TRIM, .fld H.CAL_RETRY, .fld H.HKA_TICKS] [converter]
def wCalFlashDone : List Part := [.flash, .msix, .fld F.CAL_INT_CAUSE_FLASH_ERR, .fld F.CAL_STAT_FLASH_BUSY, .fld F.CAL_STAT_STATE, .fld
  H.BST_WAITING]
def wBistGo : List Part := of [.msix, .qdr, .fld F.BST_CTRL_MASK, .fld F.BST_CTRL_OVERRIDE, .fld F.BST_INT_CAUSE_REFUSED, .fld
  F.BST_INT_CAUSE_SAFE, .fld F.BST_STAT_CUR, .fld F.BST_STAT_SAFE, .fld F.CAL_STAT_STATE, .fld F.HKA_STAT_STATE, .fld F.LTX_STAT_MUTE_SRC,
  .fld F.PMC_INT_CAUSE_SMP_DROP, .fld H.BST_WAITING, .fld H.CAL_AUTO_PEND, .fld H.CAL_PASSED, .fld H.ENG_DMEM, .fld H.HKA_TICKS, .fld
  H.LTX_OUTPUT] [sampled, counted, accessed, converter, calStart, laser, slices]
def wBistAbort : List Part := of [.msix, .qdr, .fld F.CAL_STAT_STATE, .fld F.ENG_TAG_AUTO, .fld F.ENG_THR_STAT_CAUSE, .fld
  F.ENG_THR_STAT_PC, .fld F.HKA_STAT_STATE, .fld F.PMC_INT_CAUSE_SMP_DROP, .fld F.SE_IMG_STAT_TRIAL_LEFT, .fld F.SYS_INT_CAUSE_BOOT_DONE,
  .fld F.SYS_INT_CAUSE_ROLE_LIMIT, .fld F.SYS_STAT_HOST_OPEN, .fld F.SYS_STAT_PHASE, .fld H.BST_WAITING, .fld H.CAL_AUTO_PEND, .fld
  H.CAL_PASSED, .fld H.ENG_DMEM, .fld H.ENG_JRNL, .fld H.ENG_PAST, .fld H.HKA_TICKS] [sampled, counted, threads, accessed, converter,
  tags, calStart, slices]
def wSliceEnd : List Part := of [.msix, .qdr, .fld F.BST_INT_CAUSE_FAIL, .fld F.BST_INT_CAUSE_REFUSED, .fld F.BST_INT_CAUSE_SAFE, .fld
  F.BST_RESULT_DETAIL, .fld F.BST_RESULT_ELAPSED, .fld F.BST_STAT_CUR, .fld F.BST_STAT_SAFE, .fld F.BST_STAT_SAFE_BY, .fld
  F.CAL_STAT_STATE, .fld F.ENG_TAG_AUTO, .fld F.ENG_THR_STAT_CAUSE, .fld F.ENG_THR_STAT_PC, .fld F.HKA_STAT_STATE, .fld
  F.LTX_STAT_MUTE_SRC, .fld F.SE_IMG_STAT_TRIAL_LEFT, .fld F.SYS_INT_CAUSE_BOOT_DONE, .fld F.SYS_INT_CAUSE_ROLE_LIMIT, .fld
  F.SYS_STAT_HOST_OPEN, .fld F.SYS_STAT_PHASE, .fld H.BST_WAITING, .fld H.CAL_AUTO_PEND, .fld H.CAL_PASSED, .fld H.ENG_DMEM, .fld
  H.ENG_JRNL, .fld H.ENG_PAST, .fld H.HKA_TICKS, .fld H.LTX_OUTPUT] [threads, converter, tags, calStart, laser, slices]
def wSliceTimeout : List Part := of [.msix, .qdr, .fld F.BST_INT_CAUSE_FAIL, .fld F.BST_INT_CAUSE_REFUSED, .fld F.BST_INT_CAUSE_SAFE, .fld
  F.BST_RESULT_DETAIL, .fld F.BST_RESULT_ELAPSED, .fld F.BST_STAT_CUR, .fld F.BST_STAT_SAFE, .fld F.BST_STAT_SAFE_BY, .fld
  F.CAL_STAT_STATE, .fld F.ENG_TAG_AUTO, .fld F.ENG_THR_STAT_CAUSE, .fld F.ENG_THR_STAT_PC, .fld F.HKA_STAT_STATE, .fld
  F.LTX_STAT_MUTE_SRC, .fld F.SE_IMG_STAT_TRIAL_LEFT, .fld F.SYS_INT_CAUSE_BOOT_DONE, .fld F.SYS_INT_CAUSE_ROLE_LIMIT, .fld
  F.SYS_STAT_HOST_OPEN, .fld F.SYS_STAT_PHASE, .fld H.BST_WAITING, .fld H.CAL_AUTO_PEND, .fld H.CAL_PASSED, .fld H.ENG_DMEM, .fld
  H.ENG_JRNL, .fld H.ENG_PAST, .fld H.HKA_TICKS, .fld H.LTX_OUTPUT] [threads, converter, tags, calStart, laser, slices]
def wOverride : List Part := of [.msix, .qdr, .fld F.BST_CTRL_OVERRIDE, .fld F.BST_INT_CAUSE_SAFE, .fld F.BST_STAT_SAFE, .fld
  F.LTX_STAT_MUTE_SRC, .fld F.PMC_INT_CAUSE_SMP_DROP, .fld H.LTX_OUTPUT] [sampled, counted, accessed, laser]
def wLcmTransition : List Part := of [.msix, .qdr, .fld F.LCM_CHALLENGE_VAL, .fld F.LCM_INT_CAUSE_REFUSED, .fld F.LCM_STAT_BUSY, .fld
  F.LCM_STAT_ERR, .fld F.PMC_INT_CAUSE_SMP_DROP, .fld H.LCM_CHAL_AGE, .fld H.LCM_TARGET] [sampled, counted, accessed]
def wKeyCommit : List Part := of [.msix, .qdr, .fld F.LCM_INT_CAUSE_REFUSED, .fld F.LCM_KEY_CTRL_SLOT, .fld F.LCM_KEY_STAT_REVOKED, .fld
  F.LCM_KEY_STAT_WRITTEN, .fld F.LCM_STAT_ERR, .fld F.PMC_INT_CAUSE_SMP_DROP, .fld H.LCM_FUSE_HASH] [sampled, counted, accessed]
def wKeyRevoke : List Part := of [.msix, .qdr, .fld F.LCM_INT_CAUSE_REFUSED, .fld F.LCM_KEY_CTRL_SLOT, .fld F.LCM_KEY_STAT_REVOKED, .fld
  F.LCM_KEY_STAT_WRITTEN, .fld F.LCM_STAT_ERR, .fld F.PMC_INT_CAUSE_SMP_DROP, .fld H.LCM_FUSE_HASH] [sampled, counted, accessed]
def wPeerEnable : List Part := of [.msix, .qdr, .fld F.LTX_STAT_MUTE_SRC, .fld F.PEER_CTRL_EN, .fld F.PMC_INT_CAUSE_SMP_DROP, .fld
  H.LTX_OUTPUT] [sampled, counted, accessed, peerMute, pairState, laser]
def wPeerDisable : List Part := of [.msix, .qdr, .fld F.CRY_LOCK_STAT_LOCK_BROKEN, .fld F.CRY_LOCK_STAT_OWNER, .fld F.LTX_STAT_MUTE_SRC,
  .fld F.MBX_LOCK_STAT_OWNER, .fld F.PEER_CTRL_EN, .fld F.PEER_INT_CAUSE_LINK_CHG, .fld F.PEER_STAT_LANE_LOCK, .fld F.PEER_STAT_LINK, .fld
  F.PMC_INT_CAUSE_SMP_DROP, .fld H.LTX_OUTPUT, .fld H.PEER_SETTLING, .fld H.SYN_QL_SENT] [sampled, counted, accessed, synShown, peerMute,
  pairState, keyStaging, resetSeen, laser, resetMarks]
def wPeerLinkUp : List Part := of [.msix, .fld F.LTX_STAT_MUTE_SRC, .fld F.PEER_DELAY_DELAY, .fld F.PEER_INT_CAUSE_LINK_CHG, .fld
  F.PEER_INT_CAUSE_MISMATCH, .fld F.PEER_INT_CAUSE_SPLIT, .fld F.PEER_STAT_LANE_LOCK, .fld F.PEER_STAT_LINK, .fld F.PEER_STAT_MISMATCH,
  .fld H.LTX_OUTPUT, .fld H.PEER_PARTNER, .fld H.SYN_QL_SENT] [synShown, peerMute, pairState, laser]
def wPeerLinkFail : List Part := of [.msix, .qdr, .fld F.CRY_LOCK_STAT_LOCK_BROKEN, .fld F.CRY_LOCK_STAT_OWNER, .fld F.LTX_STAT_MUTE_SRC,
  .fld F.MBX_LOCK_STAT_OWNER, .fld F.PEER_INT_CAUSE_LINK_CHG, .fld F.PEER_STAT_LANE_LOCK, .fld F.PEER_STAT_LINK, .fld
  F.PMC_INT_CAUSE_SMP_DROP, .fld H.LTX_OUTPUT, .fld H.SYN_QL_SENT] [sampled, counted, synShown, peerMute, pairState, keyStaging,
  resetSeen, laser, resetMarks]
def wHeartbeatTmo : List Part := of [.msix, .qdr, .fld F.CRY_LOCK_STAT_LOCK_BROKEN, .fld F.CRY_LOCK_STAT_OWNER, .fld F.LTX_STAT_MUTE_SRC,
  .fld F.MBX_LOCK_STAT_OWNER, .fld F.PEER_INT_CAUSE_LINK_CHG, .fld F.PEER_STAT_LINK, .fld F.PMC_INT_CAUSE_SMP_DROP, .fld H.LTX_OUTPUT,
  .fld H.SYN_QL_SENT] [sampled, counted, synShown, peerMute, pairState, keyStaging, resetSeen, laser, resetMarks]
def wLinkWaitExpiry : List Part := of [.msix, .fld F.LTX_STAT_MUTE_SRC, .fld H.LTX_OUTPUT] [peerMute, pairState, laser]
def wForceActive : List Part := of [.msix, .qdr, .fld F.LTX_STAT_MUTE_SRC, .fld F.PMC_INT_CAUSE_SMP_DROP, .fld H.LTX_OUTPUT] [sampled,
  counted, accessed, peerMute, pairState, laser]
def wSyncDone : List Part := of [.msix, .fld F.LTX_STAT_MUTE_SRC, .fld F.PEER_INT_CAUSE_SYNC_DONE, .fld H.LTX_OUTPUT, .fld H.PEER_PARTNER]
  [peerMute, pairState, laser]
def wSwitch : List Part := of [.msix, .qdr, .fld F.LTX_STAT_MUTE_SRC, .fld F.PEER_INT_CAUSE_SWITCH_REFUSED, .fld F.PMC_INT_CAUSE_SMP_DROP,
  .fld H.LTX_OUTPUT, .fld H.PEER_PARTNER] [sampled, counted, accessed, peerMute, pairState, laser]
def wActiveFault : List Part := of [.msix, .fld F.LTX_STAT_MUTE_SRC, .fld H.LTX_OUTPUT, .fld H.PEER_PARTNER] [peerMute, pairState, laser]
def wPartnerLost : List Part := of [.msix, .vlk, .arr H.FRM_WIN_ON, .fld F.CRY_INT_CAUSE_GUARD_JUMP, .fld F.LTX_STAT_MUTE_SRC, .fld
  F.PEER_INT_CAUSE_TAKEOVER, .fld F.PEER_STAT_LAST_TRIG, .fld F.PEER_TAKE_CNT_COUNT, .fld F.SCM_CHG_STAT_DS_STATE, .fld
  F.SCM_CHG_STAT_US_STATE, .fld F.SCM_GRANT_STAT_STATE, .fld F.SCM_INT_CAUSE_CHG_FAIL, .fld F.SCM_NAK_MAP_LEAF, .fld
  F.VLK_INT_CAUSE_GRANT_FAIL, .fld H.CRY_NEXT, .fld H.FLW_LOST_HELD, .fld H.LTX_OUTPUT, .fld H.PEER_SETTLING, .fld H.SCM_ACKED, .fld
  H.SCM_ADDRESSED, .fld H.SCM_GRANT_ACKED, .fld H.SCM_GRANT_ADDR, .fld H.VLK_SEQ] [peerMute, pairState, laser]
def wHandover : List Part := of [.msix, .vlk, .arr H.FRM_WIN_ON, .fld F.CRY_INT_CAUSE_GUARD_JUMP, .fld F.LTX_STAT_MUTE_SRC, .fld
  F.PEER_INT_CAUSE_TAKEOVER, .fld F.PEER_STAT_LAST_TRIG, .fld F.PEER_TAKE_CNT_COUNT, .fld F.SCM_CHG_STAT_DS_STATE, .fld
  F.SCM_CHG_STAT_US_STATE, .fld F.SCM_GRANT_STAT_STATE, .fld F.SCM_INT_CAUSE_CHG_FAIL, .fld F.SCM_NAK_MAP_LEAF, .fld
  F.VLK_INT_CAUSE_GRANT_FAIL, .fld H.CRY_NEXT, .fld H.FLW_LOST_HELD, .fld H.LTX_OUTPUT, .fld H.PEER_PARTNER, .fld H.PEER_SETTLING, .fld
  H.SCM_ACKED, .fld H.SCM_ADDRESSED, .fld H.SCM_GRANT_ACKED, .fld H.SCM_GRANT_ADDR, .fld H.VLK_SEQ] [peerMute, pairState, laser]
def wLaserSettled : List Part := of [.msix, .fld F.LTX_STAT_MUTE_SRC, .fld H.LTX_OUTPUT, .fld H.PEER_SETTLING] [peerMute, pairState,
  laser]
def wEqdMeasure : List Part := [.msix, .vlk, .fld F.PEER_EQD_MEAS_EQD, .fld F.PEER_EQD_MEAS_VALID, .fld F.PEER_INT_CAUSE_EQD_UPD, .fld
  F.VLK_LEAF_EQD_EQD, .fld F.VLK_LEAF_EQD_VALID, .fld H.VLK_SEQ]
def wRailWarn : List Part := [.msix, .fld F.PWR_INT_CAUSE_RAIL_WARN, .fld F.PWR_RAIL_STAT_WARN]
def wResetRelease : List Part := [.msix, .fld F.PWR_RAIL_STAT_GOOD, .fld H.SYS_HELD]
def wAvsSet : List Part := of [.msix, .qdr, .fld F.PMC_INT_CAUSE_SMP_DROP, .fld F.PWR_AVS_SET_MV, .fld F.PWR_INT_CAUSE_AVS_REFUSED]
  [sampled, counted, accessed, avsRequest]
def wAvsPoll : List Part := of [.msix, .qdr, .fld F.LRX_SC_STAT_LOCK, .fld F.PMC_INT_CAUSE_SMP_DROP, .fld F.PWR_AVS_READ_MV, .fld
  F.PWR_INT_CAUSE_SLACK, .fld F.PWR_REST_STAT_WAKE_HELD, .fld F.PWR_SAFE_STAT_AVS_CEILING, .fld H.LRX_LLR_HOLD, .fld H.LRX_QUAD, .fld
  H.LRX_TAPS, .fld H.LRX_WIN_LOCK, .fld H.PWR_HOLD_RX, .fld H.PWR_HOLD_TX] [sampled, counted, avsRequest, tracking, vminRequest]
def wAvsAck : List Part := of [.msix, .qdr, .fld F.LRX_SC_STAT_LOCK, .fld F.PMC_INT_CAUSE_SMP_DROP, .fld F.PWR_AVS_READ_MV, .fld
  F.PWR_INT_CAUSE_SLACK, .fld F.PWR_REST_STAT_WAKE_HELD, .fld F.PWR_SAFE_STAT_AVS_CEILING, .fld H.LRX_LLR_HOLD, .fld H.LRX_QUAD, .fld
  H.LRX_TAPS, .fld H.LRX_WIN_LOCK, .fld H.PWR_HOLD_RX, .fld H.PWR_HOLD_TX] [sampled, counted, avsRequest, tracking, vminRequest]
def wAvsTimeout : List Part := of [.msix, .fld F.PWR_INT_CAUSE_SLACK, .fld F.PWR_INT_CAUSE_WAKE_HELD, .fld F.PWR_REST_STAT_WAKE_HELD, .fld
  F.PWR_SAFE_STAT_AVS_FAIL] [avsRequest, vminRequest]
def wPmbCmd : List Part := of [.msix, .qdr, .fld F.PMC_INT_CAUSE_SMP_DROP, .fld F.PWR_PMB_CMD_ADDR, .fld F.PWR_PMB_CMD_CODE, .fld
  F.PWR_PMB_CMD_GO, .fld F.PWR_PMB_CMD_READ] [sampled, counted, accessed]
def wRestEnter : List Part := of [.msix, .qdr, .fld F.LTX_STAT_MUTE_SRC, .fld F.PMC_INT_CAUSE_SMP_DROP, .fld F.PWR_INT_CAUSE_REST_REFUSED,
  .fld F.PWR_REST_STAT_ERR, .fld F.PWR_REST_STAT_STATE, .fld H.HSL_OUT, .fld H.LTX_OUTPUT, .fld H.PWR_WAKE_PEND] [sampled, counted,
  accessed]
def wRestEntryDone : List Part := of [.msix, .syn, .arr H.HSL_OUT, .fld F.PWR_INT_CAUSE_REST_ENTERED, .fld F.PWR_REST_STAT_STATE, .fld
  F.PWR_SLACK_LVL_NOW, .fld F.SYN_INT_CAUSE_LOOP_CHG, .fld F.SYN_REF_STAT_WTR_LEFT, .fld F.SYN_STAT_LOOP, .fld H.PWR_ARMED, .fld
  H.PWR_LOW, .fld H.PWR_PREFILLED, .fld H.PWR_QDR_RET, .fld H.PWR_WAKE_PEND, .fld H.SYN_GOOD, .fld H.SYN_LOCK_FULL, .fld H.SYN_QL_SENT]
  [synShown, avsRequest, vminRequest]
def wRestWake : List Part := of [.msix, .qdr, .fld F.PMC_INT_CAUSE_SMP_DROP, .fld F.PWR_REST_STAT_STATE, .fld H.PWR_WAKE_PEND] [sampled,
  counted, accessed, avsRequest, vminRequest]
def wFlRead : List Part := of [.flash, .msix, .qdr, .fld F.BOOT_FL_CMD_GO, .fld F.BOOT_FL_CMD_LEN, .fld F.BOOT_FL_CMD_OP, .fld
  F.BOOT_FL_DATA_DATA, .fld F.BOOT_FL_STAT_BUSY, .fld F.BOOT_FL_STAT_ERR, .fld F.PMC_INT_CAUSE_SMP_DROP] [sampled, counted, accessed]
def wFlProgram : List Part := of [.flash, .msix, .qdr, .fld F.BOOT_FL_CMD_GO, .fld F.BOOT_FL_CMD_LEN, .fld F.BOOT_FL_CMD_OP, .fld
  F.BOOT_FL_DATA_DATA, .fld F.BOOT_FL_STAT_BUSY, .fld F.BOOT_FL_STAT_ERR, .fld F.PMC_INT_CAUSE_SMP_DROP] [sampled, counted, accessed]
def wFlErase : List Part := of [.flash, .msix, .qdr, .fld F.BOOT_FL_CMD_GO, .fld F.BOOT_FL_CMD_LEN, .fld F.BOOT_FL_CMD_OP, .fld
  F.BOOT_FL_DATA_DATA, .fld F.BOOT_FL_STAT_BUSY, .fld F.BOOT_FL_STAT_ERR, .fld F.PMC_INT_CAUSE_SMP_DROP] [sampled, counted, accessed]
def wFlDone : List Part := [.msix, .fld F.BOOT_FL_CMD_GO, .fld F.BOOT_FL_STAT_BUSY, .fld F.BOOT_FL_STAT_ERR]
def wConverterClockLock : List Part := [.msix, .fld F.CVT_ADC_STAT_CLK_LOCK, .fld F.CVT_ADC_STAT_READY, .fld F.CVT_DAC_STAT_CLK_LOCK, .fld
  F.CVT_DAC_STAT_READY, .fld H.BST_WAITING]
def wPhaseReacquired : List Part := [.msix, .fld H.FEC_PART, .fld H.LRX_LLR_HOLD]
def wPpsInValidExpiry : List Part := [.msix, .fld F.SYN_PPS_IN_ERR_VALID]
def wPmbCmdDone : List Part := [.msix, .fld F.PWR_PMB_CMD_GO, .fld F.PWR_PMB_DATA_DATA, .fld F.PWR_PMB_DATA_NACK]
def wTraceWriteTimeout : List Part := [.msix, .fld F.PMC_INT_CAUSE_SMP_DROP, .fld F.PMC_SMP_DROP_TRACE]

end Footprint

/-- What a command may write beyond the record of what was put out and the count of free values. `none`: a command that may write any
register, or that resets the device. -/
def footprint (c : Instr) : Option (List Part) :=
  match c with
  | .registerWrite _ _ _ _ => none
  | .readClear _ _ => none
  | .snapshotRead _ _ => none
  | .pcieUnsupportedRequest _ _ _ => some Footprint.wPcieUnsupportedRequest
  | .sysLock _ => some Footprint.wSysLock
  | .bridgePrefilled _ => some Footprint.wBridgePrefilled
  | .bridgeUnderflow _ => some Footprint.wBridgeUnderflow
  | .bridgeOverflow _ => some Footprint.wBridgeOverflow
  | .slackLow _ _ => some Footprint.wSlackLow
  | .hardMarginCrossing _ _ => some Footprint.wHardMarginCrossing
  | .avsDecreaseRequest _ => some Footprint.wAvsDecreaseRequest
  | .autoRelease _ => some Footprint.wAutoRelease
  | .release _ => some Footprint.wRelease
  | .actionReleaseEffect => some Footprint.wActionReleaseEffect
  | .slackCfgWrite _ _ => some Footprint.wSlackCfgWrite
  | .ltxEnable => some Footprint.wLtxEnable
  | .ltxStart => some Footprint.wLtxStart
  | .ltxDisable => some Footprint.wLtxDisable
  | .hostMute _ => some Footprint.wHostMute
  | .muteResume => some Footprint.wMuteResume
  | .loadSwap _ => some Footprint.wLoadSwap
  | .freqOfsWrite _ => some Footprint.wFreqOfsWrite
  | .freqOfsApply => some Footprint.wFreqOfsApply
  | .cdpreGo => some Footprint.wCdpreGo
  | .cdpreFadeDone _ => some Footprint.wCdpreFadeDone
  | .skewWrite _ _ => some Footprint.wSkewWrite
  | .skewSlewDone _ => some Footprint.wSkewSlewDone
  | .peqSwap => some Footprint.wPeqSwap
  | .peqSwapApply => some Footprint.wPeqSwapApply
  | .pdSwap => some Footprint.wPdSwap
  | .pdSwapApply => some Footprint.wPdSwapApply
  | .lrxEnable => some Footprint.wLrxEnable
  | .lrxDisable => some Footprint.wLrxDisable
  | .losSet _ => some Footprint.wLosSet
  | .losClear _ => some Footprint.wLosClear
  | .losHoldExpiry => some Footprint.wLosHoldExpiry
  | .cdGo => some Footprint.wCdGo
  | .cdArm => some Footprint.wCdArm
  | .cdDisarm => some Footprint.wCdDisarm
  | .cdFadeDone _ => some Footprint.wCdFadeDone
  | .cdEstimateDone _ => some Footprint.wCdEstimateDone
  | .coarseLock _ _ => some Footprint.wCoarseLock
  | .acqTmo => some Footprint.wAcqTmo
  | .scLock _ _ => some Footprint.wScLock
  | .scUnlock _ _ => some Footprint.wScUnlock
  | .trackLost => some Footprint.wTrackLost
  | .singular _ _ _ => some Footprint.wSingular
  | .cycleSlip _ _ => some Footprint.wCycleSlip
  | .lofbUpdate _ => some Footprint.wLofbUpdate
  | .lofbOffloadDone => some Footprint.wLofbOffloadDone
  | .lofbErr => some Footprint.wLofbErr
  | .restart => some Footprint.wRestart
  | .snrLatch _ _ _ => some Footprint.wSnrLatch
  | .dmErr _ _ => some Footprint.wDmErr
  | .tapSetSwitch _ _ _ => some Footprint.wTapSetSwitch
  | .commitDs => some Footprint.wCommitDs
  | .commitUs => some Footprint.wCommitUs
  | .abortDs => some Footprint.wAbortDs
  | .abortUs => some Footprint.wAbortUs
  | .loadAnnounce _ => some Footprint.wLoadAnnounce
  | .loadAckTmo _ => some Footprint.wLoadAckTmo
  | .fecCfgWrite _ => some Footprint.wFecCfgWrite
  | .codewordDecode _ _ _ _ _ _ => some Footprint.wCodewordDecode
  | .vlkEnable => some Footprint.wVlkEnable
  | .vlkDisable => some Footprint.wVlkDisable
  | .vdfReceive _ _ _ _ _ _ _ _ _ _ _ => some Footprint.wVdfReceive
  | .beaconLost _ => some Footprint.wBeaconLost
  | .mgmtContainer _ _ => some Footprint.wMgmtContainer
  | .treeInfo _ _ _ _ _ _ _ _ _ _ _ => some Footprint.wTreeInfo
  | .regReq _ => some Footprint.wRegReq
  | .regAssign _ _ _ _ _ _ _ _ _ _ _ _ _ _ _ => some Footprint.wRegAssign
  | .regReject _ _ => some Footprint.wRegReject
  | .regConfirm _ _ _ => some Footprint.wRegConfirm
  | .dereg _ _ _ => some Footprint.wDereg
  | .rangeAdj _ _ _ _ => some Footprint.wRangeAdj
  | .freqAdj _ _ _ _ => some Footprint.wFreqAdj
  | .grantTable _ _ _ _ _ => some Footprint.wGrantTable
  | .grantAck _ _ _ _ _ => some Footprint.wGrantAck
  | .loadTable _ _ _ _ _ _ _ => some Footprint.wLoadTable
  | .loadAck _ _ _ _ _ => some Footprint.wLoadAck
  | .loadNak _ _ _ _ _ => some Footprint.wLoadNak
  | .loadCancel _ _ _ _ _ => some Footprint.wLoadCancel
  | .loadMismatch _ _ _ _ => some Footprint.wLoadMismatch
  | .snrReport _ _ _ _ _ => some Footprint.wSnrReport
  | .regWrite _ _ _ _ => none
  | .regRead _ _ _ _ => none
  | .regResp _ _ _ _ => some Footprint.wRegResp
  | .fwOpen _ _ _ _ _ _ => some Footprint.wFwOpen
  | .fwData _ _ _ _ _ => some Footprint.wFwData
  | .fwClose _ _ _ => some Footprint.wFwClose
  | .fwStatus _ _ _ _ => some Footprint.wFwStatus
  | .fwActivate _ _ _ => none
  | .restReq _ _ _ => some Footprint.wRestReq
  | .restGrant _ _ _ _ _ _ => some Footprint.wRestGrant
  | .wakeAck _ _ _ => some Footprint.wWakeAck
  | .ack _ _ _ => some Footprint.wAck
  | .user _ _ _ _ _ => some Footprint.wUser
  | .unknownType _ _ _ => some Footprint.wUnknownType
  | .retxTimeout _ _ => some Footprint.wRetxTimeout
  | .txpost _ _ _ => some Footprint.wTxpost
  | .rxpop => some Footprint.wRxpop
  | .upstreamSilent => some Footprint.wUpstreamSilent
  | .upstreamResume => some Footprint.wUpstreamResume
  | .rangeTrigger _ _ _ => some Footprint.wRangeTrigger
  | .freqTrigger _ _ => some Footprint.wFreqTrigger
  | .regAttempt _ _ _ _ => some Footprint.wRegAttempt
  | .regTmo _ => some Footprint.wRegTmo
  | .regGo => some Footprint.wRegGo
  | .regOpen _ => some Footprint.wRegOpen
  | .upstreamStart _ => some Footprint.wUpstreamStart
  | .grantCommit => some Footprint.wGrantCommit
  | .grantAbort => some Footprint.wGrantAbort
  | .grantAnnounce => some Footprint.wGrantAnnounce
  | .grantSwap => some Footprint.wGrantSwap
  | .grantAckTmo => some Footprint.wGrantAckTmo
  | .leafRestStart _ => some Footprint.wLeafRestStart
  | .restRetry => some Footprint.wRestRetry
  | .listenWake _ => some Footprint.wListenWake
  | .listenEnd _ => some Footprint.wListenEnd
  | .leafLostTmo _ => some Footprint.wLeafLostTmo
  | .hubRestStart _ => some Footprint.wHubRestStart
  | .wake _ => some Footprint.wWake
  | .wakeTmo _ _ => some Footprint.wWakeTmo
  | .leafLost _ _ => some Footprint.wLeafLost
  | .brxEnable => some Footprint.wBrxEnable
  | .brxDisable => some Footprint.wBrxDisable
  | .peakDetect _ _ _ _ _ _ _ _ _ _ _ _ _ _ => some Footprint.wPeakDetect
  | .headerDecision _ _ _ => some Footprint.wHeaderDecision
  | .burstClose _ _ _ _ _ _ => some Footprint.wBurstClose
  | .burstRecord => some Footprint.wBurstRecord
  | .gapClose _ _ _ _ _ => some Footprint.wGapClose
  | .fade _ _ _ => some Footprint.wFade
  | .orphan _ _ _ => some Footprint.wOrphan
  | .scAbsentSet _ _ => some Footprint.wScAbsentSet
  | .scAbsentClear _ _ => some Footprint.wScAbsentClear
  | .recPop => some Footprint.wRecPop
  | .colPop => some Footprint.wColPop
  | .txEn _ => some Footprint.wTxEn
  | .txFrame _ _ _ => some Footprint.wTxFrame
  | .rxEn _ => some Footprint.wRxEn
  | .research => some Footprint.wResearch
  | .fawHit _ _ _ => some Footprint.wFawHit
  | .candidateJudge _ _ _ _ => some Footprint.wCandidateJudge
  | .fawCheck _ _ _ => some Footprint.wFawCheck
  | .oof => some Footprint.wOof
  | .overheadWord _ _ _ _ _ _ => some Footprint.wOverheadWord
  | .oom _ _ => some Footprint.wOom
  | .mfRestore _ _ => some Footprint.wMfRestore
  | .upstreamFawCheck _ _ _ => some Footprint.wUpstreamFawCheck
  | .upstreamOof _ _ => some Footprint.wUpstreamOof
  | .upstreamInFrame _ _ => some Footprint.wUpstreamInFrame
  | .tenMsTick _ _ _ _ => some Footprint.wTenMsTick
  | .defectDeclare _ _ _ => some Footprint.wDefectDeclare
  | .defectClear _ _ _ => some Footprint.wDefectClear
  | .defCfgWrite _ _ => some Footprint.wDefCfgWrite
  | .secondTick _ => some Footprint.wSecondTick
  | .degOnset _ => some Footprint.wDegOnset
  | .ttiAccept => some Footprint.wTtiAccept
  | .ssmAccept => some Footprint.wSsmAccept
  | .cfReceive _ _ _ _ _ _ => some Footprint.wCfReceive
  | .slipWrite _ => some Footprint.wSlipWrite
  | .slipRead _ _ => some Footprint.wSlipRead
  | .cliEnable _ => some Footprint.wCliEnable
  | .cliDisable _ => some Footprint.wCliDisable
  | .signalDetect _ => some Footprint.wSignalDetect
  | .signalLoss _ => some Footprint.wSignalLoss
  | .cdrLock _ => some Footprint.wCdrLock
  | .cdrLoss _ => some Footprint.wCdrLoss
  | .laneLock _ _ _ => some Footprint.wLaneLock
  | .markerLockLoss _ => some Footprint.wMarkerLockLoss
  | .egressOrderChange _ => some Footprint.wEgressOrderChange
  | .deskewMeasure _ _ _ => some Footprint.wDeskewMeasure
  | .linkTmo _ _ => some Footprint.wLinkTmo
  | .flowRead _ => some Footprint.wFlowRead
  | .flowWrite _ => some Footprint.wFlowWrite
  | .flowRemove _ => some Footprint.wFlowRemove
  | .flowCmdApply _ => some Footprint.wFlowCmdApply
  | .cfSchedule _ _ => some Footprint.wCfSchedule
  | .tokenCap _ _ => some Footprint.wTokenCap
  | .clientIngress _ _ _ _ _ => some Footprint.wClientIngress
  | .qdmEnable => some Footprint.wQdmEnable
  | .qdrTrainDone _ _ => some Footprint.wQdrTrainDone
  | .qdrRetrain => some Footprint.wQdrRetrain
  | .qdrRecentre _ _ => some Footprint.wQdrRecentre
  | .qdrParityError _ _ _ => some Footprint.wQdrParityError
  | .addrParityError _ => some Footprint.wAddrParityError
  | .qdrPortFail _ => some Footprint.wQdrPortFail
  | .cryLockAcquire _ _ _ => none
  | .cryLockRelease _ _ => some Footprint.wCryLockRelease
  | .keyLoad _ _ _ _ => some Footprint.wKeyLoad
  | .keyRoll _ _ _ _ => some Footprint.wKeyRoll
  | .keyClear _ _ _ _ => some Footprint.wKeyClear
  | .keyClearCtx _ _ _ => some Footprint.wKeyClearCtx
  | .keyCmdUndefined _ _ _ _ _ => some Footprint.wKeyCmdUndefined
  | .keyCmdComplete => some Footprint.wKeyCmdComplete
  | .erasure _ _ => some Footprint.wErasure
  | .cryCounterMirror => some Footprint.wCryCounterMirror
  | .refFail _ _ => some Footprint.wRefFail
  | .refRestore _ => some Footprint.wRefRestore
  | .wtrComplete _ => some Footprint.wWtrComplete
  | .driftWatchEnd _ => some Footprint.wDriftWatchEnd
  | .refDq _ => some Footprint.wRefDq
  | .qlTmo _ _ => some Footprint.wQlTmo
  | .refQlWrite _ _ => some Footprint.wRefQlWrite
  | .selection => some Footprint.wSelection
  | .loopLock => some Footprint.wLoopLock
  | .quarantineExit => some Footprint.wQuarantineExit
  | .tcFit => some Footprint.wTcFit
  | .pstepWrite _ _ => some Footprint.wPstepWrite
  | .pstepDone _ => some Footprint.wPstepDone
  | .privKeyWrite _ _ _ => some Footprint.wPrivKeyWrite
  | .loopOpen _ _ _ _ => some Footprint.wLoopOpen
  | .ncoFreqWrite _ _ _ _ => some Footprint.wNcoFreqWrite
  | .loopClose _ _ _ => some Footprint.wLoopClose
  | .maxOpenExpiry _ _ => some Footprint.wMaxOpenExpiry
  | .timeSet => some Footprint.wTimeSet
  | .timeAlign => some Footprint.wTimeAlign
  | .ppsInEdge _ _ => some Footprint.wPpsInEdge
  | .add _ _ => some Footprint.wAdd
  | .sub _ _ => some Footprint.wSub
  | .andOp _ _ => some Footprint.wAndOp
  | .orOp _ _ => some Footprint.wOrOp
  | .xor _ _ => some Footprint.wXor
  | .sll _ _ => some Footprint.wSll
  | .srl _ _ => some Footprint.wSrl
  | .sra _ _ => some Footprint.wSra
  | .slt _ _ => some Footprint.wSlt
  | .sltu _ _ => some Footprint.wSltu
  | .mul _ _ => some Footprint.wMul
  | .mulh _ _ => some Footprint.wMulh
  | .mulhu _ _ => some Footprint.wMulhu
  | .min _ _ => some Footprint.wMin
  | .max _ _ => some Footprint.wMax
  | .clz _ _ => some Footprint.wClz
  | .popc _ _ => some Footprint.wPopc
  | .addi _ _ => some Footprint.wAddi
  | .andi _ _ => some Footprint.wAndi
  | .ori _ _ => some Footprint.wOri
  | .xori _ _ => some Footprint.wXori
  | .slti _ _ => some Footprint.wSlti
  | .shi _ _ => some Footprint.wShi
  | .lui _ _ => some Footprint.wLui
  | .beq _ _ => some Footprint.wBeq
  | .bne _ _ => some Footprint.wBne
  | .blt _ _ => some Footprint.wBlt
  | .bge _ _ => some Footprint.wBge
  | .bltu _ _ => some Footprint.wBltu
  | .bgeu _ _ => some Footprint.wBgeu
  | .jal _ _ => some Footprint.wJal
  | .jalr _ _ => some Footprint.wJalr
  | .ldw _ _ => some Footprint.wLdw
  | .stw _ _ => some Footprint.wStw
  | .lxch _ _ => some Footprint.wLxch
  | .ladd _ _ => some Footprint.wLadd
  | .rld _ _ => some Footprint.wRld
  | .rst _ _ => some Footprint.wRst
  | .dmar _ _ => some Footprint.wDmar
  | .dmaw _ _ => some Footprint.wDmaw
  | .qrd _ _ => some Footprint.wQrd
  | .qwr _ _ => some Footprint.wQwr
  | .aswp _ _ => some Footprint.wAswp
  | .aadd _ _ => some Footprint.wAadd
  | .aand _ _ => some Footprint.wAand
  | .aor _ _ => some Footprint.wAor
  | .acas _ _ => some Footprint.wAcas
  | .wait _ _ => some Footprint.wWait
  | .fence _ _ => some Footprint.wFence
  | .jmark _ _ => some Footprint.wJmark
  | .tstat _ _ => some Footprint.wTstat
  | .trel _ _ => some Footprint.wTrel
  | .halt _ _ => some Footprint.wHalt
  | .yield _ _ => some Footprint.wYield
  | .setf _ _ => some Footprint.wSetf
  | .clrf _ _ => some Footprint.wClrf
  | .drop _ _ => some Footprint.wDrop
  | .self _ _ => some Footprint.wSelf
  | .tagExhaust _ _ => some Footprint.wTagExhaust
  | .opAccept _ _ => some Footprint.wOpAccept
  | .accTmo _ _ => some Footprint.wAccTmo
  | .opFinal _ _ _ _ => none
  | .waitEnd _ _ => some Footprint.wWaitEnd
  | .waitTimeout _ _ => some Footprint.wWaitTimeout
  | .threadStart _ _ => some Footprint.wThreadStart
  | .threadStop _ _ => some Footprint.wThreadStop
  | .engReset _ => some Footprint.wEngReset
  | .memDataAccess _ _ _ _ => none
  | .spillPop => some Footprint.wSpillPop
  | .activate _ => none
  | .healthOk => none
  | .healthTmo => none
  | .rollback => none
  | .mbxDataWrite _ _ _ _ _ => some Footprint.wMbxDataWrite
  | .doorbell _ _ _ _ => some Footprint.wDoorbell
  | .mbxTake _ _ _ => none
  | .bind _ _ _ _ => some Footprint.wBind
  | .mbxLockAcquire _ _ _ _ => none
  | .mbxLockRelease _ _ _ => some Footprint.wMbxLockRelease
  | .functionLevelReset _ => some Footprint.wFunctionLevelReset
  | .peerPost _ _ => some Footprint.wPeerPost
  | .cntLoWrite _ _ _ => some Footprint.wCntLoWrite
  | .cntHiWrite _ _ _ => some Footprint.wCntHiWrite
  | .pmcOverflow _ => some Footprint.wPmcOverflow
  | .samplePick _ _ _ _ _ _ _ => some Footprint.wSamplePick
  | .sampleRecord _ _ => some Footprint.wSampleRecord
  | .smpPop => some Footprint.wSmpPop
  | .methodChange => some Footprint.wMethodChange
  | .hkaTimer => some Footprint.wHkaTimer
  | .seqGo => some Footprint.wSeqGo
  | .delayEnd => some Footprint.wDelayEnd
  | .conversionEnd _ => some Footprint.wConversionEnd
  | .injGo => some Footprint.wInjGo
  | .backgroundScan => some Footprint.wBackgroundScan
  | .hkaCalDone _ => some Footprint.wHkaCalDone
  | .pwmPeriodStart _ => some Footprint.wPwmPeriodStart
  | .pwmCompare _ => some Footprint.wPwmCompare
  | .fltSample _ _ => some Footprint.wFltSample
  | .fltOutput _ => some Footprint.wFltOutput
  | .fltValid _ => some Footprint.wFltValid
  | .firSwap _ => some Footprint.wFirSwap
  | .firFadeDone _ => some Footprint.wFirFadeDone
  | .fltCfgWrite _ _ => some Footprint.wFltCfgWrite
  | .fltPreset _ _ => some Footprint.wFltPreset
  | .biasLoopEnable _ _ => some Footprint.wBiasLoopEnable
  | .serCmd _ _ => some Footprint.wSerCmd
  | .serResponse _ _ => some Footprint.wSerResponse
  | .serPoll _ _ => some Footprint.wSerPoll
  | .serTimeout _ => some Footprint.wSerTimeout
  | .ftOutWrite _ _ => some Footprint.wFtOutWrite
  | .gainKhzWrite _ _ => some Footprint.wGainKhzWrite
  | .goFull => some Footprint.wGoFull
  | .goTrack => some Footprint.wGoTrack
  | .calRetryExpiry => some Footprint.wCalRetryExpiry
  | .calAbort => some Footprint.wCalAbort
  | .sineCheck _ => some Footprint.wSineCheck
  | .calPassEnd => some Footprint.wCalPassEnd
  | .calRunEnd _ _ => some Footprint.wCalRunEnd
  | .calFlashDone _ => some Footprint.wCalFlashDone
  | .bistGo _ => some Footprint.wBistGo
  | .bistAbort => some Footprint.wBistAbort
  | .sliceEnd _ _ _ => some Footprint.wSliceEnd
  | .sliceTimeout => some Footprint.wSliceTimeout
  | .override _ => some Footprint.wOverride
  | .lcmTransition _ _ => some Footprint.wLcmTransition
  | .fuseDone => none
  | .keyCommit _ => some Footprint.wKeyCommit
  | .keyRevoke _ => some Footprint.wKeyRevoke
  | .challengeRead _ => none
  | .peerEnable => some Footprint.wPeerEnable
  | .peerDisable => some Footprint.wPeerDisable
  | .peerLinkUp _ => some Footprint.wPeerLinkUp
  | .peerLinkFail _ _ => some Footprint.wPeerLinkFail
  | .heartbeatTmo => some Footprint.wHeartbeatTmo
  | .linkWaitExpiry => some Footprint.wLinkWaitExpiry
  | .forceActive => some Footprint.wForceActive
  | .syncDone => some Footprint.wSyncDone
  | .mirrorRecord _ _ _ => none
  | .switch _ => some Footprint.wSwitch
  | .activeFault _ => some Footprint.wActiveFault
  | .partnerLost _ => some Footprint.wPartnerLost
  | .handover _ => some Footprint.wHandover
  | .laserSettled => some Footprint.wLaserSettled
  | .eqdMeasure _ _ _ => some Footprint.wEqdMeasure
  | .powerOnReset _ => none
  | .railDrop _ => none
  | .railWarn _ => some Footprint.wRailWarn
  | .resetRelease => some Footprint.wResetRelease
  | .resetN => none
  | .perst => none
  | .warmReset _ => none
  | .imageLoadingReset => none
  | .softReset _ => none
  | .softResetDone _ => none
  | .boot _ => none
  | .avsSet _ => some Footprint.wAvsSet
  | .avsPoll _ => some Footprint.wAvsPoll
  | .avsAck _ => some Footprint.wAvsAck
  | .avsTimeout => some Footprint.wAvsTimeout
  | .pmbCmd _ => some Footprint.wPmbCmd
  | .restEnter => some Footprint.wRestEnter
  | .restEntryDone => some Footprint.wRestEntryDone
  | .restWake _ => some Footprint.wRestWake
  | .restExitDone _ _ => none
  | .flRead _ => some Footprint.wFlRead
  | .flProgram _ => some Footprint.wFlProgram
  | .flErase => some Footprint.wFlErase
  | .flDone _ => some Footprint.wFlDone
  | .converterClockLock _ => some Footprint.wConverterClockLock
  | .phaseReacquired => some Footprint.wPhaseReacquired
  | .ppsInValidExpiry _ => some Footprint.wPpsInValidExpiry
  | .pmbCmdDone _ _ => some Footprint.wPmbCmdDone
  | .traceWriteTimeout => some Footprint.wTraceWriteTimeout

end Sys2Proof.Machine
end

