-- ==== Sys2Proof/Safety.lean ====
section
/-! DEFINITION. Sys2Proof/Safety.lean: the terms statements use: what a safe run is, the canonical form, and what a command may change. -/
namespace Sys2Proof
open Sys2Proof.Machine

/-- The step goes on: neither a fault nor a refusal. -/
def completes (s : State) : Prop := ∃ t, step s = .next t

/-- The tables of the machine are in their canonical form: the keys of the register table strictly rising; the addresses of the two
memories too, with no entry equal to what an unlisted address reads as. -/
def canonical (s : State) : Prop :=
  s.csr.sorted = true ∧ s.qdr.wf 0 = true ∧ s.flash.wf Flash.erased = true

/-- The command takes the machine from `s` to a next state of which `p` holds. -/
def runs (c : Instr) (s : State) (p : State → Prop) : Prop := ∃ t, exec c s = .next t ∧ p t

/-- A write of register r by host function 0 takes effect: its block is not in soft reset, not stopped in REST, and the device is not the
standby of a pair whose active holds the register (R343, R356, R363). -/
def takes (r : RegId) (s : State) : Bool :=
  !Bus.inReset s (r.barAddr 0 0 0) && !Bus.stopped s (r.barAddr 0 0 0) && !(s.passive && Peer.isMirrored r)

/-- The actions that Table PWR-1 gives monitor m are in force, mute source 1 with the transmit mute. -/
abbrev actionsTaken (t : State) (m : Nat) : Prop :=
  (∀ a, a < 4 → (Pwr.actionsOf m).testBit a = true → Pwr.inForce t a = true) ∧
  ((Pwr.actionsOf m).testBit 0 = true → t.bit F.LTX_STAT_MUTE_SRC 1 = true)

/-- A message from `sender` (512 the hub) is no repeat of one that was acknowledged already (R105). -/
def notRepeat (s : State) (sender addr flags seq : Nat) : Bool :=
  !(flags.testBit 0 && !Vlk.broadcast addr && (Vlk.duplicate s sender seq).isSome)

/-- The message of a TYPE that a leaf sends to its hub next, with ACK_REQ. -/
def upMessage (s : State) (type : Nat) (body : List Nat) : VMsg :=
  ⟨0, Vlk.selfAddr s, true, false, type, s.get H.VLK_SEQ (Vlk.selfAddr s) 1, body⟩

/-- The message of a TYPE that a hub sends to leaf l next, with ACK_REQ. -/
def downMessage (s : State) (l type : Nat) (body : List Nat) : VMsg :=
  ⟨s.get F.VLK_LEAF_BEACON l, l, true, false, type, s.get H.VLK_SEQ l 1, body⟩

/-- ACK(SEQ, status) waits to be sent to `sender` (512 the hub) where the message asked for it and is no broadcast (R105). -/
abbrev acknowledges (t : State) (sender addr flags seq status : Nat) : Prop :=
  flags.testBit 0 = true → Vlk.broadcast addr = false →
    (t.vlk.own.any (fun m => (sender == 512 || m.addr == sender) && m.type == 0x48 && !m.ackReq && m.body == [seq, status])) = true

/-! ### Scheduling (R192, R198) -/

/-- The enabled flows that send on subcarrier k. -/
def senders (s : State) (k : Nat) : List Nat :=
  (Flw.enabled s).filter (fun f => Flw.txEn (Flw.entry s f) && Flw.inSet s (Flw.entry s f) k)

/-- The machine as a container frame that is due on subcarrier k starts at time `now`: their tokens have grown, and the flows of resting leaves
have held what they would send. -/
def due (s : State) (k now : Nat) : State :=
  let t := (s.put H.FRM_CF_DUE (s.get H.FRM_CF_DUE k - 1) k).eachOf (senders s k) (Flw.accrue now)
  t.eachOf ((senders s k).filter (fun f => Flw.resting t (Flw.entry t f))) (fun f u =>
    if decide (Flw.capacity (Flw.entry u f) ≤ (Flw.ingress u f).length) && !Flw.lock (Flw.entry u f) && !Flw.inputFailed u (Flw.entry u f)
    then Flw.hold f u else u)

/-- The flow that is served, and whether it spends a token. -/
def picked (s : State) (k now : Nat) : Option (Nat × Bool) :=
  Flw.pick (due s k now) ((senders s k).filter (fun f => !Flw.resting (due s k now) (Flw.entry (due s k now) f)))

/-! ### Odivo threads (R248 to R255) -/

/-- This turn thread t of engine n issues its word, whose opcode is `op`: it runs or tries again in STALL_TAG, it is not past the end of
IMEM, the word is legal, no result it reads is awaited and no overflow sample holds it back (R289). -/
def turn (s : State) (n t op : Nat) : Bool :=
  decide (n < 65) && decide (t < 4) && (Eng.thread s n t == 1 || Eng.thread s n t == 3) && !s.on H.ENG_PAST n t &&
  Eng.legal (Eng.word s n t) && Eng.opc (Eng.word s n t) == op && !Pmc.heldBack s n t && !(Eng.sources (Eng.word s n t)).any (Eng.awaited s n t)

/-- The same for an instruction that `fn` selects. -/
def turnFn (s : State) (n t op fn : Nat) : Bool := turn s n t op && Eng.fn (Eng.word s n t) == fn

/-- The first source of a word of format R or I, and the second of format R. -/
def source1 (s : State) (n t : Nat) : Nat := Eng.reg s n t (Eng.fb (Eng.word s n t))
def source2 (s : State) (n t : Nat) : Nat := Eng.reg s n t (Eng.fc (Eng.word s n t))

/-- The immediate, unsigned and signed. -/
def imm (s : State) (n t : Nat) : Nat := Eng.imm16 (Eng.word s n t)
def simm (s : State) (n t : Nat) : Int := Eng.simm16 (Eng.word s n t)

/-- rd of the word holds v (g0 stays 0), and the thread's PC is at the next instruction: at 4095 it stays. -/
abbrev result (s u : State) (n t v : Nat) : Prop :=
  Eng.reg u n t (Eng.fa (Eng.word s n t)) = (if Eng.fa (Eng.word s n t) = 0 then 0 else v) ∧
  Eng.pc u n t = min 4095 (Eng.pc s n t + 1)

/-- The same, and the thread's state is as before. -/
abbrev goesOn (s u : State) (n t v : Nat) : Prop := result s u n t v ∧ Eng.thread u n t = Eng.thread s n t

/-- The thread is in state WAIT at the same instruction. -/
abbrev waits (s u : State) (n t : Nat) : Prop := Eng.thread u n t = 2 ∧ Eng.pc u n t = Eng.pc s n t

/-- The thread is at an instruction, in the state it was in. -/
abbrev goesTo (s u : State) (n t : Nat) (target : Int) : Prop :=
  (Eng.pc u n t : Int) = target ∧ Eng.thread u n t = Eng.thread s n t

/-- The thread has faulted with a cause (R262). -/
abbrev faulted (u : State) (n t cause : Nat) : Prop :=
  Eng.thread u n t = 4 ∧ u.get F.ENG_THR_STAT_CAUSE n t = cause ∧ u.on F.ENG_INT_CAUSE_FAULT n = true

/-- A tagged operation has issued with tag k and target `a`: the tag is the thread's, rd holds its number, its journal entry names the
instruction and the target, and the operation is open (R253). -/
abbrev launched (s u : State) (n t k a : Nat) (o : EngOp) : Prop :=
  result s u n t k ∧ Eng.thread u n t = 1 ∧ Eng.owned u n t k = true ∧ u.get F.ENG_TAG_STATE n k = 0 ∧
  u.get F.ENG_TAG_JIDX n k = Eng.head s n ∧
  u.get H.ENG_JRNL n (Eng.head s n) 1 = Eng.pc s n t + s.get F.ENG_JRNL_SEQ_VAL n * 4096 ∧
  u.get H.ENG_JRNL n (Eng.head s n) 2 = a ∧
  u.eng.ops = s.eng.ops ++ [o]

/-- The registers whose write does more than its access codes say, each by the rule of its own command, and the two in which the count of
the access itself may set a bit (R10). -/
def ownWrites : List RegId :=
  [.SYS_SOFT_RST, .SYS_RESET, .SYS_ROLLBACK, .SE_IMG_CTRL, .BOOT_FL_CMD, .LCM_TRANS, .LCM_KEY_CTRL, .LCM_AUTH, .LCM_KEY_HASH,
   .PWR_AVS_SET, .PWR_PMB_CMD, .PWR_REST_CTRL, .PWR_SLACK_CTRL, .PWR_SLACK_CFG, .PWR_SAFE_STAT, .ENG_CTRL, .ENG_THR, .ENG_MEM_DATA,
   .SE_SPILL_POP, .MBX_BIND, .MBX_DATA, .MBX_DOORBELL, .MBX_LOCK, .PMC_SMP_POP, .PMC_CNT_LO, .PMC_CNT_HI, .HKA_CTRL, .HKA_SEQ_GO,
   .HKA_INJ, .HKA_PWM_DUTY, .FLT_CH_CFG, .FLT_CH_CTRL, .FLT_FIR, .CAL_CTRL, .BST_CTRL, .CRY_LOCK, .CRY_KEY_CMD, .CRY_KEY_SALT,
   .CRY_KEY_DATA, .SYN_CTRL, .SYN_REF_QL, .SYN_PSTEP, .SYN_PRIV_KEY, .SYN_HO_TC, .SYN_NCO_CTRL, .SYN_NCO_FREQ, .SYN_TIME_CTRL, .HSL_CTRL,
   .HSL_RCLK_SEL, .HSL_CLI_CFG, .FLW_CMD, .FLW_STAGE, .QDM_CTRL, .QDM_REGION, .FRM_CTRL, .FRM_DEF_CFG, .FRM_RA_CFG, .FEC_CFG,
   .LTX_CTRL, .LTX_LINE_CFG, .LTX_FREQ_OFS, .LTX_CDPRE, .LTX_CDPRE_CTRL, .LTX_SKEW, .LRX_CTRL, .LRX_LINE_CFG, .LRX_RXGRP, .LRX_CD_CTRL,
   .LRX_CD_RES, .LRX_EQ_CFG, .SCM_CHG_CTRL, .SCM_GRANT_CTRL, .BRX_CTRL, .BRX_REC_POP, .BRX_COL_POP, .VLK_CTRL, .VLK_T_EQ, .VLK_WAKE,
   .VLK_TXPOST, .VLK_RXPOP, .VLK_LEAF, .CVT_DAC_FS, .CVT_ADC_FS, .LSR_CTRL, .LSR_SER_CMD, .LSR_FT_CFG, .LSR_FT_OUT, .LSR_LOOP_CFG,
   .PEER_CTRL, .PEER_CFG, .SYN_INT_CAUSE, .PMC_INT_CAUSE, .PMC_OVF_STAT]

/-- The registers that show what their block forms as they are read, whose read has an effect of its own, or that the count of the
access itself may change. -/
def ownReads : List RegId :=
  [.SYS_INT_SUMMARY, .ENG_JRNL_RD, .SE_SPILL_STAT, .SE_SPILL_RD, .PMC_SMP_STAT, .PMC_SMP_RD, .PMC_CNT_LO, .PMC_CNT_HI, .CRY_CTX_STAT,
   .CRY_TX_NEXT_HI, .CRY_TX_CUR_LO, .CRY_TX_CUR_HI, .CRY_RX_LAST_LO, .CRY_RX_LAST_HI, .CRY_SALT, .SYN_TIME_HI, .FLW_FSTAT,
   .FRM_DEF_LINE, .FRM_DEF_SC, .FRM_DEF_FLOW, .FRM_DEF_LANE, .FRM_DEF_CLI, .FEC_QC_BASE, .SCM_DS_ACT, .SCM_US_ACT, .BRX_REC_DATA,
   .BRX_COL_DATA, .VLK_TREE_CFG, .VLK_RXSTAT, .VLK_RXBUF, .MBX_DATA, .MBX_LOCK, .CRY_LOCK, .CRY_TX_NEXT_LO, .SYN_TIME_LO,
   .ENG_MEM_DATA, .ENG_GREG, .LCM_CHALLENGE, .PWR_SLACK_LVL, .PMC_INT_CAUSE, .PMC_OVF_STAT, .PMC_SMP_DROP]

/-! ### Odivo instructions by what they write: the engine and the thread of such an instruction -/

/-- Those that write a result into the register that bits 25:21 of the word name. -/
def withResult (c : Instr) : Option (Nat × Nat) :=
  match c with
  | .add n t | .sub n t | .andOp n t | .orOp n t | .xor n t | .sll n t | .srl n t | .sra n t | .slt n t | .sltu n t | .mul n t
  | .mulh n t | .mulhu n t | .min n t | .max n t | .clz n t | .popc n t | .addi n t | .andi n t | .ori n t | .xori n t | .slti n t
  | .lui n t | .shi n t | .jal n t | .jalr n t | .ldw n t | .lxch n t | .ladd n t | .wait n t | .jmark n t | .tstat n t | .self n t
  | .rld n t | .rst n t | .aswp n t | .aadd n t | .aand n t | .aor n t | .acas n t | .dmar n t | .dmaw n t | .qrd n t | .qwr n t => some (n, t)
  | _ => none

/-- Those that write no register. -/
def withoutResult (c : Instr) : Option (Nat × Nat) :=
  match c with
  | .beq n t | .bne n t | .blt n t | .bge n t | .bltu n t | .bgeu n t | .stw n t | .fence n t | .trel n t | .halt n t | .yield n t
  | .setf n t | .clrf n t | .drop n t => some (n, t)
  | _ => none

/-- Those that store nothing to DMEM. -/
def keepsDmem (c : Instr) : Option (Nat × Nat) :=
  match c with
  | .add n t | .sub n t | .andOp n t | .orOp n t | .xor n t | .sll n t | .srl n t | .sra n t | .slt n t | .sltu n t | .mul n t
  | .mulh n t | .mulhu n t | .min n t | .max n t | .clz n t | .popc n t | .addi n t | .andi n t | .ori n t | .xori n t | .slti n t
  | .lui n t | .shi n t | .jal n t | .jalr n t | .ldw n t | .wait n t | .jmark n t | .tstat n t | .self n t | .rld n t | .rst n t
  | .aswp n t | .aadd n t | .aand n t | .aor n t | .acas n t | .dmar n t | .dmaw n t | .qrd n t | .qwr n t | .beq n t | .bne n t
  | .blt n t | .bge n t | .bltu n t | .bgeu n t | .fence n t | .trel n t | .halt n t | .yield n t | .setf n t | .clrf n t
  | .drop n t => some (n, t)
  | _ => none

/-- Those that take no entry of the journal. -/
def keepsJournal (c : Instr) : Option (Nat × Nat) :=
  match c with
  | .add n t | .sub n t | .andOp n t | .orOp n t | .xor n t | .sll n t | .srl n t | .sra n t | .slt n t | .sltu n t | .mul n t
  | .mulh n t | .mulhu n t | .min n t | .max n t | .clz n t | .popc n t | .addi n t | .andi n t | .ori n t | .xori n t | .slti n t
  | .lui n t | .shi n t | .jal n t | .jalr n t | .ldw n t | .lxch n t | .ladd n t | .tstat n t | .self n t | .beq n t | .bne n t
  | .blt n t | .bge n t | .bltu n t | .bgeu n t | .stw n t | .fence n t | .halt n t | .yield n t | .setf n t | .clrf n t
  | .drop n t => some (n, t)
  | _ => none

/-! ### What resets of a master and of the device leave (R219, R277 to R279) -/

/-- Every channel and lock of MBX is as after reset (R279). -/
def mailboxesClear (t : State) : Prop :=
  ∀ n i : Nat, t.get F.MBX_DATA_DATA n i = 0 ∧ t.get F.MBX_STAT_FULL n = 0 ∧ t.get F.MBX_STAT_LEN n = 0 ∧ t.get F.MBX_STAT_TAKEN n = 0 ∧
    t.get F.MBX_STAT_RX_RESET_SEEN n = 0 ∧ t.get F.MBX_STAT_SENDER_RESET_SEEN n = 0 ∧ t.get F.MBX_STAT_POST_REFUSED n = 0 ∧
    t.get F.MBX_BIND_SENDER n = 0 ∧ t.get F.MBX_BIND_RECEIVER n = 0 ∧ t.get F.MBX_BIND_EN n = 0 ∧ t.get F.MBX_LOCK_STAT_OWNER n = 0 ∧
    t.get F.MBX_LOCK_STAT_CONTENDED n = 0 ∧ t.get F.MBX_LOCK_STAT_LOCK_BROKEN n = 0 ∧ t.get F.MBX_DB_PEND_CH n = 0 ∧
    t.get F.MBX_TAKEN_PEND_CH n = 0 ∧ t.get F.CRY_LOCK_STAT_LOCK_BROKEN = 0 ∧ t.get F.MBX_INT_CAUSE_RESET_SEEN = 0

/-- CRY.LOCK is free and marked broken, and a key command under way is as it was (R219). -/
def cryLockBroken (s t : State) : Prop :=
  t.get F.CRY_LOCK_STAT_OWNER = 0 ∧ t.on F.CRY_LOCK_STAT_LOCK_BROKEN = true ∧
  t.get F.CRY_KEY_STAT_BUSY = s.get F.CRY_KEY_STAT_BUSY ∧ t.get H.CRY_RESULT = s.get H.CRY_RESULT

/-- Master m has been reset (R277, R278): what each channel and each lock shows of it. -/
def masterWasReset (s : State) (m : Nat) (t : State) : Prop :=
  ∀ n, n < 64 →
    (Mbx.isReceiver s n m = true → t.on F.MBX_STAT_RX_RESET_SEEN n = true ∧ t.on F.MBX_INT_CAUSE_RESET_SEEN = true) ∧
    (Mbx.isSender s n m = true → t.on F.MBX_STAT_SENDER_RESET_SEEN n = true ∧ t.on F.MBX_INT_CAUSE_RESET_SEEN = true) ∧
    t.get F.MBX_STAT_FULL n = s.get F.MBX_STAT_FULL n ∧ (∀ i, t.get F.MBX_DATA_DATA n i = s.get F.MBX_DATA_DATA n i) ∧
    (s.get F.MBX_LOCK_STAT_OWNER n = m → t.get F.MBX_LOCK_STAT_OWNER n = 0 ∧ t.on F.MBX_LOCK_STAT_LOCK_BROKEN n = true) ∧
    (s.get F.MBX_LOCK_STAT_OWNER n ≠ m → t.get F.MBX_LOCK_STAT_OWNER n = s.get F.MBX_LOCK_STAT_OWNER n)

/-! ### Privilege (R250) -/

/-- The remote atomics: engine, thread and opcode. -/
def remoteAtomic (c : Instr) : Option (Nat × Nat × Nat) :=
  match c with
  | .aswp n t => some (n, t, 0x20)
  | .aadd n t => some (n, t, 0x21)
  | .aand n t => some (n, t, 0x22)
  | .aor n t => some (n, t, 0x23)
  | .acas n t => some (n, t, 0x24)
  | _ => none

/-- The thread is a USER thread whose word names the aligned address `a` of BAR0. -/
def userReach (s : State) (n t a : Nat) : Bool :=
  !s.on F.ENG_THR_SUPER n t && Eng.tagBase s n t (Eng.word s n t) == a && a % 4 == 0 && decide (a < 0x1000000)

/-- The entry at the journal's head is ABORTED with cause PRIV (Table ENG-5), no operation has become open, and the thread runs on. -/
def refusedAsPriv (s u : State) (n t : Nat) : Prop :=
  slice (u.get H.ENG_JRNL n (Eng.head s n) 0) 0 3 = 4 ∧ slice (u.get H.ENG_JRNL n (Eng.head s n) 0) 22 4 = 1 ∧
  (∀ o, o ∈ u.eng.ops → o ∈ s.eng.ops) ∧ Eng.thread u n t = 1

/-- What the count of an access by PMC may change. -/
def countedParts : List Part := [.msix, .qdr, .fld F.PMC_INT_CAUSE_SMP_DROP] ++ Footprint.counted ++ Footprint.sampled

/-- From `s` to `t` nothing changes but the parts of the list, the record of what was put out and the count of free values: every other
entry of the register table reads as before, and so does every word of the two memories and every queue. -/
structure Keeps (l : List Part) (s t : State) : Prop where
  registers : ∀ n, (∀ f, .fld f ∈ l → ∀ i j k, f.shape.has i j k = true → f.key i j k ≠ n) →
    (∀ f, .arr f ∈ l → n < f.range.1 ∨ f.range.2 ≤ n) → Store.find n t.csr = Store.find n s.csr
  msix : .msix ∈ l ∨ t.msix = s.msix
  vlk : .vlk ∈ l ∨ t.vlk = s.vlk
  brx : .brx ∈ l ∨ t.brx = s.brx
  flw : .flw ∈ l ∨ t.flw = s.flw
  frm : .frm ∈ l ∨ t.frm = s.frm
  syn : .syn ∈ l ∨ t.syn = s.syn
  eng : .eng ∈ l ∨ t.eng = s.eng
  flt : .flt ∈ l ∨ t.flt = s.flt
  qdr : .qdr ∈ l ∨ t.qdr = s.qdr
  flash : .flash ∈ l ∨ t.flash = s.flash
  held : .held ∈ l ∨ t.held = s.held
  pending : t.pending = s.pending

end Sys2Proof
end

