-- ==== Sys2Proof/Certificates/Slice0/Obligations.lean ====
section
/-! DEFINITION. Sys2Proof/Certificates/Slice0/Obligations.lean: the statements for the provers. `runs c s p` says that the command
completes and that p holds of the state it leaves (Safety.lean). A statement about the commands of a family says, for every state and
operands that meet its conditions, that the command completes with the effect of its rules. -/
open Sys2Proof Sys2Proof.Machine

/-- For every command and every state, a step with that command at the front of the queue is exec of it on the state with the queue's
  rest. That the block idles on an empty queue is the model's choice (notes/assumptions/1.md). -/
def Obligations.StepRunsTheFrontCommand : Prop :=
  (∀ (s : State) (c : Instr) (rest : List Instr), step { s with pending := c :: rest } = exec c { s with pending := rest }) ∧
  (∀ s : State, s.pending = [] → step s = .next s)

/-- No command stops the block. What was put out stays put out, what is put out now comes after it, and no free value is drawn twice. -/
def Obligations.EveryCommandCompletes : Prop :=
  ∀ (c : Instr) (s : State), ∃ t, exec c s = .next t ∧ t.pending = s.pending ∧ s.out <:+ t.out ∧ s.drawn ≤ t.drawn

/-- The register table's keys rise strictly; so do the addresses of the QDR-IV words and of the flash words that are listed, and no
  listed word is what an unlisted one reads as. -/
def Obligations.StepKeepsCanonicalForm : Prop :=
  ∀ s t : State, canonical s → step s = .next t → canonical t

/-- After power-on reset the fields named here hold the values their field maps give, all threads are IDLE, every channel and lock is
  free, no event is counted, the host interface is closed, and no operation, access or output is under way. The life-cycle state BLANK of
  an unwritten fuse is the model's value (notes/assumptions/27.md). -/
def Obligations.ResetState : Prop :=
  canonical State.reset ∧ State.reset.pending = [] ∧ State.reset.out = [] ∧ State.reset.held = [] ∧ State.reset.eng.ops = [] ∧
  State.reset.get F.SYS_ID_PART = 0x3216 ∧ State.reset.on F.SYS_STAT_HOST_OPEN = false ∧ State.reset.on F.SYS_LOCK_LOCK = false ∧
  State.reset.get F.SYS_RST_CAUSE_SRC = 1 ∧ State.reset.get F.PWR_AVS_SET_MV = 850 ∧ State.reset.get F.PWR_VMIN_VMIN_MV = 840 ∧
  State.reset.get F.PWR_SLACK_CFG_SOFT 5 = 8 ∧ State.reset.get F.PWR_SLACK_CFG_HARD 5 = 2 ∧ State.reset.get F.PWR_SLACK_LVL_NOW 5 = 32 ∧
  State.reset.get F.VLK_SELF_LEAF = 511 ∧ State.reset.on F.VLK_SELF_SILENT = true ∧ State.reset.get F.VLK_TREE_CFG_TREE_ID = 65535 ∧
  State.reset.get F.SYN_STAT_SEL = 15 ∧ State.reset.get F.LTX_STAT_MUTE_SRC = 8 ∧ State.reset.get F.LRX_STAT_STATE = 0 ∧
  State.reset.get F.LCM_STATE_STATE = 0 ∧ State.reset.get F.PEER_STAT_STATE = 0 ∧ State.reset.get F.CRY_LOCK_STAT_OWNER = 0 ∧
  (∀ n t : Nat, Eng.thread State.reset n t = 0 ∧ Eng.pc State.reset n t = 0) ∧
  (∀ n : Nat, State.reset.get F.MBX_LOCK_STAT_OWNER n = 0 ∧ State.reset.on F.MBX_STAT_FULL n = false ∧
    State.reset.on F.MBX_BIND_EN n = false) ∧
  (∀ i : Nat, State.reset.get H.PMC_CNT i = 0)

/-- For every register and every element of it, the decoder finds that element, and no other, at its BAR0 offset. The offset is aligned
  and lies below 0x0080_0000, where R380 says that registers end. -/
def Obligations.AddressMapRoundTrip : Prop :=
  ∀ (r : RegId) (i j k : Nat), r.shape.has i j k = true →
    locate (canonAddr (r.barAddr i j k)) = some (r, i, j, k) ∧ r.barAddr i j k % 4 = 0 ∧ r.barAddr i j k < 0x800000

/-- Function m − 1 writes a whole dword of a register whose write does nothing but what its fields' codes say (Safety.ownWrites lists the
  others). RW takes its bits; RWL takes them until SYS.LOCK; a W1C bit written 1 is 0; a W1S bit written 1 is 1, others keep their value;
  a sticky RWS field takes a written 0 (PERST_MODE and ERASE_STAT.COUNT any value). No RW or RWL field of any other register or element changes. -/
def Obligations.WritesFollowTheAccessCodes : Prop :=
  ∀ (s : State) (m v i j k : Nat) (r : RegId) (f : Machine.Field), r ∉ ownWrites → f ∈ r.fields → r.shape.has i j k = true → 1 ≤ m →
    m ≤ 8 →
    s.on F.SYS_STAT_HOST_OPEN = true → takes r s = true →
    runs (.registerWrite m (r.barAddr i j k) v 15) s (fun t =>
      (f.access = .rw → t.get f i j k = slice v f.lo f.width) ∧
      (f.access = .rwl → t.get f i j k = if s.on F.SYS_LOCK_LOCK then s.get f i j k else slice v f.lo f.width) ∧
      (f.access = .w1c → t.get f i j k &&& slice v f.lo f.width = 0) ∧
      (f.access = .w1s → t.get f i j k = s.get f i j k ||| slice v f.lo f.width) ∧
      (f.access = .rws → t.get f i j k = if f = F.SYS_RST_CFG_PERST_MODE ∨ f = F.CRY_ERASE_STAT_COUNT then slice v f.lo f.width else
        if slice v f.lo f.width = 0 then 0 else s.get f i j k) ∧
      ∀ (q : RegId) (g : Machine.Field) (x y z : Nat), g ∈ q.fields → g.access = .rw ∨ g.access = .rwl → q ≠ r ∨ (x, y, z) ≠ (i, j, k) →
        t.get g x y z = s.get g x y z)

/-- Function m − 1 reads a register that shows its fields as they stand (Safety.ownReads lists the others), no access being held. The
  dword that leaves for it holds every field at its place, a WO field as 0; RC fields are 0 afterwards and its other fields are as
  before, and so is every RW and RWL field of the device. -/
def Obligations.ReadsFollowTheAccessCodes : Prop :=
  ∀ (s : State) (m i j k : Nat) (r : RegId) (f : Machine.Field), r ∉ ownReads → f ∈ r.fields → r.shape.has i j k = true → 1 ≤ m → m ≤ 8 →
    s.on F.SYS_STAT_HOST_OPEN = true → s.held = [] → Bus.inReset s (r.barAddr i j k) = false →
    runs (.readClear m (r.barAddr i j k)) s (fun t =>
      (∃ w, (.readData m (r.barAddr i j k) w : Emit) ∈ t.out ∧
        slice w f.lo f.width = if f.access = .wo then 0 else s.get f i j k) ∧
      (t.get f i j k = if f.access = .rc then 0 else s.get f i j k) ∧
      ∀ (q : RegId) (g : Machine.Field) (x y z : Nat), g ∈ q.fields → g.access = .rw ∨ g.access = .rwl → t.get g x y z = s.get g x y z)

/-- With the host interface open, a read of an unnamed offset returns 0, and a read or a write of one changes nothing but what PMC counts
  of it. A write with a byte enable missing changes nothing. Before the interface opens, every request of a function completes as
  Unsupported Request and changes nothing else. -/
def Obligations.UnnamedAndClosedAccesses : Prop :=
  (∀ (s : State) (m a : Nat), 1 ≤ m → m ≤ 8 → s.on F.SYS_STAT_HOST_OPEN = true → a < 0x1000000 → locate (canonAddr a) = none →
    Bus.inReset s a = false →
    runs (.readClear m a) s (fun t => (.readData m a 0 : Emit) ∈ t.out ∧ Keeps countedParts s t)) ∧
  (∀ (s : State) (m a v : Nat), 1 ≤ m → m ≤ 8 → s.on F.SYS_STAT_HOST_OPEN = true → a < 0x1000000 → locate (canonAddr a) = none →
    Bus.inReset s a = false → Bus.stopped s a = false → runs (.registerWrite m a v 15) s (fun t => Keeps countedParts s t)) ∧
  (∀ (s : State) (m a v be : Nat), 1 ≤ m → m ≤ 8 → s.on F.SYS_STAT_HOST_OPEN = true → be % 16 ≠ 15 →
    runs (.registerWrite m a v be) s (fun t => t = s)) ∧
  (∀ (s : State) (m a v be : Nat), 1 ≤ m → m ≤ 8 → s.on F.SYS_STAT_HOST_OPEN = false →
    runs (.registerWrite m a v be) s (fun t => t = s.emit (.unsupported (m - 1) a)) ∧
    runs (.readClear m a) s (fun t => t = s.emit (.unsupported (m - 1) a)))

/-- A write to PWR.SLACK_CFG[m]: with 1 ≤ HARD < SOFT ≤ 24 both margins are taken; otherwise neither changes and SAFE_STAT.CFG_ERR is
  set. Under SYS.LOCK the HARD that stands is the one judged and kept. No other monitor's margins change. -/
def Obligations.SlackMarginsAreJudged : Prop :=
  ∀ (s : State) (m v soft hard : Nat), takes .PWR_SLACK_CFG s = true → m < 16 → soft = slice v 0 6 →
    hard = (if s.on F.SYS_LOCK_LOCK then s.get F.PWR_SLACK_CFG_HARD m else slice v 8 6) →
    runs (.slackCfgWrite m v) s (fun t =>
      (1 ≤ hard ∧ hard < soft ∧ soft ≤ 24 → t.get F.PWR_SLACK_CFG_SOFT m = soft ∧ t.get F.PWR_SLACK_CFG_HARD m = hard ∧
        t.on F.PWR_SAFE_STAT_CFG_ERR = s.on F.PWR_SAFE_STAT_CFG_ERR) ∧
      (¬(1 ≤ hard ∧ hard < soft ∧ soft ≤ 24) → t.get F.PWR_SLACK_CFG_SOFT m = s.get F.PWR_SLACK_CFG_SOFT m ∧
        t.get F.PWR_SLACK_CFG_HARD m = s.get F.PWR_SLACK_CFG_HARD m ∧ t.on F.PWR_SAFE_STAT_CFG_ERR = true) ∧
      ∀ n, n ≠ m → t.get F.PWR_SLACK_CFG_SOFT n = s.get F.PWR_SLACK_CFG_SOFT n ∧
        t.get F.PWR_SLACK_CFG_HARD n = s.get F.PWR_SLACK_CFG_HARD n)

/-- Lock n < 64, read by a master m. Free: the read returns 0 and m owns the lock. Owned by m: it returns 0 and m keeps it. Owned by
  another master o: it returns o + 1. LOCK_STAT[n] shows the owner in OWNER, 0 when free. -/
def Obligations.MailboxLockReads : Prop :=
  (∀ (s : State) (m n : Nat) (user : Bool), n < 64 → Mbx.isMaster m = true → Bus.inReset s (RegId.barAddr .MBX_LOCK n 0 0) = false →
    runs (.mbxLockAcquire m user n []) s (fun t =>
      (s.get F.MBX_LOCK_STAT_OWNER n = 0 →
        t.get F.MBX_LOCK_STAT_OWNER n = m ∧ (.readData m (RegId.barAddr .MBX_LOCK n 0 0) 0 : Emit) ∈ t.out) ∧
      (s.get F.MBX_LOCK_STAT_OWNER n = m →
        t.get F.MBX_LOCK_STAT_OWNER n = m ∧ (.readData m (RegId.barAddr .MBX_LOCK n 0 0) 0 : Emit) ∈ t.out) ∧
      ∀ o, o ≠ 0 → o ≠ m → s.get F.MBX_LOCK_STAT_OWNER n = o →
        t.get F.MBX_LOCK_STAT_OWNER n = o ∧ (.readData m (RegId.barAddr .MBX_LOCK n 0 0) (o + 1) : Emit) ∈ t.out)) ∧
  (∀ (s : State) (m n a : Nat), n < 64 →
    slice (Bus.shown m a .MBX_LOCK_STAT n 0 0 s) 0 8 = s.get F.MBX_LOCK_STAT_OWNER n)

/-- POWER_ON_RESET, RAIL_DROP of a rail, RESET_N, PERST but under PERST_MODE 2, a keyed WARM_RESET and IMAGE_LOADING_RESET leave every
  data word, status bit, binding, lock and pending bell at 0, LOCK_BROKEN and the RESET_SEEN bits among them. -/
def Obligations.DeviceResetsClearTheMailboxes : Prop :=
  (∀ (s : State) (rails : Nat), runs (.powerOnReset rails) s mailboxesClear) ∧
  (∀ (s : State) (r : Nat), r < 6 → runs (.railDrop r) s mailboxesClear) ∧
  (∀ s : State, runs .resetN s mailboxesClear) ∧
  (∀ s : State, s.get F.SYS_RST_CFG_PERST_MODE ≠ 2 → runs .perst s mailboxesClear) ∧
  (∀ (s : State) (v : Nat), Reset.warmKey v = true → v < 2 ^ 32 → runs (.warmReset v) s mailboxesClear) ∧
  (∀ s : State, runs .imageLoadingReset s mailboxesClear)

/-- The owner is reset: its function by a function-level reset, its engine by an engine reset. The lock is free, LOCK_STAT.LOCK_BROKEN is
  set, and a key command under way stays under way with its result. An alarm that acts releases the lock and sets LOCK_BROKEN too.
  KEY_CMD_COMPLETE ends a command whoever owns the lock. -/
def Obligations.CryLockOfAResetOwner : Prop :=
  (∀ (s : State) (f : Nat), f < 8 → s.get F.CRY_LOCK_STAT_OWNER = f + 1 → runs (.functionLevelReset f) s (cryLockBroken s)) ∧
  (∀ (s : State) (n : Nat), n < 65 → takes .ENG_CTRL s = true → s.get F.CRY_LOCK_STAT_OWNER = Eng.master n →
    runs (.engReset n) s (cryLockBroken s)) ∧
  (∀ (s : State) (cause : Nat) (present : Bool), Cry.alarmActs s cause = true → s.get F.CRY_LOCK_STAT_OWNER ≠ 0 →
    runs (.erasure cause present) s (fun t => t.get F.CRY_LOCK_STAT_OWNER = 0 ∧ t.on F.CRY_LOCK_STAT_LOCK_BROKEN = true)) ∧
  (∀ s : State, s.on F.CRY_KEY_STAT_BUSY = true → runs .keyCmdComplete s (fun t =>
    t.on F.CRY_KEY_STAT_BUSY = false ∧ t.get F.CRY_KEY_STAT_ERR_CODE = s.get H.CRY_RESULT))

/-- A function-level reset, an engine reset, a lost heartbeat and VLK_DISABLE are the resets of F0 to F7, of the engines, of PEER and of
  VLK. The channels the master receives on get RX_RESET_SEEN, those it sends on SENDER_RESET_SEEN; data and FULL stay; its locks are free
  and LOCK_BROKEN; other masters keep theirs. -/
def Obligations.ResetsOfAMaster : Prop :=
  (∀ (s : State) (f : Nat), f < 8 → runs (.functionLevelReset f) s (masterWasReset s (f + 1))) ∧
  (∀ (s : State) (n : Nat), n < 65 → takes .ENG_CTRL s = true → runs (.engReset n) s (masterWasReset s (Eng.master n))) ∧
  (∀ s : State, s.on F.PEER_STAT_LINK = true → runs .heartbeatTmo s (masterWasReset s 96)) ∧
  (∀ s : State, takes .VLK_CTRL s = true → s.on F.VLK_CTRL_EN = true → runs .vlkDisable s (masterWasReset s 97))

/-- The frame of every command but the 28 that may write any register or reset the device: nothing changes but the parts that
  Machine/Footprint.lean lists for it. Every other register field, every word of QDR-IV and of the flash where they are not listed, and
  every queue is as before. -/
def Obligations.EachCommandKeepsTheRest : Prop :=
  ∀ (c : Instr) (l : List Part) (s t : State), footprint c = some l → exec c s = .next t → Keeps l s t

/-- Whatever the instruction does, a fault included: of all general registers only the one that bits 25:21 of its word name changes, and
  none where the instruction has no result. No other thread of any engine changes its state, PC or privilege, and no thread gains
  privilege. IMEM is as before. -/
def Obligations.OdivoRegisterFrame : Prop :=
  (∀ (c : Instr) (n t m q r : Nat) (s u : State), withResult c = some (n, t) → exec c s = .next u →
    m ≠ n ∨ q ≠ t ∨ r ≠ Eng.fa (Eng.word s n t) → Eng.reg u m q r = Eng.reg s m q r) ∧
  (∀ (c : Instr) (n t m q r : Nat) (s u : State), withoutResult c = some (n, t) → exec c s = .next u →
    Eng.reg u m q r = Eng.reg s m q r) ∧
  (∀ (c : Instr) (n t m q a : Nat) (s u : State), withResult c = some (n, t) ∨ withoutResult c = some (n, t) → exec c s = .next u →
    u.get H.ENG_IMEM m a = s.get H.ENG_IMEM m a ∧ (u.on F.ENG_THR_SUPER m q = true → s.on F.ENG_THR_SUPER m q = true) ∧
    (m ≠ n ∨ q ≠ t → Eng.thread u m q = Eng.thread s m q ∧ Eng.pc u m q = Eng.pc s m q ∧
      u.get F.ENG_THR_STAT_CAUSE m q = s.get F.ENG_THR_STAT_CAUSE m q))

/-- An instruction that stores nothing leaves all DMEM words as they were. STW changes at most the word at rs1 plus its offset, LXCH and
  LADD at most the word at rs1, of their own engine. Where no overflow sampling runs, an instruction that takes no journal entry leaves
  QDR-IV as it was. No instruction changes the flash. -/
def Obligations.OdivoMemoryFrame : Prop :=
  (∀ (c : Instr) (n t m a : Nat) (s u : State), keepsDmem c = some (n, t) → exec c s = .next u →
    u.get H.ENG_DMEM m a = s.get H.ENG_DMEM m a) ∧
  (∀ (n t m a : Nat) (s u : State), exec (.stw n t) s = .next u → m ≠ n ∨ a ≠ unsigned 32 (source1 s n t + simm s n t) / 4 →
    u.get H.ENG_DMEM m a = s.get H.ENG_DMEM m a) ∧
  (∀ (n t m a : Nat) (s u : State), exec (.lxch n t) s = .next u ∨ exec (.ladd n t) s = .next u → m ≠ n ∨ a ≠ source1 s n t / 4 →
    u.get H.ENG_DMEM m a = s.get H.ENG_DMEM m a) ∧
  (∀ (c : Instr) (n t : Nat) (s u : State), keepsJournal c = some (n, t) → exec c s = .next u → s.get F.PMC_SMP_STAT_METHOD ≠ 2 →
    u.qdr = s.qdr) ∧
  (∀ (c : Instr) (n t : Nat) (s u : State), withResult c = some (n, t) ∨ withoutResult c = some (n, t) → exec c s = .next u →
    u.flash = s.flash)

/-- A running thread whose word is illegal faults with cause 1, one that has gone past IMEM with cause 4, whatever command takes its
  turn; no overflow sample is to hold it back. A DMEM address that is not aligned gives cause 2, one beyond 8188 cause 3; an exhausted tag
  supply 5, a tag that is not the thread's 6. The PC stays at the instruction and INT_CAUSE.FAULT is set. -/
def Obligations.EngineFaults : Prop :=
  (∀ (c : Instr) (n t : Nat) (s : State), withResult c = some (n, t) ∨ withoutResult c = some (n, t) → n < 65 → t < 4 →
    Eng.thread s n t = 1 ∨ Eng.thread s n t = 3 → Pmc.heldBack s n t = false → s.on H.ENG_PAST n t = true →
    runs c s (fun u => faulted u n t 4 ∧ Eng.pc u n t = Eng.pc s n t)) ∧
  (∀ (c : Instr) (n t : Nat) (s : State), withResult c = some (n, t) ∨ withoutResult c = some (n, t) → n < 65 → t < 4 →
    Eng.thread s n t = 1 ∨ Eng.thread s n t = 3 → Pmc.heldBack s n t = false → s.on H.ENG_PAST n t = false →
    Eng.legal (Eng.word s n t) = false →
    runs c s (fun u => faulted u n t 1 ∧ Eng.pc u n t = Eng.pc s n t)) ∧
  (∀ (s : State) (n t a : Nat), a = unsigned 32 (source1 s n t + simm s n t) → a % 4 ≠ 0 ∨ 8188 < a →
    (turn s n t 0x10 = true → runs (.ldw n t) s (fun u => faulted u n t (if a % 4 ≠ 0 then 2 else 3) ∧ Eng.pc u n t = Eng.pc s n t)) ∧
    (turn s n t 0x11 = true → runs (.stw n t) s (fun u => faulted u n t (if a % 4 ≠ 0 then 2 else 3) ∧ Eng.pc u n t = Eng.pc s n t))) ∧
  (∀ (s : State) (n t : Nat), source1 s n t % 4 ≠ 0 ∨ 8188 < source1 s n t →
    (turn s n t 0x12 = true → runs (.lxch n t) s (fun u => faulted u n t (if source1 s n t % 4 ≠ 0 then 2 else 3) ∧
      Eng.pc u n t = Eng.pc s n t)) ∧
    (turn s n t 0x13 = true → runs (.ladd n t) s (fun u => faulted u n t (if source1 s n t % 4 ≠ 0 then 2 else 3) ∧
      Eng.pc u n t = Eng.pc s n t))) ∧
  (∀ (s : State) (n t : Nat), n < 65 → t < 4 → Eng.thread s n t = 3 → Eng.freeTag s n = none →
    runs (.tagExhaust n t) s (fun u => faulted u n t 5 ∧ Eng.pc u n t = Eng.pc s n t)) ∧
  (∀ (s : State) (n t : Nat), Eng.owned s n t (source1 s n t % 256) = false →
    (turn s n t 0x33 = true → runs (.tstat n t) s (fun u => faulted u n t 6 ∧ Eng.pc u n t = Eng.pc s n t)) ∧
    (turn s n t 0x34 = true → runs (.trel n t) s (fun u => faulted u n t 6 ∧ Eng.pc u n t = Eng.pc s n t)))

/-- A USER thread issues RLD, RST or a remote atomic at an aligned address of BAR0 that none of its four windows covers (for a write,
  with the WRITE bit). The operation's journal entry is ABORTED with cause PRIV, no operation becomes open, and the thread does not
  fault. -/
def Obligations.UserThreadsStayInTheirWindows : Prop :=
  (∀ (s : State) (n t k a : Nat), turn s n t 0x18 = true → userReach s n t a = true → Eng.windowMay s n a false = false →
    Eng.freeTag s n = some k →
    runs (.rld n t) s (fun u => refusedAsPriv s u n t)) ∧
  (∀ (s : State) (n t k a : Nat), turn s n t 0x19 = true → userReach s n t a = true → Eng.windowMay s n a true = false →
    Eng.freeTag s n = some k →
    runs (.rst n t) s (fun u => refusedAsPriv s u n t)) ∧
  (∀ (c : Instr) (s : State) (n t k a op : Nat), remoteAtomic c = some (n, t, op) → turn s n t op = true → userReach s n t a = true →
    Eng.windowMay s n a true = false → Eng.freeTag s n = some k → runs c s (fun u => refusedAsPriv s u n t))

/-- Bits 1 and 23 of the summary are 0 in every state, and what VEC_MAP gives for those blocks changes no message and no pending bit. Bit
  4 is set exactly where some engine window has a cause with its mask bit 1 (that a mask bit of 1 lets through is read from the spec,
  notes/assumptions/5.md). -/
def Obligations.SummaryBits : Prop :=
  (∀ s : State, s.summary.testBit 1 = false ∧ s.summary.testBit 23 = false) ∧
  (∀ s : State, s.summary.testBit 4 = true ↔
    ∃ n, n < 65 ∧ s.get F.ENG_INT_MASK_MASK n &&& s.word .ENG_INT_CAUSE n ≠ 0) ∧
  (∀ (s t : State) (v b : Nat), b = 1 ∨ b = 23 →
    (settle s (t.put F.SYS_VEC_MAP_VEC v b)).out = (settle s t).out ∧ (settle s (t.put F.SYS_VEC_MAP_VEC v b)).msix = (settle s t).msix)

/-- Two states that differ only in a word of a slot's key, in a word of KEY_DATA or in KEY_SALT answer every register read of every
  master alike. -/
def Obligations.KeysAreNeverRead : Prop :=
  ∀ (s : State) (who : Pmc.Who) (a v c ph i : Nat),
    (Bus.read who a (s.put H.CRY_KEY v c ph i)).1 = (Bus.read who a s).1 ∧
    (Bus.read who a (s.put F.CRY_KEY_DATA_KEY v i)).1 = (Bus.read who a s).1 ∧
    (Bus.read who a (s.put F.CRY_KEY_SALT_SALT v)).1 = (Bus.read who a s).1

/-- CTR is at or above NEXT, its low 16 bits are the frame's SEQ and no smaller such value exists. After the frame NEXT is CTR + 1, below
  2^64, so that the next counter is greater; adding an encrypted flow raises NEXT to a multiple of 2^16, never lowers it. -/
def Obligations.CipherCountersNeverRepeat : Prop :=
  (∀ n q : Nat, n ≤ Cry.counterFor n q ∧ Cry.counterFor n q % 2 ^ 16 = q % 2 ^ 16 ∧
    ∀ x, n ≤ x → x % 2 ^ 16 = q % 2 ^ 16 → Cry.counterFor n q ≤ x) ∧
  (∀ (s : State) (c : Nat) (f : Cf), c < 3072 → Cry.counterFor (s.get H.CRY_NEXT c) f.seq + 1 < 2 ^ 64 →
    (Cry.encrypt c f s).2.get H.CRY_NEXT c = Cry.counterFor (s.get H.CRY_NEXT c) f.seq + 1 ∧
    (Cry.encrypt c f s).2.get H.CRY_CUR c = Cry.counterFor (s.get H.CRY_NEXT c) f.seq) ∧
  (∀ (s : State) (c : Nat), c < 3072 → s.get H.CRY_NEXT c + 2 ^ 16 ≤ 2 ^ 64 →
    (Cry.addFlow c s).get H.CRY_NEXT c % 2 ^ 16 = 0 ∧ s.get H.CRY_NEXT c ≤ (Cry.addFlow c s).get H.CRY_NEXT c)

/-- Accesses of the host functions F0 to F7 (masters 1 to 8) while the host interface is open, and the lock. A write of SYS.INT_MASK with
  all four byte enables gives the field its bits of the dword. A write of a register whose block is in soft reset waits behind those that
  wait already. A write of an entry word of the function's own MSI-X table (BAR2) stores the dword. A read of HKA.RES[e] answers result,
  NEW and OVR as they stood and clears NEW and OVR. A read of PMC.CNT_LO[i] answers the low 32 bits of counter i and takes the reading
  master's snapshot of the high 16. A locked read or an AtomicOp (kind 0 or 1) is answered as Unsupported Request, and so is any request
  while the host interface is closed. SYS_LOCK sets LOCK where bit 0 of the value is 1 and leaves it as it was where the bit is 0. -/
def Obligations.RegisterAccessResults : Prop :=
  (∀ (s : State) (master value be : Nat),
      1 ≤ master → master ≤ 8 → s.on F.SYS_STAT_HOST_OPEN → be % 16 = 15 → takes .SYS_INT_MASK s →
        runs (.registerWrite master 0x14 value be) s (fun t => t.get F.SYS_INT_MASK_MASK = value % 4)) ∧
  (∀ (s : State) (master addr value be : Nat),
      1 ≤ master → master ≤ 8 → s.on F.SYS_STAT_HOST_OPEN → be % 16 = 15 → addr < 0x1000000 → Bus.inReset s addr →
        runs (.registerWrite master addr value be) s (fun t => t.held = s.held ++ [⟨master, false, addr, value % 2 ^ 32, true⟩])) ∧
  (∀ (s : State) (master n i value be : Nat),
      1 ≤ master → master ≤ 8 → s.on F.SYS_STAT_HOST_OPEN → be % 16 = 15 → n < 64 → i < 3 →
        runs (.registerWrite master (0x1000000 + 16 * n + 4 * i) value be) s (fun t => Store.get 0 t.msix.entry (192 * (master - 1) + 3 *
        n + i) = value % 2 ^ 32)) ∧
  (∀ (s : State) (master e : Nat),
      1 ≤ master → master ≤ 8 → s.on F.SYS_STAT_HOST_OPEN → takes .HKA_RES s → e < 32 →
        runs (.readClear master (RegId.barAddr .HKA_RES e 0 0)) s (fun t => Emit.readData master (RegId.barAddr .HKA_RES e 0 0) (s.get
        F.HKA_RES_DATA e + 2 ^ 16 * s.get F.HKA_RES_NEW e + 2 ^ 17 * s.get F.HKA_RES_OVR e) ∈ t.out ∧ t.get F.HKA_RES_NEW e = 0 ∧
        t.get F.HKA_RES_OVR e = 0)) ∧
  (∀ (s : State) (master i : Nat),
      1 ≤ master → master ≤ 8 → s.on F.SYS_STAT_HOST_OPEN → takes .PMC_CNT_LO s → i < 1536 →
        runs (.snapshotRead master (RegId.barAddr .PMC_CNT_LO i 0 0)) s (fun t => Emit.readData master (RegId.barAddr .PMC_CNT_LO i 0 0)
        (s.get H.PMC_CNT i % 2 ^ 32) ∈ t.out ∧ t.on H.PMC_SNAP_VALID master i ∧ t.get H.PMC_SNAP_HI master i = s.get H.PMC_CNT i / 2 ^ 32)) ∧
  (∀ (s : State) (kind function addr : Nat),
      function < 8 → (kind < 2 ∨ s.on F.SYS_STAT_HOST_OPEN = false) → runs (.pcieUnsupportedRequest kind function addr) s (fun t =>
        Emit.unsupported function addr ∈ t.out)) ∧
  (∀ (s : State) (value : Nat),
      takes .SYS_LOCK s → runs (.sysLock value) s (fun t => t.on F.SYS_LOCK_LOCK = (value.testBit 0 || s.on F.SYS_LOCK_LOCK)))

/-- Bridges and slack monitors (monitor m < 16). Prefilling a bridge whose island runs marks it prefilled and arms the monitor that
  watches it. An underflow or an overflow of a prefilled bridge whose island runs, its monitor armed, is counted in that monitor's
  UNDERRUN, sets its HARD bit and takes its actions of Table PWR-1. SLACK_LOW at an armed monitor below SOFT sets its LOW bit and the
  SLACK cause; where the device makes slack-driven requests and none is in progress, one AVS step more is requested, and where that would
  pass 0.85 V AVS_CEILING is set instead. A crossing of HARD at an armed monitor is counted, sets its HARD bit and the SLACK cause and
  takes the actions. Where every armed monitor holds SOFT + HYST at the slacks that come with AVS_DECREASE_REQUEST, out of REST, the
  target falls by one step or to the minimum, if that is lower. AUTO_RELEASE and RELEASE begin the release of an action whose monitors
  stand at or above SOFT at the slacks that come with them; RELEASE with an action that cannot be released sets RELEASE_REFUSED. At the
  next frame boundary of the transmit counters the released actions end. SLACK_CFG takes a legal pair of margins. -/
def Obligations.SlackCommandResults : Prop :=
  (∀ (s : State) (b m : Nat),
      b < 646 → Pwr.running s b → Pwr.monitorOf s b = some m → runs (.bridgePrefilled b) s (fun t => t.on H.PWR_PREFILLED b ∧
        t.bit H.PWR_ARMED m)) ∧
  (∀ (s : State) (b m : Nat),
      b < 646 → Pwr.running s b → s.on H.PWR_PREFILLED b → Pwr.monitorOf s b = some m → Pwr.armed s m →
        runs (.bridgeUnderflow b) s (fun t => t.get F.PWR_SLACK_LVL_UNDERRUN m = min 255 (s.get F.PWR_SLACK_LVL_UNDERRUN m + 1) ∧
        t.bit F.PWR_SLACK_STAT_HARD m ∧ actionsTaken t m)) ∧
  (∀ (s : State) (b m : Nat),
      b < 646 → Pwr.running s b → s.on H.PWR_PREFILLED b → Pwr.monitorOf s b = some m → Pwr.armed s m →
        runs (.bridgeOverflow b) s (fun t => t.get F.PWR_SLACK_LVL_UNDERRUN m = min 255 (s.get F.PWR_SLACK_LVL_UNDERRUN m + 1) ∧
        t.bit F.PWR_SLACK_STAT_HARD m ∧ actionsTaken t m)) ∧
  (∀ (s : State) (m now : Nat),
      m < 16 → Pwr.armed s m → now < s.get F.PWR_SLACK_CFG_SOFT m → runs (.slackLow m now) s (fun t => t.bit F.PWR_SLACK_STAT_LOW m ∧
        t.on F.PWR_INT_CAUSE_SLACK ∧ ((s.on F.PWR_SLACK_CTRL_AVS_AUTO && !s.on F.PWR_SAFE_STAT_AVS_FAIL && !s.on
        F.PWR_SAFE_STAT_AVS_CEILING && !s.on F.PWR_AVS_READ_BUSY) = true → (s.get H.PWR_TARGET + Pwr.stepHalfMv s ≤ 1700 →
        t.get H.PWR_TARGET = s.get H.PWR_TARGET + Pwr.stepHalfMv s ∧ t.on F.PWR_AVS_READ_BUSY = true) ∧
        (1700 < s.get H.PWR_TARGET + Pwr.stepHalfMv s → t.on F.PWR_SAFE_STAT_AVS_CEILING = true)))) ∧
  (∀ (s : State) (m now : Nat),
      m < 16 → Pwr.armed s m → now ≤ s.get F.PWR_SLACK_CFG_HARD m → runs (.hardMarginCrossing m now) s (fun t => t.get
        F.PWR_SLACK_LVL_HARD_CNT m = min 255 (s.get F.PWR_SLACK_LVL_HARD_CNT m + 1) ∧ t.bit F.PWR_SLACK_STAT_HARD m ∧
        t.on F.PWR_INT_CAUSE_SLACK ∧ actionsTaken t m)) ∧
  (∀ (s : State) (levels : List Nat) (v : Nat),
      s.on H.PWR_ARMED → s.get F.PWR_REST_STAT_STATE ≠ 2 → (List.range 16).all (fun m => !Pwr.armed s m || decide (s.get
        F.PWR_SLACK_CFG_SOFT m + s.get F.PWR_SLACK_CTRL_HYST ≤ (Pwr.observeAll levels s).get F.PWR_SLACK_LVL_NOW m)) →
        s.on F.PWR_SLACK_CTRL_AVS_AUTO → s.on F.PWR_SAFE_STAT_AVS_FAIL = false → s.on F.PWR_AVS_READ_BUSY = false →
        s.get F.PWR_SLACK_CTRL_LOWER_DWELL ≠ 0 → v = max (s.get H.PWR_TARGET - Pwr.stepHalfMv s) (2 * s.get F.PWR_VMIN_VMIN_MV) →
        v < s.get H.PWR_TARGET → runs (.avsDecreaseRequest levels) s (fun t => t.get H.PWR_TARGET = v ∧
        t.get F.PWR_VMIN_VREQ_MV = (v + 1) / 2 % 1024 ∧ t.on F.PWR_AVS_READ_BUSY)) ∧
  (∀ (s : State) (levels : List Nat) (a : Nat),
      s.on F.PWR_SLACK_CTRL_AUTO_RELEASE → a < 4 → Pwr.inForce s a → Pwr.pathClear (Pwr.observeAll levels s) a →
        runs (.autoRelease levels) s (fun t => t.bit H.PWR_RELEASING a)) ∧
  (∀ (s : State) (levels : List Nat) (a : Nat),
      takes .PWR_SLACK_CTRL s → a < 4 → Pwr.inForce s a → runs (.release levels) s (fun t => if Pwr.pathClear (Pwr.observeAll levels s) a
        then t.bit H.PWR_RELEASING a = true else t.on F.PWR_SAFE_STAT_RELEASE_REFUSED = true)) ∧
  (∀ (s : State),
      s.on F.FRM_CTRL_TX_EN → runs .actionReleaseEffect s (fun t => (s.bit H.PWR_RELEASING 0 = true →
        t.on F.PWR_SAFE_STAT_TX_MUTED = false ∧ t.bit F.LTX_STAT_MUTE_SRC 1 = false) ∧ (s.bit H.PWR_RELEASING 1 = true →
        t.on F.PWR_SAFE_STAT_RX_SAFE = false) ∧ (s.bit H.PWR_RELEASING 2 = true → t.on F.PWR_SAFE_STAT_UP_SAFE = false) ∧
        (s.bit H.PWR_RELEASING 3 = true → t.on F.PWR_SAFE_STAT_PEER_HELD = false) ∧ t.get H.PWR_RELEASING = 0)) ∧
  (∀ (s : State) (m value : Nat),
      m < 16 → takes .PWR_SLACK_CFG s → s.on F.SYS_LOCK_LOCK = false → 1 ≤ slice value 8 6 → slice value 8 6 < slice value 0 6 →
        slice value 0 6 ≤ 24 → runs (.slackCfgWrite m value) s (fun t => t.get F.PWR_SLACK_CFG_SOFT m = slice value 0 6 ∧
        t.get F.PWR_SLACK_CFG_HARD m = slice value 8 6))

/-- Transmit line. LTX_ENABLE while disabled, with all checks of the enable sequence passed, sets EN, leaves CFG_STEP 0 and takes FREQ_OFS
  into use; where a check fails it sets CFG_ERR, gives the check in CFG_STEP and leaves EN 0. LTX_START of an enabled LTX that is not
  active, with prefilled DAC bridges, running counters and no held rate, makes it ACTIVE and ends mute source 3. LTX_DISABLE of an enabled
  LTX ends both and sets source 3. HOST_MUTE gives MUTE and source 0 its value, where PEER does not hold MUTE. MUTE_RESUME with running
  counters, no source and prefilled DAC bridges resumes the output. FREQ_OFS takes an offset that both banks allow, to be used at the next
  block; another one sets CFG_ERR and changes nothing. -/
def Obligations.TransmitterCommandResults : Prop :=
  (∀ (s : State),
      takes .LTX_CTRL s → s.on F.LTX_CTRL_EN = false → Ltx.check s = 0 → runs .ltxEnable s (fun t => t.on F.LTX_CTRL_EN ∧
        t.get F.LTX_STAT_CFG_STEP = 0 ∧ t.get H.LTX_OFS_NOW = s.get F.LTX_FREQ_OFS_OFS)) ∧
  (∀ (s : State),
      takes .LTX_CTRL s → s.on F.LTX_CTRL_EN = false → Ltx.check s ≠ 0 → runs .ltxEnable s (fun t => t.on F.LTX_CTRL_EN = false ∧
        t.on F.LTX_INT_CAUSE_CFG_ERR ∧ t.get F.LTX_STAT_CFG_STEP = Ltx.check s)) ∧
  (∀ (s : State),
      s.on F.LTX_CTRL_EN → s.on F.LTX_STAT_ACTIVE = false → s.on F.FRM_CTRL_TX_EN → Pwr.prefilled s 512 16 → s.on H.PWR_HOLD_TX = false →
        runs .ltxStart s (fun t => t.on F.LTX_STAT_ACTIVE ∧ t.bit F.LTX_STAT_MUTE_SRC 3 = false)) ∧
  (∀ (s : State),
      takes .LTX_CTRL s → s.on F.LTX_CTRL_EN → runs .ltxDisable s (fun t => t.on F.LTX_CTRL_EN = false ∧ t.on F.LTX_STAT_ACTIVE = false ∧
        t.bit F.LTX_STAT_MUTE_SRC 3)) ∧
  (∀ (s : State) (value : Nat),
      takes .LTX_CTRL s → s.on H.PEER_MUTE_HELD = false → runs (.hostMute value) s (fun t => t.get F.LTX_CTRL_MUTE = value % 2 ∧
        t.bit F.LTX_STAT_MUTE_SRC 0 = (value % 2 == 1))) ∧
  (∀ (s : State),
      s.on F.FRM_CTRL_TX_EN → s.get F.LTX_STAT_MUTE_SRC = 0 → Pwr.prefilled s 512 16 → runs .muteResume s (fun t => t.on H.LTX_OUTPUT)) ∧
  (∀ (s : State) (value : Nat),
      takes .LTX_FREQ_OFS s → Ltx.offsetOk s (value % 65536) → runs (.freqOfsWrite value) s (fun t => t.get F.LTX_FREQ_OFS_OFS = value %
        65536 ∧ t.on H.LTX_OFS_PENDING)) ∧
  (∀ (s : State) (value : Nat),
      takes .LTX_FREQ_OFS s → Ltx.offsetOk s (value % 65536) = false → runs (.freqOfsWrite value) s (fun t => t.get F.LTX_FREQ_OFS_OFS =
        s.get F.LTX_FREQ_OFS_OFS ∧ t.get H.LTX_OFS_PENDING = s.get H.LTX_OFS_PENDING ∧ t.on F.LTX_INT_CAUSE_CFG_ERR))

/-- LOAD_SWAP of direction d that is due, its multiframe reached, exchanges the two banks of the end that it belongs to (the transmitter
  of a hub's downstream and of a leaf's upstream, else the receiver) and their versions. The frequency offset in wait is used at the block
  boundary. CDPRE_GO with D within D_max in hub role starts a fade to D, or is held while one runs; once its blocks have passed a fade's D
  is in use, and a held GO starts. A skew written that differs from the lane's present one starts a slew; in n blocks every lane comes n
  steps of 1/64 ps nearer its value, and after 4,095 all are there and SKEW_SLEW is 0. PEQ_SWAP and PD_SWAP wait for their boundary, where
  the banks of all lanes exchange. A converter clock with a rate locks. -/
def Obligations.TransmitterPathResults : Prop :=
  (∀ (s : State) (d m k : Nat),
      d < 2 → Scm.localTx s.leaf d → s.on H.LTX_SWAP_DUE → Tick.reached d s = some m → Scm.mfSince m (s.get H.LTX_SWAP_MF) < 2 ^ 23 →
        k < 512 → runs (.loadSwap d) s (fun t => t.get H.LTX_ACTIVE k = s.get H.LTX_SHADOW k ∧
        t.get H.LTX_SHADOW k = s.get H.LTX_ACTIVE k ∧ t.get H.LTX_ACT_VER = s.get H.LTX_SHADOW_VER ∧
        t.get H.LTX_SHADOW_VER = s.get H.LTX_ACT_VER ∧ t.get F.LTX_STAT_BANK = 1 - s.get F.LTX_STAT_BANK ∧
        t.on F.LTX_INT_CAUSE_LOAD_SWAP ∧ t.on H.LTX_SWAP_DUE = false)) ∧
  (∀ (s : State) (d m k : Nat),
      d < 2 → Scm.localTx s.leaf d = false → s.on H.LRX_SWAP_DUE → Tick.reached d s = some m →
        Scm.mfSince m (s.get H.LRX_SWAP_MF) < 2 ^ 23 → k < 512 → runs (.loadSwap d) s (fun t => t.get H.LRX_ACTIVE k = s.get H.LRX_SHADOW
        k ∧ t.get H.LRX_SHADOW k = s.get H.LRX_ACTIVE k ∧ t.get H.LRX_ACT_VER = s.get H.LRX_SHADOW_VER ∧
        t.get H.LRX_SHADOW_VER = s.get H.LRX_ACT_VER ∧ t.get F.LRX_STAT_BANK = 1 - s.get F.LRX_STAT_BANK ∧
        t.on F.LRX_INT_CAUSE_LOAD_SWAP ∧ t.on H.LRX_SWAP_DUE = false)) ∧
  (∀ (s : State),
      s.on H.LTX_OFS_PENDING → runs .freqOfsApply s (fun t => t.get H.LTX_OFS_NOW = s.get F.LTX_FREQ_OFS_OFS ∧
        t.on H.LTX_OFS_PENDING = false)) ∧
  (∀ (s : State),
      takes .LTX_CDPRE_CTRL s → s.leaf = false → Ltx.withinDmax (s.sget F.LTX_CDPRE_D).natAbs (s.get F.LTX_LINE_CFG_BAUD_MBD) →
        runs .cdpreGo s (fun t => t.on F.LTX_STAT_CD_FADING ∧ (s.on F.LTX_STAT_CD_FADING = false →
        t.get H.LTX_D_FADE = s.get F.LTX_CDPRE_D) ∧ (s.on F.LTX_STAT_CD_FADING = true → t.on H.LTX_GO_HELD = true ∧
        t.get H.LTX_D_HELD = s.get F.LTX_CDPRE_D))) ∧
  (∀ (s : State) (blocks : Nat),
      s.on F.LTX_STAT_CD_FADING → s.get H.LTX_FADE_LEN ≤ blocks → runs (.cdpreFadeDone blocks) s (fun t => t.get H.LTX_D_NOW = s.get
        H.LTX_D_FADE ∧ t.on F.LTX_INT_CAUSE_CD_DONE ∧ t.get F.LTX_STAT_CD_FADING = s.get H.LTX_GO_HELD ∧ (s.on H.LTX_GO_HELD = true →
        t.get H.LTX_D_FADE = s.get H.LTX_D_HELD))) ∧
  (∀ (s : State) (d value : Nat),
      takes .LTX_SKEW s → d < 4 → value % 4096 ≠ s.get H.LTX_SKEW_NOW d →
        runs (.skewWrite d value) s (fun t => t.get F.LTX_SKEW_SKEW d = value % 4096 ∧ t.on F.LTX_STAT_SKEW_SLEW)) ∧
  (∀ (s : State) (blocks d : Nat),
      d < 4 → runs (.skewSlewDone blocks) s (fun t => t.sget H.LTX_SKEW_NOW d = Ltx.approach blocks (s.sget H.LTX_SKEW_NOW d) (s.sget
        F.LTX_SKEW_SKEW d) ∧ (4095 ≤ blocks → t.get H.LTX_SKEW_NOW d = s.get F.LTX_SKEW_SKEW d ∧ t.on F.LTX_STAT_SKEW_SLEW = false))) ∧
  (∀ (s : State),
      takes .LTX_CTRL s → runs .peqSwap s (fun t => t.on F.LTX_STAT_PEQ_PENDING)) ∧
  (∀ (s : State) (d x : Nat),
      s.on F.LTX_STAT_PEQ_PENDING → d < 4 → x < 15 → runs .peqSwapApply s (fun t => t.get H.LTX_PEQ_ACTIVE d x = s.get F.LTX_PEQ_TAP d x
        ∧ t.get F.LTX_PEQ_TAP d x = s.get H.LTX_PEQ_ACTIVE d x ∧ t.on F.LTX_STAT_PEQ_PENDING = false)) ∧
  (∀ (s : State),
      takes .LTX_CTRL s → runs .pdSwap s (fun t => t.on F.LTX_STAT_PD_PENDING)) ∧
  (∀ (s : State) (d x : Nat),
      s.on F.LTX_STAT_PD_PENDING → d < 4 → x < 65 → runs .pdSwapApply s (fun t => t.get H.LTX_PD_ACTIVE d x = s.get F.LTX_PD_LUT_Y d x ∧
        t.get F.LTX_PD_LUT_Y d x = s.get H.LTX_PD_ACTIVE d x ∧ t.on F.LTX_STAT_PD_PENDING = false)) ∧
  (∀ (s : State),
      s.get F.CVT_DAC_FS_FS_MHZ ≠ 0 → runs (.converterClockLock true) s (fun t => t.on F.CVT_DAC_STAT_CLK_LOCK)) ∧
  (∀ (s : State),
      s.get F.CVT_ADC_FS_FS_MHZ ≠ 0 → runs (.converterClockLock false) s (fun t => t.on F.CVT_ADC_STAT_CLK_LOCK))

/-- Line receive (states 0 OFF, 1 PREFILL, 2 CD, 3 COARSE, 4 SUBCARRIER, 5 TRACK). LRX_ENABLE while disabled, with all checks passed, sets
  EN with CFG_STEP 0, takes LRX.CD into use and stands in PREFILL or CD; where a check fails it sets CFG_ERR, gives the check in CFG_STEP
  and leaves EN 0. LRX_DISABLE of an enabled LRX leaves it OFF, without LOS and with no retries. LOS_SET below LOS_THR sets LOS, and
  enters CD at once where HOLD_MS is 0; LOS_CLEAR at LOS_THR + LOS_HYST clears it, starts an armed fade and, from COARSE on, leaves the
  LLRs invalid until the phase is re-acquired; the expiry of the hold enters CD. With D within the reservation and LRX not OFF, CD_GO
  starts a fade or is held while one runs, and CD_ARM arms one where none runs; CD_DISARM ends that. Once its blocks have passed a fade's
  dispersion is in use. An estimate within the reservation ends state CD: with CD_AUTO it is stored and used, else the host's LRX.CD is;
  in TRACK it is only stored. A coarse lock within F_cap, settled to 30 MHz, leads to SUBCARRIER and is rotated out; ACQ_TMO in CD, COARSE
  or SUBCARRIER counts a retry and enters CD. -/
def Obligations.ReceiverAcquisitionResults : Prop :=
  (∀ (s : State),
      takes .LRX_CTRL s → s.on F.LRX_CTRL_EN = false → Lrx.check s = 0 → runs .lrxEnable s (fun t => t.on F.LRX_CTRL_EN ∧
        t.get F.LRX_STAT_CFG_STEP = 0 ∧ t.get H.LRX_D_NOW = s.get F.LRX_CD_D ∧ (t.get F.LRX_STAT_STATE = 1 ∨ t.get F.LRX_STAT_STATE = 2))) ∧
  (∀ (s : State),
      takes .LRX_CTRL s → s.on F.LRX_CTRL_EN = false → Lrx.check s ≠ 0 → runs .lrxEnable s (fun t => t.on F.LRX_CTRL_EN = false ∧
        t.on F.LRX_INT_CAUSE_CFG_ERR ∧ t.get F.LRX_STAT_CFG_STEP = Lrx.check s)) ∧
  (∀ (s : State),
      takes .LRX_CTRL s → s.on F.LRX_CTRL_EN → runs .lrxDisable s (fun t => t.on F.LRX_CTRL_EN = false ∧ t.get F.LRX_STAT_STATE = 0 ∧
        t.on F.LRX_STAT_LOS = false ∧ (s.on F.LRX_STAT_LOS = true → t.on F.LRX_INT_CAUSE_LOS_CHG = true) ∧ t.get F.LRX_STAT_ACQ_RETRY = 0)) ∧
  (∀ (s : State) (rms : Nat),
      s.on F.LRX_CTRL_EN → s.on F.LRX_STAT_LOS = false → rms < s.get F.LRX_ACQ_CFG_LOS_THR →
        runs (.losSet rms) s (fun t => t.on F.LRX_STAT_LOS ∧ t.on F.LRX_INT_CAUSE_LOS_CHG ∧
        t.get F.LRX_STAT_STATE = (if s.get F.LRX_ACQ_CFG_HOLD_MS = 0 ∧ 2 ≤ s.get F.LRX_STAT_STATE then 2 else s.get F.LRX_STAT_STATE))) ∧
  (∀ (s : State) (rms : Nat),
      s.on F.LRX_STAT_LOS → s.get F.LRX_ACQ_CFG_LOS_THR + s.get F.LRX_ACQ_CFG_LOS_HYST ≤ rms →
        runs (.losClear rms) s (fun t => t.on F.LRX_STAT_LOS = false ∧ t.on F.LRX_INT_CAUSE_LOS_CHG ∧ (s.on F.LRX_STAT_CD_ARMED = true →
        t.on F.LRX_STAT_CD_FADING = true ∧ t.get H.LRX_D_FADE = s.get H.LRX_D_ARMED) ∧ (3 ≤ s.get F.LRX_STAT_STATE →
        t.on H.LRX_LLR_HOLD = true))) ∧
  (∀ (s : State),
      s.on F.LRX_STAT_LOS → 2 ≤ s.get F.LRX_STAT_STATE → runs .losHoldExpiry s (fun t => t.get F.LRX_STAT_STATE = 2)) ∧
  (∀ (s : State),
      takes .LRX_CD_CTRL s → (s.sget F.LRX_CD_D).natAbs ≤ s.get F.LRX_CD_RES_RES → s.get F.LRX_STAT_STATE ≠ 0 →
        runs .cdGo s (fun t => t.on F.LRX_STAT_CD_ARMED = false ∧ (s.on F.LRX_STAT_CD_FADING = false → t.on F.LRX_STAT_CD_FADING = true ∧
        t.get H.LRX_D_FADE = s.get F.LRX_CD_D) ∧ (s.on F.LRX_STAT_CD_FADING = true → t.on F.LRX_STAT_CD_HELD = true ∧
        t.get H.LRX_D_HELD = s.get F.LRX_CD_D))) ∧
  (∀ (s : State),
      takes .LRX_CD_CTRL s → (s.sget F.LRX_CD_D).natAbs ≤ s.get F.LRX_CD_RES_RES → s.get F.LRX_STAT_STATE ≠ 0 →
        s.on F.LRX_STAT_CD_FADING = false → s.on F.LRX_STAT_CD_HELD = false → runs .cdArm s (fun t => t.on F.LRX_STAT_CD_ARMED ∧
        t.get H.LRX_D_ARMED = s.get F.LRX_CD_D)) ∧
  (∀ (s : State),
      takes .LRX_CD_CTRL s → runs .cdDisarm s (fun t => t.on F.LRX_STAT_CD_ARMED = false)) ∧
  (∀ (s : State) (blocks : Nat),
      s.on F.LRX_STAT_CD_FADING → s.get H.LRX_FADE_LEN ≤ blocks → runs (.cdFadeDone blocks) s (fun t => t.get H.LRX_D_NOW = s.get
        H.LRX_D_FADE ∧ t.on F.LRX_INT_CAUSE_CD_DONE ∧ t.get F.LRX_STAT_CD_FADING = s.get F.LRX_STAT_CD_HELD)) ∧
  (∀ (s : State) (est : Int),
      s.get F.LRX_STAT_STATE = 2 → s.on F.LRX_STAT_CD_FADING = false → est.natAbs ≤ s.get F.LRX_CD_RES_RES →
        runs (.cdEstimateDone est) s (fun t => t.get F.LRX_STAT_STATE = 3 ∧ (s.on F.LRX_CTRL_CD_AUTO = true →
        t.get F.LRX_CD_EST_EST = unsigned 22 est ∧ t.on F.LRX_CD_EST_VALID = true ∧ t.get F.LRX_CD_D = unsigned 22 est ∧
        t.get H.LRX_D_NOW = unsigned 22 est) ∧ (s.on F.LRX_CTRL_CD_AUTO = false → t.get F.LRX_CD_EST_EST = s.get F.LRX_CD_EST_EST ∧
        t.get H.LRX_D_NOW = s.get F.LRX_CD_D))) ∧
  (∀ (s : State) (est : Int),
      s.get F.LRX_STAT_STATE = 5 → s.on F.LRX_STAT_LOS = false → runs (.cdEstimateDone est) s (fun t => t.get F.LRX_CD_EST_EST = unsigned
        22 est ∧ t.on F.LRX_CD_EST_VALID ∧ t.get F.LRX_CD_D = s.get F.LRX_CD_D ∧ t.get H.LRX_D_NOW = s.get H.LRX_D_NOW)) ∧
  (∀ (s : State) (ofs : Int) (spread : Nat),
      s.get F.LRX_STAT_STATE = 3 → ofs.natAbs ≤ Lrx.capture s → spread ≤ 300 → s.on F.LRX_STAT_LOS = false →
        runs (.coarseLock ofs spread) s (fun t => t.get F.LRX_STAT_STATE = 4 ∧ t.sget H.LRX_ROT = ofs * 32768)) ∧
  (∀ (s : State),
      2 ≤ s.get F.LRX_STAT_STATE → s.get F.LRX_STAT_STATE ≤ 4 → runs .acqTmo s (fun t => t.get F.LRX_STAT_STATE = 2 ∧
        t.on F.LRX_INT_CAUSE_ACQ_TMO ∧ t.get F.LRX_STAT_ACQ_RETRY = min 127 (s.get F.LRX_STAT_ACQ_RETRY + 1)))

/-- Tracking, where LOS does not freeze it. SC_LOCK of a processed subcarrier at LOCK_SNR in SUBCARRIER or TRACK sets LOCK, and TRACK from
  SUBCARRIER where it is DATA or BEACON; SC_UNLOCK 1 dB lower and SINGULAR at a correlation above 0.8 return it to ACQ, the latter with
  initial taps, counted; TRACK_LOST with no anchored subcarrier returns to COARSE. CYCLE_SLIP of a processed subcarrier counts, and with
  CS_EN turns its quadrant. LOFB_UPDATE reports the total offset, rotation and mean together, and moves the fine-tune output by 2^-GAIN of
  it within ±400 MHz, or holds it while an offload is pending; an offload that LSR has reported complete steps SER by its amount; its
  failure stops offloading. RESTART out of OFF enters CD. SNR_LATCH of an enabled LRX latches the three SNRs of a processed subcarrier
  from its sums, with VALID as the window's lock stood, those of a leaf from its row, and in TRACK the estimates of delay, loss and
  carrier offset. DM_ERR of a block that the entry's enumeration cannot have given is counted. At a slot's start of a pair with grants
  TAP_SET_SWITCH loads its set, a first set with initial taps in ACQ; at its end the taps are saved, unadapted where EQ_FREEZE is set.
  PHASE_REACQUIRED makes the LLRs valid. -/
def Obligations.ReceiverTrackingResults : Prop :=
  (∀ (s : State) (k snr : Nat),
      k < 512 → 4 ≤ s.get F.LRX_STAT_STATE → s.on F.LRX_STAT_LOS = false → Lrx.processed s k → s.get F.LRX_SC_STAT_LOCK k ≠ 2 →
        s.get F.LRX_EQ_CFG_LOCK_SNR ≤ snr → runs (.scLock k snr) s (fun t => t.get F.LRX_SC_STAT_LOCK k = 2 ∧
        ((s.get F.LRX_STAT_STATE = 4 ∧ (s.get H.LRX_ACTIVE k % 8 = 1 ∨ s.get H.LRX_ACTIVE k % 8 = 2)) → t.get F.LRX_STAT_STATE = 5 ∧
        t.on F.LRX_INT_CAUSE_TRACK = true))) ∧
  (∀ (s : State) (k snr : Nat),
      k < 512 → s.get F.LRX_SC_STAT_LOCK k = 2 → s.on F.LRX_STAT_LOS = false → snr + 16 < s.get F.LRX_EQ_CFG_LOCK_SNR →
        runs (.scUnlock k snr) s (fun t => t.get F.LRX_SC_STAT_LOCK k = 1)) ∧
  (∀ (s : State),
      s.get F.LRX_STAT_STATE = 5 → s.on F.LRX_STAT_LOS = false → Lrx.anchored s = false →
        runs .trackLost s (fun t => t.get F.LRX_STAT_STATE = 3 ∧ t.on F.LRX_INT_CAUSE_TRACK_LOST)) ∧
  (∀ (s : State) (k num den : Nat),
      k < 512 → 4 ≤ s.get F.LRX_STAT_STATE → s.on F.LRX_STAT_LOS = false → Lrx.processed s k → 4 * den < 5 * num →
        runs (.singular k num den) s (fun t => t.get F.LRX_SC_STAT_LOCK k = 1 ∧ t.get H.LRX_TAPS k = 0 ∧
        t.get F.LRX_SING_CNT_COUNT = min (2 ^ 32 - 1) (s.get F.LRX_SING_CNT_COUNT + 1) ∧ t.on F.LRX_INT_CAUSE_SINGULAR)) ∧
  (∀ (s : State) (k turns : Nat),
      k < 512 → turns % 4 ≠ 0 → s.on F.LRX_STAT_LOS = false → Lrx.processed s k →
        runs (.cycleSlip k turns) s (fun t => t.get H.LRX_QUAD k = (if s.on F.LRX_CR_CFG_CS_EN then (s.get H.LRX_QUAD k + turns) % 4 else
        s.get H.LRX_QUAD k) ∧ t.get F.LRX_SC_STAT_CSLIP k = min 255 (s.get F.LRX_SC_STAT_CSLIP k + 1) ∧
        t.get F.LRX_CSLIP_CNT_COUNT = min (2 ^ 32 - 1) (s.get F.LRX_CSLIP_CNT_COUNT + 1) ∧ t.on F.LRX_INT_CAUSE_CYCLE_SLIP)) ∧
  (∀ (s : State) (mean total : Int),
      s.on F.LRX_CTRL_LOFB_EN → (s.get F.LRX_STAT_STATE = 3 ∨ s.get F.LRX_STAT_STATE = 5) → s.on F.LRX_STAT_LOS = false →
        total = roundDivInt (s.sget H.LRX_ROT) 32768 + mean → runs (.lofbUpdate mean) s (fun t => t.get F.LRX_CFO_TOTAL = unsigned 17
        total ∧ (s.on F.LRX_STAT_LOFB_PENDING = true → t.get F.LRX_LOFB_STAT_FINE = s.get F.LRX_LOFB_STAT_FINE) ∧
        (s.on F.LRX_STAT_LOFB_PENDING = false → t.sget H.LRX_FINE = clampInt (-131072000) 131072000 (Lrx.fine s + total * (32768 / 2 ^
        s.get F.LRX_LOFB_CFG_GAIN : Nat))))) ∧
  (∀ (s : State),
      s.on F.LRX_STAT_LOFB_PENDING → s.on H.LSR_OWN_DONE → runs .lofbOffloadDone s (fun t => t.on F.LRX_STAT_LOFB_PENDING = false ∧
        t.get F.LRX_LOFB_STAT_SER = unsigned 13 (s.sget F.LRX_LOFB_STAT_SER + s.sget H.LRX_LOFB_OFFLOAD))) ∧
  (∀ (s : State),
      s.on F.LRX_STAT_LOFB_PENDING → runs .lofbErr s (fun t => t.on F.LRX_INT_CAUSE_LOFB_ERR ∧ t.on H.LRX_LOFB_STOPPED)) ∧
  (∀ (s : State),
      takes .LRX_CTRL s → s.get F.LRX_STAT_STATE ≠ 0 → runs .restart s (fun t => t.get F.LRX_STAT_STATE = 2)) ∧
  (∀ (s : State) (rows leaves : List (List Nat)) (k x y c : Nat) (dgd pdl resid cfo : Int),
      s.on F.LRX_CTRL_EN → k < Lrx.subcarriers s → Lrx.processed s k → Tick.snrOf ((rows.find? (fun r => r.getD 0 512 == k)).getD []) =
        (x, y, c) → runs (.snrLatch rows leaves [dgd, pdl, resid, cfo]) s (fun t => t.get F.LRX_SNR_SNR_X k = min 1023 x ∧
        t.get F.LRX_SNR_SNR_Y k = min 1023 y ∧ t.get F.LRX_SNR_SNR k = min 1023 c ∧ t.get F.LRX_SNR_VALID k = s.get H.LRX_WIN_LOCK k ∧
        t.on F.LRX_INT_CAUSE_SNR_LATCH ∧ (s.get F.LRX_STAT_STATE = 5 → t.get F.LRX_IMP_DGD = min 1023 dgd.toNat ∧
        t.get F.LRX_IMP_PDL = min 1023 pdl.toNat ∧ t.get F.LRX_CFO_TOTAL = unsigned 17 cfo))) ∧
  (∀ (s : State) (rows : List (List Nat)) (l a b c d ok x y z : Nat),
      s.on F.LRX_CTRL_EN → l < 512 → Tick.snrOf [l, a, b, c, d, ok] = (x, y, z) → runs (.snrLatch rows [[l, a, b, c, d,
        ok]] []) s (fun t => t.get F.LRX_SNR_LEAF_SNR_X l = min 1023 x ∧ t.get F.LRX_SNR_LEAF_SNR_Y l = min 1023 y ∧
        t.get F.LRX_SNR_LEAF_SNR l = min 1023 z ∧ t.get F.LRX_SNR_LEAF_VALID l = ok % 2)) ∧
  (∀ (s : State) (k : Nat) (block : List Nat),
      s.on F.LRX_CTRL_EN → k < 512 → Lrx.processed s k → Fec.carries (s.get H.LRX_ACTIVE k) → slice (s.get H.LRX_ACTIVE k) 3 2 ≠ 0 →
        Signal.indexOf (slice (s.get H.LRX_ACTIVE k) 3 2) (slice (s.get H.LRX_ACTIVE k) 5 9 - 128) block = none →
        runs (.dmErr k block) s (fun t => t.get F.LRX_DM_ERR_CNT_COUNT = min (2 ^ 32 - 1) (s.get F.LRX_DM_ERR_CNT_COUNT + 1) ∧
        t.on F.LRX_INT_CAUSE_DM_ERR)) ∧
  (∀ (s : State) (k l i : Nat),
      s.leaf = false → (Lrx.slotPairs s H.LRX_ACTIVE).contains (l, k) → k < 512 → l < 512 → i < 2048 → Lrx.setOf s l k = some i →
        runs (.tapSetSwitch k l true) s (fun t => t.get H.LRX_SET_OWNER i = 1 + 512 * l + k ∧ t.get H.LRX_SLOT_LEAF k = l ∧
        (if s.get H.LRX_SET_OWNER i = 0 then t.get H.LRX_TAPS k = 0 ∧ t.get F.LRX_SC_STAT_LOCK k = 1 else t.get H.LRX_TAPS k = s.get
        H.LRX_TAP_SET i ∧ t.get F.LRX_SC_STAT_LOCK k = s.get H.LRX_SET_LOCK i))) ∧
  (∀ (s : State) (k l i : Nat),
      s.leaf = false → (Lrx.slotPairs s H.LRX_ACTIVE).contains (l, k) → k < 512 → l < 512 → i < 2048 → Lrx.ownSet s l k = some i →
        s.get H.LRX_SLOT_LEAF k = l → runs (.tapSetSwitch k l false) s (fun t => t.get H.LRX_TAP_SET i = t.get H.LRX_TAPS k ∧
        (s.on F.LRX_CTRL_EQ_FREEZE = true → t.get H.LRX_TAPS k = s.get H.LRX_TAPS k) ∧
        t.get H.LRX_SET_LOCK i = s.get F.LRX_SC_STAT_LOCK k ∧ t.get H.LRX_SLOT_LEAF k = 512)) ∧
  (∀ (s : State),
      s.on F.LRX_STAT_LOS = false → runs .phaseReacquired s (fun t => t.on H.LRX_LLR_HOLD = false))

/-- Commands of SCM, the SD-FEC and the grant tables, in a hub where no leaf is named. A COMMIT of a direction while nothing is in flight
  (downstream with a table within the limits of R95, upstream with no grant change either) and its bank not locked takes the next version,
  copies the staged table into the local shadow bank under it and is CHECKING where the bank finds it valid; else it has ended with
  CHG_FAIL. ABORT of a change not yet announced ends it; the announcement, with the next transmit frame a frame 0 and no acknowledgement
  missing, locks the bank for multiframe M + 4; ACK_TMO abandons it with the failing leaves in NAK_MAP. FEC.CFG takes rates that are not
  reserved, ITER_MAX within 6 to 18 and ET_EN while LTX and LRX are off. A codeword of a stream that is decoded, its LLRs valid
  throughout, its frames not of a leaf that arrives too far off, is counted as decoded with its iterations and bits, or as failed, and its
  rows are counted; one with an invalid LLR counts in PM_INVAL alone. GRANT_COMMIT of a valid staged table with nothing in flight freezes
  it under the next version; ABORT ends a change not announced, the announcement gives its multiframe, at M + 4 the tables exchange;
  ACK_TMO abandons it with the failing leaves in NAK_MAP. A leaf's grants exchange at their multiframe. -/
def Obligations.LoadingCommandResults : Prop :=
  (∀ (s : State) (k : Nat),
      takes .SCM_CHG_CTRL s → s.leaf = false → s.get F.SCM_CHG_STAT_DS_STATE = 0 →
        Scm.groupsOk s (Scm.subcarriers s 0) (Scm.staged s 0) → s.on F.LTX_STAT_ANNOUNCED = false → k < 512 →
        runs .commitDs s (fun t => t.get H.SCM_LAST_VER 0 = Scm.nextVer (s.get H.SCM_LAST_VER 0) ∧
        t.get H.LTX_SHADOW k = s.get F.SCM_DS_NEXT_ENTRY k ∧ t.get H.LTX_SHADOW_VER = Scm.nextVer (s.get H.SCM_LAST_VER 0) ∧
        t.get F.SCM_CHG_STAT_DS_STATE = t.get F.LTX_STAT_SHADOW_READY ∧ (t.on F.LTX_STAT_SHADOW_READY = false →
        t.on F.SCM_INT_CAUSE_CHG_FAIL = true))) ∧
  (∀ (s : State) (k : Nat),
      takes .SCM_CHG_CTRL s → s.leaf = false → s.get F.SCM_CHG_STAT_US_STATE = 0 → s.get F.SCM_GRANT_STAT_STATE = 0 →
        s.on F.LRX_STAT_ANNOUNCED = false → k < 512 → runs .commitUs s (fun t => t.get H.SCM_LAST_VER 1 = Scm.nextVer (s.get
        H.SCM_LAST_VER 1) ∧ t.get H.LRX_SHADOW k = s.get F.SCM_US_NEXT_ENTRY k ∧
        t.get H.LRX_SHADOW_VER = Scm.nextVer (s.get H.SCM_LAST_VER 1) ∧ t.get F.SCM_CHG_STAT_US_STATE = t.get F.LRX_STAT_SHADOW_READY ∧
        (t.on F.LRX_STAT_SHADOW_READY = false → t.on F.SCM_INT_CAUSE_CHG_FAIL = true))) ∧
  (∀ (s : State),
      takes .SCM_CHG_CTRL s → s.leaf = false → s.get F.SCM_CHG_STAT_DS_STATE = 1 →
        runs .abortDs s (fun t => t.get F.SCM_CHG_STAT_DS_STATE = 0)) ∧
  (∀ (s : State),
      takes .SCM_CHG_CTRL s → s.leaf = false → s.get F.SCM_CHG_STAT_US_STATE = 1 →
        runs .abortUs s (fun t => t.get F.SCM_CHG_STAT_US_STATE = 0)) ∧
  (∀ (s : State),
      s.leaf = false → s.get F.SCM_CHG_STAT_DS_STATE = 1 → s.on F.LTX_STAT_SHADOW_READY → Scm.failing s 0 = [] → s.on F.FRM_CTRL_TX_EN →
        (Scm.nextFrame s).2 = 0 → runs (.loadAnnounce 0) s (fun t => t.get F.SCM_CHG_STAT_DS_STATE = 2 ∧ t.on F.LTX_STAT_ANNOUNCED ∧
        t.on H.LTX_SWAP_DUE ∧ t.get H.LTX_SWAP_MF = ((Scm.nextFrame s).1 + 4) % 2 ^ 24 ∧ t.get H.SCM_M 0 = (Scm.nextFrame s).1)) ∧
  (∀ (s : State),
      s.leaf = false → s.get F.SCM_CHG_STAT_US_STATE = 1 → s.on F.LRX_STAT_SHADOW_READY → Scm.failing s 1 = [] → s.on F.FRM_CTRL_TX_EN →
        (Scm.nextFrame s).2 = 0 → runs (.loadAnnounce 1) s (fun t => t.get F.SCM_CHG_STAT_US_STATE = 2 ∧ t.on F.LRX_STAT_ANNOUNCED ∧
        t.get H.LRX_SWAP_MF = ((Scm.nextFrame s).1 + 4) % 2 ^ 24 ∧ t.get H.SCM_M 1 = (Scm.nextFrame s).1)) ∧
  (∀ (s : State) (l : Nat),
      l < 512 → s.on H.SCM_ADDRESSED 0 l → s.on H.SCM_ACKED 0 l = false → s.get F.SCM_CHG_STAT_DS_STATE = 1 → s.on H.FRM_TX_RUN →
        max 1 (s.get F.SCM_CHG_CFG_ACK_TMO) ≤ Scm.since s (s.get H.SCM_START_MF 0) →
        runs (.loadAckTmo 0) s (fun t => t.get F.SCM_CHG_STAT_DS_STATE = 0 ∧ t.on F.SCM_INT_CAUSE_CHG_FAIL ∧
        t.bit F.SCM_NAK_MAP_LEAF (l % 32) (l / 32))) ∧
  (∀ (s : State) (l : Nat),
      l < 512 → s.on H.SCM_ADDRESSED 1 l → s.on H.SCM_ACKED 1 l = false → s.get F.SCM_CHG_STAT_US_STATE = 1 → s.on H.FRM_TX_RUN →
        max 1 (s.get F.SCM_CHG_CFG_ACK_TMO) ≤ Scm.since s (s.get H.SCM_START_MF 1) →
        runs (.loadAckTmo 1) s (fun t => t.get F.SCM_CHG_STAT_US_STATE = 0 ∧ t.on F.SCM_INT_CAUSE_CHG_FAIL ∧
        t.bit F.SCM_NAK_MAP_LEAF (l % 32) (l / 32))) ∧
  (∀ (s : State) (value : Nat),
      takes .FEC_CFG s → s.on F.LTX_CTRL_EN = false → s.on F.LRX_CTRL_EN = false → slice value 0 2 ≠ 3 → slice value 2 2 ≠ 3 →
        runs (.fecCfgWrite value) s (fun t => t.get F.FEC_CFG_RATE_TX = slice value 0 2 ∧ t.get F.FEC_CFG_RATE_RX = slice value 2 2 ∧
        t.get F.FEC_CFG_ITER_MAX = max 6 (min 18 (slice value 4 5)) ∧ t.get F.FEC_CFG_ET_EN = slice value 9 1)) ∧
  (∀ (s : State) (k l : Nat) (iter bits rows i : Nat),
      k < 512 → l < 512 → Fec.rxOn s k l → Fec.llrValid s k → s.on H.FEC_PART k = false → (Fec.slotted s k && Fec.late s l) = false →
        s.get F.FEC_CFG_ITER_MAX ≤ 18 → i = (if s.on F.FEC_CFG_ET_EN then min (s.get F.FEC_CFG_ITER_MAX) iter else s.get
        F.FEC_CFG_ITER_MAX) → runs (.codewordDecode k true iter bits rows l) s (fun t => t.get H.FEC_LIVE_CW k = min (2 ^ 32 - 1) (s.get
        H.FEC_LIVE_CW k + 1) ∧ t.get H.FEC_LIVE_CBITS k = min (2 ^ 48 - 1) (s.get H.FEC_LIVE_CBITS k + bits) ∧
        t.get H.FEC_LIVE_ROWS k = min (2 ^ 16 - 1) (s.get H.FEC_LIVE_ROWS k + rows) ∧
        t.get H.FEC_LIVE_HIST i = min (2 ^ 32 - 1) (s.get H.FEC_LIVE_HIST i + 1))) ∧
  (∀ (s : State) (k l : Nat) (iter bits rows : Nat),
      k < 512 → l < 512 → Fec.rxOn s k l → Fec.llrValid s k → s.on H.FEC_PART k = false →
        runs (.codewordDecode k false iter bits rows l) s (fun t => t.get H.FEC_LIVE_LDPC k = min (2 ^ 16 - 1) (s.get H.FEC_LIVE_LDPC k +
        1) ∧ t.get H.FEC_LIVE_ROWS k = min (2 ^ 16 - 1) (s.get H.FEC_LIVE_ROWS k + rows) ∧ t.get H.FEC_LIVE_CW k = s.get H.FEC_LIVE_CW k)) ∧
  (∀ (s : State) (k l : Nat) (ok : Bool) (iter bits rows : Nat),
      k < 512 → l < 512 → Fec.rxOn s k l → (!Fec.llrValid s k || s.on H.FEC_PART k) →
        runs (.codewordDecode k ok iter bits rows l) s (fun t => t.get H.FEC_LIVE_INVAL k = min (2 ^ 32 - 1) (s.get H.FEC_LIVE_INVAL k +
        1) ∧ t.get H.FEC_LIVE_CW k = s.get H.FEC_LIVE_CW k ∧ t.get H.FEC_LIVE_LDPC k = s.get H.FEC_LIVE_LDPC k ∧
        t.get H.FEC_LIVE_ROWS k = s.get H.FEC_LIVE_ROWS k)) ∧
  (∀ (s : State) (g p : Nat),
      takes .SCM_GRANT_CTRL s → s.leaf = false → s.get F.SCM_GRANT_STAT_STATE = 0 → s.get F.SCM_CHG_STAT_US_STATE = 0 → Scm.grantOk s →
        g < 64 → p < 32 → runs .grantCommit s (fun t => t.get F.SCM_GRANT_STAT_STATE = 1 ∧
        t.get H.SCM_GRANT_LAST = Scm.nextVer (s.get H.SCM_GRANT_LAST) ∧ t.get H.SCM_GRANT_SNAP g p = Scm.nextWord s g p)) ∧
  (∀ (s : State),
      takes .SCM_GRANT_CTRL s → s.leaf = false → s.get F.SCM_GRANT_STAT_STATE = 1 →
        runs .grantAbort s (fun t => t.get F.SCM_GRANT_STAT_STATE = 0)) ∧
  (∀ (s : State),
      s.leaf = false → s.get F.SCM_GRANT_STAT_STATE = 1 → Scm.grantFailing s = [] → s.on F.FRM_CTRL_TX_EN → (Scm.nextFrame s).2 = 0 →
        runs .grantAnnounce s (fun t => t.get F.SCM_GRANT_STAT_STATE = 2 ∧ t.get H.SCM_GRANT_M = (Scm.nextFrame s).1)) ∧
  (∀ (s : State) (g p : Nat),
      s.leaf = false → s.get F.SCM_GRANT_STAT_STATE = 2 → Scm.atMultiframe s ((s.get H.SCM_GRANT_M + 4) % 2 ^ 24) → g < 64 → p < 32 →
        runs .grantSwap s (fun t => t.get F.SCM_GRANT_ACT_LEAF_E g p = slice (s.get H.SCM_GRANT_SNAP g p) 0 9 ∧
        t.get F.SCM_GRANT_ACT_VAL_E g p = slice (s.get H.SCM_GRANT_SNAP g p) 9 1 ∧
        t.get F.SCM_GRANT_ACT_LEAF_O g p = slice (s.get H.SCM_GRANT_SNAP g p) 16 9 ∧
        t.get F.SCM_GRANT_ACT_VAL_O g p = slice (s.get H.SCM_GRANT_SNAP g p) 25 1 ∧ t.get F.SCM_GRANT_STAT_STATE = 0 ∧
        t.get F.SCM_GRANT_STAT_VER = s.get H.SCM_GRANT_LAST ∧ t.on F.VLK_INT_CAUSE_GRANT_SWAP)) ∧
  (∀ (s : State) (g : Nat),
      s.leaf → s.on H.VLK_G_SWAP → Scm.mfSince (s.get H.FRM_TX_MFN) (s.get H.VLK_G_SWAP_MF) < 2 ^ 23 → g < 64 →
        runs .grantSwap s (fun t => t.get H.VLK_G_ACT g 0 = s.get H.VLK_G_SHADOW g 0 ∧ t.get H.VLK_G_ACT g 1 = s.get H.VLK_G_SHADOW g 1 ∧
        t.get H.VLK_G_SC_ACT g 0 = s.get H.VLK_G_SC_SHADOW g 0 ∧ t.get H.VLK_G_ACT_VER = s.get H.VLK_G_SHADOW_VER ∧
        t.on H.VLK_G_SWAP = false ∧ t.on F.VLK_INT_CAUSE_GRANT_SWAP)) ∧
  (∀ (s : State) (l : Nat),
      l < 512 → s.on H.SCM_GRANT_ADDR l → s.on H.SCM_GRANT_ACKED l = false → s.get F.SCM_GRANT_STAT_STATE = 1 → s.on H.FRM_TX_RUN →
        max 1 (s.get F.SCM_CHG_CFG_ACK_TMO) ≤ Scm.since s (s.get H.SCM_GRANT_START) →
        runs .grantAckTmo s (fun t => t.get F.SCM_GRANT_STAT_STATE = 0 ∧ t.on F.SCM_INT_CAUSE_CHG_FAIL ∧
        t.on F.VLK_INT_CAUSE_GRANT_FAIL ∧ t.bit F.SCM_NAK_MAP_LEAF (l % 32) (l / 32)))

/-- The Voluman link and its silence (a leaf's state 0 OFF, 1 SEARCH, 2 STRANGER, 3 ASSIGNED, 4 ACTIVE, 5 REST, 6 LOST). VLK_ENABLE and
  VLK_DISABLE set and clear EN; a leaf goes to SEARCH and to OFF, its upstream silent. A sound VDF of the leaf's tree and beacon is read:
  its REG_OPEN, FEEDER and GRANT_VER are taken and the count of missed VDFs restarts; in track and in frame it makes the searching leaf a
  STRANGER; discarded messages in it count. A VDF with a bad check counts as a bad and as a missed one. A stranger 16 frames without its
  beacon returns to SEARCH, and so does one whose identifier REG_REJECT names. REG_ASSIGN to the stranger, no repeat, makes it ASSIGNED
  with number, member index, EqD of both feeders, start multiframe and, of another beacon, its group. Out of REST a silence condition
  silences the leaf; once none is left a STRANGER, ASSIGNED or ACTIVE leaf may send again, and so may a resting leaf that has been called,
  which becomes ACTIVE with WAKE_ACK where its banks are current and the feeder is the one in use. -/
def Obligations.VlkLinkResults : Prop :=
  (∀ (s : State),
      takes .VLK_CTRL s → s.on F.VLK_CTRL_EN = false → runs .vlkEnable s (fun t => t.on F.VLK_CTRL_EN ∧ (s.leaf = true →
        t.get F.VLK_SELF_STATE = 1 ∧ t.on F.VLK_SELF_SILENT = true))) ∧
  (∀ (s : State),
      takes .VLK_CTRL s → s.on F.VLK_CTRL_EN → runs .vlkDisable s (fun t => t.on F.VLK_CTRL_EN = false ∧ (s.leaf = true →
        t.get F.VLK_SELF_STATE = 0 ∧ t.get F.VLK_SELF_LEAF = 0x1FF ∧ t.on F.VLK_SELF_SILENT = true))) ∧
  (∀ (s : State) (tree beacon feeder regOpen mfn wake gver gann gnext crcOk badLen : Nat),
      Vlk.leafOn s → crcOk ≠ 0 → Vlk.treeMatches s tree → beacon = s.get F.LRX_RXGRP_K_LO →
        runs (.vdfReceive tree beacon feeder regOpen mfn wake gver gann gnext crcOk badLen) s (fun t => t.get H.VLK_NO_VDF = 0 ∧
        t.get H.VLK_OPEN_NOW = regOpen % 2 ∧ t.get H.VLK_FEEDER_IN = feeder % 4 ∧ t.get H.VLK_RX_GVER = gver % 256 ∧
        (s.get F.VLK_SELF_STATE = 1 ∧ s.get F.LRX_STAT_STATE = 5 ∧ s.get F.FRM_ALIGN_STAT_STATE = 2 → t.get F.VLK_SELF_STATE = 2) ∧
        (badLen ≠ 0 → t.get F.VLK_CRC_ERR_CNT_COUNT = min (2 ^ 32 - 1) (s.get F.VLK_CRC_ERR_CNT_COUNT + 1)))) ∧
  (∀ (s : State) (tree beacon feeder regOpen mfn wake gver gann gnext badLen : Nat),
      Vlk.leafOn s → runs (.vdfReceive tree beacon feeder regOpen mfn wake gver gann gnext 0 badLen) s (fun t => t.get
        F.VLK_CRC_ERR_CNT_COUNT = min (2 ^ 32 - 1) (s.get F.VLK_CRC_ERR_CNT_COUNT + 1) ∧ s.get H.VLK_NO_VDF ≤ t.get H.VLK_NO_VDF ∧
        t.get F.VLK_SELF_STATE = s.get F.VLK_SELF_STATE)) ∧
  (∀ (s : State) (frames : Nat),
      s.leaf → s.on F.VLK_CTRL_EN → s.get F.VLK_SELF_STATE = 2 → 16 ≤ frames →
        runs (.beaconLost frames) s (fun t => t.get F.VLK_SELF_STATE = 1 ∧ t.get F.VLK_SELF_LEAF = 0x1FF ∧
        t.on F.VLK_INT_CAUSE_STATE_CHG ∧ t.on F.VLK_SELF_SILENT)) ∧
  (∀ (s : State) (addr flags seq idLo idHi leaf beacon member khi eqd0 v0 eqd1 v1 freq start : Nat),
      addr = 0x3FD → Vlk.leafOn s → s.get F.VLK_SELF_STATE = 2 → Vlk.isMine s idLo idHi → notRepeat s 512 addr flags seq →
        runs (.regAssign addr flags seq idLo idHi leaf beacon member khi eqd0 v0 eqd1 v1 freq start) s (fun t => t.get F.VLK_SELF_STATE =
        3 ∧ t.get F.VLK_SELF_LEAF = leaf % 512 ∧ t.get F.VLK_SELF_MEMBER = member % 64 ∧ t.get F.VLK_SELF_EQD_EQD 0 = eqd0 % 2 ^ 24 ∧
        t.get F.VLK_SELF_EQD_VALID 0 = v0 % 2 ∧ t.get F.VLK_SELF_EQD_EQD 1 = eqd1 % 2 ^ 24 ∧ t.get F.VLK_SELF_EQD_VALID 1 = v1 % 2 ∧
        t.get H.VLK_FEEDER_USE = s.get H.VLK_FEEDER_IN % 2 ∧ t.get H.VLK_EQD_NOW = (if s.get H.VLK_FEEDER_IN % 2 = 0 then eqd0 % 2 ^ 24
        else eqd1 % 2 ^ 24) ∧ t.get H.VLK_UP_START = start % 2 ^ 24 ∧ (beacon < 512 ∧ khi < 512 ∧ khi ≤ beacon + 63 →
        t.get F.LRX_RXGRP_K_LO = beacon ∧ (s.get F.LRX_RXGRP_K_LO ≠ beacon → t.get F.LRX_RXGRP_K_HI = khi)))) ∧
  (∀ (s : State) (idLo idHi : Nat),
      Vlk.leafOn s → s.get F.VLK_SELF_STATE = 2 → Vlk.isMine s idLo idHi →
        runs (.regReject idLo idHi) s (fun t => t.get F.VLK_SELF_STATE = 1)) ∧
  (∀ (s : State),
      Vlk.leafOn s → s.get F.VLK_SELF_STATE ≠ 5 → Vlk.mustBeSilent s → runs .upstreamSilent s (fun t => t.on F.VLK_SELF_SILENT ∧
        (s.on F.VLK_SELF_SILENT = false ∧ s.on H.PEER_MUTE_HELD = false → t.get F.LTX_CTRL_MUTE = 1 ∧ t.bit F.LTX_STAT_MUTE_SRC 0 = true))) ∧
  (∀ (s : State),
      Vlk.leafOn s → s.on F.VLK_SELF_SILENT → Vlk.mustBeSilent s = false → s.get H.VLK_SWITCH_SILENT = 0 → 2 ≤ s.get F.VLK_SELF_STATE →
        s.get F.VLK_SELF_STATE ≤ 4 → runs .upstreamResume s (fun t => t.on F.VLK_SELF_SILENT = false ∧ (s.on H.PEER_MUTE_HELD = false →
        t.get F.LTX_CTRL_MUTE = 0))) ∧
  (∀ (s : State),
      Vlk.leafOn s → s.on F.VLK_SELF_SILENT → Vlk.mustBeSilent s = false → s.get H.VLK_SWITCH_SILENT = 0 → s.get F.VLK_SELF_STATE = 5 →
        s.on H.VLK_LISTENING → s.on H.VLK_HEARD → Vlk.banksCurrent s → s.get H.VLK_FEEDER_IN = s.get H.VLK_FEEDER_USE →
        runs .upstreamResume s (fun t => t.get F.VLK_SELF_STATE = 4 ∧ t.on F.VLK_SELF_SILENT = false ∧
        t.vlk.own = s.vlk.own ++ [upMessage s 0x42 []])) ∧
  (∀ (s : State),
      Vlk.leafOn s → s.on F.VLK_SELF_SILENT → Vlk.mustBeSilent s = false → s.get H.VLK_SWITCH_SILENT = 0 → Vlk.called s →
        Vlk.banksCurrent s = false → runs .upstreamResume s (fun t => t.get F.VLK_SELF_STATE = 5 ∧ t.on F.VLK_SELF_SILENT = false))

/-- A leaf's registration and rest. REG_ATTEMPT of a stranger that may send, at an opportunity of its window on a registration subcarrier
  of mode BURST, sends the request burst with EqD 0 and waits where registration is open; where it is closed the window begins anew after
  it and nothing is sent. REG_TMO ends the wait and gives up after RETRY_MAX attempts; REG_GO resumes with attempt 0; REG_OPEN takes its
  value in a hub whose registration subcarriers are BURST. UPSTREAM_START at START_MF begins an ASSIGNED leaf's allocation with
  REG_CONFIRM. A granted rest begins at its START_MF, silent, and PWR enters REST, or REST_HELD is set and the entry tried again;
  REST_RETRY enters it once nothing refuses. At a multiple of the cycle after START_MF the leaf wakes to listen; once its listen frames
  have gone, with a VDF read and no call, it rests again. A silence condition in ASSIGNED or ACTIVE, or a listen without a VDF, that lasts
  LOST_MS leads to LOST. -/
def Obligations.VlkRegistrationAndRestResults : Prop :=
  (∀ (s : State) (mfn fn i sc opp : Nat),
      Vlk.leafOn s → s.get F.VLK_SELF_STATE = 2 → s.on H.VLK_GIVEUP = false → s.on H.VLK_REG_WAIT = false → Vlk.mustBeSilent s = false →
        s.on F.VLK_SELF_SILENT = false → (List.range (s.get F.VLK_REG_CFG_RSC_M1 + 1)).any (fun j => s.get F.VLK_REG_SC_SC j == sc) →
        i < 16 → opp = 16 * (256 * mfn + fn) + i → (opp + 2 ^ 36 - s.get H.VLK_REG_BASE) % 2 ^ 36 < 2 ^ (min (s.get H.VLK_ATTEMPT + 1) 8
        + 3) → s.get H.LTX_ACTIVE sc % 8 = 4 → runs (.regAttempt mfn fn i sc) s (fun t => (s.on H.VLK_OPEN_NOW = true →
        t.on H.VLK_REG_WAIT = true ∧ t.get H.VLK_ATTEMPT = min 255 (s.get H.VLK_ATTEMPT + 1) ∧ t.get H.VLK_EQD_NOW = 0 ∧
        Emit.burst sc (⟨0, 0x3FD, false, false, 0x02, s.get H.VLK_SEQ 0x3FD 0, [s.get F.LCM_DEV_ID_VAL 0, s.get F.LCM_DEV_ID_VAL 1,
        s.get H.VLK_PREV_LEAF, mfn, fn, i, sc, s.get F.SE_IMG_VER_VERSION]⟩ : VMsg) ∈ t.out) ∧ (s.on H.VLK_OPEN_NOW = false →
        t.get H.VLK_REG_BASE = (opp + 1) % 2 ^ 36 ∧ t.get H.VLK_ATTEMPT = s.get H.VLK_ATTEMPT ∧ t.out = s.out))) ∧
  (∀ (s : State) (frames : Nat),
      Vlk.leafOn s → s.get F.VLK_SELF_STATE = 2 → s.on H.VLK_REG_WAIT → max 1 (s.get F.VLK_REG_CFG_REG_TMO) ≤ frames →
        runs (.regTmo frames) s (fun t => t.on H.VLK_REG_WAIT = false ∧ (s.get F.VLK_REG_CFG_RETRY_MAX ≠ 0 ∧
        s.get F.VLK_REG_CFG_RETRY_MAX ≤ s.get H.VLK_ATTEMPT → t.on H.VLK_GIVEUP = true ∧ t.on F.VLK_INT_CAUSE_REG_GIVEUP = true))) ∧
  (∀ (s : State),
      takes .VLK_CTRL s → s.leaf → s.on H.VLK_GIVEUP → runs .regGo s (fun t => t.on H.VLK_GIVEUP = false ∧ t.get H.VLK_ATTEMPT = 0)) ∧
  (∀ (s : State) (value : Nat),
      takes .VLK_CTRL s → s.leaf = false → (List.range (s.get F.VLK_REG_CFG_RSC_M1 + 1)).all (fun i => s.get H.LRX_ACTIVE (s.get
        F.VLK_REG_SC_SC i) % 8 == 4) → runs (.regOpen value) s (fun t => t.get F.VLK_CTRL_REG_OPEN = value % 2)) ∧
  (∀ (s : State) (mfn : Nat),
      Vlk.leafOn s → s.get F.VLK_SELF_STATE = 3 → s.on H.VLK_UP_ON = false → mfn = s.get H.VLK_UP_START →
        runs (.upstreamStart mfn) s (fun t => t.on H.VLK_UP_ON ∧ t.vlk.own = s.vlk.own ++ [upMessage s 0x05 []])) ∧
  (∀ (s : State) (mfn : Nat),
      Vlk.leafOn s → s.get F.VLK_SELF_STATE = 4 → s.on H.VLK_S_REST → mfn = s.get H.VLK_S_START →
        runs (.leafRestStart mfn) s (fun t => t.get F.VLK_SELF_STATE = 5 ∧ t.on F.VLK_SELF_SILENT ∧ (Rest.refusal s = 0 →
        t.get F.PWR_REST_STAT_STATE = 1) ∧ (Rest.refusal s ≠ 0 → t.on F.VLK_INT_CAUSE_REST_HELD = true ∧ t.on H.VLK_RETRY = true))) ∧
  (∀ (s : State),
      s.leaf → s.on F.VLK_CTRL_EN → s.get F.VLK_SELF_STATE = 5 → s.on H.VLK_RETRY → s.on H.VLK_LISTENING = false → Rest.refusal s = 0 →
        runs .restRetry s (fun t => t.get F.PWR_REST_STAT_STATE = 1 ∧ t.on H.VLK_RETRY = false)) ∧
  (∀ (s : State) (mfn : Nat),
      s.leaf → s.on F.VLK_CTRL_EN → s.get F.VLK_SELF_STATE = 5 → s.on H.VLK_S_REST → s.on H.VLK_LISTENING = false →
        mfn % 2 ^ 24 ≠ s.get H.VLK_S_START → Scm.mfSince mfn (s.get H.VLK_S_START) % s.get H.VLK_S_CYCLE = 0 →
        runs (.listenWake mfn) s (fun t => t.get H.VLK_LISTEN_MF = mfn % 2 ^ 24 ∧ t.on H.VLK_LISTENING ∧ t.on H.VLK_HEARD = false ∧
        t.on H.VLK_LISTEN_READ = false ∧ (s.get F.PWR_REST_STAT_STATE = 2 → t.get F.PWR_REST_STAT_STATE = 3))) ∧
  (∀ (s : State) (frames : Nat),
      Vlk.leafOn s → s.get F.VLK_SELF_STATE = 5 → s.on H.VLK_LISTENING → s.on H.VLK_LISTEN_READ → s.on H.VLK_HEARD = false →
        s.on H.VLK_S_REST → max 1 (s.get H.VLK_S_LISTEN) ≤ frames → runs (.listenEnd frames) s (fun t => t.on H.VLK_LISTENING = false ∧
        (Rest.refusal s = 0 → t.get F.PWR_REST_STAT_STATE = 1))) ∧
  (∀ (s : State) (ms : Nat),
      s.leaf → s.on F.VLK_CTRL_EN → (((s.get F.VLK_SELF_STATE = 3 ∨ s.get F.VLK_SELF_STATE = 4) ∧ Vlk.mustBeSilent s = true) ∨
        (s.get F.VLK_SELF_STATE = 5 ∧ s.on H.VLK_LISTENING = true ∧ s.on H.VLK_LISTEN_READ = false)) →
        s.get F.VLK_REST_CFG_LOST_MS ≤ ms → runs (.leafLostTmo ms) s (fun t => t.get F.VLK_SELF_STATE = 6 ∧
        t.get H.VLK_PREV_LEAF = s.get F.VLK_SELF_LEAF ∧ t.on F.VLK_INT_CAUSE_LEAF_LOST ∧ t.on F.VLK_SELF_SILENT))

/-- A message for this leaf that is no repeat acts, and is acknowledged with status 0 where it asked for that and is no broadcast.
  TREE_INFO is stored, with its first four registration subcarriers. DEREG ends the registration: SEARCH, no number, silent. RANGE_ADJ
  adds to the pending EqD delta. FREQ_ADJ within the range becomes FREQ_OFS and waits for its block boundary; outside it sets CFG_ERR,
  keeps FREQ_OFS and is acknowledged with status 2 (the number is the model's choice, assumption 12). GRANT_TABLE fills the shadow grants
  with its rows (rows not named are empty) under its version and GRANT_ACK follows. LOAD_TABLE writes its entries to the shadow bank of
  its direction, unless an announced change locks it, and LOAD_ACK or LOAD_NAK follows as the bank is ready or not. LOAD_CANCEL drops the
  version of a shadow bank that no announced change holds. A repeat, of whatever type of these, is acknowledged again and does nothing
  else (shown of RANGE_ADJ). -/
def Obligations.LeafTableMessageResults : Prop :=
  (∀ (s : State) (addr flags seq baud spacing nsc rates usOfs rscM1 : Nat) (scs : List Nat) (teq : Nat),
      Vlk.toMe s addr → notRepeat s 512 addr flags seq → runs (.treeInfo addr flags seq baud spacing nsc rates usOfs rscM1 scs teq) s
        (fun t => t.get H.VLK_T_BAUD = baud % 2 ^ 20 ∧ t.get H.VLK_T_SPACING = spacing % 2 ^ 8 ∧ t.get H.VLK_T_NSC_M1 = nsc % 2 ^ 9 ∧
        t.get H.VLK_T_RATES = rates % 2 ^ 4 ∧ t.get F.VLK_US_OFS_OFS = usOfs % 2 ^ 16 ∧ t.get F.VLK_REG_CFG_RSC_M1 = rscM1 % 4 ∧
        t.get H.VLK_T_EQ = teq % 2 ^ 24 ∧ (∀ j, j < 4 → j < scs.length → t.get F.VLK_REG_SC_SC j = scs.getD j 0 % 512) ∧
        acknowledges t 512 addr flags seq 0)) ∧
  (∀ (s : State) (addr flags seq : Nat),
      Vlk.toMe s addr → notRepeat s 512 addr flags seq → runs (.dereg addr flags seq) s (fun t => t.get F.VLK_SELF_STATE = 1 ∧
        (s.get F.VLK_SELF_STATE ≠ 1 → t.get F.VLK_SELF_LEAF = 0x1FF ∧ t.on F.VLK_SELF_SILENT = true ∧ t.on H.VLK_UP_ON = false) ∧
        acknowledges t 512 addr flags seq 0)) ∧
  (∀ (s : State) (addr flags seq : Nat) (delta : Int),
      Vlk.toMe s addr → notRepeat s 512 addr flags seq → runs (.rangeAdj addr flags seq delta) s (fun t => t.get H.VLK_EQD_DELTA =
        unsigned 24 (s.sget H.VLK_EQD_DELTA + delta) ∧ acknowledges t 512 addr flags seq 0)) ∧
  (∀ (s : State) (addr flags seq : Nat) (delta : Int),
      Vlk.toMe s addr → notRepeat s 512 addr flags seq → -32768 ≤ s.sget F.LTX_FREQ_OFS_OFS + delta →
        s.sget F.LTX_FREQ_OFS_OFS + delta ≤ 32767 → Ltx.offsetOk s (unsigned 16 (s.sget F.LTX_FREQ_OFS_OFS + delta)) →
        runs (.freqAdj addr flags seq delta) s (fun t => t.get F.LTX_FREQ_OFS_OFS = unsigned 16 (s.sget F.LTX_FREQ_OFS_OFS + delta) ∧
        t.on H.LTX_OFS_PENDING ∧ acknowledges t 512 addr flags seq 0)) ∧
  (∀ (s : State) (addr flags seq : Nat) (delta : Int),
      Vlk.toMe s addr → notRepeat s 512 addr flags seq → (s.sget F.LTX_FREQ_OFS_OFS + delta < -32768 ∨
        32767 < s.sget F.LTX_FREQ_OFS_OFS + delta ∨ Ltx.offsetOk s (unsigned 16 (s.sget F.LTX_FREQ_OFS_OFS + delta)) = false) →
        runs (.freqAdj addr flags seq delta) s (fun t => t.on F.LTX_INT_CAUSE_CFG_ERR ∧
        t.get F.LTX_FREQ_OFS_OFS = s.get F.LTX_FREQ_OFS_OFS ∧ acknowledges t 512 addr flags seq 2)) ∧
  (∀ (s : State) (addr flags seq ver : Nat) (rows : List (List Nat)),
      Vlk.toMe s addr → notRepeat s 512 addr flags seq → (rows.map (fun r => r.getD 0 0 / 512)).Nodup →
        rows.all (fun r => decide (r.getD 0 0 / 512 < 64)) → runs (.grantTable addr flags seq ver rows) s (fun t => t.get
        H.VLK_G_SHADOW_VER = ver % 256 ∧ (∀ r ∈ rows, t.get H.VLK_G_SHADOW (r.getD 0 0 / 512) 0 = r.getD 1 0 % 2 ^ 32 ∧
        t.get H.VLK_G_SHADOW (r.getD 0 0 / 512) 1 = r.getD 2 0 % 2 ^ 32 ∧
        t.get H.VLK_G_SC_SHADOW (r.getD 0 0 / 512) = 1 + r.getD 0 0 % 512) ∧ (∀ g, g < 64 →
        (rows.any (fun r => r.getD 0 0 / 512 == g)) = false → t.get H.VLK_G_SHADOW g 0 = 0 ∧ t.get H.VLK_G_SHADOW g 1 = 0 ∧
        t.get H.VLK_G_SC_SHADOW g = 0) ∧ upMessage s 0x19 [ver, 0] ∈ t.vlk.own ∧ acknowledges t 512 addr flags seq 0)) ∧
  (∀ (s : State) (addr flags seq ver lo : Nat) (entries : List Nat),
      Vlk.toMe s addr → notRepeat s 512 addr flags seq → lo + entries.length ≤ 512 → s.on F.LRX_STAT_ANNOUNCED = false →
        runs (.loadTable addr flags seq 0 ver lo entries) s (fun t => (∀ j, j < entries.length →
        t.get H.LRX_SHADOW (lo + j) = entries.getD j 0 % 2 ^ 32) ∧ t.get H.LRX_SHADOW_VER = ver % 256 ∧
        upMessage s (if t.on F.LRX_STAT_SHADOW_READY then 0x21 else 0x22) [0, ver] ∈ t.vlk.own ∧ acknowledges t 512 addr flags seq 0)) ∧
  (∀ (s : State) (addr flags seq ver lo : Nat) (entries : List Nat),
      Vlk.toMe s addr → notRepeat s 512 addr flags seq → lo + entries.length ≤ 512 → s.on F.LTX_STAT_ANNOUNCED = false →
        runs (.loadTable addr flags seq 1 ver lo entries) s (fun t => (∀ j, j < entries.length →
        t.get H.LTX_SHADOW (lo + j) = entries.getD j 0 % 2 ^ 32) ∧ t.get H.LTX_SHADOW_VER = ver % 256 ∧
        upMessage s (if t.on F.LTX_STAT_SHADOW_READY then 0x21 else 0x22) [1, ver] ∈ t.vlk.own ∧ acknowledges t 512 addr flags seq 0)) ∧
  (∀ (s : State) (addr flags seq ver : Nat),
      Vlk.toMe s addr → notRepeat s 512 addr flags seq → s.get H.LRX_SHADOW_VER = ver → s.on H.LRX_SWAP_DUE = false →
        runs (.loadCancel addr flags seq 0 ver) s (fun t => t.get H.LRX_SHADOW_VER = 0 ∧ acknowledges t 512 addr flags seq 0)) ∧
  (∀ (s : State) (addr flags seq ver : Nat),
      Vlk.toMe s addr → notRepeat s 512 addr flags seq → s.get H.LTX_SHADOW_VER = ver → s.on H.LTX_SWAP_DUE = false →
        runs (.loadCancel addr flags seq 1 ver) s (fun t => t.get H.LTX_SHADOW_VER = 0 ∧ acknowledges t 512 addr flags seq 0)) ∧
  (∀ (s : State) (addr flags seq st : Nat) (delta : Int),
      Vlk.toMe s addr → flags.testBit 0 → Vlk.broadcast addr = false → Vlk.duplicate s 512 seq = some st →
        runs (.rangeAdj addr flags seq delta) s (fun t => acknowledges t 512 addr flags seq st ∧
        t.get H.VLK_EQD_DELTA = s.get H.VLK_EQD_DELTA))

/-- In a leaf the message is for it and no repeat. REG_WRITE and REG_READ act on the registers they may reach and answer with REG_RESP:
  shown of a denied address, which neither writes nor reads, beside SYS.INT_MASK, and of an unnamed one that is read. FW_OPEN erases the
  spare slot and begins a push; each byte of FW_DATA within the slot is programmed; FW_CLOSE ends the push and, like FW_STATUS, answers
  with the bitmap of missing pieces; FW_ACTIVATE of a valid image writes the slot record for a trial of it and resets the device with the
  image, else it sets ACT_ERR. REST_GRANT sets the schedule, or ends it with CYCLE_MF 0. In both roles, an ACK ends the repeats of its
  message: of REG_CONFIRM in an ASSIGNED leaf it makes it ACTIVE, of RANGE_ADJ in the hub another may follow, of FREQ_ADJ with the refusal
  it sets FREQ_FAIL. A message at its repeat interval is sent again, or given up with RETX_FAIL and LAST_LEAF. A message of an unknown
  type is counted in RX_DROP_CNT, acknowledged with status 1 (the number is the model's choice, assumption 12). TXPOST of a legal length
  queues the message of its buffer, another nothing; RXPOP releases the oldest received. -/
def Obligations.LeafServiceMessageResults : Prop :=
  (∀ (s : State) (addr flags seq d w v : Nat),
      Vlk.toMe s addr → notRepeat s 512 addr flags seq → takes .SYS_INT_MASK s → Remote.status s d = 1 →
        runs (.regWrite addr flags seq [(d, w), (0x14, v)]) s (fun t => t.get F.SYS_INT_MASK_MASK = v % 4 ∧
        upMessage s 0x32 [seq % 256 + 2 ^ 8 * 0x30 + 2 ^ 16 * 2, 0, 1] ∈ t.vlk.own ∧ acknowledges t 512 addr flags seq 0)) ∧
  (∀ (s : State) (addr flags seq d u : Nat),
      Vlk.toMe s addr → notRepeat s 512 addr flags seq → takes .SYS_INT_MASK s → Remote.status s d = 1 → Remote.status s u = 2 →
        runs (.regRead addr flags seq [d, 0x14, u]) s (fun t => upMessage s 0x32 [seq % 256 + 2 ^ 8 * 0x31 + 2 ^ 16 * 3, 0, 0,
        s.get F.SYS_INT_MASK_MASK, 0, 33] ∈ t.vlk.own ∧ acknowledges t 512 addr flags seq 0)) ∧
  (∀ (s : State) (addr flags seq version size crc : Nat) (a : Nat),
      Vlk.toMe s addr → notRepeat s 512 addr flags seq → Img.slotBase (Img.spare s) ≤ a → a < Img.slotBase (Img.spare s) + 0x100000 →
        runs (.fwOpen addr flags seq version size crc) s (fun t => t.on H.VLK_FW_ON ∧ t.get H.VLK_FW_VER = version % 2 ^ 32 ∧
        t.get H.VLK_FW_SIZE = size % 2 ^ 32 ∧ t.get H.VLK_FW_CRC = crc % 2 ^ 32 ∧ Flash.read t a = Flash.erased ∧ (∀ j,
        t.get H.VLK_FW_HAVE j = 0))) ∧
  (∀ (s : State) (addr flags seq offset : Nat) (bytes : List Nat) (j : Nat),
      Vlk.toMe s addr → notRepeat s 512 addr flags seq → s.on H.VLK_FW_ON → j < bytes.length → j < 1008 → offset + j < 0x400000 →
        runs (.fwData addr flags seq offset bytes) s (fun t => slice (Flash.read t (Img.slotBase (Img.spare s) + (offset + j) / 4)) (8 *
        ((offset + j) % 4)) 8 = slice (Flash.read s (Img.slotBase (Img.spare s) + (offset + j) / 4)) (8 * ((offset + j) % 4)) 8 &&&
        bytes.getD j 0 % 256 ∧ t.bit H.VLK_FW_HAVE ((offset + j) % 4) ((offset + j) / 4) = true ∧ acknowledges t 512 addr flags seq 0)) ∧
  (∀ (s : State) (addr flags seq : Nat),
      Vlk.toMe s addr → notRepeat s 512 addr flags seq → runs (.fwClose addr flags seq) s (fun t => t.on H.VLK_FW_ON = false ∧
        upMessage s 0x3B (Img.bitmap s) ∈ t.vlk.own ∧ acknowledges t 512 addr flags seq 0)) ∧
  (∀ (s : State) (addr flags seq : Nat) (bitmap : List Nat),
      Vlk.toMe s addr → notRepeat s 512 addr flags seq → runs (.fwStatus addr flags seq bitmap) s (fun t => upMessage s 0x3B (Img.bitmap
        s) ∈ t.vlk.own ∧ acknowledges t 512 addr flags seq 0)) ∧
  (∀ (s : State) (addr flags seq : Nat),
      Vlk.toMe s addr → notRepeat s 512 addr flags seq → runs (.fwActivate addr flags seq) s (fun t => (Img.valid s (Img.spare s) = true
        → t.get F.SYS_RST_CAUSE_SRC = 5 ∧ t.flash = (Img.writeRecord ⟨Img.spare s, (Img.record s).cur, true, true, false⟩ s).flash) ∧
        (Img.valid s (Img.spare s) = false → t.on F.ENG_INT_CAUSE_ACT_ERR 64 = true))) ∧
  (∀ (s : State) (addr flags seq start cycle listen : Nat),
      Vlk.toMe s addr → notRepeat s 512 addr flags seq → cycle ≠ 0 → runs (.restGrant addr flags seq start cycle listen) s (fun t => t.on
        H.VLK_S_REST ∧ t.get H.VLK_S_START = start % 2 ^ 24 ∧ t.get H.VLK_S_CYCLE = cycle % 256 ∧ t.get H.VLK_S_LISTEN = listen % 32 ∧
        acknowledges t 512 addr flags seq 0)) ∧
  (∀ (s : State) (addr flags seq start listen : Nat),
      Vlk.toMe s addr → notRepeat s 512 addr flags seq → runs (.restGrant addr flags seq start 0 listen) s (fun t => t.on H.VLK_S_REST =
        false ∧ acknowledges t 512 addr flags seq 0)) ∧
  (∀ (s : State) (peer q status : Nat) (u : Unacked),
      Vlk.findUnacked s peer q = some u → runs (.ack peer q status) s (fun t => Vlk.findUnacked t peer q = none ∧ (s.leaf = true ∧
        u.msg.type = 0x05 ∧ s.get F.VLK_SELF_STATE = 3 → t.get F.VLK_SELF_STATE = 4) ∧ (s.leaf = false ∧ u.msg.type = 0x10 →
        t.on H.VLK_ADJ_PEND u.msg.addr = false) ∧ (s.leaf = false ∧ u.msg.type = 0x11 ∧ status = Vlk.statusFreqRefused →
        t.on F.VLK_INT_CAUSE_FREQ_FAIL = true))) ∧
  (∀ (s : State) (addr flags seq : Nat),
      Vlk.toMe s addr → notRepeat s 512 addr flags seq → runs (.unknownType addr flags seq) s (fun t => t.get F.VLK_RX_DROP_CNT_COUNT =
        min (2 ^ 32 - 1) (s.get F.VLK_RX_DROP_CNT_COUNT + 1) ∧ acknowledges t 512 addr flags seq 1)) ∧
  (∀ (s : State) (l flags seq : Nat),
      Vlk.hubOn s → l < 512 → s.get F.VLK_LEAF_STATE l ≠ 0 → notRepeat s l 0 flags seq →
        runs (.unknownType l flags seq) s (fun t => t.get F.VLK_RX_DROP_CNT_COUNT = min (2 ^ 32 - 1) (s.get F.VLK_RX_DROP_CNT_COUNT + 1)
        ∧ acknowledges t l 0 flags seq 1)) ∧
  (∀ (s : State) (peer q : Nat) (u : Unacked),
      Vlk.findUnacked s peer q = some u → Vlk.retxInterval s ≤ u.age → u.repeats < s.get F.VLK_RETX_CFG_RETX_MAX →
        runs (.retxTimeout peer q) s (fun t => t.vlk.own = s.vlk.own ++ [u.msg] ∧ (⟨u.msg, 0, u.repeats + 1⟩ : Unacked) ∈ t.vlk.unacked)) ∧
  (∀ (s : State) (peer q : Nat) (u : Unacked),
      Vlk.findUnacked s peer q = some u → Vlk.retxInterval s ≤ u.age → s.get F.VLK_RETX_CFG_RETX_MAX ≤ u.repeats →
        runs (.retxTimeout peer q) s (fun t => t.get F.VLK_RETX_CNT_COUNT = min (2 ^ 32 - 1) (s.get F.VLK_RETX_CNT_COUNT + 1) ∧
        t.on F.VLK_INT_CAUSE_RETX_FAIL ∧ u ∉ t.vlk.unacked ∧ t.get F.VLK_STAT_LAST_LEAF = u.msg.addr % 1024)) ∧
  (∀ (s : State) (q len beacon : Nat),
      takes .VLK_TXPOST s → q < 8 → Vlk.lenOk (len % 2048) → runs (.txpost q len beacon) s (fun t => t.vlk.posted.take
        s.vlk.posted.length = s.vlk.posted ∧ t.vlk.posted.length = s.vlk.posted.length + 1 ∧
        t.vlk.posted.getLast?.map (fun (x : Nat × VMsg) => (x.1, x.2.beacon, x.2.type, x.2.body)) = some (q, beacon % 512,
        slice (s.get F.VLK_TXBUF_DATA q 0) 16 8, ((List.range (len % 2048 / 4)).map (fun i => s.get F.VLK_TXBUF_DATA q i)).drop 2) ∧
        t.get F.VLK_TXPOST_LEN q = len % 2048)) ∧
  (∀ (s : State) (q len beacon : Nat),
      takes .VLK_TXPOST s → q < 8 → Vlk.lenOk (len % 2048) = false → runs (.txpost q len beacon) s (fun t => t.vlk.posted = s.vlk.posted
        ∧ t.get F.VLK_TXPOST_LEN q = len % 2048)) ∧
  (∀ (s : State),
      takes .VLK_RXPOP s → runs .rxpop s (fun t => t.vlk.ring = s.vlk.ring.drop 1 ∧
        t.get F.VLK_RXSTAT_COUNT = (s.vlk.ring.drop 1).length % 64))

/-- A hub with its link enabled. A management container with a bad check or a bad length is counted in CRC_ERR_CNT; another changes no
  register of the hub, its messages following as commands of their own. A REG_REQ burst whose identifier has not been heard within REG_TMO
  and that no leaf holds goes to the ring, with RX_AVAIL, its measures in words 12 to 14; one heard within it only counts DUP_REQ; one of
  an ASSIGNED leaf sets REREG and is not queued; one of an ACTIVE leaf still heard sets DUP_ID, of one not heard, or RESTING or LOST,
  REREG, and is queued. For a message of leaf l that holds a number in the tree and is no repeat: it is acknowledged with status 0 where
  it asked for that; REG_CONFIRM makes an ASSIGNED leaf ACTIVE, counts it and sends it the active tables of both directions and its grants
  with SYNC; DEREG frees the leaf; GRANT_ACK marks a leaf of the change loading, a NAK of it fails the change, and a NAK outside a change
  sends it the active grants; LOAD_ACK marks a leaf of the change; LOAD_NAK abandons the change with the leaf in NAK_MAP and LOAD_CANCEL
  to each leaf it addresses; LOAD_MISMATCH with no change in flight starts one to the active table that addresses the leaf, where the bank
  takes it, else CHG_FAIL, and with one in flight waits for its end; SNR_REPORT stores the values of the subcarriers whose entry names the
  leaf, stamped with the present multiframe, and leaves those of others. -/
def Obligations.HubTreeMessageResults : Prop :=
  (∀ (s : State) (crcOk badLen : Nat),
      Vlk.hubOn s → (crcOk = 0 ∨ badLen ≠ 0) → runs (.mgmtContainer crcOk badLen) s (fun t => t.get F.VLK_CRC_ERR_CNT_COUNT = min (2 ^ 32
        - 1) (s.get F.VLK_CRC_ERR_CNT_COUNT + 1))) ∧
  (∀ (s : State) (crcOk : Nat),
      Vlk.hubOn s → crcOk ≠ 0 → runs (.mgmtContainer crcOk 0) s (fun t => t.csr = s.csr ∧ t.vlk = s.vlk)) ∧
  (∀ (s : State) (sending : Nat) (x : Closed) (rest : List Closed),
      s.brx.good = x :: rest → slice (x.msg.getD 0 0) 16 8 = 2 → Vlk.hubOn s →
        s.vlk.recent.all (fun y => y.1 != x.msg.getD 2 0 + 2 ^ 32 * x.msg.getD 3 0 || decide (max 1 (s.get F.VLK_REG_CFG_REG_TMO) ≤ y.2))
        → Vlk.holder s (x.msg.getD 2 0) (x.msg.getD 3 0) = none → s.vlk.ring.length < 32 →
        runs (.regReq sending) s (fun t => t.brx.good = rest ∧ t.vlk.ring = s.vlk.ring ++ [((x.msg.set 12 (Brx.rtt s x.burst (x.msg.getD
        5 0) (x.msg.getD 6 0) (x.msg.getD 7 0))).set 13 (unsigned 32 (signed 16 x.fofs))).set 14 x.snr] ∧ t.on F.VLK_INT_CAUSE_RX_AVAIL ∧
        (x.msg.getD 2 0 + 2 ^ 32 * x.msg.getD 3 0, 0) ∈ t.vlk.recent)) ∧
  (∀ (s : State) (sending : Nat) (x : Closed) (rest : List Closed),
      s.brx.good = x :: rest → slice (x.msg.getD 0 0) 16 8 = 2 → Vlk.hubOn s →
        s.vlk.recent.any (fun y => y.1 == x.msg.getD 2 0 + 2 ^ 32 * x.msg.getD 3 0 && decide (y.2 < max 1 (s.get F.VLK_REG_CFG_REG_TMO)))
        → runs (.regReq sending) s (fun t => t.brx.good = rest ∧ t.vlk.ring = s.vlk.ring ∧
        t.get F.VLK_STAT_DUP_REQ = min 255 (s.get F.VLK_STAT_DUP_REQ + 1))) ∧
  (∀ (s : State) (sending : Nat) (x : Closed) (rest : List Closed) (l : Nat),
      s.brx.good = x :: rest → slice (x.msg.getD 0 0) 16 8 = 2 → Vlk.hubOn s →
        s.vlk.recent.all (fun y => y.1 != x.msg.getD 2 0 + 2 ^ 32 * x.msg.getD 3 0 || decide (max 1 (s.get F.VLK_REG_CFG_REG_TMO) ≤ y.2))
        → Vlk.holder s (x.msg.getD 2 0) (x.msg.getD 3 0) = some l → Vlk.leafState s l = 1 →
        runs (.regReq sending) s (fun t => t.brx.good = rest ∧ t.vlk.ring = s.vlk.ring ∧ t.on F.VLK_INT_CAUSE_REREG)) ∧
  (∀ (s : State) (sending : Nat) (x : Closed) (rest : List Closed) (l : Nat),
      s.brx.good = x :: rest → slice (x.msg.getD 0 0) 16 8 = 2 → Vlk.hubOn s →
        s.vlk.recent.all (fun y => y.1 != x.msg.getD 2 0 + 2 ^ 32 * x.msg.getD 3 0 || decide (max 1 (s.get F.VLK_REG_CFG_REG_TMO) ≤ y.2))
        → Vlk.holder s (x.msg.getD 2 0) (x.msg.getD 3 0) = some l → Vlk.leafState s l ≠ 1 → s.vlk.ring.length < 32 →
        runs (.regReq sending) s (fun t => t.brx.good = rest ∧ t.vlk.ring.length = s.vlk.ring.length + 1 ∧ (Vlk.leafState s l = 2 ∧
        sending ≠ 0 → t.on F.VLK_INT_CAUSE_DUP_ID = true) ∧ (Vlk.leafState s l ≠ 2 ∨ sending = 0 → t.on F.VLK_INT_CAUSE_REREG = true))) ∧
  (∀ (s : State) (l flags seq : Nat),
      Vlk.hubOn s → l < 512 → notRepeat s l 0 flags seq → Vlk.leafState s l = 1 →
        runs (.regConfirm l flags seq) s (fun t => t.get F.VLK_LEAF_STATE l = 2 ∧
        t.get F.VLK_STAT_ACTIVE_CNT = (s.get F.VLK_STAT_ACTIVE_CNT + 1) % 2 ^ 10 ∧
        (t.vlk.own.any (fun m => m.addr == l && m.sync && m.type == 0x20 && m.body.take 2 == [0, Scm.activeVer s 0])) = true ∧
        (t.vlk.own.any (fun m => m.addr == l && m.sync && m.type == 0x20 && m.body.take 2 == [1, Scm.activeVer s 1])) = true ∧
        (t.vlk.own.any (fun m => m.addr == l && m.sync && m.type == 0x18)) = true ∧ acknowledges t l 0 flags seq 0)) ∧
  (∀ (s : State) (l flags seq : Nat),
      Vlk.hubOn s → l < 512 → Vlk.leafState s l ≠ 0 → notRepeat s l l flags seq →
        runs (.dereg l flags seq) s (fun t => t.get F.VLK_LEAF_STATE l = 0 ∧ t.on H.VLK_WAKE_BIT l = false ∧
        t.get F.VLK_STAT_ACTIVE_CNT = (s.get F.VLK_STAT_ACTIVE_CNT - Vlk.counted (Vlk.leafState s l)) % 2 ^ 10 ∧
        acknowledges t l l flags seq 0)) ∧
  (∀ (s : State) (l flags seq ver : Nat),
      Vlk.hubOn s → l < 512 → Vlk.leafState s l ≠ 0 → notRepeat s l 0 flags seq → s.get F.SCM_GRANT_STAT_STATE = 1 →
        ver = s.get H.SCM_GRANT_LAST → s.on H.SCM_GRANT_ADDR l → runs (.grantAck l flags seq ver 0) s (fun t => t.on H.SCM_GRANT_ACKED l
        ∧ acknowledges t l 0 flags seq 0)) ∧
  (∀ (s : State) (l flags seq ver status : Nat),
      Vlk.hubOn s → l < 512 → Vlk.leafState s l ≠ 0 → notRepeat s l 0 flags seq → s.get F.SCM_GRANT_STAT_STATE = 1 →
        ver = s.get H.SCM_GRANT_LAST → s.on H.SCM_GRANT_ADDR l → status ≠ 0 →
        runs (.grantAck l flags seq ver status) s (fun t => t.get F.SCM_GRANT_STAT_STATE = 0 ∧ t.on F.VLK_INT_CAUSE_GRANT_FAIL ∧
        acknowledges t l 0 flags seq 0)) ∧
  (∀ (s : State) (l flags seq ver status : Nat),
      Vlk.hubOn s → l < 512 → Vlk.leafState s l ≠ 0 → notRepeat s l 0 flags seq → s.get F.SCM_GRANT_STAT_STATE ≠ 1 → status ≠ 0 →
        runs (.grantAck l flags seq ver status) s (fun t => (t.vlk.own.any (fun m => m.addr == l && m.sync && m.type == 0x18)) = true ∧
        acknowledges t l 0 flags seq 0)) ∧
  (∀ (s : State) (l flags seq d ver : Nat),
      Vlk.hubOn s → l < 512 → Vlk.leafState s l ≠ 0 → notRepeat s l 0 flags seq → d < 2 → s.get (Scm.chState d) = 1 →
        ver = s.get H.SCM_LAST_VER d → s.on H.SCM_ADDRESSED d l → runs (.loadAck l flags seq d ver) s (fun t => t.on H.SCM_ACKED d l ∧
        acknowledges t l 0 flags seq 0)) ∧
  (∀ (s : State) (l flags seq d ver : Nat),
      Vlk.hubOn s → l < 512 → Vlk.leafState s l ≠ 0 → notRepeat s l 0 flags seq → d < 2 → s.get (Scm.chState d) = 1 →
        ver = s.get H.SCM_LAST_VER d → runs (.loadNak l flags seq d ver) s (fun t => t.get (Scm.chState d) = 0 ∧
        t.on F.SCM_INT_CAUSE_CHG_FAIL ∧ t.bit F.SCM_NAK_MAP_LEAF (l % 32) (l / 32) ∧ (∀ k, k < 512 → s.on H.SCM_ADDRESSED d k = true →
        (t.vlk.own.any (fun m => m.addr == k && m.type == 0x23 && m.body == [d, ver])) = true) ∧ acknowledges t l 0 flags seq 0)) ∧
  (∀ (s : State) (l flags seq d : Nat),
      Vlk.hubOn s → l < 512 → Vlk.leafState s l ≠ 0 → notRepeat s l 0 flags seq → d < 2 → s.get (Scm.chState d) = 0 →
        runs (.loadMismatch l flags seq d) s (fun t => t.get H.SCM_LAST_VER d = Scm.nextVer (s.get H.SCM_LAST_VER d) ∧
        (Scm.ready t d = true → t.get (Scm.chState d) = 1 ∧ t.on H.SCM_ADDRESSED d l = true ∧
        (t.vlk.own.any (fun m => m.addr == l && m.type == 0x20 && m.body == Scm.loadBody d (Scm.nextVer (s.get H.SCM_LAST_VER d))
        (Scm.leafGroup s l).1 ((List.range ((Scm.leafGroup s l).2 - (Scm.leafGroup s l).1)).map (fun i => s.get (Scm.active s d)
        ((Scm.leafGroup s l).1 + i))))) = true) ∧ (Scm.ready t d = false → t.get (Scm.chState d) = 0 ∧
        t.on F.SCM_INT_CAUSE_CHG_FAIL = true) ∧ acknowledges t l 0 flags seq 0)) ∧
  (∀ (s : State) (l flags seq d : Nat),
      Vlk.hubOn s → l < 512 → Vlk.leafState s l ≠ 0 → notRepeat s l 0 flags seq → d < 2 → s.get (Scm.chState d) ≠ 0 →
        runs (.loadMismatch l flags seq d) s (fun t => t.get H.SCM_RESEND d = l + 1 ∧ t.get (Scm.chState d) = s.get (Scm.chState d) ∧
        acknowledges t l 0 flags seq 0)) ∧
  (∀ (s : State) (l flags seq lo : Nat) (vals : List Nat) (j : Nat),
      Vlk.hubOn s → l < 512 → Vlk.leafState s l ≠ 0 → notRepeat s l 0 flags seq → j < vals.length → lo + j < 512 →
        slice (s.get H.LTX_ACTIVE (lo + j)) 22 9 = l → runs (.snrReport l flags seq lo vals) s (fun t => t.get F.SCM_DS_SNR_SNR_X (lo +
        j) = slice (vals.getD j 0) 0 10 ∧ t.get F.SCM_DS_SNR_SNR_Y (lo + j) = slice (vals.getD j 0) 10 10 ∧
        t.get F.SCM_DS_SNR_SNR (lo + j) = slice (vals.getD j 0) 20 10 ∧ t.get F.SCM_DS_SNR_VALID (lo + j) = slice (vals.getD j 0) 30 1 ∧
        t.get H.SCM_SNR_MF 0 (lo + j) = s.get H.SCM_MF ∧ acknowledges t l 0 flags seq 0)) ∧
  (∀ (s : State) (l flags seq lo : Nat) (vals : List Nat) (k : Nat),
      Vlk.hubOn s → l < 512 → Vlk.leafState s l ≠ 0 → notRepeat s l 0 flags seq → k < 512 → slice (s.get H.LTX_ACTIVE k) 22 9 ≠ l →
        runs (.snrReport l flags seq lo vals) s (fun t => t.get F.SCM_DS_SNR_SNR_X k = s.get F.SCM_DS_SNR_SNR_X k ∧
        t.get F.SCM_DS_SNR_SNR_Y k = s.get F.SCM_DS_SNR_SNR_Y k ∧ t.get F.SCM_DS_SNR_SNR k = s.get F.SCM_DS_SNR_SNR k ∧
        t.get F.SCM_DS_SNR_VALID k = s.get F.SCM_DS_SNR_VALID k))

/-- In a hub with its link enabled. REG_RESP, FW_STATUS, REST_REQ and USER messages, of TYPE 0x50 to 0x7F, of a leaf that holds a number,
  no repeats, enter the ring with room, with RX_AVAIL, and are acknowledged where they asked for it; a full ring discards and counts them
  (shown of REG_RESP). WAKE_ACK makes the leaf ACTIVE and ends its WAKE bit. RANGE_TRIGGER of an ACTIVE leaf without an adjustment
  pending, averaged over enough measurements and beyond TRIG, corrects its EqD for the feeder in use by the error, at most by 2 symbols
  either way in units of EqD, and sends RANGE_ADJ with the same delta. FREQ_TRIGGER beyond 20 MHz sends FREQ_ADJ with the negated offset
  to a leaf ASSIGNED, ACTIVE or RESTING. HUB_REST_START at START_MF lets an ACTIVE leaf rest, and WAKE of a resting leaf sets its bit.
  WAKE_TMO after WAKE_TMO listen periods and LEAF_LOST after LOST_MF multiframes make the leaf LOST, with LEAF_LOST and LAST_LEAF; the
  trigger and loss commands are those of a device that is not the standby of a pair. -/
def Obligations.HubLeafServiceResults : Prop :=
  (∀ (s : State) (l flags seq : Nat) (body : List Nat),
      Vlk.hubOn s → l < 512 → Vlk.leafState s l ≠ 0 → notRepeat s l 0 flags seq → s.vlk.ring.length < 32 →
        runs (.regResp l flags seq body) s (fun t => t.vlk.ring = s.vlk.ring ++ [Vlk.ringMsg l flags 0x32 seq body] ∧
        t.on F.VLK_INT_CAUSE_RX_AVAIL ∧ acknowledges t l 0 flags seq 0)) ∧
  (∀ (s : State) (l flags seq : Nat) (body : List Nat),
      Vlk.hubOn s → l < 512 → Vlk.leafState s l ≠ 0 → notRepeat s l 0 flags seq → 32 ≤ s.vlk.ring.length →
        runs (.regResp l flags seq body) s (fun t => t.vlk = s.vlk ∧ t.get F.VLK_RX_DROP_CNT_COUNT = min (2 ^ 32 - 1) (s.get
        F.VLK_RX_DROP_CNT_COUNT + 1))) ∧
  (∀ (s : State) (l flags seq : Nat) (bitmap : List Nat),
      Vlk.hubOn s → l < 512 → Vlk.leafState s l ≠ 0 → notRepeat s l 0 flags seq → s.vlk.ring.length < 32 →
        runs (.fwStatus l flags seq bitmap) s (fun t => t.vlk.ring = s.vlk.ring ++ [Vlk.ringMsg l flags 0x3B seq bitmap] ∧
        t.on F.VLK_INT_CAUSE_RX_AVAIL ∧ acknowledges t l 0 flags seq 0)) ∧
  (∀ (s : State) (l flags seq : Nat),
      Vlk.hubOn s → l < 512 → Vlk.leafState s l ≠ 0 → notRepeat s l 0 flags seq → s.vlk.ring.length < 32 →
        runs (.restReq l flags seq) s (fun t => t.vlk.ring = s.vlk.ring ++ [Vlk.ringMsg l flags 0x40 seq []] ∧
        t.on F.VLK_INT_CAUSE_RX_AVAIL ∧ acknowledges t l 0 flags seq 0)) ∧
  (∀ (s : State) (l flags type seq : Nat) (body : List Nat),
      Vlk.hubOn s → l < 512 → Vlk.leafState s l ≠ 0 → notRepeat s l 0 flags seq → s.vlk.ring.length < 32 → 0x50 ≤ type → type ≤ 0x7F →
        runs (.user l flags type seq body) s (fun t => t.vlk.ring = s.vlk.ring ++ [Vlk.ringMsg l flags type seq body] ∧
        t.on F.VLK_INT_CAUSE_RX_AVAIL ∧ acknowledges t l 0 flags seq 0)) ∧
  (∀ (s : State) (l flags seq : Nat),
      Vlk.hubOn s → l < 512 → Vlk.leafState s l ≠ 0 → notRepeat s l 0 flags seq →
        runs (.wakeAck l flags seq) s (fun t => t.get F.VLK_LEAF_STATE l = 2 ∧ t.on H.VLK_WAKE_BIT l = false ∧
        acknowledges t l 0 flags seq 0)) ∧
  (∀ (s : State) (l n : Nat) (e : Int) (d : Int),
      Vlk.hubOn s → s.passive = false → s.on F.VLK_CTRL_AUTO_RANGE → l < 512 → Vlk.leafState s l = 2 → s.on H.VLK_ADJ_PEND l = false →
        s.get F.VLK_RANGE_CFG_TRIG < e.natAbs → d = clampInt (-((20000 * Lrx.subcarriers s / s.get F.LRX_LINE_CFG_BAUD_MBD : Nat) : Int))
        ((20000 * Lrx.subcarriers s / s.get F.LRX_LINE_CFG_BAUD_MBD : Nat) : Int) (roundDivInt (-e * (Lrx.subcarriers s * 10000 : Nat))
        (16 * s.get F.LRX_LINE_CFG_BAUD_MBD)) → max 1 (s.get F.VLK_RANGE_CFG_AVG) ≤ n →
        runs (.rangeTrigger l e n) s (fun t => t.get F.VLK_LEAF_EQD_EQD l (s.get F.PEER_CFG_FEEDER) = unsigned 24 ((s.get
        F.VLK_LEAF_EQD_EQD l (s.get F.PEER_CFG_FEEDER) : Nat) + d) ∧ t.on H.VLK_ADJ_PEND l ∧
        t.vlk.own = s.vlk.own ++ [downMessage s l 0x10 [unsigned 32 d]])) ∧
  (∀ (s : State) (l : Nat) (ofs : Int),
      Vlk.hubOn s → s.passive = false → s.on F.VLK_CTRL_AUTO_FREQ → l < 512 → (Vlk.leafState s l = 1 ∨ Vlk.leafState s l = 2 ∨
        Vlk.leafState s l = 3) → 200 < ofs.natAbs → runs (.freqTrigger l ofs) s (fun t => t.vlk.own = s.vlk.own ++ [downMessage s l 0x11
        [unsigned 32 (-ofs)]])) ∧
  (∀ (s : State) (l : Nat),
      Vlk.hubOn s → l < 512 → Vlk.leafState s l = 2 → s.on H.VLK_REST_SET l → Scm.atMultiframe s (s.get H.VLK_REST_START l) →
        runs (.hubRestStart l) s (fun t => t.get F.VLK_LEAF_STATE l = 3)) ∧
  (∀ (s : State) (l : Nat),
      takes .VLK_WAKE s → Vlk.hubOn s → Vlk.leafState s (l % 512) = 3 → runs (.wake l) s (fun t => t.on H.VLK_WAKE_BIT (l % 512))) ∧
  (∀ (s : State) (l periods : Nat),
      Vlk.hubOn s → s.passive = false → l < 512 → Vlk.leafState s l = 3 → s.on H.VLK_WAKE_BIT l →
        s.get F.VLK_REST_CFG_WAKE_TMO ≤ periods → runs (.wakeTmo l periods) s (fun t => t.get F.VLK_LEAF_STATE l = 4 ∧
        t.on F.VLK_INT_CAUSE_WAKE_TMO ∧ t.on F.VLK_INT_CAUSE_LEAF_LOST ∧ t.get F.VLK_STAT_LAST_LEAF = l)) ∧
  (∀ (s : State) (l mf : Nat),
      Vlk.hubOn s → s.passive = false → l < 512 → Vlk.leafState s l = 2 → s.get F.VLK_RANGE_CFG_LOST_MF ≤ mf →
        runs (.leafLost l mf) s (fun t => t.get F.VLK_LEAF_STATE l = 4 ∧ t.on F.VLK_INT_CAUSE_LEAF_LOST ∧ t.get F.VLK_STAT_LAST_LEAF = l))

/-- Ibex, channel c < 4. BRX_ENABLE with the checks passed starts SEARCH on the channels in use; a check that fails sets CFG_ERR with its
  step and enables nothing; BRX_DISABLE turns every channel OFF. A peak, above its threshold and above the four symbols after it, is
  counted as DETECT on a channel that is on. In SEARCH it opens an attempt (HEADER) with the peak's Λ, but under UP_SAFE it is only
  counted. In HEADER, a peak larger by RESTART_MARGIN abandons the attempt and opens another, a lesser one leaves it; in PAYLOAD, one
  larger by CAPTURE_MARGIN closes the burst as PREEMPTED and opens an attempt, a lesser one leaves the burst; COLLISION is set, and each
  is in the collision log while that has room. The header's decision leads to PAYLOAD where the header is good, else back to SEARCH with
  BAD_HEADER counted. BURST_CLOSE closes the burst as GOOD or with a payload error, EM_MISS set where the end marker's correlation is
  below half, and counts it. BURST_RECORD writes the oldest closed burst's record to the ring with room, with REC_AVAIL, and hands a GOOD
  message to VLK; a full ring drops the record. GAP_CLOSE, 32 absent symbols, closes an open burst as TRUNCATED and abandons an attempt.
  FADE marks the burst or attempt, ORPHAN counts an episode that begins. SC_ABSENT follows the last 32 symbols that count on a judged
  subcarrier. REC_POP releases the oldest record, COL_POP the oldest complete entry of the collision log. Counters stop at their greatest
  value. -/
def Obligations.BurstCommandResults : Prop :=
  (∀ (s : State) (c : Nat),
      takes .BRX_CTRL s → s.on F.BRX_CTRL_EN = false → Brx.check s = 0 → c < 4 → runs .brxEnable s (fun t => t.on F.BRX_CTRL_EN ∧
        t.get F.BRX_STAT_CFG_STEP = 0 ∧ (Brx.inUse s c = true → Brx.state t c = 1))) ∧
  (∀ (s : State),
      takes .BRX_CTRL s → s.on F.BRX_CTRL_EN = false → Brx.check s ≠ 0 → runs .brxEnable s (fun t => t.on F.BRX_CTRL_EN = false ∧
        t.get F.BRX_STAT_CFG_STEP = Brx.check s ∧ t.on F.BRX_INT_CAUSE_CFG_ERR ∧ (Brx.check s = 1 →
        t.on F.SYS_INT_CAUSE_ROLE_LIMIT = true))) ∧
  (∀ (s : State),
      takes .BRX_CTRL s → runs .brxDisable s (fun t => t.on F.BRX_CTRL_EN = false ∧ t.get F.BRX_STAT_CH = 0)) ∧
  (∀ (s : State) (c q : Nat) (after : List Nat) (level lambda : Int) (aMfn aFn aOfs dMfn dFn dSym psym fofs snr : Nat),
      c < 4 → Brx.state s c = 1 → Brx.isPeak s q after → s.on F.PWR_SAFE_STAT_UP_SAFE = false →
        runs (.peakDetect c q lambda aMfn aFn aOfs dMfn dFn dSym psym fofs snr after level) s (fun t => Brx.state t c = 2 ∧
        t.get F.BRX_CNT_COUNT c 0 = min (2 ^ 32 - 1) (s.get F.BRX_CNT_COUNT c 0 + 1) ∧
        (Brx.current t c).lambda = clampInt (-32768) 32767 lambda ∧ (Brx.current t c).q = q ∧ (Brx.current t c).serial = s.brx.serial + 1)) ∧
  (∀ (s : State) (c q : Nat) (after : List Nat) (level lambda : Int) (aMfn aFn aOfs dMfn dFn dSym psym fofs snr : Nat),
      c < 4 → Brx.state s c ≠ 0 → Brx.isPeak s q after → s.on F.PWR_SAFE_STAT_UP_SAFE →
        runs (.peakDetect c q lambda aMfn aFn aOfs dMfn dFn dSym psym fofs snr after level) s (fun t => Brx.state t c = Brx.state s c ∧
        t.get F.BRX_CNT_COUNT c 0 = min (2 ^ 32 - 1) (s.get F.BRX_CNT_COUNT c 0 + 1) ∧
        t.get F.BRX_CNT_COUNT c 10 = min (2 ^ 32 - 1) (s.get F.BRX_CNT_COUNT c 10 + 1) ∧ t.brx = s.brx)) ∧
  (∀ (s : State) (c q : Nat) (after : List Nat) (level lambda : Int) (aMfn aFn aOfs dMfn dFn dSym psym fofs snr : Nat),
      c < 4 → Brx.state s c = 2 → Brx.isPeak s q after → s.on F.PWR_SAFE_STAT_UP_SAFE = false →
        (max 1 (s.get F.BRX_RESTART_MARGIN_MARGIN) : Int) ≤ Brx.seen s c lambda - (Brx.current s c).lambda →
        runs (.peakDetect c q lambda aMfn aFn aOfs dMfn dFn dSym psym fofs snr after level) s (fun t => Brx.state t c = 2 ∧
        t.get F.BRX_CNT_COUNT c 0 = min (2 ^ 32 - 1) (s.get F.BRX_CNT_COUNT c 0 + 1) ∧
        t.get F.BRX_CNT_COUNT c 1 = min (2 ^ 32 - 1) (s.get F.BRX_CNT_COUNT c 1 + 1) ∧ (Brx.current t c).lambda = Brx.seen s c lambda ∧
        (Brx.current t c).restarted ∧ (Brx.current t c).serial = s.brx.serial + 1 ∧ (s.brx.log.length < 64 →
        t.brx.log.length = s.brx.log.length + 1))) ∧
  (∀ (s : State) (c q : Nat) (after : List Nat) (level lambda : Int) (aMfn aFn aOfs dMfn dFn dSym psym fofs snr : Nat),
      c < 4 → Brx.state s c = 2 → Brx.isPeak s q after → s.on F.PWR_SAFE_STAT_UP_SAFE = false →
        Brx.seen s c lambda - (Brx.current s c).lambda < (max 1 (s.get F.BRX_RESTART_MARGIN_MARGIN) : Int) →
        runs (.peakDetect c q lambda aMfn aFn aOfs dMfn dFn dSym psym fofs snr after level) s (fun t => Brx.state t c = 2 ∧
        t.get F.BRX_CNT_COUNT c 0 = min (2 ^ 32 - 1) (s.get F.BRX_CNT_COUNT c 0 + 1) ∧
        t.get F.BRX_CNT_COUNT c 7 = min (2 ^ 32 - 1) (s.get F.BRX_CNT_COUNT c 7 + 1) ∧ Brx.current t c = Brx.current s c ∧
        (s.brx.log.length < 64 → t.brx.log.length = s.brx.log.length + 1))) ∧
  (∀ (s : State) (c q : Nat) (after : List Nat) (level lambda : Int) (aMfn aFn aOfs dMfn dFn dSym psym fofs snr : Nat),
      c < 4 → Brx.state s c = 3 → Brx.isPeak s q after → s.on F.PWR_SAFE_STAT_UP_SAFE = false →
        (max 1 (s.get F.BRX_CAPTURE_MARGIN_MARGIN) : Int) ≤ Brx.seen s c lambda - (Brx.current s c).lambda →
        runs (.peakDetect c q lambda aMfn aFn aOfs dMfn dFn dSym psym fofs snr after level) s (fun t => Brx.state t c = 2 ∧
        t.get F.BRX_CNT_COUNT c 0 = min (2 ^ 32 - 1) (s.get F.BRX_CNT_COUNT c 0 + 1) ∧
        t.get F.BRX_CNT_COUNT c 6 = min (2 ^ 32 - 1) (s.get F.BRX_CNT_COUNT c 6 + 1) ∧
        t.get F.BRX_CNT_COUNT c 7 = min (2 ^ 32 - 1) (s.get F.BRX_CNT_COUNT c 7 + 1) ∧ t.on F.BRX_INT_CAUSE_COLLISION ∧
        t.on F.BRX_INT_CAUSE_PREEMPTED ∧ (Brx.current t c).lambda = Brx.seen s c lambda ∧ (Brx.current t c).serial = s.brx.serial + 1 ∧
        t.brx.closed = s.brx.closed ++ [(⟨c, 3, 0, psym, Brx.current s c, Brx.offset s fofs, snr % 1024, []⟩ : Closed)] ∧
        (s.brx.log.length < 64 → t.brx.log.length = s.brx.log.length + 1))) ∧
  (∀ (s : State) (c q : Nat) (after : List Nat) (level lambda : Int) (aMfn aFn aOfs dMfn dFn dSym psym fofs snr : Nat),
      c < 4 → Brx.state s c = 3 → Brx.isPeak s q after → s.on F.PWR_SAFE_STAT_UP_SAFE = false →
        Brx.seen s c lambda - (Brx.current s c).lambda < (max 1 (s.get F.BRX_CAPTURE_MARGIN_MARGIN) : Int) →
        runs (.peakDetect c q lambda aMfn aFn aOfs dMfn dFn dSym psym fofs snr after level) s (fun t => Brx.state t c = 3 ∧
        t.get F.BRX_CNT_COUNT c 0 = min (2 ^ 32 - 1) (s.get F.BRX_CNT_COUNT c 0 + 1) ∧
        t.get F.BRX_CNT_COUNT c 7 = min (2 ^ 32 - 1) (s.get F.BRX_CNT_COUNT c 7 + 1) ∧ t.on F.BRX_INT_CAUSE_COLLISION ∧
        Brx.current t c = Brx.current s c ∧ t.brx.closed = s.brx.closed ∧ (s.brx.log.length < 64 →
        t.brx.log.length = s.brx.log.length + 1))) ∧
  (∀ (s : State) (c hdr crcOk : Nat),
      c < 4 → Brx.state s c = 2 → crcOk ≠ 0 → slice hdr 30 2 = 1 → slice hdr 27 3 ≤ 4 →
        runs (.headerDecision c hdr crcOk) s (fun t => Brx.state t c = 3 ∧ (Brx.current t c).hdr = hdr % 2 ^ 32)) ∧
  (∀ (s : State) (c hdr crcOk : Nat),
      c < 4 → Brx.state s c = 2 → (crcOk = 0 ∨ slice hdr 30 2 ≠ 1 ∨ 4 < slice hdr 27 3) →
        runs (.headerDecision c hdr crcOk) s (fun t => Brx.state t c = 1 ∧
        t.get F.BRX_CNT_COUNT c 2 = min (2 ^ 32 - 1) (s.get F.BRX_CNT_COUNT c 2 + 1))) ∧
  (∀ (s : State) (c crcOk em fofs snr : Nat) (msg : List Nat),
      c < 4 → Brx.state s c = 3 → runs (.burstClose c crcOk em fofs snr msg) s (fun t => Brx.state t c = 1 ∧
        t.brx.closed = s.brx.closed ++ [(⟨c, if crcOk ≠ 0 then 0 else 1, (if em < 128 then 1 else 0),
        Brx.payloadSymbols (Brx.current s c).hdr, Brx.current s c, Brx.offset s fofs, snr % 1024,
        if crcOk ≠ 0 then msg else []⟩ : Closed)] ∧ (crcOk ≠ 0 → t.get F.BRX_CNT_COUNT c 3 = min (2 ^ 32 - 1) (s.get F.BRX_CNT_COUNT c 3
        + 1)) ∧ (crcOk = 0 → t.get F.BRX_CNT_COUNT c 4 = min (2 ^ 32 - 1) (s.get F.BRX_CNT_COUNT c 4 + 1)))) ∧
  (∀ (s : State) (x : Closed) (rest : List Closed),
      s.brx.closed = x :: rest → s.brx.ring.length < 256 → runs .burstRecord s (fun t => t.brx.closed = rest ∧
        t.brx.ring = s.brx.ring ++ [Brx.record x] ∧ t.brx.good = s.brx.good ++ (if x.status = 0 then [x] else []) ∧
        t.on F.BRX_INT_CAUSE_REC_AVAIL)) ∧
  (∀ (s : State) (x : Closed) (rest : List Closed),
      s.brx.closed = x :: rest → 256 ≤ s.brx.ring.length → runs .burstRecord s (fun t => t.brx.closed = rest ∧ t.brx.ring = s.brx.ring ∧
        t.brx.good = s.brx.good ++ (if x.status = 0 then [x] else []) ∧ t.on F.BRX_INT_CAUSE_DROP)) ∧
  (∀ (s : State) (c : Nat) (run : List Int) (psym fofs snr : Nat),
      c < 4 → Brx.state s c = 3 → 32 ≤ run.length → run.all (Brx.isAbsent s c) →
        runs (.gapClose c psym fofs snr run) s (fun t => Brx.state t c = 1 ∧
        t.get F.BRX_CNT_COUNT c 5 = min (2 ^ 32 - 1) (s.get F.BRX_CNT_COUNT c 5 + 1) ∧ t.on F.BRX_INT_CAUSE_TRUNCATED ∧
        t.brx.closed = s.brx.closed ++ [(⟨c, 2, 0, psym, Brx.current s c, Brx.offset s fofs, snr % 1024, []⟩ : Closed)])) ∧
  (∀ (s : State) (c : Nat) (run : List Int) (psym fofs snr : Nat),
      c < 4 → Brx.state s c = 2 → 32 ≤ run.length → run.all (Brx.isAbsent s c) →
        runs (.gapClose c psym fofs snr run) s (fun t => Brx.state t c = 1 ∧
        t.get F.BRX_CNT_COUNT c 1 = min (2 ^ 32 - 1) (s.get F.BRX_CNT_COUNT c 1 + 1))) ∧
  (∀ (s : State) (c : Nat) (run : List Int) (next : Int),
      c < 4 → 2 ≤ Brx.state s c → 1 ≤ run.length → run.length ≤ 31 → run.all (Brx.isAbsent s c) → Brx.isAbsent s c next = false →
        runs (.fade c run next) s (fun t => (Brx.current t c).faded ∧ Brx.state t c = Brx.state s c ∧
        t.get F.BRX_CNT_COUNT c 9 = min (2 ^ 32 - 1) (s.get F.BRX_CNT_COUNT c 9 + 1))) ∧
  (∀ (s : State) (c quiet : Nat) (run : List Int),
      c < 4 → Brx.state s c = 1 → 32 ≤ run.length → run.all (Brx.isPresent s) → (s.on H.BRX_EPISODE c = false ∨ 32 ≤ quiet) →
        runs (.orphan c quiet run) s (fun t => t.on H.BRX_EPISODE c ∧ t.get F.BRX_CNT_COUNT c 8 = min (2 ^ 32 - 1) (s.get F.BRX_CNT_COUNT
        c 8 + 1))) ∧
  (∀ (s : State) (k : Nat) (symbols : List (Int × Nat)),
      k < 512 → Brx.judged s k → Brx.run s k true symbols → runs (.scAbsentSet k symbols) s (fun t => t.bit F.BRX_SC_ABSENT_SC (k % 32)
        (k / 32))) ∧
  (∀ (s : State) (k : Nat) (symbols : List (Int × Nat)),
      k < 512 → Brx.judged s k → Brx.run s k false symbols → runs (.scAbsentClear k symbols) s (fun t => t.bit F.BRX_SC_ABSENT_SC (k %
        32) (k / 32) = false)) ∧
  (∀ (s : State),
      takes .BRX_REC_POP s → runs .recPop s (fun t => t.brx.ring = s.brx.ring.drop 1 ∧
        t.get F.BRX_REC_STAT_COUNT = (s.brx.ring.drop 1).length % 512)) ∧
  (∀ (s : State),
      takes .BRX_COL_POP s → Brx.headDone s → runs .colPop s (fun t => t.brx.log = s.brx.log.drop 1 ∧
        t.get F.BRX_COL_STAT_COUNT = (s.brx.log.drop 1).length % 512))

/-- Frames. TX_EN takes its value, and written 0 stops the counters. TX_FRAME while TX_EN and awake counts the next frame in a hub, which
  takes the judgement of its tree, and the frame given in a leaf. RX_EN written 1 begins the search where no tree is in use and the
  subcarrier searched can carry frames, else, in a hub whose ALIGN_SC is not DATA, sets CFG_ERR; on a tree it begins none; written 0 it
  ends the search. RESEARCH begins it anew, with OOF. A FAW hit in the search, new and within FAW_TOL, adds a candidate, or, where eight
  are held, is counted in CAND_OVF. CANDIDATE_JUDGE of a held candidate whose FAW or word fails, or whose frame number does not follow,
  removes it; match 2 stores its frame number; match 3 brings in-frame and in-multiframe with its rotation and FN; a rival that completes
  match 3 in the same window counts PATTERN_AMBIG once. FAW_CHECK in-frame counts FAW errors of its subcarrier; of the searched one it
  advances FN, shows the rotation of Y and keeps the run of misses. OOF after five misses searches anew. -/
def Obligations.FrameSearchResults : Prop :=
  (∀ (s : State) (value : Nat),
      takes .FRM_CTRL s → runs (.txEn value) s (fun t => t.get F.FRM_CTRL_TX_EN = value % 2 ∧ (value % 2 = 0 ∧
        s.on F.FRM_CTRL_TX_EN = true → t.on H.FRM_TX_RUN = false))) ∧
  (∀ (s : State) (mfn fn : Nat) (covered : List (List Bool)),
      s.on F.FRM_CTRL_TX_EN → Rest.awake s → s.leaf = false → runs (.txFrame mfn fn covered) s (fun t => t.on H.FRM_TX_RUN ∧
        t.get H.FRM_TX_MFN = (Scm.nextFrame s).1 ∧ t.get H.FRM_TX_FN = (Scm.nextFrame s).2 ∧ t.get H.VLK_TREE = s.get F.VLK_CTRL_EN)) ∧
  (∀ (s : State) (mfn fn : Nat) (covered : List (List Bool)),
      s.on F.FRM_CTRL_TX_EN → Rest.awake s → s.leaf → runs (.txFrame mfn fn covered) s (fun t => t.on H.FRM_TX_RUN ∧
        t.get H.FRM_TX_MFN = mfn % 2 ^ 24 ∧ t.get H.FRM_TX_FN = fn % 256)) ∧
  (∀ (s : State) (value : Nat),
      takes .FRM_CTRL s → value % 2 = 1 → s.on F.FRM_CTRL_RX_EN = false → Frm.onTree s = false → (s.leaf = true ∨
        s.get H.LRX_ACTIVE (s.get F.FRM_ALIGN_CFG_ALIGN_SC) % 8 = 1) → runs (.rxEn value) s (fun t => t.on F.FRM_CTRL_RX_EN ∧
        t.get F.FRM_ALIGN_STAT_STATE = 1 ∧ t.frm.cands = [])) ∧
  (∀ (s : State) (value : Nat),
      takes .FRM_CTRL s → value % 2 = 1 → s.on F.FRM_CTRL_RX_EN = false → Frm.onTree s = false → s.leaf = false →
        s.get H.LRX_ACTIVE (s.get F.FRM_ALIGN_CFG_ALIGN_SC) % 8 ≠ 1 → runs (.rxEn value) s (fun t => t.on F.FRM_CTRL_RX_EN = false ∧
        t.on F.FRM_INT_CAUSE_CFG_ERR)) ∧
  (∀ (s : State) (value : Nat),
      takes .FRM_CTRL s → value % 2 = 1 → s.on F.FRM_CTRL_RX_EN = false → Frm.onTree s →
        runs (.rxEn value) s (fun t => t.on F.FRM_CTRL_RX_EN ∧ t.get F.FRM_ALIGN_STAT_STATE = s.get F.FRM_ALIGN_STAT_STATE)) ∧
  (∀ (s : State) (value : Nat),
      takes .FRM_CTRL s → value % 2 = 0 → s.on F.FRM_CTRL_RX_EN → runs (.rxEn value) s (fun t => t.on F.FRM_CTRL_RX_EN = false ∧
        t.get F.FRM_ALIGN_STAT_STATE = 0)) ∧
  (∀ (s : State),
      takes .FRM_CTRL s → s.get F.FRM_ALIGN_STAT_STATE ≠ 0 → runs .research s (fun t => t.get F.FRM_ALIGN_STAT_STATE = 1 ∧
        t.on F.FRM_ALIGN_STAT_IN_MF = false ∧ t.on F.FRM_INT_CAUSE_OOF ∧ t.frm.cands = [] ∧ t.get F.FRM_ALIGN_STAT_CAND = 0)) ∧
  (∀ (s : State) (pos rot errs : Nat),
      s.get F.FRM_ALIGN_STAT_STATE = 1 → rot ≤ 3 → errs ≤ s.get F.FRM_ALIGN_CFG_FAW_TOL →
        s.frm.cands.any (fun (c : Cand) => c.pos % Frm.frameLen == pos % Frm.frameLen && c.rot == rot) = false → s.frm.cands.length < 8 →
        runs (.fawHit pos rot errs) s (fun t => t.frm.cands = s.frm.cands ++ [(⟨pos, rot, 1, 0⟩ : Cand)] ∧
        t.get F.FRM_ALIGN_STAT_CAND = s.frm.cands.length + 1)) ∧
  (∀ (s : State) (pos rot errs : Nat),
      s.get F.FRM_ALIGN_STAT_STATE = 1 → rot ≤ 3 → errs ≤ s.get F.FRM_ALIGN_CFG_FAW_TOL →
        s.frm.cands.any (fun (c : Cand) => c.pos % Frm.frameLen == pos % Frm.frameLen && c.rot == rot) = false → 8 ≤ s.frm.cands.length →
        runs (.fawHit pos rot errs) s (fun t => t.frm.cands = s.frm.cands ∧
        t.get F.FRM_CAND_OVF_COUNT = min (2 ^ 32 - 1) (s.get F.FRM_CAND_OVF_COUNT + 1) ∧ t.on F.FRM_INT_CAUSE_CAND_OVF)) ∧
  (∀ (s : State) (pos rot errs word : Nat) (c : Cand),
      s.frm.cands.find? (fun (x : Cand) => x.pos + Frm.frameLen == pos && x.rot == rot) = some c →
        (s.get F.FRM_ALIGN_CFG_FAW_TOL < errs ∨ Frm.wordOk word = false ∨ (c.made ≠ 1 ∧ Frm.wordFn word ≠ (c.fn + 1) % 256)) →
        runs (.candidateJudge pos rot errs word) s (fun t => t.frm.cands = s.frm.cands.filter (fun (x : Cand) => !(x.pos + Frm.frameLen
        == pos && x.rot == rot)) ∧ t.get F.FRM_ALIGN_STAT_STATE = s.get F.FRM_ALIGN_STAT_STATE)) ∧
  (∀ (s : State) (pos rot errs word : Nat) (c : Cand),
      s.frm.cands.find? (fun (x : Cand) => x.pos + Frm.frameLen == pos && x.rot == rot) = some c → errs ≤ s.get F.FRM_ALIGN_CFG_FAW_TOL →
        Frm.wordOk word → c.made = 1 → runs (.candidateJudge pos rot errs word) s (fun t => t.frm.cands = s.frm.cands.map (fun (x : Cand)
        => if x.pos + Frm.frameLen == pos && x.rot == rot then (⟨c.pos + Frm.frameLen, c.rot, 2, Frm.wordFn word⟩ : Cand) else x) ∧
        t.get F.FRM_ALIGN_STAT_STATE = s.get F.FRM_ALIGN_STAT_STATE)) ∧
  (∀ (s : State) (pos rot errs word : Nat) (c : Cand),
      s.frm.cands.find? (fun (x : Cand) => x.pos + Frm.frameLen == pos && x.rot == rot) = some c → errs ≤ s.get F.FRM_ALIGN_CFG_FAW_TOL →
        Frm.wordOk word → c.made ≠ 1 → Frm.wordFn word = (c.fn + 1) % 256 →
        runs (.candidateJudge pos rot errs word) s (fun t => t.get F.FRM_ALIGN_STAT_STATE = 2 ∧ t.on F.FRM_ALIGN_STAT_IN_MF ∧
        t.get F.FRM_ALIGN_STAT_ROT_X = c.rot % 4 ∧ t.get H.FRM_RX_FN = Frm.wordFn word ∧ t.on F.FRM_INT_CAUSE_IN_FRAME ∧ t.frm.cands = [])) ∧
  (∀ (s : State) (pos rot errs word : Nat) (c : Cand),
      s.frm.cands.find? (fun (x : Cand) => x.pos + Frm.frameLen == pos && x.rot == rot) = none →
        s.frm.rivals.find? (fun (x : Cand) => x.pos + Frm.frameLen == pos && x.rot == rot) = some c →
        errs ≤ s.get F.FRM_ALIGN_CFG_FAW_TOL → Frm.wordOk word → c.made ≠ 1 → Frm.wordFn word = (c.fn + 1) % 256 →
        (pos + 128) / Frm.frameLen = s.frm.window → runs (.candidateJudge pos rot errs word) s (fun t => t.get F.FRM_PATTERN_AMBIG_COUNT
        = (if s.on H.FRM_AMBIG then s.get F.FRM_PATTERN_AMBIG_COUNT else min (2 ^ 32 - 1) (s.get F.FRM_PATTERN_AMBIG_COUNT + 1)) ∧
        t.on H.FRM_AMBIG ∧ t.get F.FRM_ALIGN_STAT_STATE = s.get F.FRM_ALIGN_STAT_STATE)) ∧
  (∀ (s : State) (k errs rotY : Nat),
      Frm.inFrame s → Frm.framed s k → k = Frm.searched s → k < 512 → runs (.fawCheck k errs rotY) s (fun t => t.get H.FRM_LIVE_SC k 3 =
        min (2 ^ 32 - 1) (s.get H.FRM_LIVE_SC k 3 + errs) ∧ t.get H.FRM_RX_FN = (s.get H.FRM_RX_FN + 1) % 256 ∧
        t.get F.FRM_ALIGN_STAT_ROT_Y = rotY % 4 ∧ t.get H.FRM_FAW_MISS = (if s.get F.FRM_ALIGN_CFG_FAW_TOL < errs then min 7 (s.get
        H.FRM_FAW_MISS + 1) else 0))) ∧
  (∀ (s : State) (k errs rotY : Nat),
      Frm.inFrame s → Frm.framed s k → k ≠ Frm.searched s → k < 512 → runs (.fawCheck k errs rotY) s (fun t => t.get H.FRM_LIVE_SC k 3 =
        min (2 ^ 32 - 1) (s.get H.FRM_LIVE_SC k 3 + errs) ∧ t.get H.FRM_RX_FN = s.get H.FRM_RX_FN ∧
        t.get H.FRM_FAW_MISS = s.get H.FRM_FAW_MISS)) ∧
  (∀ (s : State),
      Frm.inFrame s → 5 ≤ s.get H.FRM_FAW_MISS → runs .oof s (fun t => t.get F.FRM_ALIGN_STAT_STATE = 1 ∧ t.on F.FRM_INT_CAUSE_OOF))

/-- The overhead words of a stream that is judged: under the one search, in-frame, of a subcarrier with SLF frames; on a tree, of a leaf
  that is checked. A word with a bad CRC is counted and compares no BIP. A valid one whose last frame of the stream is the one before
  compares its BIP with the parity of the covered bits and counts the difference (nothing is compared otherwise). A valid one of the
  searched subcarrier gives BDI, FN and, where none has been taken yet, MFN. On a tree a valid one keeps the run of wrong frame numbers,
  and a wrong loading version names the leaf in MIS_LEAF with VER_MISMATCH. Five wrong frame numbers bring OOM, three right ones restore
  it. Upstream the hub keeps the run of FAW hits and of misses of each leaf's stream, its out-of-frame and its in-frame, which restores
  the frame count too. A trace received three times is accepted into TTI_RX; an SSM received three times, and new, into SSM_RX with
  SSM_CHG. -/
def Obligations.OverheadResults : Prop :=
  (∀ (s : State) (k l word : Nat) (covered : List Bool) (mfn fn : Nat),
      Frm.onTree s = false → Frm.inFrame s → Frm.framed s k → k < 512 → Frm.wordOk word = false →
        runs (.overheadWord k l word covered mfn fn) s (fun t => t.get H.FRM_LIVE_SC k 4 = min (2 ^ 32 - 1) (s.get H.FRM_LIVE_SC k 4 + 1)
        ∧ t.get H.FRM_LIVE_SC k 2 = s.get H.FRM_LIVE_SC k 2)) ∧
  (∀ (s : State) (k l word : Nat) (covered : List Bool) (mfn fn : Nat),
      (if Frm.onTree s = true then Frm.checked s k l = true else Frm.inFrame s = true ∧ Frm.framed s k = true) → k < 512 →
        Frm.wordOk word → Frm.comparable s k l (Frm.frameNumber s mfn fn) →
        runs (.overheadWord k l word covered mfn fn) s (fun t => t.get H.FRM_LIVE_SC k 2 = min (2 ^ 32 - 1) (s.get H.FRM_LIVE_SC k 2 + 1)
        ∧ t.get H.FRM_LIVE_SC k 0 = min (2 ^ 32 - 1) (s.get H.FRM_LIVE_SC k 0 + popBits 8 (slice word 36 8 ^^^ Frm.bip covered)) ∧
        t.get H.FRM_LIVE_SC k 1 = (if popBits 8 (slice word 36 8 ^^^ Frm.bip covered) = 0 then s.get H.FRM_LIVE_SC k 1 else min (2 ^ 32 -
        1) (s.get H.FRM_LIVE_SC k 1 + 1)))) ∧
  (∀ (s : State) (k l word : Nat) (covered : List Bool) (mfn fn : Nat),
      (if Frm.onTree s = true then Frm.checked s k l = true else Frm.inFrame s = true ∧ Frm.framed s k = true) → k < 512 →
        Frm.wordOk word → Frm.comparable s k l (Frm.frameNumber s mfn fn) = false →
        runs (.overheadWord k l word covered mfn fn) s (fun t => t.get H.FRM_LIVE_SC k 2 = s.get H.FRM_LIVE_SC k 2 ∧
        t.get H.FRM_LIVE_SC k 0 = s.get H.FRM_LIVE_SC k 0)) ∧
  (∀ (s : State) (k l word : Nat) (covered : List Bool) (mfn fn : Nat),
      Frm.onTree s = false → Frm.inFrame s → Frm.framed s k → k = Frm.searched s → k < 512 → Frm.wordOk word →
        runs (.overheadWord k l word covered mfn fn) s (fun t => t.get H.FRM_BDI_SC k = b01 (word.testBit 47) ∧
        t.get H.FRM_BDI_LINE = b01 (word.testBit 47) ∧ t.get H.FRM_FN_LAST = Frm.wordFn word ∧ (Frm.wordFn word % 4 = 0 ∧
        s.on F.FRM_ALIGN_STAT_MFN_VALID = false → t.get H.FRM_RX_MFN = slice word 12 24 ∧ t.on F.FRM_ALIGN_STAT_MFN_VALID = true))) ∧
  (∀ (s : State) (k l word : Nat) (covered : List Bool) (mfn fn : Nat),
      Frm.onTree s → Frm.checked s k l → k < 512 → l < 512 → Frm.wordOk word →
        runs (.overheadWord k l word covered mfn fn) s (fun t => t.get H.FRM_UP_FN_MISS k l = (if Frm.wordFn word = fn then 0 else min 7
        (s.get H.FRM_UP_FN_MISS k l + 1)) ∧ (Frm.wordVer word 1 ≠ Scm.activeVer s 1 → t.get F.SCM_CHG_STAT_MIS_LEAF = l ∧
        t.on F.SCM_INT_CAUSE_VER_MISMATCH = true))) ∧
  (∀ (s : State) (k l : Nat),
      Frm.onTree s = false → s.on F.FRM_ALIGN_STAT_IN_MF → 5 ≤ s.get H.FRM_FN_MISS →
        runs (.oom k l) s (fun t => t.on F.FRM_ALIGN_STAT_IN_MF = false ∧ t.on F.FRM_INT_CAUSE_OOM)) ∧
  (∀ (s : State) (k l : Nat),
      Frm.onTree s → k < 512 → l < 512 → s.on H.FRM_UP_OOM k l = false → (5 ≤ s.get H.FRM_UP_FN_MISS k l ∨
        5 ≤ s.get H.FRM_UP_MFN_MISS k l) → runs (.oom k l) s (fun t => t.on H.FRM_UP_OOM k l ∧ t.on F.FRM_INT_CAUSE_OOM)) ∧
  (∀ (s : State) (k l : Nat),
      Frm.onTree s = false → Frm.inFrame s → s.on F.FRM_ALIGN_STAT_IN_MF = false → s.get H.FRM_FN_RUN = 3 →
        runs (.mfRestore k l) s (fun t => t.on F.FRM_ALIGN_STAT_IN_MF ∧ t.get H.FRM_RX_FN = s.get H.FRM_FN_LAST)) ∧
  (∀ (s : State) (k l : Nat),
      Frm.onTree s → k < 512 → l < 512 → s.on H.FRM_UP_OOM k l → s.get H.FRM_UP_FN_RUN k l = 3 →
        runs (.mfRestore k l) s (fun t => t.on H.FRM_UP_OOM k l = false)) ∧
  (∀ (s : State) (k l errs : Nat),
      Frm.checked s k l → k < 512 → l < 512 → runs (.upstreamFawCheck k l errs) s (fun t => t.get H.FRM_UP_HIT k l = (if errs ≤ s.get
        F.FRM_ALIGN_CFG_FAW_TOL then min 3 (s.get H.FRM_UP_HIT k l + 1) else 0) ∧
        t.get H.FRM_UP_MISS k l = (if errs ≤ s.get F.FRM_ALIGN_CFG_FAW_TOL then 0 else min 7 (s.get H.FRM_UP_MISS k l + 1)))) ∧
  (∀ (s : State) (k l : Nat),
      Frm.checked s k l → k < 512 → l < 512 → s.on H.FRM_UP_OOF k l = false → 5 ≤ s.get H.FRM_UP_MISS k l →
        runs (.upstreamOof k l) s (fun t => t.on H.FRM_UP_OOF k l ∧ t.on F.FRM_INT_CAUSE_OOF)) ∧
  (∀ (s : State) (k l : Nat),
      Frm.checked s k l → k < 512 → l < 512 → s.on H.FRM_UP_OOF k l → s.get H.FRM_UP_HIT k l = 3 →
        runs (.upstreamInFrame k l) s (fun t => t.on H.FRM_UP_OOF k l = false ∧ t.on F.FRM_INT_CAUSE_IN_FRAME ∧
        t.on H.FRM_UP_OOM k l = false)) ∧
  (∀ (s : State) (j : Nat),
      s.get H.FRM_TTI_RUN = 3 → j < 16 → runs .ttiAccept s (fun t => t.on H.FRM_TTI_ACC ∧
        t.get F.FRM_TTI_RX_DATA j = s.get H.FRM_TTI_LAST (4 * j) + 256 * s.get H.FRM_TTI_LAST (4 * j + 1) + 65536 * s.get H.FRM_TTI_LAST
        (4 * j + 2) + 16777216 * s.get H.FRM_TTI_LAST (4 * j + 3))) ∧
  (∀ (s : State),
      Frm.inFrame s → s.get H.FRM_SSM_RUN = 3 → s.get H.FRM_SSM_LAST ≠ s.get F.FRM_SSM_RX_SSM →
        runs .ssmAccept s (fun t => t.get F.FRM_SSM_RX_SSM = s.get H.FRM_SSM_LAST ∧ t.on F.FRM_INT_CAUSE_SSM_CHG))

/-- Defects, seconds and container frames. TEN_MS_TICK counts the conditions present (one tick of the set count of a subcarrier's defect,
  not cleared yet), and gives a converter's level. SECOND_TICK latches the counters of each subcarrier's frames and decoder and numbers
  the latch in PM_STAT.SEQ; the live ones start from 0 again. DEFECT_DECLARE sets a defect whose set count has reached SET, or, with SET
  0, that is present; DEFECT_CLEAR clears one whose clear count has reached CLR, or, with CLR 0, that is not present; a change sets
  DEF_CHG. DEF_CFG takes both times and restarts the counts of the defect. DEG_ONSET starts and ends raw dDEG after M seconds. A container
  frame of a delivered stream with a good header, no MGMT or IDLE frame and no justification, that an entry takes, is counted and, as the
  first of its flow, opens the flow's window; one with a bad header is counted; one of no flow of a hub is counted in UNKNOWN_CNT.
  SLIP_WRITE moves the oldest frame in order to the slip buffer, a DATA frame into a store slot, and drops an idle one where the buffer
  holds three; SLIP_READ of a flow that is received, from a buffer that need not repeat, takes the oldest from it, and the client has its
  frame, or where the flow is not valid the replacement signal. -/
def Obligations.DefectAndFlowResults : Prop :=
  (∀ (s : State) (n ties : Nat) (otu : List (Nat × OtuFrames)) (levels : List (Nat × Nat × Nat)) (p clip rms ovr : Nat),
      p < 4 → levels[p]? = some (clip, rms, ovr) → runs (.tenMsTick n otu levels ties) s (fun t => t.get F.CVT_ADC_LVL_RMS p = min 1023
        rms ∧ t.get F.CVT_ADC_LVL_OVR p = min (2 ^ F.CVT_ADC_LVL_OVR.width - 1) (s.get F.CVT_ADC_LVL_OVR p + ovr))) ∧
  (∀ (s : State) (n ties : Nat) (levels : List (Nat × Nat × Nat)) (k d : Nat),
      Rest.awake s → k < Lrx.subcarriers s → d < 12 → s.get H.LRX_ACTIVE k % 8 ≠ 0 → (Frm.present s 1 k).testBit d →
        runs (.tenMsTick n [] levels ties) s (fun t => t.get H.FRM_SETC_SC k d = min (2 ^ H.FRM_SETC_SC.width - 1) (s.get H.FRM_SETC_SC k
        d + 1) ∧ t.get H.FRM_CLRC_SC k d = 0)) ∧
  (∀ (s : State) (d : Second) (k w : Nat),
      k < 512 → w < 6 → runs (.secondTick d) s (fun t => t.get F.FRM_SC_PM_COUNT k w = s.get H.FRM_LIVE_SC k w ∧
        t.get H.FRM_LIVE_SC k w = 0 ∧ t.get F.FRM_PM_STAT_SEQ = (s.get F.FRM_PM_STAT_SEQ + 1) % 65536 ∧ t.on F.FRM_INT_CAUSE_PM_LATCH ∧
        t.get F.FEC_PM_CW_OK k = s.get H.FEC_LIVE_CW k ∧ t.get F.FEC_PM_INVAL_COUNT k = s.get H.FEC_LIVE_INVAL k ∧
        t.get H.FEC_LIVE_CW k = 0 ∧ t.on F.FEC_INT_CAUSE_PM_LATCH)) ∧
  (∀ (s : State) (kind i d : Nat),
      kind < 5 → d < 12 → (Frm.kind kind).declared.shape.has i 0 0 → Frm.setTicks s d ≠ 0 →
        Frm.setTicks s d ≤ s.get (Frm.kind kind).setc i d → runs (.defectDeclare kind i d) s (fun t => t.bit (Frm.kind kind).declared d i
        ∧ (s.bit (Frm.kind kind).declared d i = false → t.on F.FRM_INT_CAUSE_DEF_CHG = true))) ∧
  (∀ (s : State) (kind i d : Nat),
      kind < 5 → d < 12 → (Frm.kind kind).declared.shape.has i 0 0 → Frm.setTicks s d = 0 → (Frm.present (Frm.note s) kind i).testBit d →
        runs (.defectDeclare kind i d) s (fun t => t.bit (Frm.kind kind).declared d i ∧ (s.bit (Frm.kind kind).declared d i = false →
        t.on F.FRM_INT_CAUSE_DEF_CHG = true))) ∧
  (∀ (s : State) (kind i d : Nat),
      kind < 5 → d < 12 → (Frm.kind kind).declared.shape.has i 0 0 → Frm.clrTicks s d ≠ 0 →
        Frm.clrTicks s d ≤ s.get (Frm.kind kind).clrc i d → runs (.defectClear kind i d) s (fun t => t.bit (Frm.kind kind).declared d i =
        false ∧ (s.bit (Frm.kind kind).declared d i = true → t.on F.FRM_INT_CAUSE_DEF_CHG = true))) ∧
  (∀ (s : State) (kind i d : Nat),
      kind < 5 → d < 12 → (Frm.kind kind).declared.shape.has i 0 0 → Frm.clrTicks s d = 0 → (Frm.present s kind i).testBit d = false →
        runs (.defectClear kind i d) s (fun t => t.bit (Frm.kind kind).declared d i = false ∧
        (s.bit (Frm.kind kind).declared d i = true → t.on F.FRM_INT_CAUSE_DEF_CHG = true))) ∧
  (∀ (s : State) (d value : Nat) (n i : Nat),
      takes .FRM_DEF_CFG s → d < 12 → n < 5 → runs (.defCfgWrite d value) s (fun t => t.get F.FRM_DEF_CFG_SET d = slice value 0 10 ∧
        t.get F.FRM_DEF_CFG_CLR d = slice value 16 10 ∧ t.get (Frm.kind n).setc i d = 0 ∧ t.get (Frm.kind n).clrc i d = 0)) ∧
  (∀ (s : State) (i : Nat),
      i < 544 → Frm.degM s ≤ s.get H.FRM_DEG_BAD i → runs (.degOnset i) s (fun t => t.on H.FRM_DEG_RAW i)) ∧
  (∀ (s : State) (i : Nat),
      i < 544 → s.get H.FRM_DEG_BAD i < Frm.degM s → Frm.degM s ≤ s.get H.FRM_DEG_GOOD i →
        runs (.degOnset i) s (fun t => t.on H.FRM_DEG_RAW i = false)) ∧
  (∀ (s : State) (k l bad : Nat) (hdr payload : List Nat) (tag : Nat) (f : Nat),
      Frm.delivers s k l → Frm.headerOk hdr → (Frm.parse hdr).type ≠ 2 → (Frm.parse hdr).type ≠ 3 → (Frm.parse hdr).just = false →
        Frm.receiver s (Frm.parse hdr).flow l = some f → f < 3072 → Flw.ciphEn (Flw.entry s f) = false → s.on H.FRM_WIN_ON f = false →
        s.get H.FLW_PMI f < H.FRM_LIVE_F.shape.n1 → runs (.cfReceive k l bad hdr payload tag) s (fun t => t.get H.FRM_LIVE_F (s.get
        H.FLW_PMI f) 0 = min (2 ^ 32 - 1) (s.get H.FRM_LIVE_F (s.get H.FLW_PMI f) 0 + 1) ∧
        t.get H.FRM_LAST_TYPE f = (Frm.parse hdr).type ∧ t.on H.FRM_WIN_ON f ∧
        t.get H.FRM_WIN_SEQ f = ((Frm.parse hdr).seq + 1) % 65536 ∧ Store.get [] t.frm.ready f = Store.get [] s.frm.ready f ++ Store.get
        [] s.frm.held f ++
        [{ Frm.parse hdr with payload := payload, tag := tag, err := (Frm.parse hdr).err || bad != 0 || s.on H.FEC_MARK k || s.on F.PWR_SAFE_STAT_RX_SAFE, suspect := if (if Frm.onTree s = true then s.on H.FRM_UP_MISS k l = true else s.on H.FRM_FAW_MISS = true) then Frm.streamId s k l else 0 }])) ∧
  (∀ (s : State) (k l bad : Nat) (hdr payload : List Nat) (tag : Nat),
      Frm.delivers s k l → Frm.headerOk hdr = false → k < 512 → runs (.cfReceive k l bad hdr payload tag) s (fun t => t.get H.FRM_LIVE_SC
        k 5 = min (2 ^ 32 - 1) (s.get H.FRM_LIVE_SC k 5 + 1) ∧ t.frm = s.frm)) ∧
  (∀ (s : State) (k l bad : Nat) (hdr payload : List Nat) (tag : Nat),
      Frm.delivers s k l → Frm.headerOk hdr → (Frm.parse hdr).type ≠ 2 → (Frm.parse hdr).type ≠ 3 → s.leaf = false →
        Frm.receiver s (Frm.parse hdr).flow l = none → runs (.cfReceive k l bad hdr payload tag) s (fun t => t.get
        F.FLW_UNKNOWN_CNT_COUNT = min (2 ^ 32 - 1) (s.get F.FLW_UNKNOWN_CNT_COUNT + 1) ∧ t.frm = s.frm)) ∧
  (∀ (s : State) (f : Nat) (x : Cf) (rest : List Cf),
      f < 3072 → Store.get [] s.frm.ready f = x :: rest → Frm.idle x → (x.just = true ∨ (Frm.slip s f).length < 3) →
        (Frm.slip s f).length < 8 → runs (.slipWrite f) s (fun t => Store.get [] t.frm.ready f = rest ∧
        Frm.slip t f = Frm.slip s f ++ [(⟨f, 3, x⟩ : Stored)] ∧ t.get F.FRM_RA_STAT_FILL f = (Frm.slip s f).length + 1 ∧
        t.get H.FRM_EG_JUST f = b01 x.just)) ∧
  (∀ (s : State) (f : Nat) (x : Cf) (rest : List Cf),
      f < 3072 → Store.get [] s.frm.ready f = x :: rest → Frm.idle x → x.just = false → 3 ≤ (Frm.slip s f).length →
        runs (.slipWrite f) s (fun t => Store.get [] t.frm.ready f = rest ∧ Frm.slip t f = Frm.slip s f)) ∧
  (∀ (s : State) (f : Nat) (x : Cf) (rest : List Cf) (p : Nat),
      f < 3072 → Store.get [] s.frm.ready f = x :: rest → Frm.idle x = false → (Frm.slip s f).length < 8 →
        (Qdm.draw f (Flw.buf (Flw.entry s f)) s).1 = some p → runs (.slipWrite f) s (fun t => Store.get [] t.frm.ready f = rest ∧
        Frm.slip t f = Frm.slip s f ++ [(⟨f, p, x⟩ : Stored)])) ∧
  (∀ (s : State) (f : Nat) (x : Stored) (rest : List Stored) (ends : List Nat),
      f < 3072 → Flw.en (Flw.entry s f) → Flw.rxEn (Flw.entry s f) → Frm.slip s f = x :: rest →
        (rest.isEmpty && Frm.idle x.frame && !x.frame.just) = false → runs (.slipRead f ends) s (fun t => Frm.slip t f = rest ∧
        t.get F.FRM_RA_STAT_FILL f = rest.length % 16 ∧ ((Frm.flowValid s f && Rest.awake s) = true → Flw.trib (Flw.entry s f) ≠ 2 →
        Emit.client (Flw.cli (Flw.entry s f)) f (.cf x.frame) ∈ t.out) ∧ ((Frm.flowValid s f && Rest.awake s) = false →
        Emit.client (Flw.cli (Flw.entry s f)) f (Hsl.replacement s (Flw.cli (Flw.entry s f))) ∈ t.out)))

/-- Client c < 32, lane n < 32 of an enabled client. CLI_ENABLE with the checks passed, in a leaf in group 0, sets EN and the client waits
  for a signal, its egress sending the replacement signal; a check that fails sets CFG_ERR with its step, and a lane of another group in a
  leaf ROLE_LIMIT; neither enables. CLI_DISABLE turns it OFF, with CLI_DOWN from UP. SIGNAL_DETECT shows the signal, and a client whose
  lanes all have one leaves SIGNAL. CDR_LOCK with a signal, from CDR on, and LANE_LOCK with the clock, from AM on and of a polarity that
  is found or forced, show what the lane has. A loss clears it and what rests on it, counts in LOCK_LOST where the lock had been, and
  takes a client that stands above the state that waits for it down to that state. At a marker boundary the egress takes TX_REV, with
  ORDER_CHG where that changes it. In DESKEW the skew is shown; one of at most 180 ns is applied, not less than DSK_HOLD, and the client
  is UP; a larger one is out of range. LINK_TMO of a client neither OFF nor UP counts a retry and returns a client past SIGNAL to CDR. -/
def Obligations.HostLaneResults : Prop :=
  (∀ (s : State) (c : Nat),
      takes .HSL_CLI_CFG s → c < 32 → Hsl.enabled s c = false → (s.leaf = false ∨ s.get F.HSL_CLI_CFG_FIRST_LANE c < 8) →
        Hsl.check s c = 0 → runs (.cliEnable c) s (fun t => t.on F.HSL_CLI_CFG_EN c ∧ t.get F.HSL_CLI_STAT_STATE c = 1 ∧
        t.get F.HSL_CLI_STAT_CFG_STEP c = 0 ∧ t.get H.HSL_OUT c = 1 ∧ Emit.egress c (Hsl.replacement s c) ∈ t.out)) ∧
  (∀ (s : State) (c : Nat),
      takes .HSL_CLI_CFG s → c < 32 → Hsl.enabled s c = false → (s.leaf = false ∨ s.get F.HSL_CLI_CFG_FIRST_LANE c < 8) →
        Hsl.check s c ≠ 0 → runs (.cliEnable c) s (fun t => t.on F.HSL_CLI_CFG_EN c = false ∧
        t.get F.HSL_CLI_STAT_CFG_STEP c = Hsl.check s c ∧ t.on F.HSL_INT_CAUSE_CFG_ERR)) ∧
  (∀ (s : State) (c : Nat),
      takes .HSL_CLI_CFG s → c < 32 → Hsl.enabled s c = false → s.leaf → 8 ≤ s.get F.HSL_CLI_CFG_FIRST_LANE c →
        runs (.cliEnable c) s (fun t => t.on F.HSL_CLI_CFG_EN c = false ∧ t.on F.SYS_INT_CAUSE_ROLE_LIMIT)) ∧
  (∀ (s : State) (c : Nat),
      takes .HSL_CLI_CFG s → c < 32 → Hsl.enabled s c → runs (.cliDisable c) s (fun t => t.on F.HSL_CLI_CFG_EN c = false ∧
        t.get F.HSL_CLI_STAT_STATE c = 0 ∧ (s.get F.HSL_CLI_STAT_STATE c = 6 → t.on F.HSL_INT_CAUSE_CLI_DOWN = true))) ∧
  (∀ (s : State) (n : Nat) (c : Nat),
      n < 32 → Hsl.clientOf s n = some c → runs (.signalDetect n) s (fun t => t.on F.HSL_LANE_STAT_SIG n ∧ (Hsl.state s c = 1 ∧
        (Hsl.lanes s c).all (fun m => m == n || s.on F.HSL_LANE_STAT_SIG m) = true → 2 ≤ Hsl.state t c))) ∧
  (∀ (s : State) (n : Nat) (c : Nat),
      n < 32 → Hsl.clientOf s n = some c → runs (.signalLoss n) s (fun t => t.on F.HSL_LANE_STAT_SIG n = false ∧
        t.on F.HSL_LANE_STAT_CDR_LOCK n = false ∧ t.on F.HSL_LANE_STAT_AM_LOCK n = false ∧ (s.on F.HSL_LANE_STAT_CDR_LOCK n = true →
        t.get F.HSL_LANE_STAT_LOCK_LOST n = min 255 (s.get F.HSL_LANE_STAT_LOCK_LOST n + 1)) ∧ (1 < Hsl.state s c → Hsl.state t c = 1))) ∧
  (∀ (s : State) (n : Nat) (c : Nat),
      n < 32 → Hsl.clientOf s n = some c → s.on F.HSL_LANE_STAT_SIG n → 2 ≤ Hsl.state s c →
        runs (.cdrLock n) s (fun t => t.on F.HSL_LANE_STAT_CDR_LOCK n)) ∧
  (∀ (s : State) (n : Nat) (c : Nat),
      n < 32 → Hsl.clientOf s n = some c → s.on F.HSL_LANE_STAT_CDR_LOCK n →
        runs (.cdrLoss n) s (fun t => t.on F.HSL_LANE_STAT_CDR_LOCK n = false ∧ t.on F.HSL_LANE_STAT_AM_LOCK n = false ∧
        t.get F.HSL_LANE_STAT_LOCK_LOST n = min 255 (s.get F.HSL_LANE_STAT_LOCK_LOST n + 1) ∧ (2 < Hsl.state s c → Hsl.state t c = 2))) ∧
  (∀ (s : State) (n comp id : Nat) (c : Nat),
      n < 32 → Hsl.clientOf s n = some c → s.on F.HSL_LANE_STAT_CDR_LOCK n → 3 ≤ Hsl.state s c → (s.on F.HSL_LANE_CFG_POL_AUTO n = true ∨
        min 1 comp = s.get F.HSL_LANE_CFG_RX_INV_FORCE n) → runs (.laneLock n comp id) s (fun t => t.on F.HSL_LANE_STAT_AM_LOCK n ∧
        t.get F.HSL_LANE_STAT_RX_INV n = min 1 comp ∧ t.get F.HSL_LANE_STAT_LANE_ID n = id % 256)) ∧
  (∀ (s : State) (n : Nat) (c : Nat),
      n < 32 → Hsl.clientOf s n = some c → s.on F.HSL_LANE_STAT_AM_LOCK n →
        runs (.markerLockLoss n) s (fun t => t.on F.HSL_LANE_STAT_AM_LOCK n = false ∧
        t.get F.HSL_LANE_STAT_LOCK_LOST n = min 255 (s.get F.HSL_LANE_STAT_LOCK_LOST n + 1) ∧ (3 < Hsl.state s c → Hsl.state t c = 3))) ∧
  (∀ (s : State) (c : Nat),
      c < 32 → runs (.egressOrderChange c) s (fun t => t.get H.HSL_EGRESS_REV c = s.get F.HSL_CLI_STAT_TX_REV c ∧
        (s.get H.HSL_EGRESS_REV c ≠ s.get F.HSL_CLI_STAT_TX_REV c → t.on F.HSL_INT_CAUSE_ORDER_CHG = true))) ∧
  (∀ (s : State) (c meas flexo : Nat),
      c < 32 → Hsl.state s c = 5 → runs (.deskewMeasure c meas flexo) s (fun t => t.get F.HSL_CLI_DSK_MEAS c = min meas 2047 ∧
        (meas ≤ 1800 → Hsl.state t c = 6 ∧ t.get F.HSL_CLI_DSK_APPLIED c = max meas (s.get H.HSL_HOLD_USED c) ∧
        t.on F.HSL_INT_CAUSE_CLI_UP = true) ∧ (1800 < meas → Hsl.state t c = 5 ∧ t.on F.HSL_CLI_STAT_DSK_RANGE c = true ∧
        t.on F.HSL_INT_CAUSE_DSK_RANGE = true))) ∧
  (∀ (s : State) (c ms : Nat),
      c < 32 → Hsl.state s c ≠ 0 → Hsl.state s c ≠ 6 → max 1 (s.get F.HSL_LINK_CFG_LINK_TMO) ≤ ms →
        runs (.linkTmo c ms) s (fun t => t.get F.HSL_CLI_STAT_RETRY c = min 255 (s.get F.HSL_CLI_STAT_RETRY c + 1) ∧ (2 ≤ Hsl.state s c →
        Hsl.state t c = 2)))

/-- The flow table's commands, none under way: a READ copies the entry into STAGE with CMD_DONE; a WRITE whose checks pass and a REMOVE
  are under way until they are applied; a WRITE that fails a check is refused with its number, CMD_ERR and, for the first, ROLE_LIMIT. A
  command while one is under way is refused with code 10. On the standby of a pair the three commands answer code 0 and have no effect.
  FLOW_CMD_APPLY makes the entry the staged one, or empty, with CMD_DONE. CF_SCHEDULE, where a container frame is due on a subcarrier that
  carries this device's frames and may start one, awake and not the standby of a pair: a leaf whose management container is due there
  sends it, else the flow that R192's steps pick sends its next frame with its SEQ, which advances, and spends its token if it has one,
  else an idle frame goes. TOKEN_CAP accrues tokens up to the cap of 16, with RATE_SHORT at it. CLIENT_INGRESS of a client in UP, for a
  flow that takes it and whose input has not failed, appends what fits; what does not sets ING_OVF. QDR-IV, port p < 2: an enable with a
  legal clock and regions trains the fitted ports, one with an illegal clock sets CFG_ERR and one with illegal regions REGION_ERR. A port
  that has trained is OK, one that has failed shows its step; a retrain begins again on fitted ports neither in use nor training; a
  re-centring moves each bit by at most one step. Parity errors are counted, and the head frame of the flow that the word belongs to is
  marked; a port over ERR_THR fails, and the frames stored in it are marked errored. -/
def Obligations.FlowAndMemoryResults : Prop :=
  (∀ (s : State) (f : Nat) (w : Nat),
      takes .FLW_CMD s → Flw.busy s = false → f % 4096 ≤ 3071 → w < 5 → s.passive = false →
        runs (.flowRead f) s (fun t => t.get F.FLW_STAGE_DATA w = s.get F.FLW_FT_DATA (f % 4096) w ∧ t.on F.FLW_INT_CAUSE_CMD_DONE ∧
        t.get F.FLW_CMD_STAT_ERR_CODE = 0)) ∧
  (∀ (s : State) (f : Nat),
      takes .FLW_CMD s → Flw.busy s = false → f % 4096 ≤ 3071 → Flw.check s (f % 4096) (Flw.staged s) = 0 → s.passive = false →
        runs (.flowWrite f) s (fun t => Flw.busy t ∧ t.get H.FLW_OP = 1 ∧ t.get H.FLW_OP_FLOW = f % 4096)) ∧
  (∀ (s : State) (f : Nat),
      takes .FLW_CMD s → Flw.busy s = false → f % 4096 ≤ 3071 → Flw.check s (f % 4096) (Flw.staged s) ≠ 0 → s.passive = false →
        runs (.flowWrite f) s (fun t => Flw.busy t = false ∧ t.get F.FLW_CMD_STAT_ERR_CODE = Flw.check s (f % 4096) (Flw.staged s) ∧
        t.on F.FLW_INT_CAUSE_CMD_ERR ∧ (Flw.check s (f % 4096) (Flw.staged s) = 1 → t.on F.SYS_INT_CAUSE_ROLE_LIMIT = true))) ∧
  (∀ (s : State) (f : Nat),
      takes .FLW_CMD s → Flw.busy s → s.passive = false → runs (.flowWrite f) s (fun t => t.get F.FLW_CMD_STAT_ERR_CODE = 10 ∧
        t.get H.FLW_OP = s.get H.FLW_OP ∧ t.get H.FLW_OP_FLOW = s.get H.FLW_OP_FLOW ∧ Flw.busy t)) ∧
  (∀ (s : State) (f : Nat),
      takes .FLW_CMD s → Flw.busy s → s.passive = false → runs (.flowRemove f) s (fun t => t.get F.FLW_CMD_STAT_ERR_CODE = 10 ∧
        t.get H.FLW_OP = s.get H.FLW_OP ∧ t.get H.FLW_OP_FLOW = s.get H.FLW_OP_FLOW ∧ Flw.busy t)) ∧
  (∀ (s : State) (f : Nat),
      takes .FLW_CMD s → Flw.busy s → s.passive = false → runs (.flowRead f) s (fun t => t.get F.FLW_CMD_STAT_ERR_CODE = 10 ∧
        t.get H.FLW_OP = s.get H.FLW_OP ∧ t.get H.FLW_OP_FLOW = s.get H.FLW_OP_FLOW ∧ Flw.busy t)) ∧
  (∀ (s : State) (f : Nat),
      takes .FLW_CMD s → Flw.busy s = false → f % 4096 ≤ 3071 → s.passive = false → runs (.flowRemove f) s (fun t => Flw.busy t ∧
        t.get H.FLW_OP = 2 ∧ t.get H.FLW_OP_FLOW = f % 4096)) ∧
  (∀ (s : State) (f : Nat),
      takes .FLW_CMD s → s.passive → runs (.flowRemove f) s (fun t => t.get F.FLW_CMD_STAT_ERR_CODE = 0 ∧
        t.get H.FLW_OP = s.get H.FLW_OP ∧ Flw.busy t = Flw.busy s ∧ t.flw = s.flw ∧ t.get F.FLW_STAGE_DATA 0 = s.get F.FLW_STAGE_DATA 0)) ∧
  (∀ (s : State) (f : Nat),
      takes .FLW_CMD s → s.passive → runs (.flowWrite f) s (fun t => t.get F.FLW_CMD_STAT_ERR_CODE = 0 ∧
        t.get H.FLW_OP = s.get H.FLW_OP ∧ Flw.busy t = Flw.busy s ∧ t.flw = s.flw ∧ t.get F.FLW_STAGE_DATA 0 = s.get F.FLW_STAGE_DATA 0)) ∧
  (∀ (s : State) (f : Nat),
      takes .FLW_CMD s → s.passive → runs (.flowRead f) s (fun t => t.get F.FLW_CMD_STAT_ERR_CODE = 0 ∧ t.get H.FLW_OP = s.get H.FLW_OP ∧
        Flw.busy t = Flw.busy s ∧ t.flw = s.flw ∧ t.get F.FLW_STAGE_DATA 0 = s.get F.FLW_STAGE_DATA 0)) ∧
  (∀ (s : State) (now w : Nat),
      Flw.busy s → s.get H.FLW_OP = 1 → s.get H.FLW_OP_FLOW < 3072 → w < 5 →
        runs (.flowCmdApply now) s (fun t => t.get F.FLW_FT_DATA (s.get H.FLW_OP_FLOW) w = (Flw.staged s).getD w 0 ∧ Flw.busy t = false ∧
        t.on F.FLW_INT_CAUSE_CMD_DONE)) ∧
  (∀ (s : State) (now w : Nat),
      Flw.busy s → s.get H.FLW_OP = 2 → Flw.en (Flw.entry s (s.get H.FLW_OP_FLOW)) → w < 5 →
        runs (.flowCmdApply now) s (fun t => t.get F.FLW_FT_DATA (s.get H.FLW_OP_FLOW) w = 0 ∧ Flw.busy t = false ∧
        t.on F.FLW_INT_CAUSE_CMD_DONE)) ∧
  (∀ (s : State) (k now : Nat),
      s.on F.LTX_STAT_ACTIVE → Rest.awake s → s.passive = false → Flw.carries s k → Flw.startsNone s k = false →
        s.get H.FRM_CF_DUE k ≠ 0 → (s.leaf && s.on H.FRM_MGMT_DUE && Flw.mgmtSubcarrier s == some k) = false → picked s k now = none →
        runs (.cfSchedule k now) s (fun t => Emit.cf k (Cry.headerBytes ({ type := 3, flow := 0xFFF, payload := Cry.zeros 5984 } : Cf))
        ({ type := 3, flow := 0xFFF, payload := Cry.zeros 5984 } : Cf) ∈ t.out ∧ t.get H.FRM_CF_DUE k = s.get H.FRM_CF_DUE k - 1)) ∧
  (∀ (s : State) (k now : Nat) (f : Nat) (spend : Bool),
      s.on F.LTX_STAT_ACTIVE → Rest.awake s → s.passive = false → Flw.carries s k → Flw.startsNone s k = false →
        s.get H.FRM_CF_DUE k ≠ 0 → (s.leaf && s.on H.FRM_MGMT_DUE && Flw.mgmtSubcarrier s == some k) = false → picked s k now = some (f,
        spend) → f < 3072 → runs (.cfSchedule k now) s (fun t => t.get H.FRM_CF_DUE k = s.get H.FRM_CF_DUE k - 1 ∧
        t.get H.FLW_TX_SEQ f = (s.get H.FLW_TX_SEQ f + 1) % 65536 ∧ (spend = true →
        t.get H.FLW_TOK f = (due s k now).get H.FLW_TOK f - Flw.token) ∧
        t.out.any
        (fun o => match o with | .cf i h x => i == k && h == Cry.headerBytes x && x.seq == s.get H.FLW_TX_SEQ f && x.flow == Flw.lflow (Flw.entry s f) && x.type == Flw.cfType (due s k now) f spend | _ => false))) ∧
  (∀ (s : State) (k now : Nat),
      s.on F.LTX_STAT_ACTIVE → Rest.awake s → s.passive = false → Flw.carries s k → Flw.startsNone s k = false →
        s.get H.FRM_CF_DUE k ≠ 0 → s.leaf → s.on H.FRM_MGMT_DUE → Flw.mgmtSubcarrier s = some k →
        runs (.cfSchedule k now) s (fun t => t.on H.FRM_MGMT_DUE = false ∧
        t.out.any
        (fun o => match o with | .cf i h x => i == k && h == Cry.headerBytes x && x.type == 2 && x.flow == 0xFFF && x.payload.length == 5984 | _ => false))) ∧
  (∀ (s : State) (f now : Nat),
      f < 3072 → Flw.en (Flw.entry s f) → Flw.txEn (Flw.entry s f) → runs (.tokenCap f now) s (fun t => t.get H.FLW_TOK f = min
        Flw.tokenCap (s.get H.FLW_TOK f + Flw.rate (Flw.entry s f) * (now - s.get H.FLW_TOK_T f)) ∧
        (Flw.tokenCap ≤ s.get H.FLW_TOK f + Flw.rate (Flw.entry s f) * (now - s.get H.FLW_TOK_T f) →
        t.on F.FLW_FSTAT_RATE_SHORT f = true ∧ t.on F.FLW_INT_CAUSE_RATE_SHORT = true))) ∧
  (∀ (s : State) (c vlan slot errored : Nat) (data : List Nat) (f : Nat),
      c < 32 → Hsl.state s c = 6 → s.passive = false → Flw.taker s c vlan slot = some f → Flw.txEn (Flw.entry s f) →
        Flw.inputFailed s (Flw.entry s f) = false → (Flw.ingress s f).length + data.length ≤ 2 * Flw.capacity (Flw.entry s f) →
        runs (.clientIngress c vlan slot errored data) s (fun t => Flw.ingress t f = Flw.ingress s f ++ data)) ∧
  (∀ (s : State) (c vlan slot errored : Nat) (data : List Nat) (f : Nat),
      c < 32 → Hsl.state s c = 6 → s.passive = false → Flw.taker s c vlan slot = some f → Flw.txEn (Flw.entry s f) →
        Flw.inputFailed s (Flw.entry s f) = false → 2 * Flw.capacity (Flw.entry s f) < (Flw.ingress s f).length + data.length →
        runs (.clientIngress c vlan slot errored data) s (fun t => t.on F.FLW_FSTAT_ING_OVF f ∧ t.on F.FLW_INT_CAUSE_ING_OVF ∧
        Flw.ingress t f = (if Hsl.isFlexo (Hsl.typeOf s c) then Flw.ingress s f ++ data.take (2 * Flw.capacity (Flw.entry s f) -
        (Flw.ingress s f).length) else Flw.ingress s f))) ∧
  (∀ (s : State) (p : Nat),
      takes .QDM_CTRL s → s.on F.QDM_CTRL_EN = false → 400 ≤ s.get F.QDM_CTRL_FREQ_MHZ → s.get F.QDM_CTRL_FREQ_MHZ ≤ 1066 →
        (List.range 2).all (fun q => Qdm.regionsOk s q && (!Qdm.needed s q || s.on F.QDM_PORT_CFG_EN q)) → p < 2 →
        runs .qdmEnable s (fun t => t.on F.QDM_CTRL_EN ∧ (s.on F.QDM_PORT_CFG_EN p = true → t.bit H.QDM_TRAINING p = true ∧
        t.get F.QDM_TRAIN_STAT_OK p = 0))) ∧
  (∀ (s : State),
      takes .QDM_CTRL s → s.on F.QDM_CTRL_EN = false → (s.get F.QDM_CTRL_FREQ_MHZ < 400 ∨ 1066 < s.get F.QDM_CTRL_FREQ_MHZ) →
        runs .qdmEnable s (fun t => t.on F.QDM_CTRL_EN = false ∧ t.on F.QDM_INT_CAUSE_CFG_ERR)) ∧
  (∀ (s : State),
      takes .QDM_CTRL s → s.on F.QDM_CTRL_EN = false → 400 ≤ s.get F.QDM_CTRL_FREQ_MHZ → s.get F.QDM_CTRL_FREQ_MHZ ≤ 1066 →
        (List.range 2).any (fun q => !Qdm.regionsOk s q || (Qdm.needed s q && !s.on F.QDM_PORT_CFG_EN q)) →
        runs .qdmEnable s (fun t => t.on F.QDM_CTRL_EN = false ∧ t.on F.QDM_INT_CAUSE_REGION_ERR)) ∧
  (∀ (s : State) (p step : Nat),
      p < 2 → s.bit H.QDM_TRAINING p → step = 0 → runs (.qdrTrainDone p step) s (fun t => t.on F.QDM_TRAIN_STAT_OK p ∧
        t.bit H.QDM_TRAINING p = false)) ∧
  (∀ (s : State) (p step : Nat),
      p < 2 → s.bit H.QDM_TRAINING p → step ≠ 0 → runs (.qdrTrainDone p step) s (fun t => t.on F.QDM_TRAIN_STAT_FAIL p ∧
        t.get F.QDM_TRAIN_STAT_STEP p = step % 8 ∧ t.on F.QDM_INT_CAUSE_TRAIN_FAIL)) ∧
  (∀ (s : State) (p : Nat),
      takes .QDM_CTRL s → s.on F.QDM_CTRL_EN → p < 2 → s.on F.QDM_PORT_CFG_EN p → Qdm.inUse s p = false →
        s.bit H.QDM_TRAINING p = false → runs .qdrRetrain s (fun t => t.bit H.QDM_TRAINING p ∧ t.on F.QDM_TRAIN_STAT_OK p = false ∧
        t.on F.QDM_TRAIN_STAT_FAIL p = false)) ∧
  (∀ (s : State) (p : Nat) (moves : List Nat) (j : Nat),
      p < 2 → Qdm.inUse s p → j < 36 → j < moves.length → runs (.qdrRecentre p moves) s (fun t => t.get H.QDM_CENTRE p j = unsigned 8
        (s.sget H.QDM_CENTRE p j + (if moves.getD j 0 = 1 then 1 else if moves.getD j 0 = 2 then -1 else 0)))) ∧
  (∀ (s : State) (p addr f : Nat),
      p < 2 → runs (.qdrParityError p addr f) s (fun t => t.get F.QDM_ERR_CNT_DATA p = min 65535 (s.get F.QDM_ERR_CNT_DATA p + 1) ∧
        t.get F.QDM_ERR_ADDR_ADDR p = addr % 2 ^ 23 ∧ t.on F.QDM_INT_CAUSE_DATA_PERR ∧ ((Frm.slip t f).headD ⟨0, 0,
        { err := true }⟩).frame.err = true)) ∧
  (∀ (s : State) (p : Nat),
      p < 2 → runs (.addrParityError p) s (fun t => t.get F.QDM_ERR_CNT_ADDR p = min 65535 (s.get F.QDM_ERR_CNT_ADDR p + 1) ∧
        t.on F.QDM_INT_CAUSE_ADDR_PERR)) ∧
  (∀ (s : State) (p : Nat),
      Qdm.failing s p → runs (.qdrPortFail p) s (fun t => t.bit F.QDM_STAT_IN_USE p = false ∧ t.bit F.QDM_STAT_PORT_FAIL p ∧
        t.on F.QDM_INT_CAUSE_PORT_FAIL ∧ (∀ g, ∀ y ∈ Frm.slip t g, y.port = p → y.frame.err = true)))

/-- The vault of an Oryx device. A read of the free lock by a master that may manage keys makes it the owner and returns 0; coinciding
  readers set CONTENDED. The owner's write releases the lock and clears the key data. A key command of the owner while none is running
  makes BUSY 1 and leaves the code that completion will show; with no alarm present: LOAD writes key and salt into a slot that no enabled
  flow transmits with (else code 3), ROLL of a valid slot waits to make its phase the transmit phase (of an empty one code 4), CLEAR
  empties a slot that no enabled flow transmits with (else code 3), CLEAR_CTX empties both slots of a context that no enabled flow uses
  and returns its counters to 0 (else code 5), an undefined OP has code 1, and a context above 3,071 code 2 (shown of LOAD and ROLL). With
  an alarm present the code is 6, with a command running ERR_CODE 7 is shown at once and the key data is cleared, and a master that is not
  the owner sets NOT_OWNER and does nothing else (these three shown of LOAD). KEY_CMD_COMPLETE shows the code with CMD_DONE or CMD_ERR,
  clears the key data and makes a ROLL that waits active. An alarm that acts empties the vault, is recorded in ERASE_STAT and breaks the
  lock. An active device of a pair mirrors the counters of every context. -/
def Obligations.KeyVaultCommandResults : Prop :=
  (∀ (s : State) (master : Nat) (user : Bool) (rivals : List Nat),
      Bus.inReset s (RegId.barAddr .CRY_LOCK 0 0 0) = false → Mbx.mayManage ⟨master, user⟩ → s.get F.CRY_LOCK_STAT_OWNER = 0 →
        master < 256 → runs (.cryLockAcquire master user rivals) s (fun t => t.get F.CRY_LOCK_STAT_OWNER = master ∧
        (.readData master 0x300004 0 : Emit) ∈ t.out ∧ (rivals ≠ [] → t.on F.CRY_LOCK_STAT_CONTENDED = true))) ∧
  (∀ (s : State) (master : Nat) (user : Bool),
      takes .CRY_LOCK s → s.get F.CRY_LOCK_STAT_OWNER = master → master ≠ 0 →
        runs (.cryLockRelease master user) s (fun t => t.get F.CRY_LOCK_STAT_OWNER = 0 ∧
        (List.range 8).all (fun i => t.get F.CRY_KEY_DATA_KEY i == 0) = true ∧ t.get F.CRY_KEY_SALT_SALT = 0)) ∧
  (∀ (s : State) (master : Nat) (user : Bool) (ctx ph : Nat) (i : Nat),
      takes .CRY_KEY_CMD s → s.get F.CRY_LOCK_STAT_OWNER = master → s.on F.CRY_KEY_STAT_BUSY = false →
        s.on F.CRY_ERASE_STAT_ALARM_NOW = false → ctx ≤ 3071 → ph < 2 → (Cry.used s ctx && s.get H.CRY_TX_PH ctx == ph) = false → i < 8 →
        runs (.keyLoad master user ctx ph) s (fun t => t.on F.CRY_KEY_STAT_BUSY ∧ t.get H.CRY_RESULT = 0 ∧
        t.get H.CRY_KEY ctx ph i = s.get F.CRY_KEY_DATA_KEY i ∧ t.get H.CRY_SALT ctx ph = s.get F.CRY_KEY_SALT_SALT ∧
        t.on H.CRY_VALID ctx ph)) ∧
  (∀ (s : State) (master : Nat) (user : Bool) (ctx ph : Nat),
      takes .CRY_KEY_CMD s → s.get F.CRY_LOCK_STAT_OWNER = master → s.on F.CRY_KEY_STAT_BUSY = false →
        s.on F.CRY_ERASE_STAT_ALARM_NOW = false → ctx ≤ 3071 → ph < 2 → s.on H.CRY_VALID ctx ph →
        runs (.keyRoll master user ctx ph) s (fun t => t.on F.CRY_KEY_STAT_BUSY ∧ t.get H.CRY_RESULT = 0 ∧
        t.get H.CRY_ROLL = 1 + 2 * ctx + ph ∧ t.get H.CRY_TX_PH ctx = s.get H.CRY_TX_PH ctx)) ∧
  (∀ (s : State) (master : Nat) (user : Bool) (ctx ph : Nat) (i : Nat),
      takes .CRY_KEY_CMD s → s.get F.CRY_LOCK_STAT_OWNER = master → s.on F.CRY_KEY_STAT_BUSY = false →
        s.on F.CRY_ERASE_STAT_ALARM_NOW = false → ctx ≤ 3071 → ph < 2 → (Cry.used s ctx && s.get H.CRY_TX_PH ctx == ph) = false → i < 8 →
        runs (.keyClear master user ctx ph) s (fun t => t.on F.CRY_KEY_STAT_BUSY ∧ t.get H.CRY_RESULT = 0 ∧
        t.on H.CRY_VALID ctx ph = false ∧ t.get H.CRY_KEY ctx ph i = 0)) ∧
  (∀ (s : State) (master : Nat) (user : Bool) (ctx : Nat),
      takes .CRY_KEY_CMD s → s.get F.CRY_LOCK_STAT_OWNER = master → s.on F.CRY_KEY_STAT_BUSY = false →
        s.on F.CRY_ERASE_STAT_ALARM_NOW = false → ctx ≤ 3071 → Cry.used s ctx = false →
        runs (.keyClearCtx master user ctx) s (fun t => t.on F.CRY_KEY_STAT_BUSY ∧ t.get H.CRY_RESULT = 0 ∧
        t.on H.CRY_VALID ctx 0 = false ∧ t.on H.CRY_VALID ctx 1 = false ∧ t.get H.CRY_NEXT ctx = 0 ∧ t.get H.CRY_LAST ctx = 0 ∧
        t.on H.CRY_SYNC ctx = false)) ∧
  (∀ (s : State) (master : Nat) (user : Bool) (ctx ph op : Nat),
      takes .CRY_KEY_CMD s → s.get F.CRY_LOCK_STAT_OWNER = master → s.on F.CRY_KEY_STAT_BUSY = false →
        s.on F.CRY_ERASE_STAT_ALARM_NOW = false → (op = 0 ∨ op = 5 ∨ op = 6 ∨ op = 7) →
        runs (.keyCmdUndefined master user ctx ph op) s (fun t => t.on F.CRY_KEY_STAT_BUSY ∧ t.get H.CRY_RESULT = 1)) ∧
  (∀ (s : State) (master : Nat) (user : Bool) (ctx ph : Nat),
      takes .CRY_KEY_CMD s → s.get F.CRY_LOCK_STAT_OWNER = master → s.on F.CRY_KEY_STAT_BUSY = false →
        s.on F.CRY_ERASE_STAT_ALARM_NOW = false → ctx ≤ 3071 → ph < 2 → Cry.used s ctx → s.get H.CRY_TX_PH ctx = ph →
        runs (.keyLoad master user ctx ph) s (fun t => t.on F.CRY_KEY_STAT_BUSY ∧ t.get H.CRY_RESULT = 3)) ∧
  (∀ (s : State) (master : Nat) (user : Bool) (ctx ph : Nat),
      takes .CRY_KEY_CMD s → s.get F.CRY_LOCK_STAT_OWNER = master → s.on F.CRY_KEY_STAT_BUSY = false →
        s.on F.CRY_ERASE_STAT_ALARM_NOW = false → 3071 < ctx % 4096 → runs (.keyLoad master user ctx ph) s (fun t => t.on
        F.CRY_KEY_STAT_BUSY ∧ t.get H.CRY_RESULT = 2)) ∧
  (∀ (s : State) (master : Nat) (user : Bool) (ctx ph : Nat),
      takes .CRY_KEY_CMD s → s.get F.CRY_LOCK_STAT_OWNER = master → s.on F.CRY_KEY_STAT_BUSY = false →
        s.on F.CRY_ERASE_STAT_ALARM_NOW = false → 3071 < ctx % 4096 → runs (.keyRoll master user ctx ph) s (fun t => t.on
        F.CRY_KEY_STAT_BUSY ∧ t.get H.CRY_RESULT = 2)) ∧
  (∀ (s : State) (master : Nat) (user : Bool) (ctx ph : Nat),
      takes .CRY_KEY_CMD s → s.get F.CRY_LOCK_STAT_OWNER = master → s.on F.CRY_KEY_STAT_BUSY = false →
        s.on F.CRY_ERASE_STAT_ALARM_NOW = false → ctx ≤ 3071 → ph < 2 → s.on H.CRY_VALID ctx ph = false →
        runs (.keyRoll master user ctx ph) s (fun t => t.on F.CRY_KEY_STAT_BUSY ∧ t.get H.CRY_RESULT = 4)) ∧
  (∀ (s : State) (master : Nat) (user : Bool) (ctx ph : Nat),
      takes .CRY_KEY_CMD s → s.get F.CRY_LOCK_STAT_OWNER = master → s.on F.CRY_KEY_STAT_BUSY = false →
        s.on F.CRY_ERASE_STAT_ALARM_NOW = false → ctx ≤ 3071 → ph < 2 → Cry.used s ctx → s.get H.CRY_TX_PH ctx = ph →
        runs (.keyClear master user ctx ph) s (fun t => t.on F.CRY_KEY_STAT_BUSY ∧ t.get H.CRY_RESULT = 3)) ∧
  (∀ (s : State) (master : Nat) (user : Bool) (ctx : Nat),
      takes .CRY_KEY_CMD s → s.get F.CRY_LOCK_STAT_OWNER = master → s.on F.CRY_KEY_STAT_BUSY = false →
        s.on F.CRY_ERASE_STAT_ALARM_NOW = false → ctx ≤ 3071 → Cry.used s ctx →
        runs (.keyClearCtx master user ctx) s (fun t => t.on F.CRY_KEY_STAT_BUSY ∧ t.get H.CRY_RESULT = 5)) ∧
  (∀ (s : State) (master : Nat) (user : Bool) (ctx ph : Nat),
      takes .CRY_KEY_CMD s → s.get F.CRY_LOCK_STAT_OWNER = master → s.on F.CRY_KEY_STAT_BUSY = false → s.on F.CRY_ERASE_STAT_ALARM_NOW →
        runs (.keyLoad master user ctx ph) s (fun t => t.on F.CRY_KEY_STAT_BUSY ∧ t.get H.CRY_RESULT = 6)) ∧
  (∀ (s : State) (master : Nat) (user : Bool) (ctx ph : Nat),
      takes .CRY_KEY_CMD s → s.get F.CRY_LOCK_STAT_OWNER = master → s.on F.CRY_KEY_STAT_BUSY →
        runs (.keyLoad master user ctx ph) s (fun t => t.get F.CRY_KEY_STAT_ERR_CODE = 7 ∧ t.on F.CRY_INT_CAUSE_CMD_ERR ∧
        t.get H.CRY_RESULT = s.get H.CRY_RESULT ∧ t.on F.CRY_KEY_STAT_BUSY ∧
        (List.range 8).all (fun i => t.get F.CRY_KEY_DATA_KEY i == 0) = true)) ∧
  (∀ (s : State) (master : Nat) (user : Bool) (ctx ph : Nat),
      takes .CRY_KEY_CMD s → s.get F.CRY_LOCK_STAT_OWNER ≠ master → runs (.keyLoad master user ctx ph) s (fun t => t.on
        F.CRY_INT_CAUSE_NOT_OWNER ∧ t.get F.CRY_KEY_STAT_BUSY = s.get F.CRY_KEY_STAT_BUSY ∧ t.get H.CRY_RESULT = s.get H.CRY_RESULT)) ∧
  (∀ (s : State),
      s.on F.CRY_KEY_STAT_BUSY → runs .keyCmdComplete s (fun t => t.on F.CRY_KEY_STAT_BUSY = false ∧
        t.get F.CRY_KEY_STAT_ERR_CODE = s.get H.CRY_RESULT ∧ (List.range 8).all (fun i => t.get F.CRY_KEY_DATA_KEY i == 0) = true ∧
        (s.get H.CRY_RESULT = 0 → t.on F.CRY_INT_CAUSE_CMD_DONE = true) ∧ (s.get H.CRY_RESULT ≠ 0 → t.on F.CRY_INT_CAUSE_CMD_ERR = true))) ∧
  (∀ (s : State) (ctx ph : Nat),
      s.on F.CRY_KEY_STAT_BUSY → s.get H.CRY_RESULT = 0 → s.get H.CRY_ROLL = 1 + 2 * ctx + ph → ctx ≤ 3071 → ph < 2 →
        runs .keyCmdComplete s (fun t => t.on F.CRY_KEY_STAT_BUSY = false ∧ t.get H.CRY_TX_PH ctx = ph ∧ t.get H.CRY_ROLL = 0)) ∧
  (∀ (s : State) (cause : Nat) (present : Bool) (c ph i : Nat),
      Cry.alarmActs s cause → c ≤ 3071 → ph < 2 → i < 8 → runs (.erasure cause present) s (fun t => t.on H.CRY_VALID c ph = false ∧
        t.get H.CRY_KEY c ph i = 0 ∧ t.get H.CRY_NEXT c = 0 ∧ t.bit F.CRY_ERASE_STAT_CAUSE cause ∧
        t.get F.CRY_ERASE_STAT_COUNT = min (2 ^ F.CRY_ERASE_STAT_COUNT.width - 1) (s.get F.CRY_ERASE_STAT_COUNT + 1) ∧
        t.on F.CRY_INT_CAUSE_ERASED ∧ t.on F.CRY_ERASE_STAT_ALARM_NOW = present ∧ t.get F.CRY_LOCK_STAT_OWNER = 0)) ∧
  (∀ (s : State) (c : Nat),
      s.get F.PEER_STAT_STATE = 4 → c < 3072 → runs .cryCounterMirror s (fun t => (.peer 7 (Cry.mirrorWords s c) : Emit) ∈ t.out))

/-- Synchronisation. An input, not dormant, that shows no activity goes to FAILED, and if it was selected nothing is selected and the loop
  neither acquires nor is locked. One in FAILED whose conditions have ended goes to WTR, and from there with its WTR_S good seconds to
  QUALIFIED; DRIFT_WATCH ends in QUALIFIED the same way; DQ_S seconds out of tolerance, or three beyond twice it, disqualify. QL_TMO makes
  the quality level of an input FAILED, of the line as of another; a write of REF_QL sets it. SELECTION while awake makes the choice of
  R232 the selected input, and the loop follows: FREERUN while disabled, holdover or FREERUN where forced or where nothing is selected,
  ACQUIRE for another input or from FREERUN and HOLDOVER. LOOP_LOCK ends ACQUIRE. A sample whose quarantine is over enters the history of
  at most 3,600 seconds; a fit of the temperature coefficients records its order. A tick of 10 ms sets the sub-second count; a one-second
  tick counts the second, or takes the time set. A PPS_IN edge is measured against the last tick, and one that alignment waits for makes a
  tick; an expiry of 1.1 s clears VALID. -/
def Obligations.ReferenceCommandResults : Prop :=
  (∀ (s : State) (i lost : Nat),
      i < 8 → Syn.state (Syn.refresh s) i ≠ 0 → Syn.dormant s i = false → lost ≠ 0 →
        runs (.refFail i lost) s (fun t => Syn.state t i = 0 ∧ t.on F.SYN_INT_CAUSE_REF_FAIL ∧ (Syn.sel s = i → Syn.sel t = 15 ∧
        Syn.loop t ≠ 1 ∧ Syn.loop t ≠ 2))) ∧
  (∀ (s : State) (i : Nat),
      s.on F.SYN_CTRL_EN → i < 8 → Syn.state s i = 0 → Syn.dormant s i = false → Syn.failing (Syn.refresh s) i = false →
        runs (.refRestore i) s (fun t => Syn.state t i = 1)) ∧
  (∀ (s : State) (i : Nat),
      i < 8 → Syn.state s i = 1 → s.get F.SYN_QUAL_CFG_WTR_S ≤ s.get H.SYN_GOOD i → runs (.wtrComplete i) s (fun t => Syn.state t i = 2 ∧
        t.on F.SYN_INT_CAUSE_REF_QUAL)) ∧
  (∀ (s : State) (i : Nat),
      i < 8 → Syn.state s i = 3 → s.get F.SYN_QUAL_CFG_WTR_S ≤ s.get H.SYN_GOOD i → runs (.driftWatchEnd i) s (fun t => Syn.state t i = 2)) ∧
  (∀ (s : State) (i : Nat),
      i < 8 → (Syn.state s i = 2 ∨ Syn.state s i = 3) → (max 1 (s.get F.SYN_QUAL_CFG_DQ_S) ≤ s.get H.SYN_OVER i ∨
        3 ≤ s.get H.SYN_OVER2 i) → runs (.refDq i) s (fun t => Syn.state t i = 4 ∧ t.on F.SYN_INT_CAUSE_REF_DQ)) ∧
  (∀ (s : State) (i seconds : Nat),
      i < 8 → s.get F.SYN_QL_CFG_QL_TMO ≠ 0 → s.get F.SYN_QL_CFG_QL_TMO ≤ seconds →
        (s.on F.SYN_REF_CFG_QL_SRC i && (i == 2 || i == 7)) = false → s.on H.SYN_QL_OK i →
        runs (.qlTmo i seconds) s (fun t => t.get F.SYN_REF_STAT_QL_EFF i = 16 ∧ t.on F.SYN_INT_CAUSE_QL_TMO)) ∧
  (∀ (s : State) (seconds : Nat),
      s.get F.SYN_QL_CFG_QL_TMO ≠ 0 → s.get F.SYN_QL_CFG_QL_TMO ≤ seconds → s.on F.SYN_REF_CFG_QL_SRC 2 →
        s.on F.FRM_SSM_RX_VALID = false → s.on H.SYN_LINE_OK → runs (.qlTmo 2 seconds) s (fun t => t.get F.SYN_REF_STAT_QL_EFF 2 = 16 ∧
        t.on F.SYN_INT_CAUSE_QL_TMO)) ∧
  (∀ (s : State) (i value : Nat),
      takes .SYN_REF_QL s → i < 8 → runs (.refQlWrite i value) s (fun t => t.get F.SYN_REF_QL_QL i = value % 16 ∧ t.on H.SYN_QL_OK i ∧
        ((s.on F.SYN_REF_CFG_QL_SRC i && (i == 2 || i == 7)) = false → t.get F.SYN_REF_STAT_QL_EFF i = Syn.known s (value % 16)))) ∧
  (∀ (s : State),
      Rest.awake s → runs .selection s (fun t => Syn.sel t = Syn.choice (Syn.refresh s) ∧ (s.on F.SYN_CTRL_EN = false → Syn.loop t = 0) ∧
        (s.on F.SYN_CTRL_EN = true → (s.on F.SYN_CTRL_FORCE_HO = true ∨ (Syn.sel t = 15 ∧ (Syn.loop s = 1 ∨ Syn.loop s = 2)) →
        Syn.loop t = (if s.on F.SYN_STAT_MODEL_VALID then 3 else 0))) ∧ (s.on F.SYN_CTRL_EN = true → s.on F.SYN_CTRL_FORCE_HO = false →
        Syn.sel t ≠ 15 → (Syn.sel t ≠ Syn.sel s ∨ Syn.loop s = 0 ∨ Syn.loop s = 3) → Syn.loop t = 1))) ∧
  (∀ (s : State),
      Syn.loop s = 1 → runs .loopLock s (fun t => Syn.loop t = 2 ∧ t.on F.SYN_INT_CAUSE_LOOP_CHG)) ∧
  (∀ (s : State) (x : Sample) (rest : List Sample),
      s.syn.quarantine = x :: rest → x.second + s.get F.SYN_HO_CFG_QUAR_S ≤ s.syn.seconds →
        runs .quarantineExit s (fun t => t.syn.quarantine = rest ∧ t.syn.history = (s.syn.history ++ [x]).drop (s.syn.history.length + 1
        - 3600))) ∧
  (∀ (s : State) (k : Nat),
      s.get F.SYN_HO_MODE_TC_MODE = 1 → k = (if Q.le (Q.int 6) (Syn.span s.syn.history) then 3 else 1) →
        Q.le (Q.int 2) (Syn.span s.syn.history) → (fitLeast (k + 1) (s.syn.history.map (fun x => (([Q.int 1, Q.sub x.theta (Q.int 25),
        Q.mul (Q.sub x.theta (Q.int 25)) (Q.sub x.theta (Q.int 25)), Q.mul (Q.sub x.theta (Q.int 25)) (Q.mul (Q.sub x.theta (Q.int 25))
        (Q.sub x.theta (Q.int 25)))].take (k + 1)), Q.sub (Q.mk' x.f 1000) (Syn.ageTerm s x.time))))).isSome →
        runs .tcFit s (fun t => t.get F.SYN_HO_STAT_TC_ORDER = k)) ∧
  (∀ (s : State) (ns : Nat) (d : Second),
      s.on F.SYN_PPS_CFG_IN_EN → runs (.ppsInEdge ns d) s (fun t => t.sget F.SYN_PPS_IN_ERR_ERR = (if ns % 1000000000 ≤ 500000000 then
        ((ns % 1000000000 : Nat) : Int) else ((ns % 1000000000 : Nat) : Int) - 1000000000) ∧ t.on F.SYN_PPS_IN_ERR_VALID)) ∧
  (∀ (s : State) (ns : Nat) (d : Second),
      s.on F.SYN_TIME_CTRL_ALIGN_PEND → runs (.ppsInEdge ns d) s (fun t => t.on F.SYN_TIME_CTRL_ALIGN_PEND = false ∧
        t.on F.SYN_INT_CAUSE_PPS_ALIGN ∧ t.get F.SYN_TIME_LO_VAL = 0 ∧ t.syn.seconds = s.syn.seconds + 1)) ∧
  (∀ (s : State) (ms : Nat),
      1100 ≤ ms → runs (.ppsInValidExpiry ms) s (fun t => t.on F.SYN_PPS_IN_ERR_VALID = false)) ∧
  (∀ (s : State) (d : Second),
      s.on F.SYN_TIME_CTRL_SET_PEND = false → runs (.secondTick d) s (fun t => t.get F.SYN_TIME_HI_VAL = (s.get F.SYN_TIME_HI_VAL + 1) %
        2 ^ F.SYN_TIME_HI_VAL.width ∧ t.get F.SYN_TIME_LO_VAL = 0 ∧ t.syn.seconds = s.syn.seconds + 1)) ∧
  (∀ (s : State) (d : Second),
      s.on F.SYN_TIME_CTRL_SET_PEND → runs (.secondTick d) s (fun t => t.get F.SYN_TIME_HI_VAL = s.get F.SYN_TIME_SET_S_VAL ∧
        t.on F.SYN_TIME_CTRL_SET_PEND = false ∧ t.on F.SYN_INT_CAUSE_TIME_SET)) ∧
  (∀ (s : State) (n ties : Nat) (otu : List (Nat × OtuFrames)) (levels : List (Nat × Nat × Nat)),
    runs (.tenMsTick n otu levels ties) s (fun t => t.get F.SYN_TIME_LO_VAL = n % 100 * 10000000))

/-- A write of PSTEP adds its signed amount to the pending step while the sum stays within 500 ns; beyond that PSTEP_RANGE is set and the
  step stays, and in a leaf output 0 sets ROLE_LIMIT; PSTEP_DONE clears it. For a master that may open a loop the first key word, then the
  second written by the same master, lets it open an output's closed loop within 1 ms, output 0 of a leaf excepted: it is the owner, and
  the frequency starts from the loop's. Any other key word, and an opening without the keys, sets PRIV_ERR and starts the sequence anew.
  The owner alone writes the frequency and closes the loop, which then ramps for 100 ticks of 10 ms; another master sets PRIV_ERR;
  MAX_OPEN_S closes it with PRIV_CLOSED. TIME_SET and TIME_ALIGN arm. -/
def Obligations.SyncWriteResults : Prop :=
  (∀ (s : State) (o value : Nat),
      takes .SYN_PSTEP s → o < 8 → (s.leaf && o == 0) = false → -500000 ≤ s.sget F.SYN_PSTEP_AMOUNT o + signed 20 (value % 2 ^ 20) →
        s.sget F.SYN_PSTEP_AMOUNT o + signed 20 (value % 2 ^ 20) ≤ 500000 →
        runs (.pstepWrite o value) s (fun t => t.sget F.SYN_PSTEP_AMOUNT o = s.sget F.SYN_PSTEP_AMOUNT o + signed 20 (value % 2 ^ 20))) ∧
  (∀ (s : State) (o value : Nat),
      takes .SYN_PSTEP s → o < 8 → (s.leaf && o == 0) = false → (s.sget F.SYN_PSTEP_AMOUNT o + signed 20 (value % 2 ^ 20) < -500000 ∨
        500000 < s.sget F.SYN_PSTEP_AMOUNT o + signed 20 (value % 2 ^ 20)) →
        runs (.pstepWrite o value) s (fun t => t.get F.SYN_PSTEP_AMOUNT o = s.get F.SYN_PSTEP_AMOUNT o ∧ t.on F.SYN_INT_CAUSE_PSTEP_RANGE)) ∧
  (∀ (s : State) (value : Nat),
      takes .SYN_PSTEP s → s.leaf → runs (.pstepWrite 0 value) s (fun t => t.get F.SYN_PSTEP_AMOUNT 0 = s.get F.SYN_PSTEP_AMOUNT 0 ∧
        t.on F.SYS_INT_CAUSE_ROLE_LIMIT)) ∧
  (∀ (s : State) (o : Nat),
      o < 8 → s.on F.SYN_PSTEP_AMOUNT o → runs (.pstepDone o) s (fun t => t.get F.SYN_PSTEP_AMOUNT o = 0 ∧
        t.on F.SYN_INT_CAUSE_PSTEP_DONE)) ∧
  (∀ (s : State) (master : Nat) (user : Bool) (value : Nat),
      takes .SYN_PRIV_KEY s → Syn.mayOpen ⟨master, user⟩ → value = 0x0C48A30E →
        runs (.privKeyWrite master user value) s (fun t => t.get H.SYN_KEYSTEP master = 1)) ∧
  (∀ (s : State) (master : Nat) (user : Bool) (value : Nat),
      takes .SYN_PRIV_KEY s → Syn.mayOpen ⟨master, user⟩ → value = 0x5E7A91D2 → s.get H.SYN_KEYSTEP master = 1 →
        runs (.privKeyWrite master user value) s (fun t => t.get H.SYN_KEYSTEP master = 2)) ∧
  (∀ (s : State) (master : Nat) (user : Bool) (value : Nat),
      takes .SYN_PRIV_KEY s → (Syn.mayOpen ⟨master, user⟩ && (value == 0x0C48A30E || (value == 0x5E7A91D2 && s.get H.SYN_KEYSTEP master
        == 1))) = false → runs (.privKeyWrite master user value) s (fun t => t.on F.SYN_INT_CAUSE_PRIV_ERR ∧
        t.get H.SYN_KEYSTEP master = 0)) ∧
  (∀ (s : State) (master : Nat) (user : Bool) (p us : Nat),
      takes .SYN_NCO_CTRL s → Syn.mayOpen ⟨master, user⟩ → p < 2 → 2 ≤ s.get H.SYN_KEYSTEP master → us ≤ 1000 →
        s.on F.SYN_NCO_CTRL_OPEN p = false → (s.leaf && p == 0) = false →
        runs (.loopOpen master user p us) s (fun t => t.on F.SYN_NCO_CTRL_OPEN p ∧ t.get F.SYN_NCO_CTRL_OWNER p = master ∧
        t.get F.SYN_NCO_FREQ_F p = Syn.loopFreq s % 2 ^ 32 ∧ t.get H.SYN_KEYSTEP master = 0)) ∧
  (∀ (s : State) (master : Nat) (user : Bool) (p us : Nat),
      takes .SYN_NCO_CTRL s → p < 2 → (s.on F.SYN_NCO_CTRL_OPEN p && s.get F.SYN_NCO_CTRL_OWNER p == master) = false →
        (Syn.mayOpen ⟨master, user⟩ && decide (2 ≤ s.get H.SYN_KEYSTEP master) && decide (us ≤ 1000) && !s.on F.SYN_NCO_CTRL_OPEN p &&
        !(s.leaf && p == 0)) = false → runs (.loopOpen master user p us) s (fun t => t.on F.SYN_INT_CAUSE_PRIV_ERR ∧
        t.get H.SYN_KEYSTEP master = 0 ∧ t.get F.SYN_NCO_CTRL_OPEN p = s.get F.SYN_NCO_CTRL_OPEN p)) ∧
  (∀ (s : State) (master : Nat) (user : Bool) (p value : Nat),
      takes .SYN_NCO_FREQ s → p < 2 → s.on F.SYN_NCO_CTRL_OPEN p → s.get F.SYN_NCO_CTRL_OWNER p = master →
        runs (.ncoFreqWrite master user p value) s (fun t => t.get F.SYN_NCO_FREQ_F p = value % 2 ^ 32)) ∧
  (∀ (s : State) (master : Nat) (user : Bool) (p value : Nat),
      takes .SYN_NCO_FREQ s → p < 2 → (s.on F.SYN_NCO_CTRL_OPEN p && s.get F.SYN_NCO_CTRL_OWNER p == master) = false →
        runs (.ncoFreqWrite master user p value) s (fun t => t.get F.SYN_NCO_FREQ_F p = s.get F.SYN_NCO_FREQ_F p ∧
        t.on F.SYN_INT_CAUSE_PRIV_ERR)) ∧
  (∀ (s : State) (master : Nat) (user : Bool) (p : Nat),
      takes .SYN_NCO_CTRL s → p < 2 → s.on F.SYN_NCO_CTRL_OPEN p → s.get F.SYN_NCO_CTRL_OWNER p = master →
        runs (.loopClose master user p) s (fun t => t.on F.SYN_NCO_CTRL_OPEN p = false ∧ t.get F.SYN_NCO_CTRL_OWNER p = 0 ∧
        t.get H.SYN_NCO_RAMP p = 100)) ∧
  (∀ (s : State) (master : Nat) (user : Bool) (p : Nat),
      takes .SYN_NCO_CTRL s → p < 2 → (s.on F.SYN_NCO_CTRL_OPEN p && s.get F.SYN_NCO_CTRL_OWNER p == master) = false →
        runs (.loopClose master user p) s (fun t => t.get F.SYN_NCO_CTRL_OPEN p = s.get F.SYN_NCO_CTRL_OPEN p ∧
        t.on F.SYN_INT_CAUSE_PRIV_ERR)) ∧
  (∀ (s : State) (p seconds : Nat),
      p < 2 → s.on F.SYN_NCO_CTRL_OPEN p → s.get F.SYN_PRIV_CFG_MAX_OPEN_S ≠ 0 → s.get F.SYN_PRIV_CFG_MAX_OPEN_S ≤ seconds →
        runs (.maxOpenExpiry p seconds) s (fun t => t.on F.SYN_NCO_CTRL_OPEN p = false ∧ t.on F.SYN_INT_CAUSE_PRIV_CLOSED)) ∧
  (∀ (s : State),
      takes .SYN_TIME_CTRL s → runs .timeSet s (fun t => t.on F.SYN_TIME_CTRL_SET_PEND)) ∧
  (∀ (s : State),
      takes .SYN_TIME_CTRL s → runs .timeAlign s (fun t => t.on F.SYN_TIME_CTRL_ALIGN_PEND))

/-- At a turn in which the thread issues its word (Safety.turn), each of these instructions puts its result into rd and the thread goes on
  to the next instruction, in the state it was in; g0 stays 0. Signed operands are two's complement of 32 bits. -/
def Obligations.RegisterInstructionResults : Prop :=
  (∀ (s : State) (n t : Nat),
      turnFn s n t 0 0 → runs (.add n t) s (fun u => goesOn s u n t ((source1 s n t + source2 s n t) % 2 ^ 32))) ∧
  (∀ (s : State) (n t : Nat),
      turnFn s n t 0 1 → runs (.sub n t) s (fun u => goesOn s u n t ((source1 s n t + 2 ^ 32 - source2 s n t) % 2 ^ 32))) ∧
  (∀ (s : State) (n t : Nat),
      turnFn s n t 0 2 → runs (.andOp n t) s (fun u => goesOn s u n t (source1 s n t &&& source2 s n t))) ∧
  (∀ (s : State) (n t : Nat),
      turnFn s n t 0 3 → runs (.orOp n t) s (fun u => goesOn s u n t (source1 s n t ||| source2 s n t))) ∧
  (∀ (s : State) (n t : Nat),
      turnFn s n t 0 4 → runs (.xor n t) s (fun u => goesOn s u n t (source1 s n t ^^^ source2 s n t))) ∧
  (∀ (s : State) (n t : Nat),
      turnFn s n t 0 5 → runs (.sll n t) s (fun u => goesOn s u n t (source1 s n t * 2 ^ (source2 s n t % 32) % 2 ^ 32))) ∧
  (∀ (s : State) (n t : Nat),
      turnFn s n t 0 6 → runs (.srl n t) s (fun u => goesOn s u n t (source1 s n t / 2 ^ (source2 s n t % 32)))) ∧
  (∀ (s : State) (n t : Nat),
      turnFn s n t 0 7 → runs (.sra n t) s (fun u => goesOn s u n t (unsigned 32 (signed 32 (source1 s n t) / 2 ^ (source2 s n t % 32))))) ∧
  (∀ (s : State) (n t : Nat),
      turnFn s n t 0 8 → runs (.slt n t) s (fun u => goesOn s u n t (if signed 32 (source1 s n t) < signed 32 (source2 s n t) then 1 else
        0))) ∧
  (∀ (s : State) (n t : Nat),
      turnFn s n t 0 9 → runs (.sltu n t) s (fun u => goesOn s u n t (if source1 s n t < source2 s n t then 1 else 0))) ∧
  (∀ (s : State) (n t : Nat),
      turnFn s n t 0 10 → runs (.mul n t) s (fun u => goesOn s u n t (source1 s n t * source2 s n t % 2 ^ 32))) ∧
  (∀ (s : State) (n t : Nat),
      turnFn s n t 0 11 → runs (.mulh n t) s (fun u => goesOn s u n t (unsigned 32 (signed 32 (source1 s n t) * signed 32 (source2 s n t)
        / 2 ^ 32)))) ∧
  (∀ (s : State) (n t : Nat),
      turnFn s n t 0 12 → runs (.mulhu n t) s (fun u => goesOn s u n t (source1 s n t * source2 s n t / 2 ^ 32))) ∧
  (∀ (s : State) (n t : Nat),
      turnFn s n t 0 13 → runs (.min n t) s (fun u => goesOn s u n t (if signed 32 (source1 s n t) ≤ signed 32 (source2 s n t) then
        source1 s n t else source2 s n t))) ∧
  (∀ (s : State) (n t : Nat),
      turnFn s n t 0 14 → runs (.max n t) s (fun u => goesOn s u n t (if signed 32 (source1 s n t) ≤ signed 32 (source2 s n t) then
        source2 s n t else source1 s n t))) ∧
  (∀ (s : State) (n t : Nat),
      turnFn s n t 0 15 → runs (.clz n t) s (fun u => (source1 s n t ≠ 0 → goesOn s u n t (31 - Nat.log2 (source1 s n t))) ∧
        (source1 s n t = 0 → goesOn s u n t 32))) ∧
  (∀ (s : State) (n t : Nat),
      turnFn s n t 0 16 → runs (.popc n t) s (fun u => goesOn s u n t (((List.range 32).filter (fun i => (source1 s n t).testBit
        i)).length)))

/-- At a turn in which the thread issues its word (Safety.turn), each of these instructions puts its result, of a register and the
  immediate, into rd and the thread goes on to the next instruction, in the state it was in; g0 stays 0. Bits 6:5 of the immediate name
  the shift of SHI, bits 4:0 its amount. -/
def Obligations.ImmediateInstructionResults : Prop :=
  (∀ (s : State) (n t : Nat),
      turn s n t 1 → runs (.addi n t) s (fun u => goesOn s u n t (unsigned 32 (source1 s n t + simm s n t)))) ∧
  (∀ (s : State) (n t : Nat),
      turn s n t 2 → runs (.andi n t) s (fun u => goesOn s u n t (source1 s n t &&& imm s n t))) ∧
  (∀ (s : State) (n t : Nat),
      turn s n t 3 → runs (.ori n t) s (fun u => goesOn s u n t (source1 s n t ||| imm s n t))) ∧
  (∀ (s : State) (n t : Nat),
      turn s n t 4 → runs (.xori n t) s (fun u => goesOn s u n t (source1 s n t ^^^ imm s n t))) ∧
  (∀ (s : State) (n t : Nat),
      turn s n t 5 → runs (.slti n t) s (fun u => goesOn s u n t (if signed 32 (source1 s n t) < simm s n t then 1 else 0))) ∧
  (∀ (s : State) (n t : Nat),
      turn s n t 7 → runs (.lui n t) s (fun u => goesOn s u n t (imm s n t * 2 ^ 16))) ∧
  (∀ (s : State) (n t : Nat),
      turn s n t 6 → imm s n t / 32 = 0 → runs (.shi n t) s (fun u => goesOn s u n t (source1 s n t * 2 ^ (imm s n t % 32) % 2 ^ 32))) ∧
  (∀ (s : State) (n t : Nat),
      turn s n t 6 → imm s n t / 32 = 1 → runs (.shi n t) s (fun u => goesOn s u n t (source1 s n t / 2 ^ (imm s n t % 32)))) ∧
  (∀ (s : State) (n t : Nat),
      turn s n t 6 → imm s n t / 32 = 2 → runs (.shi n t) s (fun u => goesOn s u n t (unsigned 32 (signed 32 (source1 s n t) / 2 ^ (imm s
        n t % 32)))))

/-- At a turn in which the thread issues its word: a branch goes to PC plus its offset if its condition holds, else to the next
  instruction; JAL and JALR link and jump; a target outside IMEM faults with IMEM_RANGE. LDW, STW, LXCH and LADD reach the DMEM word at an
  aligned address of at most 8188; an address not aligned faults with MISALIGN, a higher one with DMEM_RANGE. A fault leaves the PC. -/
def Obligations.BranchAndMemoryInstructionResults : Prop :=
  (∀ (s : State) (n t : Nat),
      turn s n t 8 → (Eng.reg s n t (Eng.fa (Eng.word s n t)) = Eng.reg s n t (Eng.fb (Eng.word s n t)) →
        0 ≤ (Eng.pc s n t : Int) + simm s n t ∧ (Eng.pc s n t : Int) + simm s n t ≤ 4095) →
        runs (.beq n t) s (fun u => goesTo s u n t (if Eng.reg s n t (Eng.fa (Eng.word s n t)) = Eng.reg s n t (Eng.fb (Eng.word s n t))
        then (Eng.pc s n t : Int) + simm s n t else min 4095 (Eng.pc s n t + 1)))) ∧
  (∀ (s : State) (n t : Nat),
      turn s n t 9 → (Eng.reg s n t (Eng.fa (Eng.word s n t)) ≠ Eng.reg s n t (Eng.fb (Eng.word s n t)) →
        0 ≤ (Eng.pc s n t : Int) + simm s n t ∧ (Eng.pc s n t : Int) + simm s n t ≤ 4095) →
        runs (.bne n t) s (fun u => goesTo s u n t (if Eng.reg s n t (Eng.fa (Eng.word s n t)) ≠ Eng.reg s n t (Eng.fb (Eng.word s n t))
        then (Eng.pc s n t : Int) + simm s n t else min 4095 (Eng.pc s n t + 1)))) ∧
  (∀ (s : State) (n t : Nat),
      turn s n t 10 → (signed 32 (Eng.reg s n t (Eng.fa (Eng.word s n t))) < signed 32 (Eng.reg s n t (Eng.fb (Eng.word s n t))) →
        0 ≤ (Eng.pc s n t : Int) + simm s n t ∧ (Eng.pc s n t : Int) + simm s n t ≤ 4095) →
        runs (.blt n t) s (fun u => goesTo s u n t (if signed 32 (Eng.reg s n t (Eng.fa (Eng.word s n t))) < signed 32 (Eng.reg s n t
        (Eng.fb (Eng.word s n t))) then (Eng.pc s n t : Int) + simm s n t else min 4095 (Eng.pc s n t + 1)))) ∧
  (∀ (s : State) (n t : Nat),
      turn s n t 11 → (signed 32 (Eng.reg s n t (Eng.fb (Eng.word s n t))) ≤ signed 32 (Eng.reg s n t (Eng.fa (Eng.word s n t))) →
        0 ≤ (Eng.pc s n t : Int) + simm s n t ∧ (Eng.pc s n t : Int) + simm s n t ≤ 4095) →
        runs (.bge n t) s (fun u => goesTo s u n t (if signed 32 (Eng.reg s n t (Eng.fb (Eng.word s n t))) ≤ signed 32 (Eng.reg s n t
        (Eng.fa (Eng.word s n t))) then (Eng.pc s n t : Int) + simm s n t else min 4095 (Eng.pc s n t + 1)))) ∧
  (∀ (s : State) (n t : Nat),
      turn s n t 12 → (Eng.reg s n t (Eng.fa (Eng.word s n t)) < Eng.reg s n t (Eng.fb (Eng.word s n t)) →
        0 ≤ (Eng.pc s n t : Int) + simm s n t ∧ (Eng.pc s n t : Int) + simm s n t ≤ 4095) →
        runs (.bltu n t) s (fun u => goesTo s u n t (if Eng.reg s n t (Eng.fa (Eng.word s n t)) < Eng.reg s n t (Eng.fb (Eng.word s n t))
        then (Eng.pc s n t : Int) + simm s n t else min 4095 (Eng.pc s n t + 1)))) ∧
  (∀ (s : State) (n t : Nat),
      turn s n t 13 → (Eng.reg s n t (Eng.fb (Eng.word s n t)) ≤ Eng.reg s n t (Eng.fa (Eng.word s n t)) →
        0 ≤ (Eng.pc s n t : Int) + simm s n t ∧ (Eng.pc s n t : Int) + simm s n t ≤ 4095) →
        runs (.bgeu n t) s (fun u => goesTo s u n t (if Eng.reg s n t (Eng.fb (Eng.word s n t)) ≤ Eng.reg s n t (Eng.fa (Eng.word s n t))
        then (Eng.pc s n t : Int) + simm s n t else min 4095 (Eng.pc s n t + 1)))) ∧
  (∀ (s : State) (n t : Nat),
      turn s n t 14 → 0 ≤ (Eng.pc s n t : Int) + signed 21 (Eng.word s n t) → (Eng.pc s n t : Int) + signed 21 (Eng.word s n t) ≤ 4095 →
        runs (.jal n t) s (fun u => goesTo s u n t ((Eng.pc s n t : Int) + signed 21 (Eng.word s n t)) ∧
        Eng.reg u n t (Eng.fa (Eng.word s n t)) = if Eng.fa (Eng.word s n t) = 0 then 0 else Eng.pc s n t + 1)) ∧
  (∀ (s : State) (n t : Nat),
      turn s n t 15 → unsigned 32 (source1 s n t + simm s n t) ≤ 4095 →
        runs (.jalr n t) s (fun u => goesTo s u n t (unsigned 32 (source1 s n t + simm s n t)) ∧
        Eng.reg u n t (Eng.fa (Eng.word s n t)) = if Eng.fa (Eng.word s n t) = 0 then 0 else Eng.pc s n t + 1)) ∧
  (∀ (s : State) (n t : Nat),
      turn s n t 16 → unsigned 32 (source1 s n t + simm s n t) % 4 = 0 → unsigned 32 (source1 s n t + simm s n t) ≤ 8188 →
        runs (.ldw n t) s (fun u => goesOn s u n t (s.get H.ENG_DMEM n (unsigned 32 (source1 s n t + simm s n t) / 4)))) ∧
  (∀ (s : State) (n t : Nat) (a : Nat),
      turn s n t 17 → unsigned 32 (source1 s n t + simm s n t) % 4 = 0 → unsigned 32 (source1 s n t + simm s n t) ≤ 8188 → a < 2048 →
        runs (.stw n t) s (fun u => u.get H.ENG_DMEM n a = (if a = unsigned 32 (source1 s n t + simm s n t) / 4 then Eng.reg s n t
        (Eng.fa (Eng.word s n t)) else s.get H.ENG_DMEM n a) ∧ Eng.pc u n t = min 4095 (Eng.pc s n t + 1))) ∧
  (∀ (s : State) (n t : Nat) (a : Nat),
      turn s n t 18 → source1 s n t = 4 * a → a < 2048 → runs (.lxch n t) s (fun u => goesOn s u n t (s.get H.ENG_DMEM n a) ∧
        u.get H.ENG_DMEM n a = source2 s n t)) ∧
  (∀ (s : State) (n t : Nat) (a : Nat),
      turn s n t 19 → source1 s n t = 4 * a → a < 2048 → runs (.ladd n t) s (fun u => goesOn s u n t (s.get H.ENG_DMEM n a) ∧
        u.get H.ENG_DMEM n a = (s.get H.ENG_DMEM n a + source2 s n t) % 2 ^ 32)) ∧
  (∀ (s : State) (n t : Nat),
      turn s n t 8 → Eng.reg s n t (Eng.fa (Eng.word s n t)) = Eng.reg s n t (Eng.fb (Eng.word s n t)) →
        ((Eng.pc s n t : Int) + simm s n t < 0 ∨ 4095 < (Eng.pc s n t : Int) + simm s n t) →
        runs (.beq n t) s (fun u => faulted u n t 4 ∧ Eng.pc u n t = Eng.pc s n t)) ∧
  (∀ (s : State) (n t : Nat),
      turn s n t 9 → Eng.reg s n t (Eng.fa (Eng.word s n t)) ≠ Eng.reg s n t (Eng.fb (Eng.word s n t)) →
        ((Eng.pc s n t : Int) + simm s n t < 0 ∨ 4095 < (Eng.pc s n t : Int) + simm s n t) →
        runs (.bne n t) s (fun u => faulted u n t 4 ∧ Eng.pc u n t = Eng.pc s n t)) ∧
  (∀ (s : State) (n t : Nat),
      turn s n t 10 → signed 32 (Eng.reg s n t (Eng.fa (Eng.word s n t))) < signed 32 (Eng.reg s n t (Eng.fb (Eng.word s n t))) →
        ((Eng.pc s n t : Int) + simm s n t < 0 ∨ 4095 < (Eng.pc s n t : Int) + simm s n t) →
        runs (.blt n t) s (fun u => faulted u n t 4 ∧ Eng.pc u n t = Eng.pc s n t)) ∧
  (∀ (s : State) (n t : Nat),
      turn s n t 11 → signed 32 (Eng.reg s n t (Eng.fb (Eng.word s n t))) ≤ signed 32 (Eng.reg s n t (Eng.fa (Eng.word s n t))) →
        ((Eng.pc s n t : Int) + simm s n t < 0 ∨ 4095 < (Eng.pc s n t : Int) + simm s n t) →
        runs (.bge n t) s (fun u => faulted u n t 4 ∧ Eng.pc u n t = Eng.pc s n t)) ∧
  (∀ (s : State) (n t : Nat),
      turn s n t 12 → Eng.reg s n t (Eng.fa (Eng.word s n t)) < Eng.reg s n t (Eng.fb (Eng.word s n t)) →
        ((Eng.pc s n t : Int) + simm s n t < 0 ∨ 4095 < (Eng.pc s n t : Int) + simm s n t) →
        runs (.bltu n t) s (fun u => faulted u n t 4 ∧ Eng.pc u n t = Eng.pc s n t)) ∧
  (∀ (s : State) (n t : Nat),
      turn s n t 13 → Eng.reg s n t (Eng.fb (Eng.word s n t)) ≤ Eng.reg s n t (Eng.fa (Eng.word s n t)) →
        ((Eng.pc s n t : Int) + simm s n t < 0 ∨ 4095 < (Eng.pc s n t : Int) + simm s n t) →
        runs (.bgeu n t) s (fun u => faulted u n t 4 ∧ Eng.pc u n t = Eng.pc s n t)) ∧
  (∀ (s : State) (n t : Nat),
      turn s n t 14 → ((Eng.pc s n t : Int) + signed 21 (Eng.word s n t) < 0 ∨
        4095 < (Eng.pc s n t : Int) + signed 21 (Eng.word s n t)) → runs (.jal n t) s (fun u => faulted u n t 4 ∧
        Eng.pc u n t = Eng.pc s n t)) ∧
  (∀ (s : State) (n t : Nat),
      turn s n t 15 → 4095 < unsigned 32 (source1 s n t + simm s n t) → runs (.jalr n t) s (fun u => faulted u n t 4 ∧
        Eng.pc u n t = Eng.pc s n t)) ∧
  (∀ (s : State) (n t a : Nat),
      turn s n t 16 → unsigned 32 (source1 s n t + simm s n t) = a → (a % 4 ≠ 0 ∨ 8188 < a) →
        runs (.ldw n t) s (fun u => faulted u n t (if a % 4 ≠ 0 then 2 else 3) ∧ Eng.pc u n t = Eng.pc s n t)) ∧
  (∀ (s : State) (n t a : Nat),
      turn s n t 17 → unsigned 32 (source1 s n t + simm s n t) = a → (a % 4 ≠ 0 ∨ 8188 < a) →
        runs (.stw n t) s (fun u => faulted u n t (if a % 4 ≠ 0 then 2 else 3) ∧ Eng.pc u n t = Eng.pc s n t)) ∧
  (∀ (s : State) (n t a : Nat),
      turn s n t 18 → source1 s n t = a → (a % 4 ≠ 0 ∨ 8188 < a) → runs (.lxch n t) s (fun u => faulted u n t (if a % 4 ≠ 0 then 2 else
        3) ∧ Eng.pc u n t = Eng.pc s n t)) ∧
  (∀ (s : State) (n t a : Nat),
      turn s n t 19 → source1 s n t = a → (a % 4 ≠ 0 ∨ 8188 < a) → runs (.ladd n t) s (fun u => faulted u n t (if a % 4 ≠ 0 then 2 else
        3) ∧ Eng.pc u n t = Eng.pc s n t))

/-- At a turn in which the thread issues its word (R255, R258, R260, R265, Table ENG-3). WAIT on TAG or ANYTAG ends at once where its tag
  is final, with the result of Table ENG-6 and the tag freed; on DOORBELL at once with the channel where a value is there for this engine,
  and with 0xFFFFFFFE where it is not the receiver; on INT and FLAG where the bit is 1, the flags unchanged; on DELAY where the time is 0;
  in every other case, and on MF, SEC and TICK always, the thread enters WAIT and its PC stays. FENCE goes on where no operation it waits
  for is open and else changes nothing. JMARK writes its MARK entry at JRNL_HEAD and answers its SEQ. TSTAT answers the state of a tag of
  the thread. TREL frees a final one and sets AUTO in a running one and in its entry. WAIT on TAG, TSTAT and TREL of a tag that is not the
  thread's fault with BAD_TAG. HALT stops the thread and sets its cause bit, YIELD goes on, SETF and CLRF write the flag bit, DROP makes
  the thread USER, and SELF answers engine, thread and SUPER. -/
def Obligations.SystemInstructionResults : Prop :=
  (∀ (s : State) (n t : Nat),
      turnFn s n t 48 0 → Eng.owned s n t (source1 s n t % 256) → runs (.wait n t) s (fun u => (if 2 ≤ s.get F.ENG_TAG_STATE n (source1 s
        n t % 256) then goesOn s u n t (s.get F.ENG_TAG_STATE n (source1 s n t % 256)) else waits s u n t) ∧
        Eng.owned u n t (source1 s n t % 256) = decide (s.get F.ENG_TAG_STATE n (source1 s n t % 256) < 2))) ∧
  (∀ (s : State) (n t k : Nat),
      turnFn s n t 48 1 → k < 256 → (Eng.owned s n t k && Eng.isFinal s n k && !s.on F.ENG_TAG_AUTO n k) = true →
        (List.range k).all (fun i => !(Eng.owned s n t i && Eng.isFinal s n i && !s.on F.ENG_TAG_AUTO n i)) = true →
        runs (.wait n t) s (fun u => goesOn s u n t (k + 256 * s.get F.ENG_TAG_STATE n k) ∧ u.on F.ENG_TAG_ALLOC n k = false)) ∧
  (∀ (s : State) (n t : Nat),
      turnFn s n t 48 1 → (List.range 256).all (fun i => !(Eng.owned s n t i && Eng.isFinal s n i && !s.on F.ENG_TAG_AUTO n i)) = true →
        runs (.wait n t) s (fun u => waits s u n t)) ∧
  (∀ (s : State) (n t : Nat),
      turnFn s n t 48 2 → runs (.wait n t) s (fun u => if Mbx.isReceiver s (source1 s n t) (Eng.master n) then (if s.on F.MBX_STAT_FULL
        (source1 s n t) then goesOn s u n t (source1 s n t) else waits s u n t) else goesOn s u n t 0xFFFFFFFE)) ∧
  (∀ (s : State) (n t : Nat),
      (turnFn s n t 48 3 ∨ turnFn s n t 48 4 ∨ turnFn s n t 48 5) → runs (.wait n t) s (fun u => waits s u n t)) ∧
  (∀ (s : State) (n t : Nat),
      turnFn s n t 48 6 → runs (.wait n t) s (fun u => if (source1 s n t < 32 ∧
        s.summary.testBit (source1 s n t)) then goesOn s u n t 0 else waits s u n t)) ∧
  (∀ (s : State) (n t : Nat),
      turnFn s n t 48 7 → runs (.wait n t) s (fun u => (if (source1 s n t < 32 ∧
        s.bit F.ENG_FLAGS_FLAG (source1 s n t) n) then goesOn s u n t 0 else waits s u n t) ∧
        u.get F.ENG_FLAGS_FLAG n = s.get F.ENG_FLAGS_FLAG n)) ∧
  (∀ (s : State) (n t : Nat),
      turnFn s n t 48 8 → runs (.wait n t) s (fun u => if source1 s n t = 0 then goesOn s u n t 0 else waits s u n t)) ∧
  (∀ (s : State) (n t : Nat),
      turn s n t 49 → runs (.fence n t) s (fun u => if s.eng.ops.any (fun o => o.engine == n && (Eng.fn (Eng.word s n t) == 1 || o.thread
        == t)) then u = s else Eng.pc u n t = min 4095 (Eng.pc s n t + 1) ∧ Eng.thread u n t = Eng.thread s n t)) ∧
  (∀ (s : State) (n t : Nat),
      turn s n t 50 → runs (.jmark n t) s (fun u => goesOn s u n t (s.get F.ENG_JRNL_SEQ_VAL n) ∧
        u.get H.ENG_JRNL n (Eng.head s n) 2 = source1 s n t ∧ u.get H.ENG_JRNL n (Eng.head s n) 3 = source2 s n t % 4096 + n * 2 ^ 24 ∧
        u.get H.ENG_JRNL n (Eng.head s n) 0 % 16 = 10)) ∧
  (∀ (s : State) (n t : Nat),
      turn s n t 51 → Eng.owned s n t (source1 s n t % 256) → runs (.tstat n t) s (fun u => goesOn s u n t (s.get F.ENG_TAG_STATE n
        (source1 s n t % 256)))) ∧
  (∀ (s : State) (n t : Nat),
      turn s n t 52 → Eng.owned s n t (source1 s n t % 256) → runs (.trel n t) s (fun u => u.on F.ENG_TAG_ALLOC n (source1 s n t % 256) =
        decide (s.get F.ENG_TAG_STATE n (source1 s n t % 256) < 2) ∧ (s.get F.ENG_TAG_STATE n (source1 s n t % 256) < 2 →
        u.on F.ENG_TAG_AUTO n (source1 s n t % 256) = true ∧ u.bit H.ENG_JRNL 7 n (s.get F.ENG_TAG_JIDX n (source1 s n t % 256)) 0 =
        true) ∧ Eng.pc u n t = min 4095 (Eng.pc s n t + 1) ∧ Eng.thread u n t = Eng.thread s n t)) ∧
  (∀ (s : State) (n t : Nat),
      turnFn s n t 48 0 → Eng.owned s n t (source1 s n t % 256) = false → runs (.wait n t) s (fun u => faulted u n t 6 ∧
        Eng.pc u n t = Eng.pc s n t)) ∧
  (∀ (s : State) (n t : Nat),
      turn s n t 51 → Eng.owned s n t (source1 s n t % 256) = false → runs (.tstat n t) s (fun u => faulted u n t 6 ∧
        Eng.pc u n t = Eng.pc s n t)) ∧
  (∀ (s : State) (n t : Nat),
      turn s n t 52 → Eng.owned s n t (source1 s n t % 256) = false → runs (.trel n t) s (fun u => faulted u n t 6 ∧
        Eng.pc u n t = Eng.pc s n t)) ∧
  (∀ (s : State) (n t : Nat),
      turnFn s n t 56 0 → runs (.halt n t) s (fun u => Eng.thread u n t = 5 ∧ u.on F.ENG_INT_CAUSE_HALT n)) ∧
  (∀ (s : State) (n t : Nat),
      turnFn s n t 56 1 → runs (.yield n t) s (fun u => Eng.pc u n t = min 4095 (Eng.pc s n t + 1) ∧ Eng.thread u n t = Eng.thread s n t)) ∧
  (∀ (s : State) (n t : Nat),
      turnFn s n t 56 2 → runs (.setf n t) s (fun u => u.bit F.ENG_FLAGS_FLAG (source1 s n t % 32) n ∧
        Eng.pc u n t = min 4095 (Eng.pc s n t + 1))) ∧
  (∀ (s : State) (n t : Nat),
      turnFn s n t 56 3 → runs (.clrf n t) s (fun u => u.bit F.ENG_FLAGS_FLAG (source1 s n t % 32) n = false ∧
        Eng.pc u n t = min 4095 (Eng.pc s n t + 1))) ∧
  (∀ (s : State) (n t : Nat),
      turnFn s n t 56 4 → runs (.drop n t) s (fun u => u.on F.ENG_THR_SUPER n t = false ∧ Eng.pc u n t = min 4095 (Eng.pc s n t + 1))) ∧
  (∀ (s : State) (n t : Nat),
      turnFn s n t 56 5 → runs (.self n t) s (fun u => goesOn s u n t (n + 256 * t + 1024 * s.get F.ENG_THR_SUPER n t)))

/-- At a turn in which the thread issues a tagged instruction that R250, R257 and R259 allow and a tag is free, the lowest free tag k is
  allocated to it, rd receives k and the PC moves on; the journal entry at JRNL_HEAD takes the PC, JRNL_SEQ and the target; and the
  operation is open: its opcode, the register that awaits a result, the value to store or to compare, the DMEM address, the target, the
  number of words and the stride are as the instruction or its descriptor says. Where every tag is allocated, a single-word instruction
  leaves the thread in STALL_TAG at its PC, with no entry written and no operation opened (R253). -/
def Obligations.TaggedInstructionResults : Prop :=
  (∀ (s : State) (n t : Nat) (k : Nat),
      s.on F.ENG_TAG_ALLOC n k = false → k < 256 → (List.range k).all (fun i => s.on F.ENG_TAG_ALLOC n i) = true → turn s n t 24 →
        Eng.registerCause s n t [Eng.tagBase s n t (Eng.word s n t)] false = 0 →
        runs (.rld n t) s (fun u => launched s u n t k (Eng.tagBase s n t (Eng.word s n t)) ⟨n, Eng.head s n, t,
        !s.on F.ENG_THR_SUPER n t, 24, Eng.fc (Eng.word s n t), Eng.reg s n t (Eng.fc (Eng.word s n t)),
        Eng.reg s n t (Eng.fc (Eng.word s n t) + 1), 0, Eng.tagBase s n t (Eng.word s n t), 1, 1, false⟩)) ∧
  (∀ (s : State) (n t : Nat) (k : Nat),
      s.on F.ENG_TAG_ALLOC n k = false → k < 256 → (List.range k).all (fun i => s.on F.ENG_TAG_ALLOC n i) = true → turn s n t 25 →
        Eng.registerCause s n t [Eng.tagBase s n t (Eng.word s n t)] true = 0 →
        runs (.rst n t) s (fun u => launched s u n t k (Eng.tagBase s n t (Eng.word s n t)) ⟨n, Eng.head s n, t,
        !s.on F.ENG_THR_SUPER n t, 25, 0, Eng.reg s n t (Eng.fc (Eng.word s n t)), Eng.reg s n t (Eng.fc (Eng.word s n t) + 1), 0,
        Eng.tagBase s n t (Eng.word s n t), 1, 1, false⟩)) ∧
  (∀ (s : State) (n t : Nat) (k : Nat),
      s.on F.ENG_TAG_ALLOC n k = false → k < 256 → (List.range k).all (fun i => s.on F.ENG_TAG_ALLOC n i) = true → turn s n t 32 →
        Eng.registerCause s n t [Eng.tagBase s n t (Eng.word s n t)] true = 0 →
        runs (.aswp n t) s (fun u => launched s u n t k (Eng.tagBase s n t (Eng.word s n t)) ⟨n, Eng.head s n, t,
        !s.on F.ENG_THR_SUPER n t, 32, Eng.fc (Eng.word s n t), Eng.reg s n t (Eng.fc (Eng.word s n t)),
        Eng.reg s n t (Eng.fc (Eng.word s n t) + 1), 0, Eng.tagBase s n t (Eng.word s n t), 1, 1, false⟩)) ∧
  (∀ (s : State) (n t : Nat) (k : Nat),
      s.on F.ENG_TAG_ALLOC n k = false → k < 256 → (List.range k).all (fun i => s.on F.ENG_TAG_ALLOC n i) = true → turn s n t 33 →
        Eng.registerCause s n t [Eng.tagBase s n t (Eng.word s n t)] true = 0 →
        runs (.aadd n t) s (fun u => launched s u n t k (Eng.tagBase s n t (Eng.word s n t)) ⟨n, Eng.head s n, t,
        !s.on F.ENG_THR_SUPER n t, 33, Eng.fc (Eng.word s n t), Eng.reg s n t (Eng.fc (Eng.word s n t)),
        Eng.reg s n t (Eng.fc (Eng.word s n t) + 1), 0, Eng.tagBase s n t (Eng.word s n t), 1, 1, false⟩)) ∧
  (∀ (s : State) (n t : Nat) (k : Nat),
      s.on F.ENG_TAG_ALLOC n k = false → k < 256 → (List.range k).all (fun i => s.on F.ENG_TAG_ALLOC n i) = true → turn s n t 34 →
        Eng.registerCause s n t [Eng.tagBase s n t (Eng.word s n t)] true = 0 →
        runs (.aand n t) s (fun u => launched s u n t k (Eng.tagBase s n t (Eng.word s n t)) ⟨n, Eng.head s n, t,
        !s.on F.ENG_THR_SUPER n t, 34, Eng.fc (Eng.word s n t), Eng.reg s n t (Eng.fc (Eng.word s n t)),
        Eng.reg s n t (Eng.fc (Eng.word s n t) + 1), 0, Eng.tagBase s n t (Eng.word s n t), 1, 1, false⟩)) ∧
  (∀ (s : State) (n t : Nat) (k : Nat),
      s.on F.ENG_TAG_ALLOC n k = false → k < 256 → (List.range k).all (fun i => s.on F.ENG_TAG_ALLOC n i) = true → turn s n t 35 →
        Eng.registerCause s n t [Eng.tagBase s n t (Eng.word s n t)] true = 0 →
        runs (.aor n t) s (fun u => launched s u n t k (Eng.tagBase s n t (Eng.word s n t)) ⟨n, Eng.head s n, t,
        !s.on F.ENG_THR_SUPER n t, 35, Eng.fc (Eng.word s n t), Eng.reg s n t (Eng.fc (Eng.word s n t)),
        Eng.reg s n t (Eng.fc (Eng.word s n t) + 1), 0, Eng.tagBase s n t (Eng.word s n t), 1, 1, false⟩)) ∧
  (∀ (s : State) (n t : Nat) (k : Nat),
      s.on F.ENG_TAG_ALLOC n k = false → k < 256 → (List.range k).all (fun i => s.on F.ENG_TAG_ALLOC n i) = true → turn s n t 36 →
        Eng.registerCause s n t [Eng.tagBase s n t (Eng.word s n t)] true = 0 →
        runs (.acas n t) s (fun u => launched s u n t k (Eng.tagBase s n t (Eng.word s n t)) ⟨n, Eng.head s n, t,
        !s.on F.ENG_THR_SUPER n t, 36, Eng.fc (Eng.word s n t), Eng.reg s n t (Eng.fc (Eng.word s n t)),
        Eng.reg s n t (Eng.fc (Eng.word s n t) + 1), 0, Eng.tagBase s n t (Eng.word s n t), 1, 1, false⟩)) ∧
  (∀ (s : State) (n t : Nat) (k : Nat) (b d0 m d2 : Nat),
      s.on F.ENG_TAG_ALLOC n k = false → k < 256 → (List.range k).all (fun i => s.on F.ENG_TAG_ALLOC n i) = true → turn s n t 26 →
        Eng.tagBase s n t (Eng.word s n t) = 4 * b → b ≤ 2045 → s.get H.ENG_DMEM n b = d0 → s.get H.ENG_DMEM n (b + 1) % 8192 = m →
        s.get H.ENG_DMEM n (b + 2) = d2 → 0 < d2 % 4096 → d2 % 4096 ≤ 2048 → Eng.memRange m (d2 % 4096) →
        Eng.registerCause s n t (Eng.targets d0 (d2 % 4096) (max 1 (slice d2 16 8))) false = 0 →
        runs (.dmar n t) s (fun u => launched s u n t k d0 ⟨n, Eng.head s n, t, !s.on F.ENG_THR_SUPER n t, 26, 0, 0, 0, m, d0, d2 % 4096,
        max 1 (slice d2 16 8), false⟩)) ∧
  (∀ (s : State) (n t : Nat) (k : Nat) (b d0 m d2 : Nat),
      s.on F.ENG_TAG_ALLOC n k = false → k < 256 → (List.range k).all (fun i => s.on F.ENG_TAG_ALLOC n i) = true → turn s n t 27 →
        Eng.tagBase s n t (Eng.word s n t) = 4 * b → b ≤ 2045 → s.get H.ENG_DMEM n b = d0 → s.get H.ENG_DMEM n (b + 1) % 8192 = m →
        s.get H.ENG_DMEM n (b + 2) = d2 → 0 < d2 % 4096 → d2 % 4096 ≤ 2048 → Eng.memRange m (d2 % 4096) →
        Eng.registerCause s n t (Eng.targets d0 (d2 % 4096) (max 1 (slice d2 16 8))) true = 0 →
        runs (.dmaw n t) s (fun u => launched s u n t k d0 ⟨n, Eng.head s n, t, !s.on F.ENG_THR_SUPER n t, 27, 0, 0, 0, m, d0, d2 % 4096,
        max 1 (slice d2 16 8), false⟩)) ∧
  (∀ (s : State) (n t : Nat) (k : Nat) (b d0 m c : Nat),
      s.on F.ENG_TAG_ALLOC n k = false → k < 256 → (List.range k).all (fun i => s.on F.ENG_TAG_ALLOC n i) = true → turn s n t 28 →
        Eng.tagBase s n t (Eng.word s n t) = 4 * b → b ≤ 2045 → s.get H.ENG_DMEM n b = d0 → s.get H.ENG_DMEM n (b + 1) = m →
        s.get H.ENG_DMEM n (b + 2) = c → 0 < c → c ≤ 2048 → Eng.memRange m c → Eng.qdrCause s n (d0 / 2 ^ 31) (d0 % 2 ^ 23) c false = 0 →
        runs (.qrd n t) s (fun u => launched s u n t k (d0 / 2 ^ 31 * 2 ^ 31 + d0 % 2 ^ 23) ⟨n, Eng.head s n, t,
        !s.on F.ENG_THR_SUPER n t, 28, 0, 0, 0, m, d0 / 2 ^ 31 * 2 ^ 31 + d0 % 2 ^ 23, c, 1, false⟩)) ∧
  (∀ (s : State) (n t : Nat) (k : Nat) (b d0 m c : Nat),
      s.on F.ENG_TAG_ALLOC n k = false → k < 256 → (List.range k).all (fun i => s.on F.ENG_TAG_ALLOC n i) = true → turn s n t 29 →
        Eng.tagBase s n t (Eng.word s n t) = 4 * b → b ≤ 2045 → s.get H.ENG_DMEM n b = d0 → s.get H.ENG_DMEM n (b + 1) = m →
        s.get H.ENG_DMEM n (b + 2) = c → 0 < c → c ≤ 2048 → Eng.memRange m c → Eng.qdrCause s n (d0 / 2 ^ 31) (d0 % 2 ^ 23) c true = 0 →
        runs (.qwr n t) s (fun u => launched s u n t k (d0 / 2 ^ 31 * 2 ^ 31 + d0 % 2 ^ 23) ⟨n, Eng.head s n, t,
        !s.on F.ENG_THR_SUPER n t, 29, 0, 0, 0, m, d0 / 2 ^ 31 * 2 ^ 31 + d0 % 2 ^ 23, c, 1, false⟩)) ∧
  (∀ (s : State) (n t : Nat),
      turn s n t 24 → (List.range 256).all (fun i => s.on F.ENG_TAG_ALLOC n i) = true →
        runs (.rld n t) s (fun u => Eng.thread u n t = 3 ∧ Eng.pc u n t = Eng.pc s n t ∧ u.eng.ops = s.eng.ops ∧
        u.get F.ENG_JRNL_SEQ_VAL n = s.get F.ENG_JRNL_SEQ_VAL n)) ∧
  (∀ (s : State) (n t : Nat),
      turn s n t 25 → (List.range 256).all (fun i => s.on F.ENG_TAG_ALLOC n i) = true →
        runs (.rst n t) s (fun u => Eng.thread u n t = 3 ∧ Eng.pc u n t = Eng.pc s n t ∧ u.eng.ops = s.eng.ops ∧
        u.get F.ENG_JRNL_SEQ_VAL n = s.get F.ENG_JRNL_SEQ_VAL n)) ∧
  (∀ (s : State) (n t : Nat),
      turn s n t 32 → (List.range 256).all (fun i => s.on F.ENG_TAG_ALLOC n i) = true →
        runs (.aswp n t) s (fun u => Eng.thread u n t = 3 ∧ Eng.pc u n t = Eng.pc s n t ∧ u.eng.ops = s.eng.ops ∧
        u.get F.ENG_JRNL_SEQ_VAL n = s.get F.ENG_JRNL_SEQ_VAL n)) ∧
  (∀ (s : State) (n t : Nat),
      turn s n t 33 → (List.range 256).all (fun i => s.on F.ENG_TAG_ALLOC n i) = true →
        runs (.aadd n t) s (fun u => Eng.thread u n t = 3 ∧ Eng.pc u n t = Eng.pc s n t ∧ u.eng.ops = s.eng.ops ∧
        u.get F.ENG_JRNL_SEQ_VAL n = s.get F.ENG_JRNL_SEQ_VAL n)) ∧
  (∀ (s : State) (n t : Nat),
      turn s n t 34 → (List.range 256).all (fun i => s.on F.ENG_TAG_ALLOC n i) = true →
        runs (.aand n t) s (fun u => Eng.thread u n t = 3 ∧ Eng.pc u n t = Eng.pc s n t ∧ u.eng.ops = s.eng.ops ∧
        u.get F.ENG_JRNL_SEQ_VAL n = s.get F.ENG_JRNL_SEQ_VAL n)) ∧
  (∀ (s : State) (n t : Nat),
      turn s n t 35 → (List.range 256).all (fun i => s.on F.ENG_TAG_ALLOC n i) = true →
        runs (.aor n t) s (fun u => Eng.thread u n t = 3 ∧ Eng.pc u n t = Eng.pc s n t ∧ u.eng.ops = s.eng.ops ∧
        u.get F.ENG_JRNL_SEQ_VAL n = s.get F.ENG_JRNL_SEQ_VAL n)) ∧
  (∀ (s : State) (n t : Nat),
      turn s n t 36 → (List.range 256).all (fun i => s.on F.ENG_TAG_ALLOC n i) = true →
        runs (.acas n t) s (fun u => Eng.thread u n t = 3 ∧ Eng.pc u n t = Eng.pc s n t ∧ u.eng.ops = s.eng.ops ∧
        u.get F.ENG_JRNL_SEQ_VAL n = s.get F.ENG_JRNL_SEQ_VAL n))

/-- Engine n ≤ 64, thread t. A thread stalled while no tag is free faults with TAG_EXHAUST. The target's acceptance, unless its block is
  in soft reset or QDR-IV in retention, makes an operation ACCEPTED; ACC_TMO ends one not yet accepted ABORTED with cause TIMEOUT. Of an
  accepted operation that no earlier one holds up: RLD ends APPLIED and its register takes what the target reads as; RST and the five
  remote atomics, here on ENG.FLAGS of an engine by a SUPER thread, end APPLIED with the register written as the opcode says and the old
  value in rd; the next word of DMAR, QRD and QWR is at its destination, with DONE counted or, after the last word, APPLIED; QRD whose
  following word has a parity error ends PARTIAL with cause 8; QRD and QWR of a port not in use end with cause 7, PARTIAL or, with DONE 0,
  ABORTED. A waiting thread resumes with the result its event gives, the tag it waited for freed, or with 0xFFFFFFFF at its timeout.
  THREAD_START starts a thread that does not run at ENTRY unless the device is SCRAPPED, THREAD_STOP stops it, ENG_RESET returns threads,
  registers and tags. MEM_DATA reaches DMEM or IMEM at MEM_ADDR and moves the address on; a write of IMEM while a thread runs is refused.
  SPILL_POP drops the oldest spilled entry. ACTIVATE of a valid slot and ROLLBACK to a valid previous one end in an image-loading reset,
  else in ACT_ERR; HEALTH_OK within the trial ends it, its expiry rolls back. -/
def Obligations.EngineEventResults : Prop :=
  (∀ (s : State) (n t : Nat),
      n < 65 → t < 4 → Eng.thread s n t = 3 → (List.range 256).all (fun k => s.on F.ENG_TAG_ALLOC n k) = true →
        runs (.tagExhaust n t) s (fun u => faulted u n t 5 ∧ Eng.pc u n t = Eng.pc s n t)) ∧
  (∀ (s : State) (n j : Nat) (o : EngOp),
      n < 65 → j < 1024 → s.eng.ops.find? (fun o => o.engine == n && o.jidx == j) = some o → o.accepted = false →
        (if EngBus.isQdr o then s.on H.PWR_QDR_RET else Bus.inReset s o.target) = false →
        runs (.opAccept n j) s (fun t => t.get H.ENG_JRNL n j 0 % 8 = 1 ∧
        t.eng.ops = s.eng.ops.map (fun (o : EngOp) => if o.engine == n && o.jidx == j then { o with accepted := true } else o))) ∧
  (∀ (s : State) (n j : Nat),
      n < 65 → j < 1024 → s.eng.ops.any (fun o => o.engine == n && o.jidx == j && !o.accepted) = true →
        runs (.accTmo n j) s (fun t => t.get H.ENG_JRNL n j 0 % 8 = 4 ∧ (s.get H.ENG_JRNL n j 0 < 2 ^ 22 →
        slice (t.get H.ENG_JRNL n j 0) 22 4 = 3) ∧ t.eng.ops.any (fun o => o.engine == n && o.jidx == j) = false ∧
        t.on F.ENG_INT_CAUSE_ABORT n)) ∧
  (∀ (s : State) (n j words parity : Nat) (o : EngOp),
      n < 65 → j < 1024 → s.eng.ops.find? (fun o => o.engine == n && o.jidx == j && o.accepted) = some o → o.op = 24 → o.count = 1 →
        0 < words → Sys.doneOf s o = 0 → EngBus.waits s o = false → o.thread < 4 → o.dest < 32 →
        runs (.opFinal n j words parity) s (fun t => t.get H.ENG_JRNL n j 0 % 8 = 2 ∧
        t.eng.ops.any (fun o => o.engine == n && o.jidx == j) = false ∧ (o.dest ≠ 0 ∧
        s.on F.ENG_TAG_AUTO n (slice (s.get H.ENG_JRNL n j 0) 8 8) = false →
        t.get F.ENG_GREG_VAL n o.thread o.dest = (Bus.read (EngBus.who o) o.target s).1 % 2 ^ 32))) ∧
  (∀ (s : State) (n j words parity m : Nat) (o : EngOp),
      n < 65 → j < 1024 → s.eng.ops.find? (fun o => o.engine == n && o.jidx == j && o.accepted) = some o →
        (o.op == 25 || (decide (32 ≤ o.op) && decide (o.op ≤ 36))) = true → o.count = 1 → 0 < words → Sys.doneOf s o = 0 →
        EngBus.waits s o = false → o.thread < 4 → o.dest < 32 → m < 65 → takes .ENG_FLAGS s → o.target = RegId.barAddr .ENG_FLAGS m 0 0 →
        o.user = false → runs (.opFinal n j words parity) s (fun t => t.get H.ENG_JRNL n j 0 % 8 = 2 ∧
        t.eng.ops.any (fun o => o.engine == n && o.jidx == j) = false ∧ t.get F.ENG_FLAGS_FLAG m = (if o.op = 33 then (s.get
        F.ENG_FLAGS_FLAG m + o.val) % 2 ^ 32 else if o.op = 34 then s.get F.ENG_FLAGS_FLAG m &&& o.val else if o.op = 35 then s.get
        F.ENG_FLAGS_FLAG m ||| o.val else if o.op = 36 then (if s.get F.ENG_FLAGS_FLAG m = o.val then o.val2 else s.get F.ENG_FLAGS_FLAG
        m) else o.val) % 2 ^ 32 ∧ (32 ≤ o.op → o.dest ≠ 0 ∧ s.on F.ENG_TAG_AUTO n (slice (s.get H.ENG_JRNL n j 0) 8 8) = false →
        t.get F.ENG_GREG_VAL n o.thread o.dest = s.get F.ENG_FLAGS_FLAG m))) ∧
  (∀ (s : State) (n j d : Nat) (o : EngOp),
      n < 65 → j < 1024 → s.eng.ops.find? (fun o => o.engine == n && o.jidx == j && o.accepted) = some o → o.op = 26 →
        Sys.doneOf s o = d → d < o.count → o.count ≤ 2048 → EngBus.waits s o = false → o.mem % 4 = 0 → o.mem + 4 * o.count ≤ 8192 →
        runs (.opFinal n j (d + 1) 0) s (fun t => Eng.mem t n (o.mem + 4 * d) = (Bus.read (EngBus.who o) (o.target + 4 * o.stride * d)
        s).1 % 2 ^ 32 ∧ (if d + 1 = o.count then t.get H.ENG_JRNL n j 0 % 8 = 2 ∧
        t.eng.ops.any (fun o => o.engine == n && o.jidx == j) = false else Sys.doneOf t o = d + 1 ∧ t.eng.ops = s.eng.ops))) ∧
  (∀ (s : State) (n j d : Nat) (o : EngOp),
      n < 65 → j < 1024 → s.eng.ops.find? (fun o => o.engine == n && o.jidx == j && o.accepted) = some o → o.op = 28 →
        Sys.doneOf s o = d → d < o.count → o.count ≤ 2048 → EngBus.waits s o = false → o.mem % 4 = 0 → o.mem + 4 * o.count ≤ 8192 →
        EngBus.port o < 2 → Qdm.inUse s (EngBus.port o) → runs (.opFinal n j (d + 1) 0) s (fun t => Eng.mem t n (o.mem + 4 * d) =
        Store.get 0 s.qdr (2 ^ 23 * EngBus.port o + o.target % 2 ^ 23 + d) % 2 ^ 32 ∧
        (if d + 1 = o.count then t.get H.ENG_JRNL n j 0 % 8 = 2 ∧ t.eng.ops.any (fun o => o.engine == n && o.jidx == j) = false else
        Sys.doneOf t o = d + 1 ∧ t.eng.ops = s.eng.ops))) ∧
  (∀ (s : State) (n j d : Nat) (o : EngOp),
      n < 65 → j < 1024 → s.eng.ops.find? (fun o => o.engine == n && o.jidx == j && o.accepted) = some o → o.op = 28 →
        Sys.doneOf s o = d → d < o.count → o.count ≤ 2048 → EngBus.waits s o = false → o.mem % 4 = 0 → o.mem + 4 * o.count ≤ 8192 →
        EngBus.port o < 2 → Qdm.inUse s (EngBus.port o) → d + 1 < o.count → s.get H.ENG_JRNL n j 0 < 2 ^ 22 →
        runs (.opFinal n j (d + 1) 1) s (fun t => t.get H.ENG_JRNL n j 0 % 8 = 3 ∧ slice (t.get H.ENG_JRNL n j 0) 22 4 = 8 ∧
        Sys.doneOf t o = d + 1 ∧ t.eng.ops.any (fun o => o.engine == n && o.jidx == j) = false ∧ t.on F.ENG_INT_CAUSE_ABORT n)) ∧
  (∀ (s : State) (n j d : Nat) (o : EngOp),
      n < 65 → j < 1024 → s.eng.ops.find? (fun o => o.engine == n && o.jidx == j && o.accepted) = some o → o.op = 29 →
        Sys.doneOf s o = d → d < o.count → o.count ≤ 2048 → EngBus.waits s o = false → o.mem % 4 = 0 → o.mem + 4 * o.count ≤ 8192 →
        EngBus.port o < 2 → Qdm.inUse s (EngBus.port o) → runs (.opFinal n j (d + 1) 0) s (fun t => Store.get 0 t.qdr (2 ^ 23 *
        EngBus.port o + o.target % 2 ^ 23 + d) = Eng.mem s n (o.mem + 4 * d) ∧ (if d + 1 = o.count then t.get H.ENG_JRNL n j 0 % 8 = 2 ∧
        t.eng.ops.any (fun o => o.engine == n && o.jidx == j) = false else Sys.doneOf t o = d + 1 ∧ t.eng.ops = s.eng.ops))) ∧
  (∀ (s : State) (n j : Nat) (o : EngOp),
      n < 65 → j < 1024 → s.eng.ops.find? (fun o => o.engine == n && o.jidx == j && o.accepted) = some o → EngBus.waits s o = false →
        EngBus.isQdr o → Qdm.inUse s (EngBus.port o) = false → s.get H.ENG_JRNL n j 0 < 2 ^ 22 →
        runs (.opFinal n j 1 0) s (fun t => t.get H.ENG_JRNL n j 0 % 8 = (if Sys.doneOf s o = 0 then 4 else 3) ∧
        slice (t.get H.ENG_JRNL n j 0) 22 4 = 7 ∧ t.eng.ops.any (fun o => o.engine == n && o.jidx == j) = false)) ∧
  (∀ (s : State) (n t : Nat) (v : Nat) (k : Option Nat),
      n < 65 → t < 4 → Eng.thread s n t = 2 → v < 2 ^ 32 → Eng.waitResult s n t (Eng.word s n t) true = some (v, k) →
        runs (.waitEnd n t) s (fun u => result s u n t v ∧ Eng.thread u n t = 1 ∧ (∀ i, k = some i → u.on F.ENG_TAG_ALLOC n i = false))) ∧
  (∀ (s : State) (n t : Nat),
      n < 65 → t < 4 → Eng.thread s n t = 2 → Eng.fc (Eng.word s n t) ≠ 0 →
        runs (.waitTimeout n t) s (fun u => result s u n t 0xFFFFFFFF ∧ Eng.thread u n t = 1)) ∧
  (∀ (s : State) (n t : Nat),
      takes .ENG_CTRL s → s.get F.LCM_STATE_STATE ≠ 5 → n < 65 → t < 4 → (s.leaf = false ∨ n < 16 ∨ n = 64) → (Eng.thread s n t = 0 ∨
        Eng.thread s n t = 4 ∨ Eng.thread s n t = 5) → runs (.threadStart n t) s (fun u => Eng.thread u n t = 1 ∧
        Eng.pc u n t = s.get F.ENG_THR_ENTRY n t ∧ u.get F.ENG_THR_STAT_CAUSE n t = 0)) ∧
  (∀ (s : State) (n t : Nat),
      takes .ENG_CTRL s → n < 65 → t < 4 → 1 ≤ Eng.thread s n t → Eng.thread s n t ≤ 3 →
        runs (.threadStop n t) s (fun u => Eng.thread u n t = 0)) ∧
  (∀ (s : State) (n : Nat) (q r k : Nat),
      takes .ENG_CTRL s → n < 65 → q < 4 → k < 256 → runs (.engReset n) s (fun t => Eng.thread t n q = 0 ∧ Eng.pc t n q = 0 ∧
        Eng.reg t n q r = 0 ∧ t.on F.ENG_TAG_ALLOC n k = false)) ∧
  (∀ (s : State) (master n value : Nat),
      takes .ENG_MEM_DATA s → n < 65 → s.get F.ENG_MEM_ADDR_ADDR n < (if s.on F.ENG_MEM_ADDR_SPACE n then 8192 else 16384) →
        runs (.memDataAccess master n true value) s (fun t => (if s.on F.ENG_MEM_ADDR_SPACE n then t.get H.ENG_DMEM n (s.get
        F.ENG_MEM_ADDR_ADDR n / 4) = value % 2 ^ 32 ∧ t.get H.ENG_IMEM n (s.get F.ENG_MEM_ADDR_ADDR n / 4) = s.get H.ENG_IMEM n (s.get
        F.ENG_MEM_ADDR_ADDR n / 4) else if Eng.quiet s n then t.get H.ENG_IMEM n (s.get F.ENG_MEM_ADDR_ADDR n / 4) = value % 2 ^ 32 else
        t.get H.ENG_IMEM n (s.get F.ENG_MEM_ADDR_ADDR n / 4) = s.get H.ENG_IMEM n (s.get F.ENG_MEM_ADDR_ADDR n / 4) ∧
        t.on F.ENG_INT_CAUSE_MEM_REFUSED n) ∧ t.get F.ENG_MEM_ADDR_ADDR n = (s.get F.ENG_MEM_ADDR_ADDR n + 4) % 2 ^
        F.ENG_MEM_ADDR_ADDR.width)) ∧
  (∀ (s : State) (master n value : Nat),
      takes .ENG_MEM_DATA s → n < 65 → runs (.memDataAccess master n false value) s (fun t => (.readData master (RegId.barAddr
        .ENG_MEM_DATA n 0 0) (if s.on F.ENG_MEM_ADDR_SPACE n then s.get H.ENG_DMEM n (s.get F.ENG_MEM_ADDR_ADDR n / 4) else s.get
        H.ENG_IMEM n (s.get F.ENG_MEM_ADDR_ADDR n / 4)) : Emit) ∈ t.out ∧
        t.get F.ENG_MEM_ADDR_ADDR n = (s.get F.ENG_MEM_ADDR_ADDR n + 4) % 2 ^ F.ENG_MEM_ADDR_ADDR.width)) ∧
  (∀ (s : State),
      takes .SE_SPILL_POP s → runs .spillPop s (fun t => Eng.spilled t = Eng.spilled s - 1)) ∧
  (∀ (s : State) (slot : Nat),
      takes .SE_IMG_CTRL s → slot < 2 → runs (.activate slot) s (fun t => (Img.valid s slot = true → t.get F.SYS_RST_CAUSE_SRC = 5 ∧
        t.get F.SYS_STAT_PHASE = F.SYS_STAT_PHASE.reset) ∧ (Img.valid s slot = false → t.on F.ENG_INT_CAUSE_ACT_ERR 64 = true ∧
        t.get F.SE_IMG_CTRL_SLOT = slot))) ∧
  (∀ (s : State),
      takes .SE_IMG_CTRL s → runs .healthOk s (fun t => if (s.on F.SE_IMG_STAT_TRIAL ∧
        s.get F.SYS_STAT_PHASE = 5) then (t.on F.SE_IMG_STAT_TRIAL = false ∧
        t.get F.SE_IMG_STAT_TRIAL_LEFT = 0) else t.on F.SE_IMG_STAT_TRIAL = s.on F.SE_IMG_STAT_TRIAL)) ∧
  (∀ (s : State),
      s.on F.SE_IMG_STAT_TRIAL → s.get F.SYS_STAT_PHASE = 5 → runs .healthTmo s (fun t => t.get F.SYS_RST_CAUSE_SRC = 5 ∧
        t.get F.SE_IMG_STAT_RB_CAUSE = 2)) ∧
  (∀ (s : State),
      takes .SYS_ROLLBACK s → runs .rollback s (fun t => if ((Img.record s).prevValid = true ∧
        Img.valid s (Img.record s).prev = true) then (t.get F.SYS_RST_CAUSE_SRC = 5 ∧
        t.get F.SE_IMG_STAT_RB_CAUSE = 1) else t.on F.ENG_INT_CAUSE_ACT_ERR 64 = true))

/-- Channel n < 64. The sender's write of a data word of a channel that is not full is stored, its DOORBELL makes the channel FULL with
  the LEN that R273 gives and rings a host receiver's bell; the receiver's read of the last word returns it, empties the channel and sets
  TAKEN. A legal BIND by a host function or SE takes effect. A read of a free lock returns 0 and makes the reader the owner, coinciding
  readers set CONTENDED, the owner's write frees it. A reset of a function marks the channels it receives on and breaks its locks. A post
  of the partner is stored for PEER as the sender. -/
def Obligations.MailboxCommandResults : Prop :=
  (∀ (s : State) (master : Nat) (user : Bool) (n i value : Nat),
      takes .MBX_DATA s → n < 64 → i < 16 → Mbx.isSender s n master → s.on F.MBX_STAT_FULL n = false →
        runs (.mbxDataWrite master user n i value) s (fun t => t.get F.MBX_DATA_DATA n i = value % 2 ^ 32)) ∧
  (∀ (s : State) (master : Nat) (user : Bool) (n value : Nat),
      takes .MBX_DOORBELL s → n < 64 → Mbx.isSender s n master → s.on F.MBX_STAT_FULL n = false →
        runs (.doorbell master user n value) s (fun t => t.on F.MBX_STAT_FULL n ∧ (t.get F.MBX_STAT_LEN n = (if value % 32 = 0 ∨
        16 < value % 32 then 16 else value % 32)) ∧ (Mbx.isHost (s.get F.MBX_BIND_RECEIVER n) = true →
        t.bit F.MBX_DB_PEND_CH (n % 32) (n / 32) = true ∧ t.on F.MBX_INT_CAUSE_DOORBELL = true))) ∧
  (∀ (s : State) (master : Nat) (user : Bool) (n : Nat),
      takes .MBX_DATA s → n < 64 → Mbx.isReceiver s n master → s.on F.MBX_STAT_FULL n → 1 ≤ s.get F.MBX_STAT_LEN n →
        s.get F.MBX_STAT_LEN n ≤ 16 → runs (.mbxTake master user n) s (fun t => (.readData master (RegId.barAddr .MBX_DATA n (s.get
        F.MBX_STAT_LEN n - 1) 0) (s.get F.MBX_DATA_DATA n (s.get F.MBX_STAT_LEN n - 1)) : Emit) ∈ t.out ∧
        t.on F.MBX_STAT_FULL n = false ∧ t.on F.MBX_STAT_TAKEN n)) ∧
  (∀ (s : State) (master : Nat) (user : Bool) (n value : Nat),
      takes .MBX_BIND s → n < 64 → (Mbx.isHost master ∨ master = 9) → s.on F.MBX_STAT_FULL n = false → s.on F.SYS_LOCK_LOCK = false →
        Mbx.isMaster (slice value 0 8) → Mbx.isMaster (slice value 8 8) → slice value 0 8 ≠ slice value 8 8 →
        runs (.bind master user n value) s (fun t => t.get F.MBX_BIND_SENDER n = slice value 0 8 ∧
        t.get F.MBX_BIND_RECEIVER n = slice value 8 8 ∧ t.on F.MBX_BIND_EN n = value.testBit 16)) ∧
  (∀ (s : State) (master : Nat) (user : Bool) (n : Nat) (rivals : List Nat),
      Bus.inReset s (RegId.barAddr .MBX_LOCK n 0 0) = false → n < 64 → 0 < master → master < 256 → s.get F.MBX_LOCK_STAT_OWNER n = 0 →
        runs (.mbxLockAcquire master user n rivals) s (fun t => t.get F.MBX_LOCK_STAT_OWNER n = master ∧
        (.readData master (0x201048 + 0x80 * n) 0 : Emit) ∈ t.out ∧ (rivals ≠ [] → t.on F.MBX_LOCK_STAT_CONTENDED n = true))) ∧
  (∀ (s : State) (master : Nat) (user : Bool) (n : Nat),
      takes .MBX_LOCK s → n < 64 → s.get F.MBX_LOCK_STAT_OWNER n = master →
        runs (.mbxLockRelease master user n) s (fun t => t.get F.MBX_LOCK_STAT_OWNER n = 0)) ∧
  (∀ (s : State) (f : Nat) (n : Nat),
      f < 8 → n < 64 → runs (.functionLevelReset f) s (fun t => (Mbx.isReceiver s n (f + 1) = true →
        t.on F.MBX_STAT_RX_RESET_SEEN n = true) ∧ (Mbx.isSender s n (f + 1) = true → t.on F.MBX_STAT_SENDER_RESET_SEEN n = true) ∧
        (s.get F.MBX_LOCK_STAT_OWNER n = f + 1 → t.get F.MBX_LOCK_STAT_OWNER n = 0 ∧ t.on F.MBX_LOCK_STAT_LOCK_BROKEN n = true) ∧
        t.msix.enabled.testBit f = false)) ∧
  (∀ (s : State) (n : Nat) (words : List Nat) (i : Nat),
      n < 64 → Mbx.isSender s n 96 → s.on F.MBX_STAT_FULL n = false → i < min 16 words.length →
        runs (.peerPost n words) s (fun t => t.get F.MBX_DATA_DATA n i = (words.getD i 0) % 2 ^ 32 ∧ t.on F.MBX_STAT_FULL n ∧
        t.get F.MBX_STAT_LEN n = min 16 words.length))

/-- Counter i. CNT_HI_WRITE stages a master's high half, its CNT_LO_WRITE gives a listed counter (i < 1252) both, but for counter 533,
  which counts that write itself; an event at 2^48 − 1 wraps it to 0 and sets OVF of the sources that watch it under overflow sampling. A
  pick of a sampled engine under random tagging is followed, or counted as skipped while another is; the record of what is followed, or of
  a due overflow sample, enters the ring while it has room, and the record of what is followed is counted as dropped where the ring is
  full; SMP_POP drops the oldest. METHOD_CHANGE takes the method SMP_CFG asks for where no instruction is followed, and a trace write that
  times out is counted as dropped. -/
def Obligations.CounterCommandResults : Prop :=
  (∀ (s : State) (master i value : Nat),
      takes .PMC_CNT_LO s → i < 1252 → i ≠ 533 → runs (.cntLoWrite master i value) s (fun t => t.get H.PMC_CNT i = (s.get H.PMC_STAGE
        master i * 2 ^ 32 + value % 2 ^ 32) % 2 ^ 48)) ∧
  (∀ (s : State) (master i value : Nat),
      takes .PMC_CNT_HI s → i < 1536 → master < 128 → runs (.cntHiWrite master i value) s (fun t => t.get H.PMC_STAGE master i = value %
        2 ^ 16)) ∧
  (∀ (s : State) (i : Nat) (src : Nat),
      i < 1536 → s.get H.PMC_CNT i = 2 ^ 48 - 1 → src < 4 → runs (.pmcOverflow i) s (fun t => t.get H.PMC_CNT i = 0 ∧
        (s.get F.PMC_SMP_STAT_METHOD = 2 ∧ s.on F.PMC_OVF_SEL_EN src = true ∧ s.get F.PMC_OVF_SEL_CNT src = i →
        t.bit F.PMC_OVF_STAT_OVF src = true))) ∧
  (∀ (s : State) (engine thread super op tagged pc tag : Nat),
      s.get F.PMC_SMP_STAT_METHOD = 1 → Pmc.sampled s engine → s.on H.PMC_FOLLOW = false →
        runs (.samplePick engine thread super op tagged pc tag) s (fun t => t.on H.PMC_FOLLOW ∧
        t.get H.PMC_FOLLOW_PC = pc % 4096 + (if tagged = 0 then 0 else tag % 256 * 4096) ∧ t.get H.PMC_FOLLOW_T = Pmc.now s)) ∧
  (∀ (s : State) (engine thread super op tagged pc tag : Nat),
      s.get F.PMC_SMP_STAT_METHOD = 1 → Pmc.sampled s engine → s.on H.PMC_FOLLOW →
        runs (.samplePick engine thread super op tagged pc tag) s (fun t => t.on H.PMC_FOLLOW ∧
        t.get H.PMC_FOLLOW_PC = s.get H.PMC_FOLLOW_PC ∧ t.get F.PMC_SMP_DROP_SKIP = min (2 ^ F.PMC_SMP_DROP_SKIP.width - 1) (s.get
        F.PMC_SMP_DROP_SKIP + 1))) ∧
  (∀ (s : State) (x : Followed),
      s.on H.PMC_FOLLOW → s.get F.PMC_SMP_STAT_COUNT < 64 → runs (.sampleRecord none x) s (fun t => t.on H.PMC_FOLLOW = false ∧
        t.get F.PMC_SMP_STAT_COUNT = s.get F.PMC_SMP_STAT_COUNT + 1 ∧ t.get H.PMC_RING ((s.get H.PMC_RING_HEAD + s.get
        F.PMC_SMP_STAT_COUNT) % 64) 1 = s.get H.PMC_FOLLOW_PC ∧ t.on F.PMC_INT_CAUSE_SMP_AVAIL)) ∧
  (∀ (s : State) (x : Followed),
      s.on H.PMC_FOLLOW → 64 ≤ s.get F.PMC_SMP_STAT_COUNT → runs (.sampleRecord none x) s (fun t => t.on H.PMC_FOLLOW = false ∧
        t.get F.PMC_SMP_STAT_COUNT = s.get F.PMC_SMP_STAT_COUNT ∧ t.get F.PMC_SMP_DROP_RING = min (2 ^ F.PMC_SMP_DROP_RING.width - 1)
        (s.get F.PMC_SMP_DROP_RING + 1) ∧ t.on F.PMC_INT_CAUSE_SMP_DROP)) ∧
  (∀ (s : State) (x : Followed) (k : Nat),
      k < 4 → s.on H.PMC_OVF_DUE k → s.get F.PMC_SMP_STAT_COUNT < 64 → runs (.sampleRecord (some k) x) s (fun t => t.on H.PMC_OVF_DUE k =
        false ∧ t.get F.PMC_SMP_STAT_COUNT = s.get F.PMC_SMP_STAT_COUNT + 1 ∧
        t.get H.PMC_RING ((s.get H.PMC_RING_HEAD + s.get F.PMC_SMP_STAT_COUNT) % 64) 2 = s.get H.PMC_OVF_T k)) ∧
  (∀ (s : State),
      takes .PMC_SMP_POP s → 0 < s.get F.PMC_SMP_STAT_COUNT → runs .smpPop s (fun t => t.get F.PMC_SMP_STAT_COUNT = s.get
        F.PMC_SMP_STAT_COUNT - 1 ∧ t.get H.PMC_RING_HEAD = (s.get H.PMC_RING_HEAD + 1) % 64)) ∧
  (∀ (s : State),
      s.on H.PMC_FOLLOW = false → Pmc.method s ≠ s.get F.PMC_SMP_STAT_METHOD →
        runs .methodChange s (fun t => t.get F.PMC_SMP_STAT_METHOD = Pmc.method s ∧ t.on F.PMC_INT_CAUSE_MODE_CHG)) ∧
  (∀ (s : State),
      s.on F.PMC_SMP_CFG_TRACE → runs .traceWriteTimeout s (fun t => t.get F.PMC_SMP_DROP_TRACE = min (2 ^ F.PMC_SMP_DROP_TRACE.width -
        1) (s.get F.PMC_SMP_DROP_TRACE + 1) ∧ t.on F.PMC_INT_CAUSE_SMP_DROP))

/-- A timer period or SEQ_GO that the sequence is triggered by starts its delay from IDLE, whose end starts the conversions at entry 0,
  and counts a missed trigger in any other state. CONVERSION_END of the sequence stores the saturated and aligned code, sets NEW, and OVR
  over an unread result; after the last entry SEQ_DONE is set; of an injected conversion it stores the code and sets NEW and INJ_DONE; of
  the background scan it stores a sensor's temperature, and after the fifth the highest. An injected request goes to an idle converter or
  stays pending, and is refused while another is pending or converts. A background scan falls due; the calibration of the reference lets
  HKA go and passes where the mean of its 512 codes is within 8 of 4096, else sets NOREF and ends. A PWM period takes PER and DUTY and
  raises its output where the high time with the dither is above 0, and COMPARE lowers it. -/
def Obligations.HousekeepingCommandResults : Prop :=
  (∀ (s : State),
      s.get F.HKA_TIMER_PERIOD ≠ 0 → s.on F.HKA_CTRL_EN → s.get F.HKA_TRIG_SRC = 1 → s.get F.HKA_STAT_STATE = 0 →
        runs .hkaTimer s (fun t => t.get F.HKA_STAT_STATE = 1 ∧ t.get F.HKA_STAT_NEXT = 0)) ∧
  (∀ (s : State),
      takes .HKA_SEQ_GO s → s.on F.HKA_CTRL_EN → (s.get F.HKA_TRIG_SRC = 0 ∨ 18 ≤ s.get F.HKA_TRIG_SRC) → s.get F.HKA_STAT_STATE = 0 →
        runs .seqGo s (fun t => t.get F.HKA_STAT_STATE = 1 ∧ t.get F.HKA_STAT_NEXT = 0)) ∧
  (∀ (s : State),
      takes .HKA_SEQ_GO s → s.on F.HKA_CTRL_EN → (s.get F.HKA_TRIG_SRC = 0 ∨ 18 ≤ s.get F.HKA_TRIG_SRC) → s.get F.HKA_STAT_STATE ≠ 0 →
        runs .seqGo s (fun t => t.on F.HKA_INT_CAUSE_TRIG_MISS ∧ t.get F.HKA_MISS_CNT_COUNT = min (2 ^ 32 - 1) (s.get
        F.HKA_MISS_CNT_COUNT + 1))) ∧
  (∀ (s : State),
      s.get F.HKA_STAT_STATE = 1 → s.on H.HKA_CAL_WAIT = false → runs .delayEnd s (fun t => t.get F.HKA_STAT_STATE = 2 ∧
        (s.get H.HKA_RUN = 0 ∧ s.on F.HKA_CTRL_EN = true ∧ s.on F.HKA_STAT_INJ_PEND = false ∧ s.on H.HKA_SCAN_DUE = false →
        t.get H.HKA_RUN = 1))) ∧
  (∀ (s : State) (code : Int) (e : Nat),
      s.get H.HKA_RUN = 1 → s.get F.HKA_STAT_NEXT = e → runs (.conversionEnd code) s (fun t => t.get F.HKA_RES_DATA e = Hka.stored (s.get
        H.HKA_CUR % 32) (slice (s.get H.HKA_CUR) 5 1) (slice (s.get H.HKA_CUR) 6 1) code % 2 ^ 16 ∧ t.on F.HKA_RES_NEW e ∧
        (s.on F.HKA_RES_NEW e = true → t.on F.HKA_RES_OVR e = true) ∧ (e < s.get F.HKA_CTRL_LEN_M1 → t.get F.HKA_STAT_NEXT = e + 1) ∧
        (s.get F.HKA_CTRL_LEN_M1 ≤ e → t.on F.HKA_INT_CAUSE_SEQ_DONE = true ∧ t.get F.HKA_STAT_NEXT = 0))) ∧
  (∀ (s : State) (code : Int),
      s.get H.HKA_RUN = 2 → runs (.conversionEnd code) s (fun t => t.get F.HKA_INJ_RES_DATA = Hka.stored (s.get H.HKA_CUR % 32) (slice
        (s.get H.HKA_CUR) 5 1) (slice (s.get H.HKA_CUR) 6 1) code % 2 ^ 16 ∧ t.on F.HKA_INJ_RES_NEW ∧ t.on F.HKA_INT_CAUSE_INJ_DONE)) ∧
  (∀ (s : State),
      takes .HKA_INJ s → s.on F.HKA_STAT_INJ_PEND = false → s.get H.HKA_RUN ≠ 2 → runs .injGo s (fun t => (s.get H.HKA_RUN = 0 ∧
        s.on F.HKA_CTRL_EN = true → t.get H.HKA_RUN = 2 ∧ t.get H.HKA_CUR = s.get F.HKA_INJ_CH + 32 * s.get F.HKA_INJ_DIFF + 64 * s.get
        F.HKA_INJ_ALIGN) ∧ (s.get H.HKA_RUN ≠ 0 ∨ s.on F.HKA_CTRL_EN = false → t.on F.HKA_STAT_INJ_PEND = true))) ∧
  (∀ (s : State),
      s.on F.HKA_CTRL_EN → s.on H.HKA_SCAN_DUE = false → runs .backgroundScan s (fun t => t.on H.HKA_SCAN_DUE ∧ t.get H.HKA_SCAN_S = 0)) ∧
  (∀ (s : State) (sum : Int),
      s.on F.HKA_STAT_CAL_HOLD → s.on H.HKA_CAL_WAIT = false → s.get F.CAL_STAT_STATE = 1 → (sum - 4096 * 512).natAbs ≤ 8 * 512 →
        runs (.hkaCalDone sum) s (fun t => t.on F.HKA_STAT_CAL_HOLD = false ∧ t.get F.CAL_STAT_STATE = 2)) ∧
  (∀ (s : State) (p : Nat),
      p < 8 → runs (.pwmPeriodStart p) s (fun t => t.get H.HKA_PWM_P p = s.get F.HKA_PWM_PER_VAL p ∧
        t.get H.HKA_PWM_C p = s.get F.HKA_PWM_DUTY_VAL p ∧ (s.get F.HKA_PWM_PER_VAL p = 0 → t.on H.HKA_PWM_OUT p = false) ∧
        (s.get F.HKA_PWM_PER_VAL p ≠ 0 ∧ s.get F.HKA_PWM_DITH_VAL p = 0 →
        t.on H.HKA_PWM_OUT p = decide (s.get F.HKA_PWM_DUTY_VAL p ≠ 0)) ∧ (s.get F.HKA_PWM_PER_VAL p ≠ 0 →
        t.on H.HKA_PWM_OUT p = decide (0 < Hka.highTicks t p)))) ∧
  (∀ (s : State) (p : Nat),
      p < 8 → s.on H.HKA_PWM_OUT p → Hka.highTicks s p < s.get H.HKA_PWM_P p →
        runs (.pwmCompare p) s (fun t => t.on H.HKA_PWM_OUT p = false)) ∧
  (∀ (s : State),
      s.get F.HKA_TIMER_PERIOD ≠ 0 → s.on F.HKA_CTRL_EN → s.get F.HKA_TRIG_SRC = 1 → s.get F.HKA_STAT_STATE ≠ 0 →
        runs .hkaTimer s (fun t => t.get F.HKA_STAT_STATE = s.get F.HKA_STAT_STATE ∧ t.on F.HKA_INT_CAUSE_TRIG_MISS ∧
        t.get F.HKA_MISS_CNT_COUNT = min (2 ^ 32 - 1) (s.get F.HKA_MISS_CNT_COUNT + 1))) ∧
  (∀ (s : State) (code : Int) (i : Nat),
      s.get H.HKA_RUN = 3 → s.get H.HKA_SCAN_S = i → i < 5 → 16 ≤ s.get H.HKA_CUR % 32 → s.get H.HKA_CUR % 32 < 23 →
        runs (.conversionEnd code) s (fun t => t.sget F.HKA_DIE_TEMP_TEMP i = clampInt 0 16383 code - 4096 ∧ (i = 4 →
        t.on H.HKA_SCAN_DUE = false ∧ t.sget F.HKA_DIE_HOT_TEMP = Hka.hottest t))) ∧
  (∀ (s : State),
      takes .HKA_INJ s → (s.on F.HKA_STAT_INJ_PEND ∨ s.get H.HKA_RUN = 2) → runs .injGo s (fun t => t.on F.HKA_INT_CAUSE_INJ_REFUSED ∧
        t.get H.HKA_RUN = s.get H.HKA_RUN)) ∧
  (∀ (s : State) (sum : Int),
      s.on F.HKA_STAT_CAL_HOLD → s.on H.HKA_CAL_WAIT = false → s.get F.CAL_STAT_STATE = 1 → 8 * 512 < (sum - 4096 * 512).natAbs →
        runs (.hkaCalDone sum) s (fun t => t.on F.HKA_STAT_CAL_HOLD = false ∧ t.get F.CAL_STAT_STATE = 0 ∧ t.on F.CAL_INT_CAUSE_NOREF))

/-- Channel f < 8. The sample that waits at its input counts and moves the decimation on, and every D samples an output falls due;
  FLT_OUTPUT puts it into the FIR history of 32 and shows the saturated FIR sum of the active bank, during a fade of L outputs the old and
  the new bank's mixed by (L - i - 1) and (i + 1) parts of L. VALID is set once the settling time has passed. SWAP makes a fade of 16 x
  2^XFADE outputs due (XFADE 7 acting as 6), or is held while one runs; the end of a fade exchanges the banks, and makes the held one due.
  A write of CH_CFG takes the settings and restarts the channel where one of SRC, CHAIN, ORDER, DEC_M1, MED and LOCKIN changes; PRESET
  takes the settings of Table FLT-1. -/
def Obligations.FilterCommandResults : Prop :=
  (∀ (s : State) (f sum : Nat),
      f < 8 → s.bit F.FLT_CTRL_EN f → s.on H.FLT_IN_NEW f = (s.get F.FLT_CH_CFG_SRC f < 32 || 40 ≤ s.get F.FLT_CH_CFG_SRC f) →
        runs (.fltSample f sum) s (fun t => t.get H.FLT_SAMPLES f = min (2 ^ H.FLT_SAMPLES.width - 1) (s.get H.FLT_SAMPLES f + 1) ∧
        t.on H.FLT_IN_NEW f = false ∧ t.get H.FLT_PHASE f = (if s.get H.FLT_PHASE f + 1 < Flt.decimation s f then s.get H.FLT_PHASE f + 1
        else 0) ∧ (Flt.decimation s f ≤ s.get H.FLT_PHASE f + 1 → t.on H.FLT_DUE f = true))) ∧
  (∀ (s : State) (f : Nat) (x : List Int),
      f < 8 → s.on H.FLT_DUE f → s.on F.FLT_CH_STAT_FADING f = false → s.on H.FLT_SWAP_DUE f = false →
        x = (s.sget H.FLT_DUE_VAL f :: (Flt.chan s f).fir).take 32 → runs (.fltOutput f) s (fun t => t.on H.FLT_DUE f = false ∧
        (Flt.chan t f).fir = x ∧ t.sget F.FLT_OUT_VAL f = clampInt (-8388607) 8388607 (Flt.firSum s H.FLT_TAP f x))) ∧
  (∀ (s : State) (f : Nat) (x : List Int) (l i : Nat),
      f < 8 → s.on H.FLT_DUE f → s.on F.FLT_CH_STAT_FADING f → s.on H.FLT_SWAP_DUE f = false → s.get H.FLT_FADE_L f = l →
        s.get H.FLT_FADE_I f = i → i < l → l ≤ 1024 → x = (s.sget H.FLT_DUE_VAL f :: (Flt.chan s f).fir).take 32 →
        runs (.fltOutput f) s (fun t => t.on H.FLT_DUE f = false ∧ (Flt.chan t f).fir = x ∧ t.get H.FLT_FADE_I f = i + 1 ∧
        t.sget F.FLT_OUT_VAL f = clampInt (-8388607) 8388607 (Flt.halfEven (clampInt (-8388607) 8388607 (Flt.firSum s H.FLT_TAP f x) *
        ((l : Int) - (i + 1)) + clampInt (-8388607) 8388607 (Flt.firSum s F.FLT_FIR_C f x) * (i + 1)) l))) ∧
  (∀ (s : State) (f : Nat),
      f < 8 → s.bit F.FLT_CTRL_EN f → Flt.settling s f ≤ s.get H.FLT_SAMPLES f →
        runs (.fltValid f) s (fun t => t.on F.FLT_CH_STAT_VALID f)) ∧
  (∀ (s : State) (f : Nat),
      takes .FLT_CH_CTRL s → f < 8 → s.on F.FLT_CH_STAT_FADING f = false → runs (.firSwap f) s (fun t => t.on H.FLT_SWAP_DUE f ∧
        t.get H.FLT_FADE_L f = 16 * 2 ^ min 6 (s.get F.FLT_CH_CTRL_XFADE f))) ∧
  (∀ (s : State) (f : Nat),
      takes .FLT_CH_CTRL s → f < 8 → s.on F.FLT_CH_STAT_FADING f → runs (.firSwap f) s (fun t => t.on F.FLT_CH_STAT_SWAP_HELD f)) ∧
  (∀ (s : State) (f : Nat) (k : Nat),
      f < 8 → k < 32 → s.on F.FLT_CH_STAT_FADING f → s.get H.FLT_FADE_L f ≤ s.get H.FLT_FADE_I f →
        runs (.firFadeDone f) s (fun t => t.on F.FLT_CH_STAT_FADING f = false ∧
        t.get F.FLT_CH_STAT_BANK f = 1 - s.get F.FLT_CH_STAT_BANK f ∧ t.bit F.FLT_INT_CAUSE_FADE_DONE f ∧
        t.get H.FLT_TAP f k = s.get F.FLT_FIR_C f k ∧ t.get F.FLT_FIR_C f k = s.get H.FLT_TAP f k ∧
        (s.on F.FLT_CH_STAT_SWAP_HELD f = true → t.on H.FLT_SWAP_DUE f = true))) ∧
  (∀ (s : State) (f value : Nat),
      takes .FLT_CH_CFG s → f < 8 → runs (.fltCfgWrite f value) s (fun t => t.get F.FLT_CH_CFG_SRC f = slice value 0 6 ∧
        t.get F.FLT_CH_CFG_CHAIN f = slice value 6 2 ∧ t.get F.FLT_CH_CFG_ORDER f = slice value 8 2 ∧
        t.get F.FLT_CH_CFG_DEC_M1 f = slice value 10 12 ∧ t.get F.FLT_CH_CFG_MED f = slice value 22 2 ∧
        t.get F.FLT_CH_CFG_LOCKIN f = slice value 24 1 ∧ t.get F.FLT_CH_CFG_LOCKIN_PWM f = slice value 25 3 ∧
        (if (s.get F.FLT_CH_CFG_SRC f = slice value 0 6 ∧ s.get F.FLT_CH_CFG_CHAIN f = slice value 6 2 ∧
        s.get F.FLT_CH_CFG_ORDER f = slice value 8 2 ∧ s.get F.FLT_CH_CFG_DEC_M1 f = slice value 10 12 ∧
        s.get F.FLT_CH_CFG_MED f = slice value 22 2 ∧ s.get F.FLT_CH_CFG_LOCKIN f = slice value 24 1) then t.on F.FLT_CH_STAT_VALID f =
        s.on F.FLT_CH_STAT_VALID f else (t.on F.FLT_CH_STAT_VALID f = false ∧ t.get H.FLT_SAMPLES f = 0 ∧
        t.get F.FLT_CH_CTRL_PRESET f = 0)))) ∧
  (∀ (s : State) (f preset : Nat),
      takes .FLT_CH_CTRL s → f < 8 → 1 ≤ preset → preset ≤ 4 → runs (.fltPreset f preset) s (fun t => (preset = 1 →
        t.get F.FLT_CH_CFG_CHAIN f = 0 ∧ t.get F.FLT_CH_CFG_ORDER f = 2 ∧ t.get F.FLT_CH_CFG_DEC_M1 f = 1023) ∧ (preset = 2 →
        t.get F.FLT_CH_CFG_CHAIN f = 1 ∧ t.get F.FLT_CH_CFG_ORDER f = 1 ∧ t.get F.FLT_CH_CFG_DEC_M1 f = 127 ∧
        t.get F.FLT_CH_CFG_MED f = 1) ∧ (preset = 3 → t.get F.FLT_CH_CFG_CHAIN f = 0 ∧ t.get F.FLT_CH_CFG_ORDER f = 0 ∧
        t.get F.FLT_CH_CFG_DEC_M1 f = 15) ∧ (preset = 4 → t.get F.FLT_CH_CFG_CHAIN f = 2 ∧ t.get F.FLT_CH_CFG_ORDER f = 0 ∧
        t.get F.FLT_CH_CFG_DEC_M1 f = 3 ∧ t.get F.FLT_CH_CFG_MED f = 0) ∧ t.on F.FLT_CH_STAT_VALID f = false))

/-- A write of LOOP_CFG with EN 1 and a target of at most 8 enables the loop where its limits are ordered, at its target's present value
  where it was off or had another target; limits out of order leave it off with CFG_ERR. A host frame goes out with its checksum at once
  on an idle port, waits behind LSR's own command or while the port is off, and is ignored while one waits or runs. A response with a good
  checksum and status 0 or 3 ends the host's command with SER_DONE, unless it changes a frequency or is pending (status 3), when the port
  polls; a bad checksum or a failing status ends it with SER_ERR; so does a timeout. A poll goes on while the operation is pending and
  else ends it. A write of an unowned FT_OUT sets the frequency and its clamped code, of an owned one nothing but OWNED; a GAIN_KHZ of at
  least 196 takes effect with the frequency kept, a smaller one is refused with CFG_ERR. -/
def Obligations.OpticsCommandResults : Prop :=
  (∀ (s : State) (b value : Nat),
      takes .LSR_LOOP_CFG s → b < 8 → value % 2 = 1 → slice value 6 4 ≤ 8 →
        Flt.limitOf (slice value 6 4) (s.get F.LSR_LOOP_LIM_MIN b) ≤ Flt.limitOf (slice value 6 4) (s.get F.LSR_LOOP_LIM_MAX b) →
        runs (.biasLoopEnable b value) s (fun t => t.on F.LSR_LOOP_CFG_EN b ∧ t.get F.LSR_LOOP_CFG_TARGET b = slice value 6 4 ∧
        (s.on F.LSR_LOOP_CFG_EN b = false ∨ s.get F.LSR_LOOP_CFG_TARGET b ≠ slice value 6 4 →
        t.get F.LSR_LOOP_STAT_U b = unsigned 16 (Flt.targetValue s (slice value 6 4))))) ∧
  (∀ (s : State) (b value : Nat),
      takes .LSR_LOOP_CFG s → b < 8 → value % 2 = 1 → slice value 6 4 ≤ 8 →
        Flt.limitOf (slice value 6 4) (s.get F.LSR_LOOP_LIM_MAX b) < Flt.limitOf (slice value 6 4) (s.get F.LSR_LOOP_LIM_MIN b) →
        runs (.biasLoopEnable b value) s (fun t => t.on F.LSR_LOOP_CFG_EN b = false ∧ t.on F.LSR_INT_CAUSE_CFG_ERR)) ∧
  (∀ (s : State) (l value : Nat),
      takes .LSR_SER_CMD s → l < 2 → s.on H.LSR_HOST_PEND l = false → s.on H.LSR_HOST_RUN l = false → s.on H.LSR_OWN_PEND l = false →
        s.on H.LSR_OWN_RUN l = false → s.bit F.LSR_CTRL_SER_EN l → s.on H.LSR_TUNE_PEND l = false →
        runs (.serCmd l value) s (fun t => t.on H.LSR_HOST_RUN l ∧ (.serial l (Lsr.sealed value) : Emit) ∈ t.out ∧
        t.bit F.LSR_STAT_SER_BUSY l ∧ t.get F.LSR_SER_CMD_FRAME l = Lsr.sealed value % 2 ^ 32)) ∧
  (∀ (s : State) (l value : Nat),
      takes .LSR_SER_CMD s → l < 2 → s.on H.LSR_HOST_PEND l = false → s.on H.LSR_HOST_RUN l = false → (s.on H.LSR_OWN_RUN l ∨
        s.bit F.LSR_CTRL_SER_EN l = false) → runs (.serCmd l value) s (fun t => t.on H.LSR_HOST_PEND l ∧ t.on H.LSR_HOST_RUN l = false ∧
        t.get F.LSR_SER_CMD_FRAME l = Lsr.sealed value % 2 ^ 32 ∧ t.bit F.LSR_STAT_SER_BUSY l)) ∧
  (∀ (s : State) (l value : Nat),
      takes .LSR_SER_CMD s → l < 2 → (s.on H.LSR_HOST_PEND l ∨ s.on H.LSR_HOST_RUN l) →
        runs (.serCmd l value) s (fun t => t.get F.LSR_SER_CMD_FRAME l = s.get F.LSR_SER_CMD_FRAME l ∧
        t.on H.LSR_HOST_RUN l = s.on H.LSR_HOST_RUN l ∧ t.on H.LSR_HOST_PEND l = s.on H.LSR_HOST_PEND l)) ∧
  (∀ (s : State) (l frame : Nat),
      l < 2 → frame < 2 ^ 32 → s.on H.LSR_HOST_RUN l → s.on H.LSR_OWN_RUN l = false → slice frame 28 4 = Lsr.checksum frame →
        (Lsr.status frame = 0 ∨ Lsr.status frame = 3) → runs (.serResponse l frame) s (fun t => t.get F.LSR_SER_RESP_FRAME l = frame ∧
        (if (Lsr.changesFrequency (s.get F.LSR_SER_CMD_FRAME l) ∨ Lsr.status frame = 3) then (t.on H.LSR_POLLING l = true ∧
        t.on H.LSR_HOST_RUN l = true) else (t.on F.LSR_INT_CAUSE_SER_DONE = true ∧ (s.on H.LSR_HOST_PEND l = false →
        t.on H.LSR_HOST_RUN l = false))))) ∧
  (∀ (s : State) (l frame : Nat),
      l < 2 → s.on H.LSR_HOST_RUN l → (slice frame 28 4 ≠ Lsr.checksum frame ∨ Lsr.status frame = 1 ∨ Lsr.status frame = 2) →
        runs (.serResponse l frame) s (fun t => t.on F.LSR_INT_CAUSE_SER_ERR ∧ t.get F.LSR_SER_RESP_FRAME l = frame % 2 ^ 32 ∧
        (s.on H.LSR_HOST_PEND l = false → t.on H.LSR_HOST_RUN l = false))) ∧
  (∀ (s : State) (l : Nat) (waiting : Bool),
      l < 2 → s.on H.LSR_POLLING l → runs (.serPoll l waiting) s (fun t => (waiting = true → t.on H.LSR_POLLING l = true ∧
        (.serial l (Lsr.command 0 0 0) : Emit) ∈ t.out) ∧ (waiting = false → t.on F.LSR_INT_CAUSE_SER_DONE = true ∧
        t.on H.LSR_POLLING l = false))) ∧
  (∀ (s : State) (l : Nat),
      l < 2 → s.on H.LSR_HOST_RUN l → runs (.serTimeout l) s (fun t => t.on F.LSR_INT_CAUSE_SER_ERR ∧ (s.on H.LSR_HOST_PEND l = false →
        t.on H.LSR_HOST_RUN l = false))) ∧
  (∀ (s : State) (i value : Nat),
      takes .LSR_FT_OUT s → i < 2 → Lsr.owner s i = 0 → runs (.ftOutWrite i value) s (fun t => t.sget F.LSR_FT_OUT_MHZ i = signed 10
        value ∧ t.get H.LSR_CODE i = (clampInt 0 4095 (2048 + roundDivInt (1000 * signed 10 value) (s.get F.LSR_FT_CFG_GAIN_KHZ
        i))).toNat)) ∧
  (∀ (s : State) (i value : Nat),
      takes .LSR_FT_OUT s → i < 2 → Lsr.owner s i ≠ 0 → runs (.ftOutWrite i value) s (fun t => t.on F.LSR_INT_CAUSE_OWNED ∧
        t.sget F.LSR_FT_OUT_MHZ i = s.sget F.LSR_FT_OUT_MHZ i ∧ t.get H.LSR_CODE i = s.get H.LSR_CODE i)) ∧
  (∀ (s : State) (i value : Nat),
      takes .LSR_FT_CFG s → i < 2 → 196 ≤ value % 65536 → runs (.gainKhzWrite i value) s (fun t => t.get F.LSR_FT_CFG_GAIN_KHZ i = value
        % 65536 ∧ t.sget F.LSR_FT_OUT_MHZ i = s.sget F.LSR_FT_OUT_MHZ i ∧
        t.get H.LSR_CODE i = (clampInt 0 4095 (2048 + roundDivInt (1000 * s.sget F.LSR_FT_OUT_MHZ i) (value % 65536))).toNat)) ∧
  (∀ (s : State) (i value : Nat),
      takes .LSR_FT_CFG s → i < 2 → value % 65536 < 196 → runs (.gainKhzWrite i value) s (fun t => t.on F.LSR_INT_CAUSE_CFG_ERR ∧
        t.get F.LSR_FT_CFG_GAIN_KHZ i = s.get F.LSR_FT_CFG_GAIN_KHZ i))

/-- GO_FULL and GO_TRACK start a run from IDLE where R318 allows it and no self-test slice holds the converters: the state is HKA, and the
  type, the start time and the request to HKA are taken; they set BUSY and leave the state otherwise. The sine is good at 80 mV; PASS1
  leads to PASS2, whose end is noted; ABORT of a pass and a failed check return to IDLE. A run whose passes agree counts, is valid, and
  goes to FLASH; one whose passes disagree is refused with the disagreement shown. FLASH_DONE ends it. RETRY_S ends. BST_GO with no run
  runs the lowest slice of its mask where it is permitted and ready; a mask of one slice that is not ends at once, REFUSED or SKIPPED. A
  slice's end records its result, a time-out the whole budget, ABORT the result ABORTED; the failed slices 0 to 3 are marked in SAFE_BY
  and, without OVERRIDE, hold the safe state. OVERRIDE is taken in the workshop states. -/
def Obligations.CalibrationCommandResults : Prop :=
  (∀ (s : State),
      takes .CAL_CTRL s → s.get F.CAL_STAT_STATE = 0 → Cal.sliceHolds s = false → Cal.allowed s false →
        runs .goFull s (fun t => t.get F.CAL_STAT_STATE = 1 ∧ t.on F.CAL_STAT_TYPE = false ∧ t.get H.CAL_T0 = s.get F.SYN_TIME_HI_VAL ∧
        (t.on H.HKA_CAL_WAIT = true ∨ t.on F.HKA_STAT_CAL_HOLD = true))) ∧
  (∀ (s : State),
      takes .CAL_CTRL s → s.get F.CAL_STAT_STATE = 0 → Cal.sliceHolds s = false → Cal.allowed s true →
        runs .goTrack s (fun t => t.get F.CAL_STAT_STATE = 1 ∧ t.on F.CAL_STAT_TYPE ∧ t.get H.CAL_T0 = s.get F.SYN_TIME_HI_VAL ∧
        (t.on H.HKA_CAL_WAIT = true ∨ t.on F.HKA_STAT_CAL_HOLD = true))) ∧
  (∀ (s : State),
      takes .CAL_CTRL s → (s.get F.CAL_STAT_STATE ≠ 0 ∨ Cal.sliceHolds s = true ∨ Cal.allowed s true = false) →
        runs .goTrack s (fun t => t.on F.CAL_INT_CAUSE_BUSY ∧ t.get F.CAL_STAT_STATE = s.get F.CAL_STAT_STATE)) ∧
  (∀ (s : State),
      takes .CAL_CTRL s → (s.get F.CAL_STAT_STATE ≠ 0 ∨ Cal.sliceHolds s = true ∨ Cal.allowed s false = false) →
        runs .goFull s (fun t => t.on F.CAL_INT_CAUSE_BUSY ∧ t.get F.CAL_STAT_STATE = s.get F.CAL_STAT_STATE)) ∧
  (∀ (s : State), runs .calRetryExpiry s (fun t => t.on H.CAL_RETRY = false)) ∧
  (∀ (s : State),
      takes .CAL_CTRL s → (s.get F.CAL_STAT_STATE = 3 ∨ s.get F.CAL_STAT_STATE = 4) →
        runs .calAbort s (fun t => t.get F.CAL_STAT_STATE = 0 ∧ t.on F.CAL_INT_CAUSE_ABORTED)) ∧
  (∀ (s : State) (mvpp : Nat),
      s.get F.CAL_STAT_STATE = 2 → runs (.sineCheck mvpp) s (fun t => (80 ≤ mvpp → t.get F.CAL_STAT_STATE = 3) ∧ (mvpp < 80 →
        t.get F.CAL_STAT_STATE = 0 ∧ t.on F.CAL_INT_CAUSE_NOREF = true))) ∧
  (∀ (s : State),
      s.get F.CAL_STAT_STATE = 3 → runs .calPassEnd s (fun t => t.get F.CAL_STAT_STATE = 4)) ∧
  (∀ (s : State),
      s.get F.CAL_STAT_STATE = 4 → runs .calPassEnd s (fun t => t.get F.CAL_STAT_STATE = 4 ∧ t.on H.CAL_PASSED)) ∧
  (∀ (s : State) (adc : List (List SubSlice)) (dac : List DacLane),
      s.get F.CAL_STAT_STATE = 4 → s.on H.CAL_PASSED → Cal.firstApart (s.on F.CAL_STAT_TYPE) adc dac = none →
        runs (.calRunEnd adc dac) s (fun t => t.get F.CAL_STAT_STATE = 5 ∧
        t.get F.CAL_COUNT_VAL = (s.get F.CAL_COUNT_VAL + 1) % 2 ^ F.CAL_COUNT_VAL.width ∧ t.get F.CAL_LAST_TIME_VAL = s.get H.CAL_T0 ∧
        t.on F.CAL_STAT_VALID ∧ t.on F.CAL_STAT_FLASH_BUSY ∧ t.on F.CAL_INT_CAUSE_DONE)) ∧
  (∀ (s : State) (adc : List (List SubSlice)) (dac : List DacLane) (d p e q diff : Nat),
      s.get F.CAL_STAT_STATE = 4 → s.on H.CAL_PASSED → Cal.firstApart (s.on F.CAL_STAT_TYPE) adc dac = some (d, p, e, q, diff) →
        runs (.calRunEnd adc dac) s (fun t => t.get F.CAL_STAT_STATE = 0 ∧ t.on F.CAL_INT_CAUSE_CAL_DISAGREE ∧
        t.get F.CAL_DIS_STAT_P = p % 2 ^ F.CAL_DIS_STAT_P.width ∧ t.get F.CAL_DIS_STAT_DIFF = min 65535 diff)) ∧
  (∀ (s : State) (ok : Bool),
      s.on F.CAL_STAT_FLASH_BUSY → runs (.calFlashDone ok) s (fun t => t.on F.CAL_STAT_FLASH_BUSY = false ∧ t.get F.CAL_STAT_STATE = 0 ∧
        (ok = false → t.on F.CAL_INT_CAUSE_FLASH_ERR = true))) ∧
  (∀ (s : State) (mask : Nat) (n : Nat),
      takes .BST_CTRL s → s.on F.BST_STAT_BUSY = false → n < 7 → mask.testBit n → (List.range n).all (fun i => !mask.testBit i) = true →
        Bst.permitted s n → Bst.ready s n → runs (.bistGo mask) s (fun t => t.on F.BST_STAT_BUSY ∧ t.get F.BST_STAT_CUR = n)) ∧
  (∀ (s : State),
      takes .BST_CTRL s → s.on F.BST_STAT_BUSY → s.get F.BST_STAT_CUR < 7 → runs .bistAbort s (fun t => t.on F.BST_STAT_BUSY = false ∧
        t.get F.BST_RESULT_RESULT (s.get F.BST_STAT_CUR) = 6 ∧ t.on F.BST_INT_CAUSE_DONE)) ∧
  (∀ (s : State) (result detail elapsed : Nat) (n : Nat),
      s.on F.BST_STAT_BUSY → s.on H.BST_WAITING = false → s.get F.BST_STAT_CUR = n → n < 7 → (result = 1 ∨ result = 2) →
        s.bit H.BST_TODO n = false → runs (.sliceEnd result detail elapsed) s (fun t => t.get F.BST_RESULT_RESULT n = result ∧
        t.get F.BST_RESULT_ELAPSED n = min 65535 elapsed ∧ (result = 2 → t.on F.BST_INT_CAUSE_FAIL = true) ∧ (n < 4 →
        t.bit F.BST_STAT_SAFE_BY n = decide (result = 2)) ∧ (n < 4 ∧ result = 2 ∧ s.on F.BST_CTRL_OVERRIDE = false →
        t.on F.BST_STAT_SAFE = true))) ∧
  (∀ (s : State) (n : Nat),
      s.on F.BST_STAT_BUSY → s.on H.BST_WAITING = false → s.get F.BST_STAT_CUR = n → n < 7 → s.bit H.BST_TODO n = false →
        runs .sliceTimeout s (fun t => t.get F.BST_RESULT_RESULT n = 3 ∧ t.get F.BST_RESULT_ELAPSED n = Bst.budget s n ∧
        t.on F.BST_INT_CAUSE_FAIL ∧ (n < 4 → t.bit F.BST_STAT_SAFE_BY n = true))) ∧
  (∀ (s : State) (value : Nat),
      takes .BST_CTRL s → Bst.workshop s → runs (.override value) s (fun t => t.get F.BST_CTRL_OVERRIDE = value % 2 ∧ (value % 2 = 1 →
        t.on F.BST_STAT_SAFE = false))) ∧
  (∀ (s : State) (mask n : Nat),
      takes .BST_CTRL s → s.on F.BST_STAT_BUSY = false → n < 7 → mask = 2 ^ n → (Bst.permitted s n && Bst.ready s n) = false →
        runs (.bistGo mask) s (fun t => t.on F.BST_STAT_BUSY = false ∧ t.on F.BST_INT_CAUSE_DONE ∧
        t.get F.BST_RESULT_RESULT n = (if Bst.permitted s n then 4 else 5)))

/-- A transition that R332 allows, written by a host function with its confirmation word, starts the fuses; any other is refused with the
  ERR code of the first check that fails, and changes no state. FUSE_DONE takes the new state with an image-loading reset, for SCRAPPED
  instead with the vault erased and the safe state held. KEY_COMMIT burns the staged hash of a blank slot in BLANK and MANUFACTURE,
  KEY_REVOKE revokes a usable slot from state 2 to 4 while another is left; both are refused otherwise, with their code. The first
  challenge word is returned, and where the challenge is older than 600 s it is a new one: a free value, of which nothing else is said. -/
def Obligations.LifeCycleCommandResults : Prop :=
  (∀ (s : State) (master value : Nat),
      takes .LCM_TRANS s → Mbx.isHost master → s.on F.LCM_STAT_BUSY = false → slice value 16 16 = 0x5CA1 →
        Lcm.order (Lcm.life s) (slice value 0 3) → (slice value 0 3 = 2 → Lcm.anyUsable s = true) → (slice value 0 3 = 4 →
        Lcm.authorised s (slice value 3 2) = true) → runs (.lcmTransition master value) s (fun t => t.on F.LCM_STAT_BUSY ∧
        t.get H.LCM_TARGET = slice value 0 3 ∧ t.get F.LCM_STAT_ERR = 0)) ∧
  (∀ (s : State) (master value : Nat),
      takes .LCM_TRANS s → (Mbx.isHost master = false ∨ s.on F.LCM_STAT_BUSY = true ∨ slice value 16 16 ≠ 0x5CA1 ∨
        Lcm.order (Lcm.life s) (slice value 0 3) = false ∨ (slice value 0 3 = 2 ∧ Lcm.anyUsable s = false) ∨ (slice value 0 3 = 4 ∧
        Lcm.authorised s (slice value 3 2) = false)) → runs (.lcmTransition master value) s (fun t => t.get F.LCM_STAT_ERR = (if
        Mbx.isHost master = false then 3 else if s.on F.LCM_STAT_BUSY then 6 else if slice value 16 16 ≠ 0x5CA1 then 5 else if Lcm.order
        (Lcm.life s) (slice value 0 3) = false then 1 else if slice value 0 3 = 2 then 2 else 4) ∧ t.on F.LCM_INT_CAUSE_REFUSED ∧
        t.on F.LCM_STAT_BUSY = s.on F.LCM_STAT_BUSY ∧ Lcm.life t = Lcm.life s)) ∧
  (∀ (s : State),
      s.on F.LCM_STAT_BUSY → s.get H.LCM_TARGET = 5 → runs .fuseDone s (fun t => t.get F.LCM_STATE_STATE = 5 ∧ t.on F.BST_STAT_SAFE ∧
        t.on F.CRY_INT_CAUSE_ERASED ∧ (t.get F.LSR_STAT_HOLD).testBit 1 = true)) ∧
  (∀ (s : State),
      s.on F.LCM_STAT_BUSY → s.get H.LCM_TARGET ≠ 5 → runs .fuseDone s (fun t => t.get F.LCM_STATE_STATE = s.get H.LCM_TARGET ∧
        t.get F.SYS_RST_CAUSE_SRC = 5 ∧ t.on F.LCM_STAT_BUSY = false)) ∧
  (∀ (s : State) (k : Nat) (w : Nat),
      takes .LCM_KEY_CTRL s → k < 4 → w < 12 → s.get F.LCM_STATE_STATE ≤ 1 → s.bit F.LCM_KEY_STAT_WRITTEN k = false →
        runs (.keyCommit k) s (fun t => t.get H.LCM_FUSE_HASH k w = s.get F.LCM_KEY_HASH_DATA k w ∧ t.bit F.LCM_KEY_STAT_WRITTEN k)) ∧
  (∀ (s : State) (k : Nat),
      takes .LCM_KEY_CTRL s → k < 4 → (2 ≤ s.get F.LCM_STATE_STATE ∨ s.bit F.LCM_KEY_STAT_WRITTEN k = true) →
        runs (.keyCommit k) s (fun t => t.get F.LCM_STAT_ERR = (if 2 ≤ s.get F.LCM_STATE_STATE then 1 else 7) ∧
        t.on F.LCM_INT_CAUSE_REFUSED ∧ t.bit F.LCM_KEY_STAT_WRITTEN k = s.bit F.LCM_KEY_STAT_WRITTEN k)) ∧
  (∀ (s : State) (k : Nat),
      takes .LCM_KEY_CTRL s → k < 4 → 2 ≤ s.get F.LCM_STATE_STATE → s.get F.LCM_STATE_STATE ≤ 4 → Lcm.usable s k →
        1 < ((List.range 4).filter (Lcm.usable s)).length → runs (.keyRevoke k) s (fun t => t.bit F.LCM_KEY_STAT_REVOKED k)) ∧
  (∀ (s : State) (k : Nat),
      takes .LCM_KEY_CTRL s → k < 4 → (s.get F.LCM_STATE_STATE < 2 ∨ 4 < s.get F.LCM_STATE_STATE ∨ Lcm.usable s k = false ∨
        ((List.range 4).filter (Lcm.usable s)).length ≤ 1) → runs (.keyRevoke k) s (fun t => t.get F.LCM_STAT_ERR = (if (s.get
        F.LCM_STATE_STATE < 2 ∨ 4 < s.get F.LCM_STATE_STATE) then 1 else if Lcm.usable s k = false then 7 else 2) ∧
        t.on F.LCM_INT_CAUSE_REFUSED ∧ t.bit F.LCM_KEY_STAT_REVOKED k = s.bit F.LCM_KEY_STAT_REVOKED k)) ∧
  (∀ (s : State) (master : Nat),
      takes .LCM_CHALLENGE s → s.get H.LCM_CHAL_AGE ≤ 600 → runs (.challengeRead master) s (fun t => (.readData master (RegId.barAddr
        .LCM_CHALLENGE 0 0 0) (s.get F.LCM_CHALLENGE_VAL 0) : Emit) ∈ t.out)) ∧
  (∀ (s : State) (master : Nat),
      takes .LCM_CHALLENGE s → 600 < s.get H.LCM_CHAL_AGE → runs (.challengeRead master) s (fun t => (.readData master (RegId.barAddr
        .LCM_CHALLENGE 0 0 0) (t.get F.LCM_CHALLENGE_VAL 0) : Emit) ∈ t.out ∧ t.get H.LCM_CHAL_AGE = 0))

/-- PEER_ENABLE takes an OFF device to LINKING, PEER_DISABLE back to OFF. A matching HELLO brings the link up, where no peer hold is in
  force, and the election of R341 makes the device ACTIVE or SYNC; a mismatch is reported and brings no link. A failed link, by a lost
  lane lock, eight codewords in a row, the peer hold or no heartbeat, turns ACTIVE into ACTIVE_ALONE and SYNC into LINKING; with none of
  these it stays as it was. LINK_WAIT with SOLO_OK and no link, and FORCE_ACTIVE, make a LINKING device ACTIVE_ALONE. The end of the bulk
  copy makes STANDBY of SYNC. On a device in SYNC or STANDBY a record of a counter phase and one of a register field are applied; on any
  other a record, but for a quality level, changes no register and no flow. -/
def Obligations.PairLinkResults : Prop :=
  (∀ (s : State),
      takes .PEER_CTRL s → s.on F.PEER_CTRL_EN = false → runs .peerEnable s (fun t => t.on F.PEER_CTRL_EN ∧ Peer.state t = 1)) ∧
  (∀ (s : State),
      takes .PEER_CTRL s → s.on F.PEER_CTRL_EN → runs .peerDisable s (fun t => t.on F.PEER_CTRL_EN = false ∧ Peer.state t = 0 ∧
        t.on F.PEER_STAT_LINK = false)) ∧
  (∀ (s : State) (h : Hello),
      s.on F.PEER_CTRL_EN → s.on F.PEER_STAT_LINK = false → Peer.matching s h → s.on F.PWR_SAFE_STAT_PEER_HELD = false →
        runs (.peerLinkUp h) s (fun t => t.on F.PEER_STAT_LINK ∧ Peer.state t = (if Peer.state s = 5 ∧
        h.state ≠ 5 then 4 else if Peer.state s ≠ 5 ∧ h.state = 5 then 2 else if Peer.preferred s h then 4 else 2) ∧
        t.get F.PEER_DELAY_DELAY = h.delay % 2 ^ F.PEER_DELAY_DELAY.width)) ∧
  (∀ (s : State) (h : Hello),
      s.on F.PEER_CTRL_EN → s.on F.PEER_STAT_LINK = false → Peer.matching s h = false →
        runs (.peerLinkUp h) s (fun t => t.on F.PEER_STAT_MISMATCH ∧ t.on F.PEER_INT_CAUSE_MISMATCH ∧ t.on F.PEER_STAT_LINK = false)) ∧
  (∀ (s : State) (locked codewords : Nat),
      s.on F.PEER_CTRL_EN → s.on F.PEER_STAT_LINK → (locked % 16 ≠ 15 ∨ 8 ≤ codewords ∨ s.on F.PWR_SAFE_STAT_PEER_HELD = true) →
        runs (.peerLinkFail locked codewords) s (fun t => t.on F.PEER_STAT_LINK = false ∧
        Peer.state t = (if Peer.state s = 4 then 5 else if Peer.state s = 2 then 1 else Peer.state s) ∧ t.on F.PEER_INT_CAUSE_LINK_CHG)) ∧
  (∀ (s : State) (locked codewords : Nat),
      locked % 16 = 15 → codewords < 8 → s.on F.PWR_SAFE_STAT_PEER_HELD = false →
        runs (.peerLinkFail locked codewords) s (fun t => t.on F.PEER_STAT_LINK = s.on F.PEER_STAT_LINK ∧ Peer.state t = Peer.state s)) ∧
  (∀ (s : State),
      s.on F.PEER_STAT_LINK → runs .heartbeatTmo s (fun t => t.on F.PEER_STAT_LINK = false ∧
        Peer.state t = (if Peer.state s = 4 then 5 else if Peer.state s = 2 then 1 else Peer.state s))) ∧
  (∀ (s : State),
      Peer.state s = 1 → runs .linkWaitExpiry s (fun t => Peer.state t = (if (s.on F.PEER_CFG_SOLO_OK = true ∧
        s.on F.PEER_STAT_LINK = false) then 5 else 1))) ∧
  (∀ (s : State),
      takes .PEER_CTRL s → Peer.state s = 1 → runs .forceActive s (fun t => Peer.state t = 5)) ∧
  (∀ (s : State),
      Peer.state s = 2 → s.on F.PEER_STAT_LINK → runs .syncDone s (fun t => Peer.state t = 3 ∧ t.on F.PEER_INT_CAUSE_SYNC_DONE)) ∧
  (∀ (s : State) (c : Nat) (ph : Nat) (now : Nat),
      s.passive → c < 3072 → ph < 2 → runs (.mirrorRecord 6 [c, ph] now) s (fun t => t.get H.CRY_TX_PH c = ph)) ∧
  (∀ (s : State) (m : Nat) (i : Nat) (j : Nat) (k : Nat) (v : Nat) (f : Machine.Field) (now : Nat),
      s.passive → Peer.mirrored[m]? = some f → f.shape.has i j k → runs (.mirrorRecord 2 [m, i, j, k,
        v] now) s (fun t => t.get f i j k = v % 2 ^ f.width)) ∧
  (∀ (s : State) (kind now : Nat) (words : List Nat),
      s.passive = false → kind ≠ 10 → runs (.mirrorRecord kind words now) s (fun t => t.csr = s.csr ∧ t.flw = s.flw))

/-- SWITCH, here or at the partner, and a fault of the active (the safe state, a held transmit mute, LTX disabled), each with the partner
  in STANDBY (log 76), change the roles: the old active mutes, tells its partner and goes to SYNC. SWITCH on a linked standby asks the
  active; anywhere else it is refused and the state stays. HANDOVER makes the standby ACTIVE_ALONE with every NEXT moved on by 2^40;
  PARTNER_LOST, with the link failed for DARK_MS, does where the upstream is dark and else leads to LINKING. LASER_SETTLED ends the
  settling and the mute, with the pair up as ACTIVE. EQD_MEASURE of an ACTIVE leaf gives the standby's measure, sent to the active under
  AUTO_EQD where it differs by more than 1 ns or is new, and gives the active the EqD of the other feeder. -/
def Obligations.PairSwitchResults : Prop :=
  (∀ (s : State),
      takes .PEER_CTRL s → Peer.state s = 4 → s.get H.PEER_PARTNER = 3 → runs (.switch false) s (fun t => Peer.state t = 2 ∧
        (.peer 5 [1] : Emit) ∈ t.out ∧ t.on H.PEER_MUTE_HELD)) ∧
  (∀ (s : State),
      Peer.state s = 4 → s.get H.PEER_PARTNER = 3 → runs (.switch true) s (fun t => Peer.state t = 2 ∧ (.peer 5 [1] : Emit) ∈ t.out ∧
        t.on H.PEER_MUTE_HELD)) ∧
  (∀ (s : State),
      takes .PEER_CTRL s → Peer.state s = 3 → s.on F.PEER_STAT_LINK → runs (.switch false) s (fun t => (.peer 8 [] : Emit) ∈ t.out)) ∧
  (∀ (s : State),
      takes .PEER_CTRL s → ((Peer.state s = 4 ∧ s.get H.PEER_PARTNER ≠ 3) ∨ (Peer.state s = 3 ∧ s.on F.PEER_STAT_LINK = false) ∨
        (Peer.state s ≠ 3 ∧ Peer.state s ≠ 4)) → runs (.switch false) s (fun t => t.on F.PEER_INT_CAUSE_SWITCH_REFUSED ∧
        Peer.state t = Peer.state s)) ∧
  (∀ (s : State),
      (Peer.state s ≠ 4 ∨ s.get H.PEER_PARTNER ≠ 3) → runs (.switch true) s (fun t => Peer.state t = Peer.state s)) ∧
  (∀ (s : State) (ms : Nat),
      Peer.state s = 4 → s.get H.PEER_PARTNER = 3 → (s.on F.BST_STAT_SAFE = true ∨ s.on F.LTX_CTRL_EN = false ∨
        (s.on F.PWR_SAFE_STAT_TX_MUTED = true ∧ max 1 (s.get F.PEER_CFG_MUTE_MS) ≤ ms)) →
        runs (.activeFault ms) s (fun t => Peer.state t = 2 ∧ (.peer 5 [2] : Emit) ∈ t.out ∧ t.on H.PEER_MUTE_HELD)) ∧
  (∀ (s : State) (ms : Nat),
      (Peer.state s ≠ 4 ∨ s.get H.PEER_PARTNER ≠ 3 ∨ (s.on F.BST_STAT_SAFE = false ∧ s.on F.LTX_CTRL_EN = true ∧
        (s.on F.PWR_SAFE_STAT_TX_MUTED = false ∨ ms < max 1 (s.get F.PEER_CFG_MUTE_MS)))) →
        runs (.activeFault ms) s (fun t => Peer.state t = Peer.state s)) ∧
  (∀ (s : State) (ms : Nat),
      Peer.state s = 3 → s.on F.PEER_STAT_LINK = false → max 1 (s.get F.PEER_CFG_DARK_MS) ≤ ms →
        runs (.partnerLost ms) s (fun t => Peer.state t = (if Peer.dark s then 5 else 1) ∧ (Peer.dark s = true →
        t.get F.PEER_STAT_LAST_TRIG = 3 ∧ t.on F.PEER_INT_CAUSE_TAKEOVER = true ∧ t.on H.PEER_SETTLING = true))) ∧
  (∀ (s : State) (ms : Nat),
      (Peer.state s ≠ 3 ∨ s.on F.PEER_STAT_LINK = true ∨ ms < max 1 (s.get F.PEER_CFG_DARK_MS)) →
        runs (.partnerLost ms) s (fun t => Peer.state t = Peer.state s)) ∧
  (∀ (s : State) (trig : Nat) (c : Nat),
      Peer.state s = 3 → c < 3072 → runs (.handover trig) s (fun t => Peer.state t = 5 ∧
        t.get F.PEER_STAT_LAST_TRIG = trig % 2 ^ F.PEER_STAT_LAST_TRIG.width ∧
        t.get H.CRY_NEXT c = (s.get H.CRY_NEXT c + 2 ^ 40) % 2 ^ 64 ∧ t.on H.PEER_SETTLING ∧ t.on F.PEER_INT_CAUSE_TAKEOVER)) ∧
  (∀ (s : State),
      s.on H.PEER_SETTLING → runs .laserSettled s (fun t => t.on H.PEER_SETTLING = false ∧ t.on H.PEER_MUTE_HELD = false ∧
        Peer.state t = (if (Peer.state s = 5 ∧ s.on F.PEER_STAT_LINK = true ∧ s.get H.PEER_PARTNER = 2) then 4 else Peer.state s))) ∧
  (∀ (s : State) (l : Nat) (e : Int) (eqd : Nat),
      l < 512 → Peer.state s = 3 → s.get F.VLK_LEAF_STATE l = 2 → runs (.eqdMeasure l e eqd) s (fun t => t.get F.PEER_EQD_MEAS_EQD l =
        unsigned 24 ((s.get F.VLK_LEAF_EQD_EQD l (1 - s.get F.PEER_CFG_FEEDER) : Int) - 2 * e) ∧ t.on F.PEER_EQD_MEAS_VALID l ∧
        (s.on F.PEER_CTRL_AUTO_EQD = true ∧ (10 < ((unsigned 24 ((s.get F.VLK_LEAF_EQD_EQD l (1 - s.get F.PEER_CFG_FEEDER) : Int) - 2 *
        e) : Int) - s.get F.VLK_LEAF_EQD_EQD l (s.get F.PEER_CFG_FEEDER)).natAbs ∨
        s.on F.VLK_LEAF_EQD_VALID l (s.get F.PEER_CFG_FEEDER) = false) → (.peer 4 [l,
        unsigned 24 ((s.get F.VLK_LEAF_EQD_EQD l (1 - s.get F.PEER_CFG_FEEDER) : Int) - 2 * e)] : Emit) ∈ t.out ∧
        t.on F.PEER_INT_CAUSE_EQD_UPD = true))) ∧
  (∀ (s : State) (l : Nat) (e : Int) (eqd : Nat),
      l < 512 → Peer.state s = 4 → runs (.eqdMeasure l e eqd) s (fun t => t.get F.VLK_LEAF_EQD_EQD l (1 - s.get F.PEER_CFG_FEEDER) = eqd
        % 2 ^ 24 ∧ t.on F.VLK_LEAF_EQD_VALID l (1 - s.get F.PEER_CFG_FEEDER) ∧ t.on F.PEER_INT_CAUSE_EQD_UPD))

/-- A power-on reset, a rail below its threshold and RESET_N hold the device in reset with their cause; RESET_RELEASE lets it go with
  every rail good. RAIL_WARN is shown. PERST# is a reset of its own cause, warm in mode 1, and in mode 2 of the functions only; a keyed
  write of SYS.RESET is a warm reset, any other none; the image-loading reset has its own cause. Each device reset leaves PHASE at its
  reset value; a warm or image-loading one keeps the time counter where no operation is open, and the others empty QDR-IV. A soft reset
  sets the bits of its blocks, clears their enables and, of LTX, mutes the line under source 3; its end clears the bit where no access
  waits. BOOT of a released device: a SCRAPPED device opens its host interface in FAILED, and so does one without a valid image, with
  BOOT_FAIL; the valid image of a record's slot, or after a trial that was not confirmed of the previous one with RB_CAUSE 2, when it
  loads no register words and reads the same twice, gives role and slot, and its start-up slices begin or the device opens. -/
def Obligations.ResetCommandResults : Prop :=
  (∀ (s : State) (rails : Nat), runs (.powerOnReset rails) s (fun t => t.get F.SYS_RST_CAUSE_SRC = 1 ∧ t.on H.SYS_HELD ∧
    t.get F.SYS_STAT_PHASE = 0 ∧ t.on F.SYS_STAT_HOST_OPEN = false ∧ (s.on H.SYS_HELD = false →
    t.get F.SYS_RST_CAUSE_RAIL = rails % 2 ^ F.SYS_RST_CAUSE_RAIL.width) ∧ t.qdr = [] ∧ (s.on H.SYS_HELD = true →
    t.get F.SYS_RST_CAUSE_RAIL = (s.get F.SYS_RST_CAUSE_RAIL ||| rails) % 2 ^ F.SYS_RST_CAUSE_RAIL.width))) ∧
  (∀ (s : State) (r : Nat),
      r < 6 → runs (.railDrop r) s (fun t => t.get F.SYS_RST_CAUSE_SRC = 1 ∧ t.on H.SYS_HELD ∧ t.bit F.PWR_RAIL_STAT_GOOD r = false ∧
        (s.on H.SYS_HELD = false → t.get F.SYS_RST_CAUSE_RAIL = 2 ^ r))) ∧
  (∀ (s : State) (r : Nat),
      r < 6 → runs (.railWarn r) s (fun t => t.bit F.PWR_RAIL_STAT_WARN r ∧ t.on F.PWR_INT_CAUSE_RAIL_WARN)) ∧
  (∀ (s : State), runs .resetRelease s (fun t => t.on H.SYS_HELD = false ∧ t.get F.PWR_RAIL_STAT_GOOD = 63)) ∧
  (∀ (s : State), runs .resetN s (fun t => t.get F.SYS_RST_CAUSE_SRC = 2 ∧ t.on H.SYS_HELD ∧ t.get F.SYS_STAT_PHASE = 0 ∧ t.qdr = [])) ∧
  (∀ (s : State),
      s.get F.SYS_RST_CFG_PERST_MODE ≠ 2 → runs .perst s (fun t => t.get F.SYS_RST_CAUSE_SRC = 3 ∧ t.get F.SYS_STAT_PHASE = 0 ∧
        (s.get F.SYS_RST_CFG_PERST_MODE = 1 ∧ s.eng.ops = [] → t.get F.SYN_TIME_HI_VAL = s.get F.SYN_TIME_HI_VAL) ∧
        (s.get F.SYS_RST_CFG_PERST_MODE ≠ 1 → t.qdr = []))) ∧
  (∀ (s : State),
      s.get F.SYS_RST_CFG_PERST_MODE = 2 → runs .perst s (fun t => t.get F.SYS_RST_CAUSE_SRC = s.get F.SYS_RST_CAUSE_SRC ∧
        t.get F.SYS_STAT_PHASE = s.get F.SYS_STAT_PHASE ∧ t.msix.enabled % 256 = 0)) ∧
  (∀ (s : State) (value : Nat),
      takes .SYS_RESET s → value % 2 = 1 → slice value 16 16 = 0xA5C3 →
        runs (.warmReset value) s (fun t => t.get F.SYS_RST_CAUSE_SRC = 4 ∧ t.get F.SYS_STAT_PHASE = 0 ∧ (s.eng.ops = [] →
        t.get F.SYN_TIME_HI_VAL = s.get F.SYN_TIME_HI_VAL))) ∧
  (∀ (s : State) (value : Nat),
      takes .SYS_RESET s → (value % 2 = 0 ∨ slice value 16 16 ≠ 0xA5C3) →
        runs (.warmReset value) s (fun t => t.get F.SYS_RST_CAUSE_SRC = s.get F.SYS_RST_CAUSE_SRC ∧
        t.get F.SYS_STAT_PHASE = s.get F.SYS_STAT_PHASE)) ∧
  (∀ (s : State), runs .imageLoadingReset s (fun t => t.get F.SYS_RST_CAUSE_SRC = 5 ∧ t.get F.SYS_STAT_PHASE = 0 ∧ (s.eng.ops = [] →
    t.get F.SYN_TIME_HI_VAL = s.get F.SYN_TIME_HI_VAL) ∧ (s.eng.ops = [] ∧ s.on F.CAL_STAT_FLASH_BUSY = false → t.flash = s.flash))) ∧
  (∀ (s : State) (mask b : Nat),
      takes .SYS_SOFT_RST s → 5 ≤ b → b < 26 → mask.testBit b → runs (.softReset mask) s (fun t => t.bit F.SYS_SOFT_RST_BLK b ∧ ([(7,
        F.HKA_CTRL_EN), (8, F.FLT_CTRL_EN), (13, F.HSL_CTRL_GRP_EN), (15, F.QDM_CTRL_EN), (16, F.FRM_CTRL_TX_EN), (16, F.FRM_CTRL_RX_EN),
        (18, F.LTX_CTRL_EN), (19, F.LRX_CTRL_EN), (21, F.BRX_CTRL_EN), (22, F.VLK_CTRL_EN), (24, F.LSR_CTRL_SIG_EN), (25,
        F.PEER_CTRL_EN)].all (fun (x : Nat × Machine.Field) => !mask.testBit x.1 || t.get x.2 == 0) = true) ∧ (mask.testBit 18 = true →
        (t.get F.LTX_STAT_MUTE_SRC).testBit 3 = true))) ∧
  (∀ (s : State) (b : Nat),
      5 ≤ b → b < 26 → s.bit F.SYS_SOFT_RST_BLK b → s.held = [] → runs (.softResetDone b) s (fun t => t.bit F.SYS_SOFT_RST_BLK b = false)) ∧
  (∀ (s : State) (misread : Nat),
      Boot.ready s → s.get F.LCM_STATE_STATE = 5 → runs (.boot misread) s (fun t => t.get F.SYS_STAT_PHASE = 6 ∧
        t.on F.SYS_STAT_HOST_OPEN ∧ t.on F.SYS_INT_CAUSE_BOOT_DONE ∧ t.flash = s.flash)) ∧
  (∀ (s : State) (misread : Nat) (r : Img.Record),
      Boot.ready s → s.get F.LCM_STATE_STATE ≠ 5 → Img.record s = r → (r.trial && r.tried) = false → Img.valid s r.cur = false →
        (r.prevValid && Img.valid s r.prev) = false → runs (.boot misread) s (fun t => t.get F.SYS_STAT_PHASE = 6 ∧
        t.on F.SYS_STAT_HOST_OPEN ∧ t.on F.SE_IMG_STAT_BOOT_FAIL)) ∧
  (∀ (s : State) (misread : Nat) (r : Img.Record),
      Boot.ready s → s.get F.LCM_STATE_STATE ≠ 5 → Img.record s = r → (r.trial && r.tried) = false → misread % 2 = 0 →
        (Img.table s r.cur).all (fun x => x.kind != 3) = true → runs (.boot misread) s (fun t => (Img.valid s r.cur = true →
        ((t.get F.SYS_STAT_PHASE = 4 ∨ t.get F.SYS_STAT_PHASE = 5) ∧ t.get F.SYS_ROLE_ROLE = Img.role s r.cur ∧
        t.get F.SE_IMG_STAT_SLOT = r.cur)))) ∧
  (∀ (s : State) (misread : Nat) (r : Img.Record),
      Boot.ready s → s.get F.LCM_STATE_STATE ≠ 5 → Img.record s = r → r.trial = true → r.tried = true → misread % 2 = 0 →
        (Img.table s r.prev).all (fun x => x.kind != 3) = true → runs (.boot misread) s (fun t => (Img.valid s r.prev = true →
        ((t.get F.SYS_STAT_PHASE = 4 ∨ t.get F.SYS_STAT_PHASE = 5) ∧ t.get F.SYS_ROLE_ROLE = Img.role s r.prev ∧
        t.get F.SE_IMG_STAT_SLOT = r.prev ∧ t.get F.SE_IMG_STAT_RB_CAUSE = 2))))

/-- A host AVS_SET within VMIN and 850 mV, with AVS_AUTO off and no request running, is requested; a poll takes the read value and
  acknowledges it within the tolerance; a time-out sets AVS_FAIL. A PMBus command goes out and completes with NACK and, of a read, its
  word. REST is entered where R361 refuses nothing, goes on to REST, or straight to WAKING where a wake came meanwhile, and ends AWAKE. A
  flash command that R360 accepts reads, programs or erases, and its end clears BUSY. -/
def Obligations.PowerCommandResults : Prop :=
  (∀ (s : State) (value : Nat),
      takes .PWR_AVS_SET s → s.on F.PWR_SLACK_CTRL_AVS_AUTO = false → s.on F.PWR_AVS_READ_BUSY = false →
        s.get F.PWR_VMIN_VMIN_MV ≤ slice value 0 10 → slice value 0 10 ≤ 850 →
        runs (.avsSet value) s (fun t => t.get F.PWR_AVS_SET_MV = slice value 0 10 ∧ t.get F.PWR_VMIN_VREQ_MV = slice value 0 10 ∧
        t.on F.PWR_AVS_READ_BUSY ∧ (.avsWrite (s.get F.PWR_AVS_CFG_RAIL) (slice value 0 10) : Emit) ∈ t.out)) ∧
  (∀ (s : State) (mv : Nat),
      s.on F.PWR_AVS_READ_BUSY → runs (.avsPoll mv) s (fun t => t.get F.PWR_AVS_READ_MV = mv % 2 ^ F.PWR_AVS_READ_MV.width ∧
        (mv + max 1 (s.get F.PWR_AVS_CFG_TOL_MV) < s.get F.PWR_VMIN_VREQ_MV → t.on F.PWR_AVS_READ_BUSY = true) ∧
        (mv = s.get F.PWR_VMIN_VREQ_MV ∧ s.on H.PWR_VMIN_WAITS = false ∧ s.get H.PWR_ARMED = 0 → t.on F.PWR_AVS_READ_BUSY = false))) ∧
  (∀ (s : State) (mv : Nat),
      s.on F.PWR_AVS_READ_BUSY → mv = s.get F.PWR_VMIN_VREQ_MV → runs (.avsAck mv) s (fun t => t.get F.PWR_AVS_READ_MV = mv % 2 ^
        F.PWR_AVS_READ_MV.width ∧ (s.on H.PWR_VMIN_WAITS = false ∧ s.get H.PWR_ARMED = 0 → t.on F.PWR_AVS_READ_BUSY = false))) ∧
  (∀ (s : State),
      s.on F.PWR_AVS_READ_BUSY → runs .avsTimeout s (fun t => t.on F.PWR_SAFE_STAT_AVS_FAIL ∧ (s.get F.PWR_REST_STAT_STATE = 3 →
        t.on F.PWR_REST_STAT_WAKE_HELD = true))) ∧
  (∀ (s : State) (value : Nat),
      takes .PWR_PMB_CMD s → s.on F.PWR_PMB_CMD_GO = false → value.testBit 31 → runs (.pmbCmd value) s (fun t => t.on F.PWR_PMB_CMD_GO ∧
        (.pmbus (slice value 8 7) (slice value 0 8) (slice value 15 1) (if value.testBit 15 then 0 else s.get F.PWR_PMB_DATA_DATA) :
        Emit) ∈ t.out)) ∧
  (∀ (s : State) (data nack : Nat),
      s.on F.PWR_PMB_CMD_GO → runs (.pmbCmdDone data nack) s (fun t => t.on F.PWR_PMB_CMD_GO = false ∧
        t.get F.PWR_PMB_DATA_NACK = min 1 nack ∧ (s.on F.PWR_PMB_CMD_READ = true ∧ nack = 0 → t.get F.PWR_PMB_DATA_DATA = data % 2 ^ 16))) ∧
  (∀ (s : State),
      takes .PWR_REST_CTRL s → runs .restEnter s (fun t => (Rest.refusal s = 0 → Rest.state t = 1) ∧ (Rest.refusal s ≠ 0 →
        t.get F.PWR_REST_STAT_ERR = Rest.refusal s ∧ t.on F.PWR_INT_CAUSE_REST_REFUSED = true))) ∧
  (∀ (s : State),
      Rest.state s = 1 → runs .restEntryDone s (fun t => Rest.state t = (if s.on H.PWR_WAKE_PEND then 3 else 2) ∧
        t.on F.PWR_INT_CAUSE_REST_ENTERED ∧ t.on H.PWR_QDR_RET ∧ t.get F.PWR_VMIN_VREQ_MV = max 600 (s.get F.PWR_REST_CFG_VRET_MV))) ∧
  (∀ (s : State),
      takes .PWR_REST_CTRL s → Rest.state s = 2 → runs (.restWake 0) s (fun t => Rest.state t = 3)) ∧
  (∀ (s : State),
      Rest.masked s → Rest.state s = 2 → runs (.restWake 2) s (fun t => Rest.state t = 3)) ∧
  (∀ (s : State) (us : Nat) (moves : List (List Nat)),
      Rest.state s = 3 → Sys.wakePowered s → s.held = [] → runs (.restExitDone us moves) s (fun t => Rest.state t = 0 ∧
        t.on F.PWR_INT_CAUSE_REST_EXITED ∧ t.on H.PWR_QDR_RET = false ∧ t.get F.PWR_REST_STAT_WAKE_US = min 255 us)) ∧
  (∀ (s : State) (len : Nat) (i : Nat),
      takes .BOOT_FL_CMD s → Flash.check s 0 (max 1 (len % 128)) = 0 → i < max 1 (len % 128) →
        runs (.flRead len) s (fun t => t.on F.BOOT_FL_STAT_BUSY ∧ t.get F.BOOT_FL_DATA_DATA i = Flash.read s (s.get F.BOOT_FL_ADDR_ADDR /
        4 + i) % 2 ^ 32)) ∧
  (∀ (s : State) (len : Nat) (i w : Nat),
      takes .BOOT_FL_CMD s → Flash.check s 1 (max 1 (len % 128)) = 0 → i < max 1 (len % 128) →
        runs (.flProgram len) s (fun t => t.on F.BOOT_FL_STAT_BUSY ∧ Flash.read t (s.get F.BOOT_FL_ADDR_ADDR / 4 + i) = Flash.read s
        (s.get F.BOOT_FL_ADDR_ADDR / 4 + i) &&& s.get F.BOOT_FL_DATA_DATA i ∧ (w < s.get F.BOOT_FL_ADDR_ADDR / 4 ∨
        s.get F.BOOT_FL_ADDR_ADDR / 4 + max 1 (len % 128) ≤ w → Flash.read t w = Flash.read s w))) ∧
  (∀ (s : State) (w : Nat),
      takes .BOOT_FL_CMD s → Flash.check s 2 1 = 0 → runs .flErase s (fun t => t.on F.BOOT_FL_STAT_BUSY ∧
        Flash.read t w = (if w / 16384 = s.get F.BOOT_FL_ADDR_ADDR / 65536 then Flash.erased else Flash.read s w))) ∧
  (∀ (s : State) (verify : Bool),
      s.on F.BOOT_FL_STAT_BUSY → runs (.flDone verify) s (fun t => t.on F.BOOT_FL_STAT_BUSY = false ∧ t.on F.BOOT_FL_CMD_GO = false ∧
        (verify = false → t.get F.BOOT_FL_STAT_ERR = 3)))
end

