-- ==== Sys2Proof/Laws/Moves.lean ====
section
/-! SUPPORT. Sys2Proof/Laws/Moves.lean: what a meaning is made of. `Moves W s₀ s` says that `s` comes from `s₀` by the named writes of
Machine/Ops.lean alone, each to a part that `W` allows. Every operation of the machine has one lemma of this form (Laws/Moves*.lean),
from which its frame and every invariant that the named writes keep follow by one induction. -/
namespace Sys2Proof.Laws
open Sys2Proof Sys2Proof.Machine

/-- `s` comes from `s₀` by named writes to parts that `W` allows. -/
inductive Moves (W : Part → Prop) (s₀ : State) : State → Prop where
  | refl : Moves W s₀ s₀
  | put {s : State} (f : Field) (v i j k : Nat) (hw : W (.fld f)) (h : Moves W s₀ s) : Moves W s₀ (s.put f v i j k)
  | wipe {s : State} (f : Field) (hw : W (.arr f)) (h : Moves W s₀ s) : Moves W s₀ (s.wipe f)
  | drop {s : State} (p : Nat × Nat → Bool) (hw : ∀ x, W x) (h : Moves W s₀ s) : Moves W s₀ { s with csr := s.csr.filter p }
  | emit {s : State} (o : Emit) (h : Moves W s₀ s) : Moves W s₀ (s.emit o)
  | drew {s : State} (h : Moves W s₀ s) : Moves W s₀ s.drew
  | msix {s : State} (x : MsixState) (hw : W .msix) (h : Moves W s₀ s) : Moves W s₀ { s with msix := x }
  | vlk {s : State} (x : VlkState) (hw : W .vlk) (h : Moves W s₀ s) : Moves W s₀ { s with vlk := x }
  | brx {s : State} (x : BrxState) (hw : W .brx) (h : Moves W s₀ s) : Moves W s₀ { s with brx := x }
  | flw {s : State} (x : FlwState) (hw : W .flw) (h : Moves W s₀ s) : Moves W s₀ { s with flw := x }
  | frm {s : State} (x : FrmState) (hw : W .frm) (h : Moves W s₀ s) : Moves W s₀ { s with frm := x }
  | syn {s : State} (x : SynState) (hw : W .syn) (h : Moves W s₀ s) : Moves W s₀ { s with syn := x }
  | eng {s : State} (x : EngState) (hw : W .eng) (h : Moves W s₀ s) : Moves W s₀ { s with eng := x }
  | flt {s : State} (x : Store FltChan) (hw : W .flt) (h : Moves W s₀ s) : Moves W s₀ { s with flt := x }
  | held {s : State} (x : List HeldAccess) (hw : W .held) (h : Moves W s₀ s) : Moves W s₀ { s with held := x }
  | qdr {s : State} (k v : Nat) (hw : W .qdr) (h : Moves W s₀ s) : Moves W s₀ { s with qdr := Store.put 0 s.qdr k v }
  | qdrLost {s : State} (hw : W .qdr) (h : Moves W s₀ s) : Moves W s₀ { s with qdr := [] }
  | flash {s : State} (k v : Nat) (hw : W .flash) (h : Moves W s₀ s) :
      Moves W s₀ { s with flash := Store.put Flash.erased s.flash k v }
  | flashErase {s : State} (p : Nat × Nat → Bool) (hw : W .flash) (h : Moves W s₀ s) :
      Moves W s₀ { s with flash := s.flash.filter p }

section
variable {W : Part → Prop} {s₀ s : State} {f : Field}

theorem Moves.keep {P : Prop} (t : State) (h : Moves W s₀ t) (k : Moves W s₀ t → P) : P := k h

theorem Moves.set (i j k : Nat) (hw : W (.fld f)) (h : Moves W s₀ s) : Moves W s₀ (s.set f i j k) := h.put _ _ _ _ _ hw
theorem Moves.clr (i j k : Nat) (hw : W (.fld f)) (h : Moves W s₀ s) : Moves W s₀ (s.clr f i j k) := h.put _ _ _ _ _ hw
theorem Moves.setBit (b i j k : Nat) (hw : W (.fld f)) (h : Moves W s₀ s) : Moves W s₀ (s.setBit f b i j k) := h.put _ _ _ _ _ hw
theorem Moves.clrBit (b i j k : Nat) (hw : W (.fld f)) (h : Moves W s₀ s) : Moves W s₀ (s.clrBit f b i j k) := h.put _ _ _ _ _ hw
theorem Moves.count (n i j k : Nat) (hw : W (.fld f)) (h : Moves W s₀ s) : Moves W s₀ (s.count f n i j k) := h.put _ _ _ _ _ hw
theorem Moves.countWrap (n i j k : Nat) (hw : W (.fld f)) (h : Moves W s₀ s) : Moves W s₀ (s.countWrap f n i j k) :=
  h.put _ _ _ _ _ hw
theorem Moves.sput (v : Int) (i j k : Nat) (hw : W (.fld f)) (h : Moves W s₀ s) : Moves W s₀ (s.sput f v i j k) :=
  h.put _ _ _ _ _ hw
theorem Moves.putBit (b : Nat) (v : Bool) (i j k : Nat) (hw : W (.fld f)) (h : Moves W s₀ s) : Moves W s₀ (s.putBit f b v i j k) := by
  unfold State.putBit; split
  · exact h.setBit _ _ _ _ hw
  · exact h.clrBit _ _ _ _ hw

theorem Moves.when (c : Bool) {g : State → State} (h : Moves W s₀ s) (hg : ∀ t, Moves W s₀ t → Moves W s₀ (g t)) :
    Moves W s₀ (s.when c g) := by
  unfold State.when; split
  · exact hg _ h
  · exact h

theorem Moves.foldl {α : Type} (l : List α) {g : State → α → State} (hg : ∀ t a, Moves W s₀ t → Moves W s₀ (g t a)) :
    ∀ {s : State}, Moves W s₀ s → Moves W s₀ (l.foldl g s) := by
  induction l with
  | nil => exact fun h => h
  | cons a l ih => exact fun h => ih (hg _ _ h)

theorem Moves.eachOf {α : Type} (l : List α) {g : α → State → State} (h : Moves W s₀ s)
    (hg : ∀ a t, Moves W s₀ t → Moves W s₀ (g a t)) : Moves W s₀ (s.eachOf l g) :=
  Moves.foldl l (fun t a => hg a t) h

theorem Moves.each (n : Nat) {g : Nat → State → State} (h : Moves W s₀ s) (hg : ∀ i t, Moves W s₀ t → Moves W s₀ (g i t)) :
    Moves W s₀ (s.each n g) :=
  Moves.foldl _ (fun t a => hg a t) h

theorem foldlPair_moves {α β : Type} (l : List α) {g : β → State → α → β × State} (hg : ∀ b t a, Moves W s₀ t → Moves W s₀ (g b t a).2) :
    ∀ {b : β} {s : State}, Moves W s₀ s → Moves W s₀ (l.foldl (fun r a => g r.1 r.2 a) (b, s)).2 := by
  induction l with
  | nil => exact fun h => h
  | cons a l ih => exact fun h => ih (hg _ _ _ h)

theorem foldlSnd_moves {α β : Type} (l : List α) {g : β × State → α → β × State} (hg : ∀ p a, Moves W s₀ p.2 → Moves W s₀ (g p a).2) :
    ∀ p : β × State, Moves W s₀ p.2 → Moves W s₀ (l.foldl g p).2 := by
  induction l with
  | nil => exact fun _ h => h
  | cons a l ih => exact fun _ h => ih _ (hg _ _ h)

theorem Moves.trans {t : State} (h : Moves W s₀ s) (h' : Moves W s t) : Moves W s₀ t := by
  induction h' with
  | refl => exact h
  | put f v i j k hw _ ih => exact ih.put f v i j k hw
  | wipe f hw _ ih => exact ih.wipe f hw
  | drop p hw _ ih => exact ih.drop p hw
  | emit o _ ih => exact ih.emit o
  | drew _ ih => exact ih.drew
  | msix x hw _ ih => exact ih.msix x hw
  | vlk x hw _ ih => exact ih.vlk x hw
  | brx x hw _ ih => exact ih.brx x hw
  | flw x hw _ ih => exact ih.flw x hw
  | frm x hw _ ih => exact ih.frm x hw
  | syn x hw _ ih => exact ih.syn x hw
  | eng x hw _ ih => exact ih.eng x hw
  | flt x hw _ ih => exact ih.flt x hw
  | held x hw _ ih => exact ih.held x hw
  | qdr k v hw _ ih => exact ih.qdr k v hw
  | qdrLost hw _ ih => exact ih.qdrLost hw
  | flash k v hw _ ih => exact ih.flash k v hw
  | flashErase p hw _ ih => exact ih.flashErase p hw

theorem Moves.mono {V : Part → Prop} (hv : ∀ x, W x → V x) (h : Moves W s₀ s) : Moves V s₀ s := by
  induction h with
  | refl => exact .refl
  | put f v i j k hw _ ih => exact ih.put f v i j k (hv _ hw)
  | wipe f hw _ ih => exact ih.wipe f (hv _ hw)
  | drop p hw _ ih => exact ih.drop p (fun x => hv _ (hw x))
  | emit o _ ih => exact ih.emit o
  | drew _ ih => exact ih.drew
  | msix x hw _ ih => exact ih.msix x (hv _ hw)
  | vlk x hw _ ih => exact ih.vlk x (hv _ hw)
  | brx x hw _ ih => exact ih.brx x (hv _ hw)
  | flw x hw _ ih => exact ih.flw x (hv _ hw)
  | frm x hw _ ih => exact ih.frm x (hv _ hw)
  | syn x hw _ ih => exact ih.syn x (hv _ hw)
  | eng x hw _ ih => exact ih.eng x (hv _ hw)
  | flt x hw _ ih => exact ih.flt x (hv _ hw)
  | held x hw _ ih => exact ih.held x (hv _ hw)
  | qdr k v hw _ ih => exact ih.qdr k v (hv _ hw)
  | qdrLost hw _ ih => exact ih.qdrLost (hv _ hw)
  | flash k v hw _ ih => exact ih.flash k v (hv _ hw)
  | flashErase p hw _ ih => exact ih.flashErase p (hv _ hw)

end

end Sys2Proof.Laws
end

