-- ==== Sys2Proof/Laws/MovesPmc.lean ====
section
/-! SUPPORT. Sys2Proof/Laws/MovesPmc.lean: what each operation of Machine/Pmc.lean may write (Laws/Moves.lean). -/
namespace Sys2Proof.Laws
open Sys2Proof Sys2Proof.Machine

theorem Pmc_trace_moves {W : Part → Prop} {s₀ s : State} (h0 : W .qdr) (h1 : W (.fld H.PMC_TRACE_POS)) (a0 : List Nat) (h : Moves W s₀ s) :
    Moves W s₀ (Sys2Proof.Machine.Pmc.trace a0 s) := by
  unfold Sys2Proof.Machine.Pmc.trace
  repeat' (first
    | with_reducible assumption
    | with_reducible apply Moves.eachOf
    | with_reducible apply Moves.put
    | intro _
    | split
    | (extract_lets +onlyGivenNames x; first
      | (refine Moves.keep (W := W) (s₀ := s₀) x ?_ ?_; rotate_left; intro hx; clear_value x; rotate_right)
      | (refine Moves.keep (W := W) (s₀ := s₀) x.2 ?_ ?_; rotate_left; intro hx; clear_value x; rotate_right)
      | (refine Moves.keep (W := W) (s₀ := s₀) x.1 ?_ ?_; rotate_left; intro hx; clear_value x; rotate_right)
      | skip)
    | (with_reducible refine Moves.qdr _ _ ?_ ?_ <;> with_reducible first
      | assumption
      | apply Moves.eachOf
      | apply Moves.put))

theorem Pmc_record_moves {W : Part → Prop} {s₀ s : State} (h0 : W .qdr) (h1 : W (.fld F.PMC_INT_CAUSE_SMP_AVAIL)) (h2 : W (.fld F.PMC_INT_CAUSE_SMP_DROP)) (h3 : W (.fld F.PMC_SMP_DROP_RING)) (h4 : W (.fld F.PMC_SMP_STAT_COUNT)) (h5 : W (.fld H.PMC_RING)) (h6 : W (.fld H.PMC_TRACE_POS)) (a0 : List Nat) (h : Moves W s₀ s) :
    Moves W s₀ (Sys2Proof.Machine.Pmc.record a0 s) := by
  unfold Sys2Proof.Machine.Pmc.record
  repeat' (first
    | with_reducible assumption
    | with_reducible apply Moves.count
    | with_reducible apply Moves.each
    | with_reducible apply Moves.put
    | with_reducible apply Moves.set
    | with_reducible apply Pmc_trace_moves
    | intro _
    | split
    | (extract_lets +onlyGivenNames x; first
      | (refine Moves.keep (W := W) (s₀ := s₀) x ?_ ?_; rotate_left; intro hx; clear_value x; rotate_right)
      | (refine Moves.keep (W := W) (s₀ := s₀) x.2 ?_ ?_; rotate_left; intro hx; clear_value x; rotate_right)
      | (refine Moves.keep (W := W) (s₀ := s₀) x.1 ?_ ?_; rotate_left; intro hx; clear_value x; rotate_right)
      | skip))

theorem Pmc_traceTimeout_moves {W : Part → Prop} {s₀ s : State} (h0 : W (.fld F.PMC_INT_CAUSE_SMP_DROP)) (h1 : W (.fld F.PMC_SMP_DROP_TRACE)) (h : Moves W s₀ s) :
    Moves W s₀ (Sys2Proof.Machine.Pmc.traceTimeout s) := by
  unfold Sys2Proof.Machine.Pmc.traceTimeout
  repeat' (first
    | with_reducible assumption
    | with_reducible apply Moves.count
    | with_reducible apply Moves.set
    | intro _
    | split)

theorem Pmc_pop_moves {W : Part → Prop} {s₀ s : State} (h0 : W (.fld F.PMC_SMP_STAT_COUNT)) (h1 : W (.fld H.PMC_RING_HEAD)) (h : Moves W s₀ s) :
    Moves W s₀ (Sys2Proof.Machine.Pmc.pop s) := by
  unfold Sys2Proof.Machine.Pmc.pop
  repeat' (first
    | with_reducible assumption
    | with_reducible apply Moves.put
    | intro _
    | split
    | (extract_lets +onlyGivenNames x; first
      | (refine Moves.keep (W := W) (s₀ := s₀) x ?_ ?_; rotate_left; intro hx; clear_value x; rotate_right)
      | (refine Moves.keep (W := W) (s₀ := s₀) x.2 ?_ ?_; rotate_left; intro hx; clear_value x; rotate_right)
      | (refine Moves.keep (W := W) (s₀ := s₀) x.1 ?_ ?_; rotate_left; intro hx; clear_value x; rotate_right)
      | skip))

theorem Pmc_overflow_moves {W : Part → Prop} {s₀ s : State} (h0 : W .qdr) (h1 : W (.fld F.PMC_INT_CAUSE_OVF)) (h2 : W (.fld F.PMC_INT_CAUSE_SMP_AVAIL)) (h3 : W (.fld F.PMC_INT_CAUSE_SMP_DROP)) (h4 : W (.fld F.PMC_OVF_STAT_OVF)) (h5 : W (.fld F.PMC_SMP_DROP_RING)) (h6 : W (.fld F.PMC_SMP_STAT_COUNT)) (h7 : W (.fld H.PMC_OVF_DUE)) (h8 : W (.fld H.PMC_OVF_T)) (h9 : W (.fld H.PMC_RING)) (h10 : W (.fld H.PMC_TRACE_POS)) (a0 : Nat) (h : Moves W s₀ s) :
    Moves W s₀ (Sys2Proof.Machine.Pmc.overflow a0 s) := by
  unfold Sys2Proof.Machine.Pmc.overflow
  repeat' (first
    | with_reducible assumption
    | with_reducible apply Moves.drew
    | with_reducible apply Moves.each
    | with_reducible apply Moves.put
    | with_reducible apply Moves.set
    | with_reducible apply Moves.setBit
    | with_reducible apply Pmc_record_moves
    | intro _
    | split
    | (extract_lets +onlyGivenNames x; first
      | (refine Moves.keep (W := W) (s₀ := s₀) x ?_ ?_; rotate_left; intro hx; clear_value x; rotate_right)
      | (refine Moves.keep (W := W) (s₀ := s₀) x.2 ?_ ?_; rotate_left; intro hx; clear_value x; rotate_right)
      | (refine Moves.keep (W := W) (s₀ := s₀) x.1 ?_ ?_; rotate_left; intro hx; clear_value x; rotate_right)
      | skip))

theorem Pmc_add_moves {W : Part → Prop} {s₀ s : State} (h0 : W .qdr) (h1 : W (.fld F.PMC_INT_CAUSE_OVF)) (h2 : W (.fld F.PMC_INT_CAUSE_SMP_AVAIL)) (h3 : W (.fld F.PMC_INT_CAUSE_SMP_DROP)) (h4 : W (.fld F.PMC_OVF_STAT_OVF)) (h5 : W (.fld F.PMC_SMP_DROP_RING)) (h6 : W (.fld F.PMC_SMP_STAT_COUNT)) (h7 : W (.fld H.PMC_CNT)) (h8 : W (.fld H.PMC_OVF_DUE)) (h9 : W (.fld H.PMC_OVF_T)) (h10 : W (.fld H.PMC_RING)) (h11 : W (.fld H.PMC_TRACE_POS)) (a0 : Nat) (a1 : Nat) (h : Moves W s₀ s) :
    Moves W s₀ (Sys2Proof.Machine.Pmc.add a0 a1 s) := by
  unfold Sys2Proof.Machine.Pmc.add
  repeat' (first
    | with_reducible assumption
    | with_reducible apply Moves.put
    | with_reducible apply Pmc_overflow_moves
    | intro _
    | split
    | (extract_lets +onlyGivenNames x; first
      | (refine Moves.keep (W := W) (s₀ := s₀) x ?_ ?_; rotate_left; intro hx; clear_value x; rotate_right)
      | (refine Moves.keep (W := W) (s₀ := s₀) x.2 ?_ ?_; rotate_left; intro hx; clear_value x; rotate_right)
      | (refine Moves.keep (W := W) (s₀ := s₀) x.1 ?_ ?_; rotate_left; intro hx; clear_value x; rotate_right)
      | skip))

theorem Pmc_event_moves {W : Part → Prop} {s₀ s : State} (h0 : W .qdr) (h1 : W (.fld F.PMC_INT_CAUSE_OVF)) (h2 : W (.fld F.PMC_INT_CAUSE_SMP_AVAIL)) (h3 : W (.fld F.PMC_INT_CAUSE_SMP_DROP)) (h4 : W (.fld F.PMC_OVF_STAT_OVF)) (h5 : W (.fld F.PMC_SMP_DROP_RING)) (h6 : W (.fld F.PMC_SMP_STAT_COUNT)) (h7 : W (.fld H.PMC_CNT)) (h8 : W (.fld H.PMC_OVF_DUE)) (h9 : W (.fld H.PMC_OVF_T)) (h10 : W (.fld H.PMC_RING)) (h11 : W (.fld H.PMC_TRACE_POS)) (a0 : Nat) (a1 : Nat) (a2 : Option Sys2Proof.Machine.Pmc.Who) (a3 : Option Nat) (h : Moves W s₀ s) :
    Moves W s₀ (Sys2Proof.Machine.Pmc.event a0 a1 a2 a3 s) := by
  unfold Sys2Proof.Machine.Pmc.event
  repeat' (first
    | with_reducible assumption
    | with_reducible apply Pmc_add_moves
    | intro _
    | split)

theorem Pmc_access_moves {W : Part → Prop} {s₀ s : State} (h0 : W .qdr) (h1 : W (.fld F.PMC_INT_CAUSE_OVF)) (h2 : W (.fld F.PMC_INT_CAUSE_SMP_AVAIL)) (h3 : W (.fld F.PMC_INT_CAUSE_SMP_DROP)) (h4 : W (.fld F.PMC_OVF_STAT_OVF)) (h5 : W (.fld F.PMC_SMP_DROP_RING)) (h6 : W (.fld F.PMC_SMP_STAT_COUNT)) (h7 : W (.fld H.PMC_CNT)) (h8 : W (.fld H.PMC_OVF_DUE)) (h9 : W (.fld H.PMC_OVF_T)) (h10 : W (.fld H.PMC_RING)) (h11 : W (.fld H.PMC_TRACE_POS)) (a0 : Nat) (a1 : Sys2Proof.Machine.Pmc.Who) (a2 : Nat) (a3 : Sys2Proof.Machine.State) (h : Moves W s₀ s) :
    Moves W s₀ (Sys2Proof.Machine.Pmc.access a0 a1 a2 a3 s) := by
  unfold Sys2Proof.Machine.Pmc.access
  repeat' (first
    | with_reducible assumption
    | with_reducible apply Pmc_add_moves
    | intro _
    | split)

theorem Pmc_system_moves {W : Part → Prop} {s₀ s : State} (h0 : W .qdr) (h1 : W (.fld F.PMC_INT_CAUSE_OVF)) (h2 : W (.fld F.PMC_INT_CAUSE_SMP_AVAIL)) (h3 : W (.fld F.PMC_INT_CAUSE_SMP_DROP)) (h4 : W (.fld F.PMC_OVF_STAT_OVF)) (h5 : W (.fld F.PMC_SMP_DROP_RING)) (h6 : W (.fld F.PMC_SMP_STAT_COUNT)) (h7 : W (.fld H.PMC_CNT)) (h8 : W (.fld H.PMC_OVF_DUE)) (h9 : W (.fld H.PMC_OVF_T)) (h10 : W (.fld H.PMC_RING)) (h11 : W (.fld H.PMC_TRACE_POS)) (a0 : Nat) (h : Moves W s₀ s) :
    Moves W s₀ (Sys2Proof.Machine.Pmc.system a0 s) := by
  unfold Sys2Proof.Machine.Pmc.system
  repeat' (first
    | with_reducible assumption
    | with_reducible apply Pmc_event_moves
    | intro _)

theorem Pmc_wrap_moves {W : Part → Prop} {s₀ s : State} (h0 : W .qdr) (h1 : W (.fld F.PMC_INT_CAUSE_OVF)) (h2 : W (.fld F.PMC_INT_CAUSE_SMP_AVAIL)) (h3 : W (.fld F.PMC_INT_CAUSE_SMP_DROP)) (h4 : W (.fld F.PMC_OVF_STAT_OVF)) (h5 : W (.fld F.PMC_SMP_DROP_RING)) (h6 : W (.fld F.PMC_SMP_STAT_COUNT)) (h7 : W (.fld H.PMC_CNT)) (h8 : W (.fld H.PMC_OVF_DUE)) (h9 : W (.fld H.PMC_OVF_T)) (h10 : W (.fld H.PMC_RING)) (h11 : W (.fld H.PMC_TRACE_POS)) (a0 : Nat) (h : Moves W s₀ s) :
    Moves W s₀ (Sys2Proof.Machine.Pmc.wrap a0 s) := by
  unfold Sys2Proof.Machine.Pmc.wrap
  repeat' (first
    | with_reducible assumption
    | with_reducible apply Pmc_add_moves
    | intro _
    | split)

theorem Pmc_readLo_moves {W : Part → Prop} {s₀ s : State} (h0 : W (.fld H.PMC_SNAP_HI)) (h1 : W (.fld H.PMC_SNAP_VALID)) (a0 : Nat) (a1 : Nat) (h : Moves W s₀ s) :
    Moves W s₀ (Sys2Proof.Machine.Pmc.readLo a0 a1 s).2 := by
  unfold Sys2Proof.Machine.Pmc.readLo
  repeat' (first
    | with_reducible assumption
    | with_reducible apply Moves.put
    | with_reducible apply Moves.set
    | intro _
    | (extract_lets +onlyGivenNames x; first
      | (refine Moves.keep (W := W) (s₀ := s₀) x ?_ ?_; rotate_left; intro hx; clear_value x; rotate_right)
      | (refine Moves.keep (W := W) (s₀ := s₀) x.2 ?_ ?_; rotate_left; intro hx; clear_value x; rotate_right)
      | (refine Moves.keep (W := W) (s₀ := s₀) x.1 ?_ ?_; rotate_left; intro hx; clear_value x; rotate_right)
      | skip))

theorem Pmc_writeHi_moves {W : Part → Prop} {s₀ s : State} (h0 : W (.fld H.PMC_STAGE)) (a0 : Nat) (a1 : Nat) (a2 : Nat) (h : Moves W s₀ s) :
    Moves W s₀ (Sys2Proof.Machine.Pmc.writeHi a0 a1 a2 s) := by
  unfold Sys2Proof.Machine.Pmc.writeHi
  repeat' (first
    | with_reducible assumption
    | with_reducible apply Moves.put
    | intro _)

theorem Pmc_writeLo_moves {W : Part → Prop} {s₀ s : State} (h0 : W (.fld H.PMC_CNT)) (a0 : Nat) (a1 : Nat) (a2 : Nat) (h : Moves W s₀ s) :
    Moves W s₀ (Sys2Proof.Machine.Pmc.writeLo a0 a1 a2 s) := by
  unfold Sys2Proof.Machine.Pmc.writeLo
  repeat' (first
    | with_reducible assumption
    | with_reducible apply Moves.put
    | intro _
    | split)

theorem Pmc_methodChange_moves {W : Part → Prop} {s₀ s : State} (h0 : W (.fld F.PMC_INT_CAUSE_MODE_CHG)) (h1 : W (.fld F.PMC_SMP_STAT_METHOD)) (h : Moves W s₀ s) :
    Moves W s₀ (Sys2Proof.Machine.Pmc.methodChange s) := by
  unfold Sys2Proof.Machine.Pmc.methodChange
  repeat' (first
    | with_reducible assumption
    | with_reducible apply Moves.put
    | with_reducible apply Moves.set
    | intro _
    | split)

theorem Pmc_pick_moves {W : Part → Prop} {s₀ s : State} (h0 : W (.fld F.PMC_SMP_DROP_SKIP)) (h1 : W (.fld H.PMC_FOLLOW)) (h2 : W (.fld H.PMC_FOLLOW_HEAD)) (h3 : W (.fld H.PMC_FOLLOW_PC)) (h4 : W (.fld H.PMC_FOLLOW_T)) (a0 : Nat) (a1 : Nat) (a2 : Nat) (a3 : Nat) (a4 : Nat) (a5 : Nat) (a6 : Nat) (h : Moves W s₀ s) :
    Moves W s₀ (Sys2Proof.Machine.Pmc.pick a0 a1 a2 a3 a4 a5 a6 s) := by
  unfold Sys2Proof.Machine.Pmc.pick
  repeat' (first
    | with_reducible assumption
    | with_reducible apply Moves.count
    | with_reducible apply Moves.drew
    | with_reducible apply Moves.put
    | with_reducible apply Moves.set
    | intro _
    | split)

theorem Pmc_sampleRecord_moves {W : Part → Prop} {s₀ s : State} (h0 : W .qdr) (h1 : W (.fld F.PMC_INT_CAUSE_SMP_AVAIL)) (h2 : W (.fld F.PMC_INT_CAUSE_SMP_DROP)) (h3 : W (.fld F.PMC_SMP_DROP_RING)) (h4 : W (.fld F.PMC_SMP_STAT_COUNT)) (h5 : W (.fld H.PMC_FOLLOW)) (h6 : W (.fld H.PMC_RING)) (h7 : W (.fld H.PMC_TRACE_POS)) (a0 : Nat) (a1 : Nat) (a2 : Nat) (a3 : Nat) (a4 : Nat) (h : Moves W s₀ s) :
    Moves W s₀ (Sys2Proof.Machine.Pmc.sampleRecord a0 a1 a2 a3 a4 s) := by
  unfold Sys2Proof.Machine.Pmc.sampleRecord
  repeat' (first
    | with_reducible assumption
    | with_reducible apply Moves.clr
    | with_reducible apply Pmc_record_moves
    | intro _
    | split
    | (extract_lets +onlyGivenNames x; first
      | (refine Moves.keep (W := W) (s₀ := s₀) x ?_ ?_; rotate_left; intro hx; clear_value x; rotate_right)
      | (refine Moves.keep (W := W) (s₀ := s₀) x.2 ?_ ?_; rotate_left; intro hx; clear_value x; rotate_right)
      | (refine Moves.keep (W := W) (s₀ := s₀) x.1 ?_ ?_; rotate_left; intro hx; clear_value x; rotate_right)
      | skip))

theorem Pmc_skid_moves {W : Part → Prop} {s₀ s : State} (h0 : W (.fld H.PMC_OVF_SKID)) (a0 : Nat) (a1 : Nat) (h : Moves W s₀ s) :
    Moves W s₀ (Sys2Proof.Machine.Pmc.skid a0 a1 s) := by
  unfold Sys2Proof.Machine.Pmc.skid
  repeat' (first
    | with_reducible assumption
    | with_reducible apply Moves.each
    | with_reducible apply Moves.put
    | intro _
    | split)

theorem Pmc_caused_moves {W : Part → Prop} {s₀ s : State} (h0 : W (.fld H.PMC_OVF_SKID)) (h1 : W (.fld H.PMC_OVF_THR)) (a0 : Nat) (a1 : Sys2Proof.Machine.State) (h : Moves W s₀ s) :
    Moves W s₀ (Sys2Proof.Machine.Pmc.caused a0 a1 s) := by
  unfold Sys2Proof.Machine.Pmc.caused
  repeat' (first
    | with_reducible assumption
    | with_reducible apply Moves.clr
    | with_reducible apply Moves.each
    | with_reducible apply Moves.put
    | intro _
    | split)

theorem Pmc_overflowRecord_moves {W : Part → Prop} {s₀ s : State} (h0 : W .qdr) (h1 : W (.fld F.PMC_INT_CAUSE_SMP_AVAIL)) (h2 : W (.fld F.PMC_INT_CAUSE_SMP_DROP)) (h3 : W (.fld F.PMC_SMP_DROP_RING)) (h4 : W (.fld F.PMC_SMP_STAT_COUNT)) (h5 : W (.fld H.PMC_OVF_DUE)) (h6 : W (.fld H.PMC_RING)) (h7 : W (.fld H.PMC_TRACE_POS)) (a0 : Nat) (a1 : Nat) (a2 : Nat) (a3 : Nat) (a4 : Nat) (a5 : Nat) (a6 : Nat) (a7 : Nat) (a8 : Nat) (a9 : Nat) (a10 : Nat) (h : Moves W s₀ s) :
    Moves W s₀ (Sys2Proof.Machine.Pmc.overflowRecord a0 a1 a2 a3 a4 a5 a6 a7 a8 a9 a10 s) := by
  unfold Sys2Proof.Machine.Pmc.overflowRecord
  repeat' (first
    | with_reducible assumption
    | with_reducible apply Moves.clr
    | with_reducible apply Pmc_record_moves
    | intro _
    | split
    | (extract_lets +onlyGivenNames x; first
      | (refine Moves.keep (W := W) (s₀ := s₀) x ?_ ?_; rotate_left; intro hx; clear_value x; rotate_right)
      | (refine Moves.keep (W := W) (s₀ := s₀) x.2 ?_ ?_; rotate_left; intro hx; clear_value x; rotate_right)
      | (refine Moves.keep (W := W) (s₀ := s₀) x.1 ?_ ?_; rotate_left; intro hx; clear_value x; rotate_right)
      | skip))

end Sys2Proof.Laws
end

