-- ==== Sys2Proof/Laws/MovesQdm.lean ====
section
/-! SUPPORT. Sys2Proof/Laws/MovesQdm.lean: what each operation of Machine/Qdm.lean may write (Laws/Moves.lean). -/
namespace Sys2Proof.Laws
open Sys2Proof Sys2Proof.Machine

theorem Qdm_refresh_moves {W : Part → Prop} {s₀ s : State} (h0 : W (.fld F.QDM_BW_LIMIT)) (h1 : W (.fld F.QDM_BW_USED)) (h2 : W (.fld F.QDM_POOL_STAT_QDR_FREE)) (h : Moves W s₀ s) :
    Moves W s₀ (Sys2Proof.Machine.Qdm.refresh s) := by
  unfold Sys2Proof.Machine.Qdm.refresh
  repeat' (first
    | with_reducible assumption
    | with_reducible apply Moves.put
    | intro _
    | (extract_lets +onlyGivenNames x; first
      | (refine Moves.keep (W := W) (s₀ := s₀) x ?_ ?_; rotate_left; intro hx; clear_value x; rotate_right)
      | (refine Moves.keep (W := W) (s₀ := s₀) x.2 ?_ ?_; rotate_left; intro hx; clear_value x; rotate_right)
      | (refine Moves.keep (W := W) (s₀ := s₀) x.1 ?_ ?_; rotate_left; intro hx; clear_value x; rotate_right)
      | skip))

theorem Qdm_transferred_moves {W : Part → Prop} {s₀ s : State} (h0 : W .qdr) (h1 : W (.fld F.PMC_INT_CAUSE_OVF)) (h2 : W (.fld F.PMC_INT_CAUSE_SMP_AVAIL)) (h3 : W (.fld F.PMC_INT_CAUSE_SMP_DROP)) (h4 : W (.fld F.PMC_OVF_STAT_OVF)) (h5 : W (.fld F.PMC_SMP_DROP_RING)) (h6 : W (.fld F.PMC_SMP_STAT_COUNT)) (h7 : W (.fld H.PMC_CNT)) (h8 : W (.fld H.PMC_OVF_DUE)) (h9 : W (.fld H.PMC_OVF_T)) (h10 : W (.fld H.PMC_RING)) (h11 : W (.fld H.PMC_TRACE_POS)) (a0 : Nat) (a1 : Nat) (h : Moves W s₀ s) :
    Moves W s₀ (Sys2Proof.Machine.Qdm.transferred a0 a1 s) := by
  unfold Sys2Proof.Machine.Qdm.transferred
  repeat' (first
    | with_reducible assumption
    | with_reducible apply Pmc_add_moves
    | intro _
    | split)

theorem Qdm_reserve_moves {W : Part → Prop} {s₀ s : State} (h0 : W (.fld F.QDM_BW_LIMIT)) (h1 : W (.fld F.QDM_BW_USED)) (h2 : W (.fld F.QDM_POOL_STAT_DIE_FREE)) (h3 : W (.fld F.QDM_POOL_STAT_QDR_FREE)) (h4 : W (.fld H.QDM_COMMITTED)) (h5 : W (.fld H.QDM_RESERVED)) (a0 : Nat) (a1 : Nat) (h : Moves W s₀ s) :
    Moves W s₀ (Sys2Proof.Machine.Qdm.reserve a0 a1 s) := by
  unfold Sys2Proof.Machine.Qdm.reserve
  repeat' (first
    | with_reducible assumption
    | with_reducible apply Moves.put
    | with_reducible apply Qdm_refresh_moves
    | intro _
    | split)

theorem Qdm_unreserve_moves {W : Part → Prop} {s₀ s : State} (h0 : W (.fld F.QDM_BW_LIMIT)) (h1 : W (.fld F.QDM_BW_USED)) (h2 : W (.fld F.QDM_POOL_STAT_DIE_FREE)) (h3 : W (.fld F.QDM_POOL_STAT_QDR_FREE)) (h4 : W (.fld H.QDM_COMMITTED)) (h5 : W (.fld H.QDM_RESERVED)) (a0 : Nat) (a1 : Nat) (h : Moves W s₀ s) :
    Moves W s₀ (Sys2Proof.Machine.Qdm.unreserve a0 a1 s) := by
  unfold Sys2Proof.Machine.Qdm.unreserve
  repeat' (first
    | with_reducible assumption
    | with_reducible apply Moves.put
    | with_reducible apply Qdm_refresh_moves
    | intro _
    | split)

theorem Qdm_draw_moves {W : Part → Prop} {s₀ s : State} (h0 : W .qdr) (h1 : W (.fld F.PMC_INT_CAUSE_OVF)) (h2 : W (.fld F.PMC_INT_CAUSE_SMP_AVAIL)) (h3 : W (.fld F.PMC_INT_CAUSE_SMP_DROP)) (h4 : W (.fld F.PMC_OVF_STAT_OVF)) (h5 : W (.fld F.PMC_SMP_DROP_RING)) (h6 : W (.fld F.PMC_SMP_STAT_COUNT)) (h7 : W (.fld F.QDM_BW_LIMIT)) (h8 : W (.fld F.QDM_BW_USED)) (h9 : W (.fld F.QDM_POOL_STAT_QDR_FREE)) (h10 : W (.fld H.PMC_CNT)) (h11 : W (.fld H.PMC_OVF_DUE)) (h12 : W (.fld H.PMC_OVF_T)) (h13 : W (.fld H.PMC_RING)) (h14 : W (.fld H.PMC_TRACE_POS)) (h15 : W (.fld H.QDM_EXTRA)) (h16 : W (.fld H.QDM_HELD)) (h17 : W (.fld H.QDM_POOL_USED)) (a0 : Nat) (a1 : Nat) (h : Moves W s₀ s) :
    Moves W s₀ (Sys2Proof.Machine.Qdm.draw a0 a1 s).2 := by
  unfold Sys2Proof.Machine.Qdm.draw
  repeat' (first
    | with_reducible assumption
    | with_reducible apply Moves.put
    | with_reducible apply Qdm_transferred_moves
    | with_reducible apply Qdm_refresh_moves
    | intro _
    | split
    | (extract_lets +onlyGivenNames x; first
      | (refine Moves.keep (W := W) (s₀ := s₀) x ?_ ?_; rotate_left; intro hx; clear_value x; rotate_right)
      | (refine Moves.keep (W := W) (s₀ := s₀) x.2 ?_ ?_; rotate_left; intro hx; clear_value x; rotate_right)
      | (refine Moves.keep (W := W) (s₀ := s₀) x.1 ?_ ?_; rotate_left; intro hx; clear_value x; rotate_right)
      | skip))

theorem Qdm_free_moves {W : Part → Prop} {s₀ s : State} (h0 : W (.fld F.QDM_BW_LIMIT)) (h1 : W (.fld F.QDM_BW_USED)) (h2 : W (.fld F.QDM_POOL_STAT_QDR_FREE)) (h3 : W (.fld H.QDM_EXTRA)) (h4 : W (.fld H.QDM_HELD)) (h5 : W (.fld H.QDM_POOL_USED)) (a0 : Nat) (a1 : Nat) (h : Moves W s₀ s) :
    Moves W s₀ (Sys2Proof.Machine.Qdm.free a0 a1 s) := by
  unfold Sys2Proof.Machine.Qdm.free
  repeat' (first
    | with_reducible assumption
    | with_reducible apply Moves.put
    | with_reducible apply Qdm_refresh_moves
    | intro _
    | split
    | (extract_lets +onlyGivenNames x; first
      | (refine Moves.keep (W := W) (s₀ := s₀) x ?_ ?_; rotate_left; intro hx; clear_value x; rotate_right)
      | (refine Moves.keep (W := W) (s₀ := s₀) x.2 ?_ ?_; rotate_left; intro hx; clear_value x; rotate_right)
      | (refine Moves.keep (W := W) (s₀ := s₀) x.1 ?_ ?_; rotate_left; intro hx; clear_value x; rotate_right)
      | skip))

theorem Qdm_train_moves {W : Part → Prop} {s₀ s : State} (h0 : W (.fld F.QDM_TRAIN_STAT_FAIL)) (h1 : W (.fld F.QDM_TRAIN_STAT_OK)) (h2 : W (.fld F.QDM_TRAIN_STAT_STEP)) (h3 : W (.fld H.QDM_CENTRE)) (h4 : W (.fld H.QDM_TRAINING)) (a0 : Nat) (h : Moves W s₀ s) :
    Moves W s₀ (Sys2Proof.Machine.Qdm.train a0 s) := by
  unfold Sys2Proof.Machine.Qdm.train
  repeat' (first
    | with_reducible assumption
    | with_reducible apply Moves.clr
    | with_reducible apply Moves.each
    | with_reducible apply Moves.setBit
    | intro _
    | split
    | (extract_lets +onlyGivenNames x; first
      | (refine Moves.keep (W := W) (s₀ := s₀) x ?_ ?_; rotate_left; intro hx; clear_value x; rotate_right)
      | (refine Moves.keep (W := W) (s₀ := s₀) x.2 ?_ ?_; rotate_left; intro hx; clear_value x; rotate_right)
      | (refine Moves.keep (W := W) (s₀ := s₀) x.1 ?_ ?_; rotate_left; intro hx; clear_value x; rotate_right)
      | skip))

theorem Qdm_enable_moves {W : Part → Prop} {s₀ s : State} (h0 : W (.fld F.QDM_CTRL_EN)) (h1 : W (.fld F.QDM_INT_CAUSE_CFG_ERR)) (h2 : W (.fld F.QDM_INT_CAUSE_REGION_ERR)) (h3 : W (.fld F.QDM_TRAIN_STAT_FAIL)) (h4 : W (.fld F.QDM_TRAIN_STAT_OK)) (h5 : W (.fld F.QDM_TRAIN_STAT_STEP)) (h6 : W (.fld H.QDM_CENTRE)) (h7 : W (.fld H.QDM_TRAINING)) (h : Moves W s₀ s) :
    Moves W s₀ (Sys2Proof.Machine.Qdm.enable s) := by
  unfold Sys2Proof.Machine.Qdm.enable
  repeat' (first
    | with_reducible assumption
    | with_reducible apply Moves.set
    | with_reducible apply Qdm_train_moves
    | intro _
    | split
    | (extract_lets +onlyGivenNames x; first
      | (refine Moves.keep (W := W) (s₀ := s₀) x ?_ ?_; rotate_left; intro hx; clear_value x; rotate_right)
      | (refine Moves.keep (W := W) (s₀ := s₀) x.2 ?_ ?_; rotate_left; intro hx; clear_value x; rotate_right)
      | (refine Moves.keep (W := W) (s₀ := s₀) x.1 ?_ ?_; rotate_left; intro hx; clear_value x; rotate_right)
      | skip))

theorem Qdm_disable_moves {W : Part → Prop} {s₀ s : State} (h0 : W (.fld F.QDM_BW_LIMIT)) (h1 : W (.fld F.QDM_BW_USED)) (h2 : W (.fld F.QDM_CTRL_EN)) (h3 : W (.fld F.QDM_POOL_STAT_QDR_FREE)) (h4 : W (.fld F.QDM_STAT_IN_USE)) (h5 : W (.fld H.QDM_TRAINING)) (h : Moves W s₀ s) :
    Moves W s₀ (Sys2Proof.Machine.Qdm.disable s) := by
  unfold Sys2Proof.Machine.Qdm.disable
  repeat' (first
    | with_reducible assumption
    | with_reducible apply Moves.clr
    | with_reducible apply Qdm_refresh_moves
    | intro _
    | split)

theorem Qdm_trained_moves {W : Part → Prop} {s₀ s : State} (h0 : W (.fld F.QDM_BW_LIMIT)) (h1 : W (.fld F.QDM_BW_USED)) (h2 : W (.fld F.QDM_CTRL_EN)) (h3 : W (.fld F.QDM_INT_CAUSE_REGION_ERR)) (h4 : W (.fld F.QDM_INT_CAUSE_TRAIN_FAIL)) (h5 : W (.fld F.QDM_POOL_STAT_QDR_FREE)) (h6 : W (.fld F.QDM_STAT_IN_USE)) (h7 : W (.fld F.QDM_STAT_PORT_FAIL)) (h8 : W (.fld F.QDM_TRAIN_STAT_FAIL)) (h9 : W (.fld F.QDM_TRAIN_STAT_OK)) (h10 : W (.fld F.QDM_TRAIN_STAT_STEP)) (h11 : W (.fld H.QDM_TRAINING)) (a0 : Nat) (a1 : Nat) (h : Moves W s₀ s) :
    Moves W s₀ (Sys2Proof.Machine.Qdm.trained a0 a1 s) := by
  unfold Sys2Proof.Machine.Qdm.trained
  repeat' (first
    | with_reducible assumption
    | with_reducible apply Moves.clrBit
    | with_reducible apply Moves.put
    | with_reducible apply Moves.set
    | with_reducible apply Moves.setBit
    | with_reducible apply Qdm_disable_moves
    | with_reducible apply Qdm_refresh_moves
    | intro _
    | split
    | (extract_lets +onlyGivenNames x; first
      | (refine Moves.keep (W := W) (s₀ := s₀) x ?_ ?_; rotate_left; intro hx; clear_value x; rotate_right)
      | (refine Moves.keep (W := W) (s₀ := s₀) x.2 ?_ ?_; rotate_left; intro hx; clear_value x; rotate_right)
      | (refine Moves.keep (W := W) (s₀ := s₀) x.1 ?_ ?_; rotate_left; intro hx; clear_value x; rotate_right)
      | skip))

theorem Qdm_retrain_moves {W : Part → Prop} {s₀ s : State} (h0 : W (.fld F.QDM_TRAIN_STAT_FAIL)) (h1 : W (.fld F.QDM_TRAIN_STAT_OK)) (h2 : W (.fld F.QDM_TRAIN_STAT_STEP)) (h3 : W (.fld H.QDM_CENTRE)) (h4 : W (.fld H.QDM_TRAINING)) (h : Moves W s₀ s) :
    Moves W s₀ (Sys2Proof.Machine.Qdm.retrain s) := by
  unfold Sys2Proof.Machine.Qdm.retrain
  repeat' (first
    | with_reducible assumption
    | with_reducible apply Qdm_train_moves
    | intro _
    | split)

theorem Qdm_recentre_moves {W : Part → Prop} {s₀ s : State} (h0 : W (.fld H.QDM_CENTRE)) (a0 : Nat) (a1 : List Nat) (h : Moves W s₀ s) :
    Moves W s₀ (Sys2Proof.Machine.Qdm.recentre a0 a1 s) := by
  unfold Sys2Proof.Machine.Qdm.recentre
  repeat' (first
    | with_reducible assumption
    | with_reducible apply Moves.eachOf
    | with_reducible apply Moves.sput
    | intro _
    | split)

theorem Qdm_writeCtrl_moves {W : Part → Prop} {s₀ s : State} (h0 : W (.fld F.QDM_BW_LIMIT)) (h1 : W (.fld F.QDM_BW_USED)) (h2 : W (.fld F.QDM_CTRL_EN)) (h3 : W (.fld F.QDM_CTRL_ERR_THR)) (h4 : W (.fld F.QDM_CTRL_FREQ_MHZ)) (h5 : W (.fld F.QDM_INT_CAUSE_CFG_ERR)) (h6 : W (.fld F.QDM_INT_CAUSE_REGION_ERR)) (h7 : W (.fld F.QDM_POOL_STAT_QDR_FREE)) (h8 : W (.fld F.QDM_STAT_IN_USE)) (h9 : W (.fld F.QDM_TRAIN_STAT_FAIL)) (h10 : W (.fld F.QDM_TRAIN_STAT_OK)) (h11 : W (.fld F.QDM_TRAIN_STAT_STEP)) (h12 : W (.fld H.QDM_CENTRE)) (h13 : W (.fld H.QDM_TRAINING)) (a0 : Nat) (h : Moves W s₀ s) :
    Moves W s₀ (Sys2Proof.Machine.Qdm.writeCtrl a0 s) := by
  unfold Sys2Proof.Machine.Qdm.writeCtrl
  repeat' (first
    | with_reducible assumption
    | with_reducible apply Moves.put
    | with_reducible apply Qdm_enable_moves
    | with_reducible apply Qdm_disable_moves
    | with_reducible apply Qdm_retrain_moves
    | intro _
    | split
    | (extract_lets +onlyGivenNames x; first
      | (refine Moves.keep (W := W) (s₀ := s₀) x ?_ ?_; rotate_left; intro hx; clear_value x; rotate_right)
      | (refine Moves.keep (W := W) (s₀ := s₀) x.2 ?_ ?_; rotate_left; intro hx; clear_value x; rotate_right)
      | (refine Moves.keep (W := W) (s₀ := s₀) x.1 ?_ ?_; rotate_left; intro hx; clear_value x; rotate_right)
      | skip))

theorem Qdm_writeRegion_moves {W : Part → Prop} {s₀ s : State} (h0 : W (.fld F.QDM_REGION_BASE)) (h1 : W (.fld F.QDM_REGION_SIZE)) (a0 : Nat) (a1 : Nat) (a2 : Nat) (h : Moves W s₀ s) :
    Moves W s₀ (Sys2Proof.Machine.Qdm.writeRegion a0 a1 a2 s) := by
  unfold Sys2Proof.Machine.Qdm.writeRegion
  repeat' (first
    | with_reducible assumption
    | with_reducible apply Moves.put
    | intro _
    | split)

theorem Qdm_dataError_moves {W : Part → Prop} {s₀ s : State} (h0 : W (.fld F.QDM_ERR_ADDR_ADDR)) (h1 : W (.fld F.QDM_ERR_CNT_DATA)) (h2 : W (.fld F.QDM_INT_CAUSE_DATA_PERR)) (h3 : W (.fld H.QDM_ERRS_SEC)) (a0 : Nat) (a1 : Nat) (h : Moves W s₀ s) :
    Moves W s₀ (Sys2Proof.Machine.Qdm.dataError a0 a1 s) := by
  unfold Sys2Proof.Machine.Qdm.dataError
  repeat' (first
    | with_reducible assumption
    | with_reducible apply Moves.count
    | with_reducible apply Moves.put
    | with_reducible apply Moves.set
    | intro _
    | split)

theorem Qdm_addrError_moves {W : Part → Prop} {s₀ s : State} (h0 : W (.fld F.QDM_ERR_CNT_ADDR)) (h1 : W (.fld F.QDM_INT_CAUSE_ADDR_PERR)) (h2 : W (.fld H.QDM_ERRS_SEC)) (a0 : Nat) (h : Moves W s₀ s) :
    Moves W s₀ (Sys2Proof.Machine.Qdm.addrError a0 s) := by
  unfold Sys2Proof.Machine.Qdm.addrError
  repeat' (first
    | with_reducible assumption
    | with_reducible apply Moves.count
    | with_reducible apply Moves.set
    | intro _
    | split)

end Sys2Proof.Laws
end

