-- ==== Sys2Proof/Laws/MovesFec.lean ====
section
/-! SUPPORT. Sys2Proof/Laws/MovesFec.lean: what each operation of Machine/Fec.lean may write (Laws/Moves.lean). -/
namespace Sys2Proof.Laws
open Sys2Proof Sys2Proof.Machine

theorem Fec_startTx_moves {W : Part → Prop} {s₀ s : State} (h0 : W (.fld H.FEC_TX_POS)) (h1 : W (.fld H.FRM_CF_DUE)) (a0 : Nat) (h : Moves W s₀ s) :
    Moves W s₀ (Sys2Proof.Machine.Fec.startTx a0 s) := by
  unfold Sys2Proof.Machine.Fec.startTx
  repeat' (first
    | with_reducible assumption
    | with_reducible apply Moves.clr
    | intro _)

theorem Fec_startRx_moves {W : Part → Prop} {s₀ s : State} (h0 : W (.fld H.FEC_RX_ON)) (h1 : W (.fld H.FEC_RX_POS)) (h2 : W (.fld H.FEC_RX_WAIT)) (h3 : W (.fld H.FEC_SL_ON)) (h4 : W (.fld H.FEC_SL_WAIT)) (a0 : Nat) (h : Moves W s₀ s) :
    Moves W s₀ (Sys2Proof.Machine.Fec.startRx a0 s) := by
  unfold Sys2Proof.Machine.Fec.startRx
  repeat' (first
    | with_reducible assumption
    | with_reducible apply Moves.clr
    | with_reducible apply Moves.each
    | intro _
    | (extract_lets +onlyGivenNames x; first
      | (refine Moves.keep (W := W) (s₀ := s₀) x ?_ ?_; rotate_left; intro hx; clear_value x; rotate_right)
      | (refine Moves.keep (W := W) (s₀ := s₀) x.2 ?_ ?_; rotate_left; intro hx; clear_value x; rotate_right)
      | (refine Moves.keep (W := W) (s₀ := s₀) x.1 ?_ ?_; rotate_left; intro hx; clear_value x; rotate_right)
      | skip))

theorem Fec_startRxAll_moves {W : Part → Prop} {s₀ s : State} (h0 : W (.arr H.FEC_RX_ON)) (h1 : W (.arr H.FEC_RX_POS)) (h2 : W (.arr H.FEC_RX_WAIT)) (h3 : W (.arr H.FEC_SL_ON)) (h4 : W (.arr H.FEC_SL_POS)) (h5 : W (.arr H.FEC_SL_WAIT)) (h : Moves W s₀ s) :
    Moves W s₀ (Sys2Proof.Machine.Fec.startRxAll s) := by
  unfold Sys2Proof.Machine.Fec.startRxAll
  repeat' (first
    | with_reducible assumption
    | with_reducible apply Moves.wipe
    | intro _)

theorem Fec_setRxPos_moves {W : Part → Prop} {s₀ s : State} (h0 : W (.fld H.FEC_RX_POS)) (h1 : W (.fld H.FEC_SL_POS)) (a0 : Nat) (a1 : Nat) (a2 : Nat) (h : Moves W s₀ s) :
    Moves W s₀ (Sys2Proof.Machine.Fec.setRxPos a0 a1 a2 s) := by
  unfold Sys2Proof.Machine.Fec.setRxPos
  repeat' (first
    | with_reducible assumption
    | with_reducible apply Moves.put
    | intro _
    | split)

theorem Fec_rxFrame_moves {W : Part → Prop} {s₀ s : State} (h0 : W (.fld H.FEC_RX_ON)) (h1 : W (.fld H.FEC_RX_POS)) (h2 : W (.fld H.FEC_RX_WAIT)) (h3 : W (.fld H.FEC_SL_ON)) (h4 : W (.fld H.FEC_SL_POS)) (h5 : W (.fld H.FEC_SL_WAIT)) (a0 : Nat) (a1 : Nat) (h : Moves W s₀ s) :
    Moves W s₀ (Sys2Proof.Machine.Fec.rxFrame a0 a1 s) := by
  unfold Sys2Proof.Machine.Fec.rxFrame
  repeat' (first
    | with_reducible assumption
    | with_reducible apply Moves.clr
    | with_reducible apply Moves.set
    | with_reducible apply Fec_setRxPos_moves
    | intro _
    | split
    | (extract_lets +onlyGivenNames x; first
      | (refine Moves.keep (W := W) (s₀ := s₀) x ?_ ?_; rotate_left; intro hx; clear_value x; rotate_right)
      | (refine Moves.keep (W := W) (s₀ := s₀) x.2 ?_ ?_; rotate_left; intro hx; clear_value x; rotate_right)
      | (refine Moves.keep (W := W) (s₀ := s₀) x.1 ?_ ?_; rotate_left; intro hx; clear_value x; rotate_right)
      | skip))

theorem Fec_readPhase_moves {W : Part → Prop} {s₀ s : State} (h0 : W (.fld H.FEC_RX_ON)) (h1 : W (.fld H.FEC_RX_POS)) (h2 : W (.fld H.FEC_RX_WAIT)) (h3 : W (.fld H.FEC_SL_ON)) (h4 : W (.fld H.FEC_SL_POS)) (h5 : W (.fld H.FEC_SL_WAIT)) (a0 : Nat) (a1 : Nat) (a2 : Nat) (a3 : Nat) (h : Moves W s₀ s) :
    Moves W s₀ (Sys2Proof.Machine.Fec.readPhase a0 a1 a2 a3 s) := by
  unfold Sys2Proof.Machine.Fec.readPhase
  repeat' (first
    | with_reducible assumption
    | with_reducible apply Moves.set
    | with_reducible apply Fec_setRxPos_moves
    | with_reducible apply Fec_rxFrame_moves
    | intro _
    | split
    | (extract_lets +onlyGivenNames x; first
      | (refine Moves.keep (W := W) (s₀ := s₀) x ?_ ?_; rotate_left; intro hx; clear_value x; rotate_right)
      | (refine Moves.keep (W := W) (s₀ := s₀) x.2 ?_ ?_; rotate_left; intro hx; clear_value x; rotate_right)
      | (refine Moves.keep (W := W) (s₀ := s₀) x.1 ?_ ?_; rotate_left; intro hx; clear_value x; rotate_right)
      | skip))

theorem Fec_advance_moves {W : Part → Prop} {s₀ s : State} (h0 : W (.fld H.FEC_TX_POS)) (h1 : W (.fld H.FRM_CF_DUE)) (a0 : Nat) (a1 : Nat) (h : Moves W s₀ s) :
    Moves W s₀ (Sys2Proof.Machine.Fec.advance a0 a1 s) := by
  unfold Sys2Proof.Machine.Fec.advance
  repeat' (first
    | with_reducible assumption
    | with_reducible apply Moves.count
    | with_reducible apply Moves.put
    | intro _
    | split
    | (extract_lets +onlyGivenNames x; first
      | (refine Moves.keep (W := W) (s₀ := s₀) x ?_ ?_; rotate_left; intro hx; clear_value x; rotate_right)
      | (refine Moves.keep (W := W) (s₀ := s₀) x.2 ?_ ?_; rotate_left; intro hx; clear_value x; rotate_right)
      | (refine Moves.keep (W := W) (s₀ := s₀) x.1 ?_ ?_; rotate_left; intro hx; clear_value x; rotate_right)
      | skip))

theorem Fec_writeRate_moves {W : Part → Prop} {s₀ s : State} (h0 : W (.fld F.FEC_INT_CAUSE_CFG_ERR)) (a0 : Sys2Proof.Machine.Field) (a1 : Bool) (a2 : Nat) (a3 : Sys2Proof.Machine.State → Sys2Proof.Machine.State) (hg0 : W (.fld a0)) (hf3 : ∀ b0, Moves W s₀ b0 → Moves W s₀ (a3 b0)) (h : Moves W s₀ s) :
    Moves W s₀ (Sys2Proof.Machine.Fec.writeRate a0 a1 a2 a3 s) := by
  unfold Sys2Proof.Machine.Fec.writeRate
  repeat' (first
    | with_reducible assumption
    | with_reducible apply Moves.put
    | with_reducible apply Moves.set
    | with_reducible apply hf3
    | intro _
    | split)

theorem Fec_writeCfg_moves {W : Part → Prop} {s₀ s : State} (h0 : W (.arr H.FEC_RX_ON)) (h1 : W (.arr H.FEC_RX_POS)) (h2 : W (.arr H.FEC_RX_WAIT)) (h3 : W (.arr H.FEC_SL_ON)) (h4 : W (.arr H.FEC_SL_POS)) (h5 : W (.arr H.FEC_SL_WAIT)) (h6 : W (.fld F.FEC_CFG_ET_EN)) (h7 : W (.fld F.FEC_CFG_ITER_MAX)) (h8 : W (.fld F.FEC_CFG_RATE_RX)) (h9 : W (.fld F.FEC_CFG_RATE_TX)) (h10 : W (.fld F.FEC_INT_CAUSE_CFG_ERR)) (h11 : W (.fld H.FEC_TX_POS)) (h12 : W (.fld H.FRM_CF_DUE)) (a0 : Nat) (h : Moves W s₀ s) :
    Moves W s₀ (Sys2Proof.Machine.Fec.writeCfg a0 s) := by
  unfold Sys2Proof.Machine.Fec.writeCfg
  repeat' (first
    | with_reducible assumption
    | with_reducible apply Moves.each
    | with_reducible apply Moves.put
    | with_reducible apply Moves.set
    | with_reducible apply Fec_writeRate_moves
    | with_reducible apply Fec_startTx_moves
    | with_reducible apply Fec_startRxAll_moves
    | intro _
    | split
    | (extract_lets +onlyGivenNames x; first
      | (refine Moves.keep (W := W) (s₀ := s₀) x ?_ ?_; rotate_left; intro hx; clear_value x; rotate_right)
      | (refine Moves.keep (W := W) (s₀ := s₀) x.2 ?_ ?_; rotate_left; intro hx; clear_value x; rotate_right)
      | (refine Moves.keep (W := W) (s₀ := s₀) x.1 ?_ ?_; rotate_left; intro hx; clear_value x; rotate_right)
      | skip))

theorem Fec_validFrom_moves {W : Part → Prop} {s₀ s : State} (h0 : W (.fld H.FEC_PART)) (a0 : Nat) (h : Moves W s₀ s) :
    Moves W s₀ (Sys2Proof.Machine.Fec.validFrom a0 s) := by
  unfold Sys2Proof.Machine.Fec.validFrom
  repeat' (first
    | with_reducible assumption
    | with_reducible apply Moves.set
    | intro _)

theorem Fec_mark_moves {W : Part → Prop} {s₀ s : State} (h0 : W (.fld H.FEC_MARK)) (a0 : Nat) (h : Moves W s₀ s) :
    Moves W s₀ (Sys2Proof.Machine.Fec.mark a0 s) := by
  unfold Sys2Proof.Machine.Fec.mark
  repeat' (first
    | with_reducible assumption
    | with_reducible apply Moves.set
    | intro _)

theorem Fec_codeword_moves {W : Part → Prop} {s₀ s : State} (h0 : W .qdr) (h1 : W (.fld F.PMC_INT_CAUSE_OVF)) (h2 : W (.fld F.PMC_INT_CAUSE_SMP_AVAIL)) (h3 : W (.fld F.PMC_INT_CAUSE_SMP_DROP)) (h4 : W (.fld F.PMC_OVF_STAT_OVF)) (h5 : W (.fld F.PMC_SMP_DROP_RING)) (h6 : W (.fld F.PMC_SMP_STAT_COUNT)) (h7 : W (.fld H.FEC_LIVE_CBITS)) (h8 : W (.fld H.FEC_LIVE_CW)) (h9 : W (.fld H.FEC_LIVE_HIST)) (h10 : W (.fld H.FEC_LIVE_INVAL)) (h11 : W (.fld H.FEC_LIVE_LDPC)) (h12 : W (.fld H.FEC_LIVE_ROWS)) (h13 : W (.fld H.FEC_MARK)) (h14 : W (.fld H.FEC_PART)) (h15 : W (.fld H.PMC_CNT)) (h16 : W (.fld H.PMC_OVF_DUE)) (h17 : W (.fld H.PMC_OVF_T)) (h18 : W (.fld H.PMC_RING)) (h19 : W (.fld H.PMC_TRACE_POS)) (a0 : Nat) (a1 : Nat) (a2 : Bool) (a3 : Nat) (a4 : Nat) (a5 : Nat) (h : Moves W s₀ s) :
    Moves W s₀ (Sys2Proof.Machine.Fec.codeword a0 a1 a2 a3 a4 a5 s) := by
  unfold Sys2Proof.Machine.Fec.codeword
  repeat' (first
    | with_reducible assumption
    | with_reducible apply Moves.clr
    | with_reducible apply Moves.count
    | with_reducible apply Fec_mark_moves
    | with_reducible apply Pmc_add_moves
    | intro _
    | split
    | (extract_lets +onlyGivenNames x; first
      | (refine Moves.keep (W := W) (s₀ := s₀) x ?_ ?_; rotate_left; intro hx; clear_value x; rotate_right)
      | (refine Moves.keep (W := W) (s₀ := s₀) x.2 ?_ ?_; rotate_left; intro hx; clear_value x; rotate_right)
      | (refine Moves.keep (W := W) (s₀ := s₀) x.1 ?_ ?_; rotate_left; intro hx; clear_value x; rotate_right)
      | skip))

theorem Fec_latchSc_moves {W : Part → Prop} {s₀ s : State} (h0 : W (.fld F.FEC_INT_CAUSE_PRE_SD)) (h1 : W (.fld F.FEC_PM_CBITS_COUNT)) (h2 : W (.fld F.FEC_PM_CBITS_HI_COUNT)) (h3 : W (.fld F.FEC_PM_CW_OK)) (h4 : W (.fld F.FEC_PM_FAIL_LDPC)) (h5 : W (.fld F.FEC_PM_FAIL_ROWS)) (h6 : W (.fld F.FEC_PM_INVAL_COUNT)) (h7 : W (.fld F.FEC_SD_MAP_SC)) (h8 : W (.fld H.FEC_LIVE_CBITS)) (h9 : W (.fld H.FEC_LIVE_CW)) (h10 : W (.fld H.FEC_LIVE_INVAL)) (h11 : W (.fld H.FEC_LIVE_LDPC)) (h12 : W (.fld H.FEC_LIVE_ROWS)) (a0 : Nat) (h : Moves W s₀ s) :
    Moves W s₀ (Sys2Proof.Machine.Fec.latchSc a0 s) := by
  unfold Sys2Proof.Machine.Fec.latchSc
  repeat' (first
    | with_reducible assumption
    | with_reducible apply Moves.clr
    | with_reducible apply Moves.put
    | with_reducible apply Moves.putBit
    | with_reducible apply Moves.set
    | intro _
    | split
    | (extract_lets +onlyGivenNames x; first
      | (refine Moves.keep (W := W) (s₀ := s₀) x ?_ ?_; rotate_left; intro hx; clear_value x; rotate_right)
      | (refine Moves.keep (W := W) (s₀ := s₀) x.2 ?_ ?_; rotate_left; intro hx; clear_value x; rotate_right)
      | (refine Moves.keep (W := W) (s₀ := s₀) x.1 ?_ ?_; rotate_left; intro hx; clear_value x; rotate_right)
      | skip))

theorem Fec_latch_moves {W : Part → Prop} {s₀ s : State} (h0 : W (.fld F.FEC_INT_CAUSE_PM_LATCH)) (h1 : W (.fld F.FEC_INT_CAUSE_PRE_SD)) (h2 : W (.fld F.FEC_ITER_HIST_COUNT)) (h3 : W (.fld F.FEC_PM_CBITS_COUNT)) (h4 : W (.fld F.FEC_PM_CBITS_HI_COUNT)) (h5 : W (.fld F.FEC_PM_CW_OK)) (h6 : W (.fld F.FEC_PM_FAIL_LDPC)) (h7 : W (.fld F.FEC_PM_FAIL_ROWS)) (h8 : W (.fld F.FEC_PM_INVAL_COUNT)) (h9 : W (.fld F.FEC_SD_MAP_SC)) (h10 : W (.fld H.FEC_LIVE_CBITS)) (h11 : W (.fld H.FEC_LIVE_CW)) (h12 : W (.fld H.FEC_LIVE_HIST)) (h13 : W (.fld H.FEC_LIVE_INVAL)) (h14 : W (.fld H.FEC_LIVE_LDPC)) (h15 : W (.fld H.FEC_LIVE_ROWS)) (h : Moves W s₀ s) :
    Moves W s₀ (Sys2Proof.Machine.Fec.latch s) := by
  unfold Sys2Proof.Machine.Fec.latch
  repeat' (first
    | with_reducible assumption
    | with_reducible apply Moves.clr
    | with_reducible apply Moves.each
    | with_reducible apply Moves.put
    | with_reducible apply Moves.set
    | with_reducible apply Fec_latchSc_moves
    | intro _
    | (extract_lets +onlyGivenNames x; first
      | (refine Moves.keep (W := W) (s₀ := s₀) x ?_ ?_; rotate_left; intro hx; clear_value x; rotate_right)
      | (refine Moves.keep (W := W) (s₀ := s₀) x.2 ?_ ?_; rotate_left; intro hx; clear_value x; rotate_right)
      | (refine Moves.keep (W := W) (s₀ := s₀) x.1 ?_ ?_; rotate_left; intro hx; clear_value x; rotate_right)
      | skip))

end Sys2Proof.Laws
end

