-- ==== Sys2Proof/Laws/MovesLsr.lean ====
section
/-! SUPPORT. Sys2Proof/Laws/MovesLsr.lean: what each operation of Machine/Lsr.lean may write (Laws/Moves.lean). -/
namespace Sys2Proof.Laws
open Sys2Proof Sys2Proof.Machine

theorem Lsr_showBusy_moves {W : Part → Prop} {s₀ s : State} (h0 : W (.fld F.LSR_STAT_SER_BUSY)) (a0 : Nat) (h : Moves W s₀ s) :
    Moves W s₀ (Sys2Proof.Machine.Lsr.showBusy a0 s) := by
  unfold Sys2Proof.Machine.Lsr.showBusy
  repeat' (first
    | with_reducible assumption
    | with_reducible apply Moves.putBit
    | intro _)

theorem Lsr_sendNext_moves {W : Part → Prop} {s₀ s : State} (h0 : W (.fld F.LSR_STAT_SER_BUSY)) (h1 : W (.fld H.LSR_HOST_PEND)) (h2 : W (.fld H.LSR_HOST_RUN)) (h3 : W (.fld H.LSR_OWN_PEND)) (h4 : W (.fld H.LSR_OWN_RUN)) (h5 : W (.fld H.LSR_TUNE_PEND)) (a0 : Nat) (h : Moves W s₀ s) :
    Moves W s₀ (Sys2Proof.Machine.Lsr.sendNext a0 s) := by
  unfold Sys2Proof.Machine.Lsr.sendNext
  repeat' (first
    | with_reducible assumption
    | with_reducible apply Moves.clr
    | with_reducible apply Moves.emit
    | with_reducible apply Moves.put
    | with_reducible apply Moves.set
    | with_reducible apply Lsr_showBusy_moves
    | intro _
    | split
    | (extract_lets +onlyGivenNames x; first
      | (refine Moves.keep (W := W) (s₀ := s₀) x ?_ ?_; rotate_left; intro hx; clear_value x; rotate_right)
      | (refine Moves.keep (W := W) (s₀ := s₀) x.2 ?_ ?_; rotate_left; intro hx; clear_value x; rotate_right)
      | (refine Moves.keep (W := W) (s₀ := s₀) x.1 ?_ ?_; rotate_left; intro hx; clear_value x; rotate_right)
      | skip))

theorem Lsr_serCmd_moves {W : Part → Prop} {s₀ s : State} (h0 : W (.fld F.LSR_SER_CMD_FRAME)) (h1 : W (.fld F.LSR_STAT_SER_BUSY)) (h2 : W (.fld H.LSR_HOST_PEND)) (h3 : W (.fld H.LSR_HOST_RUN)) (h4 : W (.fld H.LSR_OWN_PEND)) (h5 : W (.fld H.LSR_OWN_RUN)) (h6 : W (.fld H.LSR_TUNE_PEND)) (a0 : Nat) (a1 : Nat) (h : Moves W s₀ s) :
    Moves W s₀ (Sys2Proof.Machine.Lsr.serCmd a0 a1 s) := by
  unfold Sys2Proof.Machine.Lsr.serCmd
  repeat' (first
    | with_reducible assumption
    | with_reducible apply Moves.put
    | with_reducible apply Moves.set
    | with_reducible apply Lsr_sendNext_moves
    | intro _
    | split)

theorem Lsr_ownCommand_moves {W : Part → Prop} {s₀ s : State} (h0 : W (.fld F.LSR_STAT_SER_BUSY)) (h1 : W (.fld H.LSR_HOST_PEND)) (h2 : W (.fld H.LSR_HOST_RUN)) (h3 : W (.fld H.LSR_OWN_CMD)) (h4 : W (.fld H.LSR_OWN_PEND)) (h5 : W (.fld H.LSR_OWN_RUN)) (h6 : W (.fld H.LSR_TUNE_PEND)) (a0 : Nat) (a1 : Nat) (h : Moves W s₀ s) :
    Moves W s₀ (Sys2Proof.Machine.Lsr.ownCommand a0 a1 s) := by
  unfold Sys2Proof.Machine.Lsr.ownCommand
  repeat' (first
    | with_reducible assumption
    | with_reducible apply Moves.put
    | with_reducible apply Moves.set
    | with_reducible apply Lsr_sendNext_moves
    | intro _)

theorem Lsr_tune_moves {W : Part → Prop} {s₀ s : State} (h0 : W (.fld F.LSR_STAT_SER_BUSY)) (h1 : W (.fld H.LSR_HOST_PEND)) (h2 : W (.fld H.LSR_HOST_RUN)) (h3 : W (.fld H.LSR_OWN_CMD)) (h4 : W (.fld H.LSR_OWN_PEND)) (h5 : W (.fld H.LSR_OWN_RUN)) (h6 : W (.fld H.LSR_SET)) (h7 : W (.fld H.LSR_TUNE_CMD)) (h8 : W (.fld H.LSR_TUNE_PEND)) (a0 : Nat) (a1 : Int) (h : Moves W s₀ s) :
    Moves W s₀ (Sys2Proof.Machine.Lsr.tune a0 a1 s) := by
  unfold Sys2Proof.Machine.Lsr.tune
  repeat' (first
    | with_reducible assumption
    | with_reducible apply Moves.put
    | with_reducible apply Moves.set
    | with_reducible apply Moves.sput
    | with_reducible apply Lsr_ownCommand_moves
    | intro _
    | split
    | (extract_lets +onlyGivenNames x; first
      | (refine Moves.keep (W := W) (s₀ := s₀) x ?_ ?_; rotate_left; intro hx; clear_value x; rotate_right)
      | (refine Moves.keep (W := W) (s₀ := s₀) x.2 ?_ ?_; rotate_left; intro hx; clear_value x; rotate_right)
      | (refine Moves.keep (W := W) (s₀ := s₀) x.1 ?_ ?_; rotate_left; intro hx; clear_value x; rotate_right)
      | skip))

theorem Lsr_finish_moves {W : Part → Prop} {s₀ s : State} (h0 : W (.fld F.LSR_INT_CAUSE_SER_DONE)) (h1 : W (.fld F.LSR_INT_CAUSE_SER_ERR)) (h2 : W (.fld F.LSR_STAT_SER_BUSY)) (h3 : W (.fld H.LSR_HOST_PEND)) (h4 : W (.fld H.LSR_HOST_RUN)) (h5 : W (.fld H.LSR_OWN_DONE)) (h6 : W (.fld H.LSR_OWN_PEND)) (h7 : W (.fld H.LSR_OWN_RUN)) (h8 : W (.fld H.LSR_POLLING)) (h9 : W (.fld H.LSR_TUNE_PEND)) (a0 : Nat) (a1 : Bool) (h : Moves W s₀ s) :
    Moves W s₀ (Sys2Proof.Machine.Lsr.finish a0 a1 s) := by
  unfold Sys2Proof.Machine.Lsr.finish
  repeat' (first
    | with_reducible assumption
    | with_reducible apply Moves.clr
    | with_reducible apply Moves.set
    | with_reducible apply Lsr_sendNext_moves
    | intro _
    | split
    | (extract_lets +onlyGivenNames x; first
      | (refine Moves.keep (W := W) (s₀ := s₀) x ?_ ?_; rotate_left; intro hx; clear_value x; rotate_right)
      | (refine Moves.keep (W := W) (s₀ := s₀) x.2 ?_ ?_; rotate_left; intro hx; clear_value x; rotate_right)
      | (refine Moves.keep (W := W) (s₀ := s₀) x.1 ?_ ?_; rotate_left; intro hx; clear_value x; rotate_right)
      | skip))

theorem Lsr_response_moves {W : Part → Prop} {s₀ s : State} (h0 : W (.fld F.LSR_INT_CAUSE_SER_DONE)) (h1 : W (.fld F.LSR_INT_CAUSE_SER_ERR)) (h2 : W (.fld F.LSR_SER_RESP_FRAME)) (h3 : W (.fld F.LSR_STAT_SER_BUSY)) (h4 : W (.fld H.LSR_HOST_PEND)) (h5 : W (.fld H.LSR_HOST_RUN)) (h6 : W (.fld H.LSR_OWN_DONE)) (h7 : W (.fld H.LSR_OWN_PEND)) (h8 : W (.fld H.LSR_OWN_RUN)) (h9 : W (.fld H.LSR_POLLING)) (h10 : W (.fld H.LSR_TUNE_PEND)) (a0 : Nat) (a1 : Nat) (h : Moves W s₀ s) :
    Moves W s₀ (Sys2Proof.Machine.Lsr.response a0 a1 s) := by
  unfold Sys2Proof.Machine.Lsr.response
  repeat' (first
    | with_reducible assumption
    | with_reducible apply Moves.put
    | with_reducible apply Moves.set
    | with_reducible apply Lsr_finish_moves
    | intro _
    | split
    | (extract_lets +onlyGivenNames x; first
      | (refine Moves.keep (W := W) (s₀ := s₀) x ?_ ?_; rotate_left; intro hx; clear_value x; rotate_right)
      | (refine Moves.keep (W := W) (s₀ := s₀) x.2 ?_ ?_; rotate_left; intro hx; clear_value x; rotate_right)
      | (refine Moves.keep (W := W) (s₀ := s₀) x.1 ?_ ?_; rotate_left; intro hx; clear_value x; rotate_right)
      | skip))

theorem Lsr_poll_moves {W : Part → Prop} {s₀ s : State} (h0 : W (.fld F.LSR_INT_CAUSE_SER_DONE)) (h1 : W (.fld F.LSR_INT_CAUSE_SER_ERR)) (h2 : W (.fld F.LSR_STAT_SER_BUSY)) (h3 : W (.fld H.LSR_HOST_PEND)) (h4 : W (.fld H.LSR_HOST_RUN)) (h5 : W (.fld H.LSR_OWN_DONE)) (h6 : W (.fld H.LSR_OWN_PEND)) (h7 : W (.fld H.LSR_OWN_RUN)) (h8 : W (.fld H.LSR_POLLING)) (h9 : W (.fld H.LSR_TUNE_PEND)) (a0 : Nat) (a1 : Bool) (h : Moves W s₀ s) :
    Moves W s₀ (Sys2Proof.Machine.Lsr.poll a0 a1 s) := by
  unfold Sys2Proof.Machine.Lsr.poll
  repeat' (first
    | with_reducible assumption
    | with_reducible apply Moves.emit
    | with_reducible apply Lsr_finish_moves
    | intro _
    | split)

theorem Lsr_timeout_moves {W : Part → Prop} {s₀ s : State} (h0 : W (.fld F.LSR_INT_CAUSE_SER_DONE)) (h1 : W (.fld F.LSR_INT_CAUSE_SER_ERR)) (h2 : W (.fld F.LSR_STAT_SER_BUSY)) (h3 : W (.fld H.LSR_HOST_PEND)) (h4 : W (.fld H.LSR_HOST_RUN)) (h5 : W (.fld H.LSR_OWN_DONE)) (h6 : W (.fld H.LSR_OWN_PEND)) (h7 : W (.fld H.LSR_OWN_RUN)) (h8 : W (.fld H.LSR_POLLING)) (h9 : W (.fld H.LSR_TUNE_PEND)) (a0 : Nat) (h : Moves W s₀ s) :
    Moves W s₀ (Sys2Proof.Machine.Lsr.timeout a0 s) := by
  unfold Sys2Proof.Machine.Lsr.timeout
  repeat' (first
    | with_reducible assumption
    | with_reducible apply Lsr_finish_moves
    | intro _
    | split)

theorem Lsr_writeCtrl_moves {W : Part → Prop} {s₀ s : State} (h0 : W (.fld F.LSR_CTRL_SER_EN)) (h1 : W (.fld F.LSR_CTRL_SIG_EN)) (h2 : W (.fld F.LSR_STAT_SER_BUSY)) (h3 : W (.fld H.LSR_HOST_PEND)) (h4 : W (.fld H.LSR_HOST_RUN)) (h5 : W (.fld H.LSR_OWN_PEND)) (h6 : W (.fld H.LSR_OWN_RUN)) (h7 : W (.fld H.LSR_TUNE_PEND)) (a0 : Nat) (h : Moves W s₀ s) :
    Moves W s₀ (Sys2Proof.Machine.Lsr.writeCtrl a0 s) := by
  unfold Sys2Proof.Machine.Lsr.writeCtrl
  repeat' (first
    | with_reducible assumption
    | with_reducible apply Moves.put
    | with_reducible apply Lsr_sendNext_moves
    | intro _
    | (extract_lets +onlyGivenNames x; first
      | (refine Moves.keep (W := W) (s₀ := s₀) x ?_ ?_; rotate_left; intro hx; clear_value x; rotate_right)
      | (refine Moves.keep (W := W) (s₀ := s₀) x.2 ?_ ?_; rotate_left; intro hx; clear_value x; rotate_right)
      | (refine Moves.keep (W := W) (s₀ := s₀) x.1 ?_ ?_; rotate_left; intro hx; clear_value x; rotate_right)
      | skip))

theorem Lsr_setFine_moves {W : Part → Prop} {s₀ s : State} (h0 : W (.fld F.LRX_LOFB_STAT_FINE)) (h1 : W (.fld F.LSR_FT_OUT_LIMIT)) (h2 : W (.fld F.LSR_FT_OUT_MHZ)) (h3 : W (.fld H.LSR_CODE)) (a0 : Nat) (a1 : Int) (h : Moves W s₀ s) :
    Moves W s₀ (Sys2Proof.Machine.Lsr.setFine a0 a1 s) := by
  unfold Sys2Proof.Machine.Lsr.setFine
  repeat' (first
    | with_reducible assumption
    | with_reducible apply Moves.put
    | with_reducible apply Moves.sput
    | intro _
    | split
    | (extract_lets +onlyGivenNames x; first
      | (refine Moves.keep (W := W) (s₀ := s₀) x ?_ ?_; rotate_left; intro hx; clear_value x; rotate_right)
      | (refine Moves.keep (W := W) (s₀ := s₀) x.2 ?_ ?_; rotate_left; intro hx; clear_value x; rotate_right)
      | (refine Moves.keep (W := W) (s₀ := s₀) x.1 ?_ ?_; rotate_left; intro hx; clear_value x; rotate_right)
      | skip))

theorem Lsr_showOwners_moves {W : Part → Prop} {s₀ s : State} (h0 : W (.fld F.LSR_FT_OUT_OWNER)) (h : Moves W s₀ s) :
    Moves W s₀ (Sys2Proof.Machine.Lsr.showOwners s) := by
  unfold Sys2Proof.Machine.Lsr.showOwners
  repeat' (first
    | with_reducible assumption
    | with_reducible apply Moves.put
    | intro _)

theorem Lsr_writeFtOut_moves {W : Part → Prop} {s₀ s : State} (h0 : W (.fld F.LRX_LOFB_STAT_FINE)) (h1 : W (.fld F.LSR_FT_OUT_LIMIT)) (h2 : W (.fld F.LSR_FT_OUT_MHZ)) (h3 : W (.fld F.LSR_INT_CAUSE_OWNED)) (h4 : W (.fld H.LSR_CODE)) (a0 : Nat) (a1 : Nat) (h : Moves W s₀ s) :
    Moves W s₀ (Sys2Proof.Machine.Lsr.writeFtOut a0 a1 s) := by
  unfold Sys2Proof.Machine.Lsr.writeFtOut
  repeat' (first
    | with_reducible assumption
    | with_reducible apply Moves.set
    | with_reducible apply Lsr_setFine_moves
    | intro _
    | split)

theorem Lsr_writeGain_moves {W : Part → Prop} {s₀ s : State} (h0 : W (.fld F.LRX_LOFB_STAT_FINE)) (h1 : W (.fld F.LSR_FT_CFG_GAIN_KHZ)) (h2 : W (.fld F.LSR_FT_OUT_LIMIT)) (h3 : W (.fld F.LSR_FT_OUT_MHZ)) (h4 : W (.fld F.LSR_INT_CAUSE_CFG_ERR)) (h5 : W (.fld H.LSR_CODE)) (a0 : Nat) (a1 : Nat) (h : Moves W s₀ s) :
    Moves W s₀ (Sys2Proof.Machine.Lsr.writeGain a0 a1 s) := by
  unfold Sys2Proof.Machine.Lsr.writeGain
  repeat' (first
    | with_reducible assumption
    | with_reducible apply Moves.put
    | with_reducible apply Moves.set
    | with_reducible apply Lsr_setFine_moves
    | intro _
    | split)

theorem Lsr_laser_moves {W : Part → Prop} {s₀ s : State} (h0 : W (.fld F.LSR_STAT_HOLD)) (h1 : W (.fld F.LSR_STAT_LASER_EN)) (h : Moves W s₀ s) :
    Moves W s₀ (Sys2Proof.Machine.Lsr.laser s) := by
  unfold Sys2Proof.Machine.Lsr.laser
  repeat' (first
    | with_reducible assumption
    | with_reducible apply Moves.put
    | intro _
    | split
    | (extract_lets +onlyGivenNames x; first
      | (refine Moves.keep (W := W) (s₀ := s₀) x ?_ ?_; rotate_left; intro hx; clear_value x; rotate_right)
      | (refine Moves.keep (W := W) (s₀ := s₀) x.2 ?_ ?_; rotate_left; intro hx; clear_value x; rotate_right)
      | (refine Moves.keep (W := W) (s₀ := s₀) x.1 ?_ ?_; rotate_left; intro hx; clear_value x; rotate_right)
      | skip))

end Sys2Proof.Laws
end

