-- ==== Sys2Proof/Laws/MovesPwrOps.lean ====
section
/-! SUPPORT. Sys2Proof/Laws/MovesPwrOps.lean: what each operation of Machine/PwrOps.lean may write (Laws/Moves.lean). -/
namespace Sys2Proof.Laws
open Sys2Proof Sys2Proof.Machine

theorem Pwr_event_moves {W : Part → Prop} {s₀ s : State} (h0 : W (.fld F.PWR_INT_CAUSE_SLACK)) (h : Moves W s₀ s) :
    Moves W s₀ (Sys2Proof.Machine.Pwr.event s) := by
  unfold Sys2Proof.Machine.Pwr.event
  repeat' (first
    | with_reducible assumption
    | with_reducible apply Moves.set
    | intro _)

theorem Pwr_recovered_moves {W : Part → Prop} {s₀ s : State} (h0 : W (.fld H.PWR_LOW)) (a0 : Nat) (h : Moves W s₀ s) :
    Moves W s₀ (Sys2Proof.Machine.Pwr.recovered a0 s) := by
  unfold Sys2Proof.Machine.Pwr.recovered
  repeat' (first
    | with_reducible assumption
    | with_reducible apply Moves.clrBit
    | intro _
    | split)

theorem Pwr_observe_moves {W : Part → Prop} {s₀ s : State} (h0 : W (.fld F.PWR_SLACK_LVL_MIN)) (h1 : W (.fld F.PWR_SLACK_LVL_NOW)) (h2 : W (.fld H.PWR_LOW)) (a0 : Nat) (a1 : Nat) (h : Moves W s₀ s) :
    Moves W s₀ (Sys2Proof.Machine.Pwr.observe a0 a1 s) := by
  unfold Sys2Proof.Machine.Pwr.observe
  repeat' (first
    | with_reducible assumption
    | with_reducible apply Moves.put
    | with_reducible apply Pwr_recovered_moves
    | intro _
    | split
    | (extract_lets +onlyGivenNames x; first
      | (refine Moves.keep (W := W) (s₀ := s₀) x ?_ ?_; rotate_left; intro hx; clear_value x; rotate_right)
      | (refine Moves.keep (W := W) (s₀ := s₀) x.2 ?_ ?_; rotate_left; intro hx; clear_value x; rotate_right)
      | (refine Moves.keep (W := W) (s₀ := s₀) x.1 ?_ ?_; rotate_left; intro hx; clear_value x; rotate_right)
      | skip))

theorem Pwr_observeAll_moves {W : Part → Prop} {s₀ s : State} (h0 : W (.fld F.PWR_SLACK_LVL_MIN)) (h1 : W (.fld F.PWR_SLACK_LVL_NOW)) (h2 : W (.fld H.PWR_LOW)) (a0 : List Nat) (h : Moves W s₀ s) :
    Moves W s₀ (Sys2Proof.Machine.Pwr.observeAll a0 s) := by
  unfold Sys2Proof.Machine.Pwr.observeAll
  repeat' (first
    | with_reducible assumption
    | with_reducible apply Moves.eachOf
    | with_reducible apply Pwr_observe_moves
    | intro _)

theorem Pwr_request_moves {W : Part → Prop} {s₀ s : State} (h0 : W (.fld F.PWR_AVS_READ_BUSY)) (h1 : W (.fld F.PWR_VMIN_VREQ_MV)) (h2 : W (.fld H.PWR_TARGET)) (h3 : W (.fld H.PWR_VMIN_ASKED)) (a0 : Nat) (h : Moves W s₀ s) :
    Moves W s₀ (Sys2Proof.Machine.Pwr.request a0 s) := by
  unfold Sys2Proof.Machine.Pwr.request
  repeat' (first
    | with_reducible assumption
    | with_reducible apply Moves.clr
    | with_reducible apply Moves.emit
    | with_reducible apply Moves.put
    | with_reducible apply Moves.set
    | intro _
    | (extract_lets +onlyGivenNames x; first
      | (refine Moves.keep (W := W) (s₀ := s₀) x ?_ ?_; rotate_left; intro hx; clear_value x; rotate_right)
      | (refine Moves.keep (W := W) (s₀ := s₀) x.2 ?_ ?_; rotate_left; intro hx; clear_value x; rotate_right)
      | (refine Moves.keep (W := W) (s₀ := s₀) x.1 ?_ ?_; rotate_left; intro hx; clear_value x; rotate_right)
      | skip))

theorem Pwr_increase_moves {W : Part → Prop} {s₀ s : State} (h0 : W .qdr) (h1 : W (.fld F.PMC_INT_CAUSE_OVF)) (h2 : W (.fld F.PMC_INT_CAUSE_SMP_AVAIL)) (h3 : W (.fld F.PMC_INT_CAUSE_SMP_DROP)) (h4 : W (.fld F.PMC_OVF_STAT_OVF)) (h5 : W (.fld F.PMC_SMP_DROP_RING)) (h6 : W (.fld F.PMC_SMP_STAT_COUNT)) (h7 : W (.fld F.PWR_AVS_READ_BUSY)) (h8 : W (.fld F.PWR_INT_CAUSE_SLACK)) (h9 : W (.fld F.PWR_SAFE_STAT_AVS_CEILING)) (h10 : W (.fld F.PWR_VMIN_VREQ_MV)) (h11 : W (.fld H.PMC_CNT)) (h12 : W (.fld H.PMC_OVF_DUE)) (h13 : W (.fld H.PMC_OVF_T)) (h14 : W (.fld H.PMC_RING)) (h15 : W (.fld H.PMC_TRACE_POS)) (h16 : W (.fld H.PWR_TARGET)) (h17 : W (.fld H.PWR_VMIN_ASKED)) (h : Moves W s₀ s) :
    Moves W s₀ (Sys2Proof.Machine.Pwr.increase s) := by
  unfold Sys2Proof.Machine.Pwr.increase
  repeat' (first
    | with_reducible assumption
    | with_reducible apply Moves.set
    | with_reducible apply Pwr_event_moves
    | with_reducible apply Pmc_system_moves
    | with_reducible apply Pwr_request_moves
    | intro _
    | split
    | (extract_lets +onlyGivenNames x; first
      | (refine Moves.keep (W := W) (s₀ := s₀) x ?_ ?_; rotate_left; intro hx; clear_value x; rotate_right)
      | (refine Moves.keep (W := W) (s₀ := s₀) x.2 ?_ ?_; rotate_left; intro hx; clear_value x; rotate_right)
      | (refine Moves.keep (W := W) (s₀ := s₀) x.1 ?_ ?_; rotate_left; intro hx; clear_value x; rotate_right)
      | skip))

theorem Pwr_askVmin_moves {W : Part → Prop} {s₀ s : State} (h0 : W (.fld F.PWR_AVS_READ_BUSY)) (h1 : W (.fld F.PWR_VMIN_VREQ_MV)) (h2 : W (.fld H.PWR_TARGET)) (h3 : W (.fld H.PWR_VMIN_ASKED)) (h4 : W (.fld H.PWR_VMIN_FAILED)) (h5 : W (.fld H.PWR_VMIN_WAITS)) (h : Moves W s₀ s) :
    Moves W s₀ (Sys2Proof.Machine.Pwr.askVmin s) := by
  unfold Sys2Proof.Machine.Pwr.askVmin
  repeat' (first
    | with_reducible assumption
    | with_reducible apply Moves.clr
    | with_reducible apply Moves.set
    | with_reducible apply Pwr_request_moves
    | intro _
    | (extract_lets +onlyGivenNames x; first
      | (refine Moves.keep (W := W) (s₀ := s₀) x ?_ ?_; rotate_left; intro hx; clear_value x; rotate_right)
      | (refine Moves.keep (W := W) (s₀ := s₀) x.2 ?_ ?_; rotate_left; intro hx; clear_value x; rotate_right)
      | (refine Moves.keep (W := W) (s₀ := s₀) x.1 ?_ ?_; rotate_left; intro hx; clear_value x; rotate_right)
      | skip))

theorem Pwr_vminRequest_moves {W : Part → Prop} {s₀ s : State} (h0 : W (.fld F.PWR_AVS_READ_BUSY)) (h1 : W (.fld F.PWR_VMIN_VREQ_MV)) (h2 : W (.fld H.PWR_TARGET)) (h3 : W (.fld H.PWR_VMIN_ASKED)) (h4 : W (.fld H.PWR_VMIN_FAILED)) (h5 : W (.fld H.PWR_VMIN_WAITS)) (h : Moves W s₀ s) :
    Moves W s₀ (Sys2Proof.Machine.Pwr.vminRequest s) := by
  unfold Sys2Proof.Machine.Pwr.vminRequest
  repeat' (first
    | with_reducible assumption
    | with_reducible apply Moves.set
    | with_reducible apply Pwr_askVmin_moves
    | intro _
    | split
    | (extract_lets +onlyGivenNames x; first
      | (refine Moves.keep (W := W) (s₀ := s₀) x ?_ ?_; rotate_left; intro hx; clear_value x; rotate_right)
      | (refine Moves.keep (W := W) (s₀ := s₀) x.2 ?_ ?_; rotate_left; intro hx; clear_value x; rotate_right)
      | (refine Moves.keep (W := W) (s₀ := s₀) x.1 ?_ ?_; rotate_left; intro hx; clear_value x; rotate_right)
      | skip))

theorem Pwr_vminRecompute_moves {W : Part → Prop} {s₀ s : State} (h0 : W (.fld F.PWR_AVS_READ_BUSY)) (h1 : W (.fld F.PWR_VMIN_VMIN_MV)) (h2 : W (.fld F.PWR_VMIN_VREQ_MV)) (h3 : W (.fld H.PWR_TARGET)) (h4 : W (.fld H.PWR_VMIN_ASKED)) (h5 : W (.fld H.PWR_VMIN_FAILED)) (h6 : W (.fld H.PWR_VMIN_WAITS)) (h : Moves W s₀ s) :
    Moves W s₀ (Sys2Proof.Machine.Pwr.vminRecompute s) := by
  unfold Sys2Proof.Machine.Pwr.vminRecompute
  repeat' (first
    | with_reducible assumption
    | with_reducible apply Moves.put
    | with_reducible apply Pwr_vminRequest_moves
    | intro _)

theorem Pwr_vminResume_moves {W : Part → Prop} {s₀ s : State} (h0 : W (.fld F.PWR_AVS_READ_BUSY)) (h1 : W (.fld F.PWR_VMIN_VREQ_MV)) (h2 : W (.fld H.PWR_TARGET)) (h3 : W (.fld H.PWR_VMIN_ASKED)) (h4 : W (.fld H.PWR_VMIN_FAILED)) (h5 : W (.fld H.PWR_VMIN_WAITS)) (h : Moves W s₀ s) :
    Moves W s₀ (Sys2Proof.Machine.Pwr.vminResume s) := by
  unfold Sys2Proof.Machine.Pwr.vminResume
  repeat' (first
    | with_reducible assumption
    | with_reducible apply Moves.clr
    | with_reducible apply Pwr_vminRequest_moves
    | intro _
    | split)

theorem Pwr_acknowledge_moves {W : Part → Prop} {s₀ s : State} (h0 : W .qdr) (h1 : W (.fld F.PMC_INT_CAUSE_OVF)) (h2 : W (.fld F.PMC_INT_CAUSE_SMP_AVAIL)) (h3 : W (.fld F.PMC_INT_CAUSE_SMP_DROP)) (h4 : W (.fld F.PMC_OVF_STAT_OVF)) (h5 : W (.fld F.PMC_SMP_DROP_RING)) (h6 : W (.fld F.PMC_SMP_STAT_COUNT)) (h7 : W (.fld F.PWR_AVS_READ_BUSY)) (h8 : W (.fld F.PWR_INT_CAUSE_SLACK)) (h9 : W (.fld F.PWR_REST_STAT_WAKE_HELD)) (h10 : W (.fld F.PWR_SAFE_STAT_AVS_CEILING)) (h11 : W (.fld F.PWR_VMIN_VREQ_MV)) (h12 : W (.fld H.PMC_CNT)) (h13 : W (.fld H.PMC_OVF_DUE)) (h14 : W (.fld H.PMC_OVF_T)) (h15 : W (.fld H.PMC_RING)) (h16 : W (.fld H.PMC_TRACE_POS)) (h17 : W (.fld H.PWR_HOLD_RX)) (h18 : W (.fld H.PWR_HOLD_TX)) (h19 : W (.fld H.PWR_TARGET)) (h20 : W (.fld H.PWR_VMIN_ASKED)) (h21 : W (.fld H.PWR_VMIN_FAILED)) (h22 : W (.fld H.PWR_VMIN_WAITS)) (h : Moves W s₀ s) :
    Moves W s₀ (Sys2Proof.Machine.Pwr.acknowledge s) := by
  unfold Sys2Proof.Machine.Pwr.acknowledge
  repeat' (first
    | with_reducible assumption
    | with_reducible apply Moves.clr
    | with_reducible apply Pwr_vminResume_moves
    | with_reducible apply Pwr_increase_moves
    | intro _
    | split
    | (extract_lets +onlyGivenNames x; first
      | (refine Moves.keep (W := W) (s₀ := s₀) x ?_ ?_; rotate_left; intro hx; clear_value x; rotate_right)
      | (refine Moves.keep (W := W) (s₀ := s₀) x.2 ?_ ?_; rotate_left; intro hx; clear_value x; rotate_right)
      | (refine Moves.keep (W := W) (s₀ := s₀) x.1 ?_ ?_; rotate_left; intro hx; clear_value x; rotate_right)
      | skip))

theorem Pwr_poll_moves {W : Part → Prop} {s₀ s : State} (h0 : W .qdr) (h1 : W (.fld F.PMC_INT_CAUSE_OVF)) (h2 : W (.fld F.PMC_INT_CAUSE_SMP_AVAIL)) (h3 : W (.fld F.PMC_INT_CAUSE_SMP_DROP)) (h4 : W (.fld F.PMC_OVF_STAT_OVF)) (h5 : W (.fld F.PMC_SMP_DROP_RING)) (h6 : W (.fld F.PMC_SMP_STAT_COUNT)) (h7 : W (.fld F.PWR_AVS_READ_BUSY)) (h8 : W (.fld F.PWR_AVS_READ_MV)) (h9 : W (.fld F.PWR_INT_CAUSE_SLACK)) (h10 : W (.fld F.PWR_REST_STAT_WAKE_HELD)) (h11 : W (.fld F.PWR_SAFE_STAT_AVS_CEILING)) (h12 : W (.fld F.PWR_VMIN_VREQ_MV)) (h13 : W (.fld H.PMC_CNT)) (h14 : W (.fld H.PMC_OVF_DUE)) (h15 : W (.fld H.PMC_OVF_T)) (h16 : W (.fld H.PMC_RING)) (h17 : W (.fld H.PMC_TRACE_POS)) (h18 : W (.fld H.PWR_HOLD_RX)) (h19 : W (.fld H.PWR_HOLD_TX)) (h20 : W (.fld H.PWR_TARGET)) (h21 : W (.fld H.PWR_VMIN_ASKED)) (h22 : W (.fld H.PWR_VMIN_FAILED)) (h23 : W (.fld H.PWR_VMIN_WAITS)) (a0 : Nat) (h : Moves W s₀ s) :
    Moves W s₀ (Sys2Proof.Machine.Pwr.poll a0 s) := by
  unfold Sys2Proof.Machine.Pwr.poll
  repeat' (first
    | with_reducible assumption
    | with_reducible apply Moves.put
    | with_reducible apply Pwr_acknowledge_moves
    | intro _
    | split
    | (extract_lets +onlyGivenNames x; first
      | (refine Moves.keep (W := W) (s₀ := s₀) x ?_ ?_; rotate_left; intro hx; clear_value x; rotate_right)
      | (refine Moves.keep (W := W) (s₀ := s₀) x.2 ?_ ?_; rotate_left; intro hx; clear_value x; rotate_right)
      | (refine Moves.keep (W := W) (s₀ := s₀) x.1 ?_ ?_; rotate_left; intro hx; clear_value x; rotate_right)
      | skip))

theorem Pwr_timeout_moves {W : Part → Prop} {s₀ s : State} (h0 : W (.fld F.PWR_AVS_READ_BUSY)) (h1 : W (.fld F.PWR_INT_CAUSE_SLACK)) (h2 : W (.fld F.PWR_INT_CAUSE_WAKE_HELD)) (h3 : W (.fld F.PWR_REST_STAT_WAKE_HELD)) (h4 : W (.fld F.PWR_SAFE_STAT_AVS_FAIL)) (h5 : W (.fld F.PWR_VMIN_VREQ_MV)) (h6 : W (.fld H.PWR_TARGET)) (h7 : W (.fld H.PWR_VMIN_ASKED)) (h8 : W (.fld H.PWR_VMIN_FAILED)) (h9 : W (.fld H.PWR_VMIN_WAITS)) (h : Moves W s₀ s) :
    Moves W s₀ (Sys2Proof.Machine.Pwr.timeout s) := by
  unfold Sys2Proof.Machine.Pwr.timeout
  repeat' (first
    | with_reducible assumption
    | with_reducible apply Moves.clr
    | with_reducible apply Moves.set
    | with_reducible apply Pwr_event_moves
    | with_reducible apply Pwr_vminResume_moves
    | intro _
    | split
    | (extract_lets +onlyGivenNames x; first
      | (refine Moves.keep (W := W) (s₀ := s₀) x ?_ ?_; rotate_left; intro hx; clear_value x; rotate_right)
      | (refine Moves.keep (W := W) (s₀ := s₀) x.2 ?_ ?_; rotate_left; intro hx; clear_value x; rotate_right)
      | (refine Moves.keep (W := W) (s₀ := s₀) x.1 ?_ ?_; rotate_left; intro hx; clear_value x; rotate_right)
      | skip))

theorem Pwr_disarm_moves {W : Part → Prop} {s₀ s : State} (h0 : W (.fld F.PWR_SLACK_LVL_NOW)) (h1 : W (.fld H.PWR_ARMED)) (h2 : W (.fld H.PWR_LOW)) (a0 : Nat) (h : Moves W s₀ s) :
    Moves W s₀ (Sys2Proof.Machine.Pwr.disarm a0 s) := by
  unfold Sys2Proof.Machine.Pwr.disarm
  repeat' (first
    | with_reducible assumption
    | with_reducible apply Moves.clrBit
    | with_reducible apply Moves.put
    | intro _)

theorem Pwr_prefill_moves {W : Part → Prop} {s₀ s : State} (h0 : W (.fld H.PWR_ARMED)) (h1 : W (.fld H.PWR_PREFILLED)) (a0 : Nat) (h : Moves W s₀ s) :
    Moves W s₀ (Sys2Proof.Machine.Pwr.prefill a0 s) := by
  unfold Sys2Proof.Machine.Pwr.prefill
  repeat' (first
    | with_reducible assumption
    | with_reducible apply Moves.set
    | with_reducible apply Moves.setBit
    | intro _
    | split
    | (extract_lets +onlyGivenNames x; first
      | (refine Moves.keep (W := W) (s₀ := s₀) x ?_ ?_; rotate_left; intro hx; clear_value x; rotate_right)
      | (refine Moves.keep (W := W) (s₀ := s₀) x.2 ?_ ?_; rotate_left; intro hx; clear_value x; rotate_right)
      | (refine Moves.keep (W := W) (s₀ := s₀) x.1 ?_ ?_; rotate_left; intro hx; clear_value x; rotate_right)
      | skip))

theorem Pwr_drain_moves {W : Part → Prop} {s₀ s : State} (h0 : W (.fld H.PWR_PREFILLED)) (a0 : Nat) (a1 : Nat) (h : Moves W s₀ s) :
    Moves W s₀ (Sys2Proof.Machine.Pwr.drain a0 a1 s) := by
  unfold Sys2Proof.Machine.Pwr.drain
  repeat' (first
    | with_reducible assumption
    | with_reducible apply Moves.clr
    | with_reducible apply Moves.each
    | intro _)

theorem Pwr_release_moves {W : Part → Prop} {s₀ s : State} (h0 : W (.fld F.PWR_INT_CAUSE_SLACK)) (h1 : W (.fld F.PWR_SAFE_STAT_RELEASE_REFUSED)) (h2 : W (.fld H.PWR_RELEASING)) (h : Moves W s₀ s) :
    Moves W s₀ (Sys2Proof.Machine.Pwr.release s) := by
  unfold Sys2Proof.Machine.Pwr.release
  repeat' (first
    | with_reducible assumption
    | with_reducible apply Moves.eachOf
    | with_reducible apply Moves.set
    | with_reducible apply Moves.setBit
    | with_reducible apply Pwr_event_moves
    | intro _
    | split
    | (extract_lets +onlyGivenNames x; first
      | (refine Moves.keep (W := W) (s₀ := s₀) x ?_ ?_; rotate_left; intro hx; clear_value x; rotate_right)
      | (refine Moves.keep (W := W) (s₀ := s₀) x.2 ?_ ?_; rotate_left; intro hx; clear_value x; rotate_right)
      | (refine Moves.keep (W := W) (s₀ := s₀) x.1 ?_ ?_; rotate_left; intro hx; clear_value x; rotate_right)
      | skip))

theorem Pwr_autoRelease_moves {W : Part → Prop} {s₀ s : State} (h0 : W (.fld H.PWR_RELEASING)) (h : Moves W s₀ s) :
    Moves W s₀ (Sys2Proof.Machine.Pwr.autoRelease s) := by
  unfold Sys2Proof.Machine.Pwr.autoRelease
  repeat' (first
    | with_reducible assumption
    | with_reducible apply Moves.eachOf
    | with_reducible apply Moves.setBit
    | intro _
    | split)

theorem Pwr_decrease_moves {W : Part → Prop} {s₀ s : State} (h0 : W .qdr) (h1 : W (.fld F.PMC_INT_CAUSE_OVF)) (h2 : W (.fld F.PMC_INT_CAUSE_SMP_AVAIL)) (h3 : W (.fld F.PMC_INT_CAUSE_SMP_DROP)) (h4 : W (.fld F.PMC_OVF_STAT_OVF)) (h5 : W (.fld F.PMC_SMP_DROP_RING)) (h6 : W (.fld F.PMC_SMP_STAT_COUNT)) (h7 : W (.fld F.PWR_AVS_READ_BUSY)) (h8 : W (.fld F.PWR_VMIN_VREQ_MV)) (h9 : W (.fld H.PMC_CNT)) (h10 : W (.fld H.PMC_OVF_DUE)) (h11 : W (.fld H.PMC_OVF_T)) (h12 : W (.fld H.PMC_RING)) (h13 : W (.fld H.PMC_TRACE_POS)) (h14 : W (.fld H.PWR_TARGET)) (h15 : W (.fld H.PWR_VMIN_ASKED)) (h : Moves W s₀ s) :
    Moves W s₀ (Sys2Proof.Machine.Pwr.decrease s) := by
  unfold Sys2Proof.Machine.Pwr.decrease
  repeat' (first
    | with_reducible assumption
    | with_reducible apply Pmc_system_moves
    | with_reducible apply Pwr_request_moves
    | intro _
    | split
    | (extract_lets +onlyGivenNames x; first
      | (refine Moves.keep (W := W) (s₀ := s₀) x ?_ ?_; rotate_left; intro hx; clear_value x; rotate_right)
      | (refine Moves.keep (W := W) (s₀ := s₀) x.2 ?_ ?_; rotate_left; intro hx; clear_value x; rotate_right)
      | (refine Moves.keep (W := W) (s₀ := s₀) x.1 ?_ ?_; rotate_left; intro hx; clear_value x; rotate_right)
      | skip))

theorem Pwr_slackLow_moves {W : Part → Prop} {s₀ s : State} (h0 : W .qdr) (h1 : W (.fld F.PMC_INT_CAUSE_OVF)) (h2 : W (.fld F.PMC_INT_CAUSE_SMP_AVAIL)) (h3 : W (.fld F.PMC_INT_CAUSE_SMP_DROP)) (h4 : W (.fld F.PMC_OVF_STAT_OVF)) (h5 : W (.fld F.PMC_SMP_DROP_RING)) (h6 : W (.fld F.PMC_SMP_STAT_COUNT)) (h7 : W (.fld F.PWR_AVS_READ_BUSY)) (h8 : W (.fld F.PWR_INT_CAUSE_SLACK)) (h9 : W (.fld F.PWR_SAFE_STAT_AVS_CEILING)) (h10 : W (.fld F.PWR_SLACK_LVL_MIN)) (h11 : W (.fld F.PWR_SLACK_LVL_NOW)) (h12 : W (.fld F.PWR_SLACK_STAT_LOW)) (h13 : W (.fld F.PWR_VMIN_VREQ_MV)) (h14 : W (.fld H.PMC_CNT)) (h15 : W (.fld H.PMC_OVF_DUE)) (h16 : W (.fld H.PMC_OVF_T)) (h17 : W (.fld H.PMC_RING)) (h18 : W (.fld H.PMC_TRACE_POS)) (h19 : W (.fld H.PWR_LOW)) (h20 : W (.fld H.PWR_TARGET)) (h21 : W (.fld H.PWR_VMIN_ASKED)) (a0 : Nat) (a1 : Nat) (h : Moves W s₀ s) :
    Moves W s₀ (Sys2Proof.Machine.Pwr.slackLow a0 a1 s) := by
  unfold Sys2Proof.Machine.Pwr.slackLow
  repeat' (first
    | with_reducible assumption
    | with_reducible apply Moves.setBit
    | with_reducible apply Pwr_increase_moves
    | with_reducible apply Pwr_event_moves
    | with_reducible apply Pmc_system_moves
    | with_reducible apply Pwr_observe_moves
    | intro _
    | split)

theorem Pwr_writeSlackCfg_moves {W : Part → Prop} {s₀ s : State} (h0 : W (.fld F.PWR_INT_CAUSE_SLACK)) (h1 : W (.fld F.PWR_SAFE_STAT_CFG_ERR)) (h2 : W (.fld F.PWR_SLACK_CFG_HARD)) (h3 : W (.fld F.PWR_SLACK_CFG_SOFT)) (h4 : W (.fld H.PWR_LOW)) (a0 : Nat) (a1 : Nat) (h : Moves W s₀ s) :
    Moves W s₀ (Sys2Proof.Machine.Pwr.writeSlackCfg a0 a1 s) := by
  unfold Sys2Proof.Machine.Pwr.writeSlackCfg
  repeat' (first
    | with_reducible assumption
    | with_reducible apply Moves.put
    | with_reducible apply Moves.set
    | with_reducible apply Pwr_recovered_moves
    | with_reducible apply Pwr_event_moves
    | intro _
    | split
    | (extract_lets +onlyGivenNames x; first
      | (refine Moves.keep (W := W) (s₀ := s₀) x ?_ ?_; rotate_left; intro hx; clear_value x; rotate_right)
      | (refine Moves.keep (W := W) (s₀ := s₀) x.2 ?_ ?_; rotate_left; intro hx; clear_value x; rotate_right)
      | (refine Moves.keep (W := W) (s₀ := s₀) x.1 ?_ ?_; rotate_left; intro hx; clear_value x; rotate_right)
      | skip))

theorem Pwr_writeSlackCtrl_moves {W : Part → Prop} {s₀ s : State} (h0 : W (.fld F.PWR_INT_CAUSE_SLACK)) (h1 : W (.fld F.PWR_SAFE_STAT_RELEASE_REFUSED)) (h2 : W (.fld F.PWR_SLACK_CTRL_AUTO_RELEASE)) (h3 : W (.fld F.PWR_SLACK_CTRL_AVS_AUTO)) (h4 : W (.fld F.PWR_SLACK_CTRL_AVS_STEP)) (h5 : W (.fld F.PWR_SLACK_CTRL_HYST)) (h6 : W (.fld F.PWR_SLACK_CTRL_LOWER_DWELL)) (h7 : W (.fld F.PWR_SLACK_CTRL_SOFT_DWELL)) (h8 : W (.fld H.PWR_RELEASING)) (a0 : Nat) (h : Moves W s₀ s) :
    Moves W s₀ (Sys2Proof.Machine.Pwr.writeSlackCtrl a0 s) := by
  unfold Sys2Proof.Machine.Pwr.writeSlackCtrl
  repeat' (first
    | with_reducible assumption
    | with_reducible apply Moves.put
    | with_reducible apply Pwr_release_moves
    | intro _
    | split
    | (extract_lets +onlyGivenNames x; first
      | (refine Moves.keep (W := W) (s₀ := s₀) x ?_ ?_; rotate_left; intro hx; clear_value x; rotate_right)
      | (refine Moves.keep (W := W) (s₀ := s₀) x.2 ?_ ?_; rotate_left; intro hx; clear_value x; rotate_right)
      | (refine Moves.keep (W := W) (s₀ := s₀) x.1 ?_ ?_; rotate_left; intro hx; clear_value x; rotate_right)
      | skip))

theorem Pwr_resume_moves {W : Part → Prop} {s₀ s : State} (h0 : W .qdr) (h1 : W (.fld F.PMC_INT_CAUSE_OVF)) (h2 : W (.fld F.PMC_INT_CAUSE_SMP_AVAIL)) (h3 : W (.fld F.PMC_INT_CAUSE_SMP_DROP)) (h4 : W (.fld F.PMC_OVF_STAT_OVF)) (h5 : W (.fld F.PMC_SMP_DROP_RING)) (h6 : W (.fld F.PMC_SMP_STAT_COUNT)) (h7 : W (.fld F.PWR_AVS_READ_BUSY)) (h8 : W (.fld F.PWR_INT_CAUSE_SLACK)) (h9 : W (.fld F.PWR_SAFE_STAT_AVS_CEILING)) (h10 : W (.fld F.PWR_VMIN_VREQ_MV)) (h11 : W (.fld H.PMC_CNT)) (h12 : W (.fld H.PMC_OVF_DUE)) (h13 : W (.fld H.PMC_OVF_T)) (h14 : W (.fld H.PMC_RING)) (h15 : W (.fld H.PMC_TRACE_POS)) (h16 : W (.fld H.PWR_TARGET)) (h17 : W (.fld H.PWR_VMIN_ASKED)) (h18 : W (.fld H.PWR_VMIN_FAILED)) (h19 : W (.fld H.PWR_VMIN_WAITS)) (h : Moves W s₀ s) :
    Moves W s₀ (Sys2Proof.Machine.Pwr.resume s) := by
  unfold Sys2Proof.Machine.Pwr.resume
  repeat' (first
    | with_reducible assumption
    | with_reducible apply Moves.clr
    | with_reducible apply Moves.set
    | with_reducible apply Pwr_askVmin_moves
    | with_reducible apply Pwr_increase_moves
    | intro _
    | split
    | (extract_lets +onlyGivenNames x; first
      | (refine Moves.keep (W := W) (s₀ := s₀) x ?_ ?_; rotate_left; intro hx; clear_value x; rotate_right)
      | (refine Moves.keep (W := W) (s₀ := s₀) x.2 ?_ ?_; rotate_left; intro hx; clear_value x; rotate_right)
      | (refine Moves.keep (W := W) (s₀ := s₀) x.1 ?_ ?_; rotate_left; intro hx; clear_value x; rotate_right)
      | skip))

theorem Pwr_writeSafeStat_moves {W : Part → Prop} {s₀ s : State} (h0 : W .qdr) (h1 : W (.fld F.PMC_INT_CAUSE_OVF)) (h2 : W (.fld F.PMC_INT_CAUSE_SMP_AVAIL)) (h3 : W (.fld F.PMC_INT_CAUSE_SMP_DROP)) (h4 : W (.fld F.PMC_OVF_STAT_OVF)) (h5 : W (.fld F.PMC_SMP_DROP_RING)) (h6 : W (.fld F.PMC_SMP_STAT_COUNT)) (h7 : W (.fld F.PWR_AVS_READ_BUSY)) (h8 : W (.fld F.PWR_INT_CAUSE_SLACK)) (h9 : W (.fld F.PWR_SAFE_STAT_AVS_CEILING)) (h10 : W (.fld F.PWR_SAFE_STAT_AVS_FAIL)) (h11 : W (.fld F.PWR_SAFE_STAT_CFG_ERR)) (h12 : W (.fld F.PWR_SAFE_STAT_RELEASE_REFUSED)) (h13 : W (.fld F.PWR_VMIN_VREQ_MV)) (h14 : W (.fld H.PMC_CNT)) (h15 : W (.fld H.PMC_OVF_DUE)) (h16 : W (.fld H.PMC_OVF_T)) (h17 : W (.fld H.PMC_RING)) (h18 : W (.fld H.PMC_TRACE_POS)) (h19 : W (.fld H.PWR_TARGET)) (h20 : W (.fld H.PWR_VMIN_ASKED)) (h21 : W (.fld H.PWR_VMIN_FAILED)) (h22 : W (.fld H.PWR_VMIN_WAITS)) (a0 : Nat) (h : Moves W s₀ s) :
    Moves W s₀ (Sys2Proof.Machine.Pwr.writeSafeStat a0 s) := by
  unfold Sys2Proof.Machine.Pwr.writeSafeStat
  repeat' (first
    | with_reducible assumption
    | with_reducible apply Moves.clr
    | with_reducible apply Moves.when
    | with_reducible apply Pwr_resume_moves
    | intro _
    | split
    | (extract_lets +onlyGivenNames x; first
      | (refine Moves.keep (W := W) (s₀ := s₀) x ?_ ?_; rotate_left; intro hx; clear_value x; rotate_right)
      | (refine Moves.keep (W := W) (s₀ := s₀) x.2 ?_ ?_; rotate_left; intro hx; clear_value x; rotate_right)
      | (refine Moves.keep (W := W) (s₀ := s₀) x.1 ?_ ?_; rotate_left; intro hx; clear_value x; rotate_right)
      | skip))

theorem Pwr_writeAvsSet_moves {W : Part → Prop} {s₀ s : State} (h0 : W (.fld F.PWR_AVS_READ_BUSY)) (h1 : W (.fld F.PWR_AVS_SET_MV)) (h2 : W (.fld F.PWR_INT_CAUSE_AVS_REFUSED)) (h3 : W (.fld F.PWR_VMIN_VREQ_MV)) (h4 : W (.fld H.PWR_TARGET)) (h5 : W (.fld H.PWR_VMIN_ASKED)) (a0 : Nat) (h : Moves W s₀ s) :
    Moves W s₀ (Sys2Proof.Machine.Pwr.writeAvsSet a0 s) := by
  unfold Sys2Proof.Machine.Pwr.writeAvsSet
  repeat' (first
    | with_reducible assumption
    | with_reducible apply Moves.put
    | with_reducible apply Moves.set
    | with_reducible apply Pwr_request_moves
    | intro _
    | split
    | (extract_lets +onlyGivenNames x; first
      | (refine Moves.keep (W := W) (s₀ := s₀) x ?_ ?_; rotate_left; intro hx; clear_value x; rotate_right)
      | (refine Moves.keep (W := W) (s₀ := s₀) x.2 ?_ ?_; rotate_left; intro hx; clear_value x; rotate_right)
      | (refine Moves.keep (W := W) (s₀ := s₀) x.1 ?_ ?_; rotate_left; intro hx; clear_value x; rotate_right)
      | skip))

theorem Pwr_writePmbCmd_moves {W : Part → Prop} {s₀ s : State} (h0 : W (.fld F.PWR_PMB_CMD_ADDR)) (h1 : W (.fld F.PWR_PMB_CMD_CODE)) (h2 : W (.fld F.PWR_PMB_CMD_GO)) (h3 : W (.fld F.PWR_PMB_CMD_READ)) (a0 : Nat) (h : Moves W s₀ s) :
    Moves W s₀ (Sys2Proof.Machine.Pwr.writePmbCmd a0 s) := by
  unfold Sys2Proof.Machine.Pwr.writePmbCmd
  repeat' (first
    | with_reducible assumption
    | with_reducible apply Moves.emit
    | with_reducible apply Moves.put
    | with_reducible apply Moves.set
    | intro _
    | split
    | (extract_lets +onlyGivenNames x; first
      | (refine Moves.keep (W := W) (s₀ := s₀) x ?_ ?_; rotate_left; intro hx; clear_value x; rotate_right)
      | (refine Moves.keep (W := W) (s₀ := s₀) x.2 ?_ ?_; rotate_left; intro hx; clear_value x; rotate_right)
      | (refine Moves.keep (W := W) (s₀ := s₀) x.1 ?_ ?_; rotate_left; intro hx; clear_value x; rotate_right)
      | skip))

theorem Pwr_pmbDone_moves {W : Part → Prop} {s₀ s : State} (h0 : W (.fld F.PWR_PMB_CMD_GO)) (h1 : W (.fld F.PWR_PMB_DATA_DATA)) (h2 : W (.fld F.PWR_PMB_DATA_NACK)) (a0 : Nat) (a1 : Nat) (h : Moves W s₀ s) :
    Moves W s₀ (Sys2Proof.Machine.Pwr.pmbDone a0 a1 s) := by
  unfold Sys2Proof.Machine.Pwr.pmbDone
  repeat' (first
    | with_reducible assumption
    | with_reducible apply Moves.clr
    | with_reducible apply Moves.put
    | intro _
    | split
    | (extract_lets +onlyGivenNames x; first
      | (refine Moves.keep (W := W) (s₀ := s₀) x ?_ ?_; rotate_left; intro hx; clear_value x; rotate_right)
      | (refine Moves.keep (W := W) (s₀ := s₀) x.2 ?_ ?_; rotate_left; intro hx; clear_value x; rotate_right)
      | (refine Moves.keep (W := W) (s₀ := s₀) x.1 ?_ ?_; rotate_left; intro hx; clear_value x; rotate_right)
      | skip))

end Sys2Proof.Laws
end

