-- ==== Sys2Proof/Laws/MovesLrx.lean ====
section
/-! SUPPORT. Sys2Proof/Laws/MovesLrx.lean: what each operation of Machine/Lrx.lean may write (Laws/Moves.lean). -/
namespace Sys2Proof.Laws
open Sys2Proof Sys2Proof.Machine

theorem Lrx_validate_moves {W : Part → Prop} {s₀ s : State} (h0 : W (.fld F.LRX_INT_CAUSE_TABLE_ERR)) (h1 : W (.fld F.LRX_STAT_ERR_SC)) (h2 : W (.fld F.LRX_STAT_SHADOW_READY)) (h : Moves W s₀ s) :
    Moves W s₀ (Sys2Proof.Machine.Lrx.validate s) := by
  unfold Sys2Proof.Machine.Lrx.validate
  repeat' (first
    | with_reducible assumption
    | with_reducible apply Moves.clr
    | with_reducible apply Moves.put
    | with_reducible apply Moves.set
    | intro _
    | split)

theorem Lrx_writeShadow_moves {W : Part → Prop} {s₀ s : State} (h0 : W (.fld F.LRX_INT_CAUSE_SHADOW_LOCKED)) (h1 : W (.fld F.LRX_INT_CAUSE_TABLE_ERR)) (h2 : W (.fld F.LRX_STAT_ERR_SC)) (h3 : W (.fld F.LRX_STAT_SHADOW_READY)) (h4 : W (.fld H.LRX_SHADOW)) (h5 : W (.fld H.LRX_SHADOW_VER)) (a0 : Nat) (a1 : List (Nat × Nat)) (h : Moves W s₀ s) :
    Moves W s₀ (Sys2Proof.Machine.Lrx.writeShadow a0 a1 s) := by
  unfold Sys2Proof.Machine.Lrx.writeShadow
  repeat' (first
    | with_reducible assumption
    | with_reducible apply Moves.eachOf
    | with_reducible apply Moves.put
    | with_reducible apply Moves.set
    | with_reducible apply Lrx_validate_moves
    | intro _
    | split)

theorem Lrx_announce_moves {W : Part → Prop} {s₀ s : State} (h0 : W (.fld F.LRX_STAT_ANNOUNCED)) (h1 : W (.fld H.LRX_SWAP_DUE)) (h2 : W (.fld H.LRX_SWAP_MF)) (a0 : Nat) (h : Moves W s₀ s) :
    Moves W s₀ (Sys2Proof.Machine.Lrx.announce a0 s) := by
  unfold Sys2Proof.Machine.Lrx.announce
  repeat' (first
    | with_reducible assumption
    | with_reducible apply Moves.put
    | with_reducible apply Moves.set
    | intro _)

theorem Lrx_adapt_moves {W : Part → Prop} {s₀ s : State} (h0 : W (.fld H.LRX_TAPS)) (a0 : Nat) (h : Moves W s₀ s) :
    Moves W s₀ (Sys2Proof.Machine.Lrx.adapt a0 s) := by
  unfold Sys2Proof.Machine.Lrx.adapt
  repeat' (first
    | with_reducible assumption
    | with_reducible apply Moves.drew
    | with_reducible apply Moves.put
    | intro _
    | split)

theorem Lrx_relock_moves {W : Part → Prop} {s₀ s : State} (h0 : W (.fld F.LRX_SC_STAT_LOCK)) (h1 : W (.fld H.LRX_WIN_LOCK)) (a0 : Bool) (h : Moves W s₀ s) :
    Moves W s₀ (Sys2Proof.Machine.Lrx.relock a0 s) := by
  unfold Sys2Proof.Machine.Lrx.relock
  repeat' (first
    | with_reducible assumption
    | with_reducible apply Moves.clr
    | with_reducible apply Moves.each
    | with_reducible apply Moves.put
    | intro _)

theorem Lrx_enter_moves {W : Part → Prop} {s₀ s : State} (h0 : W (.fld F.LRX_INT_CAUSE_TRACK)) (h1 : W (.fld F.LRX_INT_CAUSE_TRACK_LOST)) (h2 : W (.fld F.LRX_STAT_STATE)) (a0 : Nat) (h : Moves W s₀ s) :
    Moves W s₀ (Sys2Proof.Machine.Lrx.enter a0 s) := by
  unfold Sys2Proof.Machine.Lrx.enter
  repeat' (first
    | with_reducible assumption
    | with_reducible apply Moves.put
    | with_reducible apply Moves.set
    | intro _
    | split
    | (extract_lets +onlyGivenNames x; first
      | (refine Moves.keep (W := W) (s₀ := s₀) x ?_ ?_; rotate_left; intro hx; clear_value x; rotate_right)
      | (refine Moves.keep (W := W) (s₀ := s₀) x.2 ?_ ?_; rotate_left; intro hx; clear_value x; rotate_right)
      | (refine Moves.keep (W := W) (s₀ := s₀) x.1 ?_ ?_; rotate_left; intro hx; clear_value x; rotate_right)
      | skip))

theorem Lrx_enterCd_moves {W : Part → Prop} {s₀ s : State} (h0 : W (.fld F.LRX_INT_CAUSE_TRACK)) (h1 : W (.fld F.LRX_INT_CAUSE_TRACK_LOST)) (h2 : W (.fld F.LRX_SC_STAT_LOCK)) (h3 : W (.fld F.LRX_STAT_STATE)) (h4 : W (.fld H.LRX_LLR_HOLD)) (h5 : W (.fld H.LRX_QUAD)) (h6 : W (.fld H.LRX_TAPS)) (h7 : W (.fld H.LRX_WIN_LOCK)) (h : Moves W s₀ s) :
    Moves W s₀ (Sys2Proof.Machine.Lrx.enterCd s) := by
  unfold Sys2Proof.Machine.Lrx.enterCd
  repeat' (first
    | with_reducible assumption
    | with_reducible apply Moves.clr
    | with_reducible apply Moves.each
    | with_reducible apply Lrx_relock_moves
    | with_reducible apply Lrx_enter_moves
    | intro _
    | (extract_lets +onlyGivenNames x; first
      | (refine Moves.keep (W := W) (s₀ := s₀) x ?_ ?_; rotate_left; intro hx; clear_value x; rotate_right)
      | (refine Moves.keep (W := W) (s₀ := s₀) x.2 ?_ ?_; rotate_left; intro hx; clear_value x; rotate_right)
      | (refine Moves.keep (W := W) (s₀ := s₀) x.1 ?_ ?_; rotate_left; intro hx; clear_value x; rotate_right)
      | skip))

theorem Lrx_leavePrefill_moves {W : Part → Prop} {s₀ s : State} (h0 : W (.fld F.LRX_INT_CAUSE_TRACK)) (h1 : W (.fld F.LRX_INT_CAUSE_TRACK_LOST)) (h2 : W (.fld F.LRX_SC_STAT_LOCK)) (h3 : W (.fld F.LRX_STAT_STATE)) (h4 : W (.fld H.LRX_LLR_HOLD)) (h5 : W (.fld H.LRX_QUAD)) (h6 : W (.fld H.LRX_TAPS)) (h7 : W (.fld H.LRX_WIN_LOCK)) (h : Moves W s₀ s) :
    Moves W s₀ (Sys2Proof.Machine.Lrx.leavePrefill s) := by
  unfold Sys2Proof.Machine.Lrx.leavePrefill
  repeat' (first
    | with_reducible assumption
    | with_reducible apply Lrx_enterCd_moves
    | intro _
    | split)

theorem Lrx_enable_moves {W : Part → Prop} {s₀ s : State} (h0 : W (.arr H.FEC_RX_ON)) (h1 : W (.arr H.FEC_RX_POS)) (h2 : W (.arr H.FEC_RX_WAIT)) (h3 : W (.arr H.FEC_SL_ON)) (h4 : W (.arr H.FEC_SL_POS)) (h5 : W (.arr H.FEC_SL_WAIT)) (h6 : W (.fld F.CVT_ADC_STAT_MAP_ERR)) (h7 : W (.fld F.LRX_CTRL_EN)) (h8 : W (.fld F.LRX_INT_CAUSE_CFG_ERR)) (h9 : W (.fld F.LRX_INT_CAUSE_TRACK)) (h10 : W (.fld F.LRX_INT_CAUSE_TRACK_LOST)) (h11 : W (.fld F.LRX_SC_STAT_LOCK)) (h12 : W (.fld F.LRX_STAT_CFG_STEP)) (h13 : W (.fld F.LRX_STAT_STATE)) (h14 : W (.fld F.LSR_STAT_SER_BUSY)) (h15 : W (.fld F.PWR_AVS_READ_BUSY)) (h16 : W (.fld F.PWR_VMIN_VMIN_MV)) (h17 : W (.fld F.PWR_VMIN_VREQ_MV)) (h18 : W (.fld H.LRX_D_NOW)) (h19 : W (.fld H.LRX_LLR_HOLD)) (h20 : W (.fld H.LRX_QUAD)) (h21 : W (.fld H.LRX_TAPS)) (h22 : W (.fld H.LRX_WIN_LOCK)) (h23 : W (.fld H.LSR_HOST_PEND)) (h24 : W (.fld H.LSR_HOST_RUN)) (h25 : W (.fld H.LSR_OWN_CMD)) (h26 : W (.fld H.LSR_OWN_PEND)) (h27 : W (.fld H.LSR_OWN_RUN)) (h28 : W (.fld H.LSR_SET)) (h29 : W (.fld H.LSR_TUNE_CMD)) (h30 : W (.fld H.LSR_TUNE_PEND)) (h31 : W (.fld H.PWR_HOLD_RX)) (h32 : W (.fld H.PWR_TARGET)) (h33 : W (.fld H.PWR_VMIN_ASKED)) (h34 : W (.fld H.PWR_VMIN_FAILED)) (h35 : W (.fld H.PWR_VMIN_WAITS)) (h : Moves W s₀ s) :
    Moves W s₀ (Sys2Proof.Machine.Lrx.enable s) := by
  unfold Sys2Proof.Machine.Lrx.enable
  repeat' (first
    | with_reducible assumption
    | with_reducible apply Moves.clr
    | with_reducible apply Moves.put
    | with_reducible apply Moves.set
    | with_reducible apply Lrx_enter_moves
    | with_reducible apply Lsr_tune_moves
    | with_reducible apply Pwr_vminRecompute_moves
    | with_reducible apply Fec_startRxAll_moves
    | with_reducible apply Lrx_leavePrefill_moves
    | intro _
    | split
    | (extract_lets +onlyGivenNames x; first
      | (refine Moves.keep (W := W) (s₀ := s₀) x ?_ ?_; rotate_left; intro hx; clear_value x; rotate_right)
      | (refine Moves.keep (W := W) (s₀ := s₀) x.2 ?_ ?_; rotate_left; intro hx; clear_value x; rotate_right)
      | (refine Moves.keep (W := W) (s₀ := s₀) x.1 ?_ ?_; rotate_left; intro hx; clear_value x; rotate_right)
      | skip))

theorem Lrx_cancel_moves {W : Part → Prop} {s₀ s : State} (h0 : W (.fld F.LRX_INT_CAUSE_LOAD_CANCELLED)) (h1 : W (.fld F.LRX_STAT_ANNOUNCED)) (h2 : W (.fld F.LRX_STAT_SHADOW_READY)) (h3 : W (.fld F.SCM_CHG_STAT_US_STATE)) (h4 : W (.fld H.LRX_SWAP_DUE)) (h : Moves W s₀ s) :
    Moves W s₀ (Sys2Proof.Machine.Lrx.cancel s) := by
  unfold Sys2Proof.Machine.Lrx.cancel
  repeat' (first
    | with_reducible assumption
    | with_reducible apply Moves.clr
    | with_reducible apply Moves.set
    | intro _
    | split
    | (extract_lets +onlyGivenNames x; first
      | (refine Moves.keep (W := W) (s₀ := s₀) x ?_ ?_; rotate_left; intro hx; clear_value x; rotate_right)
      | (refine Moves.keep (W := W) (s₀ := s₀) x.2 ?_ ?_; rotate_left; intro hx; clear_value x; rotate_right)
      | (refine Moves.keep (W := W) (s₀ := s₀) x.1 ?_ ?_; rotate_left; intro hx; clear_value x; rotate_right)
      | skip))

theorem Lrx_dropFades_moves {W : Part → Prop} {s₀ s : State} (h0 : W (.fld F.LRX_STAT_CD_ARMED)) (h1 : W (.fld F.LRX_STAT_CD_FADING)) (h2 : W (.fld F.LRX_STAT_CD_HELD)) (h : Moves W s₀ s) :
    Moves W s₀ (Sys2Proof.Machine.Lrx.dropFades s) := by
  unfold Sys2Proof.Machine.Lrx.dropFades
  repeat' (first
    | with_reducible assumption
    | with_reducible apply Moves.clr
    | intro _)

theorem Lrx_disable_moves {W : Part → Prop} {s₀ s : State} (h0 : W (.fld F.LRX_CTRL_EN)) (h1 : W (.fld F.LRX_INT_CAUSE_LOAD_CANCELLED)) (h2 : W (.fld F.LRX_INT_CAUSE_LOS_CHG)) (h3 : W (.fld F.LRX_INT_CAUSE_TRACK)) (h4 : W (.fld F.LRX_INT_CAUSE_TRACK_LOST)) (h5 : W (.fld F.LRX_SC_STAT_LOCK)) (h6 : W (.fld F.LRX_STAT_ACQ_RETRY)) (h7 : W (.fld F.LRX_STAT_ANNOUNCED)) (h8 : W (.fld F.LRX_STAT_CD_ARMED)) (h9 : W (.fld F.LRX_STAT_CD_FADING)) (h10 : W (.fld F.LRX_STAT_CD_HELD)) (h11 : W (.fld F.LRX_STAT_LOS)) (h12 : W (.fld F.LRX_STAT_SHADOW_READY)) (h13 : W (.fld F.LRX_STAT_STATE)) (h14 : W (.fld F.PWR_AVS_READ_BUSY)) (h15 : W (.fld F.PWR_VMIN_VMIN_MV)) (h16 : W (.fld F.PWR_VMIN_VREQ_MV)) (h17 : W (.fld F.SCM_CHG_STAT_US_STATE)) (h18 : W (.fld H.LRX_LLR_HOLD)) (h19 : W (.fld H.LRX_SWAP_DUE)) (h20 : W (.fld H.LRX_WIN_LOCK)) (h21 : W (.fld H.PWR_HOLD_RX)) (h22 : W (.fld H.PWR_TARGET)) (h23 : W (.fld H.PWR_VMIN_ASKED)) (h24 : W (.fld H.PWR_VMIN_FAILED)) (h25 : W (.fld H.PWR_VMIN_WAITS)) (h : Moves W s₀ s) :
    Moves W s₀ (Sys2Proof.Machine.Lrx.disable s) := by
  unfold Sys2Proof.Machine.Lrx.disable
  repeat' (first
    | with_reducible assumption
    | with_reducible apply Moves.clr
    | with_reducible apply Moves.set
    | with_reducible apply Lrx_relock_moves
    | with_reducible apply Lrx_enter_moves
    | with_reducible apply Lrx_dropFades_moves
    | with_reducible apply Pwr_vminRecompute_moves
    | with_reducible apply Lrx_cancel_moves
    | intro _
    | split
    | (extract_lets +onlyGivenNames x; first
      | (refine Moves.keep (W := W) (s₀ := s₀) x ?_ ?_; rotate_left; intro hx; clear_value x; rotate_right)
      | (refine Moves.keep (W := W) (s₀ := s₀) x.2 ?_ ?_; rotate_left; intro hx; clear_value x; rotate_right)
      | (refine Moves.keep (W := W) (s₀ := s₀) x.1 ?_ ?_; rotate_left; intro hx; clear_value x; rotate_right)
      | skip))

theorem Lrx_restart_moves {W : Part → Prop} {s₀ s : State} (h0 : W (.fld F.LRX_INT_CAUSE_TRACK)) (h1 : W (.fld F.LRX_INT_CAUSE_TRACK_LOST)) (h2 : W (.fld F.LRX_SC_STAT_LOCK)) (h3 : W (.fld F.LRX_STAT_STATE)) (h4 : W (.fld H.LRX_LLR_HOLD)) (h5 : W (.fld H.LRX_QUAD)) (h6 : W (.fld H.LRX_TAPS)) (h7 : W (.fld H.LRX_WIN_LOCK)) (h : Moves W s₀ s) :
    Moves W s₀ (Sys2Proof.Machine.Lrx.restart s) := by
  unfold Sys2Proof.Machine.Lrx.restart
  repeat' (first
    | with_reducible assumption
    | with_reducible apply Lrx_enterCd_moves
    | intro _
    | split)

theorem Lrx_losSet_moves {W : Part → Prop} {s₀ s : State} (h0 : W (.fld F.LRX_INT_CAUSE_LOS_CHG)) (h1 : W (.fld F.LRX_INT_CAUSE_TRACK)) (h2 : W (.fld F.LRX_INT_CAUSE_TRACK_LOST)) (h3 : W (.fld F.LRX_SC_STAT_LOCK)) (h4 : W (.fld F.LRX_STAT_LOS)) (h5 : W (.fld F.LRX_STAT_STATE)) (h6 : W (.fld H.LRX_LLR_HOLD)) (h7 : W (.fld H.LRX_QUAD)) (h8 : W (.fld H.LRX_TAPS)) (h9 : W (.fld H.LRX_WIN_LOCK)) (a0 : Nat) (h : Moves W s₀ s) :
    Moves W s₀ (Sys2Proof.Machine.Lrx.losSet a0 s) := by
  unfold Sys2Proof.Machine.Lrx.losSet
  repeat' (first
    | with_reducible assumption
    | with_reducible apply Moves.set
    | with_reducible apply Lrx_enterCd_moves
    | intro _
    | split
    | (extract_lets +onlyGivenNames x; first
      | (refine Moves.keep (W := W) (s₀ := s₀) x ?_ ?_; rotate_left; intro hx; clear_value x; rotate_right)
      | (refine Moves.keep (W := W) (s₀ := s₀) x.2 ?_ ?_; rotate_left; intro hx; clear_value x; rotate_right)
      | (refine Moves.keep (W := W) (s₀ := s₀) x.1 ?_ ?_; rotate_left; intro hx; clear_value x; rotate_right)
      | skip))

theorem Lrx_startFade_moves {W : Part → Prop} {s₀ s : State} (h0 : W (.fld F.LRX_STAT_CD_FADING)) (h1 : W (.fld H.LRX_D_FADE)) (h2 : W (.fld H.LRX_FADE_LEN)) (a0 : Nat) (h : Moves W s₀ s) :
    Moves W s₀ (Sys2Proof.Machine.Lrx.startFade a0 s) := by
  unfold Sys2Proof.Machine.Lrx.startFade
  repeat' (first
    | with_reducible assumption
    | with_reducible apply Moves.put
    | with_reducible apply Moves.set
    | intro _)

theorem Lrx_losClear_moves {W : Part → Prop} {s₀ s : State} (h0 : W (.fld F.LRX_INT_CAUSE_LOS_CHG)) (h1 : W (.fld F.LRX_STAT_CD_ARMED)) (h2 : W (.fld F.LRX_STAT_CD_FADING)) (h3 : W (.fld F.LRX_STAT_LOS)) (h4 : W (.fld H.LRX_D_FADE)) (h5 : W (.fld H.LRX_FADE_LEN)) (h6 : W (.fld H.LRX_LLR_HOLD)) (a0 : Nat) (h : Moves W s₀ s) :
    Moves W s₀ (Sys2Proof.Machine.Lrx.losClear a0 s) := by
  unfold Sys2Proof.Machine.Lrx.losClear
  repeat' (first
    | with_reducible assumption
    | with_reducible apply Moves.clr
    | with_reducible apply Moves.set
    | with_reducible apply Lrx_startFade_moves
    | intro _
    | split
    | (extract_lets +onlyGivenNames x; first
      | (refine Moves.keep (W := W) (s₀ := s₀) x ?_ ?_; rotate_left; intro hx; clear_value x; rotate_right)
      | (refine Moves.keep (W := W) (s₀ := s₀) x.2 ?_ ?_; rotate_left; intro hx; clear_value x; rotate_right)
      | (refine Moves.keep (W := W) (s₀ := s₀) x.1 ?_ ?_; rotate_left; intro hx; clear_value x; rotate_right)
      | skip))

theorem Lrx_losExpired_moves {W : Part → Prop} {s₀ s : State} (h0 : W (.fld F.LRX_INT_CAUSE_TRACK)) (h1 : W (.fld F.LRX_INT_CAUSE_TRACK_LOST)) (h2 : W (.fld F.LRX_SC_STAT_LOCK)) (h3 : W (.fld F.LRX_STAT_STATE)) (h4 : W (.fld H.LRX_LLR_HOLD)) (h5 : W (.fld H.LRX_QUAD)) (h6 : W (.fld H.LRX_TAPS)) (h7 : W (.fld H.LRX_WIN_LOCK)) (h : Moves W s₀ s) :
    Moves W s₀ (Sys2Proof.Machine.Lrx.losExpired s) := by
  unfold Sys2Proof.Machine.Lrx.losExpired
  repeat' (first
    | with_reducible assumption
    | with_reducible apply Lrx_enterCd_moves
    | intro _
    | split)

theorem Lrx_cdGo_moves {W : Part → Prop} {s₀ s : State} (h0 : W (.fld F.LRX_INT_CAUSE_CD_RANGE)) (h1 : W (.fld F.LRX_STAT_CD_ARMED)) (h2 : W (.fld F.LRX_STAT_CD_FADING)) (h3 : W (.fld F.LRX_STAT_CD_HELD)) (h4 : W (.fld H.LRX_D_FADE)) (h5 : W (.fld H.LRX_D_HELD)) (h6 : W (.fld H.LRX_FADE_LEN)) (h : Moves W s₀ s) :
    Moves W s₀ (Sys2Proof.Machine.Lrx.cdGo s) := by
  unfold Sys2Proof.Machine.Lrx.cdGo
  repeat' (first
    | with_reducible assumption
    | with_reducible apply Moves.clr
    | with_reducible apply Moves.put
    | with_reducible apply Moves.set
    | with_reducible apply Lrx_startFade_moves
    | intro _
    | split
    | (extract_lets +onlyGivenNames x; first
      | (refine Moves.keep (W := W) (s₀ := s₀) x ?_ ?_; rotate_left; intro hx; clear_value x; rotate_right)
      | (refine Moves.keep (W := W) (s₀ := s₀) x.2 ?_ ?_; rotate_left; intro hx; clear_value x; rotate_right)
      | (refine Moves.keep (W := W) (s₀ := s₀) x.1 ?_ ?_; rotate_left; intro hx; clear_value x; rotate_right)
      | skip))

theorem Lrx_cdArm_moves {W : Part → Prop} {s₀ s : State} (h0 : W (.fld F.LRX_INT_CAUSE_CD_RANGE)) (h1 : W (.fld F.LRX_INT_CAUSE_CFG_ERR)) (h2 : W (.fld F.LRX_STAT_CD_ARMED)) (h3 : W (.fld H.LRX_D_ARMED)) (h : Moves W s₀ s) :
    Moves W s₀ (Sys2Proof.Machine.Lrx.cdArm s) := by
  unfold Sys2Proof.Machine.Lrx.cdArm
  repeat' (first
    | with_reducible assumption
    | with_reducible apply Moves.put
    | with_reducible apply Moves.set
    | intro _
    | split)

theorem Lrx_cdDisarm_moves {W : Part → Prop} {s₀ s : State} (h0 : W (.fld F.LRX_STAT_CD_ARMED)) (h : Moves W s₀ s) :
    Moves W s₀ (Sys2Proof.Machine.Lrx.cdDisarm s) := by
  unfold Sys2Proof.Machine.Lrx.cdDisarm
  repeat' (first
    | with_reducible assumption
    | with_reducible apply Moves.clr
    | intro _)

theorem Lrx_cdFadeDone_moves {W : Part → Prop} {s₀ s : State} (h0 : W (.fld F.LRX_INT_CAUSE_CD_DONE)) (h1 : W (.fld F.LRX_STAT_CD_FADING)) (h2 : W (.fld F.LRX_STAT_CD_HELD)) (h3 : W (.fld H.LRX_D_FADE)) (h4 : W (.fld H.LRX_D_NOW)) (h5 : W (.fld H.LRX_FADE_LEN)) (a0 : Nat) (h : Moves W s₀ s) :
    Moves W s₀ (Sys2Proof.Machine.Lrx.cdFadeDone a0 s) := by
  unfold Sys2Proof.Machine.Lrx.cdFadeDone
  repeat' (first
    | with_reducible assumption
    | with_reducible apply Moves.clr
    | with_reducible apply Moves.put
    | with_reducible apply Moves.set
    | with_reducible apply Lrx_startFade_moves
    | intro _
    | split
    | (extract_lets +onlyGivenNames x; first
      | (refine Moves.keep (W := W) (s₀ := s₀) x ?_ ?_; rotate_left; intro hx; clear_value x; rotate_right)
      | (refine Moves.keep (W := W) (s₀ := s₀) x.2 ?_ ?_; rotate_left; intro hx; clear_value x; rotate_right)
      | (refine Moves.keep (W := W) (s₀ := s₀) x.1 ?_ ?_; rotate_left; intro hx; clear_value x; rotate_right)
      | skip))

theorem Lrx_cdEstimate_moves {W : Part → Prop} {s₀ s : State} (h0 : W (.fld F.LRX_CD_D)) (h1 : W (.fld F.LRX_CD_EST_EST)) (h2 : W (.fld F.LRX_CD_EST_VALID)) (h3 : W (.fld F.LRX_INT_CAUSE_TRACK)) (h4 : W (.fld F.LRX_INT_CAUSE_TRACK_LOST)) (h5 : W (.fld F.LRX_STAT_STATE)) (h6 : W (.fld H.LRX_D_NOW)) (a0 : Int) (h : Moves W s₀ s) :
    Moves W s₀ (Sys2Proof.Machine.Lrx.cdEstimate a0 s) := by
  unfold Sys2Proof.Machine.Lrx.cdEstimate
  repeat' (first
    | with_reducible assumption
    | with_reducible apply Moves.put
    | with_reducible apply Moves.set
    | with_reducible apply Moves.sput
    | with_reducible apply Lrx_enter_moves
    | intro _
    | split
    | (extract_lets +onlyGivenNames x; first
      | (refine Moves.keep (W := W) (s₀ := s₀) x ?_ ?_; rotate_left; intro hx; clear_value x; rotate_right)
      | (refine Moves.keep (W := W) (s₀ := s₀) x.2 ?_ ?_; rotate_left; intro hx; clear_value x; rotate_right)
      | (refine Moves.keep (W := W) (s₀ := s₀) x.1 ?_ ?_; rotate_left; intro hx; clear_value x; rotate_right)
      | skip))

theorem Lrx_coarseLock_moves {W : Part → Prop} {s₀ s : State} (h0 : W (.fld F.LRX_INT_CAUSE_TRACK)) (h1 : W (.fld F.LRX_INT_CAUSE_TRACK_LOST)) (h2 : W (.fld F.LRX_SC_STAT_LOCK)) (h3 : W (.fld F.LRX_STAT_STATE)) (h4 : W (.fld H.LRX_ROT)) (h5 : W (.fld H.LRX_WIN_LOCK)) (a0 : Int) (a1 : Nat) (h : Moves W s₀ s) :
    Moves W s₀ (Sys2Proof.Machine.Lrx.coarseLock a0 a1 s) := by
  unfold Sys2Proof.Machine.Lrx.coarseLock
  repeat' (first
    | with_reducible assumption
    | with_reducible apply Moves.sput
    | with_reducible apply Lrx_relock_moves
    | with_reducible apply Lrx_enter_moves
    | intro _
    | split)

theorem Lrx_acqTimeout_moves {W : Part → Prop} {s₀ s : State} (h0 : W (.fld F.LRX_INT_CAUSE_ACQ_TMO)) (h1 : W (.fld F.LRX_INT_CAUSE_TRACK)) (h2 : W (.fld F.LRX_INT_CAUSE_TRACK_LOST)) (h3 : W (.fld F.LRX_SC_STAT_LOCK)) (h4 : W (.fld F.LRX_STAT_ACQ_RETRY)) (h5 : W (.fld F.LRX_STAT_STATE)) (h6 : W (.fld H.LRX_LLR_HOLD)) (h7 : W (.fld H.LRX_QUAD)) (h8 : W (.fld H.LRX_TAPS)) (h9 : W (.fld H.LRX_WIN_LOCK)) (h : Moves W s₀ s) :
    Moves W s₀ (Sys2Proof.Machine.Lrx.acqTimeout s) := by
  unfold Sys2Proof.Machine.Lrx.acqTimeout
  repeat' (first
    | with_reducible assumption
    | with_reducible apply Moves.count
    | with_reducible apply Moves.set
    | with_reducible apply Lrx_enterCd_moves
    | intro _
    | split)

theorem Lrx_scLock_moves {W : Part → Prop} {s₀ s : State} (h0 : W (.fld F.LRX_INT_CAUSE_TRACK)) (h1 : W (.fld F.LRX_INT_CAUSE_TRACK_LOST)) (h2 : W (.fld F.LRX_SC_STAT_LOCK)) (h3 : W (.fld F.LRX_STAT_STATE)) (h4 : W (.fld H.FEC_PART)) (h5 : W (.fld H.LRX_TAPS)) (a0 : Nat) (a1 : Nat) (h : Moves W s₀ s) :
    Moves W s₀ (Sys2Proof.Machine.Lrx.scLock a0 a1 s) := by
  unfold Sys2Proof.Machine.Lrx.scLock
  repeat' (first
    | with_reducible assumption
    | with_reducible apply Moves.put
    | with_reducible apply Fec_validFrom_moves
    | with_reducible apply Lrx_adapt_moves
    | with_reducible apply Lrx_enter_moves
    | intro _
    | split
    | (extract_lets +onlyGivenNames x; first
      | (refine Moves.keep (W := W) (s₀ := s₀) x ?_ ?_; rotate_left; intro hx; clear_value x; rotate_right)
      | (refine Moves.keep (W := W) (s₀ := s₀) x.2 ?_ ?_; rotate_left; intro hx; clear_value x; rotate_right)
      | (refine Moves.keep (W := W) (s₀ := s₀) x.1 ?_ ?_; rotate_left; intro hx; clear_value x; rotate_right)
      | skip))

theorem Lrx_scUnlock_moves {W : Part → Prop} {s₀ s : State} (h0 : W (.fld F.LRX_SC_STAT_LOCK)) (h1 : W (.fld H.LRX_WIN_LOCK)) (a0 : Nat) (a1 : Nat) (h : Moves W s₀ s) :
    Moves W s₀ (Sys2Proof.Machine.Lrx.scUnlock a0 a1 s) := by
  unfold Sys2Proof.Machine.Lrx.scUnlock
  repeat' (first
    | with_reducible assumption
    | with_reducible apply Moves.clr
    | with_reducible apply Moves.put
    | intro _
    | split)

theorem Lrx_trackLost_moves {W : Part → Prop} {s₀ s : State} (h0 : W (.fld F.LRX_INT_CAUSE_TRACK)) (h1 : W (.fld F.LRX_INT_CAUSE_TRACK_LOST)) (h2 : W (.fld F.LRX_SC_STAT_LOCK)) (h3 : W (.fld F.LRX_STAT_STATE)) (h4 : W (.fld H.LRX_WIN_LOCK)) (h : Moves W s₀ s) :
    Moves W s₀ (Sys2Proof.Machine.Lrx.trackLost s) := by
  unfold Sys2Proof.Machine.Lrx.trackLost
  repeat' (first
    | with_reducible assumption
    | with_reducible apply Lrx_relock_moves
    | with_reducible apply Lrx_enter_moves
    | intro _
    | split)

theorem Lrx_singular_moves {W : Part → Prop} {s₀ s : State} (h0 : W (.fld F.LRX_INT_CAUSE_SINGULAR)) (h1 : W (.fld F.LRX_SC_STAT_LOCK)) (h2 : W (.fld F.LRX_SING_CNT_COUNT)) (h3 : W (.fld H.LRX_TAPS)) (h4 : W (.fld H.LRX_WIN_LOCK)) (a0 : Nat) (a1 : Nat) (a2 : Nat) (h : Moves W s₀ s) :
    Moves W s₀ (Sys2Proof.Machine.Lrx.singular a0 a1 a2 s) := by
  unfold Sys2Proof.Machine.Lrx.singular
  repeat' (first
    | with_reducible assumption
    | with_reducible apply Moves.clr
    | with_reducible apply Moves.count
    | with_reducible apply Moves.put
    | with_reducible apply Moves.set
    | intro _
    | split)

theorem Lrx_cycleSlip_moves {W : Part → Prop} {s₀ s : State} (h0 : W (.fld F.LRX_CSLIP_CNT_COUNT)) (h1 : W (.fld F.LRX_INT_CAUSE_CYCLE_SLIP)) (h2 : W (.fld F.LRX_SC_STAT_CSLIP)) (h3 : W (.fld H.LRX_QUAD)) (a0 : Nat) (a1 : Nat) (h : Moves W s₀ s) :
    Moves W s₀ (Sys2Proof.Machine.Lrx.cycleSlip a0 a1 s) := by
  unfold Sys2Proof.Machine.Lrx.cycleSlip
  repeat' (first
    | with_reducible assumption
    | with_reducible apply Moves.count
    | with_reducible apply Moves.countWrap
    | with_reducible apply Moves.set
    | intro _
    | split
    | (extract_lets +onlyGivenNames x; first
      | (refine Moves.keep (W := W) (s₀ := s₀) x ?_ ?_; rotate_left; intro hx; clear_value x; rotate_right)
      | (refine Moves.keep (W := W) (s₀ := s₀) x.2 ?_ ?_; rotate_left; intro hx; clear_value x; rotate_right)
      | (refine Moves.keep (W := W) (s₀ := s₀) x.1 ?_ ?_; rotate_left; intro hx; clear_value x; rotate_right)
      | skip))

theorem Lrx_phaseReacquired_moves {W : Part → Prop} {s₀ s : State} (h0 : W (.fld H.FEC_PART)) (h1 : W (.fld H.LRX_LLR_HOLD)) (h : Moves W s₀ s) :
    Moves W s₀ (Sys2Proof.Machine.Lrx.phaseReacquired s) := by
  unfold Sys2Proof.Machine.Lrx.phaseReacquired
  repeat' (first
    | with_reducible assumption
    | with_reducible apply Moves.clr
    | with_reducible apply Moves.each
    | with_reducible apply Fec_validFrom_moves
    | intro _
    | split)

theorem Lrx_showFine_moves {W : Part → Prop} {s₀ s : State} (h0 : W (.fld F.LRX_INT_CAUSE_LOFB_LIMIT)) (h1 : W (.fld F.LRX_LOFB_STAT_FINE)) (h2 : W (.fld F.LRX_STAT_LOFB_LIMIT)) (h3 : W (.fld F.LSR_FT_OUT_LIMIT)) (h4 : W (.fld F.LSR_FT_OUT_MHZ)) (h5 : W (.fld H.LRX_FINE)) (h6 : W (.fld H.LSR_CODE)) (a0 : Int) (h : Moves W s₀ s) :
    Moves W s₀ (Sys2Proof.Machine.Lrx.showFine a0 s) := by
  unfold Sys2Proof.Machine.Lrx.showFine
  repeat' (first
    | with_reducible assumption
    | with_reducible apply Moves.put
    | with_reducible apply Moves.set
    | with_reducible apply Moves.sput
    | with_reducible apply Lsr_setFine_moves
    | intro _
    | split
    | (extract_lets +onlyGivenNames x; first
      | (refine Moves.keep (W := W) (s₀ := s₀) x ?_ ?_; rotate_left; intro hx; clear_value x; rotate_right)
      | (refine Moves.keep (W := W) (s₀ := s₀) x.2 ?_ ?_; rotate_left; intro hx; clear_value x; rotate_right)
      | (refine Moves.keep (W := W) (s₀ := s₀) x.1 ?_ ?_; rotate_left; intro hx; clear_value x; rotate_right)
      | skip))

theorem Lrx_offload_moves {W : Part → Prop} {s₀ s : State} (h0 : W (.fld F.LRX_STAT_LOFB_PENDING)) (h1 : W (.fld F.LSR_STAT_SER_BUSY)) (h2 : W (.fld H.LRX_LOFB_OFFLOAD)) (h3 : W (.fld H.LSR_HOST_PEND)) (h4 : W (.fld H.LSR_HOST_RUN)) (h5 : W (.fld H.LSR_OWN_CMD)) (h6 : W (.fld H.LSR_OWN_DONE)) (h7 : W (.fld H.LSR_OWN_PEND)) (h8 : W (.fld H.LSR_OWN_RUN)) (h9 : W (.fld H.LSR_TUNE_PEND)) (h : Moves W s₀ s) :
    Moves W s₀ (Sys2Proof.Machine.Lrx.offload s) := by
  unfold Sys2Proof.Machine.Lrx.offload
  repeat' (first
    | with_reducible assumption
    | with_reducible apply Moves.clr
    | with_reducible apply Moves.set
    | with_reducible apply Moves.sput
    | with_reducible apply Lsr_ownCommand_moves
    | intro _
    | split
    | (extract_lets +onlyGivenNames x; first
      | (refine Moves.keep (W := W) (s₀ := s₀) x ?_ ?_; rotate_left; intro hx; clear_value x; rotate_right)
      | (refine Moves.keep (W := W) (s₀ := s₀) x.2 ?_ ?_; rotate_left; intro hx; clear_value x; rotate_right)
      | (refine Moves.keep (W := W) (s₀ := s₀) x.1 ?_ ?_; rotate_left; intro hx; clear_value x; rotate_right)
      | skip))

theorem Lrx_lofbUpdate_moves {W : Part → Prop} {s₀ s : State} (h0 : W (.fld F.LRX_CFO_TOTAL)) (h1 : W (.fld F.LRX_INT_CAUSE_LOFB_LIMIT)) (h2 : W (.fld F.LRX_LOFB_STAT_FINE)) (h3 : W (.fld F.LRX_STAT_LOFB_LIMIT)) (h4 : W (.fld F.LRX_STAT_LOFB_PENDING)) (h5 : W (.fld F.LSR_FT_OUT_LIMIT)) (h6 : W (.fld F.LSR_FT_OUT_MHZ)) (h7 : W (.fld F.LSR_STAT_SER_BUSY)) (h8 : W (.fld H.LRX_FINE)) (h9 : W (.fld H.LRX_LOFB_OFFLOAD)) (h10 : W (.fld H.LRX_ROT)) (h11 : W (.fld H.LSR_CODE)) (h12 : W (.fld H.LSR_HOST_PEND)) (h13 : W (.fld H.LSR_HOST_RUN)) (h14 : W (.fld H.LSR_OWN_CMD)) (h15 : W (.fld H.LSR_OWN_DONE)) (h16 : W (.fld H.LSR_OWN_PEND)) (h17 : W (.fld H.LSR_OWN_RUN)) (h18 : W (.fld H.LSR_TUNE_PEND)) (a0 : Int) (h : Moves W s₀ s) :
    Moves W s₀ (Sys2Proof.Machine.Lrx.lofbUpdate a0 s) := by
  unfold Sys2Proof.Machine.Lrx.lofbUpdate
  repeat' (first
    | with_reducible assumption
    | with_reducible apply Moves.sput
    | with_reducible apply Lrx_offload_moves
    | with_reducible apply Lrx_showFine_moves
    | intro _
    | split
    | (extract_lets +onlyGivenNames x; first
      | (refine Moves.keep (W := W) (s₀ := s₀) x ?_ ?_; rotate_left; intro hx; clear_value x; rotate_right)
      | (refine Moves.keep (W := W) (s₀ := s₀) x.2 ?_ ?_; rotate_left; intro hx; clear_value x; rotate_right)
      | (refine Moves.keep (W := W) (s₀ := s₀) x.1 ?_ ?_; rotate_left; intro hx; clear_value x; rotate_right)
      | skip))

theorem Lrx_offloadDone_moves {W : Part → Prop} {s₀ s : State} (h0 : W (.fld F.LRX_INT_CAUSE_LOFB_LIMIT)) (h1 : W (.fld F.LRX_LOFB_STAT_FINE)) (h2 : W (.fld F.LRX_LOFB_STAT_SER)) (h3 : W (.fld F.LRX_STAT_LOFB_LIMIT)) (h4 : W (.fld F.LRX_STAT_LOFB_PENDING)) (h5 : W (.fld F.LSR_FT_OUT_LIMIT)) (h6 : W (.fld F.LSR_FT_OUT_MHZ)) (h7 : W (.fld H.LRX_FINE)) (h8 : W (.fld H.LSR_CODE)) (h9 : W (.fld H.LSR_OWN_DONE)) (h : Moves W s₀ s) :
    Moves W s₀ (Sys2Proof.Machine.Lrx.offloadDone s) := by
  unfold Sys2Proof.Machine.Lrx.offloadDone
  repeat' (first
    | with_reducible assumption
    | with_reducible apply Moves.clr
    | with_reducible apply Moves.sput
    | with_reducible apply Lrx_showFine_moves
    | intro _
    | split
    | (extract_lets +onlyGivenNames x; first
      | (refine Moves.keep (W := W) (s₀ := s₀) x ?_ ?_; rotate_left; intro hx; clear_value x; rotate_right)
      | (refine Moves.keep (W := W) (s₀ := s₀) x.2 ?_ ?_; rotate_left; intro hx; clear_value x; rotate_right)
      | (refine Moves.keep (W := W) (s₀ := s₀) x.1 ?_ ?_; rotate_left; intro hx; clear_value x; rotate_right)
      | skip))

theorem Lrx_offloadError_moves {W : Part → Prop} {s₀ s : State} (h0 : W (.fld F.LRX_INT_CAUSE_LOFB_ERR)) (h1 : W (.fld H.LRX_LOFB_STOPPED)) (h : Moves W s₀ s) :
    Moves W s₀ (Sys2Proof.Machine.Lrx.offloadError s) := by
  unfold Sys2Proof.Machine.Lrx.offloadError
  repeat' (first
    | with_reducible assumption
    | with_reducible apply Moves.set
    | intro _
    | split)

theorem Lrx_dmError_moves {W : Part → Prop} {s₀ s : State} (h0 : W (.fld F.LRX_DM_ERR_CNT_COUNT)) (h1 : W (.fld F.LRX_INT_CAUSE_DM_ERR)) (h2 : W (.fld H.FEC_MARK)) (a0 : Nat) (h : Moves W s₀ s) :
    Moves W s₀ (Sys2Proof.Machine.Lrx.dmError a0 s) := by
  unfold Sys2Proof.Machine.Lrx.dmError
  repeat' (first
    | with_reducible assumption
    | with_reducible apply Moves.count
    | with_reducible apply Moves.set
    | with_reducible apply Fec_mark_moves
    | intro _)

theorem Lrx_latchSnr_moves {W : Part → Prop} {s₀ s : State} (h0 : W (.fld F.LRX_SNR_SNR)) (h1 : W (.fld F.LRX_SNR_SNR_X)) (h2 : W (.fld F.LRX_SNR_SNR_Y)) (h3 : W (.fld F.LRX_SNR_VALID)) (h4 : W (.fld H.LRX_WIN_LOCK)) (a0 : Nat) (a1 : Nat) (a2 : Nat) (a3 : Nat) (h : Moves W s₀ s) :
    Moves W s₀ (Sys2Proof.Machine.Lrx.latchSnr a0 a1 a2 a3 s) := by
  unfold Sys2Proof.Machine.Lrx.latchSnr
  repeat' (first
    | with_reducible assumption
    | with_reducible apply Moves.put
    | intro _
    | (extract_lets +onlyGivenNames x; first
      | (refine Moves.keep (W := W) (s₀ := s₀) x ?_ ?_; rotate_left; intro hx; clear_value x; rotate_right)
      | (refine Moves.keep (W := W) (s₀ := s₀) x.2 ?_ ?_; rotate_left; intro hx; clear_value x; rotate_right)
      | (refine Moves.keep (W := W) (s₀ := s₀) x.1 ?_ ?_; rotate_left; intro hx; clear_value x; rotate_right)
      | skip))

theorem Lrx_latchLeaf_moves {W : Part → Prop} {s₀ s : State} (h0 : W (.fld F.LRX_SNR_LEAF_SNR)) (h1 : W (.fld F.LRX_SNR_LEAF_SNR_X)) (h2 : W (.fld F.LRX_SNR_LEAF_SNR_Y)) (h3 : W (.fld F.LRX_SNR_LEAF_VALID)) (a0 : Nat) (a1 : Nat) (a2 : Nat) (a3 : Nat) (a4 : Nat) (h : Moves W s₀ s) :
    Moves W s₀ (Sys2Proof.Machine.Lrx.latchLeaf a0 a1 a2 a3 a4 s) := by
  unfold Sys2Proof.Machine.Lrx.latchLeaf
  repeat' (first
    | with_reducible assumption
    | with_reducible apply Moves.put
    | intro _)

theorem Lrx_latchImpairments_moves {W : Part → Prop} {s₀ s : State} (h0 : W (.fld F.LRX_CD_RESID_RESID)) (h1 : W (.fld F.LRX_CFO_TOTAL)) (h2 : W (.fld F.LRX_IMP_DGD)) (h3 : W (.fld F.LRX_IMP_PDL)) (a0 : List Int) (h : Moves W s₀ s) :
    Moves W s₀ (Sys2Proof.Machine.Lrx.latchImpairments a0 s) := by
  unfold Sys2Proof.Machine.Lrx.latchImpairments
  repeat' (first
    | with_reducible assumption
    | with_reducible apply Moves.put
    | with_reducible apply Moves.sput
    | intro _
    | split
    | (extract_lets +onlyGivenNames x; first
      | (refine Moves.keep (W := W) (s₀ := s₀) x ?_ ?_; rotate_left; intro hx; clear_value x; rotate_right)
      | (refine Moves.keep (W := W) (s₀ := s₀) x.2 ?_ ?_; rotate_left; intro hx; clear_value x; rotate_right)
      | (refine Moves.keep (W := W) (s₀ := s₀) x.1 ?_ ?_; rotate_left; intro hx; clear_value x; rotate_right)
      | skip))

theorem Lrx_freeSets_moves {W : Part → Prop} {s₀ s : State} (h0 : W (.fld H.LRX_SET_OWNER)) (h : Moves W s₀ s) :
    Moves W s₀ (Sys2Proof.Machine.Lrx.freeSets s) := by
  unfold Sys2Proof.Machine.Lrx.freeSets
  repeat' (first
    | with_reducible assumption
    | with_reducible apply Moves.clr
    | with_reducible apply Moves.each
    | intro _
    | split
    | (extract_lets +onlyGivenNames x; first
      | (refine Moves.keep (W := W) (s₀ := s₀) x ?_ ?_; rotate_left; intro hx; clear_value x; rotate_right)
      | (refine Moves.keep (W := W) (s₀ := s₀) x.2 ?_ ?_; rotate_left; intro hx; clear_value x; rotate_right)
      | (refine Moves.keep (W := W) (s₀ := s₀) x.1 ?_ ?_; rotate_left; intro hx; clear_value x; rotate_right)
      | skip))

theorem Lrx_tapSwitch_moves {W : Part → Prop} {s₀ s : State} (h0 : W (.fld F.LRX_SC_STAT_LOCK)) (h1 : W (.fld H.LRX_SET_LOCK)) (h2 : W (.fld H.LRX_SET_OWNER)) (h3 : W (.fld H.LRX_SLOT_LEAF)) (h4 : W (.fld H.LRX_TAPS)) (h5 : W (.fld H.LRX_TAP_SET)) (a0 : Nat) (a1 : Nat) (a2 : Bool) (h : Moves W s₀ s) :
    Moves W s₀ (Sys2Proof.Machine.Lrx.tapSwitch a0 a1 a2 s) := by
  unfold Sys2Proof.Machine.Lrx.tapSwitch
  repeat' (first
    | with_reducible assumption
    | with_reducible apply Moves.clr
    | with_reducible apply Moves.put
    | with_reducible apply Lrx_adapt_moves
    | intro _
    | split
    | (extract_lets +onlyGivenNames x; first
      | (refine Moves.keep (W := W) (s₀ := s₀) x ?_ ?_; rotate_left; intro hx; clear_value x; rotate_right)
      | (refine Moves.keep (W := W) (s₀ := s₀) x.2 ?_ ?_; rotate_left; intro hx; clear_value x; rotate_right)
      | (refine Moves.keep (W := W) (s₀ := s₀) x.1 ?_ ?_; rotate_left; intro hx; clear_value x; rotate_right)
      | skip))

theorem Lrx_swap_moves {W : Part → Prop} {s₀ s : State} (h0 : W (.fld F.LRX_INT_CAUSE_LOAD_SWAP)) (h1 : W (.fld F.LRX_SC_STAT_LOCK)) (h2 : W (.fld F.LRX_STAT_ANNOUNCED)) (h3 : W (.fld F.LRX_STAT_BANK)) (h4 : W (.fld F.LRX_STAT_SHADOW_READY)) (h5 : W (.fld H.FEC_RX_ON)) (h6 : W (.fld H.FEC_RX_POS)) (h7 : W (.fld H.FEC_RX_WAIT)) (h8 : W (.fld H.FEC_SL_ON)) (h9 : W (.fld H.FEC_SL_WAIT)) (h10 : W (.fld H.LRX_ACTIVE)) (h11 : W (.fld H.LRX_ACT_VER)) (h12 : W (.fld H.LRX_SET_OWNER)) (h13 : W (.fld H.LRX_SHADOW)) (h14 : W (.fld H.LRX_SHADOW_VER)) (h15 : W (.fld H.LRX_SWAP_DUE)) (h16 : W (.fld H.LRX_TAPS)) (h17 : W (.fld H.LRX_WIN_LOCK)) (h : Moves W s₀ s) :
    Moves W s₀ (Sys2Proof.Machine.Lrx.swap s) := by
  unfold Sys2Proof.Machine.Lrx.swap
  repeat' (first
    | with_reducible assumption
    | with_reducible apply Moves.clr
    | with_reducible apply Moves.each
    | with_reducible apply Moves.put
    | with_reducible apply Moves.set
    | with_reducible apply Fec_startRx_moves
    | with_reducible apply Lrx_freeSets_moves
    | intro _
    | split
    | (extract_lets +onlyGivenNames x; first
      | (refine Moves.keep (W := W) (s₀ := s₀) x ?_ ?_; rotate_left; intro hx; clear_value x; rotate_right)
      | (refine Moves.keep (W := W) (s₀ := s₀) x.2 ?_ ?_; rotate_left; intro hx; clear_value x; rotate_right)
      | (refine Moves.keep (W := W) (s₀ := s₀) x.1 ?_ ?_; rotate_left; intro hx; clear_value x; rotate_right)
      | skip))

theorem Lrx_cfgErr_moves {W : Part → Prop} {s₀ s : State} (h0 : W (.fld F.LRX_INT_CAUSE_CFG_ERR)) (h : Moves W s₀ s) :
    Moves W s₀ (Sys2Proof.Machine.Lrx.cfgErr s) := by
  unfold Sys2Proof.Machine.Lrx.cfgErr
  repeat' (first
    | with_reducible assumption
    | with_reducible apply Moves.set
    | intro _)

theorem Lrx_writeLineCfg_moves {W : Part → Prop} {s₀ s : State} (h0 : W (.fld F.LRX_INT_CAUSE_CFG_ERR)) (h1 : W (.fld F.LRX_LINE_CFG_BAUD_MBD)) (h2 : W (.fld F.LRX_LINE_CFG_NSC_M1)) (h3 : W (.fld F.LRX_LINE_CFG_SPACING)) (a0 : Nat) (h : Moves W s₀ s) :
    Moves W s₀ (Sys2Proof.Machine.Lrx.writeLineCfg a0 s) := by
  unfold Sys2Proof.Machine.Lrx.writeLineCfg
  repeat' (first
    | with_reducible assumption
    | with_reducible apply Moves.put
    | with_reducible apply Lrx_cfgErr_moves
    | intro _
    | split)

theorem Lrx_writeRxGrp_moves {W : Part → Prop} {s₀ s : State} (h0 : W (.fld F.LRX_INT_CAUSE_CFG_ERR)) (h1 : W (.fld F.LRX_RXGRP_K_HI)) (h2 : W (.fld F.LRX_RXGRP_K_LO)) (h3 : W (.fld F.SYS_INT_CAUSE_ROLE_LIMIT)) (a0 : Nat) (h : Moves W s₀ s) :
    Moves W s₀ (Sys2Proof.Machine.Lrx.writeRxGrp a0 s) := by
  unfold Sys2Proof.Machine.Lrx.writeRxGrp
  repeat' (first
    | with_reducible assumption
    | with_reducible apply Moves.put
    | with_reducible apply Moves.set
    | with_reducible apply Lrx_cfgErr_moves
    | intro _
    | split)

theorem Lrx_writeCdRes_moves {W : Part → Prop} {s₀ s : State} (h0 : W (.fld F.LRX_CD_RES_RES)) (h1 : W (.fld F.LRX_INT_CAUSE_CFG_ERR)) (a0 : Nat) (h : Moves W s₀ s) :
    Moves W s₀ (Sys2Proof.Machine.Lrx.writeCdRes a0 s) := by
  unfold Sys2Proof.Machine.Lrx.writeCdRes
  repeat' (first
    | with_reducible assumption
    | with_reducible apply Moves.put
    | with_reducible apply Lrx_cfgErr_moves
    | intro _
    | split)

theorem Lrx_writeEqCfg_moves {W : Part → Prop} {s₀ s : State} (h0 : W (.fld F.LRX_EQ_CFG_LOCK_SNR)) (h1 : W (.fld F.LRX_EQ_CFG_MU_ACQ)) (h2 : W (.fld F.LRX_EQ_CFG_MU_TRK)) (h3 : W (.fld F.LRX_EQ_CFG_TAPS)) (h4 : W (.fld F.LRX_INT_CAUSE_CFG_ERR)) (a0 : Nat) (h : Moves W s₀ s) :
    Moves W s₀ (Sys2Proof.Machine.Lrx.writeEqCfg a0 s) := by
  unfold Sys2Proof.Machine.Lrx.writeEqCfg
  repeat' (first
    | with_reducible assumption
    | with_reducible apply Moves.put
    | with_reducible apply Lrx_cfgErr_moves
    | intro _
    | split
    | (extract_lets +onlyGivenNames x; first
      | (refine Moves.keep (W := W) (s₀ := s₀) x ?_ ?_; rotate_left; intro hx; clear_value x; rotate_right)
      | (refine Moves.keep (W := W) (s₀ := s₀) x.2 ?_ ?_; rotate_left; intro hx; clear_value x; rotate_right)
      | (refine Moves.keep (W := W) (s₀ := s₀) x.1 ?_ ?_; rotate_left; intro hx; clear_value x; rotate_right)
      | skip))

theorem Lrx_writeCdCtrl_moves {W : Part → Prop} {s₀ s : State} (h0 : W (.fld F.LRX_CD_CTRL_K)) (h1 : W (.fld F.LRX_INT_CAUSE_CD_RANGE)) (h2 : W (.fld F.LRX_INT_CAUSE_CFG_ERR)) (h3 : W (.fld F.LRX_STAT_CD_ARMED)) (h4 : W (.fld F.LRX_STAT_CD_FADING)) (h5 : W (.fld F.LRX_STAT_CD_HELD)) (h6 : W (.fld H.LRX_D_ARMED)) (h7 : W (.fld H.LRX_D_FADE)) (h8 : W (.fld H.LRX_D_HELD)) (h9 : W (.fld H.LRX_FADE_LEN)) (a0 : Nat) (h : Moves W s₀ s) :
    Moves W s₀ (Sys2Proof.Machine.Lrx.writeCdCtrl a0 s) := by
  unfold Sys2Proof.Machine.Lrx.writeCdCtrl
  repeat' (first
    | with_reducible assumption
    | with_reducible apply Moves.put
    | with_reducible apply Moves.when
    | with_reducible apply Lrx_cdDisarm_moves
    | with_reducible apply Lrx_cdGo_moves
    | with_reducible apply Lrx_cdArm_moves
    | intro _
    | (extract_lets +onlyGivenNames x; first
      | (refine Moves.keep (W := W) (s₀ := s₀) x ?_ ?_; rotate_left; intro hx; clear_value x; rotate_right)
      | (refine Moves.keep (W := W) (s₀ := s₀) x.2 ?_ ?_; rotate_left; intro hx; clear_value x; rotate_right)
      | (refine Moves.keep (W := W) (s₀ := s₀) x.1 ?_ ?_; rotate_left; intro hx; clear_value x; rotate_right)
      | skip))

theorem Lrx_writeCtrl_moves {W : Part → Prop} {s₀ s : State} (h0 : W (.arr H.FEC_RX_ON)) (h1 : W (.arr H.FEC_RX_POS)) (h2 : W (.arr H.FEC_RX_WAIT)) (h3 : W (.arr H.FEC_SL_ON)) (h4 : W (.arr H.FEC_SL_POS)) (h5 : W (.arr H.FEC_SL_WAIT)) (h6 : W (.fld F.CVT_ADC_STAT_MAP_ERR)) (h7 : W (.fld F.LRX_CTRL_CD_AUTO)) (h8 : W (.fld F.LRX_CTRL_EN)) (h9 : W (.fld F.LRX_CTRL_EQ_FREEZE)) (h10 : W (.fld F.LRX_CTRL_LOFB_EN)) (h11 : W (.fld F.LRX_INT_CAUSE_CFG_ERR)) (h12 : W (.fld F.LRX_INT_CAUSE_LOAD_CANCELLED)) (h13 : W (.fld F.LRX_INT_CAUSE_LOS_CHG)) (h14 : W (.fld F.LRX_INT_CAUSE_TRACK)) (h15 : W (.fld F.LRX_INT_CAUSE_TRACK_LOST)) (h16 : W (.fld F.LRX_SC_STAT_LOCK)) (h17 : W (.fld F.LRX_STAT_ACQ_RETRY)) (h18 : W (.fld F.LRX_STAT_ANNOUNCED)) (h19 : W (.fld F.LRX_STAT_CD_ARMED)) (h20 : W (.fld F.LRX_STAT_CD_FADING)) (h21 : W (.fld F.LRX_STAT_CD_HELD)) (h22 : W (.fld F.LRX_STAT_CFG_STEP)) (h23 : W (.fld F.LRX_STAT_LOFB_PENDING)) (h24 : W (.fld F.LRX_STAT_LOS)) (h25 : W (.fld F.LRX_STAT_SHADOW_READY)) (h26 : W (.fld F.LRX_STAT_STATE)) (h27 : W (.fld F.LSR_STAT_SER_BUSY)) (h28 : W (.fld F.PWR_AVS_READ_BUSY)) (h29 : W (.fld F.PWR_VMIN_VMIN_MV)) (h30 : W (.fld F.PWR_VMIN_VREQ_MV)) (h31 : W (.fld F.SCM_CHG_STAT_US_STATE)) (h32 : W (.fld H.LRX_D_NOW)) (h33 : W (.fld H.LRX_LLR_HOLD)) (h34 : W (.fld H.LRX_LOFB_STOPPED)) (h35 : W (.fld H.LRX_QUAD)) (h36 : W (.fld H.LRX_SWAP_DUE)) (h37 : W (.fld H.LRX_TAPS)) (h38 : W (.fld H.LRX_WIN_LOCK)) (h39 : W (.fld H.LSR_HOST_PEND)) (h40 : W (.fld H.LSR_HOST_RUN)) (h41 : W (.fld H.LSR_OWN_CMD)) (h42 : W (.fld H.LSR_OWN_PEND)) (h43 : W (.fld H.LSR_OWN_RUN)) (h44 : W (.fld H.LSR_SET)) (h45 : W (.fld H.LSR_TUNE_CMD)) (h46 : W (.fld H.LSR_TUNE_PEND)) (h47 : W (.fld H.PWR_HOLD_RX)) (h48 : W (.fld H.PWR_TARGET)) (h49 : W (.fld H.PWR_VMIN_ASKED)) (h50 : W (.fld H.PWR_VMIN_FAILED)) (h51 : W (.fld H.PWR_VMIN_WAITS)) (a0 : Nat) (h : Moves W s₀ s) :
    Moves W s₀ (Sys2Proof.Machine.Lrx.writeCtrl a0 s) := by
  unfold Sys2Proof.Machine.Lrx.writeCtrl
  repeat' (first
    | with_reducible assumption
    | with_reducible apply Moves.clr
    | with_reducible apply Moves.put
    | with_reducible apply Moves.when
    | with_reducible apply Lrx_enable_moves
    | with_reducible apply Lrx_disable_moves
    | with_reducible apply Lrx_restart_moves
    | intro _
    | split
    | (extract_lets +onlyGivenNames x; first
      | (refine Moves.keep (W := W) (s₀ := s₀) x ?_ ?_; rotate_left; intro hx; clear_value x; rotate_right)
      | (refine Moves.keep (W := W) (s₀ := s₀) x.2 ?_ ?_; rotate_left; intro hx; clear_value x; rotate_right)
      | (refine Moves.keep (W := W) (s₀ := s₀) x.1 ?_ ?_; rotate_left; intro hx; clear_value x; rotate_right)
      | skip))

end Sys2Proof.Laws
end

