-- ==== Sys2Proof/Laws/MovesLtx.lean ====
section
/-! SUPPORT. Sys2Proof/Laws/MovesLtx.lean: what each operation of Machine/Ltx.lean may write (Laws/Moves.lean). -/
namespace Sys2Proof.Laws
open Sys2Proof Sys2Proof.Machine

theorem Cvt_refresh_moves {W : Part → Prop} {s₀ s : State} (h0 : W (.fld F.CVT_ADC_STAT_READY)) (h1 : W (.fld F.CVT_DAC_STAT_READY)) (h : Moves W s₀ s) :
    Moves W s₀ (Sys2Proof.Machine.Cvt.refresh s) := by
  unfold Sys2Proof.Machine.Cvt.refresh
  repeat' (first
    | with_reducible assumption
    | with_reducible apply Moves.each
    | with_reducible apply Moves.putBit
    | intro _)

theorem Cvt_writeDacFs_moves {W : Part → Prop} {s₀ s : State} (h0 : W (.fld F.CVT_ADC_STAT_READY)) (h1 : W (.fld F.CVT_DAC_FS_FS_MHZ)) (h2 : W (.fld F.CVT_DAC_STAT_CLK_LOCK)) (h3 : W (.fld F.CVT_DAC_STAT_READY)) (h4 : W (.fld F.CVT_DAC_STAT_WRITE_REFUSED)) (a0 : Nat) (h : Moves W s₀ s) :
    Moves W s₀ (Sys2Proof.Machine.Cvt.writeDacFs a0 s) := by
  unfold Sys2Proof.Machine.Cvt.writeDacFs
  repeat' (first
    | with_reducible assumption
    | with_reducible apply Moves.clr
    | with_reducible apply Moves.put
    | with_reducible apply Moves.set
    | with_reducible apply Cvt_refresh_moves
    | intro _
    | split)

theorem Cvt_writeAdcFs_moves {W : Part → Prop} {s₀ s : State} (h0 : W (.fld F.CVT_ADC_FS_FS_MHZ)) (h1 : W (.fld F.CVT_ADC_STAT_CLK_LOCK)) (h2 : W (.fld F.CVT_ADC_STAT_READY)) (h3 : W (.fld F.CVT_ADC_STAT_WRITE_REFUSED)) (h4 : W (.fld F.CVT_DAC_STAT_READY)) (a0 : Nat) (h : Moves W s₀ s) :
    Moves W s₀ (Sys2Proof.Machine.Cvt.writeAdcFs a0 s) := by
  unfold Sys2Proof.Machine.Cvt.writeAdcFs
  repeat' (first
    | with_reducible assumption
    | with_reducible apply Moves.clr
    | with_reducible apply Moves.put
    | with_reducible apply Moves.set
    | with_reducible apply Cvt_refresh_moves
    | intro _
    | split)

theorem Cvt_clockLock_moves {W : Part → Prop} {s₀ s : State} (h0 : W (.fld F.CVT_ADC_STAT_CLK_LOCK)) (h1 : W (.fld F.CVT_ADC_STAT_READY)) (h2 : W (.fld F.CVT_DAC_STAT_CLK_LOCK)) (h3 : W (.fld F.CVT_DAC_STAT_READY)) (a0 : Bool) (h : Moves W s₀ s) :
    Moves W s₀ (Sys2Proof.Machine.Cvt.clockLock a0 s) := by
  unfold Sys2Proof.Machine.Cvt.clockLock
  repeat' (first
    | with_reducible assumption
    | with_reducible apply Moves.set
    | with_reducible apply Cvt_refresh_moves
    | intro _
    | split)

theorem Ltx_validate_moves {W : Part → Prop} {s₀ s : State} (h0 : W (.fld F.LTX_INT_CAUSE_TABLE_ERR)) (h1 : W (.fld F.LTX_STAT_ERR_SC)) (h2 : W (.fld F.LTX_STAT_SHADOW_READY)) (h : Moves W s₀ s) :
    Moves W s₀ (Sys2Proof.Machine.Ltx.validate s) := by
  unfold Sys2Proof.Machine.Ltx.validate
  repeat' (first
    | with_reducible assumption
    | with_reducible apply Moves.clr
    | with_reducible apply Moves.put
    | with_reducible apply Moves.set
    | intro _
    | split
    | (extract_lets +onlyGivenNames x; first
      | (refine Moves.keep (W := W) (s₀ := s₀) x ?_ ?_; rotate_left; intro hx; clear_value x; rotate_right)
      | (refine Moves.keep (W := W) (s₀ := s₀) x.2 ?_ ?_; rotate_left; intro hx; clear_value x; rotate_right)
      | (refine Moves.keep (W := W) (s₀ := s₀) x.1 ?_ ?_; rotate_left; intro hx; clear_value x; rotate_right)
      | skip))

theorem Ltx_writeShadow_moves {W : Part → Prop} {s₀ s : State} (h0 : W (.fld F.LTX_INT_CAUSE_SHADOW_LOCKED)) (h1 : W (.fld F.LTX_INT_CAUSE_TABLE_ERR)) (h2 : W (.fld F.LTX_STAT_ERR_SC)) (h3 : W (.fld F.LTX_STAT_SHADOW_READY)) (h4 : W (.fld H.LTX_SHADOW)) (h5 : W (.fld H.LTX_SHADOW_VER)) (a0 : Nat) (a1 : List (Nat × Nat)) (h : Moves W s₀ s) :
    Moves W s₀ (Sys2Proof.Machine.Ltx.writeShadow a0 a1 s) := by
  unfold Sys2Proof.Machine.Ltx.writeShadow
  repeat' (first
    | with_reducible assumption
    | with_reducible apply Moves.eachOf
    | with_reducible apply Moves.put
    | with_reducible apply Moves.set
    | with_reducible apply Ltx_validate_moves
    | intro _
    | split)

theorem Ltx_announce_moves {W : Part → Prop} {s₀ s : State} (h0 : W (.fld F.LTX_STAT_ANNOUNCED)) (h1 : W (.fld H.LTX_SWAP_DUE)) (h2 : W (.fld H.LTX_SWAP_MF)) (a0 : Nat) (h : Moves W s₀ s) :
    Moves W s₀ (Sys2Proof.Machine.Ltx.announce a0 s) := by
  unfold Sys2Proof.Machine.Ltx.announce
  repeat' (first
    | with_reducible assumption
    | with_reducible apply Moves.put
    | with_reducible apply Moves.set
    | intro _)

theorem Ltx_mute_moves {W : Part → Prop} {s₀ s : State} (h0 : W (.fld F.LTX_STAT_MUTE_SRC)) (h1 : W (.fld H.LTX_OUTPUT)) (a0 : Nat) (h : Moves W s₀ s) :
    Moves W s₀ (Sys2Proof.Machine.Ltx.mute a0 s) := by
  unfold Sys2Proof.Machine.Ltx.mute
  repeat' (first
    | with_reducible assumption
    | with_reducible apply Moves.clr
    | with_reducible apply Moves.setBit
    | intro _)

theorem Ltx_unmute_moves {W : Part → Prop} {s₀ s : State} (h0 : W (.fld F.LTX_STAT_MUTE_SRC)) (a0 : Nat) (h : Moves W s₀ s) :
    Moves W s₀ (Sys2Proof.Machine.Ltx.unmute a0 s) := by
  unfold Sys2Proof.Machine.Ltx.unmute
  repeat' (first
    | with_reducible assumption
    | with_reducible apply Moves.clrBit
    | intro _)

theorem Ltx_resume_moves {W : Part → Prop} {s₀ s : State} (h0 : W (.fld H.LTX_OUTPUT)) (h : Moves W s₀ s) :
    Moves W s₀ (Sys2Proof.Machine.Ltx.resume s) := by
  unfold Sys2Proof.Machine.Ltx.resume
  repeat' (first
    | with_reducible assumption
    | with_reducible apply Moves.set
    | intro _
    | split)

theorem Ltx_setMute_moves {W : Part → Prop} {s₀ s : State} (h0 : W (.fld F.LTX_CTRL_MUTE)) (h1 : W (.fld F.LTX_STAT_MUTE_SRC)) (h2 : W (.fld H.LTX_OUTPUT)) (a0 : Nat) (h : Moves W s₀ s) :
    Moves W s₀ (Sys2Proof.Machine.Ltx.setMute a0 s) := by
  unfold Sys2Proof.Machine.Ltx.setMute
  repeat' (first
    | with_reducible assumption
    | with_reducible apply Moves.put
    | with_reducible apply Ltx_mute_moves
    | with_reducible apply Ltx_unmute_moves
    | intro _
    | split
    | (extract_lets +onlyGivenNames x; first
      | (refine Moves.keep (W := W) (s₀ := s₀) x ?_ ?_; rotate_left; intro hx; clear_value x; rotate_right)
      | (refine Moves.keep (W := W) (s₀ := s₀) x.2 ?_ ?_; rotate_left; intro hx; clear_value x; rotate_right)
      | (refine Moves.keep (W := W) (s₀ := s₀) x.1 ?_ ?_; rotate_left; intro hx; clear_value x; rotate_right)
      | skip))

theorem Ltx_hostMute_moves {W : Part → Prop} {s₀ s : State} (h0 : W (.fld F.LTX_CTRL_MUTE)) (h1 : W (.fld F.LTX_STAT_MUTE_SRC)) (h2 : W (.fld H.LTX_OUTPUT)) (h3 : W (.fld H.PEER_MUTE_WAS)) (a0 : Nat) (h : Moves W s₀ s) :
    Moves W s₀ (Sys2Proof.Machine.Ltx.hostMute a0 s) := by
  unfold Sys2Proof.Machine.Ltx.hostMute
  repeat' (first
    | with_reducible assumption
    | with_reducible apply Moves.put
    | with_reducible apply Ltx_setMute_moves
    | intro _
    | split)

theorem Ltx_enable_moves {W : Part → Prop} {s₀ s : State} (h0 : W (.fld F.CVT_DAC_STAT_MAP_ERR)) (h1 : W (.fld F.LTX_CTRL_EN)) (h2 : W (.fld F.LTX_INT_CAUSE_CFG_ERR)) (h3 : W (.fld F.LTX_STAT_CFG_STEP)) (h4 : W (.fld F.PWR_AVS_READ_BUSY)) (h5 : W (.fld F.PWR_VMIN_VMIN_MV)) (h6 : W (.fld F.PWR_VMIN_VREQ_MV)) (h7 : W (.fld H.FEC_TX_POS)) (h8 : W (.fld H.FRM_CF_DUE)) (h9 : W (.fld H.LTX_OFS_NOW)) (h10 : W (.fld H.PWR_HOLD_TX)) (h11 : W (.fld H.PWR_TARGET)) (h12 : W (.fld H.PWR_VMIN_ASKED)) (h13 : W (.fld H.PWR_VMIN_FAILED)) (h14 : W (.fld H.PWR_VMIN_WAITS)) (h : Moves W s₀ s) :
    Moves W s₀ (Sys2Proof.Machine.Ltx.enable s) := by
  unfold Sys2Proof.Machine.Ltx.enable
  repeat' (first
    | with_reducible assumption
    | with_reducible apply Moves.clr
    | with_reducible apply Moves.each
    | with_reducible apply Moves.put
    | with_reducible apply Moves.set
    | with_reducible apply Pwr_vminRecompute_moves
    | with_reducible apply Fec_startTx_moves
    | intro _
    | split
    | (extract_lets +onlyGivenNames x; first
      | (refine Moves.keep (W := W) (s₀ := s₀) x ?_ ?_; rotate_left; intro hx; clear_value x; rotate_right)
      | (refine Moves.keep (W := W) (s₀ := s₀) x.2 ?_ ?_; rotate_left; intro hx; clear_value x; rotate_right)
      | (refine Moves.keep (W := W) (s₀ := s₀) x.1 ?_ ?_; rotate_left; intro hx; clear_value x; rotate_right)
      | skip))

theorem Ltx_start_moves {W : Part → Prop} {s₀ s : State} (h0 : W (.fld F.LTX_STAT_ACTIVE)) (h1 : W (.fld F.LTX_STAT_MUTE_SRC)) (h2 : W (.fld H.LTX_OUTPUT)) (h : Moves W s₀ s) :
    Moves W s₀ (Sys2Proof.Machine.Ltx.start s) := by
  unfold Sys2Proof.Machine.Ltx.start
  repeat' (first
    | with_reducible assumption
    | with_reducible apply Moves.set
    | with_reducible apply Ltx_resume_moves
    | with_reducible apply Ltx_unmute_moves
    | intro _
    | split)

theorem Ltx_cancel_moves {W : Part → Prop} {s₀ s : State} (h0 : W (.fld F.LTX_INT_CAUSE_LOAD_CANCELLED)) (h1 : W (.fld F.LTX_STAT_ANNOUNCED)) (h2 : W (.fld F.LTX_STAT_SHADOW_READY)) (h3 : W (.fld F.SCM_CHG_STAT_DS_STATE)) (h4 : W (.fld H.LTX_SWAP_DUE)) (h : Moves W s₀ s) :
    Moves W s₀ (Sys2Proof.Machine.Ltx.cancel s) := by
  unfold Sys2Proof.Machine.Ltx.cancel
  repeat' (first
    | with_reducible assumption
    | with_reducible apply Moves.clr
    | with_reducible apply Moves.set
    | intro _
    | split
    | (extract_lets +onlyGivenNames x; first
      | (refine Moves.keep (W := W) (s₀ := s₀) x ?_ ?_; rotate_left; intro hx; clear_value x; rotate_right)
      | (refine Moves.keep (W := W) (s₀ := s₀) x.2 ?_ ?_; rotate_left; intro hx; clear_value x; rotate_right)
      | (refine Moves.keep (W := W) (s₀ := s₀) x.1 ?_ ?_; rotate_left; intro hx; clear_value x; rotate_right)
      | skip))

theorem Ltx_disable_moves {W : Part → Prop} {s₀ s : State} (h0 : W (.fld F.LTX_CTRL_EN)) (h1 : W (.fld F.LTX_INT_CAUSE_LOAD_CANCELLED)) (h2 : W (.fld F.LTX_STAT_ACTIVE)) (h3 : W (.fld F.LTX_STAT_ANNOUNCED)) (h4 : W (.fld F.LTX_STAT_MUTE_SRC)) (h5 : W (.fld F.LTX_STAT_SHADOW_READY)) (h6 : W (.fld F.PWR_AVS_READ_BUSY)) (h7 : W (.fld F.PWR_VMIN_VMIN_MV)) (h8 : W (.fld F.PWR_VMIN_VREQ_MV)) (h9 : W (.fld F.SCM_CHG_STAT_DS_STATE)) (h10 : W (.fld H.LTX_OUTPUT)) (h11 : W (.fld H.LTX_SWAP_DUE)) (h12 : W (.fld H.PWR_HOLD_TX)) (h13 : W (.fld H.PWR_TARGET)) (h14 : W (.fld H.PWR_VMIN_ASKED)) (h15 : W (.fld H.PWR_VMIN_FAILED)) (h16 : W (.fld H.PWR_VMIN_WAITS)) (h : Moves W s₀ s) :
    Moves W s₀ (Sys2Proof.Machine.Ltx.disable s) := by
  unfold Sys2Proof.Machine.Ltx.disable
  repeat' (first
    | with_reducible assumption
    | with_reducible apply Moves.clr
    | with_reducible apply Ltx_cancel_moves
    | with_reducible apply Pwr_vminRecompute_moves
    | with_reducible apply Ltx_mute_moves
    | intro _
    | split
    | (extract_lets +onlyGivenNames x; first
      | (refine Moves.keep (W := W) (s₀ := s₀) x ?_ ?_; rotate_left; intro hx; clear_value x; rotate_right)
      | (refine Moves.keep (W := W) (s₀ := s₀) x.2 ?_ ?_; rotate_left; intro hx; clear_value x; rotate_right)
      | (refine Moves.keep (W := W) (s₀ := s₀) x.1 ?_ ?_; rotate_left; intro hx; clear_value x; rotate_right)
      | skip))

theorem Ltx_swap_moves {W : Part → Prop} {s₀ s : State} (h0 : W (.fld F.LTX_INT_CAUSE_LOAD_SWAP)) (h1 : W (.fld F.LTX_STAT_ANNOUNCED)) (h2 : W (.fld F.LTX_STAT_BANK)) (h3 : W (.fld F.LTX_STAT_SHADOW_READY)) (h4 : W (.fld H.FEC_TX_POS)) (h5 : W (.fld H.FRM_CF_DUE)) (h6 : W (.fld H.LTX_ACTIVE)) (h7 : W (.fld H.LTX_ACT_VER)) (h8 : W (.fld H.LTX_SHADOW)) (h9 : W (.fld H.LTX_SHADOW_VER)) (h10 : W (.fld H.LTX_SWAP_DUE)) (h : Moves W s₀ s) :
    Moves W s₀ (Sys2Proof.Machine.Ltx.swap s) := by
  unfold Sys2Proof.Machine.Ltx.swap
  repeat' (first
    | with_reducible assumption
    | with_reducible apply Moves.clr
    | with_reducible apply Moves.each
    | with_reducible apply Moves.put
    | with_reducible apply Moves.set
    | with_reducible apply Fec_startTx_moves
    | intro _
    | split
    | (extract_lets +onlyGivenNames x; first
      | (refine Moves.keep (W := W) (s₀ := s₀) x ?_ ?_; rotate_left; intro hx; clear_value x; rotate_right)
      | (refine Moves.keep (W := W) (s₀ := s₀) x.2 ?_ ?_; rotate_left; intro hx; clear_value x; rotate_right)
      | (refine Moves.keep (W := W) (s₀ := s₀) x.1 ?_ ?_; rotate_left; intro hx; clear_value x; rotate_right)
      | skip))

theorem Ltx_writeLineCfg_moves {W : Part → Prop} {s₀ s : State} (h0 : W (.fld F.LTX_INT_CAUSE_CFG_ERR)) (h1 : W (.fld F.LTX_LINE_CFG_BAUD_MBD)) (h2 : W (.fld F.LTX_LINE_CFG_NSC_M1)) (h3 : W (.fld F.LTX_LINE_CFG_SPACING)) (a0 : Nat) (h : Moves W s₀ s) :
    Moves W s₀ (Sys2Proof.Machine.Ltx.writeLineCfg a0 s) := by
  unfold Sys2Proof.Machine.Ltx.writeLineCfg
  repeat' (first
    | with_reducible assumption
    | with_reducible apply Moves.put
    | with_reducible apply Moves.set
    | intro _
    | split)

theorem Ltx_writeFreqOfs_moves {W : Part → Prop} {s₀ s : State} (h0 : W (.fld F.LTX_FREQ_OFS_OFS)) (h1 : W (.fld F.LTX_INT_CAUSE_CFG_ERR)) (h2 : W (.fld H.LTX_OFS_PENDING)) (a0 : Nat) (h : Moves W s₀ s) :
    Moves W s₀ (Sys2Proof.Machine.Ltx.writeFreqOfs a0 s) := by
  unfold Sys2Proof.Machine.Ltx.writeFreqOfs
  repeat' (first
    | with_reducible assumption
    | with_reducible apply Moves.put
    | with_reducible apply Moves.set
    | intro _
    | split)

theorem Ltx_applyFreqOfs_moves {W : Part → Prop} {s₀ s : State} (h0 : W (.fld H.LTX_OFS_NOW)) (h1 : W (.fld H.LTX_OFS_PENDING)) (h : Moves W s₀ s) :
    Moves W s₀ (Sys2Proof.Machine.Ltx.applyFreqOfs s) := by
  unfold Sys2Proof.Machine.Ltx.applyFreqOfs
  repeat' (first
    | with_reducible assumption
    | with_reducible apply Moves.clr
    | with_reducible apply Moves.put
    | intro _
    | split)

theorem Ltx_startFade_moves {W : Part → Prop} {s₀ s : State} (h0 : W (.fld F.LTX_STAT_CD_FADING)) (h1 : W (.fld H.LTX_D_FADE)) (h2 : W (.fld H.LTX_FADE_LEN)) (a0 : Nat) (h : Moves W s₀ s) :
    Moves W s₀ (Sys2Proof.Machine.Ltx.startFade a0 s) := by
  unfold Sys2Proof.Machine.Ltx.startFade
  repeat' (first
    | with_reducible assumption
    | with_reducible apply Moves.put
    | with_reducible apply Moves.set
    | intro _)

theorem Ltx_cdpreGo_moves {W : Part → Prop} {s₀ s : State} (h0 : W (.fld F.LTX_INT_CAUSE_CD_RANGE)) (h1 : W (.fld F.LTX_STAT_CD_FADING)) (h2 : W (.fld F.SYS_INT_CAUSE_ROLE_LIMIT)) (h3 : W (.fld H.LTX_D_FADE)) (h4 : W (.fld H.LTX_D_HELD)) (h5 : W (.fld H.LTX_FADE_LEN)) (h6 : W (.fld H.LTX_GO_HELD)) (h : Moves W s₀ s) :
    Moves W s₀ (Sys2Proof.Machine.Ltx.cdpreGo s) := by
  unfold Sys2Proof.Machine.Ltx.cdpreGo
  repeat' (first
    | with_reducible assumption
    | with_reducible apply Moves.put
    | with_reducible apply Moves.set
    | with_reducible apply Ltx_startFade_moves
    | intro _
    | split)

theorem Ltx_cdpreDone_moves {W : Part → Prop} {s₀ s : State} (h0 : W (.fld F.LTX_INT_CAUSE_CD_DONE)) (h1 : W (.fld F.LTX_STAT_CD_FADING)) (h2 : W (.fld H.LTX_D_FADE)) (h3 : W (.fld H.LTX_D_NOW)) (h4 : W (.fld H.LTX_FADE_LEN)) (h5 : W (.fld H.LTX_GO_HELD)) (a0 : Nat) (h : Moves W s₀ s) :
    Moves W s₀ (Sys2Proof.Machine.Ltx.cdpreDone a0 s) := by
  unfold Sys2Proof.Machine.Ltx.cdpreDone
  repeat' (first
    | with_reducible assumption
    | with_reducible apply Moves.clr
    | with_reducible apply Moves.put
    | with_reducible apply Moves.set
    | with_reducible apply Ltx_startFade_moves
    | intro _
    | split
    | (extract_lets +onlyGivenNames x; first
      | (refine Moves.keep (W := W) (s₀ := s₀) x ?_ ?_; rotate_left; intro hx; clear_value x; rotate_right)
      | (refine Moves.keep (W := W) (s₀ := s₀) x.2 ?_ ?_; rotate_left; intro hx; clear_value x; rotate_right)
      | (refine Moves.keep (W := W) (s₀ := s₀) x.1 ?_ ?_; rotate_left; intro hx; clear_value x; rotate_right)
      | skip))

theorem Ltx_writeCdpre_moves {W : Part → Prop} {s₀ s : State} (h0 : W (.fld F.LTX_CDPRE_D)) (h1 : W (.fld F.SYS_INT_CAUSE_ROLE_LIMIT)) (a0 : Nat) (h : Moves W s₀ s) :
    Moves W s₀ (Sys2Proof.Machine.Ltx.writeCdpre a0 s) := by
  unfold Sys2Proof.Machine.Ltx.writeCdpre
  repeat' (first
    | with_reducible assumption
    | with_reducible apply Moves.put
    | with_reducible apply Moves.set
    | intro _
    | split)

theorem Ltx_writeCdpreCtrl_moves {W : Part → Prop} {s₀ s : State} (h0 : W (.fld F.LTX_CDPRE_CTRL_K)) (h1 : W (.fld F.LTX_INT_CAUSE_CD_RANGE)) (h2 : W (.fld F.LTX_STAT_CD_FADING)) (h3 : W (.fld F.SYS_INT_CAUSE_ROLE_LIMIT)) (h4 : W (.fld H.LTX_D_FADE)) (h5 : W (.fld H.LTX_D_HELD)) (h6 : W (.fld H.LTX_FADE_LEN)) (h7 : W (.fld H.LTX_GO_HELD)) (a0 : Nat) (h : Moves W s₀ s) :
    Moves W s₀ (Sys2Proof.Machine.Ltx.writeCdpreCtrl a0 s) := by
  unfold Sys2Proof.Machine.Ltx.writeCdpreCtrl
  repeat' (first
    | with_reducible assumption
    | with_reducible apply Moves.put
    | with_reducible apply Ltx_cdpreGo_moves
    | intro _
    | split
    | (extract_lets +onlyGivenNames x; first
      | (refine Moves.keep (W := W) (s₀ := s₀) x ?_ ?_; rotate_left; intro hx; clear_value x; rotate_right)
      | (refine Moves.keep (W := W) (s₀ := s₀) x.2 ?_ ?_; rotate_left; intro hx; clear_value x; rotate_right)
      | (refine Moves.keep (W := W) (s₀ := s₀) x.1 ?_ ?_; rotate_left; intro hx; clear_value x; rotate_right)
      | skip))

theorem Ltx_writeSkew_moves {W : Part → Prop} {s₀ s : State} (h0 : W (.fld F.LTX_SKEW_SKEW)) (h1 : W (.fld F.LTX_STAT_SKEW_SLEW)) (a0 : Nat) (a1 : Nat) (h : Moves W s₀ s) :
    Moves W s₀ (Sys2Proof.Machine.Ltx.writeSkew a0 a1 s) := by
  unfold Sys2Proof.Machine.Ltx.writeSkew
  repeat' (first
    | with_reducible assumption
    | with_reducible apply Moves.clr
    | with_reducible apply Moves.put
    | with_reducible apply Moves.set
    | intro _
    | split
    | (extract_lets +onlyGivenNames x; first
      | (refine Moves.keep (W := W) (s₀ := s₀) x ?_ ?_; rotate_left; intro hx; clear_value x; rotate_right)
      | (refine Moves.keep (W := W) (s₀ := s₀) x.2 ?_ ?_; rotate_left; intro hx; clear_value x; rotate_right)
      | (refine Moves.keep (W := W) (s₀ := s₀) x.1 ?_ ?_; rotate_left; intro hx; clear_value x; rotate_right)
      | skip))

theorem Ltx_skewBlocks_moves {W : Part → Prop} {s₀ s : State} (h0 : W (.fld F.LTX_STAT_SKEW_SLEW)) (h1 : W (.fld H.LTX_SKEW_NOW)) (a0 : Nat) (h : Moves W s₀ s) :
    Moves W s₀ (Sys2Proof.Machine.Ltx.skewBlocks a0 s) := by
  unfold Sys2Proof.Machine.Ltx.skewBlocks
  repeat' (first
    | with_reducible assumption
    | with_reducible apply Moves.clr
    | with_reducible apply Moves.each
    | with_reducible apply Moves.sput
    | intro _
    | split
    | (extract_lets +onlyGivenNames x; first
      | (refine Moves.keep (W := W) (s₀ := s₀) x ?_ ?_; rotate_left; intro hx; clear_value x; rotate_right)
      | (refine Moves.keep (W := W) (s₀ := s₀) x.2 ?_ ?_; rotate_left; intro hx; clear_value x; rotate_right)
      | (refine Moves.keep (W := W) (s₀ := s₀) x.1 ?_ ?_; rotate_left; intro hx; clear_value x; rotate_right)
      | skip))

theorem Ltx_peqApply_moves {W : Part → Prop} {s₀ s : State} (h0 : W (.fld F.LTX_PEQ_TAP)) (h1 : W (.fld F.LTX_STAT_PEQ_PENDING)) (h2 : W (.fld H.LTX_PEQ_ACTIVE)) (h : Moves W s₀ s) :
    Moves W s₀ (Sys2Proof.Machine.Ltx.peqApply s) := by
  unfold Sys2Proof.Machine.Ltx.peqApply
  repeat' (first
    | with_reducible assumption
    | with_reducible apply Moves.clr
    | with_reducible apply Moves.each
    | with_reducible apply Moves.put
    | intro _
    | split
    | (extract_lets +onlyGivenNames x; first
      | (refine Moves.keep (W := W) (s₀ := s₀) x ?_ ?_; rotate_left; intro hx; clear_value x; rotate_right)
      | (refine Moves.keep (W := W) (s₀ := s₀) x.2 ?_ ?_; rotate_left; intro hx; clear_value x; rotate_right)
      | (refine Moves.keep (W := W) (s₀ := s₀) x.1 ?_ ?_; rotate_left; intro hx; clear_value x; rotate_right)
      | skip))

theorem Ltx_pdApply_moves {W : Part → Prop} {s₀ s : State} (h0 : W (.fld F.LTX_PD_LUT_Y)) (h1 : W (.fld F.LTX_STAT_PD_PENDING)) (h2 : W (.fld H.LTX_PD_ACTIVE)) (h : Moves W s₀ s) :
    Moves W s₀ (Sys2Proof.Machine.Ltx.pdApply s) := by
  unfold Sys2Proof.Machine.Ltx.pdApply
  repeat' (first
    | with_reducible assumption
    | with_reducible apply Moves.clr
    | with_reducible apply Moves.each
    | with_reducible apply Moves.put
    | intro _
    | split
    | (extract_lets +onlyGivenNames x; first
      | (refine Moves.keep (W := W) (s₀ := s₀) x ?_ ?_; rotate_left; intro hx; clear_value x; rotate_right)
      | (refine Moves.keep (W := W) (s₀ := s₀) x.2 ?_ ?_; rotate_left; intro hx; clear_value x; rotate_right)
      | (refine Moves.keep (W := W) (s₀ := s₀) x.1 ?_ ?_; rotate_left; intro hx; clear_value x; rotate_right)
      | skip))

theorem Ltx_peqRequest_moves {W : Part → Prop} {s₀ s : State} (h0 : W (.fld F.LTX_STAT_PEQ_PENDING)) (h : Moves W s₀ s) :
    Moves W s₀ (Sys2Proof.Machine.Ltx.peqRequest s) := by
  unfold Sys2Proof.Machine.Ltx.peqRequest
  repeat' (first
    | with_reducible assumption
    | with_reducible apply Moves.set
    | intro _)

theorem Ltx_pdRequest_moves {W : Part → Prop} {s₀ s : State} (h0 : W (.fld F.LTX_STAT_PD_PENDING)) (h : Moves W s₀ s) :
    Moves W s₀ (Sys2Proof.Machine.Ltx.pdRequest s) := by
  unfold Sys2Proof.Machine.Ltx.pdRequest
  repeat' (first
    | with_reducible assumption
    | with_reducible apply Moves.set
    | intro _)

theorem Ltx_writeCtrl_moves {W : Part → Prop} {s₀ s : State} (h0 : W (.fld F.CVT_DAC_STAT_MAP_ERR)) (h1 : W (.fld F.LTX_CTRL_EN)) (h2 : W (.fld F.LTX_CTRL_MUTE)) (h3 : W (.fld F.LTX_INT_CAUSE_CFG_ERR)) (h4 : W (.fld F.LTX_INT_CAUSE_LOAD_CANCELLED)) (h5 : W (.fld F.LTX_STAT_ACTIVE)) (h6 : W (.fld F.LTX_STAT_ANNOUNCED)) (h7 : W (.fld F.LTX_STAT_CFG_STEP)) (h8 : W (.fld F.LTX_STAT_MUTE_SRC)) (h9 : W (.fld F.LTX_STAT_PD_PENDING)) (h10 : W (.fld F.LTX_STAT_PEQ_PENDING)) (h11 : W (.fld F.LTX_STAT_SHADOW_READY)) (h12 : W (.fld F.PWR_AVS_READ_BUSY)) (h13 : W (.fld F.PWR_VMIN_VMIN_MV)) (h14 : W (.fld F.PWR_VMIN_VREQ_MV)) (h15 : W (.fld F.SCM_CHG_STAT_DS_STATE)) (h16 : W (.fld H.FEC_TX_POS)) (h17 : W (.fld H.FRM_CF_DUE)) (h18 : W (.fld H.LTX_OFS_NOW)) (h19 : W (.fld H.LTX_OUTPUT)) (h20 : W (.fld H.LTX_SWAP_DUE)) (h21 : W (.fld H.PEER_MUTE_WAS)) (h22 : W (.fld H.PWR_HOLD_TX)) (h23 : W (.fld H.PWR_TARGET)) (h24 : W (.fld H.PWR_VMIN_ASKED)) (h25 : W (.fld H.PWR_VMIN_FAILED)) (h26 : W (.fld H.PWR_VMIN_WAITS)) (a0 : Nat) (h : Moves W s₀ s) :
    Moves W s₀ (Sys2Proof.Machine.Ltx.writeCtrl a0 s) := by
  unfold Sys2Proof.Machine.Ltx.writeCtrl
  repeat' (first
    | with_reducible assumption
    | with_reducible apply Moves.when
    | with_reducible apply Ltx_hostMute_moves
    | with_reducible apply Ltx_peqRequest_moves
    | with_reducible apply Ltx_pdRequest_moves
    | with_reducible apply Ltx_enable_moves
    | with_reducible apply Ltx_disable_moves
    | intro _
    | split
    | (extract_lets +onlyGivenNames x; first
      | (refine Moves.keep (W := W) (s₀ := s₀) x ?_ ?_; rotate_left; intro hx; clear_value x; rotate_right)
      | (refine Moves.keep (W := W) (s₀ := s₀) x.2 ?_ ?_; rotate_left; intro hx; clear_value x; rotate_right)
      | (refine Moves.keep (W := W) (s₀ := s₀) x.1 ?_ ?_; rotate_left; intro hx; clear_value x; rotate_right)
      | skip))

theorem Ltx_clip_moves {W : Part → Prop} {s₀ s : State} (h0 : W (.fld F.LTX_CLIP_CNT_COUNT)) (h1 : W (.fld F.LTX_INT_CAUSE_CLIP)) (a0 : Nat) (a1 : Nat) (h : Moves W s₀ s) :
    Moves W s₀ (Sys2Proof.Machine.Ltx.clip a0 a1 s) := by
  unfold Sys2Proof.Machine.Ltx.clip
  repeat' (first
    | with_reducible assumption
    | with_reducible apply Moves.count
    | with_reducible apply Moves.set
    | intro _
    | split)

end Sys2Proof.Laws
end

