-- ==== Sys2Proof/Laws/MovesVlkBase.lean ====
section
/-! SUPPORT. Sys2Proof/Laws/MovesVlkBase.lean: what each operation of Machine/VlkBase.lean may write (Laws/Moves.lean). -/
namespace Sys2Proof.Laws
open Sys2Proof Sys2Proof.Machine

theorem Vlk_send_moves {W : Part → Prop} {s₀ s : State} (h0 : W .vlk) (h1 : W (.fld H.VLK_SEQ)) (a0 : Nat) (a1 : Nat) (a2 : Nat) (a3 : Bool) (a4 : Bool) (a5 : List Nat) (h : Moves W s₀ s) :
    Moves W s₀ (Sys2Proof.Machine.Vlk.send a0 a1 a2 a3 a4 a5 s) := by
  unfold Sys2Proof.Machine.Vlk.send
  repeat' (first
    | with_reducible assumption
    | with_reducible apply Moves.put
    | intro _
    | (extract_lets +onlyGivenNames x; first
      | (refine Moves.keep (W := W) (s₀ := s₀) x ?_ ?_; rotate_left; intro hx; clear_value x; rotate_right)
      | (refine Moves.keep (W := W) (s₀ := s₀) x.2 ?_ ?_; rotate_left; intro hx; clear_value x; rotate_right)
      | (refine Moves.keep (W := W) (s₀ := s₀) x.1 ?_ ?_; rotate_left; intro hx; clear_value x; rotate_right)
      | skip)
    | (with_reducible refine Moves.vlk _ ?_ ?_ <;> with_reducible first
      | assumption
      | apply Moves.put))

theorem Vlk_toLeaf_moves {W : Part → Prop} {s₀ s : State} (h0 : W .vlk) (h1 : W (.fld H.VLK_SEQ)) (a0 : Nat) (a1 : Nat) (a2 : Bool) (a3 : Bool) (a4 : List Nat) (h : Moves W s₀ s) :
    Moves W s₀ (Sys2Proof.Machine.Vlk.toLeaf a0 a1 a2 a3 a4 s) := by
  unfold Sys2Proof.Machine.Vlk.toLeaf
  repeat' (first
    | with_reducible assumption
    | with_reducible apply Vlk_send_moves
    | intro _)

theorem Vlk_toHub_moves {W : Part → Prop} {s₀ s : State} (h0 : W .vlk) (h1 : W (.fld H.VLK_SEQ)) (a0 : Nat) (a1 : Bool) (a2 : List Nat) (h : Moves W s₀ s) :
    Moves W s₀ (Sys2Proof.Machine.Vlk.toHub a0 a1 a2 s) := by
  unfold Sys2Proof.Machine.Vlk.toHub
  repeat' (first
    | with_reducible assumption
    | with_reducible apply Vlk_send_moves
    | intro _)

theorem Vlk_ringPush_moves {W : Part → Prop} {s₀ s : State} (h0 : W .vlk) (h1 : W (.fld F.VLK_INT_CAUSE_RX_AVAIL)) (h2 : W (.fld F.VLK_RXSTAT_COUNT)) (h3 : W (.fld F.VLK_RX_DROP_CNT_COUNT)) (a0 : List Nat) (h : Moves W s₀ s) :
    Moves W s₀ (Sys2Proof.Machine.Vlk.ringPush a0 s).2 := by
  unfold Sys2Proof.Machine.Vlk.ringPush
  repeat' (first
    | with_reducible assumption
    | with_reducible apply Moves.count
    | with_reducible apply Moves.put
    | with_reducible apply Moves.set
    | intro _
    | split
    | (extract_lets +onlyGivenNames x; first
      | (refine Moves.keep (W := W) (s₀ := s₀) x ?_ ?_; rotate_left; intro hx; clear_value x; rotate_right)
      | (refine Moves.keep (W := W) (s₀ := s₀) x.2 ?_ ?_; rotate_left; intro hx; clear_value x; rotate_right)
      | (refine Moves.keep (W := W) (s₀ := s₀) x.1 ?_ ?_; rotate_left; intro hx; clear_value x; rotate_right)
      | skip)
    | (with_reducible refine Moves.vlk _ ?_ ?_ <;> with_reducible first
      | assumption
      | apply Moves.count
      | apply Moves.put
      | apply Moves.set))

theorem Vlk_ringPop_moves {W : Part → Prop} {s₀ s : State} (h0 : W .vlk) (h1 : W (.fld F.VLK_RXSTAT_COUNT)) (h : Moves W s₀ s) :
    Moves W s₀ (Sys2Proof.Machine.Vlk.ringPop s) := by
  unfold Sys2Proof.Machine.Vlk.ringPop
  repeat' (first
    | with_reducible assumption
    | with_reducible apply Moves.put
    | intro _
    | (extract_lets +onlyGivenNames x; first
      | (refine Moves.keep (W := W) (s₀ := s₀) x ?_ ?_; rotate_left; intro hx; clear_value x; rotate_right)
      | (refine Moves.keep (W := W) (s₀ := s₀) x.2 ?_ ?_; rotate_left; intro hx; clear_value x; rotate_right)
      | (refine Moves.keep (W := W) (s₀ := s₀) x.1 ?_ ?_; rotate_left; intro hx; clear_value x; rotate_right)
      | skip)
    | (with_reducible refine Moves.vlk _ ?_ ?_ <;> with_reducible first
      | assumption
      | apply Moves.put))

theorem Vlk_remember_moves {W : Part → Prop} {s₀ s : State} (h0 : W .vlk) (a0 : Nat) (a1 : Nat) (a2 : Nat) (h : Moves W s₀ s) :
    Moves W s₀ (Sys2Proof.Machine.Vlk.remember a0 a1 a2 s) := by
  unfold Sys2Proof.Machine.Vlk.remember
  repeat' (first
    | with_reducible assumption
    | intro _
    | (extract_lets +onlyGivenNames x; first
      | (refine Moves.keep (W := W) (s₀ := s₀) x ?_ ?_; rotate_left; intro hx; clear_value x; rotate_right)
      | (refine Moves.keep (W := W) (s₀ := s₀) x.2 ?_ ?_; rotate_left; intro hx; clear_value x; rotate_right)
      | (refine Moves.keep (W := W) (s₀ := s₀) x.1 ?_ ?_; rotate_left; intro hx; clear_value x; rotate_right)
      | skip)
    | (with_reducible refine Moves.vlk _ ?_ ?_ <;> with_reducible first
      | assumption))

theorem Vlk_ack_moves {W : Part → Prop} {s₀ s : State} (h0 : W .vlk) (h1 : W (.fld H.VLK_SEQ)) (a0 : Nat) (a1 : Nat) (a2 : Nat) (h : Moves W s₀ s) :
    Moves W s₀ (Sys2Proof.Machine.Vlk.ack a0 a1 a2 s) := by
  unfold Sys2Proof.Machine.Vlk.ack
  repeat' (first
    | with_reducible assumption
    | with_reducible apply Vlk_toHub_moves
    | with_reducible apply Vlk_toLeaf_moves
    | intro _
    | split)

theorem Vlk_receive_moves {W : Part → Prop} {s₀ s : State} (h0 : W .vlk) (h1 : W (.fld H.VLK_SEQ)) (a0 : Nat) (a1 : Nat) (a2 : Bool) (a3 : Bool) (a4 : Sys2Proof.Machine.State → Sys2Proof.Machine.State × Option Nat) (hf4 : ∀ b0, Moves W s₀ b0 → Moves W s₀ (a4 b0).1) (h : Moves W s₀ s) :
    Moves W s₀ (Sys2Proof.Machine.Vlk.receive a0 a1 a2 a3 a4 s) := by
  unfold Sys2Proof.Machine.Vlk.receive
  repeat' (first
    | with_reducible assumption
    | with_reducible apply Vlk_ack_moves
    | with_reducible apply Vlk_remember_moves
    | with_reducible apply hf4
    | intro _
    | split
    | (extract_lets +onlyGivenNames x; first
      | (refine Moves.keep (W := W) (s₀ := s₀) x ?_ ?_; rotate_left; intro hx; clear_value x; rotate_right)
      | (refine Moves.keep (W := W) (s₀ := s₀) x.2 ?_ ?_; rotate_left; intro hx; clear_value x; rotate_right)
      | (refine Moves.keep (W := W) (s₀ := s₀) x.1 ?_ ?_; rotate_left; intro hx; clear_value x; rotate_right)
      | skip))

theorem Vlk_acked_moves {W : Part → Prop} {s₀ s : State} (h0 : W .vlk) (a0 : Nat) (a1 : Nat) (h : Moves W s₀ s) :
    Moves W s₀ (Sys2Proof.Machine.Vlk.acked a0 a1 s) := by
  unfold Sys2Proof.Machine.Vlk.acked
  repeat' (first
    | with_reducible assumption
    | intro _
    | (extract_lets +onlyGivenNames x; first
      | (refine Moves.keep (W := W) (s₀ := s₀) x ?_ ?_; rotate_left; intro hx; clear_value x; rotate_right)
      | (refine Moves.keep (W := W) (s₀ := s₀) x.2 ?_ ?_; rotate_left; intro hx; clear_value x; rotate_right)
      | (refine Moves.keep (W := W) (s₀ := s₀) x.1 ?_ ?_; rotate_left; intro hx; clear_value x; rotate_right)
      | skip)
    | (with_reducible refine Moves.vlk _ ?_ ?_ <;> with_reducible first
      | assumption))

theorem Vlk_retx_moves {W : Part → Prop} {s₀ s : State} (h0 : W .vlk) (h1 : W (.fld F.VLK_INT_CAUSE_RETX_FAIL)) (h2 : W (.fld F.VLK_RETX_CNT_COUNT)) (h3 : W (.fld F.VLK_STAT_LAST_LEAF)) (a0 : Nat) (a1 : Nat) (h : Moves W s₀ s) :
    Moves W s₀ (Sys2Proof.Machine.Vlk.retx a0 a1 s) := by
  unfold Sys2Proof.Machine.Vlk.retx
  repeat' (first
    | with_reducible assumption
    | with_reducible apply Moves.count
    | with_reducible apply Moves.put
    | with_reducible apply Moves.set
    | intro _
    | split
    | (extract_lets +onlyGivenNames x; first
      | (refine Moves.keep (W := W) (s₀ := s₀) x ?_ ?_; rotate_left; intro hx; clear_value x; rotate_right)
      | (refine Moves.keep (W := W) (s₀ := s₀) x.2 ?_ ?_; rotate_left; intro hx; clear_value x; rotate_right)
      | (refine Moves.keep (W := W) (s₀ := s₀) x.1 ?_ ?_; rotate_left; intro hx; clear_value x; rotate_right)
      | skip)
    | (with_reducible refine Moves.vlk _ ?_ ?_ <;> with_reducible first
      | assumption
      | apply Moves.count
      | apply Moves.put
      | apply Moves.set))

theorem Vlk_await_moves {W : Part → Prop} {s₀ s : State} (h0 : W .vlk) (a0 : Sys2Proof.Machine.VMsg) (h : Moves W s₀ s) :
    Moves W s₀ (Sys2Proof.Machine.Vlk.await a0 s) := by
  unfold Sys2Proof.Machine.Vlk.await
  repeat' (first
    | with_reducible assumption
    | intro _
    | split
    | (extract_lets +onlyGivenNames x; first
      | (refine Moves.keep (W := W) (s₀ := s₀) x ?_ ?_; rotate_left; intro hx; clear_value x; rotate_right)
      | (refine Moves.keep (W := W) (s₀ := s₀) x.2 ?_ ?_; rotate_left; intro hx; clear_value x; rotate_right)
      | (refine Moves.keep (W := W) (s₀ := s₀) x.1 ?_ ?_; rotate_left; intro hx; clear_value x; rotate_right)
      | skip)
    | (with_reducible refine Moves.vlk _ ?_ ?_ <;> with_reducible first
      | assumption))

theorem Vlk_spread_moves {W : Part → Prop} {s₀ s : State} (h0 : W .vlk) (a0 : List Nat) (h : Moves W s₀ s) :
    Moves W s₀ (Sys2Proof.Machine.Vlk.spread a0 s) := by
  unfold Sys2Proof.Machine.Vlk.spread
  repeat' (first
    | with_reducible assumption
    | intro _
    | split
    | (extract_lets +onlyGivenNames x; first
      | (refine Moves.keep (W := W) (s₀ := s₀) x ?_ ?_; rotate_left; intro hx; clear_value x; rotate_right)
      | (refine Moves.keep (W := W) (s₀ := s₀) x.2 ?_ ?_; rotate_left; intro hx; clear_value x; rotate_right)
      | (refine Moves.keep (W := W) (s₀ := s₀) x.1 ?_ ?_; rotate_left; intro hx; clear_value x; rotate_right)
      | skip)
    | (with_reducible refine Moves.vlk _ ?_ ?_ <;> with_reducible first
      | assumption))

theorem Vlk_age_moves {W : Part → Prop} {s₀ s : State} (h0 : W .vlk) (h : Moves W s₀ s) :
    Moves W s₀ (Sys2Proof.Machine.Vlk.age s) := by
  unfold Sys2Proof.Machine.Vlk.age
  repeat' (first
    | with_reducible assumption
    | intro _
    | (extract_lets +onlyGivenNames x; first
      | (refine Moves.keep (W := W) (s₀ := s₀) x ?_ ?_; rotate_left; intro hx; clear_value x; rotate_right)
      | (refine Moves.keep (W := W) (s₀ := s₀) x.2 ?_ ?_; rotate_left; intro hx; clear_value x; rotate_right)
      | (refine Moves.keep (W := W) (s₀ := s₀) x.1 ?_ ?_; rotate_left; intro hx; clear_value x; rotate_right)
      | skip)
    | (with_reducible refine Moves.vlk _ ?_ ?_ <;> with_reducible first
      | assumption))

theorem Vlk_fetch_moves {W : Part → Prop} {s₀ s : State} (h0 : W .vlk) (h1 : W (.fld H.VLK_RR)) (a0 : Sys2Proof.Machine.VMsg → Bool) (a1 : Nat) (a2 : Nat) (h : Moves W s₀ s) :
    Moves W s₀ (Sys2Proof.Machine.Vlk.fetch a0 a1 a2 s).2 := by
  unfold Sys2Proof.Machine.Vlk.fetch
  repeat' (first
    | with_reducible assumption
    | with_reducible apply Moves.eachOf
    | with_reducible apply Moves.put
    | with_reducible apply Vlk_await_moves
    | intro _
    | split
    | (extract_lets +onlyGivenNames x; first
      | (refine Moves.keep (W := W) (s₀ := s₀) x ?_ ?_; rotate_left; intro hx; clear_value x; rotate_right)
      | (refine Moves.keep (W := W) (s₀ := s₀) x.2 ?_ ?_; rotate_left; intro hx; clear_value x; rotate_right)
      | (refine Moves.keep (W := W) (s₀ := s₀) x.1 ?_ ?_; rotate_left; intro hx; clear_value x; rotate_right)
      | skip)
    | (with_reducible refine Moves.vlk _ ?_ ?_ <;> with_reducible first
      | assumption
      | apply Moves.eachOf
      | apply Moves.put
      | apply Vlk_await_moves))

theorem Vlk_vdfSend_moves {W : Part → Prop} {s₀ s : State} (h0 : W .vlk) (h1 : W (.fld H.VLK_RR)) (a0 : Nat) (h : Moves W s₀ s) :
    Moves W s₀ (Sys2Proof.Machine.Vlk.vdfSend a0 s) := by
  unfold Sys2Proof.Machine.Vlk.vdfSend
  repeat' (first
    | with_reducible assumption
    | with_reducible apply Moves.emit
    | with_reducible apply Vlk_fetch_moves
    | intro _
    | (extract_lets +onlyGivenNames x; first
      | (refine Moves.keep (W := W) (s₀ := s₀) x ?_ ?_; rotate_left; intro hx; clear_value x; rotate_right)
      | (refine Moves.keep (W := W) (s₀ := s₀) x.2 ?_ ?_; rotate_left; intro hx; clear_value x; rotate_right)
      | (refine Moves.keep (W := W) (s₀ := s₀) x.1 ?_ ?_; rotate_left; intro hx; clear_value x; rotate_right)
      | skip))

end Sys2Proof.Laws
end

