-- ==== Sys2Proof/Laws/MovesScm.lean ====
section
/-! SUPPORT. Sys2Proof/Laws/MovesScm.lean: what each operation of Machine/Scm.lean may write (Laws/Moves.lean). -/
namespace Sys2Proof.Laws
open Sys2Proof Sys2Proof.Machine

theorem Scm_auto_in {W : Part → Prop} (d : Nat) (h0 : W (.fld F.SCM_CTRL_AUTO_DS)) (h1 : W (.fld F.SCM_CTRL_AUTO_US)) : W (.fld (Scm.auto d)) := by
  unfold Scm.auto
  split <;> assumption

theorem Scm_margin_in {W : Part → Prop} (d : Nat) (h0 : W (.fld F.SCM_LOAD_CFG_MARGIN_DS)) (h1 : W (.fld F.SCM_LOAD_CFG_MARGIN_US)) : W (.fld (Scm.margin d)) := by
  unfold Scm.margin
  split <;> assumption

theorem Scm_nextTab_in {W : Part → Prop} (d : Nat) (h0 : W (.fld F.SCM_DS_NEXT_ENTRY)) (h1 : W (.fld F.SCM_US_NEXT_ENTRY)) : W (.fld (Scm.nextTab d)) := by
  unfold Scm.nextTab
  split <;> assumption

theorem Scm_chState_in {W : Part → Prop} (d : Nat) (h0 : W (.fld F.SCM_CHG_STAT_DS_STATE)) (h1 : W (.fld F.SCM_CHG_STAT_US_STATE)) : W (.fld (Scm.chState d)) := by
  unfold Scm.chState
  split <;> assumption

theorem Scm_chVer_in {W : Part → Prop} (d : Nat) (h0 : W (.fld F.SCM_CHG_STAT_DS_VER)) (h1 : W (.fld F.SCM_CHG_STAT_US_VER)) : W (.fld (Scm.chVer d)) := by
  unfold Scm.chVer
  split <;> assumption

theorem Scm_stale_in {W : Part → Prop} (d : Nat) (h0 : W (.fld F.SCM_SC_FLAG_STALE)) (h1 : W (.fld F.SCM_SC_FLAG_US_STALE)) : W (.fld (Scm.stale d)) := by
  unfold Scm.stale
  split <;> assumption

theorem Scm_short_in {W : Part → Prop} (d : Nat) (h0 : W (.fld F.SCM_SC_FLAG_SHORT)) (h1 : W (.fld F.SCM_SC_FLAG_US_SHORT)) : W (.fld (Scm.short d)) := by
  unfold Scm.short
  split <;> assumption

theorem Scm_overField_in {W : Part → Prop} (d : Nat) (h0 : W (.fld F.SCM_SC_FLAG_OVER)) (h1 : W (.fld F.SCM_SC_FLAG_US_OVER)) : W (.fld (Scm.overField d)) := by
  unfold Scm.overField
  split <;> assumption

theorem Scm_active_in {W : Part → Prop} (s : State) (d : Nat) (h0 : W (.fld H.LTX_ACTIVE)) (h1 : W (.fld H.LRX_ACTIVE)) :
    W (.fld (Scm.active s d)) := by
  unfold Scm.active
  split <;> assumption

theorem Scm_writeBank_moves {W : Part → Prop} {s₀ s : State} (h0 : W (.fld F.LRX_INT_CAUSE_SHADOW_LOCKED)) (h1 : W (.fld F.LRX_INT_CAUSE_TABLE_ERR)) (h2 : W (.fld F.LRX_STAT_ERR_SC)) (h3 : W (.fld F.LRX_STAT_SHADOW_READY)) (h4 : W (.fld F.LTX_INT_CAUSE_SHADOW_LOCKED)) (h5 : W (.fld F.LTX_INT_CAUSE_TABLE_ERR)) (h6 : W (.fld F.LTX_STAT_ERR_SC)) (h7 : W (.fld F.LTX_STAT_SHADOW_READY)) (h8 : W (.fld H.LRX_SHADOW)) (h9 : W (.fld H.LRX_SHADOW_VER)) (h10 : W (.fld H.LTX_SHADOW)) (h11 : W (.fld H.LTX_SHADOW_VER)) (a0 : Nat) (a1 : Nat) (a2 : List (Nat × Nat)) (h : Moves W s₀ s) :
    Moves W s₀ (Sys2Proof.Machine.Scm.writeBank a0 a1 a2 s) := by
  unfold Sys2Proof.Machine.Scm.writeBank
  repeat' (first
    | with_reducible assumption
    | with_reducible apply Ltx_writeShadow_moves
    | with_reducible apply Lrx_writeShadow_moves
    | intro _
    | split)

theorem Scm_announceBank_moves {W : Part → Prop} {s₀ s : State} (h0 : W (.fld F.LRX_STAT_ANNOUNCED)) (h1 : W (.fld F.LTX_STAT_ANNOUNCED)) (h2 : W (.fld H.LRX_SWAP_DUE)) (h3 : W (.fld H.LRX_SWAP_MF)) (h4 : W (.fld H.LTX_SWAP_DUE)) (h5 : W (.fld H.LTX_SWAP_MF)) (a0 : Nat) (a1 : Nat) (h : Moves W s₀ s) :
    Moves W s₀ (Sys2Proof.Machine.Scm.announceBank a0 a1 s) := by
  unfold Sys2Proof.Machine.Scm.announceBank
  repeat' (first
    | with_reducible assumption
    | with_reducible apply Ltx_announce_moves
    | with_reducible apply Lrx_announce_moves
    | intro _
    | split)

theorem Scm_sendTable_moves {W : Part → Prop} {s₀ s : State} (h0 : W .vlk) (h1 : W (.fld H.VLK_SEQ)) (a0 : Nat) (a1 : Nat) (a2 : Nat) (a3 : Bool) (a4 : Nat → Nat) (h : Moves W s₀ s) :
    Moves W s₀ (Sys2Proof.Machine.Scm.sendTable a0 a1 a2 a3 a4 s) := by
  unfold Sys2Proof.Machine.Scm.sendTable
  repeat' (first
    | with_reducible assumption
    | with_reducible apply Vlk_toLeaf_moves
    | intro _
    | (extract_lets +onlyGivenNames x; first
      | (refine Moves.keep (W := W) (s₀ := s₀) x ?_ ?_; rotate_left; intro hx; clear_value x; rotate_right)
      | (refine Moves.keep (W := W) (s₀ := s₀) x.2 ?_ ?_; rotate_left; intro hx; clear_value x; rotate_right)
      | (refine Moves.keep (W := W) (s₀ := s₀) x.1 ?_ ?_; rotate_left; intro hx; clear_value x; rotate_right)
      | skip))

theorem Scm_drop_moves {W : Part → Prop} {s₀ s : State} (h0 : W .vlk) (h1 : W (.fld F.SCM_CHG_STAT_DS_STATE)) (h2 : W (.fld F.SCM_CHG_STAT_US_STATE)) (h3 : W (.fld H.SCM_ACKED)) (h4 : W (.fld H.SCM_ADDRESSED)) (h5 : W (.fld H.VLK_SEQ)) (a0 : Nat) (h : Moves W s₀ s) :
    Moves W s₀ (Sys2Proof.Machine.Scm.drop a0 s) := by
  unfold Sys2Proof.Machine.Scm.drop
  repeat' (first
    | with_reducible assumption
    | with_reducible apply Moves.clr
    | with_reducible apply Moves.each
    | with_reducible apply Moves.eachOf
    | with_reducible apply Vlk_toLeaf_moves
    | with_reducible apply Scm_chState_in
    | intro _
    | (extract_lets +onlyGivenNames x; first
      | (refine Moves.keep (W := W) (s₀ := s₀) x ?_ ?_; rotate_left; intro hx; clear_value x; rotate_right)
      | (refine Moves.keep (W := W) (s₀ := s₀) x.2 ?_ ?_; rotate_left; intro hx; clear_value x; rotate_right)
      | (refine Moves.keep (W := W) (s₀ := s₀) x.1 ?_ ?_; rotate_left; intro hx; clear_value x; rotate_right)
      | skip))

theorem Scm_abandon_moves {W : Part → Prop} {s₀ s : State} (h0 : W .vlk) (h1 : W (.fld F.SCM_CHG_STAT_DS_STATE)) (h2 : W (.fld F.SCM_CHG_STAT_US_STATE)) (h3 : W (.fld F.SCM_INT_CAUSE_CHG_FAIL)) (h4 : W (.fld F.SCM_NAK_MAP_LEAF)) (h5 : W (.fld H.SCM_ACKED)) (h6 : W (.fld H.SCM_ADDRESSED)) (h7 : W (.fld H.VLK_SEQ)) (a0 : Nat) (a1 : List Nat) (h : Moves W s₀ s) :
    Moves W s₀ (Sys2Proof.Machine.Scm.abandon a0 a1 s) := by
  unfold Sys2Proof.Machine.Scm.abandon
  repeat' (first
    | with_reducible assumption
    | with_reducible apply Moves.eachOf
    | with_reducible apply Moves.set
    | with_reducible apply Moves.setBit
    | with_reducible apply Scm_drop_moves
    | intro _
    | (extract_lets +onlyGivenNames x; first
      | (refine Moves.keep (W := W) (s₀ := s₀) x ?_ ?_; rotate_left; intro hx; clear_value x; rotate_right)
      | (refine Moves.keep (W := W) (s₀ := s₀) x.2 ?_ ?_; rotate_left; intro hx; clear_value x; rotate_right)
      | (refine Moves.keep (W := W) (s₀ := s₀) x.1 ?_ ?_; rotate_left; intro hx; clear_value x; rotate_right)
      | skip))

theorem Scm_start_moves {W : Part → Prop} {s₀ s : State} (h0 : W .vlk) (h1 : W (.fld F.LRX_INT_CAUSE_SHADOW_LOCKED)) (h2 : W (.fld F.LRX_INT_CAUSE_TABLE_ERR)) (h3 : W (.fld F.LRX_STAT_ERR_SC)) (h4 : W (.fld F.LRX_STAT_SHADOW_READY)) (h5 : W (.fld F.LTX_INT_CAUSE_SHADOW_LOCKED)) (h6 : W (.fld F.LTX_INT_CAUSE_TABLE_ERR)) (h7 : W (.fld F.LTX_STAT_ERR_SC)) (h8 : W (.fld F.LTX_STAT_SHADOW_READY)) (h9 : W (.fld F.SCM_CHG_STAT_DS_STATE)) (h10 : W (.fld F.SCM_CHG_STAT_US_STATE)) (h11 : W (.fld F.SCM_INT_CAUSE_CHG_FAIL)) (h12 : W (.fld F.SCM_NAK_MAP_LEAF)) (h13 : W (.fld H.LRX_SHADOW)) (h14 : W (.fld H.LRX_SHADOW_VER)) (h15 : W (.fld H.LTX_SHADOW)) (h16 : W (.fld H.LTX_SHADOW_VER)) (h17 : W (.fld H.SCM_ACKED)) (h18 : W (.fld H.SCM_ADDRESSED)) (h19 : W (.fld H.SCM_LAST_VER)) (h20 : W (.fld H.SCM_START_MF)) (h21 : W (.fld H.VLK_SEQ)) (a0 : Nat) (a1 : Nat → Nat) (a2 : Nat) (h : Moves W s₀ s) :
    Moves W s₀ (Sys2Proof.Machine.Scm.start a0 a1 a2 s) := by
  unfold Sys2Proof.Machine.Scm.start
  repeat' (first
    | with_reducible assumption
    | with_reducible apply Moves.clr
    | with_reducible apply Moves.each
    | with_reducible apply Moves.put
    | with_reducible apply Moves.set
    | with_reducible apply Scm_chState_in
    | with_reducible apply Scm_writeBank_moves
    | with_reducible apply Scm_sendTable_moves
    | with_reducible apply Scm_abandon_moves
    | intro _
    | split
    | (extract_lets +onlyGivenNames x; first
      | (refine Moves.keep (W := W) (s₀ := s₀) x ?_ ?_; rotate_left; intro hx; clear_value x; rotate_right)
      | (refine Moves.keep (W := W) (s₀ := s₀) x.2 ?_ ?_; rotate_left; intro hx; clear_value x; rotate_right)
      | (refine Moves.keep (W := W) (s₀ := s₀) x.1 ?_ ?_; rotate_left; intro hx; clear_value x; rotate_right)
      | skip))

theorem Scm_commit_moves {W : Part → Prop} {s₀ s : State} (h0 : W .vlk) (h1 : W (.fld F.LRX_INT_CAUSE_SHADOW_LOCKED)) (h2 : W (.fld F.LRX_INT_CAUSE_TABLE_ERR)) (h3 : W (.fld F.LRX_STAT_ERR_SC)) (h4 : W (.fld F.LRX_STAT_SHADOW_READY)) (h5 : W (.fld F.LTX_INT_CAUSE_SHADOW_LOCKED)) (h6 : W (.fld F.LTX_INT_CAUSE_TABLE_ERR)) (h7 : W (.fld F.LTX_STAT_ERR_SC)) (h8 : W (.fld F.LTX_STAT_SHADOW_READY)) (h9 : W (.fld F.SCM_CHG_STAT_DS_STATE)) (h10 : W (.fld F.SCM_CHG_STAT_US_STATE)) (h11 : W (.fld F.SCM_INT_CAUSE_BUSY)) (h12 : W (.fld F.SCM_INT_CAUSE_CHG_FAIL)) (h13 : W (.fld F.SCM_NAK_MAP_LEAF)) (h14 : W (.fld F.SYS_INT_CAUSE_ROLE_LIMIT)) (h15 : W (.fld F.VLK_INT_CAUSE_GROUP_ERR)) (h16 : W (.fld H.LRX_SHADOW)) (h17 : W (.fld H.LRX_SHADOW_VER)) (h18 : W (.fld H.LTX_SHADOW)) (h19 : W (.fld H.LTX_SHADOW_VER)) (h20 : W (.fld H.SCM_ACKED)) (h21 : W (.fld H.SCM_ADDRESSED)) (h22 : W (.fld H.SCM_LAST_VER)) (h23 : W (.fld H.SCM_START_MF)) (h24 : W (.fld H.VLK_SEQ)) (a0 : Nat) (h : Moves W s₀ s) :
    Moves W s₀ (Sys2Proof.Machine.Scm.commit a0 s) := by
  unfold Sys2Proof.Machine.Scm.commit
  repeat' (first
    | with_reducible assumption
    | with_reducible apply Moves.set
    | with_reducible apply Scm_start_moves
    | intro _
    | split)

theorem Scm_abort_moves {W : Part → Prop} {s₀ s : State} (h0 : W .vlk) (h1 : W (.fld F.SCM_CHG_STAT_DS_STATE)) (h2 : W (.fld F.SCM_CHG_STAT_US_STATE)) (h3 : W (.fld F.SCM_INT_CAUSE_BUSY)) (h4 : W (.fld F.SYS_INT_CAUSE_ROLE_LIMIT)) (h5 : W (.fld H.SCM_ACKED)) (h6 : W (.fld H.SCM_ADDRESSED)) (h7 : W (.fld H.VLK_SEQ)) (a0 : Nat) (h : Moves W s₀ s) :
    Moves W s₀ (Sys2Proof.Machine.Scm.abort a0 s) := by
  unfold Sys2Proof.Machine.Scm.abort
  repeat' (first
    | with_reducible assumption
    | with_reducible apply Moves.set
    | with_reducible apply Scm_drop_moves
    | intro _
    | split)

theorem Scm_announce_moves {W : Part → Prop} {s₀ s : State} (h0 : W (.fld F.LRX_STAT_ANNOUNCED)) (h1 : W (.fld F.LTX_STAT_ANNOUNCED)) (h2 : W (.fld F.SCM_CHG_STAT_DS_STATE)) (h3 : W (.fld F.SCM_CHG_STAT_US_STATE)) (h4 : W (.fld H.LRX_SWAP_DUE)) (h5 : W (.fld H.LRX_SWAP_MF)) (h6 : W (.fld H.LTX_SWAP_DUE)) (h7 : W (.fld H.LTX_SWAP_MF)) (h8 : W (.fld H.SCM_M)) (a0 : Nat) (h : Moves W s₀ s) :
    Moves W s₀ (Sys2Proof.Machine.Scm.announce a0 s) := by
  unfold Sys2Proof.Machine.Scm.announce
  repeat' (first
    | with_reducible assumption
    | with_reducible apply Moves.put
    | with_reducible apply Scm_announceBank_moves
    | with_reducible apply Scm_chState_in
    | intro _
    | split
    | (extract_lets +onlyGivenNames x; first
      | (refine Moves.keep (W := W) (s₀ := s₀) x ?_ ?_; rotate_left; intro hx; clear_value x; rotate_right)
      | (refine Moves.keep (W := W) (s₀ := s₀) x.2 ?_ ?_; rotate_left; intro hx; clear_value x; rotate_right)
      | (refine Moves.keep (W := W) (s₀ := s₀) x.1 ?_ ?_; rotate_left; intro hx; clear_value x; rotate_right)
      | skip))

theorem Scm_ackTimeout_moves {W : Part → Prop} {s₀ s : State} (h0 : W .vlk) (h1 : W (.fld F.SCM_CHG_STAT_DS_STATE)) (h2 : W (.fld F.SCM_CHG_STAT_US_STATE)) (h3 : W (.fld F.SCM_INT_CAUSE_CHG_FAIL)) (h4 : W (.fld F.SCM_NAK_MAP_LEAF)) (h5 : W (.fld H.SCM_ACKED)) (h6 : W (.fld H.SCM_ADDRESSED)) (h7 : W (.fld H.VLK_SEQ)) (a0 : Nat) (h : Moves W s₀ s) :
    Moves W s₀ (Sys2Proof.Machine.Scm.ackTimeout a0 s) := by
  unfold Sys2Proof.Machine.Scm.ackTimeout
  repeat' (first
    | with_reducible assumption
    | with_reducible apply Scm_abandon_moves
    | intro _
    | split
    | (extract_lets +onlyGivenNames x; first
      | (refine Moves.keep (W := W) (s₀ := s₀) x ?_ ?_; rotate_left; intro hx; clear_value x; rotate_right)
      | (refine Moves.keep (W := W) (s₀ := s₀) x.2 ?_ ?_; rotate_left; intro hx; clear_value x; rotate_right)
      | (refine Moves.keep (W := W) (s₀ := s₀) x.1 ?_ ?_; rotate_left; intro hx; clear_value x; rotate_right)
      | skip))

theorem Scm_acked_moves {W : Part → Prop} {s₀ s : State} (h0 : W (.fld H.SCM_ACKED)) (a0 : Nat) (a1 : Nat) (a2 : Nat) (h : Moves W s₀ s) :
    Moves W s₀ (Sys2Proof.Machine.Scm.acked a0 a1 a2 s) := by
  unfold Sys2Proof.Machine.Scm.acked
  repeat' (first
    | with_reducible assumption
    | with_reducible apply Moves.set
    | intro _
    | split)

theorem Scm_nakked_moves {W : Part → Prop} {s₀ s : State} (h0 : W .vlk) (h1 : W (.fld F.SCM_CHG_STAT_DS_STATE)) (h2 : W (.fld F.SCM_CHG_STAT_US_STATE)) (h3 : W (.fld F.SCM_INT_CAUSE_CHG_FAIL)) (h4 : W (.fld F.SCM_NAK_MAP_LEAF)) (h5 : W (.fld H.SCM_ACKED)) (h6 : W (.fld H.SCM_ADDRESSED)) (h7 : W (.fld H.VLK_SEQ)) (a0 : Nat) (a1 : Nat) (a2 : Nat) (h : Moves W s₀ s) :
    Moves W s₀ (Sys2Proof.Machine.Scm.nakked a0 a1 a2 s) := by
  unfold Sys2Proof.Machine.Scm.nakked
  repeat' (first
    | with_reducible assumption
    | with_reducible apply Scm_abandon_moves
    | intro _
    | split)

theorem Scm_forget_moves {W : Part → Prop} {s₀ s : State} (h0 : W (.fld H.SCM_ADDRESSED)) (h1 : W (.fld H.SCM_GRANT_ADDR)) (a0 : Nat) (h : Moves W s₀ s) :
    Moves W s₀ (Sys2Proof.Machine.Scm.forget a0 s) := by
  unfold Sys2Proof.Machine.Scm.forget
  repeat' (first
    | with_reducible assumption
    | with_reducible apply Moves.clr
    | intro _)

theorem Scm_resend_moves {W : Part → Prop} {s₀ s : State} (h0 : W .vlk) (h1 : W (.fld F.LRX_INT_CAUSE_SHADOW_LOCKED)) (h2 : W (.fld F.LRX_INT_CAUSE_TABLE_ERR)) (h3 : W (.fld F.LRX_STAT_ERR_SC)) (h4 : W (.fld F.LRX_STAT_SHADOW_READY)) (h5 : W (.fld F.LTX_INT_CAUSE_SHADOW_LOCKED)) (h6 : W (.fld F.LTX_INT_CAUSE_TABLE_ERR)) (h7 : W (.fld F.LTX_STAT_ERR_SC)) (h8 : W (.fld F.LTX_STAT_SHADOW_READY)) (h9 : W (.fld F.SCM_CHG_STAT_DS_STATE)) (h10 : W (.fld F.SCM_CHG_STAT_US_STATE)) (h11 : W (.fld F.SCM_INT_CAUSE_CHG_FAIL)) (h12 : W (.fld F.SCM_NAK_MAP_LEAF)) (h13 : W (.fld H.LRX_SHADOW)) (h14 : W (.fld H.LRX_SHADOW_VER)) (h15 : W (.fld H.LTX_SHADOW)) (h16 : W (.fld H.LTX_SHADOW_VER)) (h17 : W (.fld H.SCM_ACKED)) (h18 : W (.fld H.SCM_ADDRESSED)) (h19 : W (.fld H.SCM_LAST_VER)) (h20 : W (.fld H.SCM_RESEND)) (h21 : W (.fld H.SCM_START_MF)) (h22 : W (.fld H.VLK_SEQ)) (a0 : Nat) (a1 : Nat) (h : Moves W s₀ s) :
    Moves W s₀ (Sys2Proof.Machine.Scm.resend a0 a1 s) := by
  unfold Sys2Proof.Machine.Scm.resend
  repeat' (first
    | with_reducible assumption
    | with_reducible apply Moves.clr
    | with_reducible apply Moves.put
    | with_reducible apply Scm_start_moves
    | intro _
    | split)

theorem Scm_resendDue_moves {W : Part → Prop} {s₀ s : State} (h0 : W .vlk) (h1 : W (.fld F.LRX_INT_CAUSE_SHADOW_LOCKED)) (h2 : W (.fld F.LRX_INT_CAUSE_TABLE_ERR)) (h3 : W (.fld F.LRX_STAT_ERR_SC)) (h4 : W (.fld F.LRX_STAT_SHADOW_READY)) (h5 : W (.fld F.LTX_INT_CAUSE_SHADOW_LOCKED)) (h6 : W (.fld F.LTX_INT_CAUSE_TABLE_ERR)) (h7 : W (.fld F.LTX_STAT_ERR_SC)) (h8 : W (.fld F.LTX_STAT_SHADOW_READY)) (h9 : W (.fld F.SCM_CHG_STAT_DS_STATE)) (h10 : W (.fld F.SCM_CHG_STAT_US_STATE)) (h11 : W (.fld F.SCM_INT_CAUSE_CHG_FAIL)) (h12 : W (.fld F.SCM_NAK_MAP_LEAF)) (h13 : W (.fld H.LRX_SHADOW)) (h14 : W (.fld H.LRX_SHADOW_VER)) (h15 : W (.fld H.LTX_SHADOW)) (h16 : W (.fld H.LTX_SHADOW_VER)) (h17 : W (.fld H.SCM_ACKED)) (h18 : W (.fld H.SCM_ADDRESSED)) (h19 : W (.fld H.SCM_LAST_VER)) (h20 : W (.fld H.SCM_RESEND)) (h21 : W (.fld H.SCM_START_MF)) (h22 : W (.fld H.VLK_SEQ)) (h : Moves W s₀ s) :
    Moves W s₀ (Sys2Proof.Machine.Scm.resendDue s) := by
  unfold Sys2Proof.Machine.Scm.resendDue
  repeat' (first
    | with_reducible assumption
    | with_reducible apply Moves.each
    | with_reducible apply Scm_resend_moves
    | intro _
    | split)

theorem Scm_swapped_moves {W : Part → Prop} {s₀ s : State} (h0 : W (.fld F.SCM_CHG_STAT_DS_STATE)) (h1 : W (.fld F.SCM_CHG_STAT_DS_VER)) (h2 : W (.fld F.SCM_CHG_STAT_US_STATE)) (h3 : W (.fld F.SCM_CHG_STAT_US_VER)) (h4 : W (.fld F.SCM_INT_CAUSE_SWAP)) (h5 : W (.fld F.SCM_SC_FLAG_OVER)) (h6 : W (.fld F.SCM_SC_FLAG_US_OVER)) (h7 : W (.fld H.SCM_ACKED)) (h8 : W (.fld H.SCM_ADDRESSED)) (h9 : W (.fld H.SCM_SWAPPED)) (h10 : W (.fld H.SCM_SWAP_MF)) (a0 : Nat) (a1 : Nat) (h : Moves W s₀ s) :
    Moves W s₀ (Sys2Proof.Machine.Scm.swapped a0 a1 s) := by
  unfold Sys2Proof.Machine.Scm.swapped
  repeat' (first
    | with_reducible assumption
    | with_reducible apply Moves.clr
    | with_reducible apply Moves.each
    | with_reducible apply Moves.put
    | with_reducible apply Moves.set
    | with_reducible apply Scm_chVer_in
    | with_reducible apply Scm_overField_in
    | with_reducible apply Scm_chState_in
    | intro _
    | split
    | (extract_lets +onlyGivenNames x; first
      | (refine Moves.keep (W := W) (s₀ := s₀) x ?_ ?_; rotate_left; intro hx; clear_value x; rotate_right)
      | (refine Moves.keep (W := W) (s₀ := s₀) x.2 ?_ ?_; rotate_left; intro hx; clear_value x; rotate_right)
      | (refine Moves.keep (W := W) (s₀ := s₀) x.1 ?_ ?_; rotate_left; intro hx; clear_value x; rotate_right)
      | skip))

theorem Scm_bankReset_moves {W : Part → Prop} {s₀ s : State} (h0 : W .vlk) (h1 : W (.fld F.SCM_CHG_STAT_DS_STATE)) (h2 : W (.fld F.SCM_CHG_STAT_US_STATE)) (h3 : W (.fld F.SCM_INT_CAUSE_CHG_FAIL)) (h4 : W (.fld F.SCM_NAK_MAP_LEAF)) (h5 : W (.fld H.SCM_ACKED)) (h6 : W (.fld H.SCM_ADDRESSED)) (h7 : W (.fld H.VLK_SEQ)) (a0 : Nat) (h : Moves W s₀ s) :
    Moves W s₀ (Sys2Proof.Machine.Scm.bankReset a0 s) := by
  unfold Sys2Proof.Machine.Scm.bankReset
  repeat' (first
    | with_reducible assumption
    | with_reducible apply Moves.clr
    | with_reducible apply Moves.set
    | with_reducible apply Scm_abandon_moves
    | with_reducible apply Scm_chState_in
    | intro _
    | split)

theorem Scm_computeEntry_moves {W : Part → Prop} {s₀ s : State} (h0 : W (.fld F.SCM_DS_NEXT_ENTRY)) (h1 : W (.fld F.SCM_INT_CAUSE_SHORT)) (h2 : W (.fld F.SCM_SC_FLAG_SHORT)) (h3 : W (.fld F.SCM_SC_FLAG_STALE)) (h4 : W (.fld F.SCM_SC_FLAG_US_SHORT)) (h5 : W (.fld F.SCM_SC_FLAG_US_STALE)) (h6 : W (.fld F.SCM_US_NEXT_ENTRY)) (a0 : Nat) (a1 : Nat) (h : Moves W s₀ s) :
    Moves W s₀ (Sys2Proof.Machine.Scm.computeEntry a0 a1 s) := by
  unfold Sys2Proof.Machine.Scm.computeEntry
  repeat' (first
    | with_reducible assumption
    | with_reducible apply Moves.clr
    | with_reducible apply Moves.put
    | with_reducible apply Moves.set
    | with_reducible apply Scm_nextTab_in
    | with_reducible apply Scm_stale_in
    | with_reducible apply Scm_short_in
    | intro _
    | split
    | (extract_lets +onlyGivenNames x; first
      | (refine Moves.keep (W := W) (s₀ := s₀) x ?_ ?_; rotate_left; intro hx; clear_value x; rotate_right)
      | (refine Moves.keep (W := W) (s₀ := s₀) x.2 ?_ ?_; rotate_left; intro hx; clear_value x; rotate_right)
      | (refine Moves.keep (W := W) (s₀ := s₀) x.1 ?_ ?_; rotate_left; intro hx; clear_value x; rotate_right)
      | skip))

theorem Scm_markOver_moves {W : Part → Prop} {s₀ s : State} (h0 : W (.fld F.SCM_SC_FLAG_OVER)) (h1 : W (.fld F.SCM_SC_FLAG_US_OVER)) (a0 : Nat) (a1 : Nat) (a2 : Nat) (a3 : Option (Nat × Nat)) (h : Moves W s₀ s) :
    Moves W s₀ (Sys2Proof.Machine.Scm.markOver a0 a1 a2 a3 s) := by
  unfold Sys2Proof.Machine.Scm.markOver
  repeat' (first
    | with_reducible assumption
    | with_reducible apply Moves.set
    | with_reducible apply Scm_overField_in
    | intro _
    | split)

theorem Scm_judgeOver_moves {W : Part → Prop} {s₀ s : State} (h0 : W (.fld F.SCM_SC_FLAG_OVER)) (h1 : W (.fld F.SCM_SC_FLAG_US_OVER)) (a0 : Nat) (a1 : Nat) (h : Moves W s₀ s) :
    Moves W s₀ (Sys2Proof.Machine.Scm.judgeOver a0 a1 s) := by
  unfold Sys2Proof.Machine.Scm.judgeOver
  repeat' (first
    | with_reducible assumption
    | with_reducible apply Scm_markOver_moves
    | intro _
    | split
    | (extract_lets +onlyGivenNames x; first
      | (refine Moves.keep (W := W) (s₀ := s₀) x ?_ ?_; rotate_left; intro hx; clear_value x; rotate_right)
      | (refine Moves.keep (W := W) (s₀ := s₀) x.2 ?_ ?_; rotate_left; intro hx; clear_value x; rotate_right)
      | (refine Moves.keep (W := W) (s₀ := s₀) x.1 ?_ ?_; rotate_left; intro hx; clear_value x; rotate_right)
      | skip))

theorem Scm_compute_moves {W : Part → Prop} {s₀ s : State} (h0 : W .vlk) (h1 : W (.fld F.LRX_INT_CAUSE_SHADOW_LOCKED)) (h2 : W (.fld F.LRX_INT_CAUSE_TABLE_ERR)) (h3 : W (.fld F.LRX_STAT_ERR_SC)) (h4 : W (.fld F.LRX_STAT_SHADOW_READY)) (h5 : W (.fld F.LTX_INT_CAUSE_SHADOW_LOCKED)) (h6 : W (.fld F.LTX_INT_CAUSE_TABLE_ERR)) (h7 : W (.fld F.LTX_STAT_ERR_SC)) (h8 : W (.fld F.LTX_STAT_SHADOW_READY)) (h9 : W (.fld F.SCM_CHG_STAT_DS_STATE)) (h10 : W (.fld F.SCM_CHG_STAT_US_STATE)) (h11 : W (.fld F.SCM_DS_NEXT_ENTRY)) (h12 : W (.fld F.SCM_INT_CAUSE_BUSY)) (h13 : W (.fld F.SCM_INT_CAUSE_CHG_FAIL)) (h14 : W (.fld F.SCM_INT_CAUSE_SHORT)) (h15 : W (.fld F.SCM_NAK_MAP_LEAF)) (h16 : W (.fld F.SCM_SC_FLAG_OVER)) (h17 : W (.fld F.SCM_SC_FLAG_SHORT)) (h18 : W (.fld F.SCM_SC_FLAG_STALE)) (h19 : W (.fld F.SCM_SC_FLAG_US_OVER)) (h20 : W (.fld F.SCM_SC_FLAG_US_SHORT)) (h21 : W (.fld F.SCM_SC_FLAG_US_STALE)) (h22 : W (.fld F.SCM_US_NEXT_ENTRY)) (h23 : W (.fld F.SYS_INT_CAUSE_ROLE_LIMIT)) (h24 : W (.fld F.VLK_INT_CAUSE_GROUP_ERR)) (h25 : W (.fld H.LRX_SHADOW)) (h26 : W (.fld H.LRX_SHADOW_VER)) (h27 : W (.fld H.LTX_SHADOW)) (h28 : W (.fld H.LTX_SHADOW_VER)) (h29 : W (.fld H.SCM_ACKED)) (h30 : W (.fld H.SCM_ADDRESSED)) (h31 : W (.fld H.SCM_LAST_VER)) (h32 : W (.fld H.SCM_START_MF)) (h33 : W (.fld H.VLK_SEQ)) (a0 : Nat) (h : Moves W s₀ s) :
    Moves W s₀ (Sys2Proof.Machine.Scm.compute a0 s) := by
  unfold Sys2Proof.Machine.Scm.compute
  repeat' (first
    | with_reducible assumption
    | with_reducible apply Moves.each
    | with_reducible apply Scm_judgeOver_moves
    | with_reducible apply Scm_computeEntry_moves
    | with_reducible apply Scm_commit_moves
    | intro _
    | split
    | (extract_lets +onlyGivenNames x; first
      | (refine Moves.keep (W := W) (s₀ := s₀) x ?_ ?_; rotate_left; intro hx; clear_value x; rotate_right)
      | (refine Moves.keep (W := W) (s₀ := s₀) x.2 ?_ ?_; rotate_left; intro hx; clear_value x; rotate_right)
      | (refine Moves.keep (W := W) (s₀ := s₀) x.1 ?_ ?_; rotate_left; intro hx; clear_value x; rotate_right)
      | skip))

theorem Scm_latched_moves {W : Part → Prop} {s₀ s : State} (h0 : W .vlk) (h1 : W (.fld F.LRX_INT_CAUSE_SHADOW_LOCKED)) (h2 : W (.fld F.LRX_INT_CAUSE_TABLE_ERR)) (h3 : W (.fld F.LRX_STAT_ERR_SC)) (h4 : W (.fld F.LRX_STAT_SHADOW_READY)) (h5 : W (.fld F.LTX_INT_CAUSE_SHADOW_LOCKED)) (h6 : W (.fld F.LTX_INT_CAUSE_TABLE_ERR)) (h7 : W (.fld F.LTX_STAT_ERR_SC)) (h8 : W (.fld F.LTX_STAT_SHADOW_READY)) (h9 : W (.fld F.SCM_CHG_STAT_DS_STATE)) (h10 : W (.fld F.SCM_CHG_STAT_US_STATE)) (h11 : W (.fld F.SCM_DS_NEXT_ENTRY)) (h12 : W (.fld F.SCM_INT_CAUSE_BUSY)) (h13 : W (.fld F.SCM_INT_CAUSE_CHG_FAIL)) (h14 : W (.fld F.SCM_INT_CAUSE_SHORT)) (h15 : W (.fld F.SCM_NAK_MAP_LEAF)) (h16 : W (.fld F.SCM_SC_FLAG_OVER)) (h17 : W (.fld F.SCM_SC_FLAG_SHORT)) (h18 : W (.fld F.SCM_SC_FLAG_STALE)) (h19 : W (.fld F.SCM_SC_FLAG_US_OVER)) (h20 : W (.fld F.SCM_SC_FLAG_US_SHORT)) (h21 : W (.fld F.SCM_SC_FLAG_US_STALE)) (h22 : W (.fld F.SCM_US_NEXT_ENTRY)) (h23 : W (.fld F.SYS_INT_CAUSE_ROLE_LIMIT)) (h24 : W (.fld F.VLK_INT_CAUSE_GROUP_ERR)) (h25 : W (.fld H.LRX_SHADOW)) (h26 : W (.fld H.LRX_SHADOW_VER)) (h27 : W (.fld H.LTX_SHADOW)) (h28 : W (.fld H.LTX_SHADOW_VER)) (h29 : W (.fld H.SCM_ACKED)) (h30 : W (.fld H.SCM_ADDRESSED)) (h31 : W (.fld H.SCM_LAST_VER)) (h32 : W (.fld H.SCM_START_MF)) (h33 : W (.fld H.VLK_SEQ)) (h : Moves W s₀ s) :
    Moves W s₀ (Sys2Proof.Machine.Scm.latched s) := by
  unfold Sys2Proof.Machine.Scm.latched
  repeat' (first
    | with_reducible assumption
    | with_reducible apply Scm_compute_moves
    | intro _)

theorem Scm_sendGrants_moves {W : Part → Prop} {s₀ s : State} (h0 : W .vlk) (h1 : W (.fld H.VLK_SEQ)) (a0 : Nat) (h : Moves W s₀ s) :
    Moves W s₀ (Sys2Proof.Machine.Scm.sendGrants a0 s) := by
  unfold Sys2Proof.Machine.Scm.sendGrants
  repeat' (first
    | with_reducible assumption
    | with_reducible apply Vlk_toLeaf_moves
    | intro _)

theorem Scm_grantCommit_moves {W : Part → Prop} {s₀ s : State} (h0 : W .vlk) (h1 : W (.fld F.SCM_GRANT_STAT_ERR)) (h2 : W (.fld F.SCM_GRANT_STAT_STATE)) (h3 : W (.fld F.SCM_INT_CAUSE_BUSY)) (h4 : W (.fld F.SYS_INT_CAUSE_ROLE_LIMIT)) (h5 : W (.fld F.VLK_INT_CAUSE_GRANT_FAIL)) (h6 : W (.fld H.SCM_GRANT_ACKED)) (h7 : W (.fld H.SCM_GRANT_ADDR)) (h8 : W (.fld H.SCM_GRANT_LAST)) (h9 : W (.fld H.SCM_GRANT_SNAP)) (h10 : W (.fld H.SCM_GRANT_START)) (h11 : W (.fld H.VLK_SEQ)) (h : Moves W s₀ s) :
    Moves W s₀ (Sys2Proof.Machine.Scm.grantCommit s) := by
  unfold Sys2Proof.Machine.Scm.grantCommit
  repeat' (first
    | with_reducible assumption
    | with_reducible apply Moves.clr
    | with_reducible apply Moves.each
    | with_reducible apply Moves.eachOf
    | with_reducible apply Moves.put
    | with_reducible apply Moves.set
    | with_reducible apply Vlk_toLeaf_moves
    | intro _
    | split
    | (extract_lets +onlyGivenNames x; first
      | (refine Moves.keep (W := W) (s₀ := s₀) x ?_ ?_; rotate_left; intro hx; clear_value x; rotate_right)
      | (refine Moves.keep (W := W) (s₀ := s₀) x.2 ?_ ?_; rotate_left; intro hx; clear_value x; rotate_right)
      | (refine Moves.keep (W := W) (s₀ := s₀) x.1 ?_ ?_; rotate_left; intro hx; clear_value x; rotate_right)
      | skip))

theorem Scm_grantEnd_moves {W : Part → Prop} {s₀ s : State} (h0 : W (.fld F.SCM_GRANT_STAT_STATE)) (h1 : W (.fld H.SCM_GRANT_ACKED)) (h2 : W (.fld H.SCM_GRANT_ADDR)) (h : Moves W s₀ s) :
    Moves W s₀ (Sys2Proof.Machine.Scm.grantEnd s) := by
  unfold Sys2Proof.Machine.Scm.grantEnd
  repeat' (first
    | with_reducible assumption
    | with_reducible apply Moves.clr
    | with_reducible apply Moves.each
    | intro _)

theorem Scm_grantAbandon_moves {W : Part → Prop} {s₀ s : State} (h0 : W (.fld F.SCM_GRANT_STAT_STATE)) (h1 : W (.fld F.SCM_INT_CAUSE_CHG_FAIL)) (h2 : W (.fld F.SCM_NAK_MAP_LEAF)) (h3 : W (.fld F.VLK_INT_CAUSE_GRANT_FAIL)) (h4 : W (.fld H.SCM_GRANT_ACKED)) (h5 : W (.fld H.SCM_GRANT_ADDR)) (a0 : List Nat) (h : Moves W s₀ s) :
    Moves W s₀ (Sys2Proof.Machine.Scm.grantAbandon a0 s) := by
  unfold Sys2Proof.Machine.Scm.grantAbandon
  repeat' (first
    | with_reducible assumption
    | with_reducible apply Moves.eachOf
    | with_reducible apply Moves.set
    | with_reducible apply Moves.setBit
    | with_reducible apply Scm_grantEnd_moves
    | intro _
    | (extract_lets +onlyGivenNames x; first
      | (refine Moves.keep (W := W) (s₀ := s₀) x ?_ ?_; rotate_left; intro hx; clear_value x; rotate_right)
      | (refine Moves.keep (W := W) (s₀ := s₀) x.2 ?_ ?_; rotate_left; intro hx; clear_value x; rotate_right)
      | (refine Moves.keep (W := W) (s₀ := s₀) x.1 ?_ ?_; rotate_left; intro hx; clear_value x; rotate_right)
      | skip))

theorem Scm_grantAbort_moves {W : Part → Prop} {s₀ s : State} (h0 : W (.fld F.SCM_GRANT_STAT_STATE)) (h1 : W (.fld F.SCM_INT_CAUSE_BUSY)) (h2 : W (.fld F.SYS_INT_CAUSE_ROLE_LIMIT)) (h3 : W (.fld H.SCM_GRANT_ACKED)) (h4 : W (.fld H.SCM_GRANT_ADDR)) (h : Moves W s₀ s) :
    Moves W s₀ (Sys2Proof.Machine.Scm.grantAbort s) := by
  unfold Sys2Proof.Machine.Scm.grantAbort
  repeat' (first
    | with_reducible assumption
    | with_reducible apply Moves.set
    | with_reducible apply Scm_grantEnd_moves
    | intro _
    | split)

theorem Scm_grantAnnounce_moves {W : Part → Prop} {s₀ s : State} (h0 : W (.fld F.SCM_GRANT_STAT_STATE)) (h1 : W (.fld H.SCM_GRANT_M)) (h : Moves W s₀ s) :
    Moves W s₀ (Sys2Proof.Machine.Scm.grantAnnounce s) := by
  unfold Sys2Proof.Machine.Scm.grantAnnounce
  repeat' (first
    | with_reducible assumption
    | with_reducible apply Moves.put
    | intro _
    | split
    | (extract_lets +onlyGivenNames x; first
      | (refine Moves.keep (W := W) (s₀ := s₀) x ?_ ?_; rotate_left; intro hx; clear_value x; rotate_right)
      | (refine Moves.keep (W := W) (s₀ := s₀) x.2 ?_ ?_; rotate_left; intro hx; clear_value x; rotate_right)
      | (refine Moves.keep (W := W) (s₀ := s₀) x.1 ?_ ?_; rotate_left; intro hx; clear_value x; rotate_right)
      | skip))

theorem Scm_grantTimeout_moves {W : Part → Prop} {s₀ s : State} (h0 : W (.fld F.SCM_GRANT_STAT_STATE)) (h1 : W (.fld F.SCM_INT_CAUSE_CHG_FAIL)) (h2 : W (.fld F.SCM_NAK_MAP_LEAF)) (h3 : W (.fld F.VLK_INT_CAUSE_GRANT_FAIL)) (h4 : W (.fld H.SCM_GRANT_ACKED)) (h5 : W (.fld H.SCM_GRANT_ADDR)) (h : Moves W s₀ s) :
    Moves W s₀ (Sys2Proof.Machine.Scm.grantTimeout s) := by
  unfold Sys2Proof.Machine.Scm.grantTimeout
  repeat' (first
    | with_reducible assumption
    | with_reducible apply Scm_grantAbandon_moves
    | intro _
    | split
    | (extract_lets +onlyGivenNames x; first
      | (refine Moves.keep (W := W) (s₀ := s₀) x ?_ ?_; rotate_left; intro hx; clear_value x; rotate_right)
      | (refine Moves.keep (W := W) (s₀ := s₀) x.2 ?_ ?_; rotate_left; intro hx; clear_value x; rotate_right)
      | (refine Moves.keep (W := W) (s₀ := s₀) x.1 ?_ ?_; rotate_left; intro hx; clear_value x; rotate_right)
      | skip))

theorem Scm_grantAcked_moves {W : Part → Prop} {s₀ s : State} (h0 : W .vlk) (h1 : W (.fld F.SCM_GRANT_STAT_STATE)) (h2 : W (.fld F.SCM_INT_CAUSE_CHG_FAIL)) (h3 : W (.fld F.SCM_NAK_MAP_LEAF)) (h4 : W (.fld F.VLK_INT_CAUSE_GRANT_FAIL)) (h5 : W (.fld H.SCM_GRANT_ACKED)) (h6 : W (.fld H.SCM_GRANT_ADDR)) (h7 : W (.fld H.VLK_SEQ)) (a0 : Nat) (a1 : Nat) (a2 : Nat) (h : Moves W s₀ s) :
    Moves W s₀ (Sys2Proof.Machine.Scm.grantAcked a0 a1 a2 s) := by
  unfold Sys2Proof.Machine.Scm.grantAcked
  repeat' (first
    | with_reducible assumption
    | with_reducible apply Moves.set
    | with_reducible apply Scm_grantAbandon_moves
    | with_reducible apply Scm_sendGrants_moves
    | intro _
    | split
    | (extract_lets +onlyGivenNames x; first
      | (refine Moves.keep (W := W) (s₀ := s₀) x ?_ ?_; rotate_left; intro hx; clear_value x; rotate_right)
      | (refine Moves.keep (W := W) (s₀ := s₀) x.2 ?_ ?_; rotate_left; intro hx; clear_value x; rotate_right)
      | (refine Moves.keep (W := W) (s₀ := s₀) x.1 ?_ ?_; rotate_left; intro hx; clear_value x; rotate_right)
      | skip))

theorem Scm_grantSwap_moves {W : Part → Prop} {s₀ s : State} (h0 : W (.fld F.SCM_GRANT_ACT_LEAF_E)) (h1 : W (.fld F.SCM_GRANT_ACT_LEAF_O)) (h2 : W (.fld F.SCM_GRANT_ACT_VAL_E)) (h3 : W (.fld F.SCM_GRANT_ACT_VAL_O)) (h4 : W (.fld F.SCM_GRANT_STAT_STATE)) (h5 : W (.fld F.SCM_GRANT_STAT_VER)) (h6 : W (.fld F.VLK_INT_CAUSE_GRANT_SWAP)) (h7 : W (.fld H.LRX_SET_OWNER)) (h8 : W (.fld H.SCM_GRANT_ACKED)) (h9 : W (.fld H.SCM_GRANT_ADDR)) (h : Moves W s₀ s) :
    Moves W s₀ (Sys2Proof.Machine.Scm.grantSwap s) := by
  unfold Sys2Proof.Machine.Scm.grantSwap
  repeat' (first
    | with_reducible assumption
    | with_reducible apply Moves.each
    | with_reducible apply Moves.put
    | with_reducible apply Moves.set
    | with_reducible apply Lrx_freeSets_moves
    | with_reducible apply Scm_grantEnd_moves
    | intro _
    | split
    | (extract_lets +onlyGivenNames x; first
      | (refine Moves.keep (W := W) (s₀ := s₀) x ?_ ?_; rotate_left; intro hx; clear_value x; rotate_right)
      | (refine Moves.keep (W := W) (s₀ := s₀) x.2 ?_ ?_; rotate_left; intro hx; clear_value x; rotate_right)
      | (refine Moves.keep (W := W) (s₀ := s₀) x.1 ?_ ?_; rotate_left; intro hx; clear_value x; rotate_right)
      | skip))

end Sys2Proof.Laws
end

