-- ==== Sys2Proof/Laws/MovesMbx.lean ====
section
/-! SUPPORT. Sys2Proof/Laws/MovesMbx.lean: what each operation of Machine/Mbx.lean may write (Laws/Moves.lean). -/
namespace Sys2Proof.Laws
open Sys2Proof Sys2Proof.Machine

theorem Mbx_accessErr_moves {W : Part → Prop} {s₀ s : State} (h0 : W (.fld F.MBX_INT_CAUSE_ACCESS_ERR)) (h : Moves W s₀ s) :
    Moves W s₀ (Sys2Proof.Machine.Mbx.accessErr s) := by
  unfold Sys2Proof.Machine.Mbx.accessErr
  repeat' (first
    | with_reducible assumption
    | with_reducible apply Moves.set
    | intro _)

theorem Mbx_refuse_moves {W : Part → Prop} {s₀ s : State} (h0 : W (.fld F.MBX_INT_CAUSE_POST_REFUSED)) (h1 : W (.fld F.MBX_STAT_POST_REFUSED)) (a0 : Nat) (h : Moves W s₀ s) :
    Moves W s₀ (Sys2Proof.Machine.Mbx.refuse a0 s) := by
  unfold Sys2Proof.Machine.Mbx.refuse
  repeat' (first
    | with_reducible assumption
    | with_reducible apply Moves.set
    | intro _)

theorem Mbx_writeData_moves {W : Part → Prop} {s₀ s : State} (h0 : W (.fld F.MBX_DATA_DATA)) (h1 : W (.fld F.MBX_INT_CAUSE_ACCESS_ERR)) (h2 : W (.fld F.MBX_INT_CAUSE_POST_REFUSED)) (h3 : W (.fld F.MBX_STAT_POST_REFUSED)) (a0 : Sys2Proof.Machine.Pmc.Who) (a1 : Nat) (a2 : Nat) (a3 : Nat) (h : Moves W s₀ s) :
    Moves W s₀ (Sys2Proof.Machine.Mbx.writeData a0 a1 a2 a3 s) := by
  unfold Sys2Proof.Machine.Mbx.writeData
  repeat' (first
    | with_reducible assumption
    | with_reducible apply Moves.put
    | with_reducible apply Mbx_accessErr_moves
    | with_reducible apply Mbx_refuse_moves
    | intro _
    | split)

theorem Mbx_ring_moves {W : Part → Prop} {s₀ s : State} (h0 : W (.fld F.MBX_DB_PEND_CH)) (h1 : W (.fld F.MBX_INT_CAUSE_DOORBELL)) (a0 : Nat) (h : Moves W s₀ s) :
    Moves W s₀ (Sys2Proof.Machine.Mbx.ring a0 s) := by
  unfold Sys2Proof.Machine.Mbx.ring
  repeat' (first
    | with_reducible assumption
    | with_reducible apply Moves.emit
    | with_reducible apply Moves.set
    | with_reducible apply Moves.setBit
    | intro _
    | split
    | (extract_lets +onlyGivenNames x; first
      | (refine Moves.keep (W := W) (s₀ := s₀) x ?_ ?_; rotate_left; intro hx; clear_value x; rotate_right)
      | (refine Moves.keep (W := W) (s₀ := s₀) x.2 ?_ ?_; rotate_left; intro hx; clear_value x; rotate_right)
      | (refine Moves.keep (W := W) (s₀ := s₀) x.1 ?_ ?_; rotate_left; intro hx; clear_value x; rotate_right)
      | skip))

theorem Mbx_post_moves {W : Part → Prop} {s₀ s : State} (h0 : W .qdr) (h1 : W (.fld F.MBX_DB_PEND_CH)) (h2 : W (.fld F.MBX_INT_CAUSE_DOORBELL)) (h3 : W (.fld F.MBX_STAT_FULL)) (h4 : W (.fld F.MBX_STAT_LEN)) (h5 : W (.fld F.PMC_INT_CAUSE_OVF)) (h6 : W (.fld F.PMC_INT_CAUSE_SMP_AVAIL)) (h7 : W (.fld F.PMC_INT_CAUSE_SMP_DROP)) (h8 : W (.fld F.PMC_OVF_STAT_OVF)) (h9 : W (.fld F.PMC_SMP_DROP_RING)) (h10 : W (.fld F.PMC_SMP_STAT_COUNT)) (h11 : W (.fld H.PMC_CNT)) (h12 : W (.fld H.PMC_OVF_DUE)) (h13 : W (.fld H.PMC_OVF_T)) (h14 : W (.fld H.PMC_RING)) (h15 : W (.fld H.PMC_TRACE_POS)) (a0 : Sys2Proof.Machine.Pmc.Who) (a1 : Nat) (a2 : Nat) (h : Moves W s₀ s) :
    Moves W s₀ (Sys2Proof.Machine.Mbx.post a0 a1 a2 s) := by
  unfold Sys2Proof.Machine.Mbx.post
  repeat' (first
    | with_reducible assumption
    | with_reducible apply Moves.put
    | with_reducible apply Moves.set
    | with_reducible apply Mbx_ring_moves
    | with_reducible apply Pmc_event_moves
    | intro _
    | (extract_lets +onlyGivenNames x; first
      | (refine Moves.keep (W := W) (s₀ := s₀) x ?_ ?_; rotate_left; intro hx; clear_value x; rotate_right)
      | (refine Moves.keep (W := W) (s₀ := s₀) x.2 ?_ ?_; rotate_left; intro hx; clear_value x; rotate_right)
      | (refine Moves.keep (W := W) (s₀ := s₀) x.1 ?_ ?_; rotate_left; intro hx; clear_value x; rotate_right)
      | skip))

theorem Mbx_doorbell_moves {W : Part → Prop} {s₀ s : State} (h0 : W .qdr) (h1 : W (.fld F.MBX_DB_PEND_CH)) (h2 : W (.fld F.MBX_INT_CAUSE_ACCESS_ERR)) (h3 : W (.fld F.MBX_INT_CAUSE_DOORBELL)) (h4 : W (.fld F.MBX_INT_CAUSE_POST_REFUSED)) (h5 : W (.fld F.MBX_STAT_FULL)) (h6 : W (.fld F.MBX_STAT_LEN)) (h7 : W (.fld F.MBX_STAT_POST_REFUSED)) (h8 : W (.fld F.PMC_INT_CAUSE_OVF)) (h9 : W (.fld F.PMC_INT_CAUSE_SMP_AVAIL)) (h10 : W (.fld F.PMC_INT_CAUSE_SMP_DROP)) (h11 : W (.fld F.PMC_OVF_STAT_OVF)) (h12 : W (.fld F.PMC_SMP_DROP_RING)) (h13 : W (.fld F.PMC_SMP_STAT_COUNT)) (h14 : W (.fld H.PMC_CNT)) (h15 : W (.fld H.PMC_OVF_DUE)) (h16 : W (.fld H.PMC_OVF_T)) (h17 : W (.fld H.PMC_RING)) (h18 : W (.fld H.PMC_TRACE_POS)) (a0 : Sys2Proof.Machine.Pmc.Who) (a1 : Nat) (a2 : Nat) (h : Moves W s₀ s) :
    Moves W s₀ (Sys2Proof.Machine.Mbx.doorbell a0 a1 a2 s) := by
  unfold Sys2Proof.Machine.Mbx.doorbell
  repeat' (first
    | with_reducible assumption
    | with_reducible apply Mbx_accessErr_moves
    | with_reducible apply Mbx_refuse_moves
    | with_reducible apply Mbx_post_moves
    | intro _
    | split)

theorem Mbx_readData_moves {W : Part → Prop} {s₀ s : State} (h0 : W .qdr) (h1 : W (.fld F.MBX_INT_CAUSE_ACCESS_ERR)) (h2 : W (.fld F.MBX_INT_CAUSE_TAKEN)) (h3 : W (.fld F.MBX_STAT_FULL)) (h4 : W (.fld F.MBX_STAT_TAKEN)) (h5 : W (.fld F.MBX_TAKEN_PEND_CH)) (h6 : W (.fld F.PMC_INT_CAUSE_OVF)) (h7 : W (.fld F.PMC_INT_CAUSE_SMP_AVAIL)) (h8 : W (.fld F.PMC_INT_CAUSE_SMP_DROP)) (h9 : W (.fld F.PMC_OVF_STAT_OVF)) (h10 : W (.fld F.PMC_SMP_DROP_RING)) (h11 : W (.fld F.PMC_SMP_STAT_COUNT)) (h12 : W (.fld H.PMC_CNT)) (h13 : W (.fld H.PMC_OVF_DUE)) (h14 : W (.fld H.PMC_OVF_T)) (h15 : W (.fld H.PMC_RING)) (h16 : W (.fld H.PMC_TRACE_POS)) (a0 : Sys2Proof.Machine.Pmc.Who) (a1 : Nat) (a2 : Nat) (h : Moves W s₀ s) :
    Moves W s₀ (Sys2Proof.Machine.Mbx.readData a0 a1 a2 s).2 := by
  unfold Sys2Proof.Machine.Mbx.readData
  repeat' (first
    | with_reducible assumption
    | with_reducible apply Moves.clr
    | with_reducible apply Moves.set
    | with_reducible apply Moves.setBit
    | with_reducible apply Pmc_event_moves
    | with_reducible apply Mbx_accessErr_moves
    | intro _
    | split
    | (extract_lets +onlyGivenNames x; first
      | (refine Moves.keep (W := W) (s₀ := s₀) x ?_ ?_; rotate_left; intro hx; clear_value x; rotate_right)
      | (refine Moves.keep (W := W) (s₀ := s₀) x.2 ?_ ?_; rotate_left; intro hx; clear_value x; rotate_right)
      | (refine Moves.keep (W := W) (s₀ := s₀) x.1 ?_ ?_; rotate_left; intro hx; clear_value x; rotate_right)
      | skip))

theorem Mbx_bind_moves {W : Part → Prop} {s₀ s : State} (h0 : W (.fld F.MBX_BIND_EN)) (h1 : W (.fld F.MBX_BIND_RECEIVER)) (h2 : W (.fld F.MBX_BIND_SENDER)) (h3 : W (.fld F.MBX_INT_CAUSE_BIND_ERR)) (h4 : W (.fld F.MBX_STAT_RX_RESET_SEEN)) (h5 : W (.fld F.MBX_STAT_SENDER_RESET_SEEN)) (a0 : Sys2Proof.Machine.Pmc.Who) (a1 : Nat) (a2 : Nat) (h : Moves W s₀ s) :
    Moves W s₀ (Sys2Proof.Machine.Mbx.bind a0 a1 a2 s) := by
  unfold Sys2Proof.Machine.Mbx.bind
  repeat' (first
    | with_reducible assumption
    | with_reducible apply Moves.clr
    | with_reducible apply Moves.put
    | with_reducible apply Moves.set
    | intro _
    | split
    | (extract_lets +onlyGivenNames x; first
      | (refine Moves.keep (W := W) (s₀ := s₀) x ?_ ?_; rotate_left; intro hx; clear_value x; rotate_right)
      | (refine Moves.keep (W := W) (s₀ := s₀) x.2 ?_ ?_; rotate_left; intro hx; clear_value x; rotate_right)
      | (refine Moves.keep (W := W) (s₀ := s₀) x.1 ?_ ?_; rotate_left; intro hx; clear_value x; rotate_right)
      | skip))

theorem Mbx_lockEvent_moves {W : Part → Prop} {s₀ s : State} (h0 : W .qdr) (h1 : W (.fld F.PMC_INT_CAUSE_OVF)) (h2 : W (.fld F.PMC_INT_CAUSE_SMP_AVAIL)) (h3 : W (.fld F.PMC_INT_CAUSE_SMP_DROP)) (h4 : W (.fld F.PMC_OVF_STAT_OVF)) (h5 : W (.fld F.PMC_SMP_DROP_RING)) (h6 : W (.fld F.PMC_SMP_STAT_COUNT)) (h7 : W (.fld H.PMC_CNT)) (h8 : W (.fld H.PMC_OVF_DUE)) (h9 : W (.fld H.PMC_OVF_T)) (h10 : W (.fld H.PMC_RING)) (h11 : W (.fld H.PMC_TRACE_POS)) (a0 : Nat) (a1 : Sys2Proof.Machine.Pmc.Who) (a2 : Nat) (h : Moves W s₀ s) :
    Moves W s₀ (Sys2Proof.Machine.Mbx.lockEvent a0 a1 a2 s) := by
  unfold Sys2Proof.Machine.Mbx.lockEvent
  repeat' (first
    | with_reducible assumption
    | with_reducible apply Pmc_event_moves
    | intro _)

theorem Mbx_lockRead_moves {W : Part → Prop} {s₀ s : State} (h0 : W .qdr) (h1 : W (.fld F.MBX_LOCK_STAT_OWNER)) (h2 : W (.fld F.PMC_INT_CAUSE_OVF)) (h3 : W (.fld F.PMC_INT_CAUSE_SMP_AVAIL)) (h4 : W (.fld F.PMC_INT_CAUSE_SMP_DROP)) (h5 : W (.fld F.PMC_OVF_STAT_OVF)) (h6 : W (.fld F.PMC_SMP_DROP_RING)) (h7 : W (.fld F.PMC_SMP_STAT_COUNT)) (h8 : W (.fld H.PMC_CNT)) (h9 : W (.fld H.PMC_OVF_DUE)) (h10 : W (.fld H.PMC_OVF_T)) (h11 : W (.fld H.PMC_RING)) (h12 : W (.fld H.PMC_TRACE_POS)) (a0 : Sys2Proof.Machine.Pmc.Who) (a1 : Nat) (h : Moves W s₀ s) :
    Moves W s₀ (Sys2Proof.Machine.Mbx.lockRead a0 a1 s).2 := by
  unfold Sys2Proof.Machine.Mbx.lockRead
  repeat' (first
    | with_reducible assumption
    | with_reducible apply Moves.put
    | with_reducible apply Mbx_lockEvent_moves
    | intro _
    | split
    | (extract_lets +onlyGivenNames x; first
      | (refine Moves.keep (W := W) (s₀ := s₀) x ?_ ?_; rotate_left; intro hx; clear_value x; rotate_right)
      | (refine Moves.keep (W := W) (s₀ := s₀) x.2 ?_ ?_; rotate_left; intro hx; clear_value x; rotate_right)
      | (refine Moves.keep (W := W) (s₀ := s₀) x.1 ?_ ?_; rotate_left; intro hx; clear_value x; rotate_right)
      | skip))

theorem Mbx_contend_moves {W : Part → Prop} {s₀ s : State} (h0 : W .qdr) (h1 : W (.fld F.MBX_LOCK_STAT_CONTENDED)) (h2 : W (.fld F.MBX_LOCK_STAT_OWNER)) (h3 : W (.fld F.PMC_INT_CAUSE_OVF)) (h4 : W (.fld F.PMC_INT_CAUSE_SMP_AVAIL)) (h5 : W (.fld F.PMC_INT_CAUSE_SMP_DROP)) (h6 : W (.fld F.PMC_OVF_STAT_OVF)) (h7 : W (.fld F.PMC_SMP_DROP_RING)) (h8 : W (.fld F.PMC_SMP_STAT_COUNT)) (h9 : W (.fld H.PMC_CNT)) (h10 : W (.fld H.PMC_OVF_DUE)) (h11 : W (.fld H.PMC_OVF_T)) (h12 : W (.fld H.PMC_RING)) (h13 : W (.fld H.PMC_TRACE_POS)) (a0 : Sys2Proof.Machine.Pmc.Who) (a1 : List Nat) (a2 : Nat) (h : Moves W s₀ s) :
    Moves W s₀ (Sys2Proof.Machine.Mbx.contend a0 a1 a2 s) := by
  unfold Sys2Proof.Machine.Mbx.contend
  repeat' (first
    | with_reducible assumption
    | with_reducible apply Moves.eachOf
    | with_reducible apply Moves.emit
    | with_reducible apply Moves.set
    | with_reducible apply Mbx_lockRead_moves
    | with_reducible apply Mbx_lockEvent_moves
    | intro _
    | split
    | (extract_lets +onlyGivenNames x; first
      | (refine Moves.keep (W := W) (s₀ := s₀) x ?_ ?_; rotate_left; intro hx; clear_value x; rotate_right)
      | (refine Moves.keep (W := W) (s₀ := s₀) x.2 ?_ ?_; rotate_left; intro hx; clear_value x; rotate_right)
      | (refine Moves.keep (W := W) (s₀ := s₀) x.1 ?_ ?_; rotate_left; intro hx; clear_value x; rotate_right)
      | skip))

theorem Mbx_lockWrite_moves {W : Part → Prop} {s₀ s : State} (h0 : W (.fld F.MBX_INT_CAUSE_LOCK_ERR)) (h1 : W (.fld F.MBX_LOCK_STAT_OWNER)) (a0 : Sys2Proof.Machine.Pmc.Who) (a1 : Nat) (h : Moves W s₀ s) :
    Moves W s₀ (Sys2Proof.Machine.Mbx.lockWrite a0 a1 s) := by
  unfold Sys2Proof.Machine.Mbx.lockWrite
  repeat' (first
    | with_reducible assumption
    | with_reducible apply Moves.clr
    | with_reducible apply Moves.set
    | intro _
    | split)

theorem Mbx_clearKeyData_moves {W : Part → Prop} {s₀ s : State} (h0 : W (.fld F.CRY_KEY_DATA_KEY)) (h1 : W (.fld F.CRY_KEY_SALT_SALT)) (h : Moves W s₀ s) :
    Moves W s₀ (Sys2Proof.Machine.Mbx.clearKeyData s) := by
  unfold Sys2Proof.Machine.Mbx.clearKeyData
  repeat' (first
    | with_reducible assumption
    | with_reducible apply Moves.clr
    | with_reducible apply Moves.each
    | intro _)

theorem Mbx_cryRead_moves {W : Part → Prop} {s₀ s : State} (h0 : W .qdr) (h1 : W (.fld F.CRY_LOCK_STAT_OWNER)) (h2 : W (.fld F.PMC_INT_CAUSE_OVF)) (h3 : W (.fld F.PMC_INT_CAUSE_SMP_AVAIL)) (h4 : W (.fld F.PMC_INT_CAUSE_SMP_DROP)) (h5 : W (.fld F.PMC_OVF_STAT_OVF)) (h6 : W (.fld F.PMC_SMP_DROP_RING)) (h7 : W (.fld F.PMC_SMP_STAT_COUNT)) (h8 : W (.fld H.PMC_CNT)) (h9 : W (.fld H.PMC_OVF_DUE)) (h10 : W (.fld H.PMC_OVF_T)) (h11 : W (.fld H.PMC_RING)) (h12 : W (.fld H.PMC_TRACE_POS)) (a0 : Sys2Proof.Machine.Pmc.Who) (h : Moves W s₀ s) :
    Moves W s₀ (Sys2Proof.Machine.Mbx.cryRead a0 s).2 := by
  unfold Sys2Proof.Machine.Mbx.cryRead
  repeat' (first
    | with_reducible assumption
    | with_reducible apply Moves.put
    | with_reducible apply Mbx_lockEvent_moves
    | intro _
    | split
    | (extract_lets +onlyGivenNames x; first
      | (refine Moves.keep (W := W) (s₀ := s₀) x ?_ ?_; rotate_left; intro hx; clear_value x; rotate_right)
      | (refine Moves.keep (W := W) (s₀ := s₀) x.2 ?_ ?_; rotate_left; intro hx; clear_value x; rotate_right)
      | (refine Moves.keep (W := W) (s₀ := s₀) x.1 ?_ ?_; rotate_left; intro hx; clear_value x; rotate_right)
      | skip))

theorem Mbx_cryContend_moves {W : Part → Prop} {s₀ s : State} (h0 : W .qdr) (h1 : W (.fld F.CRY_LOCK_STAT_CONTENDED)) (h2 : W (.fld F.CRY_LOCK_STAT_OWNER)) (h3 : W (.fld F.PMC_INT_CAUSE_OVF)) (h4 : W (.fld F.PMC_INT_CAUSE_SMP_AVAIL)) (h5 : W (.fld F.PMC_INT_CAUSE_SMP_DROP)) (h6 : W (.fld F.PMC_OVF_STAT_OVF)) (h7 : W (.fld F.PMC_SMP_DROP_RING)) (h8 : W (.fld F.PMC_SMP_STAT_COUNT)) (h9 : W (.fld H.PMC_CNT)) (h10 : W (.fld H.PMC_OVF_DUE)) (h11 : W (.fld H.PMC_OVF_T)) (h12 : W (.fld H.PMC_RING)) (h13 : W (.fld H.PMC_TRACE_POS)) (a0 : Sys2Proof.Machine.Pmc.Who) (a1 : List Nat) (h : Moves W s₀ s) :
    Moves W s₀ (Sys2Proof.Machine.Mbx.cryContend a0 a1 s) := by
  unfold Sys2Proof.Machine.Mbx.cryContend
  repeat' (first
    | with_reducible assumption
    | with_reducible apply Moves.eachOf
    | with_reducible apply Moves.emit
    | with_reducible apply Moves.set
    | with_reducible apply Mbx_cryRead_moves
    | with_reducible apply Mbx_lockEvent_moves
    | intro _
    | split
    | (extract_lets +onlyGivenNames x; first
      | (refine Moves.keep (W := W) (s₀ := s₀) x ?_ ?_; rotate_left; intro hx; clear_value x; rotate_right)
      | (refine Moves.keep (W := W) (s₀ := s₀) x.2 ?_ ?_; rotate_left; intro hx; clear_value x; rotate_right)
      | (refine Moves.keep (W := W) (s₀ := s₀) x.1 ?_ ?_; rotate_left; intro hx; clear_value x; rotate_right)
      | skip))

theorem Mbx_cryWrite_moves {W : Part → Prop} {s₀ s : State} (h0 : W (.fld F.CRY_INT_CAUSE_NOT_OWNER)) (h1 : W (.fld F.CRY_KEY_DATA_KEY)) (h2 : W (.fld F.CRY_KEY_SALT_SALT)) (h3 : W (.fld F.CRY_LOCK_STAT_OWNER)) (a0 : Sys2Proof.Machine.Pmc.Who) (h : Moves W s₀ s) :
    Moves W s₀ (Sys2Proof.Machine.Mbx.cryWrite a0 s) := by
  unfold Sys2Proof.Machine.Mbx.cryWrite
  repeat' (first
    | with_reducible assumption
    | with_reducible apply Moves.clr
    | with_reducible apply Moves.set
    | with_reducible apply Mbx_clearKeyData_moves
    | intro _
    | split)

theorem Mbx_cryBreak_moves {W : Part → Prop} {s₀ s : State} (h0 : W .qdr) (h1 : W (.fld F.CRY_KEY_DATA_KEY)) (h2 : W (.fld F.CRY_KEY_SALT_SALT)) (h3 : W (.fld F.CRY_LOCK_STAT_LOCK_BROKEN)) (h4 : W (.fld F.CRY_LOCK_STAT_OWNER)) (h5 : W (.fld F.PMC_INT_CAUSE_OVF)) (h6 : W (.fld F.PMC_INT_CAUSE_SMP_AVAIL)) (h7 : W (.fld F.PMC_INT_CAUSE_SMP_DROP)) (h8 : W (.fld F.PMC_OVF_STAT_OVF)) (h9 : W (.fld F.PMC_SMP_DROP_RING)) (h10 : W (.fld F.PMC_SMP_STAT_COUNT)) (h11 : W (.fld H.PMC_CNT)) (h12 : W (.fld H.PMC_OVF_DUE)) (h13 : W (.fld H.PMC_OVF_T)) (h14 : W (.fld H.PMC_RING)) (h15 : W (.fld H.PMC_TRACE_POS)) (h : Moves W s₀ s) :
    Moves W s₀ (Sys2Proof.Machine.Mbx.cryBreak s) := by
  unfold Sys2Proof.Machine.Mbx.cryBreak
  repeat' (first
    | with_reducible assumption
    | with_reducible apply Moves.clr
    | with_reducible apply Moves.set
    | with_reducible apply Mbx_lockEvent_moves
    | with_reducible apply Mbx_clearKeyData_moves
    | intro _
    | split
    | (extract_lets +onlyGivenNames x; first
      | (refine Moves.keep (W := W) (s₀ := s₀) x ?_ ?_; rotate_left; intro hx; clear_value x; rotate_right)
      | (refine Moves.keep (W := W) (s₀ := s₀) x.2 ?_ ?_; rotate_left; intro hx; clear_value x; rotate_right)
      | (refine Moves.keep (W := W) (s₀ := s₀) x.1 ?_ ?_; rotate_left; intro hx; clear_value x; rotate_right)
      | skip))

theorem Mbx_masterReset_moves {W : Part → Prop} {s₀ s : State} (h0 : W .qdr) (h1 : W (.fld F.CRY_KEY_DATA_KEY)) (h2 : W (.fld F.CRY_KEY_SALT_SALT)) (h3 : W (.fld F.CRY_LOCK_STAT_LOCK_BROKEN)) (h4 : W (.fld F.CRY_LOCK_STAT_OWNER)) (h5 : W (.fld F.MBX_INT_CAUSE_RESET_SEEN)) (h6 : W (.fld F.MBX_LOCK_STAT_LOCK_BROKEN)) (h7 : W (.fld F.MBX_LOCK_STAT_OWNER)) (h8 : W (.fld F.MBX_STAT_RX_RESET_SEEN)) (h9 : W (.fld F.MBX_STAT_SENDER_RESET_SEEN)) (h10 : W (.fld F.PMC_INT_CAUSE_OVF)) (h11 : W (.fld F.PMC_INT_CAUSE_SMP_AVAIL)) (h12 : W (.fld F.PMC_INT_CAUSE_SMP_DROP)) (h13 : W (.fld F.PMC_OVF_STAT_OVF)) (h14 : W (.fld F.PMC_SMP_DROP_RING)) (h15 : W (.fld F.PMC_SMP_STAT_COUNT)) (h16 : W (.fld H.PMC_CNT)) (h17 : W (.fld H.PMC_OVF_DUE)) (h18 : W (.fld H.PMC_OVF_T)) (h19 : W (.fld H.PMC_RING)) (h20 : W (.fld H.PMC_TRACE_POS)) (a0 : Nat) (h : Moves W s₀ s) :
    Moves W s₀ (Sys2Proof.Machine.Mbx.masterReset a0 s) := by
  unfold Sys2Proof.Machine.Mbx.masterReset
  repeat' (first
    | with_reducible assumption
    | with_reducible apply Moves.clr
    | with_reducible apply Moves.each
    | with_reducible apply Moves.set
    | with_reducible apply Mbx_lockEvent_moves
    | with_reducible apply Mbx_cryBreak_moves
    | intro _
    | split
    | (extract_lets +onlyGivenNames x; first
      | (refine Moves.keep (W := W) (s₀ := s₀) x ?_ ?_; rotate_left; intro hx; clear_value x; rotate_right)
      | (refine Moves.keep (W := W) (s₀ := s₀) x.2 ?_ ?_; rotate_left; intro hx; clear_value x; rotate_right)
      | (refine Moves.keep (W := W) (s₀ := s₀) x.1 ?_ ?_; rotate_left; intro hx; clear_value x; rotate_right)
      | skip))

theorem Mbx_peerPost_moves {W : Part → Prop} {s₀ s : State} (h0 : W .qdr) (h1 : W (.fld F.MBX_DATA_DATA)) (h2 : W (.fld F.MBX_DB_PEND_CH)) (h3 : W (.fld F.MBX_INT_CAUSE_ACCESS_ERR)) (h4 : W (.fld F.MBX_INT_CAUSE_DOORBELL)) (h5 : W (.fld F.MBX_STAT_FULL)) (h6 : W (.fld F.MBX_STAT_LEN)) (h7 : W (.fld F.PMC_INT_CAUSE_OVF)) (h8 : W (.fld F.PMC_INT_CAUSE_SMP_AVAIL)) (h9 : W (.fld F.PMC_INT_CAUSE_SMP_DROP)) (h10 : W (.fld F.PMC_OVF_STAT_OVF)) (h11 : W (.fld F.PMC_SMP_DROP_RING)) (h12 : W (.fld F.PMC_SMP_STAT_COUNT)) (h13 : W (.fld H.PMC_CNT)) (h14 : W (.fld H.PMC_OVF_DUE)) (h15 : W (.fld H.PMC_OVF_T)) (h16 : W (.fld H.PMC_RING)) (h17 : W (.fld H.PMC_TRACE_POS)) (a0 : Nat) (a1 : List Nat) (h : Moves W s₀ s) :
    Moves W s₀ (Sys2Proof.Machine.Mbx.peerPost a0 a1 s) := by
  unfold Sys2Proof.Machine.Mbx.peerPost
  repeat' (first
    | with_reducible assumption
    | with_reducible apply Moves.eachOf
    | with_reducible apply Moves.put
    | with_reducible apply Mbx_accessErr_moves
    | with_reducible apply Mbx_post_moves
    | intro _
    | split
    | (extract_lets +onlyGivenNames x; first
      | (refine Moves.keep (W := W) (s₀ := s₀) x ?_ ?_; rotate_left; intro hx; clear_value x; rotate_right)
      | (refine Moves.keep (W := W) (s₀ := s₀) x.2 ?_ ?_; rotate_left; intro hx; clear_value x; rotate_right)
      | (refine Moves.keep (W := W) (s₀ := s₀) x.1 ?_ ?_; rotate_left; intro hx; clear_value x; rotate_right)
      | skip))

end Sys2Proof.Laws
end

