-- ==== Sys2Proof/Laws/MovesHsl.lean ====
section
/-! SUPPORT. Sys2Proof/Laws/MovesHsl.lean: what each operation of Machine/Hsl.lean may write (Laws/Moves.lean). -/
namespace Sys2Proof.Laws
open Sys2Proof Sys2Proof.Machine

theorem Hsl_move_moves {W : Part → Prop} {s₀ s : State} (h0 : W (.fld F.HSL_CLI_STAT_STATE)) (h1 : W (.fld F.HSL_INT_CAUSE_CLI_DOWN)) (h2 : W (.fld F.HSL_INT_CAUSE_CLI_UP)) (a0 : Nat) (a1 : Nat) (h : Moves W s₀ s) :
    Moves W s₀ (Sys2Proof.Machine.Hsl.move a0 a1 s) := by
  unfold Sys2Proof.Machine.Hsl.move
  repeat' (first
    | with_reducible assumption
    | with_reducible apply Moves.put
    | with_reducible apply Moves.set
    | intro _
    | split
    | (extract_lets +onlyGivenNames x; first
      | (refine Moves.keep (W := W) (s₀ := s₀) x ?_ ?_; rotate_left; intro hx; clear_value x; rotate_right)
      | (refine Moves.keep (W := W) (s₀ := s₀) x.2 ?_ ?_; rotate_left; intro hx; clear_value x; rotate_right)
      | (refine Moves.keep (W := W) (s₀ := s₀) x.1 ?_ ?_; rotate_left; intro hx; clear_value x; rotate_right)
      | skip))

theorem Hsl_steer_moves {W : Part → Prop} {s₀ s : State} (h0 : W (.fld H.HSL_NCO)) (h1 : W (.fld H.HSL_NCO_INT)) (a0 : Nat) (a1 : Int) (a2 : Nat) (h : Moves W s₀ s) :
    Moves W s₀ (Sys2Proof.Machine.Hsl.steer a0 a1 a2 s) := by
  unfold Sys2Proof.Machine.Hsl.steer
  repeat' (first
    | with_reducible assumption
    | with_reducible apply Moves.put
    | intro _
    | (extract_lets +onlyGivenNames x; first
      | (refine Moves.keep (W := W) (s₀ := s₀) x ?_ ?_; rotate_left; intro hx; clear_value x; rotate_right)
      | (refine Moves.keep (W := W) (s₀ := s₀) x.2 ?_ ?_; rotate_left; intro hx; clear_value x; rotate_right)
      | (refine Moves.keep (W := W) (s₀ := s₀) x.1 ?_ ?_; rotate_left; intro hx; clear_value x; rotate_right)
      | skip))

theorem Hsl_replace_moves {W : Part → Prop} {s₀ s : State} (h0 : W (.fld H.HSL_OUT)) (a0 : Nat) (h : Moves W s₀ s) :
    Moves W s₀ (Sys2Proof.Machine.Hsl.replace a0 s) := by
  unfold Sys2Proof.Machine.Hsl.replace
  repeat' (first
    | with_reducible assumption
    | with_reducible apply Moves.emit
    | with_reducible apply Moves.put
    | intro _)

theorem Hsl_squelch_moves {W : Part → Prop} {s₀ s : State} (h0 : W (.fld F.HSL_INT_CAUSE_RCLK_SQ)) (h1 : W (.fld F.HSL_RCLK_SEL_SQUELCHED)) (h : Moves W s₀ s) :
    Moves W s₀ (Sys2Proof.Machine.Hsl.squelch s) := by
  unfold Sys2Proof.Machine.Hsl.squelch
  repeat' (first
    | with_reducible assumption
    | with_reducible apply Moves.each
    | with_reducible apply Moves.put
    | with_reducible apply Moves.set
    | intro _
    | split
    | (extract_lets +onlyGivenNames x; first
      | (refine Moves.keep (W := W) (s₀ := s₀) x ?_ ?_; rotate_left; intro hx; clear_value x; rotate_right)
      | (refine Moves.keep (W := W) (s₀ := s₀) x.2 ?_ ?_; rotate_left; intro hx; clear_value x; rotate_right)
      | (refine Moves.keep (W := W) (s₀ := s₀) x.1 ?_ ?_; rotate_left; intro hx; clear_value x; rotate_right)
      | skip))

theorem Hsl_order_moves {W : Part → Prop} {s₀ s : State} (h0 : W (.fld F.HSL_CLI_STAT_ORDER)) (h1 : W (.fld F.HSL_CLI_STAT_STATE)) (h2 : W (.fld F.HSL_CLI_STAT_TX_REV)) (h3 : W (.fld F.HSL_INT_CAUSE_CLI_DOWN)) (h4 : W (.fld F.HSL_INT_CAUSE_CLI_UP)) (h5 : W (.fld H.HSL_HOLD_USED)) (h6 : W (.fld H.HSL_REV_USED)) (a0 : Nat) (h : Moves W s₀ s) :
    Moves W s₀ (Sys2Proof.Machine.Hsl.order a0 s) := by
  unfold Sys2Proof.Machine.Hsl.order
  repeat' (first
    | with_reducible assumption
    | with_reducible apply Moves.put
    | with_reducible apply Hsl_move_moves
    | intro _
    | split
    | (extract_lets +onlyGivenNames x; first
      | (refine Moves.keep (W := W) (s₀ := s₀) x ?_ ?_; rotate_left; intro hx; clear_value x; rotate_right)
      | (refine Moves.keep (W := W) (s₀ := s₀) x.2 ?_ ?_; rotate_left; intro hx; clear_value x; rotate_right)
      | (refine Moves.keep (W := W) (s₀ := s₀) x.1 ?_ ?_; rotate_left; intro hx; clear_value x; rotate_right)
      | skip))

theorem Hsl_climb_moves {W : Part → Prop} {s₀ s : State} (h0 : W (.fld F.HSL_CLI_STAT_ORDER)) (h1 : W (.fld F.HSL_CLI_STAT_STATE)) (h2 : W (.fld F.HSL_CLI_STAT_TX_REV)) (h3 : W (.fld F.HSL_INT_CAUSE_CLI_DOWN)) (h4 : W (.fld F.HSL_INT_CAUSE_CLI_UP)) (h5 : W (.fld H.HSL_HOLD_USED)) (h6 : W (.fld H.HSL_REV_USED)) (a0 : Nat) (h : Moves W s₀ s) :
    Moves W s₀ (Sys2Proof.Machine.Hsl.climb a0 s) := by
  unfold Sys2Proof.Machine.Hsl.climb
  repeat' (first
    | with_reducible assumption
    | with_reducible apply Hsl_move_moves
    | with_reducible apply Hsl_order_moves
    | intro _
    | split
    | (extract_lets +onlyGivenNames x; first
      | (refine Moves.keep (W := W) (s₀ := s₀) x ?_ ?_; rotate_left; intro hx; clear_value x; rotate_right)
      | (refine Moves.keep (W := W) (s₀ := s₀) x.2 ?_ ?_; rotate_left; intro hx; clear_value x; rotate_right)
      | (refine Moves.keep (W := W) (s₀ := s₀) x.1 ?_ ?_; rotate_left; intro hx; clear_value x; rotate_right)
      | skip))

theorem Hsl_fall_moves {W : Part → Prop} {s₀ s : State} (h0 : W (.fld F.HSL_CLI_STAT_STATE)) (h1 : W (.fld F.HSL_INT_CAUSE_CLI_DOWN)) (h2 : W (.fld F.HSL_INT_CAUSE_CLI_UP)) (a0 : Nat) (a1 : Nat) (h : Moves W s₀ s) :
    Moves W s₀ (Sys2Proof.Machine.Hsl.fall a0 a1 s) := by
  unfold Sys2Proof.Machine.Hsl.fall
  repeat' (first
    | with_reducible assumption
    | with_reducible apply Hsl_move_moves
    | intro _
    | split)

theorem Hsl_onLane_moves {W : Part → Prop} {s₀ s : State} (h0 : W (.fld F.HSL_INT_CAUSE_RCLK_SQ)) (h1 : W (.fld F.HSL_RCLK_SEL_SQUELCHED)) (a0 : Nat) (a1 : Nat → Sys2Proof.Machine.State → Sys2Proof.Machine.State) (hf1 : ∀ b0 b1, Moves W s₀ b1 → Moves W s₀ (a1 b0 b1)) (h : Moves W s₀ s) :
    Moves W s₀ (Sys2Proof.Machine.Hsl.onLane a0 a1 s) := by
  unfold Sys2Proof.Machine.Hsl.onLane
  repeat' (first
    | with_reducible assumption
    | with_reducible apply Hsl_squelch_moves
    | with_reducible apply hf1
    | intro _
    | split)

theorem Hsl_signalDetect_moves {W : Part → Prop} {s₀ s : State} (h0 : W (.fld F.HSL_CLI_STAT_ORDER)) (h1 : W (.fld F.HSL_CLI_STAT_STATE)) (h2 : W (.fld F.HSL_CLI_STAT_TX_REV)) (h3 : W (.fld F.HSL_INT_CAUSE_CLI_DOWN)) (h4 : W (.fld F.HSL_INT_CAUSE_CLI_UP)) (h5 : W (.fld F.HSL_INT_CAUSE_RCLK_SQ)) (h6 : W (.fld F.HSL_LANE_STAT_SIG)) (h7 : W (.fld F.HSL_RCLK_SEL_SQUELCHED)) (h8 : W (.fld H.HSL_HOLD_USED)) (h9 : W (.fld H.HSL_REV_USED)) (a0 : Nat) (h : Moves W s₀ s) :
    Moves W s₀ (Sys2Proof.Machine.Hsl.signalDetect a0 s) := by
  unfold Sys2Proof.Machine.Hsl.signalDetect
  repeat' (first
    | with_reducible assumption
    | with_reducible apply Moves.set
    | with_reducible apply Hsl_onLane_moves
    | with_reducible apply Hsl_climb_moves
    | intro _)

theorem Hsl_loseMarkers_moves {W : Part → Prop} {s₀ s : State} (h0 : W (.fld F.HSL_LANE_STAT_AM_LOCK)) (a0 : Nat) (h : Moves W s₀ s) :
    Moves W s₀ (Sys2Proof.Machine.Hsl.loseMarkers a0 s) := by
  unfold Sys2Proof.Machine.Hsl.loseMarkers
  repeat' (first
    | with_reducible assumption
    | with_reducible apply Moves.clr
    | intro _)

theorem Hsl_loseCdr_moves {W : Part → Prop} {s₀ s : State} (h0 : W (.fld F.HSL_LANE_STAT_AM_LOCK)) (h1 : W (.fld F.HSL_LANE_STAT_CDR_LOCK)) (a0 : Nat) (h : Moves W s₀ s) :
    Moves W s₀ (Sys2Proof.Machine.Hsl.loseCdr a0 s) := by
  unfold Sys2Proof.Machine.Hsl.loseCdr
  repeat' (first
    | with_reducible assumption
    | with_reducible apply Moves.clr
    | with_reducible apply Hsl_loseMarkers_moves
    | intro _)

theorem Hsl_signalLoss_moves {W : Part → Prop} {s₀ s : State} (h0 : W (.fld F.HSL_CLI_STAT_STATE)) (h1 : W (.fld F.HSL_INT_CAUSE_CLI_DOWN)) (h2 : W (.fld F.HSL_INT_CAUSE_CLI_UP)) (h3 : W (.fld F.HSL_INT_CAUSE_RCLK_SQ)) (h4 : W (.fld F.HSL_LANE_STAT_AM_LOCK)) (h5 : W (.fld F.HSL_LANE_STAT_CDR_LOCK)) (h6 : W (.fld F.HSL_LANE_STAT_LOCK_LOST)) (h7 : W (.fld F.HSL_LANE_STAT_SIG)) (h8 : W (.fld F.HSL_RCLK_SEL_SQUELCHED)) (a0 : Nat) (h : Moves W s₀ s) :
    Moves W s₀ (Sys2Proof.Machine.Hsl.signalLoss a0 s) := by
  unfold Sys2Proof.Machine.Hsl.signalLoss
  repeat' (first
    | with_reducible assumption
    | with_reducible apply Moves.clr
    | with_reducible apply Moves.count
    | with_reducible apply Hsl_onLane_moves
    | with_reducible apply Hsl_fall_moves
    | with_reducible apply Hsl_loseCdr_moves
    | intro _
    | split
    | (extract_lets +onlyGivenNames x; first
      | (refine Moves.keep (W := W) (s₀ := s₀) x ?_ ?_; rotate_left; intro hx; clear_value x; rotate_right)
      | (refine Moves.keep (W := W) (s₀ := s₀) x.2 ?_ ?_; rotate_left; intro hx; clear_value x; rotate_right)
      | (refine Moves.keep (W := W) (s₀ := s₀) x.1 ?_ ?_; rotate_left; intro hx; clear_value x; rotate_right)
      | skip))

theorem Hsl_cdrLock_moves {W : Part → Prop} {s₀ s : State} (h0 : W (.fld F.HSL_CLI_STAT_ORDER)) (h1 : W (.fld F.HSL_CLI_STAT_STATE)) (h2 : W (.fld F.HSL_CLI_STAT_TX_REV)) (h3 : W (.fld F.HSL_INT_CAUSE_CLI_DOWN)) (h4 : W (.fld F.HSL_INT_CAUSE_CLI_UP)) (h5 : W (.fld F.HSL_INT_CAUSE_RCLK_SQ)) (h6 : W (.fld F.HSL_LANE_STAT_CDR_LOCK)) (h7 : W (.fld F.HSL_RCLK_SEL_SQUELCHED)) (h8 : W (.fld H.HSL_HOLD_USED)) (h9 : W (.fld H.HSL_REV_USED)) (a0 : Nat) (h : Moves W s₀ s) :
    Moves W s₀ (Sys2Proof.Machine.Hsl.cdrLock a0 s) := by
  unfold Sys2Proof.Machine.Hsl.cdrLock
  repeat' (first
    | with_reducible assumption
    | with_reducible apply Moves.set
    | with_reducible apply Hsl_onLane_moves
    | with_reducible apply Hsl_climb_moves
    | intro _
    | split)

theorem Hsl_cdrLoss_moves {W : Part → Prop} {s₀ s : State} (h0 : W (.fld F.HSL_CLI_STAT_STATE)) (h1 : W (.fld F.HSL_INT_CAUSE_CLI_DOWN)) (h2 : W (.fld F.HSL_INT_CAUSE_CLI_UP)) (h3 : W (.fld F.HSL_INT_CAUSE_RCLK_SQ)) (h4 : W (.fld F.HSL_LANE_STAT_AM_LOCK)) (h5 : W (.fld F.HSL_LANE_STAT_CDR_LOCK)) (h6 : W (.fld F.HSL_LANE_STAT_LOCK_LOST)) (h7 : W (.fld F.HSL_RCLK_SEL_SQUELCHED)) (a0 : Nat) (h : Moves W s₀ s) :
    Moves W s₀ (Sys2Proof.Machine.Hsl.cdrLoss a0 s) := by
  unfold Sys2Proof.Machine.Hsl.cdrLoss
  repeat' (first
    | with_reducible assumption
    | with_reducible apply Moves.count
    | with_reducible apply Hsl_onLane_moves
    | with_reducible apply Hsl_fall_moves
    | with_reducible apply Hsl_loseCdr_moves
    | intro _
    | split)

theorem Hsl_laneLock_moves {W : Part → Prop} {s₀ s : State} (h0 : W (.fld F.HSL_CLI_STAT_ORDER)) (h1 : W (.fld F.HSL_CLI_STAT_STATE)) (h2 : W (.fld F.HSL_CLI_STAT_TX_REV)) (h3 : W (.fld F.HSL_INT_CAUSE_CLI_DOWN)) (h4 : W (.fld F.HSL_INT_CAUSE_CLI_UP)) (h5 : W (.fld F.HSL_INT_CAUSE_RCLK_SQ)) (h6 : W (.fld F.HSL_LANE_STAT_AM_LOCK)) (h7 : W (.fld F.HSL_LANE_STAT_LANE_ID)) (h8 : W (.fld F.HSL_LANE_STAT_RX_INV)) (h9 : W (.fld F.HSL_RCLK_SEL_SQUELCHED)) (h10 : W (.fld H.HSL_HOLD_USED)) (h11 : W (.fld H.HSL_REV_USED)) (a0 : Nat) (a1 : Nat) (a2 : Nat) (h : Moves W s₀ s) :
    Moves W s₀ (Sys2Proof.Machine.Hsl.laneLock a0 a1 a2 s) := by
  unfold Sys2Proof.Machine.Hsl.laneLock
  repeat' (first
    | with_reducible assumption
    | with_reducible apply Moves.put
    | with_reducible apply Moves.set
    | with_reducible apply Hsl_onLane_moves
    | with_reducible apply Hsl_climb_moves
    | intro _
    | split
    | (extract_lets +onlyGivenNames x; first
      | (refine Moves.keep (W := W) (s₀ := s₀) x ?_ ?_; rotate_left; intro hx; clear_value x; rotate_right)
      | (refine Moves.keep (W := W) (s₀ := s₀) x.2 ?_ ?_; rotate_left; intro hx; clear_value x; rotate_right)
      | (refine Moves.keep (W := W) (s₀ := s₀) x.1 ?_ ?_; rotate_left; intro hx; clear_value x; rotate_right)
      | skip))

theorem Hsl_markerLoss_moves {W : Part → Prop} {s₀ s : State} (h0 : W (.fld F.HSL_CLI_STAT_STATE)) (h1 : W (.fld F.HSL_INT_CAUSE_CLI_DOWN)) (h2 : W (.fld F.HSL_INT_CAUSE_CLI_UP)) (h3 : W (.fld F.HSL_INT_CAUSE_RCLK_SQ)) (h4 : W (.fld F.HSL_LANE_STAT_AM_LOCK)) (h5 : W (.fld F.HSL_LANE_STAT_LOCK_LOST)) (h6 : W (.fld F.HSL_RCLK_SEL_SQUELCHED)) (a0 : Nat) (h : Moves W s₀ s) :
    Moves W s₀ (Sys2Proof.Machine.Hsl.markerLoss a0 s) := by
  unfold Sys2Proof.Machine.Hsl.markerLoss
  repeat' (first
    | with_reducible assumption
    | with_reducible apply Moves.count
    | with_reducible apply Hsl_onLane_moves
    | with_reducible apply Hsl_fall_moves
    | with_reducible apply Hsl_loseMarkers_moves
    | intro _
    | split)

theorem Hsl_egressOrder_moves {W : Part → Prop} {s₀ s : State} (h0 : W (.fld F.HSL_INT_CAUSE_ORDER_CHG)) (h1 : W (.fld H.HSL_EGRESS_REV)) (a0 : Nat) (h : Moves W s₀ s) :
    Moves W s₀ (Sys2Proof.Machine.Hsl.egressOrder a0 s) := by
  unfold Sys2Proof.Machine.Hsl.egressOrder
  repeat' (first
    | with_reducible assumption
    | with_reducible apply Moves.put
    | with_reducible apply Moves.set
    | intro _
    | split
    | (extract_lets +onlyGivenNames x; first
      | (refine Moves.keep (W := W) (s₀ := s₀) x ?_ ?_; rotate_left; intro hx; clear_value x; rotate_right)
      | (refine Moves.keep (W := W) (s₀ := s₀) x.2 ?_ ?_; rotate_left; intro hx; clear_value x; rotate_right)
      | (refine Moves.keep (W := W) (s₀ := s₀) x.1 ?_ ?_; rotate_left; intro hx; clear_value x; rotate_right)
      | skip))

theorem Hsl_deskew_moves {W : Part → Prop} {s₀ s : State} (h0 : W (.fld F.HSL_CLI_DSK_APPLIED)) (h1 : W (.fld F.HSL_CLI_DSK_MEAS)) (h2 : W (.fld F.HSL_CLI_STAT_DSK_OVER)) (h3 : W (.fld F.HSL_CLI_STAT_DSK_RANGE)) (h4 : W (.fld F.HSL_CLI_STAT_STATE)) (h5 : W (.fld F.HSL_INT_CAUSE_CLI_DOWN)) (h6 : W (.fld F.HSL_INT_CAUSE_CLI_UP)) (h7 : W (.fld F.HSL_INT_CAUSE_DSK_OVER)) (h8 : W (.fld F.HSL_INT_CAUSE_DSK_RANGE)) (a0 : Nat) (a1 : Nat) (h : Moves W s₀ s) :
    Moves W s₀ (Sys2Proof.Machine.Hsl.deskew a0 a1 s) := by
  unfold Sys2Proof.Machine.Hsl.deskew
  repeat' (first
    | with_reducible assumption
    | with_reducible apply Moves.clr
    | with_reducible apply Moves.put
    | with_reducible apply Moves.set
    | with_reducible apply Hsl_move_moves
    | intro _
    | split
    | (extract_lets +onlyGivenNames x; first
      | (refine Moves.keep (W := W) (s₀ := s₀) x ?_ ?_; rotate_left; intro hx; clear_value x; rotate_right)
      | (refine Moves.keep (W := W) (s₀ := s₀) x.2 ?_ ?_; rotate_left; intro hx; clear_value x; rotate_right)
      | (refine Moves.keep (W := W) (s₀ := s₀) x.1 ?_ ?_; rotate_left; intro hx; clear_value x; rotate_right)
      | skip))

theorem Hsl_linkTimeout_moves {W : Part → Prop} {s₀ s : State} (h0 : W (.fld F.HSL_CLI_STAT_RETRY)) (h1 : W (.fld F.HSL_CLI_STAT_STATE)) (h2 : W (.fld F.HSL_INT_CAUSE_CLI_DOWN)) (h3 : W (.fld F.HSL_INT_CAUSE_CLI_UP)) (h4 : W (.fld F.HSL_INT_CAUSE_RCLK_SQ)) (h5 : W (.fld F.HSL_LANE_STAT_AM_LOCK)) (h6 : W (.fld F.HSL_LANE_STAT_CDR_LOCK)) (h7 : W (.fld F.HSL_RCLK_SEL_SQUELCHED)) (a0 : Nat) (a1 : Nat) (h : Moves W s₀ s) :
    Moves W s₀ (Sys2Proof.Machine.Hsl.linkTimeout a0 a1 s) := by
  unfold Sys2Proof.Machine.Hsl.linkTimeout
  repeat' (first
    | with_reducible assumption
    | with_reducible apply Moves.count
    | with_reducible apply Moves.eachOf
    | with_reducible apply Hsl_squelch_moves
    | with_reducible apply Hsl_move_moves
    | with_reducible apply Hsl_loseCdr_moves
    | intro _
    | split
    | (extract_lets +onlyGivenNames x; first
      | (refine Moves.keep (W := W) (s₀ := s₀) x ?_ ?_; rotate_left; intro hx; clear_value x; rotate_right)
      | (refine Moves.keep (W := W) (s₀ := s₀) x.2 ?_ ?_; rotate_left; intro hx; clear_value x; rotate_right)
      | (refine Moves.keep (W := W) (s₀ := s₀) x.1 ?_ ?_; rotate_left; intro hx; clear_value x; rotate_right)
      | skip))

theorem Hsl_startOrder_moves {W : Part → Prop} {s₀ s : State} (h0 : W (.fld F.HSL_CLI_STAT_TX_REV)) (h1 : W (.fld H.HSL_EGRESS_REV)) (h2 : W (.fld H.HSL_REV_USED)) (a0 : Nat) (h : Moves W s₀ s) :
    Moves W s₀ (Sys2Proof.Machine.Hsl.startOrder a0 s) := by
  unfold Sys2Proof.Machine.Hsl.startOrder
  repeat' (first
    | with_reducible assumption
    | with_reducible apply Moves.put
    | intro _
    | (extract_lets +onlyGivenNames x; first
      | (refine Moves.keep (W := W) (s₀ := s₀) x ?_ ?_; rotate_left; intro hx; clear_value x; rotate_right)
      | (refine Moves.keep (W := W) (s₀ := s₀) x.2 ?_ ?_; rotate_left; intro hx; clear_value x; rotate_right)
      | (refine Moves.keep (W := W) (s₀ := s₀) x.1 ?_ ?_; rotate_left; intro hx; clear_value x; rotate_right)
      | skip))

theorem Hsl_enable_moves {W : Part → Prop} {s₀ s : State} (h0 : W (.fld F.HSL_CLI_CFG_EN)) (h1 : W (.fld F.HSL_CLI_STAT_CFG_STEP)) (h2 : W (.fld F.HSL_CLI_STAT_STATE)) (h3 : W (.fld F.HSL_CLI_STAT_TX_REV)) (h4 : W (.fld F.HSL_INT_CAUSE_CFG_ERR)) (h5 : W (.fld F.HSL_INT_CAUSE_CLI_DOWN)) (h6 : W (.fld F.HSL_INT_CAUSE_CLI_UP)) (h7 : W (.fld F.HSL_INT_CAUSE_RCLK_SQ)) (h8 : W (.fld F.HSL_RCLK_SEL_SQUELCHED)) (h9 : W (.fld F.SYS_INT_CAUSE_ROLE_LIMIT)) (h10 : W (.fld H.HSL_EGRESS_REV)) (h11 : W (.fld H.HSL_OUT)) (h12 : W (.fld H.HSL_REV_USED)) (a0 : Nat) (h : Moves W s₀ s) :
    Moves W s₀ (Sys2Proof.Machine.Hsl.enable a0 s) := by
  unfold Sys2Proof.Machine.Hsl.enable
  repeat' (first
    | with_reducible assumption
    | with_reducible apply Moves.clr
    | with_reducible apply Moves.put
    | with_reducible apply Moves.set
    | with_reducible apply Hsl_squelch_moves
    | with_reducible apply Hsl_move_moves
    | with_reducible apply Hsl_replace_moves
    | with_reducible apply Hsl_startOrder_moves
    | intro _
    | split
    | (extract_lets +onlyGivenNames x; first
      | (refine Moves.keep (W := W) (s₀ := s₀) x ?_ ?_; rotate_left; intro hx; clear_value x; rotate_right)
      | (refine Moves.keep (W := W) (s₀ := s₀) x.2 ?_ ?_; rotate_left; intro hx; clear_value x; rotate_right)
      | (refine Moves.keep (W := W) (s₀ := s₀) x.1 ?_ ?_; rotate_left; intro hx; clear_value x; rotate_right)
      | skip))

theorem Hsl_powerDown_moves {W : Part → Prop} {s₀ s : State} (h0 : W (.fld F.HSL_LANE_STAT_AM_LOCK)) (h1 : W (.fld F.HSL_LANE_STAT_CDR_LOCK)) (h2 : W (.fld F.HSL_LANE_STAT_RX_INV)) (h3 : W (.fld F.HSL_LANE_STAT_SIG)) (a0 : Nat) (h : Moves W s₀ s) :
    Moves W s₀ (Sys2Proof.Machine.Hsl.powerDown a0 s) := by
  unfold Sys2Proof.Machine.Hsl.powerDown
  repeat' (first
    | with_reducible assumption
    | with_reducible apply Moves.clr
    | with_reducible apply Hsl_loseCdr_moves
    | intro _)

theorem Hsl_disable_moves {W : Part → Prop} {s₀ s : State} (h0 : W (.fld F.HSL_CLI_CFG_EN)) (h1 : W (.fld F.HSL_CLI_STAT_STATE)) (h2 : W (.fld F.HSL_INT_CAUSE_CLI_DOWN)) (h3 : W (.fld F.HSL_INT_CAUSE_CLI_UP)) (h4 : W (.fld F.HSL_INT_CAUSE_RCLK_SQ)) (h5 : W (.fld F.HSL_LANE_STAT_AM_LOCK)) (h6 : W (.fld F.HSL_LANE_STAT_CDR_LOCK)) (h7 : W (.fld F.HSL_LANE_STAT_RX_INV)) (h8 : W (.fld F.HSL_LANE_STAT_SIG)) (h9 : W (.fld F.HSL_RCLK_SEL_SQUELCHED)) (h10 : W (.fld H.HSL_OUT)) (a0 : Nat) (h : Moves W s₀ s) :
    Moves W s₀ (Sys2Proof.Machine.Hsl.disable a0 s) := by
  unfold Sys2Proof.Machine.Hsl.disable
  repeat' (first
    | with_reducible assumption
    | with_reducible apply Moves.clr
    | with_reducible apply Moves.eachOf
    | with_reducible apply Hsl_squelch_moves
    | with_reducible apply Hsl_move_moves
    | with_reducible apply Hsl_powerDown_moves
    | intro _
    | split)

theorem Hsl_writeCliCfg_moves {W : Part → Prop} {s₀ s : State} (h0 : W (.fld F.HSL_CLI_CFG_DSK_HOLD)) (h1 : W (.fld F.HSL_CLI_CFG_EN)) (h2 : W (.fld F.HSL_CLI_CFG_FIRST_LANE)) (h3 : W (.fld F.HSL_CLI_CFG_JT_BW)) (h4 : W (.fld F.HSL_CLI_CFG_M_M1)) (h5 : W (.fld F.HSL_CLI_CFG_REV_MODE)) (h6 : W (.fld F.HSL_CLI_CFG_TCLK)) (h7 : W (.fld F.HSL_CLI_CFG_TYPE)) (h8 : W (.fld F.HSL_CLI_STAT_CFG_STEP)) (h9 : W (.fld F.HSL_CLI_STAT_STATE)) (h10 : W (.fld F.HSL_CLI_STAT_TX_REV)) (h11 : W (.fld F.HSL_INT_CAUSE_CFG_ERR)) (h12 : W (.fld F.HSL_INT_CAUSE_CLI_DOWN)) (h13 : W (.fld F.HSL_INT_CAUSE_CLI_UP)) (h14 : W (.fld F.HSL_INT_CAUSE_RCLK_SQ)) (h15 : W (.fld F.HSL_LANE_STAT_AM_LOCK)) (h16 : W (.fld F.HSL_LANE_STAT_CDR_LOCK)) (h17 : W (.fld F.HSL_LANE_STAT_RX_INV)) (h18 : W (.fld F.HSL_LANE_STAT_SIG)) (h19 : W (.fld F.HSL_RCLK_SEL_SQUELCHED)) (h20 : W (.fld F.SYS_INT_CAUSE_ROLE_LIMIT)) (h21 : W (.fld H.HSL_EGRESS_REV)) (h22 : W (.fld H.HSL_OUT)) (h23 : W (.fld H.HSL_REV_USED)) (a0 : Nat) (a1 : Nat) (h : Moves W s₀ s) :
    Moves W s₀ (Sys2Proof.Machine.Hsl.writeCliCfg a0 a1 s) := by
  unfold Sys2Proof.Machine.Hsl.writeCliCfg
  repeat' (first
    | with_reducible assumption
    | with_reducible apply Moves.put
    | with_reducible apply Moves.set
    | with_reducible apply Hsl_enable_moves
    | with_reducible apply Hsl_disable_moves
    | intro _
    | split
    | (extract_lets +onlyGivenNames x; first
      | (refine Moves.keep (W := W) (s₀ := s₀) x ?_ ?_; rotate_left; intro hx; clear_value x; rotate_right)
      | (refine Moves.keep (W := W) (s₀ := s₀) x.2 ?_ ?_; rotate_left; intro hx; clear_value x; rotate_right)
      | (refine Moves.keep (W := W) (s₀ := s₀) x.1 ?_ ?_; rotate_left; intro hx; clear_value x; rotate_right)
      | skip))

theorem Hsl_writeCtrl_moves {W : Part → Prop} {s₀ s : State} (h0 : W (.fld F.HSL_CLI_STAT_STATE)) (h1 : W (.fld F.HSL_CTRL_GRP_EN)) (h2 : W (.fld F.HSL_INT_CAUSE_CLI_DOWN)) (h3 : W (.fld F.HSL_INT_CAUSE_CLI_UP)) (h4 : W (.fld F.HSL_INT_CAUSE_RCLK_SQ)) (h5 : W (.fld F.HSL_LANE_STAT_AM_LOCK)) (h6 : W (.fld F.HSL_LANE_STAT_CDR_LOCK)) (h7 : W (.fld F.HSL_LANE_STAT_LOCK_LOST)) (h8 : W (.fld F.HSL_LANE_STAT_SIG)) (h9 : W (.fld F.HSL_RCLK_SEL_SQUELCHED)) (h10 : W (.fld F.SYS_INT_CAUSE_ROLE_LIMIT)) (a0 : Nat) (h : Moves W s₀ s) :
    Moves W s₀ (Sys2Proof.Machine.Hsl.writeCtrl a0 s) := by
  unfold Sys2Proof.Machine.Hsl.writeCtrl
  repeat' (first
    | with_reducible assumption
    | with_reducible apply Moves.each
    | with_reducible apply Moves.put
    | with_reducible apply Moves.set
    | with_reducible apply Hsl_signalLoss_moves
    | intro _
    | split
    | (extract_lets +onlyGivenNames x; first
      | (refine Moves.keep (W := W) (s₀ := s₀) x ?_ ?_; rotate_left; intro hx; clear_value x; rotate_right)
      | (refine Moves.keep (W := W) (s₀ := s₀) x.2 ?_ ?_; rotate_left; intro hx; clear_value x; rotate_right)
      | (refine Moves.keep (W := W) (s₀ := s₀) x.1 ?_ ?_; rotate_left; intro hx; clear_value x; rotate_right)
      | skip))

theorem Hsl_writeRclk_moves {W : Part → Prop} {s₀ s : State} (h0 : W (.fld F.HSL_INT_CAUSE_RCLK_SQ)) (h1 : W (.fld F.HSL_RCLK_SEL_EN)) (h2 : W (.fld F.HSL_RCLK_SEL_LANE)) (h3 : W (.fld F.HSL_RCLK_SEL_SQUELCHED)) (a0 : Nat) (a1 : Nat) (h : Moves W s₀ s) :
    Moves W s₀ (Sys2Proof.Machine.Hsl.writeRclk a0 a1 s) := by
  unfold Sys2Proof.Machine.Hsl.writeRclk
  repeat' (first
    | with_reducible assumption
    | with_reducible apply Moves.put
    | with_reducible apply Hsl_squelch_moves
    | intro _)

theorem Hsl_latch_moves {W : Part → Prop} {s₀ s : State} (h0 : W (.fld F.HSL_CLI_FEC_COUNT)) (h1 : W (.fld F.HSL_CLI_STAT_HI_SER)) (h2 : W (.fld F.HSL_CLI_STAT_RX_LF)) (h3 : W (.fld F.HSL_CLI_STAT_RX_RF)) (h4 : W (.fld F.HSL_INT_CAUSE_HI_SER)) (a0 : List (List Nat)) (h : Moves W s₀ s) :
    Moves W s₀ (Sys2Proof.Machine.Hsl.latch a0 s) := by
  unfold Sys2Proof.Machine.Hsl.latch
  repeat' (first
    | with_reducible assumption
    | with_reducible apply Moves.each
    | with_reducible apply Moves.put
    | with_reducible apply Moves.set
    | intro _
    | split
    | (extract_lets +onlyGivenNames x; first
      | (refine Moves.keep (W := W) (s₀ := s₀) x ?_ ?_; rotate_left; intro hx; clear_value x; rotate_right)
      | (refine Moves.keep (W := W) (s₀ := s₀) x.2 ?_ ?_; rotate_left; intro hx; clear_value x; rotate_right)
      | (refine Moves.keep (W := W) (s₀ := s₀) x.1 ?_ ?_; rotate_left; intro hx; clear_value x; rotate_right)
      | skip))

end Sys2Proof.Laws
end

