-- ==== Sys2Proof/Laws/MovesRest.lean ====
section
/-! SUPPORT. Sys2Proof/Laws/MovesRest.lean: what each operation of Machine/Rest.lean may write (Laws/Moves.lean). -/
namespace Sys2Proof.Laws
open Sys2Proof Sys2Proof.Machine

theorem Rest_replaced_moves {W : Part → Prop} {s₀ s : State} (h0 : W (.fld H.HSL_OUT)) (h : Moves W s₀ s) :
    Moves W s₀ (Sys2Proof.Machine.Rest.replaced s) := by
  unfold Sys2Proof.Machine.Rest.replaced
  repeat' (first
    | with_reducible assumption
    | with_reducible apply Moves.each
    | with_reducible apply Hsl_replace_moves
    | intro _
    | split)

theorem Rest_enter_moves {W : Part → Prop} {s₀ s : State} (h0 : W (.fld F.LTX_STAT_MUTE_SRC)) (h1 : W (.fld F.PWR_INT_CAUSE_REST_REFUSED)) (h2 : W (.fld F.PWR_REST_STAT_ERR)) (h3 : W (.fld F.PWR_REST_STAT_STATE)) (h4 : W (.fld H.HSL_OUT)) (h5 : W (.fld H.LTX_OUTPUT)) (h6 : W (.fld H.PWR_WAKE_PEND)) (h : Moves W s₀ s) :
    Moves W s₀ (Sys2Proof.Machine.Rest.enter s).2 := by
  unfold Sys2Proof.Machine.Rest.enter
  repeat' (first
    | with_reducible assumption
    | with_reducible apply Moves.clr
    | with_reducible apply Moves.put
    | with_reducible apply Moves.set
    | with_reducible apply Rest_replaced_moves
    | with_reducible apply Ltx_mute_moves
    | intro _
    | split
    | (extract_lets +onlyGivenNames x; first
      | (refine Moves.keep (W := W) (s₀ := s₀) x ?_ ?_; rotate_left; intro hx; clear_value x; rotate_right)
      | (refine Moves.keep (W := W) (s₀ := s₀) x.2 ?_ ?_; rotate_left; intro hx; clear_value x; rotate_right)
      | (refine Moves.keep (W := W) (s₀ := s₀) x.1 ?_ ?_; rotate_left; intro hx; clear_value x; rotate_right)
      | skip))

theorem Rest_begin_moves {W : Part → Prop} {s₀ s : State} (h0 : W (.fld F.PWR_AVS_READ_BUSY)) (h1 : W (.fld F.PWR_REST_STAT_STATE)) (h2 : W (.fld F.PWR_VMIN_VREQ_MV)) (h3 : W (.fld H.PWR_TARGET)) (h4 : W (.fld H.PWR_VMIN_ASKED)) (h5 : W (.fld H.PWR_VMIN_FAILED)) (h6 : W (.fld H.PWR_VMIN_WAITS)) (h : Moves W s₀ s) :
    Moves W s₀ (Sys2Proof.Machine.Rest.begin s) := by
  unfold Sys2Proof.Machine.Rest.begin
  repeat' (first
    | with_reducible assumption
    | with_reducible apply Moves.put
    | with_reducible apply Moves.set
    | with_reducible apply Pwr_askVmin_moves
    | intro _
    | split
    | (extract_lets +onlyGivenNames x; first
      | (refine Moves.keep (W := W) (s₀ := s₀) x ?_ ?_; rotate_left; intro hx; clear_value x; rotate_right)
      | (refine Moves.keep (W := W) (s₀ := s₀) x.2 ?_ ?_; rotate_left; intro hx; clear_value x; rotate_right)
      | (refine Moves.keep (W := W) (s₀ := s₀) x.1 ?_ ?_; rotate_left; intro hx; clear_value x; rotate_right)
      | skip))

theorem Rest_wake_moves {W : Part → Prop} {s₀ s : State} (h0 : W (.fld F.PWR_AVS_READ_BUSY)) (h1 : W (.fld F.PWR_REST_STAT_STATE)) (h2 : W (.fld F.PWR_VMIN_VREQ_MV)) (h3 : W (.fld H.PWR_TARGET)) (h4 : W (.fld H.PWR_VMIN_ASKED)) (h5 : W (.fld H.PWR_VMIN_FAILED)) (h6 : W (.fld H.PWR_VMIN_WAITS)) (h7 : W (.fld H.PWR_WAKE_PEND)) (h : Moves W s₀ s) :
    Moves W s₀ (Sys2Proof.Machine.Rest.wake s) := by
  unfold Sys2Proof.Machine.Rest.wake
  repeat' (first
    | with_reducible assumption
    | with_reducible apply Moves.set
    | with_reducible apply Rest_begin_moves
    | intro _
    | split)

end Sys2Proof.Laws
end

