-- ==== Sys2Proof/Laws/MovesVlkLeaf.lean ====
section
/-! SUPPORT. Sys2Proof/Laws/MovesVlkLeaf.lean: what each operation of Machine/VlkLeaf.lean may write (Laws/Moves.lean). -/
namespace Sys2Proof.Laws
open Sys2Proof Sys2Proof.Machine

theorem Vlk_silence_moves {W : Part → Prop} {s₀ s : State} (h0 : W (.fld F.LTX_CTRL_MUTE)) (h1 : W (.fld F.LTX_STAT_MUTE_SRC)) (h2 : W (.fld F.VLK_SELF_SILENT)) (h3 : W (.fld H.LTX_OUTPUT)) (h4 : W (.fld H.PEER_MUTE_WAS)) (h : Moves W s₀ s) :
    Moves W s₀ (Sys2Proof.Machine.Vlk.silence s) := by
  unfold Sys2Proof.Machine.Vlk.silence
  repeat' (first
    | with_reducible assumption
    | with_reducible apply Moves.set
    | with_reducible apply Ltx_hostMute_moves
    | intro _)

theorem Vlk_attemptFrom_moves {W : Part → Prop} {s₀ s : State} (h0 : W (.fld H.VLK_REG_BASE)) (h : Moves W s₀ s) :
    Moves W s₀ (Sys2Proof.Machine.Vlk.attemptFrom s) := by
  unfold Sys2Proof.Machine.Vlk.attemptFrom
  repeat' (first
    | with_reducible assumption
    | with_reducible apply Moves.put
    | intro _)

theorem Vlk_setState_moves {W : Part → Prop} {s₀ s : State} (h0 : W .qdr) (h1 : W (.fld F.CRY_KEY_DATA_KEY)) (h2 : W (.fld F.CRY_KEY_SALT_SALT)) (h3 : W (.fld F.CRY_LOCK_STAT_LOCK_BROKEN)) (h4 : W (.fld F.CRY_LOCK_STAT_OWNER)) (h5 : W (.fld F.LTX_CTRL_MUTE)) (h6 : W (.fld F.LTX_STAT_MUTE_SRC)) (h7 : W (.fld F.MBX_INT_CAUSE_RESET_SEEN)) (h8 : W (.fld F.MBX_LOCK_STAT_LOCK_BROKEN)) (h9 : W (.fld F.MBX_LOCK_STAT_OWNER)) (h10 : W (.fld F.MBX_STAT_RX_RESET_SEEN)) (h11 : W (.fld F.MBX_STAT_SENDER_RESET_SEEN)) (h12 : W (.fld F.PMC_INT_CAUSE_OVF)) (h13 : W (.fld F.PMC_INT_CAUSE_SMP_AVAIL)) (h14 : W (.fld F.PMC_INT_CAUSE_SMP_DROP)) (h15 : W (.fld F.PMC_OVF_STAT_OVF)) (h16 : W (.fld F.PMC_SMP_DROP_RING)) (h17 : W (.fld F.PMC_SMP_STAT_COUNT)) (h18 : W (.fld F.VLK_INT_CAUSE_LEAF_LOST)) (h19 : W (.fld F.VLK_INT_CAUSE_STATE_CHG)) (h20 : W (.fld F.VLK_SELF_LEAF)) (h21 : W (.fld F.VLK_SELF_SILENT)) (h22 : W (.fld F.VLK_SELF_STATE)) (h23 : W (.fld H.LTX_OUTPUT)) (h24 : W (.fld H.PEER_MUTE_WAS)) (h25 : W (.fld H.PMC_CNT)) (h26 : W (.fld H.PMC_OVF_DUE)) (h27 : W (.fld H.PMC_OVF_T)) (h28 : W (.fld H.PMC_RING)) (h29 : W (.fld H.PMC_TRACE_POS)) (h30 : W (.fld H.VLK_ATTEMPT)) (h31 : W (.fld H.VLK_LISTENING)) (h32 : W (.fld H.VLK_PREV_LEAF)) (h33 : W (.fld H.VLK_REG_BASE)) (h34 : W (.fld H.VLK_REG_WAIT)) (h35 : W (.fld H.VLK_S_REST)) (h36 : W (.fld H.VLK_UP_ON)) (a0 : Nat) (h : Moves W s₀ s) :
    Moves W s₀ (Sys2Proof.Machine.Vlk.setState a0 s) := by
  unfold Sys2Proof.Machine.Vlk.setState
  repeat' (first
    | with_reducible assumption
    | with_reducible apply Moves.clr
    | with_reducible apply Moves.put
    | with_reducible apply Moves.set
    | with_reducible apply Mbx_masterReset_moves
    | with_reducible apply Vlk_silence_moves
    | with_reducible apply Vlk_attemptFrom_moves
    | intro _
    | split
    | (extract_lets +onlyGivenNames x; first
      | (refine Moves.keep (W := W) (s₀ := s₀) x ?_ ?_; rotate_left; intro hx; clear_value x; rotate_right)
      | (refine Moves.keep (W := W) (s₀ := s₀) x.2 ?_ ?_; rotate_left; intro hx; clear_value x; rotate_right)
      | (refine Moves.keep (W := W) (s₀ := s₀) x.1 ?_ ?_; rotate_left; intro hx; clear_value x; rotate_right)
      | skip))

theorem Vlk_enable_moves {W : Part → Prop} {s₀ s : State} (h0 : W .qdr) (h1 : W (.fld F.CRY_KEY_DATA_KEY)) (h2 : W (.fld F.CRY_KEY_SALT_SALT)) (h3 : W (.fld F.CRY_LOCK_STAT_LOCK_BROKEN)) (h4 : W (.fld F.CRY_LOCK_STAT_OWNER)) (h5 : W (.fld F.LTX_CTRL_MUTE)) (h6 : W (.fld F.LTX_STAT_MUTE_SRC)) (h7 : W (.fld F.MBX_INT_CAUSE_RESET_SEEN)) (h8 : W (.fld F.MBX_LOCK_STAT_LOCK_BROKEN)) (h9 : W (.fld F.MBX_LOCK_STAT_OWNER)) (h10 : W (.fld F.MBX_STAT_RX_RESET_SEEN)) (h11 : W (.fld F.MBX_STAT_SENDER_RESET_SEEN)) (h12 : W (.fld F.PMC_INT_CAUSE_OVF)) (h13 : W (.fld F.PMC_INT_CAUSE_SMP_AVAIL)) (h14 : W (.fld F.PMC_INT_CAUSE_SMP_DROP)) (h15 : W (.fld F.PMC_OVF_STAT_OVF)) (h16 : W (.fld F.PMC_SMP_DROP_RING)) (h17 : W (.fld F.PMC_SMP_STAT_COUNT)) (h18 : W (.fld F.VLK_CTRL_EN)) (h19 : W (.fld F.VLK_INT_CAUSE_LEAF_LOST)) (h20 : W (.fld F.VLK_INT_CAUSE_STATE_CHG)) (h21 : W (.fld F.VLK_SELF_LEAF)) (h22 : W (.fld F.VLK_SELF_SILENT)) (h23 : W (.fld F.VLK_SELF_STATE)) (h24 : W (.fld H.LTX_OUTPUT)) (h25 : W (.fld H.PEER_MUTE_WAS)) (h26 : W (.fld H.PMC_CNT)) (h27 : W (.fld H.PMC_OVF_DUE)) (h28 : W (.fld H.PMC_OVF_T)) (h29 : W (.fld H.PMC_RING)) (h30 : W (.fld H.PMC_TRACE_POS)) (h31 : W (.fld H.VLK_ATTEMPT)) (h32 : W (.fld H.VLK_LISTENING)) (h33 : W (.fld H.VLK_PREV_LEAF)) (h34 : W (.fld H.VLK_REG_BASE)) (h35 : W (.fld H.VLK_REG_WAIT)) (h36 : W (.fld H.VLK_S_REST)) (h37 : W (.fld H.VLK_UP_ON)) (h : Moves W s₀ s) :
    Moves W s₀ (Sys2Proof.Machine.Vlk.enable s) := by
  unfold Sys2Proof.Machine.Vlk.enable
  repeat' (first
    | with_reducible assumption
    | with_reducible apply Moves.set
    | with_reducible apply Vlk_silence_moves
    | with_reducible apply Vlk_setState_moves
    | intro _
    | split
    | (extract_lets +onlyGivenNames x; first
      | (refine Moves.keep (W := W) (s₀ := s₀) x ?_ ?_; rotate_left; intro hx; clear_value x; rotate_right)
      | (refine Moves.keep (W := W) (s₀ := s₀) x.2 ?_ ?_; rotate_left; intro hx; clear_value x; rotate_right)
      | (refine Moves.keep (W := W) (s₀ := s₀) x.1 ?_ ?_; rotate_left; intro hx; clear_value x; rotate_right)
      | skip))

theorem Vlk_disable_moves {W : Part → Prop} {s₀ s : State} (h0 : W .qdr) (h1 : W (.fld F.CRY_KEY_DATA_KEY)) (h2 : W (.fld F.CRY_KEY_SALT_SALT)) (h3 : W (.fld F.CRY_LOCK_STAT_LOCK_BROKEN)) (h4 : W (.fld F.CRY_LOCK_STAT_OWNER)) (h5 : W (.fld F.LTX_CTRL_MUTE)) (h6 : W (.fld F.LTX_STAT_MUTE_SRC)) (h7 : W (.fld F.MBX_INT_CAUSE_RESET_SEEN)) (h8 : W (.fld F.MBX_LOCK_STAT_LOCK_BROKEN)) (h9 : W (.fld F.MBX_LOCK_STAT_OWNER)) (h10 : W (.fld F.MBX_STAT_RX_RESET_SEEN)) (h11 : W (.fld F.MBX_STAT_SENDER_RESET_SEEN)) (h12 : W (.fld F.PMC_INT_CAUSE_OVF)) (h13 : W (.fld F.PMC_INT_CAUSE_SMP_AVAIL)) (h14 : W (.fld F.PMC_INT_CAUSE_SMP_DROP)) (h15 : W (.fld F.PMC_OVF_STAT_OVF)) (h16 : W (.fld F.PMC_SMP_DROP_RING)) (h17 : W (.fld F.PMC_SMP_STAT_COUNT)) (h18 : W (.fld F.VLK_CTRL_EN)) (h19 : W (.fld F.VLK_INT_CAUSE_LEAF_LOST)) (h20 : W (.fld F.VLK_INT_CAUSE_STATE_CHG)) (h21 : W (.fld F.VLK_SELF_LEAF)) (h22 : W (.fld F.VLK_SELF_SILENT)) (h23 : W (.fld F.VLK_SELF_STATE)) (h24 : W (.fld H.LTX_OUTPUT)) (h25 : W (.fld H.PEER_MUTE_WAS)) (h26 : W (.fld H.PMC_CNT)) (h27 : W (.fld H.PMC_OVF_DUE)) (h28 : W (.fld H.PMC_OVF_T)) (h29 : W (.fld H.PMC_RING)) (h30 : W (.fld H.PMC_TRACE_POS)) (h31 : W (.fld H.VLK_ATTEMPT)) (h32 : W (.fld H.VLK_LISTENING)) (h33 : W (.fld H.VLK_PREV_LEAF)) (h34 : W (.fld H.VLK_REG_BASE)) (h35 : W (.fld H.VLK_REG_WAIT)) (h36 : W (.fld H.VLK_S_REST)) (h37 : W (.fld H.VLK_UP_ON)) (h : Moves W s₀ s) :
    Moves W s₀ (Sys2Proof.Machine.Vlk.disable s) := by
  unfold Sys2Proof.Machine.Vlk.disable
  repeat' (first
    | with_reducible assumption
    | with_reducible apply Moves.clr
    | with_reducible apply Moves.put
    | with_reducible apply Mbx_masterReset_moves
    | with_reducible apply Vlk_silence_moves
    | with_reducible apply Vlk_setState_moves
    | intro _
    | split
    | (extract_lets +onlyGivenNames x; first
      | (refine Moves.keep (W := W) (s₀ := s₀) x ?_ ?_; rotate_left; intro hx; clear_value x; rotate_right)
      | (refine Moves.keep (W := W) (s₀ := s₀) x.2 ?_ ?_; rotate_left; intro hx; clear_value x; rotate_right)
      | (refine Moves.keep (W := W) (s₀ := s₀) x.1 ?_ ?_; rotate_left; intro hx; clear_value x; rotate_right)
      | skip))

theorem Vlk_upstreamSilent_moves {W : Part → Prop} {s₀ s : State} (h0 : W (.fld F.LTX_CTRL_MUTE)) (h1 : W (.fld F.LTX_STAT_MUTE_SRC)) (h2 : W (.fld F.VLK_SELF_SILENT)) (h3 : W (.fld H.LTX_OUTPUT)) (h4 : W (.fld H.PEER_MUTE_WAS)) (h : Moves W s₀ s) :
    Moves W s₀ (Sys2Proof.Machine.Vlk.upstreamSilent s) := by
  unfold Sys2Proof.Machine.Vlk.upstreamSilent
  repeat' (first
    | with_reducible assumption
    | with_reducible apply Vlk_silence_moves
    | intro _
    | split)

theorem Vlk_takeEqd_moves {W : Part → Prop} {s₀ s : State} (h0 : W (.fld H.VLK_EQD_NOW)) (h : Moves W s₀ s) :
    Moves W s₀ (Sys2Proof.Machine.Vlk.takeEqd s) := by
  unfold Sys2Proof.Machine.Vlk.takeEqd
  repeat' (first
    | with_reducible assumption
    | with_reducible apply Moves.put
    | intro _)

theorem Vlk_applyDelta_moves {W : Part → Prop} {s₀ s : State} (h0 : W (.fld F.VLK_SELF_EQD_EQD)) (h1 : W (.fld H.VLK_EQD_DELTA)) (h2 : W (.fld H.VLK_EQD_NOW)) (h : Moves W s₀ s) :
    Moves W s₀ (Sys2Proof.Machine.Vlk.applyDelta s) := by
  unfold Sys2Proof.Machine.Vlk.applyDelta
  repeat' (first
    | with_reducible assumption
    | with_reducible apply Moves.clr
    | with_reducible apply Moves.put
    | intro _
    | split
    | (extract_lets +onlyGivenNames x; first
      | (refine Moves.keep (W := W) (s₀ := s₀) x ?_ ?_; rotate_left; intro hx; clear_value x; rotate_right)
      | (refine Moves.keep (W := W) (s₀ := s₀) x.2 ?_ ?_; rotate_left; intro hx; clear_value x; rotate_right)
      | (refine Moves.keep (W := W) (s₀ := s₀) x.1 ?_ ?_; rotate_left; intro hx; clear_value x; rotate_right)
      | skip))

theorem Vlk_feederCheck_moves {W : Part → Prop} {s₀ s : State} (h0 : W .qdr) (h1 : W (.fld F.CRY_KEY_DATA_KEY)) (h2 : W (.fld F.CRY_KEY_SALT_SALT)) (h3 : W (.fld F.CRY_LOCK_STAT_LOCK_BROKEN)) (h4 : W (.fld F.CRY_LOCK_STAT_OWNER)) (h5 : W (.fld F.LTX_CTRL_MUTE)) (h6 : W (.fld F.LTX_STAT_MUTE_SRC)) (h7 : W (.fld F.MBX_INT_CAUSE_RESET_SEEN)) (h8 : W (.fld F.MBX_LOCK_STAT_LOCK_BROKEN)) (h9 : W (.fld F.MBX_LOCK_STAT_OWNER)) (h10 : W (.fld F.MBX_STAT_RX_RESET_SEEN)) (h11 : W (.fld F.MBX_STAT_SENDER_RESET_SEEN)) (h12 : W (.fld F.PMC_INT_CAUSE_OVF)) (h13 : W (.fld F.PMC_INT_CAUSE_SMP_AVAIL)) (h14 : W (.fld F.PMC_INT_CAUSE_SMP_DROP)) (h15 : W (.fld F.PMC_OVF_STAT_OVF)) (h16 : W (.fld F.PMC_SMP_DROP_RING)) (h17 : W (.fld F.PMC_SMP_STAT_COUNT)) (h18 : W (.fld F.VLK_INT_CAUSE_LEAF_LOST)) (h19 : W (.fld F.VLK_INT_CAUSE_STATE_CHG)) (h20 : W (.fld F.VLK_SELF_EQD_EQD)) (h21 : W (.fld F.VLK_SELF_LEAF)) (h22 : W (.fld F.VLK_SELF_SILENT)) (h23 : W (.fld F.VLK_SELF_STATE)) (h24 : W (.fld H.LTX_OUTPUT)) (h25 : W (.fld H.PEER_MUTE_WAS)) (h26 : W (.fld H.PMC_CNT)) (h27 : W (.fld H.PMC_OVF_DUE)) (h28 : W (.fld H.PMC_OVF_T)) (h29 : W (.fld H.PMC_RING)) (h30 : W (.fld H.PMC_TRACE_POS)) (h31 : W (.fld H.VLK_ATTEMPT)) (h32 : W (.fld H.VLK_EQD_DELTA)) (h33 : W (.fld H.VLK_EQD_NOW)) (h34 : W (.fld H.VLK_FEEDER_USE)) (h35 : W (.fld H.VLK_LISTENING)) (h36 : W (.fld H.VLK_PREV_LEAF)) (h37 : W (.fld H.VLK_REG_BASE)) (h38 : W (.fld H.VLK_REG_WAIT)) (h39 : W (.fld H.VLK_SWITCH_SILENT)) (h40 : W (.fld H.VLK_S_REST)) (h41 : W (.fld H.VLK_UP_ON)) (h : Moves W s₀ s) :
    Moves W s₀ (Sys2Proof.Machine.Vlk.feederCheck s) := by
  unfold Sys2Proof.Machine.Vlk.feederCheck
  repeat' (first
    | with_reducible assumption
    | with_reducible apply Moves.put
    | with_reducible apply Vlk_silence_moves
    | with_reducible apply Vlk_applyDelta_moves
    | with_reducible apply Vlk_setState_moves
    | intro _
    | split
    | (extract_lets +onlyGivenNames x; first
      | (refine Moves.keep (W := W) (s₀ := s₀) x ?_ ?_; rotate_left; intro hx; clear_value x; rotate_right)
      | (refine Moves.keep (W := W) (s₀ := s₀) x.2 ?_ ?_; rotate_left; intro hx; clear_value x; rotate_right)
      | (refine Moves.keep (W := W) (s₀ := s₀) x.1 ?_ ?_; rotate_left; intro hx; clear_value x; rotate_right)
      | skip))

theorem Vlk_wakeUp_moves {W : Part → Prop} {s₀ s : State} (h0 : W .qdr) (h1 : W .vlk) (h2 : W (.fld F.CRY_KEY_DATA_KEY)) (h3 : W (.fld F.CRY_KEY_SALT_SALT)) (h4 : W (.fld F.CRY_LOCK_STAT_LOCK_BROKEN)) (h5 : W (.fld F.CRY_LOCK_STAT_OWNER)) (h6 : W (.fld F.LTX_CTRL_MUTE)) (h7 : W (.fld F.LTX_STAT_MUTE_SRC)) (h8 : W (.fld F.MBX_INT_CAUSE_RESET_SEEN)) (h9 : W (.fld F.MBX_LOCK_STAT_LOCK_BROKEN)) (h10 : W (.fld F.MBX_LOCK_STAT_OWNER)) (h11 : W (.fld F.MBX_STAT_RX_RESET_SEEN)) (h12 : W (.fld F.MBX_STAT_SENDER_RESET_SEEN)) (h13 : W (.fld F.PMC_INT_CAUSE_OVF)) (h14 : W (.fld F.PMC_INT_CAUSE_SMP_AVAIL)) (h15 : W (.fld F.PMC_INT_CAUSE_SMP_DROP)) (h16 : W (.fld F.PMC_OVF_STAT_OVF)) (h17 : W (.fld F.PMC_SMP_DROP_RING)) (h18 : W (.fld F.PMC_SMP_STAT_COUNT)) (h19 : W (.fld F.VLK_INT_CAUSE_LEAF_LOST)) (h20 : W (.fld F.VLK_INT_CAUSE_STATE_CHG)) (h21 : W (.fld F.VLK_SELF_EQD_EQD)) (h22 : W (.fld F.VLK_SELF_LEAF)) (h23 : W (.fld F.VLK_SELF_SILENT)) (h24 : W (.fld F.VLK_SELF_STATE)) (h25 : W (.fld H.LTX_OUTPUT)) (h26 : W (.fld H.PEER_MUTE_WAS)) (h27 : W (.fld H.PMC_CNT)) (h28 : W (.fld H.PMC_OVF_DUE)) (h29 : W (.fld H.PMC_OVF_T)) (h30 : W (.fld H.PMC_RING)) (h31 : W (.fld H.PMC_TRACE_POS)) (h32 : W (.fld H.VLK_ATTEMPT)) (h33 : W (.fld H.VLK_EQD_DELTA)) (h34 : W (.fld H.VLK_EQD_NOW)) (h35 : W (.fld H.VLK_FEEDER_USE)) (h36 : W (.fld H.VLK_LISTENING)) (h37 : W (.fld H.VLK_PREV_LEAF)) (h38 : W (.fld H.VLK_REG_BASE)) (h39 : W (.fld H.VLK_REG_WAIT)) (h40 : W (.fld H.VLK_SEQ)) (h41 : W (.fld H.VLK_SWITCH_SILENT)) (h42 : W (.fld H.VLK_S_REST)) (h43 : W (.fld H.VLK_UP_ON)) (h : Moves W s₀ s) :
    Moves W s₀ (Sys2Proof.Machine.Vlk.wakeUp s) := by
  unfold Sys2Proof.Machine.Vlk.wakeUp
  repeat' (first
    | with_reducible assumption
    | with_reducible apply Moves.clr
    | with_reducible apply Vlk_feederCheck_moves
    | with_reducible apply Vlk_setState_moves
    | with_reducible apply Vlk_toHub_moves
    | intro _
    | split)

theorem Vlk_upstreamResume_moves {W : Part → Prop} {s₀ s : State} (h0 : W .qdr) (h1 : W .vlk) (h2 : W (.fld F.CRY_KEY_DATA_KEY)) (h3 : W (.fld F.CRY_KEY_SALT_SALT)) (h4 : W (.fld F.CRY_LOCK_STAT_LOCK_BROKEN)) (h5 : W (.fld F.CRY_LOCK_STAT_OWNER)) (h6 : W (.fld F.LTX_CTRL_MUTE)) (h7 : W (.fld F.LTX_STAT_MUTE_SRC)) (h8 : W (.fld F.MBX_INT_CAUSE_RESET_SEEN)) (h9 : W (.fld F.MBX_LOCK_STAT_LOCK_BROKEN)) (h10 : W (.fld F.MBX_LOCK_STAT_OWNER)) (h11 : W (.fld F.MBX_STAT_RX_RESET_SEEN)) (h12 : W (.fld F.MBX_STAT_SENDER_RESET_SEEN)) (h13 : W (.fld F.PMC_INT_CAUSE_OVF)) (h14 : W (.fld F.PMC_INT_CAUSE_SMP_AVAIL)) (h15 : W (.fld F.PMC_INT_CAUSE_SMP_DROP)) (h16 : W (.fld F.PMC_OVF_STAT_OVF)) (h17 : W (.fld F.PMC_SMP_DROP_RING)) (h18 : W (.fld F.PMC_SMP_STAT_COUNT)) (h19 : W (.fld F.VLK_INT_CAUSE_LEAF_LOST)) (h20 : W (.fld F.VLK_INT_CAUSE_STATE_CHG)) (h21 : W (.fld F.VLK_SELF_EQD_EQD)) (h22 : W (.fld F.VLK_SELF_LEAF)) (h23 : W (.fld F.VLK_SELF_SILENT)) (h24 : W (.fld F.VLK_SELF_STATE)) (h25 : W (.fld H.LTX_OUTPUT)) (h26 : W (.fld H.PEER_MUTE_WAS)) (h27 : W (.fld H.PMC_CNT)) (h28 : W (.fld H.PMC_OVF_DUE)) (h29 : W (.fld H.PMC_OVF_T)) (h30 : W (.fld H.PMC_RING)) (h31 : W (.fld H.PMC_TRACE_POS)) (h32 : W (.fld H.VLK_ATTEMPT)) (h33 : W (.fld H.VLK_EQD_DELTA)) (h34 : W (.fld H.VLK_EQD_NOW)) (h35 : W (.fld H.VLK_FEEDER_USE)) (h36 : W (.fld H.VLK_LISTENING)) (h37 : W (.fld H.VLK_PREV_LEAF)) (h38 : W (.fld H.VLK_REG_BASE)) (h39 : W (.fld H.VLK_REG_WAIT)) (h40 : W (.fld H.VLK_SEQ)) (h41 : W (.fld H.VLK_SWITCH_SILENT)) (h42 : W (.fld H.VLK_S_REST)) (h43 : W (.fld H.VLK_UP_ON)) (h : Moves W s₀ s) :
    Moves W s₀ (Sys2Proof.Machine.Vlk.upstreamResume s) := by
  unfold Sys2Proof.Machine.Vlk.upstreamResume
  repeat' (first
    | with_reducible assumption
    | with_reducible apply Moves.clr
    | with_reducible apply Vlk_wakeUp_moves
    | with_reducible apply Ltx_hostMute_moves
    | intro _
    | split)

theorem Vlk_aimLaser_moves {W : Part → Prop} {s₀ s : State} (h0 : W (.fld F.LSR_STAT_SER_BUSY)) (h1 : W (.fld H.LSR_HOST_PEND)) (h2 : W (.fld H.LSR_HOST_RUN)) (h3 : W (.fld H.LSR_OWN_CMD)) (h4 : W (.fld H.LSR_OWN_PEND)) (h5 : W (.fld H.LSR_OWN_RUN)) (h6 : W (.fld H.LSR_SET)) (h7 : W (.fld H.LSR_TUNE_CMD)) (h8 : W (.fld H.LSR_TUNE_PEND)) (h : Moves W s₀ s) :
    Moves W s₀ (Sys2Proof.Machine.Vlk.aimLaser s) := by
  unfold Sys2Proof.Machine.Vlk.aimLaser
  repeat' (first
    | with_reducible assumption
    | with_reducible apply Lsr_tune_moves
    | intro _
    | split
    | (extract_lets +onlyGivenNames x; first
      | (refine Moves.keep (W := W) (s₀ := s₀) x ?_ ?_; rotate_left; intro hx; clear_value x; rotate_right)
      | (refine Moves.keep (W := W) (s₀ := s₀) x.2 ?_ ?_; rotate_left; intro hx; clear_value x; rotate_right)
      | (refine Moves.keep (W := W) (s₀ := s₀) x.1 ?_ ?_; rotate_left; intro hx; clear_value x; rotate_right)
      | skip)
    | clear_value x)

theorem Vlk_foundBeacon_moves {W : Part → Prop} {s₀ s : State} (h0 : W .qdr) (h1 : W (.fld F.CRY_KEY_DATA_KEY)) (h2 : W (.fld F.CRY_KEY_SALT_SALT)) (h3 : W (.fld F.CRY_LOCK_STAT_LOCK_BROKEN)) (h4 : W (.fld F.CRY_LOCK_STAT_OWNER)) (h5 : W (.fld F.LSR_STAT_SER_BUSY)) (h6 : W (.fld F.LTX_CTRL_MUTE)) (h7 : W (.fld F.LTX_STAT_MUTE_SRC)) (h8 : W (.fld F.MBX_INT_CAUSE_RESET_SEEN)) (h9 : W (.fld F.MBX_LOCK_STAT_LOCK_BROKEN)) (h10 : W (.fld F.MBX_LOCK_STAT_OWNER)) (h11 : W (.fld F.MBX_STAT_RX_RESET_SEEN)) (h12 : W (.fld F.MBX_STAT_SENDER_RESET_SEEN)) (h13 : W (.fld F.PMC_INT_CAUSE_OVF)) (h14 : W (.fld F.PMC_INT_CAUSE_SMP_AVAIL)) (h15 : W (.fld F.PMC_INT_CAUSE_SMP_DROP)) (h16 : W (.fld F.PMC_OVF_STAT_OVF)) (h17 : W (.fld F.PMC_SMP_DROP_RING)) (h18 : W (.fld F.PMC_SMP_STAT_COUNT)) (h19 : W (.fld F.VLK_INT_CAUSE_LEAF_LOST)) (h20 : W (.fld F.VLK_INT_CAUSE_STATE_CHG)) (h21 : W (.fld F.VLK_SELF_LEAF)) (h22 : W (.fld F.VLK_SELF_SILENT)) (h23 : W (.fld F.VLK_SELF_STATE)) (h24 : W (.fld H.LSR_HOST_PEND)) (h25 : W (.fld H.LSR_HOST_RUN)) (h26 : W (.fld H.LSR_OWN_CMD)) (h27 : W (.fld H.LSR_OWN_PEND)) (h28 : W (.fld H.LSR_OWN_RUN)) (h29 : W (.fld H.LSR_SET)) (h30 : W (.fld H.LSR_TUNE_CMD)) (h31 : W (.fld H.LSR_TUNE_PEND)) (h32 : W (.fld H.LTX_OUTPUT)) (h33 : W (.fld H.PEER_MUTE_WAS)) (h34 : W (.fld H.PMC_CNT)) (h35 : W (.fld H.PMC_OVF_DUE)) (h36 : W (.fld H.PMC_OVF_T)) (h37 : W (.fld H.PMC_RING)) (h38 : W (.fld H.PMC_TRACE_POS)) (h39 : W (.fld H.VLK_ATTEMPT)) (h40 : W (.fld H.VLK_LISTENING)) (h41 : W (.fld H.VLK_PREV_LEAF)) (h42 : W (.fld H.VLK_REG_BASE)) (h43 : W (.fld H.VLK_REG_WAIT)) (h44 : W (.fld H.VLK_S_REST)) (h45 : W (.fld H.VLK_UP_ON)) (h : Moves W s₀ s) :
    Moves W s₀ (Sys2Proof.Machine.Vlk.foundBeacon s) := by
  unfold Sys2Proof.Machine.Vlk.foundBeacon
  repeat' (first
    | with_reducible assumption
    | with_reducible apply Moves.put
    | with_reducible apply Vlk_aimLaser_moves
    | with_reducible apply Vlk_setState_moves
    | intro _
    | split)

theorem Vlk_readGrants_moves {W : Part → Prop} {s₀ s : State} (h0 : W .vlk) (h1 : W (.fld H.VLK_G_NAK_SENT)) (h2 : W (.fld H.VLK_G_SWAP)) (h3 : W (.fld H.VLK_G_SWAP_MF)) (h4 : W (.fld H.VLK_RX_GVER)) (h5 : W (.fld H.VLK_SEQ)) (a0 : Nat) (a1 : Nat) (a2 : Nat) (a3 : Nat) (h : Moves W s₀ s) :
    Moves W s₀ (Sys2Proof.Machine.Vlk.readGrants a0 a1 a2 a3 s) := by
  unfold Sys2Proof.Machine.Vlk.readGrants
  repeat' (first
    | with_reducible assumption
    | with_reducible apply Moves.clr
    | with_reducible apply Moves.put
    | with_reducible apply Moves.set
    | with_reducible apply Vlk_toHub_moves
    | intro _
    | split
    | (extract_lets +onlyGivenNames x; first
      | (refine Moves.keep (W := W) (s₀ := s₀) x ?_ ?_; rotate_left; intro hx; clear_value x; rotate_right)
      | (refine Moves.keep (W := W) (s₀ := s₀) x.2 ?_ ?_; rotate_left; intro hx; clear_value x; rotate_right)
      | (refine Moves.keep (W := W) (s₀ := s₀) x.1 ?_ ?_; rotate_left; intro hx; clear_value x; rotate_right)
      | skip)
    | (with_reducible refine Moves.vlk _ ?_ ?_ <;> with_reducible first
      | assumption
      | apply Moves.clr
      | apply Moves.put
      | apply Moves.set
      | apply Vlk_toHub_moves))

theorem Vlk_readListen_moves {W : Part → Prop} {s₀ s : State} (h0 : W (.fld H.VLK_HEARD)) (h1 : W (.fld H.VLK_LISTEN_READ)) (a0 : Nat) (a1 : Nat) (h : Moves W s₀ s) :
    Moves W s₀ (Sys2Proof.Machine.Vlk.readListen a0 a1 s) := by
  unfold Sys2Proof.Machine.Vlk.readListen
  repeat' (first
    | with_reducible assumption
    | with_reducible apply Moves.set
    | intro _
    | split
    | (extract_lets +onlyGivenNames x; first
      | (refine Moves.keep (W := W) (s₀ := s₀) x ?_ ?_; rotate_left; intro hx; clear_value x; rotate_right)
      | (refine Moves.keep (W := W) (s₀ := s₀) x.2 ?_ ?_; rotate_left; intro hx; clear_value x; rotate_right)
      | (refine Moves.keep (W := W) (s₀ := s₀) x.1 ?_ ?_; rotate_left; intro hx; clear_value x; rotate_right)
      | skip))

theorem Vlk_vdfReceive_moves {W : Part → Prop} {s₀ s : State} (h0 : W .qdr) (h1 : W .vlk) (h2 : W (.fld F.CRY_KEY_DATA_KEY)) (h3 : W (.fld F.CRY_KEY_SALT_SALT)) (h4 : W (.fld F.CRY_LOCK_STAT_LOCK_BROKEN)) (h5 : W (.fld F.CRY_LOCK_STAT_OWNER)) (h6 : W (.fld F.LSR_STAT_SER_BUSY)) (h7 : W (.fld F.LTX_CTRL_MUTE)) (h8 : W (.fld F.LTX_STAT_MUTE_SRC)) (h9 : W (.fld F.MBX_INT_CAUSE_RESET_SEEN)) (h10 : W (.fld F.MBX_LOCK_STAT_LOCK_BROKEN)) (h11 : W (.fld F.MBX_LOCK_STAT_OWNER)) (h12 : W (.fld F.MBX_STAT_RX_RESET_SEEN)) (h13 : W (.fld F.MBX_STAT_SENDER_RESET_SEEN)) (h14 : W (.fld F.PMC_INT_CAUSE_OVF)) (h15 : W (.fld F.PMC_INT_CAUSE_SMP_AVAIL)) (h16 : W (.fld F.PMC_INT_CAUSE_SMP_DROP)) (h17 : W (.fld F.PMC_OVF_STAT_OVF)) (h18 : W (.fld F.PMC_SMP_DROP_RING)) (h19 : W (.fld F.PMC_SMP_STAT_COUNT)) (h20 : W (.fld F.VLK_CRC_ERR_CNT_COUNT)) (h21 : W (.fld F.VLK_INT_CAUSE_LEAF_LOST)) (h22 : W (.fld F.VLK_INT_CAUSE_STATE_CHG)) (h23 : W (.fld F.VLK_SELF_EQD_EQD)) (h24 : W (.fld F.VLK_SELF_LEAF)) (h25 : W (.fld F.VLK_SELF_SILENT)) (h26 : W (.fld F.VLK_SELF_STATE)) (h27 : W (.fld H.LSR_HOST_PEND)) (h28 : W (.fld H.LSR_HOST_RUN)) (h29 : W (.fld H.LSR_OWN_CMD)) (h30 : W (.fld H.LSR_OWN_PEND)) (h31 : W (.fld H.LSR_OWN_RUN)) (h32 : W (.fld H.LSR_SET)) (h33 : W (.fld H.LSR_TUNE_CMD)) (h34 : W (.fld H.LSR_TUNE_PEND)) (h35 : W (.fld H.LTX_OUTPUT)) (h36 : W (.fld H.PEER_MUTE_WAS)) (h37 : W (.fld H.PMC_CNT)) (h38 : W (.fld H.PMC_OVF_DUE)) (h39 : W (.fld H.PMC_OVF_T)) (h40 : W (.fld H.PMC_RING)) (h41 : W (.fld H.PMC_TRACE_POS)) (h42 : W (.fld H.VLK_ATTEMPT)) (h43 : W (.fld H.VLK_EQD_DELTA)) (h44 : W (.fld H.VLK_EQD_NOW)) (h45 : W (.fld H.VLK_FEEDER_IN)) (h46 : W (.fld H.VLK_FEEDER_USE)) (h47 : W (.fld H.VLK_G_NAK_SENT)) (h48 : W (.fld H.VLK_G_SWAP)) (h49 : W (.fld H.VLK_G_SWAP_MF)) (h50 : W (.fld H.VLK_HEARD)) (h51 : W (.fld H.VLK_LISTENING)) (h52 : W (.fld H.VLK_LISTEN_READ)) (h53 : W (.fld H.VLK_NO_VDF)) (h54 : W (.fld H.VLK_OPEN_NOW)) (h55 : W (.fld H.VLK_PREV_LEAF)) (h56 : W (.fld H.VLK_REG_BASE)) (h57 : W (.fld H.VLK_REG_WAIT)) (h58 : W (.fld H.VLK_RX_GVER)) (h59 : W (.fld H.VLK_SEQ)) (h60 : W (.fld H.VLK_SWITCH_SILENT)) (h61 : W (.fld H.VLK_S_REST)) (h62 : W (.fld H.VLK_UP_ON)) (a0 : Nat) (a1 : Nat) (a2 : Nat) (a3 : Nat) (a4 : Nat) (a5 : Nat) (a6 : Nat) (a7 : Nat) (a8 : Nat) (a9 : Nat) (a10 : Nat) (h : Moves W s₀ s) :
    Moves W s₀ (Sys2Proof.Machine.Vlk.vdfReceive a0 a1 a2 a3 a4 a5 a6 a7 a8 a9 a10 s) := by
  unfold Sys2Proof.Machine.Vlk.vdfReceive
  repeat' (first
    | with_reducible assumption
    | with_reducible apply Moves.clr
    | with_reducible apply Moves.count
    | with_reducible apply Moves.put
    | with_reducible apply Vlk_foundBeacon_moves
    | with_reducible apply Vlk_readListen_moves
    | with_reducible apply Vlk_readGrants_moves
    | with_reducible apply Vlk_wakeUp_moves
    | with_reducible apply Vlk_feederCheck_moves
    | intro _
    | split
    | (extract_lets +onlyGivenNames x; first
      | (refine Moves.keep (W := W) (s₀ := s₀) x ?_ ?_; rotate_left; intro hx; clear_value x; rotate_right)
      | (refine Moves.keep (W := W) (s₀ := s₀) x.2 ?_ ?_; rotate_left; intro hx; clear_value x; rotate_right)
      | (refine Moves.keep (W := W) (s₀ := s₀) x.1 ?_ ?_; rotate_left; intro hx; clear_value x; rotate_right)
      | skip))

theorem Vlk_beaconLost_moves {W : Part → Prop} {s₀ s : State} (h0 : W .qdr) (h1 : W (.fld F.CRY_KEY_DATA_KEY)) (h2 : W (.fld F.CRY_KEY_SALT_SALT)) (h3 : W (.fld F.CRY_LOCK_STAT_LOCK_BROKEN)) (h4 : W (.fld F.CRY_LOCK_STAT_OWNER)) (h5 : W (.fld F.LTX_CTRL_MUTE)) (h6 : W (.fld F.LTX_STAT_MUTE_SRC)) (h7 : W (.fld F.MBX_INT_CAUSE_RESET_SEEN)) (h8 : W (.fld F.MBX_LOCK_STAT_LOCK_BROKEN)) (h9 : W (.fld F.MBX_LOCK_STAT_OWNER)) (h10 : W (.fld F.MBX_STAT_RX_RESET_SEEN)) (h11 : W (.fld F.MBX_STAT_SENDER_RESET_SEEN)) (h12 : W (.fld F.PMC_INT_CAUSE_OVF)) (h13 : W (.fld F.PMC_INT_CAUSE_SMP_AVAIL)) (h14 : W (.fld F.PMC_INT_CAUSE_SMP_DROP)) (h15 : W (.fld F.PMC_OVF_STAT_OVF)) (h16 : W (.fld F.PMC_SMP_DROP_RING)) (h17 : W (.fld F.PMC_SMP_STAT_COUNT)) (h18 : W (.fld F.VLK_INT_CAUSE_LEAF_LOST)) (h19 : W (.fld F.VLK_INT_CAUSE_STATE_CHG)) (h20 : W (.fld F.VLK_SELF_LEAF)) (h21 : W (.fld F.VLK_SELF_SILENT)) (h22 : W (.fld F.VLK_SELF_STATE)) (h23 : W (.fld H.LTX_OUTPUT)) (h24 : W (.fld H.PEER_MUTE_WAS)) (h25 : W (.fld H.PMC_CNT)) (h26 : W (.fld H.PMC_OVF_DUE)) (h27 : W (.fld H.PMC_OVF_T)) (h28 : W (.fld H.PMC_RING)) (h29 : W (.fld H.PMC_TRACE_POS)) (h30 : W (.fld H.VLK_ATTEMPT)) (h31 : W (.fld H.VLK_LISTENING)) (h32 : W (.fld H.VLK_PREV_LEAF)) (h33 : W (.fld H.VLK_REG_BASE)) (h34 : W (.fld H.VLK_REG_WAIT)) (h35 : W (.fld H.VLK_S_REST)) (h36 : W (.fld H.VLK_UP_ON)) (a0 : Nat) (h : Moves W s₀ s) :
    Moves W s₀ (Sys2Proof.Machine.Vlk.beaconLost a0 s) := by
  unfold Sys2Proof.Machine.Vlk.beaconLost
  repeat' (first
    | with_reducible assumption
    | with_reducible apply Vlk_setState_moves
    | intro _
    | split)

theorem Vlk_heard_moves {W : Part → Prop} {s₀ s : State} (h0 : W (.fld H.VLK_HEARD)) (a0 : Nat) (h : Moves W s₀ s) :
    Moves W s₀ (Sys2Proof.Machine.Vlk.heard a0 s) := by
  unfold Sys2Proof.Machine.Vlk.heard
  repeat' (first
    | with_reducible assumption
    | with_reducible apply Moves.set
    | intro _
    | split)

theorem Vlk_down_moves {W : Part → Prop} {s₀ s : State} (h0 : W .vlk) (h1 : W (.fld H.VLK_HEARD)) (h2 : W (.fld H.VLK_SEQ)) (a0 : Nat) (a1 : Nat) (a2 : Nat) (a3 : Sys2Proof.Machine.State → Sys2Proof.Machine.State × Option Nat) (hf3 : ∀ b0, Moves W s₀ b0 → Moves W s₀ (a3 b0).1) (h : Moves W s₀ s) :
    Moves W s₀ (Sys2Proof.Machine.Vlk.down a0 a1 a2 a3 s) := by
  unfold Sys2Proof.Machine.Vlk.down
  repeat' (first
    | with_reducible assumption
    | with_reducible apply Vlk_receive_moves
    | with_reducible apply Vlk_heard_moves
    | with_reducible apply hf3
    | intro _
    | split)

theorem Vlk_accept_moves {W : Part → Prop} {s₀ s : State} (a0 : Sys2Proof.Machine.State → Sys2Proof.Machine.State) (hf0 : ∀ b0, Moves W s₀ b0 → Moves W s₀ (a0 b0)) (h : Moves W s₀ s) :
    Moves W s₀ (Sys2Proof.Machine.Vlk.accept a0 s).1 := by
  unfold Sys2Proof.Machine.Vlk.accept
  repeat' (first
    | with_reducible assumption
    | with_reducible apply hf0
    | intro _)

theorem Vlk_treeInfo_moves {W : Part → Prop} {s₀ s : State} (h0 : W (.fld F.LSR_STAT_SER_BUSY)) (h1 : W (.fld F.VLK_REG_CFG_RSC_M1)) (h2 : W (.fld F.VLK_REG_SC_SC)) (h3 : W (.fld F.VLK_US_OFS_OFS)) (h4 : W (.fld H.LSR_HOST_PEND)) (h5 : W (.fld H.LSR_HOST_RUN)) (h6 : W (.fld H.LSR_OWN_CMD)) (h7 : W (.fld H.LSR_OWN_PEND)) (h8 : W (.fld H.LSR_OWN_RUN)) (h9 : W (.fld H.LSR_SET)) (h10 : W (.fld H.LSR_TUNE_CMD)) (h11 : W (.fld H.LSR_TUNE_PEND)) (h12 : W (.fld H.VLK_T_BAUD)) (h13 : W (.fld H.VLK_T_EQ)) (h14 : W (.fld H.VLK_T_NSC_M1)) (h15 : W (.fld H.VLK_T_RATES)) (h16 : W (.fld H.VLK_T_SPACING)) (a0 : Nat) (a1 : Nat) (a2 : Nat) (a3 : Nat) (a4 : Nat) (a5 : Nat) (a6 : List Nat) (a7 : Nat) (h : Moves W s₀ s) :
    Moves W s₀ (Sys2Proof.Machine.Vlk.treeInfo a0 a1 a2 a3 a4 a5 a6 a7 s) := by
  unfold Sys2Proof.Machine.Vlk.treeInfo
  repeat' (first
    | with_reducible assumption
    | with_reducible apply Moves.eachOf
    | with_reducible apply Moves.put
    | with_reducible apply Vlk_aimLaser_moves
    | intro _
    | split
    | (extract_lets +onlyGivenNames x; first
      | (refine Moves.keep (W := W) (s₀ := s₀) x ?_ ?_; rotate_left; intro hx; clear_value x; rotate_right)
      | (refine Moves.keep (W := W) (s₀ := s₀) x.2 ?_ ?_; rotate_left; intro hx; clear_value x; rotate_right)
      | (refine Moves.keep (W := W) (s₀ := s₀) x.1 ?_ ?_; rotate_left; intro hx; clear_value x; rotate_right)
      | skip))

theorem Vlk_join_moves {W : Part → Prop} {s₀ s : State} (h0 : W .qdr) (h1 : W (.arr H.FEC_RX_ON)) (h2 : W (.arr H.FEC_RX_POS)) (h3 : W (.arr H.FEC_RX_WAIT)) (h4 : W (.arr H.FEC_SL_ON)) (h5 : W (.arr H.FEC_SL_POS)) (h6 : W (.arr H.FEC_SL_WAIT)) (h7 : W (.fld F.CRY_KEY_DATA_KEY)) (h8 : W (.fld F.CRY_KEY_SALT_SALT)) (h9 : W (.fld F.CRY_LOCK_STAT_LOCK_BROKEN)) (h10 : W (.fld F.CRY_LOCK_STAT_OWNER)) (h11 : W (.fld F.CVT_ADC_STAT_MAP_ERR)) (h12 : W (.fld F.LRX_CTRL_EN)) (h13 : W (.fld F.LRX_INT_CAUSE_CFG_ERR)) (h14 : W (.fld F.LRX_INT_CAUSE_LOAD_CANCELLED)) (h15 : W (.fld F.LRX_INT_CAUSE_LOS_CHG)) (h16 : W (.fld F.LRX_INT_CAUSE_TRACK)) (h17 : W (.fld F.LRX_INT_CAUSE_TRACK_LOST)) (h18 : W (.fld F.LRX_RXGRP_K_HI)) (h19 : W (.fld F.LRX_RXGRP_K_LO)) (h20 : W (.fld F.LRX_SC_STAT_LOCK)) (h21 : W (.fld F.LRX_STAT_ACQ_RETRY)) (h22 : W (.fld F.LRX_STAT_ANNOUNCED)) (h23 : W (.fld F.LRX_STAT_CD_ARMED)) (h24 : W (.fld F.LRX_STAT_CD_FADING)) (h25 : W (.fld F.LRX_STAT_CD_HELD)) (h26 : W (.fld F.LRX_STAT_CFG_STEP)) (h27 : W (.fld F.LRX_STAT_LOS)) (h28 : W (.fld F.LRX_STAT_SHADOW_READY)) (h29 : W (.fld F.LRX_STAT_STATE)) (h30 : W (.fld F.LSR_STAT_SER_BUSY)) (h31 : W (.fld F.LTX_CTRL_MUTE)) (h32 : W (.fld F.LTX_FREQ_OFS_OFS)) (h33 : W (.fld F.LTX_INT_CAUSE_CFG_ERR)) (h34 : W (.fld F.LTX_STAT_MUTE_SRC)) (h35 : W (.fld F.MBX_INT_CAUSE_RESET_SEEN)) (h36 : W (.fld F.MBX_LOCK_STAT_LOCK_BROKEN)) (h37 : W (.fld F.MBX_LOCK_STAT_OWNER)) (h38 : W (.fld F.MBX_STAT_RX_RESET_SEEN)) (h39 : W (.fld F.MBX_STAT_SENDER_RESET_SEEN)) (h40 : W (.fld F.PMC_INT_CAUSE_OVF)) (h41 : W (.fld F.PMC_INT_CAUSE_SMP_AVAIL)) (h42 : W (.fld F.PMC_INT_CAUSE_SMP_DROP)) (h43 : W (.fld F.PMC_OVF_STAT_OVF)) (h44 : W (.fld F.PMC_SMP_DROP_RING)) (h45 : W (.fld F.PMC_SMP_STAT_COUNT)) (h46 : W (.fld F.PWR_AVS_READ_BUSY)) (h47 : W (.fld F.PWR_VMIN_VMIN_MV)) (h48 : W (.fld F.PWR_VMIN_VREQ_MV)) (h49 : W (.fld F.SCM_CHG_STAT_US_STATE)) (h50 : W (.fld F.SYS_INT_CAUSE_ROLE_LIMIT)) (h51 : W (.fld F.VLK_INT_CAUSE_LEAF_LOST)) (h52 : W (.fld F.VLK_INT_CAUSE_STATE_CHG)) (h53 : W (.fld F.VLK_SELF_EQD_EQD)) (h54 : W (.fld F.VLK_SELF_EQD_VALID)) (h55 : W (.fld F.VLK_SELF_LEAF)) (h56 : W (.fld F.VLK_SELF_MEMBER)) (h57 : W (.fld F.VLK_SELF_SILENT)) (h58 : W (.fld F.VLK_SELF_STATE)) (h59 : W (.fld H.LRX_D_NOW)) (h60 : W (.fld H.LRX_LLR_HOLD)) (h61 : W (.fld H.LRX_QUAD)) (h62 : W (.fld H.LRX_SWAP_DUE)) (h63 : W (.fld H.LRX_TAPS)) (h64 : W (.fld H.LRX_WIN_LOCK)) (h65 : W (.fld H.LSR_HOST_PEND)) (h66 : W (.fld H.LSR_HOST_RUN)) (h67 : W (.fld H.LSR_OWN_CMD)) (h68 : W (.fld H.LSR_OWN_PEND)) (h69 : W (.fld H.LSR_OWN_RUN)) (h70 : W (.fld H.LSR_SET)) (h71 : W (.fld H.LSR_TUNE_CMD)) (h72 : W (.fld H.LSR_TUNE_PEND)) (h73 : W (.fld H.LTX_OFS_PENDING)) (h74 : W (.fld H.LTX_OUTPUT)) (h75 : W (.fld H.PEER_MUTE_WAS)) (h76 : W (.fld H.PMC_CNT)) (h77 : W (.fld H.PMC_OVF_DUE)) (h78 : W (.fld H.PMC_OVF_T)) (h79 : W (.fld H.PMC_RING)) (h80 : W (.fld H.PMC_TRACE_POS)) (h81 : W (.fld H.PWR_HOLD_RX)) (h82 : W (.fld H.PWR_TARGET)) (h83 : W (.fld H.PWR_VMIN_ASKED)) (h84 : W (.fld H.PWR_VMIN_FAILED)) (h85 : W (.fld H.PWR_VMIN_WAITS)) (h86 : W (.fld H.VLK_ATTEMPT)) (h87 : W (.fld H.VLK_EQD_DELTA)) (h88 : W (.fld H.VLK_EQD_NOW)) (h89 : W (.fld H.VLK_FEEDER_USE)) (h90 : W (.fld H.VLK_LISTENING)) (h91 : W (.fld H.VLK_PREV_LEAF)) (h92 : W (.fld H.VLK_REG_BASE)) (h93 : W (.fld H.VLK_REG_WAIT)) (h94 : W (.fld H.VLK_S_REST)) (h95 : W (.fld H.VLK_UP_ON)) (h96 : W (.fld H.VLK_UP_START)) (a0 : Nat) (a1 : Nat) (a2 : Nat) (a3 : Nat) (a4 : Nat) (a5 : Nat) (a6 : Nat) (a7 : Nat) (a8 : Nat) (a9 : Nat) (h : Moves W s₀ s) :
    Moves W s₀ (Sys2Proof.Machine.Vlk.join a0 a1 a2 a3 a4 a5 a6 a7 a8 a9 s) := by
  unfold Sys2Proof.Machine.Vlk.join
  repeat' (first
    | with_reducible assumption
    | with_reducible apply Moves.clr
    | with_reducible apply Moves.put
    | with_reducible apply Vlk_setState_moves
    | with_reducible apply Lrx_writeRxGrp_moves
    | with_reducible apply Lrx_disable_moves
    | with_reducible apply Lrx_enable_moves
    | with_reducible apply Vlk_takeEqd_moves
    | with_reducible apply Ltx_writeFreqOfs_moves
    | with_reducible apply Vlk_aimLaser_moves
    | intro _
    | split
    | (extract_lets +onlyGivenNames x; first
      | (refine Moves.keep (W := W) (s₀ := s₀) x ?_ ?_; rotate_left; intro hx; clear_value x; rotate_right)
      | (refine Moves.keep (W := W) (s₀ := s₀) x.2 ?_ ?_; rotate_left; intro hx; clear_value x; rotate_right)
      | (refine Moves.keep (W := W) (s₀ := s₀) x.1 ?_ ?_; rotate_left; intro hx; clear_value x; rotate_right)
      | skip))

theorem Vlk_syncEqd_moves {W : Part → Prop} {s₀ s : State} (h0 : W (.fld F.VLK_SELF_EQD_EQD)) (h1 : W (.fld F.VLK_SELF_EQD_VALID)) (a0 : Nat) (a1 : Nat) (a2 : Nat) (a3 : Nat) (a4 : Nat) (a5 : Nat) (h : Moves W s₀ s) :
    Moves W s₀ (Sys2Proof.Machine.Vlk.syncEqd a0 a1 a2 a3 a4 a5 s).1 := by
  unfold Sys2Proof.Machine.Vlk.syncEqd
  repeat' (first
    | with_reducible assumption
    | with_reducible apply Moves.put
    | intro _
    | split
    | (extract_lets +onlyGivenNames x; first
      | (refine Moves.keep (W := W) (s₀ := s₀) x ?_ ?_; rotate_left; intro hx; clear_value x; rotate_right)
      | (refine Moves.keep (W := W) (s₀ := s₀) x.2 ?_ ?_; rotate_left; intro hx; clear_value x; rotate_right)
      | (refine Moves.keep (W := W) (s₀ := s₀) x.1 ?_ ?_; rotate_left; intro hx; clear_value x; rotate_right)
      | skip))

theorem Vlk_regAssign_moves {W : Part → Prop} {s₀ s : State} (h0 : W .qdr) (h1 : W .vlk) (h2 : W (.arr H.FEC_RX_ON)) (h3 : W (.arr H.FEC_RX_POS)) (h4 : W (.arr H.FEC_RX_WAIT)) (h5 : W (.arr H.FEC_SL_ON)) (h6 : W (.arr H.FEC_SL_POS)) (h7 : W (.arr H.FEC_SL_WAIT)) (h8 : W (.fld F.CRY_KEY_DATA_KEY)) (h9 : W (.fld F.CRY_KEY_SALT_SALT)) (h10 : W (.fld F.CRY_LOCK_STAT_LOCK_BROKEN)) (h11 : W (.fld F.CRY_LOCK_STAT_OWNER)) (h12 : W (.fld F.CVT_ADC_STAT_MAP_ERR)) (h13 : W (.fld F.LRX_CTRL_EN)) (h14 : W (.fld F.LRX_INT_CAUSE_CFG_ERR)) (h15 : W (.fld F.LRX_INT_CAUSE_LOAD_CANCELLED)) (h16 : W (.fld F.LRX_INT_CAUSE_LOS_CHG)) (h17 : W (.fld F.LRX_INT_CAUSE_TRACK)) (h18 : W (.fld F.LRX_INT_CAUSE_TRACK_LOST)) (h19 : W (.fld F.LRX_RXGRP_K_HI)) (h20 : W (.fld F.LRX_RXGRP_K_LO)) (h21 : W (.fld F.LRX_SC_STAT_LOCK)) (h22 : W (.fld F.LRX_STAT_ACQ_RETRY)) (h23 : W (.fld F.LRX_STAT_ANNOUNCED)) (h24 : W (.fld F.LRX_STAT_CD_ARMED)) (h25 : W (.fld F.LRX_STAT_CD_FADING)) (h26 : W (.fld F.LRX_STAT_CD_HELD)) (h27 : W (.fld F.LRX_STAT_CFG_STEP)) (h28 : W (.fld F.LRX_STAT_LOS)) (h29 : W (.fld F.LRX_STAT_SHADOW_READY)) (h30 : W (.fld F.LRX_STAT_STATE)) (h31 : W (.fld F.LSR_STAT_SER_BUSY)) (h32 : W (.fld F.LTX_CTRL_MUTE)) (h33 : W (.fld F.LTX_FREQ_OFS_OFS)) (h34 : W (.fld F.LTX_INT_CAUSE_CFG_ERR)) (h35 : W (.fld F.LTX_STAT_MUTE_SRC)) (h36 : W (.fld F.MBX_INT_CAUSE_RESET_SEEN)) (h37 : W (.fld F.MBX_LOCK_STAT_LOCK_BROKEN)) (h38 : W (.fld F.MBX_LOCK_STAT_OWNER)) (h39 : W (.fld F.MBX_STAT_RX_RESET_SEEN)) (h40 : W (.fld F.MBX_STAT_SENDER_RESET_SEEN)) (h41 : W (.fld F.PMC_INT_CAUSE_OVF)) (h42 : W (.fld F.PMC_INT_CAUSE_SMP_AVAIL)) (h43 : W (.fld F.PMC_INT_CAUSE_SMP_DROP)) (h44 : W (.fld F.PMC_OVF_STAT_OVF)) (h45 : W (.fld F.PMC_SMP_DROP_RING)) (h46 : W (.fld F.PMC_SMP_STAT_COUNT)) (h47 : W (.fld F.PWR_AVS_READ_BUSY)) (h48 : W (.fld F.PWR_VMIN_VMIN_MV)) (h49 : W (.fld F.PWR_VMIN_VREQ_MV)) (h50 : W (.fld F.SCM_CHG_STAT_US_STATE)) (h51 : W (.fld F.SYS_INT_CAUSE_ROLE_LIMIT)) (h52 : W (.fld F.VLK_INT_CAUSE_LEAF_LOST)) (h53 : W (.fld F.VLK_INT_CAUSE_STATE_CHG)) (h54 : W (.fld F.VLK_SELF_EQD_EQD)) (h55 : W (.fld F.VLK_SELF_EQD_VALID)) (h56 : W (.fld F.VLK_SELF_LEAF)) (h57 : W (.fld F.VLK_SELF_MEMBER)) (h58 : W (.fld F.VLK_SELF_SILENT)) (h59 : W (.fld F.VLK_SELF_STATE)) (h60 : W (.fld H.LRX_D_NOW)) (h61 : W (.fld H.LRX_LLR_HOLD)) (h62 : W (.fld H.LRX_QUAD)) (h63 : W (.fld H.LRX_SWAP_DUE)) (h64 : W (.fld H.LRX_TAPS)) (h65 : W (.fld H.LRX_WIN_LOCK)) (h66 : W (.fld H.LSR_HOST_PEND)) (h67 : W (.fld H.LSR_HOST_RUN)) (h68 : W (.fld H.LSR_OWN_CMD)) (h69 : W (.fld H.LSR_OWN_PEND)) (h70 : W (.fld H.LSR_OWN_RUN)) (h71 : W (.fld H.LSR_SET)) (h72 : W (.fld H.LSR_TUNE_CMD)) (h73 : W (.fld H.LSR_TUNE_PEND)) (h74 : W (.fld H.LTX_OFS_PENDING)) (h75 : W (.fld H.LTX_OUTPUT)) (h76 : W (.fld H.PEER_MUTE_WAS)) (h77 : W (.fld H.PMC_CNT)) (h78 : W (.fld H.PMC_OVF_DUE)) (h79 : W (.fld H.PMC_OVF_T)) (h80 : W (.fld H.PMC_RING)) (h81 : W (.fld H.PMC_TRACE_POS)) (h82 : W (.fld H.PWR_HOLD_RX)) (h83 : W (.fld H.PWR_TARGET)) (h84 : W (.fld H.PWR_VMIN_ASKED)) (h85 : W (.fld H.PWR_VMIN_FAILED)) (h86 : W (.fld H.PWR_VMIN_WAITS)) (h87 : W (.fld H.VLK_ATTEMPT)) (h88 : W (.fld H.VLK_EQD_DELTA)) (h89 : W (.fld H.VLK_EQD_NOW)) (h90 : W (.fld H.VLK_FEEDER_USE)) (h91 : W (.fld H.VLK_HEARD)) (h92 : W (.fld H.VLK_LISTENING)) (h93 : W (.fld H.VLK_PREV_LEAF)) (h94 : W (.fld H.VLK_REG_BASE)) (h95 : W (.fld H.VLK_REG_WAIT)) (h96 : W (.fld H.VLK_SEQ)) (h97 : W (.fld H.VLK_S_REST)) (h98 : W (.fld H.VLK_UP_ON)) (h99 : W (.fld H.VLK_UP_START)) (a0 : Nat) (a1 : Nat) (a2 : Nat) (a3 : Nat) (a4 : Nat) (a5 : Nat) (a6 : Nat) (a7 : Nat) (a8 : Nat) (a9 : Nat) (a10 : Nat) (a11 : Nat) (a12 : Nat) (a13 : Nat) (a14 : Nat) (h : Moves W s₀ s) :
    Moves W s₀ (Sys2Proof.Machine.Vlk.regAssign a0 a1 a2 a3 a4 a5 a6 a7 a8 a9 a10 a11 a12 a13 a14 s) := by
  unfold Sys2Proof.Machine.Vlk.regAssign
  repeat' (first
    | with_reducible assumption
    | with_reducible apply Vlk_receive_moves
    | with_reducible apply Vlk_accept_moves
    | with_reducible apply Vlk_join_moves
    | with_reducible apply Vlk_down_moves
    | with_reducible apply Vlk_syncEqd_moves
    | intro _
    | split)

theorem Vlk_regReject_moves {W : Part → Prop} {s₀ s : State} (h0 : W .qdr) (h1 : W (.fld F.CRY_KEY_DATA_KEY)) (h2 : W (.fld F.CRY_KEY_SALT_SALT)) (h3 : W (.fld F.CRY_LOCK_STAT_LOCK_BROKEN)) (h4 : W (.fld F.CRY_LOCK_STAT_OWNER)) (h5 : W (.fld F.LTX_CTRL_MUTE)) (h6 : W (.fld F.LTX_STAT_MUTE_SRC)) (h7 : W (.fld F.MBX_INT_CAUSE_RESET_SEEN)) (h8 : W (.fld F.MBX_LOCK_STAT_LOCK_BROKEN)) (h9 : W (.fld F.MBX_LOCK_STAT_OWNER)) (h10 : W (.fld F.MBX_STAT_RX_RESET_SEEN)) (h11 : W (.fld F.MBX_STAT_SENDER_RESET_SEEN)) (h12 : W (.fld F.PMC_INT_CAUSE_OVF)) (h13 : W (.fld F.PMC_INT_CAUSE_SMP_AVAIL)) (h14 : W (.fld F.PMC_INT_CAUSE_SMP_DROP)) (h15 : W (.fld F.PMC_OVF_STAT_OVF)) (h16 : W (.fld F.PMC_SMP_DROP_RING)) (h17 : W (.fld F.PMC_SMP_STAT_COUNT)) (h18 : W (.fld F.VLK_INT_CAUSE_LEAF_LOST)) (h19 : W (.fld F.VLK_INT_CAUSE_STATE_CHG)) (h20 : W (.fld F.VLK_SELF_LEAF)) (h21 : W (.fld F.VLK_SELF_SILENT)) (h22 : W (.fld F.VLK_SELF_STATE)) (h23 : W (.fld H.LTX_OUTPUT)) (h24 : W (.fld H.PEER_MUTE_WAS)) (h25 : W (.fld H.PMC_CNT)) (h26 : W (.fld H.PMC_OVF_DUE)) (h27 : W (.fld H.PMC_OVF_T)) (h28 : W (.fld H.PMC_RING)) (h29 : W (.fld H.PMC_TRACE_POS)) (h30 : W (.fld H.VLK_ATTEMPT)) (h31 : W (.fld H.VLK_LISTENING)) (h32 : W (.fld H.VLK_PREV_LEAF)) (h33 : W (.fld H.VLK_REG_BASE)) (h34 : W (.fld H.VLK_REG_WAIT)) (h35 : W (.fld H.VLK_S_REST)) (h36 : W (.fld H.VLK_UP_ON)) (a0 : Nat) (a1 : Nat) (h : Moves W s₀ s) :
    Moves W s₀ (Sys2Proof.Machine.Vlk.regReject a0 a1 s) := by
  unfold Sys2Proof.Machine.Vlk.regReject
  repeat' (first
    | with_reducible assumption
    | with_reducible apply Vlk_setState_moves
    | intro _
    | split)

theorem Vlk_rangeAdj_moves {W : Part → Prop} {s₀ s : State} (h0 : W (.fld H.VLK_EQD_DELTA)) (a0 : Int) (h : Moves W s₀ s) :
    Moves W s₀ (Sys2Proof.Machine.Vlk.rangeAdj a0 s) := by
  unfold Sys2Proof.Machine.Vlk.rangeAdj
  repeat' (first
    | with_reducible assumption
    | with_reducible apply Moves.sput
    | intro _)

theorem Vlk_freqAdj_moves {W : Part → Prop} {s₀ s : State} (h0 : W (.fld F.LTX_FREQ_OFS_OFS)) (h1 : W (.fld F.LTX_INT_CAUSE_CFG_ERR)) (h2 : W (.fld H.LTX_OFS_PENDING)) (a0 : Int) (h : Moves W s₀ s) :
    Moves W s₀ (Sys2Proof.Machine.Vlk.freqAdj a0 s).1 := by
  unfold Sys2Proof.Machine.Vlk.freqAdj
  repeat' (first
    | with_reducible assumption
    | with_reducible apply Moves.set
    | with_reducible apply Ltx_writeFreqOfs_moves
    | intro _
    | split
    | (extract_lets +onlyGivenNames x; first
      | (refine Moves.keep (W := W) (s₀ := s₀) x ?_ ?_; rotate_left; intro hx; clear_value x; rotate_right)
      | (refine Moves.keep (W := W) (s₀ := s₀) x.2 ?_ ?_; rotate_left; intro hx; clear_value x; rotate_right)
      | (refine Moves.keep (W := W) (s₀ := s₀) x.1 ?_ ?_; rotate_left; intro hx; clear_value x; rotate_right)
      | skip))

theorem Vlk_grantTable_moves {W : Part → Prop} {s₀ s : State} (h0 : W .vlk) (h1 : W (.fld H.VLK_G_NAK_SENT)) (h2 : W (.fld H.VLK_G_SC_SHADOW)) (h3 : W (.fld H.VLK_G_SHADOW)) (h4 : W (.fld H.VLK_G_SHADOW_VER)) (h5 : W (.fld H.VLK_SEQ)) (a0 : Nat) (a1 : List (List Nat)) (h : Moves W s₀ s) :
    Moves W s₀ (Sys2Proof.Machine.Vlk.grantTable a0 a1 s) := by
  unfold Sys2Proof.Machine.Vlk.grantTable
  repeat' (first
    | with_reducible assumption
    | with_reducible apply Moves.clr
    | with_reducible apply Moves.each
    | with_reducible apply Moves.eachOf
    | with_reducible apply Moves.put
    | with_reducible apply Vlk_toHub_moves
    | intro _
    | (extract_lets +onlyGivenNames x; first
      | (refine Moves.keep (W := W) (s₀ := s₀) x ?_ ?_; rotate_left; intro hx; clear_value x; rotate_right)
      | (refine Moves.keep (W := W) (s₀ := s₀) x.2 ?_ ?_; rotate_left; intro hx; clear_value x; rotate_right)
      | (refine Moves.keep (W := W) (s₀ := s₀) x.1 ?_ ?_; rotate_left; intro hx; clear_value x; rotate_right)
      | skip))

theorem Vlk_loadTable_moves {W : Part → Prop} {s₀ s : State} (h0 : W .vlk) (h1 : W (.fld F.LRX_INT_CAUSE_SHADOW_LOCKED)) (h2 : W (.fld F.LRX_INT_CAUSE_TABLE_ERR)) (h3 : W (.fld F.LRX_STAT_ERR_SC)) (h4 : W (.fld F.LRX_STAT_SHADOW_READY)) (h5 : W (.fld F.LTX_INT_CAUSE_SHADOW_LOCKED)) (h6 : W (.fld F.LTX_INT_CAUSE_TABLE_ERR)) (h7 : W (.fld F.LTX_STAT_ERR_SC)) (h8 : W (.fld F.LTX_STAT_SHADOW_READY)) (h9 : W (.fld H.LRX_SHADOW)) (h10 : W (.fld H.LRX_SHADOW_VER)) (h11 : W (.fld H.LTX_SHADOW)) (h12 : W (.fld H.LTX_SHADOW_VER)) (h13 : W (.fld H.VLK_SEQ)) (a0 : Nat) (a1 : Nat) (a2 : Nat) (a3 : List Nat) (h : Moves W s₀ s) :
    Moves W s₀ (Sys2Proof.Machine.Vlk.loadTable a0 a1 a2 a3 s) := by
  unfold Sys2Proof.Machine.Vlk.loadTable
  repeat' (first
    | with_reducible assumption
    | with_reducible apply Scm_writeBank_moves
    | with_reducible apply Vlk_toHub_moves
    | intro _
    | split
    | (extract_lets +onlyGivenNames x; first
      | (refine Moves.keep (W := W) (s₀ := s₀) x ?_ ?_; rotate_left; intro hx; clear_value x; rotate_right)
      | (refine Moves.keep (W := W) (s₀ := s₀) x.2 ?_ ?_; rotate_left; intro hx; clear_value x; rotate_right)
      | (refine Moves.keep (W := W) (s₀ := s₀) x.1 ?_ ?_; rotate_left; intro hx; clear_value x; rotate_right)
      | skip))

theorem Vlk_loadCancel_moves {W : Part → Prop} {s₀ s : State} (h0 : W (.fld H.LRX_SHADOW_VER)) (h1 : W (.fld H.LTX_SHADOW_VER)) (a0 : Nat) (a1 : Nat) (h : Moves W s₀ s) :
    Moves W s₀ (Sys2Proof.Machine.Vlk.loadCancel a0 a1 s) := by
  unfold Sys2Proof.Machine.Vlk.loadCancel
  repeat' (first
    | with_reducible assumption
    | with_reducible apply Moves.clr
    | intro _
    | split)

theorem Vlk_restGrant_moves {W : Part → Prop} {s₀ s : State} (h0 : W (.fld H.VLK_S_CYCLE)) (h1 : W (.fld H.VLK_S_LISTEN)) (h2 : W (.fld H.VLK_S_REST)) (h3 : W (.fld H.VLK_S_START)) (a0 : Nat) (a1 : Nat) (a2 : Nat) (h : Moves W s₀ s) :
    Moves W s₀ (Sys2Proof.Machine.Vlk.restGrant a0 a1 a2 s) := by
  unfold Sys2Proof.Machine.Vlk.restGrant
  repeat' (first
    | with_reducible assumption
    | with_reducible apply Moves.clr
    | with_reducible apply Moves.put
    | with_reducible apply Moves.set
    | intro _
    | split)

theorem Vlk_exchange_moves {W : Part → Prop} {s₀ s : State} (a0 : Sys2Proof.Machine.Field) (a1 : Sys2Proof.Machine.Field) (a2 : Nat) (a3 : Nat) (hg0 : W (.fld a0)) (hg1 : W (.fld a1)) (h : Moves W s₀ s) :
    Moves W s₀ (Sys2Proof.Machine.Vlk.exchange a0 a1 a2 a3 s) := by
  unfold Sys2Proof.Machine.Vlk.exchange
  repeat' (first
    | with_reducible assumption
    | with_reducible apply Moves.put
    | intro _)

theorem Vlk_grantSwapLeaf_moves {W : Part → Prop} {s₀ s : State} (h0 : W (.fld F.VLK_INT_CAUSE_GRANT_SWAP)) (h1 : W (.fld H.VLK_G_ACT)) (h2 : W (.fld H.VLK_G_ACT_VER)) (h3 : W (.fld H.VLK_G_SC_ACT)) (h4 : W (.fld H.VLK_G_SC_SHADOW)) (h5 : W (.fld H.VLK_G_SHADOW)) (h6 : W (.fld H.VLK_G_SHADOW_VER)) (h7 : W (.fld H.VLK_G_SWAP)) (a0 : Nat) (h : Moves W s₀ s) :
    Moves W s₀ (Sys2Proof.Machine.Vlk.grantSwapLeaf a0 s) := by
  unfold Sys2Proof.Machine.Vlk.grantSwapLeaf
  repeat' (first
    | with_reducible assumption
    | with_reducible apply Moves.clr
    | with_reducible apply Moves.each
    | with_reducible apply Moves.put
    | with_reducible apply Moves.set
    | with_reducible apply Vlk_exchange_moves
    | intro _
    | split
    | (extract_lets +onlyGivenNames x; first
      | (refine Moves.keep (W := W) (s₀ := s₀) x ?_ ?_; rotate_left; intro hx; clear_value x; rotate_right)
      | (refine Moves.keep (W := W) (s₀ := s₀) x.2 ?_ ?_; rotate_left; intro hx; clear_value x; rotate_right)
      | (refine Moves.keep (W := W) (s₀ := s₀) x.1 ?_ ?_; rotate_left; intro hx; clear_value x; rotate_right)
      | skip))

theorem Vlk_frameBoundary_moves {W : Part → Prop} {s₀ s : State} (h0 : W .qdr) (h1 : W .vlk) (h2 : W (.fld F.CRY_KEY_DATA_KEY)) (h3 : W (.fld F.CRY_KEY_SALT_SALT)) (h4 : W (.fld F.CRY_LOCK_STAT_LOCK_BROKEN)) (h5 : W (.fld F.CRY_LOCK_STAT_OWNER)) (h6 : W (.fld F.LTX_CTRL_MUTE)) (h7 : W (.fld F.LTX_STAT_MUTE_SRC)) (h8 : W (.fld F.MBX_INT_CAUSE_RESET_SEEN)) (h9 : W (.fld F.MBX_LOCK_STAT_LOCK_BROKEN)) (h10 : W (.fld F.MBX_LOCK_STAT_OWNER)) (h11 : W (.fld F.MBX_STAT_RX_RESET_SEEN)) (h12 : W (.fld F.MBX_STAT_SENDER_RESET_SEEN)) (h13 : W (.fld F.PMC_INT_CAUSE_OVF)) (h14 : W (.fld F.PMC_INT_CAUSE_SMP_AVAIL)) (h15 : W (.fld F.PMC_INT_CAUSE_SMP_DROP)) (h16 : W (.fld F.PMC_OVF_STAT_OVF)) (h17 : W (.fld F.PMC_SMP_DROP_RING)) (h18 : W (.fld F.PMC_SMP_STAT_COUNT)) (h19 : W (.fld F.VLK_INT_CAUSE_GRANT_SWAP)) (h20 : W (.fld F.VLK_INT_CAUSE_LEAF_LOST)) (h21 : W (.fld F.VLK_INT_CAUSE_STATE_CHG)) (h22 : W (.fld F.VLK_SELF_EQD_EQD)) (h23 : W (.fld F.VLK_SELF_LEAF)) (h24 : W (.fld F.VLK_SELF_SILENT)) (h25 : W (.fld F.VLK_SELF_STATE)) (h26 : W (.fld H.LTX_OUTPUT)) (h27 : W (.fld H.PEER_MUTE_WAS)) (h28 : W (.fld H.PMC_CNT)) (h29 : W (.fld H.PMC_OVF_DUE)) (h30 : W (.fld H.PMC_OVF_T)) (h31 : W (.fld H.PMC_RING)) (h32 : W (.fld H.PMC_TRACE_POS)) (h33 : W (.fld H.VLK_ATTEMPT)) (h34 : W (.fld H.VLK_EQD_DELTA)) (h35 : W (.fld H.VLK_EQD_NOW)) (h36 : W (.fld H.VLK_FEEDER_USE)) (h37 : W (.fld H.VLK_G_ACT)) (h38 : W (.fld H.VLK_G_ACT_VER)) (h39 : W (.fld H.VLK_G_SC_ACT)) (h40 : W (.fld H.VLK_G_SC_SHADOW)) (h41 : W (.fld H.VLK_G_SHADOW)) (h42 : W (.fld H.VLK_G_SHADOW_VER)) (h43 : W (.fld H.VLK_G_SWAP)) (h44 : W (.fld H.VLK_LISTENING)) (h45 : W (.fld H.VLK_PREV_LEAF)) (h46 : W (.fld H.VLK_REG_BASE)) (h47 : W (.fld H.VLK_REG_WAIT)) (h48 : W (.fld H.VLK_SEQ)) (h49 : W (.fld H.VLK_SWITCH_SILENT)) (h50 : W (.fld H.VLK_S_REST)) (h51 : W (.fld H.VLK_UP_ON)) (a0 : Nat) (h : Moves W s₀ s) :
    Moves W s₀ (Sys2Proof.Machine.Vlk.frameBoundary a0 s) := by
  unfold Sys2Proof.Machine.Vlk.frameBoundary
  repeat' (first
    | with_reducible assumption
    | with_reducible apply Moves.clr
    | with_reducible apply Moves.put
    | with_reducible apply Vlk_applyDelta_moves
    | with_reducible apply Vlk_upstreamResume_moves
    | with_reducible apply Vlk_takeEqd_moves
    | with_reducible apply Vlk_grantSwapLeaf_moves
    | intro _
    | split
    | (extract_lets +onlyGivenNames x; first
      | (refine Moves.keep (W := W) (s₀ := s₀) x ?_ ?_; rotate_left; intro hx; clear_value x; rotate_right)
      | (refine Moves.keep (W := W) (s₀ := s₀) x.2 ?_ ?_; rotate_left; intro hx; clear_value x; rotate_right)
      | (refine Moves.keep (W := W) (s₀ := s₀) x.1 ?_ ?_; rotate_left; intro hx; clear_value x; rotate_right)
      | skip))

theorem Vlk_regAttempt_moves {W : Part → Prop} {s₀ s : State} (h0 : W (.fld H.VLK_ATTEMPT)) (h1 : W (.fld H.VLK_EQD_NOW)) (h2 : W (.fld H.VLK_REG_BASE)) (h3 : W (.fld H.VLK_REG_WAIT)) (h4 : W (.fld H.VLK_SEQ)) (a0 : Nat) (a1 : Nat) (a2 : Nat) (a3 : Nat) (h : Moves W s₀ s) :
    Moves W s₀ (Sys2Proof.Machine.Vlk.regAttempt a0 a1 a2 a3 s) := by
  unfold Sys2Proof.Machine.Vlk.regAttempt
  repeat' (first
    | with_reducible assumption
    | with_reducible apply Moves.clr
    | with_reducible apply Moves.count
    | with_reducible apply Moves.emit
    | with_reducible apply Moves.put
    | with_reducible apply Moves.set
    | intro _
    | split
    | (extract_lets +onlyGivenNames x; first
      | (refine Moves.keep (W := W) (s₀ := s₀) x ?_ ?_; rotate_left; intro hx; clear_value x; rotate_right)
      | (refine Moves.keep (W := W) (s₀ := s₀) x.2 ?_ ?_; rotate_left; intro hx; clear_value x; rotate_right)
      | (refine Moves.keep (W := W) (s₀ := s₀) x.1 ?_ ?_; rotate_left; intro hx; clear_value x; rotate_right)
      | skip))

theorem Vlk_regTimeout_moves {W : Part → Prop} {s₀ s : State} (h0 : W (.fld F.VLK_INT_CAUSE_REG_GIVEUP)) (h1 : W (.fld H.VLK_GIVEUP)) (h2 : W (.fld H.VLK_REG_BASE)) (h3 : W (.fld H.VLK_REG_WAIT)) (a0 : Nat) (h : Moves W s₀ s) :
    Moves W s₀ (Sys2Proof.Machine.Vlk.regTimeout a0 s) := by
  unfold Sys2Proof.Machine.Vlk.regTimeout
  repeat' (first
    | with_reducible assumption
    | with_reducible apply Moves.clr
    | with_reducible apply Moves.set
    | with_reducible apply Vlk_attemptFrom_moves
    | intro _
    | split
    | (extract_lets +onlyGivenNames x; first
      | (refine Moves.keep (W := W) (s₀ := s₀) x ?_ ?_; rotate_left; intro hx; clear_value x; rotate_right)
      | (refine Moves.keep (W := W) (s₀ := s₀) x.2 ?_ ?_; rotate_left; intro hx; clear_value x; rotate_right)
      | (refine Moves.keep (W := W) (s₀ := s₀) x.1 ?_ ?_; rotate_left; intro hx; clear_value x; rotate_right)
      | skip))

theorem Vlk_regGo_moves {W : Part → Prop} {s₀ s : State} (h0 : W (.fld H.VLK_ATTEMPT)) (h1 : W (.fld H.VLK_GIVEUP)) (h2 : W (.fld H.VLK_REG_BASE)) (h : Moves W s₀ s) :
    Moves W s₀ (Sys2Proof.Machine.Vlk.regGo s) := by
  unfold Sys2Proof.Machine.Vlk.regGo
  repeat' (first
    | with_reducible assumption
    | with_reducible apply Moves.clr
    | with_reducible apply Vlk_attemptFrom_moves
    | intro _
    | split)

theorem Vlk_upstreamStart_moves {W : Part → Prop} {s₀ s : State} (h0 : W .vlk) (h1 : W (.fld H.VLK_SEQ)) (h2 : W (.fld H.VLK_UP_ON)) (a0 : Nat) (h : Moves W s₀ s) :
    Moves W s₀ (Sys2Proof.Machine.Vlk.upstreamStart a0 s) := by
  unfold Sys2Proof.Machine.Vlk.upstreamStart
  repeat' (first
    | with_reducible assumption
    | with_reducible apply Moves.set
    | with_reducible apply Vlk_toHub_moves
    | intro _
    | split)

theorem Vlk_askRest_moves {W : Part → Prop} {s₀ s : State} (h0 : W (.fld F.LTX_STAT_MUTE_SRC)) (h1 : W (.fld F.PWR_INT_CAUSE_REST_REFUSED)) (h2 : W (.fld F.PWR_REST_STAT_ERR)) (h3 : W (.fld F.PWR_REST_STAT_STATE)) (h4 : W (.fld F.VLK_INT_CAUSE_REST_HELD)) (h5 : W (.fld H.HSL_OUT)) (h6 : W (.fld H.LTX_OUTPUT)) (h7 : W (.fld H.PWR_WAKE_PEND)) (h8 : W (.fld H.VLK_RETRY)) (h : Moves W s₀ s) :
    Moves W s₀ (Sys2Proof.Machine.Vlk.askRest s) := by
  unfold Sys2Proof.Machine.Vlk.askRest
  repeat' (first
    | with_reducible assumption
    | with_reducible apply Moves.set
    | with_reducible apply Rest_enter_moves
    | intro _
    | split
    | (extract_lets +onlyGivenNames x; first
      | (refine Moves.keep (W := W) (s₀ := s₀) x ?_ ?_; rotate_left; intro hx; clear_value x; rotate_right)
      | (refine Moves.keep (W := W) (s₀ := s₀) x.2 ?_ ?_; rotate_left; intro hx; clear_value x; rotate_right)
      | (refine Moves.keep (W := W) (s₀ := s₀) x.1 ?_ ?_; rotate_left; intro hx; clear_value x; rotate_right)
      | skip))

theorem Vlk_restStart_moves {W : Part → Prop} {s₀ s : State} (h0 : W .qdr) (h1 : W (.fld F.CRY_KEY_DATA_KEY)) (h2 : W (.fld F.CRY_KEY_SALT_SALT)) (h3 : W (.fld F.CRY_LOCK_STAT_LOCK_BROKEN)) (h4 : W (.fld F.CRY_LOCK_STAT_OWNER)) (h5 : W (.fld F.LTX_CTRL_MUTE)) (h6 : W (.fld F.LTX_STAT_MUTE_SRC)) (h7 : W (.fld F.MBX_INT_CAUSE_RESET_SEEN)) (h8 : W (.fld F.MBX_LOCK_STAT_LOCK_BROKEN)) (h9 : W (.fld F.MBX_LOCK_STAT_OWNER)) (h10 : W (.fld F.MBX_STAT_RX_RESET_SEEN)) (h11 : W (.fld F.MBX_STAT_SENDER_RESET_SEEN)) (h12 : W (.fld F.PMC_INT_CAUSE_OVF)) (h13 : W (.fld F.PMC_INT_CAUSE_SMP_AVAIL)) (h14 : W (.fld F.PMC_INT_CAUSE_SMP_DROP)) (h15 : W (.fld F.PMC_OVF_STAT_OVF)) (h16 : W (.fld F.PMC_SMP_DROP_RING)) (h17 : W (.fld F.PMC_SMP_STAT_COUNT)) (h18 : W (.fld F.PWR_INT_CAUSE_REST_REFUSED)) (h19 : W (.fld F.PWR_REST_STAT_ERR)) (h20 : W (.fld F.PWR_REST_STAT_STATE)) (h21 : W (.fld F.VLK_INT_CAUSE_LEAF_LOST)) (h22 : W (.fld F.VLK_INT_CAUSE_REST_HELD)) (h23 : W (.fld F.VLK_INT_CAUSE_STATE_CHG)) (h24 : W (.fld F.VLK_SELF_LEAF)) (h25 : W (.fld F.VLK_SELF_SILENT)) (h26 : W (.fld F.VLK_SELF_STATE)) (h27 : W (.fld H.HSL_OUT)) (h28 : W (.fld H.LTX_OUTPUT)) (h29 : W (.fld H.PEER_MUTE_WAS)) (h30 : W (.fld H.PMC_CNT)) (h31 : W (.fld H.PMC_OVF_DUE)) (h32 : W (.fld H.PMC_OVF_T)) (h33 : W (.fld H.PMC_RING)) (h34 : W (.fld H.PMC_TRACE_POS)) (h35 : W (.fld H.PWR_WAKE_PEND)) (h36 : W (.fld H.VLK_ATTEMPT)) (h37 : W (.fld H.VLK_LISTENING)) (h38 : W (.fld H.VLK_PREV_LEAF)) (h39 : W (.fld H.VLK_REG_BASE)) (h40 : W (.fld H.VLK_REG_WAIT)) (h41 : W (.fld H.VLK_RETRY)) (h42 : W (.fld H.VLK_S_REST)) (h43 : W (.fld H.VLK_UP_ON)) (a0 : Nat) (h : Moves W s₀ s) :
    Moves W s₀ (Sys2Proof.Machine.Vlk.restStart a0 s) := by
  unfold Sys2Proof.Machine.Vlk.restStart
  repeat' (first
    | with_reducible assumption
    | with_reducible apply Moves.clr
    | with_reducible apply Vlk_askRest_moves
    | with_reducible apply Vlk_silence_moves
    | with_reducible apply Vlk_setState_moves
    | intro _
    | split)

theorem Vlk_restRetry_moves {W : Part → Prop} {s₀ s : State} (h0 : W (.fld F.LTX_STAT_MUTE_SRC)) (h1 : W (.fld F.PWR_INT_CAUSE_REST_REFUSED)) (h2 : W (.fld F.PWR_REST_STAT_ERR)) (h3 : W (.fld F.PWR_REST_STAT_STATE)) (h4 : W (.fld H.HSL_OUT)) (h5 : W (.fld H.LTX_OUTPUT)) (h6 : W (.fld H.PWR_WAKE_PEND)) (h7 : W (.fld H.VLK_RETRY)) (h : Moves W s₀ s) :
    Moves W s₀ (Sys2Proof.Machine.Vlk.restRetry s) := by
  unfold Sys2Proof.Machine.Vlk.restRetry
  repeat' (first
    | with_reducible assumption
    | with_reducible apply Moves.clr
    | with_reducible apply Rest_enter_moves
    | intro _
    | split
    | (extract_lets +onlyGivenNames x; first
      | (refine Moves.keep (W := W) (s₀ := s₀) x ?_ ?_; rotate_left; intro hx; clear_value x; rotate_right)
      | (refine Moves.keep (W := W) (s₀ := s₀) x.2 ?_ ?_; rotate_left; intro hx; clear_value x; rotate_right)
      | (refine Moves.keep (W := W) (s₀ := s₀) x.1 ?_ ?_; rotate_left; intro hx; clear_value x; rotate_right)
      | skip))

theorem Vlk_listenWake_moves {W : Part → Prop} {s₀ s : State} (h0 : W (.fld F.PWR_AVS_READ_BUSY)) (h1 : W (.fld F.PWR_REST_STAT_STATE)) (h2 : W (.fld F.PWR_VMIN_VREQ_MV)) (h3 : W (.fld H.PWR_TARGET)) (h4 : W (.fld H.PWR_VMIN_ASKED)) (h5 : W (.fld H.PWR_VMIN_FAILED)) (h6 : W (.fld H.PWR_VMIN_WAITS)) (h7 : W (.fld H.PWR_WAKE_PEND)) (h8 : W (.fld H.VLK_HEARD)) (h9 : W (.fld H.VLK_LISTENING)) (h10 : W (.fld H.VLK_LISTEN_MF)) (h11 : W (.fld H.VLK_LISTEN_READ)) (h12 : W (.fld H.VLK_RETRY)) (a0 : Nat) (h : Moves W s₀ s) :
    Moves W s₀ (Sys2Proof.Machine.Vlk.listenWake a0 s) := by
  unfold Sys2Proof.Machine.Vlk.listenWake
  repeat' (first
    | with_reducible assumption
    | with_reducible apply Moves.clr
    | with_reducible apply Moves.put
    | with_reducible apply Moves.set
    | with_reducible apply Rest_wake_moves
    | intro _
    | split
    | (extract_lets +onlyGivenNames x; first
      | (refine Moves.keep (W := W) (s₀ := s₀) x ?_ ?_; rotate_left; intro hx; clear_value x; rotate_right)
      | (refine Moves.keep (W := W) (s₀ := s₀) x.2 ?_ ?_; rotate_left; intro hx; clear_value x; rotate_right)
      | (refine Moves.keep (W := W) (s₀ := s₀) x.1 ?_ ?_; rotate_left; intro hx; clear_value x; rotate_right)
      | skip))

theorem Vlk_listenEnd_moves {W : Part → Prop} {s₀ s : State} (h0 : W (.fld F.LTX_STAT_MUTE_SRC)) (h1 : W (.fld F.PWR_INT_CAUSE_REST_REFUSED)) (h2 : W (.fld F.PWR_REST_STAT_ERR)) (h3 : W (.fld F.PWR_REST_STAT_STATE)) (h4 : W (.fld F.VLK_INT_CAUSE_REST_HELD)) (h5 : W (.fld H.HSL_OUT)) (h6 : W (.fld H.LTX_OUTPUT)) (h7 : W (.fld H.PWR_WAKE_PEND)) (h8 : W (.fld H.VLK_LISTENING)) (h9 : W (.fld H.VLK_RETRY)) (a0 : Nat) (h : Moves W s₀ s) :
    Moves W s₀ (Sys2Proof.Machine.Vlk.listenEnd a0 s) := by
  unfold Sys2Proof.Machine.Vlk.listenEnd
  repeat' (first
    | with_reducible assumption
    | with_reducible apply Moves.clr
    | with_reducible apply Vlk_askRest_moves
    | intro _
    | split)

theorem Vlk_lostTimeout_moves {W : Part → Prop} {s₀ s : State} (h0 : W .qdr) (h1 : W (.fld F.CRY_KEY_DATA_KEY)) (h2 : W (.fld F.CRY_KEY_SALT_SALT)) (h3 : W (.fld F.CRY_LOCK_STAT_LOCK_BROKEN)) (h4 : W (.fld F.CRY_LOCK_STAT_OWNER)) (h5 : W (.fld F.LTX_CTRL_MUTE)) (h6 : W (.fld F.LTX_STAT_MUTE_SRC)) (h7 : W (.fld F.MBX_INT_CAUSE_RESET_SEEN)) (h8 : W (.fld F.MBX_LOCK_STAT_LOCK_BROKEN)) (h9 : W (.fld F.MBX_LOCK_STAT_OWNER)) (h10 : W (.fld F.MBX_STAT_RX_RESET_SEEN)) (h11 : W (.fld F.MBX_STAT_SENDER_RESET_SEEN)) (h12 : W (.fld F.PMC_INT_CAUSE_OVF)) (h13 : W (.fld F.PMC_INT_CAUSE_SMP_AVAIL)) (h14 : W (.fld F.PMC_INT_CAUSE_SMP_DROP)) (h15 : W (.fld F.PMC_OVF_STAT_OVF)) (h16 : W (.fld F.PMC_SMP_DROP_RING)) (h17 : W (.fld F.PMC_SMP_STAT_COUNT)) (h18 : W (.fld F.VLK_INT_CAUSE_LEAF_LOST)) (h19 : W (.fld F.VLK_INT_CAUSE_STATE_CHG)) (h20 : W (.fld F.VLK_SELF_LEAF)) (h21 : W (.fld F.VLK_SELF_SILENT)) (h22 : W (.fld F.VLK_SELF_STATE)) (h23 : W (.fld H.LTX_OUTPUT)) (h24 : W (.fld H.PEER_MUTE_WAS)) (h25 : W (.fld H.PMC_CNT)) (h26 : W (.fld H.PMC_OVF_DUE)) (h27 : W (.fld H.PMC_OVF_T)) (h28 : W (.fld H.PMC_RING)) (h29 : W (.fld H.PMC_TRACE_POS)) (h30 : W (.fld H.VLK_ATTEMPT)) (h31 : W (.fld H.VLK_LISTENING)) (h32 : W (.fld H.VLK_PREV_LEAF)) (h33 : W (.fld H.VLK_REG_BASE)) (h34 : W (.fld H.VLK_REG_WAIT)) (h35 : W (.fld H.VLK_S_REST)) (h36 : W (.fld H.VLK_UP_ON)) (a0 : Nat) (h : Moves W s₀ s) :
    Moves W s₀ (Sys2Proof.Machine.Vlk.lostTimeout a0 s) := by
  unfold Sys2Proof.Machine.Vlk.lostTimeout
  repeat' (first
    | with_reducible assumption
    | with_reducible apply Vlk_setState_moves
    | intro _
    | split
    | (extract_lets +onlyGivenNames x; first
      | (refine Moves.keep (W := W) (s₀ := s₀) x ?_ ?_; rotate_left; intro hx; clear_value x; rotate_right)
      | (refine Moves.keep (W := W) (s₀ := s₀) x.2 ?_ ?_; rotate_left; intro hx; clear_value x; rotate_right)
      | (refine Moves.keep (W := W) (s₀ := s₀) x.1 ?_ ?_; rotate_left; intro hx; clear_value x; rotate_right)
      | skip))

theorem Vlk_sendContainer_moves {W : Part → Prop} {s₀ s : State} (h0 : W .vlk) (h1 : W (.fld H.VLK_RR)) (h2 : W (.fld H.VLK_SEQ)) (h : Moves W s₀ s) :
    Moves W s₀ (Sys2Proof.Machine.Vlk.sendContainer s).2 := by
  unfold Sys2Proof.Machine.Vlk.sendContainer
  repeat' (first
    | with_reducible assumption
    | with_reducible apply Vlk_fetch_moves
    | with_reducible apply Vlk_toHub_moves
    | intro _
    | (extract_lets +onlyGivenNames x; first
      | (refine Moves.keep (W := W) (s₀ := s₀) x ?_ ?_; rotate_left; intro hx; clear_value x; rotate_right)
      | (refine Moves.keep (W := W) (s₀ := s₀) x.2 ?_ ?_; rotate_left; intro hx; clear_value x; rotate_right)
      | (refine Moves.keep (W := W) (s₀ := s₀) x.1 ?_ ?_; rotate_left; intro hx; clear_value x; rotate_right)
      | skip))

end Sys2Proof.Laws
end

