-- ==== Sys2Proof/Laws/MovesVlkHub.lean ====
section
/-! SUPPORT. Sys2Proof/Laws/MovesVlkHub.lean: what each operation of Machine/VlkHub.lean may write (Laws/Moves.lean). -/
namespace Sys2Proof.Laws
open Sys2Proof Sys2Proof.Machine

theorem Vlk_setLeaf_moves {W : Part → Prop} {s₀ s : State} (h0 : W (.fld F.VLK_LEAF_STATE)) (h1 : W (.fld F.VLK_STAT_ACTIVE_CNT)) (h2 : W (.fld H.SCM_ADDRESSED)) (h3 : W (.fld H.SCM_GRANT_ADDR)) (h4 : W (.fld H.VLK_REST_SET)) (h5 : W (.fld H.VLK_WAKE_BIT)) (a0 : Nat) (a1 : Nat) (h : Moves W s₀ s) :
    Moves W s₀ (Sys2Proof.Machine.Vlk.setLeaf a0 a1 s) := by
  unfold Sys2Proof.Machine.Vlk.setLeaf
  repeat' (first
    | with_reducible assumption
    | with_reducible apply Moves.clr
    | with_reducible apply Moves.put
    | with_reducible apply Moves.when
    | with_reducible apply Scm_forget_moves
    | intro _
    | split
    | (extract_lets +onlyGivenNames x; first
      | (refine Moves.keep (W := W) (s₀ := s₀) x ?_ ?_; rotate_left; intro hx; clear_value x; rotate_right)
      | (refine Moves.keep (W := W) (s₀ := s₀) x.2 ?_ ?_; rotate_left; intro hx; clear_value x; rotate_right)
      | (refine Moves.keep (W := W) (s₀ := s₀) x.1 ?_ ?_; rotate_left; intro hx; clear_value x; rotate_right)
      | skip))

theorem Vlk_lose_moves {W : Part → Prop} {s₀ s : State} (h0 : W (.fld F.VLK_INT_CAUSE_LEAF_LOST)) (h1 : W (.fld F.VLK_LEAF_STATE)) (h2 : W (.fld F.VLK_STAT_ACTIVE_CNT)) (h3 : W (.fld F.VLK_STAT_LAST_LEAF)) (h4 : W (.fld H.SCM_ADDRESSED)) (h5 : W (.fld H.SCM_GRANT_ADDR)) (h6 : W (.fld H.VLK_REST_SET)) (h7 : W (.fld H.VLK_WAKE_BIT)) (a0 : Nat) (h : Moves W s₀ s) :
    Moves W s₀ (Sys2Proof.Machine.Vlk.lose a0 s) := by
  unfold Sys2Proof.Machine.Vlk.lose
  repeat' (first
    | with_reducible assumption
    | with_reducible apply Moves.put
    | with_reducible apply Moves.set
    | with_reducible apply Vlk_setLeaf_moves
    | intro _)

theorem Vlk_writeLeaf_moves {W : Part → Prop} {s₀ s : State} (h0 : W (.fld F.VLK_LEAF_BEACON)) (h1 : W (.fld F.VLK_LEAF_MEMBER)) (h2 : W (.fld F.VLK_LEAF_STATE)) (h3 : W (.fld F.VLK_STAT_ACTIVE_CNT)) (h4 : W (.fld H.SCM_ADDRESSED)) (h5 : W (.fld H.SCM_GRANT_ADDR)) (h6 : W (.fld H.VLK_REST_SET)) (h7 : W (.fld H.VLK_WAKE_BIT)) (a0 : Nat) (a1 : Nat) (h : Moves W s₀ s) :
    Moves W s₀ (Sys2Proof.Machine.Vlk.writeLeaf a0 a1 s) := by
  unfold Sys2Proof.Machine.Vlk.writeLeaf
  repeat' (first
    | with_reducible assumption
    | with_reducible apply Moves.put
    | with_reducible apply Vlk_setLeaf_moves
    | intro _
    | split
    | (extract_lets +onlyGivenNames x; first
      | (refine Moves.keep (W := W) (s₀ := s₀) x ?_ ?_; rotate_left; intro hx; clear_value x; rotate_right)
      | (refine Moves.keep (W := W) (s₀ := s₀) x.2 ?_ ?_; rotate_left; intro hx; clear_value x; rotate_right)
      | (refine Moves.keep (W := W) (s₀ := s₀) x.1 ?_ ?_; rotate_left; intro hx; clear_value x; rotate_right)
      | skip))

theorem Vlk_up_moves {W : Part → Prop} {s₀ s : State} (h0 : W .vlk) (h1 : W (.fld H.VLK_SEQ)) (a0 : Nat) (a1 : Nat) (a2 : Nat) (a3 : Sys2Proof.Machine.State → Sys2Proof.Machine.State × Option Nat) (hf3 : ∀ b0, Moves W s₀ b0 → Moves W s₀ (a3 b0).1) (h : Moves W s₀ s) :
    Moves W s₀ (Sys2Proof.Machine.Vlk.up a0 a1 a2 a3 s) := by
  unfold Sys2Proof.Machine.Vlk.up
  repeat' (first
    | with_reducible assumption
    | with_reducible apply Vlk_receive_moves
    | with_reducible apply hf3
    | intro _
    | split)

theorem Vlk_queue_moves {W : Part → Prop} {s₀ s : State} (h0 : W .vlk) (h1 : W (.fld F.VLK_INT_CAUSE_RX_AVAIL)) (h2 : W (.fld F.VLK_RXSTAT_COUNT)) (h3 : W (.fld F.VLK_RX_DROP_CNT_COUNT)) (a0 : List Nat) (h : Moves W s₀ s) :
    Moves W s₀ (Sys2Proof.Machine.Vlk.queue a0 s).1 := by
  unfold Sys2Proof.Machine.Vlk.queue
  repeat' (first
    | with_reducible assumption
    | with_reducible apply Vlk_ringPush_moves
    | intro _
    | split
    | (extract_lets +onlyGivenNames x; first
      | (refine Moves.keep (W := W) (s₀ := s₀) x ?_ ?_; rotate_left; intro hx; clear_value x; rotate_right)
      | (refine Moves.keep (W := W) (s₀ := s₀) x.2 ?_ ?_; rotate_left; intro hx; clear_value x; rotate_right)
      | (refine Moves.keep (W := W) (s₀ := s₀) x.1 ?_ ?_; rotate_left; intro hx; clear_value x; rotate_right)
      | skip))

theorem Vlk_container_moves {W : Part → Prop} {s₀ s : State} (h0 : W (.fld F.VLK_CRC_ERR_CNT_COUNT)) (a0 : Nat) (a1 : Nat) (h : Moves W s₀ s) :
    Moves W s₀ (Sys2Proof.Machine.Vlk.container a0 a1 s) := by
  unfold Sys2Proof.Machine.Vlk.container
  repeat' (first
    | with_reducible assumption
    | with_reducible apply Moves.count
    | intro _
    | split)

theorem Vlk_sendTreeInfo_moves {W : Part → Prop} {s₀ s : State} (h0 : W .vlk) (h1 : W (.fld H.VLK_SEQ)) (h : Moves W s₀ s) :
    Moves W s₀ (Sys2Proof.Machine.Vlk.sendTreeInfo s) := by
  unfold Sys2Proof.Machine.Vlk.sendTreeInfo
  repeat' (first
    | with_reducible assumption
    | with_reducible apply Vlk_send_moves
    | intro _)

theorem Vlk_sendFrames_moves {W : Part → Prop} {s₀ s : State} (h0 : W .vlk) (h1 : W (.fld H.VLK_RR)) (h2 : W (.fld H.VLK_SEQ)) (h : Moves W s₀ s) :
    Moves W s₀ (Sys2Proof.Machine.Vlk.sendFrames s) := by
  unfold Sys2Proof.Machine.Vlk.sendFrames
  repeat' (first
    | with_reducible assumption
    | with_reducible apply Moves.eachOf
    | with_reducible apply Vlk_sendTreeInfo_moves
    | with_reducible apply Vlk_spread_moves
    | with_reducible apply Vlk_vdfSend_moves
    | intro _
    | split
    | (extract_lets +onlyGivenNames x; first
      | (refine Moves.keep (W := W) (s₀ := s₀) x ?_ ?_; rotate_left; intro hx; clear_value x; rotate_right)
      | (refine Moves.keep (W := W) (s₀ := s₀) x.2 ?_ ?_; rotate_left; intro hx; clear_value x; rotate_right)
      | (refine Moves.keep (W := W) (s₀ := s₀) x.1 ?_ ?_; rotate_left; intro hx; clear_value x; rotate_right)
      | skip)
    | (with_reducible refine Moves.vlk _ ?_ ?_ <;> with_reducible first
      | assumption
      | apply Moves.eachOf
      | apply Vlk_sendTreeInfo_moves
      | apply Vlk_spread_moves
      | apply Vlk_vdfSend_moves))

theorem Vlk_judge_moves {W : Part → Prop} {s₀ s : State} (h0 : W (.fld H.VLK_TREE)) (h : Moves W s₀ s) :
    Moves W s₀ (Sys2Proof.Machine.Vlk.judge s) := by
  unfold Sys2Proof.Machine.Vlk.judge
  repeat' (first
    | with_reducible assumption
    | with_reducible apply Moves.put
    | intro _)

theorem Vlk_regReq_moves {W : Part → Prop} {s₀ s : State} (h0 : W .vlk) (h1 : W (.fld F.VLK_INT_CAUSE_DUP_ID)) (h2 : W (.fld F.VLK_INT_CAUSE_REREG)) (h3 : W (.fld F.VLK_INT_CAUSE_RX_AVAIL)) (h4 : W (.fld F.VLK_RXSTAT_COUNT)) (h5 : W (.fld F.VLK_RX_DROP_CNT_COUNT)) (h6 : W (.fld F.VLK_STAT_DUP_REQ)) (a0 : List Nat) (a1 : Nat) (a2 : Nat) (a3 : Nat) (a4 : Nat) (h : Moves W s₀ s) :
    Moves W s₀ (Sys2Proof.Machine.Vlk.regReq a0 a1 a2 a3 a4 s) := by
  unfold Vlk.regReq
  extract_lets idLo idHi id tmo hold s1 s2
  clear_value tmo id hold
  have e1 : Moves W s₀ s1 := by
    dsimp only [s1]
    split
    · exact h
    · split
      · exact h.set _ _ _ (by assumption)
      · exact h.set _ _ _ (by assumption)
  clear_value s1
  have e2 : Moves W s₀ s2 := by apply Vlk_ringPush_moves <;> assumption
  clear_value s2
  split
  · exact h
  split
  · exact h.count _ _ _ _ (by assumption)
  split
  · exact e1
  · exact e2.vlk _ h0

theorem Vlk_regConfirm_moves {W : Part → Prop} {s₀ s : State} (h0 : W .vlk) (h1 : W (.fld F.VLK_LEAF_STATE)) (h2 : W (.fld F.VLK_STAT_ACTIVE_CNT)) (h3 : W (.fld H.SCM_ADDRESSED)) (h4 : W (.fld H.SCM_GRANT_ADDR)) (h5 : W (.fld H.VLK_REST_SET)) (h6 : W (.fld H.VLK_SEQ)) (h7 : W (.fld H.VLK_WAKE_BIT)) (a0 : Nat) (h : Moves W s₀ s) :
    Moves W s₀ (Sys2Proof.Machine.Vlk.regConfirm a0 s) := by
  unfold Sys2Proof.Machine.Vlk.regConfirm
  repeat' (first
    | with_reducible assumption
    | with_reducible apply Vlk_setLeaf_moves
    | with_reducible apply Scm_sendTable_moves
    | with_reducible apply Scm_sendGrants_moves
    | intro _
    | split
    | (extract_lets +onlyGivenNames x; first
      | (refine Moves.keep (W := W) (s₀ := s₀) x ?_ ?_; rotate_left; intro hx; clear_value x; rotate_right)
      | (refine Moves.keep (W := W) (s₀ := s₀) x.2 ?_ ?_; rotate_left; intro hx; clear_value x; rotate_right)
      | (refine Moves.keep (W := W) (s₀ := s₀) x.1 ?_ ?_; rotate_left; intro hx; clear_value x; rotate_right)
      | skip))

theorem Vlk_dereg_moves {W : Part → Prop} {s₀ s : State} (h0 : W .qdr) (h1 : W .vlk) (h2 : W (.fld F.CRY_KEY_DATA_KEY)) (h3 : W (.fld F.CRY_KEY_SALT_SALT)) (h4 : W (.fld F.CRY_LOCK_STAT_LOCK_BROKEN)) (h5 : W (.fld F.CRY_LOCK_STAT_OWNER)) (h6 : W (.fld F.LTX_CTRL_MUTE)) (h7 : W (.fld F.LTX_STAT_MUTE_SRC)) (h8 : W (.fld F.MBX_INT_CAUSE_RESET_SEEN)) (h9 : W (.fld F.MBX_LOCK_STAT_LOCK_BROKEN)) (h10 : W (.fld F.MBX_LOCK_STAT_OWNER)) (h11 : W (.fld F.MBX_STAT_RX_RESET_SEEN)) (h12 : W (.fld F.MBX_STAT_SENDER_RESET_SEEN)) (h13 : W (.fld F.PMC_INT_CAUSE_OVF)) (h14 : W (.fld F.PMC_INT_CAUSE_SMP_AVAIL)) (h15 : W (.fld F.PMC_INT_CAUSE_SMP_DROP)) (h16 : W (.fld F.PMC_OVF_STAT_OVF)) (h17 : W (.fld F.PMC_SMP_DROP_RING)) (h18 : W (.fld F.PMC_SMP_STAT_COUNT)) (h19 : W (.fld F.VLK_INT_CAUSE_LEAF_LOST)) (h20 : W (.fld F.VLK_INT_CAUSE_STATE_CHG)) (h21 : W (.fld F.VLK_LEAF_STATE)) (h22 : W (.fld F.VLK_SELF_LEAF)) (h23 : W (.fld F.VLK_SELF_SILENT)) (h24 : W (.fld F.VLK_SELF_STATE)) (h25 : W (.fld F.VLK_STAT_ACTIVE_CNT)) (h26 : W (.fld H.LTX_OUTPUT)) (h27 : W (.fld H.PEER_MUTE_WAS)) (h28 : W (.fld H.PMC_CNT)) (h29 : W (.fld H.PMC_OVF_DUE)) (h30 : W (.fld H.PMC_OVF_T)) (h31 : W (.fld H.PMC_RING)) (h32 : W (.fld H.PMC_TRACE_POS)) (h33 : W (.fld H.SCM_ADDRESSED)) (h34 : W (.fld H.SCM_GRANT_ADDR)) (h35 : W (.fld H.VLK_ATTEMPT)) (h36 : W (.fld H.VLK_HEARD)) (h37 : W (.fld H.VLK_LISTENING)) (h38 : W (.fld H.VLK_PREV_LEAF)) (h39 : W (.fld H.VLK_REG_BASE)) (h40 : W (.fld H.VLK_REG_WAIT)) (h41 : W (.fld H.VLK_REST_SET)) (h42 : W (.fld H.VLK_SEQ)) (h43 : W (.fld H.VLK_S_REST)) (h44 : W (.fld H.VLK_UP_ON)) (h45 : W (.fld H.VLK_WAKE_BIT)) (a0 : Nat) (a1 : Nat) (a2 : Nat) (h : Moves W s₀ s) :
    Moves W s₀ (Sys2Proof.Machine.Vlk.dereg a0 a1 a2 s) := by
  unfold Sys2Proof.Machine.Vlk.dereg
  repeat' (first
    | with_reducible assumption
    | with_reducible apply Vlk_down_moves
    | with_reducible apply Vlk_accept_moves
    | with_reducible apply Vlk_setState_moves
    | with_reducible apply Vlk_up_moves
    | with_reducible apply Vlk_setLeaf_moves
    | intro _
    | split)

theorem Vlk_rangeTrigger_moves {W : Part → Prop} {s₀ s : State} (h0 : W .vlk) (h1 : W (.fld F.VLK_LEAF_EQD_EQD)) (h2 : W (.fld H.VLK_ADJ_PEND)) (h3 : W (.fld H.VLK_ARR_ERR)) (h4 : W (.fld H.VLK_SEQ)) (a0 : Nat) (a1 : Int) (a2 : Nat) (h : Moves W s₀ s) :
    Moves W s₀ (Sys2Proof.Machine.Vlk.rangeTrigger a0 a1 a2 s) := by
  unfold Sys2Proof.Machine.Vlk.rangeTrigger
  repeat' (first
    | with_reducible assumption
    | with_reducible apply Moves.put
    | with_reducible apply Moves.set
    | with_reducible apply Moves.sput
    | with_reducible apply Vlk_toLeaf_moves
    | intro _
    | split
    | (extract_lets +onlyGivenNames x; first
      | (refine Moves.keep (W := W) (s₀ := s₀) x ?_ ?_; rotate_left; intro hx; clear_value x; rotate_right)
      | (refine Moves.keep (W := W) (s₀ := s₀) x.2 ?_ ?_; rotate_left; intro hx; clear_value x; rotate_right)
      | (refine Moves.keep (W := W) (s₀ := s₀) x.1 ?_ ?_; rotate_left; intro hx; clear_value x; rotate_right)
      | skip))

theorem Vlk_freqTrigger_moves {W : Part → Prop} {s₀ s : State} (h0 : W .vlk) (h1 : W (.fld H.VLK_SEQ)) (a0 : Nat) (a1 : Int) (h : Moves W s₀ s) :
    Moves W s₀ (Sys2Proof.Machine.Vlk.freqTrigger a0 a1 s) := by
  unfold Sys2Proof.Machine.Vlk.freqTrigger
  repeat' (first
    | with_reducible assumption
    | with_reducible apply Vlk_toLeaf_moves
    | intro _
    | split)

theorem Vlk_snrReported_moves {W : Part → Prop} {s₀ s : State} (h0 : W (.fld F.SCM_DS_SNR_SNR)) (h1 : W (.fld F.SCM_DS_SNR_SNR_X)) (h2 : W (.fld F.SCM_DS_SNR_SNR_Y)) (h3 : W (.fld F.SCM_DS_SNR_VALID)) (h4 : W (.fld H.SCM_SNR_MF)) (a0 : Nat) (a1 : Nat) (a2 : List Nat) (h : Moves W s₀ s) :
    Moves W s₀ (Sys2Proof.Machine.Vlk.snrReported a0 a1 a2 s) := by
  unfold Sys2Proof.Machine.Vlk.snrReported
  repeat' (first
    | with_reducible assumption
    | with_reducible apply Moves.eachOf
    | with_reducible apply Moves.put
    | intro _
    | split
    | (extract_lets +onlyGivenNames x; first
      | (refine Moves.keep (W := W) (s₀ := s₀) x ?_ ?_; rotate_left; intro hx; clear_value x; rotate_right)
      | (refine Moves.keep (W := W) (s₀ := s₀) x.2 ?_ ?_; rotate_left; intro hx; clear_value x; rotate_right)
      | (refine Moves.keep (W := W) (s₀ := s₀) x.1 ?_ ?_; rotate_left; intro hx; clear_value x; rotate_right)
      | skip))

theorem Vlk_grantRest_moves {W : Part → Prop} {s₀ s : State} (h0 : W (.fld H.VLK_REST_CYCLE)) (h1 : W (.fld H.VLK_REST_LISTEN)) (h2 : W (.fld H.VLK_REST_SET)) (h3 : W (.fld H.VLK_REST_START)) (a0 : Nat) (a1 : Nat) (a2 : Nat) (a3 : Nat) (h : Moves W s₀ s) :
    Moves W s₀ (Sys2Proof.Machine.Vlk.grantRest a0 a1 a2 a3 s) := by
  unfold Sys2Proof.Machine.Vlk.grantRest
  repeat' (first
    | with_reducible assumption
    | with_reducible apply Moves.clr
    | with_reducible apply Moves.put
    | with_reducible apply Moves.set
    | intro _
    | split)

theorem Vlk_hubRestStart_moves {W : Part → Prop} {s₀ s : State} (h0 : W (.fld F.VLK_LEAF_STATE)) (h1 : W (.fld F.VLK_STAT_ACTIVE_CNT)) (h2 : W (.fld H.SCM_ADDRESSED)) (h3 : W (.fld H.SCM_GRANT_ADDR)) (h4 : W (.fld H.VLK_REST_SET)) (h5 : W (.fld H.VLK_WAKE_BIT)) (a0 : Nat) (h : Moves W s₀ s) :
    Moves W s₀ (Sys2Proof.Machine.Vlk.hubRestStart a0 s) := by
  unfold Sys2Proof.Machine.Vlk.hubRestStart
  repeat' (first
    | with_reducible assumption
    | with_reducible apply Vlk_setLeaf_moves
    | intro _
    | split)

theorem Vlk_wake_moves {W : Part → Prop} {s₀ s : State} (h0 : W (.fld H.VLK_WAKE_BIT)) (a0 : Nat) (h : Moves W s₀ s) :
    Moves W s₀ (Sys2Proof.Machine.Vlk.wake a0 s) := by
  unfold Sys2Proof.Machine.Vlk.wake
  repeat' (first
    | with_reducible assumption
    | with_reducible apply Moves.set
    | intro _
    | split)

theorem Vlk_traffic_moves {W : Part → Prop} {s₀ s : State} (h0 : W .vlk) (h1 : W (.fld H.VLK_REST_SET)) (h2 : W (.fld H.VLK_SEQ)) (h3 : W (.fld H.VLK_WAKE_BIT)) (a0 : Nat) (h : Moves W s₀ s) :
    Moves W s₀ (Sys2Proof.Machine.Vlk.traffic a0 s) := by
  unfold Sys2Proof.Machine.Vlk.traffic
  repeat' (first
    | with_reducible assumption
    | with_reducible apply Moves.clr
    | with_reducible apply Vlk_toLeaf_moves
    | with_reducible apply Vlk_wake_moves
    | intro _
    | split)

theorem Vlk_wakeTimeout_moves {W : Part → Prop} {s₀ s : State} (h0 : W (.fld F.VLK_INT_CAUSE_LEAF_LOST)) (h1 : W (.fld F.VLK_INT_CAUSE_WAKE_TMO)) (h2 : W (.fld F.VLK_LEAF_STATE)) (h3 : W (.fld F.VLK_STAT_ACTIVE_CNT)) (h4 : W (.fld F.VLK_STAT_LAST_LEAF)) (h5 : W (.fld H.SCM_ADDRESSED)) (h6 : W (.fld H.SCM_GRANT_ADDR)) (h7 : W (.fld H.VLK_REST_SET)) (h8 : W (.fld H.VLK_WAKE_BIT)) (a0 : Nat) (a1 : Nat) (h : Moves W s₀ s) :
    Moves W s₀ (Sys2Proof.Machine.Vlk.wakeTimeout a0 a1 s) := by
  unfold Sys2Proof.Machine.Vlk.wakeTimeout
  repeat' (first
    | with_reducible assumption
    | with_reducible apply Moves.set
    | with_reducible apply Vlk_lose_moves
    | intro _
    | split)

theorem Vlk_leafLost_moves {W : Part → Prop} {s₀ s : State} (h0 : W (.fld F.VLK_INT_CAUSE_LEAF_LOST)) (h1 : W (.fld F.VLK_LEAF_STATE)) (h2 : W (.fld F.VLK_STAT_ACTIVE_CNT)) (h3 : W (.fld F.VLK_STAT_LAST_LEAF)) (h4 : W (.fld H.SCM_ADDRESSED)) (h5 : W (.fld H.SCM_GRANT_ADDR)) (h6 : W (.fld H.VLK_REST_SET)) (h7 : W (.fld H.VLK_WAKE_BIT)) (a0 : Nat) (a1 : Nat) (h : Moves W s₀ s) :
    Moves W s₀ (Sys2Proof.Machine.Vlk.leafLost a0 a1 s) := by
  unfold Sys2Proof.Machine.Vlk.leafLost
  repeat' (first
    | with_reducible assumption
    | with_reducible apply Vlk_lose_moves
    | intro _
    | split)

theorem Vlk_wakeAck_moves {W : Part → Prop} {s₀ s : State} (h0 : W (.fld F.VLK_LEAF_STATE)) (h1 : W (.fld F.VLK_STAT_ACTIVE_CNT)) (h2 : W (.fld H.SCM_ADDRESSED)) (h3 : W (.fld H.SCM_GRANT_ADDR)) (h4 : W (.fld H.VLK_REST_SET)) (h5 : W (.fld H.VLK_WAKE_BIT)) (a0 : Nat) (h : Moves W s₀ s) :
    Moves W s₀ (Sys2Proof.Machine.Vlk.wakeAck a0 s) := by
  unfold Sys2Proof.Machine.Vlk.wakeAck
  repeat' (first
    | with_reducible assumption
    | with_reducible apply Moves.clr
    | with_reducible apply Vlk_setLeaf_moves
    | intro _)

theorem Vlk_ackReceived_moves {W : Part → Prop} {s₀ s : State} (h0 : W .qdr) (h1 : W .vlk) (h2 : W (.fld F.CRY_KEY_DATA_KEY)) (h3 : W (.fld F.CRY_KEY_SALT_SALT)) (h4 : W (.fld F.CRY_LOCK_STAT_LOCK_BROKEN)) (h5 : W (.fld F.CRY_LOCK_STAT_OWNER)) (h6 : W (.fld F.LTX_CTRL_MUTE)) (h7 : W (.fld F.LTX_STAT_MUTE_SRC)) (h8 : W (.fld F.MBX_INT_CAUSE_RESET_SEEN)) (h9 : W (.fld F.MBX_LOCK_STAT_LOCK_BROKEN)) (h10 : W (.fld F.MBX_LOCK_STAT_OWNER)) (h11 : W (.fld F.MBX_STAT_RX_RESET_SEEN)) (h12 : W (.fld F.MBX_STAT_SENDER_RESET_SEEN)) (h13 : W (.fld F.PMC_INT_CAUSE_OVF)) (h14 : W (.fld F.PMC_INT_CAUSE_SMP_AVAIL)) (h15 : W (.fld F.PMC_INT_CAUSE_SMP_DROP)) (h16 : W (.fld F.PMC_OVF_STAT_OVF)) (h17 : W (.fld F.PMC_SMP_DROP_RING)) (h18 : W (.fld F.PMC_SMP_STAT_COUNT)) (h19 : W (.fld F.VLK_INT_CAUSE_FREQ_FAIL)) (h20 : W (.fld F.VLK_INT_CAUSE_LEAF_LOST)) (h21 : W (.fld F.VLK_INT_CAUSE_STATE_CHG)) (h22 : W (.fld F.VLK_SELF_LEAF)) (h23 : W (.fld F.VLK_SELF_SILENT)) (h24 : W (.fld F.VLK_SELF_STATE)) (h25 : W (.fld H.LTX_OUTPUT)) (h26 : W (.fld H.PEER_MUTE_WAS)) (h27 : W (.fld H.PMC_CNT)) (h28 : W (.fld H.PMC_OVF_DUE)) (h29 : W (.fld H.PMC_OVF_T)) (h30 : W (.fld H.PMC_RING)) (h31 : W (.fld H.PMC_TRACE_POS)) (h32 : W (.fld H.VLK_ADJ_PEND)) (h33 : W (.fld H.VLK_ATTEMPT)) (h34 : W (.fld H.VLK_LISTENING)) (h35 : W (.fld H.VLK_PREV_LEAF)) (h36 : W (.fld H.VLK_REG_BASE)) (h37 : W (.fld H.VLK_REG_WAIT)) (h38 : W (.fld H.VLK_S_REST)) (h39 : W (.fld H.VLK_UP_ON)) (a0 : Nat) (a1 : Nat) (a2 : Nat) (h : Moves W s₀ s) :
    Moves W s₀ (Sys2Proof.Machine.Vlk.ackReceived a0 a1 a2 s) := by
  unfold Sys2Proof.Machine.Vlk.ackReceived
  repeat' (first
    | with_reducible assumption
    | with_reducible apply Moves.clr
    | with_reducible apply Moves.set
    | with_reducible apply Vlk_acked_moves
    | with_reducible apply Vlk_setState_moves
    | intro _
    | split
    | (extract_lets +onlyGivenNames x; first
      | (refine Moves.keep (W := W) (s₀ := s₀) x ?_ ?_; rotate_left; intro hx; clear_value x; rotate_right)
      | (refine Moves.keep (W := W) (s₀ := s₀) x.2 ?_ ?_; rotate_left; intro hx; clear_value x; rotate_right)
      | (refine Moves.keep (W := W) (s₀ := s₀) x.1 ?_ ?_; rotate_left; intro hx; clear_value x; rotate_right)
      | skip))

theorem Vlk_toRing_moves {W : Part → Prop} {s₀ s : State} (h0 : W .vlk) (h1 : W (.fld F.VLK_INT_CAUSE_RX_AVAIL)) (h2 : W (.fld F.VLK_RXSTAT_COUNT)) (h3 : W (.fld F.VLK_RX_DROP_CNT_COUNT)) (h4 : W (.fld H.VLK_HEARD)) (h5 : W (.fld H.VLK_SEQ)) (a0 : Nat) (a1 : Nat) (a2 : Nat) (a3 : Nat) (a4 : List Nat) (h : Moves W s₀ s) :
    Moves W s₀ (Sys2Proof.Machine.Vlk.toRing a0 a1 a2 a3 a4 s) := by
  unfold Sys2Proof.Machine.Vlk.toRing
  repeat' (first
    | with_reducible assumption
    | with_reducible apply Vlk_down_moves
    | with_reducible apply Vlk_queue_moves
    | with_reducible apply Vlk_up_moves
    | intro _
    | split)

theorem Vlk_unknown_moves {W : Part → Prop} {s₀ s : State} (h0 : W .vlk) (h1 : W (.fld F.VLK_RX_DROP_CNT_COUNT)) (h2 : W (.fld H.VLK_HEARD)) (h3 : W (.fld H.VLK_SEQ)) (a0 : Nat) (a1 : Nat) (a2 : Nat) (h : Moves W s₀ s) :
    Moves W s₀ (Sys2Proof.Machine.Vlk.unknown a0 a1 a2 s) := by
  unfold Sys2Proof.Machine.Vlk.unknown
  repeat' (first
    | with_reducible assumption
    | with_reducible apply Moves.count
    | with_reducible apply Vlk_down_moves
    | with_reducible apply Vlk_up_moves
    | intro _
    | split
    | (extract_lets +onlyGivenNames x; first
      | (refine Moves.keep (W := W) (s₀ := s₀) x ?_ ?_; rotate_left; intro hx; clear_value x; rotate_right)
      | (refine Moves.keep (W := W) (s₀ := s₀) x.2 ?_ ?_; rotate_left; intro hx; clear_value x; rotate_right)
      | (refine Moves.keep (W := W) (s₀ := s₀) x.1 ?_ ?_; rotate_left; intro hx; clear_value x; rotate_right)
      | skip))

theorem Vlk_learn_moves {W : Part → Prop} {s₀ s : State} (h0 : W (.fld H.VLK_LEAF_KHI)) (h1 : W (.fld H.VLK_REST_CYCLE)) (h2 : W (.fld H.VLK_REST_LISTEN)) (h3 : W (.fld H.VLK_REST_SET)) (h4 : W (.fld H.VLK_REST_START)) (a0 : Sys2Proof.Machine.VMsg) (h : Moves W s₀ s) :
    Moves W s₀ (Sys2Proof.Machine.Vlk.learn a0 s) := by
  unfold Sys2Proof.Machine.Vlk.learn
  repeat' (first
    | with_reducible assumption
    | with_reducible apply Moves.put
    | with_reducible apply Vlk_grantRest_moves
    | intro _
    | split)

theorem Vlk_txPost_moves {W : Part → Prop} {s₀ s : State} (h0 : W .vlk) (h1 : W (.fld F.VLK_TXPOST_BEACON)) (h2 : W (.fld F.VLK_TXPOST_LEN)) (h3 : W (.fld H.VLK_LEAF_KHI)) (h4 : W (.fld H.VLK_REST_CYCLE)) (h5 : W (.fld H.VLK_REST_LISTEN)) (h6 : W (.fld H.VLK_REST_SET)) (h7 : W (.fld H.VLK_REST_START)) (h8 : W (.fld H.VLK_SEQ)) (a0 : Nat) (a1 : Nat) (a2 : Nat) (h : Moves W s₀ s) :
    Moves W s₀ (Sys2Proof.Machine.Vlk.txPost a0 a1 a2 s) := by
  unfold Sys2Proof.Machine.Vlk.txPost
  repeat' (first
    | with_reducible assumption
    | with_reducible apply Moves.put
    | with_reducible apply Vlk_learn_moves
    | intro _
    | split
    | (extract_lets +onlyGivenNames x; first
      | (refine Moves.keep (W := W) (s₀ := s₀) x ?_ ?_; rotate_left; intro hx; clear_value x; rotate_right)
      | (refine Moves.keep (W := W) (s₀ := s₀) x.2 ?_ ?_; rotate_left; intro hx; clear_value x; rotate_right)
      | (refine Moves.keep (W := W) (s₀ := s₀) x.1 ?_ ?_; rotate_left; intro hx; clear_value x; rotate_right)
      | skip)
    | (with_reducible refine Moves.vlk _ ?_ ?_ <;> with_reducible first
      | assumption
      | apply Moves.put
      | apply Vlk_learn_moves))

theorem Vlk_writeTxPost_moves {W : Part → Prop} {s₀ s : State} (h0 : W .vlk) (h1 : W (.fld F.VLK_TXPOST_BEACON)) (h2 : W (.fld F.VLK_TXPOST_LEN)) (h3 : W (.fld H.VLK_LEAF_KHI)) (h4 : W (.fld H.VLK_REST_CYCLE)) (h5 : W (.fld H.VLK_REST_LISTEN)) (h6 : W (.fld H.VLK_REST_SET)) (h7 : W (.fld H.VLK_REST_START)) (h8 : W (.fld H.VLK_SEQ)) (a0 : Nat) (a1 : Nat) (h : Moves W s₀ s) :
    Moves W s₀ (Sys2Proof.Machine.Vlk.writeTxPost a0 a1 s) := by
  unfold Sys2Proof.Machine.Vlk.writeTxPost
  repeat' (first
    | with_reducible assumption
    | with_reducible apply Moves.put
    | with_reducible apply Vlk_txPost_moves
    | intro _
    | split)

theorem Vlk_regOpen_moves {W : Part → Prop} {s₀ s : State} (h0 : W (.fld F.VLK_CTRL_REG_OPEN)) (a0 : Nat) (h : Moves W s₀ s) :
    Moves W s₀ (Sys2Proof.Machine.Vlk.regOpen a0 s) := by
  unfold Sys2Proof.Machine.Vlk.regOpen
  repeat' (first
    | with_reducible assumption
    | with_reducible apply Moves.clr
    | with_reducible apply Moves.set
    | intro _
    | split)

theorem Vlk_writeCtrl_moves {W : Part → Prop} {s₀ s : State} (h0 : W .qdr) (h1 : W (.fld F.CRY_KEY_DATA_KEY)) (h2 : W (.fld F.CRY_KEY_SALT_SALT)) (h3 : W (.fld F.CRY_LOCK_STAT_LOCK_BROKEN)) (h4 : W (.fld F.CRY_LOCK_STAT_OWNER)) (h5 : W (.fld F.LTX_CTRL_MUTE)) (h6 : W (.fld F.LTX_STAT_MUTE_SRC)) (h7 : W (.fld F.MBX_INT_CAUSE_RESET_SEEN)) (h8 : W (.fld F.MBX_LOCK_STAT_LOCK_BROKEN)) (h9 : W (.fld F.MBX_LOCK_STAT_OWNER)) (h10 : W (.fld F.MBX_STAT_RX_RESET_SEEN)) (h11 : W (.fld F.MBX_STAT_SENDER_RESET_SEEN)) (h12 : W (.fld F.PMC_INT_CAUSE_OVF)) (h13 : W (.fld F.PMC_INT_CAUSE_SMP_AVAIL)) (h14 : W (.fld F.PMC_INT_CAUSE_SMP_DROP)) (h15 : W (.fld F.PMC_OVF_STAT_OVF)) (h16 : W (.fld F.PMC_SMP_DROP_RING)) (h17 : W (.fld F.PMC_SMP_STAT_COUNT)) (h18 : W (.fld F.VLK_CTRL_AUTO_FREQ)) (h19 : W (.fld F.VLK_CTRL_AUTO_RANGE)) (h20 : W (.fld F.VLK_CTRL_EN)) (h21 : W (.fld F.VLK_CTRL_REG_OPEN)) (h22 : W (.fld F.VLK_INT_CAUSE_LEAF_LOST)) (h23 : W (.fld F.VLK_INT_CAUSE_STATE_CHG)) (h24 : W (.fld F.VLK_SELF_LEAF)) (h25 : W (.fld F.VLK_SELF_SILENT)) (h26 : W (.fld F.VLK_SELF_STATE)) (h27 : W (.fld H.LTX_OUTPUT)) (h28 : W (.fld H.PEER_MUTE_WAS)) (h29 : W (.fld H.PMC_CNT)) (h30 : W (.fld H.PMC_OVF_DUE)) (h31 : W (.fld H.PMC_OVF_T)) (h32 : W (.fld H.PMC_RING)) (h33 : W (.fld H.PMC_TRACE_POS)) (h34 : W (.fld H.VLK_ATTEMPT)) (h35 : W (.fld H.VLK_GIVEUP)) (h36 : W (.fld H.VLK_LISTENING)) (h37 : W (.fld H.VLK_PREV_LEAF)) (h38 : W (.fld H.VLK_REG_BASE)) (h39 : W (.fld H.VLK_REG_WAIT)) (h40 : W (.fld H.VLK_S_REST)) (h41 : W (.fld H.VLK_UP_ON)) (a0 : Nat) (h : Moves W s₀ s) :
    Moves W s₀ (Sys2Proof.Machine.Vlk.writeCtrl a0 s) := by
  unfold Sys2Proof.Machine.Vlk.writeCtrl
  repeat' (first
    | with_reducible assumption
    | with_reducible apply Moves.put
    | with_reducible apply Vlk_regOpen_moves
    | with_reducible apply Vlk_regGo_moves
    | with_reducible apply Vlk_enable_moves
    | with_reducible apply Vlk_disable_moves
    | intro _
    | split
    | (extract_lets +onlyGivenNames x; first
      | (refine Moves.keep (W := W) (s₀ := s₀) x ?_ ?_; rotate_left; intro hx; clear_value x; rotate_right)
      | (refine Moves.keep (W := W) (s₀ := s₀) x.2 ?_ ?_; rotate_left; intro hx; clear_value x; rotate_right)
      | (refine Moves.keep (W := W) (s₀ := s₀) x.1 ?_ ?_; rotate_left; intro hx; clear_value x; rotate_right)
      | skip))

theorem Vlk_writeTEq_moves {W : Part → Prop} {s₀ s : State} (h0 : W (.fld F.VLK_INT_CAUSE_CFG_ERR)) (h1 : W (.fld F.VLK_T_EQ_T_EQ)) (a0 : Nat) (h : Moves W s₀ s) :
    Moves W s₀ (Sys2Proof.Machine.Vlk.writeTEq a0 s) := by
  unfold Sys2Proof.Machine.Vlk.writeTEq
  repeat' (first
    | with_reducible assumption
    | with_reducible apply Moves.put
    | with_reducible apply Moves.set
    | intro _
    | split)

end Sys2Proof.Laws
end

