-- ==== Sys2Proof/Laws/MovesBrx.lean ====
section
/-! SUPPORT. Sys2Proof/Laws/MovesBrx.lean: what each operation of Machine/Brx.lean may write (Laws/Moves.lean). -/
namespace Sys2Proof.Laws
open Sys2Proof Sys2Proof.Machine

theorem Brx_setState_moves {W : Part → Prop} {s₀ s : State} (h0 : W (.fld F.BRX_STAT_CH)) (a0 : Nat) (a1 : Nat) (h : Moves W s₀ s) :
    Moves W s₀ (Sys2Proof.Machine.Brx.setState a0 a1 s) := by
  unfold Sys2Proof.Machine.Brx.setState
  repeat' (first
    | with_reducible assumption
    | with_reducible apply Moves.put
    | intro _
    | (extract_lets +onlyGivenNames x; first
      | (refine Moves.keep (W := W) (s₀ := s₀) x ?_ ?_; rotate_left; intro hx; clear_value x; rotate_right)
      | (refine Moves.keep (W := W) (s₀ := s₀) x.2 ?_ ?_; rotate_left; intro hx; clear_value x; rotate_right)
      | (refine Moves.keep (W := W) (s₀ := s₀) x.1 ?_ ?_; rotate_left; intro hx; clear_value x; rotate_right)
      | skip))

theorem Brx_count_moves {W : Part → Prop} {s₀ s : State} (h0 : W (.fld F.BRX_CNT_COUNT)) (a0 : Nat) (a1 : Nat) (h : Moves W s₀ s) :
    Moves W s₀ (Sys2Proof.Machine.Brx.count a0 a1 s) := by
  unfold Sys2Proof.Machine.Brx.count
  repeat' (first
    | with_reducible assumption
    | with_reducible apply Moves.count
    | intro _)

theorem Brx_enable_moves {W : Part → Prop} {s₀ s : State} (h0 : W (.fld F.BRX_CTRL_EN)) (h1 : W (.fld F.BRX_INT_CAUSE_CFG_ERR)) (h2 : W (.fld F.BRX_STAT_CFG_STEP)) (h3 : W (.fld F.BRX_STAT_CH)) (h4 : W (.fld F.SYS_INT_CAUSE_ROLE_LIMIT)) (h : Moves W s₀ s) :
    Moves W s₀ (Sys2Proof.Machine.Brx.enable s) := by
  unfold Sys2Proof.Machine.Brx.enable
  repeat' (first
    | with_reducible assumption
    | with_reducible apply Moves.clr
    | with_reducible apply Moves.each
    | with_reducible apply Moves.put
    | with_reducible apply Moves.set
    | with_reducible apply Brx_setState_moves
    | intro _
    | split
    | (extract_lets +onlyGivenNames x; first
      | (refine Moves.keep (W := W) (s₀ := s₀) x ?_ ?_; rotate_left; intro hx; clear_value x; rotate_right)
      | (refine Moves.keep (W := W) (s₀ := s₀) x.2 ?_ ?_; rotate_left; intro hx; clear_value x; rotate_right)
      | (refine Moves.keep (W := W) (s₀ := s₀) x.1 ?_ ?_; rotate_left; intro hx; clear_value x; rotate_right)
      | skip))

theorem Brx_follow_moves {W : Part → Prop} {s₀ s : State} (h0 : W .brx) (a0 : Nat) (a1 : Sys2Proof.Machine.Burst) (h : Moves W s₀ s) :
    Moves W s₀ (Sys2Proof.Machine.Brx.follow a0 a1 s) := by
  unfold Sys2Proof.Machine.Brx.follow
  repeat' (first
    | with_reducible assumption
    | intro _
    | (extract_lets +onlyGivenNames x; first
      | (refine Moves.keep (W := W) (s₀ := s₀) x ?_ ?_; rotate_left; intro hx; clear_value x; rotate_right)
      | (refine Moves.keep (W := W) (s₀ := s₀) x.2 ?_ ?_; rotate_left; intro hx; clear_value x; rotate_right)
      | (refine Moves.keep (W := W) (s₀ := s₀) x.1 ?_ ?_; rotate_left; intro hx; clear_value x; rotate_right)
      | skip)
    | (with_reducible refine Moves.brx _ ?_ ?_ <;> with_reducible first
      | assumption))

theorem Brx_resolve_moves {W : Part → Prop} {s₀ s : State} (h0 : W .brx) (a0 : Nat) (a1 : Nat) (h : Moves W s₀ s) :
    Moves W s₀ (Sys2Proof.Machine.Brx.resolve a0 a1 s) := by
  unfold Sys2Proof.Machine.Brx.resolve
  repeat' (first
    | with_reducible assumption
    | intro _
    | split
    | (extract_lets +onlyGivenNames x; first
      | (refine Moves.keep (W := W) (s₀ := s₀) x ?_ ?_; rotate_left; intro hx; clear_value x; rotate_right)
      | (refine Moves.keep (W := W) (s₀ := s₀) x.2 ?_ ?_; rotate_left; intro hx; clear_value x; rotate_right)
      | (refine Moves.keep (W := W) (s₀ := s₀) x.1 ?_ ?_; rotate_left; intro hx; clear_value x; rotate_right)
      | skip)
    | (with_reducible refine Moves.brx _ ?_ ?_ <;> with_reducible first
      | assumption))

theorem Brx_refresh_moves {W : Part → Prop} {s₀ s : State} (h0 : W (.fld F.BRX_COL_STAT_COUNT)) (h1 : W (.fld F.BRX_COL_STAT_HEAD_DONE)) (h2 : W (.fld F.BRX_REC_STAT_COUNT)) (h : Moves W s₀ s) :
    Moves W s₀ (Sys2Proof.Machine.Brx.refresh s) := by
  unfold Sys2Proof.Machine.Brx.refresh
  repeat' (first
    | with_reducible assumption
    | with_reducible apply Moves.put
    | intro _)

theorem Brx_close_moves {W : Part → Prop} {s₀ s : State} (h0 : W .brx) (h1 : W (.fld F.BRX_STAT_CH)) (a0 : Nat) (a1 : Nat) (a2 : Nat) (a3 : Nat) (a4 : Nat) (a5 : Nat) (a6 : List Nat) (h : Moves W s₀ s) :
    Moves W s₀ (Sys2Proof.Machine.Brx.close a0 a1 a2 a3 a4 a5 a6 s) := by
  unfold Sys2Proof.Machine.Brx.close
  repeat' (first
    | with_reducible assumption
    | with_reducible apply Brx_setState_moves
    | intro _
    | (extract_lets +onlyGivenNames x; first
      | (refine Moves.keep (W := W) (s₀ := s₀) x ?_ ?_; rotate_left; intro hx; clear_value x; rotate_right)
      | (refine Moves.keep (W := W) (s₀ := s₀) x.2 ?_ ?_; rotate_left; intro hx; clear_value x; rotate_right)
      | (refine Moves.keep (W := W) (s₀ := s₀) x.1 ?_ ?_; rotate_left; intro hx; clear_value x; rotate_right)
      | skip)
    | (with_reducible refine Moves.brx _ ?_ ?_ <;> with_reducible first
      | assumption
      | apply Brx_setState_moves))

theorem Brx_abandon_moves {W : Part → Prop} {s₀ s : State} (h0 : W .brx) (h1 : W (.fld F.BRX_CNT_COUNT)) (h2 : W (.fld F.BRX_COL_STAT_COUNT)) (h3 : W (.fld F.BRX_COL_STAT_HEAD_DONE)) (h4 : W (.fld F.BRX_REC_STAT_COUNT)) (h5 : W (.fld F.BRX_STAT_CH)) (a0 : Nat) (h : Moves W s₀ s) :
    Moves W s₀ (Sys2Proof.Machine.Brx.abandon a0 s) := by
  unfold Sys2Proof.Machine.Brx.abandon
  repeat' (first
    | with_reducible assumption
    | with_reducible apply Brx_refresh_moves
    | with_reducible apply Brx_resolve_moves
    | with_reducible apply Brx_setState_moves
    | with_reducible apply Brx_count_moves
    | intro _)

theorem Brx_truncate_moves {W : Part → Prop} {s₀ s : State} (h0 : W .brx) (h1 : W (.fld F.BRX_CNT_COUNT)) (h2 : W (.fld F.BRX_STAT_CH)) (a0 : Nat) (a1 : Nat) (a2 : Nat) (a3 : Nat) (h : Moves W s₀ s) :
    Moves W s₀ (Sys2Proof.Machine.Brx.truncate a0 a1 a2 a3 s) := by
  unfold Sys2Proof.Machine.Brx.truncate
  repeat' (first
    | with_reducible assumption
    | with_reducible apply Brx_close_moves
    | with_reducible apply Brx_count_moves
    | intro _)

theorem Brx_halt_moves {W : Part → Prop} {s₀ s : State} (h0 : W .brx) (h1 : W (.fld F.BRX_CNT_COUNT)) (h2 : W (.fld F.BRX_COL_STAT_COUNT)) (h3 : W (.fld F.BRX_COL_STAT_HEAD_DONE)) (h4 : W (.fld F.BRX_REC_STAT_COUNT)) (h5 : W (.fld F.BRX_STAT_CH)) (a0 : Nat) (h : Moves W s₀ s) :
    Moves W s₀ (Sys2Proof.Machine.Brx.halt a0 s) := by
  unfold Sys2Proof.Machine.Brx.halt
  repeat' (first
    | with_reducible assumption
    | with_reducible apply Moves.drew
    | with_reducible apply Brx_truncate_moves
    | with_reducible apply Brx_abandon_moves
    | intro _
    | split)

theorem Brx_safe_moves {W : Part → Prop} {s₀ s : State} (h0 : W .brx) (h1 : W (.fld F.BRX_CNT_COUNT)) (h2 : W (.fld F.BRX_COL_STAT_COUNT)) (h3 : W (.fld F.BRX_COL_STAT_HEAD_DONE)) (h4 : W (.fld F.BRX_REC_STAT_COUNT)) (h5 : W (.fld F.BRX_STAT_CH)) (h : Moves W s₀ s) :
    Moves W s₀ (Sys2Proof.Machine.Brx.safe s) := by
  unfold Sys2Proof.Machine.Brx.safe
  repeat' (first
    | with_reducible assumption
    | with_reducible apply Moves.each
    | with_reducible apply Brx_halt_moves
    | intro _)

theorem Brx_disable_moves {W : Part → Prop} {s₀ s : State} (h0 : W .brx) (h1 : W (.fld F.BRX_CNT_COUNT)) (h2 : W (.fld F.BRX_COL_STAT_COUNT)) (h3 : W (.fld F.BRX_COL_STAT_HEAD_DONE)) (h4 : W (.fld F.BRX_CTRL_EN)) (h5 : W (.fld F.BRX_REC_STAT_COUNT)) (h6 : W (.fld F.BRX_STAT_CH)) (h : Moves W s₀ s) :
    Moves W s₀ (Sys2Proof.Machine.Brx.disable s) := by
  unfold Sys2Proof.Machine.Brx.disable
  repeat' (first
    | with_reducible assumption
    | with_reducible apply Moves.clr
    | with_reducible apply Moves.each
    | with_reducible apply Brx_setState_moves
    | with_reducible apply Brx_halt_moves
    | intro _)

theorem Brx_outOfUse_moves {W : Part → Prop} {s₀ s : State} (h0 : W .brx) (h1 : W (.fld F.BRX_CNT_COUNT)) (h2 : W (.fld F.BRX_COL_STAT_COUNT)) (h3 : W (.fld F.BRX_COL_STAT_HEAD_DONE)) (h4 : W (.fld F.BRX_REC_STAT_COUNT)) (h5 : W (.fld F.BRX_STAT_CH)) (h : Moves W s₀ s) :
    Moves W s₀ (Sys2Proof.Machine.Brx.outOfUse s) := by
  unfold Sys2Proof.Machine.Brx.outOfUse
  repeat' (first
    | with_reducible assumption
    | with_reducible apply Moves.each
    | with_reducible apply Brx_setState_moves
    | with_reducible apply Brx_halt_moves
    | intro _
    | split)

theorem Brx_recheck_moves {W : Part → Prop} {s₀ s : State} (h0 : W .brx) (h1 : W (.fld F.BRX_CNT_COUNT)) (h2 : W (.fld F.BRX_COL_STAT_COUNT)) (h3 : W (.fld F.BRX_COL_STAT_HEAD_DONE)) (h4 : W (.fld F.BRX_INT_CAUSE_CH_OFF)) (h5 : W (.fld F.BRX_REC_STAT_COUNT)) (h6 : W (.fld F.BRX_STAT_CH)) (h : Moves W s₀ s) :
    Moves W s₀ (Sys2Proof.Machine.Brx.recheck s) := by
  unfold Sys2Proof.Machine.Brx.recheck
  repeat' (first
    | with_reducible assumption
    | with_reducible apply Moves.each
    | with_reducible apply Moves.set
    | with_reducible apply Brx_outOfUse_moves
    | with_reducible apply Brx_setState_moves
    | with_reducible apply Brx_halt_moves
    | intro _
    | split)

theorem Brx_writeCtrl_moves {W : Part → Prop} {s₀ s : State} (h0 : W .brx) (h1 : W (.fld F.BRX_CNT_COUNT)) (h2 : W (.fld F.BRX_COL_STAT_COUNT)) (h3 : W (.fld F.BRX_COL_STAT_HEAD_DONE)) (h4 : W (.fld F.BRX_CTRL_EN)) (h5 : W (.fld F.BRX_CTRL_WIDEN)) (h6 : W (.fld F.BRX_INT_CAUSE_CFG_ERR)) (h7 : W (.fld F.BRX_REC_STAT_COUNT)) (h8 : W (.fld F.BRX_STAT_CFG_STEP)) (h9 : W (.fld F.BRX_STAT_CH)) (h10 : W (.fld F.SYS_INT_CAUSE_ROLE_LIMIT)) (a0 : Nat) (h : Moves W s₀ s) :
    Moves W s₀ (Sys2Proof.Machine.Brx.writeCtrl a0 s) := by
  unfold Sys2Proof.Machine.Brx.writeCtrl
  repeat' (first
    | with_reducible assumption
    | with_reducible apply Moves.put
    | with_reducible apply Moves.set
    | with_reducible apply Brx_enable_moves
    | with_reducible apply Brx_disable_moves
    | intro _
    | split
    | (extract_lets +onlyGivenNames x; first
      | (refine Moves.keep (W := W) (s₀ := s₀) x ?_ ?_; rotate_left; intro hx; clear_value x; rotate_right)
      | (refine Moves.keep (W := W) (s₀ := s₀) x.2 ?_ ?_; rotate_left; intro hx; clear_value x; rotate_right)
      | (refine Moves.keep (W := W) (s₀ := s₀) x.1 ?_ ?_; rotate_left; intro hx; clear_value x; rotate_right)
      | skip))

theorem Brx_openAttempt_moves {W : Part → Prop} {s₀ s : State} (h0 : W .brx) (h1 : W (.fld F.BRX_STAT_CH)) (h2 : W (.fld H.BRX_EPISODE)) (a0 : Nat) (a1 : Sys2Proof.Machine.Burst) (h : Moves W s₀ s) :
    Moves W s₀ (Sys2Proof.Machine.Brx.openAttempt a0 a1 s) := by
  unfold Sys2Proof.Machine.Brx.openAttempt
  repeat' (first
    | with_reducible assumption
    | with_reducible apply Moves.clr
    | with_reducible apply Brx_setState_moves
    | with_reducible apply Brx_follow_moves
    | intro _
    | (extract_lets +onlyGivenNames x; first
      | (refine Moves.keep (W := W) (s₀ := s₀) x ?_ ?_; rotate_left; intro hx; clear_value x; rotate_right)
      | (refine Moves.keep (W := W) (s₀ := s₀) x.2 ?_ ?_; rotate_left; intro hx; clear_value x; rotate_right)
      | (refine Moves.keep (W := W) (s₀ := s₀) x.1 ?_ ?_; rotate_left; intro hx; clear_value x; rotate_right)
      | skip)
    | (with_reducible refine Moves.brx _ ?_ ?_ <;> with_reducible first
      | assumption
      | apply Moves.clr
      | apply Brx_setState_moves
      | apply Brx_follow_moves))

theorem Brx_logEntry_moves {W : Part → Prop} {s₀ s : State} (h0 : W .brx) (h1 : W (.fld F.BRX_COL_STAT_COUNT)) (h2 : W (.fld F.BRX_COL_STAT_HEAD_DONE)) (h3 : W (.fld F.BRX_DROP_CNT_COL)) (h4 : W (.fld F.BRX_INT_CAUSE_DROP)) (h5 : W (.fld F.BRX_REC_STAT_COUNT)) (a0 : Sys2Proof.Machine.Collision) (h : Moves W s₀ s) :
    Moves W s₀ (Sys2Proof.Machine.Brx.logEntry a0 s) := by
  unfold Sys2Proof.Machine.Brx.logEntry
  repeat' (first
    | with_reducible assumption
    | with_reducible apply Moves.count
    | with_reducible apply Moves.set
    | with_reducible apply Brx_refresh_moves
    | intro _
    | split
    | (extract_lets +onlyGivenNames x; first
      | (refine Moves.keep (W := W) (s₀ := s₀) x ?_ ?_; rotate_left; intro hx; clear_value x; rotate_right)
      | (refine Moves.keep (W := W) (s₀ := s₀) x.2 ?_ ?_; rotate_left; intro hx; clear_value x; rotate_right)
      | (refine Moves.keep (W := W) (s₀ := s₀) x.1 ?_ ?_; rotate_left; intro hx; clear_value x; rotate_right)
      | skip)
    | (with_reducible refine Moves.brx _ ?_ ?_ <;> with_reducible first
      | assumption
      | apply Moves.count
      | apply Moves.set
      | apply Brx_refresh_moves))

theorem Brx_peak_moves {W : Part → Prop} {s₀ s : State} (h0 : W .brx) (h1 : W (.fld F.BRX_CNT_COUNT)) (h2 : W (.fld F.BRX_COL_STAT_COUNT)) (h3 : W (.fld F.BRX_COL_STAT_HEAD_DONE)) (h4 : W (.fld F.BRX_DROP_CNT_COL)) (h5 : W (.fld F.BRX_INT_CAUSE_COLLISION)) (h6 : W (.fld F.BRX_INT_CAUSE_DROP)) (h7 : W (.fld F.BRX_INT_CAUSE_PREEMPTED)) (h8 : W (.fld F.BRX_REC_STAT_COUNT)) (h9 : W (.fld F.BRX_STAT_CH)) (h10 : W (.fld H.BRX_EPISODE)) (a0 : Nat) (a1 : Nat) (a2 : List Nat) (a3 : Int) (a4 : Int) (a5 : Nat) (a6 : Nat) (a7 : Nat) (a8 : Nat) (a9 : Nat) (a10 : Nat) (a11 : Nat) (a12 : Nat) (a13 : Nat) (h : Moves W s₀ s) :
    Moves W s₀ (Sys2Proof.Machine.Brx.peak a0 a1 a2 a3 a4 a5 a6 a7 a8 a9 a10 a11 a12 a13 s) := by
  unfold Sys2Proof.Machine.Brx.peak
  repeat' (first
    | with_reducible assumption
    | with_reducible apply Moves.set
    | with_reducible apply Brx_count_moves
    | with_reducible apply Brx_openAttempt_moves
    | with_reducible apply Brx_logEntry_moves
    | with_reducible apply Brx_abandon_moves
    | with_reducible apply Brx_close_moves
    | intro _
    | split
    | (extract_lets +onlyGivenNames x; first
      | (refine Moves.keep (W := W) (s₀ := s₀) x ?_ ?_; rotate_left; intro hx; clear_value x; rotate_right)
      | (refine Moves.keep (W := W) (s₀ := s₀) x.2 ?_ ?_; rotate_left; intro hx; clear_value x; rotate_right)
      | (refine Moves.keep (W := W) (s₀ := s₀) x.1 ?_ ?_; rotate_left; intro hx; clear_value x; rotate_right)
      | skip))

theorem Brx_header_moves {W : Part → Prop} {s₀ s : State} (h0 : W .brx) (h1 : W (.fld F.BRX_CNT_COUNT)) (h2 : W (.fld F.BRX_COL_STAT_COUNT)) (h3 : W (.fld F.BRX_COL_STAT_HEAD_DONE)) (h4 : W (.fld F.BRX_REC_STAT_COUNT)) (h5 : W (.fld F.BRX_STAT_CH)) (a0 : Nat) (a1 : Nat) (a2 : Nat) (h : Moves W s₀ s) :
    Moves W s₀ (Sys2Proof.Machine.Brx.header a0 a1 a2 s) := by
  unfold Sys2Proof.Machine.Brx.header
  repeat' (first
    | with_reducible assumption
    | with_reducible apply Brx_setState_moves
    | with_reducible apply Brx_follow_moves
    | with_reducible apply Brx_refresh_moves
    | with_reducible apply Brx_resolve_moves
    | with_reducible apply Brx_count_moves
    | intro _
    | split
    | (extract_lets +onlyGivenNames x; first
      | (refine Moves.keep (W := W) (s₀ := s₀) x ?_ ?_; rotate_left; intro hx; clear_value x; rotate_right)
      | (refine Moves.keep (W := W) (s₀ := s₀) x.2 ?_ ?_; rotate_left; intro hx; clear_value x; rotate_right)
      | (refine Moves.keep (W := W) (s₀ := s₀) x.1 ?_ ?_; rotate_left; intro hx; clear_value x; rotate_right)
      | skip)
    | (with_reducible refine Moves.brx _ ?_ ?_ <;> with_reducible first
      | assumption
      | apply Brx_setState_moves
      | apply Brx_follow_moves
      | apply Brx_refresh_moves
      | apply Brx_resolve_moves
      | apply Brx_count_moves))

theorem Brx_assemble_moves {W : Part → Prop} {s₀ s : State} (h0 : W .qdr) (h1 : W (.fld F.PMC_INT_CAUSE_OVF)) (h2 : W (.fld F.PMC_INT_CAUSE_SMP_AVAIL)) (h3 : W (.fld F.PMC_INT_CAUSE_SMP_DROP)) (h4 : W (.fld F.PMC_OVF_STAT_OVF)) (h5 : W (.fld F.PMC_SMP_DROP_RING)) (h6 : W (.fld F.PMC_SMP_STAT_COUNT)) (h7 : W (.fld H.BRX_DIE)) (h8 : W (.fld H.PMC_CNT)) (h9 : W (.fld H.PMC_OVF_DUE)) (h10 : W (.fld H.PMC_OVF_T)) (h11 : W (.fld H.PMC_RING)) (h12 : W (.fld H.PMC_TRACE_POS)) (a0 : Nat) (a1 : List Nat) (h : Moves W s₀ s) :
    Moves W s₀ (Sys2Proof.Machine.Brx.assemble a0 a1 s) := by
  unfold Sys2Proof.Machine.Brx.assemble
  repeat' (first
    | with_reducible assumption
    | with_reducible apply Moves.eachOf
    | with_reducible apply Moves.put
    | with_reducible apply Qdm_transferred_moves
    | intro _
    | split
    | (extract_lets +onlyGivenNames x; first
      | (refine Moves.keep (W := W) (s₀ := s₀) x ?_ ?_; rotate_left; intro hx; clear_value x; rotate_right)
      | (refine Moves.keep (W := W) (s₀ := s₀) x.2 ?_ ?_; rotate_left; intro hx; clear_value x; rotate_right)
      | (refine Moves.keep (W := W) (s₀ := s₀) x.1 ?_ ?_; rotate_left; intro hx; clear_value x; rotate_right)
      | skip)
    | (with_reducible refine Moves.qdr _ _ ?_ ?_ <;> with_reducible first
      | assumption
      | apply Moves.eachOf
      | apply Moves.put
      | apply Qdm_transferred_moves))

theorem Brx_burstClose_moves {W : Part → Prop} {s₀ s : State} (h0 : W .brx) (h1 : W .qdr) (h2 : W (.fld F.BRX_CNT_COUNT)) (h3 : W (.fld F.BRX_STAT_CH)) (h4 : W (.fld F.PMC_INT_CAUSE_OVF)) (h5 : W (.fld F.PMC_INT_CAUSE_SMP_AVAIL)) (h6 : W (.fld F.PMC_INT_CAUSE_SMP_DROP)) (h7 : W (.fld F.PMC_OVF_STAT_OVF)) (h8 : W (.fld F.PMC_SMP_DROP_RING)) (h9 : W (.fld F.PMC_SMP_STAT_COUNT)) (h10 : W (.fld H.BRX_DIE)) (h11 : W (.fld H.PMC_CNT)) (h12 : W (.fld H.PMC_OVF_DUE)) (h13 : W (.fld H.PMC_OVF_T)) (h14 : W (.fld H.PMC_RING)) (h15 : W (.fld H.PMC_TRACE_POS)) (a0 : Nat) (a1 : Nat) (a2 : Nat) (a3 : Nat) (a4 : Nat) (a5 : List Nat) (h : Moves W s₀ s) :
    Moves W s₀ (Sys2Proof.Machine.Brx.burstClose a0 a1 a2 a3 a4 a5 s) := by
  unfold Sys2Proof.Machine.Brx.burstClose
  repeat' (first
    | with_reducible assumption
    | with_reducible apply Brx_close_moves
    | with_reducible apply Brx_count_moves
    | with_reducible apply Brx_assemble_moves
    | intro _
    | split
    | (extract_lets +onlyGivenNames x; first
      | (refine Moves.keep (W := W) (s₀ := s₀) x ?_ ?_; rotate_left; intro hx; clear_value x; rotate_right)
      | (refine Moves.keep (W := W) (s₀ := s₀) x.2 ?_ ?_; rotate_left; intro hx; clear_value x; rotate_right)
      | (refine Moves.keep (W := W) (s₀ := s₀) x.1 ?_ ?_; rotate_left; intro hx; clear_value x; rotate_right)
      | skip))

theorem Brx_writeRecord_moves {W : Part → Prop} {s₀ s : State} (h0 : W .brx) (h1 : W (.fld F.BRX_COL_STAT_COUNT)) (h2 : W (.fld F.BRX_COL_STAT_HEAD_DONE)) (h3 : W (.fld F.BRX_DROP_CNT_REC)) (h4 : W (.fld F.BRX_INT_CAUSE_DROP)) (h5 : W (.fld F.BRX_INT_CAUSE_REC_AVAIL)) (h6 : W (.fld F.BRX_REC_STAT_COUNT)) (h : Moves W s₀ s) :
    Moves W s₀ (Sys2Proof.Machine.Brx.writeRecord s) := by
  unfold Sys2Proof.Machine.Brx.writeRecord
  repeat' (first
    | with_reducible assumption
    | with_reducible apply Moves.count
    | with_reducible apply Moves.set
    | with_reducible apply Brx_refresh_moves
    | with_reducible apply Brx_resolve_moves
    | intro _
    | split
    | (extract_lets +onlyGivenNames x; first
      | (refine Moves.keep (W := W) (s₀ := s₀) x ?_ ?_; rotate_left; intro hx; clear_value x; rotate_right)
      | (refine Moves.keep (W := W) (s₀ := s₀) x.2 ?_ ?_; rotate_left; intro hx; clear_value x; rotate_right)
      | (refine Moves.keep (W := W) (s₀ := s₀) x.1 ?_ ?_; rotate_left; intro hx; clear_value x; rotate_right)
      | skip)
    | (with_reducible refine Moves.brx _ ?_ ?_ <;> with_reducible first
      | assumption
      | apply Moves.count
      | apply Moves.set
      | apply Brx_refresh_moves
      | apply Brx_resolve_moves
      | refine Moves.brx _ ?_ ?_))

theorem Brx_gap_moves {W : Part → Prop} {s₀ s : State} (h0 : W .brx) (h1 : W (.fld F.BRX_CNT_COUNT)) (h2 : W (.fld F.BRX_COL_STAT_COUNT)) (h3 : W (.fld F.BRX_COL_STAT_HEAD_DONE)) (h4 : W (.fld F.BRX_INT_CAUSE_TRUNCATED)) (h5 : W (.fld F.BRX_REC_STAT_COUNT)) (h6 : W (.fld F.BRX_STAT_CH)) (a0 : Nat) (a1 : List Int) (a2 : Nat) (a3 : Nat) (a4 : Nat) (h : Moves W s₀ s) :
    Moves W s₀ (Sys2Proof.Machine.Brx.gap a0 a1 a2 a3 a4 s) := by
  unfold Sys2Proof.Machine.Brx.gap
  repeat' (first
    | with_reducible assumption
    | with_reducible apply Moves.set
    | with_reducible apply Brx_truncate_moves
    | with_reducible apply Brx_abandon_moves
    | intro _
    | split)

theorem Brx_fade_moves {W : Part → Prop} {s₀ s : State} (h0 : W .brx) (h1 : W (.fld F.BRX_CNT_COUNT)) (a0 : Nat) (a1 : List Int) (a2 : Int) (h : Moves W s₀ s) :
    Moves W s₀ (Sys2Proof.Machine.Brx.fade a0 a1 a2 s) := by
  unfold Sys2Proof.Machine.Brx.fade
  repeat' (first
    | with_reducible assumption
    | with_reducible apply Brx_follow_moves
    | with_reducible apply Brx_count_moves
    | intro _
    | split
    | (extract_lets +onlyGivenNames x; first
      | (refine Moves.keep (W := W) (s₀ := s₀) x ?_ ?_; rotate_left; intro hx; clear_value x; rotate_right)
      | (refine Moves.keep (W := W) (s₀ := s₀) x.2 ?_ ?_; rotate_left; intro hx; clear_value x; rotate_right)
      | (refine Moves.keep (W := W) (s₀ := s₀) x.1 ?_ ?_; rotate_left; intro hx; clear_value x; rotate_right)
      | skip))

theorem Brx_orphan_moves {W : Part → Prop} {s₀ s : State} (h0 : W (.fld F.BRX_CNT_COUNT)) (h1 : W (.fld H.BRX_EPISODE)) (a0 : Nat) (a1 : Nat) (a2 : List Int) (h : Moves W s₀ s) :
    Moves W s₀ (Sys2Proof.Machine.Brx.orphan a0 a1 a2 s) := by
  unfold Sys2Proof.Machine.Brx.orphan
  repeat' (first
    | with_reducible assumption
    | with_reducible apply Moves.set
    | with_reducible apply Brx_count_moves
    | intro _
    | split)

theorem Brx_absent_moves {W : Part → Prop} {s₀ s : State} (h0 : W (.fld F.BRX_SC_ABSENT_SC)) (a0 : Nat) (a1 : Bool) (a2 : List (Int × Nat)) (h : Moves W s₀ s) :
    Moves W s₀ (Sys2Proof.Machine.Brx.absent a0 a1 a2 s) := by
  unfold Sys2Proof.Machine.Brx.absent
  repeat' (first
    | with_reducible assumption
    | with_reducible apply Moves.putBit
    | intro _
    | split)

theorem Brx_recPop_moves {W : Part → Prop} {s₀ s : State} (h0 : W .brx) (h1 : W (.fld F.BRX_COL_STAT_COUNT)) (h2 : W (.fld F.BRX_COL_STAT_HEAD_DONE)) (h3 : W (.fld F.BRX_REC_STAT_COUNT)) (h : Moves W s₀ s) :
    Moves W s₀ (Sys2Proof.Machine.Brx.recPop s) := by
  unfold Sys2Proof.Machine.Brx.recPop
  repeat' (first
    | with_reducible assumption
    | with_reducible apply Brx_refresh_moves
    | intro _
    | (extract_lets +onlyGivenNames x; first
      | (refine Moves.keep (W := W) (s₀ := s₀) x ?_ ?_; rotate_left; intro hx; clear_value x; rotate_right)
      | (refine Moves.keep (W := W) (s₀ := s₀) x.2 ?_ ?_; rotate_left; intro hx; clear_value x; rotate_right)
      | (refine Moves.keep (W := W) (s₀ := s₀) x.1 ?_ ?_; rotate_left; intro hx; clear_value x; rotate_right)
      | skip)
    | (with_reducible refine Moves.brx _ ?_ ?_ <;> with_reducible first
      | assumption
      | apply Brx_refresh_moves))

theorem Brx_colPop_moves {W : Part → Prop} {s₀ s : State} (h0 : W .brx) (h1 : W (.fld F.BRX_COL_STAT_COUNT)) (h2 : W (.fld F.BRX_COL_STAT_HEAD_DONE)) (h3 : W (.fld F.BRX_REC_STAT_COUNT)) (h : Moves W s₀ s) :
    Moves W s₀ (Sys2Proof.Machine.Brx.colPop s) := by
  unfold Sys2Proof.Machine.Brx.colPop
  repeat' (first
    | with_reducible assumption
    | with_reducible apply Brx_refresh_moves
    | intro _
    | split
    | (extract_lets +onlyGivenNames x; first
      | (refine Moves.keep (W := W) (s₀ := s₀) x ?_ ?_; rotate_left; intro hx; clear_value x; rotate_right)
      | (refine Moves.keep (W := W) (s₀ := s₀) x.2 ?_ ?_; rotate_left; intro hx; clear_value x; rotate_right)
      | (refine Moves.keep (W := W) (s₀ := s₀) x.1 ?_ ?_; rotate_left; intro hx; clear_value x; rotate_right)
      | skip)
    | (with_reducible refine Moves.brx _ ?_ ?_ <;> with_reducible first
      | assumption
      | apply Brx_refresh_moves))

theorem Brx_regReq_moves {W : Part → Prop} {s₀ s : State} (h0 : W .brx) (h1 : W .vlk) (h2 : W (.fld F.VLK_INT_CAUSE_DUP_ID)) (h3 : W (.fld F.VLK_INT_CAUSE_REREG)) (h4 : W (.fld F.VLK_INT_CAUSE_RX_AVAIL)) (h5 : W (.fld F.VLK_RXSTAT_COUNT)) (h6 : W (.fld F.VLK_RX_DROP_CNT_COUNT)) (h7 : W (.fld F.VLK_STAT_DUP_REQ)) (a0 : Nat) (h : Moves W s₀ s) :
    Moves W s₀ (Sys2Proof.Machine.Brx.regReq a0 s) := by
  unfold Sys2Proof.Machine.Brx.regReq
  repeat' (first
    | with_reducible assumption
    | with_reducible apply Moves.count
    | with_reducible apply Vlk_regReq_moves
    | intro _
    | split
    | (extract_lets +onlyGivenNames x; first
      | (refine Moves.keep (W := W) (s₀ := s₀) x ?_ ?_; rotate_left; intro hx; clear_value x; rotate_right)
      | (refine Moves.keep (W := W) (s₀ := s₀) x.2 ?_ ?_; rotate_left; intro hx; clear_value x; rotate_right)
      | (refine Moves.keep (W := W) (s₀ := s₀) x.1 ?_ ?_; rotate_left; intro hx; clear_value x; rotate_right)
      | skip)
    | (with_reducible refine Moves.brx _ ?_ ?_ <;> with_reducible first
      | assumption
      | apply Moves.count
      | apply Vlk_regReq_moves))

end Sys2Proof.Laws
end

