-- ==== Sys2Proof/Laws/MovesFlash.lean ====
section
/-! SUPPORT. Sys2Proof/Laws/MovesFlash.lean: what each operation of Machine/Flash.lean may write (Laws/Moves.lean). -/
namespace Sys2Proof.Laws
open Sys2Proof Sys2Proof.Machine

theorem Flash_program_moves {W : Part → Prop} {s₀ s : State} (h0 : W .flash) (a0 : Nat) (a1 : List Nat) (h : Moves W s₀ s) :
    Moves W s₀ (Sys2Proof.Machine.Flash.program a0 a1 s) := by
  unfold Sys2Proof.Machine.Flash.program
  repeat' (first
    | with_reducible assumption
    | with_reducible apply Moves.eachOf
    | intro _
    | (with_reducible refine Moves.flash _ _ ?_ ?_ <;> with_reducible first
      | assumption
      | apply Moves.eachOf)
    | (with_reducible refine Moves.flashErase _ ?_ ?_ <;> with_reducible first
      | assumption
      | apply Moves.eachOf))

theorem Flash_erase_moves {W : Part → Prop} {s₀ s : State} (h0 : W .flash) (a0 : Nat) (a1 : Nat) (h : Moves W s₀ s) :
    Moves W s₀ (Sys2Proof.Machine.Flash.erase a0 a1 s) := by
  unfold Sys2Proof.Machine.Flash.erase
  repeat' (first
    | with_reducible assumption
    | intro _
    | (with_reducible refine Moves.flash _ _ ?_ ?_ <;> with_reducible first
      | assumption)
    | (with_reducible refine Moves.flashErase _ ?_ ?_ <;> with_reducible first
      | assumption))

theorem Flash_act_moves {W : Part → Prop} {s₀ s : State} (h0 : W .flash) (h1 : W (.fld F.BOOT_FL_DATA_DATA)) (a0 : Nat) (a1 : Nat) (h : Moves W s₀ s) :
    Moves W s₀ (Sys2Proof.Machine.Flash.act a0 a1 s) := by
  unfold Sys2Proof.Machine.Flash.act
  repeat' (first
    | with_reducible assumption
    | with_reducible apply Moves.eachOf
    | with_reducible apply Moves.put
    | with_reducible apply Flash_program_moves
    | with_reducible apply Flash_erase_moves
    | intro _
    | split
    | (extract_lets +onlyGivenNames x; first
      | (refine Moves.keep (W := W) (s₀ := s₀) x ?_ ?_; rotate_left; intro hx; clear_value x; rotate_right)
      | (refine Moves.keep (W := W) (s₀ := s₀) x.2 ?_ ?_; rotate_left; intro hx; clear_value x; rotate_right)
      | (refine Moves.keep (W := W) (s₀ := s₀) x.1 ?_ ?_; rotate_left; intro hx; clear_value x; rotate_right)
      | skip))

theorem Flash_command_moves {W : Part → Prop} {s₀ s : State} (h0 : W .flash) (h1 : W (.fld F.BOOT_FL_CMD_GO)) (h2 : W (.fld F.BOOT_FL_CMD_LEN)) (h3 : W (.fld F.BOOT_FL_CMD_OP)) (h4 : W (.fld F.BOOT_FL_DATA_DATA)) (h5 : W (.fld F.BOOT_FL_STAT_BUSY)) (h6 : W (.fld F.BOOT_FL_STAT_ERR)) (a0 : Nat) (a1 : Nat) (h : Moves W s₀ s) :
    Moves W s₀ (Sys2Proof.Machine.Flash.command a0 a1 s) := by
  unfold Sys2Proof.Machine.Flash.command
  repeat' (first
    | with_reducible assumption
    | with_reducible apply Moves.clr
    | with_reducible apply Moves.put
    | with_reducible apply Moves.set
    | with_reducible apply Flash_act_moves
    | intro _
    | split
    | (extract_lets +onlyGivenNames x; first
      | (refine Moves.keep (W := W) (s₀ := s₀) x ?_ ?_; rotate_left; intro hx; clear_value x; rotate_right)
      | (refine Moves.keep (W := W) (s₀ := s₀) x.2 ?_ ?_; rotate_left; intro hx; clear_value x; rotate_right)
      | (refine Moves.keep (W := W) (s₀ := s₀) x.1 ?_ ?_; rotate_left; intro hx; clear_value x; rotate_right)
      | skip))

theorem Flash_writeCmd_moves {W : Part → Prop} {s₀ s : State} (h0 : W .flash) (h1 : W (.fld F.BOOT_FL_CMD_GO)) (h2 : W (.fld F.BOOT_FL_CMD_LEN)) (h3 : W (.fld F.BOOT_FL_CMD_OP)) (h4 : W (.fld F.BOOT_FL_DATA_DATA)) (h5 : W (.fld F.BOOT_FL_STAT_BUSY)) (h6 : W (.fld F.BOOT_FL_STAT_ERR)) (a0 : Nat) (h : Moves W s₀ s) :
    Moves W s₀ (Sys2Proof.Machine.Flash.writeCmd a0 s) := by
  unfold Sys2Proof.Machine.Flash.writeCmd
  repeat' (first
    | with_reducible assumption
    | with_reducible apply Moves.put
    | with_reducible apply Flash_command_moves
    | intro _
    | split
    | (extract_lets +onlyGivenNames x; first
      | (refine Moves.keep (W := W) (s₀ := s₀) x ?_ ?_; rotate_left; intro hx; clear_value x; rotate_right)
      | (refine Moves.keep (W := W) (s₀ := s₀) x.2 ?_ ?_; rotate_left; intro hx; clear_value x; rotate_right)
      | (refine Moves.keep (W := W) (s₀ := s₀) x.1 ?_ ?_; rotate_left; intro hx; clear_value x; rotate_right)
      | skip))

theorem Flash_finish_moves {W : Part → Prop} {s₀ s : State} (h0 : W (.fld F.BOOT_FL_CMD_GO)) (h1 : W (.fld F.BOOT_FL_STAT_BUSY)) (h2 : W (.fld F.BOOT_FL_STAT_ERR)) (a0 : Bool) (h : Moves W s₀ s) :
    Moves W s₀ (Sys2Proof.Machine.Flash.finish a0 s) := by
  unfold Sys2Proof.Machine.Flash.finish
  repeat' (first
    | with_reducible assumption
    | with_reducible apply Moves.clr
    | with_reducible apply Moves.put
    | intro _
    | split
    | (extract_lets +onlyGivenNames x; first
      | (refine Moves.keep (W := W) (s₀ := s₀) x ?_ ?_; rotate_left; intro hx; clear_value x; rotate_right)
      | (refine Moves.keep (W := W) (s₀ := s₀) x.2 ?_ ?_; rotate_left; intro hx; clear_value x; rotate_right)
      | (refine Moves.keep (W := W) (s₀ := s₀) x.1 ?_ ?_; rotate_left; intro hx; clear_value x; rotate_right)
      | skip))

end Sys2Proof.Laws
end

