-- ==== Sys2Proof/Laws/MovesHka.lean ====
section
/-! SUPPORT. Sys2Proof/Laws/MovesHka.lean: what each operation of Machine/Hka.lean may write (Laws/Moves.lean). -/
namespace Sys2Proof.Laws
open Sys2Proof Sys2Proof.Machine

theorem Hka_deliver_moves {W : Part → Prop} {s₀ s : State} (a0 : Sys2Proof.Machine.Field) (a1 : Sys2Proof.Machine.Field) (a2 : Sys2Proof.Machine.Field) (a3 : Nat) (a4 : Nat) (hg0 : W (.fld a0)) (hg1 : W (.fld a1)) (hg2 : W (.fld a2)) (h : Moves W s₀ s) :
    Moves W s₀ (Sys2Proof.Machine.Hka.deliver a0 a1 a2 a3 a4 s) := by
  unfold Sys2Proof.Machine.Hka.deliver
  repeat' (first
    | with_reducible assumption
    | with_reducible apply Moves.put
    | with_reducible apply Moves.set
    | intro _
    | split
    | (extract_lets +onlyGivenNames x; first
      | (refine Moves.keep (W := W) (s₀ := s₀) x ?_ ?_; rotate_left; intro hx; clear_value x; rotate_right)
      | (refine Moves.keep (W := W) (s₀ := s₀) x.2 ?_ ?_; rotate_left; intro hx; clear_value x; rotate_right)
      | (refine Moves.keep (W := W) (s₀ := s₀) x.1 ?_ ?_; rotate_left; intro hx; clear_value x; rotate_right)
      | skip))

theorem Hka_begin_moves {W : Part → Prop} {s₀ s : State} (h0 : W (.fld H.HKA_CUR)) (h1 : W (.fld H.HKA_RUN)) (h2 : W (.fld H.HKA_TICKS)) (a0 : Nat) (a1 : Nat) (a2 : Nat) (a3 : Nat) (h : Moves W s₀ s) :
    Moves W s₀ (Sys2Proof.Machine.Hka.begin a0 a1 a2 a3 s) := by
  unfold Sys2Proof.Machine.Hka.begin
  repeat' (first
    | with_reducible assumption
    | with_reducible apply Moves.put
    | intro _)

theorem Hka_beginCal_moves {W : Part → Prop} {s₀ s : State} (h0 : W (.fld F.HKA_STAT_CAL_HOLD)) (h1 : W (.fld F.HKA_STAT_STATE)) (h2 : W (.fld H.HKA_CAL_WAIT)) (h3 : W (.fld H.HKA_CUR)) (h4 : W (.fld H.HKA_RUN)) (h5 : W (.fld H.HKA_SEQ_STATE)) (h6 : W (.fld H.HKA_TICKS)) (h : Moves W s₀ s) :
    Moves W s₀ (Sys2Proof.Machine.Hka.beginCal s) := by
  unfold Sys2Proof.Machine.Hka.beginCal
  repeat' (first
    | with_reducible assumption
    | with_reducible apply Moves.clr
    | with_reducible apply Moves.put
    | with_reducible apply Moves.set
    | with_reducible apply Hka_begin_moves
    | intro _
    | (extract_lets +onlyGivenNames x; first
      | (refine Moves.keep (W := W) (s₀ := s₀) x ?_ ?_; rotate_left; intro hx; clear_value x; rotate_right)
      | (refine Moves.keep (W := W) (s₀ := s₀) x.2 ?_ ?_; rotate_left; intro hx; clear_value x; rotate_right)
      | (refine Moves.keep (W := W) (s₀ := s₀) x.1 ?_ ?_; rotate_left; intro hx; clear_value x; rotate_right)
      | skip))

theorem Hka_choose_moves {W : Part → Prop} {s₀ s : State} (h0 : W (.fld F.HKA_STAT_CAL_HOLD)) (h1 : W (.fld F.HKA_STAT_INJ_PEND)) (h2 : W (.fld F.HKA_STAT_STATE)) (h3 : W (.fld H.HKA_CAL_WAIT)) (h4 : W (.fld H.HKA_CUR)) (h5 : W (.fld H.HKA_RUN)) (h6 : W (.fld H.HKA_SEQ_STATE)) (h7 : W (.fld H.HKA_TICKS)) (h : Moves W s₀ s) :
    Moves W s₀ (Sys2Proof.Machine.Hka.choose s) := by
  unfold Sys2Proof.Machine.Hka.choose
  repeat' (first
    | with_reducible assumption
    | with_reducible apply Moves.clr
    | with_reducible apply Hka_begin_moves
    | with_reducible apply Hka_beginCal_moves
    | intro _
    | split
    | (extract_lets +onlyGivenNames x; first
      | (refine Moves.keep (W := W) (s₀ := s₀) x ?_ ?_; rotate_left; intro hx; clear_value x; rotate_right)
      | (refine Moves.keep (W := W) (s₀ := s₀) x.2 ?_ ?_; rotate_left; intro hx; clear_value x; rotate_right)
      | (refine Moves.keep (W := W) (s₀ := s₀) x.1 ?_ ?_; rotate_left; intro hx; clear_value x; rotate_right)
      | skip))

theorem Hka_trigger_moves {W : Part → Prop} {s₀ s : State} (h0 : W (.fld F.HKA_INT_CAUSE_TRIG_MISS)) (h1 : W (.fld F.HKA_MISS_CNT_COUNT)) (h2 : W (.fld F.HKA_STAT_NEXT)) (h3 : W (.fld F.HKA_STAT_STATE)) (h : Moves W s₀ s) :
    Moves W s₀ (Sys2Proof.Machine.Hka.trigger s) := by
  unfold Sys2Proof.Machine.Hka.trigger
  repeat' (first
    | with_reducible assumption
    | with_reducible apply Moves.clr
    | with_reducible apply Moves.count
    | with_reducible apply Moves.put
    | with_reducible apply Moves.set
    | intro _
    | split)

theorem Hka_inject_moves {W : Part → Prop} {s₀ s : State} (h0 : W (.fld F.HKA_INT_CAUSE_INJ_REFUSED)) (h1 : W (.fld F.HKA_STAT_CAL_HOLD)) (h2 : W (.fld F.HKA_STAT_INJ_PEND)) (h3 : W (.fld F.HKA_STAT_STATE)) (h4 : W (.fld H.HKA_CAL_WAIT)) (h5 : W (.fld H.HKA_CUR)) (h6 : W (.fld H.HKA_RUN)) (h7 : W (.fld H.HKA_SEQ_STATE)) (h8 : W (.fld H.HKA_TICKS)) (h : Moves W s₀ s) :
    Moves W s₀ (Sys2Proof.Machine.Hka.inject s) := by
  unfold Sys2Proof.Machine.Hka.inject
  repeat' (first
    | with_reducible assumption
    | with_reducible apply Moves.set
    | with_reducible apply Hka_choose_moves
    | intro _
    | split)

theorem Hka_fire_moves {W : Part → Prop} {s₀ s : State} (h0 : W (.fld F.HKA_INT_CAUSE_INJ_REFUSED)) (h1 : W (.fld F.HKA_INT_CAUSE_TRIG_MISS)) (h2 : W (.fld F.HKA_MISS_CNT_COUNT)) (h3 : W (.fld F.HKA_STAT_CAL_HOLD)) (h4 : W (.fld F.HKA_STAT_INJ_PEND)) (h5 : W (.fld F.HKA_STAT_NEXT)) (h6 : W (.fld F.HKA_STAT_STATE)) (h7 : W (.fld H.HKA_CAL_WAIT)) (h8 : W (.fld H.HKA_CUR)) (h9 : W (.fld H.HKA_RUN)) (h10 : W (.fld H.HKA_SEQ_STATE)) (h11 : W (.fld H.HKA_TICKS)) (a0 : Nat) (h : Moves W s₀ s) :
    Moves W s₀ (Sys2Proof.Machine.Hka.fire a0 s) := by
  unfold Sys2Proof.Machine.Hka.fire
  repeat' (first
    | with_reducible assumption
    | with_reducible apply Hka_inject_moves
    | with_reducible apply Hka_trigger_moves
    | intro _
    | split
    | (extract_lets +onlyGivenNames x; first
      | (refine Moves.keep (W := W) (s₀ := s₀) x ?_ ?_; rotate_left; intro hx; clear_value x; rotate_right)
      | (refine Moves.keep (W := W) (s₀ := s₀) x.2 ?_ ?_; rotate_left; intro hx; clear_value x; rotate_right)
      | (refine Moves.keep (W := W) (s₀ := s₀) x.1 ?_ ?_; rotate_left; intro hx; clear_value x; rotate_right)
      | skip))

theorem Hka_timer_moves {W : Part → Prop} {s₀ s : State} (h0 : W (.fld F.HKA_INT_CAUSE_INJ_REFUSED)) (h1 : W (.fld F.HKA_INT_CAUSE_TRIG_MISS)) (h2 : W (.fld F.HKA_MISS_CNT_COUNT)) (h3 : W (.fld F.HKA_STAT_CAL_HOLD)) (h4 : W (.fld F.HKA_STAT_INJ_PEND)) (h5 : W (.fld F.HKA_STAT_NEXT)) (h6 : W (.fld F.HKA_STAT_STATE)) (h7 : W (.fld H.HKA_CAL_WAIT)) (h8 : W (.fld H.HKA_CUR)) (h9 : W (.fld H.HKA_RUN)) (h10 : W (.fld H.HKA_SEQ_STATE)) (h11 : W (.fld H.HKA_TICKS)) (h : Moves W s₀ s) :
    Moves W s₀ (Sys2Proof.Machine.Hka.timer s) := by
  unfold Sys2Proof.Machine.Hka.timer
  repeat' (first
    | with_reducible assumption
    | with_reducible apply Hka_fire_moves
    | intro _
    | split)

theorem Hka_seqGo_moves {W : Part → Prop} {s₀ s : State} (h0 : W (.fld F.HKA_INT_CAUSE_TRIG_MISS)) (h1 : W (.fld F.HKA_MISS_CNT_COUNT)) (h2 : W (.fld F.HKA_STAT_NEXT)) (h3 : W (.fld F.HKA_STAT_STATE)) (h : Moves W s₀ s) :
    Moves W s₀ (Sys2Proof.Machine.Hka.seqGo s) := by
  unfold Sys2Proof.Machine.Hka.seqGo
  repeat' (first
    | with_reducible assumption
    | with_reducible apply Hka_trigger_moves
    | intro _
    | split)

theorem Hka_delayEnd_moves {W : Part → Prop} {s₀ s : State} (h0 : W (.fld F.HKA_STAT_CAL_HOLD)) (h1 : W (.fld F.HKA_STAT_INJ_PEND)) (h2 : W (.fld F.HKA_STAT_STATE)) (h3 : W (.fld H.HKA_CAL_WAIT)) (h4 : W (.fld H.HKA_CUR)) (h5 : W (.fld H.HKA_RUN)) (h6 : W (.fld H.HKA_SEQ_STATE)) (h7 : W (.fld H.HKA_TICKS)) (h : Moves W s₀ s) :
    Moves W s₀ (Sys2Proof.Machine.Hka.delayEnd s) := by
  unfold Sys2Proof.Machine.Hka.delayEnd
  repeat' (first
    | with_reducible assumption
    | with_reducible apply Moves.put
    | with_reducible apply Hka_choose_moves
    | intro _
    | split)

theorem Hka_scanDue_moves {W : Part → Prop} {s₀ s : State} (h0 : W (.fld F.HKA_STAT_CAL_HOLD)) (h1 : W (.fld F.HKA_STAT_INJ_PEND)) (h2 : W (.fld F.HKA_STAT_STATE)) (h3 : W (.fld H.HKA_CAL_WAIT)) (h4 : W (.fld H.HKA_CUR)) (h5 : W (.fld H.HKA_RUN)) (h6 : W (.fld H.HKA_SCAN_DUE)) (h7 : W (.fld H.HKA_SCAN_S)) (h8 : W (.fld H.HKA_SEQ_STATE)) (h9 : W (.fld H.HKA_TICKS)) (h : Moves W s₀ s) :
    Moves W s₀ (Sys2Proof.Machine.Hka.scanDue s) := by
  unfold Sys2Proof.Machine.Hka.scanDue
  repeat' (first
    | with_reducible assumption
    | with_reducible apply Moves.clr
    | with_reducible apply Moves.set
    | with_reducible apply Hka_choose_moves
    | intro _
    | split)

theorem Hka_requestCal_moves {W : Part → Prop} {s₀ s : State} (h0 : W (.fld F.CAL_DEFERRED_VAL)) (h1 : W (.fld F.HKA_STAT_CAL_HOLD)) (h2 : W (.fld F.HKA_STAT_INJ_PEND)) (h3 : W (.fld F.HKA_STAT_STATE)) (h4 : W (.fld H.HKA_CAL_WAIT)) (h5 : W (.fld H.HKA_CUR)) (h6 : W (.fld H.HKA_RUN)) (h7 : W (.fld H.HKA_SEQ_STATE)) (h8 : W (.fld H.HKA_TICKS)) (h : Moves W s₀ s) :
    Moves W s₀ (Sys2Proof.Machine.Hka.requestCal s) := by
  unfold Sys2Proof.Machine.Hka.requestCal
  repeat' (first
    | with_reducible assumption
    | with_reducible apply Moves.put
    | with_reducible apply Moves.set
    | with_reducible apply Hka_choose_moves
    | intro _
    | split
    | (extract_lets +onlyGivenNames x; first
      | (refine Moves.keep (W := W) (s₀ := s₀) x ?_ ?_; rotate_left; intro hx; clear_value x; rotate_right)
      | (refine Moves.keep (W := W) (s₀ := s₀) x.2 ?_ ?_; rotate_left; intro hx; clear_value x; rotate_right)
      | (refine Moves.keep (W := W) (s₀ := s₀) x.1 ?_ ?_; rotate_left; intro hx; clear_value x; rotate_right)
      | skip))

theorem Hka_releaseCal_moves {W : Part → Prop} {s₀ s : State} (h0 : W (.fld F.HKA_STAT_CAL_HOLD)) (h1 : W (.fld F.HKA_STAT_INJ_PEND)) (h2 : W (.fld F.HKA_STAT_STATE)) (h3 : W (.fld H.HKA_CAL_WAIT)) (h4 : W (.fld H.HKA_CUR)) (h5 : W (.fld H.HKA_RUN)) (h6 : W (.fld H.HKA_SEQ_STATE)) (h7 : W (.fld H.HKA_TICKS)) (h : Moves W s₀ s) :
    Moves W s₀ (Sys2Proof.Machine.Hka.releaseCal s) := by
  unfold Sys2Proof.Machine.Hka.releaseCal
  repeat' (first
    | with_reducible assumption
    | with_reducible apply Moves.clr
    | with_reducible apply Moves.put
    | with_reducible apply Hka_choose_moves
    | intro _
    | split)

theorem Hka_conversionEnd_moves {W : Part → Prop} {s₀ s : State} (h0 : W (.fld F.HKA_DIE_HOT_TEMP)) (h1 : W (.fld F.HKA_DIE_TEMP_TEMP)) (h2 : W (.fld F.HKA_INJ_RES_DATA)) (h3 : W (.fld F.HKA_INJ_RES_NEW)) (h4 : W (.fld F.HKA_INJ_RES_OVR)) (h5 : W (.fld F.HKA_INT_CAUSE_INJ_DONE)) (h6 : W (.fld F.HKA_INT_CAUSE_SEQ_DONE)) (h7 : W (.fld F.HKA_RES_DATA)) (h8 : W (.fld F.HKA_RES_NEW)) (h9 : W (.fld F.HKA_RES_OVR)) (h10 : W (.fld F.HKA_STAT_CAL_HOLD)) (h11 : W (.fld F.HKA_STAT_INJ_PEND)) (h12 : W (.fld F.HKA_STAT_NEXT)) (h13 : W (.fld F.HKA_STAT_STATE)) (h14 : W (.fld H.HKA_CAL_WAIT)) (h15 : W (.fld H.HKA_CODE)) (h16 : W (.fld H.HKA_CUR)) (h17 : W (.fld H.HKA_FRESH)) (h18 : W (.fld H.HKA_INJ_CODE)) (h19 : W (.fld H.HKA_RUN)) (h20 : W (.fld H.HKA_SCAN_DUE)) (h21 : W (.fld H.HKA_SCAN_S)) (h22 : W (.fld H.HKA_SEQ_STATE)) (h23 : W (.fld H.HKA_TICKS)) (a0 : Int) (h : Moves W s₀ s) :
    Moves W s₀ (Sys2Proof.Machine.Hka.conversionEnd a0 s) := by
  unfold Sys2Proof.Machine.Hka.conversionEnd
  repeat' (first
    | with_reducible assumption
    | with_reducible apply Moves.clr
    | with_reducible apply Moves.put
    | with_reducible apply Moves.set
    | with_reducible apply Moves.sput
    | with_reducible apply Hka_deliver_moves
    | with_reducible apply Hka_choose_moves
    | intro _
    | split
    | (extract_lets +onlyGivenNames x; first
      | (refine Moves.keep (W := W) (s₀ := s₀) x ?_ ?_; rotate_left; intro hx; clear_value x; rotate_right)
      | (refine Moves.keep (W := W) (s₀ := s₀) x.2 ?_ ?_; rotate_left; intro hx; clear_value x; rotate_right)
      | (refine Moves.keep (W := W) (s₀ := s₀) x.1 ?_ ?_; rotate_left; intro hx; clear_value x; rotate_right)
      | skip))

theorem Hka_dither_moves {W : Part → Prop} {s₀ s : State} (h0 : W (.fld H.HKA_PWM_CNT)) (h1 : W (.fld H.HKA_PWM_MINUS)) (a0 : Nat) (h : Moves W s₀ s) :
    Moves W s₀ (Sys2Proof.Machine.Hka.dither a0 s) := by
  unfold Sys2Proof.Machine.Hka.dither
  repeat' (first
    | with_reducible assumption
    | with_reducible apply Moves.clr
    | with_reducible apply Moves.put
    | intro _
    | split)

theorem Hka_periodStart_moves {W : Part → Prop} {s₀ s : State} (h0 : W (.fld F.HKA_INT_CAUSE_INJ_REFUSED)) (h1 : W (.fld F.HKA_INT_CAUSE_TRIG_MISS)) (h2 : W (.fld F.HKA_MISS_CNT_COUNT)) (h3 : W (.fld F.HKA_STAT_CAL_HOLD)) (h4 : W (.fld F.HKA_STAT_INJ_PEND)) (h5 : W (.fld F.HKA_STAT_NEXT)) (h6 : W (.fld F.HKA_STAT_STATE)) (h7 : W (.fld H.HKA_CAL_WAIT)) (h8 : W (.fld H.HKA_CUR)) (h9 : W (.fld H.HKA_PWM_A)) (h10 : W (.fld H.HKA_PWM_C)) (h11 : W (.fld H.HKA_PWM_CNT)) (h12 : W (.fld H.HKA_PWM_MINUS)) (h13 : W (.fld H.HKA_PWM_OUT)) (h14 : W (.fld H.HKA_PWM_P)) (h15 : W (.fld H.HKA_RUN)) (h16 : W (.fld H.HKA_SEQ_STATE)) (h17 : W (.fld H.HKA_TICKS)) (a0 : Nat) (h : Moves W s₀ s) :
    Moves W s₀ (Sys2Proof.Machine.Hka.periodStart a0 s) := by
  unfold Sys2Proof.Machine.Hka.periodStart
  repeat' (first
    | with_reducible assumption
    | with_reducible apply Moves.clr
    | with_reducible apply Moves.put
    | with_reducible apply Hka_dither_moves
    | with_reducible apply Hka_fire_moves
    | intro _
    | split
    | (extract_lets +onlyGivenNames x; first
      | (refine Moves.keep (W := W) (s₀ := s₀) x ?_ ?_; rotate_left; intro hx; clear_value x; rotate_right)
      | (refine Moves.keep (W := W) (s₀ := s₀) x.2 ?_ ?_; rotate_left; intro hx; clear_value x; rotate_right)
      | (refine Moves.keep (W := W) (s₀ := s₀) x.1 ?_ ?_; rotate_left; intro hx; clear_value x; rotate_right)
      | skip))

theorem Hka_compare_moves {W : Part → Prop} {s₀ s : State} (h0 : W (.fld F.HKA_INT_CAUSE_INJ_REFUSED)) (h1 : W (.fld F.HKA_INT_CAUSE_TRIG_MISS)) (h2 : W (.fld F.HKA_MISS_CNT_COUNT)) (h3 : W (.fld F.HKA_STAT_CAL_HOLD)) (h4 : W (.fld F.HKA_STAT_INJ_PEND)) (h5 : W (.fld F.HKA_STAT_NEXT)) (h6 : W (.fld F.HKA_STAT_STATE)) (h7 : W (.fld H.HKA_CAL_WAIT)) (h8 : W (.fld H.HKA_CUR)) (h9 : W (.fld H.HKA_PWM_OUT)) (h10 : W (.fld H.HKA_RUN)) (h11 : W (.fld H.HKA_SEQ_STATE)) (h12 : W (.fld H.HKA_TICKS)) (a0 : Nat) (h : Moves W s₀ s) :
    Moves W s₀ (Sys2Proof.Machine.Hka.compare a0 s) := by
  unfold Sys2Proof.Machine.Hka.compare
  repeat' (first
    | with_reducible assumption
    | with_reducible apply Moves.clr
    | with_reducible apply Hka_fire_moves
    | intro _
    | split)

theorem Hka_writeDuty_moves {W : Part → Prop} {s₀ s : State} (h0 : W (.fld F.HKA_PWM_DUTY_VAL)) (h1 : W (.fld F.LSR_INT_CAUSE_OWNED)) (a0 : Nat) (a1 : Nat) (h : Moves W s₀ s) :
    Moves W s₀ (Sys2Proof.Machine.Hka.writeDuty a0 a1 s) := by
  unfold Sys2Proof.Machine.Hka.writeDuty
  repeat' (first
    | with_reducible assumption
    | with_reducible apply Moves.put
    | with_reducible apply Moves.set
    | intro _
    | split)

theorem Hka_writeCtrl_moves {W : Part → Prop} {s₀ s : State} (h0 : W (.fld F.HKA_CTRL_EN)) (h1 : W (.fld F.HKA_CTRL_LEN_M1)) (h2 : W (.fld F.HKA_CTRL_LP)) (h3 : W (.fld F.HKA_STAT_CAL_HOLD)) (h4 : W (.fld F.HKA_STAT_INJ_PEND)) (h5 : W (.fld F.HKA_STAT_STATE)) (h6 : W (.fld H.HKA_CAL_WAIT)) (h7 : W (.fld H.HKA_CUR)) (h8 : W (.fld H.HKA_RUN)) (h9 : W (.fld H.HKA_SEQ_STATE)) (h10 : W (.fld H.HKA_TICKS)) (a0 : Nat) (h : Moves W s₀ s) :
    Moves W s₀ (Sys2Proof.Machine.Hka.writeCtrl a0 s) := by
  unfold Sys2Proof.Machine.Hka.writeCtrl
  repeat' (first
    | with_reducible assumption
    | with_reducible apply Moves.put
    | with_reducible apply Hka_choose_moves
    | intro _)

theorem Hka_writeInj_moves {W : Part → Prop} {s₀ s : State} (h0 : W (.fld F.HKA_INJ_ALIGN)) (h1 : W (.fld F.HKA_INJ_CH)) (h2 : W (.fld F.HKA_INJ_DIFF)) (h3 : W (.fld F.HKA_INJ_TSRC)) (h4 : W (.fld F.HKA_INT_CAUSE_INJ_REFUSED)) (h5 : W (.fld F.HKA_STAT_CAL_HOLD)) (h6 : W (.fld F.HKA_STAT_INJ_PEND)) (h7 : W (.fld F.HKA_STAT_STATE)) (h8 : W (.fld H.HKA_CAL_WAIT)) (h9 : W (.fld H.HKA_CUR)) (h10 : W (.fld H.HKA_RUN)) (h11 : W (.fld H.HKA_SEQ_STATE)) (h12 : W (.fld H.HKA_TICKS)) (a0 : Nat) (h : Moves W s₀ s) :
    Moves W s₀ (Sys2Proof.Machine.Hka.writeInj a0 s) := by
  unfold Sys2Proof.Machine.Hka.writeInj
  repeat' (first
    | with_reducible assumption
    | with_reducible apply Moves.put
    | with_reducible apply Hka_inject_moves
    | intro _
    | split
    | (extract_lets +onlyGivenNames x; first
      | (refine Moves.keep (W := W) (s₀ := s₀) x ?_ ?_; rotate_left; intro hx; clear_value x; rotate_right)
      | (refine Moves.keep (W := W) (s₀ := s₀) x.2 ?_ ?_; rotate_left; intro hx; clear_value x; rotate_right)
      | (refine Moves.keep (W := W) (s₀ := s₀) x.1 ?_ ?_; rotate_left; intro hx; clear_value x; rotate_right)
      | skip))

end Sys2Proof.Laws
end

