-- ==== Sys2Proof/Laws/MovesCal.lean ====
section
/-! SUPPORT. Sys2Proof/Laws/MovesCal.lean: what each operation of Machine/Cal.lean may write (Laws/Moves.lean). -/
namespace Sys2Proof.Laws
open Sys2Proof Sys2Proof.Machine

theorem Cal_start_moves {W : Part → Prop} {s₀ s : State} (h0 : W (.fld F.CAL_DEFERRED_VAL)) (h1 : W (.fld F.CAL_STAT_STATE)) (h2 : W (.fld F.CAL_STAT_TYPE)) (h3 : W (.fld F.HKA_STAT_CAL_HOLD)) (h4 : W (.fld F.HKA_STAT_INJ_PEND)) (h5 : W (.fld F.HKA_STAT_STATE)) (h6 : W (.fld H.CAL_HOST)) (h7 : W (.fld H.CAL_PASSED)) (h8 : W (.fld H.CAL_T0)) (h9 : W (.fld H.CAL_TEMP0)) (h10 : W (.fld H.HKA_CAL_WAIT)) (h11 : W (.fld H.HKA_CUR)) (h12 : W (.fld H.HKA_RUN)) (h13 : W (.fld H.HKA_SEQ_STATE)) (h14 : W (.fld H.HKA_TICKS)) (a0 : Bool) (a1 : Bool) (h : Moves W s₀ s) :
    Moves W s₀ (Sys2Proof.Machine.Cal.start a0 a1 s) := by
  unfold Sys2Proof.Machine.Cal.start
  repeat' (first
    | with_reducible assumption
    | with_reducible apply Moves.clr
    | with_reducible apply Moves.put
    | with_reducible apply Moves.sput
    | with_reducible apply Hka_requestCal_moves
    | intro _
    | (extract_lets +onlyGivenNames x; first
      | (refine Moves.keep (W := W) (s₀ := s₀) x ?_ ?_; rotate_left; intro hx; clear_value x; rotate_right)
      | (refine Moves.keep (W := W) (s₀ := s₀) x.2 ?_ ?_; rotate_left; intro hx; clear_value x; rotate_right)
      | (refine Moves.keep (W := W) (s₀ := s₀) x.1 ?_ ?_; rotate_left; intro hx; clear_value x; rotate_right)
      | skip))

theorem Cal_go_moves {W : Part → Prop} {s₀ s : State} (h0 : W (.fld F.CAL_DEFERRED_VAL)) (h1 : W (.fld F.CAL_INT_CAUSE_BUSY)) (h2 : W (.fld F.CAL_STAT_STATE)) (h3 : W (.fld F.CAL_STAT_TYPE)) (h4 : W (.fld F.HKA_STAT_CAL_HOLD)) (h5 : W (.fld F.HKA_STAT_INJ_PEND)) (h6 : W (.fld F.HKA_STAT_STATE)) (h7 : W (.fld H.CAL_HOST)) (h8 : W (.fld H.CAL_PASSED)) (h9 : W (.fld H.CAL_T0)) (h10 : W (.fld H.CAL_TEMP0)) (h11 : W (.fld H.HKA_CAL_WAIT)) (h12 : W (.fld H.HKA_CUR)) (h13 : W (.fld H.HKA_RUN)) (h14 : W (.fld H.HKA_SEQ_STATE)) (h15 : W (.fld H.HKA_TICKS)) (a0 : Bool) (h : Moves W s₀ s) :
    Moves W s₀ (Sys2Proof.Machine.Cal.go a0 s) := by
  unfold Sys2Proof.Machine.Cal.go
  repeat' (first
    | with_reducible assumption
    | with_reducible apply Moves.set
    | with_reducible apply Cal_start_moves
    | intro _
    | split)

theorem Cal_endBad_moves {W : Part → Prop} {s₀ s : State} (h0 : W (.fld F.CAL_STAT_STATE)) (h1 : W (.fld F.HKA_STAT_CAL_HOLD)) (h2 : W (.fld F.HKA_STAT_INJ_PEND)) (h3 : W (.fld F.HKA_STAT_STATE)) (h4 : W (.fld H.CAL_RETRY)) (h5 : W (.fld H.HKA_CAL_WAIT)) (h6 : W (.fld H.HKA_CUR)) (h7 : W (.fld H.HKA_RUN)) (h8 : W (.fld H.HKA_SEQ_STATE)) (h9 : W (.fld H.HKA_TICKS)) (h : Moves W s₀ s) :
    Moves W s₀ (Sys2Proof.Machine.Cal.endBad s) := by
  unfold Sys2Proof.Machine.Cal.endBad
  repeat' (first
    | with_reducible assumption
    | with_reducible apply Moves.clr
    | with_reducible apply Moves.set
    | with_reducible apply Hka_releaseCal_moves
    | intro _
    | split
    | (extract_lets +onlyGivenNames x; first
      | (refine Moves.keep (W := W) (s₀ := s₀) x ?_ ?_; rotate_left; intro hx; clear_value x; rotate_right)
      | (refine Moves.keep (W := W) (s₀ := s₀) x.2 ?_ ?_; rotate_left; intro hx; clear_value x; rotate_right)
      | (refine Moves.keep (W := W) (s₀ := s₀) x.1 ?_ ?_; rotate_left; intro hx; clear_value x; rotate_right)
      | skip))

theorem Cal_abandon_moves {W : Part → Prop} {s₀ s : State} (h0 : W (.fld F.CAL_INT_CAUSE_ABORTED)) (h1 : W (.fld F.CAL_STAT_STATE)) (h2 : W (.fld F.HKA_STAT_CAL_HOLD)) (h3 : W (.fld F.HKA_STAT_INJ_PEND)) (h4 : W (.fld F.HKA_STAT_STATE)) (h5 : W (.fld H.CAL_RETRY)) (h6 : W (.fld H.HKA_CAL_WAIT)) (h7 : W (.fld H.HKA_CUR)) (h8 : W (.fld H.HKA_RUN)) (h9 : W (.fld H.HKA_SEQ_STATE)) (h10 : W (.fld H.HKA_TICKS)) (h : Moves W s₀ s) :
    Moves W s₀ (Sys2Proof.Machine.Cal.abandon s) := by
  unfold Sys2Proof.Machine.Cal.abandon
  repeat' (first
    | with_reducible assumption
    | with_reducible apply Moves.set
    | with_reducible apply Cal_endBad_moves
    | intro _
    | split)

theorem Cal_lineEnabled_moves {W : Part → Prop} {s₀ s : State} (h0 : W (.fld F.CAL_INT_CAUSE_ABORTED)) (h1 : W (.fld F.CAL_STAT_STATE)) (h2 : W (.fld F.HKA_STAT_CAL_HOLD)) (h3 : W (.fld F.HKA_STAT_INJ_PEND)) (h4 : W (.fld F.HKA_STAT_STATE)) (h5 : W (.fld H.CAL_RETRY)) (h6 : W (.fld H.HKA_CAL_WAIT)) (h7 : W (.fld H.HKA_CUR)) (h8 : W (.fld H.HKA_RUN)) (h9 : W (.fld H.HKA_SEQ_STATE)) (h10 : W (.fld H.HKA_TICKS)) (h : Moves W s₀ s) :
    Moves W s₀ (Sys2Proof.Machine.Cal.lineEnabled s) := by
  unfold Sys2Proof.Machine.Cal.lineEnabled
  repeat' (first
    | with_reducible assumption
    | with_reducible apply Cal_abandon_moves
    | intro _
    | split)

theorem Cal_abort_moves {W : Part → Prop} {s₀ s : State} (h0 : W (.fld F.CAL_INT_CAUSE_ABORTED)) (h1 : W (.fld F.CAL_STAT_STATE)) (h2 : W (.fld F.HKA_STAT_CAL_HOLD)) (h3 : W (.fld F.HKA_STAT_INJ_PEND)) (h4 : W (.fld F.HKA_STAT_STATE)) (h5 : W (.fld H.CAL_RETRY)) (h6 : W (.fld H.HKA_CAL_WAIT)) (h7 : W (.fld H.HKA_CUR)) (h8 : W (.fld H.HKA_RUN)) (h9 : W (.fld H.HKA_SEQ_STATE)) (h10 : W (.fld H.HKA_TICKS)) (h : Moves W s₀ s) :
    Moves W s₀ (Sys2Proof.Machine.Cal.abort s) := by
  unfold Sys2Proof.Machine.Cal.abort
  repeat' (first
    | with_reducible assumption
    | with_reducible apply Cal_abandon_moves
    | intro _
    | split)

theorem Cal_autoStart_moves {W : Part → Prop} {s₀ s : State} (h0 : W (.fld F.CAL_DEFERRED_VAL)) (h1 : W (.fld F.CAL_STAT_STATE)) (h2 : W (.fld F.CAL_STAT_TYPE)) (h3 : W (.fld F.HKA_STAT_CAL_HOLD)) (h4 : W (.fld F.HKA_STAT_INJ_PEND)) (h5 : W (.fld F.HKA_STAT_STATE)) (h6 : W (.fld H.CAL_AUTO_PEND)) (h7 : W (.fld H.CAL_HOST)) (h8 : W (.fld H.CAL_PASSED)) (h9 : W (.fld H.CAL_T0)) (h10 : W (.fld H.CAL_TEMP0)) (h11 : W (.fld H.HKA_CAL_WAIT)) (h12 : W (.fld H.HKA_CUR)) (h13 : W (.fld H.HKA_RUN)) (h14 : W (.fld H.HKA_SEQ_STATE)) (h15 : W (.fld H.HKA_TICKS)) (h : Moves W s₀ s) :
    Moves W s₀ (Sys2Proof.Machine.Cal.autoStart s) := by
  unfold Sys2Proof.Machine.Cal.autoStart
  repeat' (first
    | with_reducible assumption
    | with_reducible apply Moves.clr
    | with_reducible apply Moves.set
    | with_reducible apply Cal_start_moves
    | intro _
    | split
    | (extract_lets +onlyGivenNames x; first
      | (refine Moves.keep (W := W) (s₀ := s₀) x ?_ ?_; rotate_left; intro hx; clear_value x; rotate_right)
      | (refine Moves.keep (W := W) (s₀ := s₀) x.2 ?_ ?_; rotate_left; intro hx; clear_value x; rotate_right)
      | (refine Moves.keep (W := W) (s₀ := s₀) x.1 ?_ ?_; rotate_left; intro hx; clear_value x; rotate_right)
      | skip))

theorem Cal_temperature_moves {W : Part → Prop} {s₀ s : State} (h0 : W (.fld F.CAL_DEFERRED_VAL)) (h1 : W (.fld F.CAL_STAT_STATE)) (h2 : W (.fld F.CAL_STAT_TYPE)) (h3 : W (.fld F.HKA_STAT_CAL_HOLD)) (h4 : W (.fld F.HKA_STAT_INJ_PEND)) (h5 : W (.fld F.HKA_STAT_STATE)) (h6 : W (.fld H.CAL_AUTO_PEND)) (h7 : W (.fld H.CAL_HOST)) (h8 : W (.fld H.CAL_PASSED)) (h9 : W (.fld H.CAL_T0)) (h10 : W (.fld H.CAL_TEMP0)) (h11 : W (.fld H.HKA_CAL_WAIT)) (h12 : W (.fld H.HKA_CUR)) (h13 : W (.fld H.HKA_RUN)) (h14 : W (.fld H.HKA_SEQ_STATE)) (h15 : W (.fld H.HKA_TICKS)) (h : Moves W s₀ s) :
    Moves W s₀ (Sys2Proof.Machine.Cal.temperature s) := by
  unfold Sys2Proof.Machine.Cal.temperature
  repeat' (first
    | with_reducible assumption
    | with_reducible apply Cal_autoStart_moves
    | intro _
    | split
    | (extract_lets +onlyGivenNames x; first
      | (refine Moves.keep (W := W) (s₀ := s₀) x ?_ ?_; rotate_left; intro hx; clear_value x; rotate_right)
      | (refine Moves.keep (W := W) (s₀ := s₀) x.2 ?_ ?_; rotate_left; intro hx; clear_value x; rotate_right)
      | (refine Moves.keep (W := W) (s₀ := s₀) x.1 ?_ ?_; rotate_left; intro hx; clear_value x; rotate_right)
      | skip))

theorem Cal_retryExpiry_moves {W : Part → Prop} {s₀ s : State} (h0 : W (.fld H.CAL_RETRY)) (h : Moves W s₀ s) :
    Moves W s₀ (Sys2Proof.Machine.Cal.retryExpiry s) := by
  unfold Sys2Proof.Machine.Cal.retryExpiry
  repeat' (first
    | with_reducible assumption
    | with_reducible apply Moves.clr
    | intro _)

theorem Cal_sliceEnded_moves {W : Part → Prop} {s₀ s : State} (h0 : W (.fld F.CAL_DEFERRED_VAL)) (h1 : W (.fld F.CAL_STAT_STATE)) (h2 : W (.fld F.CAL_STAT_TYPE)) (h3 : W (.fld F.HKA_STAT_CAL_HOLD)) (h4 : W (.fld F.HKA_STAT_INJ_PEND)) (h5 : W (.fld F.HKA_STAT_STATE)) (h6 : W (.fld H.CAL_AUTO_PEND)) (h7 : W (.fld H.CAL_HOST)) (h8 : W (.fld H.CAL_PASSED)) (h9 : W (.fld H.CAL_T0)) (h10 : W (.fld H.CAL_TEMP0)) (h11 : W (.fld H.HKA_CAL_WAIT)) (h12 : W (.fld H.HKA_CUR)) (h13 : W (.fld H.HKA_RUN)) (h14 : W (.fld H.HKA_SEQ_STATE)) (h15 : W (.fld H.HKA_TICKS)) (h : Moves W s₀ s) :
    Moves W s₀ (Sys2Proof.Machine.Cal.sliceEnded s) := by
  unfold Sys2Proof.Machine.Cal.sliceEnded
  repeat' (first
    | with_reducible assumption
    | with_reducible apply Moves.clr
    | with_reducible apply Cal_autoStart_moves
    | intro _
    | split)

theorem Cal_hkaDone_moves {W : Part → Prop} {s₀ s : State} (h0 : W (.fld F.CAL_INT_CAUSE_NOREF)) (h1 : W (.fld F.CAL_STAT_STATE)) (h2 : W (.fld F.HKA_STAT_CAL_HOLD)) (h3 : W (.fld F.HKA_STAT_INJ_PEND)) (h4 : W (.fld F.HKA_STAT_STATE)) (h5 : W (.fld H.CAL_RETRY)) (h6 : W (.fld H.HKA_CAL_WAIT)) (h7 : W (.fld H.HKA_CUR)) (h8 : W (.fld H.HKA_RUN)) (h9 : W (.fld H.HKA_SEQ_STATE)) (h10 : W (.fld H.HKA_TICKS)) (a0 : Int) (h : Moves W s₀ s) :
    Moves W s₀ (Sys2Proof.Machine.Cal.hkaDone a0 s) := by
  unfold Sys2Proof.Machine.Cal.hkaDone
  repeat' (first
    | with_reducible assumption
    | with_reducible apply Moves.put
    | with_reducible apply Moves.set
    | with_reducible apply Hka_releaseCal_moves
    | with_reducible apply Cal_endBad_moves
    | intro _
    | split
    | (extract_lets +onlyGivenNames x; first
      | (refine Moves.keep (W := W) (s₀ := s₀) x ?_ ?_; rotate_left; intro hx; clear_value x; rotate_right)
      | (refine Moves.keep (W := W) (s₀ := s₀) x.2 ?_ ?_; rotate_left; intro hx; clear_value x; rotate_right)
      | (refine Moves.keep (W := W) (s₀ := s₀) x.1 ?_ ?_; rotate_left; intro hx; clear_value x; rotate_right)
      | skip))

theorem Cal_sine_moves {W : Part → Prop} {s₀ s : State} (h0 : W (.fld F.CAL_INT_CAUSE_NOREF)) (h1 : W (.fld F.CAL_STAT_STATE)) (h2 : W (.fld F.HKA_STAT_CAL_HOLD)) (h3 : W (.fld F.HKA_STAT_INJ_PEND)) (h4 : W (.fld F.HKA_STAT_STATE)) (h5 : W (.fld H.CAL_RETRY)) (h6 : W (.fld H.HKA_CAL_WAIT)) (h7 : W (.fld H.HKA_CUR)) (h8 : W (.fld H.HKA_RUN)) (h9 : W (.fld H.HKA_SEQ_STATE)) (h10 : W (.fld H.HKA_TICKS)) (a0 : Nat) (h : Moves W s₀ s) :
    Moves W s₀ (Sys2Proof.Machine.Cal.sine a0 s) := by
  unfold Sys2Proof.Machine.Cal.sine
  repeat' (first
    | with_reducible assumption
    | with_reducible apply Moves.put
    | with_reducible apply Moves.set
    | with_reducible apply Cal_endBad_moves
    | intro _
    | split)

theorem Cal_passEnd_moves {W : Part → Prop} {s₀ s : State} (h0 : W (.fld F.CAL_STAT_STATE)) (h1 : W (.fld H.CAL_PASSED)) (h : Moves W s₀ s) :
    Moves W s₀ (Sys2Proof.Machine.Cal.passEnd s) := by
  unfold Sys2Proof.Machine.Cal.passEnd
  repeat' (first
    | with_reducible assumption
    | with_reducible apply Moves.put
    | with_reducible apply Moves.set
    | intro _
    | split)

theorem Cal_applyAdc_moves {W : Part → Prop} {s₀ s : State} (h0 : W (.fld F.CAL_ADC_STAT_SHORT)) (h1 : W (.fld F.CAL_ADC_STAT_SPARES_FREE)) (h2 : W (.fld F.CAL_ADC_STAT_WORST_GAIN)) (h3 : W (.fld F.CAL_ADC_STAT_WORST_OFS)) (h4 : W (.fld F.CAL_ADC_STAT_WORST_SKEW)) (h5 : W (.fld F.CAL_INT_CAUSE_REPAIR)) (h6 : W (.fld H.CAL_ADC_SEL)) (h7 : W (.fld H.CAL_ADC_TRIM)) (a0 : Nat) (a1 : List Sys2Proof.SubSlice) (h : Moves W s₀ s) :
    Moves W s₀ (Sys2Proof.Machine.Cal.applyAdc a0 a1 s) := by
  unfold Sys2Proof.Machine.Cal.applyAdc
  repeat' (first
    | with_reducible assumption
    | with_reducible apply Moves.clr
    | with_reducible apply Moves.each
    | with_reducible apply Moves.eachOf
    | with_reducible apply Moves.put
    | with_reducible apply Moves.set
    | with_reducible apply Moves.sput
    | intro _
    | split
    | (extract_lets +onlyGivenNames x; first
      | (refine Moves.keep (W := W) (s₀ := s₀) x ?_ ?_; rotate_left; intro hx; clear_value x; rotate_right)
      | (refine Moves.keep (W := W) (s₀ := s₀) x.2 ?_ ?_; rotate_left; intro hx; clear_value x; rotate_right)
      | (refine Moves.keep (W := W) (s₀ := s₀) x.1 ?_ ?_; rotate_left; intro hx; clear_value x; rotate_right)
      | skip))

theorem Cal_applyCells_moves {W : Part → Prop} {s₀ s : State} (h0 : W (.fld F.CAL_DAC_STAT_SHORT)) (h1 : W (.fld F.CAL_DAC_STAT_SPARES_FREE)) (h2 : W (.fld F.CAL_INT_CAUSE_REPAIR)) (h3 : W (.fld H.CAL_DAC_SEL)) (a0 : Nat) (a1 : List (Int × Int)) (h : Moves W s₀ s) :
    Moves W s₀ (Sys2Proof.Machine.Cal.applyCells a0 a1 s) := by
  unfold Sys2Proof.Machine.Cal.applyCells
  repeat' (first
    | with_reducible assumption
    | with_reducible apply Moves.clr
    | with_reducible apply Moves.each
    | with_reducible apply Moves.eachOf
    | with_reducible apply Moves.put
    | with_reducible apply Moves.set
    | intro _
    | split
    | (extract_lets +onlyGivenNames x; first
      | (refine Moves.keep (W := W) (s₀ := s₀) x ?_ ?_; rotate_left; intro hx; clear_value x; rotate_right)
      | (refine Moves.keep (W := W) (s₀ := s₀) x.2 ?_ ?_; rotate_left; intro hx; clear_value x; rotate_right)
      | (refine Moves.keep (W := W) (s₀ := s₀) x.1 ?_ ?_; rotate_left; intro hx; clear_value x; rotate_right)
      | skip))

theorem Cal_applyLane_moves {W : Part → Prop} {s₀ s : State} (h0 : W (.fld F.CAL_DAC_STAT_WORST_GAIN)) (h1 : W (.fld F.CAL_DAC_STAT_WORST_OFS)) (h2 : W (.fld H.CAL_DAC_TRIM)) (a0 : Nat) (a1 : Sys2Proof.DacLane) (h : Moves W s₀ s) :
    Moves W s₀ (Sys2Proof.Machine.Cal.applyLane a0 a1 s) := by
  unfold Sys2Proof.Machine.Cal.applyLane
  repeat' (first
    | with_reducible assumption
    | with_reducible apply Moves.put
    | with_reducible apply Moves.sput
    | intro _
    | (extract_lets +onlyGivenNames x; first
      | (refine Moves.keep (W := W) (s₀ := s₀) x ?_ ?_; rotate_left; intro hx; clear_value x; rotate_right)
      | (refine Moves.keep (W := W) (s₀ := s₀) x.2 ?_ ?_; rotate_left; intro hx; clear_value x; rotate_right)
      | (refine Moves.keep (W := W) (s₀ := s₀) x.1 ?_ ?_; rotate_left; intro hx; clear_value x; rotate_right)
      | skip))

theorem Cal_runEnd_moves {W : Part → Prop} {s₀ s : State} (h0 : W .flash) (h1 : W (.fld F.CAL_ADC_STAT_SHORT)) (h2 : W (.fld F.CAL_ADC_STAT_SPARES_FREE)) (h3 : W (.fld F.CAL_ADC_STAT_WORST_GAIN)) (h4 : W (.fld F.CAL_ADC_STAT_WORST_OFS)) (h5 : W (.fld F.CAL_ADC_STAT_WORST_SKEW)) (h6 : W (.fld F.CAL_COUNT_VAL)) (h7 : W (.fld F.CAL_DAC_STAT_SHORT)) (h8 : W (.fld F.CAL_DAC_STAT_SPARES_FREE)) (h9 : W (.fld F.CAL_DAC_STAT_WORST_GAIN)) (h10 : W (.fld F.CAL_DAC_STAT_WORST_OFS)) (h11 : W (.fld F.CAL_DIS_STAT_DAC)) (h12 : W (.fld F.CAL_DIS_STAT_DIFF)) (h13 : W (.fld F.CAL_DIS_STAT_ELEM)) (h14 : W (.fld F.CAL_DIS_STAT_P)) (h15 : W (.fld F.CAL_DIS_STAT_QTY)) (h16 : W (.fld F.CAL_INT_CAUSE_CAL_DISAGREE)) (h17 : W (.fld F.CAL_INT_CAUSE_DONE)) (h18 : W (.fld F.CAL_INT_CAUSE_REPAIR)) (h19 : W (.fld F.CAL_LAST_TEMP_VAL)) (h20 : W (.fld F.CAL_LAST_TIME_VAL)) (h21 : W (.fld F.CAL_STAT_FLASH_BUSY)) (h22 : W (.fld F.CAL_STAT_SOURCE)) (h23 : W (.fld F.CAL_STAT_STATE)) (h24 : W (.fld F.CAL_STAT_VALID)) (h25 : W (.fld F.CVT_ADC_STAT_READY)) (h26 : W (.fld F.CVT_DAC_STAT_READY)) (h27 : W (.fld F.HKA_STAT_CAL_HOLD)) (h28 : W (.fld F.HKA_STAT_INJ_PEND)) (h29 : W (.fld F.HKA_STAT_STATE)) (h30 : W (.fld H.CAL_ADC_SEL)) (h31 : W (.fld H.CAL_ADC_TRIM)) (h32 : W (.fld H.CAL_DAC_SEL)) (h33 : W (.fld H.CAL_DAC_TRIM)) (h34 : W (.fld H.CAL_RETRY)) (h35 : W (.fld H.HKA_CAL_WAIT)) (h36 : W (.fld H.HKA_CUR)) (h37 : W (.fld H.HKA_RUN)) (h38 : W (.fld H.HKA_SEQ_STATE)) (h39 : W (.fld H.HKA_TICKS)) (a0 : List (List Sys2Proof.SubSlice)) (a1 : List Sys2Proof.DacLane) (h : Moves W s₀ s) :
    Moves W s₀ (Sys2Proof.Machine.Cal.runEnd a0 a1 s) := by
  unfold Sys2Proof.Machine.Cal.runEnd
  repeat' (first
    | with_reducible assumption
    | with_reducible apply Moves.countWrap
    | with_reducible apply Moves.eachOf
    | with_reducible apply Moves.put
    | with_reducible apply Moves.set
    | with_reducible apply Cal_endBad_moves
    | with_reducible apply Cal_applyAdc_moves
    | with_reducible apply Cal_applyLane_moves
    | with_reducible apply Cal_applyCells_moves
    | with_reducible apply Cvt_refresh_moves
    | with_reducible apply Flash_erase_moves
    | intro _
    | split
    | (extract_lets +onlyGivenNames x; first
      | (refine Moves.keep (W := W) (s₀ := s₀) x ?_ ?_; rotate_left; intro hx; clear_value x; rotate_right)
      | (refine Moves.keep (W := W) (s₀ := s₀) x.2 ?_ ?_; rotate_left; intro hx; clear_value x; rotate_right)
      | (refine Moves.keep (W := W) (s₀ := s₀) x.1 ?_ ?_; rotate_left; intro hx; clear_value x; rotate_right)
      | skip))

theorem Cal_flashDone_moves {W : Part → Prop} {s₀ s : State} (h0 : W .flash) (h1 : W (.fld F.CAL_INT_CAUSE_FLASH_ERR)) (h2 : W (.fld F.CAL_STAT_FLASH_BUSY)) (h3 : W (.fld F.CAL_STAT_STATE)) (a0 : Bool) (h : Moves W s₀ s) :
    Moves W s₀ (Sys2Proof.Machine.Cal.flashDone a0 s) := by
  unfold Sys2Proof.Machine.Cal.flashDone
  repeat' (first
    | with_reducible assumption
    | with_reducible apply Moves.clr
    | with_reducible apply Moves.set
    | with_reducible apply Flash_program_moves
    | intro _
    | split
    | (extract_lets +onlyGivenNames x; first
      | (refine Moves.keep (W := W) (s₀ := s₀) x ?_ ?_; rotate_left; intro hx; clear_value x; rotate_right)
      | (refine Moves.keep (W := W) (s₀ := s₀) x.2 ?_ ?_; rotate_left; intro hx; clear_value x; rotate_right)
      | (refine Moves.keep (W := W) (s₀ := s₀) x.1 ?_ ?_; rotate_left; intro hx; clear_value x; rotate_right)
      | skip))

theorem Cal_load_moves {W : Part → Prop} {s₀ s : State} (h0 : W (.fld F.CAL_COUNT_VAL)) (h1 : W (.fld F.CAL_LAST_TEMP_VAL)) (h2 : W (.fld F.CAL_LAST_TIME_VAL)) (h3 : W (.fld F.CAL_STAT_FLASH_BAD)) (h4 : W (.fld F.CAL_STAT_SOURCE)) (h5 : W (.fld F.CAL_STAT_VALID)) (h6 : W (.fld F.CVT_ADC_STAT_READY)) (h7 : W (.fld F.CVT_DAC_STAT_READY)) (h8 : W (.fld H.CAL_ADC_SEL)) (h9 : W (.fld H.CAL_ADC_TRIM)) (h10 : W (.fld H.CAL_DAC_SEL)) (h11 : W (.fld H.CAL_DAC_TRIM)) (h : Moves W s₀ s) :
    Moves W s₀ (Sys2Proof.Machine.Cal.load s) := by
  unfold Sys2Proof.Machine.Cal.load
  repeat' (first
    | with_reducible assumption
    | with_reducible apply Moves.clr
    | with_reducible apply Moves.each
    | with_reducible apply Moves.put
    | with_reducible apply Moves.set
    | with_reducible apply Cvt_refresh_moves
    | intro _
    | split
    | (extract_lets +onlyGivenNames x; first
      | (refine Moves.keep (W := W) (s₀ := s₀) x ?_ ?_; rotate_left; intro hx; clear_value x; rotate_right)
      | (refine Moves.keep (W := W) (s₀ := s₀) x.2 ?_ ?_; rotate_left; intro hx; clear_value x; rotate_right)
      | (refine Moves.keep (W := W) (s₀ := s₀) x.1 ?_ ?_; rotate_left; intro hx; clear_value x; rotate_right)
      | skip))

end Sys2Proof.Laws
end

