-- ==== Sys2Proof/Laws/MovesBst.lean ====
section
/-! SUPPORT. Sys2Proof/Laws/MovesBst.lean: what each operation of Machine/Bst.lean may write (Laws/Moves.lean). -/
namespace Sys2Proof.Laws
open Sys2Proof Sys2Proof.Machine

theorem Bst_refresh_moves {W : Part → Prop} {s₀ s : State} (h0 : W (.fld F.BST_INT_CAUSE_SAFE)) (h1 : W (.fld F.BST_STAT_SAFE)) (h2 : W (.fld F.LSR_STAT_HOLD)) (h3 : W (.fld F.LSR_STAT_LASER_EN)) (h4 : W (.fld F.LTX_STAT_MUTE_SRC)) (h5 : W (.fld H.LTX_OUTPUT)) (h : Moves W s₀ s) :
    Moves W s₀ (Sys2Proof.Machine.Bst.refresh s) := by
  unfold Sys2Proof.Machine.Bst.refresh
  repeat' (first
    | with_reducible assumption
    | with_reducible apply Moves.clr
    | with_reducible apply Moves.set
    | with_reducible apply Lsr_laser_moves
    | with_reducible apply Ltx_mute_moves
    | with_reducible apply Ltx_unmute_moves
    | intro _
    | split)

theorem Bst_override_moves {W : Part → Prop} {s₀ s : State} (h0 : W (.fld F.BST_CTRL_OVERRIDE)) (h1 : W (.fld F.BST_INT_CAUSE_SAFE)) (h2 : W (.fld F.BST_STAT_SAFE)) (h3 : W (.fld F.LSR_STAT_HOLD)) (h4 : W (.fld F.LSR_STAT_LASER_EN)) (h5 : W (.fld F.LTX_STAT_MUTE_SRC)) (h6 : W (.fld H.LTX_OUTPUT)) (a0 : Nat) (h : Moves W s₀ s) :
    Moves W s₀ (Sys2Proof.Machine.Bst.override a0 s) := by
  unfold Sys2Proof.Machine.Bst.override
  repeat' (first
    | with_reducible assumption
    | with_reducible apply Moves.put
    | with_reducible apply Bst_refresh_moves
    | intro _
    | split)

theorem Bst_turn_moves {W : Part → Prop} {s₀ s : State} (h0 : W (.fld F.BST_INT_CAUSE_REFUSED)) (h1 : W (.fld F.BST_RESULT_RESULT)) (h2 : W (.fld F.BST_STAT_BUSY)) (h3 : W (.fld F.BST_STAT_CUR)) (h4 : W (.fld H.BST_WAITING)) (a0 : Nat) (h : Moves W s₀ s) :
    Moves W s₀ (Sys2Proof.Machine.Bst.turn a0 s).2 := by
  unfold Sys2Proof.Machine.Bst.turn
  repeat' (first
    | with_reducible assumption
    | with_reducible apply Moves.put
    | with_reducible apply Moves.set
    | intro _
    | split
    | (extract_lets +onlyGivenNames x; first
      | (refine Moves.keep (W := W) (s₀ := s₀) x ?_ ?_; rotate_left; intro hx; clear_value x; rotate_right)
      | (refine Moves.keep (W := W) (s₀ := s₀) x.2 ?_ ?_; rotate_left; intro hx; clear_value x; rotate_right)
      | (refine Moves.keep (W := W) (s₀ := s₀) x.1 ?_ ?_; rotate_left; intro hx; clear_value x; rotate_right)
      | skip))

theorem Bst_finish_moves {W : Part → Prop} {s₀ s : State} (h0 : W (.fld F.BST_INT_CAUSE_DONE)) (h1 : W (.fld F.BST_STAT_BUSY)) (h2 : W (.fld H.BST_TODO)) (h : Moves W s₀ s) :
    Moves W s₀ (Sys2Proof.Machine.Bst.finish s) := by
  unfold Sys2Proof.Machine.Bst.finish
  repeat' (first
    | with_reducible assumption
    | with_reducible apply Moves.clr
    | with_reducible apply Moves.set
    | intro _)

theorem Bst_nextOf_moves {W : Part → Prop} {s₀ s : State} (h0 : W (.fld F.BST_INT_CAUSE_DONE)) (h1 : W (.fld F.BST_INT_CAUSE_REFUSED)) (h2 : W (.fld F.BST_RESULT_RESULT)) (h3 : W (.fld F.BST_STAT_BUSY)) (h4 : W (.fld F.BST_STAT_CUR)) (h5 : W (.fld H.BST_TODO)) (h6 : W (.fld H.BST_WAITING)) (a0 : List Nat) (h : Moves W s₀ s) :
    Moves W s₀ (Sys2Proof.Machine.Bst.nextOf a0 s) := by
  induction a0 generalizing s with
  | nil => unfold Bst.nextOf; apply Bst_finish_moves <;> assumption
  | cons n rest ih =>
    unfold Bst.nextOf
    split
    · extract_lets r
      have hr : Moves W s₀ r.2 := by
        apply Bst_turn_moves <;> first | assumption | (apply Moves.clrBit <;> assumption)
      clear_value r
      split
      · exact hr
      · exact ih hr
    · exact ih h

theorem Bst_next_moves {W : Part → Prop} {s₀ s : State} (h0 : W (.fld F.BST_INT_CAUSE_DONE)) (h1 : W (.fld F.BST_INT_CAUSE_REFUSED)) (h2 : W (.fld F.BST_RESULT_RESULT)) (h3 : W (.fld F.BST_STAT_BUSY)) (h4 : W (.fld F.BST_STAT_CUR)) (h5 : W (.fld H.BST_TODO)) (h6 : W (.fld H.BST_WAITING)) (h : Moves W s₀ s) :
    Moves W s₀ (Sys2Proof.Machine.Bst.next s) := by
  unfold Sys2Proof.Machine.Bst.next
  repeat' (first
    | with_reducible assumption
    | with_reducible apply Bst_nextOf_moves
    | intro _)

theorem Bst_start_moves {W : Part → Prop} {s₀ s : State} (h0 : W (.fld F.BST_INT_CAUSE_DONE)) (h1 : W (.fld F.BST_INT_CAUSE_REFUSED)) (h2 : W (.fld F.BST_RESULT_RESULT)) (h3 : W (.fld F.BST_STAT_BUSY)) (h4 : W (.fld F.BST_STAT_CUR)) (h5 : W (.fld H.BST_TODO)) (h6 : W (.fld H.BST_WAITING)) (a0 : Nat) (h : Moves W s₀ s) :
    Moves W s₀ (Sys2Proof.Machine.Bst.start a0 s) := by
  unfold Sys2Proof.Machine.Bst.start
  repeat' (first
    | with_reducible assumption
    | with_reducible apply Moves.put
    | with_reducible apply Bst_next_moves
    | intro _
    | split)

theorem Bst_unwait_moves {W : Part → Prop} {s₀ s : State} (h0 : W (.fld H.BST_WAITING)) (h : Moves W s₀ s) :
    Moves W s₀ (Sys2Proof.Machine.Bst.unwait s) := by
  unfold Sys2Proof.Machine.Bst.unwait
  repeat' (first
    | with_reducible assumption
    | with_reducible apply Moves.clr
    | intro _
    | split)

theorem Bst_loseEngines_moves {W : Part → Prop} {s₀ s : State} (h0 : W (.fld H.ENG_DMEM)) (h1 : W (.fld H.ENG_IMEM)) (h : Moves W s₀ s) :
    Moves W s₀ (Sys2Proof.Machine.Bst.loseEngines s) := by
  unfold Sys2Proof.Machine.Bst.loseEngines
  repeat' (first
    | with_reducible assumption
    | with_reducible apply Moves.drew
    | with_reducible apply Moves.each
    | with_reducible apply Moves.put
    | intro _
    | (extract_lets +onlyGivenNames x; first
      | (refine Moves.keep (W := W) (s₀ := s₀) x ?_ ?_; rotate_left; intro hx; clear_value x; rotate_right)
      | (refine Moves.keep (W := W) (s₀ := s₀) x.2 ?_ ?_; rotate_left; intro hx; clear_value x; rotate_right)
      | (refine Moves.keep (W := W) (s₀ := s₀) x.1 ?_ ?_; rotate_left; intro hx; clear_value x; rotate_right)
      | skip))

theorem Bst_loseQdr_moves {W : Part → Prop} {s₀ s : State} (h0 : W .qdr) (h : Moves W s₀ s) :
    Moves W s₀ (Sys2Proof.Machine.Bst.loseQdr s) := by
  unfold Sys2Proof.Machine.Bst.loseQdr
  repeat' (first
    | with_reducible assumption
    | with_reducible apply Moves.drew
    | with_reducible apply Moves.each
    | intro _
    | (with_reducible refine Moves.qdr _ _ ?_ ?_ <;> with_reducible first
      | assumption
      | apply Moves.drew
      | apply Moves.each))

theorem Bst_lose_moves {W : Part → Prop} {s₀ s : State} (h0 : W .qdr) (h1 : W (.fld H.ENG_DMEM)) (h2 : W (.fld H.ENG_IMEM)) (a0 : Nat) (h : Moves W s₀ s) :
    Moves W s₀ (Sys2Proof.Machine.Bst.lose a0 s) := by
  unfold Sys2Proof.Machine.Bst.lose
  repeat' (first
    | with_reducible assumption
    | with_reducible apply Bst_loseEngines_moves
    | with_reducible apply Bst_loseQdr_moves
    | intro _
    | split)

theorem Bst_abort_moves {W : Part → Prop} {s₀ s : State} (h0 : W .qdr) (h1 : W (.fld F.BST_INT_CAUSE_DONE)) (h2 : W (.fld F.BST_RESULT_RESULT)) (h3 : W (.fld F.BST_STAT_BUSY)) (h4 : W (.fld F.CAL_DEFERRED_VAL)) (h5 : W (.fld F.CAL_STAT_STATE)) (h6 : W (.fld F.CAL_STAT_TYPE)) (h7 : W (.fld F.HKA_STAT_CAL_HOLD)) (h8 : W (.fld F.HKA_STAT_INJ_PEND)) (h9 : W (.fld F.HKA_STAT_STATE)) (h10 : W (.fld H.BST_TODO)) (h11 : W (.fld H.BST_WAITING)) (h12 : W (.fld H.CAL_AUTO_PEND)) (h13 : W (.fld H.CAL_HOST)) (h14 : W (.fld H.CAL_PASSED)) (h15 : W (.fld H.CAL_T0)) (h16 : W (.fld H.CAL_TEMP0)) (h17 : W (.fld H.ENG_DMEM)) (h18 : W (.fld H.ENG_IMEM)) (h19 : W (.fld H.HKA_CAL_WAIT)) (h20 : W (.fld H.HKA_CUR)) (h21 : W (.fld H.HKA_RUN)) (h22 : W (.fld H.HKA_SEQ_STATE)) (h23 : W (.fld H.HKA_TICKS)) (h : Moves W s₀ s) :
    Moves W s₀ (Sys2Proof.Machine.Bst.abort s) := by
  unfold Sys2Proof.Machine.Bst.abort
  repeat' (first
    | with_reducible assumption
    | with_reducible apply Moves.clr
    | with_reducible apply Moves.put
    | with_reducible apply Bst_lose_moves
    | with_reducible apply Cal_sliceEnded_moves
    | with_reducible apply Bst_finish_moves
    | intro _
    | split
    | (extract_lets +onlyGivenNames x; first
      | (refine Moves.keep (W := W) (s₀ := s₀) x ?_ ?_; rotate_left; intro hx; clear_value x; rotate_right)
      | (refine Moves.keep (W := W) (s₀ := s₀) x.2 ?_ ?_; rotate_left; intro hx; clear_value x; rotate_right)
      | (refine Moves.keep (W := W) (s₀ := s₀) x.1 ?_ ?_; rotate_left; intro hx; clear_value x; rotate_right)
      | skip))

theorem Bst_writeCtrl_moves {W : Part → Prop} {s₀ s : State} (h0 : W .qdr) (h1 : W (.fld F.BST_CTRL_MASK)) (h2 : W (.fld F.BST_CTRL_OVERRIDE)) (h3 : W (.fld F.BST_INT_CAUSE_DONE)) (h4 : W (.fld F.BST_INT_CAUSE_REFUSED)) (h5 : W (.fld F.BST_INT_CAUSE_SAFE)) (h6 : W (.fld F.BST_RESULT_RESULT)) (h7 : W (.fld F.BST_STAT_BUSY)) (h8 : W (.fld F.BST_STAT_CUR)) (h9 : W (.fld F.BST_STAT_SAFE)) (h10 : W (.fld F.CAL_DEFERRED_VAL)) (h11 : W (.fld F.CAL_STAT_STATE)) (h12 : W (.fld F.CAL_STAT_TYPE)) (h13 : W (.fld F.HKA_STAT_CAL_HOLD)) (h14 : W (.fld F.HKA_STAT_INJ_PEND)) (h15 : W (.fld F.HKA_STAT_STATE)) (h16 : W (.fld F.LSR_STAT_HOLD)) (h17 : W (.fld F.LSR_STAT_LASER_EN)) (h18 : W (.fld F.LTX_STAT_MUTE_SRC)) (h19 : W (.fld H.BST_TODO)) (h20 : W (.fld H.BST_WAITING)) (h21 : W (.fld H.CAL_AUTO_PEND)) (h22 : W (.fld H.CAL_HOST)) (h23 : W (.fld H.CAL_PASSED)) (h24 : W (.fld H.CAL_T0)) (h25 : W (.fld H.CAL_TEMP0)) (h26 : W (.fld H.ENG_DMEM)) (h27 : W (.fld H.ENG_IMEM)) (h28 : W (.fld H.HKA_CAL_WAIT)) (h29 : W (.fld H.HKA_CUR)) (h30 : W (.fld H.HKA_RUN)) (h31 : W (.fld H.HKA_SEQ_STATE)) (h32 : W (.fld H.HKA_TICKS)) (h33 : W (.fld H.LTX_OUTPUT)) (a0 : Nat) (h : Moves W s₀ s) :
    Moves W s₀ (Sys2Proof.Machine.Bst.writeCtrl a0 s) := by
  unfold Sys2Proof.Machine.Bst.writeCtrl
  repeat' (first
    | with_reducible assumption
    | with_reducible apply Moves.put
    | with_reducible apply Bst_override_moves
    | with_reducible apply Bst_abort_moves
    | with_reducible apply Bst_start_moves
    | intro _
    | split
    | (extract_lets +onlyGivenNames x; first
      | (refine Moves.keep (W := W) (s₀ := s₀) x ?_ ?_; rotate_left; intro hx; clear_value x; rotate_right)
      | (refine Moves.keep (W := W) (s₀ := s₀) x.2 ?_ ?_; rotate_left; intro hx; clear_value x; rotate_right)
      | (refine Moves.keep (W := W) (s₀ := s₀) x.1 ?_ ?_; rotate_left; intro hx; clear_value x; rotate_right)
      | skip))

theorem Bst_ended_moves {W : Part → Prop} {s₀ s : State} (h0 : W .qdr) (h1 : W (.fld F.BST_INT_CAUSE_DONE)) (h2 : W (.fld F.BST_INT_CAUSE_FAIL)) (h3 : W (.fld F.BST_INT_CAUSE_REFUSED)) (h4 : W (.fld F.BST_INT_CAUSE_SAFE)) (h5 : W (.fld F.BST_RESULT_DETAIL)) (h6 : W (.fld F.BST_RESULT_ELAPSED)) (h7 : W (.fld F.BST_RESULT_RESULT)) (h8 : W (.fld F.BST_STAT_BUSY)) (h9 : W (.fld F.BST_STAT_CUR)) (h10 : W (.fld F.BST_STAT_SAFE)) (h11 : W (.fld F.BST_STAT_SAFE_BY)) (h12 : W (.fld F.CAL_DEFERRED_VAL)) (h13 : W (.fld F.CAL_STAT_STATE)) (h14 : W (.fld F.CAL_STAT_TYPE)) (h15 : W (.fld F.HKA_STAT_CAL_HOLD)) (h16 : W (.fld F.HKA_STAT_INJ_PEND)) (h17 : W (.fld F.HKA_STAT_STATE)) (h18 : W (.fld F.LSR_STAT_HOLD)) (h19 : W (.fld F.LSR_STAT_LASER_EN)) (h20 : W (.fld F.LTX_STAT_MUTE_SRC)) (h21 : W (.fld H.BST_TODO)) (h22 : W (.fld H.BST_WAITING)) (h23 : W (.fld H.CAL_AUTO_PEND)) (h24 : W (.fld H.CAL_HOST)) (h25 : W (.fld H.CAL_PASSED)) (h26 : W (.fld H.CAL_T0)) (h27 : W (.fld H.CAL_TEMP0)) (h28 : W (.fld H.ENG_DMEM)) (h29 : W (.fld H.ENG_IMEM)) (h30 : W (.fld H.HKA_CAL_WAIT)) (h31 : W (.fld H.HKA_CUR)) (h32 : W (.fld H.HKA_RUN)) (h33 : W (.fld H.HKA_SEQ_STATE)) (h34 : W (.fld H.HKA_TICKS)) (h35 : W (.fld H.LTX_OUTPUT)) (a0 : Nat) (a1 : Nat) (a2 : Nat) (h : Moves W s₀ s) :
    Moves W s₀ (Sys2Proof.Machine.Bst.ended a0 a1 a2 s) := by
  unfold Sys2Proof.Machine.Bst.ended
  repeat' (first
    | with_reducible assumption
    | with_reducible apply Moves.clrBit
    | with_reducible apply Moves.put
    | with_reducible apply Moves.set
    | with_reducible apply Moves.setBit
    | with_reducible apply Bst_lose_moves
    | with_reducible apply Bst_refresh_moves
    | with_reducible apply Cal_sliceEnded_moves
    | with_reducible apply Bst_next_moves
    | intro _
    | split
    | (extract_lets +onlyGivenNames x; first
      | (refine Moves.keep (W := W) (s₀ := s₀) x ?_ ?_; rotate_left; intro hx; clear_value x; rotate_right)
      | (refine Moves.keep (W := W) (s₀ := s₀) x.2 ?_ ?_; rotate_left; intro hx; clear_value x; rotate_right)
      | (refine Moves.keep (W := W) (s₀ := s₀) x.1 ?_ ?_; rotate_left; intro hx; clear_value x; rotate_right)
      | skip))

theorem Bst_sliceEnd_moves {W : Part → Prop} {s₀ s : State} (h0 : W .qdr) (h1 : W (.fld F.BST_INT_CAUSE_DONE)) (h2 : W (.fld F.BST_INT_CAUSE_FAIL)) (h3 : W (.fld F.BST_INT_CAUSE_REFUSED)) (h4 : W (.fld F.BST_INT_CAUSE_SAFE)) (h5 : W (.fld F.BST_RESULT_DETAIL)) (h6 : W (.fld F.BST_RESULT_ELAPSED)) (h7 : W (.fld F.BST_RESULT_RESULT)) (h8 : W (.fld F.BST_STAT_BUSY)) (h9 : W (.fld F.BST_STAT_CUR)) (h10 : W (.fld F.BST_STAT_SAFE)) (h11 : W (.fld F.BST_STAT_SAFE_BY)) (h12 : W (.fld F.CAL_DEFERRED_VAL)) (h13 : W (.fld F.CAL_STAT_STATE)) (h14 : W (.fld F.CAL_STAT_TYPE)) (h15 : W (.fld F.HKA_STAT_CAL_HOLD)) (h16 : W (.fld F.HKA_STAT_INJ_PEND)) (h17 : W (.fld F.HKA_STAT_STATE)) (h18 : W (.fld F.LSR_STAT_HOLD)) (h19 : W (.fld F.LSR_STAT_LASER_EN)) (h20 : W (.fld F.LTX_STAT_MUTE_SRC)) (h21 : W (.fld H.BST_TODO)) (h22 : W (.fld H.BST_WAITING)) (h23 : W (.fld H.CAL_AUTO_PEND)) (h24 : W (.fld H.CAL_HOST)) (h25 : W (.fld H.CAL_PASSED)) (h26 : W (.fld H.CAL_T0)) (h27 : W (.fld H.CAL_TEMP0)) (h28 : W (.fld H.ENG_DMEM)) (h29 : W (.fld H.ENG_IMEM)) (h30 : W (.fld H.HKA_CAL_WAIT)) (h31 : W (.fld H.HKA_CUR)) (h32 : W (.fld H.HKA_RUN)) (h33 : W (.fld H.HKA_SEQ_STATE)) (h34 : W (.fld H.HKA_TICKS)) (h35 : W (.fld H.LTX_OUTPUT)) (a0 : Nat) (a1 : Nat) (a2 : Nat) (h : Moves W s₀ s) :
    Moves W s₀ (Sys2Proof.Machine.Bst.sliceEnd a0 a1 a2 s) := by
  unfold Sys2Proof.Machine.Bst.sliceEnd
  repeat' (first
    | with_reducible assumption
    | with_reducible apply Bst_ended_moves
    | intro _
    | split)

theorem Bst_sliceTimeout_moves {W : Part → Prop} {s₀ s : State} (h0 : W .qdr) (h1 : W (.fld F.BST_INT_CAUSE_DONE)) (h2 : W (.fld F.BST_INT_CAUSE_FAIL)) (h3 : W (.fld F.BST_INT_CAUSE_REFUSED)) (h4 : W (.fld F.BST_INT_CAUSE_SAFE)) (h5 : W (.fld F.BST_RESULT_DETAIL)) (h6 : W (.fld F.BST_RESULT_ELAPSED)) (h7 : W (.fld F.BST_RESULT_RESULT)) (h8 : W (.fld F.BST_STAT_BUSY)) (h9 : W (.fld F.BST_STAT_CUR)) (h10 : W (.fld F.BST_STAT_SAFE)) (h11 : W (.fld F.BST_STAT_SAFE_BY)) (h12 : W (.fld F.CAL_DEFERRED_VAL)) (h13 : W (.fld F.CAL_STAT_STATE)) (h14 : W (.fld F.CAL_STAT_TYPE)) (h15 : W (.fld F.HKA_STAT_CAL_HOLD)) (h16 : W (.fld F.HKA_STAT_INJ_PEND)) (h17 : W (.fld F.HKA_STAT_STATE)) (h18 : W (.fld F.LSR_STAT_HOLD)) (h19 : W (.fld F.LSR_STAT_LASER_EN)) (h20 : W (.fld F.LTX_STAT_MUTE_SRC)) (h21 : W (.fld H.BST_TODO)) (h22 : W (.fld H.BST_WAITING)) (h23 : W (.fld H.CAL_AUTO_PEND)) (h24 : W (.fld H.CAL_HOST)) (h25 : W (.fld H.CAL_PASSED)) (h26 : W (.fld H.CAL_T0)) (h27 : W (.fld H.CAL_TEMP0)) (h28 : W (.fld H.ENG_DMEM)) (h29 : W (.fld H.ENG_IMEM)) (h30 : W (.fld H.HKA_CAL_WAIT)) (h31 : W (.fld H.HKA_CUR)) (h32 : W (.fld H.HKA_RUN)) (h33 : W (.fld H.HKA_SEQ_STATE)) (h34 : W (.fld H.HKA_TICKS)) (h35 : W (.fld H.LTX_OUTPUT)) (h : Moves W s₀ s) :
    Moves W s₀ (Sys2Proof.Machine.Bst.sliceTimeout s) := by
  unfold Sys2Proof.Machine.Bst.sliceTimeout
  repeat' (first
    | with_reducible assumption
    | with_reducible apply Bst_ended_moves
    | intro _
    | split)

end Sys2Proof.Laws
end

