-- ==== Sys2Proof/Laws/MovesCry.lean ====
section
/-! SUPPORT. Sys2Proof/Laws/MovesCry.lean: what each operation of Machine/Cry.lean may write (Laws/Moves.lean). -/
namespace Sys2Proof.Laws
open Sys2Proof Sys2Proof.Machine

theorem Cry_eraseVault_moves {W : Part → Prop} {s₀ s : State} (h0 : W (.arr H.CRY_CAND)) (h1 : W (.arr H.CRY_CUR)) (h2 : W (.arr H.CRY_KEY)) (h3 : W (.arr H.CRY_LAST)) (h4 : W (.arr H.CRY_LAST_SEQ)) (h5 : W (.arr H.CRY_NEXT)) (h6 : W (.arr H.CRY_RUN_MASK)) (h7 : W (.arr H.CRY_RUN_PART)) (h8 : W (.arr H.CRY_RUN_SEQ)) (h9 : W (.arr H.CRY_RX_PH)) (h10 : W (.arr H.CRY_SALT)) (h11 : W (.arr H.CRY_SYNC)) (h12 : W (.arr H.CRY_U)) (h13 : W (.arr H.CRY_VALID)) (h14 : W (.arr H.CRY_WIN)) (h15 : W (.fld F.CRY_KEY_DATA_KEY)) (h16 : W (.fld F.CRY_KEY_SALT_SALT)) (h : Moves W s₀ s) :
    Moves W s₀ (Sys2Proof.Machine.Cry.eraseVault s) := by
  unfold Sys2Proof.Machine.Cry.eraseVault
  repeat' (first
    | with_reducible assumption
    | simp only [List.foldl_cons, List.foldl_nil]
    | with_reducible apply Moves.wipe
    | with_reducible apply Mbx_clearKeyData_moves
    | intro _)

theorem Cry_addFlow_moves {W : Part → Prop} {s₀ s : State} (h0 : W (.fld H.CRY_CAND)) (h1 : W (.fld H.CRY_NEXT)) (h2 : W (.fld H.CRY_RUN_MASK)) (h3 : W (.fld H.CRY_SYNC)) (a0 : Nat) (h : Moves W s₀ s) :
    Moves W s₀ (Sys2Proof.Machine.Cry.addFlow a0 s) := by
  unfold Sys2Proof.Machine.Cry.addFlow
  repeat' (first
    | with_reducible assumption
    | with_reducible apply Moves.clr
    | with_reducible apply Moves.put
    | intro _
    | (extract_lets +onlyGivenNames x; first
      | (refine Moves.keep (W := W) (s₀ := s₀) x ?_ ?_; rotate_left; intro hx; clear_value x; rotate_right)
      | (refine Moves.keep (W := W) (s₀ := s₀) x.2 ?_ ?_; rotate_left; intro hx; clear_value x; rotate_right)
      | (refine Moves.keep (W := W) (s₀ := s₀) x.1 ?_ ?_; rotate_left; intro hx; clear_value x; rotate_right)
      | skip))

theorem Cry_encrypt_moves {W : Part → Prop} {s₀ s : State} (h0 : W (.fld F.CRY_CNT_COUNT)) (h1 : W (.fld F.CRY_INT_CAUSE_TX_NOKEY)) (h2 : W (.fld H.CRY_CUR)) (h3 : W (.fld H.CRY_NEXT)) (a0 : Nat) (a1 : Sys2Proof.Machine.Cf) (h : Moves W s₀ s) :
    Moves W s₀ (Sys2Proof.Machine.Cry.encrypt a0 a1 s).2 := by
  unfold Sys2Proof.Machine.Cry.encrypt
  repeat' (first
    | with_reducible assumption
    | with_reducible apply Moves.count
    | with_reducible apply Moves.put
    | with_reducible apply Moves.set
    | intro _
    | split
    | (extract_lets +onlyGivenNames x; first
      | (refine Moves.keep (W := W) (s₀ := s₀) x ?_ ?_; rotate_left; intro hx; clear_value x; rotate_right)
      | (refine Moves.keep (W := W) (s₀ := s₀) x.2 ?_ ?_; rotate_left; intro hx; clear_value x; rotate_right)
      | (refine Moves.keep (W := W) (s₀ := s₀) x.1 ?_ ?_; rotate_left; intro hx; clear_value x; rotate_right)
      | skip))

theorem Cry_nosync_moves {W : Part → Prop} {s₀ s : State} (h0 : W (.fld F.CRY_CNT_COUNT)) (h : Moves W s₀ s) :
    Moves W s₀ (Sys2Proof.Machine.Cry.nosync s) := by
  unfold Sys2Proof.Machine.Cry.nosync
  repeat' (first
    | with_reducible assumption
    | with_reducible apply Moves.count
    | intro _)

theorem Cry_failed_moves {W : Part → Prop} {s₀ s : State} (h0 : W (.fld F.CRY_CNT_COUNT)) (h1 : W (.fld F.CRY_INT_CAUSE_KEY_MISS)) (h2 : W (.fld F.CRY_INT_CAUSE_TAG_FAIL)) (a0 : Option Bool) (h : Moves W s₀ s) :
    Moves W s₀ (Sys2Proof.Machine.Cry.failed a0 s) := by
  unfold Sys2Proof.Machine.Cry.failed
  repeat' (first
    | with_reducible assumption
    | with_reducible apply Moves.count
    | with_reducible apply Moves.set
    | intro _
    | split)

theorem Cry_accept_moves {W : Part → Prop} {s₀ s : State} (h0 : W (.fld H.CRY_LAST)) (h1 : W (.fld H.CRY_LAST_SEQ)) (h2 : W (.fld H.CRY_RX_PH)) (h3 : W (.fld H.CRY_U)) (h4 : W (.fld H.CRY_WIN)) (a0 : Nat) (a1 : Nat) (a2 : Sys2Proof.Machine.Cf) (h : Moves W s₀ s) :
    Moves W s₀ (Sys2Proof.Machine.Cry.accept a0 a1 a2 s) := by
  unfold Sys2Proof.Machine.Cry.accept
  repeat' (first
    | with_reducible assumption
    | with_reducible apply Moves.put
    | intro _
    | split
    | (extract_lets +onlyGivenNames x; first
      | (refine Moves.keep (W := W) (s₀ := s₀) x ?_ ?_; rotate_left; intro hx; clear_value x; rotate_right)
      | (refine Moves.keep (W := W) (s₀ := s₀) x.2 ?_ ?_; rotate_left; intro hx; clear_value x; rotate_right)
      | (refine Moves.keep (W := W) (s₀ := s₀) x.1 ?_ ?_; rotate_left; intro hx; clear_value x; rotate_right)
      | skip))

theorem Cry_startRun_moves {W : Part → Prop} {s₀ s : State} (h0 : W (.fld H.CRY_CAND)) (h1 : W (.fld H.CRY_RUN_MASK)) (h2 : W (.fld H.CRY_RUN_PART)) (h3 : W (.fld H.CRY_RUN_SEQ)) (a0 : Nat) (a1 : Sys2Proof.Machine.Cf) (h : Moves W s₀ s) :
    Moves W s₀ (Sys2Proof.Machine.Cry.startRun a0 a1 s) := by
  unfold Sys2Proof.Machine.Cry.startRun
  repeat' (first
    | with_reducible assumption
    | with_reducible apply Moves.clr
    | with_reducible apply Moves.put
    | intro _
    | (extract_lets +onlyGivenNames x; first
      | (refine Moves.keep (W := W) (s₀ := s₀) x ?_ ?_; rotate_left; intro hx; clear_value x; rotate_right)
      | (refine Moves.keep (W := W) (s₀ := s₀) x.2 ?_ ?_; rotate_left; intro hx; clear_value x; rotate_right)
      | (refine Moves.keep (W := W) (s₀ := s₀) x.1 ?_ ?_; rotate_left; intro hx; clear_value x; rotate_right)
      | skip))

theorem Cry_extendRun_moves {W : Part → Prop} {s₀ s : State} (h0 : W (.fld H.CRY_CAND)) (h1 : W (.fld H.CRY_RUN_MASK)) (h2 : W (.fld H.CRY_RUN_PART)) (h3 : W (.fld H.CRY_RUN_SEQ)) (a0 : Nat) (a1 : Sys2Proof.Machine.Cf) (h : Moves W s₀ s) :
    Moves W s₀ (Sys2Proof.Machine.Cry.extendRun a0 a1 s) := by
  unfold Sys2Proof.Machine.Cry.extendRun
  repeat' (first
    | with_reducible assumption
    | with_reducible apply Moves.put
    | with_reducible apply Moves.setBit
    | with_reducible apply Cry_startRun_moves
    | intro _
    | split
    | (extract_lets +onlyGivenNames x; first
      | (refine Moves.keep (W := W) (s₀ := s₀) x ?_ ?_; rotate_left; intro hx; clear_value x; rotate_right)
      | (refine Moves.keep (W := W) (s₀ := s₀) x.2 ?_ ?_; rotate_left; intro hx; clear_value x; rotate_right)
      | (refine Moves.keep (W := W) (s₀ := s₀) x.1 ?_ ?_; rotate_left; intro hx; clear_value x; rotate_right)
      | skip))

theorem Cry_tryCandidate_moves {W : Part → Prop} {s₀ s : State} (h0 : W (.fld F.CRY_CNT_COUNT)) (h1 : W (.fld F.CRY_INT_CAUSE_KEY_MISS)) (h2 : W (.fld F.CRY_INT_CAUSE_RESYNC)) (h3 : W (.fld F.CRY_INT_CAUSE_TAG_FAIL)) (h4 : W (.fld H.CRY_CAND)) (h5 : W (.fld H.CRY_LAST)) (h6 : W (.fld H.CRY_LAST_SEQ)) (h7 : W (.fld H.CRY_RUN_MASK)) (h8 : W (.fld H.CRY_RX_PH)) (h9 : W (.fld H.CRY_SYNC)) (h10 : W (.fld H.CRY_U)) (h11 : W (.fld H.CRY_WIN)) (a0 : Nat) (a1 : Nat) (a2 : Sys2Proof.Machine.Cf) (h : Moves W s₀ s) :
    Moves W s₀ (Sys2Proof.Machine.Cry.tryCandidate a0 a1 a2 s).2 := by
  unfold Sys2Proof.Machine.Cry.tryCandidate
  repeat' (first
    | with_reducible assumption
    | with_reducible apply Moves.clr
    | with_reducible apply Moves.count
    | with_reducible apply Moves.put
    | with_reducible apply Moves.set
    | with_reducible apply Cry_accept_moves
    | with_reducible apply Cry_nosync_moves
    | with_reducible apply Cry_failed_moves
    | intro _
    | split
    | (extract_lets +onlyGivenNames x; first
      | (refine Moves.keep (W := W) (s₀ := s₀) x ?_ ?_; rotate_left; intro hx; clear_value x; rotate_right)
      | (refine Moves.keep (W := W) (s₀ := s₀) x.2 ?_ ?_; rotate_left; intro hx; clear_value x; rotate_right)
      | (refine Moves.keep (W := W) (s₀ := s₀) x.1 ?_ ?_; rotate_left; intro hx; clear_value x; rotate_right)
      | skip))

theorem Cry_collect_moves {W : Part → Prop} {s₀ s : State} (h0 : W (.fld F.CRY_CNT_COUNT)) (h1 : W (.fld F.CRY_INT_CAUSE_KEY_MISS)) (h2 : W (.fld F.CRY_INT_CAUSE_RESYNC)) (h3 : W (.fld F.CRY_INT_CAUSE_TAG_FAIL)) (h4 : W (.fld H.CRY_CAND)) (h5 : W (.fld H.CRY_LAST)) (h6 : W (.fld H.CRY_LAST_SEQ)) (h7 : W (.fld H.CRY_RUN_MASK)) (h8 : W (.fld H.CRY_RUN_PART)) (h9 : W (.fld H.CRY_RUN_SEQ)) (h10 : W (.fld H.CRY_RX_PH)) (h11 : W (.fld H.CRY_SYNC)) (h12 : W (.fld H.CRY_U)) (h13 : W (.fld H.CRY_WIN)) (a0 : Nat) (a1 : Sys2Proof.Machine.Cf) (h : Moves W s₀ s) :
    Moves W s₀ (Sys2Proof.Machine.Cry.collect a0 a1 s).2 := by
  unfold Sys2Proof.Machine.Cry.collect
  repeat' (first
    | with_reducible assumption
    | with_reducible apply Moves.put
    | with_reducible apply Moves.set
    | with_reducible apply Cry_tryCandidate_moves
    | with_reducible apply Cry_extendRun_moves
    | with_reducible apply Cry_nosync_moves
    | intro _
    | split
    | (extract_lets +onlyGivenNames x; first
      | (refine Moves.keep (W := W) (s₀ := s₀) x ?_ ?_; rotate_left; intro hx; clear_value x; rotate_right)
      | (refine Moves.keep (W := W) (s₀ := s₀) x.2 ?_ ?_; rotate_left; intro hx; clear_value x; rotate_right)
      | (refine Moves.keep (W := W) (s₀ := s₀) x.1 ?_ ?_; rotate_left; intro hx; clear_value x; rotate_right)
      | skip))

theorem Cry_decrypt_moves {W : Part → Prop} {s₀ s : State} (h0 : W (.fld F.CRY_CNT_COUNT)) (h1 : W (.fld F.CRY_INT_CAUSE_KEY_MISS)) (h2 : W (.fld F.CRY_INT_CAUSE_REPLAY)) (h3 : W (.fld F.CRY_INT_CAUSE_RESYNC)) (h4 : W (.fld F.CRY_INT_CAUSE_TAG_FAIL)) (h5 : W (.fld H.CRY_CAND)) (h6 : W (.fld H.CRY_LAST)) (h7 : W (.fld H.CRY_LAST_SEQ)) (h8 : W (.fld H.CRY_RUN_MASK)) (h9 : W (.fld H.CRY_RUN_PART)) (h10 : W (.fld H.CRY_RUN_SEQ)) (h11 : W (.fld H.CRY_RX_PH)) (h12 : W (.fld H.CRY_SYNC)) (h13 : W (.fld H.CRY_U)) (h14 : W (.fld H.CRY_WIN)) (a0 : Nat) (a1 : Sys2Proof.Machine.Cf) (h : Moves W s₀ s) :
    Moves W s₀ (Sys2Proof.Machine.Cry.decrypt a0 a1 s).2 := by
  unfold Sys2Proof.Machine.Cry.decrypt
  repeat' (first
    | with_reducible assumption
    | with_reducible apply Moves.clr
    | with_reducible apply Moves.count
    | with_reducible apply Moves.put
    | with_reducible apply Moves.set
    | with_reducible apply Cry_collect_moves
    | with_reducible apply Cry_startRun_moves
    | with_reducible apply Cry_nosync_moves
    | with_reducible apply Cry_accept_moves
    | with_reducible apply Cry_failed_moves
    | intro _
    | split
    | (extract_lets +onlyGivenNames x; first
      | (refine Moves.keep (W := W) (s₀ := s₀) x ?_ ?_; rotate_left; intro hx; clear_value x; rotate_right)
      | (refine Moves.keep (W := W) (s₀ := s₀) x.2 ?_ ?_; rotate_left; intro hx; clear_value x; rotate_right)
      | (refine Moves.keep (W := W) (s₀ := s₀) x.1 ?_ ?_; rotate_left; intro hx; clear_value x; rotate_right)
      | skip))

theorem Cry_command_moves {W : Part → Prop} {s₀ s : State} (h0 : W (.fld F.CRY_INT_CAUSE_CMD_ERR)) (h1 : W (.fld F.CRY_INT_CAUSE_NOT_OWNER)) (h2 : W (.fld F.CRY_KEY_CMD_CTX)) (h3 : W (.fld F.CRY_KEY_CMD_GO)) (h4 : W (.fld F.CRY_KEY_CMD_OP)) (h5 : W (.fld F.CRY_KEY_CMD_PHASE)) (h6 : W (.fld F.CRY_KEY_DATA_KEY)) (h7 : W (.fld F.CRY_KEY_SALT_SALT)) (h8 : W (.fld F.CRY_KEY_STAT_BUSY)) (h9 : W (.fld F.CRY_KEY_STAT_ERR_CODE)) (h10 : W (.fld H.CRY_RESULT)) (a0 : Sys2Proof.Machine.Pmc.Who) (a1 : Nat) (a2 : Nat) (a3 : Nat) (a4 : Sys2Proof.Machine.State → Nat × Sys2Proof.Machine.State) (hf4 : ∀ b0, Moves W s₀ b0 → Moves W s₀ (a4 b0).2) (h : Moves W s₀ s) :
    Moves W s₀ (Sys2Proof.Machine.Cry.command a0 a1 a2 a3 a4 s) := by
  unfold Sys2Proof.Machine.Cry.command
  repeat' (first
    | with_reducible assumption
    | with_reducible apply Moves.put
    | with_reducible apply Moves.set
    | with_reducible apply Mbx_clearKeyData_moves
    | with_reducible apply hf4
    | intro _
    | split
    | (extract_lets +onlyGivenNames x; first
      | (refine Moves.keep (W := W) (s₀ := s₀) x ?_ ?_; rotate_left; intro hx; clear_value x; rotate_right)
      | (refine Moves.keep (W := W) (s₀ := s₀) x.2 ?_ ?_; rotate_left; intro hx; clear_value x; rotate_right)
      | (refine Moves.keep (W := W) (s₀ := s₀) x.1 ?_ ?_; rotate_left; intro hx; clear_value x; rotate_right)
      | skip))

theorem Cry_load_moves {W : Part → Prop} {s₀ s : State} (h0 : W (.fld H.CRY_KEY)) (h1 : W (.fld H.CRY_SALT)) (h2 : W (.fld H.CRY_VALID)) (a0 : Nat) (a1 : Nat) (h : Moves W s₀ s) :
    Moves W s₀ (Sys2Proof.Machine.Cry.load a0 a1 s).2 := by
  unfold Sys2Proof.Machine.Cry.load
  repeat' (first
    | with_reducible assumption
    | with_reducible apply Moves.each
    | with_reducible apply Moves.put
    | with_reducible apply Moves.set
    | intro _
    | split
    | (extract_lets +onlyGivenNames x; first
      | (refine Moves.keep (W := W) (s₀ := s₀) x ?_ ?_; rotate_left; intro hx; clear_value x; rotate_right)
      | (refine Moves.keep (W := W) (s₀ := s₀) x.2 ?_ ?_; rotate_left; intro hx; clear_value x; rotate_right)
      | (refine Moves.keep (W := W) (s₀ := s₀) x.1 ?_ ?_; rotate_left; intro hx; clear_value x; rotate_right)
      | skip))

theorem Cry_roll_moves {W : Part → Prop} {s₀ s : State} (h0 : W (.fld H.CRY_ROLL)) (a0 : Nat) (a1 : Nat) (h : Moves W s₀ s) :
    Moves W s₀ (Sys2Proof.Machine.Cry.roll a0 a1 s).2 := by
  unfold Sys2Proof.Machine.Cry.roll
  repeat' (first
    | with_reducible assumption
    | with_reducible apply Moves.put
    | intro _
    | split)

theorem Cry_rolled_moves {W : Part → Prop} {s₀ s : State} (h0 : W (.fld H.CRY_TX_PH)) (h : Moves W s₀ s) :
    Moves W s₀ (Sys2Proof.Machine.Cry.rolled s) := by
  unfold Sys2Proof.Machine.Cry.rolled
  repeat' (first
    | with_reducible assumption
    | with_reducible apply Moves.emit
    | with_reducible apply Moves.put
    | intro _
    | split
    | (extract_lets +onlyGivenNames x; first
      | (refine Moves.keep (W := W) (s₀ := s₀) x ?_ ?_; rotate_left; intro hx; clear_value x; rotate_right)
      | (refine Moves.keep (W := W) (s₀ := s₀) x.2 ?_ ?_; rotate_left; intro hx; clear_value x; rotate_right)
      | (refine Moves.keep (W := W) (s₀ := s₀) x.1 ?_ ?_; rotate_left; intro hx; clear_value x; rotate_right)
      | skip))

theorem Cry_empty_moves {W : Part → Prop} {s₀ s : State} (h0 : W (.fld H.CRY_KEY)) (h1 : W (.fld H.CRY_SALT)) (h2 : W (.fld H.CRY_VALID)) (a0 : Nat) (a1 : Nat) (h : Moves W s₀ s) :
    Moves W s₀ (Sys2Proof.Machine.Cry.empty a0 a1 s) := by
  unfold Sys2Proof.Machine.Cry.empty
  repeat' (first
    | with_reducible assumption
    | with_reducible apply Moves.clr
    | with_reducible apply Moves.each
    | intro _)

theorem Cry_clear_moves {W : Part → Prop} {s₀ s : State} (h0 : W (.fld H.CRY_KEY)) (h1 : W (.fld H.CRY_SALT)) (h2 : W (.fld H.CRY_VALID)) (a0 : Nat) (a1 : Nat) (h : Moves W s₀ s) :
    Moves W s₀ (Sys2Proof.Machine.Cry.clear a0 a1 s).2 := by
  unfold Sys2Proof.Machine.Cry.clear
  repeat' (first
    | with_reducible assumption
    | with_reducible apply Cry_empty_moves
    | intro _
    | split)

theorem Cry_clearCtx_moves {W : Part → Prop} {s₀ s : State} (h0 : W (.fld H.CRY_CAND)) (h1 : W (.fld H.CRY_CUR)) (h2 : W (.fld H.CRY_KEY)) (h3 : W (.fld H.CRY_LAST)) (h4 : W (.fld H.CRY_LAST_SEQ)) (h5 : W (.fld H.CRY_NEXT)) (h6 : W (.fld H.CRY_RUN_MASK)) (h7 : W (.fld H.CRY_RUN_PART)) (h8 : W (.fld H.CRY_RUN_SEQ)) (h9 : W (.fld H.CRY_RX_PH)) (h10 : W (.fld H.CRY_SALT)) (h11 : W (.fld H.CRY_SYNC)) (h12 : W (.fld H.CRY_U)) (h13 : W (.fld H.CRY_VALID)) (h14 : W (.fld H.CRY_WIN)) (a0 : Nat) (h : Moves W s₀ s) :
    Moves W s₀ (Sys2Proof.Machine.Cry.clearCtx a0 s).2 := by
  unfold Sys2Proof.Machine.Cry.clearCtx
  repeat' (first
    | with_reducible assumption
    | with_reducible apply Moves.clr
    | with_reducible apply Moves.each
    | with_reducible apply Moves.put
    | with_reducible apply Cry_empty_moves
    | intro _
    | split
    | (extract_lets +onlyGivenNames x; first
      | (refine Moves.keep (W := W) (s₀ := s₀) x ?_ ?_; rotate_left; intro hx; clear_value x; rotate_right)
      | (refine Moves.keep (W := W) (s₀ := s₀) x.2 ?_ ?_; rotate_left; intro hx; clear_value x; rotate_right)
      | (refine Moves.keep (W := W) (s₀ := s₀) x.1 ?_ ?_; rotate_left; intro hx; clear_value x; rotate_right)
      | skip))

theorem Cry_keyCmd_moves {W : Part → Prop} {s₀ s : State} (h0 : W (.fld F.CRY_INT_CAUSE_CMD_ERR)) (h1 : W (.fld F.CRY_INT_CAUSE_NOT_OWNER)) (h2 : W (.fld F.CRY_KEY_CMD_CTX)) (h3 : W (.fld F.CRY_KEY_CMD_GO)) (h4 : W (.fld F.CRY_KEY_CMD_OP)) (h5 : W (.fld F.CRY_KEY_CMD_PHASE)) (h6 : W (.fld F.CRY_KEY_DATA_KEY)) (h7 : W (.fld F.CRY_KEY_SALT_SALT)) (h8 : W (.fld F.CRY_KEY_STAT_BUSY)) (h9 : W (.fld F.CRY_KEY_STAT_ERR_CODE)) (h10 : W (.fld H.CRY_CAND)) (h11 : W (.fld H.CRY_CUR)) (h12 : W (.fld H.CRY_KEY)) (h13 : W (.fld H.CRY_LAST)) (h14 : W (.fld H.CRY_LAST_SEQ)) (h15 : W (.fld H.CRY_NEXT)) (h16 : W (.fld H.CRY_RESULT)) (h17 : W (.fld H.CRY_ROLL)) (h18 : W (.fld H.CRY_RUN_MASK)) (h19 : W (.fld H.CRY_RUN_PART)) (h20 : W (.fld H.CRY_RUN_SEQ)) (h21 : W (.fld H.CRY_RX_PH)) (h22 : W (.fld H.CRY_SALT)) (h23 : W (.fld H.CRY_SYNC)) (h24 : W (.fld H.CRY_U)) (h25 : W (.fld H.CRY_VALID)) (h26 : W (.fld H.CRY_WIN)) (a0 : Sys2Proof.Machine.Pmc.Who) (a1 : Nat) (a2 : Nat) (a3 : Nat) (h : Moves W s₀ s) :
    Moves W s₀ (Sys2Proof.Machine.Cry.keyCmd a0 a1 a2 a3 s) := by
  unfold Sys2Proof.Machine.Cry.keyCmd
  repeat' (first
    | with_reducible assumption
    | with_reducible apply Cry_command_moves
    | with_reducible apply Cry_load_moves
    | with_reducible apply Cry_roll_moves
    | with_reducible apply Cry_clear_moves
    | with_reducible apply Cry_clearCtx_moves
    | intro _
    | split
    | (have hx := congrArg Prod.snd ‹_ = (_, _)›; dsimp only at hx; subst hx))

theorem Cry_complete_moves {W : Part → Prop} {s₀ s : State} (h0 : W (.fld F.CRY_INT_CAUSE_CMD_DONE)) (h1 : W (.fld F.CRY_INT_CAUSE_CMD_ERR)) (h2 : W (.fld F.CRY_KEY_CMD_GO)) (h3 : W (.fld F.CRY_KEY_DATA_KEY)) (h4 : W (.fld F.CRY_KEY_SALT_SALT)) (h5 : W (.fld F.CRY_KEY_STAT_BUSY)) (h6 : W (.fld F.CRY_KEY_STAT_ERR_CODE)) (h7 : W (.fld H.CRY_RESULT)) (h8 : W (.fld H.CRY_ROLL)) (h9 : W (.fld H.CRY_TX_PH)) (h : Moves W s₀ s) :
    Moves W s₀ (Sys2Proof.Machine.Cry.complete s) := by
  unfold Sys2Proof.Machine.Cry.complete
  repeat' (first
    | with_reducible assumption
    | with_reducible apply Moves.clr
    | with_reducible apply Moves.put
    | with_reducible apply Moves.set
    | with_reducible apply Cry_rolled_moves
    | with_reducible apply Mbx_clearKeyData_moves
    | intro _
    | split
    | (extract_lets +onlyGivenNames x; first
      | (refine Moves.keep (W := W) (s₀ := s₀) x ?_ ?_; rotate_left; intro hx; clear_value x; rotate_right)
      | (refine Moves.keep (W := W) (s₀ := s₀) x.2 ?_ ?_; rotate_left; intro hx; clear_value x; rotate_right)
      | (refine Moves.keep (W := W) (s₀ := s₀) x.1 ?_ ?_; rotate_left; intro hx; clear_value x; rotate_right)
      | skip))

theorem Cry_writeKeyCmd_moves {W : Part → Prop} {s₀ s : State} (h0 : W (.fld F.CRY_INT_CAUSE_CMD_ERR)) (h1 : W (.fld F.CRY_INT_CAUSE_NOT_OWNER)) (h2 : W (.fld F.CRY_KEY_CMD_CTX)) (h3 : W (.fld F.CRY_KEY_CMD_GO)) (h4 : W (.fld F.CRY_KEY_CMD_OP)) (h5 : W (.fld F.CRY_KEY_CMD_PHASE)) (h6 : W (.fld F.CRY_KEY_DATA_KEY)) (h7 : W (.fld F.CRY_KEY_SALT_SALT)) (h8 : W (.fld F.CRY_KEY_STAT_BUSY)) (h9 : W (.fld F.CRY_KEY_STAT_ERR_CODE)) (h10 : W (.fld H.CRY_CAND)) (h11 : W (.fld H.CRY_CUR)) (h12 : W (.fld H.CRY_KEY)) (h13 : W (.fld H.CRY_LAST)) (h14 : W (.fld H.CRY_LAST_SEQ)) (h15 : W (.fld H.CRY_NEXT)) (h16 : W (.fld H.CRY_RESULT)) (h17 : W (.fld H.CRY_ROLL)) (h18 : W (.fld H.CRY_RUN_MASK)) (h19 : W (.fld H.CRY_RUN_PART)) (h20 : W (.fld H.CRY_RUN_SEQ)) (h21 : W (.fld H.CRY_RX_PH)) (h22 : W (.fld H.CRY_SALT)) (h23 : W (.fld H.CRY_SYNC)) (h24 : W (.fld H.CRY_U)) (h25 : W (.fld H.CRY_VALID)) (h26 : W (.fld H.CRY_WIN)) (a0 : Sys2Proof.Machine.Pmc.Who) (a1 : Nat) (h : Moves W s₀ s) :
    Moves W s₀ (Sys2Proof.Machine.Cry.writeKeyCmd a0 a1 s) := by
  unfold Sys2Proof.Machine.Cry.writeKeyCmd
  repeat' (first
    | with_reducible assumption
    | with_reducible apply Moves.put
    | with_reducible apply Moves.set
    | with_reducible apply Cry_keyCmd_moves
    | intro _
    | split)

theorem Cry_writeKeyWord_moves {W : Part → Prop} {s₀ s : State} (h0 : W (.fld F.CRY_INT_CAUSE_NOT_OWNER)) (a0 : Sys2Proof.Machine.Pmc.Who) (a1 : Sys2Proof.Machine.Field) (a2 : Nat) (a3 : Nat) (hg1 : W (.fld a1)) (h : Moves W s₀ s) :
    Moves W s₀ (Sys2Proof.Machine.Cry.writeKeyWord a0 a1 a2 a3 s) := by
  unfold Sys2Proof.Machine.Cry.writeKeyWord
  repeat' (first
    | with_reducible assumption
    | with_reducible apply Moves.put
    | with_reducible apply Moves.set
    | intro _
    | split)

theorem Cry_erasure_moves {W : Part → Prop} {s₀ s : State} (h0 : W .qdr) (h1 : W (.arr H.CRY_CAND)) (h2 : W (.arr H.CRY_CUR)) (h3 : W (.arr H.CRY_KEY)) (h4 : W (.arr H.CRY_LAST)) (h5 : W (.arr H.CRY_LAST_SEQ)) (h6 : W (.arr H.CRY_NEXT)) (h7 : W (.arr H.CRY_RUN_MASK)) (h8 : W (.arr H.CRY_RUN_PART)) (h9 : W (.arr H.CRY_RUN_SEQ)) (h10 : W (.arr H.CRY_RX_PH)) (h11 : W (.arr H.CRY_SALT)) (h12 : W (.arr H.CRY_SYNC)) (h13 : W (.arr H.CRY_U)) (h14 : W (.arr H.CRY_VALID)) (h15 : W (.arr H.CRY_WIN)) (h16 : W (.fld F.CRY_ERASE_STAT_ALARM_NOW)) (h17 : W (.fld F.CRY_ERASE_STAT_CAUSE)) (h18 : W (.fld F.CRY_ERASE_STAT_COUNT)) (h19 : W (.fld F.CRY_INT_CAUSE_ERASED)) (h20 : W (.fld F.CRY_KEY_DATA_KEY)) (h21 : W (.fld F.CRY_KEY_SALT_SALT)) (h22 : W (.fld F.CRY_LOCK_STAT_LOCK_BROKEN)) (h23 : W (.fld F.CRY_LOCK_STAT_OWNER)) (h24 : W (.fld F.PMC_INT_CAUSE_OVF)) (h25 : W (.fld F.PMC_INT_CAUSE_SMP_AVAIL)) (h26 : W (.fld F.PMC_INT_CAUSE_SMP_DROP)) (h27 : W (.fld F.PMC_OVF_STAT_OVF)) (h28 : W (.fld F.PMC_SMP_DROP_RING)) (h29 : W (.fld F.PMC_SMP_STAT_COUNT)) (h30 : W (.fld H.CRY_RESULT)) (h31 : W (.fld H.PMC_CNT)) (h32 : W (.fld H.PMC_OVF_DUE)) (h33 : W (.fld H.PMC_OVF_T)) (h34 : W (.fld H.PMC_RING)) (h35 : W (.fld H.PMC_TRACE_POS)) (a0 : Nat) (a1 : Bool) (h : Moves W s₀ s) :
    Moves W s₀ (Sys2Proof.Machine.Cry.erasure a0 a1 s) := by
  unfold Sys2Proof.Machine.Cry.erasure
  repeat' (first
    | with_reducible assumption
    | with_reducible apply Moves.clr
    | with_reducible apply Moves.count
    | with_reducible apply Moves.put
    | with_reducible apply Moves.set
    | with_reducible apply Moves.setBit
    | with_reducible apply Cry_eraseVault_moves
    | with_reducible apply Mbx_cryBreak_moves
    | intro _
    | split
    | (extract_lets +onlyGivenNames x; first
      | (refine Moves.keep (W := W) (s₀ := s₀) x ?_ ?_; rotate_left; intro hx; clear_value x; rotate_right)
      | (refine Moves.keep (W := W) (s₀ := s₀) x.2 ?_ ?_; rotate_left; intro hx; clear_value x; rotate_right)
      | (refine Moves.keep (W := W) (s₀ := s₀) x.1 ?_ ?_; rotate_left; intro hx; clear_value x; rotate_right)
      | skip))

theorem Cry_guardJump_moves {W : Part → Prop} {s₀ s : State} (h0 : W (.fld F.CRY_INT_CAUSE_GUARD_JUMP)) (h1 : W (.fld H.CRY_NEXT)) (h : Moves W s₀ s) :
    Moves W s₀ (Sys2Proof.Machine.Cry.guardJump s) := by
  unfold Sys2Proof.Machine.Cry.guardJump
  repeat' (first
    | with_reducible assumption
    | with_reducible apply Moves.each
    | with_reducible apply Moves.put
    | with_reducible apply Moves.set
    | intro _)

theorem Cry_counterMirror_moves {W : Part → Prop} {s₀ s : State} (h : Moves W s₀ s) :
    Moves W s₀ (Sys2Proof.Machine.Cry.counterMirror s) := by
  unfold Sys2Proof.Machine.Cry.counterMirror
  repeat' (first
    | with_reducible assumption
    | with_reducible apply Moves.each
    | with_reducible apply Moves.emit
    | intro _
    | split)

theorem Cry_applyMirror_moves {W : Part → Prop} {s₀ s : State} (h0 : W (.fld H.CRY_LAST)) (h1 : W (.fld H.CRY_LAST_SEQ)) (h2 : W (.fld H.CRY_NEXT)) (h3 : W (.fld H.CRY_RX_PH)) (h4 : W (.fld H.CRY_SYNC)) (h5 : W (.fld H.CRY_U)) (h6 : W (.fld H.CRY_WIN)) (a0 : List Nat) (h : Moves W s₀ s) :
    Moves W s₀ (Sys2Proof.Machine.Cry.applyMirror a0 s) := by
  unfold Sys2Proof.Machine.Cry.applyMirror
  repeat' (first
    | with_reducible assumption
    | with_reducible apply Moves.put
    | intro _
    | split)

theorem Cry_snapshot_moves {W : Part → Prop} {s₀ s : State} (h0 : W (.fld H.CRY_SNAP)) (h1 : W (.fld H.CRY_SNAP_VALID)) (a0 : Nat) (h : Moves W s₀ s) :
    Moves W s₀ (Sys2Proof.Machine.Cry.snapshot a0 s).2 := by
  unfold Sys2Proof.Machine.Cry.snapshot
  repeat' (first
    | with_reducible assumption
    | with_reducible apply Moves.each
    | with_reducible apply Moves.put
    | with_reducible apply Moves.set
    | intro _
    | (extract_lets +onlyGivenNames x; first
      | (refine Moves.keep (W := W) (s₀ := s₀) x ?_ ?_; rotate_left; intro hx; clear_value x; rotate_right)
      | (refine Moves.keep (W := W) (s₀ := s₀) x.2 ?_ ?_; rotate_left; intro hx; clear_value x; rotate_right)
      | (refine Moves.keep (W := W) (s₀ := s₀) x.1 ?_ ?_; rotate_left; intro hx; clear_value x; rotate_right)
      | skip))

end Sys2Proof.Laws
end

