-- ==== Sys2Proof/Laws/MovesEng.lean ====
section
/-! SUPPORT. Sys2Proof/Laws/MovesEng.lean: what each operation of Machine/Eng.lean may write (Laws/Moves.lean). -/
namespace Sys2Proof.Laws
open Sys2Proof Sys2Proof.Machine

theorem Eng_setReg_moves {W : Part → Prop} {s₀ s : State} (h0 : W (.fld F.ENG_GREG_VAL)) (a0 : Nat) (a1 : Nat) (a2 : Nat) (a3 : Nat) (h : Moves W s₀ s) :
    Moves W s₀ (Sys2Proof.Machine.Eng.setReg a0 a1 a2 a3 s) := by
  unfold Sys2Proof.Machine.Eng.setReg
  repeat' (first
    | with_reducible assumption
    | with_reducible apply Moves.put
    | intro _
    | split)

theorem Eng_event_moves {W : Part → Prop} {s₀ s : State} (h0 : W .qdr) (h1 : W (.fld F.PMC_INT_CAUSE_OVF)) (h2 : W (.fld F.PMC_INT_CAUSE_SMP_AVAIL)) (h3 : W (.fld F.PMC_INT_CAUSE_SMP_DROP)) (h4 : W (.fld F.PMC_OVF_STAT_OVF)) (h5 : W (.fld F.PMC_SMP_DROP_RING)) (h6 : W (.fld F.PMC_SMP_STAT_COUNT)) (h7 : W (.fld H.PMC_CNT)) (h8 : W (.fld H.PMC_OVF_DUE)) (h9 : W (.fld H.PMC_OVF_SKID)) (h10 : W (.fld H.PMC_OVF_T)) (h11 : W (.fld H.PMC_OVF_THR)) (h12 : W (.fld H.PMC_RING)) (h13 : W (.fld H.PMC_TRACE_POS)) (a0 : Nat) (a1 : Nat) (a2 : Nat) (h : Moves W s₀ s) :
    Moves W s₀ (Sys2Proof.Machine.Eng.event a0 a1 a2 s) := by
  unfold Sys2Proof.Machine.Eng.event
  repeat' (first
    | with_reducible assumption
    | with_reducible apply Pmc_caused_moves
    | with_reducible apply Pmc_event_moves
    | intro _)

theorem Eng_refreshStat_moves {W : Part → Prop} {s₀ s : State} (h0 : W (.fld F.ENG_STAT_FAULTED)) (h1 : W (.fld F.ENG_STAT_RUNNING)) (a0 : Nat) (h : Moves W s₀ s) :
    Moves W s₀ (Sys2Proof.Machine.Eng.refreshStat a0 s) := by
  unfold Sys2Proof.Machine.Eng.refreshStat
  repeat' (first
    | with_reducible assumption
    | with_reducible apply Moves.put
    | intro _
    | split
    | (extract_lets +onlyGivenNames x; first
      | (refine Moves.keep (W := W) (s₀ := s₀) x ?_ ?_; rotate_left; intro hx; clear_value x; rotate_right)
      | (refine Moves.keep (W := W) (s₀ := s₀) x.2 ?_ ?_; rotate_left; intro hx; clear_value x; rotate_right)
      | (refine Moves.keep (W := W) (s₀ := s₀) x.1 ?_ ?_; rotate_left; intro hx; clear_value x; rotate_right)
      | skip))

theorem Eng_enter_moves {W : Part → Prop} {s₀ s : State} (h0 : W (.fld F.ENG_STAT_FAULTED)) (h1 : W (.fld F.ENG_STAT_RUNNING)) (h2 : W (.fld F.ENG_THR_STAT_STATE)) (a0 : Nat) (a1 : Nat) (a2 : Nat) (h : Moves W s₀ s) :
    Moves W s₀ (Sys2Proof.Machine.Eng.enter a0 a1 a2 s) := by
  unfold Sys2Proof.Machine.Eng.enter
  repeat' (first
    | with_reducible assumption
    | with_reducible apply Moves.put
    | with_reducible apply Eng_refreshStat_moves
    | intro _)

theorem Eng_fault_moves {W : Part → Prop} {s₀ s : State} (h0 : W .qdr) (h1 : W (.fld F.ENG_INT_CAUSE_FAULT)) (h2 : W (.fld F.ENG_STAT_FAULTED)) (h3 : W (.fld F.ENG_STAT_RUNNING)) (h4 : W (.fld F.ENG_THR_STAT_CAUSE)) (h5 : W (.fld F.ENG_THR_STAT_STATE)) (h6 : W (.fld F.PMC_INT_CAUSE_OVF)) (h7 : W (.fld F.PMC_INT_CAUSE_SMP_AVAIL)) (h8 : W (.fld F.PMC_INT_CAUSE_SMP_DROP)) (h9 : W (.fld F.PMC_OVF_STAT_OVF)) (h10 : W (.fld F.PMC_SMP_DROP_RING)) (h11 : W (.fld F.PMC_SMP_STAT_COUNT)) (h12 : W (.fld H.PMC_CNT)) (h13 : W (.fld H.PMC_OVF_DUE)) (h14 : W (.fld H.PMC_OVF_SKID)) (h15 : W (.fld H.PMC_OVF_T)) (h16 : W (.fld H.PMC_OVF_THR)) (h17 : W (.fld H.PMC_RING)) (h18 : W (.fld H.PMC_TRACE_POS)) (a0 : Nat) (a1 : Nat) (a2 : Nat) (h : Moves W s₀ s) :
    Moves W s₀ (Sys2Proof.Machine.Eng.fault a0 a1 a2 s) := by
  unfold Sys2Proof.Machine.Eng.fault
  repeat' (first
    | with_reducible assumption
    | with_reducible apply Moves.put
    | with_reducible apply Moves.set
    | with_reducible apply Eng_enter_moves
    | with_reducible apply Eng_event_moves
    | intro _)

theorem Eng_next_moves {W : Part → Prop} {s₀ s : State} (h0 : W (.fld F.ENG_THR_STAT_PC)) (h1 : W (.fld H.ENG_PAST)) (a0 : Nat) (a1 : Nat) (h : Moves W s₀ s) :
    Moves W s₀ (Sys2Proof.Machine.Eng.next a0 a1 s) := by
  unfold Sys2Proof.Machine.Eng.next
  repeat' (first
    | with_reducible assumption
    | with_reducible apply Moves.put
    | with_reducible apply Moves.set
    | intro _
    | split)

theorem Eng_issue_moves {W : Part → Prop} {s₀ s : State} (h0 : W .qdr) (h1 : W (.fld F.ENG_INT_CAUSE_FAULT)) (h2 : W (.fld F.ENG_STAT_FAULTED)) (h3 : W (.fld F.ENG_STAT_RUNNING)) (h4 : W (.fld F.ENG_THR_STAT_CAUSE)) (h5 : W (.fld F.ENG_THR_STAT_STATE)) (h6 : W (.fld F.PMC_INT_CAUSE_OVF)) (h7 : W (.fld F.PMC_INT_CAUSE_SMP_AVAIL)) (h8 : W (.fld F.PMC_INT_CAUSE_SMP_DROP)) (h9 : W (.fld F.PMC_OVF_STAT_OVF)) (h10 : W (.fld F.PMC_SMP_DROP_RING)) (h11 : W (.fld F.PMC_SMP_STAT_COUNT)) (h12 : W (.fld H.PMC_CNT)) (h13 : W (.fld H.PMC_OVF_DUE)) (h14 : W (.fld H.PMC_OVF_SKID)) (h15 : W (.fld H.PMC_OVF_T)) (h16 : W (.fld H.PMC_OVF_THR)) (h17 : W (.fld H.PMC_RING)) (h18 : W (.fld H.PMC_TRACE_POS)) (a0 : Nat → Bool) (a1 : Nat → Sys2Proof.Machine.State → Sys2Proof.Machine.State) (a2 : Nat) (a3 : Nat) (hf1 : ∀ b0 b1, Moves W s₀ b1 → Moves W s₀ (a1 b0 b1)) (h : Moves W s₀ s) :
    Moves W s₀ (Sys2Proof.Machine.Eng.issue a0 a1 a2 a3 s) := by
  unfold Sys2Proof.Machine.Eng.issue
  repeat' (first
    | with_reducible assumption
    | with_reducible apply Eng_fault_moves
    | with_reducible apply hf1
    | intro _
    | split
    | (extract_lets +onlyGivenNames x; first
      | (refine Moves.keep (W := W) (s₀ := s₀) x ?_ ?_; rotate_left; intro hx; clear_value x; rotate_right)
      | (refine Moves.keep (W := W) (s₀ := s₀) x.2 ?_ ?_; rotate_left; intro hx; clear_value x; rotate_right)
      | (refine Moves.keep (W := W) (s₀ := s₀) x.1 ?_ ?_; rotate_left; intro hx; clear_value x; rotate_right)
      | skip))

theorem Eng_issued_moves {W : Part → Prop} {s₀ s : State} (h0 : W .qdr) (h1 : W (.fld F.PMC_INT_CAUSE_OVF)) (h2 : W (.fld F.PMC_INT_CAUSE_SMP_AVAIL)) (h3 : W (.fld F.PMC_INT_CAUSE_SMP_DROP)) (h4 : W (.fld F.PMC_OVF_STAT_OVF)) (h5 : W (.fld F.PMC_SMP_DROP_RING)) (h6 : W (.fld F.PMC_SMP_STAT_COUNT)) (h7 : W (.fld H.PMC_CNT)) (h8 : W (.fld H.PMC_OVF_DUE)) (h9 : W (.fld H.PMC_OVF_SKID)) (h10 : W (.fld H.PMC_OVF_T)) (h11 : W (.fld H.PMC_OVF_THR)) (h12 : W (.fld H.PMC_RING)) (h13 : W (.fld H.PMC_TRACE_POS)) (a0 : Nat) (a1 : Nat) (h : Moves W s₀ s) :
    Moves W s₀ (Sys2Proof.Machine.Eng.issued a0 a1 s) := by
  unfold Sys2Proof.Machine.Eng.issued
  repeat' (first
    | with_reducible assumption
    | with_reducible apply Eng_event_moves
    | with_reducible apply Pmc_skid_moves
    | intro _)

theorem Eng_complete_moves {W : Part → Prop} {s₀ s : State} (h0 : W .qdr) (h1 : W (.fld F.ENG_GREG_VAL)) (h2 : W (.fld F.ENG_THR_STAT_PC)) (h3 : W (.fld F.PMC_INT_CAUSE_OVF)) (h4 : W (.fld F.PMC_INT_CAUSE_SMP_AVAIL)) (h5 : W (.fld F.PMC_INT_CAUSE_SMP_DROP)) (h6 : W (.fld F.PMC_OVF_STAT_OVF)) (h7 : W (.fld F.PMC_SMP_DROP_RING)) (h8 : W (.fld F.PMC_SMP_STAT_COUNT)) (h9 : W (.fld H.ENG_PAST)) (h10 : W (.fld H.PMC_CNT)) (h11 : W (.fld H.PMC_OVF_DUE)) (h12 : W (.fld H.PMC_OVF_SKID)) (h13 : W (.fld H.PMC_OVF_T)) (h14 : W (.fld H.PMC_OVF_THR)) (h15 : W (.fld H.PMC_RING)) (h16 : W (.fld H.PMC_TRACE_POS)) (a0 : Nat) (a1 : Nat) (a2 : Nat) (a3 : Nat) (h : Moves W s₀ s) :
    Moves W s₀ (Sys2Proof.Machine.Eng.complete a0 a1 a2 a3 s) := by
  unfold Sys2Proof.Machine.Eng.complete
  repeat' (first
    | with_reducible assumption
    | with_reducible apply Eng_next_moves
    | with_reducible apply Eng_setReg_moves
    | with_reducible apply Eng_issued_moves
    | intro _)

theorem Eng_alu_moves {W : Part → Prop} {s₀ s : State} (h0 : W .qdr) (h1 : W (.fld F.ENG_GREG_VAL)) (h2 : W (.fld F.ENG_INT_CAUSE_FAULT)) (h3 : W (.fld F.ENG_STAT_FAULTED)) (h4 : W (.fld F.ENG_STAT_RUNNING)) (h5 : W (.fld F.ENG_THR_STAT_CAUSE)) (h6 : W (.fld F.ENG_THR_STAT_PC)) (h7 : W (.fld F.ENG_THR_STAT_STATE)) (h8 : W (.fld F.PMC_INT_CAUSE_OVF)) (h9 : W (.fld F.PMC_INT_CAUSE_SMP_AVAIL)) (h10 : W (.fld F.PMC_INT_CAUSE_SMP_DROP)) (h11 : W (.fld F.PMC_OVF_STAT_OVF)) (h12 : W (.fld F.PMC_SMP_DROP_RING)) (h13 : W (.fld F.PMC_SMP_STAT_COUNT)) (h14 : W (.fld H.ENG_PAST)) (h15 : W (.fld H.PMC_CNT)) (h16 : W (.fld H.PMC_OVF_DUE)) (h17 : W (.fld H.PMC_OVF_SKID)) (h18 : W (.fld H.PMC_OVF_T)) (h19 : W (.fld H.PMC_OVF_THR)) (h20 : W (.fld H.PMC_RING)) (h21 : W (.fld H.PMC_TRACE_POS)) (a0 : Nat) (a1 : Sys2Proof.Word → Sys2Proof.Word → Sys2Proof.Word) (a2 : Nat) (a3 : Nat) (h : Moves W s₀ s) :
    Moves W s₀ (Sys2Proof.Machine.Eng.alu a0 a1 a2 a3 s) := by
  unfold Sys2Proof.Machine.Eng.alu
  repeat' (first
    | with_reducible assumption
    | with_reducible apply Eng_issue_moves
    | with_reducible apply Eng_complete_moves
    | intro _)

theorem Eng_immediate_moves {W : Part → Prop} {s₀ s : State} (h0 : W .qdr) (h1 : W (.fld F.ENG_GREG_VAL)) (h2 : W (.fld F.ENG_INT_CAUSE_FAULT)) (h3 : W (.fld F.ENG_STAT_FAULTED)) (h4 : W (.fld F.ENG_STAT_RUNNING)) (h5 : W (.fld F.ENG_THR_STAT_CAUSE)) (h6 : W (.fld F.ENG_THR_STAT_PC)) (h7 : W (.fld F.ENG_THR_STAT_STATE)) (h8 : W (.fld F.PMC_INT_CAUSE_OVF)) (h9 : W (.fld F.PMC_INT_CAUSE_SMP_AVAIL)) (h10 : W (.fld F.PMC_INT_CAUSE_SMP_DROP)) (h11 : W (.fld F.PMC_OVF_STAT_OVF)) (h12 : W (.fld F.PMC_SMP_DROP_RING)) (h13 : W (.fld F.PMC_SMP_STAT_COUNT)) (h14 : W (.fld H.ENG_PAST)) (h15 : W (.fld H.PMC_CNT)) (h16 : W (.fld H.PMC_OVF_DUE)) (h17 : W (.fld H.PMC_OVF_SKID)) (h18 : W (.fld H.PMC_OVF_T)) (h19 : W (.fld H.PMC_OVF_THR)) (h20 : W (.fld H.PMC_RING)) (h21 : W (.fld H.PMC_TRACE_POS)) (a0 : Nat) (a1 : Sys2Proof.Word → Nat → Sys2Proof.Word) (a2 : Nat) (a3 : Nat) (h : Moves W s₀ s) :
    Moves W s₀ (Sys2Proof.Machine.Eng.immediate a0 a1 a2 a3 s) := by
  unfold Sys2Proof.Machine.Eng.immediate
  repeat' (first
    | with_reducible assumption
    | with_reducible apply Eng_issue_moves
    | with_reducible apply Eng_complete_moves
    | intro _)

theorem Eng_jump_moves {W : Part → Prop} {s₀ s : State} (h0 : W .qdr) (h1 : W (.fld F.ENG_INT_CAUSE_FAULT)) (h2 : W (.fld F.ENG_STAT_FAULTED)) (h3 : W (.fld F.ENG_STAT_RUNNING)) (h4 : W (.fld F.ENG_THR_STAT_CAUSE)) (h5 : W (.fld F.ENG_THR_STAT_PC)) (h6 : W (.fld F.ENG_THR_STAT_STATE)) (h7 : W (.fld F.PMC_INT_CAUSE_OVF)) (h8 : W (.fld F.PMC_INT_CAUSE_SMP_AVAIL)) (h9 : W (.fld F.PMC_INT_CAUSE_SMP_DROP)) (h10 : W (.fld F.PMC_OVF_STAT_OVF)) (h11 : W (.fld F.PMC_SMP_DROP_RING)) (h12 : W (.fld F.PMC_SMP_STAT_COUNT)) (h13 : W (.fld H.PMC_CNT)) (h14 : W (.fld H.PMC_OVF_DUE)) (h15 : W (.fld H.PMC_OVF_SKID)) (h16 : W (.fld H.PMC_OVF_T)) (h17 : W (.fld H.PMC_OVF_THR)) (h18 : W (.fld H.PMC_RING)) (h19 : W (.fld H.PMC_TRACE_POS)) (a0 : Nat) (a1 : Nat) (a2 : Int) (h : Moves W s₀ s) :
    Moves W s₀ (Sys2Proof.Machine.Eng.jump a0 a1 a2 s) := by
  unfold Sys2Proof.Machine.Eng.jump
  repeat' (first
    | with_reducible assumption
    | with_reducible apply Moves.put
    | with_reducible apply Eng_fault_moves
    | intro _
    | split)

theorem Eng_branch_moves {W : Part → Prop} {s₀ s : State} (h0 : W .qdr) (h1 : W (.fld F.ENG_GREG_VAL)) (h2 : W (.fld F.ENG_INT_CAUSE_FAULT)) (h3 : W (.fld F.ENG_STAT_FAULTED)) (h4 : W (.fld F.ENG_STAT_RUNNING)) (h5 : W (.fld F.ENG_THR_STAT_CAUSE)) (h6 : W (.fld F.ENG_THR_STAT_PC)) (h7 : W (.fld F.ENG_THR_STAT_STATE)) (h8 : W (.fld F.PMC_INT_CAUSE_OVF)) (h9 : W (.fld F.PMC_INT_CAUSE_SMP_AVAIL)) (h10 : W (.fld F.PMC_INT_CAUSE_SMP_DROP)) (h11 : W (.fld F.PMC_OVF_STAT_OVF)) (h12 : W (.fld F.PMC_SMP_DROP_RING)) (h13 : W (.fld F.PMC_SMP_STAT_COUNT)) (h14 : W (.fld H.ENG_PAST)) (h15 : W (.fld H.PMC_CNT)) (h16 : W (.fld H.PMC_OVF_DUE)) (h17 : W (.fld H.PMC_OVF_SKID)) (h18 : W (.fld H.PMC_OVF_T)) (h19 : W (.fld H.PMC_OVF_THR)) (h20 : W (.fld H.PMC_RING)) (h21 : W (.fld H.PMC_TRACE_POS)) (a0 : Nat) (a1 : Sys2Proof.Word → Sys2Proof.Word → Bool) (a2 : Nat) (a3 : Nat) (h : Moves W s₀ s) :
    Moves W s₀ (Sys2Proof.Machine.Eng.branch a0 a1 a2 a3 s) := by
  unfold Sys2Proof.Machine.Eng.branch
  repeat' (first
    | with_reducible assumption
    | with_reducible apply Eng_issue_moves
    | with_reducible apply Eng_fault_moves
    | with_reducible apply Eng_jump_moves
    | with_reducible apply Eng_issued_moves
    | with_reducible apply Eng_complete_moves
    | intro _
    | split
    | (extract_lets +onlyGivenNames x; first
      | (refine Moves.keep (W := W) (s₀ := s₀) x ?_ ?_; rotate_left; intro hx; clear_value x; rotate_right)
      | (refine Moves.keep (W := W) (s₀ := s₀) x.2 ?_ ?_; rotate_left; intro hx; clear_value x; rotate_right)
      | (refine Moves.keep (W := W) (s₀ := s₀) x.1 ?_ ?_; rotate_left; intro hx; clear_value x; rotate_right)
      | skip))

theorem Eng_link_moves {W : Part → Prop} {s₀ s : State} (h0 : W .qdr) (h1 : W (.fld F.ENG_GREG_VAL)) (h2 : W (.fld F.ENG_INT_CAUSE_FAULT)) (h3 : W (.fld F.ENG_STAT_FAULTED)) (h4 : W (.fld F.ENG_STAT_RUNNING)) (h5 : W (.fld F.ENG_THR_STAT_CAUSE)) (h6 : W (.fld F.ENG_THR_STAT_PC)) (h7 : W (.fld F.ENG_THR_STAT_STATE)) (h8 : W (.fld F.PMC_INT_CAUSE_OVF)) (h9 : W (.fld F.PMC_INT_CAUSE_SMP_AVAIL)) (h10 : W (.fld F.PMC_INT_CAUSE_SMP_DROP)) (h11 : W (.fld F.PMC_OVF_STAT_OVF)) (h12 : W (.fld F.PMC_SMP_DROP_RING)) (h13 : W (.fld F.PMC_SMP_STAT_COUNT)) (h14 : W (.fld H.PMC_CNT)) (h15 : W (.fld H.PMC_OVF_DUE)) (h16 : W (.fld H.PMC_OVF_SKID)) (h17 : W (.fld H.PMC_OVF_T)) (h18 : W (.fld H.PMC_OVF_THR)) (h19 : W (.fld H.PMC_RING)) (h20 : W (.fld H.PMC_TRACE_POS)) (a0 : Nat) (a1 : Nat) (a2 : Nat) (a3 : Int) (h : Moves W s₀ s) :
    Moves W s₀ (Sys2Proof.Machine.Eng.link a0 a1 a2 a3 s) := by
  unfold Sys2Proof.Machine.Eng.link
  repeat' (first
    | with_reducible assumption
    | with_reducible apply Eng_fault_moves
    | with_reducible apply Eng_jump_moves
    | with_reducible apply Eng_setReg_moves
    | with_reducible apply Eng_issued_moves
    | intro _
    | split)

theorem Eng_jal_moves {W : Part → Prop} {s₀ s : State} (h0 : W .qdr) (h1 : W (.fld F.ENG_GREG_VAL)) (h2 : W (.fld F.ENG_INT_CAUSE_FAULT)) (h3 : W (.fld F.ENG_STAT_FAULTED)) (h4 : W (.fld F.ENG_STAT_RUNNING)) (h5 : W (.fld F.ENG_THR_STAT_CAUSE)) (h6 : W (.fld F.ENG_THR_STAT_PC)) (h7 : W (.fld F.ENG_THR_STAT_STATE)) (h8 : W (.fld F.PMC_INT_CAUSE_OVF)) (h9 : W (.fld F.PMC_INT_CAUSE_SMP_AVAIL)) (h10 : W (.fld F.PMC_INT_CAUSE_SMP_DROP)) (h11 : W (.fld F.PMC_OVF_STAT_OVF)) (h12 : W (.fld F.PMC_SMP_DROP_RING)) (h13 : W (.fld F.PMC_SMP_STAT_COUNT)) (h14 : W (.fld H.PMC_CNT)) (h15 : W (.fld H.PMC_OVF_DUE)) (h16 : W (.fld H.PMC_OVF_SKID)) (h17 : W (.fld H.PMC_OVF_T)) (h18 : W (.fld H.PMC_OVF_THR)) (h19 : W (.fld H.PMC_RING)) (h20 : W (.fld H.PMC_TRACE_POS)) (a0 : Nat) (a1 : Nat) (h : Moves W s₀ s) :
    Moves W s₀ (Sys2Proof.Machine.Eng.jal a0 a1 s) := by
  unfold Sys2Proof.Machine.Eng.jal
  repeat' (first
    | with_reducible assumption
    | with_reducible apply Eng_issue_moves
    | with_reducible apply Eng_link_moves
    | intro _)

theorem Eng_jalr_moves {W : Part → Prop} {s₀ s : State} (h0 : W .qdr) (h1 : W (.fld F.ENG_GREG_VAL)) (h2 : W (.fld F.ENG_INT_CAUSE_FAULT)) (h3 : W (.fld F.ENG_STAT_FAULTED)) (h4 : W (.fld F.ENG_STAT_RUNNING)) (h5 : W (.fld F.ENG_THR_STAT_CAUSE)) (h6 : W (.fld F.ENG_THR_STAT_PC)) (h7 : W (.fld F.ENG_THR_STAT_STATE)) (h8 : W (.fld F.PMC_INT_CAUSE_OVF)) (h9 : W (.fld F.PMC_INT_CAUSE_SMP_AVAIL)) (h10 : W (.fld F.PMC_INT_CAUSE_SMP_DROP)) (h11 : W (.fld F.PMC_OVF_STAT_OVF)) (h12 : W (.fld F.PMC_SMP_DROP_RING)) (h13 : W (.fld F.PMC_SMP_STAT_COUNT)) (h14 : W (.fld H.PMC_CNT)) (h15 : W (.fld H.PMC_OVF_DUE)) (h16 : W (.fld H.PMC_OVF_SKID)) (h17 : W (.fld H.PMC_OVF_T)) (h18 : W (.fld H.PMC_OVF_THR)) (h19 : W (.fld H.PMC_RING)) (h20 : W (.fld H.PMC_TRACE_POS)) (a0 : Nat) (a1 : Nat) (h : Moves W s₀ s) :
    Moves W s₀ (Sys2Proof.Machine.Eng.jalr a0 a1 s) := by
  unfold Sys2Proof.Machine.Eng.jalr
  repeat' (first
    | with_reducible assumption
    | with_reducible apply Eng_issue_moves
    | with_reducible apply Eng_link_moves
    | intro _)

theorem Eng_setMem_moves {W : Part → Prop} {s₀ s : State} (h0 : W (.fld H.ENG_DMEM)) (a0 : Nat) (a1 : Nat) (a2 : Nat) (h : Moves W s₀ s) :
    Moves W s₀ (Sys2Proof.Machine.Eng.setMem a0 a1 a2 s) := by
  unfold Sys2Proof.Machine.Eng.setMem
  repeat' (first
    | with_reducible assumption
    | with_reducible apply Moves.put
    | intro _)

theorem Eng_access_moves {W : Part → Prop} {s₀ s : State} (h0 : W .qdr) (h1 : W (.fld F.ENG_GREG_VAL)) (h2 : W (.fld F.ENG_INT_CAUSE_FAULT)) (h3 : W (.fld F.ENG_STAT_FAULTED)) (h4 : W (.fld F.ENG_STAT_RUNNING)) (h5 : W (.fld F.ENG_THR_STAT_CAUSE)) (h6 : W (.fld F.ENG_THR_STAT_PC)) (h7 : W (.fld F.ENG_THR_STAT_STATE)) (h8 : W (.fld F.PMC_INT_CAUSE_OVF)) (h9 : W (.fld F.PMC_INT_CAUSE_SMP_AVAIL)) (h10 : W (.fld F.PMC_INT_CAUSE_SMP_DROP)) (h11 : W (.fld F.PMC_OVF_STAT_OVF)) (h12 : W (.fld F.PMC_SMP_DROP_RING)) (h13 : W (.fld F.PMC_SMP_STAT_COUNT)) (h14 : W (.fld H.ENG_PAST)) (h15 : W (.fld H.PMC_CNT)) (h16 : W (.fld H.PMC_OVF_DUE)) (h17 : W (.fld H.PMC_OVF_SKID)) (h18 : W (.fld H.PMC_OVF_T)) (h19 : W (.fld H.PMC_OVF_THR)) (h20 : W (.fld H.PMC_RING)) (h21 : W (.fld H.PMC_TRACE_POS)) (a0 : Nat) (a1 : Nat → Int) (a2 : Nat → Nat) (a3 : Nat → Nat → Sys2Proof.Machine.State → Sys2Proof.Machine.State) (a4 : Nat) (a5 : Nat) (hf3 : ∀ b0 b1 b2, Moves W s₀ b2 → Moves W s₀ (a3 b0 b1 b2)) (h : Moves W s₀ s) :
    Moves W s₀ (Sys2Proof.Machine.Eng.access a0 a1 a2 a3 a4 a5 s) := by
  unfold Sys2Proof.Machine.Eng.access
  repeat' (first
    | with_reducible assumption
    | with_reducible apply Eng_issue_moves
    | with_reducible apply Eng_fault_moves
    | with_reducible apply Eng_complete_moves
    | with_reducible apply hf3
    | intro _
    | split
    | (extract_lets +onlyGivenNames x; first
      | (refine Moves.keep (W := W) (s₀ := s₀) x ?_ ?_; rotate_left; intro hx; clear_value x; rotate_right)
      | (refine Moves.keep (W := W) (s₀ := s₀) x.2 ?_ ?_; rotate_left; intro hx; clear_value x; rotate_right)
      | (refine Moves.keep (W := W) (s₀ := s₀) x.1 ?_ ?_; rotate_left; intro hx; clear_value x; rotate_right)
      | skip))

theorem Eng_ldw_moves {W : Part → Prop} {s₀ s : State} (h0 : W .qdr) (h1 : W (.fld F.ENG_GREG_VAL)) (h2 : W (.fld F.ENG_INT_CAUSE_FAULT)) (h3 : W (.fld F.ENG_STAT_FAULTED)) (h4 : W (.fld F.ENG_STAT_RUNNING)) (h5 : W (.fld F.ENG_THR_STAT_CAUSE)) (h6 : W (.fld F.ENG_THR_STAT_PC)) (h7 : W (.fld F.ENG_THR_STAT_STATE)) (h8 : W (.fld F.PMC_INT_CAUSE_OVF)) (h9 : W (.fld F.PMC_INT_CAUSE_SMP_AVAIL)) (h10 : W (.fld F.PMC_INT_CAUSE_SMP_DROP)) (h11 : W (.fld F.PMC_OVF_STAT_OVF)) (h12 : W (.fld F.PMC_SMP_DROP_RING)) (h13 : W (.fld F.PMC_SMP_STAT_COUNT)) (h14 : W (.fld H.ENG_PAST)) (h15 : W (.fld H.PMC_CNT)) (h16 : W (.fld H.PMC_OVF_DUE)) (h17 : W (.fld H.PMC_OVF_SKID)) (h18 : W (.fld H.PMC_OVF_T)) (h19 : W (.fld H.PMC_OVF_THR)) (h20 : W (.fld H.PMC_RING)) (h21 : W (.fld H.PMC_TRACE_POS)) (a0 : Nat) (a1 : Nat) (h : Moves W s₀ s) :
    Moves W s₀ (Sys2Proof.Machine.Eng.ldw a0 a1 s) := by
  unfold Sys2Proof.Machine.Eng.ldw
  repeat' (first
    | with_reducible assumption
    | with_reducible apply Eng_access_moves
    | intro _)

theorem Eng_stw_moves {W : Part → Prop} {s₀ s : State} (h0 : W .qdr) (h1 : W (.fld F.ENG_GREG_VAL)) (h2 : W (.fld F.ENG_INT_CAUSE_FAULT)) (h3 : W (.fld F.ENG_STAT_FAULTED)) (h4 : W (.fld F.ENG_STAT_RUNNING)) (h5 : W (.fld F.ENG_THR_STAT_CAUSE)) (h6 : W (.fld F.ENG_THR_STAT_PC)) (h7 : W (.fld F.ENG_THR_STAT_STATE)) (h8 : W (.fld F.PMC_INT_CAUSE_OVF)) (h9 : W (.fld F.PMC_INT_CAUSE_SMP_AVAIL)) (h10 : W (.fld F.PMC_INT_CAUSE_SMP_DROP)) (h11 : W (.fld F.PMC_OVF_STAT_OVF)) (h12 : W (.fld F.PMC_SMP_DROP_RING)) (h13 : W (.fld F.PMC_SMP_STAT_COUNT)) (h14 : W (.fld H.ENG_DMEM)) (h15 : W (.fld H.ENG_PAST)) (h16 : W (.fld H.PMC_CNT)) (h17 : W (.fld H.PMC_OVF_DUE)) (h18 : W (.fld H.PMC_OVF_SKID)) (h19 : W (.fld H.PMC_OVF_T)) (h20 : W (.fld H.PMC_OVF_THR)) (h21 : W (.fld H.PMC_RING)) (h22 : W (.fld H.PMC_TRACE_POS)) (a0 : Nat) (a1 : Nat) (h : Moves W s₀ s) :
    Moves W s₀ (Sys2Proof.Machine.Eng.stw a0 a1 s) := by
  unfold Sys2Proof.Machine.Eng.stw
  repeat' (first
    | with_reducible assumption
    | with_reducible apply Eng_access_moves
    | with_reducible apply Eng_setMem_moves
    | intro _)

theorem Eng_local__moves {W : Part → Prop} {s₀ s : State} (h0 : W .qdr) (h1 : W (.fld F.ENG_GREG_VAL)) (h2 : W (.fld F.ENG_INT_CAUSE_FAULT)) (h3 : W (.fld F.ENG_STAT_FAULTED)) (h4 : W (.fld F.ENG_STAT_RUNNING)) (h5 : W (.fld F.ENG_THR_STAT_CAUSE)) (h6 : W (.fld F.ENG_THR_STAT_PC)) (h7 : W (.fld F.ENG_THR_STAT_STATE)) (h8 : W (.fld F.PMC_INT_CAUSE_OVF)) (h9 : W (.fld F.PMC_INT_CAUSE_SMP_AVAIL)) (h10 : W (.fld F.PMC_INT_CAUSE_SMP_DROP)) (h11 : W (.fld F.PMC_OVF_STAT_OVF)) (h12 : W (.fld F.PMC_SMP_DROP_RING)) (h13 : W (.fld F.PMC_SMP_STAT_COUNT)) (h14 : W (.fld H.ENG_DMEM)) (h15 : W (.fld H.ENG_PAST)) (h16 : W (.fld H.PMC_CNT)) (h17 : W (.fld H.PMC_OVF_DUE)) (h18 : W (.fld H.PMC_OVF_SKID)) (h19 : W (.fld H.PMC_OVF_T)) (h20 : W (.fld H.PMC_OVF_THR)) (h21 : W (.fld H.PMC_RING)) (h22 : W (.fld H.PMC_TRACE_POS)) (a0 : Nat) (a1 : Nat → Nat → Nat) (a2 : Nat) (a3 : Nat) (h : Moves W s₀ s) :
    Moves W s₀ (Sys2Proof.Machine.Eng.local_ a0 a1 a2 a3 s) := by
  unfold Sys2Proof.Machine.Eng.local_
  repeat' (first
    | with_reducible assumption
    | with_reducible apply Eng_issue_moves
    | with_reducible apply Eng_fault_moves
    | with_reducible apply Eng_complete_moves
    | with_reducible apply Eng_setMem_moves
    | intro _
    | split
    | (extract_lets +onlyGivenNames x; first
      | (refine Moves.keep (W := W) (s₀ := s₀) x ?_ ?_; rotate_left; intro hx; clear_value x; rotate_right)
      | (refine Moves.keep (W := W) (s₀ := s₀) x.2 ?_ ?_; rotate_left; intro hx; clear_value x; rotate_right)
      | (refine Moves.keep (W := W) (s₀ := s₀) x.1 ?_ ?_; rotate_left; intro hx; clear_value x; rotate_right)
      | skip))

theorem Eng_spillPop_moves {W : Part → Prop} {s₀ s : State} (h0 : W (.fld H.ENG_SPILL_CNT)) (h : Moves W s₀ s) :
    Moves W s₀ (Sys2Proof.Machine.Eng.spillPop s) := by
  unfold Sys2Proof.Machine.Eng.spillPop
  repeat' (first
    | with_reducible assumption
    | with_reducible apply Moves.put
    | intro _
    | split)

theorem Eng_spill_moves {W : Part → Prop} {s₀ s : State} (h0 : W .qdr) (h1 : W (.fld F.ENG_INT_CAUSE_SPILL_LOST)) (h2 : W (.fld F.SE_SPILL_STAT_LOST)) (h3 : W (.fld H.ENG_SPILL_CNT)) (h4 : W (.fld H.ENG_SPILL_MAP)) (h5 : W (.fld H.ENG_SPILL_POS)) (a0 : Nat) (a1 : Nat) (h : Moves W s₀ s) :
    Moves W s₀ (Sys2Proof.Machine.Eng.spill a0 a1 s) := by
  unfold Eng.spill
  extract_lets size s1 pos s2 s3
  have e1 : Moves W s₀ s1 := by
    dsimp only [s1]; split
    · exact h
    · exact ((h.put _ _ _ _ _ (by assumption)).clr _ _ _ (by assumption)).clr _ _ _ (by assumption)
  clear_value s1
  have e2 : Moves W s₀ s2 := e1.each _ (fun w t ht => ht.qdr _ _ (by assumption))
  clear_value s2
  have e3 : Moves W s₀ s3 := e2.put _ _ _ _ _ (by assumption)
  clear_value s3 size
  split
  · exact h
  split
  · exact e3.put _ _ _ _ _ (by assumption)
  · exact (e3.count _ _ _ _ (by assumption)).set _ _ _ (by assumption)

theorem Eng_append_moves {W : Part → Prop} {s₀ s : State} (h0 : W .qdr) (h1 : W (.fld F.ENG_INT_CAUSE_SPILL_LOST)) (h2 : W (.fld F.ENG_JRNL_HEAD_VAL)) (h3 : W (.fld F.ENG_JRNL_SEQ_VAL)) (h4 : W (.fld F.SE_SPILL_STAT_LOST)) (h5 : W (.fld H.ENG_JRNL)) (h6 : W (.fld H.ENG_JVALID)) (h7 : W (.fld H.ENG_SPILL_CNT)) (h8 : W (.fld H.ENG_SPILL_MAP)) (h9 : W (.fld H.ENG_SPILL_POS)) (a0 : Nat) (a1 : Nat) (a2 : Nat) (a3 : Nat) (a4 : Nat) (h : Moves W s₀ s) :
    Moves W s₀ (Sys2Proof.Machine.Eng.append a0 a1 a2 a3 a4 s) := by
  unfold Sys2Proof.Machine.Eng.append
  repeat' (first
    | with_reducible assumption
    | with_reducible apply Moves.put
    | with_reducible apply Moves.set
    | with_reducible apply Eng_spill_moves
    | intro _
    | split
    | (extract_lets +onlyGivenNames x; first
      | (refine Moves.keep (W := W) (s₀ := s₀) x ?_ ?_; rotate_left; intro hx; clear_value x; rotate_right)
      | (refine Moves.keep (W := W) (s₀ := s₀) x.2 ?_ ?_; rotate_left; intro hx; clear_value x; rotate_right)
      | (refine Moves.keep (W := W) (s₀ := s₀) x.1 ?_ ?_; rotate_left; intro hx; clear_value x; rotate_right)
      | skip))

theorem Eng_jmark_moves {W : Part → Prop} {s₀ s : State} (h0 : W .qdr) (h1 : W (.fld F.ENG_GREG_VAL)) (h2 : W (.fld F.ENG_INT_CAUSE_FAULT)) (h3 : W (.fld F.ENG_INT_CAUSE_SPILL_LOST)) (h4 : W (.fld F.ENG_JRNL_HEAD_VAL)) (h5 : W (.fld F.ENG_JRNL_SEQ_VAL)) (h6 : W (.fld F.ENG_STAT_FAULTED)) (h7 : W (.fld F.ENG_STAT_RUNNING)) (h8 : W (.fld F.ENG_THR_STAT_CAUSE)) (h9 : W (.fld F.ENG_THR_STAT_PC)) (h10 : W (.fld F.ENG_THR_STAT_STATE)) (h11 : W (.fld F.PMC_INT_CAUSE_OVF)) (h12 : W (.fld F.PMC_INT_CAUSE_SMP_AVAIL)) (h13 : W (.fld F.PMC_INT_CAUSE_SMP_DROP)) (h14 : W (.fld F.PMC_OVF_STAT_OVF)) (h15 : W (.fld F.PMC_SMP_DROP_RING)) (h16 : W (.fld F.PMC_SMP_STAT_COUNT)) (h17 : W (.fld F.SE_SPILL_STAT_LOST)) (h18 : W (.fld H.ENG_JRNL)) (h19 : W (.fld H.ENG_JVALID)) (h20 : W (.fld H.ENG_PAST)) (h21 : W (.fld H.ENG_SPILL_CNT)) (h22 : W (.fld H.ENG_SPILL_MAP)) (h23 : W (.fld H.ENG_SPILL_POS)) (h24 : W (.fld H.PMC_CNT)) (h25 : W (.fld H.PMC_OVF_DUE)) (h26 : W (.fld H.PMC_OVF_SKID)) (h27 : W (.fld H.PMC_OVF_T)) (h28 : W (.fld H.PMC_OVF_THR)) (h29 : W (.fld H.PMC_RING)) (h30 : W (.fld H.PMC_TRACE_POS)) (a0 : Nat) (a1 : Nat) (h : Moves W s₀ s) :
    Moves W s₀ (Sys2Proof.Machine.Eng.jmark a0 a1 s) := by
  unfold Sys2Proof.Machine.Eng.jmark
  repeat' (first
    | with_reducible assumption
    | with_reducible apply Eng_issue_moves
    | with_reducible apply Eng_append_moves
    | with_reducible apply Eng_event_moves
    | with_reducible apply Eng_complete_moves
    | intro _
    | (extract_lets +onlyGivenNames x; first
      | (refine Moves.keep (W := W) (s₀ := s₀) x ?_ ?_; rotate_left; intro hx; clear_value x; rotate_right)
      | (refine Moves.keep (W := W) (s₀ := s₀) x.2 ?_ ?_; rotate_left; intro hx; clear_value x; rotate_right)
      | (refine Moves.keep (W := W) (s₀ := s₀) x.1 ?_ ?_; rotate_left; intro hx; clear_value x; rotate_right)
      | skip))

theorem Eng_journalFirst_moves {W : Part → Prop} {s₀ s : State} (h0 : W (.fld H.ENG_JSNAP)) (h1 : W (.fld H.ENG_JSNAP_VALID)) (a0 : Nat) (a1 : Nat) (h : Moves W s₀ s) :
    Moves W s₀ (Sys2Proof.Machine.Eng.journalFirst a0 a1 s).2 := by
  unfold Sys2Proof.Machine.Eng.journalFirst
  repeat' (first
    | with_reducible assumption
    | with_reducible apply Moves.each
    | with_reducible apply Moves.put
    | with_reducible apply Moves.set
    | intro _
    | (extract_lets +onlyGivenNames x; first
      | (refine Moves.keep (W := W) (s₀ := s₀) x ?_ ?_; rotate_left; intro hx; clear_value x; rotate_right)
      | (refine Moves.keep (W := W) (s₀ := s₀) x.2 ?_ ?_; rotate_left; intro hx; clear_value x; rotate_right)
      | (refine Moves.keep (W := W) (s₀ := s₀) x.1 ?_ ?_; rotate_left; intro hx; clear_value x; rotate_right)
      | skip))

theorem Eng_releaseTag_moves {W : Part → Prop} {s₀ s : State} (h0 : W (.fld F.ENG_STAT_TAGS_USED)) (h1 : W (.fld F.ENG_TAG_ALLOC)) (a0 : Nat) (a1 : Nat) (h : Moves W s₀ s) :
    Moves W s₀ (Sys2Proof.Machine.Eng.releaseTag a0 a1 s) := by
  unfold Sys2Proof.Machine.Eng.releaseTag
  repeat' (first
    | with_reducible assumption
    | with_reducible apply Moves.clr
    | with_reducible apply Moves.put
    | intro _
    | split)

theorem Eng_resume_moves {W : Part → Prop} {s₀ s : State} (h0 : W (.fld F.ENG_GREG_VAL)) (h1 : W (.fld F.ENG_STAT_FAULTED)) (h2 : W (.fld F.ENG_STAT_RUNNING)) (h3 : W (.fld F.ENG_THR_STAT_PC)) (h4 : W (.fld F.ENG_THR_STAT_STATE)) (h5 : W (.fld H.ENG_PAST)) (a0 : Nat) (a1 : Nat) (a2 : Nat) (h : Moves W s₀ s) :
    Moves W s₀ (Sys2Proof.Machine.Eng.resume a0 a1 a2 s) := by
  unfold Sys2Proof.Machine.Eng.resume
  repeat' (first
    | with_reducible assumption
    | with_reducible apply Eng_next_moves
    | with_reducible apply Eng_enter_moves
    | with_reducible apply Eng_setReg_moves
    | intro _)

theorem Eng_finalise_moves {W : Part → Prop} {s₀ s : State} (h0 : W .eng) (h1 : W .qdr) (h2 : W (.fld F.ENG_GREG_VAL)) (h3 : W (.fld F.ENG_INT_CAUSE_ABORT)) (h4 : W (.fld F.ENG_STAT_FAULTED)) (h5 : W (.fld F.ENG_STAT_INFLIGHT)) (h6 : W (.fld F.ENG_STAT_RUNNING)) (h7 : W (.fld F.ENG_STAT_TAGS_USED)) (h8 : W (.fld F.ENG_TAG_ALLOC)) (h9 : W (.fld F.ENG_TAG_STATE)) (h10 : W (.fld F.ENG_THR_STAT_PC)) (h11 : W (.fld F.ENG_THR_STAT_STATE)) (h12 : W (.fld F.PMC_INT_CAUSE_OVF)) (h13 : W (.fld F.PMC_INT_CAUSE_SMP_AVAIL)) (h14 : W (.fld F.PMC_INT_CAUSE_SMP_DROP)) (h15 : W (.fld F.PMC_OVF_STAT_OVF)) (h16 : W (.fld F.PMC_SMP_DROP_RING)) (h17 : W (.fld F.PMC_SMP_STAT_COUNT)) (h18 : W (.fld H.ENG_JRNL)) (h19 : W (.fld H.ENG_PAST)) (h20 : W (.fld H.PMC_CNT)) (h21 : W (.fld H.PMC_OVF_DUE)) (h22 : W (.fld H.PMC_OVF_T)) (h23 : W (.fld H.PMC_RING)) (h24 : W (.fld H.PMC_TRACE_POS)) (a0 : Nat) (a1 : Nat) (a2 : Nat) (a3 : Nat) (a4 : Nat) (h : Moves W s₀ s) :
    Moves W s₀ (Sys2Proof.Machine.Eng.finalise a0 a1 a2 a3 a4 s) := by
  unfold Sys2Proof.Machine.Eng.finalise
  repeat' (first
    | with_reducible assumption
    | with_reducible apply Moves.put
    | with_reducible apply Moves.set
    | with_reducible apply Pmc_event_moves
    | with_reducible apply Eng_releaseTag_moves
    | with_reducible apply Eng_resume_moves
    | intro _
    | split
    | (extract_lets +onlyGivenNames x; first
      | (refine Moves.keep (W := W) (s₀ := s₀) x ?_ ?_; rotate_left; intro hx; clear_value x; rotate_right)
      | (refine Moves.keep (W := W) (s₀ := s₀) x.2 ?_ ?_; rotate_left; intro hx; clear_value x; rotate_right)
      | (refine Moves.keep (W := W) (s₀ := s₀) x.1 ?_ ?_; rotate_left; intro hx; clear_value x; rotate_right)
      | skip)
    | (with_reducible refine Moves.eng _ ?_ ?_ <;> with_reducible first
      | assumption
      | apply Moves.put
      | apply Moves.set
      | apply Pmc_event_moves
      | apply Eng_releaseTag_moves
      | apply Eng_resume_moves))

theorem Eng_launch_moves {W : Part → Prop} {s₀ s : State} (h0 : W .eng) (h1 : W .qdr) (h2 : W (.fld F.ENG_GREG_VAL)) (h3 : W (.fld F.ENG_INT_CAUSE_ABORT)) (h4 : W (.fld F.ENG_INT_CAUSE_SPILL_LOST)) (h5 : W (.fld F.ENG_JRNL_HEAD_VAL)) (h6 : W (.fld F.ENG_JRNL_SEQ_VAL)) (h7 : W (.fld F.ENG_STAT_FAULTED)) (h8 : W (.fld F.ENG_STAT_INFLIGHT)) (h9 : W (.fld F.ENG_STAT_RUNNING)) (h10 : W (.fld F.ENG_STAT_TAGS_USED)) (h11 : W (.fld F.ENG_TAG_ALLOC)) (h12 : W (.fld F.ENG_TAG_AUTO)) (h13 : W (.fld F.ENG_TAG_JIDX)) (h14 : W (.fld F.ENG_TAG_STATE)) (h15 : W (.fld F.ENG_TAG_THREAD)) (h16 : W (.fld F.ENG_THR_STAT_PC)) (h17 : W (.fld F.ENG_THR_STAT_STATE)) (h18 : W (.fld F.PMC_INT_CAUSE_OVF)) (h19 : W (.fld F.PMC_INT_CAUSE_SMP_AVAIL)) (h20 : W (.fld F.PMC_INT_CAUSE_SMP_DROP)) (h21 : W (.fld F.PMC_OVF_STAT_OVF)) (h22 : W (.fld F.PMC_SMP_DROP_RING)) (h23 : W (.fld F.PMC_SMP_STAT_COUNT)) (h24 : W (.fld F.SE_SPILL_STAT_LOST)) (h25 : W (.fld H.ENG_JRNL)) (h26 : W (.fld H.ENG_JVALID)) (h27 : W (.fld H.ENG_PAST)) (h28 : W (.fld H.ENG_SPILL_CNT)) (h29 : W (.fld H.ENG_SPILL_MAP)) (h30 : W (.fld H.ENG_SPILL_POS)) (h31 : W (.fld H.PMC_CNT)) (h32 : W (.fld H.PMC_OVF_DUE)) (h33 : W (.fld H.PMC_OVF_SKID)) (h34 : W (.fld H.PMC_OVF_T)) (h35 : W (.fld H.PMC_OVF_THR)) (h36 : W (.fld H.PMC_RING)) (h37 : W (.fld H.PMC_TRACE_POS)) (a0 : Nat) (a1 : Sys2Proof.Machine.EngOp) (a2 : Nat) (a3 : Nat) (a4 : Nat) (a5 : Nat) (h : Moves W s₀ s) :
    Moves W s₀ (Sys2Proof.Machine.Eng.launch a0 a1 a2 a3 a4 a5 s) := by
  unfold Sys2Proof.Machine.Eng.launch
  repeat' (first
    | with_reducible assumption
    | with_reducible apply Moves.clr
    | with_reducible apply Moves.put
    | with_reducible apply Moves.set
    | with_reducible apply Eng_enter_moves
    | with_reducible apply Eng_event_moves
    | with_reducible apply Eng_complete_moves
    | with_reducible apply Eng_append_moves
    | with_reducible apply Eng_finalise_moves
    | intro _
    | split
    | (extract_lets +onlyGivenNames x; first
      | (refine Moves.keep (W := W) (s₀ := s₀) x ?_ ?_; rotate_left; intro hx; clear_value x; rotate_right)
      | (refine Moves.keep (W := W) (s₀ := s₀) x.2 ?_ ?_; rotate_left; intro hx; clear_value x; rotate_right)
      | (refine Moves.keep (W := W) (s₀ := s₀) x.1 ?_ ?_; rotate_left; intro hx; clear_value x; rotate_right)
      | skip)
    | (with_reducible refine Moves.eng _ ?_ ?_ <;> with_reducible first
      | assumption
      | apply Moves.clr
      | apply Moves.put
      | apply Moves.set
      | apply Eng_enter_moves
      | apply Eng_event_moves
      | apply Eng_complete_moves
      | apply Eng_append_moves
      | apply Eng_finalise_moves))

theorem Eng_single_moves {W : Part → Prop} {s₀ s : State} (h0 : W .eng) (h1 : W .qdr) (h2 : W (.fld F.ENG_GREG_VAL)) (h3 : W (.fld F.ENG_INT_CAUSE_ABORT)) (h4 : W (.fld F.ENG_INT_CAUSE_FAULT)) (h5 : W (.fld F.ENG_INT_CAUSE_SPILL_LOST)) (h6 : W (.fld F.ENG_JRNL_HEAD_VAL)) (h7 : W (.fld F.ENG_JRNL_SEQ_VAL)) (h8 : W (.fld F.ENG_STAT_FAULTED)) (h9 : W (.fld F.ENG_STAT_INFLIGHT)) (h10 : W (.fld F.ENG_STAT_RUNNING)) (h11 : W (.fld F.ENG_STAT_TAGS_USED)) (h12 : W (.fld F.ENG_TAG_ALLOC)) (h13 : W (.fld F.ENG_TAG_AUTO)) (h14 : W (.fld F.ENG_TAG_JIDX)) (h15 : W (.fld F.ENG_TAG_STATE)) (h16 : W (.fld F.ENG_TAG_THREAD)) (h17 : W (.fld F.ENG_THR_STAT_CAUSE)) (h18 : W (.fld F.ENG_THR_STAT_PC)) (h19 : W (.fld F.ENG_THR_STAT_STATE)) (h20 : W (.fld F.PMC_INT_CAUSE_OVF)) (h21 : W (.fld F.PMC_INT_CAUSE_SMP_AVAIL)) (h22 : W (.fld F.PMC_INT_CAUSE_SMP_DROP)) (h23 : W (.fld F.PMC_OVF_STAT_OVF)) (h24 : W (.fld F.PMC_SMP_DROP_RING)) (h25 : W (.fld F.PMC_SMP_STAT_COUNT)) (h26 : W (.fld F.SE_SPILL_STAT_LOST)) (h27 : W (.fld H.ENG_JRNL)) (h28 : W (.fld H.ENG_JVALID)) (h29 : W (.fld H.ENG_PAST)) (h30 : W (.fld H.ENG_SPILL_CNT)) (h31 : W (.fld H.ENG_SPILL_MAP)) (h32 : W (.fld H.ENG_SPILL_POS)) (h33 : W (.fld H.PMC_CNT)) (h34 : W (.fld H.PMC_OVF_DUE)) (h35 : W (.fld H.PMC_OVF_SKID)) (h36 : W (.fld H.PMC_OVF_T)) (h37 : W (.fld H.PMC_OVF_THR)) (h38 : W (.fld H.PMC_RING)) (h39 : W (.fld H.PMC_TRACE_POS)) (a0 : Nat) (a1 : Bool) (a2 : Bool) (a3 : Nat) (a4 : Nat) (h : Moves W s₀ s) :
    Moves W s₀ (Sys2Proof.Machine.Eng.single a0 a1 a2 a3 a4 s) := by
  unfold Sys2Proof.Machine.Eng.single
  repeat' (first
    | with_reducible assumption
    | with_reducible apply Eng_issue_moves
    | with_reducible apply Eng_launch_moves
    | intro _
    | split
    | (extract_lets +onlyGivenNames x; first
      | (refine Moves.keep (W := W) (s₀ := s₀) x ?_ ?_; rotate_left; intro hx; clear_value x; rotate_right)
      | (refine Moves.keep (W := W) (s₀ := s₀) x.2 ?_ ?_; rotate_left; intro hx; clear_value x; rotate_right)
      | (refine Moves.keep (W := W) (s₀ := s₀) x.1 ?_ ?_; rotate_left; intro hx; clear_value x; rotate_right)
      | skip))

theorem Eng_dma_moves {W : Part → Prop} {s₀ s : State} (h0 : W .eng) (h1 : W .qdr) (h2 : W (.fld F.ENG_GREG_VAL)) (h3 : W (.fld F.ENG_INT_CAUSE_ABORT)) (h4 : W (.fld F.ENG_INT_CAUSE_FAULT)) (h5 : W (.fld F.ENG_INT_CAUSE_SPILL_LOST)) (h6 : W (.fld F.ENG_JRNL_HEAD_VAL)) (h7 : W (.fld F.ENG_JRNL_SEQ_VAL)) (h8 : W (.fld F.ENG_STAT_FAULTED)) (h9 : W (.fld F.ENG_STAT_INFLIGHT)) (h10 : W (.fld F.ENG_STAT_RUNNING)) (h11 : W (.fld F.ENG_STAT_TAGS_USED)) (h12 : W (.fld F.ENG_TAG_ALLOC)) (h13 : W (.fld F.ENG_TAG_AUTO)) (h14 : W (.fld F.ENG_TAG_JIDX)) (h15 : W (.fld F.ENG_TAG_STATE)) (h16 : W (.fld F.ENG_TAG_THREAD)) (h17 : W (.fld F.ENG_THR_STAT_CAUSE)) (h18 : W (.fld F.ENG_THR_STAT_PC)) (h19 : W (.fld F.ENG_THR_STAT_STATE)) (h20 : W (.fld F.PMC_INT_CAUSE_OVF)) (h21 : W (.fld F.PMC_INT_CAUSE_SMP_AVAIL)) (h22 : W (.fld F.PMC_INT_CAUSE_SMP_DROP)) (h23 : W (.fld F.PMC_OVF_STAT_OVF)) (h24 : W (.fld F.PMC_SMP_DROP_RING)) (h25 : W (.fld F.PMC_SMP_STAT_COUNT)) (h26 : W (.fld F.SE_SPILL_STAT_LOST)) (h27 : W (.fld H.ENG_JRNL)) (h28 : W (.fld H.ENG_JVALID)) (h29 : W (.fld H.ENG_PAST)) (h30 : W (.fld H.ENG_SPILL_CNT)) (h31 : W (.fld H.ENG_SPILL_MAP)) (h32 : W (.fld H.ENG_SPILL_POS)) (h33 : W (.fld H.PMC_CNT)) (h34 : W (.fld H.PMC_OVF_DUE)) (h35 : W (.fld H.PMC_OVF_SKID)) (h36 : W (.fld H.PMC_OVF_T)) (h37 : W (.fld H.PMC_OVF_THR)) (h38 : W (.fld H.PMC_RING)) (h39 : W (.fld H.PMC_TRACE_POS)) (a0 : Nat) (a1 : Bool) (a2 : Nat) (a3 : Nat) (h : Moves W s₀ s) :
    Moves W s₀ (Sys2Proof.Machine.Eng.dma a0 a1 a2 a3 s) := by
  unfold Sys2Proof.Machine.Eng.dma
  repeat' (first
    | with_reducible assumption
    | with_reducible apply Eng_issue_moves
    | with_reducible apply Eng_fault_moves
    | with_reducible apply Eng_launch_moves
    | intro _
    | split
    | (extract_lets +onlyGivenNames x; first
      | (refine Moves.keep (W := W) (s₀ := s₀) x ?_ ?_; rotate_left; intro hx; clear_value x; rotate_right)
      | (refine Moves.keep (W := W) (s₀ := s₀) x.2 ?_ ?_; rotate_left; intro hx; clear_value x; rotate_right)
      | (refine Moves.keep (W := W) (s₀ := s₀) x.1 ?_ ?_; rotate_left; intro hx; clear_value x; rotate_right)
      | skip))

theorem Eng_qdr_moves {W : Part → Prop} {s₀ s : State} (h0 : W .eng) (h1 : W .qdr) (h2 : W (.fld F.ENG_GREG_VAL)) (h3 : W (.fld F.ENG_INT_CAUSE_ABORT)) (h4 : W (.fld F.ENG_INT_CAUSE_FAULT)) (h5 : W (.fld F.ENG_INT_CAUSE_SPILL_LOST)) (h6 : W (.fld F.ENG_JRNL_HEAD_VAL)) (h7 : W (.fld F.ENG_JRNL_SEQ_VAL)) (h8 : W (.fld F.ENG_STAT_FAULTED)) (h9 : W (.fld F.ENG_STAT_INFLIGHT)) (h10 : W (.fld F.ENG_STAT_RUNNING)) (h11 : W (.fld F.ENG_STAT_TAGS_USED)) (h12 : W (.fld F.ENG_TAG_ALLOC)) (h13 : W (.fld F.ENG_TAG_AUTO)) (h14 : W (.fld F.ENG_TAG_JIDX)) (h15 : W (.fld F.ENG_TAG_STATE)) (h16 : W (.fld F.ENG_TAG_THREAD)) (h17 : W (.fld F.ENG_THR_STAT_CAUSE)) (h18 : W (.fld F.ENG_THR_STAT_PC)) (h19 : W (.fld F.ENG_THR_STAT_STATE)) (h20 : W (.fld F.PMC_INT_CAUSE_OVF)) (h21 : W (.fld F.PMC_INT_CAUSE_SMP_AVAIL)) (h22 : W (.fld F.PMC_INT_CAUSE_SMP_DROP)) (h23 : W (.fld F.PMC_OVF_STAT_OVF)) (h24 : W (.fld F.PMC_SMP_DROP_RING)) (h25 : W (.fld F.PMC_SMP_STAT_COUNT)) (h26 : W (.fld F.SE_SPILL_STAT_LOST)) (h27 : W (.fld H.ENG_JRNL)) (h28 : W (.fld H.ENG_JVALID)) (h29 : W (.fld H.ENG_PAST)) (h30 : W (.fld H.ENG_SPILL_CNT)) (h31 : W (.fld H.ENG_SPILL_MAP)) (h32 : W (.fld H.ENG_SPILL_POS)) (h33 : W (.fld H.PMC_CNT)) (h34 : W (.fld H.PMC_OVF_DUE)) (h35 : W (.fld H.PMC_OVF_SKID)) (h36 : W (.fld H.PMC_OVF_T)) (h37 : W (.fld H.PMC_OVF_THR)) (h38 : W (.fld H.PMC_RING)) (h39 : W (.fld H.PMC_TRACE_POS)) (a0 : Nat) (a1 : Bool) (a2 : Nat) (a3 : Nat) (h : Moves W s₀ s) :
    Moves W s₀ (Sys2Proof.Machine.Eng.qdr a0 a1 a2 a3 s) := by
  unfold Sys2Proof.Machine.Eng.qdr
  repeat' (first
    | with_reducible assumption
    | with_reducible apply Eng_issue_moves
    | with_reducible apply Eng_fault_moves
    | with_reducible apply Eng_launch_moves
    | intro _
    | split
    | (extract_lets +onlyGivenNames x; first
      | (refine Moves.keep (W := W) (s₀ := s₀) x ?_ ?_; rotate_left; intro hx; clear_value x; rotate_right)
      | (refine Moves.keep (W := W) (s₀ := s₀) x.2 ?_ ?_; rotate_left; intro hx; clear_value x; rotate_right)
      | (refine Moves.keep (W := W) (s₀ := s₀) x.1 ?_ ?_; rotate_left; intro hx; clear_value x; rotate_right)
      | skip))

theorem Eng_tagExhaust_moves {W : Part → Prop} {s₀ s : State} (h0 : W .qdr) (h1 : W (.fld F.ENG_INT_CAUSE_FAULT)) (h2 : W (.fld F.ENG_STAT_FAULTED)) (h3 : W (.fld F.ENG_STAT_RUNNING)) (h4 : W (.fld F.ENG_THR_STAT_CAUSE)) (h5 : W (.fld F.ENG_THR_STAT_STATE)) (h6 : W (.fld F.PMC_INT_CAUSE_OVF)) (h7 : W (.fld F.PMC_INT_CAUSE_SMP_AVAIL)) (h8 : W (.fld F.PMC_INT_CAUSE_SMP_DROP)) (h9 : W (.fld F.PMC_OVF_STAT_OVF)) (h10 : W (.fld F.PMC_SMP_DROP_RING)) (h11 : W (.fld F.PMC_SMP_STAT_COUNT)) (h12 : W (.fld H.PMC_CNT)) (h13 : W (.fld H.PMC_OVF_DUE)) (h14 : W (.fld H.PMC_OVF_SKID)) (h15 : W (.fld H.PMC_OVF_T)) (h16 : W (.fld H.PMC_OVF_THR)) (h17 : W (.fld H.PMC_RING)) (h18 : W (.fld H.PMC_TRACE_POS)) (a0 : Nat) (a1 : Nat) (h : Moves W s₀ s) :
    Moves W s₀ (Sys2Proof.Machine.Eng.tagExhaust a0 a1 s) := by
  unfold Sys2Proof.Machine.Eng.tagExhaust
  repeat' (first
    | with_reducible assumption
    | with_reducible apply Eng_fault_moves
    | intro _
    | split)

theorem Eng_accept_moves {W : Part → Prop} {s₀ s : State} (h0 : W .eng) (h1 : W (.fld F.ENG_TAG_STATE)) (h2 : W (.fld H.ENG_JRNL)) (a0 : Nat) (a1 : Nat) (h : Moves W s₀ s) :
    Moves W s₀ (Sys2Proof.Machine.Eng.accept a0 a1 s) := by
  unfold Sys2Proof.Machine.Eng.accept
  repeat' (first
    | with_reducible assumption
    | with_reducible apply Moves.put
    | intro _
    | split
    | (extract_lets +onlyGivenNames x; first
      | (refine Moves.keep (W := W) (s₀ := s₀) x ?_ ?_; rotate_left; intro hx; clear_value x; rotate_right)
      | (refine Moves.keep (W := W) (s₀ := s₀) x.2 ?_ ?_; rotate_left; intro hx; clear_value x; rotate_right)
      | (refine Moves.keep (W := W) (s₀ := s₀) x.1 ?_ ?_; rotate_left; intro hx; clear_value x; rotate_right)
      | skip)
    | (with_reducible refine Moves.eng _ ?_ ?_ <;> with_reducible first
      | assumption
      | apply Moves.put))

theorem Eng_acceptTimeout_moves {W : Part → Prop} {s₀ s : State} (h0 : W .eng) (h1 : W .qdr) (h2 : W (.fld F.ENG_GREG_VAL)) (h3 : W (.fld F.ENG_INT_CAUSE_ABORT)) (h4 : W (.fld F.ENG_STAT_FAULTED)) (h5 : W (.fld F.ENG_STAT_INFLIGHT)) (h6 : W (.fld F.ENG_STAT_RUNNING)) (h7 : W (.fld F.ENG_STAT_TAGS_USED)) (h8 : W (.fld F.ENG_TAG_ALLOC)) (h9 : W (.fld F.ENG_TAG_STATE)) (h10 : W (.fld F.ENG_THR_STAT_PC)) (h11 : W (.fld F.ENG_THR_STAT_STATE)) (h12 : W (.fld F.PMC_INT_CAUSE_OVF)) (h13 : W (.fld F.PMC_INT_CAUSE_SMP_AVAIL)) (h14 : W (.fld F.PMC_INT_CAUSE_SMP_DROP)) (h15 : W (.fld F.PMC_OVF_STAT_OVF)) (h16 : W (.fld F.PMC_SMP_DROP_RING)) (h17 : W (.fld F.PMC_SMP_STAT_COUNT)) (h18 : W (.fld H.ENG_JRNL)) (h19 : W (.fld H.ENG_PAST)) (h20 : W (.fld H.PMC_CNT)) (h21 : W (.fld H.PMC_OVF_DUE)) (h22 : W (.fld H.PMC_OVF_T)) (h23 : W (.fld H.PMC_RING)) (h24 : W (.fld H.PMC_TRACE_POS)) (a0 : Nat) (a1 : Nat) (h : Moves W s₀ s) :
    Moves W s₀ (Sys2Proof.Machine.Eng.acceptTimeout a0 a1 s) := by
  unfold Sys2Proof.Machine.Eng.acceptTimeout
  repeat' (first
    | with_reducible assumption
    | with_reducible apply Eng_finalise_moves
    | intro _
    | split)

theorem Eng_wait_moves {W : Part → Prop} {s₀ s : State} (h0 : W .qdr) (h1 : W (.fld F.ENG_GREG_VAL)) (h2 : W (.fld F.ENG_INT_CAUSE_FAULT)) (h3 : W (.fld F.ENG_STAT_FAULTED)) (h4 : W (.fld F.ENG_STAT_RUNNING)) (h5 : W (.fld F.ENG_STAT_TAGS_USED)) (h6 : W (.fld F.ENG_TAG_ALLOC)) (h7 : W (.fld F.ENG_THR_STAT_CAUSE)) (h8 : W (.fld F.ENG_THR_STAT_PC)) (h9 : W (.fld F.ENG_THR_STAT_STATE)) (h10 : W (.fld F.PMC_INT_CAUSE_OVF)) (h11 : W (.fld F.PMC_INT_CAUSE_SMP_AVAIL)) (h12 : W (.fld F.PMC_INT_CAUSE_SMP_DROP)) (h13 : W (.fld F.PMC_OVF_STAT_OVF)) (h14 : W (.fld F.PMC_SMP_DROP_RING)) (h15 : W (.fld F.PMC_SMP_STAT_COUNT)) (h16 : W (.fld H.ENG_EDGE)) (h17 : W (.fld H.ENG_PAST)) (h18 : W (.fld H.PMC_CNT)) (h19 : W (.fld H.PMC_OVF_DUE)) (h20 : W (.fld H.PMC_OVF_SKID)) (h21 : W (.fld H.PMC_OVF_T)) (h22 : W (.fld H.PMC_OVF_THR)) (h23 : W (.fld H.PMC_RING)) (h24 : W (.fld H.PMC_TRACE_POS)) (a0 : Nat) (a1 : Nat) (h : Moves W s₀ s) :
    Moves W s₀ (Sys2Proof.Machine.Eng.wait a0 a1 s) := by
  unfold Sys2Proof.Machine.Eng.wait
  repeat' (first
    | with_reducible assumption
    | with_reducible apply Moves.clr
    | with_reducible apply Eng_issue_moves
    | with_reducible apply Eng_fault_moves
    | with_reducible apply Eng_complete_moves
    | with_reducible apply Eng_releaseTag_moves
    | with_reducible apply Eng_enter_moves
    | with_reducible apply Eng_event_moves
    | with_reducible apply Eng_issued_moves
    | intro _
    | split)

theorem Eng_waitEnd_moves {W : Part → Prop} {s₀ s : State} (h0 : W (.fld F.ENG_GREG_VAL)) (h1 : W (.fld F.ENG_STAT_FAULTED)) (h2 : W (.fld F.ENG_STAT_RUNNING)) (h3 : W (.fld F.ENG_STAT_TAGS_USED)) (h4 : W (.fld F.ENG_TAG_ALLOC)) (h5 : W (.fld F.ENG_THR_STAT_PC)) (h6 : W (.fld F.ENG_THR_STAT_STATE)) (h7 : W (.fld H.ENG_PAST)) (a0 : Nat) (a1 : Nat) (h : Moves W s₀ s) :
    Moves W s₀ (Sys2Proof.Machine.Eng.waitEnd a0 a1 s) := by
  unfold Sys2Proof.Machine.Eng.waitEnd
  repeat' (first
    | with_reducible assumption
    | with_reducible apply Eng_resume_moves
    | with_reducible apply Eng_releaseTag_moves
    | intro _
    | split)

theorem Eng_waitTimeout_moves {W : Part → Prop} {s₀ s : State} (h0 : W (.fld F.ENG_GREG_VAL)) (h1 : W (.fld F.ENG_STAT_FAULTED)) (h2 : W (.fld F.ENG_STAT_RUNNING)) (h3 : W (.fld F.ENG_THR_STAT_PC)) (h4 : W (.fld F.ENG_THR_STAT_STATE)) (h5 : W (.fld H.ENG_PAST)) (a0 : Nat) (a1 : Nat) (h : Moves W s₀ s) :
    Moves W s₀ (Sys2Proof.Machine.Eng.waitTimeout a0 a1 s) := by
  unfold Sys2Proof.Machine.Eng.waitTimeout
  repeat' (first
    | with_reducible assumption
    | with_reducible apply Eng_resume_moves
    | intro _
    | split)

theorem Eng_edge_moves {W : Part → Prop} {s₀ s : State} (h0 : W (.fld H.ENG_EDGE)) (a0 : Nat) (h : Moves W s₀ s) :
    Moves W s₀ (Sys2Proof.Machine.Eng.edge a0 s) := by
  unfold Sys2Proof.Machine.Eng.edge
  repeat' (first
    | with_reducible assumption
    | with_reducible apply Moves.each
    | with_reducible apply Moves.set
    | intro _
    | split)

theorem Eng_fence_moves {W : Part → Prop} {s₀ s : State} (h0 : W .qdr) (h1 : W (.fld F.ENG_GREG_VAL)) (h2 : W (.fld F.ENG_INT_CAUSE_FAULT)) (h3 : W (.fld F.ENG_STAT_FAULTED)) (h4 : W (.fld F.ENG_STAT_RUNNING)) (h5 : W (.fld F.ENG_THR_STAT_CAUSE)) (h6 : W (.fld F.ENG_THR_STAT_PC)) (h7 : W (.fld F.ENG_THR_STAT_STATE)) (h8 : W (.fld F.PMC_INT_CAUSE_OVF)) (h9 : W (.fld F.PMC_INT_CAUSE_SMP_AVAIL)) (h10 : W (.fld F.PMC_INT_CAUSE_SMP_DROP)) (h11 : W (.fld F.PMC_OVF_STAT_OVF)) (h12 : W (.fld F.PMC_SMP_DROP_RING)) (h13 : W (.fld F.PMC_SMP_STAT_COUNT)) (h14 : W (.fld H.ENG_PAST)) (h15 : W (.fld H.PMC_CNT)) (h16 : W (.fld H.PMC_OVF_DUE)) (h17 : W (.fld H.PMC_OVF_SKID)) (h18 : W (.fld H.PMC_OVF_T)) (h19 : W (.fld H.PMC_OVF_THR)) (h20 : W (.fld H.PMC_RING)) (h21 : W (.fld H.PMC_TRACE_POS)) (a0 : Nat) (a1 : Nat) (h : Moves W s₀ s) :
    Moves W s₀ (Sys2Proof.Machine.Eng.fence a0 a1 s) := by
  unfold Sys2Proof.Machine.Eng.fence
  repeat' (first
    | with_reducible assumption
    | with_reducible apply Eng_issue_moves
    | with_reducible apply Eng_complete_moves
    | intro _
    | split)

theorem Eng_tstat_moves {W : Part → Prop} {s₀ s : State} (h0 : W .qdr) (h1 : W (.fld F.ENG_GREG_VAL)) (h2 : W (.fld F.ENG_INT_CAUSE_FAULT)) (h3 : W (.fld F.ENG_STAT_FAULTED)) (h4 : W (.fld F.ENG_STAT_RUNNING)) (h5 : W (.fld F.ENG_THR_STAT_CAUSE)) (h6 : W (.fld F.ENG_THR_STAT_PC)) (h7 : W (.fld F.ENG_THR_STAT_STATE)) (h8 : W (.fld F.PMC_INT_CAUSE_OVF)) (h9 : W (.fld F.PMC_INT_CAUSE_SMP_AVAIL)) (h10 : W (.fld F.PMC_INT_CAUSE_SMP_DROP)) (h11 : W (.fld F.PMC_OVF_STAT_OVF)) (h12 : W (.fld F.PMC_SMP_DROP_RING)) (h13 : W (.fld F.PMC_SMP_STAT_COUNT)) (h14 : W (.fld H.ENG_PAST)) (h15 : W (.fld H.PMC_CNT)) (h16 : W (.fld H.PMC_OVF_DUE)) (h17 : W (.fld H.PMC_OVF_SKID)) (h18 : W (.fld H.PMC_OVF_T)) (h19 : W (.fld H.PMC_OVF_THR)) (h20 : W (.fld H.PMC_RING)) (h21 : W (.fld H.PMC_TRACE_POS)) (a0 : Nat) (a1 : Nat) (h : Moves W s₀ s) :
    Moves W s₀ (Sys2Proof.Machine.Eng.tstat a0 a1 s) := by
  unfold Sys2Proof.Machine.Eng.tstat
  repeat' (first
    | with_reducible assumption
    | with_reducible apply Eng_issue_moves
    | with_reducible apply Eng_complete_moves
    | with_reducible apply Eng_fault_moves
    | intro _
    | split
    | (extract_lets +onlyGivenNames x; first
      | (refine Moves.keep (W := W) (s₀ := s₀) x ?_ ?_; rotate_left; intro hx; clear_value x; rotate_right)
      | (refine Moves.keep (W := W) (s₀ := s₀) x.2 ?_ ?_; rotate_left; intro hx; clear_value x; rotate_right)
      | (refine Moves.keep (W := W) (s₀ := s₀) x.1 ?_ ?_; rotate_left; intro hx; clear_value x; rotate_right)
      | skip))

theorem Eng_makeAuto_moves {W : Part → Prop} {s₀ s : State} (h0 : W (.fld F.ENG_TAG_AUTO)) (h1 : W (.fld H.ENG_JRNL)) (a0 : Nat) (a1 : Nat) (h : Moves W s₀ s) :
    Moves W s₀ (Sys2Proof.Machine.Eng.makeAuto a0 a1 s) := by
  unfold Sys2Proof.Machine.Eng.makeAuto
  repeat' (first
    | with_reducible assumption
    | with_reducible apply Moves.set
    | with_reducible apply Moves.setBit
    | intro _
    | (extract_lets +onlyGivenNames x; first
      | (refine Moves.keep (W := W) (s₀ := s₀) x ?_ ?_; rotate_left; intro hx; clear_value x; rotate_right)
      | (refine Moves.keep (W := W) (s₀ := s₀) x.2 ?_ ?_; rotate_left; intro hx; clear_value x; rotate_right)
      | (refine Moves.keep (W := W) (s₀ := s₀) x.1 ?_ ?_; rotate_left; intro hx; clear_value x; rotate_right)
      | skip))

theorem Eng_letGo_moves {W : Part → Prop} {s₀ s : State} (h0 : W (.fld F.ENG_STAT_TAGS_USED)) (h1 : W (.fld F.ENG_TAG_ALLOC)) (h2 : W (.fld F.ENG_TAG_AUTO)) (h3 : W (.fld H.ENG_JRNL)) (a0 : Nat) (a1 : Nat) (h : Moves W s₀ s) :
    Moves W s₀ (Sys2Proof.Machine.Eng.letGo a0 a1 s) := by
  unfold Sys2Proof.Machine.Eng.letGo
  repeat' (first
    | with_reducible assumption
    | with_reducible apply Eng_releaseTag_moves
    | with_reducible apply Eng_makeAuto_moves
    | intro _
    | split)

theorem Eng_trel_moves {W : Part → Prop} {s₀ s : State} (h0 : W .qdr) (h1 : W (.fld F.ENG_GREG_VAL)) (h2 : W (.fld F.ENG_INT_CAUSE_FAULT)) (h3 : W (.fld F.ENG_STAT_FAULTED)) (h4 : W (.fld F.ENG_STAT_RUNNING)) (h5 : W (.fld F.ENG_STAT_TAGS_USED)) (h6 : W (.fld F.ENG_TAG_ALLOC)) (h7 : W (.fld F.ENG_TAG_AUTO)) (h8 : W (.fld F.ENG_THR_STAT_CAUSE)) (h9 : W (.fld F.ENG_THR_STAT_PC)) (h10 : W (.fld F.ENG_THR_STAT_STATE)) (h11 : W (.fld F.PMC_INT_CAUSE_OVF)) (h12 : W (.fld F.PMC_INT_CAUSE_SMP_AVAIL)) (h13 : W (.fld F.PMC_INT_CAUSE_SMP_DROP)) (h14 : W (.fld F.PMC_OVF_STAT_OVF)) (h15 : W (.fld F.PMC_SMP_DROP_RING)) (h16 : W (.fld F.PMC_SMP_STAT_COUNT)) (h17 : W (.fld H.ENG_JRNL)) (h18 : W (.fld H.ENG_PAST)) (h19 : W (.fld H.PMC_CNT)) (h20 : W (.fld H.PMC_OVF_DUE)) (h21 : W (.fld H.PMC_OVF_SKID)) (h22 : W (.fld H.PMC_OVF_T)) (h23 : W (.fld H.PMC_OVF_THR)) (h24 : W (.fld H.PMC_RING)) (h25 : W (.fld H.PMC_TRACE_POS)) (a0 : Nat) (a1 : Nat) (h : Moves W s₀ s) :
    Moves W s₀ (Sys2Proof.Machine.Eng.trel a0 a1 s) := by
  unfold Sys2Proof.Machine.Eng.trel
  repeat' (first
    | with_reducible assumption
    | with_reducible apply Eng_issue_moves
    | with_reducible apply Eng_complete_moves
    | with_reducible apply Eng_letGo_moves
    | with_reducible apply Eng_fault_moves
    | intro _
    | split
    | (extract_lets +onlyGivenNames x; first
      | (refine Moves.keep (W := W) (s₀ := s₀) x ?_ ?_; rotate_left; intro hx; clear_value x; rotate_right)
      | (refine Moves.keep (W := W) (s₀ := s₀) x.2 ?_ ?_; rotate_left; intro hx; clear_value x; rotate_right)
      | (refine Moves.keep (W := W) (s₀ := s₀) x.1 ?_ ?_; rotate_left; intro hx; clear_value x; rotate_right)
      | skip))

theorem Eng_sys_moves {W : Part → Prop} {s₀ s : State} (h0 : W .qdr) (h1 : W (.fld F.ENG_INT_CAUSE_FAULT)) (h2 : W (.fld F.ENG_STAT_FAULTED)) (h3 : W (.fld F.ENG_STAT_RUNNING)) (h4 : W (.fld F.ENG_THR_STAT_CAUSE)) (h5 : W (.fld F.ENG_THR_STAT_STATE)) (h6 : W (.fld F.PMC_INT_CAUSE_OVF)) (h7 : W (.fld F.PMC_INT_CAUSE_SMP_AVAIL)) (h8 : W (.fld F.PMC_INT_CAUSE_SMP_DROP)) (h9 : W (.fld F.PMC_OVF_STAT_OVF)) (h10 : W (.fld F.PMC_SMP_DROP_RING)) (h11 : W (.fld F.PMC_SMP_STAT_COUNT)) (h12 : W (.fld H.PMC_CNT)) (h13 : W (.fld H.PMC_OVF_DUE)) (h14 : W (.fld H.PMC_OVF_SKID)) (h15 : W (.fld H.PMC_OVF_T)) (h16 : W (.fld H.PMC_OVF_THR)) (h17 : W (.fld H.PMC_RING)) (h18 : W (.fld H.PMC_TRACE_POS)) (a0 : Nat) (a1 : Nat → Sys2Proof.Machine.State → Sys2Proof.Machine.State) (a2 : Nat) (a3 : Nat) (hf1 : ∀ b0 b1, Moves W s₀ b1 → Moves W s₀ (a1 b0 b1)) (h : Moves W s₀ s) :
    Moves W s₀ (Sys2Proof.Machine.Eng.sys a0 a1 a2 a3 s) := by
  unfold Sys2Proof.Machine.Eng.sys
  repeat' (first
    | with_reducible assumption
    | with_reducible apply Eng_issue_moves
    | with_reducible apply hf1
    | intro _)

theorem Eng_halt_moves {W : Part → Prop} {s₀ s : State} (h0 : W .qdr) (h1 : W (.fld F.ENG_INT_CAUSE_FAULT)) (h2 : W (.fld F.ENG_INT_CAUSE_HALT)) (h3 : W (.fld F.ENG_STAT_FAULTED)) (h4 : W (.fld F.ENG_STAT_RUNNING)) (h5 : W (.fld F.ENG_THR_STAT_CAUSE)) (h6 : W (.fld F.ENG_THR_STAT_STATE)) (h7 : W (.fld F.PMC_INT_CAUSE_OVF)) (h8 : W (.fld F.PMC_INT_CAUSE_SMP_AVAIL)) (h9 : W (.fld F.PMC_INT_CAUSE_SMP_DROP)) (h10 : W (.fld F.PMC_OVF_STAT_OVF)) (h11 : W (.fld F.PMC_SMP_DROP_RING)) (h12 : W (.fld F.PMC_SMP_STAT_COUNT)) (h13 : W (.fld H.PMC_CNT)) (h14 : W (.fld H.PMC_OVF_DUE)) (h15 : W (.fld H.PMC_OVF_SKID)) (h16 : W (.fld H.PMC_OVF_T)) (h17 : W (.fld H.PMC_OVF_THR)) (h18 : W (.fld H.PMC_RING)) (h19 : W (.fld H.PMC_TRACE_POS)) (a0 : Nat) (a1 : Nat) (h : Moves W s₀ s) :
    Moves W s₀ (Sys2Proof.Machine.Eng.halt a0 a1 s) := by
  unfold Sys2Proof.Machine.Eng.halt
  repeat' (first
    | with_reducible assumption
    | with_reducible apply Moves.set
    | with_reducible apply Eng_sys_moves
    | with_reducible apply Eng_enter_moves
    | with_reducible apply Eng_issued_moves
    | intro _)

theorem Eng_yield__moves {W : Part → Prop} {s₀ s : State} (h0 : W .qdr) (h1 : W (.fld F.ENG_GREG_VAL)) (h2 : W (.fld F.ENG_INT_CAUSE_FAULT)) (h3 : W (.fld F.ENG_STAT_FAULTED)) (h4 : W (.fld F.ENG_STAT_RUNNING)) (h5 : W (.fld F.ENG_THR_STAT_CAUSE)) (h6 : W (.fld F.ENG_THR_STAT_PC)) (h7 : W (.fld F.ENG_THR_STAT_STATE)) (h8 : W (.fld F.PMC_INT_CAUSE_OVF)) (h9 : W (.fld F.PMC_INT_CAUSE_SMP_AVAIL)) (h10 : W (.fld F.PMC_INT_CAUSE_SMP_DROP)) (h11 : W (.fld F.PMC_OVF_STAT_OVF)) (h12 : W (.fld F.PMC_SMP_DROP_RING)) (h13 : W (.fld F.PMC_SMP_STAT_COUNT)) (h14 : W (.fld H.ENG_PAST)) (h15 : W (.fld H.PMC_CNT)) (h16 : W (.fld H.PMC_OVF_DUE)) (h17 : W (.fld H.PMC_OVF_SKID)) (h18 : W (.fld H.PMC_OVF_T)) (h19 : W (.fld H.PMC_OVF_THR)) (h20 : W (.fld H.PMC_RING)) (h21 : W (.fld H.PMC_TRACE_POS)) (a0 : Nat) (a1 : Nat) (h : Moves W s₀ s) :
    Moves W s₀ (Sys2Proof.Machine.Eng.yield_ a0 a1 s) := by
  unfold Sys2Proof.Machine.Eng.yield_
  repeat' (first
    | with_reducible assumption
    | with_reducible apply Eng_sys_moves
    | with_reducible apply Eng_complete_moves
    | intro _)

theorem Eng_setFlag_moves {W : Part → Prop} {s₀ s : State} (h0 : W .qdr) (h1 : W (.fld F.ENG_FLAGS_FLAG)) (h2 : W (.fld F.ENG_GREG_VAL)) (h3 : W (.fld F.ENG_INT_CAUSE_FAULT)) (h4 : W (.fld F.ENG_STAT_FAULTED)) (h5 : W (.fld F.ENG_STAT_RUNNING)) (h6 : W (.fld F.ENG_THR_STAT_CAUSE)) (h7 : W (.fld F.ENG_THR_STAT_PC)) (h8 : W (.fld F.ENG_THR_STAT_STATE)) (h9 : W (.fld F.PMC_INT_CAUSE_OVF)) (h10 : W (.fld F.PMC_INT_CAUSE_SMP_AVAIL)) (h11 : W (.fld F.PMC_INT_CAUSE_SMP_DROP)) (h12 : W (.fld F.PMC_OVF_STAT_OVF)) (h13 : W (.fld F.PMC_SMP_DROP_RING)) (h14 : W (.fld F.PMC_SMP_STAT_COUNT)) (h15 : W (.fld H.ENG_PAST)) (h16 : W (.fld H.PMC_CNT)) (h17 : W (.fld H.PMC_OVF_DUE)) (h18 : W (.fld H.PMC_OVF_SKID)) (h19 : W (.fld H.PMC_OVF_T)) (h20 : W (.fld H.PMC_OVF_THR)) (h21 : W (.fld H.PMC_RING)) (h22 : W (.fld H.PMC_TRACE_POS)) (a0 : Bool) (a1 : Nat) (a2 : Nat) (h : Moves W s₀ s) :
    Moves W s₀ (Sys2Proof.Machine.Eng.setFlag a0 a1 a2 s) := by
  unfold Sys2Proof.Machine.Eng.setFlag
  repeat' (first
    | with_reducible assumption
    | with_reducible apply Moves.putBit
    | with_reducible apply Eng_sys_moves
    | with_reducible apply Eng_complete_moves
    | intro _
    | split)

theorem Eng_drop_moves {W : Part → Prop} {s₀ s : State} (h0 : W .qdr) (h1 : W (.fld F.ENG_GREG_VAL)) (h2 : W (.fld F.ENG_INT_CAUSE_FAULT)) (h3 : W (.fld F.ENG_STAT_FAULTED)) (h4 : W (.fld F.ENG_STAT_RUNNING)) (h5 : W (.fld F.ENG_THR_STAT_CAUSE)) (h6 : W (.fld F.ENG_THR_STAT_PC)) (h7 : W (.fld F.ENG_THR_STAT_STATE)) (h8 : W (.fld F.ENG_THR_SUPER)) (h9 : W (.fld F.PMC_INT_CAUSE_OVF)) (h10 : W (.fld F.PMC_INT_CAUSE_SMP_AVAIL)) (h11 : W (.fld F.PMC_INT_CAUSE_SMP_DROP)) (h12 : W (.fld F.PMC_OVF_STAT_OVF)) (h13 : W (.fld F.PMC_SMP_DROP_RING)) (h14 : W (.fld F.PMC_SMP_STAT_COUNT)) (h15 : W (.fld H.ENG_PAST)) (h16 : W (.fld H.PMC_CNT)) (h17 : W (.fld H.PMC_OVF_DUE)) (h18 : W (.fld H.PMC_OVF_SKID)) (h19 : W (.fld H.PMC_OVF_T)) (h20 : W (.fld H.PMC_OVF_THR)) (h21 : W (.fld H.PMC_RING)) (h22 : W (.fld H.PMC_TRACE_POS)) (a0 : Nat) (a1 : Nat) (h : Moves W s₀ s) :
    Moves W s₀ (Sys2Proof.Machine.Eng.drop a0 a1 s) := by
  unfold Sys2Proof.Machine.Eng.drop
  repeat' (first
    | with_reducible assumption
    | with_reducible apply Moves.clr
    | with_reducible apply Eng_sys_moves
    | with_reducible apply Eng_complete_moves
    | intro _)

theorem Eng_self_moves {W : Part → Prop} {s₀ s : State} (h0 : W .qdr) (h1 : W (.fld F.ENG_GREG_VAL)) (h2 : W (.fld F.ENG_INT_CAUSE_FAULT)) (h3 : W (.fld F.ENG_STAT_FAULTED)) (h4 : W (.fld F.ENG_STAT_RUNNING)) (h5 : W (.fld F.ENG_THR_STAT_CAUSE)) (h6 : W (.fld F.ENG_THR_STAT_PC)) (h7 : W (.fld F.ENG_THR_STAT_STATE)) (h8 : W (.fld F.PMC_INT_CAUSE_OVF)) (h9 : W (.fld F.PMC_INT_CAUSE_SMP_AVAIL)) (h10 : W (.fld F.PMC_INT_CAUSE_SMP_DROP)) (h11 : W (.fld F.PMC_OVF_STAT_OVF)) (h12 : W (.fld F.PMC_SMP_DROP_RING)) (h13 : W (.fld F.PMC_SMP_STAT_COUNT)) (h14 : W (.fld H.ENG_PAST)) (h15 : W (.fld H.PMC_CNT)) (h16 : W (.fld H.PMC_OVF_DUE)) (h17 : W (.fld H.PMC_OVF_SKID)) (h18 : W (.fld H.PMC_OVF_T)) (h19 : W (.fld H.PMC_OVF_THR)) (h20 : W (.fld H.PMC_RING)) (h21 : W (.fld H.PMC_TRACE_POS)) (a0 : Nat) (a1 : Nat) (h : Moves W s₀ s) :
    Moves W s₀ (Sys2Proof.Machine.Eng.self a0 a1 s) := by
  unfold Sys2Proof.Machine.Eng.self
  repeat' (first
    | with_reducible assumption
    | with_reducible apply Eng_sys_moves
    | with_reducible apply Eng_complete_moves
    | intro _)

theorem Eng_launchThread_moves {W : Part → Prop} {s₀ s : State} (h0 : W (.fld F.ENG_STAT_FAULTED)) (h1 : W (.fld F.ENG_STAT_RUNNING)) (h2 : W (.fld F.ENG_STAT_TAGS_USED)) (h3 : W (.fld F.ENG_TAG_ALLOC)) (h4 : W (.fld F.ENG_TAG_AUTO)) (h5 : W (.fld F.ENG_THR_STAT_CAUSE)) (h6 : W (.fld F.ENG_THR_STAT_PC)) (h7 : W (.fld F.ENG_THR_STAT_STATE)) (h8 : W (.fld H.ENG_JRNL)) (h9 : W (.fld H.ENG_PAST)) (a0 : Nat) (a1 : Nat) (h : Moves W s₀ s) :
    Moves W s₀ (Sys2Proof.Machine.Eng.launchThread a0 a1 s) := by
  unfold Sys2Proof.Machine.Eng.launchThread
  repeat' (first
    | with_reducible assumption
    | with_reducible apply Moves.clr
    | with_reducible apply Moves.each
    | with_reducible apply Moves.put
    | with_reducible apply Eng_letGo_moves
    | with_reducible apply Eng_enter_moves
    | intro _
    | split
    | (extract_lets +onlyGivenNames x; first
      | (refine Moves.keep (W := W) (s₀ := s₀) x ?_ ?_; rotate_left; intro hx; clear_value x; rotate_right)
      | (refine Moves.keep (W := W) (s₀ := s₀) x.2 ?_ ?_; rotate_left; intro hx; clear_value x; rotate_right)
      | (refine Moves.keep (W := W) (s₀ := s₀) x.1 ?_ ?_; rotate_left; intro hx; clear_value x; rotate_right)
      | skip))

theorem Eng_start_moves {W : Part → Prop} {s₀ s : State} (h0 : W (.fld F.ENG_STAT_FAULTED)) (h1 : W (.fld F.ENG_STAT_RUNNING)) (h2 : W (.fld F.ENG_STAT_TAGS_USED)) (h3 : W (.fld F.ENG_TAG_ALLOC)) (h4 : W (.fld F.ENG_TAG_AUTO)) (h5 : W (.fld F.ENG_THR_STAT_CAUSE)) (h6 : W (.fld F.ENG_THR_STAT_PC)) (h7 : W (.fld F.ENG_THR_STAT_STATE)) (h8 : W (.fld F.SYS_INT_CAUSE_ROLE_LIMIT)) (h9 : W (.fld H.ENG_JRNL)) (h10 : W (.fld H.ENG_PAST)) (a0 : Nat) (a1 : Nat) (h : Moves W s₀ s) :
    Moves W s₀ (Sys2Proof.Machine.Eng.start a0 a1 s) := by
  unfold Sys2Proof.Machine.Eng.start
  repeat' (first
    | with_reducible assumption
    | with_reducible apply Moves.set
    | with_reducible apply Eng_launchThread_moves
    | intro _
    | split)

theorem Eng_stop_moves {W : Part → Prop} {s₀ s : State} (h0 : W (.fld F.ENG_STAT_FAULTED)) (h1 : W (.fld F.ENG_STAT_RUNNING)) (h2 : W (.fld F.ENG_THR_STAT_STATE)) (a0 : Nat) (a1 : Nat) (h : Moves W s₀ s) :
    Moves W s₀ (Sys2Proof.Machine.Eng.stop a0 a1 s) := by
  unfold Sys2Proof.Machine.Eng.stop
  repeat' (first
    | with_reducible assumption
    | with_reducible apply Eng_enter_moves
    | intro _
    | split)

theorem Eng_memNext_moves {W : Part → Prop} {s₀ s : State} (h0 : W (.fld F.ENG_MEM_ADDR_ADDR)) (a0 : Nat) (h : Moves W s₀ s) :
    Moves W s₀ (Sys2Proof.Machine.Eng.memNext a0 s) := by
  unfold Sys2Proof.Machine.Eng.memNext
  repeat' (first
    | with_reducible assumption
    | with_reducible apply Moves.put
    | intro _)

theorem Eng_memRead_moves {W : Part → Prop} {s₀ s : State} (h0 : W (.fld F.ENG_MEM_ADDR_ADDR)) (a0 : Nat) (h : Moves W s₀ s) :
    Moves W s₀ (Sys2Proof.Machine.Eng.memRead a0 s).2 := by
  unfold Sys2Proof.Machine.Eng.memRead
  repeat' (first
    | with_reducible assumption
    | with_reducible apply Eng_memNext_moves
    | intro _
    | split
    | (extract_lets +onlyGivenNames x; first
      | (refine Moves.keep (W := W) (s₀ := s₀) x ?_ ?_; rotate_left; intro hx; clear_value x; rotate_right)
      | (refine Moves.keep (W := W) (s₀ := s₀) x.2 ?_ ?_; rotate_left; intro hx; clear_value x; rotate_right)
      | (refine Moves.keep (W := W) (s₀ := s₀) x.1 ?_ ?_; rotate_left; intro hx; clear_value x; rotate_right)
      | skip))

theorem Eng_memWrite_moves {W : Part → Prop} {s₀ s : State} (h0 : W (.fld F.ENG_INT_CAUSE_MEM_REFUSED)) (h1 : W (.fld F.ENG_MEM_ADDR_ADDR)) (h2 : W (.fld H.ENG_DMEM)) (h3 : W (.fld H.ENG_IMEM)) (a0 : Nat) (a1 : Nat) (h : Moves W s₀ s) :
    Moves W s₀ (Sys2Proof.Machine.Eng.memWrite a0 a1 s) := by
  unfold Sys2Proof.Machine.Eng.memWrite
  repeat' (first
    | with_reducible assumption
    | with_reducible apply Moves.put
    | with_reducible apply Moves.set
    | with_reducible apply Eng_memNext_moves
    | intro _
    | split
    | (extract_lets +onlyGivenNames x; first
      | (refine Moves.keep (W := W) (s₀ := s₀) x ?_ ?_; rotate_left; intro hx; clear_value x; rotate_right)
      | (refine Moves.keep (W := W) (s₀ := s₀) x.2 ?_ ?_; rotate_left; intro hx; clear_value x; rotate_right)
      | (refine Moves.keep (W := W) (s₀ := s₀) x.1 ?_ ?_; rotate_left; intro hx; clear_value x; rotate_right)
      | skip))

end Sys2Proof.Laws
end

