-- ==== Sys2Proof/Laws/MovesFlt.lean ====
section
/-! SUPPORT. Sys2Proof/Laws/MovesFlt.lean: what each operation of Machine/Flt.lean may write (Laws/Moves.lean). -/
namespace Sys2Proof.Laws
open Sys2Proof Sys2Proof.Machine

theorem Flt_sat_moves {W : Part → Prop} {s₀ s : State} (h0 : W (.fld F.FLT_CH_STAT_SAT)) (a0 : Nat) (a1 : Int) (h : Moves W s₀ s) :
    Moves W s₀ (Sys2Proof.Machine.Flt.sat a0 a1 s).2 := by
  unfold Sys2Proof.Machine.Flt.sat
  repeat' (first
    | with_reducible assumption
    | with_reducible apply Moves.set
    | intro _
    | split)

theorem Flt_setChan_moves {W : Part → Prop} {s₀ s : State} (h0 : W .flt) (a0 : Nat) (a1 : Sys2Proof.Machine.FltChan) (h : Moves W s₀ s) :
    Moves W s₀ (Sys2Proof.Machine.Flt.setChan a0 a1 s) := by
  unfold Sys2Proof.Machine.Flt.setChan
  repeat' (first
    | with_reducible assumption
    | intro _
    | (with_reducible refine Moves.flt _ ?_ ?_ <;> with_reducible first
      | assumption))

theorem Flt_median_moves {W : Part → Prop} {s₀ s : State} (h0 : W .flt) (a0 : Nat) (a1 : Int) (h : Moves W s₀ s) :
    Moves W s₀ (Sys2Proof.Machine.Flt.median a0 a1 s).2 := by
  unfold Sys2Proof.Machine.Flt.median
  repeat' (first
    | with_reducible assumption
    | with_reducible apply Flt_setChan_moves
    | intro _
    | (extract_lets +onlyGivenNames x; first
      | (refine Moves.keep (W := W) (s₀ := s₀) x ?_ ?_; rotate_left; intro hx; clear_value x; rotate_right)
      | (refine Moves.keep (W := W) (s₀ := s₀) x.2 ?_ ?_; rotate_left; intro hx; clear_value x; rotate_right)
      | (refine Moves.keep (W := W) (s₀ := s₀) x.1 ?_ ?_; rotate_left; intro hx; clear_value x; rotate_right)
      | skip))

theorem Flt_cic_moves {W : Part → Prop} {s₀ s : State} (h0 : W .flt) (h1 : W (.fld F.FLT_CH_STAT_SAT)) (h2 : W (.fld H.FLT_PHASE)) (a0 : Nat) (a1 : Int) (h : Moves W s₀ s) :
    Moves W s₀ (Sys2Proof.Machine.Flt.cic a0 a1 s).2 := by
  unfold Sys2Proof.Machine.Flt.cic
  repeat' (first
    | with_reducible assumption
    | with_reducible apply Moves.clr
    | with_reducible apply Moves.put
    | with_reducible apply Flt_setChan_moves
    | with_reducible apply Flt_sat_moves
    | intro _
    | split
    | (extract_lets +onlyGivenNames x; first
      | (refine Moves.keep (W := W) (s₀ := s₀) x ?_ ?_; rotate_left; intro hx; clear_value x; rotate_right)
      | (refine Moves.keep (W := W) (s₀ := s₀) x.2 ?_ ?_; rotate_left; intro hx; clear_value x; rotate_right)
      | (refine Moves.keep (W := W) (s₀ := s₀) x.1 ?_ ?_; rotate_left; intro hx; clear_value x; rotate_right)
      | skip))

theorem Flt_lockSign_moves {W : Part → Prop} {s₀ s : State} (h0 : W .flt) (a0 : Nat) (h : Moves W s₀ s) :
    Moves W s₀ (Sys2Proof.Machine.Flt.lockSign a0 s).2 := by
  unfold Sys2Proof.Machine.Flt.lockSign
  repeat' (first
    | with_reducible assumption
    | with_reducible apply Flt_setChan_moves
    | intro _
    | split
    | (extract_lets +onlyGivenNames x; first
      | (refine Moves.keep (W := W) (s₀ := s₀) x ?_ ?_; rotate_left; intro hx; clear_value x; rotate_right)
      | (refine Moves.keep (W := W) (s₀ := s₀) x.2 ?_ ?_; rotate_left; intro hx; clear_value x; rotate_right)
      | (refine Moves.keep (W := W) (s₀ := s₀) x.1 ?_ ?_; rotate_left; intro hx; clear_value x; rotate_right)
      | skip))

theorem Flt_take_moves {W : Part → Prop} {s₀ s : State} (h0 : W .flt) (h1 : W (.fld F.FLT_CH_STAT_SAT)) (h2 : W (.fld H.FLT_DUE)) (h3 : W (.fld H.FLT_DUE_VAL)) (h4 : W (.fld H.FLT_PHASE)) (h5 : W (.fld H.FLT_SAMPLES)) (a0 : Nat) (a1 : Int) (h : Moves W s₀ s) :
    Moves W s₀ (Sys2Proof.Machine.Flt.take a0 a1 s) := by
  unfold Sys2Proof.Machine.Flt.take
  repeat' (first
    | with_reducible assumption
    | with_reducible apply Moves.count
    | with_reducible apply Moves.set
    | with_reducible apply Moves.sput
    | with_reducible apply Flt_lockSign_moves
    | with_reducible apply Flt_median_moves
    | with_reducible apply Flt_cic_moves
    | intro _
    | split
    | (extract_lets +onlyGivenNames x; first
      | (refine Moves.keep (W := W) (s₀ := s₀) x ?_ ?_; rotate_left; intro hx; clear_value x; rotate_right)
      | (refine Moves.keep (W := W) (s₀ := s₀) x.2 ?_ ?_; rotate_left; intro hx; clear_value x; rotate_right)
      | (refine Moves.keep (W := W) (s₀ := s₀) x.1 ?_ ?_; rotate_left; intro hx; clear_value x; rotate_right)
      | skip)
    | (have hx := congrArg Prod.snd ‹_ = (_, _)›; dsimp only at hx; subst hx))

theorem Flt_fadeDone_moves {W : Part → Prop} {s₀ s : State} (h0 : W (.fld F.FLT_CH_STAT_BANK)) (h1 : W (.fld F.FLT_CH_STAT_FADING)) (h2 : W (.fld F.FLT_CH_STAT_SWAP_HELD)) (h3 : W (.fld F.FLT_FIR_C)) (h4 : W (.fld F.FLT_INT_CAUSE_FADE_DONE)) (h5 : W (.fld H.FLT_FADE_I)) (h6 : W (.fld H.FLT_FADE_L)) (h7 : W (.fld H.FLT_SWAP_DUE)) (h8 : W (.fld H.FLT_TAP)) (a0 : Nat) (h : Moves W s₀ s) :
    Moves W s₀ (Sys2Proof.Machine.Flt.fadeDone a0 s) := by
  unfold Sys2Proof.Machine.Flt.fadeDone
  repeat' (first
    | with_reducible assumption
    | with_reducible apply Moves.clr
    | with_reducible apply Moves.each
    | with_reducible apply Moves.put
    | with_reducible apply Moves.set
    | with_reducible apply Moves.setBit
    | intro _
    | split
    | (extract_lets +onlyGivenNames x; first
      | (refine Moves.keep (W := W) (s₀ := s₀) x ?_ ?_; rotate_left; intro hx; clear_value x; rotate_right)
      | (refine Moves.keep (W := W) (s₀ := s₀) x.2 ?_ ?_; rotate_left; intro hx; clear_value x; rotate_right)
      | (refine Moves.keep (W := W) (s₀ := s₀) x.1 ?_ ?_; rotate_left; intro hx; clear_value x; rotate_right)
      | skip))

theorem Flt_fadeStart_moves {W : Part → Prop} {s₀ s : State} (h0 : W (.fld F.FLT_CH_STAT_FADING)) (h1 : W (.fld H.FLT_FADE_I)) (h2 : W (.fld H.FLT_SWAP_DUE)) (a0 : Nat) (h : Moves W s₀ s) :
    Moves W s₀ (Sys2Proof.Machine.Flt.fadeStart a0 s) := by
  unfold Sys2Proof.Machine.Flt.fadeStart
  repeat' (first
    | with_reducible assumption
    | with_reducible apply Moves.clr
    | with_reducible apply Moves.set
    | intro _
    | split)

theorem Flt_swap_moves {W : Part → Prop} {s₀ s : State} (h0 : W (.fld F.FLT_CH_STAT_SWAP_HELD)) (h1 : W (.fld H.FLT_FADE_L)) (h2 : W (.fld H.FLT_SWAP_DUE)) (a0 : Nat) (h : Moves W s₀ s) :
    Moves W s₀ (Sys2Proof.Machine.Flt.swap a0 s) := by
  unfold Sys2Proof.Machine.Flt.swap
  repeat' (first
    | with_reducible assumption
    | with_reducible apply Moves.put
    | with_reducible apply Moves.set
    | intro _
    | split)

theorem Flt_fir_moves {W : Part → Prop} {s₀ s : State} (h0 : W .flt) (h1 : W (.fld F.FLT_CH_STAT_FADING)) (h2 : W (.fld F.FLT_CH_STAT_SAT)) (h3 : W (.fld H.FLT_FADE_I)) (h4 : W (.fld H.FLT_SWAP_DUE)) (a0 : Nat) (a1 : Int) (h : Moves W s₀ s) :
    Moves W s₀ (Sys2Proof.Machine.Flt.fir a0 a1 s).2 := by
  unfold Sys2Proof.Machine.Flt.fir
  repeat' (first
    | with_reducible assumption
    | with_reducible apply Moves.put
    | with_reducible apply Flt_fadeStart_moves
    | with_reducible apply Flt_setChan_moves
    | with_reducible apply Flt_sat_moves
    | intro _
    | split
    | (extract_lets +onlyGivenNames x; first
      | (refine Moves.keep (W := W) (s₀ := s₀) x ?_ ?_; rotate_left; intro hx; clear_value x; rotate_right)
      | (refine Moves.keep (W := W) (s₀ := s₀) x.2 ?_ ?_; rotate_left; intro hx; clear_value x; rotate_right)
      | (refine Moves.keep (W := W) (s₀ := s₀) x.1 ?_ ?_; rotate_left; intro hx; clear_value x; rotate_right)
      | skip))

theorem Flt_peak_moves {W : Part → Prop} {s₀ s : State} (h0 : W (.fld F.FLT_PEAK_VAL)) (h1 : W (.fld H.FLT_HOLD_CNT)) (a0 : Nat) (a1 : Int) (h : Moves W s₀ s) :
    Moves W s₀ (Sys2Proof.Machine.Flt.peak a0 a1 s) := by
  unfold Sys2Proof.Machine.Flt.peak
  repeat' (first
    | with_reducible assumption
    | with_reducible apply Moves.clr
    | with_reducible apply Moves.count
    | with_reducible apply Moves.sput
    | intro _
    | split
    | (extract_lets +onlyGivenNames x; first
      | (refine Moves.keep (W := W) (s₀ := s₀) x ?_ ?_; rotate_left; intro hx; clear_value x; rotate_right)
      | (refine Moves.keep (W := W) (s₀ := s₀) x.2 ?_ ?_; rotate_left; intro hx; clear_value x; rotate_right)
      | (refine Moves.keep (W := W) (s₀ := s₀) x.1 ?_ ?_; rotate_left; intro hx; clear_value x; rotate_right)
      | skip))

theorem Flt_rms_moves {W : Part → Prop} {s₀ s : State} (h0 : W (.fld F.FLT_RMS_VAL)) (h1 : W (.fld H.FLT_RMS_CNT)) (h2 : W (.fld H.FLT_RMS_SUM)) (a0 : Nat) (a1 : Int) (h : Moves W s₀ s) :
    Moves W s₀ (Sys2Proof.Machine.Flt.rms a0 a1 s) := by
  unfold Sys2Proof.Machine.Flt.rms
  repeat' (first
    | with_reducible assumption
    | with_reducible apply Moves.clr
    | with_reducible apply Moves.put
    | intro _
    | split
    | (extract_lets +onlyGivenNames x; first
      | (refine Moves.keep (W := W) (s₀ := s₀) x ?_ ?_; rotate_left; intro hx; clear_value x; rotate_right)
      | (refine Moves.keep (W := W) (s₀ := s₀) x.2 ?_ ?_; rotate_left; intro hx; clear_value x; rotate_right)
      | (refine Moves.keep (W := W) (s₀ := s₀) x.1 ?_ ?_; rotate_left; intro hx; clear_value x; rotate_right)
      | skip))

theorem Flt_envelope_moves {W : Part → Prop} {s₀ s : State} (h0 : W (.fld F.FLT_CH_STAT_ABOVE)) (h1 : W (.fld F.FLT_ENV_VAL)) (h2 : W (.fld F.FLT_INT_CAUSE_ENV_HI)) (h3 : W (.fld F.FLT_INT_CAUSE_ENV_LO)) (a0 : Nat) (a1 : Int) (h : Moves W s₀ s) :
    Moves W s₀ (Sys2Proof.Machine.Flt.envelope a0 a1 s) := by
  unfold Sys2Proof.Machine.Flt.envelope
  repeat' (first
    | with_reducible assumption
    | with_reducible apply Moves.clr
    | with_reducible apply Moves.set
    | with_reducible apply Moves.setBit
    | with_reducible apply Moves.sput
    | intro _
    | split
    | (extract_lets +onlyGivenNames x; first
      | (refine Moves.keep (W := W) (s₀ := s₀) x ?_ ?_; rotate_left; intro hx; clear_value x; rotate_right)
      | (refine Moves.keep (W := W) (s₀ := s₀) x.2 ?_ ?_; rotate_left; intro hx; clear_value x; rotate_right)
      | (refine Moves.keep (W := W) (s₀ := s₀) x.1 ?_ ?_; rotate_left; intro hx; clear_value x; rotate_right)
      | skip))

theorem Flt_drive_moves {W : Part → Prop} {s₀ s : State} (h0 : W (.fld F.HKA_PWM_DUTY_VAL)) (h1 : W (.fld F.LRX_LOFB_STAT_FINE)) (h2 : W (.fld F.LSR_FT_OUT_LIMIT)) (h3 : W (.fld F.LSR_FT_OUT_MHZ)) (h4 : W (.fld H.LSR_CODE)) (a0 : Nat) (a1 : Int) (h : Moves W s₀ s) :
    Moves W s₀ (Sys2Proof.Machine.Flt.drive a0 a1 s) := by
  unfold Sys2Proof.Machine.Flt.drive
  repeat' (first
    | with_reducible assumption
    | with_reducible apply Moves.put
    | with_reducible apply Lsr_setFine_moves
    | intro _
    | split)

theorem Flt_loop_moves {W : Part → Prop} {s₀ s : State} (h0 : W (.fld F.HKA_PWM_DUTY_VAL)) (h1 : W (.fld F.LRX_LOFB_STAT_FINE)) (h2 : W (.fld F.LSR_FT_OUT_LIMIT)) (h3 : W (.fld F.LSR_FT_OUT_MHZ)) (h4 : W (.fld F.LSR_INT_CAUSE_LOOP_LIMIT)) (h5 : W (.fld F.LSR_LOOP_STAT_AT_LIMIT)) (h6 : W (.fld F.LSR_LOOP_STAT_U)) (h7 : W (.fld H.LSR_CODE)) (a0 : Nat) (h : Moves W s₀ s) :
    Moves W s₀ (Sys2Proof.Machine.Flt.loop a0 s) := by
  unfold Sys2Proof.Machine.Flt.loop
  repeat' (first
    | with_reducible assumption
    | with_reducible apply Moves.put
    | with_reducible apply Moves.set
    | with_reducible apply Moves.sput
    | with_reducible apply Flt_drive_moves
    | intro _
    | split
    | (extract_lets +onlyGivenNames x; first
      | (refine Moves.keep (W := W) (s₀ := s₀) x ?_ ?_; rotate_left; intro hx; clear_value x; rotate_right)
      | (refine Moves.keep (W := W) (s₀ := s₀) x.2 ?_ ?_; rotate_left; intro hx; clear_value x; rotate_right)
      | (refine Moves.keep (W := W) (s₀ := s₀) x.1 ?_ ?_; rotate_left; intro hx; clear_value x; rotate_right)
      | skip))

theorem Flt_loops_moves {W : Part → Prop} {s₀ s : State} (h0 : W (.fld F.HKA_PWM_DUTY_VAL)) (h1 : W (.fld F.LRX_LOFB_STAT_FINE)) (h2 : W (.fld F.LSR_FT_OUT_LIMIT)) (h3 : W (.fld F.LSR_FT_OUT_MHZ)) (h4 : W (.fld F.LSR_INT_CAUSE_LOOP_LIMIT)) (h5 : W (.fld F.LSR_LOOP_STAT_AT_LIMIT)) (h6 : W (.fld F.LSR_LOOP_STAT_U)) (h7 : W (.fld H.LSR_CODE)) (a0 : Nat) (h : Moves W s₀ s) :
    Moves W s₀ (Sys2Proof.Machine.Flt.loops a0 s) := by
  unfold Sys2Proof.Machine.Flt.loops
  repeat' (first
    | with_reducible assumption
    | with_reducible apply Moves.each
    | with_reducible apply Flt_loop_moves
    | intro _
    | split)

theorem Flt_writeLoopCfg_moves {W : Part → Prop} {s₀ s : State} (h0 : W (.fld F.LSR_FT_OUT_OWNER)) (h1 : W (.fld F.LSR_INT_CAUSE_CFG_ERR)) (h2 : W (.fld F.LSR_LOOP_CFG_EN)) (h3 : W (.fld F.LSR_LOOP_CFG_IN_DET)) (h4 : W (.fld F.LSR_LOOP_CFG_IN_F)) (h5 : W (.fld F.LSR_LOOP_CFG_KI)) (h6 : W (.fld F.LSR_LOOP_CFG_SIGN)) (h7 : W (.fld F.LSR_LOOP_CFG_TARGET)) (h8 : W (.fld F.LSR_LOOP_STAT_AT_LIMIT)) (h9 : W (.fld F.LSR_LOOP_STAT_U)) (a0 : Nat) (a1 : Nat) (h : Moves W s₀ s) :
    Moves W s₀ (Sys2Proof.Machine.Flt.writeLoopCfg a0 a1 s) := by
  unfold Sys2Proof.Machine.Flt.writeLoopCfg
  repeat' (first
    | with_reducible assumption
    | with_reducible apply Moves.clr
    | with_reducible apply Moves.put
    | with_reducible apply Moves.set
    | with_reducible apply Moves.sput
    | with_reducible apply Lsr_showOwners_moves
    | intro _
    | split
    | (extract_lets +onlyGivenNames x; first
      | (refine Moves.keep (W := W) (s₀ := s₀) x ?_ ?_; rotate_left; intro hx; clear_value x; rotate_right)
      | (refine Moves.keep (W := W) (s₀ := s₀) x.2 ?_ ?_; rotate_left; intro hx; clear_value x; rotate_right)
      | (refine Moves.keep (W := W) (s₀ := s₀) x.1 ?_ ?_; rotate_left; intro hx; clear_value x; rotate_right)
      | skip))

theorem Flt_output_moves {W : Part → Prop} {s₀ s : State} (h0 : W .flt) (h1 : W (.fld F.FLT_CH_STAT_ABOVE)) (h2 : W (.fld F.FLT_CH_STAT_BANK)) (h3 : W (.fld F.FLT_CH_STAT_FADING)) (h4 : W (.fld F.FLT_CH_STAT_SAT)) (h5 : W (.fld F.FLT_CH_STAT_SWAP_HELD)) (h6 : W (.fld F.FLT_ENV_VAL)) (h7 : W (.fld F.FLT_FIR_C)) (h8 : W (.fld F.FLT_INT_CAUSE_ENV_HI)) (h9 : W (.fld F.FLT_INT_CAUSE_ENV_LO)) (h10 : W (.fld F.FLT_INT_CAUSE_FADE_DONE)) (h11 : W (.fld F.FLT_OUT_VAL)) (h12 : W (.fld F.FLT_PEAK_VAL)) (h13 : W (.fld F.FLT_RMS_VAL)) (h14 : W (.fld F.HKA_PWM_DUTY_VAL)) (h15 : W (.fld F.LRX_LOFB_STAT_FINE)) (h16 : W (.fld F.LSR_FT_OUT_LIMIT)) (h17 : W (.fld F.LSR_FT_OUT_MHZ)) (h18 : W (.fld F.LSR_INT_CAUSE_LOOP_LIMIT)) (h19 : W (.fld F.LSR_LOOP_STAT_AT_LIMIT)) (h20 : W (.fld F.LSR_LOOP_STAT_U)) (h21 : W (.fld H.FLT_DUE)) (h22 : W (.fld H.FLT_FADE_I)) (h23 : W (.fld H.FLT_FADE_L)) (h24 : W (.fld H.FLT_HOLD_CNT)) (h25 : W (.fld H.FLT_RMS_CNT)) (h26 : W (.fld H.FLT_RMS_SUM)) (h27 : W (.fld H.FLT_SWAP_DUE)) (h28 : W (.fld H.FLT_TAP)) (h29 : W (.fld H.LSR_CODE)) (a0 : Nat) (h : Moves W s₀ s) :
    Moves W s₀ (Sys2Proof.Machine.Flt.output a0 s) := by
  unfold Sys2Proof.Machine.Flt.output
  repeat' (first
    | with_reducible assumption
    | with_reducible apply Moves.clr
    | with_reducible apply Moves.sput
    | with_reducible apply Flt_fir_moves
    | with_reducible apply Flt_fadeDone_moves
    | with_reducible apply Flt_loops_moves
    | with_reducible apply Flt_envelope_moves
    | with_reducible apply Flt_rms_moves
    | with_reducible apply Flt_peak_moves
    | intro _
    | split
    | (extract_lets +onlyGivenNames x; first
      | (refine Moves.keep (W := W) (s₀ := s₀) x ?_ ?_; rotate_left; intro hx; clear_value x; rotate_right)
      | (refine Moves.keep (W := W) (s₀ := s₀) x.2 ?_ ?_; rotate_left; intro hx; clear_value x; rotate_right)
      | (refine Moves.keep (W := W) (s₀ := s₀) x.1 ?_ ?_; rotate_left; intro hx; clear_value x; rotate_right)
      | skip))

theorem Flt_consume_moves {W : Part → Prop} {s₀ s : State} (h0 : W .flt) (h1 : W (.fld F.FLT_CH_STAT_ABOVE)) (h2 : W (.fld F.FLT_CH_STAT_BANK)) (h3 : W (.fld F.FLT_CH_STAT_FADING)) (h4 : W (.fld F.FLT_CH_STAT_SAT)) (h5 : W (.fld F.FLT_CH_STAT_SWAP_HELD)) (h6 : W (.fld F.FLT_ENV_VAL)) (h7 : W (.fld F.FLT_FIR_C)) (h8 : W (.fld F.FLT_INT_CAUSE_ENV_HI)) (h9 : W (.fld F.FLT_INT_CAUSE_ENV_LO)) (h10 : W (.fld F.FLT_INT_CAUSE_FADE_DONE)) (h11 : W (.fld F.FLT_OUT_VAL)) (h12 : W (.fld F.FLT_PEAK_VAL)) (h13 : W (.fld F.FLT_RMS_VAL)) (h14 : W (.fld F.HKA_PWM_DUTY_VAL)) (h15 : W (.fld F.LRX_LOFB_STAT_FINE)) (h16 : W (.fld F.LSR_FT_OUT_LIMIT)) (h17 : W (.fld F.LSR_FT_OUT_MHZ)) (h18 : W (.fld F.LSR_INT_CAUSE_LOOP_LIMIT)) (h19 : W (.fld F.LSR_LOOP_STAT_AT_LIMIT)) (h20 : W (.fld F.LSR_LOOP_STAT_U)) (h21 : W (.fld H.FLT_DUE)) (h22 : W (.fld H.FLT_DUE_VAL)) (h23 : W (.fld H.FLT_FADE_I)) (h24 : W (.fld H.FLT_FADE_L)) (h25 : W (.fld H.FLT_HOLD_CNT)) (h26 : W (.fld H.FLT_IN_NEW)) (h27 : W (.fld H.FLT_PHASE)) (h28 : W (.fld H.FLT_RMS_CNT)) (h29 : W (.fld H.FLT_RMS_SUM)) (h30 : W (.fld H.FLT_SAMPLES)) (h31 : W (.fld H.FLT_SWAP_DUE)) (h32 : W (.fld H.FLT_TAP)) (h33 : W (.fld H.LSR_CODE)) (a0 : Nat) (h : Moves W s₀ s) :
    Moves W s₀ (Sys2Proof.Machine.Flt.consume a0 s) := by
  unfold Sys2Proof.Machine.Flt.consume
  repeat' (first
    | with_reducible assumption
    | with_reducible apply Moves.clr
    | with_reducible apply Flt_take_moves
    | with_reducible apply Flt_output_moves
    | intro _
    | split)

theorem Flt_offer_moves {W : Part → Prop} {s₀ s : State} (h0 : W .flt) (h1 : W (.fld F.FLT_CH_STAT_ABOVE)) (h2 : W (.fld F.FLT_CH_STAT_BANK)) (h3 : W (.fld F.FLT_CH_STAT_FADING)) (h4 : W (.fld F.FLT_CH_STAT_SAT)) (h5 : W (.fld F.FLT_CH_STAT_SWAP_HELD)) (h6 : W (.fld F.FLT_ENV_VAL)) (h7 : W (.fld F.FLT_FIR_C)) (h8 : W (.fld F.FLT_INT_CAUSE_ENV_HI)) (h9 : W (.fld F.FLT_INT_CAUSE_ENV_LO)) (h10 : W (.fld F.FLT_INT_CAUSE_FADE_DONE)) (h11 : W (.fld F.FLT_OUT_VAL)) (h12 : W (.fld F.FLT_PEAK_VAL)) (h13 : W (.fld F.FLT_RMS_VAL)) (h14 : W (.fld F.HKA_PWM_DUTY_VAL)) (h15 : W (.fld F.LRX_LOFB_STAT_FINE)) (h16 : W (.fld F.LSR_FT_OUT_LIMIT)) (h17 : W (.fld F.LSR_FT_OUT_MHZ)) (h18 : W (.fld F.LSR_INT_CAUSE_LOOP_LIMIT)) (h19 : W (.fld F.LSR_LOOP_STAT_AT_LIMIT)) (h20 : W (.fld F.LSR_LOOP_STAT_U)) (h21 : W (.fld H.FLT_DUE)) (h22 : W (.fld H.FLT_DUE_VAL)) (h23 : W (.fld H.FLT_FADE_I)) (h24 : W (.fld H.FLT_FADE_L)) (h25 : W (.fld H.FLT_HOLD_CNT)) (h26 : W (.fld H.FLT_IN)) (h27 : W (.fld H.FLT_IN_NEW)) (h28 : W (.fld H.FLT_PHASE)) (h29 : W (.fld H.FLT_RMS_CNT)) (h30 : W (.fld H.FLT_RMS_SUM)) (h31 : W (.fld H.FLT_SAMPLES)) (h32 : W (.fld H.FLT_SWAP_DUE)) (h33 : W (.fld H.FLT_TAP)) (h34 : W (.fld H.LSR_CODE)) (a0 : Nat) (a1 : Int) (h : Moves W s₀ s) :
    Moves W s₀ (Sys2Proof.Machine.Flt.offer a0 a1 s) := by
  unfold Sys2Proof.Machine.Flt.offer
  repeat' (first
    | with_reducible assumption
    | with_reducible apply Moves.each
    | with_reducible apply Moves.set
    | with_reducible apply Moves.sput
    | with_reducible apply Flt_consume_moves
    | intro _
    | split)

theorem Flt_fromHka_moves {W : Part → Prop} {s₀ s : State} (h0 : W .flt) (h1 : W (.fld F.FLT_CH_STAT_ABOVE)) (h2 : W (.fld F.FLT_CH_STAT_BANK)) (h3 : W (.fld F.FLT_CH_STAT_FADING)) (h4 : W (.fld F.FLT_CH_STAT_SAT)) (h5 : W (.fld F.FLT_CH_STAT_SWAP_HELD)) (h6 : W (.fld F.FLT_ENV_VAL)) (h7 : W (.fld F.FLT_FIR_C)) (h8 : W (.fld F.FLT_INT_CAUSE_ENV_HI)) (h9 : W (.fld F.FLT_INT_CAUSE_ENV_LO)) (h10 : W (.fld F.FLT_INT_CAUSE_FADE_DONE)) (h11 : W (.fld F.FLT_OUT_VAL)) (h12 : W (.fld F.FLT_PEAK_VAL)) (h13 : W (.fld F.FLT_RMS_VAL)) (h14 : W (.fld F.HKA_PWM_DUTY_VAL)) (h15 : W (.fld F.LRX_LOFB_STAT_FINE)) (h16 : W (.fld F.LSR_FT_OUT_LIMIT)) (h17 : W (.fld F.LSR_FT_OUT_MHZ)) (h18 : W (.fld F.LSR_INT_CAUSE_LOOP_LIMIT)) (h19 : W (.fld F.LSR_LOOP_STAT_AT_LIMIT)) (h20 : W (.fld F.LSR_LOOP_STAT_U)) (h21 : W (.fld H.FLT_DUE)) (h22 : W (.fld H.FLT_DUE_VAL)) (h23 : W (.fld H.FLT_FADE_I)) (h24 : W (.fld H.FLT_FADE_L)) (h25 : W (.fld H.FLT_HOLD_CNT)) (h26 : W (.fld H.FLT_IN)) (h27 : W (.fld H.FLT_IN_NEW)) (h28 : W (.fld H.FLT_PHASE)) (h29 : W (.fld H.FLT_RMS_CNT)) (h30 : W (.fld H.FLT_RMS_SUM)) (h31 : W (.fld H.FLT_SAMPLES)) (h32 : W (.fld H.FLT_SWAP_DUE)) (h33 : W (.fld H.FLT_TAP)) (h34 : W (.fld H.LSR_CODE)) (a0 : Nat) (a1 : Nat) (h : Moves W s₀ s) :
    Moves W s₀ (Sys2Proof.Machine.Flt.fromHka a0 a1 s) := by
  unfold Sys2Proof.Machine.Flt.fromHka
  repeat' (first
    | with_reducible assumption
    | with_reducible apply Flt_offer_moves
    | intro _
    | split)

theorem Flt_sample_moves {W : Part → Prop} {s₀ s : State} (h0 : W .flt) (h1 : W (.fld F.FLT_CH_STAT_ABOVE)) (h2 : W (.fld F.FLT_CH_STAT_BANK)) (h3 : W (.fld F.FLT_CH_STAT_FADING)) (h4 : W (.fld F.FLT_CH_STAT_SAT)) (h5 : W (.fld F.FLT_CH_STAT_SWAP_HELD)) (h6 : W (.fld F.FLT_ENV_VAL)) (h7 : W (.fld F.FLT_FIR_C)) (h8 : W (.fld F.FLT_INT_CAUSE_ENV_HI)) (h9 : W (.fld F.FLT_INT_CAUSE_ENV_LO)) (h10 : W (.fld F.FLT_INT_CAUSE_FADE_DONE)) (h11 : W (.fld F.FLT_OUT_VAL)) (h12 : W (.fld F.FLT_PEAK_VAL)) (h13 : W (.fld F.FLT_RMS_VAL)) (h14 : W (.fld F.HKA_PWM_DUTY_VAL)) (h15 : W (.fld F.LRX_LOFB_STAT_FINE)) (h16 : W (.fld F.LSR_FT_OUT_LIMIT)) (h17 : W (.fld F.LSR_FT_OUT_MHZ)) (h18 : W (.fld F.LSR_INT_CAUSE_LOOP_LIMIT)) (h19 : W (.fld F.LSR_LOOP_STAT_AT_LIMIT)) (h20 : W (.fld F.LSR_LOOP_STAT_U)) (h21 : W (.fld H.FLT_DUE)) (h22 : W (.fld H.FLT_DUE_VAL)) (h23 : W (.fld H.FLT_FADE_I)) (h24 : W (.fld H.FLT_FADE_L)) (h25 : W (.fld H.FLT_HOLD_CNT)) (h26 : W (.fld H.FLT_IN)) (h27 : W (.fld H.FLT_IN_NEW)) (h28 : W (.fld H.FLT_PHASE)) (h29 : W (.fld H.FLT_RMS_CNT)) (h30 : W (.fld H.FLT_RMS_SUM)) (h31 : W (.fld H.FLT_SAMPLES)) (h32 : W (.fld H.FLT_SWAP_DUE)) (h33 : W (.fld H.FLT_TAP)) (h34 : W (.fld H.LSR_CODE)) (a0 : Nat) (a1 : Nat) (h : Moves W s₀ s) :
    Moves W s₀ (Sys2Proof.Machine.Flt.sample a0 a1 s) := by
  unfold Sys2Proof.Machine.Flt.sample
  repeat' (first
    | with_reducible assumption
    | with_reducible apply Moves.set
    | with_reducible apply Moves.sput
    | with_reducible apply Flt_consume_moves
    | intro _
    | split
    | (extract_lets +onlyGivenNames x; first
      | (refine Moves.keep (W := W) (s₀ := s₀) x ?_ ?_; rotate_left; intro hx; clear_value x; rotate_right)
      | (refine Moves.keep (W := W) (s₀ := s₀) x.2 ?_ ?_; rotate_left; intro hx; clear_value x; rotate_right)
      | (refine Moves.keep (W := W) (s₀ := s₀) x.1 ?_ ?_; rotate_left; intro hx; clear_value x; rotate_right)
      | skip))

theorem Flt_valid_moves {W : Part → Prop} {s₀ s : State} (h0 : W (.fld F.FLT_CH_STAT_VALID)) (a0 : Nat) (h : Moves W s₀ s) :
    Moves W s₀ (Sys2Proof.Machine.Flt.valid a0 s) := by
  unfold Sys2Proof.Machine.Flt.valid
  repeat' (first
    | with_reducible assumption
    | with_reducible apply Moves.set
    | intro _
    | split)

theorem Flt_abandonFade_moves {W : Part → Prop} {s₀ s : State} (h0 : W (.fld F.FLT_CH_STAT_FADING)) (h1 : W (.fld F.FLT_CH_STAT_SWAP_HELD)) (h2 : W (.fld H.FLT_SWAP_DUE)) (a0 : Nat) (h : Moves W s₀ s) :
    Moves W s₀ (Sys2Proof.Machine.Flt.abandonFade a0 s) := by
  unfold Sys2Proof.Machine.Flt.abandonFade
  repeat' (first
    | with_reducible assumption
    | with_reducible apply Moves.clr
    | intro _)

theorem Flt_restart_moves {W : Part → Prop} {s₀ s : State} (h0 : W .flt) (h1 : W (.fld F.FLT_CH_STAT_ABOVE)) (h2 : W (.fld F.FLT_CH_STAT_FADING)) (h3 : W (.fld F.FLT_CH_STAT_SWAP_HELD)) (h4 : W (.fld F.FLT_CH_STAT_VALID)) (h5 : W (.fld F.FLT_ENV_VAL)) (h6 : W (.fld F.FLT_OUT_VAL)) (h7 : W (.fld F.FLT_PEAK_VAL)) (h8 : W (.fld F.FLT_RMS_VAL)) (h9 : W (.fld H.FLT_DUE)) (h10 : W (.fld H.FLT_HOLD_CNT)) (h11 : W (.fld H.FLT_IN_NEW)) (h12 : W (.fld H.FLT_PHASE)) (h13 : W (.fld H.FLT_RMS_CNT)) (h14 : W (.fld H.FLT_RMS_SUM)) (h15 : W (.fld H.FLT_SAMPLES)) (h16 : W (.fld H.FLT_SWAP_DUE)) (a0 : Nat) (h : Moves W s₀ s) :
    Moves W s₀ (Sys2Proof.Machine.Flt.restart a0 s) := by
  unfold Sys2Proof.Machine.Flt.restart
  repeat' (first
    | with_reducible assumption
    | simp only [List.foldl_cons, List.foldl_nil]
    | with_reducible apply Moves.clr
    | with_reducible apply Moves.foldl
    | with_reducible apply Flt_setChan_moves
    | with_reducible apply Flt_abandonFade_moves
    | intro _
    | (extract_lets +onlyGivenNames x; first
      | (refine Moves.keep (W := W) (s₀ := s₀) x ?_ ?_; rotate_left; intro hx; clear_value x; rotate_right)
      | (refine Moves.keep (W := W) (s₀ := s₀) x.2 ?_ ?_; rotate_left; intro hx; clear_value x; rotate_right)
      | (refine Moves.keep (W := W) (s₀ := s₀) x.1 ?_ ?_; rotate_left; intro hx; clear_value x; rotate_right)
      | skip))

theorem Flt_writeCfg_moves {W : Part → Prop} {s₀ s : State} (h0 : W .flt) (h1 : W (.fld F.FLT_CH_CFG_CHAIN)) (h2 : W (.fld F.FLT_CH_CFG_DEC_M1)) (h3 : W (.fld F.FLT_CH_CFG_LOCKIN)) (h4 : W (.fld F.FLT_CH_CFG_LOCKIN_PWM)) (h5 : W (.fld F.FLT_CH_CFG_MED)) (h6 : W (.fld F.FLT_CH_CFG_ORDER)) (h7 : W (.fld F.FLT_CH_CFG_SRC)) (h8 : W (.fld F.FLT_CH_CTRL_PRESET)) (h9 : W (.fld F.FLT_CH_STAT_ABOVE)) (h10 : W (.fld F.FLT_CH_STAT_FADING)) (h11 : W (.fld F.FLT_CH_STAT_SWAP_HELD)) (h12 : W (.fld F.FLT_CH_STAT_VALID)) (h13 : W (.fld F.FLT_ENV_VAL)) (h14 : W (.fld F.FLT_OUT_VAL)) (h15 : W (.fld F.FLT_PEAK_VAL)) (h16 : W (.fld F.FLT_RMS_VAL)) (h17 : W (.fld H.FLT_DUE)) (h18 : W (.fld H.FLT_HOLD_CNT)) (h19 : W (.fld H.FLT_IN_NEW)) (h20 : W (.fld H.FLT_PHASE)) (h21 : W (.fld H.FLT_RMS_CNT)) (h22 : W (.fld H.FLT_RMS_SUM)) (h23 : W (.fld H.FLT_SAMPLES)) (h24 : W (.fld H.FLT_SWAP_DUE)) (a0 : Nat) (a1 : Nat) (h : Moves W s₀ s) :
    Moves W s₀ (Sys2Proof.Machine.Flt.writeCfg a0 a1 s) := by
  unfold Sys2Proof.Machine.Flt.writeCfg
  repeat' (first
    | with_reducible assumption
    | with_reducible apply Moves.clr
    | with_reducible apply Moves.put
    | with_reducible apply Flt_restart_moves
    | intro _
    | split
    | (extract_lets +onlyGivenNames x; first
      | (refine Moves.keep (W := W) (s₀ := s₀) x ?_ ?_; rotate_left; intro hx; clear_value x; rotate_right)
      | (refine Moves.keep (W := W) (s₀ := s₀) x.2 ?_ ?_; rotate_left; intro hx; clear_value x; rotate_right)
      | (refine Moves.keep (W := W) (s₀ := s₀) x.1 ?_ ?_; rotate_left; intro hx; clear_value x; rotate_right)
      | skip))

theorem Flt_preset_moves {W : Part → Prop} {s₀ s : State} (h0 : W .flt) (h1 : W (.fld F.FLT_CH_CFG_CHAIN)) (h2 : W (.fld F.FLT_CH_CFG_DEC_M1)) (h3 : W (.fld F.FLT_CH_CFG_MED)) (h4 : W (.fld F.FLT_CH_CFG_ORDER)) (h5 : W (.fld F.FLT_CH_CTRL_PRESET)) (h6 : W (.fld F.FLT_CH_STAT_ABOVE)) (h7 : W (.fld F.FLT_CH_STAT_FADING)) (h8 : W (.fld F.FLT_CH_STAT_SWAP_HELD)) (h9 : W (.fld F.FLT_CH_STAT_VALID)) (h10 : W (.fld F.FLT_ENV_VAL)) (h11 : W (.fld F.FLT_OUT_VAL)) (h12 : W (.fld F.FLT_PEAK_VAL)) (h13 : W (.fld F.FLT_RMS_VAL)) (h14 : W (.fld H.FLT_DUE)) (h15 : W (.fld H.FLT_HOLD_CNT)) (h16 : W (.fld H.FLT_IN_NEW)) (h17 : W (.fld H.FLT_PHASE)) (h18 : W (.fld H.FLT_RMS_CNT)) (h19 : W (.fld H.FLT_RMS_SUM)) (h20 : W (.fld H.FLT_SAMPLES)) (h21 : W (.fld H.FLT_SWAP_DUE)) (h22 : W (.fld H.FLT_TAP)) (a0 : Nat) (a1 : Nat) (h : Moves W s₀ s) :
    Moves W s₀ (Sys2Proof.Machine.Flt.preset a0 a1 s) := by
  unfold Sys2Proof.Machine.Flt.preset
  repeat' (first
    | with_reducible assumption
    | with_reducible apply Moves.each
    | with_reducible apply Moves.put
    | with_reducible apply Flt_restart_moves
    | intro _
    | split
    | (extract_lets +onlyGivenNames x; first
      | (refine Moves.keep (W := W) (s₀ := s₀) x ?_ ?_; rotate_left; intro hx; clear_value x; rotate_right)
      | (refine Moves.keep (W := W) (s₀ := s₀) x.2 ?_ ?_; rotate_left; intro hx; clear_value x; rotate_right)
      | (refine Moves.keep (W := W) (s₀ := s₀) x.1 ?_ ?_; rotate_left; intro hx; clear_value x; rotate_right)
      | skip))

theorem Flt_writeCtrl_moves {W : Part → Prop} {s₀ s : State} (h0 : W .flt) (h1 : W (.fld F.FLT_CH_CFG_CHAIN)) (h2 : W (.fld F.FLT_CH_CFG_DEC_M1)) (h3 : W (.fld F.FLT_CH_CFG_MED)) (h4 : W (.fld F.FLT_CH_CFG_ORDER)) (h5 : W (.fld F.FLT_CH_CTRL_LOCKIN_DLY)) (h6 : W (.fld F.FLT_CH_CTRL_PRESET)) (h7 : W (.fld F.FLT_CH_CTRL_XFADE)) (h8 : W (.fld F.FLT_CH_STAT_ABOVE)) (h9 : W (.fld F.FLT_CH_STAT_FADING)) (h10 : W (.fld F.FLT_CH_STAT_SWAP_HELD)) (h11 : W (.fld F.FLT_CH_STAT_VALID)) (h12 : W (.fld F.FLT_ENV_VAL)) (h13 : W (.fld F.FLT_OUT_VAL)) (h14 : W (.fld F.FLT_PEAK_VAL)) (h15 : W (.fld F.FLT_RMS_VAL)) (h16 : W (.fld H.FLT_DUE)) (h17 : W (.fld H.FLT_FADE_L)) (h18 : W (.fld H.FLT_HOLD_CNT)) (h19 : W (.fld H.FLT_IN_NEW)) (h20 : W (.fld H.FLT_PHASE)) (h21 : W (.fld H.FLT_RMS_CNT)) (h22 : W (.fld H.FLT_RMS_SUM)) (h23 : W (.fld H.FLT_SAMPLES)) (h24 : W (.fld H.FLT_SWAP_DUE)) (h25 : W (.fld H.FLT_TAP)) (a0 : Nat) (a1 : Nat) (h : Moves W s₀ s) :
    Moves W s₀ (Sys2Proof.Machine.Flt.writeCtrl a0 a1 s) := by
  unfold Sys2Proof.Machine.Flt.writeCtrl
  repeat' (first
    | with_reducible assumption
    | with_reducible apply Moves.put
    | with_reducible apply Flt_preset_moves
    | with_reducible apply Flt_swap_moves
    | intro _
    | split
    | (extract_lets +onlyGivenNames x; first
      | (refine Moves.keep (W := W) (s₀ := s₀) x ?_ ?_; rotate_left; intro hx; clear_value x; rotate_right)
      | (refine Moves.keep (W := W) (s₀ := s₀) x.2 ?_ ?_; rotate_left; intro hx; clear_value x; rotate_right)
      | (refine Moves.keep (W := W) (s₀ := s₀) x.1 ?_ ?_; rotate_left; intro hx; clear_value x; rotate_right)
      | skip))

theorem Flt_writeFir_moves {W : Part → Prop} {s₀ s : State} (h0 : W (.fld F.FLT_FIR_C)) (h1 : W (.fld F.FLT_INT_CAUSE_SHADOW_BUSY)) (a0 : Nat) (a1 : Nat) (a2 : Nat) (h : Moves W s₀ s) :
    Moves W s₀ (Sys2Proof.Machine.Flt.writeFir a0 a1 a2 s) := by
  unfold Sys2Proof.Machine.Flt.writeFir
  repeat' (first
    | with_reducible assumption
    | with_reducible apply Moves.put
    | with_reducible apply Moves.setBit
    | intro _
    | split)

end Sys2Proof.Laws
end

