-- ==== Sys2Proof/Laws/MovesFlw.lean ====
section
/-! SUPPORT. Sys2Proof/Laws/MovesFlw.lean: what each operation of Machine/Flw.lean may write (Laws/Moves.lean). -/
namespace Sys2Proof.Laws
open Sys2Proof Sys2Proof.Machine

theorem Flw_setIngress_moves {W : Part → Prop} {s₀ s : State} (h0 : W .flw) (a0 : Nat) (a1 : List Nat) (h : Moves W s₀ s) :
    Moves W s₀ (Sys2Proof.Machine.Flw.setIngress a0 a1 s) := by
  unfold Sys2Proof.Machine.Flw.setIngress
  repeat' (first
    | with_reducible assumption
    | intro _
    | (extract_lets +onlyGivenNames x; first
      | (refine Moves.keep (W := W) (s₀ := s₀) x ?_ ?_; rotate_left; intro hx; clear_value x; rotate_right)
      | (refine Moves.keep (W := W) (s₀ := s₀) x.2 ?_ ?_; rotate_left; intro hx; clear_value x; rotate_right)
      | (refine Moves.keep (W := W) (s₀ := s₀) x.1 ?_ ?_; rotate_left; intro hx; clear_value x; rotate_right)
      | skip)
    | (with_reducible refine Moves.flw _ ?_ ?_ <;> with_reducible first
      | assumption))

theorem Flw_setErrored_moves {W : Part → Prop} {s₀ s : State} (h0 : W .flw) (a0 : Nat) (a1 : List (Nat × Nat)) (h : Moves W s₀ s) :
    Moves W s₀ (Sys2Proof.Machine.Flw.setErrored a0 a1 s) := by
  unfold Sys2Proof.Machine.Flw.setErrored
  repeat' (first
    | with_reducible assumption
    | intro _
    | (extract_lets +onlyGivenNames x; first
      | (refine Moves.keep (W := W) (s₀ := s₀) x ?_ ?_; rotate_left; intro hx; clear_value x; rotate_right)
      | (refine Moves.keep (W := W) (s₀ := s₀) x.2 ?_ ?_; rotate_left; intro hx; clear_value x; rotate_right)
      | (refine Moves.keep (W := W) (s₀ := s₀) x.1 ?_ ?_; rotate_left; intro hx; clear_value x; rotate_right)
      | skip)
    | (with_reducible refine Moves.flw _ ?_ ?_ <;> with_reducible first
      | assumption))

theorem Flw_leave_moves {W : Part → Prop} {s₀ s : State} (h0 : W .flw) (h1 : W (.fld H.FLW_ERR_NEXT)) (a0 : Nat) (a1 : Nat) (h : Moves W s₀ s) :
    Moves W s₀ (Sys2Proof.Machine.Flw.leave a0 a1 s).2.2 := by
  unfold Sys2Proof.Machine.Flw.leave
  repeat' (first
    | with_reducible assumption
    | with_reducible apply Moves.clr
    | with_reducible apply Flw_setErrored_moves
    | with_reducible apply Flw_setIngress_moves
    | intro _
    | (extract_lets +onlyGivenNames x; first
      | (refine Moves.keep (W := W) (s₀ := s₀) x ?_ ?_; rotate_left; intro hx; clear_value x; rotate_right)
      | (refine Moves.keep (W := W) (s₀ := s₀) x.2 ?_ ?_; rotate_left; intro hx; clear_value x; rotate_right)
      | (refine Moves.keep (W := W) (s₀ := s₀) x.1 ?_ ?_; rotate_left; intro hx; clear_value x; rotate_right)
      | skip))

theorem Flw_clientIngress_moves {W : Part → Prop} {s₀ s : State} (h0 : W .flw) (h1 : W .vlk) (h2 : W (.fld F.FLW_CLI_UNMATCH_COUNT)) (h3 : W (.fld F.FLW_FSTAT_ING_OVF)) (h4 : W (.fld F.FLW_INT_CAUSE_ING_OVF)) (h5 : W (.fld H.FLW_ERR_NEXT)) (h6 : W (.fld H.VLK_REST_SET)) (h7 : W (.fld H.VLK_SEQ)) (h8 : W (.fld H.VLK_WAKE_BIT)) (a0 : Nat) (a1 : Nat) (a2 : Nat) (a3 : Nat) (a4 : List Nat) (h : Moves W s₀ s) :
    Moves W s₀ (Sys2Proof.Machine.Flw.clientIngress a0 a1 a2 a3 a4 s) := by
  unfold Sys2Proof.Machine.Flw.clientIngress
  repeat' (first
    | with_reducible assumption
    | with_reducible apply Moves.count
    | with_reducible apply Moves.set
    | with_reducible apply Vlk_traffic_moves
    | with_reducible apply Flw_setErrored_moves
    | with_reducible apply Flw_setIngress_moves
    | intro _
    | split
    | (extract_lets +onlyGivenNames x; first
      | (refine Moves.keep (W := W) (s₀ := s₀) x ?_ ?_; rotate_left; intro hx; clear_value x; rotate_right)
      | (refine Moves.keep (W := W) (s₀ := s₀) x.2 ?_ ?_; rotate_left; intro hx; clear_value x; rotate_right)
      | (refine Moves.keep (W := W) (s₀ := s₀) x.1 ?_ ?_; rotate_left; intro hx; clear_value x; rotate_right)
      | skip))

theorem Flw_accrue_moves {W : Part → Prop} {s₀ s : State} (h0 : W (.fld F.FLW_FSTAT_RATE_SHORT)) (h1 : W (.fld F.FLW_FSTAT_SHORT_CNT)) (h2 : W (.fld F.FLW_INT_CAUSE_RATE_SHORT)) (h3 : W (.fld H.FLW_LOST)) (h4 : W (.fld H.FLW_TOK)) (h5 : W (.fld H.FLW_TOK_T)) (a0 : Nat) (a1 : Nat) (h : Moves W s₀ s) :
    Moves W s₀ (Sys2Proof.Machine.Flw.accrue a0 a1 s) := by
  unfold Sys2Proof.Machine.Flw.accrue
  repeat' (first
    | with_reducible assumption
    | with_reducible apply Moves.count
    | with_reducible apply Moves.put
    | with_reducible apply Moves.set
    | intro _
    | split
    | (extract_lets +onlyGivenNames x; first
      | (refine Moves.keep (W := W) (s₀ := s₀) x ?_ ?_; rotate_left; intro hx; clear_value x; rotate_right)
      | (refine Moves.keep (W := W) (s₀ := s₀) x.2 ?_ ?_; rotate_left; intro hx; clear_value x; rotate_right)
      | (refine Moves.keep (W := W) (s₀ := s₀) x.1 ?_ ?_; rotate_left; intro hx; clear_value x; rotate_right)
      | skip))

theorem Flw_tokenCapReached_moves {W : Part → Prop} {s₀ s : State} (h0 : W (.fld F.FLW_FSTAT_RATE_SHORT)) (h1 : W (.fld F.FLW_FSTAT_SHORT_CNT)) (h2 : W (.fld F.FLW_INT_CAUSE_RATE_SHORT)) (h3 : W (.fld H.FLW_LOST)) (h4 : W (.fld H.FLW_TOK)) (h5 : W (.fld H.FLW_TOK_T)) (a0 : Nat) (a1 : Nat) (h : Moves W s₀ s) :
    Moves W s₀ (Sys2Proof.Machine.Flw.tokenCapReached a0 a1 s) := by
  unfold Sys2Proof.Machine.Flw.tokenCapReached
  repeat' (first
    | with_reducible assumption
    | with_reducible apply Flw_accrue_moves
    | intro _
    | split)

theorem Flw_setSleep_moves {W : Part → Prop} {s₀ s : State} (h0 : W .flw) (a0 : Nat) (a1 : List Sys2Proof.Machine.Stored) (h : Moves W s₀ s) :
    Moves W s₀ (Sys2Proof.Machine.Flw.setSleep a0 a1 s) := by
  unfold Sys2Proof.Machine.Flw.setSleep
  repeat' (first
    | with_reducible assumption
    | intro _
    | (extract_lets +onlyGivenNames x; first
      | (refine Moves.keep (W := W) (s₀ := s₀) x ?_ ?_; rotate_left; intro hx; clear_value x; rotate_right)
      | (refine Moves.keep (W := W) (s₀ := s₀) x.2 ?_ ?_; rotate_left; intro hx; clear_value x; rotate_right)
      | (refine Moves.keep (W := W) (s₀ := s₀) x.1 ?_ ?_; rotate_left; intro hx; clear_value x; rotate_right)
      | skip)
    | (with_reducible refine Moves.flw _ ?_ ?_ <;> with_reducible first
      | assumption))

theorem Flw_sleepDrop_moves {W : Part → Prop} {s₀ s : State} (h0 : W (.fld F.FLW_INT_CAUSE_SLEEP_DROP)) (h1 : W (.fld F.FLW_SLEEP_DROP_COUNT)) (a0 : Nat) (h : Moves W s₀ s) :
    Moves W s₀ (Sys2Proof.Machine.Flw.sleepDrop a0 s) := by
  unfold Sys2Proof.Machine.Flw.sleepDrop
  repeat' (first
    | with_reducible assumption
    | with_reducible apply Moves.count
    | with_reducible apply Moves.set
    | intro _)

theorem Flw_sleepFree_moves {W : Part → Prop} {s₀ s : State} (h0 : W (.fld H.QDM_SLEEP_USED)) (a0 : Nat) (h : Moves W s₀ s) :
    Moves W s₀ (Sys2Proof.Machine.Flw.sleepFree a0 s) := by
  unfold Sys2Proof.Machine.Flw.sleepFree
  repeat' (first
    | with_reducible assumption
    | with_reducible apply Moves.put
    | intro _
    | split)

theorem Flw_hold_moves {W : Part → Prop} {s₀ s : State} (h0 : W .flw) (h1 : W .qdr) (h2 : W (.fld F.FLW_INT_CAUSE_SLEEP_DROP)) (h3 : W (.fld F.FLW_SLEEP_DROP_COUNT)) (h4 : W (.fld F.PMC_INT_CAUSE_OVF)) (h5 : W (.fld F.PMC_INT_CAUSE_SMP_AVAIL)) (h6 : W (.fld F.PMC_INT_CAUSE_SMP_DROP)) (h7 : W (.fld F.PMC_OVF_STAT_OVF)) (h8 : W (.fld F.PMC_SMP_DROP_RING)) (h9 : W (.fld F.PMC_SMP_STAT_COUNT)) (h10 : W (.fld H.FLW_ERR_NEXT)) (h11 : W (.fld H.PMC_CNT)) (h12 : W (.fld H.PMC_OVF_DUE)) (h13 : W (.fld H.PMC_OVF_T)) (h14 : W (.fld H.PMC_RING)) (h15 : W (.fld H.PMC_TRACE_POS)) (h16 : W (.fld H.QDM_SLEEP_USED)) (h17 : W (.fld H.VLK_WAKE_BIT)) (a0 : Nat) (h : Moves W s₀ s) :
    Moves W s₀ (Sys2Proof.Machine.Flw.hold a0 s) := by
  unfold Sys2Proof.Machine.Flw.hold
  repeat' (first
    | with_reducible assumption
    | with_reducible apply Moves.put
    | with_reducible apply Flw_leave_moves
    | with_reducible apply Vlk_wake_moves
    | with_reducible apply Flw_sleepDrop_moves
    | with_reducible apply Qdm_transferred_moves
    | with_reducible apply Flw_setSleep_moves
    | intro _
    | split
    | (extract_lets +onlyGivenNames x; first
      | (refine Moves.keep (W := W) (s₀ := s₀) x ?_ ?_; rotate_left; intro hx; clear_value x; rotate_right)
      | (refine Moves.keep (W := W) (s₀ := s₀) x.2 ?_ ?_; rotate_left; intro hx; clear_value x; rotate_right)
      | (refine Moves.keep (W := W) (s₀ := s₀) x.1 ?_ ?_; rotate_left; intro hx; clear_value x; rotate_right)
      | skip)
    | (have hx := congrArg Prod.snd ‹_ = (_, _)›; dsimp only at hx; subst hx))

theorem Flw_served_moves {W : Part → Prop} {s₀ s : State} (h0 : W (.fld H.FLW_DRR)) (h1 : W (.fld H.FLW_DRR_LEFT)) (h2 : W (.fld H.FLW_RR_PLAIN)) (h3 : W (.fld H.FLW_RR_STRICT)) (h4 : W (.fld H.FLW_TOK)) (a0 : Nat) (a1 : Bool) (h : Moves W s₀ s) :
    Moves W s₀ (Sys2Proof.Machine.Flw.served a0 a1 s) := by
  unfold Sys2Proof.Machine.Flw.served
  repeat' (first
    | with_reducible assumption
    | with_reducible apply Moves.put
    | intro _
    | split
    | (extract_lets +onlyGivenNames x; first
      | (refine Moves.keep (W := W) (s₀ := s₀) x ?_ ?_; rotate_left; intro hx; clear_value x; rotate_right)
      | (refine Moves.keep (W := W) (s₀ := s₀) x.2 ?_ ?_; rotate_left; intro hx; clear_value x; rotate_right)
      | (refine Moves.keep (W := W) (s₀ := s₀) x.1 ?_ ?_; rotate_left; intro hx; clear_value x; rotate_right)
      | skip))

theorem Flw_watchIdle_moves {W : Part → Prop} {s₀ s : State} (h0 : W (.fld F.FRM_INT_CAUSE_RA_JUST)) (h1 : W (.fld F.FRM_RA_STAT_JUST)) (h2 : W (.fld H.FRM_RA_RUN)) (a0 : Nat) (a1 : Nat) (h : Moves W s₀ s) :
    Moves W s₀ (Sys2Proof.Machine.Flw.watchIdle a0 a1 s) := by
  unfold Sys2Proof.Machine.Flw.watchIdle
  repeat' (first
    | with_reducible assumption
    | with_reducible apply Moves.clr
    | with_reducible apply Moves.count
    | with_reducible apply Moves.set
    | intro _
    | split
    | (extract_lets +onlyGivenNames x; first
      | (refine Moves.keep (W := W) (s₀ := s₀) x ?_ ?_; rotate_left; intro hx; clear_value x; rotate_right)
      | (refine Moves.keep (W := W) (s₀ := s₀) x.2 ?_ ?_; rotate_left; intro hx; clear_value x; rotate_right)
      | (refine Moves.keep (W := W) (s₀ := s₀) x.1 ?_ ?_; rotate_left; intro hx; clear_value x; rotate_right)
      | skip))

theorem Flw_takeData_moves {W : Part → Prop} {s₀ s : State} (h0 : W .flw) (h1 : W (.fld H.FLW_ERR_NEXT)) (h2 : W (.fld H.QDM_SLEEP_USED)) (a0 : Nat) (a1 : Int) (a2 : Bool) (h : Moves W s₀ s) :
    Moves W s₀ (Sys2Proof.Machine.Flw.takeData a0 a1 a2 s).2.2 := by
  unfold Sys2Proof.Machine.Flw.takeData
  repeat' (first
    | with_reducible assumption
    | with_reducible apply Flw_sleepFree_moves
    | with_reducible apply Flw_setSleep_moves
    | with_reducible apply Flw_leave_moves
    | intro _
    | split
    | (extract_lets +onlyGivenNames x; first
      | (refine Moves.keep (W := W) (s₀ := s₀) x ?_ ?_; rotate_left; intro hx; clear_value x; rotate_right)
      | (refine Moves.keep (W := W) (s₀ := s₀) x.2 ?_ ?_; rotate_left; intro hx; clear_value x; rotate_right)
      | (refine Moves.keep (W := W) (s₀ := s₀) x.1 ?_ ?_; rotate_left; intro hx; clear_value x; rotate_right)
      | skip)
    | (have hx := congrArg Prod.snd ‹_ = (_, _)›; dsimp only at hx; subst hx))

theorem Flw_putCf_moves {W : Part → Prop} {s₀ s : State} (a0 : Nat) (a1 : Sys2Proof.Machine.Cf) (h : Moves W s₀ s) :
    Moves W s₀ (Sys2Proof.Machine.Flw.putCf a0 a1 s) := by
  unfold Sys2Proof.Machine.Flw.putCf
  repeat' (first
    | with_reducible assumption
    | with_reducible apply Moves.emit
    | intro _)

theorem Flw_sendCf_moves {W : Part → Prop} {s₀ s : State} (h0 : W .flw) (h1 : W (.fld F.CRY_CNT_COUNT)) (h2 : W (.fld F.CRY_INT_CAUSE_TX_NOKEY)) (h3 : W (.fld F.FLW_INT_CAUSE_SLEEP_DROP)) (h4 : W (.fld F.FLW_SLEEP_DROP_COUNT)) (h5 : W (.fld F.FRM_INT_CAUSE_RA_JUST)) (h6 : W (.fld F.FRM_RA_STAT_JUST)) (h7 : W (.fld H.CRY_CUR)) (h8 : W (.fld H.CRY_NEXT)) (h9 : W (.fld H.FLW_DRR)) (h10 : W (.fld H.FLW_DRR_LEFT)) (h11 : W (.fld H.FLW_ERR_NEXT)) (h12 : W (.fld H.FLW_LOST_HELD)) (h13 : W (.fld H.FLW_RR_PLAIN)) (h14 : W (.fld H.FLW_RR_STRICT)) (h15 : W (.fld H.FLW_TOK)) (h16 : W (.fld H.FLW_TX_SEQ)) (h17 : W (.fld H.FRM_RA_RUN)) (h18 : W (.fld H.QDM_SLEEP_USED)) (a0 : Nat) (a1 : Nat) (a2 : Bool) (h : Moves W s₀ s) :
    Moves W s₀ (Sys2Proof.Machine.Flw.sendCf a0 a1 a2 s) := by
  unfold Sys2Proof.Machine.Flw.sendCf
  repeat' (first
    | with_reducible assumption
    | with_reducible apply Moves.clr
    | with_reducible apply Moves.put
    | with_reducible apply Flw_sleepDrop_moves
    | with_reducible apply Flw_takeData_moves
    | with_reducible apply Flw_served_moves
    | with_reducible apply Cry_encrypt_moves
    | with_reducible apply Flw_watchIdle_moves
    | with_reducible apply Flw_putCf_moves
    | intro _
    | split
    | (extract_lets +onlyGivenNames x; first
      | (refine Moves.keep (W := W) (s₀ := s₀) x ?_ ?_; rotate_left; intro hx; clear_value x; rotate_right)
      | (refine Moves.keep (W := W) (s₀ := s₀) x.2 ?_ ?_; rotate_left; intro hx; clear_value x; rotate_right)
      | (refine Moves.keep (W := W) (s₀ := s₀) x.1 ?_ ?_; rotate_left; intro hx; clear_value x; rotate_right)
      | skip))

theorem Flw_schedule_moves {W : Part → Prop} {s₀ s : State} (h0 : W .flw) (h1 : W .qdr) (h2 : W .vlk) (h3 : W (.fld F.CRY_CNT_COUNT)) (h4 : W (.fld F.CRY_INT_CAUSE_TX_NOKEY)) (h5 : W (.fld F.FLW_FSTAT_RATE_SHORT)) (h6 : W (.fld F.FLW_FSTAT_SHORT_CNT)) (h7 : W (.fld F.FLW_INT_CAUSE_RATE_SHORT)) (h8 : W (.fld F.FLW_INT_CAUSE_SLEEP_DROP)) (h9 : W (.fld F.FLW_SLEEP_DROP_COUNT)) (h10 : W (.fld F.FRM_INT_CAUSE_RA_JUST)) (h11 : W (.fld F.FRM_RA_STAT_JUST)) (h12 : W (.fld F.PMC_INT_CAUSE_OVF)) (h13 : W (.fld F.PMC_INT_CAUSE_SMP_AVAIL)) (h14 : W (.fld F.PMC_INT_CAUSE_SMP_DROP)) (h15 : W (.fld F.PMC_OVF_STAT_OVF)) (h16 : W (.fld F.PMC_SMP_DROP_RING)) (h17 : W (.fld F.PMC_SMP_STAT_COUNT)) (h18 : W (.fld H.CRY_CUR)) (h19 : W (.fld H.CRY_NEXT)) (h20 : W (.fld H.FLW_DRR)) (h21 : W (.fld H.FLW_DRR_LEFT)) (h22 : W (.fld H.FLW_ERR_NEXT)) (h23 : W (.fld H.FLW_LOST)) (h24 : W (.fld H.FLW_LOST_HELD)) (h25 : W (.fld H.FLW_RR_PLAIN)) (h26 : W (.fld H.FLW_RR_STRICT)) (h27 : W (.fld H.FLW_TOK)) (h28 : W (.fld H.FLW_TOK_T)) (h29 : W (.fld H.FLW_TX_SEQ)) (h30 : W (.fld H.FRM_CF_DUE)) (h31 : W (.fld H.FRM_MGMT_DUE)) (h32 : W (.fld H.FRM_RA_RUN)) (h33 : W (.fld H.PMC_CNT)) (h34 : W (.fld H.PMC_OVF_DUE)) (h35 : W (.fld H.PMC_OVF_T)) (h36 : W (.fld H.PMC_RING)) (h37 : W (.fld H.PMC_TRACE_POS)) (h38 : W (.fld H.QDM_SLEEP_USED)) (h39 : W (.fld H.VLK_RR)) (h40 : W (.fld H.VLK_SEQ)) (h41 : W (.fld H.VLK_WAKE_BIT)) (a0 : Nat) (a1 : Nat) (h : Moves W s₀ s) :
    Moves W s₀ (Sys2Proof.Machine.Flw.schedule a0 a1 s) := by
  unfold Sys2Proof.Machine.Flw.schedule
  repeat' (first
    | with_reducible assumption
    | with_reducible apply Moves.clr
    | with_reducible apply Moves.eachOf
    | with_reducible apply Moves.put
    | with_reducible apply Vlk_sendContainer_moves
    | with_reducible apply Flw_putCf_moves
    | with_reducible apply Flw_accrue_moves
    | with_reducible apply Flw_hold_moves
    | with_reducible apply Flw_sendCf_moves
    | intro _
    | split
    | (extract_lets +onlyGivenNames x; first
      | (refine Moves.keep (W := W) (s₀ := s₀) x ?_ ?_; rotate_left; intro hx; clear_value x; rotate_right)
      | (refine Moves.keep (W := W) (s₀ := s₀) x.2 ?_ ?_; rotate_left; intro hx; clear_value x; rotate_right)
      | (refine Moves.keep (W := W) (s₀ := s₀) x.1 ?_ ?_; rotate_left; intro hx; clear_value x; rotate_right)
      | skip)
    | (have hx := congrArg Prod.snd ‹_ = (_, _)›; dsimp only at hx; subst hx))

theorem Flw_refuse_moves {W : Part → Prop} {s₀ s : State} (h0 : W (.fld F.FLW_CMD_STAT_ERR_CODE)) (h1 : W (.fld F.FLW_INT_CAUSE_CMD_ERR)) (a0 : Nat) (h : Moves W s₀ s) :
    Moves W s₀ (Sys2Proof.Machine.Flw.refuse a0 s) := by
  unfold Sys2Proof.Machine.Flw.refuse
  repeat' (first
    | with_reducible assumption
    | with_reducible apply Moves.put
    | with_reducible apply Moves.set
    | intro _)

theorem Flw_complete_moves {W : Part → Prop} {s₀ s : State} (h0 : W (.fld F.FLW_CMD_STAT_BUSY)) (h1 : W (.fld F.FLW_CMD_STAT_ERR_CODE)) (h2 : W (.fld F.FLW_INT_CAUSE_CMD_DONE)) (h : Moves W s₀ s) :
    Moves W s₀ (Sys2Proof.Machine.Flw.complete s) := by
  unfold Sys2Proof.Machine.Flw.complete
  repeat' (first
    | with_reducible assumption
    | with_reducible apply Moves.clr
    | with_reducible apply Moves.set
    | intro _)

theorem Flw_read_moves {W : Part → Prop} {s₀ s : State} (h0 : W (.fld F.FLW_CMD_STAT_BUSY)) (h1 : W (.fld F.FLW_CMD_STAT_ERR_CODE)) (h2 : W (.fld F.FLW_INT_CAUSE_CMD_DONE)) (h3 : W (.fld F.FLW_INT_CAUSE_CMD_ERR)) (h4 : W (.fld F.FLW_STAGE_DATA)) (a0 : Nat) (h : Moves W s₀ s) :
    Moves W s₀ (Sys2Proof.Machine.Flw.read a0 s) := by
  unfold Sys2Proof.Machine.Flw.read
  repeat' (first
    | with_reducible assumption
    | with_reducible apply Moves.each
    | with_reducible apply Moves.put
    | with_reducible apply Flw_refuse_moves
    | with_reducible apply Flw_complete_moves
    | intro _
    | split)

theorem Flw_accept_moves {W : Part → Prop} {s₀ s : State} (h0 : W (.fld F.FLW_CMD_STAT_BUSY)) (h1 : W (.fld H.FLW_OP)) (h2 : W (.fld H.FLW_OP_FLOW)) (a0 : Nat) (a1 : Nat) (h : Moves W s₀ s) :
    Moves W s₀ (Sys2Proof.Machine.Flw.accept a0 a1 s) := by
  unfold Sys2Proof.Machine.Flw.accept
  repeat' (first
    | with_reducible assumption
    | with_reducible apply Moves.put
    | with_reducible apply Moves.set
    | intro _)

theorem Flw_write_moves {W : Part → Prop} {s₀ s : State} (h0 : W (.fld F.FLW_CMD_STAT_BUSY)) (h1 : W (.fld F.FLW_CMD_STAT_ERR_CODE)) (h2 : W (.fld F.FLW_INT_CAUSE_CMD_ERR)) (h3 : W (.fld F.SYS_INT_CAUSE_ROLE_LIMIT)) (h4 : W (.fld H.FLW_OP)) (h5 : W (.fld H.FLW_OP_FLOW)) (a0 : Nat) (h : Moves W s₀ s) :
    Moves W s₀ (Sys2Proof.Machine.Flw.write a0 s) := by
  unfold Sys2Proof.Machine.Flw.write
  repeat' (first
    | with_reducible assumption
    | with_reducible apply Moves.set
    | with_reducible apply Flw_refuse_moves
    | with_reducible apply Flw_accept_moves
    | intro _
    | split
    | (extract_lets +onlyGivenNames x; first
      | (refine Moves.keep (W := W) (s₀ := s₀) x ?_ ?_; rotate_left; intro hx; clear_value x; rotate_right)
      | (refine Moves.keep (W := W) (s₀ := s₀) x.2 ?_ ?_; rotate_left; intro hx; clear_value x; rotate_right)
      | (refine Moves.keep (W := W) (s₀ := s₀) x.1 ?_ ?_; rotate_left; intro hx; clear_value x; rotate_right)
      | skip))

theorem Flw_remove_moves {W : Part → Prop} {s₀ s : State} (h0 : W (.fld F.FLW_CMD_STAT_BUSY)) (h1 : W (.fld F.FLW_CMD_STAT_ERR_CODE)) (h2 : W (.fld F.FLW_INT_CAUSE_CMD_ERR)) (h3 : W (.fld H.FLW_OP)) (h4 : W (.fld H.FLW_OP_FLOW)) (a0 : Nat) (h : Moves W s₀ s) :
    Moves W s₀ (Sys2Proof.Machine.Flw.remove a0 s) := by
  unfold Sys2Proof.Machine.Flw.remove
  repeat' (first
    | with_reducible assumption
    | with_reducible apply Flw_refuse_moves
    | with_reducible apply Flw_accept_moves
    | intro _
    | split)

theorem Flw_unlessBusy_moves {W : Part → Prop} {s₀ s : State} (h0 : W (.fld F.FLW_CMD_STAT_ERR_CODE)) (a0 : Sys2Proof.Machine.State → Sys2Proof.Machine.State) (hf0 : ∀ b0, Moves W s₀ b0 → Moves W s₀ (a0 b0)) (h : Moves W s₀ s) :
    Moves W s₀ (Sys2Proof.Machine.Flw.unlessBusy a0 s) := by
  unfold Sys2Proof.Machine.Flw.unlessBusy
  repeat' (first
    | with_reducible assumption
    | with_reducible apply Moves.put
    | with_reducible apply hf0
    | intro _
    | split)

theorem Flw_command_moves {W : Part → Prop} {s₀ s : State} (h0 : W (.fld F.FLW_CMD_STAT_BUSY)) (h1 : W (.fld F.FLW_CMD_STAT_ERR_CODE)) (h2 : W (.fld F.FLW_INT_CAUSE_CMD_DONE)) (h3 : W (.fld F.FLW_INT_CAUSE_CMD_ERR)) (h4 : W (.fld F.FLW_STAGE_DATA)) (h5 : W (.fld F.SYS_INT_CAUSE_ROLE_LIMIT)) (h6 : W (.fld H.FLW_OP)) (h7 : W (.fld H.FLW_OP_FLOW)) (a0 : Nat) (a1 : Nat) (h : Moves W s₀ s) :
    Moves W s₀ (Sys2Proof.Machine.Flw.command a0 a1 s) := by
  unfold Sys2Proof.Machine.Flw.command
  repeat' (first
    | with_reducible assumption
    | with_reducible apply Flw_unlessBusy_moves
    | with_reducible apply Flw_write_moves
    | with_reducible apply Flw_remove_moves
    | with_reducible apply Flw_read_moves
    | intro _
    | split)

theorem Flw_writeCmd_moves {W : Part → Prop} {s₀ s : State} (h0 : W (.fld F.FLW_CMD_FLOW)) (h1 : W (.fld F.FLW_CMD_OP)) (h2 : W (.fld F.FLW_CMD_STAT_BUSY)) (h3 : W (.fld F.FLW_CMD_STAT_ERR_CODE)) (h4 : W (.fld F.FLW_INT_CAUSE_CMD_DONE)) (h5 : W (.fld F.FLW_INT_CAUSE_CMD_ERR)) (h6 : W (.fld F.FLW_STAGE_DATA)) (h7 : W (.fld F.SYS_INT_CAUSE_ROLE_LIMIT)) (h8 : W (.fld H.FLW_OP)) (h9 : W (.fld H.FLW_OP_FLOW)) (a0 : Nat) (h : Moves W s₀ s) :
    Moves W s₀ (Sys2Proof.Machine.Flw.writeCmd a0 s) := by
  unfold Sys2Proof.Machine.Flw.writeCmd
  repeat' (first
    | with_reducible assumption
    | with_reducible apply Moves.put
    | with_reducible apply Flw_unlessBusy_moves
    | with_reducible apply Flw_command_moves
    | intro _
    | split
    | (extract_lets +onlyGivenNames x; first
      | (refine Moves.keep (W := W) (s₀ := s₀) x ?_ ?_; rotate_left; intro hx; clear_value x; rotate_right)
      | (refine Moves.keep (W := W) (s₀ := s₀) x.2 ?_ ?_; rotate_left; intro hx; clear_value x; rotate_right)
      | (refine Moves.keep (W := W) (s₀ := s₀) x.1 ?_ ?_; rotate_left; intro hx; clear_value x; rotate_right)
      | skip))

theorem Flw_writeStage_moves {W : Part → Prop} {s₀ s : State} (h0 : W (.fld F.FLW_CMD_STAT_ERR_CODE)) (h1 : W (.fld F.FLW_STAGE_DATA)) (a0 : Nat) (a1 : Nat) (h : Moves W s₀ s) :
    Moves W s₀ (Sys2Proof.Machine.Flw.writeStage a0 a1 s) := by
  unfold Sys2Proof.Machine.Flw.writeStage
  repeat' (first
    | with_reducible assumption
    | with_reducible apply Moves.put
    | with_reducible apply Flw_unlessBusy_moves
    | intro _)

theorem Flw_stop_moves {W : Part → Prop} {s₀ s : State} (h0 : W .flw) (h1 : W .frm) (h2 : W (.fld F.FLW_INT_CAUSE_SLEEP_DROP)) (h3 : W (.fld F.FLW_SLEEP_DROP_COUNT)) (h4 : W (.fld F.FRM_DEF_FLOW_DEF)) (h5 : W (.fld F.FRM_RA_STAT_FILL)) (h6 : W (.fld F.FRM_RA_STAT_JUST)) (h7 : W (.fld F.QDM_BW_LIMIT)) (h8 : W (.fld F.QDM_BW_USED)) (h9 : W (.fld F.QDM_POOL_STAT_DIE_FREE)) (h10 : W (.fld F.QDM_POOL_STAT_QDR_FREE)) (h11 : W (.fld H.FLW_CTX_FLOW)) (h12 : W (.fld H.FLW_ERR_NEXT)) (h13 : W (.fld H.FLW_LOST)) (h14 : W (.fld H.FLW_TOK)) (h15 : W (.fld H.FLW_TX_SEQ)) (h16 : W (.fld H.FRM_CLRC_FLOW)) (h17 : W (.fld H.FRM_EG_JUST)) (h18 : W (.fld H.FRM_LAST_TYPE)) (h19 : W (.fld H.FRM_RA_RUN)) (h20 : W (.fld H.FRM_SEEN_FLOW)) (h21 : W (.fld H.FRM_SETC_FLOW)) (h22 : W (.fld H.FRM_WIN_ON)) (h23 : W (.fld H.FRM_WIN_SEQ)) (h24 : W (.fld H.HSL_OUT)) (h25 : W (.fld H.QDM_COMMITTED)) (h26 : W (.fld H.QDM_EXTRA)) (h27 : W (.fld H.QDM_HELD)) (h28 : W (.fld H.QDM_POOL_USED)) (h29 : W (.fld H.QDM_RESERVED)) (h30 : W (.fld H.QDM_SLEEP_USED)) (a0 : Nat) (h : Moves W s₀ s) :
    Moves W s₀ (Sys2Proof.Machine.Flw.stop a0 s) := by
  unfold Sys2Proof.Machine.Flw.stop
  repeat' (first
    | with_reducible assumption
    | simp only [List.foldl_cons, List.foldl_nil]
    | with_reducible apply Moves.clr
    | with_reducible apply Moves.each
    | with_reducible apply Moves.eachOf
    | with_reducible apply Moves.foldl
    | with_reducible apply Qdm_free_moves
    | with_reducible apply Flw_sleepDrop_moves
    | with_reducible apply Flw_sleepFree_moves
    | with_reducible apply Flw_setSleep_moves
    | with_reducible apply Qdm_unreserve_moves
    | with_reducible apply Flw_setErrored_moves
    | with_reducible apply Flw_setIngress_moves
    | with_reducible apply Hsl_replace_moves
    | intro _
    | split
    | (extract_lets +onlyGivenNames x; first
      | (refine Moves.keep (W := W) (s₀ := s₀) x ?_ ?_; rotate_left; intro hx; clear_value x; rotate_right)
      | (refine Moves.keep (W := W) (s₀ := s₀) x.2 ?_ ?_; rotate_left; intro hx; clear_value x; rotate_right)
      | (refine Moves.keep (W := W) (s₀ := s₀) x.1 ?_ ?_; rotate_left; intro hx; clear_value x; rotate_right)
      | skip)
    | (with_reducible refine Moves.frm _ ?_ ?_ <;> with_reducible first
      | assumption
      | apply Moves.clr
      | apply Moves.each
      | apply Moves.eachOf
      | apply Moves.foldl
      | apply Qdm_free_moves
      | apply Flw_sleepDrop_moves
      | apply Flw_sleepFree_moves
      | apply Flw_setSleep_moves
      | apply Qdm_unreserve_moves
      | apply Flw_setErrored_moves
      | apply Flw_setIngress_moves
      | apply Hsl_replace_moves)
    | (with_reducible refine Moves.flw _ ?_ ?_ <;> with_reducible first
      | assumption
      | apply Moves.clr
      | apply Moves.each
      | apply Moves.eachOf
      | apply Moves.foldl
      | apply Qdm_free_moves
      | apply Flw_sleepDrop_moves
      | apply Flw_sleepFree_moves
      | apply Flw_setSleep_moves
      | apply Qdm_unreserve_moves
      | apply Flw_setErrored_moves
      | apply Flw_setIngress_moves
      | apply Hsl_replace_moves))

theorem Flw_start_moves {W : Part → Prop} {s₀ s : State} (h0 : W (.fld F.FRM_RA_STAT_JUST)) (h1 : W (.fld F.QDM_BW_LIMIT)) (h2 : W (.fld F.QDM_BW_USED)) (h3 : W (.fld F.QDM_POOL_STAT_DIE_FREE)) (h4 : W (.fld F.QDM_POOL_STAT_QDR_FREE)) (h5 : W (.fld H.CRY_CAND)) (h6 : W (.fld H.CRY_NEXT)) (h7 : W (.fld H.CRY_RUN_MASK)) (h8 : W (.fld H.CRY_SYNC)) (h9 : W (.fld H.FLW_CTX_FLOW)) (h10 : W (.fld H.FLW_PMI)) (h11 : W (.fld H.FLW_TOK_T)) (h12 : W (.fld H.QDM_COMMITTED)) (h13 : W (.fld H.QDM_RESERVED)) (a0 : Nat) (a1 : Sys2Proof.Machine.Flw.Entry) (a2 : Nat) (h : Moves W s₀ s) :
    Moves W s₀ (Sys2Proof.Machine.Flw.start a0 a1 a2 s) := by
  unfold Sys2Proof.Machine.Flw.start
  repeat' (first
    | with_reducible assumption
    | with_reducible apply Moves.put
    | with_reducible apply Qdm_reserve_moves
    | with_reducible apply Cry_addFlow_moves
    | intro _
    | split
    | (extract_lets +onlyGivenNames x; first
      | (refine Moves.keep (W := W) (s₀ := s₀) x ?_ ?_; rotate_left; intro hx; clear_value x; rotate_right)
      | (refine Moves.keep (W := W) (s₀ := s₀) x.2 ?_ ?_; rotate_left; intro hx; clear_value x; rotate_right)
      | (refine Moves.keep (W := W) (s₀ := s₀) x.1 ?_ ?_; rotate_left; intro hx; clear_value x; rotate_right)
      | skip))

theorem Flw_store_moves {W : Part → Prop} {s₀ s : State} (h0 : W (.fld F.FLW_FT_DATA)) (a0 : Nat) (a1 : Sys2Proof.Machine.Flw.Entry) (h : Moves W s₀ s) :
    Moves W s₀ (Sys2Proof.Machine.Flw.store a0 a1 s) := by
  unfold Sys2Proof.Machine.Flw.store
  repeat' (first
    | with_reducible assumption
    | with_reducible apply Moves.eachOf
    | with_reducible apply Moves.put
    | intro _)

theorem Flw_replace_moves {W : Part → Prop} {s₀ s : State} (h0 : W .flw) (h1 : W .frm) (h2 : W (.fld F.FLW_FSTAT_RATE_SHORT)) (h3 : W (.fld F.FLW_FSTAT_SHORT_CNT)) (h4 : W (.fld F.FLW_FT_DATA)) (h5 : W (.fld F.FLW_INT_CAUSE_RATE_SHORT)) (h6 : W (.fld F.FLW_INT_CAUSE_SLEEP_DROP)) (h7 : W (.fld F.FLW_SLEEP_DROP_COUNT)) (h8 : W (.fld F.FRM_DEF_FLOW_DEF)) (h9 : W (.fld F.FRM_RA_STAT_FILL)) (h10 : W (.fld F.FRM_RA_STAT_JUST)) (h11 : W (.fld F.QDM_BW_LIMIT)) (h12 : W (.fld F.QDM_BW_USED)) (h13 : W (.fld F.QDM_POOL_STAT_DIE_FREE)) (h14 : W (.fld F.QDM_POOL_STAT_QDR_FREE)) (h15 : W (.fld H.CRY_CAND)) (h16 : W (.fld H.CRY_NEXT)) (h17 : W (.fld H.CRY_RUN_MASK)) (h18 : W (.fld H.CRY_SYNC)) (h19 : W (.fld H.FLW_CTX_FLOW)) (h20 : W (.fld H.FLW_ERR_NEXT)) (h21 : W (.fld H.FLW_LOST)) (h22 : W (.fld H.FLW_PMI)) (h23 : W (.fld H.FLW_TOK)) (h24 : W (.fld H.FLW_TOK_T)) (h25 : W (.fld H.FLW_TX_SEQ)) (h26 : W (.fld H.FRM_CLRC_FLOW)) (h27 : W (.fld H.FRM_EG_JUST)) (h28 : W (.fld H.FRM_LAST_TYPE)) (h29 : W (.fld H.FRM_RA_RUN)) (h30 : W (.fld H.FRM_SEEN_FLOW)) (h31 : W (.fld H.FRM_SETC_FLOW)) (h32 : W (.fld H.FRM_WIN_ON)) (h33 : W (.fld H.FRM_WIN_SEQ)) (h34 : W (.fld H.HSL_OUT)) (h35 : W (.fld H.QDM_COMMITTED)) (h36 : W (.fld H.QDM_EXTRA)) (h37 : W (.fld H.QDM_HELD)) (h38 : W (.fld H.QDM_POOL_USED)) (h39 : W (.fld H.QDM_RESERVED)) (h40 : W (.fld H.QDM_SLEEP_USED)) (a0 : Nat) (a1 : Sys2Proof.Machine.Flw.Entry) (a2 : Nat) (h : Moves W s₀ s) :
    Moves W s₀ (Sys2Proof.Machine.Flw.replace a0 a1 a2 s) := by
  unfold Sys2Proof.Machine.Flw.replace
  repeat' (first
    | with_reducible assumption
    | with_reducible apply Moves.put
    | with_reducible apply Flw_accrue_moves
    | with_reducible apply Qdm_refresh_moves
    | with_reducible apply Flw_store_moves
    | with_reducible apply Flw_stop_moves
    | with_reducible apply Flw_start_moves
    | intro _
    | split
    | (extract_lets +onlyGivenNames x; first
      | (refine Moves.keep (W := W) (s₀ := s₀) x ?_ ?_; rotate_left; intro hx; clear_value x; rotate_right)
      | (refine Moves.keep (W := W) (s₀ := s₀) x.2 ?_ ?_; rotate_left; intro hx; clear_value x; rotate_right)
      | (refine Moves.keep (W := W) (s₀ := s₀) x.1 ?_ ?_; rotate_left; intro hx; clear_value x; rotate_right)
      | skip))

theorem Flw_apply_moves {W : Part → Prop} {s₀ s : State} (h0 : W .flw) (h1 : W .frm) (h2 : W (.fld F.FLW_CMD_STAT_BUSY)) (h3 : W (.fld F.FLW_CMD_STAT_ERR_CODE)) (h4 : W (.fld F.FLW_FSTAT_RATE_SHORT)) (h5 : W (.fld F.FLW_FSTAT_SHORT_CNT)) (h6 : W (.fld F.FLW_FT_DATA)) (h7 : W (.fld F.FLW_INT_CAUSE_CMD_DONE)) (h8 : W (.fld F.FLW_INT_CAUSE_RATE_SHORT)) (h9 : W (.fld F.FLW_INT_CAUSE_SLEEP_DROP)) (h10 : W (.fld F.FLW_SLEEP_DROP_COUNT)) (h11 : W (.fld F.FRM_DEF_FLOW_DEF)) (h12 : W (.fld F.FRM_RA_STAT_FILL)) (h13 : W (.fld F.FRM_RA_STAT_JUST)) (h14 : W (.fld F.QDM_BW_LIMIT)) (h15 : W (.fld F.QDM_BW_USED)) (h16 : W (.fld F.QDM_POOL_STAT_DIE_FREE)) (h17 : W (.fld F.QDM_POOL_STAT_QDR_FREE)) (h18 : W (.fld H.CRY_CAND)) (h19 : W (.fld H.CRY_NEXT)) (h20 : W (.fld H.CRY_RUN_MASK)) (h21 : W (.fld H.CRY_SYNC)) (h22 : W (.fld H.FLW_CTX_FLOW)) (h23 : W (.fld H.FLW_ERR_NEXT)) (h24 : W (.fld H.FLW_LOST)) (h25 : W (.fld H.FLW_PMI)) (h26 : W (.fld H.FLW_TOK)) (h27 : W (.fld H.FLW_TOK_T)) (h28 : W (.fld H.FLW_TX_SEQ)) (h29 : W (.fld H.FRM_CLRC_FLOW)) (h30 : W (.fld H.FRM_EG_JUST)) (h31 : W (.fld H.FRM_LAST_TYPE)) (h32 : W (.fld H.FRM_RA_RUN)) (h33 : W (.fld H.FRM_SEEN_FLOW)) (h34 : W (.fld H.FRM_SETC_FLOW)) (h35 : W (.fld H.FRM_WIN_ON)) (h36 : W (.fld H.FRM_WIN_SEQ)) (h37 : W (.fld H.HSL_OUT)) (h38 : W (.fld H.QDM_COMMITTED)) (h39 : W (.fld H.QDM_EXTRA)) (h40 : W (.fld H.QDM_HELD)) (h41 : W (.fld H.QDM_POOL_USED)) (h42 : W (.fld H.QDM_RESERVED)) (h43 : W (.fld H.QDM_SLEEP_USED)) (a0 : Nat) (h : Moves W s₀ s) :
    Moves W s₀ (Sys2Proof.Machine.Flw.apply a0 s) := by
  unfold Sys2Proof.Machine.Flw.apply
  repeat' (first
    | with_reducible assumption
    | with_reducible apply Flw_complete_moves
    | with_reducible apply Flw_replace_moves
    | with_reducible apply Flw_store_moves
    | with_reducible apply Flw_stop_moves
    | intro _
    | split
    | (extract_lets +onlyGivenNames x; first
      | (refine Moves.keep (W := W) (s₀ := s₀) x ?_ ?_; rotate_left; intro hx; clear_value x; rotate_right)
      | (refine Moves.keep (W := W) (s₀ := s₀) x.2 ?_ ?_; rotate_left; intro hx; clear_value x; rotate_right)
      | (refine Moves.keep (W := W) (s₀ := s₀) x.1 ?_ ?_; rotate_left; intro hx; clear_value x; rotate_right)
      | skip))

theorem Flw_writeRaCfg_moves {W : Part → Prop} {s₀ s : State} (h0 : W (.fld F.FRM_RA_CFG_IDLE_WIN)) (h1 : W (.fld F.FRM_RA_CFG_MODE)) (h2 : W (.fld F.FRM_RA_STAT_JUST)) (h3 : W (.fld H.FRM_RA_RUN)) (a0 : Nat) (a1 : Nat) (h : Moves W s₀ s) :
    Moves W s₀ (Sys2Proof.Machine.Flw.writeRaCfg a0 a1 s) := by
  unfold Sys2Proof.Machine.Flw.writeRaCfg
  repeat' (first
    | with_reducible assumption
    | with_reducible apply Moves.clr
    | with_reducible apply Moves.put
    | intro _
    | (extract_lets +onlyGivenNames x; first
      | (refine Moves.keep (W := W) (s₀ := s₀) x ?_ ?_; rotate_left; intro hx; clear_value x; rotate_right)
      | (refine Moves.keep (W := W) (s₀ := s₀) x.2 ?_ ?_; rotate_left; intro hx; clear_value x; rotate_right)
      | (refine Moves.keep (W := W) (s₀ := s₀) x.1 ?_ ?_; rotate_left; intro hx; clear_value x; rotate_right)
      | skip))

theorem Flw_latchPmi_moves {W : Part → Prop} {s₀ s : State} (h0 : W (.fld H.FLW_PMI)) (h : Moves W s₀ s) :
    Moves W s₀ (Sys2Proof.Machine.Flw.latchPmi s) := by
  unfold Sys2Proof.Machine.Flw.latchPmi
  repeat' (first
    | with_reducible assumption
    | with_reducible apply Moves.eachOf
    | with_reducible apply Moves.put
    | intro _)

theorem Flw_portFail_moves {W : Part → Prop} {s₀ s : State} (h0 : W .flw) (h1 : W .frm) (h2 : W (.fld F.FLW_INT_CAUSE_SLEEP_DROP)) (h3 : W (.fld F.FLW_SLEEP_DROP_COUNT)) (h4 : W (.fld F.QDM_BW_LIMIT)) (h5 : W (.fld F.QDM_BW_USED)) (h6 : W (.fld F.QDM_INT_CAUSE_PORT_FAIL)) (h7 : W (.fld F.QDM_POOL_STAT_QDR_FREE)) (h8 : W (.fld F.QDM_STAT_IN_USE)) (h9 : W (.fld F.QDM_STAT_PORT_FAIL)) (h10 : W (.fld H.QDM_SLEEP_USED)) (a0 : Nat) (h : Moves W s₀ s) :
    Moves W s₀ (Sys2Proof.Machine.Flw.portFail a0 s) := by
  unfold Sys2Proof.Machine.Flw.portFail
  repeat' (first
    | with_reducible assumption
    | with_reducible apply Moves.clrBit
    | with_reducible apply Moves.each
    | with_reducible apply Moves.eachOf
    | with_reducible apply Moves.set
    | with_reducible apply Moves.setBit
    | with_reducible apply Flw_setSleep_moves
    | with_reducible apply Flw_sleepDrop_moves
    | with_reducible apply Flw_sleepFree_moves
    | with_reducible apply Qdm_refresh_moves
    | intro _
    | split
    | (extract_lets +onlyGivenNames x; first
      | (refine Moves.keep (W := W) (s₀ := s₀) x ?_ ?_; rotate_left; intro hx; clear_value x; rotate_right)
      | (refine Moves.keep (W := W) (s₀ := s₀) x.2 ?_ ?_; rotate_left; intro hx; clear_value x; rotate_right)
      | (refine Moves.keep (W := W) (s₀ := s₀) x.1 ?_ ?_; rotate_left; intro hx; clear_value x; rotate_right)
      | skip)
    | (with_reducible refine Moves.frm _ ?_ ?_ <;> with_reducible first
      | assumption
      | apply Moves.clrBit
      | apply Moves.each
      | apply Moves.eachOf
      | apply Moves.set
      | apply Moves.setBit
      | apply Flw_setSleep_moves
      | apply Flw_sleepDrop_moves
      | apply Flw_sleepFree_moves
      | apply Qdm_refresh_moves))

theorem Flw_parityError_moves {W : Part → Prop} {s₀ s : State} (h0 : W .frm) (h1 : W (.fld F.QDM_ERR_ADDR_ADDR)) (h2 : W (.fld F.QDM_ERR_CNT_DATA)) (h3 : W (.fld F.QDM_INT_CAUSE_DATA_PERR)) (h4 : W (.fld H.QDM_ERRS_SEC)) (a0 : Nat) (a1 : Nat) (a2 : Nat) (h : Moves W s₀ s) :
    Moves W s₀ (Sys2Proof.Machine.Flw.parityError a0 a1 a2 s) := by
  unfold Sys2Proof.Machine.Flw.parityError
  repeat' (first
    | with_reducible assumption
    | with_reducible apply Qdm_dataError_moves
    | intro _
    | split
    | (extract_lets +onlyGivenNames x; first
      | (refine Moves.keep (W := W) (s₀ := s₀) x ?_ ?_; rotate_left; intro hx; clear_value x; rotate_right)
      | (refine Moves.keep (W := W) (s₀ := s₀) x.2 ?_ ?_; rotate_left; intro hx; clear_value x; rotate_right)
      | (refine Moves.keep (W := W) (s₀ := s₀) x.1 ?_ ?_; rotate_left; intro hx; clear_value x; rotate_right)
      | skip)
    | (with_reducible refine Moves.frm _ ?_ ?_ <;> with_reducible first
      | assumption
      | apply Qdm_dataError_moves))

end Sys2Proof.Laws
end

