-- ==== Sys2Proof/Laws/MovesFrmDef.lean ====
section
/-! SUPPORT. Sys2Proof/Laws/MovesFrmDef.lean: what each operation of Machine/FrmDef.lean may write (Laws/Moves.lean). -/
namespace Sys2Proof.Laws
open Sys2Proof Sys2Proof.Machine

theorem Frm_remember_moves {W : Part → Prop} {s₀ s : State} (a0 : Sys2Proof.Machine.Field) (a1 : Nat) (a2 : Nat) (hg0 : W (.fld a0)) (h : Moves W s₀ s) :
    Moves W s₀ (Sys2Proof.Machine.Frm.remember a0 a1 a2 s) := by
  unfold Sys2Proof.Machine.Frm.remember
  repeat' (first
    | with_reducible assumption
    | with_reducible apply Moves.put
    | intro _
    | split)

theorem Frm_note_moves {W : Part → Prop} {s₀ s : State} (h0 : W (.fld H.FRM_LIVE_F)) (h1 : W (.fld H.FRM_LIVE_SC)) (h2 : W (.fld H.FRM_SEC_CLI)) (h3 : W (.fld H.FRM_SEC_SC)) (h4 : W (.fld H.FRM_SEEN_CLI)) (h5 : W (.fld H.FRM_SEEN_FLOW)) (h6 : W (.fld H.FRM_SEEN_LANE)) (h7 : W (.fld H.FRM_SEEN_LINE)) (h8 : W (.fld H.FRM_SEEN_SC)) (h : Moves W s₀ s) :
    Moves W s₀ (Sys2Proof.Machine.Frm.note s) := by
  unfold Sys2Proof.Machine.Frm.note
  repeat' (first
    | with_reducible assumption
    | with_reducible apply Moves.each
    | with_reducible apply Moves.eachOf
    | with_reducible apply Moves.put
    | with_reducible apply Frm_remember_moves
    | intro _
    | split
    | (extract_lets +onlyGivenNames x; first
      | (refine Moves.keep (W := W) (s₀ := s₀) x ?_ ?_; rotate_left; intro hx; clear_value x; rotate_right)
      | (refine Moves.keep (W := W) (s₀ := s₀) x.2 ?_ ?_; rotate_left; intro hx; clear_value x; rotate_right)
      | (refine Moves.keep (W := W) (s₀ := s₀) x.1 ?_ ?_; rotate_left; intro hx; clear_value x; rotate_right)
      | skip))

theorem Frm_seen_in {W : Part → Prop} (n : Nat) (h0 : W (.fld H.FRM_SEEN_LINE)) (h1 : W (.fld H.FRM_SEEN_SC)) (h2 : W (.fld H.FRM_SEEN_FLOW)) (h3 : W (.fld H.FRM_SEEN_LANE)) (h4 : W (.fld H.FRM_SEEN_CLI)) : W (.fld (Frm.kind n).seen) := by
  rcases n with _ | _ | _ | _ | _ | n <;> assumption

theorem Frm_setc_in {W : Part → Prop} (n : Nat) (h0 : W (.fld H.FRM_SETC_LINE)) (h1 : W (.fld H.FRM_SETC_SC)) (h2 : W (.fld H.FRM_SETC_FLOW)) (h3 : W (.fld H.FRM_SETC_LANE)) (h4 : W (.fld H.FRM_SETC_CLI)) : W (.fld (Frm.kind n).setc) := by
  rcases n with _ | _ | _ | _ | _ | n <;> assumption

theorem Frm_clrc_in {W : Part → Prop} (n : Nat) (h0 : W (.fld H.FRM_CLRC_LINE)) (h1 : W (.fld H.FRM_CLRC_SC)) (h2 : W (.fld H.FRM_CLRC_FLOW)) (h3 : W (.fld H.FRM_CLRC_LANE)) (h4 : W (.fld H.FRM_CLRC_CLI)) : W (.fld (Frm.kind n).clrc) := by
  rcases n with _ | _ | _ | _ | _ | n <;> assumption

theorem Frm_declared_in {W : Part → Prop} (n : Nat) (h0 : W (.fld F.FRM_DEF_LINE_DEF)) (h1 : W (.fld F.FRM_DEF_SC_DEF)) (h2 : W (.fld F.FRM_DEF_FLOW_DEF)) (h3 : W (.fld F.FRM_DEF_LANE_DEF)) (h4 : W (.fld F.FRM_DEF_CLI_DEF)) : W (.fld (Frm.kind n).declared) := by
  rcases n with _ | _ | _ | _ | _ | n <;> assumption

theorem Frm_changed_moves {W : Part → Prop} {s₀ s : State} (h0 : W (.fld F.FRM_INT_CAUSE_DEF_CHG)) (h : Moves W s₀ s) :
    Moves W s₀ (Sys2Proof.Machine.Frm.changed s) := by
  unfold Sys2Proof.Machine.Frm.changed
  repeat' (first
    | with_reducible assumption
    | with_reducible apply Moves.set
    | intro _)

theorem Frm_declare_moves {W : Part → Prop} {s₀ s : State} (h0 : W (.fld F.FRM_DEF_CLI_DEF)) (h1 : W (.fld F.FRM_DEF_FLOW_DEF)) (h2 : W (.fld F.FRM_DEF_LANE_DEF)) (h3 : W (.fld F.FRM_DEF_LINE_DEF)) (h4 : W (.fld F.FRM_DEF_SC_DEF)) (h5 : W (.fld F.FRM_INT_CAUSE_DEF_CHG)) (a0 : Nat) (a1 : Nat) (a2 : Nat) (a3 : Nat) (h : Moves W s₀ s) :
    Moves W s₀ (Sys2Proof.Machine.Frm.declare a0 a1 a2 a3 s) := by
  unfold Sys2Proof.Machine.Frm.declare
  repeat' (first
    | with_reducible assumption
    | with_reducible apply Moves.setBit
    | with_reducible apply Frm_changed_moves
    | with_reducible apply Frm_declared_in
    | intro _
    | split
    | (extract_lets +onlyGivenNames x; first
      | (refine Moves.keep (W := W) (s₀ := s₀) x ?_ ?_; rotate_left; intro hx; clear_value x; rotate_right)
      | (refine Moves.keep (W := W) (s₀ := s₀) x.2 ?_ ?_; rotate_left; intro hx; clear_value x; rotate_right)
      | (refine Moves.keep (W := W) (s₀ := s₀) x.1 ?_ ?_; rotate_left; intro hx; clear_value x; rotate_right)
      | skip))

theorem Frm_clear_moves {W : Part → Prop} {s₀ s : State} (h0 : W (.fld F.FRM_DEF_CLI_DEF)) (h1 : W (.fld F.FRM_DEF_FLOW_DEF)) (h2 : W (.fld F.FRM_DEF_LANE_DEF)) (h3 : W (.fld F.FRM_DEF_LINE_DEF)) (h4 : W (.fld F.FRM_DEF_SC_DEF)) (h5 : W (.fld F.FRM_INT_CAUSE_DEF_CHG)) (a0 : Nat) (a1 : Nat) (a2 : Nat) (a3 : Nat) (h : Moves W s₀ s) :
    Moves W s₀ (Sys2Proof.Machine.Frm.clear a0 a1 a2 a3 s) := by
  unfold Sys2Proof.Machine.Frm.clear
  repeat' (first
    | with_reducible assumption
    | with_reducible apply Moves.clrBit
    | with_reducible apply Frm_changed_moves
    | with_reducible apply Frm_declared_in
    | intro _
    | split
    | (extract_lets +onlyGivenNames x; first
      | (refine Moves.keep (W := W) (s₀ := s₀) x ?_ ?_; rotate_left; intro hx; clear_value x; rotate_right)
      | (refine Moves.keep (W := W) (s₀ := s₀) x.2 ?_ ?_; rotate_left; intro hx; clear_value x; rotate_right)
      | (refine Moves.keep (W := W) (s₀ := s₀) x.1 ?_ ?_; rotate_left; intro hx; clear_value x; rotate_right)
      | skip))

theorem Frm_integrateEntity_moves {W : Part → Prop} {s₀ s : State} (h0 : W (.fld F.FRM_DEF_CLI_DEF)) (h1 : W (.fld F.FRM_DEF_FLOW_DEF)) (h2 : W (.fld F.FRM_DEF_LANE_DEF)) (h3 : W (.fld F.FRM_DEF_LINE_DEF)) (h4 : W (.fld F.FRM_DEF_SC_DEF)) (h5 : W (.fld F.FRM_INT_CAUSE_DEF_CHG)) (h6 : W (.fld H.FRM_CLRC_CLI)) (h7 : W (.fld H.FRM_CLRC_FLOW)) (h8 : W (.fld H.FRM_CLRC_LANE)) (h9 : W (.fld H.FRM_CLRC_LINE)) (h10 : W (.fld H.FRM_CLRC_SC)) (h11 : W (.fld H.FRM_SEEN_CLI)) (h12 : W (.fld H.FRM_SEEN_FLOW)) (h13 : W (.fld H.FRM_SEEN_LANE)) (h14 : W (.fld H.FRM_SEEN_LINE)) (h15 : W (.fld H.FRM_SEEN_SC)) (h16 : W (.fld H.FRM_SETC_CLI)) (h17 : W (.fld H.FRM_SETC_FLOW)) (h18 : W (.fld H.FRM_SETC_LANE)) (h19 : W (.fld H.FRM_SETC_LINE)) (h20 : W (.fld H.FRM_SETC_SC)) (a0 : Nat) (a1 : Nat) (h : Moves W s₀ s) :
    Moves W s₀ (Sys2Proof.Machine.Frm.integrateEntity a0 a1 s) := by
  unfold Sys2Proof.Machine.Frm.integrateEntity
  repeat' (first
    | with_reducible assumption
    | with_reducible apply Moves.clr
    | with_reducible apply Moves.count
    | with_reducible apply Moves.each
    | with_reducible apply Frm_seen_in
    | with_reducible apply Frm_clear_moves
    | with_reducible apply Frm_declare_moves
    | with_reducible apply Frm_clrc_in
    | with_reducible apply Frm_setc_in
    | intro _
    | split
    | (extract_lets +onlyGivenNames x; first
      | (refine Moves.keep (W := W) (s₀ := s₀) x ?_ ?_; rotate_left; intro hx; clear_value x; rotate_right)
      | (refine Moves.keep (W := W) (s₀ := s₀) x.2 ?_ ?_; rotate_left; intro hx; clear_value x; rotate_right)
      | (refine Moves.keep (W := W) (s₀ := s₀) x.1 ?_ ?_; rotate_left; intro hx; clear_value x; rotate_right)
      | skip))

theorem Frm_cliTti_moves {W : Part → Prop} {s₀ s : State} (h0 : W (.fld H.FRM_CLI_ACC)) (h1 : W (.fld H.FRM_CLI_RUN)) (h2 : W (.fld H.FRM_CLI_RX)) (h3 : W (.fld H.FRM_CLI_TTI)) (a0 : Nat) (a1 : List Nat) (h : Moves W s₀ s) :
    Moves W s₀ (Sys2Proof.Machine.Frm.cliTti a0 a1 s) := by
  unfold Sys2Proof.Machine.Frm.cliTti
  repeat' (first
    | with_reducible assumption
    | with_reducible apply Moves.each
    | with_reducible apply Moves.put
    | with_reducible apply Moves.set
    | intro _
    | split
    | (extract_lets +onlyGivenNames x; first
      | (refine Moves.keep (W := W) (s₀ := s₀) x ?_ ?_; rotate_left; intro hx; clear_value x; rotate_right)
      | (refine Moves.keep (W := W) (s₀ := s₀) x.2 ?_ ?_; rotate_left; intro hx; clear_value x; rotate_right)
      | (refine Moves.keep (W := W) (s₀ := s₀) x.1 ?_ ?_; rotate_left; intro hx; clear_value x; rotate_right)
      | skip))

theorem Frm_otuFrames_moves {W : Part → Prop} {s₀ s : State} (h0 : W (.fld H.FRM_CLI_ACC)) (h1 : W (.fld H.FRM_CLI_RAW)) (h2 : W (.fld H.FRM_CLI_RUN)) (h3 : W (.fld H.FRM_CLI_RX)) (h4 : W (.fld H.FRM_CLI_TTI)) (h5 : W (.fld H.FRM_LIVE_CLI)) (h6 : W (.fld H.FRM_LIVE_F)) (h7 : W (.fld H.FRM_LIVE_SC)) (h8 : W (.fld H.FRM_SEC_CLI)) (h9 : W (.fld H.FRM_SEC_SC)) (h10 : W (.fld H.FRM_SEEN_CLI)) (h11 : W (.fld H.FRM_SEEN_FLOW)) (h12 : W (.fld H.FRM_SEEN_LANE)) (h13 : W (.fld H.FRM_SEEN_LINE)) (h14 : W (.fld H.FRM_SEEN_SC)) (a0 : Nat) (a1 : Sys2Proof.OtuFrames) (h : Moves W s₀ s) :
    Moves W s₀ (Sys2Proof.Machine.Frm.otuFrames a0 a1 s) := by
  unfold Sys2Proof.Machine.Frm.otuFrames
  repeat' (first
    | with_reducible assumption
    | with_reducible apply Moves.count
    | with_reducible apply Moves.foldl
    | with_reducible apply Moves.put
    | with_reducible apply Frm_cliTti_moves
    | with_reducible apply Frm_note_moves
    | intro _
    | split
    | (extract_lets +onlyGivenNames x; first
      | (refine Moves.keep (W := W) (s₀ := s₀) x ?_ ?_; rotate_left; intro hx; clear_value x; rotate_right)
      | (refine Moves.keep (W := W) (s₀ := s₀) x.2 ?_ ?_; rotate_left; intro hx; clear_value x; rotate_right)
      | (refine Moves.keep (W := W) (s₀ := s₀) x.1 ?_ ?_; rotate_left; intro hx; clear_value x; rotate_right)
      | skip))

theorem Frm_integrate_moves {W : Part → Prop} {s₀ s : State} (h0 : W (.fld F.FRM_BOUNDARY_TIES_COUNT)) (h1 : W (.fld F.FRM_DEF_CLI_DEF)) (h2 : W (.fld F.FRM_DEF_FLOW_DEF)) (h3 : W (.fld F.FRM_DEF_LANE_DEF)) (h4 : W (.fld F.FRM_DEF_LINE_DEF)) (h5 : W (.fld F.FRM_DEF_SC_DEF)) (h6 : W (.fld F.FRM_INT_CAUSE_DEF_CHG)) (h7 : W (.fld H.FRM_CLI_ACC)) (h8 : W (.fld H.FRM_CLI_RAW)) (h9 : W (.fld H.FRM_CLI_RUN)) (h10 : W (.fld H.FRM_CLI_RX)) (h11 : W (.fld H.FRM_CLI_TTI)) (h12 : W (.fld H.FRM_CLRC_CLI)) (h13 : W (.fld H.FRM_CLRC_FLOW)) (h14 : W (.fld H.FRM_CLRC_LANE)) (h15 : W (.fld H.FRM_CLRC_LINE)) (h16 : W (.fld H.FRM_CLRC_SC)) (h17 : W (.fld H.FRM_LIVE_CLI)) (h18 : W (.fld H.FRM_LIVE_F)) (h19 : W (.fld H.FRM_LIVE_SC)) (h20 : W (.fld H.FRM_SEC_CLI)) (h21 : W (.fld H.FRM_SEC_SC)) (h22 : W (.fld H.FRM_SEEN_CLI)) (h23 : W (.fld H.FRM_SEEN_FLOW)) (h24 : W (.fld H.FRM_SEEN_LANE)) (h25 : W (.fld H.FRM_SEEN_LINE)) (h26 : W (.fld H.FRM_SEEN_SC)) (h27 : W (.fld H.FRM_SETC_CLI)) (h28 : W (.fld H.FRM_SETC_FLOW)) (h29 : W (.fld H.FRM_SETC_LANE)) (h30 : W (.fld H.FRM_SETC_LINE)) (h31 : W (.fld H.FRM_SETC_SC)) (a0 : List (Nat × Sys2Proof.OtuFrames)) (a1 : Nat) (h : Moves W s₀ s) :
    Moves W s₀ (Sys2Proof.Machine.Frm.integrate a0 a1 s) := by
  unfold Sys2Proof.Machine.Frm.integrate
  repeat' (first
    | with_reducible assumption
    | with_reducible apply Moves.count
    | with_reducible apply Moves.each
    | with_reducible apply Moves.eachOf
    | with_reducible apply Frm_note_moves
    | with_reducible apply Frm_otuFrames_moves
    | with_reducible apply Frm_integrateEntity_moves
    | intro _
    | (extract_lets +onlyGivenNames x; first
      | (refine Moves.keep (W := W) (s₀ := s₀) x ?_ ?_; rotate_left; intro hx; clear_value x; rotate_right)
      | (refine Moves.keep (W := W) (s₀ := s₀) x.2 ?_ ?_; rotate_left; intro hx; clear_value x; rotate_right)
      | (refine Moves.keep (W := W) (s₀ := s₀) x.1 ?_ ?_; rotate_left; intro hx; clear_value x; rotate_right)
      | skip))

theorem Frm_declareOne_moves {W : Part → Prop} {s₀ s : State} (h0 : W (.fld F.FRM_DEF_CLI_DEF)) (h1 : W (.fld F.FRM_DEF_FLOW_DEF)) (h2 : W (.fld F.FRM_DEF_LANE_DEF)) (h3 : W (.fld F.FRM_DEF_LINE_DEF)) (h4 : W (.fld F.FRM_DEF_SC_DEF)) (h5 : W (.fld F.FRM_INT_CAUSE_DEF_CHG)) (h6 : W (.fld H.FRM_LIVE_F)) (h7 : W (.fld H.FRM_LIVE_SC)) (h8 : W (.fld H.FRM_SEC_CLI)) (h9 : W (.fld H.FRM_SEC_SC)) (h10 : W (.fld H.FRM_SEEN_CLI)) (h11 : W (.fld H.FRM_SEEN_FLOW)) (h12 : W (.fld H.FRM_SEEN_LANE)) (h13 : W (.fld H.FRM_SEEN_LINE)) (h14 : W (.fld H.FRM_SEEN_SC)) (a0 : Nat) (a1 : Nat) (a2 : Nat) (h : Moves W s₀ s) :
    Moves W s₀ (Sys2Proof.Machine.Frm.declareOne a0 a1 a2 s) := by
  unfold Sys2Proof.Machine.Frm.declareOne
  repeat' (first
    | with_reducible assumption
    | with_reducible apply Frm_note_moves
    | with_reducible apply Frm_declare_moves
    | intro _
    | split
    | (extract_lets +onlyGivenNames x; first
      | (refine Moves.keep (W := W) (s₀ := s₀) x ?_ ?_; rotate_left; intro hx; clear_value x; rotate_right)
      | (refine Moves.keep (W := W) (s₀ := s₀) x.2 ?_ ?_; rotate_left; intro hx; clear_value x; rotate_right)
      | (refine Moves.keep (W := W) (s₀ := s₀) x.1 ?_ ?_; rotate_left; intro hx; clear_value x; rotate_right)
      | skip))

theorem Frm_clearOne_moves {W : Part → Prop} {s₀ s : State} (h0 : W (.fld F.FRM_DEF_CLI_DEF)) (h1 : W (.fld F.FRM_DEF_FLOW_DEF)) (h2 : W (.fld F.FRM_DEF_LANE_DEF)) (h3 : W (.fld F.FRM_DEF_LINE_DEF)) (h4 : W (.fld F.FRM_DEF_SC_DEF)) (h5 : W (.fld F.FRM_INT_CAUSE_DEF_CHG)) (a0 : Nat) (a1 : Nat) (a2 : Nat) (h : Moves W s₀ s) :
    Moves W s₀ (Sys2Proof.Machine.Frm.clearOne a0 a1 a2 s) := by
  unfold Sys2Proof.Machine.Frm.clearOne
  repeat' (first
    | with_reducible assumption
    | with_reducible apply Frm_clear_moves
    | intro _
    | split
    | (extract_lets +onlyGivenNames x; first
      | (refine Moves.keep (W := W) (s₀ := s₀) x ?_ ?_; rotate_left; intro hx; clear_value x; rotate_right)
      | (refine Moves.keep (W := W) (s₀ := s₀) x.2 ?_ ?_; rotate_left; intro hx; clear_value x; rotate_right)
      | (refine Moves.keep (W := W) (s₀ := s₀) x.1 ?_ ?_; rotate_left; intro hx; clear_value x; rotate_right)
      | skip))

theorem Frm_clearColumn_moves {W : Part → Prop} {s₀ s : State} (a0 : Sys2Proof.Machine.Field) (a1 : Nat) (hg0 : W (.fld a0)) (h : Moves W s₀ s) :
    Moves W s₀ (Sys2Proof.Machine.Frm.clearColumn a0 a1 s) := by
  unfold Sys2Proof.Machine.Frm.clearColumn
  repeat' (first
    | with_reducible assumption
    | with_reducible apply Moves.clr
    | with_reducible apply Moves.each
    | intro _)

theorem Frm_writeDefCfg_moves {W : Part → Prop} {s₀ s : State} (h0 : W (.fld F.FRM_DEF_CFG_CLR)) (h1 : W (.fld F.FRM_DEF_CFG_SET)) (h2 : W (.fld H.FRM_CLRC_CLI)) (h3 : W (.fld H.FRM_CLRC_FLOW)) (h4 : W (.fld H.FRM_CLRC_LANE)) (h5 : W (.fld H.FRM_CLRC_LINE)) (h6 : W (.fld H.FRM_CLRC_SC)) (h7 : W (.fld H.FRM_SETC_CLI)) (h8 : W (.fld H.FRM_SETC_FLOW)) (h9 : W (.fld H.FRM_SETC_LANE)) (h10 : W (.fld H.FRM_SETC_LINE)) (h11 : W (.fld H.FRM_SETC_SC)) (a0 : Nat) (a1 : Nat) (h : Moves W s₀ s) :
    Moves W s₀ (Sys2Proof.Machine.Frm.writeDefCfg a0 a1 s) := by
  unfold Sys2Proof.Machine.Frm.writeDefCfg
  repeat' (first
    | with_reducible assumption
    | with_reducible apply Moves.each
    | with_reducible apply Moves.put
    | with_reducible apply Frm_clrc_in
    | with_reducible apply Frm_clearColumn_moves
    | with_reducible apply Frm_setc_in
    | intro _
    | (extract_lets +onlyGivenNames x; first
      | (refine Moves.keep (W := W) (s₀ := s₀) x ?_ ?_; rotate_left; intro hx; clear_value x; rotate_right)
      | (refine Moves.keep (W := W) (s₀ := s₀) x.2 ?_ ?_; rotate_left; intro hx; clear_value x; rotate_right)
      | (refine Moves.keep (W := W) (s₀ := s₀) x.1 ?_ ?_; rotate_left; intro hx; clear_value x; rotate_right)
      | skip))

theorem Frm_judgeSecond_moves {W : Part → Prop} {s₀ s : State} (h0 : W (.fld H.FRM_DEG_BAD)) (h1 : W (.fld H.FRM_DEG_GOOD)) (a0 : Nat) (a1 : Bool) (h : Moves W s₀ s) :
    Moves W s₀ (Sys2Proof.Machine.Frm.judgeSecond a0 a1 s) := by
  unfold Sys2Proof.Machine.Frm.judgeSecond
  repeat' (first
    | with_reducible assumption
    | with_reducible apply Moves.clr
    | with_reducible apply Moves.put
    | intro _
    | split)

theorem Frm_badSeconds_moves {W : Part → Prop} {s₀ s : State} (h0 : W (.arr H.FRM_SEC_CLI)) (h1 : W (.arr H.FRM_SEC_SC)) (h2 : W (.fld H.FRM_DEG_BAD)) (h3 : W (.fld H.FRM_DEG_GOOD)) (h : Moves W s₀ s) :
    Moves W s₀ (Sys2Proof.Machine.Frm.badSeconds s) := by
  unfold Sys2Proof.Machine.Frm.badSeconds
  repeat' (first
    | with_reducible assumption
    | with_reducible apply Moves.eachOf
    | with_reducible apply Moves.wipe
    | with_reducible apply Frm_judgeSecond_moves
    | intro _
    | (extract_lets +onlyGivenNames x; first
      | (refine Moves.keep (W := W) (s₀ := s₀) x ?_ ?_; rotate_left; intro hx; clear_value x; rotate_right)
      | (refine Moves.keep (W := W) (s₀ := s₀) x.2 ?_ ?_; rotate_left; intro hx; clear_value x; rotate_right)
      | (refine Moves.keep (W := W) (s₀ := s₀) x.1 ?_ ?_; rotate_left; intro hx; clear_value x; rotate_right)
      | skip))

theorem Frm_degOnset_moves {W : Part → Prop} {s₀ s : State} (h0 : W (.fld H.FRM_DEG_RAW)) (h1 : W (.fld H.FRM_LIVE_F)) (h2 : W (.fld H.FRM_LIVE_SC)) (h3 : W (.fld H.FRM_SEC_CLI)) (h4 : W (.fld H.FRM_SEC_SC)) (h5 : W (.fld H.FRM_SEEN_CLI)) (h6 : W (.fld H.FRM_SEEN_FLOW)) (h7 : W (.fld H.FRM_SEEN_LANE)) (h8 : W (.fld H.FRM_SEEN_LINE)) (h9 : W (.fld H.FRM_SEEN_SC)) (a0 : Nat) (h : Moves W s₀ s) :
    Moves W s₀ (Sys2Proof.Machine.Frm.degOnset a0 s) := by
  unfold Sys2Proof.Machine.Frm.degOnset
  repeat' (first
    | with_reducible assumption
    | with_reducible apply Moves.clr
    | with_reducible apply Moves.set
    | with_reducible apply Frm_note_moves
    | intro _
    | split)

theorem Frm_moveArray_moves {W : Part → Prop} {s₀ s : State} (a0 : Sys2Proof.Machine.Field) (a1 : Sys2Proof.Machine.Field) (a2 : Nat) (ha0 : W (.arr a0)) (hg1 : W (.fld a1)) (ha1 : W (.arr a1)) (h : Moves W s₀ s) :
    Moves W s₀ (Sys2Proof.Machine.Frm.moveArray a0 a1 a2 s) := by
  unfold Sys2Proof.Machine.Frm.moveArray
  repeat' (first
    | with_reducible assumption
    | with_reducible apply Moves.eachOf
    | with_reducible apply Moves.put
    | with_reducible apply Moves.wipe
    | intro _
    | split
    | (extract_lets +onlyGivenNames x; first
      | (refine Moves.keep (W := W) (s₀ := s₀) x ?_ ?_; rotate_left; intro hx; clear_value x; rotate_right)
      | (refine Moves.keep (W := W) (s₀ := s₀) x.2 ?_ ?_; rotate_left; intro hx; clear_value x; rotate_right)
      | (refine Moves.keep (W := W) (s₀ := s₀) x.1 ?_ ?_; rotate_left; intro hx; clear_value x; rotate_right)
      | skip))

theorem Frm_latch_moves {W : Part → Prop} {s₀ s : State} (h0 : W (.arr F.FRM_CLI_PM_COUNT)) (h1 : W (.arr F.FRM_FPM_COUNT)) (h2 : W (.arr F.FRM_SC_PM_COUNT)) (h3 : W (.arr H.FRM_LIVE_CLI)) (h4 : W (.arr H.FRM_LIVE_F)) (h5 : W (.arr H.FRM_LIVE_SC)) (h6 : W (.arr H.FRM_SEC_CLI)) (h7 : W (.arr H.FRM_SEC_SC)) (h8 : W (.fld F.FRM_BOUNDARY_TIES_COUNT)) (h9 : W (.fld F.FRM_CLI_PM_COUNT)) (h10 : W (.fld F.FRM_FPM_COUNT)) (h11 : W (.fld F.FRM_INT_CAUSE_PM_LATCH)) (h12 : W (.fld F.FRM_PM_STAT_SEQ)) (h13 : W (.fld F.FRM_SC_PM_COUNT)) (h14 : W (.fld H.FRM_DEG_BAD)) (h15 : W (.fld H.FRM_DEG_GOOD)) (h16 : W (.fld H.FRM_LIVE_F)) (h17 : W (.fld H.FRM_LIVE_SC)) (h18 : W (.fld H.FRM_SEC_CLI)) (h19 : W (.fld H.FRM_SEC_SC)) (h20 : W (.fld H.FRM_SEEN_CLI)) (h21 : W (.fld H.FRM_SEEN_FLOW)) (h22 : W (.fld H.FRM_SEEN_LANE)) (h23 : W (.fld H.FRM_SEEN_LINE)) (h24 : W (.fld H.FRM_SEEN_SC)) (a0 : Nat) (h : Moves W s₀ s) :
    Moves W s₀ (Sys2Proof.Machine.Frm.latch a0 s) := by
  unfold Sys2Proof.Machine.Frm.latch
  repeat' (first
    | with_reducible assumption
    | with_reducible apply Moves.count
    | with_reducible apply Moves.countWrap
    | with_reducible apply Moves.set
    | with_reducible apply Frm_moveArray_moves
    | with_reducible apply Frm_note_moves
    | with_reducible apply Frm_badSeconds_moves
    | intro _
    | (extract_lets +onlyGivenNames x; first
      | (refine Moves.keep (W := W) (s₀ := s₀) x ?_ ?_; rotate_left; intro hx; clear_value x; rotate_right)
      | (refine Moves.keep (W := W) (s₀ := s₀) x.2 ?_ ?_; rotate_left; intro hx; clear_value x; rotate_right)
      | (refine Moves.keep (W := W) (s₀ := s₀) x.1 ?_ ?_; rotate_left; intro hx; clear_value x; rotate_right)
      | skip))

end Sys2Proof.Laws
end

