-- ==== Sys2Proof/Laws/MovesFrmRx.lean ====
section
/-! SUPPORT. Sys2Proof/Laws/MovesFrmRx.lean: what each operation of Machine/FrmRx.lean may write (Laws/Moves.lean). -/
namespace Sys2Proof.Laws
open Sys2Proof Sys2Proof.Machine

theorem Frm_showCands_moves {W : Part → Prop} {s₀ s : State} (h0 : W (.fld F.FRM_ALIGN_STAT_CAND)) (h : Moves W s₀ s) :
    Moves W s₀ (Sys2Proof.Machine.Frm.showCands s) := by
  unfold Sys2Proof.Machine.Frm.showCands
  repeat' (first
    | with_reducible assumption
    | with_reducible apply Moves.put
    | intro _)

theorem Frm_setCands_moves {W : Part → Prop} {s₀ s : State} (h0 : W .frm) (h1 : W (.fld F.FRM_ALIGN_STAT_CAND)) (a0 : List Sys2Proof.Machine.Cand) (a1 : List Sys2Proof.Machine.Cand) (h : Moves W s₀ s) :
    Moves W s₀ (Sys2Proof.Machine.Frm.setCands a0 a1 s) := by
  unfold Sys2Proof.Machine.Frm.setCands
  repeat' (first
    | with_reducible assumption
    | with_reducible apply Frm_showCands_moves
    | intro _
    | (extract_lets +onlyGivenNames x; first
      | (refine Moves.keep (W := W) (s₀ := s₀) x ?_ ?_; rotate_left; intro hx; clear_value x; rotate_right)
      | (refine Moves.keep (W := W) (s₀ := s₀) x.2 ?_ ?_; rotate_left; intro hx; clear_value x; rotate_right)
      | (refine Moves.keep (W := W) (s₀ := s₀) x.1 ?_ ?_; rotate_left; intro hx; clear_value x; rotate_right)
      | skip)
    | (with_reducible refine Moves.frm _ ?_ ?_ <;> with_reducible first
      | assumption
      | apply Frm_showCands_moves))

theorem Frm_search_moves {W : Part → Prop} {s₀ s : State} (h0 : W .frm) (h1 : W (.arr H.FRM_BIP_AT)) (h2 : W (.fld F.FRM_ALIGN_STAT_CAND)) (h3 : W (.fld F.FRM_ALIGN_STAT_IN_MF)) (h4 : W (.fld F.FRM_ALIGN_STAT_MFN_VALID)) (h5 : W (.fld F.FRM_ALIGN_STAT_STATE)) (h6 : W (.fld F.FRM_SSM_RX_VALID)) (h7 : W (.fld H.FRM_AMBIG)) (h8 : W (.fld H.FRM_FAW_MISS)) (h9 : W (.fld H.FRM_FN_MISS)) (h10 : W (.fld H.FRM_FN_RUN)) (h11 : W (.fld H.FRM_SSM_RUN)) (h12 : W (.fld H.FRM_TTI_GOT)) (h13 : W (.fld H.FRM_TTI_RUN)) (h : Moves W s₀ s) :
    Moves W s₀ (Sys2Proof.Machine.Frm.search s) := by
  unfold Sys2Proof.Machine.Frm.search
  repeat' (first
    | with_reducible assumption
    | with_reducible apply Moves.clr
    | with_reducible apply Moves.put
    | with_reducible apply Moves.wipe
    | with_reducible apply Frm_setCands_moves
    | intro _
    | (extract_lets +onlyGivenNames x; first
      | (refine Moves.keep (W := W) (s₀ := s₀) x ?_ ?_; rotate_left; intro hx; clear_value x; rotate_right)
      | (refine Moves.keep (W := W) (s₀ := s₀) x.2 ?_ ?_; rotate_left; intro hx; clear_value x; rotate_right)
      | (refine Moves.keep (W := W) (s₀ := s₀) x.1 ?_ ?_; rotate_left; intro hx; clear_value x; rotate_right)
      | skip))

theorem Frm_rxEnable_moves {W : Part → Prop} {s₀ s : State} (h0 : W .frm) (h1 : W (.arr H.FRM_BIP_AT)) (h2 : W (.fld F.FRM_ALIGN_STAT_CAND)) (h3 : W (.fld F.FRM_ALIGN_STAT_IN_MF)) (h4 : W (.fld F.FRM_ALIGN_STAT_MFN_VALID)) (h5 : W (.fld F.FRM_ALIGN_STAT_STATE)) (h6 : W (.fld F.FRM_CTRL_RX_EN)) (h7 : W (.fld F.FRM_INT_CAUSE_CFG_ERR)) (h8 : W (.fld F.FRM_SSM_RX_VALID)) (h9 : W (.fld H.FRM_AMBIG)) (h10 : W (.fld H.FRM_FAW_MISS)) (h11 : W (.fld H.FRM_FN_MISS)) (h12 : W (.fld H.FRM_FN_RUN)) (h13 : W (.fld H.FRM_LIVE_F)) (h14 : W (.fld H.FRM_LIVE_SC)) (h15 : W (.fld H.FRM_SEC_CLI)) (h16 : W (.fld H.FRM_SEC_SC)) (h17 : W (.fld H.FRM_SEEN_CLI)) (h18 : W (.fld H.FRM_SEEN_FLOW)) (h19 : W (.fld H.FRM_SEEN_LANE)) (h20 : W (.fld H.FRM_SEEN_LINE)) (h21 : W (.fld H.FRM_SEEN_SC)) (h22 : W (.fld H.FRM_SSM_RUN)) (h23 : W (.fld H.FRM_TTI_GOT)) (h24 : W (.fld H.FRM_TTI_RUN)) (h : Moves W s₀ s) :
    Moves W s₀ (Sys2Proof.Machine.Frm.rxEnable s) := by
  unfold Sys2Proof.Machine.Frm.rxEnable
  repeat' (first
    | with_reducible assumption
    | with_reducible apply Moves.set
    | with_reducible apply Frm_note_moves
    | with_reducible apply Frm_search_moves
    | intro _
    | split)

theorem Frm_rxDisable_moves {W : Part → Prop} {s₀ s : State} (h0 : W .frm) (h1 : W (.arr H.FRM_BIP_AT)) (h2 : W (.fld F.FRM_ALIGN_STAT_CAND)) (h3 : W (.fld F.FRM_ALIGN_STAT_IN_MF)) (h4 : W (.fld F.FRM_ALIGN_STAT_MFN_VALID)) (h5 : W (.fld F.FRM_ALIGN_STAT_STATE)) (h6 : W (.fld F.FRM_CTRL_RX_EN)) (h7 : W (.fld F.FRM_SSM_RX_VALID)) (h8 : W (.fld H.FRM_AMBIG)) (h9 : W (.fld H.FRM_FAW_MISS)) (h10 : W (.fld H.FRM_FN_MISS)) (h11 : W (.fld H.FRM_FN_RUN)) (h12 : W (.fld H.FRM_SSM_RUN)) (h13 : W (.fld H.FRM_TTI_GOT)) (h14 : W (.fld H.FRM_TTI_RUN)) (h : Moves W s₀ s) :
    Moves W s₀ (Sys2Proof.Machine.Frm.rxDisable s) := by
  unfold Sys2Proof.Machine.Frm.rxDisable
  repeat' (first
    | with_reducible assumption
    | with_reducible apply Moves.clr
    | with_reducible apply Moves.put
    | with_reducible apply Frm_search_moves
    | intro _
    | split)

theorem Frm_countFlow_moves {W : Part → Prop} {s₀ s : State} (h0 : W (.fld H.FRM_LIVE_F)) (a0 : Nat) (a1 : Nat) (a2 : Nat) (h : Moves W s₀ s) :
    Moves W s₀ (Sys2Proof.Machine.Frm.countFlow a0 a1 a2 s) := by
  unfold Sys2Proof.Machine.Frm.countFlow
  repeat' (first
    | with_reducible assumption
    | with_reducible apply Moves.count
    | intro _)

theorem Frm_mapFrames_moves {W : Part → Prop} {s₀ s : State} (h0 : W .frm) (a0 : Sys2Proof.Machine.Cf → Sys2Proof.Machine.Cf) (h : Moves W s₀ s) :
    Moves W s₀ (Sys2Proof.Machine.Frm.mapFrames a0 s) := by
  unfold Sys2Proof.Machine.Frm.mapFrames
  repeat' (first
    | with_reducible assumption
    | intro _
    | (extract_lets +onlyGivenNames x; first
      | (refine Moves.keep (W := W) (s₀ := s₀) x ?_ ?_; rotate_left; intro hx; clear_value x; rotate_right)
      | (refine Moves.keep (W := W) (s₀ := s₀) x.2 ?_ ?_; rotate_left; intro hx; clear_value x; rotate_right)
      | (refine Moves.keep (W := W) (s₀ := s₀) x.1 ?_ ?_; rotate_left; intro hx; clear_value x; rotate_right)
      | skip)
    | (with_reducible refine Moves.frm _ ?_ ?_ <;> with_reducible first
      | assumption))

theorem Frm_cleared_moves {W : Part → Prop} {s₀ s : State} (h0 : W .frm) (a0 : Nat) (h : Moves W s₀ s) :
    Moves W s₀ (Sys2Proof.Machine.Frm.cleared a0 s) := by
  unfold Sys2Proof.Machine.Frm.cleared
  repeat' (first
    | with_reducible assumption
    | with_reducible apply Frm_mapFrames_moves
    | intro _
    | split)

theorem Frm_invalidate_moves {W : Part → Prop} {s₀ s : State} (h0 : W .frm) (h1 : W (.fld H.FRM_LIVE_F)) (a0 : Nat) (h : Moves W s₀ s) :
    Moves W s₀ (Sys2Proof.Machine.Frm.invalidate a0 s) := by
  unfold Sys2Proof.Machine.Frm.invalidate
  repeat' (first
    | with_reducible assumption
    | with_reducible apply Moves.eachOf
    | with_reducible apply Frm_mapFrames_moves
    | with_reducible apply Frm_countFlow_moves
    | intro _
    | split)

theorem Frm_outOfFrame_moves {W : Part → Prop} {s₀ s : State} (h0 : W .frm) (h1 : W (.arr H.FRM_BIP_AT)) (h2 : W (.fld F.FRM_ALIGN_STAT_CAND)) (h3 : W (.fld F.FRM_ALIGN_STAT_IN_MF)) (h4 : W (.fld F.FRM_ALIGN_STAT_MFN_VALID)) (h5 : W (.fld F.FRM_ALIGN_STAT_STATE)) (h6 : W (.fld F.FRM_INT_CAUSE_OOF)) (h7 : W (.fld F.FRM_SSM_RX_VALID)) (h8 : W (.fld H.FRM_AMBIG)) (h9 : W (.fld H.FRM_FAW_MISS)) (h10 : W (.fld H.FRM_FN_MISS)) (h11 : W (.fld H.FRM_FN_RUN)) (h12 : W (.fld H.FRM_LIVE_F)) (h13 : W (.fld H.FRM_LIVE_SC)) (h14 : W (.fld H.FRM_SEC_CLI)) (h15 : W (.fld H.FRM_SEC_SC)) (h16 : W (.fld H.FRM_SEEN_CLI)) (h17 : W (.fld H.FRM_SEEN_FLOW)) (h18 : W (.fld H.FRM_SEEN_LANE)) (h19 : W (.fld H.FRM_SEEN_LINE)) (h20 : W (.fld H.FRM_SEEN_SC)) (h21 : W (.fld H.FRM_SSM_RUN)) (h22 : W (.fld H.FRM_TTI_GOT)) (h23 : W (.fld H.FRM_TTI_RUN)) (h : Moves W s₀ s) :
    Moves W s₀ (Sys2Proof.Machine.Frm.outOfFrame s) := by
  unfold Sys2Proof.Machine.Frm.outOfFrame
  repeat' (first
    | with_reducible assumption
    | with_reducible apply Moves.set
    | with_reducible apply Frm_note_moves
    | with_reducible apply Frm_search_moves
    | with_reducible apply Frm_invalidate_moves
    | intro _)

theorem Frm_research_moves {W : Part → Prop} {s₀ s : State} (h0 : W .frm) (h1 : W (.arr H.FRM_BIP_AT)) (h2 : W (.fld F.FRM_ALIGN_STAT_CAND)) (h3 : W (.fld F.FRM_ALIGN_STAT_IN_MF)) (h4 : W (.fld F.FRM_ALIGN_STAT_MFN_VALID)) (h5 : W (.fld F.FRM_ALIGN_STAT_STATE)) (h6 : W (.fld F.FRM_INT_CAUSE_OOF)) (h7 : W (.fld F.FRM_SSM_RX_VALID)) (h8 : W (.fld H.FRM_AMBIG)) (h9 : W (.fld H.FRM_FAW_MISS)) (h10 : W (.fld H.FRM_FN_MISS)) (h11 : W (.fld H.FRM_FN_RUN)) (h12 : W (.fld H.FRM_LIVE_F)) (h13 : W (.fld H.FRM_LIVE_SC)) (h14 : W (.fld H.FRM_SEC_CLI)) (h15 : W (.fld H.FRM_SEC_SC)) (h16 : W (.fld H.FRM_SEEN_CLI)) (h17 : W (.fld H.FRM_SEEN_FLOW)) (h18 : W (.fld H.FRM_SEEN_LANE)) (h19 : W (.fld H.FRM_SEEN_LINE)) (h20 : W (.fld H.FRM_SEEN_SC)) (h21 : W (.fld H.FRM_SSM_RUN)) (h22 : W (.fld H.FRM_TTI_GOT)) (h23 : W (.fld H.FRM_TTI_RUN)) (h : Moves W s₀ s) :
    Moves W s₀ (Sys2Proof.Machine.Frm.research s) := by
  unfold Sys2Proof.Machine.Frm.research
  repeat' (first
    | with_reducible assumption
    | with_reducible apply Frm_outOfFrame_moves
    | intro _
    | split)

theorem Frm_fawHit_moves {W : Part → Prop} {s₀ s : State} (h0 : W .frm) (h1 : W (.fld F.FRM_ALIGN_STAT_CAND)) (h2 : W (.fld F.FRM_CAND_OVF_COUNT)) (h3 : W (.fld F.FRM_INT_CAUSE_CAND_OVF)) (a0 : Nat) (a1 : Nat) (a2 : Nat) (h : Moves W s₀ s) :
    Moves W s₀ (Sys2Proof.Machine.Frm.fawHit a0 a1 a2 s) := by
  unfold Sys2Proof.Machine.Frm.fawHit
  repeat' (first
    | with_reducible assumption
    | with_reducible apply Moves.count
    | with_reducible apply Moves.set
    | with_reducible apply Frm_setCands_moves
    | intro _
    | split
    | (extract_lets +onlyGivenNames x; first
      | (refine Moves.keep (W := W) (s₀ := s₀) x ?_ ?_; rotate_left; intro hx; clear_value x; rotate_right)
      | (refine Moves.keep (W := W) (s₀ := s₀) x.2 ?_ ?_; rotate_left; intro hx; clear_value x; rotate_right)
      | (refine Moves.keep (W := W) (s₀ := s₀) x.1 ?_ ?_; rotate_left; intro hx; clear_value x; rotate_right)
      | skip))

theorem Frm_inFrameAt_moves {W : Part → Prop} {s₀ s : State} (h0 : W .frm) (h1 : W (.fld F.FRM_ALIGN_STAT_CAND)) (h2 : W (.fld F.FRM_ALIGN_STAT_IN_MF)) (h3 : W (.fld F.FRM_ALIGN_STAT_ROT_X)) (h4 : W (.fld F.FRM_ALIGN_STAT_STATE)) (h5 : W (.fld F.FRM_INT_CAUSE_IN_FRAME)) (h6 : W (.fld F.FRM_SSM_RX_VALID)) (h7 : W (.fld H.FRM_FN_LAST)) (h8 : W (.fld H.FRM_FN_RUN)) (h9 : W (.fld H.FRM_LIVE_F)) (h10 : W (.fld H.FRM_LIVE_SC)) (h11 : W (.fld H.FRM_RX_FN)) (h12 : W (.fld H.FRM_SEC_CLI)) (h13 : W (.fld H.FRM_SEC_SC)) (h14 : W (.fld H.FRM_SEEN_CLI)) (h15 : W (.fld H.FRM_SEEN_FLOW)) (h16 : W (.fld H.FRM_SEEN_LANE)) (h17 : W (.fld H.FRM_SEEN_LINE)) (h18 : W (.fld H.FRM_SEEN_SC)) (a0 : Sys2Proof.Machine.Cand) (a1 : List Sys2Proof.Machine.Cand) (h : Moves W s₀ s) :
    Moves W s₀ (Sys2Proof.Machine.Frm.inFrameAt a0 a1 s) := by
  unfold Sys2Proof.Machine.Frm.inFrameAt
  repeat' (first
    | with_reducible assumption
    | with_reducible apply Moves.put
    | with_reducible apply Moves.set
    | with_reducible apply Frm_setCands_moves
    | with_reducible apply Frm_note_moves
    | intro _
    | (extract_lets +onlyGivenNames x; first
      | (refine Moves.keep (W := W) (s₀ := s₀) x ?_ ?_; rotate_left; intro hx; clear_value x; rotate_right)
      | (refine Moves.keep (W := W) (s₀ := s₀) x.2 ?_ ?_; rotate_left; intro hx; clear_value x; rotate_right)
      | (refine Moves.keep (W := W) (s₀ := s₀) x.1 ?_ ?_; rotate_left; intro hx; clear_value x; rotate_right)
      | skip)
    | (with_reducible refine Moves.frm _ ?_ ?_ <;> with_reducible first
      | assumption
      | apply Moves.put
      | apply Moves.set
      | apply Frm_setCands_moves
      | apply Frm_note_moves))

theorem Frm_candidateJudge_moves {W : Part → Prop} {s₀ s : State} (h0 : W .frm) (h1 : W (.fld F.FRM_ALIGN_STAT_CAND)) (h2 : W (.fld F.FRM_ALIGN_STAT_IN_MF)) (h3 : W (.fld F.FRM_ALIGN_STAT_ROT_X)) (h4 : W (.fld F.FRM_ALIGN_STAT_STATE)) (h5 : W (.fld F.FRM_INT_CAUSE_IN_FRAME)) (h6 : W (.fld F.FRM_PATTERN_AMBIG_COUNT)) (h7 : W (.fld F.FRM_SSM_RX_VALID)) (h8 : W (.fld H.FRM_AMBIG)) (h9 : W (.fld H.FRM_FN_LAST)) (h10 : W (.fld H.FRM_FN_RUN)) (h11 : W (.fld H.FRM_LIVE_F)) (h12 : W (.fld H.FRM_LIVE_SC)) (h13 : W (.fld H.FRM_RX_FN)) (h14 : W (.fld H.FRM_SEC_CLI)) (h15 : W (.fld H.FRM_SEC_SC)) (h16 : W (.fld H.FRM_SEEN_CLI)) (h17 : W (.fld H.FRM_SEEN_FLOW)) (h18 : W (.fld H.FRM_SEEN_LANE)) (h19 : W (.fld H.FRM_SEEN_LINE)) (h20 : W (.fld H.FRM_SEEN_SC)) (a0 : Nat) (a1 : Nat) (a2 : Nat) (a3 : Nat) (h : Moves W s₀ s) :
    Moves W s₀ (Sys2Proof.Machine.Frm.candidateJudge a0 a1 a2 a3 s) := by
  unfold Sys2Proof.Machine.Frm.candidateJudge
  repeat' (first
    | with_reducible assumption
    | with_reducible apply Moves.count
    | with_reducible apply Moves.set
    | with_reducible apply Frm_setCands_moves
    | with_reducible apply Frm_inFrameAt_moves
    | intro _
    | split
    | (extract_lets +onlyGivenNames x; first
      | (refine Moves.keep (W := W) (s₀ := s₀) x ?_ ?_; rotate_left; intro hx; clear_value x; rotate_right)
      | (refine Moves.keep (W := W) (s₀ := s₀) x.2 ?_ ?_; rotate_left; intro hx; clear_value x; rotate_right)
      | (refine Moves.keep (W := W) (s₀ := s₀) x.1 ?_ ?_; rotate_left; intro hx; clear_value x; rotate_right)
      | skip))

theorem Frm_fawCheck_moves {W : Part → Prop} {s₀ s : State} (h0 : W .frm) (h1 : W (.fld F.FRM_ALIGN_STAT_ROT_Y)) (h2 : W (.fld H.FRM_FAW_MISS)) (h3 : W (.fld H.FRM_LIVE_SC)) (h4 : W (.fld H.FRM_RX_FN)) (h5 : W (.fld H.FRM_RX_MFN)) (a0 : Nat) (a1 : Nat) (a2 : Nat) (h : Moves W s₀ s) :
    Moves W s₀ (Sys2Proof.Machine.Frm.fawCheck a0 a1 a2 s) := by
  unfold Sys2Proof.Machine.Frm.fawCheck
  repeat' (first
    | with_reducible assumption
    | with_reducible apply Moves.clr
    | with_reducible apply Moves.count
    | with_reducible apply Moves.put
    | with_reducible apply Frm_cleared_moves
    | intro _
    | split
    | (extract_lets +onlyGivenNames x; first
      | (refine Moves.keep (W := W) (s₀ := s₀) x ?_ ?_; rotate_left; intro hx; clear_value x; rotate_right)
      | (refine Moves.keep (W := W) (s₀ := s₀) x.2 ?_ ?_; rotate_left; intro hx; clear_value x; rotate_right)
      | (refine Moves.keep (W := W) (s₀ := s₀) x.1 ?_ ?_; rotate_left; intro hx; clear_value x; rotate_right)
      | skip))

theorem Frm_oof_moves {W : Part → Prop} {s₀ s : State} (h0 : W .frm) (h1 : W (.arr H.FRM_BIP_AT)) (h2 : W (.fld F.FRM_ALIGN_STAT_CAND)) (h3 : W (.fld F.FRM_ALIGN_STAT_IN_MF)) (h4 : W (.fld F.FRM_ALIGN_STAT_MFN_VALID)) (h5 : W (.fld F.FRM_ALIGN_STAT_STATE)) (h6 : W (.fld F.FRM_INT_CAUSE_OOF)) (h7 : W (.fld F.FRM_SSM_RX_VALID)) (h8 : W (.fld H.FRM_AMBIG)) (h9 : W (.fld H.FRM_FAW_MISS)) (h10 : W (.fld H.FRM_FN_MISS)) (h11 : W (.fld H.FRM_FN_RUN)) (h12 : W (.fld H.FRM_LIVE_F)) (h13 : W (.fld H.FRM_LIVE_SC)) (h14 : W (.fld H.FRM_SEC_CLI)) (h15 : W (.fld H.FRM_SEC_SC)) (h16 : W (.fld H.FRM_SEEN_CLI)) (h17 : W (.fld H.FRM_SEEN_FLOW)) (h18 : W (.fld H.FRM_SEEN_LANE)) (h19 : W (.fld H.FRM_SEEN_LINE)) (h20 : W (.fld H.FRM_SEEN_SC)) (h21 : W (.fld H.FRM_SSM_RUN)) (h22 : W (.fld H.FRM_TTI_GOT)) (h23 : W (.fld H.FRM_TTI_RUN)) (h : Moves W s₀ s) :
    Moves W s₀ (Sys2Proof.Machine.Frm.oof s) := by
  unfold Sys2Proof.Machine.Frm.oof
  repeat' (first
    | with_reducible assumption
    | with_reducible apply Frm_outOfFrame_moves
    | intro _
    | split)

theorem Frm_bipCheck_moves {W : Part → Prop} {s₀ s : State} (h0 : W (.fld H.FRM_LIVE_SC)) (a0 : Nat) (a1 : Nat) (a2 : Nat) (a3 : List Bool) (a4 : Nat) (h : Moves W s₀ s) :
    Moves W s₀ (Sys2Proof.Machine.Frm.bipCheck a0 a1 a2 a3 a4 s) := by
  unfold Sys2Proof.Machine.Frm.bipCheck
  repeat' (first
    | with_reducible assumption
    | with_reducible apply Moves.count
    | intro _
    | split
    | (extract_lets +onlyGivenNames x; first
      | (refine Moves.keep (W := W) (s₀ := s₀) x ?_ ?_; rotate_left; intro hx; clear_value x; rotate_right)
      | (refine Moves.keep (W := W) (s₀ := s₀) x.2 ?_ ?_; rotate_left; intro hx; clear_value x; rotate_right)
      | (refine Moves.keep (W := W) (s₀ := s₀) x.1 ?_ ?_; rotate_left; intro hx; clear_value x; rotate_right)
      | skip))

theorem Frm_stampFrame_moves {W : Part → Prop} {s₀ s : State} (h0 : W (.fld H.FRM_BIP_AT)) (a0 : Nat) (a1 : Nat) (a2 : Nat) (h : Moves W s₀ s) :
    Moves W s₀ (Sys2Proof.Machine.Frm.stampFrame a0 a1 a2 s) := by
  unfold Sys2Proof.Machine.Frm.stampFrame
  repeat' (first
    | with_reducible assumption
    | with_reducible apply Moves.put
    | intro _)

theorem Frm_countWord_moves {W : Part → Prop} {s₀ s : State} (h0 : W (.fld F.FRM_ALIGN_STAT_MFN_VALID)) (h1 : W (.fld H.FRM_FN_LAST)) (h2 : W (.fld H.FRM_FN_MISS)) (h3 : W (.fld H.FRM_FN_RUN)) (h4 : W (.fld H.FRM_RX_MFN)) (a0 : Nat) (h : Moves W s₀ s) :
    Moves W s₀ (Sys2Proof.Machine.Frm.countWord a0 s) := by
  unfold Sys2Proof.Machine.Frm.countWord
  repeat' (first
    | with_reducible assumption
    | with_reducible apply Moves.clr
    | with_reducible apply Moves.put
    | with_reducible apply Moves.set
    | intro _
    | split
    | (extract_lets +onlyGivenNames x; first
      | (refine Moves.keep (W := W) (s₀ := s₀) x ?_ ?_; rotate_left; intro hx; clear_value x; rotate_right)
      | (refine Moves.keep (W := W) (s₀ := s₀) x.2 ?_ ?_; rotate_left; intro hx; clear_value x; rotate_right)
      | (refine Moves.keep (W := W) (s₀ := s₀) x.1 ?_ ?_; rotate_left; intro hx; clear_value x; rotate_right)
      | skip))

theorem Frm_traceByte_moves {W : Part → Prop} {s₀ s : State} (h0 : W (.fld H.FRM_TTI_BUF)) (h1 : W (.fld H.FRM_TTI_GOT)) (h2 : W (.fld H.FRM_TTI_LAST)) (h3 : W (.fld H.FRM_TTI_RUN)) (a0 : Nat) (h : Moves W s₀ s) :
    Moves W s₀ (Sys2Proof.Machine.Frm.traceByte a0 s) := by
  unfold Sys2Proof.Machine.Frm.traceByte
  repeat' (first
    | with_reducible assumption
    | with_reducible apply Moves.clr
    | with_reducible apply Moves.each
    | with_reducible apply Moves.put
    | with_reducible apply Moves.setBit
    | intro _
    | split
    | (extract_lets +onlyGivenNames x; first
      | (refine Moves.keep (W := W) (s₀ := s₀) x ?_ ?_; rotate_left; intro hx; clear_value x; rotate_right)
      | (refine Moves.keep (W := W) (s₀ := s₀) x.2 ?_ ?_; rotate_left; intro hx; clear_value x; rotate_right)
      | (refine Moves.keep (W := W) (s₀ := s₀) x.1 ?_ ?_; rotate_left; intro hx; clear_value x; rotate_right)
      | skip))

theorem Frm_ssmWord_moves {W : Part → Prop} {s₀ s : State} (h0 : W (.fld H.FRM_SSM_LAST)) (h1 : W (.fld H.FRM_SSM_RUN)) (a0 : Nat) (h : Moves W s₀ s) :
    Moves W s₀ (Sys2Proof.Machine.Frm.ssmWord a0 s) := by
  unfold Sys2Proof.Machine.Frm.ssmWord
  repeat' (first
    | with_reducible assumption
    | with_reducible apply Moves.put
    | intro _
    | split
    | (extract_lets +onlyGivenNames x; first
      | (refine Moves.keep (W := W) (s₀ := s₀) x ?_ ?_; rotate_left; intro hx; clear_value x; rotate_right)
      | (refine Moves.keep (W := W) (s₀ := s₀) x.2 ?_ ?_; rotate_left; intro hx; clear_value x; rotate_right)
      | (refine Moves.keep (W := W) (s₀ := s₀) x.1 ?_ ?_; rotate_left; intro hx; clear_value x; rotate_right)
      | skip))

theorem Frm_loadWord_moves {W : Part → Prop} {s₀ s : State} (h0 : W .vlk) (h1 : W (.fld F.LRX_STAT_ANNOUNCED)) (h2 : W (.fld F.LTX_STAT_ANNOUNCED)) (h3 : W (.fld F.SCM_INT_CAUSE_LATE_SWAP)) (h4 : W (.fld H.LRX_SWAP_DUE)) (h5 : W (.fld H.LRX_SWAP_MF)) (h6 : W (.fld H.LTX_SWAP_DUE)) (h7 : W (.fld H.LTX_SWAP_MF)) (h8 : W (.fld H.VLK_RX_ACT)) (h9 : W (.fld H.VLK_SEND_MISMATCH)) (h10 : W (.fld H.VLK_SEQ)) (a0 : Nat) (a1 : Nat) (a2 : Nat) (h : Moves W s₀ s) :
    Moves W s₀ (Sys2Proof.Machine.Frm.loadWord a0 a1 a2 s) := by
  unfold Sys2Proof.Machine.Frm.loadWord
  repeat' (first
    | with_reducible assumption
    | with_reducible apply Moves.clr
    | with_reducible apply Moves.put
    | with_reducible apply Moves.set
    | with_reducible apply Scm_announceBank_moves
    | with_reducible apply Vlk_toHub_moves
    | intro _
    | split
    | (extract_lets +onlyGivenNames x; first
      | (refine Moves.keep (W := W) (s₀ := s₀) x ?_ ?_; rotate_left; intro hx; clear_value x; rotate_right)
      | (refine Moves.keep (W := W) (s₀ := s₀) x.2 ?_ ?_; rotate_left; intro hx; clear_value x; rotate_right)
      | (refine Moves.keep (W := W) (s₀ := s₀) x.1 ?_ ?_; rotate_left; intro hx; clear_value x; rotate_right)
      | skip))

theorem Frm_searchedWord_moves {W : Part → Prop} {s₀ s : State} (h0 : W .vlk) (h1 : W (.fld F.FRM_ALIGN_STAT_MFN_VALID)) (h2 : W (.fld F.LRX_STAT_ANNOUNCED)) (h3 : W (.fld F.LTX_STAT_ANNOUNCED)) (h4 : W (.fld F.SCM_INT_CAUSE_LATE_SWAP)) (h5 : W (.fld H.FEC_RX_ON)) (h6 : W (.fld H.FEC_RX_POS)) (h7 : W (.fld H.FEC_RX_WAIT)) (h8 : W (.fld H.FEC_SL_ON)) (h9 : W (.fld H.FEC_SL_POS)) (h10 : W (.fld H.FEC_SL_WAIT)) (h11 : W (.fld H.FRM_BDI_LINE)) (h12 : W (.fld H.FRM_BDI_SC)) (h13 : W (.fld H.FRM_FN_LAST)) (h14 : W (.fld H.FRM_FN_MISS)) (h15 : W (.fld H.FRM_FN_RUN)) (h16 : W (.fld H.FRM_RX_MFN)) (h17 : W (.fld H.FRM_SSM_LAST)) (h18 : W (.fld H.FRM_SSM_RUN)) (h19 : W (.fld H.FRM_TTI_BUF)) (h20 : W (.fld H.FRM_TTI_GOT)) (h21 : W (.fld H.FRM_TTI_LAST)) (h22 : W (.fld H.FRM_TTI_RUN)) (h23 : W (.fld H.LRX_SWAP_DUE)) (h24 : W (.fld H.LRX_SWAP_MF)) (h25 : W (.fld H.LTX_SWAP_DUE)) (h26 : W (.fld H.LTX_SWAP_MF)) (h27 : W (.fld H.VLK_RX_ACT)) (h28 : W (.fld H.VLK_SEND_MISMATCH)) (h29 : W (.fld H.VLK_SEQ)) (a0 : Nat) (a1 : Nat) (a2 : Nat) (h : Moves W s₀ s) :
    Moves W s₀ (Sys2Proof.Machine.Frm.searchedWord a0 a1 a2 s) := by
  unfold Sys2Proof.Machine.Frm.searchedWord
  repeat' (first
    | with_reducible assumption
    | with_reducible apply Moves.put
    | with_reducible apply Fec_readPhase_moves
    | with_reducible apply Frm_ssmWord_moves
    | with_reducible apply Frm_traceByte_moves
    | with_reducible apply Frm_countWord_moves
    | with_reducible apply Frm_loadWord_moves
    | intro _
    | split
    | (extract_lets +onlyGivenNames x; first
      | (refine Moves.keep (W := W) (s₀ := s₀) x ?_ ?_; rotate_left; intro hx; clear_value x; rotate_right)
      | (refine Moves.keep (W := W) (s₀ := s₀) x.2 ?_ ?_; rotate_left; intro hx; clear_value x; rotate_right)
      | (refine Moves.keep (W := W) (s₀ := s₀) x.1 ?_ ?_; rotate_left; intro hx; clear_value x; rotate_right)
      | skip))

theorem Frm_missRun_moves {W : Part → Prop} {s₀ s : State} (a0 : Sys2Proof.Machine.Field) (a1 : Bool) (a2 : Nat) (a3 : Nat) (hg0 : W (.fld a0)) (h : Moves W s₀ s) :
    Moves W s₀ (Sys2Proof.Machine.Frm.missRun a0 a1 a2 a3 s) := by
  unfold Sys2Proof.Machine.Frm.missRun
  repeat' (first
    | with_reducible assumption
    | with_reducible apply Moves.clr
    | with_reducible apply Moves.put
    | intro _
    | split)

theorem Frm_upstreamWord_moves {W : Part → Prop} {s₀ s : State} (h0 : W (.fld F.SCM_CHG_STAT_MIS_LEAF)) (h1 : W (.fld F.SCM_INT_CAUSE_VER_MISMATCH)) (h2 : W (.fld H.FEC_RX_ON)) (h3 : W (.fld H.FEC_RX_POS)) (h4 : W (.fld H.FEC_RX_WAIT)) (h5 : W (.fld H.FEC_SL_ON)) (h6 : W (.fld H.FEC_SL_POS)) (h7 : W (.fld H.FEC_SL_WAIT)) (h8 : W (.fld H.FRM_BDI_SC)) (h9 : W (.fld H.FRM_LEAF_BAD)) (h10 : W (.fld H.FRM_UP_FN_MISS)) (h11 : W (.fld H.FRM_UP_FN_RUN)) (h12 : W (.fld H.FRM_UP_MFN_MISS)) (a0 : Nat) (a1 : Nat) (a2 : Nat) (a3 : Nat) (a4 : Nat) (h : Moves W s₀ s) :
    Moves W s₀ (Sys2Proof.Machine.Frm.upstreamWord a0 a1 a2 a3 a4 s) := by
  unfold Sys2Proof.Machine.Frm.upstreamWord
  repeat' (first
    | with_reducible assumption
    | with_reducible apply Moves.clr
    | with_reducible apply Moves.put
    | with_reducible apply Moves.set
    | with_reducible apply Frm_missRun_moves
    | with_reducible apply Fec_readPhase_moves
    | intro _
    | split
    | (extract_lets +onlyGivenNames x; first
      | (refine Moves.keep (W := W) (s₀ := s₀) x ?_ ?_; rotate_left; intro hx; clear_value x; rotate_right)
      | (refine Moves.keep (W := W) (s₀ := s₀) x.2 ?_ ?_; rotate_left; intro hx; clear_value x; rotate_right)
      | (refine Moves.keep (W := W) (s₀ := s₀) x.1 ?_ ?_; rotate_left; intro hx; clear_value x; rotate_right)
      | skip))

theorem Frm_overheadWord_moves {W : Part → Prop} {s₀ s : State} (h0 : W .vlk) (h1 : W (.fld F.FRM_ALIGN_STAT_MFN_VALID)) (h2 : W (.fld F.LRX_STAT_ANNOUNCED)) (h3 : W (.fld F.LTX_STAT_ANNOUNCED)) (h4 : W (.fld F.SCM_CHG_STAT_MIS_LEAF)) (h5 : W (.fld F.SCM_INT_CAUSE_LATE_SWAP)) (h6 : W (.fld F.SCM_INT_CAUSE_VER_MISMATCH)) (h7 : W (.fld H.FEC_RX_ON)) (h8 : W (.fld H.FEC_RX_POS)) (h9 : W (.fld H.FEC_RX_WAIT)) (h10 : W (.fld H.FEC_SL_ON)) (h11 : W (.fld H.FEC_SL_POS)) (h12 : W (.fld H.FEC_SL_WAIT)) (h13 : W (.fld H.FRM_BDI_LINE)) (h14 : W (.fld H.FRM_BDI_SC)) (h15 : W (.fld H.FRM_BIP_AT)) (h16 : W (.fld H.FRM_FN_LAST)) (h17 : W (.fld H.FRM_FN_MISS)) (h18 : W (.fld H.FRM_FN_RUN)) (h19 : W (.fld H.FRM_LEAF_BAD)) (h20 : W (.fld H.FRM_LIVE_F)) (h21 : W (.fld H.FRM_LIVE_SC)) (h22 : W (.fld H.FRM_RX_MFN)) (h23 : W (.fld H.FRM_SEC_CLI)) (h24 : W (.fld H.FRM_SEC_SC)) (h25 : W (.fld H.FRM_SEEN_CLI)) (h26 : W (.fld H.FRM_SEEN_FLOW)) (h27 : W (.fld H.FRM_SEEN_LANE)) (h28 : W (.fld H.FRM_SEEN_LINE)) (h29 : W (.fld H.FRM_SEEN_SC)) (h30 : W (.fld H.FRM_SSM_LAST)) (h31 : W (.fld H.FRM_SSM_RUN)) (h32 : W (.fld H.FRM_TTI_BUF)) (h33 : W (.fld H.FRM_TTI_GOT)) (h34 : W (.fld H.FRM_TTI_LAST)) (h35 : W (.fld H.FRM_TTI_RUN)) (h36 : W (.fld H.FRM_UP_FN_MISS)) (h37 : W (.fld H.FRM_UP_FN_RUN)) (h38 : W (.fld H.FRM_UP_MFN_MISS)) (h39 : W (.fld H.LRX_SWAP_DUE)) (h40 : W (.fld H.LRX_SWAP_MF)) (h41 : W (.fld H.LTX_SWAP_DUE)) (h42 : W (.fld H.LTX_SWAP_MF)) (h43 : W (.fld H.VLK_RX_ACT)) (h44 : W (.fld H.VLK_SEND_MISMATCH)) (h45 : W (.fld H.VLK_SEQ)) (a0 : Nat) (a1 : Nat) (a2 : Nat) (a3 : List Bool) (a4 : Nat) (a5 : Nat) (h : Moves W s₀ s) :
    Moves W s₀ (Sys2Proof.Machine.Frm.overheadWord a0 a1 a2 a3 a4 a5 s) := by
  unfold Sys2Proof.Machine.Frm.overheadWord
  repeat' (first
    | with_reducible assumption
    | with_reducible apply Moves.count
    | with_reducible apply Fec_rxFrame_moves
    | with_reducible apply Frm_stampFrame_moves
    | with_reducible apply Frm_bipCheck_moves
    | with_reducible apply Frm_note_moves
    | with_reducible apply Frm_upstreamWord_moves
    | with_reducible apply Frm_searchedWord_moves
    | intro _
    | split
    | (extract_lets +onlyGivenNames x; first
      | (refine Moves.keep (W := W) (s₀ := s₀) x ?_ ?_; rotate_left; intro hx; clear_value x; rotate_right)
      | (refine Moves.keep (W := W) (s₀ := s₀) x.2 ?_ ?_; rotate_left; intro hx; clear_value x; rotate_right)
      | (refine Moves.keep (W := W) (s₀ := s₀) x.1 ?_ ?_; rotate_left; intro hx; clear_value x; rotate_right)
      | skip))

theorem Frm_oom_moves {W : Part → Prop} {s₀ s : State} (h0 : W (.fld F.FRM_ALIGN_STAT_IN_MF)) (h1 : W (.fld F.FRM_INT_CAUSE_OOM)) (h2 : W (.fld H.FRM_FN_RUN)) (h3 : W (.fld H.FRM_LIVE_F)) (h4 : W (.fld H.FRM_LIVE_SC)) (h5 : W (.fld H.FRM_SEC_CLI)) (h6 : W (.fld H.FRM_SEC_SC)) (h7 : W (.fld H.FRM_SEEN_CLI)) (h8 : W (.fld H.FRM_SEEN_FLOW)) (h9 : W (.fld H.FRM_SEEN_LANE)) (h10 : W (.fld H.FRM_SEEN_LINE)) (h11 : W (.fld H.FRM_SEEN_SC)) (h12 : W (.fld H.FRM_UP_FN_RUN)) (h13 : W (.fld H.FRM_UP_OOM)) (a0 : Nat) (a1 : Nat) (h : Moves W s₀ s) :
    Moves W s₀ (Sys2Proof.Machine.Frm.oom a0 a1 s) := by
  unfold Sys2Proof.Machine.Frm.oom
  repeat' (first
    | with_reducible assumption
    | with_reducible apply Moves.clr
    | with_reducible apply Moves.set
    | with_reducible apply Frm_note_moves
    | intro _
    | split)

theorem Frm_mfRestore_moves {W : Part → Prop} {s₀ s : State} (h0 : W (.fld F.FRM_ALIGN_STAT_IN_MF)) (h1 : W (.fld H.FRM_FN_MISS)) (h2 : W (.fld H.FRM_RX_FN)) (h3 : W (.fld H.FRM_UP_FN_MISS)) (h4 : W (.fld H.FRM_UP_MFN_MISS)) (h5 : W (.fld H.FRM_UP_OOM)) (a0 : Nat) (a1 : Nat) (h : Moves W s₀ s) :
    Moves W s₀ (Sys2Proof.Machine.Frm.mfRestore a0 a1 s) := by
  unfold Sys2Proof.Machine.Frm.mfRestore
  repeat' (first
    | with_reducible assumption
    | with_reducible apply Moves.clr
    | with_reducible apply Moves.put
    | with_reducible apply Moves.set
    | intro _
    | split)

theorem Frm_upstreamFawCheck_moves {W : Part → Prop} {s₀ s : State} (h0 : W .frm) (h1 : W (.fld H.FRM_LIVE_SC)) (h2 : W (.fld H.FRM_UP_HIT)) (h3 : W (.fld H.FRM_UP_MISS)) (a0 : Nat) (a1 : Nat) (a2 : Nat) (h : Moves W s₀ s) :
    Moves W s₀ (Sys2Proof.Machine.Frm.upstreamFawCheck a0 a1 a2 s) := by
  unfold Sys2Proof.Machine.Frm.upstreamFawCheck
  repeat' (first
    | with_reducible assumption
    | with_reducible apply Moves.clr
    | with_reducible apply Moves.count
    | with_reducible apply Moves.put
    | with_reducible apply Frm_cleared_moves
    | intro _
    | split
    | (extract_lets +onlyGivenNames x; first
      | (refine Moves.keep (W := W) (s₀ := s₀) x ?_ ?_; rotate_left; intro hx; clear_value x; rotate_right)
      | (refine Moves.keep (W := W) (s₀ := s₀) x.2 ?_ ?_; rotate_left; intro hx; clear_value x; rotate_right)
      | (refine Moves.keep (W := W) (s₀ := s₀) x.1 ?_ ?_; rotate_left; intro hx; clear_value x; rotate_right)
      | skip))

theorem Frm_upstreamOof_moves {W : Part → Prop} {s₀ s : State} (h0 : W .frm) (h1 : W (.fld F.FRM_INT_CAUSE_OOF)) (h2 : W (.fld H.FRM_LIVE_F)) (h3 : W (.fld H.FRM_LIVE_SC)) (h4 : W (.fld H.FRM_SEC_CLI)) (h5 : W (.fld H.FRM_SEC_SC)) (h6 : W (.fld H.FRM_SEEN_CLI)) (h7 : W (.fld H.FRM_SEEN_FLOW)) (h8 : W (.fld H.FRM_SEEN_LANE)) (h9 : W (.fld H.FRM_SEEN_LINE)) (h10 : W (.fld H.FRM_SEEN_SC)) (h11 : W (.fld H.FRM_UP_OOF)) (a0 : Nat) (a1 : Nat) (h : Moves W s₀ s) :
    Moves W s₀ (Sys2Proof.Machine.Frm.upstreamOof a0 a1 s) := by
  unfold Sys2Proof.Machine.Frm.upstreamOof
  repeat' (first
    | with_reducible assumption
    | with_reducible apply Moves.set
    | with_reducible apply Frm_note_moves
    | with_reducible apply Frm_invalidate_moves
    | intro _
    | split)

theorem Frm_upstreamInFrame_moves {W : Part → Prop} {s₀ s : State} (h0 : W (.fld F.FRM_INT_CAUSE_IN_FRAME)) (h1 : W (.fld H.FRM_UP_FN_MISS)) (h2 : W (.fld H.FRM_UP_MFN_MISS)) (h3 : W (.fld H.FRM_UP_OOF)) (h4 : W (.fld H.FRM_UP_OOM)) (a0 : Nat) (a1 : Nat) (h : Moves W s₀ s) :
    Moves W s₀ (Sys2Proof.Machine.Frm.upstreamInFrame a0 a1 s) := by
  unfold Sys2Proof.Machine.Frm.upstreamInFrame
  repeat' (first
    | with_reducible assumption
    | with_reducible apply Moves.clr
    | with_reducible apply Moves.set
    | intro _
    | split
    | (extract_lets +onlyGivenNames x; first
      | (refine Moves.keep (W := W) (s₀ := s₀) x ?_ ?_; rotate_left; intro hx; clear_value x; rotate_right)
      | (refine Moves.keep (W := W) (s₀ := s₀) x.2 ?_ ?_; rotate_left; intro hx; clear_value x; rotate_right)
      | (refine Moves.keep (W := W) (s₀ := s₀) x.1 ?_ ?_; rotate_left; intro hx; clear_value x; rotate_right)
      | skip))

theorem Frm_ttiAccept_moves {W : Part → Prop} {s₀ s : State} (h0 : W (.fld F.FRM_TTI_RX_DATA)) (h1 : W (.fld H.FRM_LIVE_F)) (h2 : W (.fld H.FRM_LIVE_SC)) (h3 : W (.fld H.FRM_SEC_CLI)) (h4 : W (.fld H.FRM_SEC_SC)) (h5 : W (.fld H.FRM_SEEN_CLI)) (h6 : W (.fld H.FRM_SEEN_FLOW)) (h7 : W (.fld H.FRM_SEEN_LANE)) (h8 : W (.fld H.FRM_SEEN_LINE)) (h9 : W (.fld H.FRM_SEEN_SC)) (h10 : W (.fld H.FRM_TTI_ACC)) (h : Moves W s₀ s) :
    Moves W s₀ (Sys2Proof.Machine.Frm.ttiAccept s) := by
  unfold Sys2Proof.Machine.Frm.ttiAccept
  repeat' (first
    | with_reducible assumption
    | with_reducible apply Moves.each
    | with_reducible apply Moves.put
    | with_reducible apply Moves.set
    | with_reducible apply Frm_note_moves
    | intro _
    | split
    | (extract_lets +onlyGivenNames x; first
      | (refine Moves.keep (W := W) (s₀ := s₀) x ?_ ?_; rotate_left; intro hx; clear_value x; rotate_right)
      | (refine Moves.keep (W := W) (s₀ := s₀) x.2 ?_ ?_; rotate_left; intro hx; clear_value x; rotate_right)
      | (refine Moves.keep (W := W) (s₀ := s₀) x.1 ?_ ?_; rotate_left; intro hx; clear_value x; rotate_right)
      | skip))

theorem Frm_ssmAccept_moves {W : Part → Prop} {s₀ s : State} (h0 : W (.fld F.FRM_INT_CAUSE_SSM_CHG)) (h1 : W (.fld F.FRM_SSM_RX_SSM)) (h : Moves W s₀ s) :
    Moves W s₀ (Sys2Proof.Machine.Frm.ssmAccept s) := by
  unfold Sys2Proof.Machine.Frm.ssmAccept
  repeat' (first
    | with_reducible assumption
    | with_reducible apply Moves.put
    | with_reducible apply Moves.set
    | intro _
    | split)

theorem Frm_countHalf_moves {W : Part → Prop} {s₀ s : State} (h0 : W (.fld H.FRM_LIVE_F)) (a0 : Nat) (a1 : Nat) (a2 : Nat) (h : Moves W s₀ s) :
    Moves W s₀ (Sys2Proof.Machine.Frm.countHalf a0 a1 a2 s) := by
  unfold Sys2Proof.Machine.Frm.countHalf
  repeat' (first
    | with_reducible assumption
    | with_reducible apply Moves.put
    | intro _
    | split
    | (extract_lets +onlyGivenNames x; first
      | (refine Moves.keep (W := W) (s₀ := s₀) x ?_ ?_; rotate_left; intro hx; clear_value x; rotate_right)
      | (refine Moves.keep (W := W) (s₀ := s₀) x.2 ?_ ?_; rotate_left; intro hx; clear_value x; rotate_right)
      | (refine Moves.keep (W := W) (s₀ := s₀) x.1 ?_ ?_; rotate_left; intro hx; clear_value x; rotate_right)
      | skip))

theorem Frm_justify_moves {W : Part → Prop} {s₀ s : State} (h0 : W (.fld H.FRM_LIVE_F)) (a0 : Nat) (a1 : Sys2Proof.Machine.Cf) (h : Moves W s₀ s) :
    Moves W s₀ (Sys2Proof.Machine.Frm.justify a0 a1 s).2 := by
  unfold Sys2Proof.Machine.Frm.justify
  repeat' (first
    | with_reducible assumption
    | with_reducible apply Frm_countHalf_moves
    | intro _
    | split)

theorem Frm_setHeld_moves {W : Part → Prop} {s₀ s : State} (h0 : W .frm) (a0 : Nat) (a1 : List Sys2Proof.Machine.Cf) (h : Moves W s₀ s) :
    Moves W s₀ (Sys2Proof.Machine.Frm.setHeld a0 a1 s) := by
  unfold Sys2Proof.Machine.Frm.setHeld
  repeat' (first
    | with_reducible assumption
    | intro _
    | (extract_lets +onlyGivenNames x; first
      | (refine Moves.keep (W := W) (s₀ := s₀) x ?_ ?_; rotate_left; intro hx; clear_value x; rotate_right)
      | (refine Moves.keep (W := W) (s₀ := s₀) x.2 ?_ ?_; rotate_left; intro hx; clear_value x; rotate_right)
      | (refine Moves.keep (W := W) (s₀ := s₀) x.1 ?_ ?_; rotate_left; intro hx; clear_value x; rotate_right)
      | skip)
    | (with_reducible refine Moves.frm _ ?_ ?_ <;> with_reducible first
      | assumption))

theorem Frm_setReady_moves {W : Part → Prop} {s₀ s : State} (h0 : W .frm) (a0 : Nat) (a1 : List Sys2Proof.Machine.Cf) (h : Moves W s₀ s) :
    Moves W s₀ (Sys2Proof.Machine.Frm.setReady a0 a1 s) := by
  unfold Sys2Proof.Machine.Frm.setReady
  repeat' (first
    | with_reducible assumption
    | intro _
    | (extract_lets +onlyGivenNames x; first
      | (refine Moves.keep (W := W) (s₀ := s₀) x ?_ ?_; rotate_left; intro hx; clear_value x; rotate_right)
      | (refine Moves.keep (W := W) (s₀ := s₀) x.2 ?_ ?_; rotate_left; intro hx; clear_value x; rotate_right)
      | (refine Moves.keep (W := W) (s₀ := s₀) x.1 ?_ ?_; rotate_left; intro hx; clear_value x; rotate_right)
      | skip)
    | (with_reducible refine Moves.frm _ ?_ ?_ <;> with_reducible first
      | assumption))

theorem Frm_window_moves {W : Part → Prop} {s₀ s : State} (h0 : W .frm) (h1 : W (.fld H.FRM_LIVE_F)) (h2 : W (.fld H.FRM_WIN_ON)) (h3 : W (.fld H.FRM_WIN_SEQ)) (a0 : Nat) (a1 : Bool) (a2 : Sys2Proof.Machine.Cf) (h : Moves W s₀ s) :
    Moves W s₀ (Sys2Proof.Machine.Frm.window a0 a1 a2 s) := by
  unfold Sys2Proof.Machine.Frm.window
  repeat' (first
    | with_reducible assumption
    | with_reducible apply Moves.put
    | with_reducible apply Moves.set
    | with_reducible apply Frm_setReady_moves
    | with_reducible apply Frm_setHeld_moves
    | with_reducible apply Frm_countFlow_moves
    | intro _
    | split
    | (extract_lets +onlyGivenNames x; first
      | (refine Moves.keep (W := W) (s₀ := s₀) x ?_ ?_; rotate_left; intro hx; clear_value x; rotate_right)
      | (refine Moves.keep (W := W) (s₀ := s₀) x.2 ?_ ?_; rotate_left; intro hx; clear_value x; rotate_right)
      | (refine Moves.keep (W := W) (s₀ := s₀) x.1 ?_ ?_; rotate_left; intro hx; clear_value x; rotate_right)
      | skip))

theorem Frm_accept_moves {W : Part → Prop} {s₀ s : State} (h0 : W .frm) (h1 : W (.fld H.FRM_LIVE_F)) (h2 : W (.fld H.FRM_WIN_ON)) (h3 : W (.fld H.FRM_WIN_SEQ)) (a0 : Nat) (a1 : Sys2Proof.Machine.Cf) (a2 : Bool) (h : Moves W s₀ s) :
    Moves W s₀ (Sys2Proof.Machine.Frm.accept a0 a1 a2 s) := by
  unfold Sys2Proof.Machine.Frm.accept
  repeat' (first
    | with_reducible assumption
    | with_reducible apply Frm_justify_moves
    | with_reducible apply Frm_window_moves
    | with_reducible apply Frm_countFlow_moves
    | intro _
    | split
    | (extract_lets +onlyGivenNames x; first
      | (refine Moves.keep (W := W) (s₀ := s₀) x ?_ ?_; rotate_left; intro hx; clear_value x; rotate_right)
      | (refine Moves.keep (W := W) (s₀ := s₀) x.2 ?_ ?_; rotate_left; intro hx; clear_value x; rotate_right)
      | (refine Moves.keep (W := W) (s₀ := s₀) x.1 ?_ ?_; rotate_left; intro hx; clear_value x; rotate_right)
      | skip))

theorem Frm_take_moves {W : Part → Prop} {s₀ s : State} (h0 : W .frm) (h1 : W (.fld F.CRY_CNT_COUNT)) (h2 : W (.fld F.CRY_INT_CAUSE_KEY_MISS)) (h3 : W (.fld F.CRY_INT_CAUSE_REPLAY)) (h4 : W (.fld F.CRY_INT_CAUSE_RESYNC)) (h5 : W (.fld F.CRY_INT_CAUSE_TAG_FAIL)) (h6 : W (.fld H.CRY_CAND)) (h7 : W (.fld H.CRY_LAST)) (h8 : W (.fld H.CRY_LAST_SEQ)) (h9 : W (.fld H.CRY_RUN_MASK)) (h10 : W (.fld H.CRY_RUN_PART)) (h11 : W (.fld H.CRY_RUN_SEQ)) (h12 : W (.fld H.CRY_RX_PH)) (h13 : W (.fld H.CRY_SYNC)) (h14 : W (.fld H.CRY_U)) (h15 : W (.fld H.CRY_WIN)) (h16 : W (.fld H.FRM_LAST_TYPE)) (h17 : W (.fld H.FRM_LIVE_F)) (h18 : W (.fld H.FRM_LIVE_SC)) (h19 : W (.fld H.FRM_SEC_CLI)) (h20 : W (.fld H.FRM_SEC_SC)) (h21 : W (.fld H.FRM_SEEN_CLI)) (h22 : W (.fld H.FRM_SEEN_FLOW)) (h23 : W (.fld H.FRM_SEEN_LANE)) (h24 : W (.fld H.FRM_SEEN_LINE)) (h25 : W (.fld H.FRM_SEEN_SC)) (h26 : W (.fld H.FRM_WIN_ON)) (h27 : W (.fld H.FRM_WIN_SEQ)) (a0 : Nat) (a1 : Bool) (a2 : Sys2Proof.Machine.Cf) (h : Moves W s₀ s) :
    Moves W s₀ (Sys2Proof.Machine.Frm.take a0 a1 a2 s) := by
  unfold Sys2Proof.Machine.Frm.take
  repeat' (first
    | with_reducible assumption
    | with_reducible apply Moves.put
    | with_reducible apply Frm_countFlow_moves
    | with_reducible apply Cry_decrypt_moves
    | with_reducible apply Frm_note_moves
    | with_reducible apply Frm_accept_moves
    | intro _
    | split
    | (extract_lets +onlyGivenNames x; first
      | (refine Moves.keep (W := W) (s₀ := s₀) x ?_ ?_; rotate_left; intro hx; clear_value x; rotate_right)
      | (refine Moves.keep (W := W) (s₀ := s₀) x.2 ?_ ?_; rotate_left; intro hx; clear_value x; rotate_right)
      | (refine Moves.keep (W := W) (s₀ := s₀) x.1 ?_ ?_; rotate_left; intro hx; clear_value x; rotate_right)
      | skip)
    | (have hx := congrArg Prod.snd ‹_ = (_, _)›; dsimp only at hx; subst hx))

theorem Frm_cfReceive_moves {W : Part → Prop} {s₀ s : State} (h0 : W .frm) (h1 : W (.fld F.CRY_CNT_COUNT)) (h2 : W (.fld F.CRY_INT_CAUSE_KEY_MISS)) (h3 : W (.fld F.CRY_INT_CAUSE_REPLAY)) (h4 : W (.fld F.CRY_INT_CAUSE_RESYNC)) (h5 : W (.fld F.CRY_INT_CAUSE_TAG_FAIL)) (h6 : W (.fld F.FLW_UNKNOWN_CNT_COUNT)) (h7 : W (.fld H.CRY_CAND)) (h8 : W (.fld H.CRY_LAST)) (h9 : W (.fld H.CRY_LAST_SEQ)) (h10 : W (.fld H.CRY_RUN_MASK)) (h11 : W (.fld H.CRY_RUN_PART)) (h12 : W (.fld H.CRY_RUN_SEQ)) (h13 : W (.fld H.CRY_RX_PH)) (h14 : W (.fld H.CRY_SYNC)) (h15 : W (.fld H.CRY_U)) (h16 : W (.fld H.CRY_WIN)) (h17 : W (.fld H.FEC_MARK)) (h18 : W (.fld H.FRM_LAST_TYPE)) (h19 : W (.fld H.FRM_LIVE_F)) (h20 : W (.fld H.FRM_LIVE_SC)) (h21 : W (.fld H.FRM_SEC_CLI)) (h22 : W (.fld H.FRM_SEC_SC)) (h23 : W (.fld H.FRM_SEEN_CLI)) (h24 : W (.fld H.FRM_SEEN_FLOW)) (h25 : W (.fld H.FRM_SEEN_LANE)) (h26 : W (.fld H.FRM_SEEN_LINE)) (h27 : W (.fld H.FRM_SEEN_SC)) (h28 : W (.fld H.FRM_WIN_ON)) (h29 : W (.fld H.FRM_WIN_SEQ)) (a0 : Nat) (a1 : Nat) (a2 : Nat) (a3 : List Nat) (a4 : List Nat) (a5 : Nat) (h : Moves W s₀ s) :
    Moves W s₀ (Sys2Proof.Machine.Frm.cfReceive a0 a1 a2 a3 a4 a5 s) := by
  unfold Sys2Proof.Machine.Frm.cfReceive
  repeat' (first
    | with_reducible assumption
    | with_reducible apply Moves.clr
    | with_reducible apply Moves.count
    | with_reducible apply Frm_take_moves
    | intro _
    | split
    | (extract_lets +onlyGivenNames x; first
      | (refine Moves.keep (W := W) (s₀ := s₀) x ?_ ?_; rotate_left; intro hx; clear_value x; rotate_right)
      | (refine Moves.keep (W := W) (s₀ := s₀) x.2 ?_ ?_; rotate_left; intro hx; clear_value x; rotate_right)
      | (refine Moves.keep (W := W) (s₀ := s₀) x.1 ?_ ?_; rotate_left; intro hx; clear_value x; rotate_right)
      | skip))

theorem Frm_setSlip_moves {W : Part → Prop} {s₀ s : State} (h0 : W .frm) (h1 : W (.fld F.FRM_RA_STAT_FILL)) (a0 : Nat) (a1 : List Sys2Proof.Machine.Stored) (h : Moves W s₀ s) :
    Moves W s₀ (Sys2Proof.Machine.Frm.setSlip a0 a1 s) := by
  unfold Sys2Proof.Machine.Frm.setSlip
  repeat' (first
    | with_reducible assumption
    | with_reducible apply Moves.put
    | intro _
    | (extract_lets +onlyGivenNames x; first
      | (refine Moves.keep (W := W) (s₀ := s₀) x ?_ ?_; rotate_left; intro hx; clear_value x; rotate_right)
      | (refine Moves.keep (W := W) (s₀ := s₀) x.2 ?_ ?_; rotate_left; intro hx; clear_value x; rotate_right)
      | (refine Moves.keep (W := W) (s₀ := s₀) x.1 ?_ ?_; rotate_left; intro hx; clear_value x; rotate_right)
      | skip)
    | (with_reducible refine Moves.frm _ ?_ ?_ <;> with_reducible first
      | assumption
      | apply Moves.put))

theorem Frm_overflow_moves {W : Part → Prop} {s₀ s : State} (h0 : W (.fld F.FRM_INT_CAUSE_RA_OVF)) (h1 : W (.fld H.FRM_LIVE_F)) (a0 : Nat) (h : Moves W s₀ s) :
    Moves W s₀ (Sys2Proof.Machine.Frm.overflow a0 s) := by
  unfold Sys2Proof.Machine.Frm.overflow
  repeat' (first
    | with_reducible assumption
    | with_reducible apply Moves.set
    | with_reducible apply Frm_countHalf_moves
    | intro _)

theorem Frm_slipWrite_moves {W : Part → Prop} {s₀ s : State} (h0 : W .frm) (h1 : W .qdr) (h2 : W (.fld F.FRM_INT_CAUSE_RA_OVF)) (h3 : W (.fld F.FRM_RA_STAT_FILL)) (h4 : W (.fld F.PMC_INT_CAUSE_OVF)) (h5 : W (.fld F.PMC_INT_CAUSE_SMP_AVAIL)) (h6 : W (.fld F.PMC_INT_CAUSE_SMP_DROP)) (h7 : W (.fld F.PMC_OVF_STAT_OVF)) (h8 : W (.fld F.PMC_SMP_DROP_RING)) (h9 : W (.fld F.PMC_SMP_STAT_COUNT)) (h10 : W (.fld F.QDM_BW_LIMIT)) (h11 : W (.fld F.QDM_BW_USED)) (h12 : W (.fld F.QDM_INT_CAUSE_POOL_EMPTY)) (h13 : W (.fld F.QDM_POOL_STAT_QDR_FREE)) (h14 : W (.fld H.FRM_EG_JUST)) (h15 : W (.fld H.FRM_LIVE_F)) (h16 : W (.fld H.PMC_CNT)) (h17 : W (.fld H.PMC_OVF_DUE)) (h18 : W (.fld H.PMC_OVF_T)) (h19 : W (.fld H.PMC_RING)) (h20 : W (.fld H.PMC_TRACE_POS)) (h21 : W (.fld H.QDM_EXTRA)) (h22 : W (.fld H.QDM_HELD)) (h23 : W (.fld H.QDM_POOL_USED)) (a0 : Nat) (h : Moves W s₀ s) :
    Moves W s₀ (Sys2Proof.Machine.Frm.slipWrite a0 s) := by
  unfold Sys2Proof.Machine.Frm.slipWrite
  repeat' (first
    | with_reducible assumption
    | with_reducible apply Moves.put
    | with_reducible apply Moves.set
    | with_reducible apply Frm_setReady_moves
    | with_reducible apply Frm_countHalf_moves
    | with_reducible apply Frm_overflow_moves
    | with_reducible apply Frm_setSlip_moves
    | with_reducible apply Qdm_draw_moves
    | intro _
    | split
    | (extract_lets +onlyGivenNames x; first
      | (refine Moves.keep (W := W) (s₀ := s₀) x ?_ ?_; rotate_left; intro hx; clear_value x; rotate_right)
      | (refine Moves.keep (W := W) (s₀ := s₀) x.2 ?_ ?_; rotate_left; intro hx; clear_value x; rotate_right)
      | (refine Moves.keep (W := W) (s₀ := s₀) x.1 ?_ ?_; rotate_left; intro hx; clear_value x; rotate_right)
      | skip)
    | (have hx := congrArg Prod.snd ‹_ = (_, _)›; dsimp only at hx; subst hx))

theorem Frm_merge_moves {W : Part → Prop} {s₀ s : State} (h0 : W .flw) (a0 : Nat) (a1 : Nat) (a2 : Sys2Proof.Machine.Cf) (a3 : List Nat) (h : Moves W s₀ s) :
    Moves W s₀ (Sys2Proof.Machine.Frm.merge a0 a1 a2 a3 s) := by
  unfold Sys2Proof.Machine.Frm.merge
  repeat' (first
    | with_reducible assumption
    | with_reducible apply Moves.eachOf
    | with_reducible apply Moves.emit
    | intro _
    | split
    | (extract_lets +onlyGivenNames x; first
      | (refine Moves.keep (W := W) (s₀ := s₀) x ?_ ?_; rotate_left; intro hx; clear_value x; rotate_right)
      | (refine Moves.keep (W := W) (s₀ := s₀) x.2 ?_ ?_; rotate_left; intro hx; clear_value x; rotate_right)
      | (refine Moves.keep (W := W) (s₀ := s₀) x.1 ?_ ?_; rotate_left; intro hx; clear_value x; rotate_right)
      | skip)
    | (with_reducible refine Moves.flw _ ?_ ?_ <;> with_reducible first
      | assumption
      | apply Moves.eachOf
      | apply Moves.emit))

theorem Frm_steer_moves {W : Part → Prop} {s₀ s : State} (h0 : W (.fld H.HSL_NCO)) (h1 : W (.fld H.HSL_NCO_INT)) (a0 : Nat) (a1 : Nat) (a2 : Sys2Proof.Machine.Cf) (h : Moves W s₀ s) :
    Moves W s₀ (Sys2Proof.Machine.Frm.steer a0 a1 a2 s) := by
  unfold Sys2Proof.Machine.Frm.steer
  repeat' (first
    | with_reducible assumption
    | with_reducible apply Hsl_steer_moves
    | intro _
    | split)

theorem Frm_give_moves {W : Part → Prop} {s₀ s : State} (h0 : W .flw) (h1 : W (.fld H.FRM_LIVE_F)) (h2 : W (.fld H.HSL_NCO)) (h3 : W (.fld H.HSL_NCO_INT)) (h4 : W (.fld H.HSL_OUT)) (a0 : Nat) (a1 : Sys2Proof.Machine.Cf) (a2 : List Nat) (h : Moves W s₀ s) :
    Moves W s₀ (Sys2Proof.Machine.Frm.give a0 a1 a2 s) := by
  unfold Sys2Proof.Machine.Frm.give
  repeat' (first
    | with_reducible assumption
    | with_reducible apply Moves.emit
    | with_reducible apply Moves.put
    | with_reducible apply Frm_steer_moves
    | with_reducible apply Frm_countFlow_moves
    | with_reducible apply Frm_merge_moves
    | intro _
    | split
    | (extract_lets +onlyGivenNames x; first
      | (refine Moves.keep (W := W) (s₀ := s₀) x ?_ ?_; rotate_left; intro hx; clear_value x; rotate_right)
      | (refine Moves.keep (W := W) (s₀ := s₀) x.2 ?_ ?_; rotate_left; intro hx; clear_value x; rotate_right)
      | (refine Moves.keep (W := W) (s₀ := s₀) x.1 ?_ ?_; rotate_left; intro hx; clear_value x; rotate_right)
      | skip)
    | (with_reducible refine Moves.flw _ ?_ ?_ <;> with_reducible first
      | assumption
      | apply Moves.emit
      | apply Moves.put
      | apply Frm_steer_moves
      | apply Frm_countFlow_moves
      | apply Frm_merge_moves))

theorem Frm_slipRead_moves {W : Part → Prop} {s₀ s : State} (h0 : W .flw) (h1 : W .frm) (h2 : W (.fld F.FRM_RA_STAT_FILL)) (h3 : W (.fld F.QDM_BW_LIMIT)) (h4 : W (.fld F.QDM_BW_USED)) (h5 : W (.fld F.QDM_POOL_STAT_QDR_FREE)) (h6 : W (.fld H.FRM_LIVE_F)) (h7 : W (.fld H.HSL_NCO)) (h8 : W (.fld H.HSL_NCO_INT)) (h9 : W (.fld H.HSL_OUT)) (h10 : W (.fld H.QDM_EXTRA)) (h11 : W (.fld H.QDM_HELD)) (h12 : W (.fld H.QDM_POOL_USED)) (a0 : Nat) (a1 : List Nat) (h : Moves W s₀ s) :
    Moves W s₀ (Sys2Proof.Machine.Frm.slipRead a0 a1 s) := by
  unfold Sys2Proof.Machine.Frm.slipRead
  repeat' (first
    | with_reducible assumption
    | with_reducible apply Frm_give_moves
    | with_reducible apply Frm_countHalf_moves
    | with_reducible apply Frm_setSlip_moves
    | with_reducible apply Qdm_free_moves
    | intro _
    | split
    | (extract_lets +onlyGivenNames x; first
      | (refine Moves.keep (W := W) (s₀ := s₀) x ?_ ?_; rotate_left; intro hx; clear_value x; rotate_right)
      | (refine Moves.keep (W := W) (s₀ := s₀) x.2 ?_ ?_; rotate_left; intro hx; clear_value x; rotate_right)
      | (refine Moves.keep (W := W) (s₀ := s₀) x.1 ?_ ?_; rotate_left; intro hx; clear_value x; rotate_right)
      | skip))

end Sys2Proof.Laws
end

