-- ==== Sys2Proof/Laws/MovesSafe.lean ====
section
/-! SUPPORT. Sys2Proof/Laws/MovesSafe.lean: what each operation of Machine/Safe.lean may write (Laws/Moves.lean). -/
namespace Sys2Proof.Laws
open Sys2Proof Sys2Proof.Machine

theorem Pwr_takeAction_moves {W : Part → Prop} {s₀ s : State} (h0 : W .brx) (h1 : W (.fld F.BRX_CNT_COUNT)) (h2 : W (.fld F.BRX_COL_STAT_COUNT)) (h3 : W (.fld F.BRX_COL_STAT_HEAD_DONE)) (h4 : W (.fld F.BRX_REC_STAT_COUNT)) (h5 : W (.fld F.BRX_STAT_CH)) (h6 : W (.fld F.LTX_STAT_MUTE_SRC)) (h7 : W (.fld F.PWR_SAFE_STAT_PEER_HELD)) (h8 : W (.fld F.PWR_SAFE_STAT_RX_SAFE)) (h9 : W (.fld F.PWR_SAFE_STAT_TX_MUTED)) (h10 : W (.fld F.PWR_SAFE_STAT_UP_SAFE)) (h11 : W (.fld H.LTX_OUTPUT)) (h12 : W (.fld H.PWR_RELEASING)) (a0 : Nat) (h : Moves W s₀ s) :
    Moves W s₀ (Sys2Proof.Machine.Pwr.takeAction a0 s) := by
  unfold Sys2Proof.Machine.Pwr.takeAction
  repeat' (first
    | with_reducible assumption
    | with_reducible apply Moves.clrBit
    | with_reducible apply Moves.set
    | with_reducible apply Ltx_mute_moves
    | with_reducible apply Brx_safe_moves
    | intro _
    | split
    | (extract_lets +onlyGivenNames x; first
      | (refine Moves.keep (W := W) (s₀ := s₀) x ?_ ?_; rotate_left; intro hx; clear_value x; rotate_right)
      | (refine Moves.keep (W := W) (s₀ := s₀) x.2 ?_ ?_; rotate_left; intro hx; clear_value x; rotate_right)
      | (refine Moves.keep (W := W) (s₀ := s₀) x.1 ?_ ?_; rotate_left; intro hx; clear_value x; rotate_right)
      | skip))

theorem Pwr_takeActions_moves {W : Part → Prop} {s₀ s : State} (h0 : W .brx) (h1 : W (.fld F.BRX_CNT_COUNT)) (h2 : W (.fld F.BRX_COL_STAT_COUNT)) (h3 : W (.fld F.BRX_COL_STAT_HEAD_DONE)) (h4 : W (.fld F.BRX_REC_STAT_COUNT)) (h5 : W (.fld F.BRX_STAT_CH)) (h6 : W (.fld F.LTX_STAT_MUTE_SRC)) (h7 : W (.fld F.PWR_SAFE_STAT_PEER_HELD)) (h8 : W (.fld F.PWR_SAFE_STAT_RX_SAFE)) (h9 : W (.fld F.PWR_SAFE_STAT_TX_MUTED)) (h10 : W (.fld F.PWR_SAFE_STAT_UP_SAFE)) (h11 : W (.fld H.LTX_OUTPUT)) (h12 : W (.fld H.PWR_RELEASING)) (a0 : Nat) (h : Moves W s₀ s) :
    Moves W s₀ (Sys2Proof.Machine.Pwr.takeActions a0 s) := by
  unfold Sys2Proof.Machine.Pwr.takeActions
  repeat' (first
    | with_reducible assumption
    | with_reducible apply Moves.each
    | with_reducible apply Pwr_takeAction_moves
    | intro _
    | split)

theorem Pwr_hardCrossing_moves {W : Part → Prop} {s₀ s : State} (h0 : W .brx) (h1 : W .qdr) (h2 : W (.fld F.BRX_CNT_COUNT)) (h3 : W (.fld F.BRX_COL_STAT_COUNT)) (h4 : W (.fld F.BRX_COL_STAT_HEAD_DONE)) (h5 : W (.fld F.BRX_REC_STAT_COUNT)) (h6 : W (.fld F.BRX_STAT_CH)) (h7 : W (.fld F.LTX_STAT_MUTE_SRC)) (h8 : W (.fld F.PMC_INT_CAUSE_OVF)) (h9 : W (.fld F.PMC_INT_CAUSE_SMP_AVAIL)) (h10 : W (.fld F.PMC_INT_CAUSE_SMP_DROP)) (h11 : W (.fld F.PMC_OVF_STAT_OVF)) (h12 : W (.fld F.PMC_SMP_DROP_RING)) (h13 : W (.fld F.PMC_SMP_STAT_COUNT)) (h14 : W (.fld F.PWR_INT_CAUSE_SLACK)) (h15 : W (.fld F.PWR_SAFE_STAT_PEER_HELD)) (h16 : W (.fld F.PWR_SAFE_STAT_RX_SAFE)) (h17 : W (.fld F.PWR_SAFE_STAT_TX_MUTED)) (h18 : W (.fld F.PWR_SAFE_STAT_UP_SAFE)) (h19 : W (.fld F.PWR_SLACK_LVL_HARD_CNT)) (h20 : W (.fld F.PWR_SLACK_LVL_MIN)) (h21 : W (.fld F.PWR_SLACK_LVL_NOW)) (h22 : W (.fld F.PWR_SLACK_STAT_HARD)) (h23 : W (.fld H.LTX_OUTPUT)) (h24 : W (.fld H.PMC_CNT)) (h25 : W (.fld H.PMC_OVF_DUE)) (h26 : W (.fld H.PMC_OVF_T)) (h27 : W (.fld H.PMC_RING)) (h28 : W (.fld H.PMC_TRACE_POS)) (h29 : W (.fld H.PWR_LOW)) (h30 : W (.fld H.PWR_RELEASING)) (a0 : Nat) (a1 : Nat) (h : Moves W s₀ s) :
    Moves W s₀ (Sys2Proof.Machine.Pwr.hardCrossing a0 a1 s) := by
  unfold Sys2Proof.Machine.Pwr.hardCrossing
  repeat' (first
    | with_reducible assumption
    | with_reducible apply Moves.count
    | with_reducible apply Moves.setBit
    | with_reducible apply Pwr_observe_moves
    | with_reducible apply Pwr_takeActions_moves
    | with_reducible apply Pwr_event_moves
    | with_reducible apply Pmc_system_moves
    | intro _
    | split
    | (extract_lets +onlyGivenNames x; first
      | (refine Moves.keep (W := W) (s₀ := s₀) x ?_ ?_; rotate_left; intro hx; clear_value x; rotate_right)
      | (refine Moves.keep (W := W) (s₀ := s₀) x.2 ?_ ?_; rotate_left; intro hx; clear_value x; rotate_right)
      | (refine Moves.keep (W := W) (s₀ := s₀) x.1 ?_ ?_; rotate_left; intro hx; clear_value x; rotate_right)
      | skip))

theorem Pwr_bridgeFault_moves {W : Part → Prop} {s₀ s : State} (h0 : W .brx) (h1 : W (.fld F.BRX_CNT_COUNT)) (h2 : W (.fld F.BRX_COL_STAT_COUNT)) (h3 : W (.fld F.BRX_COL_STAT_HEAD_DONE)) (h4 : W (.fld F.BRX_REC_STAT_COUNT)) (h5 : W (.fld F.BRX_STAT_CH)) (h6 : W (.fld F.LTX_STAT_MUTE_SRC)) (h7 : W (.fld F.PWR_INT_CAUSE_SLACK)) (h8 : W (.fld F.PWR_SAFE_STAT_PEER_HELD)) (h9 : W (.fld F.PWR_SAFE_STAT_RX_SAFE)) (h10 : W (.fld F.PWR_SAFE_STAT_TX_MUTED)) (h11 : W (.fld F.PWR_SAFE_STAT_UP_SAFE)) (h12 : W (.fld F.PWR_SLACK_LVL_MIN)) (h13 : W (.fld F.PWR_SLACK_LVL_NOW)) (h14 : W (.fld F.PWR_SLACK_LVL_UNDERRUN)) (h15 : W (.fld F.PWR_SLACK_STAT_HARD)) (h16 : W (.fld H.LTX_OUTPUT)) (h17 : W (.fld H.PWR_LOW)) (h18 : W (.fld H.PWR_RELEASING)) (a0 : Nat) (h : Moves W s₀ s) :
    Moves W s₀ (Sys2Proof.Machine.Pwr.bridgeFault a0 s) := by
  unfold Sys2Proof.Machine.Pwr.bridgeFault
  repeat' (first
    | with_reducible assumption
    | with_reducible apply Moves.count
    | with_reducible apply Moves.setBit
    | with_reducible apply Pwr_observe_moves
    | with_reducible apply Pwr_takeActions_moves
    | with_reducible apply Pwr_event_moves
    | intro _
    | split
    | (extract_lets +onlyGivenNames x; first
      | (refine Moves.keep (W := W) (s₀ := s₀) x ?_ ?_; rotate_left; intro hx; clear_value x; rotate_right)
      | (refine Moves.keep (W := W) (s₀ := s₀) x.2 ?_ ?_; rotate_left; intro hx; clear_value x; rotate_right)
      | (refine Moves.keep (W := W) (s₀ := s₀) x.1 ?_ ?_; rotate_left; intro hx; clear_value x; rotate_right)
      | skip))

theorem Pwr_endAction_moves {W : Part → Prop} {s₀ s : State} (h0 : W (.fld F.LTX_STAT_MUTE_SRC)) (h1 : W (.fld F.PWR_SAFE_STAT_PEER_HELD)) (h2 : W (.fld F.PWR_SAFE_STAT_RX_SAFE)) (h3 : W (.fld F.PWR_SAFE_STAT_TX_MUTED)) (h4 : W (.fld F.PWR_SAFE_STAT_UP_SAFE)) (h5 : W (.fld H.LTX_OUTPUT)) (a0 : Nat) (h : Moves W s₀ s) :
    Moves W s₀ (Sys2Proof.Machine.Pwr.endAction a0 s) := by
  unfold Sys2Proof.Machine.Pwr.endAction
  repeat' (first
    | with_reducible assumption
    | with_reducible apply Moves.clr
    | with_reducible apply Ltx_resume_moves
    | with_reducible apply Ltx_unmute_moves
    | intro _
    | split)

theorem Pwr_releaseEffect_moves {W : Part → Prop} {s₀ s : State} (h0 : W (.fld F.LTX_STAT_MUTE_SRC)) (h1 : W (.fld F.PWR_SAFE_STAT_PEER_HELD)) (h2 : W (.fld F.PWR_SAFE_STAT_RX_SAFE)) (h3 : W (.fld F.PWR_SAFE_STAT_TX_MUTED)) (h4 : W (.fld F.PWR_SAFE_STAT_UP_SAFE)) (h5 : W (.fld H.LTX_OUTPUT)) (h6 : W (.fld H.PWR_RELEASING)) (h : Moves W s₀ s) :
    Moves W s₀ (Sys2Proof.Machine.Pwr.releaseEffect s) := by
  unfold Sys2Proof.Machine.Pwr.releaseEffect
  repeat' (first
    | with_reducible assumption
    | with_reducible apply Moves.clr
    | with_reducible apply Moves.each
    | with_reducible apply Pwr_endAction_moves
    | intro _
    | split
    | (extract_lets +onlyGivenNames x; first
      | (refine Moves.keep (W := W) (s₀ := s₀) x ?_ ?_; rotate_left; intro hx; clear_value x; rotate_right)
      | (refine Moves.keep (W := W) (s₀ := s₀) x.2 ?_ ?_; rotate_left; intro hx; clear_value x; rotate_right)
      | (refine Moves.keep (W := W) (s₀ := s₀) x.1 ?_ ?_; rotate_left; intro hx; clear_value x; rotate_right)
      | skip))

end Sys2Proof.Laws
end

