-- ==== Sys2Proof/Laws/MovesFrmTx.lean ====
section
/-! SUPPORT. Sys2Proof/Laws/MovesFrmTx.lean: what each operation of Machine/FrmTx.lean may write (Laws/Moves.lean). -/
namespace Sys2Proof.Laws
open Sys2Proof Sys2Proof.Machine

theorem Frm_txEnable_moves {W : Part → Prop} {s₀ s : State} (h0 : W (.fld F.FRM_CTRL_TX_EN)) (h1 : W (.fld H.FRM_TX_RUN)) (a0 : Nat) (h : Moves W s₀ s) :
    Moves W s₀ (Sys2Proof.Machine.Frm.txEnable a0 s) := by
  unfold Sys2Proof.Machine.Frm.txEnable
  repeat' (first
    | with_reducible assumption
    | with_reducible apply Moves.clr
    | with_reducible apply Moves.set
    | intro _
    | split)

theorem Frm_txSubcarrier_moves {W : Part → Prop} {s₀ s : State} (h0 : W (.fld H.FEC_TX_POS)) (h1 : W (.fld H.FRM_CF_DUE)) (a0 : Nat) (a1 : Nat) (a2 : List (List Bool)) (a3 : Nat) (a4 : List (Nat × Nat)) (h : Moves W s₀ s) :
    Moves W s₀ (Sys2Proof.Machine.Frm.txSubcarrier a0 a1 a2 a3 a4 s).2 := by
  unfold Sys2Proof.Machine.Frm.txSubcarrier
  repeat' (first
    | with_reducible assumption
    | with_reducible apply Fec_advance_moves
    | intro _
    | split
    | (extract_lets +onlyGivenNames x; first
      | (refine Moves.keep (W := W) (s₀ := s₀) x ?_ ?_; rotate_left; intro hx; clear_value x; rotate_right)
      | (refine Moves.keep (W := W) (s₀ := s₀) x.2 ?_ ?_; rotate_left; intro hx; clear_value x; rotate_right)
      | (refine Moves.keep (W := W) (s₀ := s₀) x.1 ?_ ?_; rotate_left; intro hx; clear_value x; rotate_right)
      | skip))

theorem Frm_multiframeStart_moves {W : Part → Prop} {s₀ s : State} (h0 : W .vlk) (h1 : W (.fld H.FRM_MGMT_DUE)) (h2 : W (.fld H.SCM_MF)) (h : Moves W s₀ s) :
    Moves W s₀ (Sys2Proof.Machine.Frm.multiframeStart s) := by
  unfold Sys2Proof.Machine.Frm.multiframeStart
  repeat' (first
    | with_reducible assumption
    | with_reducible apply Moves.countWrap
    | with_reducible apply Moves.set
    | with_reducible apply Vlk_age_moves
    | intro _
    | split
    | (extract_lets +onlyGivenNames x; first
      | (refine Moves.keep (W := W) (s₀ := s₀) x ?_ ?_; rotate_left; intro hx; clear_value x; rotate_right)
      | (refine Moves.keep (W := W) (s₀ := s₀) x.2 ?_ ?_; rotate_left; intro hx; clear_value x; rotate_right)
      | (refine Moves.keep (W := W) (s₀ := s₀) x.1 ?_ ?_; rotate_left; intro hx; clear_value x; rotate_right)
      | skip))

theorem Frm_txFrame_moves {W : Part → Prop} {s₀ s : State} (h0 : W .qdr) (h1 : W .vlk) (h2 : W (.fld F.CRY_KEY_DATA_KEY)) (h3 : W (.fld F.CRY_KEY_SALT_SALT)) (h4 : W (.fld F.CRY_LOCK_STAT_LOCK_BROKEN)) (h5 : W (.fld F.CRY_LOCK_STAT_OWNER)) (h6 : W (.fld F.LRX_INT_CAUSE_SHADOW_LOCKED)) (h7 : W (.fld F.LRX_INT_CAUSE_TABLE_ERR)) (h8 : W (.fld F.LRX_STAT_ERR_SC)) (h9 : W (.fld F.LRX_STAT_SHADOW_READY)) (h10 : W (.fld F.LTX_CTRL_MUTE)) (h11 : W (.fld F.LTX_INT_CAUSE_SHADOW_LOCKED)) (h12 : W (.fld F.LTX_INT_CAUSE_TABLE_ERR)) (h13 : W (.fld F.LTX_STAT_ACTIVE)) (h14 : W (.fld F.LTX_STAT_ERR_SC)) (h15 : W (.fld F.LTX_STAT_MUTE_SRC)) (h16 : W (.fld F.LTX_STAT_SHADOW_READY)) (h17 : W (.fld F.MBX_INT_CAUSE_RESET_SEEN)) (h18 : W (.fld F.MBX_LOCK_STAT_LOCK_BROKEN)) (h19 : W (.fld F.MBX_LOCK_STAT_OWNER)) (h20 : W (.fld F.MBX_STAT_RX_RESET_SEEN)) (h21 : W (.fld F.MBX_STAT_SENDER_RESET_SEEN)) (h22 : W (.fld F.PMC_INT_CAUSE_OVF)) (h23 : W (.fld F.PMC_INT_CAUSE_SMP_AVAIL)) (h24 : W (.fld F.PMC_INT_CAUSE_SMP_DROP)) (h25 : W (.fld F.PMC_OVF_STAT_OVF)) (h26 : W (.fld F.PMC_SMP_DROP_RING)) (h27 : W (.fld F.PMC_SMP_STAT_COUNT)) (h28 : W (.fld F.PWR_SAFE_STAT_PEER_HELD)) (h29 : W (.fld F.PWR_SAFE_STAT_RX_SAFE)) (h30 : W (.fld F.PWR_SAFE_STAT_TX_MUTED)) (h31 : W (.fld F.PWR_SAFE_STAT_UP_SAFE)) (h32 : W (.fld F.SCM_CHG_STAT_DS_STATE)) (h33 : W (.fld F.SCM_CHG_STAT_US_STATE)) (h34 : W (.fld F.SCM_INT_CAUSE_CHG_FAIL)) (h35 : W (.fld F.SCM_NAK_MAP_LEAF)) (h36 : W (.fld F.VLK_INT_CAUSE_GRANT_SWAP)) (h37 : W (.fld F.VLK_INT_CAUSE_LEAF_LOST)) (h38 : W (.fld F.VLK_INT_CAUSE_STATE_CHG)) (h39 : W (.fld F.VLK_SELF_EQD_EQD)) (h40 : W (.fld F.VLK_SELF_LEAF)) (h41 : W (.fld F.VLK_SELF_SILENT)) (h42 : W (.fld F.VLK_SELF_STATE)) (h43 : W (.fld H.FEC_TX_POS)) (h44 : W (.fld H.FRM_CF_DUE)) (h45 : W (.fld H.FRM_LIVE_F)) (h46 : W (.fld H.FRM_LIVE_SC)) (h47 : W (.fld H.FRM_MGMT_DUE)) (h48 : W (.fld H.FRM_SEC_CLI)) (h49 : W (.fld H.FRM_SEC_SC)) (h50 : W (.fld H.FRM_SEEN_CLI)) (h51 : W (.fld H.FRM_SEEN_FLOW)) (h52 : W (.fld H.FRM_SEEN_LANE)) (h53 : W (.fld H.FRM_SEEN_LINE)) (h54 : W (.fld H.FRM_SEEN_SC)) (h55 : W (.fld H.FRM_TX_FN)) (h56 : W (.fld H.FRM_TX_MFN)) (h57 : W (.fld H.FRM_TX_RUN)) (h58 : W (.fld H.LRX_SHADOW)) (h59 : W (.fld H.LRX_SHADOW_VER)) (h60 : W (.fld H.LTX_OUTPUT)) (h61 : W (.fld H.LTX_SHADOW)) (h62 : W (.fld H.LTX_SHADOW_VER)) (h63 : W (.fld H.PEER_MUTE_WAS)) (h64 : W (.fld H.PMC_CNT)) (h65 : W (.fld H.PMC_OVF_DUE)) (h66 : W (.fld H.PMC_OVF_T)) (h67 : W (.fld H.PMC_RING)) (h68 : W (.fld H.PMC_TRACE_POS)) (h69 : W (.fld H.PWR_RELEASING)) (h70 : W (.fld H.SCM_ACKED)) (h71 : W (.fld H.SCM_ADDRESSED)) (h72 : W (.fld H.SCM_LAST_VER)) (h73 : W (.fld H.SCM_MF)) (h74 : W (.fld H.SCM_RESEND)) (h75 : W (.fld H.SCM_START_MF)) (h76 : W (.fld H.VLK_ATTEMPT)) (h77 : W (.fld H.VLK_EQD_DELTA)) (h78 : W (.fld H.VLK_EQD_NOW)) (h79 : W (.fld H.VLK_FEEDER_USE)) (h80 : W (.fld H.VLK_G_ACT)) (h81 : W (.fld H.VLK_G_ACT_VER)) (h82 : W (.fld H.VLK_G_SC_ACT)) (h83 : W (.fld H.VLK_G_SC_SHADOW)) (h84 : W (.fld H.VLK_G_SHADOW)) (h85 : W (.fld H.VLK_G_SHADOW_VER)) (h86 : W (.fld H.VLK_G_SWAP)) (h87 : W (.fld H.VLK_LISTENING)) (h88 : W (.fld H.VLK_PREV_LEAF)) (h89 : W (.fld H.VLK_REG_BASE)) (h90 : W (.fld H.VLK_REG_WAIT)) (h91 : W (.fld H.VLK_RR)) (h92 : W (.fld H.VLK_SEQ)) (h93 : W (.fld H.VLK_SWITCH_SILENT)) (h94 : W (.fld H.VLK_S_REST)) (h95 : W (.fld H.VLK_TREE)) (h96 : W (.fld H.VLK_UP_ON)) (a0 : Nat) (a1 : Nat) (a2 : List (List Bool)) (h : Moves W s₀ s) :
    Moves W s₀ (Sys2Proof.Machine.Frm.txFrame a0 a1 a2 s) := by
  unfold Frm.txFrame
  split
  · exact h
  extract_lets p s1 s2 s3 s4 s5 r s6 s7
  have e1 : Moves W s₀ s1 := ((h.set _ _ _ (by assumption)).put _ _ _ _ _ (by assumption)).put _ _ _ _ _ (by assumption)
  clear_value s1 p
  have e2 : Moves W s₀ s2 := by apply Vlk_judge_moves <;> assumption
  clear_value s2
  have e3 : Moves W s₀ s3 := by
    dsimp only [s3]; split
    · apply Frm_multiframeStart_moves <;> assumption
    · exact e2
  clear_value s3
  have e4 : Moves W s₀ s4 := by
    dsimp only [s4]; split
    · apply Vlk_frameBoundary_moves <;> assumption
    · exact e3
  clear_value s4
  have e5 : Moves W s₀ s5 := by
    have a : Moves W s₀ (Pwr.releaseEffect s4) := by apply Pwr_releaseEffect_moves <;> assumption
    have b : Moves W s₀ (Ltx.start (Pwr.releaseEffect s4)) := by apply Ltx_start_moves <;> assumption
    apply Ltx_resume_moves <;> assumption
  clear_value s5
  have er : Moves W s₀ r.2 := by
    dsimp only [r]; split
    · exact foldlPair_moves _ (g := fun l t k => Frm.txSubcarrier p.1 p.2 a2 k l t)
        (fun l t k ht => by apply Frm_txSubcarrier_moves <;> assumption) e5
    · exact e5
  clear_value r
  have e6 : Moves W s₀ s6 := by
    dsimp only [s6]; split
    · exact er.emit _
    · exact er
  clear_value s6
  have e7 : Moves W s₀ s7 := by
    dsimp only [s7]; split
    · exact e6
    · apply Scm_resendDue_moves <;> assumption
  clear_value s7
  have e8 : Moves W s₀ (if Vlk.hubOn s7 = true then Vlk.age s7 else s7) := by
    split
    · apply Vlk_age_moves <;> assumption
    · exact e7
  have e9 : Moves W s₀ (Vlk.sendFrames (if Vlk.hubOn s7 = true then Vlk.age s7 else s7)) := by
    apply Vlk_sendFrames_moves <;> assumption
  apply Frm_note_moves <;> assumption

end Sys2Proof.Laws
end

