-- ==== Sys2Proof/Laws/MovesLcm.lean ====
section
/-! SUPPORT. Sys2Proof/Laws/MovesLcm.lean: what each operation of Machine/Lcm.lean may write (Laws/Moves.lean). -/
namespace Sys2Proof.Laws
open Sys2Proof Sys2Proof.Machine

theorem Lcm_refuse_moves {W : Part → Prop} {s₀ s : State} (h0 : W (.fld F.LCM_INT_CAUSE_REFUSED)) (h1 : W (.fld F.LCM_STAT_ERR)) (a0 : Nat) (h : Moves W s₀ s) :
    Moves W s₀ (Sys2Proof.Machine.Lcm.refuse a0 s) := by
  unfold Sys2Proof.Machine.Lcm.refuse
  repeat' (first
    | with_reducible assumption
    | with_reducible apply Moves.put
    | with_reducible apply Moves.set
    | intro _)

theorem Lcm_renew_moves {W : Part → Prop} {s₀ s : State} (h0 : W (.fld F.LCM_CHALLENGE_VAL)) (h1 : W (.fld H.LCM_CHAL_AGE)) (h : Moves W s₀ s) :
    Moves W s₀ (Sys2Proof.Machine.Lcm.renew s) := by
  unfold Sys2Proof.Machine.Lcm.renew
  repeat' (first
    | with_reducible assumption
    | with_reducible apply Moves.clr
    | with_reducible apply Moves.drew
    | with_reducible apply Moves.each
    | with_reducible apply Moves.put
    | intro _)

theorem Lcm_readChallenge_moves {W : Part → Prop} {s₀ s : State} (h0 : W (.fld F.LCM_CHALLENGE_VAL)) (h1 : W (.fld H.LCM_CHAL_AGE)) (h : Moves W s₀ s) :
    Moves W s₀ (Sys2Proof.Machine.Lcm.readChallenge s).2 := by
  unfold Sys2Proof.Machine.Lcm.readChallenge
  repeat' (first
    | with_reducible assumption
    | with_reducible apply Lcm_renew_moves
    | intro _
    | split
    | (extract_lets +onlyGivenNames x; first
      | (refine Moves.keep (W := W) (s₀ := s₀) x ?_ ?_; rotate_left; intro hx; clear_value x; rotate_right)
      | (refine Moves.keep (W := W) (s₀ := s₀) x.2 ?_ ?_; rotate_left; intro hx; clear_value x; rotate_right)
      | (refine Moves.keep (W := W) (s₀ := s₀) x.1 ?_ ?_; rotate_left; intro hx; clear_value x; rotate_right)
      | skip))

theorem Lcm_transition_moves {W : Part → Prop} {s₀ s : State} (h0 : W (.fld F.LCM_CHALLENGE_VAL)) (h1 : W (.fld F.LCM_INT_CAUSE_REFUSED)) (h2 : W (.fld F.LCM_STAT_BUSY)) (h3 : W (.fld F.LCM_STAT_ERR)) (h4 : W (.fld H.LCM_CHAL_AGE)) (h5 : W (.fld H.LCM_TARGET)) (a0 : Nat) (a1 : Nat) (h : Moves W s₀ s) :
    Moves W s₀ (Sys2Proof.Machine.Lcm.transition a0 a1 s) := by
  unfold Sys2Proof.Machine.Lcm.transition
  repeat' (first
    | with_reducible assumption
    | with_reducible apply Moves.clr
    | with_reducible apply Moves.put
    | with_reducible apply Moves.set
    | with_reducible apply Lcm_refuse_moves
    | with_reducible apply Lcm_renew_moves
    | intro _
    | split
    | (extract_lets +onlyGivenNames x; first
      | (refine Moves.keep (W := W) (s₀ := s₀) x ?_ ?_; rotate_left; intro hx; clear_value x; rotate_right)
      | (refine Moves.keep (W := W) (s₀ := s₀) x.2 ?_ ?_; rotate_left; intro hx; clear_value x; rotate_right)
      | (refine Moves.keep (W := W) (s₀ := s₀) x.1 ?_ ?_; rotate_left; intro hx; clear_value x; rotate_right)
      | skip))

theorem Lcm_fuseDone_moves {W : Part → Prop} {s₀ s : State} (h0 : W .qdr) (h1 : W (.arr H.CRY_CAND)) (h2 : W (.arr H.CRY_CUR)) (h3 : W (.arr H.CRY_KEY)) (h4 : W (.arr H.CRY_LAST)) (h5 : W (.arr H.CRY_LAST_SEQ)) (h6 : W (.arr H.CRY_NEXT)) (h7 : W (.arr H.CRY_RUN_MASK)) (h8 : W (.arr H.CRY_RUN_PART)) (h9 : W (.arr H.CRY_RUN_SEQ)) (h10 : W (.arr H.CRY_RX_PH)) (h11 : W (.arr H.CRY_SALT)) (h12 : W (.arr H.CRY_SYNC)) (h13 : W (.arr H.CRY_U)) (h14 : W (.arr H.CRY_VALID)) (h15 : W (.arr H.CRY_WIN)) (h16 : W (.fld F.BST_INT_CAUSE_DONE)) (h17 : W (.fld F.BST_INT_CAUSE_SAFE)) (h18 : W (.fld F.BST_RESULT_RESULT)) (h19 : W (.fld F.BST_STAT_BUSY)) (h20 : W (.fld F.BST_STAT_SAFE)) (h21 : W (.fld F.CAL_DEFERRED_VAL)) (h22 : W (.fld F.CAL_STAT_STATE)) (h23 : W (.fld F.CAL_STAT_TYPE)) (h24 : W (.fld F.CRY_ERASE_STAT_ALARM_NOW)) (h25 : W (.fld F.CRY_ERASE_STAT_CAUSE)) (h26 : W (.fld F.CRY_ERASE_STAT_COUNT)) (h27 : W (.fld F.CRY_INT_CAUSE_ERASED)) (h28 : W (.fld F.CRY_KEY_DATA_KEY)) (h29 : W (.fld F.CRY_KEY_SALT_SALT)) (h30 : W (.fld F.CRY_LOCK_STAT_LOCK_BROKEN)) (h31 : W (.fld F.CRY_LOCK_STAT_OWNER)) (h32 : W (.fld F.HKA_STAT_CAL_HOLD)) (h33 : W (.fld F.HKA_STAT_INJ_PEND)) (h34 : W (.fld F.HKA_STAT_STATE)) (h35 : W (.fld F.LCM_INT_CAUSE_DONE)) (h36 : W (.fld F.LCM_STATE_STATE)) (h37 : W (.fld F.LCM_STAT_BUSY)) (h38 : W (.fld F.LSR_STAT_HOLD)) (h39 : W (.fld F.LSR_STAT_LASER_EN)) (h40 : W (.fld F.LTX_STAT_MUTE_SRC)) (h41 : W (.fld F.PMC_INT_CAUSE_OVF)) (h42 : W (.fld F.PMC_INT_CAUSE_SMP_AVAIL)) (h43 : W (.fld F.PMC_INT_CAUSE_SMP_DROP)) (h44 : W (.fld F.PMC_OVF_STAT_OVF)) (h45 : W (.fld F.PMC_SMP_DROP_RING)) (h46 : W (.fld F.PMC_SMP_STAT_COUNT)) (h47 : W (.fld H.BST_TODO)) (h48 : W (.fld H.BST_WAITING)) (h49 : W (.fld H.CAL_AUTO_PEND)) (h50 : W (.fld H.CAL_HOST)) (h51 : W (.fld H.CAL_PASSED)) (h52 : W (.fld H.CAL_T0)) (h53 : W (.fld H.CAL_TEMP0)) (h54 : W (.fld H.CRY_RESULT)) (h55 : W (.fld H.ENG_DMEM)) (h56 : W (.fld H.ENG_IMEM)) (h57 : W (.fld H.HKA_CAL_WAIT)) (h58 : W (.fld H.HKA_CUR)) (h59 : W (.fld H.HKA_RUN)) (h60 : W (.fld H.HKA_SEQ_STATE)) (h61 : W (.fld H.HKA_TICKS)) (h62 : W (.fld H.LTX_OUTPUT)) (h63 : W (.fld H.PMC_CNT)) (h64 : W (.fld H.PMC_OVF_DUE)) (h65 : W (.fld H.PMC_OVF_T)) (h66 : W (.fld H.PMC_RING)) (h67 : W (.fld H.PMC_TRACE_POS)) (h : Moves W s₀ s) :
    Moves W s₀ (Sys2Proof.Machine.Lcm.fuseDone s).2 := by
  unfold Sys2Proof.Machine.Lcm.fuseDone
  repeat' (first
    | with_reducible assumption
    | with_reducible apply Moves.clr
    | with_reducible apply Moves.put
    | with_reducible apply Moves.set
    | with_reducible apply Bst_abort_moves
    | with_reducible apply Lsr_laser_moves
    | with_reducible apply Bst_refresh_moves
    | with_reducible apply Cry_erasure_moves
    | intro _
    | split
    | (extract_lets +onlyGivenNames x; first
      | (refine Moves.keep (W := W) (s₀ := s₀) x ?_ ?_; rotate_left; intro hx; clear_value x; rotate_right)
      | (refine Moves.keep (W := W) (s₀ := s₀) x.2 ?_ ?_; rotate_left; intro hx; clear_value x; rotate_right)
      | (refine Moves.keep (W := W) (s₀ := s₀) x.1 ?_ ?_; rotate_left; intro hx; clear_value x; rotate_right)
      | skip))

theorem Lcm_keyCommit_moves {W : Part → Prop} {s₀ s : State} (h0 : W (.fld F.LCM_INT_CAUSE_REFUSED)) (h1 : W (.fld F.LCM_KEY_STAT_WRITTEN)) (h2 : W (.fld F.LCM_STAT_ERR)) (h3 : W (.fld H.LCM_FUSE_HASH)) (a0 : Nat) (h : Moves W s₀ s) :
    Moves W s₀ (Sys2Proof.Machine.Lcm.keyCommit a0 s) := by
  unfold Sys2Proof.Machine.Lcm.keyCommit
  repeat' (first
    | with_reducible assumption
    | with_reducible apply Moves.each
    | with_reducible apply Moves.put
    | with_reducible apply Moves.setBit
    | with_reducible apply Lcm_refuse_moves
    | intro _
    | split
    | (extract_lets +onlyGivenNames x; first
      | (refine Moves.keep (W := W) (s₀ := s₀) x ?_ ?_; rotate_left; intro hx; clear_value x; rotate_right)
      | (refine Moves.keep (W := W) (s₀ := s₀) x.2 ?_ ?_; rotate_left; intro hx; clear_value x; rotate_right)
      | (refine Moves.keep (W := W) (s₀ := s₀) x.1 ?_ ?_; rotate_left; intro hx; clear_value x; rotate_right)
      | skip))

theorem Lcm_keyRevoke_moves {W : Part → Prop} {s₀ s : State} (h0 : W (.fld F.LCM_INT_CAUSE_REFUSED)) (h1 : W (.fld F.LCM_KEY_STAT_REVOKED)) (h2 : W (.fld F.LCM_STAT_ERR)) (a0 : Nat) (h : Moves W s₀ s) :
    Moves W s₀ (Sys2Proof.Machine.Lcm.keyRevoke a0 s) := by
  unfold Sys2Proof.Machine.Lcm.keyRevoke
  repeat' (first
    | with_reducible assumption
    | with_reducible apply Moves.setBit
    | with_reducible apply Lcm_refuse_moves
    | intro _
    | split)

theorem Lcm_writeKeyCtrl_moves {W : Part → Prop} {s₀ s : State} (h0 : W (.fld F.LCM_INT_CAUSE_REFUSED)) (h1 : W (.fld F.LCM_KEY_CTRL_SLOT)) (h2 : W (.fld F.LCM_KEY_STAT_REVOKED)) (h3 : W (.fld F.LCM_KEY_STAT_WRITTEN)) (h4 : W (.fld F.LCM_STAT_ERR)) (h5 : W (.fld H.LCM_FUSE_HASH)) (a0 : Nat) (h : Moves W s₀ s) :
    Moves W s₀ (Sys2Proof.Machine.Lcm.writeKeyCtrl a0 s) := by
  unfold Sys2Proof.Machine.Lcm.writeKeyCtrl
  repeat' (first
    | with_reducible assumption
    | with_reducible apply Moves.put
    | with_reducible apply Lcm_keyCommit_moves
    | with_reducible apply Lcm_keyRevoke_moves
    | intro _
    | split
    | (extract_lets +onlyGivenNames x; first
      | (refine Moves.keep (W := W) (s₀ := s₀) x ?_ ?_; rotate_left; intro hx; clear_value x; rotate_right)
      | (refine Moves.keep (W := W) (s₀ := s₀) x.2 ?_ ?_; rotate_left; intro hx; clear_value x; rotate_right)
      | (refine Moves.keep (W := W) (s₀ := s₀) x.1 ?_ ?_; rotate_left; intro hx; clear_value x; rotate_right)
      | skip))

theorem Lcm_writeKeyHash_moves {W : Part → Prop} {s₀ s : State} (h0 : W (.fld F.LCM_KEY_HASH_DATA)) (a0 : Nat) (a1 : Nat) (a2 : Nat) (h : Moves W s₀ s) :
    Moves W s₀ (Sys2Proof.Machine.Lcm.writeKeyHash a0 a1 a2 s) := by
  unfold Sys2Proof.Machine.Lcm.writeKeyHash
  repeat' (first
    | with_reducible assumption
    | with_reducible apply Moves.put
    | intro _
    | split)

theorem Lcm_readFuses_moves {W : Part → Prop} {s₀ s : State} (h0 : W (.fld F.LCM_CHALLENGE_VAL)) (h1 : W (.fld F.LCM_KEY_HASH_DATA)) (h2 : W (.fld H.LCM_CHAL_AGE)) (h : Moves W s₀ s) :
    Moves W s₀ (Sys2Proof.Machine.Lcm.readFuses s) := by
  unfold Sys2Proof.Machine.Lcm.readFuses
  repeat' (first
    | with_reducible assumption
    | with_reducible apply Moves.each
    | with_reducible apply Moves.put
    | with_reducible apply Lcm_renew_moves
    | intro _)

end Sys2Proof.Laws
end

