-- ==== Sys2Proof/Laws/MovesSyn.lean ====
section
/-! SUPPORT. Sys2Proof/Laws/MovesSyn.lean: what each operation of Machine/Syn.lean may write (Laws/Moves.lean). -/
namespace Sys2Proof.Laws
open Sys2Proof Sys2Proof.Machine

theorem Syn_setInput_moves {W : Part → Prop} {s₀ s : State} (h0 : W .syn) (a0 : Nat) (a1 : Sys2Proof.Machine.SynInput) (h : Moves W s₀ s) :
    Moves W s₀ (Sys2Proof.Machine.Syn.setInput a0 a1 s) := by
  unfold Sys2Proof.Machine.Syn.setInput
  repeat' (first
    | with_reducible assumption
    | intro _
    | (extract_lets +onlyGivenNames x; first
      | (refine Moves.keep (W := W) (s₀ := s₀) x ?_ ?_; rotate_left; intro hx; clear_value x; rotate_right)
      | (refine Moves.keep (W := W) (s₀ := s₀) x.2 ?_ ?_; rotate_left; intro hx; clear_value x; rotate_right)
      | (refine Moves.keep (W := W) (s₀ := s₀) x.1 ?_ ?_; rotate_left; intro hx; clear_value x; rotate_right)
      | skip)
    | (with_reducible refine Moves.syn _ ?_ ?_ <;> with_reducible first
      | assumption))

theorem Syn_passQl_moves {W : Part → Prop} {s₀ s : State} (h0 : W (.fld H.SYN_QL_SENT)) (h : Moves W s₀ s) :
    Moves W s₀ (Sys2Proof.Machine.Syn.passQl s) := by
  unfold Sys2Proof.Machine.Syn.passQl
  repeat' (first
    | with_reducible assumption
    | with_reducible apply Moves.emit
    | with_reducible apply Moves.put
    | intro _
    | split)

theorem Syn_refresh_moves {W : Part → Prop} {s₀ s : State} (h0 : W (.fld F.SYN_INT_CAUSE_QL_CHG)) (h1 : W (.fld F.SYN_REF_STAT_ELIGIBLE)) (h2 : W (.fld F.SYN_REF_STAT_QL_EFF)) (h3 : W (.fld F.SYN_STAT_OUT_QL)) (h4 : W (.fld F.SYN_STAT_SEL_QL)) (h5 : W (.fld H.SYN_LINE_OK)) (h6 : W (.fld H.SYN_OUT_RUN)) (h7 : W (.fld H.SYN_QL_SENT)) (h : Moves W s₀ s) :
    Moves W s₀ (Sys2Proof.Machine.Syn.refresh s) := by
  unfold Sys2Proof.Machine.Syn.refresh
  repeat' (first
    | with_reducible assumption
    | with_reducible apply Moves.each
    | with_reducible apply Moves.put
    | with_reducible apply Moves.set
    | with_reducible apply Syn_passQl_moves
    | intro _
    | split
    | (extract_lets +onlyGivenNames x; first
      | (refine Moves.keep (W := W) (s₀ := s₀) x ?_ ?_; rotate_left; intro hx; clear_value x; rotate_right)
      | (refine Moves.keep (W := W) (s₀ := s₀) x.2 ?_ ?_; rotate_left; intro hx; clear_value x; rotate_right)
      | (refine Moves.keep (W := W) (s₀ := s₀) x.1 ?_ ?_; rotate_left; intro hx; clear_value x; rotate_right)
      | skip))

theorem Syn_peerQl_moves {W : Part → Prop} {s₀ s : State} (h0 : W (.fld F.SYN_INT_CAUSE_QL_CHG)) (h1 : W (.fld F.SYN_REF_STAT_ELIGIBLE)) (h2 : W (.fld F.SYN_REF_STAT_QL_EFF)) (h3 : W (.fld F.SYN_STAT_OUT_QL)) (h4 : W (.fld F.SYN_STAT_SEL_QL)) (h5 : W (.fld H.SYN_LINE_OK)) (h6 : W (.fld H.SYN_OUT_RUN)) (h7 : W (.fld H.SYN_PEER_QL)) (h8 : W (.fld H.SYN_QL_SENT)) (a0 : Nat) (h : Moves W s₀ s) :
    Moves W s₀ (Sys2Proof.Machine.Syn.peerQl a0 s) := by
  unfold Sys2Proof.Machine.Syn.peerQl
  repeat' (first
    | with_reducible assumption
    | with_reducible apply Moves.put
    | with_reducible apply Syn_refresh_moves
    | intro _
    | split)

theorem Syn_dropQuarantine_moves {W : Part → Prop} {s₀ s : State} (h0 : W .syn) (h : Moves W s₀ s) :
    Moves W s₀ (Sys2Proof.Machine.Syn.dropQuarantine s) := by
  unfold Sys2Proof.Machine.Syn.dropQuarantine
  repeat' (first
    | with_reducible assumption
    | intro _
    | (extract_lets +onlyGivenNames x; first
      | (refine Moves.keep (W := W) (s₀ := s₀) x ?_ ?_; rotate_left; intro hx; clear_value x; rotate_right)
      | (refine Moves.keep (W := W) (s₀ := s₀) x.2 ?_ ?_; rotate_left; intro hx; clear_value x; rotate_right)
      | (refine Moves.keep (W := W) (s₀ := s₀) x.1 ?_ ?_; rotate_left; intro hx; clear_value x; rotate_right)
      | skip)
    | (with_reducible refine Moves.syn _ ?_ ?_ <;> with_reducible first
      | assumption))

theorem Syn_setLoop_moves {W : Part → Prop} {s₀ s : State} (h0 : W .syn) (h1 : W (.fld F.SYN_INT_CAUSE_LOOP_CHG)) (h2 : W (.fld F.SYN_STAT_LOOP)) (h3 : W (.fld H.SYN_LOCK_FULL)) (a0 : Nat) (h : Moves W s₀ s) :
    Moves W s₀ (Sys2Proof.Machine.Syn.setLoop a0 s) := by
  unfold Sys2Proof.Machine.Syn.setLoop
  repeat' (first
    | with_reducible assumption
    | with_reducible apply Moves.clr
    | with_reducible apply Moves.put
    | with_reducible apply Moves.set
    | with_reducible apply Syn_dropQuarantine_moves
    | intro _
    | split
    | (extract_lets +onlyGivenNames x; first
      | (refine Moves.keep (W := W) (s₀ := s₀) x ?_ ?_; rotate_left; intro hx; clear_value x; rotate_right)
      | (refine Moves.keep (W := W) (s₀ := s₀) x.2 ?_ ?_; rotate_left; intro hx; clear_value x; rotate_right)
      | (refine Moves.keep (W := W) (s₀ := s₀) x.1 ?_ ?_; rotate_left; intro hx; clear_value x; rotate_right)
      | skip))

theorem Syn_coast_moves {W : Part → Prop} {s₀ s : State} (h0 : W .syn) (h1 : W (.fld F.SYN_INT_CAUSE_LOOP_CHG)) (h2 : W (.fld F.SYN_STAT_LOOP)) (h3 : W (.fld H.SYN_LOCK_FULL)) (h : Moves W s₀ s) :
    Moves W s₀ (Sys2Proof.Machine.Syn.coast s) := by
  unfold Sys2Proof.Machine.Syn.coast
  repeat' (first
    | with_reducible assumption
    | with_reducible apply Syn_setLoop_moves
    | intro _
    | split)

theorem Syn_unlocked_moves {W : Part → Prop} {s₀ s : State} (h0 : W .syn) (h1 : W (.fld F.SYN_INT_CAUSE_LOOP_CHG)) (h2 : W (.fld F.SYN_STAT_LOOP)) (h3 : W (.fld H.SYN_LOCK_FULL)) (h : Moves W s₀ s) :
    Moves W s₀ (Sys2Proof.Machine.Syn.unlocked s) := by
  unfold Sys2Proof.Machine.Syn.unlocked
  repeat' (first
    | with_reducible assumption
    | with_reducible apply Syn_coast_moves
    | intro _
    | split)

theorem Syn_setSel_moves {W : Part → Prop} {s₀ s : State} (h0 : W .syn) (h1 : W (.fld F.SYN_INT_CAUSE_SEL_CHG)) (h2 : W (.fld F.SYN_STAT_SEL)) (a0 : Nat) (h : Moves W s₀ s) :
    Moves W s₀ (Sys2Proof.Machine.Syn.setSel a0 s) := by
  unfold Sys2Proof.Machine.Syn.setSel
  repeat' (first
    | with_reducible assumption
    | with_reducible apply Moves.put
    | with_reducible apply Moves.set
    | with_reducible apply Syn_dropQuarantine_moves
    | intro _
    | split)

theorem Syn_judgeDisagreement_moves {W : Part → Prop} {s₀ s : State} (h0 : W (.fld F.SYN_INT_CAUSE_REF_DISAGREE)) (h1 : W (.fld F.SYN_REF_STAT_DISAGREE)) (h : Moves W s₀ s) :
    Moves W s₀ (Sys2Proof.Machine.Syn.judgeDisagreement s) := by
  unfold Sys2Proof.Machine.Syn.judgeDisagreement
  repeat' (first
    | with_reducible assumption
    | with_reducible apply Moves.each
    | with_reducible apply Moves.put
    | with_reducible apply Moves.set
    | intro _
    | split
    | (extract_lets +onlyGivenNames x; first
      | (refine Moves.keep (W := W) (s₀ := s₀) x ?_ ?_; rotate_left; intro hx; clear_value x; rotate_right)
      | (refine Moves.keep (W := W) (s₀ := s₀) x.2 ?_ ?_; rotate_left; intro hx; clear_value x; rotate_right)
      | (refine Moves.keep (W := W) (s₀ := s₀) x.1 ?_ ?_; rotate_left; intro hx; clear_value x; rotate_right)
      | skip))

theorem Syn_follow_moves {W : Part → Prop} {s₀ s : State} (h0 : W .syn) (h1 : W (.fld F.SYN_INT_CAUSE_LOOP_CHG)) (h2 : W (.fld F.SYN_STAT_LOOP)) (h3 : W (.fld H.SYN_LOCK_FULL)) (a0 : Bool) (h : Moves W s₀ s) :
    Moves W s₀ (Sys2Proof.Machine.Syn.follow a0 s) := by
  unfold Sys2Proof.Machine.Syn.follow
  repeat' (first
    | with_reducible assumption
    | with_reducible apply Syn_setLoop_moves
    | with_reducible apply Syn_coast_moves
    | with_reducible apply Syn_unlocked_moves
    | intro _
    | split)

theorem Syn_selection_moves {W : Part → Prop} {s₀ s : State} (h0 : W .syn) (h1 : W (.fld F.SYN_INT_CAUSE_LOOP_CHG)) (h2 : W (.fld F.SYN_INT_CAUSE_QL_CHG)) (h3 : W (.fld F.SYN_INT_CAUSE_SEL_CHG)) (h4 : W (.fld F.SYN_REF_STAT_ELIGIBLE)) (h5 : W (.fld F.SYN_REF_STAT_QL_EFF)) (h6 : W (.fld F.SYN_STAT_LOOP)) (h7 : W (.fld F.SYN_STAT_OUT_QL)) (h8 : W (.fld F.SYN_STAT_SEL)) (h9 : W (.fld F.SYN_STAT_SEL_QL)) (h10 : W (.fld H.SYN_LINE_OK)) (h11 : W (.fld H.SYN_LOCK_FULL)) (h12 : W (.fld H.SYN_OUT_RUN)) (h13 : W (.fld H.SYN_QL_SENT)) (h : Moves W s₀ s) :
    Moves W s₀ (Sys2Proof.Machine.Syn.selection s) := by
  unfold Sys2Proof.Machine.Syn.selection
  repeat' (first
    | with_reducible assumption
    | with_reducible apply Syn_refresh_moves
    | with_reducible apply Syn_follow_moves
    | with_reducible apply Syn_setSel_moves
    | intro _
    | split
    | (extract_lets +onlyGivenNames x; first
      | (refine Moves.keep (W := W) (s₀ := s₀) x ?_ ?_; rotate_left; intro hx; clear_value x; rotate_right)
      | (refine Moves.keep (W := W) (s₀ := s₀) x.2 ?_ ?_; rotate_left; intro hx; clear_value x; rotate_right)
      | (refine Moves.keep (W := W) (s₀ := s₀) x.1 ?_ ?_; rotate_left; intro hx; clear_value x; rotate_right)
      | skip))

theorem Syn_loopLock_moves {W : Part → Prop} {s₀ s : State} (h0 : W .syn) (h1 : W (.fld F.SYN_INT_CAUSE_LOOP_CHG)) (h2 : W (.fld F.SYN_INT_CAUSE_QL_CHG)) (h3 : W (.fld F.SYN_REF_STAT_ELIGIBLE)) (h4 : W (.fld F.SYN_REF_STAT_QL_EFF)) (h5 : W (.fld F.SYN_STAT_LOOP)) (h6 : W (.fld F.SYN_STAT_OUT_QL)) (h7 : W (.fld F.SYN_STAT_SEL_QL)) (h8 : W (.fld H.SYN_LINE_OK)) (h9 : W (.fld H.SYN_LOCK_FULL)) (h10 : W (.fld H.SYN_OUT_RUN)) (h11 : W (.fld H.SYN_QL_SENT)) (h : Moves W s₀ s) :
    Moves W s₀ (Sys2Proof.Machine.Syn.loopLock s) := by
  unfold Sys2Proof.Machine.Syn.loopLock
  repeat' (first
    | with_reducible assumption
    | with_reducible apply Syn_refresh_moves
    | with_reducible apply Syn_setLoop_moves
    | intro _
    | split)

theorem Syn_setState_moves {W : Part → Prop} {s₀ s : State} (h0 : W .syn) (h1 : W (.fld F.SYN_INT_CAUSE_REF_DQ)) (h2 : W (.fld F.SYN_INT_CAUSE_REF_DRIFT)) (h3 : W (.fld F.SYN_INT_CAUSE_REF_FAIL)) (h4 : W (.fld F.SYN_INT_CAUSE_REF_QUAL)) (h5 : W (.fld F.SYN_REF_STAT_STATE)) (h6 : W (.fld F.SYN_REF_STAT_WTR_LEFT)) (h7 : W (.fld H.SYN_GOOD)) (h8 : W (.fld H.SYN_LOCK_FULL)) (h9 : W (.fld H.SYN_OVER)) (h10 : W (.fld H.SYN_OVER2)) (a0 : Nat) (a1 : Nat) (h : Moves W s₀ s) :
    Moves W s₀ (Sys2Proof.Machine.Syn.setState a0 a1 s) := by
  unfold Sys2Proof.Machine.Syn.setState
  repeat' (first
    | with_reducible assumption
    | with_reducible apply Moves.clr
    | with_reducible apply Moves.put
    | with_reducible apply Moves.set
    | with_reducible apply Syn_dropQuarantine_moves
    | with_reducible apply Syn_setInput_moves
    | intro _
    | split
    | (extract_lets +onlyGivenNames x; first
      | (refine Moves.keep (W := W) (s₀ := s₀) x ?_ ?_; rotate_left; intro hx; clear_value x; rotate_right)
      | (refine Moves.keep (W := W) (s₀ := s₀) x.2 ?_ ?_; rotate_left; intro hx; clear_value x; rotate_right)
      | (refine Moves.keep (W := W) (s₀ := s₀) x.1 ?_ ?_; rotate_left; intro hx; clear_value x; rotate_right)
      | skip))

theorem Syn_refFail_moves {W : Part → Prop} {s₀ s : State} (h0 : W .syn) (h1 : W (.fld F.SYN_INT_CAUSE_LOOP_CHG)) (h2 : W (.fld F.SYN_INT_CAUSE_QL_CHG)) (h3 : W (.fld F.SYN_INT_CAUSE_REF_DQ)) (h4 : W (.fld F.SYN_INT_CAUSE_REF_DRIFT)) (h5 : W (.fld F.SYN_INT_CAUSE_REF_FAIL)) (h6 : W (.fld F.SYN_INT_CAUSE_REF_QUAL)) (h7 : W (.fld F.SYN_INT_CAUSE_SEL_CHG)) (h8 : W (.fld F.SYN_REF_STAT_ELIGIBLE)) (h9 : W (.fld F.SYN_REF_STAT_QL_EFF)) (h10 : W (.fld F.SYN_REF_STAT_STATE)) (h11 : W (.fld F.SYN_REF_STAT_WTR_LEFT)) (h12 : W (.fld F.SYN_STAT_LOOP)) (h13 : W (.fld F.SYN_STAT_OUT_QL)) (h14 : W (.fld F.SYN_STAT_SEL)) (h15 : W (.fld F.SYN_STAT_SEL_QL)) (h16 : W (.fld H.SYN_GOOD)) (h17 : W (.fld H.SYN_LINE_OK)) (h18 : W (.fld H.SYN_LOCK_FULL)) (h19 : W (.fld H.SYN_OUT_RUN)) (h20 : W (.fld H.SYN_OVER)) (h21 : W (.fld H.SYN_OVER2)) (h22 : W (.fld H.SYN_QL_SENT)) (a0 : Nat) (a1 : Nat) (h : Moves W s₀ s) :
    Moves W s₀ (Sys2Proof.Machine.Syn.refFail a0 a1 s) := by
  unfold Sys2Proof.Machine.Syn.refFail
  repeat' (first
    | with_reducible assumption
    | with_reducible apply Syn_refresh_moves
    | with_reducible apply Syn_setState_moves
    | with_reducible apply Syn_unlocked_moves
    | with_reducible apply Syn_setSel_moves
    | intro _
    | split
    | (extract_lets +onlyGivenNames x; first
      | (refine Moves.keep (W := W) (s₀ := s₀) x ?_ ?_; rotate_left; intro hx; clear_value x; rotate_right)
      | (refine Moves.keep (W := W) (s₀ := s₀) x.2 ?_ ?_; rotate_left; intro hx; clear_value x; rotate_right)
      | (refine Moves.keep (W := W) (s₀ := s₀) x.1 ?_ ?_; rotate_left; intro hx; clear_value x; rotate_right)
      | skip))

theorem Syn_refRestore_moves {W : Part → Prop} {s₀ s : State} (h0 : W .syn) (h1 : W (.fld F.SYN_INT_CAUSE_QL_CHG)) (h2 : W (.fld F.SYN_INT_CAUSE_REF_DQ)) (h3 : W (.fld F.SYN_INT_CAUSE_REF_DRIFT)) (h4 : W (.fld F.SYN_INT_CAUSE_REF_FAIL)) (h5 : W (.fld F.SYN_INT_CAUSE_REF_QUAL)) (h6 : W (.fld F.SYN_REF_STAT_ELIGIBLE)) (h7 : W (.fld F.SYN_REF_STAT_QL_EFF)) (h8 : W (.fld F.SYN_REF_STAT_STATE)) (h9 : W (.fld F.SYN_REF_STAT_WTR_LEFT)) (h10 : W (.fld F.SYN_STAT_OUT_QL)) (h11 : W (.fld F.SYN_STAT_SEL_QL)) (h12 : W (.fld H.SYN_GOOD)) (h13 : W (.fld H.SYN_LINE_OK)) (h14 : W (.fld H.SYN_LOCK_FULL)) (h15 : W (.fld H.SYN_OUT_RUN)) (h16 : W (.fld H.SYN_OVER)) (h17 : W (.fld H.SYN_OVER2)) (h18 : W (.fld H.SYN_QL_SENT)) (a0 : Nat) (h : Moves W s₀ s) :
    Moves W s₀ (Sys2Proof.Machine.Syn.refRestore a0 s) := by
  unfold Sys2Proof.Machine.Syn.refRestore
  repeat' (first
    | with_reducible assumption
    | with_reducible apply Syn_refresh_moves
    | with_reducible apply Syn_setState_moves
    | intro _
    | split
    | (extract_lets +onlyGivenNames x; first
      | (refine Moves.keep (W := W) (s₀ := s₀) x ?_ ?_; rotate_left; intro hx; clear_value x; rotate_right)
      | (refine Moves.keep (W := W) (s₀ := s₀) x.2 ?_ ?_; rotate_left; intro hx; clear_value x; rotate_right)
      | (refine Moves.keep (W := W) (s₀ := s₀) x.1 ?_ ?_; rotate_left; intro hx; clear_value x; rotate_right)
      | skip))

theorem Syn_wtrComplete_moves {W : Part → Prop} {s₀ s : State} (h0 : W .syn) (h1 : W (.fld F.SYN_INT_CAUSE_QL_CHG)) (h2 : W (.fld F.SYN_INT_CAUSE_REF_DQ)) (h3 : W (.fld F.SYN_INT_CAUSE_REF_DRIFT)) (h4 : W (.fld F.SYN_INT_CAUSE_REF_FAIL)) (h5 : W (.fld F.SYN_INT_CAUSE_REF_QUAL)) (h6 : W (.fld F.SYN_REF_STAT_ELIGIBLE)) (h7 : W (.fld F.SYN_REF_STAT_QL_EFF)) (h8 : W (.fld F.SYN_REF_STAT_STATE)) (h9 : W (.fld F.SYN_REF_STAT_WTR_LEFT)) (h10 : W (.fld F.SYN_STAT_OUT_QL)) (h11 : W (.fld F.SYN_STAT_SEL_QL)) (h12 : W (.fld H.SYN_GOOD)) (h13 : W (.fld H.SYN_LINE_OK)) (h14 : W (.fld H.SYN_LOCK_FULL)) (h15 : W (.fld H.SYN_OUT_RUN)) (h16 : W (.fld H.SYN_OVER)) (h17 : W (.fld H.SYN_OVER2)) (h18 : W (.fld H.SYN_QL_SENT)) (a0 : Nat) (h : Moves W s₀ s) :
    Moves W s₀ (Sys2Proof.Machine.Syn.wtrComplete a0 s) := by
  unfold Sys2Proof.Machine.Syn.wtrComplete
  repeat' (first
    | with_reducible assumption
    | with_reducible apply Syn_refresh_moves
    | with_reducible apply Syn_setState_moves
    | with_reducible apply Syn_setInput_moves
    | intro _
    | split
    | (extract_lets +onlyGivenNames x; first
      | (refine Moves.keep (W := W) (s₀ := s₀) x ?_ ?_; rotate_left; intro hx; clear_value x; rotate_right)
      | (refine Moves.keep (W := W) (s₀ := s₀) x.2 ?_ ?_; rotate_left; intro hx; clear_value x; rotate_right)
      | (refine Moves.keep (W := W) (s₀ := s₀) x.1 ?_ ?_; rotate_left; intro hx; clear_value x; rotate_right)
      | skip))

theorem Syn_driftWatchEnd_moves {W : Part → Prop} {s₀ s : State} (h0 : W .syn) (h1 : W (.fld F.SYN_INT_CAUSE_QL_CHG)) (h2 : W (.fld F.SYN_INT_CAUSE_REF_DQ)) (h3 : W (.fld F.SYN_INT_CAUSE_REF_DRIFT)) (h4 : W (.fld F.SYN_INT_CAUSE_REF_FAIL)) (h5 : W (.fld F.SYN_INT_CAUSE_REF_QUAL)) (h6 : W (.fld F.SYN_REF_STAT_ELIGIBLE)) (h7 : W (.fld F.SYN_REF_STAT_QL_EFF)) (h8 : W (.fld F.SYN_REF_STAT_STATE)) (h9 : W (.fld F.SYN_REF_STAT_WTR_LEFT)) (h10 : W (.fld F.SYN_STAT_OUT_QL)) (h11 : W (.fld F.SYN_STAT_SEL_QL)) (h12 : W (.fld H.SYN_GOOD)) (h13 : W (.fld H.SYN_LINE_OK)) (h14 : W (.fld H.SYN_LOCK_FULL)) (h15 : W (.fld H.SYN_OUT_RUN)) (h16 : W (.fld H.SYN_OVER)) (h17 : W (.fld H.SYN_OVER2)) (h18 : W (.fld H.SYN_QL_SENT)) (a0 : Nat) (h : Moves W s₀ s) :
    Moves W s₀ (Sys2Proof.Machine.Syn.driftWatchEnd a0 s) := by
  unfold Sys2Proof.Machine.Syn.driftWatchEnd
  repeat' (first
    | with_reducible assumption
    | with_reducible apply Syn_refresh_moves
    | with_reducible apply Syn_setState_moves
    | intro _
    | split)

theorem Syn_refDq_moves {W : Part → Prop} {s₀ s : State} (h0 : W .syn) (h1 : W (.fld F.SYN_INT_CAUSE_QL_CHG)) (h2 : W (.fld F.SYN_INT_CAUSE_REF_DQ)) (h3 : W (.fld F.SYN_INT_CAUSE_REF_DRIFT)) (h4 : W (.fld F.SYN_INT_CAUSE_REF_FAIL)) (h5 : W (.fld F.SYN_INT_CAUSE_REF_QUAL)) (h6 : W (.fld F.SYN_REF_STAT_ELIGIBLE)) (h7 : W (.fld F.SYN_REF_STAT_QL_EFF)) (h8 : W (.fld F.SYN_REF_STAT_STATE)) (h9 : W (.fld F.SYN_REF_STAT_WTR_LEFT)) (h10 : W (.fld F.SYN_STAT_OUT_QL)) (h11 : W (.fld F.SYN_STAT_SEL_QL)) (h12 : W (.fld H.SYN_GOOD)) (h13 : W (.fld H.SYN_LINE_OK)) (h14 : W (.fld H.SYN_LOCK_FULL)) (h15 : W (.fld H.SYN_OUT_RUN)) (h16 : W (.fld H.SYN_OVER)) (h17 : W (.fld H.SYN_OVER2)) (h18 : W (.fld H.SYN_QL_SENT)) (a0 : Nat) (h : Moves W s₀ s) :
    Moves W s₀ (Sys2Proof.Machine.Syn.refDq a0 s) := by
  unfold Sys2Proof.Machine.Syn.refDq
  repeat' (first
    | with_reducible assumption
    | with_reducible apply Syn_refresh_moves
    | with_reducible apply Syn_setState_moves
    | intro _
    | split
    | (extract_lets +onlyGivenNames x; first
      | (refine Moves.keep (W := W) (s₀ := s₀) x ?_ ?_; rotate_left; intro hx; clear_value x; rotate_right)
      | (refine Moves.keep (W := W) (s₀ := s₀) x.2 ?_ ?_; rotate_left; intro hx; clear_value x; rotate_right)
      | (refine Moves.keep (W := W) (s₀ := s₀) x.1 ?_ ?_; rotate_left; intro hx; clear_value x; rotate_right)
      | skip))

theorem Syn_qlTimeout_moves {W : Part → Prop} {s₀ s : State} (h0 : W (.fld F.SYN_INT_CAUSE_QL_CHG)) (h1 : W (.fld F.SYN_INT_CAUSE_QL_TMO)) (h2 : W (.fld F.SYN_REF_STAT_ELIGIBLE)) (h3 : W (.fld F.SYN_REF_STAT_QL_EFF)) (h4 : W (.fld F.SYN_STAT_OUT_QL)) (h5 : W (.fld F.SYN_STAT_SEL_QL)) (h6 : W (.fld H.SYN_LINE_OK)) (h7 : W (.fld H.SYN_OUT_RUN)) (h8 : W (.fld H.SYN_QL_OK)) (h9 : W (.fld H.SYN_QL_SENT)) (a0 : Nat) (a1 : Nat) (h : Moves W s₀ s) :
    Moves W s₀ (Sys2Proof.Machine.Syn.qlTimeout a0 a1 s) := by
  unfold Sys2Proof.Machine.Syn.qlTimeout
  repeat' (first
    | with_reducible assumption
    | with_reducible apply Moves.clr
    | with_reducible apply Moves.set
    | with_reducible apply Syn_refresh_moves
    | intro _
    | split
    | (extract_lets +onlyGivenNames x; first
      | (refine Moves.keep (W := W) (s₀ := s₀) x ?_ ?_; rotate_left; intro hx; clear_value x; rotate_right)
      | (refine Moves.keep (W := W) (s₀ := s₀) x.2 ?_ ?_; rotate_left; intro hx; clear_value x; rotate_right)
      | (refine Moves.keep (W := W) (s₀ := s₀) x.1 ?_ ?_; rotate_left; intro hx; clear_value x; rotate_right)
      | skip))

theorem Syn_writeRefQl_moves {W : Part → Prop} {s₀ s : State} (h0 : W (.fld F.SYN_INT_CAUSE_QL_CHG)) (h1 : W (.fld F.SYN_REF_QL_QL)) (h2 : W (.fld F.SYN_REF_STAT_ELIGIBLE)) (h3 : W (.fld F.SYN_REF_STAT_QL_EFF)) (h4 : W (.fld F.SYN_STAT_OUT_QL)) (h5 : W (.fld F.SYN_STAT_SEL_QL)) (h6 : W (.fld H.SYN_LINE_OK)) (h7 : W (.fld H.SYN_OUT_RUN)) (h8 : W (.fld H.SYN_QL_OK)) (h9 : W (.fld H.SYN_QL_SENT)) (a0 : Nat) (a1 : Nat) (h : Moves W s₀ s) :
    Moves W s₀ (Sys2Proof.Machine.Syn.writeRefQl a0 a1 s) := by
  unfold Sys2Proof.Machine.Syn.writeRefQl
  repeat' (first
    | with_reducible assumption
    | with_reducible apply Moves.put
    | with_reducible apply Moves.set
    | with_reducible apply Syn_refresh_moves
    | intro _
    | split)

theorem Syn_writeCtrl_moves {W : Part → Prop} {s₀ s : State} (h0 : W .syn) (h1 : W (.fld F.SYN_CTRL_BW)) (h2 : W (.fld F.SYN_CTRL_EN)) (h3 : W (.fld F.SYN_CTRL_FORCE_HO)) (h4 : W (.fld F.SYN_CTRL_PBO)) (h5 : W (.fld F.SYN_CTRL_QL_EN)) (h6 : W (.fld F.SYN_CTRL_QL_OPT)) (h7 : W (.fld F.SYN_CTRL_REVERTIVE)) (h8 : W (.fld F.SYN_INT_CAUSE_LOOP_CHG)) (h9 : W (.fld F.SYN_INT_CAUSE_QL_CHG)) (h10 : W (.fld F.SYN_INT_CAUSE_SEL_CHG)) (h11 : W (.fld F.SYN_REF_STAT_ELIGIBLE)) (h12 : W (.fld F.SYN_REF_STAT_QL_EFF)) (h13 : W (.fld F.SYN_STAT_LOOP)) (h14 : W (.fld F.SYN_STAT_OUT_QL)) (h15 : W (.fld F.SYN_STAT_SEL)) (h16 : W (.fld F.SYN_STAT_SEL_QL)) (h17 : W (.fld H.SYN_LINE_OK)) (h18 : W (.fld H.SYN_LOCK_FULL)) (h19 : W (.fld H.SYN_OUT_RUN)) (h20 : W (.fld H.SYN_QL_SENT)) (a0 : Nat) (h : Moves W s₀ s) :
    Moves W s₀ (Sys2Proof.Machine.Syn.writeCtrl a0 s) := by
  unfold Sys2Proof.Machine.Syn.writeCtrl
  repeat' (first
    | with_reducible assumption
    | with_reducible apply Moves.put
    | with_reducible apply Syn_refresh_moves
    | with_reducible apply Syn_setLoop_moves
    | with_reducible apply Syn_setSel_moves
    | with_reducible apply Syn_coast_moves
    | intro _
    | split
    | (extract_lets +onlyGivenNames x; first
      | (refine Moves.keep (W := W) (s₀ := s₀) x ?_ ?_; rotate_left; intro hx; clear_value x; rotate_right)
      | (refine Moves.keep (W := W) (s₀ := s₀) x.2 ?_ ?_; rotate_left; intro hx; clear_value x; rotate_right)
      | (refine Moves.keep (W := W) (s₀ := s₀) x.1 ?_ ?_; rotate_left; intro hx; clear_value x; rotate_right)
      | skip))

theorem Syn_showModel_moves {W : Part → Prop} {s₀ s : State} (h0 : W (.fld F.SYN_HO_FREQ_F)) (h1 : W (.fld F.SYN_HO_STAT_AGE_S)) (h2 : W (.fld F.SYN_HO_STAT_SAMPLES)) (h3 : W (.fld F.SYN_STAT_MODEL_VALID)) (h : Moves W s₀ s) :
    Moves W s₀ (Sys2Proof.Machine.Syn.showModel s) := by
  unfold Sys2Proof.Machine.Syn.showModel
  repeat' (first
    | with_reducible assumption
    | with_reducible apply Moves.put
    | with_reducible apply Moves.sput
    | intro _
    | split
    | (extract_lets +onlyGivenNames x; first
      | (refine Moves.keep (W := W) (s₀ := s₀) x ?_ ?_; rotate_left; intro hx; clear_value x; rotate_right)
      | (refine Moves.keep (W := W) (s₀ := s₀) x.2 ?_ ?_; rotate_left; intro hx; clear_value x; rotate_right)
      | (refine Moves.keep (W := W) (s₀ := s₀) x.1 ?_ ?_; rotate_left; intro hx; clear_value x; rotate_right)
      | skip))

theorem Syn_quarantineExit_moves {W : Part → Prop} {s₀ s : State} (h0 : W .syn) (h1 : W (.fld F.SYN_HO_FREQ_F)) (h2 : W (.fld F.SYN_HO_STAT_AGE_S)) (h3 : W (.fld F.SYN_HO_STAT_SAMPLES)) (h4 : W (.fld F.SYN_STAT_MODEL_VALID)) (h : Moves W s₀ s) :
    Moves W s₀ (Sys2Proof.Machine.Syn.quarantineExit s) := by
  unfold Sys2Proof.Machine.Syn.quarantineExit
  repeat' (first
    | with_reducible assumption
    | with_reducible apply Syn_showModel_moves
    | intro _
    | split
    | (extract_lets +onlyGivenNames x; first
      | (refine Moves.keep (W := W) (s₀ := s₀) x ?_ ?_; rotate_left; intro hx; clear_value x; rotate_right)
      | (refine Moves.keep (W := W) (s₀ := s₀) x.2 ?_ ?_; rotate_left; intro hx; clear_value x; rotate_right)
      | (refine Moves.keep (W := W) (s₀ := s₀) x.1 ?_ ?_; rotate_left; intro hx; clear_value x; rotate_right)
      | skip)
    | (with_reducible refine Moves.syn _ ?_ ?_ <;> with_reducible first
      | assumption
      | apply Syn_showModel_moves))

theorem Syn_writeTc_moves {W : Part → Prop} {s₀ s : State} (h0 : W (.fld F.SYN_HO_TC_C)) (a0 : Nat) (a1 : Nat) (h : Moves W s₀ s) :
    Moves W s₀ (Sys2Proof.Machine.Syn.writeTc a0 a1 s) := by
  unfold Sys2Proof.Machine.Syn.writeTc
  repeat' (first
    | with_reducible assumption
    | with_reducible apply Moves.put
    | intro _
    | split)

theorem Syn_writeAge_moves {W : Part → Prop} {s₀ s : State} (h0 : W (.fld F.SYN_HO_AGE_A)) (a0 : Nat) (a1 : Nat) (h : Moves W s₀ s) :
    Moves W s₀ (Sys2Proof.Machine.Syn.writeAge a0 a1 s) := by
  unfold Sys2Proof.Machine.Syn.writeAge
  repeat' (first
    | with_reducible assumption
    | with_reducible apply Moves.put
    | intro _
    | split)

theorem Syn_tcFit_moves {W : Part → Prop} {s₀ s : State} (h0 : W (.fld F.SYN_HO_FREQ_F)) (h1 : W (.fld F.SYN_HO_STAT_AGE_S)) (h2 : W (.fld F.SYN_HO_STAT_SAMPLES)) (h3 : W (.fld F.SYN_HO_STAT_TC_ORDER)) (h4 : W (.fld F.SYN_HO_TC_C)) (h5 : W (.fld F.SYN_STAT_MODEL_VALID)) (h : Moves W s₀ s) :
    Moves W s₀ (Sys2Proof.Machine.Syn.tcFit s) := by
  unfold Sys2Proof.Machine.Syn.tcFit
  repeat' (first
    | with_reducible assumption
    | with_reducible apply Moves.each
    | with_reducible apply Moves.put
    | with_reducible apply Moves.sput
    | with_reducible apply Syn_showModel_moves
    | intro _
    | split
    | (extract_lets +onlyGivenNames x; first
      | (refine Moves.keep (W := W) (s₀ := s₀) x ?_ ?_; rotate_left; intro hx; clear_value x; rotate_right)
      | (refine Moves.keep (W := W) (s₀ := s₀) x.2 ?_ ?_; rotate_left; intro hx; clear_value x; rotate_right)
      | (refine Moves.keep (W := W) (s₀ := s₀) x.1 ?_ ?_; rotate_left; intro hx; clear_value x; rotate_right)
      | skip))

theorem Syn_hourly_moves {W : Part → Prop} {s₀ s : State} (h0 : W .syn) (h1 : W (.fld F.SYN_HO_AGE_A)) (h : Moves W s₀ s) :
    Moves W s₀ (Sys2Proof.Machine.Syn.hourly s) := by
  unfold Sys2Proof.Machine.Syn.hourly
  repeat' (first
    | with_reducible assumption
    | with_reducible apply Moves.sput
    | intro _
    | split
    | (extract_lets +onlyGivenNames x; first
      | (refine Moves.keep (W := W) (s₀ := s₀) x ?_ ?_; rotate_left; intro hx; clear_value x; rotate_right)
      | (refine Moves.keep (W := W) (s₀ := s₀) x.2 ?_ ?_; rotate_left; intro hx; clear_value x; rotate_right)
      | (refine Moves.keep (W := W) (s₀ := s₀) x.1 ?_ ?_; rotate_left; intro hx; clear_value x; rotate_right)
      | skip)
    | (with_reducible refine Moves.syn _ ?_ ?_ <;> with_reducible first
      | assumption
      | apply Moves.sput))

theorem Syn_bump_moves {W : Part → Prop} {s₀ s : State} (a0 : Sys2Proof.Machine.Field) (a1 : Nat) (a2 : Bool) (hg0 : W (.fld a0)) (h : Moves W s₀ s) :
    Moves W s₀ (Sys2Proof.Machine.Syn.bump a0 a1 a2 s) := by
  unfold Sys2Proof.Machine.Syn.bump
  repeat' (first
    | with_reducible assumption
    | with_reducible apply Moves.clr
    | with_reducible apply Moves.count
    | intro _
    | split)

theorem Syn_measure_moves {W : Part → Prop} {s₀ s : State} (h0 : W .syn) (h1 : W (.fld F.SYN_INT_CAUSE_REF_DQ)) (h2 : W (.fld F.SYN_INT_CAUSE_REF_DRIFT)) (h3 : W (.fld F.SYN_INT_CAUSE_REF_FAIL)) (h4 : W (.fld F.SYN_INT_CAUSE_REF_QUAL)) (h5 : W (.fld F.SYN_REF_OFS_VAL)) (h6 : W (.fld F.SYN_REF_RATE_VAL)) (h7 : W (.fld F.SYN_REF_STAT_STATE)) (h8 : W (.fld F.SYN_REF_STAT_WTR_LEFT)) (h9 : W (.fld H.SYN_GOOD)) (h10 : W (.fld H.SYN_LOCK_FULL)) (h11 : W (.fld H.SYN_OVER)) (h12 : W (.fld H.SYN_OVER2)) (a0 : Nat) (a1 : Int) (h : Moves W s₀ s) :
    Moves W s₀ (Sys2Proof.Machine.Syn.measure a0 a1 s) := by
  unfold Sys2Proof.Machine.Syn.measure
  repeat' (first
    | with_reducible assumption
    | with_reducible apply Moves.put
    | with_reducible apply Moves.sput
    | with_reducible apply Syn_setInput_moves
    | with_reducible apply Syn_bump_moves
    | with_reducible apply Syn_setState_moves
    | intro _
    | split
    | (extract_lets +onlyGivenNames x; first
      | (refine Moves.keep (W := W) (s₀ := s₀) x ?_ ?_; rotate_left; intro hx; clear_value x; rotate_right)
      | (refine Moves.keep (W := W) (s₀ := s₀) x.2 ?_ ?_; rotate_left; intro hx; clear_value x; rotate_right)
      | (refine Moves.keep (W := W) (s₀ := s₀) x.1 ?_ ?_; rotate_left; intro hx; clear_value x; rotate_right)
      | skip))

theorem Syn_sample_moves {W : Part → Prop} {s₀ s : State} (h0 : W .syn) (h1 : W (.fld F.SYN_HO_STAT_FROZEN)) (h2 : W (.fld H.SYN_LOCK_FULL)) (a0 : Int) (h : Moves W s₀ s) :
    Moves W s₀ (Sys2Proof.Machine.Syn.sample a0 s) := by
  unfold Sys2Proof.Machine.Syn.sample
  repeat' (first
    | with_reducible assumption
    | with_reducible apply Moves.put
    | intro _
    | split
    | (extract_lets +onlyGivenNames x; first
      | (refine Moves.keep (W := W) (s₀ := s₀) x ?_ ?_; rotate_left; intro hx; clear_value x; rotate_right)
      | (refine Moves.keep (W := W) (s₀ := s₀) x.2 ?_ ?_; rotate_left; intro hx; clear_value x; rotate_right)
      | (refine Moves.keep (W := W) (s₀ := s₀) x.1 ?_ ?_; rotate_left; intro hx; clear_value x; rotate_right)
      | skip)
    | (with_reducible refine Moves.syn _ ?_ ?_ <;> with_reducible first
      | assumption
      | apply Moves.put))

theorem Syn_timeStep_moves {W : Part → Prop} {s₀ s : State} (h0 : W (.fld F.SYN_INT_CAUSE_TIME_SET)) (h1 : W (.fld F.SYN_TIME_CTRL_SET_PEND)) (h2 : W (.fld F.SYN_TIME_HI_VAL)) (h3 : W (.fld F.SYN_TIME_LO_VAL)) (h : Moves W s₀ s) :
    Moves W s₀ (Sys2Proof.Machine.Syn.timeStep s) := by
  unfold Sys2Proof.Machine.Syn.timeStep
  repeat' (first
    | with_reducible assumption
    | with_reducible apply Moves.clr
    | with_reducible apply Moves.countWrap
    | with_reducible apply Moves.emit
    | with_reducible apply Moves.put
    | with_reducible apply Moves.set
    | intro _
    | split
    | (extract_lets +onlyGivenNames x; first
      | (refine Moves.keep (W := W) (s₀ := s₀) x ?_ ?_; rotate_left; intro hx; clear_value x; rotate_right)
      | (refine Moves.keep (W := W) (s₀ := s₀) x.2 ?_ ?_; rotate_left; intro hx; clear_value x; rotate_right)
      | (refine Moves.keep (W := W) (s₀ := s₀) x.1 ?_ ?_; rotate_left; intro hx; clear_value x; rotate_right)
      | skip))

theorem Syn_second_moves {W : Part → Prop} {s₀ s : State} (h0 : W .syn) (h1 : W (.arr H.HKA_FRESH)) (h2 : W (.fld F.SYN_HO_AGE_A)) (h3 : W (.fld F.SYN_HO_FREQ_F)) (h4 : W (.fld F.SYN_HO_STAT_AGE_S)) (h5 : W (.fld F.SYN_HO_STAT_FROZEN)) (h6 : W (.fld F.SYN_HO_STAT_SAMPLES)) (h7 : W (.fld F.SYN_HO_TEMP_THETA)) (h8 : W (.fld F.SYN_HO_TEMP_VALID)) (h9 : W (.fld F.SYN_INT_CAUSE_QL_CHG)) (h10 : W (.fld F.SYN_INT_CAUSE_REF_DISAGREE)) (h11 : W (.fld F.SYN_INT_CAUSE_REF_DQ)) (h12 : W (.fld F.SYN_INT_CAUSE_REF_DRIFT)) (h13 : W (.fld F.SYN_INT_CAUSE_REF_FAIL)) (h14 : W (.fld F.SYN_INT_CAUSE_REF_QUAL)) (h15 : W (.fld F.SYN_INT_CAUSE_TIME_SET)) (h16 : W (.fld F.SYN_REF_OFS_VAL)) (h17 : W (.fld F.SYN_REF_RATE_VAL)) (h18 : W (.fld F.SYN_REF_STAT_DISAGREE)) (h19 : W (.fld F.SYN_REF_STAT_ELIGIBLE)) (h20 : W (.fld F.SYN_REF_STAT_QL_EFF)) (h21 : W (.fld F.SYN_REF_STAT_STATE)) (h22 : W (.fld F.SYN_REF_STAT_WTR_LEFT)) (h23 : W (.fld F.SYN_STAT_MODEL_VALID)) (h24 : W (.fld F.SYN_STAT_OUT_QL)) (h25 : W (.fld F.SYN_STAT_SEL_QL)) (h26 : W (.fld F.SYN_TIME_CTRL_SET_PEND)) (h27 : W (.fld F.SYN_TIME_HI_VAL)) (h28 : W (.fld F.SYN_TIME_LO_VAL)) (h29 : W (.fld H.SYN_GOOD)) (h30 : W (.fld H.SYN_LINE_OK)) (h31 : W (.fld H.SYN_LOCK_FULL)) (h32 : W (.fld H.SYN_OUT_RUN)) (h33 : W (.fld H.SYN_OVER)) (h34 : W (.fld H.SYN_OVER2)) (h35 : W (.fld H.SYN_QL_SENT)) (a0 : Sys2Proof.Second) (h : Moves W s₀ s) :
    Moves W s₀ (Sys2Proof.Machine.Syn.second a0 s) := by
  unfold Sys2Proof.Machine.Syn.second
  repeat' (first
    | with_reducible assumption
    | with_reducible apply Moves.drew
    | with_reducible apply Moves.each
    | with_reducible apply Moves.put
    | with_reducible apply Moves.sput
    | with_reducible apply Moves.wipe
    | with_reducible apply Syn_timeStep_moves
    | with_reducible apply Syn_judgeDisagreement_moves
    | with_reducible apply Syn_measure_moves
    | with_reducible apply Syn_refresh_moves
    | with_reducible apply Syn_hourly_moves
    | with_reducible apply Syn_showModel_moves
    | with_reducible apply Syn_sample_moves
    | intro _
    | split
    | (extract_lets +onlyGivenNames x; first
      | (refine Moves.keep (W := W) (s₀ := s₀) x ?_ ?_; rotate_left; intro hx; clear_value x; rotate_right)
      | (refine Moves.keep (W := W) (s₀ := s₀) x.2 ?_ ?_; rotate_left; intro hx; clear_value x; rotate_right)
      | (refine Moves.keep (W := W) (s₀ := s₀) x.1 ?_ ?_; rotate_left; intro hx; clear_value x; rotate_right)
      | skip)
    | (with_reducible refine Moves.syn _ ?_ ?_ <;> with_reducible first
      | assumption
      | apply Moves.drew
      | apply Moves.each
      | apply Moves.put
      | apply Moves.sput
      | apply Moves.wipe
      | apply Syn_timeStep_moves
      | apply Syn_judgeDisagreement_moves
      | apply Syn_measure_moves
      | apply Syn_refresh_moves
      | apply Syn_hourly_moves
      | apply Syn_showModel_moves
      | apply Syn_sample_moves))

theorem Syn_rampTick_moves {W : Part → Prop} {s₀ s : State} (h0 : W (.fld F.SYN_NCO_FREQ_F)) (h1 : W (.fld H.SYN_NCO_RAMP)) (a0 : Nat) (h : Moves W s₀ s) :
    Moves W s₀ (Sys2Proof.Machine.Syn.rampTick a0 s) := by
  unfold Sys2Proof.Machine.Syn.rampTick
  repeat' (first
    | with_reducible assumption
    | with_reducible apply Moves.drew
    | with_reducible apply Moves.put
    | with_reducible apply Moves.sput
    | intro _
    | split
    | (extract_lets +onlyGivenNames x; first
      | (refine Moves.keep (W := W) (s₀ := s₀) x ?_ ?_; rotate_left; intro hx; clear_value x; rotate_right)
      | (refine Moves.keep (W := W) (s₀ := s₀) x.2 ?_ ?_; rotate_left; intro hx; clear_value x; rotate_right)
      | (refine Moves.keep (W := W) (s₀ := s₀) x.1 ?_ ?_; rotate_left; intro hx; clear_value x; rotate_right)
      | skip))

theorem Syn_slewTick_moves {W : Part → Prop} {s₀ s : State} (h0 : W (.fld F.SYN_PSTEP_AMOUNT)) (a0 : Nat) (h : Moves W s₀ s) :
    Moves W s₀ (Sys2Proof.Machine.Syn.slewTick a0 s) := by
  unfold Sys2Proof.Machine.Syn.slewTick
  repeat' (first
    | with_reducible assumption
    | with_reducible apply Moves.sput
    | intro _
    | split
    | (extract_lets +onlyGivenNames x; first
      | (refine Moves.keep (W := W) (s₀ := s₀) x ?_ ?_; rotate_left; intro hx; clear_value x; rotate_right)
      | (refine Moves.keep (W := W) (s₀ := s₀) x.2 ?_ ?_; rotate_left; intro hx; clear_value x; rotate_right)
      | (refine Moves.keep (W := W) (s₀ := s₀) x.1 ?_ ?_; rotate_left; intro hx; clear_value x; rotate_right)
      | skip))

theorem Syn_tenMs_moves {W : Part → Prop} {s₀ s : State} (h0 : W (.fld F.SYN_NCO_FREQ_F)) (h1 : W (.fld F.SYN_PPS_IN_ERR_VALID)) (h2 : W (.fld F.SYN_PSTEP_AMOUNT)) (h3 : W (.fld F.SYN_TIME_LO_VAL)) (h4 : W (.fld H.SYN_KEYSTEP)) (h5 : W (.fld H.SYN_NCO_RAMP)) (h6 : W (.fld H.SYN_PPS_AGE)) (a0 : Nat) (h : Moves W s₀ s) :
    Moves W s₀ (Sys2Proof.Machine.Syn.tenMs a0 s) := by
  unfold Sys2Proof.Machine.Syn.tenMs
  repeat' (first
    | with_reducible assumption
    | with_reducible apply Moves.clr
    | with_reducible apply Moves.each
    | with_reducible apply Moves.put
    | with_reducible apply Syn_slewTick_moves
    | with_reducible apply Syn_rampTick_moves
    | intro _
    | split
    | (extract_lets +onlyGivenNames x; first
      | (refine Moves.keep (W := W) (s₀ := s₀) x ?_ ?_; rotate_left; intro hx; clear_value x; rotate_right)
      | (refine Moves.keep (W := W) (s₀ := s₀) x.2 ?_ ?_; rotate_left; intro hx; clear_value x; rotate_right)
      | (refine Moves.keep (W := W) (s₀ := s₀) x.1 ?_ ?_; rotate_left; intro hx; clear_value x; rotate_right)
      | skip))

theorem Syn_pstep_moves {W : Part → Prop} {s₀ s : State} (h0 : W (.fld F.SYN_INT_CAUSE_PSTEP_RANGE)) (h1 : W (.fld F.SYN_PSTEP_AMOUNT)) (h2 : W (.fld F.SYS_INT_CAUSE_ROLE_LIMIT)) (a0 : Nat) (a1 : Nat) (h : Moves W s₀ s) :
    Moves W s₀ (Sys2Proof.Machine.Syn.pstep a0 a1 s) := by
  unfold Sys2Proof.Machine.Syn.pstep
  repeat' (first
    | with_reducible assumption
    | with_reducible apply Moves.set
    | with_reducible apply Moves.sput
    | intro _
    | split
    | (extract_lets +onlyGivenNames x; first
      | (refine Moves.keep (W := W) (s₀ := s₀) x ?_ ?_; rotate_left; intro hx; clear_value x; rotate_right)
      | (refine Moves.keep (W := W) (s₀ := s₀) x.2 ?_ ?_; rotate_left; intro hx; clear_value x; rotate_right)
      | (refine Moves.keep (W := W) (s₀ := s₀) x.1 ?_ ?_; rotate_left; intro hx; clear_value x; rotate_right)
      | skip))

theorem Syn_pstepDone_moves {W : Part → Prop} {s₀ s : State} (h0 : W (.fld F.SYN_INT_CAUSE_PSTEP_DONE)) (h1 : W (.fld F.SYN_PSTEP_AMOUNT)) (a0 : Nat) (h : Moves W s₀ s) :
    Moves W s₀ (Sys2Proof.Machine.Syn.pstepDone a0 s) := by
  unfold Sys2Proof.Machine.Syn.pstepDone
  repeat' (first
    | with_reducible assumption
    | with_reducible apply Moves.clr
    | with_reducible apply Moves.set
    | intro _
    | split)

theorem Syn_privErr_moves {W : Part → Prop} {s₀ s : State} (h0 : W (.fld F.SYN_INT_CAUSE_PRIV_ERR)) (h : Moves W s₀ s) :
    Moves W s₀ (Sys2Proof.Machine.Syn.privErr s) := by
  unfold Sys2Proof.Machine.Syn.privErr
  repeat' (first
    | with_reducible assumption
    | with_reducible apply Moves.set
    | intro _)

theorem Syn_privKey_moves {W : Part → Prop} {s₀ s : State} (h0 : W (.fld F.SYN_INT_CAUSE_PRIV_ERR)) (h1 : W (.fld H.SYN_KEYSTEP)) (a0 : Sys2Proof.Machine.Pmc.Who) (a1 : Nat) (h : Moves W s₀ s) :
    Moves W s₀ (Sys2Proof.Machine.Syn.privKey a0 a1 s) := by
  unfold Sys2Proof.Machine.Syn.privKey
  repeat' (first
    | with_reducible assumption
    | with_reducible apply Moves.clr
    | with_reducible apply Moves.put
    | with_reducible apply Syn_privErr_moves
    | intro _
    | split)

theorem Syn_otherWrite_moves {W : Part → Prop} {s₀ s : State} (h0 : W (.fld H.SYN_KEYSTEP)) (a0 : Nat) (h : Moves W s₀ s) :
    Moves W s₀ (Sys2Proof.Machine.Syn.otherWrite a0 s) := by
  unfold Sys2Proof.Machine.Syn.otherWrite
  repeat' (first
    | with_reducible assumption
    | with_reducible apply Moves.clr
    | intro _
    | split)

theorem Syn_openLoop_moves {W : Part → Prop} {s₀ s : State} (h0 : W (.fld F.SYN_INT_CAUSE_PRIV_ERR)) (h1 : W (.fld F.SYN_NCO_CTRL_OPEN)) (h2 : W (.fld F.SYN_NCO_CTRL_OWNER)) (h3 : W (.fld F.SYN_NCO_FREQ_F)) (h4 : W (.fld H.SYN_KEYSTEP)) (h5 : W (.fld H.SYN_NCO_RAMP)) (a0 : Sys2Proof.Machine.Pmc.Who) (a1 : Nat) (a2 : Nat) (h : Moves W s₀ s) :
    Moves W s₀ (Sys2Proof.Machine.Syn.openLoop a0 a1 a2 s) := by
  unfold Sys2Proof.Machine.Syn.openLoop
  repeat' (first
    | with_reducible assumption
    | with_reducible apply Moves.clr
    | with_reducible apply Moves.drew
    | with_reducible apply Moves.put
    | with_reducible apply Moves.set
    | with_reducible apply Syn_privErr_moves
    | intro _
    | split
    | (extract_lets +onlyGivenNames x; first
      | (refine Moves.keep (W := W) (s₀ := s₀) x ?_ ?_; rotate_left; intro hx; clear_value x; rotate_right)
      | (refine Moves.keep (W := W) (s₀ := s₀) x.2 ?_ ?_; rotate_left; intro hx; clear_value x; rotate_right)
      | (refine Moves.keep (W := W) (s₀ := s₀) x.1 ?_ ?_; rotate_left; intro hx; clear_value x; rotate_right)
      | skip))

theorem Syn_close_moves {W : Part → Prop} {s₀ s : State} (h0 : W (.fld F.SYN_NCO_CTRL_OPEN)) (h1 : W (.fld F.SYN_NCO_CTRL_OWNER)) (h2 : W (.fld H.SYN_NCO_RAMP)) (a0 : Nat) (h : Moves W s₀ s) :
    Moves W s₀ (Sys2Proof.Machine.Syn.close a0 s) := by
  unfold Sys2Proof.Machine.Syn.close
  repeat' (first
    | with_reducible assumption
    | with_reducible apply Moves.clr
    | with_reducible apply Moves.put
    | intro _)

theorem Syn_closeLoop_moves {W : Part → Prop} {s₀ s : State} (h0 : W (.fld F.SYN_INT_CAUSE_PRIV_ERR)) (h1 : W (.fld F.SYN_NCO_CTRL_OPEN)) (h2 : W (.fld F.SYN_NCO_CTRL_OWNER)) (h3 : W (.fld H.SYN_NCO_RAMP)) (a0 : Sys2Proof.Machine.Pmc.Who) (a1 : Nat) (h : Moves W s₀ s) :
    Moves W s₀ (Sys2Proof.Machine.Syn.closeLoop a0 a1 s) := by
  unfold Sys2Proof.Machine.Syn.closeLoop
  repeat' (first
    | with_reducible assumption
    | with_reducible apply Syn_close_moves
    | with_reducible apply Syn_privErr_moves
    | intro _
    | split)

theorem Syn_ncoFreq_moves {W : Part → Prop} {s₀ s : State} (h0 : W (.fld F.SYN_INT_CAUSE_PRIV_ERR)) (h1 : W (.fld F.SYN_NCO_FREQ_F)) (a0 : Sys2Proof.Machine.Pmc.Who) (a1 : Nat) (a2 : Nat) (h : Moves W s₀ s) :
    Moves W s₀ (Sys2Proof.Machine.Syn.ncoFreq a0 a1 a2 s) := by
  unfold Sys2Proof.Machine.Syn.ncoFreq
  repeat' (first
    | with_reducible assumption
    | with_reducible apply Moves.put
    | with_reducible apply Syn_privErr_moves
    | intro _
    | split)

theorem Syn_maxOpen_moves {W : Part → Prop} {s₀ s : State} (h0 : W (.fld F.SYN_INT_CAUSE_PRIV_CLOSED)) (h1 : W (.fld F.SYN_NCO_CTRL_OPEN)) (h2 : W (.fld F.SYN_NCO_CTRL_OWNER)) (h3 : W (.fld H.SYN_NCO_RAMP)) (a0 : Nat) (a1 : Nat) (h : Moves W s₀ s) :
    Moves W s₀ (Sys2Proof.Machine.Syn.maxOpen a0 a1 s) := by
  unfold Sys2Proof.Machine.Syn.maxOpen
  repeat' (first
    | with_reducible assumption
    | with_reducible apply Moves.set
    | with_reducible apply Syn_close_moves
    | intro _
    | split
    | (extract_lets +onlyGivenNames x; first
      | (refine Moves.keep (W := W) (s₀ := s₀) x ?_ ?_; rotate_left; intro hx; clear_value x; rotate_right)
      | (refine Moves.keep (W := W) (s₀ := s₀) x.2 ?_ ?_; rotate_left; intro hx; clear_value x; rotate_right)
      | (refine Moves.keep (W := W) (s₀ := s₀) x.1 ?_ ?_; rotate_left; intro hx; clear_value x; rotate_right)
      | skip))

theorem Syn_ownerReset_moves {W : Part → Prop} {s₀ s : State} (h0 : W (.fld F.SYN_INT_CAUSE_PRIV_CLOSED)) (h1 : W (.fld F.SYN_NCO_CTRL_OPEN)) (h2 : W (.fld F.SYN_NCO_CTRL_OWNER)) (h3 : W (.fld H.SYN_KEYSTEP)) (h4 : W (.fld H.SYN_NCO_RAMP)) (a0 : Nat) (h : Moves W s₀ s) :
    Moves W s₀ (Sys2Proof.Machine.Syn.ownerReset a0 s) := by
  unfold Sys2Proof.Machine.Syn.ownerReset
  repeat' (first
    | with_reducible assumption
    | with_reducible apply Moves.clr
    | with_reducible apply Moves.each
    | with_reducible apply Moves.set
    | with_reducible apply Syn_close_moves
    | intro _
    | split)

theorem Syn_armSet_moves {W : Part → Prop} {s₀ s : State} (h0 : W (.fld F.SYN_TIME_CTRL_SET_PEND)) (h : Moves W s₀ s) :
    Moves W s₀ (Sys2Proof.Machine.Syn.armSet s) := by
  unfold Sys2Proof.Machine.Syn.armSet
  repeat' (first
    | with_reducible assumption
    | with_reducible apply Moves.set
    | intro _)

theorem Syn_armAlign_moves {W : Part → Prop} {s₀ s : State} (h0 : W (.fld F.SYN_TIME_CTRL_ALIGN_PEND)) (h : Moves W s₀ s) :
    Moves W s₀ (Sys2Proof.Machine.Syn.armAlign s) := by
  unfold Sys2Proof.Machine.Syn.armAlign
  repeat' (first
    | with_reducible assumption
    | with_reducible apply Moves.set
    | intro _)

theorem Syn_ppsEdge_moves {W : Part → Prop} {s₀ s : State} (h0 : W (.fld F.SYN_INT_CAUSE_PPS_ALIGN)) (h1 : W (.fld F.SYN_PPS_IN_ERR_ERR)) (h2 : W (.fld F.SYN_PPS_IN_ERR_VALID)) (h3 : W (.fld F.SYN_TIME_CTRL_ALIGN_PEND)) (h4 : W (.fld H.SYN_PPS_AGE)) (a0 : Nat) (a1 : Sys2Proof.Machine.State → Sys2Proof.Machine.State) (hf1 : ∀ b0, Moves W s₀ b0 → Moves W s₀ (a1 b0)) (h : Moves W s₀ s) :
    Moves W s₀ (Sys2Proof.Machine.Syn.ppsEdge a0 a1 s) := by
  unfold Sys2Proof.Machine.Syn.ppsEdge
  repeat' (first
    | with_reducible assumption
    | with_reducible apply Moves.clr
    | with_reducible apply Moves.set
    | with_reducible apply Moves.sput
    | with_reducible apply hf1
    | intro _
    | split
    | (extract_lets +onlyGivenNames x; first
      | (refine Moves.keep (W := W) (s₀ := s₀) x ?_ ?_; rotate_left; intro hx; clear_value x; rotate_right)
      | (refine Moves.keep (W := W) (s₀ := s₀) x.2 ?_ ?_; rotate_left; intro hx; clear_value x; rotate_right)
      | (refine Moves.keep (W := W) (s₀ := s₀) x.1 ?_ ?_; rotate_left; intro hx; clear_value x; rotate_right)
      | skip))

theorem Syn_restEnter_moves {W : Part → Prop} {s₀ s : State} (h0 : W .syn) (h1 : W (.fld F.SYN_INT_CAUSE_LOOP_CHG)) (h2 : W (.fld F.SYN_INT_CAUSE_QL_CHG)) (h3 : W (.fld F.SYN_REF_STAT_ELIGIBLE)) (h4 : W (.fld F.SYN_REF_STAT_QL_EFF)) (h5 : W (.fld F.SYN_REF_STAT_WTR_LEFT)) (h6 : W (.fld F.SYN_STAT_LOOP)) (h7 : W (.fld F.SYN_STAT_OUT_QL)) (h8 : W (.fld F.SYN_STAT_SEL_QL)) (h9 : W (.fld H.SYN_GOOD)) (h10 : W (.fld H.SYN_LINE_OK)) (h11 : W (.fld H.SYN_LOCK_FULL)) (h12 : W (.fld H.SYN_OUT_RUN)) (h13 : W (.fld H.SYN_QL_SENT)) (h : Moves W s₀ s) :
    Moves W s₀ (Sys2Proof.Machine.Syn.restEnter s) := by
  unfold Sys2Proof.Machine.Syn.restEnter
  repeat' (first
    | with_reducible assumption
    | with_reducible apply Moves.clr
    | with_reducible apply Moves.each
    | with_reducible apply Moves.put
    | with_reducible apply Syn_coast_moves
    | with_reducible apply Syn_refresh_moves
    | intro _
    | split
    | (extract_lets +onlyGivenNames x; first
      | (refine Moves.keep (W := W) (s₀ := s₀) x ?_ ?_; rotate_left; intro hx; clear_value x; rotate_right)
      | (refine Moves.keep (W := W) (s₀ := s₀) x.2 ?_ ?_; rotate_left; intro hx; clear_value x; rotate_right)
      | (refine Moves.keep (W := W) (s₀ := s₀) x.1 ?_ ?_; rotate_left; intro hx; clear_value x; rotate_right)
      | skip))

end Sys2Proof.Laws
end

