-- ==== Sys2Proof/Laws/MovesPeer.lean ====
section
/-! SUPPORT. Sys2Proof/Laws/MovesPeer.lean: what each operation of Machine/Peer.lean may write (Laws/Moves.lean). -/
namespace Sys2Proof.Laws
open Sys2Proof Sys2Proof.Machine

theorem Peer_hold_moves {W : Part → Prop} {s₀ s : State} (h0 : W (.fld F.LTX_CTRL_MUTE)) (h1 : W (.fld F.LTX_STAT_MUTE_SRC)) (h2 : W (.fld H.LTX_OUTPUT)) (h3 : W (.fld H.PEER_MUTE_HELD)) (h4 : W (.fld H.PEER_MUTE_WAS)) (h : Moves W s₀ s) :
    Moves W s₀ (Sys2Proof.Machine.Peer.hold s) := by
  unfold Sys2Proof.Machine.Peer.hold
  repeat' (first
    | with_reducible assumption
    | with_reducible apply Moves.put
    | with_reducible apply Moves.set
    | with_reducible apply Ltx_setMute_moves
    | intro _
    | split)

theorem Peer_letGo_moves {W : Part → Prop} {s₀ s : State} (h0 : W (.fld F.LTX_CTRL_MUTE)) (h1 : W (.fld F.LTX_STAT_MUTE_SRC)) (h2 : W (.fld H.LTX_OUTPUT)) (h3 : W (.fld H.PEER_MUTE_HELD)) (h : Moves W s₀ s) :
    Moves W s₀ (Sys2Proof.Machine.Peer.letGo s) := by
  unfold Sys2Proof.Machine.Peer.letGo
  repeat' (first
    | with_reducible assumption
    | with_reducible apply Moves.clr
    | with_reducible apply Ltx_setMute_moves
    | intro _
    | split)

theorem Peer_enter_moves {W : Part → Prop} {s₀ s : State} (h0 : W (.fld F.LSR_STAT_HOLD)) (h1 : W (.fld F.LSR_STAT_LASER_EN)) (h2 : W (.fld F.LTX_CTRL_MUTE)) (h3 : W (.fld F.LTX_STAT_MUTE_SRC)) (h4 : W (.fld F.PEER_INT_CAUSE_STATE_CHG)) (h5 : W (.fld F.PEER_STAT_PHASE_OK)) (h6 : W (.fld F.PEER_STAT_STATE)) (h7 : W (.fld H.LTX_OUTPUT)) (h8 : W (.fld H.PEER_MUTE_HELD)) (h9 : W (.fld H.PEER_MUTE_WAS)) (a0 : Nat) (h : Moves W s₀ s) :
    Moves W s₀ (Sys2Proof.Machine.Peer.enter a0 s) := by
  unfold Sys2Proof.Machine.Peer.enter
  repeat' (first
    | with_reducible assumption
    | with_reducible apply Moves.put
    | with_reducible apply Moves.set
    | with_reducible apply Peer_hold_moves
    | with_reducible apply Peer_letGo_moves
    | with_reducible apply Lsr_laser_moves
    | intro _
    | split
    | (extract_lets +onlyGivenNames x; first
      | (refine Moves.keep (W := W) (s₀ := s₀) x ?_ ?_; rotate_left; intro hx; clear_value x; rotate_right)
      | (refine Moves.keep (W := W) (s₀ := s₀) x.2 ?_ ?_; rotate_left; intro hx; clear_value x; rotate_right)
      | (refine Moves.keep (W := W) (s₀ := s₀) x.1 ?_ ?_; rotate_left; intro hx; clear_value x; rotate_right)
      | skip))

theorem Peer_mirror_moves {W : Part → Prop} {s₀ s : State} (a0 : Sys2Proof.Machine.State) (h : Moves W s₀ s) :
    Moves W s₀ (Sys2Proof.Machine.Peer.mirror a0 s) := by
  unfold Sys2Proof.Machine.Peer.mirror
  repeat' (first
    | with_reducible assumption
    | with_reducible apply Moves.eachOf
    | with_reducible apply Moves.emit
    | intro _
    | split
    | (extract_lets +onlyGivenNames x; first
      | (refine Moves.keep (W := W) (s₀ := s₀) x ?_ ?_; rotate_left; intro hx; clear_value x; rotate_right)
      | (refine Moves.keep (W := W) (s₀ := s₀) x.2 ?_ ?_; rotate_left; intro hx; clear_value x; rotate_right)
      | (refine Moves.keep (W := W) (s₀ := s₀) x.1 ?_ ?_; rotate_left; intro hx; clear_value x; rotate_right)
      | skip))

theorem Peer_bulkCopy_moves {W : Part → Prop} {s₀ s : State} (h : Moves W s₀ s) :
    Moves W s₀ (Sys2Proof.Machine.Peer.bulkCopy s) := by
  unfold Sys2Proof.Machine.Peer.bulkCopy
  repeat' (first
    | with_reducible assumption
    | with_reducible apply Moves.eachOf
    | with_reducible apply Moves.emit
    | with_reducible apply Cry_counterMirror_moves
    | intro _
    | (extract_lets +onlyGivenNames x; first
      | (refine Moves.keep (W := W) (s₀ := s₀) x ?_ ?_; rotate_left; intro hx; clear_value x; rotate_right)
      | (refine Moves.keep (W := W) (s₀ := s₀) x.2 ?_ ?_; rotate_left; intro hx; clear_value x; rotate_right)
      | (refine Moves.keep (W := W) (s₀ := s₀) x.1 ?_ ?_; rotate_left; intro hx; clear_value x; rotate_right)
      | skip))

theorem Peer_applyItems_moves {W : Part → Prop} {s₀ s : State} (hw : ∀ x, W x) (a0 : Nat) (a1 : List Nat) (h : Moves W s₀ s) :
    Moves W s₀ (Sys2Proof.Machine.Peer.applyItems a0 a1 s) := by
  induction a0 generalizing a1 s with
  | zero => unfold Peer.applyItems; exact h
  | succ n ih =>
    unfold Peer.applyItems
    split
    · rename_i heq
      cases heq
      apply ih
      split
      · exact h.put _ _ _ _ _ (hw _)
      · exact h
    · exact h

theorem Peer_record_moves {W : Part → Prop} {s₀ s : State} (hw : ∀ x, W x) (a0 : Nat) (a1 : List Nat) (a2 : Nat) (h : Moves W s₀ s) :
    Moves W s₀ (Sys2Proof.Machine.Peer.record a0 a1 a2 s) := by
  unfold Sys2Proof.Machine.Peer.record
  repeat' (first
    | with_reducible assumption
    | exact hw _
    | with_reducible apply Moves.put
    | with_reducible apply Syn_peerQl_moves
    | with_reducible apply Peer_applyItems_moves
    | with_reducible apply Cry_applyMirror_moves
    | with_reducible apply Flw_replace_moves
    | intro _
    | split
    | (with_reducible refine Moves.drop _ hw ?_ <;> with_reducible first
      | assumption
      | apply Moves.put
      | apply Syn_peerQl_moves
      | apply Peer_applyItems_moves
      | apply Cry_applyMirror_moves
      | apply Flw_replace_moves
      | exact hw _))

theorem Peer_elect_moves {W : Part → Prop} {s₀ s : State} (h0 : W (.fld F.LSR_STAT_HOLD)) (h1 : W (.fld F.LSR_STAT_LASER_EN)) (h2 : W (.fld F.LTX_CTRL_MUTE)) (h3 : W (.fld F.LTX_STAT_MUTE_SRC)) (h4 : W (.fld F.PEER_INT_CAUSE_SPLIT)) (h5 : W (.fld F.PEER_INT_CAUSE_STATE_CHG)) (h6 : W (.fld F.PEER_STAT_PHASE_OK)) (h7 : W (.fld F.PEER_STAT_STATE)) (h8 : W (.fld H.LTX_OUTPUT)) (h9 : W (.fld H.PEER_MUTE_HELD)) (h10 : W (.fld H.PEER_MUTE_WAS)) (h11 : W (.fld H.PEER_PARTNER)) (a0 : Sys2Proof.Hello) (h : Moves W s₀ s) :
    Moves W s₀ (Sys2Proof.Machine.Peer.elect a0 s) := by
  unfold Sys2Proof.Machine.Peer.elect
  repeat' (first
    | with_reducible assumption
    | with_reducible apply Moves.put
    | with_reducible apply Moves.set
    | with_reducible apply Peer_bulkCopy_moves
    | with_reducible apply Peer_enter_moves
    | intro _
    | split
    | (extract_lets +onlyGivenNames x; first
      | (refine Moves.keep (W := W) (s₀ := s₀) x ?_ ?_; rotate_left; intro hx; clear_value x; rotate_right)
      | (refine Moves.keep (W := W) (s₀ := s₀) x.2 ?_ ?_; rotate_left; intro hx; clear_value x; rotate_right)
      | (refine Moves.keep (W := W) (s₀ := s₀) x.1 ?_ ?_; rotate_left; intro hx; clear_value x; rotate_right)
      | skip))

theorem Peer_linkUp_moves {W : Part → Prop} {s₀ s : State} (h0 : W (.fld F.LSR_STAT_HOLD)) (h1 : W (.fld F.LSR_STAT_LASER_EN)) (h2 : W (.fld F.LTX_CTRL_MUTE)) (h3 : W (.fld F.LTX_STAT_MUTE_SRC)) (h4 : W (.fld F.PEER_DELAY_DELAY)) (h5 : W (.fld F.PEER_INT_CAUSE_LINK_CHG)) (h6 : W (.fld F.PEER_INT_CAUSE_MISMATCH)) (h7 : W (.fld F.PEER_INT_CAUSE_SPLIT)) (h8 : W (.fld F.PEER_INT_CAUSE_STATE_CHG)) (h9 : W (.fld F.PEER_STAT_LANE_LOCK)) (h10 : W (.fld F.PEER_STAT_LINK)) (h11 : W (.fld F.PEER_STAT_MISMATCH)) (h12 : W (.fld F.PEER_STAT_PHASE_OK)) (h13 : W (.fld F.PEER_STAT_STATE)) (h14 : W (.fld F.SYN_INT_CAUSE_QL_CHG)) (h15 : W (.fld F.SYN_REF_STAT_ELIGIBLE)) (h16 : W (.fld F.SYN_REF_STAT_QL_EFF)) (h17 : W (.fld F.SYN_STAT_OUT_QL)) (h18 : W (.fld F.SYN_STAT_SEL_QL)) (h19 : W (.fld H.LTX_OUTPUT)) (h20 : W (.fld H.PEER_MUTE_HELD)) (h21 : W (.fld H.PEER_MUTE_WAS)) (h22 : W (.fld H.PEER_PARTNER)) (h23 : W (.fld H.SYN_LINE_OK)) (h24 : W (.fld H.SYN_OUT_RUN)) (h25 : W (.fld H.SYN_QL_SENT)) (a0 : Sys2Proof.Hello) (h : Moves W s₀ s) :
    Moves W s₀ (Sys2Proof.Machine.Peer.linkUp a0 s) := by
  unfold Sys2Proof.Machine.Peer.linkUp
  repeat' (first
    | with_reducible assumption
    | with_reducible apply Moves.clr
    | with_reducible apply Moves.put
    | with_reducible apply Moves.set
    | with_reducible apply Syn_refresh_moves
    | with_reducible apply Peer_elect_moves
    | intro _
    | split
    | (extract_lets +onlyGivenNames x; first
      | (refine Moves.keep (W := W) (s₀ := s₀) x ?_ ?_; rotate_left; intro hx; clear_value x; rotate_right)
      | (refine Moves.keep (W := W) (s₀ := s₀) x.2 ?_ ?_; rotate_left; intro hx; clear_value x; rotate_right)
      | (refine Moves.keep (W := W) (s₀ := s₀) x.1 ?_ ?_; rotate_left; intro hx; clear_value x; rotate_right)
      | skip))

theorem Peer_linkFailed_moves {W : Part → Prop} {s₀ s : State} (h0 : W .qdr) (h1 : W (.fld F.CRY_KEY_DATA_KEY)) (h2 : W (.fld F.CRY_KEY_SALT_SALT)) (h3 : W (.fld F.CRY_LOCK_STAT_LOCK_BROKEN)) (h4 : W (.fld F.CRY_LOCK_STAT_OWNER)) (h5 : W (.fld F.LSR_STAT_HOLD)) (h6 : W (.fld F.LSR_STAT_LASER_EN)) (h7 : W (.fld F.LTX_CTRL_MUTE)) (h8 : W (.fld F.LTX_STAT_MUTE_SRC)) (h9 : W (.fld F.MBX_INT_CAUSE_RESET_SEEN)) (h10 : W (.fld F.MBX_LOCK_STAT_LOCK_BROKEN)) (h11 : W (.fld F.MBX_LOCK_STAT_OWNER)) (h12 : W (.fld F.MBX_STAT_RX_RESET_SEEN)) (h13 : W (.fld F.MBX_STAT_SENDER_RESET_SEEN)) (h14 : W (.fld F.PEER_INT_CAUSE_LINK_CHG)) (h15 : W (.fld F.PEER_INT_CAUSE_STATE_CHG)) (h16 : W (.fld F.PEER_STAT_LINK)) (h17 : W (.fld F.PEER_STAT_PHASE_OK)) (h18 : W (.fld F.PEER_STAT_STATE)) (h19 : W (.fld F.PMC_INT_CAUSE_OVF)) (h20 : W (.fld F.PMC_INT_CAUSE_SMP_AVAIL)) (h21 : W (.fld F.PMC_INT_CAUSE_SMP_DROP)) (h22 : W (.fld F.PMC_OVF_STAT_OVF)) (h23 : W (.fld F.PMC_SMP_DROP_RING)) (h24 : W (.fld F.PMC_SMP_STAT_COUNT)) (h25 : W (.fld F.SYN_INT_CAUSE_QL_CHG)) (h26 : W (.fld F.SYN_REF_STAT_ELIGIBLE)) (h27 : W (.fld F.SYN_REF_STAT_QL_EFF)) (h28 : W (.fld F.SYN_STAT_OUT_QL)) (h29 : W (.fld F.SYN_STAT_SEL_QL)) (h30 : W (.fld H.LTX_OUTPUT)) (h31 : W (.fld H.PEER_MUTE_HELD)) (h32 : W (.fld H.PEER_MUTE_WAS)) (h33 : W (.fld H.PMC_CNT)) (h34 : W (.fld H.PMC_OVF_DUE)) (h35 : W (.fld H.PMC_OVF_T)) (h36 : W (.fld H.PMC_RING)) (h37 : W (.fld H.PMC_TRACE_POS)) (h38 : W (.fld H.SYN_LINE_OK)) (h39 : W (.fld H.SYN_OUT_RUN)) (h40 : W (.fld H.SYN_QL_SENT)) (h : Moves W s₀ s) :
    Moves W s₀ (Sys2Proof.Machine.Peer.linkFailed s) := by
  unfold Sys2Proof.Machine.Peer.linkFailed
  repeat' (first
    | with_reducible assumption
    | with_reducible apply Moves.clr
    | with_reducible apply Moves.set
    | with_reducible apply Mbx_masterReset_moves
    | with_reducible apply Peer_enter_moves
    | with_reducible apply Syn_refresh_moves
    | intro _
    | split
    | (extract_lets +onlyGivenNames x; first
      | (refine Moves.keep (W := W) (s₀ := s₀) x ?_ ?_; rotate_left; intro hx; clear_value x; rotate_right)
      | (refine Moves.keep (W := W) (s₀ := s₀) x.2 ?_ ?_; rotate_left; intro hx; clear_value x; rotate_right)
      | (refine Moves.keep (W := W) (s₀ := s₀) x.1 ?_ ?_; rotate_left; intro hx; clear_value x; rotate_right)
      | skip))

theorem Peer_held_moves {W : Part → Prop} {s₀ s : State} (h0 : W .qdr) (h1 : W (.fld F.CRY_KEY_DATA_KEY)) (h2 : W (.fld F.CRY_KEY_SALT_SALT)) (h3 : W (.fld F.CRY_LOCK_STAT_LOCK_BROKEN)) (h4 : W (.fld F.CRY_LOCK_STAT_OWNER)) (h5 : W (.fld F.LSR_STAT_HOLD)) (h6 : W (.fld F.LSR_STAT_LASER_EN)) (h7 : W (.fld F.LTX_CTRL_MUTE)) (h8 : W (.fld F.LTX_STAT_MUTE_SRC)) (h9 : W (.fld F.MBX_INT_CAUSE_RESET_SEEN)) (h10 : W (.fld F.MBX_LOCK_STAT_LOCK_BROKEN)) (h11 : W (.fld F.MBX_LOCK_STAT_OWNER)) (h12 : W (.fld F.MBX_STAT_RX_RESET_SEEN)) (h13 : W (.fld F.MBX_STAT_SENDER_RESET_SEEN)) (h14 : W (.fld F.PEER_INT_CAUSE_LINK_CHG)) (h15 : W (.fld F.PEER_INT_CAUSE_STATE_CHG)) (h16 : W (.fld F.PEER_STAT_LINK)) (h17 : W (.fld F.PEER_STAT_PHASE_OK)) (h18 : W (.fld F.PEER_STAT_STATE)) (h19 : W (.fld F.PMC_INT_CAUSE_OVF)) (h20 : W (.fld F.PMC_INT_CAUSE_SMP_AVAIL)) (h21 : W (.fld F.PMC_INT_CAUSE_SMP_DROP)) (h22 : W (.fld F.PMC_OVF_STAT_OVF)) (h23 : W (.fld F.PMC_SMP_DROP_RING)) (h24 : W (.fld F.PMC_SMP_STAT_COUNT)) (h25 : W (.fld F.SYN_INT_CAUSE_QL_CHG)) (h26 : W (.fld F.SYN_REF_STAT_ELIGIBLE)) (h27 : W (.fld F.SYN_REF_STAT_QL_EFF)) (h28 : W (.fld F.SYN_STAT_OUT_QL)) (h29 : W (.fld F.SYN_STAT_SEL_QL)) (h30 : W (.fld H.LTX_OUTPUT)) (h31 : W (.fld H.PEER_MUTE_HELD)) (h32 : W (.fld H.PEER_MUTE_WAS)) (h33 : W (.fld H.PMC_CNT)) (h34 : W (.fld H.PMC_OVF_DUE)) (h35 : W (.fld H.PMC_OVF_T)) (h36 : W (.fld H.PMC_RING)) (h37 : W (.fld H.PMC_TRACE_POS)) (h38 : W (.fld H.SYN_LINE_OK)) (h39 : W (.fld H.SYN_OUT_RUN)) (h40 : W (.fld H.SYN_QL_SENT)) (h : Moves W s₀ s) :
    Moves W s₀ (Sys2Proof.Machine.Peer.held s) := by
  unfold Sys2Proof.Machine.Peer.held
  repeat' (first
    | with_reducible assumption
    | with_reducible apply Peer_linkFailed_moves
    | intro _
    | split)

theorem Peer_linkFail_moves {W : Part → Prop} {s₀ s : State} (h0 : W .qdr) (h1 : W (.fld F.CRY_KEY_DATA_KEY)) (h2 : W (.fld F.CRY_KEY_SALT_SALT)) (h3 : W (.fld F.CRY_LOCK_STAT_LOCK_BROKEN)) (h4 : W (.fld F.CRY_LOCK_STAT_OWNER)) (h5 : W (.fld F.LSR_STAT_HOLD)) (h6 : W (.fld F.LSR_STAT_LASER_EN)) (h7 : W (.fld F.LTX_CTRL_MUTE)) (h8 : W (.fld F.LTX_STAT_MUTE_SRC)) (h9 : W (.fld F.MBX_INT_CAUSE_RESET_SEEN)) (h10 : W (.fld F.MBX_LOCK_STAT_LOCK_BROKEN)) (h11 : W (.fld F.MBX_LOCK_STAT_OWNER)) (h12 : W (.fld F.MBX_STAT_RX_RESET_SEEN)) (h13 : W (.fld F.MBX_STAT_SENDER_RESET_SEEN)) (h14 : W (.fld F.PEER_INT_CAUSE_LINK_CHG)) (h15 : W (.fld F.PEER_INT_CAUSE_STATE_CHG)) (h16 : W (.fld F.PEER_STAT_LANE_LOCK)) (h17 : W (.fld F.PEER_STAT_LINK)) (h18 : W (.fld F.PEER_STAT_PHASE_OK)) (h19 : W (.fld F.PEER_STAT_STATE)) (h20 : W (.fld F.PMC_INT_CAUSE_OVF)) (h21 : W (.fld F.PMC_INT_CAUSE_SMP_AVAIL)) (h22 : W (.fld F.PMC_INT_CAUSE_SMP_DROP)) (h23 : W (.fld F.PMC_OVF_STAT_OVF)) (h24 : W (.fld F.PMC_SMP_DROP_RING)) (h25 : W (.fld F.PMC_SMP_STAT_COUNT)) (h26 : W (.fld F.SYN_INT_CAUSE_QL_CHG)) (h27 : W (.fld F.SYN_REF_STAT_ELIGIBLE)) (h28 : W (.fld F.SYN_REF_STAT_QL_EFF)) (h29 : W (.fld F.SYN_STAT_OUT_QL)) (h30 : W (.fld F.SYN_STAT_SEL_QL)) (h31 : W (.fld H.LTX_OUTPUT)) (h32 : W (.fld H.PEER_MUTE_HELD)) (h33 : W (.fld H.PEER_MUTE_WAS)) (h34 : W (.fld H.PMC_CNT)) (h35 : W (.fld H.PMC_OVF_DUE)) (h36 : W (.fld H.PMC_OVF_T)) (h37 : W (.fld H.PMC_RING)) (h38 : W (.fld H.PMC_TRACE_POS)) (h39 : W (.fld H.SYN_LINE_OK)) (h40 : W (.fld H.SYN_OUT_RUN)) (h41 : W (.fld H.SYN_QL_SENT)) (a0 : Nat) (a1 : Nat) (h : Moves W s₀ s) :
    Moves W s₀ (Sys2Proof.Machine.Peer.linkFail a0 a1 s) := by
  unfold Sys2Proof.Machine.Peer.linkFail
  repeat' (first
    | with_reducible assumption
    | with_reducible apply Moves.put
    | with_reducible apply Peer_linkFailed_moves
    | intro _
    | split)

theorem Peer_heartbeatTimeout_moves {W : Part → Prop} {s₀ s : State} (h0 : W .qdr) (h1 : W (.fld F.CRY_KEY_DATA_KEY)) (h2 : W (.fld F.CRY_KEY_SALT_SALT)) (h3 : W (.fld F.CRY_LOCK_STAT_LOCK_BROKEN)) (h4 : W (.fld F.CRY_LOCK_STAT_OWNER)) (h5 : W (.fld F.LSR_STAT_HOLD)) (h6 : W (.fld F.LSR_STAT_LASER_EN)) (h7 : W (.fld F.LTX_CTRL_MUTE)) (h8 : W (.fld F.LTX_STAT_MUTE_SRC)) (h9 : W (.fld F.MBX_INT_CAUSE_RESET_SEEN)) (h10 : W (.fld F.MBX_LOCK_STAT_LOCK_BROKEN)) (h11 : W (.fld F.MBX_LOCK_STAT_OWNER)) (h12 : W (.fld F.MBX_STAT_RX_RESET_SEEN)) (h13 : W (.fld F.MBX_STAT_SENDER_RESET_SEEN)) (h14 : W (.fld F.PEER_INT_CAUSE_LINK_CHG)) (h15 : W (.fld F.PEER_INT_CAUSE_STATE_CHG)) (h16 : W (.fld F.PEER_STAT_LINK)) (h17 : W (.fld F.PEER_STAT_PHASE_OK)) (h18 : W (.fld F.PEER_STAT_STATE)) (h19 : W (.fld F.PMC_INT_CAUSE_OVF)) (h20 : W (.fld F.PMC_INT_CAUSE_SMP_AVAIL)) (h21 : W (.fld F.PMC_INT_CAUSE_SMP_DROP)) (h22 : W (.fld F.PMC_OVF_STAT_OVF)) (h23 : W (.fld F.PMC_SMP_DROP_RING)) (h24 : W (.fld F.PMC_SMP_STAT_COUNT)) (h25 : W (.fld F.SYN_INT_CAUSE_QL_CHG)) (h26 : W (.fld F.SYN_REF_STAT_ELIGIBLE)) (h27 : W (.fld F.SYN_REF_STAT_QL_EFF)) (h28 : W (.fld F.SYN_STAT_OUT_QL)) (h29 : W (.fld F.SYN_STAT_SEL_QL)) (h30 : W (.fld H.LTX_OUTPUT)) (h31 : W (.fld H.PEER_MUTE_HELD)) (h32 : W (.fld H.PEER_MUTE_WAS)) (h33 : W (.fld H.PMC_CNT)) (h34 : W (.fld H.PMC_OVF_DUE)) (h35 : W (.fld H.PMC_OVF_T)) (h36 : W (.fld H.PMC_RING)) (h37 : W (.fld H.PMC_TRACE_POS)) (h38 : W (.fld H.SYN_LINE_OK)) (h39 : W (.fld H.SYN_OUT_RUN)) (h40 : W (.fld H.SYN_QL_SENT)) (h : Moves W s₀ s) :
    Moves W s₀ (Sys2Proof.Machine.Peer.heartbeatTimeout s) := by
  unfold Sys2Proof.Machine.Peer.heartbeatTimeout
  repeat' (first
    | with_reducible assumption
    | with_reducible apply Peer_linkFailed_moves
    | intro _)

theorem Peer_enable_moves {W : Part → Prop} {s₀ s : State} (h0 : W (.fld F.LSR_STAT_HOLD)) (h1 : W (.fld F.LSR_STAT_LASER_EN)) (h2 : W (.fld F.LTX_CTRL_MUTE)) (h3 : W (.fld F.LTX_STAT_MUTE_SRC)) (h4 : W (.fld F.PEER_CTRL_EN)) (h5 : W (.fld F.PEER_INT_CAUSE_STATE_CHG)) (h6 : W (.fld F.PEER_STAT_PHASE_OK)) (h7 : W (.fld F.PEER_STAT_STATE)) (h8 : W (.fld H.LTX_OUTPUT)) (h9 : W (.fld H.PEER_MUTE_HELD)) (h10 : W (.fld H.PEER_MUTE_WAS)) (h : Moves W s₀ s) :
    Moves W s₀ (Sys2Proof.Machine.Peer.enable s) := by
  unfold Sys2Proof.Machine.Peer.enable
  repeat' (first
    | with_reducible assumption
    | with_reducible apply Moves.set
    | with_reducible apply Peer_enter_moves
    | intro _
    | split)

theorem Peer_disable_moves {W : Part → Prop} {s₀ s : State} (h0 : W .qdr) (h1 : W (.fld F.CRY_KEY_DATA_KEY)) (h2 : W (.fld F.CRY_KEY_SALT_SALT)) (h3 : W (.fld F.CRY_LOCK_STAT_LOCK_BROKEN)) (h4 : W (.fld F.CRY_LOCK_STAT_OWNER)) (h5 : W (.fld F.LSR_STAT_HOLD)) (h6 : W (.fld F.LSR_STAT_LASER_EN)) (h7 : W (.fld F.LTX_CTRL_MUTE)) (h8 : W (.fld F.LTX_STAT_MUTE_SRC)) (h9 : W (.fld F.MBX_INT_CAUSE_RESET_SEEN)) (h10 : W (.fld F.MBX_LOCK_STAT_LOCK_BROKEN)) (h11 : W (.fld F.MBX_LOCK_STAT_OWNER)) (h12 : W (.fld F.MBX_STAT_RX_RESET_SEEN)) (h13 : W (.fld F.MBX_STAT_SENDER_RESET_SEEN)) (h14 : W (.fld F.PEER_CTRL_EN)) (h15 : W (.fld F.PEER_INT_CAUSE_LINK_CHG)) (h16 : W (.fld F.PEER_INT_CAUSE_STATE_CHG)) (h17 : W (.fld F.PEER_STAT_LANE_LOCK)) (h18 : W (.fld F.PEER_STAT_LINK)) (h19 : W (.fld F.PEER_STAT_PHASE_OK)) (h20 : W (.fld F.PEER_STAT_STATE)) (h21 : W (.fld F.PMC_INT_CAUSE_OVF)) (h22 : W (.fld F.PMC_INT_CAUSE_SMP_AVAIL)) (h23 : W (.fld F.PMC_INT_CAUSE_SMP_DROP)) (h24 : W (.fld F.PMC_OVF_STAT_OVF)) (h25 : W (.fld F.PMC_SMP_DROP_RING)) (h26 : W (.fld F.PMC_SMP_STAT_COUNT)) (h27 : W (.fld F.SYN_INT_CAUSE_QL_CHG)) (h28 : W (.fld F.SYN_REF_STAT_ELIGIBLE)) (h29 : W (.fld F.SYN_REF_STAT_QL_EFF)) (h30 : W (.fld F.SYN_STAT_OUT_QL)) (h31 : W (.fld F.SYN_STAT_SEL_QL)) (h32 : W (.fld H.LTX_OUTPUT)) (h33 : W (.fld H.PEER_MUTE_HELD)) (h34 : W (.fld H.PEER_MUTE_WAS)) (h35 : W (.fld H.PEER_SETTLING)) (h36 : W (.fld H.PMC_CNT)) (h37 : W (.fld H.PMC_OVF_DUE)) (h38 : W (.fld H.PMC_OVF_T)) (h39 : W (.fld H.PMC_RING)) (h40 : W (.fld H.PMC_TRACE_POS)) (h41 : W (.fld H.SYN_LINE_OK)) (h42 : W (.fld H.SYN_OUT_RUN)) (h43 : W (.fld H.SYN_QL_SENT)) (h : Moves W s₀ s) :
    Moves W s₀ (Sys2Proof.Machine.Peer.disable s) := by
  unfold Sys2Proof.Machine.Peer.disable
  repeat' (first
    | with_reducible assumption
    | with_reducible apply Moves.clr
    | with_reducible apply Peer_enter_moves
    | with_reducible apply Peer_linkFailed_moves
    | intro _
    | split)

theorem Peer_linkWaitExpiry_moves {W : Part → Prop} {s₀ s : State} (h0 : W (.fld F.LSR_STAT_HOLD)) (h1 : W (.fld F.LSR_STAT_LASER_EN)) (h2 : W (.fld F.LTX_CTRL_MUTE)) (h3 : W (.fld F.LTX_STAT_MUTE_SRC)) (h4 : W (.fld F.PEER_INT_CAUSE_STATE_CHG)) (h5 : W (.fld F.PEER_STAT_PHASE_OK)) (h6 : W (.fld F.PEER_STAT_STATE)) (h7 : W (.fld H.LTX_OUTPUT)) (h8 : W (.fld H.PEER_MUTE_HELD)) (h9 : W (.fld H.PEER_MUTE_WAS)) (h : Moves W s₀ s) :
    Moves W s₀ (Sys2Proof.Machine.Peer.linkWaitExpiry s) := by
  unfold Sys2Proof.Machine.Peer.linkWaitExpiry
  repeat' (first
    | with_reducible assumption
    | with_reducible apply Peer_enter_moves
    | intro _
    | split)

theorem Peer_forceActive_moves {W : Part → Prop} {s₀ s : State} (h0 : W (.fld F.LSR_STAT_HOLD)) (h1 : W (.fld F.LSR_STAT_LASER_EN)) (h2 : W (.fld F.LTX_CTRL_MUTE)) (h3 : W (.fld F.LTX_STAT_MUTE_SRC)) (h4 : W (.fld F.PEER_INT_CAUSE_STATE_CHG)) (h5 : W (.fld F.PEER_STAT_PHASE_OK)) (h6 : W (.fld F.PEER_STAT_STATE)) (h7 : W (.fld H.LTX_OUTPUT)) (h8 : W (.fld H.PEER_MUTE_HELD)) (h9 : W (.fld H.PEER_MUTE_WAS)) (h : Moves W s₀ s) :
    Moves W s₀ (Sys2Proof.Machine.Peer.forceActive s) := by
  unfold Sys2Proof.Machine.Peer.forceActive
  repeat' (first
    | with_reducible assumption
    | with_reducible apply Peer_enter_moves
    | intro _
    | split)

theorem Peer_syncDone_moves {W : Part → Prop} {s₀ s : State} (h0 : W (.fld F.LSR_STAT_HOLD)) (h1 : W (.fld F.LSR_STAT_LASER_EN)) (h2 : W (.fld F.LTX_CTRL_MUTE)) (h3 : W (.fld F.LTX_STAT_MUTE_SRC)) (h4 : W (.fld F.PEER_INT_CAUSE_STATE_CHG)) (h5 : W (.fld F.PEER_INT_CAUSE_SYNC_DONE)) (h6 : W (.fld F.PEER_STAT_PHASE_OK)) (h7 : W (.fld F.PEER_STAT_STATE)) (h8 : W (.fld H.LTX_OUTPUT)) (h9 : W (.fld H.PEER_MUTE_HELD)) (h10 : W (.fld H.PEER_MUTE_WAS)) (h11 : W (.fld H.PEER_PARTNER)) (h : Moves W s₀ s) :
    Moves W s₀ (Sys2Proof.Machine.Peer.syncDone s) := by
  unfold Sys2Proof.Machine.Peer.syncDone
  repeat' (first
    | with_reducible assumption
    | with_reducible apply Moves.put
    | with_reducible apply Moves.set
    | with_reducible apply Peer_enter_moves
    | intro _
    | split)

theorem Peer_dropChanges_moves {W : Part → Prop} {s₀ s : State} (h0 : W .vlk) (h1 : W (.fld F.SCM_CHG_STAT_DS_STATE)) (h2 : W (.fld F.SCM_CHG_STAT_US_STATE)) (h3 : W (.fld F.SCM_GRANT_STAT_STATE)) (h4 : W (.fld F.SCM_INT_CAUSE_CHG_FAIL)) (h5 : W (.fld F.SCM_NAK_MAP_LEAF)) (h6 : W (.fld F.VLK_INT_CAUSE_GRANT_FAIL)) (h7 : W (.fld H.SCM_ACKED)) (h8 : W (.fld H.SCM_ADDRESSED)) (h9 : W (.fld H.SCM_GRANT_ACKED)) (h10 : W (.fld H.SCM_GRANT_ADDR)) (h11 : W (.fld H.VLK_SEQ)) (h : Moves W s₀ s) :
    Moves W s₀ (Sys2Proof.Machine.Peer.dropChanges s) := by
  unfold Sys2Proof.Machine.Peer.dropChanges
  repeat' (first
    | with_reducible assumption
    | with_reducible apply Moves.each
    | with_reducible apply Scm_abandon_moves
    | with_reducible apply Scm_grantAbandon_moves
    | intro _
    | split
    | (extract_lets +onlyGivenNames x; first
      | (refine Moves.keep (W := W) (s₀ := s₀) x ?_ ?_; rotate_left; intro hx; clear_value x; rotate_right)
      | (refine Moves.keep (W := W) (s₀ := s₀) x.2 ?_ ?_; rotate_left; intro hx; clear_value x; rotate_right)
      | (refine Moves.keep (W := W) (s₀ := s₀) x.1 ?_ ?_; rotate_left; intro hx; clear_value x; rotate_right)
      | skip))

theorem Peer_sleepingLeaves_moves {W : Part → Prop} {s₀ s : State} (h0 : W (.fld H.FLW_LOST_HELD)) (h : Moves W s₀ s) :
    Moves W s₀ (Sys2Proof.Machine.Peer.sleepingLeaves s) := by
  unfold Sys2Proof.Machine.Peer.sleepingLeaves
  repeat' (first
    | with_reducible assumption
    | with_reducible apply Moves.eachOf
    | with_reducible apply Moves.set
    | intro _)

theorem Peer_takeover_moves {W : Part → Prop} {s₀ s : State} (h0 : W .vlk) (h1 : W (.arr H.FRM_WIN_ON)) (h2 : W (.fld F.CRY_INT_CAUSE_GUARD_JUMP)) (h3 : W (.fld F.LSR_STAT_HOLD)) (h4 : W (.fld F.LSR_STAT_LASER_EN)) (h5 : W (.fld F.LTX_CTRL_MUTE)) (h6 : W (.fld F.LTX_STAT_MUTE_SRC)) (h7 : W (.fld F.PEER_INT_CAUSE_STATE_CHG)) (h8 : W (.fld F.PEER_INT_CAUSE_TAKEOVER)) (h9 : W (.fld F.PEER_STAT_LAST_TRIG)) (h10 : W (.fld F.PEER_STAT_PHASE_OK)) (h11 : W (.fld F.PEER_STAT_STATE)) (h12 : W (.fld F.PEER_TAKE_CNT_COUNT)) (h13 : W (.fld F.SCM_CHG_STAT_DS_STATE)) (h14 : W (.fld F.SCM_CHG_STAT_US_STATE)) (h15 : W (.fld F.SCM_GRANT_STAT_STATE)) (h16 : W (.fld F.SCM_INT_CAUSE_CHG_FAIL)) (h17 : W (.fld F.SCM_NAK_MAP_LEAF)) (h18 : W (.fld F.VLK_INT_CAUSE_GRANT_FAIL)) (h19 : W (.fld H.CRY_NEXT)) (h20 : W (.fld H.FLW_LOST_HELD)) (h21 : W (.fld H.LTX_OUTPUT)) (h22 : W (.fld H.PEER_MUTE_HELD)) (h23 : W (.fld H.PEER_MUTE_WAS)) (h24 : W (.fld H.PEER_SETTLING)) (h25 : W (.fld H.SCM_ACKED)) (h26 : W (.fld H.SCM_ADDRESSED)) (h27 : W (.fld H.SCM_GRANT_ACKED)) (h28 : W (.fld H.SCM_GRANT_ADDR)) (h29 : W (.fld H.VLK_SEQ)) (a0 : Nat) (h : Moves W s₀ s) :
    Moves W s₀ (Sys2Proof.Machine.Peer.takeover a0 s) := by
  unfold Sys2Proof.Machine.Peer.takeover
  repeat' (first
    | with_reducible assumption
    | with_reducible apply Moves.count
    | with_reducible apply Moves.put
    | with_reducible apply Moves.set
    | with_reducible apply Moves.wipe
    | with_reducible apply Peer_enter_moves
    | with_reducible apply Cry_guardJump_moves
    | with_reducible apply Peer_sleepingLeaves_moves
    | with_reducible apply Peer_dropChanges_moves
    | intro _
    | (extract_lets +onlyGivenNames x; first
      | (refine Moves.keep (W := W) (s₀ := s₀) x ?_ ?_; rotate_left; intro hx; clear_value x; rotate_right)
      | (refine Moves.keep (W := W) (s₀ := s₀) x.2 ?_ ?_; rotate_left; intro hx; clear_value x; rotate_right)
      | (refine Moves.keep (W := W) (s₀ := s₀) x.1 ?_ ?_; rotate_left; intro hx; clear_value x; rotate_right)
      | skip))

theorem Peer_handOver_moves {W : Part → Prop} {s₀ s : State} (h0 : W (.fld F.LSR_STAT_HOLD)) (h1 : W (.fld F.LSR_STAT_LASER_EN)) (h2 : W (.fld F.LTX_CTRL_MUTE)) (h3 : W (.fld F.LTX_STAT_MUTE_SRC)) (h4 : W (.fld F.PEER_INT_CAUSE_STATE_CHG)) (h5 : W (.fld F.PEER_STAT_PHASE_OK)) (h6 : W (.fld F.PEER_STAT_STATE)) (h7 : W (.fld H.LTX_OUTPUT)) (h8 : W (.fld H.PEER_MUTE_HELD)) (h9 : W (.fld H.PEER_MUTE_WAS)) (h10 : W (.fld H.PEER_PARTNER)) (a0 : Nat) (h : Moves W s₀ s) :
    Moves W s₀ (Sys2Proof.Machine.Peer.handOver a0 s) := by
  unfold Sys2Proof.Machine.Peer.handOver
  repeat' (first
    | with_reducible assumption
    | with_reducible apply Moves.emit
    | with_reducible apply Moves.put
    | with_reducible apply Peer_enter_moves
    | with_reducible apply Peer_hold_moves
    | intro _)

theorem Peer_switch_moves {W : Part → Prop} {s₀ s : State} (h0 : W (.fld F.LSR_STAT_HOLD)) (h1 : W (.fld F.LSR_STAT_LASER_EN)) (h2 : W (.fld F.LTX_CTRL_MUTE)) (h3 : W (.fld F.LTX_STAT_MUTE_SRC)) (h4 : W (.fld F.PEER_INT_CAUSE_STATE_CHG)) (h5 : W (.fld F.PEER_INT_CAUSE_SWITCH_REFUSED)) (h6 : W (.fld F.PEER_STAT_PHASE_OK)) (h7 : W (.fld F.PEER_STAT_STATE)) (h8 : W (.fld H.LTX_OUTPUT)) (h9 : W (.fld H.PEER_MUTE_HELD)) (h10 : W (.fld H.PEER_MUTE_WAS)) (h11 : W (.fld H.PEER_PARTNER)) (a0 : Bool) (h : Moves W s₀ s) :
    Moves W s₀ (Sys2Proof.Machine.Peer.switch a0 s) := by
  unfold Sys2Proof.Machine.Peer.switch
  repeat' (first
    | with_reducible assumption
    | with_reducible apply Moves.emit
    | with_reducible apply Moves.set
    | with_reducible apply Peer_handOver_moves
    | intro _
    | split)

theorem Peer_activeFault_moves {W : Part → Prop} {s₀ s : State} (h0 : W (.fld F.LSR_STAT_HOLD)) (h1 : W (.fld F.LSR_STAT_LASER_EN)) (h2 : W (.fld F.LTX_CTRL_MUTE)) (h3 : W (.fld F.LTX_STAT_MUTE_SRC)) (h4 : W (.fld F.PEER_INT_CAUSE_STATE_CHG)) (h5 : W (.fld F.PEER_STAT_PHASE_OK)) (h6 : W (.fld F.PEER_STAT_STATE)) (h7 : W (.fld H.LTX_OUTPUT)) (h8 : W (.fld H.PEER_MUTE_HELD)) (h9 : W (.fld H.PEER_MUTE_WAS)) (h10 : W (.fld H.PEER_PARTNER)) (a0 : Nat) (h : Moves W s₀ s) :
    Moves W s₀ (Sys2Proof.Machine.Peer.activeFault a0 s) := by
  unfold Sys2Proof.Machine.Peer.activeFault
  repeat' (first
    | with_reducible assumption
    | with_reducible apply Peer_handOver_moves
    | intro _
    | split)

theorem Peer_partnerLost_moves {W : Part → Prop} {s₀ s : State} (h0 : W .vlk) (h1 : W (.arr H.FRM_WIN_ON)) (h2 : W (.fld F.CRY_INT_CAUSE_GUARD_JUMP)) (h3 : W (.fld F.LSR_STAT_HOLD)) (h4 : W (.fld F.LSR_STAT_LASER_EN)) (h5 : W (.fld F.LTX_CTRL_MUTE)) (h6 : W (.fld F.LTX_STAT_MUTE_SRC)) (h7 : W (.fld F.PEER_INT_CAUSE_STATE_CHG)) (h8 : W (.fld F.PEER_INT_CAUSE_TAKEOVER)) (h9 : W (.fld F.PEER_STAT_LAST_TRIG)) (h10 : W (.fld F.PEER_STAT_PHASE_OK)) (h11 : W (.fld F.PEER_STAT_STATE)) (h12 : W (.fld F.PEER_TAKE_CNT_COUNT)) (h13 : W (.fld F.SCM_CHG_STAT_DS_STATE)) (h14 : W (.fld F.SCM_CHG_STAT_US_STATE)) (h15 : W (.fld F.SCM_GRANT_STAT_STATE)) (h16 : W (.fld F.SCM_INT_CAUSE_CHG_FAIL)) (h17 : W (.fld F.SCM_NAK_MAP_LEAF)) (h18 : W (.fld F.VLK_INT_CAUSE_GRANT_FAIL)) (h19 : W (.fld H.CRY_NEXT)) (h20 : W (.fld H.FLW_LOST_HELD)) (h21 : W (.fld H.LTX_OUTPUT)) (h22 : W (.fld H.PEER_MUTE_HELD)) (h23 : W (.fld H.PEER_MUTE_WAS)) (h24 : W (.fld H.PEER_SETTLING)) (h25 : W (.fld H.SCM_ACKED)) (h26 : W (.fld H.SCM_ADDRESSED)) (h27 : W (.fld H.SCM_GRANT_ACKED)) (h28 : W (.fld H.SCM_GRANT_ADDR)) (h29 : W (.fld H.VLK_SEQ)) (a0 : Nat) (h : Moves W s₀ s) :
    Moves W s₀ (Sys2Proof.Machine.Peer.partnerLost a0 s) := by
  unfold Sys2Proof.Machine.Peer.partnerLost
  repeat' (first
    | with_reducible assumption
    | with_reducible apply Peer_takeover_moves
    | with_reducible apply Peer_enter_moves
    | intro _
    | split)

theorem Peer_handover_moves {W : Part → Prop} {s₀ s : State} (h0 : W .vlk) (h1 : W (.arr H.FRM_WIN_ON)) (h2 : W (.fld F.CRY_INT_CAUSE_GUARD_JUMP)) (h3 : W (.fld F.LSR_STAT_HOLD)) (h4 : W (.fld F.LSR_STAT_LASER_EN)) (h5 : W (.fld F.LTX_CTRL_MUTE)) (h6 : W (.fld F.LTX_STAT_MUTE_SRC)) (h7 : W (.fld F.PEER_INT_CAUSE_STATE_CHG)) (h8 : W (.fld F.PEER_INT_CAUSE_TAKEOVER)) (h9 : W (.fld F.PEER_STAT_LAST_TRIG)) (h10 : W (.fld F.PEER_STAT_PHASE_OK)) (h11 : W (.fld F.PEER_STAT_STATE)) (h12 : W (.fld F.PEER_TAKE_CNT_COUNT)) (h13 : W (.fld F.SCM_CHG_STAT_DS_STATE)) (h14 : W (.fld F.SCM_CHG_STAT_US_STATE)) (h15 : W (.fld F.SCM_GRANT_STAT_STATE)) (h16 : W (.fld F.SCM_INT_CAUSE_CHG_FAIL)) (h17 : W (.fld F.SCM_NAK_MAP_LEAF)) (h18 : W (.fld F.VLK_INT_CAUSE_GRANT_FAIL)) (h19 : W (.fld H.CRY_NEXT)) (h20 : W (.fld H.FLW_LOST_HELD)) (h21 : W (.fld H.LTX_OUTPUT)) (h22 : W (.fld H.PEER_MUTE_HELD)) (h23 : W (.fld H.PEER_MUTE_WAS)) (h24 : W (.fld H.PEER_PARTNER)) (h25 : W (.fld H.PEER_SETTLING)) (h26 : W (.fld H.SCM_ACKED)) (h27 : W (.fld H.SCM_ADDRESSED)) (h28 : W (.fld H.SCM_GRANT_ACKED)) (h29 : W (.fld H.SCM_GRANT_ADDR)) (h30 : W (.fld H.VLK_SEQ)) (a0 : Nat) (h : Moves W s₀ s) :
    Moves W s₀ (Sys2Proof.Machine.Peer.handover a0 s) := by
  unfold Sys2Proof.Machine.Peer.handover
  repeat' (first
    | with_reducible assumption
    | with_reducible apply Moves.put
    | with_reducible apply Peer_takeover_moves
    | intro _
    | split)

theorem Peer_laserSettled_moves {W : Part → Prop} {s₀ s : State} (h0 : W (.fld F.LSR_STAT_HOLD)) (h1 : W (.fld F.LSR_STAT_LASER_EN)) (h2 : W (.fld F.LTX_CTRL_MUTE)) (h3 : W (.fld F.LTX_STAT_MUTE_SRC)) (h4 : W (.fld F.PEER_INT_CAUSE_STATE_CHG)) (h5 : W (.fld F.PEER_STAT_PHASE_OK)) (h6 : W (.fld F.PEER_STAT_STATE)) (h7 : W (.fld H.LTX_OUTPUT)) (h8 : W (.fld H.PEER_MUTE_HELD)) (h9 : W (.fld H.PEER_MUTE_WAS)) (h10 : W (.fld H.PEER_SETTLING)) (h : Moves W s₀ s) :
    Moves W s₀ (Sys2Proof.Machine.Peer.laserSettled s) := by
  unfold Sys2Proof.Machine.Peer.laserSettled
  repeat' (first
    | with_reducible assumption
    | with_reducible apply Moves.clr
    | with_reducible apply Peer_letGo_moves
    | with_reducible apply Peer_bulkCopy_moves
    | with_reducible apply Peer_enter_moves
    | intro _
    | split
    | (extract_lets +onlyGivenNames x; first
      | (refine Moves.keep (W := W) (s₀ := s₀) x ?_ ?_; rotate_left; intro hx; clear_value x; rotate_right)
      | (refine Moves.keep (W := W) (s₀ := s₀) x.2 ?_ ?_; rotate_left; intro hx; clear_value x; rotate_right)
      | (refine Moves.keep (W := W) (s₀ := s₀) x.1 ?_ ?_; rotate_left; intro hx; clear_value x; rotate_right)
      | skip))

theorem Peer_assignSync_moves {W : Part → Prop} {s₀ s : State} (h0 : W .vlk) (h1 : W (.fld H.VLK_SEQ)) (a0 : Nat) (h : Moves W s₀ s) :
    Moves W s₀ (Sys2Proof.Machine.Peer.assignSync a0 s) := by
  unfold Sys2Proof.Machine.Peer.assignSync
  repeat' (first
    | with_reducible assumption
    | with_reducible apply Vlk_toLeaf_moves
    | intro _)

theorem Peer_eqdMeasure_moves {W : Part → Prop} {s₀ s : State} (h0 : W .vlk) (h1 : W (.fld F.PEER_EQD_MEAS_EQD)) (h2 : W (.fld F.PEER_EQD_MEAS_VALID)) (h3 : W (.fld F.PEER_INT_CAUSE_EQD_UPD)) (h4 : W (.fld F.VLK_LEAF_EQD_EQD)) (h5 : W (.fld F.VLK_LEAF_EQD_VALID)) (h6 : W (.fld H.VLK_SEQ)) (a0 : Nat) (a1 : Int) (a2 : Nat) (h : Moves W s₀ s) :
    Moves W s₀ (Sys2Proof.Machine.Peer.eqdMeasure a0 a1 a2 s) := by
  unfold Sys2Proof.Machine.Peer.eqdMeasure
  repeat' (first
    | with_reducible assumption
    | with_reducible apply Moves.emit
    | with_reducible apply Moves.put
    | with_reducible apply Moves.set
    | with_reducible apply Peer_assignSync_moves
    | intro _
    | split
    | (extract_lets +onlyGivenNames x; first
      | (refine Moves.keep (W := W) (s₀ := s₀) x ?_ ?_; rotate_left; intro hx; clear_value x; rotate_right)
      | (refine Moves.keep (W := W) (s₀ := s₀) x.2 ?_ ?_; rotate_left; intro hx; clear_value x; rotate_right)
      | (refine Moves.keep (W := W) (s₀ := s₀) x.1 ?_ ?_; rotate_left; intro hx; clear_value x; rotate_right)
      | skip))

theorem Peer_writeCtrl_moves {W : Part → Prop} {s₀ s : State} (h0 : W .qdr) (h1 : W (.fld F.CRY_KEY_DATA_KEY)) (h2 : W (.fld F.CRY_KEY_SALT_SALT)) (h3 : W (.fld F.CRY_LOCK_STAT_LOCK_BROKEN)) (h4 : W (.fld F.CRY_LOCK_STAT_OWNER)) (h5 : W (.fld F.LSR_STAT_HOLD)) (h6 : W (.fld F.LSR_STAT_LASER_EN)) (h7 : W (.fld F.LTX_CTRL_MUTE)) (h8 : W (.fld F.LTX_STAT_MUTE_SRC)) (h9 : W (.fld F.MBX_INT_CAUSE_RESET_SEEN)) (h10 : W (.fld F.MBX_LOCK_STAT_LOCK_BROKEN)) (h11 : W (.fld F.MBX_LOCK_STAT_OWNER)) (h12 : W (.fld F.MBX_STAT_RX_RESET_SEEN)) (h13 : W (.fld F.MBX_STAT_SENDER_RESET_SEEN)) (h14 : W (.fld F.PEER_CTRL_AUTO_EQD)) (h15 : W (.fld F.PEER_CTRL_EN)) (h16 : W (.fld F.PEER_INT_CAUSE_LINK_CHG)) (h17 : W (.fld F.PEER_INT_CAUSE_STATE_CHG)) (h18 : W (.fld F.PEER_INT_CAUSE_SWITCH_REFUSED)) (h19 : W (.fld F.PEER_STAT_LANE_LOCK)) (h20 : W (.fld F.PEER_STAT_LINK)) (h21 : W (.fld F.PEER_STAT_PHASE_OK)) (h22 : W (.fld F.PEER_STAT_STATE)) (h23 : W (.fld F.PMC_INT_CAUSE_OVF)) (h24 : W (.fld F.PMC_INT_CAUSE_SMP_AVAIL)) (h25 : W (.fld F.PMC_INT_CAUSE_SMP_DROP)) (h26 : W (.fld F.PMC_OVF_STAT_OVF)) (h27 : W (.fld F.PMC_SMP_DROP_RING)) (h28 : W (.fld F.PMC_SMP_STAT_COUNT)) (h29 : W (.fld F.SYN_INT_CAUSE_QL_CHG)) (h30 : W (.fld F.SYN_REF_STAT_ELIGIBLE)) (h31 : W (.fld F.SYN_REF_STAT_QL_EFF)) (h32 : W (.fld F.SYN_STAT_OUT_QL)) (h33 : W (.fld F.SYN_STAT_SEL_QL)) (h34 : W (.fld H.LTX_OUTPUT)) (h35 : W (.fld H.PEER_MUTE_HELD)) (h36 : W (.fld H.PEER_MUTE_WAS)) (h37 : W (.fld H.PEER_PARTNER)) (h38 : W (.fld H.PEER_SETTLING)) (h39 : W (.fld H.PMC_CNT)) (h40 : W (.fld H.PMC_OVF_DUE)) (h41 : W (.fld H.PMC_OVF_T)) (h42 : W (.fld H.PMC_RING)) (h43 : W (.fld H.PMC_TRACE_POS)) (h44 : W (.fld H.SYN_LINE_OK)) (h45 : W (.fld H.SYN_OUT_RUN)) (h46 : W (.fld H.SYN_QL_SENT)) (a0 : Nat) (h : Moves W s₀ s) :
    Moves W s₀ (Sys2Proof.Machine.Peer.writeCtrl a0 s) := by
  unfold Sys2Proof.Machine.Peer.writeCtrl
  repeat' (first
    | with_reducible assumption
    | with_reducible apply Moves.put
    | with_reducible apply Peer_enable_moves
    | with_reducible apply Peer_disable_moves
    | with_reducible apply Peer_switch_moves
    | with_reducible apply Peer_forceActive_moves
    | intro _
    | split
    | (extract_lets +onlyGivenNames x; first
      | (refine Moves.keep (W := W) (s₀ := s₀) x ?_ ?_; rotate_left; intro hx; clear_value x; rotate_right)
      | (refine Moves.keep (W := W) (s₀ := s₀) x.2 ?_ ?_; rotate_left; intro hx; clear_value x; rotate_right)
      | (refine Moves.keep (W := W) (s₀ := s₀) x.1 ?_ ?_; rotate_left; intro hx; clear_value x; rotate_right)
      | skip))

theorem Peer_writeCfg_moves {W : Part → Prop} {s₀ s : State} (h0 : W (.fld F.PEER_CFG_DARK_MS)) (h1 : W (.fld F.PEER_CFG_FEEDER)) (h2 : W (.fld F.PEER_CFG_LASER_MS)) (h3 : W (.fld F.PEER_CFG_LINK_WAIT_S)) (h4 : W (.fld F.PEER_CFG_MUTE_MS)) (h5 : W (.fld F.PEER_CFG_PREFER)) (h6 : W (.fld F.PEER_CFG_REACH)) (h7 : W (.fld F.PEER_CFG_SOLO_OK)) (a0 : Nat) (h : Moves W s₀ s) :
    Moves W s₀ (Sys2Proof.Machine.Peer.writeCfg a0 s) := by
  unfold Sys2Proof.Machine.Peer.writeCfg
  repeat' (first
    | with_reducible assumption
    | with_reducible apply Moves.put
    | intro _
    | split
    | (extract_lets +onlyGivenNames x; first
      | (refine Moves.keep (W := W) (s₀ := s₀) x ?_ ?_; rotate_left; intro hx; clear_value x; rotate_right)
      | (refine Moves.keep (W := W) (s₀ := s₀) x.2 ?_ ?_; rotate_left; intro hx; clear_value x; rotate_right)
      | (refine Moves.keep (W := W) (s₀ := s₀) x.1 ?_ ?_; rotate_left; intro hx; clear_value x; rotate_right)
      | skip))

end Sys2Proof.Laws
end

