-- ==== Sys2Proof/Laws/MovesSys.lean ====
section
/-! SUPPORT. Sys2Proof/Laws/MovesSys.lean: what each operation of Machine/Sys.lean may write (Laws/Moves.lean). -/
namespace Sys2Proof.Laws
open Sys2Proof Sys2Proof.Machine

theorem Sys_masterReset_moves {W : Part → Prop} {s₀ s : State} (h0 : W .qdr) (h1 : W (.fld F.CRY_KEY_DATA_KEY)) (h2 : W (.fld F.CRY_KEY_SALT_SALT)) (h3 : W (.fld F.CRY_LOCK_STAT_LOCK_BROKEN)) (h4 : W (.fld F.CRY_LOCK_STAT_OWNER)) (h5 : W (.fld F.MBX_INT_CAUSE_RESET_SEEN)) (h6 : W (.fld F.MBX_LOCK_STAT_LOCK_BROKEN)) (h7 : W (.fld F.MBX_LOCK_STAT_OWNER)) (h8 : W (.fld F.MBX_STAT_RX_RESET_SEEN)) (h9 : W (.fld F.MBX_STAT_SENDER_RESET_SEEN)) (h10 : W (.fld F.PMC_INT_CAUSE_OVF)) (h11 : W (.fld F.PMC_INT_CAUSE_SMP_AVAIL)) (h12 : W (.fld F.PMC_INT_CAUSE_SMP_DROP)) (h13 : W (.fld F.PMC_OVF_STAT_OVF)) (h14 : W (.fld F.PMC_SMP_DROP_RING)) (h15 : W (.fld F.PMC_SMP_STAT_COUNT)) (h16 : W (.fld F.SYN_INT_CAUSE_PRIV_CLOSED)) (h17 : W (.fld F.SYN_NCO_CTRL_OPEN)) (h18 : W (.fld F.SYN_NCO_CTRL_OWNER)) (h19 : W (.fld H.PMC_CNT)) (h20 : W (.fld H.PMC_OVF_DUE)) (h21 : W (.fld H.PMC_OVF_T)) (h22 : W (.fld H.PMC_RING)) (h23 : W (.fld H.PMC_TRACE_POS)) (h24 : W (.fld H.SYN_KEYSTEP)) (h25 : W (.fld H.SYN_NCO_RAMP)) (a0 : Nat) (h : Moves W s₀ s) :
    Moves W s₀ (Sys2Proof.Machine.Sys.masterReset a0 s) := by
  unfold Sys2Proof.Machine.Sys.masterReset
  repeat' (first
    | with_reducible assumption
    | with_reducible apply Syn_ownerReset_moves
    | with_reducible apply Mbx_masterReset_moves
    | intro _)

theorem Sys_cut_moves {W : Part → Prop} {s₀ s : State} (h0 : W .eng) (h1 : W .qdr) (h2 : W (.fld F.ENG_GREG_VAL)) (h3 : W (.fld F.ENG_INT_CAUSE_ABORT)) (h4 : W (.fld F.ENG_STAT_FAULTED)) (h5 : W (.fld F.ENG_STAT_INFLIGHT)) (h6 : W (.fld F.ENG_STAT_RUNNING)) (h7 : W (.fld F.ENG_STAT_TAGS_USED)) (h8 : W (.fld F.ENG_TAG_ALLOC)) (h9 : W (.fld F.ENG_TAG_STATE)) (h10 : W (.fld F.ENG_THR_STAT_PC)) (h11 : W (.fld F.ENG_THR_STAT_STATE)) (h12 : W (.fld F.PMC_INT_CAUSE_OVF)) (h13 : W (.fld F.PMC_INT_CAUSE_SMP_AVAIL)) (h14 : W (.fld F.PMC_INT_CAUSE_SMP_DROP)) (h15 : W (.fld F.PMC_OVF_STAT_OVF)) (h16 : W (.fld F.PMC_SMP_DROP_RING)) (h17 : W (.fld F.PMC_SMP_STAT_COUNT)) (h18 : W (.fld H.ENG_JRNL)) (h19 : W (.fld H.ENG_PAST)) (h20 : W (.fld H.PMC_CNT)) (h21 : W (.fld H.PMC_OVF_DUE)) (h22 : W (.fld H.PMC_OVF_T)) (h23 : W (.fld H.PMC_RING)) (h24 : W (.fld H.PMC_TRACE_POS)) (a0 : Sys2Proof.Machine.EngOp) (a1 : Nat) (h : Moves W s₀ s) :
    Moves W s₀ (Sys2Proof.Machine.Sys.cut a0 a1 s) := by
  unfold Sys2Proof.Machine.Sys.cut
  repeat' (first
    | with_reducible assumption
    | with_reducible apply Eng_finalise_moves
    | intro _
    | split
    | (extract_lets +onlyGivenNames x; first
      | (refine Moves.keep (W := W) (s₀ := s₀) x ?_ ?_; rotate_left; intro hx; clear_value x; rotate_right)
      | (refine Moves.keep (W := W) (s₀ := s₀) x.2 ?_ ?_; rotate_left; intro hx; clear_value x; rotate_right)
      | (refine Moves.keep (W := W) (s₀ := s₀) x.1 ?_ ?_; rotate_left; intro hx; clear_value x; rotate_right)
      | skip))

theorem Sys_resetOp_moves {W : Part → Prop} {s₀ s : State} (h0 : W .eng) (h1 : W .qdr) (h2 : W (.fld F.ENG_GREG_VAL)) (h3 : W (.fld F.ENG_INT_CAUSE_ABORT)) (h4 : W (.fld F.ENG_STAT_FAULTED)) (h5 : W (.fld F.ENG_STAT_INFLIGHT)) (h6 : W (.fld F.ENG_STAT_RUNNING)) (h7 : W (.fld F.ENG_STAT_TAGS_USED)) (h8 : W (.fld F.ENG_TAG_ALLOC)) (h9 : W (.fld F.ENG_TAG_STATE)) (h10 : W (.fld F.ENG_THR_STAT_PC)) (h11 : W (.fld F.ENG_THR_STAT_STATE)) (h12 : W (.fld F.PMC_INT_CAUSE_OVF)) (h13 : W (.fld F.PMC_INT_CAUSE_SMP_AVAIL)) (h14 : W (.fld F.PMC_INT_CAUSE_SMP_DROP)) (h15 : W (.fld F.PMC_OVF_STAT_OVF)) (h16 : W (.fld F.PMC_SMP_DROP_RING)) (h17 : W (.fld F.PMC_SMP_STAT_COUNT)) (h18 : W (.fld H.ENG_JRNL)) (h19 : W (.fld H.ENG_PAST)) (h20 : W (.fld H.PMC_CNT)) (h21 : W (.fld H.PMC_OVF_DUE)) (h22 : W (.fld H.PMC_OVF_T)) (h23 : W (.fld H.PMC_RING)) (h24 : W (.fld H.PMC_TRACE_POS)) (a0 : Sys2Proof.Machine.EngOp) (h : Moves W s₀ s) :
    Moves W s₀ (Sys2Proof.Machine.Sys.resetOp a0 s) := by
  unfold Sys2Proof.Machine.Sys.resetOp
  repeat' (first
    | with_reducible assumption
    | with_reducible apply Eng_finalise_moves
    | with_reducible apply Sys_cut_moves
    | intro _
    | split
    | (extract_lets +onlyGivenNames x; first
      | (refine Moves.keep (W := W) (s₀ := s₀) x ?_ ?_; rotate_left; intro hx; clear_value x; rotate_right)
      | (refine Moves.keep (W := W) (s₀ := s₀) x.2 ?_ ?_; rotate_left; intro hx; clear_value x; rotate_right)
      | (refine Moves.keep (W := W) (s₀ := s₀) x.1 ?_ ?_; rotate_left; intro hx; clear_value x; rotate_right)
      | skip)
    | (with_reducible refine Moves.eng _ ?_ ?_ <;> with_reducible first
      | assumption
      | apply Eng_finalise_moves
      | apply Sys_cut_moves))

theorem Sys_engineReset_moves {W : Part → Prop} {s₀ s : State} (h0 : W .eng) (h1 : W .qdr) (h2 : W (.fld F.CRY_KEY_DATA_KEY)) (h3 : W (.fld F.CRY_KEY_SALT_SALT)) (h4 : W (.fld F.CRY_LOCK_STAT_LOCK_BROKEN)) (h5 : W (.fld F.CRY_LOCK_STAT_OWNER)) (h6 : W (.fld F.ENG_CFG_ACC_TMO)) (h7 : W (.fld F.ENG_FLAGS_FLAG)) (h8 : W (.fld F.ENG_GREG_VAL)) (h9 : W (.fld F.ENG_INT_CAUSE_ABORT)) (h10 : W (.fld F.ENG_INT_CAUSE_ACT_ERR)) (h11 : W (.fld F.ENG_INT_CAUSE_FAULT)) (h12 : W (.fld F.ENG_INT_CAUSE_HALT)) (h13 : W (.fld F.ENG_INT_CAUSE_MEM_REFUSED)) (h14 : W (.fld F.ENG_INT_CAUSE_SPILL_LOST)) (h15 : W (.fld F.ENG_INT_MASK_MASK)) (h16 : W (.fld F.ENG_JRNL_IDX_IDX)) (h17 : W (.fld F.ENG_MEM_ADDR_ADDR)) (h18 : W (.fld F.ENG_MEM_ADDR_SPACE)) (h19 : W (.fld F.ENG_QACC_FREE_R)) (h20 : W (.fld F.ENG_QACC_FREE_W)) (h21 : W (.fld F.ENG_QACC_LOG_R)) (h22 : W (.fld F.ENG_STAT_FAULTED)) (h23 : W (.fld F.ENG_STAT_INFLIGHT)) (h24 : W (.fld F.ENG_STAT_RUNNING)) (h25 : W (.fld F.ENG_STAT_TAGS_USED)) (h26 : W (.fld F.ENG_TAG_ALLOC)) (h27 : W (.fld F.ENG_TAG_STATE)) (h28 : W (.fld F.ENG_THR_STAT_CAUSE)) (h29 : W (.fld F.ENG_THR_STAT_PC)) (h30 : W (.fld F.ENG_THR_STAT_STATE)) (h31 : W (.fld F.ENG_UWIN_BASE)) (h32 : W (.fld F.ENG_UWIN_PAGES)) (h33 : W (.fld F.ENG_UWIN_WRITE)) (h34 : W (.fld F.MBX_INT_CAUSE_RESET_SEEN)) (h35 : W (.fld F.MBX_LOCK_STAT_LOCK_BROKEN)) (h36 : W (.fld F.MBX_LOCK_STAT_OWNER)) (h37 : W (.fld F.MBX_STAT_RX_RESET_SEEN)) (h38 : W (.fld F.MBX_STAT_SENDER_RESET_SEEN)) (h39 : W (.fld F.PMC_INT_CAUSE_OVF)) (h40 : W (.fld F.PMC_INT_CAUSE_SMP_AVAIL)) (h41 : W (.fld F.PMC_INT_CAUSE_SMP_DROP)) (h42 : W (.fld F.PMC_OVF_STAT_OVF)) (h43 : W (.fld F.PMC_SMP_DROP_RING)) (h44 : W (.fld F.PMC_SMP_STAT_COUNT)) (h45 : W (.fld F.SYN_INT_CAUSE_PRIV_CLOSED)) (h46 : W (.fld F.SYN_NCO_CTRL_OPEN)) (h47 : W (.fld F.SYN_NCO_CTRL_OWNER)) (h48 : W (.fld H.ENG_JRNL)) (h49 : W (.fld H.ENG_PAST)) (h50 : W (.fld H.PMC_CNT)) (h51 : W (.fld H.PMC_OVF_DUE)) (h52 : W (.fld H.PMC_OVF_T)) (h53 : W (.fld H.PMC_RING)) (h54 : W (.fld H.PMC_TRACE_POS)) (h55 : W (.fld H.SYN_KEYSTEP)) (h56 : W (.fld H.SYN_NCO_RAMP)) (a0 : Nat) (h : Moves W s₀ s) :
    Moves W s₀ (Sys2Proof.Machine.Sys.engineReset a0 s) := by
  unfold Sys2Proof.Machine.Sys.engineReset
  repeat' (first
    | with_reducible assumption
    | simp only [Sys.engineRegs, List.foldl_cons, List.foldl_nil]
    | with_reducible apply Moves.clr
    | with_reducible apply Moves.each
    | with_reducible apply Moves.eachOf
    | with_reducible apply Moves.foldl
    | with_reducible apply Moves.put
    | with_reducible apply Eng_enter_moves
    | with_reducible apply Eng_setReg_moves
    | with_reducible apply Sys_resetOp_moves
    | with_reducible apply Eng_releaseTag_moves
    | with_reducible apply Sys_masterReset_moves
    | intro _
    | split
    | (extract_lets +onlyGivenNames x; first
      | (refine Moves.keep (W := W) (s₀ := s₀) x ?_ ?_; rotate_left; intro hx; clear_value x; rotate_right)
      | (refine Moves.keep (W := W) (s₀ := s₀) x.2 ?_ ?_; rotate_left; intro hx; clear_value x; rotate_right)
      | (refine Moves.keep (W := W) (s₀ := s₀) x.1 ?_ ?_; rotate_left; intro hx; clear_value x; rotate_right)
      | skip))

theorem Sys_resetFields_moves {W : Part → Prop} {s₀ s : State} (hw : ∀ x, W x) (a0 : Nat) (h : Moves W s₀ s) :
    Moves W s₀ (Sys2Proof.Machine.Sys.resetFields a0 s) := by
  unfold Sys2Proof.Machine.Sys.resetFields
  repeat' (first
    | with_reducible assumption
    | exact hw _
    | intro _
    | (with_reducible refine Moves.drop _ hw ?_ <;> with_reducible first
      | assumption
      | exact hw _))

theorem Sys_quiesce_moves {W : Part → Prop} {s₀ s : State} (h0 : W .brx) (h1 : W .flw) (h2 : W .frm) (h3 : W .qdr) (h4 : W .vlk) (h5 : W (.fld F.BRX_CNT_COUNT)) (h6 : W (.fld F.BRX_COL_STAT_COUNT)) (h7 : W (.fld F.BRX_COL_STAT_HEAD_DONE)) (h8 : W (.fld F.BRX_CTRL_EN)) (h9 : W (.fld F.BRX_REC_STAT_COUNT)) (h10 : W (.fld F.BRX_STAT_CH)) (h11 : W (.fld F.BST_INT_CAUSE_DONE)) (h12 : W (.fld F.BST_RESULT_RESULT)) (h13 : W (.fld F.BST_STAT_BUSY)) (h14 : W (.fld F.CAL_DEFERRED_VAL)) (h15 : W (.fld F.CAL_INT_CAUSE_ABORTED)) (h16 : W (.fld F.CAL_STAT_STATE)) (h17 : W (.fld F.CAL_STAT_TYPE)) (h18 : W (.fld F.CRY_KEY_DATA_KEY)) (h19 : W (.fld F.CRY_KEY_SALT_SALT)) (h20 : W (.fld F.CRY_LOCK_STAT_LOCK_BROKEN)) (h21 : W (.fld F.CRY_LOCK_STAT_OWNER)) (h22 : W (.fld F.FLW_INT_CAUSE_SLEEP_DROP)) (h23 : W (.fld F.FLW_SLEEP_DROP_COUNT)) (h24 : W (.fld F.FRM_DEF_FLOW_DEF)) (h25 : W (.fld F.FRM_RA_STAT_FILL)) (h26 : W (.fld F.FRM_RA_STAT_JUST)) (h27 : W (.fld F.HKA_STAT_CAL_HOLD)) (h28 : W (.fld F.HKA_STAT_INJ_PEND)) (h29 : W (.fld F.HKA_STAT_STATE)) (h30 : W (.fld F.HSL_CLI_CFG_EN)) (h31 : W (.fld F.HSL_CLI_STAT_STATE)) (h32 : W (.fld F.HSL_INT_CAUSE_CLI_DOWN)) (h33 : W (.fld F.HSL_INT_CAUSE_CLI_UP)) (h34 : W (.fld F.HSL_INT_CAUSE_RCLK_SQ)) (h35 : W (.fld F.HSL_LANE_STAT_AM_LOCK)) (h36 : W (.fld F.HSL_LANE_STAT_CDR_LOCK)) (h37 : W (.fld F.HSL_LANE_STAT_RX_INV)) (h38 : W (.fld F.HSL_LANE_STAT_SIG)) (h39 : W (.fld F.HSL_RCLK_SEL_SQUELCHED)) (h40 : W (.fld F.LRX_CTRL_EN)) (h41 : W (.fld F.LRX_INT_CAUSE_LOAD_CANCELLED)) (h42 : W (.fld F.LRX_INT_CAUSE_LOS_CHG)) (h43 : W (.fld F.LRX_INT_CAUSE_TRACK)) (h44 : W (.fld F.LRX_INT_CAUSE_TRACK_LOST)) (h45 : W (.fld F.LRX_SC_STAT_LOCK)) (h46 : W (.fld F.LRX_STAT_ACQ_RETRY)) (h47 : W (.fld F.LRX_STAT_ANNOUNCED)) (h48 : W (.fld F.LRX_STAT_CD_ARMED)) (h49 : W (.fld F.LRX_STAT_CD_FADING)) (h50 : W (.fld F.LRX_STAT_CD_HELD)) (h51 : W (.fld F.LRX_STAT_LOS)) (h52 : W (.fld F.LRX_STAT_SHADOW_READY)) (h53 : W (.fld F.LRX_STAT_STATE)) (h54 : W (.fld F.LSR_STAT_HOLD)) (h55 : W (.fld F.LSR_STAT_LASER_EN)) (h56 : W (.fld F.LTX_CTRL_EN)) (h57 : W (.fld F.LTX_CTRL_MUTE)) (h58 : W (.fld F.LTX_INT_CAUSE_LOAD_CANCELLED)) (h59 : W (.fld F.LTX_STAT_ACTIVE)) (h60 : W (.fld F.LTX_STAT_ANNOUNCED)) (h61 : W (.fld F.LTX_STAT_MUTE_SRC)) (h62 : W (.fld F.LTX_STAT_SHADOW_READY)) (h63 : W (.fld F.MBX_INT_CAUSE_RESET_SEEN)) (h64 : W (.fld F.MBX_LOCK_STAT_LOCK_BROKEN)) (h65 : W (.fld F.MBX_LOCK_STAT_OWNER)) (h66 : W (.fld F.MBX_STAT_RX_RESET_SEEN)) (h67 : W (.fld F.MBX_STAT_SENDER_RESET_SEEN)) (h68 : W (.fld F.PEER_CTRL_EN)) (h69 : W (.fld F.PEER_INT_CAUSE_LINK_CHG)) (h70 : W (.fld F.PEER_INT_CAUSE_STATE_CHG)) (h71 : W (.fld F.PEER_STAT_LANE_LOCK)) (h72 : W (.fld F.PEER_STAT_LINK)) (h73 : W (.fld F.PEER_STAT_PHASE_OK)) (h74 : W (.fld F.PEER_STAT_STATE)) (h75 : W (.fld F.PMC_INT_CAUSE_OVF)) (h76 : W (.fld F.PMC_INT_CAUSE_SMP_AVAIL)) (h77 : W (.fld F.PMC_INT_CAUSE_SMP_DROP)) (h78 : W (.fld F.PMC_OVF_STAT_OVF)) (h79 : W (.fld F.PMC_SMP_DROP_RING)) (h80 : W (.fld F.PMC_SMP_STAT_COUNT)) (h81 : W (.fld F.PWR_AVS_READ_BUSY)) (h82 : W (.fld F.PWR_VMIN_VMIN_MV)) (h83 : W (.fld F.PWR_VMIN_VREQ_MV)) (h84 : W (.fld F.QDM_BW_LIMIT)) (h85 : W (.fld F.QDM_BW_USED)) (h86 : W (.fld F.QDM_CTRL_EN)) (h87 : W (.fld F.QDM_POOL_STAT_DIE_FREE)) (h88 : W (.fld F.QDM_POOL_STAT_QDR_FREE)) (h89 : W (.fld F.QDM_STAT_IN_USE)) (h90 : W (.fld F.SCM_CHG_STAT_DS_STATE)) (h91 : W (.fld F.SCM_CHG_STAT_US_STATE)) (h92 : W (.fld F.SCM_INT_CAUSE_CHG_FAIL)) (h93 : W (.fld F.SCM_NAK_MAP_LEAF)) (h94 : W (.fld F.SYN_INT_CAUSE_QL_CHG)) (h95 : W (.fld F.SYN_REF_STAT_ELIGIBLE)) (h96 : W (.fld F.SYN_REF_STAT_QL_EFF)) (h97 : W (.fld F.SYN_STAT_OUT_QL)) (h98 : W (.fld F.SYN_STAT_SEL_QL)) (h99 : W (.fld H.BST_TODO)) (h100 : W (.fld H.BST_WAITING)) (h101 : W (.fld H.CAL_AUTO_PEND)) (h102 : W (.fld H.CAL_HOST)) (h103 : W (.fld H.CAL_PASSED)) (h104 : W (.fld H.CAL_RETRY)) (h105 : W (.fld H.CAL_T0)) (h106 : W (.fld H.CAL_TEMP0)) (h107 : W (.fld H.ENG_DMEM)) (h108 : W (.fld H.ENG_IMEM)) (h109 : W (.fld H.FLW_CTX_FLOW)) (h110 : W (.fld H.FLW_ERR_NEXT)) (h111 : W (.fld H.FLW_LOST)) (h112 : W (.fld H.FLW_TOK)) (h113 : W (.fld H.FLW_TX_SEQ)) (h114 : W (.fld H.FRM_CLRC_FLOW)) (h115 : W (.fld H.FRM_EG_JUST)) (h116 : W (.fld H.FRM_LAST_TYPE)) (h117 : W (.fld H.FRM_RA_RUN)) (h118 : W (.fld H.FRM_SEEN_FLOW)) (h119 : W (.fld H.FRM_SETC_FLOW)) (h120 : W (.fld H.FRM_WIN_ON)) (h121 : W (.fld H.FRM_WIN_SEQ)) (h122 : W (.fld H.HKA_CAL_WAIT)) (h123 : W (.fld H.HKA_CUR)) (h124 : W (.fld H.HKA_RUN)) (h125 : W (.fld H.HKA_SEQ_STATE)) (h126 : W (.fld H.HKA_TICKS)) (h127 : W (.fld H.HSL_OUT)) (h128 : W (.fld H.LRX_LLR_HOLD)) (h129 : W (.fld H.LRX_SWAP_DUE)) (h130 : W (.fld H.LRX_WIN_LOCK)) (h131 : W (.fld H.LTX_OUTPUT)) (h132 : W (.fld H.LTX_SWAP_DUE)) (h133 : W (.fld H.PEER_MUTE_HELD)) (h134 : W (.fld H.PEER_MUTE_WAS)) (h135 : W (.fld H.PEER_SETTLING)) (h136 : W (.fld H.PMC_CNT)) (h137 : W (.fld H.PMC_OVF_DUE)) (h138 : W (.fld H.PMC_OVF_T)) (h139 : W (.fld H.PMC_RING)) (h140 : W (.fld H.PMC_TRACE_POS)) (h141 : W (.fld H.PWR_HOLD_RX)) (h142 : W (.fld H.PWR_HOLD_TX)) (h143 : W (.fld H.PWR_TARGET)) (h144 : W (.fld H.PWR_VMIN_ASKED)) (h145 : W (.fld H.PWR_VMIN_FAILED)) (h146 : W (.fld H.PWR_VMIN_WAITS)) (h147 : W (.fld H.QDM_COMMITTED)) (h148 : W (.fld H.QDM_EXTRA)) (h149 : W (.fld H.QDM_HELD)) (h150 : W (.fld H.QDM_POOL_USED)) (h151 : W (.fld H.QDM_RESERVED)) (h152 : W (.fld H.QDM_SLEEP_USED)) (h153 : W (.fld H.QDM_TRAINING)) (h154 : W (.fld H.SCM_ACKED)) (h155 : W (.fld H.SCM_ADDRESSED)) (h156 : W (.fld H.SYN_LINE_OK)) (h157 : W (.fld H.SYN_OUT_RUN)) (h158 : W (.fld H.SYN_QL_SENT)) (h159 : W (.fld H.VLK_SEQ)) (a0 : Nat) (h : Moves W s₀ s) :
    Moves W s₀ (Sys2Proof.Machine.Sys.quiesce a0 s) := by
  unfold Sys2Proof.Machine.Sys.quiesce
  repeat' (first
    | with_reducible assumption
    | with_reducible apply Moves.each
    | with_reducible apply Moves.eachOf
    | with_reducible apply Cal_abandon_moves
    | with_reducible apply Bst_abort_moves
    | with_reducible apply Hsl_disable_moves
    | with_reducible apply Flw_stop_moves
    | with_reducible apply Qdm_disable_moves
    | with_reducible apply Qdm_free_moves
    | with_reducible apply Ltx_disable_moves
    | with_reducible apply Scm_bankReset_moves
    | with_reducible apply Lrx_disable_moves
    | with_reducible apply Brx_disable_moves
    | with_reducible apply Peer_disable_moves
    | intro _
    | split)

theorem Sys_resetQueues_moves {W : Part → Prop} {s₀ s : State} (h0 : W .brx) (h1 : W .flt) (h2 : W .flw) (h3 : W .frm) (h4 : W .syn) (h5 : W .vlk) (a0 : Nat) (h : Moves W s₀ s) :
    Moves W s₀ (Sys2Proof.Machine.Sys.resetQueues a0 s) := by
  unfold Sys2Proof.Machine.Sys.resetQueues
  repeat' (first
    | with_reducible assumption
    | intro _
    | split
    | (with_reducible refine Moves.flt _ ?_ ?_ <;> with_reducible first
      | assumption)
    | (with_reducible refine Moves.syn _ ?_ ?_ <;> with_reducible first
      | assumption)
    | (with_reducible refine Moves.flw _ ?_ ?_ <;> with_reducible first
      | assumption)
    | (with_reducible refine Moves.frm _ ?_ ?_ <;> with_reducible first
      | assumption)
    | (with_reducible refine Moves.brx _ ?_ ?_ <;> with_reducible first
      | assumption)
    | (with_reducible refine Moves.vlk _ ?_ ?_ <;> with_reducible first
      | assumption))

theorem Sys_aftermath_moves {W : Part → Prop} {s₀ s : State} (h0 : W (.fld F.BST_INT_CAUSE_SAFE)) (h1 : W (.fld F.BST_STAT_SAFE)) (h2 : W (.fld F.CVT_ADC_STAT_READY)) (h3 : W (.fld F.CVT_DAC_STAT_READY)) (h4 : W (.fld F.HSL_INT_CAUSE_RCLK_SQ)) (h5 : W (.fld F.HSL_RCLK_SEL_SQUELCHED)) (h6 : W (.fld F.LSR_FT_OUT_OWNER)) (h7 : W (.fld F.LSR_STAT_HOLD)) (h8 : W (.fld F.LSR_STAT_LASER_EN)) (h9 : W (.fld F.LTX_CTRL_MUTE)) (h10 : W (.fld F.LTX_STAT_MUTE_SRC)) (h11 : W (.fld F.QDM_BW_LIMIT)) (h12 : W (.fld F.QDM_BW_USED)) (h13 : W (.fld F.QDM_POOL_STAT_QDR_FREE)) (h14 : W (.fld F.SYN_INT_CAUSE_QL_CHG)) (h15 : W (.fld F.SYN_REF_STAT_ELIGIBLE)) (h16 : W (.fld F.SYN_REF_STAT_QL_EFF)) (h17 : W (.fld F.SYN_STAT_OUT_QL)) (h18 : W (.fld F.SYN_STAT_SEL_QL)) (h19 : W (.fld F.VLK_SELF_SILENT)) (h20 : W (.fld H.LTX_OUTPUT)) (h21 : W (.fld H.PEER_MUTE_WAS)) (h22 : W (.fld H.SYN_LINE_OK)) (h23 : W (.fld H.SYN_OUT_RUN)) (h24 : W (.fld H.SYN_QL_SENT)) (a0 : Nat) (a1 : Nat) (h : Moves W s₀ s) :
    Moves W s₀ (Sys2Proof.Machine.Sys.aftermath a0 a1 s) := by
  unfold Sys2Proof.Machine.Sys.aftermath
  repeat' (first
    | with_reducible assumption
    | with_reducible apply Moves.clr
    | with_reducible apply Moves.put
    | with_reducible apply Bst_refresh_moves
    | with_reducible apply Syn_refresh_moves
    | with_reducible apply Hsl_squelch_moves
    | with_reducible apply Qdm_refresh_moves
    | with_reducible apply Ltx_setMute_moves
    | with_reducible apply Vlk_silence_moves
    | with_reducible apply Cvt_refresh_moves
    | with_reducible apply Lsr_laser_moves
    | with_reducible apply Lsr_showOwners_moves
    | intro _
    | split
    | (extract_lets +onlyGivenNames x; first
      | (refine Moves.keep (W := W) (s₀ := s₀) x ?_ ?_; rotate_left; intro hx; clear_value x; rotate_right)
      | (refine Moves.keep (W := W) (s₀ := s₀) x.2 ?_ ?_; rotate_left; intro hx; clear_value x; rotate_right)
      | (refine Moves.keep (W := W) (s₀ := s₀) x.1 ?_ ?_; rotate_left; intro hx; clear_value x; rotate_right)
      | skip))

theorem Sys_targetReset_moves {W : Part → Prop} {s₀ s : State} (h0 : W .eng) (h1 : W .qdr) (h2 : W (.fld F.ENG_GREG_VAL)) (h3 : W (.fld F.ENG_INT_CAUSE_ABORT)) (h4 : W (.fld F.ENG_STAT_FAULTED)) (h5 : W (.fld F.ENG_STAT_INFLIGHT)) (h6 : W (.fld F.ENG_STAT_RUNNING)) (h7 : W (.fld F.ENG_STAT_TAGS_USED)) (h8 : W (.fld F.ENG_TAG_ALLOC)) (h9 : W (.fld F.ENG_TAG_STATE)) (h10 : W (.fld F.ENG_THR_STAT_PC)) (h11 : W (.fld F.ENG_THR_STAT_STATE)) (h12 : W (.fld F.PMC_INT_CAUSE_OVF)) (h13 : W (.fld F.PMC_INT_CAUSE_SMP_AVAIL)) (h14 : W (.fld F.PMC_INT_CAUSE_SMP_DROP)) (h15 : W (.fld F.PMC_OVF_STAT_OVF)) (h16 : W (.fld F.PMC_SMP_DROP_RING)) (h17 : W (.fld F.PMC_SMP_STAT_COUNT)) (h18 : W (.fld H.ENG_JRNL)) (h19 : W (.fld H.ENG_PAST)) (h20 : W (.fld H.PMC_CNT)) (h21 : W (.fld H.PMC_OVF_DUE)) (h22 : W (.fld H.PMC_OVF_T)) (h23 : W (.fld H.PMC_RING)) (h24 : W (.fld H.PMC_TRACE_POS)) (a0 : Nat) (h : Moves W s₀ s) :
    Moves W s₀ (Sys2Proof.Machine.Sys.targetReset a0 s) := by
  unfold Sys2Proof.Machine.Sys.targetReset
  repeat' (first
    | with_reducible assumption
    | with_reducible apply Moves.eachOf
    | with_reducible apply Sys_cut_moves
    | intro _
    | split)

theorem Sys_softReset_moves {W : Part → Prop} {s₀ s : State} (hw : ∀ x, W x) (a0 : Nat) (h : Moves W s₀ s) :
    Moves W s₀ (Sys2Proof.Machine.Sys.softReset a0 s) := by
  unfold Sys2Proof.Machine.Sys.softReset
  repeat' (first
    | with_reducible assumption
    | exact hw _
    | with_reducible apply Moves.setBit
    | with_reducible apply Sys_targetReset_moves
    | with_reducible apply Sys_aftermath_moves
    | with_reducible apply Sys_resetQueues_moves
    | with_reducible apply Sys_resetFields_moves
    | with_reducible apply Sys_quiesce_moves
    | intro _
    | split
    | (extract_lets +onlyGivenNames x; first
      | (refine Moves.keep (W := W) (s₀ := s₀) x ?_ ?_; rotate_left; intro hx; clear_value x; rotate_right)
      | (refine Moves.keep (W := W) (s₀ := s₀) x.2 ?_ ?_; rotate_left; intro hx; clear_value x; rotate_right)
      | (refine Moves.keep (W := W) (s₀ := s₀) x.1 ?_ ?_; rotate_left; intro hx; clear_value x; rotate_right)
      | skip))

theorem Sys_softResets_moves {W : Part → Prop} {s₀ s : State} (hw : ∀ x, W x) (a0 : Nat) (h : Moves W s₀ s) :
    Moves W s₀ (Sys2Proof.Machine.Sys.softResets a0 s) := by
  unfold Sys2Proof.Machine.Sys.softResets
  repeat' (first
    | with_reducible assumption
    | exact hw _
    | with_reducible apply Moves.each
    | with_reducible apply Sys_softReset_moves
    | intro _
    | split)

theorem Sys_restEntryDone_moves {W : Part → Prop} {s₀ s : State} (h0 : W .syn) (h1 : W (.arr H.HSL_OUT)) (h2 : W (.fld F.PWR_AVS_READ_BUSY)) (h3 : W (.fld F.PWR_INT_CAUSE_REST_ENTERED)) (h4 : W (.fld F.PWR_REST_STAT_STATE)) (h5 : W (.fld F.PWR_SLACK_LVL_NOW)) (h6 : W (.fld F.PWR_VMIN_VREQ_MV)) (h7 : W (.fld F.SYN_INT_CAUSE_LOOP_CHG)) (h8 : W (.fld F.SYN_INT_CAUSE_QL_CHG)) (h9 : W (.fld F.SYN_REF_STAT_ELIGIBLE)) (h10 : W (.fld F.SYN_REF_STAT_QL_EFF)) (h11 : W (.fld F.SYN_REF_STAT_WTR_LEFT)) (h12 : W (.fld F.SYN_STAT_LOOP)) (h13 : W (.fld F.SYN_STAT_OUT_QL)) (h14 : W (.fld F.SYN_STAT_SEL_QL)) (h15 : W (.fld H.PWR_ARMED)) (h16 : W (.fld H.PWR_LOW)) (h17 : W (.fld H.PWR_PREFILLED)) (h18 : W (.fld H.PWR_QDR_RET)) (h19 : W (.fld H.PWR_TARGET)) (h20 : W (.fld H.PWR_VMIN_ASKED)) (h21 : W (.fld H.PWR_VMIN_FAILED)) (h22 : W (.fld H.PWR_VMIN_WAITS)) (h23 : W (.fld H.PWR_WAKE_PEND)) (h24 : W (.fld H.SYN_GOOD)) (h25 : W (.fld H.SYN_LINE_OK)) (h26 : W (.fld H.SYN_LOCK_FULL)) (h27 : W (.fld H.SYN_OUT_RUN)) (h28 : W (.fld H.SYN_QL_SENT)) (h : Moves W s₀ s) :
    Moves W s₀ (Sys2Proof.Machine.Sys.restEntryDone s) := by
  unfold Sys2Proof.Machine.Sys.restEntryDone
  repeat' (first
    | with_reducible assumption
    | with_reducible apply Moves.clr
    | with_reducible apply Moves.eachOf
    | with_reducible apply Moves.put
    | with_reducible apply Moves.set
    | with_reducible apply Moves.wipe
    | with_reducible apply Pwr_disarm_moves
    | with_reducible apply Pwr_drain_moves
    | with_reducible apply Pwr_request_moves
    | with_reducible apply Syn_restEnter_moves
    | with_reducible apply Rest_begin_moves
    | intro _
    | split
    | (extract_lets +onlyGivenNames x; first
      | (refine Moves.keep (W := W) (s₀ := s₀) x ?_ ?_; rotate_left; intro hx; clear_value x; rotate_right)
      | (refine Moves.keep (W := W) (s₀ := s₀) x.2 ?_ ?_; rotate_left; intro hx; clear_value x; rotate_right)
      | (refine Moves.keep (W := W) (s₀ := s₀) x.1 ?_ ?_; rotate_left; intro hx; clear_value x; rotate_right)
      | skip))

theorem Sys_restWake_moves {W : Part → Prop} {s₀ s : State} (h0 : W (.fld F.PWR_AVS_READ_BUSY)) (h1 : W (.fld F.PWR_REST_STAT_STATE)) (h2 : W (.fld F.PWR_VMIN_VREQ_MV)) (h3 : W (.fld H.PWR_TARGET)) (h4 : W (.fld H.PWR_VMIN_ASKED)) (h5 : W (.fld H.PWR_VMIN_FAILED)) (h6 : W (.fld H.PWR_VMIN_WAITS)) (h7 : W (.fld H.PWR_WAKE_PEND)) (a0 : Nat) (h : Moves W s₀ s) :
    Moves W s₀ (Sys2Proof.Machine.Sys.restWake a0 s) := by
  unfold Sys2Proof.Machine.Sys.restWake
  repeat' (first
    | with_reducible assumption
    | with_reducible apply Rest_wake_moves
    | intro _
    | split)

theorem Sys_wakeClient_moves {W : Part → Prop} {s₀ s : State} (h0 : W (.fld F.HSL_CLI_STAT_STATE)) (h1 : W (.fld F.HSL_INT_CAUSE_CLI_DOWN)) (h2 : W (.fld F.HSL_INT_CAUSE_CLI_UP)) (h3 : W (.fld F.HSL_LANE_STAT_AM_LOCK)) (h4 : W (.fld F.HSL_LANE_STAT_CDR_LOCK)) (h5 : W (.fld F.HSL_LANE_STAT_RX_INV)) (h6 : W (.fld F.HSL_LANE_STAT_SIG)) (h7 : W (.fld H.HSL_OUT)) (a0 : Nat) (h : Moves W s₀ s) :
    Moves W s₀ (Sys2Proof.Machine.Sys.wakeClient a0 s) := by
  unfold Sys2Proof.Machine.Sys.wakeClient
  repeat' (first
    | with_reducible assumption
    | with_reducible apply Moves.eachOf
    | with_reducible apply Hsl_replace_moves
    | with_reducible apply Hsl_move_moves
    | with_reducible apply Hsl_powerDown_moves
    | intro _
    | split)

theorem Sys_restExit_moves {W : Part → Prop} {s₀ s : State} (h0 : W (.fld F.CAL_DEFERRED_VAL)) (h1 : W (.fld F.CAL_STAT_STATE)) (h2 : W (.fld F.CAL_STAT_TYPE)) (h3 : W (.fld F.HKA_STAT_CAL_HOLD)) (h4 : W (.fld F.HKA_STAT_INJ_PEND)) (h5 : W (.fld F.HKA_STAT_STATE)) (h6 : W (.fld F.HSL_CLI_STAT_STATE)) (h7 : W (.fld F.HSL_INT_CAUSE_CLI_DOWN)) (h8 : W (.fld F.HSL_INT_CAUSE_CLI_UP)) (h9 : W (.fld F.HSL_LANE_STAT_AM_LOCK)) (h10 : W (.fld F.HSL_LANE_STAT_CDR_LOCK)) (h11 : W (.fld F.HSL_LANE_STAT_RX_INV)) (h12 : W (.fld F.HSL_LANE_STAT_SIG)) (h13 : W (.fld F.LRX_INT_CAUSE_TRACK)) (h14 : W (.fld F.LRX_INT_CAUSE_TRACK_LOST)) (h15 : W (.fld F.LRX_SC_STAT_LOCK)) (h16 : W (.fld F.LRX_STAT_STATE)) (h17 : W (.fld F.LTX_STAT_MUTE_SRC)) (h18 : W (.fld F.PWR_INT_CAUSE_REST_EXITED)) (h19 : W (.fld F.PWR_REST_STAT_STATE)) (h20 : W (.fld F.PWR_REST_STAT_WAKE_US)) (h21 : W (.fld H.CAL_AUTO_PEND)) (h22 : W (.fld H.CAL_HOST)) (h23 : W (.fld H.CAL_PASSED)) (h24 : W (.fld H.CAL_T0)) (h25 : W (.fld H.CAL_TEMP0)) (h26 : W (.fld H.HKA_CAL_WAIT)) (h27 : W (.fld H.HKA_CUR)) (h28 : W (.fld H.HKA_RUN)) (h29 : W (.fld H.HKA_SEQ_STATE)) (h30 : W (.fld H.HKA_TICKS)) (h31 : W (.fld H.HSL_OUT)) (h32 : W (.fld H.LRX_LLR_HOLD)) (h33 : W (.fld H.LRX_QUAD)) (h34 : W (.fld H.LRX_TAPS)) (h35 : W (.fld H.LRX_WIN_LOCK)) (h36 : W (.fld H.PWR_QDR_RET)) (h37 : W (.fld H.QDM_CENTRE)) (a0 : Nat) (a1 : List (List Nat)) (h : Moves W s₀ s) :
    Moves W s₀ (Sys2Proof.Machine.Sys.restExit a0 a1 s) := by
  unfold Sys2Proof.Machine.Sys.restExit
  repeat' (first
    | with_reducible assumption
    | with_reducible apply Moves.clr
    | with_reducible apply Moves.each
    | with_reducible apply Moves.put
    | with_reducible apply Moves.set
    | with_reducible apply Qdm_recentre_moves
    | with_reducible apply Ltx_unmute_moves
    | with_reducible apply Lrx_leavePrefill_moves
    | with_reducible apply Lrx_enter_moves
    | with_reducible apply Cal_temperature_moves
    | with_reducible apply Sys_wakeClient_moves
    | intro _
    | split
    | (extract_lets +onlyGivenNames x; first
      | (refine Moves.keep (W := W) (s₀ := s₀) x ?_ ?_; rotate_left; intro hx; clear_value x; rotate_right)
      | (refine Moves.keep (W := W) (s₀ := s₀) x.2 ?_ ?_; rotate_left; intro hx; clear_value x; rotate_right)
      | (refine Moves.keep (W := W) (s₀ := s₀) x.1 ?_ ?_; rotate_left; intro hx; clear_value x; rotate_right)
      | skip))

end Sys2Proof.Laws
end

