-- ==== Sys2Proof/Laws/MovesBus.lean ====
section
/-! SUPPORT. Sys2Proof/Laws/MovesBus.lean: what each operation of Machine/Bus.lean may write (Laws/Moves.lean). -/
namespace Sys2Proof.Laws
open Sys2Proof Sys2Proof.Machine

theorem Bus_clearOnRead_moves {W : Part → Prop} {s₀ s : State} (hw : ∀ x, W x) (a0 : Sys2Proof.Machine.RegId) (a1 : Nat) (a2 : Nat) (a3 : Nat) (h : Moves W s₀ s) :
    Moves W s₀ (Sys2Proof.Machine.Bus.clearOnRead a0 a1 a2 a3 s) := by
  unfold Sys2Proof.Machine.Bus.clearOnRead
  repeat' (first
    | with_reducible assumption
    | exact hw _
    | with_reducible apply Moves.clr
    | with_reducible apply Moves.eachOf
    | with_reducible apply Moves.put
    | intro _
    | split)

theorem Bus_readTime_moves {W : Part → Prop} {s₀ s : State} (h0 : W (.fld H.SYN_TSNAP)) (h1 : W (.fld H.SYN_TSNAP_ON)) (a0 : Nat) (h : Moves W s₀ s) :
    Moves W s₀ (Sys2Proof.Machine.Bus.readTime a0 s).2 := by
  unfold Sys2Proof.Machine.Bus.readTime
  repeat' (first
    | with_reducible assumption
    | with_reducible apply Moves.drew
    | with_reducible apply Moves.put
    | with_reducible apply Moves.set
    | intro _)

theorem Bus_readGreg_moves {W : Part → Prop} {s₀ s : State} (a0 : Nat) (a1 : Nat) (a2 : Nat) (h : Moves W s₀ s) :
    Moves W s₀ (Sys2Proof.Machine.Bus.readGreg a0 a1 a2 s).2 := by
  unfold Sys2Proof.Machine.Bus.readGreg
  repeat' (first
    | with_reducible assumption
    | with_reducible apply Moves.drew
    | intro _
    | split)

theorem Bus_readReg_moves {W : Part → Prop} {s₀ s : State} (hw : ∀ x, W x) (a0 : Sys2Proof.Machine.Pmc.Who) (a1 : Nat) (a2 : Sys2Proof.Machine.RegId) (a3 : Nat) (a4 : Nat) (a5 : Nat) (h : Moves W s₀ s) :
    Moves W s₀ (Sys2Proof.Machine.Bus.readReg a0 a1 a2 a3 a4 a5 s).2 := by
  unfold Sys2Proof.Machine.Bus.readReg
  repeat' (first
    | with_reducible assumption
    | exact hw _
    | with_reducible apply Mbx_readData_moves
    | with_reducible apply Mbx_lockRead_moves
    | with_reducible apply Mbx_cryRead_moves
    | with_reducible apply Cry_snapshot_moves
    | with_reducible apply Pmc_readLo_moves
    | with_reducible apply Bus_readTime_moves
    | with_reducible apply Eng_journalFirst_moves
    | with_reducible apply Eng_memRead_moves
    | with_reducible apply Bus_readGreg_moves
    | with_reducible apply Lcm_readChallenge_moves
    | with_reducible apply Bus_clearOnRead_moves
    | intro _
    | split
    | (have hx := congrArg Prod.snd ‹_ = (_, _)›; dsimp only at hx; subst hx))

theorem Bus_read_moves {W : Part → Prop} {s₀ s : State} (hw : ∀ x, W x) (a0 : Sys2Proof.Machine.Pmc.Who) (a1 : Nat) (h : Moves W s₀ s) :
    Moves W s₀ (Sys2Proof.Machine.Bus.read a0 a1 s).2 := by
  unfold Sys2Proof.Machine.Bus.read
  repeat' (first
    | with_reducible assumption
    | exact hw _
    | with_reducible apply Pmc_event_moves
    | with_reducible apply Bus_readReg_moves
    | with_reducible apply Pmc_access_moves
    | intro _
    | split
    | (extract_lets +onlyGivenNames x; first
      | (refine Moves.keep (W := W) (s₀ := s₀) x ?_ ?_; rotate_left; intro hx; clear_value x; rotate_right)
      | (refine Moves.keep (W := W) (s₀ := s₀) x.2 ?_ ?_; rotate_left; intro hx; clear_value x; rotate_right)
      | (refine Moves.keep (W := W) (s₀ := s₀) x.1 ?_ ?_; rotate_left; intro hx; clear_value x; rotate_right)
      | skip)
    | (have hx := congrArg Prod.snd ‹_ = (_, _)›; dsimp only at hx; subst hx))

theorem Bus_writeField_moves {W : Part → Prop} {s₀ s : State} (a0 : Nat) (a1 : Nat) (a2 : Nat) (a3 : Nat) (a4 : Sys2Proof.Machine.Field) (hg4 : W (.fld a4)) (h : Moves W s₀ s) :
    Moves W s₀ (Sys2Proof.Machine.Bus.writeField a0 a1 a2 a3 a4 s) := by
  unfold Sys2Proof.Machine.Bus.writeField
  repeat' (first
    | with_reducible assumption
    | with_reducible apply Moves.clr
    | with_reducible apply Moves.put
    | intro _
    | split
    | (extract_lets +onlyGivenNames x; first
      | (refine Moves.keep (W := W) (s₀ := s₀) x ?_ ?_; rotate_left; intro hx; clear_value x; rotate_right)
      | (refine Moves.keep (W := W) (s₀ := s₀) x.2 ?_ ?_; rotate_left; intro hx; clear_value x; rotate_right)
      | (refine Moves.keep (W := W) (s₀ := s₀) x.1 ?_ ?_; rotate_left; intro hx; clear_value x; rotate_right)
      | skip))

theorem Bus_plain_moves {W : Part → Prop} {s₀ s : State} (hw : ∀ x, W x) (a0 : Sys2Proof.Machine.RegId) (a1 : Nat) (a2 : Nat) (a3 : Nat) (a4 : Nat) (h : Moves W s₀ s) :
    Moves W s₀ (Sys2Proof.Machine.Bus.plain a0 a1 a2 a3 a4 s) := by
  unfold Sys2Proof.Machine.Bus.plain
  repeat' (first
    | with_reducible assumption
    | exact hw _
    | with_reducible apply Moves.eachOf
    | with_reducible apply Bus_writeField_moves
    | intro _)

theorem Bus_writeEngCtrl_moves {W : Part → Prop} {s₀ s : State} (h0 : W .eng) (h1 : W .qdr) (h2 : W (.fld F.CRY_KEY_DATA_KEY)) (h3 : W (.fld F.CRY_KEY_SALT_SALT)) (h4 : W (.fld F.CRY_LOCK_STAT_LOCK_BROKEN)) (h5 : W (.fld F.CRY_LOCK_STAT_OWNER)) (h6 : W (.fld F.ENG_CFG_ACC_TMO)) (h7 : W (.fld F.ENG_FLAGS_FLAG)) (h8 : W (.fld F.ENG_GREG_VAL)) (h9 : W (.fld F.ENG_INT_CAUSE_ABORT)) (h10 : W (.fld F.ENG_INT_CAUSE_ACT_ERR)) (h11 : W (.fld F.ENG_INT_CAUSE_FAULT)) (h12 : W (.fld F.ENG_INT_CAUSE_HALT)) (h13 : W (.fld F.ENG_INT_CAUSE_MEM_REFUSED)) (h14 : W (.fld F.ENG_INT_CAUSE_SPILL_LOST)) (h15 : W (.fld F.ENG_INT_MASK_MASK)) (h16 : W (.fld F.ENG_JRNL_IDX_IDX)) (h17 : W (.fld F.ENG_MEM_ADDR_ADDR)) (h18 : W (.fld F.ENG_MEM_ADDR_SPACE)) (h19 : W (.fld F.ENG_QACC_FREE_R)) (h20 : W (.fld F.ENG_QACC_FREE_W)) (h21 : W (.fld F.ENG_QACC_LOG_R)) (h22 : W (.fld F.ENG_STAT_FAULTED)) (h23 : W (.fld F.ENG_STAT_INFLIGHT)) (h24 : W (.fld F.ENG_STAT_RUNNING)) (h25 : W (.fld F.ENG_STAT_TAGS_USED)) (h26 : W (.fld F.ENG_TAG_ALLOC)) (h27 : W (.fld F.ENG_TAG_AUTO)) (h28 : W (.fld F.ENG_TAG_STATE)) (h29 : W (.fld F.ENG_THR_STAT_CAUSE)) (h30 : W (.fld F.ENG_THR_STAT_PC)) (h31 : W (.fld F.ENG_THR_STAT_STATE)) (h32 : W (.fld F.ENG_UWIN_BASE)) (h33 : W (.fld F.ENG_UWIN_PAGES)) (h34 : W (.fld F.ENG_UWIN_WRITE)) (h35 : W (.fld F.MBX_INT_CAUSE_RESET_SEEN)) (h36 : W (.fld F.MBX_LOCK_STAT_LOCK_BROKEN)) (h37 : W (.fld F.MBX_LOCK_STAT_OWNER)) (h38 : W (.fld F.MBX_STAT_RX_RESET_SEEN)) (h39 : W (.fld F.MBX_STAT_SENDER_RESET_SEEN)) (h40 : W (.fld F.PMC_INT_CAUSE_OVF)) (h41 : W (.fld F.PMC_INT_CAUSE_SMP_AVAIL)) (h42 : W (.fld F.PMC_INT_CAUSE_SMP_DROP)) (h43 : W (.fld F.PMC_OVF_STAT_OVF)) (h44 : W (.fld F.PMC_SMP_DROP_RING)) (h45 : W (.fld F.PMC_SMP_STAT_COUNT)) (h46 : W (.fld F.SYN_INT_CAUSE_PRIV_CLOSED)) (h47 : W (.fld F.SYN_NCO_CTRL_OPEN)) (h48 : W (.fld F.SYN_NCO_CTRL_OWNER)) (h49 : W (.fld F.SYS_INT_CAUSE_ROLE_LIMIT)) (h50 : W (.fld H.ENG_JRNL)) (h51 : W (.fld H.ENG_PAST)) (h52 : W (.fld H.PMC_CNT)) (h53 : W (.fld H.PMC_OVF_DUE)) (h54 : W (.fld H.PMC_OVF_T)) (h55 : W (.fld H.PMC_RING)) (h56 : W (.fld H.PMC_TRACE_POS)) (h57 : W (.fld H.SYN_KEYSTEP)) (h58 : W (.fld H.SYN_NCO_RAMP)) (a0 : Nat) (a1 : Nat) (h : Moves W s₀ s) :
    Moves W s₀ (Sys2Proof.Machine.Bus.writeEngCtrl a0 a1 s) := by
  unfold Sys2Proof.Machine.Bus.writeEngCtrl
  repeat' (first
    | with_reducible assumption
    | with_reducible apply Moves.each
    | with_reducible apply Sys_engineReset_moves
    | with_reducible apply Eng_stop_moves
    | with_reducible apply Eng_start_moves
    | intro _
    | split
    | (extract_lets +onlyGivenNames x; first
      | (refine Moves.keep (W := W) (s₀ := s₀) x ?_ ?_; rotate_left; intro hx; clear_value x; rotate_right)
      | (refine Moves.keep (W := W) (s₀ := s₀) x.2 ?_ ?_; rotate_left; intro hx; clear_value x; rotate_right)
      | (refine Moves.keep (W := W) (s₀ := s₀) x.1 ?_ ?_; rotate_left; intro hx; clear_value x; rotate_right)
      | skip))

theorem Bus_writeThr_moves {W : Part → Prop} {s₀ s : State} (h0 : W (.fld F.ENG_THR_ENTRY)) (h1 : W (.fld F.ENG_THR_SUPER)) (a0 : Sys2Proof.Machine.Pmc.Who) (a1 : Nat) (a2 : Nat) (a3 : Nat) (h : Moves W s₀ s) :
    Moves W s₀ (Sys2Proof.Machine.Bus.writeThr a0 a1 a2 a3 s) := by
  unfold Sys2Proof.Machine.Bus.writeThr
  repeat' (first
    | with_reducible assumption
    | with_reducible apply Moves.put
    | intro _
    | split
    | (extract_lets +onlyGivenNames x; first
      | (refine Moves.keep (W := W) (s₀ := s₀) x ?_ ?_; rotate_left; intro hx; clear_value x; rotate_right)
      | (refine Moves.keep (W := W) (s₀ := s₀) x.2 ?_ ?_; rotate_left; intro hx; clear_value x; rotate_right)
      | (refine Moves.keep (W := W) (s₀ := s₀) x.1 ?_ ?_; rotate_left; intro hx; clear_value x; rotate_right)
      | skip))

theorem Bus_writeCal_moves {W : Part → Prop} {s₀ s : State} (h0 : W (.fld F.CAL_CTRL_AUTO)) (h1 : W (.fld F.CAL_CTRL_RETRY_S)) (h2 : W (.fld F.CAL_DEFERRED_VAL)) (h3 : W (.fld F.CAL_INT_CAUSE_ABORTED)) (h4 : W (.fld F.CAL_INT_CAUSE_BUSY)) (h5 : W (.fld F.CAL_STAT_STATE)) (h6 : W (.fld F.CAL_STAT_TYPE)) (h7 : W (.fld F.HKA_STAT_CAL_HOLD)) (h8 : W (.fld F.HKA_STAT_INJ_PEND)) (h9 : W (.fld F.HKA_STAT_STATE)) (h10 : W (.fld H.BST_WAITING)) (h11 : W (.fld H.CAL_HOST)) (h12 : W (.fld H.CAL_PASSED)) (h13 : W (.fld H.CAL_RETRY)) (h14 : W (.fld H.CAL_T0)) (h15 : W (.fld H.CAL_TEMP0)) (h16 : W (.fld H.HKA_CAL_WAIT)) (h17 : W (.fld H.HKA_CUR)) (h18 : W (.fld H.HKA_RUN)) (h19 : W (.fld H.HKA_SEQ_STATE)) (h20 : W (.fld H.HKA_TICKS)) (a0 : Nat) (h : Moves W s₀ s) :
    Moves W s₀ (Sys2Proof.Machine.Bus.writeCal a0 s) := by
  unfold Sys2Proof.Machine.Bus.writeCal
  repeat' (first
    | with_reducible assumption
    | with_reducible apply Moves.put
    | with_reducible apply Bst_unwait_moves
    | with_reducible apply Cal_abort_moves
    | with_reducible apply Cal_go_moves
    | intro _
    | split
    | (extract_lets +onlyGivenNames x; first
      | (refine Moves.keep (W := W) (s₀ := s₀) x ?_ ?_; rotate_left; intro hx; clear_value x; rotate_right)
      | (refine Moves.keep (W := W) (s₀ := s₀) x.2 ?_ ?_; rotate_left; intro hx; clear_value x; rotate_right)
      | (refine Moves.keep (W := W) (s₀ := s₀) x.1 ?_ ?_; rotate_left; intro hx; clear_value x; rotate_right)
      | skip))

theorem Bus_writeRest_moves {W : Part → Prop} {s₀ s : State} (h0 : W (.fld F.LTX_STAT_MUTE_SRC)) (h1 : W (.fld F.PWR_AVS_READ_BUSY)) (h2 : W (.fld F.PWR_INT_CAUSE_REST_REFUSED)) (h3 : W (.fld F.PWR_REST_STAT_ERR)) (h4 : W (.fld F.PWR_REST_STAT_STATE)) (h5 : W (.fld F.PWR_VMIN_VREQ_MV)) (h6 : W (.fld H.HSL_OUT)) (h7 : W (.fld H.LTX_OUTPUT)) (h8 : W (.fld H.PWR_TARGET)) (h9 : W (.fld H.PWR_VMIN_ASKED)) (h10 : W (.fld H.PWR_VMIN_FAILED)) (h11 : W (.fld H.PWR_VMIN_WAITS)) (h12 : W (.fld H.PWR_WAKE_PEND)) (a0 : Nat) (h : Moves W s₀ s) :
    Moves W s₀ (Sys2Proof.Machine.Bus.writeRest a0 s) := by
  unfold Sys2Proof.Machine.Bus.writeRest
  repeat' (first
    | with_reducible assumption
    | with_reducible apply Rest_enter_moves
    | with_reducible apply Sys_restWake_moves
    | intro _
    | split
    | (extract_lets +onlyGivenNames x; first
      | (refine Moves.keep (W := W) (s₀ := s₀) x ?_ ?_; rotate_left; intro hx; clear_value x; rotate_right)
      | (refine Moves.keep (W := W) (s₀ := s₀) x.2 ?_ ?_; rotate_left; intro hx; clear_value x; rotate_right)
      | (refine Moves.keep (W := W) (s₀ := s₀) x.1 ?_ ?_; rotate_left; intro hx; clear_value x; rotate_right)
      | skip))

theorem Bus_frmTxEn_moves {W : Part → Prop} {s₀ s : State} (h0 : W (.fld F.FRM_CTRL_TX_EN)) (h1 : W (.fld H.FRM_TX_RUN)) (a0 : Nat) (h : Moves W s₀ s) :
    Moves W s₀ (Sys2Proof.Machine.Bus.frmTxEn a0 s) := by
  unfold Sys2Proof.Machine.Bus.frmTxEn
  repeat' (first
    | with_reducible assumption
    | with_reducible apply Frm_txEnable_moves
    | intro _
    | split)

theorem Bus_writeFrm_moves {W : Part → Prop} {s₀ s : State} (h0 : W .frm) (h1 : W (.arr H.FRM_BIP_AT)) (h2 : W (.fld F.FRM_ALIGN_STAT_CAND)) (h3 : W (.fld F.FRM_ALIGN_STAT_IN_MF)) (h4 : W (.fld F.FRM_ALIGN_STAT_MFN_VALID)) (h5 : W (.fld F.FRM_ALIGN_STAT_STATE)) (h6 : W (.fld F.FRM_CTRL_BDI_FORCE)) (h7 : W (.fld F.FRM_CTRL_RX_EN)) (h8 : W (.fld F.FRM_CTRL_SSM_SRC)) (h9 : W (.fld F.FRM_CTRL_TIM_ACT)) (h10 : W (.fld F.FRM_CTRL_TX_EN)) (h11 : W (.fld F.FRM_INT_CAUSE_CFG_ERR)) (h12 : W (.fld F.FRM_INT_CAUSE_OOF)) (h13 : W (.fld F.FRM_SSM_RX_VALID)) (h14 : W (.fld H.FRM_AMBIG)) (h15 : W (.fld H.FRM_FAW_MISS)) (h16 : W (.fld H.FRM_FN_MISS)) (h17 : W (.fld H.FRM_FN_RUN)) (h18 : W (.fld H.FRM_LIVE_F)) (h19 : W (.fld H.FRM_LIVE_SC)) (h20 : W (.fld H.FRM_SEC_CLI)) (h21 : W (.fld H.FRM_SEC_SC)) (h22 : W (.fld H.FRM_SEEN_CLI)) (h23 : W (.fld H.FRM_SEEN_FLOW)) (h24 : W (.fld H.FRM_SEEN_LANE)) (h25 : W (.fld H.FRM_SEEN_LINE)) (h26 : W (.fld H.FRM_SEEN_SC)) (h27 : W (.fld H.FRM_SSM_RUN)) (h28 : W (.fld H.FRM_TTI_GOT)) (h29 : W (.fld H.FRM_TTI_RUN)) (h30 : W (.fld H.FRM_TX_RUN)) (a0 : Nat) (h : Moves W s₀ s) :
    Moves W s₀ (Sys2Proof.Machine.Bus.writeFrm a0 s) := by
  unfold Sys2Proof.Machine.Bus.writeFrm
  repeat' (first
    | with_reducible assumption
    | with_reducible apply Moves.put
    | with_reducible apply Bus_frmTxEn_moves
    | with_reducible apply Frm_rxEnable_moves
    | with_reducible apply Frm_rxDisable_moves
    | with_reducible apply Frm_research_moves
    | intro _
    | split
    | (extract_lets +onlyGivenNames x; first
      | (refine Moves.keep (W := W) (s₀ := s₀) x ?_ ?_; rotate_left; intro hx; clear_value x; rotate_right)
      | (refine Moves.keep (W := W) (s₀ := s₀) x.2 ?_ ?_; rotate_left; intro hx; clear_value x; rotate_right)
      | (refine Moves.keep (W := W) (s₀ := s₀) x.1 ?_ ?_; rotate_left; intro hx; clear_value x; rotate_right)
      | skip))

theorem Bus_writeChange_moves {W : Part → Prop} {s₀ s : State} (h0 : W .vlk) (h1 : W (.fld F.LRX_INT_CAUSE_SHADOW_LOCKED)) (h2 : W (.fld F.LRX_INT_CAUSE_TABLE_ERR)) (h3 : W (.fld F.LRX_STAT_ERR_SC)) (h4 : W (.fld F.LRX_STAT_SHADOW_READY)) (h5 : W (.fld F.LTX_INT_CAUSE_SHADOW_LOCKED)) (h6 : W (.fld F.LTX_INT_CAUSE_TABLE_ERR)) (h7 : W (.fld F.LTX_STAT_ERR_SC)) (h8 : W (.fld F.LTX_STAT_SHADOW_READY)) (h9 : W (.fld F.SCM_CHG_STAT_DS_STATE)) (h10 : W (.fld F.SCM_CHG_STAT_US_STATE)) (h11 : W (.fld F.SCM_INT_CAUSE_BUSY)) (h12 : W (.fld F.SCM_INT_CAUSE_CHG_FAIL)) (h13 : W (.fld F.SCM_NAK_MAP_LEAF)) (h14 : W (.fld F.SYS_INT_CAUSE_ROLE_LIMIT)) (h15 : W (.fld F.VLK_INT_CAUSE_GROUP_ERR)) (h16 : W (.fld H.LRX_SHADOW)) (h17 : W (.fld H.LRX_SHADOW_VER)) (h18 : W (.fld H.LTX_SHADOW)) (h19 : W (.fld H.LTX_SHADOW_VER)) (h20 : W (.fld H.SCM_ACKED)) (h21 : W (.fld H.SCM_ADDRESSED)) (h22 : W (.fld H.SCM_LAST_VER)) (h23 : W (.fld H.SCM_START_MF)) (h24 : W (.fld H.VLK_SEQ)) (a0 : Nat) (h : Moves W s₀ s) :
    Moves W s₀ (Sys2Proof.Machine.Bus.writeChange a0 s) := by
  unfold Sys2Proof.Machine.Bus.writeChange
  repeat' (first
    | with_reducible assumption
    | with_reducible apply Scm_abort_moves
    | with_reducible apply Scm_commit_moves
    | intro _
    | split
    | (extract_lets +onlyGivenNames x; first
      | (refine Moves.keep (W := W) (s₀ := s₀) x ?_ ?_; rotate_left; intro hx; clear_value x; rotate_right)
      | (refine Moves.keep (W := W) (s₀ := s₀) x.2 ?_ ?_; rotate_left; intro hx; clear_value x; rotate_right)
      | (refine Moves.keep (W := W) (s₀ := s₀) x.1 ?_ ?_; rotate_left; intro hx; clear_value x; rotate_right)
      | skip))

theorem Bus_writeGrant_moves {W : Part → Prop} {s₀ s : State} (h0 : W .vlk) (h1 : W (.fld F.SCM_GRANT_STAT_ERR)) (h2 : W (.fld F.SCM_GRANT_STAT_STATE)) (h3 : W (.fld F.SCM_INT_CAUSE_BUSY)) (h4 : W (.fld F.SYS_INT_CAUSE_ROLE_LIMIT)) (h5 : W (.fld F.VLK_INT_CAUSE_GRANT_FAIL)) (h6 : W (.fld H.SCM_GRANT_ACKED)) (h7 : W (.fld H.SCM_GRANT_ADDR)) (h8 : W (.fld H.SCM_GRANT_LAST)) (h9 : W (.fld H.SCM_GRANT_SNAP)) (h10 : W (.fld H.SCM_GRANT_START)) (h11 : W (.fld H.VLK_SEQ)) (a0 : Nat) (h : Moves W s₀ s) :
    Moves W s₀ (Sys2Proof.Machine.Bus.writeGrant a0 s) := by
  unfold Sys2Proof.Machine.Bus.writeGrant
  repeat' (first
    | with_reducible assumption
    | with_reducible apply Scm_grantAbort_moves
    | with_reducible apply Scm_grantCommit_moves
    | intro _
    | split
    | (extract_lets +onlyGivenNames x; first
      | (refine Moves.keep (W := W) (s₀ := s₀) x ?_ ?_; rotate_left; intro hx; clear_value x; rotate_right)
      | (refine Moves.keep (W := W) (s₀ := s₀) x.2 ?_ ?_; rotate_left; intro hx; clear_value x; rotate_right)
      | (refine Moves.keep (W := W) (s₀ := s₀) x.1 ?_ ?_; rotate_left; intro hx; clear_value x; rotate_right)
      | skip))

theorem Bus_writeNco_moves {W : Part → Prop} {s₀ s : State} (h0 : W (.fld F.SYN_INT_CAUSE_PRIV_ERR)) (h1 : W (.fld F.SYN_NCO_CTRL_OPEN)) (h2 : W (.fld F.SYN_NCO_CTRL_OWNER)) (h3 : W (.fld F.SYN_NCO_FREQ_F)) (h4 : W (.fld H.SYN_KEYSTEP)) (h5 : W (.fld H.SYN_NCO_RAMP)) (a0 : Sys2Proof.Machine.Pmc.Who) (a1 : Nat) (a2 : Nat) (h : Moves W s₀ s) :
    Moves W s₀ (Sys2Proof.Machine.Bus.writeNco a0 a1 a2 s) := by
  unfold Sys2Proof.Machine.Bus.writeNco
  repeat' (first
    | with_reducible assumption
    | with_reducible apply Syn_openLoop_moves
    | with_reducible apply Syn_closeLoop_moves
    | intro _
    | split)

theorem Bus_writeTime_moves {W : Part → Prop} {s₀ s : State} (h0 : W (.fld F.SYN_TIME_CTRL_ALIGN_PEND)) (h1 : W (.fld F.SYN_TIME_CTRL_SET_PEND)) (a0 : Nat) (h : Moves W s₀ s) :
    Moves W s₀ (Sys2Proof.Machine.Bus.writeTime a0 s) := by
  unfold Sys2Proof.Machine.Bus.writeTime
  repeat' (first
    | with_reducible assumption
    | with_reducible apply Syn_armSet_moves
    | with_reducible apply Syn_armAlign_moves
    | intro _
    | split
    | (extract_lets +onlyGivenNames x; first
      | (refine Moves.keep (W := W) (s₀ := s₀) x ?_ ?_; rotate_left; intro hx; clear_value x; rotate_right)
      | (refine Moves.keep (W := W) (s₀ := s₀) x.2 ?_ ?_; rotate_left; intro hx; clear_value x; rotate_right)
      | (refine Moves.keep (W := W) (s₀ := s₀) x.1 ?_ ?_; rotate_left; intro hx; clear_value x; rotate_right)
      | skip))

theorem Bus_lineWritten_moves {W : Part → Prop} {s₀ s : State} (h0 : W (.fld F.CAL_INT_CAUSE_ABORTED)) (h1 : W (.fld F.CAL_STAT_STATE)) (h2 : W (.fld F.HKA_STAT_CAL_HOLD)) (h3 : W (.fld F.HKA_STAT_INJ_PEND)) (h4 : W (.fld F.HKA_STAT_STATE)) (h5 : W (.fld H.BST_WAITING)) (h6 : W (.fld H.CAL_RETRY)) (h7 : W (.fld H.HKA_CAL_WAIT)) (h8 : W (.fld H.HKA_CUR)) (h9 : W (.fld H.HKA_RUN)) (h10 : W (.fld H.HKA_SEQ_STATE)) (h11 : W (.fld H.HKA_TICKS)) (a0 : Sys2Proof.Machine.State) (h : Moves W s₀ s) :
    Moves W s₀ (Sys2Proof.Machine.Bus.lineWritten a0 s) := by
  unfold Sys2Proof.Machine.Bus.lineWritten
  repeat' (first
    | with_reducible assumption
    | with_reducible apply Bst_unwait_moves
    | with_reducible apply Cal_lineEnabled_moves
    | intro _
    | split)

theorem Bus_writeFlow_moves {W : Part → Prop} {s₀ s : State} (h0 : W (.fld F.FLW_CMD_FLOW)) (h1 : W (.fld F.FLW_CMD_OP)) (h2 : W (.fld F.FLW_CMD_STAT_BUSY)) (h3 : W (.fld F.FLW_CMD_STAT_ERR_CODE)) (h4 : W (.fld F.FLW_INT_CAUSE_CMD_DONE)) (h5 : W (.fld F.FLW_INT_CAUSE_CMD_ERR)) (h6 : W (.fld F.FLW_STAGE_DATA)) (h7 : W (.fld F.SYS_INT_CAUSE_ROLE_LIMIT)) (h8 : W (.fld H.FLW_OP)) (h9 : W (.fld H.FLW_OP_FLOW)) (a0 : Nat) (h : Moves W s₀ s) :
    Moves W s₀ (Sys2Proof.Machine.Bus.writeFlow a0 s) := by
  unfold Sys2Proof.Machine.Bus.writeFlow
  repeat' (first
    | with_reducible assumption
    | with_reducible apply Moves.clr
    | with_reducible apply Flw_writeCmd_moves
    | intro _
    | split)

theorem Bus_act_moves {W : Part → Prop} {s₀ s : State} (hw : ∀ x, W x) (a0 : Sys2Proof.Machine.Pmc.Who) (a1 : Sys2Proof.Machine.RegId) (a2 : Nat) (a3 : Nat) (a4 : Nat) (a5 : Nat) (h : Moves W s₀ s) :
    Moves W s₀ (Sys2Proof.Machine.Bus.act a0 a1 a2 a3 a4 a5 s) := by
  unfold Sys2Proof.Machine.Bus.act
  repeat' (first
    | with_reducible assumption
    | exact hw _
    | with_reducible apply Moves.put
    | with_reducible apply Sys_softResets_moves
    | with_reducible apply Flash_writeCmd_moves
    | with_reducible apply Lcm_transition_moves
    | with_reducible apply Lcm_writeKeyCtrl_moves
    | with_reducible apply Lcm_writeKeyHash_moves
    | with_reducible apply Pwr_writeAvsSet_moves
    | with_reducible apply Pwr_writePmbCmd_moves
    | with_reducible apply Bus_writeRest_moves
    | with_reducible apply Pwr_writeSlackCtrl_moves
    | with_reducible apply Pwr_writeSlackCfg_moves
    | with_reducible apply Pwr_writeSafeStat_moves
    | with_reducible apply Bus_writeEngCtrl_moves
    | with_reducible apply Bus_writeThr_moves
    | with_reducible apply Eng_memWrite_moves
    | with_reducible apply Eng_spillPop_moves
    | with_reducible apply Mbx_bind_moves
    | with_reducible apply Mbx_writeData_moves
    | with_reducible apply Mbx_doorbell_moves
    | with_reducible apply Mbx_lockWrite_moves
    | with_reducible apply Pmc_pop_moves
    | with_reducible apply Pmc_writeLo_moves
    | with_reducible apply Pmc_writeHi_moves
    | with_reducible apply Hka_writeCtrl_moves
    | with_reducible apply Hka_seqGo_moves
    | with_reducible apply Hka_writeInj_moves
    | with_reducible apply Hka_writeDuty_moves
    | with_reducible apply Flt_writeCfg_moves
    | with_reducible apply Flt_writeCtrl_moves
    | with_reducible apply Flt_writeFir_moves
    | with_reducible apply Bus_writeCal_moves
    | with_reducible apply Bst_writeCtrl_moves
    | with_reducible apply Mbx_cryWrite_moves
    | with_reducible apply Cry_writeKeyCmd_moves
    | with_reducible apply Cry_writeKeyWord_moves
    | with_reducible apply Syn_writeCtrl_moves
    | with_reducible apply Syn_writeRefQl_moves
    | with_reducible apply Syn_writeTc_moves
    | with_reducible apply Syn_writeAge_moves
    | with_reducible apply Syn_pstep_moves
    | with_reducible apply Syn_privKey_moves
    | with_reducible apply Bus_writeNco_moves
    | with_reducible apply Syn_ncoFreq_moves
    | with_reducible apply Bus_writeTime_moves
    | with_reducible apply Hsl_writeCtrl_moves
    | with_reducible apply Hsl_writeRclk_moves
    | with_reducible apply Hsl_writeCliCfg_moves
    | with_reducible apply Bus_writeFlow_moves
    | with_reducible apply Flw_writeStage_moves
    | with_reducible apply Qdm_writeCtrl_moves
    | with_reducible apply Qdm_writeRegion_moves
    | with_reducible apply Bus_writeFrm_moves
    | with_reducible apply Frm_writeDefCfg_moves
    | with_reducible apply Flw_writeRaCfg_moves
    | with_reducible apply Fec_writeCfg_moves
    | with_reducible apply Ltx_writeCtrl_moves
    | with_reducible apply Ltx_writeLineCfg_moves
    | with_reducible apply Ltx_writeFreqOfs_moves
    | with_reducible apply Ltx_writeCdpre_moves
    | with_reducible apply Ltx_writeCdpreCtrl_moves
    | with_reducible apply Ltx_writeSkew_moves
    | with_reducible apply Lrx_writeCtrl_moves
    | with_reducible apply Lrx_writeLineCfg_moves
    | with_reducible apply Lrx_writeRxGrp_moves
    | with_reducible apply Lrx_writeCdCtrl_moves
    | with_reducible apply Lrx_writeCdRes_moves
    | with_reducible apply Lrx_writeEqCfg_moves
    | with_reducible apply Bus_writeChange_moves
    | with_reducible apply Bus_writeGrant_moves
    | with_reducible apply Brx_writeCtrl_moves
    | with_reducible apply Brx_recPop_moves
    | with_reducible apply Brx_colPop_moves
    | with_reducible apply Vlk_writeCtrl_moves
    | with_reducible apply Vlk_writeTEq_moves
    | with_reducible apply Brx_outOfUse_moves
    | with_reducible apply Bus_plain_moves
    | with_reducible apply Vlk_wake_moves
    | with_reducible apply Vlk_writeTxPost_moves
    | with_reducible apply Vlk_ringPop_moves
    | with_reducible apply Vlk_writeLeaf_moves
    | with_reducible apply Cvt_writeDacFs_moves
    | with_reducible apply Cvt_writeAdcFs_moves
    | with_reducible apply Cvt_refresh_moves
    | with_reducible apply Lsr_laser_moves
    | with_reducible apply Lsr_writeCtrl_moves
    | with_reducible apply Lsr_serCmd_moves
    | with_reducible apply Lsr_writeGain_moves
    | with_reducible apply Lsr_writeFtOut_moves
    | with_reducible apply Flt_writeLoopCfg_moves
    | with_reducible apply Peer_writeCtrl_moves
    | with_reducible apply Peer_writeCfg_moves
    | intro _
    | split)

theorem Bus_follow_moves {W : Part → Prop} {s₀ s : State} (h0 : W (.fld F.CAL_INT_CAUSE_ABORTED)) (h1 : W (.fld F.CAL_STAT_STATE)) (h2 : W (.fld F.HKA_STAT_CAL_HOLD)) (h3 : W (.fld F.HKA_STAT_INJ_PEND)) (h4 : W (.fld F.HKA_STAT_STATE)) (h5 : W (.fld F.SYN_INT_CAUSE_QL_CHG)) (h6 : W (.fld F.SYN_REF_STAT_ELIGIBLE)) (h7 : W (.fld F.SYN_REF_STAT_QL_EFF)) (h8 : W (.fld F.SYN_STAT_OUT_QL)) (h9 : W (.fld F.SYN_STAT_SEL_QL)) (h10 : W (.fld H.BST_WAITING)) (h11 : W (.fld H.CAL_RETRY)) (h12 : W (.fld H.HKA_CAL_WAIT)) (h13 : W (.fld H.HKA_CUR)) (h14 : W (.fld H.HKA_RUN)) (h15 : W (.fld H.HKA_SEQ_STATE)) (h16 : W (.fld H.HKA_TICKS)) (h17 : W (.fld H.SYN_KEYSTEP)) (h18 : W (.fld H.SYN_LINE_OK)) (h19 : W (.fld H.SYN_OUT_RUN)) (h20 : W (.fld H.SYN_QL_SENT)) (a0 : Sys2Proof.Machine.Pmc.Who) (a1 : Sys2Proof.Machine.RegId) (a2 : Nat) (a3 : Sys2Proof.Machine.State) (h : Moves W s₀ s) :
    Moves W s₀ (Sys2Proof.Machine.Bus.follow a0 a1 a2 a3 s) := by
  unfold Sys2Proof.Machine.Bus.follow
  repeat' (first
    | with_reducible assumption
    | with_reducible apply Syn_otherWrite_moves
    | with_reducible apply Syn_refresh_moves
    | with_reducible apply Bus_lineWritten_moves
    | intro _
    | split
    | (extract_lets +onlyGivenNames x; first
      | (refine Moves.keep (W := W) (s₀ := s₀) x ?_ ?_; rotate_left; intro hx; clear_value x; rotate_right)
      | (refine Moves.keep (W := W) (s₀ := s₀) x.2 ?_ ?_; rotate_left; intro hx; clear_value x; rotate_right)
      | (refine Moves.keep (W := W) (s₀ := s₀) x.1 ?_ ?_; rotate_left; intro hx; clear_value x; rotate_right)
      | skip))

theorem Bus_perform_moves {W : Part → Prop} {s₀ s : State} (hw : ∀ x, W x) (a0 : Sys2Proof.Machine.Pmc.Who) (a1 : Nat) (a2 : Nat) (h : Moves W s₀ s) :
    Moves W s₀ (Sys2Proof.Machine.Bus.perform a0 a1 a2 s) := by
  unfold Sys2Proof.Machine.Bus.perform
  repeat' (first
    | with_reducible assumption
    | exact hw _
    | with_reducible apply Moves.set
    | with_reducible apply Pmc_event_moves
    | with_reducible apply Pmc_access_moves
    | with_reducible apply Bus_follow_moves
    | with_reducible apply Bus_act_moves
    | intro _
    | split)

theorem Bus_hold_moves {W : Part → Prop} {s₀ s : State} (h0 : W .held) (a0 : Sys2Proof.Machine.Pmc.Who) (a1 : Nat) (a2 : Nat) (a3 : Bool) (h : Moves W s₀ s) :
    Moves W s₀ (Sys2Proof.Machine.Bus.hold a0 a1 a2 a3 s) := by
  unfold Sys2Proof.Machine.Bus.hold
  repeat' (first
    | with_reducible assumption
    | intro _
    | (with_reducible refine Moves.held _ ?_ ?_ <;> with_reducible first
      | assumption))

theorem Bus_write_moves {W : Part → Prop} {s₀ s : State} (hw : ∀ x, W x) (a0 : Sys2Proof.Machine.Pmc.Who) (a1 : Nat) (a2 : Nat) (h : Moves W s₀ s) :
    Moves W s₀ (Sys2Proof.Machine.Bus.write a0 a1 a2 s) := by
  unfold Sys2Proof.Machine.Bus.write
  repeat' (first
    | with_reducible assumption
    | exact hw _
    | with_reducible apply Bus_hold_moves
    | with_reducible apply Bus_perform_moves
    | intro _
    | split)

theorem Bus_row_moves {W : Part → Prop} {s₀ s : State} (h0 : W .held) (h1 : W .qdr) (h2 : W (.fld F.CAL_INT_CAUSE_ABORTED)) (h3 : W (.fld F.CAL_STAT_STATE)) (h4 : W (.fld F.HKA_STAT_CAL_HOLD)) (h5 : W (.fld F.HKA_STAT_INJ_PEND)) (h6 : W (.fld F.HKA_STAT_STATE)) (h7 : W (.fld F.PEER_INT_CAUSE_MIRRORED)) (h8 : W (.fld F.PMC_INT_CAUSE_OVF)) (h9 : W (.fld F.PMC_INT_CAUSE_SMP_AVAIL)) (h10 : W (.fld F.PMC_INT_CAUSE_SMP_DROP)) (h11 : W (.fld F.PMC_OVF_STAT_OVF)) (h12 : W (.fld F.PMC_SMP_DROP_RING)) (h13 : W (.fld F.PMC_SMP_STAT_COUNT)) (h14 : W (.fld F.SYN_INT_CAUSE_QL_CHG)) (h15 : W (.fld F.SYN_REF_STAT_ELIGIBLE)) (h16 : W (.fld F.SYN_REF_STAT_QL_EFF)) (h17 : W (.fld F.SYN_STAT_OUT_QL)) (h18 : W (.fld F.SYN_STAT_SEL_QL)) (h19 : W (.fld H.BST_WAITING)) (h20 : W (.fld H.CAL_RETRY)) (h21 : W (.fld H.HKA_CAL_WAIT)) (h22 : W (.fld H.HKA_CUR)) (h23 : W (.fld H.HKA_RUN)) (h24 : W (.fld H.HKA_SEQ_STATE)) (h25 : W (.fld H.HKA_TICKS)) (h26 : W (.fld H.PMC_CNT)) (h27 : W (.fld H.PMC_OVF_DUE)) (h28 : W (.fld H.PMC_OVF_T)) (h29 : W (.fld H.PMC_RING)) (h30 : W (.fld H.PMC_TRACE_POS)) (h31 : W (.fld H.SYN_KEYSTEP)) (h32 : W (.fld H.SYN_LINE_OK)) (h33 : W (.fld H.SYN_OUT_RUN)) (h34 : W (.fld H.SYN_QL_SENT)) (a0 : Sys2Proof.Machine.Pmc.Who) (a1 : Sys2Proof.Machine.RegId) (a2 : Nat) (a3 : Nat) (a4 : Nat → Nat) (a5 : Sys2Proof.Machine.State → Sys2Proof.Machine.State) (hf5 : ∀ b0, Moves W s₀ b0 → Moves W s₀ (a5 b0)) (h : Moves W s₀ s) :
    Moves W s₀ (Sys2Proof.Machine.Bus.row a0 a1 a2 a3 a4 a5 s) := by
  unfold Sys2Proof.Machine.Bus.row
  repeat' (first
    | with_reducible assumption
    | with_reducible apply Moves.set
    | with_reducible apply Bus_hold_moves
    | with_reducible apply Pmc_access_moves
    | with_reducible apply Bus_follow_moves
    | with_reducible apply hf5
    | intro _
    | split
    | (extract_lets +onlyGivenNames x; first
      | (refine Moves.keep (W := W) (s₀ := s₀) x ?_ ?_; rotate_left; intro hx; clear_value x; rotate_right)
      | (refine Moves.keep (W := W) (s₀ := s₀) x.2 ?_ ?_; rotate_left; intro hx; clear_value x; rotate_right)
      | (refine Moves.keep (W := W) (s₀ := s₀) x.1 ?_ ?_; rotate_left; intro hx; clear_value x; rotate_right)
      | skip))

theorem Bus_fetch_moves {W : Part → Prop} {s₀ s : State} (hw : ∀ x, W x) (a0 : Sys2Proof.Machine.Pmc.Who) (a1 : Nat) (h : Moves W s₀ s) :
    Moves W s₀ (Sys2Proof.Machine.Bus.fetch a0 a1 s) := by
  unfold Sys2Proof.Machine.Bus.fetch
  repeat' (first
    | with_reducible assumption
    | exact hw _
    | with_reducible apply Moves.emit
    | with_reducible apply Bus_hold_moves
    | with_reducible apply Bus_read_moves
    | intro _
    | split
    | (extract_lets +onlyGivenNames x; first
      | (refine Moves.keep (W := W) (s₀ := s₀) x ?_ ?_; rotate_left; intro hx; clear_value x; rotate_right)
      | (refine Moves.keep (W := W) (s₀ := s₀) x.2 ?_ ?_; rotate_left; intro hx; clear_value x; rotate_right)
      | (refine Moves.keep (W := W) (s₀ := s₀) x.1 ?_ ?_; rotate_left; intro hx; clear_value x; rotate_right)
      | skip))

theorem Bus_release_moves {W : Part → Prop} {s₀ s : State} (hw : ∀ x, W x) (a0 : Sys2Proof.Machine.HeldAccess) (h : Moves W s₀ s) :
    Moves W s₀ (Sys2Proof.Machine.Bus.release a0 s) := by
  unfold Sys2Proof.Machine.Bus.release
  repeat' (first
    | with_reducible assumption
    | exact hw _
    | with_reducible apply Moves.emit
    | with_reducible apply Bus_perform_moves
    | with_reducible apply Bus_read_moves
    | intro _
    | split
    | (extract_lets +onlyGivenNames x; first
      | (refine Moves.keep (W := W) (s₀ := s₀) x ?_ ?_; rotate_left; intro hx; clear_value x; rotate_right)
      | (refine Moves.keep (W := W) (s₀ := s₀) x.2 ?_ ?_; rotate_left; intro hx; clear_value x; rotate_right)
      | (refine Moves.keep (W := W) (s₀ := s₀) x.1 ?_ ?_; rotate_left; intro hx; clear_value x; rotate_right)
      | skip))

theorem Bus_releaseAll_moves {W : Part → Prop} {s₀ s : State} (hw : ∀ x, W x) (a0 : Sys2Proof.Machine.HeldAccess → Bool) (h : Moves W s₀ s) :
    Moves W s₀ (Sys2Proof.Machine.Bus.releaseAll a0 s) := by
  unfold Sys2Proof.Machine.Bus.releaseAll
  repeat' (first
    | with_reducible assumption
    | exact hw _
    | with_reducible apply Moves.eachOf
    | with_reducible apply Bus_release_moves
    | intro _
    | (extract_lets +onlyGivenNames x; first
      | (refine Moves.keep (W := W) (s₀ := s₀) x ?_ ?_; rotate_left; intro hx; clear_value x; rotate_right)
      | (refine Moves.keep (W := W) (s₀ := s₀) x.2 ?_ ?_; rotate_left; intro hx; clear_value x; rotate_right)
      | (refine Moves.keep (W := W) (s₀ := s₀) x.1 ?_ ?_; rotate_left; intro hx; clear_value x; rotate_right)
      | skip)
    | (with_reducible refine Moves.held _ ?_ ?_ <;> with_reducible first
      | assumption
      | apply Moves.eachOf
      | apply Bus_release_moves
      | exact hw _))

theorem Bus_softResetDone_moves {W : Part → Prop} {s₀ s : State} (hw : ∀ x, W x) (a0 : Nat) (h : Moves W s₀ s) :
    Moves W s₀ (Sys2Proof.Machine.Bus.softResetDone a0 s) := by
  unfold Sys2Proof.Machine.Bus.softResetDone
  repeat' (first
    | with_reducible assumption
    | exact hw _
    | with_reducible apply Moves.clrBit
    | with_reducible apply Bus_releaseAll_moves
    | intro _
    | split)

theorem Bus_restExitDone_moves {W : Part → Prop} {s₀ s : State} (hw : ∀ x, W x) (a0 : Nat) (a1 : List (List Nat)) (h : Moves W s₀ s) :
    Moves W s₀ (Sys2Proof.Machine.Bus.restExitDone a0 a1 s) := by
  unfold Sys2Proof.Machine.Bus.restExitDone
  repeat' (first
    | with_reducible assumption
    | exact hw _
    | with_reducible apply Bus_releaseAll_moves
    | with_reducible apply Sys_restExit_moves
    | intro _
    | split)

end Sys2Proof.Laws
end

