-- ==== Sys2Proof/Laws/MovesEngBus.lean ====
section
/-! SUPPORT. Sys2Proof/Laws/MovesEngBus.lean: what each operation of Machine/EngBus.lean may write (Laws/Moves.lean). -/
namespace Sys2Proof.Laws
open Sys2Proof Sys2Proof.Machine

theorem EngBus_word_moves {W : Part → Prop} {s₀ s : State} (hw : ∀ x, W x) (a0 : Sys2Proof.Machine.EngBus.Writer) (a1 : Sys2Proof.Machine.EngOp) (a2 : Nat) (hf0 : ∀ b0 b1 b2 b3, Moves W s₀ b3 → Moves W s₀ (a0 b0 b1 b2 b3)) (h : Moves W s₀ s) :
    Moves W s₀ (Sys2Proof.Machine.EngBus.word a0 a1 a2 s).2 := by
  unfold Sys2Proof.Machine.EngBus.word
  repeat' (first
    | with_reducible assumption
    | exact hw _
    | with_reducible apply Bus_read_moves
    | with_reducible apply Eng_setMem_moves
    | with_reducible apply hf0
    | intro _
    | split
    | (extract_lets +onlyGivenNames x; first
      | (refine Moves.keep (W := W) (s₀ := s₀) x ?_ ?_; rotate_left; intro hx; clear_value x; rotate_right)
      | (refine Moves.keep (W := W) (s₀ := s₀) x.2 ?_ ?_; rotate_left; intro hx; clear_value x; rotate_right)
      | (refine Moves.keep (W := W) (s₀ := s₀) x.1 ?_ ?_; rotate_left; intro hx; clear_value x; rotate_right)
      | skip)
    | (have hx := congrArg Prod.snd ‹_ = (_, _)›; dsimp only at hx; subst hx)
    | (with_reducible refine Moves.qdr _ _ ?_ ?_ <;> with_reducible first
      | assumption
      | apply Bus_read_moves
      | apply Eng_setMem_moves
      | exact hw _))

theorem EngBus_setDone_moves {W : Part → Prop} {s₀ s : State} (h0 : W (.fld H.ENG_JRNL)) (a0 : Sys2Proof.Machine.EngOp) (a1 : Nat) (h : Moves W s₀ s) :
    Moves W s₀ (Sys2Proof.Machine.EngBus.setDone a0 a1 s) := by
  unfold Sys2Proof.Machine.EngBus.setDone
  repeat' (first
    | with_reducible assumption
    | with_reducible apply Moves.put
    | intro _
    | (extract_lets +onlyGivenNames x; first
      | (refine Moves.keep (W := W) (s₀ := s₀) x ?_ ?_; rotate_left; intro hx; clear_value x; rotate_right)
      | (refine Moves.keep (W := W) (s₀ := s₀) x.2 ?_ ?_; rotate_left; intro hx; clear_value x; rotate_right)
      | (refine Moves.keep (W := W) (s₀ := s₀) x.1 ?_ ?_; rotate_left; intro hx; clear_value x; rotate_right)
      | skip))

theorem EngBus_run_moves {W : Part → Prop} {s₀ : State} (hw : ∀ x, W x) (w : EngBus.Writer) (o : EngOp)
    (hf : ∀ b0 b1 b2 b3, Moves W s₀ b3 → Moves W s₀ (w b0 b1 b2 b3)) :
    ∀ (n i : Nat) (r : Nat × State), Moves W s₀ r.2 → Moves W s₀ (EngBus.run w o n i r).2 := by
  intro n
  induction n with
  | zero => intro i r h; exact h
  | succ n ih =>
    intro i r h
    unfold EngBus.run
    split
    · extract_lets t
      have ht : Moves W s₀ t.2 := EngBus_word_moves hw _ _ _ hf h
      clear_value t
      apply ih
      dsimp only
      split
      · exact EngBus_setDone_moves (hw _) _ _ ht
      · exact ht
    · exact h

theorem EngBus_applied_moves {W : Part → Prop} {s₀ s : State} (h0 : W .eng) (h1 : W .qdr) (h2 : W (.fld F.ENG_GREG_VAL)) (h3 : W (.fld F.ENG_INT_CAUSE_ABORT)) (h4 : W (.fld F.ENG_STAT_FAULTED)) (h5 : W (.fld F.ENG_STAT_INFLIGHT)) (h6 : W (.fld F.ENG_STAT_RUNNING)) (h7 : W (.fld F.ENG_STAT_TAGS_USED)) (h8 : W (.fld F.ENG_TAG_ALLOC)) (h9 : W (.fld F.ENG_TAG_STATE)) (h10 : W (.fld F.ENG_THR_STAT_PC)) (h11 : W (.fld F.ENG_THR_STAT_STATE)) (h12 : W (.fld F.PMC_INT_CAUSE_OVF)) (h13 : W (.fld F.PMC_INT_CAUSE_SMP_AVAIL)) (h14 : W (.fld F.PMC_INT_CAUSE_SMP_DROP)) (h15 : W (.fld F.PMC_OVF_STAT_OVF)) (h16 : W (.fld F.PMC_SMP_DROP_RING)) (h17 : W (.fld F.PMC_SMP_STAT_COUNT)) (h18 : W (.fld H.ENG_JRNL)) (h19 : W (.fld H.ENG_PAST)) (h20 : W (.fld H.PMC_CNT)) (h21 : W (.fld H.PMC_OVF_DUE)) (h22 : W (.fld H.PMC_OVF_T)) (h23 : W (.fld H.PMC_RING)) (h24 : W (.fld H.PMC_TRACE_POS)) (a0 : Sys2Proof.Machine.EngOp) (a1 : Nat) (h : Moves W s₀ s) :
    Moves W s₀ (Sys2Proof.Machine.EngBus.applied a0 a1 s) := by
  unfold Sys2Proof.Machine.EngBus.applied
  repeat' (first
    | with_reducible assumption
    | with_reducible apply Eng_setReg_moves
    | with_reducible apply Eng_finalise_moves
    | intro _
    | split
    | (extract_lets +onlyGivenNames x; first
      | (refine Moves.keep (W := W) (s₀ := s₀) x ?_ ?_; rotate_left; intro hx; clear_value x; rotate_right)
      | (refine Moves.keep (W := W) (s₀ := s₀) x.2 ?_ ?_; rotate_left; intro hx; clear_value x; rotate_right)
      | (refine Moves.keep (W := W) (s₀ := s₀) x.1 ?_ ?_; rotate_left; intro hx; clear_value x; rotate_right)
      | skip))

theorem EngBus_final_moves {W : Part → Prop} {s₀ s : State} (hw : ∀ x, W x) (a0 : Sys2Proof.Machine.EngBus.Writer) (a1 : Nat) (a2 : Nat) (a3 : Nat) (a4 : Nat) (hf0 : ∀ b0 b1 b2 b3, Moves W s₀ b3 → Moves W s₀ (a0 b0 b1 b2 b3)) (h : Moves W s₀ s) :
    Moves W s₀ (Sys2Proof.Machine.EngBus.final a0 a1 a2 a3 a4 s) := by
  unfold EngBus.final
  split
  · exact h
  · rename_i o ho
    split
    · exact h
    split
    · apply Sys_cut_moves <;> first | exact hw _ | assumption
    extract_lets d k r s1
    have hr : Moves W s₀ r.2 := EngBus_run_moves hw _ _ hf0 _ _ _ h
    clear_value r
    have h1 : Moves W s₀ s1 := by
      dsimp only [s1]; split
      · apply Qdm_transferred_moves <;> first | exact hw _ | assumption
      · exact hr
    clear_value s1 k
    split
    · exact h1
    split
    · apply EngBus_applied_moves <;> first | exact hw _ | assumption
    split
    · apply Eng_finalise_moves <;> first | exact hw _ | skip
      apply Qdm_dataError_moves <;> first | exact hw _ | assumption
    · exact h1

theorem EngBus_accept_moves {W : Part → Prop} {s₀ s : State} (h0 : W .eng) (h1 : W (.fld F.ENG_TAG_STATE)) (h2 : W (.fld H.ENG_JRNL)) (a0 : Nat) (a1 : Nat) (h : Moves W s₀ s) :
    Moves W s₀ (Sys2Proof.Machine.EngBus.accept a0 a1 s) := by
  unfold Sys2Proof.Machine.EngBus.accept
  repeat' (first
    | with_reducible assumption
    | with_reducible apply Eng_accept_moves
    | intro _
    | split)

theorem EngBus_convert_moves {W : Part → Prop} {s₀ s : State} (hw : ∀ x, W x) (a0 : Sys2Proof.Machine.EngOp) (h : Moves W s₀ s) :
    Moves W s₀ (Sys2Proof.Machine.EngBus.convert a0 s) := by
  unfold Sys2Proof.Machine.EngBus.convert
  repeat' (first
    | with_reducible assumption
    | exact hw _
    | with_reducible apply Moves.drew
    | with_reducible apply Moves.put
    | with_reducible apply Eng_finalise_moves
    | with_reducible apply EngBus_word_moves
    | with_reducible apply Bus_write_moves
    | intro _
    | split
    | (extract_lets +onlyGivenNames x; first
      | (refine Moves.keep (W := W) (s₀ := s₀) x ?_ ?_; rotate_left; intro hx; clear_value x; rotate_right)
      | (refine Moves.keep (W := W) (s₀ := s₀) x.2 ?_ ?_; rotate_left; intro hx; clear_value x; rotate_right)
      | (refine Moves.keep (W := W) (s₀ := s₀) x.1 ?_ ?_; rotate_left; intro hx; clear_value x; rotate_right)
      | skip))

end Sys2Proof.Laws
end

