-- ==== Sys2Proof/Laws/MovesImg.lean ====
section
/-! SUPPORT. Sys2Proof/Laws/MovesImg.lean: what each operation of Machine/Img.lean may write (Laws/Moves.lean). -/
namespace Sys2Proof.Laws
open Sys2Proof Sys2Proof.Machine

theorem Img_writeRecord_moves {W : Part → Prop} {s₀ s : State} (h0 : W .flash) (a0 : Sys2Proof.Machine.Img.Record) (h : Moves W s₀ s) :
    Moves W s₀ (Sys2Proof.Machine.Img.writeRecord a0 s) := by
  unfold Sys2Proof.Machine.Img.writeRecord
  repeat' (first
    | with_reducible assumption
    | with_reducible apply Flash_program_moves
    | with_reducible apply Flash_erase_moves
    | intro _
    | split
    | (extract_lets +onlyGivenNames x; first
      | (refine Moves.keep (W := W) (s₀ := s₀) x ?_ ?_; rotate_left; intro hx; clear_value x; rotate_right)
      | (refine Moves.keep (W := W) (s₀ := s₀) x.2 ?_ ?_; rotate_left; intro hx; clear_value x; rotate_right)
      | (refine Moves.keep (W := W) (s₀ := s₀) x.1 ?_ ?_; rotate_left; intro hx; clear_value x; rotate_right)
      | skip))

theorem Img_showRecord_moves {W : Part → Prop} {s₀ s : State} (h0 : W (.fld F.SE_IMG_STAT_PREV_VALID)) (h1 : W (.fld F.SE_IMG_STAT_SLOT)) (h2 : W (.fld F.SE_IMG_STAT_TRIAL)) (h3 : W (.fld F.SE_IMG_VER_VERSION)) (h4 : W (.fld F.SE_PREV_VER_VERSION)) (h : Moves W s₀ s) :
    Moves W s₀ (Sys2Proof.Machine.Img.showRecord s) := by
  unfold Sys2Proof.Machine.Img.showRecord
  repeat' (first
    | with_reducible assumption
    | with_reducible apply Moves.put
    | intro _
    | split
    | (extract_lets +onlyGivenNames x; first
      | (refine Moves.keep (W := W) (s₀ := s₀) x ?_ ?_; rotate_left; intro hx; clear_value x; rotate_right)
      | (refine Moves.keep (W := W) (s₀ := s₀) x.2 ?_ ?_; rotate_left; intro hx; clear_value x; rotate_right)
      | (refine Moves.keep (W := W) (s₀ := s₀) x.1 ?_ ?_; rotate_left; intro hx; clear_value x; rotate_right)
      | skip))

theorem Img_activate_moves {W : Part → Prop} {s₀ s : State} (h0 : W .flash) (h1 : W (.fld F.ENG_INT_CAUSE_ACT_ERR)) (a0 : Nat) (h : Moves W s₀ s) :
    Moves W s₀ (Sys2Proof.Machine.Img.activate a0 s).2 := by
  unfold Sys2Proof.Machine.Img.activate
  repeat' (first
    | with_reducible assumption
    | with_reducible apply Moves.set
    | with_reducible apply Img_writeRecord_moves
    | intro _
    | split)

theorem Img_healthOk_moves {W : Part → Prop} {s₀ s : State} (h0 : W .flash) (h1 : W (.fld F.SE_IMG_STAT_TRIAL)) (h2 : W (.fld F.SE_IMG_STAT_TRIAL_LEFT)) (h : Moves W s₀ s) :
    Moves W s₀ (Sys2Proof.Machine.Img.healthOk s) := by
  unfold Sys2Proof.Machine.Img.healthOk
  repeat' (first
    | with_reducible assumption
    | with_reducible apply Moves.clr
    | with_reducible apply Img_writeRecord_moves
    | intro _
    | split
    | (extract_lets +onlyGivenNames x; first
      | (refine Moves.keep (W := W) (s₀ := s₀) x ?_ ?_; rotate_left; intro hx; clear_value x; rotate_right)
      | (refine Moves.keep (W := W) (s₀ := s₀) x.2 ?_ ?_; rotate_left; intro hx; clear_value x; rotate_right)
      | (refine Moves.keep (W := W) (s₀ := s₀) x.1 ?_ ?_; rotate_left; intro hx; clear_value x; rotate_right)
      | skip))

theorem Img_healthTimeout_moves {W : Part → Prop} {s₀ s : State} (h0 : W .flash) (h1 : W (.fld F.SE_IMG_STAT_RB_CAUSE)) (h : Moves W s₀ s) :
    Moves W s₀ (Sys2Proof.Machine.Img.healthTimeout s).2 := by
  unfold Sys2Proof.Machine.Img.healthTimeout
  repeat' (first
    | with_reducible assumption
    | with_reducible apply Moves.put
    | with_reducible apply Img_writeRecord_moves
    | intro _
    | split)

theorem Img_rollback_moves {W : Part → Prop} {s₀ s : State} (h0 : W .flash) (h1 : W (.fld F.ENG_INT_CAUSE_ACT_ERR)) (h2 : W (.fld F.SE_IMG_STAT_RB_CAUSE)) (h : Moves W s₀ s) :
    Moves W s₀ (Sys2Proof.Machine.Img.rollback s).2 := by
  unfold Sys2Proof.Machine.Img.rollback
  repeat' (first
    | with_reducible assumption
    | with_reducible apply Moves.put
    | with_reducible apply Moves.set
    | with_reducible apply Img_writeRecord_moves
    | intro _
    | split
    | (extract_lets +onlyGivenNames x; first
      | (refine Moves.keep (W := W) (s₀ := s₀) x ?_ ?_; rotate_left; intro hx; clear_value x; rotate_right)
      | (refine Moves.keep (W := W) (s₀ := s₀) x.2 ?_ ?_; rotate_left; intro hx; clear_value x; rotate_right)
      | (refine Moves.keep (W := W) (s₀ := s₀) x.1 ?_ ?_; rotate_left; intro hx; clear_value x; rotate_right)
      | skip))

theorem Img_readDescriptor_moves {W : Part → Prop} {s₀ s : State} (h0 : W (.fld F.BOOT_STAT_DESC_OK)) (h1 : W (.fld F.BOOT_STAT_ERR)) (h2 : W (.fld F.BOOT_STAT_SPI_MHZ)) (h : Moves W s₀ s) :
    Moves W s₀ (Sys2Proof.Machine.Img.readDescriptor s) := by
  unfold Sys2Proof.Machine.Img.readDescriptor
  repeat' (first
    | with_reducible assumption
    | with_reducible apply Moves.put
    | with_reducible apply Moves.set
    | intro _
    | split)

theorem Img_loadThread_moves {W : Part → Prop} {s₀ s : State} (h0 : W (.fld F.ENG_THR_ENTRY)) (h1 : W (.fld F.ENG_THR_SUPER)) (h2 : W (.fld H.ENG_START)) (a0 : Nat) (a1 : Nat) (a2 : Nat) (h : Moves W s₀ s) :
    Moves W s₀ (Sys2Proof.Machine.Img.loadThread a0 a1 a2 s) := by
  unfold Sys2Proof.Machine.Img.loadThread
  repeat' (first
    | with_reducible assumption
    | with_reducible apply Moves.put
    | intro _)

theorem Img_loadSection_moves {W : Part → Prop} {s₀ s : State} (h0 : W (.fld F.ENG_STAT_LOADED)) (h1 : W (.fld F.ENG_THR_ENTRY)) (h2 : W (.fld F.ENG_THR_SUPER)) (h3 : W (.fld H.ENG_DMEM)) (h4 : W (.fld H.ENG_IMEM)) (h5 : W (.fld H.ENG_START)) (a0 : Nat → Nat → Sys2Proof.Machine.State → Sys2Proof.Machine.State) (a1 : Nat) (a2 : Sys2Proof.Machine.Img.Section) (hf0 : ∀ b0 b1 b2, Moves W s₀ b2 → Moves W s₀ (a0 b0 b1 b2)) (h : Moves W s₀ s) :
    Moves W s₀ (Sys2Proof.Machine.Img.loadSection a0 a1 a2 s) := by
  unfold Sys2Proof.Machine.Img.loadSection
  repeat' (first
    | with_reducible assumption
    | with_reducible apply Moves.eachOf
    | with_reducible apply Moves.put
    | with_reducible apply Moves.set
    | with_reducible apply Img_loadThread_moves
    | with_reducible apply hf0
    | intro _
    | split
    | (extract_lets +onlyGivenNames x; first
      | (refine Moves.keep (W := W) (s₀ := s₀) x ?_ ?_; rotate_left; intro hx; clear_value x; rotate_right)
      | (refine Moves.keep (W := W) (s₀ := s₀) x.2 ?_ ?_; rotate_left; intro hx; clear_value x; rotate_right)
      | (refine Moves.keep (W := W) (s₀ := s₀) x.1 ?_ ?_; rotate_left; intro hx; clear_value x; rotate_right)
      | skip))

theorem Img_fwOpen_moves {W : Part → Prop} {s₀ s : State} (h0 : W .flash) (h1 : W (.arr H.VLK_FW_HAVE)) (h2 : W (.fld H.VLK_FW_CRC)) (h3 : W (.fld H.VLK_FW_ON)) (h4 : W (.fld H.VLK_FW_SIZE)) (h5 : W (.fld H.VLK_FW_VER)) (a0 : Nat) (a1 : Nat) (a2 : Nat) (h : Moves W s₀ s) :
    Moves W s₀ (Sys2Proof.Machine.Img.fwOpen a0 a1 a2 s) := by
  unfold Sys2Proof.Machine.Img.fwOpen
  repeat' (first
    | with_reducible assumption
    | with_reducible apply Moves.put
    | with_reducible apply Moves.set
    | with_reducible apply Moves.wipe
    | with_reducible apply Flash_erase_moves
    | intro _
    | (extract_lets +onlyGivenNames x; first
      | (refine Moves.keep (W := W) (s₀ := s₀) x ?_ ?_; rotate_left; intro hx; clear_value x; rotate_right)
      | (refine Moves.keep (W := W) (s₀ := s₀) x.2 ?_ ?_; rotate_left; intro hx; clear_value x; rotate_right)
      | (refine Moves.keep (W := W) (s₀ := s₀) x.1 ?_ ?_; rotate_left; intro hx; clear_value x; rotate_right)
      | skip))

theorem Img_fwByte_moves {W : Part → Prop} {s₀ s : State} (h0 : W .flash) (h1 : W (.fld H.VLK_FW_HAVE)) (a0 : Nat) (a1 : Nat) (h : Moves W s₀ s) :
    Moves W s₀ (Sys2Proof.Machine.Img.fwByte a0 a1 s) := by
  unfold Sys2Proof.Machine.Img.fwByte
  repeat' (first
    | with_reducible assumption
    | with_reducible apply Moves.setBit
    | with_reducible apply Flash_program_moves
    | intro _
    | (extract_lets +onlyGivenNames x; first
      | (refine Moves.keep (W := W) (s₀ := s₀) x ?_ ?_; rotate_left; intro hx; clear_value x; rotate_right)
      | (refine Moves.keep (W := W) (s₀ := s₀) x.2 ?_ ?_; rotate_left; intro hx; clear_value x; rotate_right)
      | (refine Moves.keep (W := W) (s₀ := s₀) x.1 ?_ ?_; rotate_left; intro hx; clear_value x; rotate_right)
      | skip))

theorem Img_fwData_moves {W : Part → Prop} {s₀ s : State} (h0 : W .flash) (h1 : W (.fld H.VLK_FW_HAVE)) (a0 : Nat) (a1 : List Nat) (h : Moves W s₀ s) :
    Moves W s₀ (Sys2Proof.Machine.Img.fwData a0 a1 s) := by
  unfold Sys2Proof.Machine.Img.fwData
  repeat' (first
    | with_reducible assumption
    | with_reducible apply Moves.eachOf
    | with_reducible apply Img_fwByte_moves
    | intro _
    | split)

end Sys2Proof.Laws
end

