-- ==== Sys2Proof/Laws/MovesReset.lean ====
section
/-! SUPPORT. Sys2Proof/Laws/MovesReset.lean: what each operation of Machine/Reset.lean may write (Laws/Moves.lean). -/
namespace Sys2Proof.Laws
open Sys2Proof Sys2Proof.Machine

theorem Reset_tornFlash_moves {W : Part → Prop} {s₀ s : State} (h0 : W .flash) (h : Moves W s₀ s) :
    Moves W s₀ (Sys2Proof.Machine.Reset.tornFlash s) := by
  unfold Sys2Proof.Machine.Reset.tornFlash
  repeat' (first
    | with_reducible assumption
    | with_reducible apply Flash_erase_moves
    | intro _
    | split)

theorem Reset_tornSlice_moves {W : Part → Prop} {s₀ s : State} (h0 : W .qdr) (h1 : W (.fld H.ENG_DMEM)) (h2 : W (.fld H.ENG_IMEM)) (h : Moves W s₀ s) :
    Moves W s₀ (Sys2Proof.Machine.Reset.tornSlice s) := by
  unfold Sys2Proof.Machine.Reset.tornSlice
  repeat' (first
    | with_reducible assumption
    | with_reducible apply Bst_lose_moves
    | intro _
    | split)

theorem Reset_clear_moves {W : Part → Prop} {s₀ s : State} (hw : ∀ x, W x) (a0 : Bool) (h : Moves W s₀ s) :
    Moves W s₀ (Sys2Proof.Machine.Reset.clear a0 s) := by
  have h1 := ((((((((h.drop (fun e => Reset.survives a0 e.1) hw).vlk {} (hw _)).brx {} (hw _)).flw {} (hw _)).frm {} (hw _)).eng {}
    (hw _)).flt [] (hw _)).held [] (hw _))
  cases a0
  · exact ((h1.msix {} (hw _)).syn {} (hw _)).qdrLost (hw _)
  · exact h1

theorem Reset_device_moves {W : Part → Prop} {s₀ s : State} (hw : ∀ x, W x) (a0 : Bool) (a1 : Nat) (h : Moves W s₀ s) :
    Moves W s₀ (Sys2Proof.Machine.Reset.device a0 a1 s) := by
  unfold Sys2Proof.Machine.Reset.device
  repeat' (first
    | with_reducible assumption
    | exact hw _
    | with_reducible apply Moves.eachOf
    | with_reducible apply Moves.put
    | with_reducible apply EngBus_convert_moves
    | with_reducible apply Reset_clear_moves
    | with_reducible apply Reset_tornSlice_moves
    | with_reducible apply Reset_tornFlash_moves
    | with_reducible apply Bst_refresh_moves
    | with_reducible apply Syn_refresh_moves
    | intro _
    | split
    | (extract_lets +onlyGivenNames x; first
      | (refine Moves.keep (W := W) (s₀ := s₀) x ?_ ?_; rotate_left; intro hx; clear_value x; rotate_right)
      | (refine Moves.keep (W := W) (s₀ := s₀) x.2 ?_ ?_; rotate_left; intro hx; clear_value x; rotate_right)
      | (refine Moves.keep (W := W) (s₀ := s₀) x.1 ?_ ?_; rotate_left; intro hx; clear_value x; rotate_right)
      | skip))

theorem Reset_warm_moves {W : Part → Prop} {s₀ s : State} (hw : ∀ x, W x) (h : Moves W s₀ s) :
    Moves W s₀ (Sys2Proof.Machine.Reset.warm s) := by
  unfold Sys2Proof.Machine.Reset.warm
  repeat' (first
    | with_reducible assumption
    | exact hw _
    | with_reducible apply Reset_device_moves
    | intro _)

theorem Reset_image_moves {W : Part → Prop} {s₀ s : State} (hw : ∀ x, W x) (h : Moves W s₀ s) :
    Moves W s₀ (Sys2Proof.Machine.Reset.image s) := by
  unfold Sys2Proof.Machine.Reset.image
  repeat' (first
    | with_reducible assumption
    | exact hw _
    | with_reducible apply Reset_device_moves
    | intro _)

theorem Reset_imageIf_moves {W : Part → Prop} {s₀ : State} (hw : ∀ x, W x) (r : Bool × State) (h : Moves W s₀ r.2) :
    Moves W s₀ (Reset.imageIf r) := by
  unfold Reset.imageIf
  split
  · exact Reset_image_moves hw h
  · exact h

theorem Reset_powerOn_moves {W : Part → Prop} {s₀ s : State} (hw : ∀ x, W x) (a0 : Nat) (h : Moves W s₀ s) :
    Moves W s₀ (Sys2Proof.Machine.Reset.powerOn a0 s) := by
  unfold Sys2Proof.Machine.Reset.powerOn
  repeat' (first
    | with_reducible assumption
    | exact hw _
    | with_reducible apply Moves.put
    | with_reducible apply Moves.set
    | with_reducible apply Reset_device_moves
    | intro _
    | split
    | (extract_lets +onlyGivenNames x; first
      | (refine Moves.keep (W := W) (s₀ := s₀) x ?_ ?_; rotate_left; intro hx; clear_value x; rotate_right)
      | (refine Moves.keep (W := W) (s₀ := s₀) x.2 ?_ ?_; rotate_left; intro hx; clear_value x; rotate_right)
      | (refine Moves.keep (W := W) (s₀ := s₀) x.1 ?_ ?_; rotate_left; intro hx; clear_value x; rotate_right)
      | skip))

theorem Reset_railWarn_moves {W : Part → Prop} {s₀ s : State} (h0 : W (.fld F.PWR_INT_CAUSE_RAIL_WARN)) (h1 : W (.fld F.PWR_RAIL_STAT_WARN)) (a0 : Nat) (h : Moves W s₀ s) :
    Moves W s₀ (Sys2Proof.Machine.Reset.railWarn a0 s) := by
  unfold Sys2Proof.Machine.Reset.railWarn
  repeat' (first
    | with_reducible assumption
    | with_reducible apply Moves.set
    | with_reducible apply Moves.setBit
    | intro _
    | split)

theorem Reset_release_moves {W : Part → Prop} {s₀ s : State} (h0 : W (.fld F.PWR_RAIL_STAT_GOOD)) (h1 : W (.fld H.SYS_HELD)) (h : Moves W s₀ s) :
    Moves W s₀ (Sys2Proof.Machine.Reset.release s) := by
  unfold Sys2Proof.Machine.Reset.release
  repeat' (first
    | with_reducible assumption
    | with_reducible apply Moves.clr
    | with_reducible apply Moves.put
    | intro _)

theorem Reset_resetN_moves {W : Part → Prop} {s₀ s : State} (hw : ∀ x, W x) (h : Moves W s₀ s) :
    Moves W s₀ (Sys2Proof.Machine.Reset.resetN s) := by
  unfold Sys2Proof.Machine.Reset.resetN
  repeat' (first
    | with_reducible assumption
    | exact hw _
    | with_reducible apply Moves.set
    | with_reducible apply Reset_device_moves
    | intro _)

theorem Reset_function_moves {W : Part → Prop} {s₀ s : State} (h0 : W .msix) (h1 : W .qdr) (h2 : W (.fld F.CRY_KEY_DATA_KEY)) (h3 : W (.fld F.CRY_KEY_SALT_SALT)) (h4 : W (.fld F.CRY_LOCK_STAT_LOCK_BROKEN)) (h5 : W (.fld F.CRY_LOCK_STAT_OWNER)) (h6 : W (.fld F.MBX_INT_CAUSE_RESET_SEEN)) (h7 : W (.fld F.MBX_LOCK_STAT_LOCK_BROKEN)) (h8 : W (.fld F.MBX_LOCK_STAT_OWNER)) (h9 : W (.fld F.MBX_STAT_RX_RESET_SEEN)) (h10 : W (.fld F.MBX_STAT_SENDER_RESET_SEEN)) (h11 : W (.fld F.PMC_INT_CAUSE_OVF)) (h12 : W (.fld F.PMC_INT_CAUSE_SMP_AVAIL)) (h13 : W (.fld F.PMC_INT_CAUSE_SMP_DROP)) (h14 : W (.fld F.PMC_OVF_STAT_OVF)) (h15 : W (.fld F.PMC_SMP_DROP_RING)) (h16 : W (.fld F.PMC_SMP_STAT_COUNT)) (h17 : W (.fld F.SYN_INT_CAUSE_PRIV_CLOSED)) (h18 : W (.fld F.SYN_NCO_CTRL_OPEN)) (h19 : W (.fld F.SYN_NCO_CTRL_OWNER)) (h20 : W (.fld H.PMC_CNT)) (h21 : W (.fld H.PMC_OVF_DUE)) (h22 : W (.fld H.PMC_OVF_T)) (h23 : W (.fld H.PMC_RING)) (h24 : W (.fld H.PMC_TRACE_POS)) (h25 : W (.fld H.SYN_KEYSTEP)) (h26 : W (.fld H.SYN_NCO_RAMP)) (a0 : Nat) (h : Moves W s₀ s) :
    Moves W s₀ (Sys2Proof.Machine.Reset.function a0 s) := by
  unfold Sys2Proof.Machine.Reset.function
  repeat' (first
    | with_reducible assumption
    | with_reducible apply Sys_masterReset_moves
    | intro _
    | split
    | (extract_lets +onlyGivenNames x; first
      | (refine Moves.keep (W := W) (s₀ := s₀) x ?_ ?_; rotate_left; intro hx; clear_value x; rotate_right)
      | (refine Moves.keep (W := W) (s₀ := s₀) x.2 ?_ ?_; rotate_left; intro hx; clear_value x; rotate_right)
      | (refine Moves.keep (W := W) (s₀ := s₀) x.1 ?_ ?_; rotate_left; intro hx; clear_value x; rotate_right)
      | skip)
    | (with_reducible refine Moves.msix _ ?_ ?_ <;> with_reducible first
      | assumption
      | apply Sys_masterReset_moves))

theorem Reset_perst_moves {W : Part → Prop} {s₀ s : State} (hw : ∀ x, W x) (h : Moves W s₀ s) :
    Moves W s₀ (Sys2Proof.Machine.Reset.perst s) := by
  unfold Sys2Proof.Machine.Reset.perst
  repeat' (first
    | with_reducible assumption
    | exact hw _
    | with_reducible apply Moves.each
    | with_reducible apply Reset_device_moves
    | with_reducible apply Reset_function_moves
    | intro _
    | split)

theorem Reset_writeImgCtrl_moves {W : Part → Prop} {s₀ s : State} (hw : ∀ x, W x) (a0 : Nat) (h : Moves W s₀ s) :
    Moves W s₀ (Sys2Proof.Machine.Reset.writeImgCtrl a0 s) := by
  unfold Sys2Proof.Machine.Reset.writeImgCtrl
  repeat' (first
    | with_reducible assumption
    | exact hw _
    | with_reducible apply Moves.put
    | with_reducible apply Img_healthOk_moves
    | with_reducible apply Reset_imageIf_moves
    | with_reducible apply Img_activate_moves
    | intro _
    | split
    | (extract_lets +onlyGivenNames x; first
      | (refine Moves.keep (W := W) (s₀ := s₀) x ?_ ?_; rotate_left; intro hx; clear_value x; rotate_right)
      | (refine Moves.keep (W := W) (s₀ := s₀) x.2 ?_ ?_; rotate_left; intro hx; clear_value x; rotate_right)
      | (refine Moves.keep (W := W) (s₀ := s₀) x.1 ?_ ?_; rotate_left; intro hx; clear_value x; rotate_right)
      | skip))

theorem Reset_write_moves {W : Part → Prop} {s₀ s : State} (hw : ∀ x, W x) (a0 : Sys2Proof.Machine.Pmc.Who) (a1 : Nat) (a2 : Nat) (h : Moves W s₀ s) :
    Moves W s₀ (Sys2Proof.Machine.Reset.write a0 a1 a2 s) := by
  unfold Sys2Proof.Machine.Reset.write
  repeat' (first
    | with_reducible assumption
    | exact hw _
    | with_reducible apply Bus_write_moves
    | with_reducible apply Reset_warm_moves
    | with_reducible apply Reset_imageIf_moves
    | with_reducible apply Img_rollback_moves
    | with_reducible apply Reset_writeImgCtrl_moves
    | intro _
    | split
    | (extract_lets +onlyGivenNames x; first
      | (refine Moves.keep (W := W) (s₀ := s₀) x ?_ ?_; rotate_left; intro hx; clear_value x; rotate_right)
      | (refine Moves.keep (W := W) (s₀ := s₀) x.2 ?_ ?_; rotate_left; intro hx; clear_value x; rotate_right)
      | (refine Moves.keep (W := W) (s₀ := s₀) x.1 ?_ ?_; rotate_left; intro hx; clear_value x; rotate_right)
      | skip)
    | (have hx := congrArg Prod.snd ‹_ = (_, _)›; dsimp only at hx; subst hx))

end Sys2Proof.Laws
end

