-- ==== Sys2Proof/Laws/MovesAccess.lean ====
section
/-! SUPPORT. Sys2Proof/Laws/MovesAccess.lean: what each operation of Machine/Access.lean may write (Laws/Moves.lean). -/
namespace Sys2Proof.Laws
open Sys2Proof Sys2Proof.Machine

theorem Access_sendPending_moves {W : Part → Prop} {s₀ s : State} (h0 : W .msix) (a0 : Nat) (a1 : Nat) (h : Moves W s₀ s) :
    Moves W s₀ (Sys2Proof.Machine.Access.sendPending a0 a1 s) := by
  unfold Sys2Proof.Machine.Access.sendPending
  repeat' (first
    | with_reducible assumption
    | with_reducible apply Moves.emit
    | intro _
    | split
    | (extract_lets +onlyGivenNames x; first
      | (refine Moves.keep (W := W) (s₀ := s₀) x ?_ ?_; rotate_left; intro hx; clear_value x; rotate_right)
      | (refine Moves.keep (W := W) (s₀ := s₀) x.2 ?_ ?_; rotate_left; intro hx; clear_value x; rotate_right)
      | (refine Moves.keep (W := W) (s₀ := s₀) x.1 ?_ ?_; rotate_left; intro hx; clear_value x; rotate_right)
      | skip)
    | (with_reducible refine Moves.msix _ ?_ ?_ <;> with_reducible first
      | assumption
      | apply Moves.emit))

theorem Access_msixWrite_moves {W : Part → Prop} {s₀ s : State} (h0 : W .msix) (a0 : Nat) (a1 : Nat) (a2 : Nat) (h : Moves W s₀ s) :
    Moves W s₀ (Sys2Proof.Machine.Access.msixWrite a0 a1 a2 s) := by
  unfold Sys2Proof.Machine.Access.msixWrite
  repeat' (first
    | with_reducible assumption
    | with_reducible apply Moves.each
    | with_reducible apply Access_sendPending_moves
    | intro _
    | split
    | (extract_lets +onlyGivenNames x; first
      | (refine Moves.keep (W := W) (s₀ := s₀) x ?_ ?_; rotate_left; intro hx; clear_value x; rotate_right)
      | (refine Moves.keep (W := W) (s₀ := s₀) x.2 ?_ ?_; rotate_left; intro hx; clear_value x; rotate_right)
      | (refine Moves.keep (W := W) (s₀ := s₀) x.1 ?_ ?_; rotate_left; intro hx; clear_value x; rotate_right)
      | skip)
    | (with_reducible refine Moves.msix _ ?_ ?_ <;> with_reducible first
      | assumption
      | apply Moves.each
      | apply Access_sendPending_moves))

theorem Access_write_moves {W : Part → Prop} {s₀ s : State} (hw : ∀ x, W x) (a0 : Nat) (a1 : Nat) (a2 : Nat) (a3 : Nat) (h : Moves W s₀ s) :
    Moves W s₀ (Sys2Proof.Machine.Access.write a0 a1 a2 a3 s) := by
  unfold Sys2Proof.Machine.Access.write
  repeat' (first
    | with_reducible assumption
    | exact hw _
    | with_reducible apply Moves.emit
    | with_reducible apply Access_msixWrite_moves
    | with_reducible apply Reset_write_moves
    | intro _
    | split)

theorem Access_read_moves {W : Part → Prop} {s₀ s : State} (hw : ∀ x, W x) (a0 : Nat) (a1 : Nat) (h : Moves W s₀ s) :
    Moves W s₀ (Sys2Proof.Machine.Access.read a0 a1 s) := by
  unfold Sys2Proof.Machine.Access.read
  repeat' (first
    | with_reducible assumption
    | exact hw _
    | with_reducible apply Moves.emit
    | with_reducible apply Bus_fetch_moves
    | intro _
    | split)

theorem Access_unsupported_moves {W : Part → Prop} {s₀ s : State} (a0 : Nat) (a1 : Nat) (a2 : Nat) (h : Moves W s₀ s) :
    Moves W s₀ (Sys2Proof.Machine.Access.unsupported a0 a1 a2 s) := by
  unfold Sys2Proof.Machine.Access.unsupported
  repeat' (first
    | with_reducible assumption
    | with_reducible apply Moves.emit
    | intro _
    | split)

end Sys2Proof.Laws
end

