-- ==== Sys2Proof/Laws/MovesOps.lean ====
section
/-! SUPPORT. Sys2Proof/Laws/MovesOps.lean: what each operation of Machine/Ops.lean may write (Laws/Moves.lean). -/
namespace Sys2Proof.Laws
open Sys2Proof Sys2Proof.Machine

theorem State_vector_moves {W : Part → Prop} {s₀ s : State} (h0 : W .msix) (a1 : Nat) (a2 : Nat) (h : Moves W s₀ s) :
    Moves W s₀ (Sys2Proof.Machine.State.vector s a1 a2) := by
  unfold Sys2Proof.Machine.State.vector
  repeat' (first
    | with_reducible assumption
    | with_reducible apply Moves.emit
    | intro _
    | split
    | (extract_lets +onlyGivenNames x; first
      | (refine Moves.keep (W := W) (s₀ := s₀) x ?_ ?_; rotate_left; intro hx; clear_value x; rotate_right)
      | (refine Moves.keep (W := W) (s₀ := s₀) x.2 ?_ ?_; rotate_left; intro hx; clear_value x; rotate_right)
      | (refine Moves.keep (W := W) (s₀ := s₀) x.1 ?_ ?_; rotate_left; intro hx; clear_value x; rotate_right)
      | skip)
    | (with_reducible refine Moves.msix _ ?_ ?_ <;> with_reducible first
      | assumption
      | apply Moves.emit))

theorem settle_moves {W : Part → Prop} {s₀ s : State} (h0 : W .msix) (a0 : Sys2Proof.Machine.State) (h : Moves W s₀ s) :
    Moves W s₀ (Sys2Proof.Machine.settle a0 s) := by
  unfold Sys2Proof.Machine.settle
  repeat' (first
    | with_reducible assumption
    | with_reducible apply Moves.each
    | with_reducible apply State_vector_moves
    | intro _
    | split
    | (extract_lets +onlyGivenNames x; first
      | (refine Moves.keep (W := W) (s₀ := s₀) x ?_ ?_; rotate_left; intro hx; clear_value x; rotate_right)
      | (refine Moves.keep (W := W) (s₀ := s₀) x.2 ?_ ?_; rotate_left; intro hx; clear_value x; rotate_right)
      | (refine Moves.keep (W := W) (s₀ := s₀) x.1 ?_ ?_; rotate_left; intro hx; clear_value x; rotate_right)
      | skip))

end Sys2Proof.Laws
end

