-- ==== Sys2Proof/Laws/MovesTick.lean ====
section
/-! SUPPORT. Sys2Proof/Laws/MovesTick.lean: what each operation of Machine/Tick.lean may write (Laws/Moves.lean). -/
namespace Sys2Proof.Laws
open Sys2Proof Sys2Proof.Machine

theorem Tick_noted_moves {W : Part → Prop} {s₀ s : State} (h0 : W (.fld H.FRM_LIVE_F)) (h1 : W (.fld H.FRM_LIVE_SC)) (h2 : W (.fld H.FRM_SEC_CLI)) (h3 : W (.fld H.FRM_SEC_SC)) (h4 : W (.fld H.FRM_SEEN_CLI)) (h5 : W (.fld H.FRM_SEEN_FLOW)) (h6 : W (.fld H.FRM_SEEN_LANE)) (h7 : W (.fld H.FRM_SEEN_LINE)) (h8 : W (.fld H.FRM_SEEN_SC)) (h : Moves W s₀ s) :
    Moves W s₀ (Sys2Proof.Machine.Tick.noted s) := by
  unfold Sys2Proof.Machine.Tick.noted
  repeat' (first
    | with_reducible assumption
    | with_reducible apply Frm_note_moves
    | intro _
    | split)

theorem Tick_trial_moves {W : Part → Prop} {s₀ s : State} (h0 : W (.fld F.SE_IMG_STAT_TRIAL_LEFT)) (h : Moves W s₀ s) :
    Moves W s₀ (Sys2Proof.Machine.Tick.trial s) := by
  unfold Sys2Proof.Machine.Tick.trial
  repeat' (first
    | with_reducible assumption
    | with_reducible apply Moves.put
    | intro _
    | split
    | (extract_lets +onlyGivenNames x; first
      | (refine Moves.keep (W := W) (s₀ := s₀) x ?_ ?_; rotate_left; intro hx; clear_value x; rotate_right)
      | (refine Moves.keep (W := W) (s₀ := s₀) x.2 ?_ ?_; rotate_left; intro hx; clear_value x; rotate_right)
      | (refine Moves.keep (W := W) (s₀ := s₀) x.1 ?_ ?_; rotate_left; intro hx; clear_value x; rotate_right)
      | skip))

theorem Tick_blocks_moves {W : Part → Prop} {s₀ s : State} (h0 : W (.arr F.FRM_CLI_PM_COUNT)) (h1 : W (.arr F.FRM_FPM_COUNT)) (h2 : W (.arr F.FRM_SC_PM_COUNT)) (h3 : W (.arr H.FRM_LIVE_CLI)) (h4 : W (.arr H.FRM_LIVE_F)) (h5 : W (.arr H.FRM_LIVE_SC)) (h6 : W (.arr H.FRM_SEC_CLI)) (h7 : W (.arr H.FRM_SEC_SC)) (h8 : W (.arr H.QDM_ERRS_SEC)) (h9 : W (.fld F.FEC_INT_CAUSE_PM_LATCH)) (h10 : W (.fld F.FEC_INT_CAUSE_PRE_SD)) (h11 : W (.fld F.FEC_ITER_HIST_COUNT)) (h12 : W (.fld F.FEC_PM_CBITS_COUNT)) (h13 : W (.fld F.FEC_PM_CBITS_HI_COUNT)) (h14 : W (.fld F.FEC_PM_CW_OK)) (h15 : W (.fld F.FEC_PM_FAIL_LDPC)) (h16 : W (.fld F.FEC_PM_FAIL_ROWS)) (h17 : W (.fld F.FEC_PM_INVAL_COUNT)) (h18 : W (.fld F.FEC_SD_MAP_SC)) (h19 : W (.fld F.FRM_BOUNDARY_TIES_COUNT)) (h20 : W (.fld F.FRM_CLI_PM_COUNT)) (h21 : W (.fld F.FRM_FPM_COUNT)) (h22 : W (.fld F.FRM_INT_CAUSE_PM_LATCH)) (h23 : W (.fld F.FRM_PM_STAT_SEQ)) (h24 : W (.fld F.FRM_SC_PM_COUNT)) (h25 : W (.fld F.HSL_CLI_FEC_COUNT)) (h26 : W (.fld F.HSL_CLI_STAT_HI_SER)) (h27 : W (.fld F.HSL_CLI_STAT_RX_LF)) (h28 : W (.fld F.HSL_CLI_STAT_RX_RF)) (h29 : W (.fld F.HSL_INT_CAUSE_HI_SER)) (h30 : W (.fld F.SE_IMG_STAT_TRIAL_LEFT)) (h31 : W (.fld H.ENG_EDGE)) (h32 : W (.fld H.FEC_LIVE_CBITS)) (h33 : W (.fld H.FEC_LIVE_CW)) (h34 : W (.fld H.FEC_LIVE_HIST)) (h35 : W (.fld H.FEC_LIVE_INVAL)) (h36 : W (.fld H.FEC_LIVE_LDPC)) (h37 : W (.fld H.FEC_LIVE_ROWS)) (h38 : W (.fld H.FLW_PMI)) (h39 : W (.fld H.FRM_DEG_BAD)) (h40 : W (.fld H.FRM_DEG_GOOD)) (h41 : W (.fld H.FRM_LIVE_F)) (h42 : W (.fld H.FRM_LIVE_SC)) (h43 : W (.fld H.FRM_SEC_CLI)) (h44 : W (.fld H.FRM_SEC_SC)) (h45 : W (.fld H.FRM_SEEN_CLI)) (h46 : W (.fld H.FRM_SEEN_FLOW)) (h47 : W (.fld H.FRM_SEEN_LANE)) (h48 : W (.fld H.FRM_SEEN_LINE)) (h49 : W (.fld H.FRM_SEEN_SC)) (h50 : W (.fld H.LCM_CHAL_AGE)) (a0 : Sys2Proof.Second) (h : Moves W s₀ s) :
    Moves W s₀ (Sys2Proof.Machine.Tick.blocks a0 s) := by
  unfold Sys2Proof.Machine.Tick.blocks
  repeat' (first
    | with_reducible assumption
    | with_reducible apply Moves.count
    | with_reducible apply Moves.wipe
    | with_reducible apply Hsl_latch_moves
    | with_reducible apply Fec_latch_moves
    | with_reducible apply Frm_latch_moves
    | with_reducible apply Flw_latchPmi_moves
    | with_reducible apply Eng_edge_moves
    | with_reducible apply Tick_trial_moves
    | intro _
    | (extract_lets +onlyGivenNames x; first
      | (refine Moves.keep (W := W) (s₀ := s₀) x ?_ ?_; rotate_left; intro hx; clear_value x; rotate_right)
      | (refine Moves.keep (W := W) (s₀ := s₀) x.2 ?_ ?_; rotate_left; intro hx; clear_value x; rotate_right)
      | (refine Moves.keep (W := W) (s₀ := s₀) x.1 ?_ ?_; rotate_left; intro hx; clear_value x; rotate_right)
      | skip))

theorem Tick_second_moves {W : Part → Prop} {s₀ s : State} (h0 : W .syn) (h1 : W (.arr F.FRM_CLI_PM_COUNT)) (h2 : W (.arr F.FRM_FPM_COUNT)) (h3 : W (.arr F.FRM_SC_PM_COUNT)) (h4 : W (.arr H.FRM_LIVE_CLI)) (h5 : W (.arr H.FRM_LIVE_F)) (h6 : W (.arr H.FRM_LIVE_SC)) (h7 : W (.arr H.FRM_SEC_CLI)) (h8 : W (.arr H.FRM_SEC_SC)) (h9 : W (.arr H.HKA_FRESH)) (h10 : W (.arr H.QDM_ERRS_SEC)) (h11 : W (.fld F.FEC_INT_CAUSE_PM_LATCH)) (h12 : W (.fld F.FEC_INT_CAUSE_PRE_SD)) (h13 : W (.fld F.FEC_ITER_HIST_COUNT)) (h14 : W (.fld F.FEC_PM_CBITS_COUNT)) (h15 : W (.fld F.FEC_PM_CBITS_HI_COUNT)) (h16 : W (.fld F.FEC_PM_CW_OK)) (h17 : W (.fld F.FEC_PM_FAIL_LDPC)) (h18 : W (.fld F.FEC_PM_FAIL_ROWS)) (h19 : W (.fld F.FEC_PM_INVAL_COUNT)) (h20 : W (.fld F.FEC_SD_MAP_SC)) (h21 : W (.fld F.FRM_BOUNDARY_TIES_COUNT)) (h22 : W (.fld F.FRM_CLI_PM_COUNT)) (h23 : W (.fld F.FRM_FPM_COUNT)) (h24 : W (.fld F.FRM_INT_CAUSE_PM_LATCH)) (h25 : W (.fld F.FRM_PM_STAT_SEQ)) (h26 : W (.fld F.FRM_SC_PM_COUNT)) (h27 : W (.fld F.HSL_CLI_FEC_COUNT)) (h28 : W (.fld F.HSL_CLI_STAT_HI_SER)) (h29 : W (.fld F.HSL_CLI_STAT_RX_LF)) (h30 : W (.fld F.HSL_CLI_STAT_RX_RF)) (h31 : W (.fld F.HSL_INT_CAUSE_HI_SER)) (h32 : W (.fld F.SE_IMG_STAT_TRIAL_LEFT)) (h33 : W (.fld F.SYN_HO_AGE_A)) (h34 : W (.fld F.SYN_HO_FREQ_F)) (h35 : W (.fld F.SYN_HO_STAT_AGE_S)) (h36 : W (.fld F.SYN_HO_STAT_FROZEN)) (h37 : W (.fld F.SYN_HO_STAT_SAMPLES)) (h38 : W (.fld F.SYN_HO_TEMP_THETA)) (h39 : W (.fld F.SYN_HO_TEMP_VALID)) (h40 : W (.fld F.SYN_INT_CAUSE_QL_CHG)) (h41 : W (.fld F.SYN_INT_CAUSE_REF_DISAGREE)) (h42 : W (.fld F.SYN_INT_CAUSE_REF_DQ)) (h43 : W (.fld F.SYN_INT_CAUSE_REF_DRIFT)) (h44 : W (.fld F.SYN_INT_CAUSE_REF_FAIL)) (h45 : W (.fld F.SYN_INT_CAUSE_REF_QUAL)) (h46 : W (.fld F.SYN_INT_CAUSE_TIME_SET)) (h47 : W (.fld F.SYN_REF_OFS_VAL)) (h48 : W (.fld F.SYN_REF_RATE_VAL)) (h49 : W (.fld F.SYN_REF_STAT_DISAGREE)) (h50 : W (.fld F.SYN_REF_STAT_ELIGIBLE)) (h51 : W (.fld F.SYN_REF_STAT_QL_EFF)) (h52 : W (.fld F.SYN_REF_STAT_STATE)) (h53 : W (.fld F.SYN_REF_STAT_WTR_LEFT)) (h54 : W (.fld F.SYN_STAT_MODEL_VALID)) (h55 : W (.fld F.SYN_STAT_OUT_QL)) (h56 : W (.fld F.SYN_STAT_SEL_QL)) (h57 : W (.fld F.SYN_TIME_CTRL_SET_PEND)) (h58 : W (.fld F.SYN_TIME_HI_VAL)) (h59 : W (.fld F.SYN_TIME_LO_VAL)) (h60 : W (.fld H.ENG_EDGE)) (h61 : W (.fld H.FEC_LIVE_CBITS)) (h62 : W (.fld H.FEC_LIVE_CW)) (h63 : W (.fld H.FEC_LIVE_HIST)) (h64 : W (.fld H.FEC_LIVE_INVAL)) (h65 : W (.fld H.FEC_LIVE_LDPC)) (h66 : W (.fld H.FEC_LIVE_ROWS)) (h67 : W (.fld H.FLW_PMI)) (h68 : W (.fld H.FRM_DEG_BAD)) (h69 : W (.fld H.FRM_DEG_GOOD)) (h70 : W (.fld H.FRM_LIVE_F)) (h71 : W (.fld H.FRM_LIVE_SC)) (h72 : W (.fld H.FRM_SEC_CLI)) (h73 : W (.fld H.FRM_SEC_SC)) (h74 : W (.fld H.FRM_SEEN_CLI)) (h75 : W (.fld H.FRM_SEEN_FLOW)) (h76 : W (.fld H.FRM_SEEN_LANE)) (h77 : W (.fld H.FRM_SEEN_LINE)) (h78 : W (.fld H.FRM_SEEN_SC)) (h79 : W (.fld H.LCM_CHAL_AGE)) (h80 : W (.fld H.SYN_GOOD)) (h81 : W (.fld H.SYN_LINE_OK)) (h82 : W (.fld H.SYN_LOCK_FULL)) (h83 : W (.fld H.SYN_OUT_RUN)) (h84 : W (.fld H.SYN_OVER)) (h85 : W (.fld H.SYN_OVER2)) (h86 : W (.fld H.SYN_QL_SENT)) (a0 : Sys2Proof.Second) (h : Moves W s₀ s) :
    Moves W s₀ (Sys2Proof.Machine.Tick.second a0 s) := by
  unfold Sys2Proof.Machine.Tick.second
  repeat' (first
    | with_reducible assumption
    | with_reducible apply Tick_blocks_moves
    | with_reducible apply Syn_second_moves
    | intro _)

theorem Tick_level_moves {W : Part → Prop} {s₀ s : State} (h0 : W (.fld F.CVT_ADC_LVL_OVR)) (h1 : W (.fld F.CVT_ADC_LVL_RMS)) (h2 : W (.fld F.LTX_CLIP_CNT_COUNT)) (h3 : W (.fld F.LTX_INT_CAUSE_CLIP)) (a0 : Nat) (a1 : Nat × Nat × Nat) (h : Moves W s₀ s) :
    Moves W s₀ (Sys2Proof.Machine.Tick.level a0 a1 s) := by
  unfold Sys2Proof.Machine.Tick.level
  repeat' (first
    | with_reducible assumption
    | with_reducible apply Moves.count
    | with_reducible apply Moves.put
    | with_reducible apply Ltx_clip_moves
    | intro _
    | split
    | (extract_lets +onlyGivenNames x; first
      | (refine Moves.keep (W := W) (s₀ := s₀) x ?_ ?_; rotate_left; intro hx; clear_value x; rotate_right)
      | (refine Moves.keep (W := W) (s₀ := s₀) x.2 ?_ ?_; rotate_left; intro hx; clear_value x; rotate_right)
      | (refine Moves.keep (W := W) (s₀ := s₀) x.1 ?_ ?_; rotate_left; intro hx; clear_value x; rotate_right)
      | skip))

theorem Tick_tenMs_moves {W : Part → Prop} {s₀ s : State} (h0 : W (.fld F.CVT_ADC_LVL_OVR)) (h1 : W (.fld F.CVT_ADC_LVL_RMS)) (h2 : W (.fld F.FRM_BOUNDARY_TIES_COUNT)) (h3 : W (.fld F.FRM_DEF_CLI_DEF)) (h4 : W (.fld F.FRM_DEF_FLOW_DEF)) (h5 : W (.fld F.FRM_DEF_LANE_DEF)) (h6 : W (.fld F.FRM_DEF_LINE_DEF)) (h7 : W (.fld F.FRM_DEF_SC_DEF)) (h8 : W (.fld F.FRM_INT_CAUSE_DEF_CHG)) (h9 : W (.fld F.LTX_CLIP_CNT_COUNT)) (h10 : W (.fld F.LTX_INT_CAUSE_CLIP)) (h11 : W (.fld F.SYN_NCO_FREQ_F)) (h12 : W (.fld F.SYN_PPS_IN_ERR_VALID)) (h13 : W (.fld F.SYN_PSTEP_AMOUNT)) (h14 : W (.fld F.SYN_TIME_LO_VAL)) (h15 : W (.fld H.ENG_EDGE)) (h16 : W (.fld H.FRM_CLI_ACC)) (h17 : W (.fld H.FRM_CLI_RAW)) (h18 : W (.fld H.FRM_CLI_RUN)) (h19 : W (.fld H.FRM_CLI_RX)) (h20 : W (.fld H.FRM_CLI_TTI)) (h21 : W (.fld H.FRM_CLRC_CLI)) (h22 : W (.fld H.FRM_CLRC_FLOW)) (h23 : W (.fld H.FRM_CLRC_LANE)) (h24 : W (.fld H.FRM_CLRC_LINE)) (h25 : W (.fld H.FRM_CLRC_SC)) (h26 : W (.fld H.FRM_LIVE_CLI)) (h27 : W (.fld H.FRM_LIVE_F)) (h28 : W (.fld H.FRM_LIVE_SC)) (h29 : W (.fld H.FRM_SEC_CLI)) (h30 : W (.fld H.FRM_SEC_SC)) (h31 : W (.fld H.FRM_SEEN_CLI)) (h32 : W (.fld H.FRM_SEEN_FLOW)) (h33 : W (.fld H.FRM_SEEN_LANE)) (h34 : W (.fld H.FRM_SEEN_LINE)) (h35 : W (.fld H.FRM_SEEN_SC)) (h36 : W (.fld H.FRM_SETC_CLI)) (h37 : W (.fld H.FRM_SETC_FLOW)) (h38 : W (.fld H.FRM_SETC_LANE)) (h39 : W (.fld H.FRM_SETC_LINE)) (h40 : W (.fld H.FRM_SETC_SC)) (h41 : W (.fld H.SYN_KEYSTEP)) (h42 : W (.fld H.SYN_NCO_RAMP)) (h43 : W (.fld H.SYN_PPS_AGE)) (a0 : Nat) (a1 : Nat) (a2 : List (Nat × Sys2Proof.OtuFrames)) (a3 : List (Nat × Nat × Nat)) (h : Moves W s₀ s) :
    Moves W s₀ (Sys2Proof.Machine.Tick.tenMs a0 a1 a2 a3 s) := by
  unfold Sys2Proof.Machine.Tick.tenMs
  repeat' (first
    | with_reducible assumption
    | with_reducible apply Moves.eachOf
    | with_reducible apply Syn_tenMs_moves
    | with_reducible apply Frm_integrate_moves
    | with_reducible apply Eng_edge_moves
    | with_reducible apply Tick_level_moves
    | intro _
    | split
    | (extract_lets +onlyGivenNames x; first
      | (refine Moves.keep (W := W) (s₀ := s₀) x ?_ ?_; rotate_left; intro hx; clear_value x; rotate_right)
      | (refine Moves.keep (W := W) (s₀ := s₀) x.2 ?_ ?_; rotate_left; intro hx; clear_value x; rotate_right)
      | (refine Moves.keep (W := W) (s₀ := s₀) x.1 ?_ ?_; rotate_left; intro hx; clear_value x; rotate_right)
      | skip))

theorem Tick_ppsIn_moves {W : Part → Prop} {s₀ s : State} (h0 : W .syn) (h1 : W (.arr F.FRM_CLI_PM_COUNT)) (h2 : W (.arr F.FRM_FPM_COUNT)) (h3 : W (.arr F.FRM_SC_PM_COUNT)) (h4 : W (.arr H.FRM_LIVE_CLI)) (h5 : W (.arr H.FRM_LIVE_F)) (h6 : W (.arr H.FRM_LIVE_SC)) (h7 : W (.arr H.FRM_SEC_CLI)) (h8 : W (.arr H.FRM_SEC_SC)) (h9 : W (.arr H.HKA_FRESH)) (h10 : W (.arr H.QDM_ERRS_SEC)) (h11 : W (.fld F.FEC_INT_CAUSE_PM_LATCH)) (h12 : W (.fld F.FEC_INT_CAUSE_PRE_SD)) (h13 : W (.fld F.FEC_ITER_HIST_COUNT)) (h14 : W (.fld F.FEC_PM_CBITS_COUNT)) (h15 : W (.fld F.FEC_PM_CBITS_HI_COUNT)) (h16 : W (.fld F.FEC_PM_CW_OK)) (h17 : W (.fld F.FEC_PM_FAIL_LDPC)) (h18 : W (.fld F.FEC_PM_FAIL_ROWS)) (h19 : W (.fld F.FEC_PM_INVAL_COUNT)) (h20 : W (.fld F.FEC_SD_MAP_SC)) (h21 : W (.fld F.FRM_BOUNDARY_TIES_COUNT)) (h22 : W (.fld F.FRM_CLI_PM_COUNT)) (h23 : W (.fld F.FRM_FPM_COUNT)) (h24 : W (.fld F.FRM_INT_CAUSE_PM_LATCH)) (h25 : W (.fld F.FRM_PM_STAT_SEQ)) (h26 : W (.fld F.FRM_SC_PM_COUNT)) (h27 : W (.fld F.HSL_CLI_FEC_COUNT)) (h28 : W (.fld F.HSL_CLI_STAT_HI_SER)) (h29 : W (.fld F.HSL_CLI_STAT_RX_LF)) (h30 : W (.fld F.HSL_CLI_STAT_RX_RF)) (h31 : W (.fld F.HSL_INT_CAUSE_HI_SER)) (h32 : W (.fld F.SE_IMG_STAT_TRIAL_LEFT)) (h33 : W (.fld F.SYN_HO_AGE_A)) (h34 : W (.fld F.SYN_HO_FREQ_F)) (h35 : W (.fld F.SYN_HO_STAT_AGE_S)) (h36 : W (.fld F.SYN_HO_STAT_FROZEN)) (h37 : W (.fld F.SYN_HO_STAT_SAMPLES)) (h38 : W (.fld F.SYN_HO_TEMP_THETA)) (h39 : W (.fld F.SYN_HO_TEMP_VALID)) (h40 : W (.fld F.SYN_INT_CAUSE_PPS_ALIGN)) (h41 : W (.fld F.SYN_INT_CAUSE_QL_CHG)) (h42 : W (.fld F.SYN_INT_CAUSE_REF_DISAGREE)) (h43 : W (.fld F.SYN_INT_CAUSE_REF_DQ)) (h44 : W (.fld F.SYN_INT_CAUSE_REF_DRIFT)) (h45 : W (.fld F.SYN_INT_CAUSE_REF_FAIL)) (h46 : W (.fld F.SYN_INT_CAUSE_REF_QUAL)) (h47 : W (.fld F.SYN_INT_CAUSE_TIME_SET)) (h48 : W (.fld F.SYN_PPS_IN_ERR_ERR)) (h49 : W (.fld F.SYN_PPS_IN_ERR_VALID)) (h50 : W (.fld F.SYN_REF_OFS_VAL)) (h51 : W (.fld F.SYN_REF_RATE_VAL)) (h52 : W (.fld F.SYN_REF_STAT_DISAGREE)) (h53 : W (.fld F.SYN_REF_STAT_ELIGIBLE)) (h54 : W (.fld F.SYN_REF_STAT_QL_EFF)) (h55 : W (.fld F.SYN_REF_STAT_STATE)) (h56 : W (.fld F.SYN_REF_STAT_WTR_LEFT)) (h57 : W (.fld F.SYN_STAT_MODEL_VALID)) (h58 : W (.fld F.SYN_STAT_OUT_QL)) (h59 : W (.fld F.SYN_STAT_SEL_QL)) (h60 : W (.fld F.SYN_TIME_CTRL_ALIGN_PEND)) (h61 : W (.fld F.SYN_TIME_CTRL_SET_PEND)) (h62 : W (.fld F.SYN_TIME_HI_VAL)) (h63 : W (.fld F.SYN_TIME_LO_VAL)) (h64 : W (.fld H.ENG_EDGE)) (h65 : W (.fld H.FEC_LIVE_CBITS)) (h66 : W (.fld H.FEC_LIVE_CW)) (h67 : W (.fld H.FEC_LIVE_HIST)) (h68 : W (.fld H.FEC_LIVE_INVAL)) (h69 : W (.fld H.FEC_LIVE_LDPC)) (h70 : W (.fld H.FEC_LIVE_ROWS)) (h71 : W (.fld H.FLW_PMI)) (h72 : W (.fld H.FRM_DEG_BAD)) (h73 : W (.fld H.FRM_DEG_GOOD)) (h74 : W (.fld H.FRM_LIVE_F)) (h75 : W (.fld H.FRM_LIVE_SC)) (h76 : W (.fld H.FRM_SEC_CLI)) (h77 : W (.fld H.FRM_SEC_SC)) (h78 : W (.fld H.FRM_SEEN_CLI)) (h79 : W (.fld H.FRM_SEEN_FLOW)) (h80 : W (.fld H.FRM_SEEN_LANE)) (h81 : W (.fld H.FRM_SEEN_LINE)) (h82 : W (.fld H.FRM_SEEN_SC)) (h83 : W (.fld H.LCM_CHAL_AGE)) (h84 : W (.fld H.SYN_GOOD)) (h85 : W (.fld H.SYN_LINE_OK)) (h86 : W (.fld H.SYN_LOCK_FULL)) (h87 : W (.fld H.SYN_OUT_RUN)) (h88 : W (.fld H.SYN_OVER)) (h89 : W (.fld H.SYN_OVER2)) (h90 : W (.fld H.SYN_PPS_AGE)) (h91 : W (.fld H.SYN_QL_SENT)) (a0 : Nat) (a1 : Sys2Proof.Second) (h : Moves W s₀ s) :
    Moves W s₀ (Sys2Proof.Machine.Tick.ppsIn a0 a1 s) := by
  unfold Sys2Proof.Machine.Tick.ppsIn
  repeat' (first
    | with_reducible assumption
    | with_reducible apply Syn_ppsEdge_moves
    | with_reducible apply Tick_second_moves
    | intro _)

theorem Tick_txFrame_moves {W : Part → Prop} {s₀ s : State} (h0 : W .qdr) (h1 : W .vlk) (h2 : W (.fld F.CRY_KEY_DATA_KEY)) (h3 : W (.fld F.CRY_KEY_SALT_SALT)) (h4 : W (.fld F.CRY_LOCK_STAT_LOCK_BROKEN)) (h5 : W (.fld F.CRY_LOCK_STAT_OWNER)) (h6 : W (.fld F.LRX_INT_CAUSE_SHADOW_LOCKED)) (h7 : W (.fld F.LRX_INT_CAUSE_TABLE_ERR)) (h8 : W (.fld F.LRX_STAT_ERR_SC)) (h9 : W (.fld F.LRX_STAT_SHADOW_READY)) (h10 : W (.fld F.LTX_CTRL_MUTE)) (h11 : W (.fld F.LTX_INT_CAUSE_SHADOW_LOCKED)) (h12 : W (.fld F.LTX_INT_CAUSE_TABLE_ERR)) (h13 : W (.fld F.LTX_STAT_ACTIVE)) (h14 : W (.fld F.LTX_STAT_ERR_SC)) (h15 : W (.fld F.LTX_STAT_MUTE_SRC)) (h16 : W (.fld F.LTX_STAT_SHADOW_READY)) (h17 : W (.fld F.MBX_INT_CAUSE_RESET_SEEN)) (h18 : W (.fld F.MBX_LOCK_STAT_LOCK_BROKEN)) (h19 : W (.fld F.MBX_LOCK_STAT_OWNER)) (h20 : W (.fld F.MBX_STAT_RX_RESET_SEEN)) (h21 : W (.fld F.MBX_STAT_SENDER_RESET_SEEN)) (h22 : W (.fld F.PMC_INT_CAUSE_OVF)) (h23 : W (.fld F.PMC_INT_CAUSE_SMP_AVAIL)) (h24 : W (.fld F.PMC_INT_CAUSE_SMP_DROP)) (h25 : W (.fld F.PMC_OVF_STAT_OVF)) (h26 : W (.fld F.PMC_SMP_DROP_RING)) (h27 : W (.fld F.PMC_SMP_STAT_COUNT)) (h28 : W (.fld F.PWR_SAFE_STAT_PEER_HELD)) (h29 : W (.fld F.PWR_SAFE_STAT_RX_SAFE)) (h30 : W (.fld F.PWR_SAFE_STAT_TX_MUTED)) (h31 : W (.fld F.PWR_SAFE_STAT_UP_SAFE)) (h32 : W (.fld F.SCM_CHG_STAT_DS_STATE)) (h33 : W (.fld F.SCM_CHG_STAT_US_STATE)) (h34 : W (.fld F.SCM_INT_CAUSE_CHG_FAIL)) (h35 : W (.fld F.SCM_NAK_MAP_LEAF)) (h36 : W (.fld F.VLK_INT_CAUSE_GRANT_SWAP)) (h37 : W (.fld F.VLK_INT_CAUSE_LEAF_LOST)) (h38 : W (.fld F.VLK_INT_CAUSE_STATE_CHG)) (h39 : W (.fld F.VLK_SELF_EQD_EQD)) (h40 : W (.fld F.VLK_SELF_LEAF)) (h41 : W (.fld F.VLK_SELF_SILENT)) (h42 : W (.fld F.VLK_SELF_STATE)) (h43 : W (.fld H.ENG_EDGE)) (h44 : W (.fld H.FEC_TX_POS)) (h45 : W (.fld H.FRM_CF_DUE)) (h46 : W (.fld H.FRM_LIVE_F)) (h47 : W (.fld H.FRM_LIVE_SC)) (h48 : W (.fld H.FRM_MGMT_DUE)) (h49 : W (.fld H.FRM_SEC_CLI)) (h50 : W (.fld H.FRM_SEC_SC)) (h51 : W (.fld H.FRM_SEEN_CLI)) (h52 : W (.fld H.FRM_SEEN_FLOW)) (h53 : W (.fld H.FRM_SEEN_LANE)) (h54 : W (.fld H.FRM_SEEN_LINE)) (h55 : W (.fld H.FRM_SEEN_SC)) (h56 : W (.fld H.FRM_TX_FN)) (h57 : W (.fld H.FRM_TX_MFN)) (h58 : W (.fld H.FRM_TX_RUN)) (h59 : W (.fld H.LRX_SHADOW)) (h60 : W (.fld H.LRX_SHADOW_VER)) (h61 : W (.fld H.LTX_OUTPUT)) (h62 : W (.fld H.LTX_SHADOW)) (h63 : W (.fld H.LTX_SHADOW_VER)) (h64 : W (.fld H.PEER_MUTE_WAS)) (h65 : W (.fld H.PMC_CNT)) (h66 : W (.fld H.PMC_OVF_DUE)) (h67 : W (.fld H.PMC_OVF_T)) (h68 : W (.fld H.PMC_RING)) (h69 : W (.fld H.PMC_TRACE_POS)) (h70 : W (.fld H.PWR_RELEASING)) (h71 : W (.fld H.SCM_ACKED)) (h72 : W (.fld H.SCM_ADDRESSED)) (h73 : W (.fld H.SCM_LAST_VER)) (h74 : W (.fld H.SCM_MF)) (h75 : W (.fld H.SCM_RESEND)) (h76 : W (.fld H.SCM_START_MF)) (h77 : W (.fld H.VLK_ATTEMPT)) (h78 : W (.fld H.VLK_EQD_DELTA)) (h79 : W (.fld H.VLK_EQD_NOW)) (h80 : W (.fld H.VLK_FEEDER_USE)) (h81 : W (.fld H.VLK_G_ACT)) (h82 : W (.fld H.VLK_G_ACT_VER)) (h83 : W (.fld H.VLK_G_SC_ACT)) (h84 : W (.fld H.VLK_G_SC_SHADOW)) (h85 : W (.fld H.VLK_G_SHADOW)) (h86 : W (.fld H.VLK_G_SHADOW_VER)) (h87 : W (.fld H.VLK_G_SWAP)) (h88 : W (.fld H.VLK_LISTENING)) (h89 : W (.fld H.VLK_PREV_LEAF)) (h90 : W (.fld H.VLK_REG_BASE)) (h91 : W (.fld H.VLK_REG_WAIT)) (h92 : W (.fld H.VLK_RR)) (h93 : W (.fld H.VLK_SEQ)) (h94 : W (.fld H.VLK_SWITCH_SILENT)) (h95 : W (.fld H.VLK_S_REST)) (h96 : W (.fld H.VLK_TREE)) (h97 : W (.fld H.VLK_UP_ON)) (a0 : Nat) (a1 : Nat) (a2 : List (List Bool)) (h : Moves W s₀ s) :
    Moves W s₀ (Sys2Proof.Machine.Tick.txFrame a0 a1 a2 s) := by
  unfold Sys2Proof.Machine.Tick.txFrame
  repeat' (first
    | with_reducible assumption
    | with_reducible apply Frm_txFrame_moves
    | with_reducible apply Eng_edge_moves
    | intro _
    | split
    | (extract_lets +onlyGivenNames x; first
      | (refine Moves.keep (W := W) (s₀ := s₀) x ?_ ?_; rotate_left; intro hx; clear_value x; rotate_right)
      | (refine Moves.keep (W := W) (s₀ := s₀) x.2 ?_ ?_; rotate_left; intro hx; clear_value x; rotate_right)
      | (refine Moves.keep (W := W) (s₀ := s₀) x.1 ?_ ?_; rotate_left; intro hx; clear_value x; rotate_right)
      | skip))

theorem Tick_loadSwap_moves {W : Part → Prop} {s₀ s : State} (h0 : W .brx) (h1 : W (.fld F.BRX_CNT_COUNT)) (h2 : W (.fld F.BRX_COL_STAT_COUNT)) (h3 : W (.fld F.BRX_COL_STAT_HEAD_DONE)) (h4 : W (.fld F.BRX_INT_CAUSE_CH_OFF)) (h5 : W (.fld F.BRX_REC_STAT_COUNT)) (h6 : W (.fld F.BRX_STAT_CH)) (h7 : W (.fld F.LRX_INT_CAUSE_LOAD_SWAP)) (h8 : W (.fld F.LRX_SC_STAT_LOCK)) (h9 : W (.fld F.LRX_STAT_ANNOUNCED)) (h10 : W (.fld F.LRX_STAT_BANK)) (h11 : W (.fld F.LRX_STAT_SHADOW_READY)) (h12 : W (.fld F.LSR_STAT_SER_BUSY)) (h13 : W (.fld F.LTX_INT_CAUSE_LOAD_SWAP)) (h14 : W (.fld F.LTX_STAT_ANNOUNCED)) (h15 : W (.fld F.LTX_STAT_BANK)) (h16 : W (.fld F.LTX_STAT_SHADOW_READY)) (h17 : W (.fld F.SCM_CHG_STAT_DS_STATE)) (h18 : W (.fld F.SCM_CHG_STAT_DS_VER)) (h19 : W (.fld F.SCM_CHG_STAT_US_STATE)) (h20 : W (.fld F.SCM_CHG_STAT_US_VER)) (h21 : W (.fld F.SCM_INT_CAUSE_SWAP)) (h22 : W (.fld F.SCM_SC_FLAG_OVER)) (h23 : W (.fld F.SCM_SC_FLAG_US_OVER)) (h24 : W (.fld H.FEC_RX_ON)) (h25 : W (.fld H.FEC_RX_POS)) (h26 : W (.fld H.FEC_RX_WAIT)) (h27 : W (.fld H.FEC_SL_ON)) (h28 : W (.fld H.FEC_SL_WAIT)) (h29 : W (.fld H.FEC_TX_POS)) (h30 : W (.fld H.FRM_CF_DUE)) (h31 : W (.fld H.LRX_ACTIVE)) (h32 : W (.fld H.LRX_ACT_VER)) (h33 : W (.fld H.LRX_SET_OWNER)) (h34 : W (.fld H.LRX_SHADOW)) (h35 : W (.fld H.LRX_SHADOW_VER)) (h36 : W (.fld H.LRX_SWAP_DUE)) (h37 : W (.fld H.LRX_TAPS)) (h38 : W (.fld H.LRX_WIN_LOCK)) (h39 : W (.fld H.LSR_HOST_PEND)) (h40 : W (.fld H.LSR_HOST_RUN)) (h41 : W (.fld H.LSR_OWN_CMD)) (h42 : W (.fld H.LSR_OWN_PEND)) (h43 : W (.fld H.LSR_OWN_RUN)) (h44 : W (.fld H.LSR_SET)) (h45 : W (.fld H.LSR_TUNE_CMD)) (h46 : W (.fld H.LSR_TUNE_PEND)) (h47 : W (.fld H.LTX_ACTIVE)) (h48 : W (.fld H.LTX_ACT_VER)) (h49 : W (.fld H.LTX_SHADOW)) (h50 : W (.fld H.LTX_SHADOW_VER)) (h51 : W (.fld H.LTX_SWAP_DUE)) (h52 : W (.fld H.SCM_ACKED)) (h53 : W (.fld H.SCM_ADDRESSED)) (h54 : W (.fld H.SCM_SWAPPED)) (h55 : W (.fld H.SCM_SWAP_MF)) (a0 : Nat) (h : Moves W s₀ s) :
    Moves W s₀ (Sys2Proof.Machine.Tick.loadSwap a0 s) := by
  unfold Sys2Proof.Machine.Tick.loadSwap
  repeat' (first
    | with_reducible assumption
    | with_reducible apply Scm_swapped_moves
    | with_reducible apply Ltx_swap_moves
    | with_reducible apply Lrx_swap_moves
    | with_reducible apply Vlk_aimLaser_moves
    | with_reducible apply Brx_recheck_moves
    | intro _
    | split
    | (extract_lets +onlyGivenNames x; first
      | (refine Moves.keep (W := W) (s₀ := s₀) x ?_ ?_; rotate_left; intro hx; clear_value x; rotate_right)
      | (refine Moves.keep (W := W) (s₀ := s₀) x.2 ?_ ?_; rotate_left; intro hx; clear_value x; rotate_right)
      | (refine Moves.keep (W := W) (s₀ := s₀) x.1 ?_ ?_; rotate_left; intro hx; clear_value x; rotate_right)
      | skip))

theorem Tick_snrLatch_moves {W : Part → Prop} {s₀ s : State} (h0 : W .vlk) (h1 : W (.fld F.LRX_CD_RESID_RESID)) (h2 : W (.fld F.LRX_CFO_TOTAL)) (h3 : W (.fld F.LRX_IMP_DGD)) (h4 : W (.fld F.LRX_IMP_PDL)) (h5 : W (.fld F.LRX_INT_CAUSE_SHADOW_LOCKED)) (h6 : W (.fld F.LRX_INT_CAUSE_SNR_LATCH)) (h7 : W (.fld F.LRX_INT_CAUSE_TABLE_ERR)) (h8 : W (.fld F.LRX_SNR_LEAF_SNR)) (h9 : W (.fld F.LRX_SNR_LEAF_SNR_X)) (h10 : W (.fld F.LRX_SNR_LEAF_SNR_Y)) (h11 : W (.fld F.LRX_SNR_LEAF_VALID)) (h12 : W (.fld F.LRX_SNR_SNR)) (h13 : W (.fld F.LRX_SNR_SNR_X)) (h14 : W (.fld F.LRX_SNR_SNR_Y)) (h15 : W (.fld F.LRX_SNR_VALID)) (h16 : W (.fld F.LRX_STAT_ERR_SC)) (h17 : W (.fld F.LRX_STAT_SHADOW_READY)) (h18 : W (.fld F.LTX_INT_CAUSE_SHADOW_LOCKED)) (h19 : W (.fld F.LTX_INT_CAUSE_TABLE_ERR)) (h20 : W (.fld F.LTX_STAT_ERR_SC)) (h21 : W (.fld F.LTX_STAT_SHADOW_READY)) (h22 : W (.fld F.SCM_CHG_STAT_DS_STATE)) (h23 : W (.fld F.SCM_CHG_STAT_US_STATE)) (h24 : W (.fld F.SCM_DS_NEXT_ENTRY)) (h25 : W (.fld F.SCM_INT_CAUSE_BUSY)) (h26 : W (.fld F.SCM_INT_CAUSE_CHG_FAIL)) (h27 : W (.fld F.SCM_INT_CAUSE_SHORT)) (h28 : W (.fld F.SCM_NAK_MAP_LEAF)) (h29 : W (.fld F.SCM_SC_FLAG_OVER)) (h30 : W (.fld F.SCM_SC_FLAG_SHORT)) (h31 : W (.fld F.SCM_SC_FLAG_STALE)) (h32 : W (.fld F.SCM_SC_FLAG_US_OVER)) (h33 : W (.fld F.SCM_SC_FLAG_US_SHORT)) (h34 : W (.fld F.SCM_SC_FLAG_US_STALE)) (h35 : W (.fld F.SCM_US_NEXT_ENTRY)) (h36 : W (.fld F.SYS_INT_CAUSE_ROLE_LIMIT)) (h37 : W (.fld F.VLK_INT_CAUSE_GROUP_ERR)) (h38 : W (.fld H.LRX_SHADOW)) (h39 : W (.fld H.LRX_SHADOW_VER)) (h40 : W (.fld H.LRX_TAPS)) (h41 : W (.fld H.LRX_WIN_LOCK)) (h42 : W (.fld H.LTX_SHADOW)) (h43 : W (.fld H.LTX_SHADOW_VER)) (h44 : W (.fld H.SCM_ACKED)) (h45 : W (.fld H.SCM_ADDRESSED)) (h46 : W (.fld H.SCM_LAST_VER)) (h47 : W (.fld H.SCM_LEAF_MF)) (h48 : W (.fld H.SCM_SNR_MF)) (h49 : W (.fld H.SCM_START_MF)) (h50 : W (.fld H.VLK_SEQ)) (a0 : List (List Nat)) (a1 : List (List Nat)) (a2 : List Int) (h : Moves W s₀ s) :
    Moves W s₀ (Sys2Proof.Machine.Tick.snrLatch a0 a1 a2 s) := by
  unfold Sys2Proof.Machine.Tick.snrLatch
  repeat' (first
    | with_reducible assumption
    | with_reducible apply Moves.clr
    | with_reducible apply Moves.each
    | with_reducible apply Moves.eachOf
    | with_reducible apply Moves.put
    | with_reducible apply Moves.set
    | with_reducible apply Lrx_adapt_moves
    | with_reducible apply Lrx_latchSnr_moves
    | with_reducible apply Lrx_latchLeaf_moves
    | with_reducible apply Scm_latched_moves
    | with_reducible apply Lrx_latchImpairments_moves
    | intro _
    | split
    | (extract_lets +onlyGivenNames x; first
      | (refine Moves.keep (W := W) (s₀ := s₀) x ?_ ?_; rotate_left; intro hx; clear_value x; rotate_right)
      | (refine Moves.keep (W := W) (s₀ := s₀) x.2 ?_ ?_; rotate_left; intro hx; clear_value x; rotate_right)
      | (refine Moves.keep (W := W) (s₀ := s₀) x.1 ?_ ?_; rotate_left; intro hx; clear_value x; rotate_right)
      | skip))

theorem Tick_dmError_moves {W : Part → Prop} {s₀ s : State} (h0 : W (.fld F.LRX_DM_ERR_CNT_COUNT)) (h1 : W (.fld F.LRX_INT_CAUSE_DM_ERR)) (h2 : W (.fld H.FEC_MARK)) (a0 : Nat) (a1 : List Nat) (h : Moves W s₀ s) :
    Moves W s₀ (Sys2Proof.Machine.Tick.dmError a0 a1 s) := by
  unfold Sys2Proof.Machine.Tick.dmError
  repeat' (first
    | with_reducible assumption
    | with_reducible apply Lrx_dmError_moves
    | intro _
    | split
    | (extract_lets +onlyGivenNames x; first
      | (refine Moves.keep (W := W) (s₀ := s₀) x ?_ ?_; rotate_left; intro hx; clear_value x; rotate_right)
      | (refine Moves.keep (W := W) (s₀ := s₀) x.2 ?_ ?_; rotate_left; intro hx; clear_value x; rotate_right)
      | (refine Moves.keep (W := W) (s₀ := s₀) x.1 ?_ ?_; rotate_left; intro hx; clear_value x; rotate_right)
      | skip))

theorem Tick_scanned_moves {W : Part → Prop} {s₀ s : State} (h0 : W (.fld F.CAL_DEFERRED_VAL)) (h1 : W (.fld F.CAL_STAT_STATE)) (h2 : W (.fld F.CAL_STAT_TYPE)) (h3 : W (.fld F.HKA_STAT_CAL_HOLD)) (h4 : W (.fld F.HKA_STAT_INJ_PEND)) (h5 : W (.fld F.HKA_STAT_STATE)) (h6 : W (.fld F.PWR_AVS_READ_BUSY)) (h7 : W (.fld F.PWR_VMIN_VMIN_MV)) (h8 : W (.fld F.PWR_VMIN_VREQ_MV)) (h9 : W (.fld H.CAL_AUTO_PEND)) (h10 : W (.fld H.CAL_HOST)) (h11 : W (.fld H.CAL_PASSED)) (h12 : W (.fld H.CAL_T0)) (h13 : W (.fld H.CAL_TEMP0)) (h14 : W (.fld H.HKA_CAL_WAIT)) (h15 : W (.fld H.HKA_CUR)) (h16 : W (.fld H.HKA_RUN)) (h17 : W (.fld H.HKA_SEQ_STATE)) (h18 : W (.fld H.HKA_TICKS)) (h19 : W (.fld H.PWR_TARGET)) (h20 : W (.fld H.PWR_VMIN_ASKED)) (h21 : W (.fld H.PWR_VMIN_FAILED)) (h22 : W (.fld H.PWR_VMIN_WAITS)) (h : Moves W s₀ s) :
    Moves W s₀ (Sys2Proof.Machine.Tick.scanned s) := by
  unfold Sys2Proof.Machine.Tick.scanned
  repeat' (first
    | with_reducible assumption
    | with_reducible apply Moves.put
    | with_reducible apply Pwr_vminRecompute_moves
    | with_reducible apply Cal_temperature_moves
    | intro _
    | split
    | (extract_lets +onlyGivenNames x; first
      | (refine Moves.keep (W := W) (s₀ := s₀) x ?_ ?_; rotate_left; intro hx; clear_value x; rotate_right)
      | (refine Moves.keep (W := W) (s₀ := s₀) x.2 ?_ ?_; rotate_left; intro hx; clear_value x; rotate_right)
      | (refine Moves.keep (W := W) (s₀ := s₀) x.1 ?_ ?_; rotate_left; intro hx; clear_value x; rotate_right)
      | skip))

theorem Tick_conversionEnd_moves {W : Part → Prop} {s₀ s : State} (h0 : W .flt) (h1 : W (.fld F.CAL_DEFERRED_VAL)) (h2 : W (.fld F.CAL_STAT_STATE)) (h3 : W (.fld F.CAL_STAT_TYPE)) (h4 : W (.fld F.FLT_CH_STAT_ABOVE)) (h5 : W (.fld F.FLT_CH_STAT_BANK)) (h6 : W (.fld F.FLT_CH_STAT_FADING)) (h7 : W (.fld F.FLT_CH_STAT_SAT)) (h8 : W (.fld F.FLT_CH_STAT_SWAP_HELD)) (h9 : W (.fld F.FLT_ENV_VAL)) (h10 : W (.fld F.FLT_FIR_C)) (h11 : W (.fld F.FLT_INT_CAUSE_ENV_HI)) (h12 : W (.fld F.FLT_INT_CAUSE_ENV_LO)) (h13 : W (.fld F.FLT_INT_CAUSE_FADE_DONE)) (h14 : W (.fld F.FLT_OUT_VAL)) (h15 : W (.fld F.FLT_PEAK_VAL)) (h16 : W (.fld F.FLT_RMS_VAL)) (h17 : W (.fld F.HKA_DIE_HOT_TEMP)) (h18 : W (.fld F.HKA_DIE_TEMP_TEMP)) (h19 : W (.fld F.HKA_INJ_RES_DATA)) (h20 : W (.fld F.HKA_INJ_RES_NEW)) (h21 : W (.fld F.HKA_INJ_RES_OVR)) (h22 : W (.fld F.HKA_INT_CAUSE_INJ_DONE)) (h23 : W (.fld F.HKA_INT_CAUSE_SEQ_DONE)) (h24 : W (.fld F.HKA_PWM_DUTY_VAL)) (h25 : W (.fld F.HKA_RES_DATA)) (h26 : W (.fld F.HKA_RES_NEW)) (h27 : W (.fld F.HKA_RES_OVR)) (h28 : W (.fld F.HKA_STAT_CAL_HOLD)) (h29 : W (.fld F.HKA_STAT_INJ_PEND)) (h30 : W (.fld F.HKA_STAT_NEXT)) (h31 : W (.fld F.HKA_STAT_STATE)) (h32 : W (.fld F.LRX_LOFB_STAT_FINE)) (h33 : W (.fld F.LSR_FT_OUT_LIMIT)) (h34 : W (.fld F.LSR_FT_OUT_MHZ)) (h35 : W (.fld F.LSR_INT_CAUSE_LOOP_LIMIT)) (h36 : W (.fld F.LSR_LOOP_STAT_AT_LIMIT)) (h37 : W (.fld F.LSR_LOOP_STAT_U)) (h38 : W (.fld F.PWR_AVS_READ_BUSY)) (h39 : W (.fld F.PWR_VMIN_VMIN_MV)) (h40 : W (.fld F.PWR_VMIN_VREQ_MV)) (h41 : W (.fld H.CAL_AUTO_PEND)) (h42 : W (.fld H.CAL_HOST)) (h43 : W (.fld H.CAL_PASSED)) (h44 : W (.fld H.CAL_T0)) (h45 : W (.fld H.CAL_TEMP0)) (h46 : W (.fld H.FLT_DUE)) (h47 : W (.fld H.FLT_DUE_VAL)) (h48 : W (.fld H.FLT_FADE_I)) (h49 : W (.fld H.FLT_FADE_L)) (h50 : W (.fld H.FLT_HOLD_CNT)) (h51 : W (.fld H.FLT_IN)) (h52 : W (.fld H.FLT_IN_NEW)) (h53 : W (.fld H.FLT_PHASE)) (h54 : W (.fld H.FLT_RMS_CNT)) (h55 : W (.fld H.FLT_RMS_SUM)) (h56 : W (.fld H.FLT_SAMPLES)) (h57 : W (.fld H.FLT_SWAP_DUE)) (h58 : W (.fld H.FLT_TAP)) (h59 : W (.fld H.HKA_CAL_WAIT)) (h60 : W (.fld H.HKA_CODE)) (h61 : W (.fld H.HKA_CUR)) (h62 : W (.fld H.HKA_FRESH)) (h63 : W (.fld H.HKA_INJ_CODE)) (h64 : W (.fld H.HKA_RUN)) (h65 : W (.fld H.HKA_SCAN_DUE)) (h66 : W (.fld H.HKA_SCAN_S)) (h67 : W (.fld H.HKA_SEQ_STATE)) (h68 : W (.fld H.HKA_TICKS)) (h69 : W (.fld H.LSR_CODE)) (h70 : W (.fld H.PWR_TARGET)) (h71 : W (.fld H.PWR_VMIN_ASKED)) (h72 : W (.fld H.PWR_VMIN_FAILED)) (h73 : W (.fld H.PWR_VMIN_WAITS)) (a0 : Int) (h : Moves W s₀ s) :
    Moves W s₀ (Sys2Proof.Machine.Tick.conversionEnd a0 s) := by
  unfold Sys2Proof.Machine.Tick.conversionEnd
  repeat' (first
    | with_reducible assumption
    | with_reducible apply Flt_fromHka_moves
    | with_reducible apply Hka_conversionEnd_moves
    | with_reducible apply Tick_scanned_moves
    | intro _
    | split
    | (extract_lets +onlyGivenNames x; first
      | (refine Moves.keep (W := W) (s₀ := s₀) x ?_ ?_; rotate_left; intro hx; clear_value x; rotate_right)
      | (refine Moves.keep (W := W) (s₀ := s₀) x.2 ?_ ?_; rotate_left; intro hx; clear_value x; rotate_right)
      | (refine Moves.keep (W := W) (s₀ := s₀) x.1 ?_ ?_; rotate_left; intro hx; clear_value x; rotate_right)
      | skip))

theorem Tick_hkaCalDone_moves {W : Part → Prop} {s₀ s : State} (h0 : W (.fld F.CAL_INT_CAUSE_NOREF)) (h1 : W (.fld F.CAL_STAT_STATE)) (h2 : W (.fld F.HKA_STAT_CAL_HOLD)) (h3 : W (.fld F.HKA_STAT_INJ_PEND)) (h4 : W (.fld F.HKA_STAT_STATE)) (h5 : W (.fld H.BST_WAITING)) (h6 : W (.fld H.CAL_RETRY)) (h7 : W (.fld H.HKA_CAL_WAIT)) (h8 : W (.fld H.HKA_CUR)) (h9 : W (.fld H.HKA_RUN)) (h10 : W (.fld H.HKA_SEQ_STATE)) (h11 : W (.fld H.HKA_TICKS)) (a0 : Int) (h : Moves W s₀ s) :
    Moves W s₀ (Sys2Proof.Machine.Tick.hkaCalDone a0 s) := by
  unfold Sys2Proof.Machine.Tick.hkaCalDone
  repeat' (first
    | with_reducible assumption
    | with_reducible apply Bst_unwait_moves
    | with_reducible apply Cal_hkaDone_moves
    | intro _)

theorem Tick_deskew_moves {W : Part → Prop} {s₀ s : State} (h0 : W (.fld F.HSL_CLI_DSK_APPLIED)) (h1 : W (.fld F.HSL_CLI_DSK_MEAS)) (h2 : W (.fld F.HSL_CLI_STAT_DSK_OVER)) (h3 : W (.fld F.HSL_CLI_STAT_DSK_RANGE)) (h4 : W (.fld F.HSL_CLI_STAT_FLEXO_ID)) (h5 : W (.fld F.HSL_CLI_STAT_STATE)) (h6 : W (.fld F.HSL_INT_CAUSE_CLI_DOWN)) (h7 : W (.fld F.HSL_INT_CAUSE_CLI_UP)) (h8 : W (.fld F.HSL_INT_CAUSE_DSK_OVER)) (h9 : W (.fld F.HSL_INT_CAUSE_DSK_RANGE)) (h10 : W (.fld H.FRM_LIVE_F)) (h11 : W (.fld H.FRM_LIVE_SC)) (h12 : W (.fld H.FRM_SEC_CLI)) (h13 : W (.fld H.FRM_SEC_SC)) (h14 : W (.fld H.FRM_SEEN_CLI)) (h15 : W (.fld H.FRM_SEEN_FLOW)) (h16 : W (.fld H.FRM_SEEN_LANE)) (h17 : W (.fld H.FRM_SEEN_LINE)) (h18 : W (.fld H.FRM_SEEN_SC)) (a0 : Nat) (a1 : Nat) (a2 : Nat) (h : Moves W s₀ s) :
    Moves W s₀ (Sys2Proof.Machine.Tick.deskew a0 a1 a2 s) := by
  unfold Sys2Proof.Machine.Tick.deskew
  repeat' (first
    | with_reducible assumption
    | with_reducible apply Moves.put
    | with_reducible apply Tick_noted_moves
    | with_reducible apply Hsl_deskew_moves
    | intro _
    | split
    | (extract_lets +onlyGivenNames x; first
      | (refine Moves.keep (W := W) (s₀ := s₀) x ?_ ?_; rotate_left; intro hx; clear_value x; rotate_right)
      | (refine Moves.keep (W := W) (s₀ := s₀) x.2 ?_ ?_; rotate_left; intro hx; clear_value x; rotate_right)
      | (refine Moves.keep (W := W) (s₀ := s₀) x.1 ?_ ?_; rotate_left; intro hx; clear_value x; rotate_right)
      | skip))

theorem Tick_race_moves {W : Part → Prop} {s₀ s : State} (hw : ∀ x, W x) (a0 : Nat) (a1 : Sys2Proof.Machine.Pmc.Who) (a2 : List Nat) (a3 : Sys2Proof.Machine.State → Sys2Proof.Machine.State) (hf3 : ∀ b0, Moves W s₀ b0 → Moves W s₀ (a3 b0)) (h : Moves W s₀ s) :
    Moves W s₀ (Sys2Proof.Machine.Tick.race a0 a1 a2 a3 s) := by
  unfold Sys2Proof.Machine.Tick.race
  repeat' (first
    | with_reducible assumption
    | exact hw _
    | with_reducible apply Moves.eachOf
    | with_reducible apply Bus_fetch_moves
    | with_reducible apply Pmc_event_moves
    | with_reducible apply hf3
    | intro _
    | split
    | (extract_lets +onlyGivenNames x; first
      | (refine Moves.keep (W := W) (s₀ := s₀) x ?_ ?_; rotate_left; intro hx; clear_value x; rotate_right)
      | (refine Moves.keep (W := W) (s₀ := s₀) x.2 ?_ ?_; rotate_left; intro hx; clear_value x; rotate_right)
      | (refine Moves.keep (W := W) (s₀ := s₀) x.1 ?_ ?_; rotate_left; intro hx; clear_value x; rotate_right)
      | skip))

theorem Tick_ppsExpiry_moves {W : Part → Prop} {s₀ s : State} (h0 : W (.fld F.SYN_PPS_IN_ERR_VALID)) (a0 : Nat) (h : Moves W s₀ s) :
    Moves W s₀ (Sys2Proof.Machine.Tick.ppsExpiry a0 s) := by
  unfold Sys2Proof.Machine.Tick.ppsExpiry
  repeat' (first
    | with_reducible assumption
    | with_reducible apply Moves.clr
    | intro _
    | split)

theorem Tick_sampleRecord_moves {W : Part → Prop} {s₀ s : State} (h0 : W .qdr) (h1 : W (.fld F.PMC_INT_CAUSE_SMP_AVAIL)) (h2 : W (.fld F.PMC_INT_CAUSE_SMP_DROP)) (h3 : W (.fld F.PMC_SMP_DROP_RING)) (h4 : W (.fld F.PMC_SMP_STAT_COUNT)) (h5 : W (.fld H.PMC_FOLLOW)) (h6 : W (.fld H.PMC_OVF_DUE)) (h7 : W (.fld H.PMC_RING)) (h8 : W (.fld H.PMC_TRACE_POS)) (a0 : Option Nat) (a1 : Sys2Proof.Followed) (h : Moves W s₀ s) :
    Moves W s₀ (Sys2Proof.Machine.Tick.sampleRecord a0 a1 s) := by
  unfold Sys2Proof.Machine.Tick.sampleRecord
  repeat' (first
    | with_reducible assumption
    | with_reducible apply Pmc_sampleRecord_moves
    | with_reducible apply Pmc_overflowRecord_moves
    | intro _
    | split)

end Sys2Proof.Laws
end

