-- ==== Sys2Proof/Laws/MovesDone.lean ====
section
/-! SUPPORT. Sys2Proof/Laws/MovesDone.lean: what a command's completion and a register write that a command stands for may write
(Laws/Moves.lean). -/
namespace Sys2Proof.Laws
open Sys2Proof Sys2Proof.Machine

theorem done_moves {W : Part → Prop} {s u t : State} (hm : W .msix) (h : Moves W s u) (e : done s u = .next t) : Moves W s t := by
  simp only [done, Host.Outcome.next.injEq] at e
  subst e
  exact settle_moves hm _ h

theorem doneMirrored_moves {W : Part → Prop} {s u t : State} (hm : W .msix) (h : Moves W s u) (e : Access.doneMirrored s u = .next t) :
    Moves W s t :=
  done_moves hm (Peer_mirror_moves _ h) e

/-- A register write that a command stands for, to no block that has more to do. -/
theorem Bus_row_other {W : Part → Prop} {s₀ s : State} (h0 : W .held) (h1 : W .qdr) (h2 : W (.fld F.PEER_INT_CAUSE_MIRRORED)) (h3 : W (.fld F.PMC_INT_CAUSE_OVF)) (h4 : W (.fld F.PMC_INT_CAUSE_SMP_AVAIL)) (h5 : W (.fld F.PMC_INT_CAUSE_SMP_DROP)) (h6 : W (.fld F.PMC_OVF_STAT_OVF)) (h7 : W (.fld F.PMC_SMP_DROP_RING)) (h8 : W (.fld F.PMC_SMP_STAT_COUNT)) (h9 : W (.fld H.PMC_CNT)) (h10 : W (.fld H.PMC_OVF_DUE)) (h11 : W (.fld H.PMC_OVF_T)) (h12 : W (.fld H.PMC_RING)) (h13 : W (.fld H.PMC_TRACE_POS)) (who : Pmc.Who) (r : RegId) (i j : Nat) (dword : Nat → Nat)
    {f : State → State} (hb : Sys.blockOf (r.barAddr 0 0 0) ≠ 12 ∧ Sys.blockOf (r.barAddr 0 0 0) ≠ 18 ∧ Sys.blockOf (r.barAddr 0 0 0) ≠ 19) (hf : ∀ u, Moves W s₀ u → Moves W s₀ (f u)) (h : Moves W s₀ s) :
    Moves W s₀ (Bus.row who r i j dword f s) := by
  unfold Bus.row
  extract_lets addr first
  split
  · exact h
  split
  · apply Bus_hold_moves <;> assumption
  · apply Pmc_access_moves <;> try assumption
    split
    · exact h.set _ _ _ (by assumption)
    · have e2 := hf _ h
      revert e2
      generalize f s = t
      intro e2
      have hb' : Sys.blockOf first ≠ 12 ∧ Sys.blockOf first ≠ 18 ∧ Sys.blockOf first ≠ 19 := hb
      generalize Sys.blockOf first = b at hb' ⊢
      unfold Bus.follow
      rw [if_neg hb'.1, if_neg (by omega)]
      exact e2

/-- A register write that a command stands for, to SYN. -/
theorem Bus_row_syn {W : Part → Prop} {s₀ s : State} (h0 : W .held) (h1 : W .qdr) (h2 : W (.fld F.PEER_INT_CAUSE_MIRRORED)) (h3 : W (.fld F.PMC_INT_CAUSE_OVF)) (h4 : W (.fld F.PMC_INT_CAUSE_SMP_AVAIL)) (h5 : W (.fld F.PMC_INT_CAUSE_SMP_DROP)) (h6 : W (.fld F.PMC_OVF_STAT_OVF)) (h7 : W (.fld F.PMC_SMP_DROP_RING)) (h8 : W (.fld F.PMC_SMP_STAT_COUNT)) (h9 : W (.fld F.SYN_INT_CAUSE_QL_CHG)) (h10 : W (.fld F.SYN_REF_STAT_ELIGIBLE)) (h11 : W (.fld F.SYN_REF_STAT_QL_EFF)) (h12 : W (.fld F.SYN_STAT_OUT_QL)) (h13 : W (.fld F.SYN_STAT_SEL_QL)) (h14 : W (.fld H.PMC_CNT)) (h15 : W (.fld H.PMC_OVF_DUE)) (h16 : W (.fld H.PMC_OVF_T)) (h17 : W (.fld H.PMC_RING)) (h18 : W (.fld H.PMC_TRACE_POS)) (h19 : W (.fld H.SYN_KEYSTEP)) (h20 : W (.fld H.SYN_LINE_OK)) (h21 : W (.fld H.SYN_OUT_RUN)) (h22 : W (.fld H.SYN_QL_SENT)) (who : Pmc.Who) (r : RegId) (i j : Nat) (dword : Nat → Nat)
    {f : State → State} (hb : Sys.blockOf (r.barAddr 0 0 0) = 12) (hf : ∀ u, Moves W s₀ u → Moves W s₀ (f u)) (h : Moves W s₀ s) :
    Moves W s₀ (Bus.row who r i j dword f s) := by
  unfold Bus.row
  extract_lets addr first
  split
  · exact h
  split
  · apply Bus_hold_moves <;> assumption
  · apply Pmc_access_moves <;> try assumption
    split
    · exact h.set _ _ _ (by assumption)
    · have e2 := hf _ h
      revert e2
      generalize f s = t
      intro e2
      have hb' : Sys.blockOf first = 12 := hb
      generalize Sys.blockOf first = b at hb' ⊢
      unfold Bus.follow
      rw [if_pos hb']
      extract_lets t1
      have e3 : Moves W s₀ t1 := by
        dsimp only [t1]
        split
        · exact e2
        · apply Syn_otherWrite_moves <;> assumption
      clear_value t1
      apply Syn_refresh_moves <;> assumption

/-- A register write that a command stands for, to LTX or LRX. -/
theorem Bus_row_line {W : Part → Prop} {s₀ s : State} (h0 : W .held) (h1 : W .qdr) (h2 : W (.fld F.CAL_INT_CAUSE_ABORTED)) (h3 : W (.fld F.CAL_STAT_STATE)) (h4 : W (.fld F.HKA_STAT_CAL_HOLD)) (h5 : W (.fld F.HKA_STAT_INJ_PEND)) (h6 : W (.fld F.HKA_STAT_STATE)) (h7 : W (.fld F.PEER_INT_CAUSE_MIRRORED)) (h8 : W (.fld F.PMC_INT_CAUSE_OVF)) (h9 : W (.fld F.PMC_INT_CAUSE_SMP_AVAIL)) (h10 : W (.fld F.PMC_INT_CAUSE_SMP_DROP)) (h11 : W (.fld F.PMC_OVF_STAT_OVF)) (h12 : W (.fld F.PMC_SMP_DROP_RING)) (h13 : W (.fld F.PMC_SMP_STAT_COUNT)) (h14 : W (.fld H.BST_WAITING)) (h15 : W (.fld H.CAL_RETRY)) (h16 : W (.fld H.HKA_CAL_WAIT)) (h17 : W (.fld H.HKA_CUR)) (h18 : W (.fld H.HKA_RUN)) (h19 : W (.fld H.HKA_SEQ_STATE)) (h20 : W (.fld H.HKA_TICKS)) (h21 : W (.fld H.PMC_CNT)) (h22 : W (.fld H.PMC_OVF_DUE)) (h23 : W (.fld H.PMC_OVF_T)) (h24 : W (.fld H.PMC_RING)) (h25 : W (.fld H.PMC_TRACE_POS)) (who : Pmc.Who) (r : RegId) (i j : Nat) (dword : Nat → Nat)
    {f : State → State} (hb : Sys.blockOf (r.barAddr 0 0 0) = 18 ∨ Sys.blockOf (r.barAddr 0 0 0) = 19) (hf : ∀ u, Moves W s₀ u → Moves W s₀ (f u)) (h : Moves W s₀ s) :
    Moves W s₀ (Bus.row who r i j dword f s) := by
  unfold Bus.row
  extract_lets addr first
  split
  · exact h
  split
  · apply Bus_hold_moves <;> assumption
  · apply Pmc_access_moves <;> try assumption
    split
    · exact h.set _ _ _ (by assumption)
    · have e2 := hf _ h
      revert e2
      generalize f s = t
      intro e2
      have hb' : Sys.blockOf first = 18 ∨ Sys.blockOf first = 19 := hb
      generalize Sys.blockOf first = b at hb' ⊢
      unfold Bus.follow
      rw [if_neg (by omega), if_pos hb']
      apply Bus_lineWritten_moves <;> assumption

end Sys2Proof.Laws
end

