-- ==== Sys2Proof/Laws/MovesExecBrx.lean ====
section
/-! SUPPORT. Sys2Proof/Laws/MovesExecBrx.lean: what each command of Machine/ExecBrx.lean may write (Laws/Moves.lean). -/
namespace Sys2Proof.Laws
open Sys2Proof Sys2Proof.Machine

theorem execBrxEnable_moves {W : Part → Prop} {s t : State} (h0 : W .held) (h1 : W .msix) (h2 : W .qdr) (h3 : W (.fld F.BRX_CTRL_EN)) (h4 : W (.fld F.BRX_INT_CAUSE_CFG_ERR)) (h5 : W (.fld F.BRX_STAT_CFG_STEP)) (h6 : W (.fld F.BRX_STAT_CH)) (h7 : W (.fld F.PEER_INT_CAUSE_MIRRORED)) (h8 : W (.fld F.PMC_INT_CAUSE_OVF)) (h9 : W (.fld F.PMC_INT_CAUSE_SMP_AVAIL)) (h10 : W (.fld F.PMC_INT_CAUSE_SMP_DROP)) (h11 : W (.fld F.PMC_OVF_STAT_OVF)) (h12 : W (.fld F.PMC_SMP_DROP_RING)) (h13 : W (.fld F.PMC_SMP_STAT_COUNT)) (h14 : W (.fld F.SYS_INT_CAUSE_ROLE_LIMIT)) (h15 : W (.fld H.PMC_CNT)) (h16 : W (.fld H.PMC_OVF_DUE)) (h17 : W (.fld H.PMC_OVF_T)) (h18 : W (.fld H.PMC_RING)) (h19 : W (.fld H.PMC_TRACE_POS)) (h : execBrxEnable s = .next t) :
    Moves W s t := by
  unfold execBrxEnable at h
  refine done_moves (by assumption) ?_ h
  repeat' (first
    | with_reducible assumption
    | with_reducible exact .refl
    | (with_reducible refine Bus_row_other (by assumption) (by assumption) (by assumption) (by assumption) (by assumption) (by assumption) (by assumption) (by assumption) (by assumption) (by assumption) (by assumption) (by assumption) (by assumption) (by assumption) _ _ _ _ _ (by decide) ?_ ?_)
    | with_reducible apply Brx_enable_moves
    | intro _)

theorem execBrxDisable_moves {W : Part → Prop} {s t : State} (h0 : W .brx) (h1 : W .held) (h2 : W .msix) (h3 : W .qdr) (h4 : W (.fld F.BRX_CNT_COUNT)) (h5 : W (.fld F.BRX_COL_STAT_COUNT)) (h6 : W (.fld F.BRX_COL_STAT_HEAD_DONE)) (h7 : W (.fld F.BRX_CTRL_EN)) (h8 : W (.fld F.BRX_REC_STAT_COUNT)) (h9 : W (.fld F.BRX_STAT_CH)) (h10 : W (.fld F.PEER_INT_CAUSE_MIRRORED)) (h11 : W (.fld F.PMC_INT_CAUSE_OVF)) (h12 : W (.fld F.PMC_INT_CAUSE_SMP_AVAIL)) (h13 : W (.fld F.PMC_INT_CAUSE_SMP_DROP)) (h14 : W (.fld F.PMC_OVF_STAT_OVF)) (h15 : W (.fld F.PMC_SMP_DROP_RING)) (h16 : W (.fld F.PMC_SMP_STAT_COUNT)) (h17 : W (.fld H.PMC_CNT)) (h18 : W (.fld H.PMC_OVF_DUE)) (h19 : W (.fld H.PMC_OVF_T)) (h20 : W (.fld H.PMC_RING)) (h21 : W (.fld H.PMC_TRACE_POS)) (h : execBrxDisable s = .next t) :
    Moves W s t := by
  unfold execBrxDisable at h
  refine done_moves (by assumption) ?_ h
  repeat' (first
    | with_reducible assumption
    | with_reducible exact .refl
    | (with_reducible refine Bus_row_other (by assumption) (by assumption) (by assumption) (by assumption) (by assumption) (by assumption) (by assumption) (by assumption) (by assumption) (by assumption) (by assumption) (by assumption) (by assumption) (by assumption) _ _ _ _ _ (by decide) ?_ ?_)
    | with_reducible apply Brx_disable_moves
    | intro _)

theorem execPeakDetect_moves {W : Part → Prop} {s t : State} (h0 : W .brx) (h1 : W .msix) (h2 : W (.fld F.BRX_CNT_COUNT)) (h3 : W (.fld F.BRX_COL_STAT_COUNT)) (h4 : W (.fld F.BRX_COL_STAT_HEAD_DONE)) (h5 : W (.fld F.BRX_DROP_CNT_COL)) (h6 : W (.fld F.BRX_INT_CAUSE_COLLISION)) (h7 : W (.fld F.BRX_INT_CAUSE_DROP)) (h8 : W (.fld F.BRX_INT_CAUSE_PREEMPTED)) (h9 : W (.fld F.BRX_REC_STAT_COUNT)) (h10 : W (.fld F.BRX_STAT_CH)) (h11 : W (.fld H.BRX_EPISODE)) (a0 : Nat) (a1 : Nat) (a2 : Int) (a3 : Nat) (a4 : Nat) (a5 : Nat) (a6 : Nat) (a7 : Nat) (a8 : Nat) (a9 : Nat) (a10 : Nat) (a11 : Nat) (a12 : List Nat) (a13 : Int) (h : execPeakDetect a0 a1 a2 a3 a4 a5 a6 a7 a8 a9 a10 a11 s a12 a13 = .next t) :
    Moves W s t := by
  unfold execPeakDetect at h
  refine done_moves (by assumption) ?_ h
  repeat' (first
    | with_reducible assumption
    | with_reducible exact .refl
    | with_reducible apply Brx_peak_moves
    | intro _)

theorem execHeaderDecision_moves {W : Part → Prop} {s t : State} (h0 : W .brx) (h1 : W .msix) (h2 : W (.fld F.BRX_CNT_COUNT)) (h3 : W (.fld F.BRX_COL_STAT_COUNT)) (h4 : W (.fld F.BRX_COL_STAT_HEAD_DONE)) (h5 : W (.fld F.BRX_REC_STAT_COUNT)) (h6 : W (.fld F.BRX_STAT_CH)) (a0 : Nat) (a1 : Nat) (a2 : Nat) (h : execHeaderDecision a0 a1 a2 s = .next t) :
    Moves W s t := by
  unfold execHeaderDecision at h
  refine done_moves (by assumption) ?_ h
  repeat' (first
    | with_reducible assumption
    | with_reducible exact .refl
    | with_reducible apply Brx_header_moves
    | intro _)

theorem execBurstClose_moves {W : Part → Prop} {s t : State} (h0 : W .brx) (h1 : W .msix) (h2 : W .qdr) (h3 : W (.fld F.BRX_CNT_COUNT)) (h4 : W (.fld F.BRX_STAT_CH)) (h5 : W (.fld F.PMC_INT_CAUSE_OVF)) (h6 : W (.fld F.PMC_INT_CAUSE_SMP_AVAIL)) (h7 : W (.fld F.PMC_INT_CAUSE_SMP_DROP)) (h8 : W (.fld F.PMC_OVF_STAT_OVF)) (h9 : W (.fld F.PMC_SMP_DROP_RING)) (h10 : W (.fld F.PMC_SMP_STAT_COUNT)) (h11 : W (.fld H.BRX_DIE)) (h12 : W (.fld H.PMC_CNT)) (h13 : W (.fld H.PMC_OVF_DUE)) (h14 : W (.fld H.PMC_OVF_T)) (h15 : W (.fld H.PMC_RING)) (h16 : W (.fld H.PMC_TRACE_POS)) (a0 : Nat) (a1 : Nat) (a2 : Nat) (a3 : Nat) (a4 : Nat) (a5 : List Nat) (h : execBurstClose a0 a1 a2 a3 a4 a5 s = .next t) :
    Moves W s t := by
  unfold execBurstClose at h
  refine done_moves (by assumption) ?_ h
  repeat' (first
    | with_reducible assumption
    | with_reducible exact .refl
    | with_reducible apply Brx_burstClose_moves
    | intro _)

theorem execBurstRecord_moves {W : Part → Prop} {s t : State} (h0 : W .brx) (h1 : W .msix) (h2 : W (.fld F.BRX_COL_STAT_COUNT)) (h3 : W (.fld F.BRX_COL_STAT_HEAD_DONE)) (h4 : W (.fld F.BRX_DROP_CNT_REC)) (h5 : W (.fld F.BRX_INT_CAUSE_DROP)) (h6 : W (.fld F.BRX_INT_CAUSE_REC_AVAIL)) (h7 : W (.fld F.BRX_REC_STAT_COUNT)) (h : execBurstRecord s = .next t) :
    Moves W s t := by
  unfold execBurstRecord at h
  refine done_moves (by assumption) ?_ h
  repeat' (first
    | with_reducible assumption
    | with_reducible exact .refl
    | with_reducible apply Brx_writeRecord_moves
    | intro _)

theorem execGapClose_moves {W : Part → Prop} {s t : State} (h0 : W .brx) (h1 : W .msix) (h2 : W (.fld F.BRX_CNT_COUNT)) (h3 : W (.fld F.BRX_COL_STAT_COUNT)) (h4 : W (.fld F.BRX_COL_STAT_HEAD_DONE)) (h5 : W (.fld F.BRX_INT_CAUSE_TRUNCATED)) (h6 : W (.fld F.BRX_REC_STAT_COUNT)) (h7 : W (.fld F.BRX_STAT_CH)) (a0 : Nat) (a1 : Nat) (a2 : Nat) (a3 : Nat) (a4 : List Int) (h : execGapClose a0 a1 a2 a3 s a4 = .next t) :
    Moves W s t := by
  unfold execGapClose at h
  refine done_moves (by assumption) ?_ h
  repeat' (first
    | with_reducible assumption
    | with_reducible exact .refl
    | with_reducible apply Brx_gap_moves
    | intro _)

theorem execFade_moves {W : Part → Prop} {s t : State} (h0 : W .brx) (h1 : W .msix) (h2 : W (.fld F.BRX_CNT_COUNT)) (a0 : Nat) (a1 : List Int) (a2 : Int) (h : execFade a0 s a1 a2 = .next t) :
    Moves W s t := by
  unfold execFade at h
  refine done_moves (by assumption) ?_ h
  repeat' (first
    | with_reducible assumption
    | with_reducible exact .refl
    | with_reducible apply Brx_fade_moves
    | intro _)

theorem execOrphan_moves {W : Part → Prop} {s t : State} (h0 : W .msix) (h1 : W (.fld F.BRX_CNT_COUNT)) (h2 : W (.fld H.BRX_EPISODE)) (a0 : Nat) (a1 : Nat) (a2 : List Int) (h : execOrphan a0 s a1 a2 = .next t) :
    Moves W s t := by
  unfold execOrphan at h
  refine done_moves (by assumption) ?_ h
  repeat' (first
    | with_reducible assumption
    | with_reducible exact .refl
    | with_reducible apply Brx_orphan_moves
    | intro _)

theorem execScAbsentSet_moves {W : Part → Prop} {s t : State} (h0 : W .msix) (h1 : W (.fld F.BRX_SC_ABSENT_SC)) (h2 : W (.fld H.FRM_LIVE_F)) (h3 : W (.fld H.FRM_LIVE_SC)) (h4 : W (.fld H.FRM_SEC_CLI)) (h5 : W (.fld H.FRM_SEC_SC)) (h6 : W (.fld H.FRM_SEEN_CLI)) (h7 : W (.fld H.FRM_SEEN_FLOW)) (h8 : W (.fld H.FRM_SEEN_LANE)) (h9 : W (.fld H.FRM_SEEN_LINE)) (h10 : W (.fld H.FRM_SEEN_SC)) (a0 : Nat) (a1 : List (Int × Nat)) (h : execScAbsentSet a0 s a1 = .next t) :
    Moves W s t := by
  unfold execScAbsentSet at h
  refine done_moves (by assumption) ?_ h
  repeat' (first
    | with_reducible assumption
    | with_reducible exact .refl
    | with_reducible apply Tick_noted_moves
    | with_reducible apply Brx_absent_moves
    | intro _)

theorem execScAbsentClear_moves {W : Part → Prop} {s t : State} (h0 : W .msix) (h1 : W (.fld F.BRX_SC_ABSENT_SC)) (a0 : Nat) (a1 : List (Int × Nat)) (h : execScAbsentClear a0 s a1 = .next t) :
    Moves W s t := by
  unfold execScAbsentClear at h
  refine done_moves (by assumption) ?_ h
  repeat' (first
    | with_reducible assumption
    | with_reducible exact .refl
    | with_reducible apply Brx_absent_moves
    | intro _)

theorem execRecPop_moves {W : Part → Prop} {s t : State} (h0 : W .brx) (h1 : W .held) (h2 : W .msix) (h3 : W .qdr) (h4 : W (.fld F.BRX_COL_STAT_COUNT)) (h5 : W (.fld F.BRX_COL_STAT_HEAD_DONE)) (h6 : W (.fld F.BRX_REC_STAT_COUNT)) (h7 : W (.fld F.PEER_INT_CAUSE_MIRRORED)) (h8 : W (.fld F.PMC_INT_CAUSE_OVF)) (h9 : W (.fld F.PMC_INT_CAUSE_SMP_AVAIL)) (h10 : W (.fld F.PMC_INT_CAUSE_SMP_DROP)) (h11 : W (.fld F.PMC_OVF_STAT_OVF)) (h12 : W (.fld F.PMC_SMP_DROP_RING)) (h13 : W (.fld F.PMC_SMP_STAT_COUNT)) (h14 : W (.fld H.PMC_CNT)) (h15 : W (.fld H.PMC_OVF_DUE)) (h16 : W (.fld H.PMC_OVF_T)) (h17 : W (.fld H.PMC_RING)) (h18 : W (.fld H.PMC_TRACE_POS)) (h : execRecPop s = .next t) :
    Moves W s t := by
  unfold execRecPop at h
  refine done_moves (by assumption) ?_ h
  repeat' (first
    | with_reducible assumption
    | with_reducible exact .refl
    | (with_reducible refine Bus_row_other (by assumption) (by assumption) (by assumption) (by assumption) (by assumption) (by assumption) (by assumption) (by assumption) (by assumption) (by assumption) (by assumption) (by assumption) (by assumption) (by assumption) _ _ _ _ _ (by decide) ?_ ?_)
    | with_reducible apply Brx_recPop_moves
    | intro _)

theorem execColPop_moves {W : Part → Prop} {s t : State} (h0 : W .brx) (h1 : W .held) (h2 : W .msix) (h3 : W .qdr) (h4 : W (.fld F.BRX_COL_STAT_COUNT)) (h5 : W (.fld F.BRX_COL_STAT_HEAD_DONE)) (h6 : W (.fld F.BRX_REC_STAT_COUNT)) (h7 : W (.fld F.PEER_INT_CAUSE_MIRRORED)) (h8 : W (.fld F.PMC_INT_CAUSE_OVF)) (h9 : W (.fld F.PMC_INT_CAUSE_SMP_AVAIL)) (h10 : W (.fld F.PMC_INT_CAUSE_SMP_DROP)) (h11 : W (.fld F.PMC_OVF_STAT_OVF)) (h12 : W (.fld F.PMC_SMP_DROP_RING)) (h13 : W (.fld F.PMC_SMP_STAT_COUNT)) (h14 : W (.fld H.PMC_CNT)) (h15 : W (.fld H.PMC_OVF_DUE)) (h16 : W (.fld H.PMC_OVF_T)) (h17 : W (.fld H.PMC_RING)) (h18 : W (.fld H.PMC_TRACE_POS)) (h : execColPop s = .next t) :
    Moves W s t := by
  unfold execColPop at h
  refine done_moves (by assumption) ?_ h
  repeat' (first
    | with_reducible assumption
    | with_reducible exact .refl
    | (with_reducible refine Bus_row_other (by assumption) (by assumption) (by assumption) (by assumption) (by assumption) (by assumption) (by assumption) (by assumption) (by assumption) (by assumption) (by assumption) (by assumption) (by assumption) (by assumption) _ _ _ _ _ (by decide) ?_ ?_)
    | with_reducible apply Brx_colPop_moves
    | intro _)

end Sys2Proof.Laws
end

