-- ==== Sys2Proof/Laws/MovesBoot.lean ====
section
/-! SUPPORT. Sys2Proof/Laws/MovesBoot.lean: what each operation of Machine/Boot.lean may write (Laws/Moves.lean). -/
namespace Sys2Proof.Laws
open Sys2Proof Sys2Proof.Machine

theorem Boot_opened_moves {W : Part → Prop} {s₀ s : State} (h0 : W (.fld F.SYS_INT_CAUSE_BOOT_DONE)) (h1 : W (.fld F.SYS_STAT_HOST_OPEN)) (h2 : W (.fld F.SYS_STAT_PHASE)) (a0 : Nat) (h : Moves W s₀ s) :
    Moves W s₀ (Sys2Proof.Machine.Boot.opened a0 s) := by
  unfold Sys2Proof.Machine.Boot.opened
  repeat' (first
    | with_reducible assumption
    | with_reducible apply Moves.put
    | with_reducible apply Moves.set
    | intro _)

theorem Boot_failed_moves {W : Part → Prop} {s₀ s : State} (h0 : W (.fld F.SE_IMG_STAT_BOOT_FAIL)) (h1 : W (.fld F.SYS_INT_CAUSE_BOOT_DONE)) (h2 : W (.fld F.SYS_STAT_HOST_OPEN)) (h3 : W (.fld F.SYS_STAT_PHASE)) (h : Moves W s₀ s) :
    Moves W s₀ (Sys2Proof.Machine.Boot.failed s) := by
  unfold Sys2Proof.Machine.Boot.failed
  repeat' (first
    | with_reducible assumption
    | with_reducible apply Moves.set
    | with_reducible apply Boot_opened_moves
    | intro _)

theorem Boot_openNow_moves {W : Part → Prop} {s₀ s : State} (h0 : W (.fld F.ENG_STAT_FAULTED)) (h1 : W (.fld F.ENG_STAT_RUNNING)) (h2 : W (.fld F.ENG_STAT_TAGS_USED)) (h3 : W (.fld F.ENG_TAG_ALLOC)) (h4 : W (.fld F.ENG_TAG_AUTO)) (h5 : W (.fld F.ENG_THR_STAT_CAUSE)) (h6 : W (.fld F.ENG_THR_STAT_PC)) (h7 : W (.fld F.ENG_THR_STAT_STATE)) (h8 : W (.fld F.SE_IMG_STAT_TRIAL_LEFT)) (h9 : W (.fld F.SYS_INT_CAUSE_BOOT_DONE)) (h10 : W (.fld F.SYS_INT_CAUSE_ROLE_LIMIT)) (h11 : W (.fld F.SYS_STAT_HOST_OPEN)) (h12 : W (.fld F.SYS_STAT_PHASE)) (h13 : W (.fld H.ENG_JRNL)) (h14 : W (.fld H.ENG_PAST)) (h : Moves W s₀ s) :
    Moves W s₀ (Sys2Proof.Machine.Boot.openNow s) := by
  unfold Sys2Proof.Machine.Boot.openNow
  repeat' (first
    | with_reducible assumption
    | with_reducible apply Moves.each
    | with_reducible apply Moves.put
    | with_reducible apply Eng_start_moves
    | with_reducible apply Boot_opened_moves
    | intro _
    | split
    | (extract_lets +onlyGivenNames x; first
      | (refine Moves.keep (W := W) (s₀ := s₀) x ?_ ?_; rotate_left; intro hx; clear_value x; rotate_right)
      | (refine Moves.keep (W := W) (s₀ := s₀) x.2 ?_ ?_; rotate_left; intro hx; clear_value x; rotate_right)
      | (refine Moves.keep (W := W) (s₀ := s₀) x.1 ?_ ?_; rotate_left; intro hx; clear_value x; rotate_right)
      | skip))

theorem Boot_slicesDone_moves {W : Part → Prop} {s₀ s : State} (h0 : W (.fld F.ENG_STAT_FAULTED)) (h1 : W (.fld F.ENG_STAT_RUNNING)) (h2 : W (.fld F.ENG_STAT_TAGS_USED)) (h3 : W (.fld F.ENG_TAG_ALLOC)) (h4 : W (.fld F.ENG_TAG_AUTO)) (h5 : W (.fld F.ENG_THR_STAT_CAUSE)) (h6 : W (.fld F.ENG_THR_STAT_PC)) (h7 : W (.fld F.ENG_THR_STAT_STATE)) (h8 : W (.fld F.SE_IMG_STAT_TRIAL_LEFT)) (h9 : W (.fld F.SYS_INT_CAUSE_BOOT_DONE)) (h10 : W (.fld F.SYS_INT_CAUSE_ROLE_LIMIT)) (h11 : W (.fld F.SYS_STAT_HOST_OPEN)) (h12 : W (.fld F.SYS_STAT_PHASE)) (h13 : W (.fld H.ENG_JRNL)) (h14 : W (.fld H.ENG_PAST)) (h : Moves W s₀ s) :
    Moves W s₀ (Sys2Proof.Machine.Boot.slicesDone s) := by
  unfold Sys2Proof.Machine.Boot.slicesDone
  repeat' (first
    | with_reducible assumption
    | with_reducible apply Boot_openNow_moves
    | intro _
    | split)

theorem Boot_tableWord_moves {W : Part → Prop} {s₀ s : State} (hw : ∀ x, W x) (a0 : Nat) (a1 : Nat) (h : Moves W s₀ s) :
    Moves W s₀ (Sys2Proof.Machine.Boot.tableWord a0 a1 s) := by
  unfold Sys2Proof.Machine.Boot.tableWord
  repeat' (first
    | with_reducible assumption
    | exact hw _
    | with_reducible apply Reset_write_moves
    | intro _
    | split)

theorem Boot_unload_moves {W : Part → Prop} {s₀ s : State} (h0 : W (.fld F.ENG_STAT_LOADED)) (h1 : W (.fld F.ENG_THR_ENTRY)) (h2 : W (.fld F.ENG_THR_SUPER)) (h3 : W (.fld H.ENG_DMEM)) (h4 : W (.fld H.ENG_IMEM)) (h5 : W (.fld H.ENG_START)) (a0 : Nat) (h : Moves W s₀ s) :
    Moves W s₀ (Sys2Proof.Machine.Boot.unload a0 s) := by
  unfold Sys2Proof.Machine.Boot.unload
  repeat' (first
    | with_reducible assumption
    | with_reducible apply Moves.clr
    | with_reducible apply Moves.each
    | with_reducible apply Moves.eachOf
    | with_reducible apply Img_loadThread_moves
    | intro _
    | split)

theorem Boot_loadSlot_moves {W : Part → Prop} {s₀ s : State} (hw : ∀ x, W x) (a0 : Nat) (h : Moves W s₀ s) :
    Moves W s₀ (Sys2Proof.Machine.Boot.loadSlot a0 s) := by
  unfold Sys2Proof.Machine.Boot.loadSlot
  repeat' (first
    | with_reducible assumption
    | exact hw _
    | with_reducible apply Moves.eachOf
    | with_reducible apply Img_loadSection_moves
    | with_reducible apply Boot_tableWord_moves
    | intro _
    | split)

theorem Boot_takeImage_moves {W : Part → Prop} {s₀ s : State} (h0 : W (.fld F.SE_IMG_STAT_PREV_VALID)) (h1 : W (.fld F.SE_IMG_STAT_SLOT)) (h2 : W (.fld F.SE_IMG_STAT_TRIAL)) (h3 : W (.fld F.SE_IMG_VER_VERSION)) (h4 : W (.fld F.SE_PREV_VER_VERSION)) (h5 : W (.fld F.SYS_ROLE_ROLE)) (h : Moves W s₀ s) :
    Moves W s₀ (Sys2Proof.Machine.Boot.takeImage s) := by
  unfold Sys2Proof.Machine.Boot.takeImage
  repeat' (first
    | with_reducible assumption
    | with_reducible apply Moves.put
    | with_reducible apply Img_showRecord_moves
    | intro _
    | (extract_lets +onlyGivenNames x; first
      | (refine Moves.keep (W := W) (s₀ := s₀) x ?_ ?_; rotate_left; intro hx; clear_value x; rotate_right)
      | (refine Moves.keep (W := W) (s₀ := s₀) x.2 ?_ ?_; rotate_left; intro hx; clear_value x; rotate_right)
      | (refine Moves.keep (W := W) (s₀ := s₀) x.1 ?_ ?_; rotate_left; intro hx; clear_value x; rotate_right)
      | skip))

theorem Boot_verifyFail_moves {W : Part → Prop} {s₀ s : State} (h0 : W .flash) (h1 : W (.fld F.BOOT_STAT_ERR)) (h2 : W (.fld F.SE_IMG_STAT_RB_CAUSE)) (h : Moves W s₀ s) :
    Moves W s₀ (Sys2Proof.Machine.Boot.verifyFail s) := by
  unfold Sys2Proof.Machine.Boot.verifyFail
  repeat' (first
    | with_reducible assumption
    | with_reducible apply Moves.put
    | with_reducible apply Img_writeRecord_moves
    | intro _)

theorem Boot_loadAndTest_moves {W : Part → Prop} {s₀ s : State} (hw : ∀ x, W x) (h : Moves W s₀ s) :
    Moves W s₀ (Sys2Proof.Machine.Boot.loadAndTest s) := by
  unfold Sys2Proof.Machine.Boot.loadAndTest
  repeat' (first
    | with_reducible assumption
    | exact hw _
    | with_reducible apply Moves.put
    | with_reducible apply Boot_loadSlot_moves
    | with_reducible apply Boot_takeImage_moves
    | with_reducible apply Boot_slicesDone_moves
    | with_reducible apply Bst_start_moves
    | intro _
    | split
    | (extract_lets +onlyGivenNames x; first
      | (refine Moves.keep (W := W) (s₀ := s₀) x ?_ ?_; rotate_left; intro hx; clear_value x; rotate_right)
      | (refine Moves.keep (W := W) (s₀ := s₀) x.2 ?_ ?_; rotate_left; intro hx; clear_value x; rotate_right)
      | (refine Moves.keep (W := W) (s₀ := s₀) x.1 ?_ ?_; rotate_left; intro hx; clear_value x; rotate_right)
      | skip))

theorem Boot_load_moves {W : Part → Prop} {s₀ s : State} (hw : ∀ x, W x) (a0 : Nat) (h : Moves W s₀ s) :
    Moves W s₀ (Sys2Proof.Machine.Boot.load a0 s) := by
  unfold Sys2Proof.Machine.Boot.load
  repeat' (first
    | with_reducible assumption
    | exact hw _
    | with_reducible apply Moves.put
    | with_reducible apply Cal_load_moves
    | with_reducible apply Boot_loadSlot_moves
    | with_reducible apply Boot_takeImage_moves
    | with_reducible apply Boot_unload_moves
    | with_reducible apply Boot_loadAndTest_moves
    | with_reducible apply Boot_verifyFail_moves
    | with_reducible apply Boot_failed_moves
    | intro _
    | split
    | (extract_lets +onlyGivenNames x; first
      | (refine Moves.keep (W := W) (s₀ := s₀) x ?_ ?_; rotate_left; intro hx; clear_value x; rotate_right)
      | (refine Moves.keep (W := W) (s₀ := s₀) x.2 ?_ ?_; rotate_left; intro hx; clear_value x; rotate_right)
      | (refine Moves.keep (W := W) (s₀ := s₀) x.1 ?_ ?_; rotate_left; intro hx; clear_value x; rotate_right)
      | skip))

theorem Boot_verify_moves {W : Part → Prop} {s₀ s : State} (hw : ∀ x, W x) (a0 : Nat) (h : Moves W s₀ s) :
    Moves W s₀ (Sys2Proof.Machine.Boot.verify a0 s) := by
  unfold Sys2Proof.Machine.Boot.verify
  repeat' (first
    | with_reducible assumption
    | exact hw _
    | with_reducible apply Moves.put
    | with_reducible apply Boot_load_moves
    | with_reducible apply Boot_verifyFail_moves
    | with_reducible apply Boot_failed_moves
    | with_reducible apply Img_showRecord_moves
    | intro _
    | split
    | (extract_lets +onlyGivenNames x; first
      | (refine Moves.keep (W := W) (s₀ := s₀) x ?_ ?_; rotate_left; intro hx; clear_value x; rotate_right)
      | (refine Moves.keep (W := W) (s₀ := s₀) x.2 ?_ ?_; rotate_left; intro hx; clear_value x; rotate_right)
      | (refine Moves.keep (W := W) (s₀ := s₀) x.1 ?_ ?_; rotate_left; intro hx; clear_value x; rotate_right)
      | skip))

theorem Boot_readFlash_moves {W : Part → Prop} {s₀ s : State} (h0 : W .flash) (h1 : W (.fld F.BOOT_STAT_DESC_OK)) (h2 : W (.fld F.BOOT_STAT_ERR)) (h3 : W (.fld F.BOOT_STAT_SPI_MHZ)) (h4 : W (.fld F.SE_IMG_STAT_RB_CAUSE)) (h5 : W (.fld F.SYS_STAT_PHASE)) (h : Moves W s₀ s) :
    Moves W s₀ (Sys2Proof.Machine.Boot.readFlash s) := by
  unfold Sys2Proof.Machine.Boot.readFlash
  repeat' (first
    | with_reducible assumption
    | with_reducible apply Moves.put
    | with_reducible apply Img_readDescriptor_moves
    | with_reducible apply Img_writeRecord_moves
    | intro _
    | split
    | (extract_lets +onlyGivenNames x; first
      | (refine Moves.keep (W := W) (s₀ := s₀) x ?_ ?_; rotate_left; intro hx; clear_value x; rotate_right)
      | (refine Moves.keep (W := W) (s₀ := s₀) x.2 ?_ ?_; rotate_left; intro hx; clear_value x; rotate_right)
      | (refine Moves.keep (W := W) (s₀ := s₀) x.1 ?_ ?_; rotate_left; intro hx; clear_value x; rotate_right)
      | skip))

theorem Boot_boot_moves {W : Part → Prop} {s₀ s : State} (hw : ∀ x, W x) (a0 : Nat) (h : Moves W s₀ s) :
    Moves W s₀ (Sys2Proof.Machine.Boot.boot a0 s) := by
  unfold Sys2Proof.Machine.Boot.boot
  repeat' (first
    | with_reducible assumption
    | exact hw _
    | with_reducible apply Lcm_readFuses_moves
    | with_reducible apply Boot_opened_moves
    | with_reducible apply Boot_verify_moves
    | with_reducible apply Boot_readFlash_moves
    | intro _
    | split
    | (extract_lets +onlyGivenNames x; first
      | (refine Moves.keep (W := W) (s₀ := s₀) x ?_ ?_; rotate_left; intro hx; clear_value x; rotate_right)
      | (refine Moves.keep (W := W) (s₀ := s₀) x.2 ?_ ?_; rotate_left; intro hx; clear_value x; rotate_right)
      | (refine Moves.keep (W := W) (s₀ := s₀) x.1 ?_ ?_; rotate_left; intro hx; clear_value x; rotate_right)
      | skip))

theorem Boot_sliceEnd_moves {W : Part → Prop} {s₀ s : State} (h0 : W .qdr) (h1 : W (.fld F.BST_INT_CAUSE_DONE)) (h2 : W (.fld F.BST_INT_CAUSE_FAIL)) (h3 : W (.fld F.BST_INT_CAUSE_REFUSED)) (h4 : W (.fld F.BST_INT_CAUSE_SAFE)) (h5 : W (.fld F.BST_RESULT_DETAIL)) (h6 : W (.fld F.BST_RESULT_ELAPSED)) (h7 : W (.fld F.BST_RESULT_RESULT)) (h8 : W (.fld F.BST_STAT_BUSY)) (h9 : W (.fld F.BST_STAT_CUR)) (h10 : W (.fld F.BST_STAT_SAFE)) (h11 : W (.fld F.BST_STAT_SAFE_BY)) (h12 : W (.fld F.CAL_DEFERRED_VAL)) (h13 : W (.fld F.CAL_STAT_STATE)) (h14 : W (.fld F.CAL_STAT_TYPE)) (h15 : W (.fld F.ENG_STAT_FAULTED)) (h16 : W (.fld F.ENG_STAT_RUNNING)) (h17 : W (.fld F.ENG_STAT_TAGS_USED)) (h18 : W (.fld F.ENG_TAG_ALLOC)) (h19 : W (.fld F.ENG_TAG_AUTO)) (h20 : W (.fld F.ENG_THR_STAT_CAUSE)) (h21 : W (.fld F.ENG_THR_STAT_PC)) (h22 : W (.fld F.ENG_THR_STAT_STATE)) (h23 : W (.fld F.HKA_STAT_CAL_HOLD)) (h24 : W (.fld F.HKA_STAT_INJ_PEND)) (h25 : W (.fld F.HKA_STAT_STATE)) (h26 : W (.fld F.LSR_STAT_HOLD)) (h27 : W (.fld F.LSR_STAT_LASER_EN)) (h28 : W (.fld F.LTX_STAT_MUTE_SRC)) (h29 : W (.fld F.SE_IMG_STAT_TRIAL_LEFT)) (h30 : W (.fld F.SYS_INT_CAUSE_BOOT_DONE)) (h31 : W (.fld F.SYS_INT_CAUSE_ROLE_LIMIT)) (h32 : W (.fld F.SYS_STAT_HOST_OPEN)) (h33 : W (.fld F.SYS_STAT_PHASE)) (h34 : W (.fld H.BST_TODO)) (h35 : W (.fld H.BST_WAITING)) (h36 : W (.fld H.CAL_AUTO_PEND)) (h37 : W (.fld H.CAL_HOST)) (h38 : W (.fld H.CAL_PASSED)) (h39 : W (.fld H.CAL_T0)) (h40 : W (.fld H.CAL_TEMP0)) (h41 : W (.fld H.ENG_DMEM)) (h42 : W (.fld H.ENG_IMEM)) (h43 : W (.fld H.ENG_JRNL)) (h44 : W (.fld H.ENG_PAST)) (h45 : W (.fld H.HKA_CAL_WAIT)) (h46 : W (.fld H.HKA_CUR)) (h47 : W (.fld H.HKA_RUN)) (h48 : W (.fld H.HKA_SEQ_STATE)) (h49 : W (.fld H.HKA_TICKS)) (h50 : W (.fld H.LTX_OUTPUT)) (a0 : Nat) (a1 : Nat) (a2 : Nat) (h : Moves W s₀ s) :
    Moves W s₀ (Sys2Proof.Machine.Boot.sliceEnd a0 a1 a2 s) := by
  unfold Sys2Proof.Machine.Boot.sliceEnd
  repeat' (first
    | with_reducible assumption
    | with_reducible apply Boot_slicesDone_moves
    | with_reducible apply Bst_sliceEnd_moves
    | intro _)

theorem Boot_sliceTimeout_moves {W : Part → Prop} {s₀ s : State} (h0 : W .qdr) (h1 : W (.fld F.BST_INT_CAUSE_DONE)) (h2 : W (.fld F.BST_INT_CAUSE_FAIL)) (h3 : W (.fld F.BST_INT_CAUSE_REFUSED)) (h4 : W (.fld F.BST_INT_CAUSE_SAFE)) (h5 : W (.fld F.BST_RESULT_DETAIL)) (h6 : W (.fld F.BST_RESULT_ELAPSED)) (h7 : W (.fld F.BST_RESULT_RESULT)) (h8 : W (.fld F.BST_STAT_BUSY)) (h9 : W (.fld F.BST_STAT_CUR)) (h10 : W (.fld F.BST_STAT_SAFE)) (h11 : W (.fld F.BST_STAT_SAFE_BY)) (h12 : W (.fld F.CAL_DEFERRED_VAL)) (h13 : W (.fld F.CAL_STAT_STATE)) (h14 : W (.fld F.CAL_STAT_TYPE)) (h15 : W (.fld F.ENG_STAT_FAULTED)) (h16 : W (.fld F.ENG_STAT_RUNNING)) (h17 : W (.fld F.ENG_STAT_TAGS_USED)) (h18 : W (.fld F.ENG_TAG_ALLOC)) (h19 : W (.fld F.ENG_TAG_AUTO)) (h20 : W (.fld F.ENG_THR_STAT_CAUSE)) (h21 : W (.fld F.ENG_THR_STAT_PC)) (h22 : W (.fld F.ENG_THR_STAT_STATE)) (h23 : W (.fld F.HKA_STAT_CAL_HOLD)) (h24 : W (.fld F.HKA_STAT_INJ_PEND)) (h25 : W (.fld F.HKA_STAT_STATE)) (h26 : W (.fld F.LSR_STAT_HOLD)) (h27 : W (.fld F.LSR_STAT_LASER_EN)) (h28 : W (.fld F.LTX_STAT_MUTE_SRC)) (h29 : W (.fld F.SE_IMG_STAT_TRIAL_LEFT)) (h30 : W (.fld F.SYS_INT_CAUSE_BOOT_DONE)) (h31 : W (.fld F.SYS_INT_CAUSE_ROLE_LIMIT)) (h32 : W (.fld F.SYS_STAT_HOST_OPEN)) (h33 : W (.fld F.SYS_STAT_PHASE)) (h34 : W (.fld H.BST_TODO)) (h35 : W (.fld H.BST_WAITING)) (h36 : W (.fld H.CAL_AUTO_PEND)) (h37 : W (.fld H.CAL_HOST)) (h38 : W (.fld H.CAL_PASSED)) (h39 : W (.fld H.CAL_T0)) (h40 : W (.fld H.CAL_TEMP0)) (h41 : W (.fld H.ENG_DMEM)) (h42 : W (.fld H.ENG_IMEM)) (h43 : W (.fld H.ENG_JRNL)) (h44 : W (.fld H.ENG_PAST)) (h45 : W (.fld H.HKA_CAL_WAIT)) (h46 : W (.fld H.HKA_CUR)) (h47 : W (.fld H.HKA_RUN)) (h48 : W (.fld H.HKA_SEQ_STATE)) (h49 : W (.fld H.HKA_TICKS)) (h50 : W (.fld H.LTX_OUTPUT)) (h : Moves W s₀ s) :
    Moves W s₀ (Sys2Proof.Machine.Boot.sliceTimeout s) := by
  unfold Sys2Proof.Machine.Boot.sliceTimeout
  repeat' (first
    | with_reducible assumption
    | with_reducible apply Boot_slicesDone_moves
    | with_reducible apply Bst_sliceTimeout_moves
    | intro _)

theorem Boot_bistAbort_moves {W : Part → Prop} {s₀ s : State} (h0 : W .qdr) (h1 : W (.fld F.BST_INT_CAUSE_DONE)) (h2 : W (.fld F.BST_RESULT_RESULT)) (h3 : W (.fld F.BST_STAT_BUSY)) (h4 : W (.fld F.CAL_DEFERRED_VAL)) (h5 : W (.fld F.CAL_STAT_STATE)) (h6 : W (.fld F.CAL_STAT_TYPE)) (h7 : W (.fld F.ENG_STAT_FAULTED)) (h8 : W (.fld F.ENG_STAT_RUNNING)) (h9 : W (.fld F.ENG_STAT_TAGS_USED)) (h10 : W (.fld F.ENG_TAG_ALLOC)) (h11 : W (.fld F.ENG_TAG_AUTO)) (h12 : W (.fld F.ENG_THR_STAT_CAUSE)) (h13 : W (.fld F.ENG_THR_STAT_PC)) (h14 : W (.fld F.ENG_THR_STAT_STATE)) (h15 : W (.fld F.HKA_STAT_CAL_HOLD)) (h16 : W (.fld F.HKA_STAT_INJ_PEND)) (h17 : W (.fld F.HKA_STAT_STATE)) (h18 : W (.fld F.SE_IMG_STAT_TRIAL_LEFT)) (h19 : W (.fld F.SYS_INT_CAUSE_BOOT_DONE)) (h20 : W (.fld F.SYS_INT_CAUSE_ROLE_LIMIT)) (h21 : W (.fld F.SYS_STAT_HOST_OPEN)) (h22 : W (.fld F.SYS_STAT_PHASE)) (h23 : W (.fld H.BST_TODO)) (h24 : W (.fld H.BST_WAITING)) (h25 : W (.fld H.CAL_AUTO_PEND)) (h26 : W (.fld H.CAL_HOST)) (h27 : W (.fld H.CAL_PASSED)) (h28 : W (.fld H.CAL_T0)) (h29 : W (.fld H.CAL_TEMP0)) (h30 : W (.fld H.ENG_DMEM)) (h31 : W (.fld H.ENG_IMEM)) (h32 : W (.fld H.ENG_JRNL)) (h33 : W (.fld H.ENG_PAST)) (h34 : W (.fld H.HKA_CAL_WAIT)) (h35 : W (.fld H.HKA_CUR)) (h36 : W (.fld H.HKA_RUN)) (h37 : W (.fld H.HKA_SEQ_STATE)) (h38 : W (.fld H.HKA_TICKS)) (h : Moves W s₀ s) :
    Moves W s₀ (Sys2Proof.Machine.Boot.bistAbort s) := by
  unfold Sys2Proof.Machine.Boot.bistAbort
  repeat' (first
    | with_reducible assumption
    | with_reducible apply Boot_slicesDone_moves
    | with_reducible apply Bst_abort_moves
    | intro _)

end Sys2Proof.Laws
end

