-- ==== Sys2Proof/Laws/MovesExecCal.lean ====
section
/-! SUPPORT. Sys2Proof/Laws/MovesExecCal.lean: what each command of Machine/ExecCal.lean may write (Laws/Moves.lean). -/
namespace Sys2Proof.Laws
open Sys2Proof Sys2Proof.Machine

theorem execGoFull_moves {W : Part → Prop} {s t : State} (h0 : W .held) (h1 : W .msix) (h2 : W .qdr) (h3 : W (.fld F.CAL_DEFERRED_VAL)) (h4 : W (.fld F.CAL_INT_CAUSE_BUSY)) (h5 : W (.fld F.CAL_STAT_STATE)) (h6 : W (.fld F.CAL_STAT_TYPE)) (h7 : W (.fld F.HKA_STAT_CAL_HOLD)) (h8 : W (.fld F.HKA_STAT_INJ_PEND)) (h9 : W (.fld F.HKA_STAT_STATE)) (h10 : W (.fld F.PEER_INT_CAUSE_MIRRORED)) (h11 : W (.fld F.PMC_INT_CAUSE_OVF)) (h12 : W (.fld F.PMC_INT_CAUSE_SMP_AVAIL)) (h13 : W (.fld F.PMC_INT_CAUSE_SMP_DROP)) (h14 : W (.fld F.PMC_OVF_STAT_OVF)) (h15 : W (.fld F.PMC_SMP_DROP_RING)) (h16 : W (.fld F.PMC_SMP_STAT_COUNT)) (h17 : W (.fld H.CAL_HOST)) (h18 : W (.fld H.CAL_PASSED)) (h19 : W (.fld H.CAL_T0)) (h20 : W (.fld H.CAL_TEMP0)) (h21 : W (.fld H.HKA_CAL_WAIT)) (h22 : W (.fld H.HKA_CUR)) (h23 : W (.fld H.HKA_RUN)) (h24 : W (.fld H.HKA_SEQ_STATE)) (h25 : W (.fld H.HKA_TICKS)) (h26 : W (.fld H.PMC_CNT)) (h27 : W (.fld H.PMC_OVF_DUE)) (h28 : W (.fld H.PMC_OVF_T)) (h29 : W (.fld H.PMC_RING)) (h30 : W (.fld H.PMC_TRACE_POS)) (h : execGoFull s = .next t) :
    Moves W s t := by
  unfold execGoFull at h
  refine done_moves (by assumption) ?_ h
  repeat' (first
    | with_reducible assumption
    | with_reducible exact .refl
    | (with_reducible refine Bus_row_other (by assumption) (by assumption) (by assumption) (by assumption) (by assumption) (by assumption) (by assumption) (by assumption) (by assumption) (by assumption) (by assumption) (by assumption) (by assumption) (by assumption) _ _ _ _ _ (by decide) ?_ ?_)
    | with_reducible apply Cal_go_moves
    | intro _)

theorem execGoTrack_moves {W : Part → Prop} {s t : State} (h0 : W .held) (h1 : W .msix) (h2 : W .qdr) (h3 : W (.fld F.CAL_DEFERRED_VAL)) (h4 : W (.fld F.CAL_INT_CAUSE_BUSY)) (h5 : W (.fld F.CAL_STAT_STATE)) (h6 : W (.fld F.CAL_STAT_TYPE)) (h7 : W (.fld F.HKA_STAT_CAL_HOLD)) (h8 : W (.fld F.HKA_STAT_INJ_PEND)) (h9 : W (.fld F.HKA_STAT_STATE)) (h10 : W (.fld F.PEER_INT_CAUSE_MIRRORED)) (h11 : W (.fld F.PMC_INT_CAUSE_OVF)) (h12 : W (.fld F.PMC_INT_CAUSE_SMP_AVAIL)) (h13 : W (.fld F.PMC_INT_CAUSE_SMP_DROP)) (h14 : W (.fld F.PMC_OVF_STAT_OVF)) (h15 : W (.fld F.PMC_SMP_DROP_RING)) (h16 : W (.fld F.PMC_SMP_STAT_COUNT)) (h17 : W (.fld H.CAL_HOST)) (h18 : W (.fld H.CAL_PASSED)) (h19 : W (.fld H.CAL_T0)) (h20 : W (.fld H.CAL_TEMP0)) (h21 : W (.fld H.HKA_CAL_WAIT)) (h22 : W (.fld H.HKA_CUR)) (h23 : W (.fld H.HKA_RUN)) (h24 : W (.fld H.HKA_SEQ_STATE)) (h25 : W (.fld H.HKA_TICKS)) (h26 : W (.fld H.PMC_CNT)) (h27 : W (.fld H.PMC_OVF_DUE)) (h28 : W (.fld H.PMC_OVF_T)) (h29 : W (.fld H.PMC_RING)) (h30 : W (.fld H.PMC_TRACE_POS)) (h : execGoTrack s = .next t) :
    Moves W s t := by
  unfold execGoTrack at h
  refine done_moves (by assumption) ?_ h
  repeat' (first
    | with_reducible assumption
    | with_reducible exact .refl
    | (with_reducible refine Bus_row_other (by assumption) (by assumption) (by assumption) (by assumption) (by assumption) (by assumption) (by assumption) (by assumption) (by assumption) (by assumption) (by assumption) (by assumption) (by assumption) (by assumption) _ _ _ _ _ (by decide) ?_ ?_)
    | with_reducible apply Cal_go_moves
    | intro _)

theorem execCalRetryExpiry_moves {W : Part → Prop} {s t : State} (h0 : W .msix) (h1 : W (.fld H.CAL_RETRY)) (h : execCalRetryExpiry s = .next t) :
    Moves W s t := by
  unfold execCalRetryExpiry at h
  refine done_moves (by assumption) ?_ h
  repeat' (first
    | with_reducible assumption
    | with_reducible exact .refl
    | with_reducible apply Cal_retryExpiry_moves
    | intro _)

theorem execCalAbort_moves {W : Part → Prop} {s t : State} (h0 : W .held) (h1 : W .msix) (h2 : W .qdr) (h3 : W (.fld F.CAL_INT_CAUSE_ABORTED)) (h4 : W (.fld F.CAL_STAT_STATE)) (h5 : W (.fld F.HKA_STAT_CAL_HOLD)) (h6 : W (.fld F.HKA_STAT_INJ_PEND)) (h7 : W (.fld F.HKA_STAT_STATE)) (h8 : W (.fld F.PEER_INT_CAUSE_MIRRORED)) (h9 : W (.fld F.PMC_INT_CAUSE_OVF)) (h10 : W (.fld F.PMC_INT_CAUSE_SMP_AVAIL)) (h11 : W (.fld F.PMC_INT_CAUSE_SMP_DROP)) (h12 : W (.fld F.PMC_OVF_STAT_OVF)) (h13 : W (.fld F.PMC_SMP_DROP_RING)) (h14 : W (.fld F.PMC_SMP_STAT_COUNT)) (h15 : W (.fld H.BST_WAITING)) (h16 : W (.fld H.CAL_RETRY)) (h17 : W (.fld H.HKA_CAL_WAIT)) (h18 : W (.fld H.HKA_CUR)) (h19 : W (.fld H.HKA_RUN)) (h20 : W (.fld H.HKA_SEQ_STATE)) (h21 : W (.fld H.HKA_TICKS)) (h22 : W (.fld H.PMC_CNT)) (h23 : W (.fld H.PMC_OVF_DUE)) (h24 : W (.fld H.PMC_OVF_T)) (h25 : W (.fld H.PMC_RING)) (h26 : W (.fld H.PMC_TRACE_POS)) (h : execCalAbort s = .next t) :
    Moves W s t := by
  unfold execCalAbort at h
  refine done_moves (by assumption) ?_ h
  repeat' (first
    | with_reducible assumption
    | with_reducible exact .refl
    | (with_reducible refine Bus_row_other (by assumption) (by assumption) (by assumption) (by assumption) (by assumption) (by assumption) (by assumption) (by assumption) (by assumption) (by assumption) (by assumption) (by assumption) (by assumption) (by assumption) _ _ _ _ _ (by decide) ?_ ?_)
    | with_reducible apply Bst_unwait_moves
    | with_reducible apply Cal_abort_moves
    | intro _)

theorem execSineCheck_moves {W : Part → Prop} {s t : State} (h0 : W .msix) (h1 : W (.fld F.CAL_INT_CAUSE_NOREF)) (h2 : W (.fld F.CAL_STAT_STATE)) (h3 : W (.fld F.HKA_STAT_CAL_HOLD)) (h4 : W (.fld F.HKA_STAT_INJ_PEND)) (h5 : W (.fld F.HKA_STAT_STATE)) (h6 : W (.fld H.BST_WAITING)) (h7 : W (.fld H.CAL_RETRY)) (h8 : W (.fld H.HKA_CAL_WAIT)) (h9 : W (.fld H.HKA_CUR)) (h10 : W (.fld H.HKA_RUN)) (h11 : W (.fld H.HKA_SEQ_STATE)) (h12 : W (.fld H.HKA_TICKS)) (a0 : Nat) (h : execSineCheck a0 s = .next t) :
    Moves W s t := by
  unfold execSineCheck at h
  refine done_moves (by assumption) ?_ h
  repeat' (first
    | with_reducible assumption
    | with_reducible exact .refl
    | with_reducible apply Bst_unwait_moves
    | with_reducible apply Cal_sine_moves
    | intro _)

theorem execCalPassEnd_moves {W : Part → Prop} {s t : State} (h0 : W .msix) (h1 : W (.fld F.CAL_STAT_STATE)) (h2 : W (.fld H.CAL_PASSED)) (h : execCalPassEnd s = .next t) :
    Moves W s t := by
  unfold execCalPassEnd at h
  refine done_moves (by assumption) ?_ h
  repeat' (first
    | with_reducible assumption
    | with_reducible exact .refl
    | with_reducible apply Cal_passEnd_moves
    | intro _)

theorem execCalRunEnd_moves {W : Part → Prop} {s t : State} (h0 : W .flash) (h1 : W .msix) (h2 : W (.fld F.CAL_ADC_STAT_SHORT)) (h3 : W (.fld F.CAL_ADC_STAT_SPARES_FREE)) (h4 : W (.fld F.CAL_ADC_STAT_WORST_GAIN)) (h5 : W (.fld F.CAL_ADC_STAT_WORST_OFS)) (h6 : W (.fld F.CAL_ADC_STAT_WORST_SKEW)) (h7 : W (.fld F.CAL_COUNT_VAL)) (h8 : W (.fld F.CAL_DAC_STAT_SHORT)) (h9 : W (.fld F.CAL_DAC_STAT_SPARES_FREE)) (h10 : W (.fld F.CAL_DAC_STAT_WORST_GAIN)) (h11 : W (.fld F.CAL_DAC_STAT_WORST_OFS)) (h12 : W (.fld F.CAL_DIS_STAT_DAC)) (h13 : W (.fld F.CAL_DIS_STAT_DIFF)) (h14 : W (.fld F.CAL_DIS_STAT_ELEM)) (h15 : W (.fld F.CAL_DIS_STAT_P)) (h16 : W (.fld F.CAL_DIS_STAT_QTY)) (h17 : W (.fld F.CAL_INT_CAUSE_CAL_DISAGREE)) (h18 : W (.fld F.CAL_INT_CAUSE_DONE)) (h19 : W (.fld F.CAL_INT_CAUSE_REPAIR)) (h20 : W (.fld F.CAL_LAST_TEMP_VAL)) (h21 : W (.fld F.CAL_LAST_TIME_VAL)) (h22 : W (.fld F.CAL_STAT_FLASH_BUSY)) (h23 : W (.fld F.CAL_STAT_SOURCE)) (h24 : W (.fld F.CAL_STAT_STATE)) (h25 : W (.fld F.CAL_STAT_VALID)) (h26 : W (.fld F.CVT_ADC_STAT_READY)) (h27 : W (.fld F.CVT_DAC_STAT_READY)) (h28 : W (.fld F.HKA_STAT_CAL_HOLD)) (h29 : W (.fld F.HKA_STAT_INJ_PEND)) (h30 : W (.fld F.HKA_STAT_STATE)) (h31 : W (.fld H.BST_WAITING)) (h32 : W (.fld H.CAL_ADC_SEL)) (h33 : W (.fld H.CAL_ADC_TRIM)) (h34 : W (.fld H.CAL_DAC_SEL)) (h35 : W (.fld H.CAL_DAC_TRIM)) (h36 : W (.fld H.CAL_RETRY)) (h37 : W (.fld H.HKA_CAL_WAIT)) (h38 : W (.fld H.HKA_CUR)) (h39 : W (.fld H.HKA_RUN)) (h40 : W (.fld H.HKA_SEQ_STATE)) (h41 : W (.fld H.HKA_TICKS)) (a0 : List (List Sys2Proof.SubSlice)) (a1 : List Sys2Proof.DacLane) (h : execCalRunEnd a0 a1 s = .next t) :
    Moves W s t := by
  unfold execCalRunEnd at h
  refine done_moves (by assumption) ?_ h
  repeat' (first
    | with_reducible assumption
    | with_reducible exact .refl
    | with_reducible apply Bst_unwait_moves
    | with_reducible apply Cal_runEnd_moves
    | intro _)

theorem execCalFlashDone_moves {W : Part → Prop} {s t : State} (h0 : W .flash) (h1 : W .msix) (h2 : W (.fld F.CAL_INT_CAUSE_FLASH_ERR)) (h3 : W (.fld F.CAL_STAT_FLASH_BUSY)) (h4 : W (.fld F.CAL_STAT_STATE)) (h5 : W (.fld H.BST_WAITING)) (a0 : Bool) (h : execCalFlashDone a0 s = .next t) :
    Moves W s t := by
  unfold execCalFlashDone at h
  refine done_moves (by assumption) ?_ h
  repeat' (first
    | with_reducible assumption
    | with_reducible exact .refl
    | with_reducible apply Bst_unwait_moves
    | with_reducible apply Cal_flashDone_moves
    | intro _)

theorem execBistGo_moves {W : Part → Prop} {s t : State} (h0 : W .held) (h1 : W .msix) (h2 : W .qdr) (h3 : W (.fld F.BST_CTRL_MASK)) (h4 : W (.fld F.BST_CTRL_OVERRIDE)) (h5 : W (.fld F.BST_INT_CAUSE_DONE)) (h6 : W (.fld F.BST_INT_CAUSE_REFUSED)) (h7 : W (.fld F.BST_INT_CAUSE_SAFE)) (h8 : W (.fld F.BST_RESULT_RESULT)) (h9 : W (.fld F.BST_STAT_BUSY)) (h10 : W (.fld F.BST_STAT_CUR)) (h11 : W (.fld F.BST_STAT_SAFE)) (h12 : W (.fld F.CAL_DEFERRED_VAL)) (h13 : W (.fld F.CAL_STAT_STATE)) (h14 : W (.fld F.CAL_STAT_TYPE)) (h15 : W (.fld F.HKA_STAT_CAL_HOLD)) (h16 : W (.fld F.HKA_STAT_INJ_PEND)) (h17 : W (.fld F.HKA_STAT_STATE)) (h18 : W (.fld F.LSR_STAT_HOLD)) (h19 : W (.fld F.LSR_STAT_LASER_EN)) (h20 : W (.fld F.LTX_STAT_MUTE_SRC)) (h21 : W (.fld F.PEER_INT_CAUSE_MIRRORED)) (h22 : W (.fld F.PMC_INT_CAUSE_OVF)) (h23 : W (.fld F.PMC_INT_CAUSE_SMP_AVAIL)) (h24 : W (.fld F.PMC_INT_CAUSE_SMP_DROP)) (h25 : W (.fld F.PMC_OVF_STAT_OVF)) (h26 : W (.fld F.PMC_SMP_DROP_RING)) (h27 : W (.fld F.PMC_SMP_STAT_COUNT)) (h28 : W (.fld H.BST_TODO)) (h29 : W (.fld H.BST_WAITING)) (h30 : W (.fld H.CAL_AUTO_PEND)) (h31 : W (.fld H.CAL_HOST)) (h32 : W (.fld H.CAL_PASSED)) (h33 : W (.fld H.CAL_T0)) (h34 : W (.fld H.CAL_TEMP0)) (h35 : W (.fld H.ENG_DMEM)) (h36 : W (.fld H.ENG_IMEM)) (h37 : W (.fld H.HKA_CAL_WAIT)) (h38 : W (.fld H.HKA_CUR)) (h39 : W (.fld H.HKA_RUN)) (h40 : W (.fld H.HKA_SEQ_STATE)) (h41 : W (.fld H.HKA_TICKS)) (h42 : W (.fld H.LTX_OUTPUT)) (h43 : W (.fld H.PMC_CNT)) (h44 : W (.fld H.PMC_OVF_DUE)) (h45 : W (.fld H.PMC_OVF_T)) (h46 : W (.fld H.PMC_RING)) (h47 : W (.fld H.PMC_TRACE_POS)) (a0 : Nat) (h : execBistGo a0 s = .next t) :
    Moves W s t := by
  unfold execBistGo at h
  refine done_moves (by assumption) ?_ h
  repeat' (first
    | with_reducible assumption
    | with_reducible exact .refl
    | (with_reducible refine Bus_row_other (by assumption) (by assumption) (by assumption) (by assumption) (by assumption) (by assumption) (by assumption) (by assumption) (by assumption) (by assumption) (by assumption) (by assumption) (by assumption) (by assumption) _ _ _ _ _ (by decide) ?_ ?_)
    | with_reducible apply Bst_writeCtrl_moves
    | intro _)

theorem execBistAbort_moves {W : Part → Prop} {s t : State} (h0 : W .held) (h1 : W .msix) (h2 : W .qdr) (h3 : W (.fld F.BST_INT_CAUSE_DONE)) (h4 : W (.fld F.BST_RESULT_RESULT)) (h5 : W (.fld F.BST_STAT_BUSY)) (h6 : W (.fld F.CAL_DEFERRED_VAL)) (h7 : W (.fld F.CAL_STAT_STATE)) (h8 : W (.fld F.CAL_STAT_TYPE)) (h9 : W (.fld F.ENG_STAT_FAULTED)) (h10 : W (.fld F.ENG_STAT_RUNNING)) (h11 : W (.fld F.ENG_STAT_TAGS_USED)) (h12 : W (.fld F.ENG_TAG_ALLOC)) (h13 : W (.fld F.ENG_TAG_AUTO)) (h14 : W (.fld F.ENG_THR_STAT_CAUSE)) (h15 : W (.fld F.ENG_THR_STAT_PC)) (h16 : W (.fld F.ENG_THR_STAT_STATE)) (h17 : W (.fld F.HKA_STAT_CAL_HOLD)) (h18 : W (.fld F.HKA_STAT_INJ_PEND)) (h19 : W (.fld F.HKA_STAT_STATE)) (h20 : W (.fld F.PEER_INT_CAUSE_MIRRORED)) (h21 : W (.fld F.PMC_INT_CAUSE_OVF)) (h22 : W (.fld F.PMC_INT_CAUSE_SMP_AVAIL)) (h23 : W (.fld F.PMC_INT_CAUSE_SMP_DROP)) (h24 : W (.fld F.PMC_OVF_STAT_OVF)) (h25 : W (.fld F.PMC_SMP_DROP_RING)) (h26 : W (.fld F.PMC_SMP_STAT_COUNT)) (h27 : W (.fld F.SE_IMG_STAT_TRIAL_LEFT)) (h28 : W (.fld F.SYS_INT_CAUSE_BOOT_DONE)) (h29 : W (.fld F.SYS_INT_CAUSE_ROLE_LIMIT)) (h30 : W (.fld F.SYS_STAT_HOST_OPEN)) (h31 : W (.fld F.SYS_STAT_PHASE)) (h32 : W (.fld H.BST_TODO)) (h33 : W (.fld H.BST_WAITING)) (h34 : W (.fld H.CAL_AUTO_PEND)) (h35 : W (.fld H.CAL_HOST)) (h36 : W (.fld H.CAL_PASSED)) (h37 : W (.fld H.CAL_T0)) (h38 : W (.fld H.CAL_TEMP0)) (h39 : W (.fld H.ENG_DMEM)) (h40 : W (.fld H.ENG_IMEM)) (h41 : W (.fld H.ENG_JRNL)) (h42 : W (.fld H.ENG_PAST)) (h43 : W (.fld H.HKA_CAL_WAIT)) (h44 : W (.fld H.HKA_CUR)) (h45 : W (.fld H.HKA_RUN)) (h46 : W (.fld H.HKA_SEQ_STATE)) (h47 : W (.fld H.HKA_TICKS)) (h48 : W (.fld H.PMC_CNT)) (h49 : W (.fld H.PMC_OVF_DUE)) (h50 : W (.fld H.PMC_OVF_T)) (h51 : W (.fld H.PMC_RING)) (h52 : W (.fld H.PMC_TRACE_POS)) (h : execBistAbort s = .next t) :
    Moves W s t := by
  unfold execBistAbort at h
  refine done_moves (by assumption) ?_ h
  repeat' (first
    | with_reducible assumption
    | with_reducible exact .refl
    | (with_reducible refine Bus_row_other (by assumption) (by assumption) (by assumption) (by assumption) (by assumption) (by assumption) (by assumption) (by assumption) (by assumption) (by assumption) (by assumption) (by assumption) (by assumption) (by assumption) _ _ _ _ _ (by decide) ?_ ?_)
    | with_reducible apply Boot_bistAbort_moves
    | intro _)

theorem execSliceEnd_moves {W : Part → Prop} {s t : State} (h0 : W .msix) (h1 : W .qdr) (h2 : W (.fld F.BST_INT_CAUSE_DONE)) (h3 : W (.fld F.BST_INT_CAUSE_FAIL)) (h4 : W (.fld F.BST_INT_CAUSE_REFUSED)) (h5 : W (.fld F.BST_INT_CAUSE_SAFE)) (h6 : W (.fld F.BST_RESULT_DETAIL)) (h7 : W (.fld F.BST_RESULT_ELAPSED)) (h8 : W (.fld F.BST_RESULT_RESULT)) (h9 : W (.fld F.BST_STAT_BUSY)) (h10 : W (.fld F.BST_STAT_CUR)) (h11 : W (.fld F.BST_STAT_SAFE)) (h12 : W (.fld F.BST_STAT_SAFE_BY)) (h13 : W (.fld F.CAL_DEFERRED_VAL)) (h14 : W (.fld F.CAL_STAT_STATE)) (h15 : W (.fld F.CAL_STAT_TYPE)) (h16 : W (.fld F.ENG_STAT_FAULTED)) (h17 : W (.fld F.ENG_STAT_RUNNING)) (h18 : W (.fld F.ENG_STAT_TAGS_USED)) (h19 : W (.fld F.ENG_TAG_ALLOC)) (h20 : W (.fld F.ENG_TAG_AUTO)) (h21 : W (.fld F.ENG_THR_STAT_CAUSE)) (h22 : W (.fld F.ENG_THR_STAT_PC)) (h23 : W (.fld F.ENG_THR_STAT_STATE)) (h24 : W (.fld F.HKA_STAT_CAL_HOLD)) (h25 : W (.fld F.HKA_STAT_INJ_PEND)) (h26 : W (.fld F.HKA_STAT_STATE)) (h27 : W (.fld F.LSR_STAT_HOLD)) (h28 : W (.fld F.LSR_STAT_LASER_EN)) (h29 : W (.fld F.LTX_STAT_MUTE_SRC)) (h30 : W (.fld F.SE_IMG_STAT_TRIAL_LEFT)) (h31 : W (.fld F.SYS_INT_CAUSE_BOOT_DONE)) (h32 : W (.fld F.SYS_INT_CAUSE_ROLE_LIMIT)) (h33 : W (.fld F.SYS_STAT_HOST_OPEN)) (h34 : W (.fld F.SYS_STAT_PHASE)) (h35 : W (.fld H.BST_TODO)) (h36 : W (.fld H.BST_WAITING)) (h37 : W (.fld H.CAL_AUTO_PEND)) (h38 : W (.fld H.CAL_HOST)) (h39 : W (.fld H.CAL_PASSED)) (h40 : W (.fld H.CAL_T0)) (h41 : W (.fld H.CAL_TEMP0)) (h42 : W (.fld H.ENG_DMEM)) (h43 : W (.fld H.ENG_IMEM)) (h44 : W (.fld H.ENG_JRNL)) (h45 : W (.fld H.ENG_PAST)) (h46 : W (.fld H.HKA_CAL_WAIT)) (h47 : W (.fld H.HKA_CUR)) (h48 : W (.fld H.HKA_RUN)) (h49 : W (.fld H.HKA_SEQ_STATE)) (h50 : W (.fld H.HKA_TICKS)) (h51 : W (.fld H.LTX_OUTPUT)) (a0 : Nat) (a1 : Nat) (a2 : Nat) (h : execSliceEnd a0 a1 a2 s = .next t) :
    Moves W s t := by
  unfold execSliceEnd at h
  refine done_moves (by assumption) ?_ h
  repeat' (first
    | with_reducible assumption
    | with_reducible exact .refl
    | with_reducible apply Boot_sliceEnd_moves
    | intro _)

theorem execSliceTimeout_moves {W : Part → Prop} {s t : State} (h0 : W .msix) (h1 : W .qdr) (h2 : W (.fld F.BST_INT_CAUSE_DONE)) (h3 : W (.fld F.BST_INT_CAUSE_FAIL)) (h4 : W (.fld F.BST_INT_CAUSE_REFUSED)) (h5 : W (.fld F.BST_INT_CAUSE_SAFE)) (h6 : W (.fld F.BST_RESULT_DETAIL)) (h7 : W (.fld F.BST_RESULT_ELAPSED)) (h8 : W (.fld F.BST_RESULT_RESULT)) (h9 : W (.fld F.BST_STAT_BUSY)) (h10 : W (.fld F.BST_STAT_CUR)) (h11 : W (.fld F.BST_STAT_SAFE)) (h12 : W (.fld F.BST_STAT_SAFE_BY)) (h13 : W (.fld F.CAL_DEFERRED_VAL)) (h14 : W (.fld F.CAL_STAT_STATE)) (h15 : W (.fld F.CAL_STAT_TYPE)) (h16 : W (.fld F.ENG_STAT_FAULTED)) (h17 : W (.fld F.ENG_STAT_RUNNING)) (h18 : W (.fld F.ENG_STAT_TAGS_USED)) (h19 : W (.fld F.ENG_TAG_ALLOC)) (h20 : W (.fld F.ENG_TAG_AUTO)) (h21 : W (.fld F.ENG_THR_STAT_CAUSE)) (h22 : W (.fld F.ENG_THR_STAT_PC)) (h23 : W (.fld F.ENG_THR_STAT_STATE)) (h24 : W (.fld F.HKA_STAT_CAL_HOLD)) (h25 : W (.fld F.HKA_STAT_INJ_PEND)) (h26 : W (.fld F.HKA_STAT_STATE)) (h27 : W (.fld F.LSR_STAT_HOLD)) (h28 : W (.fld F.LSR_STAT_LASER_EN)) (h29 : W (.fld F.LTX_STAT_MUTE_SRC)) (h30 : W (.fld F.SE_IMG_STAT_TRIAL_LEFT)) (h31 : W (.fld F.SYS_INT_CAUSE_BOOT_DONE)) (h32 : W (.fld F.SYS_INT_CAUSE_ROLE_LIMIT)) (h33 : W (.fld F.SYS_STAT_HOST_OPEN)) (h34 : W (.fld F.SYS_STAT_PHASE)) (h35 : W (.fld H.BST_TODO)) (h36 : W (.fld H.BST_WAITING)) (h37 : W (.fld H.CAL_AUTO_PEND)) (h38 : W (.fld H.CAL_HOST)) (h39 : W (.fld H.CAL_PASSED)) (h40 : W (.fld H.CAL_T0)) (h41 : W (.fld H.CAL_TEMP0)) (h42 : W (.fld H.ENG_DMEM)) (h43 : W (.fld H.ENG_IMEM)) (h44 : W (.fld H.ENG_JRNL)) (h45 : W (.fld H.ENG_PAST)) (h46 : W (.fld H.HKA_CAL_WAIT)) (h47 : W (.fld H.HKA_CUR)) (h48 : W (.fld H.HKA_RUN)) (h49 : W (.fld H.HKA_SEQ_STATE)) (h50 : W (.fld H.HKA_TICKS)) (h51 : W (.fld H.LTX_OUTPUT)) (h : execSliceTimeout s = .next t) :
    Moves W s t := by
  unfold execSliceTimeout at h
  refine done_moves (by assumption) ?_ h
  repeat' (first
    | with_reducible assumption
    | with_reducible exact .refl
    | with_reducible apply Boot_sliceTimeout_moves
    | intro _)

theorem execOverride_moves {W : Part → Prop} {s t : State} (h0 : W .held) (h1 : W .msix) (h2 : W .qdr) (h3 : W (.fld F.BST_CTRL_OVERRIDE)) (h4 : W (.fld F.BST_INT_CAUSE_SAFE)) (h5 : W (.fld F.BST_STAT_SAFE)) (h6 : W (.fld F.LSR_STAT_HOLD)) (h7 : W (.fld F.LSR_STAT_LASER_EN)) (h8 : W (.fld F.LTX_STAT_MUTE_SRC)) (h9 : W (.fld F.PEER_INT_CAUSE_MIRRORED)) (h10 : W (.fld F.PMC_INT_CAUSE_OVF)) (h11 : W (.fld F.PMC_INT_CAUSE_SMP_AVAIL)) (h12 : W (.fld F.PMC_INT_CAUSE_SMP_DROP)) (h13 : W (.fld F.PMC_OVF_STAT_OVF)) (h14 : W (.fld F.PMC_SMP_DROP_RING)) (h15 : W (.fld F.PMC_SMP_STAT_COUNT)) (h16 : W (.fld H.LTX_OUTPUT)) (h17 : W (.fld H.PMC_CNT)) (h18 : W (.fld H.PMC_OVF_DUE)) (h19 : W (.fld H.PMC_OVF_T)) (h20 : W (.fld H.PMC_RING)) (h21 : W (.fld H.PMC_TRACE_POS)) (a0 : Nat) (h : execOverride a0 s = .next t) :
    Moves W s t := by
  unfold execOverride at h
  refine done_moves (by assumption) ?_ h
  repeat' (first
    | with_reducible assumption
    | with_reducible exact .refl
    | (with_reducible refine Bus_row_other (by assumption) (by assumption) (by assumption) (by assumption) (by assumption) (by assumption) (by assumption) (by assumption) (by assumption) (by assumption) (by assumption) (by assumption) (by assumption) (by assumption) _ _ _ _ _ (by decide) ?_ ?_)
    | with_reducible apply Bst_override_moves
    | intro _)

theorem execLcmTransition_moves {W : Part → Prop} {s t : State} (h0 : W .held) (h1 : W .msix) (h2 : W .qdr) (h3 : W (.fld F.LCM_CHALLENGE_VAL)) (h4 : W (.fld F.LCM_INT_CAUSE_REFUSED)) (h5 : W (.fld F.LCM_STAT_BUSY)) (h6 : W (.fld F.LCM_STAT_ERR)) (h7 : W (.fld F.PEER_INT_CAUSE_MIRRORED)) (h8 : W (.fld F.PMC_INT_CAUSE_OVF)) (h9 : W (.fld F.PMC_INT_CAUSE_SMP_AVAIL)) (h10 : W (.fld F.PMC_INT_CAUSE_SMP_DROP)) (h11 : W (.fld F.PMC_OVF_STAT_OVF)) (h12 : W (.fld F.PMC_SMP_DROP_RING)) (h13 : W (.fld F.PMC_SMP_STAT_COUNT)) (h14 : W (.fld H.LCM_CHAL_AGE)) (h15 : W (.fld H.LCM_TARGET)) (h16 : W (.fld H.PMC_CNT)) (h17 : W (.fld H.PMC_OVF_DUE)) (h18 : W (.fld H.PMC_OVF_T)) (h19 : W (.fld H.PMC_RING)) (h20 : W (.fld H.PMC_TRACE_POS)) (a0 : Nat) (a1 : Nat) (h : execLcmTransition a0 a1 s = .next t) :
    Moves W s t := by
  unfold execLcmTransition at h
  refine done_moves (by assumption) ?_ h
  repeat' (first
    | with_reducible assumption
    | with_reducible exact .refl
    | (with_reducible refine Bus_row_other (by assumption) (by assumption) (by assumption) (by assumption) (by assumption) (by assumption) (by assumption) (by assumption) (by assumption) (by assumption) (by assumption) (by assumption) (by assumption) (by assumption) _ _ _ _ _ (by decide) ?_ ?_)
    | with_reducible apply Lcm_transition_moves
    | intro _)

theorem execFuseDone_moves {W : Part → Prop} {s t : State} (hw : ∀ x, W x) (h : execFuseDone s = .next t) :
    Moves W s t := by
  unfold execFuseDone at h
  refine done_moves (hw _) ?_ h
  repeat' (first
    | with_reducible assumption
    | with_reducible exact .refl
    | exact hw _
    | with_reducible apply Reset_imageIf_moves
    | with_reducible apply Lcm_fuseDone_moves
    | intro _)

theorem execKeyCommit_moves {W : Part → Prop} {s t : State} (h0 : W .held) (h1 : W .msix) (h2 : W .qdr) (h3 : W (.fld F.LCM_INT_CAUSE_REFUSED)) (h4 : W (.fld F.LCM_KEY_CTRL_SLOT)) (h5 : W (.fld F.LCM_KEY_STAT_REVOKED)) (h6 : W (.fld F.LCM_KEY_STAT_WRITTEN)) (h7 : W (.fld F.LCM_STAT_ERR)) (h8 : W (.fld F.PEER_INT_CAUSE_MIRRORED)) (h9 : W (.fld F.PMC_INT_CAUSE_OVF)) (h10 : W (.fld F.PMC_INT_CAUSE_SMP_AVAIL)) (h11 : W (.fld F.PMC_INT_CAUSE_SMP_DROP)) (h12 : W (.fld F.PMC_OVF_STAT_OVF)) (h13 : W (.fld F.PMC_SMP_DROP_RING)) (h14 : W (.fld F.PMC_SMP_STAT_COUNT)) (h15 : W (.fld H.LCM_FUSE_HASH)) (h16 : W (.fld H.PMC_CNT)) (h17 : W (.fld H.PMC_OVF_DUE)) (h18 : W (.fld H.PMC_OVF_T)) (h19 : W (.fld H.PMC_RING)) (h20 : W (.fld H.PMC_TRACE_POS)) (a0 : Nat) (h : execKeyCommit a0 s = .next t) :
    Moves W s t := by
  unfold execKeyCommit at h
  refine done_moves (by assumption) ?_ h
  repeat' (first
    | with_reducible assumption
    | with_reducible exact .refl
    | (with_reducible refine Bus_row_other (by assumption) (by assumption) (by assumption) (by assumption) (by assumption) (by assumption) (by assumption) (by assumption) (by assumption) (by assumption) (by assumption) (by assumption) (by assumption) (by assumption) _ _ _ _ _ (by decide) ?_ ?_)
    | with_reducible apply Lcm_writeKeyCtrl_moves
    | intro _)

theorem execKeyRevoke_moves {W : Part → Prop} {s t : State} (h0 : W .held) (h1 : W .msix) (h2 : W .qdr) (h3 : W (.fld F.LCM_INT_CAUSE_REFUSED)) (h4 : W (.fld F.LCM_KEY_CTRL_SLOT)) (h5 : W (.fld F.LCM_KEY_STAT_REVOKED)) (h6 : W (.fld F.LCM_KEY_STAT_WRITTEN)) (h7 : W (.fld F.LCM_STAT_ERR)) (h8 : W (.fld F.PEER_INT_CAUSE_MIRRORED)) (h9 : W (.fld F.PMC_INT_CAUSE_OVF)) (h10 : W (.fld F.PMC_INT_CAUSE_SMP_AVAIL)) (h11 : W (.fld F.PMC_INT_CAUSE_SMP_DROP)) (h12 : W (.fld F.PMC_OVF_STAT_OVF)) (h13 : W (.fld F.PMC_SMP_DROP_RING)) (h14 : W (.fld F.PMC_SMP_STAT_COUNT)) (h15 : W (.fld H.LCM_FUSE_HASH)) (h16 : W (.fld H.PMC_CNT)) (h17 : W (.fld H.PMC_OVF_DUE)) (h18 : W (.fld H.PMC_OVF_T)) (h19 : W (.fld H.PMC_RING)) (h20 : W (.fld H.PMC_TRACE_POS)) (a0 : Nat) (h : execKeyRevoke a0 s = .next t) :
    Moves W s t := by
  unfold execKeyRevoke at h
  refine done_moves (by assumption) ?_ h
  repeat' (first
    | with_reducible assumption
    | with_reducible exact .refl
    | (with_reducible refine Bus_row_other (by assumption) (by assumption) (by assumption) (by assumption) (by assumption) (by assumption) (by assumption) (by assumption) (by assumption) (by assumption) (by assumption) (by assumption) (by assumption) (by assumption) _ _ _ _ _ (by decide) ?_ ?_)
    | with_reducible apply Lcm_writeKeyCtrl_moves
    | intro _)

theorem execChallengeRead_moves {W : Part → Prop} {s t : State} (hw : ∀ x, W x) (a0 : Nat) (h : execChallengeRead a0 s = .next t) :
    Moves W s t := by
  unfold execChallengeRead at h
  refine done_moves (hw _) ?_ h
  repeat' (first
    | with_reducible assumption
    | with_reducible exact .refl
    | exact hw _
    | with_reducible apply Bus_fetch_moves
    | intro _)

end Sys2Proof.Laws
end

