-- ==== Sys2Proof/Laws/MovesExecCry.lean ====
section
/-! SUPPORT. Sys2Proof/Laws/MovesExecCry.lean: what each command of Machine/ExecCry.lean may write (Laws/Moves.lean). -/
namespace Sys2Proof.Laws
open Sys2Proof Sys2Proof.Machine

theorem execCryLockAcquire_moves {W : Part → Prop} {s t : State} (hw : ∀ x, W x) (a0 : Nat) (a1 : Bool) (a2 : List Nat) (h : execCryLockAcquire a0 a1 a2 s = .next t) :
    Moves W s t := by
  unfold execCryLockAcquire at h
  refine done_moves (hw _) ?_ h
  repeat' (first
    | with_reducible assumption
    | with_reducible exact .refl
    | exact hw _
    | with_reducible apply Tick_race_moves
    | with_reducible apply Mbx_cryContend_moves
    | intro _)

theorem execCryLockRelease_moves {W : Part → Prop} {s t : State} (h0 : W .held) (h1 : W .msix) (h2 : W .qdr) (h3 : W (.fld F.CRY_INT_CAUSE_NOT_OWNER)) (h4 : W (.fld F.CRY_KEY_DATA_KEY)) (h5 : W (.fld F.CRY_KEY_SALT_SALT)) (h6 : W (.fld F.CRY_LOCK_STAT_OWNER)) (h7 : W (.fld F.PEER_INT_CAUSE_MIRRORED)) (h8 : W (.fld F.PMC_INT_CAUSE_OVF)) (h9 : W (.fld F.PMC_INT_CAUSE_SMP_AVAIL)) (h10 : W (.fld F.PMC_INT_CAUSE_SMP_DROP)) (h11 : W (.fld F.PMC_OVF_STAT_OVF)) (h12 : W (.fld F.PMC_SMP_DROP_RING)) (h13 : W (.fld F.PMC_SMP_STAT_COUNT)) (h14 : W (.fld H.PMC_CNT)) (h15 : W (.fld H.PMC_OVF_DUE)) (h16 : W (.fld H.PMC_OVF_T)) (h17 : W (.fld H.PMC_RING)) (h18 : W (.fld H.PMC_TRACE_POS)) (a0 : Nat) (a1 : Bool) (h : execCryLockRelease a0 a1 s = .next t) :
    Moves W s t := by
  unfold execCryLockRelease at h
  refine done_moves (by assumption) ?_ h
  repeat' (first
    | with_reducible assumption
    | with_reducible exact .refl
    | (with_reducible refine Bus_row_other (by assumption) (by assumption) (by assumption) (by assumption) (by assumption) (by assumption) (by assumption) (by assumption) (by assumption) (by assumption) (by assumption) (by assumption) (by assumption) (by assumption) _ _ _ _ _ (by decide) ?_ ?_)
    | with_reducible apply Mbx_cryWrite_moves
    | intro _)

theorem execKeyLoad_moves {W : Part → Prop} {s t : State} (h0 : W .held) (h1 : W .msix) (h2 : W .qdr) (h3 : W (.fld F.CRY_INT_CAUSE_CMD_ERR)) (h4 : W (.fld F.CRY_INT_CAUSE_NOT_OWNER)) (h5 : W (.fld F.CRY_KEY_CMD_CTX)) (h6 : W (.fld F.CRY_KEY_CMD_GO)) (h7 : W (.fld F.CRY_KEY_CMD_OP)) (h8 : W (.fld F.CRY_KEY_CMD_PHASE)) (h9 : W (.fld F.CRY_KEY_DATA_KEY)) (h10 : W (.fld F.CRY_KEY_SALT_SALT)) (h11 : W (.fld F.CRY_KEY_STAT_BUSY)) (h12 : W (.fld F.CRY_KEY_STAT_ERR_CODE)) (h13 : W (.fld F.PEER_INT_CAUSE_MIRRORED)) (h14 : W (.fld F.PMC_INT_CAUSE_OVF)) (h15 : W (.fld F.PMC_INT_CAUSE_SMP_AVAIL)) (h16 : W (.fld F.PMC_INT_CAUSE_SMP_DROP)) (h17 : W (.fld F.PMC_OVF_STAT_OVF)) (h18 : W (.fld F.PMC_SMP_DROP_RING)) (h19 : W (.fld F.PMC_SMP_STAT_COUNT)) (h20 : W (.fld H.CRY_CAND)) (h21 : W (.fld H.CRY_CUR)) (h22 : W (.fld H.CRY_KEY)) (h23 : W (.fld H.CRY_LAST)) (h24 : W (.fld H.CRY_LAST_SEQ)) (h25 : W (.fld H.CRY_NEXT)) (h26 : W (.fld H.CRY_RESULT)) (h27 : W (.fld H.CRY_ROLL)) (h28 : W (.fld H.CRY_RUN_MASK)) (h29 : W (.fld H.CRY_RUN_PART)) (h30 : W (.fld H.CRY_RUN_SEQ)) (h31 : W (.fld H.CRY_RX_PH)) (h32 : W (.fld H.CRY_SALT)) (h33 : W (.fld H.CRY_SYNC)) (h34 : W (.fld H.CRY_U)) (h35 : W (.fld H.CRY_VALID)) (h36 : W (.fld H.CRY_WIN)) (h37 : W (.fld H.PMC_CNT)) (h38 : W (.fld H.PMC_OVF_DUE)) (h39 : W (.fld H.PMC_OVF_T)) (h40 : W (.fld H.PMC_RING)) (h41 : W (.fld H.PMC_TRACE_POS)) (a0 : Nat) (a1 : Bool) (a2 : Nat) (a3 : Nat) (h : execKeyLoad a0 a1 a2 a3 s = .next t) :
    Moves W s t := by
  unfold execKeyLoad at h
  refine done_moves (by assumption) ?_ h
  repeat' (first
    | with_reducible assumption
    | with_reducible exact .refl
    | (with_reducible refine Bus_row_other (by assumption) (by assumption) (by assumption) (by assumption) (by assumption) (by assumption) (by assumption) (by assumption) (by assumption) (by assumption) (by assumption) (by assumption) (by assumption) (by assumption) _ _ _ _ _ (by decide) ?_ ?_)
    | with_reducible apply Cry_writeKeyCmd_moves
    | intro _)

theorem execKeyRoll_moves {W : Part → Prop} {s t : State} (h0 : W .held) (h1 : W .msix) (h2 : W .qdr) (h3 : W (.fld F.CRY_INT_CAUSE_CMD_ERR)) (h4 : W (.fld F.CRY_INT_CAUSE_NOT_OWNER)) (h5 : W (.fld F.CRY_KEY_CMD_CTX)) (h6 : W (.fld F.CRY_KEY_CMD_GO)) (h7 : W (.fld F.CRY_KEY_CMD_OP)) (h8 : W (.fld F.CRY_KEY_CMD_PHASE)) (h9 : W (.fld F.CRY_KEY_DATA_KEY)) (h10 : W (.fld F.CRY_KEY_SALT_SALT)) (h11 : W (.fld F.CRY_KEY_STAT_BUSY)) (h12 : W (.fld F.CRY_KEY_STAT_ERR_CODE)) (h13 : W (.fld F.PEER_INT_CAUSE_MIRRORED)) (h14 : W (.fld F.PMC_INT_CAUSE_OVF)) (h15 : W (.fld F.PMC_INT_CAUSE_SMP_AVAIL)) (h16 : W (.fld F.PMC_INT_CAUSE_SMP_DROP)) (h17 : W (.fld F.PMC_OVF_STAT_OVF)) (h18 : W (.fld F.PMC_SMP_DROP_RING)) (h19 : W (.fld F.PMC_SMP_STAT_COUNT)) (h20 : W (.fld H.CRY_CAND)) (h21 : W (.fld H.CRY_CUR)) (h22 : W (.fld H.CRY_KEY)) (h23 : W (.fld H.CRY_LAST)) (h24 : W (.fld H.CRY_LAST_SEQ)) (h25 : W (.fld H.CRY_NEXT)) (h26 : W (.fld H.CRY_RESULT)) (h27 : W (.fld H.CRY_ROLL)) (h28 : W (.fld H.CRY_RUN_MASK)) (h29 : W (.fld H.CRY_RUN_PART)) (h30 : W (.fld H.CRY_RUN_SEQ)) (h31 : W (.fld H.CRY_RX_PH)) (h32 : W (.fld H.CRY_SALT)) (h33 : W (.fld H.CRY_SYNC)) (h34 : W (.fld H.CRY_U)) (h35 : W (.fld H.CRY_VALID)) (h36 : W (.fld H.CRY_WIN)) (h37 : W (.fld H.PMC_CNT)) (h38 : W (.fld H.PMC_OVF_DUE)) (h39 : W (.fld H.PMC_OVF_T)) (h40 : W (.fld H.PMC_RING)) (h41 : W (.fld H.PMC_TRACE_POS)) (a0 : Nat) (a1 : Bool) (a2 : Nat) (a3 : Nat) (h : execKeyRoll a0 a1 a2 a3 s = .next t) :
    Moves W s t := by
  unfold execKeyRoll at h
  refine done_moves (by assumption) ?_ h
  repeat' (first
    | with_reducible assumption
    | with_reducible exact .refl
    | (with_reducible refine Bus_row_other (by assumption) (by assumption) (by assumption) (by assumption) (by assumption) (by assumption) (by assumption) (by assumption) (by assumption) (by assumption) (by assumption) (by assumption) (by assumption) (by assumption) _ _ _ _ _ (by decide) ?_ ?_)
    | with_reducible apply Cry_writeKeyCmd_moves
    | intro _)

theorem execKeyClear_moves {W : Part → Prop} {s t : State} (h0 : W .held) (h1 : W .msix) (h2 : W .qdr) (h3 : W (.fld F.CRY_INT_CAUSE_CMD_ERR)) (h4 : W (.fld F.CRY_INT_CAUSE_NOT_OWNER)) (h5 : W (.fld F.CRY_KEY_CMD_CTX)) (h6 : W (.fld F.CRY_KEY_CMD_GO)) (h7 : W (.fld F.CRY_KEY_CMD_OP)) (h8 : W (.fld F.CRY_KEY_CMD_PHASE)) (h9 : W (.fld F.CRY_KEY_DATA_KEY)) (h10 : W (.fld F.CRY_KEY_SALT_SALT)) (h11 : W (.fld F.CRY_KEY_STAT_BUSY)) (h12 : W (.fld F.CRY_KEY_STAT_ERR_CODE)) (h13 : W (.fld F.PEER_INT_CAUSE_MIRRORED)) (h14 : W (.fld F.PMC_INT_CAUSE_OVF)) (h15 : W (.fld F.PMC_INT_CAUSE_SMP_AVAIL)) (h16 : W (.fld F.PMC_INT_CAUSE_SMP_DROP)) (h17 : W (.fld F.PMC_OVF_STAT_OVF)) (h18 : W (.fld F.PMC_SMP_DROP_RING)) (h19 : W (.fld F.PMC_SMP_STAT_COUNT)) (h20 : W (.fld H.CRY_CAND)) (h21 : W (.fld H.CRY_CUR)) (h22 : W (.fld H.CRY_KEY)) (h23 : W (.fld H.CRY_LAST)) (h24 : W (.fld H.CRY_LAST_SEQ)) (h25 : W (.fld H.CRY_NEXT)) (h26 : W (.fld H.CRY_RESULT)) (h27 : W (.fld H.CRY_ROLL)) (h28 : W (.fld H.CRY_RUN_MASK)) (h29 : W (.fld H.CRY_RUN_PART)) (h30 : W (.fld H.CRY_RUN_SEQ)) (h31 : W (.fld H.CRY_RX_PH)) (h32 : W (.fld H.CRY_SALT)) (h33 : W (.fld H.CRY_SYNC)) (h34 : W (.fld H.CRY_U)) (h35 : W (.fld H.CRY_VALID)) (h36 : W (.fld H.CRY_WIN)) (h37 : W (.fld H.PMC_CNT)) (h38 : W (.fld H.PMC_OVF_DUE)) (h39 : W (.fld H.PMC_OVF_T)) (h40 : W (.fld H.PMC_RING)) (h41 : W (.fld H.PMC_TRACE_POS)) (a0 : Nat) (a1 : Bool) (a2 : Nat) (a3 : Nat) (h : execKeyClear a0 a1 a2 a3 s = .next t) :
    Moves W s t := by
  unfold execKeyClear at h
  refine done_moves (by assumption) ?_ h
  repeat' (first
    | with_reducible assumption
    | with_reducible exact .refl
    | (with_reducible refine Bus_row_other (by assumption) (by assumption) (by assumption) (by assumption) (by assumption) (by assumption) (by assumption) (by assumption) (by assumption) (by assumption) (by assumption) (by assumption) (by assumption) (by assumption) _ _ _ _ _ (by decide) ?_ ?_)
    | with_reducible apply Cry_writeKeyCmd_moves
    | intro _)

theorem execKeyClearCtx_moves {W : Part → Prop} {s t : State} (h0 : W .held) (h1 : W .msix) (h2 : W .qdr) (h3 : W (.fld F.CRY_INT_CAUSE_CMD_ERR)) (h4 : W (.fld F.CRY_INT_CAUSE_NOT_OWNER)) (h5 : W (.fld F.CRY_KEY_CMD_CTX)) (h6 : W (.fld F.CRY_KEY_CMD_GO)) (h7 : W (.fld F.CRY_KEY_CMD_OP)) (h8 : W (.fld F.CRY_KEY_CMD_PHASE)) (h9 : W (.fld F.CRY_KEY_DATA_KEY)) (h10 : W (.fld F.CRY_KEY_SALT_SALT)) (h11 : W (.fld F.CRY_KEY_STAT_BUSY)) (h12 : W (.fld F.CRY_KEY_STAT_ERR_CODE)) (h13 : W (.fld F.PEER_INT_CAUSE_MIRRORED)) (h14 : W (.fld F.PMC_INT_CAUSE_OVF)) (h15 : W (.fld F.PMC_INT_CAUSE_SMP_AVAIL)) (h16 : W (.fld F.PMC_INT_CAUSE_SMP_DROP)) (h17 : W (.fld F.PMC_OVF_STAT_OVF)) (h18 : W (.fld F.PMC_SMP_DROP_RING)) (h19 : W (.fld F.PMC_SMP_STAT_COUNT)) (h20 : W (.fld H.CRY_CAND)) (h21 : W (.fld H.CRY_CUR)) (h22 : W (.fld H.CRY_KEY)) (h23 : W (.fld H.CRY_LAST)) (h24 : W (.fld H.CRY_LAST_SEQ)) (h25 : W (.fld H.CRY_NEXT)) (h26 : W (.fld H.CRY_RESULT)) (h27 : W (.fld H.CRY_ROLL)) (h28 : W (.fld H.CRY_RUN_MASK)) (h29 : W (.fld H.CRY_RUN_PART)) (h30 : W (.fld H.CRY_RUN_SEQ)) (h31 : W (.fld H.CRY_RX_PH)) (h32 : W (.fld H.CRY_SALT)) (h33 : W (.fld H.CRY_SYNC)) (h34 : W (.fld H.CRY_U)) (h35 : W (.fld H.CRY_VALID)) (h36 : W (.fld H.CRY_WIN)) (h37 : W (.fld H.PMC_CNT)) (h38 : W (.fld H.PMC_OVF_DUE)) (h39 : W (.fld H.PMC_OVF_T)) (h40 : W (.fld H.PMC_RING)) (h41 : W (.fld H.PMC_TRACE_POS)) (a0 : Nat) (a1 : Bool) (a2 : Nat) (h : execKeyClearCtx a0 a1 a2 s = .next t) :
    Moves W s t := by
  unfold execKeyClearCtx at h
  refine done_moves (by assumption) ?_ h
  repeat' (first
    | with_reducible assumption
    | with_reducible exact .refl
    | (with_reducible refine Bus_row_other (by assumption) (by assumption) (by assumption) (by assumption) (by assumption) (by assumption) (by assumption) (by assumption) (by assumption) (by assumption) (by assumption) (by assumption) (by assumption) (by assumption) _ _ _ _ _ (by decide) ?_ ?_)
    | with_reducible apply Cry_writeKeyCmd_moves
    | intro _)

theorem execKeyCmdUndefined_moves {W : Part → Prop} {s t : State} (h0 : W .held) (h1 : W .msix) (h2 : W .qdr) (h3 : W (.fld F.CRY_INT_CAUSE_CMD_ERR)) (h4 : W (.fld F.CRY_INT_CAUSE_NOT_OWNER)) (h5 : W (.fld F.CRY_KEY_CMD_CTX)) (h6 : W (.fld F.CRY_KEY_CMD_GO)) (h7 : W (.fld F.CRY_KEY_CMD_OP)) (h8 : W (.fld F.CRY_KEY_CMD_PHASE)) (h9 : W (.fld F.CRY_KEY_DATA_KEY)) (h10 : W (.fld F.CRY_KEY_SALT_SALT)) (h11 : W (.fld F.CRY_KEY_STAT_BUSY)) (h12 : W (.fld F.CRY_KEY_STAT_ERR_CODE)) (h13 : W (.fld F.PEER_INT_CAUSE_MIRRORED)) (h14 : W (.fld F.PMC_INT_CAUSE_OVF)) (h15 : W (.fld F.PMC_INT_CAUSE_SMP_AVAIL)) (h16 : W (.fld F.PMC_INT_CAUSE_SMP_DROP)) (h17 : W (.fld F.PMC_OVF_STAT_OVF)) (h18 : W (.fld F.PMC_SMP_DROP_RING)) (h19 : W (.fld F.PMC_SMP_STAT_COUNT)) (h20 : W (.fld H.CRY_CAND)) (h21 : W (.fld H.CRY_CUR)) (h22 : W (.fld H.CRY_KEY)) (h23 : W (.fld H.CRY_LAST)) (h24 : W (.fld H.CRY_LAST_SEQ)) (h25 : W (.fld H.CRY_NEXT)) (h26 : W (.fld H.CRY_RESULT)) (h27 : W (.fld H.CRY_ROLL)) (h28 : W (.fld H.CRY_RUN_MASK)) (h29 : W (.fld H.CRY_RUN_PART)) (h30 : W (.fld H.CRY_RUN_SEQ)) (h31 : W (.fld H.CRY_RX_PH)) (h32 : W (.fld H.CRY_SALT)) (h33 : W (.fld H.CRY_SYNC)) (h34 : W (.fld H.CRY_U)) (h35 : W (.fld H.CRY_VALID)) (h36 : W (.fld H.CRY_WIN)) (h37 : W (.fld H.PMC_CNT)) (h38 : W (.fld H.PMC_OVF_DUE)) (h39 : W (.fld H.PMC_OVF_T)) (h40 : W (.fld H.PMC_RING)) (h41 : W (.fld H.PMC_TRACE_POS)) (a0 : Nat) (a1 : Bool) (a2 : Nat) (a3 : Nat) (a4 : Nat) (h : execKeyCmdUndefined a0 a1 a2 a3 a4 s = .next t) :
    Moves W s t := by
  unfold execKeyCmdUndefined at h
  refine done_moves (by assumption) ?_ h
  repeat' (first
    | with_reducible assumption
    | with_reducible exact .refl
    | (with_reducible refine Bus_row_other (by assumption) (by assumption) (by assumption) (by assumption) (by assumption) (by assumption) (by assumption) (by assumption) (by assumption) (by assumption) (by assumption) (by assumption) (by assumption) (by assumption) _ _ _ _ _ (by decide) ?_ ?_)
    | with_reducible apply Cry_writeKeyCmd_moves
    | intro _
    | split)

theorem execKeyCmdComplete_moves {W : Part → Prop} {s t : State} (h0 : W .msix) (h1 : W (.fld F.CRY_INT_CAUSE_CMD_DONE)) (h2 : W (.fld F.CRY_INT_CAUSE_CMD_ERR)) (h3 : W (.fld F.CRY_KEY_CMD_GO)) (h4 : W (.fld F.CRY_KEY_DATA_KEY)) (h5 : W (.fld F.CRY_KEY_SALT_SALT)) (h6 : W (.fld F.CRY_KEY_STAT_BUSY)) (h7 : W (.fld F.CRY_KEY_STAT_ERR_CODE)) (h8 : W (.fld H.CRY_RESULT)) (h9 : W (.fld H.CRY_ROLL)) (h10 : W (.fld H.CRY_TX_PH)) (h : execKeyCmdComplete s = .next t) :
    Moves W s t := by
  unfold execKeyCmdComplete at h
  refine done_moves (by assumption) ?_ h
  repeat' (first
    | with_reducible assumption
    | with_reducible exact .refl
    | with_reducible apply Cry_complete_moves
    | intro _)

theorem execErasure_moves {W : Part → Prop} {s t : State} (h0 : W .msix) (h1 : W .qdr) (h2 : W (.arr H.CRY_CAND)) (h3 : W (.arr H.CRY_CUR)) (h4 : W (.arr H.CRY_KEY)) (h5 : W (.arr H.CRY_LAST)) (h6 : W (.arr H.CRY_LAST_SEQ)) (h7 : W (.arr H.CRY_NEXT)) (h8 : W (.arr H.CRY_RUN_MASK)) (h9 : W (.arr H.CRY_RUN_PART)) (h10 : W (.arr H.CRY_RUN_SEQ)) (h11 : W (.arr H.CRY_RX_PH)) (h12 : W (.arr H.CRY_SALT)) (h13 : W (.arr H.CRY_SYNC)) (h14 : W (.arr H.CRY_U)) (h15 : W (.arr H.CRY_VALID)) (h16 : W (.arr H.CRY_WIN)) (h17 : W (.fld F.CRY_ERASE_STAT_ALARM_NOW)) (h18 : W (.fld F.CRY_ERASE_STAT_CAUSE)) (h19 : W (.fld F.CRY_ERASE_STAT_COUNT)) (h20 : W (.fld F.CRY_INT_CAUSE_ERASED)) (h21 : W (.fld F.CRY_KEY_DATA_KEY)) (h22 : W (.fld F.CRY_KEY_SALT_SALT)) (h23 : W (.fld F.CRY_LOCK_STAT_LOCK_BROKEN)) (h24 : W (.fld F.CRY_LOCK_STAT_OWNER)) (h25 : W (.fld F.PMC_INT_CAUSE_OVF)) (h26 : W (.fld F.PMC_INT_CAUSE_SMP_AVAIL)) (h27 : W (.fld F.PMC_INT_CAUSE_SMP_DROP)) (h28 : W (.fld F.PMC_OVF_STAT_OVF)) (h29 : W (.fld F.PMC_SMP_DROP_RING)) (h30 : W (.fld F.PMC_SMP_STAT_COUNT)) (h31 : W (.fld H.CRY_RESULT)) (h32 : W (.fld H.PMC_CNT)) (h33 : W (.fld H.PMC_OVF_DUE)) (h34 : W (.fld H.PMC_OVF_T)) (h35 : W (.fld H.PMC_RING)) (h36 : W (.fld H.PMC_TRACE_POS)) (a0 : Nat) (a1 : Bool) (h : execErasure a0 a1 s = .next t) :
    Moves W s t := by
  unfold execErasure at h
  refine done_moves (by assumption) ?_ h
  repeat' (first
    | with_reducible assumption
    | with_reducible exact .refl
    | with_reducible apply Cry_erasure_moves
    | intro _)

theorem execCryCounterMirror_moves {W : Part → Prop} {s t : State} (h0 : W .msix) (h : execCryCounterMirror s = .next t) :
    Moves W s t := by
  unfold execCryCounterMirror at h
  refine done_moves (by assumption) ?_ h
  repeat' (first
    | with_reducible assumption
    | with_reducible exact .refl
    | with_reducible apply Cry_counterMirror_moves
    | intro _)

end Sys2Proof.Laws
end

