-- ==== Sys2Proof/Laws/MovesExecEng.lean ====
section
/-! SUPPORT. Sys2Proof/Laws/MovesExecEng.lean: what each command of Machine/ExecEng.lean may write (Laws/Moves.lean). -/
namespace Sys2Proof.Laws
open Sys2Proof Sys2Proof.Machine

theorem execAdd_moves {W : Part → Prop} {s t : State} (h0 : W .msix) (h1 : W .qdr) (h2 : W (.fld F.ENG_GREG_VAL)) (h3 : W (.fld F.ENG_INT_CAUSE_FAULT)) (h4 : W (.fld F.ENG_STAT_FAULTED)) (h5 : W (.fld F.ENG_STAT_RUNNING)) (h6 : W (.fld F.ENG_THR_STAT_CAUSE)) (h7 : W (.fld F.ENG_THR_STAT_PC)) (h8 : W (.fld F.ENG_THR_STAT_STATE)) (h9 : W (.fld F.PMC_INT_CAUSE_OVF)) (h10 : W (.fld F.PMC_INT_CAUSE_SMP_AVAIL)) (h11 : W (.fld F.PMC_INT_CAUSE_SMP_DROP)) (h12 : W (.fld F.PMC_OVF_STAT_OVF)) (h13 : W (.fld F.PMC_SMP_DROP_RING)) (h14 : W (.fld F.PMC_SMP_STAT_COUNT)) (h15 : W (.fld H.ENG_PAST)) (h16 : W (.fld H.PMC_CNT)) (h17 : W (.fld H.PMC_OVF_DUE)) (h18 : W (.fld H.PMC_OVF_SKID)) (h19 : W (.fld H.PMC_OVF_T)) (h20 : W (.fld H.PMC_OVF_THR)) (h21 : W (.fld H.PMC_RING)) (h22 : W (.fld H.PMC_TRACE_POS)) (a0 : Nat) (a1 : Nat) (h : execAdd a0 a1 s = .next t) :
    Moves W s t := by
  unfold execAdd at h
  refine done_moves (by assumption) ?_ h
  repeat' (first
    | with_reducible assumption
    | with_reducible exact .refl
    | with_reducible apply Eng_alu_moves
    | intro _)

theorem execSub_moves {W : Part → Prop} {s t : State} (h0 : W .msix) (h1 : W .qdr) (h2 : W (.fld F.ENG_GREG_VAL)) (h3 : W (.fld F.ENG_INT_CAUSE_FAULT)) (h4 : W (.fld F.ENG_STAT_FAULTED)) (h5 : W (.fld F.ENG_STAT_RUNNING)) (h6 : W (.fld F.ENG_THR_STAT_CAUSE)) (h7 : W (.fld F.ENG_THR_STAT_PC)) (h8 : W (.fld F.ENG_THR_STAT_STATE)) (h9 : W (.fld F.PMC_INT_CAUSE_OVF)) (h10 : W (.fld F.PMC_INT_CAUSE_SMP_AVAIL)) (h11 : W (.fld F.PMC_INT_CAUSE_SMP_DROP)) (h12 : W (.fld F.PMC_OVF_STAT_OVF)) (h13 : W (.fld F.PMC_SMP_DROP_RING)) (h14 : W (.fld F.PMC_SMP_STAT_COUNT)) (h15 : W (.fld H.ENG_PAST)) (h16 : W (.fld H.PMC_CNT)) (h17 : W (.fld H.PMC_OVF_DUE)) (h18 : W (.fld H.PMC_OVF_SKID)) (h19 : W (.fld H.PMC_OVF_T)) (h20 : W (.fld H.PMC_OVF_THR)) (h21 : W (.fld H.PMC_RING)) (h22 : W (.fld H.PMC_TRACE_POS)) (a0 : Nat) (a1 : Nat) (h : execSub a0 a1 s = .next t) :
    Moves W s t := by
  unfold execSub at h
  refine done_moves (by assumption) ?_ h
  repeat' (first
    | with_reducible assumption
    | with_reducible exact .refl
    | with_reducible apply Eng_alu_moves
    | intro _)

theorem execAndOp_moves {W : Part → Prop} {s t : State} (h0 : W .msix) (h1 : W .qdr) (h2 : W (.fld F.ENG_GREG_VAL)) (h3 : W (.fld F.ENG_INT_CAUSE_FAULT)) (h4 : W (.fld F.ENG_STAT_FAULTED)) (h5 : W (.fld F.ENG_STAT_RUNNING)) (h6 : W (.fld F.ENG_THR_STAT_CAUSE)) (h7 : W (.fld F.ENG_THR_STAT_PC)) (h8 : W (.fld F.ENG_THR_STAT_STATE)) (h9 : W (.fld F.PMC_INT_CAUSE_OVF)) (h10 : W (.fld F.PMC_INT_CAUSE_SMP_AVAIL)) (h11 : W (.fld F.PMC_INT_CAUSE_SMP_DROP)) (h12 : W (.fld F.PMC_OVF_STAT_OVF)) (h13 : W (.fld F.PMC_SMP_DROP_RING)) (h14 : W (.fld F.PMC_SMP_STAT_COUNT)) (h15 : W (.fld H.ENG_PAST)) (h16 : W (.fld H.PMC_CNT)) (h17 : W (.fld H.PMC_OVF_DUE)) (h18 : W (.fld H.PMC_OVF_SKID)) (h19 : W (.fld H.PMC_OVF_T)) (h20 : W (.fld H.PMC_OVF_THR)) (h21 : W (.fld H.PMC_RING)) (h22 : W (.fld H.PMC_TRACE_POS)) (a0 : Nat) (a1 : Nat) (h : execAndOp a0 a1 s = .next t) :
    Moves W s t := by
  unfold execAndOp at h
  refine done_moves (by assumption) ?_ h
  repeat' (first
    | with_reducible assumption
    | with_reducible exact .refl
    | with_reducible apply Eng_alu_moves
    | intro _)

theorem execOrOp_moves {W : Part → Prop} {s t : State} (h0 : W .msix) (h1 : W .qdr) (h2 : W (.fld F.ENG_GREG_VAL)) (h3 : W (.fld F.ENG_INT_CAUSE_FAULT)) (h4 : W (.fld F.ENG_STAT_FAULTED)) (h5 : W (.fld F.ENG_STAT_RUNNING)) (h6 : W (.fld F.ENG_THR_STAT_CAUSE)) (h7 : W (.fld F.ENG_THR_STAT_PC)) (h8 : W (.fld F.ENG_THR_STAT_STATE)) (h9 : W (.fld F.PMC_INT_CAUSE_OVF)) (h10 : W (.fld F.PMC_INT_CAUSE_SMP_AVAIL)) (h11 : W (.fld F.PMC_INT_CAUSE_SMP_DROP)) (h12 : W (.fld F.PMC_OVF_STAT_OVF)) (h13 : W (.fld F.PMC_SMP_DROP_RING)) (h14 : W (.fld F.PMC_SMP_STAT_COUNT)) (h15 : W (.fld H.ENG_PAST)) (h16 : W (.fld H.PMC_CNT)) (h17 : W (.fld H.PMC_OVF_DUE)) (h18 : W (.fld H.PMC_OVF_SKID)) (h19 : W (.fld H.PMC_OVF_T)) (h20 : W (.fld H.PMC_OVF_THR)) (h21 : W (.fld H.PMC_RING)) (h22 : W (.fld H.PMC_TRACE_POS)) (a0 : Nat) (a1 : Nat) (h : execOrOp a0 a1 s = .next t) :
    Moves W s t := by
  unfold execOrOp at h
  refine done_moves (by assumption) ?_ h
  repeat' (first
    | with_reducible assumption
    | with_reducible exact .refl
    | with_reducible apply Eng_alu_moves
    | intro _)

theorem execXor_moves {W : Part → Prop} {s t : State} (h0 : W .msix) (h1 : W .qdr) (h2 : W (.fld F.ENG_GREG_VAL)) (h3 : W (.fld F.ENG_INT_CAUSE_FAULT)) (h4 : W (.fld F.ENG_STAT_FAULTED)) (h5 : W (.fld F.ENG_STAT_RUNNING)) (h6 : W (.fld F.ENG_THR_STAT_CAUSE)) (h7 : W (.fld F.ENG_THR_STAT_PC)) (h8 : W (.fld F.ENG_THR_STAT_STATE)) (h9 : W (.fld F.PMC_INT_CAUSE_OVF)) (h10 : W (.fld F.PMC_INT_CAUSE_SMP_AVAIL)) (h11 : W (.fld F.PMC_INT_CAUSE_SMP_DROP)) (h12 : W (.fld F.PMC_OVF_STAT_OVF)) (h13 : W (.fld F.PMC_SMP_DROP_RING)) (h14 : W (.fld F.PMC_SMP_STAT_COUNT)) (h15 : W (.fld H.ENG_PAST)) (h16 : W (.fld H.PMC_CNT)) (h17 : W (.fld H.PMC_OVF_DUE)) (h18 : W (.fld H.PMC_OVF_SKID)) (h19 : W (.fld H.PMC_OVF_T)) (h20 : W (.fld H.PMC_OVF_THR)) (h21 : W (.fld H.PMC_RING)) (h22 : W (.fld H.PMC_TRACE_POS)) (a0 : Nat) (a1 : Nat) (h : execXor a0 a1 s = .next t) :
    Moves W s t := by
  unfold execXor at h
  refine done_moves (by assumption) ?_ h
  repeat' (first
    | with_reducible assumption
    | with_reducible exact .refl
    | with_reducible apply Eng_alu_moves
    | intro _)

theorem execSll_moves {W : Part → Prop} {s t : State} (h0 : W .msix) (h1 : W .qdr) (h2 : W (.fld F.ENG_GREG_VAL)) (h3 : W (.fld F.ENG_INT_CAUSE_FAULT)) (h4 : W (.fld F.ENG_STAT_FAULTED)) (h5 : W (.fld F.ENG_STAT_RUNNING)) (h6 : W (.fld F.ENG_THR_STAT_CAUSE)) (h7 : W (.fld F.ENG_THR_STAT_PC)) (h8 : W (.fld F.ENG_THR_STAT_STATE)) (h9 : W (.fld F.PMC_INT_CAUSE_OVF)) (h10 : W (.fld F.PMC_INT_CAUSE_SMP_AVAIL)) (h11 : W (.fld F.PMC_INT_CAUSE_SMP_DROP)) (h12 : W (.fld F.PMC_OVF_STAT_OVF)) (h13 : W (.fld F.PMC_SMP_DROP_RING)) (h14 : W (.fld F.PMC_SMP_STAT_COUNT)) (h15 : W (.fld H.ENG_PAST)) (h16 : W (.fld H.PMC_CNT)) (h17 : W (.fld H.PMC_OVF_DUE)) (h18 : W (.fld H.PMC_OVF_SKID)) (h19 : W (.fld H.PMC_OVF_T)) (h20 : W (.fld H.PMC_OVF_THR)) (h21 : W (.fld H.PMC_RING)) (h22 : W (.fld H.PMC_TRACE_POS)) (a0 : Nat) (a1 : Nat) (h : execSll a0 a1 s = .next t) :
    Moves W s t := by
  unfold execSll at h
  refine done_moves (by assumption) ?_ h
  repeat' (first
    | with_reducible assumption
    | with_reducible exact .refl
    | with_reducible apply Eng_alu_moves
    | intro _)

theorem execSrl_moves {W : Part → Prop} {s t : State} (h0 : W .msix) (h1 : W .qdr) (h2 : W (.fld F.ENG_GREG_VAL)) (h3 : W (.fld F.ENG_INT_CAUSE_FAULT)) (h4 : W (.fld F.ENG_STAT_FAULTED)) (h5 : W (.fld F.ENG_STAT_RUNNING)) (h6 : W (.fld F.ENG_THR_STAT_CAUSE)) (h7 : W (.fld F.ENG_THR_STAT_PC)) (h8 : W (.fld F.ENG_THR_STAT_STATE)) (h9 : W (.fld F.PMC_INT_CAUSE_OVF)) (h10 : W (.fld F.PMC_INT_CAUSE_SMP_AVAIL)) (h11 : W (.fld F.PMC_INT_CAUSE_SMP_DROP)) (h12 : W (.fld F.PMC_OVF_STAT_OVF)) (h13 : W (.fld F.PMC_SMP_DROP_RING)) (h14 : W (.fld F.PMC_SMP_STAT_COUNT)) (h15 : W (.fld H.ENG_PAST)) (h16 : W (.fld H.PMC_CNT)) (h17 : W (.fld H.PMC_OVF_DUE)) (h18 : W (.fld H.PMC_OVF_SKID)) (h19 : W (.fld H.PMC_OVF_T)) (h20 : W (.fld H.PMC_OVF_THR)) (h21 : W (.fld H.PMC_RING)) (h22 : W (.fld H.PMC_TRACE_POS)) (a0 : Nat) (a1 : Nat) (h : execSrl a0 a1 s = .next t) :
    Moves W s t := by
  unfold execSrl at h
  refine done_moves (by assumption) ?_ h
  repeat' (first
    | with_reducible assumption
    | with_reducible exact .refl
    | with_reducible apply Eng_alu_moves
    | intro _)

theorem execSra_moves {W : Part → Prop} {s t : State} (h0 : W .msix) (h1 : W .qdr) (h2 : W (.fld F.ENG_GREG_VAL)) (h3 : W (.fld F.ENG_INT_CAUSE_FAULT)) (h4 : W (.fld F.ENG_STAT_FAULTED)) (h5 : W (.fld F.ENG_STAT_RUNNING)) (h6 : W (.fld F.ENG_THR_STAT_CAUSE)) (h7 : W (.fld F.ENG_THR_STAT_PC)) (h8 : W (.fld F.ENG_THR_STAT_STATE)) (h9 : W (.fld F.PMC_INT_CAUSE_OVF)) (h10 : W (.fld F.PMC_INT_CAUSE_SMP_AVAIL)) (h11 : W (.fld F.PMC_INT_CAUSE_SMP_DROP)) (h12 : W (.fld F.PMC_OVF_STAT_OVF)) (h13 : W (.fld F.PMC_SMP_DROP_RING)) (h14 : W (.fld F.PMC_SMP_STAT_COUNT)) (h15 : W (.fld H.ENG_PAST)) (h16 : W (.fld H.PMC_CNT)) (h17 : W (.fld H.PMC_OVF_DUE)) (h18 : W (.fld H.PMC_OVF_SKID)) (h19 : W (.fld H.PMC_OVF_T)) (h20 : W (.fld H.PMC_OVF_THR)) (h21 : W (.fld H.PMC_RING)) (h22 : W (.fld H.PMC_TRACE_POS)) (a0 : Nat) (a1 : Nat) (h : execSra a0 a1 s = .next t) :
    Moves W s t := by
  unfold execSra at h
  refine done_moves (by assumption) ?_ h
  repeat' (first
    | with_reducible assumption
    | with_reducible exact .refl
    | with_reducible apply Eng_alu_moves
    | intro _)

theorem execSlt_moves {W : Part → Prop} {s t : State} (h0 : W .msix) (h1 : W .qdr) (h2 : W (.fld F.ENG_GREG_VAL)) (h3 : W (.fld F.ENG_INT_CAUSE_FAULT)) (h4 : W (.fld F.ENG_STAT_FAULTED)) (h5 : W (.fld F.ENG_STAT_RUNNING)) (h6 : W (.fld F.ENG_THR_STAT_CAUSE)) (h7 : W (.fld F.ENG_THR_STAT_PC)) (h8 : W (.fld F.ENG_THR_STAT_STATE)) (h9 : W (.fld F.PMC_INT_CAUSE_OVF)) (h10 : W (.fld F.PMC_INT_CAUSE_SMP_AVAIL)) (h11 : W (.fld F.PMC_INT_CAUSE_SMP_DROP)) (h12 : W (.fld F.PMC_OVF_STAT_OVF)) (h13 : W (.fld F.PMC_SMP_DROP_RING)) (h14 : W (.fld F.PMC_SMP_STAT_COUNT)) (h15 : W (.fld H.ENG_PAST)) (h16 : W (.fld H.PMC_CNT)) (h17 : W (.fld H.PMC_OVF_DUE)) (h18 : W (.fld H.PMC_OVF_SKID)) (h19 : W (.fld H.PMC_OVF_T)) (h20 : W (.fld H.PMC_OVF_THR)) (h21 : W (.fld H.PMC_RING)) (h22 : W (.fld H.PMC_TRACE_POS)) (a0 : Nat) (a1 : Nat) (h : execSlt a0 a1 s = .next t) :
    Moves W s t := by
  unfold execSlt at h
  refine done_moves (by assumption) ?_ h
  repeat' (first
    | with_reducible assumption
    | with_reducible exact .refl
    | with_reducible apply Eng_alu_moves
    | intro _
    | split)

theorem execSltu_moves {W : Part → Prop} {s t : State} (h0 : W .msix) (h1 : W .qdr) (h2 : W (.fld F.ENG_GREG_VAL)) (h3 : W (.fld F.ENG_INT_CAUSE_FAULT)) (h4 : W (.fld F.ENG_STAT_FAULTED)) (h5 : W (.fld F.ENG_STAT_RUNNING)) (h6 : W (.fld F.ENG_THR_STAT_CAUSE)) (h7 : W (.fld F.ENG_THR_STAT_PC)) (h8 : W (.fld F.ENG_THR_STAT_STATE)) (h9 : W (.fld F.PMC_INT_CAUSE_OVF)) (h10 : W (.fld F.PMC_INT_CAUSE_SMP_AVAIL)) (h11 : W (.fld F.PMC_INT_CAUSE_SMP_DROP)) (h12 : W (.fld F.PMC_OVF_STAT_OVF)) (h13 : W (.fld F.PMC_SMP_DROP_RING)) (h14 : W (.fld F.PMC_SMP_STAT_COUNT)) (h15 : W (.fld H.ENG_PAST)) (h16 : W (.fld H.PMC_CNT)) (h17 : W (.fld H.PMC_OVF_DUE)) (h18 : W (.fld H.PMC_OVF_SKID)) (h19 : W (.fld H.PMC_OVF_T)) (h20 : W (.fld H.PMC_OVF_THR)) (h21 : W (.fld H.PMC_RING)) (h22 : W (.fld H.PMC_TRACE_POS)) (a0 : Nat) (a1 : Nat) (h : execSltu a0 a1 s = .next t) :
    Moves W s t := by
  unfold execSltu at h
  refine done_moves (by assumption) ?_ h
  repeat' (first
    | with_reducible assumption
    | with_reducible exact .refl
    | with_reducible apply Eng_alu_moves
    | intro _
    | split)

theorem execMul_moves {W : Part → Prop} {s t : State} (h0 : W .msix) (h1 : W .qdr) (h2 : W (.fld F.ENG_GREG_VAL)) (h3 : W (.fld F.ENG_INT_CAUSE_FAULT)) (h4 : W (.fld F.ENG_STAT_FAULTED)) (h5 : W (.fld F.ENG_STAT_RUNNING)) (h6 : W (.fld F.ENG_THR_STAT_CAUSE)) (h7 : W (.fld F.ENG_THR_STAT_PC)) (h8 : W (.fld F.ENG_THR_STAT_STATE)) (h9 : W (.fld F.PMC_INT_CAUSE_OVF)) (h10 : W (.fld F.PMC_INT_CAUSE_SMP_AVAIL)) (h11 : W (.fld F.PMC_INT_CAUSE_SMP_DROP)) (h12 : W (.fld F.PMC_OVF_STAT_OVF)) (h13 : W (.fld F.PMC_SMP_DROP_RING)) (h14 : W (.fld F.PMC_SMP_STAT_COUNT)) (h15 : W (.fld H.ENG_PAST)) (h16 : W (.fld H.PMC_CNT)) (h17 : W (.fld H.PMC_OVF_DUE)) (h18 : W (.fld H.PMC_OVF_SKID)) (h19 : W (.fld H.PMC_OVF_T)) (h20 : W (.fld H.PMC_OVF_THR)) (h21 : W (.fld H.PMC_RING)) (h22 : W (.fld H.PMC_TRACE_POS)) (a0 : Nat) (a1 : Nat) (h : execMul a0 a1 s = .next t) :
    Moves W s t := by
  unfold execMul at h
  refine done_moves (by assumption) ?_ h
  repeat' (first
    | with_reducible assumption
    | with_reducible exact .refl
    | with_reducible apply Eng_alu_moves
    | intro _)

theorem execMulh_moves {W : Part → Prop} {s t : State} (h0 : W .msix) (h1 : W .qdr) (h2 : W (.fld F.ENG_GREG_VAL)) (h3 : W (.fld F.ENG_INT_CAUSE_FAULT)) (h4 : W (.fld F.ENG_STAT_FAULTED)) (h5 : W (.fld F.ENG_STAT_RUNNING)) (h6 : W (.fld F.ENG_THR_STAT_CAUSE)) (h7 : W (.fld F.ENG_THR_STAT_PC)) (h8 : W (.fld F.ENG_THR_STAT_STATE)) (h9 : W (.fld F.PMC_INT_CAUSE_OVF)) (h10 : W (.fld F.PMC_INT_CAUSE_SMP_AVAIL)) (h11 : W (.fld F.PMC_INT_CAUSE_SMP_DROP)) (h12 : W (.fld F.PMC_OVF_STAT_OVF)) (h13 : W (.fld F.PMC_SMP_DROP_RING)) (h14 : W (.fld F.PMC_SMP_STAT_COUNT)) (h15 : W (.fld H.ENG_PAST)) (h16 : W (.fld H.PMC_CNT)) (h17 : W (.fld H.PMC_OVF_DUE)) (h18 : W (.fld H.PMC_OVF_SKID)) (h19 : W (.fld H.PMC_OVF_T)) (h20 : W (.fld H.PMC_OVF_THR)) (h21 : W (.fld H.PMC_RING)) (h22 : W (.fld H.PMC_TRACE_POS)) (a0 : Nat) (a1 : Nat) (h : execMulh a0 a1 s = .next t) :
    Moves W s t := by
  unfold execMulh at h
  refine done_moves (by assumption) ?_ h
  repeat' (first
    | with_reducible assumption
    | with_reducible exact .refl
    | with_reducible apply Eng_alu_moves
    | intro _)

theorem execMulhu_moves {W : Part → Prop} {s t : State} (h0 : W .msix) (h1 : W .qdr) (h2 : W (.fld F.ENG_GREG_VAL)) (h3 : W (.fld F.ENG_INT_CAUSE_FAULT)) (h4 : W (.fld F.ENG_STAT_FAULTED)) (h5 : W (.fld F.ENG_STAT_RUNNING)) (h6 : W (.fld F.ENG_THR_STAT_CAUSE)) (h7 : W (.fld F.ENG_THR_STAT_PC)) (h8 : W (.fld F.ENG_THR_STAT_STATE)) (h9 : W (.fld F.PMC_INT_CAUSE_OVF)) (h10 : W (.fld F.PMC_INT_CAUSE_SMP_AVAIL)) (h11 : W (.fld F.PMC_INT_CAUSE_SMP_DROP)) (h12 : W (.fld F.PMC_OVF_STAT_OVF)) (h13 : W (.fld F.PMC_SMP_DROP_RING)) (h14 : W (.fld F.PMC_SMP_STAT_COUNT)) (h15 : W (.fld H.ENG_PAST)) (h16 : W (.fld H.PMC_CNT)) (h17 : W (.fld H.PMC_OVF_DUE)) (h18 : W (.fld H.PMC_OVF_SKID)) (h19 : W (.fld H.PMC_OVF_T)) (h20 : W (.fld H.PMC_OVF_THR)) (h21 : W (.fld H.PMC_RING)) (h22 : W (.fld H.PMC_TRACE_POS)) (a0 : Nat) (a1 : Nat) (h : execMulhu a0 a1 s = .next t) :
    Moves W s t := by
  unfold execMulhu at h
  refine done_moves (by assumption) ?_ h
  repeat' (first
    | with_reducible assumption
    | with_reducible exact .refl
    | with_reducible apply Eng_alu_moves
    | intro _)

theorem execMin_moves {W : Part → Prop} {s t : State} (h0 : W .msix) (h1 : W .qdr) (h2 : W (.fld F.ENG_GREG_VAL)) (h3 : W (.fld F.ENG_INT_CAUSE_FAULT)) (h4 : W (.fld F.ENG_STAT_FAULTED)) (h5 : W (.fld F.ENG_STAT_RUNNING)) (h6 : W (.fld F.ENG_THR_STAT_CAUSE)) (h7 : W (.fld F.ENG_THR_STAT_PC)) (h8 : W (.fld F.ENG_THR_STAT_STATE)) (h9 : W (.fld F.PMC_INT_CAUSE_OVF)) (h10 : W (.fld F.PMC_INT_CAUSE_SMP_AVAIL)) (h11 : W (.fld F.PMC_INT_CAUSE_SMP_DROP)) (h12 : W (.fld F.PMC_OVF_STAT_OVF)) (h13 : W (.fld F.PMC_SMP_DROP_RING)) (h14 : W (.fld F.PMC_SMP_STAT_COUNT)) (h15 : W (.fld H.ENG_PAST)) (h16 : W (.fld H.PMC_CNT)) (h17 : W (.fld H.PMC_OVF_DUE)) (h18 : W (.fld H.PMC_OVF_SKID)) (h19 : W (.fld H.PMC_OVF_T)) (h20 : W (.fld H.PMC_OVF_THR)) (h21 : W (.fld H.PMC_RING)) (h22 : W (.fld H.PMC_TRACE_POS)) (a0 : Nat) (a1 : Nat) (h : execMin a0 a1 s = .next t) :
    Moves W s t := by
  unfold execMin at h
  refine done_moves (by assumption) ?_ h
  repeat' (first
    | with_reducible assumption
    | with_reducible exact .refl
    | with_reducible apply Eng_alu_moves
    | intro _
    | split)

theorem execMax_moves {W : Part → Prop} {s t : State} (h0 : W .msix) (h1 : W .qdr) (h2 : W (.fld F.ENG_GREG_VAL)) (h3 : W (.fld F.ENG_INT_CAUSE_FAULT)) (h4 : W (.fld F.ENG_STAT_FAULTED)) (h5 : W (.fld F.ENG_STAT_RUNNING)) (h6 : W (.fld F.ENG_THR_STAT_CAUSE)) (h7 : W (.fld F.ENG_THR_STAT_PC)) (h8 : W (.fld F.ENG_THR_STAT_STATE)) (h9 : W (.fld F.PMC_INT_CAUSE_OVF)) (h10 : W (.fld F.PMC_INT_CAUSE_SMP_AVAIL)) (h11 : W (.fld F.PMC_INT_CAUSE_SMP_DROP)) (h12 : W (.fld F.PMC_OVF_STAT_OVF)) (h13 : W (.fld F.PMC_SMP_DROP_RING)) (h14 : W (.fld F.PMC_SMP_STAT_COUNT)) (h15 : W (.fld H.ENG_PAST)) (h16 : W (.fld H.PMC_CNT)) (h17 : W (.fld H.PMC_OVF_DUE)) (h18 : W (.fld H.PMC_OVF_SKID)) (h19 : W (.fld H.PMC_OVF_T)) (h20 : W (.fld H.PMC_OVF_THR)) (h21 : W (.fld H.PMC_RING)) (h22 : W (.fld H.PMC_TRACE_POS)) (a0 : Nat) (a1 : Nat) (h : execMax a0 a1 s = .next t) :
    Moves W s t := by
  unfold execMax at h
  refine done_moves (by assumption) ?_ h
  repeat' (first
    | with_reducible assumption
    | with_reducible exact .refl
    | with_reducible apply Eng_alu_moves
    | intro _
    | split)

theorem execClz_moves {W : Part → Prop} {s t : State} (h0 : W .msix) (h1 : W .qdr) (h2 : W (.fld F.ENG_GREG_VAL)) (h3 : W (.fld F.ENG_INT_CAUSE_FAULT)) (h4 : W (.fld F.ENG_STAT_FAULTED)) (h5 : W (.fld F.ENG_STAT_RUNNING)) (h6 : W (.fld F.ENG_THR_STAT_CAUSE)) (h7 : W (.fld F.ENG_THR_STAT_PC)) (h8 : W (.fld F.ENG_THR_STAT_STATE)) (h9 : W (.fld F.PMC_INT_CAUSE_OVF)) (h10 : W (.fld F.PMC_INT_CAUSE_SMP_AVAIL)) (h11 : W (.fld F.PMC_INT_CAUSE_SMP_DROP)) (h12 : W (.fld F.PMC_OVF_STAT_OVF)) (h13 : W (.fld F.PMC_SMP_DROP_RING)) (h14 : W (.fld F.PMC_SMP_STAT_COUNT)) (h15 : W (.fld H.ENG_PAST)) (h16 : W (.fld H.PMC_CNT)) (h17 : W (.fld H.PMC_OVF_DUE)) (h18 : W (.fld H.PMC_OVF_SKID)) (h19 : W (.fld H.PMC_OVF_T)) (h20 : W (.fld H.PMC_OVF_THR)) (h21 : W (.fld H.PMC_RING)) (h22 : W (.fld H.PMC_TRACE_POS)) (a0 : Nat) (a1 : Nat) (h : execClz a0 a1 s = .next t) :
    Moves W s t := by
  unfold execClz at h
  refine done_moves (by assumption) ?_ h
  repeat' (first
    | with_reducible assumption
    | with_reducible exact .refl
    | with_reducible apply Eng_alu_moves
    | intro _)

theorem execPopc_moves {W : Part → Prop} {s t : State} (h0 : W .msix) (h1 : W .qdr) (h2 : W (.fld F.ENG_GREG_VAL)) (h3 : W (.fld F.ENG_INT_CAUSE_FAULT)) (h4 : W (.fld F.ENG_STAT_FAULTED)) (h5 : W (.fld F.ENG_STAT_RUNNING)) (h6 : W (.fld F.ENG_THR_STAT_CAUSE)) (h7 : W (.fld F.ENG_THR_STAT_PC)) (h8 : W (.fld F.ENG_THR_STAT_STATE)) (h9 : W (.fld F.PMC_INT_CAUSE_OVF)) (h10 : W (.fld F.PMC_INT_CAUSE_SMP_AVAIL)) (h11 : W (.fld F.PMC_INT_CAUSE_SMP_DROP)) (h12 : W (.fld F.PMC_OVF_STAT_OVF)) (h13 : W (.fld F.PMC_SMP_DROP_RING)) (h14 : W (.fld F.PMC_SMP_STAT_COUNT)) (h15 : W (.fld H.ENG_PAST)) (h16 : W (.fld H.PMC_CNT)) (h17 : W (.fld H.PMC_OVF_DUE)) (h18 : W (.fld H.PMC_OVF_SKID)) (h19 : W (.fld H.PMC_OVF_T)) (h20 : W (.fld H.PMC_OVF_THR)) (h21 : W (.fld H.PMC_RING)) (h22 : W (.fld H.PMC_TRACE_POS)) (a0 : Nat) (a1 : Nat) (h : execPopc a0 a1 s = .next t) :
    Moves W s t := by
  unfold execPopc at h
  refine done_moves (by assumption) ?_ h
  repeat' (first
    | with_reducible assumption
    | with_reducible exact .refl
    | with_reducible apply Eng_alu_moves
    | intro _)

theorem execAddi_moves {W : Part → Prop} {s t : State} (h0 : W .msix) (h1 : W .qdr) (h2 : W (.fld F.ENG_GREG_VAL)) (h3 : W (.fld F.ENG_INT_CAUSE_FAULT)) (h4 : W (.fld F.ENG_STAT_FAULTED)) (h5 : W (.fld F.ENG_STAT_RUNNING)) (h6 : W (.fld F.ENG_THR_STAT_CAUSE)) (h7 : W (.fld F.ENG_THR_STAT_PC)) (h8 : W (.fld F.ENG_THR_STAT_STATE)) (h9 : W (.fld F.PMC_INT_CAUSE_OVF)) (h10 : W (.fld F.PMC_INT_CAUSE_SMP_AVAIL)) (h11 : W (.fld F.PMC_INT_CAUSE_SMP_DROP)) (h12 : W (.fld F.PMC_OVF_STAT_OVF)) (h13 : W (.fld F.PMC_SMP_DROP_RING)) (h14 : W (.fld F.PMC_SMP_STAT_COUNT)) (h15 : W (.fld H.ENG_PAST)) (h16 : W (.fld H.PMC_CNT)) (h17 : W (.fld H.PMC_OVF_DUE)) (h18 : W (.fld H.PMC_OVF_SKID)) (h19 : W (.fld H.PMC_OVF_T)) (h20 : W (.fld H.PMC_OVF_THR)) (h21 : W (.fld H.PMC_RING)) (h22 : W (.fld H.PMC_TRACE_POS)) (a0 : Nat) (a1 : Nat) (h : execAddi a0 a1 s = .next t) :
    Moves W s t := by
  unfold execAddi at h
  refine done_moves (by assumption) ?_ h
  repeat' (first
    | with_reducible assumption
    | with_reducible exact .refl
    | with_reducible apply Eng_immediate_moves
    | intro _)

theorem execAndi_moves {W : Part → Prop} {s t : State} (h0 : W .msix) (h1 : W .qdr) (h2 : W (.fld F.ENG_GREG_VAL)) (h3 : W (.fld F.ENG_INT_CAUSE_FAULT)) (h4 : W (.fld F.ENG_STAT_FAULTED)) (h5 : W (.fld F.ENG_STAT_RUNNING)) (h6 : W (.fld F.ENG_THR_STAT_CAUSE)) (h7 : W (.fld F.ENG_THR_STAT_PC)) (h8 : W (.fld F.ENG_THR_STAT_STATE)) (h9 : W (.fld F.PMC_INT_CAUSE_OVF)) (h10 : W (.fld F.PMC_INT_CAUSE_SMP_AVAIL)) (h11 : W (.fld F.PMC_INT_CAUSE_SMP_DROP)) (h12 : W (.fld F.PMC_OVF_STAT_OVF)) (h13 : W (.fld F.PMC_SMP_DROP_RING)) (h14 : W (.fld F.PMC_SMP_STAT_COUNT)) (h15 : W (.fld H.ENG_PAST)) (h16 : W (.fld H.PMC_CNT)) (h17 : W (.fld H.PMC_OVF_DUE)) (h18 : W (.fld H.PMC_OVF_SKID)) (h19 : W (.fld H.PMC_OVF_T)) (h20 : W (.fld H.PMC_OVF_THR)) (h21 : W (.fld H.PMC_RING)) (h22 : W (.fld H.PMC_TRACE_POS)) (a0 : Nat) (a1 : Nat) (h : execAndi a0 a1 s = .next t) :
    Moves W s t := by
  unfold execAndi at h
  refine done_moves (by assumption) ?_ h
  repeat' (first
    | with_reducible assumption
    | with_reducible exact .refl
    | with_reducible apply Eng_immediate_moves
    | intro _)

theorem execOri_moves {W : Part → Prop} {s t : State} (h0 : W .msix) (h1 : W .qdr) (h2 : W (.fld F.ENG_GREG_VAL)) (h3 : W (.fld F.ENG_INT_CAUSE_FAULT)) (h4 : W (.fld F.ENG_STAT_FAULTED)) (h5 : W (.fld F.ENG_STAT_RUNNING)) (h6 : W (.fld F.ENG_THR_STAT_CAUSE)) (h7 : W (.fld F.ENG_THR_STAT_PC)) (h8 : W (.fld F.ENG_THR_STAT_STATE)) (h9 : W (.fld F.PMC_INT_CAUSE_OVF)) (h10 : W (.fld F.PMC_INT_CAUSE_SMP_AVAIL)) (h11 : W (.fld F.PMC_INT_CAUSE_SMP_DROP)) (h12 : W (.fld F.PMC_OVF_STAT_OVF)) (h13 : W (.fld F.PMC_SMP_DROP_RING)) (h14 : W (.fld F.PMC_SMP_STAT_COUNT)) (h15 : W (.fld H.ENG_PAST)) (h16 : W (.fld H.PMC_CNT)) (h17 : W (.fld H.PMC_OVF_DUE)) (h18 : W (.fld H.PMC_OVF_SKID)) (h19 : W (.fld H.PMC_OVF_T)) (h20 : W (.fld H.PMC_OVF_THR)) (h21 : W (.fld H.PMC_RING)) (h22 : W (.fld H.PMC_TRACE_POS)) (a0 : Nat) (a1 : Nat) (h : execOri a0 a1 s = .next t) :
    Moves W s t := by
  unfold execOri at h
  refine done_moves (by assumption) ?_ h
  repeat' (first
    | with_reducible assumption
    | with_reducible exact .refl
    | with_reducible apply Eng_immediate_moves
    | intro _)

theorem execXori_moves {W : Part → Prop} {s t : State} (h0 : W .msix) (h1 : W .qdr) (h2 : W (.fld F.ENG_GREG_VAL)) (h3 : W (.fld F.ENG_INT_CAUSE_FAULT)) (h4 : W (.fld F.ENG_STAT_FAULTED)) (h5 : W (.fld F.ENG_STAT_RUNNING)) (h6 : W (.fld F.ENG_THR_STAT_CAUSE)) (h7 : W (.fld F.ENG_THR_STAT_PC)) (h8 : W (.fld F.ENG_THR_STAT_STATE)) (h9 : W (.fld F.PMC_INT_CAUSE_OVF)) (h10 : W (.fld F.PMC_INT_CAUSE_SMP_AVAIL)) (h11 : W (.fld F.PMC_INT_CAUSE_SMP_DROP)) (h12 : W (.fld F.PMC_OVF_STAT_OVF)) (h13 : W (.fld F.PMC_SMP_DROP_RING)) (h14 : W (.fld F.PMC_SMP_STAT_COUNT)) (h15 : W (.fld H.ENG_PAST)) (h16 : W (.fld H.PMC_CNT)) (h17 : W (.fld H.PMC_OVF_DUE)) (h18 : W (.fld H.PMC_OVF_SKID)) (h19 : W (.fld H.PMC_OVF_T)) (h20 : W (.fld H.PMC_OVF_THR)) (h21 : W (.fld H.PMC_RING)) (h22 : W (.fld H.PMC_TRACE_POS)) (a0 : Nat) (a1 : Nat) (h : execXori a0 a1 s = .next t) :
    Moves W s t := by
  unfold execXori at h
  refine done_moves (by assumption) ?_ h
  repeat' (first
    | with_reducible assumption
    | with_reducible exact .refl
    | with_reducible apply Eng_immediate_moves
    | intro _)

theorem execSlti_moves {W : Part → Prop} {s t : State} (h0 : W .msix) (h1 : W .qdr) (h2 : W (.fld F.ENG_GREG_VAL)) (h3 : W (.fld F.ENG_INT_CAUSE_FAULT)) (h4 : W (.fld F.ENG_STAT_FAULTED)) (h5 : W (.fld F.ENG_STAT_RUNNING)) (h6 : W (.fld F.ENG_THR_STAT_CAUSE)) (h7 : W (.fld F.ENG_THR_STAT_PC)) (h8 : W (.fld F.ENG_THR_STAT_STATE)) (h9 : W (.fld F.PMC_INT_CAUSE_OVF)) (h10 : W (.fld F.PMC_INT_CAUSE_SMP_AVAIL)) (h11 : W (.fld F.PMC_INT_CAUSE_SMP_DROP)) (h12 : W (.fld F.PMC_OVF_STAT_OVF)) (h13 : W (.fld F.PMC_SMP_DROP_RING)) (h14 : W (.fld F.PMC_SMP_STAT_COUNT)) (h15 : W (.fld H.ENG_PAST)) (h16 : W (.fld H.PMC_CNT)) (h17 : W (.fld H.PMC_OVF_DUE)) (h18 : W (.fld H.PMC_OVF_SKID)) (h19 : W (.fld H.PMC_OVF_T)) (h20 : W (.fld H.PMC_OVF_THR)) (h21 : W (.fld H.PMC_RING)) (h22 : W (.fld H.PMC_TRACE_POS)) (a0 : Nat) (a1 : Nat) (h : execSlti a0 a1 s = .next t) :
    Moves W s t := by
  unfold execSlti at h
  refine done_moves (by assumption) ?_ h
  repeat' (first
    | with_reducible assumption
    | with_reducible exact .refl
    | with_reducible apply Eng_immediate_moves
    | intro _
    | split)

theorem execShi_moves {W : Part → Prop} {s t : State} (h0 : W .msix) (h1 : W .qdr) (h2 : W (.fld F.ENG_GREG_VAL)) (h3 : W (.fld F.ENG_INT_CAUSE_FAULT)) (h4 : W (.fld F.ENG_STAT_FAULTED)) (h5 : W (.fld F.ENG_STAT_RUNNING)) (h6 : W (.fld F.ENG_THR_STAT_CAUSE)) (h7 : W (.fld F.ENG_THR_STAT_PC)) (h8 : W (.fld F.ENG_THR_STAT_STATE)) (h9 : W (.fld F.PMC_INT_CAUSE_OVF)) (h10 : W (.fld F.PMC_INT_CAUSE_SMP_AVAIL)) (h11 : W (.fld F.PMC_INT_CAUSE_SMP_DROP)) (h12 : W (.fld F.PMC_OVF_STAT_OVF)) (h13 : W (.fld F.PMC_SMP_DROP_RING)) (h14 : W (.fld F.PMC_SMP_STAT_COUNT)) (h15 : W (.fld H.ENG_PAST)) (h16 : W (.fld H.PMC_CNT)) (h17 : W (.fld H.PMC_OVF_DUE)) (h18 : W (.fld H.PMC_OVF_SKID)) (h19 : W (.fld H.PMC_OVF_T)) (h20 : W (.fld H.PMC_OVF_THR)) (h21 : W (.fld H.PMC_RING)) (h22 : W (.fld H.PMC_TRACE_POS)) (a0 : Nat) (a1 : Nat) (h : execShi a0 a1 s = .next t) :
    Moves W s t := by
  unfold execShi at h
  refine done_moves (by assumption) ?_ h
  repeat' (first
    | with_reducible assumption
    | with_reducible exact .refl
    | with_reducible apply Eng_immediate_moves
    | intro _)

theorem execLui_moves {W : Part → Prop} {s t : State} (h0 : W .msix) (h1 : W .qdr) (h2 : W (.fld F.ENG_GREG_VAL)) (h3 : W (.fld F.ENG_INT_CAUSE_FAULT)) (h4 : W (.fld F.ENG_STAT_FAULTED)) (h5 : W (.fld F.ENG_STAT_RUNNING)) (h6 : W (.fld F.ENG_THR_STAT_CAUSE)) (h7 : W (.fld F.ENG_THR_STAT_PC)) (h8 : W (.fld F.ENG_THR_STAT_STATE)) (h9 : W (.fld F.PMC_INT_CAUSE_OVF)) (h10 : W (.fld F.PMC_INT_CAUSE_SMP_AVAIL)) (h11 : W (.fld F.PMC_INT_CAUSE_SMP_DROP)) (h12 : W (.fld F.PMC_OVF_STAT_OVF)) (h13 : W (.fld F.PMC_SMP_DROP_RING)) (h14 : W (.fld F.PMC_SMP_STAT_COUNT)) (h15 : W (.fld H.ENG_PAST)) (h16 : W (.fld H.PMC_CNT)) (h17 : W (.fld H.PMC_OVF_DUE)) (h18 : W (.fld H.PMC_OVF_SKID)) (h19 : W (.fld H.PMC_OVF_T)) (h20 : W (.fld H.PMC_OVF_THR)) (h21 : W (.fld H.PMC_RING)) (h22 : W (.fld H.PMC_TRACE_POS)) (a0 : Nat) (a1 : Nat) (h : execLui a0 a1 s = .next t) :
    Moves W s t := by
  unfold execLui at h
  refine done_moves (by assumption) ?_ h
  repeat' (first
    | with_reducible assumption
    | with_reducible exact .refl
    | with_reducible apply Eng_immediate_moves
    | intro _)

theorem execBeq_moves {W : Part → Prop} {s t : State} (h0 : W .msix) (h1 : W .qdr) (h2 : W (.fld F.ENG_GREG_VAL)) (h3 : W (.fld F.ENG_INT_CAUSE_FAULT)) (h4 : W (.fld F.ENG_STAT_FAULTED)) (h5 : W (.fld F.ENG_STAT_RUNNING)) (h6 : W (.fld F.ENG_THR_STAT_CAUSE)) (h7 : W (.fld F.ENG_THR_STAT_PC)) (h8 : W (.fld F.ENG_THR_STAT_STATE)) (h9 : W (.fld F.PMC_INT_CAUSE_OVF)) (h10 : W (.fld F.PMC_INT_CAUSE_SMP_AVAIL)) (h11 : W (.fld F.PMC_INT_CAUSE_SMP_DROP)) (h12 : W (.fld F.PMC_OVF_STAT_OVF)) (h13 : W (.fld F.PMC_SMP_DROP_RING)) (h14 : W (.fld F.PMC_SMP_STAT_COUNT)) (h15 : W (.fld H.ENG_PAST)) (h16 : W (.fld H.PMC_CNT)) (h17 : W (.fld H.PMC_OVF_DUE)) (h18 : W (.fld H.PMC_OVF_SKID)) (h19 : W (.fld H.PMC_OVF_T)) (h20 : W (.fld H.PMC_OVF_THR)) (h21 : W (.fld H.PMC_RING)) (h22 : W (.fld H.PMC_TRACE_POS)) (a0 : Nat) (a1 : Nat) (h : execBeq a0 a1 s = .next t) :
    Moves W s t := by
  unfold execBeq at h
  refine done_moves (by assumption) ?_ h
  repeat' (first
    | with_reducible assumption
    | with_reducible exact .refl
    | with_reducible apply Eng_branch_moves
    | intro _)

theorem execBne_moves {W : Part → Prop} {s t : State} (h0 : W .msix) (h1 : W .qdr) (h2 : W (.fld F.ENG_GREG_VAL)) (h3 : W (.fld F.ENG_INT_CAUSE_FAULT)) (h4 : W (.fld F.ENG_STAT_FAULTED)) (h5 : W (.fld F.ENG_STAT_RUNNING)) (h6 : W (.fld F.ENG_THR_STAT_CAUSE)) (h7 : W (.fld F.ENG_THR_STAT_PC)) (h8 : W (.fld F.ENG_THR_STAT_STATE)) (h9 : W (.fld F.PMC_INT_CAUSE_OVF)) (h10 : W (.fld F.PMC_INT_CAUSE_SMP_AVAIL)) (h11 : W (.fld F.PMC_INT_CAUSE_SMP_DROP)) (h12 : W (.fld F.PMC_OVF_STAT_OVF)) (h13 : W (.fld F.PMC_SMP_DROP_RING)) (h14 : W (.fld F.PMC_SMP_STAT_COUNT)) (h15 : W (.fld H.ENG_PAST)) (h16 : W (.fld H.PMC_CNT)) (h17 : W (.fld H.PMC_OVF_DUE)) (h18 : W (.fld H.PMC_OVF_SKID)) (h19 : W (.fld H.PMC_OVF_T)) (h20 : W (.fld H.PMC_OVF_THR)) (h21 : W (.fld H.PMC_RING)) (h22 : W (.fld H.PMC_TRACE_POS)) (a0 : Nat) (a1 : Nat) (h : execBne a0 a1 s = .next t) :
    Moves W s t := by
  unfold execBne at h
  refine done_moves (by assumption) ?_ h
  repeat' (first
    | with_reducible assumption
    | with_reducible exact .refl
    | with_reducible apply Eng_branch_moves
    | intro _)

theorem execBlt_moves {W : Part → Prop} {s t : State} (h0 : W .msix) (h1 : W .qdr) (h2 : W (.fld F.ENG_GREG_VAL)) (h3 : W (.fld F.ENG_INT_CAUSE_FAULT)) (h4 : W (.fld F.ENG_STAT_FAULTED)) (h5 : W (.fld F.ENG_STAT_RUNNING)) (h6 : W (.fld F.ENG_THR_STAT_CAUSE)) (h7 : W (.fld F.ENG_THR_STAT_PC)) (h8 : W (.fld F.ENG_THR_STAT_STATE)) (h9 : W (.fld F.PMC_INT_CAUSE_OVF)) (h10 : W (.fld F.PMC_INT_CAUSE_SMP_AVAIL)) (h11 : W (.fld F.PMC_INT_CAUSE_SMP_DROP)) (h12 : W (.fld F.PMC_OVF_STAT_OVF)) (h13 : W (.fld F.PMC_SMP_DROP_RING)) (h14 : W (.fld F.PMC_SMP_STAT_COUNT)) (h15 : W (.fld H.ENG_PAST)) (h16 : W (.fld H.PMC_CNT)) (h17 : W (.fld H.PMC_OVF_DUE)) (h18 : W (.fld H.PMC_OVF_SKID)) (h19 : W (.fld H.PMC_OVF_T)) (h20 : W (.fld H.PMC_OVF_THR)) (h21 : W (.fld H.PMC_RING)) (h22 : W (.fld H.PMC_TRACE_POS)) (a0 : Nat) (a1 : Nat) (h : execBlt a0 a1 s = .next t) :
    Moves W s t := by
  unfold execBlt at h
  refine done_moves (by assumption) ?_ h
  repeat' (first
    | with_reducible assumption
    | with_reducible exact .refl
    | with_reducible apply Eng_branch_moves
    | intro _)

theorem execBge_moves {W : Part → Prop} {s t : State} (h0 : W .msix) (h1 : W .qdr) (h2 : W (.fld F.ENG_GREG_VAL)) (h3 : W (.fld F.ENG_INT_CAUSE_FAULT)) (h4 : W (.fld F.ENG_STAT_FAULTED)) (h5 : W (.fld F.ENG_STAT_RUNNING)) (h6 : W (.fld F.ENG_THR_STAT_CAUSE)) (h7 : W (.fld F.ENG_THR_STAT_PC)) (h8 : W (.fld F.ENG_THR_STAT_STATE)) (h9 : W (.fld F.PMC_INT_CAUSE_OVF)) (h10 : W (.fld F.PMC_INT_CAUSE_SMP_AVAIL)) (h11 : W (.fld F.PMC_INT_CAUSE_SMP_DROP)) (h12 : W (.fld F.PMC_OVF_STAT_OVF)) (h13 : W (.fld F.PMC_SMP_DROP_RING)) (h14 : W (.fld F.PMC_SMP_STAT_COUNT)) (h15 : W (.fld H.ENG_PAST)) (h16 : W (.fld H.PMC_CNT)) (h17 : W (.fld H.PMC_OVF_DUE)) (h18 : W (.fld H.PMC_OVF_SKID)) (h19 : W (.fld H.PMC_OVF_T)) (h20 : W (.fld H.PMC_OVF_THR)) (h21 : W (.fld H.PMC_RING)) (h22 : W (.fld H.PMC_TRACE_POS)) (a0 : Nat) (a1 : Nat) (h : execBge a0 a1 s = .next t) :
    Moves W s t := by
  unfold execBge at h
  refine done_moves (by assumption) ?_ h
  repeat' (first
    | with_reducible assumption
    | with_reducible exact .refl
    | with_reducible apply Eng_branch_moves
    | intro _)

theorem execBltu_moves {W : Part → Prop} {s t : State} (h0 : W .msix) (h1 : W .qdr) (h2 : W (.fld F.ENG_GREG_VAL)) (h3 : W (.fld F.ENG_INT_CAUSE_FAULT)) (h4 : W (.fld F.ENG_STAT_FAULTED)) (h5 : W (.fld F.ENG_STAT_RUNNING)) (h6 : W (.fld F.ENG_THR_STAT_CAUSE)) (h7 : W (.fld F.ENG_THR_STAT_PC)) (h8 : W (.fld F.ENG_THR_STAT_STATE)) (h9 : W (.fld F.PMC_INT_CAUSE_OVF)) (h10 : W (.fld F.PMC_INT_CAUSE_SMP_AVAIL)) (h11 : W (.fld F.PMC_INT_CAUSE_SMP_DROP)) (h12 : W (.fld F.PMC_OVF_STAT_OVF)) (h13 : W (.fld F.PMC_SMP_DROP_RING)) (h14 : W (.fld F.PMC_SMP_STAT_COUNT)) (h15 : W (.fld H.ENG_PAST)) (h16 : W (.fld H.PMC_CNT)) (h17 : W (.fld H.PMC_OVF_DUE)) (h18 : W (.fld H.PMC_OVF_SKID)) (h19 : W (.fld H.PMC_OVF_T)) (h20 : W (.fld H.PMC_OVF_THR)) (h21 : W (.fld H.PMC_RING)) (h22 : W (.fld H.PMC_TRACE_POS)) (a0 : Nat) (a1 : Nat) (h : execBltu a0 a1 s = .next t) :
    Moves W s t := by
  unfold execBltu at h
  refine done_moves (by assumption) ?_ h
  repeat' (first
    | with_reducible assumption
    | with_reducible exact .refl
    | with_reducible apply Eng_branch_moves
    | intro _)

theorem execBgeu_moves {W : Part → Prop} {s t : State} (h0 : W .msix) (h1 : W .qdr) (h2 : W (.fld F.ENG_GREG_VAL)) (h3 : W (.fld F.ENG_INT_CAUSE_FAULT)) (h4 : W (.fld F.ENG_STAT_FAULTED)) (h5 : W (.fld F.ENG_STAT_RUNNING)) (h6 : W (.fld F.ENG_THR_STAT_CAUSE)) (h7 : W (.fld F.ENG_THR_STAT_PC)) (h8 : W (.fld F.ENG_THR_STAT_STATE)) (h9 : W (.fld F.PMC_INT_CAUSE_OVF)) (h10 : W (.fld F.PMC_INT_CAUSE_SMP_AVAIL)) (h11 : W (.fld F.PMC_INT_CAUSE_SMP_DROP)) (h12 : W (.fld F.PMC_OVF_STAT_OVF)) (h13 : W (.fld F.PMC_SMP_DROP_RING)) (h14 : W (.fld F.PMC_SMP_STAT_COUNT)) (h15 : W (.fld H.ENG_PAST)) (h16 : W (.fld H.PMC_CNT)) (h17 : W (.fld H.PMC_OVF_DUE)) (h18 : W (.fld H.PMC_OVF_SKID)) (h19 : W (.fld H.PMC_OVF_T)) (h20 : W (.fld H.PMC_OVF_THR)) (h21 : W (.fld H.PMC_RING)) (h22 : W (.fld H.PMC_TRACE_POS)) (a0 : Nat) (a1 : Nat) (h : execBgeu a0 a1 s = .next t) :
    Moves W s t := by
  unfold execBgeu at h
  refine done_moves (by assumption) ?_ h
  repeat' (first
    | with_reducible assumption
    | with_reducible exact .refl
    | with_reducible apply Eng_branch_moves
    | intro _)

theorem execJal_moves {W : Part → Prop} {s t : State} (h0 : W .msix) (h1 : W .qdr) (h2 : W (.fld F.ENG_GREG_VAL)) (h3 : W (.fld F.ENG_INT_CAUSE_FAULT)) (h4 : W (.fld F.ENG_STAT_FAULTED)) (h5 : W (.fld F.ENG_STAT_RUNNING)) (h6 : W (.fld F.ENG_THR_STAT_CAUSE)) (h7 : W (.fld F.ENG_THR_STAT_PC)) (h8 : W (.fld F.ENG_THR_STAT_STATE)) (h9 : W (.fld F.PMC_INT_CAUSE_OVF)) (h10 : W (.fld F.PMC_INT_CAUSE_SMP_AVAIL)) (h11 : W (.fld F.PMC_INT_CAUSE_SMP_DROP)) (h12 : W (.fld F.PMC_OVF_STAT_OVF)) (h13 : W (.fld F.PMC_SMP_DROP_RING)) (h14 : W (.fld F.PMC_SMP_STAT_COUNT)) (h15 : W (.fld H.PMC_CNT)) (h16 : W (.fld H.PMC_OVF_DUE)) (h17 : W (.fld H.PMC_OVF_SKID)) (h18 : W (.fld H.PMC_OVF_T)) (h19 : W (.fld H.PMC_OVF_THR)) (h20 : W (.fld H.PMC_RING)) (h21 : W (.fld H.PMC_TRACE_POS)) (a0 : Nat) (a1 : Nat) (h : execJal a0 a1 s = .next t) :
    Moves W s t := by
  unfold execJal at h
  refine done_moves (by assumption) ?_ h
  repeat' (first
    | with_reducible assumption
    | with_reducible exact .refl
    | with_reducible apply Eng_jal_moves
    | intro _)

theorem execJalr_moves {W : Part → Prop} {s t : State} (h0 : W .msix) (h1 : W .qdr) (h2 : W (.fld F.ENG_GREG_VAL)) (h3 : W (.fld F.ENG_INT_CAUSE_FAULT)) (h4 : W (.fld F.ENG_STAT_FAULTED)) (h5 : W (.fld F.ENG_STAT_RUNNING)) (h6 : W (.fld F.ENG_THR_STAT_CAUSE)) (h7 : W (.fld F.ENG_THR_STAT_PC)) (h8 : W (.fld F.ENG_THR_STAT_STATE)) (h9 : W (.fld F.PMC_INT_CAUSE_OVF)) (h10 : W (.fld F.PMC_INT_CAUSE_SMP_AVAIL)) (h11 : W (.fld F.PMC_INT_CAUSE_SMP_DROP)) (h12 : W (.fld F.PMC_OVF_STAT_OVF)) (h13 : W (.fld F.PMC_SMP_DROP_RING)) (h14 : W (.fld F.PMC_SMP_STAT_COUNT)) (h15 : W (.fld H.PMC_CNT)) (h16 : W (.fld H.PMC_OVF_DUE)) (h17 : W (.fld H.PMC_OVF_SKID)) (h18 : W (.fld H.PMC_OVF_T)) (h19 : W (.fld H.PMC_OVF_THR)) (h20 : W (.fld H.PMC_RING)) (h21 : W (.fld H.PMC_TRACE_POS)) (a0 : Nat) (a1 : Nat) (h : execJalr a0 a1 s = .next t) :
    Moves W s t := by
  unfold execJalr at h
  refine done_moves (by assumption) ?_ h
  repeat' (first
    | with_reducible assumption
    | with_reducible exact .refl
    | with_reducible apply Eng_jalr_moves
    | intro _)

theorem execLdw_moves {W : Part → Prop} {s t : State} (h0 : W .msix) (h1 : W .qdr) (h2 : W (.fld F.ENG_GREG_VAL)) (h3 : W (.fld F.ENG_INT_CAUSE_FAULT)) (h4 : W (.fld F.ENG_STAT_FAULTED)) (h5 : W (.fld F.ENG_STAT_RUNNING)) (h6 : W (.fld F.ENG_THR_STAT_CAUSE)) (h7 : W (.fld F.ENG_THR_STAT_PC)) (h8 : W (.fld F.ENG_THR_STAT_STATE)) (h9 : W (.fld F.PMC_INT_CAUSE_OVF)) (h10 : W (.fld F.PMC_INT_CAUSE_SMP_AVAIL)) (h11 : W (.fld F.PMC_INT_CAUSE_SMP_DROP)) (h12 : W (.fld F.PMC_OVF_STAT_OVF)) (h13 : W (.fld F.PMC_SMP_DROP_RING)) (h14 : W (.fld F.PMC_SMP_STAT_COUNT)) (h15 : W (.fld H.ENG_PAST)) (h16 : W (.fld H.PMC_CNT)) (h17 : W (.fld H.PMC_OVF_DUE)) (h18 : W (.fld H.PMC_OVF_SKID)) (h19 : W (.fld H.PMC_OVF_T)) (h20 : W (.fld H.PMC_OVF_THR)) (h21 : W (.fld H.PMC_RING)) (h22 : W (.fld H.PMC_TRACE_POS)) (a0 : Nat) (a1 : Nat) (h : execLdw a0 a1 s = .next t) :
    Moves W s t := by
  unfold execLdw at h
  refine done_moves (by assumption) ?_ h
  repeat' (first
    | with_reducible assumption
    | with_reducible exact .refl
    | with_reducible apply Eng_ldw_moves
    | intro _)

theorem execStw_moves {W : Part → Prop} {s t : State} (h0 : W .msix) (h1 : W .qdr) (h2 : W (.fld F.ENG_GREG_VAL)) (h3 : W (.fld F.ENG_INT_CAUSE_FAULT)) (h4 : W (.fld F.ENG_STAT_FAULTED)) (h5 : W (.fld F.ENG_STAT_RUNNING)) (h6 : W (.fld F.ENG_THR_STAT_CAUSE)) (h7 : W (.fld F.ENG_THR_STAT_PC)) (h8 : W (.fld F.ENG_THR_STAT_STATE)) (h9 : W (.fld F.PMC_INT_CAUSE_OVF)) (h10 : W (.fld F.PMC_INT_CAUSE_SMP_AVAIL)) (h11 : W (.fld F.PMC_INT_CAUSE_SMP_DROP)) (h12 : W (.fld F.PMC_OVF_STAT_OVF)) (h13 : W (.fld F.PMC_SMP_DROP_RING)) (h14 : W (.fld F.PMC_SMP_STAT_COUNT)) (h15 : W (.fld H.ENG_DMEM)) (h16 : W (.fld H.ENG_PAST)) (h17 : W (.fld H.PMC_CNT)) (h18 : W (.fld H.PMC_OVF_DUE)) (h19 : W (.fld H.PMC_OVF_SKID)) (h20 : W (.fld H.PMC_OVF_T)) (h21 : W (.fld H.PMC_OVF_THR)) (h22 : W (.fld H.PMC_RING)) (h23 : W (.fld H.PMC_TRACE_POS)) (a0 : Nat) (a1 : Nat) (h : execStw a0 a1 s = .next t) :
    Moves W s t := by
  unfold execStw at h
  refine done_moves (by assumption) ?_ h
  repeat' (first
    | with_reducible assumption
    | with_reducible exact .refl
    | with_reducible apply Eng_stw_moves
    | intro _)

theorem execLxch_moves {W : Part → Prop} {s t : State} (h0 : W .msix) (h1 : W .qdr) (h2 : W (.fld F.ENG_GREG_VAL)) (h3 : W (.fld F.ENG_INT_CAUSE_FAULT)) (h4 : W (.fld F.ENG_STAT_FAULTED)) (h5 : W (.fld F.ENG_STAT_RUNNING)) (h6 : W (.fld F.ENG_THR_STAT_CAUSE)) (h7 : W (.fld F.ENG_THR_STAT_PC)) (h8 : W (.fld F.ENG_THR_STAT_STATE)) (h9 : W (.fld F.PMC_INT_CAUSE_OVF)) (h10 : W (.fld F.PMC_INT_CAUSE_SMP_AVAIL)) (h11 : W (.fld F.PMC_INT_CAUSE_SMP_DROP)) (h12 : W (.fld F.PMC_OVF_STAT_OVF)) (h13 : W (.fld F.PMC_SMP_DROP_RING)) (h14 : W (.fld F.PMC_SMP_STAT_COUNT)) (h15 : W (.fld H.ENG_DMEM)) (h16 : W (.fld H.ENG_PAST)) (h17 : W (.fld H.PMC_CNT)) (h18 : W (.fld H.PMC_OVF_DUE)) (h19 : W (.fld H.PMC_OVF_SKID)) (h20 : W (.fld H.PMC_OVF_T)) (h21 : W (.fld H.PMC_OVF_THR)) (h22 : W (.fld H.PMC_RING)) (h23 : W (.fld H.PMC_TRACE_POS)) (a0 : Nat) (a1 : Nat) (h : execLxch a0 a1 s = .next t) :
    Moves W s t := by
  unfold execLxch at h
  refine done_moves (by assumption) ?_ h
  repeat' (first
    | with_reducible assumption
    | with_reducible exact .refl
    | with_reducible apply Eng_local__moves
    | intro _)

theorem execLadd_moves {W : Part → Prop} {s t : State} (h0 : W .msix) (h1 : W .qdr) (h2 : W (.fld F.ENG_GREG_VAL)) (h3 : W (.fld F.ENG_INT_CAUSE_FAULT)) (h4 : W (.fld F.ENG_STAT_FAULTED)) (h5 : W (.fld F.ENG_STAT_RUNNING)) (h6 : W (.fld F.ENG_THR_STAT_CAUSE)) (h7 : W (.fld F.ENG_THR_STAT_PC)) (h8 : W (.fld F.ENG_THR_STAT_STATE)) (h9 : W (.fld F.PMC_INT_CAUSE_OVF)) (h10 : W (.fld F.PMC_INT_CAUSE_SMP_AVAIL)) (h11 : W (.fld F.PMC_INT_CAUSE_SMP_DROP)) (h12 : W (.fld F.PMC_OVF_STAT_OVF)) (h13 : W (.fld F.PMC_SMP_DROP_RING)) (h14 : W (.fld F.PMC_SMP_STAT_COUNT)) (h15 : W (.fld H.ENG_DMEM)) (h16 : W (.fld H.ENG_PAST)) (h17 : W (.fld H.PMC_CNT)) (h18 : W (.fld H.PMC_OVF_DUE)) (h19 : W (.fld H.PMC_OVF_SKID)) (h20 : W (.fld H.PMC_OVF_T)) (h21 : W (.fld H.PMC_OVF_THR)) (h22 : W (.fld H.PMC_RING)) (h23 : W (.fld H.PMC_TRACE_POS)) (a0 : Nat) (a1 : Nat) (h : execLadd a0 a1 s = .next t) :
    Moves W s t := by
  unfold execLadd at h
  refine done_moves (by assumption) ?_ h
  repeat' (first
    | with_reducible assumption
    | with_reducible exact .refl
    | with_reducible apply Eng_local__moves
    | intro _)

theorem execRld_moves {W : Part → Prop} {s t : State} (h0 : W .eng) (h1 : W .msix) (h2 : W .qdr) (h3 : W (.fld F.ENG_GREG_VAL)) (h4 : W (.fld F.ENG_INT_CAUSE_ABORT)) (h5 : W (.fld F.ENG_INT_CAUSE_FAULT)) (h6 : W (.fld F.ENG_INT_CAUSE_SPILL_LOST)) (h7 : W (.fld F.ENG_JRNL_HEAD_VAL)) (h8 : W (.fld F.ENG_JRNL_SEQ_VAL)) (h9 : W (.fld F.ENG_STAT_FAULTED)) (h10 : W (.fld F.ENG_STAT_INFLIGHT)) (h11 : W (.fld F.ENG_STAT_RUNNING)) (h12 : W (.fld F.ENG_STAT_TAGS_USED)) (h13 : W (.fld F.ENG_TAG_ALLOC)) (h14 : W (.fld F.ENG_TAG_AUTO)) (h15 : W (.fld F.ENG_TAG_JIDX)) (h16 : W (.fld F.ENG_TAG_STATE)) (h17 : W (.fld F.ENG_TAG_THREAD)) (h18 : W (.fld F.ENG_THR_STAT_CAUSE)) (h19 : W (.fld F.ENG_THR_STAT_PC)) (h20 : W (.fld F.ENG_THR_STAT_STATE)) (h21 : W (.fld F.PMC_INT_CAUSE_OVF)) (h22 : W (.fld F.PMC_INT_CAUSE_SMP_AVAIL)) (h23 : W (.fld F.PMC_INT_CAUSE_SMP_DROP)) (h24 : W (.fld F.PMC_OVF_STAT_OVF)) (h25 : W (.fld F.PMC_SMP_DROP_RING)) (h26 : W (.fld F.PMC_SMP_STAT_COUNT)) (h27 : W (.fld F.SE_SPILL_STAT_LOST)) (h28 : W (.fld H.ENG_JRNL)) (h29 : W (.fld H.ENG_JVALID)) (h30 : W (.fld H.ENG_PAST)) (h31 : W (.fld H.ENG_SPILL_CNT)) (h32 : W (.fld H.ENG_SPILL_MAP)) (h33 : W (.fld H.ENG_SPILL_POS)) (h34 : W (.fld H.PMC_CNT)) (h35 : W (.fld H.PMC_OVF_DUE)) (h36 : W (.fld H.PMC_OVF_SKID)) (h37 : W (.fld H.PMC_OVF_T)) (h38 : W (.fld H.PMC_OVF_THR)) (h39 : W (.fld H.PMC_RING)) (h40 : W (.fld H.PMC_TRACE_POS)) (a0 : Nat) (a1 : Nat) (h : execRld a0 a1 s = .next t) :
    Moves W s t := by
  unfold execRld at h
  refine done_moves (by assumption) ?_ h
  repeat' (first
    | with_reducible assumption
    | with_reducible exact .refl
    | with_reducible apply Eng_single_moves
    | intro _)

theorem execRst_moves {W : Part → Prop} {s t : State} (h0 : W .eng) (h1 : W .msix) (h2 : W .qdr) (h3 : W (.fld F.ENG_GREG_VAL)) (h4 : W (.fld F.ENG_INT_CAUSE_ABORT)) (h5 : W (.fld F.ENG_INT_CAUSE_FAULT)) (h6 : W (.fld F.ENG_INT_CAUSE_SPILL_LOST)) (h7 : W (.fld F.ENG_JRNL_HEAD_VAL)) (h8 : W (.fld F.ENG_JRNL_SEQ_VAL)) (h9 : W (.fld F.ENG_STAT_FAULTED)) (h10 : W (.fld F.ENG_STAT_INFLIGHT)) (h11 : W (.fld F.ENG_STAT_RUNNING)) (h12 : W (.fld F.ENG_STAT_TAGS_USED)) (h13 : W (.fld F.ENG_TAG_ALLOC)) (h14 : W (.fld F.ENG_TAG_AUTO)) (h15 : W (.fld F.ENG_TAG_JIDX)) (h16 : W (.fld F.ENG_TAG_STATE)) (h17 : W (.fld F.ENG_TAG_THREAD)) (h18 : W (.fld F.ENG_THR_STAT_CAUSE)) (h19 : W (.fld F.ENG_THR_STAT_PC)) (h20 : W (.fld F.ENG_THR_STAT_STATE)) (h21 : W (.fld F.PMC_INT_CAUSE_OVF)) (h22 : W (.fld F.PMC_INT_CAUSE_SMP_AVAIL)) (h23 : W (.fld F.PMC_INT_CAUSE_SMP_DROP)) (h24 : W (.fld F.PMC_OVF_STAT_OVF)) (h25 : W (.fld F.PMC_SMP_DROP_RING)) (h26 : W (.fld F.PMC_SMP_STAT_COUNT)) (h27 : W (.fld F.SE_SPILL_STAT_LOST)) (h28 : W (.fld H.ENG_JRNL)) (h29 : W (.fld H.ENG_JVALID)) (h30 : W (.fld H.ENG_PAST)) (h31 : W (.fld H.ENG_SPILL_CNT)) (h32 : W (.fld H.ENG_SPILL_MAP)) (h33 : W (.fld H.ENG_SPILL_POS)) (h34 : W (.fld H.PMC_CNT)) (h35 : W (.fld H.PMC_OVF_DUE)) (h36 : W (.fld H.PMC_OVF_SKID)) (h37 : W (.fld H.PMC_OVF_T)) (h38 : W (.fld H.PMC_OVF_THR)) (h39 : W (.fld H.PMC_RING)) (h40 : W (.fld H.PMC_TRACE_POS)) (a0 : Nat) (a1 : Nat) (h : execRst a0 a1 s = .next t) :
    Moves W s t := by
  unfold execRst at h
  refine done_moves (by assumption) ?_ h
  repeat' (first
    | with_reducible assumption
    | with_reducible exact .refl
    | with_reducible apply Eng_single_moves
    | intro _)

theorem execDmar_moves {W : Part → Prop} {s t : State} (h0 : W .eng) (h1 : W .msix) (h2 : W .qdr) (h3 : W (.fld F.ENG_GREG_VAL)) (h4 : W (.fld F.ENG_INT_CAUSE_ABORT)) (h5 : W (.fld F.ENG_INT_CAUSE_FAULT)) (h6 : W (.fld F.ENG_INT_CAUSE_SPILL_LOST)) (h7 : W (.fld F.ENG_JRNL_HEAD_VAL)) (h8 : W (.fld F.ENG_JRNL_SEQ_VAL)) (h9 : W (.fld F.ENG_STAT_FAULTED)) (h10 : W (.fld F.ENG_STAT_INFLIGHT)) (h11 : W (.fld F.ENG_STAT_RUNNING)) (h12 : W (.fld F.ENG_STAT_TAGS_USED)) (h13 : W (.fld F.ENG_TAG_ALLOC)) (h14 : W (.fld F.ENG_TAG_AUTO)) (h15 : W (.fld F.ENG_TAG_JIDX)) (h16 : W (.fld F.ENG_TAG_STATE)) (h17 : W (.fld F.ENG_TAG_THREAD)) (h18 : W (.fld F.ENG_THR_STAT_CAUSE)) (h19 : W (.fld F.ENG_THR_STAT_PC)) (h20 : W (.fld F.ENG_THR_STAT_STATE)) (h21 : W (.fld F.PMC_INT_CAUSE_OVF)) (h22 : W (.fld F.PMC_INT_CAUSE_SMP_AVAIL)) (h23 : W (.fld F.PMC_INT_CAUSE_SMP_DROP)) (h24 : W (.fld F.PMC_OVF_STAT_OVF)) (h25 : W (.fld F.PMC_SMP_DROP_RING)) (h26 : W (.fld F.PMC_SMP_STAT_COUNT)) (h27 : W (.fld F.SE_SPILL_STAT_LOST)) (h28 : W (.fld H.ENG_JRNL)) (h29 : W (.fld H.ENG_JVALID)) (h30 : W (.fld H.ENG_PAST)) (h31 : W (.fld H.ENG_SPILL_CNT)) (h32 : W (.fld H.ENG_SPILL_MAP)) (h33 : W (.fld H.ENG_SPILL_POS)) (h34 : W (.fld H.PMC_CNT)) (h35 : W (.fld H.PMC_OVF_DUE)) (h36 : W (.fld H.PMC_OVF_SKID)) (h37 : W (.fld H.PMC_OVF_T)) (h38 : W (.fld H.PMC_OVF_THR)) (h39 : W (.fld H.PMC_RING)) (h40 : W (.fld H.PMC_TRACE_POS)) (a0 : Nat) (a1 : Nat) (h : execDmar a0 a1 s = .next t) :
    Moves W s t := by
  unfold execDmar at h
  refine done_moves (by assumption) ?_ h
  repeat' (first
    | with_reducible assumption
    | with_reducible exact .refl
    | with_reducible apply Eng_dma_moves
    | intro _)

theorem execDmaw_moves {W : Part → Prop} {s t : State} (h0 : W .eng) (h1 : W .msix) (h2 : W .qdr) (h3 : W (.fld F.ENG_GREG_VAL)) (h4 : W (.fld F.ENG_INT_CAUSE_ABORT)) (h5 : W (.fld F.ENG_INT_CAUSE_FAULT)) (h6 : W (.fld F.ENG_INT_CAUSE_SPILL_LOST)) (h7 : W (.fld F.ENG_JRNL_HEAD_VAL)) (h8 : W (.fld F.ENG_JRNL_SEQ_VAL)) (h9 : W (.fld F.ENG_STAT_FAULTED)) (h10 : W (.fld F.ENG_STAT_INFLIGHT)) (h11 : W (.fld F.ENG_STAT_RUNNING)) (h12 : W (.fld F.ENG_STAT_TAGS_USED)) (h13 : W (.fld F.ENG_TAG_ALLOC)) (h14 : W (.fld F.ENG_TAG_AUTO)) (h15 : W (.fld F.ENG_TAG_JIDX)) (h16 : W (.fld F.ENG_TAG_STATE)) (h17 : W (.fld F.ENG_TAG_THREAD)) (h18 : W (.fld F.ENG_THR_STAT_CAUSE)) (h19 : W (.fld F.ENG_THR_STAT_PC)) (h20 : W (.fld F.ENG_THR_STAT_STATE)) (h21 : W (.fld F.PMC_INT_CAUSE_OVF)) (h22 : W (.fld F.PMC_INT_CAUSE_SMP_AVAIL)) (h23 : W (.fld F.PMC_INT_CAUSE_SMP_DROP)) (h24 : W (.fld F.PMC_OVF_STAT_OVF)) (h25 : W (.fld F.PMC_SMP_DROP_RING)) (h26 : W (.fld F.PMC_SMP_STAT_COUNT)) (h27 : W (.fld F.SE_SPILL_STAT_LOST)) (h28 : W (.fld H.ENG_JRNL)) (h29 : W (.fld H.ENG_JVALID)) (h30 : W (.fld H.ENG_PAST)) (h31 : W (.fld H.ENG_SPILL_CNT)) (h32 : W (.fld H.ENG_SPILL_MAP)) (h33 : W (.fld H.ENG_SPILL_POS)) (h34 : W (.fld H.PMC_CNT)) (h35 : W (.fld H.PMC_OVF_DUE)) (h36 : W (.fld H.PMC_OVF_SKID)) (h37 : W (.fld H.PMC_OVF_T)) (h38 : W (.fld H.PMC_OVF_THR)) (h39 : W (.fld H.PMC_RING)) (h40 : W (.fld H.PMC_TRACE_POS)) (a0 : Nat) (a1 : Nat) (h : execDmaw a0 a1 s = .next t) :
    Moves W s t := by
  unfold execDmaw at h
  refine done_moves (by assumption) ?_ h
  repeat' (first
    | with_reducible assumption
    | with_reducible exact .refl
    | with_reducible apply Eng_dma_moves
    | intro _)

theorem execQrd_moves {W : Part → Prop} {s t : State} (h0 : W .eng) (h1 : W .msix) (h2 : W .qdr) (h3 : W (.fld F.ENG_GREG_VAL)) (h4 : W (.fld F.ENG_INT_CAUSE_ABORT)) (h5 : W (.fld F.ENG_INT_CAUSE_FAULT)) (h6 : W (.fld F.ENG_INT_CAUSE_SPILL_LOST)) (h7 : W (.fld F.ENG_JRNL_HEAD_VAL)) (h8 : W (.fld F.ENG_JRNL_SEQ_VAL)) (h9 : W (.fld F.ENG_STAT_FAULTED)) (h10 : W (.fld F.ENG_STAT_INFLIGHT)) (h11 : W (.fld F.ENG_STAT_RUNNING)) (h12 : W (.fld F.ENG_STAT_TAGS_USED)) (h13 : W (.fld F.ENG_TAG_ALLOC)) (h14 : W (.fld F.ENG_TAG_AUTO)) (h15 : W (.fld F.ENG_TAG_JIDX)) (h16 : W (.fld F.ENG_TAG_STATE)) (h17 : W (.fld F.ENG_TAG_THREAD)) (h18 : W (.fld F.ENG_THR_STAT_CAUSE)) (h19 : W (.fld F.ENG_THR_STAT_PC)) (h20 : W (.fld F.ENG_THR_STAT_STATE)) (h21 : W (.fld F.PMC_INT_CAUSE_OVF)) (h22 : W (.fld F.PMC_INT_CAUSE_SMP_AVAIL)) (h23 : W (.fld F.PMC_INT_CAUSE_SMP_DROP)) (h24 : W (.fld F.PMC_OVF_STAT_OVF)) (h25 : W (.fld F.PMC_SMP_DROP_RING)) (h26 : W (.fld F.PMC_SMP_STAT_COUNT)) (h27 : W (.fld F.SE_SPILL_STAT_LOST)) (h28 : W (.fld H.ENG_JRNL)) (h29 : W (.fld H.ENG_JVALID)) (h30 : W (.fld H.ENG_PAST)) (h31 : W (.fld H.ENG_SPILL_CNT)) (h32 : W (.fld H.ENG_SPILL_MAP)) (h33 : W (.fld H.ENG_SPILL_POS)) (h34 : W (.fld H.PMC_CNT)) (h35 : W (.fld H.PMC_OVF_DUE)) (h36 : W (.fld H.PMC_OVF_SKID)) (h37 : W (.fld H.PMC_OVF_T)) (h38 : W (.fld H.PMC_OVF_THR)) (h39 : W (.fld H.PMC_RING)) (h40 : W (.fld H.PMC_TRACE_POS)) (a0 : Nat) (a1 : Nat) (h : execQrd a0 a1 s = .next t) :
    Moves W s t := by
  unfold execQrd at h
  refine done_moves (by assumption) ?_ h
  repeat' (first
    | with_reducible assumption
    | with_reducible exact .refl
    | with_reducible apply Eng_qdr_moves
    | intro _)

theorem execQwr_moves {W : Part → Prop} {s t : State} (h0 : W .eng) (h1 : W .msix) (h2 : W .qdr) (h3 : W (.fld F.ENG_GREG_VAL)) (h4 : W (.fld F.ENG_INT_CAUSE_ABORT)) (h5 : W (.fld F.ENG_INT_CAUSE_FAULT)) (h6 : W (.fld F.ENG_INT_CAUSE_SPILL_LOST)) (h7 : W (.fld F.ENG_JRNL_HEAD_VAL)) (h8 : W (.fld F.ENG_JRNL_SEQ_VAL)) (h9 : W (.fld F.ENG_STAT_FAULTED)) (h10 : W (.fld F.ENG_STAT_INFLIGHT)) (h11 : W (.fld F.ENG_STAT_RUNNING)) (h12 : W (.fld F.ENG_STAT_TAGS_USED)) (h13 : W (.fld F.ENG_TAG_ALLOC)) (h14 : W (.fld F.ENG_TAG_AUTO)) (h15 : W (.fld F.ENG_TAG_JIDX)) (h16 : W (.fld F.ENG_TAG_STATE)) (h17 : W (.fld F.ENG_TAG_THREAD)) (h18 : W (.fld F.ENG_THR_STAT_CAUSE)) (h19 : W (.fld F.ENG_THR_STAT_PC)) (h20 : W (.fld F.ENG_THR_STAT_STATE)) (h21 : W (.fld F.PMC_INT_CAUSE_OVF)) (h22 : W (.fld F.PMC_INT_CAUSE_SMP_AVAIL)) (h23 : W (.fld F.PMC_INT_CAUSE_SMP_DROP)) (h24 : W (.fld F.PMC_OVF_STAT_OVF)) (h25 : W (.fld F.PMC_SMP_DROP_RING)) (h26 : W (.fld F.PMC_SMP_STAT_COUNT)) (h27 : W (.fld F.SE_SPILL_STAT_LOST)) (h28 : W (.fld H.ENG_JRNL)) (h29 : W (.fld H.ENG_JVALID)) (h30 : W (.fld H.ENG_PAST)) (h31 : W (.fld H.ENG_SPILL_CNT)) (h32 : W (.fld H.ENG_SPILL_MAP)) (h33 : W (.fld H.ENG_SPILL_POS)) (h34 : W (.fld H.PMC_CNT)) (h35 : W (.fld H.PMC_OVF_DUE)) (h36 : W (.fld H.PMC_OVF_SKID)) (h37 : W (.fld H.PMC_OVF_T)) (h38 : W (.fld H.PMC_OVF_THR)) (h39 : W (.fld H.PMC_RING)) (h40 : W (.fld H.PMC_TRACE_POS)) (a0 : Nat) (a1 : Nat) (h : execQwr a0 a1 s = .next t) :
    Moves W s t := by
  unfold execQwr at h
  refine done_moves (by assumption) ?_ h
  repeat' (first
    | with_reducible assumption
    | with_reducible exact .refl
    | with_reducible apply Eng_qdr_moves
    | intro _)

theorem execAswp_moves {W : Part → Prop} {s t : State} (h0 : W .eng) (h1 : W .msix) (h2 : W .qdr) (h3 : W (.fld F.ENG_GREG_VAL)) (h4 : W (.fld F.ENG_INT_CAUSE_ABORT)) (h5 : W (.fld F.ENG_INT_CAUSE_FAULT)) (h6 : W (.fld F.ENG_INT_CAUSE_SPILL_LOST)) (h7 : W (.fld F.ENG_JRNL_HEAD_VAL)) (h8 : W (.fld F.ENG_JRNL_SEQ_VAL)) (h9 : W (.fld F.ENG_STAT_FAULTED)) (h10 : W (.fld F.ENG_STAT_INFLIGHT)) (h11 : W (.fld F.ENG_STAT_RUNNING)) (h12 : W (.fld F.ENG_STAT_TAGS_USED)) (h13 : W (.fld F.ENG_TAG_ALLOC)) (h14 : W (.fld F.ENG_TAG_AUTO)) (h15 : W (.fld F.ENG_TAG_JIDX)) (h16 : W (.fld F.ENG_TAG_STATE)) (h17 : W (.fld F.ENG_TAG_THREAD)) (h18 : W (.fld F.ENG_THR_STAT_CAUSE)) (h19 : W (.fld F.ENG_THR_STAT_PC)) (h20 : W (.fld F.ENG_THR_STAT_STATE)) (h21 : W (.fld F.PMC_INT_CAUSE_OVF)) (h22 : W (.fld F.PMC_INT_CAUSE_SMP_AVAIL)) (h23 : W (.fld F.PMC_INT_CAUSE_SMP_DROP)) (h24 : W (.fld F.PMC_OVF_STAT_OVF)) (h25 : W (.fld F.PMC_SMP_DROP_RING)) (h26 : W (.fld F.PMC_SMP_STAT_COUNT)) (h27 : W (.fld F.SE_SPILL_STAT_LOST)) (h28 : W (.fld H.ENG_JRNL)) (h29 : W (.fld H.ENG_JVALID)) (h30 : W (.fld H.ENG_PAST)) (h31 : W (.fld H.ENG_SPILL_CNT)) (h32 : W (.fld H.ENG_SPILL_MAP)) (h33 : W (.fld H.ENG_SPILL_POS)) (h34 : W (.fld H.PMC_CNT)) (h35 : W (.fld H.PMC_OVF_DUE)) (h36 : W (.fld H.PMC_OVF_SKID)) (h37 : W (.fld H.PMC_OVF_T)) (h38 : W (.fld H.PMC_OVF_THR)) (h39 : W (.fld H.PMC_RING)) (h40 : W (.fld H.PMC_TRACE_POS)) (a0 : Nat) (a1 : Nat) (h : execAswp a0 a1 s = .next t) :
    Moves W s t := by
  unfold execAswp at h
  refine done_moves (by assumption) ?_ h
  repeat' (first
    | with_reducible assumption
    | with_reducible exact .refl
    | with_reducible apply Eng_single_moves
    | intro _)

theorem execAadd_moves {W : Part → Prop} {s t : State} (h0 : W .eng) (h1 : W .msix) (h2 : W .qdr) (h3 : W (.fld F.ENG_GREG_VAL)) (h4 : W (.fld F.ENG_INT_CAUSE_ABORT)) (h5 : W (.fld F.ENG_INT_CAUSE_FAULT)) (h6 : W (.fld F.ENG_INT_CAUSE_SPILL_LOST)) (h7 : W (.fld F.ENG_JRNL_HEAD_VAL)) (h8 : W (.fld F.ENG_JRNL_SEQ_VAL)) (h9 : W (.fld F.ENG_STAT_FAULTED)) (h10 : W (.fld F.ENG_STAT_INFLIGHT)) (h11 : W (.fld F.ENG_STAT_RUNNING)) (h12 : W (.fld F.ENG_STAT_TAGS_USED)) (h13 : W (.fld F.ENG_TAG_ALLOC)) (h14 : W (.fld F.ENG_TAG_AUTO)) (h15 : W (.fld F.ENG_TAG_JIDX)) (h16 : W (.fld F.ENG_TAG_STATE)) (h17 : W (.fld F.ENG_TAG_THREAD)) (h18 : W (.fld F.ENG_THR_STAT_CAUSE)) (h19 : W (.fld F.ENG_THR_STAT_PC)) (h20 : W (.fld F.ENG_THR_STAT_STATE)) (h21 : W (.fld F.PMC_INT_CAUSE_OVF)) (h22 : W (.fld F.PMC_INT_CAUSE_SMP_AVAIL)) (h23 : W (.fld F.PMC_INT_CAUSE_SMP_DROP)) (h24 : W (.fld F.PMC_OVF_STAT_OVF)) (h25 : W (.fld F.PMC_SMP_DROP_RING)) (h26 : W (.fld F.PMC_SMP_STAT_COUNT)) (h27 : W (.fld F.SE_SPILL_STAT_LOST)) (h28 : W (.fld H.ENG_JRNL)) (h29 : W (.fld H.ENG_JVALID)) (h30 : W (.fld H.ENG_PAST)) (h31 : W (.fld H.ENG_SPILL_CNT)) (h32 : W (.fld H.ENG_SPILL_MAP)) (h33 : W (.fld H.ENG_SPILL_POS)) (h34 : W (.fld H.PMC_CNT)) (h35 : W (.fld H.PMC_OVF_DUE)) (h36 : W (.fld H.PMC_OVF_SKID)) (h37 : W (.fld H.PMC_OVF_T)) (h38 : W (.fld H.PMC_OVF_THR)) (h39 : W (.fld H.PMC_RING)) (h40 : W (.fld H.PMC_TRACE_POS)) (a0 : Nat) (a1 : Nat) (h : execAadd a0 a1 s = .next t) :
    Moves W s t := by
  unfold execAadd at h
  refine done_moves (by assumption) ?_ h
  repeat' (first
    | with_reducible assumption
    | with_reducible exact .refl
    | with_reducible apply Eng_single_moves
    | intro _)

theorem execAand_moves {W : Part → Prop} {s t : State} (h0 : W .eng) (h1 : W .msix) (h2 : W .qdr) (h3 : W (.fld F.ENG_GREG_VAL)) (h4 : W (.fld F.ENG_INT_CAUSE_ABORT)) (h5 : W (.fld F.ENG_INT_CAUSE_FAULT)) (h6 : W (.fld F.ENG_INT_CAUSE_SPILL_LOST)) (h7 : W (.fld F.ENG_JRNL_HEAD_VAL)) (h8 : W (.fld F.ENG_JRNL_SEQ_VAL)) (h9 : W (.fld F.ENG_STAT_FAULTED)) (h10 : W (.fld F.ENG_STAT_INFLIGHT)) (h11 : W (.fld F.ENG_STAT_RUNNING)) (h12 : W (.fld F.ENG_STAT_TAGS_USED)) (h13 : W (.fld F.ENG_TAG_ALLOC)) (h14 : W (.fld F.ENG_TAG_AUTO)) (h15 : W (.fld F.ENG_TAG_JIDX)) (h16 : W (.fld F.ENG_TAG_STATE)) (h17 : W (.fld F.ENG_TAG_THREAD)) (h18 : W (.fld F.ENG_THR_STAT_CAUSE)) (h19 : W (.fld F.ENG_THR_STAT_PC)) (h20 : W (.fld F.ENG_THR_STAT_STATE)) (h21 : W (.fld F.PMC_INT_CAUSE_OVF)) (h22 : W (.fld F.PMC_INT_CAUSE_SMP_AVAIL)) (h23 : W (.fld F.PMC_INT_CAUSE_SMP_DROP)) (h24 : W (.fld F.PMC_OVF_STAT_OVF)) (h25 : W (.fld F.PMC_SMP_DROP_RING)) (h26 : W (.fld F.PMC_SMP_STAT_COUNT)) (h27 : W (.fld F.SE_SPILL_STAT_LOST)) (h28 : W (.fld H.ENG_JRNL)) (h29 : W (.fld H.ENG_JVALID)) (h30 : W (.fld H.ENG_PAST)) (h31 : W (.fld H.ENG_SPILL_CNT)) (h32 : W (.fld H.ENG_SPILL_MAP)) (h33 : W (.fld H.ENG_SPILL_POS)) (h34 : W (.fld H.PMC_CNT)) (h35 : W (.fld H.PMC_OVF_DUE)) (h36 : W (.fld H.PMC_OVF_SKID)) (h37 : W (.fld H.PMC_OVF_T)) (h38 : W (.fld H.PMC_OVF_THR)) (h39 : W (.fld H.PMC_RING)) (h40 : W (.fld H.PMC_TRACE_POS)) (a0 : Nat) (a1 : Nat) (h : execAand a0 a1 s = .next t) :
    Moves W s t := by
  unfold execAand at h
  refine done_moves (by assumption) ?_ h
  repeat' (first
    | with_reducible assumption
    | with_reducible exact .refl
    | with_reducible apply Eng_single_moves
    | intro _)

theorem execAor_moves {W : Part → Prop} {s t : State} (h0 : W .eng) (h1 : W .msix) (h2 : W .qdr) (h3 : W (.fld F.ENG_GREG_VAL)) (h4 : W (.fld F.ENG_INT_CAUSE_ABORT)) (h5 : W (.fld F.ENG_INT_CAUSE_FAULT)) (h6 : W (.fld F.ENG_INT_CAUSE_SPILL_LOST)) (h7 : W (.fld F.ENG_JRNL_HEAD_VAL)) (h8 : W (.fld F.ENG_JRNL_SEQ_VAL)) (h9 : W (.fld F.ENG_STAT_FAULTED)) (h10 : W (.fld F.ENG_STAT_INFLIGHT)) (h11 : W (.fld F.ENG_STAT_RUNNING)) (h12 : W (.fld F.ENG_STAT_TAGS_USED)) (h13 : W (.fld F.ENG_TAG_ALLOC)) (h14 : W (.fld F.ENG_TAG_AUTO)) (h15 : W (.fld F.ENG_TAG_JIDX)) (h16 : W (.fld F.ENG_TAG_STATE)) (h17 : W (.fld F.ENG_TAG_THREAD)) (h18 : W (.fld F.ENG_THR_STAT_CAUSE)) (h19 : W (.fld F.ENG_THR_STAT_PC)) (h20 : W (.fld F.ENG_THR_STAT_STATE)) (h21 : W (.fld F.PMC_INT_CAUSE_OVF)) (h22 : W (.fld F.PMC_INT_CAUSE_SMP_AVAIL)) (h23 : W (.fld F.PMC_INT_CAUSE_SMP_DROP)) (h24 : W (.fld F.PMC_OVF_STAT_OVF)) (h25 : W (.fld F.PMC_SMP_DROP_RING)) (h26 : W (.fld F.PMC_SMP_STAT_COUNT)) (h27 : W (.fld F.SE_SPILL_STAT_LOST)) (h28 : W (.fld H.ENG_JRNL)) (h29 : W (.fld H.ENG_JVALID)) (h30 : W (.fld H.ENG_PAST)) (h31 : W (.fld H.ENG_SPILL_CNT)) (h32 : W (.fld H.ENG_SPILL_MAP)) (h33 : W (.fld H.ENG_SPILL_POS)) (h34 : W (.fld H.PMC_CNT)) (h35 : W (.fld H.PMC_OVF_DUE)) (h36 : W (.fld H.PMC_OVF_SKID)) (h37 : W (.fld H.PMC_OVF_T)) (h38 : W (.fld H.PMC_OVF_THR)) (h39 : W (.fld H.PMC_RING)) (h40 : W (.fld H.PMC_TRACE_POS)) (a0 : Nat) (a1 : Nat) (h : execAor a0 a1 s = .next t) :
    Moves W s t := by
  unfold execAor at h
  refine done_moves (by assumption) ?_ h
  repeat' (first
    | with_reducible assumption
    | with_reducible exact .refl
    | with_reducible apply Eng_single_moves
    | intro _)

theorem execAcas_moves {W : Part → Prop} {s t : State} (h0 : W .eng) (h1 : W .msix) (h2 : W .qdr) (h3 : W (.fld F.ENG_GREG_VAL)) (h4 : W (.fld F.ENG_INT_CAUSE_ABORT)) (h5 : W (.fld F.ENG_INT_CAUSE_FAULT)) (h6 : W (.fld F.ENG_INT_CAUSE_SPILL_LOST)) (h7 : W (.fld F.ENG_JRNL_HEAD_VAL)) (h8 : W (.fld F.ENG_JRNL_SEQ_VAL)) (h9 : W (.fld F.ENG_STAT_FAULTED)) (h10 : W (.fld F.ENG_STAT_INFLIGHT)) (h11 : W (.fld F.ENG_STAT_RUNNING)) (h12 : W (.fld F.ENG_STAT_TAGS_USED)) (h13 : W (.fld F.ENG_TAG_ALLOC)) (h14 : W (.fld F.ENG_TAG_AUTO)) (h15 : W (.fld F.ENG_TAG_JIDX)) (h16 : W (.fld F.ENG_TAG_STATE)) (h17 : W (.fld F.ENG_TAG_THREAD)) (h18 : W (.fld F.ENG_THR_STAT_CAUSE)) (h19 : W (.fld F.ENG_THR_STAT_PC)) (h20 : W (.fld F.ENG_THR_STAT_STATE)) (h21 : W (.fld F.PMC_INT_CAUSE_OVF)) (h22 : W (.fld F.PMC_INT_CAUSE_SMP_AVAIL)) (h23 : W (.fld F.PMC_INT_CAUSE_SMP_DROP)) (h24 : W (.fld F.PMC_OVF_STAT_OVF)) (h25 : W (.fld F.PMC_SMP_DROP_RING)) (h26 : W (.fld F.PMC_SMP_STAT_COUNT)) (h27 : W (.fld F.SE_SPILL_STAT_LOST)) (h28 : W (.fld H.ENG_JRNL)) (h29 : W (.fld H.ENG_JVALID)) (h30 : W (.fld H.ENG_PAST)) (h31 : W (.fld H.ENG_SPILL_CNT)) (h32 : W (.fld H.ENG_SPILL_MAP)) (h33 : W (.fld H.ENG_SPILL_POS)) (h34 : W (.fld H.PMC_CNT)) (h35 : W (.fld H.PMC_OVF_DUE)) (h36 : W (.fld H.PMC_OVF_SKID)) (h37 : W (.fld H.PMC_OVF_T)) (h38 : W (.fld H.PMC_OVF_THR)) (h39 : W (.fld H.PMC_RING)) (h40 : W (.fld H.PMC_TRACE_POS)) (a0 : Nat) (a1 : Nat) (h : execAcas a0 a1 s = .next t) :
    Moves W s t := by
  unfold execAcas at h
  refine done_moves (by assumption) ?_ h
  repeat' (first
    | with_reducible assumption
    | with_reducible exact .refl
    | with_reducible apply Eng_single_moves
    | intro _)

theorem execWait_moves {W : Part → Prop} {s t : State} (h0 : W .msix) (h1 : W .qdr) (h2 : W (.fld F.ENG_GREG_VAL)) (h3 : W (.fld F.ENG_INT_CAUSE_FAULT)) (h4 : W (.fld F.ENG_STAT_FAULTED)) (h5 : W (.fld F.ENG_STAT_RUNNING)) (h6 : W (.fld F.ENG_STAT_TAGS_USED)) (h7 : W (.fld F.ENG_TAG_ALLOC)) (h8 : W (.fld F.ENG_THR_STAT_CAUSE)) (h9 : W (.fld F.ENG_THR_STAT_PC)) (h10 : W (.fld F.ENG_THR_STAT_STATE)) (h11 : W (.fld F.PMC_INT_CAUSE_OVF)) (h12 : W (.fld F.PMC_INT_CAUSE_SMP_AVAIL)) (h13 : W (.fld F.PMC_INT_CAUSE_SMP_DROP)) (h14 : W (.fld F.PMC_OVF_STAT_OVF)) (h15 : W (.fld F.PMC_SMP_DROP_RING)) (h16 : W (.fld F.PMC_SMP_STAT_COUNT)) (h17 : W (.fld H.ENG_EDGE)) (h18 : W (.fld H.ENG_PAST)) (h19 : W (.fld H.PMC_CNT)) (h20 : W (.fld H.PMC_OVF_DUE)) (h21 : W (.fld H.PMC_OVF_SKID)) (h22 : W (.fld H.PMC_OVF_T)) (h23 : W (.fld H.PMC_OVF_THR)) (h24 : W (.fld H.PMC_RING)) (h25 : W (.fld H.PMC_TRACE_POS)) (a0 : Nat) (a1 : Nat) (h : execWait a0 a1 s = .next t) :
    Moves W s t := by
  unfold execWait at h
  refine done_moves (by assumption) ?_ h
  repeat' (first
    | with_reducible assumption
    | with_reducible exact .refl
    | with_reducible apply Eng_wait_moves
    | intro _)

theorem execFence_moves {W : Part → Prop} {s t : State} (h0 : W .msix) (h1 : W .qdr) (h2 : W (.fld F.ENG_GREG_VAL)) (h3 : W (.fld F.ENG_INT_CAUSE_FAULT)) (h4 : W (.fld F.ENG_STAT_FAULTED)) (h5 : W (.fld F.ENG_STAT_RUNNING)) (h6 : W (.fld F.ENG_THR_STAT_CAUSE)) (h7 : W (.fld F.ENG_THR_STAT_PC)) (h8 : W (.fld F.ENG_THR_STAT_STATE)) (h9 : W (.fld F.PMC_INT_CAUSE_OVF)) (h10 : W (.fld F.PMC_INT_CAUSE_SMP_AVAIL)) (h11 : W (.fld F.PMC_INT_CAUSE_SMP_DROP)) (h12 : W (.fld F.PMC_OVF_STAT_OVF)) (h13 : W (.fld F.PMC_SMP_DROP_RING)) (h14 : W (.fld F.PMC_SMP_STAT_COUNT)) (h15 : W (.fld H.ENG_PAST)) (h16 : W (.fld H.PMC_CNT)) (h17 : W (.fld H.PMC_OVF_DUE)) (h18 : W (.fld H.PMC_OVF_SKID)) (h19 : W (.fld H.PMC_OVF_T)) (h20 : W (.fld H.PMC_OVF_THR)) (h21 : W (.fld H.PMC_RING)) (h22 : W (.fld H.PMC_TRACE_POS)) (a0 : Nat) (a1 : Nat) (h : execFence a0 a1 s = .next t) :
    Moves W s t := by
  unfold execFence at h
  refine done_moves (by assumption) ?_ h
  repeat' (first
    | with_reducible assumption
    | with_reducible exact .refl
    | with_reducible apply Eng_fence_moves
    | intro _)

theorem execJmark_moves {W : Part → Prop} {s t : State} (h0 : W .msix) (h1 : W .qdr) (h2 : W (.fld F.ENG_GREG_VAL)) (h3 : W (.fld F.ENG_INT_CAUSE_FAULT)) (h4 : W (.fld F.ENG_INT_CAUSE_SPILL_LOST)) (h5 : W (.fld F.ENG_JRNL_HEAD_VAL)) (h6 : W (.fld F.ENG_JRNL_SEQ_VAL)) (h7 : W (.fld F.ENG_STAT_FAULTED)) (h8 : W (.fld F.ENG_STAT_RUNNING)) (h9 : W (.fld F.ENG_THR_STAT_CAUSE)) (h10 : W (.fld F.ENG_THR_STAT_PC)) (h11 : W (.fld F.ENG_THR_STAT_STATE)) (h12 : W (.fld F.PMC_INT_CAUSE_OVF)) (h13 : W (.fld F.PMC_INT_CAUSE_SMP_AVAIL)) (h14 : W (.fld F.PMC_INT_CAUSE_SMP_DROP)) (h15 : W (.fld F.PMC_OVF_STAT_OVF)) (h16 : W (.fld F.PMC_SMP_DROP_RING)) (h17 : W (.fld F.PMC_SMP_STAT_COUNT)) (h18 : W (.fld F.SE_SPILL_STAT_LOST)) (h19 : W (.fld H.ENG_JRNL)) (h20 : W (.fld H.ENG_JVALID)) (h21 : W (.fld H.ENG_PAST)) (h22 : W (.fld H.ENG_SPILL_CNT)) (h23 : W (.fld H.ENG_SPILL_MAP)) (h24 : W (.fld H.ENG_SPILL_POS)) (h25 : W (.fld H.PMC_CNT)) (h26 : W (.fld H.PMC_OVF_DUE)) (h27 : W (.fld H.PMC_OVF_SKID)) (h28 : W (.fld H.PMC_OVF_T)) (h29 : W (.fld H.PMC_OVF_THR)) (h30 : W (.fld H.PMC_RING)) (h31 : W (.fld H.PMC_TRACE_POS)) (a0 : Nat) (a1 : Nat) (h : execJmark a0 a1 s = .next t) :
    Moves W s t := by
  unfold execJmark at h
  refine done_moves (by assumption) ?_ h
  repeat' (first
    | with_reducible assumption
    | with_reducible exact .refl
    | with_reducible apply Eng_jmark_moves
    | intro _)

theorem execTstat_moves {W : Part → Prop} {s t : State} (h0 : W .msix) (h1 : W .qdr) (h2 : W (.fld F.ENG_GREG_VAL)) (h3 : W (.fld F.ENG_INT_CAUSE_FAULT)) (h4 : W (.fld F.ENG_STAT_FAULTED)) (h5 : W (.fld F.ENG_STAT_RUNNING)) (h6 : W (.fld F.ENG_THR_STAT_CAUSE)) (h7 : W (.fld F.ENG_THR_STAT_PC)) (h8 : W (.fld F.ENG_THR_STAT_STATE)) (h9 : W (.fld F.PMC_INT_CAUSE_OVF)) (h10 : W (.fld F.PMC_INT_CAUSE_SMP_AVAIL)) (h11 : W (.fld F.PMC_INT_CAUSE_SMP_DROP)) (h12 : W (.fld F.PMC_OVF_STAT_OVF)) (h13 : W (.fld F.PMC_SMP_DROP_RING)) (h14 : W (.fld F.PMC_SMP_STAT_COUNT)) (h15 : W (.fld H.ENG_PAST)) (h16 : W (.fld H.PMC_CNT)) (h17 : W (.fld H.PMC_OVF_DUE)) (h18 : W (.fld H.PMC_OVF_SKID)) (h19 : W (.fld H.PMC_OVF_T)) (h20 : W (.fld H.PMC_OVF_THR)) (h21 : W (.fld H.PMC_RING)) (h22 : W (.fld H.PMC_TRACE_POS)) (a0 : Nat) (a1 : Nat) (h : execTstat a0 a1 s = .next t) :
    Moves W s t := by
  unfold execTstat at h
  refine done_moves (by assumption) ?_ h
  repeat' (first
    | with_reducible assumption
    | with_reducible exact .refl
    | with_reducible apply Eng_tstat_moves
    | intro _)

theorem execTrel_moves {W : Part → Prop} {s t : State} (h0 : W .msix) (h1 : W .qdr) (h2 : W (.fld F.ENG_GREG_VAL)) (h3 : W (.fld F.ENG_INT_CAUSE_FAULT)) (h4 : W (.fld F.ENG_STAT_FAULTED)) (h5 : W (.fld F.ENG_STAT_RUNNING)) (h6 : W (.fld F.ENG_STAT_TAGS_USED)) (h7 : W (.fld F.ENG_TAG_ALLOC)) (h8 : W (.fld F.ENG_TAG_AUTO)) (h9 : W (.fld F.ENG_THR_STAT_CAUSE)) (h10 : W (.fld F.ENG_THR_STAT_PC)) (h11 : W (.fld F.ENG_THR_STAT_STATE)) (h12 : W (.fld F.PMC_INT_CAUSE_OVF)) (h13 : W (.fld F.PMC_INT_CAUSE_SMP_AVAIL)) (h14 : W (.fld F.PMC_INT_CAUSE_SMP_DROP)) (h15 : W (.fld F.PMC_OVF_STAT_OVF)) (h16 : W (.fld F.PMC_SMP_DROP_RING)) (h17 : W (.fld F.PMC_SMP_STAT_COUNT)) (h18 : W (.fld H.ENG_JRNL)) (h19 : W (.fld H.ENG_PAST)) (h20 : W (.fld H.PMC_CNT)) (h21 : W (.fld H.PMC_OVF_DUE)) (h22 : W (.fld H.PMC_OVF_SKID)) (h23 : W (.fld H.PMC_OVF_T)) (h24 : W (.fld H.PMC_OVF_THR)) (h25 : W (.fld H.PMC_RING)) (h26 : W (.fld H.PMC_TRACE_POS)) (a0 : Nat) (a1 : Nat) (h : execTrel a0 a1 s = .next t) :
    Moves W s t := by
  unfold execTrel at h
  refine done_moves (by assumption) ?_ h
  repeat' (first
    | with_reducible assumption
    | with_reducible exact .refl
    | with_reducible apply Eng_trel_moves
    | intro _)

theorem execHalt_moves {W : Part → Prop} {s t : State} (h0 : W .msix) (h1 : W .qdr) (h2 : W (.fld F.ENG_INT_CAUSE_FAULT)) (h3 : W (.fld F.ENG_INT_CAUSE_HALT)) (h4 : W (.fld F.ENG_STAT_FAULTED)) (h5 : W (.fld F.ENG_STAT_RUNNING)) (h6 : W (.fld F.ENG_THR_STAT_CAUSE)) (h7 : W (.fld F.ENG_THR_STAT_STATE)) (h8 : W (.fld F.PMC_INT_CAUSE_OVF)) (h9 : W (.fld F.PMC_INT_CAUSE_SMP_AVAIL)) (h10 : W (.fld F.PMC_INT_CAUSE_SMP_DROP)) (h11 : W (.fld F.PMC_OVF_STAT_OVF)) (h12 : W (.fld F.PMC_SMP_DROP_RING)) (h13 : W (.fld F.PMC_SMP_STAT_COUNT)) (h14 : W (.fld H.PMC_CNT)) (h15 : W (.fld H.PMC_OVF_DUE)) (h16 : W (.fld H.PMC_OVF_SKID)) (h17 : W (.fld H.PMC_OVF_T)) (h18 : W (.fld H.PMC_OVF_THR)) (h19 : W (.fld H.PMC_RING)) (h20 : W (.fld H.PMC_TRACE_POS)) (a0 : Nat) (a1 : Nat) (h : execHalt a0 a1 s = .next t) :
    Moves W s t := by
  unfold execHalt at h
  refine done_moves (by assumption) ?_ h
  repeat' (first
    | with_reducible assumption
    | with_reducible exact .refl
    | with_reducible apply Eng_halt_moves
    | intro _)

theorem execYield_moves {W : Part → Prop} {s t : State} (h0 : W .msix) (h1 : W .qdr) (h2 : W (.fld F.ENG_GREG_VAL)) (h3 : W (.fld F.ENG_INT_CAUSE_FAULT)) (h4 : W (.fld F.ENG_STAT_FAULTED)) (h5 : W (.fld F.ENG_STAT_RUNNING)) (h6 : W (.fld F.ENG_THR_STAT_CAUSE)) (h7 : W (.fld F.ENG_THR_STAT_PC)) (h8 : W (.fld F.ENG_THR_STAT_STATE)) (h9 : W (.fld F.PMC_INT_CAUSE_OVF)) (h10 : W (.fld F.PMC_INT_CAUSE_SMP_AVAIL)) (h11 : W (.fld F.PMC_INT_CAUSE_SMP_DROP)) (h12 : W (.fld F.PMC_OVF_STAT_OVF)) (h13 : W (.fld F.PMC_SMP_DROP_RING)) (h14 : W (.fld F.PMC_SMP_STAT_COUNT)) (h15 : W (.fld H.ENG_PAST)) (h16 : W (.fld H.PMC_CNT)) (h17 : W (.fld H.PMC_OVF_DUE)) (h18 : W (.fld H.PMC_OVF_SKID)) (h19 : W (.fld H.PMC_OVF_T)) (h20 : W (.fld H.PMC_OVF_THR)) (h21 : W (.fld H.PMC_RING)) (h22 : W (.fld H.PMC_TRACE_POS)) (a0 : Nat) (a1 : Nat) (h : execYield a0 a1 s = .next t) :
    Moves W s t := by
  unfold execYield at h
  refine done_moves (by assumption) ?_ h
  repeat' (first
    | with_reducible assumption
    | with_reducible exact .refl
    | with_reducible apply Eng_yield__moves
    | intro _)

theorem execSetf_moves {W : Part → Prop} {s t : State} (h0 : W .msix) (h1 : W .qdr) (h2 : W (.fld F.ENG_FLAGS_FLAG)) (h3 : W (.fld F.ENG_GREG_VAL)) (h4 : W (.fld F.ENG_INT_CAUSE_FAULT)) (h5 : W (.fld F.ENG_STAT_FAULTED)) (h6 : W (.fld F.ENG_STAT_RUNNING)) (h7 : W (.fld F.ENG_THR_STAT_CAUSE)) (h8 : W (.fld F.ENG_THR_STAT_PC)) (h9 : W (.fld F.ENG_THR_STAT_STATE)) (h10 : W (.fld F.PMC_INT_CAUSE_OVF)) (h11 : W (.fld F.PMC_INT_CAUSE_SMP_AVAIL)) (h12 : W (.fld F.PMC_INT_CAUSE_SMP_DROP)) (h13 : W (.fld F.PMC_OVF_STAT_OVF)) (h14 : W (.fld F.PMC_SMP_DROP_RING)) (h15 : W (.fld F.PMC_SMP_STAT_COUNT)) (h16 : W (.fld H.ENG_PAST)) (h17 : W (.fld H.PMC_CNT)) (h18 : W (.fld H.PMC_OVF_DUE)) (h19 : W (.fld H.PMC_OVF_SKID)) (h20 : W (.fld H.PMC_OVF_T)) (h21 : W (.fld H.PMC_OVF_THR)) (h22 : W (.fld H.PMC_RING)) (h23 : W (.fld H.PMC_TRACE_POS)) (a0 : Nat) (a1 : Nat) (h : execSetf a0 a1 s = .next t) :
    Moves W s t := by
  unfold execSetf at h
  refine done_moves (by assumption) ?_ h
  repeat' (first
    | with_reducible assumption
    | with_reducible exact .refl
    | with_reducible apply Eng_setFlag_moves
    | intro _)

theorem execClrf_moves {W : Part → Prop} {s t : State} (h0 : W .msix) (h1 : W .qdr) (h2 : W (.fld F.ENG_FLAGS_FLAG)) (h3 : W (.fld F.ENG_GREG_VAL)) (h4 : W (.fld F.ENG_INT_CAUSE_FAULT)) (h5 : W (.fld F.ENG_STAT_FAULTED)) (h6 : W (.fld F.ENG_STAT_RUNNING)) (h7 : W (.fld F.ENG_THR_STAT_CAUSE)) (h8 : W (.fld F.ENG_THR_STAT_PC)) (h9 : W (.fld F.ENG_THR_STAT_STATE)) (h10 : W (.fld F.PMC_INT_CAUSE_OVF)) (h11 : W (.fld F.PMC_INT_CAUSE_SMP_AVAIL)) (h12 : W (.fld F.PMC_INT_CAUSE_SMP_DROP)) (h13 : W (.fld F.PMC_OVF_STAT_OVF)) (h14 : W (.fld F.PMC_SMP_DROP_RING)) (h15 : W (.fld F.PMC_SMP_STAT_COUNT)) (h16 : W (.fld H.ENG_PAST)) (h17 : W (.fld H.PMC_CNT)) (h18 : W (.fld H.PMC_OVF_DUE)) (h19 : W (.fld H.PMC_OVF_SKID)) (h20 : W (.fld H.PMC_OVF_T)) (h21 : W (.fld H.PMC_OVF_THR)) (h22 : W (.fld H.PMC_RING)) (h23 : W (.fld H.PMC_TRACE_POS)) (a0 : Nat) (a1 : Nat) (h : execClrf a0 a1 s = .next t) :
    Moves W s t := by
  unfold execClrf at h
  refine done_moves (by assumption) ?_ h
  repeat' (first
    | with_reducible assumption
    | with_reducible exact .refl
    | with_reducible apply Eng_setFlag_moves
    | intro _)

theorem execDrop_moves {W : Part → Prop} {s t : State} (h0 : W .msix) (h1 : W .qdr) (h2 : W (.fld F.ENG_GREG_VAL)) (h3 : W (.fld F.ENG_INT_CAUSE_FAULT)) (h4 : W (.fld F.ENG_STAT_FAULTED)) (h5 : W (.fld F.ENG_STAT_RUNNING)) (h6 : W (.fld F.ENG_THR_STAT_CAUSE)) (h7 : W (.fld F.ENG_THR_STAT_PC)) (h8 : W (.fld F.ENG_THR_STAT_STATE)) (h9 : W (.fld F.ENG_THR_SUPER)) (h10 : W (.fld F.PMC_INT_CAUSE_OVF)) (h11 : W (.fld F.PMC_INT_CAUSE_SMP_AVAIL)) (h12 : W (.fld F.PMC_INT_CAUSE_SMP_DROP)) (h13 : W (.fld F.PMC_OVF_STAT_OVF)) (h14 : W (.fld F.PMC_SMP_DROP_RING)) (h15 : W (.fld F.PMC_SMP_STAT_COUNT)) (h16 : W (.fld H.ENG_PAST)) (h17 : W (.fld H.PMC_CNT)) (h18 : W (.fld H.PMC_OVF_DUE)) (h19 : W (.fld H.PMC_OVF_SKID)) (h20 : W (.fld H.PMC_OVF_T)) (h21 : W (.fld H.PMC_OVF_THR)) (h22 : W (.fld H.PMC_RING)) (h23 : W (.fld H.PMC_TRACE_POS)) (a0 : Nat) (a1 : Nat) (h : execDrop a0 a1 s = .next t) :
    Moves W s t := by
  unfold execDrop at h
  refine done_moves (by assumption) ?_ h
  repeat' (first
    | with_reducible assumption
    | with_reducible exact .refl
    | with_reducible apply Eng_drop_moves
    | intro _)

theorem execSelf_moves {W : Part → Prop} {s t : State} (h0 : W .msix) (h1 : W .qdr) (h2 : W (.fld F.ENG_GREG_VAL)) (h3 : W (.fld F.ENG_INT_CAUSE_FAULT)) (h4 : W (.fld F.ENG_STAT_FAULTED)) (h5 : W (.fld F.ENG_STAT_RUNNING)) (h6 : W (.fld F.ENG_THR_STAT_CAUSE)) (h7 : W (.fld F.ENG_THR_STAT_PC)) (h8 : W (.fld F.ENG_THR_STAT_STATE)) (h9 : W (.fld F.PMC_INT_CAUSE_OVF)) (h10 : W (.fld F.PMC_INT_CAUSE_SMP_AVAIL)) (h11 : W (.fld F.PMC_INT_CAUSE_SMP_DROP)) (h12 : W (.fld F.PMC_OVF_STAT_OVF)) (h13 : W (.fld F.PMC_SMP_DROP_RING)) (h14 : W (.fld F.PMC_SMP_STAT_COUNT)) (h15 : W (.fld H.ENG_PAST)) (h16 : W (.fld H.PMC_CNT)) (h17 : W (.fld H.PMC_OVF_DUE)) (h18 : W (.fld H.PMC_OVF_SKID)) (h19 : W (.fld H.PMC_OVF_T)) (h20 : W (.fld H.PMC_OVF_THR)) (h21 : W (.fld H.PMC_RING)) (h22 : W (.fld H.PMC_TRACE_POS)) (a0 : Nat) (a1 : Nat) (h : execSelf a0 a1 s = .next t) :
    Moves W s t := by
  unfold execSelf at h
  refine done_moves (by assumption) ?_ h
  repeat' (first
    | with_reducible assumption
    | with_reducible exact .refl
    | with_reducible apply Eng_self_moves
    | intro _)

theorem execTagExhaust_moves {W : Part → Prop} {s t : State} (h0 : W .msix) (h1 : W .qdr) (h2 : W (.fld F.ENG_INT_CAUSE_FAULT)) (h3 : W (.fld F.ENG_STAT_FAULTED)) (h4 : W (.fld F.ENG_STAT_RUNNING)) (h5 : W (.fld F.ENG_THR_STAT_CAUSE)) (h6 : W (.fld F.ENG_THR_STAT_STATE)) (h7 : W (.fld F.PMC_INT_CAUSE_OVF)) (h8 : W (.fld F.PMC_INT_CAUSE_SMP_AVAIL)) (h9 : W (.fld F.PMC_INT_CAUSE_SMP_DROP)) (h10 : W (.fld F.PMC_OVF_STAT_OVF)) (h11 : W (.fld F.PMC_SMP_DROP_RING)) (h12 : W (.fld F.PMC_SMP_STAT_COUNT)) (h13 : W (.fld H.PMC_CNT)) (h14 : W (.fld H.PMC_OVF_DUE)) (h15 : W (.fld H.PMC_OVF_SKID)) (h16 : W (.fld H.PMC_OVF_T)) (h17 : W (.fld H.PMC_OVF_THR)) (h18 : W (.fld H.PMC_RING)) (h19 : W (.fld H.PMC_TRACE_POS)) (a0 : Nat) (a1 : Nat) (h : execTagExhaust a0 a1 s = .next t) :
    Moves W s t := by
  unfold execTagExhaust at h
  refine done_moves (by assumption) ?_ h
  repeat' (first
    | with_reducible assumption
    | with_reducible exact .refl
    | with_reducible apply Eng_tagExhaust_moves
    | intro _)

theorem execOpAccept_moves {W : Part → Prop} {s t : State} (h0 : W .eng) (h1 : W .msix) (h2 : W (.fld F.ENG_TAG_STATE)) (h3 : W (.fld H.ENG_JRNL)) (a0 : Nat) (a1 : Nat) (h : execOpAccept a0 a1 s = .next t) :
    Moves W s t := by
  unfold execOpAccept at h
  refine done_moves (by assumption) ?_ h
  repeat' (first
    | with_reducible assumption
    | with_reducible exact .refl
    | with_reducible apply EngBus_accept_moves
    | intro _)

theorem execAccTmo_moves {W : Part → Prop} {s t : State} (h0 : W .eng) (h1 : W .msix) (h2 : W .qdr) (h3 : W (.fld F.ENG_GREG_VAL)) (h4 : W (.fld F.ENG_INT_CAUSE_ABORT)) (h5 : W (.fld F.ENG_STAT_FAULTED)) (h6 : W (.fld F.ENG_STAT_INFLIGHT)) (h7 : W (.fld F.ENG_STAT_RUNNING)) (h8 : W (.fld F.ENG_STAT_TAGS_USED)) (h9 : W (.fld F.ENG_TAG_ALLOC)) (h10 : W (.fld F.ENG_TAG_STATE)) (h11 : W (.fld F.ENG_THR_STAT_PC)) (h12 : W (.fld F.ENG_THR_STAT_STATE)) (h13 : W (.fld F.PMC_INT_CAUSE_OVF)) (h14 : W (.fld F.PMC_INT_CAUSE_SMP_AVAIL)) (h15 : W (.fld F.PMC_INT_CAUSE_SMP_DROP)) (h16 : W (.fld F.PMC_OVF_STAT_OVF)) (h17 : W (.fld F.PMC_SMP_DROP_RING)) (h18 : W (.fld F.PMC_SMP_STAT_COUNT)) (h19 : W (.fld H.ENG_JRNL)) (h20 : W (.fld H.ENG_PAST)) (h21 : W (.fld H.PMC_CNT)) (h22 : W (.fld H.PMC_OVF_DUE)) (h23 : W (.fld H.PMC_OVF_T)) (h24 : W (.fld H.PMC_RING)) (h25 : W (.fld H.PMC_TRACE_POS)) (a0 : Nat) (a1 : Nat) (h : execAccTmo a0 a1 s = .next t) :
    Moves W s t := by
  unfold execAccTmo at h
  refine done_moves (by assumption) ?_ h
  repeat' (first
    | with_reducible assumption
    | with_reducible exact .refl
    | with_reducible apply Eng_acceptTimeout_moves
    | intro _)

theorem execOpFinal_moves {W : Part → Prop} {s t : State} (hw : ∀ x, W x) (a0 : Nat) (a1 : Nat) (a2 : Nat) (a3 : Nat) (h : execOpFinal a0 a1 a2 a3 s = .next t) :
    Moves W s t := by
  unfold execOpFinal at h
  refine doneMirrored_moves (hw _) ?_ h
  repeat' (first
    | with_reducible assumption
    | with_reducible exact .refl
    | exact hw _
    | with_reducible apply EngBus_final_moves
    | with_reducible apply Reset_write_moves
    | intro _)

theorem execWaitEnd_moves {W : Part → Prop} {s t : State} (h0 : W .msix) (h1 : W (.fld F.ENG_GREG_VAL)) (h2 : W (.fld F.ENG_STAT_FAULTED)) (h3 : W (.fld F.ENG_STAT_RUNNING)) (h4 : W (.fld F.ENG_STAT_TAGS_USED)) (h5 : W (.fld F.ENG_TAG_ALLOC)) (h6 : W (.fld F.ENG_THR_STAT_PC)) (h7 : W (.fld F.ENG_THR_STAT_STATE)) (h8 : W (.fld H.ENG_PAST)) (a0 : Nat) (a1 : Nat) (h : execWaitEnd a0 a1 s = .next t) :
    Moves W s t := by
  unfold execWaitEnd at h
  refine done_moves (by assumption) ?_ h
  repeat' (first
    | with_reducible assumption
    | with_reducible exact .refl
    | with_reducible apply Eng_waitEnd_moves
    | intro _)

theorem execWaitTimeout_moves {W : Part → Prop} {s t : State} (h0 : W .msix) (h1 : W (.fld F.ENG_GREG_VAL)) (h2 : W (.fld F.ENG_STAT_FAULTED)) (h3 : W (.fld F.ENG_STAT_RUNNING)) (h4 : W (.fld F.ENG_THR_STAT_PC)) (h5 : W (.fld F.ENG_THR_STAT_STATE)) (h6 : W (.fld H.ENG_PAST)) (a0 : Nat) (a1 : Nat) (h : execWaitTimeout a0 a1 s = .next t) :
    Moves W s t := by
  unfold execWaitTimeout at h
  refine done_moves (by assumption) ?_ h
  repeat' (first
    | with_reducible assumption
    | with_reducible exact .refl
    | with_reducible apply Eng_waitTimeout_moves
    | intro _)

theorem execThreadStart_moves {W : Part → Prop} {s t : State} (h0 : W .held) (h1 : W .msix) (h2 : W .qdr) (h3 : W (.fld F.ENG_STAT_FAULTED)) (h4 : W (.fld F.ENG_STAT_RUNNING)) (h5 : W (.fld F.ENG_STAT_TAGS_USED)) (h6 : W (.fld F.ENG_TAG_ALLOC)) (h7 : W (.fld F.ENG_TAG_AUTO)) (h8 : W (.fld F.ENG_THR_STAT_CAUSE)) (h9 : W (.fld F.ENG_THR_STAT_PC)) (h10 : W (.fld F.ENG_THR_STAT_STATE)) (h11 : W (.fld F.PEER_INT_CAUSE_MIRRORED)) (h12 : W (.fld F.PMC_INT_CAUSE_OVF)) (h13 : W (.fld F.PMC_INT_CAUSE_SMP_AVAIL)) (h14 : W (.fld F.PMC_INT_CAUSE_SMP_DROP)) (h15 : W (.fld F.PMC_OVF_STAT_OVF)) (h16 : W (.fld F.PMC_SMP_DROP_RING)) (h17 : W (.fld F.PMC_SMP_STAT_COUNT)) (h18 : W (.fld F.SYS_INT_CAUSE_ROLE_LIMIT)) (h19 : W (.fld H.ENG_JRNL)) (h20 : W (.fld H.ENG_PAST)) (h21 : W (.fld H.PMC_CNT)) (h22 : W (.fld H.PMC_OVF_DUE)) (h23 : W (.fld H.PMC_OVF_T)) (h24 : W (.fld H.PMC_RING)) (h25 : W (.fld H.PMC_TRACE_POS)) (a0 : Nat) (a1 : Nat) (h : execThreadStart a0 a1 s = .next t) :
    Moves W s t := by
  unfold execThreadStart at h
  refine done_moves (by assumption) ?_ h
  repeat' (first
    | with_reducible assumption
    | with_reducible exact .refl
    | (with_reducible refine Bus_row_other (by assumption) (by assumption) (by assumption) (by assumption) (by assumption) (by assumption) (by assumption) (by assumption) (by assumption) (by assumption) (by assumption) (by assumption) (by assumption) (by assumption) _ _ _ _ _ (by decide) ?_ ?_)
    | with_reducible apply Eng_start_moves
    | intro _)

theorem execThreadStop_moves {W : Part → Prop} {s t : State} (h0 : W .held) (h1 : W .msix) (h2 : W .qdr) (h3 : W (.fld F.ENG_STAT_FAULTED)) (h4 : W (.fld F.ENG_STAT_RUNNING)) (h5 : W (.fld F.ENG_THR_STAT_STATE)) (h6 : W (.fld F.PEER_INT_CAUSE_MIRRORED)) (h7 : W (.fld F.PMC_INT_CAUSE_OVF)) (h8 : W (.fld F.PMC_INT_CAUSE_SMP_AVAIL)) (h9 : W (.fld F.PMC_INT_CAUSE_SMP_DROP)) (h10 : W (.fld F.PMC_OVF_STAT_OVF)) (h11 : W (.fld F.PMC_SMP_DROP_RING)) (h12 : W (.fld F.PMC_SMP_STAT_COUNT)) (h13 : W (.fld H.PMC_CNT)) (h14 : W (.fld H.PMC_OVF_DUE)) (h15 : W (.fld H.PMC_OVF_T)) (h16 : W (.fld H.PMC_RING)) (h17 : W (.fld H.PMC_TRACE_POS)) (a0 : Nat) (a1 : Nat) (h : execThreadStop a0 a1 s = .next t) :
    Moves W s t := by
  unfold execThreadStop at h
  refine done_moves (by assumption) ?_ h
  repeat' (first
    | with_reducible assumption
    | with_reducible exact .refl
    | (with_reducible refine Bus_row_other (by assumption) (by assumption) (by assumption) (by assumption) (by assumption) (by assumption) (by assumption) (by assumption) (by assumption) (by assumption) (by assumption) (by assumption) (by assumption) (by assumption) _ _ _ _ _ (by decide) ?_ ?_)
    | with_reducible apply Eng_stop_moves
    | intro _)

theorem execEngReset_moves {W : Part → Prop} {s t : State} (h0 : W .eng) (h1 : W .held) (h2 : W .msix) (h3 : W .qdr) (h4 : W (.fld F.CRY_KEY_DATA_KEY)) (h5 : W (.fld F.CRY_KEY_SALT_SALT)) (h6 : W (.fld F.CRY_LOCK_STAT_LOCK_BROKEN)) (h7 : W (.fld F.CRY_LOCK_STAT_OWNER)) (h8 : W (.fld F.ENG_CFG_ACC_TMO)) (h9 : W (.fld F.ENG_FLAGS_FLAG)) (h10 : W (.fld F.ENG_GREG_VAL)) (h11 : W (.fld F.ENG_INT_CAUSE_ABORT)) (h12 : W (.fld F.ENG_INT_CAUSE_ACT_ERR)) (h13 : W (.fld F.ENG_INT_CAUSE_FAULT)) (h14 : W (.fld F.ENG_INT_CAUSE_HALT)) (h15 : W (.fld F.ENG_INT_CAUSE_MEM_REFUSED)) (h16 : W (.fld F.ENG_INT_CAUSE_SPILL_LOST)) (h17 : W (.fld F.ENG_INT_MASK_MASK)) (h18 : W (.fld F.ENG_JRNL_IDX_IDX)) (h19 : W (.fld F.ENG_MEM_ADDR_ADDR)) (h20 : W (.fld F.ENG_MEM_ADDR_SPACE)) (h21 : W (.fld F.ENG_QACC_FREE_R)) (h22 : W (.fld F.ENG_QACC_FREE_W)) (h23 : W (.fld F.ENG_QACC_LOG_R)) (h24 : W (.fld F.ENG_STAT_FAULTED)) (h25 : W (.fld F.ENG_STAT_INFLIGHT)) (h26 : W (.fld F.ENG_STAT_RUNNING)) (h27 : W (.fld F.ENG_STAT_TAGS_USED)) (h28 : W (.fld F.ENG_TAG_ALLOC)) (h29 : W (.fld F.ENG_TAG_STATE)) (h30 : W (.fld F.ENG_THR_STAT_CAUSE)) (h31 : W (.fld F.ENG_THR_STAT_PC)) (h32 : W (.fld F.ENG_THR_STAT_STATE)) (h33 : W (.fld F.ENG_UWIN_BASE)) (h34 : W (.fld F.ENG_UWIN_PAGES)) (h35 : W (.fld F.ENG_UWIN_WRITE)) (h36 : W (.fld F.MBX_INT_CAUSE_RESET_SEEN)) (h37 : W (.fld F.MBX_LOCK_STAT_LOCK_BROKEN)) (h38 : W (.fld F.MBX_LOCK_STAT_OWNER)) (h39 : W (.fld F.MBX_STAT_RX_RESET_SEEN)) (h40 : W (.fld F.MBX_STAT_SENDER_RESET_SEEN)) (h41 : W (.fld F.PEER_INT_CAUSE_MIRRORED)) (h42 : W (.fld F.PMC_INT_CAUSE_OVF)) (h43 : W (.fld F.PMC_INT_CAUSE_SMP_AVAIL)) (h44 : W (.fld F.PMC_INT_CAUSE_SMP_DROP)) (h45 : W (.fld F.PMC_OVF_STAT_OVF)) (h46 : W (.fld F.PMC_SMP_DROP_RING)) (h47 : W (.fld F.PMC_SMP_STAT_COUNT)) (h48 : W (.fld F.SYN_INT_CAUSE_PRIV_CLOSED)) (h49 : W (.fld F.SYN_NCO_CTRL_OPEN)) (h50 : W (.fld F.SYN_NCO_CTRL_OWNER)) (h51 : W (.fld H.ENG_JRNL)) (h52 : W (.fld H.ENG_PAST)) (h53 : W (.fld H.PMC_CNT)) (h54 : W (.fld H.PMC_OVF_DUE)) (h55 : W (.fld H.PMC_OVF_T)) (h56 : W (.fld H.PMC_RING)) (h57 : W (.fld H.PMC_TRACE_POS)) (h58 : W (.fld H.SYN_KEYSTEP)) (h59 : W (.fld H.SYN_NCO_RAMP)) (a0 : Nat) (h : execEngReset a0 s = .next t) :
    Moves W s t := by
  unfold execEngReset at h
  refine done_moves (by assumption) ?_ h
  repeat' (first
    | with_reducible assumption
    | with_reducible exact .refl
    | (with_reducible refine Bus_row_other (by assumption) (by assumption) (by assumption) (by assumption) (by assumption) (by assumption) (by assumption) (by assumption) (by assumption) (by assumption) (by assumption) (by assumption) (by assumption) (by assumption) _ _ _ _ _ (by decide) ?_ ?_)
    | with_reducible apply Sys_engineReset_moves
    | intro _)

theorem execMemDataAccess_moves {W : Part → Prop} {s t : State} (hw : ∀ x, W x) (a0 : Nat) (a1 : Nat) (a2 : Bool) (a3 : Nat) (h : execMemDataAccess a0 a1 a2 a3 s = .next t) :
    Moves W s t := by
  unfold execMemDataAccess at h
  refine done_moves (hw _) ?_ h
  repeat' (first
    | with_reducible assumption
    | with_reducible exact .refl
    | exact hw _
    | (with_reducible refine Bus_row_other (hw _) (hw _) (hw _) (hw _) (hw _) (hw _) (hw _) (hw _) (hw _) (hw _) (hw _) (hw _) (hw _) (hw _) _ _ _ _ _ (by decide) ?_ ?_)
    | with_reducible apply Eng_memWrite_moves
    | with_reducible apply Bus_fetch_moves
    | intro _
    | split)

theorem execSpillPop_moves {W : Part → Prop} {s t : State} (h0 : W .held) (h1 : W .msix) (h2 : W .qdr) (h3 : W (.fld F.PEER_INT_CAUSE_MIRRORED)) (h4 : W (.fld F.PMC_INT_CAUSE_OVF)) (h5 : W (.fld F.PMC_INT_CAUSE_SMP_AVAIL)) (h6 : W (.fld F.PMC_INT_CAUSE_SMP_DROP)) (h7 : W (.fld F.PMC_OVF_STAT_OVF)) (h8 : W (.fld F.PMC_SMP_DROP_RING)) (h9 : W (.fld F.PMC_SMP_STAT_COUNT)) (h10 : W (.fld H.ENG_SPILL_CNT)) (h11 : W (.fld H.PMC_CNT)) (h12 : W (.fld H.PMC_OVF_DUE)) (h13 : W (.fld H.PMC_OVF_T)) (h14 : W (.fld H.PMC_RING)) (h15 : W (.fld H.PMC_TRACE_POS)) (h : execSpillPop s = .next t) :
    Moves W s t := by
  unfold execSpillPop at h
  refine done_moves (by assumption) ?_ h
  repeat' (first
    | with_reducible assumption
    | with_reducible exact .refl
    | (with_reducible refine Bus_row_other (by assumption) (by assumption) (by assumption) (by assumption) (by assumption) (by assumption) (by assumption) (by assumption) (by assumption) (by assumption) (by assumption) (by assumption) (by assumption) (by assumption) _ _ _ _ _ (by decide) ?_ ?_)
    | with_reducible apply Eng_spillPop_moves
    | intro _)

theorem execActivate_moves {W : Part → Prop} {s t : State} (hw : ∀ x, W x) (a0 : Nat) (h : execActivate a0 s = .next t) :
    Moves W s t := by
  unfold execActivate at h
  refine done_moves (hw _) ?_ h
  repeat' (first
    | with_reducible assumption
    | with_reducible exact .refl
    | exact hw _
    | with_reducible apply Reset_write_moves
    | intro _)

theorem execHealthOk_moves {W : Part → Prop} {s t : State} (hw : ∀ x, W x) (h : execHealthOk s = .next t) :
    Moves W s t := by
  unfold execHealthOk at h
  refine done_moves (hw _) ?_ h
  repeat' (first
    | with_reducible assumption
    | with_reducible exact .refl
    | exact hw _
    | with_reducible apply Reset_write_moves
    | intro _)

theorem execHealthTmo_moves {W : Part → Prop} {s t : State} (hw : ∀ x, W x) (h : execHealthTmo s = .next t) :
    Moves W s t := by
  unfold execHealthTmo at h
  refine done_moves (hw _) ?_ h
  repeat' (first
    | with_reducible assumption
    | with_reducible exact .refl
    | exact hw _
    | with_reducible apply Reset_imageIf_moves
    | with_reducible apply Img_healthTimeout_moves
    | intro _)

theorem execRollback_moves {W : Part → Prop} {s t : State} (hw : ∀ x, W x) (h : execRollback s = .next t) :
    Moves W s t := by
  unfold execRollback at h
  refine done_moves (hw _) ?_ h
  repeat' (first
    | with_reducible assumption
    | with_reducible exact .refl
    | exact hw _
    | with_reducible apply Reset_write_moves
    | intro _)

end Sys2Proof.Laws
end

