-- ==== Sys2Proof/Laws/MovesExecFlw.lean ====
section
/-! SUPPORT. Sys2Proof/Laws/MovesExecFlw.lean: what each command of Machine/ExecFlw.lean may write (Laws/Moves.lean). -/
namespace Sys2Proof.Laws
open Sys2Proof Sys2Proof.Machine

theorem execFlowRead_moves {W : Part → Prop} {s t : State} (h0 : W .held) (h1 : W .msix) (h2 : W .qdr) (h3 : W (.fld F.FLW_CMD_FLOW)) (h4 : W (.fld F.FLW_CMD_OP)) (h5 : W (.fld F.FLW_CMD_STAT_BUSY)) (h6 : W (.fld F.FLW_CMD_STAT_ERR_CODE)) (h7 : W (.fld F.FLW_INT_CAUSE_CMD_DONE)) (h8 : W (.fld F.FLW_INT_CAUSE_CMD_ERR)) (h9 : W (.fld F.FLW_STAGE_DATA)) (h10 : W (.fld F.PEER_INT_CAUSE_MIRRORED)) (h11 : W (.fld F.PMC_INT_CAUSE_OVF)) (h12 : W (.fld F.PMC_INT_CAUSE_SMP_AVAIL)) (h13 : W (.fld F.PMC_INT_CAUSE_SMP_DROP)) (h14 : W (.fld F.PMC_OVF_STAT_OVF)) (h15 : W (.fld F.PMC_SMP_DROP_RING)) (h16 : W (.fld F.PMC_SMP_STAT_COUNT)) (h17 : W (.fld F.SYS_INT_CAUSE_ROLE_LIMIT)) (h18 : W (.fld H.FLW_OP)) (h19 : W (.fld H.FLW_OP_FLOW)) (h20 : W (.fld H.PMC_CNT)) (h21 : W (.fld H.PMC_OVF_DUE)) (h22 : W (.fld H.PMC_OVF_T)) (h23 : W (.fld H.PMC_RING)) (h24 : W (.fld H.PMC_TRACE_POS)) (a0 : Nat) (h : execFlowRead a0 s = .next t) :
    Moves W s t := by
  unfold execFlowRead at h
  refine done_moves (by assumption) ?_ h
  repeat' (first
    | with_reducible assumption
    | with_reducible exact .refl
    | (with_reducible refine Bus_row_other (by assumption) (by assumption) (by assumption) (by assumption) (by assumption) (by assumption) (by assumption) (by assumption) (by assumption) (by assumption) (by assumption) (by assumption) (by assumption) (by assumption) _ _ _ _ _ (by decide) ?_ ?_)
    | with_reducible apply Bus_writeFlow_moves
    | intro _)

theorem execFlowWrite_moves {W : Part → Prop} {s t : State} (h0 : W .held) (h1 : W .msix) (h2 : W .qdr) (h3 : W (.fld F.FLW_CMD_FLOW)) (h4 : W (.fld F.FLW_CMD_OP)) (h5 : W (.fld F.FLW_CMD_STAT_BUSY)) (h6 : W (.fld F.FLW_CMD_STAT_ERR_CODE)) (h7 : W (.fld F.FLW_INT_CAUSE_CMD_DONE)) (h8 : W (.fld F.FLW_INT_CAUSE_CMD_ERR)) (h9 : W (.fld F.FLW_STAGE_DATA)) (h10 : W (.fld F.PEER_INT_CAUSE_MIRRORED)) (h11 : W (.fld F.PMC_INT_CAUSE_OVF)) (h12 : W (.fld F.PMC_INT_CAUSE_SMP_AVAIL)) (h13 : W (.fld F.PMC_INT_CAUSE_SMP_DROP)) (h14 : W (.fld F.PMC_OVF_STAT_OVF)) (h15 : W (.fld F.PMC_SMP_DROP_RING)) (h16 : W (.fld F.PMC_SMP_STAT_COUNT)) (h17 : W (.fld F.SYS_INT_CAUSE_ROLE_LIMIT)) (h18 : W (.fld H.FLW_OP)) (h19 : W (.fld H.FLW_OP_FLOW)) (h20 : W (.fld H.PMC_CNT)) (h21 : W (.fld H.PMC_OVF_DUE)) (h22 : W (.fld H.PMC_OVF_T)) (h23 : W (.fld H.PMC_RING)) (h24 : W (.fld H.PMC_TRACE_POS)) (a0 : Nat) (h : execFlowWrite a0 s = .next t) :
    Moves W s t := by
  unfold execFlowWrite at h
  refine doneMirrored_moves (by assumption) ?_ h
  repeat' (first
    | with_reducible assumption
    | with_reducible exact .refl
    | (with_reducible refine Bus_row_other (by assumption) (by assumption) (by assumption) (by assumption) (by assumption) (by assumption) (by assumption) (by assumption) (by assumption) (by assumption) (by assumption) (by assumption) (by assumption) (by assumption) _ _ _ _ _ (by decide) ?_ ?_)
    | with_reducible apply Bus_writeFlow_moves
    | intro _)

theorem execFlowRemove_moves {W : Part → Prop} {s t : State} (h0 : W .held) (h1 : W .msix) (h2 : W .qdr) (h3 : W (.fld F.FLW_CMD_FLOW)) (h4 : W (.fld F.FLW_CMD_OP)) (h5 : W (.fld F.FLW_CMD_STAT_BUSY)) (h6 : W (.fld F.FLW_CMD_STAT_ERR_CODE)) (h7 : W (.fld F.FLW_INT_CAUSE_CMD_DONE)) (h8 : W (.fld F.FLW_INT_CAUSE_CMD_ERR)) (h9 : W (.fld F.FLW_STAGE_DATA)) (h10 : W (.fld F.PEER_INT_CAUSE_MIRRORED)) (h11 : W (.fld F.PMC_INT_CAUSE_OVF)) (h12 : W (.fld F.PMC_INT_CAUSE_SMP_AVAIL)) (h13 : W (.fld F.PMC_INT_CAUSE_SMP_DROP)) (h14 : W (.fld F.PMC_OVF_STAT_OVF)) (h15 : W (.fld F.PMC_SMP_DROP_RING)) (h16 : W (.fld F.PMC_SMP_STAT_COUNT)) (h17 : W (.fld F.SYS_INT_CAUSE_ROLE_LIMIT)) (h18 : W (.fld H.FLW_OP)) (h19 : W (.fld H.FLW_OP_FLOW)) (h20 : W (.fld H.PMC_CNT)) (h21 : W (.fld H.PMC_OVF_DUE)) (h22 : W (.fld H.PMC_OVF_T)) (h23 : W (.fld H.PMC_RING)) (h24 : W (.fld H.PMC_TRACE_POS)) (a0 : Nat) (h : execFlowRemove a0 s = .next t) :
    Moves W s t := by
  unfold execFlowRemove at h
  refine doneMirrored_moves (by assumption) ?_ h
  repeat' (first
    | with_reducible assumption
    | with_reducible exact .refl
    | (with_reducible refine Bus_row_other (by assumption) (by assumption) (by assumption) (by assumption) (by assumption) (by assumption) (by assumption) (by assumption) (by assumption) (by assumption) (by assumption) (by assumption) (by assumption) (by assumption) _ _ _ _ _ (by decide) ?_ ?_)
    | with_reducible apply Bus_writeFlow_moves
    | intro _)

theorem execFlowCmdApply_moves {W : Part → Prop} {s t : State} (h0 : W .flw) (h1 : W .frm) (h2 : W .msix) (h3 : W (.fld F.FLW_CMD_STAT_BUSY)) (h4 : W (.fld F.FLW_CMD_STAT_ERR_CODE)) (h5 : W (.fld F.FLW_FSTAT_RATE_SHORT)) (h6 : W (.fld F.FLW_FSTAT_SHORT_CNT)) (h7 : W (.fld F.FLW_FT_DATA)) (h8 : W (.fld F.FLW_INT_CAUSE_CMD_DONE)) (h9 : W (.fld F.FLW_INT_CAUSE_RATE_SHORT)) (h10 : W (.fld F.FLW_INT_CAUSE_SLEEP_DROP)) (h11 : W (.fld F.FLW_SLEEP_DROP_COUNT)) (h12 : W (.fld F.FRM_DEF_FLOW_DEF)) (h13 : W (.fld F.FRM_RA_STAT_FILL)) (h14 : W (.fld F.FRM_RA_STAT_JUST)) (h15 : W (.fld F.QDM_BW_LIMIT)) (h16 : W (.fld F.QDM_BW_USED)) (h17 : W (.fld F.QDM_POOL_STAT_DIE_FREE)) (h18 : W (.fld F.QDM_POOL_STAT_QDR_FREE)) (h19 : W (.fld H.CRY_CAND)) (h20 : W (.fld H.CRY_NEXT)) (h21 : W (.fld H.CRY_RUN_MASK)) (h22 : W (.fld H.CRY_SYNC)) (h23 : W (.fld H.FLW_CTX_FLOW)) (h24 : W (.fld H.FLW_ERR_NEXT)) (h25 : W (.fld H.FLW_LOST)) (h26 : W (.fld H.FLW_PMI)) (h27 : W (.fld H.FLW_TOK)) (h28 : W (.fld H.FLW_TOK_T)) (h29 : W (.fld H.FLW_TX_SEQ)) (h30 : W (.fld H.FRM_CLRC_FLOW)) (h31 : W (.fld H.FRM_EG_JUST)) (h32 : W (.fld H.FRM_LAST_TYPE)) (h33 : W (.fld H.FRM_RA_RUN)) (h34 : W (.fld H.FRM_SEEN_FLOW)) (h35 : W (.fld H.FRM_SETC_FLOW)) (h36 : W (.fld H.FRM_WIN_ON)) (h37 : W (.fld H.FRM_WIN_SEQ)) (h38 : W (.fld H.HSL_OUT)) (h39 : W (.fld H.QDM_COMMITTED)) (h40 : W (.fld H.QDM_EXTRA)) (h41 : W (.fld H.QDM_HELD)) (h42 : W (.fld H.QDM_POOL_USED)) (h43 : W (.fld H.QDM_RESERVED)) (h44 : W (.fld H.QDM_SLEEP_USED)) (a0 : Nat) (h : execFlowCmdApply s a0 = .next t) :
    Moves W s t := by
  unfold execFlowCmdApply at h
  refine doneMirrored_moves (by assumption) ?_ h
  repeat' (first
    | with_reducible assumption
    | with_reducible exact .refl
    | with_reducible apply Flw_apply_moves
    | intro _)

theorem execCfSchedule_moves {W : Part → Prop} {s t : State} (h0 : W .flw) (h1 : W .msix) (h2 : W .qdr) (h3 : W .vlk) (h4 : W (.fld F.CRY_CNT_COUNT)) (h5 : W (.fld F.CRY_INT_CAUSE_TX_NOKEY)) (h6 : W (.fld F.FLW_FSTAT_RATE_SHORT)) (h7 : W (.fld F.FLW_FSTAT_SHORT_CNT)) (h8 : W (.fld F.FLW_INT_CAUSE_RATE_SHORT)) (h9 : W (.fld F.FLW_INT_CAUSE_SLEEP_DROP)) (h10 : W (.fld F.FLW_SLEEP_DROP_COUNT)) (h11 : W (.fld F.FRM_INT_CAUSE_RA_JUST)) (h12 : W (.fld F.FRM_RA_STAT_JUST)) (h13 : W (.fld F.PMC_INT_CAUSE_OVF)) (h14 : W (.fld F.PMC_INT_CAUSE_SMP_AVAIL)) (h15 : W (.fld F.PMC_INT_CAUSE_SMP_DROP)) (h16 : W (.fld F.PMC_OVF_STAT_OVF)) (h17 : W (.fld F.PMC_SMP_DROP_RING)) (h18 : W (.fld F.PMC_SMP_STAT_COUNT)) (h19 : W (.fld H.CRY_CUR)) (h20 : W (.fld H.CRY_NEXT)) (h21 : W (.fld H.FLW_DRR)) (h22 : W (.fld H.FLW_DRR_LEFT)) (h23 : W (.fld H.FLW_ERR_NEXT)) (h24 : W (.fld H.FLW_LOST)) (h25 : W (.fld H.FLW_LOST_HELD)) (h26 : W (.fld H.FLW_RR_PLAIN)) (h27 : W (.fld H.FLW_RR_STRICT)) (h28 : W (.fld H.FLW_TOK)) (h29 : W (.fld H.FLW_TOK_T)) (h30 : W (.fld H.FLW_TX_SEQ)) (h31 : W (.fld H.FRM_CF_DUE)) (h32 : W (.fld H.FRM_MGMT_DUE)) (h33 : W (.fld H.FRM_RA_RUN)) (h34 : W (.fld H.PMC_CNT)) (h35 : W (.fld H.PMC_OVF_DUE)) (h36 : W (.fld H.PMC_OVF_T)) (h37 : W (.fld H.PMC_RING)) (h38 : W (.fld H.PMC_TRACE_POS)) (h39 : W (.fld H.QDM_SLEEP_USED)) (h40 : W (.fld H.VLK_RR)) (h41 : W (.fld H.VLK_SEQ)) (h42 : W (.fld H.VLK_WAKE_BIT)) (a0 : Nat) (a1 : Nat) (h : execCfSchedule a0 a1 s = .next t) :
    Moves W s t := by
  unfold execCfSchedule at h
  refine done_moves (by assumption) ?_ h
  repeat' (first
    | with_reducible assumption
    | with_reducible exact .refl
    | with_reducible apply Flw_schedule_moves
    | intro _
    | split)

theorem execTokenCap_moves {W : Part → Prop} {s t : State} (h0 : W .msix) (h1 : W (.fld F.FLW_FSTAT_RATE_SHORT)) (h2 : W (.fld F.FLW_FSTAT_SHORT_CNT)) (h3 : W (.fld F.FLW_INT_CAUSE_RATE_SHORT)) (h4 : W (.fld H.FLW_LOST)) (h5 : W (.fld H.FLW_TOK)) (h6 : W (.fld H.FLW_TOK_T)) (a0 : Nat) (a1 : Nat) (h : execTokenCap a0 a1 s = .next t) :
    Moves W s t := by
  unfold execTokenCap at h
  refine done_moves (by assumption) ?_ h
  repeat' (first
    | with_reducible assumption
    | with_reducible exact .refl
    | with_reducible apply Flw_tokenCapReached_moves
    | intro _)

theorem execClientIngress_moves {W : Part → Prop} {s t : State} (h0 : W .flw) (h1 : W .msix) (h2 : W .vlk) (h3 : W (.fld F.FLW_CLI_UNMATCH_COUNT)) (h4 : W (.fld F.FLW_FSTAT_ING_OVF)) (h5 : W (.fld F.FLW_INT_CAUSE_ING_OVF)) (h6 : W (.fld H.FLW_ERR_NEXT)) (h7 : W (.fld H.VLK_REST_SET)) (h8 : W (.fld H.VLK_SEQ)) (h9 : W (.fld H.VLK_WAKE_BIT)) (a0 : Nat) (a1 : Nat) (a2 : Nat) (a3 : Nat) (a4 : List Nat) (h : execClientIngress a0 a1 a2 a3 a4 s = .next t) :
    Moves W s t := by
  unfold execClientIngress at h
  refine done_moves (by assumption) ?_ h
  repeat' (first
    | with_reducible assumption
    | with_reducible exact .refl
    | with_reducible apply Flw_clientIngress_moves
    | intro _)

theorem execQdmEnable_moves {W : Part → Prop} {s t : State} (h0 : W .held) (h1 : W .msix) (h2 : W .qdr) (h3 : W (.fld F.PEER_INT_CAUSE_MIRRORED)) (h4 : W (.fld F.PMC_INT_CAUSE_OVF)) (h5 : W (.fld F.PMC_INT_CAUSE_SMP_AVAIL)) (h6 : W (.fld F.PMC_INT_CAUSE_SMP_DROP)) (h7 : W (.fld F.PMC_OVF_STAT_OVF)) (h8 : W (.fld F.PMC_SMP_DROP_RING)) (h9 : W (.fld F.PMC_SMP_STAT_COUNT)) (h10 : W (.fld F.QDM_CTRL_EN)) (h11 : W (.fld F.QDM_INT_CAUSE_CFG_ERR)) (h12 : W (.fld F.QDM_INT_CAUSE_REGION_ERR)) (h13 : W (.fld F.QDM_TRAIN_STAT_FAIL)) (h14 : W (.fld F.QDM_TRAIN_STAT_OK)) (h15 : W (.fld F.QDM_TRAIN_STAT_STEP)) (h16 : W (.fld H.PMC_CNT)) (h17 : W (.fld H.PMC_OVF_DUE)) (h18 : W (.fld H.PMC_OVF_T)) (h19 : W (.fld H.PMC_RING)) (h20 : W (.fld H.PMC_TRACE_POS)) (h21 : W (.fld H.QDM_CENTRE)) (h22 : W (.fld H.QDM_TRAINING)) (h : execQdmEnable s = .next t) :
    Moves W s t := by
  unfold execQdmEnable at h
  refine done_moves (by assumption) ?_ h
  repeat' (first
    | with_reducible assumption
    | with_reducible exact .refl
    | (with_reducible refine Bus_row_other (by assumption) (by assumption) (by assumption) (by assumption) (by assumption) (by assumption) (by assumption) (by assumption) (by assumption) (by assumption) (by assumption) (by assumption) (by assumption) (by assumption) _ _ _ _ _ (by decide) ?_ ?_)
    | with_reducible apply Qdm_enable_moves
    | intro _)

theorem execQdrTrainDone_moves {W : Part → Prop} {s t : State} (h0 : W .msix) (h1 : W (.fld F.QDM_BW_LIMIT)) (h2 : W (.fld F.QDM_BW_USED)) (h3 : W (.fld F.QDM_CTRL_EN)) (h4 : W (.fld F.QDM_INT_CAUSE_REGION_ERR)) (h5 : W (.fld F.QDM_INT_CAUSE_TRAIN_FAIL)) (h6 : W (.fld F.QDM_POOL_STAT_QDR_FREE)) (h7 : W (.fld F.QDM_STAT_IN_USE)) (h8 : W (.fld F.QDM_STAT_PORT_FAIL)) (h9 : W (.fld F.QDM_TRAIN_STAT_FAIL)) (h10 : W (.fld F.QDM_TRAIN_STAT_OK)) (h11 : W (.fld F.QDM_TRAIN_STAT_STEP)) (h12 : W (.fld H.QDM_TRAINING)) (a0 : Nat) (a1 : Nat) (h : execQdrTrainDone a0 a1 s = .next t) :
    Moves W s t := by
  unfold execQdrTrainDone at h
  refine done_moves (by assumption) ?_ h
  repeat' (first
    | with_reducible assumption
    | with_reducible exact .refl
    | with_reducible apply Qdm_trained_moves
    | intro _)

theorem execQdrRetrain_moves {W : Part → Prop} {s t : State} (h0 : W .held) (h1 : W .msix) (h2 : W .qdr) (h3 : W (.fld F.PEER_INT_CAUSE_MIRRORED)) (h4 : W (.fld F.PMC_INT_CAUSE_OVF)) (h5 : W (.fld F.PMC_INT_CAUSE_SMP_AVAIL)) (h6 : W (.fld F.PMC_INT_CAUSE_SMP_DROP)) (h7 : W (.fld F.PMC_OVF_STAT_OVF)) (h8 : W (.fld F.PMC_SMP_DROP_RING)) (h9 : W (.fld F.PMC_SMP_STAT_COUNT)) (h10 : W (.fld F.QDM_TRAIN_STAT_FAIL)) (h11 : W (.fld F.QDM_TRAIN_STAT_OK)) (h12 : W (.fld F.QDM_TRAIN_STAT_STEP)) (h13 : W (.fld H.PMC_CNT)) (h14 : W (.fld H.PMC_OVF_DUE)) (h15 : W (.fld H.PMC_OVF_T)) (h16 : W (.fld H.PMC_RING)) (h17 : W (.fld H.PMC_TRACE_POS)) (h18 : W (.fld H.QDM_CENTRE)) (h19 : W (.fld H.QDM_TRAINING)) (h : execQdrRetrain s = .next t) :
    Moves W s t := by
  unfold execQdrRetrain at h
  refine done_moves (by assumption) ?_ h
  repeat' (first
    | with_reducible assumption
    | with_reducible exact .refl
    | (with_reducible refine Bus_row_other (by assumption) (by assumption) (by assumption) (by assumption) (by assumption) (by assumption) (by assumption) (by assumption) (by assumption) (by assumption) (by assumption) (by assumption) (by assumption) (by assumption) _ _ _ _ _ (by decide) ?_ ?_)
    | with_reducible apply Qdm_retrain_moves
    | intro _)

theorem execQdrRecentre_moves {W : Part → Prop} {s t : State} (h0 : W .msix) (h1 : W (.fld H.QDM_CENTRE)) (a0 : Nat) (a1 : List Nat) (h : execQdrRecentre a0 a1 s = .next t) :
    Moves W s t := by
  unfold execQdrRecentre at h
  refine done_moves (by assumption) ?_ h
  repeat' (first
    | with_reducible assumption
    | with_reducible exact .refl
    | with_reducible apply Qdm_recentre_moves
    | intro _)

theorem execQdrParityError_moves {W : Part → Prop} {s t : State} (h0 : W .frm) (h1 : W .msix) (h2 : W (.fld F.QDM_ERR_ADDR_ADDR)) (h3 : W (.fld F.QDM_ERR_CNT_DATA)) (h4 : W (.fld F.QDM_INT_CAUSE_DATA_PERR)) (h5 : W (.fld H.QDM_ERRS_SEC)) (a0 : Nat) (a1 : Nat) (a2 : Nat) (h : execQdrParityError a0 a1 a2 s = .next t) :
    Moves W s t := by
  unfold execQdrParityError at h
  refine done_moves (by assumption) ?_ h
  repeat' (first
    | with_reducible assumption
    | with_reducible exact .refl
    | with_reducible apply Flw_parityError_moves
    | intro _)

theorem execAddrParityError_moves {W : Part → Prop} {s t : State} (h0 : W .msix) (h1 : W (.fld F.QDM_ERR_CNT_ADDR)) (h2 : W (.fld F.QDM_INT_CAUSE_ADDR_PERR)) (h3 : W (.fld H.QDM_ERRS_SEC)) (a0 : Nat) (h : execAddrParityError a0 s = .next t) :
    Moves W s t := by
  unfold execAddrParityError at h
  refine done_moves (by assumption) ?_ h
  repeat' (first
    | with_reducible assumption
    | with_reducible exact .refl
    | with_reducible apply Qdm_addrError_moves
    | intro _)

theorem execQdrPortFail_moves {W : Part → Prop} {s t : State} (h0 : W .flw) (h1 : W .frm) (h2 : W .msix) (h3 : W (.fld F.FLW_INT_CAUSE_SLEEP_DROP)) (h4 : W (.fld F.FLW_SLEEP_DROP_COUNT)) (h5 : W (.fld F.QDM_BW_LIMIT)) (h6 : W (.fld F.QDM_BW_USED)) (h7 : W (.fld F.QDM_INT_CAUSE_PORT_FAIL)) (h8 : W (.fld F.QDM_POOL_STAT_QDR_FREE)) (h9 : W (.fld F.QDM_STAT_IN_USE)) (h10 : W (.fld F.QDM_STAT_PORT_FAIL)) (h11 : W (.fld H.QDM_SLEEP_USED)) (a0 : Nat) (h : execQdrPortFail a0 s = .next t) :
    Moves W s t := by
  unfold execQdrPortFail at h
  refine done_moves (by assumption) ?_ h
  repeat' (first
    | with_reducible assumption
    | with_reducible exact .refl
    | with_reducible apply Flw_portFail_moves
    | intro _)

end Sys2Proof.Laws
end

