-- ==== Sys2Proof/Laws/MovesExecFrm.lean ====
section
/-! SUPPORT. Sys2Proof/Laws/MovesExecFrm.lean: what each command of Machine/ExecFrm.lean may write (Laws/Moves.lean). -/
namespace Sys2Proof.Laws
open Sys2Proof Sys2Proof.Machine

theorem execTxEn_moves {W : Part → Prop} {s t : State} (h0 : W .held) (h1 : W .msix) (h2 : W .qdr) (h3 : W (.fld F.FRM_CTRL_TX_EN)) (h4 : W (.fld F.PEER_INT_CAUSE_MIRRORED)) (h5 : W (.fld F.PMC_INT_CAUSE_OVF)) (h6 : W (.fld F.PMC_INT_CAUSE_SMP_AVAIL)) (h7 : W (.fld F.PMC_INT_CAUSE_SMP_DROP)) (h8 : W (.fld F.PMC_OVF_STAT_OVF)) (h9 : W (.fld F.PMC_SMP_DROP_RING)) (h10 : W (.fld F.PMC_SMP_STAT_COUNT)) (h11 : W (.fld H.FRM_TX_RUN)) (h12 : W (.fld H.PMC_CNT)) (h13 : W (.fld H.PMC_OVF_DUE)) (h14 : W (.fld H.PMC_OVF_T)) (h15 : W (.fld H.PMC_RING)) (h16 : W (.fld H.PMC_TRACE_POS)) (a0 : Nat) (h : execTxEn a0 s = .next t) :
    Moves W s t := by
  unfold execTxEn at h
  refine doneMirrored_moves (by assumption) ?_ h
  repeat' (first
    | with_reducible assumption
    | with_reducible exact .refl
    | (with_reducible refine Bus_row_other (by assumption) (by assumption) (by assumption) (by assumption) (by assumption) (by assumption) (by assumption) (by assumption) (by assumption) (by assumption) (by assumption) (by assumption) (by assumption) (by assumption) _ _ _ _ _ (by decide) ?_ ?_)
    | with_reducible apply Bus_frmTxEn_moves
    | intro _)

theorem execTxFrame_moves {W : Part → Prop} {s t : State} (h0 : W .msix) (h1 : W .qdr) (h2 : W .vlk) (h3 : W (.fld F.CRY_KEY_DATA_KEY)) (h4 : W (.fld F.CRY_KEY_SALT_SALT)) (h5 : W (.fld F.CRY_LOCK_STAT_LOCK_BROKEN)) (h6 : W (.fld F.CRY_LOCK_STAT_OWNER)) (h7 : W (.fld F.LRX_INT_CAUSE_SHADOW_LOCKED)) (h8 : W (.fld F.LRX_INT_CAUSE_TABLE_ERR)) (h9 : W (.fld F.LRX_STAT_ERR_SC)) (h10 : W (.fld F.LRX_STAT_SHADOW_READY)) (h11 : W (.fld F.LTX_CTRL_MUTE)) (h12 : W (.fld F.LTX_INT_CAUSE_SHADOW_LOCKED)) (h13 : W (.fld F.LTX_INT_CAUSE_TABLE_ERR)) (h14 : W (.fld F.LTX_STAT_ACTIVE)) (h15 : W (.fld F.LTX_STAT_ERR_SC)) (h16 : W (.fld F.LTX_STAT_MUTE_SRC)) (h17 : W (.fld F.LTX_STAT_SHADOW_READY)) (h18 : W (.fld F.MBX_INT_CAUSE_RESET_SEEN)) (h19 : W (.fld F.MBX_LOCK_STAT_LOCK_BROKEN)) (h20 : W (.fld F.MBX_LOCK_STAT_OWNER)) (h21 : W (.fld F.MBX_STAT_RX_RESET_SEEN)) (h22 : W (.fld F.MBX_STAT_SENDER_RESET_SEEN)) (h23 : W (.fld F.PMC_INT_CAUSE_OVF)) (h24 : W (.fld F.PMC_INT_CAUSE_SMP_AVAIL)) (h25 : W (.fld F.PMC_INT_CAUSE_SMP_DROP)) (h26 : W (.fld F.PMC_OVF_STAT_OVF)) (h27 : W (.fld F.PMC_SMP_DROP_RING)) (h28 : W (.fld F.PMC_SMP_STAT_COUNT)) (h29 : W (.fld F.PWR_SAFE_STAT_PEER_HELD)) (h30 : W (.fld F.PWR_SAFE_STAT_RX_SAFE)) (h31 : W (.fld F.PWR_SAFE_STAT_TX_MUTED)) (h32 : W (.fld F.PWR_SAFE_STAT_UP_SAFE)) (h33 : W (.fld F.SCM_CHG_STAT_DS_STATE)) (h34 : W (.fld F.SCM_CHG_STAT_US_STATE)) (h35 : W (.fld F.SCM_INT_CAUSE_CHG_FAIL)) (h36 : W (.fld F.SCM_NAK_MAP_LEAF)) (h37 : W (.fld F.VLK_INT_CAUSE_GRANT_SWAP)) (h38 : W (.fld F.VLK_INT_CAUSE_LEAF_LOST)) (h39 : W (.fld F.VLK_INT_CAUSE_STATE_CHG)) (h40 : W (.fld F.VLK_SELF_EQD_EQD)) (h41 : W (.fld F.VLK_SELF_LEAF)) (h42 : W (.fld F.VLK_SELF_SILENT)) (h43 : W (.fld F.VLK_SELF_STATE)) (h44 : W (.fld H.ENG_EDGE)) (h45 : W (.fld H.FEC_TX_POS)) (h46 : W (.fld H.FRM_CF_DUE)) (h47 : W (.fld H.FRM_LIVE_F)) (h48 : W (.fld H.FRM_LIVE_SC)) (h49 : W (.fld H.FRM_MGMT_DUE)) (h50 : W (.fld H.FRM_SEC_CLI)) (h51 : W (.fld H.FRM_SEC_SC)) (h52 : W (.fld H.FRM_SEEN_CLI)) (h53 : W (.fld H.FRM_SEEN_FLOW)) (h54 : W (.fld H.FRM_SEEN_LANE)) (h55 : W (.fld H.FRM_SEEN_LINE)) (h56 : W (.fld H.FRM_SEEN_SC)) (h57 : W (.fld H.FRM_TX_FN)) (h58 : W (.fld H.FRM_TX_MFN)) (h59 : W (.fld H.FRM_TX_RUN)) (h60 : W (.fld H.LRX_SHADOW)) (h61 : W (.fld H.LRX_SHADOW_VER)) (h62 : W (.fld H.LTX_OUTPUT)) (h63 : W (.fld H.LTX_SHADOW)) (h64 : W (.fld H.LTX_SHADOW_VER)) (h65 : W (.fld H.PEER_MUTE_WAS)) (h66 : W (.fld H.PMC_CNT)) (h67 : W (.fld H.PMC_OVF_DUE)) (h68 : W (.fld H.PMC_OVF_T)) (h69 : W (.fld H.PMC_RING)) (h70 : W (.fld H.PMC_TRACE_POS)) (h71 : W (.fld H.PWR_RELEASING)) (h72 : W (.fld H.SCM_ACKED)) (h73 : W (.fld H.SCM_ADDRESSED)) (h74 : W (.fld H.SCM_LAST_VER)) (h75 : W (.fld H.SCM_MF)) (h76 : W (.fld H.SCM_RESEND)) (h77 : W (.fld H.SCM_START_MF)) (h78 : W (.fld H.VLK_ATTEMPT)) (h79 : W (.fld H.VLK_EQD_DELTA)) (h80 : W (.fld H.VLK_EQD_NOW)) (h81 : W (.fld H.VLK_FEEDER_USE)) (h82 : W (.fld H.VLK_G_ACT)) (h83 : W (.fld H.VLK_G_ACT_VER)) (h84 : W (.fld H.VLK_G_SC_ACT)) (h85 : W (.fld H.VLK_G_SC_SHADOW)) (h86 : W (.fld H.VLK_G_SHADOW)) (h87 : W (.fld H.VLK_G_SHADOW_VER)) (h88 : W (.fld H.VLK_G_SWAP)) (h89 : W (.fld H.VLK_LISTENING)) (h90 : W (.fld H.VLK_PREV_LEAF)) (h91 : W (.fld H.VLK_REG_BASE)) (h92 : W (.fld H.VLK_REG_WAIT)) (h93 : W (.fld H.VLK_RR)) (h94 : W (.fld H.VLK_SEQ)) (h95 : W (.fld H.VLK_SWITCH_SILENT)) (h96 : W (.fld H.VLK_S_REST)) (h97 : W (.fld H.VLK_TREE)) (h98 : W (.fld H.VLK_UP_ON)) (a0 : Nat) (a1 : Nat) (a2 : List (List Bool)) (h : execTxFrame a0 a1 a2 s = .next t) :
    Moves W s t := by
  unfold execTxFrame at h
  refine doneMirrored_moves (by assumption) ?_ h
  repeat' (first
    | with_reducible assumption
    | with_reducible exact .refl
    | with_reducible apply Tick_txFrame_moves
    | intro _)

theorem execRxEn_moves {W : Part → Prop} {s t : State} (h0 : W .frm) (h1 : W .held) (h2 : W .msix) (h3 : W .qdr) (h4 : W (.arr H.FRM_BIP_AT)) (h5 : W (.fld F.FRM_ALIGN_STAT_CAND)) (h6 : W (.fld F.FRM_ALIGN_STAT_IN_MF)) (h7 : W (.fld F.FRM_ALIGN_STAT_MFN_VALID)) (h8 : W (.fld F.FRM_ALIGN_STAT_STATE)) (h9 : W (.fld F.FRM_CTRL_RX_EN)) (h10 : W (.fld F.FRM_INT_CAUSE_CFG_ERR)) (h11 : W (.fld F.FRM_SSM_RX_VALID)) (h12 : W (.fld F.PEER_INT_CAUSE_MIRRORED)) (h13 : W (.fld F.PMC_INT_CAUSE_OVF)) (h14 : W (.fld F.PMC_INT_CAUSE_SMP_AVAIL)) (h15 : W (.fld F.PMC_INT_CAUSE_SMP_DROP)) (h16 : W (.fld F.PMC_OVF_STAT_OVF)) (h17 : W (.fld F.PMC_SMP_DROP_RING)) (h18 : W (.fld F.PMC_SMP_STAT_COUNT)) (h19 : W (.fld H.FRM_AMBIG)) (h20 : W (.fld H.FRM_FAW_MISS)) (h21 : W (.fld H.FRM_FN_MISS)) (h22 : W (.fld H.FRM_FN_RUN)) (h23 : W (.fld H.FRM_LIVE_F)) (h24 : W (.fld H.FRM_LIVE_SC)) (h25 : W (.fld H.FRM_SEC_CLI)) (h26 : W (.fld H.FRM_SEC_SC)) (h27 : W (.fld H.FRM_SEEN_CLI)) (h28 : W (.fld H.FRM_SEEN_FLOW)) (h29 : W (.fld H.FRM_SEEN_LANE)) (h30 : W (.fld H.FRM_SEEN_LINE)) (h31 : W (.fld H.FRM_SEEN_SC)) (h32 : W (.fld H.FRM_SSM_RUN)) (h33 : W (.fld H.FRM_TTI_GOT)) (h34 : W (.fld H.FRM_TTI_RUN)) (h35 : W (.fld H.PMC_CNT)) (h36 : W (.fld H.PMC_OVF_DUE)) (h37 : W (.fld H.PMC_OVF_T)) (h38 : W (.fld H.PMC_RING)) (h39 : W (.fld H.PMC_TRACE_POS)) (a0 : Nat) (h : execRxEn a0 s = .next t) :
    Moves W s t := by
  unfold execRxEn at h
  refine done_moves (by assumption) ?_ h
  repeat' (first
    | with_reducible assumption
    | with_reducible exact .refl
    | (with_reducible refine Bus_row_other (by assumption) (by assumption) (by assumption) (by assumption) (by assumption) (by assumption) (by assumption) (by assumption) (by assumption) (by assumption) (by assumption) (by assumption) (by assumption) (by assumption) _ _ _ _ _ (by decide) ?_ ?_)
    | with_reducible apply Frm_rxEnable_moves
    | with_reducible apply Frm_rxDisable_moves
    | intro _
    | split)

theorem execResearch_moves {W : Part → Prop} {s t : State} (h0 : W .frm) (h1 : W .held) (h2 : W .msix) (h3 : W .qdr) (h4 : W (.arr H.FRM_BIP_AT)) (h5 : W (.fld F.FRM_ALIGN_STAT_CAND)) (h6 : W (.fld F.FRM_ALIGN_STAT_IN_MF)) (h7 : W (.fld F.FRM_ALIGN_STAT_MFN_VALID)) (h8 : W (.fld F.FRM_ALIGN_STAT_STATE)) (h9 : W (.fld F.FRM_INT_CAUSE_OOF)) (h10 : W (.fld F.FRM_SSM_RX_VALID)) (h11 : W (.fld F.PEER_INT_CAUSE_MIRRORED)) (h12 : W (.fld F.PMC_INT_CAUSE_OVF)) (h13 : W (.fld F.PMC_INT_CAUSE_SMP_AVAIL)) (h14 : W (.fld F.PMC_INT_CAUSE_SMP_DROP)) (h15 : W (.fld F.PMC_OVF_STAT_OVF)) (h16 : W (.fld F.PMC_SMP_DROP_RING)) (h17 : W (.fld F.PMC_SMP_STAT_COUNT)) (h18 : W (.fld H.FRM_AMBIG)) (h19 : W (.fld H.FRM_FAW_MISS)) (h20 : W (.fld H.FRM_FN_MISS)) (h21 : W (.fld H.FRM_FN_RUN)) (h22 : W (.fld H.FRM_LIVE_F)) (h23 : W (.fld H.FRM_LIVE_SC)) (h24 : W (.fld H.FRM_SEC_CLI)) (h25 : W (.fld H.FRM_SEC_SC)) (h26 : W (.fld H.FRM_SEEN_CLI)) (h27 : W (.fld H.FRM_SEEN_FLOW)) (h28 : W (.fld H.FRM_SEEN_LANE)) (h29 : W (.fld H.FRM_SEEN_LINE)) (h30 : W (.fld H.FRM_SEEN_SC)) (h31 : W (.fld H.FRM_SSM_RUN)) (h32 : W (.fld H.FRM_TTI_GOT)) (h33 : W (.fld H.FRM_TTI_RUN)) (h34 : W (.fld H.PMC_CNT)) (h35 : W (.fld H.PMC_OVF_DUE)) (h36 : W (.fld H.PMC_OVF_T)) (h37 : W (.fld H.PMC_RING)) (h38 : W (.fld H.PMC_TRACE_POS)) (h : execResearch s = .next t) :
    Moves W s t := by
  unfold execResearch at h
  refine done_moves (by assumption) ?_ h
  repeat' (first
    | with_reducible assumption
    | with_reducible exact .refl
    | (with_reducible refine Bus_row_other (by assumption) (by assumption) (by assumption) (by assumption) (by assumption) (by assumption) (by assumption) (by assumption) (by assumption) (by assumption) (by assumption) (by assumption) (by assumption) (by assumption) _ _ _ _ _ (by decide) ?_ ?_)
    | with_reducible apply Frm_research_moves
    | intro _)

theorem execFawHit_moves {W : Part → Prop} {s t : State} (h0 : W .frm) (h1 : W .msix) (h2 : W (.fld F.FRM_ALIGN_STAT_CAND)) (h3 : W (.fld F.FRM_CAND_OVF_COUNT)) (h4 : W (.fld F.FRM_INT_CAUSE_CAND_OVF)) (a0 : Nat) (a1 : Nat) (a2 : Nat) (h : execFawHit a0 a1 a2 s = .next t) :
    Moves W s t := by
  unfold execFawHit at h
  refine done_moves (by assumption) ?_ h
  repeat' (first
    | with_reducible assumption
    | with_reducible exact .refl
    | with_reducible apply Frm_fawHit_moves
    | intro _)

theorem execCandidateJudge_moves {W : Part → Prop} {s t : State} (h0 : W .frm) (h1 : W .msix) (h2 : W (.fld F.FRM_ALIGN_STAT_CAND)) (h3 : W (.fld F.FRM_ALIGN_STAT_IN_MF)) (h4 : W (.fld F.FRM_ALIGN_STAT_ROT_X)) (h5 : W (.fld F.FRM_ALIGN_STAT_STATE)) (h6 : W (.fld F.FRM_INT_CAUSE_IN_FRAME)) (h7 : W (.fld F.FRM_PATTERN_AMBIG_COUNT)) (h8 : W (.fld F.FRM_SSM_RX_VALID)) (h9 : W (.fld H.FRM_AMBIG)) (h10 : W (.fld H.FRM_FN_LAST)) (h11 : W (.fld H.FRM_FN_RUN)) (h12 : W (.fld H.FRM_LIVE_F)) (h13 : W (.fld H.FRM_LIVE_SC)) (h14 : W (.fld H.FRM_RX_FN)) (h15 : W (.fld H.FRM_SEC_CLI)) (h16 : W (.fld H.FRM_SEC_SC)) (h17 : W (.fld H.FRM_SEEN_CLI)) (h18 : W (.fld H.FRM_SEEN_FLOW)) (h19 : W (.fld H.FRM_SEEN_LANE)) (h20 : W (.fld H.FRM_SEEN_LINE)) (h21 : W (.fld H.FRM_SEEN_SC)) (a0 : Nat) (a1 : Nat) (a2 : Nat) (a3 : Nat) (h : execCandidateJudge a0 a1 a2 a3 s = .next t) :
    Moves W s t := by
  unfold execCandidateJudge at h
  refine done_moves (by assumption) ?_ h
  repeat' (first
    | with_reducible assumption
    | with_reducible exact .refl
    | with_reducible apply Frm_candidateJudge_moves
    | intro _)

theorem execFawCheck_moves {W : Part → Prop} {s t : State} (h0 : W .frm) (h1 : W .msix) (h2 : W (.fld F.FRM_ALIGN_STAT_ROT_Y)) (h3 : W (.fld H.FRM_FAW_MISS)) (h4 : W (.fld H.FRM_LIVE_SC)) (h5 : W (.fld H.FRM_RX_FN)) (h6 : W (.fld H.FRM_RX_MFN)) (a0 : Nat) (a1 : Nat) (a2 : Nat) (h : execFawCheck a0 a1 a2 s = .next t) :
    Moves W s t := by
  unfold execFawCheck at h
  refine done_moves (by assumption) ?_ h
  repeat' (first
    | with_reducible assumption
    | with_reducible exact .refl
    | with_reducible apply Frm_fawCheck_moves
    | intro _)

theorem execOof_moves {W : Part → Prop} {s t : State} (h0 : W .frm) (h1 : W .msix) (h2 : W (.arr H.FRM_BIP_AT)) (h3 : W (.fld F.FRM_ALIGN_STAT_CAND)) (h4 : W (.fld F.FRM_ALIGN_STAT_IN_MF)) (h5 : W (.fld F.FRM_ALIGN_STAT_MFN_VALID)) (h6 : W (.fld F.FRM_ALIGN_STAT_STATE)) (h7 : W (.fld F.FRM_INT_CAUSE_OOF)) (h8 : W (.fld F.FRM_SSM_RX_VALID)) (h9 : W (.fld H.FRM_AMBIG)) (h10 : W (.fld H.FRM_FAW_MISS)) (h11 : W (.fld H.FRM_FN_MISS)) (h12 : W (.fld H.FRM_FN_RUN)) (h13 : W (.fld H.FRM_LIVE_F)) (h14 : W (.fld H.FRM_LIVE_SC)) (h15 : W (.fld H.FRM_SEC_CLI)) (h16 : W (.fld H.FRM_SEC_SC)) (h17 : W (.fld H.FRM_SEEN_CLI)) (h18 : W (.fld H.FRM_SEEN_FLOW)) (h19 : W (.fld H.FRM_SEEN_LANE)) (h20 : W (.fld H.FRM_SEEN_LINE)) (h21 : W (.fld H.FRM_SEEN_SC)) (h22 : W (.fld H.FRM_SSM_RUN)) (h23 : W (.fld H.FRM_TTI_GOT)) (h24 : W (.fld H.FRM_TTI_RUN)) (h : execOof s = .next t) :
    Moves W s t := by
  unfold execOof at h
  refine done_moves (by assumption) ?_ h
  repeat' (first
    | with_reducible assumption
    | with_reducible exact .refl
    | with_reducible apply Frm_oof_moves
    | intro _)

theorem execOverheadWord_moves {W : Part → Prop} {s t : State} (h0 : W .msix) (h1 : W .vlk) (h2 : W (.fld F.FRM_ALIGN_STAT_MFN_VALID)) (h3 : W (.fld F.LRX_STAT_ANNOUNCED)) (h4 : W (.fld F.LTX_STAT_ANNOUNCED)) (h5 : W (.fld F.SCM_CHG_STAT_MIS_LEAF)) (h6 : W (.fld F.SCM_INT_CAUSE_LATE_SWAP)) (h7 : W (.fld F.SCM_INT_CAUSE_VER_MISMATCH)) (h8 : W (.fld H.FEC_RX_ON)) (h9 : W (.fld H.FEC_RX_POS)) (h10 : W (.fld H.FEC_RX_WAIT)) (h11 : W (.fld H.FEC_SL_ON)) (h12 : W (.fld H.FEC_SL_POS)) (h13 : W (.fld H.FEC_SL_WAIT)) (h14 : W (.fld H.FRM_BDI_LINE)) (h15 : W (.fld H.FRM_BDI_SC)) (h16 : W (.fld H.FRM_BIP_AT)) (h17 : W (.fld H.FRM_FN_LAST)) (h18 : W (.fld H.FRM_FN_MISS)) (h19 : W (.fld H.FRM_FN_RUN)) (h20 : W (.fld H.FRM_LEAF_BAD)) (h21 : W (.fld H.FRM_LIVE_F)) (h22 : W (.fld H.FRM_LIVE_SC)) (h23 : W (.fld H.FRM_RX_MFN)) (h24 : W (.fld H.FRM_SEC_CLI)) (h25 : W (.fld H.FRM_SEC_SC)) (h26 : W (.fld H.FRM_SEEN_CLI)) (h27 : W (.fld H.FRM_SEEN_FLOW)) (h28 : W (.fld H.FRM_SEEN_LANE)) (h29 : W (.fld H.FRM_SEEN_LINE)) (h30 : W (.fld H.FRM_SEEN_SC)) (h31 : W (.fld H.FRM_SSM_LAST)) (h32 : W (.fld H.FRM_SSM_RUN)) (h33 : W (.fld H.FRM_TTI_BUF)) (h34 : W (.fld H.FRM_TTI_GOT)) (h35 : W (.fld H.FRM_TTI_LAST)) (h36 : W (.fld H.FRM_TTI_RUN)) (h37 : W (.fld H.FRM_UP_FN_MISS)) (h38 : W (.fld H.FRM_UP_FN_RUN)) (h39 : W (.fld H.FRM_UP_MFN_MISS)) (h40 : W (.fld H.LRX_SWAP_DUE)) (h41 : W (.fld H.LRX_SWAP_MF)) (h42 : W (.fld H.LTX_SWAP_DUE)) (h43 : W (.fld H.LTX_SWAP_MF)) (h44 : W (.fld H.VLK_RX_ACT)) (h45 : W (.fld H.VLK_SEND_MISMATCH)) (h46 : W (.fld H.VLK_SEQ)) (a0 : Nat) (a1 : Nat) (a2 : Nat) (a3 : List Bool) (a4 : Nat) (a5 : Nat) (h : execOverheadWord a0 a1 a2 a3 a4 a5 s = .next t) :
    Moves W s t := by
  unfold execOverheadWord at h
  refine doneMirrored_moves (by assumption) ?_ h
  repeat' (first
    | with_reducible assumption
    | with_reducible exact .refl
    | with_reducible apply Frm_overheadWord_moves
    | intro _)

theorem execOom_moves {W : Part → Prop} {s t : State} (h0 : W .msix) (h1 : W (.fld F.FRM_ALIGN_STAT_IN_MF)) (h2 : W (.fld F.FRM_INT_CAUSE_OOM)) (h3 : W (.fld H.FRM_FN_RUN)) (h4 : W (.fld H.FRM_LIVE_F)) (h5 : W (.fld H.FRM_LIVE_SC)) (h6 : W (.fld H.FRM_SEC_CLI)) (h7 : W (.fld H.FRM_SEC_SC)) (h8 : W (.fld H.FRM_SEEN_CLI)) (h9 : W (.fld H.FRM_SEEN_FLOW)) (h10 : W (.fld H.FRM_SEEN_LANE)) (h11 : W (.fld H.FRM_SEEN_LINE)) (h12 : W (.fld H.FRM_SEEN_SC)) (h13 : W (.fld H.FRM_UP_FN_RUN)) (h14 : W (.fld H.FRM_UP_OOM)) (a0 : Nat) (a1 : Nat) (h : execOom a0 a1 s = .next t) :
    Moves W s t := by
  unfold execOom at h
  refine done_moves (by assumption) ?_ h
  repeat' (first
    | with_reducible assumption
    | with_reducible exact .refl
    | with_reducible apply Frm_oom_moves
    | intro _)

theorem execMfRestore_moves {W : Part → Prop} {s t : State} (h0 : W .msix) (h1 : W (.fld F.FRM_ALIGN_STAT_IN_MF)) (h2 : W (.fld H.FRM_FN_MISS)) (h3 : W (.fld H.FRM_RX_FN)) (h4 : W (.fld H.FRM_UP_FN_MISS)) (h5 : W (.fld H.FRM_UP_MFN_MISS)) (h6 : W (.fld H.FRM_UP_OOM)) (a0 : Nat) (a1 : Nat) (h : execMfRestore a0 a1 s = .next t) :
    Moves W s t := by
  unfold execMfRestore at h
  refine done_moves (by assumption) ?_ h
  repeat' (first
    | with_reducible assumption
    | with_reducible exact .refl
    | with_reducible apply Frm_mfRestore_moves
    | intro _)

theorem execUpstreamFawCheck_moves {W : Part → Prop} {s t : State} (h0 : W .frm) (h1 : W .msix) (h2 : W (.fld H.FRM_LIVE_SC)) (h3 : W (.fld H.FRM_UP_HIT)) (h4 : W (.fld H.FRM_UP_MISS)) (a0 : Nat) (a1 : Nat) (a2 : Nat) (h : execUpstreamFawCheck a0 a1 a2 s = .next t) :
    Moves W s t := by
  unfold execUpstreamFawCheck at h
  refine done_moves (by assumption) ?_ h
  repeat' (first
    | with_reducible assumption
    | with_reducible exact .refl
    | with_reducible apply Frm_upstreamFawCheck_moves
    | intro _)

theorem execUpstreamOof_moves {W : Part → Prop} {s t : State} (h0 : W .frm) (h1 : W .msix) (h2 : W (.fld F.FRM_INT_CAUSE_OOF)) (h3 : W (.fld H.FRM_LIVE_F)) (h4 : W (.fld H.FRM_LIVE_SC)) (h5 : W (.fld H.FRM_SEC_CLI)) (h6 : W (.fld H.FRM_SEC_SC)) (h7 : W (.fld H.FRM_SEEN_CLI)) (h8 : W (.fld H.FRM_SEEN_FLOW)) (h9 : W (.fld H.FRM_SEEN_LANE)) (h10 : W (.fld H.FRM_SEEN_LINE)) (h11 : W (.fld H.FRM_SEEN_SC)) (h12 : W (.fld H.FRM_UP_OOF)) (a0 : Nat) (a1 : Nat) (h : execUpstreamOof a0 a1 s = .next t) :
    Moves W s t := by
  unfold execUpstreamOof at h
  refine done_moves (by assumption) ?_ h
  repeat' (first
    | with_reducible assumption
    | with_reducible exact .refl
    | with_reducible apply Frm_upstreamOof_moves
    | intro _)

theorem execUpstreamInFrame_moves {W : Part → Prop} {s t : State} (h0 : W .msix) (h1 : W (.fld F.FRM_INT_CAUSE_IN_FRAME)) (h2 : W (.fld H.FRM_UP_FN_MISS)) (h3 : W (.fld H.FRM_UP_MFN_MISS)) (h4 : W (.fld H.FRM_UP_OOF)) (h5 : W (.fld H.FRM_UP_OOM)) (a0 : Nat) (a1 : Nat) (h : execUpstreamInFrame a0 a1 s = .next t) :
    Moves W s t := by
  unfold execUpstreamInFrame at h
  refine done_moves (by assumption) ?_ h
  repeat' (first
    | with_reducible assumption
    | with_reducible exact .refl
    | with_reducible apply Frm_upstreamInFrame_moves
    | intro _)

theorem execTenMsTick_moves {W : Part → Prop} {s t : State} (h0 : W .msix) (h1 : W (.fld F.CVT_ADC_LVL_OVR)) (h2 : W (.fld F.CVT_ADC_LVL_RMS)) (h3 : W (.fld F.FRM_BOUNDARY_TIES_COUNT)) (h4 : W (.fld F.FRM_DEF_CLI_DEF)) (h5 : W (.fld F.FRM_DEF_FLOW_DEF)) (h6 : W (.fld F.FRM_DEF_LANE_DEF)) (h7 : W (.fld F.FRM_DEF_LINE_DEF)) (h8 : W (.fld F.FRM_DEF_SC_DEF)) (h9 : W (.fld F.FRM_INT_CAUSE_DEF_CHG)) (h10 : W (.fld F.LTX_CLIP_CNT_COUNT)) (h11 : W (.fld F.LTX_INT_CAUSE_CLIP)) (h12 : W (.fld F.SYN_NCO_FREQ_F)) (h13 : W (.fld F.SYN_PPS_IN_ERR_VALID)) (h14 : W (.fld F.SYN_PSTEP_AMOUNT)) (h15 : W (.fld F.SYN_TIME_LO_VAL)) (h16 : W (.fld H.ENG_EDGE)) (h17 : W (.fld H.FRM_CLI_ACC)) (h18 : W (.fld H.FRM_CLI_RAW)) (h19 : W (.fld H.FRM_CLI_RUN)) (h20 : W (.fld H.FRM_CLI_RX)) (h21 : W (.fld H.FRM_CLI_TTI)) (h22 : W (.fld H.FRM_CLRC_CLI)) (h23 : W (.fld H.FRM_CLRC_FLOW)) (h24 : W (.fld H.FRM_CLRC_LANE)) (h25 : W (.fld H.FRM_CLRC_LINE)) (h26 : W (.fld H.FRM_CLRC_SC)) (h27 : W (.fld H.FRM_LIVE_CLI)) (h28 : W (.fld H.FRM_LIVE_F)) (h29 : W (.fld H.FRM_LIVE_SC)) (h30 : W (.fld H.FRM_SEC_CLI)) (h31 : W (.fld H.FRM_SEC_SC)) (h32 : W (.fld H.FRM_SEEN_CLI)) (h33 : W (.fld H.FRM_SEEN_FLOW)) (h34 : W (.fld H.FRM_SEEN_LANE)) (h35 : W (.fld H.FRM_SEEN_LINE)) (h36 : W (.fld H.FRM_SEEN_SC)) (h37 : W (.fld H.FRM_SETC_CLI)) (h38 : W (.fld H.FRM_SETC_FLOW)) (h39 : W (.fld H.FRM_SETC_LANE)) (h40 : W (.fld H.FRM_SETC_LINE)) (h41 : W (.fld H.FRM_SETC_SC)) (h42 : W (.fld H.SYN_KEYSTEP)) (h43 : W (.fld H.SYN_NCO_RAMP)) (h44 : W (.fld H.SYN_PPS_AGE)) (a0 : Nat) (a1 : List (Nat × OtuFrames)) (a2 : List (Nat × Nat × Nat)) (a3 : Nat) (h : execTenMsTick a0 a1 a2 s a3 = .next t) :
    Moves W s t := by
  unfold execTenMsTick at h
  refine done_moves (by assumption) ?_ h
  repeat' (first
    | with_reducible assumption
    | with_reducible exact .refl
    | with_reducible apply Tick_tenMs_moves
    | intro _)

theorem execDefectDeclare_moves {W : Part → Prop} {s t : State} (h0 : W .msix) (h1 : W (.fld F.FRM_DEF_CLI_DEF)) (h2 : W (.fld F.FRM_DEF_FLOW_DEF)) (h3 : W (.fld F.FRM_DEF_LANE_DEF)) (h4 : W (.fld F.FRM_DEF_LINE_DEF)) (h5 : W (.fld F.FRM_DEF_SC_DEF)) (h6 : W (.fld F.FRM_INT_CAUSE_DEF_CHG)) (h7 : W (.fld H.FRM_LIVE_F)) (h8 : W (.fld H.FRM_LIVE_SC)) (h9 : W (.fld H.FRM_SEC_CLI)) (h10 : W (.fld H.FRM_SEC_SC)) (h11 : W (.fld H.FRM_SEEN_CLI)) (h12 : W (.fld H.FRM_SEEN_FLOW)) (h13 : W (.fld H.FRM_SEEN_LANE)) (h14 : W (.fld H.FRM_SEEN_LINE)) (h15 : W (.fld H.FRM_SEEN_SC)) (a0 : Nat) (a1 : Nat) (a2 : Nat) (h : execDefectDeclare a0 a1 a2 s = .next t) :
    Moves W s t := by
  unfold execDefectDeclare at h
  refine done_moves (by assumption) ?_ h
  repeat' (first
    | with_reducible assumption
    | with_reducible exact .refl
    | with_reducible apply Frm_declareOne_moves
    | intro _)

theorem execDefectClear_moves {W : Part → Prop} {s t : State} (h0 : W .msix) (h1 : W (.fld F.FRM_DEF_CLI_DEF)) (h2 : W (.fld F.FRM_DEF_FLOW_DEF)) (h3 : W (.fld F.FRM_DEF_LANE_DEF)) (h4 : W (.fld F.FRM_DEF_LINE_DEF)) (h5 : W (.fld F.FRM_DEF_SC_DEF)) (h6 : W (.fld F.FRM_INT_CAUSE_DEF_CHG)) (a0 : Nat) (a1 : Nat) (a2 : Nat) (h : execDefectClear a0 a1 a2 s = .next t) :
    Moves W s t := by
  unfold execDefectClear at h
  refine done_moves (by assumption) ?_ h
  repeat' (first
    | with_reducible assumption
    | with_reducible exact .refl
    | with_reducible apply Frm_clearOne_moves
    | intro _)

theorem execDefCfgWrite_moves {W : Part → Prop} {s t : State} (h0 : W .held) (h1 : W .msix) (h2 : W .qdr) (h3 : W (.fld F.FRM_DEF_CFG_CLR)) (h4 : W (.fld F.FRM_DEF_CFG_SET)) (h5 : W (.fld F.PEER_INT_CAUSE_MIRRORED)) (h6 : W (.fld F.PMC_INT_CAUSE_OVF)) (h7 : W (.fld F.PMC_INT_CAUSE_SMP_AVAIL)) (h8 : W (.fld F.PMC_INT_CAUSE_SMP_DROP)) (h9 : W (.fld F.PMC_OVF_STAT_OVF)) (h10 : W (.fld F.PMC_SMP_DROP_RING)) (h11 : W (.fld F.PMC_SMP_STAT_COUNT)) (h12 : W (.fld H.FRM_CLRC_CLI)) (h13 : W (.fld H.FRM_CLRC_FLOW)) (h14 : W (.fld H.FRM_CLRC_LANE)) (h15 : W (.fld H.FRM_CLRC_LINE)) (h16 : W (.fld H.FRM_CLRC_SC)) (h17 : W (.fld H.FRM_SETC_CLI)) (h18 : W (.fld H.FRM_SETC_FLOW)) (h19 : W (.fld H.FRM_SETC_LANE)) (h20 : W (.fld H.FRM_SETC_LINE)) (h21 : W (.fld H.FRM_SETC_SC)) (h22 : W (.fld H.PMC_CNT)) (h23 : W (.fld H.PMC_OVF_DUE)) (h24 : W (.fld H.PMC_OVF_T)) (h25 : W (.fld H.PMC_RING)) (h26 : W (.fld H.PMC_TRACE_POS)) (a0 : Nat) (a1 : Nat) (h : execDefCfgWrite a0 a1 s = .next t) :
    Moves W s t := by
  unfold execDefCfgWrite at h
  refine done_moves (by assumption) ?_ h
  repeat' (first
    | with_reducible assumption
    | with_reducible exact .refl
    | (with_reducible refine Bus_row_other (by assumption) (by assumption) (by assumption) (by assumption) (by assumption) (by assumption) (by assumption) (by assumption) (by assumption) (by assumption) (by assumption) (by assumption) (by assumption) (by assumption) _ _ _ _ _ (by decide) ?_ ?_)
    | with_reducible apply Frm_writeDefCfg_moves
    | intro _)

theorem execSecondTick_moves {W : Part → Prop} {s t : State} (h0 : W .msix) (h1 : W .syn) (h2 : W (.arr F.FRM_CLI_PM_COUNT)) (h3 : W (.arr F.FRM_FPM_COUNT)) (h4 : W (.arr F.FRM_SC_PM_COUNT)) (h5 : W (.arr H.FRM_LIVE_CLI)) (h6 : W (.arr H.FRM_LIVE_F)) (h7 : W (.arr H.FRM_LIVE_SC)) (h8 : W (.arr H.FRM_SEC_CLI)) (h9 : W (.arr H.FRM_SEC_SC)) (h10 : W (.arr H.HKA_FRESH)) (h11 : W (.arr H.QDM_ERRS_SEC)) (h12 : W (.fld F.FEC_INT_CAUSE_PM_LATCH)) (h13 : W (.fld F.FEC_INT_CAUSE_PRE_SD)) (h14 : W (.fld F.FEC_ITER_HIST_COUNT)) (h15 : W (.fld F.FEC_PM_CBITS_COUNT)) (h16 : W (.fld F.FEC_PM_CBITS_HI_COUNT)) (h17 : W (.fld F.FEC_PM_CW_OK)) (h18 : W (.fld F.FEC_PM_FAIL_LDPC)) (h19 : W (.fld F.FEC_PM_FAIL_ROWS)) (h20 : W (.fld F.FEC_PM_INVAL_COUNT)) (h21 : W (.fld F.FEC_SD_MAP_SC)) (h22 : W (.fld F.FRM_BOUNDARY_TIES_COUNT)) (h23 : W (.fld F.FRM_CLI_PM_COUNT)) (h24 : W (.fld F.FRM_FPM_COUNT)) (h25 : W (.fld F.FRM_INT_CAUSE_PM_LATCH)) (h26 : W (.fld F.FRM_PM_STAT_SEQ)) (h27 : W (.fld F.FRM_SC_PM_COUNT)) (h28 : W (.fld F.HSL_CLI_FEC_COUNT)) (h29 : W (.fld F.HSL_CLI_STAT_HI_SER)) (h30 : W (.fld F.HSL_CLI_STAT_RX_LF)) (h31 : W (.fld F.HSL_CLI_STAT_RX_RF)) (h32 : W (.fld F.HSL_INT_CAUSE_HI_SER)) (h33 : W (.fld F.SE_IMG_STAT_TRIAL_LEFT)) (h34 : W (.fld F.SYN_HO_AGE_A)) (h35 : W (.fld F.SYN_HO_FREQ_F)) (h36 : W (.fld F.SYN_HO_STAT_AGE_S)) (h37 : W (.fld F.SYN_HO_STAT_FROZEN)) (h38 : W (.fld F.SYN_HO_STAT_SAMPLES)) (h39 : W (.fld F.SYN_HO_TEMP_THETA)) (h40 : W (.fld F.SYN_HO_TEMP_VALID)) (h41 : W (.fld F.SYN_INT_CAUSE_QL_CHG)) (h42 : W (.fld F.SYN_INT_CAUSE_REF_DISAGREE)) (h43 : W (.fld F.SYN_INT_CAUSE_REF_DQ)) (h44 : W (.fld F.SYN_INT_CAUSE_REF_DRIFT)) (h45 : W (.fld F.SYN_INT_CAUSE_REF_FAIL)) (h46 : W (.fld F.SYN_INT_CAUSE_REF_QUAL)) (h47 : W (.fld F.SYN_INT_CAUSE_TIME_SET)) (h48 : W (.fld F.SYN_REF_OFS_VAL)) (h49 : W (.fld F.SYN_REF_RATE_VAL)) (h50 : W (.fld F.SYN_REF_STAT_DISAGREE)) (h51 : W (.fld F.SYN_REF_STAT_ELIGIBLE)) (h52 : W (.fld F.SYN_REF_STAT_QL_EFF)) (h53 : W (.fld F.SYN_REF_STAT_STATE)) (h54 : W (.fld F.SYN_REF_STAT_WTR_LEFT)) (h55 : W (.fld F.SYN_STAT_MODEL_VALID)) (h56 : W (.fld F.SYN_STAT_OUT_QL)) (h57 : W (.fld F.SYN_STAT_SEL_QL)) (h58 : W (.fld F.SYN_TIME_CTRL_SET_PEND)) (h59 : W (.fld F.SYN_TIME_HI_VAL)) (h60 : W (.fld F.SYN_TIME_LO_VAL)) (h61 : W (.fld H.ENG_EDGE)) (h62 : W (.fld H.FEC_LIVE_CBITS)) (h63 : W (.fld H.FEC_LIVE_CW)) (h64 : W (.fld H.FEC_LIVE_HIST)) (h65 : W (.fld H.FEC_LIVE_INVAL)) (h66 : W (.fld H.FEC_LIVE_LDPC)) (h67 : W (.fld H.FEC_LIVE_ROWS)) (h68 : W (.fld H.FLW_PMI)) (h69 : W (.fld H.FRM_DEG_BAD)) (h70 : W (.fld H.FRM_DEG_GOOD)) (h71 : W (.fld H.FRM_LIVE_F)) (h72 : W (.fld H.FRM_LIVE_SC)) (h73 : W (.fld H.FRM_SEC_CLI)) (h74 : W (.fld H.FRM_SEC_SC)) (h75 : W (.fld H.FRM_SEEN_CLI)) (h76 : W (.fld H.FRM_SEEN_FLOW)) (h77 : W (.fld H.FRM_SEEN_LANE)) (h78 : W (.fld H.FRM_SEEN_LINE)) (h79 : W (.fld H.FRM_SEEN_SC)) (h80 : W (.fld H.LCM_CHAL_AGE)) (h81 : W (.fld H.SYN_GOOD)) (h82 : W (.fld H.SYN_LINE_OK)) (h83 : W (.fld H.SYN_LOCK_FULL)) (h84 : W (.fld H.SYN_OUT_RUN)) (h85 : W (.fld H.SYN_OVER)) (h86 : W (.fld H.SYN_OVER2)) (h87 : W (.fld H.SYN_QL_SENT)) (a0 : Sys2Proof.Second) (h : execSecondTick a0 s = .next t) :
    Moves W s t := by
  unfold execSecondTick at h
  refine done_moves (by assumption) ?_ h
  repeat' (first
    | with_reducible assumption
    | with_reducible exact .refl
    | with_reducible apply Tick_second_moves
    | intro _)

theorem execDegOnset_moves {W : Part → Prop} {s t : State} (h0 : W .msix) (h1 : W (.fld H.FRM_DEG_RAW)) (h2 : W (.fld H.FRM_LIVE_F)) (h3 : W (.fld H.FRM_LIVE_SC)) (h4 : W (.fld H.FRM_SEC_CLI)) (h5 : W (.fld H.FRM_SEC_SC)) (h6 : W (.fld H.FRM_SEEN_CLI)) (h7 : W (.fld H.FRM_SEEN_FLOW)) (h8 : W (.fld H.FRM_SEEN_LANE)) (h9 : W (.fld H.FRM_SEEN_LINE)) (h10 : W (.fld H.FRM_SEEN_SC)) (a0 : Nat) (h : execDegOnset a0 s = .next t) :
    Moves W s t := by
  unfold execDegOnset at h
  refine done_moves (by assumption) ?_ h
  repeat' (first
    | with_reducible assumption
    | with_reducible exact .refl
    | with_reducible apply Frm_degOnset_moves
    | intro _)

theorem execTtiAccept_moves {W : Part → Prop} {s t : State} (h0 : W .msix) (h1 : W (.fld F.FRM_TTI_RX_DATA)) (h2 : W (.fld H.FRM_LIVE_F)) (h3 : W (.fld H.FRM_LIVE_SC)) (h4 : W (.fld H.FRM_SEC_CLI)) (h5 : W (.fld H.FRM_SEC_SC)) (h6 : W (.fld H.FRM_SEEN_CLI)) (h7 : W (.fld H.FRM_SEEN_FLOW)) (h8 : W (.fld H.FRM_SEEN_LANE)) (h9 : W (.fld H.FRM_SEEN_LINE)) (h10 : W (.fld H.FRM_SEEN_SC)) (h11 : W (.fld H.FRM_TTI_ACC)) (h : execTtiAccept s = .next t) :
    Moves W s t := by
  unfold execTtiAccept at h
  refine done_moves (by assumption) ?_ h
  repeat' (first
    | with_reducible assumption
    | with_reducible exact .refl
    | with_reducible apply Frm_ttiAccept_moves
    | intro _)

theorem execSsmAccept_moves {W : Part → Prop} {s t : State} (h0 : W .msix) (h1 : W (.fld F.FRM_INT_CAUSE_SSM_CHG)) (h2 : W (.fld F.FRM_SSM_RX_SSM)) (h : execSsmAccept s = .next t) :
    Moves W s t := by
  unfold execSsmAccept at h
  refine done_moves (by assumption) ?_ h
  repeat' (first
    | with_reducible assumption
    | with_reducible exact .refl
    | with_reducible apply Frm_ssmAccept_moves
    | intro _)

theorem execCfReceive_moves {W : Part → Prop} {s t : State} (h0 : W .frm) (h1 : W .msix) (h2 : W (.fld F.CRY_CNT_COUNT)) (h3 : W (.fld F.CRY_INT_CAUSE_KEY_MISS)) (h4 : W (.fld F.CRY_INT_CAUSE_REPLAY)) (h5 : W (.fld F.CRY_INT_CAUSE_RESYNC)) (h6 : W (.fld F.CRY_INT_CAUSE_TAG_FAIL)) (h7 : W (.fld F.FLW_UNKNOWN_CNT_COUNT)) (h8 : W (.fld H.CRY_CAND)) (h9 : W (.fld H.CRY_LAST)) (h10 : W (.fld H.CRY_LAST_SEQ)) (h11 : W (.fld H.CRY_RUN_MASK)) (h12 : W (.fld H.CRY_RUN_PART)) (h13 : W (.fld H.CRY_RUN_SEQ)) (h14 : W (.fld H.CRY_RX_PH)) (h15 : W (.fld H.CRY_SYNC)) (h16 : W (.fld H.CRY_U)) (h17 : W (.fld H.CRY_WIN)) (h18 : W (.fld H.FEC_MARK)) (h19 : W (.fld H.FRM_LAST_TYPE)) (h20 : W (.fld H.FRM_LIVE_F)) (h21 : W (.fld H.FRM_LIVE_SC)) (h22 : W (.fld H.FRM_SEC_CLI)) (h23 : W (.fld H.FRM_SEC_SC)) (h24 : W (.fld H.FRM_SEEN_CLI)) (h25 : W (.fld H.FRM_SEEN_FLOW)) (h26 : W (.fld H.FRM_SEEN_LANE)) (h27 : W (.fld H.FRM_SEEN_LINE)) (h28 : W (.fld H.FRM_SEEN_SC)) (h29 : W (.fld H.FRM_WIN_ON)) (h30 : W (.fld H.FRM_WIN_SEQ)) (a0 : Nat) (a1 : Nat) (a2 : Nat) (a3 : List Nat) (a4 : List Nat) (a5 : Nat) (h : execCfReceive a0 a1 a2 a3 a4 a5 s = .next t) :
    Moves W s t := by
  unfold execCfReceive at h
  refine done_moves (by assumption) ?_ h
  repeat' (first
    | with_reducible assumption
    | with_reducible exact .refl
    | with_reducible apply Frm_cfReceive_moves
    | intro _)

theorem execSlipWrite_moves {W : Part → Prop} {s t : State} (h0 : W .frm) (h1 : W .msix) (h2 : W .qdr) (h3 : W (.fld F.FRM_INT_CAUSE_RA_OVF)) (h4 : W (.fld F.FRM_RA_STAT_FILL)) (h5 : W (.fld F.PMC_INT_CAUSE_OVF)) (h6 : W (.fld F.PMC_INT_CAUSE_SMP_AVAIL)) (h7 : W (.fld F.PMC_INT_CAUSE_SMP_DROP)) (h8 : W (.fld F.PMC_OVF_STAT_OVF)) (h9 : W (.fld F.PMC_SMP_DROP_RING)) (h10 : W (.fld F.PMC_SMP_STAT_COUNT)) (h11 : W (.fld F.QDM_BW_LIMIT)) (h12 : W (.fld F.QDM_BW_USED)) (h13 : W (.fld F.QDM_INT_CAUSE_POOL_EMPTY)) (h14 : W (.fld F.QDM_POOL_STAT_QDR_FREE)) (h15 : W (.fld H.FRM_EG_JUST)) (h16 : W (.fld H.FRM_LIVE_F)) (h17 : W (.fld H.PMC_CNT)) (h18 : W (.fld H.PMC_OVF_DUE)) (h19 : W (.fld H.PMC_OVF_T)) (h20 : W (.fld H.PMC_RING)) (h21 : W (.fld H.PMC_TRACE_POS)) (h22 : W (.fld H.QDM_EXTRA)) (h23 : W (.fld H.QDM_HELD)) (h24 : W (.fld H.QDM_POOL_USED)) (a0 : Nat) (h : execSlipWrite a0 s = .next t) :
    Moves W s t := by
  unfold execSlipWrite at h
  refine done_moves (by assumption) ?_ h
  repeat' (first
    | with_reducible assumption
    | with_reducible exact .refl
    | with_reducible apply Frm_slipWrite_moves
    | intro _)

theorem execSlipRead_moves {W : Part → Prop} {s t : State} (h0 : W .flw) (h1 : W .frm) (h2 : W .msix) (h3 : W (.fld F.FRM_RA_STAT_FILL)) (h4 : W (.fld F.QDM_BW_LIMIT)) (h5 : W (.fld F.QDM_BW_USED)) (h6 : W (.fld F.QDM_POOL_STAT_QDR_FREE)) (h7 : W (.fld H.FRM_LIVE_F)) (h8 : W (.fld H.HSL_NCO)) (h9 : W (.fld H.HSL_NCO_INT)) (h10 : W (.fld H.HSL_OUT)) (h11 : W (.fld H.QDM_EXTRA)) (h12 : W (.fld H.QDM_HELD)) (h13 : W (.fld H.QDM_POOL_USED)) (a0 : Nat) (a1 : List Nat) (h : execSlipRead a0 s a1 = .next t) :
    Moves W s t := by
  unfold execSlipRead at h
  refine done_moves (by assumption) ?_ h
  repeat' (first
    | with_reducible assumption
    | with_reducible exact .refl
    | with_reducible apply Frm_slipRead_moves
    | intro _)

end Sys2Proof.Laws
end

