-- ==== Sys2Proof/Laws/MovesExecHost.lean ====
section
/-! SUPPORT. Sys2Proof/Laws/MovesExecHost.lean: what each command of Machine/ExecHost.lean may write (Laws/Moves.lean). -/
namespace Sys2Proof.Laws
open Sys2Proof Sys2Proof.Machine

theorem execRegisterWrite_moves {W : Part → Prop} {s t : State} (hw : ∀ x, W x) (a0 : Nat) (a1 : Nat) (a2 : Nat) (a3 : Nat) (h : execRegisterWrite a0 a1 a2 a3 s = .next t) :
    Moves W s t := by
  unfold execRegisterWrite at h
  refine doneMirrored_moves (hw _) ?_ h
  repeat' (first
    | with_reducible assumption
    | with_reducible exact .refl
    | exact hw _
    | with_reducible apply Access_write_moves
    | intro _)

theorem execReadClear_moves {W : Part → Prop} {s t : State} (hw : ∀ x, W x) (a0 : Nat) (a1 : Nat) (h : execReadClear a0 a1 s = .next t) :
    Moves W s t := by
  unfold execReadClear at h
  refine doneMirrored_moves (hw _) ?_ h
  repeat' (first
    | with_reducible assumption
    | with_reducible exact .refl
    | exact hw _
    | with_reducible apply Access_read_moves
    | intro _)

theorem execSnapshotRead_moves {W : Part → Prop} {s t : State} (hw : ∀ x, W x) (a0 : Nat) (a1 : Nat) (h : execSnapshotRead a0 a1 s = .next t) :
    Moves W s t := by
  unfold execSnapshotRead at h
  refine doneMirrored_moves (hw _) ?_ h
  repeat' (first
    | with_reducible assumption
    | with_reducible exact .refl
    | exact hw _
    | with_reducible apply Access_read_moves
    | intro _)

theorem execPcieUnsupportedRequest_moves {W : Part → Prop} {s t : State} (h0 : W .msix) (a0 : Nat) (a1 : Nat) (a2 : Nat) (h : execPcieUnsupportedRequest a0 a1 a2 s = .next t) :
    Moves W s t := by
  unfold execPcieUnsupportedRequest at h
  refine done_moves (by assumption) ?_ h
  repeat' (first
    | with_reducible assumption
    | with_reducible exact .refl
    | with_reducible apply Access_unsupported_moves
    | intro _)

theorem execSysLock_moves {W : Part → Prop} {s t : State} (h0 : W .held) (h1 : W .msix) (h2 : W .qdr) (h3 : W (.fld F.PEER_INT_CAUSE_MIRRORED)) (h4 : W (.fld F.PMC_INT_CAUSE_OVF)) (h5 : W (.fld F.PMC_INT_CAUSE_SMP_AVAIL)) (h6 : W (.fld F.PMC_INT_CAUSE_SMP_DROP)) (h7 : W (.fld F.PMC_OVF_STAT_OVF)) (h8 : W (.fld F.PMC_SMP_DROP_RING)) (h9 : W (.fld F.PMC_SMP_STAT_COUNT)) (h10 : W (.fld F.SYS_LOCK_LOCK)) (h11 : W (.fld H.PMC_CNT)) (h12 : W (.fld H.PMC_OVF_DUE)) (h13 : W (.fld H.PMC_OVF_T)) (h14 : W (.fld H.PMC_RING)) (h15 : W (.fld H.PMC_TRACE_POS)) (a0 : Nat) (h : execSysLock a0 s = .next t) :
    Moves W s t := by
  unfold execSysLock at h
  refine done_moves (by assumption) ?_ h
  repeat' (first
    | with_reducible assumption
    | with_reducible exact .refl
    | (with_reducible refine Bus_row_other (by assumption) (by assumption) (by assumption) (by assumption) (by assumption) (by assumption) (by assumption) (by assumption) (by assumption) (by assumption) (by assumption) (by assumption) (by assumption) (by assumption) _ _ _ _ _ (by decide) ?_ ?_)
    | with_reducible apply Moves.set
    | with_reducible apply Moves.when
    | intro _)

theorem execBridgePrefilled_moves {W : Part → Prop} {s t : State} (h0 : W .msix) (h1 : W (.fld F.LRX_INT_CAUSE_TRACK)) (h2 : W (.fld F.LRX_INT_CAUSE_TRACK_LOST)) (h3 : W (.fld F.LRX_SC_STAT_LOCK)) (h4 : W (.fld F.LRX_STAT_STATE)) (h5 : W (.fld H.LRX_LLR_HOLD)) (h6 : W (.fld H.LRX_QUAD)) (h7 : W (.fld H.LRX_TAPS)) (h8 : W (.fld H.LRX_WIN_LOCK)) (h9 : W (.fld H.PWR_ARMED)) (h10 : W (.fld H.PWR_PREFILLED)) (a0 : Nat) (h : execBridgePrefilled a0 s = .next t) :
    Moves W s t := by
  unfold execBridgePrefilled at h
  refine done_moves (by assumption) ?_ h
  repeat' (first
    | with_reducible assumption
    | with_reducible exact .refl
    | with_reducible apply Lrx_leavePrefill_moves
    | with_reducible apply Pwr_prefill_moves
    | intro _)

theorem execBridgeUnderflow_moves {W : Part → Prop} {s t : State} (h0 : W .brx) (h1 : W .msix) (h2 : W .qdr) (h3 : W (.fld F.BRX_CNT_COUNT)) (h4 : W (.fld F.BRX_COL_STAT_COUNT)) (h5 : W (.fld F.BRX_COL_STAT_HEAD_DONE)) (h6 : W (.fld F.BRX_REC_STAT_COUNT)) (h7 : W (.fld F.BRX_STAT_CH)) (h8 : W (.fld F.CRY_KEY_DATA_KEY)) (h9 : W (.fld F.CRY_KEY_SALT_SALT)) (h10 : W (.fld F.CRY_LOCK_STAT_LOCK_BROKEN)) (h11 : W (.fld F.CRY_LOCK_STAT_OWNER)) (h12 : W (.fld F.LSR_STAT_HOLD)) (h13 : W (.fld F.LSR_STAT_LASER_EN)) (h14 : W (.fld F.LTX_CTRL_MUTE)) (h15 : W (.fld F.LTX_STAT_MUTE_SRC)) (h16 : W (.fld F.MBX_INT_CAUSE_RESET_SEEN)) (h17 : W (.fld F.MBX_LOCK_STAT_LOCK_BROKEN)) (h18 : W (.fld F.MBX_LOCK_STAT_OWNER)) (h19 : W (.fld F.MBX_STAT_RX_RESET_SEEN)) (h20 : W (.fld F.MBX_STAT_SENDER_RESET_SEEN)) (h21 : W (.fld F.PEER_INT_CAUSE_LINK_CHG)) (h22 : W (.fld F.PEER_INT_CAUSE_STATE_CHG)) (h23 : W (.fld F.PEER_STAT_LINK)) (h24 : W (.fld F.PEER_STAT_PHASE_OK)) (h25 : W (.fld F.PEER_STAT_STATE)) (h26 : W (.fld F.PMC_INT_CAUSE_OVF)) (h27 : W (.fld F.PMC_INT_CAUSE_SMP_AVAIL)) (h28 : W (.fld F.PMC_INT_CAUSE_SMP_DROP)) (h29 : W (.fld F.PMC_OVF_STAT_OVF)) (h30 : W (.fld F.PMC_SMP_DROP_RING)) (h31 : W (.fld F.PMC_SMP_STAT_COUNT)) (h32 : W (.fld F.PWR_INT_CAUSE_SLACK)) (h33 : W (.fld F.PWR_SAFE_STAT_PEER_HELD)) (h34 : W (.fld F.PWR_SAFE_STAT_RX_SAFE)) (h35 : W (.fld F.PWR_SAFE_STAT_TX_MUTED)) (h36 : W (.fld F.PWR_SAFE_STAT_UP_SAFE)) (h37 : W (.fld F.PWR_SLACK_LVL_MIN)) (h38 : W (.fld F.PWR_SLACK_LVL_NOW)) (h39 : W (.fld F.PWR_SLACK_LVL_UNDERRUN)) (h40 : W (.fld F.PWR_SLACK_STAT_HARD)) (h41 : W (.fld F.SYN_INT_CAUSE_QL_CHG)) (h42 : W (.fld F.SYN_REF_STAT_ELIGIBLE)) (h43 : W (.fld F.SYN_REF_STAT_QL_EFF)) (h44 : W (.fld F.SYN_STAT_OUT_QL)) (h45 : W (.fld F.SYN_STAT_SEL_QL)) (h46 : W (.fld H.LTX_OUTPUT)) (h47 : W (.fld H.PEER_MUTE_HELD)) (h48 : W (.fld H.PEER_MUTE_WAS)) (h49 : W (.fld H.PMC_CNT)) (h50 : W (.fld H.PMC_OVF_DUE)) (h51 : W (.fld H.PMC_OVF_T)) (h52 : W (.fld H.PMC_RING)) (h53 : W (.fld H.PMC_TRACE_POS)) (h54 : W (.fld H.PWR_LOW)) (h55 : W (.fld H.PWR_RELEASING)) (h56 : W (.fld H.SYN_LINE_OK)) (h57 : W (.fld H.SYN_OUT_RUN)) (h58 : W (.fld H.SYN_QL_SENT)) (a0 : Nat) (h : execBridgeUnderflow a0 s = .next t) :
    Moves W s t := by
  unfold execBridgeUnderflow at h
  refine doneMirrored_moves (by assumption) ?_ h
  repeat' (first
    | with_reducible assumption
    | with_reducible exact .refl
    | with_reducible apply Peer_held_moves
    | with_reducible apply Pwr_bridgeFault_moves
    | intro _)

theorem execBridgeOverflow_moves {W : Part → Prop} {s t : State} (h0 : W .brx) (h1 : W .msix) (h2 : W .qdr) (h3 : W (.fld F.BRX_CNT_COUNT)) (h4 : W (.fld F.BRX_COL_STAT_COUNT)) (h5 : W (.fld F.BRX_COL_STAT_HEAD_DONE)) (h6 : W (.fld F.BRX_REC_STAT_COUNT)) (h7 : W (.fld F.BRX_STAT_CH)) (h8 : W (.fld F.CRY_KEY_DATA_KEY)) (h9 : W (.fld F.CRY_KEY_SALT_SALT)) (h10 : W (.fld F.CRY_LOCK_STAT_LOCK_BROKEN)) (h11 : W (.fld F.CRY_LOCK_STAT_OWNER)) (h12 : W (.fld F.LSR_STAT_HOLD)) (h13 : W (.fld F.LSR_STAT_LASER_EN)) (h14 : W (.fld F.LTX_CTRL_MUTE)) (h15 : W (.fld F.LTX_STAT_MUTE_SRC)) (h16 : W (.fld F.MBX_INT_CAUSE_RESET_SEEN)) (h17 : W (.fld F.MBX_LOCK_STAT_LOCK_BROKEN)) (h18 : W (.fld F.MBX_LOCK_STAT_OWNER)) (h19 : W (.fld F.MBX_STAT_RX_RESET_SEEN)) (h20 : W (.fld F.MBX_STAT_SENDER_RESET_SEEN)) (h21 : W (.fld F.PEER_INT_CAUSE_LINK_CHG)) (h22 : W (.fld F.PEER_INT_CAUSE_STATE_CHG)) (h23 : W (.fld F.PEER_STAT_LINK)) (h24 : W (.fld F.PEER_STAT_PHASE_OK)) (h25 : W (.fld F.PEER_STAT_STATE)) (h26 : W (.fld F.PMC_INT_CAUSE_OVF)) (h27 : W (.fld F.PMC_INT_CAUSE_SMP_AVAIL)) (h28 : W (.fld F.PMC_INT_CAUSE_SMP_DROP)) (h29 : W (.fld F.PMC_OVF_STAT_OVF)) (h30 : W (.fld F.PMC_SMP_DROP_RING)) (h31 : W (.fld F.PMC_SMP_STAT_COUNT)) (h32 : W (.fld F.PWR_INT_CAUSE_SLACK)) (h33 : W (.fld F.PWR_SAFE_STAT_PEER_HELD)) (h34 : W (.fld F.PWR_SAFE_STAT_RX_SAFE)) (h35 : W (.fld F.PWR_SAFE_STAT_TX_MUTED)) (h36 : W (.fld F.PWR_SAFE_STAT_UP_SAFE)) (h37 : W (.fld F.PWR_SLACK_LVL_MIN)) (h38 : W (.fld F.PWR_SLACK_LVL_NOW)) (h39 : W (.fld F.PWR_SLACK_LVL_UNDERRUN)) (h40 : W (.fld F.PWR_SLACK_STAT_HARD)) (h41 : W (.fld F.SYN_INT_CAUSE_QL_CHG)) (h42 : W (.fld F.SYN_REF_STAT_ELIGIBLE)) (h43 : W (.fld F.SYN_REF_STAT_QL_EFF)) (h44 : W (.fld F.SYN_STAT_OUT_QL)) (h45 : W (.fld F.SYN_STAT_SEL_QL)) (h46 : W (.fld H.LTX_OUTPUT)) (h47 : W (.fld H.PEER_MUTE_HELD)) (h48 : W (.fld H.PEER_MUTE_WAS)) (h49 : W (.fld H.PMC_CNT)) (h50 : W (.fld H.PMC_OVF_DUE)) (h51 : W (.fld H.PMC_OVF_T)) (h52 : W (.fld H.PMC_RING)) (h53 : W (.fld H.PMC_TRACE_POS)) (h54 : W (.fld H.PWR_LOW)) (h55 : W (.fld H.PWR_RELEASING)) (h56 : W (.fld H.SYN_LINE_OK)) (h57 : W (.fld H.SYN_OUT_RUN)) (h58 : W (.fld H.SYN_QL_SENT)) (a0 : Nat) (h : execBridgeOverflow a0 s = .next t) :
    Moves W s t := by
  unfold execBridgeOverflow at h
  refine doneMirrored_moves (by assumption) ?_ h
  repeat' (first
    | with_reducible assumption
    | with_reducible exact .refl
    | with_reducible apply Peer_held_moves
    | with_reducible apply Pwr_bridgeFault_moves
    | intro _)

theorem execSlackLow_moves {W : Part → Prop} {s t : State} (h0 : W .msix) (h1 : W .qdr) (h2 : W (.fld F.PMC_INT_CAUSE_OVF)) (h3 : W (.fld F.PMC_INT_CAUSE_SMP_AVAIL)) (h4 : W (.fld F.PMC_INT_CAUSE_SMP_DROP)) (h5 : W (.fld F.PMC_OVF_STAT_OVF)) (h6 : W (.fld F.PMC_SMP_DROP_RING)) (h7 : W (.fld F.PMC_SMP_STAT_COUNT)) (h8 : W (.fld F.PWR_AVS_READ_BUSY)) (h9 : W (.fld F.PWR_INT_CAUSE_SLACK)) (h10 : W (.fld F.PWR_SAFE_STAT_AVS_CEILING)) (h11 : W (.fld F.PWR_SLACK_LVL_MIN)) (h12 : W (.fld F.PWR_SLACK_LVL_NOW)) (h13 : W (.fld F.PWR_SLACK_STAT_LOW)) (h14 : W (.fld F.PWR_VMIN_VREQ_MV)) (h15 : W (.fld H.PMC_CNT)) (h16 : W (.fld H.PMC_OVF_DUE)) (h17 : W (.fld H.PMC_OVF_T)) (h18 : W (.fld H.PMC_RING)) (h19 : W (.fld H.PMC_TRACE_POS)) (h20 : W (.fld H.PWR_LOW)) (h21 : W (.fld H.PWR_TARGET)) (h22 : W (.fld H.PWR_VMIN_ASKED)) (a0 : Nat) (a1 : Nat) (h : execSlackLow a0 a1 s = .next t) :
    Moves W s t := by
  unfold execSlackLow at h
  refine done_moves (by assumption) ?_ h
  repeat' (first
    | with_reducible assumption
    | with_reducible exact .refl
    | with_reducible apply Pwr_slackLow_moves
    | intro _)

theorem execHardMarginCrossing_moves {W : Part → Prop} {s t : State} (h0 : W .brx) (h1 : W .msix) (h2 : W .qdr) (h3 : W (.fld F.BRX_CNT_COUNT)) (h4 : W (.fld F.BRX_COL_STAT_COUNT)) (h5 : W (.fld F.BRX_COL_STAT_HEAD_DONE)) (h6 : W (.fld F.BRX_REC_STAT_COUNT)) (h7 : W (.fld F.BRX_STAT_CH)) (h8 : W (.fld F.CRY_KEY_DATA_KEY)) (h9 : W (.fld F.CRY_KEY_SALT_SALT)) (h10 : W (.fld F.CRY_LOCK_STAT_LOCK_BROKEN)) (h11 : W (.fld F.CRY_LOCK_STAT_OWNER)) (h12 : W (.fld F.LSR_STAT_HOLD)) (h13 : W (.fld F.LSR_STAT_LASER_EN)) (h14 : W (.fld F.LTX_CTRL_MUTE)) (h15 : W (.fld F.LTX_STAT_MUTE_SRC)) (h16 : W (.fld F.MBX_INT_CAUSE_RESET_SEEN)) (h17 : W (.fld F.MBX_LOCK_STAT_LOCK_BROKEN)) (h18 : W (.fld F.MBX_LOCK_STAT_OWNER)) (h19 : W (.fld F.MBX_STAT_RX_RESET_SEEN)) (h20 : W (.fld F.MBX_STAT_SENDER_RESET_SEEN)) (h21 : W (.fld F.PEER_INT_CAUSE_LINK_CHG)) (h22 : W (.fld F.PEER_INT_CAUSE_STATE_CHG)) (h23 : W (.fld F.PEER_STAT_LINK)) (h24 : W (.fld F.PEER_STAT_PHASE_OK)) (h25 : W (.fld F.PEER_STAT_STATE)) (h26 : W (.fld F.PMC_INT_CAUSE_OVF)) (h27 : W (.fld F.PMC_INT_CAUSE_SMP_AVAIL)) (h28 : W (.fld F.PMC_INT_CAUSE_SMP_DROP)) (h29 : W (.fld F.PMC_OVF_STAT_OVF)) (h30 : W (.fld F.PMC_SMP_DROP_RING)) (h31 : W (.fld F.PMC_SMP_STAT_COUNT)) (h32 : W (.fld F.PWR_INT_CAUSE_SLACK)) (h33 : W (.fld F.PWR_SAFE_STAT_PEER_HELD)) (h34 : W (.fld F.PWR_SAFE_STAT_RX_SAFE)) (h35 : W (.fld F.PWR_SAFE_STAT_TX_MUTED)) (h36 : W (.fld F.PWR_SAFE_STAT_UP_SAFE)) (h37 : W (.fld F.PWR_SLACK_LVL_HARD_CNT)) (h38 : W (.fld F.PWR_SLACK_LVL_MIN)) (h39 : W (.fld F.PWR_SLACK_LVL_NOW)) (h40 : W (.fld F.PWR_SLACK_STAT_HARD)) (h41 : W (.fld F.SYN_INT_CAUSE_QL_CHG)) (h42 : W (.fld F.SYN_REF_STAT_ELIGIBLE)) (h43 : W (.fld F.SYN_REF_STAT_QL_EFF)) (h44 : W (.fld F.SYN_STAT_OUT_QL)) (h45 : W (.fld F.SYN_STAT_SEL_QL)) (h46 : W (.fld H.LTX_OUTPUT)) (h47 : W (.fld H.PEER_MUTE_HELD)) (h48 : W (.fld H.PEER_MUTE_WAS)) (h49 : W (.fld H.PMC_CNT)) (h50 : W (.fld H.PMC_OVF_DUE)) (h51 : W (.fld H.PMC_OVF_T)) (h52 : W (.fld H.PMC_RING)) (h53 : W (.fld H.PMC_TRACE_POS)) (h54 : W (.fld H.PWR_LOW)) (h55 : W (.fld H.PWR_RELEASING)) (h56 : W (.fld H.SYN_LINE_OK)) (h57 : W (.fld H.SYN_OUT_RUN)) (h58 : W (.fld H.SYN_QL_SENT)) (a0 : Nat) (a1 : Nat) (h : execHardMarginCrossing a0 a1 s = .next t) :
    Moves W s t := by
  unfold execHardMarginCrossing at h
  refine doneMirrored_moves (by assumption) ?_ h
  repeat' (first
    | with_reducible assumption
    | with_reducible exact .refl
    | with_reducible apply Peer_held_moves
    | with_reducible apply Pwr_hardCrossing_moves
    | intro _)

theorem execAvsDecreaseRequest_moves {W : Part → Prop} {s t : State} (h0 : W .msix) (h1 : W .qdr) (h2 : W (.fld F.PMC_INT_CAUSE_OVF)) (h3 : W (.fld F.PMC_INT_CAUSE_SMP_AVAIL)) (h4 : W (.fld F.PMC_INT_CAUSE_SMP_DROP)) (h5 : W (.fld F.PMC_OVF_STAT_OVF)) (h6 : W (.fld F.PMC_SMP_DROP_RING)) (h7 : W (.fld F.PMC_SMP_STAT_COUNT)) (h8 : W (.fld F.PWR_AVS_READ_BUSY)) (h9 : W (.fld F.PWR_SLACK_LVL_MIN)) (h10 : W (.fld F.PWR_SLACK_LVL_NOW)) (h11 : W (.fld F.PWR_VMIN_VREQ_MV)) (h12 : W (.fld H.PMC_CNT)) (h13 : W (.fld H.PMC_OVF_DUE)) (h14 : W (.fld H.PMC_OVF_T)) (h15 : W (.fld H.PMC_RING)) (h16 : W (.fld H.PMC_TRACE_POS)) (h17 : W (.fld H.PWR_LOW)) (h18 : W (.fld H.PWR_TARGET)) (h19 : W (.fld H.PWR_VMIN_ASKED)) (a0 : List Nat) (h : execAvsDecreaseRequest a0 s = .next t) :
    Moves W s t := by
  unfold execAvsDecreaseRequest at h
  refine done_moves (by assumption) ?_ h
  repeat' (first
    | with_reducible assumption
    | with_reducible exact .refl
    | with_reducible apply Pwr_decrease_moves
    | with_reducible apply Pwr_observeAll_moves
    | intro _)

theorem execAutoRelease_moves {W : Part → Prop} {s t : State} (h0 : W .msix) (h1 : W (.fld F.PWR_SLACK_LVL_MIN)) (h2 : W (.fld F.PWR_SLACK_LVL_NOW)) (h3 : W (.fld H.PWR_LOW)) (h4 : W (.fld H.PWR_RELEASING)) (a0 : List Nat) (h : execAutoRelease a0 s = .next t) :
    Moves W s t := by
  unfold execAutoRelease at h
  refine done_moves (by assumption) ?_ h
  repeat' (first
    | with_reducible assumption
    | with_reducible exact .refl
    | with_reducible apply Pwr_autoRelease_moves
    | with_reducible apply Pwr_observeAll_moves
    | intro _)

theorem execRelease_moves {W : Part → Prop} {s t : State} (h0 : W .held) (h1 : W .msix) (h2 : W .qdr) (h3 : W (.fld F.PEER_INT_CAUSE_MIRRORED)) (h4 : W (.fld F.PMC_INT_CAUSE_OVF)) (h5 : W (.fld F.PMC_INT_CAUSE_SMP_AVAIL)) (h6 : W (.fld F.PMC_INT_CAUSE_SMP_DROP)) (h7 : W (.fld F.PMC_OVF_STAT_OVF)) (h8 : W (.fld F.PMC_SMP_DROP_RING)) (h9 : W (.fld F.PMC_SMP_STAT_COUNT)) (h10 : W (.fld F.PWR_INT_CAUSE_SLACK)) (h11 : W (.fld F.PWR_SAFE_STAT_RELEASE_REFUSED)) (h12 : W (.fld F.PWR_SLACK_LVL_MIN)) (h13 : W (.fld F.PWR_SLACK_LVL_NOW)) (h14 : W (.fld H.PMC_CNT)) (h15 : W (.fld H.PMC_OVF_DUE)) (h16 : W (.fld H.PMC_OVF_T)) (h17 : W (.fld H.PMC_RING)) (h18 : W (.fld H.PMC_TRACE_POS)) (h19 : W (.fld H.PWR_LOW)) (h20 : W (.fld H.PWR_RELEASING)) (a0 : List Nat) (h : execRelease a0 s = .next t) :
    Moves W s t := by
  unfold execRelease at h
  refine done_moves (by assumption) ?_ h
  repeat' (first
    | with_reducible assumption
    | with_reducible exact .refl
    | (with_reducible refine Bus_row_other (by assumption) (by assumption) (by assumption) (by assumption) (by assumption) (by assumption) (by assumption) (by assumption) (by assumption) (by assumption) (by assumption) (by assumption) (by assumption) (by assumption) _ _ _ _ _ (by decide) ?_ ?_)
    | with_reducible apply Pwr_release_moves
    | with_reducible apply Pwr_observeAll_moves
    | intro _)

theorem execActionReleaseEffect_moves {W : Part → Prop} {s t : State} (h0 : W .msix) (h1 : W (.fld F.LTX_STAT_MUTE_SRC)) (h2 : W (.fld F.PWR_SAFE_STAT_PEER_HELD)) (h3 : W (.fld F.PWR_SAFE_STAT_RX_SAFE)) (h4 : W (.fld F.PWR_SAFE_STAT_TX_MUTED)) (h5 : W (.fld F.PWR_SAFE_STAT_UP_SAFE)) (h6 : W (.fld H.LTX_OUTPUT)) (h7 : W (.fld H.PWR_RELEASING)) (h : execActionReleaseEffect s = .next t) :
    Moves W s t := by
  unfold execActionReleaseEffect at h
  refine done_moves (by assumption) ?_ h
  repeat' (first
    | with_reducible assumption
    | with_reducible exact .refl
    | with_reducible apply Pwr_releaseEffect_moves
    | intro _)

theorem execSlackCfgWrite_moves {W : Part → Prop} {s t : State} (h0 : W .held) (h1 : W .msix) (h2 : W .qdr) (h3 : W (.fld F.PEER_INT_CAUSE_MIRRORED)) (h4 : W (.fld F.PMC_INT_CAUSE_OVF)) (h5 : W (.fld F.PMC_INT_CAUSE_SMP_AVAIL)) (h6 : W (.fld F.PMC_INT_CAUSE_SMP_DROP)) (h7 : W (.fld F.PMC_OVF_STAT_OVF)) (h8 : W (.fld F.PMC_SMP_DROP_RING)) (h9 : W (.fld F.PMC_SMP_STAT_COUNT)) (h10 : W (.fld F.PWR_INT_CAUSE_SLACK)) (h11 : W (.fld F.PWR_SAFE_STAT_CFG_ERR)) (h12 : W (.fld F.PWR_SLACK_CFG_HARD)) (h13 : W (.fld F.PWR_SLACK_CFG_SOFT)) (h14 : W (.fld H.PMC_CNT)) (h15 : W (.fld H.PMC_OVF_DUE)) (h16 : W (.fld H.PMC_OVF_T)) (h17 : W (.fld H.PMC_RING)) (h18 : W (.fld H.PMC_TRACE_POS)) (h19 : W (.fld H.PWR_LOW)) (a0 : Nat) (a1 : Nat) (h : execSlackCfgWrite a0 a1 s = .next t) :
    Moves W s t := by
  unfold execSlackCfgWrite at h
  refine done_moves (by assumption) ?_ h
  repeat' (first
    | with_reducible assumption
    | with_reducible exact .refl
    | (with_reducible refine Bus_row_other (by assumption) (by assumption) (by assumption) (by assumption) (by assumption) (by assumption) (by assumption) (by assumption) (by assumption) (by assumption) (by assumption) (by assumption) (by assumption) (by assumption) _ _ _ _ _ (by decide) ?_ ?_)
    | with_reducible apply Pwr_writeSlackCfg_moves
    | intro _)

end Sys2Proof.Laws
end

