-- ==== Sys2Proof/Laws/MovesExecHsl.lean ====
section
/-! SUPPORT. Sys2Proof/Laws/MovesExecHsl.lean: what each command of Machine/ExecHsl.lean may write (Laws/Moves.lean). -/
namespace Sys2Proof.Laws
open Sys2Proof Sys2Proof.Machine

theorem execCliEnable_moves {W : Part → Prop} {s t : State} (h0 : W .held) (h1 : W .msix) (h2 : W .qdr) (h3 : W (.fld F.HSL_CLI_CFG_EN)) (h4 : W (.fld F.HSL_CLI_STAT_CFG_STEP)) (h5 : W (.fld F.HSL_CLI_STAT_STATE)) (h6 : W (.fld F.HSL_CLI_STAT_TX_REV)) (h7 : W (.fld F.HSL_INT_CAUSE_CFG_ERR)) (h8 : W (.fld F.HSL_INT_CAUSE_CLI_DOWN)) (h9 : W (.fld F.HSL_INT_CAUSE_CLI_UP)) (h10 : W (.fld F.HSL_INT_CAUSE_RCLK_SQ)) (h11 : W (.fld F.HSL_RCLK_SEL_SQUELCHED)) (h12 : W (.fld F.PEER_INT_CAUSE_MIRRORED)) (h13 : W (.fld F.PMC_INT_CAUSE_OVF)) (h14 : W (.fld F.PMC_INT_CAUSE_SMP_AVAIL)) (h15 : W (.fld F.PMC_INT_CAUSE_SMP_DROP)) (h16 : W (.fld F.PMC_OVF_STAT_OVF)) (h17 : W (.fld F.PMC_SMP_DROP_RING)) (h18 : W (.fld F.PMC_SMP_STAT_COUNT)) (h19 : W (.fld F.SYS_INT_CAUSE_ROLE_LIMIT)) (h20 : W (.fld H.FRM_LIVE_F)) (h21 : W (.fld H.FRM_LIVE_SC)) (h22 : W (.fld H.FRM_SEC_CLI)) (h23 : W (.fld H.FRM_SEC_SC)) (h24 : W (.fld H.FRM_SEEN_CLI)) (h25 : W (.fld H.FRM_SEEN_FLOW)) (h26 : W (.fld H.FRM_SEEN_LANE)) (h27 : W (.fld H.FRM_SEEN_LINE)) (h28 : W (.fld H.FRM_SEEN_SC)) (h29 : W (.fld H.HSL_EGRESS_REV)) (h30 : W (.fld H.HSL_OUT)) (h31 : W (.fld H.HSL_REV_USED)) (h32 : W (.fld H.PMC_CNT)) (h33 : W (.fld H.PMC_OVF_DUE)) (h34 : W (.fld H.PMC_OVF_T)) (h35 : W (.fld H.PMC_RING)) (h36 : W (.fld H.PMC_TRACE_POS)) (a0 : Nat) (h : execCliEnable a0 s = .next t) :
    Moves W s t := by
  unfold execCliEnable at h
  refine done_moves (by assumption) ?_ h
  repeat' (first
    | with_reducible assumption
    | with_reducible exact .refl
    | (with_reducible refine Bus_row_other (by assumption) (by assumption) (by assumption) (by assumption) (by assumption) (by assumption) (by assumption) (by assumption) (by assumption) (by assumption) (by assumption) (by assumption) (by assumption) (by assumption) _ _ _ _ _ (by decide) ?_ ?_)
    | with_reducible apply Tick_noted_moves
    | with_reducible apply Hsl_enable_moves
    | intro _)

theorem execCliDisable_moves {W : Part → Prop} {s t : State} (h0 : W .held) (h1 : W .msix) (h2 : W .qdr) (h3 : W (.fld F.HSL_CLI_CFG_EN)) (h4 : W (.fld F.HSL_CLI_STAT_STATE)) (h5 : W (.fld F.HSL_INT_CAUSE_CLI_DOWN)) (h6 : W (.fld F.HSL_INT_CAUSE_CLI_UP)) (h7 : W (.fld F.HSL_INT_CAUSE_RCLK_SQ)) (h8 : W (.fld F.HSL_LANE_STAT_AM_LOCK)) (h9 : W (.fld F.HSL_LANE_STAT_CDR_LOCK)) (h10 : W (.fld F.HSL_LANE_STAT_RX_INV)) (h11 : W (.fld F.HSL_LANE_STAT_SIG)) (h12 : W (.fld F.HSL_RCLK_SEL_SQUELCHED)) (h13 : W (.fld F.PEER_INT_CAUSE_MIRRORED)) (h14 : W (.fld F.PMC_INT_CAUSE_OVF)) (h15 : W (.fld F.PMC_INT_CAUSE_SMP_AVAIL)) (h16 : W (.fld F.PMC_INT_CAUSE_SMP_DROP)) (h17 : W (.fld F.PMC_OVF_STAT_OVF)) (h18 : W (.fld F.PMC_SMP_DROP_RING)) (h19 : W (.fld F.PMC_SMP_STAT_COUNT)) (h20 : W (.fld H.FRM_LIVE_F)) (h21 : W (.fld H.FRM_LIVE_SC)) (h22 : W (.fld H.FRM_SEC_CLI)) (h23 : W (.fld H.FRM_SEC_SC)) (h24 : W (.fld H.FRM_SEEN_CLI)) (h25 : W (.fld H.FRM_SEEN_FLOW)) (h26 : W (.fld H.FRM_SEEN_LANE)) (h27 : W (.fld H.FRM_SEEN_LINE)) (h28 : W (.fld H.FRM_SEEN_SC)) (h29 : W (.fld H.HSL_OUT)) (h30 : W (.fld H.PMC_CNT)) (h31 : W (.fld H.PMC_OVF_DUE)) (h32 : W (.fld H.PMC_OVF_T)) (h33 : W (.fld H.PMC_RING)) (h34 : W (.fld H.PMC_TRACE_POS)) (a0 : Nat) (h : execCliDisable a0 s = .next t) :
    Moves W s t := by
  unfold execCliDisable at h
  refine done_moves (by assumption) ?_ h
  repeat' (first
    | with_reducible assumption
    | with_reducible exact .refl
    | (with_reducible refine Bus_row_other (by assumption) (by assumption) (by assumption) (by assumption) (by assumption) (by assumption) (by assumption) (by assumption) (by assumption) (by assumption) (by assumption) (by assumption) (by assumption) (by assumption) _ _ _ _ _ (by decide) ?_ ?_)
    | with_reducible apply Tick_noted_moves
    | with_reducible apply Hsl_disable_moves
    | intro _)

theorem execSignalDetect_moves {W : Part → Prop} {s t : State} (h0 : W .msix) (h1 : W (.fld F.HSL_CLI_STAT_ORDER)) (h2 : W (.fld F.HSL_CLI_STAT_STATE)) (h3 : W (.fld F.HSL_CLI_STAT_TX_REV)) (h4 : W (.fld F.HSL_INT_CAUSE_CLI_DOWN)) (h5 : W (.fld F.HSL_INT_CAUSE_CLI_UP)) (h6 : W (.fld F.HSL_INT_CAUSE_RCLK_SQ)) (h7 : W (.fld F.HSL_LANE_STAT_SIG)) (h8 : W (.fld F.HSL_RCLK_SEL_SQUELCHED)) (h9 : W (.fld H.FRM_LIVE_F)) (h10 : W (.fld H.FRM_LIVE_SC)) (h11 : W (.fld H.FRM_SEC_CLI)) (h12 : W (.fld H.FRM_SEC_SC)) (h13 : W (.fld H.FRM_SEEN_CLI)) (h14 : W (.fld H.FRM_SEEN_FLOW)) (h15 : W (.fld H.FRM_SEEN_LANE)) (h16 : W (.fld H.FRM_SEEN_LINE)) (h17 : W (.fld H.FRM_SEEN_SC)) (h18 : W (.fld H.HSL_HOLD_USED)) (h19 : W (.fld H.HSL_REV_USED)) (a0 : Nat) (h : execSignalDetect a0 s = .next t) :
    Moves W s t := by
  unfold execSignalDetect at h
  refine done_moves (by assumption) ?_ h
  repeat' (first
    | with_reducible assumption
    | with_reducible exact .refl
    | with_reducible apply Tick_noted_moves
    | with_reducible apply Hsl_signalDetect_moves
    | intro _)

theorem execSignalLoss_moves {W : Part → Prop} {s t : State} (h0 : W .msix) (h1 : W (.fld F.HSL_CLI_STAT_STATE)) (h2 : W (.fld F.HSL_INT_CAUSE_CLI_DOWN)) (h3 : W (.fld F.HSL_INT_CAUSE_CLI_UP)) (h4 : W (.fld F.HSL_INT_CAUSE_RCLK_SQ)) (h5 : W (.fld F.HSL_LANE_STAT_AM_LOCK)) (h6 : W (.fld F.HSL_LANE_STAT_CDR_LOCK)) (h7 : W (.fld F.HSL_LANE_STAT_LOCK_LOST)) (h8 : W (.fld F.HSL_LANE_STAT_SIG)) (h9 : W (.fld F.HSL_RCLK_SEL_SQUELCHED)) (h10 : W (.fld H.FRM_LIVE_F)) (h11 : W (.fld H.FRM_LIVE_SC)) (h12 : W (.fld H.FRM_SEC_CLI)) (h13 : W (.fld H.FRM_SEC_SC)) (h14 : W (.fld H.FRM_SEEN_CLI)) (h15 : W (.fld H.FRM_SEEN_FLOW)) (h16 : W (.fld H.FRM_SEEN_LANE)) (h17 : W (.fld H.FRM_SEEN_LINE)) (h18 : W (.fld H.FRM_SEEN_SC)) (a0 : Nat) (h : execSignalLoss a0 s = .next t) :
    Moves W s t := by
  unfold execSignalLoss at h
  refine done_moves (by assumption) ?_ h
  repeat' (first
    | with_reducible assumption
    | with_reducible exact .refl
    | with_reducible apply Tick_noted_moves
    | with_reducible apply Hsl_signalLoss_moves
    | intro _)

theorem execCdrLock_moves {W : Part → Prop} {s t : State} (h0 : W .msix) (h1 : W (.fld F.HSL_CLI_STAT_ORDER)) (h2 : W (.fld F.HSL_CLI_STAT_STATE)) (h3 : W (.fld F.HSL_CLI_STAT_TX_REV)) (h4 : W (.fld F.HSL_INT_CAUSE_CLI_DOWN)) (h5 : W (.fld F.HSL_INT_CAUSE_CLI_UP)) (h6 : W (.fld F.HSL_INT_CAUSE_RCLK_SQ)) (h7 : W (.fld F.HSL_LANE_STAT_CDR_LOCK)) (h8 : W (.fld F.HSL_RCLK_SEL_SQUELCHED)) (h9 : W (.fld H.FRM_LIVE_F)) (h10 : W (.fld H.FRM_LIVE_SC)) (h11 : W (.fld H.FRM_SEC_CLI)) (h12 : W (.fld H.FRM_SEC_SC)) (h13 : W (.fld H.FRM_SEEN_CLI)) (h14 : W (.fld H.FRM_SEEN_FLOW)) (h15 : W (.fld H.FRM_SEEN_LANE)) (h16 : W (.fld H.FRM_SEEN_LINE)) (h17 : W (.fld H.FRM_SEEN_SC)) (h18 : W (.fld H.HSL_HOLD_USED)) (h19 : W (.fld H.HSL_REV_USED)) (a0 : Nat) (h : execCdrLock a0 s = .next t) :
    Moves W s t := by
  unfold execCdrLock at h
  refine done_moves (by assumption) ?_ h
  repeat' (first
    | with_reducible assumption
    | with_reducible exact .refl
    | with_reducible apply Tick_noted_moves
    | with_reducible apply Hsl_cdrLock_moves
    | intro _)

theorem execCdrLoss_moves {W : Part → Prop} {s t : State} (h0 : W .msix) (h1 : W (.fld F.HSL_CLI_STAT_STATE)) (h2 : W (.fld F.HSL_INT_CAUSE_CLI_DOWN)) (h3 : W (.fld F.HSL_INT_CAUSE_CLI_UP)) (h4 : W (.fld F.HSL_INT_CAUSE_RCLK_SQ)) (h5 : W (.fld F.HSL_LANE_STAT_AM_LOCK)) (h6 : W (.fld F.HSL_LANE_STAT_CDR_LOCK)) (h7 : W (.fld F.HSL_LANE_STAT_LOCK_LOST)) (h8 : W (.fld F.HSL_RCLK_SEL_SQUELCHED)) (h9 : W (.fld H.FRM_LIVE_F)) (h10 : W (.fld H.FRM_LIVE_SC)) (h11 : W (.fld H.FRM_SEC_CLI)) (h12 : W (.fld H.FRM_SEC_SC)) (h13 : W (.fld H.FRM_SEEN_CLI)) (h14 : W (.fld H.FRM_SEEN_FLOW)) (h15 : W (.fld H.FRM_SEEN_LANE)) (h16 : W (.fld H.FRM_SEEN_LINE)) (h17 : W (.fld H.FRM_SEEN_SC)) (a0 : Nat) (h : execCdrLoss a0 s = .next t) :
    Moves W s t := by
  unfold execCdrLoss at h
  refine done_moves (by assumption) ?_ h
  repeat' (first
    | with_reducible assumption
    | with_reducible exact .refl
    | with_reducible apply Tick_noted_moves
    | with_reducible apply Hsl_cdrLoss_moves
    | intro _)

theorem execLaneLock_moves {W : Part → Prop} {s t : State} (h0 : W .msix) (h1 : W (.fld F.HSL_CLI_STAT_ORDER)) (h2 : W (.fld F.HSL_CLI_STAT_STATE)) (h3 : W (.fld F.HSL_CLI_STAT_TX_REV)) (h4 : W (.fld F.HSL_INT_CAUSE_CLI_DOWN)) (h5 : W (.fld F.HSL_INT_CAUSE_CLI_UP)) (h6 : W (.fld F.HSL_INT_CAUSE_RCLK_SQ)) (h7 : W (.fld F.HSL_LANE_STAT_AM_LOCK)) (h8 : W (.fld F.HSL_LANE_STAT_LANE_ID)) (h9 : W (.fld F.HSL_LANE_STAT_RX_INV)) (h10 : W (.fld F.HSL_RCLK_SEL_SQUELCHED)) (h11 : W (.fld H.FRM_LIVE_F)) (h12 : W (.fld H.FRM_LIVE_SC)) (h13 : W (.fld H.FRM_SEC_CLI)) (h14 : W (.fld H.FRM_SEC_SC)) (h15 : W (.fld H.FRM_SEEN_CLI)) (h16 : W (.fld H.FRM_SEEN_FLOW)) (h17 : W (.fld H.FRM_SEEN_LANE)) (h18 : W (.fld H.FRM_SEEN_LINE)) (h19 : W (.fld H.FRM_SEEN_SC)) (h20 : W (.fld H.HSL_HOLD_USED)) (h21 : W (.fld H.HSL_REV_USED)) (a0 : Nat) (a1 : Nat) (a2 : Nat) (h : execLaneLock a0 a1 a2 s = .next t) :
    Moves W s t := by
  unfold execLaneLock at h
  refine done_moves (by assumption) ?_ h
  repeat' (first
    | with_reducible assumption
    | with_reducible exact .refl
    | with_reducible apply Tick_noted_moves
    | with_reducible apply Hsl_laneLock_moves
    | intro _)

theorem execMarkerLockLoss_moves {W : Part → Prop} {s t : State} (h0 : W .msix) (h1 : W (.fld F.HSL_CLI_STAT_STATE)) (h2 : W (.fld F.HSL_INT_CAUSE_CLI_DOWN)) (h3 : W (.fld F.HSL_INT_CAUSE_CLI_UP)) (h4 : W (.fld F.HSL_INT_CAUSE_RCLK_SQ)) (h5 : W (.fld F.HSL_LANE_STAT_AM_LOCK)) (h6 : W (.fld F.HSL_LANE_STAT_LOCK_LOST)) (h7 : W (.fld F.HSL_RCLK_SEL_SQUELCHED)) (h8 : W (.fld H.FRM_LIVE_F)) (h9 : W (.fld H.FRM_LIVE_SC)) (h10 : W (.fld H.FRM_SEC_CLI)) (h11 : W (.fld H.FRM_SEC_SC)) (h12 : W (.fld H.FRM_SEEN_CLI)) (h13 : W (.fld H.FRM_SEEN_FLOW)) (h14 : W (.fld H.FRM_SEEN_LANE)) (h15 : W (.fld H.FRM_SEEN_LINE)) (h16 : W (.fld H.FRM_SEEN_SC)) (a0 : Nat) (h : execMarkerLockLoss a0 s = .next t) :
    Moves W s t := by
  unfold execMarkerLockLoss at h
  refine done_moves (by assumption) ?_ h
  repeat' (first
    | with_reducible assumption
    | with_reducible exact .refl
    | with_reducible apply Tick_noted_moves
    | with_reducible apply Hsl_markerLoss_moves
    | intro _)

theorem execEgressOrderChange_moves {W : Part → Prop} {s t : State} (h0 : W .msix) (h1 : W (.fld F.HSL_INT_CAUSE_ORDER_CHG)) (h2 : W (.fld H.HSL_EGRESS_REV)) (a0 : Nat) (h : execEgressOrderChange a0 s = .next t) :
    Moves W s t := by
  unfold execEgressOrderChange at h
  refine done_moves (by assumption) ?_ h
  repeat' (first
    | with_reducible assumption
    | with_reducible exact .refl
    | with_reducible apply Hsl_egressOrder_moves
    | intro _)

theorem execDeskewMeasure_moves {W : Part → Prop} {s t : State} (h0 : W .msix) (h1 : W (.fld F.HSL_CLI_DSK_APPLIED)) (h2 : W (.fld F.HSL_CLI_DSK_MEAS)) (h3 : W (.fld F.HSL_CLI_STAT_DSK_OVER)) (h4 : W (.fld F.HSL_CLI_STAT_DSK_RANGE)) (h5 : W (.fld F.HSL_CLI_STAT_FLEXO_ID)) (h6 : W (.fld F.HSL_CLI_STAT_STATE)) (h7 : W (.fld F.HSL_INT_CAUSE_CLI_DOWN)) (h8 : W (.fld F.HSL_INT_CAUSE_CLI_UP)) (h9 : W (.fld F.HSL_INT_CAUSE_DSK_OVER)) (h10 : W (.fld F.HSL_INT_CAUSE_DSK_RANGE)) (h11 : W (.fld H.FRM_LIVE_F)) (h12 : W (.fld H.FRM_LIVE_SC)) (h13 : W (.fld H.FRM_SEC_CLI)) (h14 : W (.fld H.FRM_SEC_SC)) (h15 : W (.fld H.FRM_SEEN_CLI)) (h16 : W (.fld H.FRM_SEEN_FLOW)) (h17 : W (.fld H.FRM_SEEN_LANE)) (h18 : W (.fld H.FRM_SEEN_LINE)) (h19 : W (.fld H.FRM_SEEN_SC)) (a0 : Nat) (a1 : Nat) (a2 : Nat) (h : execDeskewMeasure a0 a1 a2 s = .next t) :
    Moves W s t := by
  unfold execDeskewMeasure at h
  refine done_moves (by assumption) ?_ h
  repeat' (first
    | with_reducible assumption
    | with_reducible exact .refl
    | with_reducible apply Tick_deskew_moves
    | intro _)

theorem execLinkTmo_moves {W : Part → Prop} {s t : State} (h0 : W .msix) (h1 : W (.fld F.HSL_CLI_STAT_RETRY)) (h2 : W (.fld F.HSL_CLI_STAT_STATE)) (h3 : W (.fld F.HSL_INT_CAUSE_CLI_DOWN)) (h4 : W (.fld F.HSL_INT_CAUSE_CLI_UP)) (h5 : W (.fld F.HSL_INT_CAUSE_RCLK_SQ)) (h6 : W (.fld F.HSL_LANE_STAT_AM_LOCK)) (h7 : W (.fld F.HSL_LANE_STAT_CDR_LOCK)) (h8 : W (.fld F.HSL_RCLK_SEL_SQUELCHED)) (h9 : W (.fld H.FRM_LIVE_F)) (h10 : W (.fld H.FRM_LIVE_SC)) (h11 : W (.fld H.FRM_SEC_CLI)) (h12 : W (.fld H.FRM_SEC_SC)) (h13 : W (.fld H.FRM_SEEN_CLI)) (h14 : W (.fld H.FRM_SEEN_FLOW)) (h15 : W (.fld H.FRM_SEEN_LANE)) (h16 : W (.fld H.FRM_SEEN_LINE)) (h17 : W (.fld H.FRM_SEEN_SC)) (a0 : Nat) (a1 : Nat) (h : execLinkTmo a0 a1 s = .next t) :
    Moves W s t := by
  unfold execLinkTmo at h
  refine done_moves (by assumption) ?_ h
  repeat' (first
    | with_reducible assumption
    | with_reducible exact .refl
    | with_reducible apply Tick_noted_moves
    | with_reducible apply Hsl_linkTimeout_moves
    | intro _)

end Sys2Proof.Laws
end

