-- ==== Sys2Proof/Laws/MovesExecLrx.lean ====
section
/-! SUPPORT. Sys2Proof/Laws/MovesExecLrx.lean: what each command of Machine/ExecLrx.lean may write (Laws/Moves.lean). -/
namespace Sys2Proof.Laws
open Sys2Proof Sys2Proof.Machine

theorem execLrxEnable_moves {W : Part → Prop} {s t : State} (h0 : W .held) (h1 : W .msix) (h2 : W .qdr) (h3 : W (.arr H.FEC_RX_ON)) (h4 : W (.arr H.FEC_RX_POS)) (h5 : W (.arr H.FEC_RX_WAIT)) (h6 : W (.arr H.FEC_SL_ON)) (h7 : W (.arr H.FEC_SL_POS)) (h8 : W (.arr H.FEC_SL_WAIT)) (h9 : W (.fld F.CAL_INT_CAUSE_ABORTED)) (h10 : W (.fld F.CAL_STAT_STATE)) (h11 : W (.fld F.CVT_ADC_STAT_MAP_ERR)) (h12 : W (.fld F.HKA_STAT_CAL_HOLD)) (h13 : W (.fld F.HKA_STAT_INJ_PEND)) (h14 : W (.fld F.HKA_STAT_STATE)) (h15 : W (.fld F.LRX_CTRL_EN)) (h16 : W (.fld F.LRX_INT_CAUSE_CFG_ERR)) (h17 : W (.fld F.LRX_INT_CAUSE_TRACK)) (h18 : W (.fld F.LRX_INT_CAUSE_TRACK_LOST)) (h19 : W (.fld F.LRX_SC_STAT_LOCK)) (h20 : W (.fld F.LRX_STAT_CFG_STEP)) (h21 : W (.fld F.LRX_STAT_STATE)) (h22 : W (.fld F.LSR_STAT_SER_BUSY)) (h23 : W (.fld F.PEER_INT_CAUSE_MIRRORED)) (h24 : W (.fld F.PMC_INT_CAUSE_OVF)) (h25 : W (.fld F.PMC_INT_CAUSE_SMP_AVAIL)) (h26 : W (.fld F.PMC_INT_CAUSE_SMP_DROP)) (h27 : W (.fld F.PMC_OVF_STAT_OVF)) (h28 : W (.fld F.PMC_SMP_DROP_RING)) (h29 : W (.fld F.PMC_SMP_STAT_COUNT)) (h30 : W (.fld F.PWR_AVS_READ_BUSY)) (h31 : W (.fld F.PWR_VMIN_VMIN_MV)) (h32 : W (.fld F.PWR_VMIN_VREQ_MV)) (h33 : W (.fld H.BST_WAITING)) (h34 : W (.fld H.CAL_RETRY)) (h35 : W (.fld H.HKA_CAL_WAIT)) (h36 : W (.fld H.HKA_CUR)) (h37 : W (.fld H.HKA_RUN)) (h38 : W (.fld H.HKA_SEQ_STATE)) (h39 : W (.fld H.HKA_TICKS)) (h40 : W (.fld H.LRX_D_NOW)) (h41 : W (.fld H.LRX_LLR_HOLD)) (h42 : W (.fld H.LRX_QUAD)) (h43 : W (.fld H.LRX_TAPS)) (h44 : W (.fld H.LRX_WIN_LOCK)) (h45 : W (.fld H.LSR_HOST_PEND)) (h46 : W (.fld H.LSR_HOST_RUN)) (h47 : W (.fld H.LSR_OWN_CMD)) (h48 : W (.fld H.LSR_OWN_PEND)) (h49 : W (.fld H.LSR_OWN_RUN)) (h50 : W (.fld H.LSR_SET)) (h51 : W (.fld H.LSR_TUNE_CMD)) (h52 : W (.fld H.LSR_TUNE_PEND)) (h53 : W (.fld H.PMC_CNT)) (h54 : W (.fld H.PMC_OVF_DUE)) (h55 : W (.fld H.PMC_OVF_T)) (h56 : W (.fld H.PMC_RING)) (h57 : W (.fld H.PMC_TRACE_POS)) (h58 : W (.fld H.PWR_HOLD_RX)) (h59 : W (.fld H.PWR_TARGET)) (h60 : W (.fld H.PWR_VMIN_ASKED)) (h61 : W (.fld H.PWR_VMIN_FAILED)) (h62 : W (.fld H.PWR_VMIN_WAITS)) (h : execLrxEnable s = .next t) :
    Moves W s t := by
  unfold execLrxEnable at h
  refine doneMirrored_moves (by assumption) ?_ h
  repeat' (first
    | with_reducible assumption
    | with_reducible exact .refl
    | (with_reducible refine Bus_row_line (by assumption) (by assumption) (by assumption) (by assumption) (by assumption) (by assumption) (by assumption) (by assumption) (by assumption) (by assumption) (by assumption) (by assumption) (by assumption) (by assumption) (by assumption) (by assumption) (by assumption) (by assumption) (by assumption) (by assumption) (by assumption) (by assumption) (by assumption) (by assumption) (by assumption) (by assumption) _ _ _ _ _ (by decide) ?_ ?_)
    | with_reducible apply Lrx_enable_moves
    | intro _)

theorem execLrxDisable_moves {W : Part → Prop} {s t : State} (h0 : W .held) (h1 : W .msix) (h2 : W .qdr) (h3 : W (.fld F.CAL_INT_CAUSE_ABORTED)) (h4 : W (.fld F.CAL_STAT_STATE)) (h5 : W (.fld F.HKA_STAT_CAL_HOLD)) (h6 : W (.fld F.HKA_STAT_INJ_PEND)) (h7 : W (.fld F.HKA_STAT_STATE)) (h8 : W (.fld F.LRX_CTRL_EN)) (h9 : W (.fld F.LRX_INT_CAUSE_LOAD_CANCELLED)) (h10 : W (.fld F.LRX_INT_CAUSE_LOS_CHG)) (h11 : W (.fld F.LRX_INT_CAUSE_TRACK)) (h12 : W (.fld F.LRX_INT_CAUSE_TRACK_LOST)) (h13 : W (.fld F.LRX_SC_STAT_LOCK)) (h14 : W (.fld F.LRX_STAT_ACQ_RETRY)) (h15 : W (.fld F.LRX_STAT_ANNOUNCED)) (h16 : W (.fld F.LRX_STAT_CD_ARMED)) (h17 : W (.fld F.LRX_STAT_CD_FADING)) (h18 : W (.fld F.LRX_STAT_CD_HELD)) (h19 : W (.fld F.LRX_STAT_LOS)) (h20 : W (.fld F.LRX_STAT_SHADOW_READY)) (h21 : W (.fld F.LRX_STAT_STATE)) (h22 : W (.fld F.PEER_INT_CAUSE_MIRRORED)) (h23 : W (.fld F.PMC_INT_CAUSE_OVF)) (h24 : W (.fld F.PMC_INT_CAUSE_SMP_AVAIL)) (h25 : W (.fld F.PMC_INT_CAUSE_SMP_DROP)) (h26 : W (.fld F.PMC_OVF_STAT_OVF)) (h27 : W (.fld F.PMC_SMP_DROP_RING)) (h28 : W (.fld F.PMC_SMP_STAT_COUNT)) (h29 : W (.fld F.PWR_AVS_READ_BUSY)) (h30 : W (.fld F.PWR_VMIN_VMIN_MV)) (h31 : W (.fld F.PWR_VMIN_VREQ_MV)) (h32 : W (.fld F.SCM_CHG_STAT_US_STATE)) (h33 : W (.fld H.BST_WAITING)) (h34 : W (.fld H.CAL_RETRY)) (h35 : W (.fld H.HKA_CAL_WAIT)) (h36 : W (.fld H.HKA_CUR)) (h37 : W (.fld H.HKA_RUN)) (h38 : W (.fld H.HKA_SEQ_STATE)) (h39 : W (.fld H.HKA_TICKS)) (h40 : W (.fld H.LRX_LLR_HOLD)) (h41 : W (.fld H.LRX_SWAP_DUE)) (h42 : W (.fld H.LRX_WIN_LOCK)) (h43 : W (.fld H.PMC_CNT)) (h44 : W (.fld H.PMC_OVF_DUE)) (h45 : W (.fld H.PMC_OVF_T)) (h46 : W (.fld H.PMC_RING)) (h47 : W (.fld H.PMC_TRACE_POS)) (h48 : W (.fld H.PWR_HOLD_RX)) (h49 : W (.fld H.PWR_TARGET)) (h50 : W (.fld H.PWR_VMIN_ASKED)) (h51 : W (.fld H.PWR_VMIN_FAILED)) (h52 : W (.fld H.PWR_VMIN_WAITS)) (h : execLrxDisable s = .next t) :
    Moves W s t := by
  unfold execLrxDisable at h
  refine doneMirrored_moves (by assumption) ?_ h
  repeat' (first
    | with_reducible assumption
    | with_reducible exact .refl
    | (with_reducible refine Bus_row_line (by assumption) (by assumption) (by assumption) (by assumption) (by assumption) (by assumption) (by assumption) (by assumption) (by assumption) (by assumption) (by assumption) (by assumption) (by assumption) (by assumption) (by assumption) (by assumption) (by assumption) (by assumption) (by assumption) (by assumption) (by assumption) (by assumption) (by assumption) (by assumption) (by assumption) (by assumption) _ _ _ _ _ (by decide) ?_ ?_)
    | with_reducible apply Lrx_disable_moves
    | intro _)

theorem execLosSet_moves {W : Part → Prop} {s t : State} (h0 : W .msix) (h1 : W (.fld F.LRX_INT_CAUSE_LOS_CHG)) (h2 : W (.fld F.LRX_INT_CAUSE_TRACK)) (h3 : W (.fld F.LRX_INT_CAUSE_TRACK_LOST)) (h4 : W (.fld F.LRX_SC_STAT_LOCK)) (h5 : W (.fld F.LRX_STAT_LOS)) (h6 : W (.fld F.LRX_STAT_STATE)) (h7 : W (.fld H.FRM_LIVE_F)) (h8 : W (.fld H.FRM_LIVE_SC)) (h9 : W (.fld H.FRM_SEC_CLI)) (h10 : W (.fld H.FRM_SEC_SC)) (h11 : W (.fld H.FRM_SEEN_CLI)) (h12 : W (.fld H.FRM_SEEN_FLOW)) (h13 : W (.fld H.FRM_SEEN_LANE)) (h14 : W (.fld H.FRM_SEEN_LINE)) (h15 : W (.fld H.FRM_SEEN_SC)) (h16 : W (.fld H.LRX_LLR_HOLD)) (h17 : W (.fld H.LRX_QUAD)) (h18 : W (.fld H.LRX_TAPS)) (h19 : W (.fld H.LRX_WIN_LOCK)) (a0 : Nat) (h : execLosSet a0 s = .next t) :
    Moves W s t := by
  unfold execLosSet at h
  refine done_moves (by assumption) ?_ h
  repeat' (first
    | with_reducible assumption
    | with_reducible exact .refl
    | with_reducible apply Tick_noted_moves
    | with_reducible apply Lrx_losSet_moves
    | intro _)

theorem execLosClear_moves {W : Part → Prop} {s t : State} (h0 : W .msix) (h1 : W (.fld F.LRX_INT_CAUSE_LOS_CHG)) (h2 : W (.fld F.LRX_STAT_CD_ARMED)) (h3 : W (.fld F.LRX_STAT_CD_FADING)) (h4 : W (.fld F.LRX_STAT_LOS)) (h5 : W (.fld H.FRM_LIVE_F)) (h6 : W (.fld H.FRM_LIVE_SC)) (h7 : W (.fld H.FRM_SEC_CLI)) (h8 : W (.fld H.FRM_SEC_SC)) (h9 : W (.fld H.FRM_SEEN_CLI)) (h10 : W (.fld H.FRM_SEEN_FLOW)) (h11 : W (.fld H.FRM_SEEN_LANE)) (h12 : W (.fld H.FRM_SEEN_LINE)) (h13 : W (.fld H.FRM_SEEN_SC)) (h14 : W (.fld H.LRX_D_FADE)) (h15 : W (.fld H.LRX_FADE_LEN)) (h16 : W (.fld H.LRX_LLR_HOLD)) (a0 : Nat) (h : execLosClear a0 s = .next t) :
    Moves W s t := by
  unfold execLosClear at h
  refine done_moves (by assumption) ?_ h
  repeat' (first
    | with_reducible assumption
    | with_reducible exact .refl
    | with_reducible apply Tick_noted_moves
    | with_reducible apply Lrx_losClear_moves
    | intro _)

theorem execLosHoldExpiry_moves {W : Part → Prop} {s t : State} (h0 : W .msix) (h1 : W (.fld F.LRX_INT_CAUSE_TRACK)) (h2 : W (.fld F.LRX_INT_CAUSE_TRACK_LOST)) (h3 : W (.fld F.LRX_SC_STAT_LOCK)) (h4 : W (.fld F.LRX_STAT_STATE)) (h5 : W (.fld H.FRM_LIVE_F)) (h6 : W (.fld H.FRM_LIVE_SC)) (h7 : W (.fld H.FRM_SEC_CLI)) (h8 : W (.fld H.FRM_SEC_SC)) (h9 : W (.fld H.FRM_SEEN_CLI)) (h10 : W (.fld H.FRM_SEEN_FLOW)) (h11 : W (.fld H.FRM_SEEN_LANE)) (h12 : W (.fld H.FRM_SEEN_LINE)) (h13 : W (.fld H.FRM_SEEN_SC)) (h14 : W (.fld H.LRX_LLR_HOLD)) (h15 : W (.fld H.LRX_QUAD)) (h16 : W (.fld H.LRX_TAPS)) (h17 : W (.fld H.LRX_WIN_LOCK)) (h : execLosHoldExpiry s = .next t) :
    Moves W s t := by
  unfold execLosHoldExpiry at h
  refine done_moves (by assumption) ?_ h
  repeat' (first
    | with_reducible assumption
    | with_reducible exact .refl
    | with_reducible apply Tick_noted_moves
    | with_reducible apply Lrx_losExpired_moves
    | intro _)

theorem execCdGo_moves {W : Part → Prop} {s t : State} (h0 : W .held) (h1 : W .msix) (h2 : W .qdr) (h3 : W (.fld F.CAL_INT_CAUSE_ABORTED)) (h4 : W (.fld F.CAL_STAT_STATE)) (h5 : W (.fld F.HKA_STAT_CAL_HOLD)) (h6 : W (.fld F.HKA_STAT_INJ_PEND)) (h7 : W (.fld F.HKA_STAT_STATE)) (h8 : W (.fld F.LRX_INT_CAUSE_CD_RANGE)) (h9 : W (.fld F.LRX_STAT_CD_ARMED)) (h10 : W (.fld F.LRX_STAT_CD_FADING)) (h11 : W (.fld F.LRX_STAT_CD_HELD)) (h12 : W (.fld F.PEER_INT_CAUSE_MIRRORED)) (h13 : W (.fld F.PMC_INT_CAUSE_OVF)) (h14 : W (.fld F.PMC_INT_CAUSE_SMP_AVAIL)) (h15 : W (.fld F.PMC_INT_CAUSE_SMP_DROP)) (h16 : W (.fld F.PMC_OVF_STAT_OVF)) (h17 : W (.fld F.PMC_SMP_DROP_RING)) (h18 : W (.fld F.PMC_SMP_STAT_COUNT)) (h19 : W (.fld H.BST_WAITING)) (h20 : W (.fld H.CAL_RETRY)) (h21 : W (.fld H.HKA_CAL_WAIT)) (h22 : W (.fld H.HKA_CUR)) (h23 : W (.fld H.HKA_RUN)) (h24 : W (.fld H.HKA_SEQ_STATE)) (h25 : W (.fld H.HKA_TICKS)) (h26 : W (.fld H.LRX_D_FADE)) (h27 : W (.fld H.LRX_D_HELD)) (h28 : W (.fld H.LRX_FADE_LEN)) (h29 : W (.fld H.PMC_CNT)) (h30 : W (.fld H.PMC_OVF_DUE)) (h31 : W (.fld H.PMC_OVF_T)) (h32 : W (.fld H.PMC_RING)) (h33 : W (.fld H.PMC_TRACE_POS)) (h : execCdGo s = .next t) :
    Moves W s t := by
  unfold execCdGo at h
  refine done_moves (by assumption) ?_ h
  repeat' (first
    | with_reducible assumption
    | with_reducible exact .refl
    | (with_reducible refine Bus_row_line (by assumption) (by assumption) (by assumption) (by assumption) (by assumption) (by assumption) (by assumption) (by assumption) (by assumption) (by assumption) (by assumption) (by assumption) (by assumption) (by assumption) (by assumption) (by assumption) (by assumption) (by assumption) (by assumption) (by assumption) (by assumption) (by assumption) (by assumption) (by assumption) (by assumption) (by assumption) _ _ _ _ _ (by decide) ?_ ?_)
    | with_reducible apply Lrx_cdGo_moves
    | intro _)

theorem execCdArm_moves {W : Part → Prop} {s t : State} (h0 : W .held) (h1 : W .msix) (h2 : W .qdr) (h3 : W (.fld F.CAL_INT_CAUSE_ABORTED)) (h4 : W (.fld F.CAL_STAT_STATE)) (h5 : W (.fld F.HKA_STAT_CAL_HOLD)) (h6 : W (.fld F.HKA_STAT_INJ_PEND)) (h7 : W (.fld F.HKA_STAT_STATE)) (h8 : W (.fld F.LRX_INT_CAUSE_CD_RANGE)) (h9 : W (.fld F.LRX_INT_CAUSE_CFG_ERR)) (h10 : W (.fld F.LRX_STAT_CD_ARMED)) (h11 : W (.fld F.PEER_INT_CAUSE_MIRRORED)) (h12 : W (.fld F.PMC_INT_CAUSE_OVF)) (h13 : W (.fld F.PMC_INT_CAUSE_SMP_AVAIL)) (h14 : W (.fld F.PMC_INT_CAUSE_SMP_DROP)) (h15 : W (.fld F.PMC_OVF_STAT_OVF)) (h16 : W (.fld F.PMC_SMP_DROP_RING)) (h17 : W (.fld F.PMC_SMP_STAT_COUNT)) (h18 : W (.fld H.BST_WAITING)) (h19 : W (.fld H.CAL_RETRY)) (h20 : W (.fld H.HKA_CAL_WAIT)) (h21 : W (.fld H.HKA_CUR)) (h22 : W (.fld H.HKA_RUN)) (h23 : W (.fld H.HKA_SEQ_STATE)) (h24 : W (.fld H.HKA_TICKS)) (h25 : W (.fld H.LRX_D_ARMED)) (h26 : W (.fld H.PMC_CNT)) (h27 : W (.fld H.PMC_OVF_DUE)) (h28 : W (.fld H.PMC_OVF_T)) (h29 : W (.fld H.PMC_RING)) (h30 : W (.fld H.PMC_TRACE_POS)) (h : execCdArm s = .next t) :
    Moves W s t := by
  unfold execCdArm at h
  refine done_moves (by assumption) ?_ h
  repeat' (first
    | with_reducible assumption
    | with_reducible exact .refl
    | (with_reducible refine Bus_row_line (by assumption) (by assumption) (by assumption) (by assumption) (by assumption) (by assumption) (by assumption) (by assumption) (by assumption) (by assumption) (by assumption) (by assumption) (by assumption) (by assumption) (by assumption) (by assumption) (by assumption) (by assumption) (by assumption) (by assumption) (by assumption) (by assumption) (by assumption) (by assumption) (by assumption) (by assumption) _ _ _ _ _ (by decide) ?_ ?_)
    | with_reducible apply Lrx_cdArm_moves
    | intro _)

theorem execCdDisarm_moves {W : Part → Prop} {s t : State} (h0 : W .held) (h1 : W .msix) (h2 : W .qdr) (h3 : W (.fld F.CAL_INT_CAUSE_ABORTED)) (h4 : W (.fld F.CAL_STAT_STATE)) (h5 : W (.fld F.HKA_STAT_CAL_HOLD)) (h6 : W (.fld F.HKA_STAT_INJ_PEND)) (h7 : W (.fld F.HKA_STAT_STATE)) (h8 : W (.fld F.LRX_STAT_CD_ARMED)) (h9 : W (.fld F.PEER_INT_CAUSE_MIRRORED)) (h10 : W (.fld F.PMC_INT_CAUSE_OVF)) (h11 : W (.fld F.PMC_INT_CAUSE_SMP_AVAIL)) (h12 : W (.fld F.PMC_INT_CAUSE_SMP_DROP)) (h13 : W (.fld F.PMC_OVF_STAT_OVF)) (h14 : W (.fld F.PMC_SMP_DROP_RING)) (h15 : W (.fld F.PMC_SMP_STAT_COUNT)) (h16 : W (.fld H.BST_WAITING)) (h17 : W (.fld H.CAL_RETRY)) (h18 : W (.fld H.HKA_CAL_WAIT)) (h19 : W (.fld H.HKA_CUR)) (h20 : W (.fld H.HKA_RUN)) (h21 : W (.fld H.HKA_SEQ_STATE)) (h22 : W (.fld H.HKA_TICKS)) (h23 : W (.fld H.PMC_CNT)) (h24 : W (.fld H.PMC_OVF_DUE)) (h25 : W (.fld H.PMC_OVF_T)) (h26 : W (.fld H.PMC_RING)) (h27 : W (.fld H.PMC_TRACE_POS)) (h : execCdDisarm s = .next t) :
    Moves W s t := by
  unfold execCdDisarm at h
  refine done_moves (by assumption) ?_ h
  repeat' (first
    | with_reducible assumption
    | with_reducible exact .refl
    | (with_reducible refine Bus_row_line (by assumption) (by assumption) (by assumption) (by assumption) (by assumption) (by assumption) (by assumption) (by assumption) (by assumption) (by assumption) (by assumption) (by assumption) (by assumption) (by assumption) (by assumption) (by assumption) (by assumption) (by assumption) (by assumption) (by assumption) (by assumption) (by assumption) (by assumption) (by assumption) (by assumption) (by assumption) _ _ _ _ _ (by decide) ?_ ?_)
    | with_reducible apply Lrx_cdDisarm_moves
    | intro _)

theorem execCdFadeDone_moves {W : Part → Prop} {s t : State} (h0 : W .msix) (h1 : W (.fld F.LRX_INT_CAUSE_CD_DONE)) (h2 : W (.fld F.LRX_STAT_CD_FADING)) (h3 : W (.fld F.LRX_STAT_CD_HELD)) (h4 : W (.fld H.LRX_D_FADE)) (h5 : W (.fld H.LRX_D_NOW)) (h6 : W (.fld H.LRX_FADE_LEN)) (a0 : Nat) (h : execCdFadeDone s a0 = .next t) :
    Moves W s t := by
  unfold execCdFadeDone at h
  refine done_moves (by assumption) ?_ h
  repeat' (first
    | with_reducible assumption
    | with_reducible exact .refl
    | with_reducible apply Lrx_cdFadeDone_moves
    | intro _)

theorem execCdEstimateDone_moves {W : Part → Prop} {s t : State} (h0 : W .msix) (h1 : W (.fld F.LRX_CD_D)) (h2 : W (.fld F.LRX_CD_EST_EST)) (h3 : W (.fld F.LRX_CD_EST_VALID)) (h4 : W (.fld F.LRX_INT_CAUSE_TRACK)) (h5 : W (.fld F.LRX_INT_CAUSE_TRACK_LOST)) (h6 : W (.fld F.LRX_STAT_STATE)) (h7 : W (.fld H.LRX_D_NOW)) (a0 : Int) (h : execCdEstimateDone a0 s = .next t) :
    Moves W s t := by
  unfold execCdEstimateDone at h
  refine done_moves (by assumption) ?_ h
  repeat' (first
    | with_reducible assumption
    | with_reducible exact .refl
    | with_reducible apply Lrx_cdEstimate_moves
    | intro _)

theorem execCoarseLock_moves {W : Part → Prop} {s t : State} (h0 : W .msix) (h1 : W (.fld F.LRX_INT_CAUSE_TRACK)) (h2 : W (.fld F.LRX_INT_CAUSE_TRACK_LOST)) (h3 : W (.fld F.LRX_SC_STAT_LOCK)) (h4 : W (.fld F.LRX_STAT_STATE)) (h5 : W (.fld H.LRX_ROT)) (h6 : W (.fld H.LRX_WIN_LOCK)) (a0 : Int) (a1 : Nat) (h : execCoarseLock a0 s a1 = .next t) :
    Moves W s t := by
  unfold execCoarseLock at h
  refine done_moves (by assumption) ?_ h
  repeat' (first
    | with_reducible assumption
    | with_reducible exact .refl
    | with_reducible apply Lrx_coarseLock_moves
    | intro _)

theorem execAcqTmo_moves {W : Part → Prop} {s t : State} (h0 : W .msix) (h1 : W (.fld F.LRX_INT_CAUSE_ACQ_TMO)) (h2 : W (.fld F.LRX_INT_CAUSE_TRACK)) (h3 : W (.fld F.LRX_INT_CAUSE_TRACK_LOST)) (h4 : W (.fld F.LRX_SC_STAT_LOCK)) (h5 : W (.fld F.LRX_STAT_ACQ_RETRY)) (h6 : W (.fld F.LRX_STAT_STATE)) (h7 : W (.fld H.LRX_LLR_HOLD)) (h8 : W (.fld H.LRX_QUAD)) (h9 : W (.fld H.LRX_TAPS)) (h10 : W (.fld H.LRX_WIN_LOCK)) (h : execAcqTmo s = .next t) :
    Moves W s t := by
  unfold execAcqTmo at h
  refine done_moves (by assumption) ?_ h
  repeat' (first
    | with_reducible assumption
    | with_reducible exact .refl
    | with_reducible apply Lrx_acqTimeout_moves
    | intro _)

theorem execScLock_moves {W : Part → Prop} {s t : State} (h0 : W .msix) (h1 : W (.fld F.LRX_INT_CAUSE_TRACK)) (h2 : W (.fld F.LRX_INT_CAUSE_TRACK_LOST)) (h3 : W (.fld F.LRX_SC_STAT_LOCK)) (h4 : W (.fld F.LRX_STAT_STATE)) (h5 : W (.fld H.FEC_PART)) (h6 : W (.fld H.LRX_TAPS)) (a0 : Nat) (a1 : Nat) (h : execScLock a0 a1 s = .next t) :
    Moves W s t := by
  unfold execScLock at h
  refine done_moves (by assumption) ?_ h
  repeat' (first
    | with_reducible assumption
    | with_reducible exact .refl
    | with_reducible apply Lrx_scLock_moves
    | intro _)

theorem execScUnlock_moves {W : Part → Prop} {s t : State} (h0 : W .msix) (h1 : W (.fld F.LRX_SC_STAT_LOCK)) (h2 : W (.fld H.LRX_WIN_LOCK)) (a0 : Nat) (a1 : Nat) (h : execScUnlock a0 a1 s = .next t) :
    Moves W s t := by
  unfold execScUnlock at h
  refine done_moves (by assumption) ?_ h
  repeat' (first
    | with_reducible assumption
    | with_reducible exact .refl
    | with_reducible apply Lrx_scUnlock_moves
    | intro _)

theorem execTrackLost_moves {W : Part → Prop} {s t : State} (h0 : W .msix) (h1 : W (.fld F.LRX_INT_CAUSE_TRACK)) (h2 : W (.fld F.LRX_INT_CAUSE_TRACK_LOST)) (h3 : W (.fld F.LRX_SC_STAT_LOCK)) (h4 : W (.fld F.LRX_STAT_STATE)) (h5 : W (.fld H.LRX_WIN_LOCK)) (h : execTrackLost s = .next t) :
    Moves W s t := by
  unfold execTrackLost at h
  refine done_moves (by assumption) ?_ h
  repeat' (first
    | with_reducible assumption
    | with_reducible exact .refl
    | with_reducible apply Lrx_trackLost_moves
    | intro _)

theorem execSingular_moves {W : Part → Prop} {s t : State} (h0 : W .msix) (h1 : W (.fld F.LRX_INT_CAUSE_SINGULAR)) (h2 : W (.fld F.LRX_SC_STAT_LOCK)) (h3 : W (.fld F.LRX_SING_CNT_COUNT)) (h4 : W (.fld H.LRX_TAPS)) (h5 : W (.fld H.LRX_WIN_LOCK)) (a0 : Nat) (a1 : Nat) (a2 : Nat) (h : execSingular a0 s a1 a2 = .next t) :
    Moves W s t := by
  unfold execSingular at h
  refine done_moves (by assumption) ?_ h
  repeat' (first
    | with_reducible assumption
    | with_reducible exact .refl
    | with_reducible apply Lrx_singular_moves
    | intro _)

theorem execCycleSlip_moves {W : Part → Prop} {s t : State} (h0 : W .msix) (h1 : W (.fld F.LRX_CSLIP_CNT_COUNT)) (h2 : W (.fld F.LRX_INT_CAUSE_CYCLE_SLIP)) (h3 : W (.fld F.LRX_SC_STAT_CSLIP)) (h4 : W (.fld H.LRX_QUAD)) (a0 : Nat) (a1 : Nat) (h : execCycleSlip a0 s a1 = .next t) :
    Moves W s t := by
  unfold execCycleSlip at h
  refine done_moves (by assumption) ?_ h
  repeat' (first
    | with_reducible assumption
    | with_reducible exact .refl
    | with_reducible apply Lrx_cycleSlip_moves
    | intro _)

theorem execLofbUpdate_moves {W : Part → Prop} {s t : State} (h0 : W .msix) (h1 : W (.fld F.LRX_CFO_TOTAL)) (h2 : W (.fld F.LRX_INT_CAUSE_LOFB_LIMIT)) (h3 : W (.fld F.LRX_LOFB_STAT_FINE)) (h4 : W (.fld F.LRX_STAT_LOFB_LIMIT)) (h5 : W (.fld F.LRX_STAT_LOFB_PENDING)) (h6 : W (.fld F.LSR_FT_OUT_LIMIT)) (h7 : W (.fld F.LSR_FT_OUT_MHZ)) (h8 : W (.fld F.LSR_STAT_SER_BUSY)) (h9 : W (.fld H.LRX_FINE)) (h10 : W (.fld H.LRX_LOFB_OFFLOAD)) (h11 : W (.fld H.LRX_ROT)) (h12 : W (.fld H.LSR_CODE)) (h13 : W (.fld H.LSR_HOST_PEND)) (h14 : W (.fld H.LSR_HOST_RUN)) (h15 : W (.fld H.LSR_OWN_CMD)) (h16 : W (.fld H.LSR_OWN_DONE)) (h17 : W (.fld H.LSR_OWN_PEND)) (h18 : W (.fld H.LSR_OWN_RUN)) (h19 : W (.fld H.LSR_TUNE_PEND)) (a0 : Int) (h : execLofbUpdate a0 s = .next t) :
    Moves W s t := by
  unfold execLofbUpdate at h
  refine done_moves (by assumption) ?_ h
  repeat' (first
    | with_reducible assumption
    | with_reducible exact .refl
    | with_reducible apply Lrx_lofbUpdate_moves
    | intro _)

theorem execLofbOffloadDone_moves {W : Part → Prop} {s t : State} (h0 : W .msix) (h1 : W (.fld F.LRX_INT_CAUSE_LOFB_LIMIT)) (h2 : W (.fld F.LRX_LOFB_STAT_FINE)) (h3 : W (.fld F.LRX_LOFB_STAT_SER)) (h4 : W (.fld F.LRX_STAT_LOFB_LIMIT)) (h5 : W (.fld F.LRX_STAT_LOFB_PENDING)) (h6 : W (.fld F.LSR_FT_OUT_LIMIT)) (h7 : W (.fld F.LSR_FT_OUT_MHZ)) (h8 : W (.fld H.LRX_FINE)) (h9 : W (.fld H.LSR_CODE)) (h10 : W (.fld H.LSR_OWN_DONE)) (h : execLofbOffloadDone s = .next t) :
    Moves W s t := by
  unfold execLofbOffloadDone at h
  refine done_moves (by assumption) ?_ h
  repeat' (first
    | with_reducible assumption
    | with_reducible exact .refl
    | with_reducible apply Lrx_offloadDone_moves
    | intro _)

theorem execLofbErr_moves {W : Part → Prop} {s t : State} (h0 : W .msix) (h1 : W (.fld F.LRX_INT_CAUSE_LOFB_ERR)) (h2 : W (.fld H.LRX_LOFB_STOPPED)) (h : execLofbErr s = .next t) :
    Moves W s t := by
  unfold execLofbErr at h
  refine done_moves (by assumption) ?_ h
  repeat' (first
    | with_reducible assumption
    | with_reducible exact .refl
    | with_reducible apply Lrx_offloadError_moves
    | intro _)

theorem execRestart_moves {W : Part → Prop} {s t : State} (h0 : W .held) (h1 : W .msix) (h2 : W .qdr) (h3 : W (.fld F.CAL_INT_CAUSE_ABORTED)) (h4 : W (.fld F.CAL_STAT_STATE)) (h5 : W (.fld F.HKA_STAT_CAL_HOLD)) (h6 : W (.fld F.HKA_STAT_INJ_PEND)) (h7 : W (.fld F.HKA_STAT_STATE)) (h8 : W (.fld F.LRX_INT_CAUSE_TRACK)) (h9 : W (.fld F.LRX_INT_CAUSE_TRACK_LOST)) (h10 : W (.fld F.LRX_SC_STAT_LOCK)) (h11 : W (.fld F.LRX_STAT_STATE)) (h12 : W (.fld F.PEER_INT_CAUSE_MIRRORED)) (h13 : W (.fld F.PMC_INT_CAUSE_OVF)) (h14 : W (.fld F.PMC_INT_CAUSE_SMP_AVAIL)) (h15 : W (.fld F.PMC_INT_CAUSE_SMP_DROP)) (h16 : W (.fld F.PMC_OVF_STAT_OVF)) (h17 : W (.fld F.PMC_SMP_DROP_RING)) (h18 : W (.fld F.PMC_SMP_STAT_COUNT)) (h19 : W (.fld H.BST_WAITING)) (h20 : W (.fld H.CAL_RETRY)) (h21 : W (.fld H.HKA_CAL_WAIT)) (h22 : W (.fld H.HKA_CUR)) (h23 : W (.fld H.HKA_RUN)) (h24 : W (.fld H.HKA_SEQ_STATE)) (h25 : W (.fld H.HKA_TICKS)) (h26 : W (.fld H.LRX_LLR_HOLD)) (h27 : W (.fld H.LRX_QUAD)) (h28 : W (.fld H.LRX_TAPS)) (h29 : W (.fld H.LRX_WIN_LOCK)) (h30 : W (.fld H.PMC_CNT)) (h31 : W (.fld H.PMC_OVF_DUE)) (h32 : W (.fld H.PMC_OVF_T)) (h33 : W (.fld H.PMC_RING)) (h34 : W (.fld H.PMC_TRACE_POS)) (h : execRestart s = .next t) :
    Moves W s t := by
  unfold execRestart at h
  refine done_moves (by assumption) ?_ h
  repeat' (first
    | with_reducible assumption
    | with_reducible exact .refl
    | (with_reducible refine Bus_row_line (by assumption) (by assumption) (by assumption) (by assumption) (by assumption) (by assumption) (by assumption) (by assumption) (by assumption) (by assumption) (by assumption) (by assumption) (by assumption) (by assumption) (by assumption) (by assumption) (by assumption) (by assumption) (by assumption) (by assumption) (by assumption) (by assumption) (by assumption) (by assumption) (by assumption) (by assumption) _ _ _ _ _ (by decide) ?_ ?_)
    | with_reducible apply Lrx_restart_moves
    | intro _)

theorem execSnrLatch_moves {W : Part → Prop} {s t : State} (h0 : W .msix) (h1 : W .vlk) (h2 : W (.fld F.LRX_CD_RESID_RESID)) (h3 : W (.fld F.LRX_CFO_TOTAL)) (h4 : W (.fld F.LRX_IMP_DGD)) (h5 : W (.fld F.LRX_IMP_PDL)) (h6 : W (.fld F.LRX_INT_CAUSE_SHADOW_LOCKED)) (h7 : W (.fld F.LRX_INT_CAUSE_SNR_LATCH)) (h8 : W (.fld F.LRX_INT_CAUSE_TABLE_ERR)) (h9 : W (.fld F.LRX_SNR_LEAF_SNR)) (h10 : W (.fld F.LRX_SNR_LEAF_SNR_X)) (h11 : W (.fld F.LRX_SNR_LEAF_SNR_Y)) (h12 : W (.fld F.LRX_SNR_LEAF_VALID)) (h13 : W (.fld F.LRX_SNR_SNR)) (h14 : W (.fld F.LRX_SNR_SNR_X)) (h15 : W (.fld F.LRX_SNR_SNR_Y)) (h16 : W (.fld F.LRX_SNR_VALID)) (h17 : W (.fld F.LRX_STAT_ERR_SC)) (h18 : W (.fld F.LRX_STAT_SHADOW_READY)) (h19 : W (.fld F.LTX_INT_CAUSE_SHADOW_LOCKED)) (h20 : W (.fld F.LTX_INT_CAUSE_TABLE_ERR)) (h21 : W (.fld F.LTX_STAT_ERR_SC)) (h22 : W (.fld F.LTX_STAT_SHADOW_READY)) (h23 : W (.fld F.SCM_CHG_STAT_DS_STATE)) (h24 : W (.fld F.SCM_CHG_STAT_US_STATE)) (h25 : W (.fld F.SCM_DS_NEXT_ENTRY)) (h26 : W (.fld F.SCM_INT_CAUSE_BUSY)) (h27 : W (.fld F.SCM_INT_CAUSE_CHG_FAIL)) (h28 : W (.fld F.SCM_INT_CAUSE_SHORT)) (h29 : W (.fld F.SCM_NAK_MAP_LEAF)) (h30 : W (.fld F.SCM_SC_FLAG_OVER)) (h31 : W (.fld F.SCM_SC_FLAG_SHORT)) (h32 : W (.fld F.SCM_SC_FLAG_STALE)) (h33 : W (.fld F.SCM_SC_FLAG_US_OVER)) (h34 : W (.fld F.SCM_SC_FLAG_US_SHORT)) (h35 : W (.fld F.SCM_SC_FLAG_US_STALE)) (h36 : W (.fld F.SCM_US_NEXT_ENTRY)) (h37 : W (.fld F.SYS_INT_CAUSE_ROLE_LIMIT)) (h38 : W (.fld F.VLK_INT_CAUSE_GROUP_ERR)) (h39 : W (.fld H.LRX_SHADOW)) (h40 : W (.fld H.LRX_SHADOW_VER)) (h41 : W (.fld H.LRX_TAPS)) (h42 : W (.fld H.LRX_WIN_LOCK)) (h43 : W (.fld H.LTX_SHADOW)) (h44 : W (.fld H.LTX_SHADOW_VER)) (h45 : W (.fld H.SCM_ACKED)) (h46 : W (.fld H.SCM_ADDRESSED)) (h47 : W (.fld H.SCM_LAST_VER)) (h48 : W (.fld H.SCM_LEAF_MF)) (h49 : W (.fld H.SCM_SNR_MF)) (h50 : W (.fld H.SCM_START_MF)) (h51 : W (.fld H.VLK_SEQ)) (a0 : List (List Nat)) (a1 : List (List Nat)) (a2 : List Int) (h : execSnrLatch a0 a1 a2 s = .next t) :
    Moves W s t := by
  unfold execSnrLatch at h
  refine doneMirrored_moves (by assumption) ?_ h
  repeat' (first
    | with_reducible assumption
    | with_reducible exact .refl
    | with_reducible apply Tick_snrLatch_moves
    | intro _)

theorem execDmErr_moves {W : Part → Prop} {s t : State} (h0 : W .msix) (h1 : W (.fld F.LRX_DM_ERR_CNT_COUNT)) (h2 : W (.fld F.LRX_INT_CAUSE_DM_ERR)) (h3 : W (.fld H.FEC_MARK)) (a0 : Nat) (a1 : List Nat) (h : execDmErr s a0 a1 = .next t) :
    Moves W s t := by
  unfold execDmErr at h
  refine done_moves (by assumption) ?_ h
  repeat' (first
    | with_reducible assumption
    | with_reducible exact .refl
    | with_reducible apply Tick_dmError_moves
    | intro _)

theorem execTapSetSwitch_moves {W : Part → Prop} {s t : State} (h0 : W .msix) (h1 : W (.fld F.LRX_SC_STAT_LOCK)) (h2 : W (.fld H.LRX_SET_LOCK)) (h3 : W (.fld H.LRX_SET_OWNER)) (h4 : W (.fld H.LRX_SLOT_LEAF)) (h5 : W (.fld H.LRX_TAPS)) (h6 : W (.fld H.LRX_TAP_SET)) (a0 : Nat) (a1 : Nat) (a2 : Bool) (h : execTapSetSwitch a0 a1 a2 s = .next t) :
    Moves W s t := by
  unfold execTapSetSwitch at h
  refine done_moves (by assumption) ?_ h
  repeat' (first
    | with_reducible assumption
    | with_reducible exact .refl
    | with_reducible apply Lrx_tapSwitch_moves
    | intro _)

theorem execPhaseReacquired_moves {W : Part → Prop} {s t : State} (h0 : W .msix) (h1 : W (.fld H.FEC_PART)) (h2 : W (.fld H.LRX_LLR_HOLD)) (h : execPhaseReacquired s = .next t) :
    Moves W s t := by
  unfold execPhaseReacquired at h
  refine done_moves (by assumption) ?_ h
  repeat' (first
    | with_reducible assumption
    | with_reducible exact .refl
    | with_reducible apply Lrx_phaseReacquired_moves
    | intro _)

end Sys2Proof.Laws
end

