-- ==== Sys2Proof/Laws/MovesExecLtx.lean ====
section
/-! SUPPORT. Sys2Proof/Laws/MovesExecLtx.lean: what each command of Machine/ExecLtx.lean may write (Laws/Moves.lean). -/
namespace Sys2Proof.Laws
open Sys2Proof Sys2Proof.Machine

theorem execLtxEnable_moves {W : Part → Prop} {s t : State} (h0 : W .held) (h1 : W .msix) (h2 : W .qdr) (h3 : W (.fld F.CAL_INT_CAUSE_ABORTED)) (h4 : W (.fld F.CAL_STAT_STATE)) (h5 : W (.fld F.CVT_DAC_STAT_MAP_ERR)) (h6 : W (.fld F.HKA_STAT_CAL_HOLD)) (h7 : W (.fld F.HKA_STAT_INJ_PEND)) (h8 : W (.fld F.HKA_STAT_STATE)) (h9 : W (.fld F.LTX_CTRL_EN)) (h10 : W (.fld F.LTX_INT_CAUSE_CFG_ERR)) (h11 : W (.fld F.LTX_STAT_CFG_STEP)) (h12 : W (.fld F.PEER_INT_CAUSE_MIRRORED)) (h13 : W (.fld F.PMC_INT_CAUSE_OVF)) (h14 : W (.fld F.PMC_INT_CAUSE_SMP_AVAIL)) (h15 : W (.fld F.PMC_INT_CAUSE_SMP_DROP)) (h16 : W (.fld F.PMC_OVF_STAT_OVF)) (h17 : W (.fld F.PMC_SMP_DROP_RING)) (h18 : W (.fld F.PMC_SMP_STAT_COUNT)) (h19 : W (.fld F.PWR_AVS_READ_BUSY)) (h20 : W (.fld F.PWR_VMIN_VMIN_MV)) (h21 : W (.fld F.PWR_VMIN_VREQ_MV)) (h22 : W (.fld H.BST_WAITING)) (h23 : W (.fld H.CAL_RETRY)) (h24 : W (.fld H.FEC_TX_POS)) (h25 : W (.fld H.FRM_CF_DUE)) (h26 : W (.fld H.HKA_CAL_WAIT)) (h27 : W (.fld H.HKA_CUR)) (h28 : W (.fld H.HKA_RUN)) (h29 : W (.fld H.HKA_SEQ_STATE)) (h30 : W (.fld H.HKA_TICKS)) (h31 : W (.fld H.LTX_OFS_NOW)) (h32 : W (.fld H.PMC_CNT)) (h33 : W (.fld H.PMC_OVF_DUE)) (h34 : W (.fld H.PMC_OVF_T)) (h35 : W (.fld H.PMC_RING)) (h36 : W (.fld H.PMC_TRACE_POS)) (h37 : W (.fld H.PWR_HOLD_TX)) (h38 : W (.fld H.PWR_TARGET)) (h39 : W (.fld H.PWR_VMIN_ASKED)) (h40 : W (.fld H.PWR_VMIN_FAILED)) (h41 : W (.fld H.PWR_VMIN_WAITS)) (h : execLtxEnable s = .next t) :
    Moves W s t := by
  unfold execLtxEnable at h
  refine doneMirrored_moves (by assumption) ?_ h
  repeat' (first
    | with_reducible assumption
    | with_reducible exact .refl
    | (with_reducible refine Bus_row_line (by assumption) (by assumption) (by assumption) (by assumption) (by assumption) (by assumption) (by assumption) (by assumption) (by assumption) (by assumption) (by assumption) (by assumption) (by assumption) (by assumption) (by assumption) (by assumption) (by assumption) (by assumption) (by assumption) (by assumption) (by assumption) (by assumption) (by assumption) (by assumption) (by assumption) (by assumption) _ _ _ _ _ (by decide) ?_ ?_)
    | with_reducible apply Ltx_enable_moves
    | intro _)

theorem execLtxStart_moves {W : Part → Prop} {s t : State} (h0 : W .msix) (h1 : W (.fld F.LTX_STAT_ACTIVE)) (h2 : W (.fld F.LTX_STAT_MUTE_SRC)) (h3 : W (.fld H.LTX_OUTPUT)) (h : execLtxStart s = .next t) :
    Moves W s t := by
  unfold execLtxStart at h
  refine done_moves (by assumption) ?_ h
  repeat' (first
    | with_reducible assumption
    | with_reducible exact .refl
    | with_reducible apply Ltx_start_moves
    | intro _)

theorem execLtxDisable_moves {W : Part → Prop} {s t : State} (h0 : W .held) (h1 : W .msix) (h2 : W .qdr) (h3 : W (.fld F.CAL_INT_CAUSE_ABORTED)) (h4 : W (.fld F.CAL_STAT_STATE)) (h5 : W (.fld F.HKA_STAT_CAL_HOLD)) (h6 : W (.fld F.HKA_STAT_INJ_PEND)) (h7 : W (.fld F.HKA_STAT_STATE)) (h8 : W (.fld F.LTX_CTRL_EN)) (h9 : W (.fld F.LTX_INT_CAUSE_LOAD_CANCELLED)) (h10 : W (.fld F.LTX_STAT_ACTIVE)) (h11 : W (.fld F.LTX_STAT_ANNOUNCED)) (h12 : W (.fld F.LTX_STAT_MUTE_SRC)) (h13 : W (.fld F.LTX_STAT_SHADOW_READY)) (h14 : W (.fld F.PEER_INT_CAUSE_MIRRORED)) (h15 : W (.fld F.PMC_INT_CAUSE_OVF)) (h16 : W (.fld F.PMC_INT_CAUSE_SMP_AVAIL)) (h17 : W (.fld F.PMC_INT_CAUSE_SMP_DROP)) (h18 : W (.fld F.PMC_OVF_STAT_OVF)) (h19 : W (.fld F.PMC_SMP_DROP_RING)) (h20 : W (.fld F.PMC_SMP_STAT_COUNT)) (h21 : W (.fld F.PWR_AVS_READ_BUSY)) (h22 : W (.fld F.PWR_VMIN_VMIN_MV)) (h23 : W (.fld F.PWR_VMIN_VREQ_MV)) (h24 : W (.fld F.SCM_CHG_STAT_DS_STATE)) (h25 : W (.fld H.BST_WAITING)) (h26 : W (.fld H.CAL_RETRY)) (h27 : W (.fld H.HKA_CAL_WAIT)) (h28 : W (.fld H.HKA_CUR)) (h29 : W (.fld H.HKA_RUN)) (h30 : W (.fld H.HKA_SEQ_STATE)) (h31 : W (.fld H.HKA_TICKS)) (h32 : W (.fld H.LTX_OUTPUT)) (h33 : W (.fld H.LTX_SWAP_DUE)) (h34 : W (.fld H.PMC_CNT)) (h35 : W (.fld H.PMC_OVF_DUE)) (h36 : W (.fld H.PMC_OVF_T)) (h37 : W (.fld H.PMC_RING)) (h38 : W (.fld H.PMC_TRACE_POS)) (h39 : W (.fld H.PWR_HOLD_TX)) (h40 : W (.fld H.PWR_TARGET)) (h41 : W (.fld H.PWR_VMIN_ASKED)) (h42 : W (.fld H.PWR_VMIN_FAILED)) (h43 : W (.fld H.PWR_VMIN_WAITS)) (h : execLtxDisable s = .next t) :
    Moves W s t := by
  unfold execLtxDisable at h
  refine doneMirrored_moves (by assumption) ?_ h
  repeat' (first
    | with_reducible assumption
    | with_reducible exact .refl
    | (with_reducible refine Bus_row_line (by assumption) (by assumption) (by assumption) (by assumption) (by assumption) (by assumption) (by assumption) (by assumption) (by assumption) (by assumption) (by assumption) (by assumption) (by assumption) (by assumption) (by assumption) (by assumption) (by assumption) (by assumption) (by assumption) (by assumption) (by assumption) (by assumption) (by assumption) (by assumption) (by assumption) (by assumption) _ _ _ _ _ (by decide) ?_ ?_)
    | with_reducible apply Ltx_disable_moves
    | intro _)

theorem execHostMute_moves {W : Part → Prop} {s t : State} (h0 : W .held) (h1 : W .msix) (h2 : W .qdr) (h3 : W (.fld F.CAL_INT_CAUSE_ABORTED)) (h4 : W (.fld F.CAL_STAT_STATE)) (h5 : W (.fld F.HKA_STAT_CAL_HOLD)) (h6 : W (.fld F.HKA_STAT_INJ_PEND)) (h7 : W (.fld F.HKA_STAT_STATE)) (h8 : W (.fld F.LTX_CTRL_MUTE)) (h9 : W (.fld F.LTX_STAT_MUTE_SRC)) (h10 : W (.fld F.PEER_INT_CAUSE_MIRRORED)) (h11 : W (.fld F.PMC_INT_CAUSE_OVF)) (h12 : W (.fld F.PMC_INT_CAUSE_SMP_AVAIL)) (h13 : W (.fld F.PMC_INT_CAUSE_SMP_DROP)) (h14 : W (.fld F.PMC_OVF_STAT_OVF)) (h15 : W (.fld F.PMC_SMP_DROP_RING)) (h16 : W (.fld F.PMC_SMP_STAT_COUNT)) (h17 : W (.fld H.BST_WAITING)) (h18 : W (.fld H.CAL_RETRY)) (h19 : W (.fld H.HKA_CAL_WAIT)) (h20 : W (.fld H.HKA_CUR)) (h21 : W (.fld H.HKA_RUN)) (h22 : W (.fld H.HKA_SEQ_STATE)) (h23 : W (.fld H.HKA_TICKS)) (h24 : W (.fld H.LTX_OUTPUT)) (h25 : W (.fld H.PEER_MUTE_WAS)) (h26 : W (.fld H.PMC_CNT)) (h27 : W (.fld H.PMC_OVF_DUE)) (h28 : W (.fld H.PMC_OVF_T)) (h29 : W (.fld H.PMC_RING)) (h30 : W (.fld H.PMC_TRACE_POS)) (a0 : Nat) (h : execHostMute a0 s = .next t) :
    Moves W s t := by
  unfold execHostMute at h
  refine done_moves (by assumption) ?_ h
  repeat' (first
    | with_reducible assumption
    | with_reducible exact .refl
    | (with_reducible refine Bus_row_line (by assumption) (by assumption) (by assumption) (by assumption) (by assumption) (by assumption) (by assumption) (by assumption) (by assumption) (by assumption) (by assumption) (by assumption) (by assumption) (by assumption) (by assumption) (by assumption) (by assumption) (by assumption) (by assumption) (by assumption) (by assumption) (by assumption) (by assumption) (by assumption) (by assumption) (by assumption) _ _ _ _ _ (by decide) ?_ ?_)
    | with_reducible apply Ltx_hostMute_moves
    | intro _)

theorem execMuteResume_moves {W : Part → Prop} {s t : State} (h0 : W .msix) (h1 : W (.fld H.LTX_OUTPUT)) (h : execMuteResume s = .next t) :
    Moves W s t := by
  unfold execMuteResume at h
  refine done_moves (by assumption) ?_ h
  repeat' (first
    | with_reducible assumption
    | with_reducible exact .refl
    | with_reducible apply Ltx_resume_moves
    | intro _)

theorem execLoadSwap_moves {W : Part → Prop} {s t : State} (h0 : W .brx) (h1 : W .msix) (h2 : W (.fld F.BRX_CNT_COUNT)) (h3 : W (.fld F.BRX_COL_STAT_COUNT)) (h4 : W (.fld F.BRX_COL_STAT_HEAD_DONE)) (h5 : W (.fld F.BRX_INT_CAUSE_CH_OFF)) (h6 : W (.fld F.BRX_REC_STAT_COUNT)) (h7 : W (.fld F.BRX_STAT_CH)) (h8 : W (.fld F.LRX_INT_CAUSE_LOAD_SWAP)) (h9 : W (.fld F.LRX_SC_STAT_LOCK)) (h10 : W (.fld F.LRX_STAT_ANNOUNCED)) (h11 : W (.fld F.LRX_STAT_BANK)) (h12 : W (.fld F.LRX_STAT_SHADOW_READY)) (h13 : W (.fld F.LSR_STAT_SER_BUSY)) (h14 : W (.fld F.LTX_INT_CAUSE_LOAD_SWAP)) (h15 : W (.fld F.LTX_STAT_ANNOUNCED)) (h16 : W (.fld F.LTX_STAT_BANK)) (h17 : W (.fld F.LTX_STAT_SHADOW_READY)) (h18 : W (.fld F.SCM_CHG_STAT_DS_STATE)) (h19 : W (.fld F.SCM_CHG_STAT_DS_VER)) (h20 : W (.fld F.SCM_CHG_STAT_US_STATE)) (h21 : W (.fld F.SCM_CHG_STAT_US_VER)) (h22 : W (.fld F.SCM_INT_CAUSE_SWAP)) (h23 : W (.fld F.SCM_SC_FLAG_OVER)) (h24 : W (.fld F.SCM_SC_FLAG_US_OVER)) (h25 : W (.fld H.FEC_RX_ON)) (h26 : W (.fld H.FEC_RX_POS)) (h27 : W (.fld H.FEC_RX_WAIT)) (h28 : W (.fld H.FEC_SL_ON)) (h29 : W (.fld H.FEC_SL_WAIT)) (h30 : W (.fld H.FEC_TX_POS)) (h31 : W (.fld H.FRM_CF_DUE)) (h32 : W (.fld H.LRX_ACTIVE)) (h33 : W (.fld H.LRX_ACT_VER)) (h34 : W (.fld H.LRX_SET_OWNER)) (h35 : W (.fld H.LRX_SHADOW)) (h36 : W (.fld H.LRX_SHADOW_VER)) (h37 : W (.fld H.LRX_SWAP_DUE)) (h38 : W (.fld H.LRX_TAPS)) (h39 : W (.fld H.LRX_WIN_LOCK)) (h40 : W (.fld H.LSR_HOST_PEND)) (h41 : W (.fld H.LSR_HOST_RUN)) (h42 : W (.fld H.LSR_OWN_CMD)) (h43 : W (.fld H.LSR_OWN_PEND)) (h44 : W (.fld H.LSR_OWN_RUN)) (h45 : W (.fld H.LSR_SET)) (h46 : W (.fld H.LSR_TUNE_CMD)) (h47 : W (.fld H.LSR_TUNE_PEND)) (h48 : W (.fld H.LTX_ACTIVE)) (h49 : W (.fld H.LTX_ACT_VER)) (h50 : W (.fld H.LTX_SHADOW)) (h51 : W (.fld H.LTX_SHADOW_VER)) (h52 : W (.fld H.LTX_SWAP_DUE)) (h53 : W (.fld H.SCM_ACKED)) (h54 : W (.fld H.SCM_ADDRESSED)) (h55 : W (.fld H.SCM_SWAPPED)) (h56 : W (.fld H.SCM_SWAP_MF)) (a0 : Nat) (h : execLoadSwap a0 s = .next t) :
    Moves W s t := by
  unfold execLoadSwap at h
  refine doneMirrored_moves (by assumption) ?_ h
  repeat' (first
    | with_reducible assumption
    | with_reducible exact .refl
    | with_reducible apply Tick_loadSwap_moves
    | intro _)

theorem execFreqOfsWrite_moves {W : Part → Prop} {s t : State} (h0 : W .held) (h1 : W .msix) (h2 : W .qdr) (h3 : W (.fld F.CAL_INT_CAUSE_ABORTED)) (h4 : W (.fld F.CAL_STAT_STATE)) (h5 : W (.fld F.HKA_STAT_CAL_HOLD)) (h6 : W (.fld F.HKA_STAT_INJ_PEND)) (h7 : W (.fld F.HKA_STAT_STATE)) (h8 : W (.fld F.LTX_FREQ_OFS_OFS)) (h9 : W (.fld F.LTX_INT_CAUSE_CFG_ERR)) (h10 : W (.fld F.PEER_INT_CAUSE_MIRRORED)) (h11 : W (.fld F.PMC_INT_CAUSE_OVF)) (h12 : W (.fld F.PMC_INT_CAUSE_SMP_AVAIL)) (h13 : W (.fld F.PMC_INT_CAUSE_SMP_DROP)) (h14 : W (.fld F.PMC_OVF_STAT_OVF)) (h15 : W (.fld F.PMC_SMP_DROP_RING)) (h16 : W (.fld F.PMC_SMP_STAT_COUNT)) (h17 : W (.fld H.BST_WAITING)) (h18 : W (.fld H.CAL_RETRY)) (h19 : W (.fld H.HKA_CAL_WAIT)) (h20 : W (.fld H.HKA_CUR)) (h21 : W (.fld H.HKA_RUN)) (h22 : W (.fld H.HKA_SEQ_STATE)) (h23 : W (.fld H.HKA_TICKS)) (h24 : W (.fld H.LTX_OFS_PENDING)) (h25 : W (.fld H.PMC_CNT)) (h26 : W (.fld H.PMC_OVF_DUE)) (h27 : W (.fld H.PMC_OVF_T)) (h28 : W (.fld H.PMC_RING)) (h29 : W (.fld H.PMC_TRACE_POS)) (a0 : Nat) (h : execFreqOfsWrite a0 s = .next t) :
    Moves W s t := by
  unfold execFreqOfsWrite at h
  refine done_moves (by assumption) ?_ h
  repeat' (first
    | with_reducible assumption
    | with_reducible exact .refl
    | (with_reducible refine Bus_row_line (by assumption) (by assumption) (by assumption) (by assumption) (by assumption) (by assumption) (by assumption) (by assumption) (by assumption) (by assumption) (by assumption) (by assumption) (by assumption) (by assumption) (by assumption) (by assumption) (by assumption) (by assumption) (by assumption) (by assumption) (by assumption) (by assumption) (by assumption) (by assumption) (by assumption) (by assumption) _ _ _ _ _ (by decide) ?_ ?_)
    | with_reducible apply Ltx_writeFreqOfs_moves
    | intro _)

theorem execFreqOfsApply_moves {W : Part → Prop} {s t : State} (h0 : W .msix) (h1 : W (.fld H.LTX_OFS_NOW)) (h2 : W (.fld H.LTX_OFS_PENDING)) (h : execFreqOfsApply s = .next t) :
    Moves W s t := by
  unfold execFreqOfsApply at h
  refine done_moves (by assumption) ?_ h
  repeat' (first
    | with_reducible assumption
    | with_reducible exact .refl
    | with_reducible apply Ltx_applyFreqOfs_moves
    | intro _)

theorem execCdpreGo_moves {W : Part → Prop} {s t : State} (h0 : W .held) (h1 : W .msix) (h2 : W .qdr) (h3 : W (.fld F.CAL_INT_CAUSE_ABORTED)) (h4 : W (.fld F.CAL_STAT_STATE)) (h5 : W (.fld F.HKA_STAT_CAL_HOLD)) (h6 : W (.fld F.HKA_STAT_INJ_PEND)) (h7 : W (.fld F.HKA_STAT_STATE)) (h8 : W (.fld F.LTX_INT_CAUSE_CD_RANGE)) (h9 : W (.fld F.LTX_STAT_CD_FADING)) (h10 : W (.fld F.PEER_INT_CAUSE_MIRRORED)) (h11 : W (.fld F.PMC_INT_CAUSE_OVF)) (h12 : W (.fld F.PMC_INT_CAUSE_SMP_AVAIL)) (h13 : W (.fld F.PMC_INT_CAUSE_SMP_DROP)) (h14 : W (.fld F.PMC_OVF_STAT_OVF)) (h15 : W (.fld F.PMC_SMP_DROP_RING)) (h16 : W (.fld F.PMC_SMP_STAT_COUNT)) (h17 : W (.fld F.SYS_INT_CAUSE_ROLE_LIMIT)) (h18 : W (.fld H.BST_WAITING)) (h19 : W (.fld H.CAL_RETRY)) (h20 : W (.fld H.HKA_CAL_WAIT)) (h21 : W (.fld H.HKA_CUR)) (h22 : W (.fld H.HKA_RUN)) (h23 : W (.fld H.HKA_SEQ_STATE)) (h24 : W (.fld H.HKA_TICKS)) (h25 : W (.fld H.LTX_D_FADE)) (h26 : W (.fld H.LTX_D_HELD)) (h27 : W (.fld H.LTX_FADE_LEN)) (h28 : W (.fld H.LTX_GO_HELD)) (h29 : W (.fld H.PMC_CNT)) (h30 : W (.fld H.PMC_OVF_DUE)) (h31 : W (.fld H.PMC_OVF_T)) (h32 : W (.fld H.PMC_RING)) (h33 : W (.fld H.PMC_TRACE_POS)) (h : execCdpreGo s = .next t) :
    Moves W s t := by
  unfold execCdpreGo at h
  refine done_moves (by assumption) ?_ h
  repeat' (first
    | with_reducible assumption
    | with_reducible exact .refl
    | (with_reducible refine Bus_row_line (by assumption) (by assumption) (by assumption) (by assumption) (by assumption) (by assumption) (by assumption) (by assumption) (by assumption) (by assumption) (by assumption) (by assumption) (by assumption) (by assumption) (by assumption) (by assumption) (by assumption) (by assumption) (by assumption) (by assumption) (by assumption) (by assumption) (by assumption) (by assumption) (by assumption) (by assumption) _ _ _ _ _ (by decide) ?_ ?_)
    | with_reducible apply Ltx_cdpreGo_moves
    | intro _)

theorem execCdpreFadeDone_moves {W : Part → Prop} {s t : State} (h0 : W .msix) (h1 : W (.fld F.LTX_INT_CAUSE_CD_DONE)) (h2 : W (.fld F.LTX_STAT_CD_FADING)) (h3 : W (.fld H.LTX_D_FADE)) (h4 : W (.fld H.LTX_D_NOW)) (h5 : W (.fld H.LTX_FADE_LEN)) (h6 : W (.fld H.LTX_GO_HELD)) (a0 : Nat) (h : execCdpreFadeDone s a0 = .next t) :
    Moves W s t := by
  unfold execCdpreFadeDone at h
  refine done_moves (by assumption) ?_ h
  repeat' (first
    | with_reducible assumption
    | with_reducible exact .refl
    | with_reducible apply Ltx_cdpreDone_moves
    | intro _)

theorem execSkewWrite_moves {W : Part → Prop} {s t : State} (h0 : W .held) (h1 : W .msix) (h2 : W .qdr) (h3 : W (.fld F.CAL_INT_CAUSE_ABORTED)) (h4 : W (.fld F.CAL_STAT_STATE)) (h5 : W (.fld F.HKA_STAT_CAL_HOLD)) (h6 : W (.fld F.HKA_STAT_INJ_PEND)) (h7 : W (.fld F.HKA_STAT_STATE)) (h8 : W (.fld F.LTX_SKEW_SKEW)) (h9 : W (.fld F.LTX_STAT_SKEW_SLEW)) (h10 : W (.fld F.PEER_INT_CAUSE_MIRRORED)) (h11 : W (.fld F.PMC_INT_CAUSE_OVF)) (h12 : W (.fld F.PMC_INT_CAUSE_SMP_AVAIL)) (h13 : W (.fld F.PMC_INT_CAUSE_SMP_DROP)) (h14 : W (.fld F.PMC_OVF_STAT_OVF)) (h15 : W (.fld F.PMC_SMP_DROP_RING)) (h16 : W (.fld F.PMC_SMP_STAT_COUNT)) (h17 : W (.fld H.BST_WAITING)) (h18 : W (.fld H.CAL_RETRY)) (h19 : W (.fld H.HKA_CAL_WAIT)) (h20 : W (.fld H.HKA_CUR)) (h21 : W (.fld H.HKA_RUN)) (h22 : W (.fld H.HKA_SEQ_STATE)) (h23 : W (.fld H.HKA_TICKS)) (h24 : W (.fld H.PMC_CNT)) (h25 : W (.fld H.PMC_OVF_DUE)) (h26 : W (.fld H.PMC_OVF_T)) (h27 : W (.fld H.PMC_RING)) (h28 : W (.fld H.PMC_TRACE_POS)) (a0 : Nat) (a1 : Nat) (h : execSkewWrite a0 a1 s = .next t) :
    Moves W s t := by
  unfold execSkewWrite at h
  refine done_moves (by assumption) ?_ h
  repeat' (first
    | with_reducible assumption
    | with_reducible exact .refl
    | (with_reducible refine Bus_row_line (by assumption) (by assumption) (by assumption) (by assumption) (by assumption) (by assumption) (by assumption) (by assumption) (by assumption) (by assumption) (by assumption) (by assumption) (by assumption) (by assumption) (by assumption) (by assumption) (by assumption) (by assumption) (by assumption) (by assumption) (by assumption) (by assumption) (by assumption) (by assumption) (by assumption) (by assumption) _ _ _ _ _ (by decide) ?_ ?_)
    | with_reducible apply Ltx_writeSkew_moves
    | intro _)

theorem execSkewSlewDone_moves {W : Part → Prop} {s t : State} (h0 : W .msix) (h1 : W (.fld F.LTX_STAT_SKEW_SLEW)) (h2 : W (.fld H.LTX_SKEW_NOW)) (a0 : Nat) (h : execSkewSlewDone s a0 = .next t) :
    Moves W s t := by
  unfold execSkewSlewDone at h
  refine done_moves (by assumption) ?_ h
  repeat' (first
    | with_reducible assumption
    | with_reducible exact .refl
    | with_reducible apply Ltx_skewBlocks_moves
    | intro _)

theorem execPeqSwap_moves {W : Part → Prop} {s t : State} (h0 : W .held) (h1 : W .msix) (h2 : W .qdr) (h3 : W (.fld F.CAL_INT_CAUSE_ABORTED)) (h4 : W (.fld F.CAL_STAT_STATE)) (h5 : W (.fld F.HKA_STAT_CAL_HOLD)) (h6 : W (.fld F.HKA_STAT_INJ_PEND)) (h7 : W (.fld F.HKA_STAT_STATE)) (h8 : W (.fld F.LTX_STAT_PEQ_PENDING)) (h9 : W (.fld F.PEER_INT_CAUSE_MIRRORED)) (h10 : W (.fld F.PMC_INT_CAUSE_OVF)) (h11 : W (.fld F.PMC_INT_CAUSE_SMP_AVAIL)) (h12 : W (.fld F.PMC_INT_CAUSE_SMP_DROP)) (h13 : W (.fld F.PMC_OVF_STAT_OVF)) (h14 : W (.fld F.PMC_SMP_DROP_RING)) (h15 : W (.fld F.PMC_SMP_STAT_COUNT)) (h16 : W (.fld H.BST_WAITING)) (h17 : W (.fld H.CAL_RETRY)) (h18 : W (.fld H.HKA_CAL_WAIT)) (h19 : W (.fld H.HKA_CUR)) (h20 : W (.fld H.HKA_RUN)) (h21 : W (.fld H.HKA_SEQ_STATE)) (h22 : W (.fld H.HKA_TICKS)) (h23 : W (.fld H.PMC_CNT)) (h24 : W (.fld H.PMC_OVF_DUE)) (h25 : W (.fld H.PMC_OVF_T)) (h26 : W (.fld H.PMC_RING)) (h27 : W (.fld H.PMC_TRACE_POS)) (h : execPeqSwap s = .next t) :
    Moves W s t := by
  unfold execPeqSwap at h
  refine done_moves (by assumption) ?_ h
  repeat' (first
    | with_reducible assumption
    | with_reducible exact .refl
    | (with_reducible refine Bus_row_line (by assumption) (by assumption) (by assumption) (by assumption) (by assumption) (by assumption) (by assumption) (by assumption) (by assumption) (by assumption) (by assumption) (by assumption) (by assumption) (by assumption) (by assumption) (by assumption) (by assumption) (by assumption) (by assumption) (by assumption) (by assumption) (by assumption) (by assumption) (by assumption) (by assumption) (by assumption) _ _ _ _ _ (by decide) ?_ ?_)
    | with_reducible apply Ltx_peqRequest_moves
    | intro _)

theorem execPeqSwapApply_moves {W : Part → Prop} {s t : State} (h0 : W .msix) (h1 : W (.fld F.LTX_PEQ_TAP)) (h2 : W (.fld F.LTX_STAT_PEQ_PENDING)) (h3 : W (.fld H.LTX_PEQ_ACTIVE)) (h : execPeqSwapApply s = .next t) :
    Moves W s t := by
  unfold execPeqSwapApply at h
  refine done_moves (by assumption) ?_ h
  repeat' (first
    | with_reducible assumption
    | with_reducible exact .refl
    | with_reducible apply Ltx_peqApply_moves
    | intro _)

theorem execPdSwap_moves {W : Part → Prop} {s t : State} (h0 : W .held) (h1 : W .msix) (h2 : W .qdr) (h3 : W (.fld F.CAL_INT_CAUSE_ABORTED)) (h4 : W (.fld F.CAL_STAT_STATE)) (h5 : W (.fld F.HKA_STAT_CAL_HOLD)) (h6 : W (.fld F.HKA_STAT_INJ_PEND)) (h7 : W (.fld F.HKA_STAT_STATE)) (h8 : W (.fld F.LTX_STAT_PD_PENDING)) (h9 : W (.fld F.PEER_INT_CAUSE_MIRRORED)) (h10 : W (.fld F.PMC_INT_CAUSE_OVF)) (h11 : W (.fld F.PMC_INT_CAUSE_SMP_AVAIL)) (h12 : W (.fld F.PMC_INT_CAUSE_SMP_DROP)) (h13 : W (.fld F.PMC_OVF_STAT_OVF)) (h14 : W (.fld F.PMC_SMP_DROP_RING)) (h15 : W (.fld F.PMC_SMP_STAT_COUNT)) (h16 : W (.fld H.BST_WAITING)) (h17 : W (.fld H.CAL_RETRY)) (h18 : W (.fld H.HKA_CAL_WAIT)) (h19 : W (.fld H.HKA_CUR)) (h20 : W (.fld H.HKA_RUN)) (h21 : W (.fld H.HKA_SEQ_STATE)) (h22 : W (.fld H.HKA_TICKS)) (h23 : W (.fld H.PMC_CNT)) (h24 : W (.fld H.PMC_OVF_DUE)) (h25 : W (.fld H.PMC_OVF_T)) (h26 : W (.fld H.PMC_RING)) (h27 : W (.fld H.PMC_TRACE_POS)) (h : execPdSwap s = .next t) :
    Moves W s t := by
  unfold execPdSwap at h
  refine done_moves (by assumption) ?_ h
  repeat' (first
    | with_reducible assumption
    | with_reducible exact .refl
    | (with_reducible refine Bus_row_line (by assumption) (by assumption) (by assumption) (by assumption) (by assumption) (by assumption) (by assumption) (by assumption) (by assumption) (by assumption) (by assumption) (by assumption) (by assumption) (by assumption) (by assumption) (by assumption) (by assumption) (by assumption) (by assumption) (by assumption) (by assumption) (by assumption) (by assumption) (by assumption) (by assumption) (by assumption) _ _ _ _ _ (by decide) ?_ ?_)
    | with_reducible apply Ltx_pdRequest_moves
    | intro _)

theorem execPdSwapApply_moves {W : Part → Prop} {s t : State} (h0 : W .msix) (h1 : W (.fld F.LTX_PD_LUT_Y)) (h2 : W (.fld F.LTX_STAT_PD_PENDING)) (h3 : W (.fld H.LTX_PD_ACTIVE)) (h : execPdSwapApply s = .next t) :
    Moves W s t := by
  unfold execPdSwapApply at h
  refine done_moves (by assumption) ?_ h
  repeat' (first
    | with_reducible assumption
    | with_reducible exact .refl
    | with_reducible apply Ltx_pdApply_moves
    | intro _)

theorem execConverterClockLock_moves {W : Part → Prop} {s t : State} (h0 : W .msix) (h1 : W (.fld F.CVT_ADC_STAT_CLK_LOCK)) (h2 : W (.fld F.CVT_ADC_STAT_READY)) (h3 : W (.fld F.CVT_DAC_STAT_CLK_LOCK)) (h4 : W (.fld F.CVT_DAC_STAT_READY)) (h5 : W (.fld H.BST_WAITING)) (a0 : Bool) (h : execConverterClockLock a0 s = .next t) :
    Moves W s t := by
  unfold execConverterClockLock at h
  refine done_moves (by assumption) ?_ h
  repeat' (first
    | with_reducible assumption
    | with_reducible exact .refl
    | with_reducible apply Bst_unwait_moves
    | with_reducible apply Cvt_clockLock_moves
    | intro _)

end Sys2Proof.Laws
end

