-- ==== Sys2Proof/Laws/MovesExecMbx.lean ====
section
/-! SUPPORT. Sys2Proof/Laws/MovesExecMbx.lean: what each command of Machine/ExecMbx.lean may write (Laws/Moves.lean). -/
namespace Sys2Proof.Laws
open Sys2Proof Sys2Proof.Machine

theorem execMbxDataWrite_moves {W : Part → Prop} {s t : State} (h0 : W .held) (h1 : W .msix) (h2 : W .qdr) (h3 : W (.fld F.MBX_DATA_DATA)) (h4 : W (.fld F.MBX_INT_CAUSE_ACCESS_ERR)) (h5 : W (.fld F.MBX_INT_CAUSE_POST_REFUSED)) (h6 : W (.fld F.MBX_STAT_POST_REFUSED)) (h7 : W (.fld F.PEER_INT_CAUSE_MIRRORED)) (h8 : W (.fld F.PMC_INT_CAUSE_OVF)) (h9 : W (.fld F.PMC_INT_CAUSE_SMP_AVAIL)) (h10 : W (.fld F.PMC_INT_CAUSE_SMP_DROP)) (h11 : W (.fld F.PMC_OVF_STAT_OVF)) (h12 : W (.fld F.PMC_SMP_DROP_RING)) (h13 : W (.fld F.PMC_SMP_STAT_COUNT)) (h14 : W (.fld H.PMC_CNT)) (h15 : W (.fld H.PMC_OVF_DUE)) (h16 : W (.fld H.PMC_OVF_T)) (h17 : W (.fld H.PMC_RING)) (h18 : W (.fld H.PMC_TRACE_POS)) (a0 : Nat) (a1 : Bool) (a2 : Nat) (a3 : Nat) (a4 : Nat) (h : execMbxDataWrite a0 a1 a2 a3 a4 s = .next t) :
    Moves W s t := by
  unfold execMbxDataWrite at h
  refine done_moves (by assumption) ?_ h
  repeat' (first
    | with_reducible assumption
    | with_reducible exact .refl
    | (with_reducible refine Bus_row_other (by assumption) (by assumption) (by assumption) (by assumption) (by assumption) (by assumption) (by assumption) (by assumption) (by assumption) (by assumption) (by assumption) (by assumption) (by assumption) (by assumption) _ _ _ _ _ (by decide) ?_ ?_)
    | with_reducible apply Mbx_writeData_moves
    | intro _)

theorem execDoorbell_moves {W : Part → Prop} {s t : State} (h0 : W .held) (h1 : W .msix) (h2 : W .qdr) (h3 : W (.fld F.MBX_DB_PEND_CH)) (h4 : W (.fld F.MBX_INT_CAUSE_ACCESS_ERR)) (h5 : W (.fld F.MBX_INT_CAUSE_DOORBELL)) (h6 : W (.fld F.MBX_INT_CAUSE_POST_REFUSED)) (h7 : W (.fld F.MBX_STAT_FULL)) (h8 : W (.fld F.MBX_STAT_LEN)) (h9 : W (.fld F.MBX_STAT_POST_REFUSED)) (h10 : W (.fld F.PEER_INT_CAUSE_MIRRORED)) (h11 : W (.fld F.PMC_INT_CAUSE_OVF)) (h12 : W (.fld F.PMC_INT_CAUSE_SMP_AVAIL)) (h13 : W (.fld F.PMC_INT_CAUSE_SMP_DROP)) (h14 : W (.fld F.PMC_OVF_STAT_OVF)) (h15 : W (.fld F.PMC_SMP_DROP_RING)) (h16 : W (.fld F.PMC_SMP_STAT_COUNT)) (h17 : W (.fld H.PMC_CNT)) (h18 : W (.fld H.PMC_OVF_DUE)) (h19 : W (.fld H.PMC_OVF_T)) (h20 : W (.fld H.PMC_RING)) (h21 : W (.fld H.PMC_TRACE_POS)) (a0 : Nat) (a1 : Bool) (a2 : Nat) (a3 : Nat) (h : execDoorbell a0 a1 a2 a3 s = .next t) :
    Moves W s t := by
  unfold execDoorbell at h
  refine done_moves (by assumption) ?_ h
  repeat' (first
    | with_reducible assumption
    | with_reducible exact .refl
    | (with_reducible refine Bus_row_other (by assumption) (by assumption) (by assumption) (by assumption) (by assumption) (by assumption) (by assumption) (by assumption) (by assumption) (by assumption) (by assumption) (by assumption) (by assumption) (by assumption) _ _ _ _ _ (by decide) ?_ ?_)
    | with_reducible apply Mbx_doorbell_moves
    | intro _)

theorem execMbxTake_moves {W : Part → Prop} {s t : State} (hw : ∀ x, W x) (a0 : Nat) (a1 : Bool) (a2 : Nat) (h : execMbxTake a0 a1 a2 s = .next t) :
    Moves W s t := by
  unfold execMbxTake at h
  refine done_moves (hw _) ?_ h
  repeat' (first
    | with_reducible assumption
    | with_reducible exact .refl
    | exact hw _
    | with_reducible apply Bus_fetch_moves
    | intro _)

theorem execBind_moves {W : Part → Prop} {s t : State} (h0 : W .held) (h1 : W .msix) (h2 : W .qdr) (h3 : W (.fld F.MBX_BIND_EN)) (h4 : W (.fld F.MBX_BIND_RECEIVER)) (h5 : W (.fld F.MBX_BIND_SENDER)) (h6 : W (.fld F.MBX_INT_CAUSE_BIND_ERR)) (h7 : W (.fld F.MBX_STAT_RX_RESET_SEEN)) (h8 : W (.fld F.MBX_STAT_SENDER_RESET_SEEN)) (h9 : W (.fld F.PEER_INT_CAUSE_MIRRORED)) (h10 : W (.fld F.PMC_INT_CAUSE_OVF)) (h11 : W (.fld F.PMC_INT_CAUSE_SMP_AVAIL)) (h12 : W (.fld F.PMC_INT_CAUSE_SMP_DROP)) (h13 : W (.fld F.PMC_OVF_STAT_OVF)) (h14 : W (.fld F.PMC_SMP_DROP_RING)) (h15 : W (.fld F.PMC_SMP_STAT_COUNT)) (h16 : W (.fld H.PMC_CNT)) (h17 : W (.fld H.PMC_OVF_DUE)) (h18 : W (.fld H.PMC_OVF_T)) (h19 : W (.fld H.PMC_RING)) (h20 : W (.fld H.PMC_TRACE_POS)) (a0 : Nat) (a1 : Bool) (a2 : Nat) (a3 : Nat) (h : execBind a0 a1 a2 a3 s = .next t) :
    Moves W s t := by
  unfold execBind at h
  refine done_moves (by assumption) ?_ h
  repeat' (first
    | with_reducible assumption
    | with_reducible exact .refl
    | (with_reducible refine Bus_row_other (by assumption) (by assumption) (by assumption) (by assumption) (by assumption) (by assumption) (by assumption) (by assumption) (by assumption) (by assumption) (by assumption) (by assumption) (by assumption) (by assumption) _ _ _ _ _ (by decide) ?_ ?_)
    | with_reducible apply Mbx_bind_moves
    | intro _)

theorem execMbxLockAcquire_moves {W : Part → Prop} {s t : State} (hw : ∀ x, W x) (a0 : Nat) (a1 : Bool) (a2 : Nat) (a3 : List Nat) (h : execMbxLockAcquire a0 a1 a2 a3 s = .next t) :
    Moves W s t := by
  unfold execMbxLockAcquire at h
  refine done_moves (hw _) ?_ h
  repeat' (first
    | with_reducible assumption
    | with_reducible exact .refl
    | exact hw _
    | with_reducible apply Tick_race_moves
    | with_reducible apply Mbx_contend_moves
    | intro _)

theorem execMbxLockRelease_moves {W : Part → Prop} {s t : State} (h0 : W .held) (h1 : W .msix) (h2 : W .qdr) (h3 : W (.fld F.MBX_INT_CAUSE_LOCK_ERR)) (h4 : W (.fld F.MBX_LOCK_STAT_OWNER)) (h5 : W (.fld F.PEER_INT_CAUSE_MIRRORED)) (h6 : W (.fld F.PMC_INT_CAUSE_OVF)) (h7 : W (.fld F.PMC_INT_CAUSE_SMP_AVAIL)) (h8 : W (.fld F.PMC_INT_CAUSE_SMP_DROP)) (h9 : W (.fld F.PMC_OVF_STAT_OVF)) (h10 : W (.fld F.PMC_SMP_DROP_RING)) (h11 : W (.fld F.PMC_SMP_STAT_COUNT)) (h12 : W (.fld H.PMC_CNT)) (h13 : W (.fld H.PMC_OVF_DUE)) (h14 : W (.fld H.PMC_OVF_T)) (h15 : W (.fld H.PMC_RING)) (h16 : W (.fld H.PMC_TRACE_POS)) (a0 : Nat) (a1 : Bool) (a2 : Nat) (h : execMbxLockRelease a0 a1 a2 s = .next t) :
    Moves W s t := by
  unfold execMbxLockRelease at h
  refine done_moves (by assumption) ?_ h
  repeat' (first
    | with_reducible assumption
    | with_reducible exact .refl
    | (with_reducible refine Bus_row_other (by assumption) (by assumption) (by assumption) (by assumption) (by assumption) (by assumption) (by assumption) (by assumption) (by assumption) (by assumption) (by assumption) (by assumption) (by assumption) (by assumption) _ _ _ _ _ (by decide) ?_ ?_)
    | with_reducible apply Mbx_lockWrite_moves
    | intro _)

theorem execFunctionLevelReset_moves {W : Part → Prop} {s t : State} (h0 : W .msix) (h1 : W .qdr) (h2 : W (.fld F.CRY_KEY_DATA_KEY)) (h3 : W (.fld F.CRY_KEY_SALT_SALT)) (h4 : W (.fld F.CRY_LOCK_STAT_LOCK_BROKEN)) (h5 : W (.fld F.CRY_LOCK_STAT_OWNER)) (h6 : W (.fld F.MBX_INT_CAUSE_RESET_SEEN)) (h7 : W (.fld F.MBX_LOCK_STAT_LOCK_BROKEN)) (h8 : W (.fld F.MBX_LOCK_STAT_OWNER)) (h9 : W (.fld F.MBX_STAT_RX_RESET_SEEN)) (h10 : W (.fld F.MBX_STAT_SENDER_RESET_SEEN)) (h11 : W (.fld F.PMC_INT_CAUSE_OVF)) (h12 : W (.fld F.PMC_INT_CAUSE_SMP_AVAIL)) (h13 : W (.fld F.PMC_INT_CAUSE_SMP_DROP)) (h14 : W (.fld F.PMC_OVF_STAT_OVF)) (h15 : W (.fld F.PMC_SMP_DROP_RING)) (h16 : W (.fld F.PMC_SMP_STAT_COUNT)) (h17 : W (.fld F.SYN_INT_CAUSE_PRIV_CLOSED)) (h18 : W (.fld F.SYN_NCO_CTRL_OPEN)) (h19 : W (.fld F.SYN_NCO_CTRL_OWNER)) (h20 : W (.fld H.PMC_CNT)) (h21 : W (.fld H.PMC_OVF_DUE)) (h22 : W (.fld H.PMC_OVF_T)) (h23 : W (.fld H.PMC_RING)) (h24 : W (.fld H.PMC_TRACE_POS)) (h25 : W (.fld H.SYN_KEYSTEP)) (h26 : W (.fld H.SYN_NCO_RAMP)) (a0 : Nat) (h : execFunctionLevelReset a0 s = .next t) :
    Moves W s t := by
  unfold execFunctionLevelReset at h
  refine done_moves (by assumption) ?_ h
  repeat' (first
    | with_reducible assumption
    | with_reducible exact .refl
    | with_reducible apply Reset_function_moves
    | intro _)

theorem execPeerPost_moves {W : Part → Prop} {s t : State} (h0 : W .msix) (h1 : W .qdr) (h2 : W (.fld F.MBX_DATA_DATA)) (h3 : W (.fld F.MBX_DB_PEND_CH)) (h4 : W (.fld F.MBX_INT_CAUSE_ACCESS_ERR)) (h5 : W (.fld F.MBX_INT_CAUSE_DOORBELL)) (h6 : W (.fld F.MBX_STAT_FULL)) (h7 : W (.fld F.MBX_STAT_LEN)) (h8 : W (.fld F.PMC_INT_CAUSE_OVF)) (h9 : W (.fld F.PMC_INT_CAUSE_SMP_AVAIL)) (h10 : W (.fld F.PMC_INT_CAUSE_SMP_DROP)) (h11 : W (.fld F.PMC_OVF_STAT_OVF)) (h12 : W (.fld F.PMC_SMP_DROP_RING)) (h13 : W (.fld F.PMC_SMP_STAT_COUNT)) (h14 : W (.fld H.PMC_CNT)) (h15 : W (.fld H.PMC_OVF_DUE)) (h16 : W (.fld H.PMC_OVF_T)) (h17 : W (.fld H.PMC_RING)) (h18 : W (.fld H.PMC_TRACE_POS)) (a0 : Nat) (a1 : List Nat) (h : execPeerPost a0 a1 s = .next t) :
    Moves W s t := by
  unfold execPeerPost at h
  refine done_moves (by assumption) ?_ h
  repeat' (first
    | with_reducible assumption
    | with_reducible exact .refl
    | with_reducible apply Mbx_peerPost_moves
    | intro _)

theorem execCntLoWrite_moves {W : Part → Prop} {s t : State} (h0 : W .held) (h1 : W .msix) (h2 : W .qdr) (h3 : W (.fld F.PEER_INT_CAUSE_MIRRORED)) (h4 : W (.fld F.PMC_INT_CAUSE_OVF)) (h5 : W (.fld F.PMC_INT_CAUSE_SMP_AVAIL)) (h6 : W (.fld F.PMC_INT_CAUSE_SMP_DROP)) (h7 : W (.fld F.PMC_OVF_STAT_OVF)) (h8 : W (.fld F.PMC_SMP_DROP_RING)) (h9 : W (.fld F.PMC_SMP_STAT_COUNT)) (h10 : W (.fld H.PMC_CNT)) (h11 : W (.fld H.PMC_OVF_DUE)) (h12 : W (.fld H.PMC_OVF_T)) (h13 : W (.fld H.PMC_RING)) (h14 : W (.fld H.PMC_TRACE_POS)) (a0 : Nat) (a1 : Nat) (a2 : Nat) (h : execCntLoWrite a0 a1 a2 s = .next t) :
    Moves W s t := by
  unfold execCntLoWrite at h
  refine done_moves (by assumption) ?_ h
  repeat' (first
    | with_reducible assumption
    | with_reducible exact .refl
    | (with_reducible refine Bus_row_other (by assumption) (by assumption) (by assumption) (by assumption) (by assumption) (by assumption) (by assumption) (by assumption) (by assumption) (by assumption) (by assumption) (by assumption) (by assumption) (by assumption) _ _ _ _ _ (by decide) ?_ ?_)
    | with_reducible apply Pmc_writeLo_moves
    | intro _)

theorem execCntHiWrite_moves {W : Part → Prop} {s t : State} (h0 : W .held) (h1 : W .msix) (h2 : W .qdr) (h3 : W (.fld F.PEER_INT_CAUSE_MIRRORED)) (h4 : W (.fld F.PMC_INT_CAUSE_OVF)) (h5 : W (.fld F.PMC_INT_CAUSE_SMP_AVAIL)) (h6 : W (.fld F.PMC_INT_CAUSE_SMP_DROP)) (h7 : W (.fld F.PMC_OVF_STAT_OVF)) (h8 : W (.fld F.PMC_SMP_DROP_RING)) (h9 : W (.fld F.PMC_SMP_STAT_COUNT)) (h10 : W (.fld H.PMC_CNT)) (h11 : W (.fld H.PMC_OVF_DUE)) (h12 : W (.fld H.PMC_OVF_T)) (h13 : W (.fld H.PMC_RING)) (h14 : W (.fld H.PMC_STAGE)) (h15 : W (.fld H.PMC_TRACE_POS)) (a0 : Nat) (a1 : Nat) (a2 : Nat) (h : execCntHiWrite a0 a1 a2 s = .next t) :
    Moves W s t := by
  unfold execCntHiWrite at h
  refine done_moves (by assumption) ?_ h
  repeat' (first
    | with_reducible assumption
    | with_reducible exact .refl
    | (with_reducible refine Bus_row_other (by assumption) (by assumption) (by assumption) (by assumption) (by assumption) (by assumption) (by assumption) (by assumption) (by assumption) (by assumption) (by assumption) (by assumption) (by assumption) (by assumption) _ _ _ _ _ (by decide) ?_ ?_)
    | with_reducible apply Pmc_writeHi_moves
    | intro _)

theorem execPmcOverflow_moves {W : Part → Prop} {s t : State} (h0 : W .msix) (h1 : W .qdr) (h2 : W (.fld F.PMC_INT_CAUSE_OVF)) (h3 : W (.fld F.PMC_INT_CAUSE_SMP_AVAIL)) (h4 : W (.fld F.PMC_INT_CAUSE_SMP_DROP)) (h5 : W (.fld F.PMC_OVF_STAT_OVF)) (h6 : W (.fld F.PMC_SMP_DROP_RING)) (h7 : W (.fld F.PMC_SMP_STAT_COUNT)) (h8 : W (.fld H.PMC_CNT)) (h9 : W (.fld H.PMC_OVF_DUE)) (h10 : W (.fld H.PMC_OVF_T)) (h11 : W (.fld H.PMC_RING)) (h12 : W (.fld H.PMC_TRACE_POS)) (a0 : Nat) (h : execPmcOverflow a0 s = .next t) :
    Moves W s t := by
  unfold execPmcOverflow at h
  refine done_moves (by assumption) ?_ h
  repeat' (first
    | with_reducible assumption
    | with_reducible exact .refl
    | with_reducible apply Pmc_wrap_moves
    | intro _)

theorem execSamplePick_moves {W : Part → Prop} {s t : State} (h0 : W .msix) (h1 : W (.fld F.PMC_SMP_DROP_SKIP)) (h2 : W (.fld H.PMC_FOLLOW)) (h3 : W (.fld H.PMC_FOLLOW_HEAD)) (h4 : W (.fld H.PMC_FOLLOW_PC)) (h5 : W (.fld H.PMC_FOLLOW_T)) (a0 : Nat) (a1 : Nat) (a2 : Nat) (a3 : Nat) (a4 : Nat) (a5 : Nat) (a6 : Nat) (h : execSamplePick a0 a1 a2 a3 a4 a5 a6 s = .next t) :
    Moves W s t := by
  unfold execSamplePick at h
  refine done_moves (by assumption) ?_ h
  repeat' (first
    | with_reducible assumption
    | with_reducible exact .refl
    | with_reducible apply Pmc_pick_moves
    | intro _)

theorem execSampleRecord_moves {W : Part → Prop} {s t : State} (h0 : W .msix) (h1 : W .qdr) (h2 : W (.fld F.PMC_INT_CAUSE_SMP_AVAIL)) (h3 : W (.fld F.PMC_INT_CAUSE_SMP_DROP)) (h4 : W (.fld F.PMC_SMP_DROP_RING)) (h5 : W (.fld F.PMC_SMP_STAT_COUNT)) (h6 : W (.fld H.PMC_FOLLOW)) (h7 : W (.fld H.PMC_OVF_DUE)) (h8 : W (.fld H.PMC_RING)) (h9 : W (.fld H.PMC_TRACE_POS)) (a0 : Option Nat) (a1 : Sys2Proof.Followed) (h : execSampleRecord a0 a1 s = .next t) :
    Moves W s t := by
  unfold execSampleRecord at h
  refine done_moves (by assumption) ?_ h
  repeat' (first
    | with_reducible assumption
    | with_reducible exact .refl
    | with_reducible apply Tick_sampleRecord_moves
    | intro _)

theorem execSmpPop_moves {W : Part → Prop} {s t : State} (h0 : W .held) (h1 : W .msix) (h2 : W .qdr) (h3 : W (.fld F.PEER_INT_CAUSE_MIRRORED)) (h4 : W (.fld F.PMC_INT_CAUSE_OVF)) (h5 : W (.fld F.PMC_INT_CAUSE_SMP_AVAIL)) (h6 : W (.fld F.PMC_INT_CAUSE_SMP_DROP)) (h7 : W (.fld F.PMC_OVF_STAT_OVF)) (h8 : W (.fld F.PMC_SMP_DROP_RING)) (h9 : W (.fld F.PMC_SMP_STAT_COUNT)) (h10 : W (.fld H.PMC_CNT)) (h11 : W (.fld H.PMC_OVF_DUE)) (h12 : W (.fld H.PMC_OVF_T)) (h13 : W (.fld H.PMC_RING)) (h14 : W (.fld H.PMC_RING_HEAD)) (h15 : W (.fld H.PMC_TRACE_POS)) (h : execSmpPop s = .next t) :
    Moves W s t := by
  unfold execSmpPop at h
  refine done_moves (by assumption) ?_ h
  repeat' (first
    | with_reducible assumption
    | with_reducible exact .refl
    | (with_reducible refine Bus_row_other (by assumption) (by assumption) (by assumption) (by assumption) (by assumption) (by assumption) (by assumption) (by assumption) (by assumption) (by assumption) (by assumption) (by assumption) (by assumption) (by assumption) _ _ _ _ _ (by decide) ?_ ?_)
    | with_reducible apply Pmc_pop_moves
    | intro _)

theorem execMethodChange_moves {W : Part → Prop} {s t : State} (h0 : W .msix) (h1 : W (.fld F.PMC_INT_CAUSE_MODE_CHG)) (h2 : W (.fld F.PMC_SMP_STAT_METHOD)) (h : execMethodChange s = .next t) :
    Moves W s t := by
  unfold execMethodChange at h
  refine done_moves (by assumption) ?_ h
  repeat' (first
    | with_reducible assumption
    | with_reducible exact .refl
    | with_reducible apply Pmc_methodChange_moves
    | intro _)

theorem execTraceWriteTimeout_moves {W : Part → Prop} {s t : State} (h0 : W .msix) (h1 : W (.fld F.PMC_INT_CAUSE_SMP_DROP)) (h2 : W (.fld F.PMC_SMP_DROP_TRACE)) (h : execTraceWriteTimeout s = .next t) :
    Moves W s t := by
  unfold execTraceWriteTimeout at h
  refine done_moves (by assumption) ?_ h
  repeat' (first
    | with_reducible assumption
    | with_reducible exact .refl
    | with_reducible apply Pmc_traceTimeout_moves
    | intro _)

end Sys2Proof.Laws
end

