-- ==== Sys2Proof/Laws/MovesExecOpt.lean ====
section
/-! SUPPORT. Sys2Proof/Laws/MovesExecOpt.lean: what each command of Machine/ExecOpt.lean may write (Laws/Moves.lean). -/
namespace Sys2Proof.Laws
open Sys2Proof Sys2Proof.Machine

theorem execHkaTimer_moves {W : Part → Prop} {s t : State} (h0 : W .msix) (h1 : W (.fld F.HKA_INT_CAUSE_INJ_REFUSED)) (h2 : W (.fld F.HKA_INT_CAUSE_TRIG_MISS)) (h3 : W (.fld F.HKA_MISS_CNT_COUNT)) (h4 : W (.fld F.HKA_STAT_CAL_HOLD)) (h5 : W (.fld F.HKA_STAT_INJ_PEND)) (h6 : W (.fld F.HKA_STAT_NEXT)) (h7 : W (.fld F.HKA_STAT_STATE)) (h8 : W (.fld H.HKA_CAL_WAIT)) (h9 : W (.fld H.HKA_CUR)) (h10 : W (.fld H.HKA_RUN)) (h11 : W (.fld H.HKA_SEQ_STATE)) (h12 : W (.fld H.HKA_TICKS)) (h : execHkaTimer s = .next t) :
    Moves W s t := by
  unfold execHkaTimer at h
  refine done_moves (by assumption) ?_ h
  repeat' (first
    | with_reducible assumption
    | with_reducible exact .refl
    | with_reducible apply Hka_timer_moves
    | intro _)

theorem execSeqGo_moves {W : Part → Prop} {s t : State} (h0 : W .held) (h1 : W .msix) (h2 : W .qdr) (h3 : W (.fld F.HKA_INT_CAUSE_TRIG_MISS)) (h4 : W (.fld F.HKA_MISS_CNT_COUNT)) (h5 : W (.fld F.HKA_STAT_NEXT)) (h6 : W (.fld F.HKA_STAT_STATE)) (h7 : W (.fld F.PEER_INT_CAUSE_MIRRORED)) (h8 : W (.fld F.PMC_INT_CAUSE_OVF)) (h9 : W (.fld F.PMC_INT_CAUSE_SMP_AVAIL)) (h10 : W (.fld F.PMC_INT_CAUSE_SMP_DROP)) (h11 : W (.fld F.PMC_OVF_STAT_OVF)) (h12 : W (.fld F.PMC_SMP_DROP_RING)) (h13 : W (.fld F.PMC_SMP_STAT_COUNT)) (h14 : W (.fld H.PMC_CNT)) (h15 : W (.fld H.PMC_OVF_DUE)) (h16 : W (.fld H.PMC_OVF_T)) (h17 : W (.fld H.PMC_RING)) (h18 : W (.fld H.PMC_TRACE_POS)) (h : execSeqGo s = .next t) :
    Moves W s t := by
  unfold execSeqGo at h
  refine done_moves (by assumption) ?_ h
  repeat' (first
    | with_reducible assumption
    | with_reducible exact .refl
    | (with_reducible refine Bus_row_other (by assumption) (by assumption) (by assumption) (by assumption) (by assumption) (by assumption) (by assumption) (by assumption) (by assumption) (by assumption) (by assumption) (by assumption) (by assumption) (by assumption) _ _ _ _ _ (by decide) ?_ ?_)
    | with_reducible apply Hka_seqGo_moves
    | intro _)

theorem execDelayEnd_moves {W : Part → Prop} {s t : State} (h0 : W .msix) (h1 : W (.fld F.HKA_STAT_CAL_HOLD)) (h2 : W (.fld F.HKA_STAT_INJ_PEND)) (h3 : W (.fld F.HKA_STAT_STATE)) (h4 : W (.fld H.HKA_CAL_WAIT)) (h5 : W (.fld H.HKA_CUR)) (h6 : W (.fld H.HKA_RUN)) (h7 : W (.fld H.HKA_SEQ_STATE)) (h8 : W (.fld H.HKA_TICKS)) (h : execDelayEnd s = .next t) :
    Moves W s t := by
  unfold execDelayEnd at h
  refine done_moves (by assumption) ?_ h
  repeat' (first
    | with_reducible assumption
    | with_reducible exact .refl
    | with_reducible apply Hka_delayEnd_moves
    | intro _)

theorem execConversionEnd_moves {W : Part → Prop} {s t : State} (h0 : W .flt) (h1 : W .msix) (h2 : W (.fld F.CAL_DEFERRED_VAL)) (h3 : W (.fld F.CAL_STAT_STATE)) (h4 : W (.fld F.CAL_STAT_TYPE)) (h5 : W (.fld F.FLT_CH_STAT_ABOVE)) (h6 : W (.fld F.FLT_CH_STAT_BANK)) (h7 : W (.fld F.FLT_CH_STAT_FADING)) (h8 : W (.fld F.FLT_CH_STAT_SAT)) (h9 : W (.fld F.FLT_CH_STAT_SWAP_HELD)) (h10 : W (.fld F.FLT_ENV_VAL)) (h11 : W (.fld F.FLT_FIR_C)) (h12 : W (.fld F.FLT_INT_CAUSE_ENV_HI)) (h13 : W (.fld F.FLT_INT_CAUSE_ENV_LO)) (h14 : W (.fld F.FLT_INT_CAUSE_FADE_DONE)) (h15 : W (.fld F.FLT_OUT_VAL)) (h16 : W (.fld F.FLT_PEAK_VAL)) (h17 : W (.fld F.FLT_RMS_VAL)) (h18 : W (.fld F.HKA_DIE_HOT_TEMP)) (h19 : W (.fld F.HKA_DIE_TEMP_TEMP)) (h20 : W (.fld F.HKA_INJ_RES_DATA)) (h21 : W (.fld F.HKA_INJ_RES_NEW)) (h22 : W (.fld F.HKA_INJ_RES_OVR)) (h23 : W (.fld F.HKA_INT_CAUSE_INJ_DONE)) (h24 : W (.fld F.HKA_INT_CAUSE_SEQ_DONE)) (h25 : W (.fld F.HKA_PWM_DUTY_VAL)) (h26 : W (.fld F.HKA_RES_DATA)) (h27 : W (.fld F.HKA_RES_NEW)) (h28 : W (.fld F.HKA_RES_OVR)) (h29 : W (.fld F.HKA_STAT_CAL_HOLD)) (h30 : W (.fld F.HKA_STAT_INJ_PEND)) (h31 : W (.fld F.HKA_STAT_NEXT)) (h32 : W (.fld F.HKA_STAT_STATE)) (h33 : W (.fld F.LRX_LOFB_STAT_FINE)) (h34 : W (.fld F.LSR_FT_OUT_LIMIT)) (h35 : W (.fld F.LSR_FT_OUT_MHZ)) (h36 : W (.fld F.LSR_INT_CAUSE_LOOP_LIMIT)) (h37 : W (.fld F.LSR_LOOP_STAT_AT_LIMIT)) (h38 : W (.fld F.LSR_LOOP_STAT_U)) (h39 : W (.fld F.PWR_AVS_READ_BUSY)) (h40 : W (.fld F.PWR_VMIN_VMIN_MV)) (h41 : W (.fld F.PWR_VMIN_VREQ_MV)) (h42 : W (.fld H.CAL_AUTO_PEND)) (h43 : W (.fld H.CAL_HOST)) (h44 : W (.fld H.CAL_PASSED)) (h45 : W (.fld H.CAL_T0)) (h46 : W (.fld H.CAL_TEMP0)) (h47 : W (.fld H.FLT_DUE)) (h48 : W (.fld H.FLT_DUE_VAL)) (h49 : W (.fld H.FLT_FADE_I)) (h50 : W (.fld H.FLT_FADE_L)) (h51 : W (.fld H.FLT_HOLD_CNT)) (h52 : W (.fld H.FLT_IN)) (h53 : W (.fld H.FLT_IN_NEW)) (h54 : W (.fld H.FLT_PHASE)) (h55 : W (.fld H.FLT_RMS_CNT)) (h56 : W (.fld H.FLT_RMS_SUM)) (h57 : W (.fld H.FLT_SAMPLES)) (h58 : W (.fld H.FLT_SWAP_DUE)) (h59 : W (.fld H.FLT_TAP)) (h60 : W (.fld H.HKA_CAL_WAIT)) (h61 : W (.fld H.HKA_CODE)) (h62 : W (.fld H.HKA_CUR)) (h63 : W (.fld H.HKA_FRESH)) (h64 : W (.fld H.HKA_INJ_CODE)) (h65 : W (.fld H.HKA_RUN)) (h66 : W (.fld H.HKA_SCAN_DUE)) (h67 : W (.fld H.HKA_SCAN_S)) (h68 : W (.fld H.HKA_SEQ_STATE)) (h69 : W (.fld H.HKA_TICKS)) (h70 : W (.fld H.LSR_CODE)) (h71 : W (.fld H.PWR_TARGET)) (h72 : W (.fld H.PWR_VMIN_ASKED)) (h73 : W (.fld H.PWR_VMIN_FAILED)) (h74 : W (.fld H.PWR_VMIN_WAITS)) (a0 : Int) (h : execConversionEnd a0 s = .next t) :
    Moves W s t := by
  unfold execConversionEnd at h
  refine done_moves (by assumption) ?_ h
  repeat' (first
    | with_reducible assumption
    | with_reducible exact .refl
    | with_reducible apply Tick_conversionEnd_moves
    | intro _)

theorem execInjGo_moves {W : Part → Prop} {s t : State} (h0 : W .held) (h1 : W .msix) (h2 : W .qdr) (h3 : W (.fld F.HKA_INT_CAUSE_INJ_REFUSED)) (h4 : W (.fld F.HKA_STAT_CAL_HOLD)) (h5 : W (.fld F.HKA_STAT_INJ_PEND)) (h6 : W (.fld F.HKA_STAT_STATE)) (h7 : W (.fld F.PEER_INT_CAUSE_MIRRORED)) (h8 : W (.fld F.PMC_INT_CAUSE_OVF)) (h9 : W (.fld F.PMC_INT_CAUSE_SMP_AVAIL)) (h10 : W (.fld F.PMC_INT_CAUSE_SMP_DROP)) (h11 : W (.fld F.PMC_OVF_STAT_OVF)) (h12 : W (.fld F.PMC_SMP_DROP_RING)) (h13 : W (.fld F.PMC_SMP_STAT_COUNT)) (h14 : W (.fld H.HKA_CAL_WAIT)) (h15 : W (.fld H.HKA_CUR)) (h16 : W (.fld H.HKA_RUN)) (h17 : W (.fld H.HKA_SEQ_STATE)) (h18 : W (.fld H.HKA_TICKS)) (h19 : W (.fld H.PMC_CNT)) (h20 : W (.fld H.PMC_OVF_DUE)) (h21 : W (.fld H.PMC_OVF_T)) (h22 : W (.fld H.PMC_RING)) (h23 : W (.fld H.PMC_TRACE_POS)) (h : execInjGo s = .next t) :
    Moves W s t := by
  unfold execInjGo at h
  refine done_moves (by assumption) ?_ h
  repeat' (first
    | with_reducible assumption
    | with_reducible exact .refl
    | (with_reducible refine Bus_row_other (by assumption) (by assumption) (by assumption) (by assumption) (by assumption) (by assumption) (by assumption) (by assumption) (by assumption) (by assumption) (by assumption) (by assumption) (by assumption) (by assumption) _ _ _ _ _ (by decide) ?_ ?_)
    | with_reducible apply Hka_inject_moves
    | intro _)

theorem execBackgroundScan_moves {W : Part → Prop} {s t : State} (h0 : W .msix) (h1 : W (.fld F.HKA_STAT_CAL_HOLD)) (h2 : W (.fld F.HKA_STAT_INJ_PEND)) (h3 : W (.fld F.HKA_STAT_STATE)) (h4 : W (.fld H.HKA_CAL_WAIT)) (h5 : W (.fld H.HKA_CUR)) (h6 : W (.fld H.HKA_RUN)) (h7 : W (.fld H.HKA_SCAN_DUE)) (h8 : W (.fld H.HKA_SCAN_S)) (h9 : W (.fld H.HKA_SEQ_STATE)) (h10 : W (.fld H.HKA_TICKS)) (h : execBackgroundScan s = .next t) :
    Moves W s t := by
  unfold execBackgroundScan at h
  refine done_moves (by assumption) ?_ h
  repeat' (first
    | with_reducible assumption
    | with_reducible exact .refl
    | with_reducible apply Hka_scanDue_moves
    | intro _)

theorem execHkaCalDone_moves {W : Part → Prop} {s t : State} (h0 : W .msix) (h1 : W (.fld F.CAL_INT_CAUSE_NOREF)) (h2 : W (.fld F.CAL_STAT_STATE)) (h3 : W (.fld F.HKA_STAT_CAL_HOLD)) (h4 : W (.fld F.HKA_STAT_INJ_PEND)) (h5 : W (.fld F.HKA_STAT_STATE)) (h6 : W (.fld H.BST_WAITING)) (h7 : W (.fld H.CAL_RETRY)) (h8 : W (.fld H.HKA_CAL_WAIT)) (h9 : W (.fld H.HKA_CUR)) (h10 : W (.fld H.HKA_RUN)) (h11 : W (.fld H.HKA_SEQ_STATE)) (h12 : W (.fld H.HKA_TICKS)) (a0 : Int) (h : execHkaCalDone a0 s = .next t) :
    Moves W s t := by
  unfold execHkaCalDone at h
  refine done_moves (by assumption) ?_ h
  repeat' (first
    | with_reducible assumption
    | with_reducible exact .refl
    | with_reducible apply Tick_hkaCalDone_moves
    | intro _)

theorem execPwmPeriodStart_moves {W : Part → Prop} {s t : State} (h0 : W .msix) (h1 : W (.fld F.HKA_INT_CAUSE_INJ_REFUSED)) (h2 : W (.fld F.HKA_INT_CAUSE_TRIG_MISS)) (h3 : W (.fld F.HKA_MISS_CNT_COUNT)) (h4 : W (.fld F.HKA_STAT_CAL_HOLD)) (h5 : W (.fld F.HKA_STAT_INJ_PEND)) (h6 : W (.fld F.HKA_STAT_NEXT)) (h7 : W (.fld F.HKA_STAT_STATE)) (h8 : W (.fld H.HKA_CAL_WAIT)) (h9 : W (.fld H.HKA_CUR)) (h10 : W (.fld H.HKA_PWM_A)) (h11 : W (.fld H.HKA_PWM_C)) (h12 : W (.fld H.HKA_PWM_CNT)) (h13 : W (.fld H.HKA_PWM_MINUS)) (h14 : W (.fld H.HKA_PWM_OUT)) (h15 : W (.fld H.HKA_PWM_P)) (h16 : W (.fld H.HKA_RUN)) (h17 : W (.fld H.HKA_SEQ_STATE)) (h18 : W (.fld H.HKA_TICKS)) (a0 : Nat) (h : execPwmPeriodStart a0 s = .next t) :
    Moves W s t := by
  unfold execPwmPeriodStart at h
  refine done_moves (by assumption) ?_ h
  repeat' (first
    | with_reducible assumption
    | with_reducible exact .refl
    | with_reducible apply Hka_periodStart_moves
    | intro _)

theorem execPwmCompare_moves {W : Part → Prop} {s t : State} (h0 : W .msix) (h1 : W (.fld F.HKA_INT_CAUSE_INJ_REFUSED)) (h2 : W (.fld F.HKA_INT_CAUSE_TRIG_MISS)) (h3 : W (.fld F.HKA_MISS_CNT_COUNT)) (h4 : W (.fld F.HKA_STAT_CAL_HOLD)) (h5 : W (.fld F.HKA_STAT_INJ_PEND)) (h6 : W (.fld F.HKA_STAT_NEXT)) (h7 : W (.fld F.HKA_STAT_STATE)) (h8 : W (.fld H.HKA_CAL_WAIT)) (h9 : W (.fld H.HKA_CUR)) (h10 : W (.fld H.HKA_PWM_OUT)) (h11 : W (.fld H.HKA_RUN)) (h12 : W (.fld H.HKA_SEQ_STATE)) (h13 : W (.fld H.HKA_TICKS)) (a0 : Nat) (h : execPwmCompare a0 s = .next t) :
    Moves W s t := by
  unfold execPwmCompare at h
  refine done_moves (by assumption) ?_ h
  repeat' (first
    | with_reducible assumption
    | with_reducible exact .refl
    | with_reducible apply Hka_compare_moves
    | intro _)

theorem execFltSample_moves {W : Part → Prop} {s t : State} (h0 : W .flt) (h1 : W .msix) (h2 : W (.fld F.FLT_CH_STAT_ABOVE)) (h3 : W (.fld F.FLT_CH_STAT_BANK)) (h4 : W (.fld F.FLT_CH_STAT_FADING)) (h5 : W (.fld F.FLT_CH_STAT_SAT)) (h6 : W (.fld F.FLT_CH_STAT_SWAP_HELD)) (h7 : W (.fld F.FLT_ENV_VAL)) (h8 : W (.fld F.FLT_FIR_C)) (h9 : W (.fld F.FLT_INT_CAUSE_ENV_HI)) (h10 : W (.fld F.FLT_INT_CAUSE_ENV_LO)) (h11 : W (.fld F.FLT_INT_CAUSE_FADE_DONE)) (h12 : W (.fld F.FLT_OUT_VAL)) (h13 : W (.fld F.FLT_PEAK_VAL)) (h14 : W (.fld F.FLT_RMS_VAL)) (h15 : W (.fld F.HKA_PWM_DUTY_VAL)) (h16 : W (.fld F.LRX_LOFB_STAT_FINE)) (h17 : W (.fld F.LSR_FT_OUT_LIMIT)) (h18 : W (.fld F.LSR_FT_OUT_MHZ)) (h19 : W (.fld F.LSR_INT_CAUSE_LOOP_LIMIT)) (h20 : W (.fld F.LSR_LOOP_STAT_AT_LIMIT)) (h21 : W (.fld F.LSR_LOOP_STAT_U)) (h22 : W (.fld H.FLT_DUE)) (h23 : W (.fld H.FLT_DUE_VAL)) (h24 : W (.fld H.FLT_FADE_I)) (h25 : W (.fld H.FLT_FADE_L)) (h26 : W (.fld H.FLT_HOLD_CNT)) (h27 : W (.fld H.FLT_IN)) (h28 : W (.fld H.FLT_IN_NEW)) (h29 : W (.fld H.FLT_PHASE)) (h30 : W (.fld H.FLT_RMS_CNT)) (h31 : W (.fld H.FLT_RMS_SUM)) (h32 : W (.fld H.FLT_SAMPLES)) (h33 : W (.fld H.FLT_SWAP_DUE)) (h34 : W (.fld H.FLT_TAP)) (h35 : W (.fld H.LSR_CODE)) (a0 : Nat) (a1 : Nat) (h : execFltSample a0 a1 s = .next t) :
    Moves W s t := by
  unfold execFltSample at h
  refine done_moves (by assumption) ?_ h
  repeat' (first
    | with_reducible assumption
    | with_reducible exact .refl
    | with_reducible apply Flt_sample_moves
    | intro _)

theorem execFltOutput_moves {W : Part → Prop} {s t : State} (h0 : W .flt) (h1 : W .msix) (h2 : W (.fld F.FLT_CH_STAT_ABOVE)) (h3 : W (.fld F.FLT_CH_STAT_BANK)) (h4 : W (.fld F.FLT_CH_STAT_FADING)) (h5 : W (.fld F.FLT_CH_STAT_SAT)) (h6 : W (.fld F.FLT_CH_STAT_SWAP_HELD)) (h7 : W (.fld F.FLT_ENV_VAL)) (h8 : W (.fld F.FLT_FIR_C)) (h9 : W (.fld F.FLT_INT_CAUSE_ENV_HI)) (h10 : W (.fld F.FLT_INT_CAUSE_ENV_LO)) (h11 : W (.fld F.FLT_INT_CAUSE_FADE_DONE)) (h12 : W (.fld F.FLT_OUT_VAL)) (h13 : W (.fld F.FLT_PEAK_VAL)) (h14 : W (.fld F.FLT_RMS_VAL)) (h15 : W (.fld F.HKA_PWM_DUTY_VAL)) (h16 : W (.fld F.LRX_LOFB_STAT_FINE)) (h17 : W (.fld F.LSR_FT_OUT_LIMIT)) (h18 : W (.fld F.LSR_FT_OUT_MHZ)) (h19 : W (.fld F.LSR_INT_CAUSE_LOOP_LIMIT)) (h20 : W (.fld F.LSR_LOOP_STAT_AT_LIMIT)) (h21 : W (.fld F.LSR_LOOP_STAT_U)) (h22 : W (.fld H.FLT_DUE)) (h23 : W (.fld H.FLT_FADE_I)) (h24 : W (.fld H.FLT_FADE_L)) (h25 : W (.fld H.FLT_HOLD_CNT)) (h26 : W (.fld H.FLT_RMS_CNT)) (h27 : W (.fld H.FLT_RMS_SUM)) (h28 : W (.fld H.FLT_SWAP_DUE)) (h29 : W (.fld H.FLT_TAP)) (h30 : W (.fld H.LSR_CODE)) (a0 : Nat) (h : execFltOutput a0 s = .next t) :
    Moves W s t := by
  unfold execFltOutput at h
  refine done_moves (by assumption) ?_ h
  repeat' (first
    | with_reducible assumption
    | with_reducible exact .refl
    | with_reducible apply Flt_output_moves
    | intro _)

theorem execFltValid_moves {W : Part → Prop} {s t : State} (h0 : W .msix) (h1 : W (.fld F.FLT_CH_STAT_VALID)) (a0 : Nat) (h : execFltValid a0 s = .next t) :
    Moves W s t := by
  unfold execFltValid at h
  refine done_moves (by assumption) ?_ h
  repeat' (first
    | with_reducible assumption
    | with_reducible exact .refl
    | with_reducible apply Flt_valid_moves
    | intro _)

theorem execFirSwap_moves {W : Part → Prop} {s t : State} (h0 : W .held) (h1 : W .msix) (h2 : W .qdr) (h3 : W (.fld F.FLT_CH_STAT_SWAP_HELD)) (h4 : W (.fld F.PEER_INT_CAUSE_MIRRORED)) (h5 : W (.fld F.PMC_INT_CAUSE_OVF)) (h6 : W (.fld F.PMC_INT_CAUSE_SMP_AVAIL)) (h7 : W (.fld F.PMC_INT_CAUSE_SMP_DROP)) (h8 : W (.fld F.PMC_OVF_STAT_OVF)) (h9 : W (.fld F.PMC_SMP_DROP_RING)) (h10 : W (.fld F.PMC_SMP_STAT_COUNT)) (h11 : W (.fld H.FLT_FADE_L)) (h12 : W (.fld H.FLT_SWAP_DUE)) (h13 : W (.fld H.PMC_CNT)) (h14 : W (.fld H.PMC_OVF_DUE)) (h15 : W (.fld H.PMC_OVF_T)) (h16 : W (.fld H.PMC_RING)) (h17 : W (.fld H.PMC_TRACE_POS)) (a0 : Nat) (h : execFirSwap a0 s = .next t) :
    Moves W s t := by
  unfold execFirSwap at h
  refine done_moves (by assumption) ?_ h
  repeat' (first
    | with_reducible assumption
    | with_reducible exact .refl
    | (with_reducible refine Bus_row_other (by assumption) (by assumption) (by assumption) (by assumption) (by assumption) (by assumption) (by assumption) (by assumption) (by assumption) (by assumption) (by assumption) (by assumption) (by assumption) (by assumption) _ _ _ _ _ (by decide) ?_ ?_)
    | with_reducible apply Flt_swap_moves
    | intro _)

theorem execFirFadeDone_moves {W : Part → Prop} {s t : State} (h0 : W .msix) (h1 : W (.fld F.FLT_CH_STAT_BANK)) (h2 : W (.fld F.FLT_CH_STAT_FADING)) (h3 : W (.fld F.FLT_CH_STAT_SWAP_HELD)) (h4 : W (.fld F.FLT_FIR_C)) (h5 : W (.fld F.FLT_INT_CAUSE_FADE_DONE)) (h6 : W (.fld H.FLT_FADE_I)) (h7 : W (.fld H.FLT_FADE_L)) (h8 : W (.fld H.FLT_SWAP_DUE)) (h9 : W (.fld H.FLT_TAP)) (a0 : Nat) (h : execFirFadeDone a0 s = .next t) :
    Moves W s t := by
  unfold execFirFadeDone at h
  refine done_moves (by assumption) ?_ h
  repeat' (first
    | with_reducible assumption
    | with_reducible exact .refl
    | with_reducible apply Flt_fadeDone_moves
    | intro _)

theorem execFltCfgWrite_moves {W : Part → Prop} {s t : State} (h0 : W .flt) (h1 : W .held) (h2 : W .msix) (h3 : W .qdr) (h4 : W (.fld F.FLT_CH_CFG_CHAIN)) (h5 : W (.fld F.FLT_CH_CFG_DEC_M1)) (h6 : W (.fld F.FLT_CH_CFG_LOCKIN)) (h7 : W (.fld F.FLT_CH_CFG_LOCKIN_PWM)) (h8 : W (.fld F.FLT_CH_CFG_MED)) (h9 : W (.fld F.FLT_CH_CFG_ORDER)) (h10 : W (.fld F.FLT_CH_CFG_SRC)) (h11 : W (.fld F.FLT_CH_CTRL_PRESET)) (h12 : W (.fld F.FLT_CH_STAT_ABOVE)) (h13 : W (.fld F.FLT_CH_STAT_FADING)) (h14 : W (.fld F.FLT_CH_STAT_SWAP_HELD)) (h15 : W (.fld F.FLT_CH_STAT_VALID)) (h16 : W (.fld F.FLT_ENV_VAL)) (h17 : W (.fld F.FLT_OUT_VAL)) (h18 : W (.fld F.FLT_PEAK_VAL)) (h19 : W (.fld F.FLT_RMS_VAL)) (h20 : W (.fld F.PEER_INT_CAUSE_MIRRORED)) (h21 : W (.fld F.PMC_INT_CAUSE_OVF)) (h22 : W (.fld F.PMC_INT_CAUSE_SMP_AVAIL)) (h23 : W (.fld F.PMC_INT_CAUSE_SMP_DROP)) (h24 : W (.fld F.PMC_OVF_STAT_OVF)) (h25 : W (.fld F.PMC_SMP_DROP_RING)) (h26 : W (.fld F.PMC_SMP_STAT_COUNT)) (h27 : W (.fld H.FLT_DUE)) (h28 : W (.fld H.FLT_HOLD_CNT)) (h29 : W (.fld H.FLT_IN_NEW)) (h30 : W (.fld H.FLT_PHASE)) (h31 : W (.fld H.FLT_RMS_CNT)) (h32 : W (.fld H.FLT_RMS_SUM)) (h33 : W (.fld H.FLT_SAMPLES)) (h34 : W (.fld H.FLT_SWAP_DUE)) (h35 : W (.fld H.PMC_CNT)) (h36 : W (.fld H.PMC_OVF_DUE)) (h37 : W (.fld H.PMC_OVF_T)) (h38 : W (.fld H.PMC_RING)) (h39 : W (.fld H.PMC_TRACE_POS)) (a0 : Nat) (a1 : Nat) (h : execFltCfgWrite a0 a1 s = .next t) :
    Moves W s t := by
  unfold execFltCfgWrite at h
  refine done_moves (by assumption) ?_ h
  repeat' (first
    | with_reducible assumption
    | with_reducible exact .refl
    | (with_reducible refine Bus_row_other (by assumption) (by assumption) (by assumption) (by assumption) (by assumption) (by assumption) (by assumption) (by assumption) (by assumption) (by assumption) (by assumption) (by assumption) (by assumption) (by assumption) _ _ _ _ _ (by decide) ?_ ?_)
    | with_reducible apply Flt_writeCfg_moves
    | intro _)

theorem execFltPreset_moves {W : Part → Prop} {s t : State} (h0 : W .flt) (h1 : W .held) (h2 : W .msix) (h3 : W .qdr) (h4 : W (.fld F.FLT_CH_CFG_CHAIN)) (h5 : W (.fld F.FLT_CH_CFG_DEC_M1)) (h6 : W (.fld F.FLT_CH_CFG_MED)) (h7 : W (.fld F.FLT_CH_CFG_ORDER)) (h8 : W (.fld F.FLT_CH_CTRL_PRESET)) (h9 : W (.fld F.FLT_CH_STAT_ABOVE)) (h10 : W (.fld F.FLT_CH_STAT_FADING)) (h11 : W (.fld F.FLT_CH_STAT_SWAP_HELD)) (h12 : W (.fld F.FLT_CH_STAT_VALID)) (h13 : W (.fld F.FLT_ENV_VAL)) (h14 : W (.fld F.FLT_OUT_VAL)) (h15 : W (.fld F.FLT_PEAK_VAL)) (h16 : W (.fld F.FLT_RMS_VAL)) (h17 : W (.fld F.PEER_INT_CAUSE_MIRRORED)) (h18 : W (.fld F.PMC_INT_CAUSE_OVF)) (h19 : W (.fld F.PMC_INT_CAUSE_SMP_AVAIL)) (h20 : W (.fld F.PMC_INT_CAUSE_SMP_DROP)) (h21 : W (.fld F.PMC_OVF_STAT_OVF)) (h22 : W (.fld F.PMC_SMP_DROP_RING)) (h23 : W (.fld F.PMC_SMP_STAT_COUNT)) (h24 : W (.fld H.FLT_DUE)) (h25 : W (.fld H.FLT_HOLD_CNT)) (h26 : W (.fld H.FLT_IN_NEW)) (h27 : W (.fld H.FLT_PHASE)) (h28 : W (.fld H.FLT_RMS_CNT)) (h29 : W (.fld H.FLT_RMS_SUM)) (h30 : W (.fld H.FLT_SAMPLES)) (h31 : W (.fld H.FLT_SWAP_DUE)) (h32 : W (.fld H.FLT_TAP)) (h33 : W (.fld H.PMC_CNT)) (h34 : W (.fld H.PMC_OVF_DUE)) (h35 : W (.fld H.PMC_OVF_T)) (h36 : W (.fld H.PMC_RING)) (h37 : W (.fld H.PMC_TRACE_POS)) (a0 : Nat) (a1 : Nat) (h : execFltPreset a0 a1 s = .next t) :
    Moves W s t := by
  unfold execFltPreset at h
  refine done_moves (by assumption) ?_ h
  repeat' (first
    | with_reducible assumption
    | with_reducible exact .refl
    | (with_reducible refine Bus_row_other (by assumption) (by assumption) (by assumption) (by assumption) (by assumption) (by assumption) (by assumption) (by assumption) (by assumption) (by assumption) (by assumption) (by assumption) (by assumption) (by assumption) _ _ _ _ _ (by decide) ?_ ?_)
    | with_reducible apply Flt_preset_moves
    | intro _)

theorem execBiasLoopEnable_moves {W : Part → Prop} {s t : State} (h0 : W .held) (h1 : W .msix) (h2 : W .qdr) (h3 : W (.fld F.LSR_FT_OUT_OWNER)) (h4 : W (.fld F.LSR_INT_CAUSE_CFG_ERR)) (h5 : W (.fld F.LSR_LOOP_CFG_EN)) (h6 : W (.fld F.LSR_LOOP_CFG_IN_DET)) (h7 : W (.fld F.LSR_LOOP_CFG_IN_F)) (h8 : W (.fld F.LSR_LOOP_CFG_KI)) (h9 : W (.fld F.LSR_LOOP_CFG_SIGN)) (h10 : W (.fld F.LSR_LOOP_CFG_TARGET)) (h11 : W (.fld F.LSR_LOOP_STAT_AT_LIMIT)) (h12 : W (.fld F.LSR_LOOP_STAT_U)) (h13 : W (.fld F.PEER_INT_CAUSE_MIRRORED)) (h14 : W (.fld F.PMC_INT_CAUSE_OVF)) (h15 : W (.fld F.PMC_INT_CAUSE_SMP_AVAIL)) (h16 : W (.fld F.PMC_INT_CAUSE_SMP_DROP)) (h17 : W (.fld F.PMC_OVF_STAT_OVF)) (h18 : W (.fld F.PMC_SMP_DROP_RING)) (h19 : W (.fld F.PMC_SMP_STAT_COUNT)) (h20 : W (.fld H.PMC_CNT)) (h21 : W (.fld H.PMC_OVF_DUE)) (h22 : W (.fld H.PMC_OVF_T)) (h23 : W (.fld H.PMC_RING)) (h24 : W (.fld H.PMC_TRACE_POS)) (a0 : Nat) (a1 : Nat) (h : execBiasLoopEnable a0 a1 s = .next t) :
    Moves W s t := by
  unfold execBiasLoopEnable at h
  refine done_moves (by assumption) ?_ h
  repeat' (first
    | with_reducible assumption
    | with_reducible exact .refl
    | (with_reducible refine Bus_row_other (by assumption) (by assumption) (by assumption) (by assumption) (by assumption) (by assumption) (by assumption) (by assumption) (by assumption) (by assumption) (by assumption) (by assumption) (by assumption) (by assumption) _ _ _ _ _ (by decide) ?_ ?_)
    | with_reducible apply Flt_writeLoopCfg_moves
    | intro _)

theorem execSerCmd_moves {W : Part → Prop} {s t : State} (h0 : W .held) (h1 : W .msix) (h2 : W .qdr) (h3 : W (.fld F.LSR_SER_CMD_FRAME)) (h4 : W (.fld F.LSR_STAT_SER_BUSY)) (h5 : W (.fld F.PEER_INT_CAUSE_MIRRORED)) (h6 : W (.fld F.PMC_INT_CAUSE_OVF)) (h7 : W (.fld F.PMC_INT_CAUSE_SMP_AVAIL)) (h8 : W (.fld F.PMC_INT_CAUSE_SMP_DROP)) (h9 : W (.fld F.PMC_OVF_STAT_OVF)) (h10 : W (.fld F.PMC_SMP_DROP_RING)) (h11 : W (.fld F.PMC_SMP_STAT_COUNT)) (h12 : W (.fld H.LSR_HOST_PEND)) (h13 : W (.fld H.LSR_HOST_RUN)) (h14 : W (.fld H.LSR_OWN_PEND)) (h15 : W (.fld H.LSR_OWN_RUN)) (h16 : W (.fld H.LSR_TUNE_PEND)) (h17 : W (.fld H.PMC_CNT)) (h18 : W (.fld H.PMC_OVF_DUE)) (h19 : W (.fld H.PMC_OVF_T)) (h20 : W (.fld H.PMC_RING)) (h21 : W (.fld H.PMC_TRACE_POS)) (a0 : Nat) (a1 : Nat) (h : execSerCmd a0 a1 s = .next t) :
    Moves W s t := by
  unfold execSerCmd at h
  refine done_moves (by assumption) ?_ h
  repeat' (first
    | with_reducible assumption
    | with_reducible exact .refl
    | (with_reducible refine Bus_row_other (by assumption) (by assumption) (by assumption) (by assumption) (by assumption) (by assumption) (by assumption) (by assumption) (by assumption) (by assumption) (by assumption) (by assumption) (by assumption) (by assumption) _ _ _ _ _ (by decide) ?_ ?_)
    | with_reducible apply Lsr_serCmd_moves
    | intro _)

theorem execSerResponse_moves {W : Part → Prop} {s t : State} (h0 : W .msix) (h1 : W (.fld F.LSR_INT_CAUSE_SER_DONE)) (h2 : W (.fld F.LSR_INT_CAUSE_SER_ERR)) (h3 : W (.fld F.LSR_SER_RESP_FRAME)) (h4 : W (.fld F.LSR_STAT_SER_BUSY)) (h5 : W (.fld H.LSR_HOST_PEND)) (h6 : W (.fld H.LSR_HOST_RUN)) (h7 : W (.fld H.LSR_OWN_DONE)) (h8 : W (.fld H.LSR_OWN_PEND)) (h9 : W (.fld H.LSR_OWN_RUN)) (h10 : W (.fld H.LSR_POLLING)) (h11 : W (.fld H.LSR_TUNE_PEND)) (a0 : Nat) (a1 : Nat) (h : execSerResponse a0 a1 s = .next t) :
    Moves W s t := by
  unfold execSerResponse at h
  refine done_moves (by assumption) ?_ h
  repeat' (first
    | with_reducible assumption
    | with_reducible exact .refl
    | with_reducible apply Lsr_response_moves
    | intro _)

theorem execSerPoll_moves {W : Part → Prop} {s t : State} (h0 : W .msix) (h1 : W (.fld F.LSR_INT_CAUSE_SER_DONE)) (h2 : W (.fld F.LSR_INT_CAUSE_SER_ERR)) (h3 : W (.fld F.LSR_STAT_SER_BUSY)) (h4 : W (.fld H.LSR_HOST_PEND)) (h5 : W (.fld H.LSR_HOST_RUN)) (h6 : W (.fld H.LSR_OWN_DONE)) (h7 : W (.fld H.LSR_OWN_PEND)) (h8 : W (.fld H.LSR_OWN_RUN)) (h9 : W (.fld H.LSR_POLLING)) (h10 : W (.fld H.LSR_TUNE_PEND)) (a0 : Nat) (a1 : Bool) (h : execSerPoll a0 a1 s = .next t) :
    Moves W s t := by
  unfold execSerPoll at h
  refine done_moves (by assumption) ?_ h
  repeat' (first
    | with_reducible assumption
    | with_reducible exact .refl
    | with_reducible apply Lsr_poll_moves
    | intro _)

theorem execSerTimeout_moves {W : Part → Prop} {s t : State} (h0 : W .msix) (h1 : W (.fld F.LSR_INT_CAUSE_SER_DONE)) (h2 : W (.fld F.LSR_INT_CAUSE_SER_ERR)) (h3 : W (.fld F.LSR_STAT_SER_BUSY)) (h4 : W (.fld H.LSR_HOST_PEND)) (h5 : W (.fld H.LSR_HOST_RUN)) (h6 : W (.fld H.LSR_OWN_DONE)) (h7 : W (.fld H.LSR_OWN_PEND)) (h8 : W (.fld H.LSR_OWN_RUN)) (h9 : W (.fld H.LSR_POLLING)) (h10 : W (.fld H.LSR_TUNE_PEND)) (a0 : Nat) (h : execSerTimeout a0 s = .next t) :
    Moves W s t := by
  unfold execSerTimeout at h
  refine done_moves (by assumption) ?_ h
  repeat' (first
    | with_reducible assumption
    | with_reducible exact .refl
    | with_reducible apply Lsr_timeout_moves
    | intro _)

theorem execFtOutWrite_moves {W : Part → Prop} {s t : State} (h0 : W .held) (h1 : W .msix) (h2 : W .qdr) (h3 : W (.fld F.LRX_LOFB_STAT_FINE)) (h4 : W (.fld F.LSR_FT_OUT_LIMIT)) (h5 : W (.fld F.LSR_FT_OUT_MHZ)) (h6 : W (.fld F.LSR_INT_CAUSE_OWNED)) (h7 : W (.fld F.PEER_INT_CAUSE_MIRRORED)) (h8 : W (.fld F.PMC_INT_CAUSE_OVF)) (h9 : W (.fld F.PMC_INT_CAUSE_SMP_AVAIL)) (h10 : W (.fld F.PMC_INT_CAUSE_SMP_DROP)) (h11 : W (.fld F.PMC_OVF_STAT_OVF)) (h12 : W (.fld F.PMC_SMP_DROP_RING)) (h13 : W (.fld F.PMC_SMP_STAT_COUNT)) (h14 : W (.fld H.LSR_CODE)) (h15 : W (.fld H.PMC_CNT)) (h16 : W (.fld H.PMC_OVF_DUE)) (h17 : W (.fld H.PMC_OVF_T)) (h18 : W (.fld H.PMC_RING)) (h19 : W (.fld H.PMC_TRACE_POS)) (a0 : Nat) (a1 : Nat) (h : execFtOutWrite a0 a1 s = .next t) :
    Moves W s t := by
  unfold execFtOutWrite at h
  refine done_moves (by assumption) ?_ h
  repeat' (first
    | with_reducible assumption
    | with_reducible exact .refl
    | (with_reducible refine Bus_row_other (by assumption) (by assumption) (by assumption) (by assumption) (by assumption) (by assumption) (by assumption) (by assumption) (by assumption) (by assumption) (by assumption) (by assumption) (by assumption) (by assumption) _ _ _ _ _ (by decide) ?_ ?_)
    | with_reducible apply Lsr_writeFtOut_moves
    | intro _)

theorem execGainKhzWrite_moves {W : Part → Prop} {s t : State} (h0 : W .held) (h1 : W .msix) (h2 : W .qdr) (h3 : W (.fld F.LRX_LOFB_STAT_FINE)) (h4 : W (.fld F.LSR_FT_CFG_GAIN_KHZ)) (h5 : W (.fld F.LSR_FT_OUT_LIMIT)) (h6 : W (.fld F.LSR_FT_OUT_MHZ)) (h7 : W (.fld F.LSR_INT_CAUSE_CFG_ERR)) (h8 : W (.fld F.PEER_INT_CAUSE_MIRRORED)) (h9 : W (.fld F.PMC_INT_CAUSE_OVF)) (h10 : W (.fld F.PMC_INT_CAUSE_SMP_AVAIL)) (h11 : W (.fld F.PMC_INT_CAUSE_SMP_DROP)) (h12 : W (.fld F.PMC_OVF_STAT_OVF)) (h13 : W (.fld F.PMC_SMP_DROP_RING)) (h14 : W (.fld F.PMC_SMP_STAT_COUNT)) (h15 : W (.fld H.LSR_CODE)) (h16 : W (.fld H.PMC_CNT)) (h17 : W (.fld H.PMC_OVF_DUE)) (h18 : W (.fld H.PMC_OVF_T)) (h19 : W (.fld H.PMC_RING)) (h20 : W (.fld H.PMC_TRACE_POS)) (a0 : Nat) (a1 : Nat) (h : execGainKhzWrite a0 a1 s = .next t) :
    Moves W s t := by
  unfold execGainKhzWrite at h
  refine done_moves (by assumption) ?_ h
  repeat' (first
    | with_reducible assumption
    | with_reducible exact .refl
    | (with_reducible refine Bus_row_other (by assumption) (by assumption) (by assumption) (by assumption) (by assumption) (by assumption) (by assumption) (by assumption) (by assumption) (by assumption) (by assumption) (by assumption) (by assumption) (by assumption) _ _ _ _ _ (by decide) ?_ ?_)
    | with_reducible apply Lsr_writeGain_moves
    | intro _)

end Sys2Proof.Laws
end

