-- ==== Sys2Proof/Laws/MovesExecPeer.lean ====
section
/-! SUPPORT. Sys2Proof/Laws/MovesExecPeer.lean: what each command of Machine/ExecPeer.lean may write (Laws/Moves.lean). -/
namespace Sys2Proof.Laws
open Sys2Proof Sys2Proof.Machine

theorem execPeerEnable_moves {W : Part → Prop} {s t : State} (h0 : W .held) (h1 : W .msix) (h2 : W .qdr) (h3 : W (.fld F.LSR_STAT_HOLD)) (h4 : W (.fld F.LSR_STAT_LASER_EN)) (h5 : W (.fld F.LTX_CTRL_MUTE)) (h6 : W (.fld F.LTX_STAT_MUTE_SRC)) (h7 : W (.fld F.PEER_CTRL_EN)) (h8 : W (.fld F.PEER_INT_CAUSE_MIRRORED)) (h9 : W (.fld F.PEER_INT_CAUSE_STATE_CHG)) (h10 : W (.fld F.PEER_STAT_PHASE_OK)) (h11 : W (.fld F.PEER_STAT_STATE)) (h12 : W (.fld F.PMC_INT_CAUSE_OVF)) (h13 : W (.fld F.PMC_INT_CAUSE_SMP_AVAIL)) (h14 : W (.fld F.PMC_INT_CAUSE_SMP_DROP)) (h15 : W (.fld F.PMC_OVF_STAT_OVF)) (h16 : W (.fld F.PMC_SMP_DROP_RING)) (h17 : W (.fld F.PMC_SMP_STAT_COUNT)) (h18 : W (.fld H.LTX_OUTPUT)) (h19 : W (.fld H.PEER_MUTE_HELD)) (h20 : W (.fld H.PEER_MUTE_WAS)) (h21 : W (.fld H.PMC_CNT)) (h22 : W (.fld H.PMC_OVF_DUE)) (h23 : W (.fld H.PMC_OVF_T)) (h24 : W (.fld H.PMC_RING)) (h25 : W (.fld H.PMC_TRACE_POS)) (h : execPeerEnable s = .next t) :
    Moves W s t := by
  unfold execPeerEnable at h
  refine doneMirrored_moves (by assumption) ?_ h
  repeat' (first
    | with_reducible assumption
    | with_reducible exact .refl
    | (with_reducible refine Bus_row_other (by assumption) (by assumption) (by assumption) (by assumption) (by assumption) (by assumption) (by assumption) (by assumption) (by assumption) (by assumption) (by assumption) (by assumption) (by assumption) (by assumption) _ _ _ _ _ (by decide) ?_ ?_)
    | with_reducible apply Peer_enable_moves
    | intro _)

theorem execPeerDisable_moves {W : Part → Prop} {s t : State} (h0 : W .held) (h1 : W .msix) (h2 : W .qdr) (h3 : W (.fld F.CRY_KEY_DATA_KEY)) (h4 : W (.fld F.CRY_KEY_SALT_SALT)) (h5 : W (.fld F.CRY_LOCK_STAT_LOCK_BROKEN)) (h6 : W (.fld F.CRY_LOCK_STAT_OWNER)) (h7 : W (.fld F.LSR_STAT_HOLD)) (h8 : W (.fld F.LSR_STAT_LASER_EN)) (h9 : W (.fld F.LTX_CTRL_MUTE)) (h10 : W (.fld F.LTX_STAT_MUTE_SRC)) (h11 : W (.fld F.MBX_INT_CAUSE_RESET_SEEN)) (h12 : W (.fld F.MBX_LOCK_STAT_LOCK_BROKEN)) (h13 : W (.fld F.MBX_LOCK_STAT_OWNER)) (h14 : W (.fld F.MBX_STAT_RX_RESET_SEEN)) (h15 : W (.fld F.MBX_STAT_SENDER_RESET_SEEN)) (h16 : W (.fld F.PEER_CTRL_EN)) (h17 : W (.fld F.PEER_INT_CAUSE_LINK_CHG)) (h18 : W (.fld F.PEER_INT_CAUSE_MIRRORED)) (h19 : W (.fld F.PEER_INT_CAUSE_STATE_CHG)) (h20 : W (.fld F.PEER_STAT_LANE_LOCK)) (h21 : W (.fld F.PEER_STAT_LINK)) (h22 : W (.fld F.PEER_STAT_PHASE_OK)) (h23 : W (.fld F.PEER_STAT_STATE)) (h24 : W (.fld F.PMC_INT_CAUSE_OVF)) (h25 : W (.fld F.PMC_INT_CAUSE_SMP_AVAIL)) (h26 : W (.fld F.PMC_INT_CAUSE_SMP_DROP)) (h27 : W (.fld F.PMC_OVF_STAT_OVF)) (h28 : W (.fld F.PMC_SMP_DROP_RING)) (h29 : W (.fld F.PMC_SMP_STAT_COUNT)) (h30 : W (.fld F.SYN_INT_CAUSE_QL_CHG)) (h31 : W (.fld F.SYN_REF_STAT_ELIGIBLE)) (h32 : W (.fld F.SYN_REF_STAT_QL_EFF)) (h33 : W (.fld F.SYN_STAT_OUT_QL)) (h34 : W (.fld F.SYN_STAT_SEL_QL)) (h35 : W (.fld H.LTX_OUTPUT)) (h36 : W (.fld H.PEER_MUTE_HELD)) (h37 : W (.fld H.PEER_MUTE_WAS)) (h38 : W (.fld H.PEER_SETTLING)) (h39 : W (.fld H.PMC_CNT)) (h40 : W (.fld H.PMC_OVF_DUE)) (h41 : W (.fld H.PMC_OVF_T)) (h42 : W (.fld H.PMC_RING)) (h43 : W (.fld H.PMC_TRACE_POS)) (h44 : W (.fld H.SYN_LINE_OK)) (h45 : W (.fld H.SYN_OUT_RUN)) (h46 : W (.fld H.SYN_QL_SENT)) (h : execPeerDisable s = .next t) :
    Moves W s t := by
  unfold execPeerDisable at h
  refine doneMirrored_moves (by assumption) ?_ h
  repeat' (first
    | with_reducible assumption
    | with_reducible exact .refl
    | (with_reducible refine Bus_row_other (by assumption) (by assumption) (by assumption) (by assumption) (by assumption) (by assumption) (by assumption) (by assumption) (by assumption) (by assumption) (by assumption) (by assumption) (by assumption) (by assumption) _ _ _ _ _ (by decide) ?_ ?_)
    | with_reducible apply Peer_disable_moves
    | intro _)

theorem execPeerLinkUp_moves {W : Part → Prop} {s t : State} (h0 : W .msix) (h1 : W (.fld F.LSR_STAT_HOLD)) (h2 : W (.fld F.LSR_STAT_LASER_EN)) (h3 : W (.fld F.LTX_CTRL_MUTE)) (h4 : W (.fld F.LTX_STAT_MUTE_SRC)) (h5 : W (.fld F.PEER_DELAY_DELAY)) (h6 : W (.fld F.PEER_INT_CAUSE_LINK_CHG)) (h7 : W (.fld F.PEER_INT_CAUSE_MISMATCH)) (h8 : W (.fld F.PEER_INT_CAUSE_SPLIT)) (h9 : W (.fld F.PEER_INT_CAUSE_STATE_CHG)) (h10 : W (.fld F.PEER_STAT_LANE_LOCK)) (h11 : W (.fld F.PEER_STAT_LINK)) (h12 : W (.fld F.PEER_STAT_MISMATCH)) (h13 : W (.fld F.PEER_STAT_PHASE_OK)) (h14 : W (.fld F.PEER_STAT_STATE)) (h15 : W (.fld F.SYN_INT_CAUSE_QL_CHG)) (h16 : W (.fld F.SYN_REF_STAT_ELIGIBLE)) (h17 : W (.fld F.SYN_REF_STAT_QL_EFF)) (h18 : W (.fld F.SYN_STAT_OUT_QL)) (h19 : W (.fld F.SYN_STAT_SEL_QL)) (h20 : W (.fld H.LTX_OUTPUT)) (h21 : W (.fld H.PEER_MUTE_HELD)) (h22 : W (.fld H.PEER_MUTE_WAS)) (h23 : W (.fld H.PEER_PARTNER)) (h24 : W (.fld H.SYN_LINE_OK)) (h25 : W (.fld H.SYN_OUT_RUN)) (h26 : W (.fld H.SYN_QL_SENT)) (a0 : Sys2Proof.Hello) (h : execPeerLinkUp a0 s = .next t) :
    Moves W s t := by
  unfold execPeerLinkUp at h
  refine doneMirrored_moves (by assumption) ?_ h
  repeat' (first
    | with_reducible assumption
    | with_reducible exact .refl
    | with_reducible apply Peer_linkUp_moves
    | intro _)

theorem execPeerLinkFail_moves {W : Part → Prop} {s t : State} (h0 : W .msix) (h1 : W .qdr) (h2 : W (.fld F.CRY_KEY_DATA_KEY)) (h3 : W (.fld F.CRY_KEY_SALT_SALT)) (h4 : W (.fld F.CRY_LOCK_STAT_LOCK_BROKEN)) (h5 : W (.fld F.CRY_LOCK_STAT_OWNER)) (h6 : W (.fld F.LSR_STAT_HOLD)) (h7 : W (.fld F.LSR_STAT_LASER_EN)) (h8 : W (.fld F.LTX_CTRL_MUTE)) (h9 : W (.fld F.LTX_STAT_MUTE_SRC)) (h10 : W (.fld F.MBX_INT_CAUSE_RESET_SEEN)) (h11 : W (.fld F.MBX_LOCK_STAT_LOCK_BROKEN)) (h12 : W (.fld F.MBX_LOCK_STAT_OWNER)) (h13 : W (.fld F.MBX_STAT_RX_RESET_SEEN)) (h14 : W (.fld F.MBX_STAT_SENDER_RESET_SEEN)) (h15 : W (.fld F.PEER_INT_CAUSE_LINK_CHG)) (h16 : W (.fld F.PEER_INT_CAUSE_STATE_CHG)) (h17 : W (.fld F.PEER_STAT_LANE_LOCK)) (h18 : W (.fld F.PEER_STAT_LINK)) (h19 : W (.fld F.PEER_STAT_PHASE_OK)) (h20 : W (.fld F.PEER_STAT_STATE)) (h21 : W (.fld F.PMC_INT_CAUSE_OVF)) (h22 : W (.fld F.PMC_INT_CAUSE_SMP_AVAIL)) (h23 : W (.fld F.PMC_INT_CAUSE_SMP_DROP)) (h24 : W (.fld F.PMC_OVF_STAT_OVF)) (h25 : W (.fld F.PMC_SMP_DROP_RING)) (h26 : W (.fld F.PMC_SMP_STAT_COUNT)) (h27 : W (.fld F.SYN_INT_CAUSE_QL_CHG)) (h28 : W (.fld F.SYN_REF_STAT_ELIGIBLE)) (h29 : W (.fld F.SYN_REF_STAT_QL_EFF)) (h30 : W (.fld F.SYN_STAT_OUT_QL)) (h31 : W (.fld F.SYN_STAT_SEL_QL)) (h32 : W (.fld H.LTX_OUTPUT)) (h33 : W (.fld H.PEER_MUTE_HELD)) (h34 : W (.fld H.PEER_MUTE_WAS)) (h35 : W (.fld H.PMC_CNT)) (h36 : W (.fld H.PMC_OVF_DUE)) (h37 : W (.fld H.PMC_OVF_T)) (h38 : W (.fld H.PMC_RING)) (h39 : W (.fld H.PMC_TRACE_POS)) (h40 : W (.fld H.SYN_LINE_OK)) (h41 : W (.fld H.SYN_OUT_RUN)) (h42 : W (.fld H.SYN_QL_SENT)) (a0 : Nat) (a1 : Nat) (h : execPeerLinkFail a0 a1 s = .next t) :
    Moves W s t := by
  unfold execPeerLinkFail at h
  refine doneMirrored_moves (by assumption) ?_ h
  repeat' (first
    | with_reducible assumption
    | with_reducible exact .refl
    | with_reducible apply Peer_linkFail_moves
    | intro _)

theorem execHeartbeatTmo_moves {W : Part → Prop} {s t : State} (h0 : W .msix) (h1 : W .qdr) (h2 : W (.fld F.CRY_KEY_DATA_KEY)) (h3 : W (.fld F.CRY_KEY_SALT_SALT)) (h4 : W (.fld F.CRY_LOCK_STAT_LOCK_BROKEN)) (h5 : W (.fld F.CRY_LOCK_STAT_OWNER)) (h6 : W (.fld F.LSR_STAT_HOLD)) (h7 : W (.fld F.LSR_STAT_LASER_EN)) (h8 : W (.fld F.LTX_CTRL_MUTE)) (h9 : W (.fld F.LTX_STAT_MUTE_SRC)) (h10 : W (.fld F.MBX_INT_CAUSE_RESET_SEEN)) (h11 : W (.fld F.MBX_LOCK_STAT_LOCK_BROKEN)) (h12 : W (.fld F.MBX_LOCK_STAT_OWNER)) (h13 : W (.fld F.MBX_STAT_RX_RESET_SEEN)) (h14 : W (.fld F.MBX_STAT_SENDER_RESET_SEEN)) (h15 : W (.fld F.PEER_INT_CAUSE_LINK_CHG)) (h16 : W (.fld F.PEER_INT_CAUSE_STATE_CHG)) (h17 : W (.fld F.PEER_STAT_LINK)) (h18 : W (.fld F.PEER_STAT_PHASE_OK)) (h19 : W (.fld F.PEER_STAT_STATE)) (h20 : W (.fld F.PMC_INT_CAUSE_OVF)) (h21 : W (.fld F.PMC_INT_CAUSE_SMP_AVAIL)) (h22 : W (.fld F.PMC_INT_CAUSE_SMP_DROP)) (h23 : W (.fld F.PMC_OVF_STAT_OVF)) (h24 : W (.fld F.PMC_SMP_DROP_RING)) (h25 : W (.fld F.PMC_SMP_STAT_COUNT)) (h26 : W (.fld F.SYN_INT_CAUSE_QL_CHG)) (h27 : W (.fld F.SYN_REF_STAT_ELIGIBLE)) (h28 : W (.fld F.SYN_REF_STAT_QL_EFF)) (h29 : W (.fld F.SYN_STAT_OUT_QL)) (h30 : W (.fld F.SYN_STAT_SEL_QL)) (h31 : W (.fld H.LTX_OUTPUT)) (h32 : W (.fld H.PEER_MUTE_HELD)) (h33 : W (.fld H.PEER_MUTE_WAS)) (h34 : W (.fld H.PMC_CNT)) (h35 : W (.fld H.PMC_OVF_DUE)) (h36 : W (.fld H.PMC_OVF_T)) (h37 : W (.fld H.PMC_RING)) (h38 : W (.fld H.PMC_TRACE_POS)) (h39 : W (.fld H.SYN_LINE_OK)) (h40 : W (.fld H.SYN_OUT_RUN)) (h41 : W (.fld H.SYN_QL_SENT)) (h : execHeartbeatTmo s = .next t) :
    Moves W s t := by
  unfold execHeartbeatTmo at h
  refine doneMirrored_moves (by assumption) ?_ h
  repeat' (first
    | with_reducible assumption
    | with_reducible exact .refl
    | with_reducible apply Peer_heartbeatTimeout_moves
    | intro _)

theorem execLinkWaitExpiry_moves {W : Part → Prop} {s t : State} (h0 : W .msix) (h1 : W (.fld F.LSR_STAT_HOLD)) (h2 : W (.fld F.LSR_STAT_LASER_EN)) (h3 : W (.fld F.LTX_CTRL_MUTE)) (h4 : W (.fld F.LTX_STAT_MUTE_SRC)) (h5 : W (.fld F.PEER_INT_CAUSE_STATE_CHG)) (h6 : W (.fld F.PEER_STAT_PHASE_OK)) (h7 : W (.fld F.PEER_STAT_STATE)) (h8 : W (.fld H.LTX_OUTPUT)) (h9 : W (.fld H.PEER_MUTE_HELD)) (h10 : W (.fld H.PEER_MUTE_WAS)) (h : execLinkWaitExpiry s = .next t) :
    Moves W s t := by
  unfold execLinkWaitExpiry at h
  refine doneMirrored_moves (by assumption) ?_ h
  repeat' (first
    | with_reducible assumption
    | with_reducible exact .refl
    | with_reducible apply Peer_linkWaitExpiry_moves
    | intro _)

theorem execForceActive_moves {W : Part → Prop} {s t : State} (h0 : W .held) (h1 : W .msix) (h2 : W .qdr) (h3 : W (.fld F.LSR_STAT_HOLD)) (h4 : W (.fld F.LSR_STAT_LASER_EN)) (h5 : W (.fld F.LTX_CTRL_MUTE)) (h6 : W (.fld F.LTX_STAT_MUTE_SRC)) (h7 : W (.fld F.PEER_INT_CAUSE_MIRRORED)) (h8 : W (.fld F.PEER_INT_CAUSE_STATE_CHG)) (h9 : W (.fld F.PEER_STAT_PHASE_OK)) (h10 : W (.fld F.PEER_STAT_STATE)) (h11 : W (.fld F.PMC_INT_CAUSE_OVF)) (h12 : W (.fld F.PMC_INT_CAUSE_SMP_AVAIL)) (h13 : W (.fld F.PMC_INT_CAUSE_SMP_DROP)) (h14 : W (.fld F.PMC_OVF_STAT_OVF)) (h15 : W (.fld F.PMC_SMP_DROP_RING)) (h16 : W (.fld F.PMC_SMP_STAT_COUNT)) (h17 : W (.fld H.LTX_OUTPUT)) (h18 : W (.fld H.PEER_MUTE_HELD)) (h19 : W (.fld H.PEER_MUTE_WAS)) (h20 : W (.fld H.PMC_CNT)) (h21 : W (.fld H.PMC_OVF_DUE)) (h22 : W (.fld H.PMC_OVF_T)) (h23 : W (.fld H.PMC_RING)) (h24 : W (.fld H.PMC_TRACE_POS)) (h : execForceActive s = .next t) :
    Moves W s t := by
  unfold execForceActive at h
  refine doneMirrored_moves (by assumption) ?_ h
  repeat' (first
    | with_reducible assumption
    | with_reducible exact .refl
    | (with_reducible refine Bus_row_other (by assumption) (by assumption) (by assumption) (by assumption) (by assumption) (by assumption) (by assumption) (by assumption) (by assumption) (by assumption) (by assumption) (by assumption) (by assumption) (by assumption) _ _ _ _ _ (by decide) ?_ ?_)
    | with_reducible apply Peer_forceActive_moves
    | intro _)

theorem execSyncDone_moves {W : Part → Prop} {s t : State} (h0 : W .msix) (h1 : W (.fld F.LSR_STAT_HOLD)) (h2 : W (.fld F.LSR_STAT_LASER_EN)) (h3 : W (.fld F.LTX_CTRL_MUTE)) (h4 : W (.fld F.LTX_STAT_MUTE_SRC)) (h5 : W (.fld F.PEER_INT_CAUSE_STATE_CHG)) (h6 : W (.fld F.PEER_INT_CAUSE_SYNC_DONE)) (h7 : W (.fld F.PEER_STAT_PHASE_OK)) (h8 : W (.fld F.PEER_STAT_STATE)) (h9 : W (.fld H.LTX_OUTPUT)) (h10 : W (.fld H.PEER_MUTE_HELD)) (h11 : W (.fld H.PEER_MUTE_WAS)) (h12 : W (.fld H.PEER_PARTNER)) (h : execSyncDone s = .next t) :
    Moves W s t := by
  unfold execSyncDone at h
  refine doneMirrored_moves (by assumption) ?_ h
  repeat' (first
    | with_reducible assumption
    | with_reducible exact .refl
    | with_reducible apply Peer_syncDone_moves
    | intro _)

theorem execMirrorRecord_moves {W : Part → Prop} {s t : State} (hw : ∀ x, W x) (a0 : Nat) (a1 : List Nat) (a2 : Nat) (h : execMirrorRecord a0 a1 s a2 = .next t) :
    Moves W s t := by
  unfold execMirrorRecord at h
  refine done_moves (hw _) ?_ h
  repeat' (first
    | with_reducible assumption
    | with_reducible exact .refl
    | exact hw _
    | with_reducible apply Peer_record_moves
    | intro _)

theorem execSwitch_moves {W : Part → Prop} {s t : State} (h0 : W .held) (h1 : W .msix) (h2 : W .qdr) (h3 : W (.fld F.LSR_STAT_HOLD)) (h4 : W (.fld F.LSR_STAT_LASER_EN)) (h5 : W (.fld F.LTX_CTRL_MUTE)) (h6 : W (.fld F.LTX_STAT_MUTE_SRC)) (h7 : W (.fld F.PEER_INT_CAUSE_MIRRORED)) (h8 : W (.fld F.PEER_INT_CAUSE_STATE_CHG)) (h9 : W (.fld F.PEER_INT_CAUSE_SWITCH_REFUSED)) (h10 : W (.fld F.PEER_STAT_PHASE_OK)) (h11 : W (.fld F.PEER_STAT_STATE)) (h12 : W (.fld F.PMC_INT_CAUSE_OVF)) (h13 : W (.fld F.PMC_INT_CAUSE_SMP_AVAIL)) (h14 : W (.fld F.PMC_INT_CAUSE_SMP_DROP)) (h15 : W (.fld F.PMC_OVF_STAT_OVF)) (h16 : W (.fld F.PMC_SMP_DROP_RING)) (h17 : W (.fld F.PMC_SMP_STAT_COUNT)) (h18 : W (.fld H.LTX_OUTPUT)) (h19 : W (.fld H.PEER_MUTE_HELD)) (h20 : W (.fld H.PEER_MUTE_WAS)) (h21 : W (.fld H.PEER_PARTNER)) (h22 : W (.fld H.PMC_CNT)) (h23 : W (.fld H.PMC_OVF_DUE)) (h24 : W (.fld H.PMC_OVF_T)) (h25 : W (.fld H.PMC_RING)) (h26 : W (.fld H.PMC_TRACE_POS)) (a0 : Bool) (h : execSwitch a0 s = .next t) :
    Moves W s t := by
  unfold execSwitch at h
  refine doneMirrored_moves (by assumption) ?_ h
  repeat' (first
    | with_reducible assumption
    | with_reducible exact .refl
    | (with_reducible refine Bus_row_other (by assumption) (by assumption) (by assumption) (by assumption) (by assumption) (by assumption) (by assumption) (by assumption) (by assumption) (by assumption) (by assumption) (by assumption) (by assumption) (by assumption) _ _ _ _ _ (by decide) ?_ ?_)
    | with_reducible apply Peer_switch_moves
    | intro _
    | split)

theorem execActiveFault_moves {W : Part → Prop} {s t : State} (h0 : W .msix) (h1 : W (.fld F.LSR_STAT_HOLD)) (h2 : W (.fld F.LSR_STAT_LASER_EN)) (h3 : W (.fld F.LTX_CTRL_MUTE)) (h4 : W (.fld F.LTX_STAT_MUTE_SRC)) (h5 : W (.fld F.PEER_INT_CAUSE_STATE_CHG)) (h6 : W (.fld F.PEER_STAT_PHASE_OK)) (h7 : W (.fld F.PEER_STAT_STATE)) (h8 : W (.fld H.LTX_OUTPUT)) (h9 : W (.fld H.PEER_MUTE_HELD)) (h10 : W (.fld H.PEER_MUTE_WAS)) (h11 : W (.fld H.PEER_PARTNER)) (a0 : Nat) (h : execActiveFault a0 s = .next t) :
    Moves W s t := by
  unfold execActiveFault at h
  refine doneMirrored_moves (by assumption) ?_ h
  repeat' (first
    | with_reducible assumption
    | with_reducible exact .refl
    | with_reducible apply Peer_activeFault_moves
    | intro _)

theorem execPartnerLost_moves {W : Part → Prop} {s t : State} (h0 : W .msix) (h1 : W .vlk) (h2 : W (.arr H.FRM_WIN_ON)) (h3 : W (.fld F.CRY_INT_CAUSE_GUARD_JUMP)) (h4 : W (.fld F.LSR_STAT_HOLD)) (h5 : W (.fld F.LSR_STAT_LASER_EN)) (h6 : W (.fld F.LTX_CTRL_MUTE)) (h7 : W (.fld F.LTX_STAT_MUTE_SRC)) (h8 : W (.fld F.PEER_INT_CAUSE_STATE_CHG)) (h9 : W (.fld F.PEER_INT_CAUSE_TAKEOVER)) (h10 : W (.fld F.PEER_STAT_LAST_TRIG)) (h11 : W (.fld F.PEER_STAT_PHASE_OK)) (h12 : W (.fld F.PEER_STAT_STATE)) (h13 : W (.fld F.PEER_TAKE_CNT_COUNT)) (h14 : W (.fld F.SCM_CHG_STAT_DS_STATE)) (h15 : W (.fld F.SCM_CHG_STAT_US_STATE)) (h16 : W (.fld F.SCM_GRANT_STAT_STATE)) (h17 : W (.fld F.SCM_INT_CAUSE_CHG_FAIL)) (h18 : W (.fld F.SCM_NAK_MAP_LEAF)) (h19 : W (.fld F.VLK_INT_CAUSE_GRANT_FAIL)) (h20 : W (.fld H.CRY_NEXT)) (h21 : W (.fld H.FLW_LOST_HELD)) (h22 : W (.fld H.LTX_OUTPUT)) (h23 : W (.fld H.PEER_MUTE_HELD)) (h24 : W (.fld H.PEER_MUTE_WAS)) (h25 : W (.fld H.PEER_SETTLING)) (h26 : W (.fld H.SCM_ACKED)) (h27 : W (.fld H.SCM_ADDRESSED)) (h28 : W (.fld H.SCM_GRANT_ACKED)) (h29 : W (.fld H.SCM_GRANT_ADDR)) (h30 : W (.fld H.VLK_SEQ)) (a0 : Nat) (h : execPartnerLost a0 s = .next t) :
    Moves W s t := by
  unfold execPartnerLost at h
  refine doneMirrored_moves (by assumption) ?_ h
  repeat' (first
    | with_reducible assumption
    | with_reducible exact .refl
    | with_reducible apply Peer_partnerLost_moves
    | intro _)

theorem execHandover_moves {W : Part → Prop} {s t : State} (h0 : W .msix) (h1 : W .vlk) (h2 : W (.arr H.FRM_WIN_ON)) (h3 : W (.fld F.CRY_INT_CAUSE_GUARD_JUMP)) (h4 : W (.fld F.LSR_STAT_HOLD)) (h5 : W (.fld F.LSR_STAT_LASER_EN)) (h6 : W (.fld F.LTX_CTRL_MUTE)) (h7 : W (.fld F.LTX_STAT_MUTE_SRC)) (h8 : W (.fld F.PEER_INT_CAUSE_STATE_CHG)) (h9 : W (.fld F.PEER_INT_CAUSE_TAKEOVER)) (h10 : W (.fld F.PEER_STAT_LAST_TRIG)) (h11 : W (.fld F.PEER_STAT_PHASE_OK)) (h12 : W (.fld F.PEER_STAT_STATE)) (h13 : W (.fld F.PEER_TAKE_CNT_COUNT)) (h14 : W (.fld F.SCM_CHG_STAT_DS_STATE)) (h15 : W (.fld F.SCM_CHG_STAT_US_STATE)) (h16 : W (.fld F.SCM_GRANT_STAT_STATE)) (h17 : W (.fld F.SCM_INT_CAUSE_CHG_FAIL)) (h18 : W (.fld F.SCM_NAK_MAP_LEAF)) (h19 : W (.fld F.VLK_INT_CAUSE_GRANT_FAIL)) (h20 : W (.fld H.CRY_NEXT)) (h21 : W (.fld H.FLW_LOST_HELD)) (h22 : W (.fld H.LTX_OUTPUT)) (h23 : W (.fld H.PEER_MUTE_HELD)) (h24 : W (.fld H.PEER_MUTE_WAS)) (h25 : W (.fld H.PEER_PARTNER)) (h26 : W (.fld H.PEER_SETTLING)) (h27 : W (.fld H.SCM_ACKED)) (h28 : W (.fld H.SCM_ADDRESSED)) (h29 : W (.fld H.SCM_GRANT_ACKED)) (h30 : W (.fld H.SCM_GRANT_ADDR)) (h31 : W (.fld H.VLK_SEQ)) (a0 : Nat) (h : execHandover a0 s = .next t) :
    Moves W s t := by
  unfold execHandover at h
  refine doneMirrored_moves (by assumption) ?_ h
  repeat' (first
    | with_reducible assumption
    | with_reducible exact .refl
    | with_reducible apply Peer_handover_moves
    | intro _)

theorem execLaserSettled_moves {W : Part → Prop} {s t : State} (h0 : W .msix) (h1 : W (.fld F.LSR_STAT_HOLD)) (h2 : W (.fld F.LSR_STAT_LASER_EN)) (h3 : W (.fld F.LTX_CTRL_MUTE)) (h4 : W (.fld F.LTX_STAT_MUTE_SRC)) (h5 : W (.fld F.PEER_INT_CAUSE_STATE_CHG)) (h6 : W (.fld F.PEER_STAT_PHASE_OK)) (h7 : W (.fld F.PEER_STAT_STATE)) (h8 : W (.fld H.LTX_OUTPUT)) (h9 : W (.fld H.PEER_MUTE_HELD)) (h10 : W (.fld H.PEER_MUTE_WAS)) (h11 : W (.fld H.PEER_SETTLING)) (h : execLaserSettled s = .next t) :
    Moves W s t := by
  unfold execLaserSettled at h
  refine doneMirrored_moves (by assumption) ?_ h
  repeat' (first
    | with_reducible assumption
    | with_reducible exact .refl
    | with_reducible apply Peer_laserSettled_moves
    | intro _)

theorem execEqdMeasure_moves {W : Part → Prop} {s t : State} (h0 : W .msix) (h1 : W .vlk) (h2 : W (.fld F.PEER_EQD_MEAS_EQD)) (h3 : W (.fld F.PEER_EQD_MEAS_VALID)) (h4 : W (.fld F.PEER_INT_CAUSE_EQD_UPD)) (h5 : W (.fld F.VLK_LEAF_EQD_EQD)) (h6 : W (.fld F.VLK_LEAF_EQD_VALID)) (h7 : W (.fld H.VLK_SEQ)) (a0 : Nat) (a1 : Int) (a2 : Nat) (h : execEqdMeasure a0 a1 a2 s = .next t) :
    Moves W s t := by
  unfold execEqdMeasure at h
  refine doneMirrored_moves (by assumption) ?_ h
  repeat' (first
    | with_reducible assumption
    | with_reducible exact .refl
    | with_reducible apply Peer_eqdMeasure_moves
    | intro _)

end Sys2Proof.Laws
end

