-- ==== Sys2Proof/Laws/MovesExecPwr.lean ====
section
/-! SUPPORT. Sys2Proof/Laws/MovesExecPwr.lean: what each command of Machine/ExecPwr.lean may write (Laws/Moves.lean). -/
namespace Sys2Proof.Laws
open Sys2Proof Sys2Proof.Machine

theorem execPowerOnReset_moves {W : Part → Prop} {s t : State} (hw : ∀ x, W x) (a0 : Nat) (h : execPowerOnReset a0 s = .next t) :
    Moves W s t := by
  unfold execPowerOnReset at h
  refine done_moves (hw _) ?_ h
  repeat' (first
    | with_reducible assumption
    | with_reducible exact .refl
    | exact hw _
    | with_reducible apply Reset_powerOn_moves
    | intro _)

theorem execRailDrop_moves {W : Part → Prop} {s t : State} (hw : ∀ x, W x) (a0 : Nat) (h : execRailDrop a0 s = .next t) :
    Moves W s t := by
  unfold execRailDrop at h
  refine done_moves (hw _) ?_ h
  repeat' (first
    | with_reducible assumption
    | with_reducible exact .refl
    | exact hw _
    | with_reducible apply Reset_powerOn_moves
    | intro _
    | split)

theorem execRailWarn_moves {W : Part → Prop} {s t : State} (h0 : W .msix) (h1 : W (.fld F.PWR_INT_CAUSE_RAIL_WARN)) (h2 : W (.fld F.PWR_RAIL_STAT_WARN)) (a0 : Nat) (h : execRailWarn a0 s = .next t) :
    Moves W s t := by
  unfold execRailWarn at h
  refine done_moves (by assumption) ?_ h
  repeat' (first
    | with_reducible assumption
    | with_reducible exact .refl
    | with_reducible apply Reset_railWarn_moves
    | intro _)

theorem execResetRelease_moves {W : Part → Prop} {s t : State} (h0 : W .msix) (h1 : W (.fld F.PWR_RAIL_STAT_GOOD)) (h2 : W (.fld H.SYS_HELD)) (h : execResetRelease s = .next t) :
    Moves W s t := by
  unfold execResetRelease at h
  refine done_moves (by assumption) ?_ h
  repeat' (first
    | with_reducible assumption
    | with_reducible exact .refl
    | with_reducible apply Reset_release_moves
    | intro _)

theorem execResetN_moves {W : Part → Prop} {s t : State} (hw : ∀ x, W x) (h : execResetN s = .next t) :
    Moves W s t := by
  unfold execResetN at h
  refine done_moves (hw _) ?_ h
  repeat' (first
    | with_reducible assumption
    | with_reducible exact .refl
    | exact hw _
    | with_reducible apply Reset_resetN_moves
    | intro _)

theorem execPerst_moves {W : Part → Prop} {s t : State} (hw : ∀ x, W x) (h : execPerst s = .next t) :
    Moves W s t := by
  unfold execPerst at h
  refine done_moves (hw _) ?_ h
  repeat' (first
    | with_reducible assumption
    | with_reducible exact .refl
    | exact hw _
    | with_reducible apply Reset_perst_moves
    | intro _)

theorem execWarmReset_moves {W : Part → Prop} {s t : State} (hw : ∀ x, W x) (a0 : Nat) (h : execWarmReset a0 s = .next t) :
    Moves W s t := by
  unfold execWarmReset at h
  refine done_moves (hw _) ?_ h
  repeat' (first
    | with_reducible assumption
    | with_reducible exact .refl
    | exact hw _
    | with_reducible apply Reset_write_moves
    | intro _)

theorem execImageLoadingReset_moves {W : Part → Prop} {s t : State} (hw : ∀ x, W x) (h : execImageLoadingReset s = .next t) :
    Moves W s t := by
  unfold execImageLoadingReset at h
  refine done_moves (hw _) ?_ h
  repeat' (first
    | with_reducible assumption
    | with_reducible exact .refl
    | exact hw _
    | with_reducible apply Reset_image_moves
    | intro _)

theorem execSoftReset_moves {W : Part → Prop} {s t : State} (hw : ∀ x, W x) (a0 : Nat) (h : execSoftReset a0 s = .next t) :
    Moves W s t := by
  unfold execSoftReset at h
  refine doneMirrored_moves (hw _) ?_ h
  repeat' (first
    | with_reducible assumption
    | with_reducible exact .refl
    | exact hw _
    | (with_reducible refine Bus_row_other (hw _) (hw _) (hw _) (hw _) (hw _) (hw _) (hw _) (hw _) (hw _) (hw _) (hw _) (hw _) (hw _) (hw _) _ _ _ _ _ (by decide) ?_ ?_)
    | with_reducible apply Sys_softResets_moves
    | intro _)

theorem execSoftResetDone_moves {W : Part → Prop} {s t : State} (hw : ∀ x, W x) (a0 : Nat) (h : execSoftResetDone a0 s = .next t) :
    Moves W s t := by
  unfold execSoftResetDone at h
  refine doneMirrored_moves (hw _) ?_ h
  repeat' (first
    | with_reducible assumption
    | with_reducible exact .refl
    | exact hw _
    | with_reducible apply Bus_softResetDone_moves
    | intro _)

theorem execBoot_moves {W : Part → Prop} {s t : State} (hw : ∀ x, W x) (a0 : Nat) (h : execBoot a0 s = .next t) :
    Moves W s t := by
  unfold execBoot at h
  refine done_moves (hw _) ?_ h
  repeat' (first
    | with_reducible assumption
    | with_reducible exact .refl
    | exact hw _
    | with_reducible apply Boot_boot_moves
    | intro _)

theorem execAvsSet_moves {W : Part → Prop} {s t : State} (h0 : W .held) (h1 : W .msix) (h2 : W .qdr) (h3 : W (.fld F.PEER_INT_CAUSE_MIRRORED)) (h4 : W (.fld F.PMC_INT_CAUSE_OVF)) (h5 : W (.fld F.PMC_INT_CAUSE_SMP_AVAIL)) (h6 : W (.fld F.PMC_INT_CAUSE_SMP_DROP)) (h7 : W (.fld F.PMC_OVF_STAT_OVF)) (h8 : W (.fld F.PMC_SMP_DROP_RING)) (h9 : W (.fld F.PMC_SMP_STAT_COUNT)) (h10 : W (.fld F.PWR_AVS_READ_BUSY)) (h11 : W (.fld F.PWR_AVS_SET_MV)) (h12 : W (.fld F.PWR_INT_CAUSE_AVS_REFUSED)) (h13 : W (.fld F.PWR_VMIN_VREQ_MV)) (h14 : W (.fld H.PMC_CNT)) (h15 : W (.fld H.PMC_OVF_DUE)) (h16 : W (.fld H.PMC_OVF_T)) (h17 : W (.fld H.PMC_RING)) (h18 : W (.fld H.PMC_TRACE_POS)) (h19 : W (.fld H.PWR_TARGET)) (h20 : W (.fld H.PWR_VMIN_ASKED)) (a0 : Nat) (h : execAvsSet a0 s = .next t) :
    Moves W s t := by
  unfold execAvsSet at h
  refine done_moves (by assumption) ?_ h
  repeat' (first
    | with_reducible assumption
    | with_reducible exact .refl
    | (with_reducible refine Bus_row_other (by assumption) (by assumption) (by assumption) (by assumption) (by assumption) (by assumption) (by assumption) (by assumption) (by assumption) (by assumption) (by assumption) (by assumption) (by assumption) (by assumption) _ _ _ _ _ (by decide) ?_ ?_)
    | with_reducible apply Pwr_writeAvsSet_moves
    | intro _)

theorem execAvsPoll_moves {W : Part → Prop} {s t : State} (h0 : W .msix) (h1 : W .qdr) (h2 : W (.fld F.LRX_INT_CAUSE_TRACK)) (h3 : W (.fld F.LRX_INT_CAUSE_TRACK_LOST)) (h4 : W (.fld F.LRX_SC_STAT_LOCK)) (h5 : W (.fld F.LRX_STAT_STATE)) (h6 : W (.fld F.PMC_INT_CAUSE_OVF)) (h7 : W (.fld F.PMC_INT_CAUSE_SMP_AVAIL)) (h8 : W (.fld F.PMC_INT_CAUSE_SMP_DROP)) (h9 : W (.fld F.PMC_OVF_STAT_OVF)) (h10 : W (.fld F.PMC_SMP_DROP_RING)) (h11 : W (.fld F.PMC_SMP_STAT_COUNT)) (h12 : W (.fld F.PWR_AVS_READ_BUSY)) (h13 : W (.fld F.PWR_AVS_READ_MV)) (h14 : W (.fld F.PWR_INT_CAUSE_SLACK)) (h15 : W (.fld F.PWR_REST_STAT_WAKE_HELD)) (h16 : W (.fld F.PWR_SAFE_STAT_AVS_CEILING)) (h17 : W (.fld F.PWR_VMIN_VREQ_MV)) (h18 : W (.fld H.LRX_LLR_HOLD)) (h19 : W (.fld H.LRX_QUAD)) (h20 : W (.fld H.LRX_TAPS)) (h21 : W (.fld H.LRX_WIN_LOCK)) (h22 : W (.fld H.PMC_CNT)) (h23 : W (.fld H.PMC_OVF_DUE)) (h24 : W (.fld H.PMC_OVF_T)) (h25 : W (.fld H.PMC_RING)) (h26 : W (.fld H.PMC_TRACE_POS)) (h27 : W (.fld H.PWR_HOLD_RX)) (h28 : W (.fld H.PWR_HOLD_TX)) (h29 : W (.fld H.PWR_TARGET)) (h30 : W (.fld H.PWR_VMIN_ASKED)) (h31 : W (.fld H.PWR_VMIN_FAILED)) (h32 : W (.fld H.PWR_VMIN_WAITS)) (a0 : Nat) (h : execAvsPoll a0 s = .next t) :
    Moves W s t := by
  unfold execAvsPoll at h
  refine done_moves (by assumption) ?_ h
  repeat' (first
    | with_reducible assumption
    | with_reducible exact .refl
    | with_reducible apply Lrx_leavePrefill_moves
    | with_reducible apply Pwr_poll_moves
    | intro _)

theorem execAvsAck_moves {W : Part → Prop} {s t : State} (h0 : W .msix) (h1 : W .qdr) (h2 : W (.fld F.LRX_INT_CAUSE_TRACK)) (h3 : W (.fld F.LRX_INT_CAUSE_TRACK_LOST)) (h4 : W (.fld F.LRX_SC_STAT_LOCK)) (h5 : W (.fld F.LRX_STAT_STATE)) (h6 : W (.fld F.PMC_INT_CAUSE_OVF)) (h7 : W (.fld F.PMC_INT_CAUSE_SMP_AVAIL)) (h8 : W (.fld F.PMC_INT_CAUSE_SMP_DROP)) (h9 : W (.fld F.PMC_OVF_STAT_OVF)) (h10 : W (.fld F.PMC_SMP_DROP_RING)) (h11 : W (.fld F.PMC_SMP_STAT_COUNT)) (h12 : W (.fld F.PWR_AVS_READ_BUSY)) (h13 : W (.fld F.PWR_AVS_READ_MV)) (h14 : W (.fld F.PWR_INT_CAUSE_SLACK)) (h15 : W (.fld F.PWR_REST_STAT_WAKE_HELD)) (h16 : W (.fld F.PWR_SAFE_STAT_AVS_CEILING)) (h17 : W (.fld F.PWR_VMIN_VREQ_MV)) (h18 : W (.fld H.LRX_LLR_HOLD)) (h19 : W (.fld H.LRX_QUAD)) (h20 : W (.fld H.LRX_TAPS)) (h21 : W (.fld H.LRX_WIN_LOCK)) (h22 : W (.fld H.PMC_CNT)) (h23 : W (.fld H.PMC_OVF_DUE)) (h24 : W (.fld H.PMC_OVF_T)) (h25 : W (.fld H.PMC_RING)) (h26 : W (.fld H.PMC_TRACE_POS)) (h27 : W (.fld H.PWR_HOLD_RX)) (h28 : W (.fld H.PWR_HOLD_TX)) (h29 : W (.fld H.PWR_TARGET)) (h30 : W (.fld H.PWR_VMIN_ASKED)) (h31 : W (.fld H.PWR_VMIN_FAILED)) (h32 : W (.fld H.PWR_VMIN_WAITS)) (a0 : Nat) (h : execAvsAck a0 s = .next t) :
    Moves W s t := by
  unfold execAvsAck at h
  refine done_moves (by assumption) ?_ h
  repeat' (first
    | with_reducible assumption
    | with_reducible exact .refl
    | with_reducible apply Lrx_leavePrefill_moves
    | with_reducible apply Pwr_poll_moves
    | intro _)

theorem execAvsTimeout_moves {W : Part → Prop} {s t : State} (h0 : W .msix) (h1 : W (.fld F.PWR_AVS_READ_BUSY)) (h2 : W (.fld F.PWR_INT_CAUSE_SLACK)) (h3 : W (.fld F.PWR_INT_CAUSE_WAKE_HELD)) (h4 : W (.fld F.PWR_REST_STAT_WAKE_HELD)) (h5 : W (.fld F.PWR_SAFE_STAT_AVS_FAIL)) (h6 : W (.fld F.PWR_VMIN_VREQ_MV)) (h7 : W (.fld H.PWR_TARGET)) (h8 : W (.fld H.PWR_VMIN_ASKED)) (h9 : W (.fld H.PWR_VMIN_FAILED)) (h10 : W (.fld H.PWR_VMIN_WAITS)) (h : execAvsTimeout s = .next t) :
    Moves W s t := by
  unfold execAvsTimeout at h
  refine done_moves (by assumption) ?_ h
  repeat' (first
    | with_reducible assumption
    | with_reducible exact .refl
    | with_reducible apply Pwr_timeout_moves
    | intro _)

theorem execPmbCmd_moves {W : Part → Prop} {s t : State} (h0 : W .held) (h1 : W .msix) (h2 : W .qdr) (h3 : W (.fld F.PEER_INT_CAUSE_MIRRORED)) (h4 : W (.fld F.PMC_INT_CAUSE_OVF)) (h5 : W (.fld F.PMC_INT_CAUSE_SMP_AVAIL)) (h6 : W (.fld F.PMC_INT_CAUSE_SMP_DROP)) (h7 : W (.fld F.PMC_OVF_STAT_OVF)) (h8 : W (.fld F.PMC_SMP_DROP_RING)) (h9 : W (.fld F.PMC_SMP_STAT_COUNT)) (h10 : W (.fld F.PWR_PMB_CMD_ADDR)) (h11 : W (.fld F.PWR_PMB_CMD_CODE)) (h12 : W (.fld F.PWR_PMB_CMD_GO)) (h13 : W (.fld F.PWR_PMB_CMD_READ)) (h14 : W (.fld H.PMC_CNT)) (h15 : W (.fld H.PMC_OVF_DUE)) (h16 : W (.fld H.PMC_OVF_T)) (h17 : W (.fld H.PMC_RING)) (h18 : W (.fld H.PMC_TRACE_POS)) (a0 : Nat) (h : execPmbCmd a0 s = .next t) :
    Moves W s t := by
  unfold execPmbCmd at h
  refine done_moves (by assumption) ?_ h
  repeat' (first
    | with_reducible assumption
    | with_reducible exact .refl
    | (with_reducible refine Bus_row_other (by assumption) (by assumption) (by assumption) (by assumption) (by assumption) (by assumption) (by assumption) (by assumption) (by assumption) (by assumption) (by assumption) (by assumption) (by assumption) (by assumption) _ _ _ _ _ (by decide) ?_ ?_)
    | with_reducible apply Pwr_writePmbCmd_moves
    | intro _)

theorem execPmbCmdDone_moves {W : Part → Prop} {s t : State} (h0 : W .msix) (h1 : W (.fld F.PWR_PMB_CMD_GO)) (h2 : W (.fld F.PWR_PMB_DATA_DATA)) (h3 : W (.fld F.PWR_PMB_DATA_NACK)) (a0 : Nat) (a1 : Nat) (h : execPmbCmdDone a0 a1 s = .next t) :
    Moves W s t := by
  unfold execPmbCmdDone at h
  refine done_moves (by assumption) ?_ h
  repeat' (first
    | with_reducible assumption
    | with_reducible exact .refl
    | with_reducible apply Pwr_pmbDone_moves
    | intro _)

theorem execRestEnter_moves {W : Part → Prop} {s t : State} (h0 : W .held) (h1 : W .msix) (h2 : W .qdr) (h3 : W (.fld F.LTX_STAT_MUTE_SRC)) (h4 : W (.fld F.PEER_INT_CAUSE_MIRRORED)) (h5 : W (.fld F.PMC_INT_CAUSE_OVF)) (h6 : W (.fld F.PMC_INT_CAUSE_SMP_AVAIL)) (h7 : W (.fld F.PMC_INT_CAUSE_SMP_DROP)) (h8 : W (.fld F.PMC_OVF_STAT_OVF)) (h9 : W (.fld F.PMC_SMP_DROP_RING)) (h10 : W (.fld F.PMC_SMP_STAT_COUNT)) (h11 : W (.fld F.PWR_INT_CAUSE_REST_REFUSED)) (h12 : W (.fld F.PWR_REST_STAT_ERR)) (h13 : W (.fld F.PWR_REST_STAT_STATE)) (h14 : W (.fld H.HSL_OUT)) (h15 : W (.fld H.LTX_OUTPUT)) (h16 : W (.fld H.PMC_CNT)) (h17 : W (.fld H.PMC_OVF_DUE)) (h18 : W (.fld H.PMC_OVF_T)) (h19 : W (.fld H.PMC_RING)) (h20 : W (.fld H.PMC_TRACE_POS)) (h21 : W (.fld H.PWR_WAKE_PEND)) (h : execRestEnter s = .next t) :
    Moves W s t := by
  unfold execRestEnter at h
  refine done_moves (by assumption) ?_ h
  repeat' (first
    | with_reducible assumption
    | with_reducible exact .refl
    | (with_reducible refine Bus_row_other (by assumption) (by assumption) (by assumption) (by assumption) (by assumption) (by assumption) (by assumption) (by assumption) (by assumption) (by assumption) (by assumption) (by assumption) (by assumption) (by assumption) _ _ _ _ _ (by decide) ?_ ?_)
    | with_reducible apply Rest_enter_moves
    | intro _)

theorem execRestEntryDone_moves {W : Part → Prop} {s t : State} (h0 : W .msix) (h1 : W .syn) (h2 : W (.arr H.HSL_OUT)) (h3 : W (.fld F.PWR_AVS_READ_BUSY)) (h4 : W (.fld F.PWR_INT_CAUSE_REST_ENTERED)) (h5 : W (.fld F.PWR_REST_STAT_STATE)) (h6 : W (.fld F.PWR_SLACK_LVL_NOW)) (h7 : W (.fld F.PWR_VMIN_VREQ_MV)) (h8 : W (.fld F.SYN_INT_CAUSE_LOOP_CHG)) (h9 : W (.fld F.SYN_INT_CAUSE_QL_CHG)) (h10 : W (.fld F.SYN_REF_STAT_ELIGIBLE)) (h11 : W (.fld F.SYN_REF_STAT_QL_EFF)) (h12 : W (.fld F.SYN_REF_STAT_WTR_LEFT)) (h13 : W (.fld F.SYN_STAT_LOOP)) (h14 : W (.fld F.SYN_STAT_OUT_QL)) (h15 : W (.fld F.SYN_STAT_SEL_QL)) (h16 : W (.fld H.PWR_ARMED)) (h17 : W (.fld H.PWR_LOW)) (h18 : W (.fld H.PWR_PREFILLED)) (h19 : W (.fld H.PWR_QDR_RET)) (h20 : W (.fld H.PWR_TARGET)) (h21 : W (.fld H.PWR_VMIN_ASKED)) (h22 : W (.fld H.PWR_VMIN_FAILED)) (h23 : W (.fld H.PWR_VMIN_WAITS)) (h24 : W (.fld H.PWR_WAKE_PEND)) (h25 : W (.fld H.SYN_GOOD)) (h26 : W (.fld H.SYN_LINE_OK)) (h27 : W (.fld H.SYN_LOCK_FULL)) (h28 : W (.fld H.SYN_OUT_RUN)) (h29 : W (.fld H.SYN_QL_SENT)) (h : execRestEntryDone s = .next t) :
    Moves W s t := by
  unfold execRestEntryDone at h
  refine doneMirrored_moves (by assumption) ?_ h
  repeat' (first
    | with_reducible assumption
    | with_reducible exact .refl
    | with_reducible apply Sys_restEntryDone_moves
    | intro _)

theorem execRestWake_moves {W : Part → Prop} {s t : State} (h0 : W .held) (h1 : W .msix) (h2 : W .qdr) (h3 : W (.fld F.PEER_INT_CAUSE_MIRRORED)) (h4 : W (.fld F.PMC_INT_CAUSE_OVF)) (h5 : W (.fld F.PMC_INT_CAUSE_SMP_AVAIL)) (h6 : W (.fld F.PMC_INT_CAUSE_SMP_DROP)) (h7 : W (.fld F.PMC_OVF_STAT_OVF)) (h8 : W (.fld F.PMC_SMP_DROP_RING)) (h9 : W (.fld F.PMC_SMP_STAT_COUNT)) (h10 : W (.fld F.PWR_AVS_READ_BUSY)) (h11 : W (.fld F.PWR_REST_STAT_STATE)) (h12 : W (.fld F.PWR_VMIN_VREQ_MV)) (h13 : W (.fld H.PMC_CNT)) (h14 : W (.fld H.PMC_OVF_DUE)) (h15 : W (.fld H.PMC_OVF_T)) (h16 : W (.fld H.PMC_RING)) (h17 : W (.fld H.PMC_TRACE_POS)) (h18 : W (.fld H.PWR_TARGET)) (h19 : W (.fld H.PWR_VMIN_ASKED)) (h20 : W (.fld H.PWR_VMIN_FAILED)) (h21 : W (.fld H.PWR_VMIN_WAITS)) (h22 : W (.fld H.PWR_WAKE_PEND)) (a0 : Nat) (h : execRestWake a0 s = .next t) :
    Moves W s t := by
  unfold execRestWake at h
  refine done_moves (by assumption) ?_ h
  repeat' (first
    | with_reducible assumption
    | with_reducible exact .refl
    | (with_reducible refine Bus_row_other (by assumption) (by assumption) (by assumption) (by assumption) (by assumption) (by assumption) (by assumption) (by assumption) (by assumption) (by assumption) (by assumption) (by assumption) (by assumption) (by assumption) _ _ _ _ _ (by decide) ?_ ?_)
    | with_reducible apply Sys_restWake_moves
    | intro _
    | split)

theorem execRestExitDone_moves {W : Part → Prop} {s t : State} (hw : ∀ x, W x) (a0 : Nat) (a1 : List (List Nat)) (h : execRestExitDone a0 a1 s = .next t) :
    Moves W s t := by
  unfold execRestExitDone at h
  refine doneMirrored_moves (hw _) ?_ h
  repeat' (first
    | with_reducible assumption
    | with_reducible exact .refl
    | exact hw _
    | with_reducible apply Bus_restExitDone_moves
    | intro _)

theorem execFlRead_moves {W : Part → Prop} {s t : State} (h0 : W .flash) (h1 : W .held) (h2 : W .msix) (h3 : W .qdr) (h4 : W (.fld F.BOOT_FL_CMD_GO)) (h5 : W (.fld F.BOOT_FL_CMD_LEN)) (h6 : W (.fld F.BOOT_FL_CMD_OP)) (h7 : W (.fld F.BOOT_FL_DATA_DATA)) (h8 : W (.fld F.BOOT_FL_STAT_BUSY)) (h9 : W (.fld F.BOOT_FL_STAT_ERR)) (h10 : W (.fld F.PEER_INT_CAUSE_MIRRORED)) (h11 : W (.fld F.PMC_INT_CAUSE_OVF)) (h12 : W (.fld F.PMC_INT_CAUSE_SMP_AVAIL)) (h13 : W (.fld F.PMC_INT_CAUSE_SMP_DROP)) (h14 : W (.fld F.PMC_OVF_STAT_OVF)) (h15 : W (.fld F.PMC_SMP_DROP_RING)) (h16 : W (.fld F.PMC_SMP_STAT_COUNT)) (h17 : W (.fld H.PMC_CNT)) (h18 : W (.fld H.PMC_OVF_DUE)) (h19 : W (.fld H.PMC_OVF_T)) (h20 : W (.fld H.PMC_RING)) (h21 : W (.fld H.PMC_TRACE_POS)) (a0 : Nat) (h : execFlRead a0 s = .next t) :
    Moves W s t := by
  unfold execFlRead at h
  refine done_moves (by assumption) ?_ h
  repeat' (first
    | with_reducible assumption
    | with_reducible exact .refl
    | (with_reducible refine Bus_row_other (by assumption) (by assumption) (by assumption) (by assumption) (by assumption) (by assumption) (by assumption) (by assumption) (by assumption) (by assumption) (by assumption) (by assumption) (by assumption) (by assumption) _ _ _ _ _ (by decide) ?_ ?_)
    | with_reducible apply Flash_writeCmd_moves
    | intro _)

theorem execFlProgram_moves {W : Part → Prop} {s t : State} (h0 : W .flash) (h1 : W .held) (h2 : W .msix) (h3 : W .qdr) (h4 : W (.fld F.BOOT_FL_CMD_GO)) (h5 : W (.fld F.BOOT_FL_CMD_LEN)) (h6 : W (.fld F.BOOT_FL_CMD_OP)) (h7 : W (.fld F.BOOT_FL_DATA_DATA)) (h8 : W (.fld F.BOOT_FL_STAT_BUSY)) (h9 : W (.fld F.BOOT_FL_STAT_ERR)) (h10 : W (.fld F.PEER_INT_CAUSE_MIRRORED)) (h11 : W (.fld F.PMC_INT_CAUSE_OVF)) (h12 : W (.fld F.PMC_INT_CAUSE_SMP_AVAIL)) (h13 : W (.fld F.PMC_INT_CAUSE_SMP_DROP)) (h14 : W (.fld F.PMC_OVF_STAT_OVF)) (h15 : W (.fld F.PMC_SMP_DROP_RING)) (h16 : W (.fld F.PMC_SMP_STAT_COUNT)) (h17 : W (.fld H.PMC_CNT)) (h18 : W (.fld H.PMC_OVF_DUE)) (h19 : W (.fld H.PMC_OVF_T)) (h20 : W (.fld H.PMC_RING)) (h21 : W (.fld H.PMC_TRACE_POS)) (a0 : Nat) (h : execFlProgram a0 s = .next t) :
    Moves W s t := by
  unfold execFlProgram at h
  refine done_moves (by assumption) ?_ h
  repeat' (first
    | with_reducible assumption
    | with_reducible exact .refl
    | (with_reducible refine Bus_row_other (by assumption) (by assumption) (by assumption) (by assumption) (by assumption) (by assumption) (by assumption) (by assumption) (by assumption) (by assumption) (by assumption) (by assumption) (by assumption) (by assumption) _ _ _ _ _ (by decide) ?_ ?_)
    | with_reducible apply Flash_writeCmd_moves
    | intro _)

theorem execFlErase_moves {W : Part → Prop} {s t : State} (h0 : W .flash) (h1 : W .held) (h2 : W .msix) (h3 : W .qdr) (h4 : W (.fld F.BOOT_FL_CMD_GO)) (h5 : W (.fld F.BOOT_FL_CMD_LEN)) (h6 : W (.fld F.BOOT_FL_CMD_OP)) (h7 : W (.fld F.BOOT_FL_DATA_DATA)) (h8 : W (.fld F.BOOT_FL_STAT_BUSY)) (h9 : W (.fld F.BOOT_FL_STAT_ERR)) (h10 : W (.fld F.PEER_INT_CAUSE_MIRRORED)) (h11 : W (.fld F.PMC_INT_CAUSE_OVF)) (h12 : W (.fld F.PMC_INT_CAUSE_SMP_AVAIL)) (h13 : W (.fld F.PMC_INT_CAUSE_SMP_DROP)) (h14 : W (.fld F.PMC_OVF_STAT_OVF)) (h15 : W (.fld F.PMC_SMP_DROP_RING)) (h16 : W (.fld F.PMC_SMP_STAT_COUNT)) (h17 : W (.fld H.PMC_CNT)) (h18 : W (.fld H.PMC_OVF_DUE)) (h19 : W (.fld H.PMC_OVF_T)) (h20 : W (.fld H.PMC_RING)) (h21 : W (.fld H.PMC_TRACE_POS)) (h : execFlErase s = .next t) :
    Moves W s t := by
  unfold execFlErase at h
  refine done_moves (by assumption) ?_ h
  repeat' (first
    | with_reducible assumption
    | with_reducible exact .refl
    | (with_reducible refine Bus_row_other (by assumption) (by assumption) (by assumption) (by assumption) (by assumption) (by assumption) (by assumption) (by assumption) (by assumption) (by assumption) (by assumption) (by assumption) (by assumption) (by assumption) _ _ _ _ _ (by decide) ?_ ?_)
    | with_reducible apply Flash_writeCmd_moves
    | intro _)

theorem execFlDone_moves {W : Part → Prop} {s t : State} (h0 : W .msix) (h1 : W (.fld F.BOOT_FL_CMD_GO)) (h2 : W (.fld F.BOOT_FL_STAT_BUSY)) (h3 : W (.fld F.BOOT_FL_STAT_ERR)) (a0 : Bool) (h : execFlDone a0 s = .next t) :
    Moves W s t := by
  unfold execFlDone at h
  refine done_moves (by assumption) ?_ h
  repeat' (first
    | with_reducible assumption
    | with_reducible exact .refl
    | with_reducible apply Flash_finish_moves
    | intro _)

end Sys2Proof.Laws
end

