-- ==== Sys2Proof/Laws/MovesExecScm.lean ====
section
/-! SUPPORT. Sys2Proof/Laws/MovesExecScm.lean: what each command of Machine/ExecScm.lean may write (Laws/Moves.lean). -/
namespace Sys2Proof.Laws
open Sys2Proof Sys2Proof.Machine

theorem execCommitDs_moves {W : Part → Prop} {s t : State} (h0 : W .held) (h1 : W .msix) (h2 : W .qdr) (h3 : W .vlk) (h4 : W (.fld F.LRX_INT_CAUSE_SHADOW_LOCKED)) (h5 : W (.fld F.LRX_INT_CAUSE_TABLE_ERR)) (h6 : W (.fld F.LRX_STAT_ERR_SC)) (h7 : W (.fld F.LRX_STAT_SHADOW_READY)) (h8 : W (.fld F.LTX_INT_CAUSE_SHADOW_LOCKED)) (h9 : W (.fld F.LTX_INT_CAUSE_TABLE_ERR)) (h10 : W (.fld F.LTX_STAT_ERR_SC)) (h11 : W (.fld F.LTX_STAT_SHADOW_READY)) (h12 : W (.fld F.PEER_INT_CAUSE_MIRRORED)) (h13 : W (.fld F.PMC_INT_CAUSE_OVF)) (h14 : W (.fld F.PMC_INT_CAUSE_SMP_AVAIL)) (h15 : W (.fld F.PMC_INT_CAUSE_SMP_DROP)) (h16 : W (.fld F.PMC_OVF_STAT_OVF)) (h17 : W (.fld F.PMC_SMP_DROP_RING)) (h18 : W (.fld F.PMC_SMP_STAT_COUNT)) (h19 : W (.fld F.SCM_CHG_STAT_DS_STATE)) (h20 : W (.fld F.SCM_CHG_STAT_US_STATE)) (h21 : W (.fld F.SCM_INT_CAUSE_BUSY)) (h22 : W (.fld F.SCM_INT_CAUSE_CHG_FAIL)) (h23 : W (.fld F.SCM_NAK_MAP_LEAF)) (h24 : W (.fld F.SYS_INT_CAUSE_ROLE_LIMIT)) (h25 : W (.fld F.VLK_INT_CAUSE_GROUP_ERR)) (h26 : W (.fld H.LRX_SHADOW)) (h27 : W (.fld H.LRX_SHADOW_VER)) (h28 : W (.fld H.LTX_SHADOW)) (h29 : W (.fld H.LTX_SHADOW_VER)) (h30 : W (.fld H.PMC_CNT)) (h31 : W (.fld H.PMC_OVF_DUE)) (h32 : W (.fld H.PMC_OVF_T)) (h33 : W (.fld H.PMC_RING)) (h34 : W (.fld H.PMC_TRACE_POS)) (h35 : W (.fld H.SCM_ACKED)) (h36 : W (.fld H.SCM_ADDRESSED)) (h37 : W (.fld H.SCM_LAST_VER)) (h38 : W (.fld H.SCM_START_MF)) (h39 : W (.fld H.VLK_SEQ)) (h : execCommitDs s = .next t) :
    Moves W s t := by
  unfold execCommitDs at h
  refine doneMirrored_moves (by assumption) ?_ h
  repeat' (first
    | with_reducible assumption
    | with_reducible exact .refl
    | (with_reducible refine Bus_row_other (by assumption) (by assumption) (by assumption) (by assumption) (by assumption) (by assumption) (by assumption) (by assumption) (by assumption) (by assumption) (by assumption) (by assumption) (by assumption) (by assumption) _ _ _ _ _ (by decide) ?_ ?_)
    | with_reducible apply Scm_commit_moves
    | intro _)

theorem execCommitUs_moves {W : Part → Prop} {s t : State} (h0 : W .held) (h1 : W .msix) (h2 : W .qdr) (h3 : W .vlk) (h4 : W (.fld F.LRX_INT_CAUSE_SHADOW_LOCKED)) (h5 : W (.fld F.LRX_INT_CAUSE_TABLE_ERR)) (h6 : W (.fld F.LRX_STAT_ERR_SC)) (h7 : W (.fld F.LRX_STAT_SHADOW_READY)) (h8 : W (.fld F.LTX_INT_CAUSE_SHADOW_LOCKED)) (h9 : W (.fld F.LTX_INT_CAUSE_TABLE_ERR)) (h10 : W (.fld F.LTX_STAT_ERR_SC)) (h11 : W (.fld F.LTX_STAT_SHADOW_READY)) (h12 : W (.fld F.PEER_INT_CAUSE_MIRRORED)) (h13 : W (.fld F.PMC_INT_CAUSE_OVF)) (h14 : W (.fld F.PMC_INT_CAUSE_SMP_AVAIL)) (h15 : W (.fld F.PMC_INT_CAUSE_SMP_DROP)) (h16 : W (.fld F.PMC_OVF_STAT_OVF)) (h17 : W (.fld F.PMC_SMP_DROP_RING)) (h18 : W (.fld F.PMC_SMP_STAT_COUNT)) (h19 : W (.fld F.SCM_CHG_STAT_DS_STATE)) (h20 : W (.fld F.SCM_CHG_STAT_US_STATE)) (h21 : W (.fld F.SCM_INT_CAUSE_BUSY)) (h22 : W (.fld F.SCM_INT_CAUSE_CHG_FAIL)) (h23 : W (.fld F.SCM_NAK_MAP_LEAF)) (h24 : W (.fld F.SYS_INT_CAUSE_ROLE_LIMIT)) (h25 : W (.fld F.VLK_INT_CAUSE_GROUP_ERR)) (h26 : W (.fld H.LRX_SHADOW)) (h27 : W (.fld H.LRX_SHADOW_VER)) (h28 : W (.fld H.LTX_SHADOW)) (h29 : W (.fld H.LTX_SHADOW_VER)) (h30 : W (.fld H.PMC_CNT)) (h31 : W (.fld H.PMC_OVF_DUE)) (h32 : W (.fld H.PMC_OVF_T)) (h33 : W (.fld H.PMC_RING)) (h34 : W (.fld H.PMC_TRACE_POS)) (h35 : W (.fld H.SCM_ACKED)) (h36 : W (.fld H.SCM_ADDRESSED)) (h37 : W (.fld H.SCM_LAST_VER)) (h38 : W (.fld H.SCM_START_MF)) (h39 : W (.fld H.VLK_SEQ)) (h : execCommitUs s = .next t) :
    Moves W s t := by
  unfold execCommitUs at h
  refine doneMirrored_moves (by assumption) ?_ h
  repeat' (first
    | with_reducible assumption
    | with_reducible exact .refl
    | (with_reducible refine Bus_row_other (by assumption) (by assumption) (by assumption) (by assumption) (by assumption) (by assumption) (by assumption) (by assumption) (by assumption) (by assumption) (by assumption) (by assumption) (by assumption) (by assumption) _ _ _ _ _ (by decide) ?_ ?_)
    | with_reducible apply Scm_commit_moves
    | intro _)

theorem execAbortDs_moves {W : Part → Prop} {s t : State} (h0 : W .held) (h1 : W .msix) (h2 : W .qdr) (h3 : W .vlk) (h4 : W (.fld F.PEER_INT_CAUSE_MIRRORED)) (h5 : W (.fld F.PMC_INT_CAUSE_OVF)) (h6 : W (.fld F.PMC_INT_CAUSE_SMP_AVAIL)) (h7 : W (.fld F.PMC_INT_CAUSE_SMP_DROP)) (h8 : W (.fld F.PMC_OVF_STAT_OVF)) (h9 : W (.fld F.PMC_SMP_DROP_RING)) (h10 : W (.fld F.PMC_SMP_STAT_COUNT)) (h11 : W (.fld F.SCM_CHG_STAT_DS_STATE)) (h12 : W (.fld F.SCM_CHG_STAT_US_STATE)) (h13 : W (.fld F.SCM_INT_CAUSE_BUSY)) (h14 : W (.fld F.SYS_INT_CAUSE_ROLE_LIMIT)) (h15 : W (.fld H.PMC_CNT)) (h16 : W (.fld H.PMC_OVF_DUE)) (h17 : W (.fld H.PMC_OVF_T)) (h18 : W (.fld H.PMC_RING)) (h19 : W (.fld H.PMC_TRACE_POS)) (h20 : W (.fld H.SCM_ACKED)) (h21 : W (.fld H.SCM_ADDRESSED)) (h22 : W (.fld H.VLK_SEQ)) (h : execAbortDs s = .next t) :
    Moves W s t := by
  unfold execAbortDs at h
  refine doneMirrored_moves (by assumption) ?_ h
  repeat' (first
    | with_reducible assumption
    | with_reducible exact .refl
    | (with_reducible refine Bus_row_other (by assumption) (by assumption) (by assumption) (by assumption) (by assumption) (by assumption) (by assumption) (by assumption) (by assumption) (by assumption) (by assumption) (by assumption) (by assumption) (by assumption) _ _ _ _ _ (by decide) ?_ ?_)
    | with_reducible apply Scm_abort_moves
    | intro _)

theorem execAbortUs_moves {W : Part → Prop} {s t : State} (h0 : W .held) (h1 : W .msix) (h2 : W .qdr) (h3 : W .vlk) (h4 : W (.fld F.PEER_INT_CAUSE_MIRRORED)) (h5 : W (.fld F.PMC_INT_CAUSE_OVF)) (h6 : W (.fld F.PMC_INT_CAUSE_SMP_AVAIL)) (h7 : W (.fld F.PMC_INT_CAUSE_SMP_DROP)) (h8 : W (.fld F.PMC_OVF_STAT_OVF)) (h9 : W (.fld F.PMC_SMP_DROP_RING)) (h10 : W (.fld F.PMC_SMP_STAT_COUNT)) (h11 : W (.fld F.SCM_CHG_STAT_DS_STATE)) (h12 : W (.fld F.SCM_CHG_STAT_US_STATE)) (h13 : W (.fld F.SCM_INT_CAUSE_BUSY)) (h14 : W (.fld F.SYS_INT_CAUSE_ROLE_LIMIT)) (h15 : W (.fld H.PMC_CNT)) (h16 : W (.fld H.PMC_OVF_DUE)) (h17 : W (.fld H.PMC_OVF_T)) (h18 : W (.fld H.PMC_RING)) (h19 : W (.fld H.PMC_TRACE_POS)) (h20 : W (.fld H.SCM_ACKED)) (h21 : W (.fld H.SCM_ADDRESSED)) (h22 : W (.fld H.VLK_SEQ)) (h : execAbortUs s = .next t) :
    Moves W s t := by
  unfold execAbortUs at h
  refine doneMirrored_moves (by assumption) ?_ h
  repeat' (first
    | with_reducible assumption
    | with_reducible exact .refl
    | (with_reducible refine Bus_row_other (by assumption) (by assumption) (by assumption) (by assumption) (by assumption) (by assumption) (by assumption) (by assumption) (by assumption) (by assumption) (by assumption) (by assumption) (by assumption) (by assumption) _ _ _ _ _ (by decide) ?_ ?_)
    | with_reducible apply Scm_abort_moves
    | intro _)

theorem execLoadAnnounce_moves {W : Part → Prop} {s t : State} (h0 : W .msix) (h1 : W (.fld F.LRX_STAT_ANNOUNCED)) (h2 : W (.fld F.LTX_STAT_ANNOUNCED)) (h3 : W (.fld F.SCM_CHG_STAT_DS_STATE)) (h4 : W (.fld F.SCM_CHG_STAT_US_STATE)) (h5 : W (.fld H.LRX_SWAP_DUE)) (h6 : W (.fld H.LRX_SWAP_MF)) (h7 : W (.fld H.LTX_SWAP_DUE)) (h8 : W (.fld H.LTX_SWAP_MF)) (h9 : W (.fld H.SCM_M)) (a0 : Nat) (h : execLoadAnnounce a0 s = .next t) :
    Moves W s t := by
  unfold execLoadAnnounce at h
  refine doneMirrored_moves (by assumption) ?_ h
  repeat' (first
    | with_reducible assumption
    | with_reducible exact .refl
    | with_reducible apply Scm_announce_moves
    | intro _)

theorem execLoadAckTmo_moves {W : Part → Prop} {s t : State} (h0 : W .msix) (h1 : W .vlk) (h2 : W (.fld F.SCM_CHG_STAT_DS_STATE)) (h3 : W (.fld F.SCM_CHG_STAT_US_STATE)) (h4 : W (.fld F.SCM_INT_CAUSE_CHG_FAIL)) (h5 : W (.fld F.SCM_NAK_MAP_LEAF)) (h6 : W (.fld H.SCM_ACKED)) (h7 : W (.fld H.SCM_ADDRESSED)) (h8 : W (.fld H.VLK_SEQ)) (a0 : Nat) (h : execLoadAckTmo a0 s = .next t) :
    Moves W s t := by
  unfold execLoadAckTmo at h
  refine doneMirrored_moves (by assumption) ?_ h
  repeat' (first
    | with_reducible assumption
    | with_reducible exact .refl
    | with_reducible apply Scm_ackTimeout_moves
    | intro _)

theorem execFecCfgWrite_moves {W : Part → Prop} {s t : State} (h0 : W .held) (h1 : W .msix) (h2 : W .qdr) (h3 : W (.arr H.FEC_RX_ON)) (h4 : W (.arr H.FEC_RX_POS)) (h5 : W (.arr H.FEC_RX_WAIT)) (h6 : W (.arr H.FEC_SL_ON)) (h7 : W (.arr H.FEC_SL_POS)) (h8 : W (.arr H.FEC_SL_WAIT)) (h9 : W (.fld F.FEC_CFG_ET_EN)) (h10 : W (.fld F.FEC_CFG_ITER_MAX)) (h11 : W (.fld F.FEC_CFG_RATE_RX)) (h12 : W (.fld F.FEC_CFG_RATE_TX)) (h13 : W (.fld F.FEC_INT_CAUSE_CFG_ERR)) (h14 : W (.fld F.PEER_INT_CAUSE_MIRRORED)) (h15 : W (.fld F.PMC_INT_CAUSE_OVF)) (h16 : W (.fld F.PMC_INT_CAUSE_SMP_AVAIL)) (h17 : W (.fld F.PMC_INT_CAUSE_SMP_DROP)) (h18 : W (.fld F.PMC_OVF_STAT_OVF)) (h19 : W (.fld F.PMC_SMP_DROP_RING)) (h20 : W (.fld F.PMC_SMP_STAT_COUNT)) (h21 : W (.fld H.FEC_TX_POS)) (h22 : W (.fld H.FRM_CF_DUE)) (h23 : W (.fld H.PMC_CNT)) (h24 : W (.fld H.PMC_OVF_DUE)) (h25 : W (.fld H.PMC_OVF_T)) (h26 : W (.fld H.PMC_RING)) (h27 : W (.fld H.PMC_TRACE_POS)) (a0 : Nat) (h : execFecCfgWrite a0 s = .next t) :
    Moves W s t := by
  unfold execFecCfgWrite at h
  refine done_moves (by assumption) ?_ h
  repeat' (first
    | with_reducible assumption
    | with_reducible exact .refl
    | (with_reducible refine Bus_row_other (by assumption) (by assumption) (by assumption) (by assumption) (by assumption) (by assumption) (by assumption) (by assumption) (by assumption) (by assumption) (by assumption) (by assumption) (by assumption) (by assumption) _ _ _ _ _ (by decide) ?_ ?_)
    | with_reducible apply Fec_writeCfg_moves
    | intro _)

theorem execCodewordDecode_moves {W : Part → Prop} {s t : State} (h0 : W .msix) (h1 : W .qdr) (h2 : W (.fld F.PMC_INT_CAUSE_OVF)) (h3 : W (.fld F.PMC_INT_CAUSE_SMP_AVAIL)) (h4 : W (.fld F.PMC_INT_CAUSE_SMP_DROP)) (h5 : W (.fld F.PMC_OVF_STAT_OVF)) (h6 : W (.fld F.PMC_SMP_DROP_RING)) (h7 : W (.fld F.PMC_SMP_STAT_COUNT)) (h8 : W (.fld H.FEC_LIVE_CBITS)) (h9 : W (.fld H.FEC_LIVE_CW)) (h10 : W (.fld H.FEC_LIVE_HIST)) (h11 : W (.fld H.FEC_LIVE_INVAL)) (h12 : W (.fld H.FEC_LIVE_LDPC)) (h13 : W (.fld H.FEC_LIVE_ROWS)) (h14 : W (.fld H.FEC_MARK)) (h15 : W (.fld H.FEC_PART)) (h16 : W (.fld H.PMC_CNT)) (h17 : W (.fld H.PMC_OVF_DUE)) (h18 : W (.fld H.PMC_OVF_T)) (h19 : W (.fld H.PMC_RING)) (h20 : W (.fld H.PMC_TRACE_POS)) (a0 : Nat) (a1 : Bool) (a2 : Nat) (a3 : Nat) (a4 : Nat) (a5 : Nat) (h : execCodewordDecode a0 a1 a2 a3 a4 s a5 = .next t) :
    Moves W s t := by
  unfold execCodewordDecode at h
  refine done_moves (by assumption) ?_ h
  repeat' (first
    | with_reducible assumption
    | with_reducible exact .refl
    | with_reducible apply Fec_codeword_moves
    | intro _)

theorem execGrantCommit_moves {W : Part → Prop} {s t : State} (h0 : W .held) (h1 : W .msix) (h2 : W .qdr) (h3 : W .vlk) (h4 : W (.fld F.PEER_INT_CAUSE_MIRRORED)) (h5 : W (.fld F.PMC_INT_CAUSE_OVF)) (h6 : W (.fld F.PMC_INT_CAUSE_SMP_AVAIL)) (h7 : W (.fld F.PMC_INT_CAUSE_SMP_DROP)) (h8 : W (.fld F.PMC_OVF_STAT_OVF)) (h9 : W (.fld F.PMC_SMP_DROP_RING)) (h10 : W (.fld F.PMC_SMP_STAT_COUNT)) (h11 : W (.fld F.SCM_GRANT_STAT_ERR)) (h12 : W (.fld F.SCM_GRANT_STAT_STATE)) (h13 : W (.fld F.SCM_INT_CAUSE_BUSY)) (h14 : W (.fld F.SYS_INT_CAUSE_ROLE_LIMIT)) (h15 : W (.fld F.VLK_INT_CAUSE_GRANT_FAIL)) (h16 : W (.fld H.PMC_CNT)) (h17 : W (.fld H.PMC_OVF_DUE)) (h18 : W (.fld H.PMC_OVF_T)) (h19 : W (.fld H.PMC_RING)) (h20 : W (.fld H.PMC_TRACE_POS)) (h21 : W (.fld H.SCM_GRANT_ACKED)) (h22 : W (.fld H.SCM_GRANT_ADDR)) (h23 : W (.fld H.SCM_GRANT_LAST)) (h24 : W (.fld H.SCM_GRANT_SNAP)) (h25 : W (.fld H.SCM_GRANT_START)) (h26 : W (.fld H.VLK_SEQ)) (h : execGrantCommit s = .next t) :
    Moves W s t := by
  unfold execGrantCommit at h
  refine doneMirrored_moves (by assumption) ?_ h
  repeat' (first
    | with_reducible assumption
    | with_reducible exact .refl
    | (with_reducible refine Bus_row_other (by assumption) (by assumption) (by assumption) (by assumption) (by assumption) (by assumption) (by assumption) (by assumption) (by assumption) (by assumption) (by assumption) (by assumption) (by assumption) (by assumption) _ _ _ _ _ (by decide) ?_ ?_)
    | with_reducible apply Scm_grantCommit_moves
    | intro _)

theorem execGrantAbort_moves {W : Part → Prop} {s t : State} (h0 : W .held) (h1 : W .msix) (h2 : W .qdr) (h3 : W (.fld F.PEER_INT_CAUSE_MIRRORED)) (h4 : W (.fld F.PMC_INT_CAUSE_OVF)) (h5 : W (.fld F.PMC_INT_CAUSE_SMP_AVAIL)) (h6 : W (.fld F.PMC_INT_CAUSE_SMP_DROP)) (h7 : W (.fld F.PMC_OVF_STAT_OVF)) (h8 : W (.fld F.PMC_SMP_DROP_RING)) (h9 : W (.fld F.PMC_SMP_STAT_COUNT)) (h10 : W (.fld F.SCM_GRANT_STAT_STATE)) (h11 : W (.fld F.SCM_INT_CAUSE_BUSY)) (h12 : W (.fld F.SYS_INT_CAUSE_ROLE_LIMIT)) (h13 : W (.fld H.PMC_CNT)) (h14 : W (.fld H.PMC_OVF_DUE)) (h15 : W (.fld H.PMC_OVF_T)) (h16 : W (.fld H.PMC_RING)) (h17 : W (.fld H.PMC_TRACE_POS)) (h18 : W (.fld H.SCM_GRANT_ACKED)) (h19 : W (.fld H.SCM_GRANT_ADDR)) (h : execGrantAbort s = .next t) :
    Moves W s t := by
  unfold execGrantAbort at h
  refine doneMirrored_moves (by assumption) ?_ h
  repeat' (first
    | with_reducible assumption
    | with_reducible exact .refl
    | (with_reducible refine Bus_row_other (by assumption) (by assumption) (by assumption) (by assumption) (by assumption) (by assumption) (by assumption) (by assumption) (by assumption) (by assumption) (by assumption) (by assumption) (by assumption) (by assumption) _ _ _ _ _ (by decide) ?_ ?_)
    | with_reducible apply Scm_grantAbort_moves
    | intro _)

theorem execGrantAnnounce_moves {W : Part → Prop} {s t : State} (h0 : W .msix) (h1 : W (.fld F.SCM_GRANT_STAT_STATE)) (h2 : W (.fld H.SCM_GRANT_M)) (h : execGrantAnnounce s = .next t) :
    Moves W s t := by
  unfold execGrantAnnounce at h
  refine doneMirrored_moves (by assumption) ?_ h
  repeat' (first
    | with_reducible assumption
    | with_reducible exact .refl
    | with_reducible apply Scm_grantAnnounce_moves
    | intro _)

theorem execGrantSwap_moves {W : Part → Prop} {s t : State} (h0 : W .msix) (h1 : W (.fld F.SCM_GRANT_ACT_LEAF_E)) (h2 : W (.fld F.SCM_GRANT_ACT_LEAF_O)) (h3 : W (.fld F.SCM_GRANT_ACT_VAL_E)) (h4 : W (.fld F.SCM_GRANT_ACT_VAL_O)) (h5 : W (.fld F.SCM_GRANT_STAT_STATE)) (h6 : W (.fld F.SCM_GRANT_STAT_VER)) (h7 : W (.fld F.VLK_INT_CAUSE_GRANT_SWAP)) (h8 : W (.fld H.LRX_SET_OWNER)) (h9 : W (.fld H.SCM_GRANT_ACKED)) (h10 : W (.fld H.SCM_GRANT_ADDR)) (h11 : W (.fld H.VLK_G_ACT)) (h12 : W (.fld H.VLK_G_ACT_VER)) (h13 : W (.fld H.VLK_G_SC_ACT)) (h14 : W (.fld H.VLK_G_SC_SHADOW)) (h15 : W (.fld H.VLK_G_SHADOW)) (h16 : W (.fld H.VLK_G_SHADOW_VER)) (h17 : W (.fld H.VLK_G_SWAP)) (h : execGrantSwap s = .next t) :
    Moves W s t := by
  unfold execGrantSwap at h
  refine doneMirrored_moves (by assumption) ?_ h
  repeat' (first
    | with_reducible assumption
    | with_reducible exact .refl
    | with_reducible apply Vlk_grantSwapLeaf_moves
    | with_reducible apply Scm_grantSwap_moves
    | intro _
    | split)

theorem execGrantAckTmo_moves {W : Part → Prop} {s t : State} (h0 : W .msix) (h1 : W (.fld F.SCM_GRANT_STAT_STATE)) (h2 : W (.fld F.SCM_INT_CAUSE_CHG_FAIL)) (h3 : W (.fld F.SCM_NAK_MAP_LEAF)) (h4 : W (.fld F.VLK_INT_CAUSE_GRANT_FAIL)) (h5 : W (.fld H.SCM_GRANT_ACKED)) (h6 : W (.fld H.SCM_GRANT_ADDR)) (h : execGrantAckTmo s = .next t) :
    Moves W s t := by
  unfold execGrantAckTmo at h
  refine doneMirrored_moves (by assumption) ?_ h
  repeat' (first
    | with_reducible assumption
    | with_reducible exact .refl
    | with_reducible apply Scm_grantTimeout_moves
    | intro _)

end Sys2Proof.Laws
end

