-- ==== Sys2Proof/Laws/MovesExecSyn.lean ====
section
/-! SUPPORT. Sys2Proof/Laws/MovesExecSyn.lean: what each command of Machine/ExecSyn.lean may write (Laws/Moves.lean). -/
namespace Sys2Proof.Laws
open Sys2Proof Sys2Proof.Machine

theorem execRefFail_moves {W : Part → Prop} {s t : State} (h0 : W .msix) (h1 : W .syn) (h2 : W (.fld F.SYN_INT_CAUSE_LOOP_CHG)) (h3 : W (.fld F.SYN_INT_CAUSE_QL_CHG)) (h4 : W (.fld F.SYN_INT_CAUSE_REF_DQ)) (h5 : W (.fld F.SYN_INT_CAUSE_REF_DRIFT)) (h6 : W (.fld F.SYN_INT_CAUSE_REF_FAIL)) (h7 : W (.fld F.SYN_INT_CAUSE_REF_QUAL)) (h8 : W (.fld F.SYN_INT_CAUSE_SEL_CHG)) (h9 : W (.fld F.SYN_REF_STAT_ELIGIBLE)) (h10 : W (.fld F.SYN_REF_STAT_QL_EFF)) (h11 : W (.fld F.SYN_REF_STAT_STATE)) (h12 : W (.fld F.SYN_REF_STAT_WTR_LEFT)) (h13 : W (.fld F.SYN_STAT_LOOP)) (h14 : W (.fld F.SYN_STAT_OUT_QL)) (h15 : W (.fld F.SYN_STAT_SEL)) (h16 : W (.fld F.SYN_STAT_SEL_QL)) (h17 : W (.fld H.SYN_GOOD)) (h18 : W (.fld H.SYN_LINE_OK)) (h19 : W (.fld H.SYN_LOCK_FULL)) (h20 : W (.fld H.SYN_OUT_RUN)) (h21 : W (.fld H.SYN_OVER)) (h22 : W (.fld H.SYN_OVER2)) (h23 : W (.fld H.SYN_QL_SENT)) (a0 : Nat) (a1 : Nat) (h : execRefFail a0 a1 s = .next t) :
    Moves W s t := by
  unfold execRefFail at h
  refine done_moves (by assumption) ?_ h
  repeat' (first
    | with_reducible assumption
    | with_reducible exact .refl
    | with_reducible apply Syn_refFail_moves
    | intro _)

theorem execRefRestore_moves {W : Part → Prop} {s t : State} (h0 : W .msix) (h1 : W .syn) (h2 : W (.fld F.SYN_INT_CAUSE_QL_CHG)) (h3 : W (.fld F.SYN_INT_CAUSE_REF_DQ)) (h4 : W (.fld F.SYN_INT_CAUSE_REF_DRIFT)) (h5 : W (.fld F.SYN_INT_CAUSE_REF_FAIL)) (h6 : W (.fld F.SYN_INT_CAUSE_REF_QUAL)) (h7 : W (.fld F.SYN_REF_STAT_ELIGIBLE)) (h8 : W (.fld F.SYN_REF_STAT_QL_EFF)) (h9 : W (.fld F.SYN_REF_STAT_STATE)) (h10 : W (.fld F.SYN_REF_STAT_WTR_LEFT)) (h11 : W (.fld F.SYN_STAT_OUT_QL)) (h12 : W (.fld F.SYN_STAT_SEL_QL)) (h13 : W (.fld H.SYN_GOOD)) (h14 : W (.fld H.SYN_LINE_OK)) (h15 : W (.fld H.SYN_LOCK_FULL)) (h16 : W (.fld H.SYN_OUT_RUN)) (h17 : W (.fld H.SYN_OVER)) (h18 : W (.fld H.SYN_OVER2)) (h19 : W (.fld H.SYN_QL_SENT)) (a0 : Nat) (h : execRefRestore a0 s = .next t) :
    Moves W s t := by
  unfold execRefRestore at h
  refine done_moves (by assumption) ?_ h
  repeat' (first
    | with_reducible assumption
    | with_reducible exact .refl
    | with_reducible apply Syn_refRestore_moves
    | intro _)

theorem execWtrComplete_moves {W : Part → Prop} {s t : State} (h0 : W .msix) (h1 : W .syn) (h2 : W (.fld F.SYN_INT_CAUSE_QL_CHG)) (h3 : W (.fld F.SYN_INT_CAUSE_REF_DQ)) (h4 : W (.fld F.SYN_INT_CAUSE_REF_DRIFT)) (h5 : W (.fld F.SYN_INT_CAUSE_REF_FAIL)) (h6 : W (.fld F.SYN_INT_CAUSE_REF_QUAL)) (h7 : W (.fld F.SYN_REF_STAT_ELIGIBLE)) (h8 : W (.fld F.SYN_REF_STAT_QL_EFF)) (h9 : W (.fld F.SYN_REF_STAT_STATE)) (h10 : W (.fld F.SYN_REF_STAT_WTR_LEFT)) (h11 : W (.fld F.SYN_STAT_OUT_QL)) (h12 : W (.fld F.SYN_STAT_SEL_QL)) (h13 : W (.fld H.SYN_GOOD)) (h14 : W (.fld H.SYN_LINE_OK)) (h15 : W (.fld H.SYN_LOCK_FULL)) (h16 : W (.fld H.SYN_OUT_RUN)) (h17 : W (.fld H.SYN_OVER)) (h18 : W (.fld H.SYN_OVER2)) (h19 : W (.fld H.SYN_QL_SENT)) (a0 : Nat) (h : execWtrComplete a0 s = .next t) :
    Moves W s t := by
  unfold execWtrComplete at h
  refine done_moves (by assumption) ?_ h
  repeat' (first
    | with_reducible assumption
    | with_reducible exact .refl
    | with_reducible apply Syn_wtrComplete_moves
    | intro _)

theorem execDriftWatchEnd_moves {W : Part → Prop} {s t : State} (h0 : W .msix) (h1 : W .syn) (h2 : W (.fld F.SYN_INT_CAUSE_QL_CHG)) (h3 : W (.fld F.SYN_INT_CAUSE_REF_DQ)) (h4 : W (.fld F.SYN_INT_CAUSE_REF_DRIFT)) (h5 : W (.fld F.SYN_INT_CAUSE_REF_FAIL)) (h6 : W (.fld F.SYN_INT_CAUSE_REF_QUAL)) (h7 : W (.fld F.SYN_REF_STAT_ELIGIBLE)) (h8 : W (.fld F.SYN_REF_STAT_QL_EFF)) (h9 : W (.fld F.SYN_REF_STAT_STATE)) (h10 : W (.fld F.SYN_REF_STAT_WTR_LEFT)) (h11 : W (.fld F.SYN_STAT_OUT_QL)) (h12 : W (.fld F.SYN_STAT_SEL_QL)) (h13 : W (.fld H.SYN_GOOD)) (h14 : W (.fld H.SYN_LINE_OK)) (h15 : W (.fld H.SYN_LOCK_FULL)) (h16 : W (.fld H.SYN_OUT_RUN)) (h17 : W (.fld H.SYN_OVER)) (h18 : W (.fld H.SYN_OVER2)) (h19 : W (.fld H.SYN_QL_SENT)) (a0 : Nat) (h : execDriftWatchEnd a0 s = .next t) :
    Moves W s t := by
  unfold execDriftWatchEnd at h
  refine done_moves (by assumption) ?_ h
  repeat' (first
    | with_reducible assumption
    | with_reducible exact .refl
    | with_reducible apply Syn_driftWatchEnd_moves
    | intro _)

theorem execRefDq_moves {W : Part → Prop} {s t : State} (h0 : W .msix) (h1 : W .syn) (h2 : W (.fld F.SYN_INT_CAUSE_QL_CHG)) (h3 : W (.fld F.SYN_INT_CAUSE_REF_DQ)) (h4 : W (.fld F.SYN_INT_CAUSE_REF_DRIFT)) (h5 : W (.fld F.SYN_INT_CAUSE_REF_FAIL)) (h6 : W (.fld F.SYN_INT_CAUSE_REF_QUAL)) (h7 : W (.fld F.SYN_REF_STAT_ELIGIBLE)) (h8 : W (.fld F.SYN_REF_STAT_QL_EFF)) (h9 : W (.fld F.SYN_REF_STAT_STATE)) (h10 : W (.fld F.SYN_REF_STAT_WTR_LEFT)) (h11 : W (.fld F.SYN_STAT_OUT_QL)) (h12 : W (.fld F.SYN_STAT_SEL_QL)) (h13 : W (.fld H.SYN_GOOD)) (h14 : W (.fld H.SYN_LINE_OK)) (h15 : W (.fld H.SYN_LOCK_FULL)) (h16 : W (.fld H.SYN_OUT_RUN)) (h17 : W (.fld H.SYN_OVER)) (h18 : W (.fld H.SYN_OVER2)) (h19 : W (.fld H.SYN_QL_SENT)) (a0 : Nat) (h : execRefDq a0 s = .next t) :
    Moves W s t := by
  unfold execRefDq at h
  refine done_moves (by assumption) ?_ h
  repeat' (first
    | with_reducible assumption
    | with_reducible exact .refl
    | with_reducible apply Syn_refDq_moves
    | intro _)

theorem execQlTmo_moves {W : Part → Prop} {s t : State} (h0 : W .msix) (h1 : W (.fld F.SYN_INT_CAUSE_QL_CHG)) (h2 : W (.fld F.SYN_INT_CAUSE_QL_TMO)) (h3 : W (.fld F.SYN_REF_STAT_ELIGIBLE)) (h4 : W (.fld F.SYN_REF_STAT_QL_EFF)) (h5 : W (.fld F.SYN_STAT_OUT_QL)) (h6 : W (.fld F.SYN_STAT_SEL_QL)) (h7 : W (.fld H.SYN_LINE_OK)) (h8 : W (.fld H.SYN_OUT_RUN)) (h9 : W (.fld H.SYN_QL_OK)) (h10 : W (.fld H.SYN_QL_SENT)) (a0 : Nat) (a1 : Nat) (h : execQlTmo a0 a1 s = .next t) :
    Moves W s t := by
  unfold execQlTmo at h
  refine done_moves (by assumption) ?_ h
  repeat' (first
    | with_reducible assumption
    | with_reducible exact .refl
    | with_reducible apply Syn_qlTimeout_moves
    | intro _)

theorem execRefQlWrite_moves {W : Part → Prop} {s t : State} (h0 : W .held) (h1 : W .msix) (h2 : W .qdr) (h3 : W (.fld F.PEER_INT_CAUSE_MIRRORED)) (h4 : W (.fld F.PMC_INT_CAUSE_OVF)) (h5 : W (.fld F.PMC_INT_CAUSE_SMP_AVAIL)) (h6 : W (.fld F.PMC_INT_CAUSE_SMP_DROP)) (h7 : W (.fld F.PMC_OVF_STAT_OVF)) (h8 : W (.fld F.PMC_SMP_DROP_RING)) (h9 : W (.fld F.PMC_SMP_STAT_COUNT)) (h10 : W (.fld F.SYN_INT_CAUSE_QL_CHG)) (h11 : W (.fld F.SYN_REF_QL_QL)) (h12 : W (.fld F.SYN_REF_STAT_ELIGIBLE)) (h13 : W (.fld F.SYN_REF_STAT_QL_EFF)) (h14 : W (.fld F.SYN_STAT_OUT_QL)) (h15 : W (.fld F.SYN_STAT_SEL_QL)) (h16 : W (.fld H.PMC_CNT)) (h17 : W (.fld H.PMC_OVF_DUE)) (h18 : W (.fld H.PMC_OVF_T)) (h19 : W (.fld H.PMC_RING)) (h20 : W (.fld H.PMC_TRACE_POS)) (h21 : W (.fld H.SYN_KEYSTEP)) (h22 : W (.fld H.SYN_LINE_OK)) (h23 : W (.fld H.SYN_OUT_RUN)) (h24 : W (.fld H.SYN_QL_OK)) (h25 : W (.fld H.SYN_QL_SENT)) (a0 : Nat) (a1 : Nat) (h : execRefQlWrite a0 a1 s = .next t) :
    Moves W s t := by
  unfold execRefQlWrite at h
  refine done_moves (by assumption) ?_ h
  repeat' (first
    | with_reducible assumption
    | with_reducible exact .refl
    | (with_reducible refine Bus_row_syn (by assumption) (by assumption) (by assumption) (by assumption) (by assumption) (by assumption) (by assumption) (by assumption) (by assumption) (by assumption) (by assumption) (by assumption) (by assumption) (by assumption) (by assumption) (by assumption) (by assumption) (by assumption) (by assumption) (by assumption) (by assumption) (by assumption) (by assumption) _ _ _ _ _ (by decide) ?_ ?_)
    | with_reducible apply Syn_writeRefQl_moves
    | intro _)

theorem execSelection_moves {W : Part → Prop} {s t : State} (h0 : W .msix) (h1 : W .syn) (h2 : W (.fld F.SYN_INT_CAUSE_LOOP_CHG)) (h3 : W (.fld F.SYN_INT_CAUSE_QL_CHG)) (h4 : W (.fld F.SYN_INT_CAUSE_SEL_CHG)) (h5 : W (.fld F.SYN_REF_STAT_ELIGIBLE)) (h6 : W (.fld F.SYN_REF_STAT_QL_EFF)) (h7 : W (.fld F.SYN_STAT_LOOP)) (h8 : W (.fld F.SYN_STAT_OUT_QL)) (h9 : W (.fld F.SYN_STAT_SEL)) (h10 : W (.fld F.SYN_STAT_SEL_QL)) (h11 : W (.fld H.SYN_LINE_OK)) (h12 : W (.fld H.SYN_LOCK_FULL)) (h13 : W (.fld H.SYN_OUT_RUN)) (h14 : W (.fld H.SYN_QL_SENT)) (h : execSelection s = .next t) :
    Moves W s t := by
  unfold execSelection at h
  refine done_moves (by assumption) ?_ h
  repeat' (first
    | with_reducible assumption
    | with_reducible exact .refl
    | with_reducible apply Syn_selection_moves
    | intro _)

theorem execLoopLock_moves {W : Part → Prop} {s t : State} (h0 : W .msix) (h1 : W .syn) (h2 : W (.fld F.SYN_INT_CAUSE_LOOP_CHG)) (h3 : W (.fld F.SYN_INT_CAUSE_QL_CHG)) (h4 : W (.fld F.SYN_REF_STAT_ELIGIBLE)) (h5 : W (.fld F.SYN_REF_STAT_QL_EFF)) (h6 : W (.fld F.SYN_STAT_LOOP)) (h7 : W (.fld F.SYN_STAT_OUT_QL)) (h8 : W (.fld F.SYN_STAT_SEL_QL)) (h9 : W (.fld H.SYN_LINE_OK)) (h10 : W (.fld H.SYN_LOCK_FULL)) (h11 : W (.fld H.SYN_OUT_RUN)) (h12 : W (.fld H.SYN_QL_SENT)) (h : execLoopLock s = .next t) :
    Moves W s t := by
  unfold execLoopLock at h
  refine done_moves (by assumption) ?_ h
  repeat' (first
    | with_reducible assumption
    | with_reducible exact .refl
    | with_reducible apply Syn_loopLock_moves
    | intro _)

theorem execQuarantineExit_moves {W : Part → Prop} {s t : State} (h0 : W .msix) (h1 : W .syn) (h2 : W (.fld F.SYN_HO_FREQ_F)) (h3 : W (.fld F.SYN_HO_STAT_AGE_S)) (h4 : W (.fld F.SYN_HO_STAT_SAMPLES)) (h5 : W (.fld F.SYN_STAT_MODEL_VALID)) (h : execQuarantineExit s = .next t) :
    Moves W s t := by
  unfold execQuarantineExit at h
  refine done_moves (by assumption) ?_ h
  repeat' (first
    | with_reducible assumption
    | with_reducible exact .refl
    | with_reducible apply Syn_quarantineExit_moves
    | intro _)

theorem execTcFit_moves {W : Part → Prop} {s t : State} (h0 : W .msix) (h1 : W (.fld F.SYN_HO_FREQ_F)) (h2 : W (.fld F.SYN_HO_STAT_AGE_S)) (h3 : W (.fld F.SYN_HO_STAT_SAMPLES)) (h4 : W (.fld F.SYN_HO_STAT_TC_ORDER)) (h5 : W (.fld F.SYN_HO_TC_C)) (h6 : W (.fld F.SYN_STAT_MODEL_VALID)) (h : execTcFit s = .next t) :
    Moves W s t := by
  unfold execTcFit at h
  refine done_moves (by assumption) ?_ h
  repeat' (first
    | with_reducible assumption
    | with_reducible exact .refl
    | with_reducible apply Syn_tcFit_moves
    | intro _)

theorem execPstepWrite_moves {W : Part → Prop} {s t : State} (h0 : W .held) (h1 : W .msix) (h2 : W .qdr) (h3 : W (.fld F.PEER_INT_CAUSE_MIRRORED)) (h4 : W (.fld F.PMC_INT_CAUSE_OVF)) (h5 : W (.fld F.PMC_INT_CAUSE_SMP_AVAIL)) (h6 : W (.fld F.PMC_INT_CAUSE_SMP_DROP)) (h7 : W (.fld F.PMC_OVF_STAT_OVF)) (h8 : W (.fld F.PMC_SMP_DROP_RING)) (h9 : W (.fld F.PMC_SMP_STAT_COUNT)) (h10 : W (.fld F.SYN_INT_CAUSE_PSTEP_RANGE)) (h11 : W (.fld F.SYN_INT_CAUSE_QL_CHG)) (h12 : W (.fld F.SYN_PSTEP_AMOUNT)) (h13 : W (.fld F.SYN_REF_STAT_ELIGIBLE)) (h14 : W (.fld F.SYN_REF_STAT_QL_EFF)) (h15 : W (.fld F.SYN_STAT_OUT_QL)) (h16 : W (.fld F.SYN_STAT_SEL_QL)) (h17 : W (.fld F.SYS_INT_CAUSE_ROLE_LIMIT)) (h18 : W (.fld H.PMC_CNT)) (h19 : W (.fld H.PMC_OVF_DUE)) (h20 : W (.fld H.PMC_OVF_T)) (h21 : W (.fld H.PMC_RING)) (h22 : W (.fld H.PMC_TRACE_POS)) (h23 : W (.fld H.SYN_KEYSTEP)) (h24 : W (.fld H.SYN_LINE_OK)) (h25 : W (.fld H.SYN_OUT_RUN)) (h26 : W (.fld H.SYN_QL_SENT)) (a0 : Nat) (a1 : Nat) (h : execPstepWrite a0 a1 s = .next t) :
    Moves W s t := by
  unfold execPstepWrite at h
  refine done_moves (by assumption) ?_ h
  repeat' (first
    | with_reducible assumption
    | with_reducible exact .refl
    | (with_reducible refine Bus_row_syn (by assumption) (by assumption) (by assumption) (by assumption) (by assumption) (by assumption) (by assumption) (by assumption) (by assumption) (by assumption) (by assumption) (by assumption) (by assumption) (by assumption) (by assumption) (by assumption) (by assumption) (by assumption) (by assumption) (by assumption) (by assumption) (by assumption) (by assumption) _ _ _ _ _ (by decide) ?_ ?_)
    | with_reducible apply Syn_pstep_moves
    | intro _)

theorem execPstepDone_moves {W : Part → Prop} {s t : State} (h0 : W .msix) (h1 : W (.fld F.SYN_INT_CAUSE_PSTEP_DONE)) (h2 : W (.fld F.SYN_PSTEP_AMOUNT)) (a0 : Nat) (h : execPstepDone a0 s = .next t) :
    Moves W s t := by
  unfold execPstepDone at h
  refine done_moves (by assumption) ?_ h
  repeat' (first
    | with_reducible assumption
    | with_reducible exact .refl
    | with_reducible apply Syn_pstepDone_moves
    | intro _)

theorem execPrivKeyWrite_moves {W : Part → Prop} {s t : State} (h0 : W .held) (h1 : W .msix) (h2 : W .qdr) (h3 : W (.fld F.PEER_INT_CAUSE_MIRRORED)) (h4 : W (.fld F.PMC_INT_CAUSE_OVF)) (h5 : W (.fld F.PMC_INT_CAUSE_SMP_AVAIL)) (h6 : W (.fld F.PMC_INT_CAUSE_SMP_DROP)) (h7 : W (.fld F.PMC_OVF_STAT_OVF)) (h8 : W (.fld F.PMC_SMP_DROP_RING)) (h9 : W (.fld F.PMC_SMP_STAT_COUNT)) (h10 : W (.fld F.SYN_INT_CAUSE_PRIV_ERR)) (h11 : W (.fld F.SYN_INT_CAUSE_QL_CHG)) (h12 : W (.fld F.SYN_REF_STAT_ELIGIBLE)) (h13 : W (.fld F.SYN_REF_STAT_QL_EFF)) (h14 : W (.fld F.SYN_STAT_OUT_QL)) (h15 : W (.fld F.SYN_STAT_SEL_QL)) (h16 : W (.fld H.PMC_CNT)) (h17 : W (.fld H.PMC_OVF_DUE)) (h18 : W (.fld H.PMC_OVF_T)) (h19 : W (.fld H.PMC_RING)) (h20 : W (.fld H.PMC_TRACE_POS)) (h21 : W (.fld H.SYN_KEYSTEP)) (h22 : W (.fld H.SYN_LINE_OK)) (h23 : W (.fld H.SYN_OUT_RUN)) (h24 : W (.fld H.SYN_QL_SENT)) (a0 : Nat) (a1 : Bool) (a2 : Nat) (h : execPrivKeyWrite a0 a1 a2 s = .next t) :
    Moves W s t := by
  unfold execPrivKeyWrite at h
  refine done_moves (by assumption) ?_ h
  repeat' (first
    | with_reducible assumption
    | with_reducible exact .refl
    | (with_reducible refine Bus_row_syn (by assumption) (by assumption) (by assumption) (by assumption) (by assumption) (by assumption) (by assumption) (by assumption) (by assumption) (by assumption) (by assumption) (by assumption) (by assumption) (by assumption) (by assumption) (by assumption) (by assumption) (by assumption) (by assumption) (by assumption) (by assumption) (by assumption) (by assumption) _ _ _ _ _ (by decide) ?_ ?_)
    | with_reducible apply Syn_privKey_moves
    | intro _)

theorem execLoopOpen_moves {W : Part → Prop} {s t : State} (h0 : W .held) (h1 : W .msix) (h2 : W .qdr) (h3 : W (.fld F.PEER_INT_CAUSE_MIRRORED)) (h4 : W (.fld F.PMC_INT_CAUSE_OVF)) (h5 : W (.fld F.PMC_INT_CAUSE_SMP_AVAIL)) (h6 : W (.fld F.PMC_INT_CAUSE_SMP_DROP)) (h7 : W (.fld F.PMC_OVF_STAT_OVF)) (h8 : W (.fld F.PMC_SMP_DROP_RING)) (h9 : W (.fld F.PMC_SMP_STAT_COUNT)) (h10 : W (.fld F.SYN_INT_CAUSE_PRIV_ERR)) (h11 : W (.fld F.SYN_INT_CAUSE_QL_CHG)) (h12 : W (.fld F.SYN_NCO_CTRL_OPEN)) (h13 : W (.fld F.SYN_NCO_CTRL_OWNER)) (h14 : W (.fld F.SYN_NCO_FREQ_F)) (h15 : W (.fld F.SYN_REF_STAT_ELIGIBLE)) (h16 : W (.fld F.SYN_REF_STAT_QL_EFF)) (h17 : W (.fld F.SYN_STAT_OUT_QL)) (h18 : W (.fld F.SYN_STAT_SEL_QL)) (h19 : W (.fld H.PMC_CNT)) (h20 : W (.fld H.PMC_OVF_DUE)) (h21 : W (.fld H.PMC_OVF_T)) (h22 : W (.fld H.PMC_RING)) (h23 : W (.fld H.PMC_TRACE_POS)) (h24 : W (.fld H.SYN_KEYSTEP)) (h25 : W (.fld H.SYN_LINE_OK)) (h26 : W (.fld H.SYN_NCO_RAMP)) (h27 : W (.fld H.SYN_OUT_RUN)) (h28 : W (.fld H.SYN_QL_SENT)) (a0 : Nat) (a1 : Bool) (a2 : Nat) (a3 : Nat) (h : execLoopOpen a0 a1 a2 a3 s = .next t) :
    Moves W s t := by
  unfold execLoopOpen at h
  refine done_moves (by assumption) ?_ h
  repeat' (first
    | with_reducible assumption
    | with_reducible exact .refl
    | (with_reducible refine Bus_row_syn (by assumption) (by assumption) (by assumption) (by assumption) (by assumption) (by assumption) (by assumption) (by assumption) (by assumption) (by assumption) (by assumption) (by assumption) (by assumption) (by assumption) (by assumption) (by assumption) (by assumption) (by assumption) (by assumption) (by assumption) (by assumption) (by assumption) (by assumption) _ _ _ _ _ (by decide) ?_ ?_)
    | with_reducible apply Syn_openLoop_moves
    | intro _)

theorem execNcoFreqWrite_moves {W : Part → Prop} {s t : State} (h0 : W .held) (h1 : W .msix) (h2 : W .qdr) (h3 : W (.fld F.PEER_INT_CAUSE_MIRRORED)) (h4 : W (.fld F.PMC_INT_CAUSE_OVF)) (h5 : W (.fld F.PMC_INT_CAUSE_SMP_AVAIL)) (h6 : W (.fld F.PMC_INT_CAUSE_SMP_DROP)) (h7 : W (.fld F.PMC_OVF_STAT_OVF)) (h8 : W (.fld F.PMC_SMP_DROP_RING)) (h9 : W (.fld F.PMC_SMP_STAT_COUNT)) (h10 : W (.fld F.SYN_INT_CAUSE_PRIV_ERR)) (h11 : W (.fld F.SYN_INT_CAUSE_QL_CHG)) (h12 : W (.fld F.SYN_NCO_FREQ_F)) (h13 : W (.fld F.SYN_REF_STAT_ELIGIBLE)) (h14 : W (.fld F.SYN_REF_STAT_QL_EFF)) (h15 : W (.fld F.SYN_STAT_OUT_QL)) (h16 : W (.fld F.SYN_STAT_SEL_QL)) (h17 : W (.fld H.PMC_CNT)) (h18 : W (.fld H.PMC_OVF_DUE)) (h19 : W (.fld H.PMC_OVF_T)) (h20 : W (.fld H.PMC_RING)) (h21 : W (.fld H.PMC_TRACE_POS)) (h22 : W (.fld H.SYN_KEYSTEP)) (h23 : W (.fld H.SYN_LINE_OK)) (h24 : W (.fld H.SYN_OUT_RUN)) (h25 : W (.fld H.SYN_QL_SENT)) (a0 : Nat) (a1 : Bool) (a2 : Nat) (a3 : Nat) (h : execNcoFreqWrite a0 a1 a2 a3 s = .next t) :
    Moves W s t := by
  unfold execNcoFreqWrite at h
  refine done_moves (by assumption) ?_ h
  repeat' (first
    | with_reducible assumption
    | with_reducible exact .refl
    | (with_reducible refine Bus_row_syn (by assumption) (by assumption) (by assumption) (by assumption) (by assumption) (by assumption) (by assumption) (by assumption) (by assumption) (by assumption) (by assumption) (by assumption) (by assumption) (by assumption) (by assumption) (by assumption) (by assumption) (by assumption) (by assumption) (by assumption) (by assumption) (by assumption) (by assumption) _ _ _ _ _ (by decide) ?_ ?_)
    | with_reducible apply Syn_ncoFreq_moves
    | intro _)

theorem execLoopClose_moves {W : Part → Prop} {s t : State} (h0 : W .held) (h1 : W .msix) (h2 : W .qdr) (h3 : W (.fld F.PEER_INT_CAUSE_MIRRORED)) (h4 : W (.fld F.PMC_INT_CAUSE_OVF)) (h5 : W (.fld F.PMC_INT_CAUSE_SMP_AVAIL)) (h6 : W (.fld F.PMC_INT_CAUSE_SMP_DROP)) (h7 : W (.fld F.PMC_OVF_STAT_OVF)) (h8 : W (.fld F.PMC_SMP_DROP_RING)) (h9 : W (.fld F.PMC_SMP_STAT_COUNT)) (h10 : W (.fld F.SYN_INT_CAUSE_PRIV_ERR)) (h11 : W (.fld F.SYN_INT_CAUSE_QL_CHG)) (h12 : W (.fld F.SYN_NCO_CTRL_OPEN)) (h13 : W (.fld F.SYN_NCO_CTRL_OWNER)) (h14 : W (.fld F.SYN_REF_STAT_ELIGIBLE)) (h15 : W (.fld F.SYN_REF_STAT_QL_EFF)) (h16 : W (.fld F.SYN_STAT_OUT_QL)) (h17 : W (.fld F.SYN_STAT_SEL_QL)) (h18 : W (.fld H.PMC_CNT)) (h19 : W (.fld H.PMC_OVF_DUE)) (h20 : W (.fld H.PMC_OVF_T)) (h21 : W (.fld H.PMC_RING)) (h22 : W (.fld H.PMC_TRACE_POS)) (h23 : W (.fld H.SYN_KEYSTEP)) (h24 : W (.fld H.SYN_LINE_OK)) (h25 : W (.fld H.SYN_NCO_RAMP)) (h26 : W (.fld H.SYN_OUT_RUN)) (h27 : W (.fld H.SYN_QL_SENT)) (a0 : Nat) (a1 : Bool) (a2 : Nat) (h : execLoopClose a0 a1 a2 s = .next t) :
    Moves W s t := by
  unfold execLoopClose at h
  refine done_moves (by assumption) ?_ h
  repeat' (first
    | with_reducible assumption
    | with_reducible exact .refl
    | (with_reducible refine Bus_row_syn (by assumption) (by assumption) (by assumption) (by assumption) (by assumption) (by assumption) (by assumption) (by assumption) (by assumption) (by assumption) (by assumption) (by assumption) (by assumption) (by assumption) (by assumption) (by assumption) (by assumption) (by assumption) (by assumption) (by assumption) (by assumption) (by assumption) (by assumption) _ _ _ _ _ (by decide) ?_ ?_)
    | with_reducible apply Syn_closeLoop_moves
    | intro _)

theorem execMaxOpenExpiry_moves {W : Part → Prop} {s t : State} (h0 : W .msix) (h1 : W (.fld F.SYN_INT_CAUSE_PRIV_CLOSED)) (h2 : W (.fld F.SYN_NCO_CTRL_OPEN)) (h3 : W (.fld F.SYN_NCO_CTRL_OWNER)) (h4 : W (.fld H.SYN_NCO_RAMP)) (a0 : Nat) (a1 : Nat) (h : execMaxOpenExpiry a0 a1 s = .next t) :
    Moves W s t := by
  unfold execMaxOpenExpiry at h
  refine done_moves (by assumption) ?_ h
  repeat' (first
    | with_reducible assumption
    | with_reducible exact .refl
    | with_reducible apply Syn_maxOpen_moves
    | intro _)

theorem execTimeSet_moves {W : Part → Prop} {s t : State} (h0 : W .held) (h1 : W .msix) (h2 : W .qdr) (h3 : W (.fld F.PEER_INT_CAUSE_MIRRORED)) (h4 : W (.fld F.PMC_INT_CAUSE_OVF)) (h5 : W (.fld F.PMC_INT_CAUSE_SMP_AVAIL)) (h6 : W (.fld F.PMC_INT_CAUSE_SMP_DROP)) (h7 : W (.fld F.PMC_OVF_STAT_OVF)) (h8 : W (.fld F.PMC_SMP_DROP_RING)) (h9 : W (.fld F.PMC_SMP_STAT_COUNT)) (h10 : W (.fld F.SYN_INT_CAUSE_QL_CHG)) (h11 : W (.fld F.SYN_REF_STAT_ELIGIBLE)) (h12 : W (.fld F.SYN_REF_STAT_QL_EFF)) (h13 : W (.fld F.SYN_STAT_OUT_QL)) (h14 : W (.fld F.SYN_STAT_SEL_QL)) (h15 : W (.fld F.SYN_TIME_CTRL_SET_PEND)) (h16 : W (.fld H.PMC_CNT)) (h17 : W (.fld H.PMC_OVF_DUE)) (h18 : W (.fld H.PMC_OVF_T)) (h19 : W (.fld H.PMC_RING)) (h20 : W (.fld H.PMC_TRACE_POS)) (h21 : W (.fld H.SYN_KEYSTEP)) (h22 : W (.fld H.SYN_LINE_OK)) (h23 : W (.fld H.SYN_OUT_RUN)) (h24 : W (.fld H.SYN_QL_SENT)) (h : execTimeSet s = .next t) :
    Moves W s t := by
  unfold execTimeSet at h
  refine done_moves (by assumption) ?_ h
  repeat' (first
    | with_reducible assumption
    | with_reducible exact .refl
    | (with_reducible refine Bus_row_syn (by assumption) (by assumption) (by assumption) (by assumption) (by assumption) (by assumption) (by assumption) (by assumption) (by assumption) (by assumption) (by assumption) (by assumption) (by assumption) (by assumption) (by assumption) (by assumption) (by assumption) (by assumption) (by assumption) (by assumption) (by assumption) (by assumption) (by assumption) _ _ _ _ _ (by decide) ?_ ?_)
    | with_reducible apply Syn_armSet_moves
    | intro _)

theorem execTimeAlign_moves {W : Part → Prop} {s t : State} (h0 : W .held) (h1 : W .msix) (h2 : W .qdr) (h3 : W (.fld F.PEER_INT_CAUSE_MIRRORED)) (h4 : W (.fld F.PMC_INT_CAUSE_OVF)) (h5 : W (.fld F.PMC_INT_CAUSE_SMP_AVAIL)) (h6 : W (.fld F.PMC_INT_CAUSE_SMP_DROP)) (h7 : W (.fld F.PMC_OVF_STAT_OVF)) (h8 : W (.fld F.PMC_SMP_DROP_RING)) (h9 : W (.fld F.PMC_SMP_STAT_COUNT)) (h10 : W (.fld F.SYN_INT_CAUSE_QL_CHG)) (h11 : W (.fld F.SYN_REF_STAT_ELIGIBLE)) (h12 : W (.fld F.SYN_REF_STAT_QL_EFF)) (h13 : W (.fld F.SYN_STAT_OUT_QL)) (h14 : W (.fld F.SYN_STAT_SEL_QL)) (h15 : W (.fld F.SYN_TIME_CTRL_ALIGN_PEND)) (h16 : W (.fld H.PMC_CNT)) (h17 : W (.fld H.PMC_OVF_DUE)) (h18 : W (.fld H.PMC_OVF_T)) (h19 : W (.fld H.PMC_RING)) (h20 : W (.fld H.PMC_TRACE_POS)) (h21 : W (.fld H.SYN_KEYSTEP)) (h22 : W (.fld H.SYN_LINE_OK)) (h23 : W (.fld H.SYN_OUT_RUN)) (h24 : W (.fld H.SYN_QL_SENT)) (h : execTimeAlign s = .next t) :
    Moves W s t := by
  unfold execTimeAlign at h
  refine done_moves (by assumption) ?_ h
  repeat' (first
    | with_reducible assumption
    | with_reducible exact .refl
    | (with_reducible refine Bus_row_syn (by assumption) (by assumption) (by assumption) (by assumption) (by assumption) (by assumption) (by assumption) (by assumption) (by assumption) (by assumption) (by assumption) (by assumption) (by assumption) (by assumption) (by assumption) (by assumption) (by assumption) (by assumption) (by assumption) (by assumption) (by assumption) (by assumption) (by assumption) _ _ _ _ _ (by decide) ?_ ?_)
    | with_reducible apply Syn_armAlign_moves
    | intro _)

theorem execPpsInEdge_moves {W : Part → Prop} {s t : State} (h0 : W .msix) (h1 : W .syn) (h2 : W (.arr F.FRM_CLI_PM_COUNT)) (h3 : W (.arr F.FRM_FPM_COUNT)) (h4 : W (.arr F.FRM_SC_PM_COUNT)) (h5 : W (.arr H.FRM_LIVE_CLI)) (h6 : W (.arr H.FRM_LIVE_F)) (h7 : W (.arr H.FRM_LIVE_SC)) (h8 : W (.arr H.FRM_SEC_CLI)) (h9 : W (.arr H.FRM_SEC_SC)) (h10 : W (.arr H.HKA_FRESH)) (h11 : W (.arr H.QDM_ERRS_SEC)) (h12 : W (.fld F.FEC_INT_CAUSE_PM_LATCH)) (h13 : W (.fld F.FEC_INT_CAUSE_PRE_SD)) (h14 : W (.fld F.FEC_ITER_HIST_COUNT)) (h15 : W (.fld F.FEC_PM_CBITS_COUNT)) (h16 : W (.fld F.FEC_PM_CBITS_HI_COUNT)) (h17 : W (.fld F.FEC_PM_CW_OK)) (h18 : W (.fld F.FEC_PM_FAIL_LDPC)) (h19 : W (.fld F.FEC_PM_FAIL_ROWS)) (h20 : W (.fld F.FEC_PM_INVAL_COUNT)) (h21 : W (.fld F.FEC_SD_MAP_SC)) (h22 : W (.fld F.FRM_BOUNDARY_TIES_COUNT)) (h23 : W (.fld F.FRM_CLI_PM_COUNT)) (h24 : W (.fld F.FRM_FPM_COUNT)) (h25 : W (.fld F.FRM_INT_CAUSE_PM_LATCH)) (h26 : W (.fld F.FRM_PM_STAT_SEQ)) (h27 : W (.fld F.FRM_SC_PM_COUNT)) (h28 : W (.fld F.HSL_CLI_FEC_COUNT)) (h29 : W (.fld F.HSL_CLI_STAT_HI_SER)) (h30 : W (.fld F.HSL_CLI_STAT_RX_LF)) (h31 : W (.fld F.HSL_CLI_STAT_RX_RF)) (h32 : W (.fld F.HSL_INT_CAUSE_HI_SER)) (h33 : W (.fld F.SE_IMG_STAT_TRIAL_LEFT)) (h34 : W (.fld F.SYN_HO_AGE_A)) (h35 : W (.fld F.SYN_HO_FREQ_F)) (h36 : W (.fld F.SYN_HO_STAT_AGE_S)) (h37 : W (.fld F.SYN_HO_STAT_FROZEN)) (h38 : W (.fld F.SYN_HO_STAT_SAMPLES)) (h39 : W (.fld F.SYN_HO_TEMP_THETA)) (h40 : W (.fld F.SYN_HO_TEMP_VALID)) (h41 : W (.fld F.SYN_INT_CAUSE_PPS_ALIGN)) (h42 : W (.fld F.SYN_INT_CAUSE_QL_CHG)) (h43 : W (.fld F.SYN_INT_CAUSE_REF_DISAGREE)) (h44 : W (.fld F.SYN_INT_CAUSE_REF_DQ)) (h45 : W (.fld F.SYN_INT_CAUSE_REF_DRIFT)) (h46 : W (.fld F.SYN_INT_CAUSE_REF_FAIL)) (h47 : W (.fld F.SYN_INT_CAUSE_REF_QUAL)) (h48 : W (.fld F.SYN_INT_CAUSE_TIME_SET)) (h49 : W (.fld F.SYN_PPS_IN_ERR_ERR)) (h50 : W (.fld F.SYN_PPS_IN_ERR_VALID)) (h51 : W (.fld F.SYN_REF_OFS_VAL)) (h52 : W (.fld F.SYN_REF_RATE_VAL)) (h53 : W (.fld F.SYN_REF_STAT_DISAGREE)) (h54 : W (.fld F.SYN_REF_STAT_ELIGIBLE)) (h55 : W (.fld F.SYN_REF_STAT_QL_EFF)) (h56 : W (.fld F.SYN_REF_STAT_STATE)) (h57 : W (.fld F.SYN_REF_STAT_WTR_LEFT)) (h58 : W (.fld F.SYN_STAT_MODEL_VALID)) (h59 : W (.fld F.SYN_STAT_OUT_QL)) (h60 : W (.fld F.SYN_STAT_SEL_QL)) (h61 : W (.fld F.SYN_TIME_CTRL_ALIGN_PEND)) (h62 : W (.fld F.SYN_TIME_CTRL_SET_PEND)) (h63 : W (.fld F.SYN_TIME_HI_VAL)) (h64 : W (.fld F.SYN_TIME_LO_VAL)) (h65 : W (.fld H.ENG_EDGE)) (h66 : W (.fld H.FEC_LIVE_CBITS)) (h67 : W (.fld H.FEC_LIVE_CW)) (h68 : W (.fld H.FEC_LIVE_HIST)) (h69 : W (.fld H.FEC_LIVE_INVAL)) (h70 : W (.fld H.FEC_LIVE_LDPC)) (h71 : W (.fld H.FEC_LIVE_ROWS)) (h72 : W (.fld H.FLW_PMI)) (h73 : W (.fld H.FRM_DEG_BAD)) (h74 : W (.fld H.FRM_DEG_GOOD)) (h75 : W (.fld H.FRM_LIVE_F)) (h76 : W (.fld H.FRM_LIVE_SC)) (h77 : W (.fld H.FRM_SEC_CLI)) (h78 : W (.fld H.FRM_SEC_SC)) (h79 : W (.fld H.FRM_SEEN_CLI)) (h80 : W (.fld H.FRM_SEEN_FLOW)) (h81 : W (.fld H.FRM_SEEN_LANE)) (h82 : W (.fld H.FRM_SEEN_LINE)) (h83 : W (.fld H.FRM_SEEN_SC)) (h84 : W (.fld H.LCM_CHAL_AGE)) (h85 : W (.fld H.SYN_GOOD)) (h86 : W (.fld H.SYN_LINE_OK)) (h87 : W (.fld H.SYN_LOCK_FULL)) (h88 : W (.fld H.SYN_OUT_RUN)) (h89 : W (.fld H.SYN_OVER)) (h90 : W (.fld H.SYN_OVER2)) (h91 : W (.fld H.SYN_PPS_AGE)) (h92 : W (.fld H.SYN_QL_SENT)) (a0 : Nat) (a1 : Sys2Proof.Second) (h : execPpsInEdge a0 a1 s = .next t) :
    Moves W s t := by
  unfold execPpsInEdge at h
  refine done_moves (by assumption) ?_ h
  repeat' (first
    | with_reducible assumption
    | with_reducible exact .refl
    | with_reducible apply Tick_ppsIn_moves
    | intro _)

theorem execPpsInValidExpiry_moves {W : Part → Prop} {s t : State} (h0 : W .msix) (h1 : W (.fld F.SYN_PPS_IN_ERR_VALID)) (a0 : Nat) (h : execPpsInValidExpiry a0 s = .next t) :
    Moves W s t := by
  unfold execPpsInValidExpiry at h
  refine done_moves (by assumption) ?_ h
  repeat' (first
    | with_reducible assumption
    | with_reducible exact .refl
    | with_reducible apply Tick_ppsExpiry_moves
    | intro _)

end Sys2Proof.Laws
end

