-- ==== Sys2Proof/Laws/MovesRemote.lean ====
section
/-! SUPPORT. Sys2Proof/Laws/MovesRemote.lean: what each operation of Machine/Remote.lean may write (Laws/Moves.lean). -/
namespace Sys2Proof.Laws
open Sys2Proof Sys2Proof.Machine

theorem Remote_respond_moves {W : Part → Prop} {s₀ s : State} (h0 : W .vlk) (h1 : W (.fld H.VLK_SEQ)) (a0 : Nat) (a1 : Nat) (a2 : Nat) (a3 : List Nat) (a4 : List Nat) (h : Moves W s₀ s) :
    Moves W s₀ (Sys2Proof.Machine.Remote.respond a0 a1 a2 a3 a4 s) := by
  unfold Sys2Proof.Machine.Remote.respond
  repeat' (first
    | with_reducible assumption
    | with_reducible apply Vlk_toHub_moves
    | intro _)

theorem Remote_writeOne_moves {W : Part → Prop} {s₀ : State} (hw : ∀ x, W x) (x : Nat × Nat) (p : List Nat × State)
    (h : Moves W s₀ p.2) : Moves W s₀ (Remote.writeOne x p).2 := by
  unfold Remote.writeOne
  extract_lets st
  split
  · dsimp only
    split
    · exact h
    · apply Reset_write_moves hw _ _ _ h
  · exact h

theorem Remote_readOne_moves {W : Part → Prop} {s₀ : State} (hw : ∀ x, W x) (a : Nat) (p : (List Nat × List Nat) × State)
    (h : Moves W s₀ p.2) : Moves W s₀ (Remote.readOne a p).2 := by
  unfold Remote.readOne
  extract_lets st
  split
  · exact h
  · exact Bus_read_moves hw _ _ h

theorem Remote_regWrite_moves {W : Part → Prop} {s₀ s : State} (hw : ∀ x, W x) (a0 : Nat) (a1 : Nat) (a2 : Nat) (a3 : List (Nat × Nat)) (h : Moves W s₀ s) :
    Moves W s₀ (Sys2Proof.Machine.Remote.regWrite a0 a1 a2 a3 s) := by
  unfold Remote.regWrite
  split
  · split
    · exact h.count _ _ _ _ (hw _)
    · exact h
  · apply Vlk_down_moves (hw _) (hw _) (hw _) _ _ _ _ _ h
    intro b hb
    extract_lets r
    have hr : Moves W s₀ r.2 := foldlSnd_moves _ (fun p x hp => Remote_writeOne_moves hw x p hp) _ hb
    clear_value r
    split
    · exact Remote_respond_moves (hw _) (hw _) _ _ _ _ _ hr
    · exact hr

theorem Remote_regRead_moves {W : Part → Prop} {s₀ s : State} (hw : ∀ x, W x) (a0 : Nat) (a1 : Nat) (a2 : Nat) (a3 : List Nat) (h : Moves W s₀ s) :
    Moves W s₀ (Sys2Proof.Machine.Remote.regRead a0 a1 a2 a3 s) := by
  unfold Remote.regRead
  split
  · split
    · exact h.count _ _ _ _ (hw _)
    · exact h
  · apply Vlk_down_moves (hw _) (hw _) (hw _) _ _ _ _ _ h
    intro b hb
    extract_lets r
    have hr : Moves W s₀ r.2 := foldlSnd_moves _ (fun p x hp => Remote_readOne_moves hw x p hp) _ hb
    clear_value r
    exact Remote_respond_moves (hw _) (hw _) _ _ _ _ _ hr

theorem Remote_fwOpen_moves {W : Part → Prop} {s₀ s : State} (h0 : W .flash) (h1 : W .vlk) (h2 : W (.arr H.VLK_FW_HAVE)) (h3 : W (.fld H.VLK_FW_CRC)) (h4 : W (.fld H.VLK_FW_ON)) (h5 : W (.fld H.VLK_FW_SIZE)) (h6 : W (.fld H.VLK_FW_VER)) (h7 : W (.fld H.VLK_HEARD)) (h8 : W (.fld H.VLK_SEQ)) (a0 : Nat) (a1 : Nat) (a2 : Nat) (a3 : Nat) (a4 : Nat) (a5 : Nat) (h : Moves W s₀ s) :
    Moves W s₀ (Sys2Proof.Machine.Remote.fwOpen a0 a1 a2 a3 a4 a5 s) := by
  unfold Sys2Proof.Machine.Remote.fwOpen
  repeat' (first
    | with_reducible assumption
    | with_reducible apply Vlk_down_moves
    | with_reducible apply Vlk_accept_moves
    | with_reducible apply Img_fwOpen_moves
    | intro _)

theorem Remote_fwData_moves {W : Part → Prop} {s₀ s : State} (h0 : W .flash) (h1 : W .vlk) (h2 : W (.fld H.VLK_FW_HAVE)) (h3 : W (.fld H.VLK_HEARD)) (h4 : W (.fld H.VLK_SEQ)) (a0 : Nat) (a1 : Nat) (a2 : Nat) (a3 : Nat) (a4 : List Nat) (h : Moves W s₀ s) :
    Moves W s₀ (Sys2Proof.Machine.Remote.fwData a0 a1 a2 a3 a4 s) := by
  unfold Sys2Proof.Machine.Remote.fwData
  repeat' (first
    | with_reducible assumption
    | with_reducible apply Vlk_down_moves
    | with_reducible apply Vlk_accept_moves
    | with_reducible apply Img_fwData_moves
    | intro _)

theorem Remote_sendFwStatus_moves {W : Part → Prop} {s₀ s : State} (h0 : W .vlk) (h1 : W (.fld H.VLK_SEQ)) (h : Moves W s₀ s) :
    Moves W s₀ (Sys2Proof.Machine.Remote.sendFwStatus s) := by
  unfold Sys2Proof.Machine.Remote.sendFwStatus
  repeat' (first
    | with_reducible assumption
    | with_reducible apply Vlk_toHub_moves
    | intro _)

theorem Remote_fwClose_moves {W : Part → Prop} {s₀ s : State} (h0 : W .vlk) (h1 : W (.fld H.VLK_FW_ON)) (h2 : W (.fld H.VLK_HEARD)) (h3 : W (.fld H.VLK_SEQ)) (a0 : Nat) (a1 : Nat) (a2 : Nat) (h : Moves W s₀ s) :
    Moves W s₀ (Sys2Proof.Machine.Remote.fwClose a0 a1 a2 s) := by
  unfold Sys2Proof.Machine.Remote.fwClose
  repeat' (first
    | with_reducible assumption
    | with_reducible apply Moves.clr
    | with_reducible apply Vlk_down_moves
    | with_reducible apply Vlk_accept_moves
    | with_reducible apply Remote_sendFwStatus_moves
    | intro _)

theorem Remote_fwStatus_moves {W : Part → Prop} {s₀ s : State} (h0 : W .vlk) (h1 : W (.fld F.VLK_INT_CAUSE_RX_AVAIL)) (h2 : W (.fld F.VLK_RXSTAT_COUNT)) (h3 : W (.fld F.VLK_RX_DROP_CNT_COUNT)) (h4 : W (.fld H.VLK_HEARD)) (h5 : W (.fld H.VLK_SEQ)) (a0 : Nat) (a1 : Nat) (a2 : Nat) (a3 : List Nat) (h : Moves W s₀ s) :
    Moves W s₀ (Sys2Proof.Machine.Remote.fwStatus a0 a1 a2 a3 s) := by
  unfold Sys2Proof.Machine.Remote.fwStatus
  repeat' (first
    | with_reducible assumption
    | with_reducible apply Vlk_down_moves
    | with_reducible apply Vlk_accept_moves
    | with_reducible apply Remote_sendFwStatus_moves
    | with_reducible apply Vlk_toRing_moves
    | intro _
    | split)

theorem Remote_fwActivate_moves {W : Part → Prop} {s₀ s : State} (hw : ∀ x, W x) (a0 : Nat) (a1 : Nat) (a2 : Nat) (h : Moves W s₀ s) :
    Moves W s₀ (Sys2Proof.Machine.Remote.fwActivate a0 a1 a2 s) := by
  unfold Sys2Proof.Machine.Remote.fwActivate
  repeat' (first
    | with_reducible assumption
    | exact hw _
    | with_reducible apply Vlk_down_moves
    | with_reducible apply Img_activate_moves
    | with_reducible apply Reset_imageIf_moves
    | intro _
    | split
    | (extract_lets +onlyGivenNames x; first
      | (refine Moves.keep (W := W) (s₀ := s₀) x ?_ ?_; rotate_left; intro hx; clear_value x; rotate_right)
      | (refine Moves.keep (W := W) (s₀ := s₀) x.2 ?_ ?_; rotate_left; intro hx; clear_value x; rotate_right)
      | (refine Moves.keep (W := W) (s₀ := s₀) x.1 ?_ ?_; rotate_left; intro hx; clear_value x; rotate_right)
      | skip))

end Sys2Proof.Laws
end

