-- ==== Sys2Proof/Laws/MovesExecVlk.lean ====
section
/-! SUPPORT. Sys2Proof/Laws/MovesExecVlk.lean: what each command of Machine/ExecVlk.lean may write (Laws/Moves.lean). -/
namespace Sys2Proof.Laws
open Sys2Proof Sys2Proof.Machine

theorem execVlkEnable_moves {W : Part → Prop} {s t : State} (h0 : W .held) (h1 : W .msix) (h2 : W .qdr) (h3 : W (.fld F.CRY_KEY_DATA_KEY)) (h4 : W (.fld F.CRY_KEY_SALT_SALT)) (h5 : W (.fld F.CRY_LOCK_STAT_LOCK_BROKEN)) (h6 : W (.fld F.CRY_LOCK_STAT_OWNER)) (h7 : W (.fld F.LTX_CTRL_MUTE)) (h8 : W (.fld F.LTX_STAT_MUTE_SRC)) (h9 : W (.fld F.MBX_INT_CAUSE_RESET_SEEN)) (h10 : W (.fld F.MBX_LOCK_STAT_LOCK_BROKEN)) (h11 : W (.fld F.MBX_LOCK_STAT_OWNER)) (h12 : W (.fld F.MBX_STAT_RX_RESET_SEEN)) (h13 : W (.fld F.MBX_STAT_SENDER_RESET_SEEN)) (h14 : W (.fld F.PEER_INT_CAUSE_MIRRORED)) (h15 : W (.fld F.PMC_INT_CAUSE_OVF)) (h16 : W (.fld F.PMC_INT_CAUSE_SMP_AVAIL)) (h17 : W (.fld F.PMC_INT_CAUSE_SMP_DROP)) (h18 : W (.fld F.PMC_OVF_STAT_OVF)) (h19 : W (.fld F.PMC_SMP_DROP_RING)) (h20 : W (.fld F.PMC_SMP_STAT_COUNT)) (h21 : W (.fld F.VLK_CTRL_EN)) (h22 : W (.fld F.VLK_INT_CAUSE_LEAF_LOST)) (h23 : W (.fld F.VLK_INT_CAUSE_STATE_CHG)) (h24 : W (.fld F.VLK_SELF_LEAF)) (h25 : W (.fld F.VLK_SELF_SILENT)) (h26 : W (.fld F.VLK_SELF_STATE)) (h27 : W (.fld H.LTX_OUTPUT)) (h28 : W (.fld H.PEER_MUTE_WAS)) (h29 : W (.fld H.PMC_CNT)) (h30 : W (.fld H.PMC_OVF_DUE)) (h31 : W (.fld H.PMC_OVF_T)) (h32 : W (.fld H.PMC_RING)) (h33 : W (.fld H.PMC_TRACE_POS)) (h34 : W (.fld H.VLK_ATTEMPT)) (h35 : W (.fld H.VLK_LISTENING)) (h36 : W (.fld H.VLK_PREV_LEAF)) (h37 : W (.fld H.VLK_REG_BASE)) (h38 : W (.fld H.VLK_REG_WAIT)) (h39 : W (.fld H.VLK_S_REST)) (h40 : W (.fld H.VLK_UP_ON)) (h : execVlkEnable s = .next t) :
    Moves W s t := by
  unfold execVlkEnable at h
  refine doneMirrored_moves (by assumption) ?_ h
  repeat' (first
    | with_reducible assumption
    | with_reducible exact .refl
    | (with_reducible refine Bus_row_other (by assumption) (by assumption) (by assumption) (by assumption) (by assumption) (by assumption) (by assumption) (by assumption) (by assumption) (by assumption) (by assumption) (by assumption) (by assumption) (by assumption) _ _ _ _ _ (by decide) ?_ ?_)
    | with_reducible apply Vlk_enable_moves
    | intro _)

theorem execVlkDisable_moves {W : Part → Prop} {s t : State} (h0 : W .held) (h1 : W .msix) (h2 : W .qdr) (h3 : W (.fld F.CRY_KEY_DATA_KEY)) (h4 : W (.fld F.CRY_KEY_SALT_SALT)) (h5 : W (.fld F.CRY_LOCK_STAT_LOCK_BROKEN)) (h6 : W (.fld F.CRY_LOCK_STAT_OWNER)) (h7 : W (.fld F.LTX_CTRL_MUTE)) (h8 : W (.fld F.LTX_STAT_MUTE_SRC)) (h9 : W (.fld F.MBX_INT_CAUSE_RESET_SEEN)) (h10 : W (.fld F.MBX_LOCK_STAT_LOCK_BROKEN)) (h11 : W (.fld F.MBX_LOCK_STAT_OWNER)) (h12 : W (.fld F.MBX_STAT_RX_RESET_SEEN)) (h13 : W (.fld F.MBX_STAT_SENDER_RESET_SEEN)) (h14 : W (.fld F.PEER_INT_CAUSE_MIRRORED)) (h15 : W (.fld F.PMC_INT_CAUSE_OVF)) (h16 : W (.fld F.PMC_INT_CAUSE_SMP_AVAIL)) (h17 : W (.fld F.PMC_INT_CAUSE_SMP_DROP)) (h18 : W (.fld F.PMC_OVF_STAT_OVF)) (h19 : W (.fld F.PMC_SMP_DROP_RING)) (h20 : W (.fld F.PMC_SMP_STAT_COUNT)) (h21 : W (.fld F.VLK_CTRL_EN)) (h22 : W (.fld F.VLK_INT_CAUSE_LEAF_LOST)) (h23 : W (.fld F.VLK_INT_CAUSE_STATE_CHG)) (h24 : W (.fld F.VLK_SELF_LEAF)) (h25 : W (.fld F.VLK_SELF_SILENT)) (h26 : W (.fld F.VLK_SELF_STATE)) (h27 : W (.fld H.LTX_OUTPUT)) (h28 : W (.fld H.PEER_MUTE_WAS)) (h29 : W (.fld H.PMC_CNT)) (h30 : W (.fld H.PMC_OVF_DUE)) (h31 : W (.fld H.PMC_OVF_T)) (h32 : W (.fld H.PMC_RING)) (h33 : W (.fld H.PMC_TRACE_POS)) (h34 : W (.fld H.VLK_ATTEMPT)) (h35 : W (.fld H.VLK_LISTENING)) (h36 : W (.fld H.VLK_PREV_LEAF)) (h37 : W (.fld H.VLK_REG_BASE)) (h38 : W (.fld H.VLK_REG_WAIT)) (h39 : W (.fld H.VLK_S_REST)) (h40 : W (.fld H.VLK_UP_ON)) (h : execVlkDisable s = .next t) :
    Moves W s t := by
  unfold execVlkDisable at h
  refine doneMirrored_moves (by assumption) ?_ h
  repeat' (first
    | with_reducible assumption
    | with_reducible exact .refl
    | (with_reducible refine Bus_row_other (by assumption) (by assumption) (by assumption) (by assumption) (by assumption) (by assumption) (by assumption) (by assumption) (by assumption) (by assumption) (by assumption) (by assumption) (by assumption) (by assumption) _ _ _ _ _ (by decide) ?_ ?_)
    | with_reducible apply Vlk_disable_moves
    | intro _)

theorem execVdfReceive_moves {W : Part → Prop} {s t : State} (h0 : W .msix) (h1 : W .qdr) (h2 : W .vlk) (h3 : W (.fld F.CRY_KEY_DATA_KEY)) (h4 : W (.fld F.CRY_KEY_SALT_SALT)) (h5 : W (.fld F.CRY_LOCK_STAT_LOCK_BROKEN)) (h6 : W (.fld F.CRY_LOCK_STAT_OWNER)) (h7 : W (.fld F.LSR_STAT_SER_BUSY)) (h8 : W (.fld F.LTX_CTRL_MUTE)) (h9 : W (.fld F.LTX_STAT_MUTE_SRC)) (h10 : W (.fld F.MBX_INT_CAUSE_RESET_SEEN)) (h11 : W (.fld F.MBX_LOCK_STAT_LOCK_BROKEN)) (h12 : W (.fld F.MBX_LOCK_STAT_OWNER)) (h13 : W (.fld F.MBX_STAT_RX_RESET_SEEN)) (h14 : W (.fld F.MBX_STAT_SENDER_RESET_SEEN)) (h15 : W (.fld F.PMC_INT_CAUSE_OVF)) (h16 : W (.fld F.PMC_INT_CAUSE_SMP_AVAIL)) (h17 : W (.fld F.PMC_INT_CAUSE_SMP_DROP)) (h18 : W (.fld F.PMC_OVF_STAT_OVF)) (h19 : W (.fld F.PMC_SMP_DROP_RING)) (h20 : W (.fld F.PMC_SMP_STAT_COUNT)) (h21 : W (.fld F.VLK_CRC_ERR_CNT_COUNT)) (h22 : W (.fld F.VLK_INT_CAUSE_LEAF_LOST)) (h23 : W (.fld F.VLK_INT_CAUSE_STATE_CHG)) (h24 : W (.fld F.VLK_SELF_EQD_EQD)) (h25 : W (.fld F.VLK_SELF_LEAF)) (h26 : W (.fld F.VLK_SELF_SILENT)) (h27 : W (.fld F.VLK_SELF_STATE)) (h28 : W (.fld H.LSR_HOST_PEND)) (h29 : W (.fld H.LSR_HOST_RUN)) (h30 : W (.fld H.LSR_OWN_CMD)) (h31 : W (.fld H.LSR_OWN_PEND)) (h32 : W (.fld H.LSR_OWN_RUN)) (h33 : W (.fld H.LSR_SET)) (h34 : W (.fld H.LSR_TUNE_CMD)) (h35 : W (.fld H.LSR_TUNE_PEND)) (h36 : W (.fld H.LTX_OUTPUT)) (h37 : W (.fld H.PEER_MUTE_WAS)) (h38 : W (.fld H.PMC_CNT)) (h39 : W (.fld H.PMC_OVF_DUE)) (h40 : W (.fld H.PMC_OVF_T)) (h41 : W (.fld H.PMC_RING)) (h42 : W (.fld H.PMC_TRACE_POS)) (h43 : W (.fld H.VLK_ATTEMPT)) (h44 : W (.fld H.VLK_EQD_DELTA)) (h45 : W (.fld H.VLK_EQD_NOW)) (h46 : W (.fld H.VLK_FEEDER_IN)) (h47 : W (.fld H.VLK_FEEDER_USE)) (h48 : W (.fld H.VLK_G_NAK_SENT)) (h49 : W (.fld H.VLK_G_SWAP)) (h50 : W (.fld H.VLK_G_SWAP_MF)) (h51 : W (.fld H.VLK_HEARD)) (h52 : W (.fld H.VLK_LISTENING)) (h53 : W (.fld H.VLK_LISTEN_READ)) (h54 : W (.fld H.VLK_NO_VDF)) (h55 : W (.fld H.VLK_OPEN_NOW)) (h56 : W (.fld H.VLK_PREV_LEAF)) (h57 : W (.fld H.VLK_REG_BASE)) (h58 : W (.fld H.VLK_REG_WAIT)) (h59 : W (.fld H.VLK_RX_GVER)) (h60 : W (.fld H.VLK_SEQ)) (h61 : W (.fld H.VLK_SWITCH_SILENT)) (h62 : W (.fld H.VLK_S_REST)) (h63 : W (.fld H.VLK_UP_ON)) (a0 : Nat) (a1 : Nat) (a2 : Nat) (a3 : Nat) (a4 : Nat) (a5 : Nat) (a6 : Nat) (a7 : Nat) (a8 : Nat) (a9 : Nat) (a10 : Nat) (h : execVdfReceive a0 a1 a2 a3 a4 a5 a6 a7 a8 a9 a10 s = .next t) :
    Moves W s t := by
  unfold execVdfReceive at h
  refine doneMirrored_moves (by assumption) ?_ h
  repeat' (first
    | with_reducible assumption
    | with_reducible exact .refl
    | with_reducible apply Vlk_vdfReceive_moves
    | intro _)

theorem execBeaconLost_moves {W : Part → Prop} {s t : State} (h0 : W .msix) (h1 : W .qdr) (h2 : W (.fld F.CRY_KEY_DATA_KEY)) (h3 : W (.fld F.CRY_KEY_SALT_SALT)) (h4 : W (.fld F.CRY_LOCK_STAT_LOCK_BROKEN)) (h5 : W (.fld F.CRY_LOCK_STAT_OWNER)) (h6 : W (.fld F.LTX_CTRL_MUTE)) (h7 : W (.fld F.LTX_STAT_MUTE_SRC)) (h8 : W (.fld F.MBX_INT_CAUSE_RESET_SEEN)) (h9 : W (.fld F.MBX_LOCK_STAT_LOCK_BROKEN)) (h10 : W (.fld F.MBX_LOCK_STAT_OWNER)) (h11 : W (.fld F.MBX_STAT_RX_RESET_SEEN)) (h12 : W (.fld F.MBX_STAT_SENDER_RESET_SEEN)) (h13 : W (.fld F.PMC_INT_CAUSE_OVF)) (h14 : W (.fld F.PMC_INT_CAUSE_SMP_AVAIL)) (h15 : W (.fld F.PMC_INT_CAUSE_SMP_DROP)) (h16 : W (.fld F.PMC_OVF_STAT_OVF)) (h17 : W (.fld F.PMC_SMP_DROP_RING)) (h18 : W (.fld F.PMC_SMP_STAT_COUNT)) (h19 : W (.fld F.VLK_INT_CAUSE_LEAF_LOST)) (h20 : W (.fld F.VLK_INT_CAUSE_STATE_CHG)) (h21 : W (.fld F.VLK_SELF_LEAF)) (h22 : W (.fld F.VLK_SELF_SILENT)) (h23 : W (.fld F.VLK_SELF_STATE)) (h24 : W (.fld H.LTX_OUTPUT)) (h25 : W (.fld H.PEER_MUTE_WAS)) (h26 : W (.fld H.PMC_CNT)) (h27 : W (.fld H.PMC_OVF_DUE)) (h28 : W (.fld H.PMC_OVF_T)) (h29 : W (.fld H.PMC_RING)) (h30 : W (.fld H.PMC_TRACE_POS)) (h31 : W (.fld H.VLK_ATTEMPT)) (h32 : W (.fld H.VLK_LISTENING)) (h33 : W (.fld H.VLK_PREV_LEAF)) (h34 : W (.fld H.VLK_REG_BASE)) (h35 : W (.fld H.VLK_REG_WAIT)) (h36 : W (.fld H.VLK_S_REST)) (h37 : W (.fld H.VLK_UP_ON)) (a0 : Nat) (h : execBeaconLost a0 s = .next t) :
    Moves W s t := by
  unfold execBeaconLost at h
  refine done_moves (by assumption) ?_ h
  repeat' (first
    | with_reducible assumption
    | with_reducible exact .refl
    | with_reducible apply Vlk_beaconLost_moves
    | intro _)

theorem execMgmtContainer_moves {W : Part → Prop} {s t : State} (h0 : W .msix) (h1 : W (.fld F.VLK_CRC_ERR_CNT_COUNT)) (a0 : Nat) (a1 : Nat) (h : execMgmtContainer a0 a1 s = .next t) :
    Moves W s t := by
  unfold execMgmtContainer at h
  refine done_moves (by assumption) ?_ h
  repeat' (first
    | with_reducible assumption
    | with_reducible exact .refl
    | with_reducible apply Vlk_container_moves
    | intro _)

theorem execTreeInfo_moves {W : Part → Prop} {s t : State} (h0 : W .msix) (h1 : W .vlk) (h2 : W (.fld F.LSR_STAT_SER_BUSY)) (h3 : W (.fld F.VLK_REG_CFG_RSC_M1)) (h4 : W (.fld F.VLK_REG_SC_SC)) (h5 : W (.fld F.VLK_US_OFS_OFS)) (h6 : W (.fld H.LSR_HOST_PEND)) (h7 : W (.fld H.LSR_HOST_RUN)) (h8 : W (.fld H.LSR_OWN_CMD)) (h9 : W (.fld H.LSR_OWN_PEND)) (h10 : W (.fld H.LSR_OWN_RUN)) (h11 : W (.fld H.LSR_SET)) (h12 : W (.fld H.LSR_TUNE_CMD)) (h13 : W (.fld H.LSR_TUNE_PEND)) (h14 : W (.fld H.VLK_HEARD)) (h15 : W (.fld H.VLK_SEQ)) (h16 : W (.fld H.VLK_T_BAUD)) (h17 : W (.fld H.VLK_T_EQ)) (h18 : W (.fld H.VLK_T_NSC_M1)) (h19 : W (.fld H.VLK_T_RATES)) (h20 : W (.fld H.VLK_T_SPACING)) (a0 : Nat) (a1 : Nat) (a2 : Nat) (a3 : Nat) (a4 : Nat) (a5 : Nat) (a6 : Nat) (a7 : Nat) (a8 : Nat) (a9 : List Nat) (a10 : Nat) (h : execTreeInfo a0 a1 a2 a3 a4 a5 a6 a7 a8 a9 a10 s = .next t) :
    Moves W s t := by
  unfold execTreeInfo at h
  refine done_moves (by assumption) ?_ h
  repeat' (first
    | with_reducible assumption
    | with_reducible exact .refl
    | with_reducible apply Vlk_down_moves
    | with_reducible apply Vlk_accept_moves
    | with_reducible apply Vlk_treeInfo_moves
    | intro _)

theorem execRegReq_moves {W : Part → Prop} {s t : State} (h0 : W .brx) (h1 : W .msix) (h2 : W .vlk) (h3 : W (.fld F.VLK_INT_CAUSE_DUP_ID)) (h4 : W (.fld F.VLK_INT_CAUSE_REREG)) (h5 : W (.fld F.VLK_INT_CAUSE_RX_AVAIL)) (h6 : W (.fld F.VLK_RXSTAT_COUNT)) (h7 : W (.fld F.VLK_RX_DROP_CNT_COUNT)) (h8 : W (.fld F.VLK_STAT_DUP_REQ)) (a0 : Nat) (h : execRegReq a0 s = .next t) :
    Moves W s t := by
  unfold execRegReq at h
  refine doneMirrored_moves (by assumption) ?_ h
  repeat' (first
    | with_reducible assumption
    | with_reducible exact .refl
    | with_reducible apply Brx_regReq_moves
    | intro _)

theorem execRegAssign_moves {W : Part → Prop} {s t : State} (h0 : W .msix) (h1 : W .qdr) (h2 : W .vlk) (h3 : W (.arr H.FEC_RX_ON)) (h4 : W (.arr H.FEC_RX_POS)) (h5 : W (.arr H.FEC_RX_WAIT)) (h6 : W (.arr H.FEC_SL_ON)) (h7 : W (.arr H.FEC_SL_POS)) (h8 : W (.arr H.FEC_SL_WAIT)) (h9 : W (.fld F.CRY_KEY_DATA_KEY)) (h10 : W (.fld F.CRY_KEY_SALT_SALT)) (h11 : W (.fld F.CRY_LOCK_STAT_LOCK_BROKEN)) (h12 : W (.fld F.CRY_LOCK_STAT_OWNER)) (h13 : W (.fld F.CVT_ADC_STAT_MAP_ERR)) (h14 : W (.fld F.LRX_CTRL_EN)) (h15 : W (.fld F.LRX_INT_CAUSE_CFG_ERR)) (h16 : W (.fld F.LRX_INT_CAUSE_LOAD_CANCELLED)) (h17 : W (.fld F.LRX_INT_CAUSE_LOS_CHG)) (h18 : W (.fld F.LRX_INT_CAUSE_TRACK)) (h19 : W (.fld F.LRX_INT_CAUSE_TRACK_LOST)) (h20 : W (.fld F.LRX_RXGRP_K_HI)) (h21 : W (.fld F.LRX_RXGRP_K_LO)) (h22 : W (.fld F.LRX_SC_STAT_LOCK)) (h23 : W (.fld F.LRX_STAT_ACQ_RETRY)) (h24 : W (.fld F.LRX_STAT_ANNOUNCED)) (h25 : W (.fld F.LRX_STAT_CD_ARMED)) (h26 : W (.fld F.LRX_STAT_CD_FADING)) (h27 : W (.fld F.LRX_STAT_CD_HELD)) (h28 : W (.fld F.LRX_STAT_CFG_STEP)) (h29 : W (.fld F.LRX_STAT_LOS)) (h30 : W (.fld F.LRX_STAT_SHADOW_READY)) (h31 : W (.fld F.LRX_STAT_STATE)) (h32 : W (.fld F.LSR_STAT_SER_BUSY)) (h33 : W (.fld F.LTX_CTRL_MUTE)) (h34 : W (.fld F.LTX_FREQ_OFS_OFS)) (h35 : W (.fld F.LTX_INT_CAUSE_CFG_ERR)) (h36 : W (.fld F.LTX_STAT_MUTE_SRC)) (h37 : W (.fld F.MBX_INT_CAUSE_RESET_SEEN)) (h38 : W (.fld F.MBX_LOCK_STAT_LOCK_BROKEN)) (h39 : W (.fld F.MBX_LOCK_STAT_OWNER)) (h40 : W (.fld F.MBX_STAT_RX_RESET_SEEN)) (h41 : W (.fld F.MBX_STAT_SENDER_RESET_SEEN)) (h42 : W (.fld F.PMC_INT_CAUSE_OVF)) (h43 : W (.fld F.PMC_INT_CAUSE_SMP_AVAIL)) (h44 : W (.fld F.PMC_INT_CAUSE_SMP_DROP)) (h45 : W (.fld F.PMC_OVF_STAT_OVF)) (h46 : W (.fld F.PMC_SMP_DROP_RING)) (h47 : W (.fld F.PMC_SMP_STAT_COUNT)) (h48 : W (.fld F.PWR_AVS_READ_BUSY)) (h49 : W (.fld F.PWR_VMIN_VMIN_MV)) (h50 : W (.fld F.PWR_VMIN_VREQ_MV)) (h51 : W (.fld F.SCM_CHG_STAT_US_STATE)) (h52 : W (.fld F.SYS_INT_CAUSE_ROLE_LIMIT)) (h53 : W (.fld F.VLK_INT_CAUSE_LEAF_LOST)) (h54 : W (.fld F.VLK_INT_CAUSE_STATE_CHG)) (h55 : W (.fld F.VLK_SELF_EQD_EQD)) (h56 : W (.fld F.VLK_SELF_EQD_VALID)) (h57 : W (.fld F.VLK_SELF_LEAF)) (h58 : W (.fld F.VLK_SELF_MEMBER)) (h59 : W (.fld F.VLK_SELF_SILENT)) (h60 : W (.fld F.VLK_SELF_STATE)) (h61 : W (.fld H.LRX_D_NOW)) (h62 : W (.fld H.LRX_LLR_HOLD)) (h63 : W (.fld H.LRX_QUAD)) (h64 : W (.fld H.LRX_SWAP_DUE)) (h65 : W (.fld H.LRX_TAPS)) (h66 : W (.fld H.LRX_WIN_LOCK)) (h67 : W (.fld H.LSR_HOST_PEND)) (h68 : W (.fld H.LSR_HOST_RUN)) (h69 : W (.fld H.LSR_OWN_CMD)) (h70 : W (.fld H.LSR_OWN_PEND)) (h71 : W (.fld H.LSR_OWN_RUN)) (h72 : W (.fld H.LSR_SET)) (h73 : W (.fld H.LSR_TUNE_CMD)) (h74 : W (.fld H.LSR_TUNE_PEND)) (h75 : W (.fld H.LTX_OFS_PENDING)) (h76 : W (.fld H.LTX_OUTPUT)) (h77 : W (.fld H.PEER_MUTE_WAS)) (h78 : W (.fld H.PMC_CNT)) (h79 : W (.fld H.PMC_OVF_DUE)) (h80 : W (.fld H.PMC_OVF_T)) (h81 : W (.fld H.PMC_RING)) (h82 : W (.fld H.PMC_TRACE_POS)) (h83 : W (.fld H.PWR_HOLD_RX)) (h84 : W (.fld H.PWR_TARGET)) (h85 : W (.fld H.PWR_VMIN_ASKED)) (h86 : W (.fld H.PWR_VMIN_FAILED)) (h87 : W (.fld H.PWR_VMIN_WAITS)) (h88 : W (.fld H.VLK_ATTEMPT)) (h89 : W (.fld H.VLK_EQD_DELTA)) (h90 : W (.fld H.VLK_EQD_NOW)) (h91 : W (.fld H.VLK_FEEDER_USE)) (h92 : W (.fld H.VLK_HEARD)) (h93 : W (.fld H.VLK_LISTENING)) (h94 : W (.fld H.VLK_PREV_LEAF)) (h95 : W (.fld H.VLK_REG_BASE)) (h96 : W (.fld H.VLK_REG_WAIT)) (h97 : W (.fld H.VLK_SEQ)) (h98 : W (.fld H.VLK_S_REST)) (h99 : W (.fld H.VLK_UP_ON)) (h100 : W (.fld H.VLK_UP_START)) (a0 : Nat) (a1 : Nat) (a2 : Nat) (a3 : Nat) (a4 : Nat) (a5 : Nat) (a6 : Nat) (a7 : Nat) (a8 : Nat) (a9 : Nat) (a10 : Nat) (a11 : Nat) (a12 : Nat) (a13 : Nat) (a14 : Nat) (h : execRegAssign a0 a1 a2 a3 a4 a5 a6 a7 a8 a9 a10 a11 a12 a13 a14 s = .next t) :
    Moves W s t := by
  unfold execRegAssign at h
  refine doneMirrored_moves (by assumption) ?_ h
  repeat' (first
    | with_reducible assumption
    | with_reducible exact .refl
    | with_reducible apply Vlk_regAssign_moves
    | intro _)

theorem execRegReject_moves {W : Part → Prop} {s t : State} (h0 : W .msix) (h1 : W .qdr) (h2 : W (.fld F.CRY_KEY_DATA_KEY)) (h3 : W (.fld F.CRY_KEY_SALT_SALT)) (h4 : W (.fld F.CRY_LOCK_STAT_LOCK_BROKEN)) (h5 : W (.fld F.CRY_LOCK_STAT_OWNER)) (h6 : W (.fld F.LTX_CTRL_MUTE)) (h7 : W (.fld F.LTX_STAT_MUTE_SRC)) (h8 : W (.fld F.MBX_INT_CAUSE_RESET_SEEN)) (h9 : W (.fld F.MBX_LOCK_STAT_LOCK_BROKEN)) (h10 : W (.fld F.MBX_LOCK_STAT_OWNER)) (h11 : W (.fld F.MBX_STAT_RX_RESET_SEEN)) (h12 : W (.fld F.MBX_STAT_SENDER_RESET_SEEN)) (h13 : W (.fld F.PMC_INT_CAUSE_OVF)) (h14 : W (.fld F.PMC_INT_CAUSE_SMP_AVAIL)) (h15 : W (.fld F.PMC_INT_CAUSE_SMP_DROP)) (h16 : W (.fld F.PMC_OVF_STAT_OVF)) (h17 : W (.fld F.PMC_SMP_DROP_RING)) (h18 : W (.fld F.PMC_SMP_STAT_COUNT)) (h19 : W (.fld F.VLK_INT_CAUSE_LEAF_LOST)) (h20 : W (.fld F.VLK_INT_CAUSE_STATE_CHG)) (h21 : W (.fld F.VLK_SELF_LEAF)) (h22 : W (.fld F.VLK_SELF_SILENT)) (h23 : W (.fld F.VLK_SELF_STATE)) (h24 : W (.fld H.LTX_OUTPUT)) (h25 : W (.fld H.PEER_MUTE_WAS)) (h26 : W (.fld H.PMC_CNT)) (h27 : W (.fld H.PMC_OVF_DUE)) (h28 : W (.fld H.PMC_OVF_T)) (h29 : W (.fld H.PMC_RING)) (h30 : W (.fld H.PMC_TRACE_POS)) (h31 : W (.fld H.VLK_ATTEMPT)) (h32 : W (.fld H.VLK_LISTENING)) (h33 : W (.fld H.VLK_PREV_LEAF)) (h34 : W (.fld H.VLK_REG_BASE)) (h35 : W (.fld H.VLK_REG_WAIT)) (h36 : W (.fld H.VLK_S_REST)) (h37 : W (.fld H.VLK_UP_ON)) (a0 : Nat) (a1 : Nat) (h : execRegReject a0 a1 s = .next t) :
    Moves W s t := by
  unfold execRegReject at h
  refine done_moves (by assumption) ?_ h
  repeat' (first
    | with_reducible assumption
    | with_reducible exact .refl
    | with_reducible apply Vlk_regReject_moves
    | intro _)

theorem execRegConfirm_moves {W : Part → Prop} {s t : State} (h0 : W .msix) (h1 : W .vlk) (h2 : W (.fld F.VLK_LEAF_STATE)) (h3 : W (.fld F.VLK_STAT_ACTIVE_CNT)) (h4 : W (.fld H.SCM_ADDRESSED)) (h5 : W (.fld H.SCM_GRANT_ADDR)) (h6 : W (.fld H.VLK_REST_SET)) (h7 : W (.fld H.VLK_SEQ)) (h8 : W (.fld H.VLK_WAKE_BIT)) (a0 : Nat) (a1 : Nat) (a2 : Nat) (h : execRegConfirm a0 a1 a2 s = .next t) :
    Moves W s t := by
  unfold execRegConfirm at h
  refine doneMirrored_moves (by assumption) ?_ h
  repeat' (first
    | with_reducible assumption
    | with_reducible exact .refl
    | with_reducible apply Vlk_up_moves
    | with_reducible apply Vlk_accept_moves
    | with_reducible apply Vlk_regConfirm_moves
    | intro _)

theorem execDereg_moves {W : Part → Prop} {s t : State} (h0 : W .msix) (h1 : W .qdr) (h2 : W .vlk) (h3 : W (.fld F.CRY_KEY_DATA_KEY)) (h4 : W (.fld F.CRY_KEY_SALT_SALT)) (h5 : W (.fld F.CRY_LOCK_STAT_LOCK_BROKEN)) (h6 : W (.fld F.CRY_LOCK_STAT_OWNER)) (h7 : W (.fld F.LTX_CTRL_MUTE)) (h8 : W (.fld F.LTX_STAT_MUTE_SRC)) (h9 : W (.fld F.MBX_INT_CAUSE_RESET_SEEN)) (h10 : W (.fld F.MBX_LOCK_STAT_LOCK_BROKEN)) (h11 : W (.fld F.MBX_LOCK_STAT_OWNER)) (h12 : W (.fld F.MBX_STAT_RX_RESET_SEEN)) (h13 : W (.fld F.MBX_STAT_SENDER_RESET_SEEN)) (h14 : W (.fld F.PMC_INT_CAUSE_OVF)) (h15 : W (.fld F.PMC_INT_CAUSE_SMP_AVAIL)) (h16 : W (.fld F.PMC_INT_CAUSE_SMP_DROP)) (h17 : W (.fld F.PMC_OVF_STAT_OVF)) (h18 : W (.fld F.PMC_SMP_DROP_RING)) (h19 : W (.fld F.PMC_SMP_STAT_COUNT)) (h20 : W (.fld F.VLK_INT_CAUSE_LEAF_LOST)) (h21 : W (.fld F.VLK_INT_CAUSE_STATE_CHG)) (h22 : W (.fld F.VLK_LEAF_STATE)) (h23 : W (.fld F.VLK_SELF_LEAF)) (h24 : W (.fld F.VLK_SELF_SILENT)) (h25 : W (.fld F.VLK_SELF_STATE)) (h26 : W (.fld F.VLK_STAT_ACTIVE_CNT)) (h27 : W (.fld H.LTX_OUTPUT)) (h28 : W (.fld H.PEER_MUTE_WAS)) (h29 : W (.fld H.PMC_CNT)) (h30 : W (.fld H.PMC_OVF_DUE)) (h31 : W (.fld H.PMC_OVF_T)) (h32 : W (.fld H.PMC_RING)) (h33 : W (.fld H.PMC_TRACE_POS)) (h34 : W (.fld H.SCM_ADDRESSED)) (h35 : W (.fld H.SCM_GRANT_ADDR)) (h36 : W (.fld H.VLK_ATTEMPT)) (h37 : W (.fld H.VLK_HEARD)) (h38 : W (.fld H.VLK_LISTENING)) (h39 : W (.fld H.VLK_PREV_LEAF)) (h40 : W (.fld H.VLK_REG_BASE)) (h41 : W (.fld H.VLK_REG_WAIT)) (h42 : W (.fld H.VLK_REST_SET)) (h43 : W (.fld H.VLK_SEQ)) (h44 : W (.fld H.VLK_S_REST)) (h45 : W (.fld H.VLK_UP_ON)) (h46 : W (.fld H.VLK_WAKE_BIT)) (a0 : Nat) (a1 : Nat) (a2 : Nat) (h : execDereg a0 a1 a2 s = .next t) :
    Moves W s t := by
  unfold execDereg at h
  refine doneMirrored_moves (by assumption) ?_ h
  repeat' (first
    | with_reducible assumption
    | with_reducible exact .refl
    | with_reducible apply Vlk_dereg_moves
    | intro _)

theorem execRangeAdj_moves {W : Part → Prop} {s t : State} (h0 : W .msix) (h1 : W .vlk) (h2 : W (.fld H.VLK_EQD_DELTA)) (h3 : W (.fld H.VLK_HEARD)) (h4 : W (.fld H.VLK_SEQ)) (a0 : Nat) (a1 : Nat) (a2 : Nat) (a3 : Int) (h : execRangeAdj a0 a1 a2 a3 s = .next t) :
    Moves W s t := by
  unfold execRangeAdj at h
  refine done_moves (by assumption) ?_ h
  repeat' (first
    | with_reducible assumption
    | with_reducible exact .refl
    | with_reducible apply Vlk_down_moves
    | with_reducible apply Vlk_accept_moves
    | with_reducible apply Vlk_rangeAdj_moves
    | intro _)

theorem execFreqAdj_moves {W : Part → Prop} {s t : State} (h0 : W .msix) (h1 : W .vlk) (h2 : W (.fld F.LTX_FREQ_OFS_OFS)) (h3 : W (.fld F.LTX_INT_CAUSE_CFG_ERR)) (h4 : W (.fld H.LTX_OFS_PENDING)) (h5 : W (.fld H.VLK_HEARD)) (h6 : W (.fld H.VLK_SEQ)) (a0 : Nat) (a1 : Nat) (a2 : Nat) (a3 : Int) (h : execFreqAdj a0 a1 a2 a3 s = .next t) :
    Moves W s t := by
  unfold execFreqAdj at h
  refine done_moves (by assumption) ?_ h
  repeat' (first
    | with_reducible assumption
    | with_reducible exact .refl
    | with_reducible apply Vlk_down_moves
    | with_reducible apply Vlk_freqAdj_moves
    | intro _)

theorem execGrantTable_moves {W : Part → Prop} {s t : State} (h0 : W .msix) (h1 : W .vlk) (h2 : W (.fld H.VLK_G_NAK_SENT)) (h3 : W (.fld H.VLK_G_SC_SHADOW)) (h4 : W (.fld H.VLK_G_SHADOW)) (h5 : W (.fld H.VLK_G_SHADOW_VER)) (h6 : W (.fld H.VLK_HEARD)) (h7 : W (.fld H.VLK_SEQ)) (a0 : Nat) (a1 : Nat) (a2 : Nat) (a3 : Nat) (a4 : List (List Nat)) (h : execGrantTable a0 a1 a2 a3 a4 s = .next t) :
    Moves W s t := by
  unfold execGrantTable at h
  refine doneMirrored_moves (by assumption) ?_ h
  repeat' (first
    | with_reducible assumption
    | with_reducible exact .refl
    | with_reducible apply Vlk_down_moves
    | with_reducible apply Vlk_accept_moves
    | with_reducible apply Vlk_grantTable_moves
    | intro _)

theorem execGrantAck_moves {W : Part → Prop} {s t : State} (h0 : W .msix) (h1 : W .vlk) (h2 : W (.fld F.SCM_GRANT_STAT_STATE)) (h3 : W (.fld F.SCM_INT_CAUSE_CHG_FAIL)) (h4 : W (.fld F.SCM_NAK_MAP_LEAF)) (h5 : W (.fld F.VLK_INT_CAUSE_GRANT_FAIL)) (h6 : W (.fld H.SCM_GRANT_ACKED)) (h7 : W (.fld H.SCM_GRANT_ADDR)) (h8 : W (.fld H.VLK_SEQ)) (a0 : Nat) (a1 : Nat) (a2 : Nat) (a3 : Nat) (a4 : Nat) (h : execGrantAck a0 a1 a2 a3 a4 s = .next t) :
    Moves W s t := by
  unfold execGrantAck at h
  refine doneMirrored_moves (by assumption) ?_ h
  repeat' (first
    | with_reducible assumption
    | with_reducible exact .refl
    | with_reducible apply Vlk_up_moves
    | with_reducible apply Vlk_accept_moves
    | with_reducible apply Scm_grantAcked_moves
    | intro _)

theorem execLoadTable_moves {W : Part → Prop} {s t : State} (h0 : W .msix) (h1 : W .vlk) (h2 : W (.fld F.LRX_INT_CAUSE_SHADOW_LOCKED)) (h3 : W (.fld F.LRX_INT_CAUSE_TABLE_ERR)) (h4 : W (.fld F.LRX_STAT_ERR_SC)) (h5 : W (.fld F.LRX_STAT_SHADOW_READY)) (h6 : W (.fld F.LTX_INT_CAUSE_SHADOW_LOCKED)) (h7 : W (.fld F.LTX_INT_CAUSE_TABLE_ERR)) (h8 : W (.fld F.LTX_STAT_ERR_SC)) (h9 : W (.fld F.LTX_STAT_SHADOW_READY)) (h10 : W (.fld H.LRX_SHADOW)) (h11 : W (.fld H.LRX_SHADOW_VER)) (h12 : W (.fld H.LTX_SHADOW)) (h13 : W (.fld H.LTX_SHADOW_VER)) (h14 : W (.fld H.VLK_HEARD)) (h15 : W (.fld H.VLK_SEQ)) (a0 : Nat) (a1 : Nat) (a2 : Nat) (a3 : Nat) (a4 : Nat) (a5 : Nat) (a6 : List Nat) (h : execLoadTable a0 a1 a2 a3 a4 a5 a6 s = .next t) :
    Moves W s t := by
  unfold execLoadTable at h
  refine doneMirrored_moves (by assumption) ?_ h
  repeat' (first
    | with_reducible assumption
    | with_reducible exact .refl
    | with_reducible apply Vlk_down_moves
    | with_reducible apply Vlk_accept_moves
    | with_reducible apply Vlk_loadTable_moves
    | intro _)

theorem execLoadAck_moves {W : Part → Prop} {s t : State} (h0 : W .msix) (h1 : W .vlk) (h2 : W (.fld H.SCM_ACKED)) (h3 : W (.fld H.VLK_SEQ)) (a0 : Nat) (a1 : Nat) (a2 : Nat) (a3 : Nat) (a4 : Nat) (h : execLoadAck a0 a1 a2 a3 a4 s = .next t) :
    Moves W s t := by
  unfold execLoadAck at h
  refine doneMirrored_moves (by assumption) ?_ h
  repeat' (first
    | with_reducible assumption
    | with_reducible exact .refl
    | with_reducible apply Vlk_up_moves
    | with_reducible apply Vlk_accept_moves
    | with_reducible apply Scm_acked_moves
    | intro _)

theorem execLoadNak_moves {W : Part → Prop} {s t : State} (h0 : W .msix) (h1 : W .vlk) (h2 : W (.fld F.SCM_CHG_STAT_DS_STATE)) (h3 : W (.fld F.SCM_CHG_STAT_US_STATE)) (h4 : W (.fld F.SCM_INT_CAUSE_CHG_FAIL)) (h5 : W (.fld F.SCM_NAK_MAP_LEAF)) (h6 : W (.fld H.SCM_ACKED)) (h7 : W (.fld H.SCM_ADDRESSED)) (h8 : W (.fld H.VLK_SEQ)) (a0 : Nat) (a1 : Nat) (a2 : Nat) (a3 : Nat) (a4 : Nat) (h : execLoadNak a0 a1 a2 a3 a4 s = .next t) :
    Moves W s t := by
  unfold execLoadNak at h
  refine doneMirrored_moves (by assumption) ?_ h
  repeat' (first
    | with_reducible assumption
    | with_reducible exact .refl
    | with_reducible apply Vlk_up_moves
    | with_reducible apply Vlk_accept_moves
    | with_reducible apply Scm_nakked_moves
    | intro _)

theorem execLoadCancel_moves {W : Part → Prop} {s t : State} (h0 : W .msix) (h1 : W .vlk) (h2 : W (.fld H.LRX_SHADOW_VER)) (h3 : W (.fld H.LTX_SHADOW_VER)) (h4 : W (.fld H.VLK_HEARD)) (h5 : W (.fld H.VLK_SEQ)) (a0 : Nat) (a1 : Nat) (a2 : Nat) (a3 : Nat) (a4 : Nat) (h : execLoadCancel a0 a1 a2 a3 a4 s = .next t) :
    Moves W s t := by
  unfold execLoadCancel at h
  refine doneMirrored_moves (by assumption) ?_ h
  repeat' (first
    | with_reducible assumption
    | with_reducible exact .refl
    | with_reducible apply Vlk_down_moves
    | with_reducible apply Vlk_accept_moves
    | with_reducible apply Vlk_loadCancel_moves
    | intro _)

theorem execLoadMismatch_moves {W : Part → Prop} {s t : State} (h0 : W .msix) (h1 : W .vlk) (h2 : W (.fld F.LRX_INT_CAUSE_SHADOW_LOCKED)) (h3 : W (.fld F.LRX_INT_CAUSE_TABLE_ERR)) (h4 : W (.fld F.LRX_STAT_ERR_SC)) (h5 : W (.fld F.LRX_STAT_SHADOW_READY)) (h6 : W (.fld F.LTX_INT_CAUSE_SHADOW_LOCKED)) (h7 : W (.fld F.LTX_INT_CAUSE_TABLE_ERR)) (h8 : W (.fld F.LTX_STAT_ERR_SC)) (h9 : W (.fld F.LTX_STAT_SHADOW_READY)) (h10 : W (.fld F.SCM_CHG_STAT_DS_STATE)) (h11 : W (.fld F.SCM_CHG_STAT_US_STATE)) (h12 : W (.fld F.SCM_INT_CAUSE_CHG_FAIL)) (h13 : W (.fld F.SCM_NAK_MAP_LEAF)) (h14 : W (.fld H.LRX_SHADOW)) (h15 : W (.fld H.LRX_SHADOW_VER)) (h16 : W (.fld H.LTX_SHADOW)) (h17 : W (.fld H.LTX_SHADOW_VER)) (h18 : W (.fld H.SCM_ACKED)) (h19 : W (.fld H.SCM_ADDRESSED)) (h20 : W (.fld H.SCM_LAST_VER)) (h21 : W (.fld H.SCM_RESEND)) (h22 : W (.fld H.SCM_START_MF)) (h23 : W (.fld H.VLK_SEQ)) (a0 : Nat) (a1 : Nat) (a2 : Nat) (a3 : Nat) (h : execLoadMismatch a0 a1 a2 a3 s = .next t) :
    Moves W s t := by
  unfold execLoadMismatch at h
  refine doneMirrored_moves (by assumption) ?_ h
  repeat' (first
    | with_reducible assumption
    | with_reducible exact .refl
    | with_reducible apply Vlk_up_moves
    | with_reducible apply Vlk_accept_moves
    | with_reducible apply Scm_resend_moves
    | intro _)

theorem execSnrReport_moves {W : Part → Prop} {s t : State} (h0 : W .msix) (h1 : W .vlk) (h2 : W (.fld F.SCM_DS_SNR_SNR)) (h3 : W (.fld F.SCM_DS_SNR_SNR_X)) (h4 : W (.fld F.SCM_DS_SNR_SNR_Y)) (h5 : W (.fld F.SCM_DS_SNR_VALID)) (h6 : W (.fld H.SCM_SNR_MF)) (h7 : W (.fld H.VLK_SEQ)) (a0 : Nat) (a1 : Nat) (a2 : Nat) (a3 : Nat) (a4 : List Nat) (h : execSnrReport a0 a1 a2 a3 a4 s = .next t) :
    Moves W s t := by
  unfold execSnrReport at h
  refine done_moves (by assumption) ?_ h
  repeat' (first
    | with_reducible assumption
    | with_reducible exact .refl
    | with_reducible apply Vlk_up_moves
    | with_reducible apply Vlk_accept_moves
    | with_reducible apply Vlk_snrReported_moves
    | intro _)

theorem execRegWrite_moves {W : Part → Prop} {s t : State} (hw : ∀ x, W x) (a0 : Nat) (a1 : Nat) (a2 : Nat) (a3 : List (Nat × Nat)) (h : execRegWrite a0 a1 a2 a3 s = .next t) :
    Moves W s t := by
  unfold execRegWrite at h
  refine doneMirrored_moves (hw _) ?_ h
  repeat' (first
    | with_reducible assumption
    | with_reducible exact .refl
    | exact hw _
    | with_reducible apply Remote_regWrite_moves
    | intro _)

theorem execRegRead_moves {W : Part → Prop} {s t : State} (hw : ∀ x, W x) (a0 : Nat) (a1 : Nat) (a2 : Nat) (a3 : List Nat) (h : execRegRead a0 a1 a2 a3 s = .next t) :
    Moves W s t := by
  unfold execRegRead at h
  refine doneMirrored_moves (hw _) ?_ h
  repeat' (first
    | with_reducible assumption
    | with_reducible exact .refl
    | exact hw _
    | with_reducible apply Remote_regRead_moves
    | intro _)

theorem execRegResp_moves {W : Part → Prop} {s t : State} (h0 : W .msix) (h1 : W .vlk) (h2 : W (.fld F.VLK_INT_CAUSE_RX_AVAIL)) (h3 : W (.fld F.VLK_RXSTAT_COUNT)) (h4 : W (.fld F.VLK_RX_DROP_CNT_COUNT)) (h5 : W (.fld H.VLK_HEARD)) (h6 : W (.fld H.VLK_SEQ)) (a0 : Nat) (a1 : Nat) (a2 : Nat) (a3 : List Nat) (h : execRegResp a0 a1 a2 a3 s = .next t) :
    Moves W s t := by
  unfold execRegResp at h
  refine done_moves (by assumption) ?_ h
  repeat' (first
    | with_reducible assumption
    | with_reducible exact .refl
    | with_reducible apply Vlk_toRing_moves
    | intro _)

theorem execFwOpen_moves {W : Part → Prop} {s t : State} (h0 : W .flash) (h1 : W .msix) (h2 : W .vlk) (h3 : W (.arr H.VLK_FW_HAVE)) (h4 : W (.fld H.VLK_FW_CRC)) (h5 : W (.fld H.VLK_FW_ON)) (h6 : W (.fld H.VLK_FW_SIZE)) (h7 : W (.fld H.VLK_FW_VER)) (h8 : W (.fld H.VLK_HEARD)) (h9 : W (.fld H.VLK_SEQ)) (a0 : Nat) (a1 : Nat) (a2 : Nat) (a3 : Nat) (a4 : Nat) (a5 : Nat) (h : execFwOpen a0 a1 a2 a3 a4 a5 s = .next t) :
    Moves W s t := by
  unfold execFwOpen at h
  refine done_moves (by assumption) ?_ h
  repeat' (first
    | with_reducible assumption
    | with_reducible exact .refl
    | with_reducible apply Remote_fwOpen_moves
    | intro _)

theorem execFwData_moves {W : Part → Prop} {s t : State} (h0 : W .flash) (h1 : W .msix) (h2 : W .vlk) (h3 : W (.fld H.VLK_FW_HAVE)) (h4 : W (.fld H.VLK_HEARD)) (h5 : W (.fld H.VLK_SEQ)) (a0 : Nat) (a1 : Nat) (a2 : Nat) (a3 : Nat) (a4 : List Nat) (h : execFwData a0 a1 a2 a3 a4 s = .next t) :
    Moves W s t := by
  unfold execFwData at h
  refine done_moves (by assumption) ?_ h
  repeat' (first
    | with_reducible assumption
    | with_reducible exact .refl
    | with_reducible apply Remote_fwData_moves
    | intro _)

theorem execFwClose_moves {W : Part → Prop} {s t : State} (h0 : W .msix) (h1 : W .vlk) (h2 : W (.fld H.VLK_FW_ON)) (h3 : W (.fld H.VLK_HEARD)) (h4 : W (.fld H.VLK_SEQ)) (a0 : Nat) (a1 : Nat) (a2 : Nat) (h : execFwClose a0 a1 a2 s = .next t) :
    Moves W s t := by
  unfold execFwClose at h
  refine done_moves (by assumption) ?_ h
  repeat' (first
    | with_reducible assumption
    | with_reducible exact .refl
    | with_reducible apply Remote_fwClose_moves
    | intro _)

theorem execFwStatus_moves {W : Part → Prop} {s t : State} (h0 : W .msix) (h1 : W .vlk) (h2 : W (.fld F.VLK_INT_CAUSE_RX_AVAIL)) (h3 : W (.fld F.VLK_RXSTAT_COUNT)) (h4 : W (.fld F.VLK_RX_DROP_CNT_COUNT)) (h5 : W (.fld H.VLK_HEARD)) (h6 : W (.fld H.VLK_SEQ)) (a0 : Nat) (a1 : Nat) (a2 : Nat) (a3 : List Nat) (h : execFwStatus a0 a1 a2 a3 s = .next t) :
    Moves W s t := by
  unfold execFwStatus at h
  refine done_moves (by assumption) ?_ h
  repeat' (first
    | with_reducible assumption
    | with_reducible exact .refl
    | with_reducible apply Remote_fwStatus_moves
    | intro _)

theorem execFwActivate_moves {W : Part → Prop} {s t : State} (hw : ∀ x, W x) (a0 : Nat) (a1 : Nat) (a2 : Nat) (h : execFwActivate a0 a1 a2 s = .next t) :
    Moves W s t := by
  unfold execFwActivate at h
  refine done_moves (hw _) ?_ h
  repeat' (first
    | with_reducible assumption
    | with_reducible exact .refl
    | exact hw _
    | with_reducible apply Remote_fwActivate_moves
    | intro _)

theorem execRestReq_moves {W : Part → Prop} {s t : State} (h0 : W .msix) (h1 : W .vlk) (h2 : W (.fld F.VLK_INT_CAUSE_RX_AVAIL)) (h3 : W (.fld F.VLK_RXSTAT_COUNT)) (h4 : W (.fld F.VLK_RX_DROP_CNT_COUNT)) (h5 : W (.fld H.VLK_HEARD)) (h6 : W (.fld H.VLK_SEQ)) (a0 : Nat) (a1 : Nat) (a2 : Nat) (h : execRestReq a0 a1 a2 s = .next t) :
    Moves W s t := by
  unfold execRestReq at h
  refine done_moves (by assumption) ?_ h
  repeat' (first
    | with_reducible assumption
    | with_reducible exact .refl
    | with_reducible apply Vlk_toRing_moves
    | intro _)

theorem execRestGrant_moves {W : Part → Prop} {s t : State} (h0 : W .msix) (h1 : W .vlk) (h2 : W (.fld H.VLK_HEARD)) (h3 : W (.fld H.VLK_SEQ)) (h4 : W (.fld H.VLK_S_CYCLE)) (h5 : W (.fld H.VLK_S_LISTEN)) (h6 : W (.fld H.VLK_S_REST)) (h7 : W (.fld H.VLK_S_START)) (a0 : Nat) (a1 : Nat) (a2 : Nat) (a3 : Nat) (a4 : Nat) (a5 : Nat) (h : execRestGrant a0 a1 a2 a3 a4 a5 s = .next t) :
    Moves W s t := by
  unfold execRestGrant at h
  refine done_moves (by assumption) ?_ h
  repeat' (first
    | with_reducible assumption
    | with_reducible exact .refl
    | with_reducible apply Vlk_down_moves
    | with_reducible apply Vlk_accept_moves
    | with_reducible apply Vlk_restGrant_moves
    | intro _)

theorem execWakeAck_moves {W : Part → Prop} {s t : State} (h0 : W .msix) (h1 : W .vlk) (h2 : W (.fld F.VLK_LEAF_STATE)) (h3 : W (.fld F.VLK_STAT_ACTIVE_CNT)) (h4 : W (.fld H.SCM_ADDRESSED)) (h5 : W (.fld H.SCM_GRANT_ADDR)) (h6 : W (.fld H.VLK_REST_SET)) (h7 : W (.fld H.VLK_SEQ)) (h8 : W (.fld H.VLK_WAKE_BIT)) (a0 : Nat) (a1 : Nat) (a2 : Nat) (h : execWakeAck a0 a1 a2 s = .next t) :
    Moves W s t := by
  unfold execWakeAck at h
  refine doneMirrored_moves (by assumption) ?_ h
  repeat' (first
    | with_reducible assumption
    | with_reducible exact .refl
    | with_reducible apply Vlk_up_moves
    | with_reducible apply Vlk_accept_moves
    | with_reducible apply Vlk_wakeAck_moves
    | intro _)

theorem execAck_moves {W : Part → Prop} {s t : State} (h0 : W .msix) (h1 : W .qdr) (h2 : W .vlk) (h3 : W (.fld F.CRY_KEY_DATA_KEY)) (h4 : W (.fld F.CRY_KEY_SALT_SALT)) (h5 : W (.fld F.CRY_LOCK_STAT_LOCK_BROKEN)) (h6 : W (.fld F.CRY_LOCK_STAT_OWNER)) (h7 : W (.fld F.LTX_CTRL_MUTE)) (h8 : W (.fld F.LTX_STAT_MUTE_SRC)) (h9 : W (.fld F.MBX_INT_CAUSE_RESET_SEEN)) (h10 : W (.fld F.MBX_LOCK_STAT_LOCK_BROKEN)) (h11 : W (.fld F.MBX_LOCK_STAT_OWNER)) (h12 : W (.fld F.MBX_STAT_RX_RESET_SEEN)) (h13 : W (.fld F.MBX_STAT_SENDER_RESET_SEEN)) (h14 : W (.fld F.PMC_INT_CAUSE_OVF)) (h15 : W (.fld F.PMC_INT_CAUSE_SMP_AVAIL)) (h16 : W (.fld F.PMC_INT_CAUSE_SMP_DROP)) (h17 : W (.fld F.PMC_OVF_STAT_OVF)) (h18 : W (.fld F.PMC_SMP_DROP_RING)) (h19 : W (.fld F.PMC_SMP_STAT_COUNT)) (h20 : W (.fld F.VLK_INT_CAUSE_FREQ_FAIL)) (h21 : W (.fld F.VLK_INT_CAUSE_LEAF_LOST)) (h22 : W (.fld F.VLK_INT_CAUSE_STATE_CHG)) (h23 : W (.fld F.VLK_SELF_LEAF)) (h24 : W (.fld F.VLK_SELF_SILENT)) (h25 : W (.fld F.VLK_SELF_STATE)) (h26 : W (.fld H.LTX_OUTPUT)) (h27 : W (.fld H.PEER_MUTE_WAS)) (h28 : W (.fld H.PMC_CNT)) (h29 : W (.fld H.PMC_OVF_DUE)) (h30 : W (.fld H.PMC_OVF_T)) (h31 : W (.fld H.PMC_RING)) (h32 : W (.fld H.PMC_TRACE_POS)) (h33 : W (.fld H.VLK_ADJ_PEND)) (h34 : W (.fld H.VLK_ATTEMPT)) (h35 : W (.fld H.VLK_LISTENING)) (h36 : W (.fld H.VLK_PREV_LEAF)) (h37 : W (.fld H.VLK_REG_BASE)) (h38 : W (.fld H.VLK_REG_WAIT)) (h39 : W (.fld H.VLK_S_REST)) (h40 : W (.fld H.VLK_UP_ON)) (a0 : Nat) (a1 : Nat) (a2 : Nat) (h : execAck a0 a1 a2 s = .next t) :
    Moves W s t := by
  unfold execAck at h
  refine doneMirrored_moves (by assumption) ?_ h
  repeat' (first
    | with_reducible assumption
    | with_reducible exact .refl
    | with_reducible apply Vlk_ackReceived_moves
    | intro _)

theorem execUser_moves {W : Part → Prop} {s t : State} (h0 : W .msix) (h1 : W .vlk) (h2 : W (.fld F.VLK_INT_CAUSE_RX_AVAIL)) (h3 : W (.fld F.VLK_RXSTAT_COUNT)) (h4 : W (.fld F.VLK_RX_DROP_CNT_COUNT)) (h5 : W (.fld H.VLK_HEARD)) (h6 : W (.fld H.VLK_SEQ)) (a0 : Nat) (a1 : Nat) (a2 : Nat) (a3 : Nat) (a4 : List Nat) (h : execUser a0 a1 a2 a3 a4 s = .next t) :
    Moves W s t := by
  unfold execUser at h
  refine done_moves (by assumption) ?_ h
  repeat' (first
    | with_reducible assumption
    | with_reducible exact .refl
    | with_reducible apply Vlk_toRing_moves
    | intro _
    | split)

theorem execUnknownType_moves {W : Part → Prop} {s t : State} (h0 : W .msix) (h1 : W .vlk) (h2 : W (.fld F.VLK_RX_DROP_CNT_COUNT)) (h3 : W (.fld H.VLK_HEARD)) (h4 : W (.fld H.VLK_SEQ)) (a0 : Nat) (a1 : Nat) (a2 : Nat) (h : execUnknownType a0 a1 a2 s = .next t) :
    Moves W s t := by
  unfold execUnknownType at h
  refine done_moves (by assumption) ?_ h
  repeat' (first
    | with_reducible assumption
    | with_reducible exact .refl
    | with_reducible apply Vlk_unknown_moves
    | intro _)

theorem execRetxTimeout_moves {W : Part → Prop} {s t : State} (h0 : W .msix) (h1 : W .vlk) (h2 : W (.fld F.VLK_INT_CAUSE_RETX_FAIL)) (h3 : W (.fld F.VLK_RETX_CNT_COUNT)) (h4 : W (.fld F.VLK_STAT_LAST_LEAF)) (a0 : Nat) (a1 : Nat) (h : execRetxTimeout a0 a1 s = .next t) :
    Moves W s t := by
  unfold execRetxTimeout at h
  refine doneMirrored_moves (by assumption) ?_ h
  repeat' (first
    | with_reducible assumption
    | with_reducible exact .refl
    | with_reducible apply Vlk_retx_moves
    | intro _)

theorem execTxpost_moves {W : Part → Prop} {s t : State} (h0 : W .held) (h1 : W .msix) (h2 : W .qdr) (h3 : W .vlk) (h4 : W (.fld F.PEER_INT_CAUSE_MIRRORED)) (h5 : W (.fld F.PMC_INT_CAUSE_OVF)) (h6 : W (.fld F.PMC_INT_CAUSE_SMP_AVAIL)) (h7 : W (.fld F.PMC_INT_CAUSE_SMP_DROP)) (h8 : W (.fld F.PMC_OVF_STAT_OVF)) (h9 : W (.fld F.PMC_SMP_DROP_RING)) (h10 : W (.fld F.PMC_SMP_STAT_COUNT)) (h11 : W (.fld F.VLK_TXPOST_BEACON)) (h12 : W (.fld F.VLK_TXPOST_LEN)) (h13 : W (.fld H.PMC_CNT)) (h14 : W (.fld H.PMC_OVF_DUE)) (h15 : W (.fld H.PMC_OVF_T)) (h16 : W (.fld H.PMC_RING)) (h17 : W (.fld H.PMC_TRACE_POS)) (h18 : W (.fld H.VLK_LEAF_KHI)) (h19 : W (.fld H.VLK_REST_CYCLE)) (h20 : W (.fld H.VLK_REST_LISTEN)) (h21 : W (.fld H.VLK_REST_SET)) (h22 : W (.fld H.VLK_REST_START)) (h23 : W (.fld H.VLK_SEQ)) (a0 : Nat) (a1 : Nat) (a2 : Nat) (h : execTxpost a0 a1 a2 s = .next t) :
    Moves W s t := by
  unfold execTxpost at h
  refine doneMirrored_moves (by assumption) ?_ h
  repeat' (first
    | with_reducible assumption
    | with_reducible exact .refl
    | (with_reducible refine Bus_row_other (by assumption) (by assumption) (by assumption) (by assumption) (by assumption) (by assumption) (by assumption) (by assumption) (by assumption) (by assumption) (by assumption) (by assumption) (by assumption) (by assumption) _ _ _ _ _ (by decide) ?_ ?_)
    | with_reducible apply Vlk_writeTxPost_moves
    | intro _)

theorem execRxpop_moves {W : Part → Prop} {s t : State} (h0 : W .held) (h1 : W .msix) (h2 : W .qdr) (h3 : W .vlk) (h4 : W (.fld F.PEER_INT_CAUSE_MIRRORED)) (h5 : W (.fld F.PMC_INT_CAUSE_OVF)) (h6 : W (.fld F.PMC_INT_CAUSE_SMP_AVAIL)) (h7 : W (.fld F.PMC_INT_CAUSE_SMP_DROP)) (h8 : W (.fld F.PMC_OVF_STAT_OVF)) (h9 : W (.fld F.PMC_SMP_DROP_RING)) (h10 : W (.fld F.PMC_SMP_STAT_COUNT)) (h11 : W (.fld F.VLK_RXSTAT_COUNT)) (h12 : W (.fld H.PMC_CNT)) (h13 : W (.fld H.PMC_OVF_DUE)) (h14 : W (.fld H.PMC_OVF_T)) (h15 : W (.fld H.PMC_RING)) (h16 : W (.fld H.PMC_TRACE_POS)) (h : execRxpop s = .next t) :
    Moves W s t := by
  unfold execRxpop at h
  refine done_moves (by assumption) ?_ h
  repeat' (first
    | with_reducible assumption
    | with_reducible exact .refl
    | (with_reducible refine Bus_row_other (by assumption) (by assumption) (by assumption) (by assumption) (by assumption) (by assumption) (by assumption) (by assumption) (by assumption) (by assumption) (by assumption) (by assumption) (by assumption) (by assumption) _ _ _ _ _ (by decide) ?_ ?_)
    | with_reducible apply Vlk_ringPop_moves
    | intro _)

theorem execUpstreamSilent_moves {W : Part → Prop} {s t : State} (h0 : W .msix) (h1 : W (.fld F.LTX_CTRL_MUTE)) (h2 : W (.fld F.LTX_STAT_MUTE_SRC)) (h3 : W (.fld F.VLK_SELF_SILENT)) (h4 : W (.fld H.LTX_OUTPUT)) (h5 : W (.fld H.PEER_MUTE_WAS)) (h : execUpstreamSilent s = .next t) :
    Moves W s t := by
  unfold execUpstreamSilent at h
  refine done_moves (by assumption) ?_ h
  repeat' (first
    | with_reducible assumption
    | with_reducible exact .refl
    | with_reducible apply Vlk_upstreamSilent_moves
    | intro _)

theorem execUpstreamResume_moves {W : Part → Prop} {s t : State} (h0 : W .msix) (h1 : W .qdr) (h2 : W .vlk) (h3 : W (.fld F.CRY_KEY_DATA_KEY)) (h4 : W (.fld F.CRY_KEY_SALT_SALT)) (h5 : W (.fld F.CRY_LOCK_STAT_LOCK_BROKEN)) (h6 : W (.fld F.CRY_LOCK_STAT_OWNER)) (h7 : W (.fld F.LTX_CTRL_MUTE)) (h8 : W (.fld F.LTX_STAT_MUTE_SRC)) (h9 : W (.fld F.MBX_INT_CAUSE_RESET_SEEN)) (h10 : W (.fld F.MBX_LOCK_STAT_LOCK_BROKEN)) (h11 : W (.fld F.MBX_LOCK_STAT_OWNER)) (h12 : W (.fld F.MBX_STAT_RX_RESET_SEEN)) (h13 : W (.fld F.MBX_STAT_SENDER_RESET_SEEN)) (h14 : W (.fld F.PMC_INT_CAUSE_OVF)) (h15 : W (.fld F.PMC_INT_CAUSE_SMP_AVAIL)) (h16 : W (.fld F.PMC_INT_CAUSE_SMP_DROP)) (h17 : W (.fld F.PMC_OVF_STAT_OVF)) (h18 : W (.fld F.PMC_SMP_DROP_RING)) (h19 : W (.fld F.PMC_SMP_STAT_COUNT)) (h20 : W (.fld F.VLK_INT_CAUSE_LEAF_LOST)) (h21 : W (.fld F.VLK_INT_CAUSE_STATE_CHG)) (h22 : W (.fld F.VLK_SELF_EQD_EQD)) (h23 : W (.fld F.VLK_SELF_LEAF)) (h24 : W (.fld F.VLK_SELF_SILENT)) (h25 : W (.fld F.VLK_SELF_STATE)) (h26 : W (.fld H.LTX_OUTPUT)) (h27 : W (.fld H.PEER_MUTE_WAS)) (h28 : W (.fld H.PMC_CNT)) (h29 : W (.fld H.PMC_OVF_DUE)) (h30 : W (.fld H.PMC_OVF_T)) (h31 : W (.fld H.PMC_RING)) (h32 : W (.fld H.PMC_TRACE_POS)) (h33 : W (.fld H.VLK_ATTEMPT)) (h34 : W (.fld H.VLK_EQD_DELTA)) (h35 : W (.fld H.VLK_EQD_NOW)) (h36 : W (.fld H.VLK_FEEDER_USE)) (h37 : W (.fld H.VLK_LISTENING)) (h38 : W (.fld H.VLK_PREV_LEAF)) (h39 : W (.fld H.VLK_REG_BASE)) (h40 : W (.fld H.VLK_REG_WAIT)) (h41 : W (.fld H.VLK_SEQ)) (h42 : W (.fld H.VLK_SWITCH_SILENT)) (h43 : W (.fld H.VLK_S_REST)) (h44 : W (.fld H.VLK_UP_ON)) (h : execUpstreamResume s = .next t) :
    Moves W s t := by
  unfold execUpstreamResume at h
  refine done_moves (by assumption) ?_ h
  repeat' (first
    | with_reducible assumption
    | with_reducible exact .refl
    | with_reducible apply Vlk_upstreamResume_moves
    | intro _)

theorem execRangeTrigger_moves {W : Part → Prop} {s t : State} (h0 : W .msix) (h1 : W .vlk) (h2 : W (.fld F.VLK_LEAF_EQD_EQD)) (h3 : W (.fld H.VLK_ADJ_PEND)) (h4 : W (.fld H.VLK_ARR_ERR)) (h5 : W (.fld H.VLK_SEQ)) (a0 : Nat) (a1 : Int) (a2 : Nat) (h : execRangeTrigger a0 a1 s a2 = .next t) :
    Moves W s t := by
  unfold execRangeTrigger at h
  refine doneMirrored_moves (by assumption) ?_ h
  repeat' (first
    | with_reducible assumption
    | with_reducible exact .refl
    | with_reducible apply Vlk_rangeTrigger_moves
    | intro _)

theorem execFreqTrigger_moves {W : Part → Prop} {s t : State} (h0 : W .msix) (h1 : W .vlk) (h2 : W (.fld H.VLK_SEQ)) (a0 : Nat) (a1 : Int) (h : execFreqTrigger a0 a1 s = .next t) :
    Moves W s t := by
  unfold execFreqTrigger at h
  refine done_moves (by assumption) ?_ h
  repeat' (first
    | with_reducible assumption
    | with_reducible exact .refl
    | with_reducible apply Vlk_freqTrigger_moves
    | intro _)

theorem execRegAttempt_moves {W : Part → Prop} {s t : State} (h0 : W .msix) (h1 : W (.fld H.VLK_ATTEMPT)) (h2 : W (.fld H.VLK_EQD_NOW)) (h3 : W (.fld H.VLK_REG_BASE)) (h4 : W (.fld H.VLK_REG_WAIT)) (h5 : W (.fld H.VLK_SEQ)) (a0 : Nat) (a1 : Nat) (a2 : Nat) (a3 : Nat) (h : execRegAttempt a0 a1 a2 a3 s = .next t) :
    Moves W s t := by
  unfold execRegAttempt at h
  refine done_moves (by assumption) ?_ h
  repeat' (first
    | with_reducible assumption
    | with_reducible exact .refl
    | with_reducible apply Vlk_regAttempt_moves
    | intro _)

theorem execRegTmo_moves {W : Part → Prop} {s t : State} (h0 : W .msix) (h1 : W (.fld F.VLK_INT_CAUSE_REG_GIVEUP)) (h2 : W (.fld H.VLK_GIVEUP)) (h3 : W (.fld H.VLK_REG_BASE)) (h4 : W (.fld H.VLK_REG_WAIT)) (a0 : Nat) (h : execRegTmo a0 s = .next t) :
    Moves W s t := by
  unfold execRegTmo at h
  refine done_moves (by assumption) ?_ h
  repeat' (first
    | with_reducible assumption
    | with_reducible exact .refl
    | with_reducible apply Vlk_regTimeout_moves
    | intro _)

theorem execRegGo_moves {W : Part → Prop} {s t : State} (h0 : W .held) (h1 : W .msix) (h2 : W .qdr) (h3 : W (.fld F.PEER_INT_CAUSE_MIRRORED)) (h4 : W (.fld F.PMC_INT_CAUSE_OVF)) (h5 : W (.fld F.PMC_INT_CAUSE_SMP_AVAIL)) (h6 : W (.fld F.PMC_INT_CAUSE_SMP_DROP)) (h7 : W (.fld F.PMC_OVF_STAT_OVF)) (h8 : W (.fld F.PMC_SMP_DROP_RING)) (h9 : W (.fld F.PMC_SMP_STAT_COUNT)) (h10 : W (.fld H.PMC_CNT)) (h11 : W (.fld H.PMC_OVF_DUE)) (h12 : W (.fld H.PMC_OVF_T)) (h13 : W (.fld H.PMC_RING)) (h14 : W (.fld H.PMC_TRACE_POS)) (h15 : W (.fld H.VLK_ATTEMPT)) (h16 : W (.fld H.VLK_GIVEUP)) (h17 : W (.fld H.VLK_REG_BASE)) (h : execRegGo s = .next t) :
    Moves W s t := by
  unfold execRegGo at h
  refine done_moves (by assumption) ?_ h
  repeat' (first
    | with_reducible assumption
    | with_reducible exact .refl
    | (with_reducible refine Bus_row_other (by assumption) (by assumption) (by assumption) (by assumption) (by assumption) (by assumption) (by assumption) (by assumption) (by assumption) (by assumption) (by assumption) (by assumption) (by assumption) (by assumption) _ _ _ _ _ (by decide) ?_ ?_)
    | with_reducible apply Vlk_regGo_moves
    | intro _)

theorem execRegOpen_moves {W : Part → Prop} {s t : State} (h0 : W .held) (h1 : W .msix) (h2 : W .qdr) (h3 : W (.fld F.PEER_INT_CAUSE_MIRRORED)) (h4 : W (.fld F.PMC_INT_CAUSE_OVF)) (h5 : W (.fld F.PMC_INT_CAUSE_SMP_AVAIL)) (h6 : W (.fld F.PMC_INT_CAUSE_SMP_DROP)) (h7 : W (.fld F.PMC_OVF_STAT_OVF)) (h8 : W (.fld F.PMC_SMP_DROP_RING)) (h9 : W (.fld F.PMC_SMP_STAT_COUNT)) (h10 : W (.fld F.VLK_CTRL_REG_OPEN)) (h11 : W (.fld H.PMC_CNT)) (h12 : W (.fld H.PMC_OVF_DUE)) (h13 : W (.fld H.PMC_OVF_T)) (h14 : W (.fld H.PMC_RING)) (h15 : W (.fld H.PMC_TRACE_POS)) (a0 : Nat) (h : execRegOpen a0 s = .next t) :
    Moves W s t := by
  unfold execRegOpen at h
  refine done_moves (by assumption) ?_ h
  repeat' (first
    | with_reducible assumption
    | with_reducible exact .refl
    | (with_reducible refine Bus_row_other (by assumption) (by assumption) (by assumption) (by assumption) (by assumption) (by assumption) (by assumption) (by assumption) (by assumption) (by assumption) (by assumption) (by assumption) (by assumption) (by assumption) _ _ _ _ _ (by decide) ?_ ?_)
    | with_reducible apply Vlk_regOpen_moves
    | intro _)

theorem execUpstreamStart_moves {W : Part → Prop} {s t : State} (h0 : W .msix) (h1 : W .vlk) (h2 : W (.fld H.VLK_SEQ)) (h3 : W (.fld H.VLK_UP_ON)) (a0 : Nat) (h : execUpstreamStart a0 s = .next t) :
    Moves W s t := by
  unfold execUpstreamStart at h
  refine done_moves (by assumption) ?_ h
  repeat' (first
    | with_reducible assumption
    | with_reducible exact .refl
    | with_reducible apply Vlk_upstreamStart_moves
    | intro _)

theorem execLeafRestStart_moves {W : Part → Prop} {s t : State} (h0 : W .msix) (h1 : W .qdr) (h2 : W (.fld F.CRY_KEY_DATA_KEY)) (h3 : W (.fld F.CRY_KEY_SALT_SALT)) (h4 : W (.fld F.CRY_LOCK_STAT_LOCK_BROKEN)) (h5 : W (.fld F.CRY_LOCK_STAT_OWNER)) (h6 : W (.fld F.LTX_CTRL_MUTE)) (h7 : W (.fld F.LTX_STAT_MUTE_SRC)) (h8 : W (.fld F.MBX_INT_CAUSE_RESET_SEEN)) (h9 : W (.fld F.MBX_LOCK_STAT_LOCK_BROKEN)) (h10 : W (.fld F.MBX_LOCK_STAT_OWNER)) (h11 : W (.fld F.MBX_STAT_RX_RESET_SEEN)) (h12 : W (.fld F.MBX_STAT_SENDER_RESET_SEEN)) (h13 : W (.fld F.PMC_INT_CAUSE_OVF)) (h14 : W (.fld F.PMC_INT_CAUSE_SMP_AVAIL)) (h15 : W (.fld F.PMC_INT_CAUSE_SMP_DROP)) (h16 : W (.fld F.PMC_OVF_STAT_OVF)) (h17 : W (.fld F.PMC_SMP_DROP_RING)) (h18 : W (.fld F.PMC_SMP_STAT_COUNT)) (h19 : W (.fld F.PWR_INT_CAUSE_REST_REFUSED)) (h20 : W (.fld F.PWR_REST_STAT_ERR)) (h21 : W (.fld F.PWR_REST_STAT_STATE)) (h22 : W (.fld F.VLK_INT_CAUSE_LEAF_LOST)) (h23 : W (.fld F.VLK_INT_CAUSE_REST_HELD)) (h24 : W (.fld F.VLK_INT_CAUSE_STATE_CHG)) (h25 : W (.fld F.VLK_SELF_LEAF)) (h26 : W (.fld F.VLK_SELF_SILENT)) (h27 : W (.fld F.VLK_SELF_STATE)) (h28 : W (.fld H.HSL_OUT)) (h29 : W (.fld H.LTX_OUTPUT)) (h30 : W (.fld H.PEER_MUTE_WAS)) (h31 : W (.fld H.PMC_CNT)) (h32 : W (.fld H.PMC_OVF_DUE)) (h33 : W (.fld H.PMC_OVF_T)) (h34 : W (.fld H.PMC_RING)) (h35 : W (.fld H.PMC_TRACE_POS)) (h36 : W (.fld H.PWR_WAKE_PEND)) (h37 : W (.fld H.VLK_ATTEMPT)) (h38 : W (.fld H.VLK_LISTENING)) (h39 : W (.fld H.VLK_PREV_LEAF)) (h40 : W (.fld H.VLK_REG_BASE)) (h41 : W (.fld H.VLK_REG_WAIT)) (h42 : W (.fld H.VLK_RETRY)) (h43 : W (.fld H.VLK_S_REST)) (h44 : W (.fld H.VLK_UP_ON)) (a0 : Nat) (h : execLeafRestStart a0 s = .next t) :
    Moves W s t := by
  unfold execLeafRestStart at h
  refine done_moves (by assumption) ?_ h
  repeat' (first
    | with_reducible assumption
    | with_reducible exact .refl
    | with_reducible apply Vlk_restStart_moves
    | intro _)

theorem execRestRetry_moves {W : Part → Prop} {s t : State} (h0 : W .msix) (h1 : W (.fld F.LTX_STAT_MUTE_SRC)) (h2 : W (.fld F.PWR_INT_CAUSE_REST_REFUSED)) (h3 : W (.fld F.PWR_REST_STAT_ERR)) (h4 : W (.fld F.PWR_REST_STAT_STATE)) (h5 : W (.fld H.HSL_OUT)) (h6 : W (.fld H.LTX_OUTPUT)) (h7 : W (.fld H.PWR_WAKE_PEND)) (h8 : W (.fld H.VLK_RETRY)) (h : execRestRetry s = .next t) :
    Moves W s t := by
  unfold execRestRetry at h
  refine done_moves (by assumption) ?_ h
  repeat' (first
    | with_reducible assumption
    | with_reducible exact .refl
    | with_reducible apply Vlk_restRetry_moves
    | intro _)

theorem execListenWake_moves {W : Part → Prop} {s t : State} (h0 : W .msix) (h1 : W (.fld F.PWR_AVS_READ_BUSY)) (h2 : W (.fld F.PWR_REST_STAT_STATE)) (h3 : W (.fld F.PWR_VMIN_VREQ_MV)) (h4 : W (.fld H.PWR_TARGET)) (h5 : W (.fld H.PWR_VMIN_ASKED)) (h6 : W (.fld H.PWR_VMIN_FAILED)) (h7 : W (.fld H.PWR_VMIN_WAITS)) (h8 : W (.fld H.PWR_WAKE_PEND)) (h9 : W (.fld H.VLK_HEARD)) (h10 : W (.fld H.VLK_LISTENING)) (h11 : W (.fld H.VLK_LISTEN_MF)) (h12 : W (.fld H.VLK_LISTEN_READ)) (h13 : W (.fld H.VLK_RETRY)) (a0 : Nat) (h : execListenWake s a0 = .next t) :
    Moves W s t := by
  unfold execListenWake at h
  refine done_moves (by assumption) ?_ h
  repeat' (first
    | with_reducible assumption
    | with_reducible exact .refl
    | with_reducible apply Vlk_listenWake_moves
    | intro _)

theorem execListenEnd_moves {W : Part → Prop} {s t : State} (h0 : W .msix) (h1 : W (.fld F.LTX_STAT_MUTE_SRC)) (h2 : W (.fld F.PWR_INT_CAUSE_REST_REFUSED)) (h3 : W (.fld F.PWR_REST_STAT_ERR)) (h4 : W (.fld F.PWR_REST_STAT_STATE)) (h5 : W (.fld F.VLK_INT_CAUSE_REST_HELD)) (h6 : W (.fld H.HSL_OUT)) (h7 : W (.fld H.LTX_OUTPUT)) (h8 : W (.fld H.PWR_WAKE_PEND)) (h9 : W (.fld H.VLK_LISTENING)) (h10 : W (.fld H.VLK_RETRY)) (a0 : Nat) (h : execListenEnd s a0 = .next t) :
    Moves W s t := by
  unfold execListenEnd at h
  refine done_moves (by assumption) ?_ h
  repeat' (first
    | with_reducible assumption
    | with_reducible exact .refl
    | with_reducible apply Vlk_listenEnd_moves
    | intro _)

theorem execLeafLostTmo_moves {W : Part → Prop} {s t : State} (h0 : W .msix) (h1 : W .qdr) (h2 : W (.fld F.CRY_KEY_DATA_KEY)) (h3 : W (.fld F.CRY_KEY_SALT_SALT)) (h4 : W (.fld F.CRY_LOCK_STAT_LOCK_BROKEN)) (h5 : W (.fld F.CRY_LOCK_STAT_OWNER)) (h6 : W (.fld F.LTX_CTRL_MUTE)) (h7 : W (.fld F.LTX_STAT_MUTE_SRC)) (h8 : W (.fld F.MBX_INT_CAUSE_RESET_SEEN)) (h9 : W (.fld F.MBX_LOCK_STAT_LOCK_BROKEN)) (h10 : W (.fld F.MBX_LOCK_STAT_OWNER)) (h11 : W (.fld F.MBX_STAT_RX_RESET_SEEN)) (h12 : W (.fld F.MBX_STAT_SENDER_RESET_SEEN)) (h13 : W (.fld F.PMC_INT_CAUSE_OVF)) (h14 : W (.fld F.PMC_INT_CAUSE_SMP_AVAIL)) (h15 : W (.fld F.PMC_INT_CAUSE_SMP_DROP)) (h16 : W (.fld F.PMC_OVF_STAT_OVF)) (h17 : W (.fld F.PMC_SMP_DROP_RING)) (h18 : W (.fld F.PMC_SMP_STAT_COUNT)) (h19 : W (.fld F.VLK_INT_CAUSE_LEAF_LOST)) (h20 : W (.fld F.VLK_INT_CAUSE_STATE_CHG)) (h21 : W (.fld F.VLK_SELF_LEAF)) (h22 : W (.fld F.VLK_SELF_SILENT)) (h23 : W (.fld F.VLK_SELF_STATE)) (h24 : W (.fld H.LTX_OUTPUT)) (h25 : W (.fld H.PEER_MUTE_WAS)) (h26 : W (.fld H.PMC_CNT)) (h27 : W (.fld H.PMC_OVF_DUE)) (h28 : W (.fld H.PMC_OVF_T)) (h29 : W (.fld H.PMC_RING)) (h30 : W (.fld H.PMC_TRACE_POS)) (h31 : W (.fld H.VLK_ATTEMPT)) (h32 : W (.fld H.VLK_LISTENING)) (h33 : W (.fld H.VLK_PREV_LEAF)) (h34 : W (.fld H.VLK_REG_BASE)) (h35 : W (.fld H.VLK_REG_WAIT)) (h36 : W (.fld H.VLK_S_REST)) (h37 : W (.fld H.VLK_UP_ON)) (a0 : Nat) (h : execLeafLostTmo a0 s = .next t) :
    Moves W s t := by
  unfold execLeafLostTmo at h
  refine done_moves (by assumption) ?_ h
  repeat' (first
    | with_reducible assumption
    | with_reducible exact .refl
    | with_reducible apply Vlk_lostTimeout_moves
    | intro _)

theorem execHubRestStart_moves {W : Part → Prop} {s t : State} (h0 : W .msix) (h1 : W (.fld F.VLK_LEAF_STATE)) (h2 : W (.fld F.VLK_STAT_ACTIVE_CNT)) (h3 : W (.fld H.SCM_ADDRESSED)) (h4 : W (.fld H.SCM_GRANT_ADDR)) (h5 : W (.fld H.VLK_REST_SET)) (h6 : W (.fld H.VLK_WAKE_BIT)) (a0 : Nat) (h : execHubRestStart a0 s = .next t) :
    Moves W s t := by
  unfold execHubRestStart at h
  refine doneMirrored_moves (by assumption) ?_ h
  repeat' (first
    | with_reducible assumption
    | with_reducible exact .refl
    | with_reducible apply Vlk_hubRestStart_moves
    | intro _)

theorem execWake_moves {W : Part → Prop} {s t : State} (h0 : W .held) (h1 : W .msix) (h2 : W .qdr) (h3 : W (.fld F.PEER_INT_CAUSE_MIRRORED)) (h4 : W (.fld F.PMC_INT_CAUSE_OVF)) (h5 : W (.fld F.PMC_INT_CAUSE_SMP_AVAIL)) (h6 : W (.fld F.PMC_INT_CAUSE_SMP_DROP)) (h7 : W (.fld F.PMC_OVF_STAT_OVF)) (h8 : W (.fld F.PMC_SMP_DROP_RING)) (h9 : W (.fld F.PMC_SMP_STAT_COUNT)) (h10 : W (.fld H.PMC_CNT)) (h11 : W (.fld H.PMC_OVF_DUE)) (h12 : W (.fld H.PMC_OVF_T)) (h13 : W (.fld H.PMC_RING)) (h14 : W (.fld H.PMC_TRACE_POS)) (h15 : W (.fld H.VLK_WAKE_BIT)) (a0 : Nat) (h : execWake a0 s = .next t) :
    Moves W s t := by
  unfold execWake at h
  refine doneMirrored_moves (by assumption) ?_ h
  repeat' (first
    | with_reducible assumption
    | with_reducible exact .refl
    | (with_reducible refine Bus_row_other (by assumption) (by assumption) (by assumption) (by assumption) (by assumption) (by assumption) (by assumption) (by assumption) (by assumption) (by assumption) (by assumption) (by assumption) (by assumption) (by assumption) _ _ _ _ _ (by decide) ?_ ?_)
    | with_reducible apply Vlk_wake_moves
    | intro _)

theorem execWakeTmo_moves {W : Part → Prop} {s t : State} (h0 : W .msix) (h1 : W (.fld F.VLK_INT_CAUSE_LEAF_LOST)) (h2 : W (.fld F.VLK_INT_CAUSE_WAKE_TMO)) (h3 : W (.fld F.VLK_LEAF_STATE)) (h4 : W (.fld F.VLK_STAT_ACTIVE_CNT)) (h5 : W (.fld F.VLK_STAT_LAST_LEAF)) (h6 : W (.fld H.SCM_ADDRESSED)) (h7 : W (.fld H.SCM_GRANT_ADDR)) (h8 : W (.fld H.VLK_REST_SET)) (h9 : W (.fld H.VLK_WAKE_BIT)) (a0 : Nat) (a1 : Nat) (h : execWakeTmo a0 a1 s = .next t) :
    Moves W s t := by
  unfold execWakeTmo at h
  refine doneMirrored_moves (by assumption) ?_ h
  repeat' (first
    | with_reducible assumption
    | with_reducible exact .refl
    | with_reducible apply Vlk_wakeTimeout_moves
    | intro _)

theorem execLeafLost_moves {W : Part → Prop} {s t : State} (h0 : W .msix) (h1 : W (.fld F.VLK_INT_CAUSE_LEAF_LOST)) (h2 : W (.fld F.VLK_LEAF_STATE)) (h3 : W (.fld F.VLK_STAT_ACTIVE_CNT)) (h4 : W (.fld F.VLK_STAT_LAST_LEAF)) (h5 : W (.fld H.SCM_ADDRESSED)) (h6 : W (.fld H.SCM_GRANT_ADDR)) (h7 : W (.fld H.VLK_REST_SET)) (h8 : W (.fld H.VLK_WAKE_BIT)) (a0 : Nat) (a1 : Nat) (h : execLeafLost a0 a1 s = .next t) :
    Moves W s t := by
  unfold execLeafLost at h
  refine doneMirrored_moves (by assumption) ?_ h
  repeat' (first
    | with_reducible assumption
    | with_reducible exact .refl
    | with_reducible apply Vlk_leafLost_moves
    | intro _)

end Sys2Proof.Laws
end

