-- ==== Sys2Proof/Laws/Footprint.lean ====
section
/-! SUPPORT. Sys2Proof/Laws/Footprint.lean: each command writes only the parts of its footprint. -/
namespace Sys2Proof.Laws
open Sys2Proof Sys2Proof.Machine

/-- A part at a place of a list. -/
theorem pt {l : List Part} (n : Nat) {x : Part} (h : l[n]? = some x) : x ∈ l := List.mem_of_getElem? h

variable {s t : State}

theorem foot_pcieUnsupportedRequest {a0 : Nat} {a1 : Nat} {a2 : Nat} (h : exec (.pcieUnsupportedRequest a0 a1 a2) s = .next t) : Moves (· ∈ Footprint.wPcieUnsupportedRequest) s t :=
  execPcieUnsupportedRequest_moves (pt 0 rfl) _ _ _ h
theorem foot_sysLock {a0 : Nat} (h : exec (.sysLock a0) s = .next t) : Moves (· ∈ Footprint.wSysLock) s t :=
  execSysLock_moves (pt 14 rfl) (pt 0 rfl) (pt 1 rfl) (pt 15 rfl) (pt 10 rfl) (pt 4 rfl) (pt 2 rfl) (pt 11 rfl) (pt 5 rfl) (pt 6 rfl) (pt 3 rfl) (pt 12 rfl) (pt 7 rfl) (pt 13 rfl) (pt 8 rfl) (pt 9 rfl) _ h
theorem foot_bridgePrefilled {a0 : Nat} (h : exec (.bridgePrefilled a0) s = .next t) : Moves (· ∈ Footprint.wBridgePrefilled) s t :=
  execBridgePrefilled_moves (pt 0 rfl) (pt 8 rfl) (pt 9 rfl) (pt 1 rfl) (pt 10 rfl) (pt 2 rfl) (pt 3 rfl) (pt 4 rfl) (pt 5 rfl) (pt 6 rfl) (pt 7 rfl) _ h
theorem foot_bridgeUnderflow {a0 : Nat} (h : exec (.bridgeUnderflow a0) s = .next t) : Moves (· ∈ Footprint.wBridgeUnderflow) s t :=
  execBridgeUnderflow_moves (pt 0 rfl) (pt 1 rfl) (pt 2 rfl) (pt 3 rfl) (pt 52 rfl) (pt 53 rfl) (pt 54 rfl) (pt 4 rfl) (pt 44 rfl) (pt 45 rfl) (pt 5 rfl) (pt 6 rfl) (pt 48 rfl) (pt 49 rfl) (pt 38 rfl) (pt 7 rfl) (pt 50 rfl) (pt 51 rfl) (pt 8 rfl) (pt 46 rfl) (pt 47 rfl) (pt 9 rfl) (pt 40 rfl) (pt 10 rfl) (pt 41 rfl) (pt 42 rfl) (pt 27 rfl) (pt 21 rfl) (pt 11 rfl) (pt 28 rfl) (pt 22 rfl) (pt 23 rfl) (pt 12 rfl) (pt 55 rfl) (pt 56 rfl) (pt 57 rfl) (pt 58 rfl) (pt 13 rfl) (pt 14 rfl) (pt 15 rfl) (pt 16 rfl) (pt 31 rfl) (pt 32 rfl) (pt 33 rfl) (pt 34 rfl) (pt 35 rfl) (pt 17 rfl) (pt 43 rfl) (pt 39 rfl) (pt 29 rfl) (pt 24 rfl) (pt 30 rfl) (pt 25 rfl) (pt 26 rfl) (pt 18 rfl) (pt 19 rfl) (pt 36 rfl) (pt 37 rfl) (pt 20 rfl) _ h
theorem foot_bridgeOverflow {a0 : Nat} (h : exec (.bridgeOverflow a0) s = .next t) : Moves (· ∈ Footprint.wBridgeOverflow) s t :=
  execBridgeOverflow_moves (pt 0 rfl) (pt 1 rfl) (pt 2 rfl) (pt 3 rfl) (pt 52 rfl) (pt 53 rfl) (pt 54 rfl) (pt 4 rfl) (pt 44 rfl) (pt 45 rfl) (pt 5 rfl) (pt 6 rfl) (pt 48 rfl) (pt 49 rfl) (pt 38 rfl) (pt 7 rfl) (pt 50 rfl) (pt 51 rfl) (pt 8 rfl) (pt 46 rfl) (pt 47 rfl) (pt 9 rfl) (pt 40 rfl) (pt 10 rfl) (pt 41 rfl) (pt 42 rfl) (pt 27 rfl) (pt 21 rfl) (pt 11 rfl) (pt 28 rfl) (pt 22 rfl) (pt 23 rfl) (pt 12 rfl) (pt 55 rfl) (pt 56 rfl) (pt 57 rfl) (pt 58 rfl) (pt 13 rfl) (pt 14 rfl) (pt 15 rfl) (pt 16 rfl) (pt 31 rfl) (pt 32 rfl) (pt 33 rfl) (pt 34 rfl) (pt 35 rfl) (pt 17 rfl) (pt 43 rfl) (pt 39 rfl) (pt 29 rfl) (pt 24 rfl) (pt 30 rfl) (pt 25 rfl) (pt 26 rfl) (pt 18 rfl) (pt 19 rfl) (pt 36 rfl) (pt 37 rfl) (pt 20 rfl) _ h
theorem foot_slackLow {a0 : Nat} {a1 : Nat} (h : exec (.slackLow a0 a1) s = .next t) : Moves (· ∈ Footprint.wSlackLow) s t :=
  execSlackLow_moves (pt 0 rfl) (pt 1 rfl) (pt 15 rfl) (pt 9 rfl) (pt 2 rfl) (pt 16 rfl) (pt 10 rfl) (pt 11 rfl) (pt 19 rfl) (pt 3 rfl) (pt 4 rfl) (pt 5 rfl) (pt 6 rfl) (pt 7 rfl) (pt 20 rfl) (pt 17 rfl) (pt 12 rfl) (pt 18 rfl) (pt 13 rfl) (pt 14 rfl) (pt 8 rfl) (pt 21 rfl) (pt 22 rfl) _ _ h
theorem foot_hardMarginCrossing {a0 : Nat} {a1 : Nat} (h : exec (.hardMarginCrossing a0 a1) s = .next t) : Moves (· ∈ Footprint.wHardMarginCrossing) s t :=
  execHardMarginCrossing_moves (pt 0 rfl) (pt 1 rfl) (pt 2 rfl) (pt 3 rfl) (pt 52 rfl) (pt 53 rfl) (pt 54 rfl) (pt 4 rfl) (pt 44 rfl) (pt 45 rfl) (pt 5 rfl) (pt 6 rfl) (pt 48 rfl) (pt 49 rfl) (pt 38 rfl) (pt 7 rfl) (pt 50 rfl) (pt 51 rfl) (pt 8 rfl) (pt 46 rfl) (pt 47 rfl) (pt 9 rfl) (pt 40 rfl) (pt 10 rfl) (pt 41 rfl) (pt 42 rfl) (pt 27 rfl) (pt 21 rfl) (pt 11 rfl) (pt 28 rfl) (pt 22 rfl) (pt 23 rfl) (pt 12 rfl) (pt 55 rfl) (pt 56 rfl) (pt 57 rfl) (pt 58 rfl) (pt 13 rfl) (pt 14 rfl) (pt 15 rfl) (pt 16 rfl) (pt 31 rfl) (pt 32 rfl) (pt 33 rfl) (pt 34 rfl) (pt 35 rfl) (pt 17 rfl) (pt 43 rfl) (pt 39 rfl) (pt 29 rfl) (pt 24 rfl) (pt 30 rfl) (pt 25 rfl) (pt 26 rfl) (pt 18 rfl) (pt 19 rfl) (pt 36 rfl) (pt 37 rfl) (pt 20 rfl) _ _ h
theorem foot_avsDecreaseRequest {a0 : List Nat} (h : exec (.avsDecreaseRequest a0) s = .next t) : Moves (· ∈ Footprint.wAvsDecreaseRequest) s t :=
  execAvsDecreaseRequest_moves (pt 0 rfl) (pt 1 rfl) (pt 12 rfl) (pt 6 rfl) (pt 2 rfl) (pt 13 rfl) (pt 7 rfl) (pt 8 rfl) (pt 16 rfl) (pt 3 rfl) (pt 4 rfl) (pt 17 rfl) (pt 14 rfl) (pt 9 rfl) (pt 15 rfl) (pt 10 rfl) (pt 11 rfl) (pt 5 rfl) (pt 18 rfl) (pt 19 rfl) _ h
theorem foot_autoRelease {a0 : List Nat} (h : exec (.autoRelease a0) s = .next t) : Moves (· ∈ Footprint.wAutoRelease) s t :=
  execAutoRelease_moves (pt 0 rfl) (pt 1 rfl) (pt 2 rfl) (pt 3 rfl) (pt 4 rfl) _ h
theorem foot_release {a0 : List Nat} (h : exec (.release a0) s = .next t) : Moves (· ∈ Footprint.wRelease) s t :=
  execRelease_moves (pt 19 rfl) (pt 0 rfl) (pt 1 rfl) (pt 20 rfl) (pt 15 rfl) (pt 9 rfl) (pt 2 rfl) (pt 16 rfl) (pt 10 rfl) (pt 11 rfl) (pt 3 rfl) (pt 4 rfl) (pt 5 rfl) (pt 6 rfl) (pt 17 rfl) (pt 12 rfl) (pt 18 rfl) (pt 13 rfl) (pt 14 rfl) (pt 7 rfl) (pt 8 rfl) _ h
theorem foot_actionReleaseEffect (h : exec (.actionReleaseEffect) s = .next t) : Moves (· ∈ Footprint.wActionReleaseEffect) s t :=
  execActionReleaseEffect_moves (pt 0 rfl) (pt 1 rfl) (pt 4 rfl) (pt 5 rfl) (pt 6 rfl) (pt 7 rfl) (pt 2 rfl) (pt 3 rfl) h
theorem foot_slackCfgWrite {a0 : Nat} {a1 : Nat} (h : exec (.slackCfgWrite a0 a1) s = .next t) : Moves (· ∈ Footprint.wSlackCfgWrite) s t :=
  execSlackCfgWrite_moves (pt 18 rfl) (pt 0 rfl) (pt 1 rfl) (pt 19 rfl) (pt 14 rfl) (pt 8 rfl) (pt 2 rfl) (pt 15 rfl) (pt 9 rfl) (pt 10 rfl) (pt 3 rfl) (pt 4 rfl) (pt 5 rfl) (pt 6 rfl) (pt 16 rfl) (pt 11 rfl) (pt 17 rfl) (pt 12 rfl) (pt 13 rfl) (pt 7 rfl) _ _ h
theorem foot_ltxEnable (h : exec (.ltxEnable) s = .next t) : Moves (· ∈ Footprint.wLtxEnable) s t :=
  execLtxEnable_moves (pt 28 rfl) (pt 0 rfl) (pt 1 rfl) (pt 2 rfl) (pt 3 rfl) (pt 4 rfl) (pt 30 rfl) (pt 31 rfl) (pt 5 rfl) (pt 6 rfl) (pt 7 rfl) (pt 8 rfl) (pt 29 rfl) (pt 24 rfl) (pt 18 rfl) (pt 9 rfl) (pt 25 rfl) (pt 19 rfl) (pt 20 rfl) (pt 36 rfl) (pt 10 rfl) (pt 37 rfl) (pt 11 rfl) (pt 12 rfl) (pt 13 rfl) (pt 14 rfl) (pt 32 rfl) (pt 33 rfl) (pt 34 rfl) (pt 35 rfl) (pt 15 rfl) (pt 16 rfl) (pt 26 rfl) (pt 21 rfl) (pt 27 rfl) (pt 22 rfl) (pt 23 rfl) (pt 17 rfl) (pt 38 rfl) (pt 39 rfl) (pt 40 rfl) (pt 41 rfl) h
theorem foot_ltxStart (h : exec (.ltxStart) s = .next t) : Moves (· ∈ Footprint.wLtxStart) s t :=
  execLtxStart_moves (pt 0 rfl) (pt 1 rfl) (pt 2 rfl) (pt 3 rfl) h
theorem foot_ltxDisable (h : exec (.ltxDisable) s = .next t) : Moves (· ∈ Footprint.wLtxDisable) s t :=
  execLtxDisable_moves (pt 30 rfl) (pt 0 rfl) (pt 1 rfl) (pt 2 rfl) (pt 3 rfl) (pt 32 rfl) (pt 33 rfl) (pt 4 rfl) (pt 5 rfl) (pt 6 rfl) (pt 7 rfl) (pt 8 rfl) (pt 9 rfl) (pt 10 rfl) (pt 31 rfl) (pt 26 rfl) (pt 20 rfl) (pt 11 rfl) (pt 27 rfl) (pt 21 rfl) (pt 22 rfl) (pt 38 rfl) (pt 12 rfl) (pt 39 rfl) (pt 13 rfl) (pt 14 rfl) (pt 15 rfl) (pt 34 rfl) (pt 35 rfl) (pt 36 rfl) (pt 37 rfl) (pt 16 rfl) (pt 17 rfl) (pt 18 rfl) (pt 28 rfl) (pt 23 rfl) (pt 29 rfl) (pt 24 rfl) (pt 25 rfl) (pt 19 rfl) (pt 40 rfl) (pt 41 rfl) (pt 42 rfl) (pt 43 rfl) h
theorem foot_hostMute {a0 : Nat} (h : exec (.hostMute a0) s = .next t) : Moves (· ∈ Footprint.wHostMute) s t :=
  execHostMute_moves (pt 21 rfl) (pt 0 rfl) (pt 1 rfl) (pt 2 rfl) (pt 3 rfl) (pt 23 rfl) (pt 24 rfl) (pt 4 rfl) (pt 29 rfl) (pt 5 rfl) (pt 22 rfl) (pt 17 rfl) (pt 11 rfl) (pt 6 rfl) (pt 18 rfl) (pt 12 rfl) (pt 13 rfl) (pt 7 rfl) (pt 8 rfl) (pt 25 rfl) (pt 26 rfl) (pt 27 rfl) (pt 28 rfl) (pt 9 rfl) (pt 10 rfl) (pt 30 rfl) (pt 19 rfl) (pt 14 rfl) (pt 20 rfl) (pt 15 rfl) (pt 16 rfl) _ h
theorem foot_muteResume (h : exec (.muteResume) s = .next t) : Moves (· ∈ Footprint.wMuteResume) s t :=
  execMuteResume_moves (pt 0 rfl) (pt 1 rfl) h
theorem foot_loadSwap {a0 : Nat} (h : exec (.loadSwap a0) s = .next t) : Moves (· ∈ Footprint.wLoadSwap) s t :=
  execLoadSwap_moves (pt 0 rfl) (pt 1 rfl) (pt 2 rfl) (pt 49 rfl) (pt 50 rfl) (pt 3 rfl) (pt 51 rfl) (pt 4 rfl) (pt 5 rfl) (pt 6 rfl) (pt 7 rfl) (pt 8 rfl) (pt 9 rfl) (pt 52 rfl) (pt 10 rfl) (pt 11 rfl) (pt 12 rfl) (pt 13 rfl) (pt 14 rfl) (pt 15 rfl) (pt 16 rfl) (pt 17 rfl) (pt 18 rfl) (pt 19 rfl) (pt 20 rfl) (pt 21 rfl) (pt 22 rfl) (pt 23 rfl) (pt 24 rfl) (pt 25 rfl) (pt 26 rfl) (pt 27 rfl) (pt 28 rfl) (pt 29 rfl) (pt 30 rfl) (pt 31 rfl) (pt 32 rfl) (pt 33 rfl) (pt 34 rfl) (pt 35 rfl) (pt 53 rfl) (pt 54 rfl) (pt 36 rfl) (pt 55 rfl) (pt 56 rfl) (pt 37 rfl) (pt 38 rfl) (pt 39 rfl) (pt 40 rfl) (pt 41 rfl) (pt 42 rfl) (pt 43 rfl) (pt 44 rfl) (pt 45 rfl) (pt 46 rfl) (pt 47 rfl) (pt 48 rfl) _ h
theorem foot_freqOfsWrite {a0 : Nat} (h : exec (.freqOfsWrite a0) s = .next t) : Moves (· ∈ Footprint.wFreqOfsWrite) s t :=
  execFreqOfsWrite_moves (pt 22 rfl) (pt 0 rfl) (pt 1 rfl) (pt 2 rfl) (pt 3 rfl) (pt 24 rfl) (pt 25 rfl) (pt 4 rfl) (pt 5 rfl) (pt 6 rfl) (pt 23 rfl) (pt 18 rfl) (pt 12 rfl) (pt 7 rfl) (pt 19 rfl) (pt 13 rfl) (pt 14 rfl) (pt 8 rfl) (pt 9 rfl) (pt 26 rfl) (pt 27 rfl) (pt 28 rfl) (pt 29 rfl) (pt 10 rfl) (pt 11 rfl) (pt 20 rfl) (pt 15 rfl) (pt 21 rfl) (pt 16 rfl) (pt 17 rfl) _ h
theorem foot_freqOfsApply (h : exec (.freqOfsApply) s = .next t) : Moves (· ∈ Footprint.wFreqOfsApply) s t :=
  execFreqOfsApply_moves (pt 0 rfl) (pt 1 rfl) (pt 2 rfl) h
theorem foot_cdpreGo (h : exec (.cdpreGo) s = .next t) : Moves (· ∈ Footprint.wCdpreGo) s t :=
  execCdpreGo_moves (pt 26 rfl) (pt 0 rfl) (pt 1 rfl) (pt 2 rfl) (pt 3 rfl) (pt 28 rfl) (pt 29 rfl) (pt 4 rfl) (pt 5 rfl) (pt 6 rfl) (pt 27 rfl) (pt 22 rfl) (pt 16 rfl) (pt 7 rfl) (pt 23 rfl) (pt 17 rfl) (pt 18 rfl) (pt 8 rfl) (pt 9 rfl) (pt 10 rfl) (pt 30 rfl) (pt 31 rfl) (pt 32 rfl) (pt 33 rfl) (pt 11 rfl) (pt 12 rfl) (pt 13 rfl) (pt 14 rfl) (pt 15 rfl) (pt 24 rfl) (pt 19 rfl) (pt 25 rfl) (pt 20 rfl) (pt 21 rfl) h
theorem foot_cdpreFadeDone {a0 : Nat} (h : exec (.cdpreFadeDone a0) s = .next t) : Moves (· ∈ Footprint.wCdpreFadeDone) s t :=
  execCdpreFadeDone_moves (pt 0 rfl) (pt 1 rfl) (pt 2 rfl) (pt 3 rfl) (pt 4 rfl) (pt 5 rfl) (pt 6 rfl) _ h
theorem foot_skewWrite {a0 : Nat} {a1 : Nat} (h : exec (.skewWrite a0 a1) s = .next t) : Moves (· ∈ Footprint.wSkewWrite) s t :=
  execSkewWrite_moves (pt 21 rfl) (pt 0 rfl) (pt 1 rfl) (pt 2 rfl) (pt 3 rfl) (pt 23 rfl) (pt 24 rfl) (pt 4 rfl) (pt 5 rfl) (pt 6 rfl) (pt 22 rfl) (pt 17 rfl) (pt 11 rfl) (pt 7 rfl) (pt 18 rfl) (pt 12 rfl) (pt 13 rfl) (pt 8 rfl) (pt 9 rfl) (pt 25 rfl) (pt 26 rfl) (pt 27 rfl) (pt 28 rfl) (pt 10 rfl) (pt 19 rfl) (pt 14 rfl) (pt 20 rfl) (pt 15 rfl) (pt 16 rfl) _ _ h
theorem foot_skewSlewDone {a0 : Nat} (h : exec (.skewSlewDone a0) s = .next t) : Moves (· ∈ Footprint.wSkewSlewDone) s t :=
  execSkewSlewDone_moves (pt 0 rfl) (pt 1 rfl) (pt 2 rfl) _ h
theorem foot_peqSwap (h : exec (.peqSwap) s = .next t) : Moves (· ∈ Footprint.wPeqSwap) s t :=
  execPeqSwap_moves (pt 20 rfl) (pt 0 rfl) (pt 1 rfl) (pt 2 rfl) (pt 3 rfl) (pt 22 rfl) (pt 23 rfl) (pt 4 rfl) (pt 5 rfl) (pt 21 rfl) (pt 16 rfl) (pt 10 rfl) (pt 6 rfl) (pt 17 rfl) (pt 11 rfl) (pt 12 rfl) (pt 7 rfl) (pt 8 rfl) (pt 24 rfl) (pt 25 rfl) (pt 26 rfl) (pt 27 rfl) (pt 9 rfl) (pt 18 rfl) (pt 13 rfl) (pt 19 rfl) (pt 14 rfl) (pt 15 rfl) h
theorem foot_peqSwapApply (h : exec (.peqSwapApply) s = .next t) : Moves (· ∈ Footprint.wPeqSwapApply) s t :=
  execPeqSwapApply_moves (pt 0 rfl) (pt 1 rfl) (pt 2 rfl) (pt 3 rfl) h
theorem foot_pdSwap (h : exec (.pdSwap) s = .next t) : Moves (· ∈ Footprint.wPdSwap) s t :=
  execPdSwap_moves (pt 20 rfl) (pt 0 rfl) (pt 1 rfl) (pt 2 rfl) (pt 3 rfl) (pt 22 rfl) (pt 23 rfl) (pt 4 rfl) (pt 5 rfl) (pt 21 rfl) (pt 16 rfl) (pt 10 rfl) (pt 6 rfl) (pt 17 rfl) (pt 11 rfl) (pt 12 rfl) (pt 7 rfl) (pt 8 rfl) (pt 24 rfl) (pt 25 rfl) (pt 26 rfl) (pt 27 rfl) (pt 9 rfl) (pt 18 rfl) (pt 13 rfl) (pt 19 rfl) (pt 14 rfl) (pt 15 rfl) h
theorem foot_pdSwapApply (h : exec (.pdSwapApply) s = .next t) : Moves (· ∈ Footprint.wPdSwapApply) s t :=
  execPdSwapApply_moves (pt 0 rfl) (pt 1 rfl) (pt 2 rfl) (pt 3 rfl) h
theorem foot_lrxEnable (h : exec (.lrxEnable) s = .next t) : Moves (· ∈ Footprint.wLrxEnable) s t :=
  execLrxEnable_moves (pt 41 rfl) (pt 0 rfl) (pt 1 rfl) (pt 2 rfl) (pt 3 rfl) (pt 4 rfl) (pt 5 rfl) (pt 6 rfl) (pt 7 rfl) (pt 8 rfl) (pt 9 rfl) (pt 10 rfl) (pt 43 rfl) (pt 44 rfl) (pt 11 rfl) (pt 12 rfl) (pt 13 rfl) (pt 53 rfl) (pt 54 rfl) (pt 14 rfl) (pt 15 rfl) (pt 55 rfl) (pt 56 rfl) (pt 42 rfl) (pt 37 rfl) (pt 31 rfl) (pt 16 rfl) (pt 38 rfl) (pt 32 rfl) (pt 33 rfl) (pt 49 rfl) (pt 17 rfl) (pt 50 rfl) (pt 18 rfl) (pt 19 rfl) (pt 45 rfl) (pt 46 rfl) (pt 47 rfl) (pt 48 rfl) (pt 20 rfl) (pt 21 rfl) (pt 22 rfl) (pt 23 rfl) (pt 24 rfl) (pt 25 rfl) (pt 57 rfl) (pt 58 rfl) (pt 26 rfl) (pt 59 rfl) (pt 60 rfl) (pt 27 rfl) (pt 28 rfl) (pt 29 rfl) (pt 39 rfl) (pt 34 rfl) (pt 40 rfl) (pt 35 rfl) (pt 36 rfl) (pt 30 rfl) (pt 51 rfl) (pt 52 rfl) (pt 61 rfl) (pt 62 rfl) h
theorem foot_lrxDisable (h : exec (.lrxDisable) s = .next t) : Moves (· ∈ Footprint.wLrxDisable) s t :=
  execLrxDisable_moves (pt 36 rfl) (pt 0 rfl) (pt 1 rfl) (pt 2 rfl) (pt 3 rfl) (pt 38 rfl) (pt 39 rfl) (pt 4 rfl) (pt 5 rfl) (pt 6 rfl) (pt 7 rfl) (pt 48 rfl) (pt 49 rfl) (pt 8 rfl) (pt 9 rfl) (pt 10 rfl) (pt 11 rfl) (pt 12 rfl) (pt 13 rfl) (pt 14 rfl) (pt 15 rfl) (pt 50 rfl) (pt 37 rfl) (pt 32 rfl) (pt 26 rfl) (pt 16 rfl) (pt 33 rfl) (pt 27 rfl) (pt 28 rfl) (pt 44 rfl) (pt 17 rfl) (pt 45 rfl) (pt 18 rfl) (pt 19 rfl) (pt 20 rfl) (pt 40 rfl) (pt 41 rfl) (pt 42 rfl) (pt 43 rfl) (pt 21 rfl) (pt 22 rfl) (pt 23 rfl) (pt 24 rfl) (pt 34 rfl) (pt 29 rfl) (pt 35 rfl) (pt 30 rfl) (pt 31 rfl) (pt 25 rfl) (pt 46 rfl) (pt 47 rfl) (pt 51 rfl) (pt 52 rfl) h
theorem foot_losSet {a0 : Nat} (h : exec (.losSet a0) s = .next t) : Moves (· ∈ Footprint.wLosSet) s t :=
  execLosSet_moves (pt 0 rfl) (pt 1 rfl) (pt 17 rfl) (pt 18 rfl) (pt 2 rfl) (pt 3 rfl) (pt 19 rfl) (pt 4 rfl) (pt 5 rfl) (pt 6 rfl) (pt 7 rfl) (pt 13 rfl) (pt 8 rfl) (pt 14 rfl) (pt 15 rfl) (pt 16 rfl) (pt 9 rfl) (pt 10 rfl) (pt 11 rfl) (pt 12 rfl) _ h
theorem foot_losClear {a0 : Nat} (h : exec (.losClear a0) s = .next t) : Moves (· ∈ Footprint.wLosClear) s t :=
  execLosClear_moves (pt 0 rfl) (pt 1 rfl) (pt 2 rfl) (pt 3 rfl) (pt 4 rfl) (pt 5 rfl) (pt 6 rfl) (pt 7 rfl) (pt 8 rfl) (pt 13 rfl) (pt 9 rfl) (pt 14 rfl) (pt 15 rfl) (pt 16 rfl) (pt 10 rfl) (pt 11 rfl) (pt 12 rfl) _ h
theorem foot_losHoldExpiry (h : exec (.losHoldExpiry) s = .next t) : Moves (· ∈ Footprint.wLosHoldExpiry) s t :=
  execLosHoldExpiry_moves (pt 0 rfl) (pt 15 rfl) (pt 16 rfl) (pt 1 rfl) (pt 17 rfl) (pt 2 rfl) (pt 3 rfl) (pt 4 rfl) (pt 5 rfl) (pt 11 rfl) (pt 6 rfl) (pt 12 rfl) (pt 13 rfl) (pt 14 rfl) (pt 7 rfl) (pt 8 rfl) (pt 9 rfl) (pt 10 rfl) h
theorem foot_cdGo (h : exec (.cdGo) s = .next t) : Moves (· ∈ Footprint.wCdGo) s t :=
  execCdGo_moves (pt 26 rfl) (pt 0 rfl) (pt 1 rfl) (pt 2 rfl) (pt 3 rfl) (pt 28 rfl) (pt 29 rfl) (pt 4 rfl) (pt 5 rfl) (pt 6 rfl) (pt 7 rfl) (pt 8 rfl) (pt 27 rfl) (pt 22 rfl) (pt 16 rfl) (pt 9 rfl) (pt 23 rfl) (pt 17 rfl) (pt 18 rfl) (pt 10 rfl) (pt 11 rfl) (pt 30 rfl) (pt 31 rfl) (pt 32 rfl) (pt 33 rfl) (pt 12 rfl) (pt 13 rfl) (pt 14 rfl) (pt 15 rfl) (pt 24 rfl) (pt 19 rfl) (pt 25 rfl) (pt 20 rfl) (pt 21 rfl) h
theorem foot_cdArm (h : exec (.cdArm) s = .next t) : Moves (· ∈ Footprint.wCdArm) s t :=
  execCdArm_moves (pt 23 rfl) (pt 0 rfl) (pt 1 rfl) (pt 2 rfl) (pt 3 rfl) (pt 25 rfl) (pt 26 rfl) (pt 4 rfl) (pt 5 rfl) (pt 6 rfl) (pt 7 rfl) (pt 24 rfl) (pt 19 rfl) (pt 13 rfl) (pt 8 rfl) (pt 20 rfl) (pt 14 rfl) (pt 15 rfl) (pt 9 rfl) (pt 10 rfl) (pt 27 rfl) (pt 28 rfl) (pt 29 rfl) (pt 30 rfl) (pt 11 rfl) (pt 12 rfl) (pt 21 rfl) (pt 16 rfl) (pt 22 rfl) (pt 17 rfl) (pt 18 rfl) h
theorem foot_cdDisarm (h : exec (.cdDisarm) s = .next t) : Moves (· ∈ Footprint.wCdDisarm) s t :=
  execCdDisarm_moves (pt 20 rfl) (pt 0 rfl) (pt 1 rfl) (pt 2 rfl) (pt 3 rfl) (pt 22 rfl) (pt 23 rfl) (pt 4 rfl) (pt 5 rfl) (pt 21 rfl) (pt 16 rfl) (pt 10 rfl) (pt 6 rfl) (pt 17 rfl) (pt 11 rfl) (pt 12 rfl) (pt 7 rfl) (pt 8 rfl) (pt 24 rfl) (pt 25 rfl) (pt 26 rfl) (pt 27 rfl) (pt 9 rfl) (pt 18 rfl) (pt 13 rfl) (pt 19 rfl) (pt 14 rfl) (pt 15 rfl) h
theorem foot_cdFadeDone {a0 : Nat} (h : exec (.cdFadeDone a0) s = .next t) : Moves (· ∈ Footprint.wCdFadeDone) s t :=
  execCdFadeDone_moves (pt 0 rfl) (pt 1 rfl) (pt 2 rfl) (pt 3 rfl) (pt 4 rfl) (pt 5 rfl) (pt 6 rfl) _ h
theorem foot_cdEstimateDone {a0 : Int} (h : exec (.cdEstimateDone a0) s = .next t) : Moves (· ∈ Footprint.wCdEstimateDone) s t :=
  execCdEstimateDone_moves (pt 0 rfl) (pt 1 rfl) (pt 2 rfl) (pt 3 rfl) (pt 5 rfl) (pt 6 rfl) (pt 7 rfl) (pt 4 rfl) _ h
theorem foot_coarseLock {a0 : Int} {a1 : Nat} (h : exec (.coarseLock a0 a1) s = .next t) : Moves (· ∈ Footprint.wCoarseLock) s t :=
  execCoarseLock_moves (pt 0 rfl) (pt 4 rfl) (pt 5 rfl) (pt 1 rfl) (pt 6 rfl) (pt 2 rfl) (pt 3 rfl) _ _ h
theorem foot_acqTmo (h : exec (.acqTmo) s = .next t) : Moves (· ∈ Footprint.wAcqTmo) s t :=
  execAcqTmo_moves (pt 0 rfl) (pt 1 rfl) (pt 8 rfl) (pt 9 rfl) (pt 2 rfl) (pt 3 rfl) (pt 10 rfl) (pt 4 rfl) (pt 5 rfl) (pt 6 rfl) (pt 7 rfl) h
theorem foot_scLock {a0 : Nat} {a1 : Nat} (h : exec (.scLock a0 a1) s = .next t) : Moves (· ∈ Footprint.wScLock) s t :=
  execScLock_moves (pt 0 rfl) (pt 4 rfl) (pt 5 rfl) (pt 1 rfl) (pt 6 rfl) (pt 2 rfl) (pt 3 rfl) _ _ h
theorem foot_scUnlock {a0 : Nat} {a1 : Nat} (h : exec (.scUnlock a0 a1) s = .next t) : Moves (· ∈ Footprint.wScUnlock) s t :=
  execScUnlock_moves (pt 0 rfl) (pt 1 rfl) (pt 2 rfl) _ _ h
theorem foot_trackLost (h : exec (.trackLost) s = .next t) : Moves (· ∈ Footprint.wTrackLost) s t :=
  execTrackLost_moves (pt 0 rfl) (pt 3 rfl) (pt 4 rfl) (pt 1 rfl) (pt 5 rfl) (pt 2 rfl) h
theorem foot_singular {a0 : Nat} {a1 : Nat} {a2 : Nat} (h : exec (.singular a0 a1 a2) s = .next t) : Moves (· ∈ Footprint.wSingular) s t :=
  execSingular_moves (pt 0 rfl) (pt 1 rfl) (pt 2 rfl) (pt 3 rfl) (pt 4 rfl) (pt 5 rfl) _ _ _ h
theorem foot_cycleSlip {a0 : Nat} {a1 : Nat} (h : exec (.cycleSlip a0 a1) s = .next t) : Moves (· ∈ Footprint.wCycleSlip) s t :=
  execCycleSlip_moves (pt 0 rfl) (pt 1 rfl) (pt 2 rfl) (pt 3 rfl) (pt 4 rfl) _ _ h
theorem foot_lofbUpdate {a0 : Int} (h : exec (.lofbUpdate a0) s = .next t) : Moves (· ∈ Footprint.wLofbUpdate) s t :=
  execLofbUpdate_moves (pt 0 rfl) (pt 1 rfl) (pt 2 rfl) (pt 3 rfl) (pt 4 rfl) (pt 5 rfl) (pt 17 rfl) (pt 18 rfl) (pt 12 rfl) (pt 6 rfl) (pt 7 rfl) (pt 8 rfl) (pt 19 rfl) (pt 13 rfl) (pt 14 rfl) (pt 9 rfl) (pt 10 rfl) (pt 15 rfl) (pt 16 rfl) (pt 11 rfl) _ h
theorem foot_lofbOffloadDone (h : exec (.lofbOffloadDone) s = .next t) : Moves (· ∈ Footprint.wLofbOffloadDone) s t :=
  execLofbOffloadDone_moves (pt 0 rfl) (pt 1 rfl) (pt 2 rfl) (pt 3 rfl) (pt 4 rfl) (pt 5 rfl) (pt 8 rfl) (pt 9 rfl) (pt 6 rfl) (pt 10 rfl) (pt 7 rfl) h
theorem foot_lofbErr (h : exec (.lofbErr) s = .next t) : Moves (· ∈ Footprint.wLofbErr) s t :=
  execLofbErr_moves (pt 0 rfl) (pt 1 rfl) (pt 2 rfl) h
theorem foot_restart (h : exec (.restart) s = .next t) : Moves (· ∈ Footprint.wRestart) s t :=
  execRestart_moves (pt 24 rfl) (pt 0 rfl) (pt 1 rfl) (pt 2 rfl) (pt 3 rfl) (pt 26 rfl) (pt 27 rfl) (pt 4 rfl) (pt 32 rfl) (pt 33 rfl) (pt 5 rfl) (pt 34 rfl) (pt 25 rfl) (pt 20 rfl) (pt 14 rfl) (pt 6 rfl) (pt 21 rfl) (pt 15 rfl) (pt 16 rfl) (pt 7 rfl) (pt 8 rfl) (pt 28 rfl) (pt 29 rfl) (pt 30 rfl) (pt 31 rfl) (pt 9 rfl) (pt 10 rfl) (pt 11 rfl) (pt 12 rfl) (pt 13 rfl) (pt 22 rfl) (pt 17 rfl) (pt 23 rfl) (pt 18 rfl) (pt 19 rfl) h
theorem foot_snrLatch {a0 : List (List Nat)} {a1 : List (List Nat)} {a2 : List Int} (h : exec (.snrLatch a0 a1 a2) s = .next t) : Moves (· ∈ Footprint.wSnrLatch) s t :=
  execSnrLatch_moves (pt 0 rfl) (pt 1 rfl) (pt 2 rfl) (pt 3 rfl) (pt 4 rfl) (pt 5 rfl) (pt 46 rfl) (pt 6 rfl) (pt 47 rfl) (pt 7 rfl) (pt 8 rfl) (pt 9 rfl) (pt 10 rfl) (pt 11 rfl) (pt 12 rfl) (pt 13 rfl) (pt 14 rfl) (pt 48 rfl) (pt 15 rfl) (pt 49 rfl) (pt 50 rfl) (pt 51 rfl) (pt 16 rfl) (pt 17 rfl) (pt 18 rfl) (pt 19 rfl) (pt 20 rfl) (pt 21 rfl) (pt 22 rfl) (pt 23 rfl) (pt 24 rfl) (pt 25 rfl) (pt 26 rfl) (pt 27 rfl) (pt 28 rfl) (pt 29 rfl) (pt 30 rfl) (pt 31 rfl) (pt 32 rfl) (pt 33 rfl) (pt 34 rfl) (pt 35 rfl) (pt 36 rfl) (pt 37 rfl) (pt 38 rfl) (pt 39 rfl) (pt 40 rfl) (pt 41 rfl) (pt 42 rfl) (pt 43 rfl) (pt 44 rfl) (pt 45 rfl) _ _ _ h
theorem foot_dmErr {a0 : Nat} {a1 : List Nat} (h : exec (.dmErr a0 a1) s = .next t) : Moves (· ∈ Footprint.wDmErr) s t :=
  execDmErr_moves (pt 0 rfl) (pt 1 rfl) (pt 2 rfl) (pt 3 rfl) _ _ h
theorem foot_tapSetSwitch {a0 : Nat} {a1 : Nat} {a2 : Bool} (h : exec (.tapSetSwitch a0 a1 a2) s = .next t) : Moves (· ∈ Footprint.wTapSetSwitch) s t :=
  execTapSetSwitch_moves (pt 0 rfl) (pt 1 rfl) (pt 2 rfl) (pt 3 rfl) (pt 4 rfl) (pt 5 rfl) (pt 6 rfl) _ _ _ h
theorem foot_commitDs (h : exec (.commitDs) s = .next t) : Moves (· ∈ Footprint.wCommitDs) s t :=
  execCommitDs_moves (pt 32 rfl) (pt 0 rfl) (pt 1 rfl) (pt 2 rfl) (pt 34 rfl) (pt 35 rfl) (pt 36 rfl) (pt 3 rfl) (pt 37 rfl) (pt 38 rfl) (pt 39 rfl) (pt 4 rfl) (pt 33 rfl) (pt 28 rfl) (pt 22 rfl) (pt 5 rfl) (pt 29 rfl) (pt 23 rfl) (pt 24 rfl) (pt 6 rfl) (pt 7 rfl) (pt 8 rfl) (pt 9 rfl) (pt 10 rfl) (pt 11 rfl) (pt 12 rfl) (pt 13 rfl) (pt 14 rfl) (pt 15 rfl) (pt 16 rfl) (pt 30 rfl) (pt 25 rfl) (pt 31 rfl) (pt 26 rfl) (pt 27 rfl) (pt 17 rfl) (pt 18 rfl) (pt 19 rfl) (pt 20 rfl) (pt 21 rfl) h
theorem foot_commitUs (h : exec (.commitUs) s = .next t) : Moves (· ∈ Footprint.wCommitUs) s t :=
  execCommitUs_moves (pt 32 rfl) (pt 0 rfl) (pt 1 rfl) (pt 2 rfl) (pt 34 rfl) (pt 35 rfl) (pt 36 rfl) (pt 3 rfl) (pt 37 rfl) (pt 38 rfl) (pt 39 rfl) (pt 4 rfl) (pt 33 rfl) (pt 28 rfl) (pt 22 rfl) (pt 5 rfl) (pt 29 rfl) (pt 23 rfl) (pt 24 rfl) (pt 6 rfl) (pt 7 rfl) (pt 8 rfl) (pt 9 rfl) (pt 10 rfl) (pt 11 rfl) (pt 12 rfl) (pt 13 rfl) (pt 14 rfl) (pt 15 rfl) (pt 16 rfl) (pt 30 rfl) (pt 25 rfl) (pt 31 rfl) (pt 26 rfl) (pt 27 rfl) (pt 17 rfl) (pt 18 rfl) (pt 19 rfl) (pt 20 rfl) (pt 21 rfl) h
theorem foot_abortDs (h : exec (.abortDs) s = .next t) : Moves (· ∈ Footprint.wAbortDs) s t :=
  execAbortDs_moves (pt 21 rfl) (pt 0 rfl) (pt 1 rfl) (pt 2 rfl) (pt 22 rfl) (pt 17 rfl) (pt 11 rfl) (pt 3 rfl) (pt 18 rfl) (pt 12 rfl) (pt 13 rfl) (pt 4 rfl) (pt 5 rfl) (pt 6 rfl) (pt 7 rfl) (pt 19 rfl) (pt 14 rfl) (pt 20 rfl) (pt 15 rfl) (pt 16 rfl) (pt 8 rfl) (pt 9 rfl) (pt 10 rfl) h
theorem foot_abortUs (h : exec (.abortUs) s = .next t) : Moves (· ∈ Footprint.wAbortUs) s t :=
  execAbortUs_moves (pt 21 rfl) (pt 0 rfl) (pt 1 rfl) (pt 2 rfl) (pt 22 rfl) (pt 17 rfl) (pt 11 rfl) (pt 3 rfl) (pt 18 rfl) (pt 12 rfl) (pt 13 rfl) (pt 4 rfl) (pt 5 rfl) (pt 6 rfl) (pt 7 rfl) (pt 19 rfl) (pt 14 rfl) (pt 20 rfl) (pt 15 rfl) (pt 16 rfl) (pt 8 rfl) (pt 9 rfl) (pt 10 rfl) h
theorem foot_loadAnnounce {a0 : Nat} (h : exec (.loadAnnounce a0) s = .next t) : Moves (· ∈ Footprint.wLoadAnnounce) s t :=
  execLoadAnnounce_moves (pt 0 rfl) (pt 1 rfl) (pt 2 rfl) (pt 3 rfl) (pt 4 rfl) (pt 5 rfl) (pt 6 rfl) (pt 7 rfl) (pt 8 rfl) (pt 9 rfl) _ h
theorem foot_loadAckTmo {a0 : Nat} (h : exec (.loadAckTmo a0) s = .next t) : Moves (· ∈ Footprint.wLoadAckTmo) s t :=
  execLoadAckTmo_moves (pt 0 rfl) (pt 1 rfl) (pt 2 rfl) (pt 3 rfl) (pt 4 rfl) (pt 5 rfl) (pt 6 rfl) (pt 7 rfl) (pt 8 rfl) _ h
theorem foot_fecCfgWrite {a0 : Nat} (h : exec (.fecCfgWrite a0) s = .next t) : Moves (· ∈ Footprint.wFecCfgWrite) s t :=
  execFecCfgWrite_moves (pt 26 rfl) (pt 0 rfl) (pt 1 rfl) (pt 2 rfl) (pt 3 rfl) (pt 4 rfl) (pt 5 rfl) (pt 6 rfl) (pt 7 rfl) (pt 8 rfl) (pt 9 rfl) (pt 10 rfl) (pt 11 rfl) (pt 12 rfl) (pt 27 rfl) (pt 22 rfl) (pt 16 rfl) (pt 13 rfl) (pt 23 rfl) (pt 17 rfl) (pt 18 rfl) (pt 14 rfl) (pt 15 rfl) (pt 24 rfl) (pt 19 rfl) (pt 25 rfl) (pt 20 rfl) (pt 21 rfl) _ h
theorem foot_codewordDecode {a0 : Nat} {a1 : Bool} {a2 : Nat} {a3 : Nat} {a4 : Nat} {a5 : Nat} (h : exec (.codewordDecode a0 a1 a2 a3 a4 a5) s = .next t) : Moves (· ∈ Footprint.wCodewordDecode) s t :=
  execCodewordDecode_moves (pt 0 rfl) (pt 1 rfl) (pt 11 rfl) (pt 5 rfl) (pt 2 rfl) (pt 12 rfl) (pt 6 rfl) (pt 7 rfl) (pt 15 rfl) (pt 16 rfl) (pt 17 rfl) (pt 18 rfl) (pt 19 rfl) (pt 20 rfl) (pt 3 rfl) (pt 4 rfl) (pt 13 rfl) (pt 8 rfl) (pt 14 rfl) (pt 9 rfl) (pt 10 rfl) _ _ _ _ _ _ h
theorem foot_vlkEnable (h : exec (.vlkEnable) s = .next t) : Moves (· ∈ Footprint.wVlkEnable) s t :=
  execVlkEnable_moves (pt 27 rfl) (pt 0 rfl) (pt 1 rfl) (pt 31 rfl) (pt 32 rfl) (pt 2 rfl) (pt 3 rfl) (pt 29 rfl) (pt 4 rfl) (pt 39 rfl) (pt 40 rfl) (pt 5 rfl) (pt 37 rfl) (pt 38 rfl) (pt 28 rfl) (pt 23 rfl) (pt 17 rfl) (pt 6 rfl) (pt 24 rfl) (pt 18 rfl) (pt 19 rfl) (pt 7 rfl) (pt 8 rfl) (pt 33 rfl) (pt 34 rfl) (pt 9 rfl) (pt 35 rfl) (pt 10 rfl) (pt 30 rfl) (pt 25 rfl) (pt 20 rfl) (pt 26 rfl) (pt 21 rfl) (pt 22 rfl) (pt 11 rfl) (pt 12 rfl) (pt 36 rfl) (pt 13 rfl) (pt 14 rfl) (pt 15 rfl) (pt 16 rfl) h
theorem foot_vlkDisable (h : exec (.vlkDisable) s = .next t) : Moves (· ∈ Footprint.wVlkDisable) s t :=
  execVlkDisable_moves (pt 27 rfl) (pt 0 rfl) (pt 1 rfl) (pt 31 rfl) (pt 32 rfl) (pt 2 rfl) (pt 3 rfl) (pt 29 rfl) (pt 4 rfl) (pt 39 rfl) (pt 40 rfl) (pt 5 rfl) (pt 37 rfl) (pt 38 rfl) (pt 28 rfl) (pt 23 rfl) (pt 17 rfl) (pt 6 rfl) (pt 24 rfl) (pt 18 rfl) (pt 19 rfl) (pt 7 rfl) (pt 8 rfl) (pt 33 rfl) (pt 34 rfl) (pt 9 rfl) (pt 35 rfl) (pt 10 rfl) (pt 30 rfl) (pt 25 rfl) (pt 20 rfl) (pt 26 rfl) (pt 21 rfl) (pt 22 rfl) (pt 11 rfl) (pt 12 rfl) (pt 36 rfl) (pt 13 rfl) (pt 14 rfl) (pt 15 rfl) (pt 16 rfl) h
theorem foot_vdfReceive {a0 : Nat} {a1 : Nat} {a2 : Nat} {a3 : Nat} {a4 : Nat} {a5 : Nat} {a6 : Nat} {a7 : Nat} {a8 : Nat} {a9 : Nat} {a10 : Nat} (h : exec (.vdfReceive a0 a1 a2 a3 a4 a5 a6 a7 a8 a9 a10) s = .next t) : Moves (· ∈ Footprint.wVdfReceive) s t :=
  execVdfReceive_moves (pt 0 rfl) (pt 1 rfl) (pt 2 rfl) (pt 49 rfl) (pt 50 rfl) (pt 3 rfl) (pt 4 rfl) (pt 59 rfl) (pt 47 rfl) (pt 5 rfl) (pt 57 rfl) (pt 58 rfl) (pt 6 rfl) (pt 55 rfl) (pt 56 rfl) (pt 43 rfl) (pt 37 rfl) (pt 7 rfl) (pt 44 rfl) (pt 38 rfl) (pt 39 rfl) (pt 8 rfl) (pt 9 rfl) (pt 51 rfl) (pt 10 rfl) (pt 52 rfl) (pt 11 rfl) (pt 53 rfl) (pt 60 rfl) (pt 61 rfl) (pt 12 rfl) (pt 62 rfl) (pt 63 rfl) (pt 13 rfl) (pt 14 rfl) (pt 15 rfl) (pt 16 rfl) (pt 48 rfl) (pt 45 rfl) (pt 40 rfl) (pt 46 rfl) (pt 41 rfl) (pt 42 rfl) (pt 17 rfl) (pt 18 rfl) (pt 19 rfl) (pt 20 rfl) (pt 21 rfl) (pt 22 rfl) (pt 23 rfl) (pt 24 rfl) (pt 25 rfl) (pt 26 rfl) (pt 27 rfl) (pt 28 rfl) (pt 29 rfl) (pt 54 rfl) (pt 30 rfl) (pt 31 rfl) (pt 32 rfl) (pt 33 rfl) (pt 34 rfl) (pt 35 rfl) (pt 36 rfl) _ _ _ _ _ _ _ _ _ _ _ h
theorem foot_beaconLost {a0 : Nat} (h : exec (.beaconLost a0) s = .next t) : Moves (· ∈ Footprint.wBeaconLost) s t :=
  execBeaconLost_moves (pt 0 rfl) (pt 1 rfl) (pt 28 rfl) (pt 29 rfl) (pt 2 rfl) (pt 3 rfl) (pt 26 rfl) (pt 4 rfl) (pt 36 rfl) (pt 37 rfl) (pt 5 rfl) (pt 34 rfl) (pt 35 rfl) (pt 22 rfl) (pt 16 rfl) (pt 6 rfl) (pt 23 rfl) (pt 17 rfl) (pt 18 rfl) (pt 7 rfl) (pt 30 rfl) (pt 31 rfl) (pt 8 rfl) (pt 32 rfl) (pt 9 rfl) (pt 27 rfl) (pt 24 rfl) (pt 19 rfl) (pt 25 rfl) (pt 20 rfl) (pt 21 rfl) (pt 10 rfl) (pt 11 rfl) (pt 33 rfl) (pt 12 rfl) (pt 13 rfl) (pt 14 rfl) (pt 15 rfl) _ h
theorem foot_mgmtContainer {a0 : Nat} {a1 : Nat} (h : exec (.mgmtContainer a0 a1) s = .next t) : Moves (· ∈ Footprint.wMgmtContainer) s t :=
  execMgmtContainer_moves (pt 0 rfl) (pt 1 rfl) _ _ h
theorem foot_treeInfo {a0 : Nat} {a1 : Nat} {a2 : Nat} {a3 : Nat} {a4 : Nat} {a5 : Nat} {a6 : Nat} {a7 : Nat} {a8 : Nat} {a9 : List Nat} {a10 : Nat} (h : exec (.treeInfo a0 a1 a2 a3 a4 a5 a6 a7 a8 a9 a10) s = .next t) : Moves (· ∈ Footprint.wTreeInfo) s t :=
  execTreeInfo_moves (pt 0 rfl) (pt 1 rfl) (pt 16 rfl) (pt 2 rfl) (pt 3 rfl) (pt 4 rfl) (pt 17 rfl) (pt 18 rfl) (pt 5 rfl) (pt 19 rfl) (pt 20 rfl) (pt 6 rfl) (pt 7 rfl) (pt 8 rfl) (pt 9 rfl) (pt 10 rfl) (pt 11 rfl) (pt 12 rfl) (pt 13 rfl) (pt 14 rfl) (pt 15 rfl) _ _ _ _ _ _ _ _ _ _ _ h
theorem foot_regReq {a0 : Nat} (h : exec (.regReq a0) s = .next t) : Moves (· ∈ Footprint.wRegReq) s t :=
  execRegReq_moves (pt 0 rfl) (pt 1 rfl) (pt 2 rfl) (pt 3 rfl) (pt 4 rfl) (pt 5 rfl) (pt 6 rfl) (pt 7 rfl) (pt 8 rfl) _ h
theorem foot_regAssign {a0 : Nat} {a1 : Nat} {a2 : Nat} {a3 : Nat} {a4 : Nat} {a5 : Nat} {a6 : Nat} {a7 : Nat} {a8 : Nat} {a9 : Nat} {a10 : Nat} {a11 : Nat} {a12 : Nat} {a13 : Nat} {a14 : Nat} (h : exec (.regAssign a0 a1 a2 a3 a4 a5 a6 a7 a8 a9 a10 a11 a12 a13 a14) s = .next t) : Moves (· ∈ Footprint.wRegAssign) s t :=
  execRegAssign_moves (pt 0 rfl) (pt 1 rfl) (pt 2 rfl) (pt 3 rfl) (pt 4 rfl) (pt 5 rfl) (pt 6 rfl) (pt 7 rfl) (pt 8 rfl) (pt 81 rfl) (pt 82 rfl) (pt 9 rfl) (pt 10 rfl) (pt 11 rfl) (pt 12 rfl) (pt 13 rfl) (pt 14 rfl) (pt 15 rfl) (pt 87 rfl) (pt 88 rfl) (pt 16 rfl) (pt 17 rfl) (pt 18 rfl) (pt 19 rfl) (pt 20 rfl) (pt 21 rfl) (pt 22 rfl) (pt 23 rfl) (pt 24 rfl) (pt 25 rfl) (pt 26 rfl) (pt 89 rfl) (pt 94 rfl) (pt 79 rfl) (pt 27 rfl) (pt 28 rfl) (pt 29 rfl) (pt 92 rfl) (pt 93 rfl) (pt 30 rfl) (pt 90 rfl) (pt 91 rfl) (pt 71 rfl) (pt 65 rfl) (pt 31 rfl) (pt 72 rfl) (pt 66 rfl) (pt 67 rfl) (pt 75 rfl) (pt 32 rfl) (pt 76 rfl) (pt 33 rfl) (pt 34 rfl) (pt 35 rfl) (pt 83 rfl) (pt 36 rfl) (pt 37 rfl) (pt 84 rfl) (pt 38 rfl) (pt 39 rfl) (pt 85 rfl) (pt 40 rfl) (pt 41 rfl) (pt 42 rfl) (pt 43 rfl) (pt 44 rfl) (pt 45 rfl) (pt 95 rfl) (pt 96 rfl) (pt 46 rfl) (pt 97 rfl) (pt 98 rfl) (pt 47 rfl) (pt 48 rfl) (pt 49 rfl) (pt 50 rfl) (pt 51 rfl) (pt 80 rfl) (pt 73 rfl) (pt 68 rfl) (pt 74 rfl) (pt 69 rfl) (pt 70 rfl) (pt 52 rfl) (pt 77 rfl) (pt 78 rfl) (pt 99 rfl) (pt 100 rfl) (pt 53 rfl) (pt 54 rfl) (pt 55 rfl) (pt 56 rfl) (pt 57 rfl) (pt 58 rfl) (pt 86 rfl) (pt 59 rfl) (pt 60 rfl) (pt 61 rfl) (pt 62 rfl) (pt 63 rfl) (pt 64 rfl) _ _ _ _ _ _ _ _ _ _ _ _ _ _ _ h
theorem foot_regReject {a0 : Nat} {a1 : Nat} (h : exec (.regReject a0 a1) s = .next t) : Moves (· ∈ Footprint.wRegReject) s t :=
  execRegReject_moves (pt 0 rfl) (pt 1 rfl) (pt 28 rfl) (pt 29 rfl) (pt 2 rfl) (pt 3 rfl) (pt 26 rfl) (pt 4 rfl) (pt 36 rfl) (pt 37 rfl) (pt 5 rfl) (pt 34 rfl) (pt 35 rfl) (pt 22 rfl) (pt 16 rfl) (pt 6 rfl) (pt 23 rfl) (pt 17 rfl) (pt 18 rfl) (pt 7 rfl) (pt 30 rfl) (pt 31 rfl) (pt 8 rfl) (pt 32 rfl) (pt 9 rfl) (pt 27 rfl) (pt 24 rfl) (pt 19 rfl) (pt 25 rfl) (pt 20 rfl) (pt 21 rfl) (pt 10 rfl) (pt 11 rfl) (pt 33 rfl) (pt 12 rfl) (pt 13 rfl) (pt 14 rfl) (pt 15 rfl) _ _ h
theorem foot_regConfirm {a0 : Nat} {a1 : Nat} {a2 : Nat} (h : exec (.regConfirm a0 a1 a2) s = .next t) : Moves (· ∈ Footprint.wRegConfirm) s t :=
  execRegConfirm_moves (pt 0 rfl) (pt 1 rfl) (pt 2 rfl) (pt 3 rfl) (pt 4 rfl) (pt 5 rfl) (pt 6 rfl) (pt 7 rfl) (pt 8 rfl) _ _ _ h
theorem foot_dereg {a0 : Nat} {a1 : Nat} {a2 : Nat} (h : exec (.dereg a0 a1 a2) s = .next t) : Moves (· ∈ Footprint.wDereg) s t :=
  execDereg_moves (pt 0 rfl) (pt 1 rfl) (pt 2 rfl) (pt 37 rfl) (pt 38 rfl) (pt 3 rfl) (pt 4 rfl) (pt 35 rfl) (pt 5 rfl) (pt 45 rfl) (pt 46 rfl) (pt 6 rfl) (pt 43 rfl) (pt 44 rfl) (pt 31 rfl) (pt 25 rfl) (pt 7 rfl) (pt 32 rfl) (pt 26 rfl) (pt 27 rfl) (pt 8 rfl) (pt 39 rfl) (pt 9 rfl) (pt 40 rfl) (pt 10 rfl) (pt 41 rfl) (pt 11 rfl) (pt 12 rfl) (pt 36 rfl) (pt 33 rfl) (pt 28 rfl) (pt 34 rfl) (pt 29 rfl) (pt 30 rfl) (pt 13 rfl) (pt 14 rfl) (pt 15 rfl) (pt 16 rfl) (pt 17 rfl) (pt 42 rfl) (pt 18 rfl) (pt 19 rfl) (pt 20 rfl) (pt 21 rfl) (pt 22 rfl) (pt 23 rfl) (pt 24 rfl) _ _ _ h
theorem foot_rangeAdj {a0 : Nat} {a1 : Nat} {a2 : Nat} {a3 : Int} (h : exec (.rangeAdj a0 a1 a2 a3) s = .next t) : Moves (· ∈ Footprint.wRangeAdj) s t :=
  execRangeAdj_moves (pt 0 rfl) (pt 1 rfl) (pt 2 rfl) (pt 3 rfl) (pt 4 rfl) _ _ _ _ h
theorem foot_freqAdj {a0 : Nat} {a1 : Nat} {a2 : Nat} {a3 : Int} (h : exec (.freqAdj a0 a1 a2 a3) s = .next t) : Moves (· ∈ Footprint.wFreqAdj) s t :=
  execFreqAdj_moves (pt 0 rfl) (pt 1 rfl) (pt 2 rfl) (pt 3 rfl) (pt 4 rfl) (pt 5 rfl) (pt 6 rfl) _ _ _ _ h
theorem foot_grantTable {a0 : Nat} {a1 : Nat} {a2 : Nat} {a3 : Nat} {a4 : List (List Nat)} (h : exec (.grantTable a0 a1 a2 a3 a4) s = .next t) : Moves (· ∈ Footprint.wGrantTable) s t :=
  execGrantTable_moves (pt 0 rfl) (pt 1 rfl) (pt 2 rfl) (pt 3 rfl) (pt 4 rfl) (pt 5 rfl) (pt 6 rfl) (pt 7 rfl) _ _ _ _ _ h
theorem foot_grantAck {a0 : Nat} {a1 : Nat} {a2 : Nat} {a3 : Nat} {a4 : Nat} (h : exec (.grantAck a0 a1 a2 a3 a4) s = .next t) : Moves (· ∈ Footprint.wGrantAck) s t :=
  execGrantAck_moves (pt 0 rfl) (pt 1 rfl) (pt 2 rfl) (pt 3 rfl) (pt 4 rfl) (pt 5 rfl) (pt 6 rfl) (pt 7 rfl) (pt 8 rfl) _ _ _ _ _ h
theorem foot_loadTable {a0 : Nat} {a1 : Nat} {a2 : Nat} {a3 : Nat} {a4 : Nat} {a5 : Nat} {a6 : List Nat} (h : exec (.loadTable a0 a1 a2 a3 a4 a5 a6) s = .next t) : Moves (· ∈ Footprint.wLoadTable) s t :=
  execLoadTable_moves (pt 0 rfl) (pt 1 rfl) (pt 10 rfl) (pt 11 rfl) (pt 12 rfl) (pt 2 rfl) (pt 13 rfl) (pt 14 rfl) (pt 15 rfl) (pt 3 rfl) (pt 4 rfl) (pt 5 rfl) (pt 6 rfl) (pt 7 rfl) (pt 8 rfl) (pt 9 rfl) _ _ _ _ _ _ _ h
theorem foot_loadAck {a0 : Nat} {a1 : Nat} {a2 : Nat} {a3 : Nat} {a4 : Nat} (h : exec (.loadAck a0 a1 a2 a3 a4) s = .next t) : Moves (· ∈ Footprint.wLoadAck) s t :=
  execLoadAck_moves (pt 0 rfl) (pt 1 rfl) (pt 2 rfl) (pt 3 rfl) _ _ _ _ _ h
theorem foot_loadNak {a0 : Nat} {a1 : Nat} {a2 : Nat} {a3 : Nat} {a4 : Nat} (h : exec (.loadNak a0 a1 a2 a3 a4) s = .next t) : Moves (· ∈ Footprint.wLoadNak) s t :=
  execLoadNak_moves (pt 0 rfl) (pt 1 rfl) (pt 2 rfl) (pt 3 rfl) (pt 4 rfl) (pt 5 rfl) (pt 6 rfl) (pt 7 rfl) (pt 8 rfl) _ _ _ _ _ h
theorem foot_loadCancel {a0 : Nat} {a1 : Nat} {a2 : Nat} {a3 : Nat} {a4 : Nat} (h : exec (.loadCancel a0 a1 a2 a3 a4) s = .next t) : Moves (· ∈ Footprint.wLoadCancel) s t :=
  execLoadCancel_moves (pt 0 rfl) (pt 1 rfl) (pt 2 rfl) (pt 3 rfl) (pt 4 rfl) (pt 5 rfl) _ _ _ _ _ h
theorem foot_loadMismatch {a0 : Nat} {a1 : Nat} {a2 : Nat} {a3 : Nat} (h : exec (.loadMismatch a0 a1 a2 a3) s = .next t) : Moves (· ∈ Footprint.wLoadMismatch) s t :=
  execLoadMismatch_moves (pt 0 rfl) (pt 1 rfl) (pt 18 rfl) (pt 19 rfl) (pt 20 rfl) (pt 2 rfl) (pt 21 rfl) (pt 22 rfl) (pt 23 rfl) (pt 3 rfl) (pt 4 rfl) (pt 5 rfl) (pt 6 rfl) (pt 7 rfl) (pt 8 rfl) (pt 9 rfl) (pt 10 rfl) (pt 11 rfl) (pt 12 rfl) (pt 13 rfl) (pt 14 rfl) (pt 15 rfl) (pt 16 rfl) (pt 17 rfl) _ _ _ _ h
theorem foot_snrReport {a0 : Nat} {a1 : Nat} {a2 : Nat} {a3 : Nat} {a4 : List Nat} (h : exec (.snrReport a0 a1 a2 a3 a4) s = .next t) : Moves (· ∈ Footprint.wSnrReport) s t :=
  execSnrReport_moves (pt 0 rfl) (pt 1 rfl) (pt 2 rfl) (pt 3 rfl) (pt 4 rfl) (pt 5 rfl) (pt 6 rfl) (pt 7 rfl) _ _ _ _ _ h
theorem foot_regResp {a0 : Nat} {a1 : Nat} {a2 : Nat} {a3 : List Nat} (h : exec (.regResp a0 a1 a2 a3) s = .next t) : Moves (· ∈ Footprint.wRegResp) s t :=
  execRegResp_moves (pt 0 rfl) (pt 1 rfl) (pt 2 rfl) (pt 3 rfl) (pt 4 rfl) (pt 5 rfl) (pt 6 rfl) _ _ _ _ h
theorem foot_fwOpen {a0 : Nat} {a1 : Nat} {a2 : Nat} {a3 : Nat} {a4 : Nat} {a5 : Nat} (h : exec (.fwOpen a0 a1 a2 a3 a4 a5) s = .next t) : Moves (· ∈ Footprint.wFwOpen) s t :=
  execFwOpen_moves (pt 0 rfl) (pt 1 rfl) (pt 2 rfl) (pt 3 rfl) (pt 4 rfl) (pt 5 rfl) (pt 6 rfl) (pt 7 rfl) (pt 8 rfl) (pt 9 rfl) _ _ _ _ _ _ h
theorem foot_fwData {a0 : Nat} {a1 : Nat} {a2 : Nat} {a3 : Nat} {a4 : List Nat} (h : exec (.fwData a0 a1 a2 a3 a4) s = .next t) : Moves (· ∈ Footprint.wFwData) s t :=
  execFwData_moves (pt 0 rfl) (pt 1 rfl) (pt 2 rfl) (pt 3 rfl) (pt 4 rfl) (pt 5 rfl) _ _ _ _ _ h
theorem foot_fwClose {a0 : Nat} {a1 : Nat} {a2 : Nat} (h : exec (.fwClose a0 a1 a2) s = .next t) : Moves (· ∈ Footprint.wFwClose) s t :=
  execFwClose_moves (pt 0 rfl) (pt 1 rfl) (pt 2 rfl) (pt 3 rfl) (pt 4 rfl) _ _ _ h
theorem foot_fwStatus {a0 : Nat} {a1 : Nat} {a2 : Nat} {a3 : List Nat} (h : exec (.fwStatus a0 a1 a2 a3) s = .next t) : Moves (· ∈ Footprint.wFwStatus) s t :=
  execFwStatus_moves (pt 0 rfl) (pt 1 rfl) (pt 2 rfl) (pt 3 rfl) (pt 4 rfl) (pt 5 rfl) (pt 6 rfl) _ _ _ _ h
theorem foot_restReq {a0 : Nat} {a1 : Nat} {a2 : Nat} (h : exec (.restReq a0 a1 a2) s = .next t) : Moves (· ∈ Footprint.wRestReq) s t :=
  execRestReq_moves (pt 0 rfl) (pt 1 rfl) (pt 2 rfl) (pt 3 rfl) (pt 4 rfl) (pt 5 rfl) (pt 6 rfl) _ _ _ h
theorem foot_restGrant {a0 : Nat} {a1 : Nat} {a2 : Nat} {a3 : Nat} {a4 : Nat} {a5 : Nat} (h : exec (.restGrant a0 a1 a2 a3 a4 a5) s = .next t) : Moves (· ∈ Footprint.wRestGrant) s t :=
  execRestGrant_moves (pt 0 rfl) (pt 1 rfl) (pt 2 rfl) (pt 3 rfl) (pt 4 rfl) (pt 5 rfl) (pt 6 rfl) (pt 7 rfl) _ _ _ _ _ _ h
theorem foot_wakeAck {a0 : Nat} {a1 : Nat} {a2 : Nat} (h : exec (.wakeAck a0 a1 a2) s = .next t) : Moves (· ∈ Footprint.wWakeAck) s t :=
  execWakeAck_moves (pt 0 rfl) (pt 1 rfl) (pt 2 rfl) (pt 3 rfl) (pt 4 rfl) (pt 5 rfl) (pt 6 rfl) (pt 7 rfl) (pt 8 rfl) _ _ _ h
theorem foot_ack {a0 : Nat} {a1 : Nat} {a2 : Nat} (h : exec (.ack a0 a1 a2) s = .next t) : Moves (· ∈ Footprint.wAck) s t :=
  execAck_moves (pt 0 rfl) (pt 1 rfl) (pt 2 rfl) (pt 31 rfl) (pt 32 rfl) (pt 3 rfl) (pt 4 rfl) (pt 29 rfl) (pt 5 rfl) (pt 39 rfl) (pt 40 rfl) (pt 6 rfl) (pt 37 rfl) (pt 38 rfl) (pt 25 rfl) (pt 19 rfl) (pt 7 rfl) (pt 26 rfl) (pt 20 rfl) (pt 21 rfl) (pt 8 rfl) (pt 9 rfl) (pt 33 rfl) (pt 34 rfl) (pt 10 rfl) (pt 35 rfl) (pt 11 rfl) (pt 30 rfl) (pt 27 rfl) (pt 22 rfl) (pt 28 rfl) (pt 23 rfl) (pt 24 rfl) (pt 12 rfl) (pt 13 rfl) (pt 14 rfl) (pt 36 rfl) (pt 15 rfl) (pt 16 rfl) (pt 17 rfl) (pt 18 rfl) _ _ _ h
theorem foot_user {a0 : Nat} {a1 : Nat} {a2 : Nat} {a3 : Nat} {a4 : List Nat} (h : exec (.user a0 a1 a2 a3 a4) s = .next t) : Moves (· ∈ Footprint.wUser) s t :=
  execUser_moves (pt 0 rfl) (pt 1 rfl) (pt 2 rfl) (pt 3 rfl) (pt 4 rfl) (pt 5 rfl) (pt 6 rfl) _ _ _ _ _ h
theorem foot_unknownType {a0 : Nat} {a1 : Nat} {a2 : Nat} (h : exec (.unknownType a0 a1 a2) s = .next t) : Moves (· ∈ Footprint.wUnknownType) s t :=
  execUnknownType_moves (pt 0 rfl) (pt 1 rfl) (pt 2 rfl) (pt 3 rfl) (pt 4 rfl) _ _ _ h
theorem foot_retxTimeout {a0 : Nat} {a1 : Nat} (h : exec (.retxTimeout a0 a1) s = .next t) : Moves (· ∈ Footprint.wRetxTimeout) s t :=
  execRetxTimeout_moves (pt 0 rfl) (pt 1 rfl) (pt 2 rfl) (pt 3 rfl) (pt 4 rfl) _ _ h
theorem foot_txpost {a0 : Nat} {a1 : Nat} {a2 : Nat} (h : exec (.txpost a0 a1 a2) s = .next t) : Moves (· ∈ Footprint.wTxpost) s t :=
  execTxpost_moves (pt 22 rfl) (pt 0 rfl) (pt 1 rfl) (pt 2 rfl) (pt 23 rfl) (pt 18 rfl) (pt 12 rfl) (pt 3 rfl) (pt 19 rfl) (pt 13 rfl) (pt 14 rfl) (pt 4 rfl) (pt 5 rfl) (pt 20 rfl) (pt 15 rfl) (pt 21 rfl) (pt 16 rfl) (pt 17 rfl) (pt 6 rfl) (pt 7 rfl) (pt 8 rfl) (pt 9 rfl) (pt 10 rfl) (pt 11 rfl) _ _ _ h
theorem foot_rxpop (h : exec (.rxpop) s = .next t) : Moves (· ∈ Footprint.wRxpop) s t :=
  execRxpop_moves (pt 15 rfl) (pt 0 rfl) (pt 1 rfl) (pt 2 rfl) (pt 16 rfl) (pt 11 rfl) (pt 5 rfl) (pt 3 rfl) (pt 12 rfl) (pt 6 rfl) (pt 7 rfl) (pt 4 rfl) (pt 13 rfl) (pt 8 rfl) (pt 14 rfl) (pt 9 rfl) (pt 10 rfl) h
theorem foot_upstreamSilent (h : exec (.upstreamSilent) s = .next t) : Moves (· ∈ Footprint.wUpstreamSilent) s t :=
  execUpstreamSilent_moves (pt 0 rfl) (pt 4 rfl) (pt 1 rfl) (pt 2 rfl) (pt 3 rfl) (pt 5 rfl) h
theorem foot_upstreamResume (h : exec (.upstreamResume) s = .next t) : Moves (· ∈ Footprint.wUpstreamResume) s t :=
  execUpstreamResume_moves (pt 0 rfl) (pt 1 rfl) (pt 2 rfl) (pt 35 rfl) (pt 36 rfl) (pt 3 rfl) (pt 4 rfl) (pt 33 rfl) (pt 5 rfl) (pt 43 rfl) (pt 44 rfl) (pt 6 rfl) (pt 41 rfl) (pt 42 rfl) (pt 29 rfl) (pt 23 rfl) (pt 7 rfl) (pt 30 rfl) (pt 24 rfl) (pt 25 rfl) (pt 8 rfl) (pt 37 rfl) (pt 9 rfl) (pt 38 rfl) (pt 10 rfl) (pt 39 rfl) (pt 11 rfl) (pt 34 rfl) (pt 31 rfl) (pt 26 rfl) (pt 32 rfl) (pt 27 rfl) (pt 28 rfl) (pt 12 rfl) (pt 13 rfl) (pt 14 rfl) (pt 15 rfl) (pt 16 rfl) (pt 40 rfl) (pt 17 rfl) (pt 18 rfl) (pt 19 rfl) (pt 20 rfl) (pt 21 rfl) (pt 22 rfl) h
theorem foot_rangeTrigger {a0 : Nat} {a1 : Int} {a2 : Nat} (h : exec (.rangeTrigger a0 a1 a2) s = .next t) : Moves (· ∈ Footprint.wRangeTrigger) s t :=
  execRangeTrigger_moves (pt 0 rfl) (pt 1 rfl) (pt 2 rfl) (pt 3 rfl) (pt 4 rfl) (pt 5 rfl) _ _ _ h
theorem foot_freqTrigger {a0 : Nat} {a1 : Int} (h : exec (.freqTrigger a0 a1) s = .next t) : Moves (· ∈ Footprint.wFreqTrigger) s t :=
  execFreqTrigger_moves (pt 0 rfl) (pt 1 rfl) (pt 2 rfl) _ _ h
theorem foot_regAttempt {a0 : Nat} {a1 : Nat} {a2 : Nat} {a3 : Nat} (h : exec (.regAttempt a0 a1 a2 a3) s = .next t) : Moves (· ∈ Footprint.wRegAttempt) s t :=
  execRegAttempt_moves (pt 0 rfl) (pt 1 rfl) (pt 2 rfl) (pt 3 rfl) (pt 4 rfl) (pt 5 rfl) _ _ _ _ h
theorem foot_regTmo {a0 : Nat} (h : exec (.regTmo a0) s = .next t) : Moves (· ∈ Footprint.wRegTmo) s t :=
  execRegTmo_moves (pt 0 rfl) (pt 1 rfl) (pt 2 rfl) (pt 3 rfl) (pt 4 rfl) _ h
theorem foot_regGo (h : exec (.regGo) s = .next t) : Moves (· ∈ Footprint.wRegGo) s t :=
  execRegGo_moves (pt 16 rfl) (pt 0 rfl) (pt 1 rfl) (pt 17 rfl) (pt 12 rfl) (pt 6 rfl) (pt 2 rfl) (pt 13 rfl) (pt 7 rfl) (pt 8 rfl) (pt 14 rfl) (pt 9 rfl) (pt 15 rfl) (pt 10 rfl) (pt 11 rfl) (pt 3 rfl) (pt 4 rfl) (pt 5 rfl) h
theorem foot_regOpen {a0 : Nat} (h : exec (.regOpen a0) s = .next t) : Moves (· ∈ Footprint.wRegOpen) s t :=
  execRegOpen_moves (pt 14 rfl) (pt 0 rfl) (pt 1 rfl) (pt 15 rfl) (pt 10 rfl) (pt 4 rfl) (pt 2 rfl) (pt 11 rfl) (pt 5 rfl) (pt 6 rfl) (pt 3 rfl) (pt 12 rfl) (pt 7 rfl) (pt 13 rfl) (pt 8 rfl) (pt 9 rfl) _ h
theorem foot_upstreamStart {a0 : Nat} (h : exec (.upstreamStart a0) s = .next t) : Moves (· ∈ Footprint.wUpstreamStart) s t :=
  execUpstreamStart_moves (pt 0 rfl) (pt 1 rfl) (pt 2 rfl) (pt 3 rfl) _ h
theorem foot_grantCommit (h : exec (.grantCommit) s = .next t) : Moves (· ∈ Footprint.wGrantCommit) s t :=
  execGrantCommit_moves (pt 25 rfl) (pt 0 rfl) (pt 1 rfl) (pt 2 rfl) (pt 26 rfl) (pt 21 rfl) (pt 15 rfl) (pt 3 rfl) (pt 22 rfl) (pt 16 rfl) (pt 17 rfl) (pt 4 rfl) (pt 5 rfl) (pt 6 rfl) (pt 7 rfl) (pt 8 rfl) (pt 23 rfl) (pt 18 rfl) (pt 24 rfl) (pt 19 rfl) (pt 20 rfl) (pt 9 rfl) (pt 10 rfl) (pt 11 rfl) (pt 12 rfl) (pt 13 rfl) (pt 14 rfl) h
theorem foot_grantAbort (h : exec (.grantAbort) s = .next t) : Moves (· ∈ Footprint.wGrantAbort) s t :=
  execGrantAbort_moves (pt 18 rfl) (pt 0 rfl) (pt 1 rfl) (pt 19 rfl) (pt 14 rfl) (pt 8 rfl) (pt 2 rfl) (pt 15 rfl) (pt 9 rfl) (pt 10 rfl) (pt 3 rfl) (pt 4 rfl) (pt 5 rfl) (pt 16 rfl) (pt 11 rfl) (pt 17 rfl) (pt 12 rfl) (pt 13 rfl) (pt 6 rfl) (pt 7 rfl) h
theorem foot_grantAnnounce (h : exec (.grantAnnounce) s = .next t) : Moves (· ∈ Footprint.wGrantAnnounce) s t :=
  execGrantAnnounce_moves (pt 0 rfl) (pt 1 rfl) (pt 2 rfl) h
theorem foot_grantSwap (h : exec (.grantSwap) s = .next t) : Moves (· ∈ Footprint.wGrantSwap) s t :=
  execGrantSwap_moves (pt 0 rfl) (pt 1 rfl) (pt 2 rfl) (pt 3 rfl) (pt 4 rfl) (pt 5 rfl) (pt 6 rfl) (pt 7 rfl) (pt 8 rfl) (pt 9 rfl) (pt 10 rfl) (pt 11 rfl) (pt 12 rfl) (pt 13 rfl) (pt 14 rfl) (pt 15 rfl) (pt 16 rfl) (pt 17 rfl) h
theorem foot_grantAckTmo (h : exec (.grantAckTmo) s = .next t) : Moves (· ∈ Footprint.wGrantAckTmo) s t :=
  execGrantAckTmo_moves (pt 0 rfl) (pt 1 rfl) (pt 2 rfl) (pt 3 rfl) (pt 4 rfl) (pt 5 rfl) (pt 6 rfl) h
theorem foot_leafRestStart {a0 : Nat} (h : exec (.leafRestStart a0) s = .next t) : Moves (· ∈ Footprint.wLeafRestStart) s t :=
  execLeafRestStart_moves (pt 0 rfl) (pt 1 rfl) (pt 35 rfl) (pt 36 rfl) (pt 2 rfl) (pt 3 rfl) (pt 33 rfl) (pt 4 rfl) (pt 43 rfl) (pt 44 rfl) (pt 5 rfl) (pt 41 rfl) (pt 42 rfl) (pt 29 rfl) (pt 23 rfl) (pt 6 rfl) (pt 30 rfl) (pt 24 rfl) (pt 25 rfl) (pt 7 rfl) (pt 8 rfl) (pt 9 rfl) (pt 10 rfl) (pt 11 rfl) (pt 37 rfl) (pt 38 rfl) (pt 12 rfl) (pt 39 rfl) (pt 13 rfl) (pt 14 rfl) (pt 34 rfl) (pt 31 rfl) (pt 26 rfl) (pt 32 rfl) (pt 27 rfl) (pt 28 rfl) (pt 15 rfl) (pt 16 rfl) (pt 17 rfl) (pt 40 rfl) (pt 18 rfl) (pt 19 rfl) (pt 20 rfl) (pt 21 rfl) (pt 22 rfl) _ h
theorem foot_restRetry (h : exec (.restRetry) s = .next t) : Moves (· ∈ Footprint.wRestRetry) s t :=
  execRestRetry_moves (pt 0 rfl) (pt 1 rfl) (pt 2 rfl) (pt 3 rfl) (pt 4 rfl) (pt 5 rfl) (pt 6 rfl) (pt 7 rfl) (pt 8 rfl) h
theorem foot_listenWake {a0 : Nat} (h : exec (.listenWake a0) s = .next t) : Moves (· ∈ Footprint.wListenWake) s t :=
  execListenWake_moves (pt 0 rfl) (pt 8 rfl) (pt 1 rfl) (pt 9 rfl) (pt 10 rfl) (pt 11 rfl) (pt 12 rfl) (pt 13 rfl) (pt 2 rfl) (pt 3 rfl) (pt 4 rfl) (pt 5 rfl) (pt 6 rfl) (pt 7 rfl) _ h
theorem foot_listenEnd {a0 : Nat} (h : exec (.listenEnd a0) s = .next t) : Moves (· ∈ Footprint.wListenEnd) s t :=
  execListenEnd_moves (pt 0 rfl) (pt 1 rfl) (pt 2 rfl) (pt 3 rfl) (pt 4 rfl) (pt 5 rfl) (pt 6 rfl) (pt 7 rfl) (pt 8 rfl) (pt 9 rfl) (pt 10 rfl) _ h
theorem foot_leafLostTmo {a0 : Nat} (h : exec (.leafLostTmo a0) s = .next t) : Moves (· ∈ Footprint.wLeafLostTmo) s t :=
  execLeafLostTmo_moves (pt 0 rfl) (pt 1 rfl) (pt 28 rfl) (pt 29 rfl) (pt 2 rfl) (pt 3 rfl) (pt 26 rfl) (pt 4 rfl) (pt 36 rfl) (pt 37 rfl) (pt 5 rfl) (pt 34 rfl) (pt 35 rfl) (pt 22 rfl) (pt 16 rfl) (pt 6 rfl) (pt 23 rfl) (pt 17 rfl) (pt 18 rfl) (pt 7 rfl) (pt 30 rfl) (pt 31 rfl) (pt 8 rfl) (pt 32 rfl) (pt 9 rfl) (pt 27 rfl) (pt 24 rfl) (pt 19 rfl) (pt 25 rfl) (pt 20 rfl) (pt 21 rfl) (pt 10 rfl) (pt 11 rfl) (pt 33 rfl) (pt 12 rfl) (pt 13 rfl) (pt 14 rfl) (pt 15 rfl) _ h
theorem foot_hubRestStart {a0 : Nat} (h : exec (.hubRestStart a0) s = .next t) : Moves (· ∈ Footprint.wHubRestStart) s t :=
  execHubRestStart_moves (pt 0 rfl) (pt 1 rfl) (pt 2 rfl) (pt 3 rfl) (pt 4 rfl) (pt 5 rfl) (pt 6 rfl) _ h
theorem foot_wake {a0 : Nat} (h : exec (.wake a0) s = .next t) : Moves (· ∈ Footprint.wWake) s t :=
  execWake_moves (pt 14 rfl) (pt 0 rfl) (pt 1 rfl) (pt 15 rfl) (pt 10 rfl) (pt 4 rfl) (pt 2 rfl) (pt 11 rfl) (pt 5 rfl) (pt 6 rfl) (pt 12 rfl) (pt 7 rfl) (pt 13 rfl) (pt 8 rfl) (pt 9 rfl) (pt 3 rfl) _ h
theorem foot_wakeTmo {a0 : Nat} {a1 : Nat} (h : exec (.wakeTmo a0 a1) s = .next t) : Moves (· ∈ Footprint.wWakeTmo) s t :=
  execWakeTmo_moves (pt 0 rfl) (pt 1 rfl) (pt 2 rfl) (pt 3 rfl) (pt 4 rfl) (pt 5 rfl) (pt 6 rfl) (pt 7 rfl) (pt 8 rfl) (pt 9 rfl) _ _ h
theorem foot_leafLost {a0 : Nat} {a1 : Nat} (h : exec (.leafLost a0 a1) s = .next t) : Moves (· ∈ Footprint.wLeafLost) s t :=
  execLeafLost_moves (pt 0 rfl) (pt 1 rfl) (pt 2 rfl) (pt 3 rfl) (pt 4 rfl) (pt 5 rfl) (pt 6 rfl) (pt 7 rfl) (pt 8 rfl) _ _ h
theorem foot_brxEnable (h : exec (.brxEnable) s = .next t) : Moves (· ∈ Footprint.wBrxEnable) s t :=
  execBrxEnable_moves (pt 18 rfl) (pt 0 rfl) (pt 1 rfl) (pt 2 rfl) (pt 3 rfl) (pt 4 rfl) (pt 5 rfl) (pt 19 rfl) (pt 14 rfl) (pt 8 rfl) (pt 6 rfl) (pt 15 rfl) (pt 9 rfl) (pt 10 rfl) (pt 7 rfl) (pt 16 rfl) (pt 11 rfl) (pt 17 rfl) (pt 12 rfl) (pt 13 rfl) h
theorem foot_brxDisable (h : exec (.brxDisable) s = .next t) : Moves (· ∈ Footprint.wBrxDisable) s t :=
  execBrxDisable_moves (pt 0 rfl) (pt 17 rfl) (pt 1 rfl) (pt 2 rfl) (pt 3 rfl) (pt 19 rfl) (pt 20 rfl) (pt 4 rfl) (pt 21 rfl) (pt 5 rfl) (pt 18 rfl) (pt 13 rfl) (pt 7 rfl) (pt 6 rfl) (pt 14 rfl) (pt 8 rfl) (pt 9 rfl) (pt 15 rfl) (pt 10 rfl) (pt 16 rfl) (pt 11 rfl) (pt 12 rfl) h
theorem foot_peakDetect {a0 : Nat} {a1 : Nat} {a2 : Int} {a3 : Nat} {a4 : Nat} {a5 : Nat} {a6 : Nat} {a7 : Nat} {a8 : Nat} {a9 : Nat} {a10 : Nat} {a11 : Nat} {a12 : List Nat} {a13 : Int} (h : exec (.peakDetect a0 a1 a2 a3 a4 a5 a6 a7 a8 a9 a10 a11 a12 a13) s = .next t) : Moves (· ∈ Footprint.wPeakDetect) s t :=
  execPeakDetect_moves (pt 0 rfl) (pt 1 rfl) (pt 2 rfl) (pt 9 rfl) (pt 10 rfl) (pt 3 rfl) (pt 4 rfl) (pt 5 rfl) (pt 6 rfl) (pt 11 rfl) (pt 7 rfl) (pt 8 rfl) _ _ _ _ _ _ _ _ _ _ _ _ _ _ h
theorem foot_headerDecision {a0 : Nat} {a1 : Nat} {a2 : Nat} (h : exec (.headerDecision a0 a1 a2) s = .next t) : Moves (· ∈ Footprint.wHeaderDecision) s t :=
  execHeaderDecision_moves (pt 0 rfl) (pt 1 rfl) (pt 2 rfl) (pt 4 rfl) (pt 5 rfl) (pt 6 rfl) (pt 3 rfl) _ _ _ h
theorem foot_burstClose {a0 : Nat} {a1 : Nat} {a2 : Nat} {a3 : Nat} {a4 : Nat} {a5 : List Nat} (h : exec (.burstClose a0 a1 a2 a3 a4 a5) s = .next t) : Moves (· ∈ Footprint.wBurstClose) s t :=
  execBurstClose_moves (pt 0 rfl) (pt 1 rfl) (pt 2 rfl) (pt 3 rfl) (pt 4 rfl) (pt 13 rfl) (pt 7 rfl) (pt 5 rfl) (pt 14 rfl) (pt 8 rfl) (pt 9 rfl) (pt 6 rfl) (pt 15 rfl) (pt 10 rfl) (pt 16 rfl) (pt 11 rfl) (pt 12 rfl) _ _ _ _ _ _ h
theorem foot_burstRecord (h : exec (.burstRecord) s = .next t) : Moves (· ∈ Footprint.wBurstRecord) s t :=
  execBurstRecord_moves (pt 0 rfl) (pt 1 rfl) (pt 5 rfl) (pt 6 rfl) (pt 2 rfl) (pt 3 rfl) (pt 4 rfl) (pt 7 rfl) h
theorem foot_gapClose {a0 : Nat} {a1 : Nat} {a2 : Nat} {a3 : Nat} {a4 : List Int} (h : exec (.gapClose a0 a1 a2 a3 a4) s = .next t) : Moves (· ∈ Footprint.wGapClose) s t :=
  execGapClose_moves (pt 0 rfl) (pt 1 rfl) (pt 2 rfl) (pt 5 rfl) (pt 6 rfl) (pt 3 rfl) (pt 7 rfl) (pt 4 rfl) _ _ _ _ _ h
theorem foot_fade {a0 : Nat} {a1 : List Int} {a2 : Int} (h : exec (.fade a0 a1 a2) s = .next t) : Moves (· ∈ Footprint.wFade) s t :=
  execFade_moves (pt 0 rfl) (pt 1 rfl) (pt 2 rfl) _ _ _ h
theorem foot_orphan {a0 : Nat} {a1 : Nat} {a2 : List Int} (h : exec (.orphan a0 a1 a2) s = .next t) : Moves (· ∈ Footprint.wOrphan) s t :=
  execOrphan_moves (pt 0 rfl) (pt 1 rfl) (pt 2 rfl) _ _ _ h
theorem foot_scAbsentSet {a0 : Nat} {a1 : List (Int × Nat)} (h : exec (.scAbsentSet a0 a1) s = .next t) : Moves (· ∈ Footprint.wScAbsentSet) s t :=
  execScAbsentSet_moves (pt 0 rfl) (pt 1 rfl) (pt 2 rfl) (pt 3 rfl) (pt 4 rfl) (pt 5 rfl) (pt 7 rfl) (pt 6 rfl) (pt 8 rfl) (pt 9 rfl) (pt 10 rfl) _ _ h
theorem foot_scAbsentClear {a0 : Nat} {a1 : List (Int × Nat)} (h : exec (.scAbsentClear a0 a1) s = .next t) : Moves (· ∈ Footprint.wScAbsentClear) s t :=
  execScAbsentClear_moves (pt 0 rfl) (pt 1 rfl) _ _ h
theorem foot_recPop (h : exec (.recPop) s = .next t) : Moves (· ∈ Footprint.wRecPop) s t :=
  execRecPop_moves (pt 0 rfl) (pt 14 rfl) (pt 1 rfl) (pt 2 rfl) (pt 16 rfl) (pt 17 rfl) (pt 18 rfl) (pt 15 rfl) (pt 10 rfl) (pt 4 rfl) (pt 3 rfl) (pt 11 rfl) (pt 5 rfl) (pt 6 rfl) (pt 12 rfl) (pt 7 rfl) (pt 13 rfl) (pt 8 rfl) (pt 9 rfl) h
theorem foot_colPop (h : exec (.colPop) s = .next t) : Moves (· ∈ Footprint.wColPop) s t :=
  execColPop_moves (pt 0 rfl) (pt 14 rfl) (pt 1 rfl) (pt 2 rfl) (pt 16 rfl) (pt 17 rfl) (pt 18 rfl) (pt 15 rfl) (pt 10 rfl) (pt 4 rfl) (pt 3 rfl) (pt 11 rfl) (pt 5 rfl) (pt 6 rfl) (pt 12 rfl) (pt 7 rfl) (pt 13 rfl) (pt 8 rfl) (pt 9 rfl) h
theorem foot_txEn {a0 : Nat} (h : exec (.txEn a0) s = .next t) : Moves (· ∈ Footprint.wTxEn) s t :=
  execTxEn_moves (pt 15 rfl) (pt 0 rfl) (pt 1 rfl) (pt 2 rfl) (pt 16 rfl) (pt 11 rfl) (pt 5 rfl) (pt 3 rfl) (pt 12 rfl) (pt 6 rfl) (pt 7 rfl) (pt 4 rfl) (pt 13 rfl) (pt 8 rfl) (pt 14 rfl) (pt 9 rfl) (pt 10 rfl) _ h
theorem foot_txFrame {a0 : Nat} {a1 : Nat} {a2 : List (List Bool)} (h : exec (.txFrame a0 a1 a2) s = .next t) : Moves (· ∈ Footprint.wTxFrame) s t :=
  execTxFrame_moves (pt 0 rfl) (pt 1 rfl) (pt 2 rfl) (pt 79 rfl) (pt 80 rfl) (pt 3 rfl) (pt 4 rfl) (pt 89 rfl) (pt 90 rfl) (pt 91 rfl) (pt 5 rfl) (pt 77 rfl) (pt 92 rfl) (pt 93 rfl) (pt 6 rfl) (pt 94 rfl) (pt 7 rfl) (pt 8 rfl) (pt 87 rfl) (pt 88 rfl) (pt 9 rfl) (pt 85 rfl) (pt 86 rfl) (pt 69 rfl) (pt 63 rfl) (pt 10 rfl) (pt 70 rfl) (pt 64 rfl) (pt 65 rfl) (pt 95 rfl) (pt 96 rfl) (pt 97 rfl) (pt 98 rfl) (pt 11 rfl) (pt 12 rfl) (pt 13 rfl) (pt 14 rfl) (pt 15 rfl) (pt 16 rfl) (pt 81 rfl) (pt 17 rfl) (pt 82 rfl) (pt 18 rfl) (pt 83 rfl) (pt 19 rfl) (pt 20 rfl) (pt 21 rfl) (pt 22 rfl) (pt 23 rfl) (pt 24 rfl) (pt 25 rfl) (pt 26 rfl) (pt 73 rfl) (pt 27 rfl) (pt 74 rfl) (pt 75 rfl) (pt 76 rfl) (pt 28 rfl) (pt 29 rfl) (pt 30 rfl) (pt 31 rfl) (pt 32 rfl) (pt 33 rfl) (pt 34 rfl) (pt 35 rfl) (pt 78 rfl) (pt 71 rfl) (pt 66 rfl) (pt 72 rfl) (pt 67 rfl) (pt 68 rfl) (pt 36 rfl) (pt 37 rfl) (pt 38 rfl) (pt 39 rfl) (pt 40 rfl) (pt 41 rfl) (pt 42 rfl) (pt 43 rfl) (pt 44 rfl) (pt 45 rfl) (pt 46 rfl) (pt 47 rfl) (pt 48 rfl) (pt 49 rfl) (pt 50 rfl) (pt 51 rfl) (pt 52 rfl) (pt 53 rfl) (pt 54 rfl) (pt 84 rfl) (pt 55 rfl) (pt 56 rfl) (pt 57 rfl) (pt 58 rfl) (pt 59 rfl) (pt 60 rfl) (pt 61 rfl) (pt 62 rfl) _ _ _ h
theorem foot_rxEn {a0 : Nat} (h : exec (.rxEn a0) s = .next t) : Moves (· ∈ Footprint.wRxEn) s t :=
  execRxEn_moves (pt 0 rfl) (pt 30 rfl) (pt 1 rfl) (pt 2 rfl) (pt 3 rfl) (pt 4 rfl) (pt 5 rfl) (pt 36 rfl) (pt 6 rfl) (pt 7 rfl) (pt 8 rfl) (pt 9 rfl) (pt 31 rfl) (pt 26 rfl) (pt 20 rfl) (pt 10 rfl) (pt 27 rfl) (pt 21 rfl) (pt 22 rfl) (pt 11 rfl) (pt 12 rfl) (pt 13 rfl) (pt 14 rfl) (pt 15 rfl) (pt 16 rfl) (pt 17 rfl) (pt 18 rfl) (pt 32 rfl) (pt 19 rfl) (pt 33 rfl) (pt 34 rfl) (pt 35 rfl) (pt 37 rfl) (pt 38 rfl) (pt 39 rfl) (pt 28 rfl) (pt 23 rfl) (pt 29 rfl) (pt 24 rfl) (pt 25 rfl) _ h
theorem foot_research (h : exec (.research) s = .next t) : Moves (· ∈ Footprint.wResearch) s t :=
  execResearch_moves (pt 0 rfl) (pt 29 rfl) (pt 1 rfl) (pt 2 rfl) (pt 3 rfl) (pt 4 rfl) (pt 5 rfl) (pt 35 rfl) (pt 6 rfl) (pt 7 rfl) (pt 8 rfl) (pt 30 rfl) (pt 25 rfl) (pt 19 rfl) (pt 9 rfl) (pt 26 rfl) (pt 20 rfl) (pt 21 rfl) (pt 10 rfl) (pt 11 rfl) (pt 12 rfl) (pt 13 rfl) (pt 14 rfl) (pt 15 rfl) (pt 16 rfl) (pt 17 rfl) (pt 31 rfl) (pt 18 rfl) (pt 32 rfl) (pt 33 rfl) (pt 34 rfl) (pt 36 rfl) (pt 37 rfl) (pt 38 rfl) (pt 27 rfl) (pt 22 rfl) (pt 28 rfl) (pt 23 rfl) (pt 24 rfl) h
theorem foot_fawHit {a0 : Nat} {a1 : Nat} {a2 : Nat} (h : exec (.fawHit a0 a1 a2) s = .next t) : Moves (· ∈ Footprint.wFawHit) s t :=
  execFawHit_moves (pt 0 rfl) (pt 1 rfl) (pt 2 rfl) (pt 3 rfl) (pt 4 rfl) _ _ _ h
theorem foot_candidateJudge {a0 : Nat} {a1 : Nat} {a2 : Nat} {a3 : Nat} (h : exec (.candidateJudge a0 a1 a2 a3) s = .next t) : Moves (· ∈ Footprint.wCandidateJudge) s t :=
  execCandidateJudge_moves (pt 0 rfl) (pt 1 rfl) (pt 2 rfl) (pt 3 rfl) (pt 4 rfl) (pt 5 rfl) (pt 6 rfl) (pt 7 rfl) (pt 8 rfl) (pt 9 rfl) (pt 10 rfl) (pt 11 rfl) (pt 12 rfl) (pt 13 rfl) (pt 14 rfl) (pt 15 rfl) (pt 16 rfl) (pt 18 rfl) (pt 17 rfl) (pt 19 rfl) (pt 20 rfl) (pt 21 rfl) _ _ _ _ h
theorem foot_fawCheck {a0 : Nat} {a1 : Nat} {a2 : Nat} (h : exec (.fawCheck a0 a1 a2) s = .next t) : Moves (· ∈ Footprint.wFawCheck) s t :=
  execFawCheck_moves (pt 0 rfl) (pt 1 rfl) (pt 2 rfl) (pt 3 rfl) (pt 4 rfl) (pt 5 rfl) (pt 6 rfl) _ _ _ h
theorem foot_oof (h : exec (.oof) s = .next t) : Moves (· ∈ Footprint.wOof) s t :=
  execOof_moves (pt 0 rfl) (pt 1 rfl) (pt 2 rfl) (pt 3 rfl) (pt 4 rfl) (pt 21 rfl) (pt 5 rfl) (pt 6 rfl) (pt 7 rfl) (pt 8 rfl) (pt 9 rfl) (pt 10 rfl) (pt 11 rfl) (pt 12 rfl) (pt 13 rfl) (pt 14 rfl) (pt 15 rfl) (pt 17 rfl) (pt 16 rfl) (pt 18 rfl) (pt 19 rfl) (pt 20 rfl) (pt 22 rfl) (pt 23 rfl) (pt 24 rfl) h
theorem foot_overheadWord {a0 : Nat} {a1 : Nat} {a2 : Nat} {a3 : List Bool} {a4 : Nat} {a5 : Nat} (h : exec (.overheadWord a0 a1 a2 a3 a4 a5) s = .next t) : Moves (· ∈ Footprint.wOverheadWord) s t :=
  execOverheadWord_moves (pt 0 rfl) (pt 1 rfl) (pt 43 rfl) (pt 2 rfl) (pt 3 rfl) (pt 4 rfl) (pt 5 rfl) (pt 6 rfl) (pt 7 rfl) (pt 8 rfl) (pt 9 rfl) (pt 10 rfl) (pt 11 rfl) (pt 12 rfl) (pt 13 rfl) (pt 14 rfl) (pt 15 rfl) (pt 16 rfl) (pt 17 rfl) (pt 18 rfl) (pt 19 rfl) (pt 20 rfl) (pt 21 rfl) (pt 22 rfl) (pt 23 rfl) (pt 24 rfl) (pt 39 rfl) (pt 25 rfl) (pt 40 rfl) (pt 41 rfl) (pt 42 rfl) (pt 26 rfl) (pt 44 rfl) (pt 27 rfl) (pt 45 rfl) (pt 28 rfl) (pt 46 rfl) (pt 29 rfl) (pt 30 rfl) (pt 31 rfl) (pt 32 rfl) (pt 33 rfl) (pt 34 rfl) (pt 35 rfl) (pt 36 rfl) (pt 37 rfl) (pt 38 rfl) _ _ _ _ _ _ h
theorem foot_oom {a0 : Nat} {a1 : Nat} (h : exec (.oom a0 a1) s = .next t) : Moves (· ∈ Footprint.wOom) s t :=
  execOom_moves (pt 0 rfl) (pt 1 rfl) (pt 2 rfl) (pt 3 rfl) (pt 4 rfl) (pt 5 rfl) (pt 6 rfl) (pt 7 rfl) (pt 11 rfl) (pt 8 rfl) (pt 12 rfl) (pt 13 rfl) (pt 14 rfl) (pt 9 rfl) (pt 10 rfl) _ _ h
theorem foot_mfRestore {a0 : Nat} {a1 : Nat} (h : exec (.mfRestore a0 a1) s = .next t) : Moves (· ∈ Footprint.wMfRestore) s t :=
  execMfRestore_moves (pt 0 rfl) (pt 1 rfl) (pt 2 rfl) (pt 3 rfl) (pt 4 rfl) (pt 5 rfl) (pt 6 rfl) _ _ h
theorem foot_upstreamFawCheck {a0 : Nat} {a1 : Nat} {a2 : Nat} (h : exec (.upstreamFawCheck a0 a1 a2) s = .next t) : Moves (· ∈ Footprint.wUpstreamFawCheck) s t :=
  execUpstreamFawCheck_moves (pt 0 rfl) (pt 1 rfl) (pt 2 rfl) (pt 3 rfl) (pt 4 rfl) _ _ _ h
theorem foot_upstreamOof {a0 : Nat} {a1 : Nat} (h : exec (.upstreamOof a0 a1) s = .next t) : Moves (· ∈ Footprint.wUpstreamOof) s t :=
  execUpstreamOof_moves (pt 0 rfl) (pt 1 rfl) (pt 2 rfl) (pt 3 rfl) (pt 4 rfl) (pt 5 rfl) (pt 6 rfl) (pt 9 rfl) (pt 7 rfl) (pt 10 rfl) (pt 11 rfl) (pt 12 rfl) (pt 8 rfl) _ _ h
theorem foot_upstreamInFrame {a0 : Nat} {a1 : Nat} (h : exec (.upstreamInFrame a0 a1) s = .next t) : Moves (· ∈ Footprint.wUpstreamInFrame) s t :=
  execUpstreamInFrame_moves (pt 0 rfl) (pt 1 rfl) (pt 2 rfl) (pt 3 rfl) (pt 4 rfl) (pt 5 rfl) _ _ h
theorem foot_tenMsTick {a0 : Nat} {a1 : List (Nat × OtuFrames)} {a2 : List (Nat × Nat × Nat)} {a3 : Nat} (h : exec (.tenMsTick a0 a1 a2 a3) s = .next t) : Moves (· ∈ Footprint.wTenMsTick) s t :=
  execTenMsTick_moves (pt 0 rfl) (pt 1 rfl) (pt 2 rfl) (pt 3 rfl) (pt 4 rfl) (pt 5 rfl) (pt 6 rfl) (pt 7 rfl) (pt 8 rfl) (pt 9 rfl) (pt 10 rfl) (pt 11 rfl) (pt 12 rfl) (pt 13 rfl) (pt 14 rfl) (pt 15 rfl) (pt 16 rfl) (pt 17 rfl) (pt 18 rfl) (pt 19 rfl) (pt 20 rfl) (pt 21 rfl) (pt 37 rfl) (pt 22 rfl) (pt 38 rfl) (pt 39 rfl) (pt 40 rfl) (pt 23 rfl) (pt 24 rfl) (pt 25 rfl) (pt 26 rfl) (pt 27 rfl) (pt 33 rfl) (pt 28 rfl) (pt 34 rfl) (pt 35 rfl) (pt 36 rfl) (pt 41 rfl) (pt 29 rfl) (pt 42 rfl) (pt 43 rfl) (pt 44 rfl) (pt 30 rfl) (pt 31 rfl) (pt 32 rfl) _ _ _ _ h
theorem foot_defectDeclare {a0 : Nat} {a1 : Nat} {a2 : Nat} (h : exec (.defectDeclare a0 a1 a2) s = .next t) : Moves (· ∈ Footprint.wDefectDeclare) s t :=
  execDefectDeclare_moves (pt 0 rfl) (pt 1 rfl) (pt 2 rfl) (pt 3 rfl) (pt 4 rfl) (pt 5 rfl) (pt 6 rfl) (pt 7 rfl) (pt 8 rfl) (pt 9 rfl) (pt 10 rfl) (pt 12 rfl) (pt 11 rfl) (pt 13 rfl) (pt 14 rfl) (pt 15 rfl) _ _ _ h
theorem foot_defectClear {a0 : Nat} {a1 : Nat} {a2 : Nat} (h : exec (.defectClear a0 a1 a2) s = .next t) : Moves (· ∈ Footprint.wDefectClear) s t :=
  execDefectClear_moves (pt 0 rfl) (pt 1 rfl) (pt 2 rfl) (pt 3 rfl) (pt 4 rfl) (pt 5 rfl) (pt 6 rfl) _ _ _ h
theorem foot_defCfgWrite {a0 : Nat} {a1 : Nat} (h : exec (.defCfgWrite a0 a1) s = .next t) : Moves (· ∈ Footprint.wDefCfgWrite) s t :=
  execDefCfgWrite_moves (pt 17 rfl) (pt 0 rfl) (pt 1 rfl) (pt 2 rfl) (pt 3 rfl) (pt 18 rfl) (pt 13 rfl) (pt 7 rfl) (pt 4 rfl) (pt 14 rfl) (pt 8 rfl) (pt 9 rfl) (pt 19 rfl) (pt 5 rfl) (pt 20 rfl) (pt 21 rfl) (pt 22 rfl) (pt 23 rfl) (pt 6 rfl) (pt 24 rfl) (pt 25 rfl) (pt 26 rfl) (pt 15 rfl) (pt 10 rfl) (pt 16 rfl) (pt 11 rfl) (pt 12 rfl) _ _ h
theorem foot_secondTick {a0 : Sys2Proof.Second} (h : exec (.secondTick a0) s = .next t) : Moves (· ∈ Footprint.wSecondTick) s t :=
  execSecondTick_moves (pt 0 rfl) (pt 1 rfl) (pt 2 rfl) (pt 3 rfl) (pt 4 rfl) (pt 5 rfl) (pt 6 rfl) (pt 7 rfl) (pt 8 rfl) (pt 9 rfl) (pt 10 rfl) (pt 11 rfl) (pt 12 rfl) (pt 13 rfl) (pt 14 rfl) (pt 15 rfl) (pt 16 rfl) (pt 17 rfl) (pt 18 rfl) (pt 19 rfl) (pt 20 rfl) (pt 21 rfl) (pt 22 rfl) (pt 23 rfl) (pt 24 rfl) (pt 25 rfl) (pt 26 rfl) (pt 27 rfl) (pt 28 rfl) (pt 29 rfl) (pt 30 rfl) (pt 31 rfl) (pt 32 rfl) (pt 33 rfl) (pt 34 rfl) (pt 84 rfl) (pt 85 rfl) (pt 35 rfl) (pt 86 rfl) (pt 36 rfl) (pt 37 rfl) (pt 59 rfl) (pt 38 rfl) (pt 70 rfl) (pt 71 rfl) (pt 72 rfl) (pt 73 rfl) (pt 39 rfl) (pt 40 rfl) (pt 41 rfl) (pt 42 rfl) (pt 60 rfl) (pt 61 rfl) (pt 74 rfl) (pt 75 rfl) (pt 87 rfl) (pt 62 rfl) (pt 63 rfl) (pt 43 rfl) (pt 44 rfl) (pt 45 rfl) (pt 46 rfl) (pt 78 rfl) (pt 79 rfl) (pt 80 rfl) (pt 81 rfl) (pt 82 rfl) (pt 83 rfl) (pt 47 rfl) (pt 48 rfl) (pt 49 rfl) (pt 50 rfl) (pt 51 rfl) (pt 52 rfl) (pt 53 rfl) (pt 66 rfl) (pt 54 rfl) (pt 67 rfl) (pt 68 rfl) (pt 69 rfl) (pt 55 rfl) (pt 56 rfl) (pt 64 rfl) (pt 57 rfl) (pt 65 rfl) (pt 76 rfl) (pt 77 rfl) (pt 58 rfl) _ h
theorem foot_degOnset {a0 : Nat} (h : exec (.degOnset a0) s = .next t) : Moves (· ∈ Footprint.wDegOnset) s t :=
  execDegOnset_moves (pt 0 rfl) (pt 1 rfl) (pt 2 rfl) (pt 3 rfl) (pt 4 rfl) (pt 5 rfl) (pt 7 rfl) (pt 6 rfl) (pt 8 rfl) (pt 9 rfl) (pt 10 rfl) _ h
theorem foot_ttiAccept (h : exec (.ttiAccept) s = .next t) : Moves (· ∈ Footprint.wTtiAccept) s t :=
  execTtiAccept_moves (pt 0 rfl) (pt 1 rfl) (pt 2 rfl) (pt 3 rfl) (pt 4 rfl) (pt 5 rfl) (pt 8 rfl) (pt 6 rfl) (pt 9 rfl) (pt 10 rfl) (pt 11 rfl) (pt 7 rfl) h
theorem foot_ssmAccept (h : exec (.ssmAccept) s = .next t) : Moves (· ∈ Footprint.wSsmAccept) s t :=
  execSsmAccept_moves (pt 0 rfl) (pt 1 rfl) (pt 2 rfl) h
theorem foot_cfReceive {a0 : Nat} {a1 : Nat} {a2 : Nat} {a3 : List Nat} {a4 : List Nat} {a5 : Nat} (h : exec (.cfReceive a0 a1 a2 a3 a4 a5) s = .next t) : Moves (· ∈ Footprint.wCfReceive) s t :=
  execCfReceive_moves (pt 0 rfl) (pt 1 rfl) (pt 2 rfl) (pt 3 rfl) (pt 4 rfl) (pt 5 rfl) (pt 6 rfl) (pt 7 rfl) (pt 28 rfl) (pt 22 rfl) (pt 23 rfl) (pt 29 rfl) (pt 8 rfl) (pt 24 rfl) (pt 25 rfl) (pt 30 rfl) (pt 26 rfl) (pt 27 rfl) (pt 9 rfl) (pt 10 rfl) (pt 11 rfl) (pt 12 rfl) (pt 13 rfl) (pt 14 rfl) (pt 18 rfl) (pt 15 rfl) (pt 19 rfl) (pt 20 rfl) (pt 21 rfl) (pt 16 rfl) (pt 17 rfl) _ _ _ _ _ _ h
theorem foot_slipWrite {a0 : Nat} (h : exec (.slipWrite a0) s = .next t) : Moves (· ∈ Footprint.wSlipWrite) s t :=
  execSlipWrite_moves (pt 0 rfl) (pt 1 rfl) (pt 2 rfl) (pt 3 rfl) (pt 4 rfl) (pt 21 rfl) (pt 15 rfl) (pt 5 rfl) (pt 22 rfl) (pt 16 rfl) (pt 17 rfl) (pt 6 rfl) (pt 7 rfl) (pt 8 rfl) (pt 9 rfl) (pt 10 rfl) (pt 11 rfl) (pt 23 rfl) (pt 18 rfl) (pt 24 rfl) (pt 19 rfl) (pt 20 rfl) (pt 12 rfl) (pt 13 rfl) (pt 14 rfl) _ h
theorem foot_slipRead {a0 : Nat} {a1 : List Nat} (h : exec (.slipRead a0 a1) s = .next t) : Moves (· ∈ Footprint.wSlipRead) s t :=
  execSlipRead_moves (pt 0 rfl) (pt 1 rfl) (pt 2 rfl) (pt 3 rfl) (pt 4 rfl) (pt 5 rfl) (pt 6 rfl) (pt 7 rfl) (pt 8 rfl) (pt 9 rfl) (pt 10 rfl) (pt 11 rfl) (pt 12 rfl) (pt 13 rfl) _ _ h
theorem foot_cliEnable {a0 : Nat} (h : exec (.cliEnable a0) s = .next t) : Moves (· ∈ Footprint.wCliEnable) s t :=
  execCliEnable_moves (pt 28 rfl) (pt 0 rfl) (pt 1 rfl) (pt 2 rfl) (pt 3 rfl) (pt 34 rfl) (pt 4 rfl) (pt 5 rfl) (pt 35 rfl) (pt 36 rfl) (pt 6 rfl) (pt 7 rfl) (pt 29 rfl) (pt 24 rfl) (pt 18 rfl) (pt 8 rfl) (pt 25 rfl) (pt 19 rfl) (pt 20 rfl) (pt 9 rfl) (pt 10 rfl) (pt 11 rfl) (pt 12 rfl) (pt 13 rfl) (pt 30 rfl) (pt 14 rfl) (pt 31 rfl) (pt 32 rfl) (pt 33 rfl) (pt 15 rfl) (pt 16 rfl) (pt 17 rfl) (pt 26 rfl) (pt 21 rfl) (pt 27 rfl) (pt 22 rfl) (pt 23 rfl) _ h
theorem foot_cliDisable {a0 : Nat} (h : exec (.cliDisable a0) s = .next t) : Moves (· ∈ Footprint.wCliDisable) s t :=
  execCliDisable_moves (pt 26 rfl) (pt 0 rfl) (pt 1 rfl) (pt 2 rfl) (pt 32 rfl) (pt 33 rfl) (pt 34 rfl) (pt 3 rfl) (pt 4 rfl) (pt 5 rfl) (pt 6 rfl) (pt 7 rfl) (pt 8 rfl) (pt 27 rfl) (pt 22 rfl) (pt 16 rfl) (pt 9 rfl) (pt 23 rfl) (pt 17 rfl) (pt 18 rfl) (pt 10 rfl) (pt 11 rfl) (pt 12 rfl) (pt 13 rfl) (pt 28 rfl) (pt 14 rfl) (pt 29 rfl) (pt 30 rfl) (pt 31 rfl) (pt 15 rfl) (pt 24 rfl) (pt 19 rfl) (pt 25 rfl) (pt 20 rfl) (pt 21 rfl) _ h
theorem foot_signalDetect {a0 : Nat} (h : exec (.signalDetect a0) s = .next t) : Moves (· ∈ Footprint.wSignalDetect) s t :=
  execSignalDetect_moves (pt 0 rfl) (pt 1 rfl) (pt 17 rfl) (pt 2 rfl) (pt 18 rfl) (pt 19 rfl) (pt 3 rfl) (pt 4 rfl) (pt 5 rfl) (pt 6 rfl) (pt 7 rfl) (pt 8 rfl) (pt 9 rfl) (pt 13 rfl) (pt 10 rfl) (pt 14 rfl) (pt 15 rfl) (pt 16 rfl) (pt 11 rfl) (pt 12 rfl) _ h
theorem foot_signalLoss {a0 : Nat} (h : exec (.signalLoss a0) s = .next t) : Moves (· ∈ Footprint.wSignalLoss) s t :=
  execSignalLoss_moves (pt 0 rfl) (pt 16 rfl) (pt 17 rfl) (pt 18 rfl) (pt 1 rfl) (pt 2 rfl) (pt 3 rfl) (pt 4 rfl) (pt 5 rfl) (pt 6 rfl) (pt 7 rfl) (pt 8 rfl) (pt 9 rfl) (pt 10 rfl) (pt 12 rfl) (pt 11 rfl) (pt 13 rfl) (pt 14 rfl) (pt 15 rfl) _ h
theorem foot_cdrLock {a0 : Nat} (h : exec (.cdrLock a0) s = .next t) : Moves (· ∈ Footprint.wCdrLock) s t :=
  execCdrLock_moves (pt 0 rfl) (pt 1 rfl) (pt 17 rfl) (pt 2 rfl) (pt 18 rfl) (pt 19 rfl) (pt 3 rfl) (pt 4 rfl) (pt 5 rfl) (pt 6 rfl) (pt 7 rfl) (pt 8 rfl) (pt 9 rfl) (pt 13 rfl) (pt 10 rfl) (pt 14 rfl) (pt 15 rfl) (pt 16 rfl) (pt 11 rfl) (pt 12 rfl) _ h
theorem foot_cdrLoss {a0 : Nat} (h : exec (.cdrLoss a0) s = .next t) : Moves (· ∈ Footprint.wCdrLoss) s t :=
  execCdrLoss_moves (pt 0 rfl) (pt 15 rfl) (pt 16 rfl) (pt 17 rfl) (pt 1 rfl) (pt 2 rfl) (pt 3 rfl) (pt 4 rfl) (pt 5 rfl) (pt 6 rfl) (pt 7 rfl) (pt 8 rfl) (pt 9 rfl) (pt 11 rfl) (pt 10 rfl) (pt 12 rfl) (pt 13 rfl) (pt 14 rfl) _ h
theorem foot_laneLock {a0 : Nat} {a1 : Nat} {a2 : Nat} (h : exec (.laneLock a0 a1 a2) s = .next t) : Moves (· ∈ Footprint.wLaneLock) s t :=
  execLaneLock_moves (pt 0 rfl) (pt 1 rfl) (pt 19 rfl) (pt 2 rfl) (pt 20 rfl) (pt 21 rfl) (pt 3 rfl) (pt 4 rfl) (pt 5 rfl) (pt 6 rfl) (pt 7 rfl) (pt 8 rfl) (pt 9 rfl) (pt 10 rfl) (pt 11 rfl) (pt 15 rfl) (pt 12 rfl) (pt 16 rfl) (pt 17 rfl) (pt 18 rfl) (pt 13 rfl) (pt 14 rfl) _ _ _ h
theorem foot_markerLockLoss {a0 : Nat} (h : exec (.markerLockLoss a0) s = .next t) : Moves (· ∈ Footprint.wMarkerLockLoss) s t :=
  execMarkerLockLoss_moves (pt 0 rfl) (pt 14 rfl) (pt 15 rfl) (pt 16 rfl) (pt 1 rfl) (pt 2 rfl) (pt 3 rfl) (pt 4 rfl) (pt 5 rfl) (pt 6 rfl) (pt 7 rfl) (pt 8 rfl) (pt 10 rfl) (pt 9 rfl) (pt 11 rfl) (pt 12 rfl) (pt 13 rfl) _ h
theorem foot_egressOrderChange {a0 : Nat} (h : exec (.egressOrderChange a0) s = .next t) : Moves (· ∈ Footprint.wEgressOrderChange) s t :=
  execEgressOrderChange_moves (pt 0 rfl) (pt 1 rfl) (pt 2 rfl) _ h
theorem foot_deskewMeasure {a0 : Nat} {a1 : Nat} {a2 : Nat} (h : exec (.deskewMeasure a0 a1 a2) s = .next t) : Moves (· ∈ Footprint.wDeskewMeasure) s t :=
  execDeskewMeasure_moves (pt 0 rfl) (pt 1 rfl) (pt 2 rfl) (pt 3 rfl) (pt 4 rfl) (pt 5 rfl) (pt 17 rfl) (pt 18 rfl) (pt 19 rfl) (pt 6 rfl) (pt 7 rfl) (pt 8 rfl) (pt 9 rfl) (pt 10 rfl) (pt 11 rfl) (pt 13 rfl) (pt 12 rfl) (pt 14 rfl) (pt 15 rfl) (pt 16 rfl) _ _ _ h
theorem foot_linkTmo {a0 : Nat} {a1 : Nat} (h : exec (.linkTmo a0 a1) s = .next t) : Moves (· ∈ Footprint.wLinkTmo) s t :=
  execLinkTmo_moves (pt 0 rfl) (pt 1 rfl) (pt 15 rfl) (pt 16 rfl) (pt 17 rfl) (pt 2 rfl) (pt 3 rfl) (pt 4 rfl) (pt 5 rfl) (pt 6 rfl) (pt 7 rfl) (pt 8 rfl) (pt 9 rfl) (pt 11 rfl) (pt 10 rfl) (pt 12 rfl) (pt 13 rfl) (pt 14 rfl) _ _ h
theorem foot_flowRead {a0 : Nat} (h : exec (.flowRead a0) s = .next t) : Moves (· ∈ Footprint.wFlowRead) s t :=
  execFlowRead_moves (pt 17 rfl) (pt 0 rfl) (pt 1 rfl) (pt 19 rfl) (pt 20 rfl) (pt 2 rfl) (pt 3 rfl) (pt 4 rfl) (pt 21 rfl) (pt 22 rfl) (pt 18 rfl) (pt 13 rfl) (pt 7 rfl) (pt 5 rfl) (pt 14 rfl) (pt 8 rfl) (pt 9 rfl) (pt 6 rfl) (pt 23 rfl) (pt 24 rfl) (pt 15 rfl) (pt 10 rfl) (pt 16 rfl) (pt 11 rfl) (pt 12 rfl) _ h
theorem foot_flowWrite {a0 : Nat} (h : exec (.flowWrite a0) s = .next t) : Moves (· ∈ Footprint.wFlowWrite) s t :=
  execFlowWrite_moves (pt 17 rfl) (pt 0 rfl) (pt 1 rfl) (pt 19 rfl) (pt 20 rfl) (pt 2 rfl) (pt 3 rfl) (pt 4 rfl) (pt 21 rfl) (pt 22 rfl) (pt 18 rfl) (pt 13 rfl) (pt 7 rfl) (pt 5 rfl) (pt 14 rfl) (pt 8 rfl) (pt 9 rfl) (pt 6 rfl) (pt 23 rfl) (pt 24 rfl) (pt 15 rfl) (pt 10 rfl) (pt 16 rfl) (pt 11 rfl) (pt 12 rfl) _ h
theorem foot_flowRemove {a0 : Nat} (h : exec (.flowRemove a0) s = .next t) : Moves (· ∈ Footprint.wFlowRemove) s t :=
  execFlowRemove_moves (pt 17 rfl) (pt 0 rfl) (pt 1 rfl) (pt 19 rfl) (pt 20 rfl) (pt 2 rfl) (pt 3 rfl) (pt 4 rfl) (pt 21 rfl) (pt 22 rfl) (pt 18 rfl) (pt 13 rfl) (pt 7 rfl) (pt 5 rfl) (pt 14 rfl) (pt 8 rfl) (pt 9 rfl) (pt 6 rfl) (pt 23 rfl) (pt 24 rfl) (pt 15 rfl) (pt 10 rfl) (pt 16 rfl) (pt 11 rfl) (pt 12 rfl) _ h
theorem foot_flowCmdApply {a0 : Nat} (h : exec (.flowCmdApply a0) s = .next t) : Moves (· ∈ Footprint.wFlowCmdApply) s t :=
  execFlowCmdApply_moves (pt 0 rfl) (pt 1 rfl) (pt 2 rfl) (pt 3 rfl) (pt 4 rfl) (pt 5 rfl) (pt 6 rfl) (pt 7 rfl) (pt 8 rfl) (pt 9 rfl) (pt 10 rfl) (pt 11 rfl) (pt 12 rfl) (pt 13 rfl) (pt 14 rfl) (pt 15 rfl) (pt 16 rfl) (pt 17 rfl) (pt 18 rfl) (pt 42 rfl) (pt 19 rfl) (pt 43 rfl) (pt 44 rfl) (pt 20 rfl) (pt 21 rfl) (pt 22 rfl) (pt 23 rfl) (pt 24 rfl) (pt 25 rfl) (pt 26 rfl) (pt 27 rfl) (pt 28 rfl) (pt 29 rfl) (pt 30 rfl) (pt 31 rfl) (pt 32 rfl) (pt 33 rfl) (pt 34 rfl) (pt 35 rfl) (pt 36 rfl) (pt 37 rfl) (pt 38 rfl) (pt 39 rfl) (pt 40 rfl) (pt 41 rfl) _ h
theorem foot_cfSchedule {a0 : Nat} {a1 : Nat} (h : exec (.cfSchedule a0 a1) s = .next t) : Moves (· ∈ Footprint.wCfSchedule) s t :=
  execCfSchedule_moves (pt 0 rfl) (pt 1 rfl) (pt 2 rfl) (pt 3 rfl) (pt 4 rfl) (pt 5 rfl) (pt 6 rfl) (pt 7 rfl) (pt 8 rfl) (pt 9 rfl) (pt 10 rfl) (pt 11 rfl) (pt 12 rfl) (pt 39 rfl) (pt 33 rfl) (pt 13 rfl) (pt 40 rfl) (pt 34 rfl) (pt 35 rfl) (pt 14 rfl) (pt 15 rfl) (pt 16 rfl) (pt 17 rfl) (pt 18 rfl) (pt 19 rfl) (pt 20 rfl) (pt 21 rfl) (pt 22 rfl) (pt 23 rfl) (pt 24 rfl) (pt 25 rfl) (pt 26 rfl) (pt 27 rfl) (pt 28 rfl) (pt 41 rfl) (pt 36 rfl) (pt 42 rfl) (pt 37 rfl) (pt 38 rfl) (pt 29 rfl) (pt 30 rfl) (pt 31 rfl) (pt 32 rfl) _ _ h
theorem foot_tokenCap {a0 : Nat} {a1 : Nat} (h : exec (.tokenCap a0 a1) s = .next t) : Moves (· ∈ Footprint.wTokenCap) s t :=
  execTokenCap_moves (pt 0 rfl) (pt 1 rfl) (pt 2 rfl) (pt 3 rfl) (pt 4 rfl) (pt 5 rfl) (pt 6 rfl) _ _ h
theorem foot_clientIngress {a0 : Nat} {a1 : Nat} {a2 : Nat} {a3 : Nat} {a4 : List Nat} (h : exec (.clientIngress a0 a1 a2 a3 a4) s = .next t) : Moves (· ∈ Footprint.wClientIngress) s t :=
  execClientIngress_moves (pt 0 rfl) (pt 1 rfl) (pt 2 rfl) (pt 3 rfl) (pt 4 rfl) (pt 5 rfl) (pt 6 rfl) (pt 7 rfl) (pt 8 rfl) (pt 9 rfl) _ _ _ _ _ h
theorem foot_qdmEnable (h : exec (.qdmEnable) s = .next t) : Moves (· ∈ Footprint.wQdmEnable) s t :=
  execQdmEnable_moves (pt 21 rfl) (pt 0 rfl) (pt 1 rfl) (pt 22 rfl) (pt 17 rfl) (pt 11 rfl) (pt 2 rfl) (pt 18 rfl) (pt 12 rfl) (pt 13 rfl) (pt 3 rfl) (pt 4 rfl) (pt 5 rfl) (pt 6 rfl) (pt 7 rfl) (pt 8 rfl) (pt 19 rfl) (pt 14 rfl) (pt 20 rfl) (pt 15 rfl) (pt 16 rfl) (pt 9 rfl) (pt 10 rfl) h
theorem foot_qdrTrainDone {a0 : Nat} {a1 : Nat} (h : exec (.qdrTrainDone a0 a1) s = .next t) : Moves (· ∈ Footprint.wQdrTrainDone) s t :=
  execQdrTrainDone_moves (pt 0 rfl) (pt 1 rfl) (pt 2 rfl) (pt 3 rfl) (pt 4 rfl) (pt 5 rfl) (pt 6 rfl) (pt 7 rfl) (pt 8 rfl) (pt 9 rfl) (pt 10 rfl) (pt 11 rfl) (pt 12 rfl) _ _ h
theorem foot_qdrRetrain (h : exec (.qdrRetrain) s = .next t) : Moves (· ∈ Footprint.wQdrRetrain) s t :=
  execQdrRetrain_moves (pt 18 rfl) (pt 0 rfl) (pt 1 rfl) (pt 19 rfl) (pt 14 rfl) (pt 8 rfl) (pt 2 rfl) (pt 15 rfl) (pt 9 rfl) (pt 10 rfl) (pt 3 rfl) (pt 4 rfl) (pt 5 rfl) (pt 16 rfl) (pt 11 rfl) (pt 17 rfl) (pt 12 rfl) (pt 13 rfl) (pt 6 rfl) (pt 7 rfl) h
theorem foot_qdrRecentre {a0 : Nat} {a1 : List Nat} (h : exec (.qdrRecentre a0 a1) s = .next t) : Moves (· ∈ Footprint.wQdrRecentre) s t :=
  execQdrRecentre_moves (pt 0 rfl) (pt 1 rfl) _ _ h
theorem foot_qdrParityError {a0 : Nat} {a1 : Nat} {a2 : Nat} (h : exec (.qdrParityError a0 a1 a2) s = .next t) : Moves (· ∈ Footprint.wQdrParityError) s t :=
  execQdrParityError_moves (pt 0 rfl) (pt 1 rfl) (pt 2 rfl) (pt 3 rfl) (pt 4 rfl) (pt 5 rfl) _ _ _ h
theorem foot_addrParityError {a0 : Nat} (h : exec (.addrParityError a0) s = .next t) : Moves (· ∈ Footprint.wAddrParityError) s t :=
  execAddrParityError_moves (pt 0 rfl) (pt 1 rfl) (pt 2 rfl) (pt 3 rfl) _ h
theorem foot_qdrPortFail {a0 : Nat} (h : exec (.qdrPortFail a0) s = .next t) : Moves (· ∈ Footprint.wQdrPortFail) s t :=
  execQdrPortFail_moves (pt 0 rfl) (pt 1 rfl) (pt 2 rfl) (pt 3 rfl) (pt 4 rfl) (pt 5 rfl) (pt 6 rfl) (pt 7 rfl) (pt 8 rfl) (pt 9 rfl) (pt 10 rfl) (pt 11 rfl) _ h
theorem foot_cryLockRelease {a0 : Nat} {a1 : Bool} (h : exec (.cryLockRelease a0 a1) s = .next t) : Moves (· ∈ Footprint.wCryLockRelease) s t :=
  execCryLockRelease_moves (pt 15 rfl) (pt 0 rfl) (pt 1 rfl) (pt 2 rfl) (pt 17 rfl) (pt 18 rfl) (pt 3 rfl) (pt 16 rfl) (pt 11 rfl) (pt 5 rfl) (pt 4 rfl) (pt 12 rfl) (pt 6 rfl) (pt 7 rfl) (pt 13 rfl) (pt 8 rfl) (pt 14 rfl) (pt 9 rfl) (pt 10 rfl) _ _ h
theorem foot_keyLoad {a0 : Nat} {a1 : Bool} {a2 : Nat} {a3 : Nat} (h : exec (.keyLoad a0 a1 a2 a3) s = .next t) : Moves (· ∈ Footprint.wKeyLoad) s t :=
  execKeyLoad_moves (pt 25 rfl) (pt 0 rfl) (pt 1 rfl) (pt 35 rfl) (pt 2 rfl) (pt 3 rfl) (pt 36 rfl) (pt 4 rfl) (pt 5 rfl) (pt 27 rfl) (pt 28 rfl) (pt 37 rfl) (pt 38 rfl) (pt 26 rfl) (pt 21 rfl) (pt 15 rfl) (pt 6 rfl) (pt 22 rfl) (pt 16 rfl) (pt 17 rfl) (pt 39 rfl) (pt 7 rfl) (pt 8 rfl) (pt 29 rfl) (pt 30 rfl) (pt 9 rfl) (pt 10 rfl) (pt 11 rfl) (pt 40 rfl) (pt 12 rfl) (pt 31 rfl) (pt 32 rfl) (pt 13 rfl) (pt 41 rfl) (pt 33 rfl) (pt 14 rfl) (pt 34 rfl) (pt 23 rfl) (pt 18 rfl) (pt 24 rfl) (pt 19 rfl) (pt 20 rfl) _ _ _ _ h
theorem foot_keyRoll {a0 : Nat} {a1 : Bool} {a2 : Nat} {a3 : Nat} (h : exec (.keyRoll a0 a1 a2 a3) s = .next t) : Moves (· ∈ Footprint.wKeyRoll) s t :=
  execKeyRoll_moves (pt 25 rfl) (pt 0 rfl) (pt 1 rfl) (pt 35 rfl) (pt 2 rfl) (pt 3 rfl) (pt 36 rfl) (pt 4 rfl) (pt 5 rfl) (pt 27 rfl) (pt 28 rfl) (pt 37 rfl) (pt 38 rfl) (pt 26 rfl) (pt 21 rfl) (pt 15 rfl) (pt 6 rfl) (pt 22 rfl) (pt 16 rfl) (pt 17 rfl) (pt 39 rfl) (pt 7 rfl) (pt 8 rfl) (pt 29 rfl) (pt 30 rfl) (pt 9 rfl) (pt 10 rfl) (pt 11 rfl) (pt 40 rfl) (pt 12 rfl) (pt 31 rfl) (pt 32 rfl) (pt 13 rfl) (pt 41 rfl) (pt 33 rfl) (pt 14 rfl) (pt 34 rfl) (pt 23 rfl) (pt 18 rfl) (pt 24 rfl) (pt 19 rfl) (pt 20 rfl) _ _ _ _ h
theorem foot_keyClear {a0 : Nat} {a1 : Bool} {a2 : Nat} {a3 : Nat} (h : exec (.keyClear a0 a1 a2 a3) s = .next t) : Moves (· ∈ Footprint.wKeyClear) s t :=
  execKeyClear_moves (pt 25 rfl) (pt 0 rfl) (pt 1 rfl) (pt 35 rfl) (pt 2 rfl) (pt 3 rfl) (pt 36 rfl) (pt 4 rfl) (pt 5 rfl) (pt 27 rfl) (pt 28 rfl) (pt 37 rfl) (pt 38 rfl) (pt 26 rfl) (pt 21 rfl) (pt 15 rfl) (pt 6 rfl) (pt 22 rfl) (pt 16 rfl) (pt 17 rfl) (pt 39 rfl) (pt 7 rfl) (pt 8 rfl) (pt 29 rfl) (pt 30 rfl) (pt 9 rfl) (pt 10 rfl) (pt 11 rfl) (pt 40 rfl) (pt 12 rfl) (pt 31 rfl) (pt 32 rfl) (pt 13 rfl) (pt 41 rfl) (pt 33 rfl) (pt 14 rfl) (pt 34 rfl) (pt 23 rfl) (pt 18 rfl) (pt 24 rfl) (pt 19 rfl) (pt 20 rfl) _ _ _ _ h
theorem foot_keyClearCtx {a0 : Nat} {a1 : Bool} {a2 : Nat} (h : exec (.keyClearCtx a0 a1 a2) s = .next t) : Moves (· ∈ Footprint.wKeyClearCtx) s t :=
  execKeyClearCtx_moves (pt 25 rfl) (pt 0 rfl) (pt 1 rfl) (pt 35 rfl) (pt 2 rfl) (pt 3 rfl) (pt 36 rfl) (pt 4 rfl) (pt 5 rfl) (pt 27 rfl) (pt 28 rfl) (pt 37 rfl) (pt 38 rfl) (pt 26 rfl) (pt 21 rfl) (pt 15 rfl) (pt 6 rfl) (pt 22 rfl) (pt 16 rfl) (pt 17 rfl) (pt 39 rfl) (pt 7 rfl) (pt 8 rfl) (pt 29 rfl) (pt 30 rfl) (pt 9 rfl) (pt 10 rfl) (pt 11 rfl) (pt 40 rfl) (pt 12 rfl) (pt 31 rfl) (pt 32 rfl) (pt 13 rfl) (pt 41 rfl) (pt 33 rfl) (pt 14 rfl) (pt 34 rfl) (pt 23 rfl) (pt 18 rfl) (pt 24 rfl) (pt 19 rfl) (pt 20 rfl) _ _ _ h
theorem foot_keyCmdUndefined {a0 : Nat} {a1 : Bool} {a2 : Nat} {a3 : Nat} {a4 : Nat} (h : exec (.keyCmdUndefined a0 a1 a2 a3 a4) s = .next t) : Moves (· ∈ Footprint.wKeyCmdUndefined) s t :=
  execKeyCmdUndefined_moves (pt 25 rfl) (pt 0 rfl) (pt 1 rfl) (pt 35 rfl) (pt 2 rfl) (pt 3 rfl) (pt 36 rfl) (pt 4 rfl) (pt 5 rfl) (pt 27 rfl) (pt 28 rfl) (pt 37 rfl) (pt 38 rfl) (pt 26 rfl) (pt 21 rfl) (pt 15 rfl) (pt 6 rfl) (pt 22 rfl) (pt 16 rfl) (pt 17 rfl) (pt 39 rfl) (pt 7 rfl) (pt 8 rfl) (pt 29 rfl) (pt 30 rfl) (pt 9 rfl) (pt 10 rfl) (pt 11 rfl) (pt 40 rfl) (pt 12 rfl) (pt 31 rfl) (pt 32 rfl) (pt 13 rfl) (pt 41 rfl) (pt 33 rfl) (pt 14 rfl) (pt 34 rfl) (pt 23 rfl) (pt 18 rfl) (pt 24 rfl) (pt 19 rfl) (pt 20 rfl) _ _ _ _ _ h
theorem foot_keyCmdComplete (h : exec (.keyCmdComplete) s = .next t) : Moves (· ∈ Footprint.wKeyCmdComplete) s t :=
  execKeyCmdComplete_moves (pt 0 rfl) (pt 1 rfl) (pt 7 rfl) (pt 8 rfl) (pt 5 rfl) (pt 6 rfl) (pt 9 rfl) (pt 10 rfl) (pt 2 rfl) (pt 3 rfl) (pt 4 rfl) h
theorem foot_erasure {a0 : Nat} {a1 : Bool} (h : exec (.erasure a0 a1) s = .next t) : Moves (· ∈ Footprint.wErasure) s t :=
  execErasure_moves (pt 0 rfl) (pt 1 rfl) (pt 2 rfl) (pt 3 rfl) (pt 4 rfl) (pt 5 rfl) (pt 6 rfl) (pt 7 rfl) (pt 8 rfl) (pt 9 rfl) (pt 10 rfl) (pt 11 rfl) (pt 12 rfl) (pt 13 rfl) (pt 14 rfl) (pt 15 rfl) (pt 16 rfl) (pt 17 rfl) (pt 18 rfl) (pt 19 rfl) (pt 20 rfl) (pt 35 rfl) (pt 36 rfl) (pt 21 rfl) (pt 22 rfl) (pt 31 rfl) (pt 25 rfl) (pt 23 rfl) (pt 32 rfl) (pt 26 rfl) (pt 27 rfl) (pt 24 rfl) (pt 33 rfl) (pt 28 rfl) (pt 34 rfl) (pt 29 rfl) (pt 30 rfl) _ _ h
theorem foot_cryCounterMirror (h : exec (.cryCounterMirror) s = .next t) : Moves (· ∈ Footprint.wCryCounterMirror) s t :=
  execCryCounterMirror_moves (pt 0 rfl) h
theorem foot_refFail {a0 : Nat} {a1 : Nat} (h : exec (.refFail a0 a1) s = .next t) : Moves (· ∈ Footprint.wRefFail) s t :=
  execRefFail_moves (pt 0 rfl) (pt 1 rfl) (pt 2 rfl) (pt 9 rfl) (pt 16 rfl) (pt 17 rfl) (pt 18 rfl) (pt 19 rfl) (pt 3 rfl) (pt 10 rfl) (pt 11 rfl) (pt 20 rfl) (pt 21 rfl) (pt 4 rfl) (pt 12 rfl) (pt 5 rfl) (pt 13 rfl) (pt 6 rfl) (pt 14 rfl) (pt 7 rfl) (pt 15 rfl) (pt 22 rfl) (pt 23 rfl) (pt 8 rfl) _ _ h
theorem foot_refRestore {a0 : Nat} (h : exec (.refRestore a0) s = .next t) : Moves (· ∈ Footprint.wRefRestore) s t :=
  execRefRestore_moves (pt 0 rfl) (pt 1 rfl) (pt 5 rfl) (pt 12 rfl) (pt 13 rfl) (pt 14 rfl) (pt 15 rfl) (pt 6 rfl) (pt 7 rfl) (pt 16 rfl) (pt 17 rfl) (pt 8 rfl) (pt 9 rfl) (pt 2 rfl) (pt 10 rfl) (pt 3 rfl) (pt 11 rfl) (pt 18 rfl) (pt 19 rfl) (pt 4 rfl) _ h
theorem foot_wtrComplete {a0 : Nat} (h : exec (.wtrComplete a0) s = .next t) : Moves (· ∈ Footprint.wWtrComplete) s t :=
  execWtrComplete_moves (pt 0 rfl) (pt 1 rfl) (pt 5 rfl) (pt 12 rfl) (pt 13 rfl) (pt 14 rfl) (pt 15 rfl) (pt 6 rfl) (pt 7 rfl) (pt 16 rfl) (pt 17 rfl) (pt 8 rfl) (pt 9 rfl) (pt 2 rfl) (pt 10 rfl) (pt 3 rfl) (pt 11 rfl) (pt 18 rfl) (pt 19 rfl) (pt 4 rfl) _ h
theorem foot_driftWatchEnd {a0 : Nat} (h : exec (.driftWatchEnd a0) s = .next t) : Moves (· ∈ Footprint.wDriftWatchEnd) s t :=
  execDriftWatchEnd_moves (pt 0 rfl) (pt 1 rfl) (pt 5 rfl) (pt 12 rfl) (pt 13 rfl) (pt 14 rfl) (pt 15 rfl) (pt 6 rfl) (pt 7 rfl) (pt 16 rfl) (pt 17 rfl) (pt 8 rfl) (pt 9 rfl) (pt 2 rfl) (pt 10 rfl) (pt 3 rfl) (pt 11 rfl) (pt 18 rfl) (pt 19 rfl) (pt 4 rfl) _ h
theorem foot_refDq {a0 : Nat} (h : exec (.refDq a0) s = .next t) : Moves (· ∈ Footprint.wRefDq) s t :=
  execRefDq_moves (pt 0 rfl) (pt 1 rfl) (pt 5 rfl) (pt 12 rfl) (pt 13 rfl) (pt 14 rfl) (pt 15 rfl) (pt 6 rfl) (pt 7 rfl) (pt 16 rfl) (pt 17 rfl) (pt 8 rfl) (pt 9 rfl) (pt 2 rfl) (pt 10 rfl) (pt 3 rfl) (pt 11 rfl) (pt 18 rfl) (pt 19 rfl) (pt 4 rfl) _ h
theorem foot_qlTmo {a0 : Nat} {a1 : Nat} (h : exec (.qlTmo a0 a1) s = .next t) : Moves (· ∈ Footprint.wQlTmo) s t :=
  execQlTmo_moves (pt 0 rfl) (pt 4 rfl) (pt 1 rfl) (pt 5 rfl) (pt 6 rfl) (pt 7 rfl) (pt 8 rfl) (pt 9 rfl) (pt 10 rfl) (pt 2 rfl) (pt 3 rfl) _ _ h
theorem foot_refQlWrite {a0 : Nat} {a1 : Nat} (h : exec (.refQlWrite a0 a1) s = .next t) : Moves (· ∈ Footprint.wRefQlWrite) s t :=
  execRefQlWrite_moves (pt 17 rfl) (pt 0 rfl) (pt 1 rfl) (pt 18 rfl) (pt 13 rfl) (pt 7 rfl) (pt 2 rfl) (pt 14 rfl) (pt 8 rfl) (pt 9 rfl) (pt 19 rfl) (pt 3 rfl) (pt 20 rfl) (pt 21 rfl) (pt 22 rfl) (pt 23 rfl) (pt 15 rfl) (pt 10 rfl) (pt 16 rfl) (pt 11 rfl) (pt 12 rfl) (pt 4 rfl) (pt 24 rfl) (pt 25 rfl) (pt 5 rfl) (pt 6 rfl) _ _ h
theorem foot_selection (h : exec (.selection) s = .next t) : Moves (· ∈ Footprint.wSelection) s t :=
  execSelection_moves (pt 0 rfl) (pt 1 rfl) (pt 2 rfl) (pt 8 rfl) (pt 3 rfl) (pt 9 rfl) (pt 10 rfl) (pt 4 rfl) (pt 11 rfl) (pt 5 rfl) (pt 12 rfl) (pt 13 rfl) (pt 6 rfl) (pt 14 rfl) (pt 7 rfl) h
theorem foot_loopLock (h : exec (.loopLock) s = .next t) : Moves (· ∈ Footprint.wLoopLock) s t :=
  execLoopLock_moves (pt 0 rfl) (pt 1 rfl) (pt 2 rfl) (pt 6 rfl) (pt 7 rfl) (pt 8 rfl) (pt 3 rfl) (pt 9 rfl) (pt 10 rfl) (pt 11 rfl) (pt 4 rfl) (pt 12 rfl) (pt 5 rfl) h
theorem foot_quarantineExit (h : exec (.quarantineExit) s = .next t) : Moves (· ∈ Footprint.wQuarantineExit) s t :=
  execQuarantineExit_moves (pt 0 rfl) (pt 1 rfl) (pt 2 rfl) (pt 3 rfl) (pt 4 rfl) (pt 5 rfl) h
theorem foot_tcFit (h : exec (.tcFit) s = .next t) : Moves (· ∈ Footprint.wTcFit) s t :=
  execTcFit_moves (pt 0 rfl) (pt 3 rfl) (pt 4 rfl) (pt 5 rfl) (pt 1 rfl) (pt 2 rfl) (pt 6 rfl) h
theorem foot_pstepWrite {a0 : Nat} {a1 : Nat} (h : exec (.pstepWrite a0 a1) s = .next t) : Moves (· ∈ Footprint.wPstepWrite) s t :=
  execPstepWrite_moves (pt 18 rfl) (pt 0 rfl) (pt 1 rfl) (pt 19 rfl) (pt 14 rfl) (pt 8 rfl) (pt 2 rfl) (pt 15 rfl) (pt 9 rfl) (pt 10 rfl) (pt 3 rfl) (pt 20 rfl) (pt 4 rfl) (pt 21 rfl) (pt 22 rfl) (pt 23 rfl) (pt 24 rfl) (pt 5 rfl) (pt 16 rfl) (pt 11 rfl) (pt 17 rfl) (pt 12 rfl) (pt 13 rfl) (pt 6 rfl) (pt 25 rfl) (pt 26 rfl) (pt 7 rfl) _ _ h
theorem foot_pstepDone {a0 : Nat} (h : exec (.pstepDone a0) s = .next t) : Moves (· ∈ Footprint.wPstepDone) s t :=
  execPstepDone_moves (pt 0 rfl) (pt 1 rfl) (pt 2 rfl) _ h
theorem foot_privKeyWrite {a0 : Nat} {a1 : Bool} {a2 : Nat} (h : exec (.privKeyWrite a0 a1 a2) s = .next t) : Moves (· ∈ Footprint.wPrivKeyWrite) s t :=
  execPrivKeyWrite_moves (pt 16 rfl) (pt 0 rfl) (pt 1 rfl) (pt 17 rfl) (pt 12 rfl) (pt 6 rfl) (pt 2 rfl) (pt 13 rfl) (pt 7 rfl) (pt 8 rfl) (pt 3 rfl) (pt 18 rfl) (pt 19 rfl) (pt 20 rfl) (pt 21 rfl) (pt 22 rfl) (pt 14 rfl) (pt 9 rfl) (pt 15 rfl) (pt 10 rfl) (pt 11 rfl) (pt 4 rfl) (pt 23 rfl) (pt 24 rfl) (pt 5 rfl) _ _ _ h
theorem foot_loopOpen {a0 : Nat} {a1 : Bool} {a2 : Nat} {a3 : Nat} (h : exec (.loopOpen a0 a1 a2 a3) s = .next t) : Moves (· ∈ Footprint.wLoopOpen) s t :=
  execLoopOpen_moves (pt 20 rfl) (pt 0 rfl) (pt 1 rfl) (pt 21 rfl) (pt 16 rfl) (pt 10 rfl) (pt 2 rfl) (pt 17 rfl) (pt 11 rfl) (pt 12 rfl) (pt 3 rfl) (pt 22 rfl) (pt 4 rfl) (pt 5 rfl) (pt 6 rfl) (pt 23 rfl) (pt 24 rfl) (pt 25 rfl) (pt 26 rfl) (pt 18 rfl) (pt 13 rfl) (pt 19 rfl) (pt 14 rfl) (pt 15 rfl) (pt 7 rfl) (pt 27 rfl) (pt 8 rfl) (pt 28 rfl) (pt 9 rfl) _ _ _ _ h
theorem foot_ncoFreqWrite {a0 : Nat} {a1 : Bool} {a2 : Nat} {a3 : Nat} (h : exec (.ncoFreqWrite a0 a1 a2 a3) s = .next t) : Moves (· ∈ Footprint.wNcoFreqWrite) s t :=
  execNcoFreqWrite_moves (pt 17 rfl) (pt 0 rfl) (pt 1 rfl) (pt 18 rfl) (pt 13 rfl) (pt 7 rfl) (pt 2 rfl) (pt 14 rfl) (pt 8 rfl) (pt 9 rfl) (pt 3 rfl) (pt 19 rfl) (pt 4 rfl) (pt 20 rfl) (pt 21 rfl) (pt 22 rfl) (pt 23 rfl) (pt 15 rfl) (pt 10 rfl) (pt 16 rfl) (pt 11 rfl) (pt 12 rfl) (pt 5 rfl) (pt 24 rfl) (pt 25 rfl) (pt 6 rfl) _ _ _ _ h
theorem foot_loopClose {a0 : Nat} {a1 : Bool} {a2 : Nat} (h : exec (.loopClose a0 a1 a2) s = .next t) : Moves (· ∈ Footprint.wLoopClose) s t :=
  execLoopClose_moves (pt 19 rfl) (pt 0 rfl) (pt 1 rfl) (pt 20 rfl) (pt 15 rfl) (pt 9 rfl) (pt 2 rfl) (pt 16 rfl) (pt 10 rfl) (pt 11 rfl) (pt 3 rfl) (pt 21 rfl) (pt 4 rfl) (pt 5 rfl) (pt 22 rfl) (pt 23 rfl) (pt 24 rfl) (pt 25 rfl) (pt 17 rfl) (pt 12 rfl) (pt 18 rfl) (pt 13 rfl) (pt 14 rfl) (pt 6 rfl) (pt 26 rfl) (pt 7 rfl) (pt 27 rfl) (pt 8 rfl) _ _ _ h
theorem foot_maxOpenExpiry {a0 : Nat} {a1 : Nat} (h : exec (.maxOpenExpiry a0 a1) s = .next t) : Moves (· ∈ Footprint.wMaxOpenExpiry) s t :=
  execMaxOpenExpiry_moves (pt 0 rfl) (pt 1 rfl) (pt 2 rfl) (pt 3 rfl) (pt 4 rfl) _ _ h
theorem foot_timeSet (h : exec (.timeSet) s = .next t) : Moves (· ∈ Footprint.wTimeSet) s t :=
  execTimeSet_moves (pt 16 rfl) (pt 0 rfl) (pt 1 rfl) (pt 17 rfl) (pt 12 rfl) (pt 6 rfl) (pt 2 rfl) (pt 13 rfl) (pt 7 rfl) (pt 8 rfl) (pt 18 rfl) (pt 19 rfl) (pt 20 rfl) (pt 21 rfl) (pt 22 rfl) (pt 3 rfl) (pt 14 rfl) (pt 9 rfl) (pt 15 rfl) (pt 10 rfl) (pt 11 rfl) (pt 4 rfl) (pt 23 rfl) (pt 24 rfl) (pt 5 rfl) h
theorem foot_timeAlign (h : exec (.timeAlign) s = .next t) : Moves (· ∈ Footprint.wTimeAlign) s t :=
  execTimeAlign_moves (pt 16 rfl) (pt 0 rfl) (pt 1 rfl) (pt 17 rfl) (pt 12 rfl) (pt 6 rfl) (pt 2 rfl) (pt 13 rfl) (pt 7 rfl) (pt 8 rfl) (pt 18 rfl) (pt 19 rfl) (pt 20 rfl) (pt 21 rfl) (pt 22 rfl) (pt 3 rfl) (pt 14 rfl) (pt 9 rfl) (pt 15 rfl) (pt 10 rfl) (pt 11 rfl) (pt 4 rfl) (pt 23 rfl) (pt 24 rfl) (pt 5 rfl) h
theorem foot_ppsInEdge {a0 : Nat} {a1 : Sys2Proof.Second} (h : exec (.ppsInEdge a0 a1) s = .next t) : Moves (· ∈ Footprint.wPpsInEdge) s t :=
  execPpsInEdge_moves (pt 0 rfl) (pt 1 rfl) (pt 2 rfl) (pt 3 rfl) (pt 4 rfl) (pt 5 rfl) (pt 6 rfl) (pt 7 rfl) (pt 8 rfl) (pt 9 rfl) (pt 10 rfl) (pt 11 rfl) (pt 12 rfl) (pt 13 rfl) (pt 14 rfl) (pt 15 rfl) (pt 16 rfl) (pt 17 rfl) (pt 18 rfl) (pt 19 rfl) (pt 20 rfl) (pt 21 rfl) (pt 22 rfl) (pt 23 rfl) (pt 24 rfl) (pt 25 rfl) (pt 26 rfl) (pt 27 rfl) (pt 28 rfl) (pt 29 rfl) (pt 30 rfl) (pt 31 rfl) (pt 32 rfl) (pt 33 rfl) (pt 34 rfl) (pt 89 rfl) (pt 90 rfl) (pt 35 rfl) (pt 91 rfl) (pt 36 rfl) (pt 37 rfl) (pt 38 rfl) (pt 64 rfl) (pt 39 rfl) (pt 75 rfl) (pt 76 rfl) (pt 77 rfl) (pt 78 rfl) (pt 40 rfl) (pt 41 rfl) (pt 42 rfl) (pt 43 rfl) (pt 44 rfl) (pt 45 rfl) (pt 65 rfl) (pt 66 rfl) (pt 79 rfl) (pt 80 rfl) (pt 92 rfl) (pt 67 rfl) (pt 68 rfl) (pt 46 rfl) (pt 47 rfl) (pt 48 rfl) (pt 49 rfl) (pt 50 rfl) (pt 83 rfl) (pt 84 rfl) (pt 85 rfl) (pt 86 rfl) (pt 87 rfl) (pt 88 rfl) (pt 51 rfl) (pt 52 rfl) (pt 53 rfl) (pt 54 rfl) (pt 55 rfl) (pt 56 rfl) (pt 57 rfl) (pt 71 rfl) (pt 58 rfl) (pt 72 rfl) (pt 73 rfl) (pt 74 rfl) (pt 59 rfl) (pt 60 rfl) (pt 69 rfl) (pt 61 rfl) (pt 70 rfl) (pt 81 rfl) (pt 82 rfl) (pt 62 rfl) (pt 63 rfl) _ _ h
theorem foot_add {a0 : Nat} {a1 : Nat} (h : exec (.add a0 a1) s = .next t) : Moves (· ∈ Footprint.wAdd) s t :=
  execAdd_moves (pt 0 rfl) (pt 1 rfl) (pt 2 rfl) (pt 3 rfl) (pt 20 rfl) (pt 21 rfl) (pt 4 rfl) (pt 5 rfl) (pt 22 rfl) (pt 16 rfl) (pt 10 rfl) (pt 6 rfl) (pt 17 rfl) (pt 11 rfl) (pt 12 rfl) (pt 7 rfl) (pt 18 rfl) (pt 13 rfl) (pt 8 rfl) (pt 19 rfl) (pt 9 rfl) (pt 14 rfl) (pt 15 rfl) _ _ h
theorem foot_sub {a0 : Nat} {a1 : Nat} (h : exec (.sub a0 a1) s = .next t) : Moves (· ∈ Footprint.wSub) s t :=
  execSub_moves (pt 0 rfl) (pt 1 rfl) (pt 2 rfl) (pt 3 rfl) (pt 20 rfl) (pt 21 rfl) (pt 4 rfl) (pt 5 rfl) (pt 22 rfl) (pt 16 rfl) (pt 10 rfl) (pt 6 rfl) (pt 17 rfl) (pt 11 rfl) (pt 12 rfl) (pt 7 rfl) (pt 18 rfl) (pt 13 rfl) (pt 8 rfl) (pt 19 rfl) (pt 9 rfl) (pt 14 rfl) (pt 15 rfl) _ _ h
theorem foot_andOp {a0 : Nat} {a1 : Nat} (h : exec (.andOp a0 a1) s = .next t) : Moves (· ∈ Footprint.wAndOp) s t :=
  execAndOp_moves (pt 0 rfl) (pt 1 rfl) (pt 2 rfl) (pt 3 rfl) (pt 20 rfl) (pt 21 rfl) (pt 4 rfl) (pt 5 rfl) (pt 22 rfl) (pt 16 rfl) (pt 10 rfl) (pt 6 rfl) (pt 17 rfl) (pt 11 rfl) (pt 12 rfl) (pt 7 rfl) (pt 18 rfl) (pt 13 rfl) (pt 8 rfl) (pt 19 rfl) (pt 9 rfl) (pt 14 rfl) (pt 15 rfl) _ _ h
theorem foot_orOp {a0 : Nat} {a1 : Nat} (h : exec (.orOp a0 a1) s = .next t) : Moves (· ∈ Footprint.wOrOp) s t :=
  execOrOp_moves (pt 0 rfl) (pt 1 rfl) (pt 2 rfl) (pt 3 rfl) (pt 20 rfl) (pt 21 rfl) (pt 4 rfl) (pt 5 rfl) (pt 22 rfl) (pt 16 rfl) (pt 10 rfl) (pt 6 rfl) (pt 17 rfl) (pt 11 rfl) (pt 12 rfl) (pt 7 rfl) (pt 18 rfl) (pt 13 rfl) (pt 8 rfl) (pt 19 rfl) (pt 9 rfl) (pt 14 rfl) (pt 15 rfl) _ _ h
theorem foot_xor {a0 : Nat} {a1 : Nat} (h : exec (.xor a0 a1) s = .next t) : Moves (· ∈ Footprint.wXor) s t :=
  execXor_moves (pt 0 rfl) (pt 1 rfl) (pt 2 rfl) (pt 3 rfl) (pt 20 rfl) (pt 21 rfl) (pt 4 rfl) (pt 5 rfl) (pt 22 rfl) (pt 16 rfl) (pt 10 rfl) (pt 6 rfl) (pt 17 rfl) (pt 11 rfl) (pt 12 rfl) (pt 7 rfl) (pt 18 rfl) (pt 13 rfl) (pt 8 rfl) (pt 19 rfl) (pt 9 rfl) (pt 14 rfl) (pt 15 rfl) _ _ h
theorem foot_sll {a0 : Nat} {a1 : Nat} (h : exec (.sll a0 a1) s = .next t) : Moves (· ∈ Footprint.wSll) s t :=
  execSll_moves (pt 0 rfl) (pt 1 rfl) (pt 2 rfl) (pt 3 rfl) (pt 20 rfl) (pt 21 rfl) (pt 4 rfl) (pt 5 rfl) (pt 22 rfl) (pt 16 rfl) (pt 10 rfl) (pt 6 rfl) (pt 17 rfl) (pt 11 rfl) (pt 12 rfl) (pt 7 rfl) (pt 18 rfl) (pt 13 rfl) (pt 8 rfl) (pt 19 rfl) (pt 9 rfl) (pt 14 rfl) (pt 15 rfl) _ _ h
theorem foot_srl {a0 : Nat} {a1 : Nat} (h : exec (.srl a0 a1) s = .next t) : Moves (· ∈ Footprint.wSrl) s t :=
  execSrl_moves (pt 0 rfl) (pt 1 rfl) (pt 2 rfl) (pt 3 rfl) (pt 20 rfl) (pt 21 rfl) (pt 4 rfl) (pt 5 rfl) (pt 22 rfl) (pt 16 rfl) (pt 10 rfl) (pt 6 rfl) (pt 17 rfl) (pt 11 rfl) (pt 12 rfl) (pt 7 rfl) (pt 18 rfl) (pt 13 rfl) (pt 8 rfl) (pt 19 rfl) (pt 9 rfl) (pt 14 rfl) (pt 15 rfl) _ _ h
theorem foot_sra {a0 : Nat} {a1 : Nat} (h : exec (.sra a0 a1) s = .next t) : Moves (· ∈ Footprint.wSra) s t :=
  execSra_moves (pt 0 rfl) (pt 1 rfl) (pt 2 rfl) (pt 3 rfl) (pt 20 rfl) (pt 21 rfl) (pt 4 rfl) (pt 5 rfl) (pt 22 rfl) (pt 16 rfl) (pt 10 rfl) (pt 6 rfl) (pt 17 rfl) (pt 11 rfl) (pt 12 rfl) (pt 7 rfl) (pt 18 rfl) (pt 13 rfl) (pt 8 rfl) (pt 19 rfl) (pt 9 rfl) (pt 14 rfl) (pt 15 rfl) _ _ h
theorem foot_slt {a0 : Nat} {a1 : Nat} (h : exec (.slt a0 a1) s = .next t) : Moves (· ∈ Footprint.wSlt) s t :=
  execSlt_moves (pt 0 rfl) (pt 1 rfl) (pt 2 rfl) (pt 3 rfl) (pt 20 rfl) (pt 21 rfl) (pt 4 rfl) (pt 5 rfl) (pt 22 rfl) (pt 16 rfl) (pt 10 rfl) (pt 6 rfl) (pt 17 rfl) (pt 11 rfl) (pt 12 rfl) (pt 7 rfl) (pt 18 rfl) (pt 13 rfl) (pt 8 rfl) (pt 19 rfl) (pt 9 rfl) (pt 14 rfl) (pt 15 rfl) _ _ h
theorem foot_sltu {a0 : Nat} {a1 : Nat} (h : exec (.sltu a0 a1) s = .next t) : Moves (· ∈ Footprint.wSltu) s t :=
  execSltu_moves (pt 0 rfl) (pt 1 rfl) (pt 2 rfl) (pt 3 rfl) (pt 20 rfl) (pt 21 rfl) (pt 4 rfl) (pt 5 rfl) (pt 22 rfl) (pt 16 rfl) (pt 10 rfl) (pt 6 rfl) (pt 17 rfl) (pt 11 rfl) (pt 12 rfl) (pt 7 rfl) (pt 18 rfl) (pt 13 rfl) (pt 8 rfl) (pt 19 rfl) (pt 9 rfl) (pt 14 rfl) (pt 15 rfl) _ _ h
theorem foot_mul {a0 : Nat} {a1 : Nat} (h : exec (.mul a0 a1) s = .next t) : Moves (· ∈ Footprint.wMul) s t :=
  execMul_moves (pt 0 rfl) (pt 1 rfl) (pt 2 rfl) (pt 3 rfl) (pt 20 rfl) (pt 21 rfl) (pt 4 rfl) (pt 5 rfl) (pt 22 rfl) (pt 16 rfl) (pt 10 rfl) (pt 6 rfl) (pt 17 rfl) (pt 11 rfl) (pt 12 rfl) (pt 7 rfl) (pt 18 rfl) (pt 13 rfl) (pt 8 rfl) (pt 19 rfl) (pt 9 rfl) (pt 14 rfl) (pt 15 rfl) _ _ h
theorem foot_mulh {a0 : Nat} {a1 : Nat} (h : exec (.mulh a0 a1) s = .next t) : Moves (· ∈ Footprint.wMulh) s t :=
  execMulh_moves (pt 0 rfl) (pt 1 rfl) (pt 2 rfl) (pt 3 rfl) (pt 20 rfl) (pt 21 rfl) (pt 4 rfl) (pt 5 rfl) (pt 22 rfl) (pt 16 rfl) (pt 10 rfl) (pt 6 rfl) (pt 17 rfl) (pt 11 rfl) (pt 12 rfl) (pt 7 rfl) (pt 18 rfl) (pt 13 rfl) (pt 8 rfl) (pt 19 rfl) (pt 9 rfl) (pt 14 rfl) (pt 15 rfl) _ _ h
theorem foot_mulhu {a0 : Nat} {a1 : Nat} (h : exec (.mulhu a0 a1) s = .next t) : Moves (· ∈ Footprint.wMulhu) s t :=
  execMulhu_moves (pt 0 rfl) (pt 1 rfl) (pt 2 rfl) (pt 3 rfl) (pt 20 rfl) (pt 21 rfl) (pt 4 rfl) (pt 5 rfl) (pt 22 rfl) (pt 16 rfl) (pt 10 rfl) (pt 6 rfl) (pt 17 rfl) (pt 11 rfl) (pt 12 rfl) (pt 7 rfl) (pt 18 rfl) (pt 13 rfl) (pt 8 rfl) (pt 19 rfl) (pt 9 rfl) (pt 14 rfl) (pt 15 rfl) _ _ h
theorem foot_min {a0 : Nat} {a1 : Nat} (h : exec (.min a0 a1) s = .next t) : Moves (· ∈ Footprint.wMin) s t :=
  execMin_moves (pt 0 rfl) (pt 1 rfl) (pt 2 rfl) (pt 3 rfl) (pt 20 rfl) (pt 21 rfl) (pt 4 rfl) (pt 5 rfl) (pt 22 rfl) (pt 16 rfl) (pt 10 rfl) (pt 6 rfl) (pt 17 rfl) (pt 11 rfl) (pt 12 rfl) (pt 7 rfl) (pt 18 rfl) (pt 13 rfl) (pt 8 rfl) (pt 19 rfl) (pt 9 rfl) (pt 14 rfl) (pt 15 rfl) _ _ h
theorem foot_max {a0 : Nat} {a1 : Nat} (h : exec (.max a0 a1) s = .next t) : Moves (· ∈ Footprint.wMax) s t :=
  execMax_moves (pt 0 rfl) (pt 1 rfl) (pt 2 rfl) (pt 3 rfl) (pt 20 rfl) (pt 21 rfl) (pt 4 rfl) (pt 5 rfl) (pt 22 rfl) (pt 16 rfl) (pt 10 rfl) (pt 6 rfl) (pt 17 rfl) (pt 11 rfl) (pt 12 rfl) (pt 7 rfl) (pt 18 rfl) (pt 13 rfl) (pt 8 rfl) (pt 19 rfl) (pt 9 rfl) (pt 14 rfl) (pt 15 rfl) _ _ h
theorem foot_clz {a0 : Nat} {a1 : Nat} (h : exec (.clz a0 a1) s = .next t) : Moves (· ∈ Footprint.wClz) s t :=
  execClz_moves (pt 0 rfl) (pt 1 rfl) (pt 2 rfl) (pt 3 rfl) (pt 20 rfl) (pt 21 rfl) (pt 4 rfl) (pt 5 rfl) (pt 22 rfl) (pt 16 rfl) (pt 10 rfl) (pt 6 rfl) (pt 17 rfl) (pt 11 rfl) (pt 12 rfl) (pt 7 rfl) (pt 18 rfl) (pt 13 rfl) (pt 8 rfl) (pt 19 rfl) (pt 9 rfl) (pt 14 rfl) (pt 15 rfl) _ _ h
theorem foot_popc {a0 : Nat} {a1 : Nat} (h : exec (.popc a0 a1) s = .next t) : Moves (· ∈ Footprint.wPopc) s t :=
  execPopc_moves (pt 0 rfl) (pt 1 rfl) (pt 2 rfl) (pt 3 rfl) (pt 20 rfl) (pt 21 rfl) (pt 4 rfl) (pt 5 rfl) (pt 22 rfl) (pt 16 rfl) (pt 10 rfl) (pt 6 rfl) (pt 17 rfl) (pt 11 rfl) (pt 12 rfl) (pt 7 rfl) (pt 18 rfl) (pt 13 rfl) (pt 8 rfl) (pt 19 rfl) (pt 9 rfl) (pt 14 rfl) (pt 15 rfl) _ _ h
theorem foot_addi {a0 : Nat} {a1 : Nat} (h : exec (.addi a0 a1) s = .next t) : Moves (· ∈ Footprint.wAddi) s t :=
  execAddi_moves (pt 0 rfl) (pt 1 rfl) (pt 2 rfl) (pt 3 rfl) (pt 20 rfl) (pt 21 rfl) (pt 4 rfl) (pt 5 rfl) (pt 22 rfl) (pt 16 rfl) (pt 10 rfl) (pt 6 rfl) (pt 17 rfl) (pt 11 rfl) (pt 12 rfl) (pt 7 rfl) (pt 18 rfl) (pt 13 rfl) (pt 8 rfl) (pt 19 rfl) (pt 9 rfl) (pt 14 rfl) (pt 15 rfl) _ _ h
theorem foot_andi {a0 : Nat} {a1 : Nat} (h : exec (.andi a0 a1) s = .next t) : Moves (· ∈ Footprint.wAndi) s t :=
  execAndi_moves (pt 0 rfl) (pt 1 rfl) (pt 2 rfl) (pt 3 rfl) (pt 20 rfl) (pt 21 rfl) (pt 4 rfl) (pt 5 rfl) (pt 22 rfl) (pt 16 rfl) (pt 10 rfl) (pt 6 rfl) (pt 17 rfl) (pt 11 rfl) (pt 12 rfl) (pt 7 rfl) (pt 18 rfl) (pt 13 rfl) (pt 8 rfl) (pt 19 rfl) (pt 9 rfl) (pt 14 rfl) (pt 15 rfl) _ _ h
theorem foot_ori {a0 : Nat} {a1 : Nat} (h : exec (.ori a0 a1) s = .next t) : Moves (· ∈ Footprint.wOri) s t :=
  execOri_moves (pt 0 rfl) (pt 1 rfl) (pt 2 rfl) (pt 3 rfl) (pt 20 rfl) (pt 21 rfl) (pt 4 rfl) (pt 5 rfl) (pt 22 rfl) (pt 16 rfl) (pt 10 rfl) (pt 6 rfl) (pt 17 rfl) (pt 11 rfl) (pt 12 rfl) (pt 7 rfl) (pt 18 rfl) (pt 13 rfl) (pt 8 rfl) (pt 19 rfl) (pt 9 rfl) (pt 14 rfl) (pt 15 rfl) _ _ h
theorem foot_xori {a0 : Nat} {a1 : Nat} (h : exec (.xori a0 a1) s = .next t) : Moves (· ∈ Footprint.wXori) s t :=
  execXori_moves (pt 0 rfl) (pt 1 rfl) (pt 2 rfl) (pt 3 rfl) (pt 20 rfl) (pt 21 rfl) (pt 4 rfl) (pt 5 rfl) (pt 22 rfl) (pt 16 rfl) (pt 10 rfl) (pt 6 rfl) (pt 17 rfl) (pt 11 rfl) (pt 12 rfl) (pt 7 rfl) (pt 18 rfl) (pt 13 rfl) (pt 8 rfl) (pt 19 rfl) (pt 9 rfl) (pt 14 rfl) (pt 15 rfl) _ _ h
theorem foot_slti {a0 : Nat} {a1 : Nat} (h : exec (.slti a0 a1) s = .next t) : Moves (· ∈ Footprint.wSlti) s t :=
  execSlti_moves (pt 0 rfl) (pt 1 rfl) (pt 2 rfl) (pt 3 rfl) (pt 20 rfl) (pt 21 rfl) (pt 4 rfl) (pt 5 rfl) (pt 22 rfl) (pt 16 rfl) (pt 10 rfl) (pt 6 rfl) (pt 17 rfl) (pt 11 rfl) (pt 12 rfl) (pt 7 rfl) (pt 18 rfl) (pt 13 rfl) (pt 8 rfl) (pt 19 rfl) (pt 9 rfl) (pt 14 rfl) (pt 15 rfl) _ _ h
theorem foot_shi {a0 : Nat} {a1 : Nat} (h : exec (.shi a0 a1) s = .next t) : Moves (· ∈ Footprint.wShi) s t :=
  execShi_moves (pt 0 rfl) (pt 1 rfl) (pt 2 rfl) (pt 3 rfl) (pt 20 rfl) (pt 21 rfl) (pt 4 rfl) (pt 5 rfl) (pt 22 rfl) (pt 16 rfl) (pt 10 rfl) (pt 6 rfl) (pt 17 rfl) (pt 11 rfl) (pt 12 rfl) (pt 7 rfl) (pt 18 rfl) (pt 13 rfl) (pt 8 rfl) (pt 19 rfl) (pt 9 rfl) (pt 14 rfl) (pt 15 rfl) _ _ h
theorem foot_lui {a0 : Nat} {a1 : Nat} (h : exec (.lui a0 a1) s = .next t) : Moves (· ∈ Footprint.wLui) s t :=
  execLui_moves (pt 0 rfl) (pt 1 rfl) (pt 2 rfl) (pt 3 rfl) (pt 20 rfl) (pt 21 rfl) (pt 4 rfl) (pt 5 rfl) (pt 22 rfl) (pt 16 rfl) (pt 10 rfl) (pt 6 rfl) (pt 17 rfl) (pt 11 rfl) (pt 12 rfl) (pt 7 rfl) (pt 18 rfl) (pt 13 rfl) (pt 8 rfl) (pt 19 rfl) (pt 9 rfl) (pt 14 rfl) (pt 15 rfl) _ _ h
theorem foot_beq {a0 : Nat} {a1 : Nat} (h : exec (.beq a0 a1) s = .next t) : Moves (· ∈ Footprint.wBeq) s t :=
  execBeq_moves (pt 0 rfl) (pt 1 rfl) (pt 2 rfl) (pt 3 rfl) (pt 20 rfl) (pt 21 rfl) (pt 4 rfl) (pt 5 rfl) (pt 22 rfl) (pt 16 rfl) (pt 10 rfl) (pt 6 rfl) (pt 17 rfl) (pt 11 rfl) (pt 12 rfl) (pt 7 rfl) (pt 18 rfl) (pt 13 rfl) (pt 8 rfl) (pt 19 rfl) (pt 9 rfl) (pt 14 rfl) (pt 15 rfl) _ _ h
theorem foot_bne {a0 : Nat} {a1 : Nat} (h : exec (.bne a0 a1) s = .next t) : Moves (· ∈ Footprint.wBne) s t :=
  execBne_moves (pt 0 rfl) (pt 1 rfl) (pt 2 rfl) (pt 3 rfl) (pt 20 rfl) (pt 21 rfl) (pt 4 rfl) (pt 5 rfl) (pt 22 rfl) (pt 16 rfl) (pt 10 rfl) (pt 6 rfl) (pt 17 rfl) (pt 11 rfl) (pt 12 rfl) (pt 7 rfl) (pt 18 rfl) (pt 13 rfl) (pt 8 rfl) (pt 19 rfl) (pt 9 rfl) (pt 14 rfl) (pt 15 rfl) _ _ h
theorem foot_blt {a0 : Nat} {a1 : Nat} (h : exec (.blt a0 a1) s = .next t) : Moves (· ∈ Footprint.wBlt) s t :=
  execBlt_moves (pt 0 rfl) (pt 1 rfl) (pt 2 rfl) (pt 3 rfl) (pt 20 rfl) (pt 21 rfl) (pt 4 rfl) (pt 5 rfl) (pt 22 rfl) (pt 16 rfl) (pt 10 rfl) (pt 6 rfl) (pt 17 rfl) (pt 11 rfl) (pt 12 rfl) (pt 7 rfl) (pt 18 rfl) (pt 13 rfl) (pt 8 rfl) (pt 19 rfl) (pt 9 rfl) (pt 14 rfl) (pt 15 rfl) _ _ h
theorem foot_bge {a0 : Nat} {a1 : Nat} (h : exec (.bge a0 a1) s = .next t) : Moves (· ∈ Footprint.wBge) s t :=
  execBge_moves (pt 0 rfl) (pt 1 rfl) (pt 2 rfl) (pt 3 rfl) (pt 20 rfl) (pt 21 rfl) (pt 4 rfl) (pt 5 rfl) (pt 22 rfl) (pt 16 rfl) (pt 10 rfl) (pt 6 rfl) (pt 17 rfl) (pt 11 rfl) (pt 12 rfl) (pt 7 rfl) (pt 18 rfl) (pt 13 rfl) (pt 8 rfl) (pt 19 rfl) (pt 9 rfl) (pt 14 rfl) (pt 15 rfl) _ _ h
theorem foot_bltu {a0 : Nat} {a1 : Nat} (h : exec (.bltu a0 a1) s = .next t) : Moves (· ∈ Footprint.wBltu) s t :=
  execBltu_moves (pt 0 rfl) (pt 1 rfl) (pt 2 rfl) (pt 3 rfl) (pt 20 rfl) (pt 21 rfl) (pt 4 rfl) (pt 5 rfl) (pt 22 rfl) (pt 16 rfl) (pt 10 rfl) (pt 6 rfl) (pt 17 rfl) (pt 11 rfl) (pt 12 rfl) (pt 7 rfl) (pt 18 rfl) (pt 13 rfl) (pt 8 rfl) (pt 19 rfl) (pt 9 rfl) (pt 14 rfl) (pt 15 rfl) _ _ h
theorem foot_bgeu {a0 : Nat} {a1 : Nat} (h : exec (.bgeu a0 a1) s = .next t) : Moves (· ∈ Footprint.wBgeu) s t :=
  execBgeu_moves (pt 0 rfl) (pt 1 rfl) (pt 2 rfl) (pt 3 rfl) (pt 20 rfl) (pt 21 rfl) (pt 4 rfl) (pt 5 rfl) (pt 22 rfl) (pt 16 rfl) (pt 10 rfl) (pt 6 rfl) (pt 17 rfl) (pt 11 rfl) (pt 12 rfl) (pt 7 rfl) (pt 18 rfl) (pt 13 rfl) (pt 8 rfl) (pt 19 rfl) (pt 9 rfl) (pt 14 rfl) (pt 15 rfl) _ _ h
theorem foot_jal {a0 : Nat} {a1 : Nat} (h : exec (.jal a0 a1) s = .next t) : Moves (· ∈ Footprint.wJal) s t :=
  execJal_moves (pt 0 rfl) (pt 1 rfl) (pt 2 rfl) (pt 3 rfl) (pt 19 rfl) (pt 20 rfl) (pt 4 rfl) (pt 5 rfl) (pt 21 rfl) (pt 15 rfl) (pt 9 rfl) (pt 6 rfl) (pt 16 rfl) (pt 10 rfl) (pt 11 rfl) (pt 17 rfl) (pt 12 rfl) (pt 7 rfl) (pt 18 rfl) (pt 8 rfl) (pt 13 rfl) (pt 14 rfl) _ _ h
theorem foot_jalr {a0 : Nat} {a1 : Nat} (h : exec (.jalr a0 a1) s = .next t) : Moves (· ∈ Footprint.wJalr) s t :=
  execJalr_moves (pt 0 rfl) (pt 1 rfl) (pt 2 rfl) (pt 3 rfl) (pt 19 rfl) (pt 20 rfl) (pt 4 rfl) (pt 5 rfl) (pt 21 rfl) (pt 15 rfl) (pt 9 rfl) (pt 6 rfl) (pt 16 rfl) (pt 10 rfl) (pt 11 rfl) (pt 17 rfl) (pt 12 rfl) (pt 7 rfl) (pt 18 rfl) (pt 8 rfl) (pt 13 rfl) (pt 14 rfl) _ _ h
theorem foot_ldw {a0 : Nat} {a1 : Nat} (h : exec (.ldw a0 a1) s = .next t) : Moves (· ∈ Footprint.wLdw) s t :=
  execLdw_moves (pt 0 rfl) (pt 1 rfl) (pt 2 rfl) (pt 3 rfl) (pt 20 rfl) (pt 21 rfl) (pt 4 rfl) (pt 5 rfl) (pt 22 rfl) (pt 16 rfl) (pt 10 rfl) (pt 6 rfl) (pt 17 rfl) (pt 11 rfl) (pt 12 rfl) (pt 7 rfl) (pt 18 rfl) (pt 13 rfl) (pt 8 rfl) (pt 19 rfl) (pt 9 rfl) (pt 14 rfl) (pt 15 rfl) _ _ h
theorem foot_stw {a0 : Nat} {a1 : Nat} (h : exec (.stw a0 a1) s = .next t) : Moves (· ∈ Footprint.wStw) s t :=
  execStw_moves (pt 0 rfl) (pt 1 rfl) (pt 2 rfl) (pt 3 rfl) (pt 21 rfl) (pt 22 rfl) (pt 4 rfl) (pt 5 rfl) (pt 23 rfl) (pt 17 rfl) (pt 11 rfl) (pt 6 rfl) (pt 18 rfl) (pt 12 rfl) (pt 13 rfl) (pt 7 rfl) (pt 8 rfl) (pt 19 rfl) (pt 14 rfl) (pt 9 rfl) (pt 20 rfl) (pt 10 rfl) (pt 15 rfl) (pt 16 rfl) _ _ h
theorem foot_lxch {a0 : Nat} {a1 : Nat} (h : exec (.lxch a0 a1) s = .next t) : Moves (· ∈ Footprint.wLxch) s t :=
  execLxch_moves (pt 0 rfl) (pt 1 rfl) (pt 2 rfl) (pt 3 rfl) (pt 21 rfl) (pt 22 rfl) (pt 4 rfl) (pt 5 rfl) (pt 23 rfl) (pt 17 rfl) (pt 11 rfl) (pt 6 rfl) (pt 18 rfl) (pt 12 rfl) (pt 13 rfl) (pt 7 rfl) (pt 8 rfl) (pt 19 rfl) (pt 14 rfl) (pt 9 rfl) (pt 20 rfl) (pt 10 rfl) (pt 15 rfl) (pt 16 rfl) _ _ h
theorem foot_ladd {a0 : Nat} {a1 : Nat} (h : exec (.ladd a0 a1) s = .next t) : Moves (· ∈ Footprint.wLadd) s t :=
  execLadd_moves (pt 0 rfl) (pt 1 rfl) (pt 2 rfl) (pt 3 rfl) (pt 21 rfl) (pt 22 rfl) (pt 4 rfl) (pt 5 rfl) (pt 23 rfl) (pt 17 rfl) (pt 11 rfl) (pt 6 rfl) (pt 18 rfl) (pt 12 rfl) (pt 13 rfl) (pt 7 rfl) (pt 8 rfl) (pt 19 rfl) (pt 14 rfl) (pt 9 rfl) (pt 20 rfl) (pt 10 rfl) (pt 15 rfl) (pt 16 rfl) _ _ h
theorem foot_rld {a0 : Nat} {a1 : Nat} (h : exec (.rld a0 a1) s = .next t) : Moves (· ∈ Footprint.wRld) s t :=
  execRld_moves (pt 35 rfl) (pt 0 rfl) (pt 1 rfl) (pt 2 rfl) (pt 37 rfl) (pt 3 rfl) (pt 4 rfl) (pt 27 rfl) (pt 28 rfl) (pt 24 rfl) (pt 38 rfl) (pt 25 rfl) (pt 33 rfl) (pt 34 rfl) (pt 5 rfl) (pt 39 rfl) (pt 36 rfl) (pt 40 rfl) (pt 6 rfl) (pt 7 rfl) (pt 26 rfl) (pt 20 rfl) (pt 14 rfl) (pt 8 rfl) (pt 21 rfl) (pt 15 rfl) (pt 16 rfl) (pt 29 rfl) (pt 9 rfl) (pt 30 rfl) (pt 10 rfl) (pt 11 rfl) (pt 31 rfl) (pt 32 rfl) (pt 22 rfl) (pt 17 rfl) (pt 12 rfl) (pt 23 rfl) (pt 13 rfl) (pt 18 rfl) (pt 19 rfl) _ _ h
theorem foot_rst {a0 : Nat} {a1 : Nat} (h : exec (.rst a0 a1) s = .next t) : Moves (· ∈ Footprint.wRst) s t :=
  execRst_moves (pt 35 rfl) (pt 0 rfl) (pt 1 rfl) (pt 2 rfl) (pt 37 rfl) (pt 3 rfl) (pt 4 rfl) (pt 27 rfl) (pt 28 rfl) (pt 24 rfl) (pt 38 rfl) (pt 25 rfl) (pt 33 rfl) (pt 34 rfl) (pt 5 rfl) (pt 39 rfl) (pt 36 rfl) (pt 40 rfl) (pt 6 rfl) (pt 7 rfl) (pt 26 rfl) (pt 20 rfl) (pt 14 rfl) (pt 8 rfl) (pt 21 rfl) (pt 15 rfl) (pt 16 rfl) (pt 29 rfl) (pt 9 rfl) (pt 30 rfl) (pt 10 rfl) (pt 11 rfl) (pt 31 rfl) (pt 32 rfl) (pt 22 rfl) (pt 17 rfl) (pt 12 rfl) (pt 23 rfl) (pt 13 rfl) (pt 18 rfl) (pt 19 rfl) _ _ h
theorem foot_dmar {a0 : Nat} {a1 : Nat} (h : exec (.dmar a0 a1) s = .next t) : Moves (· ∈ Footprint.wDmar) s t :=
  execDmar_moves (pt 35 rfl) (pt 0 rfl) (pt 1 rfl) (pt 2 rfl) (pt 37 rfl) (pt 3 rfl) (pt 4 rfl) (pt 27 rfl) (pt 28 rfl) (pt 24 rfl) (pt 38 rfl) (pt 25 rfl) (pt 33 rfl) (pt 34 rfl) (pt 5 rfl) (pt 39 rfl) (pt 36 rfl) (pt 40 rfl) (pt 6 rfl) (pt 7 rfl) (pt 26 rfl) (pt 20 rfl) (pt 14 rfl) (pt 8 rfl) (pt 21 rfl) (pt 15 rfl) (pt 16 rfl) (pt 29 rfl) (pt 9 rfl) (pt 30 rfl) (pt 10 rfl) (pt 11 rfl) (pt 31 rfl) (pt 32 rfl) (pt 22 rfl) (pt 17 rfl) (pt 12 rfl) (pt 23 rfl) (pt 13 rfl) (pt 18 rfl) (pt 19 rfl) _ _ h
theorem foot_dmaw {a0 : Nat} {a1 : Nat} (h : exec (.dmaw a0 a1) s = .next t) : Moves (· ∈ Footprint.wDmaw) s t :=
  execDmaw_moves (pt 35 rfl) (pt 0 rfl) (pt 1 rfl) (pt 2 rfl) (pt 37 rfl) (pt 3 rfl) (pt 4 rfl) (pt 27 rfl) (pt 28 rfl) (pt 24 rfl) (pt 38 rfl) (pt 25 rfl) (pt 33 rfl) (pt 34 rfl) (pt 5 rfl) (pt 39 rfl) (pt 36 rfl) (pt 40 rfl) (pt 6 rfl) (pt 7 rfl) (pt 26 rfl) (pt 20 rfl) (pt 14 rfl) (pt 8 rfl) (pt 21 rfl) (pt 15 rfl) (pt 16 rfl) (pt 29 rfl) (pt 9 rfl) (pt 30 rfl) (pt 10 rfl) (pt 11 rfl) (pt 31 rfl) (pt 32 rfl) (pt 22 rfl) (pt 17 rfl) (pt 12 rfl) (pt 23 rfl) (pt 13 rfl) (pt 18 rfl) (pt 19 rfl) _ _ h
theorem foot_qrd {a0 : Nat} {a1 : Nat} (h : exec (.qrd a0 a1) s = .next t) : Moves (· ∈ Footprint.wQrd) s t :=
  execQrd_moves (pt 35 rfl) (pt 0 rfl) (pt 1 rfl) (pt 2 rfl) (pt 37 rfl) (pt 3 rfl) (pt 4 rfl) (pt 27 rfl) (pt 28 rfl) (pt 24 rfl) (pt 38 rfl) (pt 25 rfl) (pt 33 rfl) (pt 34 rfl) (pt 5 rfl) (pt 39 rfl) (pt 36 rfl) (pt 40 rfl) (pt 6 rfl) (pt 7 rfl) (pt 26 rfl) (pt 20 rfl) (pt 14 rfl) (pt 8 rfl) (pt 21 rfl) (pt 15 rfl) (pt 16 rfl) (pt 29 rfl) (pt 9 rfl) (pt 30 rfl) (pt 10 rfl) (pt 11 rfl) (pt 31 rfl) (pt 32 rfl) (pt 22 rfl) (pt 17 rfl) (pt 12 rfl) (pt 23 rfl) (pt 13 rfl) (pt 18 rfl) (pt 19 rfl) _ _ h
theorem foot_qwr {a0 : Nat} {a1 : Nat} (h : exec (.qwr a0 a1) s = .next t) : Moves (· ∈ Footprint.wQwr) s t :=
  execQwr_moves (pt 35 rfl) (pt 0 rfl) (pt 1 rfl) (pt 2 rfl) (pt 37 rfl) (pt 3 rfl) (pt 4 rfl) (pt 27 rfl) (pt 28 rfl) (pt 24 rfl) (pt 38 rfl) (pt 25 rfl) (pt 33 rfl) (pt 34 rfl) (pt 5 rfl) (pt 39 rfl) (pt 36 rfl) (pt 40 rfl) (pt 6 rfl) (pt 7 rfl) (pt 26 rfl) (pt 20 rfl) (pt 14 rfl) (pt 8 rfl) (pt 21 rfl) (pt 15 rfl) (pt 16 rfl) (pt 29 rfl) (pt 9 rfl) (pt 30 rfl) (pt 10 rfl) (pt 11 rfl) (pt 31 rfl) (pt 32 rfl) (pt 22 rfl) (pt 17 rfl) (pt 12 rfl) (pt 23 rfl) (pt 13 rfl) (pt 18 rfl) (pt 19 rfl) _ _ h
theorem foot_aswp {a0 : Nat} {a1 : Nat} (h : exec (.aswp a0 a1) s = .next t) : Moves (· ∈ Footprint.wAswp) s t :=
  execAswp_moves (pt 35 rfl) (pt 0 rfl) (pt 1 rfl) (pt 2 rfl) (pt 37 rfl) (pt 3 rfl) (pt 4 rfl) (pt 27 rfl) (pt 28 rfl) (pt 24 rfl) (pt 38 rfl) (pt 25 rfl) (pt 33 rfl) (pt 34 rfl) (pt 5 rfl) (pt 39 rfl) (pt 36 rfl) (pt 40 rfl) (pt 6 rfl) (pt 7 rfl) (pt 26 rfl) (pt 20 rfl) (pt 14 rfl) (pt 8 rfl) (pt 21 rfl) (pt 15 rfl) (pt 16 rfl) (pt 29 rfl) (pt 9 rfl) (pt 30 rfl) (pt 10 rfl) (pt 11 rfl) (pt 31 rfl) (pt 32 rfl) (pt 22 rfl) (pt 17 rfl) (pt 12 rfl) (pt 23 rfl) (pt 13 rfl) (pt 18 rfl) (pt 19 rfl) _ _ h
theorem foot_aadd {a0 : Nat} {a1 : Nat} (h : exec (.aadd a0 a1) s = .next t) : Moves (· ∈ Footprint.wAadd) s t :=
  execAadd_moves (pt 35 rfl) (pt 0 rfl) (pt 1 rfl) (pt 2 rfl) (pt 37 rfl) (pt 3 rfl) (pt 4 rfl) (pt 27 rfl) (pt 28 rfl) (pt 24 rfl) (pt 38 rfl) (pt 25 rfl) (pt 33 rfl) (pt 34 rfl) (pt 5 rfl) (pt 39 rfl) (pt 36 rfl) (pt 40 rfl) (pt 6 rfl) (pt 7 rfl) (pt 26 rfl) (pt 20 rfl) (pt 14 rfl) (pt 8 rfl) (pt 21 rfl) (pt 15 rfl) (pt 16 rfl) (pt 29 rfl) (pt 9 rfl) (pt 30 rfl) (pt 10 rfl) (pt 11 rfl) (pt 31 rfl) (pt 32 rfl) (pt 22 rfl) (pt 17 rfl) (pt 12 rfl) (pt 23 rfl) (pt 13 rfl) (pt 18 rfl) (pt 19 rfl) _ _ h
theorem foot_aand {a0 : Nat} {a1 : Nat} (h : exec (.aand a0 a1) s = .next t) : Moves (· ∈ Footprint.wAand) s t :=
  execAand_moves (pt 35 rfl) (pt 0 rfl) (pt 1 rfl) (pt 2 rfl) (pt 37 rfl) (pt 3 rfl) (pt 4 rfl) (pt 27 rfl) (pt 28 rfl) (pt 24 rfl) (pt 38 rfl) (pt 25 rfl) (pt 33 rfl) (pt 34 rfl) (pt 5 rfl) (pt 39 rfl) (pt 36 rfl) (pt 40 rfl) (pt 6 rfl) (pt 7 rfl) (pt 26 rfl) (pt 20 rfl) (pt 14 rfl) (pt 8 rfl) (pt 21 rfl) (pt 15 rfl) (pt 16 rfl) (pt 29 rfl) (pt 9 rfl) (pt 30 rfl) (pt 10 rfl) (pt 11 rfl) (pt 31 rfl) (pt 32 rfl) (pt 22 rfl) (pt 17 rfl) (pt 12 rfl) (pt 23 rfl) (pt 13 rfl) (pt 18 rfl) (pt 19 rfl) _ _ h
theorem foot_aor {a0 : Nat} {a1 : Nat} (h : exec (.aor a0 a1) s = .next t) : Moves (· ∈ Footprint.wAor) s t :=
  execAor_moves (pt 35 rfl) (pt 0 rfl) (pt 1 rfl) (pt 2 rfl) (pt 37 rfl) (pt 3 rfl) (pt 4 rfl) (pt 27 rfl) (pt 28 rfl) (pt 24 rfl) (pt 38 rfl) (pt 25 rfl) (pt 33 rfl) (pt 34 rfl) (pt 5 rfl) (pt 39 rfl) (pt 36 rfl) (pt 40 rfl) (pt 6 rfl) (pt 7 rfl) (pt 26 rfl) (pt 20 rfl) (pt 14 rfl) (pt 8 rfl) (pt 21 rfl) (pt 15 rfl) (pt 16 rfl) (pt 29 rfl) (pt 9 rfl) (pt 30 rfl) (pt 10 rfl) (pt 11 rfl) (pt 31 rfl) (pt 32 rfl) (pt 22 rfl) (pt 17 rfl) (pt 12 rfl) (pt 23 rfl) (pt 13 rfl) (pt 18 rfl) (pt 19 rfl) _ _ h
theorem foot_acas {a0 : Nat} {a1 : Nat} (h : exec (.acas a0 a1) s = .next t) : Moves (· ∈ Footprint.wAcas) s t :=
  execAcas_moves (pt 35 rfl) (pt 0 rfl) (pt 1 rfl) (pt 2 rfl) (pt 37 rfl) (pt 3 rfl) (pt 4 rfl) (pt 27 rfl) (pt 28 rfl) (pt 24 rfl) (pt 38 rfl) (pt 25 rfl) (pt 33 rfl) (pt 34 rfl) (pt 5 rfl) (pt 39 rfl) (pt 36 rfl) (pt 40 rfl) (pt 6 rfl) (pt 7 rfl) (pt 26 rfl) (pt 20 rfl) (pt 14 rfl) (pt 8 rfl) (pt 21 rfl) (pt 15 rfl) (pt 16 rfl) (pt 29 rfl) (pt 9 rfl) (pt 30 rfl) (pt 10 rfl) (pt 11 rfl) (pt 31 rfl) (pt 32 rfl) (pt 22 rfl) (pt 17 rfl) (pt 12 rfl) (pt 23 rfl) (pt 13 rfl) (pt 18 rfl) (pt 19 rfl) _ _ h
theorem foot_wait {a0 : Nat} {a1 : Nat} (h : exec (.wait a0 a1) s = .next t) : Moves (· ∈ Footprint.wWait) s t :=
  execWait_moves (pt 0 rfl) (pt 1 rfl) (pt 2 rfl) (pt 3 rfl) (pt 21 rfl) (pt 22 rfl) (pt 24 rfl) (pt 25 rfl) (pt 4 rfl) (pt 5 rfl) (pt 23 rfl) (pt 17 rfl) (pt 11 rfl) (pt 6 rfl) (pt 18 rfl) (pt 12 rfl) (pt 13 rfl) (pt 7 rfl) (pt 8 rfl) (pt 19 rfl) (pt 14 rfl) (pt 9 rfl) (pt 20 rfl) (pt 10 rfl) (pt 15 rfl) (pt 16 rfl) _ _ h
theorem foot_fence {a0 : Nat} {a1 : Nat} (h : exec (.fence a0 a1) s = .next t) : Moves (· ∈ Footprint.wFence) s t :=
  execFence_moves (pt 0 rfl) (pt 1 rfl) (pt 2 rfl) (pt 3 rfl) (pt 20 rfl) (pt 21 rfl) (pt 4 rfl) (pt 5 rfl) (pt 22 rfl) (pt 16 rfl) (pt 10 rfl) (pt 6 rfl) (pt 17 rfl) (pt 11 rfl) (pt 12 rfl) (pt 7 rfl) (pt 18 rfl) (pt 13 rfl) (pt 8 rfl) (pt 19 rfl) (pt 9 rfl) (pt 14 rfl) (pt 15 rfl) _ _ h
theorem foot_jmark {a0 : Nat} {a1 : Nat} (h : exec (.jmark a0 a1) s = .next t) : Moves (· ∈ Footprint.wJmark) s t :=
  execJmark_moves (pt 0 rfl) (pt 1 rfl) (pt 2 rfl) (pt 3 rfl) (pt 4 rfl) (pt 26 rfl) (pt 27 rfl) (pt 23 rfl) (pt 24 rfl) (pt 5 rfl) (pt 6 rfl) (pt 25 rfl) (pt 19 rfl) (pt 13 rfl) (pt 7 rfl) (pt 20 rfl) (pt 14 rfl) (pt 15 rfl) (pt 28 rfl) (pt 8 rfl) (pt 29 rfl) (pt 9 rfl) (pt 10 rfl) (pt 30 rfl) (pt 31 rfl) (pt 21 rfl) (pt 16 rfl) (pt 11 rfl) (pt 22 rfl) (pt 12 rfl) (pt 17 rfl) (pt 18 rfl) _ _ h
theorem foot_tstat {a0 : Nat} {a1 : Nat} (h : exec (.tstat a0 a1) s = .next t) : Moves (· ∈ Footprint.wTstat) s t :=
  execTstat_moves (pt 0 rfl) (pt 1 rfl) (pt 2 rfl) (pt 3 rfl) (pt 20 rfl) (pt 21 rfl) (pt 4 rfl) (pt 5 rfl) (pt 22 rfl) (pt 16 rfl) (pt 10 rfl) (pt 6 rfl) (pt 17 rfl) (pt 11 rfl) (pt 12 rfl) (pt 7 rfl) (pt 18 rfl) (pt 13 rfl) (pt 8 rfl) (pt 19 rfl) (pt 9 rfl) (pt 14 rfl) (pt 15 rfl) _ _ h
theorem foot_trel {a0 : Nat} {a1 : Nat} (h : exec (.trel a0 a1) s = .next t) : Moves (· ∈ Footprint.wTrel) s t :=
  execTrel_moves (pt 0 rfl) (pt 1 rfl) (pt 2 rfl) (pt 3 rfl) (pt 22 rfl) (pt 23 rfl) (pt 25 rfl) (pt 26 rfl) (pt 4 rfl) (pt 5 rfl) (pt 6 rfl) (pt 24 rfl) (pt 18 rfl) (pt 12 rfl) (pt 7 rfl) (pt 19 rfl) (pt 13 rfl) (pt 14 rfl) (pt 8 rfl) (pt 9 rfl) (pt 20 rfl) (pt 15 rfl) (pt 10 rfl) (pt 21 rfl) (pt 11 rfl) (pt 16 rfl) (pt 17 rfl) _ _ h
theorem foot_halt {a0 : Nat} {a1 : Nat} (h : exec (.halt a0 a1) s = .next t) : Moves (· ∈ Footprint.wHalt) s t :=
  execHalt_moves (pt 0 rfl) (pt 1 rfl) (pt 2 rfl) (pt 3 rfl) (pt 18 rfl) (pt 19 rfl) (pt 4 rfl) (pt 20 rfl) (pt 14 rfl) (pt 8 rfl) (pt 5 rfl) (pt 15 rfl) (pt 9 rfl) (pt 10 rfl) (pt 16 rfl) (pt 11 rfl) (pt 6 rfl) (pt 17 rfl) (pt 7 rfl) (pt 12 rfl) (pt 13 rfl) _ _ h
theorem foot_yield {a0 : Nat} {a1 : Nat} (h : exec (.yield a0 a1) s = .next t) : Moves (· ∈ Footprint.wYield) s t :=
  execYield_moves (pt 0 rfl) (pt 1 rfl) (pt 2 rfl) (pt 3 rfl) (pt 20 rfl) (pt 21 rfl) (pt 4 rfl) (pt 5 rfl) (pt 22 rfl) (pt 16 rfl) (pt 10 rfl) (pt 6 rfl) (pt 17 rfl) (pt 11 rfl) (pt 12 rfl) (pt 7 rfl) (pt 18 rfl) (pt 13 rfl) (pt 8 rfl) (pt 19 rfl) (pt 9 rfl) (pt 14 rfl) (pt 15 rfl) _ _ h
theorem foot_setf {a0 : Nat} {a1 : Nat} (h : exec (.setf a0 a1) s = .next t) : Moves (· ∈ Footprint.wSetf) s t :=
  execSetf_moves (pt 0 rfl) (pt 1 rfl) (pt 2 rfl) (pt 3 rfl) (pt 4 rfl) (pt 21 rfl) (pt 22 rfl) (pt 5 rfl) (pt 6 rfl) (pt 23 rfl) (pt 17 rfl) (pt 11 rfl) (pt 7 rfl) (pt 18 rfl) (pt 12 rfl) (pt 13 rfl) (pt 8 rfl) (pt 19 rfl) (pt 14 rfl) (pt 9 rfl) (pt 20 rfl) (pt 10 rfl) (pt 15 rfl) (pt 16 rfl) _ _ h
theorem foot_clrf {a0 : Nat} {a1 : Nat} (h : exec (.clrf a0 a1) s = .next t) : Moves (· ∈ Footprint.wClrf) s t :=
  execClrf_moves (pt 0 rfl) (pt 1 rfl) (pt 2 rfl) (pt 3 rfl) (pt 4 rfl) (pt 21 rfl) (pt 22 rfl) (pt 5 rfl) (pt 6 rfl) (pt 23 rfl) (pt 17 rfl) (pt 11 rfl) (pt 7 rfl) (pt 18 rfl) (pt 12 rfl) (pt 13 rfl) (pt 8 rfl) (pt 19 rfl) (pt 14 rfl) (pt 9 rfl) (pt 20 rfl) (pt 10 rfl) (pt 15 rfl) (pt 16 rfl) _ _ h
theorem foot_drop {a0 : Nat} {a1 : Nat} (h : exec (.drop a0 a1) s = .next t) : Moves (· ∈ Footprint.wDrop) s t :=
  execDrop_moves (pt 0 rfl) (pt 1 rfl) (pt 2 rfl) (pt 3 rfl) (pt 21 rfl) (pt 22 rfl) (pt 4 rfl) (pt 5 rfl) (pt 23 rfl) (pt 6 rfl) (pt 17 rfl) (pt 11 rfl) (pt 7 rfl) (pt 18 rfl) (pt 12 rfl) (pt 13 rfl) (pt 8 rfl) (pt 19 rfl) (pt 14 rfl) (pt 9 rfl) (pt 20 rfl) (pt 10 rfl) (pt 15 rfl) (pt 16 rfl) _ _ h
theorem foot_self {a0 : Nat} {a1 : Nat} (h : exec (.self a0 a1) s = .next t) : Moves (· ∈ Footprint.wSelf) s t :=
  execSelf_moves (pt 0 rfl) (pt 1 rfl) (pt 2 rfl) (pt 3 rfl) (pt 20 rfl) (pt 21 rfl) (pt 4 rfl) (pt 5 rfl) (pt 22 rfl) (pt 16 rfl) (pt 10 rfl) (pt 6 rfl) (pt 17 rfl) (pt 11 rfl) (pt 12 rfl) (pt 7 rfl) (pt 18 rfl) (pt 13 rfl) (pt 8 rfl) (pt 19 rfl) (pt 9 rfl) (pt 14 rfl) (pt 15 rfl) _ _ h
theorem foot_tagExhaust {a0 : Nat} {a1 : Nat} (h : exec (.tagExhaust a0 a1) s = .next t) : Moves (· ∈ Footprint.wTagExhaust) s t :=
  execTagExhaust_moves (pt 0 rfl) (pt 1 rfl) (pt 2 rfl) (pt 17 rfl) (pt 18 rfl) (pt 3 rfl) (pt 19 rfl) (pt 13 rfl) (pt 7 rfl) (pt 4 rfl) (pt 14 rfl) (pt 8 rfl) (pt 9 rfl) (pt 15 rfl) (pt 10 rfl) (pt 5 rfl) (pt 16 rfl) (pt 6 rfl) (pt 11 rfl) (pt 12 rfl) _ _ h
theorem foot_opAccept {a0 : Nat} {a1 : Nat} (h : exec (.opAccept a0 a1) s = .next t) : Moves (· ∈ Footprint.wOpAccept) s t :=
  execOpAccept_moves (pt 2 rfl) (pt 0 rfl) (pt 3 rfl) (pt 1 rfl) _ _ h
theorem foot_accTmo {a0 : Nat} {a1 : Nat} (h : exec (.accTmo a0 a1) s = .next t) : Moves (· ∈ Footprint.wAccTmo) s t :=
  execAccTmo_moves (pt 22 rfl) (pt 0 rfl) (pt 1 rfl) (pt 2 rfl) (pt 24 rfl) (pt 17 rfl) (pt 25 rfl) (pt 18 rfl) (pt 20 rfl) (pt 21 rfl) (pt 23 rfl) (pt 3 rfl) (pt 19 rfl) (pt 13 rfl) (pt 7 rfl) (pt 4 rfl) (pt 14 rfl) (pt 8 rfl) (pt 9 rfl) (pt 5 rfl) (pt 6 rfl) (pt 15 rfl) (pt 10 rfl) (pt 16 rfl) (pt 11 rfl) (pt 12 rfl) _ _ h
theorem foot_waitEnd {a0 : Nat} {a1 : Nat} (h : exec (.waitEnd a0 a1) s = .next t) : Moves (· ∈ Footprint.wWaitEnd) s t :=
  execWaitEnd_moves (pt 0 rfl) (pt 1 rfl) (pt 4 rfl) (pt 5 rfl) (pt 7 rfl) (pt 8 rfl) (pt 2 rfl) (pt 6 rfl) (pt 3 rfl) _ _ h
theorem foot_waitTimeout {a0 : Nat} {a1 : Nat} (h : exec (.waitTimeout a0 a1) s = .next t) : Moves (· ∈ Footprint.wWaitTimeout) s t :=
  execWaitTimeout_moves (pt 0 rfl) (pt 1 rfl) (pt 4 rfl) (pt 5 rfl) (pt 2 rfl) (pt 6 rfl) (pt 3 rfl) _ _ h
theorem foot_threadStart {a0 : Nat} {a1 : Nat} (h : exec (.threadStart a0 a1) s = .next t) : Moves (· ∈ Footprint.wThreadStart) s t :=
  execThreadStart_moves (pt 22 rfl) (pt 0 rfl) (pt 1 rfl) (pt 19 rfl) (pt 20 rfl) (pt 24 rfl) (pt 25 rfl) (pt 2 rfl) (pt 3 rfl) (pt 4 rfl) (pt 21 rfl) (pt 23 rfl) (pt 15 rfl) (pt 9 rfl) (pt 5 rfl) (pt 16 rfl) (pt 10 rfl) (pt 11 rfl) (pt 6 rfl) (pt 7 rfl) (pt 8 rfl) (pt 17 rfl) (pt 12 rfl) (pt 18 rfl) (pt 13 rfl) (pt 14 rfl) _ _ h
theorem foot_threadStop {a0 : Nat} {a1 : Nat} (h : exec (.threadStop a0 a1) s = .next t) : Moves (· ∈ Footprint.wThreadStop) s t :=
  execThreadStop_moves (pt 16 rfl) (pt 0 rfl) (pt 1 rfl) (pt 13 rfl) (pt 14 rfl) (pt 15 rfl) (pt 17 rfl) (pt 9 rfl) (pt 3 rfl) (pt 2 rfl) (pt 10 rfl) (pt 4 rfl) (pt 5 rfl) (pt 11 rfl) (pt 6 rfl) (pt 12 rfl) (pt 7 rfl) (pt 8 rfl) _ _ h
theorem foot_engReset {a0 : Nat} (h : exec (.engReset a0) s = .next t) : Moves (· ∈ Footprint.wEngReset) s t :=
  execEngReset_moves (pt 56 rfl) (pt 46 rfl) (pt 0 rfl) (pt 1 rfl) (pt 48 rfl) (pt 49 rfl) (pt 2 rfl) (pt 3 rfl) (pt 4 rfl) (pt 5 rfl) (pt 6 rfl) (pt 58 rfl) (pt 7 rfl) (pt 8 rfl) (pt 9 rfl) (pt 10 rfl) (pt 11 rfl) (pt 12 rfl) (pt 13 rfl) (pt 14 rfl) (pt 15 rfl) (pt 16 rfl) (pt 17 rfl) (pt 18 rfl) (pt 43 rfl) (pt 59 rfl) (pt 44 rfl) (pt 50 rfl) (pt 51 rfl) (pt 57 rfl) (pt 19 rfl) (pt 20 rfl) (pt 45 rfl) (pt 21 rfl) (pt 22 rfl) (pt 23 rfl) (pt 54 rfl) (pt 55 rfl) (pt 24 rfl) (pt 52 rfl) (pt 53 rfl) (pt 47 rfl) (pt 39 rfl) (pt 33 rfl) (pt 25 rfl) (pt 40 rfl) (pt 34 rfl) (pt 35 rfl) (pt 26 rfl) (pt 27 rfl) (pt 28 rfl) (pt 29 rfl) (pt 30 rfl) (pt 41 rfl) (pt 36 rfl) (pt 42 rfl) (pt 37 rfl) (pt 38 rfl) (pt 31 rfl) (pt 32 rfl) _ h
theorem foot_spillPop (h : exec (.spillPop) s = .next t) : Moves (· ∈ Footprint.wSpillPop) s t :=
  execSpillPop_moves (pt 14 rfl) (pt 0 rfl) (pt 1 rfl) (pt 15 rfl) (pt 10 rfl) (pt 4 rfl) (pt 2 rfl) (pt 11 rfl) (pt 5 rfl) (pt 6 rfl) (pt 3 rfl) (pt 12 rfl) (pt 7 rfl) (pt 13 rfl) (pt 8 rfl) (pt 9 rfl) h
theorem foot_mbxDataWrite {a0 : Nat} {a1 : Bool} {a2 : Nat} {a3 : Nat} {a4 : Nat} (h : exec (.mbxDataWrite a0 a1 a2 a3 a4) s = .next t) : Moves (· ∈ Footprint.wMbxDataWrite) s t :=
  execMbxDataWrite_moves (pt 17 rfl) (pt 0 rfl) (pt 1 rfl) (pt 2 rfl) (pt 3 rfl) (pt 4 rfl) (pt 5 rfl) (pt 18 rfl) (pt 13 rfl) (pt 7 rfl) (pt 6 rfl) (pt 14 rfl) (pt 8 rfl) (pt 9 rfl) (pt 15 rfl) (pt 10 rfl) (pt 16 rfl) (pt 11 rfl) (pt 12 rfl) _ _ _ _ _ h
theorem foot_doorbell {a0 : Nat} {a1 : Bool} {a2 : Nat} {a3 : Nat} (h : exec (.doorbell a0 a1 a2 a3) s = .next t) : Moves (· ∈ Footprint.wDoorbell) s t :=
  execDoorbell_moves (pt 20 rfl) (pt 0 rfl) (pt 1 rfl) (pt 2 rfl) (pt 3 rfl) (pt 4 rfl) (pt 5 rfl) (pt 6 rfl) (pt 7 rfl) (pt 8 rfl) (pt 21 rfl) (pt 16 rfl) (pt 10 rfl) (pt 9 rfl) (pt 17 rfl) (pt 11 rfl) (pt 12 rfl) (pt 18 rfl) (pt 13 rfl) (pt 19 rfl) (pt 14 rfl) (pt 15 rfl) _ _ _ _ h
theorem foot_bind {a0 : Nat} {a1 : Bool} {a2 : Nat} {a3 : Nat} (h : exec (.bind a0 a1 a2 a3) s = .next t) : Moves (· ∈ Footprint.wBind) s t :=
  execBind_moves (pt 17 rfl) (pt 0 rfl) (pt 1 rfl) (pt 2 rfl) (pt 3 rfl) (pt 4 rfl) (pt 5 rfl) (pt 19 rfl) (pt 20 rfl) (pt 18 rfl) (pt 13 rfl) (pt 7 rfl) (pt 6 rfl) (pt 14 rfl) (pt 8 rfl) (pt 9 rfl) (pt 15 rfl) (pt 10 rfl) (pt 16 rfl) (pt 11 rfl) (pt 12 rfl) _ _ _ _ h
theorem foot_mbxLockRelease {a0 : Nat} {a1 : Bool} {a2 : Nat} (h : exec (.mbxLockRelease a0 a1 a2) s = .next t) : Moves (· ∈ Footprint.wMbxLockRelease) s t :=
  execMbxLockRelease_moves (pt 15 rfl) (pt 0 rfl) (pt 1 rfl) (pt 2 rfl) (pt 3 rfl) (pt 16 rfl) (pt 11 rfl) (pt 5 rfl) (pt 4 rfl) (pt 12 rfl) (pt 6 rfl) (pt 7 rfl) (pt 13 rfl) (pt 8 rfl) (pt 14 rfl) (pt 9 rfl) (pt 10 rfl) _ _ _ h
theorem foot_functionLevelReset {a0 : Nat} (h : exec (.functionLevelReset a0) s = .next t) : Moves (· ∈ Footprint.wFunctionLevelReset) s t :=
  execFunctionLevelReset_moves (pt 0 rfl) (pt 1 rfl) (pt 21 rfl) (pt 22 rfl) (pt 2 rfl) (pt 3 rfl) (pt 25 rfl) (pt 26 rfl) (pt 4 rfl) (pt 23 rfl) (pt 24 rfl) (pt 17 rfl) (pt 11 rfl) (pt 5 rfl) (pt 18 rfl) (pt 12 rfl) (pt 13 rfl) (pt 6 rfl) (pt 7 rfl) (pt 8 rfl) (pt 19 rfl) (pt 14 rfl) (pt 20 rfl) (pt 15 rfl) (pt 16 rfl) (pt 9 rfl) (pt 10 rfl) _ h
theorem foot_peerPost {a0 : Nat} {a1 : List Nat} (h : exec (.peerPost a0 a1) s = .next t) : Moves (· ∈ Footprint.wPeerPost) s t :=
  execPeerPost_moves (pt 0 rfl) (pt 1 rfl) (pt 2 rfl) (pt 3 rfl) (pt 4 rfl) (pt 5 rfl) (pt 6 rfl) (pt 7 rfl) (pt 15 rfl) (pt 9 rfl) (pt 8 rfl) (pt 16 rfl) (pt 10 rfl) (pt 11 rfl) (pt 17 rfl) (pt 12 rfl) (pt 18 rfl) (pt 13 rfl) (pt 14 rfl) _ _ h
theorem foot_cntLoWrite {a0 : Nat} {a1 : Nat} {a2 : Nat} (h : exec (.cntLoWrite a0 a1 a2) s = .next t) : Moves (· ∈ Footprint.wCntLoWrite) s t :=
  execCntLoWrite_moves (pt 13 rfl) (pt 0 rfl) (pt 1 rfl) (pt 14 rfl) (pt 9 rfl) (pt 3 rfl) (pt 2 rfl) (pt 10 rfl) (pt 4 rfl) (pt 5 rfl) (pt 11 rfl) (pt 6 rfl) (pt 12 rfl) (pt 7 rfl) (pt 8 rfl) _ _ _ h
theorem foot_cntHiWrite {a0 : Nat} {a1 : Nat} {a2 : Nat} (h : exec (.cntHiWrite a0 a1 a2) s = .next t) : Moves (· ∈ Footprint.wCntHiWrite) s t :=
  execCntHiWrite_moves (pt 14 rfl) (pt 0 rfl) (pt 1 rfl) (pt 15 rfl) (pt 10 rfl) (pt 4 rfl) (pt 2 rfl) (pt 11 rfl) (pt 5 rfl) (pt 6 rfl) (pt 12 rfl) (pt 7 rfl) (pt 13 rfl) (pt 8 rfl) (pt 3 rfl) (pt 9 rfl) _ _ _ h
theorem foot_pmcOverflow {a0 : Nat} (h : exec (.pmcOverflow a0) s = .next t) : Moves (· ∈ Footprint.wPmcOverflow) s t :=
  execPmcOverflow_moves (pt 0 rfl) (pt 1 rfl) (pt 9 rfl) (pt 3 rfl) (pt 2 rfl) (pt 10 rfl) (pt 4 rfl) (pt 5 rfl) (pt 11 rfl) (pt 6 rfl) (pt 12 rfl) (pt 7 rfl) (pt 8 rfl) _ h
theorem foot_samplePick {a0 : Nat} {a1 : Nat} {a2 : Nat} {a3 : Nat} {a4 : Nat} {a5 : Nat} {a6 : Nat} (h : exec (.samplePick a0 a1 a2 a3 a4 a5 a6) s = .next t) : Moves (· ∈ Footprint.wSamplePick) s t :=
  execSamplePick_moves (pt 0 rfl) (pt 1 rfl) (pt 2 rfl) (pt 3 rfl) (pt 4 rfl) (pt 5 rfl) _ _ _ _ _ _ _ h
theorem foot_sampleRecord {a0 : Option Nat} {a1 : Sys2Proof.Followed} (h : exec (.sampleRecord a0 a1) s = .next t) : Moves (· ∈ Footprint.wSampleRecord) s t :=
  execSampleRecord_moves (pt 0 rfl) (pt 1 rfl) (pt 4 rfl) (pt 2 rfl) (pt 5 rfl) (pt 6 rfl) (pt 3 rfl) (pt 7 rfl) (pt 8 rfl) (pt 9 rfl) _ _ h
theorem foot_smpPop (h : exec (.smpPop) s = .next t) : Moves (· ∈ Footprint.wSmpPop) s t :=
  execSmpPop_moves (pt 14 rfl) (pt 0 rfl) (pt 1 rfl) (pt 15 rfl) (pt 10 rfl) (pt 4 rfl) (pt 2 rfl) (pt 11 rfl) (pt 5 rfl) (pt 6 rfl) (pt 12 rfl) (pt 7 rfl) (pt 13 rfl) (pt 8 rfl) (pt 3 rfl) (pt 9 rfl) h
theorem foot_methodChange (h : exec (.methodChange) s = .next t) : Moves (· ∈ Footprint.wMethodChange) s t :=
  execMethodChange_moves (pt 0 rfl) (pt 1 rfl) (pt 2 rfl) h
theorem foot_hkaTimer (h : exec (.hkaTimer) s = .next t) : Moves (· ∈ Footprint.wHkaTimer) s t :=
  execHkaTimer_moves (pt 0 rfl) (pt 1 rfl) (pt 2 rfl) (pt 3 rfl) (pt 7 rfl) (pt 8 rfl) (pt 4 rfl) (pt 5 rfl) (pt 9 rfl) (pt 10 rfl) (pt 11 rfl) (pt 12 rfl) (pt 6 rfl) h
theorem foot_seqGo (h : exec (.seqGo) s = .next t) : Moves (· ∈ Footprint.wSeqGo) s t :=
  execSeqGo_moves (pt 17 rfl) (pt 0 rfl) (pt 1 rfl) (pt 2 rfl) (pt 3 rfl) (pt 4 rfl) (pt 5 rfl) (pt 18 rfl) (pt 13 rfl) (pt 7 rfl) (pt 6 rfl) (pt 14 rfl) (pt 8 rfl) (pt 9 rfl) (pt 15 rfl) (pt 10 rfl) (pt 16 rfl) (pt 11 rfl) (pt 12 rfl) h
theorem foot_delayEnd (h : exec (.delayEnd) s = .next t) : Moves (· ∈ Footprint.wDelayEnd) s t :=
  execDelayEnd_moves (pt 0 rfl) (pt 3 rfl) (pt 4 rfl) (pt 1 rfl) (pt 5 rfl) (pt 6 rfl) (pt 7 rfl) (pt 8 rfl) (pt 2 rfl) h
theorem foot_conversionEnd {a0 : Int} (h : exec (.conversionEnd a0) s = .next t) : Moves (· ∈ Footprint.wConversionEnd) s t :=
  execConversionEnd_moves (pt 51 rfl) (pt 0 rfl) (pt 61 rfl) (pt 1 rfl) (pt 62 rfl) (pt 52 rfl) (pt 71 rfl) (pt 2 rfl) (pt 3 rfl) (pt 4 rfl) (pt 53 rfl) (pt 72 rfl) (pt 5 rfl) (pt 6 rfl) (pt 73 rfl) (pt 54 rfl) (pt 55 rfl) (pt 56 rfl) (pt 7 rfl) (pt 8 rfl) (pt 9 rfl) (pt 10 rfl) (pt 11 rfl) (pt 12 rfl) (pt 13 rfl) (pt 14 rfl) (pt 15 rfl) (pt 16 rfl) (pt 17 rfl) (pt 41 rfl) (pt 42 rfl) (pt 18 rfl) (pt 19 rfl) (pt 20 rfl) (pt 68 rfl) (pt 69 rfl) (pt 21 rfl) (pt 22 rfl) (pt 23 rfl) (pt 47 rfl) (pt 24 rfl) (pt 48 rfl) (pt 25 rfl) (pt 63 rfl) (pt 26 rfl) (pt 64 rfl) (pt 65 rfl) (pt 57 rfl) (pt 27 rfl) (pt 74 rfl) (pt 28 rfl) (pt 58 rfl) (pt 29 rfl) (pt 30 rfl) (pt 31 rfl) (pt 59 rfl) (pt 60 rfl) (pt 32 rfl) (pt 33 rfl) (pt 34 rfl) (pt 43 rfl) (pt 35 rfl) (pt 44 rfl) (pt 36 rfl) (pt 37 rfl) (pt 45 rfl) (pt 38 rfl) (pt 39 rfl) (pt 46 rfl) (pt 40 rfl) (pt 70 rfl) (pt 49 rfl) (pt 50 rfl) (pt 66 rfl) (pt 67 rfl) _ h
theorem foot_injGo (h : exec (.injGo) s = .next t) : Moves (· ∈ Footprint.wInjGo) s t :=
  execInjGo_moves (pt 16 rfl) (pt 0 rfl) (pt 1 rfl) (pt 2 rfl) (pt 18 rfl) (pt 19 rfl) (pt 3 rfl) (pt 17 rfl) (pt 12 rfl) (pt 6 rfl) (pt 4 rfl) (pt 13 rfl) (pt 7 rfl) (pt 8 rfl) (pt 20 rfl) (pt 21 rfl) (pt 22 rfl) (pt 23 rfl) (pt 5 rfl) (pt 14 rfl) (pt 9 rfl) (pt 15 rfl) (pt 10 rfl) (pt 11 rfl) h
theorem foot_backgroundScan (h : exec (.backgroundScan) s = .next t) : Moves (· ∈ Footprint.wBackgroundScan) s t :=
  execBackgroundScan_moves (pt 0 rfl) (pt 5 rfl) (pt 6 rfl) (pt 1 rfl) (pt 7 rfl) (pt 8 rfl) (pt 9 rfl) (pt 2 rfl) (pt 3 rfl) (pt 10 rfl) (pt 4 rfl) h
theorem foot_hkaCalDone {a0 : Int} (h : exec (.hkaCalDone a0) s = .next t) : Moves (· ∈ Footprint.wHkaCalDone) s t :=
  execHkaCalDone_moves (pt 0 rfl) (pt 1 rfl) (pt 2 rfl) (pt 7 rfl) (pt 8 rfl) (pt 3 rfl) (pt 4 rfl) (pt 5 rfl) (pt 9 rfl) (pt 10 rfl) (pt 11 rfl) (pt 12 rfl) (pt 6 rfl) _ h
theorem foot_pwmPeriodStart {a0 : Nat} (h : exec (.pwmPeriodStart a0) s = .next t) : Moves (· ∈ Footprint.wPwmPeriodStart) s t :=
  execPwmPeriodStart_moves (pt 0 rfl) (pt 1 rfl) (pt 2 rfl) (pt 3 rfl) (pt 13 rfl) (pt 14 rfl) (pt 4 rfl) (pt 5 rfl) (pt 15 rfl) (pt 16 rfl) (pt 6 rfl) (pt 7 rfl) (pt 8 rfl) (pt 9 rfl) (pt 10 rfl) (pt 11 rfl) (pt 17 rfl) (pt 18 rfl) (pt 12 rfl) _ h
theorem foot_pwmCompare {a0 : Nat} (h : exec (.pwmCompare a0) s = .next t) : Moves (· ∈ Footprint.wPwmCompare) s t :=
  execPwmCompare_moves (pt 0 rfl) (pt 1 rfl) (pt 2 rfl) (pt 3 rfl) (pt 8 rfl) (pt 9 rfl) (pt 4 rfl) (pt 5 rfl) (pt 10 rfl) (pt 11 rfl) (pt 6 rfl) (pt 12 rfl) (pt 13 rfl) (pt 7 rfl) _ h
theorem foot_fltSample {a0 : Nat} {a1 : Nat} (h : exec (.fltSample a0 a1) s = .next t) : Moves (· ∈ Footprint.wFltSample) s t :=
  execFltSample_moves (pt 19 rfl) (pt 0 rfl) (pt 20 rfl) (pt 32 rfl) (pt 1 rfl) (pt 2 rfl) (pt 3 rfl) (pt 21 rfl) (pt 33 rfl) (pt 4 rfl) (pt 5 rfl) (pt 34 rfl) (pt 22 rfl) (pt 23 rfl) (pt 24 rfl) (pt 6 rfl) (pt 7 rfl) (pt 29 rfl) (pt 30 rfl) (pt 8 rfl) (pt 9 rfl) (pt 10 rfl) (pt 25 rfl) (pt 11 rfl) (pt 35 rfl) (pt 12 rfl) (pt 26 rfl) (pt 13 rfl) (pt 14 rfl) (pt 15 rfl) (pt 27 rfl) (pt 28 rfl) (pt 16 rfl) (pt 17 rfl) (pt 18 rfl) (pt 31 rfl) _ _ h
theorem foot_fltOutput {a0 : Nat} (h : exec (.fltOutput a0) s = .next t) : Moves (· ∈ Footprint.wFltOutput) s t :=
  execFltOutput_moves (pt 14 rfl) (pt 0 rfl) (pt 15 rfl) (pt 27 rfl) (pt 1 rfl) (pt 2 rfl) (pt 3 rfl) (pt 16 rfl) (pt 28 rfl) (pt 4 rfl) (pt 5 rfl) (pt 29 rfl) (pt 17 rfl) (pt 18 rfl) (pt 19 rfl) (pt 6 rfl) (pt 7 rfl) (pt 24 rfl) (pt 25 rfl) (pt 8 rfl) (pt 9 rfl) (pt 10 rfl) (pt 20 rfl) (pt 30 rfl) (pt 11 rfl) (pt 21 rfl) (pt 22 rfl) (pt 23 rfl) (pt 12 rfl) (pt 13 rfl) (pt 26 rfl) _ h
theorem foot_fltValid {a0 : Nat} (h : exec (.fltValid a0) s = .next t) : Moves (· ∈ Footprint.wFltValid) s t :=
  execFltValid_moves (pt 0 rfl) (pt 1 rfl) _ h
theorem foot_firSwap {a0 : Nat} (h : exec (.firSwap a0) s = .next t) : Moves (· ∈ Footprint.wFirSwap) s t :=
  execFirSwap_moves (pt 16 rfl) (pt 0 rfl) (pt 1 rfl) (pt 2 rfl) (pt 17 rfl) (pt 12 rfl) (pt 6 rfl) (pt 3 rfl) (pt 13 rfl) (pt 7 rfl) (pt 8 rfl) (pt 4 rfl) (pt 5 rfl) (pt 14 rfl) (pt 9 rfl) (pt 15 rfl) (pt 10 rfl) (pt 11 rfl) _ h
theorem foot_firFadeDone {a0 : Nat} (h : exec (.firFadeDone a0) s = .next t) : Moves (· ∈ Footprint.wFirFadeDone) s t :=
  execFirFadeDone_moves (pt 0 rfl) (pt 6 rfl) (pt 1 rfl) (pt 2 rfl) (pt 7 rfl) (pt 8 rfl) (pt 9 rfl) (pt 3 rfl) (pt 4 rfl) (pt 5 rfl) _ h
theorem foot_fltCfgWrite {a0 : Nat} {a1 : Nat} (h : exec (.fltCfgWrite a0 a1) s = .next t) : Moves (· ∈ Footprint.wFltCfgWrite) s t :=
  execFltCfgWrite_moves (pt 30 rfl) (pt 28 rfl) (pt 0 rfl) (pt 1 rfl) (pt 2 rfl) (pt 3 rfl) (pt 4 rfl) (pt 5 rfl) (pt 6 rfl) (pt 7 rfl) (pt 8 rfl) (pt 9 rfl) (pt 31 rfl) (pt 10 rfl) (pt 11 rfl) (pt 12 rfl) (pt 32 rfl) (pt 33 rfl) (pt 34 rfl) (pt 35 rfl) (pt 29 rfl) (pt 24 rfl) (pt 18 rfl) (pt 13 rfl) (pt 25 rfl) (pt 19 rfl) (pt 20 rfl) (pt 36 rfl) (pt 37 rfl) (pt 14 rfl) (pt 15 rfl) (pt 38 rfl) (pt 39 rfl) (pt 16 rfl) (pt 17 rfl) (pt 26 rfl) (pt 21 rfl) (pt 27 rfl) (pt 22 rfl) (pt 23 rfl) _ _ h
theorem foot_fltPreset {a0 : Nat} {a1 : Nat} (h : exec (.fltPreset a0 a1) s = .next t) : Moves (· ∈ Footprint.wFltPreset) s t :=
  execFltPreset_moves (pt 28 rfl) (pt 26 rfl) (pt 0 rfl) (pt 1 rfl) (pt 2 rfl) (pt 3 rfl) (pt 4 rfl) (pt 5 rfl) (pt 6 rfl) (pt 29 rfl) (pt 7 rfl) (pt 8 rfl) (pt 9 rfl) (pt 30 rfl) (pt 31 rfl) (pt 32 rfl) (pt 33 rfl) (pt 27 rfl) (pt 22 rfl) (pt 16 rfl) (pt 10 rfl) (pt 23 rfl) (pt 17 rfl) (pt 18 rfl) (pt 34 rfl) (pt 35 rfl) (pt 11 rfl) (pt 12 rfl) (pt 36 rfl) (pt 37 rfl) (pt 13 rfl) (pt 14 rfl) (pt 15 rfl) (pt 24 rfl) (pt 19 rfl) (pt 25 rfl) (pt 20 rfl) (pt 21 rfl) _ _ h
theorem foot_biasLoopEnable {a0 : Nat} {a1 : Nat} (h : exec (.biasLoopEnable a0 a1) s = .next t) : Moves (· ∈ Footprint.wBiasLoopEnable) s t :=
  execBiasLoopEnable_moves (pt 23 rfl) (pt 0 rfl) (pt 1 rfl) (pt 2 rfl) (pt 3 rfl) (pt 4 rfl) (pt 5 rfl) (pt 6 rfl) (pt 7 rfl) (pt 8 rfl) (pt 9 rfl) (pt 10 rfl) (pt 11 rfl) (pt 24 rfl) (pt 19 rfl) (pt 13 rfl) (pt 12 rfl) (pt 20 rfl) (pt 14 rfl) (pt 15 rfl) (pt 21 rfl) (pt 16 rfl) (pt 22 rfl) (pt 17 rfl) (pt 18 rfl) _ _ h
theorem foot_serCmd {a0 : Nat} {a1 : Nat} (h : exec (.serCmd a0 a1) s = .next t) : Moves (· ∈ Footprint.wSerCmd) s t :=
  execSerCmd_moves (pt 15 rfl) (pt 0 rfl) (pt 1 rfl) (pt 2 rfl) (pt 17 rfl) (pt 16 rfl) (pt 11 rfl) (pt 5 rfl) (pt 3 rfl) (pt 12 rfl) (pt 6 rfl) (pt 7 rfl) (pt 18 rfl) (pt 19 rfl) (pt 20 rfl) (pt 21 rfl) (pt 4 rfl) (pt 13 rfl) (pt 8 rfl) (pt 14 rfl) (pt 9 rfl) (pt 10 rfl) _ _ h
theorem foot_serResponse {a0 : Nat} {a1 : Nat} (h : exec (.serResponse a0 a1) s = .next t) : Moves (· ∈ Footprint.wSerResponse) s t :=
  execSerResponse_moves (pt 0 rfl) (pt 1 rfl) (pt 2 rfl) (pt 3 rfl) (pt 7 rfl) (pt 8 rfl) (pt 9 rfl) (pt 4 rfl) (pt 10 rfl) (pt 11 rfl) (pt 5 rfl) (pt 6 rfl) _ _ h
theorem foot_serPoll {a0 : Nat} {a1 : Bool} (h : exec (.serPoll a0 a1) s = .next t) : Moves (· ∈ Footprint.wSerPoll) s t :=
  execSerPoll_moves (pt 0 rfl) (pt 1 rfl) (pt 2 rfl) (pt 6 rfl) (pt 7 rfl) (pt 8 rfl) (pt 3 rfl) (pt 9 rfl) (pt 10 rfl) (pt 4 rfl) (pt 5 rfl) _ _ h
theorem foot_serTimeout {a0 : Nat} (h : exec (.serTimeout a0) s = .next t) : Moves (· ∈ Footprint.wSerTimeout) s t :=
  execSerTimeout_moves (pt 0 rfl) (pt 1 rfl) (pt 2 rfl) (pt 6 rfl) (pt 7 rfl) (pt 8 rfl) (pt 3 rfl) (pt 9 rfl) (pt 10 rfl) (pt 4 rfl) (pt 5 rfl) _ h
theorem foot_ftOutWrite {a0 : Nat} {a1 : Nat} (h : exec (.ftOutWrite a0 a1) s = .next t) : Moves (· ∈ Footprint.wFtOutWrite) s t :=
  execFtOutWrite_moves (pt 15 rfl) (pt 0 rfl) (pt 1 rfl) (pt 2 rfl) (pt 17 rfl) (pt 18 rfl) (pt 3 rfl) (pt 16 rfl) (pt 11 rfl) (pt 5 rfl) (pt 4 rfl) (pt 12 rfl) (pt 6 rfl) (pt 7 rfl) (pt 19 rfl) (pt 13 rfl) (pt 8 rfl) (pt 14 rfl) (pt 9 rfl) (pt 10 rfl) _ _ h
theorem foot_gainKhzWrite {a0 : Nat} {a1 : Nat} (h : exec (.gainKhzWrite a0 a1) s = .next t) : Moves (· ∈ Footprint.wGainKhzWrite) s t :=
  execGainKhzWrite_moves (pt 16 rfl) (pt 0 rfl) (pt 1 rfl) (pt 2 rfl) (pt 3 rfl) (pt 18 rfl) (pt 19 rfl) (pt 4 rfl) (pt 17 rfl) (pt 12 rfl) (pt 6 rfl) (pt 5 rfl) (pt 13 rfl) (pt 7 rfl) (pt 8 rfl) (pt 20 rfl) (pt 14 rfl) (pt 9 rfl) (pt 15 rfl) (pt 10 rfl) (pt 11 rfl) _ _ h
theorem foot_goFull (h : exec (.goFull) s = .next t) : Moves (· ∈ Footprint.wGoFull) s t :=
  execGoFull_moves (pt 18 rfl) (pt 0 rfl) (pt 1 rfl) (pt 26 rfl) (pt 2 rfl) (pt 3 rfl) (pt 27 rfl) (pt 20 rfl) (pt 21 rfl) (pt 4 rfl) (pt 19 rfl) (pt 14 rfl) (pt 8 rfl) (pt 5 rfl) (pt 15 rfl) (pt 9 rfl) (pt 10 rfl) (pt 28 rfl) (pt 6 rfl) (pt 29 rfl) (pt 30 rfl) (pt 22 rfl) (pt 23 rfl) (pt 24 rfl) (pt 25 rfl) (pt 7 rfl) (pt 16 rfl) (pt 11 rfl) (pt 17 rfl) (pt 12 rfl) (pt 13 rfl) h
theorem foot_goTrack (h : exec (.goTrack) s = .next t) : Moves (· ∈ Footprint.wGoTrack) s t :=
  execGoTrack_moves (pt 18 rfl) (pt 0 rfl) (pt 1 rfl) (pt 26 rfl) (pt 2 rfl) (pt 3 rfl) (pt 27 rfl) (pt 20 rfl) (pt 21 rfl) (pt 4 rfl) (pt 19 rfl) (pt 14 rfl) (pt 8 rfl) (pt 5 rfl) (pt 15 rfl) (pt 9 rfl) (pt 10 rfl) (pt 28 rfl) (pt 6 rfl) (pt 29 rfl) (pt 30 rfl) (pt 22 rfl) (pt 23 rfl) (pt 24 rfl) (pt 25 rfl) (pt 7 rfl) (pt 16 rfl) (pt 11 rfl) (pt 17 rfl) (pt 12 rfl) (pt 13 rfl) h
theorem foot_calRetryExpiry (h : exec (.calRetryExpiry) s = .next t) : Moves (· ∈ Footprint.wCalRetryExpiry) s t :=
  execCalRetryExpiry_moves (pt 0 rfl) (pt 1 rfl) h
theorem foot_calAbort (h : exec (.calAbort) s = .next t) : Moves (· ∈ Footprint.wCalAbort) s t :=
  execCalAbort_moves (pt 19 rfl) (pt 0 rfl) (pt 1 rfl) (pt 2 rfl) (pt 3 rfl) (pt 21 rfl) (pt 22 rfl) (pt 4 rfl) (pt 20 rfl) (pt 15 rfl) (pt 9 rfl) (pt 5 rfl) (pt 16 rfl) (pt 10 rfl) (pt 11 rfl) (pt 6 rfl) (pt 7 rfl) (pt 23 rfl) (pt 24 rfl) (pt 25 rfl) (pt 26 rfl) (pt 8 rfl) (pt 17 rfl) (pt 12 rfl) (pt 18 rfl) (pt 13 rfl) (pt 14 rfl) h
theorem foot_sineCheck {a0 : Nat} (h : exec (.sineCheck a0) s = .next t) : Moves (· ∈ Footprint.wSineCheck) s t :=
  execSineCheck_moves (pt 0 rfl) (pt 1 rfl) (pt 2 rfl) (pt 7 rfl) (pt 8 rfl) (pt 3 rfl) (pt 4 rfl) (pt 5 rfl) (pt 9 rfl) (pt 10 rfl) (pt 11 rfl) (pt 12 rfl) (pt 6 rfl) _ h
theorem foot_calPassEnd (h : exec (.calPassEnd) s = .next t) : Moves (· ∈ Footprint.wCalPassEnd) s t :=
  execCalPassEnd_moves (pt 0 rfl) (pt 1 rfl) (pt 2 rfl) h
theorem foot_calRunEnd {a0 : List (List Sys2Proof.SubSlice)} {a1 : List Sys2Proof.DacLane} (h : exec (.calRunEnd a0 a1) s = .next t) : Moves (· ∈ Footprint.wCalRunEnd) s t :=
  execCalRunEnd_moves (pt 0 rfl) (pt 1 rfl) (pt 2 rfl) (pt 3 rfl) (pt 4 rfl) (pt 5 rfl) (pt 6 rfl) (pt 7 rfl) (pt 8 rfl) (pt 9 rfl) (pt 10 rfl) (pt 11 rfl) (pt 12 rfl) (pt 13 rfl) (pt 14 rfl) (pt 15 rfl) (pt 16 rfl) (pt 17 rfl) (pt 18 rfl) (pt 19 rfl) (pt 20 rfl) (pt 21 rfl) (pt 22 rfl) (pt 23 rfl) (pt 24 rfl) (pt 25 rfl) (pt 26 rfl) (pt 27 rfl) (pt 36 rfl) (pt 37 rfl) (pt 28 rfl) (pt 29 rfl) (pt 30 rfl) (pt 31 rfl) (pt 32 rfl) (pt 33 rfl) (pt 34 rfl) (pt 38 rfl) (pt 39 rfl) (pt 40 rfl) (pt 41 rfl) (pt 35 rfl) _ _ h
theorem foot_calFlashDone {a0 : Bool} (h : exec (.calFlashDone a0) s = .next t) : Moves (· ∈ Footprint.wCalFlashDone) s t :=
  execCalFlashDone_moves (pt 0 rfl) (pt 1 rfl) (pt 2 rfl) (pt 3 rfl) (pt 4 rfl) (pt 5 rfl) _ h
theorem foot_bistGo {a0 : Nat} (h : exec (.bistGo a0) s = .next t) : Moves (· ∈ Footprint.wBistGo) s t :=
  execBistGo_moves (pt 28 rfl) (pt 0 rfl) (pt 1 rfl) (pt 2 rfl) (pt 3 rfl) (pt 43 rfl) (pt 4 rfl) (pt 5 rfl) (pt 44 rfl) (pt 45 rfl) (pt 6 rfl) (pt 7 rfl) (pt 36 rfl) (pt 8 rfl) (pt 37 rfl) (pt 30 rfl) (pt 31 rfl) (pt 9 rfl) (pt 41 rfl) (pt 42 rfl) (pt 10 rfl) (pt 29 rfl) (pt 24 rfl) (pt 18 rfl) (pt 11 rfl) (pt 25 rfl) (pt 19 rfl) (pt 20 rfl) (pt 46 rfl) (pt 12 rfl) (pt 13 rfl) (pt 38 rfl) (pt 14 rfl) (pt 39 rfl) (pt 40 rfl) (pt 15 rfl) (pt 47 rfl) (pt 32 rfl) (pt 33 rfl) (pt 34 rfl) (pt 35 rfl) (pt 16 rfl) (pt 17 rfl) (pt 26 rfl) (pt 21 rfl) (pt 27 rfl) (pt 22 rfl) (pt 23 rfl) _ h
theorem foot_bistAbort (h : exec (.bistAbort) s = .next t) : Moves (· ∈ Footprint.wBistAbort) s t :=
  execBistAbort_moves (pt 33 rfl) (pt 0 rfl) (pt 1 rfl) (pt 48 rfl) (pt 49 rfl) (pt 50 rfl) (pt 43 rfl) (pt 2 rfl) (pt 44 rfl) (pt 30 rfl) (pt 31 rfl) (pt 41 rfl) (pt 42 rfl) (pt 3 rfl) (pt 4 rfl) (pt 5 rfl) (pt 32 rfl) (pt 35 rfl) (pt 36 rfl) (pt 6 rfl) (pt 34 rfl) (pt 26 rfl) (pt 20 rfl) (pt 7 rfl) (pt 27 rfl) (pt 21 rfl) (pt 22 rfl) (pt 8 rfl) (pt 9 rfl) (pt 10 rfl) (pt 11 rfl) (pt 12 rfl) (pt 51 rfl) (pt 13 rfl) (pt 14 rfl) (pt 45 rfl) (pt 15 rfl) (pt 46 rfl) (pt 47 rfl) (pt 16 rfl) (pt 52 rfl) (pt 17 rfl) (pt 18 rfl) (pt 37 rfl) (pt 38 rfl) (pt 39 rfl) (pt 40 rfl) (pt 19 rfl) (pt 28 rfl) (pt 23 rfl) (pt 29 rfl) (pt 24 rfl) (pt 25 rfl) h
theorem foot_sliceEnd {a0 : Nat} {a1 : Nat} {a2 : Nat} (h : exec (.sliceEnd a0 a1 a2) s = .next t) : Moves (· ∈ Footprint.wSliceEnd) s t :=
  execSliceEnd_moves (pt 0 rfl) (pt 1 rfl) (pt 47 rfl) (pt 2 rfl) (pt 3 rfl) (pt 4 rfl) (pt 5 rfl) (pt 6 rfl) (pt 48 rfl) (pt 49 rfl) (pt 7 rfl) (pt 8 rfl) (pt 9 rfl) (pt 40 rfl) (pt 10 rfl) (pt 41 rfl) (pt 29 rfl) (pt 30 rfl) (pt 38 rfl) (pt 39 rfl) (pt 11 rfl) (pt 12 rfl) (pt 13 rfl) (pt 31 rfl) (pt 32 rfl) (pt 33 rfl) (pt 14 rfl) (pt 45 rfl) (pt 46 rfl) (pt 15 rfl) (pt 16 rfl) (pt 17 rfl) (pt 18 rfl) (pt 19 rfl) (pt 20 rfl) (pt 50 rfl) (pt 21 rfl) (pt 22 rfl) (pt 42 rfl) (pt 23 rfl) (pt 43 rfl) (pt 44 rfl) (pt 24 rfl) (pt 51 rfl) (pt 25 rfl) (pt 26 rfl) (pt 34 rfl) (pt 35 rfl) (pt 36 rfl) (pt 37 rfl) (pt 27 rfl) (pt 28 rfl) _ _ _ h
theorem foot_sliceTimeout (h : exec (.sliceTimeout) s = .next t) : Moves (· ∈ Footprint.wSliceTimeout) s t :=
  execSliceTimeout_moves (pt 0 rfl) (pt 1 rfl) (pt 47 rfl) (pt 2 rfl) (pt 3 rfl) (pt 4 rfl) (pt 5 rfl) (pt 6 rfl) (pt 48 rfl) (pt 49 rfl) (pt 7 rfl) (pt 8 rfl) (pt 9 rfl) (pt 40 rfl) (pt 10 rfl) (pt 41 rfl) (pt 29 rfl) (pt 30 rfl) (pt 38 rfl) (pt 39 rfl) (pt 11 rfl) (pt 12 rfl) (pt 13 rfl) (pt 31 rfl) (pt 32 rfl) (pt 33 rfl) (pt 14 rfl) (pt 45 rfl) (pt 46 rfl) (pt 15 rfl) (pt 16 rfl) (pt 17 rfl) (pt 18 rfl) (pt 19 rfl) (pt 20 rfl) (pt 50 rfl) (pt 21 rfl) (pt 22 rfl) (pt 42 rfl) (pt 23 rfl) (pt 43 rfl) (pt 44 rfl) (pt 24 rfl) (pt 51 rfl) (pt 25 rfl) (pt 26 rfl) (pt 34 rfl) (pt 35 rfl) (pt 36 rfl) (pt 37 rfl) (pt 27 rfl) (pt 28 rfl) h
theorem foot_override {a0 : Nat} (h : exec (.override a0) s = .next t) : Moves (· ∈ Footprint.wOverride) s t :=
  execOverride_moves (pt 18 rfl) (pt 0 rfl) (pt 1 rfl) (pt 2 rfl) (pt 3 rfl) (pt 4 rfl) (pt 20 rfl) (pt 21 rfl) (pt 5 rfl) (pt 19 rfl) (pt 14 rfl) (pt 8 rfl) (pt 6 rfl) (pt 15 rfl) (pt 9 rfl) (pt 10 rfl) (pt 7 rfl) (pt 16 rfl) (pt 11 rfl) (pt 17 rfl) (pt 12 rfl) (pt 13 rfl) _ h
theorem foot_lcmTransition {a0 : Nat} {a1 : Nat} (h : exec (.lcmTransition a0 a1) s = .next t) : Moves (· ∈ Footprint.wLcmTransition) s t :=
  execLcmTransition_moves (pt 19 rfl) (pt 0 rfl) (pt 1 rfl) (pt 2 rfl) (pt 3 rfl) (pt 4 rfl) (pt 5 rfl) (pt 20 rfl) (pt 15 rfl) (pt 9 rfl) (pt 6 rfl) (pt 16 rfl) (pt 10 rfl) (pt 11 rfl) (pt 7 rfl) (pt 8 rfl) (pt 17 rfl) (pt 12 rfl) (pt 18 rfl) (pt 13 rfl) (pt 14 rfl) _ _ h
theorem foot_keyCommit {a0 : Nat} (h : exec (.keyCommit a0) s = .next t) : Moves (· ∈ Footprint.wKeyCommit) s t :=
  execKeyCommit_moves (pt 19 rfl) (pt 0 rfl) (pt 1 rfl) (pt 2 rfl) (pt 3 rfl) (pt 4 rfl) (pt 5 rfl) (pt 6 rfl) (pt 20 rfl) (pt 15 rfl) (pt 9 rfl) (pt 7 rfl) (pt 16 rfl) (pt 10 rfl) (pt 11 rfl) (pt 8 rfl) (pt 17 rfl) (pt 12 rfl) (pt 18 rfl) (pt 13 rfl) (pt 14 rfl) _ h
theorem foot_keyRevoke {a0 : Nat} (h : exec (.keyRevoke a0) s = .next t) : Moves (· ∈ Footprint.wKeyRevoke) s t :=
  execKeyRevoke_moves (pt 19 rfl) (pt 0 rfl) (pt 1 rfl) (pt 2 rfl) (pt 3 rfl) (pt 4 rfl) (pt 5 rfl) (pt 6 rfl) (pt 20 rfl) (pt 15 rfl) (pt 9 rfl) (pt 7 rfl) (pt 16 rfl) (pt 10 rfl) (pt 11 rfl) (pt 8 rfl) (pt 17 rfl) (pt 12 rfl) (pt 18 rfl) (pt 13 rfl) (pt 14 rfl) _ h
theorem foot_peerEnable (h : exec (.peerEnable) s = .next t) : Moves (· ∈ Footprint.wPeerEnable) s t :=
  execPeerEnable_moves (pt 16 rfl) (pt 0 rfl) (pt 1 rfl) (pt 24 rfl) (pt 25 rfl) (pt 18 rfl) (pt 2 rfl) (pt 3 rfl) (pt 17 rfl) (pt 20 rfl) (pt 21 rfl) (pt 22 rfl) (pt 12 rfl) (pt 6 rfl) (pt 4 rfl) (pt 13 rfl) (pt 7 rfl) (pt 8 rfl) (pt 5 rfl) (pt 23 rfl) (pt 19 rfl) (pt 14 rfl) (pt 9 rfl) (pt 15 rfl) (pt 10 rfl) (pt 11 rfl) h
theorem foot_peerDisable (h : exec (.peerDisable) s = .next t) : Moves (· ∈ Footprint.wPeerDisable) s t :=
  execPeerDisable_moves (pt 24 rfl) (pt 0 rfl) (pt 1 rfl) (pt 39 rfl) (pt 40 rfl) (pt 2 rfl) (pt 3 rfl) (pt 43 rfl) (pt 44 rfl) (pt 33 rfl) (pt 4 rfl) (pt 45 rfl) (pt 46 rfl) (pt 5 rfl) (pt 41 rfl) (pt 42 rfl) (pt 6 rfl) (pt 7 rfl) (pt 25 rfl) (pt 35 rfl) (pt 8 rfl) (pt 9 rfl) (pt 36 rfl) (pt 37 rfl) (pt 20 rfl) (pt 14 rfl) (pt 10 rfl) (pt 21 rfl) (pt 15 rfl) (pt 16 rfl) (pt 26 rfl) (pt 27 rfl) (pt 28 rfl) (pt 29 rfl) (pt 30 rfl) (pt 11 rfl) (pt 38 rfl) (pt 34 rfl) (pt 12 rfl) (pt 22 rfl) (pt 17 rfl) (pt 23 rfl) (pt 18 rfl) (pt 19 rfl) (pt 31 rfl) (pt 32 rfl) (pt 13 rfl) h
theorem foot_peerLinkUp {a0 : Sys2Proof.Hello} (h : exec (.peerLinkUp a0) s = .next t) : Moves (· ∈ Footprint.wPeerLinkUp) s t :=
  execPeerLinkUp_moves (pt 0 rfl) (pt 25 rfl) (pt 26 rfl) (pt 19 rfl) (pt 1 rfl) (pt 2 rfl) (pt 3 rfl) (pt 4 rfl) (pt 5 rfl) (pt 21 rfl) (pt 6 rfl) (pt 7 rfl) (pt 8 rfl) (pt 22 rfl) (pt 23 rfl) (pt 12 rfl) (pt 13 rfl) (pt 14 rfl) (pt 15 rfl) (pt 16 rfl) (pt 9 rfl) (pt 24 rfl) (pt 20 rfl) (pt 10 rfl) (pt 17 rfl) (pt 18 rfl) (pt 11 rfl) _ h
theorem foot_peerLinkFail {a0 : Nat} {a1 : Nat} (h : exec (.peerLinkFail a0 a1) s = .next t) : Moves (· ∈ Footprint.wPeerLinkFail) s t :=
  execPeerLinkFail_moves (pt 0 rfl) (pt 1 rfl) (pt 35 rfl) (pt 36 rfl) (pt 2 rfl) (pt 3 rfl) (pt 39 rfl) (pt 40 rfl) (pt 29 rfl) (pt 4 rfl) (pt 41 rfl) (pt 42 rfl) (pt 5 rfl) (pt 37 rfl) (pt 38 rfl) (pt 6 rfl) (pt 31 rfl) (pt 7 rfl) (pt 8 rfl) (pt 32 rfl) (pt 33 rfl) (pt 18 rfl) (pt 12 rfl) (pt 9 rfl) (pt 19 rfl) (pt 13 rfl) (pt 14 rfl) (pt 22 rfl) (pt 23 rfl) (pt 24 rfl) (pt 25 rfl) (pt 26 rfl) (pt 10 rfl) (pt 34 rfl) (pt 30 rfl) (pt 20 rfl) (pt 15 rfl) (pt 21 rfl) (pt 16 rfl) (pt 17 rfl) (pt 27 rfl) (pt 28 rfl) (pt 11 rfl) _ _ h
theorem foot_heartbeatTmo (h : exec (.heartbeatTmo) s = .next t) : Moves (· ∈ Footprint.wHeartbeatTmo) s t :=
  execHeartbeatTmo_moves (pt 0 rfl) (pt 1 rfl) (pt 34 rfl) (pt 35 rfl) (pt 2 rfl) (pt 3 rfl) (pt 38 rfl) (pt 39 rfl) (pt 28 rfl) (pt 4 rfl) (pt 40 rfl) (pt 41 rfl) (pt 5 rfl) (pt 36 rfl) (pt 37 rfl) (pt 6 rfl) (pt 30 rfl) (pt 7 rfl) (pt 31 rfl) (pt 32 rfl) (pt 17 rfl) (pt 11 rfl) (pt 8 rfl) (pt 18 rfl) (pt 12 rfl) (pt 13 rfl) (pt 21 rfl) (pt 22 rfl) (pt 23 rfl) (pt 24 rfl) (pt 25 rfl) (pt 9 rfl) (pt 33 rfl) (pt 29 rfl) (pt 19 rfl) (pt 14 rfl) (pt 20 rfl) (pt 15 rfl) (pt 16 rfl) (pt 26 rfl) (pt 27 rfl) (pt 10 rfl) h
theorem foot_linkWaitExpiry (h : exec (.linkWaitExpiry) s = .next t) : Moves (· ∈ Footprint.wLinkWaitExpiry) s t :=
  execLinkWaitExpiry_moves (pt 0 rfl) (pt 9 rfl) (pt 10 rfl) (pt 3 rfl) (pt 1 rfl) (pt 5 rfl) (pt 6 rfl) (pt 7 rfl) (pt 2 rfl) (pt 8 rfl) (pt 4 rfl) h
theorem foot_forceActive (h : exec (.forceActive) s = .next t) : Moves (· ∈ Footprint.wForceActive) s t :=
  execForceActive_moves (pt 15 rfl) (pt 0 rfl) (pt 1 rfl) (pt 23 rfl) (pt 24 rfl) (pt 17 rfl) (pt 2 rfl) (pt 16 rfl) (pt 19 rfl) (pt 20 rfl) (pt 21 rfl) (pt 11 rfl) (pt 5 rfl) (pt 3 rfl) (pt 12 rfl) (pt 6 rfl) (pt 7 rfl) (pt 4 rfl) (pt 22 rfl) (pt 18 rfl) (pt 13 rfl) (pt 8 rfl) (pt 14 rfl) (pt 9 rfl) (pt 10 rfl) h
theorem foot_syncDone (h : exec (.syncDone) s = .next t) : Moves (· ∈ Footprint.wSyncDone) s t :=
  execSyncDone_moves (pt 0 rfl) (pt 11 rfl) (pt 12 rfl) (pt 5 rfl) (pt 1 rfl) (pt 7 rfl) (pt 2 rfl) (pt 8 rfl) (pt 9 rfl) (pt 3 rfl) (pt 10 rfl) (pt 6 rfl) (pt 4 rfl) h
theorem foot_switch {a0 : Bool} (h : exec (.switch a0) s = .next t) : Moves (· ∈ Footprint.wSwitch) s t :=
  execSwitch_moves (pt 17 rfl) (pt 0 rfl) (pt 1 rfl) (pt 25 rfl) (pt 26 rfl) (pt 19 rfl) (pt 2 rfl) (pt 18 rfl) (pt 21 rfl) (pt 3 rfl) (pt 22 rfl) (pt 23 rfl) (pt 13 rfl) (pt 7 rfl) (pt 4 rfl) (pt 14 rfl) (pt 8 rfl) (pt 9 rfl) (pt 5 rfl) (pt 24 rfl) (pt 20 rfl) (pt 6 rfl) (pt 15 rfl) (pt 10 rfl) (pt 16 rfl) (pt 11 rfl) (pt 12 rfl) _ h
theorem foot_activeFault {a0 : Nat} (h : exec (.activeFault a0) s = .next t) : Moves (· ∈ Footprint.wActiveFault) s t :=
  execActiveFault_moves (pt 0 rfl) (pt 10 rfl) (pt 11 rfl) (pt 4 rfl) (pt 1 rfl) (pt 6 rfl) (pt 7 rfl) (pt 8 rfl) (pt 2 rfl) (pt 9 rfl) (pt 5 rfl) (pt 3 rfl) _ h
theorem foot_partnerLost {a0 : Nat} (h : exec (.partnerLost a0) s = .next t) : Moves (· ∈ Footprint.wPartnerLost) s t :=
  execPartnerLost_moves (pt 0 rfl) (pt 1 rfl) (pt 2 rfl) (pt 3 rfl) (pt 29 rfl) (pt 30 rfl) (pt 23 rfl) (pt 4 rfl) (pt 25 rfl) (pt 5 rfl) (pt 6 rfl) (pt 26 rfl) (pt 27 rfl) (pt 7 rfl) (pt 8 rfl) (pt 9 rfl) (pt 10 rfl) (pt 11 rfl) (pt 12 rfl) (pt 13 rfl) (pt 14 rfl) (pt 15 rfl) (pt 16 rfl) (pt 28 rfl) (pt 24 rfl) (pt 17 rfl) (pt 18 rfl) (pt 19 rfl) (pt 20 rfl) (pt 21 rfl) (pt 22 rfl) _ h
theorem foot_handover {a0 : Nat} (h : exec (.handover a0) s = .next t) : Moves (· ∈ Footprint.wHandover) s t :=
  execHandover_moves (pt 0 rfl) (pt 1 rfl) (pt 2 rfl) (pt 3 rfl) (pt 30 rfl) (pt 31 rfl) (pt 24 rfl) (pt 4 rfl) (pt 26 rfl) (pt 5 rfl) (pt 6 rfl) (pt 27 rfl) (pt 28 rfl) (pt 7 rfl) (pt 8 rfl) (pt 9 rfl) (pt 10 rfl) (pt 11 rfl) (pt 12 rfl) (pt 13 rfl) (pt 14 rfl) (pt 15 rfl) (pt 16 rfl) (pt 29 rfl) (pt 25 rfl) (pt 17 rfl) (pt 18 rfl) (pt 19 rfl) (pt 20 rfl) (pt 21 rfl) (pt 22 rfl) (pt 23 rfl) _ h
theorem foot_laserSettled (h : exec (.laserSettled) s = .next t) : Moves (· ∈ Footprint.wLaserSettled) s t :=
  execLaserSettled_moves (pt 0 rfl) (pt 10 rfl) (pt 11 rfl) (pt 4 rfl) (pt 1 rfl) (pt 6 rfl) (pt 7 rfl) (pt 8 rfl) (pt 2 rfl) (pt 9 rfl) (pt 5 rfl) (pt 3 rfl) h
theorem foot_eqdMeasure {a0 : Nat} {a1 : Int} {a2 : Nat} (h : exec (.eqdMeasure a0 a1 a2) s = .next t) : Moves (· ∈ Footprint.wEqdMeasure) s t :=
  execEqdMeasure_moves (pt 0 rfl) (pt 1 rfl) (pt 2 rfl) (pt 3 rfl) (pt 4 rfl) (pt 5 rfl) (pt 6 rfl) (pt 7 rfl) _ _ _ h
theorem foot_railWarn {a0 : Nat} (h : exec (.railWarn a0) s = .next t) : Moves (· ∈ Footprint.wRailWarn) s t :=
  execRailWarn_moves (pt 0 rfl) (pt 1 rfl) (pt 2 rfl) _ h
theorem foot_resetRelease (h : exec (.resetRelease) s = .next t) : Moves (· ∈ Footprint.wResetRelease) s t :=
  execResetRelease_moves (pt 0 rfl) (pt 1 rfl) (pt 2 rfl) h
theorem foot_avsSet {a0 : Nat} (h : exec (.avsSet a0) s = .next t) : Moves (· ∈ Footprint.wAvsSet) s t :=
  execAvsSet_moves (pt 15 rfl) (pt 0 rfl) (pt 1 rfl) (pt 16 rfl) (pt 11 rfl) (pt 5 rfl) (pt 2 rfl) (pt 12 rfl) (pt 6 rfl) (pt 7 rfl) (pt 17 rfl) (pt 3 rfl) (pt 4 rfl) (pt 18 rfl) (pt 13 rfl) (pt 8 rfl) (pt 14 rfl) (pt 9 rfl) (pt 10 rfl) (pt 19 rfl) (pt 20 rfl) _ h
theorem foot_avsPoll {a0 : Nat} (h : exec (.avsPoll a0) s = .next t) : Moves (· ∈ Footprint.wAvsPoll) s t :=
  execAvsPoll_moves (pt 0 rfl) (pt 1 rfl) (pt 28 rfl) (pt 29 rfl) (pt 2 rfl) (pt 30 rfl) (pt 20 rfl) (pt 14 rfl) (pt 3 rfl) (pt 21 rfl) (pt 15 rfl) (pt 16 rfl) (pt 24 rfl) (pt 4 rfl) (pt 5 rfl) (pt 6 rfl) (pt 7 rfl) (pt 25 rfl) (pt 8 rfl) (pt 9 rfl) (pt 10 rfl) (pt 11 rfl) (pt 22 rfl) (pt 17 rfl) (pt 23 rfl) (pt 18 rfl) (pt 19 rfl) (pt 12 rfl) (pt 13 rfl) (pt 26 rfl) (pt 27 rfl) (pt 31 rfl) (pt 32 rfl) _ h
theorem foot_avsAck {a0 : Nat} (h : exec (.avsAck a0) s = .next t) : Moves (· ∈ Footprint.wAvsAck) s t :=
  execAvsAck_moves (pt 0 rfl) (pt 1 rfl) (pt 28 rfl) (pt 29 rfl) (pt 2 rfl) (pt 30 rfl) (pt 20 rfl) (pt 14 rfl) (pt 3 rfl) (pt 21 rfl) (pt 15 rfl) (pt 16 rfl) (pt 24 rfl) (pt 4 rfl) (pt 5 rfl) (pt 6 rfl) (pt 7 rfl) (pt 25 rfl) (pt 8 rfl) (pt 9 rfl) (pt 10 rfl) (pt 11 rfl) (pt 22 rfl) (pt 17 rfl) (pt 23 rfl) (pt 18 rfl) (pt 19 rfl) (pt 12 rfl) (pt 13 rfl) (pt 26 rfl) (pt 27 rfl) (pt 31 rfl) (pt 32 rfl) _ h
theorem foot_avsTimeout (h : exec (.avsTimeout) s = .next t) : Moves (· ∈ Footprint.wAvsTimeout) s t :=
  execAvsTimeout_moves (pt 0 rfl) (pt 5 rfl) (pt 1 rfl) (pt 2 rfl) (pt 3 rfl) (pt 4 rfl) (pt 6 rfl) (pt 7 rfl) (pt 8 rfl) (pt 9 rfl) (pt 10 rfl) h
theorem foot_pmbCmd {a0 : Nat} (h : exec (.pmbCmd a0) s = .next t) : Moves (· ∈ Footprint.wPmbCmd) s t :=
  execPmbCmd_moves (pt 17 rfl) (pt 0 rfl) (pt 1 rfl) (pt 18 rfl) (pt 13 rfl) (pt 7 rfl) (pt 2 rfl) (pt 14 rfl) (pt 8 rfl) (pt 9 rfl) (pt 3 rfl) (pt 4 rfl) (pt 5 rfl) (pt 6 rfl) (pt 15 rfl) (pt 10 rfl) (pt 16 rfl) (pt 11 rfl) (pt 12 rfl) _ h
theorem foot_restEnter (h : exec (.restEnter) s = .next t) : Moves (· ∈ Footprint.wRestEnter) s t :=
  execRestEnter_moves (pt 20 rfl) (pt 0 rfl) (pt 1 rfl) (pt 2 rfl) (pt 21 rfl) (pt 16 rfl) (pt 10 rfl) (pt 3 rfl) (pt 17 rfl) (pt 11 rfl) (pt 12 rfl) (pt 4 rfl) (pt 5 rfl) (pt 6 rfl) (pt 7 rfl) (pt 8 rfl) (pt 18 rfl) (pt 13 rfl) (pt 19 rfl) (pt 14 rfl) (pt 15 rfl) (pt 9 rfl) h
theorem foot_restEntryDone (h : exec (.restEntryDone) s = .next t) : Moves (· ∈ Footprint.wRestEntryDone) s t :=
  execRestEntryDone_moves (pt 0 rfl) (pt 1 rfl) (pt 2 rfl) (pt 24 rfl) (pt 3 rfl) (pt 4 rfl) (pt 5 rfl) (pt 25 rfl) (pt 6 rfl) (pt 17 rfl) (pt 18 rfl) (pt 19 rfl) (pt 7 rfl) (pt 8 rfl) (pt 20 rfl) (pt 21 rfl) (pt 9 rfl) (pt 10 rfl) (pt 11 rfl) (pt 12 rfl) (pt 26 rfl) (pt 27 rfl) (pt 28 rfl) (pt 29 rfl) (pt 13 rfl) (pt 14 rfl) (pt 22 rfl) (pt 15 rfl) (pt 23 rfl) (pt 16 rfl) h
theorem foot_restWake {a0 : Nat} (h : exec (.restWake a0) s = .next t) : Moves (· ∈ Footprint.wRestWake) s t :=
  execRestWake_moves (pt 15 rfl) (pt 0 rfl) (pt 1 rfl) (pt 16 rfl) (pt 11 rfl) (pt 5 rfl) (pt 2 rfl) (pt 12 rfl) (pt 6 rfl) (pt 7 rfl) (pt 17 rfl) (pt 3 rfl) (pt 18 rfl) (pt 13 rfl) (pt 8 rfl) (pt 14 rfl) (pt 9 rfl) (pt 10 rfl) (pt 19 rfl) (pt 20 rfl) (pt 21 rfl) (pt 22 rfl) (pt 4 rfl) _ h
theorem foot_flRead {a0 : Nat} (h : exec (.flRead a0) s = .next t) : Moves (· ∈ Footprint.wFlRead) s t :=
  execFlRead_moves (pt 0 rfl) (pt 20 rfl) (pt 1 rfl) (pt 2 rfl) (pt 3 rfl) (pt 4 rfl) (pt 5 rfl) (pt 6 rfl) (pt 7 rfl) (pt 8 rfl) (pt 21 rfl) (pt 16 rfl) (pt 10 rfl) (pt 9 rfl) (pt 17 rfl) (pt 11 rfl) (pt 12 rfl) (pt 18 rfl) (pt 13 rfl) (pt 19 rfl) (pt 14 rfl) (pt 15 rfl) _ h
theorem foot_flProgram {a0 : Nat} (h : exec (.flProgram a0) s = .next t) : Moves (· ∈ Footprint.wFlProgram) s t :=
  execFlProgram_moves (pt 0 rfl) (pt 20 rfl) (pt 1 rfl) (pt 2 rfl) (pt 3 rfl) (pt 4 rfl) (pt 5 rfl) (pt 6 rfl) (pt 7 rfl) (pt 8 rfl) (pt 21 rfl) (pt 16 rfl) (pt 10 rfl) (pt 9 rfl) (pt 17 rfl) (pt 11 rfl) (pt 12 rfl) (pt 18 rfl) (pt 13 rfl) (pt 19 rfl) (pt 14 rfl) (pt 15 rfl) _ h
theorem foot_flErase (h : exec (.flErase) s = .next t) : Moves (· ∈ Footprint.wFlErase) s t :=
  execFlErase_moves (pt 0 rfl) (pt 20 rfl) (pt 1 rfl) (pt 2 rfl) (pt 3 rfl) (pt 4 rfl) (pt 5 rfl) (pt 6 rfl) (pt 7 rfl) (pt 8 rfl) (pt 21 rfl) (pt 16 rfl) (pt 10 rfl) (pt 9 rfl) (pt 17 rfl) (pt 11 rfl) (pt 12 rfl) (pt 18 rfl) (pt 13 rfl) (pt 19 rfl) (pt 14 rfl) (pt 15 rfl) h
theorem foot_flDone {a0 : Bool} (h : exec (.flDone a0) s = .next t) : Moves (· ∈ Footprint.wFlDone) s t :=
  execFlDone_moves (pt 0 rfl) (pt 1 rfl) (pt 2 rfl) (pt 3 rfl) _ h
theorem foot_converterClockLock {a0 : Bool} (h : exec (.converterClockLock a0) s = .next t) : Moves (· ∈ Footprint.wConverterClockLock) s t :=
  execConverterClockLock_moves (pt 0 rfl) (pt 1 rfl) (pt 2 rfl) (pt 3 rfl) (pt 4 rfl) (pt 5 rfl) _ h
theorem foot_phaseReacquired (h : exec (.phaseReacquired) s = .next t) : Moves (· ∈ Footprint.wPhaseReacquired) s t :=
  execPhaseReacquired_moves (pt 0 rfl) (pt 1 rfl) (pt 2 rfl) h
theorem foot_ppsInValidExpiry {a0 : Nat} (h : exec (.ppsInValidExpiry a0) s = .next t) : Moves (· ∈ Footprint.wPpsInValidExpiry) s t :=
  execPpsInValidExpiry_moves (pt 0 rfl) (pt 1 rfl) _ h
theorem foot_pmbCmdDone {a0 : Nat} {a1 : Nat} (h : exec (.pmbCmdDone a0 a1) s = .next t) : Moves (· ∈ Footprint.wPmbCmdDone) s t :=
  execPmbCmdDone_moves (pt 0 rfl) (pt 1 rfl) (pt 2 rfl) (pt 3 rfl) _ _ h
theorem foot_traceWriteTimeout (h : exec (.traceWriteTimeout) s = .next t) : Moves (· ∈ Footprint.wTraceWriteTimeout) s t :=
  execTraceWriteTimeout_moves (pt 0 rfl) (pt 1 rfl) (pt 2 rfl) h

/-- What a command writes is in its footprint. -/
theorem exec_moves {c : Instr} {l : List Part} (hf : footprint c = some l) (h : exec c s = .next t) : Moves (· ∈ l) s t := by
  cases c with
  | registerWrite => cases hf
  | readClear => cases hf
  | snapshotRead => cases hf
  | pcieUnsupportedRequest a0 a1 a2 => cases hf; exact foot_pcieUnsupportedRequest h
  | sysLock a0 => cases hf; exact foot_sysLock h
  | bridgePrefilled a0 => cases hf; exact foot_bridgePrefilled h
  | bridgeUnderflow a0 => cases hf; exact foot_bridgeUnderflow h
  | bridgeOverflow a0 => cases hf; exact foot_bridgeOverflow h
  | slackLow a0 a1 => cases hf; exact foot_slackLow h
  | hardMarginCrossing a0 a1 => cases hf; exact foot_hardMarginCrossing h
  | avsDecreaseRequest a0 => cases hf; exact foot_avsDecreaseRequest h
  | autoRelease a0 => cases hf; exact foot_autoRelease h
  | release a0 => cases hf; exact foot_release h
  | actionReleaseEffect => cases hf; exact foot_actionReleaseEffect h
  | slackCfgWrite a0 a1 => cases hf; exact foot_slackCfgWrite h
  | ltxEnable => cases hf; exact foot_ltxEnable h
  | ltxStart => cases hf; exact foot_ltxStart h
  | ltxDisable => cases hf; exact foot_ltxDisable h
  | hostMute a0 => cases hf; exact foot_hostMute h
  | muteResume => cases hf; exact foot_muteResume h
  | loadSwap a0 => cases hf; exact foot_loadSwap h
  | freqOfsWrite a0 => cases hf; exact foot_freqOfsWrite h
  | freqOfsApply => cases hf; exact foot_freqOfsApply h
  | cdpreGo => cases hf; exact foot_cdpreGo h
  | cdpreFadeDone a0 => cases hf; exact foot_cdpreFadeDone h
  | skewWrite a0 a1 => cases hf; exact foot_skewWrite h
  | skewSlewDone a0 => cases hf; exact foot_skewSlewDone h
  | peqSwap => cases hf; exact foot_peqSwap h
  | peqSwapApply => cases hf; exact foot_peqSwapApply h
  | pdSwap => cases hf; exact foot_pdSwap h
  | pdSwapApply => cases hf; exact foot_pdSwapApply h
  | lrxEnable => cases hf; exact foot_lrxEnable h
  | lrxDisable => cases hf; exact foot_lrxDisable h
  | losSet a0 => cases hf; exact foot_losSet h
  | losClear a0 => cases hf; exact foot_losClear h
  | losHoldExpiry => cases hf; exact foot_losHoldExpiry h
  | cdGo => cases hf; exact foot_cdGo h
  | cdArm => cases hf; exact foot_cdArm h
  | cdDisarm => cases hf; exact foot_cdDisarm h
  | cdFadeDone a0 => cases hf; exact foot_cdFadeDone h
  | cdEstimateDone a0 => cases hf; exact foot_cdEstimateDone h
  | coarseLock a0 a1 => cases hf; exact foot_coarseLock h
  | acqTmo => cases hf; exact foot_acqTmo h
  | scLock a0 a1 => cases hf; exact foot_scLock h
  | scUnlock a0 a1 => cases hf; exact foot_scUnlock h
  | trackLost => cases hf; exact foot_trackLost h
  | singular a0 a1 a2 => cases hf; exact foot_singular h
  | cycleSlip a0 a1 => cases hf; exact foot_cycleSlip h
  | lofbUpdate a0 => cases hf; exact foot_lofbUpdate h
  | lofbOffloadDone => cases hf; exact foot_lofbOffloadDone h
  | lofbErr => cases hf; exact foot_lofbErr h
  | restart => cases hf; exact foot_restart h
  | snrLatch a0 a1 a2 => cases hf; exact foot_snrLatch h
  | dmErr a0 a1 => cases hf; exact foot_dmErr h
  | tapSetSwitch a0 a1 a2 => cases hf; exact foot_tapSetSwitch h
  | commitDs => cases hf; exact foot_commitDs h
  | commitUs => cases hf; exact foot_commitUs h
  | abortDs => cases hf; exact foot_abortDs h
  | abortUs => cases hf; exact foot_abortUs h
  | loadAnnounce a0 => cases hf; exact foot_loadAnnounce h
  | loadAckTmo a0 => cases hf; exact foot_loadAckTmo h
  | fecCfgWrite a0 => cases hf; exact foot_fecCfgWrite h
  | codewordDecode a0 a1 a2 a3 a4 a5 => cases hf; exact foot_codewordDecode h
  | vlkEnable => cases hf; exact foot_vlkEnable h
  | vlkDisable => cases hf; exact foot_vlkDisable h
  | vdfReceive a0 a1 a2 a3 a4 a5 a6 a7 a8 a9 a10 => cases hf; exact foot_vdfReceive h
  | beaconLost a0 => cases hf; exact foot_beaconLost h
  | mgmtContainer a0 a1 => cases hf; exact foot_mgmtContainer h
  | treeInfo a0 a1 a2 a3 a4 a5 a6 a7 a8 a9 a10 => cases hf; exact foot_treeInfo h
  | regReq a0 => cases hf; exact foot_regReq h
  | regAssign a0 a1 a2 a3 a4 a5 a6 a7 a8 a9 a10 a11 a12 a13 a14 => cases hf; exact foot_regAssign h
  | regReject a0 a1 => cases hf; exact foot_regReject h
  | regConfirm a0 a1 a2 => cases hf; exact foot_regConfirm h
  | dereg a0 a1 a2 => cases hf; exact foot_dereg h
  | rangeAdj a0 a1 a2 a3 => cases hf; exact foot_rangeAdj h
  | freqAdj a0 a1 a2 a3 => cases hf; exact foot_freqAdj h
  | grantTable a0 a1 a2 a3 a4 => cases hf; exact foot_grantTable h
  | grantAck a0 a1 a2 a3 a4 => cases hf; exact foot_grantAck h
  | loadTable a0 a1 a2 a3 a4 a5 a6 => cases hf; exact foot_loadTable h
  | loadAck a0 a1 a2 a3 a4 => cases hf; exact foot_loadAck h
  | loadNak a0 a1 a2 a3 a4 => cases hf; exact foot_loadNak h
  | loadCancel a0 a1 a2 a3 a4 => cases hf; exact foot_loadCancel h
  | loadMismatch a0 a1 a2 a3 => cases hf; exact foot_loadMismatch h
  | snrReport a0 a1 a2 a3 a4 => cases hf; exact foot_snrReport h
  | regWrite => cases hf
  | regRead => cases hf
  | regResp a0 a1 a2 a3 => cases hf; exact foot_regResp h
  | fwOpen a0 a1 a2 a3 a4 a5 => cases hf; exact foot_fwOpen h
  | fwData a0 a1 a2 a3 a4 => cases hf; exact foot_fwData h
  | fwClose a0 a1 a2 => cases hf; exact foot_fwClose h
  | fwStatus a0 a1 a2 a3 => cases hf; exact foot_fwStatus h
  | fwActivate => cases hf
  | restReq a0 a1 a2 => cases hf; exact foot_restReq h
  | restGrant a0 a1 a2 a3 a4 a5 => cases hf; exact foot_restGrant h
  | wakeAck a0 a1 a2 => cases hf; exact foot_wakeAck h
  | ack a0 a1 a2 => cases hf; exact foot_ack h
  | user a0 a1 a2 a3 a4 => cases hf; exact foot_user h
  | unknownType a0 a1 a2 => cases hf; exact foot_unknownType h
  | retxTimeout a0 a1 => cases hf; exact foot_retxTimeout h
  | txpost a0 a1 a2 => cases hf; exact foot_txpost h
  | rxpop => cases hf; exact foot_rxpop h
  | upstreamSilent => cases hf; exact foot_upstreamSilent h
  | upstreamResume => cases hf; exact foot_upstreamResume h
  | rangeTrigger a0 a1 a2 => cases hf; exact foot_rangeTrigger h
  | freqTrigger a0 a1 => cases hf; exact foot_freqTrigger h
  | regAttempt a0 a1 a2 a3 => cases hf; exact foot_regAttempt h
  | regTmo a0 => cases hf; exact foot_regTmo h
  | regGo => cases hf; exact foot_regGo h
  | regOpen a0 => cases hf; exact foot_regOpen h
  | upstreamStart a0 => cases hf; exact foot_upstreamStart h
  | grantCommit => cases hf; exact foot_grantCommit h
  | grantAbort => cases hf; exact foot_grantAbort h
  | grantAnnounce => cases hf; exact foot_grantAnnounce h
  | grantSwap => cases hf; exact foot_grantSwap h
  | grantAckTmo => cases hf; exact foot_grantAckTmo h
  | leafRestStart a0 => cases hf; exact foot_leafRestStart h
  | restRetry => cases hf; exact foot_restRetry h
  | listenWake a0 => cases hf; exact foot_listenWake h
  | listenEnd a0 => cases hf; exact foot_listenEnd h
  | leafLostTmo a0 => cases hf; exact foot_leafLostTmo h
  | hubRestStart a0 => cases hf; exact foot_hubRestStart h
  | wake a0 => cases hf; exact foot_wake h
  | wakeTmo a0 a1 => cases hf; exact foot_wakeTmo h
  | leafLost a0 a1 => cases hf; exact foot_leafLost h
  | brxEnable => cases hf; exact foot_brxEnable h
  | brxDisable => cases hf; exact foot_brxDisable h
  | peakDetect a0 a1 a2 a3 a4 a5 a6 a7 a8 a9 a10 a11 a12 a13 => cases hf; exact foot_peakDetect h
  | headerDecision a0 a1 a2 => cases hf; exact foot_headerDecision h
  | burstClose a0 a1 a2 a3 a4 a5 => cases hf; exact foot_burstClose h
  | burstRecord => cases hf; exact foot_burstRecord h
  | gapClose a0 a1 a2 a3 a4 => cases hf; exact foot_gapClose h
  | fade a0 a1 a2 => cases hf; exact foot_fade h
  | orphan a0 a1 a2 => cases hf; exact foot_orphan h
  | scAbsentSet a0 a1 => cases hf; exact foot_scAbsentSet h
  | scAbsentClear a0 a1 => cases hf; exact foot_scAbsentClear h
  | recPop => cases hf; exact foot_recPop h
  | colPop => cases hf; exact foot_colPop h
  | txEn a0 => cases hf; exact foot_txEn h
  | txFrame a0 a1 a2 => cases hf; exact foot_txFrame h
  | rxEn a0 => cases hf; exact foot_rxEn h
  | research => cases hf; exact foot_research h
  | fawHit a0 a1 a2 => cases hf; exact foot_fawHit h
  | candidateJudge a0 a1 a2 a3 => cases hf; exact foot_candidateJudge h
  | fawCheck a0 a1 a2 => cases hf; exact foot_fawCheck h
  | oof => cases hf; exact foot_oof h
  | overheadWord a0 a1 a2 a3 a4 a5 => cases hf; exact foot_overheadWord h
  | oom a0 a1 => cases hf; exact foot_oom h
  | mfRestore a0 a1 => cases hf; exact foot_mfRestore h
  | upstreamFawCheck a0 a1 a2 => cases hf; exact foot_upstreamFawCheck h
  | upstreamOof a0 a1 => cases hf; exact foot_upstreamOof h
  | upstreamInFrame a0 a1 => cases hf; exact foot_upstreamInFrame h
  | tenMsTick a0 a1 a2 a3 => cases hf; exact foot_tenMsTick h
  | defectDeclare a0 a1 a2 => cases hf; exact foot_defectDeclare h
  | defectClear a0 a1 a2 => cases hf; exact foot_defectClear h
  | defCfgWrite a0 a1 => cases hf; exact foot_defCfgWrite h
  | secondTick a0 => cases hf; exact foot_secondTick h
  | degOnset a0 => cases hf; exact foot_degOnset h
  | ttiAccept => cases hf; exact foot_ttiAccept h
  | ssmAccept => cases hf; exact foot_ssmAccept h
  | cfReceive a0 a1 a2 a3 a4 a5 => cases hf; exact foot_cfReceive h
  | slipWrite a0 => cases hf; exact foot_slipWrite h
  | slipRead a0 a1 => cases hf; exact foot_slipRead h
  | cliEnable a0 => cases hf; exact foot_cliEnable h
  | cliDisable a0 => cases hf; exact foot_cliDisable h
  | signalDetect a0 => cases hf; exact foot_signalDetect h
  | signalLoss a0 => cases hf; exact foot_signalLoss h
  | cdrLock a0 => cases hf; exact foot_cdrLock h
  | cdrLoss a0 => cases hf; exact foot_cdrLoss h
  | laneLock a0 a1 a2 => cases hf; exact foot_laneLock h
  | markerLockLoss a0 => cases hf; exact foot_markerLockLoss h
  | egressOrderChange a0 => cases hf; exact foot_egressOrderChange h
  | deskewMeasure a0 a1 a2 => cases hf; exact foot_deskewMeasure h
  | linkTmo a0 a1 => cases hf; exact foot_linkTmo h
  | flowRead a0 => cases hf; exact foot_flowRead h
  | flowWrite a0 => cases hf; exact foot_flowWrite h
  | flowRemove a0 => cases hf; exact foot_flowRemove h
  | flowCmdApply a0 => cases hf; exact foot_flowCmdApply h
  | cfSchedule a0 a1 => cases hf; exact foot_cfSchedule h
  | tokenCap a0 a1 => cases hf; exact foot_tokenCap h
  | clientIngress a0 a1 a2 a3 a4 => cases hf; exact foot_clientIngress h
  | qdmEnable => cases hf; exact foot_qdmEnable h
  | qdrTrainDone a0 a1 => cases hf; exact foot_qdrTrainDone h
  | qdrRetrain => cases hf; exact foot_qdrRetrain h
  | qdrRecentre a0 a1 => cases hf; exact foot_qdrRecentre h
  | qdrParityError a0 a1 a2 => cases hf; exact foot_qdrParityError h
  | addrParityError a0 => cases hf; exact foot_addrParityError h
  | qdrPortFail a0 => cases hf; exact foot_qdrPortFail h
  | cryLockAcquire => cases hf
  | cryLockRelease a0 a1 => cases hf; exact foot_cryLockRelease h
  | keyLoad a0 a1 a2 a3 => cases hf; exact foot_keyLoad h
  | keyRoll a0 a1 a2 a3 => cases hf; exact foot_keyRoll h
  | keyClear a0 a1 a2 a3 => cases hf; exact foot_keyClear h
  | keyClearCtx a0 a1 a2 => cases hf; exact foot_keyClearCtx h
  | keyCmdUndefined a0 a1 a2 a3 a4 => cases hf; exact foot_keyCmdUndefined h
  | keyCmdComplete => cases hf; exact foot_keyCmdComplete h
  | erasure a0 a1 => cases hf; exact foot_erasure h
  | cryCounterMirror => cases hf; exact foot_cryCounterMirror h
  | refFail a0 a1 => cases hf; exact foot_refFail h
  | refRestore a0 => cases hf; exact foot_refRestore h
  | wtrComplete a0 => cases hf; exact foot_wtrComplete h
  | driftWatchEnd a0 => cases hf; exact foot_driftWatchEnd h
  | refDq a0 => cases hf; exact foot_refDq h
  | qlTmo a0 a1 => cases hf; exact foot_qlTmo h
  | refQlWrite a0 a1 => cases hf; exact foot_refQlWrite h
  | selection => cases hf; exact foot_selection h
  | loopLock => cases hf; exact foot_loopLock h
  | quarantineExit => cases hf; exact foot_quarantineExit h
  | tcFit => cases hf; exact foot_tcFit h
  | pstepWrite a0 a1 => cases hf; exact foot_pstepWrite h
  | pstepDone a0 => cases hf; exact foot_pstepDone h
  | privKeyWrite a0 a1 a2 => cases hf; exact foot_privKeyWrite h
  | loopOpen a0 a1 a2 a3 => cases hf; exact foot_loopOpen h
  | ncoFreqWrite a0 a1 a2 a3 => cases hf; exact foot_ncoFreqWrite h
  | loopClose a0 a1 a2 => cases hf; exact foot_loopClose h
  | maxOpenExpiry a0 a1 => cases hf; exact foot_maxOpenExpiry h
  | timeSet => cases hf; exact foot_timeSet h
  | timeAlign => cases hf; exact foot_timeAlign h
  | ppsInEdge a0 a1 => cases hf; exact foot_ppsInEdge h
  | add a0 a1 => cases hf; exact foot_add h
  | sub a0 a1 => cases hf; exact foot_sub h
  | andOp a0 a1 => cases hf; exact foot_andOp h
  | orOp a0 a1 => cases hf; exact foot_orOp h
  | xor a0 a1 => cases hf; exact foot_xor h
  | sll a0 a1 => cases hf; exact foot_sll h
  | srl a0 a1 => cases hf; exact foot_srl h
  | sra a0 a1 => cases hf; exact foot_sra h
  | slt a0 a1 => cases hf; exact foot_slt h
  | sltu a0 a1 => cases hf; exact foot_sltu h
  | mul a0 a1 => cases hf; exact foot_mul h
  | mulh a0 a1 => cases hf; exact foot_mulh h
  | mulhu a0 a1 => cases hf; exact foot_mulhu h
  | min a0 a1 => cases hf; exact foot_min h
  | max a0 a1 => cases hf; exact foot_max h
  | clz a0 a1 => cases hf; exact foot_clz h
  | popc a0 a1 => cases hf; exact foot_popc h
  | addi a0 a1 => cases hf; exact foot_addi h
  | andi a0 a1 => cases hf; exact foot_andi h
  | ori a0 a1 => cases hf; exact foot_ori h
  | xori a0 a1 => cases hf; exact foot_xori h
  | slti a0 a1 => cases hf; exact foot_slti h
  | shi a0 a1 => cases hf; exact foot_shi h
  | lui a0 a1 => cases hf; exact foot_lui h
  | beq a0 a1 => cases hf; exact foot_beq h
  | bne a0 a1 => cases hf; exact foot_bne h
  | blt a0 a1 => cases hf; exact foot_blt h
  | bge a0 a1 => cases hf; exact foot_bge h
  | bltu a0 a1 => cases hf; exact foot_bltu h
  | bgeu a0 a1 => cases hf; exact foot_bgeu h
  | jal a0 a1 => cases hf; exact foot_jal h
  | jalr a0 a1 => cases hf; exact foot_jalr h
  | ldw a0 a1 => cases hf; exact foot_ldw h
  | stw a0 a1 => cases hf; exact foot_stw h
  | lxch a0 a1 => cases hf; exact foot_lxch h
  | ladd a0 a1 => cases hf; exact foot_ladd h
  | rld a0 a1 => cases hf; exact foot_rld h
  | rst a0 a1 => cases hf; exact foot_rst h
  | dmar a0 a1 => cases hf; exact foot_dmar h
  | dmaw a0 a1 => cases hf; exact foot_dmaw h
  | qrd a0 a1 => cases hf; exact foot_qrd h
  | qwr a0 a1 => cases hf; exact foot_qwr h
  | aswp a0 a1 => cases hf; exact foot_aswp h
  | aadd a0 a1 => cases hf; exact foot_aadd h
  | aand a0 a1 => cases hf; exact foot_aand h
  | aor a0 a1 => cases hf; exact foot_aor h
  | acas a0 a1 => cases hf; exact foot_acas h
  | wait a0 a1 => cases hf; exact foot_wait h
  | fence a0 a1 => cases hf; exact foot_fence h
  | jmark a0 a1 => cases hf; exact foot_jmark h
  | tstat a0 a1 => cases hf; exact foot_tstat h
  | trel a0 a1 => cases hf; exact foot_trel h
  | halt a0 a1 => cases hf; exact foot_halt h
  | yield a0 a1 => cases hf; exact foot_yield h
  | setf a0 a1 => cases hf; exact foot_setf h
  | clrf a0 a1 => cases hf; exact foot_clrf h
  | drop a0 a1 => cases hf; exact foot_drop h
  | self a0 a1 => cases hf; exact foot_self h
  | tagExhaust a0 a1 => cases hf; exact foot_tagExhaust h
  | opAccept a0 a1 => cases hf; exact foot_opAccept h
  | accTmo a0 a1 => cases hf; exact foot_accTmo h
  | opFinal => cases hf
  | waitEnd a0 a1 => cases hf; exact foot_waitEnd h
  | waitTimeout a0 a1 => cases hf; exact foot_waitTimeout h
  | threadStart a0 a1 => cases hf; exact foot_threadStart h
  | threadStop a0 a1 => cases hf; exact foot_threadStop h
  | engReset a0 => cases hf; exact foot_engReset h
  | memDataAccess => cases hf
  | spillPop => cases hf; exact foot_spillPop h
  | activate => cases hf
  | healthOk => cases hf
  | healthTmo => cases hf
  | rollback => cases hf
  | mbxDataWrite a0 a1 a2 a3 a4 => cases hf; exact foot_mbxDataWrite h
  | doorbell a0 a1 a2 a3 => cases hf; exact foot_doorbell h
  | mbxTake => cases hf
  | bind a0 a1 a2 a3 => cases hf; exact foot_bind h
  | mbxLockAcquire => cases hf
  | mbxLockRelease a0 a1 a2 => cases hf; exact foot_mbxLockRelease h
  | functionLevelReset a0 => cases hf; exact foot_functionLevelReset h
  | peerPost a0 a1 => cases hf; exact foot_peerPost h
  | cntLoWrite a0 a1 a2 => cases hf; exact foot_cntLoWrite h
  | cntHiWrite a0 a1 a2 => cases hf; exact foot_cntHiWrite h
  | pmcOverflow a0 => cases hf; exact foot_pmcOverflow h
  | samplePick a0 a1 a2 a3 a4 a5 a6 => cases hf; exact foot_samplePick h
  | sampleRecord a0 a1 => cases hf; exact foot_sampleRecord h
  | smpPop => cases hf; exact foot_smpPop h
  | methodChange => cases hf; exact foot_methodChange h
  | hkaTimer => cases hf; exact foot_hkaTimer h
  | seqGo => cases hf; exact foot_seqGo h
  | delayEnd => cases hf; exact foot_delayEnd h
  | conversionEnd a0 => cases hf; exact foot_conversionEnd h
  | injGo => cases hf; exact foot_injGo h
  | backgroundScan => cases hf; exact foot_backgroundScan h
  | hkaCalDone a0 => cases hf; exact foot_hkaCalDone h
  | pwmPeriodStart a0 => cases hf; exact foot_pwmPeriodStart h
  | pwmCompare a0 => cases hf; exact foot_pwmCompare h
  | fltSample a0 a1 => cases hf; exact foot_fltSample h
  | fltOutput a0 => cases hf; exact foot_fltOutput h
  | fltValid a0 => cases hf; exact foot_fltValid h
  | firSwap a0 => cases hf; exact foot_firSwap h
  | firFadeDone a0 => cases hf; exact foot_firFadeDone h
  | fltCfgWrite a0 a1 => cases hf; exact foot_fltCfgWrite h
  | fltPreset a0 a1 => cases hf; exact foot_fltPreset h
  | biasLoopEnable a0 a1 => cases hf; exact foot_biasLoopEnable h
  | serCmd a0 a1 => cases hf; exact foot_serCmd h
  | serResponse a0 a1 => cases hf; exact foot_serResponse h
  | serPoll a0 a1 => cases hf; exact foot_serPoll h
  | serTimeout a0 => cases hf; exact foot_serTimeout h
  | ftOutWrite a0 a1 => cases hf; exact foot_ftOutWrite h
  | gainKhzWrite a0 a1 => cases hf; exact foot_gainKhzWrite h
  | goFull => cases hf; exact foot_goFull h
  | goTrack => cases hf; exact foot_goTrack h
  | calRetryExpiry => cases hf; exact foot_calRetryExpiry h
  | calAbort => cases hf; exact foot_calAbort h
  | sineCheck a0 => cases hf; exact foot_sineCheck h
  | calPassEnd => cases hf; exact foot_calPassEnd h
  | calRunEnd a0 a1 => cases hf; exact foot_calRunEnd h
  | calFlashDone a0 => cases hf; exact foot_calFlashDone h
  | bistGo a0 => cases hf; exact foot_bistGo h
  | bistAbort => cases hf; exact foot_bistAbort h
  | sliceEnd a0 a1 a2 => cases hf; exact foot_sliceEnd h
  | sliceTimeout => cases hf; exact foot_sliceTimeout h
  | override a0 => cases hf; exact foot_override h
  | lcmTransition a0 a1 => cases hf; exact foot_lcmTransition h
  | fuseDone => cases hf
  | keyCommit a0 => cases hf; exact foot_keyCommit h
  | keyRevoke a0 => cases hf; exact foot_keyRevoke h
  | challengeRead => cases hf
  | peerEnable => cases hf; exact foot_peerEnable h
  | peerDisable => cases hf; exact foot_peerDisable h
  | peerLinkUp a0 => cases hf; exact foot_peerLinkUp h
  | peerLinkFail a0 a1 => cases hf; exact foot_peerLinkFail h
  | heartbeatTmo => cases hf; exact foot_heartbeatTmo h
  | linkWaitExpiry => cases hf; exact foot_linkWaitExpiry h
  | forceActive => cases hf; exact foot_forceActive h
  | syncDone => cases hf; exact foot_syncDone h
  | mirrorRecord => cases hf
  | switch a0 => cases hf; exact foot_switch h
  | activeFault a0 => cases hf; exact foot_activeFault h
  | partnerLost a0 => cases hf; exact foot_partnerLost h
  | handover a0 => cases hf; exact foot_handover h
  | laserSettled => cases hf; exact foot_laserSettled h
  | eqdMeasure a0 a1 a2 => cases hf; exact foot_eqdMeasure h
  | powerOnReset => cases hf
  | railDrop => cases hf
  | railWarn a0 => cases hf; exact foot_railWarn h
  | resetRelease => cases hf; exact foot_resetRelease h
  | resetN => cases hf
  | perst => cases hf
  | warmReset => cases hf
  | imageLoadingReset => cases hf
  | softReset => cases hf
  | softResetDone => cases hf
  | boot => cases hf
  | avsSet a0 => cases hf; exact foot_avsSet h
  | avsPoll a0 => cases hf; exact foot_avsPoll h
  | avsAck a0 => cases hf; exact foot_avsAck h
  | avsTimeout => cases hf; exact foot_avsTimeout h
  | pmbCmd a0 => cases hf; exact foot_pmbCmd h
  | restEnter => cases hf; exact foot_restEnter h
  | restEntryDone => cases hf; exact foot_restEntryDone h
  | restWake a0 => cases hf; exact foot_restWake h
  | restExitDone => cases hf
  | flRead a0 => cases hf; exact foot_flRead h
  | flProgram a0 => cases hf; exact foot_flProgram h
  | flErase => cases hf; exact foot_flErase h
  | flDone a0 => cases hf; exact foot_flDone h
  | converterClockLock a0 => cases hf; exact foot_converterClockLock h
  | phaseReacquired => cases hf; exact foot_phaseReacquired h
  | ppsInValidExpiry a0 => cases hf; exact foot_ppsInValidExpiry h
  | pmbCmdDone a0 a1 => cases hf; exact foot_pmbCmdDone h
  | traceWriteTimeout => cases hf; exact foot_traceWriteTimeout h

end Sys2Proof.Laws
end

