-- ==== Sys2Proof/Laws/Store.lean ====
section
/-! SUPPORT. Sys2Proof/Laws/Store.lean: the laws of the sparse table: a read after a write, and the canonical form that every operation
on it keeps. -/
namespace Sys2Proof.Laws
open Sys2Proof.Machine

variable {α : Type}

@[simp] theorem Store_find_insert_same (k : Nat) (v : α) (m : Store α) : Store.find k (Store.insert k v m) = some v := by
  induction m with
  | nil => simp [Store.insert, Store.find]
  | cons e rest ih =>
    obtain ⟨k', v'⟩ := e
    simp only [Store.insert]
    split
    · simp [Store.find]
    · split
      · simp [Store.find]
      · have : ¬k' = k := fun h => by omega
        simp [Store.find, this, ih]

theorem Store_find_insert_ne {k n : Nat} (h : n ≠ k) (v : α) (m : Store α) : Store.find n (Store.insert k v m) = Store.find n m := by
  induction m with
  | nil => simp [Store.insert, Store.find, h.symm]
  | cons e rest ih =>
    obtain ⟨k', v'⟩ := e
    simp only [Store.insert]
    split
    · simp [Store.find, h.symm]
    · split
      · rename_i h2
        subst h2
        simp [Store.find, h.symm]
      · simp [Store.find, ih]

@[simp] theorem Store_find_erase_same (k : Nat) (m : Store α) : Store.find k (Store.erase k m) = none := by
  induction m with
  | nil => rfl
  | cons e rest ih =>
    obtain ⟨k', v'⟩ := e
    simp only [Store.erase]
    split
    · exact ih
    · simp [Store.find, *]

theorem Store_find_erase_ne {k n : Nat} (h : n ≠ k) (m : Store α) : Store.find n (Store.erase k m) = Store.find n m := by
  induction m with
  | nil => rfl
  | cons e rest ih =>
    obtain ⟨k', v'⟩ := e
    simp only [Store.erase]
    split
    · rename_i h2
      subst h2
      simp [Store.find, h.symm, ih]
    · simp [Store.find, ih]

section
variable [DecidableEq α]

theorem Store_find_put_ne {k n : Nat} (h : n ≠ k) (d v : α) (m : Store α) : Store.find n (Store.put d m k v) = Store.find n m := by
  unfold Store.put
  split
  · exact Store_find_erase_ne h m
  · exact Store_find_insert_ne h v m

/-- What was written is read back. -/
@[simp] theorem Store_get_put_same (d v : α) (m : Store α) (k : Nat) : Store.get d (Store.put d m k v) k = v := by
  unfold Store.put Store.get
  split
  · simp_all
  · simp

/-- A write leaves every other key alone. -/
theorem Store_get_put_ne {k n : Nat} (h : n ≠ k) (d d' v : α) (m : Store α) :
    Store.get d' (Store.put d m k v) n = Store.get d' m n := by
  simp [Store.get, Store_find_put_ne h]

end

/-! ### The canonical form -/

theorem Store_above_insert {b k : Nat} {v : α} {m : Store α} (hm : Store.above b m = true) (hk : b < k) :
    Store.above b (Store.insert k v m) = true := by
  induction m with
  | nil => simp [Store.insert, Store.above, hk]
  | cons e rest ih =>
    obtain ⟨k', v'⟩ := e
    simp only [Store.above, Bool.and_eq_true, decide_eq_true_eq] at hm
    simp only [Store.insert]
    split
    · simp [Store.above, hk, hm]
    · split <;> simp [Store.above, hk, hm, ih hm.2]

theorem Store_above_mono {a b : Nat} {m : Store α} (h : a ≤ b) (hm : Store.above b m = true) : Store.above a m = true := by
  induction m with
  | nil => rfl
  | cons e rest ih =>
    obtain ⟨k', v'⟩ := e
    simp only [Store.above, Bool.and_eq_true, decide_eq_true_eq] at hm ⊢
    exact ⟨by omega, ih hm.2⟩

theorem Store_sorted_insert {k : Nat} {v : α} {m : Store α} (hm : Store.sorted m = true) : Store.sorted (Store.insert k v m) = true := by
  induction m with
  | nil => simp [Store.insert, Store.sorted, Store.above]
  | cons e rest ih =>
    obtain ⟨k', v'⟩ := e
    simp only [Store.sorted, Bool.and_eq_true] at hm
    simp only [Store.insert]
    split
    · simp [Store.sorted, Store.above, hm, *, Store_above_mono (Nat.le_of_lt ‹k < k'›) hm.1]
    · split
      · rename_i h2
        subst h2
        simp [Store.sorted, hm]
      · have hlt : k' < k := by omega
        simp [Store.sorted, ih hm.2, Store_above_insert hm.1 hlt]

theorem Store_above_filter {b : Nat} {m : Store α} (p : Nat × α → Bool) (hm : Store.above b m = true) :
    Store.above b (m.filter p) = true := by
  induction m with
  | nil => rfl
  | cons e rest ih =>
    obtain ⟨k', v'⟩ := e
    simp only [Store.above, Bool.and_eq_true, decide_eq_true_eq] at hm
    simp only [List.filter]
    split
    · simp [Store.above, hm, ih hm.2]
    · exact ih hm.2

/-- Leaving entries out keeps the form. -/
theorem Store_sorted_filter {m : Store α} (p : Nat × α → Bool) (hm : Store.sorted m = true) : Store.sorted (m.filter p) = true := by
  induction m with
  | nil => rfl
  | cons e rest ih =>
    obtain ⟨k', v'⟩ := e
    simp only [Store.sorted, Bool.and_eq_true] at hm
    simp only [List.filter]
    split
    · simp [Store.sorted, Store_above_filter p hm.1, ih hm.2]
    · exact ih hm.2

theorem Store_erase_filter (k : Nat) (m : Store α) : Store.erase k m = m.filter (fun e => !(e.1 == k)) := by
  induction m with
  | nil => rfl
  | cons e rest ih =>
    obtain ⟨k', v'⟩ := e
    by_cases h : k' = k
    · have hb : (k' == k) = true := by simp [h]
      simp only [Store.erase, List.filter, if_pos h, hb, Bool.not_true, ih]
    · have hb : (k' == k) = false := by simp [h]
      simp only [Store.erase, List.filter, if_neg h, hb, Bool.not_false, ih]

section
variable [DecidableEq α]

/-- A write keeps the keys rising. -/
theorem Store_sorted_put {d v : α} {k : Nat} {m : Store α} (hm : Store.sorted m = true) : Store.sorted (Store.put d m k v) = true := by
  unfold Store.put
  split
  · rw [Store_erase_filter]
    exact Store_sorted_filter _ hm
  · exact Store_sorted_insert hm

theorem Store_all_insert {p : Nat × α → Bool} {k : Nat} {v : α} {m : Store α} (hm : m.all p = true) (hv : p (k, v) = true) :
    (Store.insert k v m).all p = true := by
  induction m with
  | nil => simp [Store.insert, hv]
  | cons e rest ih =>
    obtain ⟨k', v'⟩ := e
    simp only [List.all_cons, Bool.and_eq_true] at hm
    simp only [Store.insert]
    split
    · simp [hv, hm]
    · split <;> simp [hv, hm, ih hm.2]

/-- A write keeps the canonical form of a memory. -/
theorem Store_wf_put {d v : α} {k : Nat} {m : Store α} (hm : Store.wf d m = true) : Store.wf d (Store.put d m k v) = true := by
  simp only [Store.wf, Bool.and_eq_true] at hm ⊢
  refine ⟨Store_sorted_put hm.1, ?_⟩
  unfold Store.put
  split
  · rw [Store_erase_filter]
    simp only [List.all_eq_true, List.mem_filter] at hm ⊢
    exact fun e he => hm.2 e he.1
  · exact Store_all_insert hm.2 (by simp [*])

/-- Erasing entries keeps the canonical form of a memory. -/
theorem Store_wf_filter {d : α} {m : Store α} (p : Nat × α → Bool) (hm : Store.wf d m = true) : Store.wf d (m.filter p) = true := by
  simp only [Store.wf, Bool.and_eq_true] at hm ⊢
  refine ⟨Store_sorted_filter p hm.1, ?_⟩
  simp only [List.all_eq_true, List.mem_filter] at hm ⊢
  exact fun e he => hm.2 e he.1

end

end Sys2Proof.Laws
end

