-- ==== Sys2Proof/Laws/State.lean ====
section
/-! SUPPORT. Sys2Proof/Laws/State.lean: what each named operation on the state changes and leaves alone: one lemma a field, true by
unfolding once, so that no later proof unfolds an update. -/
namespace Sys2Proof.Laws
open Sys2Proof Sys2Proof.Machine

/-! ### Where two fields of the register table cannot meet -/

/-- The bit addresses of a field's elements lie from `key 0 0 0` up to this one. -/
def lastKey (f : Field) : Nat := f.key (f.shape.n1 - 1) (f.shape.n2 - 1) (f.shape.n3 - 1)

/-- All bit addresses of a field's elements are the first one modulo this. -/
def step (f : Field) : Nat := 8 * Nat.gcd f.shape.d1 (Nat.gcd f.shape.d2 f.shape.d3)

/-- No element of one field is held under the key of an element of the other. -/
def apart (f g : Field) : Bool :=
  decide (lastKey f < g.key 0 0 0) || decide (lastKey g < f.key 0 0 0) ||
  decide (f.key 0 0 0 % Nat.gcd (step f) (step g) ≠ g.key 0 0 0 % Nat.gcd (step f) (step g))

theorem key_le_lastKey {f : Field} {i j k : Nat} (h : f.shape.has i j k = true) : f.key i j k ≤ lastKey f := by
  simp only [Shape.has, Bool.and_eq_true, decide_eq_true_eq] at h
  obtain ⟨⟨h1, h2⟩, h3⟩ := h
  unfold lastKey Field.key Shape.at
  have a := Nat.mul_le_mul_right f.shape.d1 (Nat.le_sub_one_of_lt h1)
  have b := Nat.mul_le_mul_right f.shape.d2 (Nat.le_sub_one_of_lt h2)
  have c := Nat.mul_le_mul_right f.shape.d3 (Nat.le_sub_one_of_lt h3)
  omega

theorem first_le_key (f : Field) (i j k : Nat) : f.key 0 0 0 ≤ f.key i j k := by
  simp only [Field.key, Shape.at, Nat.zero_mul, Nat.add_zero]
  have : 0 ≤ i * f.shape.d1 + j * f.shape.d2 + k * f.shape.d3 := Nat.zero_le _
  omega

theorem key_mod (f : Field) (n i j k : Nat) (hn : n ∣ step f) : f.key i j k % n = f.key 0 0 0 % n := by
  have h1 : step f ∣ 8 * f.shape.d1 := Nat.mul_dvd_mul_left 8 (Nat.gcd_dvd_left _ _)
  have h2 : step f ∣ 8 * f.shape.d2 := Nat.mul_dvd_mul_left 8 ((Nat.gcd_dvd_right _ _).trans (Nat.gcd_dvd_left _ _))
  have h3 : step f ∣ 8 * f.shape.d3 := Nat.mul_dvd_mul_left 8 ((Nat.gcd_dvd_right _ _).trans (Nat.gcd_dvd_right _ _))
  have e : f.key i j k = f.key 0 0 0 + (i * (8 * f.shape.d1) + j * (8 * f.shape.d2) + k * (8 * f.shape.d3)) := by
    simp only [Field.key, Shape.at, Nat.zero_mul, Nat.add_zero]
    ring
  have d : n ∣ i * (8 * f.shape.d1) + j * (8 * f.shape.d2) + k * (8 * f.shape.d3) :=
    dvd_add (dvd_add ((hn.trans h1).mul_left i) ((hn.trans h2).mul_left j)) ((hn.trans h3).mul_left k)
  rw [e]
  obtain ⟨q, hq⟩ := d
  rw [hq]
  exact Nat.add_mul_mod_self_left _ _ _

theorem key_ne {f g : Field} {i j k i' j' k' : Nat} (h : apart f g = true) (hf : f.shape.has i j k = true)
    (hg : g.shape.has i' j' k' = true) : f.key i j k ≠ g.key i' j' k' := by
  simp only [apart, Bool.or_eq_true, decide_eq_true_eq] at h
  have a := key_le_lastKey hf
  have b := key_le_lastKey hg
  have c := first_le_key f i j k
  have d := first_le_key g i' j' k'
  rcases h with (h | h) | h
  · omega
  · omega
  · intro e
    apply h
    rw [← key_mod f _ i j k (Nat.gcd_dvd_left _ _), ← key_mod g _ i' j' k' (Nat.gcd_dvd_right _ _), e]

/-- No two elements of the field are held under one key: its inner indices stay inside one stride of the outer. -/
def Field.plain (f : Field) : Bool :=
  (decide (f.shape.n1 ≤ 1) || decide ((f.shape.n2 - 1) * f.shape.d2 + (f.shape.n3 - 1) * f.shape.d3 < f.shape.d1)) &&
  (decide (f.shape.n2 ≤ 1) || decide ((f.shape.n3 - 1) * f.shape.d3 < f.shape.d2)) &&
  (decide (f.shape.n3 ≤ 1) || decide (0 < f.shape.d3))

theorem mul_step {i i' d r r' : Nat} (h : i * d + r = i' * d + r') (hr : r < d) (hr' : r' < d) : i = i' ∧ r = r' := by
  have hd : 0 < d := by omega
  have e : i = i' := by
    have h1 : (i * d + r) / d = i := by rw [Nat.mul_comm, Nat.mul_add_div hd, Nat.div_eq_of_lt hr, Nat.add_zero]
    have h2 : (i' * d + r') / d = i' := by rw [Nat.mul_comm, Nat.mul_add_div hd, Nat.div_eq_of_lt hr', Nat.add_zero]
    rw [← h1, h, h2]
  subst e
  exact ⟨rfl, by omega⟩

theorem key_inj {f : Field} {i j k i' j' k' : Nat} (h : Field.plain f = true) (hf : f.shape.has i j k = true)
    (hg : f.shape.has i' j' k' = true) (e : f.key i j k = f.key i' j' k') : i = i' ∧ j = j' ∧ k = k' := by
  simp only [Field.plain, Bool.and_eq_true, Bool.or_eq_true, decide_eq_true_eq] at h
  simp only [Shape.has, Bool.and_eq_true, decide_eq_true_eq] at hf hg
  obtain ⟨⟨a1, a2⟩, a3⟩ := hf
  obtain ⟨⟨b1, b2⟩, b3⟩ := hg
  obtain ⟨⟨h1, h2⟩, h3⟩ := h
  have e' : i * f.shape.d1 + (j * f.shape.d2 + k * f.shape.d3) = i' * f.shape.d1 + (j' * f.shape.d2 + k' * f.shape.d3) := by
    simp only [Field.key, Shape.at] at e
    omega
  have ja := Nat.mul_le_mul_right f.shape.d2 (Nat.le_sub_one_of_lt a2)
  have jb := Nat.mul_le_mul_right f.shape.d2 (Nat.le_sub_one_of_lt b2)
  have ka := Nat.mul_le_mul_right f.shape.d3 (Nat.le_sub_one_of_lt a3)
  have kb := Nat.mul_le_mul_right f.shape.d3 (Nat.le_sub_one_of_lt b3)
  have s1 : i = i' ∧ j * f.shape.d2 + k * f.shape.d3 = j' * f.shape.d2 + k' * f.shape.d3 := by
    rcases h1 with h1 | h1
    · have : i = i' := by omega
      subst this
      exact ⟨rfl, by omega⟩
    · exact mul_step e' (by omega) (by omega)
  have s2 : j = j' ∧ k * f.shape.d3 = k' * f.shape.d3 := by
    rcases h2 with h2 | h2
    · have : j = j' := by omega
      subst this
      exact ⟨rfl, by omega⟩
    · exact mul_step s1.2 (by omega) (by omega)
  refine ⟨s1.1, s2.1, ?_⟩
  rcases h3 with h3 | h3
  · omega
  · exact Nat.eq_of_mul_eq_mul_right h3 s2.2

/-! ### Reading after writing -/

section
variable (s : State) (f g : Field) (v i j k i' j' k' : Nat)

/-- A field reads within its width, in every state. -/
theorem State_get_lt : s.get f i j k < 2 ^ f.width := by
  unfold State.get
  split
  · exact Nat.mod_lt _ (Nat.two_pow_pos _)
  · exact Nat.two_pow_pos _

/-- A field reads back what was put into it, in its width. -/
theorem State_get_put_same (h : f.shape.has i j k = true) : (s.put f v i j k).get f i j k = v % 2 ^ f.width := by
  simp [State.get, State.put, h]

/-- Elements of two fields apart. -/
theorem State_get_put_ne (h : apart f g = true) : (s.put f v i j k).get g i' j' k' = s.get g i' j' k' := by
  unfold State.get State.put
  split
  · rename_i hg
    split
    · rename_i hf
      rw [Store_get_put_ne (key_ne h hf hg).symm]
    · rfl
  · rfl

/-- Two elements of one field. -/
theorem State_get_put_index (h : Field.plain f = true) :
    (s.put f v i j k).get f i' j' k' =
      if f.shape.has i j k = true ∧ i = i' ∧ j = j' ∧ k = k' then v % 2 ^ f.width else s.get f i' j' k' := by
  by_cases hf : f.shape.has i j k = true
  · by_cases he : i = i' ∧ j = j' ∧ k = k'
    · obtain ⟨rfl, rfl, rfl⟩ := he
      simp [hf, State_get_put_same]
    · rw [if_neg (fun c => he c.2)]
      unfold State.get State.put
      rw [if_pos hf]
      split
      · rename_i hg
        rw [Store_get_put_ne (fun e => he (key_inj h hf hg e.symm))]
      · rfl
  · simp [State.put, hf]

end

/-! ### What the named operations leave alone -/

section
variable (s : State) (f g : Field) (v i j k i' j' k' : Nat)

@[simp] theorem State_put_msix : (s.put f v i j k).msix = s.msix := by unfold State.put; split <;> rfl
@[simp] theorem State_put_vlk : (s.put f v i j k).vlk = s.vlk := by unfold State.put; split <;> rfl
@[simp] theorem State_put_brx : (s.put f v i j k).brx = s.brx := by unfold State.put; split <;> rfl
@[simp] theorem State_put_flw : (s.put f v i j k).flw = s.flw := by unfold State.put; split <;> rfl
@[simp] theorem State_put_frm : (s.put f v i j k).frm = s.frm := by unfold State.put; split <;> rfl
@[simp] theorem State_put_syn : (s.put f v i j k).syn = s.syn := by unfold State.put; split <;> rfl
@[simp] theorem State_put_eng : (s.put f v i j k).eng = s.eng := by unfold State.put; split <;> rfl
@[simp] theorem State_put_flt : (s.put f v i j k).flt = s.flt := by unfold State.put; split <;> rfl
@[simp] theorem State_put_qdr : (s.put f v i j k).qdr = s.qdr := by unfold State.put; split <;> rfl
@[simp] theorem State_put_flash : (s.put f v i j k).flash = s.flash := by unfold State.put; split <;> rfl
@[simp] theorem State_put_drawn : (s.put f v i j k).drawn = s.drawn := by unfold State.put; split <;> rfl
@[simp] theorem State_put_held : (s.put f v i j k).held = s.held := by unfold State.put; split <;> rfl
@[simp] theorem State_put_out : (s.put f v i j k).out = s.out := by unfold State.put; split <;> rfl
@[simp] theorem State_put_pending : (s.put f v i j k).pending = s.pending := by unfold State.put; split <;> rfl

@[simp] theorem State_emit_csr (o : Emit) : (s.emit o).csr = s.csr := rfl
@[simp] theorem State_emit_msix (o : Emit) : (s.emit o).msix = s.msix := rfl
@[simp] theorem State_emit_vlk (o : Emit) : (s.emit o).vlk = s.vlk := rfl
@[simp] theorem State_emit_brx (o : Emit) : (s.emit o).brx = s.brx := rfl
@[simp] theorem State_emit_flw (o : Emit) : (s.emit o).flw = s.flw := rfl
@[simp] theorem State_emit_frm (o : Emit) : (s.emit o).frm = s.frm := rfl
@[simp] theorem State_emit_syn (o : Emit) : (s.emit o).syn = s.syn := rfl
@[simp] theorem State_emit_eng (o : Emit) : (s.emit o).eng = s.eng := rfl
@[simp] theorem State_emit_flt (o : Emit) : (s.emit o).flt = s.flt := rfl
@[simp] theorem State_emit_qdr (o : Emit) : (s.emit o).qdr = s.qdr := rfl
@[simp] theorem State_emit_flash (o : Emit) : (s.emit o).flash = s.flash := rfl
@[simp] theorem State_emit_drawn (o : Emit) : (s.emit o).drawn = s.drawn := rfl
@[simp] theorem State_emit_held (o : Emit) : (s.emit o).held = s.held := rfl
@[simp] theorem State_emit_pending (o : Emit) : (s.emit o).pending = s.pending := rfl
@[simp] theorem State_emit_get (o : Emit) : (s.emit o).get g i j k = s.get g i j k := rfl
@[simp] theorem State_drew_csr  : (s.drew).csr = s.csr := rfl
@[simp] theorem State_drew_msix  : (s.drew).msix = s.msix := rfl
@[simp] theorem State_drew_vlk  : (s.drew).vlk = s.vlk := rfl
@[simp] theorem State_drew_brx  : (s.drew).brx = s.brx := rfl
@[simp] theorem State_drew_flw  : (s.drew).flw = s.flw := rfl
@[simp] theorem State_drew_frm  : (s.drew).frm = s.frm := rfl
@[simp] theorem State_drew_syn  : (s.drew).syn = s.syn := rfl
@[simp] theorem State_drew_eng  : (s.drew).eng = s.eng := rfl
@[simp] theorem State_drew_flt  : (s.drew).flt = s.flt := rfl
@[simp] theorem State_drew_qdr  : (s.drew).qdr = s.qdr := rfl
@[simp] theorem State_drew_flash  : (s.drew).flash = s.flash := rfl
@[simp] theorem State_drew_held  : (s.drew).held = s.held := rfl
@[simp] theorem State_drew_out  : (s.drew).out = s.out := rfl
@[simp] theorem State_drew_pending  : (s.drew).pending = s.pending := rfl
@[simp] theorem State_drew_get  : (s.drew).get g i j k = s.get g i j k := rfl
@[simp] theorem State_emit_out (o : Emit) : (s.emit o).out = o :: s.out := rfl
@[simp] theorem State_drew_drawn : s.drew.drawn = s.drawn + 1 := rfl

/-- A change outside the register table changes no field. -/
@[simp] theorem State_get_mk (a1 : MsixState) (a2 : VlkState) (a3 : BrxState) (a4 : FlwState) (a5 : FrmState) (a6 : SynState)
    (a7 : EngState) (a8 : Store FltChan) (a9 a10 : Store Nat) (a11 : Nat) (a12 : List HeldAccess) (a13 : List Emit) (a14 : List Instr) :
    State.get ⟨s.csr, a1, a2, a3, a4, a5, a6, a7, a8, a9, a10, a11, a12, a13, a14⟩ g i j k = s.get g i j k := rfl

end

end Sys2Proof.Laws
end

