-- ==== Sys2Proof/Laws/Frame.lean ====
section
/-! SUPPORT. Sys2Proof/Laws/Frame.lean: what follows from the named writes a state comes by (Laws/Moves.lean): the canonical form stays, the
queue of commands stays, what was put out stays put out, and everything outside the parts written reads as before. -/
namespace Sys2Proof.Laws
open Sys2Proof Sys2Proof.Machine

variable {W : Part → Prop} {s₀ s : State}

theorem State_put_sorted {s : State} {f : Field} {v i j k : Nat} (h : s.csr.sorted = true) : (s.put f v i j k).csr.sorted = true := by
  unfold State.put
  split
  · exact Store_sorted_put h
  · exact h

/-- The named writes keep the canonical form. -/
theorem Moves.canonical (h : Moves W s₀ s) (hc : canonical s₀) : canonical s := by
  induction h with
  | put f v i j k _ _ ih => exact ⟨State_put_sorted ih.1, by simpa using ih.2⟩
  | wipe f _ _ ih => exact ⟨Store_sorted_filter _ ih.1, ih.2⟩
  | drop p _ _ ih => exact ⟨Store_sorted_filter _ ih.1, ih.2⟩
  | qdr k v _ _ ih => exact ⟨ih.1, Store_wf_put ih.2.1, ih.2.2⟩
  | qdrLost _ _ ih => exact ⟨ih.1, rfl, ih.2.2⟩
  | flash k v _ _ ih => exact ⟨ih.1, ih.2.1, Store_wf_put ih.2.2⟩
  | flashErase p _ _ ih => exact ⟨ih.1, ih.2.1, Store_wf_filter _ ih.2.2⟩
  | _ => assumption

/-- The named writes leave the queue of commands alone. -/
theorem Moves.pending (h : Moves W s₀ s) : s.pending = s₀.pending := by
  induction h with
  | put f v i j k _ _ ih => simpa using ih
  | _ => first | rfl | assumption

/-- What was put out stays put out, before what is put out since. -/
theorem Moves.out (h : Moves W s₀ s) : s₀.out <:+ s.out := by
  induction h with
  | refl => exact List.suffix_refl _
  | put f v i j k _ _ ih => simpa using ih
  | emit o _ ih => exact ih.trans (List.suffix_cons _ _)
  | _ => assumption

/-- Free values are drawn in order, none twice. -/
theorem Moves.drawn (h : Moves W s₀ s) : s₀.drawn ≤ s.drawn := by
  induction h with
  | refl => exact Nat.le_refl _
  | put f v i j k _ _ ih => simpa using ih
  | drew _ ih => exact Nat.le_succ_of_le ih
  | _ => assumption

/-- An entry of the register table that no part written covers. -/
theorem Moves.find (h : Moves W s₀ s) {n : Nat} (hd : ¬∀ x, W x)
    (hf : ∀ f, W (.fld f) → ∀ i j k, f.shape.has i j k = true → f.key i j k ≠ n)
    (ha : ∀ f, W (.arr f) → n < f.range.1 ∨ f.range.2 ≤ n) : Store.find n s.csr = Store.find n s₀.csr := by
  induction h with
  | put f v i j k hw _ ih =>
    rw [← ih]
    unfold State.put
    split
    · exact Store_find_put_ne (hf f hw i j k ‹_›).symm _ _ _
    · rfl
  | @wipe s f hw _ ih =>
    rw [← ih]
    have hn := ha f hw
    unfold State.wipe State.wipeRange
    dsimp only
    generalize s.csr = m
    clear ih
    induction m with
    | nil => rfl
    | cons e rest ih =>
      obtain ⟨k', v'⟩ := e
      simp only [List.filter]
      split
      · simp only [Store.find]
        rw [ih]
      · rename_i hb
        have : ¬k' = n := by
          rintro rfl
          simp at hb
          omega
        simp only [Store.find, if_neg this]
        exact ih
  | drop p hw _ _ => exact absurd hw hd
  | refl => rfl
  | _ => assumption

/-- A field apart from every field written, and from every array cleared. -/
theorem Moves.get (h : Moves W s₀ s) (g : Field) (i j k : Nat) (hd : ¬∀ x, W x) (hf : ∀ f, W (.fld f) → apart f g = true)
    (ha : ∀ f, W (.arr f) → lastKey g < f.range.1 ∨ f.range.2 ≤ g.key 0 0 0) : s.get g i j k = s₀.get g i j k := by
  unfold State.get
  split
  · rename_i hg
    unfold Store.get
    rw [h.find hd (fun f hw i' j' k' hh => key_ne (hf f hw) hh hg)
      (fun f hw => (ha f hw).imp (fun x => Nat.lt_of_le_of_lt (key_le_lastKey hg) x) (fun x => Nat.le_trans x (first_le_key g i j k)))]
  · rfl

/-- A part whose change no reading of field g shows. -/
def Misses (g : Machine.Field) : Part → Prop
  | .fld f => apart f g = true
  | .arr f => lastKey g < f.range.1 ∨ f.range.2 ≤ g.key 0 0 0
  | _ => True

theorem apart_self (g : Machine.Field) : apart g g = false := by
  have h : g.key 0 0 0 ≤ lastKey g := by
    simp only [lastKey, Field.key, Shape.at, Nat.zero_mul, Nat.add_zero]
    have : 0 ≤ (g.shape.n1 - 1) * g.shape.d1 + (g.shape.n2 - 1) * g.shape.d2 + (g.shape.n3 - 1) * g.shape.d3 := Nat.zero_le _
    omega
  simp [apart, h]

/-- A field reads as before where every part written misses it. -/
theorem Moves.get_misses {g : Machine.Field} {i j k : Nat} (h : Moves (Misses g) s₀ s) : s.get g i j k = s₀.get g i j k :=
  h.get g i j k (fun a => by have := a (.fld g); simp [Misses, apart_self] at this) (fun _ hf => hf) (fun _ hf => hf)

/-! A part that no write names. -/

theorem Moves.untouched_msix (h : Moves W s₀ s) (hn : ¬W .msix) : s.msix = s₀.msix := by
  induction h with
  | refl => rfl
  | put f v i j k _ _ ih => simpa using ih
  | _ => first | assumption | (exact absurd ‹W .msix› hn)

theorem Moves.untouched_vlk (h : Moves W s₀ s) (hn : ¬W .vlk) : s.vlk = s₀.vlk := by
  induction h with
  | refl => rfl
  | put f v i j k _ _ ih => simpa using ih
  | _ => first | assumption | (exact absurd ‹W .vlk› hn)

theorem Moves.untouched_brx (h : Moves W s₀ s) (hn : ¬W .brx) : s.brx = s₀.brx := by
  induction h with
  | refl => rfl
  | put f v i j k _ _ ih => simpa using ih
  | _ => first | assumption | (exact absurd ‹W .brx› hn)

theorem Moves.untouched_flw (h : Moves W s₀ s) (hn : ¬W .flw) : s.flw = s₀.flw := by
  induction h with
  | refl => rfl
  | put f v i j k _ _ ih => simpa using ih
  | _ => first | assumption | (exact absurd ‹W .flw› hn)

theorem Moves.untouched_frm (h : Moves W s₀ s) (hn : ¬W .frm) : s.frm = s₀.frm := by
  induction h with
  | refl => rfl
  | put f v i j k _ _ ih => simpa using ih
  | _ => first | assumption | (exact absurd ‹W .frm› hn)

theorem Moves.untouched_syn (h : Moves W s₀ s) (hn : ¬W .syn) : s.syn = s₀.syn := by
  induction h with
  | refl => rfl
  | put f v i j k _ _ ih => simpa using ih
  | _ => first | assumption | (exact absurd ‹W .syn› hn)

theorem Moves.untouched_eng (h : Moves W s₀ s) (hn : ¬W .eng) : s.eng = s₀.eng := by
  induction h with
  | refl => rfl
  | put f v i j k _ _ ih => simpa using ih
  | _ => first | assumption | (exact absurd ‹W .eng› hn)

theorem Moves.untouched_flt (h : Moves W s₀ s) (hn : ¬W .flt) : s.flt = s₀.flt := by
  induction h with
  | refl => rfl
  | put f v i j k _ _ ih => simpa using ih
  | _ => first | assumption | (exact absurd ‹W .flt› hn)

theorem Moves.untouched_qdr (h : Moves W s₀ s) (hn : ¬W .qdr) : s.qdr = s₀.qdr := by
  induction h with
  | refl => rfl
  | put f v i j k _ _ ih => simpa using ih
  | _ => first | assumption | (exact absurd ‹W .qdr› hn)

theorem Moves.untouched_flash (h : Moves W s₀ s) (hn : ¬W .flash) : s.flash = s₀.flash := by
  induction h with
  | refl => rfl
  | put f v i j k _ _ ih => simpa using ih
  | _ => first | assumption | (exact absurd ‹W .flash› hn)

theorem Moves.untouched_held (h : Moves W s₀ s) (hn : ¬W .held) : s.held = s₀.held := by
  induction h with
  | refl => rfl
  | put f v i j k _ _ ih => simpa using ih
  | _ => first | assumption | (exact absurd ‹W .held› hn)

/-- The frame that the writes to the parts of a list leave. -/
theorem Moves.keeps {l : List Part} (h : Moves (· ∈ l) s₀ s) (hd : ∃ x, x ∉ l) : Keeps l s₀ s := by
  have hd' : ¬∀ x, x ∈ l := fun a => hd.elim (fun x hx => hx (a x))
  refine ⟨fun n hf ha => h.find hd' hf ha, ?_, ?_, ?_, ?_, ?_, ?_, ?_, ?_, ?_, ?_, ?_, h.pending⟩
  all_goals
    clear hd hd'
    induction h with
    | refl => exact .inr rfl
    | put f v i j k _ _ ih => simpa using ih
    | _ => first | assumption | (left; assumption)

end Sys2Proof.Laws
end

