-- ==== Sys2Proof/Laws/Read.lean ====
section
/-! SUPPORT. Sys2Proof/Laws/Read.lean: what reads as before across a command's completion and across the count of an access, and what a
register write that reaches its block comes to. -/
namespace Sys2Proof.Laws
open Sys2Proof Sys2Proof.Machine

/-! ### The completion of a command -/

section
variable (s t : State) (g : Machine.Field) (i j k : Nat)

theorem settle_moved : Moves (· = .msix) t (settle s t) := settle_moves (W := (· = .msix)) rfl _ .refl

@[simp] theorem settle_get : (settle s t).get g i j k = t.get g i j k :=
  (settle_moved s t).get g i j k (fun h => nomatch h .vlk) (fun _ h => nomatch h) (fun _ h => nomatch h)

theorem settle_keeps : Keeps [.msix] t (settle s t) :=
  ((settle_moved s t).mono (V := (· ∈ [Part.msix])) (fun _ h => by simp [h])).keeps ⟨.vlk, by simp⟩

@[simp] theorem settle_vlk : (settle s t).vlk = t.vlk := (settle_keeps s t).vlk.resolve_left (by simp)
@[simp] theorem settle_brx : (settle s t).brx = t.brx := (settle_keeps s t).brx.resolve_left (by simp)
@[simp] theorem settle_flw : (settle s t).flw = t.flw := (settle_keeps s t).flw.resolve_left (by simp)
@[simp] theorem settle_frm : (settle s t).frm = t.frm := (settle_keeps s t).frm.resolve_left (by simp)
@[simp] theorem settle_syn : (settle s t).syn = t.syn := (settle_keeps s t).syn.resolve_left (by simp)
@[simp] theorem settle_eng : (settle s t).eng = t.eng := (settle_keeps s t).eng.resolve_left (by simp)
@[simp] theorem settle_flt : (settle s t).flt = t.flt := (settle_keeps s t).flt.resolve_left (by simp)
@[simp] theorem settle_qdr : (settle s t).qdr = t.qdr := (settle_keeps s t).qdr.resolve_left (by simp)
@[simp] theorem settle_flash : (settle s t).flash = t.flash := (settle_keeps s t).flash.resolve_left (by simp)
@[simp] theorem settle_held : (settle s t).held = t.held := (settle_keeps s t).held.resolve_left (by simp)
@[simp] theorem settle_pending : (settle s t).pending = t.pending := (settle_keeps s t).pending
theorem settle_out : t.out <:+ (settle s t).out := (settle_moved s t).out

/-- What was put out before a command completes is still put out after. -/
theorem settle_mem {o : Emit} (h : o ∈ t.out) : o ∈ (settle s t).out := (settle_out s t).subset h

theorem mirror_moved : Moves (fun _ => False) t (Peer.mirror s t) := Peer_mirror_moves _ .refl

@[simp] theorem mirror_get : (Peer.mirror s t).get g i j k = t.get g i j k :=
  (mirror_moved s t).get g i j k (fun h => h .vlk) (fun _ h => h.elim) (fun _ h => h.elim)

theorem mirror_keeps : Keeps [] t (Peer.mirror s t) :=
  ((mirror_moved s t).mono (V := (· ∈ ([] : List Part))) (fun _ h => h.elim)).keeps ⟨.vlk, by simp⟩

@[simp] theorem mirror_vlk : (Peer.mirror s t).vlk = t.vlk := (mirror_keeps s t).vlk.resolve_left (by simp)
@[simp] theorem mirror_brx : (Peer.mirror s t).brx = t.brx := (mirror_keeps s t).brx.resolve_left (by simp)
@[simp] theorem mirror_flw : (Peer.mirror s t).flw = t.flw := (mirror_keeps s t).flw.resolve_left (by simp)
@[simp] theorem mirror_frm : (Peer.mirror s t).frm = t.frm := (mirror_keeps s t).frm.resolve_left (by simp)
@[simp] theorem mirror_syn : (Peer.mirror s t).syn = t.syn := (mirror_keeps s t).syn.resolve_left (by simp)
@[simp] theorem mirror_eng : (Peer.mirror s t).eng = t.eng := (mirror_keeps s t).eng.resolve_left (by simp)
@[simp] theorem mirror_flt : (Peer.mirror s t).flt = t.flt := (mirror_keeps s t).flt.resolve_left (by simp)
@[simp] theorem mirror_qdr : (Peer.mirror s t).qdr = t.qdr := (mirror_keeps s t).qdr.resolve_left (by simp)
@[simp] theorem mirror_flash : (Peer.mirror s t).flash = t.flash := (mirror_keeps s t).flash.resolve_left (by simp)
@[simp] theorem mirror_held : (Peer.mirror s t).held = t.held := (mirror_keeps s t).held.resolve_left (by simp)
theorem mirror_out : t.out <:+ (Peer.mirror s t).out := (mirror_moved s t).out
theorem mirror_mem {o : Emit} (h : o ∈ t.out) : o ∈ (Peer.mirror s t).out := (mirror_out s t).subset h

end

theorem runs_done {c : Instr} {s u : State} {p : State → Prop} (e : exec c s = done s u) (h : p (settle s u)) : runs c s p := ⟨_, e, h⟩

theorem runs_mirrored {c : Instr} {s u : State} {p : State → Prop} (e : exec c s = Access.doneMirrored s u)
    (h : p (settle s (Peer.mirror s u))) : runs c s p := ⟨_, e, h⟩

/-! ### The count of an access -/

/-- What the count of an event may write. -/
def counters : List Machine.Field :=
  [F.PMC_INT_CAUSE_OVF, F.PMC_INT_CAUSE_SMP_AVAIL, F.PMC_INT_CAUSE_SMP_DROP, F.PMC_OVF_STAT_OVF, F.PMC_SMP_DROP_RING,
   F.PMC_SMP_STAT_COUNT, H.PMC_CNT, H.PMC_OVF_DUE, H.PMC_OVF_T, H.PMC_RING, H.PMC_TRACE_POS]

/-- A field that the count of an event leaves alone. -/
def uncounted (g : Machine.Field) : Bool := counters.all (fun f => apart f g)

def CountedPart : Part → Prop
  | .qdr => True
  | .fld f => f ∈ counters
  | _ => False

section
variable (s : State) (n c : Nat) (who : Option Pmc.Who) (a : Option Nat)

theorem event_moved : Moves CountedPart s (Pmc.event n c who a s) := by
  apply Pmc_event_moves <;> first | exact .refl | trivial | (simp [CountedPart, counters])

theorem event_get (g : Machine.Field) (i j k : Nat) (h : uncounted g = true) : (Pmc.event n c who a s).get g i j k = s.get g i j k :=
  (event_moved s n c who a).get g i j k (fun h => h .vlk)
    (fun f hf => List.all_eq_true.mp h f hf) (fun _ hf => hf.elim)

@[simp] theorem event_vlk : (Pmc.event n c who a s).vlk = s.vlk :=
  (event_moved s n c who a).untouched_vlk (by simp [CountedPart])
@[simp] theorem event_brx : (Pmc.event n c who a s).brx = s.brx :=
  (event_moved s n c who a).untouched_brx (by simp [CountedPart])
@[simp] theorem event_flw : (Pmc.event n c who a s).flw = s.flw :=
  (event_moved s n c who a).untouched_flw (by simp [CountedPart])
@[simp] theorem event_frm : (Pmc.event n c who a s).frm = s.frm :=
  (event_moved s n c who a).untouched_frm (by simp [CountedPart])
@[simp] theorem event_syn : (Pmc.event n c who a s).syn = s.syn :=
  (event_moved s n c who a).untouched_syn (by simp [CountedPart])
@[simp] theorem event_eng : (Pmc.event n c who a s).eng = s.eng :=
  (event_moved s n c who a).untouched_eng (by simp [CountedPart])
@[simp] theorem event_flt : (Pmc.event n c who a s).flt = s.flt :=
  (event_moved s n c who a).untouched_flt (by simp [CountedPart])
@[simp] theorem event_flash : (Pmc.event n c who a s).flash = s.flash :=
  (event_moved s n c who a).untouched_flash (by simp [CountedPart])
@[simp] theorem event_held : (Pmc.event n c who a s).held = s.held :=
  (event_moved s n c who a).untouched_held (by simp [CountedPart])
@[simp] theorem event_msix : (Pmc.event n c who a s).msix = s.msix :=
  (event_moved s n c who a).untouched_msix (by simp [CountedPart])

end

section
variable (s t : State) (n a : Nat) (who : Pmc.Who)

theorem access_moved : Moves CountedPart t (Pmc.access n who a s t) := by
  apply Pmc_access_moves <;> first | exact .refl | trivial | (simp [CountedPart, counters])

theorem access_get (g : Machine.Field) (i j k : Nat) (h : uncounted g = true) : (Pmc.access n who a s t).get g i j k = t.get g i j k :=
  (access_moved s t n a who).get g i j k (fun h => h .vlk)
    (fun f hf => List.all_eq_true.mp h f hf) (fun _ hf => hf.elim)

@[simp] theorem access_vlk : (Pmc.access n who a s t).vlk = t.vlk :=
  (access_moved s t n a who).untouched_vlk (by simp [CountedPart])
@[simp] theorem access_brx : (Pmc.access n who a s t).brx = t.brx :=
  (access_moved s t n a who).untouched_brx (by simp [CountedPart])
@[simp] theorem access_flw : (Pmc.access n who a s t).flw = t.flw :=
  (access_moved s t n a who).untouched_flw (by simp [CountedPart])
@[simp] theorem access_frm : (Pmc.access n who a s t).frm = t.frm :=
  (access_moved s t n a who).untouched_frm (by simp [CountedPart])
@[simp] theorem access_syn : (Pmc.access n who a s t).syn = t.syn :=
  (access_moved s t n a who).untouched_syn (by simp [CountedPart])
@[simp] theorem access_eng : (Pmc.access n who a s t).eng = t.eng :=
  (access_moved s t n a who).untouched_eng (by simp [CountedPart])
@[simp] theorem access_flt : (Pmc.access n who a s t).flt = t.flt :=
  (access_moved s t n a who).untouched_flt (by simp [CountedPart])
@[simp] theorem access_flash : (Pmc.access n who a s t).flash = t.flash :=
  (access_moved s t n a who).untouched_flash (by simp [CountedPart])
@[simp] theorem access_held : (Pmc.access n who a s t).held = t.held :=
  (access_moved s t n a who).untouched_held (by simp [CountedPart])
@[simp] theorem access_msix : (Pmc.access n who a s t).msix = t.msix :=
  (access_moved s t n a who).untouched_msix (by simp [CountedPart])

end

/-! ### A register write that reaches its block -/

theorem row_takes {s : State} {r : RegId} {i j : Nat} (dword : Nat → Nat) (f : State → State) (h : takes r s = true)
    (hi : r.shape.has i j 0 = true) :
    Bus.row Bus.host r i j dword f s =
      Pmc.access (521 + 2 * Sys.blockOf (r.barAddr 0 0 0)) Bus.host (r.barAddr i j 0) s
        (Bus.follow Bus.host r (Sys.blockOf (r.barAddr 0 0 0)) s (f s)) := by
  simp only [takes, Bool.and_eq_true, Bool.not_eq_true'] at h
  obtain ⟨⟨h1, h2⟩, h3⟩ := h
  unfold Bus.row
  dsimp only
  have : (s.passive && Bus.host.master != 96 && Peer.isMirrored r) = false := by
    have e : (Bus.host.master != 96) = true := by decide
    rw [e, Bool.and_true]
    exact h3
  rw [if_neg (by simp [hi]), if_neg (by simp [h1, h2]), if_neg (by simp [this])]

end Sys2Proof.Laws
end

