-- ==== Sys2Proof/Machine/Code.lean ====
section
/-! DEFINITION. Sys2Proof/Machine/Code.lean: the codes of the SD-FEC (spec/04_bit_loading_and_fec.md, R86 to R92): the LDPC inner code, the
staircase outer code, where a codeword's bits stand in a subcarrier's stream, and the decoders. -/
namespace Sys2Proof.Machine.Fec
open Sys2Proof Sys2Proof.Machine

/-! ### The inner code (R86) -/

/-- Bits of a codeword, and its information bits at rate r. -/
def codeLength : Nat := 34560
def infoBits (r : Nat) : Nat := 256 * (rateParams r).2.1

/-- Row q of the parity-check matrix over the codeword's bits below `n`: with the first k_in bits alone, what the parity must cancel. -/
def check (r n : Nat) (bit : Nat → Bool) (q : Nat) : Bool :=
  (List.range (n / 256)).foldl (fun a j => match circulant r (q / 256) j with
    | some s => a != bit (256 * j + (q % 256 + s) % 256)
    | none => a) false

/-- The parity bits of information bits: the dual diagonal makes each block row's parity the sum of its own row and the one before. -/
def parityRows (r : Nat) (bit : Nat → Bool) : Nat → List (List Bool)
  | 0 => []
  | i + 1 =>
    let prev := parityRows r bit i
    let own := (List.range 256).map (fun x => check r (infoBits r) bit (256 * i + x))
    prev ++ [match prev.getLast? with
      | some p => p.zipWith (· != ·) own
      | none => own]

/-- LDPC parity bits 0, 1, …: codeword bit k_in + q is the q-th. -/
def ldpcParity (r : Nat) (info : List Bool) : List Bool := (parityRows r (fun i => info.getD i false) (rateParams r).1).flatten

/-- Every row of the parity-check matrix is satisfied: the syndrome is zero (R90). -/
def satisfied (r : Nat) (word : List Bool) : Bool :=
  (List.range (256 * (rateParams r).1)).all (fun q => !check r codeLength (fun i => word.getD i false) q)

/-! ### The outer code (R87; its generator notes/assumptions/85.md) -/

/-- The generator of the BCH code (1023, 1003): the product of the minimal polynomials of α and α³, x¹⁰ + x³ + 1 and
x¹⁰ + x³ + x² + x + 1. -/
def bchGenerator : Nat := 0x101877

/-- One information bit through the divider. -/
def bchStep (reg : Nat) (b : Bool) : Nat :=
  let f := reg.testBit 19 != b
  let reg := reg * 2 % 2 ^ 20
  if f then reg ^^^ (bchGenerator % 2 ^ 20) else reg

/-- The 20 parity bits of 620 information bits, first bit highest. -/
def bchParity (info : List Bool) : List Bool :=
  let reg := info.foldl bchStep 0
  (List.range 20).map (fun i => reg.testBit (19 - i))

/-- A row of 640 bits is a codeword. -/
def bchOk (row : List Bool) : Bool := bchParity (row.take 620) == row.drop 620

/-- Column r of a block of 320 rows. -/
def column (block : List (List Bool)) (r : Nat) : List Bool := (List.range 320).map (fun i => (block.getD i []).getD r false)

/-- Block B_i from block B_(i−1) and 96,000 information bits in row order; B_0 is all zeros, the empty list. -/
def staircase (prev : List (List Bool)) (info : List Bool) : List (List Bool) :=
  (List.range 320).map (fun r =>
    let row := (info.drop (300 * r)).take 300
    row ++ bchParity (column prev r ++ row))

/-- The parity of a block, in row order. -/
def parityOf (block : List (List Bool)) : List Bool := block.flatMap (fun row => row.drop 300)

/-! ### Placement (R88) -/

/-- What a position of a codeword's span carries: LDPC parity, staircase parity or staircase information. -/
inductive Source where
  | ldpc | outer | info
  deriving DecidableEq, Repr

/-- The sources of a span, its last position first: `signs` counts the sign positions already met; true marks a sign position. -/
def placeFrom (r : Nat) : List Bool → Nat → List Source
  | [], _ => []
  | false :: rest, n => .info :: placeFrom r rest n
  | true :: rest, n =>
    (if n < codeLength - infoBits r then .ldpc else if n < codeLength - infoBits r + infoBits r / 16 then .outer else .info) ::
      placeFrom r rest (n + 1)

/-- The sources of a codeword's positions: the last n − k_in sign positions carry LDPC parity, the k_in/16 before them staircase
parity, and all others staircase information. -/
def place (r : Nat) (isSign : List Bool) : List Source := (placeFrom r isSign.reverse 0).reverse

/-- The positions of a block of a constellation in the stream: label bits, then sign bits; true marks a sign. `y` is of the polarisation. -/
def blockSigns (const h : Nat) (y : Bool) : List Bool :=
  if const = 0 then List.replicate (if h % 2 = 1 then (if y then h - 1 else h + 1) else h) true
  else List.replicate (128 * const) false ++ List.replicate 128 true

/-- The sign positions of a whole frame of a subcarrier under an entry, in stream order: 254 pairs of shaping blocks, X then Y. -/
def frameSigns (entry : Nat) : List Bool :=
  ((List.range 254).map (fun _ =>
    blockSigns (slice entry 3 2) (slice entry 5 9) false ++ blockSigns (slice entry 3 2) (slice entry 5 9) true)).flatten

/-- The staircase parity stream: 6,400 zero bits, then the parity of B_1, B_2, … in row order. -/
def parityStream (blocks : List (List (List Bool))) : List Bool := List.replicate 6400 false ++ blocks.flatMap parityOf

/-- Fill the positions of a span with what each carries: LDPC parity from `p`, staircase parity from `o`, information from `i`. -/
def fill : List Source → List Bool → List Bool → List Bool → List Bool
  | [], _, _, _ => []
  | .ldpc :: rest, p, o, i => p.headD false :: fill rest p.tail o i
  | .outer :: rest, p, o, i => o.headD false :: fill rest p o.tail i
  | .info :: rest, p, o, i => i.headD false :: fill rest p o i.tail

/-- The coded stream positions of one LDPC codeword from the next bits of the staircase's parity and information streams (R86, R88): the
codeword's information bits are those positions in stream order, and its parity fills the rest. -/
def encodeSpan (r : Nat) (isSign outer info : List Bool) : List Bool :=
  let src := place r isSign
  fill src (ldpcParity r (fill (src.filter (· != .ldpc)) [] outer info)) outer info

/-- A received span as the bits of its codeword: information positions in stream order, then parity. -/
def codewordOf {α : Type} (r : Nat) (isSign : List Bool) (span : List α) : List α :=
  let l := (place r isSign).zip span
  (l.filter (fun x => x.1 != .ldpc)).map Prod.snd ++ (l.filter (fun x => x.1 == .ldpc)).map Prod.snd

/-! ### Decoding (R90) -/

/-- The codeword bits that row q of the parity-check matrix connects. -/
def neighbours (r q : Nat) : List Nat :=
  (List.range 135).filterMap (fun j => (circulant r (q / 256) j).map (fun s => 256 * j + (q % 256 + s) % 256))

/-- One row of the normalised min-sum: `l` the soft values so far, `old` the row's messages; the new soft values and messages. -/
def rowUpdate (r : Nat) (bits : List Nat) (l old : List Int) : List Int × List Int :=
  let t := (bits.zip old).map (fun x => l.getD x.1 0 - x.2)
  let msg := t.zipIdx.map (fun x =>
    let others := t.eraseIdx x.2
    let least := (others.map Int.natAbs).min?.getD 0
    let m : Int := ((least * Config.minSumScale r / 256 : Nat) : Int)
    if (others.filter (fun (v : Int) => decide (v < 0))).length % 2 = 1 then -m else m)
  ((bits.zip (t.zip msg)).foldl (fun (a : List Int) x => a.set x.1 (x.2.1 + x.2.2)) l, msg)

/-- One iteration: every row of the matrix in turn, layer by layer. -/
def iterate (r : Nat) (l : List Int) (msgs : List (List Int)) : List Int × List (List Int) :=
  (List.range (256 * (rateParams r).1)).foldl (fun (a : List Int × List (List Int)) q =>
    let bits := neighbours r q
    let u := rowUpdate r bits a.1 (a.2.getD q (bits.map (fun _ => 0)))
    (u.1, a.2.set q u.2)) (l, msgs)

/-- Hard decisions: a negative value is a 1. -/
def hard (l : List Int) : List Bool := l.map (fun v => decide (v < 0))

/-- At most `n` iterations; with early termination the decoder stops at the first zero syndrome. The answer is the hard decisions, whether
the syndrome is zero, and the iterations made. -/
def ldpcDecode (r : Nat) (et : Bool) : Nat → Nat → List Int → List (List Int) → List Bool × Bool × Nat
  | 0, i, l, _ => (hard l, satisfied r (hard l), i)
  | n + 1, i, l, msgs =>
    if et && satisfied r (hard l) then (hard l, true, i)
    else let u := iterate r l msgs; ldpcDecode r et n (i + 1) u.1 u.2

/-- A row with up to two errors corrected; none where no codeword is that near. -/
def bchCorrect (row : List Bool) : Option (List Bool) :=
  let flip := fun (w : List Bool) (i : Nat) => w.set i (!w.getD i false)
  let at_ := List.range 640
  if bchOk row then some row
  else match at_.find? (fun i => bchOk (flip row i)) with
    | some i => some (flip row i)
    | none => (at_.findSome? (fun i => (at_.find? (fun j => decide (j < i) && bchOk (flip (flip row i) j))).map (fun j => flip (flip row i) j)))

/-- Two neighbouring blocks after their 320 rows have been corrected where that is possible. -/
def correctPair (prev cur : List (List Bool)) : List (List Bool) × List (List Bool) :=
  let rows := (List.range 320).map (fun i =>
    let row := column prev i ++ cur.getD i []
    (bchCorrect row).getD row)
  ((List.range 320).map (fun i => rows.map (fun w => w.getD i false)), rows.map (fun w => w.drop 320))

/-- One pass over the blocks after `prev`, oldest first. -/
def sweepFrom (prev : List (List Bool)) : List (List (List Bool)) → List (List (List Bool))
  | [] => [prev]
  | b :: rest => let p := correctPair prev b; p.1 :: sweepFrom p.2 rest

/-- One pass over a window. -/
def sweep (w : List (List (List Bool))) : List (List (List Bool)) := sweepFrom (w.headD []) w.tail

/-- The window of five blocks decoded; rows of its oldest pair whose syndrome is not zero afterwards are counted in PM_FAIL.ROWS (R91). -/
def staircaseDecode (window : List (List (List Bool))) : List (List (List Bool)) × Nat :=
  let w := (List.range Config.staircasePasses).foldl (fun a _ => sweep a) (window.take 5)
  (w, ((List.range 320).filter (fun i => !bchOk (column (w.getD 0 []) i ++ (w.getD 1 []).getD i []))).length)

/-- Corrected bits of a codeword (R92): hard decisions at the decoder's input that differ from its output. -/
def corrected (l : List Int) (out : List Bool) : Nat := (((hard l).zip out).filter (fun x => x.1 != x.2)).length

end Sys2Proof.Machine.Fec
end

