-- ==== Sys2Proof/Machine/Viterbi.lean ====
section
/-! DEFINITION. Sys2Proof/Machine/Viterbi.lean: the soft-decision decoder of the tail-biting code of R101, and what a leaf and the hub read
from what it gives: a Voluman frame, a management container, a burst's header and payload (spec/05_point_to_multipoint.md, R101 to R104;
spec/06_burst_reception.md, R124, R125, R131). -/
namespace Sys2Proof.Machine.Viterbi
open Sys2Proof Sys2Proof.Machine

/-- A 6-bit LLR of R68 as the decoder's 3-bit input: −4 to 3, positive for a 0 (notes/assumptions/89.md: the spec gives no steps). -/
def soft (llr : Int) : Int := clampInt (-4) 3 (llr / 8)

/-- What the path that ends in a state has gathered: its metric, larger for more likely, and its last input bits, newest first. -/
structure Path where
  metric : Int
  bits : List Nat

/-- The metric of one coded bit against its input: half steps, so that −4 to 3 weigh alike about their centre. -/
def branch (coded : Nat) (x : Int) : Int := if coded = 0 then 2 * x + 1 else -(2 * x + 1)

/-- One stage: the 64 paths meet the two inputs of the next information bit. State n holds the last six bits, newest in bit 5. -/
def stage (paths : List Path) (a b : Int) : List Path :=
  (List.range 64).map (fun n =>
    let via := fun (o : Nat) =>
      let p := paths.getD (n % 32 * 2 + o) ⟨0, []⟩
      let c := Vlk.encodeBit (n / 32 * 64 + n % 32 * 2 + o)
      (⟨p.metric + branch (c.getD 0 0) a + branch (c.getD 1 0) b, (n / 32 :: p.bits).take 96⟩ : Path)
    let p := via 0
    let q := via 1
    if q.metric ≤ p.metric then p else q)

/-- The most likely path. -/
def best : List Path → Path
  | [] => ⟨0, []⟩
  | p :: rest => rest.foldl (fun a b => if b.metric ≤ a.metric then a else b) p

/-- The stages run on, and each gives the bit that the most likely path had 96 stages before, the traceback. -/
def decodeFrom (paths : List Path) : List (Int × Int) → List Nat
  | [] => []
  | x :: rest =>
    let paths := stage paths x.1 x.2
    (best paths).bits.getD 95 0 :: decodeFrom paths rest

/-- The inputs in pairs. -/
def pairs : List Int → List (Int × Int)
  | a :: b :: rest => (a, b) :: pairs rest
  | _ => []

/-- The decoder (R101): it starts 96 stages before the first bit of the frame and wraps round it; a bit comes out with a traceback of 96. -/
def decode (llrs : List Int) : List Nat :=
  let x := pairs (llrs.map soft)
  let n := x.length
  if n = 0 then []
  else
    let at_ := fun (i : Nat) => x.getD ((i + (96 * n - 96)) % n) (0, 0)
    (decodeFrom (List.replicate 64 ⟨0, []⟩) ((List.range (n + 191)).map at_)).drop 191

/-- Bits as bytes, most significant bit first. -/
def bytesOfBits : List Nat → List Nat
  | a :: b :: c :: d :: e :: f :: g :: h :: rest => Signal.number [a, b, c, d, e, f, g, h] :: bytesOfBits rest
  | _ => []

/-- Decoded bits after the descrambler, as bytes. -/
def descrambled (bits : List Nat) : List Nat := bytesOfBits ((Frm.scramble (bits.map (· == 1))).map b01)

/-- The LLRs of a VDF in coded order from those of each shaping block, X then Y (R101). -/
def vdfOrder (x y : List (List Int)) : List Int := ((x.zip y).map (fun b => b.1 ++ b.2)).flatten

/-- A frame's bytes and whether its CRC-32C over all but the last four passes (R102, R103). -/
def crcOk (frame : List Nat) : Bool := decide (bytesOf [crcBytes (frame.take (frame.length - 4))] = frame.drop (frame.length - 4))

/-- The bytes of a VDF from its coded bits' LLRs. -/
def vdfBytes (llrs : List Int) : List Nat := descrambled (decode llrs)

/-- The fields of Table VLK-1: TREE_ID, beacon, FEEDER, REG_OPEN, MFN, FN, WAKE, GRANT_VER, GRANT_ANN, GRANT_NEXT. -/
def vdfFields (b : List Nat) : List Nat :=
  let at_ := fun i => b.getD i 0
  let flags := at_ 2 + 256 * at_ 3
  [at_ 0 + 256 * at_ 1, flags % 512, slice flags 9 1, slice flags 10 1, at_ 4 + 256 * at_ 5 + 65536 * at_ 6, at_ 7,
    (List.range 8).foldl (fun a j => a + at_ (8 + j) * 2 ^ (8 * j)) 0, at_ 16, at_ 17, at_ 18]

/-- The messages of an area, back to back, each as its words, and whether one of an illegal length discards the rest; LEN 0 ends the area
(R102, R104). `fuel` bounds their number. -/
def messages : Nat → List Nat → List (List Nat) × Bool
  | 0, _ => ([], false)
  | fuel + 1, b =>
    let len := b.getD 4 0 + 256 * b.getD 5 0
    if b.length < 8 ∨ len = 0 then ([], false)
    else if !Vlk.lenOk len || decide (b.length < len) then ([], true)
    else
      let r := messages fuel (b.drop len)
      (wordsOf (b.take len) :: r.1, r.2)

/-- What a VDF holds: its fields, its CRC, its messages and whether one was illegal. -/
def readVdf (frame : List Nat) : List Nat × Bool × List (List Nat) × Bool :=
  (vdfFields frame, crcOk frame, messages 63 ((frame.drop 28).take 4032))

/-- What a management container holds (R103). -/
def readContainer (frame : List Nat) : Bool × List (List Nat) × Bool := (crcOk frame, messages 63 (frame.take 4092))

/-- A burst's header from the LLRs of its 96 symbols: the 32 bits and whether their CRC-16 passes (R124, R131). -/
def header (llrs : List Int) : Nat × Bool :=
  let b := decode llrs
  let word := Signal.number (b.take 32)
  (word, Frm.crc 16 0x1021 0xFFFF (Frm.bitsOf 32 word) == Signal.number (b.drop 32))

/-- A burst's payload from its LLRs: the message's bytes and whether its CRC-32C passes (R125, R132). -/
def payload (llrs : List Int) : List Nat × Bool :=
  let b := descrambled (decode llrs)
  (b.take (b.length - 4), crcOk b)

end Sys2Proof.Machine.Viterbi
end

