-- ==== Sys2Proof/Machine/Ibex.lean ====
section
/-! DEFINITION. Sys2Proof/Machine/Ibex.lean: burst reception on samples (spec/06_burst_reception.md, R122, R123, R126, R128, R129, R131, R132,
R136, R140): what the operands of PEAK_DETECT, HEADER_DECISION, BURST_CLOSE, GAP_CLOSE and FADE are computed from. -/
namespace Sys2Proof.Machine.Ibex
open Sys2Proof Sys2Proof.Machine

/-! ### The burst as it is sent (R122, R123) -/

/-- A burst symbol as a complex number of unit magnitude, or nothing. -/
def unit : Signal.BurstSymbol → Cx
  | .zero => {}
  | .phase p => cis (Q.mk' p 512)
  | .point i q => Cx.scale (Q.div (Q.int 1) (Q.sqrt (Q.int 2))) ⟨Q.int i, Q.int q⟩

/-- Symbol s of a burst on subcarrier k: the power offset of the subcarrier's BURST entry applies to all but the guard, which is zero
(R122, R34). -/
def sent (s : State) (k word : Nat) (message : List Nat) (y : Bool) (n : Nat) : Cx :=
  Cx.scale (Line.powerFactor (s.get H.LTX_ACTIVE k)) (unit (Signal.burst word message y n))

/-- The preamble at position n on X or Y. -/
def preamble (y : Bool) (n : Nat) : Cx := cis (Q.mk' (Signal.phase (if y then (n + 128) % 256 else n)) 512)

/-! ### Channels and the gain (R126, R128) -/

/-- The frequency hypotheses in MHz: steps of B/(32N) across ±(W + 0.25) Δ. -/
def hypotheses (s : State) : List Q :=
  let n := Lrx.subcarriers s
  let step := Q.mk' (s.get F.LRX_LINE_CFG_BAUD_MBD) (32 * n)
  let range := Q.mk' (Brx.capture s : Nat) 10
  let m := (Q.div range step).num / ((max 1 (Q.div range step).den : Nat) : Int)
  (List.range (2 * m.toNat + 1)).map (fun (i : Nat) => Q.mul (Q.int ((i : Int) - m)) step)

/-- The gain of a channel in dB tenths: it puts an input of `level` at the target, within its range of 40 dB. The spec gives the target no
value; nothing the block shows depends on it. -/
def gain (level : Int) : Int := clampInt 0 400 (Config.ibexTarget - level)

/-! ### Detection (R129) -/

/-- The energy of the branch at frequency f (MHz) on the 160 symbols that preamble positions 96 to 255 would take: both polarisations against
both sequences, coherent over 20 symbols, the 8 segments added. `rate` is the symbol rate in MBd. -/
def correlation (rate f : Q) (x y : List Cx) : Q :=
  let turn := fun (i : Nat) => cis (Q.neg (Q.div (Q.mul f (Q.int i)) rate))
  let dot := fun (w : List Cx) (seq : Bool) (seg : Nat) =>
    (Cx.sum ((List.range 20).map (fun i =>
      let n := 20 * seg + i
      Cx.mul (Cx.mul (w.getD n {}) (turn n)) (Cx.conj (preamble seq (96 + n)))))).norm2
  Q.sum ((List.range 8).map (fun seg =>
    Q.add (Q.add (dot x false seg) (dot x true seg)) (Q.add (dot y false seg) (dot y true seg))))

/-- Tenths of a decibel of a ratio of powers, rounded to the nearest. -/
def decibels (num den : Q) : Int :=
  Q.round (Q.mul (Q.int 100) (Q.div (lnQ (Q.div num den)) (lnQ (Q.int 10))))

/-- Q: the energy against its mean over the 64 symbols before, in 0.1 dB. -/
def quality (energy : Q) (before : List Q) : Int := decibels energy (Q.div (Q.sum before) (Q.int (max 1 before.length)))

/-- Λ: the preamble power that the energy implies, in 0.1 dBL; samples are in LSB at the channel filter's input, the gain removed. A preamble of
mean power P on both polarisations correlates to 2 × 8 × 20² × P. -/
def lambda (energy : Q) : Int := decibels energy (Q.int 6400)

/-! ### The header and the payload (R131, R132) -/

/-- The peak between symbols, in 1/64 symbol: the vertex of the parabola through the energies before, at and after it (notes/assumptions/50.md). -/
def interpolated (e0 e1 e2 : Q) : Int :=
  let d := Q.sub (Q.add e0 e2) (Q.mul (Q.int 2) e1)
  if d.isZero then 0 else clampInt (-32) 32 (Q.round (Q.div (Q.mul (Q.int 32) (Q.sub e0 e2)) d))

/-- The equations of the least-squares equaliser for one output: 7 samples of each polarisation about each preamble position. -/
def equations (x y : List Cx) (out : Bool) : List (List Q × Q) :=
  (List.range 160).flatMap (fun n =>
    let w := (List.range 7).map (fun i => x.getD (n + i) {}) ++ (List.range 7).map (fun i => y.getD (n + i) {})
    let d := preamble out (96 + n)
    [(w.map (·.re) ++ w.map (fun c => Q.neg c.im), d.re), (w.map (·.im) ++ w.map (·.re), d.im)])

/-- Its 14 taps, X's first; `x` and `y` hold the symbols from 3 before preamble position 96 to 3 after position 255. -/
def equaliser (x y : List Cx) (out : Bool) : Option (List Cx) :=
  (fitLeast 28 (equations x y out)).map (fun v => (List.range 14).map (fun i => ⟨v.getD i {}, v.getD (14 + i) {}⟩))

/-- The equalised symbol from its 7 samples of each polarisation. -/
def equalised (taps : List Cx) (wx wy : List Cx) : Cx := Cx.sum ((taps.zip (wx ++ wy)).map (fun e => Cx.mul e.1 e.2))

/-- A header symbol's LLR: X and Y carry it alike, along (1 + j)/√2; `var` is the noise variance. -/
def headerLlr (var : Q) (x y : Cx) : Int :=
  Receive.quantised (Q.div (Q.mul (Q.int 2) (Q.sum [x.re, x.im, y.re, y.im])) (Q.mul (Q.sqrt (Q.int 2)) var))

/-- HEADER_DECISION's operands from 96 header symbols (R131). -/
def headerOperands (var : Q) (x y : List Cx) : Nat × Nat :=
  let r := Viterbi.header ((x.zip y).map (fun e => headerLlr var e.1 e.2))
  (r.1, b01 r.2)

/-- The end marker's correlation with what was sent, in 1/256 of its ideal value (R132). -/
def endMarker (x y : List Cx) : Nat :=
  let c := Cx.sum ((List.range 32).map (fun n =>
    Cx.add (Cx.mul (x.getD n {}) (Cx.conj (preamble false n))) (Cx.mul (y.getD n {}) (Cx.conj (preamble true n)))))
  (Q.round (Q.mul (Q.int 4) (Q.sqrt c.norm2))).toNat

/-- SNR of the record (R140): the formula of R66 over the header and payload decisions. -/
def snr (l : List (Cx × Cx)) : Nat := let r := Receive.sums l; Receive.sixteenths (Q.round (Q.mul (Q.int 1000000) r.1)).toNat (Q.round (Q.mul (Q.int 1000000) r.2)).toNat

/-! ### Energy (R136) -/

/-- The mean of |y|² over the last 4 symbols of both polarisations, in 0.1 dBL, the gain removed. -/
def energy (x y : List Cx) : Int :=
  decibels (Q.add (Q.sum (x.map (·.norm2))) (Q.sum (y.map (·.norm2)))) (Q.int (max 1 (x.length + y.length)))

end Sys2Proof.Machine.Ibex
end

