-- ==== Sys2Proof/Machine/Otu.lean ====
section
/-! DEFINITION. Sys2Proof/Machine/Otu.lean: the OTUC frame of a FlexO client as FRM generates and terminates it (spec/07_framing_and_overhead.md,
R171), and the interleaving of a group's instances (spec/08_host_lanes.md, R178). The places of the fields are PRESUMED of ITU-T G.709, which
R171 names (notes/assumptions/90.md). A frame is its 4 rows of 3,824 bytes, one after the other. -/
namespace Sys2Proof.Machine.Otu
open Sys2Proof Sys2Proof.Machine

/-- The place of a byte: row and column count from 1. -/
def at_ (row col : Nat) : Nat := 3824 * (row - 1) + (col - 1)

/-- The byte of a frame at a row and column. -/
def byte (frame : List Nat) (row col : Nat) : Nat := frame.getD (at_ row col) 0

/-- Bytes put into a frame from a row and column on. -/
def put (row col : Nat) (bytes frame : List Nat) : List Nat :=
  bytes.zipIdx.foldl (fun f b => f.set (at_ row col + b.2) b.1) frame

/-- The frame alignment signal. -/
def fas : List Nat := [0xF6, 0xF6, 0xF6, 0x28, 0x28, 0x28]

/-- BIP-8 of a frame: even parity of each bit position over columns 15 to 3,824 of its rows. -/
def bip8 (frame : List Nat) : Nat :=
  (List.range 4).foldl (fun a r => ((frame.drop (3824 * r + 14)).take 3810).foldl (fun x b => x ^^^ b % 256) a) 0

/-- The overhead of a section: TTI byte, BIP-8 of the frame two before, and BEI, BDI and the low bits (SM: IAE and RES, sent as 0; PM: STAT). -/
def section_ (tti bip bei : Nat) (bdi : Bool) (low : Nat) : List Nat := [tti % 256, bip % 256, bei % 16 * 16 + b01 bdi * 8 + low % 8]

/-- What FRM sends in a frame of client c with a multiframe count: its TTI (R171), and per section the parity, BEI and BDI. The other overhead
passes through. -/
def generate (s : State) (mfas : Nat) (sm pm : Nat × Nat × Bool) (stat : Nat) (frame : List Nat) : List Nat :=
  let i := mfas % 64
  let tti := s.get F.FRM_TTI_TX_DATA (i / 4) / 256 ^ (i % 4)
  put 3 10 (section_ tti pm.1 pm.2.1 pm.2.2 stat) (put 1 8 (section_ tti sm.1 sm.2.1 sm.2.2 0) (put 1 1 (fas ++ [mfas % 256]) frame))

/-- Bit positions in which the parity of a frame and the parity sent two frames later differ. -/
def violations (frame later : List Nat) (row col : Nat) : Nat := popBits 8 (bip8 frame ^^^ byte later row col % 256)

/-- BEI as it counts: 0 to 8, and other values as 0. -/
def bei (frame : List Nat) (row col : Nat) : Nat := let b := byte frame row col / 16 % 16; if 8 < b then 0 else b

/-- The sum over the frames of a list. -/
def total (l : List (List Nat)) (f : List Nat → Nat) : Nat := (l.map f).foldl (· + ·) 0

/-- Each frame of a list with the one two later. -/
def pairs (l : List (List Nat)) : List (List Nat × List Nat) := l.zip (l.drop 2)

/-- Violations of a section over the frames of a list. -/
def allViolations (l : List (List Nat)) (row col : Nat) : Nat := ((pairs l).map (fun x => violations x.1 x.2 row col)).foldl (· + ·) 0

/-- A multiframe as it is terminated (R171): 64 frames from multiframe count 0 of a TTI on, with the two frames before them. IAE, BIAE and the
overhead that passes through are not read. -/
def terminate (aligned multi : Bool) (frames : List (List Nat)) : OtuFrames :=
  let l := frames.drop 2
  let last := l.getLastD []
  { aligned := aligned, multi := multi, stat := byte last 3 12 % 8, bdi := (byte last 1 10).testBit 3,
    tti := l.map (fun f => byte f 1 8), smBip := allViolations frames 1 9, smBei := total l (fun f => bei f 1 10),
    pmBip := allViolations frames 3 11, pmBei := total l (fun f => bei f 3 12) }

/-- The frame is aligned: its first six bytes are the FAS. -/
def inFrame (frame : List Nat) : Bool := frame.take 6 == fas

/-! ### A group's instances (R178) -/

/-- The n instances of a group interleaved, 16 bytes of each in turn. -/
def join (instances : List (List Nat)) : List Nat :=
  let n := (instances.map List.length).foldl max 0 / 16
  (List.range n).flatMap (fun i => instances.flatMap (fun x => (x.drop (16 * i)).take 16))

/-- The instances of an OTUCn of n, on egress. -/
def split (n : Nat) (bytes : List Nat) : List (List Nat) :=
  let blocks := bytes.length / (16 * n)
  (List.range n).map (fun k => (List.range blocks).flatMap (fun i => (bytes.drop (16 * (n * i + k))).take 16))

end Sys2Proof.Machine.Otu
end

