-- ==== Sys2Proof/Machine/Stream.lean ====
section
/-! DEFINITION. Sys2Proof/Machine/Stream.lean: container frames as bytes, the information stream they make, and its scrambling
(spec/07_framing_and_overhead.md, R148 to R150). -/
namespace Sys2Proof.Machine.Stream
open Sys2Proof Sys2Proof.Machine

/-- The 6,000 bytes of a container frame (R149, R150): the header with its CRC-16 and a payload of 5,984 bytes, of which an encrypted one keeps
the last 16 for its tag (R205). -/
def cfBytes (encrypted : Bool) (f : Cf) : List Nat :=
  Cry.headerBytes f ++ (if encrypted then padTo 5968 f.payload ++ bytesBig 16 f.tag else padTo 5984 f.payload)

/-- The information stream of a list of container frames, laid end to end; each byte's most significant bit first (R149). -/
def infoOf (cfs : List (List Nat)) : List Bool := (cfs.flatten).flatMap (Frm.bitsOf 8)

/-- A byte from eight bits, the first the most significant. -/
def byteOf (bits : List Bool) : Nat := bits.foldl (fun a b => 2 * a + b01 b) 0

/-- The bytes of a stream of bits: at most `n` of them. -/
def bytesFrom : Nat → List Bool → List Nat
  | 0, _ => []
  | n + 1, bits => if bits.length < 8 then [] else byteOf (bits.take 8) :: bytesFrom n (bits.drop 8)

/-- The information stream cut into container frames of 6,000 bytes from a boundary on (R149). -/
def cut (info : List Bool) : List (List Nat) := blocksOf 5999 info.length (bytesFrom info.length info)

/-- Container frames of a superblock (R149): its information bits over 48,000. -/
def perSuperblock (rate : Nat) : Nat := [54, 6, 16].getD rate 0

/-- The next container frame begins this many information bits after position 0 of a superblock of which `done` bits have passed. -/
def nextBoundary (done : Nat) : Nat := ceilDiv done 48000 * 48000

/-- The positions of a stream that carry staircase information, from the sign positions of its codewords' spans (R88). -/
def infoAt (rate : Nat) (spans : List (List Bool)) : List Bool := spans.flatMap (fun x => (Fec.place rate x).map (· == .info))

/-- The information positions of each frame: `sizes` gives each frame's coded positions (R148). -/
def frameShares : List Nat → List Bool → List Nat
  | [], _ => []
  | n :: rest, l => ((l.take n).filter id).length :: frameShares rest (l.drop n)

/-- The payload scrambler over the information stream (R148), restarted at the first covered bit of each frame; applied again it descrambles. -/
def scrambleFrames : List Nat → List Bool → List Bool
  | [], _ => []
  | n :: rest, info => Frm.scramble (info.take n) ++ scrambleFrames rest (info.drop n)

/-- What the SD-FEC encoder takes of a stream of container frames: their bits, scrambled frame by frame, after CRY (R148). -/
def encoderInput (rate : Nat) (spans : List (List Bool)) (sizes : List Nat) (cfs : List (List Nat)) : List Bool :=
  scrambleFrames (frameShares sizes (infoAt rate spans)) (infoOf cfs)

/-- What the receiver cuts container frames from: the decoder's information bits, descrambled frame by frame (R148, R149). -/
def decoderOutput (rate : Nat) (spans : List (List Bool)) (sizes : List Nat) (info : List Bool) : List (List Nat) :=
  cut (scrambleFrames (frameShares sizes (infoAt rate spans)) info)

end Sys2Proof.Machine.Stream
end

