-- ==== Sys2Proof/WellFormed.lean ====
section
/-! DEFINITION. Sys2Proof/WellFormed.lean: the commands that the block's interfaces can carry: every operand in the range that its
register index, field or message field has. `Machine.exec` is total and does not ask. -/
namespace Sys2Proof

/-- A number of Table SYS-4 that names a master. -/
def masterOk (m : Nat) : Bool :=
  (decide (1 ≤ m) && decide (m ≤ 9)) || (decide (16 ≤ m) && decide (m < 80)) || m == 96 || m == 97

/-- A dword of BAR0, or of the BAR2 of the function that asks, given from 0x1000000 on (R383). -/
def addrOk (a : Nat) : Bool := a % 4 == 0 && decide (a ≤ 0x1002000)

/-- Dwords as they come in a message or a record. -/
def dwords (l : List Nat) : Bool := l.all (fun w => decide (w < 2 ^ 32))

/-- The command can be sent. -/
def Instr.wellFormed : Instr → Bool
  | .registerWrite master addr value be => masterOk master && addrOk addr && decide (value < 2 ^ 32) && decide (be < 16)
  | .readClear master addr => masterOk master && addrOk addr
  | .snapshotRead master addr => masterOk master && addrOk addr
  | .pcieUnsupportedRequest _ function addr => decide (function < 8) && decide (addr < 1024)
  | .sysLock value => decide (value < 2 ^ 32)
  | .bridgePrefilled b => decide (b < 646)
  | .bridgeUnderflow b => decide (b < 646)
  | .bridgeOverflow b => decide (b < 646)
  | .slackLow m _ => decide (m < 16)
  | .hardMarginCrossing m _ => decide (m < 16)
  | .avsDecreaseRequest _ => true
  | .autoRelease _ => true
  | .release _ => true
  | .actionReleaseEffect => true
  | .slackCfgWrite m value => decide (m < 16) && decide (value < 2 ^ 32)
  | .ltxEnable => true
  | .ltxStart => true
  | .ltxDisable => true
  | .hostMute value => decide (value < 2)
  | .muteResume => true
  | .loadSwap d => decide (d < 2)
  | .freqOfsWrite value => decide (value < 2 ^ 32)
  | .freqOfsApply => true
  | .cdpreGo => true
  | .cdpreFadeDone _ => true
  | .skewWrite d value => decide (d < 4) && decide (value < 2 ^ 32)
  | .skewSlewDone _ => true
  | .peqSwap => true
  | .peqSwapApply => true
  | .pdSwap => true
  | .pdSwapApply => true
  | .lrxEnable => true
  | .lrxDisable => true
  | .losSet _ => true
  | .losClear _ => true
  | .losHoldExpiry => true
  | .cdGo => true
  | .cdArm => true
  | .cdDisarm => true
  | .cdFadeDone _ => true
  | .cdEstimateDone _ => true
  | .coarseLock _ _ => true
  | .acqTmo => true
  | .scLock k _ => decide (k < 512)
  | .scUnlock k _ => decide (k < 512)
  | .trackLost => true
  | .singular k _ _ => decide (k < 512)
  | .cycleSlip k _ => decide (k < 512)
  | .lofbUpdate _ => true
  | .lofbOffloadDone => true
  | .lofbErr => true
  | .restart => true
  | .snrLatch _ _ _ => true
  | .dmErr k _ => decide (k < 512)
  | .tapSetSwitch k l _ => decide (k < 512) && decide (l < 512)
  | .commitDs => true
  | .commitUs => true
  | .abortDs => true
  | .abortUs => true
  | .loadAnnounce d => decide (d < 2)
  | .loadAckTmo d => decide (d < 2)
  | .fecCfgWrite value => decide (value < 2 ^ 32)
  | .codewordDecode k _ iter _ _ l => decide (k < 512) && decide (l < 512) && decide (iter < 19)
  | .vlkEnable => true
  | .vlkDisable => true
  | .vdfReceive _ beacon feeder _ mfn _ _ _ _ crcOk _ =>
    decide (beacon < 512) && decide (feeder < 2) && decide (mfn < 2 ^ 24) && decide (crcOk < 2)
  | .beaconLost _ => true
  | .mgmtContainer crcOk _ => decide (crcOk < 2)
  | .treeInfo addr flags seq _ _ _ _ _ _ _ _ => decide (addr < 1024) && decide (flags < 4) && decide (seq < 256)
  | .regReq _ => true
  | .regAssign addr flags seq _ _ _ _ _ _ _ _ _ _ _ start =>
    decide (addr < 1024) && decide (flags < 4) && decide (seq < 256) && decide (start < 2 ^ 24)
  | .regReject _ _ => true
  | .regConfirm l flags seq => decide (l < 512) && decide (flags < 4) && decide (seq < 256)
  | .dereg addr flags seq => decide (addr < 1024) && decide (flags < 4) && decide (seq < 256)
  | .rangeAdj addr flags seq _ => decide (addr < 1024) && decide (flags < 4) && decide (seq < 256)
  | .freqAdj addr flags seq _ => decide (addr < 1024) && decide (flags < 4) && decide (seq < 256)
  | .grantTable addr flags seq ver _ => decide (addr < 1024) && decide (flags < 4) && decide (seq < 256) && decide (ver < 256)
  | .grantAck l flags seq ver status =>
    decide (l < 512) && decide (flags < 4) && decide (seq < 256) && decide (ver < 256) && decide (status < 256)
  | .loadTable addr flags seq d ver _ entries =>
    decide (addr < 1024) && decide (flags < 4) && decide (seq < 256) && decide (d < 2) && decide (ver < 256) && dwords entries
  | .loadAck l flags seq d ver => decide (l < 512) && decide (flags < 4) && decide (seq < 256) && decide (d < 2) && decide (ver < 256)
  | .loadNak l flags seq d ver => decide (l < 512) && decide (flags < 4) && decide (seq < 256) && decide (d < 2) && decide (ver < 256)
  | .loadCancel addr flags seq d ver =>
    decide (addr < 1024) && decide (flags < 4) && decide (seq < 256) && decide (d < 2) && decide (ver < 256)
  | .loadMismatch l flags seq d => decide (l < 512) && decide (flags < 4) && decide (seq < 256) && decide (d < 2)
  | .snrReport l flags seq _ vals => decide (l < 512) && decide (flags < 4) && decide (seq < 256) && dwords vals
  | .regWrite addr flags seq pairs =>
    decide (addr < 1024) && decide (flags < 4) && decide (seq < 256) && decide (pairs.length ≤ 120) &&
    pairs.all (fun x => decide (x.2 < 2 ^ 32))
  | .regRead addr flags seq addrs => decide (addr < 1024) && decide (flags < 4) && decide (seq < 256) && decide (addrs.length ≤ 232)
  | .regResp l flags seq body => decide (l < 512) && decide (flags < 4) && decide (seq < 256) && dwords body
  | .fwOpen addr flags seq _ _ _ => decide (addr < 1024) && decide (flags < 4) && decide (seq < 256)
  | .fwData addr flags seq _ bytes => decide (addr < 1024) && decide (flags < 4) && decide (seq < 256) && bytes.all (fun x => decide (x < 256))
  | .fwClose addr flags seq => decide (addr < 1024) && decide (flags < 4) && decide (seq < 256)
  | .fwStatus addr flags seq bitmap => decide (addr < 1024) && decide (flags < 4) && decide (seq < 256) && dwords bitmap
  | .fwActivate addr flags seq => decide (addr < 1024) && decide (flags < 4) && decide (seq < 256)
  | .restReq l flags seq => decide (l < 512) && decide (flags < 4) && decide (seq < 256)
  | .restGrant addr flags seq start _ _ => decide (addr < 1024) && decide (flags < 4) && decide (seq < 256) && decide (start < 2 ^ 24)
  | .wakeAck l flags seq => decide (l < 512) && decide (flags < 4) && decide (seq < 256)
  | .ack peer q status => decide (peer < 513) && decide (q < 256) && decide (status < 256)
  | .user addr flags type seq body =>
    decide (addr < 1024) && decide (flags < 4) && decide (type < 256) && decide (seq < 256) && dwords body
  | .unknownType addr flags seq => decide (addr < 1024) && decide (flags < 4) && decide (seq < 256)
  | .retxTimeout peer q => decide (peer < 513) && decide (q < 256)
  | .txpost q len beacon => decide (q < 8) && decide (len < 2048) && decide (beacon < 512)
  | .rxpop => true
  | .upstreamSilent => true
  | .upstreamResume => true
  | .rangeTrigger l _ _ => decide (l < 512)
  | .freqTrigger l _ => decide (l < 512)
  | .regAttempt mfn fn i sc => decide (mfn < 2 ^ 24) && decide (fn < 256) && decide (i < 16) && decide (sc < 512)
  | .regTmo _ => true
  | .regGo => true
  | .regOpen value => decide (value < 2)
  | .upstreamStart mfn => decide (mfn < 2 ^ 24)
  | .grantCommit => true
  | .grantAbort => true
  | .grantAnnounce => true
  | .grantSwap => true
  | .grantAckTmo => true
  | .leafRestStart mfn => decide (mfn < 2 ^ 24)
  | .restRetry => true
  | .listenWake mfn => decide (mfn < 2 ^ 24)
  | .listenEnd _ => true
  | .leafLostTmo _ => true
  | .hubRestStart l => decide (l < 512)
  | .wake l => decide (l < 512)
  | .wakeTmo l _ => decide (l < 512)
  | .leafLost l _ => decide (l < 512)
  | .brxEnable => true
  | .brxDisable => true
  | .peakDetect c _ _ _ _ _ _ _ _ _ _ _ _ _ => decide (c < 4)
  | .headerDecision c hdr crcOk => decide (c < 4) && decide (hdr < 2 ^ 32) && decide (crcOk < 2)
  | .burstClose c crcOk _ _ _ _ => decide (c < 4) && decide (crcOk < 2)
  | .burstRecord => true
  | .gapClose c _ _ _ _ => decide (c < 4)
  | .fade c _ _ => decide (c < 4)
  | .orphan c _ _ => decide (c < 4)
  | .scAbsentSet k _ => decide (k < 512)
  | .scAbsentClear k _ => decide (k < 512)
  | .recPop => true
  | .colPop => true
  | .txEn value => decide (value < 2)
  | .txFrame mfn fn _ => decide (mfn < 2 ^ 24) && decide (fn < 256)
  | .rxEn value => decide (value < 2)
  | .research => true
  | .fawHit _ rot _ => decide (rot < 4)
  | .candidateJudge _ rot errs word => decide (rot < 4) && decide (errs < 65) && decide (word < 2 ^ 64)
  | .fawCheck k errs rotY => decide (k < 512) && decide (errs < 65) && decide (rotY < 4)
  | .oof => true
  | .overheadWord k l word _ mfn fn =>
    decide (k < 512) && decide (l < 512) && decide (word < 2 ^ 64) && decide (mfn < 2 ^ 24) && decide (fn < 256)
  | .oom k l => decide (k < 512) && decide (l < 512)
  | .mfRestore k l => decide (k < 512) && decide (l < 512)
  | .upstreamFawCheck k l _ => decide (k < 512) && decide (l < 512)
  | .upstreamOof k l => decide (k < 512) && decide (l < 512)
  | .upstreamInFrame k l => decide (k < 512) && decide (l < 512)
  | .tenMsTick n _ _ _ => decide (n < 100)
  | .defectDeclare kind _ d => decide (kind < 5) && decide (d < 12)
  | .defectClear kind _ d => decide (kind < 5) && decide (d < 12)
  | .defCfgWrite d value => decide (d < 12) && decide (value < 2 ^ 32)
  | .secondTick _ => true
  | .degOnset i => decide (i < 544)
  | .ttiAccept => true
  | .ssmAccept => true
  | .cfReceive k l _ hdr payload _ =>
    decide (k < 512) && decide (l < 512) && hdr.all (fun x => decide (x < 256)) && payload.all (fun x => decide (x < 256))
  | .slipWrite f => decide (f < 3072)
  | .slipRead f _ => decide (f < 3072)
  | .cliEnable c => decide (c < 32)
  | .cliDisable c => decide (c < 32)
  | .signalDetect n => decide (n < 32)
  | .signalLoss n => decide (n < 32)
  | .cdrLock n => decide (n < 32)
  | .cdrLoss n => decide (n < 32)
  | .laneLock n _ _ => decide (n < 32)
  | .markerLockLoss n => decide (n < 32)
  | .egressOrderChange c => decide (c < 32)
  | .deskewMeasure c _ _ => decide (c < 32)
  | .linkTmo c _ => decide (c < 32)
  | .flowRead f => decide (f < 3072)
  | .flowWrite f => decide (f < 3072)
  | .flowRemove f => decide (f < 3072)
  | .flowCmdApply _ => true
  | .cfSchedule k _ => decide (k < 512)
  | .tokenCap f _ => decide (f < 3072)
  | .clientIngress c _ _ _ data => decide (c < 32) && data.all (fun x => decide (x < 256))
  | .qdmEnable => true
  | .qdrTrainDone p _ => decide (p < 2)
  | .qdrRetrain => true
  | .qdrRecentre p _ => decide (p < 2)
  | .qdrParityError p addr f => decide (p < 2) && decide (addr < 1024) && decide (f < 3072)
  | .addrParityError p => decide (p < 2)
  | .qdrPortFail p => decide (p < 2)
  | .cryLockAcquire master _ rivals => masterOk master && rivals.all masterOk
  | .cryLockRelease master _ => masterOk master
  | .keyLoad master _ ctx ph => masterOk master && decide (ctx < 3072) && decide (ph < 2)
  | .keyRoll master _ ctx ph => masterOk master && decide (ctx < 3072) && decide (ph < 2)
  | .keyClear master _ ctx ph => masterOk master && decide (ctx < 3072) && decide (ph < 2)
  | .keyClearCtx master _ ctx => masterOk master && decide (ctx < 3072)
  | .keyCmdUndefined master _ ctx ph op => masterOk master && decide (ctx < 3072) && decide (ph < 2) && decide (op < 8)
  | .keyCmdComplete => true
  | .erasure cause _ => decide (cause < 6)
  | .cryCounterMirror => true
  | .refFail i _ => decide (i < 8)
  | .refRestore i => decide (i < 8)
  | .wtrComplete i => decide (i < 8)
  | .driftWatchEnd i => decide (i < 8)
  | .refDq i => decide (i < 8)
  | .qlTmo i _ => decide (i < 8)
  | .refQlWrite i value => decide (i < 8) && decide (value < 2 ^ 32)
  | .selection => true
  | .loopLock => true
  | .quarantineExit => true
  | .tcFit => true
  | .pstepWrite o value => decide (o < 8) && decide (value < 2 ^ 32)
  | .pstepDone o => decide (o < 8)
  | .privKeyWrite master _ value => masterOk master && decide (value < 2 ^ 32)
  | .loopOpen master _ p _ => masterOk master && decide (p < 2)
  | .ncoFreqWrite master _ p value => masterOk master && decide (p < 2) && decide (value < 2 ^ 32)
  | .loopClose master _ p => masterOk master && decide (p < 2)
  | .maxOpenExpiry p _ => decide (p < 2)
  | .timeSet => true
  | .timeAlign => true
  | .ppsInEdge _ _ => true
  | .add n t => decide (n < 65) && decide (t < 4)
  | .sub n t => decide (n < 65) && decide (t < 4)
  | .andOp n t => decide (n < 65) && decide (t < 4)
  | .orOp n t => decide (n < 65) && decide (t < 4)
  | .xor n t => decide (n < 65) && decide (t < 4)
  | .sll n t => decide (n < 65) && decide (t < 4)
  | .srl n t => decide (n < 65) && decide (t < 4)
  | .sra n t => decide (n < 65) && decide (t < 4)
  | .slt n t => decide (n < 65) && decide (t < 4)
  | .sltu n t => decide (n < 65) && decide (t < 4)
  | .mul n t => decide (n < 65) && decide (t < 4)
  | .mulh n t => decide (n < 65) && decide (t < 4)
  | .mulhu n t => decide (n < 65) && decide (t < 4)
  | .min n t => decide (n < 65) && decide (t < 4)
  | .max n t => decide (n < 65) && decide (t < 4)
  | .clz n t => decide (n < 65) && decide (t < 4)
  | .popc n t => decide (n < 65) && decide (t < 4)
  | .addi n t => decide (n < 65) && decide (t < 4)
  | .andi n t => decide (n < 65) && decide (t < 4)
  | .ori n t => decide (n < 65) && decide (t < 4)
  | .xori n t => decide (n < 65) && decide (t < 4)
  | .slti n t => decide (n < 65) && decide (t < 4)
  | .shi n t => decide (n < 65) && decide (t < 4)
  | .lui n t => decide (n < 65) && decide (t < 4)
  | .beq n t => decide (n < 65) && decide (t < 4)
  | .bne n t => decide (n < 65) && decide (t < 4)
  | .blt n t => decide (n < 65) && decide (t < 4)
  | .bge n t => decide (n < 65) && decide (t < 4)
  | .bltu n t => decide (n < 65) && decide (t < 4)
  | .bgeu n t => decide (n < 65) && decide (t < 4)
  | .jal n t => decide (n < 65) && decide (t < 4)
  | .jalr n t => decide (n < 65) && decide (t < 4)
  | .ldw n t => decide (n < 65) && decide (t < 4)
  | .stw n t => decide (n < 65) && decide (t < 4)
  | .lxch n t => decide (n < 65) && decide (t < 4)
  | .ladd n t => decide (n < 65) && decide (t < 4)
  | .rld n t => decide (n < 65) && decide (t < 4)
  | .rst n t => decide (n < 65) && decide (t < 4)
  | .dmar n t => decide (n < 65) && decide (t < 4)
  | .dmaw n t => decide (n < 65) && decide (t < 4)
  | .qrd n t => decide (n < 65) && decide (t < 4)
  | .qwr n t => decide (n < 65) && decide (t < 4)
  | .aswp n t => decide (n < 65) && decide (t < 4)
  | .aadd n t => decide (n < 65) && decide (t < 4)
  | .aand n t => decide (n < 65) && decide (t < 4)
  | .aor n t => decide (n < 65) && decide (t < 4)
  | .acas n t => decide (n < 65) && decide (t < 4)
  | .wait n t => decide (n < 65) && decide (t < 4)
  | .fence n t => decide (n < 65) && decide (t < 4)
  | .jmark n t => decide (n < 65) && decide (t < 4)
  | .tstat n t => decide (n < 65) && decide (t < 4)
  | .trel n t => decide (n < 65) && decide (t < 4)
  | .halt n t => decide (n < 65) && decide (t < 4)
  | .yield n t => decide (n < 65) && decide (t < 4)
  | .setf n t => decide (n < 65) && decide (t < 4)
  | .clrf n t => decide (n < 65) && decide (t < 4)
  | .drop n t => decide (n < 65) && decide (t < 4)
  | .self n t => decide (n < 65) && decide (t < 4)
  | .tagExhaust n t => decide (n < 65) && decide (t < 4)
  | .opAccept n j => decide (n < 65) && decide (j < 1024)
  | .accTmo n j => decide (n < 65) && decide (j < 1024)
  | .opFinal n j _ _ => decide (n < 65) && decide (j < 1024)
  | .waitEnd n t => decide (n < 65) && decide (t < 4)
  | .waitTimeout n t => decide (n < 65) && decide (t < 4)
  | .threadStart n t => decide (n < 65) && decide (t < 4)
  | .threadStop n t => decide (n < 65) && decide (t < 4)
  | .engReset n => decide (n < 65)
  | .memDataAccess master n _ value => masterOk master && decide (n < 65) && decide (value < 2 ^ 32)
  | .spillPop => true
  | .activate slot => decide (slot < 2)
  | .healthOk => true
  | .healthTmo => true
  | .rollback => true
  | .mbxDataWrite master _ n i value => masterOk master && decide (n < 64) && decide (i < 16) && decide (value < 2 ^ 32)
  | .doorbell master _ n value => masterOk master && decide (n < 64) && decide (value < 2 ^ 32)
  | .mbxTake master _ n => masterOk master && decide (n < 64)
  | .bind master _ n value => masterOk master && decide (n < 64) && decide (value < 2 ^ 32)
  | .mbxLockAcquire master _ n rivals => masterOk master && decide (n < 64) && rivals.all masterOk
  | .mbxLockRelease master _ n => masterOk master && decide (n < 64)
  | .functionLevelReset f => decide (f < 8)
  | .peerPost n words => decide (n < 64) && dwords words
  | .cntLoWrite master i value => masterOk master && decide (i < 1536) && decide (value < 2 ^ 32)
  | .cntHiWrite master i value => masterOk master && decide (i < 1536) && decide (value < 2 ^ 32)
  | .pmcOverflow i => decide (i < 1536)
  | .samplePick engine thread _ _ _ _ _ => decide (engine < 65) && decide (thread < 4)
  | .sampleRecord _ _ => true
  | .smpPop => true
  | .methodChange => true
  | .hkaTimer => true
  | .seqGo => true
  | .delayEnd => true
  | .conversionEnd _ => true
  | .injGo => true
  | .backgroundScan => true
  | .hkaCalDone _ => true
  | .pwmPeriodStart p => decide (p < 8)
  | .pwmCompare p => decide (p < 8)
  | .fltSample f _ => decide (f < 8)
  | .fltOutput f => decide (f < 8)
  | .fltValid f => decide (f < 8)
  | .firSwap f => decide (f < 8)
  | .firFadeDone f => decide (f < 8)
  | .fltCfgWrite f value => decide (f < 8) && decide (value < 2 ^ 32)
  | .fltPreset f preset => decide (f < 8) && decide (preset < 8)
  | .biasLoopEnable b value => decide (b < 8) && decide (value < 2 ^ 32)
  | .serCmd l value => decide (l < 2) && decide (value < 2 ^ 32)
  | .serResponse l frame => decide (l < 2) && decide (frame < 2 ^ 32)
  | .serPoll l _ => decide (l < 2)
  | .serTimeout l => decide (l < 2)
  | .ftOutWrite i value => decide (i < 2) && decide (value < 2 ^ 32)
  | .gainKhzWrite i value => decide (i < 2) && decide (value < 2 ^ 32)
  | .goFull => true
  | .goTrack => true
  | .calRetryExpiry => true
  | .calAbort => true
  | .sineCheck _ => true
  | .calPassEnd => true
  | .calRunEnd _ _ => true
  | .calFlashDone _ => true
  | .bistGo mask => decide (mask < 256)
  | .bistAbort => true
  | .sliceEnd result _ _ => decide (result < 5)
  | .sliceTimeout => true
  | .override value => decide (value < 2)
  | .lcmTransition master value => masterOk master && decide (value < 2 ^ 32)
  | .fuseDone => true
  | .keyCommit k => decide (k < 4)
  | .keyRevoke k => decide (k < 4)
  | .challengeRead master => masterOk master
  | .peerEnable => true
  | .peerDisable => true
  | .peerLinkUp _ => true
  | .peerLinkFail _ _ => true
  | .heartbeatTmo => true
  | .linkWaitExpiry => true
  | .forceActive => true
  | .syncDone => true
  | .mirrorRecord _ words _ => dwords words
  | .switch _ => true
  | .activeFault _ => true
  | .partnerLost _ => true
  | .handover _ => true
  | .laserSettled => true
  | .eqdMeasure l _ _ => decide (l < 512)
  | .powerOnReset rails => decide (rails < 64)
  | .railDrop r => decide (r < 6)
  | .railWarn r => decide (r < 6)
  | .resetRelease => true
  | .resetN => true
  | .perst => true
  | .warmReset value => decide (value < 2 ^ 32)
  | .imageLoadingReset => true
  | .softReset mask => decide (mask < 2 ^ 26)
  | .softResetDone b => decide (b < 26)
  | .boot misread => decide (misread < 4)
  | .avsSet value => decide (value < 2 ^ 32)
  | .avsPoll _ => true
  | .avsAck _ => true
  | .avsTimeout => true
  | .pmbCmd value => decide (value < 2 ^ 32)
  | .restEnter => true
  | .restEntryDone => true
  | .restWake source => decide (source < 3)
  | .restExitDone _ _ => true
  | .flRead len => decide (len < 128)
  | .flProgram len => decide (len < 128)
  | .flErase => true
  | .flDone _ => true
  | .converterClockLock _ => true
  | .phaseReacquired => true
  | .ppsInValidExpiry _ => true
  | .pmbCmdDone _ _ => true
  | .traceWriteTimeout => true

end Sys2Proof
end

