-- ==== Sys2Proof/Tests/Slice0.lean ====
section
/-! SUPPORT. Sys2Proof/Tests/Slice0.lean: our own tests. `test_meets_X` shows, clause by clause, states and operands that meet what
statement X asks; `test_illFormed_…` shows a term that each check of WellFormed refuses; the others are the spec's worked examples. -/
namespace Sys2Proof
open Sys2Proof.Machine

set_option maxRecDepth 20000

/-! ### What the statements ask can be met -/

theorem test_meets_StepRunsTheFrontCommand : State.reset.pending = [] := by decide

theorem test_meets_StepKeepsCanonicalForm :
    canonical { State.reset with flash := [] } ∧ step { State.reset with flash := [] } = .next { State.reset with flash := [] } :=
  ⟨⟨rfl, rfl, rfl⟩, rfl⟩

theorem test_meets_AddressMapRoundTrip :
    RegId.shape .ENG_TAG |>.has 64 255 0 := by decide

/-- The state after reset with the host interface open. -/
def hostOpen : State := State.reset.set F.SYS_STAT_HOST_OPEN

/-- An RW field, an RWL field before and after SYS.LOCK, a W1C, a W1S and the two kinds of RWS fields. -/
theorem test_meets_WritesFollowTheAccessCodes :
    let meets := fun (s : State) (m i j k : Nat) (r : RegId) (f : Machine.Field) (a : Access) => r ∉ ownWrites ∧ f ∈ r.fields ∧
      r.shape.has i j k ∧ 1 ≤ m ∧ m ≤ 8 ∧ s.on F.SYS_STAT_HOST_OPEN ∧ takes r s ∧ f.access = a
    meets hostOpen 8 0 0 0 .PWR_AVS_CFG F.PWR_AVS_CFG_TMO .rw ∧ meets hostOpen 1 0 0 0 .CRY_CTRL F.CRY_CTRL_TAMPER_EN .rwl ∧
    meets (hostOpen.set F.SYS_LOCK_LOCK) 1 0 0 0 .CRY_CTRL F.CRY_CTRL_TAMPER_EN .rwl ∧
    meets hostOpen 8 1 0 0 .MBX_DB_PEND F.MBX_DB_PEND_CH .w1c ∧ meets hostOpen 1 0 0 0 .SYS_LOCK F.SYS_LOCK_LOCK .w1s ∧
    meets hostOpen 1 0 0 0 .SYS_RST_CFG F.SYS_RST_CFG_PERST_MODE .rws ∧
    meets hostOpen 8 0 0 0 .PEER_TAKE_CNT F.PEER_TAKE_CNT_COUNT .rws := by
  refine ⟨?_, ?_, ?_, ?_, ?_, ?_, ?_⟩ <;> decide

theorem test_meets_ReadsFollowTheAccessCodes :
    let meets := fun (s : State) (m i j k : Nat) (r : RegId) (f : Machine.Field) (a : Access) => r ∉ ownReads ∧ f ∈ r.fields ∧
      r.shape.has i j k ∧ 1 ≤ m ∧ m ≤ 8 ∧ s.on F.SYS_STAT_HOST_OPEN ∧ s.held = [] ∧ Bus.inReset s (r.barAddr i j k) = false ∧ f.access = a
    meets hostOpen 8 0 0 0 .HKA_MISS_CNT F.HKA_MISS_CNT_COUNT .rc ∧ meets hostOpen 1 7 0 0 .CRY_KEY_DATA F.CRY_KEY_DATA_KEY .wo ∧
    meets hostOpen 8 0 0 0 .PWR_AVS_CFG F.PWR_AVS_CFG_TMO .rw := by
  refine ⟨?_, ?_, ?_⟩ <;> decide

/-- The first offset above the last register, and the last dword of BAR0. -/
theorem test_meets_UnnamedAndClosedAccesses :
    let meets := fun (s : State) (m a : Nat) => 1 ≤ m ∧ m ≤ 8 ∧ s.on F.SYS_STAT_HOST_OPEN ∧ a < 0x1000000 ∧ locate (canonAddr a) = none ∧
      Bus.inReset s a = false ∧ Bus.stopped s a = false
    meets hostOpen 1 0x800000 ∧ meets hostOpen 8 0xFFFFFC ∧ (1 ≤ 8 ∧ hostOpen.on F.SYS_STAT_HOST_OPEN ∧ 14 % 16 ≠ 15) ∧
    State.reset.on F.SYS_STAT_HOST_OPEN = false := by
  refine ⟨?_, ?_, ?_, ?_⟩ <;> decide

/-- Legal margins at the ends of the range, and SOFT one above it. -/
theorem test_meets_SlackMarginsAreJudged :
    (takes .PWR_SLACK_CFG State.reset ∧ 1 ≤ slice 0x0118 8 6 ∧ slice 0x0118 8 6 < slice 0x0118 0 6 ∧ slice 0x0118 0 6 ≤ 24) ∧
    (takes .PWR_SLACK_CFG State.reset ∧ ¬(slice 0x0119 0 6 ≤ 24)) := by
  refine ⟨?_, ?_⟩ <;> decide

/-- The last lock, free, owned by the reader and owned by another master. -/
theorem test_meets_MailboxLockReads :
    let meets := fun (s : State) (m n o : Nat) => n < 64 ∧ Mbx.isMaster m ∧ Bus.inReset s (RegId.barAddr .MBX_LOCK n 0 0) = false ∧
      s.get F.MBX_LOCK_STAT_OWNER n = o
    meets State.reset 79 63 0 ∧ meets (State.reset.put F.MBX_LOCK_STAT_OWNER 79 63) 79 63 79 ∧
    meets (State.reset.put F.MBX_LOCK_STAT_OWNER 97 63) 79 63 97 := by
  refine ⟨?_, ?_, ?_⟩ <;> decide

theorem test_meets_DeviceResetsClearTheMailboxes :
    State.reset.get F.SYS_RST_CFG_PERST_MODE ≠ 2 ∧ Reset.warmKey 0xA5C30001 := by
  refine ⟨?_, ?_⟩ <;> decide

theorem test_meets_CryLockOfAResetOwner :
    (State.reset.put F.CRY_LOCK_STAT_OWNER 8).get F.CRY_LOCK_STAT_OWNER = 7 + 1 ∧
    (takes .ENG_CTRL (State.reset.put F.CRY_LOCK_STAT_OWNER (Eng.master 64)) ∧
      (State.reset.put F.CRY_LOCK_STAT_OWNER (Eng.master 64)).get F.CRY_LOCK_STAT_OWNER = Eng.master 64) ∧
    (Cry.alarmActs (State.reset.put F.CRY_LOCK_STAT_OWNER 9) 5 ∧ (State.reset.put F.CRY_LOCK_STAT_OWNER 9).get F.CRY_LOCK_STAT_OWNER ≠ 0) ∧
    (State.reset.set F.CRY_KEY_STAT_BUSY).on F.CRY_KEY_STAT_BUSY := by
  refine ⟨?_, ?_, ?_, ?_⟩ <;> decide

theorem test_meets_ResetsOfAMaster :
    takes .ENG_CTRL State.reset ∧ (State.reset.set F.PEER_STAT_LINK).on F.PEER_STAT_LINK ∧
    (takes .VLK_CTRL (State.reset.set F.VLK_CTRL_EN) ∧ (State.reset.set F.VLK_CTRL_EN).on F.VLK_CTRL_EN) := by
  refine ⟨?_, ?_, ?_⟩ <;> decide

theorem test_meets_EachCommandKeepsTheRest :
    ∃ l t, footprint (.slackLow 15 1) = some l ∧ exec (.slackLow 15 1) State.reset = .next t := ⟨_, _, rfl, rfl⟩

/-- Thread 3 of the supervisor engine runs, with a word at its PC. -/
def atWord (w : Nat) : State := ((State.reset.put F.ENG_THR_STAT_STATE 1 64 3).put H.ENG_IMEM w 64 0).put F.ENG_GREG_VAL 4 64 3 6

theorem test_meets_OdivoRegisterFrame :
    (∃ u, withResult (.add 64 3) = some (64, 3) ∧ exec (.add 64 3) (atWord 0xA63800) = .next u) ∧
    (∃ u, withoutResult (.beq 64 3) = some (64, 3) ∧ exec (.beq 64 3) (atWord 0x20A60010) = .next u) :=
  ⟨⟨_, rfl, rfl⟩, ⟨_, rfl, rfl⟩⟩

theorem test_meets_OdivoMemoryFrame :
    (∃ u, keepsDmem (.add 64 3) = some (64, 3) ∧ keepsJournal (.add 64 3) = some (64, 3) ∧ exec (.add 64 3) (atWord 0xA63800) = .next u ∧
      (atWord 0xA63800).get F.PMC_SMP_STAT_METHOD ≠ 2) ∧
    (∃ u, exec (.stw 64 3) (atWord 0x44A60000) = .next u) ∧ (∃ u, exec (.lxch 64 3) (atWord 0x48A63800) = .next u) :=
  ⟨⟨_, rfl, rfl, rfl, by decide⟩, ⟨_, rfl⟩, ⟨_, rfl⟩⟩

/-- All tags of engine 63 are taken. -/
def noTags (s : State) : State :=
  { s with csr := s.csr ++ (List.range 256).map (fun k => (F.ENG_TAG_ALLOC.key 63 k 0, 1)) }

/-- Register 6 of the thread points beyond DMEM. -/
def beyond (w : Nat) : State := (atWord w).put F.ENG_GREG_VAL 8192 64 3 6

/-- Past IMEM; an illegal word; addresses that are not aligned and beyond DMEM; all tags taken; a tag of nobody. -/
theorem test_meets_EngineFaults :
    (Eng.thread ((atWord 0).set H.ENG_PAST 64 3) 64 3 = 1 ∧ Pmc.heldBack ((atWord 0).set H.ENG_PAST 64 3) 64 3 = false ∧
      ((atWord 0).set H.ENG_PAST 64 3).on H.ENG_PAST 64 3) ∧
    (Eng.thread (atWord 0xFC000000) 64 3 = 1 ∧ Pmc.heldBack (atWord 0xFC000000) 64 3 = false ∧
      (atWord 0xFC000000).on H.ENG_PAST 64 3 = false ∧ Eng.legal (Eng.word (atWord 0xFC000000) 64 3) = false) ∧
    (turn (atWord 0x40A60001) 64 3 0x10 ∧
      unsigned 32 (source1 (atWord 0x40A60001) 64 3 + simm (atWord 0x40A60001) 64 3) % 4 ≠ 0) ∧
    (turn (atWord 0x44A60001) 64 3 0x11 ∧
      unsigned 32 (source1 (atWord 0x44A60001) 64 3 + simm (atWord 0x44A60001) 64 3) % 4 ≠ 0) ∧
    (turn (beyond 0x48A63800) 64 3 0x12 ∧ 8188 < source1 (beyond 0x48A63800) 64 3) ∧
    (turn (beyond 0x4CA63800) 64 3 0x13 ∧ 8188 < source1 (beyond 0x4CA63800) 64 3) ∧
    (Eng.thread (noTags ((State.reset.put F.ENG_THR_STAT_STATE 3 63 3))) 63 3 = 3 ∧
      Eng.freeTag (noTags (State.reset.put F.ENG_THR_STAT_STATE 3 63 3)) 63 = none) ∧
    (turn (atWord 0xCCA60000) 64 3 0x33 ∧ Eng.owned (atWord 0xCCA60000) 64 3 (source1 (atWord 0xCCA60000) 64 3 % 256) = false) ∧
    (turn (atWord 0xD0060000) 64 3 0x34 ∧ Eng.owned (atWord 0xD0060000) 64 3 (source1 (atWord 0xD0060000) 64 3 % 256) = false) := by
  refine ⟨?_, ?_, ?_, ?_, ?_, ?_, ?_, ?_, ?_⟩ <;> decide

/-- The first window covers the page of BAR0 at 0 for reads only. -/
def readOnlyPage (w : Nat) : State := (atWord w).put F.ENG_UWIN_PAGES 1 64 0

/-- No window covers the word that is read; the window that covers the word that is written has no WRITE bit. -/
theorem test_meets_UserThreadsStayInTheirWindows :
    (turn (atWord 0x60A60000) 64 3 0x18 ∧ userReach (atWord 0x60A60000) 64 3 4 ∧ Eng.windowMay (atWord 0x60A60000) 64 4 false = false ∧
      Eng.freeTag (atWord 0x60A60000) 64 = some 0) ∧
    (turn (readOnlyPage 0x64063800) 64 3 0x19 ∧ userReach (readOnlyPage 0x64063800) 64 3 4 ∧
      Eng.windowMay (readOnlyPage 0x64063800) 64 4 true = false ∧ Eng.freeTag (readOnlyPage 0x64063800) 64 = some 0) ∧
    (remoteAtomic (.acas 64 3) = some (64, 3, 0x24) ∧ turn (readOnlyPage 0x90A63800) 64 3 0x24 ∧
      userReach (readOnlyPage 0x90A63800) 64 3 4 ∧ Eng.windowMay (readOnlyPage 0x90A63800) 64 4 true = false ∧
      Eng.freeTag (readOnlyPage 0x90A63800) 64 = some 0) := by
  refine ⟨?_, ?_, ?_⟩ <;> decide

theorem test_meets_SummaryBits : (1 = 1 ∨ 1 = 23) ∧ (23 = 1 ∨ 23 = 23) := by decide

theorem test_meets_CipherCountersNeverRepeat :
    Cry.counterFor (State.reset.get H.CRY_NEXT 3071) 65535 + 1 < 2 ^ 64 ∧
    (State.reset.put H.CRY_NEXT (2 ^ 64 - 2 ^ 16) 3071).get H.CRY_NEXT 3071 + 2 ^ 16 ≤ 2 ^ 64 := by
  refine ⟨?_, ?_⟩ <;> decide

theorem test_meets_RegisterAccessResults :
  ((fun (s : State) (master be : Nat) => 1 ≤ master ∧ master ≤ 8 ∧ s.on F.SYS_STAT_HOST_OPEN ∧ be % 16 = 15 ∧
    takes .SYS_INT_MASK s) (State.reset.set F.SYS_STAT_HOST_OPEN) 8 15) ∧
  ((fun (s : State) (master addr be : Nat) => 1 ≤ master ∧ master ≤ 8 ∧ s.on F.SYS_STAT_HOST_OPEN ∧ be % 16 = 15 ∧ addr < 0x1000000 ∧
    Bus.inReset s addr) ((State.reset.set F.SYS_STAT_HOST_OPEN).setBit F.SYS_SOFT_RST_BLK 25) 1 0x7FFFFC 15) ∧
  ((fun (s : State) (master n i be : Nat) => 1 ≤ master ∧ master ≤ 8 ∧ s.on F.SYS_STAT_HOST_OPEN ∧ be % 16 = 15 ∧ n < 64 ∧
    i < 3) (State.reset.set F.SYS_STAT_HOST_OPEN) 8 63 2 15) ∧
  ((fun (s : State) (master e : Nat) => 1 ≤ master ∧ master ≤ 8 ∧ s.on F.SYS_STAT_HOST_OPEN ∧ takes .HKA_RES s ∧
    e < 32) (((State.reset.set F.SYS_STAT_HOST_OPEN).put F.HKA_RES_DATA 8191 31).set F.HKA_RES_NEW 31) 1 31) ∧
  ((fun (s : State) (master i : Nat) => 1 ≤ master ∧ master ≤ 8 ∧ s.on F.SYS_STAT_HOST_OPEN ∧ takes .PMC_CNT_LO s ∧
    i < 1536) ((State.reset.set F.SYS_STAT_HOST_OPEN).put H.PMC_CNT 0x1FFFFFFFF 1535) 1 1535) ∧
  ((fun (s : State) (kind function : Nat) => function < 8 ∧ (kind < 2 ∨ s.on F.SYS_STAT_HOST_OPEN = false)) State.reset 1 7) ∧
  ((fun (s : State) => takes .SYS_LOCK s) State.reset) := by
  refine ⟨?_, ?_, ?_, ?_, ?_, ?_, ?_⟩ <;> decide

theorem test_meets_SlackCommandResults :
  ((fun (s : State) (b m : Nat) => b < 646 ∧ Pwr.running s b ∧ Pwr.monitorOf s b = some m) ((State.reset.put F.LRX_LINE_CFG_NSC_M1
    511).put H.LRX_ACTIVE 4 511) 511 11) ∧
  ((fun (s : State) (b m : Nat) => b < 646 ∧ Pwr.running s b ∧ s.on H.PWR_PREFILLED b ∧ Pwr.monitorOf s b = some m ∧
    Pwr.armed s m) ((State.reset.setBit H.PWR_ARMED 0).set H.PWR_PREFILLED 512) 512 0) ∧
  ((fun (s : State) (b m : Nat) => b < 646 ∧ Pwr.running s b ∧ s.on H.PWR_PREFILLED b ∧ Pwr.monitorOf s b = some m ∧
    Pwr.armed s m) ((State.reset.setBit H.PWR_ARMED 13).set H.PWR_PREFILLED 645) 645 13) ∧
  ((fun (s : State) (m now : Nat) => m < 16 ∧ Pwr.armed s m ∧ now < s.get F.PWR_SLACK_CFG_SOFT m) ((State.reset.setBit H.PWR_ARMED
    15).put H.PWR_TARGET 1690) 15 7) ∧
  ((fun (s : State) (m now : Nat) => m < 16 ∧ Pwr.armed s m ∧ now ≤ s.get F.PWR_SLACK_CFG_HARD m) (State.reset.setBit H.PWR_ARMED 9) 9 2) ∧
  ((fun (s : State) (levels : List Nat) (v : Nat) => s.on H.PWR_ARMED ∧ s.get F.PWR_REST_STAT_STATE ≠ 2 ∧
    (List.range 16).all (fun m => !Pwr.armed s m || decide (s.get F.PWR_SLACK_CFG_SOFT m + s.get F.PWR_SLACK_CTRL_HYST ≤ (Pwr.observeAll
    levels s).get F.PWR_SLACK_LVL_NOW m)) ∧ s.on F.PWR_SLACK_CTRL_AVS_AUTO ∧ s.on F.PWR_SAFE_STAT_AVS_FAIL = false ∧
    s.on F.PWR_AVS_READ_BUSY = false ∧ s.get F.PWR_SLACK_CTRL_LOWER_DWELL ≠ 0 ∧
    v = max (s.get H.PWR_TARGET - Pwr.stepHalfMv s) (2 * s.get F.PWR_VMIN_VMIN_MV) ∧
    v < s.get H.PWR_TARGET) ((State.reset.setBit H.PWR_ARMED 0).put F.PWR_VMIN_VMIN_MV 800) [30] 1690) ∧
  ((fun (s : State) (levels : List Nat) (a : Nat) => s.on F.PWR_SLACK_CTRL_AUTO_RELEASE ∧ a < 4 ∧ Pwr.inForce s a ∧
    Pwr.pathClear (Pwr.observeAll levels s) a) ((State.reset.set F.PWR_SLACK_CTRL_AUTO_RELEASE).set F.PWR_SAFE_STAT_PEER_HELD) [30, 30] 3) ∧
  ((fun (s : State) (a : Nat) => takes .PWR_SLACK_CTRL s ∧ a < 4 ∧ Pwr.inForce s a) (State.reset.set F.PWR_SAFE_STAT_TX_MUTED) 0) ∧
  ((fun (s : State) => s.on F.FRM_CTRL_TX_EN) ((State.reset.set F.FRM_CTRL_TX_EN).put H.PWR_RELEASING 15)) ∧
  ((fun (s : State) (m value : Nat) => m < 16 ∧ takes .PWR_SLACK_CFG s ∧ s.on F.SYS_LOCK_LOCK = false ∧ 1 ≤ slice value 8 6 ∧
    slice value 8 6 < slice value 0 6 ∧ slice value 0 6 ≤ 24) State.reset 15 0x1718) := by
  refine ⟨?_, ?_, ?_, ?_, ?_, ?_, ?_, ?_, ?_, ?_⟩ <;> decide

theorem test_meets_TransmitterCommandResults :
  ((fun (s : State) => takes .LTX_CTRL s ∧ s.on F.LTX_CTRL_EN = false ∧
    Ltx.check s = 0) ((((State.reset.put F.LTX_LINE_CFG_BAUD_MBD 290000).put F.LTX_LINE_CFG_SPACING 2).put F.CVT_DAC_FS_FS_MHZ
    340000).set F.CVT_DAC_STAT_CLK_LOCK)) ∧
  ((fun (s : State) => takes .LTX_CTRL s ∧ s.on F.LTX_CTRL_EN = false ∧ Ltx.check s ≠ 0) State.reset) ∧
  ((fun (s : State) => s.on F.LTX_CTRL_EN ∧ s.on F.LTX_STAT_ACTIVE = false ∧ s.on F.FRM_CTRL_TX_EN ∧ Pwr.prefilled s 512 16 ∧
    s.on H.PWR_HOLD_TX = false) (((fun s => s.each 16 (fun b t => t.set H.PWR_PREFILLED (512 + b))) ((State.reset.set F.LTX_CTRL_EN).set
    F.FRM_CTRL_TX_EN)))) ∧
  ((fun (s : State) => takes .LTX_CTRL s ∧ s.on F.LTX_CTRL_EN) ((State.reset.set F.LTX_CTRL_EN).set F.LTX_STAT_ACTIVE)) ∧
  ((fun (s : State) => takes .LTX_CTRL s ∧ s.on H.PEER_MUTE_HELD = false) State.reset) ∧
  ((fun (s : State) => s.on F.FRM_CTRL_TX_EN ∧ s.get F.LTX_STAT_MUTE_SRC = 0 ∧
    Pwr.prefilled s 512 16) ((((fun (s : State) => s.each 16 (fun b t => t.set H.PWR_PREFILLED (512 + b))) ((State.reset.set
    F.LTX_CTRL_EN).set F.FRM_CTRL_TX_EN))).put F.LTX_STAT_MUTE_SRC 0)) ∧
  ((fun (s : State) (value : Nat) => takes .LTX_FREQ_OFS s ∧ Ltx.offsetOk s (value % 65536)) (State.reset.put F.CVT_DAC_FS_FS_MHZ 4000)
    65535) ∧
  ((fun (s : State) (value : Nat) => takes .LTX_FREQ_OFS s ∧ Ltx.offsetOk s (value % 65536) = false) State.reset 32767) := by
  refine ⟨?_, ?_, ?_, ?_, ?_, ?_, ?_, ?_⟩ <;> decide

theorem test_meets_TransmitterPathResults :
  ((fun (s : State) (d m k : Nat) => d < 2 ∧ Scm.localTx s.leaf d ∧ s.on H.LTX_SWAP_DUE ∧ Tick.reached d s = some m ∧
    Scm.mfSince m (s.get H.LTX_SWAP_MF) < 2 ^ 23 ∧ k < 512) (((((State.reset.put F.LTX_LINE_CFG_NSC_M1 511).set H.LTX_SWAP_DUE).put
    H.LTX_SHADOW 9 511).set H.FRM_TX_RUN).put H.LTX_SWAP_MF 0) 0 0 511) ∧
  ((fun (s : State) (d m k : Nat) => d < 2 ∧ Scm.localTx s.leaf d = false ∧ s.on H.LRX_SWAP_DUE ∧ Tick.reached d s = some m ∧
    Scm.mfSince m (s.get H.LRX_SWAP_MF) < 2 ^ 23 ∧ k < 512) ((((State.reset.set F.FRM_ALIGN_STAT_MFN_VALID).set H.LRX_SWAP_DUE).put
    H.LRX_SHADOW 9 511).put H.FRM_RX_MFN 5) 1 5 511) ∧
  ((fun (s : State) => s.on H.LTX_OFS_PENDING) (State.reset.set H.LTX_OFS_PENDING)) ∧
  ((fun (s : State) => takes .LTX_CDPRE_CTRL s ∧ s.leaf = false ∧ Ltx.withinDmax (s.sget F.LTX_CDPRE_D).natAbs (s.get
    F.LTX_LINE_CFG_BAUD_MBD)) ((State.reset.put F.LTX_CDPRE_D 5).put F.LTX_LINE_CFG_BAUD_MBD 60000)) ∧
  ((fun (s : State) (blocks : Nat) => s.on F.LTX_STAT_CD_FADING ∧ s.get H.LTX_FADE_LEN ≤ blocks) ((State.reset.set
    F.LTX_STAT_CD_FADING).put H.LTX_FADE_LEN 4) 4) ∧
  ((fun (s : State) (d value : Nat) => takes .LTX_SKEW s ∧ d < 4 ∧ value % 4096 ≠ s.get H.LTX_SKEW_NOW d) State.reset 3 4095) ∧
  ((fun (d : Nat) => d < 4) 3) ∧
  ((fun (s : State) => takes .LTX_CTRL s) State.reset) ∧
  ((fun (s : State) (d x : Nat) => s.on F.LTX_STAT_PEQ_PENDING ∧ d < 4 ∧
    x < 15) ((State.reset.set F.LTX_STAT_PEQ_PENDING).put F.LTX_PEQ_TAP 5 3 14) 3 14) ∧
  ((fun (s : State) => takes .LTX_CTRL s) State.reset) ∧
  ((fun (s : State) (d x : Nat) => s.on F.LTX_STAT_PD_PENDING ∧ d < 4 ∧
    x < 65) ((State.reset.set F.LTX_STAT_PD_PENDING).put F.LTX_PD_LUT_Y 5 3 64) 3 64) ∧
  ((fun (s : State) => s.get F.CVT_DAC_FS_FS_MHZ ≠ 0) (State.reset.put F.CVT_DAC_FS_FS_MHZ 4000)) ∧
  ((fun (s : State) => s.get F.CVT_ADC_FS_FS_MHZ ≠ 0) (State.reset.put F.CVT_ADC_FS_FS_MHZ 4000)) := by
  refine ⟨?_, ?_, ?_, ?_, ?_, ?_, ?_, ?_, ?_, ?_, ?_, ?_, ?_⟩ <;> decide

theorem test_meets_ReceiverAcquisitionResults :
  ((fun (s : State) => takes .LRX_CTRL s ∧ s.on F.LRX_CTRL_EN = false ∧
    Lrx.check s = 0) ((((State.reset.put F.LRX_LINE_CFG_BAUD_MBD 60000).put F.LRX_LINE_CFG_SPACING 10).put F.CVT_ADC_FS_FS_MHZ
    340000).set F.CVT_ADC_STAT_CLK_LOCK)) ∧
  ((fun (s : State) => takes .LRX_CTRL s ∧ s.on F.LRX_CTRL_EN = false ∧ Lrx.check s ≠ 0) State.reset) ∧
  ((fun (s : State) => takes .LRX_CTRL s ∧ s.on F.LRX_CTRL_EN) (((State.reset.set F.LRX_CTRL_EN).put F.LRX_STAT_STATE 5).set
    F.LRX_STAT_LOS)) ∧
  ((fun (s : State) (rms : Nat) => s.on F.LRX_CTRL_EN ∧ s.on F.LRX_STAT_LOS = false ∧
    rms < s.get F.LRX_ACQ_CFG_LOS_THR) ((State.reset.set F.LRX_CTRL_EN).put F.LRX_STAT_STATE 5) 7) ∧
  ((fun (s : State) (rms : Nat) => s.on F.LRX_STAT_LOS ∧ s.get F.LRX_ACQ_CFG_LOS_THR + s.get F.LRX_ACQ_CFG_LOS_HYST ≤ rms)
    (State.reset.set F.LRX_STAT_LOS) 12) ∧
  ((fun (s : State) => s.on F.LRX_STAT_LOS ∧ 2 ≤ s.get F.LRX_STAT_STATE) ((State.reset.set F.LRX_STAT_LOS).put F.LRX_STAT_STATE 5)) ∧
  ((fun (s : State) => takes .LRX_CD_CTRL s ∧ (s.sget F.LRX_CD_D).natAbs ≤ s.get F.LRX_CD_RES_RES ∧
    s.get F.LRX_STAT_STATE ≠ 0) (State.reset.put F.LRX_STAT_STATE 1)) ∧
  ((fun (s : State) => takes .LRX_CD_CTRL s ∧ (s.sget F.LRX_CD_D).natAbs ≤ s.get F.LRX_CD_RES_RES ∧ s.get F.LRX_STAT_STATE ≠ 0 ∧
    s.on F.LRX_STAT_CD_FADING = false ∧ s.on F.LRX_STAT_CD_HELD = false) (State.reset.put F.LRX_STAT_STATE 5)) ∧
  ((fun (s : State) => takes .LRX_CD_CTRL s) (State.reset.set F.LRX_STAT_CD_ARMED)) ∧
  ((fun (s : State) (blocks : Nat) => s.on F.LRX_STAT_CD_FADING ∧ s.get H.LRX_FADE_LEN ≤ blocks) ((State.reset.set
    F.LRX_STAT_CD_FADING).put H.LRX_FADE_LEN 1024) 1024) ∧
  ((fun (s : State) (est : Int) => s.get F.LRX_STAT_STATE = 2 ∧ s.on F.LRX_STAT_CD_FADING = false ∧
    est.natAbs ≤ s.get F.LRX_CD_RES_RES) (((State.reset.put F.LRX_STAT_STATE 2).set F.LRX_CTRL_CD_AUTO).put F.LRX_CD_RES_RES 100) (-100)) ∧
  ((fun (s : State) => s.get F.LRX_STAT_STATE = 5 ∧ s.on F.LRX_STAT_LOS = false) (State.reset.put F.LRX_STAT_STATE 5)) ∧
  ((fun (s : State) (ofs : Int) (spread : Nat) => s.get F.LRX_STAT_STATE = 3 ∧ ofs.natAbs ≤ Lrx.capture s ∧ spread ≤ 300 ∧
    s.on F.LRX_STAT_LOS = false) (((State.reset.put F.LRX_STAT_STATE 3).put F.CVT_ADC_FS_FS_MHZ 340000).put F.LRX_LINE_CFG_BAUD_MBD
    60000) (-40000) 300) ∧
  ((fun (s : State) => 2 ≤ s.get F.LRX_STAT_STATE ∧ s.get F.LRX_STAT_STATE ≤ 4) (State.reset.put F.LRX_STAT_STATE 4)) := by
  refine ⟨?_, ?_, ?_, ?_, ?_, ?_, ?_, ?_, ?_, ?_, ?_, ?_, ?_, ?_⟩ <;> decide

theorem test_meets_ReceiverTrackingResults :
  ((fun (s : State) (k snr : Nat) => k < 512 ∧ 4 ≤ s.get F.LRX_STAT_STATE ∧ s.on F.LRX_STAT_LOS = false ∧ Lrx.processed s k ∧
    s.get F.LRX_SC_STAT_LOCK k ≠ 2 ∧ s.get F.LRX_EQ_CFG_LOCK_SNR ≤ snr) (((State.reset.put F.LRX_STAT_STATE 4).put F.LRX_LINE_CFG_NSC_M1
    511).put H.LRX_ACTIVE 1 511) 511 96) ∧
  ((fun (s : State) (k snr : Nat) => k < 512 ∧ s.get F.LRX_SC_STAT_LOCK k = 2 ∧ s.on F.LRX_STAT_LOS = false ∧
    snr + 16 < s.get F.LRX_EQ_CFG_LOCK_SNR) (State.reset.put F.LRX_SC_STAT_LOCK 2 511) 511 79) ∧
  ((fun (s : State) => s.get F.LRX_STAT_STATE = 5 ∧ s.on F.LRX_STAT_LOS = false ∧
    Lrx.anchored s = false) (State.reset.put F.LRX_STAT_STATE 5)) ∧
  ((fun (s : State) (k num den : Nat) => k < 512 ∧ 4 ≤ s.get F.LRX_STAT_STATE ∧ s.on F.LRX_STAT_LOS = false ∧ Lrx.processed s k ∧
    4 * den < 5 * num) ((((State.reset.put F.LRX_STAT_STATE 4).put F.LRX_LINE_CFG_NSC_M1 511).put H.LRX_ACTIVE 1 511).put H.LRX_TAPS 9
    511) 511 81 100) ∧
  ((fun (s : State) (k turns : Nat) => k < 512 ∧ turns % 4 ≠ 0 ∧ s.on F.LRX_STAT_LOS = false ∧
    Lrx.processed s k) (((State.reset.put F.LRX_STAT_STATE 4).put F.LRX_LINE_CFG_NSC_M1 511).put H.LRX_ACTIVE 1 511) 511 3) ∧
  ((fun (s : State) (mean total : Int) => s.on F.LRX_CTRL_LOFB_EN ∧ (s.get F.LRX_STAT_STATE = 3 ∨ s.get F.LRX_STAT_STATE = 5) ∧
    s.on F.LRX_STAT_LOS = false ∧ total = roundDivInt (s.sget H.LRX_ROT) 32768 + mean) ((State.reset.put F.LRX_STAT_STATE 5).set
    F.LRX_CTRL_LOFB_EN) (-7) (-7)) ∧
  ((fun (s : State) => s.on F.LRX_STAT_LOFB_PENDING ∧ s.on H.LSR_OWN_DONE) (((State.reset.set F.LRX_STAT_LOFB_PENDING).set
    H.LSR_OWN_DONE).sput H.LRX_LOFB_OFFLOAD (-310))) ∧
  ((fun (s : State) => s.on F.LRX_STAT_LOFB_PENDING) ((State.reset.set F.LRX_STAT_LOFB_PENDING).sput H.LRX_LOFB_OFFLOAD (-310))) ∧
  ((fun (s : State) => takes .LRX_CTRL s ∧ s.get F.LRX_STAT_STATE ≠ 0) (State.reset.put F.LRX_STAT_STATE 5)) ∧
  ((fun (s : State) (rows : List (List Nat)) (k x y c : Nat) => s.on F.LRX_CTRL_EN ∧ k < Lrx.subcarriers s ∧ Lrx.processed s k ∧
    Tick.snrOf ((rows.find? (fun r => r.getD 0 512 == k)).getD []) = (x, y,
    c)) (((State.reset.set F.LRX_CTRL_EN).put H.LRX_ACTIVE 1 0).put F.LRX_STAT_STATE 5) [[0, 100, 1, 100, 1]] 0 320 320 320) ∧
  ((fun (s : State) (l a b c d ok x y z : Nat) => s.on F.LRX_CTRL_EN ∧ l < 512 ∧ Tick.snrOf [l, a, b, c, d, ok] = (x, y,
    z)) (State.reset.set F.LRX_CTRL_EN) 511 1000 1 100 1 3 480 320 438) ∧
  ((fun (s : State) (k : Nat) (block : List Nat) => s.on F.LRX_CTRL_EN ∧ k < 512 ∧ Lrx.processed s k ∧
    Fec.carries (s.get H.LRX_ACTIVE k) ∧ slice (s.get H.LRX_ACTIVE k) 3 2 ≠ 0 ∧
    Signal.indexOf (slice (s.get H.LRX_ACTIVE k) 3 2) (slice (s.get H.LRX_ACTIVE k) 5 9 - 128) block = none) (((State.reset.set
    F.LRX_CTRL_EN).put F.LRX_LINE_CFG_NSC_M1 511).put H.LRX_ACTIVE 0x2009 511) 511 [2]) ∧
  ((fun (s : State) (k l i : Nat) => s.leaf = false ∧ (Lrx.slotPairs s H.LRX_ACTIVE).contains (l, k) ∧ k < 512 ∧ l < 512 ∧ i < 2048 ∧
    Lrx.setOf s l k = some i) ((((((State.reset.put H.LRX_ACTIVE 3 511).put F.SCM_GRANT_SC_SC 511 63).set F.SCM_GRANT_SC_EN 63).set
    F.SCM_GRANT_ACT_VAL_O 63 31).put F.SCM_GRANT_ACT_LEAF_O 511 63 31).put H.LRX_TAP_SET 77 0) 511 511 0) ∧
  ((fun (s : State) (k l i : Nat) => s.leaf = false ∧ (Lrx.slotPairs s H.LRX_ACTIVE).contains (l, k) ∧ k < 512 ∧ l < 512 ∧ i < 2048 ∧
    Lrx.ownSet s l k = some i ∧ s.get H.LRX_SLOT_LEAF k = l) (((((((State.reset.put H.LRX_ACTIVE 3 511).put F.SCM_GRANT_SC_SC 511 63).set
    F.SCM_GRANT_SC_EN 63).set F.SCM_GRANT_ACT_VAL_O 63 31).put F.SCM_GRANT_ACT_LEAF_O 511 63 31).put H.LRX_SET_OWNER 262144 0).put
    H.LRX_SLOT_LEAF 511 511) 511 511 0) ∧
  ((fun (s : State) => s.on F.LRX_STAT_LOS = false) (((State.reset.put F.LRX_STAT_STATE 4).put F.LRX_LINE_CFG_NSC_M1 511).put
    H.LRX_ACTIVE 1 511)) := by
  refine ⟨?_, ?_, ?_, ?_, ?_, ?_, ?_, ?_, ?_, ?_, ?_, ?_, ?_, ?_, ?_⟩ <;> decide

theorem test_meets_LoadingCommandResults :
  ((fun (s : State) (k : Nat) => takes .SCM_CHG_CTRL s ∧ s.leaf = false ∧ s.get F.SCM_CHG_STAT_DS_STATE = 0 ∧
    Scm.groupsOk s (Scm.subcarriers s 0) (Scm.staged s 0) ∧ s.on F.LTX_STAT_ANNOUNCED = false ∧
    k < 512) ((State.reset.put F.SCM_DS_NEXT_ENTRY 1 511).put H.SCM_LAST_VER 255 0) 511) ∧
  ((fun (s : State) (k : Nat) => takes .SCM_CHG_CTRL s ∧ s.leaf = false ∧ s.get F.SCM_CHG_STAT_US_STATE = 0 ∧
    s.get F.SCM_GRANT_STAT_STATE = 0 ∧ s.on F.LRX_STAT_ANNOUNCED = false ∧
    k < 512) ((State.reset.put F.SCM_US_NEXT_ENTRY 1 511).put H.SCM_LAST_VER 254 1) 511) ∧
  ((fun (s : State) => takes .SCM_CHG_CTRL s ∧ s.leaf = false ∧ s.get F.SCM_CHG_STAT_DS_STATE = 1) (State.reset.put
    F.SCM_CHG_STAT_DS_STATE 1)) ∧
  ((fun (s : State) => takes .SCM_CHG_CTRL s ∧ s.leaf = false ∧ s.get F.SCM_CHG_STAT_US_STATE = 1) (State.reset.put
    F.SCM_CHG_STAT_US_STATE 1)) ∧
  ((fun (s : State) => s.leaf = false ∧ s.get F.SCM_CHG_STAT_DS_STATE = 1 ∧ s.on F.LTX_STAT_SHADOW_READY ∧ Scm.failing s 0 = [] ∧
    s.on F.FRM_CTRL_TX_EN ∧ (Scm.nextFrame s).2 = 0) (((State.reset.put F.SCM_CHG_STAT_DS_STATE 1).set F.LTX_STAT_SHADOW_READY).set
    F.FRM_CTRL_TX_EN)) ∧
  ((fun (s : State) => s.leaf = false ∧ s.get F.SCM_CHG_STAT_US_STATE = 1 ∧ s.on F.LRX_STAT_SHADOW_READY ∧ Scm.failing s 1 = [] ∧
    s.on F.FRM_CTRL_TX_EN ∧ (Scm.nextFrame s).2 = 0) (((State.reset.put F.SCM_CHG_STAT_US_STATE 1).set F.LRX_STAT_SHADOW_READY).set
    F.FRM_CTRL_TX_EN)) ∧
  ((fun (s : State) (l : Nat) => l < 512 ∧ s.on H.SCM_ADDRESSED 0 l ∧ s.on H.SCM_ACKED 0 l = false ∧ s.get F.SCM_CHG_STAT_DS_STATE = 1 ∧
    s.on H.FRM_TX_RUN ∧ max 1 (s.get F.SCM_CHG_CFG_ACK_TMO) ≤ Scm.since s (s.get H.SCM_START_MF 0)) ((((State.reset.set H.SCM_ADDRESSED 0
    511).put F.SCM_CHG_STAT_DS_STATE 1).set H.FRM_TX_RUN).put H.SCM_MF 8) 511) ∧
  ((fun (s : State) (l : Nat) => l < 512 ∧ s.on H.SCM_ADDRESSED 1 l ∧ s.on H.SCM_ACKED 1 l = false ∧ s.get F.SCM_CHG_STAT_US_STATE = 1 ∧
    s.on H.FRM_TX_RUN ∧ max 1 (s.get F.SCM_CHG_CFG_ACK_TMO) ≤ Scm.since s (s.get H.SCM_START_MF 1)) ((((State.reset.set H.SCM_ADDRESSED 1
    0).put F.SCM_CHG_STAT_US_STATE 1).set H.FRM_TX_RUN).put H.SCM_MF 8) 0) ∧
  ((fun (s : State) (value : Nat) => takes .FEC_CFG s ∧ s.on F.LTX_CTRL_EN = false ∧ s.on F.LRX_CTRL_EN = false ∧ slice value 0 2 ≠ 3 ∧
    slice value 2 2 ≠ 3) State.reset 0x1FA) ∧
  ((fun (s : State) (k l iter i : Nat) => k < 512 ∧ l < 512 ∧ Fec.rxOn s k l ∧ Fec.llrValid s k ∧ s.on H.FEC_PART k = false ∧
    (Fec.slotted s k && Fec.late s l) = false ∧ s.get F.FEC_CFG_ITER_MAX ≤ 18 ∧
    i = (if s.on F.FEC_CFG_ET_EN then min (s.get F.FEC_CFG_ITER_MAX) iter else s.get F.FEC_CFG_ITER_MAX)) (((State.reset.set H.FEC_RX_ON
    511).set F.LRX_CTRL_EN).put F.LRX_SC_STAT_LOCK 2 511) 511 0 5 5) ∧
  ((fun (s : State) (k l : Nat) => k < 512 ∧ l < 512 ∧ Fec.rxOn s k l ∧ Fec.llrValid s k ∧
    s.on H.FEC_PART k = false) ((((State.reset.set H.FEC_SL_ON 511 0).put H.LRX_ACTIVE 3 0).set F.LRX_CTRL_EN).put F.LRX_SC_STAT_LOCK 2
    0) 0 511) ∧
  ((fun (s : State) (k l : Nat) => k < 512 ∧ l < 512 ∧ Fec.rxOn s k l ∧
    (!Fec.llrValid s k || s.on H.FEC_PART k)) (State.reset.set H.FEC_RX_ON 511) 511 0) ∧
  ((fun (s : State) (g p : Nat) => takes .SCM_GRANT_CTRL s ∧ s.leaf = false ∧ s.get F.SCM_GRANT_STAT_STATE = 0 ∧
    s.get F.SCM_CHG_STAT_US_STATE = 0 ∧ Scm.grantOk s ∧ g < 64 ∧ p < 32) (State.reset.put F.SCM_GRANT_NEXT_LEAF_O 511 63 31) 63 31) ∧
  ((fun (s : State) => takes .SCM_GRANT_CTRL s ∧ s.leaf = false ∧ s.get F.SCM_GRANT_STAT_STATE = 1) (State.reset.put
    F.SCM_GRANT_STAT_STATE 1)) ∧
  ((fun (s : State) => s.leaf = false ∧ s.get F.SCM_GRANT_STAT_STATE = 1 ∧ Scm.grantFailing s = [] ∧ s.on F.FRM_CTRL_TX_EN ∧
    (Scm.nextFrame s).2 = 0) ((State.reset.put F.SCM_GRANT_STAT_STATE 1).set F.FRM_CTRL_TX_EN)) ∧
  ((fun (s : State) (g p : Nat) => s.leaf = false ∧ s.get F.SCM_GRANT_STAT_STATE = 2 ∧
    Scm.atMultiframe s ((s.get H.SCM_GRANT_M + 4) % 2 ^ 24) ∧ g < 64 ∧
    p < 32) (((((State.reset.put F.SCM_GRANT_STAT_STATE 2).put H.SCM_GRANT_M 0xFFFFFD).put H.FRM_TX_MFN 1).set H.FRM_TX_RUN).put
    H.SCM_GRANT_SNAP 513 63 31) 63 31) ∧
  ((fun (s : State) (g : Nat) => s.leaf ∧ s.on H.VLK_G_SWAP ∧ Scm.mfSince (s.get H.FRM_TX_MFN) (s.get H.VLK_G_SWAP_MF) < 2 ^ 23 ∧
    g < 64) (((State.reset.set F.SYS_ROLE_ROLE).set H.VLK_G_SWAP).put H.VLK_G_SHADOW 5 63 1) 63) ∧
  ((fun (s : State) (l : Nat) => l < 512 ∧ s.on H.SCM_GRANT_ADDR l ∧ s.on H.SCM_GRANT_ACKED l = false ∧
    s.get F.SCM_GRANT_STAT_STATE = 1 ∧ s.on H.FRM_TX_RUN ∧ max 1 (s.get F.SCM_CHG_CFG_ACK_TMO) ≤ Scm.since s (s.get H.SCM_GRANT_START))
    ((((State.reset.set H.SCM_GRANT_ADDR 511).put F.SCM_GRANT_STAT_STATE 1).set H.FRM_TX_RUN).put H.SCM_MF 8) 511) := by
  refine ⟨?_, ?_, ?_, ?_, ?_, ?_, ?_, ?_, ?_, ?_, ?_, ?_, ?_, ?_, ?_, ?_, ?_, ?_⟩ <;> decide

theorem test_meets_VlkLinkResults :
  ((fun (s : State) => takes .VLK_CTRL s ∧ s.on F.VLK_CTRL_EN = false) (State.reset.set F.SYS_ROLE_ROLE)) ∧
  ((fun (s : State) => takes .VLK_CTRL s ∧ s.on F.VLK_CTRL_EN) ((State.reset.set F.SYS_ROLE_ROLE).set F.VLK_CTRL_EN)) ∧
  ((fun (s : State) (tree beacon crcOk : Nat) => Vlk.leafOn s ∧ crcOk ≠ 0 ∧ Vlk.treeMatches s tree ∧
    beacon = s.get F.LRX_RXGRP_K_LO) (((((State.reset.set F.SYS_ROLE_ROLE).set F.VLK_CTRL_EN).put F.VLK_SELF_STATE 1).put
    F.LRX_STAT_STATE 5).put F.FRM_ALIGN_STAT_STATE 2) 65535 0 1) ∧
  ((fun (s : State) => Vlk.leafOn s) ((State.reset.set F.SYS_ROLE_ROLE).set F.VLK_CTRL_EN)) ∧
  ((fun (s : State) (frames : Nat) => s.leaf ∧ s.on F.VLK_CTRL_EN ∧ s.get F.VLK_SELF_STATE = 2 ∧
    16 ≤ frames) (((State.reset.set F.SYS_ROLE_ROLE).set F.VLK_CTRL_EN).put F.VLK_SELF_STATE 2) 16) ∧
  ((fun (s : State) (addr flags seq idLo idHi : Nat) => addr = 0x3FD ∧ Vlk.leafOn s ∧ s.get F.VLK_SELF_STATE = 2 ∧
    Vlk.isMine s idLo idHi ∧ notRepeat s 512 addr flags seq) (((State.reset.set F.SYS_ROLE_ROLE).set F.VLK_CTRL_EN).put F.VLK_SELF_STATE
    2) 0x3FD 1 255 0 0) ∧
  ((fun (s : State) (idLo idHi : Nat) => Vlk.leafOn s ∧ s.get F.VLK_SELF_STATE = 2 ∧
    Vlk.isMine s idLo idHi) (((State.reset.set F.SYS_ROLE_ROLE).set F.VLK_CTRL_EN).put F.VLK_SELF_STATE 2) 0 0) ∧
  ((fun (s : State) => Vlk.leafOn s ∧ s.get F.VLK_SELF_STATE ≠ 5 ∧ Vlk.mustBeSilent s) (((((State.reset.set F.SYS_ROLE_ROLE).set
    F.VLK_CTRL_EN).put F.VLK_SELF_STATE 4).put F.VLK_SELF_LEAF 5).clr F.VLK_SELF_SILENT)) ∧
  ((fun (s : State) => Vlk.leafOn s ∧ s.on F.VLK_SELF_SILENT ∧ Vlk.mustBeSilent s = false ∧ s.get H.VLK_SWITCH_SILENT = 0 ∧
    2 ≤ s.get F.VLK_SELF_STATE ∧ s.get F.VLK_SELF_STATE ≤ 4) (((((((State.reset.set F.SYS_ROLE_ROLE).set F.VLK_CTRL_EN).put
    F.VLK_SELF_STATE 4).put F.VLK_SELF_LEAF 5).put F.LRX_STAT_STATE 5).put F.FRM_ALIGN_STAT_STATE 2).put F.SYN_REF_STAT_STATE 2 2)) ∧
  ((fun (s : State) => Vlk.leafOn s ∧ s.on F.VLK_SELF_SILENT ∧ Vlk.mustBeSilent s = false ∧ s.get H.VLK_SWITCH_SILENT = 0 ∧
    s.get F.VLK_SELF_STATE = 5 ∧ s.on H.VLK_LISTENING ∧ s.on H.VLK_HEARD ∧ Vlk.banksCurrent s ∧
    s.get H.VLK_FEEDER_IN = s.get H.VLK_FEEDER_USE) (((((((((((State.reset.set F.SYS_ROLE_ROLE).set F.VLK_CTRL_EN).put F.VLK_SELF_STATE
    4).put F.VLK_SELF_LEAF 5).put F.VLK_SELF_STATE 5).put F.LRX_STAT_STATE 5).put F.FRM_ALIGN_STAT_STATE 2).put F.SYN_REF_STAT_STATE 2
    2).set H.VLK_LISTENING).set H.VLK_HEARD).put H.VLK_FEEDER_IN 0)) ∧
  ((fun (s : State) => Vlk.leafOn s ∧ s.on F.VLK_SELF_SILENT ∧ Vlk.mustBeSilent s = false ∧ s.get H.VLK_SWITCH_SILENT = 0 ∧
    Vlk.called s ∧ Vlk.banksCurrent s = false) ((((((((((((State.reset.set F.SYS_ROLE_ROLE).set F.VLK_CTRL_EN).put F.VLK_SELF_LEAF 5).put
    F.VLK_SELF_STATE 5).put F.LRX_STAT_STATE 5).put F.FRM_ALIGN_STAT_STATE 2).put F.SYN_REF_STAT_STATE 2 2).set H.VLK_LISTENING).set
    H.VLK_HEARD).put H.VLK_FEEDER_IN 0).put H.LTX_ACT_VER 3).put H.LRX_ACT_VER 3)) := by
  refine ⟨?_, ?_, ?_, ?_, ?_, ?_, ?_, ?_, ?_, ?_, ?_⟩ <;> decide

theorem test_meets_VlkRegistrationAndRestResults :
  ((fun (s : State) (mfn fn i sc opp : Nat) => Vlk.leafOn s ∧ s.get F.VLK_SELF_STATE = 2 ∧ s.on H.VLK_GIVEUP = false ∧
    s.on H.VLK_REG_WAIT = false ∧ Vlk.mustBeSilent s = false ∧ s.on F.VLK_SELF_SILENT = false ∧
    (List.range (s.get F.VLK_REG_CFG_RSC_M1 + 1)).any (fun j => s.get F.VLK_REG_SC_SC j == sc) ∧ i < 16 ∧
    opp = 16 * (256 * mfn + fn) + i ∧ (opp + 2 ^ 36 - s.get H.VLK_REG_BASE) % 2 ^ 36 < 2 ^ (min (s.get H.VLK_ATTEMPT + 1) 8 + 3) ∧
    s.get H.LTX_ACTIVE sc % 8 = 4) (((((((((((((State.reset.set F.SYS_ROLE_ROLE).set F.VLK_CTRL_EN).put F.VLK_SELF_STATE 4).put
    F.VLK_SELF_LEAF 5).put F.VLK_SELF_STATE 2).set H.VLK_OPEN_NOW).put F.VLK_REG_SC_SC 511 0).put F.LRX_STAT_STATE 5).put
    F.FRM_ALIGN_STAT_STATE 2).put F.SYN_REF_STAT_STATE 2 2)).put H.LTX_ACTIVE 4 511).clr F.VLK_SELF_SILENT) 0 0 15 511 15) ∧
  ((fun (s : State) (frames : Nat) => Vlk.leafOn s ∧ s.get F.VLK_SELF_STATE = 2 ∧ s.on H.VLK_REG_WAIT ∧
    max 1 (s.get F.VLK_REG_CFG_REG_TMO) ≤ frames) (((((((State.reset.set F.SYS_ROLE_ROLE).set F.VLK_CTRL_EN).put F.VLK_SELF_STATE 4).put
    F.VLK_SELF_LEAF 5).put F.VLK_SELF_STATE 2).set H.VLK_REG_WAIT).put H.VLK_ATTEMPT 16) 64) ∧
  ((fun (s : State) => takes .VLK_CTRL s ∧ s.leaf ∧ s.on H.VLK_GIVEUP) (((((State.reset.set F.SYS_ROLE_ROLE).set F.VLK_CTRL_EN).put
    F.VLK_SELF_STATE 4).put F.VLK_SELF_LEAF 5).set H.VLK_GIVEUP)) ∧
  ((fun (s : State) => takes .VLK_CTRL s ∧ s.leaf = false ∧ (List.range (s.get F.VLK_REG_CFG_RSC_M1 + 1)).all (fun i => s.get
    H.LRX_ACTIVE (s.get F.VLK_REG_SC_SC i) % 8 == 4)) (State.reset.put H.LRX_ACTIVE 4 0)) ∧
  ((fun (s : State) (mfn : Nat) => Vlk.leafOn s ∧ s.get F.VLK_SELF_STATE = 3 ∧ s.on H.VLK_UP_ON = false ∧
    mfn = s.get H.VLK_UP_START) ((((((State.reset.set F.SYS_ROLE_ROLE).set F.VLK_CTRL_EN).put F.VLK_SELF_STATE 4).put F.VLK_SELF_LEAF
    5).put F.VLK_SELF_STATE 3).put H.VLK_UP_START 0xFFFFFF) 0xFFFFFF) ∧
  ((fun (s : State) (mfn : Nat) => Vlk.leafOn s ∧ s.get F.VLK_SELF_STATE = 4 ∧ s.on H.VLK_S_REST ∧
    mfn = s.get H.VLK_S_START) ((((((State.reset.set F.SYS_ROLE_ROLE).set F.VLK_CTRL_EN).put F.VLK_SELF_STATE 4).put F.VLK_SELF_LEAF
    5).set H.VLK_S_REST).put H.VLK_S_START 9) 9) ∧
  ((fun (s : State) => s.leaf ∧ s.on F.VLK_CTRL_EN ∧ s.get F.VLK_SELF_STATE = 5 ∧ s.on H.VLK_RETRY ∧ s.on H.VLK_LISTENING = false ∧
    Rest.refusal s = 0) (((((((State.reset.set F.SYS_ROLE_ROLE).set F.VLK_CTRL_EN).put F.VLK_SELF_STATE 4).put F.VLK_SELF_LEAF 5).put
    F.VLK_SELF_STATE 5).set H.VLK_RETRY).put F.SYS_STAT_PHASE 5)) ∧
  ((fun (s : State) (mfn : Nat) => s.leaf ∧ s.on F.VLK_CTRL_EN ∧ s.get F.VLK_SELF_STATE = 5 ∧ s.on H.VLK_S_REST ∧
    s.on H.VLK_LISTENING = false ∧ mfn % 2 ^ 24 ≠ s.get H.VLK_S_START ∧
    Scm.mfSince mfn (s.get H.VLK_S_START) % s.get H.VLK_S_CYCLE = 0) ((((((((State.reset.set F.SYS_ROLE_ROLE).set F.VLK_CTRL_EN).put
    F.VLK_SELF_STATE 4).put F.VLK_SELF_LEAF 5).put F.VLK_SELF_STATE 5).set H.VLK_S_REST).put F.PWR_REST_STAT_STATE 2).put H.VLK_S_CYCLE
    16) 32) ∧
  ((fun (s : State) (frames : Nat) => Vlk.leafOn s ∧ s.get F.VLK_SELF_STATE = 5 ∧ s.on H.VLK_LISTENING ∧ s.on H.VLK_LISTEN_READ ∧
    s.on H.VLK_HEARD = false ∧ s.on H.VLK_S_REST ∧ max 1 (s.get H.VLK_S_LISTEN) ≤ frames) (((((((((State.reset.set F.SYS_ROLE_ROLE).set
    F.VLK_CTRL_EN).put F.VLK_SELF_STATE 4).put F.VLK_SELF_LEAF 5).put F.VLK_SELF_STATE 5).set H.VLK_LISTENING).set H.VLK_LISTEN_READ).set
    H.VLK_S_REST).put F.SYS_STAT_PHASE 5) 1) ∧
  ((fun (s : State) (ms : Nat) => s.leaf ∧ s.on F.VLK_CTRL_EN ∧ (((s.get F.VLK_SELF_STATE = 3 ∨ s.get F.VLK_SELF_STATE = 4) ∧
    Vlk.mustBeSilent s = true) ∨ (s.get F.VLK_SELF_STATE = 5 ∧ s.on H.VLK_LISTENING = true ∧ s.on H.VLK_LISTEN_READ = false)) ∧
    s.get F.VLK_REST_CFG_LOST_MS ≤ ms) ((((State.reset.set F.SYS_ROLE_ROLE).set F.VLK_CTRL_EN).put F.VLK_SELF_STATE 4).put
    F.VLK_SELF_LEAF 5) 100) := by
  refine ⟨?_, ?_, ?_, ?_, ?_, ?_, ?_, ?_, ?_, ?_⟩ <;> decide

theorem test_meets_LeafTableMessageResults :
  ((fun (s : State) (addr flags seq : Nat) => Vlk.toMe s addr ∧ notRepeat s 512 addr flags seq) ((((State.reset.set F.SYS_ROLE_ROLE).set
    F.VLK_CTRL_EN).put F.VLK_SELF_STATE 4).put F.VLK_SELF_LEAF 5) 0x3FF 0 1) ∧
  ((fun (s : State) (addr flags seq : Nat) => Vlk.toMe s addr ∧ notRepeat s 512 addr flags seq) ((((State.reset.set F.SYS_ROLE_ROLE).set
    F.VLK_CTRL_EN).put F.VLK_SELF_STATE 4).put F.VLK_SELF_LEAF 5) 5 1 0) ∧
  ((fun (s : State) (addr flags seq : Nat) => Vlk.toMe s addr ∧ notRepeat s 512 addr flags seq) ((((State.reset.set F.SYS_ROLE_ROLE).set
    F.VLK_CTRL_EN).put F.VLK_SELF_STATE 4).put F.VLK_SELF_LEAF 5) 5 1 0) ∧
  ((fun (s : State) (addr flags seq : Nat) (delta : Int) => Vlk.toMe s addr ∧ notRepeat s 512 addr flags seq ∧
    -32768 ≤ s.sget F.LTX_FREQ_OFS_OFS + delta ∧ s.sget F.LTX_FREQ_OFS_OFS + delta ≤ 32767 ∧
    Ltx.offsetOk s (unsigned 16 (s.sget F.LTX_FREQ_OFS_OFS + delta))) (((((State.reset.set F.SYS_ROLE_ROLE).set F.VLK_CTRL_EN).put
    F.VLK_SELF_STATE 4).put F.VLK_SELF_LEAF 5).put F.CVT_DAC_FS_FS_MHZ 340000) 5 1 0 (-32768)) ∧
  ((fun (s : State) (addr flags seq : Nat) (delta : Int) => Vlk.toMe s addr ∧ notRepeat s 512 addr flags seq ∧
    (s.sget F.LTX_FREQ_OFS_OFS + delta < -32768 ∨ 32767 < s.sget F.LTX_FREQ_OFS_OFS + delta ∨
    Ltx.offsetOk s (unsigned 16 (s.sget F.LTX_FREQ_OFS_OFS + delta)) = false)) ((((State.reset.set F.SYS_ROLE_ROLE).set
    F.VLK_CTRL_EN).put F.VLK_SELF_STATE 4).put F.VLK_SELF_LEAF 5) 5 1 0 32768) ∧
  ((fun (s : State) (addr flags seq : Nat) (rows : List (List Nat)) => Vlk.toMe s addr ∧ notRepeat s 512 addr flags seq ∧
    (rows.map (fun r => r.getD 0 0 / 512)).Nodup ∧ rows.all (fun r => decide (r.getD 0 0 / 512 < 64))) (((((State.reset.set
    F.SYS_ROLE_ROLE).set F.VLK_CTRL_EN).put F.VLK_SELF_STATE 4).put F.VLK_SELF_LEAF 5).put H.VLK_G_SHADOW 9 0 0) 5 1 0 [[32767, 1, 2],
    [0, 3, 4]]) ∧
  ((fun (s : State) (addr flags seq lo : Nat) (entries : List Nat) => Vlk.toMe s addr ∧ notRepeat s 512 addr flags seq ∧
    lo + entries.length ≤ 512 ∧ s.on F.LRX_STAT_ANNOUNCED = false) ((((State.reset.set F.SYS_ROLE_ROLE).set F.VLK_CTRL_EN).put
    F.VLK_SELF_STATE 4).put F.VLK_SELF_LEAF 5) 5 1 0 510 [0, 2]) ∧
  ((fun (s : State) (addr flags seq lo : Nat) (entries : List Nat) => Vlk.toMe s addr ∧ notRepeat s 512 addr flags seq ∧
    lo + entries.length ≤ 512 ∧ s.on F.LTX_STAT_ANNOUNCED = false) ((((State.reset.set F.SYS_ROLE_ROLE).set F.VLK_CTRL_EN).put
    F.VLK_SELF_STATE 4).put F.VLK_SELF_LEAF 5) 5 1 0 0 [0, 2]) ∧
  ((fun (s : State) (addr flags seq ver : Nat) => Vlk.toMe s addr ∧ notRepeat s 512 addr flags seq ∧ s.get H.LRX_SHADOW_VER = ver ∧
    s.on H.LRX_SWAP_DUE = false) (((((State.reset.set F.SYS_ROLE_ROLE).set F.VLK_CTRL_EN).put F.VLK_SELF_STATE 4).put F.VLK_SELF_LEAF
    5).put H.LRX_SHADOW_VER 255) 5 1 0 255) ∧
  ((fun (s : State) (addr flags seq ver : Nat) => Vlk.toMe s addr ∧ notRepeat s 512 addr flags seq ∧ s.get H.LTX_SHADOW_VER = ver ∧
    s.on H.LTX_SWAP_DUE = false) (((((State.reset.set F.SYS_ROLE_ROLE).set F.VLK_CTRL_EN).put F.VLK_SELF_STATE 4).put F.VLK_SELF_LEAF
    5).put H.LTX_SHADOW_VER 255) 5 1 0 255) ∧
  ((fun (s : State) (addr flags seq st : Nat) => Vlk.toMe s addr ∧ flags.testBit 0 ∧ Vlk.broadcast addr = false ∧
    Vlk.duplicate s 512 seq = some st) (Vlk.remember 512 7 0 ((((State.reset.set F.SYS_ROLE_ROLE).set F.VLK_CTRL_EN).put F.VLK_SELF_STATE
    4).put F.VLK_SELF_LEAF 5)) 5 1 7 0) := by
  refine ⟨?_, ?_, ?_, ?_, ?_, ?_, ?_, ?_, ?_, ?_, ?_⟩ <;> decide

theorem test_meets_LeafServiceMessageResults :
  ((fun (s : State) (addr flags seq d : Nat) => Vlk.toMe s addr ∧ notRepeat s 512 addr flags seq ∧ takes .SYS_INT_MASK s ∧
    Remote.status s d = 1) ((((State.reset.set F.SYS_ROLE_ROLE).set F.VLK_CTRL_EN).put F.VLK_SELF_STATE 4).put F.VLK_SELF_LEAF 5) 5 1 255
    0x300000) ∧
  ((fun (s : State) (addr flags seq d u : Nat) => Vlk.toMe s addr ∧ notRepeat s 512 addr flags seq ∧ takes .SYS_INT_MASK s ∧
    Remote.status s d = 1 ∧ Remote.status s u = 2) (((((State.reset.set F.SYS_ROLE_ROLE).set F.VLK_CTRL_EN).put F.VLK_SELF_STATE 4).put
    F.VLK_SELF_LEAF 5).put F.SYS_INT_MASK_MASK 3) 5 1 255 0x300000 0xFFC) ∧
  ((fun (s : State) (addr flags seq a : Nat) => Vlk.toMe s addr ∧ notRepeat s 512 addr flags seq ∧ Img.slotBase (Img.spare s) ≤ a ∧
    a < Img.slotBase (Img.spare s) + 0x100000) ((((State.reset.set F.SYS_ROLE_ROLE).set F.VLK_CTRL_EN).put F.VLK_SELF_STATE 4).put
    F.VLK_SELF_LEAF 5) 5 1 0 0x2FFFFF) ∧
  ((fun (s : State) (addr flags seq offset : Nat) (bytes : List Nat) (j : Nat) => Vlk.toMe s addr ∧ notRepeat s 512 addr flags seq ∧
    s.on H.VLK_FW_ON ∧ j < bytes.length ∧ j < 1008 ∧ offset + j < 0x400000) (((((State.reset.set F.SYS_ROLE_ROLE).set F.VLK_CTRL_EN).put
    F.VLK_SELF_STATE 4).put F.VLK_SELF_LEAF 5).set H.VLK_FW_ON) 5 1 0 0x3FFFFD [1, 2, 0xA5] 2) ∧
  ((fun (s : State) (addr flags seq : Nat) => Vlk.toMe s addr ∧ notRepeat s 512 addr flags seq) (((((State.reset.set F.SYS_ROLE_ROLE).set
    F.VLK_CTRL_EN).put F.VLK_SELF_STATE 4).put F.VLK_SELF_LEAF 5).set H.VLK_FW_ON) 5 1 0) ∧
  ((fun (s : State) (addr flags seq : Nat) => Vlk.toMe s addr ∧ notRepeat s 512 addr flags seq) ((((State.reset.set F.SYS_ROLE_ROLE).set
    F.VLK_CTRL_EN).put F.VLK_SELF_STATE 4).put F.VLK_SELF_LEAF 5) 5 1 0) ∧
  ((fun (s : State) (addr flags seq : Nat) => Vlk.toMe s addr ∧ notRepeat s 512 addr flags seq) ((((State.reset.set F.SYS_ROLE_ROLE).set
    F.VLK_CTRL_EN).put F.VLK_SELF_STATE 4).put F.VLK_SELF_LEAF 5) 5 1 0) ∧
  ((fun (s : State) (addr flags seq cycle : Nat) => Vlk.toMe s addr ∧ notRepeat s 512 addr flags seq ∧
    cycle ≠ 0) ((((State.reset.set F.SYS_ROLE_ROLE).set F.VLK_CTRL_EN).put F.VLK_SELF_STATE 4).put F.VLK_SELF_LEAF 5) 5 1 0 255) ∧
  ((fun (s : State) (addr flags seq : Nat) => Vlk.toMe s addr ∧ notRepeat s 512 addr flags seq) (((((State.reset.set F.SYS_ROLE_ROLE).set
    F.VLK_CTRL_EN).put F.VLK_SELF_STATE 4).put F.VLK_SELF_LEAF 5).set H.VLK_S_REST) 5 1 0) ∧
  ((fun (s : State) (peer q : Nat) (u : Unacked) => Vlk.findUnacked s peer q = some u) (((fun s =>
    { s with vlk := { s.vlk with unacked := [⟨⟨0, 5, true, false, 0x05, 7, []⟩, 0, 0⟩] } }) (((((State.reset.set F.SYS_ROLE_ROLE).set
    F.VLK_CTRL_EN).put F.VLK_SELF_STATE 4).put F.VLK_SELF_LEAF 5).put F.VLK_SELF_STATE 3))) 512 7 (⟨⟨0, 5, true, false, 0x05, 7, []⟩, 0,
    0⟩)) ∧
  ((fun (s : State) (addr flags seq : Nat) => Vlk.toMe s addr ∧ notRepeat s 512 addr flags seq) ((((State.reset.set F.SYS_ROLE_ROLE).set
    F.VLK_CTRL_EN).put F.VLK_SELF_STATE 4).put F.VLK_SELF_LEAF 5) 5 1 0) ∧
  ((fun (s : State) (l flags seq : Nat) => Vlk.hubOn s ∧ l < 512 ∧ s.get F.VLK_LEAF_STATE l ≠ 0 ∧
    notRepeat s l 0 flags seq) ((State.reset.set F.VLK_CTRL_EN).put F.VLK_LEAF_STATE 2 511) 511 1 0) ∧
  ((fun (s : State) (peer q : Nat) (u : Unacked) => Vlk.findUnacked s peer q = some u ∧ Vlk.retxInterval s ≤ u.age ∧
    u.repeats < s.get F.VLK_RETX_CFG_RETX_MAX) (((fun s =>
    { s with vlk := { s.vlk with unacked := [⟨⟨0, 511, true, false, 0x10, 7, []⟩, 8, 3⟩] } }) ((State.reset.set F.VLK_CTRL_EN).put
    F.VLK_LEAF_STATE 2 511))) 511 7 (⟨⟨0, 511, true, false, 0x10, 7, []⟩, 8, 3⟩)) ∧
  ((fun (s : State) (peer q : Nat) (u : Unacked) => Vlk.findUnacked s peer q = some u ∧ Vlk.retxInterval s ≤ u.age ∧
    s.get F.VLK_RETX_CFG_RETX_MAX ≤ u.repeats) (((fun s =>
    { s with vlk := { s.vlk with unacked := [⟨⟨0, 511, true, false, 0x10, 7, []⟩, 8, 4⟩] } }) ((State.reset.set F.VLK_CTRL_EN).put
    F.VLK_LEAF_STATE 2 511))) 511 7 (⟨⟨0, 511, true, false, 0x10, 7, []⟩, 8, 4⟩)) ∧
  ((fun (s : State) (q len : Nat) => takes .VLK_TXPOST s ∧ q < 8 ∧ Vlk.lenOk (len % 2048)) (((State.reset.set F.VLK_CTRL_EN).put
    F.VLK_LEAF_STATE 2 511).put F.VLK_TXBUF_DATA 5 7 255) 7 1024) ∧
  ((fun (s : State) (q len : Nat) => takes .VLK_TXPOST s ∧ q < 8 ∧ Vlk.lenOk (len % 2048) = false) (State.reset.set F.VLK_CTRL_EN) 7 1040) ∧
  ((fun (s : State) => takes .VLK_RXPOP s) (((fun s => { s with vlk := { s.vlk with ring := [[1, 2], [3]] } }) State.reset))) := by
  refine ⟨?_, ?_, ?_, ?_, ?_, ?_, ?_, ?_, ?_, ?_, ?_, ?_, ?_, ?_, ?_, ?_, ?_⟩ <;> decide

theorem test_meets_HubTreeMessageResults :
  ((fun (s : State) (crcOk badLen : Nat) => Vlk.hubOn s ∧ (crcOk = 0 ∨
    badLen ≠ 0)) ((State.reset.set F.VLK_CTRL_EN).put F.VLK_LEAF_STATE 2 511) 0 0) ∧
  ((fun (s : State) (crcOk : Nat) => Vlk.hubOn s ∧ crcOk ≠ 0) ((State.reset.set F.VLK_CTRL_EN).put F.VLK_LEAF_STATE 2 511) 1) ∧
  ((fun (s : State) (x : Closed) (rest : List Closed) => s.brx.good = x :: rest ∧ slice (x.msg.getD 0 0) 16 8 = 2 ∧ Vlk.hubOn s ∧
    s.vlk.recent.all (fun y => y.1 != x.msg.getD 2 0 + 2 ^ 32 * x.msg.getD 3 0 || decide (max 1 (s.get F.VLK_REG_CFG_REG_TMO) ≤ y.2)) ∧
    Vlk.holder s (x.msg.getD 2 0) (x.msg.getD 3 0) = none ∧ s.vlk.ring.length < 32) (((fun (s : State) =>
    { s with brx := { s.brx with good := [⟨0, 0, 0, 0, {}, 5, 100, [0x20000, 64, 1, 2, 0, 0, 0, 0, 0, 0, 0, 0, 0, 0, 0, 0]⟩] } })
    ((State.reset.set F.VLK_CTRL_EN).put F.VLK_LEAF_STATE 2 511))) (⟨0, 0, 0, 0, {}, 5, 100, [0x20000, 64, 1, 2, 0, 0, 0, 0, 0, 0, 0, 0,
    0, 0, 0, 0]⟩) ([])) ∧
  ((fun (s : State) (x : Closed) (rest : List Closed) => s.brx.good = x :: rest ∧ slice (x.msg.getD 0 0) 16 8 = 2 ∧ Vlk.hubOn s ∧
    s.vlk.recent.any (fun y => y.1 == x.msg.getD 2 0 + 2 ^ 32 * x.msg.getD 3 0 && decide (y.2 < max 1 (s.get F.VLK_REG_CFG_REG_TMO))))
    (((fun (s : State) =>
    { s with brx := { s.brx with good := [⟨0, 0, 0, 0, {}, 5, 100, [0x20000, 64, 1, 0]⟩] }, vlk := { s.vlk with recent := [(1, 0)] } })
    ((State.reset.set F.VLK_CTRL_EN).put F.VLK_LEAF_STATE 2 511))) (⟨0, 0, 0, 0, {}, 5, 100, [0x20000, 64, 1, 0]⟩) ([])) ∧
  ((fun (s : State) (x : Closed) (rest : List Closed) (l : Nat) => s.brx.good = x :: rest ∧ slice (x.msg.getD 0 0) 16 8 = 2 ∧
    Vlk.hubOn s ∧ s.vlk.recent.all (fun y => y.1 != x.msg.getD 2 0 + 2 ^ 32 * x.msg.getD 3 0 || decide (max 1 (s.get
    F.VLK_REG_CFG_REG_TMO) ≤ y.2)) ∧ Vlk.holder s (x.msg.getD 2 0) (x.msg.getD 3 0) = some l ∧
    Vlk.leafState s l = 1) (((fun (s : State) =>
    { s with brx := { s.brx with good := [⟨0, 0, 0, 0, {}, 5, 100, [0x20000, 64, 0, 0]⟩] } }) ((State.reset.set F.VLK_CTRL_EN).put
    F.VLK_LEAF_STATE 1 511))) (⟨0, 0, 0, 0, {}, 5, 100, [0x20000, 64, 0, 0]⟩) ([]) 511) ∧
  ((fun (s : State) (x : Closed) (rest : List Closed) (l : Nat) => s.brx.good = x :: rest ∧ slice (x.msg.getD 0 0) 16 8 = 2 ∧
    Vlk.hubOn s ∧ s.vlk.recent.all (fun y => y.1 != x.msg.getD 2 0 + 2 ^ 32 * x.msg.getD 3 0 || decide (max 1 (s.get
    F.VLK_REG_CFG_REG_TMO) ≤ y.2)) ∧ Vlk.holder s (x.msg.getD 2 0) (x.msg.getD 3 0) = some l ∧ Vlk.leafState s l ≠ 1 ∧
    s.vlk.ring.length < 32) (((fun (s : State) =>
    { s with brx := { s.brx with good := [⟨0, 0, 0, 0, {}, 5, 100, [0x20000, 64, 0, 0]⟩] } }) ((State.reset.set F.VLK_CTRL_EN).put
    F.VLK_LEAF_STATE 2 511))) (⟨0, 0, 0, 0, {}, 5, 100, [0x20000, 64, 0, 0]⟩) ([]) 511) ∧
  ((fun (s : State) (l flags seq : Nat) => Vlk.hubOn s ∧ l < 512 ∧ notRepeat s l 0 flags seq ∧
    Vlk.leafState s l = 1) (((State.reset.set F.VLK_CTRL_EN).put F.VLK_LEAF_STATE 2 511).put F.VLK_LEAF_STATE 1 511) 511 1 0) ∧
  ((fun (s : State) (l flags seq : Nat) => Vlk.hubOn s ∧ l < 512 ∧ Vlk.leafState s l ≠ 0 ∧
    notRepeat s l l flags seq) ((State.reset.set F.VLK_CTRL_EN).put F.VLK_LEAF_STATE 2 511) 511 1 0) ∧
  ((fun (s : State) (l flags seq ver : Nat) => Vlk.hubOn s ∧ l < 512 ∧ Vlk.leafState s l ≠ 0 ∧ notRepeat s l 0 flags seq ∧
    s.get F.SCM_GRANT_STAT_STATE = 1 ∧ ver = s.get H.SCM_GRANT_LAST ∧ s.on H.SCM_GRANT_ADDR l) (((((State.reset.set F.VLK_CTRL_EN).put
    F.VLK_LEAF_STATE 2 511).put F.SCM_GRANT_STAT_STATE 1).put H.SCM_GRANT_LAST 255).set H.SCM_GRANT_ADDR 511) 511 1 0 255) ∧
  ((fun (s : State) (l flags seq ver status : Nat) => Vlk.hubOn s ∧ l < 512 ∧ Vlk.leafState s l ≠ 0 ∧ notRepeat s l 0 flags seq ∧
    s.get F.SCM_GRANT_STAT_STATE = 1 ∧ ver = s.get H.SCM_GRANT_LAST ∧ s.on H.SCM_GRANT_ADDR l ∧
    status ≠ 0) (((((State.reset.set F.VLK_CTRL_EN).put F.VLK_LEAF_STATE 2 511).put F.SCM_GRANT_STAT_STATE 1).put H.SCM_GRANT_LAST
    255).set H.SCM_GRANT_ADDR 511) 511 1 0 255 1) ∧
  ((fun (s : State) (l flags seq status : Nat) => Vlk.hubOn s ∧ l < 512 ∧ Vlk.leafState s l ≠ 0 ∧ notRepeat s l 0 flags seq ∧
    s.get F.SCM_GRANT_STAT_STATE ≠ 1 ∧ status ≠ 0) ((State.reset.set F.VLK_CTRL_EN).put F.VLK_LEAF_STATE 2 511) 511 1 0 1) ∧
  ((fun (s : State) (l flags seq d ver : Nat) => Vlk.hubOn s ∧ l < 512 ∧ Vlk.leafState s l ≠ 0 ∧ notRepeat s l 0 flags seq ∧ d < 2 ∧
    s.get (Scm.chState d) = 1 ∧ ver = s.get H.SCM_LAST_VER d ∧ s.on H.SCM_ADDRESSED d l) (((((State.reset.set F.VLK_CTRL_EN).put
    F.VLK_LEAF_STATE 2 511).put F.SCM_CHG_STAT_US_STATE 1).put H.SCM_LAST_VER 255 1).set H.SCM_ADDRESSED 1 511) 511 1 0 1 255) ∧
  ((fun (s : State) (l flags seq d ver : Nat) => Vlk.hubOn s ∧ l < 512 ∧ Vlk.leafState s l ≠ 0 ∧ notRepeat s l 0 flags seq ∧ d < 2 ∧
    s.get (Scm.chState d) = 1 ∧ ver = s.get H.SCM_LAST_VER d) (((((State.reset.set F.VLK_CTRL_EN).put F.VLK_LEAF_STATE 2 511).put
    F.SCM_CHG_STAT_DS_STATE 1).put H.SCM_LAST_VER 255 0).set H.SCM_ADDRESSED 0 510) 511 1 0 0 255) ∧
  ((fun (s : State) (l flags seq d : Nat) => Vlk.hubOn s ∧ l < 512 ∧ Vlk.leafState s l ≠ 0 ∧ notRepeat s l 0 flags seq ∧ d < 2 ∧
    s.get (Scm.chState d) = 0) ((State.reset.set F.VLK_CTRL_EN).put F.VLK_LEAF_STATE 2 511) 511 1 0 1) ∧
  ((fun (s : State) (l flags seq d : Nat) => Vlk.hubOn s ∧ l < 512 ∧ Vlk.leafState s l ≠ 0 ∧ notRepeat s l 0 flags seq ∧ d < 2 ∧
    s.get (Scm.chState d) ≠ 0) (((State.reset.set F.VLK_CTRL_EN).put F.VLK_LEAF_STATE 2 511).put F.SCM_CHG_STAT_US_STATE 1) 511 1 0 1) ∧
  ((fun (s : State) (l flags seq lo : Nat) (vals : List Nat) (j : Nat) => Vlk.hubOn s ∧ l < 512 ∧ Vlk.leafState s l ≠ 0 ∧
    notRepeat s l 0 flags seq ∧ j < vals.length ∧ lo + j < 512 ∧ slice (s.get H.LTX_ACTIVE (lo + j)) 22 9 = l) (((State.reset.set
    F.VLK_CTRL_EN).put F.VLK_LEAF_STATE 2 511).put H.LTX_ACTIVE 0x7FC00001 511) 511 1 0 510 [3, 0x7FFFFFFF] 1) ∧
  ((fun (s : State) (l flags seq k : Nat) => Vlk.hubOn s ∧ l < 512 ∧ Vlk.leafState s l ≠ 0 ∧ notRepeat s l 0 flags seq ∧ k < 512 ∧
    slice (s.get H.LTX_ACTIVE k) 22 9 ≠ l) (((State.reset.set F.VLK_CTRL_EN).put F.VLK_LEAF_STATE 2 511).put H.LTX_ACTIVE 0x00000001 511)
    511 1 0 511) := by
  refine ⟨?_, ?_, ?_, ?_, ?_, ?_, ?_, ?_, ?_, ?_, ?_, ?_, ?_, ?_, ?_, ?_, ?_⟩ <;> decide

theorem test_meets_HubLeafServiceResults :
  ((fun (s : State) (l flags seq : Nat) => Vlk.hubOn s ∧ l < 512 ∧ Vlk.leafState s l ≠ 0 ∧ notRepeat s l 0 flags seq ∧
    s.vlk.ring.length < 32) ((State.reset.set F.VLK_CTRL_EN).put F.VLK_LEAF_STATE 2 511) 511 1 0) ∧
  ((fun (s : State) (l flags seq : Nat) => Vlk.hubOn s ∧ l < 512 ∧ Vlk.leafState s l ≠ 0 ∧ notRepeat s l 0 flags seq ∧
    32 ≤ s.vlk.ring.length) ((fun (s : State) => { s with vlk := { s.vlk with ring := List.replicate 32 [] } }) ((State.reset.set
    F.VLK_CTRL_EN).put F.VLK_LEAF_STATE 2 511)) 511 1 0) ∧
  ((fun (s : State) (l flags seq : Nat) => Vlk.hubOn s ∧ l < 512 ∧ Vlk.leafState s l ≠ 0 ∧ notRepeat s l 0 flags seq ∧
    s.vlk.ring.length < 32) ((State.reset.set F.VLK_CTRL_EN).put F.VLK_LEAF_STATE 2 511) 511 1 0) ∧
  ((fun (s : State) (l flags seq : Nat) => Vlk.hubOn s ∧ l < 512 ∧ Vlk.leafState s l ≠ 0 ∧ notRepeat s l 0 flags seq ∧
    s.vlk.ring.length < 32) ((State.reset.set F.VLK_CTRL_EN).put F.VLK_LEAF_STATE 2 511) 511 1 0) ∧
  ((fun (s : State) (l flags type seq : Nat) => Vlk.hubOn s ∧ l < 512 ∧ Vlk.leafState s l ≠ 0 ∧ notRepeat s l 0 flags seq ∧
    s.vlk.ring.length < 32 ∧ 0x50 ≤ type ∧ type ≤ 0x7F) ((State.reset.set F.VLK_CTRL_EN).put F.VLK_LEAF_STATE 2 511) 511 1 0x7F 0) ∧
  ((fun (s : State) (l flags seq : Nat) => Vlk.hubOn s ∧ l < 512 ∧ Vlk.leafState s l ≠ 0 ∧
    notRepeat s l 0 flags seq) ((((State.reset.set F.VLK_CTRL_EN).put F.VLK_LEAF_STATE 2 511).put F.VLK_LEAF_STATE 3 511).set
    H.VLK_WAKE_BIT 511) 511 1 0) ∧
  ((fun (s : State) (l n : Nat) (e d : Int) => Vlk.hubOn s ∧ s.passive = false ∧ s.on F.VLK_CTRL_AUTO_RANGE ∧ l < 512 ∧
    Vlk.leafState s l = 2 ∧ s.on H.VLK_ADJ_PEND l = false ∧ s.get F.VLK_RANGE_CFG_TRIG < e.natAbs ∧
    d = clampInt (-((20000 * Lrx.subcarriers s / s.get F.LRX_LINE_CFG_BAUD_MBD : Nat) : Int)) ((20000 * Lrx.subcarriers s / s.get
    F.LRX_LINE_CFG_BAUD_MBD : Nat) : Int) (roundDivInt (-e * (Lrx.subcarriers s * 10000 : Nat)) (16 * s.get F.LRX_LINE_CFG_BAUD_MBD)) ∧
    max 1 (s.get F.VLK_RANGE_CFG_AVG) ≤ n) (((State.reset.set F.VLK_CTRL_EN).put F.VLK_LEAF_STATE 2 511).put F.LRX_LINE_CFG_BAUD_MBD
    60000) 511 255 (-9) 0) ∧
  ((fun (s : State) (l : Nat) (ofs : Int) => Vlk.hubOn s ∧ s.passive = false ∧ s.on F.VLK_CTRL_AUTO_FREQ ∧ l < 512 ∧
    (Vlk.leafState s l = 1 ∨ Vlk.leafState s l = 2 ∨ Vlk.leafState s l = 3) ∧
    200 < ofs.natAbs) ((State.reset.set F.VLK_CTRL_EN).put F.VLK_LEAF_STATE 2 511) 511 (-201)) ∧
  ((fun (s : State) (l : Nat) => Vlk.hubOn s ∧ l < 512 ∧ Vlk.leafState s l = 2 ∧ s.on H.VLK_REST_SET l ∧
    Scm.atMultiframe s (s.get H.VLK_REST_START l)) ((((State.reset.set F.VLK_CTRL_EN).put F.VLK_LEAF_STATE 2 511).set H.VLK_REST_SET
    511).set H.FRM_TX_RUN) 511) ∧
  ((fun (s : State) (l : Nat) => takes .VLK_WAKE s ∧ Vlk.hubOn s ∧ Vlk.leafState s (l % 512) = 3) (((State.reset.set F.VLK_CTRL_EN).put
    F.VLK_LEAF_STATE 2 511).put F.VLK_LEAF_STATE 3 511) 511) ∧
  ((fun (s : State) (l periods : Nat) => Vlk.hubOn s ∧ s.passive = false ∧ l < 512 ∧ Vlk.leafState s l = 3 ∧ s.on H.VLK_WAKE_BIT l ∧
    s.get F.VLK_REST_CFG_WAKE_TMO ≤ periods) ((((State.reset.set F.VLK_CTRL_EN).put F.VLK_LEAF_STATE 2 511).put F.VLK_LEAF_STATE 3
    511).set H.VLK_WAKE_BIT 511) 511 4) ∧
  ((fun (s : State) (l mf : Nat) => Vlk.hubOn s ∧ s.passive = false ∧ l < 512 ∧ Vlk.leafState s l = 2 ∧
    s.get F.VLK_RANGE_CFG_LOST_MF ≤ mf) ((State.reset.set F.VLK_CTRL_EN).put F.VLK_LEAF_STATE 2 511) 511 32) := by
  refine ⟨?_, ?_, ?_, ?_, ?_, ?_, ?_, ?_, ?_, ?_, ?_, ?_⟩ <;> decide

theorem test_meets_BurstCommandResults :
  ((fun (s : State) (c : Nat) => takes .BRX_CTRL s ∧ s.on F.BRX_CTRL_EN = false ∧ Brx.check s = 0 ∧
    c < 4) ((((State.reset.set F.LRX_CTRL_EN).put F.VLK_REG_CFG_RSC_M1 3).put F.BRX_CTRL_WIDEN 0).put H.LRX_ACTIVE 4 0) 3) ∧
  ((fun (s : State) => takes .BRX_CTRL s ∧ s.on F.BRX_CTRL_EN = false ∧ Brx.check s ≠ 0) State.reset) ∧
  ((fun (s : State) => takes .BRX_CTRL s) ((State.reset.set F.BRX_CTRL_EN).put F.BRX_STAT_CH 0x49)) ∧
  ((fun (s : State) (c q : Nat) (after : List Nat) => c < 4 ∧ Brx.state s c = 1 ∧ Brx.isPeak s q after ∧
    s.on F.PWR_SAFE_STAT_UP_SAFE = false) (State.reset.put F.BRX_STAT_CH 0x249) 3 120 [119, 0, 0, 0]) ∧
  ((fun (s : State) (c q : Nat) (after : List Nat) => c < 4 ∧ Brx.state s c ≠ 0 ∧ Brx.isPeak s q after ∧
    s.on F.PWR_SAFE_STAT_UP_SAFE) ((State.reset.put F.BRX_STAT_CH 0x249).set F.PWR_SAFE_STAT_UP_SAFE) 3 120 [119, 0, 0, 0]) ∧
  ((fun (s : State) (c q : Nat) (after : List Nat) (lambda : Int) => c < 4 ∧ Brx.state s c = 2 ∧ Brx.isPeak s q after ∧
    s.on F.PWR_SAFE_STAT_UP_SAFE = false ∧ (max 1 (s.get F.BRX_RESTART_MARGIN_MARGIN) : Int) ≤ Brx.seen s c lambda - (Brx.current s
    c).lambda) ((fun (s : State) =>
    { s with brx := { s.brx with cur := Store.put {} s.brx.cur 3 { lambda := -32768, serial := 7, hdr := 0x60000000 } } })
    (State.reset.put F.BRX_STAT_CH 0x400)) 3 120 [119, 0, 0, 0] 10) ∧
  ((fun (s : State) (c q : Nat) (after : List Nat) (lambda : Int) => c < 4 ∧ Brx.state s c = 2 ∧ Brx.isPeak s q after ∧
    s.on F.PWR_SAFE_STAT_UP_SAFE = false ∧ Brx.seen s c lambda - (Brx.current s c).lambda < (max 1 (s.get F.BRX_RESTART_MARGIN_MARGIN) :
    Int)) ((fun (s : State) =>
    { s with brx := { s.brx with cur := Store.put {} s.brx.cur 3 { lambda := 0, serial := 7, hdr := 0x60000000 } } }) (State.reset.put
    F.BRX_STAT_CH 0x400)) 3 120 [119, 0, 0, 0] 0) ∧
  ((fun (s : State) (c q : Nat) (after : List Nat) (lambda : Int) => c < 4 ∧ Brx.state s c = 3 ∧ Brx.isPeak s q after ∧
    s.on F.PWR_SAFE_STAT_UP_SAFE = false ∧ (max 1 (s.get F.BRX_CAPTURE_MARGIN_MARGIN) : Int) ≤ Brx.seen s c lambda - (Brx.current s
    c).lambda) ((fun (s : State) =>
    { s with brx := { s.brx with cur := Store.put {} s.brx.cur 3 { lambda := -32768, serial := 7, hdr := 0x60000000 } } })
    (State.reset.put F.BRX_STAT_CH 0x600)) 3 120 [119, 0, 0, 0] 10) ∧
  ((fun (s : State) (c q : Nat) (after : List Nat) (lambda : Int) => c < 4 ∧ Brx.state s c = 3 ∧ Brx.isPeak s q after ∧
    s.on F.PWR_SAFE_STAT_UP_SAFE = false ∧ Brx.seen s c lambda - (Brx.current s c).lambda < (max 1 (s.get F.BRX_CAPTURE_MARGIN_MARGIN) :
    Int)) ((fun (s : State) =>
    { s with brx := { s.brx with cur := Store.put {} s.brx.cur 3 { lambda := 0, serial := 7, hdr := 0x60000000 } } }) (State.reset.put
    F.BRX_STAT_CH 0x600)) 3 120 [119, 0, 0, 0] 0) ∧
  ((fun (s : State) (c hdr crcOk : Nat) => c < 4 ∧ Brx.state s c = 2 ∧ crcOk ≠ 0 ∧ slice hdr 30 2 = 1 ∧
    slice hdr 27 3 ≤ 4) (State.reset.put F.BRX_STAT_CH 0x400) 3 0x60000000 1) ∧
  ((fun (s : State) (c hdr crcOk : Nat) => c < 4 ∧ Brx.state s c = 2 ∧ (crcOk = 0 ∨ slice hdr 30 2 ≠ 1 ∨
    4 < slice hdr 27 3)) (State.reset.put F.BRX_STAT_CH 2) 0 0 0) ∧
  ((fun (s : State) (c : Nat) => c < 4 ∧ Brx.state s c = 3) (State.reset.put F.BRX_STAT_CH 0x600) 3) ∧
  ((fun (s : State) (x : Closed) (rest : List Closed) => s.brx.closed = x :: rest ∧
    s.brx.ring.length < 256) (((fun (s : State) => { s with brx := { s.brx with closed := [⟨0, 0, 0, 0, {}, 5, 100, [1, 2]⟩] } })
    State.reset)) (⟨0, 0, 0, 0, {}, 5, 100, [1, 2]⟩) ([])) ∧
  ((fun (s : State) (x : Closed) (rest : List Closed) => s.brx.closed = x :: rest ∧
    256 ≤ s.brx.ring.length) (((fun (s : State) =>
    { s with brx := { s.brx with ring := List.replicate 256 [], closed := [⟨0, 0, 0, 0, {}, 5, 100, [1, 2]⟩] } }) State.reset)) (⟨0, 0,
    0, 0, {}, 5, 100, [1, 2]⟩) ([])) ∧
  ((fun (s : State) (c : Nat) (run : List Int) => c < 4 ∧ Brx.state s c = 3 ∧ 32 ≤ run.length ∧
    run.all (Brx.isAbsent s c)) (State.reset.put F.BRX_STAT_CH 0x600) 3 (List.replicate 32 (-500))) ∧
  ((fun (s : State) (c : Nat) (run : List Int) => c < 4 ∧ Brx.state s c = 2 ∧ 32 ≤ run.length ∧
    run.all (Brx.isAbsent s c)) (State.reset.put F.BRX_STAT_CH 2) 0 (List.replicate 32 (-500))) ∧
  ((fun (s : State) (c : Nat) (run : List Int) (next : Int) => c < 4 ∧ 2 ≤ Brx.state s c ∧ 1 ≤ run.length ∧ run.length ≤ 31 ∧
    run.all (Brx.isAbsent s c) ∧ Brx.isAbsent s c next = false) (State.reset.put F.BRX_STAT_CH 0x600) 3 [-500] 0) ∧
  ((fun (s : State) (c quiet : Nat) (run : List Int) => c < 4 ∧ Brx.state s c = 1 ∧ 32 ≤ run.length ∧ run.all (Brx.isPresent s) ∧
    (s.on H.BRX_EPISODE c = false ∨ 32 ≤ quiet)) (State.reset.put F.BRX_STAT_CH 0x200) 3 0 (List.replicate 32 500)) ∧
  ((fun (s : State) (k : Nat) (symbols : List (Int × Nat)) => k < 512 ∧ Brx.judged s k ∧
    Brx.run s k true symbols) ((((State.reset.put F.LRX_LINE_CFG_NSC_M1 511).put H.LRX_ACTIVE 1 511))) 511 (List.replicate 32 (-500, 0))) ∧
  ((fun (s : State) (k : Nat) (symbols : List (Int × Nat)) => k < 512 ∧ Brx.judged s k ∧
    Brx.run s k false symbols) ((((State.reset.put F.LRX_LINE_CFG_NSC_M1 511).put H.LRX_ACTIVE 1 511)).setBit F.BRX_SC_ABSENT_SC 31 15)
    511 (List.replicate 32 (500, 0))) ∧
  ((fun (s : State) => takes .BRX_REC_POP s) (((fun (s : State) => { s with brx := { s.brx with ring := [[1], [2]] } }) State.reset))) ∧
  ((fun (s : State) => takes .BRX_COL_POP s ∧ Brx.headDone s) (((fun (s : State) =>
    { s with brx := { s.brx with log := [⟨0, 0, 0, 0, 0, 0, 0, 0, 0, false, 0, 0⟩] } }) State.reset))) := by
  refine ⟨?_, ?_, ?_, ?_, ?_, ?_, ?_, ?_, ?_, ?_, ?_, ?_, ?_, ?_, ?_, ?_, ?_, ?_, ?_, ?_, ?_, ?_⟩ <;> decide

theorem test_meets_FrameSearchResults :
  ((fun (s : State) => takes .FRM_CTRL s) ((State.reset.set F.FRM_CTRL_TX_EN).set H.FRM_TX_RUN)) ∧
  ((fun (s : State) => s.on F.FRM_CTRL_TX_EN ∧ Rest.awake s ∧ s.leaf = false) ((((State.reset.set F.FRM_CTRL_TX_EN).set H.FRM_TX_RUN).put
    H.FRM_TX_FN 255).put H.FRM_TX_MFN 0xFFFFFF)) ∧
  ((fun (s : State) => s.on F.FRM_CTRL_TX_EN ∧ Rest.awake s ∧ s.leaf) ((State.reset.set F.FRM_CTRL_TX_EN).set F.SYS_ROLE_ROLE)) ∧
  ((fun (s : State) (value : Nat) => takes .FRM_CTRL s ∧ value % 2 = 1 ∧ s.on F.FRM_CTRL_RX_EN = false ∧ Frm.onTree s = false ∧
    (s.leaf = true ∨ s.get H.LRX_ACTIVE (s.get F.FRM_ALIGN_CFG_ALIGN_SC) % 8 = 1)) (State.reset.put H.LRX_ACTIVE 1 0) 1) ∧
  ((fun (s : State) (value : Nat) => takes .FRM_CTRL s ∧ value % 2 = 1 ∧ s.on F.FRM_CTRL_RX_EN = false ∧ Frm.onTree s = false ∧
    s.leaf = false ∧ s.get H.LRX_ACTIVE (s.get F.FRM_ALIGN_CFG_ALIGN_SC) % 8 ≠ 1) State.reset 1) ∧
  ((fun (s : State) (value : Nat) => takes .FRM_CTRL s ∧ value % 2 = 1 ∧ s.on F.FRM_CTRL_RX_EN = false ∧
    Frm.onTree s) (State.reset.set H.VLK_TREE) 1) ∧
  ((fun (s : State) (value : Nat) => takes .FRM_CTRL s ∧ value % 2 = 0 ∧ s.on F.FRM_CTRL_RX_EN) (State.reset.set F.FRM_CTRL_RX_EN) 2) ∧
  ((fun (s : State) => takes .FRM_CTRL s ∧ s.get F.FRM_ALIGN_STAT_STATE ≠ 0) (State.reset.put F.FRM_ALIGN_STAT_STATE 2)) ∧
  ((fun (s : State) (pos rot errs : Nat) => s.get F.FRM_ALIGN_STAT_STATE = 1 ∧ rot ≤ 3 ∧ errs ≤ s.get F.FRM_ALIGN_CFG_FAW_TOL ∧
    s.frm.cands.any (fun (c : Cand) => c.pos % Frm.frameLen == pos % Frm.frameLen && c.rot == rot) = false ∧
    s.frm.cands.length < 8) (State.reset.put F.FRM_ALIGN_STAT_STATE 1) 32639 3 4) ∧
  ((fun (s : State) (pos rot errs : Nat) => s.get F.FRM_ALIGN_STAT_STATE = 1 ∧ rot ≤ 3 ∧ errs ≤ s.get F.FRM_ALIGN_CFG_FAW_TOL ∧
    s.frm.cands.any (fun (c : Cand) => c.pos % Frm.frameLen == pos % Frm.frameLen && c.rot == rot) = false ∧
    8 ≤ s.frm.cands.length) ((fun (s : State) =>
    { s with frm := { s.frm with cands := [⟨0, 0, 1, 0⟩, ⟨1, 0, 1, 0⟩, ⟨2, 0, 1, 0⟩, ⟨3, 0, 1, 0⟩, ⟨4, 0, 1, 0⟩, ⟨5, 0, 1, 0⟩, ⟨6, 0, 1, 0⟩, ⟨7, 0, 1, 0⟩] } })
    (State.reset.put F.FRM_ALIGN_STAT_STATE 1)) 32639 3 4) ∧
  ((fun (s : State) (pos rot errs word : Nat) (c : Cand) => s.frm.cands.find? (fun (x : Cand) => x.pos + Frm.frameLen == pos && x.rot ==
    rot) = some c ∧ (s.get F.FRM_ALIGN_CFG_FAW_TOL < errs ∨ Frm.wordOk word = false ∨ (c.made ≠ 1 ∧
    Frm.wordFn word ≠ (c.fn + 1) % 256))) (((fun (s : State) => { s with frm := { s.frm with cands := [⟨0, 3, 1, 0⟩] } })
    (State.reset.put F.FRM_ALIGN_STAT_STATE 1))) 32640 3 4 521 (⟨0, 3, 1, 0⟩)) ∧
  ((fun (s : State) (pos rot errs word : Nat) (c : Cand) => s.frm.cands.find? (fun (x : Cand) => x.pos + Frm.frameLen == pos && x.rot ==
    rot) = some c ∧ errs ≤ s.get F.FRM_ALIGN_CFG_FAW_TOL ∧ Frm.wordOk word ∧
    c.made = 1) (((fun (s : State) => { s with frm := { s.frm with cands := [⟨0, 3, 1, 0⟩] } }) (State.reset.put F.FRM_ALIGN_STAT_STATE
    1))) 32640 3 4 520 (⟨0, 3, 1, 0⟩)) ∧
  ((fun (s : State) (pos rot errs word : Nat) (c : Cand) => s.frm.cands.find? (fun (x : Cand) => x.pos + Frm.frameLen == pos && x.rot ==
    rot) = some c ∧ errs ≤ s.get F.FRM_ALIGN_CFG_FAW_TOL ∧ Frm.wordOk word ∧ c.made ≠ 1 ∧
    Frm.wordFn word = (c.fn + 1) % 256) (((fun (s : State) => { s with frm := { s.frm with cands := [⟨32640, 3, 2, 255⟩] } })
    (State.reset.put F.FRM_ALIGN_STAT_STATE 1))) 65280 3 4 520 (⟨32640, 3, 2, 255⟩)) ∧
  ((fun (s : State) (pos rot errs word : Nat) (c : Cand) => s.frm.cands.find? (fun (x : Cand) => x.pos + Frm.frameLen == pos && x.rot ==
    rot) = none ∧ s.frm.rivals.find? (fun (x : Cand) => x.pos + Frm.frameLen == pos && x.rot == rot) = some c ∧
    errs ≤ s.get F.FRM_ALIGN_CFG_FAW_TOL ∧ Frm.wordOk word ∧ c.made ≠ 1 ∧ Frm.wordFn word = (c.fn + 1) % 256 ∧
    (pos + 128) / Frm.frameLen = s.frm.window) (((fun (s : State) =>
    { s with frm := { s.frm with rivals := [⟨32641, 3, 2, 255⟩], window := 2 } }) (State.reset.put F.FRM_ALIGN_STAT_STATE 2))) 65281 3 4
    520 (⟨32641, 3, 2, 255⟩)) ∧
  ((fun (s : State) (k : Nat) => Frm.inFrame s ∧ Frm.framed s k ∧ k = Frm.searched s ∧
    k < 512) ((((State.reset.put F.FRM_ALIGN_STAT_STATE 2).put F.LRX_LINE_CFG_NSC_M1 511).put H.LRX_ACTIVE 1 511).put
    F.FRM_ALIGN_CFG_ALIGN_SC 511) 511) ∧
  ((fun (s : State) (k : Nat) => Frm.inFrame s ∧ Frm.framed s k ∧ k ≠ Frm.searched s ∧
    k < 512) (((State.reset.put F.FRM_ALIGN_STAT_STATE 2).put F.LRX_LINE_CFG_NSC_M1 511).put H.LRX_ACTIVE 1 511) 511) ∧
  ((fun (s : State) => Frm.inFrame s ∧ 5 ≤ s.get H.FRM_FAW_MISS) ((State.reset.put F.FRM_ALIGN_STAT_STATE 2).put H.FRM_FAW_MISS 5)) := by
  refine ⟨?_, ?_, ?_, ?_, ?_, ?_, ?_, ?_, ?_, ?_, ?_, ?_, ?_, ?_, ?_, ?_, ?_⟩ <;> decide

theorem test_meets_OverheadResults :
  ((fun (s : State) (k word : Nat) => Frm.onTree s = false ∧ Frm.inFrame s ∧ Frm.framed s k ∧ k < 512 ∧
    Frm.wordOk word = false) (((State.reset.put F.FRM_ALIGN_STAT_STATE 2).put F.LRX_LINE_CFG_NSC_M1 511).put H.LRX_ACTIVE 1 511) 511 521) ∧
  ((fun (s : State) (k l word mfn fn : Nat) => (if Frm.onTree s = true then Frm.checked s k l = true else Frm.inFrame s = true ∧
    Frm.framed s k = true) ∧ k < 512 ∧ Frm.wordOk word ∧ Frm.comparable s k l (Frm.frameNumber s mfn fn)) ((((State.reset.put
    F.FRM_ALIGN_STAT_STATE 2).put F.LRX_LINE_CFG_NSC_M1 511).put H.LRX_ACTIVE 1 511).put H.FRM_BIP_AT 0x100000000 511 0) 511 0 520 0 0) ∧
  ((fun (s : State) (k l word mfn fn : Nat) => (if Frm.onTree s = true then Frm.checked s k l = true else Frm.inFrame s = true ∧
    Frm.framed s k = true) ∧ k < 512 ∧ Frm.wordOk word ∧ Frm.comparable s k l (Frm.frameNumber s mfn fn) = false) (((State.reset.put
    F.FRM_ALIGN_STAT_STATE 2).put F.LRX_LINE_CFG_NSC_M1 511).put H.LRX_ACTIVE 1 511) 511 0 520 0 0) ∧
  ((fun (s : State) (k word : Nat) => Frm.onTree s = false ∧ Frm.inFrame s ∧ Frm.framed s k ∧ k = Frm.searched s ∧ k < 512 ∧
    Frm.wordOk word) ((((State.reset.put F.FRM_ALIGN_STAT_STATE 2).put F.LRX_LINE_CFG_NSC_M1 511).put H.LRX_ACTIVE 1 511).put
    F.FRM_ALIGN_CFG_ALIGN_SC 511) 511 520) ∧
  ((fun (s : State) (k l word : Nat) => Frm.onTree s ∧ Frm.checked s k l ∧ k < 512 ∧ l < 512 ∧
    Frm.wordOk word) ((((State.reset.set H.VLK_TREE).set F.FRM_CTRL_RX_EN).put H.LRX_ACTIVE 0x7FC00001 511).put H.LRX_ACT_VER 1) 511 511
    520) ∧
  ((fun (s : State) => Frm.onTree s = false ∧ s.on F.FRM_ALIGN_STAT_IN_MF ∧
    5 ≤ s.get H.FRM_FN_MISS) ((State.reset.set F.FRM_ALIGN_STAT_IN_MF).put H.FRM_FN_MISS 5)) ∧
  ((fun (s : State) (k l : Nat) => Frm.onTree s ∧ k < 512 ∧ l < 512 ∧ s.on H.FRM_UP_OOM k l = false ∧ (5 ≤ s.get H.FRM_UP_FN_MISS k l ∨
    5 ≤ s.get H.FRM_UP_MFN_MISS k l)) ((State.reset.set H.VLK_TREE).put H.FRM_UP_FN_MISS 5 511 511) 511 511) ∧
  ((fun (s : State) => Frm.onTree s = false ∧ Frm.inFrame s ∧ s.on F.FRM_ALIGN_STAT_IN_MF = false ∧
    s.get H.FRM_FN_RUN = 3) ((State.reset.put F.FRM_ALIGN_STAT_STATE 2).put H.FRM_FN_RUN 3)) ∧
  ((fun (s : State) (k l : Nat) => Frm.onTree s ∧ k < 512 ∧ l < 512 ∧ s.on H.FRM_UP_OOM k l ∧
    s.get H.FRM_UP_FN_RUN k l = 3) (((State.reset.set H.VLK_TREE).put H.FRM_UP_FN_RUN 3 511 511).set H.FRM_UP_OOM 511 511) 511 511) ∧
  ((fun (s : State) (k l : Nat) => Frm.checked s k l ∧ k < 512 ∧ l < 512) (((State.reset.set H.VLK_TREE).set F.FRM_CTRL_RX_EN).put
    H.LRX_ACTIVE 0x7FC00001 511) 511 511) ∧
  ((fun (s : State) (k l : Nat) => Frm.checked s k l ∧ k < 512 ∧ l < 512 ∧ s.on H.FRM_UP_OOF k l = false ∧
    5 ≤ s.get H.FRM_UP_MISS k l) ((((State.reset.set H.VLK_TREE).set F.FRM_CTRL_RX_EN).put H.LRX_ACTIVE 0x7FC00001 511).put H.FRM_UP_MISS
    5 511 511) 511 511) ∧
  ((fun (s : State) (k l : Nat) => Frm.checked s k l ∧ k < 512 ∧ l < 512 ∧ s.on H.FRM_UP_OOF k l ∧
    s.get H.FRM_UP_HIT k l = 3) (((((State.reset.set H.VLK_TREE).set F.FRM_CTRL_RX_EN).put H.LRX_ACTIVE 0x7FC00001 511).put H.FRM_UP_HIT
    3 511 511).set H.FRM_UP_OOF 511 511) 511 511) ∧
  ((fun (s : State) (j : Nat) => s.get H.FRM_TTI_RUN = 3 ∧ j < 16) ((State.reset.put H.FRM_TTI_RUN 3).put H.FRM_TTI_LAST 255 63) 15) ∧
  ((fun (s : State) => Frm.inFrame s ∧ s.get H.FRM_SSM_RUN = 3 ∧ s.get H.FRM_SSM_LAST ≠ s.get F.FRM_SSM_RX_SSM) (((State.reset.put
    F.FRM_ALIGN_STAT_STATE 2).put H.FRM_SSM_RUN 3).put H.FRM_SSM_LAST 2)) := by
  refine ⟨?_, ?_, ?_, ?_, ?_, ?_, ?_, ?_, ?_, ?_, ?_, ?_, ?_, ?_⟩ <;> decide

theorem test_meets_DefectAndFlowResults :
  ((fun (levels : List (Nat × Nat × Nat)) (p clip rms ovr : Nat) => p < 4 ∧ levels[p]? = some (clip, rms, ovr)) ([(0, 1, 2), (0, 3, 4),
    (0, 5, 6), (0, 7, 8)]) 3 0 7 8) ∧
  ((fun (s : State) (k d : Nat) => Rest.awake s ∧ k < Lrx.subcarriers s ∧ d < 12 ∧ s.get H.LRX_ACTIVE k % 8 ≠ 0 ∧
    (Frm.present s 1 k).testBit d) (((State.reset.put F.LRX_LINE_CFG_NSC_M1 511).put H.LRX_ACTIVE 1 511).set H.FRM_DEG_RAW 511) 511 8) ∧
  ((fun (k w : Nat) => k < 512 ∧ w < 6) 511 5) ∧
  ((fun (s : State) (kind i d : Nat) => kind < 5 ∧ d < 12 ∧ (Frm.kind kind).declared.shape.has i 0 0 ∧ Frm.setTicks s d ≠ 0 ∧
    Frm.setTicks s d ≤ s.get (Frm.kind kind).setc i d) (State.reset.put H.FRM_SETC_CLI 250 31 11) 4 31 11) ∧
  ((fun (s : State) (kind i d : Nat) => kind < 5 ∧ d < 12 ∧ (Frm.kind kind).declared.shape.has i 0 0 ∧ Frm.setTicks s d = 0 ∧
    (Frm.present (Frm.note s) kind i).testBit d) ((State.reset.put F.FRM_DEF_CFG_SET 0 0).set F.LRX_STAT_LOS) 0 0 0) ∧
  ((fun (s : State) (kind i d : Nat) => kind < 5 ∧ d < 12 ∧ (Frm.kind kind).declared.shape.has i 0 0 ∧ Frm.clrTicks s d ≠ 0 ∧
    Frm.clrTicks s d ≤ s.get (Frm.kind kind).clrc i d) ((State.reset.put H.FRM_CLRC_CLI 1000 31 11).setBit F.FRM_DEF_CLI_DEF 11 31) 4 31
    11) ∧
  ((fun (s : State) (kind i d : Nat) => kind < 5 ∧ d < 12 ∧ (Frm.kind kind).declared.shape.has i 0 0 ∧ Frm.clrTicks s d = 0 ∧
    (Frm.present s kind i).testBit d = false) ((State.reset.put F.FRM_DEF_CFG_CLR 0 11).setBit F.FRM_DEF_CLI_DEF 11 31) 4 31 11) ∧
  ((fun (s : State) (d n : Nat) => takes .FRM_DEF_CFG s ∧ d < 12 ∧ n < 5) (State.reset.put H.FRM_SETC_CLI 7 31 11) 11 4) ∧
  ((fun (s : State) (i : Nat) => i < 544 ∧ Frm.degM s ≤ s.get H.FRM_DEG_BAD i) (State.reset.put H.FRM_DEG_BAD 7 543) 543) ∧
  ((fun (s : State) (i : Nat) => i < 544 ∧ s.get H.FRM_DEG_BAD i < Frm.degM s ∧
    Frm.degM s ≤ s.get H.FRM_DEG_GOOD i) ((State.reset.put H.FRM_DEG_GOOD 7 0).set H.FRM_DEG_RAW 0) 0) ∧
  ((fun (s : State) (k l : Nat) (hdr : List Nat) (f : Nat) => Frm.delivers s k l ∧ Frm.headerOk hdr ∧ (Frm.parse hdr).type ≠ 2 ∧
    (Frm.parse hdr).type ≠ 3 ∧ (Frm.parse hdr).just = false ∧ Frm.receiver s (Frm.parse hdr).flow l = some f ∧ f < 3072 ∧
    Flw.ciphEn (Flw.entry s f) = false ∧ s.on H.FRM_WIN_ON f = false ∧
    s.get H.FLW_PMI f < H.FRM_LIVE_F.shape.n1) (((((State.reset.put F.FRM_ALIGN_STAT_STATE 2).put F.LRX_LINE_CFG_NSC_M1 511).put
    H.LRX_ACTIVE 1 511).set H.FEC_RX_ON 511).put F.FLW_FT_DATA 9 5 0) 511 0 ([0x40, 5, 255, 255, 0, 0, 0, 0, 0, 0, 0, 0, 0, 0, 0x4A,
    0xD8]) 5) ∧
  ((fun (s : State) (k l : Nat) (hdr : List Nat) => Frm.delivers s k l ∧ Frm.headerOk hdr = false ∧
    k < 512) ((((State.reset.put F.FRM_ALIGN_STAT_STATE 2).put F.LRX_LINE_CFG_NSC_M1 511).put H.LRX_ACTIVE 1 511).set H.FEC_RX_ON 511)
    511 0 ([0x40, 5, 255, 255, 0, 0, 0, 0, 0, 0, 0, 0, 0, 0, 0x4A, 0xD9])) ∧
  ((fun (s : State) (k l : Nat) (hdr : List Nat) => Frm.delivers s k l ∧ Frm.headerOk hdr ∧ (Frm.parse hdr).type ≠ 2 ∧
    (Frm.parse hdr).type ≠ 3 ∧ s.leaf = false ∧ Frm.receiver s (Frm.parse hdr).flow l = none) ((((State.reset.put F.FRM_ALIGN_STAT_STATE
    2).put F.LRX_LINE_CFG_NSC_M1 511).put H.LRX_ACTIVE 1 511).set H.FEC_RX_ON 511) 511 0 ([0x40, 5, 255, 255, 0, 0, 0, 0, 0, 0, 0, 0, 0,
    0, 0x4A, 0xD8])) ∧
  ((fun (s : State) (f : Nat) (x : Cf) (rest : List Cf) => f < 3072 ∧ Store.get [] s.frm.ready f = x :: rest ∧ Frm.idle x ∧
    (x.just = true ∨ (Frm.slip s f).length < 3) ∧ (Frm.slip s f).length < 8) (((fun (s : State) =>
    { s with frm := { s.frm with ready := [(3071, [{ type := 1, flow := 3071 }])] } }) State.reset)) 3071 ({ type := 1, flow := 3071 })
    ([])) ∧
  ((fun (s : State) (f : Nat) (x : Cf) (rest : List Cf) => f < 3072 ∧ Store.get [] s.frm.ready f = x :: rest ∧ Frm.idle x ∧
    x.just = false ∧ 3 ≤ (Frm.slip s f).length) ((fun (s : State) =>
    { s with frm := { s.frm with slip := [(3071, [⟨3071, 2, {}⟩, ⟨3071, 2, {}⟩, ⟨3071, 2, {}⟩])], ready := [(3071, [{ type := 1, flow := 3071 }])] } })
    State.reset) 3071 ({ type := 1, flow := 3071 }) ([])) ∧
  ((fun (s : State) (f : Nat) (x : Cf) (rest : List Cf) (p : Nat) => f < 3072 ∧ Store.get [] s.frm.ready f = x :: rest ∧
    Frm.idle x = false ∧ (Frm.slip s f).length < 8 ∧ (Qdm.draw f (Flw.buf (Flw.entry s f)) s).1 = some p) (((fun (s : State) =>
    { s with frm := { s.frm with ready := [(3071, [{ type := 0, flow := 3071 }])] } }) (State.reset.put F.FLW_FT_DATA 16393 3071 0)))
    3071 ({ type := 0, flow := 3071 }) ([]) 2) ∧
  ((fun (s : State) (f : Nat) (x : Stored) (rest : List Stored) => f < 3072 ∧ Flw.en (Flw.entry s f) ∧ Flw.rxEn (Flw.entry s f) ∧
    Frm.slip s f = x :: rest ∧ (rest.isEmpty && Frm.idle x.frame && !x.frame.just) = false) (((fun (s : State) =>
    { s with frm := { s.frm with slip := [(3071, [⟨3071, 2, { type := 0, flow := 3071 }⟩])] } }) (State.reset.put F.FLW_FT_DATA 9 3071
    0))) 3071 (⟨3071, 2, { type := 0, flow := 3071 }⟩) ([])) := by
  refine ⟨?_, ?_, ?_, ?_, ?_, ?_, ?_, ?_, ?_, ?_, ?_, ?_, ?_, ?_, ?_, ?_, ?_⟩ <;> decide

theorem test_meets_HostLaneResults :
  ((fun (s : State) (c : Nat) => takes .HSL_CLI_CFG s ∧ c < 32 ∧ Hsl.enabled s c = false ∧ (s.leaf = false ∨
    s.get F.HSL_CLI_CFG_FIRST_LANE c < 8) ∧ Hsl.check s c = 0) (((State.reset.put F.HSL_CLI_CFG_TYPE 5 31).put F.HSL_CLI_CFG_FIRST_LANE
    31 31).put F.HSL_CTRL_GRP_EN 15) 31) ∧
  ((fun (s : State) (c : Nat) => takes .HSL_CLI_CFG s ∧ c < 32 ∧ Hsl.enabled s c = false ∧ (s.leaf = false ∨
    s.get F.HSL_CLI_CFG_FIRST_LANE c < 8) ∧ Hsl.check s c ≠ 0) State.reset 31) ∧
  ((fun (s : State) (c : Nat) => takes .HSL_CLI_CFG s ∧ c < 32 ∧ Hsl.enabled s c = false ∧ s.leaf ∧
    8 ≤ s.get F.HSL_CLI_CFG_FIRST_LANE c) ((State.reset.set F.SYS_ROLE_ROLE).put F.HSL_CLI_CFG_FIRST_LANE 8 31) 31) ∧
  ((fun (s : State) (c : Nat) => takes .HSL_CLI_CFG s ∧ c < 32 ∧ Hsl.enabled s c) (((State.reset.set F.HSL_CLI_CFG_EN 31).put
    F.HSL_CLI_CFG_TYPE 5 31).put F.HSL_CLI_STAT_STATE 6 31) 31) ∧
  ((fun (s : State) (n c : Nat) => n < 32 ∧ Hsl.clientOf s n = some c) ((((State.reset.set F.HSL_CLI_CFG_EN 31).put F.HSL_CLI_CFG_TYPE 5
    31).put F.HSL_CLI_CFG_FIRST_LANE 31 31).put F.HSL_CLI_STAT_STATE 1 31) 31 31) ∧
  ((fun (s : State) (n c : Nat) => n < 32 ∧ Hsl.clientOf s n = some c) (((((State.reset.set F.HSL_CLI_CFG_EN 31).put F.HSL_CLI_CFG_TYPE 5
    31).put F.HSL_CLI_CFG_FIRST_LANE 31 31).put F.HSL_CLI_STAT_STATE 6 31).set F.HSL_LANE_STAT_CDR_LOCK 31) 31 31) ∧
  ((fun (s : State) (n c : Nat) => n < 32 ∧ Hsl.clientOf s n = some c ∧ s.on F.HSL_LANE_STAT_SIG n ∧
    2 ≤ Hsl.state s c) (((((State.reset.set F.HSL_CLI_CFG_EN 31).put F.HSL_CLI_CFG_TYPE 5 31).put F.HSL_CLI_CFG_FIRST_LANE 31 31).put
    F.HSL_CLI_STAT_STATE 2 31).set F.HSL_LANE_STAT_SIG 31) 31 31) ∧
  ((fun (s : State) (n c : Nat) => n < 32 ∧ Hsl.clientOf s n = some c ∧
    s.on F.HSL_LANE_STAT_CDR_LOCK n) ((((((State.reset.set F.HSL_CLI_CFG_EN 31).put F.HSL_CLI_CFG_TYPE 5 31).put F.HSL_CLI_CFG_FIRST_LANE
    31 31).put F.HSL_CLI_STAT_STATE 6 31).set F.HSL_LANE_STAT_CDR_LOCK 31).put F.HSL_LANE_STAT_LOCK_LOST 255 31) 31 31) ∧
  ((fun (s : State) (n comp c : Nat) => n < 32 ∧ Hsl.clientOf s n = some c ∧ s.on F.HSL_LANE_STAT_CDR_LOCK n ∧ 3 ≤ Hsl.state s c ∧
    (s.on F.HSL_LANE_CFG_POL_AUTO n = true ∨ min 1 comp = s.get F.HSL_LANE_CFG_RX_INV_FORCE n)) (((((State.reset.set F.HSL_CLI_CFG_EN
    31).put F.HSL_CLI_CFG_TYPE 5 31).put F.HSL_CLI_CFG_FIRST_LANE 31 31).put F.HSL_CLI_STAT_STATE 3 31).set F.HSL_LANE_STAT_CDR_LOCK 31)
    31 0 31) ∧
  ((fun (s : State) (n c : Nat) => n < 32 ∧ Hsl.clientOf s n = some c ∧
    s.on F.HSL_LANE_STAT_AM_LOCK n) (((((State.reset.set F.HSL_CLI_CFG_EN 31).put F.HSL_CLI_CFG_TYPE 5 31).put F.HSL_CLI_CFG_FIRST_LANE
    31 31).put F.HSL_CLI_STAT_STATE 6 31).set F.HSL_LANE_STAT_AM_LOCK 31) 31 31) ∧
  ((fun (c : Nat) => c < 32) 31) ∧
  ((fun (s : State) (c : Nat) => c < 32 ∧ Hsl.state s c = 5) (State.reset.put F.HSL_CLI_STAT_STATE 5 31) 31) ∧
  ((fun (s : State) (c ms : Nat) => c < 32 ∧ Hsl.state s c ≠ 0 ∧ Hsl.state s c ≠ 6 ∧
    max 1 (s.get F.HSL_LINK_CFG_LINK_TMO) ≤ ms) (State.reset.put F.HSL_CLI_STAT_STATE 5 31) 31 100) := by
  refine ⟨?_, ?_, ?_, ?_, ?_, ?_, ?_, ?_, ?_, ?_, ?_, ?_, ?_⟩ <;> decide

theorem test_meets_FlowAndMemoryResults :
  ((fun (s : State) (f w : Nat) => takes .FLW_CMD s ∧ Flw.busy s = false ∧ f % 4096 ≤ 3071 ∧ w < 5 ∧
    s.passive = false) (State.reset.put F.FLW_FT_DATA 9 3071 4) 3071 4) ∧
  ((fun (s : State) (f : Nat) => takes .FLW_CMD s ∧ Flw.busy s = false ∧ f % 4096 ≤ 3071 ∧ Flw.check s (f % 4096) (Flw.staged s) = 0 ∧
    s.passive = false) (State.reset.put F.FLW_STAGE_DATA 0x0BFF0000 0) 3071) ∧
  ((fun (s : State) (f : Nat) => takes .FLW_CMD s ∧ Flw.busy s = false ∧ f % 4096 ≤ 3071 ∧ Flw.check s (f % 4096) (Flw.staged s) ≠ 0 ∧
    s.passive = false) (State.reset.put F.FLW_STAGE_DATA 0x0BFF0C00 0) 3071) ∧
  ((fun (s : State) => takes .FLW_CMD s ∧ Flw.busy s ∧ s.passive = false) (State.reset.set F.FLW_CMD_STAT_BUSY)) ∧
  ((fun (s : State) => takes .FLW_CMD s ∧ Flw.busy s ∧ s.passive = false) (State.reset.set F.FLW_CMD_STAT_BUSY)) ∧
  ((fun (s : State) => takes .FLW_CMD s ∧ Flw.busy s ∧ s.passive = false) (State.reset.set F.FLW_CMD_STAT_BUSY)) ∧
  ((fun (s : State) (f : Nat) => takes .FLW_CMD s ∧ Flw.busy s = false ∧ f % 4096 ≤ 3071 ∧ s.passive = false) State.reset 3071) ∧
  ((fun (s : State) => takes .FLW_CMD s ∧ s.passive) ((State.reset.put F.PEER_STAT_STATE 3).put F.FLW_CMD_STAT_ERR_CODE 9)) ∧
  ((fun (s : State) => takes .FLW_CMD s ∧ s.passive) ((State.reset.put F.PEER_STAT_STATE 3).put F.FLW_CMD_STAT_ERR_CODE 9)) ∧
  ((fun (s : State) => takes .FLW_CMD s ∧ s.passive) ((State.reset.put F.PEER_STAT_STATE 3).put F.FLW_CMD_STAT_ERR_CODE 9)) ∧
  ((fun (s : State) (w : Nat) => Flw.busy s ∧ s.get H.FLW_OP = 1 ∧ s.get H.FLW_OP_FLOW < 3072 ∧
    w < 5) (((((State.reset.set F.FLW_CMD_STAT_BUSY).put H.FLW_OP 1).put H.FLW_OP_FLOW 3071).put F.FLW_STAGE_DATA 0x0BFF0001 0).put
    F.FLW_STAGE_DATA 5 4) 4) ∧
  ((fun (s : State) (w : Nat) => Flw.busy s ∧ s.get H.FLW_OP = 2 ∧ Flw.en (Flw.entry s (s.get H.FLW_OP_FLOW)) ∧
    w < 5) ((((State.reset.set F.FLW_CMD_STAT_BUSY).put H.FLW_OP 2).put H.FLW_OP_FLOW 3071).put F.FLW_FT_DATA 0x0BFF0001 3071 0) 0) ∧
  ((fun (s : State) (k now : Nat) => s.on F.LTX_STAT_ACTIVE ∧ Rest.awake s ∧ s.passive = false ∧ Flw.carries s k ∧
    Flw.startsNone s k = false ∧ s.get H.FRM_CF_DUE k ≠ 0 ∧ (s.leaf && s.on H.FRM_MGMT_DUE && Flw.mgmtSubcarrier s == some k) = false ∧
    picked s k now = none) (((((State.reset.set F.LTX_STAT_ACTIVE).put F.LTX_LINE_CFG_NSC_M1 511).put H.LTX_ACTIVE 1 511).put
    H.FRM_CF_DUE 1 511)) 511 0) ∧
  ((fun (s : State) (k now f : Nat) (spend : Bool) => s.on F.LTX_STAT_ACTIVE ∧ Rest.awake s ∧ s.passive = false ∧ Flw.carries s k ∧
    Flw.startsNone s k = false ∧ s.get H.FRM_CF_DUE k ≠ 0 ∧ (s.leaf && s.on H.FRM_MGMT_DUE && Flw.mgmtSubcarrier s == some k) = false ∧
    picked s k now = some (f, spend) ∧ f < 3072) ((((((((((State.reset.set F.LTX_STAT_ACTIVE).put F.LTX_LINE_CFG_NSC_M1 511).put
    H.LTX_ACTIVE 1 511).put H.FRM_CF_DUE 1 511)).put F.FLW_FT_DATA 0x0BFF0005 3071 0).put F.FLW_FT_DATA 0x3FE00 3071 3).put H.FLW_TOK
    Flw.token 3071).put H.FLW_TX_SEQ 65535 3071)) 511 0 3071 true) ∧
  ((fun (s : State) (k : Nat) => s.on F.LTX_STAT_ACTIVE ∧ Rest.awake s ∧ s.passive = false ∧ Flw.carries s k ∧
    Flw.startsNone s k = false ∧ s.get H.FRM_CF_DUE k ≠ 0 ∧ s.leaf ∧ s.on H.FRM_MGMT_DUE ∧
    Flw.mgmtSubcarrier s = some k) (((((((((State.reset.set F.LTX_STAT_ACTIVE).put F.LTX_LINE_CFG_NSC_M1 511).put H.LTX_ACTIVE 1 511).put
    H.FRM_CF_DUE 1 511)).set F.SYS_ROLE_ROLE).put F.VLK_SELF_STATE 4).put H.LTX_ACTIVE 0x7FC00001 511).set H.FRM_MGMT_DUE) 511) ∧
  ((fun (s : State) (f : Nat) => f < 3072 ∧ Flw.en (Flw.entry s f) ∧ Flw.txEn (Flw.entry s f)) ((State.reset.put F.FLW_FT_DATA 0x0BFF0005
    3071 0).put F.FLW_FT_DATA 256 3071 2) 3071) ∧
  ((fun (s : State) (c vlan slot : Nat) (data : List Nat) (f : Nat) => c < 32 ∧ Hsl.state s c = 6 ∧ s.passive = false ∧
    Flw.taker s c vlan slot = some f ∧ Flw.txEn (Flw.entry s f) ∧ Flw.inputFailed s (Flw.entry s f) = false ∧
    (Flw.ingress s f).length + data.length ≤ 2 * Flw.capacity (Flw.entry s f)) ((State.reset.put F.HSL_CLI_STAT_STATE 6 31).put
    F.FLW_FT_DATA 0x0BFF01F5 3071 0) 31 0 0 ([1, 2]) 3071) ∧
  ((fun (s : State) (c vlan slot : Nat) (data : List Nat) (f : Nat) => c < 32 ∧ Hsl.state s c = 6 ∧ s.passive = false ∧
    Flw.taker s c vlan slot = some f ∧ Flw.txEn (Flw.entry s f) ∧ Flw.inputFailed s (Flw.entry s f) = false ∧
    2 * Flw.capacity (Flw.entry s f) < (Flw.ingress s f).length + data.length) ((State.reset.put F.HSL_CLI_STAT_STATE 6 31).put
    F.FLW_FT_DATA 0x0BFF01F5 3071 0) 31 0 0 (List.replicate 11969 1) 3071) ∧
  ((fun (s : State) (p : Nat) => takes .QDM_CTRL s ∧ s.on F.QDM_CTRL_EN = false ∧ 400 ≤ s.get F.QDM_CTRL_FREQ_MHZ ∧
    s.get F.QDM_CTRL_FREQ_MHZ ≤ 1066 ∧ (List.range 2).all (fun q => Qdm.regionsOk s q && (!Qdm.needed s q || s.on F.QDM_PORT_CFG_EN q)) ∧
    p < 2) (State.reset.set F.QDM_PORT_CFG_EN 1) 1) ∧
  ((fun (s : State) => takes .QDM_CTRL s ∧ s.on F.QDM_CTRL_EN = false ∧ (s.get F.QDM_CTRL_FREQ_MHZ < 400 ∨
    1066 < s.get F.QDM_CTRL_FREQ_MHZ)) (State.reset.put F.QDM_CTRL_FREQ_MHZ 1067)) ∧
  ((fun (s : State) => takes .QDM_CTRL s ∧ s.on F.QDM_CTRL_EN = false ∧ 400 ≤ s.get F.QDM_CTRL_FREQ_MHZ ∧
    s.get F.QDM_CTRL_FREQ_MHZ ≤ 1066 ∧ (List.range 2).any (fun q => !Qdm.regionsOk s q || (Qdm.needed s q && !s.on F.QDM_PORT_CFG_EN q)))
    (State.reset.put F.QDM_REGION_SIZE 1 1 4)) ∧
  ((fun (s : State) (p step : Nat) => p < 2 ∧ s.bit H.QDM_TRAINING p ∧ step = 0) (State.reset.put H.QDM_TRAINING 3) 1 0) ∧
  ((fun (s : State) (p step : Nat) => p < 2 ∧ s.bit H.QDM_TRAINING p ∧ step ≠ 0) (State.reset.put H.QDM_TRAINING 3) 0 7) ∧
  ((fun (s : State) (p : Nat) => takes .QDM_CTRL s ∧ s.on F.QDM_CTRL_EN ∧ p < 2 ∧ s.on F.QDM_PORT_CFG_EN p ∧ Qdm.inUse s p = false ∧
    s.bit H.QDM_TRAINING p = false) (((State.reset.set F.QDM_CTRL_EN).set F.QDM_PORT_CFG_EN 1).set F.QDM_TRAIN_STAT_FAIL 1) 1) ∧
  ((fun (s : State) (p : Nat) (moves : List Nat) (j : Nat) => p < 2 ∧ Qdm.inUse s p ∧ j < 36 ∧
    j < moves.length) (State.reset.put F.QDM_STAT_IN_USE 2) 1 [1, 2] 1) ∧
  ((fun (p : Nat) => p < 2) 1) ∧
  ((fun (p : Nat) => p < 2) 1) ∧
  ((fun (s : State) (p : Nat) => Qdm.failing s p) ((State.reset.put F.QDM_STAT_IN_USE 2).put H.QDM_ERRS_SEC 64 1) 1) := by
  refine ⟨?_, ?_, ?_, ?_, ?_, ?_, ?_, ?_, ?_, ?_, ?_, ?_, ?_, ?_, ?_, ?_, ?_, ?_, ?_, ?_, ?_, ?_, ?_, ?_, ?_, ?_, ?_, ?_⟩ <;> decide +kernel

theorem test_meets_KeyVaultCommandResults :
  ((fun (s : State) (master : Nat) (user : Bool) => Bus.inReset s (RegId.barAddr .CRY_LOCK 0 0 0) = false ∧ Mbx.mayManage ⟨master,
    user⟩ ∧ s.get F.CRY_LOCK_STAT_OWNER = 0 ∧ master < 256) State.reset 16 false) ∧
  ((fun (s : State) (master : Nat) => takes .CRY_LOCK s ∧ s.get F.CRY_LOCK_STAT_OWNER = master ∧
    master ≠ 0) ((State.reset.put F.CRY_LOCK_STAT_OWNER 9).put F.CRY_KEY_DATA_KEY 7 7) 9) ∧
  ((fun (s : State) (master ctx ph i : Nat) => takes .CRY_KEY_CMD s ∧ s.get F.CRY_LOCK_STAT_OWNER = master ∧
    s.on F.CRY_KEY_STAT_BUSY = false ∧ s.on F.CRY_ERASE_STAT_ALARM_NOW = false ∧ ctx ≤ 3071 ∧ ph < 2 ∧
    (Cry.used s ctx && s.get H.CRY_TX_PH ctx == ph) = false ∧ i < 8) ((State.reset.put F.CRY_LOCK_STAT_OWNER 1).put F.CRY_KEY_DATA_KEY 7
    7) 1 3071 1 7) ∧
  ((fun (s : State) (master ctx ph : Nat) => takes .CRY_KEY_CMD s ∧ s.get F.CRY_LOCK_STAT_OWNER = master ∧
    s.on F.CRY_KEY_STAT_BUSY = false ∧ s.on F.CRY_ERASE_STAT_ALARM_NOW = false ∧ ctx ≤ 3071 ∧ ph < 2 ∧
    s.on H.CRY_VALID ctx ph) ((State.reset.put F.CRY_LOCK_STAT_OWNER 1).set H.CRY_VALID 3071 1) 1 3071 1) ∧
  ((fun (s : State) (master ctx ph i : Nat) => takes .CRY_KEY_CMD s ∧ s.get F.CRY_LOCK_STAT_OWNER = master ∧
    s.on F.CRY_KEY_STAT_BUSY = false ∧ s.on F.CRY_ERASE_STAT_ALARM_NOW = false ∧ ctx ≤ 3071 ∧ ph < 2 ∧
    (Cry.used s ctx && s.get H.CRY_TX_PH ctx == ph) = false ∧ i < 8) ((State.reset.put F.CRY_LOCK_STAT_OWNER 1).set H.CRY_VALID 3071 1) 1
    3071 1 0) ∧
  ((fun (s : State) (master ctx : Nat) => takes .CRY_KEY_CMD s ∧ s.get F.CRY_LOCK_STAT_OWNER = master ∧
    s.on F.CRY_KEY_STAT_BUSY = false ∧ s.on F.CRY_ERASE_STAT_ALARM_NOW = false ∧ ctx ≤ 3071 ∧
    Cry.used s ctx = false) (((State.reset.put F.CRY_LOCK_STAT_OWNER 1).set H.CRY_VALID 3071 1).put H.CRY_NEXT 99 3071) 1 3071) ∧
  ((fun (s : State) (master op : Nat) => takes .CRY_KEY_CMD s ∧ s.get F.CRY_LOCK_STAT_OWNER = master ∧ s.on F.CRY_KEY_STAT_BUSY = false ∧
    s.on F.CRY_ERASE_STAT_ALARM_NOW = false ∧ (op = 0 ∨ op = 5 ∨ op = 6 ∨ op = 7)) (State.reset.put F.CRY_LOCK_STAT_OWNER 1) 1 7) ∧
  ((fun (s : State) (master ctx ph : Nat) => takes .CRY_KEY_CMD s ∧ s.get F.CRY_LOCK_STAT_OWNER = master ∧
    s.on F.CRY_KEY_STAT_BUSY = false ∧ s.on F.CRY_ERASE_STAT_ALARM_NOW = false ∧ ctx ≤ 3071 ∧ ph < 2 ∧ Cry.used s ctx ∧
    s.get H.CRY_TX_PH ctx = ph) ((State.reset.put F.CRY_LOCK_STAT_OWNER 1).put H.FLW_CTX_FLOW 1 3071) 1 3071 0) ∧
  ((fun (s : State) (master ctx : Nat) => takes .CRY_KEY_CMD s ∧ s.get F.CRY_LOCK_STAT_OWNER = master ∧
    s.on F.CRY_KEY_STAT_BUSY = false ∧ s.on F.CRY_ERASE_STAT_ALARM_NOW = false ∧
    3071 < ctx % 4096) (State.reset.put F.CRY_LOCK_STAT_OWNER 1) 1 3072) ∧
  ((fun (s : State) (master ctx : Nat) => takes .CRY_KEY_CMD s ∧ s.get F.CRY_LOCK_STAT_OWNER = master ∧
    s.on F.CRY_KEY_STAT_BUSY = false ∧ s.on F.CRY_ERASE_STAT_ALARM_NOW = false ∧
    3071 < ctx % 4096) (State.reset.put F.CRY_LOCK_STAT_OWNER 1) 1 3072) ∧
  ((fun (s : State) (master ctx ph : Nat) => takes .CRY_KEY_CMD s ∧ s.get F.CRY_LOCK_STAT_OWNER = master ∧
    s.on F.CRY_KEY_STAT_BUSY = false ∧ s.on F.CRY_ERASE_STAT_ALARM_NOW = false ∧ ctx ≤ 3071 ∧ ph < 2 ∧
    s.on H.CRY_VALID ctx ph = false) (State.reset.put F.CRY_LOCK_STAT_OWNER 1) 1 3071 0) ∧
  ((fun (s : State) (master ctx ph : Nat) => takes .CRY_KEY_CMD s ∧ s.get F.CRY_LOCK_STAT_OWNER = master ∧
    s.on F.CRY_KEY_STAT_BUSY = false ∧ s.on F.CRY_ERASE_STAT_ALARM_NOW = false ∧ ctx ≤ 3071 ∧ ph < 2 ∧ Cry.used s ctx ∧
    s.get H.CRY_TX_PH ctx = ph) ((State.reset.put F.CRY_LOCK_STAT_OWNER 1).put H.FLW_CTX_FLOW 1 3071) 1 3071 0) ∧
  ((fun (s : State) (master ctx : Nat) => takes .CRY_KEY_CMD s ∧ s.get F.CRY_LOCK_STAT_OWNER = master ∧
    s.on F.CRY_KEY_STAT_BUSY = false ∧ s.on F.CRY_ERASE_STAT_ALARM_NOW = false ∧ ctx ≤ 3071 ∧
    Cry.used s ctx) ((State.reset.put F.CRY_LOCK_STAT_OWNER 1).put H.FLW_CTX_FLOW 1 3071) 1 3071) ∧
  ((fun (s : State) (master : Nat) => takes .CRY_KEY_CMD s ∧ s.get F.CRY_LOCK_STAT_OWNER = master ∧ s.on F.CRY_KEY_STAT_BUSY = false ∧
    s.on F.CRY_ERASE_STAT_ALARM_NOW) ((State.reset.put F.CRY_LOCK_STAT_OWNER 1).set F.CRY_ERASE_STAT_ALARM_NOW) 1) ∧
  ((fun (s : State) (master : Nat) => takes .CRY_KEY_CMD s ∧ s.get F.CRY_LOCK_STAT_OWNER = master ∧
    s.on F.CRY_KEY_STAT_BUSY) ((State.reset.put F.CRY_LOCK_STAT_OWNER 1).set F.CRY_KEY_STAT_BUSY) 1) ∧
  ((fun (s : State) (master : Nat) => takes .CRY_KEY_CMD s ∧ s.get F.CRY_LOCK_STAT_OWNER ≠ master) (State.reset.put F.CRY_LOCK_STAT_OWNER
    1) 2) ∧
  ((fun (s : State) => s.on F.CRY_KEY_STAT_BUSY) ((State.reset.set F.CRY_KEY_STAT_BUSY).put H.CRY_RESULT 4)) ∧
  ((fun (s : State) (ctx ph : Nat) => s.on F.CRY_KEY_STAT_BUSY ∧ s.get H.CRY_RESULT = 0 ∧ s.get H.CRY_ROLL = 1 + 2 * ctx + ph ∧
    ctx ≤ 3071 ∧ ph < 2) ((State.reset.set F.CRY_KEY_STAT_BUSY).put H.CRY_ROLL 6144) 3071 1) ∧
  ((fun (s : State) (cause c ph i : Nat) => Cry.alarmActs s cause ∧ c ≤ 3071 ∧ ph < 2 ∧
    i < 8) (((State.reset.put F.CRY_LOCK_STAT_OWNER 1).set H.CRY_VALID 3071 1).put H.CRY_KEY 5 3071 1 7) 5 3071 1 7) ∧
  ((fun (s : State) (c : Nat) => s.get F.PEER_STAT_STATE = 4 ∧ c < 3072) ((State.reset.put F.PEER_STAT_STATE 4).put H.CRY_NEXT 70000
    3071) 3071) := by
  refine ⟨?_, ?_, ?_, ?_, ?_, ?_, ?_, ?_, ?_, ?_, ?_, ?_, ?_, ?_, ?_, ?_, ?_, ?_, ?_, ?_⟩ <;> decide

theorem test_meets_ReferenceCommandResults :
  ((fun (s : State) (i lost : Nat) => i < 8 ∧ Syn.state (Syn.refresh s) i ≠ 0 ∧ Syn.dormant s i = false ∧
    lost ≠ 0) (State.reset.put F.SYN_REF_STAT_STATE 2 7) 7 1) ∧
  ((fun (s : State) (i : Nat) => s.on F.SYN_CTRL_EN ∧ i < 8 ∧ Syn.state s i = 0 ∧ Syn.dormant s i = false ∧
    Syn.failing (Syn.refresh s) i = false) (((State.reset.set F.SYN_CTRL_EN).clr F.SYN_CTRL_QL_EN).set F.SYN_REF_CFG_EN 1) 1) ∧
  ((fun (s : State) (i : Nat) => i < 8 ∧ Syn.state s i = 1 ∧ s.get F.SYN_QUAL_CFG_WTR_S ≤ s.get H.SYN_GOOD i) (((State.reset.put
    F.SYN_REF_STAT_STATE 1 7).put F.SYN_QUAL_CFG_WTR_S 3).put H.SYN_GOOD 3 7) 7) ∧
  ((fun (s : State) (i : Nat) => i < 8 ∧ Syn.state s i = 3 ∧ s.get F.SYN_QUAL_CFG_WTR_S ≤ s.get H.SYN_GOOD i) (((State.reset.put
    F.SYN_REF_STAT_STATE 3 7).put F.SYN_QUAL_CFG_WTR_S 3).put H.SYN_GOOD 3 7) 7) ∧
  ((fun (s : State) (i : Nat) => i < 8 ∧ (Syn.state s i = 2 ∨ Syn.state s i = 3) ∧
    (max 1 (s.get F.SYN_QUAL_CFG_DQ_S) ≤ s.get H.SYN_OVER i ∨ 3 ≤ s.get H.SYN_OVER2 i)) ((State.reset.put F.SYN_REF_STAT_STATE 2 7).put
    H.SYN_OVER2 3 7) 7) ∧
  ((fun (s : State) (i seconds : Nat) => i < 8 ∧ s.get F.SYN_QL_CFG_QL_TMO ≠ 0 ∧ s.get F.SYN_QL_CFG_QL_TMO ≤ seconds ∧
    (s.on F.SYN_REF_CFG_QL_SRC i && (i == 2 || i == 7)) = false ∧ s.on H.SYN_QL_OK i) (((State.reset.put F.SYN_QL_CFG_QL_TMO 60).put
    F.SYN_REF_CFG_QL_SRC 0 7).set H.SYN_QL_OK 7) 7 60) ∧
  ((fun (s : State) (seconds : Nat) => s.get F.SYN_QL_CFG_QL_TMO ≠ 0 ∧ s.get F.SYN_QL_CFG_QL_TMO ≤ seconds ∧
    s.on F.SYN_REF_CFG_QL_SRC 2 ∧ s.on F.FRM_SSM_RX_VALID = false ∧ s.on H.SYN_LINE_OK) (((State.reset.put F.SYN_QL_CFG_QL_TMO 60).put
    F.SYN_REF_CFG_QL_SRC 1 2).set H.SYN_LINE_OK) 60) ∧
  ((fun (s : State) (i : Nat) => takes .SYN_REF_QL s ∧ i < 8) State.reset 7) ∧
  ((fun (s : State) => Rest.awake s) ((((State.reset.set F.SYN_CTRL_EN).set F.SYN_SEL_CTRL_FORCE).put F.SYN_SEL_CTRL_REF 1).put
    F.SYN_REF_STAT_STATE 2 1)) ∧
  ((fun (s : State) => Syn.loop s = 1) (State.reset.put F.SYN_STAT_LOOP 1)) ∧
  ((fun (s : State) (x : Sample) (rest : List Sample) => s.syn.quarantine = x :: rest ∧
    x.second + s.get F.SYN_HO_CFG_QUAR_S ≤ s.syn.seconds) (((fun (s : State) =>
    { s with syn := { s.syn with quarantine := [⟨1, {}, 0, 0⟩], seconds := 100000 } }) State.reset)) (⟨1, {}, 0, 0⟩) ([])) ∧
  ((fun (s : State) (k : Nat) => s.get F.SYN_HO_MODE_TC_MODE = 1 ∧ k = (if Q.le (Q.int 6) (Syn.span s.syn.history) then 3 else 1) ∧
    Q.le (Q.int 2) (Syn.span s.syn.history) ∧ (fitLeast (k + 1) (s.syn.history.map (fun x => (([Q.int 1, Q.sub x.theta (Q.int 25),
    Q.mul (Q.sub x.theta (Q.int 25)) (Q.sub x.theta (Q.int 25)), Q.mul (Q.sub x.theta (Q.int 25)) (Q.mul (Q.sub x.theta (Q.int 25))
    (Q.sub x.theta (Q.int 25)))].take (k + 1)), Q.sub (Q.mk' x.f 1000) (Syn.ageTerm s x.time))))).isSome) (((fun (s : State) =>
    { s with syn := { s.syn with history := [⟨1000, Q.int 25, 0, 0⟩, ⟨3000, Q.int 28, 0, 1⟩] } }) (State.reset.put F.SYN_HO_MODE_TC_MODE
    1))) 1) ∧
  ((fun (s : State) => s.on F.SYN_PPS_CFG_IN_EN) (State.reset.set F.SYN_PPS_CFG_IN_EN)) ∧
  ((fun (s : State) => s.on F.SYN_TIME_CTRL_ALIGN_PEND) (State.reset.set F.SYN_TIME_CTRL_ALIGN_PEND)) ∧
  ((fun (ms : Nat) => 1100 ≤ ms) 1100) ∧
  ((fun (s : State) => s.on F.SYN_TIME_CTRL_SET_PEND = false) (State.reset.put F.SYN_TIME_HI_VAL 9)) ∧
  ((fun (s : State) => s.on F.SYN_TIME_CTRL_SET_PEND) ((State.reset.put F.SYN_TIME_SET_S_VAL 9).set F.SYN_TIME_CTRL_SET_PEND)) := by
  refine ⟨?_, ?_, ?_, ?_, ?_, ?_, ?_, ?_, ?_, ?_, ?_, ?_, ?_, ?_, ?_, ?_, ?_⟩ <;> decide

theorem test_meets_SyncWriteResults :
  ((fun (s : State) (o value : Nat) => takes .SYN_PSTEP s ∧ o < 8 ∧ (s.leaf && o == 0) = false ∧
    -500000 ≤ s.sget F.SYN_PSTEP_AMOUNT o + signed 20 (value % 2 ^ 20) ∧
    s.sget F.SYN_PSTEP_AMOUNT o + signed 20 (value % 2 ^ 20) ≤ 500000) (State.reset.put F.SYN_PSTEP_AMOUNT 7 5) 5 0xFFFFF) ∧
  ((fun (s : State) (o value : Nat) => takes .SYN_PSTEP s ∧ o < 8 ∧ (s.leaf && o == 0) = false ∧
    (s.sget F.SYN_PSTEP_AMOUNT o + signed 20 (value % 2 ^ 20) < -500000 ∨
    500000 < s.sget F.SYN_PSTEP_AMOUNT o + signed 20 (value % 2 ^ 20))) (State.reset.put F.SYN_PSTEP_AMOUNT 500000 7) 7 1) ∧
  ((fun (s : State) => takes .SYN_PSTEP s ∧ s.leaf) (State.reset.set F.SYS_ROLE_ROLE)) ∧
  ((fun (s : State) (o : Nat) => o < 8 ∧ s.on F.SYN_PSTEP_AMOUNT o) (State.reset.put F.SYN_PSTEP_AMOUNT 7 5) 5) ∧
  ((fun (s : State) (master : Nat) (user : Bool) (value : Nat) => takes .SYN_PRIV_KEY s ∧ Syn.mayOpen ⟨master, user⟩ ∧
    value = 0x0C48A30E) State.reset 16 false 0x0C48A30E) ∧
  ((fun (s : State) (master : Nat) (user : Bool) (value : Nat) => takes .SYN_PRIV_KEY s ∧ Syn.mayOpen ⟨master, user⟩ ∧
    value = 0x5E7A91D2 ∧ s.get H.SYN_KEYSTEP master = 1) (State.reset.put H.SYN_KEYSTEP 1 9) 9 false 0x5E7A91D2) ∧
  ((fun (s : State) (master : Nat) (user : Bool) (value : Nat) => takes .SYN_PRIV_KEY s ∧ (Syn.mayOpen ⟨master,
    user⟩ && (value == 0x0C48A30E || (value == 0x5E7A91D2 && s.get H.SYN_KEYSTEP master == 1))) = false) (State.reset.put H.SYN_KEYSTEP 1
    9) 9 false 0) ∧
  ((fun (s : State) (master : Nat) (user : Bool) (p us : Nat) => takes .SYN_NCO_CTRL s ∧ Syn.mayOpen ⟨master, user⟩ ∧ p < 2 ∧
    2 ≤ s.get H.SYN_KEYSTEP master ∧ us ≤ 1000 ∧ s.on F.SYN_NCO_CTRL_OPEN p = false ∧
    (s.leaf && p == 0) = false) (State.reset.put H.SYN_KEYSTEP 2 9) 9 false 1 1000) ∧
  ((fun (s : State) (master : Nat) (user : Bool) (p us : Nat) => takes .SYN_NCO_CTRL s ∧ p < 2 ∧
    (s.on F.SYN_NCO_CTRL_OPEN p && s.get F.SYN_NCO_CTRL_OWNER p == master) = false ∧ (Syn.mayOpen ⟨master,
    user⟩ && decide (2 ≤ s.get H.SYN_KEYSTEP master) && decide (us ≤ 1000) && !s.on F.SYN_NCO_CTRL_OPEN p && !(s.leaf && p == 0)) =
    false) (State.reset.put H.SYN_KEYSTEP 2 9) 9 false 1 1001) ∧
  ((fun (s : State) (master p : Nat) => takes .SYN_NCO_FREQ s ∧ p < 2 ∧ s.on F.SYN_NCO_CTRL_OPEN p ∧
    s.get F.SYN_NCO_CTRL_OWNER p = master) ((State.reset.set F.SYN_NCO_CTRL_OPEN 1).put F.SYN_NCO_CTRL_OWNER 9 1) 9 1) ∧
  ((fun (s : State) (master p : Nat) => takes .SYN_NCO_FREQ s ∧ p < 2 ∧
    (s.on F.SYN_NCO_CTRL_OPEN p && s.get F.SYN_NCO_CTRL_OWNER p == master) = false) ((State.reset.set F.SYN_NCO_CTRL_OPEN 1).put
    F.SYN_NCO_CTRL_OWNER 9 1) 8 1) ∧
  ((fun (s : State) (master p : Nat) => takes .SYN_NCO_CTRL s ∧ p < 2 ∧ s.on F.SYN_NCO_CTRL_OPEN p ∧
    s.get F.SYN_NCO_CTRL_OWNER p = master) ((State.reset.set F.SYN_NCO_CTRL_OPEN 1).put F.SYN_NCO_CTRL_OWNER 9 1) 9 1) ∧
  ((fun (s : State) (master p : Nat) => takes .SYN_NCO_CTRL s ∧ p < 2 ∧
    (s.on F.SYN_NCO_CTRL_OPEN p && s.get F.SYN_NCO_CTRL_OWNER p == master) = false) ((State.reset.set F.SYN_NCO_CTRL_OPEN 1).put
    F.SYN_NCO_CTRL_OWNER 9 1) 8 1) ∧
  ((fun (s : State) (p seconds : Nat) => p < 2 ∧ s.on F.SYN_NCO_CTRL_OPEN p ∧ s.get F.SYN_PRIV_CFG_MAX_OPEN_S ≠ 0 ∧
    s.get F.SYN_PRIV_CFG_MAX_OPEN_S ≤ seconds) (((State.reset.set F.SYN_NCO_CTRL_OPEN 1).put F.SYN_NCO_CTRL_OWNER 9 1).put
    F.SYN_PRIV_CFG_MAX_OPEN_S 60) 1 60) ∧
  ((fun (s : State) => takes .SYN_TIME_CTRL s) State.reset) ∧
  ((fun (s : State) => takes .SYN_TIME_CTRL s) State.reset) := by
  refine ⟨?_, ?_, ?_, ?_, ?_, ?_, ?_, ?_, ?_, ?_, ?_, ?_, ?_, ?_, ?_, ?_⟩ <;> decide

theorem test_meets_RegisterInstructionResults :
  ((fun (s : State) (n t : Nat) => turnFn s n t 0 0) (((((State.reset.put F.ENG_THR_STAT_STATE 1 63 3).put F.ENG_THR_STAT_PC 100 63
    3).put H.ENG_IMEM 0xa63800 63 100).put F.ENG_GREG_VAL 0x80000001 63 3 6).put F.ENG_GREG_VAL 0x7FFFFFFF 63 3 7) 63 3) ∧
  ((fun (s : State) (n t : Nat) => turnFn s n t 0 1) (((((State.reset.put F.ENG_THR_STAT_STATE 1 63 3).put F.ENG_THR_STAT_PC 100 63
    3).put H.ENG_IMEM 0xa63801 63 100).put F.ENG_GREG_VAL 0x80000001 63 3 6).put F.ENG_GREG_VAL 0x7FFFFFFF 63 3 7) 63 3) ∧
  ((fun (s : State) (n t : Nat) => turnFn s n t 0 2) (((((State.reset.put F.ENG_THR_STAT_STATE 1 63 3).put F.ENG_THR_STAT_PC 100 63
    3).put H.ENG_IMEM 0xa63802 63 100).put F.ENG_GREG_VAL 0x80000001 63 3 6).put F.ENG_GREG_VAL 0x7FFFFFFF 63 3 7) 63 3) ∧
  ((fun (s : State) (n t : Nat) => turnFn s n t 0 3) (((((State.reset.put F.ENG_THR_STAT_STATE 1 63 3).put F.ENG_THR_STAT_PC 100 63
    3).put H.ENG_IMEM 0xa63803 63 100).put F.ENG_GREG_VAL 0x80000001 63 3 6).put F.ENG_GREG_VAL 0x7FFFFFFF 63 3 7) 63 3) ∧
  ((fun (s : State) (n t : Nat) => turnFn s n t 0 4) (((((State.reset.put F.ENG_THR_STAT_STATE 1 63 3).put F.ENG_THR_STAT_PC 100 63
    3).put H.ENG_IMEM 0xa63804 63 100).put F.ENG_GREG_VAL 0x80000001 63 3 6).put F.ENG_GREG_VAL 0x7FFFFFFF 63 3 7) 63 3) ∧
  ((fun (s : State) (n t : Nat) => turnFn s n t 0 5) (((((State.reset.put F.ENG_THR_STAT_STATE 1 63 3).put F.ENG_THR_STAT_PC 100 63
    3).put H.ENG_IMEM 0xa63805 63 100).put F.ENG_GREG_VAL 0x80000001 63 3 6).put F.ENG_GREG_VAL 0x7FFFFFFF 63 3 7) 63 3) ∧
  ((fun (s : State) (n t : Nat) => turnFn s n t 0 6) (((((State.reset.put F.ENG_THR_STAT_STATE 1 63 3).put F.ENG_THR_STAT_PC 100 63
    3).put H.ENG_IMEM 0xa63806 63 100).put F.ENG_GREG_VAL 0x80000001 63 3 6).put F.ENG_GREG_VAL 0x7FFFFFFF 63 3 7) 63 3) ∧
  ((fun (s : State) (n t : Nat) => turnFn s n t 0 7) (((((State.reset.put F.ENG_THR_STAT_STATE 1 63 3).put F.ENG_THR_STAT_PC 100 63
    3).put H.ENG_IMEM 0xa63807 63 100).put F.ENG_GREG_VAL 0x80000001 63 3 6).put F.ENG_GREG_VAL 0x7FFFFFFF 63 3 7) 63 3) ∧
  ((fun (s : State) (n t : Nat) => turnFn s n t 0 8) (((((State.reset.put F.ENG_THR_STAT_STATE 1 63 3).put F.ENG_THR_STAT_PC 100 63
    3).put H.ENG_IMEM 0xa63808 63 100).put F.ENG_GREG_VAL 0x80000001 63 3 6).put F.ENG_GREG_VAL 0x7FFFFFFF 63 3 7) 63 3) ∧
  ((fun (s : State) (n t : Nat) => turnFn s n t 0 9) (((((State.reset.put F.ENG_THR_STAT_STATE 1 63 3).put F.ENG_THR_STAT_PC 100 63
    3).put H.ENG_IMEM 0xa63809 63 100).put F.ENG_GREG_VAL 0x80000001 63 3 6).put F.ENG_GREG_VAL 0x7FFFFFFF 63 3 7) 63 3) ∧
  ((fun (s : State) (n t : Nat) => turnFn s n t 0 10) (((((State.reset.put F.ENG_THR_STAT_STATE 1 63 3).put F.ENG_THR_STAT_PC 100 63
    3).put H.ENG_IMEM 0xa6380a 63 100).put F.ENG_GREG_VAL 0x80000001 63 3 6).put F.ENG_GREG_VAL 0x7FFFFFFF 63 3 7) 63 3) ∧
  ((fun (s : State) (n t : Nat) => turnFn s n t 0 11) (((((State.reset.put F.ENG_THR_STAT_STATE 1 63 3).put F.ENG_THR_STAT_PC 100 63
    3).put H.ENG_IMEM 0xa6380b 63 100).put F.ENG_GREG_VAL 0x80000001 63 3 6).put F.ENG_GREG_VAL 0x7FFFFFFF 63 3 7) 63 3) ∧
  ((fun (s : State) (n t : Nat) => turnFn s n t 0 12) (((((State.reset.put F.ENG_THR_STAT_STATE 1 63 3).put F.ENG_THR_STAT_PC 100 63
    3).put H.ENG_IMEM 0xa6380c 63 100).put F.ENG_GREG_VAL 0x80000001 63 3 6).put F.ENG_GREG_VAL 0x7FFFFFFF 63 3 7) 63 3) ∧
  ((fun (s : State) (n t : Nat) => turnFn s n t 0 13) (((((State.reset.put F.ENG_THR_STAT_STATE 1 63 3).put F.ENG_THR_STAT_PC 100 63
    3).put H.ENG_IMEM 0xa6380d 63 100).put F.ENG_GREG_VAL 0x80000001 63 3 6).put F.ENG_GREG_VAL 0x7FFFFFFF 63 3 7) 63 3) ∧
  ((fun (s : State) (n t : Nat) => turnFn s n t 0 14) (((((State.reset.put F.ENG_THR_STAT_STATE 1 63 3).put F.ENG_THR_STAT_PC 100 63
    3).put H.ENG_IMEM 0xa6380e 63 100).put F.ENG_GREG_VAL 0x80000001 63 3 6).put F.ENG_GREG_VAL 0x7FFFFFFF 63 3 7) 63 3) ∧
  ((fun (s : State) (n t : Nat) => turnFn s n t 0 15) (((((State.reset.put F.ENG_THR_STAT_STATE 1 63 3).put F.ENG_THR_STAT_PC 100 63
    3).put H.ENG_IMEM 0xa6380f 63 100).put F.ENG_GREG_VAL 0x80000001 63 3 6).put F.ENG_GREG_VAL 0x7FFFFFFF 63 3 7) 63 3) ∧
  ((fun (s : State) (n t : Nat) => turnFn s n t 0 16) (((((State.reset.put F.ENG_THR_STAT_STATE 1 63 3).put F.ENG_THR_STAT_PC 100 63
    3).put H.ENG_IMEM 0xa63810 63 100).put F.ENG_GREG_VAL 0x80000001 63 3 6).put F.ENG_GREG_VAL 0x7FFFFFFF 63 3 7) 63 3) := by
  refine ⟨?_, ?_, ?_, ?_, ?_, ?_, ?_, ?_, ?_, ?_, ?_, ?_, ?_, ?_, ?_, ?_, ?_⟩ <;> decide

theorem test_meets_ImmediateInstructionResults :
  ((fun (s : State) (n t : Nat) => turn s n t 1) ((((State.reset.put F.ENG_THR_STAT_STATE 1 63 3).put F.ENG_THR_STAT_PC 100 63 3).put
    H.ENG_IMEM 0x4a6fff0 63 100).put F.ENG_GREG_VAL 0x80000001 63 3 6) 63 3) ∧
  ((fun (s : State) (n t : Nat) => turn s n t 2) ((((State.reset.put F.ENG_THR_STAT_STATE 1 63 3).put F.ENG_THR_STAT_PC 100 63 3).put
    H.ENG_IMEM 0x8a6fff0 63 100).put F.ENG_GREG_VAL 0x80000001 63 3 6) 63 3) ∧
  ((fun (s : State) (n t : Nat) => turn s n t 3) ((((State.reset.put F.ENG_THR_STAT_STATE 1 63 3).put F.ENG_THR_STAT_PC 100 63 3).put
    H.ENG_IMEM 0xca6fff0 63 100).put F.ENG_GREG_VAL 0x80000001 63 3 6) 63 3) ∧
  ((fun (s : State) (n t : Nat) => turn s n t 4) ((((State.reset.put F.ENG_THR_STAT_STATE 1 63 3).put F.ENG_THR_STAT_PC 100 63 3).put
    H.ENG_IMEM 0x10a6fff0 63 100).put F.ENG_GREG_VAL 0x80000001 63 3 6) 63 3) ∧
  ((fun (s : State) (n t : Nat) => turn s n t 5) ((((State.reset.put F.ENG_THR_STAT_STATE 1 63 3).put F.ENG_THR_STAT_PC 100 63 3).put
    H.ENG_IMEM 0x14a6fff0 63 100).put F.ENG_GREG_VAL 0x80000001 63 3 6) 63 3) ∧
  ((fun (s : State) (n t : Nat) => turn s n t 7) ((((State.reset.put F.ENG_THR_STAT_STATE 1 63 3).put F.ENG_THR_STAT_PC 100 63 3).put
    H.ENG_IMEM 0x1ca0fff0 63 100).put F.ENG_GREG_VAL 0x80000001 63 3 6) 63 3) ∧
  ((fun (s : State) (n t : Nat) => turn s n t 6 ∧ imm s n t / 32 = 0) ((((State.reset.put F.ENG_THR_STAT_STATE 1 63 3).put
    F.ENG_THR_STAT_PC 100 63 3).put H.ENG_IMEM 0x18a6001f 63 100).put F.ENG_GREG_VAL 0x80000001 63 3 6) 63 3) ∧
  ((fun (s : State) (n t : Nat) => turn s n t 6 ∧ imm s n t / 32 = 1) ((((State.reset.put F.ENG_THR_STAT_STATE 1 63 3).put
    F.ENG_THR_STAT_PC 100 63 3).put H.ENG_IMEM 0x18a6003f 63 100).put F.ENG_GREG_VAL 0x80000001 63 3 6) 63 3) ∧
  ((fun (s : State) (n t : Nat) => turn s n t 6 ∧ imm s n t / 32 = 2) ((((State.reset.put F.ENG_THR_STAT_STATE 1 63 3).put
    F.ENG_THR_STAT_PC 100 63 3).put H.ENG_IMEM 0x18a6005f 63 100).put F.ENG_GREG_VAL 0x80000001 63 3 6) 63 3) := by
  refine ⟨?_, ?_, ?_, ?_, ?_, ?_, ?_, ?_, ?_⟩ <;> decide

theorem test_meets_BranchAndMemoryInstructionResults :
  ((fun (s : State) (n t : Nat) => turn s n t 8 ∧ (Eng.reg s n t (Eng.fa (Eng.word s n t)) = Eng.reg s n t (Eng.fb (Eng.word s n t)) →
    0 ≤ (Eng.pc s n t : Int) + simm s n t ∧ (Eng.pc s n t : Int) + simm s n t ≤ 4095)) (((((State.reset.put F.ENG_THR_STAT_STATE 1 63
    3).put F.ENG_THR_STAT_PC 100 63 3).put H.ENG_IMEM 0x20a6fff0 63 100).put F.ENG_GREG_VAL 0x80000001 63 3 5).put F.ENG_GREG_VAL 1 63 3
    6) 63 3) ∧
  ((fun (s : State) (n t : Nat) => turn s n t 9 ∧ (Eng.reg s n t (Eng.fa (Eng.word s n t)) ≠ Eng.reg s n t (Eng.fb (Eng.word s n t)) →
    0 ≤ (Eng.pc s n t : Int) + simm s n t ∧ (Eng.pc s n t : Int) + simm s n t ≤ 4095)) (((((State.reset.put F.ENG_THR_STAT_STATE 1 63
    3).put F.ENG_THR_STAT_PC 100 63 3).put H.ENG_IMEM 0x24a6fff0 63 100).put F.ENG_GREG_VAL 0x80000001 63 3 5).put F.ENG_GREG_VAL 1 63 3
    6) 63 3) ∧
  ((fun (s : State) (n t : Nat) => turn s n t 10 ∧ (signed 32 (Eng.reg s n t (Eng.fa (Eng.word s n t))) < signed 32 (Eng.reg s n t
    (Eng.fb (Eng.word s n t))) → 0 ≤ (Eng.pc s n t : Int) + simm s n t ∧
    (Eng.pc s n t : Int) + simm s n t ≤ 4095)) (((((State.reset.put F.ENG_THR_STAT_STATE 1 63 3).put F.ENG_THR_STAT_PC 100 63 3).put
    H.ENG_IMEM 0x28a6fff0 63 100).put F.ENG_GREG_VAL 0x80000001 63 3 5).put F.ENG_GREG_VAL 1 63 3 6) 63 3) ∧
  ((fun (s : State) (n t : Nat) => turn s n t 11 ∧ (signed 32 (Eng.reg s n t (Eng.fb (Eng.word s n t))) ≤ signed 32 (Eng.reg s n t
    (Eng.fa (Eng.word s n t))) → 0 ≤ (Eng.pc s n t : Int) + simm s n t ∧
    (Eng.pc s n t : Int) + simm s n t ≤ 4095)) (((((State.reset.put F.ENG_THR_STAT_STATE 1 63 3).put F.ENG_THR_STAT_PC 100 63 3).put
    H.ENG_IMEM 0x2ca6fff0 63 100).put F.ENG_GREG_VAL 0x80000001 63 3 5).put F.ENG_GREG_VAL 1 63 3 6) 63 3) ∧
  ((fun (s : State) (n t : Nat) => turn s n t 12 ∧ (Eng.reg s n t (Eng.fa (Eng.word s n t)) < Eng.reg s n t (Eng.fb (Eng.word s n t)) →
    0 ≤ (Eng.pc s n t : Int) + simm s n t ∧ (Eng.pc s n t : Int) + simm s n t ≤ 4095)) (((((State.reset.put F.ENG_THR_STAT_STATE 1 63
    3).put F.ENG_THR_STAT_PC 100 63 3).put H.ENG_IMEM 0x30a6fff0 63 100).put F.ENG_GREG_VAL 0x80000001 63 3 5).put F.ENG_GREG_VAL 1 63 3
    6) 63 3) ∧
  ((fun (s : State) (n t : Nat) => turn s n t 13 ∧ (Eng.reg s n t (Eng.fb (Eng.word s n t)) ≤ Eng.reg s n t (Eng.fa (Eng.word s n t)) →
    0 ≤ (Eng.pc s n t : Int) + simm s n t ∧ (Eng.pc s n t : Int) + simm s n t ≤ 4095)) (((((State.reset.put F.ENG_THR_STAT_STATE 1 63
    3).put F.ENG_THR_STAT_PC 100 63 3).put H.ENG_IMEM 0x34a6fff0 63 100).put F.ENG_GREG_VAL 0x80000001 63 3 5).put F.ENG_GREG_VAL 1 63 3
    6) 63 3) ∧
  ((fun (s : State) (n t : Nat) => turn s n t 14 ∧ 0 ≤ (Eng.pc s n t : Int) + signed 21 (Eng.word s n t) ∧
    (Eng.pc s n t : Int) + signed 21 (Eng.word s n t) ≤ 4095) (((State.reset.put F.ENG_THR_STAT_STATE 1 63 3).put F.ENG_THR_STAT_PC 100
    63 3).put H.ENG_IMEM 0x38bffff0 63 100) 63 3) ∧
  ((fun (s : State) (n t : Nat) => turn s n t 15 ∧ unsigned 32 (source1 s n t + simm s n t) ≤ 4095) ((((State.reset.put
    F.ENG_THR_STAT_STATE 1 63 3).put F.ENG_THR_STAT_PC 100 63 3).put H.ENG_IMEM 0x3ca6ffff 63 100).put F.ENG_GREG_VAL 4096 63 3 6) 63 3) ∧
  ((fun (s : State) (n t : Nat) => turn s n t 16 ∧ unsigned 32 (source1 s n t + simm s n t) % 4 = 0 ∧
    unsigned 32 (source1 s n t + simm s n t) ≤ 8188) (((((State.reset.put F.ENG_THR_STAT_STATE 1 63 3).put F.ENG_THR_STAT_PC 100 63
    3).put H.ENG_IMEM 0x40a6fffc 63 100).put F.ENG_GREG_VAL 8192 63 3 6).put H.ENG_DMEM 77 63 2047) 63 3) ∧
  ((fun (s : State) (n t a : Nat) => turn s n t 17 ∧ unsigned 32 (source1 s n t + simm s n t) % 4 = 0 ∧
    unsigned 32 (source1 s n t + simm s n t) ≤ 8188 ∧ a < 2048) (((((State.reset.put F.ENG_THR_STAT_STATE 1 63 3).put F.ENG_THR_STAT_PC
    100 63 3).put H.ENG_IMEM 0x44a6fffc 63 100).put F.ENG_GREG_VAL 8192 63 3 6).put F.ENG_GREG_VAL 9 63 3 5) 63 3 2047) ∧
  ((fun (s : State) (n t a : Nat) => turn s n t 18 ∧ source1 s n t = 4 * a ∧
    a < 2048) ((((((State.reset.put F.ENG_THR_STAT_STATE 1 63 3).put F.ENG_THR_STAT_PC 100 63 3).put H.ENG_IMEM 0x48a63800 63 100).put
    F.ENG_GREG_VAL 8188 63 3 6).put F.ENG_GREG_VAL 0xFFFFFFFF 63 3 7).put H.ENG_DMEM 5 63 2047) 63 3 2047) ∧
  ((fun (s : State) (n t a : Nat) => turn s n t 19 ∧ source1 s n t = 4 * a ∧
    a < 2048) ((((((State.reset.put F.ENG_THR_STAT_STATE 1 63 3).put F.ENG_THR_STAT_PC 100 63 3).put H.ENG_IMEM 0x4ca63800 63 100).put
    F.ENG_GREG_VAL 8188 63 3 6).put F.ENG_GREG_VAL 0xFFFFFFFF 63 3 7).put H.ENG_DMEM 5 63 2047) 63 3 2047) ∧
  ((fun (s : State) (n t : Nat) => turn s n t 8 ∧ Eng.reg s n t (Eng.fa (Eng.word s n t)) = Eng.reg s n t (Eng.fb (Eng.word s n t)) ∧
    ((Eng.pc s n t : Int) + simm s n t < 0 ∨ 4095 < (Eng.pc s n t : Int) + simm s n t)) (((((State.reset.put F.ENG_THR_STAT_STATE 1 63
    3).put F.ENG_THR_STAT_PC 4095 63 3).put H.ENG_IMEM 0x20a60001 63 4095).put F.ENG_GREG_VAL 1 63 3 5).put F.ENG_GREG_VAL 1 63 3 6) 63 3) ∧
  ((fun (s : State) (n t : Nat) => turn s n t 9 ∧ Eng.reg s n t (Eng.fa (Eng.word s n t)) ≠ Eng.reg s n t (Eng.fb (Eng.word s n t)) ∧
    ((Eng.pc s n t : Int) + simm s n t < 0 ∨ 4095 < (Eng.pc s n t : Int) + simm s n t)) (((((State.reset.put F.ENG_THR_STAT_STATE 1 63
    3).put F.ENG_THR_STAT_PC 4095 63 3).put H.ENG_IMEM 0x24a60001 63 4095).put F.ENG_GREG_VAL 1 63 3 5).put F.ENG_GREG_VAL 2 63 3 6) 63 3) ∧
  ((fun (s : State) (n t : Nat) => turn s n t 10 ∧ signed 32 (Eng.reg s n t (Eng.fa (Eng.word s n t))) < signed 32 (Eng.reg s n t (Eng.fb
    (Eng.word s n t))) ∧ ((Eng.pc s n t : Int) + simm s n t < 0 ∨ 4095 < (Eng.pc s n t : Int) + simm s n t)) (((((State.reset.put
    F.ENG_THR_STAT_STATE 1 63 3).put F.ENG_THR_STAT_PC 4095 63 3).put H.ENG_IMEM 0x28a60001 63 4095).put F.ENG_GREG_VAL 1 63 3 5).put
    F.ENG_GREG_VAL 2 63 3 6) 63 3) ∧
  ((fun (s : State) (n t : Nat) => turn s n t 11 ∧ signed 32 (Eng.reg s n t (Eng.fb (Eng.word s n t))) ≤ signed 32 (Eng.reg s n t (Eng.fa
    (Eng.word s n t))) ∧ ((Eng.pc s n t : Int) + simm s n t < 0 ∨ 4095 < (Eng.pc s n t : Int) + simm s n t)) (((((State.reset.put
    F.ENG_THR_STAT_STATE 1 63 3).put F.ENG_THR_STAT_PC 4095 63 3).put H.ENG_IMEM 0x2ca60001 63 4095).put F.ENG_GREG_VAL 2 63 3 5).put
    F.ENG_GREG_VAL 1 63 3 6) 63 3) ∧
  ((fun (s : State) (n t : Nat) => turn s n t 12 ∧ Eng.reg s n t (Eng.fa (Eng.word s n t)) < Eng.reg s n t (Eng.fb (Eng.word s n t)) ∧
    ((Eng.pc s n t : Int) + simm s n t < 0 ∨ 4095 < (Eng.pc s n t : Int) + simm s n t)) (((((State.reset.put F.ENG_THR_STAT_STATE 1 63
    3).put F.ENG_THR_STAT_PC 4095 63 3).put H.ENG_IMEM 0x30a60001 63 4095).put F.ENG_GREG_VAL 1 63 3 5).put F.ENG_GREG_VAL 2 63 3 6) 63 3) ∧
  ((fun (s : State) (n t : Nat) => turn s n t 13 ∧ Eng.reg s n t (Eng.fb (Eng.word s n t)) ≤ Eng.reg s n t (Eng.fa (Eng.word s n t)) ∧
    ((Eng.pc s n t : Int) + simm s n t < 0 ∨ 4095 < (Eng.pc s n t : Int) + simm s n t)) (((((State.reset.put F.ENG_THR_STAT_STATE 1 63
    3).put F.ENG_THR_STAT_PC 4095 63 3).put H.ENG_IMEM 0x34a60001 63 4095).put F.ENG_GREG_VAL 2 63 3 5).put F.ENG_GREG_VAL 1 63 3 6) 63 3) ∧
  ((fun (s : State) (n t : Nat) => turn s n t 14 ∧ ((Eng.pc s n t : Int) + signed 21 (Eng.word s n t) < 0 ∨
    4095 < (Eng.pc s n t : Int) + signed 21 (Eng.word s n t))) (((State.reset.put F.ENG_THR_STAT_STATE 1 63 3).put F.ENG_THR_STAT_PC 4095
    63 3).put H.ENG_IMEM 0x38a00001 63 4095) 63 3) ∧
  ((fun (s : State) (n t : Nat) => turn s n t 15 ∧ 4095 < unsigned 32 (source1 s n t + simm s n t)) ((((State.reset.put
    F.ENG_THR_STAT_STATE 1 63 3).put F.ENG_THR_STAT_PC 4095 63 3).put H.ENG_IMEM 0x3ca60000 63 4095).put F.ENG_GREG_VAL 4096 63 3 6) 63 3) ∧
  ((fun (s : State) (n t a : Nat) => turn s n t 16 ∧ unsigned 32 (source1 s n t + simm s n t) = a ∧ (a % 4 ≠ 0 ∨
    8188 < a)) ((((State.reset.put F.ENG_THR_STAT_STATE 1 63 3).put F.ENG_THR_STAT_PC 4095 63 3).put H.ENG_IMEM 0x40a60000 63 4095).put
    F.ENG_GREG_VAL 8192 63 3 6) 63 3 8192) ∧
  ((fun (s : State) (n t a : Nat) => turn s n t 17 ∧ unsigned 32 (source1 s n t + simm s n t) = a ∧ (a % 4 ≠ 0 ∨
    8188 < a)) ((((State.reset.put F.ENG_THR_STAT_STATE 1 63 3).put F.ENG_THR_STAT_PC 4095 63 3).put H.ENG_IMEM 0x44a60000 63 4095).put
    F.ENG_GREG_VAL 8192 63 3 6) 63 3 8192) ∧
  ((fun (s : State) (n t a : Nat) => turn s n t 18 ∧ source1 s n t = a ∧ (a % 4 ≠ 0 ∨
    8188 < a)) ((((State.reset.put F.ENG_THR_STAT_STATE 1 63 3).put F.ENG_THR_STAT_PC 4095 63 3).put H.ENG_IMEM 0x48a60000 63 4095).put
    F.ENG_GREG_VAL 8192 63 3 6) 63 3 8192) ∧
  ((fun (s : State) (n t a : Nat) => turn s n t 19 ∧ source1 s n t = a ∧ (a % 4 ≠ 0 ∨
    8188 < a)) ((((State.reset.put F.ENG_THR_STAT_STATE 1 63 3).put F.ENG_THR_STAT_PC 4095 63 3).put H.ENG_IMEM 0x4ca60000 63 4095).put
    F.ENG_GREG_VAL 8192 63 3 6) 63 3 8192) := by
  refine ⟨?_, ?_, ?_, ?_, ?_, ?_, ?_, ?_, ?_, ?_, ?_, ?_, ?_, ?_, ?_, ?_, ?_, ?_, ?_, ?_, ?_, ?_, ?_, ?_⟩ <;> decide

theorem test_meets_SystemInstructionResults :
  ((fun (s : State) (n t : Nat) => turnFn s n t 48 0 ∧ Eng.owned s n t (source1 s n t % 256)) (((((((State.reset.put F.ENG_THR_STAT_STATE
    1 63 3).put F.ENG_THR_STAT_PC 100 63 3).put H.ENG_IMEM 0xc0a60000 63 100).put F.ENG_GREG_VAL 255 63 3 6).set F.ENG_TAG_ALLOC 63
    255).put F.ENG_TAG_THREAD 3 63 255).put F.ENG_TAG_STATE 4 63 255) 63 3) ∧
  ((fun (s : State) (n t k : Nat) => turnFn s n t 48 1 ∧ k < 256 ∧ (Eng.owned s n t k && Eng.isFinal s n k && !s.on F.ENG_TAG_AUTO n k) =
    true ∧ (List.range k).all (fun i => !(Eng.owned s n t i && Eng.isFinal s n i && !s.on F.ENG_TAG_AUTO n i)) = true)
    ((((((State.reset.put F.ENG_THR_STAT_STATE 1 63 3).put F.ENG_THR_STAT_PC 100 63 3).put H.ENG_IMEM 0xc0a60001 63 100).set
    F.ENG_TAG_ALLOC 63 255).put F.ENG_TAG_THREAD 3 63 255).put F.ENG_TAG_STATE 4 63 255) 63 3 255) ∧
  ((fun (s : State) (n t : Nat) => turnFn s n t 48 1 ∧ (List.range 256).all (fun i => !(Eng.owned s n t i && Eng.isFinal s n i && !s.on
    F.ENG_TAG_AUTO n i)) = true) (((State.reset.put F.ENG_THR_STAT_STATE 1 63 3).put F.ENG_THR_STAT_PC 100 63 3).put H.ENG_IMEM
    0xc0a60001 63 100) 63 3) ∧
  ((fun (s : State) (n t : Nat) => turnFn s n t 48 2) ((((State.reset.put F.ENG_THR_STAT_STATE 1 63 3).put F.ENG_THR_STAT_PC 100 63
    3).put H.ENG_IMEM 0xc0a60002 63 100).put F.ENG_GREG_VAL 255 63 3 6) 63 3) ∧
  ((fun (s : State) (n t : Nat) => (turnFn s n t 48 3 ∨ turnFn s n t 48 4 ∨
    turnFn s n t 48 5)) (((State.reset.put F.ENG_THR_STAT_STATE 1 63 3).put F.ENG_THR_STAT_PC 100 63 3).put H.ENG_IMEM 0xc0a60005 63 100)
    63 3) ∧
  ((fun (s : State) (n t : Nat) => turnFn s n t 48 6) ((((State.reset.put F.ENG_THR_STAT_STATE 1 63 3).put F.ENG_THR_STAT_PC 100 63
    3).put H.ENG_IMEM 0xc0a60006 63 100).put F.ENG_GREG_VAL 31 63 3 6) 63 3) ∧
  ((fun (s : State) (n t : Nat) => turnFn s n t 48 7) (((((State.reset.put F.ENG_THR_STAT_STATE 1 63 3).put F.ENG_THR_STAT_PC 100 63
    3).put H.ENG_IMEM 0xc0a60007 63 100).put F.ENG_GREG_VAL 31 63 3 6).setBit F.ENG_FLAGS_FLAG 31 63) 63 3) ∧
  ((fun (s : State) (n t : Nat) => turnFn s n t 48 8) ((((State.reset.put F.ENG_THR_STAT_STATE 1 63 3).put F.ENG_THR_STAT_PC 100 63
    3).put H.ENG_IMEM 0xc0a60008 63 100).put F.ENG_GREG_VAL 9 63 3 6) 63 3) ∧
  ((fun (s : State) (n t : Nat) => turn s n t 49) (((State.reset.put F.ENG_THR_STAT_STATE 1 63 3).put F.ENG_THR_STAT_PC 100 63 3).put
    H.ENG_IMEM 0xc4000001 63 100) 63 3) ∧
  ((fun (s : State) (n t : Nat) => turn s n t 50) ((((((State.reset.put F.ENG_THR_STAT_STATE 1 63 3).put F.ENG_THR_STAT_PC 100 63 3).put
    H.ENG_IMEM 0xc8a63800 63 100).put F.ENG_GREG_VAL 1234 63 3 6).put F.ENG_GREG_VAL 8191 63 3 7).put F.ENG_JRNL_SEQ_VAL 9 63) 63 3) ∧
  ((fun (s : State) (n t : Nat) => turn s n t 51 ∧ Eng.owned s n t (source1 s n t % 256)) (((((((State.reset.put F.ENG_THR_STAT_STATE 1
    63 3).put F.ENG_THR_STAT_PC 100 63 3).put H.ENG_IMEM 0xcca60000 63 100).put F.ENG_GREG_VAL 255 63 3 6).set F.ENG_TAG_ALLOC 63
    255).put F.ENG_TAG_THREAD 3 63 255).put F.ENG_TAG_STATE 1 63 255) 63 3) ∧
  ((fun (s : State) (n t : Nat) => turn s n t 52 ∧ Eng.owned s n t (source1 s n t % 256)) (((((((State.reset.put F.ENG_THR_STAT_STATE 1
    63 3).put F.ENG_THR_STAT_PC 100 63 3).put H.ENG_IMEM 0xd0060000 63 100).put F.ENG_GREG_VAL 255 63 3 6).set F.ENG_TAG_ALLOC 63
    255).put F.ENG_TAG_THREAD 3 63 255).put F.ENG_TAG_STATE 1 63 255) 63 3) ∧
  ((fun (s : State) (n t : Nat) => turnFn s n t 48 0 ∧ Eng.owned s n t (source1 s n t % 256) = false) ((((State.reset.put
    F.ENG_THR_STAT_STATE 1 63 3).put F.ENG_THR_STAT_PC 100 63 3).put H.ENG_IMEM 0xc0a60000 63 100).put F.ENG_GREG_VAL 255 63 3 6) 63 3) ∧
  ((fun (s : State) (n t : Nat) => turn s n t 51 ∧ Eng.owned s n t (source1 s n t % 256) = false) ((((State.reset.put
    F.ENG_THR_STAT_STATE 1 63 3).put F.ENG_THR_STAT_PC 100 63 3).put H.ENG_IMEM 0xcca60000 63 100).put F.ENG_GREG_VAL 255 63 3 6) 63 3) ∧
  ((fun (s : State) (n t : Nat) => turn s n t 52 ∧ Eng.owned s n t (source1 s n t % 256) = false) ((((State.reset.put
    F.ENG_THR_STAT_STATE 1 63 3).put F.ENG_THR_STAT_PC 100 63 3).put H.ENG_IMEM 0xd0060000 63 100).put F.ENG_GREG_VAL 255 63 3 6) 63 3) ∧
  ((fun (s : State) (n t : Nat) => turnFn s n t 56 0) (((State.reset.put F.ENG_THR_STAT_STATE 1 63 3).put F.ENG_THR_STAT_PC 100 63 3).put
    H.ENG_IMEM 0xe0000000 63 100) 63 3) ∧
  ((fun (s : State) (n t : Nat) => turnFn s n t 56 1) (((State.reset.put F.ENG_THR_STAT_STATE 1 63 3).put F.ENG_THR_STAT_PC 100 63 3).put
    H.ENG_IMEM 0xe0000001 63 100) 63 3) ∧
  ((fun (s : State) (n t : Nat) => turnFn s n t 56 2) ((((State.reset.put F.ENG_THR_STAT_STATE 1 63 3).put F.ENG_THR_STAT_PC 100 63
    3).put H.ENG_IMEM 0xe0060002 63 100).put F.ENG_GREG_VAL 31 63 3 6) 63 3) ∧
  ((fun (s : State) (n t : Nat) => turnFn s n t 56 3) (((((State.reset.put F.ENG_THR_STAT_STATE 1 63 3).put F.ENG_THR_STAT_PC 100 63
    3).put H.ENG_IMEM 0xe0060003 63 100).put F.ENG_GREG_VAL 31 63 3 6).setBit F.ENG_FLAGS_FLAG 31 63) 63 3) ∧
  ((fun (s : State) (n t : Nat) => turnFn s n t 56 4) ((((State.reset.put F.ENG_THR_STAT_STATE 1 63 3).put F.ENG_THR_STAT_PC 100 63
    3).put H.ENG_IMEM 0xe0000004 63 100).set F.ENG_THR_SUPER 63 3) 63 3) ∧
  ((fun (s : State) (n t : Nat) => turnFn s n t 56 5) ((((State.reset.put F.ENG_THR_STAT_STATE 1 63 3).put F.ENG_THR_STAT_PC 100 63
    3).put H.ENG_IMEM 0xe0a00005 63 100).set F.ENG_THR_SUPER 63 3) 63 3) := by
  refine ⟨?_, ?_, ?_, ?_, ?_, ?_, ?_, ?_, ?_, ?_, ?_, ?_, ?_, ?_, ?_, ?_, ?_, ?_, ?_, ?_, ?_⟩ <;> decide

theorem test_meets_TaggedInstructionResults :
  ((fun (s : State) (n t k : Nat) => s.on F.ENG_TAG_ALLOC n k = false ∧ k < 256 ∧
    (List.range k).all (fun i => s.on F.ENG_TAG_ALLOC n i) = true ∧ turn s n t 24 ∧
    Eng.registerCause s n t [Eng.tagBase s n t (Eng.word s n t)] false = 0) ((((((((State.reset.put F.ENG_THR_STAT_STATE 1 63 3).put
    F.ENG_THR_STAT_PC 100 63 3).put H.ENG_IMEM 0x60a63804 63 100).set F.ENG_THR_SUPER 63 3).put F.ENG_GREG_VAL 0x200FFC 63 3 6).put
    F.ENG_GREG_VAL 55 63 3 7).put F.ENG_GREG_VAL 66 63 3 8).put F.ENG_JRNL_SEQ_VAL 9 63) 63 3 0) ∧
  ((fun (s : State) (n t k : Nat) => s.on F.ENG_TAG_ALLOC n k = false ∧ k < 256 ∧
    (List.range k).all (fun i => s.on F.ENG_TAG_ALLOC n i) = true ∧ turn s n t 25 ∧
    Eng.registerCause s n t [Eng.tagBase s n t (Eng.word s n t)] true = 0) ((((((((State.reset.put F.ENG_THR_STAT_STATE 1 63 3).put
    F.ENG_THR_STAT_PC 100 63 3).put H.ENG_IMEM 0x64a63804 63 100).set F.ENG_THR_SUPER 63 3).put F.ENG_GREG_VAL 0x200FFC 63 3 6).put
    F.ENG_GREG_VAL 55 63 3 7).put F.ENG_GREG_VAL 66 63 3 8).put F.ENG_JRNL_SEQ_VAL 9 63) 63 3 0) ∧
  ((fun (s : State) (n t k : Nat) => s.on F.ENG_TAG_ALLOC n k = false ∧ k < 256 ∧
    (List.range k).all (fun i => s.on F.ENG_TAG_ALLOC n i) = true ∧ turn s n t 32 ∧
    Eng.registerCause s n t [Eng.tagBase s n t (Eng.word s n t)] true = 0) ((((((((State.reset.put F.ENG_THR_STAT_STATE 1 63 3).put
    F.ENG_THR_STAT_PC 100 63 3).put H.ENG_IMEM 0x80a63804 63 100).set F.ENG_THR_SUPER 63 3).put F.ENG_GREG_VAL 0x200FFC 63 3 6).put
    F.ENG_GREG_VAL 55 63 3 7).put F.ENG_GREG_VAL 66 63 3 8).put F.ENG_JRNL_SEQ_VAL 9 63) 63 3 0) ∧
  ((fun (s : State) (n t k : Nat) => s.on F.ENG_TAG_ALLOC n k = false ∧ k < 256 ∧
    (List.range k).all (fun i => s.on F.ENG_TAG_ALLOC n i) = true ∧ turn s n t 33 ∧
    Eng.registerCause s n t [Eng.tagBase s n t (Eng.word s n t)] true = 0) ((((((((State.reset.put F.ENG_THR_STAT_STATE 1 63 3).put
    F.ENG_THR_STAT_PC 100 63 3).put H.ENG_IMEM 0x84a63804 63 100).set F.ENG_THR_SUPER 63 3).put F.ENG_GREG_VAL 0x200FFC 63 3 6).put
    F.ENG_GREG_VAL 55 63 3 7).put F.ENG_GREG_VAL 66 63 3 8).put F.ENG_JRNL_SEQ_VAL 9 63) 63 3 0) ∧
  ((fun (s : State) (n t k : Nat) => s.on F.ENG_TAG_ALLOC n k = false ∧ k < 256 ∧
    (List.range k).all (fun i => s.on F.ENG_TAG_ALLOC n i) = true ∧ turn s n t 34 ∧
    Eng.registerCause s n t [Eng.tagBase s n t (Eng.word s n t)] true = 0) ((((((((State.reset.put F.ENG_THR_STAT_STATE 1 63 3).put
    F.ENG_THR_STAT_PC 100 63 3).put H.ENG_IMEM 0x88a63804 63 100).set F.ENG_THR_SUPER 63 3).put F.ENG_GREG_VAL 0x200FFC 63 3 6).put
    F.ENG_GREG_VAL 55 63 3 7).put F.ENG_GREG_VAL 66 63 3 8).put F.ENG_JRNL_SEQ_VAL 9 63) 63 3 0) ∧
  ((fun (s : State) (n t k : Nat) => s.on F.ENG_TAG_ALLOC n k = false ∧ k < 256 ∧
    (List.range k).all (fun i => s.on F.ENG_TAG_ALLOC n i) = true ∧ turn s n t 35 ∧
    Eng.registerCause s n t [Eng.tagBase s n t (Eng.word s n t)] true = 0) ((((((((State.reset.put F.ENG_THR_STAT_STATE 1 63 3).put
    F.ENG_THR_STAT_PC 100 63 3).put H.ENG_IMEM 0x8ca63804 63 100).set F.ENG_THR_SUPER 63 3).put F.ENG_GREG_VAL 0x200FFC 63 3 6).put
    F.ENG_GREG_VAL 55 63 3 7).put F.ENG_GREG_VAL 66 63 3 8).put F.ENG_JRNL_SEQ_VAL 9 63) 63 3 0) ∧
  ((fun (s : State) (n t k : Nat) => s.on F.ENG_TAG_ALLOC n k = false ∧ k < 256 ∧
    (List.range k).all (fun i => s.on F.ENG_TAG_ALLOC n i) = true ∧ turn s n t 36 ∧
    Eng.registerCause s n t [Eng.tagBase s n t (Eng.word s n t)] true = 0) ((((((((State.reset.put F.ENG_THR_STAT_STATE 1 63 3).put
    F.ENG_THR_STAT_PC 100 63 3).put H.ENG_IMEM 0x90a63804 63 100).set F.ENG_THR_SUPER 63 3).put F.ENG_GREG_VAL 0x200FFC 63 3 6).put
    F.ENG_GREG_VAL 55 63 3 7).put F.ENG_GREG_VAL 66 63 3 8).put F.ENG_JRNL_SEQ_VAL 9 63) 63 3 0) ∧
  ((fun (s : State) (n t k b d0 m d2 : Nat) => s.on F.ENG_TAG_ALLOC n k = false ∧ k < 256 ∧
    (List.range k).all (fun i => s.on F.ENG_TAG_ALLOC n i) = true ∧ turn s n t 26 ∧ Eng.tagBase s n t (Eng.word s n t) = 4 * b ∧
    b ≤ 2045 ∧ s.get H.ENG_DMEM n b = d0 ∧ s.get H.ENG_DMEM n (b + 1) % 8192 = m ∧ s.get H.ENG_DMEM n (b + 2) = d2 ∧ 0 < d2 % 4096 ∧
    d2 % 4096 ≤ 2048 ∧ Eng.memRange m (d2 % 4096) ∧ Eng.registerCause s n t (Eng.targets d0 (d2 % 4096) (max 1 (slice d2 16 8))) false =
    0) ((((((((State.reset.put F.ENG_THR_STAT_STATE 1 63 3).put F.ENG_THR_STAT_PC 100 63 3).put H.ENG_IMEM 0x68a60000 63 100).set
    F.ENG_THR_SUPER 63 3).put F.ENG_GREG_VAL 8180 63 3 6).put H.ENG_DMEM 0x201000 63 2045).put H.ENG_DMEM 64 63 2046).put H.ENG_DMEM
    0x00010003 63 2047) 63 3 0 2045 0x201000 64 0x10003) ∧
  ((fun (s : State) (n t k b d0 m d2 : Nat) => s.on F.ENG_TAG_ALLOC n k = false ∧ k < 256 ∧
    (List.range k).all (fun i => s.on F.ENG_TAG_ALLOC n i) = true ∧ turn s n t 27 ∧ Eng.tagBase s n t (Eng.word s n t) = 4 * b ∧
    b ≤ 2045 ∧ s.get H.ENG_DMEM n b = d0 ∧ s.get H.ENG_DMEM n (b + 1) % 8192 = m ∧ s.get H.ENG_DMEM n (b + 2) = d2 ∧ 0 < d2 % 4096 ∧
    d2 % 4096 ≤ 2048 ∧ Eng.memRange m (d2 % 4096) ∧ Eng.registerCause s n t (Eng.targets d0 (d2 % 4096) (max 1 (slice d2 16 8))) true =
    0) ((((((((State.reset.put F.ENG_THR_STAT_STATE 1 63 3).put F.ENG_THR_STAT_PC 100 63 3).put H.ENG_IMEM 0x6ca60000 63 100).set
    F.ENG_THR_SUPER 63 3).put F.ENG_GREG_VAL 8180 63 3 6).put H.ENG_DMEM 0x201000 63 2045).put H.ENG_DMEM 64 63 2046).put H.ENG_DMEM
    0x00010003 63 2047) 63 3 0 2045 0x201000 64 0x10003) ∧
  ((fun (s : State) (n t k b d0 m c : Nat) => s.on F.ENG_TAG_ALLOC n k = false ∧ k < 256 ∧
    (List.range k).all (fun i => s.on F.ENG_TAG_ALLOC n i) = true ∧ turn s n t 28 ∧ Eng.tagBase s n t (Eng.word s n t) = 4 * b ∧
    b ≤ 2045 ∧ s.get H.ENG_DMEM n b = d0 ∧ s.get H.ENG_DMEM n (b + 1) = m ∧ s.get H.ENG_DMEM n (b + 2) = c ∧ 0 < c ∧ c ≤ 2048 ∧
    Eng.memRange m c ∧ Eng.qdrCause s n (d0 / 2 ^ 31) (d0 % 2 ^ 23) c false = 0) (((((((((State.reset.put F.ENG_THR_STAT_STATE 1 63
    3).put F.ENG_THR_STAT_PC 100 63 3).put H.ENG_IMEM 0x70a60000 63 100).set F.ENG_THR_SUPER 63 3).put F.ENG_GREG_VAL 8180 63 3 6).set
    F.ENG_QACC_FREE_R 63).put H.ENG_DMEM 0x1000 63 2045).put H.ENG_DMEM 64 63 2046).put H.ENG_DMEM 3 63 2047) 63 3 0 2045 0x1000 64 3) ∧
  ((fun (s : State) (n t k b d0 m c : Nat) => s.on F.ENG_TAG_ALLOC n k = false ∧ k < 256 ∧
    (List.range k).all (fun i => s.on F.ENG_TAG_ALLOC n i) = true ∧ turn s n t 29 ∧ Eng.tagBase s n t (Eng.word s n t) = 4 * b ∧
    b ≤ 2045 ∧ s.get H.ENG_DMEM n b = d0 ∧ s.get H.ENG_DMEM n (b + 1) = m ∧ s.get H.ENG_DMEM n (b + 2) = c ∧ 0 < c ∧ c ≤ 2048 ∧
    Eng.memRange m c ∧ Eng.qdrCause s n (d0 / 2 ^ 31) (d0 % 2 ^ 23) c true = 0) (((((((((State.reset.put F.ENG_THR_STAT_STATE 1 63 3).put
    F.ENG_THR_STAT_PC 100 63 3).put H.ENG_IMEM 0x74a60000 63 100).set F.ENG_THR_SUPER 63 3).put F.ENG_GREG_VAL 8180 63 3 6).set
    F.ENG_QACC_FREE_W 63).put H.ENG_DMEM 0x1000 63 2045).put H.ENG_DMEM 64 63 2046).put H.ENG_DMEM 3 63 2047) 63 3 0 2045 0x1000 64 3) ∧
  ((fun (s : State) (n t : Nat) => turn s n t 24 ∧ (List.range 256).all (fun i => s.on F.ENG_TAG_ALLOC n i) = true) ((noTags
    (((State.reset.put F.ENG_THR_STAT_STATE 1 63 3).put F.ENG_THR_STAT_PC 100 63 3).put H.ENG_IMEM 0x60a63804 63 100))) 63 3) ∧
  ((fun (s : State) (n t : Nat) => turn s n t 25 ∧ (List.range 256).all (fun i => s.on F.ENG_TAG_ALLOC n i) = true) ((noTags
    (((State.reset.put F.ENG_THR_STAT_STATE 1 63 3).put F.ENG_THR_STAT_PC 100 63 3).put H.ENG_IMEM 0x64a63804 63 100))) 63 3) ∧
  ((fun (s : State) (n t : Nat) => turn s n t 32 ∧ (List.range 256).all (fun i => s.on F.ENG_TAG_ALLOC n i) = true) ((noTags
    (((State.reset.put F.ENG_THR_STAT_STATE 1 63 3).put F.ENG_THR_STAT_PC 100 63 3).put H.ENG_IMEM 0x80a63804 63 100))) 63 3) ∧
  ((fun (s : State) (n t : Nat) => turn s n t 33 ∧ (List.range 256).all (fun i => s.on F.ENG_TAG_ALLOC n i) = true) ((noTags
    (((State.reset.put F.ENG_THR_STAT_STATE 1 63 3).put F.ENG_THR_STAT_PC 100 63 3).put H.ENG_IMEM 0x84a63804 63 100))) 63 3) ∧
  ((fun (s : State) (n t : Nat) => turn s n t 34 ∧ (List.range 256).all (fun i => s.on F.ENG_TAG_ALLOC n i) = true) ((noTags
    (((State.reset.put F.ENG_THR_STAT_STATE 1 63 3).put F.ENG_THR_STAT_PC 100 63 3).put H.ENG_IMEM 0x88a63804 63 100))) 63 3) ∧
  ((fun (s : State) (n t : Nat) => turn s n t 35 ∧ (List.range 256).all (fun i => s.on F.ENG_TAG_ALLOC n i) = true) ((noTags
    (((State.reset.put F.ENG_THR_STAT_STATE 1 63 3).put F.ENG_THR_STAT_PC 100 63 3).put H.ENG_IMEM 0x8ca63804 63 100))) 63 3) ∧
  ((fun (s : State) (n t : Nat) => turn s n t 36 ∧ (List.range 256).all (fun i => s.on F.ENG_TAG_ALLOC n i) = true) ((noTags
    (((State.reset.put F.ENG_THR_STAT_STATE 1 63 3).put F.ENG_THR_STAT_PC 100 63 3).put H.ENG_IMEM 0x90a63804 63 100))) 63 3) := by
  refine ⟨?_, ?_, ?_, ?_, ?_, ?_, ?_, ?_, ?_, ?_, ?_, ?_, ?_, ?_, ?_, ?_, ?_, ?_⟩ <;> decide +kernel

theorem test_meets_EngineEventResults :
  ((fun (s : State) (n t : Nat) => n < 65 ∧ t < 4 ∧ Eng.thread s n t = 3 ∧
    (List.range 256).all (fun k => s.on F.ENG_TAG_ALLOC n k) = true) (((fun s => (List.range 256).foldl (fun s k => s.set F.ENG_TAG_ALLOC
    64 k) s) (State.reset.put F.ENG_THR_STAT_STATE 3 64 3))) 64 3) ∧
  ((fun (s : State) (n j : Nat) (o : EngOp) => n < 65 ∧ j < 1024 ∧ s.eng.ops.find? (fun o => o.engine == n && o.jidx == j) = some o ∧
    o.accepted = false ∧ (if EngBus.isQdr o then s.on H.PWR_QDR_RET else Bus.inReset s o.target) = false) ((fun (s : State) =>
    { s with eng := { s.eng with ops := [(⟨64, 1023, 3, false, 24, 5, 0, 0, 0, 0x10, 1, 1, false⟩ : EngOp)] } }) State.reset) 64 1023
    (⟨64, 1023, 3, false, 24, 5, 0, 0, 0, 0x10, 1, 1, false⟩ : EngOp)) ∧
  ((fun (s : State) (n j : Nat) => n < 65 ∧ j < 1024 ∧ s.eng.ops.any (fun o => o.engine == n && o.jidx == j && !o.accepted) = true)
    (((fun s => { s with eng := { s.eng with ops := [⟨64, 1023, 3, false, 24, 5, 0, 0, 0, 0x10, 1, 1, false⟩] } }) State.reset)) 64 1023) ∧
  ((fun (s : State) (n j words : Nat) (o : EngOp) => n < 65 ∧ j < 1024 ∧
    s.eng.ops.find? (fun o => o.engine == n && o.jidx == j && o.accepted) = some o ∧ o.op = 24 ∧ o.count = 1 ∧ 0 < words ∧
    Sys.doneOf s o = 0 ∧ EngBus.waits s o = false ∧ o.thread < 4 ∧ o.dest < 32) ((fun (s : State) =>
    { s with eng := { s.eng with ops := [(⟨64, 1023, 3, false, 24, 31, 0, 0, 0, 0x10, 1, 1, true⟩ : EngOp)] } }) State.reset) 64 1023 1
    (⟨64, 1023, 3, false, 24, 31, 0, 0, 0, 0x10, 1, 1, true⟩ : EngOp)) ∧
  ((fun (s : State) (n j words m : Nat) (o : EngOp) => n < 65 ∧ j < 1024 ∧
    s.eng.ops.find? (fun o => o.engine == n && o.jidx == j && o.accepted) = some o ∧
    (o.op == 25 || (decide (32 ≤ o.op) && decide (o.op ≤ 36))) = true ∧ o.count = 1 ∧ 0 < words ∧ Sys.doneOf s o = 0 ∧
    EngBus.waits s o = false ∧ o.thread < 4 ∧ o.dest < 32 ∧ m < 65 ∧ takes .ENG_FLAGS s ∧ o.target = RegId.barAddr .ENG_FLAGS m 0 0 ∧
    o.user = false) (((fun (s : State) =>
    { s with eng := { s.eng with ops := [(⟨64, 1023, 3, false, 36, 31, 5, 6, 0, (RegId.barAddr .ENG_FLAGS 64 0 0), 1, 1, true⟩ : EngOp)] } })
    State.reset).put F.ENG_FLAGS_FLAG 5 64) 64 1023 1 64 (⟨64, 1023, 3, false, 36, 31, 5, 6, 0, (RegId.barAddr .ENG_FLAGS 64 0 0), 1, 1,
    true⟩ : EngOp)) ∧
  ((fun (s : State) (n j d : Nat) (o : EngOp) => n < 65 ∧ j < 1024 ∧ s.eng.ops.find? (fun o => o.engine == n && o.jidx == j &&
    o.accepted) = some o ∧ o.op = 26 ∧ Sys.doneOf s o = d ∧ d < o.count ∧ o.count ≤ 2048 ∧ EngBus.waits s o = false ∧ o.mem % 4 = 0 ∧
    o.mem + 4 * o.count ≤ 8192) ((fun (s : State) =>
    { s with eng := { s.eng with ops := [(⟨64, 1023, 3, false, 26, 0, 0, 0, 8184, 0x10, 2, 1, true⟩ : EngOp)] } }) State.reset) 64 1023 0
    (⟨64, 1023, 3, false, 26, 0, 0, 0, 8184, 0x10, 2, 1, true⟩ : EngOp)) ∧
  ((fun (s : State) (n j d : Nat) (o : EngOp) => n < 65 ∧ j < 1024 ∧ s.eng.ops.find? (fun o => o.engine == n && o.jidx == j &&
    o.accepted) = some o ∧ o.op = 28 ∧ Sys.doneOf s o = d ∧ d < o.count ∧ o.count ≤ 2048 ∧ EngBus.waits s o = false ∧ o.mem % 4 = 0 ∧
    o.mem + 4 * o.count ≤ 8192 ∧ EngBus.port o < 2 ∧ Qdm.inUse s (EngBus.port o)) (((fun (s : State) =>
    { s with eng := { s.eng with ops := [(⟨64, 1023, 3, false, 28, 0, 0, 0, 8184, 0x1000, 2, 1, true⟩ : EngOp)] } }) State.reset).setBit
    F.QDM_STAT_IN_USE 0) 64 1023 0 (⟨64, 1023, 3, false, 28, 0, 0, 0, 8184, 0x1000, 2, 1, true⟩ : EngOp)) ∧
  ((fun (s : State) (n j d : Nat) (o : EngOp) => n < 65 ∧ j < 1024 ∧ s.eng.ops.find? (fun o => o.engine == n && o.jidx == j &&
    o.accepted) = some o ∧ o.op = 28 ∧ Sys.doneOf s o = d ∧ d < o.count ∧ o.count ≤ 2048 ∧ EngBus.waits s o = false ∧ o.mem % 4 = 0 ∧
    o.mem + 4 * o.count ≤ 8192 ∧ EngBus.port o < 2 ∧ Qdm.inUse s (EngBus.port o) ∧ d + 1 < o.count ∧
    s.get H.ENG_JRNL n j 0 < 2 ^ 22) (((fun (s : State) =>
    { s with eng := { s.eng with ops := [(⟨64, 1023, 3, false, 28, 0, 0, 0, 8184, 0x1000, 2, 1, true⟩ : EngOp)] } }) State.reset).setBit
    F.QDM_STAT_IN_USE 0) 64 1023 0 (⟨64, 1023, 3, false, 28, 0, 0, 0, 8184, 0x1000, 2, 1, true⟩ : EngOp)) ∧
  ((fun (s : State) (n j d : Nat) (o : EngOp) => n < 65 ∧ j < 1024 ∧ s.eng.ops.find? (fun o => o.engine == n && o.jidx == j &&
    o.accepted) = some o ∧ o.op = 29 ∧ Sys.doneOf s o = d ∧ d < o.count ∧ o.count ≤ 2048 ∧ EngBus.waits s o = false ∧ o.mem % 4 = 0 ∧
    o.mem + 4 * o.count ≤ 8192 ∧ EngBus.port o < 2 ∧ Qdm.inUse s (EngBus.port o)) (((fun (s : State) =>
    { s with eng := { s.eng with ops := [(⟨64, 1023, 3, false, 29, 0, 0, 0, 8184, 0x1000, 2, 1, true⟩ : EngOp)] } }) State.reset).setBit
    F.QDM_STAT_IN_USE 0) 64 1023 0 (⟨64, 1023, 3, false, 29, 0, 0, 0, 8184, 0x1000, 2, 1, true⟩ : EngOp)) ∧
  ((fun (s : State) (n j : Nat) (o : EngOp) => n < 65 ∧ j < 1024 ∧ s.eng.ops.find? (fun o => o.engine == n && o.jidx == j && o.accepted)
    = some o ∧ EngBus.waits s o = false ∧ EngBus.isQdr o ∧ Qdm.inUse s (EngBus.port o) = false ∧
    s.get H.ENG_JRNL n j 0 < 2 ^ 22) ((fun (s : State) =>
    { s with eng := { s.eng with ops := [(⟨64, 1023, 3, false, 29, 0, 0, 0, 8184, 0x1000, 2, 1, true⟩ : EngOp)] } }) State.reset) 64 1023
    (⟨64, 1023, 3, false, 29, 0, 0, 0, 8184, 0x1000, 2, 1, true⟩ : EngOp)) ∧
  ((fun (s : State) (n t v : Nat) (k : Option Nat) => n < 65 ∧ t < 4 ∧ Eng.thread s n t = 2 ∧ v < 2 ^ 32 ∧
    Eng.waitResult s n t (Eng.word s n t) true = some (v, k)) (((State.reset.put F.ENG_THR_STAT_STATE 2 64 3).put H.ENG_IMEM 0xC0A60007
    64 0).setBit F.ENG_FLAGS_FLAG 0 64) 64 3 0 none) ∧
  ((fun (s : State) (n t : Nat) => n < 65 ∧ t < 4 ∧ Eng.thread s n t = 2 ∧
    Eng.fc (Eng.word s n t) ≠ 0) ((State.reset.put F.ENG_THR_STAT_STATE 2 64 3).put H.ENG_IMEM 0xC0A63807 64 0) 64 3) ∧
  ((fun (s : State) (n t : Nat) => takes .ENG_CTRL s ∧ s.get F.LCM_STATE_STATE ≠ 5 ∧ n < 65 ∧ t < 4 ∧ (s.leaf = false ∨ n < 16 ∨
    n = 64) ∧ (Eng.thread s n t = 0 ∨ Eng.thread s n t = 4 ∨ Eng.thread s n t = 5)) ((State.reset.put F.ENG_THR_STAT_STATE 5 64 3).put
    F.ENG_THR_ENTRY 4095 64 3) 64 3) ∧
  ((fun (s : State) (n t : Nat) => takes .ENG_CTRL s ∧ n < 65 ∧ t < 4 ∧ 1 ≤ Eng.thread s n t ∧
    Eng.thread s n t ≤ 3) (State.reset.put F.ENG_THR_STAT_STATE 3 64 3) 64 3) ∧
  ((fun (s : State) (n q k : Nat) => takes .ENG_CTRL s ∧ n < 65 ∧ q < 4 ∧
    k < 256) (((State.reset.put F.ENG_THR_STAT_STATE 3 64 3).put F.ENG_GREG_VAL 9 64 3 31).set F.ENG_TAG_ALLOC 64 255) 64 3 255) ∧
  ((fun (s : State) (n : Nat) => takes .ENG_MEM_DATA s ∧ n < 65 ∧ s.get F.ENG_MEM_ADDR_ADDR n < (if s.on F.ENG_MEM_ADDR_SPACE n then 8192
    else 16384)) (State.reset.put F.ENG_MEM_ADDR_ADDR 0x3FFC 64) 64) ∧
  ((fun (s : State) (n : Nat) => takes .ENG_MEM_DATA s ∧ n < 65) ((State.reset.put F.ENG_MEM_ADDR_ADDR 0x3FFC 64).put H.ENG_IMEM 77 64
    4095) 64) ∧
  ((fun (s : State) => takes .SE_SPILL_POP s) ((((fun (s : State) => s.put H.ENG_SPILL_MAP (Eng.spillMap s)) (((State.reset.setBit
    F.QDM_STAT_IN_USE 0).put F.QDM_REGION_BASE 1 0 3).put F.QDM_REGION_SIZE 2 0 3))).put H.ENG_SPILL_CNT 5)) ∧
  ((fun (s : State) (slot : Nat) => takes .SE_IMG_CTRL s ∧ slot < 2) State.reset 1) ∧
  ((fun (s : State) => takes .SE_IMG_CTRL s) (((State.reset.set F.SE_IMG_STAT_TRIAL).put F.SYS_STAT_PHASE 5).put F.SE_IMG_STAT_TRIAL_LEFT
    9)) ∧
  ((fun (s : State) => s.on F.SE_IMG_STAT_TRIAL ∧ s.get F.SYS_STAT_PHASE = 5) ((State.reset.set F.SE_IMG_STAT_TRIAL).put F.SYS_STAT_PHASE
    5)) ∧
  ((fun (s : State) => takes .SYS_ROLLBACK s) State.reset) := by
  refine ⟨?_, ?_, ?_, ?_, ?_, ?_, ?_, ?_, ?_, ?_, ?_, ?_, ?_, ?_, ?_, ?_, ?_, ?_, ?_, ?_, ?_, ?_⟩ <;> decide

theorem test_meets_MailboxCommandResults :
  ((fun (s : State) (master n i : Nat) => takes .MBX_DATA s ∧ n < 64 ∧ i < 16 ∧ Mbx.isSender s n master ∧
    s.on F.MBX_STAT_FULL n = false) ((State.reset.put F.MBX_BIND_SENDER 16 63).set F.MBX_BIND_EN 63) 16 63 15) ∧
  ((fun (s : State) (master n : Nat) => takes .MBX_DOORBELL s ∧ n < 64 ∧ Mbx.isSender s n master ∧
    s.on F.MBX_STAT_FULL n = false) (((State.reset.put F.MBX_BIND_SENDER 16 63).put F.MBX_BIND_RECEIVER 8 63).set F.MBX_BIND_EN 63) 16 63) ∧
  ((fun (s : State) (master n : Nat) => takes .MBX_DATA s ∧ n < 64 ∧ Mbx.isReceiver s n master ∧ s.on F.MBX_STAT_FULL n ∧
    1 ≤ s.get F.MBX_STAT_LEN n ∧ s.get F.MBX_STAT_LEN n ≤ 16) ((((((State.reset.put F.MBX_BIND_SENDER 16 63).put F.MBX_BIND_RECEIVER 8
    63).set F.MBX_BIND_EN 63).set F.MBX_STAT_FULL 63).put F.MBX_STAT_LEN 16 63).put F.MBX_DATA_DATA 5 63 15) 8 63) ∧
  ((fun (s : State) (master n value : Nat) => takes .MBX_BIND s ∧ n < 64 ∧ (Mbx.isHost master ∨ master = 9) ∧
    s.on F.MBX_STAT_FULL n = false ∧ s.on F.SYS_LOCK_LOCK = false ∧ Mbx.isMaster (slice value 0 8) ∧ Mbx.isMaster (slice value 8 8) ∧
    slice value 0 8 ≠ slice value 8 8) State.reset 9 63 0x10109) ∧
  ((fun (s : State) (master n : Nat) => Bus.inReset s (RegId.barAddr .MBX_LOCK n 0 0) = false ∧ n < 64 ∧ 0 < master ∧ master < 256 ∧
    s.get F.MBX_LOCK_STAT_OWNER n = 0) State.reset 79 63) ∧
  ((fun (s : State) (master n : Nat) => takes .MBX_LOCK s ∧ n < 64 ∧ s.get F.MBX_LOCK_STAT_OWNER n = master) (State.reset.put
    F.MBX_LOCK_STAT_OWNER 79 63) 79 63) ∧
  ((fun (f n : Nat) => f < 8 ∧ n < 64) 7 63) ∧
  ((fun (s : State) (n : Nat) (words : List Nat) (i : Nat) => n < 64 ∧ Mbx.isSender s n 96 ∧ s.on F.MBX_STAT_FULL n = false ∧
    i < min 16 words.length) (((State.reset.put F.MBX_BIND_SENDER 96 63).put F.MBX_BIND_RECEIVER 8 63).set F.MBX_BIND_EN 63) 63 ([1, 2,
    3]) 2) := by
  refine ⟨?_, ?_, ?_, ?_, ?_, ?_, ?_, ?_⟩ <;> decide

theorem test_meets_CounterCommandResults :
  ((fun (s : State) (i : Nat) => takes .PMC_CNT_LO s ∧ i < 1252 ∧ i ≠ 533) (State.reset.put H.PMC_STAGE 5 9 1251) 1251) ∧
  ((fun (s : State) (master i : Nat) => takes .PMC_CNT_HI s ∧ i < 1536 ∧ master < 128) State.reset 9 1535) ∧
  ((fun (s : State) (i src : Nat) => i < 1536 ∧ s.get H.PMC_CNT i = 2 ^ 48 - 1 ∧
    src < 4) ((((State.reset.put H.PMC_CNT 0xFFFFFFFFFFFF 1535).put F.PMC_SMP_STAT_METHOD 2).set F.PMC_OVF_SEL_EN 3).put
    F.PMC_OVF_SEL_CNT 1535 3) 1535 3) ∧
  ((fun (s : State) (engine : Nat) => s.get F.PMC_SMP_STAT_METHOD = 1 ∧ Pmc.sampled s engine ∧
    s.on H.PMC_FOLLOW = false) ((State.reset.put F.PMC_SMP_STAT_METHOD 1).set F.PMC_SMP_CFG_SE) 64) ∧
  ((fun (s : State) (engine : Nat) => s.get F.PMC_SMP_STAT_METHOD = 1 ∧ Pmc.sampled s engine ∧
    s.on H.PMC_FOLLOW) (((State.reset.put F.PMC_SMP_STAT_METHOD 1).set F.PMC_SMP_CFG_SE).set H.PMC_FOLLOW) 64) ∧
  ((fun (s : State) => s.on H.PMC_FOLLOW ∧ s.get F.PMC_SMP_STAT_COUNT < 64) (((State.reset.set H.PMC_FOLLOW).put H.PMC_FOLLOW_PC 77).put
    F.PMC_SMP_STAT_COUNT 63)) ∧
  ((fun (s : State) => s.on H.PMC_FOLLOW ∧ 64 ≤ s.get F.PMC_SMP_STAT_COUNT) (((State.reset.set H.PMC_FOLLOW).put H.PMC_FOLLOW_PC 77).put
    F.PMC_SMP_STAT_COUNT 64)) ∧
  ((fun (s : State) (k : Nat) => k < 4 ∧ s.on H.PMC_OVF_DUE k ∧ s.get F.PMC_SMP_STAT_COUNT < 64) (((State.reset.set H.PMC_OVF_DUE 3).put
    F.PMC_SMP_STAT_COUNT 63).put H.PMC_OVF_T 99 3) 3) ∧
  ((fun (s : State) => takes .PMC_SMP_POP s ∧ 0 < s.get F.PMC_SMP_STAT_COUNT) ((State.reset.put F.PMC_SMP_STAT_COUNT 64).put
    H.PMC_RING_HEAD 63)) ∧
  ((fun (s : State) => s.on H.PMC_FOLLOW = false ∧ Pmc.method s ≠ s.get F.PMC_SMP_STAT_METHOD) (State.reset.put F.PMC_SMP_CFG_MODE 2)) ∧
  ((fun (s : State) => s.on F.PMC_SMP_CFG_TRACE) (State.reset.set F.PMC_SMP_CFG_TRACE)) := by
  refine ⟨?_, ?_, ?_, ?_, ?_, ?_, ?_, ?_, ?_, ?_, ?_⟩ <;> decide

theorem test_meets_HousekeepingCommandResults :
  ((fun (s : State) => s.get F.HKA_TIMER_PERIOD ≠ 0 ∧ s.on F.HKA_CTRL_EN ∧ s.get F.HKA_TRIG_SRC = 1 ∧
    s.get F.HKA_STAT_STATE = 0) (((State.reset.put F.HKA_TIMER_PERIOD 9).set F.HKA_CTRL_EN).put F.HKA_TRIG_SRC 1)) ∧
  ((fun (s : State) => takes .HKA_SEQ_GO s ∧ s.on F.HKA_CTRL_EN ∧ (s.get F.HKA_TRIG_SRC = 0 ∨ 18 ≤ s.get F.HKA_TRIG_SRC) ∧
    s.get F.HKA_STAT_STATE = 0) ((State.reset.set F.HKA_CTRL_EN).put F.HKA_TRIG_SRC 18)) ∧
  ((fun (s : State) => takes .HKA_SEQ_GO s ∧ s.on F.HKA_CTRL_EN ∧ (s.get F.HKA_TRIG_SRC = 0 ∨ 18 ≤ s.get F.HKA_TRIG_SRC) ∧
    s.get F.HKA_STAT_STATE ≠ 0) ((State.reset.set F.HKA_CTRL_EN).put F.HKA_STAT_STATE 2)) ∧
  ((fun (s : State) => s.get F.HKA_STAT_STATE = 1 ∧ s.on H.HKA_CAL_WAIT = false) ((State.reset.put F.HKA_STAT_STATE 1).set F.HKA_CTRL_EN)) ∧
  ((fun (s : State) (e : Nat) => s.get H.HKA_RUN = 1 ∧ s.get F.HKA_STAT_NEXT = e) (((((State.reset.put H.HKA_RUN 1).put F.HKA_STAT_NEXT
    31).put H.HKA_CUR 0x77).put F.HKA_STAT_STATE 2).put F.HKA_CTRL_LEN_M1 31) 31) ∧
  ((fun (s : State) => s.get H.HKA_RUN = 2) ((State.reset.put H.HKA_RUN 2).put H.HKA_CUR 0x05)) ∧
  ((fun (s : State) => takes .HKA_INJ s ∧ s.on F.HKA_STAT_INJ_PEND = false ∧
    s.get H.HKA_RUN ≠ 2) (((State.reset.set F.HKA_CTRL_EN).put F.HKA_INJ_CH 23).put F.HKA_INJ_ALIGN 1)) ∧
  ((fun (s : State) => s.on F.HKA_CTRL_EN ∧ s.on H.HKA_SCAN_DUE = false) ((State.reset.set F.HKA_CTRL_EN).put H.HKA_SCAN_S 3)) ∧
  ((fun (s : State) (sum : Int) => s.on F.HKA_STAT_CAL_HOLD ∧ s.on H.HKA_CAL_WAIT = false ∧ s.get F.CAL_STAT_STATE = 1 ∧
    (sum - 4096 * 512).natAbs ≤ 8 * 512) ((((State.reset.set F.HKA_STAT_CAL_HOLD).put F.CAL_STAT_STATE 1).put F.HKA_STAT_STATE 3).put
    H.HKA_RUN 4) 2093056) ∧
  ((fun (p : Nat) => p < 8) 7) ∧
  ((fun (s : State) (p : Nat) => p < 8 ∧ s.on H.HKA_PWM_OUT p ∧ Hka.highTicks s p < s.get H.HKA_PWM_P p) (((State.reset.put H.HKA_PWM_P
    100 7).put H.HKA_PWM_C 40 7).set H.HKA_PWM_OUT 7) 7) ∧
  ((fun (s : State) => s.get F.HKA_TIMER_PERIOD ≠ 0 ∧ s.on F.HKA_CTRL_EN ∧ s.get F.HKA_TRIG_SRC = 1 ∧
    s.get F.HKA_STAT_STATE ≠ 0) ((((State.reset.put F.HKA_TIMER_PERIOD 9).set F.HKA_CTRL_EN).put F.HKA_TRIG_SRC 1).put F.HKA_STAT_STATE
    3)) ∧
  ((fun (s : State) (i : Nat) => s.get H.HKA_RUN = 3 ∧ s.get H.HKA_SCAN_S = i ∧ i < 5 ∧ 16 ≤ s.get H.HKA_CUR % 32 ∧
    s.get H.HKA_CUR % 32 < 23) (((State.reset.put H.HKA_RUN 3).put H.HKA_SCAN_S 4).put H.HKA_CUR 20) 4) ∧
  ((fun (s : State) => takes .HKA_INJ s ∧ (s.on F.HKA_STAT_INJ_PEND ∨ s.get H.HKA_RUN = 2)) (State.reset.put H.HKA_RUN 2)) ∧
  ((fun (s : State) (sum : Int) => s.on F.HKA_STAT_CAL_HOLD ∧ s.on H.HKA_CAL_WAIT = false ∧ s.get F.CAL_STAT_STATE = 1 ∧
    8 * 512 < (sum - 4096 * 512).natAbs) ((((State.reset.set F.HKA_STAT_CAL_HOLD).put F.CAL_STAT_STATE 1).put F.HKA_STAT_STATE 3).put
    H.HKA_RUN 4) 2093055) := by
  refine ⟨?_, ?_, ?_, ?_, ?_, ?_, ?_, ?_, ?_, ?_, ?_, ?_, ?_, ?_, ?_⟩ <;> decide

theorem test_meets_FilterCommandResults :
  ((fun (s : State) (f : Nat) => f < 8 ∧ s.bit F.FLT_CTRL_EN f ∧ s.on H.FLT_IN_NEW f = (s.get F.FLT_CH_CFG_SRC f < 32 || 40 ≤ s.get
    F.FLT_CH_CFG_SRC f)) ((State.reset.setBit F.FLT_CTRL_EN 7).put F.FLT_CH_CFG_SRC 39 7) 7) ∧
  ((fun (s : State) (f : Nat) (x : List Int) => f < 8 ∧ s.on H.FLT_DUE f ∧ s.on F.FLT_CH_STAT_FADING f = false ∧
    s.on H.FLT_SWAP_DUE f = false ∧ x = (s.sget H.FLT_DUE_VAL f :: (Flt.chan s f).fir).take 32) (((State.reset.set H.FLT_DUE 7).put
    H.FLT_DUE_VAL 5 7).put H.FLT_TAP 0xFFFF 7 0) 7 ([5])) ∧
  ((fun (s : State) (f : Nat) (x : List Int) (l i : Nat) => f < 8 ∧ s.on H.FLT_DUE f ∧ s.on F.FLT_CH_STAT_FADING f ∧
    s.on H.FLT_SWAP_DUE f = false ∧ s.get H.FLT_FADE_L f = l ∧ s.get H.FLT_FADE_I f = i ∧ i < l ∧ l ≤ 1024 ∧
    x = (s.sget H.FLT_DUE_VAL f :: (Flt.chan s f).fir).take 32) ((((State.reset.set H.FLT_DUE 7).set F.FLT_CH_STAT_FADING 7).put
    H.FLT_FADE_L 1024 7).put H.FLT_FADE_I 1023 7) 7 [0] 1024 1023) ∧
  ((fun (s : State) (f : Nat) => f < 8 ∧ s.bit F.FLT_CTRL_EN f ∧ Flt.settling s f ≤ s.get H.FLT_SAMPLES f) (((State.reset.setBit
    F.FLT_CTRL_EN 7).put F.FLT_CH_CFG_DEC_M1 4095 7).put H.FLT_SAMPLES 200000 7) 7) ∧
  ((fun (s : State) (f : Nat) => takes .FLT_CH_CTRL s ∧ f < 8 ∧ s.on F.FLT_CH_STAT_FADING f = false) (State.reset.put F.FLT_CH_CTRL_XFADE
    7 7) 7) ∧
  ((fun (s : State) (f : Nat) => takes .FLT_CH_CTRL s ∧ f < 8 ∧ s.on F.FLT_CH_STAT_FADING f) (State.reset.set F.FLT_CH_STAT_FADING 7) 7) ∧
  ((fun (s : State) (f k : Nat) => f < 8 ∧ k < 32 ∧ s.on F.FLT_CH_STAT_FADING f ∧
    s.get H.FLT_FADE_L f ≤ s.get H.FLT_FADE_I f) ((State.reset.set F.FLT_CH_STAT_FADING 7).put F.FLT_FIR_C 9 7 31) 7 31) ∧
  ((fun (s : State) (f : Nat) => takes .FLT_CH_CFG s ∧ f < 8) (State.reset.set F.FLT_CH_STAT_VALID 7) 7) ∧
  ((fun (s : State) (f preset : Nat) => takes .FLT_CH_CTRL s ∧ f < 8 ∧ 1 ≤ preset ∧
    preset ≤ 4) (State.reset.set F.FLT_CH_STAT_VALID 7) 7 4) := by
  refine ⟨?_, ?_, ?_, ?_, ?_, ?_, ?_, ?_, ?_⟩ <;> decide

theorem test_meets_OpticsCommandResults :
  ((fun (s : State) (b value : Nat) => takes .LSR_LOOP_CFG s ∧ b < 8 ∧ value % 2 = 1 ∧ slice value 6 4 ≤ 8 ∧
    Flt.limitOf (slice value 6 4) (s.get F.LSR_LOOP_LIM_MIN b) ≤ Flt.limitOf (slice value 6 4) (s.get F.LSR_LOOP_LIM_MAX b))
    (State.reset.put F.HKA_PWM_DUTY_VAL 77 7) 7 0x1C1) ∧
  ((fun (s : State) (b value : Nat) => takes .LSR_LOOP_CFG s ∧ b < 8 ∧ value % 2 = 1 ∧ slice value 6 4 ≤ 8 ∧
    Flt.limitOf (slice value 6 4) (s.get F.LSR_LOOP_LIM_MAX b) < Flt.limitOf (slice value 6 4) (s.get F.LSR_LOOP_LIM_MIN b))
    ((State.reset.put F.LSR_LOOP_LIM_MIN 2 7).put F.LSR_LOOP_LIM_MAX 1 7) 7 1) ∧
  ((fun (s : State) (l : Nat) => takes .LSR_SER_CMD s ∧ l < 2 ∧ s.on H.LSR_HOST_PEND l = false ∧ s.on H.LSR_HOST_RUN l = false ∧
    s.on H.LSR_OWN_PEND l = false ∧ s.on H.LSR_OWN_RUN l = false ∧ s.bit F.LSR_CTRL_SER_EN l ∧
    s.on H.LSR_TUNE_PEND l = false) (State.reset.setBit F.LSR_CTRL_SER_EN 1) 1) ∧
  ((fun (s : State) (l : Nat) => takes .LSR_SER_CMD s ∧ l < 2 ∧ s.on H.LSR_HOST_PEND l = false ∧ s.on H.LSR_HOST_RUN l = false ∧
    (s.on H.LSR_OWN_RUN l ∨ s.bit F.LSR_CTRL_SER_EN l = false)) State.reset 1) ∧
  ((fun (s : State) (l : Nat) => takes .LSR_SER_CMD s ∧ l < 2 ∧ (s.on H.LSR_HOST_PEND l ∨
    s.on H.LSR_HOST_RUN l)) (State.reset.set H.LSR_HOST_RUN 1) 1) ∧
  ((fun (s : State) (l frame : Nat) => l < 2 ∧ frame < 2 ^ 32 ∧ s.on H.LSR_HOST_RUN l ∧ s.on H.LSR_OWN_RUN l = false ∧
    slice frame 28 4 = Lsr.checksum frame ∧ (Lsr.status frame = 0 ∨ Lsr.status frame = 3)) (State.reset.set H.LSR_HOST_RUN 1) 1
    0x30000012) ∧
  ((fun (s : State) (l frame : Nat) => l < 2 ∧ s.on H.LSR_HOST_RUN l ∧ (slice frame 28 4 ≠ Lsr.checksum frame ∨ Lsr.status frame = 1 ∨
    Lsr.status frame = 2)) (State.reset.set H.LSR_HOST_RUN 1) 1 0x40000012) ∧
  ((fun (s : State) (l : Nat) => l < 2 ∧ s.on H.LSR_POLLING l) ((State.reset.set H.LSR_POLLING 1).set H.LSR_HOST_RUN 1) 1) ∧
  ((fun (s : State) (l : Nat) => l < 2 ∧ s.on H.LSR_HOST_RUN l) (State.reset.set H.LSR_HOST_RUN 1) 1) ∧
  ((fun (s : State) (i : Nat) => takes .LSR_FT_OUT s ∧ i < 2 ∧ Lsr.owner s i = 0) (State.reset.clr F.LRX_CTRL_LOFB_EN) 1) ∧
  ((fun (s : State) (i : Nat) => takes .LSR_FT_OUT s ∧ i < 2 ∧ Lsr.owner s i ≠ 0) (State.reset.set F.LRX_CTRL_LOFB_EN) 0) ∧
  ((fun (s : State) (i value : Nat) => takes .LSR_FT_CFG s ∧ i < 2 ∧ 196 ≤ value % 65536) (State.reset.put F.LSR_FT_OUT_MHZ 0x200 1) 1
    196) ∧
  ((fun (s : State) (i value : Nat) => takes .LSR_FT_CFG s ∧ i < 2 ∧ value % 65536 < 196) State.reset 1 195) := by
  refine ⟨?_, ?_, ?_, ?_, ?_, ?_, ?_, ?_, ?_, ?_, ?_, ?_, ?_⟩ <;> decide

theorem test_meets_CalibrationCommandResults :
  ((fun (s : State) => takes .CAL_CTRL s ∧ s.get F.CAL_STAT_STATE = 0 ∧ Cal.sliceHolds s = false ∧
    Cal.allowed s false) (((State.reset.set F.CVT_ADC_STAT_CLK_LOCK).set F.CVT_DAC_STAT_CLK_LOCK).clr F.LTX_CTRL_EN)) ∧
  ((fun (s : State) => takes .CAL_CTRL s ∧ s.get F.CAL_STAT_STATE = 0 ∧ Cal.sliceHolds s = false ∧
    Cal.allowed s true) ((State.reset.set F.CVT_ADC_STAT_CLK_LOCK).set F.LTX_CTRL_EN)) ∧
  ((fun (s : State) => takes .CAL_CTRL s ∧ (s.get F.CAL_STAT_STATE ≠ 0 ∨ Cal.sliceHolds s = true ∨
    Cal.allowed s true = false)) (State.reset.put F.CAL_STAT_STATE 3)) ∧
  ((fun (s : State) => takes .CAL_CTRL s ∧ (s.get F.CAL_STAT_STATE ≠ 0 ∨ Cal.sliceHolds s = true ∨
    Cal.allowed s false = false)) (State.reset.put F.CAL_STAT_STATE 3)) ∧
  ((fun (s : State) => takes .CAL_CTRL s ∧ (s.get F.CAL_STAT_STATE = 3 ∨
    s.get F.CAL_STAT_STATE = 4)) (State.reset.put F.CAL_STAT_STATE 4)) ∧
  ((fun (s : State) => s.get F.CAL_STAT_STATE = 2) (State.reset.put F.CAL_STAT_STATE 2)) ∧
  ((fun (s : State) => s.get F.CAL_STAT_STATE = 3) (State.reset.put F.CAL_STAT_STATE 3)) ∧
  ((fun (s : State) => s.get F.CAL_STAT_STATE = 4) (State.reset.put F.CAL_STAT_STATE 4)) ∧
  ((fun (s : State) (adc : List (List SubSlice)) (dac : List DacLane) => s.get F.CAL_STAT_STATE = 4 ∧ s.on H.CAL_PASSED ∧
    Cal.firstApart (s.on F.CAL_STAT_TYPE) adc dac = none) ((State.reset.put F.CAL_STAT_STATE 4).set H.CAL_PASSED) ([]) ([])) ∧
  ((fun (s : State) (adc : List (List SubSlice)) (dac : List DacLane) (d p e q diff : Nat) => s.get F.CAL_STAT_STATE = 4 ∧
    s.on H.CAL_PASSED ∧ Cal.firstApart (s.on F.CAL_STAT_TYPE) adc dac = some (d, p, e, q,
    diff)) ((State.reset.put F.CAL_STAT_STATE 4).set H.CAL_PASSED) ([[], [⟨(0, 0), (0, 0), (60, 0), 0, 0, 0⟩]]) ([]) 0 1 0 2 60) ∧
  ((fun (s : State) => s.on F.CAL_STAT_FLASH_BUSY) ((State.reset.set F.CAL_STAT_FLASH_BUSY).put F.CAL_STAT_STATE 5)) ∧
  ((fun (s : State) (mask n : Nat) => takes .BST_CTRL s ∧ s.on F.BST_STAT_BUSY = false ∧ n < 7 ∧ mask.testBit n ∧
    (List.range n).all (fun i => !mask.testBit i) = true ∧ Bst.permitted s n ∧ Bst.ready s n) State.reset 0xFA 1) ∧
  ((fun (s : State) => takes .BST_CTRL s ∧ s.on F.BST_STAT_BUSY ∧ s.get F.BST_STAT_CUR < 7) ((State.reset.set F.BST_STAT_BUSY).put
    F.BST_STAT_CUR 6)) ∧
  ((fun (s : State) (result n : Nat) => s.on F.BST_STAT_BUSY ∧ s.on H.BST_WAITING = false ∧ s.get F.BST_STAT_CUR = n ∧ n < 7 ∧
    (result = 1 ∨ result = 2) ∧ s.bit H.BST_TODO n = false) ((State.reset.set F.BST_STAT_BUSY).put F.BST_STAT_CUR 1) 2 1) ∧
  ((fun (s : State) (n : Nat) => s.on F.BST_STAT_BUSY ∧ s.on H.BST_WAITING = false ∧ s.get F.BST_STAT_CUR = n ∧ n < 7 ∧
    s.bit H.BST_TODO n = false) ((State.reset.set F.BST_STAT_BUSY).put F.BST_STAT_CUR 6) 6) ∧
  ((fun (s : State) => takes .BST_CTRL s ∧ Bst.workshop s) (((State.reset.put F.LCM_STATE_STATE 4).setBit F.BST_STAT_SAFE_BY 1).set
    F.BST_STAT_SAFE)) ∧
  ((fun (s : State) (mask n : Nat) => takes .BST_CTRL s ∧ s.on F.BST_STAT_BUSY = false ∧ n < 7 ∧ mask = 2 ^ n ∧
    (Bst.permitted s n && Bst.ready s n) = false) State.reset 64 6) := by
  refine ⟨?_, ?_, ?_, ?_, ?_, ?_, ?_, ?_, ?_, ?_, ?_, ?_, ?_, ?_, ?_, ?_, ?_⟩ <;> decide

theorem test_meets_LifeCycleCommandResults :
  ((fun (s : State) (master value : Nat) => takes .LCM_TRANS s ∧ Mbx.isHost master ∧ s.on F.LCM_STAT_BUSY = false ∧
    slice value 16 16 = 0x5CA1 ∧ Lcm.order (Lcm.life s) (slice value 0 3) ∧ (slice value 0 3 = 2 → Lcm.anyUsable s = true) ∧
    (slice value 0 3 = 4 → Lcm.authorised s (slice value 3 2) = true)) ((State.reset.setBit F.LCM_KEY_STAT_WRITTEN 3).put
    F.LCM_STATE_STATE 1) 8 0x5CA10002) ∧
  ((fun (s : State) (master value : Nat) => takes .LCM_TRANS s ∧ (Mbx.isHost master = false ∨ s.on F.LCM_STAT_BUSY = true ∨
    slice value 16 16 ≠ 0x5CA1 ∨ Lcm.order (Lcm.life s) (slice value 0 3) = false ∨ (slice value 0 3 = 2 ∧ Lcm.anyUsable s = false) ∨
    (slice value 0 3 = 4 ∧ Lcm.authorised s (slice value 3 2) = false))) State.reset 1 0x5CA00002) ∧
  ((fun (s : State) => s.on F.LCM_STAT_BUSY ∧ s.get H.LCM_TARGET = 5) ((State.reset.set F.LCM_STAT_BUSY).put H.LCM_TARGET 5)) ∧
  ((fun (s : State) => s.on F.LCM_STAT_BUSY ∧ s.get H.LCM_TARGET ≠ 5) ((State.reset.set F.LCM_STAT_BUSY).put H.LCM_TARGET 3)) ∧
  ((fun (s : State) (k w : Nat) => takes .LCM_KEY_CTRL s ∧ k < 4 ∧ w < 12 ∧ s.get F.LCM_STATE_STATE ≤ 1 ∧
    s.bit F.LCM_KEY_STAT_WRITTEN k = false) ((State.reset.put F.LCM_KEY_HASH_DATA 77 3 11).put F.LCM_STATE_STATE 1) 3 11) ∧
  ((fun (s : State) (k : Nat) => takes .LCM_KEY_CTRL s ∧ k < 4 ∧ (2 ≤ s.get F.LCM_STATE_STATE ∨
    s.bit F.LCM_KEY_STAT_WRITTEN k = true)) (State.reset.setBit F.LCM_KEY_STAT_WRITTEN 3) 3) ∧
  ((fun (s : State) (k : Nat) => takes .LCM_KEY_CTRL s ∧ k < 4 ∧ 2 ≤ s.get F.LCM_STATE_STATE ∧ s.get F.LCM_STATE_STATE ≤ 4 ∧
    Lcm.usable s k ∧ 1 < ((List.range 4).filter (Lcm.usable s)).length) (((State.reset.put F.LCM_STATE_STATE 3).setBit
    F.LCM_KEY_STAT_WRITTEN 3).setBit F.LCM_KEY_STAT_WRITTEN 0) 3) ∧
  ((fun (s : State) (k : Nat) => takes .LCM_KEY_CTRL s ∧ k < 4 ∧ (s.get F.LCM_STATE_STATE < 2 ∨ 4 < s.get F.LCM_STATE_STATE ∨
    Lcm.usable s k = false ∨ ((List.range 4).filter (Lcm.usable s)).length ≤ 1)) ((State.reset.put F.LCM_STATE_STATE 3).setBit
    F.LCM_KEY_STAT_WRITTEN 3) 3) ∧
  ((fun (s : State) => takes .LCM_CHALLENGE s ∧ s.get H.LCM_CHAL_AGE ≤ 600) ((State.reset.put F.LCM_CHALLENGE_VAL 77 0).put
    H.LCM_CHAL_AGE 600)) ∧
  ((fun (s : State) => takes .LCM_CHALLENGE s ∧ 600 < s.get H.LCM_CHAL_AGE) (State.reset.put H.LCM_CHAL_AGE 601)) := by
  refine ⟨?_, ?_, ?_, ?_, ?_, ?_, ?_, ?_, ?_, ?_⟩ <;> decide

theorem test_meets_PairLinkResults :
  ((fun (s : State) => takes .PEER_CTRL s ∧ s.on F.PEER_CTRL_EN = false) State.reset) ∧
  ((fun (s : State) => takes .PEER_CTRL s ∧ s.on F.PEER_CTRL_EN) (((State.reset.set F.PEER_CTRL_EN).put F.PEER_STAT_STATE 4).set
    F.PEER_STAT_LINK)) ∧
  ((fun (s : State) (h : Hello) => s.on F.PEER_CTRL_EN ∧ s.on F.PEER_STAT_LINK = false ∧ Peer.matching s h ∧
    s.on F.PWR_SAFE_STAT_PEER_HELD = false) ((State.reset.set F.PEER_CTRL_EN).put F.PEER_STAT_STATE 1) (⟨true, 1, 0, 5,
    State.reset.word .LTX_LINE_CFG, State.reset.word .LRX_LINE_CFG, State.reset.get F.FEC_CFG_RATE_TX, State.reset.get F.FEC_CFG_RATE_RX,
    State.reset.get F.VLK_TREE_CFG_TREE_ID, State.reset.get F.VLK_T_EQ_T_EQ, 77⟩)) ∧
  ((fun (s : State) (h : Hello) => s.on F.PEER_CTRL_EN ∧ s.on F.PEER_STAT_LINK = false ∧
    Peer.matching s h = false) ((State.reset.set F.PEER_CTRL_EN).put F.PEER_STAT_STATE 1) (⟨false, 1, 0, 5, 0, 0, 0, 0, 0, 0, 77⟩)) ∧
  ((fun (s : State) (locked codewords : Nat) => s.on F.PEER_CTRL_EN ∧ s.on F.PEER_STAT_LINK ∧ (locked % 16 ≠ 15 ∨ 8 ≤ codewords ∨
    s.on F.PWR_SAFE_STAT_PEER_HELD = true)) (((State.reset.set F.PEER_CTRL_EN).put F.PEER_STAT_STATE 4).set F.PEER_STAT_LINK) 7 0) ∧
  ((fun (s : State) (locked codewords : Nat) => locked % 16 = 15 ∧ codewords < 8 ∧
    s.on F.PWR_SAFE_STAT_PEER_HELD = false) ((State.reset.set F.PEER_CTRL_EN).set F.PEER_STAT_LINK) 15 7) ∧
  ((fun (s : State) => s.on F.PEER_STAT_LINK) (((State.reset.set F.PEER_CTRL_EN).put F.PEER_STAT_STATE 2).set F.PEER_STAT_LINK)) ∧
  ((fun (s : State) => Peer.state s = 1) ((State.reset.put F.PEER_STAT_STATE 1).set F.PEER_CFG_SOLO_OK)) ∧
  ((fun (s : State) => takes .PEER_CTRL s ∧ Peer.state s = 1) (State.reset.put F.PEER_STAT_STATE 1)) ∧
  ((fun (s : State) => Peer.state s = 2 ∧ s.on F.PEER_STAT_LINK) ((State.reset.put F.PEER_STAT_STATE 2).set F.PEER_STAT_LINK)) ∧
  ((fun (s : State) (c ph : Nat) => s.passive ∧ c < 3072 ∧ ph < 2) (State.reset.put F.PEER_STAT_STATE 3) 3071 1) ∧
  ((fun (s : State) (m i j k : Nat) (f : Machine.Field) => s.passive ∧ Peer.mirrored[m]? = some f ∧
    f.shape.has i j k) (State.reset.put F.PEER_STAT_STATE 3) 0 0 0 0 (Peer.mirrored.getD 0 F.SYS_ID_PART)) ∧
  ((fun (s : State) (kind : Nat) => s.passive = false ∧ kind ≠ 10) (State.reset.put F.PEER_STAT_STATE 4) 2) := by
  refine ⟨?_, ?_, ?_, ?_, ?_, ?_, ?_, ?_, ?_, ?_, ?_, ?_, ?_⟩ <;> decide

theorem test_meets_PairSwitchResults :
  ((fun (s : State) => takes .PEER_CTRL s ∧ Peer.state s = 4 ∧ s.get H.PEER_PARTNER = 3) ((State.reset.put F.PEER_STAT_STATE 4).put
    H.PEER_PARTNER 3)) ∧
  ((fun (s : State) => Peer.state s = 4 ∧ s.get H.PEER_PARTNER = 3) ((State.reset.put F.PEER_STAT_STATE 4).put H.PEER_PARTNER 3)) ∧
  ((fun (s : State) => takes .PEER_CTRL s ∧ Peer.state s = 3 ∧ s.on F.PEER_STAT_LINK) ((State.reset.put F.PEER_STAT_STATE 3).set
    F.PEER_STAT_LINK)) ∧
  ((fun (s : State) => takes .PEER_CTRL s ∧ ((Peer.state s = 4 ∧ s.get H.PEER_PARTNER ≠ 3) ∨ (Peer.state s = 3 ∧
    s.on F.PEER_STAT_LINK = false) ∨ (Peer.state s ≠ 3 ∧ Peer.state s ≠ 4))) State.reset) ∧
  ((fun (s : State) => (Peer.state s ≠ 4 ∨ s.get H.PEER_PARTNER ≠ 3)) State.reset) ∧
  ((fun (s : State) (ms : Nat) => Peer.state s = 4 ∧ s.get H.PEER_PARTNER = 3 ∧ (s.on F.BST_STAT_SAFE = true ∨
    s.on F.LTX_CTRL_EN = false ∨ (s.on F.PWR_SAFE_STAT_TX_MUTED = true ∧
    max 1 (s.get F.PEER_CFG_MUTE_MS) ≤ ms))) ((State.reset.put F.PEER_STAT_STATE 4).put H.PEER_PARTNER 3) 0) ∧
  ((fun (s : State) (ms : Nat) => (Peer.state s ≠ 4 ∨ s.get H.PEER_PARTNER ≠ 3 ∨ (s.on F.BST_STAT_SAFE = false ∧
    s.on F.LTX_CTRL_EN = true ∧ (s.on F.PWR_SAFE_STAT_TX_MUTED = false ∨
    ms < max 1 (s.get F.PEER_CFG_MUTE_MS))))) (((State.reset.put F.PEER_STAT_STATE 4).put H.PEER_PARTNER 3).set F.LTX_CTRL_EN) 0) ∧
  ((fun (s : State) (ms : Nat) => Peer.state s = 3 ∧ s.on F.PEER_STAT_LINK = false ∧
    max 1 (s.get F.PEER_CFG_DARK_MS) ≤ ms) ((State.reset.put F.PEER_STAT_STATE 3).put F.PEER_CFG_DARK_MS 127) 127) ∧
  ((fun (s : State) (ms : Nat) => (Peer.state s ≠ 3 ∨ s.on F.PEER_STAT_LINK = true ∨
    ms < max 1 (s.get F.PEER_CFG_DARK_MS))) ((State.reset.put F.PEER_STAT_STATE 3).put F.PEER_CFG_DARK_MS 127) 126) ∧
  ((fun (s : State) (c : Nat) => Peer.state s = 3 ∧ c < 3072) ((State.reset.put F.PEER_STAT_STATE 3).put H.CRY_NEXT 0xFFFFFFFFFFFFFFFF
    3071) 3071) ∧
  ((fun (s : State) => s.on H.PEER_SETTLING) (((State.reset.set H.PEER_SETTLING).set H.PEER_MUTE_HELD).put F.PEER_STAT_STATE 5)) ∧
  ((fun (s : State) (l : Nat) => l < 512 ∧ Peer.state s = 3 ∧ s.get F.VLK_LEAF_STATE l = 2) ((State.reset.put F.PEER_STAT_STATE 3).put
    F.VLK_LEAF_STATE 2 511) 511) ∧
  ((fun (s : State) (l : Nat) => l < 512 ∧ Peer.state s = 4) (State.reset.put F.PEER_STAT_STATE 4) 511) := by
  refine ⟨?_, ?_, ?_, ?_, ?_, ?_, ?_, ?_, ?_, ?_, ?_, ?_, ?_⟩ <;> decide

theorem test_meets_ResetCommandResults :
  ((fun (r : Nat) => r < 6) 5) ∧
  ((fun (r : Nat) => r < 6) 5) ∧
  ((fun (s : State) => s.get F.SYS_RST_CFG_PERST_MODE ≠ 2) ((State.reset.put F.SYS_RST_CFG_PERST_MODE 1).put F.SYS_STAT_PHASE 5)) ∧
  ((fun (s : State) => s.get F.SYS_RST_CFG_PERST_MODE = 2) (((fun s => { s with msix := { s.msix with enabled := 255 } })
    ((State.reset.put F.SYS_RST_CFG_PERST_MODE 2).put F.SYS_STAT_PHASE 5)))) ∧
  ((fun (s : State) (value : Nat) => takes .SYS_RESET s ∧ value % 2 = 1 ∧
    slice value 16 16 = 0xA5C3) ((State.reset.put F.SYN_TIME_HI_VAL 77).put F.SYS_STAT_PHASE 5) 0xA5C30001) ∧
  ((fun (s : State) (value : Nat) => takes .SYS_RESET s ∧ (value % 2 = 0 ∨
    slice value 16 16 ≠ 0xA5C3)) (State.reset.put F.SYS_STAT_PHASE 5) 0xA5C30000) ∧
  ((fun (s : State) (mask b : Nat) => takes .SYS_SOFT_RST s ∧ 5 ≤ b ∧ b < 26 ∧
    mask.testBit b) (State.reset.setBit F.FLT_CTRL_EN 3) 0x2040100 25) ∧
  ((fun (s : State) (b : Nat) => 5 ≤ b ∧ b < 26 ∧ s.bit F.SYS_SOFT_RST_BLK b ∧ s.held = []) (State.reset.setBit F.SYS_SOFT_RST_BLK 25) 25) ∧
  ((fun (s : State) => Boot.ready s ∧ s.get F.LCM_STATE_STATE = 5) (((State.reset.put F.LCM_STATE_STATE 5).put F.PWR_RAIL_STAT_GOOD
    63).clr H.SYS_HELD)) ∧
  ((fun (s : State) (r : Img.Record) => Boot.ready s ∧ s.get F.LCM_STATE_STATE ≠ 5 ∧ Img.record s = r ∧ (r.trial && r.tried) = false ∧
    Img.valid s r.cur = false ∧ (r.prevValid && Img.valid s r.prev) = false) ((fun (s : State) => { s with flash := [] })
    (((State.reset.put F.LCM_STATE_STATE 3).put F.PWR_RAIL_STAT_GOOD 63).clr H.SYS_HELD)) (⟨0, 0, false, false, false⟩)) ∧
  ((fun (s : State) (misread : Nat) (r : Img.Record) => Boot.ready s ∧ s.get F.LCM_STATE_STATE ≠ 5 ∧ Img.record s = r ∧
    (r.trial && r.tried) = false ∧ misread % 2 = 0 ∧ (Img.table s r.cur).all (fun x => x.kind != 3) = true) ((fun (s : State) =>
    { s with flash := [(0x100004, 1)] }) (((State.reset.put F.LCM_STATE_STATE 3).put F.PWR_RAIL_STAT_GOOD 63).clr H.SYS_HELD)) 0 (⟨0, 0,
    false, false, false⟩)) ∧
  ((fun (s : State) (misread : Nat) (r : Img.Record) => Boot.ready s ∧ s.get F.LCM_STATE_STATE ≠ 5 ∧ Img.record s = r ∧ r.trial = true ∧
    r.tried = true ∧ misread % 2 = 0 ∧ (Img.table s r.prev).all (fun x => x.kind != 3) = true) ((fun (s : State) =>
    { s with flash := [(0xC0000, 30), (0xC0001, 7), (0xC0002, 3758128909), (0x200004, 1)] }) (((State.reset.put F.LCM_STATE_STATE 3).put
    F.PWR_RAIL_STAT_GOOD 63).clr H.SYS_HELD)) 0 (⟨0, 1, true, true, true⟩)) := by
  refine ⟨?_, ?_, ?_, ?_, ?_, ?_, ?_, ?_, ?_, ?_, ?_, ?_⟩ <;> decide

theorem test_meets_PowerCommandResults :
  ((fun (s : State) (value : Nat) => takes .PWR_AVS_SET s ∧ s.on F.PWR_SLACK_CTRL_AVS_AUTO = false ∧ s.on F.PWR_AVS_READ_BUSY = false ∧
    s.get F.PWR_VMIN_VMIN_MV ≤ slice value 0 10 ∧ slice value 0 10 ≤ 850) ((State.reset.clr F.PWR_SLACK_CTRL_AVS_AUTO).clr
    F.PWR_AVS_READ_BUSY) 850) ∧
  ((fun (s : State) => s.on F.PWR_AVS_READ_BUSY) ((State.reset.set F.PWR_AVS_READ_BUSY).put F.PWR_VMIN_VREQ_MV 800)) ∧
  ((fun (s : State) (mv : Nat) => s.on F.PWR_AVS_READ_BUSY ∧ mv = s.get F.PWR_VMIN_VREQ_MV) ((State.reset.set F.PWR_AVS_READ_BUSY).put
    F.PWR_VMIN_VREQ_MV 800) 800) ∧
  ((fun (s : State) => s.on F.PWR_AVS_READ_BUSY) ((State.reset.set F.PWR_AVS_READ_BUSY).put F.PWR_REST_STAT_STATE 3)) ∧
  ((fun (s : State) (value : Nat) => takes .PWR_PMB_CMD s ∧ s.on F.PWR_PMB_CMD_GO = false ∧ value.testBit 31) State.reset 0x800012AB) ∧
  ((fun (s : State) => s.on F.PWR_PMB_CMD_GO) ((State.reset.set F.PWR_PMB_CMD_GO).set F.PWR_PMB_CMD_READ)) ∧
  ((fun (s : State) => takes .PWR_REST_CTRL s) (State.reset.put F.SYS_STAT_PHASE 5)) ∧
  ((fun (s : State) => Rest.state s = 1) (State.reset.put F.PWR_REST_STAT_STATE 1)) ∧
  ((fun (s : State) => takes .PWR_REST_CTRL s ∧ Rest.state s = 2) (State.reset.put F.PWR_REST_STAT_STATE 2)) ∧
  ((fun (s : State) => Rest.masked s ∧ Rest.state s = 2) ((((State.reset.put F.PWR_REST_STAT_STATE 2).put F.PWR_REST_WAKE_MASK_BLK
    0xFFFFFFFF).set F.HKA_INT_CAUSE_SEQ_DONE).put F.HKA_INT_MASK_MASK 15)) ∧
  ((fun (s : State) => Rest.state s = 3 ∧ Sys.wakePowered s ∧ s.held = []) (State.reset.put F.PWR_REST_STAT_STATE 3)) ∧
  ((fun (s : State) (len i : Nat) => takes .BOOT_FL_CMD s ∧ Flash.check s 0 (max 1 (len % 128)) = 0 ∧
    i < max 1 (len % 128)) (((fun s => { s with flash := [(0x3FFFFF, 77)] }) (State.reset.put F.BOOT_FL_ADDR_ADDR 0xFFFF00))) 64 63) ∧
  ((fun (s : State) (len i : Nat) => takes .BOOT_FL_CMD s ∧ Flash.check s 1 (max 1 (len % 128)) = 0 ∧
    i < max 1 (len % 128)) (((State.reset.put F.BOOT_FL_ADDR_ADDR 0xFFFF00).put F.BOOT_FL_DATA_DATA 5 63).put F.LCM_STATE_STATE 1) 64 63) ∧
  ((fun (s : State) => takes .BOOT_FL_CMD s ∧ Flash.check s 2 1 = 0) (((fun s => { s with flash := [(0x3FFFFF, 77)] }) ((State.reset.put
    F.BOOT_FL_ADDR_ADDR 0xFF0000).put F.LCM_STATE_STATE 1)))) ∧
  ((fun (s : State) => s.on F.BOOT_FL_STAT_BUSY) ((State.reset.set F.BOOT_FL_STAT_BUSY).set F.BOOT_FL_CMD_GO)) := by
  refine ⟨?_, ?_, ?_, ?_, ?_, ?_, ?_, ?_, ?_, ?_, ?_, ?_, ?_, ?_, ?_⟩ <;> decide

/-! ### The spec's worked examples and rules, one step each -/

/-- The state after a command. -/
def after (c : Instr) (s : State) : State :=
  match exec c s with
  | .next t => t
  | _ => s

/-- R23, its example: 200 GBd at 95 °C. -/
theorem test_vmin_example :
    Pwr.vmin (((State.reset.set F.LTX_CTRL_EN).put F.LTX_LINE_CFG_BAUD_MBD 200000).put F.HKA_DIE_HOT_TEMP (95 * 64)) = 740 := by decide

/-- "Worked example: a full-tree hub grid" (R28): offsets of 0, 1.5 GHz and 2.0 GHz at 340 GS/s. -/
def grid : State := ((State.reset.put F.LTX_LINE_CFG_BAUD_MBD 290000).put F.LTX_LINE_CFG_NSC_M1 511).put F.CVT_DAC_FS_FS_MHZ 340000

theorem test_grid_example :
    Ltx.spanOk grid H.LTX_SHADOW 0 = true ∧ Ltx.spanOk grid H.LTX_SHADOW 15000 = true ∧ Ltx.spanOk grid H.LTX_SHADOW 20000 = false := by decide

/-- "Example: one upstream subcarrier" (R78, R79): S = 16.5 dB, MARG 1.0, HYST 0.5, G 1.25; raised from h = 352 to 360. -/
theorem test_loading_example :
    Scm.fit 1 (264 - 16 - 20) = some (2, 370) ∧ Scm.fit 1 (264 - 16 - 8 - 20) = some (2, 360) ∧
    Scm.decide79 (some (2, 370)) (some (2, 360)) (some (2, 352)) = (2, 360, false) := by decide

/-- "Example: a full tree": classes B and C, S = 12.0 dB and 7.0 dB. -/
theorem test_loading_classes :
    Scm.fit 1 (192 - 16 - 8 - 20) = some (1, 249) ∧ Scm.fit 1 (112 - 16 - 8 - 20) = some (1, 162) := by decide

/-- Table MBX-4, steps 1 and 2: F3 wins lock 30 from F1, which reads 5. -/
theorem test_lock_example :
    (after (.mbxLockAcquire 4 false 30 [2]) State.reset).get F.MBX_LOCK_STAT_OWNER 30 = 4 ∧
    (after (.mbxLockAcquire 4 false 30 [2]) State.reset).on F.MBX_LOCK_STAT_CONTENDED 30 = true ∧
    (after (.mbxLockAcquire 4 false 30 [2]) State.reset).out = [.readData 2 0x201F48 5, .readData 4 0x201F48 0] := by decide

/-- The receive context 700 of Table CRY-4 before its step 1. -/
def oldHub : State :=
  ((((State.reset.set H.CRY_SYNC 700).put H.CRY_U 0x12C66 700).put H.CRY_LAST 0x12C66D40F 700).put H.CRY_LAST_SEQ 0xD40F 700).put H.CRY_WIN
    0xFFFF 700

/-- Table CRY-4, step 1: a replay, discarded, SYNC stays 1. -/
theorem test_cipher_example_replay :
    (Cry.decrypt 700 { type := 0, flow := 700, seq := 0x7A13, cipher := 3 * 4096 } oldHub).1 = .discarded ∧
    (Cry.decrypt 700 { type := 0, flow := 700, seq := 0x7A13, cipher := 3 * 4096 } oldHub).2.on F.CRY_INT_CAUSE_REPLAY = true ∧
    (Cry.decrypt 700 { type := 0, flow := 700, seq := 0x7A13, cipher := 3 * 4096 } oldHub).2.on H.CRY_SYNC 700 = true := by decide

/-- Table CRY-4, step 2: the CPART of the new hub ends SYNC; the frame is counted NOSYNC and errored. -/
theorem test_cipher_example_mismatch :
    (Cry.decrypt 700 { type := 0, flow := 700, seq := 0x7A14, cipher := 0xC40 } (oldHub.put H.CRY_LAST_SEQ 0x7A13 700)).1 = .errored ∧
    (Cry.decrypt 700 { type := 0, flow := 700, seq := 0x7A14, cipher := 0xC40 } (oldHub.put H.CRY_LAST_SEQ 0x7A13 700)).2.on H.CRY_SYNC 700
      = false := by decide

/-- "Example: a downstream flow across a takeover": the CPART slices. -/
theorem test_cpart_example :
    (List.range 4).map (Cry.cpart 0x12C66) = [0xC66, 0x012, 0, 0] ∧ (List.range 4).map (Cry.cpart 0x1012C40) = [0xC40, 0x012, 0x001, 0] := by
  decide

/-- R7: a read of SLACK_LVL returns MIN to NOW. -/
theorem test_slack_level_read :
    (after (.readClear 9 (RegId.barAddr .PWR_SLACK_LVL 5 0 0)) ((State.reset.put F.PWR_SLACK_LVL_NOW 20 5).put F.PWR_SLACK_LVL_MIN 3 5)).get
      F.PWR_SLACK_LVL_MIN 5 = 20 := by decide

/-- R252: ADD wraps. -/
theorem test_add_wraps :
    Eng.reg (after (.add 64 3) (((atWord 0xA63800).put F.ENG_GREG_VAL 0xFFFFFFFF 64 3 6).put F.ENG_GREG_VAL 2 64 3 7)) 64 3 5 = 1 := by decide

/-- R252: SRA keeps the sign, for a destination that is also the source. -/
theorem test_sra_sign :
    Eng.reg (after (.sra 64 3) (((atWord 0xC63807).put F.ENG_GREG_VAL 0x80000000 64 3 6).put F.ENG_GREG_VAL 4 64 3 7)) 64 3 6 = 0xF8000000 := by
  decide

/-- R252: MULH of −1 and 2. -/
theorem test_mulh_sign :
    Eng.reg (after (.mulh 64 3) (((atWord 0xA6380B).put F.ENG_GREG_VAL 0xFFFFFFFF 64 3 6).put F.ENG_GREG_VAL 2 64 3 7)) 64 3 5 = 0xFFFFFFFF := by
  decide

/-- R252: JALR jumps by the register as it was, though it links into the same one. -/
theorem test_jalr_same_register :
    Eng.pc (after (.jalr 64 3) ((atWord 0x3CC60000).put F.ENG_GREG_VAL 100 64 3 6)) 64 3 = 100 ∧
    Eng.reg (after (.jalr 64 3) ((atWord 0x3CC60000).put F.ENG_GREG_VAL 100 64 3 6)) 64 3 6 = 1 := by decide

/-- R249: g0 stays 0. -/
theorem test_g0_stays_zero : Eng.reg (after (.addi 64 3) (atWord 0x0406FFFF)) 64 3 0 = 0 := by decide

/-- R262: a word of an opcode that Table ENG-3 does not give. -/
theorem test_illegal_faults :
    (after (.add 64 3) (atWord 0xFC000000)).get F.ENG_THR_STAT_CAUSE 64 3 = 1 := by decide

/-- R305, R306: the median of five, and rounding half to even. -/
theorem test_filter_arithmetic :
    Flt.medianOf 5 [9, -3, 4, 100, 0] = 4 ∧ Flt.halfEven 5 2 = 2 ∧ Flt.halfEven 7 2 = 4 ∧ Flt.halfEven (-5) 2 = -2 := by decide

/-- R284: CNT_LO loads the staged and the written value together. -/
theorem test_counter_preset :
    (after (.cntLoWrite 1 1251 0xFFFFFFF0) (State.reset.put H.PMC_STAGE 0xFFFF 1 1251)).get H.PMC_CNT 1251 = 2 ^ 48 - 16 := by decide

/-- R383: a host bell raises the MBX bit of the summary; a masked table entry leaves the vector pending. -/
theorem test_vector_pending :
    Store.get 0 (after (.doorbell 2 false 5 3)
      ((((State.reset.put F.MBX_INT_MASK_MASK 1).put F.MBX_BIND_SENDER 2 5).put F.MBX_BIND_RECEIVER 1 5).set F.MBX_BIND_EN 5)).msix.pend (64 * 1 + 5) = 1 := by
  decide

/-- R25: the worked example, 200 GBd, 64 subcarriers, 21 taps, 40,000 ps/nm, 12 iterations, 30 ns of deskew. -/
theorem test_latency : Signal.latencyTx 200000 0 300 = 251 ∧ Signal.latencyRx 200000 64 40000 12 21 = 914 := by decide

/-- R122: a burst is 720 symbols at L = 64 and 976 at L = 128. -/
theorem test_burst_length : Signal.burstSymbols 0 = 720 ∧ Signal.burstSymbols 4 = 976 := by decide

/-- R27: three subcarriers: the middle one at 0 Hz. -/
theorem test_grid : (Signal.centre 60000 3 3 1).num = 0 ∧ (Signal.centre 60000 3 3 2).num = 20600 := by decide

/-- R32: the eleven sequences of four amplitudes 1 and 3 with energy at most 20, in lexicographic order. -/
theorem test_enumeration :
    Signal.within [1, 3] 4 20 = 11 ∧ Signal.sequence [1, 3] 4 20 6 = some [1, 3, 3, 1] ∧ Signal.position [1, 3] 20 [1, 3, 3, 1] = 6 := by
  decide

/-- R33: at h = 96 every fourth symbol is a known one. -/
theorem test_known_symbols :
    (List.range 64).filter (Signal.known 16) = (List.range 16).map (fun i => 4 * i + 3) ∧ Signal.blockBits 0 101 false = 102 := by decide

/-! ### Ill-formed terms, one for each check, from the command named on -/

theorem test_illFormed_from_registerWrite :
    ([
     .registerWrite 10 0 0 0, .registerWrite 1 2 0 0, .registerWrite 1 0 (2 ^ 32) 0, .registerWrite 1 0 0 16, .readClear 10 0,
     .readClear 1 2, .snapshotRead 10 0, .snapshotRead 1 2, .pcieUnsupportedRequest 0 8 0, .pcieUnsupportedRequest 0 0 1024,
     .sysLock (2 ^ 32), .bridgePrefilled 646, .bridgeUnderflow 646, .bridgeOverflow 646, .slackLow 16 0, .hardMarginCrossing 16 0,
     .slackCfgWrite 16 0, .slackCfgWrite 0 (2 ^ 32), .hostMute 2, .loadSwap 2, .freqOfsWrite (2 ^ 32), .skewWrite 4 0,
     .skewWrite 0 (2 ^ 32), .scLock 512 0, .scUnlock 512 0, .singular 512 0 0, .cycleSlip 512 0, .dmErr 512 [],
     .tapSetSwitch 512 0 false, .tapSetSwitch 0 512 false, .loadAnnounce 2, .loadAckTmo 2, .fecCfgWrite (2 ^ 32),
     .codewordDecode 512 false 0 0 0 0, .codewordDecode 0 false 0 0 0 512, .codewordDecode 0 false 19 0 0 0,
     .vdfReceive 0 512 0 0 0 0 0 0 0 0 0, .vdfReceive 0 0 2 0 0 0 0 0 0 0 0, .vdfReceive 0 0 0 0 (2 ^ 24) 0 0 0 0 0 0,
     .vdfReceive 0 0 0 0 0 0 0 0 0 2 0, .mgmtContainer 2 0, .treeInfo 1024 0 0 0 0 0 0 0 0 [] 0, .treeInfo 0 4 0 0 0 0 0 0 0 [] 0,
     .treeInfo 0 0 256 0 0 0 0 0 0 [] 0,
     .regAssign 1024 0 0 0 0 0 0 0 0 0 0 0 0 0 0] : List Instr).all (fun c => !c.wellFormed) = true := by decide

theorem test_illFormed_from_regAssign :
    ([
     .regAssign 0 4 0 0 0 0 0 0 0 0 0 0 0 0 0, .regAssign 0 0 256 0 0 0 0 0 0 0 0 0 0 0 0,
     .regAssign 0 0 0 0 0 0 0 0 0 0 0 0 0 0 (2 ^ 24), .regConfirm 512 0 0, .regConfirm 0 4 0, .regConfirm 0 0 256, .dereg 1024 0 0,
     .dereg 0 4 0, .dereg 0 0 256, .rangeAdj 1024 0 0 0, .rangeAdj 0 4 0 0, .rangeAdj 0 0 256 0, .freqAdj 1024 0 0 0, .freqAdj 0 4 0 0,
     .freqAdj 0 0 256 0, .grantTable 1024 0 0 0 [], .grantTable 0 4 0 0 [], .grantTable 0 0 256 0 [], .grantTable 0 0 0 256 [],
     .grantAck 512 0 0 0 0, .grantAck 0 4 0 0 0, .grantAck 0 0 256 0 0, .grantAck 0 0 0 256 0, .grantAck 0 0 0 0 256,
     .loadTable 1024 0 0 0 0 0 [], .loadTable 0 4 0 0 0 0 [], .loadTable 0 0 256 0 0 0 [], .loadTable 0 0 0 2 0 0 [],
     .loadTable 0 0 0 0 256 0 [], .loadTable 0 0 0 0 0 0 [2 ^ 32], .loadAck 512 0 0 0 0, .loadAck 0 4 0 0 0, .loadAck 0 0 256 0 0,
     .loadAck 0 0 0 2 0, .loadAck 0 0 0 0 256, .loadNak 512 0 0 0 0, .loadNak 0 4 0 0 0, .loadNak 0 0 256 0 0, .loadNak 0 0 0 2 0,
     .loadNak 0 0 0 0 256, .loadCancel 1024 0 0 0 0, .loadCancel 0 4 0 0 0, .loadCancel 0 0 256 0 0, .loadCancel 0 0 0 2 0,
     .loadCancel 0 0 0 0 256] : List Instr).all (fun c => !c.wellFormed) = true := by decide

theorem test_illFormed_from_loadMismatch :
    ([
     .loadMismatch 512 0 0 0, .loadMismatch 0 4 0 0, .loadMismatch 0 0 256 0, .loadMismatch 0 0 0 2, .snrReport 512 0 0 0 [],
     .snrReport 0 4 0 0 [], .snrReport 0 0 256 0 [], .snrReport 0 0 0 0 [2 ^ 32], .regWrite 1024 0 0 [], .regWrite 0 4 0 [],
     .regWrite 0 0 256 [], .regWrite 0 0 0 (List.replicate 121 (0, 0)), .regWrite 0 0 0 [(0, 2 ^ 32)], .regRead 1024 0 0 [],
     .regRead 0 4 0 [], .regRead 0 0 256 [], .regRead 0 0 0 (List.replicate 233 0), .regResp 512 0 0 [], .regResp 0 4 0 [],
     .regResp 0 0 256 [], .regResp 0 0 0 [2 ^ 32], .fwOpen 1024 0 0 0 0 0, .fwOpen 0 4 0 0 0 0, .fwOpen 0 0 256 0 0 0,
     .fwData 1024 0 0 0 [], .fwData 0 4 0 0 [], .fwData 0 0 256 0 [], .fwData 0 0 0 0 [256], .fwClose 1024 0 0, .fwClose 0 4 0,
     .fwClose 0 0 256, .fwStatus 1024 0 0 [], .fwStatus 0 4 0 [], .fwStatus 0 0 256 [], .fwStatus 0 0 0 [2 ^ 32], .fwActivate 1024 0 0,
     .fwActivate 0 4 0, .fwActivate 0 0 256, .restReq 512 0 0, .restReq 0 4 0, .restReq 0 0 256, .restGrant 1024 0 0 0 0 0,
     .restGrant 0 4 0 0 0 0, .restGrant 0 0 256 0 0 0,
     .restGrant 0 0 0 (2 ^ 24) 0 0] : List Instr).all (fun c => !c.wellFormed) = true := by decide

theorem test_illFormed_from_wakeAck :
    ([
     .wakeAck 512 0 0, .wakeAck 0 4 0, .wakeAck 0 0 256, .ack 513 0 0, .ack 0 256 0, .ack 0 0 256, .user 1024 0 0 0 [],
     .user 0 4 0 0 [], .user 0 0 256 0 [], .user 0 0 0 256 [], .user 0 0 0 0 [2 ^ 32], .unknownType 1024 0 0, .unknownType 0 4 0,
     .unknownType 0 0 256, .retxTimeout 513 0, .retxTimeout 0 256, .txpost 8 0 0, .txpost 0 2048 0, .txpost 0 0 512,
     .rangeTrigger 512 0 0, .freqTrigger 512 0, .regAttempt (2 ^ 24) 0 0 0, .regAttempt 0 256 0 0, .regAttempt 0 0 16 0,
     .regAttempt 0 0 0 512, .regOpen 2, .upstreamStart (2 ^ 24), .leafRestStart (2 ^ 24), .listenWake (2 ^ 24), .hubRestStart 512,
     .wake 512, .wakeTmo 512 0, .leafLost 512 0, .peakDetect 4 0 0 0 0 0 0 0 0 0 0 0 [] 0, .headerDecision 4 0 0,
     .headerDecision 0 (2 ^ 32) 0, .headerDecision 0 0 2, .burstClose 4 0 0 0 0 [], .burstClose 0 2 0 0 0 [], .gapClose 4 0 0 0 [],
     .fade 4 [] 0, .orphan 4 0 [], .scAbsentSet 512 [], .scAbsentClear 512 [],
     .txEn 2] : List Instr).all (fun c => !c.wellFormed) = true := by decide

theorem test_illFormed_from_txFrame :
    ([
     .txFrame (2 ^ 24) 0 [], .txFrame 0 256 [], .rxEn 2, .fawHit 0 4 0, .candidateJudge 0 4 0 0, .candidateJudge 0 0 65 0,
     .candidateJudge 0 0 0 (2 ^ 64), .fawCheck 512 0 0, .fawCheck 0 65 0, .fawCheck 0 0 4, .overheadWord 512 0 0 [] 0 0,
     .overheadWord 0 512 0 [] 0 0, .overheadWord 0 0 (2 ^ 64) [] 0 0, .overheadWord 0 0 0 [] (2 ^ 24) 0, .overheadWord 0 0 0 [] 0 256,
     .oom 512 0, .oom 0 512, .mfRestore 512 0, .mfRestore 0 512, .upstreamFawCheck 512 0 0, .upstreamFawCheck 0 512 0,
     .upstreamOof 512 0, .upstreamOof 0 512, .upstreamInFrame 512 0, .upstreamInFrame 0 512, .tenMsTick 100 [] [] 0,
     .defectDeclare 5 0 0, .defectDeclare 0 0 12, .defectClear 5 0 0, .defectClear 0 0 12, .defCfgWrite 12 0, .defCfgWrite 0 (2 ^ 32),
     .degOnset 544, .cfReceive 512 0 0 [] [] 0, .cfReceive 0 512 0 [] [] 0, .cfReceive 0 0 0 [256] [] 0, .cfReceive 0 0 0 [] [256] 0,
     .slipWrite 3072, .slipRead 3072 [], .cliEnable 32, .cliDisable 32, .signalDetect 32, .signalLoss 32, .cdrLock 32,
     .cdrLoss 32] : List Instr).all (fun c => !c.wellFormed) = true := by decide

theorem test_illFormed_from_laneLock :
    ([
     .laneLock 32 0 0, .markerLockLoss 32, .egressOrderChange 32, .deskewMeasure 32 0 0, .linkTmo 32 0, .flowRead 3072,
     .flowWrite 3072, .flowRemove 3072, .cfSchedule 512 0, .tokenCap 3072 0, .clientIngress 32 0 0 0 [], .clientIngress 0 0 0 0 [256],
     .qdrTrainDone 2 0, .qdrRecentre 2 [], .qdrParityError 2 0 0, .qdrParityError 0 1024 0, .qdrParityError 0 0 3072,
     .addrParityError 2, .qdrPortFail 2, .cryLockAcquire 10 false [], .cryLockAcquire 1 false [0], .cryLockRelease 10 false,
     .keyLoad 10 false 0 0, .keyLoad 1 false 3072 0, .keyLoad 1 false 0 2, .keyRoll 10 false 0 0, .keyRoll 1 false 3072 0,
     .keyRoll 1 false 0 2, .keyClear 10 false 0 0, .keyClear 1 false 3072 0, .keyClear 1 false 0 2, .keyClearCtx 10 false 0,
     .keyClearCtx 1 false 3072, .keyCmdUndefined 10 false 0 0 0, .keyCmdUndefined 1 false 3072 0 0, .keyCmdUndefined 1 false 0 2 0,
     .keyCmdUndefined 1 false 0 0 8, .erasure 6 false, .refFail 8 0, .refRestore 8, .wtrComplete 8, .driftWatchEnd 8, .refDq 8,
     .qlTmo 8 0, .refQlWrite 8 0] : List Instr).all (fun c => !c.wellFormed) = true := by decide

theorem test_illFormed_from_refQlWrite :
    ([
     .refQlWrite 0 (2 ^ 32), .pstepWrite 8 0, .pstepWrite 0 (2 ^ 32), .pstepDone 8, .privKeyWrite 10 false 0,
     .privKeyWrite 1 false (2 ^ 32), .loopOpen 10 false 0 0, .loopOpen 1 false 2 0, .ncoFreqWrite 10 false 0 0,
     .ncoFreqWrite 1 false 2 0, .ncoFreqWrite 1 false 0 (2 ^ 32), .loopClose 10 false 0, .loopClose 1 false 2, .maxOpenExpiry 2 0,
     .add 65 0, .add 0 4, .sub 65 0, .sub 0 4, .andOp 65 0, .andOp 0 4, .orOp 65 0, .orOp 0 4, .xor 65 0, .xor 0 4, .sll 65 0,
     .sll 0 4, .srl 65 0, .srl 0 4, .sra 65 0, .sra 0 4, .slt 65 0, .slt 0 4, .sltu 65 0, .sltu 0 4, .mul 65 0, .mul 0 4, .mulh 65 0,
     .mulh 0 4, .mulhu 65 0, .mulhu 0 4, .min 65 0, .min 0 4, .max 65 0, .max 0 4,
     .clz 65 0] : List Instr).all (fun c => !c.wellFormed) = true := by decide

theorem test_illFormed_from_clz :
    ([
     .clz 0 4, .popc 65 0, .popc 0 4, .addi 65 0, .addi 0 4, .andi 65 0, .andi 0 4, .ori 65 0, .ori 0 4, .xori 65 0, .xori 0 4,
     .slti 65 0, .slti 0 4, .shi 65 0, .shi 0 4, .lui 65 0, .lui 0 4, .beq 65 0, .beq 0 4, .bne 65 0, .bne 0 4, .blt 65 0, .blt 0 4,
     .bge 65 0, .bge 0 4, .bltu 65 0, .bltu 0 4, .bgeu 65 0, .bgeu 0 4, .jal 65 0, .jal 0 4, .jalr 65 0, .jalr 0 4, .ldw 65 0,
     .ldw 0 4, .stw 65 0, .stw 0 4, .lxch 65 0, .lxch 0 4, .ladd 65 0, .ladd 0 4, .rld 65 0, .rld 0 4, .rst 65 0,
     .rst 0 4] : List Instr).all (fun c => !c.wellFormed) = true := by decide

theorem test_illFormed_from_dmar :
    ([
     .dmar 65 0, .dmar 0 4, .dmaw 65 0, .dmaw 0 4, .qrd 65 0, .qrd 0 4, .qwr 65 0, .qwr 0 4, .aswp 65 0, .aswp 0 4, .aadd 65 0,
     .aadd 0 4, .aand 65 0, .aand 0 4, .aor 65 0, .aor 0 4, .acas 65 0, .acas 0 4, .wait 65 0, .wait 0 4, .fence 65 0, .fence 0 4,
     .jmark 65 0, .jmark 0 4, .tstat 65 0, .tstat 0 4, .trel 65 0, .trel 0 4, .halt 65 0, .halt 0 4, .yield 65 0, .yield 0 4,
     .setf 65 0, .setf 0 4, .clrf 65 0, .clrf 0 4, .drop 65 0, .drop 0 4, .self 65 0, .self 0 4, .tagExhaust 65 0, .tagExhaust 0 4,
     .opAccept 65 0, .opAccept 0 1024, .accTmo 65 0] : List Instr).all (fun c => !c.wellFormed) = true := by decide

theorem test_illFormed_from_accTmo :
    ([
     .accTmo 0 1024, .opFinal 65 0 0 0, .opFinal 0 1024 0 0, .waitEnd 65 0, .waitEnd 0 4, .waitTimeout 65 0, .waitTimeout 0 4,
     .threadStart 65 0, .threadStart 0 4, .threadStop 65 0, .threadStop 0 4, .engReset 65, .memDataAccess 10 0 false 0,
     .memDataAccess 1 65 false 0, .memDataAccess 1 0 false (2 ^ 32), .activate 2, .mbxDataWrite 10 false 0 0 0,
     .mbxDataWrite 1 false 64 0 0, .mbxDataWrite 1 false 0 16 0, .mbxDataWrite 1 false 0 0 (2 ^ 32), .doorbell 10 false 0 0,
     .doorbell 1 false 64 0, .doorbell 1 false 0 (2 ^ 32), .mbxTake 10 false 0, .mbxTake 1 false 64, .bind 10 false 0 0,
     .bind 1 false 64 0, .bind 1 false 0 (2 ^ 32), .mbxLockAcquire 10 false 0 [], .mbxLockAcquire 1 false 64 [],
     .mbxLockAcquire 1 false 0 [0], .mbxLockRelease 10 false 0, .mbxLockRelease 1 false 64, .functionLevelReset 8, .peerPost 64 [],
     .peerPost 0 [2 ^ 32], .cntLoWrite 10 0 0, .cntLoWrite 1 1536 0, .cntLoWrite 1 0 (2 ^ 32), .cntHiWrite 10 0 0,
     .cntHiWrite 1 1536 0, .cntHiWrite 1 0 (2 ^ 32), .pmcOverflow 1536, .samplePick 65 0 0 0 0 0 0,
     .samplePick 0 4 0 0 0 0 0] : List Instr).all (fun c => !c.wellFormed) = true := by decide

theorem test_illFormed_from_pwmPeriodStart :
    ([
     .pwmPeriodStart 8, .pwmCompare 8, .fltSample 8 0, .fltOutput 8, .fltValid 8, .firSwap 8, .firFadeDone 8, .fltCfgWrite 8 0,
     .fltCfgWrite 0 (2 ^ 32), .fltPreset 8 0, .fltPreset 0 8, .biasLoopEnable 8 0, .biasLoopEnable 0 (2 ^ 32), .serCmd 2 0,
     .serCmd 0 (2 ^ 32), .serResponse 2 0, .serResponse 0 (2 ^ 32), .serPoll 2 false, .serTimeout 2, .ftOutWrite 2 0,
     .ftOutWrite 0 (2 ^ 32), .gainKhzWrite 2 0, .gainKhzWrite 0 (2 ^ 32), .bistGo 256, .sliceEnd 5 0 0, .override 2,
     .lcmTransition 10 0, .lcmTransition 1 (2 ^ 32), .keyCommit 4, .keyRevoke 4, .challengeRead 10, .mirrorRecord 0 [2 ^ 32] 0,
     .eqdMeasure 512 0 0, .powerOnReset 64, .railDrop 6, .railWarn 6, .warmReset (2 ^ 32), .softReset (2 ^ 26), .softResetDone 26,
     .boot 4, .avsSet (2 ^ 32), .pmbCmd (2 ^ 32), .restWake 3, .flRead 128,
     .flProgram 128] : List Instr).all (fun c => !c.wellFormed) = true := by decide

end Sys2Proof
end

/-! SUPPORT. What every command does, whatever it is: it completes, by the named writes of Machine/Ops.lean alone. From that follow the
canonical form (O3), the record of what was put out (O2) and the frame of a command (O14). -/
namespace Sys2Proof.Proofs
open Sys2Proof Sys2Proof.Machine Sys2Proof.Laws

variable {c : Instr} {s t : State}

/-- Every meaning ends in `done`, alone or after the mirror records of R343, and `done` answers a next state. -/
theorem exec_completes (c : Instr) (s : State) : ∃ t, exec c s = .next t := by
  cases c
  all_goals exact ⟨_, rfl⟩

/-- The 28 commands without a footprint are made of named writes too. -/
theorem exec_moves_anywhere (hf : footprint c = none) (h : exec c s = .next t) : Moves (fun _ => True) s t := by
  have hw : ∀ x : Part, (fun _ => True) x := fun _ => trivial
  cases c with
  | registerWrite m a v be => exact execRegisterWrite_moves hw _ _ _ _ h
  | readClear m a => exact execReadClear_moves hw _ _ h
  | snapshotRead m a => exact execSnapshotRead_moves hw _ _ h
  | regWrite a f q p => exact execRegWrite_moves hw _ _ _ _ h
  | regRead a f q p => exact execRegRead_moves hw _ _ _ _ h
  | fwActivate a f q => exact execFwActivate_moves hw _ _ _ h
  | cryLockAcquire m u r => exact execCryLockAcquire_moves hw _ _ _ h
  | opFinal n j w p => exact execOpFinal_moves hw _ _ _ _ h
  | memDataAccess m n w v => exact execMemDataAccess_moves hw _ _ _ _ h
  | activate n => exact execActivate_moves hw _ h
  | healthOk => exact execHealthOk_moves hw h
  | healthTmo => exact execHealthTmo_moves hw h
  | rollback => exact execRollback_moves hw h
  | mbxTake m u n => exact execMbxTake_moves hw _ _ _ h
  | mbxLockAcquire m u n r => exact execMbxLockAcquire_moves hw _ _ _ _ h
  | fuseDone => exact execFuseDone_moves hw h
  | challengeRead m => exact execChallengeRead_moves hw _ h
  | mirrorRecord k w n => exact execMirrorRecord_moves hw _ _ _ h
  | powerOnReset r => exact execPowerOnReset_moves hw _ h
  | railDrop r => exact execRailDrop_moves hw _ h
  | resetN => exact execResetN_moves hw h
  | perst => exact execPerst_moves hw h
  | warmReset v => exact execWarmReset_moves hw _ h
  | imageLoadingReset => exact execImageLoadingReset_moves hw h
  | softReset m => exact execSoftReset_moves hw _ h
  | softResetDone b => exact execSoftResetDone_moves hw _ h
  | boot m => exact execBoot_moves hw _ h
  | restExitDone u m => exact execRestExitDone_moves hw _ _ h
  | _ => cases hf

/-- Every command, with a footprint or without, is made of named writes. -/
theorem exec_named_writes (h : exec c s = .next t) : Moves (fun _ => True) s t := by
  cases hf : footprint c with
  | none => exact exec_moves_anywhere hf h
  | some l => exact (exec_moves hf h).mono (fun _ _ => trivial)

/-- A step is idle, or the front command on the machine with the queue's rest. -/
theorem step_cases (h : Machine.step s = .next t) :
    t = s ∨ ∃ c rest, s.pending = c :: rest ∧ exec c { s with pending := rest } = .next t := by
  unfold Machine.step at h
  split at h
  · exact .inl (Host.Outcome.next.inj h).symm
  · exact .inr ⟨_, _, ‹_›, h⟩

/-- The queue of commands is no part of the canonical form. -/
theorem canonical_pending (q : List Instr) (h : canonical s) : canonical { s with pending := q } := h

/-- There are more parts than any list holds. -/
theorem exists_part_notMem (l : List Part) : ∃ x, x ∉ l := by
  have hinj : Function.Injective (fun n => Part.fld (fld (shape0 n) 0 1 .ro)) := fun a b h => by
    simpa [fld, shape0] using h
  have := Infinite.of_injective _ hinj
  classical
  obtain ⟨x, hx⟩ := Infinite.exists_notMem_finset l.toFinset
  exact ⟨x, fun h => hx (List.mem_toFinset.mpr h)⟩

/-- Settles O3: a step is idle or a command, and a command is made of named writes, each of which keeps the form (`Moves.canonical`). -/
theorem stepKeepsCanonicalForm : Obligations.StepKeepsCanonicalForm := by
  unfold Obligations.StepKeepsCanonicalForm
  intro s t hs h
  obtain rfl | ⟨c, rest, -, hc⟩ := step_cases h
  · exact hs
  · exact (exec_named_writes hc).canonical (canonical_pending rest hs)

/-- Settles O2: the named writes leave the queue alone, put out on top of what was put out, and only raise the count of free values. -/
theorem everyCommandCompletes : Obligations.EveryCommandCompletes := by
  unfold Obligations.EveryCommandCompletes
  intro c s
  obtain ⟨t, h⟩ := exec_completes c s
  have hm := exec_named_writes h
  exact ⟨t, h, hm.pending, hm.out, hm.drawn⟩

/-- Settles O14: a command writes only the parts of its footprint (`exec_moves`), and what is written to a list of parts keeps the rest. -/
theorem eachCommandKeepsTheRest : Obligations.EachCommandKeepsTheRest := by
  unfold Obligations.EachCommandKeepsTheRest
  intro c l s t hf h
  exact (exec_moves hf h).keeps (exists_part_notMem l)

end Sys2Proof.Proofs

/-! SUPPORT. The state after power-on reset (O4): an empty register table reads as the field maps' reset values, and the factory's calibration
set stands in the flash in canonical form. -/
namespace Sys2Proof.Proofs
open Sys2Proof Sys2Proof.Machine Sys2Proof.Laws

/-- After reset a field holds what its field map gives. -/
theorem reset_get (f : Machine.Field) (i j k : Nat) :
    State.reset.get f i j k = if f.shape.has i j k then f.resetAt i j k % 2 ^ f.width else 0 := rfl

/-- A field whose map gives 0 for every element reads 0 after reset, where it has an element or not. -/
theorem reset_get_zero {f : Machine.Field} (hr : f.reset = 0) (ht : f.resetTab = []) (i j k : Nat) : State.reset.get f i j k = 0 := by
  have hz : f.resetAt i j k = 0 := by simp [Field.resetAt, ht, hr]
  rw [reset_get, hz, Nat.zero_mod, ite_self]

/-- The same as a flag. -/
theorem reset_on_false {f : Machine.Field} (hr : f.reset = 0) (ht : f.resetTab = []) (i j k : Nat) : State.reset.on f i j k = false := by
  simp [State.on, reset_get_zero hr ht]

/-- Words entered under consecutive keys, before a tail of higher keys, have rising keys. -/
theorem run_append_sorted (g : Nat → Nat) (b : Nat) (m : Store Nat) (hm : m.sorted = true) :
    ∀ n a, (∀ k, k < b + a + n → m.above k = true) →
      Store.sorted ((List.range' a n).map (fun i => (b + i, g i)) ++ m) = true ∧
      ∀ k, k < b + a → Store.above k ((List.range' a n).map (fun i => (b + i, g i)) ++ m) = true
  | 0, a, h => ⟨by simpa using hm, fun k hk => by simpa using h k (by omega)⟩
  | n + 1, a, h => by
    obtain ⟨hs, ha⟩ := run_append_sorted g b m hm n (a + 1) (fun k hk => h k (by omega))
    simp only [List.range'_succ, List.map_cons, List.cons_append, Store.sorted, Store.above, Bool.and_eq_true, decide_eq_true_eq]
    exact ⟨⟨ha _ (by omega), hs⟩, fun k hk => ⟨hk, ha k (by omega)⟩⟩

/-- No word of the factory's set is an erased one. -/
theorem factoryWord_ne_erased (i : Nat) : Cal.factoryWord i ≠ Flash.erased := by
  unfold Cal.factoryWord Flash.erased
  split
  · decide
  · split
    · decide
    · exact Nat.ne_of_lt (Nat.mod_lt _ (by decide))

/-- What follows the factory's set in the flash: its CRC, unless that equals an erased word. -/
theorem factoryCrc_wf (x : Nat) :
    Store.wf Flash.erased (if x = 2 ^ 32 - 1 then [] else [(0x80000 + Cal.setLength, x)]) = true ∧
    ∀ k, k < 0x80000 + Cal.setLength → Store.above k (if x = 2 ^ 32 - 1 then [] else [(0x80000 + Cal.setLength, x)]) = true := by
  split
  · exact ⟨rfl, fun _ _ => rfl⟩
  next hx =>
    have hx : x ≠ Flash.erased := hx
    exact ⟨by simp [Store.wf, Store.sorted, Store.above, hx], fun k hk => by simpa [Store.above]⟩

theorem factoryFlash_wf : Store.wf Flash.erased Cal.factoryFlash = true := by
  unfold Cal.factoryFlash
  obtain ⟨hwf, habove⟩ := factoryCrc_wf (Flash.crc32c Cal.factorySet)
  simp only [Store.wf, Bool.and_eq_true] at hwf
  obtain ⟨hsorted, hall⟩ := hwf
  rw [List.range_eq_range', Store.wf, Bool.and_eq_true]
  refine ⟨(run_append_sorted _ _ _ hsorted _ 0 habove).1, ?_⟩
  rw [List.all_append, hall, Bool.and_true]
  simp [factoryWord_ne_erased]

theorem canonical_reset : canonical State.reset := ⟨rfl, rfl, factoryFlash_wf⟩

/-- Settles O4: the table is empty, so every field reads the value of its field map; the flash is the factory's. -/
theorem resetState : Obligations.ResetState := by
  unfold Obligations.ResetState
  refine ⟨canonical_reset, rfl, rfl, rfl, rfl, rfl, rfl, rfl, rfl, rfl, rfl, rfl, rfl, rfl, rfl, rfl, rfl, rfl, rfl, rfl, rfl, rfl,
    rfl, ?_, ?_, ?_⟩
  · exact fun n t => ⟨reset_get_zero rfl rfl n t 0, reset_get_zero rfl rfl n t 0⟩
  · exact fun n => ⟨reset_get_zero rfl rfl n 0 0, reset_on_false rfl rfl n 0 0, reset_on_false rfl rfl n 0 0⟩
  · exact fun i => reset_get_zero rfl rfl i 0 0

end Sys2Proof.Proofs

/-! SUPPORT. Accesses that name no register, and requests before the host interface opens (O8; R8, R358, R381). -/
namespace Sys2Proof.Proofs
open Sys2Proof Sys2Proof.Machine Sys2Proof.Laws

variable {s t : State} {m a v be : Nat}

/-! ### A command that changes no register -/

theorem changed_self : ∀ n (l : Store Nat), Peer.changed n l l = []
  | 0, _ => rfl
  | n + 1, [] => rfl
  | n + 1, (k, v) :: l => by simp [Peer.changed, changed_self n l]

/-- The pair is told nothing of a command that changed no register. -/
theorem mirror_same_csr (h : t.csr = s.csr) : Peer.mirror s t = t := by
  simp [Peer.mirror, h, changed_self, State.eachOf]

/-- The interrupt summary is formed from the register table alone. -/
theorem summary_congr (h : t.csr = s.csr) : t.summary = s.summary := by
  cases s
  cases t
  cases h
  rfl

/-- No interrupt output follows from a command that changed no register. -/
theorem settle_same_csr (h : t.csr = s.csr) : settle s t = t := by
  simp [settle, summary_congr h]

theorem doneMirrored_same_csr (h : t.csr = s.csr) : Access.doneMirrored s t = .next t := by
  simp [Access.doneMirrored, done, mirror_same_csr h, settle_same_csr h]

/-! ### The host functions -/

theorem closed_of_open (h : s.on F.SYS_STAT_HOST_OPEN = true) : Access.closed s m = false := by
  simp [Access.closed, h]

theorem closed_of_shut (h1 : 1 ≤ m) (h8 : m ≤ 8) (h : s.on F.SYS_STAT_HOST_OPEN = false) : Access.closed s m = true := by
  simp [Access.closed, Access.isFunction, h, h1, h8]

/-- A whole dword written into BAR0 once the interface is open. -/
theorem access_write_open (h : s.on F.SYS_STAT_HOST_OPEN = true) (hbe : be % 16 = 15) (ha : a < 0x1000000) :
    Access.write m a v be s = Reset.write ⟨m, false⟩ a (v % 2 ^ 32) s := by
  simp [Access.write, closed_of_open h, hbe, Access.bar2, Nat.not_le.mpr ha]

/-- A dword read from BAR0 once the interface is open, of a block that is not in soft reset. -/
theorem access_read_open (h : s.on F.SYS_STAT_HOST_OPEN = true) (ha : a < 0x1000000) (hr : Bus.inReset s a = false) :
    Access.read m a s = (Bus.read ⟨m, false⟩ a s).2.emit (.readData m a (Bus.read ⟨m, false⟩ a s).1) := by
  simp [Access.read, closed_of_open h, Access.bar2, Nat.not_le.mpr ha, Bus.fetch, hr]

theorem access_write_partial (h : s.on F.SYS_STAT_HOST_OPEN = true) (hbe : be % 16 ≠ 15) : Access.write m a v be s = s := by
  simp [Access.write, closed_of_open h, hbe]

theorem access_write_shut (h1 : 1 ≤ m) (h8 : m ≤ 8) (h : s.on F.SYS_STAT_HOST_OPEN = false) :
    Access.write m a v be s = s.emit (.unsupported (m - 1) a) := by
  simp [Access.write, closed_of_shut h1 h8 h]

theorem access_read_shut (h1 : 1 ≤ m) (h8 : m ≤ 8) (h : s.on F.SYS_STAT_HOST_OPEN = false) :
    Access.read m a s = s.emit (.unsupported (m - 1) a) := by
  simp [Access.read, closed_of_shut h1 h8 h]

/-! ### Offsets that no register has -/

theorem read_unnamed (who : Pmc.Who) (h : locate (canonAddr a) = none) :
    Bus.read who a s = (0, Pmc.event 572 1 (some who) (some a) s) := by
  simp [Bus.read, h]

theorem write_unnamed (who : Pmc.Who) (h : locate (canonAddr a) = none) (hr : Bus.inReset s a = false) (hs : Bus.stopped s a = false) :
    Reset.write who a v s = Pmc.event 572 1 (some who) (some a) s := by
  simp [Reset.write, h, Bus.write, hr, hs, Bus.perform]

/-- What a count writes, and what a command's completion writes after it, are `countedParts`. -/
theorem mem_countedParts (x : Part) (h : CountedPart x ∨ x = .msix) : x ∈ countedParts := by
  rcases h with h | rfl
  · cases x with
    | qdr => simp [countedParts]
    | fld f =>
      simp only [CountedPart, counters, List.mem_cons, List.not_mem_nil, or_false] at h
      rcases h with rfl | rfl | rfl | rfl | rfl | rfl | rfl | rfl | rfl | rfl | rfl <;>
        simp [countedParts, Footprint.counted, Footprint.sampled]
    | _ => exact h.elim
  · simp [countedParts]

/-- A command that only counts an access keeps everything else. -/
theorem counted_keeps (h : Moves CountedPart s t) : Keeps countedParts s (settle s (Peer.mirror s t)) := by
  have hm : Moves (· ∈ countedParts) s t := h.mono (fun x hx => mem_countedParts x (.inl hx))
  have hs := settle_moves (mem_countedParts _ (.inr rfl)) s (Peer_mirror_moves s hm)
  exact hs.keeps ⟨.vlk, by simp [countedParts, Footprint.counted, Footprint.sampled]⟩

/-- Settles O8: an unnamed offset comes to the count of the access, the other requests to at most one completion. -/
theorem unnamedAndClosedAccesses : Obligations.UnnamedAndClosedAccesses := by
  unfold Obligations.UnnamedAndClosedAccesses
  refine ⟨?_, ?_, ?_, ?_⟩
  · intro s m a _ _ ho ha hn hr
    have e : Access.read m a s = (Pmc.event 572 1 (some ⟨m, false⟩) (some a) s).emit (.readData m a 0) := by
      rw [access_read_open ho ha hr, read_unnamed _ hn]
    refine runs_mirrored (u := Access.read m a s) rfl ⟨settle_mem _ _ (mirror_mem _ _ ?_), counted_keeps ?_⟩
    · simp [e]
    · exact e ▸ (event_moved s 572 1 _ _).emit _
  · intro s m a v _ _ ho ha hn hr hs
    have e : Access.write m a v 15 s = Pmc.event 572 1 (some ⟨m, false⟩) (some a) s := by
      rw [access_write_open ho rfl ha, write_unnamed _ hn hr hs]
    exact runs_mirrored (u := Access.write m a v 15 s) rfl (counted_keeps (e ▸ event_moved s 572 1 _ _))
  · intro s m a v be _ _ ho hbe
    refine ⟨s, ?_, rfl⟩
    change Access.doneMirrored s (Access.write m a v be s) = _
    rw [access_write_partial ho hbe, doneMirrored_same_csr rfl]
  · intro s m a v be h1 h8 hc
    constructor
    · refine ⟨_, ?_, rfl⟩
      change Access.doneMirrored s (Access.write m a v be s) = _
      rw [access_write_shut h1 h8 hc, doneMirrored_same_csr (State_emit_csr s _)]
    · refine ⟨_, ?_, rfl⟩
      change Access.doneMirrored s (Access.read m a s) = _
      rw [access_read_shut h1 h8 hc, doneMirrored_same_csr (State_emit_csr s _)]

end Sys2Proof.Proofs

/-! SUPPORT. The register map: every element of every register is found at its BAR0 offset (R380), and no two fields of the map are held under
one key. Both rest on one finite check of the map, register by register (`placed`, `laidOut`). -/
namespace Sys2Proof.Proofs
open Sys2Proof Sys2Proof.Machine Sys2Proof.Laws

/-! ### The elements of one register -/

/-- Each index steps over all that the later ones reach; an index without a step has one value. -/
def spaced (s : Shape) : Bool :=
  (decide (s.d1 = 0 ∧ s.n1 = 1) || decide ((s.n2 - 1) * s.d2 + (s.n3 - 1) * s.d3 < s.d1)) &&
  (decide (s.d2 = 0 ∧ s.n2 = 1) || decide ((s.n3 - 1) * s.d3 < s.d2)) &&
  (decide (s.d3 = 0 ∧ s.n3 = 1) || decide (0 < s.d3))

/-- An index comes back from its offset: by division, or because there is only one. -/
theorem index_of_offset {d n i r : Nat} (h : (d = 0 ∧ n = 1) ∨ r < d) (hi : i < n) :
    (if d = 0 then 0 else (i * d + r) / d) = i := by
  rcases h with ⟨rfl, rfl⟩ | h
  · rw [if_pos rfl]
    omega
  · have hd : 0 < d := by omega
    rw [if_neg (by omega), Nat.mul_comm, Nat.mul_add_div hd, Nat.div_eq_of_lt h, Nat.add_zero]

theorem find_at {s : Shape} {i j k : Nat} (hs : spaced s = true) (h : s.has i j k = true) : s.find (s.at i j k) = some (i, j, k) := by
  simp only [spaced, Bool.and_eq_true, Bool.or_eq_true, decide_eq_true_eq] at hs
  obtain ⟨⟨h1, h2⟩, h3⟩ := hs
  have hh := h
  simp only [Shape.has, Bool.and_eq_true, decide_eq_true_eq] at hh
  obtain ⟨⟨hi, hj⟩, hk⟩ := hh
  have bj := Nat.mul_le_mul_right s.d2 (Nat.le_sub_one_of_lt hj)
  have bk := Nat.mul_le_mul_right s.d3 (Nat.le_sub_one_of_lt hk)
  have ei := index_of_offset (r := j * s.d2 + k * s.d3) (h1.imp_right (fun _ => by omega)) hi
  have ej := index_of_offset (r := k * s.d3) (h2.imp_right (fun _ => by omega)) hj
  have ek := index_of_offset (r := 0) h3 hk
  have e0 : s.at i j k - s.addr = i * s.d1 + (j * s.d2 + k * s.d3) := by unfold Shape.at; omega
  unfold Shape.find
  rw [if_neg (by unfold Shape.at; omega)]
  dsimp only
  rw [e0, ei, Nat.add_sub_cancel_left, ej, Nat.add_sub_cancel_left, ← Nat.add_zero (k * s.d3), ek]
  simp [h]

/-- A step times the quotient by it, where there is a step, is no more than the offset. -/
theorem quotient_mul_le (d o : Nat) : (if d = 0 then 0 else o / d) * d ≤ o := by
  split
  · simp
  · exact Nat.div_mul_le_self o d

theorem find_some {s : Shape} {a i j k : Nat} (h : s.find a = some (i, j, k)) : s.has i j k = true ∧ a = s.at i j k := by
  unfold Shape.find at h
  dsimp only at h
  have q1 := quotient_mul_le s.d1 (a - s.addr)
  generalize (if s.d1 = 0 then 0 else (a - s.addr) / s.d1) = x at h q1
  have q2 := quotient_mul_le s.d2 (a - s.addr - x * s.d1)
  generalize (if s.d2 = 0 then 0 else (a - s.addr - x * s.d1) / s.d2) = y at h q2
  have q3 := quotient_mul_le s.d3 (a - s.addr - x * s.d1 - y * s.d2)
  generalize (if s.d3 = 0 then 0 else (a - s.addr - x * s.d1 - y * s.d2) / s.d3) = z at h q3
  split at h
  · cases h
  · split at h
    next hc =>
      cases h
      simp only [Bool.and_eq_true, decide_eq_true_eq] at hc
      obtain ⟨hhas, hend⟩ := hc
      refine ⟨hhas, ?_⟩
      unfold Shape.at
      omega
    · cases h

/-- The last address of a register's elements. -/
def lastAddr (s : Shape) : Nat := s.at (s.n1 - 1) (s.n2 - 1) (s.n3 - 1)

/-- A field at the place of a register, by which what is known of keys says it of addresses. -/
def placeOf (s : Shape) : Machine.Field := fld s 0 32 .ro

theorem at_le_lastAddr {s : Shape} {i j k : Nat} (h : s.has i j k = true) : s.at i j k ≤ lastAddr s := by
  have hk : s.at i j k * 8 + 0 ≤ lastAddr s * 8 + 0 := key_le_lastKey (f := placeOf s) h
  omega

theorem addr_le_at (s : Shape) (i j k : Nat) : s.addr ≤ s.at i j k := by
  unfold Shape.at
  omega

/-! ### The registers around an address -/

/-- `regsAround` as a table: the registers below each bound. -/
def banks : List (Nat × List RegId) :=
  [(0x10000, blockRegsSYS), (0x1C000, blockRegsBOOT), (0x30000, blockRegsLCM), (0x100000, blockRegsPWR), (0x240000, blockRegsMBX),
   (0x280000, blockRegsPMC), (0x290000, blockRegsHKA), (0x2A0000, blockRegsFLT), (0x2B0000, blockRegsCAL), (0x300000, blockRegsBST),
   (0x340000, blockRegsCRY), (0x400000, blockRegsSYN), (0x480000, blockRegsHSL), (0x4C0000, blockRegsFLW), (0x500000, blockRegsQDM),
   (0x580000, blockRegsFRM), (0x600000, blockRegsFEC), (0x680000, blockRegsLTX), (0x700000, blockRegsLRX), (0x740000, blockRegsSCM),
   (0x780000, blockRegsBRX), (0x7C0000, blockRegsVLK), (0x7E0000, blockRegsCVT), (0x7F0000, blockRegsLSR), (0x800000, blockRegsPEER),
   (0x1000000, []), (0x1103000, blockRegsENG)]

/-- The registers of the first bank whose bound lies above the address. -/
def pickBank : List (Nat × List RegId) → Nat → List RegId
  | [], _ => blockRegsENG ++ blockRegsSE
  | (x, l) :: rest, a => if a < x then l else pickBank rest a

/-- How many banks lie below the address. -/
def bankNumber : List (Nat × List RegId) → Nat → Nat
  | [], _ => 0
  | (x, _) :: rest, a => if a < x then 0 else bankNumber rest a + 1

theorem regsAround_eq (a : Nat) : regsAround a = pickBank banks a := rfl

theorem bankNumber_mono {a b : Nat} (h : a ≤ b) : ∀ l, bankNumber l a ≤ bankNumber l b
  | [] => Nat.le_refl _
  | (x, _) :: rest => by
    have := bankNumber_mono h rest
    simp only [bankNumber]
    split <;> split <;> omega

theorem pickBank_congr {a b : Nat} : ∀ l, bankNumber l a = bankNumber l b → pickBank l a = pickBank l b
  | [], _ => rfl
  | (x, _) :: rest, h => by
    simp only [bankNumber, pickBank] at h ⊢
    split at h <;> split at h
    · simp [*]
    · omega
    · omega
    · simpa [*] using pickBank_congr rest (Nat.succ.inj h)

/-- Between two addresses at most one bound apart, the registers around are those around one of the two. -/
theorem regsAround_between {a b c : Nat} (hab : a ≤ b) (hbc : b ≤ c) (h : bankNumber banks c ≤ bankNumber banks a + 1) :
    regsAround b = regsAround a ∨ regsAround b = regsAround c := by
  have h1 := bankNumber_mono hab banks
  have h2 := bankNumber_mono hbc banks
  rcases (by omega : bankNumber banks b = bankNumber banks a ∨ bankNumber banks b = bankNumber banks c) with e | e
  · exact .inl (pickBank_congr banks e)
  · exact .inr (pickBank_congr banks e)

/-! ### The check of the map -/

/-- How far the inner indices reach. -/
def innerReach (s : Shape) : Nat := (s.n2 - 1) * s.d2 + (s.n3 - 1) * s.d3

/-- Registers of one window each, like those of the engines: within a common stride of the first index their elements lie apart. -/
def interleaved (s s' : Shape) : Bool :=
  let d := Nat.gcd s.d1 s'.d1
  decide (s.addr % d + innerReach s < d ∧ s'.addr % d + innerReach s' < d ∧
    (s.addr % d + innerReach s < s'.addr % d ∨ s'.addr % d + innerReach s' < s.addr % d))

/-- No element of one register stands at the place of an element of the other. -/
def asunder (s s' : Shape) : Bool := apart (placeOf s) (placeOf s') || interleaved s s'

theorem at_mod {s : Shape} {d i j k : Nat} (hd : d ∣ s.d1) (hw : s.addr % d + innerReach s < d) (h : s.has i j k = true) :
    s.addr % d ≤ s.at i j k % d ∧ s.at i j k % d ≤ s.addr % d + innerReach s := by
  simp only [Shape.has, Bool.and_eq_true, decide_eq_true_eq] at h
  obtain ⟨⟨-, hj⟩, hk⟩ := h
  have bj := Nat.mul_le_mul_right s.d2 (Nat.le_sub_one_of_lt hj)
  have bk := Nat.mul_le_mul_right s.d3 (Nat.le_sub_one_of_lt hk)
  obtain ⟨q, hq⟩ := hd
  have e : s.at i j k % d = s.addr % d + (j * s.d2 + k * s.d3) := by
    have e1 : s.at i j k = s.addr + (j * s.d2 + k * s.d3) + d * (i * q) := by
      unfold Shape.at
      rw [hq]
      ring
    rw [e1, Nat.add_mul_mod_self_left, Nat.add_mod, Nat.mod_eq_of_lt (a := j * s.d2 + k * s.d3), Nat.mod_eq_of_lt]
    all_goals
      unfold innerReach at hw
      omega
  rw [e]
  unfold innerReach
  omega

theorem at_ne_of_asunder {s s' : Shape} {i j k i' j' k' : Nat} (h : asunder s s' = true) (hs : s.has i j k = true)
    (hs' : s'.has i' j' k' = true) : s.at i j k ≠ s'.at i' j' k' := by
  intro e
  simp only [asunder, Bool.or_eq_true] at h
  rcases h with h | h
  · exact key_ne (f := placeOf s) (g := placeOf s') h hs hs' (congrArg (fun a => a * 8 + 0) e)
  · simp only [interleaved, decide_eq_true_eq] at h
    obtain ⟨h1, h2, h3⟩ := h
    have m1 := at_mod (Nat.gcd_dvd_left _ _) h1 hs
    have m2 := at_mod (Nat.gcd_dvd_right _ _) h2 hs'
    rw [e] at m1
    omega

/-- The register is in the list, and no other register of the list meets it. -/
def alone (r : RegId) (l : List RegId) : Bool := l.contains r && l.all (fun q => q == r || asunder r.shape q.shape)

/-- All addresses from `a` to `b` lie in one stretch of BAR0 that `canonAddr` maps in one way, below the end of registers. -/
def oneWindow (a b : Nat) : Bool :=
  decide (b < 0x1C000) || decide (0x20000 ≤ a ∧ b < 0x100000) || decide (0x200000 ≤ a ∧ b < 0x800000) ||
  decide (0x1000000 ≤ a ∧ b < 0x1104000)

/-- Every base and every step is a whole number of dwords. -/
def dwordAligned (s : Shape) : Bool := decide (s.addr % 4 = 0 ∧ s.d1 % 4 = 0 ∧ s.d2 % 4 = 0 ∧ s.d3 % 4 = 0)

/-- The register stands where the lookup finds it, and alone. -/
def placed (r : RegId) : Bool :=
  spaced r.shape && dwordAligned r.shape && oneWindow r.shape.addr (lastAddr r.shape) &&
  decide (bankNumber banks (lastAddr r.shape) ≤ bankNumber banks r.shape.addr + 1) &&
  alone r (regsAround r.shape.addr) && alone r (regsAround (lastAddr r.shape))

/-- The fields of the register have its shape, lie within its dword and follow each other without meeting. -/
def laidOut (r : RegId) : Bool :=
  r.fields.all (fun f => decide (f.shape = r.shape ∧ 0 < f.width ∧ f.lo + f.width ≤ 32)) &&
  decide (r.fields.Pairwise (fun f g => f.lo + f.width ≤ g.lo))

theorem all_placed (r : RegId) : placed r = true := by
  cases r
  all_goals decide +kernel

theorem all_laidOut (r : RegId) : laidOut r = true := by
  cases r
  all_goals decide +kernel

/-! ### The lookup finds every element -/

/-- A search in which one member of the list answers, and no other does. -/
theorem findSome_of_only {α β : Type} {p : α → Option β} {r : α} {b : β} (hb : p r = some b) :
    ∀ {l : List α}, r ∈ l → (∀ q ∈ l, q ≠ r → p q = none) → l.findSome? p = some b
  | x :: l, hr, ho => by
    by_cases hx : x = r
    · simp [hx, hb]
    · rw [List.findSome?_cons, ho x List.mem_cons_self hx]
      exact findSome_of_only hb ((List.mem_cons.mp hr).resolve_left (Ne.symm hx)) (fun q hq => ho q (List.mem_cons_of_mem _ hq))

section
variable {r q : RegId} {i j k x y z : Nat}

/-- Around an element of a register stands the register, alone. -/
theorem alone_at (h : r.shape.has i j k = true) : alone r (regsAround (r.shape.at i j k)) = true := by
  have hp := all_placed r
  simp only [placed, Bool.and_eq_true, decide_eq_true_eq] at hp
  obtain ⟨⟨⟨-, hbank⟩, hfirst⟩, hlast⟩ := hp
  rcases regsAround_between (addr_le_at _ i j k) (at_le_lastAddr h) hbank with e | e
  · rwa [e]
  · rwa [e]

theorem locate_at (h : r.shape.has i j k = true) : locate (r.shape.at i j k) = some (r, i, j, k) := by
  have hp := all_placed r
  simp only [placed, Bool.and_eq_true] at hp
  obtain ⟨⟨⟨⟨⟨hspaced, -⟩, -⟩, -⟩, -⟩, -⟩ := hp
  have ha := alone_at h
  simp only [alone, Bool.and_eq_true, List.contains_iff_mem, List.all_eq_true, Bool.or_eq_true, beq_iff_eq] at ha
  obtain ⟨hmem, hothers⟩ := ha
  refine findSome_of_only (by rw [find_at hspaced h]; rfl) hmem (fun q hq hne => ?_)
  cases hf : q.shape.find (r.shape.at i j k) with
  | none => rfl
  | some e =>
    obtain ⟨x, y, z⟩ := e
    obtain ⟨hq', he⟩ := find_some hf
    exact absurd he (at_ne_of_asunder ((hothers q hq).resolve_left hne) h hq')

theorem barAddr_eq (r : RegId) (i j k : Nat) :
    r.barAddr i j k =
      if r.shape.at i j k < engineWindow then r.shape.at i j k
      else if r.shape.at i j k < engineWindow + 64 * 0x4000 then 0x100000 + (r.shape.at i j k - engineWindow)
      else 0x1C000 + (r.shape.at i j k - (engineWindow + 64 * 0x4000)) := rfl

/-- `canonAddr` undoes `barAddr` in the windows that the registers lie in, and their offsets lie below the end of registers. -/
theorem canonAddr_barAddr (h : r.shape.has i j k = true) :
    canonAddr (r.barAddr i j k) = r.shape.at i j k ∧ r.barAddr i j k < 0x800000 := by
  have hp := all_placed r
  simp only [placed, oneWindow, Bool.and_eq_true, Bool.or_eq_true, decide_eq_true_eq] at hp
  obtain ⟨⟨⟨⟨-, hwindow⟩, -⟩, -⟩, -⟩ := hp
  have h1 := addr_le_at r.shape i j k
  have h2 := at_le_lastAddr h
  rw [barAddr_eq]
  unfold canonAddr engineWindow
  generalize r.shape.at i j k = a at *
  split_ifs <;> omega

/-- The decoder finds every element of every register at its BAR0 offset (R380). -/
theorem locate_barAddr (h : r.shape.has i j k = true) : locate (canonAddr (r.barAddr i j k)) = some (r, i, j, k) := by
  rw [(canonAddr_barAddr h).1, locate_at h]

theorem barAddr_lt (h : r.shape.has i j k = true) : r.barAddr i j k < 0x1000000 :=
  Nat.lt_trans (canonAddr_barAddr h).2 (by decide)

/-! ### Keys -/

theorem at_dword (r : RegId) (i j k : Nat) : r.shape.at i j k % 4 = 0 := by
  have hp := all_placed r
  simp only [placed, dwordAligned, Bool.and_eq_true, decide_eq_true_eq] at hp
  obtain ⟨⟨⟨⟨⟨-, h0, h1, h2, h3⟩, -⟩, -⟩, -⟩, -⟩ := hp
  simp [Shape.at, Nat.add_mod, Nat.mul_mod, h0, h1, h2, h3]

variable {f g : Machine.Field}

theorem field_shape (hf : f ∈ r.fields) : f.shape = r.shape := by
  have hl := all_laidOut r
  simp only [laidOut, Bool.and_eq_true, List.all_eq_true, decide_eq_true_eq] at hl
  exact (hl.1 f hf).1

theorem field_bits (hf : f ∈ r.fields) : 0 < f.width ∧ f.lo + f.width ≤ 32 := by
  have hl := all_laidOut r
  simp only [laidOut, Bool.and_eq_true, List.all_eq_true, decide_eq_true_eq] at hl
  exact (hl.1 f hf).2

theorem fields_ascend (r : RegId) : r.fields.Pairwise (fun f g => f.lo + f.width ≤ g.lo) := by
  have hl := all_laidOut r
  simp only [laidOut, Bool.and_eq_true, decide_eq_true_eq] at hl
  exact hl.2

/-- Two fields of one register begin at different bits. -/
theorem field_eq_of_lo (hf : f ∈ r.fields) (hg : g ∈ r.fields) (h : f.lo = g.lo) : f = g := by
  have hnodup : (r.fields.map Field.lo).Nodup :=
    List.pairwise_map.mpr ((fields_ascend r).imp_of_mem (fun {a b} ha _ hab => by
      have := (field_bits ha).1
      omega))
  exact List.inj_on_of_nodup_map hnodup hf hg h

/-- Two fields of the register map meet under one key only where they are one field of one element. -/
theorem field_eq_of_key (hf : f ∈ r.fields) (hg : g ∈ q.fields) (hr : r.shape.has i j k = true) (hq : q.shape.has x y z = true)
    (h : f.key i j k = g.key x y z) : r = q ∧ (i, j, k) = (x, y, z) ∧ f = g := by
  have bf := field_bits hf
  have bg := field_bits hg
  have a1 := at_dword r i j k
  have a2 := at_dword q x y z
  simp only [Field.key, field_shape hf, field_shape hg] at h
  have hat : r.shape.at i j k = q.shape.at x y z := by omega
  have hl := locate_at hr
  rw [hat, locate_at hq] at hl
  simp only [Option.some.injEq, Prod.mk.injEq] at hl
  obtain ⟨rfl, rfl, rfl, rfl⟩ := hl
  exact ⟨rfl, rfl, field_eq_of_lo hf hg (by omega)⟩

end

end Sys2Proof.Proofs

/-! SUPPORT. A read of a register that shows its fields as they stand (O7; R7, R381): the dword holds every field at its place, and the RC
fields are cleared under keys that no other field has. -/
namespace Sys2Proof.Proofs
open Sys2Proof Sys2Proof.Machine Sys2Proof.Laws

/-! ### The fields of a dword -/

/-- A dword made of fields that follow each other is what it began with and a multiple of where they begin. -/
theorem dword_above {v : Machine.Field → Nat} {n : Nat} :
    ∀ {l : List Machine.Field}, (∀ f ∈ l, n ≤ f.lo) → ∀ a, ∃ q, l.foldl (fun a f => a + v f * 2 ^ f.lo) a = a + 2 ^ n * q
  | [], _, a => ⟨0, by simp⟩
  | f :: l, h, a => by
    obtain ⟨d, hd⟩ := Nat.exists_eq_add_of_le (h f List.mem_cons_self)
    obtain ⟨q, hq⟩ := dword_above (v := v) (fun g hg => h g (List.mem_cons_of_mem _ hg)) (a + v f * 2 ^ f.lo)
    refine ⟨v f * 2 ^ d + q, ?_⟩
    rw [List.foldl_cons, hq, hd, Nat.pow_add]
    ring

/-- The bits of a field, between what lies below it and what lies above it. -/
theorem slice_between {a x q lo w : Nat} (ha : a < 2 ^ lo) (hx : x < 2 ^ w) : slice (a + x * 2 ^ lo + 2 ^ (lo + w) * q) lo w = x := by
  have e : a + x * 2 ^ lo + 2 ^ (lo + w) * q = a + 2 ^ lo * (x + 2 ^ w * q) := by
    rw [Nat.pow_add]
    ring
  rw [slice, Nat.shiftRight_eq_div_pow, e, Nat.add_mul_div_left _ _ (Nat.two_pow_pos lo), Nat.div_eq_of_lt ha, Nat.zero_add,
    Nat.add_mul_mod_self_left, Nat.mod_eq_of_lt hx]

/-- Of fields that follow each other, each is found at its place in their dword. -/
theorem slice_dword {v : Machine.Field → Nat} {f : Machine.Field} :
    ∀ {l : List Machine.Field}, l.Pairwise (fun f g => f.lo + f.width ≤ g.lo) → (∀ g ∈ l, v g < 2 ^ g.width) → f ∈ l →
      ∀ a, (∀ g ∈ l, a < 2 ^ g.lo) → slice (l.foldl (fun a f => a + v f * 2 ^ f.lo) a) f.lo f.width = v f
  | g :: l, hp, hv, hf, a, ha => by
    obtain ⟨hg, hl⟩ := List.pairwise_cons.mp hp
    have hag := ha g List.mem_cons_self
    have hvg := hv g List.mem_cons_self
    rw [List.foldl_cons]
    rcases List.mem_cons.mp hf with rfl | hf
    · obtain ⟨q, hq⟩ := dword_above (v := v) hg (a + v f * 2 ^ f.lo)
      rw [hq, slice_between hag hvg]
    · refine slice_dword hl (fun x hx => hv x (List.mem_cons_of_mem _ hx)) hf _ (fun x hx => ?_)
      calc a + v g * 2 ^ g.lo
          < 2 ^ g.lo + v g * 2 ^ g.lo := Nat.add_lt_add_right hag _
        _ = (v g + 1) * 2 ^ g.lo := by ring
        _ ≤ 2 ^ g.width * 2 ^ g.lo := Nat.mul_le_mul_right _ hvg
        _ = 2 ^ (g.lo + g.width) := by rw [← Nat.pow_add, Nat.add_comm]
        _ ≤ 2 ^ x.lo := Nat.pow_le_pow_right (by decide) (hg x hx)

section
variable {s : State} {r q : RegId} {f g : Machine.Field} {i j k x y z : Nat}

/-- With no write stored, a field shows as it stands, and a write-only field as 0 (R7). -/
theorem shownField_live (s : State) (f : Machine.Field) (i j k : Nat) :
    Bus.shownField s none f i j k = if f.access = .wo then 0 else s.get f i j k := by
  unfold Bus.shownField
  cases f.access <;> rfl

/-- The dword of a register holds every field at its place. -/
theorem slice_fieldsWord (hf : f ∈ r.fields) :
    slice (Bus.fieldsWord s none r i j k) f.lo f.width = if f.access = .wo then 0 else s.get f i j k := by
  rw [← shownField_live, Bus.fieldsWord]
  refine slice_dword (v := fun f => Bus.shownField s none f i j k) (fields_ascend r) (fun g _ => ?_) hf 0
    (fun g _ => Nat.two_pow_pos _)
  rw [shownField_live]
  split
  · exact Nat.two_pow_pos _
  · exact State_get_lt ..

/-! ### What clears on a read -/

theorem State_get_put_key_ne {v : Nat} (h : f.shape.has i j k = true → g.shape.has x y z = true → f.key i j k ≠ g.key x y z) :
    (s.put f v i j k).get g x y z = s.get g x y z := by
  unfold State.get State.put
  split
  next hg =>
    split
    next hf => rw [Store_get_put_ne (h hf hg).symm]
    · rfl
  · rfl

/-- Clearing fields leaves alone what is held under none of their keys. -/
theorem cleared_get_ne :
    ∀ {l : List Machine.Field} {s : State},
      (∀ f ∈ l, f.shape.has i j k = true → g.shape.has x y z = true → f.key i j k ≠ g.key x y z) →
      (s.eachOf l (fun f t => t.clr f i j k)).get g x y z = s.get g x y z
  | [], _, _ => rfl
  | f :: _, s, h =>
    (cleared_get_ne (s := s.clr f i j k) (fun e he => h e (List.mem_cons_of_mem _ he))).trans
      (State_get_put_key_ne (h f List.mem_cons_self))

/-- A field of the list reads 0 when its element has been cleared, where the fields of the list have keys of their own. -/
theorem cleared_get_mem :
    ∀ {l : List Machine.Field} {s : State}, f ∈ l → f.shape.has i j k = true → (∀ e ∈ l, e ≠ f → e.key i j k ≠ f.key i j k) →
      (s.eachOf l (fun f t => t.clr f i j k)).get f i j k = 0
  | e :: l, s, hf, hh, hk => by
    by_cases hl : f ∈ l
    · exact cleared_get_mem (s := s.clr e i j k) hl hh (fun d hd => hk d (List.mem_cons_of_mem _ hd))
    · obtain rfl : f = e := (List.mem_cons.mp hf).resolve_right hl
      refine (cleared_get_ne (s := s.clr f i j k) (fun d hd _ _ => ?_)).trans ?_
      · exact hk d (List.mem_cons_of_mem _ hd) (fun hdf => hl (hdf ▸ hd))
      · rw [State.clr, State_get_put_same _ _ _ _ _ _ hh, Nat.zero_mod]

/-- The fields of a register that a read clears. -/
def rcFields (r : RegId) : List Machine.Field := r.fields.filter (fun f => f.access == .rc)

theorem mem_rcFields : f ∈ rcFields r ↔ f ∈ r.fields ∧ f.access = .rc := by simp [rcFields]

/-- A read clears the RC fields of the element that is read and leaves its other fields. -/
theorem readClear_get_own (hf : f ∈ r.fields) (hr : r.shape.has i j k = true) :
    (s.eachOf (rcFields r) (fun f t => t.clr f i j k)).get f i j k = if f.access = .rc then 0 else s.get f i j k := by
  have hk : ∀ e ∈ rcFields r, e ≠ f → e.key i j k ≠ f.key i j k := fun e he hne h =>
    hne (field_eq_of_key (mem_rcFields.mp he).1 hf hr hr h).2.2
  split
  next ha => exact cleared_get_mem (mem_rcFields.mpr ⟨hf, ha⟩) (field_shape hf ▸ hr) hk
  next ha => exact cleared_get_ne (fun e he _ _ => hk e he (fun h => ha (h ▸ (mem_rcFields.mp he).2)))

/-- A read clears no field of another access code, of whatever register. -/
theorem readClear_get_other (hg : g ∈ q.fields) (ha : g.access ≠ .rc) :
    (s.eachOf (rcFields r) (fun f t => t.clr f i j k)).get g x y z = s.get g x y z := by
  refine cleared_get_ne (fun f hf hfh hgh h => ha ?_)
  obtain ⟨hfr, hfa⟩ := mem_rcFields.mp hf
  obtain ⟨-, -, rfl⟩ := field_eq_of_key hfr hg (field_shape hfr ▸ hfh) (field_shape hg ▸ hgh) h
  exact hfa

/-! ### A read over the bus -/

theorem shown_ordinary (h : r ∉ ownReads) (m a i j k : Nat) (s : State) :
    Bus.shown m a r i j k s = Bus.fieldsWord s (Bus.storedWrite s a) r i j k := by
  unfold Bus.shown
  split
  rotate_right
  · rfl
  all_goals exact absurd (by decide) h

theorem clearOnRead_ordinary (h : r ∉ ownReads) (i j k : Nat) (s : State) :
    Bus.clearOnRead r i j k s = s.eachOf (rcFields r) (fun f t => t.clr f i j k) := by
  unfold Bus.clearOnRead
  split
  · exact absurd (by decide) h
  · rfl

/-- A register outside `ownReads` answers its fields and clears its RC fields. -/
theorem readReg_ordinary (h : r ∉ ownReads) (who : Pmc.Who) (a i j k : Nat) (s : State) :
    Bus.readReg who a r i j k s =
      (Bus.fieldsWord s (Bus.storedWrite s a) r i j k, s.eachOf (rcFields r) (fun f t => t.clr f i j k)) := by
  unfold Bus.readReg
  split
  rotate_right
  · rw [shown_ordinary h, clearOnRead_ordinary h]
  all_goals exact absurd (by decide) h

/-- The count of an access changes no field of a register outside `ownReads`, and no RW or RWL field at all. -/
def countSpares (r : RegId) : Bool :=
  r.fields.all (fun f => uncounted f || (decide (r ∈ ownReads) && !(f.access == .rw || f.access == .rwl)))

theorem all_countSpares (r : RegId) : countSpares r = true := by
  cases r
  all_goals decide +kernel

theorem uncounted_ordinary (h : r ∉ ownReads) (hf : f ∈ r.fields) : uncounted f = true := by
  have hc := List.all_eq_true.mp (all_countSpares r) f hf
  simpa [h] using hc

theorem uncounted_rw (hf : f ∈ r.fields) (ha : f.access = .rw ∨ f.access = .rwl) : uncounted f = true := by
  have hc := List.all_eq_true.mp (all_countSpares r) f hf
  rcases ha with ha | ha <;> simpa [ha] using hc

/-- Settles O7: the access comes to the register's fields, the clearing of its RC fields and the count of the access. -/
theorem readsFollowTheAccessCodes : Obligations.ReadsFollowTheAccessCodes := by
  unfold Obligations.ReadsFollowTheAccessCodes
  intro s m i j k r f hr hf hh _ _ ho hheld hreset
  have hstored : Bus.storedWrite s (r.barAddr i j k) = none := by simp [Bus.storedWrite, hheld]
  have hread : Bus.read ⟨m, false⟩ (r.barAddr i j k) s = (Bus.fieldsWord s none r i j k,
      Pmc.access (520 + 2 * Sys.blockOf (r.barAddr i j k)) ⟨m, false⟩ (r.barAddr i j k) s
        (s.eachOf (rcFields r) (fun f t => t.clr f i j k))) := by
    rw [← hstored, Bus.read, locate_barAddr hh]
    simp only [readReg_ordinary hr]
  refine runs_mirrored (u := Access.read m (r.barAddr i j k) s) rfl ?_
  rw [access_read_open ho (barAddr_lt hh) hreset, hread]
  refine ⟨⟨_, settle_mem _ _ (mirror_mem _ _ List.mem_cons_self), slice_fieldsWord hf⟩, ?_, fun q g x y z hg ha => ?_⟩
  · rw [settle_get, mirror_get, State_emit_get, access_get _ _ _ _ _ f i j k (uncounted_ordinary hr hf), readClear_get_own hf hh]
  · rw [settle_get, mirror_get, State_emit_get, access_get _ _ _ _ _ g x y z (uncounted_rw hg ha), readClear_get_other hg]
    rcases ha with ha | ha <;> simp [ha]

end

end Sys2Proof.Proofs

/-! SUPPORT. Two statements that fail, each by one register whose write the model treats apart: SYN.HO_AGE[0] while it is learned (O6; R238),
and SYS.RESET in a SYS that is in soft reset (O22; R354, R356). -/
namespace Sys2Proof.Proofs
open Sys2Proof Sys2Proof.Machine Sys2Proof.Laws

/-- What is said of a command that completes with the mirror records holds of the one state it leaves. -/
theorem of_runs_mirrored {c : Instr} {s u : State} {p : State → Prop} (e : exec c s = Access.doneMirrored s u) (h : runs c s p) :
    p (settle s (Peer.mirror s u)) := by
  obtain ⟨t, ht, hp⟩ := h
  have ht' : settle s (Peer.mirror s u) = t := Host.Outcome.next.inj (e.symm.trans ht)
  exact ht' ▸ hp

/-- The machine after reset with the host interface open and AGE_MODE 2: a1 of the aging model is learned. -/
def ageLearned : State := (State.reset.set F.SYS_STAT_HOST_OPEN).put F.SYN_HO_MODE_AGE_MODE 2

/-- A host write of a1 is ignored while a1 is learned, though HO_AGE is an RW register. -/
theorem ageLearned_ignores_write :
    (Access.write 1 (RegId.barAddr .SYN_HO_AGE 0 0 0) 1 15 ageLearned).get F.SYN_HO_AGE_A = 0 := by decide +kernel

/-- Refutes O6: HO_AGE is not among `ownWrites`, and in AGE_MODE 2 a write of 1 to the RW field HO_AGE[0].A leaves it 0. -/
theorem not_writesFollowTheAccessCodes : ¬ Obligations.WritesFollowTheAccessCodes := by
  unfold Obligations.WritesFollowTheAccessCodes
  intro h
  have hw := of_runs_mirrored rfl (h ageLearned 1 1 0 0 0 .SYN_HO_AGE F.SYN_HO_AGE_A (by decide) (by decide) (by decide) (by decide)
    (by decide) (by decide) (by decide))
  obtain ⟨hrw, -⟩ := hw
  have h1 := hrw rfl
  rw [settle_get, mirror_get, ageLearned_ignores_write] at h1
  exact absurd h1 (by decide)

/-- After a device reset no access waits. -/
theorem device_held (warm : Bool) (cause : Nat) (s : State) : (Reset.device warm cause s).held = [] := by
  unfold Reset.device
  dsimp only
  generalize Reset.tornSlice _ = u
  have hf : ∀ f, Part.fld f ≠ .held := fun _ => nofun
  have hm : Moves (· ≠ .held) (Reset.clear warm u)
      (Bst.refresh (Syn.refresh ((Reset.clear warm u).put F.SYS_RST_CAUSE_SRC cause))) :=
    Bst_refresh_moves (hf _) (hf _) (hf _) (hf _) (hf _) (hf _)
      (Syn_refresh_moves (hf _) (hf _) (hf _) (hf _) (hf _) (hf _) (hf _) (hf _) (Moves.refl.put _ _ _ _ _ (hf _)))
  exact hm.untouched_held (not_not.mpr rfl)

/-- A write of SYS.RESET with its key resets the device, whether or not the write itself waits. -/
theorem write_reset_key (who : Pmc.Who) {v : Nat} (s : State) (hk : Reset.warmKey v = true) :
    Reset.write who 0x20 v s = Reset.warm (Bus.write who 0x20 v s) := by
  have hl : locate (canonAddr 0x20) = some (.SYS_RESET, 0, 0, 0) := by decide
  simp [Reset.write, hl, hk]

/-- The machine after reset with the host interface open and SYS in soft reset. -/
def sysInReset : State := (State.reset.set F.SYS_STAT_HOST_OPEN).put F.SYS_SOFT_RST_BLK 1

/-- Refutes O22, by its second clause: with SYS in soft reset, function F0 writes SYS.RESET with its key. The write does not wait behind the
others, it resets the device at once, and nothing waits any more. -/
theorem not_registerAccessResults : ¬ Obligations.RegisterAccessResults := by
  unfold Obligations.RegisterAccessResults
  rintro ⟨-, hheld, -⟩
  have ho : sysInReset.on F.SYS_STAT_HOST_OPEN = true := by decide
  have hw := of_runs_mirrored rfl (hheld sysInReset 1 0x20 0xA5C30001 15 (by decide) (by decide) ho rfl (by decide) (by decide))
  rw [settle_held, mirror_held, access_write_open ho rfl (by decide), write_reset_key _ _ (by decide), Reset.warm, device_held] at hw
  exact List.append_ne_nil_of_right_ne_nil _ (List.cons_ne_nil _ _) hw.symm

end Sys2Proof.Proofs

/-! SUPPORT. The step of the block (O1), and what a flag, a bit of a map or a counter reads after a named write. -/
namespace Sys2Proof.Proofs
open Sys2Proof Sys2Proof.Machine Sys2Proof.Laws

variable {s t : State} {f g : Machine.Field} {a b i j k m n x y z : Nat}

/-- Settles O1: the queue's front decides the step; with none waiting nothing changes. -/
theorem stepRunsTheFrontCommand : Obligations.StepRunsTheFrontCommand := by
  unfold Obligations.StepRunsTheFrontCommand
  refine ⟨fun s c rest => rfl, fun s hs => ?_⟩
  unfold Machine.step
  rw [hs]

/-! ### Flags, maps of bits and counters -/

theorem sub_two_pow_testBit : ∀ {b n : Nat} (_ : n.testBit b = true) (a : Nat), (n - 2 ^ b).testBit a = (n.testBit a && a != b)
  | 0, n, h, 0 => by
    simp only [Nat.testBit_zero, decide_eq_true_eq] at h
    simp only [Nat.testBit_zero, bne_self_eq_false, Bool.and_false, decide_eq_false_iff_not]
    omega
  | 0, n, h, a + 1 => by
    simp only [Nat.testBit_zero, decide_eq_true_eq] at h
    have hn : (n - 1) / 2 = n / 2 := by omega
    simp [Nat.testBit_succ, hn]
  | b + 1, n, h, 0 => by
    have hn : (n - 2 ^ (b + 1)) % 2 = 1 ↔ n % 2 = 1 := by
      have hle : 2 ^ (b + 1) ≤ n := Nat.ge_two_pow_of_testBit h
      rw [Nat.pow_succ] at hle ⊢
      omega
    simp [hn]
  | b + 1, n, h, a + 1 => by
    rw [Nat.testBit_succ] at h
    have hn : (n - 2 ^ (b + 1)) / 2 = n / 2 - 2 ^ b := by
      rw [Nat.pow_succ]
      omega
    rw [Nat.testBit_succ, hn, sub_two_pow_testBit h a, Nat.testBit_succ]
    simp

theorem withoutBit_testBit (n b a : Nat) : (withoutBit n b).testBit a = (n.testBit a && a != b) := by
  unfold withoutBit
  split
  next h => exact sub_two_pow_testBit h a
  next h =>
    rcases eq_or_ne a b with rfl | hab
    · simpa using h
    · simp [hab]

theorem withBit_testBit (n b a : Nat) : (withBit n b).testBit a = (n.testBit a || a == b) := by
  rw [withBit, Nat.testBit_or, Nat.testBit_shiftLeft]
  rcases eq_or_ne a b with rfl | hab
  · simp
  · have : (decide (a ≥ b) && Nat.testBit 1 (a - b)) = false := by
      rw [Bool.and_eq_false_iff, decide_eq_false_iff_not, Bool.eq_false_iff, ne_eq, Nat.testBit_one_eq_true_iff_self_eq_zero]
      omega
    simp [this, hab]

theorem bit_above (h : f.width ≤ b) : s.bit f b i j k = false :=
  Nat.testBit_lt_two_pow (Nat.lt_of_lt_of_le (State_get_lt s f i j k) (Nat.pow_le_pow_right (by decide) h))

theorem width_of_bit (h : s.bit f b i j k = true) : b < f.width :=
  Nat.lt_of_not_le fun hb => absurd (h.symm.trans (bit_above hb)) (by decide)

theorem on_set (hf : f.shape.has i j k = true) (hw : 0 < f.width) : (s.set f i j k).on f i j k = true := by
  have h1 : 1 < 2 ^ f.width := Nat.one_lt_two_pow (Nat.ne_of_gt hw)
  simp [State.on, State.set, State_get_put_same _ _ _ _ _ _ hf, Nat.mod_eq_of_lt h1]

theorem get_clr : (s.clr f i j k).get f i j k = 0 := by
  by_cases hf : f.shape.has i j k = true
  · rw [State.clr, State_get_put_same _ _ _ _ _ _ hf, Nat.zero_mod]
  · simp [State.get, hf]

theorem on_clr : (s.clr f i j k).on f i j k = false := by simp [State.on, get_clr]

theorem bit_setBit (hf : f.shape.has i j k = true) (hb : b < f.width) :
    (s.setBit f b i j k).bit f a i j k = (s.bit f a i j k || a == b) := by
  rw [State.bit, State.setBit, State_get_put_same _ _ _ _ _ _ hf, Nat.testBit_mod_two_pow, withBit_testBit]
  by_cases ha : a < f.width
  · simp [ha, State.bit]
  · have hab : a ≠ b := by omega
    simp [ha, hab, bit_above (Nat.le_of_not_lt ha)]

theorem bit_setBit_of_bit (h : s.bit f a i j k = true) : (s.setBit f b i j k).bit f a i j k = true := by
  by_cases hf : f.shape.has i j k = true
  · rw [State.bit, State.setBit, State_get_put_same _ _ _ _ _ _ hf, Nat.testBit_mod_two_pow, withBit_testBit]
    have ha := width_of_bit h
    rw [State.bit] at h
    simp [h, ha]
  · simp [State.bit, State.get, hf] at h

theorem bit_clrBit : (s.clrBit f b i j k).bit f a i j k = (s.bit f a i j k && a != b) := by
  by_cases hf : f.shape.has i j k = true
  · rw [State.bit, State.clrBit, State_get_put_same _ _ _ _ _ _ hf, Nat.testBit_mod_two_pow, withoutBit_testBit]
    by_cases ha : a < f.width
    · simp [ha, State.bit]
    · simp [ha, bit_above (Nat.le_of_not_lt ha)]
  · simp [State.bit, State.get, hf]

theorem get_count (hf : f.shape.has i j k = true) : (s.count f n i j k).get f i j k = min (2 ^ f.width - 1) (s.get f i j k + n) := by
  have hlt : min (2 ^ f.width - 1) (s.get f i j k + n) < 2 ^ f.width :=
    Nat.lt_of_le_of_lt (Nat.min_le_left _ _) (Nat.sub_one_lt (Nat.two_pow_pos _).ne')
  have hmost : atMost (2 ^ f.width - 1) (s.get f i j k + n) = min (2 ^ f.width - 1) (s.get f i j k + n) := by
    unfold atMost
    split <;> omega
  rw [State.count, State_get_put_same _ _ _ _ _ _ hf, hmost, Nat.mod_eq_of_lt hlt]

/-! A field apart from the one that is written reads as before. -/

theorem get_put_ne (h : apart f g = true) : (s.put f n i j k).get g x y z = s.get g x y z := State_get_put_ne s f g n i j k x y z h
theorem get_set_ne (h : apart f g = true) : (s.set f i j k).get g x y z = s.get g x y z := get_put_ne h
theorem get_clr_ne (h : apart f g = true) : (s.clr f i j k).get g x y z = s.get g x y z := get_put_ne h
theorem get_setBit_ne (h : apart f g = true) : (s.setBit f b i j k).get g x y z = s.get g x y z := get_put_ne h

theorem get_put_other (hf : Field.plain f = true) (h : n ≠ m) : (s.put f a m).get f n = s.get f n := by
  rw [State_get_put_index _ _ _ _ _ _ _ _ _ hf, if_neg (fun hc => h hc.2.1.symm)]

theorem Store_find_put_same (d v : Nat) (l l' : Store Nat) (n : Nat) : Store.find n (Store.put d l n v) = Store.find n (Store.put d l' n v) := by
  unfold Store.put
  split <;> simp

/-- A write makes no difference to two states that read alike. -/
theorem get_put_congr (h : t.get g x y z = s.get g x y z) : (t.put f n i j k).get g x y z = (s.put f n i j k).get g x y z := by
  by_cases hk : f.shape.has i j k = true ∧ g.shape.has x y z = true ∧ f.key i j k = g.key x y z
  · obtain ⟨hf, hg, hkey⟩ := hk
    simp only [State.get, State.put, hf, hg, if_true, Store.get, hkey]
    rw [Store_find_put_same]
  · have hne : f.shape.has i j k = true → g.shape.has x y z = true → f.key i j k ≠ g.key x y z := fun hf hg he => hk ⟨hf, hg, he⟩
    rw [State_get_put_key_ne hne, State_get_put_key_ne hne, h]

/-- A flag or a bit reads alike where its field does. -/
theorem on_congr (h : t.get f i j k = s.get f i j k) : t.on f i j k = s.on f i j k := by rw [State.on, h, State.on]
theorem bit_congr (h : t.get f i j k = s.get f i j k) : t.bit f b i j k = s.bit f b i j k := by rw [State.bit, h, State.bit]

/-- What one round of a loop makes true, and no round undoes, holds after it. -/
theorem eachOf_makes {α : Type} {p : State → Prop} {round : α → State → State} {x : α} {l : List α} (hx : x ∈ l)
    (hmake : ∀ t, p (round x t)) (hkeep : ∀ y t, p t → p (round y t)) (s : State) : p (s.eachOf l round) := by
  have hrest : ∀ (l : List α) (t : State), p t → p (t.eachOf l round) := fun l => by
    induction l with
    | nil => exact fun _ h => h
    | cons y l ih => exact fun t h => ih _ (hkeep y t h)
  obtain ⟨before, after, rfl⟩ := List.append_of_mem hx
  rw [State.eachOf, List.foldl_append]
  exact hrest after _ (hmake _)

/-- The same for a loop over the numbers below n that meet a condition. -/
theorem each_makes {p : State → Prop} {c : Nat → Bool} {round : Nat → State → State} (ha : a < n) (hc : c a = true)
    (hmake : ∀ t, p (round a t)) (hkeep : ∀ b t, p t → p (round b t)) (s : State) :
    p (s.each n (fun b t => if c b then round b t else t)) := by
  refine eachOf_makes (List.mem_range.mpr ha) (fun t => ?_) (fun b t h => ?_) s
  · rw [if_pos hc]
    exact hmake t
  · split
    · exact hkeep b t h
    · exact h

end Sys2Proof.Proofs

/-! SUPPORT. The operations of PWR that the slack monitors call: what each leaves alone, and what a hard-margin action comes to (R14 to R20). -/
namespace Sys2Proof.Proofs
open Sys2Proof Sys2Proof.Machine Sys2Proof.Laws

variable {s t : State} {f g : Machine.Field} {a b i j k m n now : Nat}

/-! ### What the operations of PWR leave alone -/

theorem Pwr_event_get (h : apart F.PWR_INT_CAUSE_SLACK g = true) : (Pwr.event s).get g i j k = s.get g i j k := get_set_ne h

theorem Pwr_event_on : (Pwr.event s).on F.PWR_INT_CAUSE_SLACK = true := on_set (by decide) (by decide)

theorem system_get (h : uncounted g = true) : (Pmc.system n s).get g i j k = s.get g i j k := event_get s n 4 none none g i j k h

theorem recovered_get (h : apart H.PWR_LOW g = true) : (Pwr.recovered m s).get g i j k = s.get g i j k :=
  (Pwr_recovered_moves (W := Misses g) h m .refl).get_misses

/-- A field that taking down a slack leaves alone. -/
def unobserved (g : Machine.Field) : Bool := [F.PWR_SLACK_LVL_MIN, F.PWR_SLACK_LVL_NOW, H.PWR_LOW].all (fun f => apart f g)

theorem misses_of_unobserved (h : unobserved g = true) :
    Misses g (.fld F.PWR_SLACK_LVL_MIN) ∧ Misses g (.fld F.PWR_SLACK_LVL_NOW) ∧ Misses g (.fld H.PWR_LOW) := by
  simpa [unobserved, Misses, and_assoc] using h

theorem observe_get (h : unobserved g = true) : (Pwr.observe m now s).get g i j k = s.get g i j k := by
  obtain ⟨hmin, hnow, hlow⟩ := misses_of_unobserved h
  exact (Pwr_observe_moves hmin hnow hlow m now .refl).get_misses

theorem observeAll_get (levels : List Nat) (h : unobserved g = true) : (Pwr.observeAll levels s).get g i j k = s.get g i j k := by
  obtain ⟨hmin, hnow, hlow⟩ := misses_of_unobserved h
  exact (Pwr_observeAll_moves hmin hnow hlow levels .refl).get_misses

/-- A field that a request over AVSBus leaves alone. -/
def unrequested (g : Machine.Field) : Bool :=
  [F.PWR_AVS_READ_BUSY, F.PWR_VMIN_VREQ_MV, H.PWR_TARGET, H.PWR_VMIN_ASKED].all (fun f => apart f g)

theorem request_get {v : Nat} (h : unrequested g = true) : (Pwr.request v s).get g i j k = s.get g i j k := by
  obtain ⟨hbusy, hreq, htarget, hasked⟩ : Misses g (.fld F.PWR_AVS_READ_BUSY) ∧ Misses g (.fld F.PWR_VMIN_VREQ_MV) ∧
      Misses g (.fld H.PWR_TARGET) ∧ Misses g (.fld H.PWR_VMIN_ASKED) := by simpa [unrequested, Misses, and_assoc] using h
  exact (Pwr_request_moves hbusy hreq htarget hasked v .refl).get_misses

/-- The fields of the list are apart from a part. -/
def spares (l : List Machine.Field) : Part → Bool
  | .fld f => l.all (fun g => apart f g)
  | .arr f => l.all (fun g => decide (lastKey g < f.range.1 ∨ f.range.2 ≤ g.key 0 0 0))
  | _ => true

/-- The parts that the fields of the list are apart from. -/
abbrev Sparing (l : List Machine.Field) : Part → Prop := fun x => spares l x = true

theorem get_of_sparing {l : List Machine.Field} (h : Moves (Sparing l) s t) (hg : g ∈ l) : t.get g i j k = s.get g i j k := by
  refine (h.mono (V := Misses g) fun x hx => ?_).get_misses
  cases x with
  | fld f => exact List.all_eq_true.mp hx g hg
  | arr f => exact of_decide_eq_true (p := lastKey g < f.range.1 ∨ f.range.2 ≤ g.key 0 0 0) (List.all_eq_true.mp hx g hg)
  | _ => trivial

/-- Parts other than the mute sources. -/
abbrev noMute : Part → Prop := Sparing [F.LTX_STAT_MUTE_SRC]

theorem source1_of_noMute (h : Moves noMute s t) : t.bit F.LTX_STAT_MUTE_SRC 1 = s.bit F.LTX_STAT_MUTE_SRC 1 :=
  bit_congr (get_of_sparing h (by decide))

/-- PREFILL's end takes nothing of the bridges. -/
theorem leavePrefill_get (hg : g ∈ [H.PWR_PREFILLED, H.PWR_ARMED]) : (Lrx.leavePrefill s).get g i j k = s.get g i j k := by
  refine get_of_sparing (l := [H.PWR_PREFILLED, H.PWR_ARMED]) ?_ hg
  apply Lrx_leavePrefill_moves (h := .refl) <;> rfl

/-- What the monitors count, and their alarms. -/
def alarmFields : List Machine.Field :=
  [F.PWR_SLACK_LVL_UNDERRUN, F.PWR_SLACK_LVL_HARD_CNT, F.PWR_SLACK_STAT_HARD, F.PWR_INT_CAUSE_SLACK]

/-- The flags of SAFE_STAT that show an action in force. -/
def safeFlags : List Machine.Field := [F.PWR_SAFE_STAT_TX_MUTED, F.PWR_SAFE_STAT_RX_SAFE, F.PWR_SAFE_STAT_UP_SAFE, F.PWR_SAFE_STAT_PEER_HELD]

def slackFields : List Machine.Field := alarmFields ++ safeFlags

theorem peerHeld_get (hg : g ∈ slackFields) : (Peer.held s).get g i j k = s.get g i j k := by
  refine get_of_sparing ?_ hg
  apply Peer_held_moves (h := .refl) <;> rfl

theorem takeActions_get (hg : g ∈ alarmFields) : (Pwr.takeActions m s).get g i j k = s.get g i j k := by
  refine get_of_sparing ?_ hg
  apply Pwr_takeActions_moves (h := .refl) <;> rfl

/-! ### Bridges and their monitors -/

theorem has_cfg (hm : m < 16) : S.PWR_SLACK_CFG.has m 0 0 = true := by
  simp [Shape.has, S.PWR_SLACK_CFG, shape1, hm]

theorem has_level (hm : m < 16) : S.PWR_SLACK_LVL.has m 0 0 = true := by
  simp [Shape.has, S.PWR_SLACK_LVL, shape1, hm]

theorem has_bridge (hb : b < 646) : H.PWR_PREFILLED.shape.has b 0 0 = true := by
  simp [Shape.has, H.PWR_PREFILLED, fld, shape1, hb]

theorem all_ite {c : Prop} [Decidable c] {x y : Option Nat} {p : Nat → Bool} (hx : x.all p = true) (hy : y.all p = true) :
    (if c then x else y).all p = true := by
  split
  · exact hx
  · exact hy

/-- Table PWR-1 names no monitor above 15. -/
theorem bridgeMonitor_lt (mode : Nat → Nat) (b : Nat) : (Pwr.bridgeMonitor mode b).all (· < 16) = true := by
  have hburst : (some (if mode b = 3 ∨ mode b = 4 then 11 else 12)).all (· < 16) = true := by
    split
    · rfl
    · rfl
  have hinternal (c : Nat) : ([some 2, some 3, some 4, some 5, some 6, some 13].getD c none).all (· < 16) = true := by
    rcases Nat.lt_or_ge c 6 with hc | hc
    · interval_cases c <;> rfl
    · rw [List.getD_eq_default _ _ hc]
      rfl
  exact all_ite hburst (all_ite rfl (all_ite rfl (all_ite rfl (all_ite rfl (all_ite rfl (all_ite rfl (all_ite rfl (all_ite rfl
    (all_ite rfl (hinternal _))))))))))

theorem monitorOf_lt (h : Pwr.monitorOf s b = some m) : m < 16 := by
  have hlt := bridgeMonitor_lt (Pwr.usMode s) b
  rw [← Pwr.monitorOf, h] at hlt
  exact of_decide_eq_true hlt

/-- Which monitor watches a bridge follows from the role and the active tables alone. -/
theorem monitorOf_congr (hrole : t.get F.SYS_ROLE_ROLE = s.get F.SYS_ROLE_ROLE) (htx : ∀ k, t.get H.LTX_ACTIVE k = s.get H.LTX_ACTIVE k)
    (hrx : ∀ k, t.get H.LRX_ACTIVE k = s.get H.LRX_ACTIVE k) : Pwr.monitorOf t b = Pwr.monitorOf s b := by
  have hmode : Pwr.usMode t = Pwr.usMode s := funext fun k => by simp [Pwr.usMode, State.leaf, hrole, htx, hrx]
  rw [Pwr.monitorOf, hmode, Pwr.monitorOf]

theorem prefill_of_running (hr : Pwr.running s b = true) (hm : Pwr.monitorOf s b = some m) :
    Pwr.prefill b s = (s.set H.PWR_PREFILLED b).setBit H.PWR_ARMED m := by
  have hm' : Pwr.monitorOf (s.set H.PWR_PREFILLED b) b = some m := by
    rw [← hm]
    exact monitorOf_congr (get_set_ne (by decide)) (fun _ => get_set_ne (by decide)) (fun _ => get_set_ne (by decide))
  rw [Pwr.prefill, if_pos hr]
  simp only [hm']

/-- BRIDGE_PREFILLED. -/
theorem bridgePrefilled_runs (hb : b < 646) (hr : Pwr.running s b = true) (hm : Pwr.monitorOf s b = some m) :
    runs (.bridgePrefilled b) s (fun t => t.on H.PWR_PREFILLED b = true ∧ t.bit H.PWR_ARMED m = true) := by
  refine runs_done (u := Lrx.leavePrefill (Pwr.prefill b s)) rfl ⟨?_, ?_⟩
  · rw [on_congr (settle_get ..), on_congr (leavePrefill_get (by decide)), prefill_of_running hr hm,
      on_congr (get_setBit_ne (by decide)), on_set (has_bridge hb) (by decide)]
  · rw [bit_congr (settle_get ..), bit_congr (leavePrefill_get (by decide)), prefill_of_running hr hm,
      bit_setBit rfl (monitorOf_lt hm), beq_self_eq_true, Bool.or_true]

/-! ### The hard-margin actions -/

/-- The flag of an action. -/
def actionFlag : Nat → Machine.Field
  | 0 => F.PWR_SAFE_STAT_TX_MUTED
  | 1 => F.PWR_SAFE_STAT_RX_SAFE
  | 2 => F.PWR_SAFE_STAT_UP_SAFE
  | _ => F.PWR_SAFE_STAT_PEER_HELD

theorem actionFlag_mem : ∀ a, actionFlag a ∈ safeFlags
  | 0 => .head _
  | 1 => .tail _ (.head _)
  | 2 => .tail _ (.tail _ (.head _))
  | _ + 3 => .tail _ (.tail _ (.tail _ (.head _)))

theorem inForce_eq (ha : a < 4) (s : State) : Pwr.inForce s a = s.on (actionFlag a) := by
  interval_cases a <;> rfl

theorem safeFlags_apart (hf : f ∈ safeFlags) (hg : g ∈ safeFlags) : f = g ∨ apart f g = true :=
  (by decide : ∀ f ∈ safeFlags, ∀ g ∈ safeFlags, f = g ∨ apart f g = true) f hf g hg

theorem safeFlag_on_set (hf : f ∈ safeFlags) : (s.set f).on f = true := by
  obtain ⟨hh, hw⟩ := (by decide : ∀ f ∈ safeFlags, f.shape.has 0 0 0 = true ∧ 0 < f.width) f hf
  exact on_set hh hw

theorem safeFlag_on_set_of_on (hf : f ∈ safeFlags) (hg : g ∈ safeFlags) (h : s.on g = true) : (s.set f).on g = true := by
  rcases safeFlags_apart hf hg with rfl | hfg
  · exact safeFlag_on_set hf
  · rw [on_congr (get_set_ne hfg), h]

theorem safeFlag_off_clr_of_off (hf : f ∈ safeFlags) (hg : g ∈ safeFlags) (h : s.on g = false) : (s.clr f).on g = false := by
  rcases safeFlags_apart hf hg with rfl | hfg
  · exact on_clr
  · rw [on_congr (get_clr_ne hfg), h]

/-- Of the flags, taking an action sets its own. -/
theorem takeAction_flags (hg : g ∈ safeFlags) : ∀ b, (Pwr.takeAction b s).get g = (s.set (actionFlag b)).get g
  | 0 => get_put_congr (get_of_sparing (Ltx_mute_moves (W := Sparing safeFlags) rfl rfl 1 (.clrBit _ _ _ _ rfl .refl)) hg)
  | 1 => get_put_congr (get_of_sparing (l := safeFlags) (.clrBit _ _ _ _ rfl .refl) hg)
  | 2 => (get_of_sparing (Brx_safe_moves (W := Sparing safeFlags) rfl rfl rfl rfl rfl rfl .refl) hg).trans
      (get_put_congr (get_of_sparing (l := safeFlags) (.clrBit _ _ _ _ rfl .refl) hg))
  | _ + 3 => get_put_congr (get_of_sparing (l := safeFlags) (.clrBit _ _ _ _ rfl .refl) hg)

/-- Of the flags, ending an action clears its own. -/
theorem endAction_flags (hg : g ∈ safeFlags) : ∀ b, (Pwr.endAction b s).get g = (s.clr (actionFlag b)).get g
  | 0 => get_of_sparing (l := safeFlags) (s := s.clr (actionFlag 0))
      (Ltx_resume_moves (W := Sparing safeFlags) rfl (Ltx_unmute_moves (W := Sparing safeFlags) rfl 1 .refl)) hg
  | 1 | 2 | _ + 3 => rfl

/-- The transmit mute is mute source 1. -/
theorem takeAction_mutes : (Pwr.takeAction 0 s).bit F.LTX_STAT_MUTE_SRC 1 = true := by
  rw [Pwr.takeAction, Ltx.mute, bit_congr (get_set_ne (by decide)), bit_congr (get_clr_ne (by decide)),
    bit_setBit (by decide) (by decide), beq_self_eq_true, Bool.or_true]

/-- No action that is taken ends the source. -/
theorem takeAction_keeps_mute (h : s.bit F.LTX_STAT_MUTE_SRC 1 = true) : ∀ b, (Pwr.takeAction b s).bit F.LTX_STAT_MUTE_SRC 1 = true
  | 0 => takeAction_mutes
  | 1 | _ + 3 => (source1_of_noMute (.set _ _ _ rfl (.clrBit _ _ _ _ rfl .refl))).trans h
  | 2 => (source1_of_noMute (Brx_safe_moves rfl rfl rfl rfl rfl rfl (.set _ _ _ rfl (.clrBit _ _ _ _ rfl .refl)))).trans h

theorem takeAction_on (b : Nat) (hg : g ∈ safeFlags) (h : s.on g = true) : (Pwr.takeAction b s).on g = true := by
  rw [on_congr (takeAction_flags hg b)]
  exact safeFlag_on_set_of_on (actionFlag_mem b) hg h

theorem takeAction_on_own (a : Nat) (s : State) : (Pwr.takeAction a s).on (actionFlag a) = true := by
  rw [on_congr (takeAction_flags (actionFlag_mem a) a)]
  exact safeFlag_on_set (actionFlag_mem a)

/-- Every action that Table PWR-1 gives the monitor is in force (R20). -/
theorem takeActions_taken (m : Nat) (s : State) : actionsTaken (Pwr.takeActions m s) m := by
  refine ⟨fun a ha hm => ?_, fun hm => ?_⟩
  · rw [inForce_eq ha]
    exact each_makes (p := fun t => t.on (actionFlag a) = true) ha hm (takeAction_on_own a)
      (fun b t h => takeAction_on b (actionFlag_mem a) h) s
  · exact each_makes (p := fun t => t.bit F.LTX_STAT_MUTE_SRC 1 = true) (by decide) hm (fun t => takeAction_mutes)
      (fun b t h => takeAction_keeps_mute h b) s

/-! ### The peer hold's end of the link touches no mute source but the host's -/

theorem setMute_source1 {v : Nat} : (Ltx.setMute v s).bit F.LTX_STAT_MUTE_SRC 1 = s.bit F.LTX_STAT_MUTE_SRC 1 := by
  have hput : (s.put F.LTX_CTRL_MUTE v).bit F.LTX_STAT_MUTE_SRC 1 = s.bit F.LTX_STAT_MUTE_SRC 1 :=
    bit_congr (get_put_ne (by decide))
  unfold Ltx.setMute
  split
  · rw [Ltx.mute, bit_congr (get_clr_ne (by decide)), bit_setBit (by decide) (by decide), hput]
    simp
  · rw [Ltx.unmute, bit_clrBit, hput]
    simp

theorem peerHold_source1 : (Peer.hold s).bit F.LTX_STAT_MUTE_SRC 1 = s.bit F.LTX_STAT_MUTE_SRC 1 := by
  unfold Peer.hold
  split
  · rfl
  · rw [setMute_source1]
    exact source1_of_noMute (.set _ _ _ rfl (.put _ _ _ _ _ rfl .refl))

theorem letGo_source1 : (Peer.letGo s).bit F.LTX_STAT_MUTE_SRC 1 = s.bit F.LTX_STAT_MUTE_SRC 1 := by
  unfold Peer.letGo
  split
  · rw [setMute_source1]
    exact source1_of_noMute (.clr _ _ _ rfl .refl)
  · rfl

theorem peerEnter_source1 : (Peer.enter n s).bit F.LTX_STAT_MUTE_SRC 1 = s.bit F.LTX_STAT_MUTE_SRC 1 := by
  have hstart : ((s.put F.PEER_STAT_STATE n).set F.PEER_INT_CAUSE_STATE_CHG).bit F.LTX_STAT_MUTE_SRC 1 = s.bit F.LTX_STAT_MUTE_SRC 1 :=
    source1_of_noMute (.set _ _ _ rfl (.put _ _ _ _ _ rfl .refl))
  unfold Peer.enter
  split
  · rfl
  · rw [source1_of_noMute (Lsr_laser_moves rfl rfl (.put _ _ _ _ _ rfl .refl))]
    split
    · rw [peerHold_source1, hstart]
    · split
      · exact hstart
      · rw [letGo_source1, hstart]

theorem linkFailed_source1 : (Peer.linkFailed s).bit F.LTX_STAT_MUTE_SRC 1 = s.bit F.LTX_STAT_MUTE_SRC 1 := by
  have hlink : Moves noMute s (((s.clr F.PEER_STAT_LINK).set F.PEER_INT_CAUSE_LINK_CHG).clr F.PEER_STAT_PHASE_OK) :=
    .clr _ _ _ rfl (.set _ _ _ rfl (.clr _ _ _ rfl .refl))
  have hreset : Moves noMute s (Mbx.masterReset 96 (((s.clr F.PEER_STAT_LINK).set F.PEER_INT_CAUSE_LINK_CHG).clr F.PEER_STAT_PHASE_OK)) := by
    apply Mbx_masterReset_moves (h := hlink) <;> rfl
  have hrefresh (u : State) : Moves noMute u (Syn.refresh u) := by
    apply Syn_refresh_moves (h := .refl) <;> rfl
  unfold Peer.linkFailed
  split
  · rfl
  · rw [source1_of_noMute (hrefresh _)]
    split
    · rw [peerEnter_source1, source1_of_noMute hreset]
    · rw [peerEnter_source1, source1_of_noMute hreset]
    · exact source1_of_noMute hreset

theorem peerHeld_source1 : (Peer.held s).bit F.LTX_STAT_MUTE_SRC 1 = s.bit F.LTX_STAT_MUTE_SRC 1 := by
  unfold Peer.held
  split
  · exact linkFailed_source1
  · rfl

/-- Actions stay taken where the flags and mute source 1 stand. -/
theorem actionsTaken_congr (hflags : ∀ g ∈ safeFlags, t.on g = s.on g)
    (hmute : t.bit F.LTX_STAT_MUTE_SRC 1 = s.bit F.LTX_STAT_MUTE_SRC 1) (h : actionsTaken s m) : actionsTaken t m := by
  obtain ⟨hforce, hsource⟩ := h
  refine ⟨fun a ha hm => ?_, fun hm => hmute.trans (hsource hm)⟩
  rw [inForce_eq ha, hflags _ (actionFlag_mem a), ← inForce_eq ha]
  exact hforce a ha hm

/-- A command that takes a monitor's actions completes with them taken, the peer hold's effect and the mirror records included. -/
theorem taken_completes (c u : State) (m : Nat) :
    actionsTaken (settle c (Peer.mirror c (Peer.held (Pwr.takeActions m u)))) m := by
  refine actionsTaken_congr (fun g hg => ?_) ?_ (takeActions_taken m u)
  · rw [on_congr (settle_get ..), on_congr (mirror_get ..), on_congr (peerHeld_get (List.mem_append_right alarmFields hg))]
  · rw [bit_congr (settle_get ..), bit_congr (mirror_get ..), peerHeld_source1]

/-- Nor do they change what the monitors have counted and alarmed. -/
theorem taken_completes_get (c u : State) (m : Nat) (hg : g ∈ alarmFields) :
    (settle c (Peer.mirror c (Peer.held (Pwr.takeActions m u)))).get g i j k = u.get g i j k := by
  rw [settle_get, mirror_get, peerHeld_get (List.mem_append_left safeFlags hg), takeActions_get hg]

end Sys2Proof.Proofs

/-! SUPPORT. The commands of the bridges and slack monitors where their conditions hold (O9, O23). -/
namespace Sys2Proof.Proofs
open Sys2Proof Sys2Proof.Machine Sys2Proof.Laws

variable {s t : State} {g : Machine.Field} {a b i j k m n now v : Nat} {levels : List Nat}

/-! ### Underflows, overflows and hard-margin crossings (R16, R20) -/

theorem armed_lt (h : Pwr.armed s m = true) : m < 16 := width_of_bit h

/-- A fault of a running, prefilled bridge: counted, alarmed, and the monitor's actions taken. -/
theorem bridgeFault_takes (hm : Pwr.monitorOf s b = some m) (ha : Pwr.armed s m = true) (hr : Pwr.running s b = true)
    (hp : s.on H.PWR_PREFILLED b = true) :
    ∃ u, Pwr.bridgeFault b s = Pwr.takeActions m u ∧
      u.get F.PWR_SLACK_LVL_UNDERRUN m = min 255 (s.get F.PWR_SLACK_LVL_UNDERRUN m + 1) ∧ u.bit F.PWR_SLACK_STAT_HARD m = true := by
  have hcount : ((Pwr.observe m 0 s).count F.PWR_SLACK_LVL_UNDERRUN 1 m).get F.PWR_SLACK_LVL_UNDERRUN m =
      min 255 (s.get F.PWR_SLACK_LVL_UNDERRUN m + 1) := by
    rw [get_count (has_level (armed_lt ha)), observe_get (by decide)]
    rfl
  refine ⟨_, by simp only [Pwr.bridgeFault, hm, ha, hr, hp, Bool.and_self, if_true]; rfl, ?_, ?_⟩
  · split
    · exact hcount
    · rw [Pwr_event_get (by decide), get_setBit_ne (by decide), hcount]
  · split
    next h => exact h
    next => rw [bit_congr (Pwr_event_get (by decide)), bit_setBit (by decide) (armed_lt ha), beq_self_eq_true, Bool.or_true]

/-- BRIDGE_UNDERFLOW and BRIDGE_OVERFLOW, which complete alike. -/
theorem bridgeFault_runs {c : Instr} (hc : exec c s = Access.doneMirrored s (Peer.held (Pwr.bridgeFault b s)))
    (hr : Pwr.running s b = true) (hp : s.on H.PWR_PREFILLED b = true) (hm : Pwr.monitorOf s b = some m) (ha : Pwr.armed s m = true) :
    runs c s (fun t => t.get F.PWR_SLACK_LVL_UNDERRUN m = min 255 (s.get F.PWR_SLACK_LVL_UNDERRUN m + 1) ∧
      t.bit F.PWR_SLACK_STAT_HARD m = true ∧ actionsTaken t m) := by
  obtain ⟨u, hu, hcount, hhard⟩ := bridgeFault_takes hm ha hr hp
  rw [hu] at hc
  refine runs_mirrored hc ⟨?_, ?_, taken_completes s u m⟩
  · rw [taken_completes_get s u m (by decide), hcount]
  · rw [bit_congr (taken_completes_get s u m (by decide)), hhard]

/-- HARD_MARGIN_CROSSING. -/
theorem hardMarginCrossing_runs (ha : Pwr.armed s m = true) (hnow : now ≤ s.get F.PWR_SLACK_CFG_HARD m) :
    runs (.hardMarginCrossing m now) s (fun t => t.get F.PWR_SLACK_LVL_HARD_CNT m = min 255 (s.get F.PWR_SLACK_LVL_HARD_CNT m + 1) ∧
      t.bit F.PWR_SLACK_STAT_HARD m = true ∧ t.on F.PWR_INT_CAUSE_SLACK = true ∧ actionsTaken t m) := by
  have hc : exec (.hardMarginCrossing m now) s = Access.doneMirrored s (Peer.held (Pwr.takeActions m (Pwr.event (Pmc.system (1232 + m)
      (((Pwr.observe m now s).count F.PWR_SLACK_LVL_HARD_CNT 1 m).setBit F.PWR_SLACK_STAT_HARD m))))) := by
    change Access.doneMirrored s (Peer.held (Pwr.hardCrossing m now s)) = _
    rw [Pwr.hardCrossing, if_pos (by simp [ha, hnow])]
  refine runs_mirrored hc ⟨?_, ?_, ?_, taken_completes ..⟩
  · rw [taken_completes_get _ _ _ (by decide), Pwr_event_get (by decide), system_get (by decide), get_setBit_ne (by decide),
      get_count (has_level (armed_lt ha)), observe_get (by decide)]
    rfl
  · rw [bit_congr (taken_completes_get _ _ _ (by decide)), bit_congr (Pwr_event_get (by decide)), bit_congr (system_get (by decide)),
      bit_setBit (by decide) (armed_lt ha), beq_self_eq_true, Bool.or_true]
  · rw [on_congr (taken_completes_get _ _ _ (by decide)), Pwr_event_on]

/-! ### Requests over AVSBus (R18, R19) -/

theorem request_target (h : v < 2 ^ 16) : (Pwr.request v s).get H.PWR_TARGET = v := by
  rw [Pwr.request, State_emit_get, get_set_ne (by decide), get_put_ne (by decide), get_clr_ne (by decide),
    State_get_put_same _ _ _ _ _ _ (by decide)]
  exact Nat.mod_eq_of_lt h

theorem request_busy : (Pwr.request v s).on F.PWR_AVS_READ_BUSY = true := by
  rw [Pwr.request, on_congr (State_emit_get ..), on_set (by decide) (by decide)]

theorem request_vreq : (Pwr.request v s).get F.PWR_VMIN_VREQ_MV = (v + 1) / 2 % 1024 := by
  rw [Pwr.request, State_emit_get, get_set_ne (by decide), State_get_put_same _ _ _ _ _ _ (by decide)]
  rfl

/-- The device makes slack-driven increases, and none is in progress. -/
def raises (s : State) : Bool :=
  s.on F.PWR_SLACK_CTRL_AVS_AUTO && !s.on F.PWR_SAFE_STAT_AVS_FAIL && !s.on F.PWR_SAFE_STAT_AVS_CEILING && !s.on F.PWR_AVS_READ_BUSY

/-- The three outcomes of AVS_INCREASE_REQUEST. -/
theorem increase_cases (s : State) :
    (raises s = true ∧ s.get H.PWR_TARGET + Pwr.stepHalfMv s ≤ 1700 ∧
      Pwr.increase s = Pmc.system 1248 (Pwr.request (s.get H.PWR_TARGET + Pwr.stepHalfMv s) s)) ∨
    (raises s = true ∧ 1700 < s.get H.PWR_TARGET + Pwr.stepHalfMv s ∧ Pwr.increase s = Pwr.event (s.set F.PWR_SAFE_STAT_AVS_CEILING)) ∨
    (raises s = false ∧ Pwr.increase s = s) := by
  by_cases hr : raises s = true
  · by_cases hle : s.get H.PWR_TARGET + Pwr.stepHalfMv s ≤ 1700
    · exact .inl ⟨hr, hle, (if_pos hr).trans (if_neg (Nat.not_lt.mpr hle))⟩
    · exact .inr (.inl ⟨hr, Nat.lt_of_not_le hle, (if_pos hr).trans (if_pos (Nat.lt_of_not_le hle))⟩)
  · exact .inr (.inr ⟨Bool.eq_false_iff.mpr hr, if_neg hr⟩)

/-- An increase ends no alarm. -/
theorem increase_low : (Pwr.increase s).bit F.PWR_SLACK_STAT_LOW m = s.bit F.PWR_SLACK_STAT_LOW m := by
  apply bit_congr
  rcases increase_cases s with ⟨-, -, h⟩ | ⟨-, -, h⟩ | ⟨-, h⟩ <;> rw [h]
  · rw [system_get (by decide), request_get (by decide)]
  · rw [Pwr_event_get (by decide), get_set_ne (by decide)]

theorem increase_cause (hs : s.on F.PWR_INT_CAUSE_SLACK = true) : (Pwr.increase s).on F.PWR_INT_CAUSE_SLACK = true := by
  rcases increase_cases s with ⟨-, -, h⟩ | ⟨-, -, h⟩ | ⟨-, h⟩ <;> rw [h]
  · rw [on_congr (system_get (by decide)), on_congr (request_get (by decide)), hs]
  · exact Pwr_event_on
  · exact hs

/-- One step more is requested, or the ceiling is shown. -/
theorem increase_requests (hr : raises s = true) :
    (s.get H.PWR_TARGET + Pwr.stepHalfMv s ≤ 1700 →
      (Pwr.increase s).get H.PWR_TARGET = s.get H.PWR_TARGET + Pwr.stepHalfMv s ∧ (Pwr.increase s).on F.PWR_AVS_READ_BUSY = true) ∧
    (1700 < s.get H.PWR_TARGET + Pwr.stepHalfMv s → (Pwr.increase s).on F.PWR_SAFE_STAT_AVS_CEILING = true) := by
  rcases increase_cases s with ⟨-, hle, h⟩ | ⟨-, hlt, h⟩ | ⟨hnot, -⟩
  · refine ⟨fun _ => ?_, fun hlt => absurd hlt (by omega)⟩
    rw [h, system_get (by decide), on_congr (system_get (by decide))]
    exact ⟨request_target (by omega), request_busy⟩
  · refine ⟨fun hle => absurd hle (by omega), fun _ => ?_⟩
    rw [h, on_congr (Pwr_event_get (by decide)), on_set (by decide) (by decide)]
  · exact absurd (hr.symm.trans hnot) (by decide)

theorem stepHalfMv_congr (h : t.get F.PWR_SLACK_CTRL_AVS_STEP = s.get F.PWR_SLACK_CTRL_AVS_STEP) : Pwr.stepHalfMv t = Pwr.stepHalfMv s := by
  rw [Pwr.stepHalfMv, h, Pwr.stepHalfMv]

/-- The machine as SLACK_LOW has shown its alarm, before the increase. -/
def lowShown (m now : Nat) (s : State) : State :=
  Pwr.event (Pmc.system (1216 + m) (((Pwr.observe m now s).setBit F.PWR_SLACK_STAT_LOW m).setBit H.PWR_LOW m))

theorem slackLow_increases (ha : Pwr.armed s m = true) (hnow : now < s.get F.PWR_SLACK_CFG_SOFT m) :
    Pwr.slackLow m now s = Pwr.increase (lowShown m now s) := by
  rw [Pwr.slackLow, if_pos (by simp [ha, hnow])]
  rfl

theorem lowShown_get (hc : uncounted g = true) (ho : unobserved g = true)
    (h : [F.PWR_INT_CAUSE_SLACK, F.PWR_SLACK_STAT_LOW, H.PWR_LOW].all (fun f => apart f g) = true) :
    (lowShown m now s).get g i j k = s.get g i j k := by
  simp only [List.all_cons, List.all_nil, Bool.and_true, Bool.and_eq_true] at h
  obtain ⟨hcause, hstat, hlow⟩ := h
  rw [lowShown, Pwr_event_get hcause, system_get hc, get_setBit_ne hlow, get_setBit_ne hstat, observe_get ho]

theorem lowShown_bit (hm : m < 16) : (lowShown m now s).bit F.PWR_SLACK_STAT_LOW m = true := by
  rw [lowShown, bit_congr (Pwr_event_get (by decide)), bit_congr (system_get (by decide)), bit_congr (get_setBit_ne (by decide)),
    bit_setBit (by decide) hm, beq_self_eq_true, Bool.or_true]

/-- SLACK_LOW. -/
theorem slackLow_runs (ha : Pwr.armed s m = true) (hnow : now < s.get F.PWR_SLACK_CFG_SOFT m) :
    runs (.slackLow m now) s (fun t => t.bit F.PWR_SLACK_STAT_LOW m = true ∧ t.on F.PWR_INT_CAUSE_SLACK = true ∧ (raises s = true →
      (s.get H.PWR_TARGET + Pwr.stepHalfMv s ≤ 1700 →
        t.get H.PWR_TARGET = s.get H.PWR_TARGET + Pwr.stepHalfMv s ∧ t.on F.PWR_AVS_READ_BUSY = true) ∧
      (1700 < s.get H.PWR_TARGET + Pwr.stepHalfMv s → t.on F.PWR_SAFE_STAT_AVS_CEILING = true))) := by
  have hc : exec (.slackLow m now) s = done s (Pwr.increase (lowShown m now s)) := congrArg (done s) (slackLow_increases ha hnow)
  refine runs_done hc ⟨?_, ?_, fun hr => ?_⟩
  · rw [bit_congr (settle_get ..), increase_low, lowShown_bit (armed_lt ha)]
  · rw [on_congr (settle_get ..)]
    exact increase_cause Pwr_event_on
  · have hr' : raises (lowShown m now s) = true := by
      rw [← hr]
      simp (disch := decide) only [raises, State.on, lowShown_get]
    have hinc := increase_requests hr'
    rw [lowShown_get (by decide) (by decide) (by decide), stepHalfMv_congr (lowShown_get (by decide) (by decide) (by decide))] at hinc
    rw [settle_get, on_congr (settle_get ..), on_congr (settle_get ..)]
    exact hinc

/-- One step less is requested, or the minimum. -/
theorem decrease_requests (harm : s.on H.PWR_ARMED = true) (hrest : s.get F.PWR_REST_STAT_STATE ≠ 2)
    (hhold : (List.range 16).all (fun m => !Pwr.armed s m || decide (s.get F.PWR_SLACK_CFG_SOFT m + s.get F.PWR_SLACK_CTRL_HYST ≤
      s.get F.PWR_SLACK_LVL_NOW m)) = true)
    (hauto : s.on F.PWR_SLACK_CTRL_AVS_AUTO = true) (hfail : s.on F.PWR_SAFE_STAT_AVS_FAIL = false) (hbusy : Pwr.busy s = false)
    (hdwell : s.get F.PWR_SLACK_CTRL_LOWER_DWELL ≠ 0)
    (hlt : max (s.get H.PWR_TARGET - Pwr.stepHalfMv s) (2 * s.get F.PWR_VMIN_VMIN_MV) < s.get H.PWR_TARGET) :
    Pwr.decrease s = Pmc.system 1249 (Pwr.request (max (s.get H.PWR_TARGET - Pwr.stepHalfMv s) (2 * s.get F.PWR_VMIN_VMIN_MV)) s) := by
  unfold Pwr.decrease
  dsimp only
  rw [hhold, if_pos (by simp [harm, hrest, hauto, hfail, hbusy, hdwell]), if_pos hlt]

/-- AVS_DECREASE_REQUEST. -/
theorem avsDecreaseRequest_runs (harm : s.on H.PWR_ARMED = true) (hrest : s.get F.PWR_REST_STAT_STATE ≠ 2)
    (hhold : (List.range 16).all (fun m => !Pwr.armed s m || decide (s.get F.PWR_SLACK_CFG_SOFT m + s.get F.PWR_SLACK_CTRL_HYST ≤
      (Pwr.observeAll levels s).get F.PWR_SLACK_LVL_NOW m)) = true)
    (hauto : s.on F.PWR_SLACK_CTRL_AVS_AUTO = true) (hfail : s.on F.PWR_SAFE_STAT_AVS_FAIL = false)
    (hbusy : s.on F.PWR_AVS_READ_BUSY = false) (hdwell : s.get F.PWR_SLACK_CTRL_LOWER_DWELL ≠ 0)
    (hv : v = max (s.get H.PWR_TARGET - Pwr.stepHalfMv s) (2 * s.get F.PWR_VMIN_VMIN_MV)) (hlt : v < s.get H.PWR_TARGET) :
    runs (.avsDecreaseRequest levels) s (fun t => t.get H.PWR_TARGET = v ∧ t.get F.PWR_VMIN_VREQ_MV = (v + 1) / 2 % 1024 ∧
      t.on F.PWR_AVS_READ_BUSY = true) := by
  have hc : exec (.avsDecreaseRequest levels) s = done s (Pmc.system 1249 (Pwr.request v (Pwr.observeAll levels s))) := by
    refine (congrArg (done s) (decrease_requests ?_ ?_ ?_ ?_ ?_ ?_ ?_ ?_)).trans ?_
    all_goals simp (disch := decide) only [Pwr.stepHalfMv, Pwr.busy, Pwr.armed, State.on, State.bit, observeAll_get]
    · exact harm
    · exact hrest
    · exact hhold
    · exact hauto
    · exact hfail
    · exact hbusy
    · exact hdwell
    · exact hv ▸ hlt
    · rw [hv, Pwr.stepHalfMv]
  refine runs_done hc ⟨?_, ?_, ?_⟩
  · rw [settle_get, system_get (by decide), request_target (Nat.lt_trans hlt (State_get_lt ..))]
  · rw [settle_get, system_get (by decide), request_vreq]
  · rw [on_congr (settle_get ..), on_congr (system_get (by decide)), request_busy]

/-! ### The release of the actions (R21) -/

/-- The actions that may be released now. -/
theorem mem_releasable : a ∈ (List.range 4).filter (fun a => Pwr.inForce s a && Pwr.pathClear s a) ↔
    a < 4 ∧ Pwr.inForce s a = true ∧ Pwr.pathClear s a = true := by simp

theorem releasing_of_mem {l : List Nat} (ha : a < 4) (hl : a ∈ l) (s : State) :
    (s.eachOf l (fun a t => t.setBit H.PWR_RELEASING a)).bit H.PWR_RELEASING a = true := by
  refine eachOf_makes (p := fun t => t.bit H.PWR_RELEASING a = true) hl (fun t => ?_) (fun b t h => bit_setBit_of_bit h) s
  rw [bit_setBit (by decide) ha, beq_self_eq_true, Bool.or_true]

theorem inForce_observeAll (ha : a < 4) : Pwr.inForce (Pwr.observeAll levels s) a = Pwr.inForce s a := by
  have hobs := (by decide : ∀ g ∈ safeFlags, unobserved g = true) _ (actionFlag_mem a)
  rw [inForce_eq ha, inForce_eq ha, on_congr (observeAll_get levels hobs)]

theorem release_frees (ha : a < 4) (hf : Pwr.inForce s a = true) (hp : Pwr.pathClear s a = true) :
    (Pwr.release s).bit H.PWR_RELEASING a = true := by
  have hfree := releasing_of_mem ha (mem_releasable.mpr ⟨ha, hf, hp⟩) s
  unfold Pwr.release
  dsimp only
  split
  · rw [bit_congr (Pwr_event_get (by decide)), bit_congr (get_set_ne (by decide)), hfree]
  · exact hfree

theorem release_refuses (ha : a < 4) (hf : Pwr.inForce s a = true) (hp : Pwr.pathClear s a = false) :
    (Pwr.release s).on F.PWR_SAFE_STAT_RELEASE_REFUSED = true := by
  have hstays : (List.range 4).any (fun a => Pwr.inForce s a && !Pwr.pathClear s a) = true :=
    List.any_eq_true.mpr ⟨a, List.mem_range.mpr ha, by simp [hf, hp]⟩
  unfold Pwr.release
  dsimp only
  rw [if_pos hstays, on_congr (Pwr_event_get (by decide)), on_set (by decide) (by decide)]

/-- AUTO_RELEASE. -/
theorem autoRelease_runs (hauto : s.on F.PWR_SLACK_CTRL_AUTO_RELEASE = true) (ha : a < 4) (hf : Pwr.inForce s a = true)
    (hp : Pwr.pathClear (Pwr.observeAll levels s) a = true) :
    runs (.autoRelease levels) s (fun t => t.bit H.PWR_RELEASING a = true) := by
  refine runs_done (u := Pwr.autoRelease (Pwr.observeAll levels s)) rfl ?_
  have hauto' : (Pwr.observeAll levels s).on F.PWR_SLACK_CTRL_AUTO_RELEASE = true := by rw [on_congr (observeAll_get levels (by decide)), hauto]
  rw [bit_congr (settle_get ..), Pwr.autoRelease, if_pos hauto']
  exact releasing_of_mem ha (mem_releasable.mpr ⟨ha, (inForce_observeAll ha).trans hf, hp⟩) _

/-- A write of a PWR register by a command of its own: its effect, and the count of the access. -/
theorem pwrRow_get {r : RegId} {dword : Nat → Nat} {eff : State → State} {x y z : Nat} (h : takes r s = true)
    (hi : r.shape.has i j 0 = true) (hb : Sys.blockOf (r.barAddr 0 0 0) = 3) (hg : uncounted g = true) :
    (Bus.row Bus.host r i j dword eff s).get g x y z = (eff s).get g x y z := by
  rw [row_takes _ _ h hi, access_get _ _ _ _ _ g x y z hg, hb]
  rfl

/-- RELEASE. -/
theorem release_runs (ht : takes .PWR_SLACK_CTRL s = true) (ha : a < 4) (hf : Pwr.inForce s a = true) :
    runs (.release levels) s (fun t => if Pwr.pathClear (Pwr.observeAll levels s) a then t.bit H.PWR_RELEASING a = true
      else t.on F.PWR_SAFE_STAT_RELEASE_REFUSED = true) := by
  have hf' := (inForce_observeAll (levels := levels) ha).trans hf
  refine runs_done rfl ?_
  split
  next hp => rw [bit_congr (settle_get ..), bit_congr (pwrRow_get ht rfl (by decide) (by decide)), release_frees ha hf' hp]
  next hp =>
    rw [on_congr (settle_get ..), on_congr (pwrRow_get ht rfl (by decide) (by decide)), release_refuses ha hf' (Bool.eq_false_iff.mpr hp)]

theorem endAction_off (b : Nat) (hg : g ∈ safeFlags) (h : s.on g = false) : (Pwr.endAction b s).on g = false := by
  rw [on_congr (endAction_flags hg b)]
  exact safeFlag_off_clr_of_off (actionFlag_mem b) hg h

theorem endAction_off_own (a : Nat) (s : State) : (Pwr.endAction a s).on (actionFlag a) = false := by
  rw [on_congr (endAction_flags (actionFlag_mem a) a), on_clr]

theorem endAction_unmutes : (Pwr.endAction 0 s).bit F.LTX_STAT_MUTE_SRC 1 = false := by
  rw [Pwr.endAction, source1_of_noMute (Ltx_resume_moves rfl .refl), Ltx.unmute, bit_clrBit]
  simp

theorem endAction_keeps_unmuted (h : s.bit F.LTX_STAT_MUTE_SRC 1 = false) : ∀ b, (Pwr.endAction b s).bit F.LTX_STAT_MUTE_SRC 1 = false
  | 0 => endAction_unmutes
  | 1 | 2 | _ + 3 => (bit_congr (get_clr_ne (by decide))).trans h

/-- What was being released ends at a frame boundary. -/
theorem releaseEffect_ends (htx : s.on F.FRM_CTRL_TX_EN = true) (hr : s.bit H.PWR_RELEASING a = true) :
    (Pwr.releaseEffect s).on (actionFlag a) = false := by
  have happ := (by decide : ∀ g ∈ safeFlags, apart H.PWR_RELEASING g = true) _ (actionFlag_mem a)
  rw [Pwr.releaseEffect, if_pos htx, on_congr (get_clr_ne happ)]
  exact each_makes (p := fun t => t.on (actionFlag a) = false) (c := (s.get H.PWR_RELEASING).testBit) (width_of_bit hr) hr (endAction_off_own a)
    (fun b t h => endAction_off b (actionFlag_mem a) h) s

theorem releaseEffect_unmutes (htx : s.on F.FRM_CTRL_TX_EN = true) (hr : s.bit H.PWR_RELEASING 0 = true) :
    (Pwr.releaseEffect s).bit F.LTX_STAT_MUTE_SRC 1 = false := by
  rw [Pwr.releaseEffect, if_pos htx, bit_congr (get_clr_ne (by decide))]
  exact each_makes (p := fun t => t.bit F.LTX_STAT_MUTE_SRC 1 = false) (c := (s.get H.PWR_RELEASING).testBit) (by decide) hr
    (fun t => endAction_unmutes) (fun b t h => endAction_keeps_unmuted h b) s

theorem releaseEffect_done (htx : s.on F.FRM_CTRL_TX_EN = true) : (Pwr.releaseEffect s).get H.PWR_RELEASING = 0 := by
  rw [Pwr.releaseEffect, if_pos htx, get_clr]

/-- ACTION_RELEASE_EFFECT. -/
theorem actionReleaseEffect_runs (htx : s.on F.FRM_CTRL_TX_EN = true) :
    runs .actionReleaseEffect s (fun t => (∀ a, s.bit H.PWR_RELEASING a = true → t.on (actionFlag a) = false) ∧
      (s.bit H.PWR_RELEASING 0 = true → t.bit F.LTX_STAT_MUTE_SRC 1 = false) ∧ t.get H.PWR_RELEASING = 0) := by
  refine runs_done (u := Pwr.releaseEffect s) rfl ⟨fun a hr => ?_, fun hr => ?_, ?_⟩
  · rw [on_congr (settle_get ..), releaseEffect_ends htx hr]
  · rw [bit_congr (settle_get ..), releaseEffect_unmutes htx hr]
  · rw [settle_get, releaseEffect_done htx]

/-! ### The margins (R24) -/

/-- The margins a write of v to SLACK_CFG[m] would set: SOFT, and HARD but under SYS.LOCK. -/
def newSoft (v : Nat) : Nat := slice v 0 6
def newHard (s : State) (m v : Nat) : Nat := if s.on F.SYS_LOCK_LOCK then s.get F.PWR_SLACK_CFG_HARD m else slice v 8 6

/-- R24's condition on them. -/
def legalMargins (s : State) (m v : Nat) : Prop := 1 ≤ newHard s m v ∧ newHard s m v < newSoft v ∧ newSoft v ≤ 24

theorem writeSlackCfg_legal (h : legalMargins s m v) :
    Pwr.writeSlackCfg m v s = Pwr.recovered m ((s.put F.PWR_SLACK_CFG_SOFT (newSoft v) m).put F.PWR_SLACK_CFG_HARD (newHard s m v) m) :=
  if_pos h

theorem writeSlackCfg_illegal (h : ¬legalMargins s m v) : Pwr.writeSlackCfg m v s = Pwr.event (s.set F.PWR_SAFE_STAT_CFG_ERR) := if_neg h

theorem writeSlackCfg_soft (hm : m < 16) (h : legalMargins s m v) : (Pwr.writeSlackCfg m v s).get F.PWR_SLACK_CFG_SOFT m = newSoft v := by
  obtain ⟨-, -, hsoft⟩ := id h
  rw [writeSlackCfg_legal h, recovered_get (by decide), get_put_ne (by decide), State_get_put_same _ _ _ _ _ _ (has_cfg hm)]
  exact Nat.mod_eq_of_lt (Nat.lt_of_le_of_lt hsoft (by decide))

theorem writeSlackCfg_hard (hm : m < 16) (h : legalMargins s m v) : (Pwr.writeSlackCfg m v s).get F.PWR_SLACK_CFG_HARD m = newHard s m v := by
  obtain ⟨-, hlt, hsoft⟩ := id h
  rw [writeSlackCfg_legal h, recovered_get (by decide), State_get_put_same _ _ _ _ _ _ (has_cfg hm)]
  exact Nat.mod_eq_of_lt (Nat.lt_trans hlt (Nat.lt_of_le_of_lt hsoft (by decide)))

theorem writeSlackCfg_others (h : n ≠ m) :
    (Pwr.writeSlackCfg m v s).get F.PWR_SLACK_CFG_SOFT n = s.get F.PWR_SLACK_CFG_SOFT n ∧
    (Pwr.writeSlackCfg m v s).get F.PWR_SLACK_CFG_HARD n = s.get F.PWR_SLACK_CFG_HARD n := by
  by_cases hl : legalMargins s m v
  · rw [writeSlackCfg_legal hl, recovered_get (by decide), recovered_get (by decide)]
    constructor
    · rw [get_put_ne (by decide), get_put_other (by decide) h]
    · rw [get_put_other (by decide) h, get_put_ne (by decide)]
  · rw [writeSlackCfg_illegal hl]
    exact ⟨(Pwr_event_get (by decide)).trans (get_set_ne (by decide)), (Pwr_event_get (by decide)).trans (get_set_ne (by decide))⟩

/-- SLACK_CFG_WRITE completes with what the write comes to. -/
theorem slackCfgWrite_runs {p : State → Prop} (ht : takes .PWR_SLACK_CFG s = true) (hm : m < 16)
    (hp : ∀ t, (∀ g n, uncounted g = true → t.get g n = (Pwr.writeSlackCfg m v s).get g n) → p t) : runs (.slackCfgWrite m v) s p :=
  runs_done rfl (hp _ fun g n hg => (settle_get ..).trans (pwrRow_get ht (has_cfg hm) (by decide) hg))

/-- Settles O9: legal margins are put, of the one monitor; others set CFG_ERR alone. -/
theorem slackMarginsAreJudged : Obligations.SlackMarginsAreJudged := by
  unfold Obligations.SlackMarginsAreJudged
  rintro s m v soft hard ht hm rfl rfl
  refine slackCfgWrite_runs ht hm fun t hget => ?_
  have hsoft (n : Nat) := hget F.PWR_SLACK_CFG_SOFT n (by decide)
  have hhard (n : Nat) := hget F.PWR_SLACK_CFG_HARD n (by decide)
  have herr := on_congr (hget F.PWR_SAFE_STAT_CFG_ERR 0 (by decide))
  refine ⟨fun hl => ?_, fun hl => ?_, fun n hn => ?_⟩
  · refine ⟨(hsoft m).trans (writeSlackCfg_soft hm hl), (hhard m).trans (writeSlackCfg_hard hm hl), ?_⟩
    rw [herr, writeSlackCfg_legal hl, on_congr (recovered_get (by decide)), on_congr (get_put_ne (by decide)),
      on_congr (get_put_ne (by decide))]
  · rw [hsoft, hhard, herr, writeSlackCfg_illegal hl]
    refine ⟨?_, ?_, ?_⟩
    · rw [Pwr_event_get (by decide), get_set_ne (by decide)]
    · rw [Pwr_event_get (by decide), get_set_ne (by decide)]
    · rw [on_congr (Pwr_event_get (by decide)), on_set (by decide) (by decide)]
  · rw [hsoft, hhard]
    exact writeSlackCfg_others hn

/-- Settles O23, with one lemma for each command: what its operation comes to under the conditions, read through the completion. -/
theorem slackCommandResults : Obligations.SlackCommandResults := by
  unfold Obligations.SlackCommandResults
  refine ⟨fun s b m => bridgePrefilled_runs, fun s b m _ => bridgeFault_runs rfl, fun s b m _ => bridgeFault_runs rfl,
    fun s m now _ => slackLow_runs, fun s m now _ => hardMarginCrossing_runs, fun s levels v => avsDecreaseRequest_runs,
    fun s levels a => autoRelease_runs, fun s levels a => release_runs, fun s htx => ?_, fun s m v hm ht hlock h1 h2 h3 => ?_⟩
  · obtain ⟨t, ht, hends, hmute, hdone⟩ := actionReleaseEffect_runs htx
    exact ⟨t, ht, fun hr => ⟨hends 0 hr, hmute hr⟩, hends 1, hends 2, hends 3, hdone⟩
  · have hhard : newHard s m v = slice v 8 6 := if_neg (by simp [hlock])
    have hl : legalMargins s m v := by
      rw [legalMargins, hhard]
      exact ⟨h1, h2, h3⟩
    refine slackCfgWrite_runs ht hm fun t hget => ⟨?_, ?_⟩
    · rw [hget _ _ (by decide), writeSlackCfg_soft hm hl, newSoft]
    · rw [hget _ _ (by decide), writeSlackCfg_hard hm hl, hhard]

end Sys2Proof.Proofs

/-! SUPPORT. Loops whose rounds touch one element each, the exchange of two banks of a table, and two's-complement numbers in fields. -/
namespace Sys2Proof.Proofs
open Sys2Proof Sys2Proof.Machine Sys2Proof.Laws

variable {s t : State} {f g : Machine.Field} {a b i j k m n w x y z : Nat}

theorem get_clrBit_ne (h : apart f g = true) : (s.clrBit f b i j k).get g x y z = s.get g x y z := get_put_ne h

/-! ### Loops -/

theorem each_succ (n : Nat) (round : Nat → State → State) (s : State) : s.each (n + 1) round = round n (s.each n round) := by
  rw [State.each, List.range_succ, List.foldl_append]
  rfl

section
variable {α : Type} {obs : State → α} {step : α → α} {round : Nat → State → State}

/-- What no round changes is as before the loop. -/
theorem each_keeps (n : Nat) (h : ∀ b t, b < n → obs (round b t) = obs t) : obs (s.each n round) = obs s := by
  induction n with
  | zero => rfl
  | succ n ih => rw [each_succ, h n _ n.lt_succ_self, ih fun b t hb => h b t (Nat.lt_succ_of_lt hb)]

/-- What one round alone changes comes to that one change. -/
theorem each_changes_once (ha : a < n) (hown : ∀ t, obs (round a t) = step (obs t)) (hother : ∀ b t, b ≠ a → obs (round b t) = obs t) :
    obs (s.each n round) = step (obs s) := by
  induction n with
  | zero => exact absurd ha a.not_lt_zero
  | succ n ih =>
    rw [each_succ]
    rcases Nat.lt_succ_iff_lt_or_eq.mp ha with hlt | rfl
    · rw [hother n _ (Nat.ne_of_gt hlt), ih hlt]
    · rw [hown, each_keeps a fun b t hb => hother b t (Nat.ne_of_lt hb)]

end

/-! ### Two banks of a table -/

/-- Two arrays of one element width, apart from each other. -/
def twins (f g : Machine.Field) : Bool := Field.plain f && Field.plain g && apart f g && apart g f && f.width == g.width

/-- Element (i, j) of the two arrays. -/
def pairAt (f g : Machine.Field) (i j : Nat) (s : State) : Nat × Nat := (s.get f i j, s.get g i j)

/-- Element (i, j) of the two arrays is exchanged. -/
def exchange (f g : Machine.Field) (i j : Nat) (s : State) : State := (s.put f (s.get g i j) i j).put g (s.get f i j) i j

theorem pairAt_congr (hf : t.get f i j = s.get f i j) (hg : t.get g i j = s.get g i j) : pairAt f g i j t = pairAt f g i j s := by
  rw [pairAt, hf, hg, pairAt]

theorem pairAt_exchange (hb : twins f g = true) (hf : f.shape.has i j 0 = true) (hg : g.shape.has i j 0 = true) :
    pairAt f g i j (exchange f g i j s) = (pairAt f g i j s).swap := by
  simp only [twins, Bool.and_eq_true, beq_iff_eq] at hb
  obtain ⟨⟨⟨⟨-, -⟩, -⟩, hgf⟩, hw⟩ := hb
  rw [pairAt, exchange, get_put_ne hgf, State_get_put_same _ _ _ _ _ _ hf, State_get_put_same _ _ _ _ _ _ hg, hw,
    Nat.mod_eq_of_lt (State_get_lt s g i j 0), ← hw, Nat.mod_eq_of_lt (State_get_lt s f i j 0)]
  rfl

theorem pairAt_exchange_other (hb : twins f g = true) (h : x = i → y ≠ j) :
    pairAt f g i j (exchange f g x y s) = pairAt f g i j s := by
  simp only [twins, Bool.and_eq_true] at hb
  obtain ⟨⟨⟨⟨hf, hg⟩, hfg⟩, hgf⟩, -⟩ := hb
  have hne {p : Prop} : ¬(p ∧ x = i ∧ y = j ∧ 0 = 0) := fun ⟨_, hx, hy, _⟩ => h hx hy
  refine pairAt_congr ?_ ?_
  · rw [exchange, get_put_ne hgf, State_get_put_index _ _ _ _ _ _ _ _ _ hf, if_neg hne]
  · rw [exchange, State_get_put_index _ _ _ _ _ _ _ _ _ hg, if_neg hne, get_put_ne hfg]

/-- A loop that exchanges the elements one by one, and writes other fields beside. -/
theorem each_exchanges {l : List Machine.Field} {round : Nat → State → State} (hb : twins f g = true) (hf : f.shape.has i 0 0 = true)
    (hg : g.shape.has i 0 0 = true) (hi : i < n) (hfl : f ∈ l) (hgl : g ∈ l)
    (hround : ∀ k t, Moves (Sparing l) (exchange f g k 0 t) (round k t)) :
    pairAt f g i 0 (s.each n round) = (pairAt f g i 0 s).swap := by
  have hrest (k : Nat) (t : State) : pairAt f g i 0 (round k t) = pairAt f g i 0 (exchange f g k 0 t) :=
    pairAt_congr (get_of_sparing (hround k t) hfl) (get_of_sparing (hround k t) hgl)
  refine each_changes_once hi (fun t => ?_) (fun k t hk => ?_)
  · rw [hrest, pairAt_exchange hb hf hg]
  · rw [hrest, pairAt_exchange_other hb fun h => absurd h hk]

/-- The same for arrays of two indices. -/
theorem each_each_exchanges (hb : twins f g = true) (hf : f.shape.has i j 0 = true) (hg : g.shape.has i j 0 = true) (hi : i < m) (hj : j < n) :
    pairAt f g i j (s.each m fun d t => t.each n (exchange f g d)) = (pairAt f g i j s).swap := by
  refine each_changes_once hi (fun t => ?_) (fun d t hd => ?_)
  · exact each_changes_once hj (fun t => pairAt_exchange hb hf hg) (fun x t hx => pairAt_exchange_other hb fun _ => hx)
  · exact each_keeps n fun x t _ => pairAt_exchange_other hb fun h => absurd h hd

/-! ### Two's-complement numbers -/

theorem signed_eq_bmod (hw : 0 < w) (n : Nat) : signed w n = Int.bmod n (2 ^ w) := by
  obtain ⟨v, rfl⟩ : ∃ v, w = v + 1 := ⟨w - 1, by omega⟩
  have hhalf : ((2 : Int) ^ (v + 1) + 1) / 2 = 2 ^ v := by
    rw [pow_succ]
    omega
  simp only [signed, Int.bmod, Nat.add_sub_cancel]
  push_cast
  rw [hhalf]
  norm_cast

theorem signed_unsigned (hw : 0 < w) {v : Int} (hlo : -2 ^ (w - 1) ≤ v) (hhi : v < 2 ^ (w - 1)) : signed w (unsigned w v) = v := by
  obtain ⟨u, rfl⟩ : ∃ u, w = u + 1 := ⟨w - 1, by omega⟩
  have hpos : ((2 ^ (u + 1) : Nat) : Int) ≠ 0 := by positivity
  rw [signed_eq_bmod hw, unsigned, Int.toNat_of_nonneg (Int.emod_nonneg _ hpos), Int.emod_bmod]
  rw [Nat.add_sub_cancel] at hlo hhi
  refine Int.bmod_eq_of_le ?_ ?_ <;> push_cast <;> rw [pow_succ] <;> omega

theorem signed_range (hw : 0 < w) (n : Nat) : -2 ^ (w - 1) ≤ signed w n ∧ signed w n < 2 ^ (w - 1) := by
  obtain ⟨u, rfl⟩ : ∃ u, w = u + 1 := ⟨w - 1, by omega⟩
  have hlt : n % 2 ^ (u + 1) < 2 ^ (u + 1) := Nat.mod_lt _ (Nat.two_pow_pos _)
  have hlt' : ((n % 2 ^ (u + 1) : Nat) : Int) < 2 ^ (u + 1) := by exact_mod_cast hlt
  simp only [signed, Nat.add_sub_cancel]
  rw [pow_succ] at hlt'
  split
  · next h =>
    have h' : ((n % 2 ^ (u + 1) : Nat) : Int) < 2 ^ u := by exact_mod_cast h
    omega
  · next h =>
    have h' : (2 ^ u : Int) ≤ ((n % 2 ^ (u + 1) : Nat) : Int) := by exact_mod_cast Nat.le_of_not_lt h
    push_cast at h' hlt' ⊢
    rw [pow_succ] at *
    omega

theorem unsigned_signed (h : n < 2 ^ w) : unsigned w (signed w n) = n := by
  have hn : ((n : Int) % ((2 ^ w : Nat) : Int)) = n := Int.emod_eq_of_lt (by omega) (by exact_mod_cast h)
  unfold unsigned signed
  rw [Nat.mod_eq_of_lt h]
  dsimp only
  split
  · rw [hn, Int.toNat_natCast]
  · rw [Int.sub_emod_right, hn, Int.toNat_natCast]

/-- A number in the range of a field reads back. -/
theorem sget_sput {v : Int} (hf : f.shape.has i j k = true) (hw : 0 < f.width) (hlo : -2 ^ (f.width - 1) ≤ v) (hhi : v < 2 ^ (f.width - 1)) :
    (s.sput f v i j k).sget f i j k = v := by
  have hlt : unsigned f.width v < 2 ^ f.width := by
    have hpos : (0 : Int) < ((2 ^ f.width : Nat) : Int) := by positivity
    exact (Int.toNat_lt' (Nat.two_pow_pos _)).mpr (Int.emod_lt_of_pos _ hpos)
  rw [State.sget, State.sput, State_get_put_same _ _ _ _ _ _ hf, Nat.mod_eq_of_lt hlt, signed_unsigned hw hlo hhi]

/-- The field follows from the number it holds. -/
theorem get_eq_unsigned_sget : s.get f i j k = unsigned f.width (s.sget f i j k) := (unsigned_signed (State_get_lt s f i j k)).symm

theorem sget_congr (h : t.get f i j k = s.get f i j k) : t.sget f i j k = s.sget f i j k := by rw [State.sget, h, State.sget]

end Sys2Proof.Proofs

/-! SUPPORT. What a command of the line transmitter completes with (O24; R38, R45 to R47): the fields of the line that its operation leaves are
those that stand after the mirror records, the count of the access and the interrupt outputs. -/
namespace Sys2Proof.Proofs
open Sys2Proof Sys2Proof.Machine Sys2Proof.Laws

variable {c : Instr} {s t u v : State} {p : State → Prop} {g : Machine.Field} {b d i j k m n value x : Nat}

/-! ### The fields of the line -/

/-- The fields that the commands of the transmit line report in, and the receiver's banks. -/
def lineFields : List Machine.Field :=
  [F.LTX_CTRL_EN, F.LTX_CTRL_MUTE, F.LTX_STAT_ACTIVE, F.LTX_STAT_CFG_STEP, F.LTX_STAT_MUTE_SRC, F.LTX_INT_CAUSE_CFG_ERR, H.LTX_OUTPUT,
   F.LTX_FREQ_OFS_OFS, H.LTX_OFS_NOW, H.LTX_OFS_PENDING,
   H.LTX_ACTIVE, H.LTX_SHADOW, H.LTX_ACT_VER, H.LTX_SHADOW_VER, H.LTX_SWAP_DUE, F.LTX_STAT_BANK, F.LTX_INT_CAUSE_LOAD_SWAP,
   H.LRX_ACTIVE, H.LRX_SHADOW, H.LRX_ACT_VER, H.LRX_SHADOW_VER, H.LRX_SWAP_DUE, F.LRX_STAT_BANK, F.LRX_INT_CAUSE_LOAD_SWAP,
   F.LTX_STAT_CD_FADING, F.LTX_INT_CAUSE_CD_DONE, H.LTX_D_NOW, H.LTX_D_FADE, H.LTX_D_HELD, H.LTX_GO_HELD,
   F.LTX_SKEW_SKEW, F.LTX_STAT_SKEW_SLEW, H.LTX_SKEW_NOW, F.LTX_STAT_PEQ_PENDING, F.LTX_PEQ_TAP, H.LTX_PEQ_ACTIVE,
   F.LTX_STAT_PD_PENDING, F.LTX_PD_LUT_Y, H.LTX_PD_ACTIVE, F.CVT_DAC_STAT_CLK_LOCK, F.CVT_ADC_STAT_CLK_LOCK]

/-- `t` shows of the line what `s` shows. -/
def Alike (s t : State) : Prop := ∀ g ∈ lineFields, ∀ i j k, t.get g i j k = s.get g i j k

theorem Alike.get (h : Alike s t) (hg : g ∈ lineFields) : t.get g i j k = s.get g i j k := h g hg i j k

theorem Alike.refl (s : State) : Alike s s := fun _ _ _ _ _ => rfl

theorem Alike.trans (h : Alike s t) (h' : Alike t u) : Alike s u := fun g hg i j k => (h' g hg i j k).trans (h g hg i j k)

theorem alike_of_moves (h : Moves (Sparing lineFields) s t) : Alike s t := fun _ hg _ _ _ => get_of_sparing h hg

theorem settle_alike (s t : State) : Alike t (settle s t) := fun g _ i j k => settle_get s t g i j k

theorem mirror_alike (s t : State) : Alike t (Peer.mirror s t) := fun g _ i j k => mirror_get s t g i j k

/-- A write that reaches LTX shows of the line what its effect shows: neither the count of the access nor what follows an enable at CAL
and BST writes a field of the line. -/
theorem ltxRow_alike {r : RegId} {dword : Nat → Nat} {eff : State → State} (ht : takes r s = true) (hi : r.shape.has i j 0 = true)
    (hb : Sys.blockOf (r.barAddr 0 0 0) = 18) : Alike (eff s) (Bus.row Bus.host r i j dword eff s) := by
  rw [row_takes _ _ ht hi, hb]
  have hfollow : Alike (eff s) (Bus.follow Bus.host r 18 s (eff s)) := by
    refine alike_of_moves (Bus_lineWritten_moves ?_ ?_ ?_ ?_ ?_ ?_ ?_ ?_ ?_ ?_ ?_ ?_ s .refl)
    all_goals rfl
  exact hfollow.trans fun g hg x y z => access_get _ _ _ _ _ g x y z ((by decide : ∀ g ∈ lineFields, uncounted g = true) g hg)

/-! ### Completions -/

theorem runs_alike (e : exec c s = done s u) (h : Alike v u) (hp : ∀ t, Alike v t → p t) : runs c s p :=
  runs_done e (hp _ (h.trans (settle_alike s u)))

theorem runs_alike_mirrored (e : exec c s = Access.doneMirrored s u) (h : Alike v u) (hp : ∀ t, Alike v t → p t) : runs c s p :=
  runs_mirrored e (hp _ (h.trans ((mirror_alike s u).trans (settle_alike s _))))

/-! ### LTX_ENABLE, LTX_START and LTX_DISABLE (R46, R47) -/

theorem check_lt (s : State) : Ltx.check s < 8 := by
  unfold Ltx.check
  dsimp only
  split_ifs <;> decide

/-- What an enable that passes the checks comes to on the line: the streams' start and the minimum of VDD_CORE show elsewhere. -/
theorem enable_of_check (hen : s.on F.LTX_CTRL_EN = false) (hc : Ltx.check s = 0) :
    Alike (((s.set F.LTX_CTRL_EN).clr F.LTX_STAT_CFG_STEP).put H.LTX_OFS_NOW (s.get F.LTX_FREQ_OFS_OFS)) (Ltx.enable s) := by
  generalize hu : ((s.set F.LTX_CTRL_EN).clr F.LTX_STAT_CFG_STEP).put H.LTX_OFS_NOW (s.get F.LTX_FREQ_OFS_OFS) = u
  have hmin : Moves (Sparing lineFields) u (Pwr.vminRecompute (u.each 512 Fec.startTx)) :=
    Pwr_vminRecompute_moves rfl rfl rfl rfl rfl rfl rfl (.each 512 .refl fun k t h => Fec_startTx_moves (W := Sparing lineFields) rfl rfl k h)
  unfold Ltx.enable
  simp only [hen, Bool.false_eq_true, if_false, hc, if_true, hu]
  split
  · exact alike_of_moves (.set _ _ _ rfl hmin)
  · exact alike_of_moves hmin

/-- What an enable that fails a check comes to on the line. -/
theorem enable_of_fault (hen : s.on F.LTX_CTRL_EN = false) (hc : Ltx.check s ≠ 0) :
    Alike ((s.set F.LTX_INT_CAUSE_CFG_ERR).put F.LTX_STAT_CFG_STEP (Ltx.check s)) (Ltx.enable s) := by
  unfold Ltx.enable
  simp only [hen, Bool.false_eq_true, if_false, hc]
  split
  · exact alike_of_moves (.set _ _ _ rfl .refl)
  · exact .refl _

/-- What the disable of an enabled transmitter comes to on the line. -/
theorem disable_of_enabled (hen : s.on F.LTX_CTRL_EN = true) :
    ∃ u, Alike ((((Ltx.mute 3 u).clr F.LTX_CTRL_EN).clr F.LTX_STAT_ACTIVE)) (Ltx.disable s) := by
  have hcancel : (Ltx.cancel s).on F.LTX_CTRL_EN = true := by
    rw [on_congr (Ltx_cancel_moves (W := Misses F.LTX_CTRL_EN) rfl rfl rfl rfl rfl .refl).get_misses, hen]
  refine ⟨Ltx.cancel s, alike_of_moves ?_⟩
  unfold Ltx.disable
  simp only [hcancel, if_true]
  exact Pwr_vminRecompute_moves (W := Sparing lineFields) rfl rfl rfl rfl rfl rfl rfl (.clr _ _ _ rfl .refl)

/-- LTX_ENABLE where the checks pass. -/
theorem ltxEnable_runs (ht : takes .LTX_CTRL s = true) (hen : s.on F.LTX_CTRL_EN = false) (hc : Ltx.check s = 0) :
    runs .ltxEnable s (fun t => t.on F.LTX_CTRL_EN = true ∧ t.get F.LTX_STAT_CFG_STEP = 0 ∧ t.get H.LTX_OFS_NOW = s.get F.LTX_FREQ_OFS_OFS) := by
  refine runs_alike_mirrored rfl ((enable_of_check hen hc).trans (ltxRow_alike ht rfl (by decide))) fun t ht => ⟨?_, ?_, ?_⟩
  · rw [on_congr (ht.get (by decide)), on_congr (get_put_ne (by decide)), on_congr (get_clr_ne (by decide)), on_set (by decide) (by decide)]
  · rw [ht.get (by decide), get_put_ne (by decide), get_clr]
  · rw [ht.get (by decide), State_get_put_same _ _ _ _ _ _ (by decide)]
    exact Nat.mod_eq_of_lt (State_get_lt s F.LTX_FREQ_OFS_OFS 0 0 0)

/-- LTX_ENABLE where a check fails. -/
theorem ltxEnable_refused_runs (ht : takes .LTX_CTRL s = true) (hen : s.on F.LTX_CTRL_EN = false) (hc : Ltx.check s ≠ 0) :
    runs .ltxEnable s (fun t => t.on F.LTX_CTRL_EN = false ∧ t.on F.LTX_INT_CAUSE_CFG_ERR = true ∧
      t.get F.LTX_STAT_CFG_STEP = Ltx.check s) := by
  refine runs_alike_mirrored rfl ((enable_of_fault hen hc).trans (ltxRow_alike ht rfl (by decide))) fun t ht => ⟨?_, ?_, ?_⟩
  · rw [on_congr (ht.get (by decide)), on_congr (get_put_ne (by decide)), on_congr (get_set_ne (by decide)), hen]
  · rw [on_congr (ht.get (by decide)), on_congr (get_put_ne (by decide)), on_set (by decide) (by decide)]
  · rw [ht.get (by decide), State_get_put_same _ _ _ _ _ _ (by decide)]
    exact Nat.mod_eq_of_lt (check_lt s)

/-- LTX_START. -/
theorem ltxStart_runs (hen : s.on F.LTX_CTRL_EN = true) (hact : s.on F.LTX_STAT_ACTIVE = false) (htx : s.on F.FRM_CTRL_TX_EN = true)
    (hpre : Pwr.prefilled s 512 16 = true) (hhold : s.on H.PWR_HOLD_TX = false) :
    runs .ltxStart s (fun t => t.on F.LTX_STAT_ACTIVE = true ∧ t.bit F.LTX_STAT_MUTE_SRC 3 = false) := by
  have hstart : Ltx.start s = Ltx.resume (Ltx.unmute 3 (s.set F.LTX_STAT_ACTIVE)) := by
    simp [Ltx.start, hen, hact, htx, hpre, hhold]
  have hresume {g : Machine.Field} (hg : apart H.LTX_OUTPUT g = true) :
      (Ltx.start s).get g = (Ltx.unmute 3 (s.set F.LTX_STAT_ACTIVE)).get g := by
    rw [hstart]
    exact (Ltx_resume_moves (W := Misses g) hg .refl).get_misses
  refine runs_alike rfl (.refl (Ltx.start s)) fun t ht => ⟨?_, ?_⟩
  · rw [on_congr (ht.get (by decide)), on_congr (hresume (by decide)), Ltx.unmute, on_congr (get_clrBit_ne (by decide)),
      on_set (by decide) (by decide)]
  · rw [bit_congr (ht.get (by decide)), bit_congr (hresume (by decide)), Ltx.unmute, bit_clrBit, bne_self_eq_false, Bool.and_false]

/-- LTX_DISABLE. -/
theorem ltxDisable_runs (ht : takes .LTX_CTRL s = true) (hen : s.on F.LTX_CTRL_EN = true) :
    runs .ltxDisable s (fun t => t.on F.LTX_CTRL_EN = false ∧ t.on F.LTX_STAT_ACTIVE = false ∧ t.bit F.LTX_STAT_MUTE_SRC 3 = true) := by
  obtain ⟨u, hu⟩ := disable_of_enabled hen
  refine runs_alike_mirrored rfl (hu.trans (ltxRow_alike ht rfl (by decide))) fun t ht => ⟨?_, ?_, ?_⟩
  · rw [on_congr (ht.get (by decide)), on_congr (get_clr_ne (by decide)), on_clr]
  · rw [on_congr (ht.get (by decide)), on_clr]
  · rw [bit_congr (ht.get (by decide)), bit_congr (get_clr_ne (by decide)), bit_congr (get_clr_ne (by decide)), Ltx.mute,
      bit_congr (get_clr_ne (by decide)), bit_setBit (by decide) (by decide), beq_self_eq_true, Bool.or_true]

/-! ### HOST_MUTE and MUTE_RESUME (R45) -/

theorem setMute_mute : (Ltx.setMute n s).get F.LTX_CTRL_MUTE = n % 2 := by
  have hput : (s.put F.LTX_CTRL_MUTE n).get F.LTX_CTRL_MUTE = n % 2 := State_get_put_same _ _ _ _ _ _ (by decide)
  rw [← hput]
  unfold Ltx.setMute
  split
  · exact (Ltx_mute_moves (W := Misses F.LTX_CTRL_MUTE) rfl rfl 0 .refl).get_misses
  · exact (Ltx_unmute_moves (W := Misses F.LTX_CTRL_MUTE) rfl 0 .refl).get_misses

theorem setMute_source0 : (Ltx.setMute n s).bit F.LTX_STAT_MUTE_SRC 0 = (n % 2 == 1) := by
  unfold Ltx.setMute
  split
  next h => rw [Ltx.mute, bit_congr (get_clr_ne (by decide)), bit_setBit (by decide) (by decide), h, beq_self_eq_true, Bool.or_true, beq_self_eq_true]
  next h => rw [Ltx.unmute, bit_clrBit, bne_self_eq_false, Bool.and_false, beq_eq_false_iff_ne.mpr h]

/-- HOST_MUTE. -/
theorem hostMute_runs (ht : takes .LTX_CTRL s = true) (hheld : s.on H.PEER_MUTE_HELD = false) :
    runs (.hostMute value) s (fun t => t.get F.LTX_CTRL_MUTE = value % 2 ∧ t.bit F.LTX_STAT_MUTE_SRC 0 = (value % 2 == 1)) := by
  have hmute : Ltx.hostMute (value % 2) s = Ltx.setMute (value % 2) s := if_neg (by simp [hheld])
  refine runs_alike rfl (ltxRow_alike ht rfl (by decide)) fun t ht => ⟨?_, ?_⟩
  · rw [ht.get (by decide), hmute, setMute_mute, Nat.mod_mod]
  · rw [bit_congr (ht.get (by decide)), hmute, setMute_source0, Nat.mod_mod]

/-- MUTE_RESUME. -/
theorem muteResume_runs (htx : s.on F.FRM_CTRL_TX_EN = true) (hsrc : s.get F.LTX_STAT_MUTE_SRC = 0) (hpre : Pwr.prefilled s 512 16 = true) :
    runs .muteResume s (fun t => t.on H.LTX_OUTPUT = true) := by
  have hresume : Ltx.resume s = s.set H.LTX_OUTPUT := by simp [Ltx.resume, htx, hsrc, hpre]
  refine runs_alike rfl (.refl (Ltx.resume s)) fun t ht => ?_
  rw [on_congr (ht.get (by decide)), hresume, on_set (by decide) (by decide)]

/-! ### FREQ_OFS_WRITE (R38) -/

/-- An offset that both banks allow. -/
theorem freqOfsWrite_runs (ht : takes .LTX_FREQ_OFS s = true) (hok : Ltx.offsetOk s (value % 65536) = true) :
    runs (.freqOfsWrite value) s (fun t => t.get F.LTX_FREQ_OFS_OFS = value % 65536 ∧ t.on H.LTX_OFS_PENDING = true) := by
  have hwrite : Ltx.writeFreqOfs value s = (s.put F.LTX_FREQ_OFS_OFS value).set H.LTX_OFS_PENDING := if_pos hok
  refine runs_alike rfl (ltxRow_alike ht rfl (by decide)) fun t ht => ⟨?_, ?_⟩
  · rw [ht.get (by decide), hwrite, get_set_ne (by decide), State_get_put_same _ _ _ _ _ _ (by decide)]
    rfl
  · rw [on_congr (ht.get (by decide)), hwrite, on_set (by decide) (by decide)]

/-- An offset that some bank does not allow. -/
theorem freqOfsWrite_refused_runs (ht : takes .LTX_FREQ_OFS s = true) (hok : Ltx.offsetOk s (value % 65536) = false) :
    runs (.freqOfsWrite value) s (fun t => t.get F.LTX_FREQ_OFS_OFS = s.get F.LTX_FREQ_OFS_OFS ∧
      t.get H.LTX_OFS_PENDING = s.get H.LTX_OFS_PENDING ∧ t.on F.LTX_INT_CAUSE_CFG_ERR = true) := by
  have hwrite : Ltx.writeFreqOfs value s = s.set F.LTX_INT_CAUSE_CFG_ERR := if_neg (by simp [hok])
  refine runs_alike rfl (ltxRow_alike ht rfl (by decide)) fun t ht => ⟨?_, ?_, ?_⟩
  · rw [ht.get (by decide), hwrite, get_set_ne (by decide)]
  · rw [ht.get (by decide), hwrite, get_set_ne (by decide)]
  · rw [on_congr (ht.get (by decide)), hwrite, on_set (by decide) (by decide)]

/-- Settles O24, with one lemma for each command: what its operation comes to under the conditions, read through the completion. -/
theorem transmitterCommandResults : Obligations.TransmitterCommandResults := by
  unfold Obligations.TransmitterCommandResults
  exact ⟨fun s => ltxEnable_runs, fun s => ltxEnable_refused_runs, fun s => ltxStart_runs, fun s => ltxDisable_runs,
    fun s value => hostMute_runs, fun s => muteResume_runs, fun s value => freqOfsWrite_runs, fun s value => freqOfsWrite_refused_runs⟩

end Sys2Proof.Proofs

/-! SUPPORT. The exchange of the loading banks at the end that a LOAD_SWAP belongs to (O25; R36, R69). -/
namespace Sys2Proof.Proofs
open Sys2Proof Sys2Proof.Machine Sys2Proof.Laws

variable {s t u v : State} {g : Machine.Field} {d k m n : Nat}

/-- The fields of an end of the line that an exchange of its banks writes. -/
structure BankEnd where
  active : Machine.Field
  shadow : Machine.Field
  actVer : Machine.Field
  shadowVer : Machine.Field
  bank : Machine.Field
  cause : Machine.Field
  ready : Machine.Field
  announced : Machine.Field
  due : Machine.Field

def ltxEnd : BankEnd where
  active := H.LTX_ACTIVE
  shadow := H.LTX_SHADOW
  actVer := H.LTX_ACT_VER
  shadowVer := H.LTX_SHADOW_VER
  bank := F.LTX_STAT_BANK
  cause := F.LTX_INT_CAUSE_LOAD_SWAP
  ready := F.LTX_STAT_SHADOW_READY
  announced := F.LTX_STAT_ANNOUNCED
  due := H.LTX_SWAP_DUE

def lrxEnd : BankEnd where
  active := H.LRX_ACTIVE
  shadow := H.LRX_SHADOW
  actVer := H.LRX_ACT_VER
  shadowVer := H.LRX_SHADOW_VER
  bank := F.LRX_STAT_BANK
  cause := F.LRX_INT_CAUSE_LOAD_SWAP
  ready := F.LRX_STAT_SHADOW_READY
  announced := F.LRX_STAT_ANNOUNCED
  due := H.LRX_SWAP_DUE

def lineEnds : List BankEnd := [ltxEnd, lrxEnd]

theorem ltxEnd_mem : ltxEnd ∈ lineEnds := .head _
theorem lrxEnd_mem : lrxEnd ∈ lineEnds := .tail _ (.head _)

namespace BankEnd

/-- What an exchange ends with, once the entries are exchanged. -/
def close (e : BankEnd) (s : State) : State :=
  let va := s.get e.actVer
  let s := (s.put e.actVer (s.get e.shadowVer)).put e.shadowVer va
  let s := (s.put e.bank (1 - s.get e.bank)).set e.cause
  ((s.clr e.ready).clr e.announced).clr e.due

/-- The versions and BANK, which the exchange of the entries leaves alone. -/
def marks (e : BankEnd) : List Machine.Field := [e.actVer, e.shadowVer, e.bank]

/-- The fields that the side effects of an entry's exchange leave alone. -/
def kept (e : BankEnd) : List Machine.Field := e.active :: e.shadow :: e.marks

/-- The entries are exchanged, and nothing else of the end yet. -/
def Swapped (e : BankEnd) (s t : State) : Prop :=
  (∀ k < 512, pairAt e.active e.shadow k 0 t = (pairAt e.active e.shadow k 0 s).swap) ∧ ∀ g ∈ e.marks, t.get g = s.get g

/-- The end has exchanged its banks: entry k, the versions, BANK, the cause, and the exchange is no longer due. -/
def Exchanged (e : BankEnd) (k : Nat) (s t : State) : Prop :=
  t.get e.active k = s.get e.shadow k ∧ t.get e.shadow k = s.get e.active k ∧ t.get e.actVer = s.get e.shadowVer ∧
  t.get e.shadowVer = s.get e.actVer ∧ t.get e.bank = 1 - s.get e.bank ∧ t.on e.cause = true ∧ t.on e.due = false

variable {e : BankEnd}

theorem kept_of_mark (hg : g ∈ e.marks) : g ∈ e.kept := List.mem_cons_of_mem _ (List.mem_cons_of_mem _ hg)

theorem swapped_of_moves (h : e.Swapped s t) (hm : Moves (Sparing e.kept) t u) : e.Swapped s u := by
  obtain ⟨hpair, hmark⟩ := h
  refine ⟨fun k hk => ?_, fun g hg => (get_of_sparing hm (kept_of_mark hg)).trans (hmark g hg)⟩
  rw [← hpair k hk]
  exact pairAt_congr (get_of_sparing hm (by simp [kept])) (get_of_sparing hm (by simp [kept]))

/-- A loop that exchanges the entries one by one, and writes no kept field beside. -/
theorem swapped_of_rounds (he : e ∈ lineEnds) {round : Nat → State → State}
    (hround : ∀ k t, Moves (Sparing e.kept) (exchange e.active e.shadow k 0 t) (round k t)) : e.Swapped s (s.each 512 round) := by
  obtain ⟨htwins, ha, hs, hmarks⟩ := (by decide : ∀ e ∈ lineEnds, twins e.active e.shadow = true ∧
    e.active.shape = shape1 e.active.shape.addr 512 4 ∧ e.shadow.shape = shape1 e.shadow.shape.addr 512 4 ∧
    ∀ g ∈ e.marks, apart e.active g = true ∧ apart e.shadow g = true) e he
  refine ⟨fun k hk => ?_, fun g hg => each_keeps (obs := fun t => t.get g) 512 fun b t _ => ?_⟩
  · refine each_exchanges htwins ?_ ?_ hk (by simp [kept]) (by simp [kept]) hround
    · rw [ha]
      simp [Shape.has, shape1, hk]
    · rw [hs]
      simp [Shape.has, shape1, hk]
  · obtain ⟨hactive, hshadow⟩ := hmarks g hg
    rw [get_of_sparing (hround b t) (kept_of_mark hg), exchange, get_put_ne hshadow, get_put_ne hactive]

theorem close_exchanges (he : e ∈ lineEnds) (h : e.Swapped s t) (hk : k < 512) : e.Exchanged k s (e.close t) := by
  obtain ⟨hpair, hmark⟩ := h
  have hentry := hpair k hk
  simp only [pairAt, Prod.swap, Prod.mk.injEq] at hentry
  obtain ⟨hactive, hshadow⟩ := hentry
  have hav := hmark e.actVer (by simp [marks])
  have hsv := hmark e.shadowVer (by simp [marks])
  have hbank := hmark e.bank (by simp [marks])
  obtain ⟨hw, hw1, hcause⟩ := (by decide : ∀ e ∈ lineEnds, e.actVer.width = e.shadowVer.width ∧ e.bank.width = 1 ∧
    (1 % 2 ^ e.cause.width != 0) = true) e he
  have hlt (f : Machine.Field) : t.get f < 2 ^ f.width := State_get_lt t f 0 0 0
  have hav' : t.get e.actVer % 2 ^ e.shadowVer.width = t.get e.actVer := Nat.mod_eq_of_lt (hw ▸ hlt e.actVer)
  have hsv' : t.get e.shadowVer % 2 ^ e.actVer.width = t.get e.shadowVer := Nat.mod_eq_of_lt (hw ▸ hlt e.shadowVer)
  have hbank' : (1 - t.get e.bank) % 2 ^ e.bank.width = 1 - t.get e.bank := by
    rw [hw1]
    omega
  simp only [lineEnds, List.mem_cons, List.not_mem_nil, or_false] at he
  rw [Exchanged, ← hactive, ← hshadow, ← hav, ← hsv, ← hbank]
  rcases he with rfl | rfl
  all_goals
    simp (disch := decide) only [close, State.on, State.set, State.clr, State_get_put_same, State_get_put_ne, hav', hsv', hbank', hcause,
      Nat.zero_mod, bne_self_eq_false, and_self]

theorem exchanged_of_alike (he : e ∈ lineEnds) (ht : Alike t u) (h : e.Exchanged k s t) : e.Exchanged k s u := by
  have hmem := (by decide : ∀ e ∈ lineEnds, ∀ g ∈ [e.active, e.shadow, e.actVer, e.shadowVer, e.bank, e.cause, e.due], g ∈ lineFields) e he
  rw [Exchanged, ht.get (hmem e.active (by simp)), ht.get (hmem e.shadow (by simp)), ht.get (hmem e.actVer (by simp)),
    ht.get (hmem e.shadowVer (by simp)), ht.get (hmem e.bank (by simp)), on_congr (ht.get (hmem e.cause (by simp))),
    on_congr (ht.get (hmem e.due (by simp)))]
  exact h

end BankEnd

theorem moves_ite {W : Part → Prop} {c : Prop} [Decidable c] (ht : Moves W s t) (hu : Moves W s u) : Moves W s (if c then t else u) := by
  split
  · exact ht
  · exact hu

/-- The exchange at the transmitter; streams that start are no field of the end. -/
theorem Ltx_swap_exchanges (hk : k < 512) : ltxEnd.Exchanged k s (Ltx.swap s) := by
  refine BankEnd.close_exchanges ltxEnd_mem (BankEnd.swapped_of_rounds ltxEnd_mem fun k t => ?_) hk
  exact moves_ite (Fec_startTx_moves (W := Sparing ltxEnd.kept) rfl rfl k .refl) .refl

/-- The exchange at the receiver; streams that start, locks, taps and tap sets are no fields of the end. -/
theorem Lrx_swap_exchanges (hk : k < 512) : lrxEnd.Exchanged k s (Lrx.swap s) := by
  have hstart (k : Nat) (c : Bool) (t : State) : Moves (Sparing lrxEnd.kept) t (if c then Fec.startRx k t else t) :=
    moves_ite (Fec_startRx_moves (W := Sparing lrxEnd.kept) rfl rfl rfl rfl rfl k .refl) .refl
  refine BankEnd.close_exchanges lrxEnd_mem (BankEnd.swapped_of_moves (BankEnd.swapped_of_rounds lrxEnd_mem fun k t => ?_)
    (Lrx_freeSets_moves (W := Sparing lrxEnd.kept) rfl .refl)) hk
  have h := hstart k (Fec.swapStarts (t.get H.LRX_ACTIVE k) (t.get H.LRX_SHADOW k)) (exchange H.LRX_ACTIVE H.LRX_SHADOW k 0 t)
  exact moves_ite .refl (moves_ite (.clr _ _ _ rfl (.clr _ _ _ rfl h)) (moves_ite (.clr _ _ _ rfl (.clr _ _ _ rfl (.put _ _ _ _ _ rfl h))) h))

/-- What goes with an exchange at SCM, at Ibex's channels and at a leaf's signal laser shows in no field of the line. -/
theorem loadSwap_alike (hd : d < 2) (hdue : Scm.swapDue s d = true) (hm : Tick.reached d s = some m)
    (hsince : Scm.mfSince m (if Scm.localTx s.leaf d then s.get H.LTX_SWAP_MF else s.get H.LRX_SWAP_MF) < 2 ^ 23) :
    Alike (if Scm.localTx s.leaf d then Ltx.swap s else Lrx.swap s) (Tick.loadSwap d s) := by
  unfold Tick.loadSwap
  generalize (if Scm.localTx s.leaf d then s.get H.LTX_SWAP_MF else s.get H.LRX_SWAP_MF) = due at hsince ⊢
  generalize (if Scm.localTx s.leaf d then Ltx.swap s else Lrx.swap s) = u
  have hnot : ¬(2 ≤ d ∨ ¬Scm.swapDue s d = true ∨ decide (2 ^ 23 ≤ Scm.mfSince m due) = true) := by
    rw [decide_eq_true_eq, not_or, not_or, not_not, not_le, not_le]
    exact ⟨hd, hdue, hsince⟩
  have hswapped : Moves (Sparing lineFields) u (Scm.swapped d due u) :=
    Scm_swapped_moves (W := Sparing lineFields) rfl rfl rfl rfl rfl rfl rfl rfl rfl rfl rfl d due .refl
  simp only [hm]
  rw [if_neg hnot]
  refine alike_of_moves (moves_ite (moves_ite (moves_ite ?_ hswapped) ?_) hswapped)
  · exact Vlk_aimLaser_moves (W := Sparing lineFields) rfl rfl rfl rfl rfl rfl rfl rfl rfl hswapped
  · exact Brx_recheck_moves (W := Sparing lineFields) rfl rfl rfl rfl rfl rfl rfl hswapped

/-- LOAD_SWAP of a direction whose bank is the transmitter's. -/
theorem loadSwap_tx_runs (hd : d < 2) (htx : Scm.localTx s.leaf d = true) (hdue : s.on H.LTX_SWAP_DUE = true)
    (hm : Tick.reached d s = some m) (hsince : Scm.mfSince m (s.get H.LTX_SWAP_MF) < 2 ^ 23) (hk : k < 512) :
    runs (.loadSwap d) s (ltxEnd.Exchanged k s) := by
  have h := loadSwap_alike hd (by rwa [Scm.swapDue, if_pos htx]) hm (by rwa [if_pos htx])
  rw [if_pos htx] at h
  exact runs_alike_mirrored rfl h fun t ht => BankEnd.exchanged_of_alike ltxEnd_mem ht (Ltx_swap_exchanges hk)

/-- LOAD_SWAP of a direction whose bank is the receiver's. -/
theorem loadSwap_rx_runs (hd : d < 2) (hrx : Scm.localTx s.leaf d = false) (hdue : s.on H.LRX_SWAP_DUE = true)
    (hm : Tick.reached d s = some m) (hsince : Scm.mfSince m (s.get H.LRX_SWAP_MF) < 2 ^ 23) (hk : k < 512) :
    runs (.loadSwap d) s (lrxEnd.Exchanged k s) := by
  have hrx' : ¬Scm.localTx s.leaf d = true := by simp [hrx]
  have h := loadSwap_alike hd (by rwa [Scm.swapDue, if_neg hrx']) hm (by rwa [if_neg hrx'])
  rw [if_neg hrx'] at h
  exact runs_alike_mirrored rfl h fun t ht => BankEnd.exchanged_of_alike lrxEnd_mem ht (Lrx_swap_exchanges hk)

end Sys2Proof.Proofs

/-! SUPPORT. The other commands of the transmit path where their conditions hold (O25; R38 to R43, R46). -/
namespace Sys2Proof.Proofs
open Sys2Proof Sys2Proof.Machine Sys2Proof.Laws

variable {s t u : State} {f g : Machine.Field} {blocks d i j k m n value x : Nat}

/-! ### The frequency offset and the pre-compensation's fades (R38 to R40) -/

/-- FREQ_OFS_APPLY. -/
theorem freqOfsApply_runs (hpend : s.on H.LTX_OFS_PENDING = true) :
    runs .freqOfsApply s (fun t => t.get H.LTX_OFS_NOW = s.get F.LTX_FREQ_OFS_OFS ∧ t.on H.LTX_OFS_PENDING = false) := by
  have happly : Ltx.applyFreqOfs s = (s.clr H.LTX_OFS_PENDING).put H.LTX_OFS_NOW (s.get F.LTX_FREQ_OFS_OFS) := if_pos hpend
  refine runs_alike rfl (.refl (Ltx.applyFreqOfs s)) fun t ht => ⟨?_, ?_⟩
  · rw [ht.get (by decide), happly, State_get_put_same _ _ _ _ _ _ (by decide)]
    exact Nat.mod_eq_of_lt (State_get_lt s F.LTX_FREQ_OFS_OFS 0 0 0)
  · rw [on_congr (ht.get (by decide)), happly, on_congr (get_put_ne (by decide)), on_clr]

theorem startFade_fading (x : Nat) : (Ltx.startFade x s).on F.LTX_STAT_CD_FADING = true := by
  rw [Ltx.startFade, on_congr (get_put_ne (by decide)), on_congr (get_put_ne (by decide)), on_set (by decide) (by decide)]

theorem startFade_target (h : x < 2 ^ 22) : (Ltx.startFade x s).get H.LTX_D_FADE = x := by
  rw [Ltx.startFade, get_put_ne (by decide), State_get_put_same _ _ _ _ _ _ (by decide)]
  exact Nat.mod_eq_of_lt h

/-- What a GO within D_max in hub role comes to. -/
theorem cdpreGo_eq (hleaf : s.leaf = false) (hd : Ltx.withinDmax (s.sget F.LTX_CDPRE_D).natAbs (s.get F.LTX_LINE_CFG_BAUD_MBD) = true) :
    Ltx.cdpreGo s = if s.on F.LTX_STAT_CD_FADING then (s.set H.LTX_GO_HELD).put H.LTX_D_HELD (s.get F.LTX_CDPRE_D)
      else Ltx.startFade (s.get F.LTX_CDPRE_D) s := by
  rw [Ltx.cdpreGo, if_neg (by simp [hleaf]), if_neg (by simp [hd])]

/-- CDPRE_GO. -/
theorem cdpreGo_runs (ht : takes .LTX_CDPRE_CTRL s = true) (hleaf : s.leaf = false)
    (hd : Ltx.withinDmax (s.sget F.LTX_CDPRE_D).natAbs (s.get F.LTX_LINE_CFG_BAUD_MBD) = true) :
    runs .cdpreGo s (fun t => t.on F.LTX_STAT_CD_FADING = true ∧
      (s.on F.LTX_STAT_CD_FADING = false → t.get H.LTX_D_FADE = s.get F.LTX_CDPRE_D) ∧
      (s.on F.LTX_STAT_CD_FADING = true → t.on H.LTX_GO_HELD = true ∧ t.get H.LTX_D_HELD = s.get F.LTX_CDPRE_D)) := by
  have hlt : s.get F.LTX_CDPRE_D < 2 ^ 22 := State_get_lt s F.LTX_CDPRE_D 0 0 0
  refine runs_alike rfl (ltxRow_alike ht rfl (by decide)) fun t ht => ?_
  rw [on_congr (ht.get (by decide)), ht.get (by decide), on_congr (ht.get (by decide)), ht.get (by decide), cdpreGo_eq hleaf hd]
  rcases hf : s.on F.LTX_STAT_CD_FADING
  · rw [if_neg (by decide)]
    exact ⟨startFade_fading _, fun _ => startFade_target hlt, nofun⟩
  · rw [if_pos rfl]
    refine ⟨?_, nofun, fun _ => ⟨?_, ?_⟩⟩
    · rw [on_congr (get_put_ne (by decide)), on_congr (get_set_ne (by decide)), hf]
    · rw [on_congr (get_put_ne (by decide)), on_set (by decide) (by decide)]
    · rw [State_get_put_same _ _ _ _ _ _ (by decide)]
      exact Nat.mod_eq_of_lt hlt

/-- The machine as a fade has ended, before a held GO starts. -/
def fadeEnded (s : State) : State := ((s.clr F.LTX_STAT_CD_FADING).put H.LTX_D_NOW (s.get H.LTX_D_FADE)).set F.LTX_INT_CAUSE_CD_DONE

theorem fadeEnded_get (h : [F.LTX_STAT_CD_FADING, H.LTX_D_NOW, F.LTX_INT_CAUSE_CD_DONE].all (fun f => apart f g) = true) :
    (fadeEnded s).get g i j k = s.get g i j k := by
  simp only [List.all_cons, List.all_nil, Bool.and_true, Bool.and_eq_true] at h
  obtain ⟨hfading, hnow, hdone⟩ := h
  rw [fadeEnded, get_set_ne hdone, get_put_ne hnow, get_clr_ne hfading]

theorem fadeEnded_now : (fadeEnded s).get H.LTX_D_NOW = s.get H.LTX_D_FADE := by
  rw [fadeEnded, get_set_ne (by decide), State_get_put_same _ _ _ _ _ _ (by decide)]
  exact Nat.mod_eq_of_lt (State_get_lt s H.LTX_D_FADE 0 0 0)

theorem fadeEnded_done : (fadeEnded s).on F.LTX_INT_CAUSE_CD_DONE = true := on_set (by decide) (by decide)

theorem fadeEnded_fading : (fadeEnded s).get F.LTX_STAT_CD_FADING = 0 := by
  rw [fadeEnded, get_set_ne (by decide), get_put_ne (by decide), get_clr]

theorem cdpreDone_eq (hf : s.on F.LTX_STAT_CD_FADING = true) (hlen : s.get H.LTX_FADE_LEN ≤ blocks) :
    Ltx.cdpreDone blocks s = if s.on H.LTX_GO_HELD then Ltx.startFade (s.get H.LTX_D_HELD) ((fadeEnded s).clr H.LTX_GO_HELD)
      else fadeEnded s := by
  have hheld : (fadeEnded s).on H.LTX_GO_HELD = s.on H.LTX_GO_HELD := on_congr (fadeEnded_get (by decide))
  have hnext : (fadeEnded s).get H.LTX_D_HELD = s.get H.LTX_D_HELD := fadeEnded_get (by decide)
  rw [← hheld, ← hnext]
  exact if_pos (by simp [hf, hlen])

/-- A one-bit field that is set holds 1, and one that is not holds 0. -/
theorem get_of_on (hw : f.width = 1) : s.get f i j k = b01 (s.on f i j k) := by
  have hlt : s.get f i j k < 2 := by simpa [hw] using State_get_lt s f i j k
  unfold State.on b01
  interval_cases s.get f i j k <;> rfl

/-- CDPRE_FADE_DONE. -/
theorem cdpreFadeDone_runs (hf : s.on F.LTX_STAT_CD_FADING = true) (hlen : s.get H.LTX_FADE_LEN ≤ blocks) :
    runs (.cdpreFadeDone blocks) s (fun t => t.get H.LTX_D_NOW = s.get H.LTX_D_FADE ∧ t.on F.LTX_INT_CAUSE_CD_DONE = true ∧
      t.get F.LTX_STAT_CD_FADING = s.get H.LTX_GO_HELD ∧ (s.on H.LTX_GO_HELD = true → t.get H.LTX_D_FADE = s.get H.LTX_D_HELD)) := by
  refine runs_alike rfl (.refl (Ltx.cdpreDone blocks s)) fun t ht => ?_
  rw [ht.get (by decide), on_congr (ht.get (by decide)), ht.get (by decide), ht.get (by decide), cdpreDone_eq hf hlen,
    get_of_on (s := s) (f := H.LTX_GO_HELD) rfl]
  rcases hg : s.on H.LTX_GO_HELD
  · rw [if_neg (by decide)]
    exact ⟨fadeEnded_now, fadeEnded_done, fadeEnded_fading, nofun⟩
  · rw [if_pos rfl]
    have hstart (x : Nat) : Moves (Sparing [H.LTX_D_NOW, F.LTX_INT_CAUSE_CD_DONE]) (fadeEnded s)
        (Ltx.startFade x ((fadeEnded s).clr H.LTX_GO_HELD)) :=
      Ltx_startFade_moves (W := Sparing [H.LTX_D_NOW, F.LTX_INT_CAUSE_CD_DONE]) rfl rfl rfl x (.clr _ _ _ rfl .refl)
    refine ⟨?_, ?_, ?_, fun _ => startFade_target (State_get_lt s H.LTX_D_HELD 0 0 0)⟩
    · rw [get_of_sparing (hstart _) (by decide), fadeEnded_now]
    · rw [on_congr (get_of_sparing (hstart _) (by decide)), fadeEnded_done]
    · rw [get_of_on rfl, startFade_fading]

/-! ### The lanes' skew (R41) -/

/-- Every lane is at its value. -/
def arrived (s : State) : Bool := (List.range 4).all (fun i => s.get F.LTX_SKEW_SKEW i == s.get H.LTX_SKEW_NOW i)

theorem arrived_iff : arrived s = true ↔ ∀ d < 4, s.get F.LTX_SKEW_SKEW d = s.get H.LTX_SKEW_NOW d := by
  simp [arrived]

/-- Every lane moves by at most n steps. -/
def slewed (n : Nat) (s : State) : State :=
  s.each 4 (fun d t => t.sput H.LTX_SKEW_NOW (Ltx.approach n (t.sget H.LTX_SKEW_NOW d) (t.sget F.LTX_SKEW_SKEW d)) d)

theorem approach_range {lo hi now target : Int} (hn : lo ≤ now ∧ now < hi) (ht : lo ≤ target ∧ target < hi) :
    lo ≤ Ltx.approach n now target ∧ Ltx.approach n now target < hi := by
  unfold Ltx.approach clampInt
  split_ifs <;> omega

theorem approach_arrives {now target : Int} (h : (target - now).natAbs ≤ n) : Ltx.approach n now target = target := by
  unfold Ltx.approach clampInt
  split_ifs <;> omega

theorem sget_skew_range (hw : f.width = 12) : -2 ^ 11 ≤ s.sget f i j k ∧ s.sget f i j k < 2 ^ 11 := by
  have h := signed_range (w := f.width) (by omega) (s.get f i j k)
  rw [hw] at h
  rwa [State.sget, hw]

/-- A lane's skew and the value it moves to, as numbers. -/
def lane (d : Nat) (s : State) : Int × Int := (s.sget H.LTX_SKEW_NOW d, s.sget F.LTX_SKEW_SKEW d)

theorem slewed_lane (hd : d < 4) :
    lane d (slewed n s) = (Ltx.approach n (s.sget H.LTX_SKEW_NOW d) (s.sget F.LTX_SKEW_SKEW d), s.sget F.LTX_SKEW_SKEW d) := by
  have hhas : H.LTX_SKEW_NOW.shape.has d 0 0 = true := by simp [Shape.has, H.LTX_SKEW_NOW, fld, shape1, hd]
  refine each_changes_once (obs := lane d) (step := fun p => (Ltx.approach n p.1 p.2, p.2)) hd (fun t => ?_) (fun b t hb => ?_)
  · obtain ⟨hlo, hhi⟩ := approach_range (n := n) (sget_skew_range (s := t) (i := d) (j := 0) (k := 0) (f := H.LTX_SKEW_NOW) rfl)
      (sget_skew_range (s := t) (i := d) (j := 0) (k := 0) (f := F.LTX_SKEW_SKEW) rfl)
    exact Prod.ext (sget_sput hhas (by decide) hlo hhi) (sget_congr (get_put_ne (by decide)))
  · exact Prod.ext (sget_congr (get_put_other (by decide) hb.symm)) (sget_congr (get_put_ne (by decide)))

theorem skewBlocks_eq : Ltx.skewBlocks n s = if arrived (slewed n s) then (slewed n s).clr F.LTX_STAT_SKEW_SLEW else slewed n s := rfl

theorem skewBlocks_get (h : apart F.LTX_STAT_SKEW_SLEW g = true) : (Ltx.skewBlocks n s).get g i j k = (slewed n s).get g i j k := by
  rw [skewBlocks_eq]
  split
  · exact get_clr_ne h
  · rfl

/-- The full range of a skew is 4,095 steps. -/
theorem slewed_arrives (hn : 4095 ≤ n) (hd : d < 4) : (slewed n s).get H.LTX_SKEW_NOW d = s.get F.LTX_SKEW_SKEW d ∧
    (slewed n s).get F.LTX_SKEW_SKEW d = s.get F.LTX_SKEW_SKEW d := by
  have hlane := slewed_lane (s := s) (n := n) hd
  obtain ⟨hlo, hhi⟩ := sget_skew_range (s := s) (i := d) (j := 0) (k := 0) (f := H.LTX_SKEW_NOW) rfl
  obtain ⟨hlo', hhi'⟩ := sget_skew_range (s := s) (i := d) (j := 0) (k := 0) (f := F.LTX_SKEW_SKEW) rfl
  rw [approach_arrives (by omega), lane, Prod.mk.injEq] at hlane
  obtain ⟨hnow, hskew⟩ := hlane
  have hvalue : s.get F.LTX_SKEW_SKEW d = unsigned 12 (s.sget F.LTX_SKEW_SKEW d) := get_eq_unsigned_sget
  rw [hvalue, get_eq_unsigned_sget, hnow, get_eq_unsigned_sget (f := F.LTX_SKEW_SKEW), hskew]
  exact ⟨rfl, rfl⟩

/-- SKEW_SLEW_DONE. -/
theorem skewSlewDone_runs (hd : d < 4) :
    runs (.skewSlewDone blocks) s (fun t =>
      t.sget H.LTX_SKEW_NOW d = Ltx.approach blocks (s.sget H.LTX_SKEW_NOW d) (s.sget F.LTX_SKEW_SKEW d) ∧
      (4095 ≤ blocks → t.get H.LTX_SKEW_NOW d = s.get F.LTX_SKEW_SKEW d ∧ t.on F.LTX_STAT_SKEW_SLEW = false)) := by
  refine runs_alike rfl (.refl (Ltx.skewBlocks blocks s)) fun t ht => ⟨?_, fun hn => ⟨?_, ?_⟩⟩
  · rw [sget_congr (ht.get (by decide)), sget_congr (skewBlocks_get (by decide))]
    exact congrArg Prod.fst (slewed_lane hd)
  · obtain ⟨hnow, -⟩ := slewed_arrives (s := s) hn hd
    rw [ht.get (by decide), skewBlocks_get (by decide), hnow]
  · have harr : arrived (slewed blocks s) = true := arrived_iff.mpr fun d hd => by
      obtain ⟨hnow, hskew⟩ := slewed_arrives (s := s) hn hd
      rw [hnow, hskew]
    rw [on_congr (ht.get (by decide)), skewBlocks_eq, if_pos harr, on_clr]

/-- SKEW_WRITE of a value that the lane is not at. -/
theorem skewWrite_runs (ht : takes .LTX_SKEW s = true) (hd : d < 4) (hv : value % 4096 ≠ s.get H.LTX_SKEW_NOW d) :
    runs (.skewWrite d value) s (fun t => t.get F.LTX_SKEW_SKEW d = value % 4096 ∧ t.on F.LTX_STAT_SKEW_SLEW = true) := by
  have hhas : S.LTX_SKEW.has d 0 0 = true := by simp [Shape.has, S.LTX_SKEW, shape1, hd]
  have hskew : (s.put F.LTX_SKEW_SKEW value d).get F.LTX_SKEW_SKEW d = value % 4096 := State_get_put_same _ _ _ _ _ _ hhas
  have hnot : ¬arrived (s.put F.LTX_SKEW_SKEW value d) = true := fun h => by
    have h' := arrived_iff.mp h d hd
    rw [hskew, get_put_ne (by decide)] at h'
    exact hv h'
  have hwrite : Ltx.writeSkew d value s = (s.put F.LTX_SKEW_SKEW value d).set F.LTX_STAT_SKEW_SLEW := if_neg hnot
  refine runs_alike rfl (ltxRow_alike ht hhas (by decide)) fun t ht => ⟨?_, ?_⟩
  · rw [ht.get (by decide), hwrite, get_set_ne (by decide), hskew]
  · rw [on_congr (ht.get (by decide)), hwrite, on_set (by decide) (by decide)]

/-! ### Pre-emphasis and pre-distortion (R42, R43) -/

/-- PEQ_SWAP. -/
theorem peqSwap_runs (ht : takes .LTX_CTRL s = true) : runs .peqSwap s (fun t => t.on F.LTX_STAT_PEQ_PENDING = true) := by
  refine runs_alike rfl (ltxRow_alike ht rfl (by decide)) fun t ht => ?_
  rw [on_congr (ht.get (by decide)), Ltx.peqRequest, on_set (by decide) (by decide)]

/-- PD_SWAP. -/
theorem pdSwap_runs (ht : takes .LTX_CTRL s = true) : runs .pdSwap s (fun t => t.on F.LTX_STAT_PD_PENDING = true) := by
  refine runs_alike rfl (ltxRow_alike ht rfl (by decide)) fun t ht => ?_
  rw [on_congr (ht.get (by decide)), Ltx.pdRequest, on_set (by decide) (by decide)]

theorem peqApply_eq (h : s.on F.LTX_STAT_PEQ_PENDING = true) : Ltx.peqApply s =
    (s.each 4 fun d t => t.each 15 (exchange H.LTX_PEQ_ACTIVE F.LTX_PEQ_TAP d)).clr F.LTX_STAT_PEQ_PENDING := if_pos h

theorem pdApply_eq (h : s.on F.LTX_STAT_PD_PENDING = true) : Ltx.pdApply s =
    (s.each 4 fun d t => t.each 65 (exchange H.LTX_PD_ACTIVE F.LTX_PD_LUT_Y d)).clr F.LTX_STAT_PD_PENDING := if_pos h

/-- The banks of all lanes exchange, and the request f is done. -/
theorem lanes_exchanged {act stage : Machine.Field} (hb : twins act stage = true) (ha : act.shape.has d x 0 = true)
    (hs : stage.shape.has d x 0 = true) (hd : d < m) (hx : x < n) (hfa : apart f act = true) (hfs : apart f stage = true)
    (hu : u = (s.each m fun d t => t.each n (exchange act stage d)).clr f) :
    u.get act d x = s.get stage d x ∧ u.get stage d x = s.get act d x ∧ u.on f = false := by
  have hpair := each_each_exchanges (s := s) hb ha hs hd hx
  simp only [pairAt, Prod.swap, Prod.mk.injEq] at hpair
  rw [hu, get_clr_ne hfa, get_clr_ne hfs, on_clr]
  obtain ⟨hact, hstage⟩ := hpair
  exact ⟨hact, hstage, rfl⟩

/-- PEQ_SWAP_APPLY. -/
theorem peqSwapApply_runs (hpend : s.on F.LTX_STAT_PEQ_PENDING = true) (hd : d < 4) (hx : x < 15) :
    runs .peqSwapApply s (fun t => t.get H.LTX_PEQ_ACTIVE d x = s.get F.LTX_PEQ_TAP d x ∧
      t.get F.LTX_PEQ_TAP d x = s.get H.LTX_PEQ_ACTIVE d x ∧ t.on F.LTX_STAT_PEQ_PENDING = false) := by
  refine runs_alike rfl (.refl (Ltx.peqApply s)) fun t ht => ?_
  rw [ht.get (by decide), ht.get (by decide), on_congr (ht.get (by decide))]
  exact lanes_exchanged (by decide) (by simp [Shape.has, H.LTX_PEQ_ACTIVE, fldT, shape2, hd, hx])
    (by simp [Shape.has, F.LTX_PEQ_TAP, S.LTX_PEQ, fldT, shape2, hd, hx]) hd hx (by decide) (by decide) (peqApply_eq hpend)

/-- PD_SWAP_APPLY. -/
theorem pdSwapApply_runs (hpend : s.on F.LTX_STAT_PD_PENDING = true) (hd : d < 4) (hx : x < 65) :
    runs .pdSwapApply s (fun t => t.get H.LTX_PD_ACTIVE d x = s.get F.LTX_PD_LUT_Y d x ∧
      t.get F.LTX_PD_LUT_Y d x = s.get H.LTX_PD_ACTIVE d x ∧ t.on F.LTX_STAT_PD_PENDING = false) := by
  refine runs_alike rfl (.refl (Ltx.pdApply s)) fun t ht => ?_
  rw [ht.get (by decide), ht.get (by decide), on_congr (ht.get (by decide))]
  exact lanes_exchanged (by decide) (by simp [Shape.has, H.LTX_PD_ACTIVE, fldT, shape2, hd, hx])
    (by simp [Shape.has, F.LTX_PD_LUT_Y, S.LTX_PD_LUT, fldT, shape2, hd, hx]) hd hx (by decide) (by decide) (pdApply_eq hpend)

/-! ### The converters' clocks (R46) -/

/-- READY of the converters and what waits at BST show in no field of the line. -/
theorem unwait_refresh_alike (s : State) : Alike s (Bst.unwait (Cvt.refresh s)) :=
  alike_of_moves (Bst_unwait_moves (W := Sparing lineFields) rfl (Cvt_refresh_moves (W := Sparing lineFields) rfl rfl .refl))

/-- CONVERTER_CLOCK_LOCK of the DACs. -/
theorem dacClockLock_runs (hfs : s.get F.CVT_DAC_FS_FS_MHZ ≠ 0) :
    runs (.converterClockLock true) s (fun t => t.on F.CVT_DAC_STAT_CLK_LOCK = true) := by
  have hlock : Cvt.clockLock true s = Cvt.refresh (s.set F.CVT_DAC_STAT_CLK_LOCK) := (if_pos rfl).trans (if_neg hfs)
  refine runs_alike (congrArg (fun u => done s (Bst.unwait u)) hlock) (unwait_refresh_alike _) fun t ht => ?_
  rw [on_congr (ht.get (by decide)), on_set (by decide) (by decide)]

/-- CONVERTER_CLOCK_LOCK of the ADCs. -/
theorem adcClockLock_runs (hfs : s.get F.CVT_ADC_FS_FS_MHZ ≠ 0) :
    runs (.converterClockLock false) s (fun t => t.on F.CVT_ADC_STAT_CLK_LOCK = true) := by
  have hlock : Cvt.clockLock false s = Cvt.refresh (s.set F.CVT_ADC_STAT_CLK_LOCK) := (if_neg nofun).trans (if_neg hfs)
  refine runs_alike (congrArg (fun u => done s (Bst.unwait u)) hlock) (unwait_refresh_alike _) fun t ht => ?_
  rw [on_congr (ht.get (by decide)), on_set (by decide) (by decide)]

/-- Settles O25, with one lemma for each command: what its operation comes to under the conditions, read through the completion. -/
theorem transmitterPathResults : Obligations.TransmitterPathResults := by
  unfold Obligations.TransmitterPathResults
  exact ⟨fun s d m k => loadSwap_tx_runs, fun s d m k => loadSwap_rx_runs, fun s => freqOfsApply_runs, fun s => cdpreGo_runs,
    fun s blocks => cdpreFadeDone_runs, fun s d value => skewWrite_runs, fun s blocks d => skewSlewDone_runs, fun s => peqSwap_runs,
    fun s d x => peqSwapApply_runs, fun s => pdSwap_runs, fun s d x => pdSwapApply_runs, fun s => dacClockLock_runs,
    fun s => adcClockLock_runs⟩

end Sys2Proof.Proofs

/-! SUPPORT. Rules for what the operations of the line receiver have in common (O26, O27; R53, R55, R57, R64): what a written field reads, what
each shared operation leaves alone, and what the count of an access and a new enable leave. -/
namespace Sys2Proof.Proofs
open Sys2Proof Sys2Proof.Machine Sys2Proof.Laws

variable {s t u : State} {f g : Machine.Field} {b i j k m n v x y z : Nat} {l : List Machine.Field}

/-! ### Fields -/

/-- The field is apart from every field of a list. -/
def clearOf (l : List Machine.Field) (g : Machine.Field) : Bool := l.all (fun f => apart f g)

theorem misses_of_clearOf (h : clearOf l g = true) (hf : f ∈ l) : Misses g (.fld f) := List.all_eq_true.mp h f hf

theorem on_put_ne (h : apart f g = true) : (s.put f n i j k).on g x y z = s.on g x y z := on_congr (get_put_ne h)
theorem on_set_ne (h : apart f g = true) : (s.set f i j k).on g x y z = s.on g x y z := on_congr (get_set_ne h)
theorem on_clr_ne (h : apart f g = true) : (s.clr f i j k).on g x y z = s.on g x y z := on_congr (get_clr_ne h)
theorem get_sput_ne {v : Int} (h : apart f g = true) : (s.sput f v i j k).get g x y z = s.get g x y z := get_put_ne h
theorem get_count_ne (h : apart f g = true) : (s.count f n i j k).get g x y z = s.get g x y z := get_put_ne h
theorem on_settle : (settle s t).on g i j k = t.on g i j k := on_congr (settle_get ..)

/-- A field takes a value within its width. -/
theorem get_put_lt (hf : f.shape.has i j k = true) (h : v < 2 ^ f.width) : (s.put f v i j k).get f i j k = v :=
  (State_get_put_same _ _ _ _ _ _ hf).trans (Nat.mod_eq_of_lt h)

/-- A field takes what a field no wider holds. -/
theorem get_put_get (hf : f.shape.has i j k = true) (hw : g.width ≤ f.width) : (s.put f (t.get g x y z) i j k).get f i j k = t.get g x y z :=
  get_put_lt hf (Nat.lt_of_lt_of_le (State_get_lt ..) (Nat.pow_le_pow_right (by decide) hw))

theorem unsigned_lt (w : Nat) (v : Int) : unsigned w v < 2 ^ w :=
  (Int.toNat_lt' (Nat.two_pow_pos _)).mpr (Int.emod_lt_of_pos _ (by positivity))

/-- A field takes the pattern of a number. -/
theorem get_sput {v : Int} (hf : f.shape.has i j k = true) : (s.sput f v i j k).get f i j k = unsigned f.width v :=
  get_put_lt hf (unsigned_lt ..)

/-! ### Locks and states (R64, R65) -/

def relockFields : List Machine.Field := [F.LRX_SC_STAT_LOCK, H.LRX_WIN_LOCK]

theorem relock_get {acq : Bool} (h : clearOf relockFields g = true) : (Lrx.relock acq s).get g i j k = s.get g i j k :=
  (Lrx_relock_moves (misses_of_clearOf h (by decide)) (misses_of_clearOf h (by decide)) acq .refl).get_misses

def enterFields : List Machine.Field := [F.LRX_INT_CAUSE_TRACK, F.LRX_INT_CAUSE_TRACK_LOST, F.LRX_STAT_STATE]

theorem enter_get (h : clearOf enterFields g = true) : (Lrx.enter n s).get g i j k = s.get g i j k :=
  (Lrx_enter_moves (misses_of_clearOf h (by decide)) (misses_of_clearOf h (by decide)) (misses_of_clearOf h (by decide)) n .refl).get_misses

theorem enter_state (hn : n < 8) : (Lrx.enter n s).get F.LRX_STAT_STATE = n := get_put_lt (by decide) hn

/-- Leaving TRACK sets TRACK_LOST. -/
theorem enter_leaves_track (hs : s.get F.LRX_STAT_STATE = 5) (hn : n ≠ 5) : (Lrx.enter n s).on F.LRX_INT_CAUSE_TRACK_LOST = true := by
  rw [Lrx.enter, on_put_ne (by decide), if_neg (fun h => hn h.1), if_pos ⟨hs, hn⟩, on_set (by decide) (by decide)]

/-- Entering TRACK sets TRACK. -/
theorem enter_reaches_track (hs : s.get F.LRX_STAT_STATE ≠ 5) : (Lrx.enter 5 s).on F.LRX_INT_CAUSE_TRACK = true := by
  have hstay : ¬(Lrx.state s = 5 ∧ 5 ≠ 5) := fun h => hs h.1
  rw [Lrx.enter, if_neg hstay, on_put_ne (by decide), if_pos ⟨rfl, hs⟩, on_set (by decide) (by decide)]

def enterCdFields : List Machine.Field := relockFields ++ enterFields ++ [H.LRX_TAPS, H.LRX_QUAD, H.LRX_LLR_HOLD]

theorem enterCd_get (h : clearOf enterCdFields g = true) : (Lrx.enterCd s).get g i j k = s.get g i j k := by
  refine Moves.get_misses ?_
  apply Lrx_enterCd_moves (h := .refl) <;> exact misses_of_clearOf h (by decide)

/-- What follows the change of state in CD's entry leaves STATE alone. -/
theorem enterCd_state : (Lrx.enterCd s).get F.LRX_STAT_STATE = 2 := by
  have hrest : Moves (Misses F.LRX_STAT_STATE) (Lrx.enter 2 s) (Lrx.enterCd s) :=
    .clr _ _ _ rfl (.each _ (Lrx_relock_moves (W := Misses F.LRX_STAT_STATE) rfl rfl false .refl) fun k t h => .clr _ _ _ rfl (.clr _ _ _ rfl h))
  rw [hrest.get_misses, enter_state (by decide)]

/-! ### Fades (R53) and taps (R57) -/

def fadeFields : List Machine.Field := [F.LRX_STAT_CD_FADING, H.LRX_D_FADE, H.LRX_FADE_LEN]

theorem Lrx_startFade_get (h : clearOf fadeFields g = true) : (Lrx.startFade x s).get g i j k = s.get g i j k :=
  (Lrx_startFade_moves (misses_of_clearOf h (by decide)) (misses_of_clearOf h (by decide)) (misses_of_clearOf h (by decide)) x .refl).get_misses

theorem Lrx_startFade_fading : (Lrx.startFade x s).on F.LRX_STAT_CD_FADING = true := by
  rw [Lrx.startFade, on_put_ne (by decide), on_put_ne (by decide), on_set (by decide) (by decide)]

theorem Lrx_startFade_target (h : x < 2 ^ 22) : (Lrx.startFade x s).get H.LRX_D_FADE = x := by
  rw [Lrx.startFade, get_put_ne (by decide), get_put_lt (by decide) h]

theorem adapt_get (h : apart H.LRX_TAPS g = true) : (Lrx.adapt m s).get g i j k = s.get g i j k :=
  (Lrx_adapt_moves (W := Misses g) h m .refl).get_misses

/-- EQ_FREEZE freezes the taps. -/
theorem adapt_frozen (h : s.on F.LRX_CTRL_EQ_FREEZE = true) : Lrx.adapt m s = s := if_pos (by rw [h]; rfl)

/-! ### Writes of the receiver's registers -/

/-- What the look of CAL and BST at a new enable may write (R318). -/
def enableFollows : List Machine.Field :=
  [F.CAL_INT_CAUSE_ABORTED, F.CAL_STAT_STATE, F.HKA_STAT_CAL_HOLD, F.HKA_STAT_INJ_PEND, F.HKA_STAT_STATE, H.BST_WAITING, H.CAL_RETRY,
   H.HKA_CAL_WAIT, H.HKA_CUR, H.HKA_RUN, H.HKA_SEQ_STATE, H.HKA_TICKS]

theorem lineWritten_get (h : clearOf enableFollows g = true) : (Bus.lineWritten s t).get g i j k = t.get g i j k := by
  refine Moves.get_misses ?_
  apply Bus_lineWritten_moves (h := .refl) <;> exact misses_of_clearOf h (by decide)

/-- A field that neither the count of an access to LRX nor what follows an enable may write. -/
def unfollowed (g : Machine.Field) : Bool := clearOf (counters ++ enableFollows) g

/-- A write that reaches LRX reads as its effect does. -/
theorem lrxRow_get {r : RegId} {dword : Nat → Nat} {eff : State → State} (ht : takes r s = true) (hi : r.shape.has i j 0 = true)
    (hb : Sys.blockOf (r.barAddr 0 0 0) = 19) (hg : unfollowed g = true) :
    (Bus.row Bus.host r i j dword eff s).get g x y z = (eff s).get g x y z := by
  rw [unfollowed, clearOf, List.all_append, Bool.and_eq_true] at hg
  obtain ⟨hc, hf⟩ := hg
  rw [row_takes _ _ ht hi, access_get _ _ _ _ _ g x y z hc, hb]
  exact lineWritten_get hf

section
variable {c : Instr} {r : RegId} {dword : Nat → Nat} {eff : State → State} {p : State → Prop}

/-- The completion of such a write, without the mirror records and with them. -/
theorem runs_lrxRow (hc : exec c s = done s (Bus.row Bus.host r 0 0 dword eff s)) (ht : takes r s = true) (hi : r.shape.has 0 0 0 = true)
    (hb : Sys.blockOf (r.barAddr 0 0 0) = 19) (hp : ∀ t, (∀ g, unfollowed g = true → t.get g = (eff s).get g) → p t) : runs c s p :=
  runs_done hc (hp _ fun _ hg => (settle_get ..).trans (lrxRow_get ht hi hb hg))

theorem runs_lrxRow_mirrored (hc : exec c s = Access.doneMirrored s (Bus.row Bus.host r 0 0 dword eff s)) (ht : takes r s = true)
    (hi : r.shape.has 0 0 0 = true) (hb : Sys.blockOf (r.barAddr 0 0 0) = 19)
    (hp : ∀ t, (∀ g, unfollowed g = true → t.get g = (eff s).get g) → p t) : runs c s p :=
  runs_mirrored hc (hp _ fun _ hg => (settle_get ..).trans ((mirror_get ..).trans (lrxRow_get ht hi hb hg)))

end

end Sys2Proof.Proofs

/-! SUPPORT. The commands of the receiver's acquisition where their conditions hold (O26; R51 to R55, R60, R64, R72, R73). -/
namespace Sys2Proof.Proofs
open Sys2Proof Sys2Proof.Machine Sys2Proof.Laws

variable {s t u : State} {g : Machine.Field} {blocks i j k rms spread : Nat} {est ofs : Int}

/-! ### LRX_ENABLE and LRX_DISABLE (R72, R73) -/

theorem Lrx_check_lt (s : State) : Lrx.check s < 8 := by
  unfold Lrx.check
  dsimp only
  split_ifs <;> decide

/-- The machine as an enable that passes the checks begins. -/
def enabling (s : State) : State := ((Lrx.enter 1 (s.set F.LRX_CTRL_EN)).clr F.LRX_STAT_CFG_STEP).put H.LRX_D_NOW (s.get F.LRX_CD_D)

def enableFields : List Machine.Field := [F.LRX_CTRL_EN, F.LRX_STAT_CFG_STEP, H.LRX_D_NOW, F.LRX_STAT_STATE]

/-- What an enable asks of LSR, of the SD-FEC and of PWR comes before PREFILL may end. -/
theorem Lrx_enable_of_check (hen : s.on F.LRX_CTRL_EN = false) (hc : Lrx.check s = 0) :
    ∃ u, Lrx.enable s = Lrx.leavePrefill u ∧ Moves (Sparing enableFields) (enabling s) u := by
  unfold Lrx.enable
  simp only [hen, Bool.false_eq_true, if_false, hc, if_true]
  refine ⟨_, rfl, ?_⟩
  have htune : Moves (Sparing enableFields) (enabling s)
      (if (enabling s).leaf then Lsr.tune 0 (Lrx.centreOffset (enabling s)) (enabling s) else enabling s) :=
    moves_ite (Lsr_tune_moves (W := Sparing enableFields) rfl rfl rfl rfl rfl rfl rfl rfl rfl _ _ .refl) .refl
  have hmin := Pwr_vminRecompute_moves (W := Sparing enableFields) rfl rfl rfl rfl rfl rfl rfl
    (Fec_startRxAll_moves (W := Sparing enableFields) rfl rfl rfl rfl rfl rfl htune)
  exact moves_ite (.set _ _ _ rfl hmin) hmin

theorem leavePrefill_cases (s : State) : Lrx.leavePrefill s = Lrx.enterCd s ∨ Lrx.leavePrefill s = s := by
  unfold Lrx.leavePrefill
  split
  · exact .inl rfl
  · exact .inr rfl

/-- LRX_ENABLE where the checks pass. -/
theorem lrxEnable_runs (ht : takes .LRX_CTRL s = true) (hen : s.on F.LRX_CTRL_EN = false) (hc : Lrx.check s = 0) :
    runs .lrxEnable s (fun t => t.on F.LRX_CTRL_EN = true ∧ t.get F.LRX_STAT_CFG_STEP = 0 ∧ t.get H.LRX_D_NOW = s.get F.LRX_CD_D ∧
      (t.get F.LRX_STAT_STATE = 1 ∨ t.get F.LRX_STAT_STATE = 2)) := by
  obtain ⟨u, hu, hm⟩ := Lrx_enable_of_check hen hc
  have hkeep {g : Machine.Field} (hg : g ∈ enableFields) (hcd : clearOf enterCdFields g = true) :
      (Lrx.leavePrefill u).get g = (enabling s).get g := by
    rw [← get_of_sparing hm hg]
    rcases leavePrefill_cases u with h | h <;> rw [h]
    exact enterCd_get hcd
  refine runs_lrxRow_mirrored rfl ht rfl (by decide) fun t hget => ?_
  rw [on_congr (hget _ (by decide)), hget _ (by decide), hget _ (by decide), hget _ (by decide), hu, on_congr (hkeep (by decide) (by decide)),
    hkeep (by decide) (by decide), hkeep (by decide) (by decide), enabling]
  refine ⟨?_, ?_, get_put_get (by decide) (by decide), ?_⟩
  · rw [on_put_ne (by decide), on_clr_ne (by decide), on_congr (enter_get (by decide)), on_set (by decide) (by decide)]
  · rw [get_put_ne (by decide), get_clr]
  · rcases leavePrefill_cases u with h | h <;> rw [h]
    · exact .inr enterCd_state
    · refine .inl ?_
      rw [get_of_sparing hm (by decide), enabling, get_put_ne (by decide), get_clr_ne (by decide), enter_state (by decide)]

/-- What an enable that fails a check comes to, MAP_ERR aside. -/
theorem Lrx_enable_of_fault (hen : s.on F.LRX_CTRL_EN = false) (hc : Lrx.check s ≠ 0) (hg : apart F.CVT_ADC_STAT_MAP_ERR g = true) :
    (Lrx.enable s).get g = ((s.set F.LRX_INT_CAUSE_CFG_ERR).put F.LRX_STAT_CFG_STEP (Lrx.check s)).get g := by
  unfold Lrx.enable
  simp only [hen, Bool.false_eq_true, if_false, hc]
  split
  · exact get_set_ne hg
  · rfl

/-- LRX_ENABLE where a check fails. -/
theorem lrxEnable_refused_runs (ht : takes .LRX_CTRL s = true) (hen : s.on F.LRX_CTRL_EN = false) (hc : Lrx.check s ≠ 0) :
    runs .lrxEnable s (fun t => t.on F.LRX_CTRL_EN = false ∧ t.on F.LRX_INT_CAUSE_CFG_ERR = true ∧
      t.get F.LRX_STAT_CFG_STEP = Lrx.check s) := by
  refine runs_lrxRow_mirrored rfl ht rfl (by decide) fun t hget => ?_
  rw [on_congr (hget _ (by decide)), on_congr (hget _ (by decide)), hget _ (by decide), on_congr (Lrx_enable_of_fault hen hc (by decide)),
    on_congr (Lrx_enable_of_fault hen hc (by decide)), Lrx_enable_of_fault hen hc (by decide)]
  refine ⟨?_, ?_, get_put_lt (by decide) (Lrx_check_lt s)⟩
  · rw [on_put_ne (by decide), on_set_ne (by decide), hen]
  · rw [on_put_ne (by decide), on_set (by decide) (by decide)]

/-- The machine as a disable has stopped acquisition and the fades. -/
def shutDown (s : State) : State :=
  (Lrx.dropFades (Lrx.relock false (Lrx.enter 0 (s.clr F.LRX_CTRL_EN)))).clr F.LRX_STAT_ACQ_RETRY

/-- LOS ends with it. -/
def losEnded (s : State) : State := if s.on F.LRX_STAT_LOS then (s.clr F.LRX_STAT_LOS).set F.LRX_INT_CAUSE_LOS_CHG else s

theorem losEnded_get (h : clearOf [F.LRX_STAT_LOS, F.LRX_INT_CAUSE_LOS_CHG] g = true) : (losEnded s).get g = s.get g := by
  unfold losEnded
  split
  · rw [get_set_ne (misses_of_clearOf h (by decide)), get_clr_ne (misses_of_clearOf h (by decide))]
  · rfl

theorem losEnded_los : (losEnded s).on F.LRX_STAT_LOS = false := by
  unfold losEnded
  split
  · rw [on_set_ne (by decide), on_clr]
  · exact Bool.eq_false_iff.mpr ‹_›

theorem losEnded_cause (h : s.on F.LRX_STAT_LOS = true) : (losEnded s).on F.LRX_INT_CAUSE_LOS_CHG = true := by
  rw [losEnded, if_pos h, on_set (by decide) (by decide)]

theorem dropFades_get (h : clearOf [F.LRX_STAT_CD_ARMED, F.LRX_STAT_CD_FADING, F.LRX_STAT_CD_HELD] g = true) :
    (Lrx.dropFades s).get g = s.get g :=
  (Lrx_dropFades_moves (misses_of_clearOf h (by decide)) (misses_of_clearOf h (by decide)) (misses_of_clearOf h (by decide)) .refl).get_misses

def disableFields : List Machine.Field :=
  [F.LRX_CTRL_EN, F.LRX_STAT_STATE, F.LRX_STAT_LOS, F.LRX_INT_CAUSE_LOS_CHG, F.LRX_STAT_ACQ_RETRY]

/-- The cancelled change and the minimum of VDD_CORE show elsewhere. -/
theorem disable_moves_rest (hen : s.on F.LRX_CTRL_EN = true) : Moves (Sparing disableFields) (losEnded (shutDown s)) (Lrx.disable s) := by
  unfold Lrx.disable
  rw [if_pos hen]
  exact Pwr_vminRecompute_moves rfl rfl rfl rfl rfl rfl rfl (Lrx_cancel_moves rfl rfl rfl rfl rfl (.clr _ _ _ rfl (.clr _ _ _ rfl .refl)))

/-- LRX_DISABLE. That ending LOS counts as a change of it is the model's choice (log 84). -/
theorem lrxDisable_runs (ht : takes .LRX_CTRL s = true) (hen : s.on F.LRX_CTRL_EN = true) :
    runs .lrxDisable s (fun t => t.on F.LRX_CTRL_EN = false ∧ t.get F.LRX_STAT_STATE = 0 ∧ t.on F.LRX_STAT_LOS = false ∧
      (s.on F.LRX_STAT_LOS = true → t.on F.LRX_INT_CAUSE_LOS_CHG = true) ∧ t.get F.LRX_STAT_ACQ_RETRY = 0) := by
  have hm := disable_moves_rest hen
  refine runs_lrxRow_mirrored rfl ht rfl (by decide) fun t hget => ?_
  rw [on_congr (hget _ (by decide)), hget _ (by decide), on_congr (hget _ (by decide)), on_congr (hget _ (by decide)), hget _ (by decide),
    on_congr (get_of_sparing hm (by decide)), get_of_sparing hm (by decide), on_congr (get_of_sparing hm (by decide)),
    on_congr (get_of_sparing hm (by decide)), get_of_sparing hm (by decide)]
  refine ⟨?_, ?_, losEnded_los, fun hlos => losEnded_cause ?_, ?_⟩
  · rw [on_congr (losEnded_get (by decide)), shutDown, on_clr_ne (by decide), on_congr (dropFades_get (by decide)),
      on_congr (relock_get (by decide)), on_congr (enter_get (by decide)), on_clr]
  · rw [losEnded_get (by decide), shutDown, get_clr_ne (by decide), dropFades_get (by decide), relock_get (by decide), enter_state (by decide)]
  · rw [shutDown, on_clr_ne (by decide), on_congr (dropFades_get (by decide)), on_congr (relock_get (by decide)),
      on_congr (enter_get (by decide)), on_clr_ne (by decide), hlos]
  · rw [losEnded_get (by decide), shutDown, get_clr]

/-! ### LOS (R51) -/

def notedFields : List Machine.Field :=
  [H.FRM_LIVE_F, H.FRM_LIVE_SC, H.FRM_SEC_CLI, H.FRM_SEC_SC, H.FRM_SEEN_CLI, H.FRM_SEEN_FLOW, H.FRM_SEEN_LANE, H.FRM_SEEN_LINE, H.FRM_SEEN_SC]

theorem noted_get (h : clearOf notedFields g = true) : (Tick.noted s).get g i j k = s.get g i j k := by
  refine Moves.get_misses ?_
  apply Tick_noted_moves (h := .refl) <;> exact misses_of_clearOf h (by decide)

/-- The completion of an event that FRM notes. -/
theorem runs_noted {c : Instr} {p : State → Prop} (hc : exec c s = done s (Tick.noted u))
    (hp : ∀ t, (∀ g, clearOf notedFields g = true → t.get g = u.get g) → p t) : runs c s p :=
  runs_done hc (hp _ fun _ hg => (settle_get ..).trans (noted_get hg))

/-- The machine as LOS has just been set. -/
def losShown (s : State) : State := (s.set F.LRX_STAT_LOS).set F.LRX_INT_CAUSE_LOS_CHG

theorem losShown_get (h : clearOf [F.LRX_STAT_LOS, F.LRX_INT_CAUSE_LOS_CHG] g = true) : (losShown s).get g = s.get g := by
  rw [losShown, get_set_ne (misses_of_clearOf h (by decide)), get_set_ne (misses_of_clearOf h (by decide))]

theorem losSet_eq (hen : s.on F.LRX_CTRL_EN = true) (hlos : s.on F.LRX_STAT_LOS = false) (hrms : rms < s.get F.LRX_ACQ_CFG_LOS_THR) :
    Lrx.losSet rms s = if s.get F.LRX_ACQ_CFG_HOLD_MS = 0 ∧ 2 ≤ s.get F.LRX_STAT_STATE then Lrx.enterCd (losShown s) else losShown s := by
  rw [← losShown_get (s := s) (g := F.LRX_ACQ_CFG_HOLD_MS) (by decide), ← losShown_get (s := s) (g := F.LRX_STAT_STATE) (by decide)]
  exact if_pos (by simp [hen, hlos, hrms])

/-- LOS_SET. -/
theorem losSet_runs (hen : s.on F.LRX_CTRL_EN = true) (hlos : s.on F.LRX_STAT_LOS = false) (hrms : rms < s.get F.LRX_ACQ_CFG_LOS_THR) :
    runs (.losSet rms) s (fun t => t.on F.LRX_STAT_LOS = true ∧ t.on F.LRX_INT_CAUSE_LOS_CHG = true ∧
      t.get F.LRX_STAT_STATE = (if s.get F.LRX_ACQ_CFG_HOLD_MS = 0 ∧ 2 ≤ s.get F.LRX_STAT_STATE then 2 else s.get F.LRX_STAT_STATE)) := by
  have hset : (losShown s).on F.LRX_STAT_LOS = true := by rw [losShown, on_set_ne (by decide), on_set (by decide) (by decide)]
  have hcause : (losShown s).on F.LRX_INT_CAUSE_LOS_CHG = true := on_set (by decide) (by decide)
  refine runs_noted rfl fun t hget => ?_
  rw [on_congr (hget _ (by decide)), on_congr (hget _ (by decide)), hget _ (by decide), losSet_eq hen hlos hrms]
  split
  · rw [on_congr (enterCd_get (by decide)), on_congr (enterCd_get (by decide))]
    exact ⟨hset, hcause, enterCd_state⟩
  · exact ⟨hset, hcause, losShown_get (by decide)⟩

/-- LOS_HOLD_EXPIRY. -/
theorem losHoldExpiry_runs (hlos : s.on F.LRX_STAT_LOS = true) (hstate : 2 ≤ s.get F.LRX_STAT_STATE) :
    runs .losHoldExpiry s (fun t => t.get F.LRX_STAT_STATE = 2) := by
  have hexp : Lrx.losExpired s = Lrx.enterCd s := if_pos (by simp [hlos, Lrx.state, hstate])
  refine runs_noted rfl fun t hget => ?_
  rw [hget _ (by decide), hexp, enterCd_state]

/-- The machine as LOS has just ended, before an armed fade starts. -/
def losGone (s : State) : State :=
  let u := (s.clr F.LRX_STAT_LOS).set F.LRX_INT_CAUSE_LOS_CHG
  if 3 ≤ Lrx.state u then u.set H.LRX_LLR_HOLD else u

theorem losGone_get (h : clearOf [F.LRX_STAT_LOS, F.LRX_INT_CAUSE_LOS_CHG, H.LRX_LLR_HOLD] g = true) : (losGone s).get g = s.get g := by
  have hu : ((s.clr F.LRX_STAT_LOS).set F.LRX_INT_CAUSE_LOS_CHG).get g = s.get g := by
    rw [get_set_ne (misses_of_clearOf h (by decide)), get_clr_ne (misses_of_clearOf h (by decide))]
  unfold losGone
  dsimp only
  split
  · rw [get_set_ne (misses_of_clearOf h (by decide)), hu]
  · exact hu

theorem losGone_los : (losGone s).on F.LRX_STAT_LOS = false := by
  unfold losGone
  dsimp only
  split
  · rw [on_set_ne (by decide), on_set_ne (by decide), on_clr]
  · rw [on_set_ne (by decide), on_clr]

theorem losGone_cause : (losGone s).on F.LRX_INT_CAUSE_LOS_CHG = true := by
  unfold losGone
  dsimp only
  split
  · rw [on_set_ne (by decide), on_set (by decide) (by decide)]
  · exact on_set (by decide) (by decide)

theorem losGone_hold (h : 3 ≤ s.get F.LRX_STAT_STATE) : (losGone s).on H.LRX_LLR_HOLD = true := by
  have hstate : 3 ≤ Lrx.state ((s.clr F.LRX_STAT_LOS).set F.LRX_INT_CAUSE_LOS_CHG) := by
    rwa [Lrx.state, get_set_ne (by decide), get_clr_ne (by decide)]
  rw [losGone, if_pos hstate, on_set (by decide) (by decide)]

theorem losClear_eq (hlos : s.on F.LRX_STAT_LOS = true) (hrms : s.get F.LRX_ACQ_CFG_LOS_THR + s.get F.LRX_ACQ_CFG_LOS_HYST ≤ rms) :
    Lrx.losClear rms s = if s.on F.LRX_STAT_CD_ARMED then Lrx.startFade (s.get H.LRX_D_ARMED) ((losGone s).clr F.LRX_STAT_CD_ARMED)
      else losGone s := by
  rw [← losGone_get (s := s) (g := H.LRX_D_ARMED) (by decide), ← on_congr (losGone_get (s := s) (g := F.LRX_STAT_CD_ARMED) (by decide))]
  exact if_pos (by simp [hlos, hrms])

/-- LOS_CLEAR. -/
theorem losClear_runs (hlos : s.on F.LRX_STAT_LOS = true) (hrms : s.get F.LRX_ACQ_CFG_LOS_THR + s.get F.LRX_ACQ_CFG_LOS_HYST ≤ rms) :
    runs (.losClear rms) s (fun t => t.on F.LRX_STAT_LOS = false ∧ t.on F.LRX_INT_CAUSE_LOS_CHG = true ∧
      (s.on F.LRX_STAT_CD_ARMED = true → t.on F.LRX_STAT_CD_FADING = true ∧ t.get H.LRX_D_FADE = s.get H.LRX_D_ARMED) ∧
      (3 ≤ s.get F.LRX_STAT_STATE → t.on H.LRX_LLR_HOLD = true)) := by
  refine runs_noted rfl fun t hget => ?_
  rw [on_congr (hget _ (by decide)), on_congr (hget _ (by decide)), on_congr (hget _ (by decide)), hget _ (by decide),
    on_congr (hget _ (by decide)), losClear_eq hlos hrms]
  split
  · have hkeep {g : Machine.Field} (hf : clearOf fadeFields g = true) (ha : apart F.LRX_STAT_CD_ARMED g = true) :
        (Lrx.startFade (s.get H.LRX_D_ARMED) ((losGone s).clr F.LRX_STAT_CD_ARMED)).get g = (losGone s).get g :=
      (Lrx_startFade_get hf).trans (get_clr_ne ha)
    refine ⟨?_, ?_, fun _ => ⟨Lrx_startFade_fading, Lrx_startFade_target (State_get_lt s H.LRX_D_ARMED 0 0 0)⟩, fun hstate => ?_⟩
    · rw [on_congr (hkeep (by decide) (by decide)), losGone_los]
    · rw [on_congr (hkeep (by decide) (by decide)), losGone_cause]
    · rw [on_congr (hkeep (by decide) (by decide)), losGone_hold hstate]
  · exact ⟨losGone_los, losGone_cause, fun ha => absurd ha ‹_›, losGone_hold⟩

/-! ### Fades (R53, Table LRX-1) -/

/-- What a GO within the reservation comes to. -/
theorem cdGo_eq (hd : (s.sget F.LRX_CD_D).natAbs ≤ s.get F.LRX_CD_RES_RES) (hstate : s.get F.LRX_STAT_STATE ≠ 0) :
    Lrx.cdGo s = if s.on F.LRX_STAT_CD_FADING then ((s.clr F.LRX_STAT_CD_ARMED).set F.LRX_STAT_CD_HELD).put H.LRX_D_HELD (s.get F.LRX_CD_D)
      else Lrx.startFade (s.get F.LRX_CD_D) (s.clr F.LRX_STAT_CD_ARMED) := by
  rw [← get_clr_ne (s := s) (f := F.LRX_STAT_CD_ARMED) (g := F.LRX_CD_D) (by decide),
    ← on_clr_ne (s := s) (f := F.LRX_STAT_CD_ARMED) (g := F.LRX_STAT_CD_FADING) (by decide)]
  exact (if_neg (by simp [Lrx.dInRange, hd])).trans (if_neg hstate)

/-- CD_GO. -/
theorem cdGo_runs (ht : takes .LRX_CD_CTRL s = true) (hd : (s.sget F.LRX_CD_D).natAbs ≤ s.get F.LRX_CD_RES_RES)
    (hstate : s.get F.LRX_STAT_STATE ≠ 0) :
    runs .cdGo s (fun t => t.on F.LRX_STAT_CD_ARMED = false ∧
      (s.on F.LRX_STAT_CD_FADING = false → t.on F.LRX_STAT_CD_FADING = true ∧ t.get H.LRX_D_FADE = s.get F.LRX_CD_D) ∧
      (s.on F.LRX_STAT_CD_FADING = true → t.on F.LRX_STAT_CD_HELD = true ∧ t.get H.LRX_D_HELD = s.get F.LRX_CD_D)) := by
  refine runs_lrxRow rfl ht rfl (by decide) fun t hget => ?_
  rw [on_congr (hget _ (by decide)), on_congr (hget _ (by decide)), hget _ (by decide), on_congr (hget _ (by decide)), hget _ (by decide),
    cdGo_eq hd hstate]
  rcases hf : s.on F.LRX_STAT_CD_FADING
  · rw [if_neg (by decide), on_congr (Lrx_startFade_get (by decide)), on_clr]
    exact ⟨rfl, fun _ => ⟨Lrx_startFade_fading, Lrx_startFade_target (State_get_lt s F.LRX_CD_D 0 0 0)⟩, nofun⟩
  · rw [if_pos rfl, on_put_ne (by decide), on_set_ne (by decide), on_clr]
    refine ⟨rfl, nofun, fun _ => ⟨?_, get_put_get (by decide) (by decide)⟩⟩
    rw [on_put_ne (by decide), on_set (by decide) (by decide)]

/-- CD_ARM. -/
theorem cdArm_runs (ht : takes .LRX_CD_CTRL s = true) (hd : (s.sget F.LRX_CD_D).natAbs ≤ s.get F.LRX_CD_RES_RES)
    (hstate : s.get F.LRX_STAT_STATE ≠ 0) (hfade : s.on F.LRX_STAT_CD_FADING = false) (hheld : s.on F.LRX_STAT_CD_HELD = false) :
    runs .cdArm s (fun t => t.on F.LRX_STAT_CD_ARMED = true ∧ t.get H.LRX_D_ARMED = s.get F.LRX_CD_D) := by
  have harm : Lrx.cdArm s = (s.set F.LRX_STAT_CD_ARMED).put H.LRX_D_ARMED (s.get F.LRX_CD_D) :=
    (if_neg (by simp [hfade, hheld])).trans ((if_neg (by simp [Lrx.dInRange, hd])).trans (if_neg hstate))
  refine runs_lrxRow rfl ht rfl (by decide) fun t hget => ?_
  rw [on_congr (hget _ (by decide)), hget _ (by decide), harm]
  refine ⟨?_, get_put_get (by decide) (by decide)⟩
  rw [on_put_ne (by decide), on_set (by decide) (by decide)]

/-- CD_DISARM. -/
theorem cdDisarm_runs (ht : takes .LRX_CD_CTRL s = true) : runs .cdDisarm s (fun t => t.on F.LRX_STAT_CD_ARMED = false) :=
  runs_lrxRow rfl ht rfl (by decide) fun _ hget => (on_congr (hget _ (by decide))).trans on_clr

/-- The machine as a fade has ended, before a held GO starts. -/
def cdFadeEnded (s : State) : State := ((s.clr F.LRX_STAT_CD_FADING).put H.LRX_D_NOW (s.get H.LRX_D_FADE)).set F.LRX_INT_CAUSE_CD_DONE

theorem cdFadeEnded_get (h : clearOf [F.LRX_STAT_CD_FADING, H.LRX_D_NOW, F.LRX_INT_CAUSE_CD_DONE] g = true) :
    (cdFadeEnded s).get g = s.get g := by
  rw [cdFadeEnded, get_set_ne (misses_of_clearOf h (by decide)), get_put_ne (misses_of_clearOf h (by decide)),
    get_clr_ne (misses_of_clearOf h (by decide))]

theorem cdFadeDone_eq (hf : s.on F.LRX_STAT_CD_FADING = true) (hlen : s.get H.LRX_FADE_LEN ≤ blocks) :
    Lrx.cdFadeDone blocks s = if s.on F.LRX_STAT_CD_HELD then Lrx.startFade (s.get H.LRX_D_HELD) ((cdFadeEnded s).clr F.LRX_STAT_CD_HELD)
      else cdFadeEnded s := by
  rw [← cdFadeEnded_get (s := s) (g := H.LRX_D_HELD) (by decide), ← on_congr (cdFadeEnded_get (s := s) (g := F.LRX_STAT_CD_HELD) (by decide))]
  exact if_pos (by simp [hf, hlen])

/-- CD_FADE_DONE. -/
theorem cdFadeDone_runs (hf : s.on F.LRX_STAT_CD_FADING = true) (hlen : s.get H.LRX_FADE_LEN ≤ blocks) :
    runs (.cdFadeDone blocks) s (fun t => t.get H.LRX_D_NOW = s.get H.LRX_D_FADE ∧ t.on F.LRX_INT_CAUSE_CD_DONE = true ∧
      t.get F.LRX_STAT_CD_FADING = s.get F.LRX_STAT_CD_HELD) := by
  have hnow : (cdFadeEnded s).get H.LRX_D_NOW = s.get H.LRX_D_FADE := (get_set_ne (by decide)).trans (get_put_get (by decide) (by decide))
  have hdone : (cdFadeEnded s).on F.LRX_INT_CAUSE_CD_DONE = true := on_set (by decide) (by decide)
  refine runs_done (u := Lrx.cdFadeDone blocks s) rfl ?_
  rw [settle_get, on_settle, settle_get, cdFadeDone_eq hf hlen, get_of_on (s := s) (f := F.LRX_STAT_CD_HELD) rfl]
  rcases hg : s.on F.LRX_STAT_CD_HELD
  · rw [if_neg (by decide)]
    refine ⟨hnow, hdone, ?_⟩
    rw [cdFadeEnded, get_set_ne (by decide), get_put_ne (by decide), get_clr]
    rfl
  · rw [if_pos rfl, Lrx_startFade_get (by decide), get_clr_ne (by decide), on_congr (Lrx_startFade_get (by decide)), on_clr_ne (by decide),
      get_of_on (f := F.LRX_STAT_CD_FADING) rfl, Lrx_startFade_fading]
    exact ⟨hnow, hdone, rfl⟩

/-! ### The estimate of dispersion (R55) -/

/-- The machine as CD_AUTO has stored an estimate. -/
def estimated (est : Int) (s : State) : State := ((s.sput F.LRX_CD_EST_EST est).set F.LRX_CD_EST_VALID).sput F.LRX_CD_D est

theorem clampInt_of_natAbs {r : Nat} (h : est.natAbs ≤ r) : clampInt (-(r : Int)) r est = est := by
  unfold clampInt
  split_ifs <;> omega

/-- The machine as state CD has taken an estimate or left it. -/
def judged (est : Int) (s : State) : State := if s.on F.LRX_CTRL_CD_AUTO then estimated est s else s

theorem cdEstimate_in_cd (hstate : s.get F.LRX_STAT_STATE = 2) (hfade : s.on F.LRX_STAT_CD_FADING = false)
    (hest : est.natAbs ≤ s.get F.LRX_CD_RES_RES) :
    Lrx.cdEstimate est s = Lrx.enter 3 ((judged est s).put H.LRX_D_NOW ((judged est s).get F.LRX_CD_D)) := by
  rw [Lrx.cdEstimate]
  dsimp only
  rw [if_pos ⟨hstate, by simp [hfade]⟩, clampInt_of_natAbs hest]
  rfl

/-- CD_ESTIMATE_DONE in state CD. -/
theorem cdEstimateDone_runs (hstate : s.get F.LRX_STAT_STATE = 2) (hfade : s.on F.LRX_STAT_CD_FADING = false)
    (hest : est.natAbs ≤ s.get F.LRX_CD_RES_RES) :
    runs (.cdEstimateDone est) s (fun t => t.get F.LRX_STAT_STATE = 3 ∧
      (s.on F.LRX_CTRL_CD_AUTO = true → t.get F.LRX_CD_EST_EST = unsigned 22 est ∧ t.on F.LRX_CD_EST_VALID = true ∧
        t.get F.LRX_CD_D = unsigned 22 est ∧ t.get H.LRX_D_NOW = unsigned 22 est) ∧
      (s.on F.LRX_CTRL_CD_AUTO = false → t.get F.LRX_CD_EST_EST = s.get F.LRX_CD_EST_EST ∧ t.get H.LRX_D_NOW = s.get F.LRX_CD_D)) := by
  have hend := cdEstimate_in_cd hstate hfade hest
  have hkeep {g : Machine.Field} (he : clearOf enterFields g = true) (hn : apart H.LRX_D_NOW g = true) :
      (settle s (Lrx.cdEstimate est s)).get g = (judged est s).get g := by rw [settle_get, hend, enter_get he, get_put_ne hn]
  have hnow : (settle s (Lrx.cdEstimate est s)).get H.LRX_D_NOW = (judged est s).get F.LRX_CD_D := by
    rw [settle_get, hend, enter_get (by decide), get_put_get (by decide) (by decide)]
  refine runs_done (u := Lrx.cdEstimate est s) rfl ⟨?_, fun hauto => ?_, fun hauto => ?_⟩
  · rw [settle_get, hend, enter_state (by decide)]
  · have htaken : judged est s = estimated est s := if_pos hauto
    have hd : (judged est s).get F.LRX_CD_D = unsigned 22 est := by rw [htaken]; exact get_sput (by decide)
    refine ⟨?_, ?_, (hkeep (by decide) (by decide)).trans hd, hnow.trans hd⟩
    · rw [hkeep (by decide) (by decide), htaken, estimated, get_sput_ne (by decide), get_set_ne (by decide), get_sput (by decide)]
      rfl
    · rw [on_congr (hkeep (by decide) (by decide)), htaken, estimated, on_congr (get_sput_ne (by decide)), on_set (by decide) (by decide)]
  · rw [hkeep (by decide) (by decide), hnow, judged, if_neg (by simp [hauto])]
    exact ⟨rfl, rfl⟩

/-- CD_ESTIMATE_DONE in TRACK. -/
theorem cdEstimateDone_in_track_runs (hstate : s.get F.LRX_STAT_STATE = 5) (hlos : s.on F.LRX_STAT_LOS = false) :
    runs (.cdEstimateDone est) s (fun t => t.get F.LRX_CD_EST_EST = unsigned 22 est ∧ t.on F.LRX_CD_EST_VALID = true ∧
      t.get F.LRX_CD_D = s.get F.LRX_CD_D ∧ t.get H.LRX_D_NOW = s.get H.LRX_D_NOW) := by
  have hstore : Lrx.cdEstimate est s = (s.sput F.LRX_CD_EST_EST est).set F.LRX_CD_EST_VALID :=
    (if_neg (by simp [Lrx.state, hstate])).trans (if_pos ⟨hstate, by simp [hlos]⟩)
  refine runs_done (u := Lrx.cdEstimate est s) rfl ?_
  rw [settle_get, on_settle, settle_get, settle_get, hstore]
  refine ⟨?_, on_set (by decide) (by decide), ?_, ?_⟩
  · rw [get_set_ne (by decide), get_sput (by decide)]
    rfl
  · rw [get_set_ne (by decide), get_sput_ne (by decide)]
  · rw [get_set_ne (by decide), get_sput_ne (by decide)]

/-! ### Coarse lock and its timeout (R60) -/

theorem capture_le (s : State) : Lrx.capture s ≤ 40000 := Nat.min_le_left ..

/-- COARSE_LOCK. -/
theorem coarseLock_runs (hstate : s.get F.LRX_STAT_STATE = 3) (hofs : ofs.natAbs ≤ Lrx.capture s) (hspread : spread ≤ 300)
    (hlos : s.on F.LRX_STAT_LOS = false) :
    runs (.coarseLock ofs spread) s (fun t => t.get F.LRX_STAT_STATE = 4 ∧ t.sget H.LRX_ROT = ofs * 32768) := by
  have hlock : Lrx.coarseLock ofs spread s = Lrx.relock true (Lrx.enter 4 (s.sput H.LRX_ROT (ofs * 32768))) :=
    if_pos ⟨hstate, hofs, hspread, by simp [hlos]⟩
  have hcap := capture_le s
  refine runs_done (u := Lrx.coarseLock ofs spread s) rfl ?_
  rw [settle_get, sget_congr (settle_get ..), hlock, relock_get (by decide), enter_state (by decide), sget_congr (relock_get (by decide)),
    sget_congr (enter_get (by decide))]
  exact ⟨rfl, sget_sput (by decide) (by decide) (by norm_num [H.LRX_ROT, fld]; omega) (by norm_num [H.LRX_ROT, fld]; omega)⟩

/-- ACQ_TMO. -/
theorem acqTmo_runs (hlo : 2 ≤ s.get F.LRX_STAT_STATE) (hhi : s.get F.LRX_STAT_STATE ≤ 4) :
    runs .acqTmo s (fun t => t.get F.LRX_STAT_STATE = 2 ∧ t.on F.LRX_INT_CAUSE_ACQ_TMO = true ∧
      t.get F.LRX_STAT_ACQ_RETRY = min 127 (s.get F.LRX_STAT_ACQ_RETRY + 1)) := by
  have htmo : Lrx.acqTimeout s = Lrx.enterCd ((s.set F.LRX_INT_CAUSE_ACQ_TMO).count F.LRX_STAT_ACQ_RETRY) := if_pos ⟨hlo, hhi⟩
  refine runs_done (u := Lrx.acqTimeout s) rfl ?_
  rw [settle_get, on_settle, settle_get, htmo]
  refine ⟨enterCd_state, ?_, ?_⟩
  · rw [on_congr (enterCd_get (by decide)), on_congr (get_count_ne (by decide)), on_set (by decide) (by decide)]
  · rw [enterCd_get (by decide), get_count (by decide), get_set_ne (by decide)]
    rfl

/-- Settles O26, with one lemma for each command: what its operation comes to under the conditions, read through the completion. -/
theorem receiverAcquisitionResults : Obligations.ReceiverAcquisitionResults := by
  unfold Obligations.ReceiverAcquisitionResults
  exact ⟨fun s => lrxEnable_runs, fun s => lrxEnable_refused_runs, fun s => lrxDisable_runs, fun s rms => losSet_runs,
    fun s rms => losClear_runs, fun s => losHoldExpiry_runs, fun s => cdGo_runs, fun s => cdArm_runs, fun s => cdDisarm_runs,
    fun s blocks => cdFadeDone_runs, fun s est => cdEstimateDone_runs, fun s est => cdEstimateDone_in_track_runs,
    fun s ofs spread => coarseLock_runs, fun s => acqTmo_runs⟩

end Sys2Proof.Proofs

/-! SUPPORT. The commands of a receiver in SUBCARRIER or TRACK where their conditions hold, SNR_LATCH and TAP_SET_SWITCH apart (O27; R58, R60
to R65, R70). -/
namespace Sys2Proof.Proofs
open Sys2Proof Sys2Proof.Machine Sys2Proof.Laws

variable {s t u : State} {f g : Machine.Field} {a d den i j k n num snr turns x : Nat} {block : List Nat} {mean total v : Int}

/-- Element k of a table of n rows. -/
theorem has_row (hf : f.shape = shape1 a n d) (hk : k < n) : f.shape.has k 0 0 = true := by simp [Shape.has, hf, shape1, hk]

/-! ### Locks (R58, R64, R65) -/

/-- The machine as subcarrier k has taken LOCK, before TRACK may be entered. -/
def lockTaken (k : Nat) (s : State) : State := Fec.validFrom k (Lrx.adapt k (s.put F.LRX_SC_STAT_LOCK 2 k))

theorem lockTaken_get (h : clearOf [H.FEC_PART, H.LRX_TAPS, F.LRX_SC_STAT_LOCK] g = true) : (lockTaken k s).get g i = s.get g i := by
  rw [lockTaken, Fec.validFrom, get_set_ne (misses_of_clearOf h (by decide)), adapt_get (misses_of_clearOf h (by decide)),
    get_put_ne (misses_of_clearOf h (by decide))]

theorem lockTaken_lock (hk : k < 512) : (lockTaken k s).get F.LRX_SC_STAT_LOCK k = 2 := by
  rw [lockTaken, Fec.validFrom, get_set_ne (by decide), adapt_get (by decide), get_put_lt (has_row rfl hk) (by decide)]

/-- Subcarrier k brings TRACK: it is the first to lock, and DATA or BEACON. -/
abbrev bringsTrack (s : State) (k : Nat) : Prop :=
  s.get F.LRX_STAT_STATE = 4 ∧ (s.get H.LRX_ACTIVE k % 8 = 1 ∨ s.get H.LRX_ACTIVE k % 8 = 2)

theorem scLock_eq (hstate : 4 ≤ s.get F.LRX_STAT_STATE) (hlos : s.on F.LRX_STAT_LOS = false) (hproc : Lrx.processed s k = true)
    (hlock : s.get F.LRX_SC_STAT_LOCK k ≠ 2) (hsnr : s.get F.LRX_EQ_CFG_LOCK_SNR ≤ snr) :
    Lrx.scLock k snr s = if bringsTrack s k then Lrx.enter 5 (lockTaken k s) else lockTaken k s := by
  unfold bringsTrack
  rw [← lockTaken_get (s := s) (k := k) (g := F.LRX_STAT_STATE) (by decide),
    ← lockTaken_get (s := s) (k := k) (g := H.LRX_ACTIVE) (by decide)]
  exact if_pos ⟨hstate, by simp [hlos], hproc, hlock, hsnr⟩

/-- SC_LOCK. -/
theorem scLock_runs (hk : k < 512) (hstate : 4 ≤ s.get F.LRX_STAT_STATE) (hlos : s.on F.LRX_STAT_LOS = false)
    (hproc : Lrx.processed s k = true) (hlock : s.get F.LRX_SC_STAT_LOCK k ≠ 2) (hsnr : s.get F.LRX_EQ_CFG_LOCK_SNR ≤ snr) :
    runs (.scLock k snr) s (fun t => t.get F.LRX_SC_STAT_LOCK k = 2 ∧
      (bringsTrack s k → t.get F.LRX_STAT_STATE = 5 ∧ t.on F.LRX_INT_CAUSE_TRACK = true)) := by
  refine runs_done (u := Lrx.scLock k snr s) rfl ?_
  rw [settle_get, settle_get, on_settle, scLock_eq hstate hlos hproc hlock hsnr]
  split
  next htrack =>
    obtain ⟨h4, -⟩ := htrack
    rw [enter_get (by decide)]
    refine ⟨lockTaken_lock hk, fun _ => ⟨enter_state (by decide), enter_reaches_track ?_⟩⟩
    rw [lockTaken_get (by decide), h4]
    decide
  next hnot => exact ⟨lockTaken_lock hk, fun h => absurd h hnot⟩

/-- SC_UNLOCK. -/
theorem scUnlock_runs (hk : k < 512) (hlock : s.get F.LRX_SC_STAT_LOCK k = 2) (hlos : s.on F.LRX_STAT_LOS = false)
    (hsnr : snr + 16 < s.get F.LRX_EQ_CFG_LOCK_SNR) : runs (.scUnlock k snr) s (fun t => t.get F.LRX_SC_STAT_LOCK k = 1) := by
  have hun : Lrx.scUnlock k snr s = (s.put F.LRX_SC_STAT_LOCK 1 k).clr H.LRX_WIN_LOCK k := if_pos ⟨hlock, by simp [hlos], hsnr⟩
  refine runs_done (u := Lrx.scUnlock k snr s) rfl ?_
  rw [settle_get, hun, get_clr_ne (by decide), get_put_lt (has_row rfl hk) (by decide)]

/-- TRACK_LOST. -/
theorem trackLost_runs (hstate : s.get F.LRX_STAT_STATE = 5) (hlos : s.on F.LRX_STAT_LOS = false) (hanchor : Lrx.anchored s = false) :
    runs .trackLost s (fun t => t.get F.LRX_STAT_STATE = 3 ∧ t.on F.LRX_INT_CAUSE_TRACK_LOST = true) := by
  have hlost : Lrx.trackLost s = Lrx.relock false (Lrx.enter 3 s) := if_pos ⟨hstate, by simp [hlos], by simp [hanchor]⟩
  refine runs_done (u := Lrx.trackLost s) rfl ?_
  rw [settle_get, on_settle, hlost, relock_get (by decide), on_congr (relock_get (by decide))]
  exact ⟨enter_state (by decide), enter_leaves_track hstate (by decide)⟩

/-- SINGULAR. -/
theorem singular_runs (hk : k < 512) (hstate : 4 ≤ s.get F.LRX_STAT_STATE) (hlos : s.on F.LRX_STAT_LOS = false)
    (hproc : Lrx.processed s k = true) (hcorr : 4 * den < 5 * num) :
    runs (.singular k num den) s (fun t => t.get F.LRX_SC_STAT_LOCK k = 1 ∧ t.get H.LRX_TAPS k = 0 ∧
      t.get F.LRX_SING_CNT_COUNT = min (2 ^ 32 - 1) (s.get F.LRX_SING_CNT_COUNT + 1) ∧ t.on F.LRX_INT_CAUSE_SINGULAR = true) := by
  have hsing : Lrx.singular k num den s = ((((s.put F.LRX_SC_STAT_LOCK 1 k).clr H.LRX_WIN_LOCK k).clr H.LRX_TAPS k).count
      F.LRX_SING_CNT_COUNT).set F.LRX_INT_CAUSE_SINGULAR := if_pos ⟨hstate, hproc, by simp [hlos], hcorr⟩
  refine runs_done (u := Lrx.singular k num den s) rfl ?_
  rw [settle_get, settle_get, settle_get, on_settle, hsing]
  refine ⟨?_, ?_, ?_, on_set (by decide) (by decide)⟩
  · rw [get_set_ne (by decide), get_count_ne (by decide), get_clr_ne (by decide), get_clr_ne (by decide),
      get_put_lt (has_row rfl hk) (by decide)]
  · rw [get_set_ne (by decide), get_count_ne (by decide), get_clr]
  · rw [get_set_ne (by decide), get_count (by decide), get_clr_ne (by decide), get_clr_ne (by decide), get_put_ne (by decide)]
    rfl

/-- RESTART. -/
theorem restart_runs (ht : takes .LRX_CTRL s = true) (hstate : s.get F.LRX_STAT_STATE ≠ 0) :
    runs .restart s (fun t => t.get F.LRX_STAT_STATE = 2) := by
  have hrestart : Lrx.restart s = Lrx.enterCd s := if_neg hstate
  refine runs_lrxRow rfl ht rfl (by decide) fun t hget => ?_
  rw [hget _ (by decide), hrestart, enterCd_state]

/-! ### Cycle slips, carrier phase and impossible blocks (R61, R70) -/

/-- The machine as a slip has turned the quadrant. -/
def quadTurned (k turns : Nat) (s : State) : State := if s.on F.LRX_CR_CFG_CS_EN then s.countWrap H.LRX_QUAD turns k else s

theorem quadTurned_quad (hk : k < 512) : (quadTurned k turns s).get H.LRX_QUAD k =
    if s.on F.LRX_CR_CFG_CS_EN then (s.get H.LRX_QUAD k + turns) % 4 else s.get H.LRX_QUAD k := by
  unfold quadTurned
  split
  · exact State_get_put_same _ _ _ _ _ _ (has_row rfl hk)
  · rfl

theorem quadTurned_get (h : apart H.LRX_QUAD g = true) : (quadTurned k turns s).get g i = s.get g i := by
  unfold quadTurned
  split
  · exact get_put_ne h
  · rfl

/-- CYCLE_SLIP. -/
theorem cycleSlip_runs (hk : k < 512) (hturns : turns % 4 ≠ 0) (hlos : s.on F.LRX_STAT_LOS = false) (hproc : Lrx.processed s k = true) :
    runs (.cycleSlip k turns) s (fun t =>
      t.get H.LRX_QUAD k = (if s.on F.LRX_CR_CFG_CS_EN then (s.get H.LRX_QUAD k + turns) % 4 else s.get H.LRX_QUAD k) ∧
      t.get F.LRX_SC_STAT_CSLIP k = min 255 (s.get F.LRX_SC_STAT_CSLIP k + 1) ∧
      t.get F.LRX_CSLIP_CNT_COUNT = min (2 ^ 32 - 1) (s.get F.LRX_CSLIP_CNT_COUNT + 1) ∧ t.on F.LRX_INT_CAUSE_CYCLE_SLIP = true) := by
  have hslip : Lrx.cycleSlip k turns s = (((quadTurned k turns s).count F.LRX_SC_STAT_CSLIP 1 k).count F.LRX_CSLIP_CNT_COUNT).set
      F.LRX_INT_CAUSE_CYCLE_SLIP := if_neg (by simp [hturns, hlos, hproc])
  refine runs_done (u := Lrx.cycleSlip k turns s) rfl ?_
  rw [settle_get, settle_get, settle_get, on_settle, hslip]
  refine ⟨?_, ?_, ?_, on_set (by decide) (by decide)⟩
  · rw [get_set_ne (by decide), get_count_ne (by decide), get_count_ne (by decide), quadTurned_quad hk]
  · rw [get_set_ne (by decide), get_count_ne (by decide), get_count (has_row rfl hk), quadTurned_get (by decide)]
    rfl
  · rw [get_set_ne (by decide), get_count (by decide), get_count_ne (by decide), quadTurned_get (by decide)]
    rfl

/-- PHASE_REACQUIRED. -/
theorem phaseReacquired_runs (hlos : s.on F.LRX_STAT_LOS = false) : runs .phaseReacquired s (fun t => t.on H.LRX_LLR_HOLD = false) := by
  refine runs_done (u := Lrx.phaseReacquired s) rfl ?_
  rw [on_settle]
  unfold Lrx.phaseReacquired
  split
  next h => simpa [hlos] using h
  next =>
    have hrest (n : Nat) : Moves (Misses H.LRX_LLR_HOLD) (s.clr H.LRX_LLR_HOLD)
        ((s.clr H.LRX_LLR_HOLD).each n fun k t => if t.get F.LRX_SC_STAT_LOCK k = 2 then Fec.validFrom k t else t) :=
      .each n .refl fun k t h => moves_ite (.set _ _ _ rfl h) h
    rw [on_congr (hrest _).get_misses, on_clr]

/-- DM_ERR. -/
theorem dmErr_runs (hen : s.on F.LRX_CTRL_EN = true) (hproc : Lrx.processed s k = true) (hcarries : Fec.carries (s.get H.LRX_ACTIVE k) = true)
    (hshaped : slice (s.get H.LRX_ACTIVE k) 3 2 ≠ 0)
    (hblock : Signal.indexOf (slice (s.get H.LRX_ACTIVE k) 3 2) (slice (s.get H.LRX_ACTIVE k) 5 9 - 128) block = none) :
    runs (.dmErr k block) s (fun t => t.get F.LRX_DM_ERR_CNT_COUNT = min (2 ^ 32 - 1) (s.get F.LRX_DM_ERR_CNT_COUNT + 1) ∧
      t.on F.LRX_INT_CAUSE_DM_ERR = true) := by
  have hdm : Tick.dmError k block s = Fec.mark k ((s.count F.LRX_DM_ERR_CNT_COUNT).set F.LRX_INT_CAUSE_DM_ERR) :=
    if_neg (by simp [Lrx.entry, hen, hproc, hcarries, hshaped, hblock])
  refine runs_done (u := Tick.dmError k block s) rfl ?_
  rw [settle_get, on_settle, hdm, Fec.mark, get_set_ne (by decide), get_set_ne (by decide), on_set_ne (by decide),
    on_set (by decide) (by decide), get_count (by decide)]
  exact ⟨rfl, rfl⟩

/-! ### The fine-tune output and its offload (R62, R63) -/

def showFineFields : List Machine.Field :=
  [F.LRX_INT_CAUSE_LOFB_LIMIT, F.LRX_LOFB_STAT_FINE, F.LRX_STAT_LOFB_LIMIT, F.LSR_FT_OUT_LIMIT, F.LSR_FT_OUT_MHZ, H.LRX_FINE, H.LSR_CODE]

theorem showFine_get (h : clearOf showFineFields g = true) : (Lrx.showFine v s).get g = s.get g := by
  refine Moves.get_misses ?_
  apply Lrx_showFine_moves (h := .refl) <;> exact misses_of_clearOf h (by decide)

/-- What is shown of the fine-tune output leaves the value with its fraction. -/
theorem showFine_fine (hlo : -131072000 ≤ v) (hhi : v ≤ 131072000) : (Lrx.showFine v s).sget H.LRX_FINE = v := by
  have hset := Lsr_setFine_moves (W := Misses H.LRX_FINE) rfl rfl rfl rfl 0 (roundDivInt v (10 * 32768)) (.refl (s₀ := s.sput H.LRX_FINE v))
  have hrest : Moves (Misses H.LRX_FINE) (s.sput H.LRX_FINE v) (Lrx.showFine v s) :=
    .put _ _ _ _ _ rfl (moves_ite (.set _ _ _ rfl hset) hset)
  rw [sget_congr hrest.get_misses]
  exact sget_sput (by decide) (by decide) (by norm_num [H.LRX_FINE, fld]; omega) (by norm_num [H.LRX_FINE, fld]; omega)

def offloadFields : List Machine.Field :=
  [F.LRX_STAT_LOFB_PENDING, F.LSR_STAT_SER_BUSY, H.LRX_LOFB_OFFLOAD, H.LSR_HOST_PEND, H.LSR_HOST_RUN, H.LSR_OWN_CMD, H.LSR_OWN_DONE,
   H.LSR_OWN_PEND, H.LSR_OWN_RUN, H.LSR_TUNE_PEND]

theorem offload_get (h : clearOf offloadFields g = true) : (Lrx.offload s).get g = s.get g := by
  refine Moves.get_misses ?_
  apply Lrx_offload_moves (h := .refl) <;> exact misses_of_clearOf h (by decide)

/-- The fine-tune value that an update with a total offset moves to. -/
def fineTarget (s : State) (total : Int) : Int :=
  clampInt (-131072000) 131072000 (Lrx.fine s + total * (32768 / 2 ^ s.get F.LRX_LOFB_CFG_GAIN : Nat))

theorem clampInt_range {lo hi : Int} (h : lo ≤ hi) : lo ≤ clampInt lo hi v ∧ clampInt lo hi v ≤ hi := by
  unfold clampInt
  split_ifs <;> omega

theorem fineTarget_report : fineTarget (s.sput F.LRX_CFO_TOTAL v) total = fineTarget s total := by
  rw [fineTarget, Lrx.fine, sget_congr (get_sput_ne (by decide)), sget_congr (get_sput_ne (by decide)), get_sput_ne (by decide), fineTarget,
    Lrx.fine]

/-- An update reports the offset; it moves the fine-tune output, the rotation with it, where no offload holds it. -/
theorem lofbUpdate_cases (hlofb : s.on F.LRX_CTRL_LOFB_EN = true) (hstate : s.get F.LRX_STAT_STATE = 3 ∨ s.get F.LRX_STAT_STATE = 5)
    (hlos : s.on F.LRX_STAT_LOS = false) (htotal : total = roundDivInt (s.sget H.LRX_ROT) 32768 + mean) :
    (s.on F.LRX_STAT_LOFB_PENDING = true ∧ Lrx.lofbUpdate mean s = s.sput F.LRX_CFO_TOTAL total) ∨
    (s.on F.LRX_STAT_LOFB_PENDING = false ∧ ∃ rot, Lrx.lofbUpdate mean s =
      Lrx.offload (Lrx.showFine (fineTarget s total) ((s.sput F.LRX_CFO_TOTAL total).sput H.LRX_ROT rot))) := by
  subst htotal
  have hgo : (s.on F.LRX_CTRL_LOFB_EN && (Lrx.state s == 3 || Lrx.state s == 5) && !s.on F.LRX_STAT_LOS) = true := by
    simp [hlofb, hlos, Lrx.state, hstate]
  rw [← fineTarget_report (v := roundDivInt (s.sget H.LRX_ROT) 32768 + mean), Lrx.lofbUpdate, if_pos hgo]
  dsimp only
  rw [on_congr (get_sput_ne (by decide))]
  rcases s.on F.LRX_STAT_LOFB_PENDING
  · exact .inr ⟨rfl, _, if_neg nofun⟩
  · exact .inl ⟨rfl, if_pos rfl⟩

/-- LOFB_UPDATE. -/
theorem lofbUpdate_runs (hlofb : s.on F.LRX_CTRL_LOFB_EN = true) (hstate : s.get F.LRX_STAT_STATE = 3 ∨ s.get F.LRX_STAT_STATE = 5)
    (hlos : s.on F.LRX_STAT_LOS = false) (htotal : total = roundDivInt (s.sget H.LRX_ROT) 32768 + mean) :
    runs (.lofbUpdate mean) s (fun t => t.get F.LRX_CFO_TOTAL = unsigned 17 total ∧
      (s.on F.LRX_STAT_LOFB_PENDING = true → t.get F.LRX_LOFB_STAT_FINE = s.get F.LRX_LOFB_STAT_FINE) ∧
      (s.on F.LRX_STAT_LOFB_PENDING = false → t.sget H.LRX_FINE = fineTarget s total)) := by
  have hreport : (s.sput F.LRX_CFO_TOTAL total).get F.LRX_CFO_TOTAL = unsigned 17 total := get_sput (by decide)
  refine runs_done (u := Lrx.lofbUpdate mean s) rfl ?_
  rw [settle_get, settle_get, sget_congr (settle_get ..)]
  rcases lofbUpdate_cases hlofb hstate hlos htotal with ⟨hpend, hu⟩ | ⟨hpend, rot, hu⟩ <;> rw [hpend, hu]
  · exact ⟨hreport, fun _ => get_sput_ne (by decide), nofun⟩
  · obtain ⟨hlo, hhi⟩ : -131072000 ≤ fineTarget s total ∧ fineTarget s total ≤ 131072000 := clampInt_range (by decide)
    refine ⟨?_, nofun, fun _ => ?_⟩
    · rw [offload_get (by decide), showFine_get (by decide), get_sput_ne (by decide), hreport]
    · rw [sget_congr (offload_get (by decide)), showFine_fine hlo hhi]

/-- LOFB_OFFLOAD_DONE. -/
theorem lofbOffloadDone_runs (hpend : s.on F.LRX_STAT_LOFB_PENDING = true) (hdone : s.on H.LSR_OWN_DONE = true) :
    runs .lofbOffloadDone s (fun t => t.on F.LRX_STAT_LOFB_PENDING = false ∧
      t.get F.LRX_LOFB_STAT_SER = unsigned 13 (s.sget F.LRX_LOFB_STAT_SER + s.sget H.LRX_LOFB_OFFLOAD)) := by
  obtain ⟨v, hv⟩ : ∃ v, Lrx.offloadDone s = Lrx.showFine v (((s.clr F.LRX_STAT_LOFB_PENDING).clr H.LSR_OWN_DONE).sput F.LRX_LOFB_STAT_SER
      (s.sget F.LRX_LOFB_STAT_SER + s.sget H.LRX_LOFB_OFFLOAD)) := ⟨_, if_pos (by simp [hpend, hdone])⟩
  refine runs_done (u := Lrx.offloadDone s) rfl ?_
  rw [on_settle, settle_get, hv, on_congr (showFine_get (by decide)), showFine_get (by decide), get_sput (by decide),
    on_congr (get_sput_ne (by decide)), on_clr_ne (by decide), on_clr]
  exact ⟨rfl, rfl⟩

/-- LOFB_ERR. -/
theorem lofbErr_runs (hpend : s.on F.LRX_STAT_LOFB_PENDING = true) :
    runs .lofbErr s (fun t => t.on F.LRX_INT_CAUSE_LOFB_ERR = true ∧ t.on H.LRX_LOFB_STOPPED = true) := by
  have herr : Lrx.offloadError s = (s.set F.LRX_INT_CAUSE_LOFB_ERR).set H.LRX_LOFB_STOPPED := if_pos hpend
  refine runs_done (u := Lrx.offloadError s) rfl ?_
  rw [on_settle, on_settle, herr, on_set_ne (by decide), on_set (by decide) (by decide), on_set (by decide) (by decide)]
  exact ⟨rfl, rfl⟩

end Sys2Proof.Proofs

/-! SUPPORT. SNR_LATCH and TAP_SET_SWITCH where their conditions hold (O27; R59, R66, R67). -/
namespace Sys2Proof.Proofs
open Sys2Proof Sys2Proof.Machine Sys2Proof.Laws

variable {s t u : State} {f g : Machine.Field} {a b c d i j k l n ok x y z : Nat} {rows leaves : List (List Nat)}
  {imp : List Int} {kept : List Machine.Field}

/-! ### Loops -/

/-- Of a loop, the round of a number makes `q` from what the rounds before it keep, and the rounds after it keep `q`. -/
theorem each_reaches {p q : State → Prop} {round : Nat → State → State} (ha : a < n) (hp : p s)
    (hbefore : ∀ b t, b ≠ a → p t → p (round b t)) (hown : ∀ t, p t → q (round a t)) (hafter : ∀ b t, b ≠ a → q t → q (round b t)) :
    q (s.each n round) := by
  have hstart : ∀ m ≤ a, p (s.each m round) := fun m => by
    induction m with
    | zero => exact fun _ => hp
    | succ m ih =>
      intro hm
      rw [each_succ]
      exact hbefore m _ (by omega) (ih (by omega))
  induction n with
  | zero => exact absurd ha a.not_lt_zero
  | succ n ih =>
    rw [each_succ]
    rcases Nat.lt_succ_iff_lt_or_eq.mp ha with hlt | rfl
    · exact hafter n _ (Nat.ne_of_gt hlt) (ih hlt)
    · exact hown _ (hstart a le_rfl)

theorem atMost_eq_min (m n : Nat) : atMost m n = min m n := by
  unfold atMost
  split <;> omega

/-- A field of 10 bits takes a number limited to them. -/
theorem get_put_atMost (hf : f.shape.has i j k = true) (hw : f.width = 10) : (s.put f (atMost 1023 x) i j k).get f i j k = min 1023 x := by
  rw [get_put_lt hf (by rw [atMost_eq_min, hw]; omega), atMost_eq_min]

/-! ### The subcarriers of a window (R66) -/

/-- The sums that a row reports of subcarrier k, as its three SNRs. -/
def snrRow (rows : List (List Nat)) (k : Nat) : Nat × Nat × Nat := Tick.snrOf ((rows.find? (fun r => r.getD 0 512 == k)).getD [])

/-- What the latch does to subcarrier k. -/
def latchRound (rows : List (List Nat)) (k : Nat) (t : State) : State :=
  if Lrx.processed t k then
    Lrx.adapt k ((Lrx.latchSnr k (snrRow rows k).1 (snrRow rows k).2.1 (snrRow rows k).2.2 t).put H.SCM_SNR_MF (t.get H.SCM_MF) 1 k)
  else (t.clr F.LRX_SNR_VALID k).clr H.LRX_WIN_LOCK k

/-- The fields of a subcarrier that its round writes. -/
def windowFields : List Machine.Field := [F.LRX_SNR_SNR_X, F.LRX_SNR_SNR_Y, F.LRX_SNR_SNR, F.LRX_SNR_VALID, H.LRX_WIN_LOCK]

theorem latchRound_moves (h : ([H.SCM_SNR_MF, H.LRX_TAPS] ++ windowFields).all (fun f => spares kept (.fld f)) = true) (k : Nat) (t : State) :
    Moves (Sparing kept) t (latchRound rows k t) := by
  have hm {f : Machine.Field} (hf : f ∈ [H.SCM_SNR_MF, H.LRX_TAPS] ++ windowFields) : Sparing kept (.fld f) := List.all_eq_true.mp h f hf
  refine moves_ite (Lrx_adapt_moves (hm (by decide)) k (.put _ _ _ _ _ (hm (by decide)) ?_))
    (.clr _ _ _ (hm (by decide)) (.clr _ _ _ (hm (by decide)) .refl))
  exact Lrx_latchSnr_moves (hm (by decide)) (hm (by decide)) (hm (by decide)) (hm (by decide)) (hm (by decide)) _ _ _ _ .refl

/-- A subcarrier's fields are written in its own round alone. -/
theorem get_put_window (hf : f ∈ windowFields) (hg : g ∈ windowFields) (hb : b ≠ k) : (s.put f n b).get g k = s.get g k := by
  obtain ⟨hplain, happ⟩ := (by decide : ∀ f ∈ windowFields, Field.plain f = true ∧ ∀ g ∈ windowFields, f = g ∨ apart f g = true) f hf
  rcases happ g hg with rfl | hfg
  · exact get_put_other hplain hb.symm
  · exact get_put_ne hfg

theorem latchRound_other (hg : g ∈ windowFields) (hb : b ≠ k) : (latchRound rows b t).get g k = t.get g k := by
  obtain ⟨htaps, hmf⟩ := (by decide : ∀ g ∈ windowFields, apart H.LRX_TAPS g = true ∧ apart H.SCM_SNR_MF g = true) g hg
  have hw {f : Machine.Field} {n : Nat} {s : State} (hf : f ∈ windowFields) : (s.put f n b).get g k = s.get g k := get_put_window hf hg hb
  unfold latchRound
  split
  · rw [adapt_get htaps, get_put_ne hmf, Lrx.latchSnr, hw (by decide), hw (by decide), hw (by decide), hw (by decide), hw (by decide)]
  · rw [State.clr, hw (by decide), State.clr, hw (by decide)]

/-- What tells whether a subcarrier is processed. -/
def processedFields : List Machine.Field := [F.SYS_ROLE_ROLE, F.LRX_RXGRP_K_LO, F.LRX_RXGRP_K_HI, F.LRX_LINE_CFG_NSC_M1, H.LRX_ACTIVE]

theorem processed_congr (h : ∀ g ∈ processedFields, ∀ i, t.get g i = s.get g i) : Lrx.processed t k = Lrx.processed s k := by
  unfold Lrx.processed Lrx.span Lrx.subcarriers Lrx.entry State.leaf
  rw [h F.SYS_ROLE_ROLE (by decide), h F.LRX_RXGRP_K_LO (by decide), h F.LRX_RXGRP_K_HI (by decide), h F.LRX_LINE_CFG_NSC_M1 (by decide),
    h H.LRX_ACTIVE (by decide)]

/-- The three SNRs of subcarrier k are latched, with VALID as given. -/
def Latched (k x y c valid : Nat) (t : State) : Prop :=
  t.get F.LRX_SNR_SNR_X k = min 1023 x ∧ t.get F.LRX_SNR_SNR_Y k = min 1023 y ∧ t.get F.LRX_SNR_SNR k = min 1023 c ∧
  t.get F.LRX_SNR_VALID k = valid

theorem latched_congr {valid : Nat} (h : ∀ g ∈ [F.LRX_SNR_SNR_X, F.LRX_SNR_SNR_Y, F.LRX_SNR_SNR, F.LRX_SNR_VALID], t.get g k = s.get g k)
    (hs : Latched k x y c valid s) : Latched k x y c valid t := by
  rw [Latched, h F.LRX_SNR_SNR_X (by decide), h F.LRX_SNR_SNR_Y (by decide), h F.LRX_SNR_SNR (by decide), h F.LRX_SNR_VALID (by decide)]
  exact hs

theorem latchRound_latches (hk : k < 512) (hproc : Lrx.processed t k = true) (hrow : snrRow rows k = (x, y, c)) :
    Latched k x y c (t.get H.LRX_WIN_LOCK k) (latchRound rows k t) := by
  have hx : (snrRow rows k).1 = x := by rw [hrow]
  have hy : (snrRow rows k).2.1 = y := by rw [hrow]
  have hc : (snrRow rows k).2.2 = c := by rw [hrow]
  have hlatch {g : Machine.Field} (htaps : apart H.LRX_TAPS g = true) (hmf : apart H.SCM_SNR_MF g = true) :
      (latchRound rows k t).get g k = (Lrx.latchSnr k x y c t).get g k := by
    rw [latchRound, if_pos hproc, adapt_get htaps, get_put_ne hmf, hx, hy, hc]
  rw [Latched, hlatch (by decide) (by decide), hlatch (by decide) (by decide), hlatch (by decide) (by decide), hlatch (by decide) (by decide),
    Lrx.latchSnr]
  refine ⟨?_, ?_, ?_, ?_⟩
  · rw [get_put_ne (by decide), get_put_ne (by decide), get_put_ne (by decide), get_put_ne (by decide), get_put_atMost (has_row rfl hk) rfl]
  · rw [get_put_ne (by decide), get_put_ne (by decide), get_put_ne (by decide), get_put_atMost (has_row rfl hk) rfl]
  · rw [get_put_ne (by decide), get_put_ne (by decide), get_put_atMost (has_row rfl hk) rfl]
  · rw [get_put_ne (by decide), get_put_get (has_row rfl hk) (by decide)]

/-- Every processed subcarrier latches what its row reports, VALID as the window's lock stood. -/
theorem latchRounds_latch (hk : k < Lrx.subcarriers s) (hproc : Lrx.processed s k = true) (hrow : snrRow rows k = (x, y, c)) :
    Latched k x y c (s.get H.LRX_WIN_LOCK k) (s.each (Lrx.subcarriers s) (latchRound rows)) := by
  have hk' : k < 512 := Nat.lt_of_lt_of_le hk (State_get_lt s F.LRX_LINE_CFG_NSC_M1 0 0 0)
  refine each_reaches (p := fun t => t.get H.LRX_WIN_LOCK k = s.get H.LRX_WIN_LOCK k ∧ Lrx.processed t k = true) hk ⟨rfl, hproc⟩ ?_ ?_ ?_
  · rintro b t hb ⟨hlock, hp⟩
    exact ⟨(latchRound_other (by decide) hb).trans hlock,
      (processed_congr fun g hg i => get_of_sparing (latchRound_moves (by decide) b t) hg).trans hp⟩
  · rintro t ⟨hlock, hp⟩
    rw [← hlock]
    exact latchRound_latches hk' hp hrow
  · exact fun b t hb => latched_congr fun g hg =>
      latchRound_other ((by decide : ∀ g ∈ [F.LRX_SNR_SNR_X, F.LRX_SNR_SNR_Y, F.LRX_SNR_SNR, F.LRX_SNR_VALID], g ∈ windowFields) g hg) hb

/-! ### The leaves of a window, and its estimates (R66, R67) -/

/-- What the latch does for a leaf's row. -/
def leafRound (r : List Nat) (t : State) : State :=
  (Lrx.latchLeaf (r.getD 0 0) (Tick.snrOf r).1 (Tick.snrOf r).2.1 (Tick.snrOf r).2.2 (r.getD 5 0 % 2) t).put H.SCM_LEAF_MF (t.get H.SCM_MF)
    (r.getD 0 0)

/-- The machine as the subcarriers and the leaves have latched. -/
def windowEnded (rows leaves : List (List Nat)) (s : State) : State :=
  (s.each (Lrx.subcarriers s) (latchRound rows)).eachOf (leaves.filter (fun r => decide (r.getD 0 512 < 512))) leafRound

theorem snrLatch_eq (hen : s.on F.LRX_CTRL_EN = true) : Tick.snrLatch rows leaves imp s =
    Scm.latched ((Lrx.latchImpairments imp (windowEnded rows leaves s)).set F.LRX_INT_CAUSE_SNR_LATCH) := if_neg (by simp [hen])

/-- Everything that SNR_LATCH shows of the window. -/
def latchFields : List Machine.Field :=
  [F.LRX_SNR_SNR_X, F.LRX_SNR_SNR_Y, F.LRX_SNR_SNR, F.LRX_SNR_VALID, F.LRX_SNR_LEAF_SNR_X, F.LRX_SNR_LEAF_SNR_Y, F.LRX_SNR_LEAF_SNR,
   F.LRX_SNR_LEAF_VALID, F.LRX_IMP_DGD, F.LRX_IMP_PDL, F.LRX_CFO_TOTAL, F.LRX_INT_CAUSE_SNR_LATCH]

/-- What SCM computes of the new values is none of it. -/
theorem scmLatched_get (hg : g ∈ latchFields) : (Scm.latched s).get g i j k = s.get g i j k := by
  refine get_of_sparing (l := latchFields) ?_ hg
  apply Scm_latched_moves (h := .refl) <;> rfl

/-- The completion of SNR_LATCH. -/
theorem snrLatch_runs_of {p : State → Prop} (hen : s.on F.LRX_CTRL_EN = true)
    (hp : ∀ t, (∀ g ∈ latchFields, ∀ i, t.get g i =
      ((Lrx.latchImpairments imp (windowEnded rows leaves s)).set F.LRX_INT_CAUSE_SNR_LATCH).get g i) → p t) :
    runs (.snrLatch rows leaves imp) s p := by
  refine runs_mirrored rfl (hp _ fun g hg i => ?_)
  rw [settle_get, mirror_get, snrLatch_eq hen, scmLatched_get hg]

def impFields : List Machine.Field := [F.LRX_CD_RESID_RESID, F.LRX_CFO_TOTAL, F.LRX_IMP_DGD, F.LRX_IMP_PDL]

theorem latchImpairments_get (h : clearOf impFields g = true) : (Lrx.latchImpairments imp s).get g i = s.get g i :=
  (Lrx_latchImpairments_moves (misses_of_clearOf h (by decide)) (misses_of_clearOf h (by decide)) (misses_of_clearOf h (by decide))
    (misses_of_clearOf h (by decide)) imp .refl).get_misses

def leafRowFields : List Machine.Field :=
  [F.LRX_SNR_LEAF_SNR, F.LRX_SNR_LEAF_SNR_X, F.LRX_SNR_LEAF_SNR_Y, F.LRX_SNR_LEAF_VALID, H.SCM_LEAF_MF]

/-- The leaves' rows write fields of their own. -/
theorem windowEnded_get (h : clearOf leafRowFields g = true) :
    (windowEnded rows leaves s).get g i = (s.each (Lrx.subcarriers s) (latchRound rows)).get g i := by
  have hm {f : Machine.Field} (hf : f ∈ leafRowFields) : Misses g (.fld f) := misses_of_clearOf h hf
  exact (Moves.eachOf _ .refl fun r t ht => .put _ _ _ _ _ (hm (by decide))
    (Lrx_latchLeaf_moves (hm (by decide)) (hm (by decide)) (hm (by decide)) (hm (by decide)) _ _ _ _ _ ht)).get_misses

theorem windowEnded_state : (windowEnded rows leaves s).get F.LRX_STAT_STATE = s.get F.LRX_STAT_STATE := by
  rw [windowEnded_get (by decide)]
  exact get_of_sparing (l := [F.LRX_STAT_STATE]) (.each _ .refl fun k t h => h.trans (latchRound_moves (by decide) k t)) (by decide)

/-- The estimates are kept in TRACK. -/
theorem latchImpairments_eq {dgd pdl resid cfo : Int} (h : s.get F.LRX_STAT_STATE = 5) : Lrx.latchImpairments [dgd, pdl, resid, cfo] s =
    (((s.put F.LRX_IMP_DGD (atMost 1023 dgd.toNat)).put F.LRX_IMP_PDL (atMost 1023 pdl.toNat)).sput F.LRX_CD_RESID_RESID resid).sput
      F.LRX_CFO_TOTAL cfo := if_pos h

/-- SNR_LATCH, of a processed subcarrier and the estimates. -/
theorem snrLatch_runs {dgd pdl resid cfo : Int} (hen : s.on F.LRX_CTRL_EN = true) (hk : k < Lrx.subcarriers s)
    (hproc : Lrx.processed s k = true) (hrow : snrRow rows k = (x, y, c)) :
    runs (.snrLatch rows leaves [dgd, pdl, resid, cfo]) s (fun t =>
      t.get F.LRX_SNR_SNR_X k = min 1023 x ∧ t.get F.LRX_SNR_SNR_Y k = min 1023 y ∧ t.get F.LRX_SNR_SNR k = min 1023 c ∧
      t.get F.LRX_SNR_VALID k = s.get H.LRX_WIN_LOCK k ∧ t.on F.LRX_INT_CAUSE_SNR_LATCH = true ∧ (s.get F.LRX_STAT_STATE = 5 →
        t.get F.LRX_IMP_DGD = min 1023 dgd.toNat ∧ t.get F.LRX_IMP_PDL = min 1023 pdl.toNat ∧ t.get F.LRX_CFO_TOTAL = unsigned 17 cfo)) := by
  refine snrLatch_runs_of hen fun t hget => ?_
  obtain ⟨hx, hy, hc, hvalid⟩ : Latched k x y c (s.get H.LRX_WIN_LOCK k) t := by
    refine latched_congr (fun g hg => ?_) (latchRounds_latch hk hproc hrow)
    obtain ⟨hmem, hcause, himp, hleaf⟩ := (by decide : ∀ g ∈ [F.LRX_SNR_SNR_X, F.LRX_SNR_SNR_Y, F.LRX_SNR_SNR, F.LRX_SNR_VALID],
      g ∈ latchFields ∧ apart F.LRX_INT_CAUSE_SNR_LATCH g = true ∧ clearOf impFields g = true ∧ clearOf leafRowFields g = true) g hg
    rw [hget g hmem, get_set_ne hcause, latchImpairments_get himp, windowEnded_get hleaf]
  refine ⟨hx, hy, hc, hvalid, ?_, fun hstate => ?_⟩
  · rw [on_congr (hget _ (by decide) 0), on_set (by decide) (by decide)]
  · rw [hget _ (by decide), hget _ (by decide), hget _ (by decide), latchImpairments_eq (windowEnded_state.trans hstate)]
    refine ⟨?_, ?_, ?_⟩
    · rw [get_set_ne (by decide), get_sput_ne (by decide), get_sput_ne (by decide), get_put_ne (by decide), get_put_atMost (by decide) rfl]
    · rw [get_set_ne (by decide), get_sput_ne (by decide), get_sput_ne (by decide), get_put_atMost (by decide) rfl]
    · rw [get_set_ne (by decide), get_sput (by decide)]
      rfl

/-- SNR_LATCH, of a leaf. -/
theorem snrLatch_leaf_runs (hen : s.on F.LRX_CTRL_EN = true) (hl : l < 512) (hsnr : Tick.snrOf [l, a, b, c, d, ok] = (x, y, z)) :
    runs (.snrLatch rows [[l, a, b, c, d, ok]] []) s (fun t => t.get F.LRX_SNR_LEAF_SNR_X l = min 1023 x ∧
      t.get F.LRX_SNR_LEAF_SNR_Y l = min 1023 y ∧ t.get F.LRX_SNR_LEAF_SNR l = min 1023 z ∧ t.get F.LRX_SNR_LEAF_VALID l = ok % 2) := by
  obtain ⟨u, hu⟩ : ∃ u, windowEnded rows [[l, a, b, c, d, ok]] s =
      (Lrx.latchLeaf l x y z (ok % 2) u).put H.SCM_LEAF_MF (u.get H.SCM_MF) l := by
    refine ⟨s.each (Lrx.subcarriers s) (latchRound rows), ?_⟩
    rw [windowEnded, List.filter_cons_of_pos (by simpa using hl)]
    simp only [List.filter_nil, State.eachOf, List.foldl_cons, List.foldl_nil, leafRound, hsnr]
    rfl
  refine snrLatch_runs_of hen fun t hget => ?_
  have hleaf {g : Machine.Field} (hg : g ∈ latchFields) (hc : apart F.LRX_INT_CAUSE_SNR_LATCH g = true) (hi : clearOf impFields g = true)
      (hmf : apart H.SCM_LEAF_MF g = true) : t.get g l = (Lrx.latchLeaf l x y z (ok % 2) u).get g l := by
    rw [hget g hg, get_set_ne hc, latchImpairments_get hi, hu, get_put_ne hmf]
  rw [hleaf (by decide) (by decide) (by decide) (by decide), hleaf (by decide) (by decide) (by decide) (by decide),
    hleaf (by decide) (by decide) (by decide) (by decide), hleaf (by decide) (by decide) (by decide) (by decide), Lrx.latchLeaf]
  refine ⟨?_, ?_, ?_, get_put_lt (has_row rfl hl) (Nat.mod_lt _ (by decide))⟩
  · rw [get_put_ne (by decide), get_put_ne (by decide), get_put_ne (by decide), get_put_atMost (has_row rfl hl) rfl]
  · rw [get_put_ne (by decide), get_put_ne (by decide), get_put_atMost (has_row rfl hl) rfl]
  · rw [get_put_ne (by decide), get_put_atMost (has_row rfl hl) rfl]

/-! ### Tap sets (R59) -/

theorem ownSet_owner (h : Lrx.ownSet s l k = some i) : s.get H.LRX_SET_OWNER i = 1 + 512 * l + k := by simpa using List.find?_some h

/-- The set found for a pair is its own, or free. -/
theorem setOf_owner (h : Lrx.setOf s l k = some i) : s.get H.LRX_SET_OWNER i = 1 + 512 * l + k ∨ s.get H.LRX_SET_OWNER i = 0 := by
  unfold Lrx.setOf at h
  split at h
  next hown =>
    cases h
    exact .inl (ownSet_owner hown)
  next => exact .inr (by simpa using List.find?_some h)

/-- The machine as set i is the pair's: allocated at its first slot, from the initial taps in ACQ. -/
def allotted (l k i : Nat) (s : State) : State :=
  if s.get H.LRX_SET_OWNER i == 0 then ((s.put H.LRX_SET_OWNER (1 + 512 * l + k) i).clr H.LRX_TAP_SET i).put H.LRX_SET_LOCK 1 i else s

/-- The machine as set i is in use at subcarrier k, in a slot of leaf l. -/
def setLoaded (l k i : Nat) (s : State) : State :=
  ((s.put H.LRX_TAPS (s.get H.LRX_TAP_SET i) k).put F.LRX_SC_STAT_LOCK (s.get H.LRX_SET_LOCK i) k).put H.LRX_SLOT_LEAF l k

/-- The machine as the taps of subcarrier k are saved in set i, its slot over. -/
def setSaved (k i : Nat) (s : State) : State :=
  ((s.put H.LRX_TAP_SET (s.get H.LRX_TAPS k) i).put H.LRX_SET_LOCK (s.get F.LRX_SC_STAT_LOCK k) i).put H.LRX_SLOT_LEAF 512 k

section
variable (hleaf : s.leaf = false) (hpair : (Lrx.slotPairs s H.LRX_ACTIVE).contains (l, k) = true)
include hleaf hpair

theorem tapSwitch_start (hset : Lrx.setOf s l k = some i) : Lrx.tapSwitch k l true s = setLoaded l k i (allotted l k i s) := by
  rw [Lrx.tapSwitch, if_neg (by rw [hleaf, hpair]; decide), if_pos rfl, hset]
  rfl

theorem tapSwitch_end (hset : Lrx.ownSet s l k = some i) (hslot : s.get H.LRX_SLOT_LEAF k = l) :
    Lrx.tapSwitch k l false s = setSaved k i (Lrx.adapt k s) := by
  rw [Lrx.tapSwitch, if_neg (by rw [hleaf, hpair]; decide), if_neg nofun, hset]
  exact if_pos hslot

end

theorem setLoaded_get (h : clearOf [H.LRX_TAPS, F.LRX_SC_STAT_LOCK, H.LRX_SLOT_LEAF] g = true) :
    (setLoaded l k i s).get g n = s.get g n := by
  rw [setLoaded, get_put_ne (misses_of_clearOf h (by decide)), get_put_ne (misses_of_clearOf h (by decide)),
    get_put_ne (misses_of_clearOf h (by decide))]

theorem setLoaded_slot (hk : k < 512) (hl : l < 512) : (setLoaded l k i s).get H.LRX_SLOT_LEAF k = l :=
  get_put_lt (has_row rfl hk) (Nat.lt_trans hl (by decide))

theorem setLoaded_taps (hk : k < 512) : (setLoaded l k i s).get H.LRX_TAPS k = s.get H.LRX_TAP_SET i := by
  rw [setLoaded, get_put_ne (by decide), get_put_ne (by decide), get_put_get (has_row rfl hk) (by decide)]

theorem setLoaded_lock (hk : k < 512) : (setLoaded l k i s).get F.LRX_SC_STAT_LOCK k = s.get H.LRX_SET_LOCK i := by
  rw [setLoaded, get_put_ne (by decide), get_put_get (has_row rfl hk) (by decide)]

/-- TAP_SET_SWITCH at a slot's start. -/
theorem tapSetSwitch_start_runs (hleaf : s.leaf = false) (hpair : (Lrx.slotPairs s H.LRX_ACTIVE).contains (l, k) = true) (hk : k < 512)
    (hl : l < 512) (hi : i < 2048) (hset : Lrx.setOf s l k = some i) :
    runs (.tapSetSwitch k l true) s (fun t => t.get H.LRX_SET_OWNER i = 1 + 512 * l + k ∧ t.get H.LRX_SLOT_LEAF k = l ∧
      (if s.get H.LRX_SET_OWNER i = 0 then t.get H.LRX_TAPS k = 0 ∧ t.get F.LRX_SC_STAT_LOCK k = 1
        else t.get H.LRX_TAPS k = s.get H.LRX_TAP_SET i ∧ t.get F.LRX_SC_STAT_LOCK k = s.get H.LRX_SET_LOCK i)) := by
  refine runs_done (u := Lrx.tapSwitch k l true s) rfl ?_
  rw [settle_get, settle_get, settle_get, settle_get, tapSwitch_start hleaf hpair hset, setLoaded_get (by decide), setLoaded_slot hk hl,
    setLoaded_taps hk, setLoaded_lock hk]
  refine ⟨?_, rfl, ?_⟩
  · unfold allotted
    split
    · rw [get_put_ne (by decide), get_clr_ne (by decide), get_put_lt (has_row rfl hi) (by norm_num [H.LRX_SET_OWNER, fld]; omega)]
    next h => exact (setOf_owner hset).resolve_right (by simpa using h)
  · split
    next h =>
      rw [allotted, if_pos (by simp [h]), get_put_ne (by decide), get_clr, get_put_lt (has_row rfl hi) (by decide)]
      exact ⟨rfl, rfl⟩
    next h =>
      rw [allotted, if_neg (by simp [h])]
      exact ⟨rfl, rfl⟩

/-- TAP_SET_SWITCH at a slot's end. -/
theorem tapSetSwitch_end_runs (hleaf : s.leaf = false) (hpair : (Lrx.slotPairs s H.LRX_ACTIVE).contains (l, k) = true) (hk : k < 512)
    (hi : i < 2048) (hset : Lrx.ownSet s l k = some i) (hslot : s.get H.LRX_SLOT_LEAF k = l) :
    runs (.tapSetSwitch k l false) s (fun t => t.get H.LRX_TAP_SET i = t.get H.LRX_TAPS k ∧
      (s.on F.LRX_CTRL_EQ_FREEZE = true → t.get H.LRX_TAPS k = s.get H.LRX_TAPS k) ∧
      t.get H.LRX_SET_LOCK i = s.get F.LRX_SC_STAT_LOCK k ∧ t.get H.LRX_SLOT_LEAF k = 512) := by
  have htaps (u : State) : (setSaved k i u).get H.LRX_TAPS k = u.get H.LRX_TAPS k := by
    rw [setSaved, get_put_ne (by decide), get_put_ne (by decide), get_put_ne (by decide)]
  refine runs_done (u := Lrx.tapSwitch k l false s) rfl ?_
  rw [settle_get, settle_get, settle_get, settle_get, tapSwitch_end hleaf hpair hset hslot, htaps]
  refine ⟨?_, fun hfreeze => by rw [adapt_frozen hfreeze], ?_, get_put_lt (has_row rfl hk) (by decide)⟩
  · rw [setSaved, get_put_ne (by decide), get_put_ne (by decide), get_put_get (has_row rfl hi) (by decide)]
  · rw [setSaved, get_put_ne (by decide), get_put_get (has_row rfl hi) (by decide), adapt_get (by decide)]

/-- Settles O27, with one lemma for each command: what its operation comes to under the conditions, read through the completion. -/
theorem receiverTrackingResults : Obligations.ReceiverTrackingResults := by
  unfold Obligations.ReceiverTrackingResults
  exact ⟨fun s k snr => scLock_runs, fun s k snr => scUnlock_runs, fun s => trackLost_runs, fun s k num den => singular_runs,
    fun s k turns => cycleSlip_runs, fun s mean total => lofbUpdate_runs, fun s => lofbOffloadDone_runs, fun s => lofbErr_runs,
    fun s => restart_runs, fun s rows leaves k x y c dgd pdl resid cfo => snrLatch_runs,
    fun s rows l a b c d ok x y z => snrLatch_leaf_runs, fun s k block hen _ => dmErr_runs hen, fun s k l i => tapSetSwitch_start_runs,
    fun s k l i hleaf hpair hk _ => tapSetSwitch_end_runs hleaf hpair hk, fun s => phaseReacquired_runs⟩

end Sys2Proof.Proofs

/-! SUPPORT. The seconds of FRM (O38; R167): what SECOND_TICK latches from a table that lists a key of no field. -/
namespace Sys2Proof.Proofs
open Sys2Proof Sys2Proof.Machine Sys2Proof.Laws

variable {s : State} {d : Second} {n ties : Nat}

/-- What is said of a command that completes holds of the one state it leaves. -/
theorem of_runs_done {c : Instr} {s u : State} {p : State → Prop} (e : exec c s = done s u) (h : runs c s p) : p (settle s u) := by
  obtain ⟨t, ht, hp⟩ := h
  obtain rfl : settle s u = t := Host.Outcome.next.inj (e.symm.trans ht)
  exact hp

/-- A second without measurements, client counts or ties. -/
def quietSecond : Second := ⟨[], 0, [], 0⟩

/-- The machine after reset but for one more entry of the register table: its key lies one bit above that of the first live counter of
subcarrier 0, so that no field reads it. -/
def strayCount : State := { State.reset with csr := [(H.FRM_LIVE_SC.key 0 0 0 + 1, 1)] }

/-- The listed entries of an array. -/
def listed (f : Machine.Field) (s : State) : List (Nat × Nat) :=
  s.csr.filter (fun e => decide (f.range.1 ≤ e.1) && decide (e.1 < f.range.2))

/-- The one entry listed in the range of an array moves to the latched element at its byte offset, whatever the bits of its key below. -/
theorem moveArray_listed {live latched : Machine.Field} {key v : Nat} (i j : Nat) (hl : listed live s = [(key, v)])
    (hi : (key - live.range.1) / 8 / live.shape.d1 = i) (hj : (key - live.range.1) / 8 % live.shape.d1 / 4 = j) (hjn : j < n)
    (hh : latched.shape.has i j 0 = true) : (Frm.moveArray live latched n s).get latched i j = v % 2 ^ latched.width := by
  have hmove : Frm.moveArray live latched n s = ((s.wipe live).wipe latched).put latched v i j := by
    unfold Frm.moveArray
    simp only [listed] at hl
    simp only [hl, State.eachOf, List.foldl_cons, List.foldl_nil, hi, hj, if_pos hjn]
  rw [hmove, State_get_put_same _ _ _ _ _ _ hh]

section
variable {u : State}

/-- What the parts of a second write, the frames' counters of a subcarrier apart. -/
abbrev CountsKept : Part → Prop := Sparing [F.FRM_SC_PM_COUNT]

theorem frmLatch_rest (h : Moves CountsKept s u) : Moves CountsKept s (Frm.note (Frm.badSeconds (u.count F.FRM_BOUNDARY_TIES_COUNT ties))) :=
  Frm_note_moves rfl rfl rfl rfl rfl rfl rfl rfl rfl (Frm_badSeconds_moves rfl rfl rfl rfl (.count _ _ _ _ rfl h))

theorem fecLatch_counts (h : Moves CountsKept s u) : Moves CountsKept s (Fec.latch u) := by
  apply Fec_latch_moves (h := h) <;> rfl

theorem secondTail_counts (h : Moves CountsKept s u) :
    Moves CountsKept s (Eng.edge 4 (Tick.trial (((Flw.latchPmi u).wipe H.QDM_ERRS_SEC).count H.LCM_CHAL_AGE))) :=
  Eng_edge_moves (W := CountsKept) rfl 4
    (Tick_trial_moves (W := CountsKept) rfl (.count _ _ _ _ rfl (.wipe _ rfl (Flw_latchPmi_moves (W := CountsKept) rfl h))))

end

/-- After the live counters of the subcarriers have moved, nothing of the second writes the latched ones. -/
theorem second_latched {i j : Nat} : (Tick.second d s).get F.FRM_SC_PM_COUNT i j =
    (Frm.moveArray H.FRM_LIVE_SC F.FRM_SC_PM_COUNT 7 (Syn.second d s)).get F.FRM_SC_PM_COUNT i j := by
  refine get_of_sparing (l := [F.FRM_SC_PM_COUNT]) ?_ (by decide)
  unfold Tick.second Tick.blocks Frm.latch
  refine secondTail_counts ?_
  refine Hsl_latch_moves (W := CountsKept) rfl rfl rfl rfl rfl d.hsl (fecLatch_counts (frmLatch_rest (.set _ _ _ rfl (.countWrap _ _ _ _ rfl ?_))))
  exact Frm_moveArray_moves (W := CountsKept) _ _ _ rfl rfl rfl (Frm_moveArray_moves (W := CountsKept) _ _ _ rfl rfl rfl .refl)

/-- A table in canonical form (O3) from which SECOND_TICK latches a count that its live counter does not show. -/
theorem strayCount_mislatched : canonical strayCount ∧
    ¬runs (.secondTick quietSecond) strayCount (fun t => t.get F.FRM_SC_PM_COUNT 0 0 = strayCount.get H.FRM_LIVE_SC 0 0) := by
  refine ⟨⟨rfl, rfl, factoryFlash_wf⟩, fun h => ?_⟩
  have hcount := of_runs_done rfl h
  have hlisted : listed H.FRM_LIVE_SC (Syn.second quietSecond strayCount) = [(H.FRM_LIVE_SC.key 0 0 0 + 1, 1)] := by decide +kernel
  have hread : strayCount.get H.FRM_LIVE_SC 0 0 = 0 := by decide
  rw [settle_get, second_latched, moveArray_listed 0 0 hlisted rfl rfl (by decide) (by decide), hread] at hcount
  exact absurd hcount (by decide)

/-- Refutes O38, by its third clause. The statement is of every state, and SECOND_TICK moves the live counters entry by entry of the table:
one listed under a key that is no field's is moved too. In `strayCount` the live counter of subcarrier 0 reads 0, and 1 is latched from it. -/
theorem not_defectAndFlowResults : ¬ Obligations.DefectAndFlowResults := by
  unfold Obligations.DefectAndFlowResults
  rintro ⟨-, -, hsecond, -⟩
  obtain ⟨-, hnot⟩ := strayCount_mislatched
  obtain ⟨t, ht, hcount, -⟩ := hsecond strayCount quietSecond 0 0 (by decide) (by decide)
  exact hnot ⟨t, ht, hcount⟩

end Sys2Proof.Proofs

/-! SUPPORT. The messages of the Voluman link (O31, O33; R102 to R106): what sending, answering and hearing one leaves of the machine, and what a
message that is accepted and answered completes with. -/
namespace Sys2Proof.Proofs
open Sys2Proof Sys2Proof.Machine Sys2Proof.Laws

variable {c : Instr} {s t u : State} {p : State → Prop} {f g : Machine.Field} {act : State → State × Option Nat}
  {addr beacon flags i j k l q sender seq status type : Nat} {ackReq sync : Bool} {body : List Nat}

/-! ### Sending (R105, R106) -/

theorem send_get (h : apart H.VLK_SEQ g = true) : (Vlk.send beacon addr type ackReq sync body s).get g i j k = s.get g i j k := get_put_ne h

/-- The message that `send` appends. -/
def sent (s : State) (beacon addr type : Nat) (ackReq sync : Bool) (body : List Nat) : VMsg :=
  ⟨beacon, addr, ackReq && !Vlk.broadcast addr, sync, type, s.get H.VLK_SEQ (addr % 1024) (b01 (ackReq && !Vlk.broadcast addr)), body⟩

theorem send_own : (Vlk.send beacon addr type ackReq sync body s).vlk.own = s.vlk.own ++ [sent s beacon addr type ackReq sync body] := by
  simp [Vlk.send, sent]

theorem mem_send_own : sent s beacon addr type ackReq sync body ∈ (Vlk.send beacon addr type ackReq sync body s).vlk.own := by simp [send_own]

theorem mem_send_of_mem {m : VMsg} (h : m ∈ s.vlk.own) : m ∈ (Vlk.send beacon addr type ackReq sync body s).vlk.own := by
  rw [send_own]
  exact List.mem_append_left _ h

/-! ### Hearing and answering (R105, R116) -/

theorem heard_get (h : apart H.VLK_HEARD g = true) : (Vlk.heard addr s).get g i j k = s.get g i j k := by
  unfold Vlk.heard
  split
  · exact get_set_ne h
  · rfl

@[simp] theorem heard_vlk : (Vlk.heard addr s).vlk = s.vlk := by
  unfold Vlk.heard
  split <;> rfl

@[simp] theorem heard_leaf : (Vlk.heard addr s).leaf = s.leaf := by
  rw [State.leaf, heard_get (by decide), State.leaf]

/-- What the answer to a message leaves of the state `u` that its act made: every field but the streams' SEQ, every message that
waits to be sent, and the acknowledgement now waits too. -/
structure Answered (sender addr flags seq status : Nat) (u t : State) : Prop where
  get : ∀ g, apart H.VLK_SEQ g = true → ∀ i j k, t.get g i j k = u.get g i j k
  waits : ∀ m ∈ u.vlk.own, m ∈ t.vlk.own
  acknowledged : acknowledges t sender addr flags seq status

theorem Answered.on (h : Answered sender addr flags seq status u t) (hg : apart H.VLK_SEQ g = true) : t.on g i j k = u.on g i j k :=
  on_congr (h.get g hg i j k)

/-- An ACK that was sent to the sender, the hub or a leaf. -/
theorem ack_answers (hu : ∀ g i j k, u.get g i j k = s.get g i j k) (hown : u.vlk.own = s.vlk.own) :
    Answered sender addr flags seq status s (Vlk.ack sender seq status u) := by
  unfold Vlk.ack
  split
  next h =>
    refine ⟨fun g hg i j k => (send_get hg).trans (hu g i j k), fun m hm => mem_send_of_mem (hown ▸ hm), fun _ _ => ?_⟩
    exact List.any_eq_true.mpr ⟨_, mem_send_own, by simp [sent, h]⟩
  next =>
    refine ⟨fun g hg i j k => (send_get hg).trans (hu g i j k), fun m hm => mem_send_of_mem (hown ▸ hm), fun _ _ => ?_⟩
    exact List.any_eq_true.mpr ⟨_, mem_send_own, by simp [sent]⟩

/-- A message that is no repeat and is accepted. -/
theorem receive_answers (hfresh : flags.testBit 0 = true → Vlk.broadcast addr = false → Vlk.duplicate s sender seq = none)
    (hst : (act s).2 = some status) :
    Answered sender addr flags seq status (act s).1 (Vlk.receive sender seq (flags.testBit 0) (Vlk.broadcast addr) act s) := by
  unfold Vlk.receive
  split
  next hack =>
    simp only [Bool.and_eq_true, Bool.not_eq_true'] at hack
    simp only [hfresh hack.1 hack.2, hst]
    exact ack_answers (fun _ _ _ _ => rfl) rfl
  next hack =>
    refine ⟨fun _ _ _ _ _ => rfl, fun _ hm => hm, fun hf hb => absurd ?_ hack⟩
    rw [hf, hb]
    rfl

/-- A repeat is acknowledged again and does nothing else. -/
theorem receive_repeats (hf : flags.testBit 0 = true) (hb : Vlk.broadcast addr = false) (hdup : Vlk.duplicate s sender seq = some status) :
    Answered sender addr flags seq status s (Vlk.receive sender seq (flags.testBit 0) (Vlk.broadcast addr) act s) := by
  simp only [Vlk.receive, hf, hb, Bool.not_false, Bool.and_true, if_true, hdup]
  exact ack_answers (fun _ _ _ _ => rfl) rfl

theorem duplicate_of_notRepeat (h : notRepeat s sender addr flags seq = true) (hf : flags.testBit 0 = true)
    (hb : Vlk.broadcast addr = false) : Vlk.duplicate s sender seq = none := by
  simpa [notRepeat, hf, hb] using h

theorem duplicate_heard : Vlk.duplicate (Vlk.heard addr s) sender seq = Vlk.duplicate s sender seq := by
  rw [Vlk.duplicate, heard_vlk, Vlk.duplicate]

/-- A downstream message that this leaf accepts. -/
theorem down_answers (hme : Vlk.toMe s addr = true) (hnew : notRepeat s 512 addr flags seq = true)
    (hst : (act (Vlk.heard addr s)).2 = some status) :
    Answered 512 addr flags seq status (act (Vlk.heard addr s)).1 (Vlk.down addr flags seq act s) := by
  rw [Vlk.down, if_pos hme]
  exact receive_answers (fun hf hb => duplicate_heard.trans (duplicate_of_notRepeat hnew hf hb)) hst

/-! ### Completions -/

theorem Answered.of_get (h : Answered sender addr flags seq status s u) (hget : ∀ g i j k, t.get g i j k = u.get g i j k)
    (hvlk : t.vlk = u.vlk) : Answered sender addr flags seq status s t :=
  ⟨fun g hg i j k => (hget g i j k).trans (h.get g hg i j k), fun m hm => hvlk ▸ h.waits m hm, fun hf hb => hvlk ▸ h.acknowledged hf hb⟩

theorem runs_answered (e : exec c s = done s u) (h : Answered sender addr flags seq status t u)
    (hp : ∀ v, Answered sender addr flags seq status t v → p v) : runs c s p :=
  runs_done e (hp _ (h.of_get (settle_get s u) (settle_vlk s u)))

theorem runs_answered_mirrored (e : exec c s = Access.doneMirrored s u) (h : Answered sender addr flags seq status t u)
    (hp : ∀ v, Answered sender addr flags seq status t v → p v) : runs c s p :=
  runs_mirrored e (hp _ (h.of_get (fun _ _ _ _ => (settle_get ..).trans (mirror_get ..)) ((settle_vlk ..).trans (mirror_vlk ..))))

end Sys2Proof.Proofs

/-! SUPPORT. What the messages to a leaf do with its registers (O31; R97, R99, R110, R112, R121). -/
namespace Sys2Proof.Proofs
open Sys2Proof Sys2Proof.Machine Sys2Proof.Laws

variable {s t u : State} {f g : Machine.Field} {a addr d flags i j k lo n seq ver : Nat} {delta : Int}
  {entries scs : List Nat} {rows : List (List Nat)}

/-! ### Loops over a list -/

/-- What one round makes true, and no round of the list undoes, holds after the loop. -/
theorem eachOf_leaves {α : Type} {p : State → Prop} {round : α → State → State} {x : α} {l : List α} (hx : x ∈ l)
    (hmake : ∀ t, p (round x t)) (hkeep : ∀ y ∈ l, ∀ t, p t → p (round y t)) (s : State) : p (s.eachOf l round) := by
  have hrest : ∀ (l' : List α), (∀ y ∈ l', y ∈ l) → ∀ t, p t → p (t.eachOf l' round) := fun l' => by
    induction l' with
    | nil => exact fun _ _ h => h
    | cons y l' ih => exact fun hsub t h => ih (fun z hz => hsub z (.tail _ hz)) _ (hkeep y (hsub y (.head _)) t h)
  obtain ⟨before, after, rfl⟩ := List.append_of_mem hx
  rw [State.eachOf, List.foldl_append]
  exact hrest after (fun y hy => by simp [hy]) _ (hmake _)

/-- What no round of the list changes is as before the loop. -/
theorem eachOf_keeps {α β : Type} {obs : State → β} {round : α → State → State} {l : List α}
    (h : ∀ x ∈ l, ∀ t, obs (round x t) = obs t) (s : State) : obs (s.eachOf l round) = obs s := by
  induction l generalizing s with
  | nil => rfl
  | cons x l ih => exact (ih (fun y hy => h y (.tail _ hy)) _).trans (h x (.head _) s)

/-- A loop that writes elements of an array, the value of each following from its index. -/
theorem eachOf_put_get {α : Type} {l : List α} {x : α} (index value : α → Nat) (hf : Field.plain f = true) (hx : x ∈ l)
    (hk : f.shape.has (index x) 0 0 = true) (hone : ∀ y ∈ l, index y = index x → value y = value x) :
    (s.eachOf l fun y t => t.put f (value y) (index y)).get f (index x) = value x % 2 ^ f.width := by
  refine eachOf_leaves (p := fun t => t.get f (index x) = value x % 2 ^ f.width) hx (fun t => State_get_put_same _ _ _ _ _ _ hk)
    (fun y hy t h => ?_) s
  by_cases hyx : index y = index x
  · rw [hyx, State_get_put_same _ _ _ _ _ _ hk, hone y hy hyx]
  · rw [get_put_other hf (Ne.symm hyx), h]

/-- What a list's entries, numbered, give under one number. -/
theorem eq_of_mem_zipIdx {l : List Nat} {x y : Nat × Nat} (hx : x ∈ l.zipIdx) (hy : y ∈ l.zipIdx) (h : y.2 = x.2) : y.1 = x.1 := by
  rw [List.mem_zipIdx_iff_getElem?] at hx hy
  exact Option.some.inj (hy.symm.trans (h ▸ hx))

theorem getD_mem_zipIdx {l : List Nat} (hj : j < l.length) : (l.getD j 0, j) ∈ l.zipIdx := by
  simp [List.mem_zipIdx_iff_getElem?, hj]

/-! ### TREE_INFO (Table VLK-3) -/

/-- The fields that TREE_INFO stores. -/
def treeFields : List Machine.Field :=
  [H.VLK_T_BAUD, H.VLK_T_SPACING, H.VLK_T_NSC_M1, H.VLK_T_RATES, F.VLK_US_OFS_OFS, F.VLK_REG_CFG_RSC_M1, H.VLK_T_EQ, F.VLK_REG_SC_SC]

/-- TREE_INFO's values in their registers, before the laser follows. -/
def treeStored (baud spacing nsc rates usOfs rscM1 : Nat) (scs : List Nat) (teq : Nat) (s : State) : State :=
  (((((((s.put H.VLK_T_BAUD baud).put H.VLK_T_SPACING spacing).put H.VLK_T_NSC_M1 nsc).put H.VLK_T_RATES rates).put F.VLK_US_OFS_OFS usOfs).put
    F.VLK_REG_CFG_RSC_M1 rscM1).put H.VLK_T_EQ teq).eachOf (scs.take 4).zipIdx (fun x t => t.put F.VLK_REG_SC_SC x.1 x.2)

theorem treeInfo_get {baud spacing nsc rates usOfs rscM1 teq : Nat} (hg : g ∈ treeFields) :
    (Vlk.treeInfo baud spacing nsc rates usOfs rscM1 scs teq s).get g i =
      (treeStored baud spacing nsc rates usOfs rscM1 scs teq s).get g i := by
  refine get_of_sparing (l := treeFields) ?_ hg
  have haim : Moves (Sparing treeFields) (treeStored baud spacing nsc rates usOfs rscM1 scs teq s)
      (Vlk.aimLaser (treeStored baud spacing nsc rates usOfs rscM1 scs teq s)) :=
    Vlk_aimLaser_moves rfl rfl rfl rfl rfl rfl rfl rfl rfl .refl
  exact moves_ite haim .refl

theorem treeStored_apart {baud spacing nsc rates usOfs rscM1 teq : Nat} (h : apart F.VLK_REG_SC_SC g = true) :
    (treeStored baud spacing nsc rates usOfs rscM1 scs teq s).get g = (((((((s.put H.VLK_T_BAUD baud).put H.VLK_T_SPACING spacing).put
      H.VLK_T_NSC_M1 nsc).put H.VLK_T_RATES rates).put F.VLK_US_OFS_OFS usOfs).put F.VLK_REG_CFG_RSC_M1 rscM1).put H.VLK_T_EQ teq).get g := by
  rw [treeStored]
  generalize ((((((s.put H.VLK_T_BAUD baud).put H.VLK_T_SPACING spacing).put H.VLK_T_NSC_M1 nsc).put H.VLK_T_RATES rates).put F.VLK_US_OFS_OFS
    usOfs).put F.VLK_REG_CFG_RSC_M1 rscM1).put H.VLK_T_EQ teq = u
  exact eachOf_keeps (obs := fun t => t.get g) (fun _ _ _ => get_put_ne h) u

theorem treeStored_subcarrier {baud spacing nsc rates usOfs rscM1 teq : Nat} (hj : j < 4) (hlen : j < scs.length) :
    (treeStored baud spacing nsc rates usOfs rscM1 scs teq s).get F.VLK_REG_SC_SC j = scs.getD j 0 % 512 := by
  have hmem : (scs.getD j 0, j) ∈ (scs.take 4).zipIdx := by simp [List.mem_zipIdx_iff_getElem?, hj, hlen]
  exact eachOf_put_get Prod.snd Prod.fst (by decide) hmem (has_row rfl hj) fun y hy h => eq_of_mem_zipIdx hmem hy h

/-- TREE_INFO. -/
theorem treeInfo_runs {baud spacing nsc rates usOfs rscM1 teq : Nat} (hme : Vlk.toMe s addr = true)
    (hnew : notRepeat s 512 addr flags seq = true) :
    runs (.treeInfo addr flags seq baud spacing nsc rates usOfs rscM1 scs teq) s (fun t =>
      t.get H.VLK_T_BAUD = baud % 2 ^ 20 ∧ t.get H.VLK_T_SPACING = spacing % 2 ^ 8 ∧ t.get H.VLK_T_NSC_M1 = nsc % 2 ^ 9 ∧
      t.get H.VLK_T_RATES = rates % 2 ^ 4 ∧ t.get F.VLK_US_OFS_OFS = usOfs % 2 ^ 16 ∧ t.get F.VLK_REG_CFG_RSC_M1 = rscM1 % 4 ∧
      t.get H.VLK_T_EQ = teq % 2 ^ 24 ∧ (∀ j, j < 4 → j < scs.length → t.get F.VLK_REG_SC_SC j = scs.getD j 0 % 512) ∧
      acknowledges t 512 addr flags seq 0) := by
  refine runs_answered rfl (down_answers hme hnew rfl) fun t ht => ?_
  have hget {g : Machine.Field} {i : Nat} (hg : g ∈ treeFields) :
      t.get g i = (treeStored baud spacing nsc rates usOfs rscM1 scs teq (Vlk.heard addr s)).get g i :=
    (ht.get g ((by decide : ∀ g ∈ treeFields, apart H.VLK_SEQ g = true) g hg) i 0 0).trans (treeInfo_get hg)
  refine ⟨?_, ?_, ?_, ?_, ?_, ?_, ?_, fun j hj hlen => ?_, ht.acknowledged⟩
  case refine_8 => rw [hget (by decide), treeStored_subcarrier hj hlen]
  all_goals
    rw [hget (by decide), treeStored_apart (by decide)]
    simp (disch := decide) only [get_put_ne, State_get_put_same]
    rfl

/-! ### DEREG (R121) -/

theorem state_of_toMe (h : Vlk.toMe s addr = true) : s.leaf = true ∧ 2 ≤ s.get F.VLK_SELF_STATE := by
  simp only [Vlk.toMe, Vlk.leafOn, Bool.and_eq_true, Bool.or_eq_true, decide_eq_true_eq] at h
  obtain ⟨⟨⟨hleaf, -⟩, -⟩, ⟨⟨hstate, -⟩, -⟩ | ⟨hstate, -⟩⟩ := h
  · exact ⟨hleaf, Nat.le_of_succ_le hstate⟩
  · exact ⟨hleaf, hstate⟩

/-- The fields in which a registration stands. -/
def selfFields : List Machine.Field := [F.VLK_SELF_STATE, F.VLK_SELF_LEAF, F.VLK_SELF_SILENT, H.VLK_UP_ON]

/-- The machine as a leaf's registration has ended, before its master is reset. -/
def unregistered (s : State) : State :=
  Vlk.silence ((((((s.put F.VLK_SELF_STATE 1).set F.VLK_INT_CAUSE_STATE_CHG).put F.VLK_SELF_LEAF 0x1FF).clr H.VLK_UP_ON).clr H.VLK_S_REST).clr
    H.VLK_REG_WAIT)

theorem setState_search_get (h : s.get F.VLK_SELF_STATE ≠ 1) (hg : g ∈ selfFields) :
    (Vlk.setState 1 s).get g i j k = (unregistered s).get g i j k := by
  have hset : Vlk.setState 1 s = Mbx.masterReset 97 (unregistered s) := if_neg h
  rw [hset]
  refine get_of_sparing (l := selfFields) ?_ hg
  apply Mbx_masterReset_moves (h := .refl) <;> rfl

theorem hostMute_get (hg : g ∈ selfFields) (v : Nat) : (Ltx.hostMute v s).get g i j k = s.get g i j k :=
  get_of_sparing (l := selfFields) (Ltx_hostMute_moves (W := Sparing selfFields) rfl rfl rfl rfl v .refl) hg

theorem unregistered_state : (unregistered s).get F.VLK_SELF_STATE = 1 := by
  rw [unregistered, Vlk.silence, get_set_ne (by decide), hostMute_get (by decide)]
  simp (disch := decide) only [get_put_ne, get_set_ne, get_clr_ne]
  exact State_get_put_same _ _ _ _ _ _ (by decide)

theorem unregistered_leaf : (unregistered s).get F.VLK_SELF_LEAF = 0x1FF := by
  rw [unregistered, Vlk.silence, get_set_ne (by decide), hostMute_get (by decide)]
  simp (disch := decide) only [get_clr_ne]
  exact State_get_put_same _ _ _ _ _ _ (by decide)

theorem unregistered_silent : (unregistered s).on F.VLK_SELF_SILENT = true := on_set (by decide) (by decide)

theorem unregistered_upOn : (unregistered s).on H.VLK_UP_ON = false := by
  rw [unregistered, Vlk.silence, on_set_ne (by decide), on_congr (hostMute_get (by decide) 1), on_clr_ne (by decide), on_clr_ne (by decide),
    on_clr]

/-- DEREG to a leaf. -/
theorem dereg_leaf_runs (hme : Vlk.toMe s addr = true) (hnew : notRepeat s 512 addr flags seq = true) :
    runs (.dereg addr flags seq) s (fun t => t.get F.VLK_SELF_STATE = 1 ∧
      (s.get F.VLK_SELF_STATE ≠ 1 → t.get F.VLK_SELF_LEAF = 0x1FF ∧ t.on F.VLK_SELF_SILENT = true ∧ t.on H.VLK_UP_ON = false) ∧
      acknowledges t 512 addr flags seq 0) := by
  obtain ⟨hleaf, hstate⟩ := state_of_toMe hme
  have hdown : Vlk.dereg addr flags seq s = Vlk.down addr flags seq (Vlk.accept (Vlk.setState 1)) s := if_pos hleaf
  have hne : (Vlk.heard addr s).get F.VLK_SELF_STATE ≠ 1 := by
    rw [heard_get (by decide)]
    omega
  refine runs_answered_mirrored (congrArg (Access.doneMirrored s) hdown) (down_answers hme hnew rfl) fun t ht => ?_
  have hget {g : Machine.Field} (hg : g ∈ selfFields) : t.get g = (unregistered (Vlk.heard addr s)).get g :=
    (ht.get g ((by decide : ∀ g ∈ selfFields, apart H.VLK_SEQ g = true) g hg) 0 0 0).trans (setState_search_get hne hg)
  refine ⟨?_, fun _ => ⟨?_, ?_, ?_⟩, ht.acknowledged⟩
  · rw [hget (by decide), unregistered_state]
  · rw [hget (by decide), unregistered_leaf]
  · rw [on_congr (hget (by decide)), unregistered_silent]
  · rw [on_congr (hget (by decide)), unregistered_upOn]

/-! ### RANGE_ADJ and FREQ_ADJ (R99, R110) -/

/-- RANGE_ADJ. -/
theorem rangeAdj_runs (hme : Vlk.toMe s addr = true) (hnew : notRepeat s 512 addr flags seq = true) :
    runs (.rangeAdj addr flags seq delta) s (fun t => t.get H.VLK_EQD_DELTA = unsigned 24 (s.sget H.VLK_EQD_DELTA + delta) ∧
      acknowledges t 512 addr flags seq 0) := by
  refine runs_answered rfl (down_answers hme hnew rfl) fun t ht => ⟨?_, ht.acknowledged⟩
  rw [ht.get _ (by decide), Vlk.accept, Vlk.rangeAdj, get_sput (by decide), sget_congr (heard_get (by decide))]
  rfl

/-- A repeat of a message to this leaf that was accepted once. -/
theorem rangeAdj_repeat_runs {st : Nat} (hme : Vlk.toMe s addr = true) (hf : flags.testBit 0 = true) (hb : Vlk.broadcast addr = false)
    (hdup : Vlk.duplicate s 512 seq = some st) :
    runs (.rangeAdj addr flags seq delta) s (fun t => acknowledges t 512 addr flags seq st ∧
      t.get H.VLK_EQD_DELTA = s.get H.VLK_EQD_DELTA) := by
  have hdown : Answered 512 addr flags seq st (Vlk.heard addr s) (Vlk.down addr flags seq (Vlk.accept (Vlk.rangeAdj delta)) s) := by
    rw [Vlk.down, if_pos hme]
    exact receive_repeats hf hb (duplicate_heard.trans hdup)
  refine runs_answered rfl hdown fun t ht => ⟨ht.acknowledged, ?_⟩
  rw [ht.get _ (by decide), heard_get (by decide)]

theorem spanOk_heard {bank : Machine.Field} (hb : apart H.VLK_HEARD bank = true) (ofs : Int) :
    Ltx.spanOk (Vlk.heard addr s) bank ofs = Ltx.spanOk s bank ofs := by
  have hspan : Ltx.span (Vlk.heard addr s) bank = Ltx.span s bank := by
    simp (disch := first | decide | exact hb) only [Ltx.span, Ltx.subcarriers, heard_leaf, heard_get]
  simp (disch := decide) only [Ltx.spanOk, hspan, Ltx.subcarriers, heard_leaf, heard_get]
  rfl

theorem offsetOk_heard (v : Nat) : Ltx.offsetOk (Vlk.heard addr s) v = Ltx.offsetOk s v := by
  rw [Ltx.offsetOk, spanOk_heard (by decide), spanOk_heard (by decide), Ltx.offsetOk]

/-- The two outcomes of FREQ_ADJ at a leaf that hears it. -/
theorem freqAdj_accepted (hlo : -32768 ≤ s.sget F.LTX_FREQ_OFS_OFS + delta) (hhi : s.sget F.LTX_FREQ_OFS_OFS + delta ≤ 32767)
    (hok : Ltx.offsetOk s (unsigned 16 (s.sget F.LTX_FREQ_OFS_OFS + delta)) = true) :
    Vlk.freqAdj delta (Vlk.heard addr s) =
      (((Vlk.heard addr s).put F.LTX_FREQ_OFS_OFS (unsigned 16 (s.sget F.LTX_FREQ_OFS_OFS + delta))).set H.LTX_OFS_PENDING, some 0) := by
  have hmod : unsigned 16 (s.sget F.LTX_FREQ_OFS_OFS + delta) % 65536 = unsigned 16 (s.sget F.LTX_FREQ_OFS_OFS + delta) :=
    Nat.mod_eq_of_lt (unsigned_lt 16 _)
  rw [Vlk.freqAdj, sget_congr (heard_get (by decide))]
  rw [offsetOk_heard, if_pos ⟨hlo, hhi, hok⟩, Ltx.writeFreqOfs, offsetOk_heard, hmod, if_pos hok]
  rfl

theorem freqAdj_refused (h : s.sget F.LTX_FREQ_OFS_OFS + delta < -32768 ∨ 32767 < s.sget F.LTX_FREQ_OFS_OFS + delta ∨
      Ltx.offsetOk s (unsigned 16 (s.sget F.LTX_FREQ_OFS_OFS + delta)) = false) :
    Vlk.freqAdj delta (Vlk.heard addr s) = ((Vlk.heard addr s).set F.LTX_INT_CAUSE_CFG_ERR, some 2) := by
  rw [Vlk.freqAdj, sget_congr (heard_get (by decide))]
  rw [offsetOk_heard, if_neg]
  · rfl
  · rintro ⟨hlo, hhi, hok⟩
    rcases h with hlt | hgt | hbad
    · omega
    · omega
    · exact absurd (hok.symm.trans hbad) (by decide)

/-- FREQ_ADJ within the range. -/
theorem freqAdj_runs (hme : Vlk.toMe s addr = true) (hnew : notRepeat s 512 addr flags seq = true)
    (hlo : -32768 ≤ s.sget F.LTX_FREQ_OFS_OFS + delta) (hhi : s.sget F.LTX_FREQ_OFS_OFS + delta ≤ 32767)
    (hok : Ltx.offsetOk s (unsigned 16 (s.sget F.LTX_FREQ_OFS_OFS + delta)) = true) :
    runs (.freqAdj addr flags seq delta) s (fun t => t.get F.LTX_FREQ_OFS_OFS = unsigned 16 (s.sget F.LTX_FREQ_OFS_OFS + delta) ∧
      t.on H.LTX_OFS_PENDING = true ∧ acknowledges t 512 addr flags seq 0) := by
  have hacc := freqAdj_accepted (addr := addr) hlo hhi hok
  refine runs_answered rfl (down_answers hme hnew (congrArg Prod.snd hacc)) fun t ht => ?_
  rw [hacc] at ht
  refine ⟨?_, ?_, ht.acknowledged⟩
  · rw [ht.get _ (by decide), get_set_ne (by decide)]
    exact get_put_lt (by decide) (unsigned_lt 16 _)
  · rw [ht.on (by decide), on_set (by decide) (by decide)]

/-- FREQ_ADJ outside the range. -/
theorem freqAdj_refused_runs (hme : Vlk.toMe s addr = true) (hnew : notRepeat s 512 addr flags seq = true)
    (h : s.sget F.LTX_FREQ_OFS_OFS + delta < -32768 ∨ 32767 < s.sget F.LTX_FREQ_OFS_OFS + delta ∨
      Ltx.offsetOk s (unsigned 16 (s.sget F.LTX_FREQ_OFS_OFS + delta)) = false) :
    runs (.freqAdj addr flags seq delta) s (fun t => t.on F.LTX_INT_CAUSE_CFG_ERR = true ∧
      t.get F.LTX_FREQ_OFS_OFS = s.get F.LTX_FREQ_OFS_OFS ∧ acknowledges t 512 addr flags seq 2) := by
  have href := freqAdj_refused (addr := addr) h
  refine runs_answered rfl (down_answers hme hnew (congrArg Prod.snd href)) fun t ht => ?_
  rw [href] at ht
  refine ⟨?_, ?_, ht.acknowledged⟩
  · rw [ht.on (by decide), on_set (by decide) (by decide)]
  · rw [ht.get _ (by decide), get_set_ne (by decide), heard_get (by decide)]

end Sys2Proof.Proofs

/-! SUPPORT. The tables that a leaf is sent (O31; R81, R82, R112), and O31. -/
namespace Sys2Proof.Proofs
open Sys2Proof Sys2Proof.Machine Sys2Proof.Laws

variable {s t u : State} {f g : Machine.Field} {a addr b c d flags i j k lo m n seq type ver x y z : Nat} {body entries : List Nat}
  {r : List Nat} {rows : List (List Nat)} {l : List (Nat × Nat)}

theorem get_put_row (hf : Field.plain f = true) (h : i ≠ x) : (s.put f a i j k).get f x y z = s.get f x y z := by
  rw [State_get_put_index _ _ _ _ _ _ _ _ _ hf, if_neg fun hc => h hc.2.1]

theorem get_put_column (hf : Field.plain f = true) (h : j ≠ y) : (s.put f a i j k).get f x y z = s.get f x y z := by
  rw [State_get_put_index _ _ _ _ _ _ _ _ _ hf, if_neg fun hc => h hc.2.2.1]

theorem get_clr_row (hf : Field.plain f = true) (h : i ≠ x) : (s.clr f i j k).get f x y z = s.get f x y z := get_put_row hf h

theorem get_clr_column (hf : Field.plain f = true) (h : j ≠ y) : (s.clr f i j k).get f x y z = s.get f x y z := get_put_column hf h

theorem has_cell (hf : f.shape = shape2 a m b n c) (hi : i < m) (hj : j < n) : f.shape.has i j 0 = true := by
  simp [Shape.has, hf, shape2, hi, hj]

/-! ### What a leaf sends to its hub -/

theorem selfAddr_ordinary (s : State) : Vlk.selfAddr s % 1024 = Vlk.selfAddr s ∧ Vlk.broadcast (Vlk.selfAddr s) = false := by
  have hlt : s.get F.VLK_SELF_LEAF < 2 ^ 9 := State_get_lt ..
  unfold Vlk.selfAddr
  dsimp only
  split
  · decide
  · exact ⟨Nat.mod_eq_of_lt (by omega), by simp [Vlk.broadcast]; omega⟩

/-- A message with ACK_REQ that a leaf sends waits under its number and SEQ. -/
theorem upMessage_mem_toHub (hleaf : u.get F.VLK_SELF_LEAF = s.get F.VLK_SELF_LEAF)
    (hseq : ∀ i j, u.get H.VLK_SEQ i j = s.get H.VLK_SEQ i j) : upMessage s type body ∈ (Vlk.toHub type true body u).vlk.own := by
  obtain ⟨hmod, hbroad⟩ := selfAddr_ordinary s
  have hself : Vlk.selfAddr u = Vlk.selfAddr s := by rw [Vlk.selfAddr, hleaf, Vlk.selfAddr]
  have hmem : sent u 0 (Vlk.selfAddr u) type true false body ∈ (Vlk.toHub type true body u).vlk.own := mem_send_own
  rwa [sent, hself, hbroad, hmod, hseq] at hmem

/-- The fields from which a leaf's next message takes its number and SEQ. -/
def numberFields : List Machine.Field := [F.VLK_SELF_LEAF, H.VLK_SEQ]

theorem upMessage_of_moves (h : Moves (Sparing numberFields) (Vlk.heard addr s) u) :
    upMessage s type body ∈ (Vlk.toHub type true body u).vlk.own :=
  upMessage_mem_toHub ((get_of_sparing h (by decide)).trans (heard_get (by decide)))
    fun _ _ => (get_of_sparing h (by decide)).trans (heard_get (by decide))

/-! ### GRANT_TABLE (R112) -/

/-- A row of GRANT_TABLE in the shadow grants. -/
def storeRow (r : List Nat) (t : State) : State :=
  ((t.put H.VLK_G_SHADOW (r.getD 1 0) (r.getD 0 0 / 512) 0).put H.VLK_G_SHADOW (r.getD 2 0) (r.getD 0 0 / 512) 1).put H.VLK_G_SC_SHADOW
    (1 + r.getD 0 0 % 512) (r.getD 0 0 / 512)

/-- Row g of the shadow grants. -/
def shadowRow (g : Nat) (t : State) : Nat × Nat × Nat := (t.get H.VLK_G_SHADOW g 0, t.get H.VLK_G_SHADOW g 1, t.get H.VLK_G_SC_SHADOW g)

theorem shadowRow_store (h : r.getD 0 0 / 512 < 64) : shadowRow (r.getD 0 0 / 512) (storeRow r t) =
    (r.getD 1 0 % 2 ^ 32, r.getD 2 0 % 2 ^ 32, 1 + r.getD 0 0 % 512) := by
  have hfit : 1 + r.getD 0 0 % 512 < 2 ^ H.VLK_G_SC_SHADOW.width := by
    have := Nat.mod_lt (r.getD 0 0) (by decide : 0 < 512)
    exact Nat.lt_of_lt_of_le (Nat.add_lt_add_left this 1) (by decide)
  simp only [shadowRow, storeRow, Prod.mk.injEq]
  refine ⟨?_, ?_, get_put_lt (has_row rfl h) hfit⟩
  · rw [get_put_ne (by decide), get_put_column (by decide) (by decide), State_get_put_same _ _ _ _ _ _ (has_cell rfl h (by decide))]
    rfl
  · rw [get_put_ne (by decide), State_get_put_same _ _ _ _ _ _ (has_cell rfl h (by decide))]
    rfl

theorem shadowRow_store_other {g : Nat} (h : r.getD 0 0 / 512 ≠ g) : shadowRow g (storeRow r t) = shadowRow g t := by
  simp (disch := first | decide | exact h) only [shadowRow, storeRow, get_put_ne, get_put_row]

/-- A row of the shadow grants is emptied. -/
def emptyRow (g : Nat) (t : State) : State := ((t.clr H.VLK_G_SHADOW g 0).clr H.VLK_G_SHADOW g 1).clr H.VLK_G_SC_SHADOW g

theorem shadowRow_empty {g : Nat} : shadowRow g (emptyRow g t) = (0, 0, 0) := by
  simp (disch := decide) only [shadowRow, emptyRow, get_clr_ne, get_clr_column, get_clr]

theorem shadowRow_empty_other {g : Nat} (h : x ≠ g) : shadowRow g (emptyRow x t) = shadowRow g t := by
  simp (disch := first | decide | exact h) only [shadowRow, emptyRow, get_clr_ne, get_clr_row]

/-- The shadow grants without a row. -/
def grantsCleared (s : State) : State := s.each 64 emptyRow

theorem shadowRow_cleared {g : Nat} (h : g < 64) : shadowRow g (grantsCleared s) = (0, 0, 0) :=
  each_changes_once (step := fun _ => (0, 0, 0)) h (fun _ => shadowRow_empty) fun _ _ hx => shadowRow_empty_other hx

/-- What GRANT_TABLE stores. -/
def grantsStored (ver : Nat) (rows : List (List Nat)) (s : State) : State :=
  (((grantsCleared s).eachOf rows storeRow).put H.VLK_G_SHADOW_VER ver).clr H.VLK_G_NAK_SENT

theorem grantTable_eq : Vlk.grantTable ver rows s = Vlk.toHub 0x19 true [ver, 0] (grantsStored ver rows s) := rfl

theorem shadowRow_stored_of_rows {g : Nat} : shadowRow g (grantsStored ver rows s) = shadowRow g ((grantsCleared s).eachOf rows storeRow) := by
  simp (disch := decide) only [shadowRow, grantsStored, get_clr_ne, get_put_ne]

theorem shadowRow_stored (hnodup : (rows.map fun r => r.getD 0 0 / 512).Nodup) (hr : r ∈ rows) (h : r.getD 0 0 / 512 < 64) :
    shadowRow (r.getD 0 0 / 512) (grantsStored ver rows s) = (r.getD 1 0 % 2 ^ 32, r.getD 2 0 % 2 ^ 32, 1 + r.getD 0 0 % 512) := by
  rw [shadowRow_stored_of_rows]
  refine eachOf_leaves (p := fun t => shadowRow (r.getD 0 0 / 512) t = (r.getD 1 0 % 2 ^ 32, r.getD 2 0 % 2 ^ 32, 1 + r.getD 0 0 % 512)) hr
    (fun t => shadowRow_store h) (fun r' hr' t ht => ?_) _
  by_cases heq : r'.getD 0 0 / 512 = r.getD 0 0 / 512
  · obtain rfl := List.inj_on_of_nodup_map hnodup hr' hr heq
    exact shadowRow_store h
  · rw [shadowRow_store_other heq, ht]

theorem shadowRow_stored_empty {g : Nat} (hg : g < 64) (hrows : (rows.any fun r => r.getD 0 0 / 512 == g) = false) :
    shadowRow g (grantsStored ver rows s) = (0, 0, 0) := by
  rw [shadowRow_stored_of_rows, ← shadowRow_cleared (s := s) hg]
  refine eachOf_keeps (obs := shadowRow g) (fun r hr t => shadowRow_store_other ?_) _
  simpa using List.any_eq_false.mp hrows r hr

theorem grantsStored_moves : Moves (Sparing numberFields) s (grantsStored ver rows s) := by
  refine .clr _ _ _ rfl (.put _ _ _ _ _ rfl (.eachOf _ (.each _ .refl fun g t h => ?_) fun r t h => ?_))
  · exact .clr _ _ _ rfl (.clr _ _ _ rfl (.clr _ _ _ rfl h))
  · exact .put _ _ _ _ _ rfl (.put _ _ _ _ _ rfl (.put _ _ _ _ _ rfl h))

/-- GRANT_TABLE. -/
theorem grantTable_runs (hme : Vlk.toMe s addr = true) (hnew : notRepeat s 512 addr flags seq = true)
    (hnodup : (rows.map fun r => r.getD 0 0 / 512).Nodup) (hlt : (rows.all fun r => decide (r.getD 0 0 / 512 < 64)) = true) :
    runs (.grantTable addr flags seq ver rows) s (fun t => t.get H.VLK_G_SHADOW_VER = ver % 256 ∧
      (∀ r ∈ rows, t.get H.VLK_G_SHADOW (r.getD 0 0 / 512) 0 = r.getD 1 0 % 2 ^ 32 ∧
        t.get H.VLK_G_SHADOW (r.getD 0 0 / 512) 1 = r.getD 2 0 % 2 ^ 32 ∧
        t.get H.VLK_G_SC_SHADOW (r.getD 0 0 / 512) = 1 + r.getD 0 0 % 512) ∧
      (∀ g, g < 64 → (rows.any fun r => r.getD 0 0 / 512 == g) = false → t.get H.VLK_G_SHADOW g 0 = 0 ∧ t.get H.VLK_G_SHADOW g 1 = 0 ∧
        t.get H.VLK_G_SC_SHADOW g = 0) ∧
      upMessage s 0x19 [ver, 0] ∈ t.vlk.own ∧ acknowledges t 512 addr flags seq 0) := by
  refine runs_answered_mirrored rfl (down_answers hme hnew rfl) fun t ht => ?_
  rw [Vlk.accept, grantTable_eq] at ht
  have hrow (g : Nat) : shadowRow g t = shadowRow g (grantsStored ver rows (Vlk.heard addr s)) := by
    simp only [shadowRow, ht.get H.VLK_G_SHADOW (by decide), ht.get H.VLK_G_SC_SHADOW (by decide), Vlk.toHub]
    simp (disch := decide) only [send_get]
  refine ⟨?_, fun r hr => ?_, fun g hg hempty => ?_, ht.waits _ (upMessage_of_moves grantsStored_moves), ht.acknowledged⟩
  · rw [ht.get _ (by decide), Vlk.toHub, send_get (by decide), grantsStored, get_clr_ne (by decide), State_get_put_same _ _ _ _ _ _ (by decide)]
    rfl
  · have hstored := (hrow _).trans (shadowRow_stored hnodup hr (of_decide_eq_true (List.all_eq_true.mp hlt r hr)))
    simpa only [shadowRow, Prod.mk.injEq] using hstored
  · have hstored := (hrow g).trans (shadowRow_stored_empty hg hempty)
    simpa only [shadowRow, Prod.mk.injEq] using hstored

/-! ### The shadow bank of a direction (R36, R69, R81) -/

/-- The fields of a shadow bank: its entries, the version, the lock of an announced change, whether it is valid, and whether an exchange
is due and when. -/
structure Bank where
  entries : Machine.Field
  version : Machine.Field
  announced : Machine.Field
  ready : Machine.Field
  due : Machine.Field
  swapMf : Machine.Field

/-- The transmitter's bank and the receiver's. -/
def txBank : Bank := ⟨H.LTX_SHADOW, H.LTX_SHADOW_VER, F.LTX_STAT_ANNOUNCED, F.LTX_STAT_SHADOW_READY, H.LTX_SWAP_DUE, H.LTX_SWAP_MF⟩
def rxBank : Bank := ⟨H.LRX_SHADOW, H.LRX_SHADOW_VER, F.LRX_STAT_ANNOUNCED, F.LRX_STAT_SHADOW_READY, H.LRX_SWAP_DUE, H.LRX_SWAP_MF⟩

/-- The bank that a device holds for a direction. -/
def bankOf (s : State) (d : Nat) : Bank := if Scm.localTx s.leaf d then txBank else rxBank

theorem bankOf_mem (s : State) (d : Nat) : bankOf s d ∈ [txBank, rxBank] := by
  unfold bankOf
  split <;> simp

namespace Bank

/-- The entries in the bank under a version, not judged yet. -/
def stored (b : Bank) (ver : Nat) (l : List (Nat × Nat)) (s : State) : State :=
  (s.eachOf l fun x t => t.put b.entries x.2 x.1).put b.version ver

variable {b : Bank}

theorem stored_entry (hb : b ∈ [txBank, rxBank]) {x : Nat × Nat} (hx : x ∈ l) (hk : x.1 < 512) (hone : ∀ y ∈ l, y.1 = x.1 → y.2 = x.2) :
    (b.stored ver l s).get b.entries x.1 = x.2 % 2 ^ 32 := by
  obtain ⟨hplain, happ, hshape, hw⟩ := (by decide : ∀ b ∈ [txBank, rxBank], Field.plain b.entries = true ∧
    apart b.version b.entries = true ∧ b.entries.shape = shape1 b.entries.shape.addr 512 4 ∧ b.entries.width = 32) b hb
  rw [stored, get_put_ne happ, ← hw]
  exact eachOf_put_get Prod.fst Prod.snd hplain hx (has_row hshape hk) hone

theorem stored_version (hb : b ∈ [txBank, rxBank]) : (b.stored ver l s).get b.version = ver % 256 := by
  obtain ⟨hhas, hw⟩ := (by decide : ∀ b ∈ [txBank, rxBank], b.version.shape.has 0 0 0 = true ∧ b.version.width = 8) b hb
  rw [stored, State_get_put_same _ _ _ _ _ _ hhas, hw]
  rfl

end Bank

/-- The contents of the two banks. -/
def bankFields : List Machine.Field := [H.LTX_SHADOW, H.LTX_SHADOW_VER, H.LRX_SHADOW, H.LRX_SHADOW_VER]

/-- What a write of the local bank of a direction stores, where no announced change locks it. -/
theorem writeBank_get (hopen : s.on (bankOf s d).announced = false) (hg : g ∈ bankFields) :
    (Scm.writeBank d ver l s).get g i = ((bankOf s d).stored ver l s).get g i := by
  unfold bankOf at hopen ⊢
  unfold Scm.writeBank
  cases hd : Scm.localTx s.leaf d
  · simp only [hd, Bool.false_eq_true, if_false] at hopen ⊢
    rw [Lrx.writeShadow, if_neg (fun h => absurd (h.symm.trans hopen) (by decide))]
    exact get_of_sparing (l := bankFields) (Lrx_validate_moves (W := Sparing bankFields) rfl rfl rfl .refl) hg
  · simp only [hd, if_true] at hopen ⊢
    rw [Ltx.writeShadow, if_neg (fun h => absurd (h.symm.trans hopen) (by decide))]
    exact get_of_sparing (l := bankFields) (Ltx_validate_moves (W := Sparing bankFields) rfl rfl rfl .refl) hg

theorem ready_eq : Scm.ready s d = s.on (bankOf s d).ready := by
  unfold Scm.ready bankOf
  split <;> rfl

theorem shadowVer_eq : Scm.shadowVer s d = s.get (bankOf s d).version := by
  unfold Scm.shadowVer bankOf
  split <;> rfl

theorem swapDue_eq : Scm.swapDue s d = s.on (bankOf s d).due := by
  unfold Scm.swapDue bankOf
  split <;> rfl

/-- A command that does not write the role leaves it, and with it which bank a direction has. -/
theorem leaf_of_moves (h : Moves (Misses F.SYS_ROLE_ROLE) s t) : t.leaf = s.leaf := by rw [State.leaf, h.get_misses, State.leaf]

theorem bankOf_congr (h : t.leaf = s.leaf) : bankOf t d = bankOf s d := by rw [bankOf, h, bankOf]

theorem writeBank_leaf : (Scm.writeBank d ver l s).leaf = s.leaf := by
  apply leaf_of_moves
  apply Scm_writeBank_moves (h := .refl) <;> rfl

/-! ### LOAD_TABLE and LOAD_CANCEL (R81, R82) -/

theorem bankOf_heard : bankOf (Vlk.heard addr s) d = bankOf s d := bankOf_congr heard_leaf

theorem bank_heard_get {b : Bank} (hb : b ∈ [txBank, rxBank]) (hg : g ∈ [b.announced, b.version, b.due]) :
    (Vlk.heard addr s).get g = s.get g :=
  heard_get ((by decide : ∀ b ∈ [txBank, rxBank], ∀ g ∈ [b.announced, b.version, b.due], apart H.VLK_HEARD g = true) b hb g hg)

theorem writeBank_moves : Moves (Sparing numberFields) s (Scm.writeBank d ver l s) := by
  apply Scm_writeBank_moves (h := .refl) <;> rfl

/-- The entries of LOAD_TABLE with their subcarriers. -/
def tableEntries (lo : Nat) (entries : List Nat) : List (Nat × Nat) := entries.zipIdx.map fun x => (lo + x.2, x.1)

theorem stored_tableEntry {b : Bank} (hb : b ∈ [txBank, rxBank]) (hj : j < entries.length) (hk : lo + j < 512) :
    (b.stored ver (tableEntries lo entries) s).get b.entries (lo + j) = entries.getD j 0 % 2 ^ 32 := by
  have hmem := getD_mem_zipIdx hj
  refine Bank.stored_entry (x := (lo + j, entries.getD j 0)) hb (List.mem_map.mpr ⟨_, hmem, rfl⟩) hk fun y hy hyj => ?_
  obtain ⟨x, hx, rfl⟩ := List.mem_map.mp hy
  exact eq_of_mem_zipIdx hmem hx (Nat.add_left_cancel hyj)

/-- LOAD_TABLE: the entries enter the bank of the direction, and the answer says whether it is ready. -/
theorem loadTable_runs {b : Bank} (hbank : bankOf s d = b) (hme : Vlk.toMe s addr = true)
    (hnew : notRepeat s 512 addr flags seq = true) (hlen : lo + entries.length ≤ 512)
    (hopen : s.on b.announced = false) :
    runs (.loadTable addr flags seq d ver lo entries) s (fun t =>
      (∀ j, j < entries.length → t.get b.entries (lo + j) = entries.getD j 0 % 2 ^ 32) ∧
      t.get b.version = ver % 256 ∧
      upMessage s (if t.on b.ready then 0x21 else 0x22) [d, ver] ∈ t.vlk.own ∧ acknowledges t 512 addr flags seq 0) := by
  subst hbank
  have hb := bankOf_mem s d
  have hopen' : (Vlk.heard addr s).on (bankOf (Vlk.heard addr s) d).announced = false := by
    rw [bankOf_heard, on_congr (bank_heard_get hb (by simp)), hopen]
  generalize hwritten : Scm.writeBank d ver (tableEntries lo entries) (Vlk.heard addr s) = u
  have hu : bankOf u d = bankOf s d := bankOf_congr (hwritten ▸ writeBank_leaf.trans heard_leaf)
  have htable : Vlk.loadTable d ver lo entries (Vlk.heard addr s) = Vlk.toHub (if Scm.ready u d then 0x21 else 0x22) true [d, ver] u :=
    hwritten ▸ rfl
  refine runs_answered_mirrored rfl (down_answers hme hnew rfl) fun t ht => ?_
  rw [Vlk.accept, htable, ready_eq, hu] at ht
  obtain ⟨hentries, hversion, hready⟩ := (by decide : ∀ b ∈ [txBank, rxBank], (apart H.VLK_SEQ b.entries = true ∧ b.entries ∈ bankFields) ∧
    (apart H.VLK_SEQ b.version = true ∧ b.version ∈ bankFields) ∧ apart H.VLK_SEQ b.ready = true) _ hb
  have hget {g : Machine.Field} {i : Nat} (hseq : apart H.VLK_SEQ g = true) : t.get g i = u.get g i := (ht.get g hseq i 0 0).trans (send_get hseq)
  have hstored {g : Machine.Field} {i : Nat} (hg : apart H.VLK_SEQ g = true ∧ g ∈ bankFields) :
      t.get g i = ((bankOf s d).stored ver (tableEntries lo entries) (Vlk.heard addr s)).get g i := by
    rw [hget hg.1, ← hwritten, writeBank_get hopen' hg.2, bankOf_heard]
  refine ⟨fun j hj => ?_, ?_, ?_, ht.acknowledged⟩
  · rw [hstored hentries, stored_tableEntry hb hj (by omega)]
  · rw [hstored hversion, Bank.stored_version hb]
  · rw [on_congr (hget hready)]
    exact ht.waits _ (upMessage_of_moves (hwritten ▸ writeBank_moves))

theorem loadCancel_clears (hver : s.get (bankOf s d).version = ver) (hdue : s.on (bankOf s d).due = false) :
    Vlk.loadCancel d ver s = s.clr (bankOf s d).version := by
  rw [Vlk.loadCancel, shadowVer_eq, swapDue_eq, if_pos ⟨hver, by rw [hdue]; decide⟩]
  unfold bankOf
  split <;> rfl

/-- LOAD_CANCEL of the version that the bank of the direction holds. -/
theorem loadCancel_runs {b : Bank} (hbank : bankOf s d = b) (hme : Vlk.toMe s addr = true) (hnew : notRepeat s 512 addr flags seq = true)
    (hver : s.get b.version = ver) (hdue : s.on b.due = false) :
    runs (.loadCancel addr flags seq d ver) s (fun t => t.get b.version = 0 ∧ acknowledges t 512 addr flags seq 0) := by
  subst hbank
  have hb := bankOf_mem s d
  refine runs_answered_mirrored rfl (down_answers hme hnew rfl) fun t ht => ⟨?_, ht.acknowledged⟩
  rw [ht.get _ ((by decide : ∀ b ∈ [txBank, rxBank], apart H.VLK_SEQ b.version = true) _ hb), Vlk.accept, loadCancel_clears,
      bankOf_heard, get_clr]
  · rw [bankOf_heard, bank_heard_get hb (by simp), hver]
  · rw [bankOf_heard, on_congr (bank_heard_get hb (by simp)), hdue]

/-- A leaf's receiver holds the downstream table, its transmitter the upstream one. -/
theorem bankOf_leaf (h : s.leaf = true) : bankOf s 0 = rxBank ∧ bankOf s 1 = txBank := by
  rw [bankOf, bankOf, h]
  exact ⟨rfl, rfl⟩

/-- Settles O31, with one lemma for each message: what its act comes to at a leaf that hears it, read through its answer. -/
theorem leafTableMessageResults : Obligations.LeafTableMessageResults := by
  unfold Obligations.LeafTableMessageResults
  have hdown {s : State} {addr : Nat} (hme : Vlk.toMe s addr = true) := (bankOf_leaf (state_of_toMe hme).1).1
  have hup {s : State} {addr : Nat} (hme : Vlk.toMe s addr = true) := (bankOf_leaf (state_of_toMe hme).1).2
  refine ⟨fun s addr flags seq baud spacing nsc rates usOfs rscM1 scs teq => treeInfo_runs, fun s addr flags seq => dereg_leaf_runs,
    fun s addr flags seq delta => rangeAdj_runs, fun s addr flags seq delta => freqAdj_runs,
    fun s addr flags seq delta => freqAdj_refused_runs, fun s addr flags seq ver rows => grantTable_runs,
    fun s addr flags seq ver lo entries hme hnew hlen hopen => ?_, fun s addr flags seq ver lo entries hme hnew hlen hopen => ?_,
    fun s addr flags seq ver hme hnew hver hdue => ?_, fun s addr flags seq ver hme hnew hver hdue => ?_,
    fun s addr flags seq st delta => rangeAdj_repeat_runs⟩
  · exact loadTable_runs (hdown hme) hme hnew hlen hopen
  · exact loadTable_runs (hup hme) hme hnew hlen hopen
  · exact loadCancel_runs (hdown hme) hme hnew hver hdue
  · exact loadCancel_runs (hup hme) hme hnew hver hdue

end Sys2Proof.Proofs

/-! SUPPORT. The loading changes of a hub (O28, O33; R81 to R84): the messages that wait, what ends a change, and what a start comes to. -/
namespace Sys2Proof.Proofs
open Sys2Proof Sys2Proof.Machine Sys2Proof.Laws

variable {s t u : State} {f g : Machine.Field} {addr beacon d i j k l m n q resend type v ver : Nat} {ackReq sync : Bool} {body leaves : List Nat}
  {c : VMsg → Bool} {entry : Nat → Nat}

/-! ### Messages that wait -/

/-- A message of a kind waits to be sent. -/
abbrev waiting (c : VMsg → Bool) (s : State) : Prop := s.vlk.own.any c = true

theorem waiting_of_send (h : waiting c s) : waiting c (Vlk.send beacon addr type ackReq sync body s) := by
  simp [waiting, send_own, List.any_append, h]

theorem waiting_sent (h : c (sent s beacon addr type ackReq sync body) = true) : waiting c (Vlk.send beacon addr type ackReq sync body s) := by
  simp [waiting, send_own, List.any_append, h]

theorem waiting_congr (h : t.vlk = s.vlk) : waiting c t ↔ waiting c s := by rw [waiting, h, waiting]

theorem Answered.waiting {sender flags seq status : Nat} (h : Answered sender addr flags seq status u t) (hw : waiting c u) : waiting c t := by
  obtain ⟨m, hm, hc⟩ := List.any_eq_true.mp hw
  exact List.any_eq_true.mpr ⟨m, h.waits m hm, hc⟩

/-! ### The end of a change (R82, R84) -/

theorem chState_mem (d : Nat) : Scm.chState d ∈ [F.SCM_CHG_STAT_DS_STATE, F.SCM_CHG_STAT_US_STATE] := by
  unfold Scm.chState
  split <;> simp

theorem drop_state : (Scm.drop d s).get (Scm.chState d) = 0 := get_clr

/-- LOAD_CANCEL to leaf k. -/
abbrev cancels (k d v : Nat) (m : VMsg) : Bool := m.addr == k && m.type == 0x23 && m.body == [d, v]

theorem mem_addressed : k ∈ Scm.addressed s d ↔ k < 512 ∧ s.on H.SCM_ADDRESSED d k = true := by simp [Scm.addressed]

theorem drop_cancels (hk : k < 512) (hon : s.on H.SCM_ADDRESSED d k = true) : waiting (cancels k d (s.get H.SCM_LAST_VER d)) (Scm.drop d s) := by
  have hsent : waiting (cancels k d (s.get H.SCM_LAST_VER d))
      (s.eachOf (Scm.addressed s d) fun l t => Vlk.toLeaf l 0x23 true false [d, s.get H.SCM_LAST_VER d] t) := by
    refine eachOf_leaves (p := waiting (cancels k d (s.get H.SCM_LAST_VER d))) (mem_addressed.mpr ⟨hk, hon⟩) (fun t => ?_) (fun l _ t ht => ?_) s
    · exact waiting_sent (by simp [sent])
    · exact waiting_of_send ht
  refine (waiting_congr ?_).mpr hsent
  rw [Scm.drop, State.clr, State_put_vlk]
  exact each_keeps (obs := fun t => t.vlk) 512 fun _ _ _ => (State_put_vlk ..).trans (State_put_vlk ..)

theorem abandon_state : (Scm.abandon d leaves s).get (Scm.chState d) = 0 := by
  obtain ⟨hfail, hnak⟩ := (by decide : ∀ g ∈ [F.SCM_CHG_STAT_DS_STATE, F.SCM_CHG_STAT_US_STATE],
    apart F.SCM_INT_CAUSE_CHG_FAIL g = true ∧ apart F.SCM_NAK_MAP_LEAF g = true) _ (chState_mem d)
  have hkept : ((Scm.drop d s).eachOf leaves fun l t => t.setBit F.SCM_NAK_MAP_LEAF (l % 32) (l / 32)).get (Scm.chState d) =
      (Scm.drop d s).get (Scm.chState d) := eachOf_keeps (obs := fun t => t.get (Scm.chState d)) (fun _ _ _ => get_setBit_ne hnak) _
  exact (get_set_ne hfail).trans (hkept.trans drop_state)

theorem abandon_fails : (Scm.abandon d leaves s).on F.SCM_INT_CAUSE_CHG_FAIL = true := on_set (by decide) (by decide)

theorem bit_setBit_any {a b x y : Nat} (hf : Field.plain f = true) (h : s.bit f a x = true) : (s.setBit f b y).bit f a x = true := by
  by_cases hyx : y = x
  · exact hyx ▸ bit_setBit_of_bit (hyx ▸ h)
  · exact (bit_congr (get_put_row hf hyx)).trans h

/-- The failing leaves are in NAK_MAP. -/
theorem nakked_of_mem (hl : l ∈ leaves) (hlt : l < 512) (s : State) :
    (s.eachOf leaves fun l t => t.setBit F.SCM_NAK_MAP_LEAF (l % 32) (l / 32)).bit F.SCM_NAK_MAP_LEAF (l % 32) (l / 32) = true := by
  refine eachOf_makes (p := fun t => t.bit F.SCM_NAK_MAP_LEAF (l % 32) (l / 32) = true) hl (fun t => ?_)
    (fun y t ht => bit_setBit_any (by decide) ht) s
  have hlow : l % 32 < F.SCM_NAK_MAP_LEAF.width := Nat.mod_lt l (by decide : 0 < 32)
  rw [bit_setBit (has_row rfl (by omega)) hlow, beq_self_eq_true, Bool.or_true]

theorem abandon_naks (hl : l ∈ leaves) (hlt : l < 512) : (Scm.abandon d leaves s).bit F.SCM_NAK_MAP_LEAF (l % 32) (l / 32) = true := by
  rw [Scm.abandon, bit_congr (get_set_ne (by decide))]
  exact nakked_of_mem hl hlt _

theorem abandon_vlk : (Scm.abandon d leaves s).vlk = (Scm.drop d s).vlk := by
  rw [Scm.abandon, State.set, State_put_vlk]
  exact eachOf_keeps (obs := fun t => t.vlk) (fun _ _ _ => State_put_vlk ..) _

/-! ### The start of a change (R81) -/

/-- The machine as a change has its version and its table in the local bank. -/
def banked (d : Nat) (entry : Nat → Nat) (s : State) : State :=
  Scm.writeBank d (Scm.nextVer (s.get H.SCM_LAST_VER d)) ((List.range 512).map fun k => (k, entry k))
    (((s.put H.SCM_LAST_VER (Scm.nextVer (s.get H.SCM_LAST_VER d)) d).put (Scm.chState d) 1).put H.SCM_START_MF (s.get H.SCM_MF) d)

/-- Leaf l is sent the table where it takes part in the change. -/
def offer (d v : Nat) (entry : Nat → Nat) (resend : Nat) (act : Machine.Field) (l : Nat) (t : State) : State :=
  let g := Scm.leafGroup t l
  let differs := (List.range (g.2 - g.1)).any (fun i => entry (g.1 + i) != t.get act (g.1 + i))
  let t := (t.clr H.SCM_ACKED d l).clr H.SCM_ADDRESSED d l
  if l + 1 == resend || (Scm.awaited t l && (resend != 0 || differs)) then Scm.sendTable d v l false entry (t.set H.SCM_ADDRESSED d l) else t

/-- The machine as every leaf has been sent its table. -/
def offered (d : Nat) (entry : Nat → Nat) (resend : Nat) (s : State) : State :=
  (banked d entry s).each 512 (offer d (Scm.nextVer (s.get H.SCM_LAST_VER d)) entry resend (Scm.active s d))

theorem start_eq : Scm.start d entry resend s =
    if Scm.ready (offered d entry resend s) d then offered d entry resend s else Scm.abandon d [] (offered d entry resend s) := rfl

/-- What the offers of a change leave alone. -/
def changeFields : List Machine.Field :=
  [F.SYS_ROLE_ROLE, H.SCM_LAST_VER, F.LTX_STAT_SHADOW_READY, F.LRX_STAT_SHADOW_READY, H.LTX_ACTIVE, F.LTX_LINE_CFG_NSC_M1, F.VLK_LEAF_BEACON] ++
  bankFields

/-- The states of the two directions. -/
def stateFields : List Machine.Field := [F.SCM_CHG_STAT_DS_STATE, F.SCM_CHG_STAT_US_STATE]

theorem offer_moves {act : Machine.Field} : Moves (Sparing (changeFields ++ stateFields)) t (offer d v entry resend act l t) := by
  have hcleared : Moves (Sparing (changeFields ++ stateFields)) t ((t.clr H.SCM_ACKED d l).clr H.SCM_ADDRESSED d l) :=
    .clr _ _ _ rfl (.clr _ _ _ rfl .refl)
  exact moves_ite (Scm_sendTable_moves (W := Sparing (changeFields ++ stateFields)) rfl rfl _ _ _ _ _ (.set _ _ _ rfl hcleared)) hcleared

theorem offered_moves : Moves (Sparing (changeFields ++ stateFields)) (banked d entry s) (offered d entry resend s) :=
  .each _ .refl fun _ _ h => h.trans offer_moves

theorem abandon_moves : Moves (Sparing changeFields) s (Scm.abandon d leaves s) := by
  apply Scm_abandon_moves (h := .refl) <;> rfl

theorem ready_congr (h : ∀ g ∈ changeFields, t.get g = s.get g) : Scm.ready t d = Scm.ready s d := by
  have hrole : t.leaf = s.leaf := by rw [State.leaf, h _ (by decide), State.leaf]
  have hready := (by decide : ∀ b ∈ [txBank, rxBank], b.ready ∈ changeFields) _ (bankOf_mem s d)
  rw [ready_eq, ready_eq, bankOf_congr hrole, on_congr (h _ hready)]

/-- A started change goes on where the bank is ready, and else is abandoned. -/
theorem start_cases (d : Nat) (entry : Nat → Nat) (resend : Nat) (s : State) :
    (Scm.ready (Scm.start d entry resend s) d = true ∧ Scm.start d entry resend s = offered d entry resend s) ∨
    (Scm.ready (Scm.start d entry resend s) d = false ∧ Scm.start d entry resend s = Scm.abandon d [] (offered d entry resend s)) := by
  rw [start_eq]
  split
  next h => exact .inl ⟨h, rfl⟩
  next h => exact .inr ⟨(ready_congr fun g hg => get_of_sparing abandon_moves hg).trans (Bool.eq_false_iff.mpr h), rfl⟩

theorem start_get (hg : g ∈ changeFields) : (Scm.start d entry resend s).get g i = (banked d entry s).get g i := by
  have hoffered : (offered d entry resend s).get g i = (banked d entry s).get g i :=
    get_of_sparing offered_moves (List.mem_append_left _ hg)
  rcases start_cases d entry resend s with ⟨-, h⟩ | ⟨-, h⟩ <;> rw [h]
  · exact hoffered
  · exact (get_of_sparing abandon_moves hg).trans hoffered

theorem nextVer_lt (v : Nat) : Scm.nextVer v < 256 := by
  unfold Scm.nextVer
  omega

theorem writeBank_keeps {l : List (Nat × Nat)} (hg : g ∈ H.SCM_LAST_VER :: stateFields) : (Scm.writeBank d ver l s).get g i = s.get g i := by
  refine get_of_sparing (l := H.SCM_LAST_VER :: stateFields) ?_ hg
  apply Scm_writeBank_moves (h := .refl) <;> rfl

/-- A started change takes the next version. -/
theorem start_version (hd : d < 2) : (Scm.start d entry resend s).get H.SCM_LAST_VER d = Scm.nextVer (s.get H.SCM_LAST_VER d) := by
  have happ := (by decide : ∀ g ∈ stateFields, apart g H.SCM_LAST_VER = true) _ (chState_mem d)
  rw [start_get (by decide), banked, writeBank_keeps (by decide), get_put_ne (by decide), get_put_ne happ]
  exact get_put_lt (has_row rfl hd) (nextVer_lt _)

/-- It is CHECKING where the bank is ready, and else it has ended with CHG_FAIL. -/
theorem start_state (d : Nat) (entry : Nat → Nat) (resend : Nat) (s : State) :
    (Scm.start d entry resend s).get (Scm.chState d) = b01 (Scm.ready (Scm.start d entry resend s) d) ∧
    (Scm.ready (Scm.start d entry resend s) d = false → (Scm.start d entry resend s).on F.SCM_INT_CAUSE_CHG_FAIL = true) := by
  have hmem := chState_mem d
  rcases start_cases d entry resend s with ⟨hready, h⟩ | ⟨hready, h⟩
  · refine ⟨?_, fun hnot => absurd (hready.symm.trans hnot) (by decide)⟩
    obtain ⟨happ, hhas, hw⟩ := (by decide : ∀ g ∈ stateFields, apart H.SCM_START_MF g = true ∧ g.shape.has 0 0 0 = true ∧
      1 < 2 ^ g.width) _ hmem
    rw [hready, h, get_of_sparing offered_moves (List.mem_append_right _ hmem), banked, writeBank_keeps (List.mem_cons_of_mem _ hmem),
      get_put_ne happ, get_put_lt hhas hw]
    rfl
  · rw [hready, h]
    exact ⟨abandon_state, fun _ => abandon_fails⟩

/-- The table is in the local bank under the version, where no announced change locks it. -/
theorem start_bank (hopen : s.on (bankOf s d).announced = false) (hk : k < 512) :
    (Scm.start d entry resend s).get (bankOf s d).entries k = entry k % 2 ^ 32 ∧
    (Scm.start d entry resend s).get (bankOf s d).version = Scm.nextVer (s.get H.SCM_LAST_VER d) := by
  have hb := bankOf_mem s d
  obtain ⟨hentries, hversion⟩ := (by decide : ∀ b ∈ [txBank, rxBank], b.entries ∈ bankFields ∧ b.version ∈ bankFields) _ hb
  have hsub {g : Machine.Field} (h : g ∈ bankFields) : g ∈ changeFields := List.mem_append_right _ h
  generalize hu : (((s.put H.SCM_LAST_VER (Scm.nextVer (s.get H.SCM_LAST_VER d)) d).put (Scm.chState d) 1).put H.SCM_START_MF
    (s.get H.SCM_MF) d) = u
  have hget (g : Machine.Field) (hg : apart H.SCM_LAST_VER g = true ∧ (∀ f ∈ stateFields, apart f g = true) ∧ apart H.SCM_START_MF g = true) :
      u.get g = s.get g := by
    rw [← hu, get_put_ne hg.2.2, get_put_ne (hg.2.1 _ (chState_mem d)), get_put_ne hg.1]
  have hbank : bankOf u d = bankOf s d := bankOf_congr (by rw [State.leaf, hget _ (by decide), State.leaf])
  have hann := (by decide : ∀ b ∈ [txBank, rxBank], apart H.SCM_LAST_VER b.announced = true ∧
    (∀ f ∈ stateFields, apart f b.announced = true) ∧ apart H.SCM_START_MF b.announced = true) _ hb
  have hopen' : u.on (bankOf u d).announced = false := by rw [hbank, on_congr (hget _ hann), hopen]
  have hstored {g : Machine.Field} {i : Nat} (hg : g ∈ bankFields) : (Scm.start d entry resend s).get g i =
      ((bankOf s d).stored (Scm.nextVer (s.get H.SCM_LAST_VER d)) ((List.range 512).map fun k => (k, entry k)) u).get g i := by
    rw [start_get (hsub hg), banked, hu, writeBank_get hopen' hg, hbank]
  refine ⟨?_, ?_⟩
  · rw [hstored hentries]
    refine Bank.stored_entry (x := (k, entry k)) hb (List.mem_map.mpr ⟨k, List.mem_range.mpr hk, rfl⟩) hk fun y hy hyk => ?_
    obtain ⟨x, -, rfl⟩ := List.mem_map.mp hy
    exact congrArg entry hyk
  · rw [hstored hversion, Bank.stored_version hb]
    exact Nat.mod_eq_of_lt (nextVer_lt _)

/-! ### The leaf that asked for the table (R83) -/

/-- The fields that tell a leaf's group. -/
def groupFields : List Machine.Field := [H.LTX_ACTIVE, F.LTX_LINE_CFG_NSC_M1, F.VLK_LEAF_BEACON]

/-- The groups of the leaves are those of `s`. -/
def sameGroups (s t : State) : Prop := ∀ g ∈ groupFields, ∀ i, t.get g i = s.get g i

theorem leafGroup_congr (h : sameGroups s t) : Scm.leafGroup t l = Scm.leafGroup s l := by
  simp only [Scm.leafGroup, Ltx.subcarriers, h H.LTX_ACTIVE (by decide), h F.LTX_LINE_CFG_NSC_M1 (by decide), h F.VLK_LEAF_BEACON (by decide)]

theorem sameGroups_banked : sameGroups s (banked d entry s) := fun g hg i => by
  obtain ⟨hver, hstate, hstart⟩ := (by decide : ∀ g ∈ groupFields, apart H.SCM_LAST_VER g = true ∧ (∀ f ∈ stateFields, apart f g = true) ∧
    apart H.SCM_START_MF g = true) g hg
  have hwrite {v : Nat} {u : State} {l : List (Nat × Nat)} : (Scm.writeBank d v l u).get g i = u.get g i := by
    refine get_of_sparing (l := groupFields) ?_ hg
    apply Scm_writeBank_moves (h := .refl) <;> rfl
  rw [banked, hwrite, get_put_ne hstart, get_put_ne (hstate _ (chState_mem d)), get_put_ne hver]

/-- LOAD_TABLE for leaf l with the entries of its group. -/
abbrev tables (l d v : Nat) (g : Nat × Nat) (entry : Nat → Nat) (m : VMsg) : Bool :=
  m.addr == l && m.type == 0x20 && m.body == Scm.loadBody d v g.1 ((List.range (g.2 - g.1)).map fun i => entry (g.1 + i))

theorem offer_asked {act : Machine.Field} (hd : d < 2) (hl : l < 512) (h : sameGroups s t) :
    (offer d v entry (l + 1) act l t).on H.SCM_ADDRESSED d l = true ∧
    waiting (tables l d v (Scm.leafGroup s l) entry) (offer d v entry (l + 1) act l t) := by
  have hoffer : offer d v entry (l + 1) act l t =
      Scm.sendTable d v l false entry (((t.clr H.SCM_ACKED d l).clr H.SCM_ADDRESSED d l).set H.SCM_ADDRESSED d l) := if_pos (by simp)
  have hgroup : Scm.leafGroup (((t.clr H.SCM_ACKED d l).clr H.SCM_ADDRESSED d l).set H.SCM_ADDRESSED d l) l = Scm.leafGroup s l := by
    refine leafGroup_congr fun g hg i => ?_
    obtain ⟨hacked, haddr⟩ := (by decide : ∀ g ∈ groupFields, apart H.SCM_ACKED g = true ∧ apart H.SCM_ADDRESSED g = true) g hg
    rw [get_set_ne haddr, get_clr_ne haddr, get_clr_ne hacked, h g hg]
  rw [hoffer, Scm.sendTable, hgroup]
  refine ⟨?_, waiting_sent (by simp [sent])⟩
  rw [Vlk.toLeaf, on_congr (send_get (by decide)), on_set (has_cell rfl hd hl) (by decide)]

theorem offer_other {act : Machine.Field} (h : k ≠ l) (hon : t.on H.SCM_ADDRESSED d l = true) (hw : waiting c t) :
    (offer d v entry resend act k t).on H.SCM_ADDRESSED d l = true ∧ waiting c (offer d v entry resend act k t) := by
  have hcleared : ((t.clr H.SCM_ACKED d k).clr H.SCM_ADDRESSED d k).on H.SCM_ADDRESSED d l = true := by
    rw [on_congr (get_clr_column (by decide) h), on_clr_ne (by decide), hon]
  unfold offer
  dsimp only
  split
  · rw [Scm.sendTable, Vlk.toLeaf, on_congr (send_get (by decide)), State.set, on_congr (get_put_column (by decide) h)]
    refine ⟨hcleared, waiting_of_send ((waiting_congr ?_).mpr hw)⟩
    simp [State.clr]
  · exact ⟨hcleared, (waiting_congr (by simp [State.clr])).mpr hw⟩

/-- The leaf that asked for the table is addressed, and the table waits for it. -/
theorem offered_asked (hd : d < 2) (hl : l < 512) : (offered d entry (l + 1) s).on H.SCM_ADDRESSED d l = true ∧
    waiting (tables l d (Scm.nextVer (s.get H.SCM_LAST_VER d)) (Scm.leafGroup s l) entry) (offered d entry (l + 1) s) := by
  unfold offered
  generalize Scm.nextVer (s.get H.SCM_LAST_VER d) = v
  refine each_reaches (n := 512) (p := sameGroups s)
    (q := fun t => t.on H.SCM_ADDRESSED d l = true ∧ waiting (tables l d v (Scm.leafGroup s l) entry) t) hl sameGroups_banked
    (fun k t _ h g hg i => ?_) (fun t h => offer_asked hd hl h) fun k t hk h => offer_other hk h.1 h.2
  have hmem := (by decide : ∀ g ∈ groupFields, g ∈ changeFields ++ stateFields) g hg
  exact (get_of_sparing offer_moves hmem).trans (h g hg i)

end Sys2Proof.Proofs

/-! SUPPORT. What a hub does with the messages of its leaves (O33; R103, R108, R109, R112, R121), and O33. -/
namespace Sys2Proof.Proofs
open Sys2Proof Sys2Proof.Machine Sys2Proof.Laws

variable {s t u : State} {f g : Machine.Field} {act : State → State × Option Nat}
  {addr d flags i j k l lo n ofs rtt sending seq snr status v ver : Nat}
  {msg vals w : List Nat} {c : VMsg → Bool} {x : Closed} {rest : List Closed}

/-! ### Hearing a leaf -/

theorem leaf_of_hubOn (h : Vlk.hubOn s = true) : s.leaf = false := by
  simp only [Vlk.hubOn, Bool.and_eq_true, Bool.not_eq_true'] at h
  exact h.1

/-- An upstream message of a leaf of the tree that the hub accepts. -/
theorem up_answers (hhub : Vlk.hubOn s = true) (hl : l < 512) (hstate : Vlk.leafState s l ≠ 0) (hb : Vlk.broadcast addr = false)
    (hnew : notRepeat s l addr flags seq = true) (hst : (act s).2 = some status) :
    Answered l addr flags seq status (act s).1 (Vlk.up l flags seq act s) := by
  rw [Vlk.up, if_pos (by simp [hhub, hl, hstate]), ← hb]
  exact receive_answers (fun hf hb' => duplicate_of_notRepeat hnew hf hb') hst

/-! ### MGMT_CONTAINER (R103, R104) -/

theorem container_bad_runs {crcOk badLen : Nat} (hhub : Vlk.hubOn s = true) (hbad : crcOk = 0 ∨ badLen ≠ 0) :
    runs (.mgmtContainer crcOk badLen) s (fun t =>
      t.get F.VLK_CRC_ERR_CNT_COUNT = min (2 ^ 32 - 1) (s.get F.VLK_CRC_ERR_CNT_COUNT + 1)) := by
  refine runs_done (u := Vlk.container crcOk badLen s) rfl ?_
  rw [settle_get, Vlk.container, if_pos (by simpa [hhub] using hbad), get_count (by decide)]
  rfl

theorem container_good_runs {crcOk : Nat} (hgood : crcOk ≠ 0) :
    runs (.mgmtContainer crcOk 0) s (fun t => t.csr = s.csr ∧ t.vlk = s.vlk) := by
  have hkept : Vlk.container crcOk 0 s = s := if_neg (by simp [hgood])
  have hsettle : settle s s = s := if_pos rfl
  refine runs_done (congrArg (done s) hkept) ?_
  rw [hsettle]
  exact ⟨rfl, rfl⟩

/-! ### REG_REQ (R108, Table VLK-4) -/

/-- The identifier of a REG_REQ. -/
def idOf (msg : List Nat) : Nat := msg.getD 2 0 + 2 ^ 32 * msg.getD 3 0

/-- A REG_REQ of that identifier was heard within REG_TMO. -/
def heardLately (s : State) (msg : List Nat) : Bool :=
  s.vlk.recent.any fun y => y.1 == idOf msg && decide (y.2 < max 1 (s.get F.VLK_REG_CFG_REG_TMO))

theorem not_heardLately (h : (s.vlk.recent.all fun y => y.1 != idOf msg || decide (max 1 (s.get F.VLK_REG_CFG_REG_TMO) ≤ y.2)) = true) :
    heardLately s msg = false := by
  rw [heardLately, List.any_eq_false]
  intro y hy
  have hy' := List.all_eq_true.mp h y hy
  simp only [Bool.or_eq_true, bne_iff_ne, decide_eq_true_eq] at hy'
  simp only [Bool.and_eq_true, beq_iff_eq, decide_eq_true_eq, not_and, Nat.not_lt]
  exact fun he => hy'.resolve_left fun hne => hne he

/-- The causes that a REG_REQ of a leaf in a state sets; none of an identifier that no leaf holds. -/
def flagged (h : Option Nat) (sending : Nat) (s : State) : State :=
  match h with
  | none => s
  | some st => if st = 2 ∧ sending ≠ 0 then s.set F.VLK_INT_CAUSE_DUP_ID else s.set F.VLK_INT_CAUSE_REREG

theorem flagged_vlk (h : Option Nat) : (flagged h sending s).vlk = s.vlk := by
  unfold flagged
  split
  · rfl
  · split <;> exact State_put_vlk ..

theorem flagged_brx (h : Option Nat) : (flagged h sending s).brx = s.brx := by
  unfold flagged
  split
  · rfl
  · split <;> exact State_put_brx ..

/-- A REG_REQ enters the ring, and its identifier is kept for REG_TMO. -/
def queued (msg w : List Nat) (s u : State) : State :=
  let u := (Vlk.ringPush w u).2
  { u with vlk := { u.vlk with
    recent := (u.vlk.recent.filter fun x => x.1 != idOf msg && decide (x.2 < max 1 (s.get F.VLK_REG_CFG_REG_TMO))) ++ [(idOf msg, 0)] } }

/-- A REG_REQ of an identifier not heard lately. -/
theorem regReq_fresh (hhub : Vlk.hubOn s = true) (hfresh : heardLately s msg = false) {h : Option Nat}
    (hh : (Vlk.holder s (msg.getD 2 0) (msg.getD 3 0)).map (Vlk.leafState s) = h) :
    Vlk.regReq msg rtt ofs snr sending s = if h = some 1 then flagged h sending s
      else queued msg (((msg.set 12 rtt).set 13 ofs).set 14 snr) s (flagged h sending s) := by
  unfold heardLately idOf at hfresh
  unfold Vlk.regReq
  dsimp only
  rw [if_neg (by simp [hhub]), if_neg (Bool.eq_false_iff.mp hfresh), hh]
  rfl

theorem regReq_repeated (hhub : Vlk.hubOn s = true) (hheard : heardLately s msg = true) :
    Vlk.regReq msg rtt ofs snr sending s = s.count F.VLK_STAT_DUP_REQ := by
  unfold Vlk.regReq
  dsimp only
  rw [if_neg (by simp [hhub])]
  exact if_pos hheard

theorem ringPush_room (h : s.vlk.ring.length < 32) : (Vlk.ringPush w s).2 =
    (({ s with vlk := { s.vlk with ring := s.vlk.ring ++ [w] } } : State).put F.VLK_RXSTAT_COUNT (s.vlk.ring ++ [w]).length).set
      F.VLK_INT_CAUSE_RX_AVAIL := by
  unfold Vlk.ringPush
  rw [if_pos h]

/-- A message that the ring has room for. -/
theorem queued_ring (h : u.vlk.ring.length < 32) : (queued msg w s u).vlk.ring = u.vlk.ring ++ [w] := by
  unfold queued
  rw [ringPush_room h]
  simp [State.set]

theorem queued_recent : (idOf msg, 0) ∈ (queued msg w s u).vlk.recent := by simp [queued]

theorem queued_brx (h : u.vlk.ring.length < 32) : (queued msg w s u).brx = u.brx := by
  unfold queued
  rw [ringPush_room h]
  simp [State.set]

theorem queued_avail (h : u.vlk.ring.length < 32) : (queued msg w s u).on F.VLK_INT_CAUSE_RX_AVAIL = true := by
  have havail : (Vlk.ringPush w u).2.on F.VLK_INT_CAUSE_RX_AVAIL = true := by
    rw [ringPush_room h, on_set (by decide) (by decide)]
  exact havail

theorem queued_get (h : u.vlk.ring.length < 32) (hg : g ∈ [F.VLK_INT_CAUSE_DUP_ID, F.VLK_INT_CAUSE_REREG]) :
    (queued msg w s u).get g = u.get g := by
  obtain ⟨hcount, havail⟩ := (by decide : ∀ g ∈ [F.VLK_INT_CAUSE_DUP_ID, F.VLK_INT_CAUSE_REREG],
    apart F.VLK_RXSTAT_COUNT g = true ∧ apart F.VLK_INT_CAUSE_RX_AVAIL g = true) g hg
  have hpush : (Vlk.ringPush w u).2.get g = u.get g := by
    rw [ringPush_room h, get_set_ne havail, get_put_ne hcount]
    rfl
  exact hpush

/-- The burst is taken from the list of those received. -/
def taken (rest : List Closed) (s : State) : State := { s with brx := { s.brx with good := rest } }

theorem regReq_of_good (hgood : s.brx.good = x :: rest) (htype : slice (x.msg.getD 0 0) 16 8 = 2) :
    Brx.regReq sending s = Vlk.regReq x.msg (Brx.rtt s x.burst (x.msg.getD 5 0) (x.msg.getD 6 0) (x.msg.getD 7 0))
      (unsigned 32 (signed 16 x.fofs)) x.snr sending (taken rest s) := by
  unfold Brx.regReq
  rw [hgood]
  exact if_pos htype

/-- A REG_REQ completes with what VLK makes of it. -/
theorem regReq_runs {p : State → Prop} (hgood : s.brx.good = x :: rest) (htype : slice (x.msg.getD 0 0) 16 8 = 2)
    (hu : Vlk.regReq x.msg (Brx.rtt s x.burst (x.msg.getD 5 0) (x.msg.getD 6 0) (x.msg.getD 7 0)) (unsigned 32 (signed 16 x.fofs)) x.snr
      sending (taken rest s) = u)
    (hp : ∀ t, (∀ g, t.get g = u.get g) → t.vlk = u.vlk → t.brx = u.brx → p t) : runs (.regReq sending) s p := by
  refine runs_mirrored (u := u) (congrArg (Access.doneMirrored s) ((regReq_of_good hgood htype).trans hu)) (hp _ (fun g => ?_) ?_ ?_)
  · rw [settle_get, mirror_get]
  · rw [settle_vlk, mirror_vlk]
  · rw [settle_brx, mirror_brx]

theorem room_flagged {h : Option Nat} (hroom : s.vlk.ring.length < 32) : (flagged h sending (taken rest s)).vlk.ring.length < 32 := by
  rw [flagged_vlk]
  exact hroom

/-- A REG_REQ of an identifier that no leaf holds. -/
theorem regReq_stranger_runs (hgood : s.brx.good = x :: rest) (htype : slice (x.msg.getD 0 0) 16 8 = 2) (hhub : Vlk.hubOn s = true)
    (hfresh : heardLately s x.msg = false) (hnone : Vlk.holder s (x.msg.getD 2 0) (x.msg.getD 3 0) = none) (hroom : s.vlk.ring.length < 32) :
    runs (.regReq sending) s (fun t => t.brx.good = rest ∧
      t.vlk.ring = s.vlk.ring ++ [((x.msg.set 12 (Brx.rtt s x.burst (x.msg.getD 5 0) (x.msg.getD 6 0) (x.msg.getD 7 0))).set 13
        (unsigned 32 (signed 16 x.fofs))).set 14 x.snr] ∧
      t.on F.VLK_INT_CAUSE_RX_AVAIL = true ∧ (idOf x.msg, 0) ∈ t.vlk.recent) := by
  refine regReq_runs hgood htype ((regReq_fresh (s := taken rest s) (h := none) hhub hfresh (congrArg (Option.map _) hnone)).trans
    (if_neg (by decide))) fun t hget hvlk hbrx => ?_
  have hroom' : (flagged none sending (taken rest s)).vlk.ring.length < 32 := room_flagged hroom
  rw [hvlk, hbrx, on_congr (hget _), queued_brx hroom', queued_ring hroom']
  exact ⟨rfl, rfl, queued_avail hroom', queued_recent⟩

/-- A REG_REQ of an identifier heard lately. -/
theorem regReq_repeated_runs (hgood : s.brx.good = x :: rest) (htype : slice (x.msg.getD 0 0) 16 8 = 2) (hhub : Vlk.hubOn s = true)
    (hheard : heardLately s x.msg = true) :
    runs (.regReq sending) s (fun t => t.brx.good = rest ∧ t.vlk.ring = s.vlk.ring ∧
      t.get F.VLK_STAT_DUP_REQ = min 255 (s.get F.VLK_STAT_DUP_REQ + 1)) := by
  refine regReq_runs hgood htype (regReq_repeated (s := taken rest s) hhub hheard) fun t hget hvlk hbrx => ?_
  rw [hvlk, hbrx, hget, State.count, State_put_vlk, State_put_brx, ← State.count, get_count (by decide)]
  exact ⟨rfl, rfl, rfl⟩

theorem holder_state {idLo idHi : Nat} (h : Vlk.holder s idLo idHi = some l) :
    (Vlk.holder s idLo idHi).map (Vlk.leafState s) = some (Vlk.leafState s l) := by rw [h]; rfl

/-- A REG_REQ of an ASSIGNED leaf. -/
theorem regReq_assigned_runs (hgood : s.brx.good = x :: rest) (htype : slice (x.msg.getD 0 0) 16 8 = 2) (hhub : Vlk.hubOn s = true)
    (hfresh : heardLately s x.msg = false) (hholder : Vlk.holder s (x.msg.getD 2 0) (x.msg.getD 3 0) = some l)
    (hstate : Vlk.leafState s l = 1) :
    runs (.regReq sending) s (fun t => t.brx.good = rest ∧ t.vlk.ring = s.vlk.ring ∧ t.on F.VLK_INT_CAUSE_REREG = true) := by
  refine regReq_runs hgood htype ((regReq_fresh (s := taken rest s) (h := some 1) hhub hfresh
    ((holder_state hholder).trans (congrArg some hstate))).trans
    (if_pos rfl)) fun t hget hvlk hbrx => ?_
  rw [hvlk, hbrx, on_congr (hget _), flagged_vlk, flagged_brx]
  exact ⟨rfl, rfl, on_set (by decide) (by decide)⟩

/-- A REG_REQ of a leaf in another state. -/
theorem regReq_known_runs (hgood : s.brx.good = x :: rest) (htype : slice (x.msg.getD 0 0) 16 8 = 2) (hhub : Vlk.hubOn s = true)
    (hfresh : heardLately s x.msg = false) (hholder : Vlk.holder s (x.msg.getD 2 0) (x.msg.getD 3 0) = some l)
    (hstate : Vlk.leafState s l ≠ 1) (hroom : s.vlk.ring.length < 32) :
    runs (.regReq sending) s (fun t => t.brx.good = rest ∧ t.vlk.ring.length = s.vlk.ring.length + 1 ∧
      (Vlk.leafState s l = 2 ∧ sending ≠ 0 → t.on F.VLK_INT_CAUSE_DUP_ID = true) ∧
      (Vlk.leafState s l ≠ 2 ∨ sending = 0 → t.on F.VLK_INT_CAUSE_REREG = true)) := by
  refine regReq_runs hgood htype ((regReq_fresh (s := taken rest s) (h := some (Vlk.leafState s l)) hhub hfresh (holder_state hholder)).trans
    (if_neg fun h => hstate (Option.some.inj h))) fun t hget hvlk hbrx => ?_
  have hroom' : (flagged (some (Vlk.leafState s l)) sending (taken rest s)).vlk.ring.length < 32 := room_flagged hroom
  rw [hvlk, hbrx, queued_brx hroom', queued_ring hroom', flagged_vlk, flagged_brx]
  refine ⟨rfl, List.length_append, fun h => ?_, fun h => ?_⟩
  · rw [on_congr ((hget _).trans (queued_get hroom' (by decide))), flagged, if_pos h, on_set (by decide) (by decide)]
  · rw [on_congr ((hget _).trans (queued_get hroom' (by decide))), flagged, if_neg fun hc => h.elim (· hc.1) hc.2, on_set (by decide) (by decide)]

end Sys2Proof.Proofs

/-! SUPPORT. The states of a hub's leaves, their answers to grants and tables, and their SNR reports (O33; R77, R82, R83, R109, R112, R121). -/
namespace Sys2Proof.Proofs
open Sys2Proof Sys2Proof.Machine Sys2Proof.Laws

variable {s t u : State} {f g : Machine.Field} {addr d flags i j k l lo n seq status v ver : Nat} {leaves vals w : List Nat} {c : VMsg → Bool}
  {sync : Bool} {entry : Nat → Nat}

/-! ### The state of a leaf (Table VLK-7) -/

/-- A leaf's state and ACTIVE_CNT, as `setLeaf` writes them. -/
def leafPut (l n : Nat) (s : State) : State :=
  (s.put F.VLK_LEAF_STATE n l).put F.VLK_STAT_ACTIVE_CNT (s.get F.VLK_STAT_ACTIVE_CNT + Vlk.counted n - Vlk.counted (Vlk.leafState s l))

/-- The fields that tell the version of an active table. -/
def verFields : List Machine.Field := [F.SYS_ROLE_ROLE, H.LTX_ACT_VER, H.LRX_ACT_VER]

/-- The fields that a change of a leaf's state reports in, and those that tell the versions. -/
def leafFields : List Machine.Field := [F.VLK_LEAF_STATE, F.VLK_STAT_ACTIVE_CNT] ++ verFields

theorem setLeaf_moves : Moves (Sparing leafFields) (leafPut l n s) (Vlk.setLeaf l n s) := by
  have hforgot : Moves (Sparing leafFields) (leafPut l n s) (if n = 0 ∨ n = 3 then Scm.forget l (leafPut l n s) else leafPut l n s) :=
    moves_ite (.clr _ _ _ rfl (.clr _ _ _ rfl (.clr _ _ _ rfl .refl))) .refl
  exact moves_ite hforgot (.when _ (.clr _ _ _ rfl hforgot) fun _ h => .clr _ _ _ rfl h)

theorem setLeaf_state (hl : l < 512) (hn : n < 8) : (Vlk.setLeaf l n s).get F.VLK_LEAF_STATE l = n := by
  rw [get_of_sparing setLeaf_moves (by decide), leafPut, get_put_ne (by decide), get_put_lt (has_row rfl hl) hn]

theorem setLeaf_count : (Vlk.setLeaf l n s).get F.VLK_STAT_ACTIVE_CNT =
    (s.get F.VLK_STAT_ACTIVE_CNT + Vlk.counted n - Vlk.counted (Vlk.leafState s l)) % 2 ^ 10 := by
  rw [get_of_sparing setLeaf_moves (by decide), leafPut, State_get_put_same _ _ _ _ _ _ (by decide)]
  rfl

theorem setLeaf_free_wake : (Vlk.setLeaf l 0 s).on H.VLK_WAKE_BIT l = false := on_clr

/-! ### REG_CONFIRM and DEREG (R109, R121) -/

theorem activeVer_congr (h : ∀ g ∈ verFields, t.get g = u.get g) : Scm.activeVer t d = Scm.activeVer u d := by
  rw [Scm.activeVer, State.leaf, h F.SYS_ROLE_ROLE (by decide), h H.LTX_ACT_VER (by decide), h H.LRX_ACT_VER (by decide), ← State.leaf,
    Scm.activeVer]

theorem sendTable_get (hg : g ∈ leafFields) : (Scm.sendTable d v l sync entry s).get g i = s.get g i :=
  get_of_sparing (Scm_sendTable_moves (W := Sparing leafFields) rfl rfl d v l sync entry .refl) hg

theorem sendGrants_get (hg : g ∈ leafFields) : (Scm.sendGrants l s).get g i = s.get g i :=
  get_of_sparing (Scm_sendGrants_moves (W := Sparing leafFields) rfl rfl l .refl) hg

/-- A table with SYNC for leaf l. -/
abbrev syncTable (l d v : Nat) (m : VMsg) : Bool := m.addr == l && m.sync && m.type == 0x20 && m.body.take 2 == [d, v]

/-- The grants with SYNC for leaf l. -/
abbrev syncGrants (l : Nat) (m : VMsg) : Bool := m.addr == l && m.sync && m.type == 0x18

theorem sendTable_sync : waiting (syncTable l d v) (Scm.sendTable d v l true entry s) :=
  waiting_sent (by simp [sent, Scm.loadBody])

theorem sendTable_keeps (h : waiting c s) : waiting c (Scm.sendTable d v l sync entry s) := waiting_of_send h

theorem sendGrants_sync : waiting (syncGrants l) (Scm.sendGrants l s) := waiting_sent (by simp [sent])

theorem sendGrants_keeps (h : waiting c s) : waiting c (Scm.sendGrants l s) := waiting_of_send h

/-- The machine as a confirmed leaf has been sent the active tables. -/
def confirmed (l : Nat) (s : State) : State :=
  let s := Vlk.setLeaf l 2 s
  let s := Scm.sendTable 0 (Scm.activeVer s 0) l true (fun k => s.get (Scm.active s 0) k) s
  Scm.sendTable 1 (Scm.activeVer s 1) l true (fun k => s.get (Scm.active s 1) k) s

theorem regConfirm_assigned (h : Vlk.leafState s l = 1) : Vlk.regConfirm l s = Scm.sendGrants l (confirmed l s) := if_pos h

theorem confirmed_get (hg : g ∈ leafFields) : (confirmed l s).get g i = (Vlk.setLeaf l 2 s).get g i := by
  unfold confirmed
  rw [sendTable_get hg, sendTable_get hg]

theorem setLeaf_activeVer : Scm.activeVer (Vlk.setLeaf l n s) d = Scm.activeVer s d := by
  refine activeVer_congr fun g hg => ?_
  obtain ⟨hmem, hstate, hcount⟩ := (by decide : ∀ g ∈ verFields,
    g ∈ leafFields ∧ apart F.VLK_LEAF_STATE g = true ∧ apart F.VLK_STAT_ACTIVE_CNT g = true) g hg
  rw [get_of_sparing setLeaf_moves hmem, leafPut, get_put_ne hcount, get_put_ne hstate]

theorem confirmed_tables : waiting (syncTable l 0 (Scm.activeVer s 0)) (confirmed l s) ∧
    waiting (syncTable l 1 (Scm.activeVer s 1)) (confirmed l s) := by
  unfold confirmed
  dsimp only
  refine ⟨sendTable_keeps ?_, ?_⟩
  · rw [setLeaf_activeVer]
    exact sendTable_sync
  · rw [activeVer_congr (t := Scm.sendTable 0 _ _ _ _ _) fun g hg => sendTable_get (List.mem_append_right _ hg), setLeaf_activeVer]
    exact sendTable_sync

/-- REG_CONFIRM. -/
theorem regConfirm_runs (hhub : Vlk.hubOn s = true) (hl : l < 512) (hnew : notRepeat s l 0 flags seq = true) (hstate : Vlk.leafState s l = 1) :
    runs (.regConfirm l flags seq) s (fun t => t.get F.VLK_LEAF_STATE l = 2 ∧
      t.get F.VLK_STAT_ACTIVE_CNT = (s.get F.VLK_STAT_ACTIVE_CNT + 1) % 2 ^ 10 ∧ waiting (syncTable l 0 (Scm.activeVer s 0)) t ∧
      waiting (syncTable l 1 (Scm.activeVer s 1)) t ∧ waiting (syncGrants l) t ∧ acknowledges t l 0 flags seq 0) := by
  obtain ⟨hdown, hup⟩ := confirmed_tables (l := l) (s := s)
  refine runs_answered_mirrored rfl (up_answers hhub hl (by omega) rfl hnew rfl) fun t ht => ?_
  rw [Vlk.accept, regConfirm_assigned hstate] at ht
  have hget {g : Machine.Field} {i : Nat} (hg : g ∈ leafFields) : t.get g i = (Vlk.setLeaf l 2 s).get g i := by
    rw [ht.get g ((by decide : ∀ g ∈ leafFields, apart H.VLK_SEQ g = true) g hg), sendGrants_get hg, confirmed_get hg]
  refine ⟨?_, ?_, ht.waiting (sendGrants_keeps hdown), ht.waiting (sendGrants_keeps hup), ht.waiting sendGrants_sync, ht.acknowledged⟩
  · rw [hget (by decide), setLeaf_state hl (by decide)]
  · rw [hget (by decide), setLeaf_count, hstate]
    rfl

/-- DEREG of a leaf. -/
theorem dereg_hub_runs (hhub : Vlk.hubOn s = true) (hl : l < 512) (hstate : Vlk.leafState s l ≠ 0) (hnew : notRepeat s l l flags seq = true) :
    runs (.dereg l flags seq) s (fun t => t.get F.VLK_LEAF_STATE l = 0 ∧ t.on H.VLK_WAKE_BIT l = false ∧
      t.get F.VLK_STAT_ACTIVE_CNT = (s.get F.VLK_STAT_ACTIVE_CNT - Vlk.counted (Vlk.leafState s l)) % 2 ^ 10 ∧
      acknowledges t l l flags seq 0) := by
  have hup : Vlk.dereg l flags seq s = Vlk.up l flags seq (Vlk.accept (Vlk.setLeaf l 0)) s := if_neg (by simp [leaf_of_hubOn hhub])
  have hb : Vlk.broadcast l = false := by
    simp only [Vlk.broadcast, Bool.or_eq_false_iff, beq_eq_false_iff_ne]
    omega
  refine runs_answered_mirrored (congrArg (Access.doneMirrored s) hup) (up_answers hhub hl hstate hb hnew rfl) fun t ht => ?_
  refine ⟨?_, ?_, ?_, ht.acknowledged⟩
  · rw [ht.get _ (by decide), Vlk.accept, setLeaf_state hl (by decide)]
  · rw [ht.on (by decide), Vlk.accept, setLeaf_free_wake]
  · rw [ht.get _ (by decide), Vlk.accept, setLeaf_count]
    rfl

/-! ### GRANT_ACK (R112) -/

/-- The answer is one that the grant change in flight awaits. -/
theorem grantAck_mine (hstat : s.get F.SCM_GRANT_STAT_STATE = 1) (hver : ver = s.get H.SCM_GRANT_LAST) (haddr : s.on H.SCM_GRANT_ADDR l = true) :
    (s.get F.SCM_GRANT_STAT_STATE == 1 && ver == s.get H.SCM_GRANT_LAST && s.on H.SCM_GRANT_ADDR l) = true := by
  simp [hstat, hver, haddr]

/-- GRANT_ACK with READY. -/
theorem grantAck_ready_runs (hhub : Vlk.hubOn s = true) (hl : l < 512) (hstate : Vlk.leafState s l ≠ 0)
    (hnew : notRepeat s l 0 flags seq = true) (hstat : s.get F.SCM_GRANT_STAT_STATE = 1) (hver : ver = s.get H.SCM_GRANT_LAST)
    (haddr : s.on H.SCM_GRANT_ADDR l = true) :
    runs (.grantAck l flags seq ver 0) s (fun t => t.on H.SCM_GRANT_ACKED l = true ∧ acknowledges t l 0 flags seq 0) := by
  have hacked : Scm.grantAcked l ver 0 s = s.set H.SCM_GRANT_ACKED l := if_pos (grantAck_mine hstat hver haddr)
  refine runs_answered_mirrored rfl (up_answers hhub hl hstate rfl hnew rfl) fun t ht => ⟨?_, ht.acknowledged⟩
  rw [ht.on (by decide), Vlk.accept, hacked, on_set (has_row rfl hl) (by decide)]

theorem grantAbandon_state : (Scm.grantAbandon leaves s).get F.SCM_GRANT_STAT_STATE = 0 := by
  have hend : (Scm.grantEnd s).get F.SCM_GRANT_STAT_STATE = 0 := get_clr
  rw [Scm.grantAbandon, get_set_ne (by decide), get_set_ne (by decide)]
  exact (eachOf_keeps (obs := fun t => t.get F.SCM_GRANT_STAT_STATE) (fun _ _ _ => get_setBit_ne (by decide)) _).trans hend

theorem grantAbandon_fails : (Scm.grantAbandon leaves s).on F.SCM_INT_CAUSE_CHG_FAIL = true ∧
    (Scm.grantAbandon leaves s).on F.VLK_INT_CAUSE_GRANT_FAIL = true := by
  refine ⟨?_, on_set (by decide) (by decide)⟩
  rw [Scm.grantAbandon, on_set_ne (by decide), on_set (by decide) (by decide)]

theorem grantAbandon_naks (hl : l ∈ leaves) (hlt : l < 512) :
    (Scm.grantAbandon leaves s).bit F.SCM_NAK_MAP_LEAF (l % 32) (l / 32) = true := by
  rw [Scm.grantAbandon, bit_congr (get_set_ne (by decide)), bit_congr (get_set_ne (by decide))]
  exact nakked_of_mem hl hlt _

/-- GRANT_ACK with a refusal, in the change. -/
theorem grantAck_refused_runs (hhub : Vlk.hubOn s = true) (hl : l < 512) (hstate : Vlk.leafState s l ≠ 0)
    (hnew : notRepeat s l 0 flags seq = true) (hstat : s.get F.SCM_GRANT_STAT_STATE = 1) (hver : ver = s.get H.SCM_GRANT_LAST)
    (haddr : s.on H.SCM_GRANT_ADDR l = true) (hne : status ≠ 0) :
    runs (.grantAck l flags seq ver status) s (fun t => t.get F.SCM_GRANT_STAT_STATE = 0 ∧ t.on F.VLK_INT_CAUSE_GRANT_FAIL = true ∧
      acknowledges t l 0 flags seq 0) := by
  have hfailed : Scm.grantAcked l ver status s = Scm.grantAbandon [l] s := (if_pos (grantAck_mine hstat hver haddr)).trans (if_neg hne)
  refine runs_answered_mirrored rfl (up_answers hhub hl hstate rfl hnew rfl) fun t ht => ?_
  rw [Vlk.accept, hfailed] at ht
  refine ⟨?_, ?_, ht.acknowledged⟩
  · rw [ht.get _ (by decide), grantAbandon_state]
  · rw [ht.on (by decide), grantAbandon_fails.2]

/-- GRANT_ACK with a refusal, outside a change. -/
theorem grantAck_asks_runs (hhub : Vlk.hubOn s = true) (hl : l < 512) (hstate : Vlk.leafState s l ≠ 0)
    (hnew : notRepeat s l 0 flags seq = true) (hstat : s.get F.SCM_GRANT_STAT_STATE ≠ 1) (hne : status ≠ 0) :
    runs (.grantAck l flags seq ver status) s (fun t => waiting (syncGrants l) t ∧ acknowledges t l 0 flags seq 0) := by
  have hsent : Scm.grantAcked l ver status s = Scm.sendGrants l s := (if_neg (by simp [hstat])).trans (if_neg hne)
  refine runs_answered_mirrored rfl (up_answers hhub hl hstate rfl hnew rfl) fun t ht => ⟨ht.waiting ?_, ht.acknowledged⟩
  rw [Vlk.accept, hsent]
  exact sendGrants_sync

/-! ### LOAD_ACK, LOAD_NAK and LOAD_MISMATCH (R81 to R83) -/

/-- LOAD_ACK. -/
theorem loadAck_runs (hhub : Vlk.hubOn s = true) (hl : l < 512) (hstate : Vlk.leafState s l ≠ 0) (hnew : notRepeat s l 0 flags seq = true)
    (hd : d < 2) (hchange : s.get (Scm.chState d) = 1) (hver : ver = s.get H.SCM_LAST_VER d) (haddr : s.on H.SCM_ADDRESSED d l = true) :
    runs (.loadAck l flags seq d ver) s (fun t => t.on H.SCM_ACKED d l = true ∧ acknowledges t l 0 flags seq 0) := by
  have hacked : Scm.acked l d ver s = s.set H.SCM_ACKED d l := if_pos ⟨hchange, hver, haddr⟩
  refine runs_answered_mirrored rfl (up_answers hhub hl hstate rfl hnew rfl) fun t ht => ⟨?_, ht.acknowledged⟩
  rw [ht.on (by decide), Vlk.accept, hacked, on_set (has_cell rfl hd hl) (by decide)]

theorem chState_apart (d : Nat) : apart H.VLK_SEQ (Scm.chState d) = true ∧ apart H.SCM_RESEND (Scm.chState d) = true :=
  (by decide : ∀ g ∈ stateFields, apart H.VLK_SEQ g = true ∧ apart H.SCM_RESEND g = true) _ (chState_mem d)

/-- LOAD_NAK. -/
theorem loadNak_runs (hhub : Vlk.hubOn s = true) (hl : l < 512) (hstate : Vlk.leafState s l ≠ 0) (hnew : notRepeat s l 0 flags seq = true)
    (hchange : s.get (Scm.chState d) = 1) (hver : ver = s.get H.SCM_LAST_VER d) :
    runs (.loadNak l flags seq d ver) s (fun t => t.get (Scm.chState d) = 0 ∧ t.on F.SCM_INT_CAUSE_CHG_FAIL = true ∧
      t.bit F.SCM_NAK_MAP_LEAF (l % 32) (l / 32) = true ∧
      (∀ k, k < 512 → s.on H.SCM_ADDRESSED d k = true → waiting (cancels k d ver) t) ∧ acknowledges t l 0 flags seq 0) := by
  have hnakked : Scm.nakked l d ver s = Scm.abandon d [l] s := if_pos ⟨hchange, hver⟩
  refine runs_answered_mirrored rfl (up_answers hhub hl hstate rfl hnew rfl) fun t ht => ?_
  rw [Vlk.accept, hnakked] at ht
  refine ⟨?_, ?_, ?_, fun k hk hon => ht.waiting ?_, ht.acknowledged⟩
  · rw [ht.get _ (chState_apart d).1, abandon_state]
  · rw [ht.on (by decide), abandon_fails]
  · rw [bit_congr (ht.get _ (by decide) _ _ _), abandon_naks (.head _) hl]
  · rw [hver]
    exact (waiting_congr abandon_vlk).mpr (drop_cancels hk hon)

theorem resend_starts (hleaf : s.leaf = false) (hidle : s.get (Scm.chState d) = 0) :
    Scm.resend d l s = Scm.start d (fun k => s.get (Scm.active s d) k) (l + 1) (s.clr H.SCM_RESEND d) := by
  rw [Scm.resend, if_neg (by simp [hleaf]), if_neg (by simp [hidle])]

theorem resend_waits (hleaf : s.leaf = false) (hchange : s.get (Scm.chState d) ≠ 0) : Scm.resend d l s = s.put H.SCM_RESEND (l + 1) d := by
  rw [Scm.resend, if_neg (by simp [hleaf]), if_pos hchange]

/-- LOAD_MISMATCH with no change in flight. -/
theorem loadMismatch_runs (hhub : Vlk.hubOn s = true) (hl : l < 512) (hstate : Vlk.leafState s l ≠ 0) (hnew : notRepeat s l 0 flags seq = true)
    (hd : d < 2) (hidle : s.get (Scm.chState d) = 0) :
    runs (.loadMismatch l flags seq d) s (fun t => t.get H.SCM_LAST_VER d = Scm.nextVer (s.get H.SCM_LAST_VER d) ∧
      (Scm.ready t d = true → t.get (Scm.chState d) = 1 ∧ t.on H.SCM_ADDRESSED d l = true ∧
        waiting (tables l d (Scm.nextVer (s.get H.SCM_LAST_VER d)) (Scm.leafGroup s l) fun k => s.get (Scm.active s d) k) t) ∧
      (Scm.ready t d = false → t.get (Scm.chState d) = 0 ∧ t.on F.SCM_INT_CAUSE_CHG_FAIL = true) ∧ acknowledges t l 0 flags seq 0) := by
  generalize hentry : (fun k => s.get (Scm.active s d) k) = entry
  have hstart := resend_starts (l := l) (leaf_of_hubOn hhub) hidle
  rw [hentry] at hstart
  have hver : (s.clr H.SCM_RESEND d).get H.SCM_LAST_VER d = s.get H.SCM_LAST_VER d := get_clr_ne (by decide)
  have hgroup : Scm.leafGroup (s.clr H.SCM_RESEND d) l = Scm.leafGroup s l := leafGroup_congr fun g hg i =>
    get_clr_ne ((by decide : ∀ g ∈ groupFields, apart H.SCM_RESEND g = true) g hg)
  have hasked := offered_asked (s := s.clr H.SCM_RESEND d) (entry := entry) hd hl
  rw [hver, hgroup] at hasked
  have hstated := start_state d entry (l + 1) (s.clr H.SCM_RESEND d)
  refine runs_answered_mirrored rfl (up_answers hhub hl hstate rfl hnew rfl) fun t ht => ?_
  rw [Vlk.accept, hstart] at ht
  dsimp only at ht
  have hready : Scm.ready t d = Scm.ready (Scm.start d entry (l + 1) (s.clr H.SCM_RESEND d)) d := ready_congr fun g hg =>
    ht.get g ((by decide : ∀ g ∈ changeFields, apart H.VLK_SEQ g = true) g hg) 0 0 0
  have hch : t.get (Scm.chState d) = _ := (ht.get _ (chState_apart d).1 0 0 0).trans hstated.1
  rw [hready]
  refine ⟨?_, fun hr => ⟨?_, ?_⟩, fun hr => ⟨?_, ?_⟩, ht.acknowledged⟩
  · rw [ht.get _ (by decide), start_version hd, hver]
  · rw [hch, hr]
    rfl
  · rcases start_cases d entry (l + 1) (s.clr H.SCM_RESEND d) with ⟨-, hcase⟩ | ⟨hnot, -⟩
    · rw [hcase] at ht
      refine ⟨?_, ht.waiting ?_⟩
      · rw [ht.on (by decide), hasked.1]
      · exact hasked.2
    · exact absurd (hr.symm.trans hnot) (by decide)
  · rw [hch, hr]
    rfl
  · rw [ht.on (by decide), hstated.2 hr]

/-- LOAD_MISMATCH with a change in flight. -/
theorem loadMismatch_waits_runs (hhub : Vlk.hubOn s = true) (hl : l < 512) (hstate : Vlk.leafState s l ≠ 0)
    (hnew : notRepeat s l 0 flags seq = true) (hd : d < 2) (hchange : s.get (Scm.chState d) ≠ 0) :
    runs (.loadMismatch l flags seq d) s (fun t => t.get H.SCM_RESEND d = l + 1 ∧ t.get (Scm.chState d) = s.get (Scm.chState d) ∧
      acknowledges t l 0 flags seq 0) := by
  have hfit : l + 1 < 2 ^ H.SCM_RESEND.width := Nat.lt_of_le_of_lt hl (by decide)
  refine runs_answered_mirrored rfl (up_answers hhub hl hstate rfl hnew rfl) fun t ht => ?_
  rw [Vlk.accept, resend_waits (leaf_of_hubOn hhub) hchange] at ht
  refine ⟨?_, ?_, ht.acknowledged⟩
  · rw [ht.get _ (by decide), get_put_lt (has_row rfl hd) hfit]
  · rw [ht.get _ (chState_apart d).1, get_put_ne (chState_apart d).2]

/-! ### SNR_REPORT (R77) -/

/-- What a state has and every round of the list keeps holds after the loop. -/
theorem eachOf_preserves {α : Type} {p : State → Prop} {round : α → State → State} {l : List α} (hs : p s)
    (h : ∀ x ∈ l, ∀ t, p t → p (round x t)) : p (s.eachOf l round) := by
  induction l generalizing s with
  | nil => exact hs
  | cons x l ih => exact ih (h x (.head _) s hs) fun y hy => h y (.tail _ hy)

/-- The value of a report at subcarrier k, with the present multiframe. -/
def snrStored (v k : Nat) (t : State) : State :=
  let t := (t.put F.SCM_DS_SNR_SNR_X (slice v 0 10) k).put F.SCM_DS_SNR_SNR_Y (slice v 10 10) k
  let t := (t.put F.SCM_DS_SNR_SNR (slice v 20 10) k).put F.SCM_DS_SNR_VALID (slice v 30 1) k
  t.put H.SCM_SNR_MF (t.get H.SCM_MF) 0 k

/-- What is known of the downstream SNR of subcarrier k. -/
def snrAt (k : Nat) (t : State) : Nat × Nat × Nat × Nat × Nat :=
  (t.get F.SCM_DS_SNR_SNR_X k, t.get F.SCM_DS_SNR_SNR_Y k, t.get F.SCM_DS_SNR_SNR k, t.get F.SCM_DS_SNR_VALID k, t.get H.SCM_SNR_MF 0 k)

theorem snrStored_at (hk : k < 512) : snrAt k (snrStored v k t) =
    (slice v 0 10, slice v 10 10, slice v 20 10, slice v 30 1, t.get H.SCM_MF) := by
  have hfit (a b : Nat) : slice v a b < 2 ^ b := Nat.mod_lt _ (Nat.two_pow_pos b)
  simp only [snrAt, snrStored, Prod.mk.injEq]
  simp (disch := decide) only [get_put_ne]
  exact ⟨get_put_lt (has_row rfl hk) (hfit 0 10), get_put_lt (has_row rfl hk) (hfit 10 10), get_put_lt (has_row rfl hk) (hfit 20 10),
    get_put_lt (has_row rfl hk) (hfit 30 1), get_put_get (has_cell rfl (by decide) hk) (by decide)⟩

theorem snrStored_other (h : i ≠ k) : snrAt k (snrStored v i t) = snrAt k t := by
  simp (disch := first | decide | exact h) only [snrAt, snrStored, get_put_ne, get_put_row, get_put_column]

/-- One value of a report: it is taken where the subcarrier's entry names the leaf. -/
def snrRound (l lo : Nat) (x : Nat × Nat) (t : State) : State :=
  if slice (t.get H.LTX_ACTIVE (lo + x.2)) 22 9 = l then snrStored x.1 (lo + x.2) t else t

theorem snrReported_eq : Vlk.snrReported l lo vals s = s.eachOf vals.zipIdx (snrRound l lo) := rfl

/-- The loading of the subcarriers and the multiframe, which a report leaves. -/
def sameLoading (s t : State) : Prop := (∀ i, t.get H.LTX_ACTIVE i = s.get H.LTX_ACTIVE i) ∧ t.get H.SCM_MF = s.get H.SCM_MF

theorem snrRound_loading (x : Nat × Nat) : sameLoading t (snrRound l lo x t) := by
  unfold snrRound
  split
  · refine ⟨fun i => ?_, ?_⟩ <;> simp (disch := decide) only [snrStored, get_put_ne]
  · exact ⟨fun _ => rfl, rfl⟩

theorem sameLoading.trans (h : sameLoading s t) (h' : sameLoading t u) : sameLoading s u :=
  ⟨fun i => (h'.1 i).trans (h.1 i), h'.2.trans h.2⟩

theorem sameLoading.symm (h : sameLoading s t) : sameLoading t s := ⟨fun i => (h.1 i).symm, h.2.symm⟩

theorem snrReported_loading : sameLoading s (Vlk.snrReported l lo vals s) := by
  rw [snrReported_eq]
  exact ⟨fun i => eachOf_keeps (obs := fun t => t.get H.LTX_ACTIVE i) (fun x _ t => (snrRound_loading x).1 i) s,
    eachOf_keeps (obs := fun t => t.get H.SCM_MF) (fun x _ t => (snrRound_loading x).2) s⟩

theorem snrReported_at (hj : j < vals.length) (hk : lo + j < 512) (hname : slice (s.get H.LTX_ACTIVE (lo + j)) 22 9 = l) :
    snrAt (lo + j) (Vlk.snrReported l lo vals s) = (slice (vals.getD j 0) 0 10, slice (vals.getD j 0) 10 10, slice (vals.getD j 0) 20 10,
      slice (vals.getD j 0) 30 1, s.get H.SCM_MF) := by
  have hmem := getD_mem_zipIdx hj
  have hown {t : State} (v : Nat) (h : sameLoading s t) : snrAt (lo + j) (snrRound l lo (v, j) t) =
      (slice v 0 10, slice v 10 10, slice v 20 10, slice v 30 1, s.get H.SCM_MF) := by
    rw [snrRound, if_pos (by rw [h.1, hname]), snrStored_at hk, h.2]
  -- the loading being the same before a round and after it, the claim is made of the states that have it
  refine eachOf_leaves (p := fun t => sameLoading s t → snrAt (lo + j) t = (slice (vals.getD j 0) 0 10, slice (vals.getD j 0) 10 10,
      slice (vals.getD j 0) 20 10, slice (vals.getD j 0) 30 1, s.get H.SCM_MF)) hmem
    (fun t h => hown _ (h.trans (snrRound_loading _).symm)) (fun y hy t ht h => ?_) s snrReported_loading
  have hloading : sameLoading s t := h.trans (snrRound_loading y).symm
  by_cases hyj : y.2 = j
  · obtain ⟨v, m⟩ := y
    obtain rfl : m = j := hyj
    obtain rfl : v = vals.getD m 0 := eq_of_mem_zipIdx hmem hy rfl
    exact hown _ hloading
  · rw [← ht hloading, snrRound]
    split
    · exact snrStored_other (by omega)
    · rfl

theorem snrReported_other (hname : slice (s.get H.LTX_ACTIVE k) 22 9 ≠ l) : snrAt k (Vlk.snrReported l lo vals s) = snrAt k s := by
  rw [snrReported_eq]
  refine (eachOf_preserves (p := fun t => sameLoading s t ∧ snrAt k t = snrAt k s) ⟨⟨fun _ => rfl, rfl⟩, rfl⟩ fun x _ t ht => ?_).2
  refine ⟨ht.1.trans (snrRound_loading x), ht.2 ▸ ?_⟩
  unfold snrRound
  split
  next h =>
    refine snrStored_other fun hk => hname ?_
    rw [← ht.1.1, ← hk, h]
  next => rfl

/-- SNR_REPORT: what it comes to at a subcarrier. -/
theorem snrReport_runs {p : State → Prop} (hhub : Vlk.hubOn s = true) (hl : l < 512) (hstate : Vlk.leafState s l ≠ 0)
    (hnew : notRepeat s l 0 flags seq = true)
    (hp : ∀ t, (∀ k, snrAt k t = snrAt k (Vlk.snrReported l lo vals s)) → acknowledges t l 0 flags seq 0 → p t) :
    runs (.snrReport l flags seq lo vals) s p := by
  refine runs_answered rfl (up_answers hhub hl hstate rfl hnew rfl) fun t ht => hp t (fun k => ?_) ht.acknowledged
  simp (disch := decide) only [snrAt, ht.get, Vlk.accept]

/-- Settles O33, with one lemma for each message: what its act comes to at the hub, read through its answer. -/
theorem hubTreeMessageResults : Obligations.HubTreeMessageResults := by
  unfold Obligations.HubTreeMessageResults
  refine ⟨fun s crcOk badLen => container_bad_runs, fun s crcOk _ => container_good_runs,
    fun s sending x rest hgood htype hhub hold => regReq_stranger_runs hgood htype hhub (not_heardLately hold),
    fun s sending x rest => regReq_repeated_runs,
    fun s sending x rest l hgood htype hhub hold => regReq_assigned_runs hgood htype hhub (not_heardLately hold),
    fun s sending x rest l hgood htype hhub hold => regReq_known_runs hgood htype hhub (not_heardLately hold),
    fun s l flags seq => regConfirm_runs, fun s l flags seq => dereg_hub_runs, fun s l flags seq ver => grantAck_ready_runs,
    fun s l flags seq ver status => grantAck_refused_runs, fun s l flags seq ver status => grantAck_asks_runs,
    fun s l flags seq d ver => loadAck_runs, fun s l flags seq d ver hhub hl hstate hnew _ => loadNak_runs hhub hl hstate hnew,
    fun s l flags seq d => loadMismatch_runs, fun s l flags seq d => loadMismatch_waits_runs,
    fun s l flags seq lo vals j hhub hl hstate hnew hj hk hname => ?_, fun s l flags seq lo vals k hhub hl hstate hnew _ hname => ?_⟩
  · refine snrReport_runs hhub hl hstate hnew fun t hsnr hack => ?_
    have hat := (hsnr (lo + j)).trans (snrReported_at hj hk hname)
    simp only [snrAt, Prod.mk.injEq] at hat
    obtain ⟨hx, hy, hsum, hvalid, hmf⟩ := hat
    exact ⟨hx, hy, hsum, hvalid, hmf, hack⟩
  · refine snrReport_runs hhub hl hstate hnew fun t hsnr _ => ?_
    have hat := (hsnr k).trans (snrReported_other hname)
    simp only [snrAt, Prod.mk.injEq] at hat
    obtain ⟨hx, hy, hsum, hvalid, -⟩ := hat
    exact ⟨hx, hy, hsum, hvalid⟩

end Sys2Proof.Proofs

/-! SUPPORT. The host's commands of the loading changes, and their announcement and time-out (O28; R81, R82, R84). -/
namespace Sys2Proof.Proofs
open Sys2Proof Sys2Proof.Machine Sys2Proof.Laws

variable {c : Instr} {s t u : State} {f g : Machine.Field} {d i j k l n ver x y z : Nat} {r : RegId} {dword : Nat → Nat} {eff : State → State}

/-! ### Completions of a register write -/

/-- Blocks whose writes have no effect outside the block. -/
def quiet (b : Nat) : Bool := b != 12 && b != 18 && b != 19

/-- A write that reaches a block without such effects leaves what its effect makes. -/
theorem quietRow_get (ht : takes r s = true) (hi : r.shape.has i j 0 = true) (hb : quiet (Sys.blockOf (r.barAddr 0 0 0)) = true)
    (hg : uncounted g = true) : (Bus.row Bus.host r i j dword eff s).get g x y z = (eff s).get g x y z := by
  simp only [quiet, Bool.and_eq_true, bne_iff_ne] at hb
  obtain ⟨⟨hsyn, htx⟩, hrx⟩ := hb
  rw [row_takes _ _ ht hi, access_get _ _ _ _ _ g x y z hg, Bus.follow, if_neg hsyn, if_neg fun h => h.elim htx hrx]

/-- A command that a register write carries out, and that the peer mirrors. -/
theorem quietRow_runs {p : State → Prop} (e : exec c s = Access.doneMirrored s (Bus.row Bus.host r 0 0 dword eff s)) (ht : takes r s = true)
    (hi : r.shape.has 0 0 0 = true) (hb : quiet (Sys.blockOf (r.barAddr 0 0 0)) = true)
    (hp : ∀ t, (∀ g x y, uncounted g = true → t.get g x y = (eff s).get g x y) → p t) : runs c s p :=
  runs_mirrored e (hp _ fun _ _ _ hg => (settle_get ..).trans ((mirror_get ..).trans (quietRow_get ht hi hb hg)))

/-- A command that the peer mirrors completes with the fields that its operation leaves. -/
theorem runs_fields {p : State → Prop} (e : exec c s = Access.doneMirrored s u) (hp : ∀ t, (∀ g x y, t.get g x y = u.get g x y) → p t) :
    runs c s p :=
  runs_mirrored e (hp _ fun _ _ _ => (settle_get ..).trans (mirror_get ..))

/-! ### COMMIT and ABORT (R81, R84, R95) -/

/-- A hub holds the downstream table in its transmitter, the upstream one in its receiver. -/
theorem bankOf_hub (h : s.leaf = false) : bankOf s 0 = txBank ∧ bankOf s 1 = rxBank := by
  rw [bankOf, bankOf, h]
  exact ⟨rfl, rfl⟩

theorem commit_starts (hleaf : s.leaf = false) (hidle : s.get (Scm.chState d) = 0) (hgrant : d = 1 → s.get F.SCM_GRANT_STAT_STATE = 0)
    (hgroups : d = 0 → Scm.groupsOk s (Scm.subcarriers s 0) (Scm.staged s 0) = true) :
    Scm.commit d s = Scm.start d (Scm.staged s d) 0 s := by
  have hbusy : ¬(s.get (Scm.chState d) ≠ 0 ∨ d = 1 ∧ s.get F.SCM_GRANT_STAT_STATE ≠ 0) := fun h =>
    h.elim (fun h => h hidle) fun h => h.2 (hgrant h.1)
  rw [Scm.commit, if_neg (by simp [hleaf]), if_neg hbusy, if_neg]
  simp only [Bool.and_eq_true, decide_eq_true_eq, Bool.not_eq_true', not_and, Bool.not_eq_false]
  exact hgroups

/-- What a commit that starts a change completes with. -/
theorem commit_runs {b : Bank} (e : exec c s = Access.doneMirrored s (Bus.row Bus.host .SCM_CHG_CTRL 0 0 dword (Scm.commit d) s))
    (ht : takes .SCM_CHG_CTRL s = true) (hd : d < 2) (hbank : bankOf s d = b) (hleaf : s.leaf = false) (hidle : s.get (Scm.chState d) = 0)
    (hgrant : d = 1 → s.get F.SCM_GRANT_STAT_STATE = 0)
    (hgroups : d = 0 → Scm.groupsOk s (Scm.subcarriers s 0) (Scm.staged s 0) = true) (hopen : s.on b.announced = false) (hk : k < 512) :
    runs c s (fun t => t.get H.SCM_LAST_VER d = Scm.nextVer (s.get H.SCM_LAST_VER d) ∧ t.get b.entries k = s.get (Scm.nextTab d) k ∧
      t.get b.version = Scm.nextVer (s.get H.SCM_LAST_VER d) ∧ t.get (Scm.chState d) = t.get b.ready ∧
      (t.on b.ready = false → t.on F.SCM_INT_CAUSE_CHG_FAIL = true)) := by
  subst hbank
  have hb := bankOf_mem s d
  obtain ⟨hentries, hversion, hready, hmem, hw⟩ := (by decide : ∀ b ∈ [txBank, rxBank], uncounted b.entries = true ∧
    uncounted b.version = true ∧ uncounted b.ready = true ∧ b.ready ∈ changeFields ∧ b.ready.width = 1) _ hb
  have hch := (by decide : ∀ g ∈ stateFields, uncounted g = true) _ (chState_mem d)
  have htab : (Scm.nextTab d).width = 32 := by
    unfold Scm.nextTab
    split <;> rfl
  have hentry : s.get (Scm.nextTab d) k % 2 ^ 32 = s.get (Scm.nextTab d) k := Nat.mod_eq_of_lt (htab ▸ State_get_lt s (Scm.nextTab d) k 0 0)
  obtain ⟨hstored, hver⟩ := start_bank (d := d) (entry := Scm.staged s d) (resend := 0) hopen hk
  obtain ⟨hstate, hfail⟩ := start_state d (Scm.staged s d) 0 s
  have hleaf' : (Scm.start d (Scm.staged s d) 0 s).leaf = s.leaf := by
    apply leaf_of_moves
    apply Scm_start_moves (h0 := trivial) (h := .refl) <;> rfl
  rw [ready_eq, bankOf_congr hleaf'] at hstate hfail
  refine quietRow_runs e ht (by decide) (by decide) fun t hget => ?_
  rw [commit_starts hleaf hidle hgrant hgroups] at hget
  refine ⟨?_, ?_, ?_, ?_, fun h => ?_⟩
  · rw [hget _ _ _ (by decide), start_version hd]
  · rw [hget _ _ _ hentries, hstored, Scm.staged, hentry]
  · rw [hget _ _ _ hversion, hver]
  · rw [hget _ _ _ hch, hget _ _ _ hready, hstate, get_of_on hw]
  · rw [on_congr (hget _ _ _ (by decide)), hfail ((on_congr (hget _ _ _ hready)).symm.trans h)]

/-- What ABORT of a change not announced completes with. -/
theorem abort_runs (e : exec c s = Access.doneMirrored s (Bus.row Bus.host .SCM_CHG_CTRL 0 0 dword (Scm.abort d) s))
    (ht : takes .SCM_CHG_CTRL s = true) (hleaf : s.leaf = false) (hchange : s.get (Scm.chState d) = 1) :
    runs c s (fun t => t.get (Scm.chState d) = 0) := by
  have hch := (by decide : ∀ g ∈ stateFields, uncounted g = true) _ (chState_mem d)
  have habort : Scm.abort d s = Scm.drop d s := by
    rw [Scm.abort, if_neg (by simp [hleaf]), hchange]
    rfl
  refine quietRow_runs e ht (by decide) (by decide) fun t hget => ?_
  rw [hget _ _ _ hch, habort, drop_state]

/-! ### LOAD_ANNOUNCE and LOAD_ACK_TMO (R81, R82) -/

theorem nextFrame_lt (s : State) : (Scm.nextFrame s).1 < 2 ^ 24 := by
  have hlt : s.get H.FRM_TX_MFN < 2 ^ 24 := State_get_lt ..
  unfold Scm.nextFrame
  split_ifs
  · decide
  · exact Nat.mod_lt _ (by decide)
  · exact hlt

theorem announceBank_eq (d mf : Nat) (s : State) :
    Scm.announceBank d mf s = ((s.set (bankOf s d).announced).set (bankOf s d).due).put (bankOf s d).swapMf mf := by
  unfold Scm.announceBank bankOf
  split <;> rfl

/-- The machine as a change is announced, before its bank is locked. -/
def announced (d : Nat) (s : State) : State := (s.put (Scm.chState d) 2).put H.SCM_M (Scm.nextFrame s).1 d

theorem announce_announces (hleaf : s.leaf = false) (hchange : s.get (Scm.chState d) = 1) (hready : Scm.ready s d = true)
    (hacked : Scm.failing s d = []) (htx : s.on F.FRM_CTRL_TX_EN = true) (hfn : (Scm.nextFrame s).2 = 0) :
    Scm.announce d s = Scm.announceBank d (((Scm.nextFrame s).1 + 4) % 2 ^ 24) (announced d s) := by
  rw [Scm.announce, if_pos (by simp [hleaf, hchange, hready, hacked, htx, hfn]), announced]

/-- LOAD_ANNOUNCE. -/
theorem loadAnnounce_runs {b : Bank} (hd : d < 2) (hbank : bankOf s d = b) (hleaf : s.leaf = false) (hchange : s.get (Scm.chState d) = 1)
    (hready : s.on b.ready = true) (hacked : Scm.failing s d = []) (htx : s.on F.FRM_CTRL_TX_EN = true) (hfn : (Scm.nextFrame s).2 = 0) :
    runs (.loadAnnounce d) s (fun t => t.get (Scm.chState d) = 2 ∧ t.on b.announced = true ∧ t.on b.due = true ∧
      t.get b.swapMf = ((Scm.nextFrame s).1 + 4) % 2 ^ 24 ∧ t.get H.SCM_M d = (Scm.nextFrame s).1) := by
  subst hbank
  have hb := bankOf_mem s d
  have hmem := chState_mem d
  obtain ⟨hstate, hrole, hlast⟩ := (by decide : ∀ g ∈ stateFields, (g.shape.has 0 0 0 = true ∧ 2 < 2 ^ g.width) ∧
    apart g F.SYS_ROLE_ROLE = true ∧ apart H.SCM_M g = true) _ hmem
  obtain ⟨⟨hann, hannw⟩, ⟨hdue, hduew⟩, ⟨hmf, hmfw⟩, hdueAnn, hmfAnn, hmfDue⟩ := (by decide : ∀ b ∈ [txBank, rxBank],
    (b.announced.shape.has 0 0 0 = true ∧ 0 < b.announced.width) ∧ (b.due.shape.has 0 0 0 = true ∧ 0 < b.due.width) ∧
    (b.swapMf.shape.has 0 0 0 = true ∧ b.swapMf.width = 24) ∧ apart b.due b.announced = true ∧ apart b.swapMf b.announced = true ∧
    apart b.swapMf b.due = true) _ hb
  have hkept (g : Machine.Field) (hg : g ∈ H.SCM_M :: stateFields) : apart (bankOf s d).announced g = true ∧
      apart (bankOf s d).due g = true ∧ apart (bankOf s d).swapMf g = true :=
    (by decide : ∀ b ∈ [txBank, rxBank], ∀ g ∈ H.SCM_M :: stateFields, apart b.announced g = true ∧ apart b.due g = true ∧
      apart b.swapMf g = true) _ hb g hg
  have hbank : bankOf (announced d s) d = bankOf s d := bankOf_congr (by
    rw [announced, State.leaf, get_put_ne (by decide), get_put_ne hrole, State.leaf])
  have hu : Scm.announce d s = (((announced d s).set (bankOf s d).announced).set (bankOf s d).due).put (bankOf s d).swapMf
      (((Scm.nextFrame s).1 + 4) % 2 ^ 24) := by
    rw [announce_announces hleaf hchange (ready_eq.trans hready) hacked htx hfn, announceBank_eq, hbank]
  refine runs_fields (congrArg (Access.doneMirrored s) hu) fun t hget => ⟨?_, ?_, ?_, ?_, ?_⟩
  · obtain ⟨h1, h2, h3⟩ := hkept _ (List.mem_cons_of_mem _ hmem)
    rw [hget, get_put_ne h3, get_set_ne h2, get_set_ne h1, announced, get_put_ne hlast, get_put_lt hstate.1 hstate.2]
  · rw [on_congr (hget ..), on_congr (get_put_ne hmfAnn), on_set_ne hdueAnn, on_set hann hannw]
  · rw [on_congr (hget ..), on_congr (get_put_ne hmfDue), on_set hdue hduew]
  · rw [hget, get_put_lt hmf]
    rw [hmfw]
    exact Nat.mod_lt _ (by decide)
  · obtain ⟨h1, h2, h3⟩ := hkept H.SCM_M (by simp)
    rw [hget, get_put_ne h3, get_set_ne h2, get_set_ne h1, announced, get_put_lt (has_row rfl hd) (nextFrame_lt s)]

theorem mem_failing (hl : l < 512) (haddr : s.on H.SCM_ADDRESSED d l = true) (hacked : s.on H.SCM_ACKED d l = false) :
    l ∈ Scm.failing s d := by
  simp [Scm.failing, Scm.addressed, hl, haddr, hacked]

/-- LOAD_ACK_TMO with a leaf that has not answered. -/
theorem loadAckTmo_runs (hl : l < 512) (haddr : s.on H.SCM_ADDRESSED d l = true) (hacked : s.on H.SCM_ACKED d l = false)
    (hchange : s.get (Scm.chState d) = 1) (hrun : s.on H.FRM_TX_RUN = true)
    (hlate : max 1 (s.get F.SCM_CHG_CFG_ACK_TMO) ≤ Scm.since s (s.get H.SCM_START_MF d)) :
    runs (.loadAckTmo d) s (fun t => t.get (Scm.chState d) = 0 ∧ t.on F.SCM_INT_CAUSE_CHG_FAIL = true ∧
      t.bit F.SCM_NAK_MAP_LEAF (l % 32) (l / 32) = true) := by
  have hmem := mem_failing hl haddr hacked
  have hu : Scm.ackTimeout d s = Scm.abandon d (Scm.failing s d) s := by
    have hsome : (Scm.failing s d).isEmpty = false := List.isEmpty_eq_false_iff.mpr (List.ne_nil_of_mem hmem)
    rw [Scm.ackTimeout]
    exact if_pos (by simp only [hchange, hrun, hsome, hlate, decide_true, beq_self_eq_true, Bool.not_false, Bool.and_self])
  refine runs_fields (congrArg (Access.doneMirrored s) hu) fun t hget => ⟨?_, ?_, ?_⟩
  · rw [hget, abandon_state]
  · rw [on_congr (hget ..), abandon_fails]
  · rw [bit_congr (hget ..), abandon_naks hmem hl]

end Sys2Proof.Proofs

/-! SUPPORT. The grant tables of a hub and of a leaf (O28; R111 to R113): freezing, announcing, exchanging and abandoning them. -/
namespace Sys2Proof.Proofs
open Sys2Proof Sys2Proof.Machine Sys2Proof.Laws

variable {s t u : State} {d g i j l m n p x y : Nat}

/-! ### Loops over rows and columns -/

theorem each_preserves {q : State → Prop} {round : Nat → State → State} (hs : q s) (h : ∀ i t, q t → q (round i t)) : q (s.each n round) :=
  eachOf_preserves (l := List.range n) hs fun i _ => h i

theorem each_each_preserves {q : State → Prop} {round : Nat → Nat → State → State} (hs : q s) (h : ∀ x y t, q t → q (round x y t)) :
    q (s.each m fun x t => t.each n (round x)) :=
  each_preserves hs fun x _ hx => each_preserves hx fun y u hu => h x y u hu

/-- What one round of a loop over rows and columns makes of what holds before it, and what the other rounds keep. -/
theorem each_each_reaches {p q : State → Prop} {round : Nat → Nat → State → State} (hi : i < m) (hj : j < n) (hs : p s)
    (hbefore : ∀ x y t, p t → p (round x y t)) (hown : ∀ t, p t → q (round i j t))
    (hafter : ∀ x y t, (x = i → y ≠ j) → q t → q (round x y t)) : q (s.each m fun x t => t.each n (round x)) := by
  refine each_reaches hi hs (fun x t _ h => each_preserves h fun y u hu => hbefore x y u hu) (fun t h => ?_)
    fun x t hx h => each_preserves h fun y u hu => hafter x y u (fun he => absurd he hx) hu
  exact each_reaches hj h (fun y u _ hu => hbefore i y u hu) hown fun y u hy hu => hafter i y u (fun _ => hy) hu

/-! ### GRANT_COMMIT (R111, R112) -/

/-- The fields of GRANT_NEXT. -/
def nextFields : List Machine.Field :=
  [F.SCM_GRANT_NEXT_LEAF_E, F.SCM_GRANT_NEXT_VAL_E, F.SCM_GRANT_NEXT_LEAF_O, F.SCM_GRANT_NEXT_VAL_O]

/-- The sum of the values of a list of four. -/
theorem foldl_four {α : Type} (w : α → Nat) (a b c d : α) : [a, b, c, d].foldl (fun n f => n + w f) 0 = w a + w b + w c + w d := by
  simp only [List.foldl_cons, List.foldl_nil, Nat.zero_add]

/-- A field's part of the dword GRANT_NEXT[g][p]. -/
def nextPart (s : State) (g p : Nat) (f : Machine.Field) : Nat := s.get f g p * 2 ^ f.lo

theorem nextWord_eq (s : State) (g p : Nat) : Scm.nextWord s g p = nextPart s g p F.SCM_GRANT_NEXT_LEAF_E +
    nextPart s g p F.SCM_GRANT_NEXT_VAL_E + nextPart s g p F.SCM_GRANT_NEXT_LEAF_O + nextPart s g p F.SCM_GRANT_NEXT_VAL_O := by
  have hfields : RegId.SCM_GRANT_NEXT.fields = nextFields := rfl
  rw [Scm.nextWord, State.word, hfields]
  exact foldl_four (nextPart s g p) _ _ _ _

theorem nextPart_le (s : State) (g p : Nat) {f : Machine.Field} {lo w : Nat} (hlo : f.lo = lo) (hw : f.width = w) :
    nextPart s g p f ≤ (2 ^ w - 1) * 2 ^ lo := by
  rw [nextPart, hlo, ← hw]
  exact Nat.mul_le_mul_right _ (Nat.le_sub_one_of_lt (State_get_lt ..))

theorem nextWord_lt (s : State) (g p : Nat) : Scm.nextWord s g p < 2 ^ 26 := by
  have h1 := nextPart_le s g p (f := F.SCM_GRANT_NEXT_LEAF_E) (lo := 0) (w := 9) rfl rfl
  have h2 := nextPart_le s g p (f := F.SCM_GRANT_NEXT_VAL_E) (lo := 9) (w := 1) rfl rfl
  have h3 := nextPart_le s g p (f := F.SCM_GRANT_NEXT_LEAF_O) (lo := 16) (w := 9) rfl rfl
  have h4 := nextPart_le s g p (f := F.SCM_GRANT_NEXT_VAL_O) (lo := 25) (w := 1) rfl rfl
  rw [nextWord_eq]
  norm_num at h1 h2 h3 h4 ⊢
  omega

/-- The staged grants are those of `s`. -/
def sameNext (s t : State) : Prop := ∀ f ∈ nextFields, ∀ x y, t.get f x y = s.get f x y

theorem nextWord_congr (h : sameNext s t) : Scm.nextWord t g p = Scm.nextWord s g p := by
  have hpart {f : Machine.Field} (hf : f ∈ nextFields) : nextPart t g p f = nextPart s g p f := by rw [nextPart, h f hf, nextPart]
  rw [nextWord_eq, nextWord_eq, hpart (by decide), hpart (by decide), hpart (by decide), hpart (by decide)]

/-- An element of the staged table is frozen. -/
def freeze (g p : Nat) (t : State) : State := t.put H.SCM_GRANT_SNAP (Scm.nextWord t g p) g p

theorem frozen (hg : g < 64) (hp : p < 32) (s : State) :
    (s.each 64 fun x t => t.each 32 (freeze x)).get H.SCM_GRANT_SNAP g p = Scm.nextWord s g p := by
  refine each_each_reaches (m := 64) (n := 32) (p := sameNext s) (q := fun t => t.get H.SCM_GRANT_SNAP g p = Scm.nextWord s g p) hg hp
    (fun _ _ _ _ => rfl) (fun x y t h f hf a b => ?_) (fun t h => ?_) fun x y t hxy h => ?_
  · rw [freeze, get_put_ne ((by decide : ∀ f ∈ nextFields, apart H.SCM_GRANT_SNAP f = true) f hf), h f hf]
  · rw [freeze, get_put_lt (has_cell rfl hg hp) (nextWord_lt t g p), nextWord_congr h]
  · rw [← h, freeze, State_get_put_index _ _ _ _ _ _ _ _ _ (by decide), if_neg fun hc => hxy hc.2.1 hc.2.2.1]

/-- The machine as a grant change has its version. -/
def grantOpened (s : State) : State :=
  ((s.put H.SCM_GRANT_LAST (Scm.nextVer (s.get H.SCM_GRANT_LAST))).put F.SCM_GRANT_STAT_STATE 1).put H.SCM_GRANT_START (s.get H.SCM_MF)

/-- What is seen of a grant change. -/
def grantFields : List Machine.Field := [H.SCM_GRANT_LAST, F.SCM_GRANT_STAT_STATE, H.SCM_GRANT_SNAP]

theorem grantCommit_moves (hleaf : s.leaf = false) (hstat : s.get F.SCM_GRANT_STAT_STATE = 0) (hchange : s.get F.SCM_CHG_STAT_US_STATE = 0)
    (hok : Scm.grantOk s = true) :
    Moves (Sparing grantFields) ((grantOpened s).each 64 fun x t => t.each 32 (freeze x)) (Scm.grantCommit s) := by
  rw [Scm.grantCommit, if_neg (by simp [hleaf]), if_neg (by simp [hstat, hchange]), if_neg (by simp [hok])]
  refine .eachOf _ (.each 512 .refl fun l t h => .clr _ _ _ rfl (.clr _ _ _ rfl h)) fun l t h => ?_
  exact Vlk_toLeaf_moves (W := Sparing grantFields) rfl rfl _ _ _ _ _ (.set _ _ _ rfl h)

/-- GRANT_COMMIT of a valid table with nothing in flight. -/
theorem grantCommit_runs (ht : takes .SCM_GRANT_CTRL s = true) (hleaf : s.leaf = false) (hstat : s.get F.SCM_GRANT_STAT_STATE = 0)
    (hchange : s.get F.SCM_CHG_STAT_US_STATE = 0) (hok : Scm.grantOk s = true) (hg : g < 64) (hp : p < 32) :
    runs .grantCommit s (fun t => t.get F.SCM_GRANT_STAT_STATE = 1 ∧
      t.get H.SCM_GRANT_LAST = Scm.nextVer (s.get H.SCM_GRANT_LAST) ∧ t.get H.SCM_GRANT_SNAP g p = Scm.nextWord s g p) := by
  have hmoves := grantCommit_moves hleaf hstat hchange hok
  have hkept {f : Machine.Field} (hf : apart H.SCM_GRANT_SNAP f = true) :
      ((grantOpened s).each 64 fun x t => t.each 32 (freeze x)).get f = (grantOpened s).get f :=
    each_each_preserves (m := 64) (n := 32) (q := fun t => t.get f = (grantOpened s).get f) rfl fun _ _ _ hu => (get_put_ne hf).trans hu
  have hnext : sameNext s (grantOpened s) := fun f hf x y => by
    obtain ⟨hlast, hstate, hstart⟩ := (by decide : ∀ f ∈ nextFields, apart H.SCM_GRANT_LAST f = true ∧
      apart F.SCM_GRANT_STAT_STATE f = true ∧ apart H.SCM_GRANT_START f = true) f hf
    rw [grantOpened, get_put_ne hstart, get_put_ne hstate, get_put_ne hlast]
  refine quietRow_runs rfl ht (by decide) (by decide) fun t hget => ⟨?_, ?_, ?_⟩
  · rw [hget _ _ _ (by decide), get_of_sparing hmoves (by decide), hkept (by decide), grantOpened, get_put_ne (by decide),
      get_put_lt (by decide) (by decide)]
  · rw [hget _ _ _ (by decide), get_of_sparing hmoves (by decide), hkept (by decide), grantOpened, get_put_ne (by decide),
      get_put_ne (by decide), get_put_lt (by decide) (nextVer_lt _)]
  · rw [hget _ _ _ (by decide), get_of_sparing hmoves (by decide), frozen hg hp, nextWord_congr hnext]

/-! ### GRANT_ABORT, GRANT_ANNOUNCE and GRANT_ACK_TMO (R112, R113) -/

theorem grantEnd_state : (Scm.grantEnd s).get F.SCM_GRANT_STAT_STATE = 0 := get_clr

/-- GRANT_ABORT of a change not announced. -/
theorem grantAbort_runs (ht : takes .SCM_GRANT_CTRL s = true) (hleaf : s.leaf = false) (hstat : s.get F.SCM_GRANT_STAT_STATE = 1) :
    runs .grantAbort s (fun t => t.get F.SCM_GRANT_STAT_STATE = 0) := by
  have habort : Scm.grantAbort s = Scm.grantEnd s := by
    rw [Scm.grantAbort, if_neg (by simp [hleaf]), hstat]
    rfl
  refine quietRow_runs rfl ht (by decide) (by decide) fun t hget => ?_
  rw [hget _ _ _ (by decide), habort, grantEnd_state]

/-- GRANT_ANNOUNCE. -/
theorem grantAnnounce_runs (hleaf : s.leaf = false) (hstat : s.get F.SCM_GRANT_STAT_STATE = 1) (hacked : Scm.grantFailing s = [])
    (htx : s.on F.FRM_CTRL_TX_EN = true) (hfn : (Scm.nextFrame s).2 = 0) :
    runs .grantAnnounce s (fun t => t.get F.SCM_GRANT_STAT_STATE = 2 ∧ t.get H.SCM_GRANT_M = (Scm.nextFrame s).1) := by
  have hu : Scm.grantAnnounce s = (s.put F.SCM_GRANT_STAT_STATE 2).put H.SCM_GRANT_M (Scm.nextFrame s).1 := by
    rw [Scm.grantAnnounce, if_pos (by simp [hleaf, hstat, hacked, htx, hfn])]
  refine runs_fields (congrArg (Access.doneMirrored s) hu) fun t hget => ⟨?_, ?_⟩
  · rw [hget, get_put_ne (by decide), get_put_lt (by decide) (by decide)]
  · rw [hget, get_put_lt (by decide) (nextFrame_lt s)]

theorem mem_grantFailing (hl : l < 512) (haddr : s.on H.SCM_GRANT_ADDR l = true) (hacked : s.on H.SCM_GRANT_ACKED l = false) :
    l ∈ Scm.grantFailing s := by simp [Scm.grantFailing, hl, haddr, hacked]

/-- GRANT_ACK_TMO with a leaf that has not answered. -/
theorem grantAckTmo_runs (hl : l < 512) (haddr : s.on H.SCM_GRANT_ADDR l = true) (hacked : s.on H.SCM_GRANT_ACKED l = false)
    (hstat : s.get F.SCM_GRANT_STAT_STATE = 1) (hrun : s.on H.FRM_TX_RUN = true)
    (hlate : max 1 (s.get F.SCM_CHG_CFG_ACK_TMO) ≤ Scm.since s (s.get H.SCM_GRANT_START)) :
    runs .grantAckTmo s (fun t => t.get F.SCM_GRANT_STAT_STATE = 0 ∧ t.on F.SCM_INT_CAUSE_CHG_FAIL = true ∧
      t.on F.VLK_INT_CAUSE_GRANT_FAIL = true ∧ t.bit F.SCM_NAK_MAP_LEAF (l % 32) (l / 32) = true) := by
  have hmem := mem_grantFailing hl haddr hacked
  have hu : Scm.grantTimeout s = Scm.grantAbandon (Scm.grantFailing s) s := by
    have hsome : (Scm.grantFailing s).isEmpty = false := List.isEmpty_eq_false_iff.mpr (List.ne_nil_of_mem hmem)
    rw [Scm.grantTimeout]
    exact if_pos (by simp only [hstat, hrun, hsome, hlate, decide_true, beq_self_eq_true, Bool.not_false, Bool.and_self])
  obtain ⟨hfail, hgrant⟩ := grantAbandon_fails (s := s) (leaves := Scm.grantFailing s)
  refine runs_fields (congrArg (Access.doneMirrored s) hu) fun t hget => ⟨?_, ?_, ?_, ?_⟩
  · rw [hget, grantAbandon_state]
  · rw [on_congr (hget ..), hfail]
  · rw [on_congr (hget ..), hgrant]
  · rw [bit_congr (hget ..), grantAbandon_naks hmem hl]

/-! ### GRANT_SWAP (R112) -/

/-- The frozen element (g, p) enters the active table. -/
def activate (g p : Nat) (u : State) : State :=
  let w := u.get H.SCM_GRANT_SNAP g p
  (((u.put F.SCM_GRANT_ACT_LEAF_E (slice w 0 9) g p).put F.SCM_GRANT_ACT_VAL_E (slice w 9 1) g p).put
    F.SCM_GRANT_ACT_LEAF_O (slice w 16 9) g p).put F.SCM_GRANT_ACT_VAL_O (slice w 25 1) g p

/-- Element (g, p) of the active table. -/
def activeAt (g p : Nat) (t : State) : Nat × Nat × Nat × Nat :=
  (t.get F.SCM_GRANT_ACT_LEAF_E g p, t.get F.SCM_GRANT_ACT_VAL_E g p, t.get F.SCM_GRANT_ACT_LEAF_O g p, t.get F.SCM_GRANT_ACT_VAL_O g p)

/-- A frozen element as an element of the active table. -/
def splitWord (w : Nat) : Nat × Nat × Nat × Nat := (slice w 0 9, slice w 9 1, slice w 16 9, slice w 25 1)

theorem activeAt_activate (hg : g < 64) (hp : p < 32) : activeAt g p (activate g p t) = splitWord (t.get H.SCM_GRANT_SNAP g p) := by
  have hfit (w a b : Nat) : slice w a b < 2 ^ b := Nat.mod_lt _ (Nat.two_pow_pos b)
  simp only [activeAt, activate, splitWord, Prod.mk.injEq]
  simp (disch := decide) only [get_put_ne]
  exact ⟨get_put_lt (has_cell rfl hg hp) (hfit _ 0 9), get_put_lt (has_cell rfl hg hp) (hfit _ 9 1),
    get_put_lt (has_cell rfl hg hp) (hfit _ 16 9), get_put_lt (has_cell rfl hg hp) (hfit _ 25 1)⟩

theorem activeAt_activate_other (h : x = g → y ≠ p) : activeAt g p (activate x y t) = activeAt g p t := by
  have hother {f : Machine.Field} {v : Nat} {u : State} (hf : Field.plain f = true) : (u.put f v x y).get f g p = u.get f g p := by
    rw [State_get_put_index _ _ _ _ _ _ _ _ _ hf, if_neg fun hc => h hc.2.1 hc.2.2.1]
  simp (disch := decide) only [activeAt, activate, get_put_ne, hother]

theorem activated (hg : g < 64) (hp : p < 32) (s : State) :
    activeAt g p (s.each 64 fun x t => t.each 32 (activate x)) = splitWord (s.get H.SCM_GRANT_SNAP g p) := by
  refine each_each_reaches (m := 64) (n := 32) (p := fun t => t.get H.SCM_GRANT_SNAP g p = s.get H.SCM_GRANT_SNAP g p)
    (q := fun t => activeAt g p t = splitWord (s.get H.SCM_GRANT_SNAP g p)) hg hp rfl (fun x y t h => ?_) (fun t h => ?_) fun x y t hxy h => ?_
  · simp (disch := decide) only [activate, get_put_ne, h]
  · rw [activeAt_activate hg hp, h]
  · rw [activeAt_activate_other hxy, h]

/-- The fields of the active grant table and of the change. -/
def swapFields : List Machine.Field :=
  [F.SCM_GRANT_ACT_LEAF_E, F.SCM_GRANT_ACT_VAL_E, F.SCM_GRANT_ACT_LEAF_O, F.SCM_GRANT_ACT_VAL_O, F.SCM_GRANT_STAT_STATE,
   F.SCM_GRANT_STAT_VER, F.VLK_INT_CAUSE_GRANT_SWAP]

/-- The machine as the tables have been exchanged, before the tap sets are freed. -/
def grantSwapped (s : State) : State :=
  let t := s.each 64 fun x t => t.each 32 (activate x)
  (Scm.grantEnd (t.put F.SCM_GRANT_STAT_VER (t.get H.SCM_GRANT_LAST))).set F.VLK_INT_CAUSE_GRANT_SWAP

theorem grantSwap_swaps (hstat : s.get F.SCM_GRANT_STAT_STATE = 2) (hat : Scm.atMultiframe s ((s.get H.SCM_GRANT_M + 4) % 2 ^ 24) = true) :
    Scm.grantSwap s = Lrx.freeSets (grantSwapped s) := by
  rw [Scm.grantSwap, if_pos (by simp only [hstat, hat, beq_self_eq_true, Bool.and_self])]
  rfl

theorem grantEnd_get {f : Machine.Field} (hf : (apart F.SCM_GRANT_STAT_STATE f && apart H.SCM_GRANT_ADDR f && apart H.SCM_GRANT_ACKED f) = true) :
    (Scm.grantEnd s).get f i j = s.get f i j := by
  simp only [Bool.and_eq_true] at hf
  exact (Scm_grantEnd_moves (W := Misses f) hf.1.1 hf.2 hf.1.2 .refl).get_misses

theorem activated_last : (s.each 64 fun x t => t.each 32 (activate x)).get H.SCM_GRANT_LAST = s.get H.SCM_GRANT_LAST := by
  refine each_each_preserves (m := 64) (n := 32) (q := fun t => t.get H.SCM_GRANT_LAST = s.get H.SCM_GRANT_LAST) rfl fun x y u hu => ?_
  simp (disch := decide) only [activate, get_put_ne, hu]

/-- GRANT_SWAP of a hub at M + 4. -/
theorem grantSwap_hub_runs (hleaf : s.leaf = false) (hstat : s.get F.SCM_GRANT_STAT_STATE = 2)
    (hat : Scm.atMultiframe s ((s.get H.SCM_GRANT_M + 4) % 2 ^ 24) = true) (hg : g < 64) (hp : p < 32) :
    runs .grantSwap s (fun t => activeAt g p t = splitWord (s.get H.SCM_GRANT_SNAP g p) ∧ t.get F.SCM_GRANT_STAT_STATE = 0 ∧
      t.get F.SCM_GRANT_STAT_VER = s.get H.SCM_GRANT_LAST ∧ t.on F.VLK_INT_CAUSE_GRANT_SWAP = true) := by
  have hu : (if s.leaf then Vlk.grantSwapLeaf (s.get H.FRM_TX_MFN) s else Scm.grantSwap s) = Lrx.freeSets (grantSwapped s) :=
    (if_neg (by simp [hleaf])).trans (grantSwap_swaps hstat hat)
  have hfree {f : Machine.Field} {i j : Nat} (hf : f ∈ swapFields) : (Lrx.freeSets (grantSwapped s)).get f i j = (grantSwapped s).get f i j :=
    get_of_sparing (Lrx_freeSets_moves (W := Sparing swapFields) rfl .refl) hf
  refine runs_fields (congrArg (Access.doneMirrored s) hu) fun t hget => ⟨?_, ?_, ?_, ?_⟩
  · rw [← activated hg hp s]
    simp (disch := decide) only [activeAt, hget, hfree]
    simp (disch := decide) only [grantSwapped, get_set_ne, grantEnd_get, get_put_ne]
  · rw [hget, hfree (by decide), grantSwapped, get_set_ne (by decide), grantEnd_state]
  · rw [hget, hfree (by decide), grantSwapped, get_set_ne (by decide), grantEnd_get (by decide), get_put_get (by decide) (by decide),
      activated_last]
  · rw [on_congr (hget ..), on_congr (hfree (by decide)), grantSwapped, on_set (by decide) (by decide)]

/-- The grants of row g, and its subcarrier, of the active and of the shadow table. -/
def rowPairs (g : Nat) (t : State) : (Nat × Nat) × (Nat × Nat) × (Nat × Nat) :=
  (pairAt H.VLK_G_ACT H.VLK_G_SHADOW g 0 t, pairAt H.VLK_G_ACT H.VLK_G_SHADOW g 1 t, pairAt H.VLK_G_SC_ACT H.VLK_G_SC_SHADOW g 0 t)

/-- The row with active and shadow exchanged. -/
def rowSwap (w : (Nat × Nat) × (Nat × Nat) × (Nat × Nat)) : (Nat × Nat) × (Nat × Nat) × (Nat × Nat) := (w.1.swap, w.2.1.swap, w.2.2.swap)

/-- One row of a leaf's exchange. -/
def exchangeRow (g : Nat) (t : State) : State :=
  exchange H.VLK_G_SC_ACT H.VLK_G_SC_SHADOW g 0 (exchange H.VLK_G_ACT H.VLK_G_SHADOW g 1 (exchange H.VLK_G_ACT H.VLK_G_SHADOW g 0 t))

theorem pairAt_exchange_apart {a b f h : Machine.Field} (hfa : apart a f = true) (hfb : apart b f = true) (hha : apart a h = true)
    (hhb : apart b h = true) : pairAt f h i j (exchange a b x y s) = pairAt f h i j s := by
  simp only [pairAt, exchange, get_put_ne hfa, get_put_ne hfb, get_put_ne hha, get_put_ne hhb]

theorem rowPairs_exchange (hg : g < 64) : rowPairs g (exchangeRow g t) = rowSwap (rowPairs g t) := by
  simp only [rowPairs, rowSwap, exchangeRow, Prod.mk.injEq]
  refine ⟨?_, ?_, ?_⟩
  · rw [pairAt_exchange_apart (by decide) (by decide) (by decide) (by decide), pairAt_exchange_other (by decide) (fun _ => by decide),
      pairAt_exchange (by decide) (has_cell rfl hg (by decide)) (has_cell rfl hg (by decide))]
  · rw [pairAt_exchange_apart (by decide) (by decide) (by decide) (by decide),
      pairAt_exchange (by decide) (has_cell rfl hg (by decide)) (has_cell rfl hg (by decide)),
      pairAt_exchange_other (by decide) (fun _ => by decide)]
  · rw [pairAt_exchange (by decide) (has_row rfl hg) (has_row rfl hg), pairAt_exchange_apart (by decide) (by decide) (by decide) (by decide),
      pairAt_exchange_apart (by decide) (by decide) (by decide) (by decide)]

theorem rowPairs_exchange_other (h : x ≠ g) : rowPairs g (exchangeRow x t) = rowPairs g t := by
  have hne {a b : Machine.Field} {j y : Nat} {u : State} (htwins : twins a b = true) : pairAt a b g j (exchange a b x y u) = pairAt a b g j u :=
    pairAt_exchange_other htwins fun he => absurd he h
  simp (disch := decide) only [rowPairs, exchangeRow, hne, pairAt_exchange_apart]

theorem grantSwapLeaf_swaps {mfn : Nat} (hswap : s.on H.VLK_G_SWAP = true) (hmf : Scm.mfSince mfn (s.get H.VLK_G_SWAP_MF) < 2 ^ 23) :
    Vlk.grantSwapLeaf mfn s = ((((s.each 64 exchangeRow).put H.VLK_G_ACT_VER ((s.each 64 exchangeRow).get H.VLK_G_SHADOW_VER)).put
      H.VLK_G_SHADOW_VER ((s.each 64 exchangeRow).get H.VLK_G_ACT_VER)).clr H.VLK_G_SWAP).set F.VLK_INT_CAUSE_GRANT_SWAP :=
  if_pos (by simp only [hswap, hmf, decide_true, Bool.and_self])

/-- GRANT_SWAP of a leaf. -/
theorem grantSwap_leaf_runs (hleaf : s.leaf = true) (hswap : s.on H.VLK_G_SWAP = true)
    (hmf : Scm.mfSince (s.get H.FRM_TX_MFN) (s.get H.VLK_G_SWAP_MF) < 2 ^ 23) (hg : g < 64) :
    runs .grantSwap s (fun t => t.get H.VLK_G_ACT g 0 = s.get H.VLK_G_SHADOW g 0 ∧ t.get H.VLK_G_ACT g 1 = s.get H.VLK_G_SHADOW g 1 ∧
      t.get H.VLK_G_SC_ACT g 0 = s.get H.VLK_G_SC_SHADOW g 0 ∧ t.get H.VLK_G_ACT_VER = s.get H.VLK_G_SHADOW_VER ∧
      t.on H.VLK_G_SWAP = false ∧ t.on F.VLK_INT_CAUSE_GRANT_SWAP = true) := by
  have hrow : rowPairs g (s.each 64 exchangeRow) = rowSwap (rowPairs g s) :=
    each_changes_once hg (fun _ => rowPairs_exchange hg) fun _ _ hx => rowPairs_exchange_other hx
  have hver : (s.each 64 exchangeRow).get H.VLK_G_SHADOW_VER = s.get H.VLK_G_SHADOW_VER :=
    each_keeps (obs := fun t => t.get H.VLK_G_SHADOW_VER) 64 fun x t _ => by simp (disch := decide) only [exchangeRow, exchange, get_put_ne]
  have hu := (if_pos hleaf : (if s.leaf then Vlk.grantSwapLeaf (s.get H.FRM_TX_MFN) s else Scm.grantSwap s) = _).trans
    (grantSwapLeaf_swaps hswap hmf)
  generalize s.each 64 exchangeRow = u at hrow hver hu
  simp only [rowPairs, rowSwap, pairAt, Prod.swap, Prod.mk.injEq] at hrow
  obtain ⟨⟨hlow, -⟩, ⟨hhigh, -⟩, ⟨hsc, -⟩⟩ := hrow
  refine runs_fields (congrArg (Access.doneMirrored s) hu) fun t hget => ⟨?_, ?_, ?_, ?_, ?_, ?_⟩
  · rw [← hlow, hget]
    simp (disch := decide) only [get_set_ne, get_clr_ne, get_put_ne]
  · rw [← hhigh, hget]
    simp (disch := decide) only [get_set_ne, get_clr_ne, get_put_ne]
  · rw [← hsc, hget]
    simp (disch := decide) only [get_set_ne, get_clr_ne, get_put_ne]
  · rw [hget, get_set_ne (by decide), get_clr_ne (by decide), get_put_ne (by decide), get_put_get (by decide) (by decide), hver]
  · rw [on_congr (hget ..), on_set_ne (by decide), on_clr]
  · rw [on_congr (hget ..), on_set (by decide) (by decide)]

end Sys2Proof.Proofs

/-! SUPPORT. FEC.CFG and the codewords of the SD-FEC (R85, R90 to R92, R100), and the results of the loading commands (O28). -/
namespace Sys2Proof.Proofs
open Sys2Proof Sys2Proof.Machine Sys2Proof.Laws

variable {s t : State} {f g : Machine.Field} {bits i iter j k l rows v : Nat} {ok : Bool} {start : State → State}

/-! ### FEC.CFG (R85, R90) -/

/-- The fields of FEC.CFG and the enables that lock them. -/
def cfgFields : List Machine.Field :=
  [F.FEC_CFG_RATE_TX, F.FEC_CFG_RATE_RX, F.FEC_CFG_ITER_MAX, F.FEC_CFG_ET_EN, F.LTX_CTRL_EN, F.LRX_CTRL_EN]

/-- A rate that is not reserved is taken while its direction is off. -/
theorem writeRate_own (hv : v ≠ 3) (hf : f.shape.has 0 0 0 = true) (hlt : v < 2 ^ f.width) (hstart : ∀ t, (start t).get f = t.get f) :
    (Fec.writeRate f false v start s).get f = v := by
  unfold Fec.writeRate
  split
  next h => exact h.symm
  next => rw [if_neg (by simp [hv]), hstart, get_put_lt hf hlt]

/-- It writes no other field than its start does. -/
theorem writeRate_get (hv : v ≠ 3) (hg : apart f g = true) (hstart : ∀ t, (start t).get g = t.get g) :
    (Fec.writeRate f false v start s).get g = s.get g := by
  unfold Fec.writeRate
  split
  next => rfl
  next =>
    rw [if_neg (by simp [hv]), hstart, get_put_ne hg]

/-- The streams that the transmit rate starts. -/
def startTxAll (s : State) : State := s.each 512 Fec.startTx

theorem startTxAll_get (hg : g ∈ cfgFields) (t : State) : (startTxAll t).get g = t.get g := by
  exact get_of_sparing (.each 512 .refl fun k u h => Fec_startTx_moves (W := Sparing cfgFields) rfl rfl k h) hg

theorem startRxAll_get (hg : g ∈ cfgFields) (t : State) : (Fec.startRxAll t).get g = t.get g := by
  exact get_of_sparing (Fec_startRxAll_moves (W := Sparing cfgFields) rfl rfl rfl rfl rfl rfl .refl) hg

/-- The two rates that a dword writes while both directions are off. -/
def ratesWritten (v : Nat) (s : State) : State :=
  Fec.writeRate F.FEC_CFG_RATE_RX false (slice v 2 2) Fec.startRxAll
    (Fec.writeRate F.FEC_CFG_RATE_TX false (slice v 0 2) startTxAll s)

/-- ITER_MAX as a write gives it while the receiver is off. -/
def iterWritten (it : Nat) (s : State) : State := if it = s.get F.FEC_CFG_ITER_MAX then s else s.put F.FEC_CFG_ITER_MAX it

theorem iterWritten_own (h : v < 32) : (iterWritten v s).get F.FEC_CFG_ITER_MAX = v := by
  unfold iterWritten
  split
  next he => exact he.symm
  next => exact get_put_lt (by decide) h

theorem iterWritten_get (hg : apart F.FEC_CFG_ITER_MAX g = true) : (iterWritten v s).get g = s.get g := by
  unfold iterWritten
  split
  next => rfl
  next => exact get_put_ne hg

/-- What else the rates leave: every field of the list that is neither of them. -/
theorem ratesWritten_get (htx : slice v 0 2 ≠ 3) (hrx : slice v 2 2 ≠ 3) (hg : g ∈ cfgFields) (hgtx : apart F.FEC_CFG_RATE_TX g = true)
    (hgrx : apart F.FEC_CFG_RATE_RX g = true) : (ratesWritten v s).get g = s.get g := by
  rw [ratesWritten, writeRate_get hrx hgrx (startRxAll_get hg), writeRate_get htx hgtx (startTxAll_get hg)]

theorem writeCfg_eq (htx : s.on F.LTX_CTRL_EN = false) (hrx : s.on F.LRX_CTRL_EN = false) (hvtx : slice v 0 2 ≠ 3) (hvrx : slice v 2 2 ≠ 3) :
    Fec.writeCfg v s = (iterWritten (max 6 (min 18 (slice v 4 5))) (ratesWritten v s)).put F.FEC_CFG_ET_EN (slice v 9 1) := by
  have hrx' : (Fec.writeRate F.FEC_CFG_RATE_TX false (slice v 0 2) startTxAll s).on F.LRX_CTRL_EN = false := by
    rw [on_congr (writeRate_get hvtx (by decide) (startTxAll_get (by decide))), hrx]
  have hoff : (ratesWritten v s).on F.LRX_CTRL_EN = false := by
    rw [on_congr (ratesWritten_get hvtx hvrx (by decide) (by decide) (by decide)), hrx]
  have hrates : Fec.writeRate F.FEC_CFG_RATE_RX ((Fec.writeRate F.FEC_CFG_RATE_TX (s.on F.LTX_CTRL_EN) (slice v 0 2) startTxAll s).on
      F.LRX_CTRL_EN) (slice v 2 2) Fec.startRxAll (Fec.writeRate F.FEC_CFG_RATE_TX (s.on F.LTX_CTRL_EN) (slice v 0 2) startTxAll s) =
      ratesWritten v s := by rw [htx, hrx', ratesWritten]
  have hiter (it : Nat) : (if it = (ratesWritten v s).get F.FEC_CFG_ITER_MAX then ratesWritten v s
      else if (ratesWritten v s).on F.LRX_CTRL_EN = true then (ratesWritten v s).set F.FEC_INT_CAUSE_CFG_ERR
      else (ratesWritten v s).put F.FEC_CFG_ITER_MAX it) = iterWritten it (ratesWritten v s) := by
    rw [hoff]
    rfl
  rw [← atMost_eq_min, ← hiter, ← hrates]
  rfl

/-- FEC_CFG_WRITE while both directions are off. -/
theorem fecCfgWrite_runs (ht : takes .FEC_CFG s = true) (htx : s.on F.LTX_CTRL_EN = false) (hrx : s.on F.LRX_CTRL_EN = false)
    (hvtx : slice v 0 2 ≠ 3) (hvrx : slice v 2 2 ≠ 3) :
    runs (.fecCfgWrite v) s (fun t => t.get F.FEC_CFG_RATE_TX = slice v 0 2 ∧ t.get F.FEC_CFG_RATE_RX = slice v 2 2 ∧
      t.get F.FEC_CFG_ITER_MAX = max 6 (min 18 (slice v 4 5)) ∧ t.get F.FEC_CFG_ET_EN = slice v 9 1) := by
  have hfit (a b : Nat) : slice v a b < 2 ^ b := Nat.mod_lt _ (Nat.two_pow_pos b)
  have hget {g : Machine.Field} (hg : uncounted g = true) : (settle s (Bus.row Bus.host .FEC_CFG 0 0 (fun _ => v) (Fec.writeCfg v) s)).get g =
      ((iterWritten (max 6 (min 18 (slice v 4 5))) (ratesWritten v s)).put F.FEC_CFG_ET_EN (slice v 9 1)).get g := by
    rw [settle_get, quietRow_get ht (by decide) (by decide) hg, writeCfg_eq htx hrx hvtx hvrx]
  refine runs_done rfl ⟨?_, ?_, ?_, ?_⟩
  · rw [hget (by decide), get_put_ne (by decide), iterWritten_get (by decide), ratesWritten,
      writeRate_get hvrx (by decide) (startRxAll_get (by decide)),
      writeRate_own hvtx (by decide) (hfit 0 2) fun t => by rw [startTxAll_get (by decide)]]
  · rw [hget (by decide), get_put_ne (by decide), iterWritten_get (by decide), ratesWritten,
      writeRate_own hvrx (by decide) (hfit 2 2) fun t => by rw [startRxAll_get (by decide)]]
  · rw [hget (by decide), get_put_ne (by decide), iterWritten_own (by omega)]
  · rw [hget (by decide), get_put_lt (by decide) (hfit 9 1)]

/-! ### CODEWORD_DECODE (R91, R92, R100) -/

/-- The live counters of the decoder. -/
def liveFields : List Machine.Field :=
  [H.FEC_LIVE_CW, H.FEC_LIVE_CBITS, H.FEC_LIVE_LDPC, H.FEC_LIVE_ROWS, H.FEC_LIVE_INVAL, H.FEC_LIVE_HIST]

/-- The iterations of a codeword. -/
def iterations (iter : Nat) (s : State) : Nat :=
  if s.on F.FEC_CFG_ET_EN then min (s.get F.FEC_CFG_ITER_MAX) iter else s.get F.FEC_CFG_ITER_MAX

/-- A codeword with rows left, or of a leaf that arrives too far off, marks its bits errored. -/
def rowsMarked (k l rows : Nat) (s : State) : State := if 0 < rows || (Fec.slotted s k && Fec.late s l) then Fec.mark k s else s

/-- The iterations as a sample of the performance monitor. -/
def sampled (k i : Nat) (s : State) : State := if Pmc.passes s ((704 + k) / 64) 3 none none then Pmc.add (704 + k) i s else s

theorem rowsMarked_get (hg : apart H.FEC_MARK g = true) : (rowsMarked k l rows s).get g i j = s.get g i j := by
  unfold rowsMarked
  split
  · exact get_set_ne hg
  · rfl

theorem sampled_get (hg : g ∈ liveFields) : (sampled k v s).get g i j = s.get g i j :=
  get_of_sparing (moves_ite (by apply Pmc_add_moves (W := Sparing liveFields) (h := .refl) <;> rfl) .refl) hg

theorem iterations_rowsMarked : iterations iter (rowsMarked k l rows s) = iterations iter s := by
  rw [iterations, on_congr (rowsMarked_get (by decide)), rowsMarked_get (by decide), iterations]

/-- The machine as the rows of a codeword have been counted. -/
def rowsCounted (k l iter rows : Nat) (s : State) : State :=
  sampled k (iterations iter s) ((rowsMarked k l rows s).count H.FEC_LIVE_ROWS rows k)

theorem rowsCounted_rows (hk : k < 512) :
    (rowsCounted k l iter rows s).get H.FEC_LIVE_ROWS k = min (2 ^ 16 - 1) (s.get H.FEC_LIVE_ROWS k + rows) := by
  rw [rowsCounted, sampled_get (by decide), get_count (has_row rfl hk), rowsMarked_get (by decide)]
  rfl

theorem rowsCounted_get (hg : g ∈ liveFields) (hrows : apart H.FEC_LIVE_ROWS g = true) :
    (rowsCounted k l iter rows s).get g i j = s.get g i j := by
  rw [rowsCounted, sampled_get hg, get_count_ne hrows, rowsMarked_get ((by decide : ∀ g ∈ liveFields, apart H.FEC_MARK g = true) g hg)]

/-- A codeword of a stream that is decoded, its LLRs valid, is counted as decoded or as failed after its rows. -/
theorem codeword_judged (hon : Fec.rxOn s k l = true) (hllr : Fec.llrValid s k = true) (hpart : s.on H.FEC_PART k = false) :
    Fec.codeword k l ok iter bits rows s =
      if ok && !(Fec.slotted s k && Fec.late s l) then
        (((rowsCounted k l iter rows s).count H.FEC_LIVE_CW 1 k).count H.FEC_LIVE_CBITS bits k).count H.FEC_LIVE_HIST 1 (iterations iter s)
      else (rowsCounted k l iter rows s).count H.FEC_LIVE_LDPC 1 k := by
  rw [Fec.codeword, if_neg (by simp [hon]), if_neg (by simp [hllr, hpart]), rowsCounted, ← iterations_rowsMarked (k := k) (l := l) (rows := rows)]
  simp only [iterations, ← atMost_eq_min]
  rfl

/-- A codeword with an invalid LLR is counted in PM_INVAL. -/
theorem codeword_invalid (hon : Fec.rxOn s k l = true) (hbad : (!Fec.llrValid s k || s.on H.FEC_PART k) = true) :
    Fec.codeword k l ok iter bits rows s =
      Fec.mark k ((if Fec.llrValid s k then s.clr H.FEC_PART k else s).count H.FEC_LIVE_INVAL 1 k) := by
  rw [Fec.codeword, if_neg (by simp [hon]), if_pos hbad]
  split <;> rfl

/-- CODEWORD_DECODE of a codeword that is decoded. -/
theorem codewordDecode_ok_runs (hk : k < 512) (hon : Fec.rxOn s k l = true) (hllr : Fec.llrValid s k = true)
    (hpart : s.on H.FEC_PART k = false) (htime : (Fec.slotted s k && Fec.late s l) = false) (hmax : s.get F.FEC_CFG_ITER_MAX ≤ 18) :
    runs (.codewordDecode k true iter bits rows l) s (fun t =>
      t.get H.FEC_LIVE_CW k = min (2 ^ 32 - 1) (s.get H.FEC_LIVE_CW k + 1) ∧
      t.get H.FEC_LIVE_CBITS k = min (2 ^ 48 - 1) (s.get H.FEC_LIVE_CBITS k + bits) ∧
      t.get H.FEC_LIVE_ROWS k = min (2 ^ 16 - 1) (s.get H.FEC_LIVE_ROWS k + rows) ∧
      t.get H.FEC_LIVE_HIST (iterations iter s) = min (2 ^ 32 - 1) (s.get H.FEC_LIVE_HIST (iterations iter s) + 1)) := by
  have hi : iterations iter s < 19 := by
    unfold iterations
    split <;> omega
  have hu := codeword_judged (ok := true) (iter := iter) (bits := bits) (rows := rows) hon hllr hpart
  rw [if_pos (by simp [htime])] at hu
  refine runs_done (congrArg (Sys2Proof.Machine.done s) hu) ⟨?_, ?_, ?_, ?_⟩
  · rw [settle_get, get_count_ne (by decide), get_count_ne (by decide), get_count (has_row rfl hk), rowsCounted_get (by decide) (by decide)]
    rfl
  · rw [settle_get, get_count_ne (by decide), get_count (has_row rfl hk), get_count_ne (by decide), rowsCounted_get (by decide) (by decide)]
    rfl
  · rw [settle_get, get_count_ne (by decide), get_count_ne (by decide), get_count_ne (by decide), rowsCounted_rows hk]
  · rw [settle_get, get_count (has_row rfl hi), get_count_ne (by decide), get_count_ne (by decide), rowsCounted_get (by decide) (by decide)]
    rfl

/-- CODEWORD_DECODE of a codeword whose syndrome is not zero. -/
theorem codewordDecode_failed_runs (hk : k < 512) (hon : Fec.rxOn s k l = true) (hllr : Fec.llrValid s k = true)
    (hpart : s.on H.FEC_PART k = false) :
    runs (.codewordDecode k false iter bits rows l) s (fun t =>
      t.get H.FEC_LIVE_LDPC k = min (2 ^ 16 - 1) (s.get H.FEC_LIVE_LDPC k + 1) ∧
      t.get H.FEC_LIVE_ROWS k = min (2 ^ 16 - 1) (s.get H.FEC_LIVE_ROWS k + rows) ∧ t.get H.FEC_LIVE_CW k = s.get H.FEC_LIVE_CW k) := by
  have hu := codeword_judged (ok := false) (iter := iter) (bits := bits) (rows := rows) hon hllr hpart
  rw [if_neg (by simp)] at hu
  refine runs_done (congrArg (Sys2Proof.Machine.done s) hu) ⟨?_, ?_, ?_⟩
  · rw [settle_get, get_count (has_row rfl hk), rowsCounted_get (by decide) (by decide)]
    rfl
  · rw [settle_get, get_count_ne (by decide), rowsCounted_rows hk]
  · rw [settle_get, get_count_ne (by decide), rowsCounted_get (by decide) (by decide)]

/-- CODEWORD_DECODE of a codeword with an invalid LLR. -/
theorem codewordDecode_invalid_runs (hk : k < 512) (hon : Fec.rxOn s k l = true) (hbad : (!Fec.llrValid s k || s.on H.FEC_PART k) = true) :
    runs (.codewordDecode k ok iter bits rows l) s (fun t =>
      t.get H.FEC_LIVE_INVAL k = min (2 ^ 32 - 1) (s.get H.FEC_LIVE_INVAL k + 1) ∧ t.get H.FEC_LIVE_CW k = s.get H.FEC_LIVE_CW k ∧
      t.get H.FEC_LIVE_LDPC k = s.get H.FEC_LIVE_LDPC k ∧ t.get H.FEC_LIVE_ROWS k = s.get H.FEC_LIVE_ROWS k) := by
  have hcleared {f : Machine.Field} (hf : apart H.FEC_PART f = true) :
      (if Fec.llrValid s k then s.clr H.FEC_PART k else s).get f k = s.get f k := by
    split
    · exact get_clr_ne hf
    · rfl
  have hkept {f : Machine.Field} (hmark : apart H.FEC_MARK f = true) (hinval : apart H.FEC_LIVE_INVAL f = true)
      (hpart : apart H.FEC_PART f = true) : (settle s (Fec.mark k ((if Fec.llrValid s k then s.clr H.FEC_PART k else s).count
        H.FEC_LIVE_INVAL 1 k))).get f k = s.get f k := by
    rw [settle_get, Fec.mark, get_set_ne hmark, get_count_ne hinval, hcleared hpart]
  refine runs_done (congrArg (Sys2Proof.Machine.done s) (codeword_invalid (ok := ok) (iter := iter) (bits := bits) (rows := rows) hon hbad))
    ⟨?_, hkept (by decide) (by decide) (by decide), hkept (by decide) (by decide) (by decide), hkept (by decide) (by decide) (by decide)⟩
  rw [settle_get, Fec.mark, get_set_ne (by decide), get_count (has_row rfl hk), hcleared (by decide)]
  rfl

/-! ### The results of the loading commands (O28) -/

/-- Settles O28, clause by clause: a change of either direction through the bank that holds its table, FEC.CFG, the three ways that a
codeword ends, and the life of a grant change in the hub and in a leaf. -/
theorem loadingCommandResults : Obligations.LoadingCommandResults := by
  unfold Obligations.LoadingCommandResults
  refine ⟨?_, ?_, ?_, ?_, ?_, ?_, ?_, ?_, ?_, ?_, ?_, ?_, ?_, ?_, ?_, ?_, ?_, ?_⟩
  · intro s k ht hleaf hidle hgroups hopen hk
    exact commit_runs rfl ht (by decide) (bankOf_hub hleaf).1 hleaf hidle (fun h => absurd h (by decide)) (fun _ => hgroups) hopen hk
  · intro s k ht hleaf hidle hgrant hopen hk
    exact commit_runs rfl ht (by decide) (bankOf_hub hleaf).2 hleaf hidle (fun _ => hgrant) (fun h => absurd h (by decide)) hopen hk
  · exact fun s ht hleaf hchange => abort_runs (d := 0) rfl ht hleaf hchange
  · exact fun s ht hleaf hchange => abort_runs (d := 1) rfl ht hleaf hchange
  · intro s hleaf hchange hready hacked htx hfn
    exact loadAnnounce_runs (by decide) (bankOf_hub hleaf).1 hleaf hchange hready hacked htx hfn
  · intro s hleaf hchange hready hacked htx hfn
    obtain ⟨t, hexec, hstate, hann, -, hmf, hm⟩ :=
      loadAnnounce_runs (d := 1) (by decide) (bankOf_hub hleaf).2 hleaf hchange hready hacked htx hfn
    exact ⟨t, hexec, hstate, hann, hmf, hm⟩
  · exact fun s l hl haddr hacked hchange hrun hlate => loadAckTmo_runs hl haddr hacked hchange hrun hlate
  · exact fun s l hl haddr hacked hchange hrun hlate => loadAckTmo_runs hl haddr hacked hchange hrun hlate
  · exact fun s value ht htx hrx hvtx hvrx => fecCfgWrite_runs ht htx hrx hvtx hvrx
  · rintro s k l iter bits rows _ hk - hon hllr hpart htime hmax rfl
    exact codewordDecode_ok_runs hk hon hllr hpart htime hmax
  · exact fun s k l iter bits rows hk _ hon hllr hpart => codewordDecode_failed_runs hk hon hllr hpart
  · exact fun s k l ok iter bits rows hk _ hon hbad => codewordDecode_invalid_runs hk hon hbad
  · exact fun s g p ht hleaf hstat hchange hok hg hp => grantCommit_runs ht hleaf hstat hchange hok hg hp
  · exact fun s ht hleaf hstat => grantAbort_runs ht hleaf hstat
  · exact fun s hleaf hstat hacked htx hfn => grantAnnounce_runs hleaf hstat hacked htx hfn
  · intro s g p hleaf hstat hat hg hp
    obtain ⟨t, hexec, hact, hrest⟩ := grantSwap_hub_runs hleaf hstat hat hg hp
    simp only [activeAt, splitWord, Prod.mk.injEq] at hact
    obtain ⟨hleafE, hvalE, hleafO, hvalO⟩ := hact
    exact ⟨t, hexec, hleafE, hvalE, hleafO, hvalO, hrest⟩
  · exact fun s g hleaf hswap hmf hg => grantSwap_leaf_runs hleaf hswap hmf hg
  · exact fun s l hl haddr hacked hstat hrun hlate => grantAckTmo_runs hl haddr hacked hstat hrun hlate

end Sys2Proof.Proofs

/-! SUPPORT. What a hub does with the service messages of its leaves, and the events of ranging, frequency and rest at the hub (O34; R99, R106,
R110, R116, R118, R119, R121), and O34. -/
namespace Sys2Proof.Proofs
open Sys2Proof Sys2Proof.Machine Sys2Proof.Laws

variable {c : Instr} {s t u : State} {p : State → Prop} {g : Machine.Field} {act : State → State × Option Nat}
  {addr flags i j k l mf n periods sender seq status type : Nat} {body m : List Nat} {d e ofs : Int}

/-! ### Completions -/

/-- A command completes with the fields and the queues of VLK that its operation leaves. -/
theorem runs_reads (e : exec c s = done s u) (hp : ∀ t, (∀ g i j k, t.get g i j k = u.get g i j k) → t.vlk = u.vlk → p t) : runs c s p :=
  runs_done e (hp _ (settle_get s u) (settle_vlk s u))

/-- So does one that the peer mirrors. -/
theorem runs_reads_mirrored (e : exec c s = Access.doneMirrored s u)
    (hp : ∀ t, (∀ g i j k, t.get g i j k = u.get g i j k) → t.vlk = u.vlk → p t) : runs c s p :=
  runs_mirrored e (hp _ (fun g i j k => (settle_get ..).trans (mirror_get s u g i j k)) ((settle_vlk ..).trans (mirror_vlk ..)))

/-! ### Messages for the ring (R106) -/

theorem ack_ring : (Vlk.ack sender seq status s).vlk.ring = s.vlk.ring := by
  unfold Vlk.ack
  split <;> simp [Vlk.toHub, Vlk.toLeaf, Vlk.send]

/-- The answer to a message that is no repeat leaves the ring as its act does. -/
theorem receive_ring (hfresh : flags.testBit 0 = true → Vlk.broadcast addr = false → Vlk.duplicate s sender seq = none) :
    (Vlk.receive sender seq (flags.testBit 0) (Vlk.broadcast addr) act s).vlk.ring = (act s).1.vlk.ring := by
  unfold Vlk.receive
  split
  next hack =>
    simp only [Bool.and_eq_true, Bool.not_eq_true'] at hack
    simp only [hfresh hack.1 hack.2]
    split
    · exact ack_ring
    · rfl
  next => rfl

/-- A message that is not accepted is not answered. -/
theorem receive_discards (hfresh : flags.testBit 0 = true → Vlk.broadcast addr = false → Vlk.duplicate s sender seq = none)
    (hst : (act s).2 = none) : Vlk.receive sender seq (flags.testBit 0) (Vlk.broadcast addr) act s = (act s).1 := by
  unfold Vlk.receive
  split
  next hack =>
    simp only [Bool.and_eq_true, Bool.not_eq_true'] at hack
    simp only [hfresh hack.1 hack.2, hst]
  next => rfl

/-- The hub hears leaf l, which holds a number. -/
theorem up_eq (hhub : Vlk.hubOn s = true) (hl : l < 512) (hstate : Vlk.leafState s l ≠ 0) :
    Vlk.up l flags seq act s = Vlk.receive l seq (flags.testBit 0) (Vlk.broadcast 0) act s := by
  rw [Vlk.up, if_pos (by simp [hhub, hl, hstate])]
  rfl

theorem toRing_hub (hhub : Vlk.hubOn s = true) :
    Vlk.toRing l flags type seq body s = Vlk.up l flags seq (Vlk.queue (Vlk.ringMsg l flags type seq body)) s :=
  if_neg (by simp [leaf_of_hubOn hhub])

theorem queue_room (h : s.vlk.ring.length < 32) : Vlk.queue m s = ((Vlk.ringPush m s).2, some 0) := by
  simp only [Vlk.queue, Vlk.ringPush, if_pos h]
  rfl

theorem queue_full (h : 32 ≤ s.vlk.ring.length) : Vlk.queue m s = (s.count F.VLK_RX_DROP_CNT_COUNT, none) := by
  simp only [Vlk.queue, Vlk.ringPush, if_neg (Nat.not_lt.mpr h)]
  rfl

/-- A message that the ring has room for. -/
theorem toRing_runs (hexec : exec c s = done s (Vlk.toRing l flags type seq body s)) (hhub : Vlk.hubOn s = true) (hl : l < 512)
    (hstate : Vlk.leafState s l ≠ 0) (hnew : notRepeat s l 0 flags seq = true) (hroom : s.vlk.ring.length < 32) :
    runs c s (fun t => t.vlk.ring = s.vlk.ring ++ [Vlk.ringMsg l flags type seq body] ∧ t.on F.VLK_INT_CAUSE_RX_AVAIL = true ∧
      acknowledges t l 0 flags seq 0) := by
  have hqueue := queue_room (m := Vlk.ringMsg l flags type seq body) hroom
  have hanswer := up_answers hhub hl hstate rfl hnew (congrArg Prod.snd hqueue)
  have hring := receive_ring (act := Vlk.queue (Vlk.ringMsg l flags type seq body)) (duplicate_of_notRepeat hnew)
  rw [← up_eq hhub hl hstate] at hring
  rw [hqueue, ringPush_room hroom] at hanswer hring
  refine runs_reads (hexec.trans (congrArg (done s) (toRing_hub hhub))) fun t hget hvlk => ⟨?_, ?_, fun hf hb => hvlk ▸ hanswer.acknowledged hf hb⟩
  · rw [hvlk, hring]
    simp [State.set]
  · rw [on_congr (hget ..), hanswer.on (by decide), on_set (by decide) (by decide)]

/-- A REG_RESP that finds the ring full. -/
theorem regResp_full_runs (hhub : Vlk.hubOn s = true) (hl : l < 512) (hstate : Vlk.leafState s l ≠ 0) (hnew : notRepeat s l 0 flags seq = true)
    (hfull : 32 ≤ s.vlk.ring.length) :
    runs (.regResp l flags seq body) s (fun t => t.vlk = s.vlk ∧
      t.get F.VLK_RX_DROP_CNT_COUNT = min (2 ^ 32 - 1) (s.get F.VLK_RX_DROP_CNT_COUNT + 1)) := by
  have hqueue := queue_full (m := Vlk.ringMsg l flags 0x32 seq body) hfull
  have hdiscard : Vlk.toRing l flags 0x32 seq body s = s.count F.VLK_RX_DROP_CNT_COUNT := by
    rw [toRing_hub hhub, up_eq hhub hl hstate, receive_discards (duplicate_of_notRepeat hnew) (congrArg Prod.snd hqueue), hqueue]
  refine runs_reads (congrArg (done s) hdiscard) fun t hget hvlk => ⟨?_, ?_⟩
  · rw [hvlk, State.count, State_put_vlk]
  · rw [hget, get_count (by decide)]
    rfl

theorem fwStatus_hub {bitmap : List Nat} (hhub : Vlk.hubOn s = true) :
    Remote.fwStatus l flags seq bitmap s = Vlk.toRing l flags 0x3B seq bitmap s := if_neg (by simp [leaf_of_hubOn hhub])

/-! ### WAKE_ACK (R119) -/

/-- WAKE_ACK. -/
theorem wakeAck_runs (hhub : Vlk.hubOn s = true) (hl : l < 512) (hstate : Vlk.leafState s l ≠ 0) (hnew : notRepeat s l 0 flags seq = true) :
    runs (.wakeAck l flags seq) s (fun t => t.get F.VLK_LEAF_STATE l = 2 ∧ t.on H.VLK_WAKE_BIT l = false ∧ acknowledges t l 0 flags seq 0) := by
  refine runs_answered_mirrored rfl (up_answers hhub hl hstate rfl hnew rfl) fun t ht => ⟨?_, ?_, ht.acknowledged⟩
  · rw [ht.get _ (by decide), Vlk.accept, Vlk.wakeAck, get_clr_ne (by decide), setLeaf_state hl (by decide)]
  · rw [ht.on (by decide), Vlk.accept, Vlk.wakeAck, on_clr]

/-! ### RANGE_TRIGGER and FREQ_TRIGGER (R99, R110) -/

theorem broadcast_leaf (hl : l < 512) : Vlk.broadcast l = false := by
  simp only [Vlk.broadcast, Bool.or_eq_false_iff, beq_eq_false_iff_ne]
  omega

/-- A message with ACK_REQ that the hub sends to a leaf is the next of its stream. -/
theorem toLeaf_own (hl : l < 512) (hbeacon : u.get F.VLK_LEAF_BEACON l = s.get F.VLK_LEAF_BEACON l)
    (hseq : u.get H.VLK_SEQ l 1 = s.get H.VLK_SEQ l 1) (hown : u.vlk = s.vlk) :
    (Vlk.toLeaf l type true false body u).vlk.own = s.vlk.own ++ [downMessage s l type body] := by
  have hmod : l % 1024 = l := Nat.mod_eq_of_lt (by omega)
  have hbit : b01 (true && !false) = 1 := rfl
  rw [Vlk.toLeaf, send_own, sent, broadcast_leaf hl, hmod, hbit, hbeacon, hseq, hown]
  rfl

/-- EqD of a leaf for the feeder in use, corrected by a delta, and the adjustment pending. -/
def eqdAdjusted (l : Nat) (d : Int) (s : State) : State :=
  (s.put F.VLK_LEAF_EQD_EQD (unsigned 24 ((s.get F.VLK_LEAF_EQD_EQD l (s.get F.PEER_CFG_FEEDER) : Nat) + d)) l (s.get F.PEER_CFG_FEEDER)).set
    H.VLK_ADJ_PEND l

/-- The delta for an arrival error, in units of EqD (R99). -/
def rangeDelta (s : State) (e : Int) : Int :=
  clampInt (-((20000 * Lrx.subcarriers s / s.get F.LRX_LINE_CFG_BAUD_MBD : Nat) : Int))
    ((20000 * Lrx.subcarriers s / s.get F.LRX_LINE_CFG_BAUD_MBD : Nat) : Int)
    (roundDivInt (-e * (Lrx.subcarriers s * 10000 : Nat)) (16 * s.get F.LRX_LINE_CFG_BAUD_MBD))

/-- The fields by which a RANGE_TRIGGER is judged. -/
def rangeFields : List Machine.Field :=
  [F.SYS_ROLE_ROLE, F.VLK_CTRL_EN, F.PEER_STAT_STATE, F.VLK_CTRL_AUTO_RANGE, F.VLK_LEAF_STATE, H.VLK_ADJ_PEND, F.VLK_RANGE_CFG_TRIG,
   F.LRX_LINE_CFG_NSC_M1, F.LRX_LINE_CFG_BAUD_MBD, F.PEER_CFG_FEEDER, F.VLK_LEAF_EQD_EQD]

theorem rangeTrigger_adjusts (hhub : Vlk.hubOn s = true) (hpass : s.passive = false) (hauto : s.on F.VLK_CTRL_AUTO_RANGE = true)
    (hstate : Vlk.leafState s l = 2) (hpend : s.on H.VLK_ADJ_PEND l = false) (htrig : s.get F.VLK_RANGE_CFG_TRIG < e.natAbs)
    (hn : max 1 (s.get F.VLK_RANGE_CFG_AVG) ≤ n) :
    Vlk.rangeTrigger l e n s = Vlk.toLeaf l 0x10 true false [unsigned 32 (rangeDelta s e)]
      (eqdAdjusted l (rangeDelta s e) (s.sput H.VLK_ARR_ERR (clampInt (-32768) 32767 e) l)) := by
  generalize hu : s.sput H.VLK_ARR_ERR (clampInt (-32768) 32767 e) l = u
  have hget : ∀ g ∈ rangeFields, ∀ i j, u.get g i j = s.get g i j := fun g hg i j => by
    rw [← hu, get_sput_ne ((by decide : ∀ g ∈ rangeFields, apart H.VLK_ARR_ERR g = true) g hg)]
  have hdelta : rangeDelta u e = rangeDelta s e := by
    simp only [rangeDelta, Lrx.subcarriers, hget F.LRX_LINE_CFG_NSC_M1 (by decide), hget F.LRX_LINE_CFG_BAUD_MBD (by decide)]
  have hcond : (Vlk.hubOn u && !u.passive && u.on F.VLK_CTRL_AUTO_RANGE && Vlk.leafState u l == 2 && !u.on H.VLK_ADJ_PEND l &&
      decide (u.get F.VLK_RANGE_CFG_TRIG < e.natAbs)) = true := by
    have hhub' : Vlk.hubOn u = true := by
      rw [← hhub, Vlk.hubOn, Vlk.enabled, State.leaf, State.on, hget F.SYS_ROLE_ROLE (by decide), hget F.VLK_CTRL_EN (by decide)]
      rfl
    have hpass' : u.passive = false := by rw [State.passive, hget F.PEER_STAT_STATE (by decide), ← State.passive, hpass]
    rw [hhub', hpass', on_congr (hget F.VLK_CTRL_AUTO_RANGE (by decide) 0 0), hauto, Vlk.leafState, hget F.VLK_LEAF_STATE (by decide),
      ← Vlk.leafState, hstate, on_congr (hget H.VLK_ADJ_PEND (by decide) l 0), hpend, hget F.VLK_RANGE_CFG_TRIG (by decide),
      decide_eq_true htrig]
    rfl
  rw [← hdelta]
  unfold Vlk.rangeTrigger
  rw [if_neg (Nat.not_lt.mpr hn), if_pos hhub, hu]
  exact if_pos hcond

/-- RANGE_TRIGGER. -/
theorem rangeTrigger_runs (hhub : Vlk.hubOn s = true) (hpass : s.passive = false) (hauto : s.on F.VLK_CTRL_AUTO_RANGE = true) (hl : l < 512)
    (hstate : Vlk.leafState s l = 2) (hpend : s.on H.VLK_ADJ_PEND l = false) (htrig : s.get F.VLK_RANGE_CFG_TRIG < e.natAbs)
    (hd : d = rangeDelta s e) (hn : max 1 (s.get F.VLK_RANGE_CFG_AVG) ≤ n) :
    runs (.rangeTrigger l e n) s (fun t =>
      t.get F.VLK_LEAF_EQD_EQD l (s.get F.PEER_CFG_FEEDER) =
        unsigned 24 ((s.get F.VLK_LEAF_EQD_EQD l (s.get F.PEER_CFG_FEEDER) : Nat) + d) ∧
      t.on H.VLK_ADJ_PEND l = true ∧ t.vlk.own = s.vlk.own ++ [downMessage s l 0x10 [unsigned 32 d]]) := by
  subst hd
  refine runs_reads_mirrored (congrArg (Access.doneMirrored s) (rangeTrigger_adjusts hhub hpass hauto hstate hpend htrig hn))
    fun t hget hvlk => ⟨?_, ?_, ?_⟩
  · have hfeeder : s.get F.PEER_CFG_FEEDER < 2 := State_get_lt ..
    rw [hget, Vlk.toLeaf, send_get (by decide), eqdAdjusted, get_set_ne (by decide), get_sput_ne (by decide), get_sput_ne (by decide)]
    exact get_put_lt (has_cell rfl hl hfeeder) (unsigned_lt 24 _)
  · rw [on_congr (hget ..), Vlk.toLeaf, on_congr (send_get (by decide)), eqdAdjusted, on_set (has_row rfl hl) (by decide)]
  · have hkept (g : Machine.Field) (i j : Nat) (h : apart F.VLK_LEAF_EQD_EQD g = true ∧ apart H.VLK_ADJ_PEND g = true ∧
        apart H.VLK_ARR_ERR g = true) :
        (eqdAdjusted l (rangeDelta s e) (s.sput H.VLK_ARR_ERR (clampInt (-32768) 32767 e) l)).get g i j = s.get g i j := by
      rw [eqdAdjusted, get_set_ne h.2.1, get_put_ne h.1, get_sput_ne h.2.2]
    rw [hvlk]
    exact toLeaf_own hl (hkept _ _ _ (by decide)) (hkept _ _ _ (by decide)) (by simp [eqdAdjusted, State.set, State.sput])

/-- FREQ_TRIGGER. -/
theorem freqTrigger_runs (hhub : Vlk.hubOn s = true) (hpass : s.passive = false) (hauto : s.on F.VLK_CTRL_AUTO_FREQ = true) (hl : l < 512)
    (hstate : Vlk.leafState s l = 1 ∨ Vlk.leafState s l = 2 ∨ Vlk.leafState s l = 3) (hofs : 200 < ofs.natAbs) :
    runs (.freqTrigger l ofs) s (fun t => t.vlk.own = s.vlk.own ++ [downMessage s l 0x11 [unsigned 32 (-ofs)]]) := by
  have htree : (Vlk.leafState s l != 0 && Vlk.leafState s l != 4) = true := by
    rcases hstate with h | h | h <;> rw [h] <;> rfl
  have hsent : Vlk.freqTrigger l ofs s = Vlk.toLeaf l 0x11 true false [unsigned 32 (-ofs)] s :=
    if_pos (by rw [hhub, hpass, hauto, Bool.and_assoc, Bool.and_assoc, ← Bool.and_assoc (_ != _), htree, decide_eq_true hofs]; rfl)
  refine runs_reads (congrArg (done s) hsent) fun t _ hvlk => ?_
  rw [hvlk]
  exact toLeaf_own hl rfl rfl rfl

/-! ### REST and loss (R116, R118, R121) -/

/-- HUB_REST_START. -/
theorem hubRestStart_runs (hhub : Vlk.hubOn s = true) (hl : l < 512) (hstate : Vlk.leafState s l = 2) (hset : s.on H.VLK_REST_SET l = true)
    (hat : Scm.atMultiframe s (s.get H.VLK_REST_START l) = true) :
    runs (.hubRestStart l) s (fun t => t.get F.VLK_LEAF_STATE l = 3) := by
  have hrest : Vlk.hubRestStart l s = Vlk.setLeaf l 3 s := if_pos (by rw [hhub, hstate, hset, hat]; rfl)
  refine runs_reads_mirrored (congrArg (Access.doneMirrored s) hrest) fun t hget _ => ?_
  rw [hget, setLeaf_state hl (by decide)]

/-- WAKE of a resting leaf. -/
theorem wake_runs (ht : takes .VLK_WAKE s = true) (hhub : Vlk.hubOn s = true) (hstate : Vlk.leafState s (l % 512) = 3) :
    runs (.wake l) s (fun t => t.on H.VLK_WAKE_BIT (l % 512) = true) := by
  have hwake : Vlk.wake (l % 512) s = s.set H.VLK_WAKE_BIT (l % 512) := if_pos (by rw [hhub, hstate]; rfl)
  refine quietRow_runs rfl ht rfl (by decide) fun t hget => ?_
  rw [on_congr (hget _ _ _ (by decide)), hwake, on_set (has_row rfl (Nat.mod_lt _ (by decide))) (by decide)]

/-- A leaf that is lost. -/
theorem lose_shows (hl : l < 512) : (Vlk.lose l s).get F.VLK_LEAF_STATE l = 4 ∧ (Vlk.lose l s).on F.VLK_INT_CAUSE_LEAF_LOST = true ∧
    (Vlk.lose l s).get F.VLK_STAT_LAST_LEAF = l := by
  refine ⟨?_, ?_, get_put_lt (by decide) (Nat.lt_of_lt_of_le hl (by decide))⟩
  · rw [Vlk.lose, get_put_ne (by decide), get_set_ne (by decide), setLeaf_state hl (by decide)]
  · rw [Vlk.lose, on_put_ne (by decide), on_set (by decide) (by decide)]

/-- WAKE_TMO. -/
theorem wakeTmo_runs (hhub : Vlk.hubOn s = true) (hpass : s.passive = false) (hl : l < 512) (hstate : Vlk.leafState s l = 3)
    (hwake : s.on H.VLK_WAKE_BIT l = true) (htmo : s.get F.VLK_REST_CFG_WAKE_TMO ≤ periods) :
    runs (.wakeTmo l periods) s (fun t => t.get F.VLK_LEAF_STATE l = 4 ∧ t.on F.VLK_INT_CAUSE_WAKE_TMO = true ∧
      t.on F.VLK_INT_CAUSE_LEAF_LOST = true ∧ t.get F.VLK_STAT_LAST_LEAF = l) := by
  obtain ⟨hlost, hcause, hlast⟩ := lose_shows (s := s) hl
  have hlose : Vlk.wakeTimeout l periods s = (Vlk.lose l s).set F.VLK_INT_CAUSE_WAKE_TMO :=
    if_pos (by rw [hhub, hpass, hstate, hwake, decide_eq_true htmo]; rfl)
  refine runs_reads_mirrored (congrArg (Access.doneMirrored s) hlose) fun t hget _ => ⟨?_, ?_, ?_, ?_⟩
  · rw [hget, get_set_ne (by decide), hlost]
  · rw [on_congr (hget ..), on_set (by decide) (by decide)]
  · rw [on_congr (hget ..), on_set_ne (by decide), hcause]
  · rw [hget, get_set_ne (by decide), hlast]

/-- LEAF_LOST. -/
theorem leafLost_runs (hhub : Vlk.hubOn s = true) (hpass : s.passive = false) (hl : l < 512) (hstate : Vlk.leafState s l = 2)
    (hmf : s.get F.VLK_RANGE_CFG_LOST_MF ≤ mf) :
    runs (.leafLost l mf) s (fun t => t.get F.VLK_LEAF_STATE l = 4 ∧ t.on F.VLK_INT_CAUSE_LEAF_LOST = true ∧
      t.get F.VLK_STAT_LAST_LEAF = l) := by
  obtain ⟨hlost, hcause, hlast⟩ := lose_shows (s := s) hl
  have hlose : Vlk.leafLost l mf s = Vlk.lose l s := if_pos (by rw [hhub, hpass, hstate, decide_eq_true hmf]; rfl)
  refine runs_reads_mirrored (congrArg (Access.doneMirrored s) hlose) fun t hget _ => ?_
  rw [hget, hget, on_congr (hget ..)]
  exact ⟨hlost, hcause, hlast⟩

/-- Settles O34, with one lemma for each command: a message for the ring by what its queueing comes to, an event by the change of the leaf's
state or the message that it sends. -/
theorem hubLeafServiceResults : Obligations.HubLeafServiceResults := by
  unfold Obligations.HubLeafServiceResults
  refine ⟨fun s l flags seq body => toRing_runs rfl, fun s l flags seq body => regResp_full_runs,
    fun s l flags seq bitmap hhub => toRing_runs (congrArg (done s) (fwStatus_hub hhub)) hhub, fun s l flags seq => toRing_runs rfl,
    fun s l flags type seq body hhub hl hstate hnew hroom hlo hhi =>
      toRing_runs (congrArg (done s) (if_pos ⟨hlo, hhi⟩)) hhub hl hstate hnew hroom,
    fun s l flags seq => wakeAck_runs, fun s l n e d => rangeTrigger_runs, fun s l ofs => freqTrigger_runs, fun s l => hubRestStart_runs,
    fun s l => wake_runs, fun s l periods => wakeTmo_runs, fun s l mf => leafLost_runs⟩

end Sys2Proof.Proofs

/-! SUPPORT. A statement that fails by a register that an access waits for: REG_READ of SYS.INT_MASK (O32; R24, R114, R356). -/
namespace Sys2Proof.Proofs
open Sys2Proof Sys2Proof.Machine Sys2Proof.Laws

/-- An ACTIVE leaf of number 5 where a write of 3 to SYS.INT_MASK waits. -/
def maskHeld : State :=
  { (((State.reset.put F.SYS_ROLE_ROLE 1).put F.VLK_CTRL_EN 1).put F.VLK_SELF_STATE 4).put F.VLK_SELF_LEAF 5 with
    held := [⟨1, false, 0x14, 3, true⟩] }

/-- REG_READ of a denied address, of SYS.INT_MASK and of an unnamed one. -/
def maskRead : State := Remote.regRead 5 0 0 [0x300000, 0x14, 0xFFC] maskHeld

/-- The only message sent is the REG_RESP with the value of the write that waits. -/
theorem maskRead_own : maskRead.vlk.own = [upMessage maskHeld 0x32 [2 ^ 8 * 0x31 + 2 ^ 16 * 3, 0, 0, 3, 0, 33]] := by decide +kernel

/-- Refutes O32, by its second clause. The statement is of every state, also of one where a write waits for SYS, whose mask `takes` does not
refuse: REG_READ shows the value of the write, and the mask still holds its reset value. -/
theorem not_leafServiceMessageResults : ¬ Obligations.LeafServiceMessageResults := by
  unfold Obligations.LeafServiceMessageResults
  rintro ⟨-, hread, -⟩
  obtain ⟨hsent, -⟩ := of_runs_mirrored (u := maskRead) rfl
    (hread maskHeld 5 0 0 0x300000 0xFFC (by decide) (by decide) (by decide) (by decide) (by decide))
  rw [settle_vlk, mirror_vlk, maskRead_own] at hsent
  exact absurd hsent (by decide)

end Sys2Proof.Proofs

/-! SUPPORT. A leaf's registration (R107, R109, R121) and its rest (R116, R117), and O30. -/
namespace Sys2Proof.Proofs
open Sys2Proof Sys2Proof.Machine Sys2Proof.Laws

variable {c : Instr} {s t u : State} {p : State → Prop} {f g : Machine.Field} {r : RegId} {dword : Nat → Nat} {eff : State → State}
  {fn frames i j k mfn ms n opp sc type value x y : Nat} {body : List Nat}

/-! ### Register writes that the peer does not mirror -/

/-- A command that a register write carries out, and that the peer does not mirror, in a block without further effects. -/
theorem quietRow_done (e : exec c s = done s (Bus.row Bus.host r i j dword eff s)) (ht : takes r s = true)
    (hi : r.shape.has i j 0 = true) (hb : quiet (Sys.blockOf (r.barAddr 0 0 0)) = true)
    (hp : ∀ t, (∀ g x y, uncounted g = true → t.get g x y = (eff s).get g x y) → p t) : runs c s p :=
  runs_done e (hp _ fun _ _ _ hg => (settle_get ..).trans (quietRow_get ht hi hb hg))

/-! ### Commands that raise no interrupt (R383, R384) -/

/-- The fields that INT_SUMMARY is made of. -/
def summaryFields : List Machine.Field :=
  (F.ENG_INT_MASK_MASK :: RegId.ENG_INT_CAUSE.fields) ++ interruptBlocks.flatMap fun x => x.2.2 :: x.2.1.fields

theorem word_of_fields (h : ∀ g ∈ r.fields, t.get g i j k = s.get g i j k) : t.word r i j k = s.word r i j k :=
  List.foldl_ext _ _ _ fun _ g hg => by rw [h g hg]

theorem summary_of_fields (h : ∀ g ∈ summaryFields, ∀ i j k, t.get g i j k = s.get g i j k) : t.summary = s.summary := by
  have hengine : t.engineInterrupt = s.engineInterrupt := by
    unfold State.engineInterrupt
    congr 1
    funext n
    rw [h _ (List.mem_append_left _ List.mem_cons_self),
      word_of_fields fun g hg => h g (List.mem_append_left _ (List.mem_cons_of_mem _ hg)) n 0 0]
  unfold State.summary
  rw [hengine]
  refine List.foldl_ext _ _ _ fun a x hx => ?_
  have hmem (g : Machine.Field) (hg : g ∈ x.2.2 :: x.2.1.fields) : g ∈ summaryFields :=
    List.mem_append_right _ (List.mem_flatMap.mpr ⟨x, hx, hg⟩)
  rw [h _ (hmem _ List.mem_cons_self), word_of_fields fun g hg => h g (hmem g (List.mem_cons_of_mem _ hg)) 0 0 0]

/-- A write of a field that INT_SUMMARY does not show raises no interrupt. -/
theorem settle_put (h : ∀ g ∈ summaryFields, apart f g = true) : settle s (s.put f n i j k) = s.put f n i j k :=
  if_pos (summary_of_fields fun g hg _ _ _ => get_put_ne (h g hg)).symm

/-! ### REG_ATTEMPT, REG_TMO, REG_GO and REG_OPEN (R107) -/

/-- The REG_REQ that a stranger sends at an opportunity. -/
def regReq (s : State) (mfn fn i sc : Nat) : VMsg :=
  ⟨0, 0x3FD, false, false, 0x02, s.get H.VLK_SEQ 0x3FD 0,
    [s.get F.LCM_DEV_ID_VAL 0, s.get F.LCM_DEV_ID_VAL 1, s.get H.VLK_PREV_LEAF, mfn, fn, i, sc, s.get F.SE_IMG_VER_VERSION]⟩

/-- The stranger after its burst, before the burst leaves. -/
def attempted (s : State) : State :=
  (((s.put H.VLK_SEQ (s.get H.VLK_SEQ 0x3FD 0 + 1) 0x3FD 0).clr H.VLK_EQD_NOW).count H.VLK_ATTEMPT).set H.VLK_REG_WAIT

/-- An opportunity that the stranger takes. -/
theorem regAttempt_taken (hon : Vlk.leafOn s = true) (hstate : s.get F.VLK_SELF_STATE = 2) (hgiveup : s.on H.VLK_GIVEUP = false)
    (hwait : s.on H.VLK_REG_WAIT = false) (hsilent : Vlk.mustBeSilent s = false) (hself : s.on F.VLK_SELF_SILENT = false)
    (huse : (List.range (s.get F.VLK_REG_CFG_RSC_M1 + 1)).any (fun j => s.get F.VLK_REG_SC_SC j == sc) = true) (hi : i < 16)
    (hopp : opp = 16 * (256 * mfn + fn) + i)
    (hamong : (opp + 2 ^ 36 - s.get H.VLK_REG_BASE) % 2 ^ 36 < 2 ^ (min (s.get H.VLK_ATTEMPT + 1) 8 + 3))
    (hburst : s.get H.LTX_ACTIVE sc % 8 = 4) :
    Vlk.regAttempt mfn fn i sc s =
      if s.on H.VLK_OPEN_NOW then (attempted s).emit (.burst sc (regReq s mfn fn i sc)) else s.put H.VLK_REG_BASE (opp + 1) := by
  subst hopp
  unfold Vlk.regAttempt Vlk.choices Vlk.state
  simp only [hon, hstate, hgiveup, hwait, hsilent, hself, huse, hi, hamong, hburst, decide_true, beq_self_eq_true, Bool.not_false, Bool.and_self,
    if_true]
  cases hopen : s.on H.VLK_OPEN_NOW <;> rfl

/-- REG_ATTEMPT. -/
theorem regAttempt_runs (htaken : Vlk.regAttempt mfn fn i sc s =
      if s.on H.VLK_OPEN_NOW then (attempted s).emit (.burst sc (regReq s mfn fn i sc)) else s.put H.VLK_REG_BASE (opp + 1)) :
    runs (.regAttempt mfn fn i sc) s (fun t =>
      (s.on H.VLK_OPEN_NOW = true → t.on H.VLK_REG_WAIT = true ∧ t.get H.VLK_ATTEMPT = min 255 (s.get H.VLK_ATTEMPT + 1) ∧
        t.get H.VLK_EQD_NOW = 0 ∧ Emit.burst sc (regReq s mfn fn i sc) ∈ t.out) ∧
      (s.on H.VLK_OPEN_NOW = false → t.get H.VLK_REG_BASE = (opp + 1) % 2 ^ 36 ∧ t.get H.VLK_ATTEMPT = s.get H.VLK_ATTEMPT ∧
        t.out = s.out)) := by
  refine runs_done (congrArg (done s) htaken) ⟨fun hopen => ?_, fun hclosed => ?_⟩
  · rw [if_pos hopen]
    refine ⟨?_, ?_, ?_, settle_mem _ _ List.mem_cons_self⟩
    · rw [on_congr (settle_get ..), on_congr (State_emit_get ..), attempted, on_set (by decide) (by decide)]
    · rw [settle_get, State_emit_get, attempted, get_set_ne (by decide), get_count (by decide), get_clr_ne (by decide), get_put_ne (by decide)]
      rfl
    · rw [settle_get, State_emit_get, attempted, get_set_ne (by decide), get_count_ne (by decide), get_clr]
  · rw [if_neg (by rw [hclosed]; exact Bool.false_ne_true), settle_put (by decide +kernel)]
    exact ⟨State_get_put_same _ _ _ _ _ _ (by decide), get_put_ne (by decide), State_put_out ..⟩

/-- REG_TMO. -/
theorem regTmo_runs (hon : Vlk.leafOn s = true) (hstate : s.get F.VLK_SELF_STATE = 2) (hwait : s.on H.VLK_REG_WAIT = true)
    (htmo : max 1 (s.get F.VLK_REG_CFG_REG_TMO) ≤ frames) :
    runs (.regTmo frames) s (fun t => t.on H.VLK_REG_WAIT = false ∧ (s.get F.VLK_REG_CFG_RETRY_MAX ≠ 0 ∧
      s.get F.VLK_REG_CFG_RETRY_MAX ≤ s.get H.VLK_ATTEMPT → t.on H.VLK_GIVEUP = true ∧ t.on F.VLK_INT_CAUSE_REG_GIVEUP = true)) := by
  generalize hv : Vlk.attemptFrom (s.clr H.VLK_REG_WAIT) = v
  have hkept {g : Machine.Field} (h : apart H.VLK_REG_BASE g = true ∧ apart H.VLK_REG_WAIT g = true) : v.get g = s.get g := by
    rw [← hv, Vlk.attemptFrom, get_put_ne h.1, get_clr_ne h.2]
  have hended : v.on H.VLK_REG_WAIT = false := by rw [← hv, Vlk.attemptFrom, on_put_ne (by decide), on_clr]
  have hstep : Vlk.regTimeout frames s =
      if s.get F.VLK_REG_CFG_RETRY_MAX ≠ 0 ∧ s.get F.VLK_REG_CFG_RETRY_MAX ≤ s.get H.VLK_ATTEMPT then
        (v.set F.VLK_INT_CAUSE_REG_GIVEUP).set H.VLK_GIVEUP
      else v := by
    rw [← hkept (g := F.VLK_REG_CFG_RETRY_MAX) (by decide), ← hkept (g := H.VLK_ATTEMPT) (by decide), ← hv]
    exact if_pos (by simp [hon, Vlk.state, hstate, hwait, htmo])
  refine runs_reads (congrArg (done s) hstep) fun t hget _ => ⟨?_, fun hgiveup => ?_⟩
  · rw [on_congr (hget ..)]
    split
    · rw [on_set_ne (by decide), on_set_ne (by decide), hended]
    · exact hended
  · rw [on_congr (hget H.VLK_GIVEUP ..), on_congr (hget F.VLK_INT_CAUSE_REG_GIVEUP ..), if_pos hgiveup]
    exact ⟨on_set (by decide) (by decide), by rw [on_set_ne (by decide), on_set (by decide) (by decide)]⟩

/-- REG_GO. -/
theorem regGo_runs (ht : takes .VLK_CTRL s = true) (hleaf : s.leaf = true) (hgiveup : s.on H.VLK_GIVEUP = true) :
    runs .regGo s (fun t => t.on H.VLK_GIVEUP = false ∧ t.get H.VLK_ATTEMPT = 0) := by
  have hgo : Vlk.regGo s = Vlk.attemptFrom ((s.clr H.VLK_GIVEUP).clr H.VLK_ATTEMPT) := if_pos (by rw [hleaf, hgiveup]; rfl)
  refine quietRow_done rfl ht rfl (by decide) fun t hget => ⟨?_, ?_⟩
  · rw [on_congr (hget _ _ _ (by decide)), hgo, Vlk.attemptFrom, on_put_ne (by decide), on_clr_ne (by decide), on_clr]
  · rw [hget _ _ _ (by decide), hgo, Vlk.attemptFrom, get_put_ne (by decide), get_clr]

theorem regOpen_value (hhub : s.leaf = false)
    (hburst : (List.range (s.get F.VLK_REG_CFG_RSC_M1 + 1)).all (fun i => s.get H.LRX_ACTIVE (s.get F.VLK_REG_SC_SC i) % 8 == 4) = true)
    (hn : n < 2) : (Vlk.regOpen n s).get F.VLK_CTRL_REG_OPEN = n := by
  unfold Vlk.regOpen
  rw [if_neg (by simp [hhub])]
  match n, hn with
  | 0, _ => exact get_clr
  | 1, _ =>
    rw [if_neg (by decide), if_pos hburst]
    exact State_get_put_same _ _ _ _ _ _ (by decide)

/-- REG_OPEN. -/
theorem regOpen_runs (ht : takes .VLK_CTRL s = true) (hhub : s.leaf = false)
    (hburst : (List.range (s.get F.VLK_REG_CFG_RSC_M1 + 1)).all (fun i => s.get H.LRX_ACTIVE (s.get F.VLK_REG_SC_SC i) % 8 == 4) = true) :
    runs (.regOpen value) s (fun t => t.get F.VLK_CTRL_REG_OPEN = value % 2) :=
  quietRow_done rfl ht rfl (by decide) fun t hget => by
    rw [hget _ _ _ (by decide), regOpen_value hhub hburst (Nat.mod_lt _ (by decide))]

/-! ### UPSTREAM_START (R109) -/

/-- A message with ACK_REQ that a leaf sends is the next of its stream. -/
theorem toHub_own (hleaf : u.get F.VLK_SELF_LEAF = s.get F.VLK_SELF_LEAF) (hseq : ∀ i j, u.get H.VLK_SEQ i j = s.get H.VLK_SEQ i j)
    (hown : u.vlk = s.vlk) : (Vlk.toHub type true body u).vlk.own = s.vlk.own ++ [upMessage s type body] := by
  obtain ⟨hmod, hbroad⟩ := selfAddr_ordinary s
  have hself : Vlk.selfAddr u = Vlk.selfAddr s := by rw [Vlk.selfAddr, hleaf, Vlk.selfAddr]
  rw [Vlk.toHub, send_own, sent, hself, hbroad, hmod, hseq, hown]
  rfl

/-- UPSTREAM_START. -/
theorem upstreamStart_runs (hon : Vlk.leafOn s = true) (hstate : s.get F.VLK_SELF_STATE = 3) (hup : s.on H.VLK_UP_ON = false)
    (hat : mfn = s.get H.VLK_UP_START) :
    runs (.upstreamStart mfn) s (fun t => t.on H.VLK_UP_ON = true ∧ t.vlk.own = s.vlk.own ++ [upMessage s 0x05 []]) := by
  have hstart : Vlk.upstreamStart mfn s = Vlk.toHub 0x05 true [] (s.set H.VLK_UP_ON) :=
    if_pos (by simp [hon, Vlk.state, hstate, hup, hat])
  refine runs_reads (congrArg (done s) hstart) fun t hget hvlk => ⟨?_, ?_⟩
  · rw [on_congr (hget ..), Vlk.toHub, on_congr (send_get (by decide)), on_set (by decide) (by decide)]
  · rw [hvlk]
    exact toHub_own (get_set_ne (by decide)) (fun _ _ => get_set_ne (by decide)) (State_put_vlk ..)

/-! ### Entering REST (R116, R117, R361) -/

/-- The fields by which an entry is refused. -/
def refusalFields : List Machine.Field :=
  [F.PEER_CTRL_EN, F.CAL_STAT_STATE, F.CAL_STAT_FLASH_BUSY, F.BST_STAT_BUSY, F.BOOT_FL_STAT_BUSY, F.SYS_STAT_PHASE, F.PWR_REST_STAT_STATE]

theorem refusal_congr (h : ∀ g ∈ refusalFields, t.get g = s.get g) : Rest.refusal t = Rest.refusal s := by
  unfold Rest.refusal Rest.state State.on
  rw [h F.PEER_CTRL_EN (by decide), h F.CAL_STAT_STATE (by decide), h F.CAL_STAT_FLASH_BUSY (by decide), h F.BST_STAT_BUSY (by decide),
    h F.BOOT_FL_STAT_BUSY (by decide), h F.SYS_STAT_PHASE (by decide), h F.PWR_REST_STAT_STATE (by decide)]

theorem refusal_of_sparing (h : Moves (Sparing refusalFields) s t) : Rest.refusal t = Rest.refusal s :=
  refusal_congr fun _ hg => get_of_sparing h hg

/-- Whether PWR accepts the entry. -/
theorem restEnter_accepts : (Rest.enter s).1 = decide (Rest.refusal s = 0) := by
  dsimp only [Rest.enter]
  split
  next h => rw [decide_eq_true h]
  next h => rw [decide_eq_false h]

/-- What an accepted entry makes of REST_STAT. -/
theorem restEnter_state (h : Rest.refusal s = 0) : (Rest.enter s).2.get F.PWR_REST_STAT_STATE = 1 := by
  have hput : ((s.put F.PWR_REST_STAT_STATE 1).clr H.PWR_WAKE_PEND).get F.PWR_REST_STAT_STATE = 1 := by
    rw [get_clr_ne (by decide), get_put_lt (by decide) (by decide)]
  simp only [Rest.enter, if_pos h]
  exact (Rest_replaced_moves (W := Misses F.PWR_REST_STAT_STATE) rfl
    (Ltx_mute_moves (W := Misses F.PWR_REST_STAT_STATE) rfl rfl 3 .refl)).get_misses.trans hput

theorem askRest_accepted (h : Rest.refusal s = 0) : Vlk.askRest s = (Rest.enter s).2 := if_pos (by rw [restEnter_accepts, decide_eq_true h])

theorem askRest_refused (h : Rest.refusal s ≠ 0) :
    Vlk.askRest s = ((Rest.enter s).2.set F.VLK_INT_CAUSE_REST_HELD).set H.VLK_RETRY :=
  if_neg (by rw [restEnter_accepts, decide_eq_false h]; exact Bool.false_ne_true)

/-- What entering REST leaves of VLK's state. -/
theorem askRest_get (hg : g ∈ selfFields) : (Vlk.askRest s).get g = s.get g := by
  have henter : (Rest.enter s).2.get g = s.get g :=
    get_of_sparing (l := selfFields) (Rest_enter_moves (W := Sparing selfFields) rfl rfl rfl rfl rfl rfl rfl .refl) hg
  by_cases h : Rest.refusal s = 0
  · rw [askRest_accepted h, henter]
  · rw [askRest_refused h, get_set_ne ((by decide : ∀ g ∈ selfFields, apart H.VLK_RETRY g = true) g hg),
      get_set_ne ((by decide : ∀ g ∈ selfFields, apart F.VLK_INT_CAUSE_REST_HELD g = true) g hg), henter]

/-- VLK's state is n, by a change of it (R121). -/
def stateIs (n : Nat) (s : State) : State := (s.put F.VLK_SELF_STATE n).set F.VLK_INT_CAUSE_STATE_CHG

theorem stateIs_moves {W : Part → Prop} (hstate : W (.fld F.VLK_SELF_STATE)) (hcause : W (.fld F.VLK_INT_CAUSE_STATE_CHG)) (h : Moves W t s) :
    Moves W t (stateIs n s) := Moves.set _ _ _ hcause (Moves.put _ _ _ _ _ hstate h)

theorem stateIs_state (hn : n < 8) : (stateIs n s).get F.VLK_SELF_STATE = n := by
  rw [stateIs, get_set_ne (by decide), get_put_lt (by decide) hn]

/-- The leaf as its granted rest begins. -/
def resting (s : State) : State :=
  Vlk.silence ((stateIs 5 s).clr H.VLK_LISTENING)

theorem resting_state : (resting s).get F.VLK_SELF_STATE = 5 := by
  rw [resting, Vlk.silence, get_set_ne (by decide), hostMute_get (by decide), get_clr_ne (by decide),
    stateIs_state (by decide)]

theorem resting_refusal : Rest.refusal (resting s) = Rest.refusal s :=
  refusal_of_sparing (Vlk_silence_moves (W := Sparing refusalFields) rfl rfl rfl rfl rfl
    (Moves.clr _ _ _ rfl (stateIs_moves rfl rfl .refl)))

/-- LEAF_REST_START. -/
theorem leafRestStart_runs (hon : Vlk.leafOn s = true) (hstate : s.get F.VLK_SELF_STATE = 4) (hgrant : s.on H.VLK_S_REST = true)
    (hat : mfn = s.get H.VLK_S_START) :
    runs (.leafRestStart mfn) s (fun t => t.get F.VLK_SELF_STATE = 5 ∧ t.on F.VLK_SELF_SILENT = true ∧
      (Rest.refusal s = 0 → t.get F.PWR_REST_STAT_STATE = 1) ∧
      (Rest.refusal s ≠ 0 → t.on F.VLK_INT_CAUSE_REST_HELD = true ∧ t.on H.VLK_RETRY = true)) := by
  have hset : Vlk.setState 5 s = stateIs 5 s :=
    if_neg (by rw [Vlk.state, hstate]; decide)
  have hrest : Vlk.restStart mfn s = Vlk.askRest (resting s) := by
    rw [resting, ← hset]
    exact if_pos (by simp [hon, Vlk.state, hstate, hgrant, hat])
  refine runs_reads (congrArg (done s) hrest) fun t hget _ => ⟨?_, ?_, fun h => ?_, fun h => ?_⟩
  · rw [hget, askRest_get (by decide), resting_state]
  · rw [on_congr (hget ..), on_congr (askRest_get (by decide)), resting, Vlk.silence, on_set (by decide) (by decide)]
  · rw [← resting_refusal] at h
    rw [hget, askRest_accepted h, restEnter_state h]
  · rw [← resting_refusal] at h
    rw [on_congr (hget F.VLK_INT_CAUSE_REST_HELD ..), on_congr (hget H.VLK_RETRY ..), askRest_refused h]
    exact ⟨by rw [on_set_ne (by decide), on_set (by decide) (by decide)], on_set (by decide) (by decide)⟩

/-- REST_RETRY. -/
theorem restRetry_runs (hleaf : s.leaf = true) (hen : s.on F.VLK_CTRL_EN = true) (hstate : s.get F.VLK_SELF_STATE = 5)
    (hretry : s.on H.VLK_RETRY = true) (hlisten : s.on H.VLK_LISTENING = false) (h : Rest.refusal s = 0) :
    runs .restRetry s (fun t => t.get F.PWR_REST_STAT_STATE = 1 ∧ t.on H.VLK_RETRY = false) := by
  have haccepts : (Rest.enter s).1 = true := by rw [restEnter_accepts, decide_eq_true h]
  have hretried : Vlk.restRetry s = (Rest.enter s).2.clr H.VLK_RETRY := by
    rw [Vlk.restRetry, if_pos (by rw [hleaf, Vlk.enabled, hen, Vlk.state, hstate, hretry, hlisten]; rfl)]
    exact if_pos haccepts
  refine runs_reads (congrArg (done s) hretried) fun t hget _ => ⟨?_, ?_⟩
  · rw [hget, get_clr_ne (by decide), restEnter_state h]
  · rw [on_congr (hget ..), on_clr]

/-! ### Listening (R116, R364) -/

/-- The wake of a resting device starts at once (Table PWR-5). -/
theorem restWake_of_rest (h : s.get F.PWR_REST_STAT_STATE = 2) : (Rest.wake s).get F.PWR_REST_STAT_STATE = 3 := by
  have hput : (s.put F.PWR_REST_STAT_STATE 3).get F.PWR_REST_STAT_STATE = 3 := get_put_lt (by decide) (by decide)
  have hbegin : Rest.wake s = Rest.begin s := by simp only [Rest.wake, Rest.state, h]
  rw [hbegin]
  dsimp only [Rest.begin]
  split
  · exact (get_set_ne (by decide)).trans hput
  · exact (Pwr_askVmin_moves (W := Misses F.PWR_REST_STAT_STATE) rfl rfl rfl rfl rfl rfl .refl).get_misses.trans hput

/-- What a listen stands in. -/
def listenFields : List Machine.Field := [H.VLK_LISTEN_MF, H.VLK_LISTENING, H.VLK_HEARD, H.VLK_LISTEN_READ]

theorem restWake_get (hg : g ∈ listenFields) : (Rest.wake s).get g = s.get g :=
  get_of_sparing (l := listenFields) (Rest_wake_moves (W := Sparing listenFields) rfl rfl rfl rfl rfl rfl rfl rfl .refl) hg

/-- The leaf as it begins to listen in a multiframe. -/
def listening (mfn : Nat) (s : State) : State :=
  ((((s.put H.VLK_LISTEN_MF mfn).set H.VLK_LISTENING).clr H.VLK_HEARD).clr H.VLK_LISTEN_READ).clr H.VLK_RETRY

/-- A multiframe number is START_MF where none lies between them. -/
theorem mfSince_ne_zero {start : Nat} (hstart : start < 2 ^ 24) (h : mfn % 2 ^ 24 ≠ start) : Scm.mfSince mfn start ≠ 0 := by
  unfold Scm.mfSince
  omega

/-- LISTEN_WAKE. -/
theorem listenWake_runs (hleaf : s.leaf = true) (hen : s.on F.VLK_CTRL_EN = true) (hstate : s.get F.VLK_SELF_STATE = 5)
    (hgrant : s.on H.VLK_S_REST = true) (hlisten : s.on H.VLK_LISTENING = false) (hafter : mfn % 2 ^ 24 ≠ s.get H.VLK_S_START)
    (hcycle : Scm.mfSince mfn (s.get H.VLK_S_START) % s.get H.VLK_S_CYCLE = 0) :
    runs (.listenWake mfn) s (fun t => t.get H.VLK_LISTEN_MF = mfn % 2 ^ 24 ∧ t.on H.VLK_LISTENING = true ∧ t.on H.VLK_HEARD = false ∧
      t.on H.VLK_LISTEN_READ = false ∧ (s.get F.PWR_REST_STAT_STATE = 2 → t.get F.PWR_REST_STAT_STATE = 3)) := by
  have hsince := mfSince_ne_zero (State_get_lt ..) hafter
  have hwake : Vlk.listenWake mfn s = Rest.wake (listening mfn s) :=
    if_pos (by rw [hleaf, Vlk.enabled, hen, Vlk.state, hstate, hgrant, hlisten, bne_iff_ne.mpr hsince, hcycle]; rfl)
  refine runs_reads (congrArg (done s) hwake) fun t hget _ => ⟨?_, ?_, ?_, ?_, fun hrest => ?_⟩
  · rw [hget, restWake_get (by decide), listening]
    simp (disch := decide) only [get_clr_ne, get_set_ne]
    exact State_get_put_same _ _ _ _ _ _ (by decide)
  · rw [on_congr (hget ..), on_congr (restWake_get (by decide)), listening]
    simp (disch := decide) only [on_clr_ne]
    exact on_set (by decide) (by decide)
  · rw [on_congr (hget ..), on_congr (restWake_get (by decide)), listening, on_clr_ne (by decide), on_clr_ne (by decide), on_clr]
  · rw [on_congr (hget ..), on_congr (restWake_get (by decide)), listening, on_clr_ne (by decide), on_clr]
  · rw [hget, restWake_of_rest]
    rw [listening]
    simp (disch := decide) only [get_clr_ne, get_set_ne, get_put_ne]
    exact hrest

/-- LISTEN_END. -/
theorem listenEnd_runs (hon : Vlk.leafOn s = true) (hstate : s.get F.VLK_SELF_STATE = 5) (hlisten : s.on H.VLK_LISTENING = true)
    (hread : s.on H.VLK_LISTEN_READ = true) (hheard : s.on H.VLK_HEARD = false) (hgrant : s.on H.VLK_S_REST = true)
    (hframes : max 1 (s.get H.VLK_S_LISTEN) ≤ frames) :
    runs (.listenEnd frames) s (fun t => t.on H.VLK_LISTENING = false ∧ (Rest.refusal s = 0 → t.get F.PWR_REST_STAT_STATE = 1)) := by
  have hends : Vlk.listenEnd frames s = Vlk.askRest (s.clr H.VLK_LISTENING) :=
    if_pos (by rw [hon, decide_eq_true hframes, Vlk.state, hstate, hlisten, hread, hheard, hgrant]; rfl)
  have hrefusal : Rest.refusal (s.clr H.VLK_LISTENING) = Rest.refusal s :=
    refusal_of_sparing (Moves.clr _ _ _ rfl .refl)
  refine runs_reads (congrArg (done s) hends) fun t hget _ => ⟨?_, fun h => ?_⟩
  · have hkept (v : State) : (Vlk.askRest v).get H.VLK_LISTENING = v.get H.VLK_LISTENING :=
      (Vlk_askRest_moves (W := Misses H.VLK_LISTENING) rfl rfl rfl rfl rfl rfl rfl rfl rfl .refl).get_misses
    rw [on_congr (hget ..), on_congr (hkept _), on_clr]
  · rw [← hrefusal] at h
    rw [hget, askRest_accepted h, restEnter_state h]

/-! ### LEAF_LOST_TMO (R121) -/

/-- A leaf that has lost its beacon, before its master is reset. -/
def lostLeaf (s : State) : State :=
  Vlk.silence ((((s.put H.VLK_PREV_LEAF (s.get F.VLK_SELF_LEAF)).set F.VLK_INT_CAUSE_LEAF_LOST).clr H.VLK_S_REST).clr H.VLK_LISTENING)

/-- The fields in which a lost leaf stands. -/
def lostFields : List Machine.Field := [F.VLK_SELF_STATE, H.VLK_PREV_LEAF, F.VLK_INT_CAUSE_LEAF_LOST, F.VLK_SELF_SILENT]

theorem setState_lost (h : s.get F.VLK_SELF_STATE ≠ 6) : Vlk.setState 6 s = Mbx.masterReset 97 (lostLeaf (stateIs 6 s)) := if_neg h

theorem masterReset_lost (hg : g ∈ lostFields) : (Mbx.masterReset 97 s).get g = s.get g := by
  refine get_of_sparing (l := lostFields) ?_ hg
  apply Mbx_masterReset_moves (h := .refl) <;> rfl

theorem lostLeaf_shows : (lostLeaf s).get F.VLK_SELF_STATE = s.get F.VLK_SELF_STATE ∧
    (lostLeaf s).get H.VLK_PREV_LEAF = s.get F.VLK_SELF_LEAF ∧ (lostLeaf s).on F.VLK_INT_CAUSE_LEAF_LOST = true ∧
    (lostLeaf s).on F.VLK_SELF_SILENT = true := by
  have hsilence (v : State) {g : Machine.Field} (hg : g ∈ lostFields.take 3) : (Vlk.silence v).get g = v.get g :=
    get_of_sparing (l := lostFields.take 3) (Vlk_silence_moves (W := Sparing (lostFields.take 3)) rfl rfl rfl rfl rfl .refl) hg
  refine ⟨?_, ?_, ?_, on_set (by decide) (by decide)⟩
  · rw [lostLeaf, hsilence _ (by decide)]
    simp (disch := decide) only [get_clr_ne, get_set_ne, get_put_ne]
  · rw [lostLeaf, hsilence _ (by decide)]
    simp (disch := decide) only [get_clr_ne, get_set_ne]
    exact get_put_lt (by decide) (Nat.lt_of_lt_of_le (State_get_lt ..) (by decide))
  · rw [lostLeaf, on_congr (hsilence _ (by decide)), on_clr_ne (by decide), on_clr_ne (by decide), on_set (by decide) (by decide)]

/-- What LEAF_LOST_TMO waits for: silence in the tree, or a listen that reads nothing. -/
def lossCondition (s : State) : Prop :=
  ((s.get F.VLK_SELF_STATE = 3 ∨ s.get F.VLK_SELF_STATE = 4) ∧ Vlk.mustBeSilent s = true) ∨
    (s.get F.VLK_SELF_STATE = 5 ∧ s.on H.VLK_LISTENING = true ∧ s.on H.VLK_LISTEN_READ = false)

theorem lostTimeout_loses (hleaf : s.leaf = true) (hen : s.on F.VLK_CTRL_EN = true) (hcond : lossCondition s)
    (hms : s.get F.VLK_REST_CFG_LOST_MS ≤ ms) : Vlk.lostTimeout ms s = Vlk.setState 6 s := by
  have hjudged : (((Vlk.state s == 3 || Vlk.state s == 4) && Vlk.mustBeSilent s) ||
      (Vlk.state s == 5 && s.on H.VLK_LISTENING && !s.on H.VLK_LISTEN_READ)) = true := by
    rcases hcond with ⟨h | h, hsilent⟩ | ⟨h, hlisten, hread⟩
    · simp [Vlk.state, h, hsilent]
    · simp [Vlk.state, h, hsilent]
    · simp [Vlk.state, h, hlisten, hread]
  unfold Vlk.lostTimeout
  rw [hjudged, hleaf, Vlk.enabled, hen, decide_eq_true hms]
  rfl

/-- LEAF_LOST_TMO. -/
theorem leafLostTmo_runs (hleaf : s.leaf = true) (hen : s.on F.VLK_CTRL_EN = true) (hcond : lossCondition s)
    (hms : s.get F.VLK_REST_CFG_LOST_MS ≤ ms) :
    runs (.leafLostTmo ms) s (fun t => t.get F.VLK_SELF_STATE = 6 ∧ t.get H.VLK_PREV_LEAF = s.get F.VLK_SELF_LEAF ∧
      t.on F.VLK_INT_CAUSE_LEAF_LOST = true ∧ t.on F.VLK_SELF_SILENT = true) := by
  have hne : s.get F.VLK_SELF_STATE ≠ 6 := by
    unfold lossCondition at hcond
    omega
  obtain ⟨hstate, hprev, hcause, hsilent⟩ := lostLeaf_shows (s := stateIs 6 s)
  have hlost := (lostTimeout_loses hleaf hen hcond hms).trans (setState_lost hne)
  refine runs_reads (congrArg (done s) hlost) fun t hget _ => ⟨?_, ?_, ?_, ?_⟩
  · rw [hget, masterReset_lost (by decide), hstate, stateIs_state (by decide)]
  · rw [hget, masterReset_lost (by decide), hprev, stateIs, get_set_ne (by decide), get_put_ne (by decide)]
  · rw [on_congr (hget ..), on_congr (masterReset_lost (by decide)), hcause]
  · rw [on_congr (hget ..), on_congr (masterReset_lost (by decide)), hsilent]

/-- Settles O30, with one lemma for each command: what its conditions make of the operation, then the fields and the messages that it leaves.
The window that begins anew after a closed opportunity is the model's choice (assumption 34). -/
theorem vlkRegistrationAndRestResults : Obligations.VlkRegistrationAndRestResults := by
  unfold Obligations.VlkRegistrationAndRestResults
  refine ⟨fun s mfn fn i sc opp hon hstate hgiveup hwait hsilent hself huse hi hopp hamong hburst => regAttempt_runs
      (regAttempt_taken hon hstate hgiveup hwait hsilent hself huse hi hopp hamong hburst),
    fun s frames => regTmo_runs, fun s => regGo_runs, fun s value => regOpen_runs, fun s mfn => upstreamStart_runs,
    fun s mfn => leafRestStart_runs, fun s => restRetry_runs, fun s mfn => listenWake_runs, fun s frames => listenEnd_runs,
    fun s ms => leafLostTmo_runs⟩

end Sys2Proof.Proofs

/-! SUPPORT. The link of a leaf, its silence, its registration and its wake (R97, R98, R102, R109, R119, R121), and O29. -/
namespace Sys2Proof.Proofs
open Sys2Proof Sys2Proof.Machine Sys2Proof.Laws

variable {s t u : State} {g : Machine.Field}
  {addr badLen beacon crcOk eqd0 eqd1 feeder flags frames freq gann gnext gver i idHi idLo j khi leaf member mfn n regOpen seq start tree v0 v1
    wake : Nat}

/-! ### The states of a leaf (R121) -/

theorem setState_search (h : s.get F.VLK_SELF_STATE ≠ 1) : Vlk.setState 1 s = Mbx.masterReset 97 (unregistered s) := if_neg h

theorem setState_search_state : (Vlk.setState 1 s).get F.VLK_SELF_STATE = 1 := by
  by_cases h : s.get F.VLK_SELF_STATE = 1
  · rw [Vlk.setState, Vlk.state, if_pos h, h]
  · rw [setState_search_get h (by decide), unregistered_state]

theorem setState_off_state : (Vlk.setState 0 s).get F.VLK_SELF_STATE = 0 := by
  by_cases h : s.get F.VLK_SELF_STATE = 0
  · rw [Vlk.setState, Vlk.state, if_pos h, h]
  · have hset : Vlk.setState 0 s = stateIs 0 s := if_neg h
    rw [hset, stateIs_state (by decide)]

theorem setState_en : (Vlk.setState n s).get F.VLK_CTRL_EN = s.get F.VLK_CTRL_EN := by
  refine get_of_sparing (l := [F.VLK_CTRL_EN]) ?_ (by decide)
  apply Vlk_setState_moves (h := .refl) <;> rfl

/-- What silence leaves of the link. -/
def linkFields : List Machine.Field := [F.VLK_CTRL_EN, F.VLK_SELF_STATE, F.VLK_SELF_LEAF]

theorem silence_get (hg : g ∈ linkFields) : (Vlk.silence s).get g = s.get g :=
  get_of_sparing (l := linkFields) (Vlk_silence_moves (W := Sparing linkFields) rfl rfl rfl rfl rfl .refl) hg

theorem silence_silent : (Vlk.silence s).on F.VLK_SELF_SILENT = true := on_set (by decide) (by decide)

/-! ### VLK_ENABLE and VLK_DISABLE (R386) -/

theorem enable_eq (hen : s.on F.VLK_CTRL_EN = false) :
    Vlk.enable s = if s.leaf then Vlk.silence (Vlk.setState 1 (s.set F.VLK_CTRL_EN)) else s.set F.VLK_CTRL_EN := by
  have hleaf : (s.set F.VLK_CTRL_EN).leaf = s.leaf := by rw [State.leaf, get_set_ne (by decide), State.leaf]
  rw [← hleaf]
  exact if_neg (by rw [Vlk.enabled, hen]; exact Bool.false_ne_true)

/-- VLK_ENABLE. -/
theorem vlkEnable_runs (ht : takes .VLK_CTRL s = true) (hen : s.on F.VLK_CTRL_EN = false) :
    runs .vlkEnable s (fun t => t.on F.VLK_CTRL_EN = true ∧
      (s.leaf = true → t.get F.VLK_SELF_STATE = 1 ∧ t.on F.VLK_SELF_SILENT = true)) := by
  refine quietRow_runs rfl ht rfl (by decide) fun t hget => ⟨?_, fun hleaf => ⟨?_, ?_⟩⟩
  · rw [on_congr (hget _ _ _ (by decide)), enable_eq hen]
    split
    · rw [on_congr (silence_get (by decide)), on_congr setState_en, on_set (by decide) (by decide)]
    · exact on_set (by decide) (by decide)
  · rw [hget _ _ _ (by decide), enable_eq hen, if_pos hleaf, silence_get (by decide), setState_search_state]
  · rw [on_congr (hget _ _ _ (by decide)), enable_eq hen, if_pos hleaf, silence_silent]

/-- The device whose link has been disabled, before a leaf leaves the tree. -/
def disabled (s : State) : State := Mbx.masterReset 97 (s.clr F.VLK_CTRL_EN)

theorem disabled_get (hg : g ∈ [F.VLK_CTRL_EN, F.SYS_ROLE_ROLE]) : (disabled s).get g = (s.clr F.VLK_CTRL_EN).get g := by
  refine get_of_sparing (l := [F.VLK_CTRL_EN, F.SYS_ROLE_ROLE]) ?_ hg
  apply Mbx_masterReset_moves (h := .refl) <;> rfl

theorem disable_eq (hen : s.on F.VLK_CTRL_EN = true) :
    Vlk.disable s = if s.leaf then Vlk.silence ((Vlk.setState 0 (disabled s)).put F.VLK_SELF_LEAF 0x1FF) else disabled s := by
  have hleaf : (disabled s).leaf = s.leaf := by rw [State.leaf, disabled_get (by decide), get_clr_ne (by decide), State.leaf]
  rw [← hleaf]
  exact if_pos hen

/-- VLK_DISABLE. -/
theorem vlkDisable_runs (ht : takes .VLK_CTRL s = true) (hen : s.on F.VLK_CTRL_EN = true) :
    runs .vlkDisable s (fun t => t.on F.VLK_CTRL_EN = false ∧
      (s.leaf = true → t.get F.VLK_SELF_STATE = 0 ∧ t.get F.VLK_SELF_LEAF = 0x1FF ∧ t.on F.VLK_SELF_SILENT = true)) := by
  have hoff : (disabled s).on F.VLK_CTRL_EN = false := by rw [on_congr (disabled_get (by decide)), on_clr]
  refine quietRow_runs rfl ht rfl (by decide) fun t hget => ⟨?_, fun hleaf => ⟨?_, ?_, ?_⟩⟩
  · rw [on_congr (hget _ _ _ (by decide)), disable_eq hen]
    split
    · rw [on_congr (silence_get (by decide)), on_put_ne (by decide), on_congr setState_en, hoff]
    · exact hoff
  · rw [hget _ _ _ (by decide), disable_eq hen, if_pos hleaf, silence_get (by decide), get_put_ne (by decide), setState_off_state]
  · rw [hget _ _ _ (by decide), disable_eq hen, if_pos hleaf, silence_get (by decide), get_put_lt (by decide) (by decide)]
  · rw [on_congr (hget _ _ _ (by decide)), disable_eq hen, if_pos hleaf, silence_silent]

/-! ### VDF_RECEIVE (R102, R107, R112, R120) -/

theorem wakeUp_uncalled (h : s.get F.VLK_SELF_STATE ≠ 5) : Vlk.wakeUp s = s := if_neg (by simp [Vlk.called, h])

/-- The leaf after the beacon of a VDF. -/
def vdfBeacon (regOpen : Nat) (s : State) : State := Vlk.foundBeacon ((s.clr H.VLK_NO_VDF).put H.VLK_OPEN_NOW regOpen)

/-- The leaf after the feeder that a VDF names. -/
def vdfFeeder (feeder : Nat) (s : State) : State :=
  Vlk.wakeUp (if Vlk.state (s.put H.VLK_FEEDER_IN feeder) < 3 then (s.put H.VLK_FEEDER_IN feeder).put H.VLK_FEEDER_USE feeder
    else Vlk.feederCheck (s.put H.VLK_FEEDER_IN feeder))

/-- The leaf after a sound VDF of its tree and beacon. -/
def vdfTaken (feeder regOpen mfn wake gver gann gnext : Nat) (s : State) : State :=
  vdfFeeder feeder (Vlk.readGrants mfn gver gann gnext (Vlk.readListen mfn wake (vdfBeacon regOpen s)))

theorem vdfReceive_taken (hon : Vlk.leafOn s = true) (hcrc : crcOk ≠ 0) (htree : Vlk.treeMatches s tree = true)
    (hbeacon : beacon = s.get F.LRX_RXGRP_K_LO) :
    Vlk.vdfReceive tree beacon feeder regOpen mfn wake gver gann gnext crcOk badLen s =
      if badLen = 0 then vdfTaken feeder regOpen mfn wake gver gann gnext s
      else (vdfTaken feeder regOpen mfn wake gver gann gnext s).count F.VLK_CRC_ERR_CNT_COUNT := by
  have htree' : Vlk.treeMatches (s.clr H.VLK_NO_VDF) tree = true := by
    rw [Vlk.treeMatches, get_clr_ne (by decide), ← Vlk.treeMatches, htree]
  have hgroup : (s.clr H.VLK_NO_VDF).get F.LRX_RXGRP_K_LO = s.get F.LRX_RXGRP_K_LO := get_clr_ne (by decide)
  unfold Vlk.vdfReceive
  rw [if_neg (by simp [hon]), if_neg hcrc]
  exact if_neg (by simp [htree', hbeacon, hgroup])

/-- The fields that a VDF writes by its header alone, and the count of discarded frames. -/
def headerFields : List Machine.Field := [F.VLK_CRC_ERR_CNT_COUNT, H.VLK_NO_VDF, H.VLK_OPEN_NOW, H.VLK_FEEDER_IN, H.VLK_RX_GVER]

theorem vdfFeeder_get (hg : g ∈ headerFields) : (vdfFeeder feeder s).get g = (s.put H.VLK_FEEDER_IN feeder).get g := by
  refine get_of_sparing (l := headerFields) ?_ hg
  unfold vdfFeeder
  generalize s.put H.VLK_FEEDER_IN feeder = u
  have hfeeder : Moves (Sparing headerFields) u
      (if Vlk.state u < 3 then u.put H.VLK_FEEDER_USE feeder else Vlk.feederCheck u) := by
    refine moves_ite (.put _ _ _ _ _ rfl .refl) ?_
    apply Vlk_feederCheck_moves (h := .refl) <;> rfl
  apply Vlk_wakeUp_moves (h := hfeeder) <;> rfl

theorem readGrants_ver : (Vlk.readGrants mfn gver gann gnext s).get H.VLK_RX_GVER = gver % 2 ^ 8 := by
  have hput : (s.put H.VLK_RX_GVER gver).get H.VLK_RX_GVER = gver % 2 ^ 8 := State_get_put_same _ _ _ _ _ _ (by decide)
  rw [← hput]
  refine get_of_sparing (l := [H.VLK_RX_GVER]) ?_ (by decide)
  unfold Vlk.readGrants
  extract_lets u x v w
  have hv : Moves (Sparing [H.VLK_RX_GVER]) u v := moves_ite .refl (.vlk _ rfl .refl)
  have hw : Moves (Sparing [H.VLK_RX_GVER]) u w := moves_ite (.put _ _ _ _ _ rfl (.set _ _ _ rfl hv)) hv
  exact moves_ite (.clr _ _ _ rfl hw) (moves_ite (.put _ _ _ _ _ rfl (.set _ _ _ rfl hw))
    (moves_ite hw (Vlk_toHub_moves (W := Sparing [H.VLK_RX_GVER]) rfl rfl _ _ _ (.set _ _ _ rfl hw))))

/-- What the wake bits and the grants of a VDF leave. -/
def vdfBankFields : List Machine.Field := [F.VLK_CRC_ERR_CNT_COUNT, H.VLK_NO_VDF, H.VLK_OPEN_NOW, F.VLK_SELF_STATE]

theorem vdfBanks_get (hg : g ∈ vdfBankFields) :
    (Vlk.readGrants mfn gver gann gnext (Vlk.readListen mfn wake s)).get g = s.get g :=
  get_of_sparing (l := vdfBankFields) (Vlk_readGrants_moves (W := Sparing vdfBankFields) rfl rfl rfl rfl rfl rfl _ _ _ _
    (Vlk_readListen_moves (W := Sparing vdfBankFields) rfl rfl _ _ .refl)) hg

theorem vdfBeacon_get (hg : g ∈ headerFields) :
    (vdfBeacon regOpen s).get g = ((s.clr H.VLK_NO_VDF).put H.VLK_OPEN_NOW regOpen).get g := by
  refine get_of_sparing (l := headerFields) ?_ hg
  apply Vlk_foundBeacon_moves (h := .refl) <;> rfl

/-- What a VDF's header leaves. -/
theorem vdfTaken_shows : (vdfTaken feeder regOpen mfn wake gver gann gnext s).get H.VLK_NO_VDF = 0 ∧
    (vdfTaken feeder regOpen mfn wake gver gann gnext s).get H.VLK_OPEN_NOW = regOpen % 2 ∧
    (vdfTaken feeder regOpen mfn wake gver gann gnext s).get H.VLK_FEEDER_IN = feeder % 4 ∧
    (vdfTaken feeder regOpen mfn wake gver gann gnext s).get H.VLK_RX_GVER = gver % 256 ∧
    (vdfTaken feeder regOpen mfn wake gver gann gnext s).get F.VLK_CRC_ERR_CNT_COUNT = s.get F.VLK_CRC_ERR_CNT_COUNT := by
  refine ⟨?_, ?_, ?_, ?_, ?_⟩
  · rw [vdfTaken, vdfFeeder_get (by decide), get_put_ne (by decide), vdfBanks_get (by decide), vdfBeacon_get (by decide),
      get_put_ne (by decide), get_clr]
  · rw [vdfTaken, vdfFeeder_get (by decide), get_put_ne (by decide), vdfBanks_get (by decide), vdfBeacon_get (by decide)]
    exact State_get_put_same _ _ _ _ _ _ (by decide)
  · rw [vdfTaken, vdfFeeder_get (by decide)]
    exact State_get_put_same _ _ _ _ _ _ (by decide)
  · rw [vdfTaken, vdfFeeder_get (by decide), get_put_ne (by decide)]
    exact readGrants_ver
  · rw [vdfTaken, vdfFeeder_get (by decide), get_put_ne (by decide), vdfBanks_get (by decide), vdfBeacon_get (by decide),
      get_put_ne (by decide), get_clr_ne (by decide)]

/-- The beacon of the tree, in track and in frame, makes the searching leaf a stranger. -/
theorem vdfBeacon_stranger (hstate : s.get F.VLK_SELF_STATE = 1) (htrack : s.get F.LRX_STAT_STATE = 5)
    (hframe : s.get F.FRM_ALIGN_STAT_STATE = 2) : (vdfBeacon regOpen s).get F.VLK_SELF_STATE = 2 := by
  generalize hu : (s.clr H.VLK_NO_VDF).put H.VLK_OPEN_NOW regOpen = u
  have hkept {g : Machine.Field} (h : apart H.VLK_OPEN_NOW g = true ∧ apart H.VLK_NO_VDF g = true) : u.get g = s.get g := by
    rw [← hu, get_put_ne h.1, get_clr_ne h.2]
  have hsearch : (u.put H.VLK_PREV_LEAF 0x3FF).get F.VLK_SELF_STATE = 1 := by rw [get_put_ne (by decide), hkept (by decide), hstate]
  have hfound : Vlk.foundBeacon u = Vlk.aimLaser (Vlk.setState 2 (u.put H.VLK_PREV_LEAF 0x3FF)) := by
    rw [Vlk.foundBeacon, Lrx.state, hkept (by decide), htrack, hkept (by decide), hframe, if_pos ⟨rfl, rfl⟩]
    simp only [Vlk.state, hkept (g := F.VLK_SELF_STATE) (by decide), hstate]
  have hset : Vlk.setState 2 (u.put H.VLK_PREV_LEAF 0x3FF) = Vlk.attemptFrom (((((stateIs 2 (u.put H.VLK_PREV_LEAF 0x3FF)).put
      F.VLK_SELF_LEAF 0x1FF).clr H.VLK_UP_ON).clr H.VLK_ATTEMPT).clr H.VLK_REG_WAIT) := if_neg (by rw [Vlk.state, hsearch]; decide)
  have haim (v : State) : (Vlk.aimLaser v).get F.VLK_SELF_STATE = v.get F.VLK_SELF_STATE := by
    refine get_of_sparing (l := [F.VLK_SELF_STATE]) ?_ (by decide)
    apply Vlk_aimLaser_moves (h := .refl) <;> rfl
  rw [vdfBeacon, hu, hfound, haim, hset, Vlk.attemptFrom]
  simp (disch := decide) only [get_put_ne, get_clr_ne]
  exact stateIs_state (by decide)

theorem vdfFeeder_stranger (h : s.get F.VLK_SELF_STATE = 2) : (vdfFeeder feeder s).get F.VLK_SELF_STATE = 2 := by
  have hin : (s.put H.VLK_FEEDER_IN feeder).get F.VLK_SELF_STATE = 2 := by rw [get_put_ne (by decide), h]
  have huse : ((s.put H.VLK_FEEDER_IN feeder).put H.VLK_FEEDER_USE feeder).get F.VLK_SELF_STATE = 2 := by rw [get_put_ne (by decide), hin]
  rw [vdfFeeder, if_pos (by rw [Vlk.state, hin]; decide), wakeUp_uncalled (by rw [huse]; decide), huse]

/-- VDF_RECEIVE of a sound VDF. -/
theorem vdfReceive_runs (hon : Vlk.leafOn s = true) (hcrc : crcOk ≠ 0) (htree : Vlk.treeMatches s tree = true)
    (hbeacon : beacon = s.get F.LRX_RXGRP_K_LO) :
    runs (.vdfReceive tree beacon feeder regOpen mfn wake gver gann gnext crcOk badLen) s (fun t => t.get H.VLK_NO_VDF = 0 ∧
      t.get H.VLK_OPEN_NOW = regOpen % 2 ∧ t.get H.VLK_FEEDER_IN = feeder % 4 ∧ t.get H.VLK_RX_GVER = gver % 256 ∧
      (s.get F.VLK_SELF_STATE = 1 ∧ s.get F.LRX_STAT_STATE = 5 ∧ s.get F.FRM_ALIGN_STAT_STATE = 2 → t.get F.VLK_SELF_STATE = 2) ∧
      (badLen ≠ 0 → t.get F.VLK_CRC_ERR_CNT_COUNT = min (2 ^ 32 - 1) (s.get F.VLK_CRC_ERR_CNT_COUNT + 1))) := by
  generalize hu : vdfTaken feeder regOpen mfn wake gver gann gnext s = u
  obtain ⟨hmissed, hopen, hfeeder, hver, herr⟩ := hu ▸
    vdfTaken_shows (s := s) (feeder := feeder) (regOpen := regOpen) (mfn := mfn) (wake := wake) (gver := gver) (gann := gann) (gnext := gnext)
  have hkept {g : Machine.Field} (h : apart F.VLK_CRC_ERR_CNT_COUNT g = true) :
      (if badLen = 0 then u else u.count F.VLK_CRC_ERR_CNT_COUNT).get g = u.get g := by
    split
    · rfl
    · exact get_count_ne h
  refine runs_fields (congrArg (Access.doneMirrored s) (hu ▸ vdfReceive_taken hon hcrc htree hbeacon)) fun t hget =>
    ⟨?_, ?_, ?_, ?_, fun ⟨hstate, htrack, hframe⟩ => ?_, fun hbad => ?_⟩
  · rw [hget, hkept (by decide), hmissed]
  · rw [hget, hkept (by decide), hopen]
  · rw [hget, hkept (by decide), hfeeder]
  · rw [hget, hkept (by decide), hver]
  · rw [hget, hkept (by decide), ← hu, vdfTaken, vdfFeeder_stranger]
    rw [vdfBanks_get (by decide), vdfBeacon_stranger hstate htrack hframe]
  · rw [hget, if_neg hbad, get_count (by decide), herr]
    rfl

/-- VDF_RECEIVE of one with a bad check. -/
theorem vdfReceive_bad_runs (hon : Vlk.leafOn s = true) :
    runs (.vdfReceive tree beacon feeder regOpen mfn wake gver gann gnext 0 badLen) s (fun t =>
      t.get F.VLK_CRC_ERR_CNT_COUNT = min (2 ^ 32 - 1) (s.get F.VLK_CRC_ERR_CNT_COUNT + 1) ∧ s.get H.VLK_NO_VDF ≤ t.get H.VLK_NO_VDF ∧
      t.get F.VLK_SELF_STATE = s.get F.VLK_SELF_STATE) := by
  have hbad : Vlk.vdfReceive tree beacon feeder regOpen mfn wake gver gann gnext 0 badLen s =
      (s.count F.VLK_CRC_ERR_CNT_COUNT).count H.VLK_NO_VDF := by
    unfold Vlk.vdfReceive
    rw [if_neg (by simp [hon]), if_pos rfl]
  refine runs_fields (congrArg (Access.doneMirrored s) hbad) fun t hget => ⟨?_, ?_, ?_⟩
  · rw [hget, get_count_ne (by decide), get_count (by decide)]
    rfl
  · have hlt : s.get H.VLK_NO_VDF < 2 ^ (H.VLK_NO_VDF).width := State_get_lt ..
    rw [hget, get_count (by decide), get_count_ne (by decide)]
    omega
  · rw [hget, get_count_ne (by decide), get_count_ne (by decide)]

/-! ### BEACON_LOST and REG_REJECT (R107, R121) -/

/-- A stranger that returns to SEARCH. -/
theorem search_shows (hstate : s.get F.VLK_SELF_STATE = 2) : (Vlk.setState 1 s).get F.VLK_SELF_STATE = 1 ∧
    (Vlk.setState 1 s).get F.VLK_SELF_LEAF = 0x1FF ∧ (Vlk.setState 1 s).on F.VLK_INT_CAUSE_STATE_CHG = true ∧
    (Vlk.setState 1 s).on F.VLK_SELF_SILENT = true := by
  have hne : s.get F.VLK_SELF_STATE ≠ 1 := by omega
  refine ⟨setState_search_state, ?_, ?_, ?_⟩
  · rw [setState_search_get hne (by decide), unregistered_leaf]
  · have hreset (v : State) : (Mbx.masterReset 97 (Vlk.silence v)).get F.VLK_INT_CAUSE_STATE_CHG = v.get F.VLK_INT_CAUSE_STATE_CHG := by
      have hsilence : Moves (Sparing [F.VLK_INT_CAUSE_STATE_CHG]) v (Vlk.silence v) := Vlk_silence_moves rfl rfl rfl rfl rfl .refl
      refine get_of_sparing (l := [F.VLK_INT_CAUSE_STATE_CHG]) ?_ (by decide)
      apply Mbx_masterReset_moves (h := hsilence) <;> rfl
    rw [setState_search hne, unregistered, on_congr (hreset _)]
    simp (disch := decide) only [on_clr_ne, on_put_ne]
    exact on_set (by decide) (by decide)
  · rw [on_congr (setState_search_get hne (by decide)), unregistered_silent]

/-- BEACON_LOST. -/
theorem beaconLost_runs (hleaf : s.leaf = true) (hen : s.on F.VLK_CTRL_EN = true) (hstate : s.get F.VLK_SELF_STATE = 2) (hframes : 16 ≤ frames) :
    runs (.beaconLost frames) s (fun t => t.get F.VLK_SELF_STATE = 1 ∧ t.get F.VLK_SELF_LEAF = 0x1FF ∧
      t.on F.VLK_INT_CAUSE_STATE_CHG = true ∧ t.on F.VLK_SELF_SILENT = true) := by
  have hlost : Vlk.beaconLost frames s = Vlk.setState 1 s :=
    if_pos (by rw [hleaf, Vlk.enabled, hen, Vlk.state, hstate, decide_eq_true hframes]; rfl)
  refine runs_reads (congrArg (done s) hlost) fun t hget _ => ?_
  rw [hget, hget, on_congr (hget ..), on_congr (hget ..)]
  exact search_shows hstate

/-- REG_REJECT. -/
theorem regReject_runs (hon : Vlk.leafOn s = true) (hstate : s.get F.VLK_SELF_STATE = 2) (hmine : Vlk.isMine s idLo idHi = true) :
    runs (.regReject idLo idHi) s (fun t => t.get F.VLK_SELF_STATE = 1) := by
  have hreject : Vlk.regReject idLo idHi s = Vlk.setState 1 s := if_pos (by rw [hon, Vlk.state, hstate, hmine]; rfl)
  exact runs_reads (congrArg (done s) hreject) fun t hget _ => (hget ..).trans setState_search_state

/-! ### REG_ASSIGN (R73, R97, R109) -/

/-- The stranger with its number. -/
def joinSelf (leaf member : Nat) (s : State) : State := ((stateIs 3 s).put F.VLK_SELF_LEAF leaf).put F.VLK_SELF_MEMBER member

/-- The receiver moved to another group. -/
def groupMoved (beacon khi : Nat) (s : State) : State := Lrx.writeRxGrp (beacon + 65536 * khi) (Lrx.disable s)

/-- The receiver on the group of the beacon. -/
def joinGroup (beacon khi : Nat) (s : State) : State :=
  if s.get F.LRX_RXGRP_K_LO = beacon then s
  else if s.on F.LRX_CTRL_EN then Lrx.enable (groupMoved beacon khi s) else groupMoved beacon khi s

/-- The EqD of both feeders. -/
def joinEqd (eqd0 v0 eqd1 v1 : Nat) (s : State) : State :=
  (((s.put F.VLK_SELF_EQD_EQD eqd0 0).put F.VLK_SELF_EQD_VALID v0 0).put F.VLK_SELF_EQD_EQD eqd1 1).put F.VLK_SELF_EQD_VALID v1 1

/-- The EqD of the feeder of the header in use. -/
def joinFeeder (s : State) : State := Vlk.takeEqd ((s.put H.VLK_FEEDER_USE (s.get H.VLK_FEEDER_IN)).clr H.VLK_EQD_DELTA)

/-- The signal laser on its frequency, and the allocation from START_MF. -/
def joinEnd (freq start : Nat) (s : State) : State :=
  ((((Vlk.aimLaser (Ltx.writeFreqOfs freq s)).put H.VLK_UP_START start).clr H.VLK_UP_ON).clr H.VLK_REG_WAIT).clr H.VLK_ATTEMPT

theorem join_eq (h : s.get F.VLK_SELF_STATE = 2) : Vlk.join leaf beacon member khi eqd0 v0 eqd1 v1 freq start s =
    joinEnd freq start (joinFeeder (joinEqd eqd0 v0 eqd1 v1 (joinGroup beacon khi (joinSelf leaf member s)))) := by
  have hset : Vlk.setState 3 s = stateIs 3 s := if_neg (by rw [Vlk.state, h]; decide)
  rw [Vlk.join, hset]
  rfl

/-- What a REG_ASSIGN gives the leaf. -/
def assignedFields : List Machine.Field :=
  [F.VLK_SELF_STATE, F.VLK_SELF_LEAF, F.VLK_SELF_MEMBER, F.VLK_SELF_EQD_EQD, F.VLK_SELF_EQD_VALID, F.LRX_RXGRP_K_LO, F.LRX_RXGRP_K_HI,
   H.VLK_FEEDER_USE, H.VLK_EQD_NOW]

theorem joinEnd_get (hg : g ∈ assignedFields) : (joinEnd freq start s).get g i = s.get g i := by
  refine get_of_sparing (l := assignedFields) ?_ hg
  unfold joinEnd
  refine .clr _ _ _ rfl (.clr _ _ _ rfl (.clr _ _ _ rfl (.put _ _ _ _ _ rfl ?_)))
  apply Vlk_aimLaser_moves (h := Ltx_writeFreqOfs_moves (W := Sparing assignedFields) rfl rfl rfl _ .refl) <;> rfl

theorem joinEnd_start : (joinEnd freq start s).get H.VLK_UP_START = start % 2 ^ 24 := by
  rw [joinEnd]
  simp (disch := decide) only [get_clr_ne]
  exact State_get_put_same _ _ _ _ _ _ (by decide)

theorem joinFeeder_get (hg : g ∈ assignedFields.take 7) : (joinFeeder s).get g i = s.get g i := by
  refine get_of_sparing (l := assignedFields.take 7) ?_ hg
  unfold joinFeeder Vlk.takeEqd
  exact .put _ _ _ _ _ rfl (.clr _ _ _ rfl (.put _ _ _ _ _ rfl .refl))

theorem joinFeeder_use : (joinFeeder s).get H.VLK_FEEDER_USE = s.get H.VLK_FEEDER_IN % 2 := by
  rw [joinFeeder, Vlk.takeEqd, get_put_ne (by decide), get_clr_ne (by decide)]
  exact State_get_put_same _ _ _ _ _ _ (by decide)

theorem joinFeeder_eqd : (joinFeeder s).get H.VLK_EQD_NOW = s.get F.VLK_SELF_EQD_EQD (s.get H.VLK_FEEDER_IN % 2) := by
  have huse : ((s.put H.VLK_FEEDER_USE (s.get H.VLK_FEEDER_IN)).clr H.VLK_EQD_DELTA).get H.VLK_FEEDER_USE = s.get H.VLK_FEEDER_IN % 2 := by
    rw [get_clr_ne (by decide)]
    exact State_get_put_same _ _ _ _ _ _ (by decide)
  rw [joinFeeder, Vlk.takeEqd, huse, get_put_get (by decide) (by decide), get_clr_ne (by decide), get_put_ne (by decide)]

theorem joinEqd_get (hg : apart F.VLK_SELF_EQD_EQD g = true ∧ apart F.VLK_SELF_EQD_VALID g = true) :
    (joinEqd eqd0 v0 eqd1 v1 s).get g = s.get g := by
  rw [joinEqd, get_put_ne hg.2, get_put_ne hg.1, get_put_ne hg.2, get_put_ne hg.1]

/-- What stands in the register of each feeder. -/
theorem joinEqd_shows : (joinEqd eqd0 v0 eqd1 v1 s).get F.VLK_SELF_EQD_EQD 0 = eqd0 % 2 ^ 24 ∧
    (joinEqd eqd0 v0 eqd1 v1 s).get F.VLK_SELF_EQD_VALID 0 = v0 % 2 ∧ (joinEqd eqd0 v0 eqd1 v1 s).get F.VLK_SELF_EQD_EQD 1 = eqd1 % 2 ^ 24 ∧
    (joinEqd eqd0 v0 eqd1 v1 s).get F.VLK_SELF_EQD_VALID 1 = v1 % 2 := by
  refine ⟨?_, ?_, ?_, State_get_put_same _ _ _ _ _ _ (by decide)⟩
  · rw [joinEqd, get_put_ne (by decide), get_put_row (by decide) (by decide), get_put_ne (by decide)]
    exact State_get_put_same _ _ _ _ _ _ (by decide)
  · rw [joinEqd, get_put_row (by decide) (by decide), get_put_ne (by decide)]
    exact State_get_put_same _ _ _ _ _ _ (by decide)
  · rw [joinEqd, get_put_ne (by decide)]
    exact State_get_put_same _ _ _ _ _ _ (by decide)

/-- What the move to another group leaves. -/
def joinedFields : List Machine.Field := [F.VLK_SELF_STATE, F.VLK_SELF_LEAF, F.VLK_SELF_MEMBER, H.VLK_FEEDER_IN]

theorem joinGroup_get (hg : g ∈ joinedFields) : (joinGroup beacon khi s).get g = s.get g := by
  refine get_of_sparing (l := joinedFields) ?_ hg
  have hmoved : Moves (Sparing joinedFields) s (groupMoved beacon khi s) := by
    refine Lrx_writeRxGrp_moves (W := Sparing joinedFields) rfl rfl rfl rfl _ ?_
    apply Lrx_disable_moves (h := .refl) <;> rfl
  refine moves_ite .refl (moves_ite ?_ hmoved)
  apply Lrx_enable_moves (h := hmoved) <;> rfl

/-- The receiver is off after its disable. -/
theorem lrxDisable_off : (Lrx.disable s).on F.LRX_CTRL_EN = false := by
  by_cases hen : s.on F.LRX_CTRL_EN = true
  · rw [on_congr (get_of_sparing (disable_moves_rest hen) (by decide)), on_congr (losEnded_get (by decide)), shutDown, on_clr_ne (by decide),
      on_congr (dropFades_get (by decide)), on_congr (relock_get (by decide)), on_congr (enter_get (by decide)), on_clr]
  · have hcancel : (Lrx.cancel s).get F.LRX_CTRL_EN = s.get F.LRX_CTRL_EN :=
      get_of_sparing (l := [F.LRX_CTRL_EN]) (Lrx_cancel_moves rfl rfl rfl rfl rfl .refl) (by decide)
    rw [Lrx.disable, if_neg hen, on_congr hcancel, Bool.eq_false_iff.mpr hen]

/-- A group within the role's limits is taken by a receiver that is off. -/
theorem writeRxGrp_takes (hoff : s.on F.LRX_CTRL_EN = false) (hlo : beacon < 512) (hhi : khi < 512) (hspan : khi ≤ beacon + 63) :
    (Lrx.writeRxGrp (beacon + 65536 * khi) s).get F.LRX_RXGRP_K_LO = beacon ∧
      (Lrx.writeRxGrp (beacon + 65536 * khi) s).get F.LRX_RXGRP_K_HI = khi := by
  have hslo : slice (beacon + 65536 * khi) 0 9 = beacon := by
    rw [slice, Nat.shiftRight_eq_div_pow]
    omega
  have hshi : slice (beacon + 65536 * khi) 16 9 = khi := by
    rw [slice, Nat.shiftRight_eq_div_pow]
    omega
  have hnarrow : ¬(s.leaf && decide (beacon + 63 < khi)) = true := by simp [Nat.not_lt.mpr hspan]
  rw [Lrx.writeRxGrp, hslo, hshi, if_neg (by simp [hoff]), if_neg hnarrow]
  exact ⟨by rw [get_put_ne (by decide), get_put_lt (by decide) hlo], get_put_lt (by decide) hhi⟩

theorem joinGroup_moves (hne : s.get F.LRX_RXGRP_K_LO ≠ beacon) (hlo : beacon < 512) (hhi : khi < 512) (hspan : khi ≤ beacon + 63) :
    (joinGroup beacon khi s).get F.LRX_RXGRP_K_LO = beacon ∧ (joinGroup beacon khi s).get F.LRX_RXGRP_K_HI = khi := by
  have hmoved := writeRxGrp_takes (lrxDisable_off (s := s)) hlo hhi hspan
  have henable (v : State) {g : Machine.Field} (hg : g ∈ [F.LRX_RXGRP_K_LO, F.LRX_RXGRP_K_HI]) : (Lrx.enable v).get g = v.get g := by
    refine get_of_sparing (l := [F.LRX_RXGRP_K_LO, F.LRX_RXGRP_K_HI]) ?_ hg
    apply Lrx_enable_moves (h := .refl) <;> rfl
  rw [joinGroup, if_neg hne]
  split
  · rw [henable _ (by decide), henable _ (by decide)]
    exact hmoved
  · exact hmoved

theorem joinSelf_get (hg : apart F.VLK_SELF_STATE g = true ∧ apart F.VLK_INT_CAUSE_STATE_CHG g = true ∧ apart F.VLK_SELF_LEAF g = true ∧
    apart F.VLK_SELF_MEMBER g = true) : (joinSelf leaf member s).get g = s.get g := by
  obtain ⟨hstate, hcause, hleaf, hmember⟩ := hg
  rw [joinSelf, get_put_ne hmember, get_put_ne hleaf, stateIs, get_set_ne hcause, get_put_ne hstate]

/-- The number that the leaf takes. -/
theorem joinSelf_shows : (joinSelf leaf member s).get F.VLK_SELF_STATE = 3 ∧ (joinSelf leaf member s).get F.VLK_SELF_LEAF = leaf % 512 ∧
    (joinSelf leaf member s).get F.VLK_SELF_MEMBER = member % 64 := by
  refine ⟨?_, ?_, State_get_put_same _ _ _ _ _ _ (by decide)⟩
  · rw [joinSelf, get_put_ne (by decide), get_put_ne (by decide), stateIs_state (by decide)]
  · rw [joinSelf, get_put_ne (by decide)]
    exact State_get_put_same _ _ _ _ _ _ (by decide)

/-- What a leaf holds that REG_ASSIGN has assigned. -/
abbrev assigned (leaf beacon member khi eqd0 v0 eqd1 v1 start : Nat) (s t : State) : Prop :=
  t.get F.VLK_SELF_STATE = 3 ∧ t.get F.VLK_SELF_LEAF = leaf % 512 ∧ t.get F.VLK_SELF_MEMBER = member % 64 ∧
  t.get F.VLK_SELF_EQD_EQD 0 = eqd0 % 2 ^ 24 ∧ t.get F.VLK_SELF_EQD_VALID 0 = v0 % 2 ∧ t.get F.VLK_SELF_EQD_EQD 1 = eqd1 % 2 ^ 24 ∧
  t.get F.VLK_SELF_EQD_VALID 1 = v1 % 2 ∧ t.get H.VLK_FEEDER_USE = s.get H.VLK_FEEDER_IN % 2 ∧
  t.get H.VLK_EQD_NOW = (if s.get H.VLK_FEEDER_IN % 2 = 0 then eqd0 % 2 ^ 24 else eqd1 % 2 ^ 24) ∧
  t.get H.VLK_UP_START = start % 2 ^ 24 ∧ (beacon < 512 ∧ khi < 512 ∧ khi ≤ beacon + 63 →
    t.get F.LRX_RXGRP_K_LO = beacon ∧ (s.get F.LRX_RXGRP_K_LO ≠ beacon → t.get F.LRX_RXGRP_K_HI = khi))

theorem join_assigns (h : s.get F.VLK_SELF_STATE = 2) : assigned leaf beacon member khi eqd0 v0 eqd1 v1 start s
    (Vlk.join leaf beacon member khi eqd0 v0 eqd1 v1 freq start s) := by
  obtain ⟨hstate, hleaf, hmember⟩ := joinSelf_shows (leaf := leaf) (member := member) (s := s)
  rw [join_eq h]
  generalize hv : joinGroup beacon khi (joinSelf leaf member s) = v
  have hkept {g : Machine.Field} (hg : g ∈ joinedFields) : v.get g = (joinSelf leaf member s).get g := by rw [← hv, joinGroup_get hg]
  have hin : v.get H.VLK_FEEDER_IN = s.get H.VLK_FEEDER_IN := by rw [hkept (by decide), joinSelf_get (by decide)]
  obtain ⟨heqd0, hvalid0, heqd1, hvalid1⟩ := joinEqd_shows (eqd0 := eqd0) (v0 := v0) (eqd1 := eqd1) (v1 := v1) (s := v)
  refine ⟨?_, ?_, ?_, ?_, ?_, ?_, ?_, ?_, ?_, joinEnd_start, fun ⟨hlo, hhi, hspan⟩ => ?_⟩
  · rw [joinEnd_get (by decide), joinFeeder_get (by decide), joinEqd_get (by decide), hkept (by decide), hstate]
  · rw [joinEnd_get (by decide), joinFeeder_get (by decide), joinEqd_get (by decide), hkept (by decide), hleaf]
  · rw [joinEnd_get (by decide), joinFeeder_get (by decide), joinEqd_get (by decide), hkept (by decide), hmember]
  · rw [joinEnd_get (by decide), joinFeeder_get (by decide), heqd0]
  · rw [joinEnd_get (by decide), joinFeeder_get (by decide), hvalid0]
  · rw [joinEnd_get (by decide), joinFeeder_get (by decide), heqd1]
  · rw [joinEnd_get (by decide), joinFeeder_get (by decide), hvalid1]
  · rw [joinEnd_get (by decide), joinFeeder_use, joinEqd_get (by decide), hin]
  · rw [joinEnd_get (by decide), joinFeeder_eqd, joinEqd_get (by decide), hin]
    rcases Nat.mod_two_eq_zero_or_one (s.get H.VLK_FEEDER_IN) with hf | hf
    · rw [hf, heqd0, if_pos rfl]
    · rw [hf, heqd1, if_neg (by decide)]
  · have hgroup : (joinSelf leaf member s).get F.LRX_RXGRP_K_LO = s.get F.LRX_RXGRP_K_LO := joinSelf_get (by decide)
    rw [joinEnd_get (by decide), joinEnd_get (by decide), joinFeeder_get (by decide), joinFeeder_get (by decide), joinEqd_get (by decide),
      joinEqd_get (by decide), ← hv]
    by_cases hsame : s.get F.LRX_RXGRP_K_LO = beacon
    · rw [joinGroup, if_pos (hgroup.trans hsame), hgroup]
      exact ⟨hsame, fun hne => absurd hsame hne⟩
    · obtain ⟨hklo, hkhi⟩ := joinGroup_moves (s := joinSelf leaf member s) (fun he => hsame (hgroup.symm.trans he)) hlo hhi hspan
      exact ⟨hklo, fun _ => hkhi⟩

/-- REG_ASSIGN to the stranger. -/
theorem regAssign_runs (haddr : addr = 0x3FD) (hon : Vlk.leafOn s = true) (hstate : s.get F.VLK_SELF_STATE = 2)
    (hmine : Vlk.isMine s idLo idHi = true) (hnew : notRepeat s 512 addr flags seq = true) :
    runs (.regAssign addr flags seq idLo idHi leaf beacon member khi eqd0 v0 eqd1 v1 freq start) s
      (assigned leaf beacon member khi eqd0 v0 eqd1 v1 start s) := by
  subst haddr
  have hassign : Vlk.regAssign 0x3FD flags seq idLo idHi leaf beacon member khi eqd0 v0 eqd1 v1 freq start s =
      Vlk.receive 512 seq (flags.testBit 0) (Vlk.broadcast 0x3FD)
        (Vlk.accept (Vlk.join leaf beacon member khi eqd0 v0 eqd1 v1 freq start)) s := by
    rw [Vlk.regAssign, if_pos rfl, if_pos (by rw [hon, Vlk.state, hstate, hmine]; rfl)]
    rfl
  refine runs_answered_mirrored (congrArg (Access.doneMirrored s) hassign) (receive_answers (duplicate_of_notRepeat hnew) rfl) fun t ht => ?_
  have hget {g : Machine.Field} (hg : apart H.VLK_SEQ g = true) (i : Nat) :
      t.get g i = (Vlk.join leaf beacon member khi eqd0 v0 eqd1 v1 freq start s).get g i := ht.get g hg i 0 0
  simpa (disch := decide) only [assigned, hget] using join_assigns hstate

/-! ### UPSTREAM_SILENT and UPSTREAM_RESUME (R45, R98, R119) -/

/-- UPSTREAM_SILENT. -/
theorem upstreamSilent_runs (hon : Vlk.leafOn s = true) (hstate : s.get F.VLK_SELF_STATE ≠ 5) (hmust : Vlk.mustBeSilent s = true) :
    runs .upstreamSilent s (fun t => t.on F.VLK_SELF_SILENT = true ∧
      (s.on F.VLK_SELF_SILENT = false ∧ s.on H.PEER_MUTE_HELD = false →
        t.get F.LTX_CTRL_MUTE = 1 ∧ t.bit F.LTX_STAT_MUTE_SRC 0 = true)) := by
  have hsilent : Vlk.upstreamSilent s = if s.on F.VLK_SELF_SILENT then s else Vlk.silence s := by
    unfold Vlk.upstreamSilent Vlk.state
    rw [hon, hmust, bne_iff_ne.mpr hstate]
    cases s.on F.VLK_SELF_SILENT <;> rfl
  refine runs_reads (congrArg (done s) hsilent) fun t hget _ => ⟨?_, fun ⟨hself, hheld⟩ => ?_⟩
  · rw [on_congr (hget ..)]
    split
    next h => exact h
    next => exact silence_silent
  · have hmute : Ltx.hostMute 1 s = Ltx.setMute 1 s := if_neg (by simp [hheld])
    rw [hget, bit_congr (hget ..), if_neg (by simp [hself]), Vlk.silence, get_set_ne (by decide), bit_congr (get_set_ne (by decide)), hmute,
      setMute_mute, setMute_source0]
    exact ⟨rfl, rfl⟩

/-- The leaf with its upstream back. -/
def resumed (s : State) : State := (Ltx.hostMute 0 s).clr F.VLK_SELF_SILENT

theorem upstreamResume_eq (hon : Vlk.leafOn s = true) (hself : s.on F.VLK_SELF_SILENT = true) (hmust : Vlk.mustBeSilent s = false)
    (hswitch : s.get H.VLK_SWITCH_SILENT = 0) (hmay : ([2, 3, 4].contains (s.get F.VLK_SELF_STATE) || Vlk.called s) = true) :
    Vlk.upstreamResume s = Vlk.wakeUp (resumed s) :=
  if_pos (by rw [hon, hself, hmust, hswitch, Vlk.state, hmay]; rfl)

/-- What a leaf judges its wake by, and what its next message is numbered by. -/
def wakeFields : List Machine.Field :=
  [F.VLK_SELF_STATE, H.VLK_LISTENING, H.VLK_HEARD, F.SYS_ROLE_ROLE, H.LTX_ACT_VER, H.LRX_ACT_VER, H.VLK_RX_ACT, H.VLK_G_ACT_VER,
   H.VLK_RX_GVER, H.VLK_FEEDER_IN, H.VLK_FEEDER_USE, F.VLK_SELF_LEAF, H.VLK_SEQ]

theorem resumed_get (hg : g ∈ wakeFields) : (resumed s).get g i j = s.get g i j :=
  get_of_sparing (l := wakeFields)
    (.clr _ _ _ rfl (Ltx_hostMute_moves (W := Sparing wakeFields) rfl rfl rfl rfl 0 .refl)) hg

theorem resumed_silent : (resumed s).on F.VLK_SELF_SILENT = false := on_clr

theorem resumed_vlk : (resumed s).vlk = s.vlk :=
  Moves.untouched_vlk (W := (· ≠ .vlk)) (.clr _ _ _ nofun (Ltx_hostMute_moves (W := (· ≠ .vlk)) nofun nofun nofun nofun 0 .refl)) (· rfl)

theorem resumed_called : Vlk.called (resumed s) = Vlk.called s := by
  rw [Vlk.called, resumed_get (by decide), on_congr (resumed_get (g := H.VLK_LISTENING) (by decide)),
    on_congr (resumed_get (g := H.VLK_HEARD) (by decide)), Vlk.called]

theorem resumed_banks : Vlk.banksCurrent (resumed s) = Vlk.banksCurrent s := by
  unfold Vlk.banksCurrent Scm.activeVer State.leaf
  simp (disch := decide) only [resumed_get]

/-- UPSTREAM_RESUME of a leaf in the tree. -/
theorem upstreamResume_tree_runs (hon : Vlk.leafOn s = true) (hself : s.on F.VLK_SELF_SILENT = true) (hmust : Vlk.mustBeSilent s = false)
    (hswitch : s.get H.VLK_SWITCH_SILENT = 0) (hlo : 2 ≤ s.get F.VLK_SELF_STATE) (hhi : s.get F.VLK_SELF_STATE ≤ 4) :
    runs .upstreamResume s (fun t => t.on F.VLK_SELF_SILENT = false ∧ (s.on H.PEER_MUTE_HELD = false → t.get F.LTX_CTRL_MUTE = 0)) := by
  have hmay : ([2, 3, 4].contains (s.get F.VLK_SELF_STATE) || Vlk.called s) = true := by
    have hcases : s.get F.VLK_SELF_STATE = 2 ∨ s.get F.VLK_SELF_STATE = 3 ∨ s.get F.VLK_SELF_STATE = 4 := by omega
    simpa using Or.inl hcases
  have hresume : Vlk.upstreamResume s = resumed s :=
    (upstreamResume_eq hon hself hmust hswitch hmay).trans (wakeUp_uncalled (by rw [resumed_get (by decide)]; omega))
  refine runs_reads (congrArg (done s) hresume) fun t hget _ => ⟨?_, fun hheld => ?_⟩
  · rw [on_congr (hget ..), resumed_silent]
  · have hmute : Ltx.hostMute 0 s = Ltx.setMute 0 s := if_neg (by simp [hheld])
    rw [hget, resumed, get_clr_ne (by decide), hmute, setMute_mute]

theorem state_of_called (h : Vlk.called s = true) : s.get F.VLK_SELF_STATE = 5 := by
  simp only [Vlk.called, Bool.and_eq_true, beq_iff_eq] at h
  exact h.1.1

theorem feederCheck_same (h : s.get H.VLK_FEEDER_IN = s.get H.VLK_FEEDER_USE) : Vlk.feederCheck s = s :=
  if_neg fun hchange => hchange.2.1 h

/-- The called leaf whose banks are current sends WAKE_ACK and is ACTIVE. -/
theorem wakeUp_current (hcalled : Vlk.called s = true) (hbanks : Vlk.banksCurrent s = true) (hself : s.on F.VLK_SELF_SILENT = false)
    (hfeeder : s.get H.VLK_FEEDER_IN = s.get H.VLK_FEEDER_USE) :
    Vlk.wakeUp s = stateIs 4 (Vlk.toHub 0x42 true [] ((s.clr H.VLK_LISTENING).clr H.VLK_S_REST)) := by
  generalize hu : Vlk.toHub 0x42 true [] ((s.clr H.VLK_LISTENING).clr H.VLK_S_REST) = u
  have hkept {g : Machine.Field} (h : apart H.VLK_SEQ g = true ∧ apart H.VLK_S_REST g = true ∧ apart H.VLK_LISTENING g = true) :
      u.get g = s.get g := by
    rw [← hu, Vlk.toHub, send_get h.1, get_clr_ne h.2.1, get_clr_ne h.2.2]
  have hset : Vlk.setState 4 u = stateIs 4 u := if_neg (by rw [Vlk.state, hkept (by decide), state_of_called hcalled]; decide)
  have hsame : (stateIs 4 u).get H.VLK_FEEDER_IN = (stateIs 4 u).get H.VLK_FEEDER_USE := by
    rw [stateIs, get_set_ne (by decide), get_put_ne (by decide), hkept (by decide), hfeeder, get_set_ne (by decide), get_put_ne (by decide),
      hkept (by decide)]
  rw [Vlk.wakeUp, hcalled, hbanks, hself, hu, hset, feederCheck_same hsame]
  rfl

/-- UPSTREAM_RESUME of a called leaf whose banks are current. -/
theorem upstreamResume_called_runs (hon : Vlk.leafOn s = true) (hself : s.on F.VLK_SELF_SILENT = true) (hmust : Vlk.mustBeSilent s = false)
    (hswitch : s.get H.VLK_SWITCH_SILENT = 0) (hcalled : Vlk.called s = true) (hbanks : Vlk.banksCurrent s = true)
    (hfeeder : s.get H.VLK_FEEDER_IN = s.get H.VLK_FEEDER_USE) :
    runs .upstreamResume s (fun t => t.get F.VLK_SELF_STATE = 4 ∧ t.on F.VLK_SELF_SILENT = false ∧
      t.vlk.own = s.vlk.own ++ [upMessage s 0x42 []]) := by
  have hsame : (resumed s).get H.VLK_FEEDER_IN = (resumed s).get H.VLK_FEEDER_USE := by
    rw [resumed_get (by decide), resumed_get (by decide), hfeeder]
  have hresume := (upstreamResume_eq hon hself hmust hswitch (by rw [hcalled, Bool.or_true])).trans
    (wakeUp_current (resumed_called.trans hcalled) (resumed_banks.trans hbanks) resumed_silent hsame)
  have hkept {g : Machine.Field} (hg : g ∈ wakeFields) (h : apart H.VLK_S_REST g = true ∧ apart H.VLK_LISTENING g = true) (i j : Nat) :
      (((resumed s).clr H.VLK_LISTENING).clr H.VLK_S_REST).get g i j = s.get g i j := by
    rw [get_clr_ne h.1, get_clr_ne h.2, resumed_get hg]
  refine runs_reads (congrArg (done s) hresume) fun t hget hvlk => ⟨?_, ?_, ?_⟩
  · rw [hget, stateIs_state (by decide)]
  · rw [on_congr (hget ..), stateIs, on_set_ne (by decide), on_put_ne (by decide), Vlk.toHub, on_congr (send_get (by decide)),
      on_clr_ne (by decide), on_clr_ne (by decide), resumed_silent]
  · rw [hvlk]
    exact toHub_own (hkept (by decide) (by decide) 0 0) (hkept (by decide) (by decide)) resumed_vlk

/-- UPSTREAM_RESUME of a called leaf that catches up. That it has its upstream for this is the model's choice (assumption 89). -/
theorem upstreamResume_behind_runs (hon : Vlk.leafOn s = true) (hself : s.on F.VLK_SELF_SILENT = true) (hmust : Vlk.mustBeSilent s = false)
    (hswitch : s.get H.VLK_SWITCH_SILENT = 0) (hcalled : Vlk.called s = true) (hbanks : Vlk.banksCurrent s = false) :
    runs .upstreamResume s (fun t => t.get F.VLK_SELF_STATE = 5 ∧ t.on F.VLK_SELF_SILENT = false) := by
  have hwaits : Vlk.wakeUp (resumed s) = resumed s := if_neg (by simp [resumed_banks, hbanks])
  refine runs_reads (congrArg (done s) ((upstreamResume_eq hon hself hmust hswitch (by rw [hcalled, Bool.or_true])).trans hwaits))
    fun t hget _ => ⟨?_, ?_⟩
  · rw [hget, resumed_get (by decide), state_of_called hcalled]
  · rw [on_congr (hget ..), resumed_silent]

/-- Settles O29, with one lemma for each command: what its conditions make of the operation, then the fields and the messages that it leaves. -/
theorem vlkLinkResults : Obligations.VlkLinkResults := by
  unfold Obligations.VlkLinkResults
  refine ⟨fun s => vlkEnable_runs, fun s => vlkDisable_runs,
    fun s tree beacon feeder regOpen mfn wake gver gann gnext crcOk badLen => vdfReceive_runs,
    fun s tree beacon feeder regOpen mfn wake gver gann gnext badLen => vdfReceive_bad_runs, fun s frames => beaconLost_runs,
    fun s addr flags seq idLo idHi leaf beacon member khi eqd0 v0 eqd1 v1 freq start => regAssign_runs, fun s idLo idHi => regReject_runs,
    fun s => upstreamSilent_runs, fun s => upstreamResume_tree_runs,
    fun s hon hself hmust hswitch hstate hlisten hheard => upstreamResume_called_runs hon hself hmust hswitch
      (by rw [Vlk.called, hstate, hlisten, hheard]; rfl),
    fun s => upstreamResume_behind_runs⟩

end Sys2Proof.Proofs

/-! SUPPORT. What the operations of burst reception read and write (O35; R126 to R141): the state of a channel and its counters, the burst that it
follows, the collision log and the bursts that have closed. -/
namespace Sys2Proof.Proofs
open Sys2Proof Sys2Proof.Machine Sys2Proof.Laws

variable {s t u : State} {p : State → Prop} {g : Machine.Field} {b c e em fofs i j k n psym snr status word : Nat} {lambda : Int}
  {cmd : Instr} {r : RegId} {dword : Nat → Nat} {eff : State → State} {msg : List Nat} {x : Burst} {y : Collision}

/-! ### Completions -/

/-- A command completes with the fields and with what BRX holds beyond them that its operation leaves. -/
theorem runs_brx (e : exec cmd s = done s u) (hp : ∀ t, (∀ g i j k, t.get g i j k = u.get g i j k) → t.brx = u.brx → p t) : runs cmd s p :=
  runs_done e (hp _ (settle_get s u) (settle_brx s u))

/-- So does one that a write of a register of BRX carries out. -/
theorem runs_brxRow (e : exec cmd s = done s (Bus.row Bus.host r 0 0 dword eff s)) (ht : takes r s = true)
    (hi : r.shape.has 0 0 0 = true) (hb : quiet (Sys.blockOf (r.barAddr 0 0 0)) = true)
    (hp : ∀ t, (∀ g, uncounted g = true → t.get g = (eff s).get g) → t.brx = (eff s).brx → p t) : runs cmd s p := by
  have hrow : (Bus.row Bus.host r 0 0 dword eff s).brx = (eff s).brx := by
    simp only [quiet, Bool.and_eq_true, bne_iff_ne] at hb
    obtain ⟨⟨hsyn, htx⟩, hrx⟩ := hb
    rw [row_takes _ _ ht hi, access_brx, Bus.follow, if_neg hsyn, if_neg fun h => h.elim htx hrx]
  exact runs_done e (hp _ (fun g hg => (settle_get ..).trans (quietRow_get ht hi hb hg)) ((settle_brx ..).trans hrow))

/-! ### The state of a channel (R130) -/

theorem Brx_state_congr (h : t.get F.BRX_STAT_CH = s.get F.BRX_STAT_CH) : Brx.state t c = Brx.state s c := by rw [Brx.state, h, Brx.state]

theorem Brx_setState_ch : (Brx.setState b n s).get F.BRX_STAT_CH =
    (s.get F.BRX_STAT_CH - s.get F.BRX_STAT_CH / 2 ^ (3 * b) % 8 * 2 ^ (3 * b) + n * 2 ^ (3 * b)) % 4096 :=
  (State_get_put_same _ _ _ _ _ _ (by decide)).trans (by simp only [slice, Nat.shiftRight_eq_div_pow]; rfl)

theorem Brx_setState_state (hc : c < 4) (hn : n < 8) : Brx.state (Brx.setState c n s) c = n := by
  have hv : s.get F.BRX_STAT_CH < 4096 := State_get_lt ..
  rw [Brx.state, Brx_setState_ch, slice, Nat.shiftRight_eq_div_pow]
  interval_cases c <;> omega

/-- A channel beyond the four has no place in the register. -/
theorem Brx_setState_beyond (hb : 4 ≤ b) : (Brx.setState b n s).get F.BRX_STAT_CH = s.get F.BRX_STAT_CH := by
  have hv : s.get F.BRX_STAT_CH < 4096 := State_get_lt ..
  obtain ⟨d, rfl⟩ := Nat.exists_eq_add_of_le hb
  have hpow : 2 ^ (3 * (4 + d)) = 4096 * 2 ^ (3 * d) := by rw [Nat.mul_add, Nat.pow_add]
  have hzero : s.get F.BRX_STAT_CH / (4096 * 2 ^ (3 * d)) = 0 :=
    Nat.div_eq_of_lt (Nat.lt_of_lt_of_le hv (Nat.le_mul_of_pos_right _ (Nat.two_pow_pos _)))
  rw [Brx_setState_ch, hpow, hzero, Nat.zero_mod, Nat.zero_mul, Nat.sub_zero, Nat.mul_left_comm, Nat.add_mul_mod_self_left, Nat.mod_eq_of_lt hv]

/-- Each of the four channels has three bits of its own. -/
theorem Brx_setState_other (hc : c < 4) (hn : n < 8) (h : b ≠ c) : Brx.state (Brx.setState b n s) c = Brx.state s c := by
  rcases Nat.lt_or_ge b 4 with hb | hb
  · have hv : s.get F.BRX_STAT_CH < 4096 := State_get_lt ..
    rw [Brx.state, Brx.state, Brx_setState_ch, slice, slice, Nat.shiftRight_eq_div_pow, Nat.shiftRight_eq_div_pow]
    interval_cases b <;> interval_cases c <;> omega
  · exact Brx_state_congr (Brx_setState_beyond hb)

/-- Where all four channels are OFF, CH is 0. -/
theorem ch_of_off (h : ∀ c < 4, Brx.state s c = 0) : s.get F.BRX_STAT_CH = 0 := by
  have hv : s.get F.BRX_STAT_CH < 4096 := State_get_lt ..
  have h0 := h 0 (by decide)
  have h1 := h 1 (by decide)
  have h2 := h 2 (by decide)
  have h3 := h 3 (by decide)
  simp only [Brx.state, slice, Nat.shiftRight_eq_div_pow] at h0 h1 h2 h3
  omega

theorem Brx_setState_get (h : apart F.BRX_STAT_CH g = true) : (Brx.setState c n s).get g i j k = s.get g i j k := get_put_ne h
theorem Brx_setState_brx : (Brx.setState c n s).brx = s.brx := State_put_brx ..

/-! ### The counters of a channel (Table BRX-4) -/

theorem Brx_count_at (hc : c < 4) (he : e < 11) :
    (Brx.count c e s).get F.BRX_CNT_COUNT c e = min (2 ^ 32 - 1) (s.get F.BRX_CNT_COUNT c e + 1) :=
  get_count (has_cell rfl hc he)

theorem Brx_count_other (h : e ≠ n) : (Brx.count c e s).get F.BRX_CNT_COUNT c n = s.get F.BRX_CNT_COUNT c n := get_put_column (by decide) h
theorem Brx_count_get (h : apart F.BRX_CNT_COUNT g = true) : (Brx.count c e s).get g i j k = s.get g i j k := get_put_ne h
theorem Brx_count_brx : (Brx.count c e s).brx = s.brx := State_put_brx ..
theorem Brx_count_state : Brx.state (Brx.count b e s) c = Brx.state s c := Brx_state_congr (Brx_count_get (by decide))

/-! ### The burst that a channel follows -/

theorem Brx_current_congr (h : t.brx = s.brx) : Brx.current t c = Brx.current s c := by rw [Brx.current, h, Brx.current]

theorem Brx_follow_current : Brx.current (Brx.follow c x s) c = x := Store_get_put_same ..

theorem Brx_seen_congr (hstate : Brx.state t c = Brx.state s c) (hbrx : t.brx = s.brx) : Brx.seen t c lambda = Brx.seen s c lambda := by
  rw [Brx.seen, hstate, Brx_current_congr hbrx, Brx.seen]

theorem Brx_count_current : Brx.current (Brx.count b e s) c = Brx.current s c := Brx_current_congr Brx_count_brx
theorem Brx_count_seen : Brx.seen (Brx.count b e s) c lambda = Brx.seen s c lambda := Brx_seen_congr Brx_count_state Brx_count_brx

/-- In SEARCH the gain tracks, and Λ is only limited to its field (R128, R129). -/
theorem Brx_seen_search (h : Brx.state s c = 1) : Brx.seen s c lambda = clampInt (-32768) 32767 lambda := by
  rw [Brx.seen, h, if_neg fun hfrozen => absurd hfrozen.1 (by decide)]
  rfl

/-- The fields that give a channel's capture range (R126). -/
def captureFields : List Machine.Field := [F.BRX_CTRL_WIDEN, F.LRX_LINE_CFG_SPACING, F.LRX_LINE_CFG_BAUD_MBD, F.LRX_LINE_CFG_NSC_M1]

theorem Brx_offset_congr (h : ∀ g ∈ captureFields, t.get g = s.get g) : Brx.offset t fofs = Brx.offset s fofs := by
  obtain ⟨hwiden, hspacing, hbaud, hnsc⟩ : t.get F.BRX_CTRL_WIDEN = s.get F.BRX_CTRL_WIDEN ∧
      t.get F.LRX_LINE_CFG_SPACING = s.get F.LRX_LINE_CFG_SPACING ∧ t.get F.LRX_LINE_CFG_BAUD_MBD = s.get F.LRX_LINE_CFG_BAUD_MBD ∧
      t.get F.LRX_LINE_CFG_NSC_M1 = s.get F.LRX_LINE_CFG_NSC_M1 := by simpa [captureFields] using h
  have hcapture : Brx.capture t = Brx.capture s := by
    rw [Brx.capture, Brx.widen, Lrx.subcarriers, hwiden, hspacing, hbaud, hnsc]
    rfl
  rw [Brx.offset, hcapture, Brx.offset]

theorem Brx_count_capture (h : g ∈ captureFields) : (Brx.count c e s).get g = s.get g :=
  Brx_count_get ((by decide : ∀ g ∈ captureFields, apart F.BRX_CNT_COUNT g = true) g h)

/-! ### The collision log and the rings (R140, R141) -/

def refreshFields : List Machine.Field := [F.BRX_REC_STAT_COUNT, F.BRX_COL_STAT_COUNT, F.BRX_COL_STAT_HEAD_DONE]

theorem Brx_refresh_get (h : clearOf refreshFields g = true) : (Brx.refresh s).get g i j k = s.get g i j k := by
  refine Moves.get_misses ?_
  apply Brx_refresh_moves (h := .refl) <;> exact misses_of_clearOf h (by decide)

theorem Brx_refresh_brx : (Brx.refresh s).brx = s.brx := by simp only [Brx.refresh, State_put_brx]

/-- The fields that show how many records and entries are held. -/
theorem Brx_refresh_records : (Brx.refresh s).get F.BRX_REC_STAT_COUNT = s.brx.ring.length % 512 := by
  rw [Brx.refresh, get_put_ne (by decide), get_put_ne (by decide), State_get_put_same _ _ _ _ _ _ (by decide)]
  rfl

theorem Brx_refresh_entries : (Brx.refresh s).get F.BRX_COL_STAT_COUNT = s.brx.log.length % 512 := by
  rw [Brx.refresh, get_put_ne (by decide), State_get_put_same _ _ _ _ _ _ (by decide)]
  rfl

theorem Brx_resolve_get : (Brx.resolve n word s).get g i j k = s.get g i j k := rfl
theorem Brx_resolve_entries : (Brx.resolve n word s).brx.log.length = s.brx.log.length := List.length_map ..

def logFields : List Machine.Field := refreshFields ++ [F.BRX_DROP_CNT_COL, F.BRX_INT_CAUSE_DROP]

theorem Brx_logEntry_get (h : clearOf logFields g = true) : (Brx.logEntry y s).get g i j k = s.get g i j k := by
  refine Moves.get_misses ?_
  apply Brx_logEntry_moves trivial (h := .refl) <;> exact misses_of_clearOf h (by decide)

/-- The log takes the entry while it has room; nothing else that BRX holds changes. -/
theorem Brx_logEntry_brx : (Brx.logEntry y s).brx = { s.brx with log := if s.brx.log.length < 64 then s.brx.log ++ [y] else s.brx.log } := by
  unfold Brx.logEntry
  split
  · exact Brx_refresh_brx
  · simp only [State.count, State.set, State_put_brx]

theorem Brx_logEntry_entries (h : s.brx.log.length < 64) : (Brx.logEntry y s).brx.log.length = s.brx.log.length + 1 := by
  rw [Brx_logEntry_brx, if_pos h, List.length_append, List.length_singleton]

theorem Brx_logEntry_state : Brx.state (Brx.logEntry y s) c = Brx.state s c := Brx_state_congr (Brx_logEntry_get (by decide))

theorem Brx_logEntry_current : Brx.current (Brx.logEntry y s) c = Brx.current s c := by
  rw [Brx.current, Brx_logEntry_brx, Brx.current]

/-! ### The ends of an attempt or a burst (R132, R133, R136) -/

/-- What a channel holds of an open burst when it closes. -/
def closing (s : State) (c status em psym fofs snr : Nat) (msg : List Nat) : Closed :=
  ⟨c, status, em, psym, Brx.current s c, Brx.offset s fofs, snr % 1024, msg⟩

theorem Brx_close_get (h : apart F.BRX_STAT_CH g = true) : (Brx.close c status em psym fofs snr msg s).get g i j k = s.get g i j k :=
  Brx_setState_get h

theorem Brx_close_brx : (Brx.close c status em psym fofs snr msg s).brx =
    { s.brx with closed := s.brx.closed ++ [closing s c status em psym fofs snr msg] } := Brx_setState_brx

theorem Brx_close_state (hc : c < 4) : Brx.state (Brx.close c status em psym fofs snr msg s) c = 1 := Brx_setState_state hc (by decide)

theorem Brx_close_other (hc : c < 4) (h : b ≠ c) : Brx.state (Brx.close b status em psym fofs snr msg s) c = Brx.state s c :=
  (Brx_setState_other hc (by decide) h).trans (Brx_state_congr rfl)

/-- A channel holds the same where it follows the same burst over the same capture range. -/
theorem closing_congr (hcur : Brx.current t c = Brx.current s c) (h : ∀ g ∈ captureFields, t.get g = s.get g) :
    closing t c status em psym fofs snr msg = closing s c status em psym fofs snr msg := by
  rw [closing, hcur, Brx_offset_congr h, closing]

theorem Brx_abandon_count : (Brx.abandon c s).get F.BRX_CNT_COUNT c e = (Brx.count c 1 s).get F.BRX_CNT_COUNT c e := by
  rw [Brx.abandon, Brx_refresh_get (by decide), Brx_resolve_get, Brx_setState_get (by decide)]

theorem Brx_abandon_brx : (Brx.abandon c s).brx = (Brx.resolve (Brx.current s c).serial Brx.nobody s).brx := by
  rw [Brx.abandon, Brx_refresh_brx, Brx.resolve, Brx_setState_brx, Brx_count_brx]
  rfl

theorem Brx_abandon_ch : (Brx.abandon c s).get F.BRX_STAT_CH = (Brx.setState c 1 (Brx.count c 1 s)).get F.BRX_STAT_CH := by
  rw [Brx.abandon, Brx_refresh_get (by decide), Brx_resolve_get]

theorem Brx_abandon_state (hc : c < 4) : Brx.state (Brx.abandon c s) c = 1 :=
  (Brx_state_congr Brx_abandon_ch).trans (Brx_setState_state hc (by decide))

theorem Brx_abandon_other (hc : c < 4) (h : b ≠ c) : Brx.state (Brx.abandon b s) c = Brx.state s c :=
  (Brx_state_congr Brx_abandon_ch).trans ((Brx_setState_other hc (by decide) h).trans Brx_count_state)

theorem Brx_halt_other (hc : c < 4) (h : b ≠ c) : Brx.state (Brx.halt b s) c = Brx.state s c := by
  unfold Brx.halt
  split
  · exact (Brx_state_congr rfl).trans ((Brx_close_other hc h).trans Brx_count_state)
  · exact Brx_abandon_other hc h
  · rfl

/-! ### The beginning of an attempt (R128, R130) -/

theorem Brx_openAttempt_get (h : clearOf [F.BRX_STAT_CH, H.BRX_EPISODE] g = true) : (Brx.openAttempt c x s).get g i j k = s.get g i j k := by
  refine Moves.get_misses ?_
  apply Brx_openAttempt_moves trivial (h := .refl) <;> exact misses_of_clearOf h (by decide)

theorem Brx_openAttempt_state (hc : c < 4) : Brx.state (Brx.openAttempt c x s) c = 2 := Brx_setState_state hc (by decide)

theorem Brx_openAttempt_brx : (Brx.openAttempt c x s).brx =
    { s.brx with serial := s.brx.serial + 1, cur := Store.put {} s.brx.cur c { x with serial := s.brx.serial + 1 } } := by
  rw [Brx.openAttempt, Brx_setState_brx]
  simp only [Brx.follow, State.clr, State_put_brx]

theorem Brx_openAttempt_current : Brx.current (Brx.openAttempt c x s) c = { x with serial := s.brx.serial + 1 } := by
  simp only [Brx.current, Brx_openAttempt_brx, Store_get_put_same]

end Sys2Proof.Proofs

/-! SUPPORT. The peaks that a channel of burst reception detects (O35; R129, R130, R133, R134, R139). -/
namespace Sys2Proof.Proofs
open Sys2Proof Sys2Proof.Machine Sys2Proof.Laws

variable {s : State} {g : Machine.Field} {c e i j k q aMfn aFn aOfs dMfn dFn dSym psym fofs snr : Nat} {after : List Nat}
  {level lambda : Int} {y : Collision}

/-! ### What a collision leaves (R134) -/

/-- The machine as a peak in PAYLOAD has been counted. -/
def collided (c : Nat) (s : State) : State := (Brx.count c 7 (Brx.count c 0 s)).set F.BRX_INT_CAUSE_COLLISION

/-- The machine as the capture of an open burst has been logged and counted. -/
def preempted (c : Nat) (y : Collision) (s : State) : State := (Brx.count c 6 (Brx.logEntry y s)).set F.BRX_INT_CAUSE_PREEMPTED

theorem collided_get (h : clearOf [F.BRX_CNT_COUNT, F.BRX_INT_CAUSE_COLLISION] g = true) : (collided c s).get g i j k = s.get g i j k := by
  rw [collided, get_set_ne (misses_of_clearOf h (by decide)), Brx_count_get (misses_of_clearOf h (by decide)),
    Brx_count_get (misses_of_clearOf h (by decide))]

theorem collided_brx : (collided c s).brx = s.brx := by rw [collided, State.set, State_put_brx, Brx_count_brx, Brx_count_brx]

theorem collided_detect (hc : c < 4) :
    (collided c s).get F.BRX_CNT_COUNT c 0 = min (2 ^ 32 - 1) (s.get F.BRX_CNT_COUNT c 0 + 1) := by
  rw [collided, get_set_ne (by decide), Brx_count_other (by decide), Brx_count_at hc (by decide)]

theorem collided_collision (hc : c < 4) :
    (collided c s).get F.BRX_CNT_COUNT c 7 = min (2 ^ 32 - 1) (s.get F.BRX_CNT_COUNT c 7 + 1) := by
  rw [collided, get_set_ne (by decide), Brx_count_at hc (by decide), Brx_count_other (by decide)]

theorem collided_cause : (collided c s).on F.BRX_INT_CAUSE_COLLISION = true := on_set (by decide) (by decide)

theorem preempted_get (h : clearOf (logFields ++ [F.BRX_CNT_COUNT, F.BRX_INT_CAUSE_PREEMPTED]) g = true) :
    (preempted c y s).get g i j k = s.get g i j k := by
  rw [clearOf, List.all_append, Bool.and_eq_true] at h
  obtain ⟨hlog, h⟩ := h
  rw [preempted, get_set_ne (misses_of_clearOf h (by decide)), Brx_count_get (misses_of_clearOf h (by decide)), Brx_logEntry_get hlog]

theorem preempted_brx : (preempted c y s).brx = (Brx.logEntry y s).brx := by rw [preempted, State.set, State_put_brx, Brx_count_brx]

theorem preempted_count (hc : c < 4) :
    (preempted c y s).get F.BRX_CNT_COUNT c 6 = min (2 ^ 32 - 1) (s.get F.BRX_CNT_COUNT c 6 + 1) := by
  rw [preempted, get_set_ne (by decide), Brx_count_at hc (by decide), Brx_logEntry_get (by decide)]

theorem preempted_other (h : 6 ≠ e) : (preempted c y s).get F.BRX_CNT_COUNT c e = s.get F.BRX_CNT_COUNT c e := by
  rw [preempted, get_set_ne (by decide), Brx_count_other h, Brx_logEntry_get (by decide)]

theorem preempted_cause : (preempted c y s).on F.BRX_INT_CAUSE_PREEMPTED = true := on_set (by decide) (by decide)

theorem preempted_current : Brx.current (preempted c y (collided c s)) c = Brx.current s c := by
  rw [Brx.current, preempted_brx, Brx_logEntry_brx, collided_brx, Brx.current]

/-- What is recorded of the captured burst is what it was before the peak. -/
theorem preempted_closing : closing (preempted c y (collided c s)) c 3 0 psym fofs snr [] = closing s c 3 0 psym fofs snr [] := by
  refine closing_congr preempted_current fun g hg => ?_
  obtain ⟨hpreempted, hcollided⟩ := (by decide : ∀ g ∈ captureFields,
    clearOf (logFields ++ [F.BRX_CNT_COUNT, F.BRX_INT_CAUSE_PREEMPTED]) g = true ∧
      clearOf [F.BRX_CNT_COUNT, F.BRX_INT_CAUSE_COLLISION] g = true) g hg
  rw [preempted_get hpreempted, collided_get hcollided]

/-! ### What a peak comes to (Table BRX-4) -/

theorem Brx_count_safe : (Brx.count c e s).on F.PWR_SAFE_STAT_UP_SAFE = s.on F.PWR_SAFE_STAT_UP_SAFE := on_congr (Brx_count_get (by decide))

/-- A channel that is on takes a peak. -/
theorem Brx_peak_taken (hc : c < 4) (hon : Brx.state s c ≠ 0) (hpeak : Brx.isPeak s q after = true) :
    ¬(!(decide (c < 4)) || Brx.state s c == 0 || !Brx.isPeak s q after) = true := by simp [hc, hon, hpeak]

/-- What a peak of a channel that is on comes to (Table BRX-4): `x` is the burst it would open, `y` the entry of a phase, an outcome and the burst
that it names as new. -/
theorem Brx_peak_eq (hc : c < 4) (hon : Brx.state s c ≠ 0) (hpeak : Brx.isPeak s q after = true) :
    ∃ (x : Burst) (y : Nat → Nat → Nat → Collision), x.lambda = Brx.seen s c lambda ∧ x.q = q ∧
      Brx.peak c q after level lambda aMfn aFn aOfs dMfn dFn dSym psym fofs snr s =
        if s.on F.PWR_SAFE_STAT_UP_SAFE = true then Brx.count c 10 (Brx.count c 0 s)
        else if Brx.state s c = 1 then Brx.openAttempt c { x with level := level } (Brx.count c 0 s)
        else if Brx.state s c = 2 then
          if (max 1 (s.get F.BRX_RESTART_MARGIN_MARGIN) : Int) ≤ Brx.seen s c lambda - (Brx.current s c).lambda then
            Brx.openAttempt c { x with restarted := true } (Brx.abandon c (Brx.logEntry (y 0 0 (s.brx.serial + 1)) (Brx.count c 0 s)))
          else Brx.logEntry (y 0 2 0) (Brx.count c 7 (Brx.count c 0 s))
        else if (max 1 (s.get F.BRX_CAPTURE_MARGIN_MARGIN) : Int) ≤ Brx.seen s c lambda - (Brx.current s c).lambda then
          Brx.openAttempt c x (Brx.close c 3 0 psym fofs snr [] (preempted c (y 1 1 (s.brx.serial + 1)) (collided c s)))
        else Brx.logEntry (y 1 2 0) (collided c s) := by
  refine ⟨{ lambda := Brx.seen s c lambda, q := q, level := Brx.seen s c lambda, arrMfn := aMfn, arrFn := aFn, arrOfs := aOfs },
    fun phase outcome new => ⟨c, phase, outcome, Brx.seen s c lambda - (Brx.current s c).lambda, dMfn, dFn, dSym, (Brx.current s c).serial, new,
      false, Brx.nobody, Brx.nobody⟩, rfl, rfl, ?_⟩
  have hmargin : (collided c s).get F.BRX_CAPTURE_MARGIN_MARGIN = s.get F.BRX_CAPTURE_MARGIN_MARGIN := collided_get (by decide)
  have hbrx : (collided c s).brx = s.brx := collided_brx
  rw [collided] at hmargin hbrx
  unfold Brx.peak
  rw [if_neg (Brx_peak_taken hc hon hpeak)]
  simp only [Brx_count_state, Brx_count_seen, Brx_count_current, Brx_count_safe, Brx_count_brx,
    Brx_count_get (g := F.BRX_RESTART_MARGIN_MARGIN) (by decide), hmargin, hbrx]
  split
  · rfl
  split
  next h => rw [if_pos h]
  next h => rw [if_neg (show ¬Brx.state s c = 1 by omega), if_pos h]
  next h1 h2 =>
    rw [if_neg h1, if_neg h2]
    rfl

/-! ### PEAK_DETECT -/

/-- In SEARCH the peak opens an attempt (R130). -/
theorem peakDetect_search_runs (hc : c < 4) (hstate : Brx.state s c = 1) (hpeak : Brx.isPeak s q after = true)
    (hsafe : s.on F.PWR_SAFE_STAT_UP_SAFE = false) :
    runs (.peakDetect c q lambda aMfn aFn aOfs dMfn dFn dSym psym fofs snr after level) s (fun t => Brx.state t c = 2 ∧
      t.get F.BRX_CNT_COUNT c 0 = min (2 ^ 32 - 1) (s.get F.BRX_CNT_COUNT c 0 + 1) ∧
      (Brx.current t c).lambda = clampInt (-32768) 32767 lambda ∧ (Brx.current t c).q = q ∧
      (Brx.current t c).serial = s.brx.serial + 1) := by
  obtain ⟨x, y, hlambda, hq, heq⟩ := Brx_peak_eq hc (by omega) hpeak
  rw [if_neg (by simp [hsafe]), if_pos hstate] at heq
  refine runs_brx (congrArg (done s) heq) fun t hget hbrx => ?_
  rw [Brx_state_congr (hget ..), hget, Brx_current_congr hbrx, Brx_openAttempt_current, Brx_count_brx, ← Brx_seen_search hstate]
  refine ⟨Brx_openAttempt_state hc, ?_, hlambda, hq, rfl⟩
  rw [Brx_openAttempt_get (by decide), Brx_count_at hc (by decide)]

/-- Under the safe output it is only counted (R139). -/
theorem peakDetect_safe_runs (hc : c < 4) (hon : Brx.state s c ≠ 0) (hpeak : Brx.isPeak s q after = true)
    (hsafe : s.on F.PWR_SAFE_STAT_UP_SAFE = true) :
    runs (.peakDetect c q lambda aMfn aFn aOfs dMfn dFn dSym psym fofs snr after level) s (fun t => Brx.state t c = Brx.state s c ∧
      t.get F.BRX_CNT_COUNT c 0 = min (2 ^ 32 - 1) (s.get F.BRX_CNT_COUNT c 0 + 1) ∧
      t.get F.BRX_CNT_COUNT c 10 = min (2 ^ 32 - 1) (s.get F.BRX_CNT_COUNT c 10 + 1) ∧ t.brx = s.brx) := by
  obtain ⟨x, y, -, -, heq⟩ := Brx_peak_eq hc hon hpeak
  rw [if_pos hsafe] at heq
  refine runs_brx (congrArg (done s) heq) fun t hget hbrx => ?_
  rw [Brx_state_congr (hget ..), hget, hget, hbrx]
  refine ⟨Brx_count_state.trans Brx_count_state, ?_, ?_, Brx_count_brx.trans Brx_count_brx⟩
  · rw [Brx_count_other (by decide), Brx_count_at hc (by decide)]
  · rw [Brx_count_at hc (by decide), Brx_count_other (by decide)]

/-- A restart of the attempt (R133). -/
theorem peakDetect_restart_runs (hc : c < 4) (hstate : Brx.state s c = 2) (hpeak : Brx.isPeak s q after = true)
    (hsafe : s.on F.PWR_SAFE_STAT_UP_SAFE = false)
    (hmargin : (max 1 (s.get F.BRX_RESTART_MARGIN_MARGIN) : Int) ≤ Brx.seen s c lambda - (Brx.current s c).lambda) :
    runs (.peakDetect c q lambda aMfn aFn aOfs dMfn dFn dSym psym fofs snr after level) s (fun t => Brx.state t c = 2 ∧
      t.get F.BRX_CNT_COUNT c 0 = min (2 ^ 32 - 1) (s.get F.BRX_CNT_COUNT c 0 + 1) ∧
      t.get F.BRX_CNT_COUNT c 1 = min (2 ^ 32 - 1) (s.get F.BRX_CNT_COUNT c 1 + 1) ∧ (Brx.current t c).lambda = Brx.seen s c lambda ∧
      (Brx.current t c).restarted = true ∧ (Brx.current t c).serial = s.brx.serial + 1 ∧
      (s.brx.log.length < 64 → t.brx.log.length = s.brx.log.length + 1)) := by
  obtain ⟨x, y, hlambda, -, heq⟩ := Brx_peak_eq hc (by omega) hpeak
  rw [if_neg (by simp [hsafe]), if_neg (by omega), if_pos (by omega), if_pos hmargin] at heq
  have habandon {z : State} : (Brx.abandon c z).brx.serial = z.brx.serial ∧ (Brx.abandon c z).brx.log.length = z.brx.log.length := by
    rw [Brx_abandon_brx]
    exact ⟨rfl, Brx_resolve_entries⟩
  refine runs_brx (congrArg (done s) heq) fun t hget hbrx => ?_
  rw [Brx_state_congr (hget ..), hget, hget, Brx_current_congr hbrx, Brx_openAttempt_current, hbrx, Brx_openAttempt_brx]
  refine ⟨Brx_openAttempt_state hc, ?_, ?_, hlambda, rfl, ?_, fun hroom => ?_⟩
  · rw [Brx_openAttempt_get (by decide), Brx_abandon_count, Brx_count_other (by decide), Brx_logEntry_get (by decide),
      Brx_count_at hc (by decide)]
  · rw [Brx_openAttempt_get (by decide), Brx_abandon_count, Brx_count_at hc (by decide), Brx_logEntry_get (by decide),
      Brx_count_other (by decide)]
  · simp only [habandon, Brx_logEntry_brx, Brx_count_brx]
  · have hroom' : (Brx.count c 0 s).brx.log.length < 64 := by rwa [Brx_count_brx]
    simp only [habandon, Brx_logEntry_entries hroom', Brx_count_brx]

/-- A peak beside the attempt that does not restart it (R133). -/
theorem peakDetect_besideHeader_runs (hc : c < 4) (hstate : Brx.state s c = 2) (hpeak : Brx.isPeak s q after = true)
    (hsafe : s.on F.PWR_SAFE_STAT_UP_SAFE = false)
    (hmargin : Brx.seen s c lambda - (Brx.current s c).lambda < (max 1 (s.get F.BRX_RESTART_MARGIN_MARGIN) : Int)) :
    runs (.peakDetect c q lambda aMfn aFn aOfs dMfn dFn dSym psym fofs snr after level) s (fun t => Brx.state t c = 2 ∧
      t.get F.BRX_CNT_COUNT c 0 = min (2 ^ 32 - 1) (s.get F.BRX_CNT_COUNT c 0 + 1) ∧
      t.get F.BRX_CNT_COUNT c 7 = min (2 ^ 32 - 1) (s.get F.BRX_CNT_COUNT c 7 + 1) ∧ Brx.current t c = Brx.current s c ∧
      (s.brx.log.length < 64 → t.brx.log.length = s.brx.log.length + 1)) := by
  obtain ⟨x, y, -, -, heq⟩ := Brx_peak_eq hc (by omega) hpeak
  rw [if_neg (by simp [hsafe]), if_neg (by omega), if_pos (by omega), if_neg (Int.not_le.mpr hmargin)] at heq
  refine runs_brx (congrArg (done s) heq) fun t hget hbrx => ?_
  rw [Brx_state_congr (hget ..), hget, hget, Brx_current_congr hbrx, hbrx, Brx_logEntry_get (by decide), Brx_logEntry_get (by decide),
    Brx_logEntry_state, Brx_logEntry_current, Brx_count_state, Brx_count_state, Brx_count_current, Brx_count_current]
  refine ⟨hstate, ?_, ?_, rfl, fun hroom => ?_⟩
  · rw [Brx_count_other (by decide), Brx_count_at hc (by decide)]
  · rw [Brx_count_at hc (by decide), Brx_count_other (by decide)]
  · rw [Brx_logEntry_entries (by rwa [Brx_count_brx, Brx_count_brx]), Brx_count_brx, Brx_count_brx]

/-- A peak beside the open burst that does not capture it (R134). -/
theorem peakDetect_besidePayload_runs (hc : c < 4) (hstate : Brx.state s c = 3) (hpeak : Brx.isPeak s q after = true)
    (hsafe : s.on F.PWR_SAFE_STAT_UP_SAFE = false)
    (hmargin : Brx.seen s c lambda - (Brx.current s c).lambda < (max 1 (s.get F.BRX_CAPTURE_MARGIN_MARGIN) : Int)) :
    runs (.peakDetect c q lambda aMfn aFn aOfs dMfn dFn dSym psym fofs snr after level) s (fun t => Brx.state t c = 3 ∧
      t.get F.BRX_CNT_COUNT c 0 = min (2 ^ 32 - 1) (s.get F.BRX_CNT_COUNT c 0 + 1) ∧
      t.get F.BRX_CNT_COUNT c 7 = min (2 ^ 32 - 1) (s.get F.BRX_CNT_COUNT c 7 + 1) ∧ t.on F.BRX_INT_CAUSE_COLLISION = true ∧
      Brx.current t c = Brx.current s c ∧ t.brx.closed = s.brx.closed ∧
      (s.brx.log.length < 64 → t.brx.log.length = s.brx.log.length + 1)) := by
  obtain ⟨x, y, -, -, heq⟩ := Brx_peak_eq hc (by omega) hpeak
  rw [if_neg (by simp [hsafe]), if_neg (by omega), if_neg (by omega), if_neg (Int.not_le.mpr hmargin)] at heq
  refine runs_brx (congrArg (done s) heq) fun t hget hbrx => ?_
  rw [Brx_state_congr (hget ..), hget, hget, on_congr (hget ..), Brx_current_congr hbrx, hbrx, Brx_logEntry_get (by decide),
    Brx_logEntry_get (by decide), on_congr (Brx_logEntry_get (by decide)), Brx_logEntry_state, Brx_logEntry_current,
    Brx_state_congr (collided_get (by decide)), Brx_current_congr collided_brx]
  refine ⟨hstate, collided_detect hc, collided_collision hc, collided_cause, rfl, ?_, fun hroom => ?_⟩
  · rw [Brx_logEntry_brx, collided_brx]
  · rw [Brx_logEntry_entries (by rwa [collided_brx]), collided_brx]


/-- A capture (R134). -/
theorem peakDetect_capture_runs (hc : c < 4) (hstate : Brx.state s c = 3) (hpeak : Brx.isPeak s q after = true)
    (hsafe : s.on F.PWR_SAFE_STAT_UP_SAFE = false)
    (hmargin : (max 1 (s.get F.BRX_CAPTURE_MARGIN_MARGIN) : Int) ≤ Brx.seen s c lambda - (Brx.current s c).lambda) :
    runs (.peakDetect c q lambda aMfn aFn aOfs dMfn dFn dSym psym fofs snr after level) s (fun t => Brx.state t c = 2 ∧
      t.get F.BRX_CNT_COUNT c 0 = min (2 ^ 32 - 1) (s.get F.BRX_CNT_COUNT c 0 + 1) ∧
      t.get F.BRX_CNT_COUNT c 6 = min (2 ^ 32 - 1) (s.get F.BRX_CNT_COUNT c 6 + 1) ∧
      t.get F.BRX_CNT_COUNT c 7 = min (2 ^ 32 - 1) (s.get F.BRX_CNT_COUNT c 7 + 1) ∧ t.on F.BRX_INT_CAUSE_COLLISION = true ∧
      t.on F.BRX_INT_CAUSE_PREEMPTED = true ∧ (Brx.current t c).lambda = Brx.seen s c lambda ∧
      (Brx.current t c).serial = s.brx.serial + 1 ∧ t.brx.closed = s.brx.closed ++ [closing s c 3 0 psym fofs snr []] ∧
      (s.brx.log.length < 64 → t.brx.log.length = s.brx.log.length + 1)) := by
  obtain ⟨x, y, hlambda, -, heq⟩ := Brx_peak_eq hc (by omega) hpeak
  rw [if_neg (by simp [hsafe]), if_neg (by omega), if_neg (by omega), if_pos hmargin] at heq
  generalize y 1 1 (s.brx.serial + 1) = z at heq
  have hkept {g : Machine.Field} (i j : Nat) (h : clearOf [F.BRX_STAT_CH, H.BRX_EPISODE] g = true) :
      (Brx.openAttempt c x (Brx.close c 3 0 psym fofs snr [] (preempted c z (collided c s)))).get g i j =
        (preempted c z (collided c s)).get g i j :=
    (Brx_openAttempt_get h).trans (Brx_close_get (misses_of_clearOf h (by decide)))
  refine runs_brx (congrArg (done s) heq) fun t hget hbrx => ?_
  rw [Brx_state_congr (hget ..), hget, hget, hget, on_congr (hget ..), on_congr (hget ..), Brx_current_congr hbrx, hbrx,
    Brx_openAttempt_current, Brx_openAttempt_brx, Brx_close_brx, preempted_closing, preempted_brx, Brx_logEntry_brx, collided_brx,
    hkept _ _ (by decide), hkept _ _ (by decide), hkept _ _ (by decide), on_congr (hkept _ _ (by decide)), on_congr (hkept _ _ (by decide))]
  refine ⟨Brx_openAttempt_state hc, ?_, ?_, ?_, ?_, preempted_cause, hlambda, rfl, rfl, fun hroom => ?_⟩
  · rw [preempted_other (by decide), collided_detect hc]
  · rw [preempted_count hc, collided, get_set_ne (by decide), Brx_count_other (by decide), Brx_count_other (by decide)]
  · rw [preempted_other (by decide), collided_collision hc]
  · rw [on_congr (preempted_get (by decide)), collided_cause]
  · rw [if_pos hroom, List.length_append, List.length_singleton]

end Sys2Proof.Proofs

/-! SUPPORT. The register writes of burst reception, and its headers, closes, records, gaps and energies (O35; R127, R130 to R132, R136 to R138,
R140, R141), and O35. -/
namespace Sys2Proof.Proofs
open Sys2Proof Sys2Proof.Machine Sys2Proof.Laws

variable {s : State} {g : Machine.Field} {b c crcOk em fofs hdr i j k psym quiet snr : Nat} {msg : List Nat} {run : List Int} {next : Int}
  {symbols : List (Int × Nat)} {x : Closed} {rest : List Closed} {present : Bool}

/-! ### BRX_ENABLE and BRX_DISABLE (R127, R130) -/

theorem Brx_check_lt (s : State) : Brx.check s < 8 := by
  unfold Brx.check
  dsimp only
  split_ifs <;> decide

/-- A channel in use starts its search. -/
def startChannel (c : Nat) (s : State) : State := if Brx.inUse s c then Brx.setState c 1 s else s

theorem startChannel_get (h : apart F.BRX_STAT_CH g = true) : (startChannel c s).get g i j k = s.get g i j k := by
  unfold startChannel
  split
  · exact Brx_setState_get h
  · rfl

theorem startChannel_inUse : Brx.inUse (startChannel b s) c = Brx.inUse s c := by rw [Brx.inUse, startChannel_get (by decide), Brx.inUse]

theorem startChannel_other (hc : c < 4) (h : b ≠ c) : Brx.state (startChannel b s) c = Brx.state s c := by
  unfold startChannel
  split
  · exact Brx_setState_other hc (by decide) h
  · rfl

theorem Brx_enable_of_check (hen : s.on F.BRX_CTRL_EN = false) (hcheck : Brx.check s = 0) :
    Brx.enable s = ((s.set F.BRX_CTRL_EN).clr F.BRX_STAT_CFG_STEP).each 4 startChannel := by
  rw [Brx.enable, if_neg (by simp [hen])]
  exact if_pos hcheck

theorem brxEnable_runs (ht : takes .BRX_CTRL s = true) (hen : s.on F.BRX_CTRL_EN = false) (hcheck : Brx.check s = 0) (hc : c < 4) :
    runs .brxEnable s (fun t => t.on F.BRX_CTRL_EN = true ∧ t.get F.BRX_STAT_CFG_STEP = 0 ∧ (Brx.inUse s c = true → Brx.state t c = 1)) := by
  have hkept {g : Machine.Field} (h : apart F.BRX_STAT_CH g = true) :
      (Brx.enable s).get g = ((s.set F.BRX_CTRL_EN).clr F.BRX_STAT_CFG_STEP).get g := by
    rw [Brx_enable_of_check hen hcheck]
    exact each_keeps (obs := fun t => t.get g) 4 fun _ _ _ => startChannel_get h
  refine runs_brxRow rfl ht rfl (by decide) fun t hget _ => ?_
  rw [on_congr (hget _ (by decide)), hget _ (by decide), Brx_state_congr (hget _ (by decide)), on_congr (hkept (by decide)),
    hkept (by decide), Brx_enable_of_check hen hcheck]
  refine ⟨?_, get_clr, fun huse => ?_⟩
  · rw [on_clr_ne (by decide), on_set (by decide) (by decide)]
  · refine each_reaches (p := fun t => Brx.inUse t c = true) (q := fun t => Brx.state t c = 1) hc ?_
      (fun b t _ h => startChannel_inUse.trans h) (fun t h => ?_) fun b t hb h => (startChannel_other hc hb).trans h
    · rw [Brx.inUse, get_clr_ne (by decide), get_set_ne (by decide)]
      exact huse
    · rw [startChannel, if_pos h, Brx_setState_state hc (by decide)]

/-- An enable that fails a check. -/
def enableRefused (s : State) : State := (s.set F.BRX_INT_CAUSE_CFG_ERR).put F.BRX_STAT_CFG_STEP (Brx.check s)

theorem Brx_enable_of_fault (hen : s.on F.BRX_CTRL_EN = false) (hcheck : Brx.check s ≠ 0) :
    Brx.enable s = if Brx.check s = 1 then (enableRefused s).set F.SYS_INT_CAUSE_ROLE_LIMIT else enableRefused s := by
  rw [Brx.enable, if_neg (by simp [hen])]
  exact if_neg hcheck

theorem brxEnable_refused_runs (ht : takes .BRX_CTRL s = true) (hen : s.on F.BRX_CTRL_EN = false) (hcheck : Brx.check s ≠ 0) :
    runs .brxEnable s (fun t => t.on F.BRX_CTRL_EN = false ∧ t.get F.BRX_STAT_CFG_STEP = Brx.check s ∧
      t.on F.BRX_INT_CAUSE_CFG_ERR = true ∧ (Brx.check s = 1 → t.on F.SYS_INT_CAUSE_ROLE_LIMIT = true)) := by
  have hkept {g : Machine.Field} (h : apart F.SYS_INT_CAUSE_ROLE_LIMIT g = true) : (Brx.enable s).get g = (enableRefused s).get g := by
    rw [Brx_enable_of_fault hen hcheck]
    split
    · exact get_set_ne h
    · rfl
  refine runs_brxRow rfl ht rfl (by decide) fun t hget _ => ?_
  rw [on_congr (hget _ (by decide)), hget _ (by decide), on_congr (hget _ (by decide)), on_congr (hget _ (by decide)),
    on_congr (hkept (by decide)), hkept (by decide), on_congr (hkept (by decide))]
  refine ⟨?_, get_put_lt (by decide) (Brx_check_lt s), ?_, fun hrole => ?_⟩
  · rw [enableRefused, on_put_ne (by decide), on_set_ne (by decide), hen]
  · rw [enableRefused, on_put_ne (by decide), on_set (by decide) (by decide)]
  · rw [Brx_enable_of_fault hen hcheck, if_pos hrole, on_set (by decide) (by decide)]

theorem Brx_disable_off (hc : c < 4) : Brx.state (Brx.disable s) c = 0 :=
  each_reaches (p := fun _ => True) (q := fun t => Brx.state t c = 0) hc trivial (fun _ _ _ _ => trivial)
    (fun _ _ => Brx_setState_state hc (by decide)) fun _ _ hb h => (Brx_setState_other hc (by decide) hb).trans ((Brx_halt_other hc hb).trans h)

theorem Brx_disable_en : (Brx.disable s).on F.BRX_CTRL_EN = false := by
  have hkept : (Brx.disable s).get F.BRX_CTRL_EN = (s.clr F.BRX_CTRL_EN).get F.BRX_CTRL_EN := by
    refine Moves.get_misses (.each _ .refl fun c t h => Brx_setState_moves (W := Misses F.BRX_CTRL_EN) rfl c 0 ?_)
    exact Brx_halt_moves (W := Misses F.BRX_CTRL_EN) trivial rfl rfl rfl rfl rfl c h
  rw [on_congr hkept, on_clr]

theorem brxDisable_runs (ht : takes .BRX_CTRL s = true) :
    runs .brxDisable s (fun t => t.on F.BRX_CTRL_EN = false ∧ t.get F.BRX_STAT_CH = 0) := by
  refine runs_brxRow rfl ht rfl (by decide) fun t hget _ => ?_
  rw [on_congr (hget _ (by decide)), hget _ (by decide)]
  exact ⟨Brx_disable_en, ch_of_off fun _ => Brx_disable_off⟩

/-! ### HEADER_DECISION (R131) -/

/-- The log's entries that name the burst know that its header is accepted. -/
def headerKnown (n : Nat) (s : State) : State :=
  { s with brx := { s.brx with log := s.brx.log.map (fun e => if e.new = n then { e with newHdr := true } else e) } }

theorem Brx_header_decided (hc : c < 4) (hstate : Brx.state s c = 2) : ¬(!(decide (c < 4)) || Brx.state s c != 2) = true := by
  simp [hc, hstate]

theorem Brx_header_good (hc : c < 4) (hstate : Brx.state s c = 2) (hcrc : crcOk ≠ 0) (hver : slice hdr 30 2 = 1) (hlen : slice hdr 27 3 ≤ 4) :
    Brx.header c hdr crcOk s = Brx.setState c 3 (Brx.follow c { Brx.current s c with hdr := hdr % 2 ^ 32 }
      (headerKnown (Brx.current s c).serial s)) := by
  rw [Brx.header, if_neg (Brx_header_decided hc hstate)]
  exact if_pos ⟨hcrc, hver, hlen⟩

theorem Brx_header_bad (hc : c < 4) (hstate : Brx.state s c = 2) (hbad : crcOk = 0 ∨ slice hdr 30 2 ≠ 1 ∨ 4 < slice hdr 27 3) :
    Brx.header c hdr crcOk s =
      Brx.refresh (Brx.resolve (Brx.current s c).serial Brx.nobody (Brx.setState c 1 (Brx.count c 2 s))) := by
  rw [Brx.header, if_neg (Brx_header_decided hc hstate)]
  refine if_neg fun hgood => ?_
  obtain ⟨hcrc, hver, hlen⟩ := hgood
  rcases hbad with h | h | h
  · exact hcrc h
  · exact h hver
  · exact Nat.not_lt.mpr hlen h

theorem headerDecision_good_runs (hc : c < 4) (hstate : Brx.state s c = 2) (hcrc : crcOk ≠ 0) (hver : slice hdr 30 2 = 1)
    (hlen : slice hdr 27 3 ≤ 4) :
    runs (.headerDecision c hdr crcOk) s (fun t => Brx.state t c = 3 ∧ (Brx.current t c).hdr = hdr % 2 ^ 32) := by
  refine runs_brx (congrArg (done s) (Brx_header_good hc hstate hcrc hver hlen)) fun t hget hbrx => ?_
  rw [Brx_state_congr (hget ..), Brx_current_congr (hbrx.trans Brx_setState_brx), Brx_follow_current]
  exact ⟨Brx_setState_state hc (by decide), rfl⟩

theorem headerDecision_bad_runs (hc : c < 4) (hstate : Brx.state s c = 2) (hbad : crcOk = 0 ∨ slice hdr 30 2 ≠ 1 ∨ 4 < slice hdr 27 3) :
    runs (.headerDecision c hdr crcOk) s (fun t => Brx.state t c = 1 ∧
      t.get F.BRX_CNT_COUNT c 2 = min (2 ^ 32 - 1) (s.get F.BRX_CNT_COUNT c 2 + 1)) := by
  refine runs_brx (congrArg (done s) (Brx_header_bad hc hstate hbad)) fun t hget _ => ?_
  rw [Brx_state_congr (hget ..), hget, Brx_state_congr (Brx_refresh_get (by decide)), Brx_refresh_get (by decide), Brx_resolve_get,
    Brx_setState_get (by decide), Brx_count_at hc (by decide)]
  exact ⟨(Brx_state_congr Brx_resolve_get).trans (Brx_setState_state hc (by decide)), rfl⟩

/-! ### BURST_CLOSE (R132) -/

/-- The fields of BRX and of the line that assembling a payload leaves alone. -/
def assemblyFields : List Machine.Field := F.BRX_CNT_COUNT :: captureFields

theorem Brx_assemble_get (h : g ∈ assemblyFields) : (Brx.assemble c msg s).get g i j k = s.get g i j k := by
  refine get_of_sparing (l := assemblyFields) ?_ h
  apply Brx_assemble_moves (h := .refl) <;> rfl

theorem Brx_assemble_brx : (Brx.assemble c msg s).brx = s.brx := by
  refine Moves.untouched_brx (W := (· ≠ .brx)) ?_ (· rfl)
  apply Brx_assemble_moves (h := .refl) <;> nofun

/-- The machine as the payload has been assembled and the burst counted. -/
def payloadTaken (c e : Nat) (msg : List Nat) (s : State) : State := Brx.count c e (Brx.assemble c msg s)

theorem payloadTaken_count (hc : c < 4) (he : e < 11) :
    (payloadTaken c e msg s).get F.BRX_CNT_COUNT c e = min (2 ^ 32 - 1) (s.get F.BRX_CNT_COUNT c e + 1) := by
  rw [payloadTaken, Brx_count_at hc he, Brx_assemble_get (by decide)]

theorem payloadTaken_brx : (payloadTaken c e msg s).brx = s.brx := Brx_count_brx.trans Brx_assemble_brx

theorem payloadTaken_closing {status n : Nat} {m : List Nat} :
    closing (payloadTaken c e msg s) c status em n fofs snr m = closing s c status em n fofs snr m :=
  closing_congr (Brx_current_congr payloadTaken_brx) fun _ hg =>
    (Brx_count_capture hg).trans (Brx_assemble_get (.tail _ hg))

theorem Brx_burstClose_taken (hc : c < 4) (hstate : Brx.state s c = 3) : ¬(!(decide (c < 4)) || Brx.state s c != 3) = true := by
  simp [hc, hstate]

/-- The counter of a close at the end marker: GOOD or CRC_ERR. -/
def closeCounter (crcOk : Nat) : Nat := if crcOk ≠ 0 then 3 else 4

theorem Brx_burstClose_eq (hc : c < 4) (hstate : Brx.state s c = 3) :
    Brx.burstClose c crcOk em fofs snr msg s = Brx.close c (if crcOk ≠ 0 then 0 else 1) (if em < 128 then 1 else 0)
      (Brx.payloadSymbols (Brx.current s c).hdr) fofs snr (if crcOk ≠ 0 then msg else []) (payloadTaken c (closeCounter crcOk) msg s) := by
  have hem : Brx.emMiss em = if em < 128 then 1 else 0 := by simp [Brx.emMiss, b01]
  rw [Brx.burstClose, if_neg (Brx_burstClose_taken hc hstate), hem, closeCounter]
  split <;> rfl

theorem burstClose_runs (hc : c < 4) (hstate : Brx.state s c = 3) :
    runs (.burstClose c crcOk em fofs snr msg) s (fun t => Brx.state t c = 1 ∧
      t.brx.closed = s.brx.closed ++ [closing s c (if crcOk ≠ 0 then 0 else 1) (if em < 128 then 1 else 0)
        (Brx.payloadSymbols (Brx.current s c).hdr) fofs snr (if crcOk ≠ 0 then msg else [])] ∧
      (crcOk ≠ 0 → t.get F.BRX_CNT_COUNT c 3 = min (2 ^ 32 - 1) (s.get F.BRX_CNT_COUNT c 3 + 1)) ∧
      (crcOk = 0 → t.get F.BRX_CNT_COUNT c 4 = min (2 ^ 32 - 1) (s.get F.BRX_CNT_COUNT c 4 + 1))) := by
  refine runs_brx (congrArg (done s) (Brx_burstClose_eq hc hstate)) fun t hget hbrx => ?_
  rw [Brx_state_congr (hget ..), hget, hget, hbrx, Brx_close_brx, payloadTaken_closing, payloadTaken_brx, Brx_close_get (by decide),
    Brx_close_get (by decide)]
  refine ⟨Brx_close_state hc, rfl, fun hgood => ?_, fun herr => ?_⟩
  · rw [closeCounter, if_pos hgood, payloadTaken_count hc (by decide)]
  · rw [closeCounter, if_neg (by simp [herr]), payloadTaken_count hc (by decide)]

/-! ### BURST_RECORD (R140) -/

/-- The oldest closed burst leaves the queue. -/
def unqueued (rest : List Closed) (s : State) : State := { s with brx := { s.brx with closed := rest } }

/-- Its record is written where the ring has room. -/
def recorded (x : Closed) (s : State) : State := ({ s with brx := { s.brx with ring := s.brx.ring ++ [Brx.record x] } }).set F.BRX_INT_CAUSE_REC_AVAIL

/-- A full ring drops it. -/
def dropped (s : State) : State := (s.count F.BRX_DROP_CNT_REC).set F.BRX_INT_CAUSE_DROP

/-- A GOOD burst's message is handed to VLK. -/
def handed (x : Closed) (s : State) : State := if x.status = 0 then { s with brx := { s.brx with good := s.brx.good ++ [x] } } else s

theorem handed_get : (handed x s).get g i j k = s.get g i j k := by
  unfold handed
  split <;> rfl

theorem handed_brx : (handed x s).brx = { s.brx with good := s.brx.good ++ if x.status = 0 then [x] else [] } := by
  unfold handed
  split
  · rfl
  · rw [List.append_nil]

theorem Brx_writeRecord_eq (hclosed : s.brx.closed = x :: rest) : ∃ word, Brx.writeRecord s = Brx.refresh (Brx.resolve x.burst.serial word
    (handed x (if s.brx.ring.length < 256 then recorded x (unqueued rest s) else dropped (unqueued rest s)))) := by
  unfold Brx.writeRecord
  rw [hclosed]
  exact ⟨_, rfl⟩

theorem burstRecord_runs (hclosed : s.brx.closed = x :: rest) (hroom : s.brx.ring.length < 256) :
    runs .burstRecord s (fun t => t.brx.closed = rest ∧ t.brx.ring = s.brx.ring ++ [Brx.record x] ∧
      t.brx.good = s.brx.good ++ (if x.status = 0 then [x] else []) ∧ t.on F.BRX_INT_CAUSE_REC_AVAIL = true) := by
  obtain ⟨word, heq⟩ := Brx_writeRecord_eq hclosed
  rw [if_pos hroom] at heq
  refine runs_brx (congrArg (done s) heq) fun t hget hbrx => ?_
  rw [on_congr (hget ..), on_congr (Brx_refresh_get (by decide)), on_congr Brx_resolve_get, on_congr handed_get, recorded,
    on_set (by decide) (by decide), hbrx, Brx_refresh_brx, Brx.resolve, handed_brx]
  exact ⟨rfl, rfl, rfl, rfl⟩

theorem burstRecord_full_runs (hclosed : s.brx.closed = x :: rest) (hfull : 256 ≤ s.brx.ring.length) :
    runs .burstRecord s (fun t => t.brx.closed = rest ∧ t.brx.ring = s.brx.ring ∧
      t.brx.good = s.brx.good ++ (if x.status = 0 then [x] else []) ∧ t.on F.BRX_INT_CAUSE_DROP = true) := by
  obtain ⟨word, heq⟩ := Brx_writeRecord_eq hclosed
  rw [if_neg (Nat.not_lt.mpr hfull)] at heq
  refine runs_brx (congrArg (done s) heq) fun t hget hbrx => ?_
  rw [on_congr (hget ..), on_congr (Brx_refresh_get (by decide)), on_congr Brx_resolve_get, on_congr handed_get, dropped,
    on_set (by decide) (by decide), hbrx, Brx_refresh_brx, Brx.resolve, handed_brx]
  exact ⟨rfl, rfl, rfl, rfl⟩

/-! ### GAP_CLOSE, FADE and ORPHAN (R136, R137) -/

theorem Brx_gap_payload (hc : c < 4) (hstate : Brx.state s c = 3) (hlen : 32 ≤ run.length) (habsent : run.all (Brx.isAbsent s c) = true) :
    Brx.gap c run psym fofs snr s = (Brx.truncate c psym fofs snr s).set F.BRX_INT_CAUSE_TRUNCATED := by
  rw [Brx.gap, if_neg (by simp [habsent, hlen]), if_pos hc, hstate]
  rfl

theorem Brx_gap_header (hc : c < 4) (hstate : Brx.state s c = 2) (hlen : 32 ≤ run.length) (habsent : run.all (Brx.isAbsent s c) = true) :
    Brx.gap c run psym fofs snr s = Brx.abandon c s := by
  rw [Brx.gap, if_neg (by simp [habsent, hlen]), if_pos hc, hstate]
  rfl

theorem gapClose_payload_runs (hc : c < 4) (hstate : Brx.state s c = 3) (hlen : 32 ≤ run.length)
    (habsent : run.all (Brx.isAbsent s c) = true) :
    runs (.gapClose c psym fofs snr run) s (fun t => Brx.state t c = 1 ∧
      t.get F.BRX_CNT_COUNT c 5 = min (2 ^ 32 - 1) (s.get F.BRX_CNT_COUNT c 5 + 1) ∧ t.on F.BRX_INT_CAUSE_TRUNCATED = true ∧
      t.brx.closed = s.brx.closed ++ [closing s c 2 0 psym fofs snr []]) := by
  have hcounted : closing (Brx.count c 5 s) c 2 0 psym fofs snr [] = closing s c 2 0 psym fofs snr [] :=
    closing_congr Brx_count_current fun _ => Brx_count_capture
  refine runs_brx (congrArg (done s) (Brx_gap_payload hc hstate hlen habsent)) fun t hget hbrx => ?_
  rw [Brx_state_congr (hget ..), hget, on_congr (hget ..), hbrx, Brx_state_congr (get_set_ne (by decide)), get_set_ne (by decide), State.set,
    State_put_brx, Brx.truncate, Brx_close_brx, hcounted, Brx_count_brx, Brx_close_get (by decide), Brx_count_at hc (by decide)]
  exact ⟨Brx_close_state hc, rfl, on_set (by decide) (by decide), rfl⟩

theorem gapClose_header_runs (hc : c < 4) (hstate : Brx.state s c = 2) (hlen : 32 ≤ run.length)
    (habsent : run.all (Brx.isAbsent s c) = true) :
    runs (.gapClose c psym fofs snr run) s (fun t => Brx.state t c = 1 ∧
      t.get F.BRX_CNT_COUNT c 1 = min (2 ^ 32 - 1) (s.get F.BRX_CNT_COUNT c 1 + 1)) := by
  refine runs_brx (congrArg (done s) (Brx_gap_header hc hstate hlen habsent)) fun t hget _ => ?_
  rw [Brx_state_congr (hget ..), hget, Brx_abandon_count, Brx_count_at hc (by decide)]
  exact ⟨Brx_abandon_state hc, rfl⟩

theorem fade_runs (hc : c < 4) (hstate : 2 ≤ Brx.state s c) (hone : 1 ≤ run.length) (hlen : run.length ≤ 31)
    (habsent : run.all (Brx.isAbsent s c) = true) (hnext : Brx.isAbsent s c next = false) :
    runs (.fade c run next) s (fun t => (Brx.current t c).faded = true ∧ Brx.state t c = Brx.state s c ∧
      t.get F.BRX_CNT_COUNT c 9 = min (2 ^ 32 - 1) (s.get F.BRX_CNT_COUNT c 9 + 1)) := by
  have hfade : Brx.fade c run next s = Brx.follow c { Brx.current s c with faded := true } (Brx.count c 9 s) :=
    if_pos ⟨hc, hstate, hone, hlen, habsent, by simp [hnext]⟩
  refine runs_brx (congrArg (done s) hfade) fun t hget hbrx => ?_
  rw [Brx_current_congr hbrx, Brx_follow_current, Brx_state_congr (hget ..), hget]
  exact ⟨rfl, Brx_count_state, Brx_count_at hc (by decide)⟩

/-- ORPHAN. The end of an episode after 32 symbols that are not present, counted before the run, is the model's choice (assumption 50). -/
theorem orphan_runs (hc : c < 4) (hstate : Brx.state s c = 1) (hlen : 32 ≤ run.length) (hpresent : run.all (Brx.isPresent s) = true)
    (hnew : s.on H.BRX_EPISODE c = false ∨ 32 ≤ quiet) :
    runs (.orphan c quiet run) s (fun t => t.on H.BRX_EPISODE c = true ∧
      t.get F.BRX_CNT_COUNT c 8 = min (2 ^ 32 - 1) (s.get F.BRX_CNT_COUNT c 8 + 1)) := by
  have horphan : Brx.orphan c quiet run s = (Brx.count c 8 s).set H.BRX_EPISODE c := if_pos ⟨hc, hstate, hlen, hpresent, hnew⟩
  refine runs_brx (congrArg (done s) horphan) fun t hget _ => ?_
  rw [on_congr (hget ..), hget, get_set_ne (by decide), Brx_count_at hc (by decide)]
  exact ⟨on_set (has_row rfl hc) (by decide), rfl⟩

/-! ### SC_ABSENT (R138) -/

/-- The bit of a judged subcarrier takes what its last 32 symbols tell. -/
theorem Brx_absent_bit (hk : k < 512) (hjudged : Brx.judged s k = true) (hrun : Brx.run s k present symbols = true) :
    (Brx.absent k present symbols s).bit F.BRX_SC_ABSENT_SC (k % 32) (k / 32) = present := by
  have hrow : F.BRX_SC_ABSENT_SC.shape.has (k / 32) 0 0 = true := has_row rfl (by omega)
  have hbit : k % 32 < F.BRX_SC_ABSENT_SC.width := Nat.mod_lt _ (by decide)
  rw [Brx.absent, if_pos (by rw [hjudged, hrun]; rfl), State.putBit]
  cases present
  · rw [if_neg (by decide), bit_clrBit, bne_self_eq_false, Bool.and_false]
  · rw [if_pos rfl, bit_setBit hrow hbit, beq_self_eq_true, Bool.or_true]

theorem scAbsentSet_runs (hk : k < 512) (hjudged : Brx.judged s k = true) (hrun : Brx.run s k true symbols = true) :
    runs (.scAbsentSet k symbols) s (fun t => t.bit F.BRX_SC_ABSENT_SC (k % 32) (k / 32) = true) := by
  refine runs_brx rfl fun t hget _ => ?_
  rw [bit_congr (hget ..), bit_congr (noted_get (by decide)), Brx_absent_bit hk hjudged hrun]

theorem scAbsentClear_runs (hk : k < 512) (hjudged : Brx.judged s k = true) (hrun : Brx.run s k false symbols = true) :
    runs (.scAbsentClear k symbols) s (fun t => t.bit F.BRX_SC_ABSENT_SC (k % 32) (k / 32) = false) := by
  refine runs_brx rfl fun t hget _ => ?_
  rw [bit_congr (hget ..), Brx_absent_bit hk hjudged hrun]

/-! ### REC_POP and COL_POP (R140, R141) -/

theorem recPop_runs (ht : takes .BRX_REC_POP s = true) :
    runs .recPop s (fun t => t.brx.ring = s.brx.ring.drop 1 ∧ t.get F.BRX_REC_STAT_COUNT = (s.brx.ring.drop 1).length % 512) := by
  refine runs_brxRow rfl ht rfl (by decide) fun t hget hbrx => ?_
  rw [hget _ (by decide), hbrx, Brx.recPop, Brx_refresh_records, Brx_refresh_brx]
  exact ⟨rfl, rfl⟩

theorem colPop_runs (ht : takes .BRX_COL_POP s = true) (hdone : Brx.headDone s = true) :
    runs .colPop s (fun t => t.brx.log = s.brx.log.drop 1 ∧ t.get F.BRX_COL_STAT_COUNT = (s.brx.log.drop 1).length % 512) := by
  refine runs_brxRow rfl ht rfl (by decide) fun t hget hbrx => ?_
  rw [hget _ (by decide), hbrx, Brx.colPop, if_pos hdone, Brx_refresh_entries, Brx_refresh_brx]
  exact ⟨rfl, rfl⟩

/-- Settles O35, with one lemma for each command and case: what its conditions make of the operation, then the state of the channel, its
counters and the queues that it leaves. The end of an orphan episode and the saturated Λ are the model's choice (assumption 50), the symbols that
are judged its reading of R138 (assumption 51). -/
theorem burstCommandResults : Obligations.BurstCommandResults := by
  unfold Obligations.BurstCommandResults
  refine ⟨fun s c => brxEnable_runs, fun s => brxEnable_refused_runs, fun s => brxDisable_runs,
    fun s c q after level lambda aMfn aFn aOfs dMfn dFn dSym psym fofs snr => peakDetect_search_runs,
    fun s c q after level lambda aMfn aFn aOfs dMfn dFn dSym psym fofs snr => peakDetect_safe_runs,
    fun s c q after level lambda aMfn aFn aOfs dMfn dFn dSym psym fofs snr => peakDetect_restart_runs,
    fun s c q after level lambda aMfn aFn aOfs dMfn dFn dSym psym fofs snr => peakDetect_besideHeader_runs,
    fun s c q after level lambda aMfn aFn aOfs dMfn dFn dSym psym fofs snr => peakDetect_capture_runs,
    fun s c q after level lambda aMfn aFn aOfs dMfn dFn dSym psym fofs snr => peakDetect_besidePayload_runs,
    fun s c hdr crcOk => headerDecision_good_runs, fun s c hdr crcOk => headerDecision_bad_runs,
    fun s c crcOk em fofs snr msg => burstClose_runs, fun s x rest => burstRecord_runs, fun s x rest => burstRecord_full_runs,
    fun s c run psym fofs snr => gapClose_payload_runs, fun s c run psym fofs snr => gapClose_header_runs, fun s c run next => fade_runs,
    fun s c quiet run => orphan_runs, fun s k symbols => scAbsentSet_runs, fun s k symbols => scAbsentClear_runs, fun s => recPop_runs,
    fun s => colPop_runs⟩

end Sys2Proof.Proofs

/-! SUPPORT. What a command of framing, of the flows or of the memory ports completes with, and what the operations that FRM's commands share leave
alone (O36, O37, O40; R153 to R158, R160). -/
namespace Sys2Proof.Proofs
open Sys2Proof Sys2Proof.Machine Sys2Proof.Laws

variable {s t u v : State} {c : Instr} {p : State → Prop} {f g : Machine.Field} {i id j k n w x y z : Nat} {r : RegId} {dword : Nat → Nat}
  {eff : State → State} {l rest : List Cand}

/-! ### Completions -/

/-- `t` shows what `u` shows in every field that the count of an access leaves alone, and in the queues of FRM and FLW; what `u` has put out
is still put out. -/
structure Shows (u t : State) : Prop where
  get : ∀ g : Machine.Field, uncounted g = true → ∀ i j k, t.get g i j k = u.get g i j k
  frm : t.frm = u.frm
  flw : t.flw = u.flw
  out : u.out <:+ t.out

theorem Shows.on (h : Shows u t) (g : Machine.Field) (hg : uncounted g = true) : t.on g i j k = u.on g i j k := on_congr (h.get g hg ..)

theorem Shows.bit (h : Shows u t) (g : Machine.Field) (hg : uncounted g = true) : t.bit g n i j k = u.bit g n i j k := bit_congr (h.get g hg ..)

theorem Shows.any (h : Shows u t) {q : Emit → Bool} (hq : u.out.any q = true) : t.out.any q = true := by
  rw [List.any_eq_true] at hq ⊢
  obtain ⟨o, ho, hqo⟩ := hq
  exact ⟨o, h.out.subset ho, hqo⟩

theorem shows_settle (h : Shows v u) : Shows v (settle s u) :=
  ⟨fun g hg i j k => (settle_get ..).trans (h.get g hg i j k), (settle_frm ..).trans h.frm, (settle_flw ..).trans h.flw,
    h.out.trans (settle_out ..)⟩

theorem shows_mirror (h : Shows v u) : Shows v (Peer.mirror s u) :=
  ⟨fun g hg i j k => (mirror_get ..).trans (h.get g hg i j k), (mirror_frm ..).trans h.frm, (mirror_flw ..).trans h.flw,
    h.out.trans (mirror_out ..)⟩

theorem shows_self (u : State) : Shows u u := ⟨fun _ _ _ _ _ => rfl, rfl, rfl, List.suffix_refl _⟩

/-- A write that reaches a block without effects outside it is its effect and the count of the access. -/
theorem quietRow_eq (ht : takes r s = true) (hi : r.shape.has i j 0 = true) (hb : quiet (Sys.blockOf (r.barAddr 0 0 0)) = true) :
    Bus.row Bus.host r i j dword eff s =
      Pmc.access (521 + 2 * Sys.blockOf (r.barAddr 0 0 0)) Bus.host (r.barAddr i j 0) s (eff s) := by
  simp only [quiet, Bool.and_eq_true, bne_iff_ne] at hb
  obtain ⟨⟨hsyn, htx⟩, hrx⟩ := hb
  rw [row_takes _ _ ht hi, Bus.follow, if_neg hsyn, if_neg fun h => h.elim htx hrx]

theorem shows_row (ht : takes r s = true) (hi : r.shape.has i j 0 = true) (hb : quiet (Sys.blockOf (r.barAddr 0 0 0)) = true) :
    Shows (eff s) (Bus.row Bus.host r i j dword eff s) := by
  rw [quietRow_eq ht hi hb]
  exact ⟨fun g hg i j k => access_get _ _ _ _ _ g i j k hg, access_frm .., access_flw .., (access_moved ..).out⟩

/-- A command completes with what its operation leaves. -/
theorem runs_shows (e : exec c s = done s u) (hp : ∀ t, Shows u t → p t) : runs c s p := runs_done e (hp _ (shows_settle (shows_self u)))

/-- So does one that the peer mirrors. -/
theorem runs_shows_mirrored (e : exec c s = Access.doneMirrored s u) (hp : ∀ t, Shows u t → p t) : runs c s p :=
  runs_mirrored e (hp _ (shows_settle (shows_mirror (shows_self u))))

/-- So does one that a register write carries out, without the mirror records and with them. -/
theorem runs_showsRow (e : exec c s = done s (Bus.row Bus.host r 0 0 dword eff s)) (ht : takes r s = true)
    (hi : r.shape.has 0 0 0 = true) (hb : quiet (Sys.blockOf (r.barAddr 0 0 0)) = true) (hp : ∀ t, Shows (eff s) t → p t) : runs c s p :=
  runs_done e (hp _ (shows_settle (shows_row ht hi hb)))

theorem runs_showsRow_mirrored (e : exec c s = Access.doneMirrored s (Bus.row Bus.host r 0 0 dword eff s)) (ht : takes r s = true)
    (hi : r.shape.has 0 0 0 = true) (hb : quiet (Sys.blockOf (r.barAddr 0 0 0)) = true) (hp : ∀ t, Shows (eff s) t → p t) : runs c s p :=
  runs_mirrored e (hp _ (shows_settle (shows_mirror (shows_row ht hi hb))))

/-! ### The note of raw conditions (R160) -/

def noteFields : List Machine.Field :=
  [H.FRM_LIVE_F, H.FRM_LIVE_SC, H.FRM_SEC_CLI, H.FRM_SEC_SC, H.FRM_SEEN_CLI, H.FRM_SEEN_FLOW, H.FRM_SEEN_LANE, H.FRM_SEEN_LINE, H.FRM_SEEN_SC]

theorem note_moves (h : clearOf noteFields g = true) : Moves (Misses g) s (Frm.note s) := by
  apply Frm_note_moves (h := .refl) <;> exact misses_of_clearOf h (by decide)

theorem note_get (h : clearOf noteFields g = true) : (Frm.note s).get g i j k = s.get g i j k := (note_moves h).get_misses

theorem note_on (h : clearOf noteFields g = true) : (Frm.note s).on g i j k = s.on g i j k := on_congr (note_get h)

@[simp] theorem note_frm : (Frm.note s).frm = s.frm := by
  have hm : Moves (· ≠ .frm) s (Frm.note s) := by apply Frm_note_moves (h := .refl) <;> exact nofun
  exact hm.untouched_frm (not_not.mpr rfl)

theorem remember_get (h : apart f g = true) : (Frm.remember f n i s).get g x y z = s.get g x y z := by
  unfold Frm.remember
  split
  · rfl
  · exact get_put_ne h

/-- Of a subcarrier's live counters the note writes the seventh alone, the conditions seen. -/
theorem note_live (hw : w ≠ 6) : (Frm.note s).get H.FRM_LIVE_SC k w = s.get H.FRM_LIVE_SC k w := by
  unfold Frm.note
  dsimp only
  refine (eachOf_keeps (obs := fun t => t.get H.FRM_LIVE_SC k w) (fun c _ t => ?_) _).trans ?_
  · rw [remember_get (by decide), remember_get (by decide)]
  refine (each_keeps (obs := fun t => t.get H.FRM_LIVE_SC k w) 32 fun n t _ => remember_get (by decide)).trans ?_
  refine (eachOf_keeps (obs := fun t => t.get H.FRM_LIVE_SC k w) (fun f _ t => ?_) _).trans ?_
  · split
    · exact remember_get (by decide)
    · exact (get_put_ne (by decide)).trans (remember_get (by decide))
  refine (eachOf_keeps (obs := fun t => t.get H.FRM_LIVE_SC k w) (fun b _ t => ?_) _).trans (remember_get (by decide))
  split
  · rw [remember_get (by decide), remember_get (by decide)]
  · rw [get_put_column (by decide) hw.symm, remember_get (by decide), remember_get (by decide)]

/-! ### The search (R153 to R156) -/

def searchFields : List Machine.Field :=
  [F.FRM_ALIGN_STAT_CAND, F.FRM_ALIGN_STAT_IN_MF, F.FRM_ALIGN_STAT_MFN_VALID, F.FRM_ALIGN_STAT_STATE, F.FRM_SSM_RX_VALID, H.FRM_AMBIG,
   H.FRM_FAW_MISS, H.FRM_FN_MISS, H.FRM_FN_RUN, H.FRM_SSM_RUN, H.FRM_TTI_GOT, H.FRM_TTI_RUN]

/-- What is apart from the fields of the search and from the stamps of the streams' frames. -/
def unsearched (g : Machine.Field) : Bool := clearOf searchFields g && spares [g] (.arr H.FRM_BIP_AT)

theorem setCands_get (h : apart F.FRM_ALIGN_STAT_CAND g = true) : (Frm.setCands l rest s).get g i j k = s.get g i j k := get_put_ne h

theorem setCands_frm : (Frm.setCands l rest s).frm = { s.frm with cands := l, rivals := rest } := State_put_frm ..

theorem setCands_count : (Frm.setCands l rest s).get F.FRM_ALIGN_STAT_CAND = l.length % 16 := State_get_put_same _ _ _ _ _ _ (by decide)

theorem search_get (h : unsearched g = true) : (Frm.search s).get g i j k = s.get g i j k := by
  simp only [unsearched, Bool.and_eq_true] at h
  obtain ⟨hfields, hstamps⟩ := h
  have hm : Moves (Misses g) s (Frm.search s) := by
    apply Frm_search_moves trivial (h := .refl)
    · exact of_decide_eq_true (p := lastKey g < H.FRM_BIP_AT.range.1 ∨ H.FRM_BIP_AT.range.2 ≤ g.key 0 0 0) (List.all_eq_true.mp hstamps g (by simp))
    all_goals exact misses_of_clearOf hfields (by decide)
  exact hm.get_misses

theorem search_frm : (Frm.search s).frm = { s.frm with cands := [], rivals := [] } := by
  simp only [Frm.search, setCands_frm, State.wipe, State.wipeRange, State.clr, State_put_frm]

theorem search_state : (Frm.search s).get F.FRM_ALIGN_STAT_STATE = 1 := by
  have hm : Moves (Sparing [F.FRM_ALIGN_STAT_STATE]) (s.put F.FRM_ALIGN_STAT_STATE 1) (Frm.search s) := by
    unfold Frm.search
    refine Frm_setCands_moves (W := Sparing _) rfl rfl _ _ (.wipe _ rfl ?_)
    iterate 10 refine .clr _ _ _ rfl ?_
    exact .refl
  rw [get_of_sparing hm (by decide), get_put_lt (by decide) (by decide)]

theorem search_inMf : (Frm.search s).on F.FRM_ALIGN_STAT_IN_MF = false := by
  have hm : Moves (Sparing [F.FRM_ALIGN_STAT_IN_MF]) ((s.put F.FRM_ALIGN_STAT_STATE 1).clr F.FRM_ALIGN_STAT_IN_MF) (Frm.search s) := by
    unfold Frm.search
    refine Frm_setCands_moves (W := Sparing _) rfl rfl _ _ (.wipe _ rfl ?_)
    iterate 9 refine .clr _ _ _ rfl ?_
    exact .refl
  rw [on_congr (get_of_sparing hm (by decide)), on_clr]

theorem search_count : (Frm.search s).get F.FRM_ALIGN_STAT_CAND = 0 := setCands_count

end Sys2Proof.Proofs

/-! SUPPORT. The frame counters of the transmitter where their conditions hold (O36; R142, R386). -/
namespace Sys2Proof.Proofs
open Sys2Proof Sys2Proof.Machine Sys2Proof.Laws

variable {s t u : State} {p : Nat × Nat} {c d : Cand} {g : Machine.Field} {covered : List (List Bool)}
  {errs fn i j k mfn pos rot rotY value word : Nat} {l rest : List Cand}

/-! ### TX_EN and TX_FRAME (R142) -/

theorem txEn_runs (ht : takes .FRM_CTRL s = true) :
    runs (.txEn value) s (fun t => t.get F.FRM_CTRL_TX_EN = value % 2 ∧
      (value % 2 = 0 ∧ s.on F.FRM_CTRL_TX_EN = true → t.on H.FRM_TX_RUN = false)) := by
  refine runs_showsRow_mirrored rfl ht rfl (by decide) fun t h => ?_
  rw [h.get _ (by decide), h.on _ (by decide), Bus.frmTxEn]
  split
  next hsame => exact ⟨hsame, fun ⟨hoff, hon⟩ => absurd (hsame.trans hoff) (by simpa [State.on] using hon)⟩
  next =>
    unfold Frm.txEnable
    rcases Nat.mod_two_eq_zero_or_one value with hv | hv
    · rw [hv]
      exact ⟨(get_clr_ne (by decide)).trans get_clr, fun _ => on_clr⟩
    · rw [hv]
      exact ⟨get_put_lt (by decide) (by decide), fun hoff => absurd hoff.1 (by decide)⟩

/-- The frame's number as TX_FRAME counts it. -/
def txCounted (p : Nat × Nat) (s : State) : State := Vlk.judge (((s.set H.FRM_TX_RUN).put H.FRM_TX_MFN p.1).put H.FRM_TX_FN p.2)

/-- The frames of the subcarriers, and what goes with their overhead. -/
def txSent (p : Nat × Nat) (covered : List (List Bool)) (s : State) : List (Nat × Nat) × State :=
  if s.on F.LTX_STAT_ACTIVE then
    (List.range (Ltx.subcarriers s)).foldl (fun (a : List (Nat × Nat) × State) k => Frm.txSubcarrier p.1 p.2 covered k a.1 a.2) ([], s)
  else ([], s)

/-- What happens at the boundary of a frame that has been counted (R142 to R146). -/
def txBoundary (p : Nat × Nat) (s : State) : State :=
  let s := if p.2 = 0 then Frm.multiframeStart s else s
  let s := if s.leaf then Vlk.frameBoundary p.1 s else s
  Ltx.resume (Ltx.start (Pwr.releaseEffect s))

/-- What follows the frame's start. -/
def txFollowed (p : Nat × Nat) (covered : List (List Bool)) (s : State) : State :=
  let r := txSent p covered s
  let s := if s.on F.LTX_STAT_ACTIVE then r.2.emit (.overhead (r.1.reverse.map (fun x => (x.1, Frm.blockZero x.2)))) else r.2
  let s := if s.leaf then s else Scm.resendDue s
  Frm.note (Vlk.sendFrames (if Vlk.hubOn s then Vlk.age s else s))

theorem txFrame_eq (hen : s.on F.FRM_CTRL_TX_EN = true) (hawake : Rest.awake s = true)
    (hp : (if s.leaf then (mfn % 2 ^ 24, fn % 256) else Scm.nextFrame s) = p) :
    Frm.txFrame mfn fn covered s = txFollowed p covered (txBoundary p (txCounted p s)) := by
  subst hp
  rw [Frm.txFrame, if_neg (by simp [hen, hawake])]
  rfl

/-- The fields that show which frame is being sent. -/
def txFields : List Machine.Field := [H.FRM_TX_RUN, H.FRM_TX_MFN, H.FRM_TX_FN, H.VLK_TREE]

abbrev TxKept : Part → Prop := Sparing txFields

theorem txBoundary_moves (p : Nat × Nat) (s : State) : Moves TxKept s (txBoundary p s) := by
  have hstart : Moves TxKept s (if p.2 = 0 then Frm.multiframeStart s else s) := by
    refine moves_ite ?_ .refl
    apply Frm_multiframeStart_moves (h := .refl) <;> rfl
  unfold txBoundary
  dsimp only
  generalize (if p.2 = 0 then Frm.multiframeStart s else s) = u at hstart
  have hleaf : Moves TxKept s (if u.leaf then Vlk.frameBoundary p.1 u else u) := by
    refine moves_ite ?_ hstart
    apply Vlk_frameBoundary_moves (h := hstart) <;> rfl
  have hrelease : Moves TxKept s (Pwr.releaseEffect (if u.leaf then Vlk.frameBoundary p.1 u else u)) := by
    apply Pwr_releaseEffect_moves (h := hleaf) <;> rfl
  have hmute : Moves TxKept s (Ltx.start (Pwr.releaseEffect (if u.leaf then Vlk.frameBoundary p.1 u else u))) := by
    apply Ltx_start_moves (h := hrelease) <;> rfl
  exact Ltx_resume_moves rfl hmute

theorem txSent_moves (p : Nat × Nat) (covered : List (List Bool)) (s : State) : Moves TxKept s (txSent p covered s).2 := by
  unfold txSent
  split
  · refine foldlPair_moves _ (g := fun l t k => Frm.txSubcarrier p.1 p.2 covered k l t) (fun l t k h => ?_) .refl
    apply Frm_txSubcarrier_moves (h := h) <;> rfl
  · exact .refl

theorem txFollowed_moves (p : Nat × Nat) (covered : List (List Bool)) (s : State) : Moves TxKept s (txFollowed p covered s) := by
  have hsent := txSent_moves p covered s
  unfold txFollowed
  generalize txSent p covered s = r at hsent
  dsimp only
  have hover : Moves TxKept s (if s.on F.LTX_STAT_ACTIVE then r.2.emit (.overhead (r.1.reverse.map (fun x => (x.1, Frm.blockZero x.2)))) else r.2) :=
    moves_ite (hsent.emit _) hsent
  generalize (if s.on F.LTX_STAT_ACTIVE then r.2.emit (.overhead (r.1.reverse.map (fun x => (x.1, Frm.blockZero x.2)))) else r.2) = u at hover
  have hresent : Moves TxKept s (if u.leaf then u else Scm.resendDue u) := by
    refine moves_ite hover ?_
    apply Scm_resendDue_moves (h := hover) <;> rfl
  generalize (if u.leaf then u else Scm.resendDue u) = v at hresent
  have haged : Moves TxKept s (if Vlk.hubOn v then Vlk.age v else v) := by
    refine moves_ite ?_ hresent
    exact Vlk_age_moves rfl hresent
  have hframes : Moves TxKept s (Vlk.sendFrames (if Vlk.hubOn v then Vlk.age v else v)) := by
    apply Vlk_sendFrames_moves (h := haged) <;> rfl
  apply Frm_note_moves (h := hframes) <;> rfl

/-- After TX_FRAME the counters and the judgement of the tree are those of the frame counted. -/
theorem txFrame_get (hen : s.on F.FRM_CTRL_TX_EN = true) (hawake : Rest.awake s = true)
    (hp : (if s.leaf then (mfn % 2 ^ 24, fn % 256) else Scm.nextFrame s) = p) (hg : g ∈ txFields) :
    (Tick.txFrame mfn fn covered s).get g i j k = (txCounted p s).get g i j k := by
  have hframe : Moves TxKept (txCounted p s) (Frm.txFrame mfn fn covered s) := by
    rw [txFrame_eq hen hawake hp]
    exact (txBoundary_moves p _).trans (txFollowed_moves p covered _)
  exact get_of_sparing (moves_ite (Eng_edge_moves (W := TxKept) rfl 3 hframe) hframe) hg

theorem txCounted_shows (hmfn : p.1 < 2 ^ 24) (hfn : p.2 < 256) : (txCounted p s).on H.FRM_TX_RUN = true ∧
    (txCounted p s).get H.FRM_TX_MFN = p.1 ∧ (txCounted p s).get H.FRM_TX_FN = p.2 := by
  unfold txCounted Vlk.judge
  refine ⟨?_, ?_, ?_⟩
  · rw [on_put_ne (by decide), on_put_ne (by decide), on_put_ne (by decide), on_set (by decide) (by decide)]
  · rw [get_put_ne (by decide), get_put_ne (by decide), get_put_lt (by decide) hmfn]
  · rw [get_put_ne (by decide), get_put_lt (by decide) hfn]

/-- In a hub the tree is judged by VLK.CTRL.EN (R386). -/
theorem txCounted_tree (hleaf : s.leaf = false) : (txCounted p s).get H.VLK_TREE = s.get F.VLK_CTRL_EN := by
  unfold txCounted Vlk.judge
  generalize hu : ((s.set H.FRM_TX_RUN).put H.FRM_TX_MFN p.1).put H.FRM_TX_FN p.2 = u
  have hget {g : Machine.Field} (h : clearOf txFields g = true) : u.get g = s.get g := by
    rw [← hu, get_put_ne (misses_of_clearOf h (by decide)), get_put_ne (misses_of_clearOf h (by decide)),
      get_set_ne (misses_of_clearOf h (by decide))]
  have hhub : Vlk.hubOn u = s.on F.VLK_CTRL_EN := by
    rw [Vlk.hubOn, State.leaf, hget (by decide), ← State.leaf, hleaf, Vlk.enabled, State.on, hget (by decide)]
    rfl
  rw [hhub, get_put_lt (by decide) (by unfold b01; split <;> decide), ← get_of_on rfl]

theorem nextFrame_number_lt (s : State) : (Scm.nextFrame s).2 < 256 := by
  have hlt : s.get H.FRM_TX_FN < 2 ^ 8 := State_get_lt ..
  unfold Scm.nextFrame
  split_ifs <;> dsimp only <;> omega

theorem txFrame_hub_runs (hen : s.on F.FRM_CTRL_TX_EN = true) (hawake : Rest.awake s = true) (hleaf : s.leaf = false) :
    runs (.txFrame mfn fn covered) s (fun t => t.on H.FRM_TX_RUN = true ∧ t.get H.FRM_TX_MFN = (Scm.nextFrame s).1 ∧
      t.get H.FRM_TX_FN = (Scm.nextFrame s).2 ∧ t.get H.VLK_TREE = s.get F.VLK_CTRL_EN) := by
  have hp : (if s.leaf then (mfn % 2 ^ 24, fn % 256) else Scm.nextFrame s) = Scm.nextFrame s := if_neg (by simp [hleaf])
  obtain ⟨hrun, hm, hf⟩ := txCounted_shows (s := s) (nextFrame_lt s) (nextFrame_number_lt s)
  refine runs_shows_mirrored rfl fun t h => ?_
  rw [h.on _ (by decide), h.get _ (by decide), h.get _ (by decide), h.get _ (by decide), on_congr (txFrame_get hen hawake hp (by decide)),
    txFrame_get hen hawake hp (by decide), txFrame_get hen hawake hp (by decide), txFrame_get hen hawake hp (by decide)]
  exact ⟨hrun, hm, hf, txCounted_tree hleaf⟩

theorem txFrame_leaf_runs (hen : s.on F.FRM_CTRL_TX_EN = true) (hawake : Rest.awake s = true) (hleaf : s.leaf = true) :
    runs (.txFrame mfn fn covered) s (fun t => t.on H.FRM_TX_RUN = true ∧ t.get H.FRM_TX_MFN = mfn % 2 ^ 24 ∧
      t.get H.FRM_TX_FN = fn % 256) := by
  have hp : (if s.leaf then (mfn % 2 ^ 24, fn % 256) else Scm.nextFrame s) = (mfn % 2 ^ 24, fn % 256) := if_pos hleaf
  refine runs_shows_mirrored rfl fun t h => ?_
  rw [h.on _ (by decide), h.get _ (by decide), h.get _ (by decide), on_congr (txFrame_get hen hawake hp (by decide)),
    txFrame_get hen hawake hp (by decide), txFrame_get hen hawake hp (by decide)]
  exact txCounted_shows (Nat.mod_lt _ (by decide)) (Nat.mod_lt _ (by decide))

end Sys2Proof.Proofs

/-! SUPPORT. The frame search and the check of alignment where their conditions hold (R153 to R156), and O36. -/
namespace Sys2Proof.Proofs
open Sys2Proof Sys2Proof.Machine Sys2Proof.Laws

variable {s t u : State} {c d : Cand} {g : Machine.Field} {errs i id j k pos rot rotY value word : Nat} {l rest : List Cand}

/-! ### RX_EN and RESEARCH (R153) -/

theorem rxEnable_begins (hen : s.on F.FRM_CTRL_RX_EN = false) (htree : Frm.onTree s = false)
    (hdata : s.leaf = true ∨ s.get H.LRX_ACTIVE (s.get F.FRM_ALIGN_CFG_ALIGN_SC) % 8 = 1) :
    Frm.rxEnable s = Frm.note (Frm.search (s.set F.FRM_CTRL_RX_EN)) := by
  rw [Frm.rxEnable, if_neg (by simp [hen]), if_neg (by simp [htree]), if_neg]
  rcases hdata with h | h <;> simp [h]

theorem rxEn_begins_runs (ht : takes .FRM_CTRL s = true) (hv : value % 2 = 1) (hen : s.on F.FRM_CTRL_RX_EN = false)
    (htree : Frm.onTree s = false) (hdata : s.leaf = true ∨ s.get H.LRX_ACTIVE (s.get F.FRM_ALIGN_CFG_ALIGN_SC) % 8 = 1) :
    runs (.rxEn value) s (fun t => t.on F.FRM_CTRL_RX_EN = true ∧ t.get F.FRM_ALIGN_STAT_STATE = 1 ∧ t.frm.cands = []) := by
  refine runs_showsRow rfl ht rfl (by decide) fun t h => ?_
  rw [if_pos hv, rxEnable_begins hen htree hdata] at h
  rw [h.on _ (by decide), h.get _ (by decide), h.frm, note_on (by decide), note_get (by decide), note_frm, search_frm, search_state,
    on_congr (search_get (by decide)), on_set (by decide) (by decide)]
  exact ⟨rfl, rfl, rfl⟩

theorem rxEn_refused_runs (ht : takes .FRM_CTRL s = true) (hv : value % 2 = 1) (hen : s.on F.FRM_CTRL_RX_EN = false)
    (htree : Frm.onTree s = false) (hleaf : s.leaf = false) (hdata : s.get H.LRX_ACTIVE (s.get F.FRM_ALIGN_CFG_ALIGN_SC) % 8 ≠ 1) :
    runs (.rxEn value) s (fun t => t.on F.FRM_CTRL_RX_EN = false ∧ t.on F.FRM_INT_CAUSE_CFG_ERR = true) := by
  have hrefused : Frm.rxEnable s = s.set F.FRM_INT_CAUSE_CFG_ERR := by
    rw [Frm.rxEnable, if_neg (by simp [hen]), if_neg (by simp [htree]), if_pos (by simp [hleaf, hdata])]
  refine runs_showsRow rfl ht rfl (by decide) fun t h => ?_
  rw [if_pos hv, hrefused] at h
  rw [h.on _ (by decide), h.on _ (by decide), on_set_ne (by decide), on_set (by decide) (by decide)]
  exact ⟨hen, rfl⟩

theorem rxEn_tree_runs (ht : takes .FRM_CTRL s = true) (hv : value % 2 = 1) (hen : s.on F.FRM_CTRL_RX_EN = false) (htree : Frm.onTree s = true) :
    runs (.rxEn value) s (fun t => t.on F.FRM_CTRL_RX_EN = true ∧ t.get F.FRM_ALIGN_STAT_STATE = s.get F.FRM_ALIGN_STAT_STATE) := by
  have hset : Frm.rxEnable s = s.set F.FRM_CTRL_RX_EN := by rw [Frm.rxEnable, if_neg (by simp [hen]), if_pos htree]
  refine runs_showsRow rfl ht rfl (by decide) fun t h => ?_
  rw [if_pos hv, hset] at h
  rw [h.on _ (by decide), h.get _ (by decide), on_set (by decide) (by decide), get_set_ne (by decide)]
  exact ⟨rfl, rfl⟩

theorem rxEn_ends_runs (ht : takes .FRM_CTRL s = true) (hv : value % 2 = 0) (hen : s.on F.FRM_CTRL_RX_EN = true) :
    runs (.rxEn value) s (fun t => t.on F.FRM_CTRL_RX_EN = false ∧ t.get F.FRM_ALIGN_STAT_STATE = 0) := by
  refine runs_showsRow rfl ht rfl (by decide) fun t h => ?_
  rw [if_neg (by omega), Frm.rxDisable, if_pos hen] at h
  rw [h.on _ (by decide), h.get _ (by decide), on_put_ne (by decide), on_congr (search_get (by decide)), on_clr,
    get_put_lt (by decide) (by decide)]
  exact ⟨rfl, rfl⟩

/-- What the frames that are marked errored at an out-of-frame leave alone. -/
theorem invalidate_get (h : apart H.FRM_LIVE_F g = true) : (Frm.invalidate id s).get g i j k = s.get g i j k :=
  (Frm_invalidate_moves (W := Misses g) trivial h id .refl).get_misses

theorem outOfFrame_shows : (Frm.outOfFrame s).get F.FRM_ALIGN_STAT_STATE = 1 ∧ (Frm.outOfFrame s).on F.FRM_ALIGN_STAT_IN_MF = false ∧
    (Frm.outOfFrame s).on F.FRM_INT_CAUSE_OOF = true ∧ (Frm.outOfFrame s).frm.cands = [] ∧
    (Frm.outOfFrame s).get F.FRM_ALIGN_STAT_CAND = 0 := by
  rw [Frm.outOfFrame, note_get (by decide), note_on (by decide), note_on (by decide), note_frm, note_get (by decide), search_frm,
    on_congr (f := F.FRM_INT_CAUSE_OOF) (search_get (by decide)), on_congr (f := F.FRM_INT_CAUSE_OOF) (invalidate_get (by decide)),
    on_set (by decide) (by decide)]
  exact ⟨search_state, search_inMf, rfl, rfl, search_count⟩

theorem research_runs (ht : takes .FRM_CTRL s = true) (hstate : s.get F.FRM_ALIGN_STAT_STATE ≠ 0) :
    runs .research s (fun t => t.get F.FRM_ALIGN_STAT_STATE = 1 ∧ t.on F.FRM_ALIGN_STAT_IN_MF = false ∧ t.on F.FRM_INT_CAUSE_OOF = true ∧
      t.frm.cands = [] ∧ t.get F.FRM_ALIGN_STAT_CAND = 0) := by
  refine runs_showsRow rfl ht rfl (by decide) fun t h => ?_
  rw [Frm.research, if_neg hstate] at h
  rw [h.get _ (by decide), h.on _ (by decide), h.on _ (by decide), h.frm, h.get _ (by decide)]
  exact outOfFrame_shows

theorem oof_runs (hin : Frm.inFrame s = true) (hmiss : 5 ≤ s.get H.FRM_FAW_MISS) :
    runs .oof s (fun t => t.get F.FRM_ALIGN_STAT_STATE = 1 ∧ t.on F.FRM_INT_CAUSE_OOF = true) := by
  refine runs_shows (congrArg (done s) (if_pos (by simp [hin, hmiss]))) fun t h => ?_
  rw [h.get _ (by decide), h.on _ (by decide)]
  obtain ⟨hstate, -, hcause, -⟩ := outOfFrame_shows (s := s)
  exact ⟨hstate, hcause⟩

/-! ### Candidates (R154, R155) -/

/-- A hit of the FAW in the search at a position where no candidate is held. -/
theorem fawHit_eq (hstate : s.get F.FRM_ALIGN_STAT_STATE = 1) (hrot : rot ≤ 3) (herrs : errs ≤ s.get F.FRM_ALIGN_CFG_FAW_TOL)
    (hnew : s.frm.cands.any (fun c => c.pos % Frm.frameLen == pos % Frm.frameLen && c.rot == rot) = false) :
    Frm.fawHit pos rot errs s =
      if 8 ≤ s.frm.cands.length then (s.count F.FRM_CAND_OVF_COUNT).set F.FRM_INT_CAUSE_CAND_OVF
      else Frm.setCands (s.frm.cands ++ [⟨pos, rot, 1, 0⟩]) s.frm.rivals s :=
  if_neg (by simp [hstate, hnew]; omega)

theorem fawHit_adds_runs (hstate : s.get F.FRM_ALIGN_STAT_STATE = 1) (hrot : rot ≤ 3) (herrs : errs ≤ s.get F.FRM_ALIGN_CFG_FAW_TOL)
    (hnew : s.frm.cands.any (fun c => c.pos % Frm.frameLen == pos % Frm.frameLen && c.rot == rot) = false) (hroom : s.frm.cands.length < 8) :
    runs (.fawHit pos rot errs) s (fun t => t.frm.cands = s.frm.cands ++ [(⟨pos, rot, 1, 0⟩ : Cand)] ∧
      t.get F.FRM_ALIGN_STAT_CAND = s.frm.cands.length + 1) := by
  refine runs_shows (congrArg (done s) ((fawHit_eq hstate hrot herrs hnew).trans (if_neg (Nat.not_le.mpr hroom)))) fun t h => ?_
  rw [h.frm, h.get _ (by decide), setCands_frm, setCands_count, List.length_append]
  exact ⟨rfl, Nat.mod_eq_of_lt (by simp; omega)⟩

theorem fawHit_overflows_runs (hstate : s.get F.FRM_ALIGN_STAT_STATE = 1) (hrot : rot ≤ 3) (herrs : errs ≤ s.get F.FRM_ALIGN_CFG_FAW_TOL)
    (hnew : s.frm.cands.any (fun c => c.pos % Frm.frameLen == pos % Frm.frameLen && c.rot == rot) = false) (hfull : 8 ≤ s.frm.cands.length) :
    runs (.fawHit pos rot errs) s (fun t => t.frm.cands = s.frm.cands ∧
      t.get F.FRM_CAND_OVF_COUNT = min (2 ^ 32 - 1) (s.get F.FRM_CAND_OVF_COUNT + 1) ∧ t.on F.FRM_INT_CAUSE_CAND_OVF = true) := by
  refine runs_shows (congrArg (done s) ((fawHit_eq hstate hrot herrs hnew).trans (if_pos hfull))) fun t h => ?_
  rw [h.frm, h.get _ (by decide), h.on _ (by decide), get_set_ne (by decide), get_count (by decide), on_set (by decide) (by decide)]
  exact ⟨by simp only [State.set, State.count, State_put_frm], rfl, rfl⟩

/-- The candidate is the one that the next position is judged of. -/
abbrev nextAt (pos rot : Nat) (x : Cand) : Bool := x.pos + Frm.frameLen == pos && x.rot == rot

/-- What a judgement makes of the candidate held for the position. -/
def judgedAs (pos rot : Nat) (r : Option (Cand × Bool)) (s : State) : State :=
  match r with
  | none => Frm.setCands (s.frm.cands.filter fun x => !nextAt pos rot x) s.frm.rivals s
  | some (d, true) => Frm.inFrameAt d (s.frm.cands.filter fun x => !nextAt pos rot x) s
  | some (d, false) => Frm.setCands (s.frm.cands.map fun x => if nextAt pos rot x then d else x) s.frm.rivals s

theorem candidateJudge_held (hfind : s.frm.cands.find? (nextAt pos rot) = some c) :
    Frm.candidateJudge pos rot errs word s =
      judgedAs pos rot (Frm.judgement c (decide (errs ≤ s.get F.FRM_ALIGN_CFG_FAW_TOL)) word) s := by
  simp only [Frm.candidateJudge, hfind]
  rcases Frm.judgement c (decide (errs ≤ s.get F.FRM_ALIGN_CFG_FAW_TOL)) word with _ | ⟨d, _ | _⟩ <;> rfl

theorem judgement_fails {hit : Bool} (h : hit = false ∨ Frm.wordOk word = false ∨ (c.made ≠ 1 ∧ Frm.wordFn word ≠ (c.fn + 1) % 256)) :
    Frm.judgement c hit word = none := by
  unfold Frm.judgement
  rcases h with h | h | ⟨hmade, hfn⟩
  · simp [h]
  · simp [h]
  · rw [if_neg hmade, if_neg hfn, ite_self]

theorem judgement_second (hok : Frm.wordOk word = true) (hmade : c.made = 1) :
    Frm.judgement c true word = some (⟨c.pos + Frm.frameLen, c.rot, 2, Frm.wordFn word⟩, false) := by
  simp [Frm.judgement, hok, hmade]

theorem judgement_third (hok : Frm.wordOk word = true) (hmade : c.made ≠ 1) (hfn : Frm.wordFn word = (c.fn + 1) % 256) :
    Frm.judgement c true word = some (⟨c.pos + Frm.frameLen, c.rot, 3, Frm.wordFn word⟩, true) := by
  simp [Frm.judgement, hok, hmade, hfn]

theorem candidateJudge_removes_runs (hfind : s.frm.cands.find? (nextAt pos rot) = some c)
    (hbad : s.get F.FRM_ALIGN_CFG_FAW_TOL < errs ∨ Frm.wordOk word = false ∨ (c.made ≠ 1 ∧ Frm.wordFn word ≠ (c.fn + 1) % 256)) :
    runs (.candidateJudge pos rot errs word) s (fun t => t.frm.cands = s.frm.cands.filter (fun x => !nextAt pos rot x) ∧
      t.get F.FRM_ALIGN_STAT_STATE = s.get F.FRM_ALIGN_STAT_STATE) := by
  have hnone : Frm.judgement c (decide (errs ≤ s.get F.FRM_ALIGN_CFG_FAW_TOL)) word = none :=
    judgement_fails (hbad.imp_left fun h => decide_eq_false (Nat.not_le.mpr h))
  refine runs_shows (congrArg (done s) ((candidateJudge_held hfind).trans (by rw [hnone]))) fun t h => ?_
  rw [h.frm, h.get _ (by decide), judgedAs, setCands_frm, setCands_get (by decide)]
  exact ⟨rfl, rfl⟩

theorem candidateJudge_second_runs (hfind : s.frm.cands.find? (nextAt pos rot) = some c) (herrs : errs ≤ s.get F.FRM_ALIGN_CFG_FAW_TOL)
    (hok : Frm.wordOk word = true) (hmade : c.made = 1) :
    runs (.candidateJudge pos rot errs word) s (fun t =>
      t.frm.cands = s.frm.cands.map (fun x => if nextAt pos rot x then ⟨c.pos + Frm.frameLen, c.rot, 2, Frm.wordFn word⟩ else x) ∧
      t.get F.FRM_ALIGN_STAT_STATE = s.get F.FRM_ALIGN_STAT_STATE) := by
  refine runs_shows (congrArg (done s) ((candidateJudge_held hfind).trans (by rw [decide_eq_true herrs, judgement_second hok hmade])))
    fun t h => ?_
  rw [h.frm, h.get _ (by decide), judgedAs, setCands_frm, setCands_get (by decide)]
  exact ⟨rfl, rfl⟩

theorem inFrameAt_shows (hfn : c.fn < 256) : (Frm.inFrameAt c rest s).get F.FRM_ALIGN_STAT_STATE = 2 ∧
    (Frm.inFrameAt c rest s).on F.FRM_ALIGN_STAT_IN_MF = true ∧ (Frm.inFrameAt c rest s).get F.FRM_ALIGN_STAT_ROT_X = c.rot % 4 ∧
    (Frm.inFrameAt c rest s).get H.FRM_RX_FN = c.fn ∧ (Frm.inFrameAt c rest s).on F.FRM_INT_CAUSE_IN_FRAME = true ∧
    (Frm.inFrameAt c rest s).frm.cands = [] := by
  have hcands : (Frm.inFrameAt c rest s).frm.cands = [] := by
    simp only [Frm.inFrameAt, note_frm, State.set, State_put_frm, setCands_frm]
  simp (disch := decide) only [Frm.inFrameAt, note_get, note_on, get_set_ne, get_put_ne, on_set_ne, on_put_ne]
  exact ⟨get_put_lt (by decide) (by decide), on_set (by decide) (by decide), State_get_put_same _ _ _ _ _ _ (by decide),
    get_put_lt (by decide) hfn, on_set (by decide) (by decide), hcands⟩

theorem candidateJudge_third_runs (hfind : s.frm.cands.find? (nextAt pos rot) = some c) (herrs : errs ≤ s.get F.FRM_ALIGN_CFG_FAW_TOL)
    (hok : Frm.wordOk word = true) (hmade : c.made ≠ 1) (hfn : Frm.wordFn word = (c.fn + 1) % 256) :
    runs (.candidateJudge pos rot errs word) s (fun t => t.get F.FRM_ALIGN_STAT_STATE = 2 ∧ t.on F.FRM_ALIGN_STAT_IN_MF = true ∧
      t.get F.FRM_ALIGN_STAT_ROT_X = c.rot % 4 ∧ t.get H.FRM_RX_FN = Frm.wordFn word ∧ t.on F.FRM_INT_CAUSE_IN_FRAME = true ∧
      t.frm.cands = []) := by
  refine runs_shows (congrArg (done s) ((candidateJudge_held hfind).trans (by rw [decide_eq_true herrs, judgement_third hok hmade hfn])))
    fun t h => ?_
  rw [h.get _ (by decide), h.on _ (by decide), h.get _ (by decide), h.get _ (by decide), h.on _ (by decide), h.frm]
  exact inFrameAt_shows (hfn ▸ Nat.mod_lt _ (by decide))

/-- A rival that completes match 3 in the window in which in-frame was declared. -/
theorem candidateJudge_rival (hnone : s.frm.cands.find? (nextAt pos rot) = none) (hfind : s.frm.rivals.find? (nextAt pos rot) = some c)
    (herrs : errs ≤ s.get F.FRM_ALIGN_CFG_FAW_TOL) (hok : Frm.wordOk word = true) (hmade : c.made ≠ 1)
    (hfn : Frm.wordFn word = (c.fn + 1) % 256) (hwindow : (pos + 128) / Frm.frameLen = s.frm.window)
    (hu : Frm.setCands s.frm.cands (s.frm.rivals.filter fun x => !nextAt pos rot x) s = u) :
    Frm.candidateJudge pos rot errs word s =
      if s.on H.FRM_AMBIG = true then u else (u.count F.FRM_PATTERN_AMBIG_COUNT).set H.FRM_AMBIG := by
  have hpos : c.pos + Frm.frameLen = pos := by
    have hat := List.find?_some hfind
    simp only [nextAt, Bool.and_eq_true, beq_iff_eq] at hat
    exact hat.1
  have hamb : u.on H.FRM_AMBIG = s.on H.FRM_AMBIG := by rw [← hu, on_congr (setCands_get (by decide))]
  have hwin : u.frm.window = s.frm.window := by rw [← hu, setCands_frm]
  simp only [Frm.candidateJudge, hnone, hfind, decide_eq_true herrs, judgement_third hok hmade hfn, hu, hamb, hpos, hwin, hwindow, true_and,
    Bool.not_eq_true']
  cases s.on H.FRM_AMBIG <;> rfl

theorem candidateJudge_rival_runs (hnone : s.frm.cands.find? (nextAt pos rot) = none)
    (hfind : s.frm.rivals.find? (nextAt pos rot) = some c) (herrs : errs ≤ s.get F.FRM_ALIGN_CFG_FAW_TOL) (hok : Frm.wordOk word = true)
    (hmade : c.made ≠ 1) (hfn : Frm.wordFn word = (c.fn + 1) % 256) (hwindow : (pos + 128) / Frm.frameLen = s.frm.window) :
    runs (.candidateJudge pos rot errs word) s (fun t =>
      t.get F.FRM_PATTERN_AMBIG_COUNT =
        (if s.on H.FRM_AMBIG then s.get F.FRM_PATTERN_AMBIG_COUNT else min (2 ^ 32 - 1) (s.get F.FRM_PATTERN_AMBIG_COUNT + 1)) ∧
      t.on H.FRM_AMBIG = true ∧ t.get F.FRM_ALIGN_STAT_STATE = s.get F.FRM_ALIGN_STAT_STATE) := by
  refine runs_shows (congrArg (done s) (candidateJudge_rival hnone hfind herrs hok hmade hfn hwindow rfl)) fun t h => ?_
  rw [h.get _ (by decide), h.on _ (by decide), h.get _ (by decide)]
  split
  next hamb =>
    rw [setCands_get (by decide), on_congr (setCands_get (by decide)), setCands_get (by decide)]
    exact ⟨rfl, hamb, rfl⟩
  next =>
    rw [get_set_ne (by decide), get_set_ne (by decide), get_count (by decide), get_count_ne (by decide), on_set (by decide) (by decide),
      setCands_get (by decide), setCands_get (by decide)]
    exact ⟨rfl, rfl, rfl⟩

/-! ### FAW_CHECK (R156, R157) -/

/-- The run of FAW misses of the searched subcarrier after its frame, whose frame number and rotation have been taken. -/
def fawRun (errs : Nat) (s : State) : State :=
  if s.get F.FRM_ALIGN_CFG_FAW_TOL < errs then s.put H.FRM_FAW_MISS (min 7 (s.get H.FRM_FAW_MISS + 1))
  else if s.on H.FRM_FAW_MISS then Frm.cleared 1 (s.clr H.FRM_FAW_MISS) else s

/-- The frame of the searched subcarrier is counted. -/
def fawCounted (s : State) : State :=
  let fn := (s.get H.FRM_RX_FN + 1) % 256
  let s := s.put H.FRM_RX_FN fn
  if fn = 0 ∧ s.on F.FRM_ALIGN_STAT_MFN_VALID then s.put H.FRM_RX_MFN (s.get H.FRM_RX_MFN + 1) else s

theorem fawCheck_eq (hin : Frm.inFrame s = true) (hframed : Frm.framed s k = true) :
    Frm.fawCheck k errs rotY s =
      if k ≠ Frm.searched s then s.count H.FRM_LIVE_SC errs k 3
      else fawRun errs ((fawCounted (s.count H.FRM_LIVE_SC errs k 3)).put F.FRM_ALIGN_STAT_ROT_Y rotY) := by
  have hsearched : Frm.searched (s.count H.FRM_LIVE_SC errs k 3) = Frm.searched s := by
    rw [Frm.searched, State.leaf, get_count_ne (by decide), get_count_ne (by decide), get_count_ne (by decide)]
    rfl
  rw [Frm.fawCheck, if_neg (by simp [hin, hframed])]
  dsimp only
  rw [hsearched]
  rfl

theorem fawRun_get (h : apart H.FRM_FAW_MISS g = true) : (fawRun errs s).get g i j k = s.get g i j k := by
  unfold fawRun
  split_ifs
  · exact get_put_ne h
  · exact get_clr_ne h
  · rfl

theorem fawRun_miss : (fawRun errs s).get H.FRM_FAW_MISS =
    if s.get F.FRM_ALIGN_CFG_FAW_TOL < errs then min 7 (s.get H.FRM_FAW_MISS + 1) else 0 := by
  unfold fawRun
  split_ifs with hbad hmiss
  · exact get_put_lt (by decide) (Nat.lt_of_le_of_lt (Nat.min_le_left ..) (by decide))
  · exact get_clr
  · simpa [State.on] using hmiss

theorem fawCounted_get (h : apart H.FRM_RX_FN g = true) (h' : apart H.FRM_RX_MFN g = true) : (fawCounted s).get g i j k = s.get g i j k := by
  unfold fawCounted
  dsimp only
  split_ifs
  · rw [get_put_ne h', get_put_ne h]
  · exact get_put_ne h

theorem fawCounted_fn : (fawCounted s).get H.FRM_RX_FN = (s.get H.FRM_RX_FN + 1) % 256 := by
  have hput : (s.put H.FRM_RX_FN ((s.get H.FRM_RX_FN + 1) % 256)).get H.FRM_RX_FN = (s.get H.FRM_RX_FN + 1) % 256 :=
    get_put_lt (by decide) (Nat.mod_lt _ (by decide))
  unfold fawCounted
  dsimp only
  split_ifs
  · rw [get_put_ne (by decide), hput]
  · exact hput

theorem fawCheck_searched_runs (hin : Frm.inFrame s = true) (hframed : Frm.framed s k = true) (hk : k = Frm.searched s) (hlt : k < 512) :
    runs (.fawCheck k errs rotY) s (fun t => t.get H.FRM_LIVE_SC k 3 = min (2 ^ 32 - 1) (s.get H.FRM_LIVE_SC k 3 + errs) ∧
      t.get H.FRM_RX_FN = (s.get H.FRM_RX_FN + 1) % 256 ∧ t.get F.FRM_ALIGN_STAT_ROT_Y = rotY % 4 ∧
      t.get H.FRM_FAW_MISS = (if s.get F.FRM_ALIGN_CFG_FAW_TOL < errs then min 7 (s.get H.FRM_FAW_MISS + 1) else 0)) := by
  refine runs_shows (congrArg (done s) ((fawCheck_eq hin hframed).trans (if_neg (not_not.mpr hk)))) fun t h => ?_
  rw [h.get _ (by decide), h.get _ (by decide), h.get _ (by decide), h.get _ (by decide), fawRun_get (by decide), fawRun_get (by decide),
    fawRun_get (by decide), fawRun_miss]
  refine ⟨?_, ?_, State_get_put_same _ _ _ _ _ _ (by decide), ?_⟩
  · rw [get_put_ne (by decide), fawCounted_get (by decide) (by decide), get_count (has_cell rfl hlt (by decide))]
    rfl
  · rw [get_put_ne (by decide), fawCounted_fn, get_count_ne (by decide)]
  · simp (disch := decide) only [get_put_ne, fawCounted_get, get_count_ne]

theorem fawCheck_other_runs (hin : Frm.inFrame s = true) (hframed : Frm.framed s k = true) (hk : k ≠ Frm.searched s) (hlt : k < 512) :
    runs (.fawCheck k errs rotY) s (fun t => t.get H.FRM_LIVE_SC k 3 = min (2 ^ 32 - 1) (s.get H.FRM_LIVE_SC k 3 + errs) ∧
      t.get H.FRM_RX_FN = s.get H.FRM_RX_FN ∧ t.get H.FRM_FAW_MISS = s.get H.FRM_FAW_MISS) := by
  refine runs_shows (congrArg (done s) ((fawCheck_eq hin hframed).trans (if_pos hk))) fun t h => ?_
  rw [h.get _ (by decide), h.get _ (by decide), h.get _ (by decide), get_count (has_cell rfl hlt (by decide)), get_count_ne (by decide),
    get_count_ne (by decide)]
  exact ⟨rfl, rfl, rfl⟩

/-- Settles O36, with one lemma for each command and case: what its conditions make of the operation, then the fields and the candidates that it
leaves. -/
theorem frameSearchResults : Obligations.FrameSearchResults := by
  unfold Obligations.FrameSearchResults
  exact ⟨fun s value => txEn_runs, fun s mfn fn covered => txFrame_hub_runs, fun s mfn fn covered => txFrame_leaf_runs,
    fun s value => rxEn_begins_runs, fun s value => rxEn_refused_runs, fun s value => rxEn_tree_runs, fun s value => rxEn_ends_runs,
    fun s => research_runs, fun s pos rot errs => fawHit_adds_runs, fun s pos rot errs => fawHit_overflows_runs,
    fun s pos rot errs word c => candidateJudge_removes_runs, fun s pos rot errs word c => candidateJudge_second_runs,
    fun s pos rot errs word c => candidateJudge_third_runs, fun s pos rot errs word c => candidateJudge_rival_runs,
    fun s k errs rotY => fawCheck_searched_runs, fun s k errs rotY => fawCheck_other_runs, fun s => oof_runs⟩

end Sys2Proof.Proofs

/-! SUPPORT. The overhead words of received frames where their conditions hold (O37; R143 to R147, R157, R158, R83). -/
namespace Sys2Proof.Proofs
open Sys2Proof Sys2Proof.Machine Sys2Proof.Laws

variable {s t u : State} {f g : Machine.Field} {covered : List Bool} {bad : Bool} {fn i j k l mfn n w word x y z : Nat}

/-! ### Streams and their frames -/

theorem onTree_congr (hrole : t.get F.SYS_ROLE_ROLE = s.get F.SYS_ROLE_ROLE) (htree : t.get H.VLK_TREE = s.get H.VLK_TREE) :
    Frm.onTree t = Frm.onTree s := by
  rw [Frm.onTree, State.leaf, hrole, State.on, htree, Frm.onTree, State.leaf, State.on]

/-- The streams of the FEC. -/
def fecStreams : List Machine.Field := [H.FEC_RX_ON, H.FEC_RX_POS, H.FEC_RX_WAIT, H.FEC_SL_ON, H.FEC_SL_POS, H.FEC_SL_WAIT]

theorem rxFrame_get (h : clearOf fecStreams g = true) : (Fec.rxFrame k l s).get g x y z = s.get g x y z := by
  refine Moves.get_misses ?_
  apply Fec_rxFrame_moves (h := .refl) <;> exact misses_of_clearOf h (by decide)

theorem readPhase_get (h : clearOf fecStreams g = true) : (Fec.readPhase k l i j s).get g x y z = s.get g x y z := by
  refine Moves.get_misses ?_
  apply Fec_readPhase_moves (h := .refl) <;> exact misses_of_clearOf h (by decide)

theorem stampFrame_get (h : apart H.FRM_BIP_AT g = true) : (Frm.stampFrame k l n s).get g x y z = s.get g x y z := get_put_ne h

/-- What tells whether a word's BIP is compared. -/
def stampFields : List Machine.Field := [F.SYS_ROLE_ROLE, H.VLK_TREE, H.FRM_BIP_AT, H.LRX_ACTIVE]

theorem comparable_congr (h : ∀ g ∈ stampFields, ∀ i j, t.get g i j = s.get g i j) : Frm.comparable t k l n = Frm.comparable s k l n := by
  have htree : Frm.onTree t = Frm.onTree s := onTree_congr (h F.SYS_ROLE_ROLE (by decide) ..) (h H.VLK_TREE (by decide) ..)
  unfold Frm.comparable Frm.streamLeaf
  rw [htree, h H.FRM_BIP_AT (by decide), h H.LRX_ACTIVE (by decide)]

/-- Bits in which the parity of the covered bits and the word's BIP differ. -/
def bipErrors (word : Nat) (covered : List Bool) : Nat := popBits 8 (slice word 36 8 ^^^ Frm.bip covered)

theorem bipCheck_skipped (h : Frm.comparable s k l n = false) : Frm.bipCheck k l word covered n s = s := if_pos (by simp [h])

theorem bipCheck_counted (hk : k < 512) (h : Frm.comparable s k l n = true) :
    (Frm.bipCheck k l word covered n s).get H.FRM_LIVE_SC k 2 = min (2 ^ 32 - 1) (s.get H.FRM_LIVE_SC k 2 + 1) ∧
    (Frm.bipCheck k l word covered n s).get H.FRM_LIVE_SC k 0 = min (2 ^ 32 - 1) (s.get H.FRM_LIVE_SC k 0 + bipErrors word covered) ∧
    (Frm.bipCheck k l word covered n s).get H.FRM_LIVE_SC k 1 =
      (if bipErrors word covered = 0 then s.get H.FRM_LIVE_SC k 1 else min (2 ^ 32 - 1) (s.get H.FRM_LIVE_SC k 1 + 1)) := by
  have hcount {t : State} {n x : Nat} (hx : x < 8) :
      (t.count H.FRM_LIVE_SC n k x).get H.FRM_LIVE_SC k x = min (2 ^ 32 - 1) (t.get H.FRM_LIVE_SC k x + n) := get_count (has_cell rfl hk hx)
  have hother {t : State} {n x y : Nat} (hxy : x ≠ y) : (t.count H.FRM_LIVE_SC n k x).get H.FRM_LIVE_SC k y = t.get H.FRM_LIVE_SC k y :=
    get_put_column (by decide) hxy
  rw [Frm.bipCheck, if_neg (by simp [h])]
  dsimp only
  rw [← bipErrors, hcount (by decide), hother (by decide), hother (by decide)]
  split_ifs
  · exact ⟨by rw [hother (by decide)], hcount (by decide), hother (by decide)⟩
  · exact ⟨by rw [hother (by decide), hother (by decide)], by rw [hother (by decide), hcount (by decide)],
      by rw [hcount (by decide), hother (by decide)]⟩

/-! ### A word that is decoded (R143, R147) -/

/-- The word is of a stream that is judged. -/
abbrev mine (s : State) (k l : Nat) : Prop :=
  if Frm.onTree s = true then Frm.checked s k l = true else Frm.inFrame s = true ∧ Frm.framed s k = true

/-- The machine as a valid word's frame has been counted and its BIP compared. -/
def wordTaken (k l word : Nat) (covered : List Bool) (now : Nat) (s : State) : State :=
  Frm.stampFrame k l now (Frm.bipCheck k l word covered now (Fec.rxFrame k l s))

/-- What that may write. -/
def takenFields : List Machine.Field := fecStreams ++ [H.FRM_LIVE_SC, H.FRM_BIP_AT]

theorem wordTaken_get (h : clearOf takenFields g = true) : (wordTaken k l word covered n s).get g x y z = s.get g x y z := by
  rw [takenFields, clearOf, List.all_append, Bool.and_eq_true] at h
  obtain ⟨hfec, hown⟩ := h
  rw [wordTaken, stampFrame_get (misses_of_clearOf hown (by decide)),
    (Frm_bipCheck_moves (W := Misses g) (misses_of_clearOf hown (by decide)) k l word covered n .refl).get_misses, rxFrame_get hfec]

theorem wordTaken_live : (wordTaken k l word covered n s).get H.FRM_LIVE_SC k w =
    (Frm.bipCheck k l word covered n (Fec.rxFrame k l s)).get H.FRM_LIVE_SC k w := stampFrame_get (by decide)

theorem overheadWord_bad (hmine : mine s k l) (hbad : Frm.wordOk word = false) : Frm.overheadWord k l word covered mfn fn s =
    Frm.stampFrame k l (Frm.frameNumber s mfn fn) ((Fec.rxFrame k l s).count H.FRM_LIVE_SC 1 k 4) := by
  have hjudged : (if Frm.onTree s then Frm.checked s k l else Frm.inFrame s && Frm.framed s k) = true := by
    unfold mine at hmine
    split_ifs with h <;> simpa [h] using hmine
  rw [Frm.overheadWord, if_neg (by simp [hjudged])]
  exact if_pos (by simp [hbad])

/-- A valid word: the frame and the BIP, then what the word says. -/
theorem overheadWord_good (hmine : mine s k l) (hok : Frm.wordOk word = true)
    (hu : wordTaken k l word covered (Frm.frameNumber s mfn fn) s = u) : Frm.overheadWord k l word covered mfn fn s =
      Frm.note (if Frm.onTree s then Frm.upstreamWord k l word mfn fn u else Frm.searchedWord k l word u) := by
  have hjudged : (if Frm.onTree s then Frm.checked s k l else Frm.inFrame s && Frm.framed s k) = true := by
    unfold mine at hmine
    split_ifs with h <;> simpa [h] using hmine
  have htree : Frm.onTree u = Frm.onTree s := hu ▸ onTree_congr (wordTaken_get (by decide)) (wordTaken_get (by decide))
  rw [Frm.overheadWord, if_neg (by simp [hjudged])]
  dsimp only
  rw [if_neg (by simp [hok]), ← wordTaken, hu, htree]

theorem overheadWord_bad_runs (htree : Frm.onTree s = false) (hin : Frm.inFrame s = true) (hframed : Frm.framed s k = true) (hk : k < 512)
    (hbad : Frm.wordOk word = false) :
    runs (.overheadWord k l word covered mfn fn) s (fun t => t.get H.FRM_LIVE_SC k 4 = min (2 ^ 32 - 1) (s.get H.FRM_LIVE_SC k 4 + 1) ∧
      t.get H.FRM_LIVE_SC k 2 = s.get H.FRM_LIVE_SC k 2) := by
  have hmine : mine s k l := by rw [mine, if_neg (by simp [htree])]; exact ⟨hin, hframed⟩
  refine runs_shows_mirrored (congrArg (Access.doneMirrored s) (overheadWord_bad hmine hbad)) fun t h => ?_
  rw [h.get _ (by decide), h.get _ (by decide), stampFrame_get (by decide), stampFrame_get (by decide), get_count (has_cell rfl hk (by decide)),
    State.count, get_put_column (by decide) (by decide), rxFrame_get (by decide), rxFrame_get (by decide)]
  exact ⟨rfl, rfl⟩

/-- What the word says leaves the counters of BIP alone. -/
theorem wordSaid_live (hw : w ≠ 6) :
    (Frm.note (if Frm.onTree s then Frm.upstreamWord k l word mfn fn u else Frm.searchedWord k l word u)).get H.FRM_LIVE_SC k w =
      u.get H.FRM_LIVE_SC k w := by
  rw [note_live hw]
  refine get_of_sparing (l := [H.FRM_LIVE_SC]) (moves_ite ?_ ?_) (by decide)
  · apply Frm_upstreamWord_moves (h := .refl) <;> rfl
  · apply Frm_searchedWord_moves (h := .refl) <;> rfl

theorem overheadWord_bip_runs (hmine : mine s k l) (hk : k < 512) (hok : Frm.wordOk word = true)
    (hcomp : Frm.comparable s k l (Frm.frameNumber s mfn fn) = true) :
    runs (.overheadWord k l word covered mfn fn) s (fun t => t.get H.FRM_LIVE_SC k 2 = min (2 ^ 32 - 1) (s.get H.FRM_LIVE_SC k 2 + 1) ∧
      t.get H.FRM_LIVE_SC k 0 = min (2 ^ 32 - 1) (s.get H.FRM_LIVE_SC k 0 + bipErrors word covered) ∧
      t.get H.FRM_LIVE_SC k 1 =
        (if bipErrors word covered = 0 then s.get H.FRM_LIVE_SC k 1 else min (2 ^ 32 - 1) (s.get H.FRM_LIVE_SC k 1 + 1))) := by
  have hcomp' : Frm.comparable (Fec.rxFrame k l s) k l (Frm.frameNumber s mfn fn) = true :=
    (comparable_congr fun g hg _ _ => rxFrame_get ((by decide : ∀ g ∈ stampFields, clearOf fecStreams g = true) g hg)).trans hcomp
  obtain ⟨hframes, hbits, herrored⟩ := bipCheck_counted (word := word) (covered := covered) hk hcomp'
  simp only [rxFrame_get (g := H.FRM_LIVE_SC) (by decide)] at hframes hbits herrored
  refine runs_shows_mirrored (congrArg (Access.doneMirrored s) (overheadWord_good hmine hok rfl)) fun t h => ?_
  rw [h.get _ (by decide), h.get _ (by decide), h.get _ (by decide), wordSaid_live (by decide), wordSaid_live (by decide),
    wordSaid_live (by decide), wordTaken_live, wordTaken_live, wordTaken_live]
  exact ⟨hframes, hbits, herrored⟩

theorem overheadWord_skipped_runs (hmine : mine s k l) (hok : Frm.wordOk word = true)
    (hcomp : Frm.comparable s k l (Frm.frameNumber s mfn fn) = false) :
    runs (.overheadWord k l word covered mfn fn) s (fun t => t.get H.FRM_LIVE_SC k 2 = s.get H.FRM_LIVE_SC k 2 ∧
      t.get H.FRM_LIVE_SC k 0 = s.get H.FRM_LIVE_SC k 0) := by
  have hcomp' : Frm.comparable (Fec.rxFrame k l s) k l (Frm.frameNumber s mfn fn) = false :=
    (comparable_congr fun g hg _ _ => rxFrame_get ((by decide : ∀ g ∈ stampFields, clearOf fecStreams g = true) g hg)).trans hcomp
  refine runs_shows_mirrored (congrArg (Access.doneMirrored s) (overheadWord_good hmine hok rfl)) fun t h => ?_
  rw [h.get _ (by decide), h.get _ (by decide), wordSaid_live (by decide), wordSaid_live (by decide), wordTaken_live, wordTaken_live,
    bipCheck_skipped hcomp', rxFrame_get (by decide), rxFrame_get (by decide)]
  exact ⟨rfl, rfl⟩

/-! ### A valid word of the searched subcarrier (R157, R165, R166) -/

/-- What a word of the searched subcarrier shows. -/
def wordFields : List Machine.Field := [H.FRM_BDI_SC, H.FRM_BDI_LINE, H.FRM_FN_LAST, H.FRM_RX_MFN, F.FRM_ALIGN_STAT_MFN_VALID]

/-- BDI and the counts of the searched stream. -/
def lineWord (word : Nat) (s : State) : State := Frm.countWord word (s.put H.FRM_BDI_LINE (b01 (word.testBit 47)))

/-- BDI of the subcarrier, and the phase of its FEC stream. -/
def scWord (k l word : Nat) (s : State) : State :=
  let s := s.put H.FRM_BDI_SC (b01 (word.testBit 47)) k
  if Frm.wordFn word % 4 = 1 ∧ s.get H.LRX_ACTIVE k % 8 = 1 then Fec.readPhase k l (slice word 12 22) (Frm.wordFn word) s else s

theorem scWord_get (h : clearOf (H.FRM_BDI_SC :: fecStreams) g = true) : (scWord k l word s).get g x y z = s.get g x y z := by
  rw [clearOf, List.all_cons, Bool.and_eq_true] at h
  obtain ⟨hbdi, hfec⟩ := h
  unfold scWord
  dsimp only
  split
  · rw [readPhase_get hfec, get_put_ne hbdi]
  · exact get_put_ne hbdi

theorem scWord_bdi (hk : k < 512) : (scWord k l word s).get H.FRM_BDI_SC k = b01 (word.testBit 47) := by
  have hput : (s.put H.FRM_BDI_SC (b01 (word.testBit 47)) k).get H.FRM_BDI_SC k = b01 (word.testBit 47) :=
    get_put_lt (has_row rfl hk) (by unfold b01; split <;> decide)
  unfold scWord
  dsimp only
  split
  · rw [readPhase_get (by decide), hput]
  · exact hput

theorem searched_congr (hrole : t.get F.SYS_ROLE_ROLE = s.get F.SYS_ROLE_ROLE) (hlo : t.get F.LRX_RXGRP_K_LO = s.get F.LRX_RXGRP_K_LO)
    (hsc : t.get F.FRM_ALIGN_CFG_ALIGN_SC = s.get F.FRM_ALIGN_CFG_ALIGN_SC) : Frm.searched t = Frm.searched s := by
  rw [Frm.searched, State.leaf, hrole, hlo, hsc, Frm.searched, State.leaf]

/-- After the words of the line, the trace, the SSM and the loading write nothing of these fields. -/
theorem searchedWord_get (hk : k = Frm.searched s) (hg : g ∈ wordFields) :
    (Frm.searchedWord k l word s).get g x y z = (lineWord word (scWord k l word s)).get g x y z := by
  have hk' : k = Frm.searched (scWord k l word s) :=
    hk.trans (searched_congr (scWord_get (by decide)) (scWord_get (by decide)) (scWord_get (by decide))).symm
  have hline : Moves (Sparing wordFields) (lineWord word (scWord k l word s))
      (Frm.ssmWord word (Frm.traceByte word (lineWord word (scWord k l word s)))) :=
    Frm_ssmWord_moves (W := Sparing wordFields) rfl rfl word (Frm_traceByte_moves (W := Sparing wordFields) rfl rfl rfl rfl word .refl)
  unfold Frm.searchedWord
  dsimp only
  rw [← scWord, if_pos hk', ← lineWord]
  refine get_of_sparing (moves_ite ?_ hline) hg
  apply Frm_loadWord_moves
  case h => apply Frm_loadWord_moves (h := hline) <;> rfl
  all_goals rfl

/-- The run of wrong frame numbers of the searched stream, judged in-multiframe. -/
def fnJudged (word : Nat) (s : State) : State :=
  if s.on F.FRM_ALIGN_STAT_IN_MF then
    if Frm.wordFn word = s.get H.FRM_RX_FN then s.clr H.FRM_FN_MISS else s.put H.FRM_FN_MISS (min 7 (s.get H.FRM_FN_MISS + 1))
  else s

/-- The frame number is the last one read, and the run of those in order. -/
def fnTaken (word : Nat) (s : State) : State :=
  (s.put H.FRM_FN_RUN (if Frm.wordFn word = (s.get H.FRM_FN_LAST + 1) % 256 ∧ s.get H.FRM_FN_RUN ≠ 0 then min 3 (s.get H.FRM_FN_RUN + 1) else 1)).put
    H.FRM_FN_LAST (Frm.wordFn word)

theorem countWord_eq (hu : fnTaken word (fnJudged word s) = u) : Frm.countWord word s =
    if Frm.wordFn word % 4 = 0 ∧ !u.on F.FRM_ALIGN_STAT_MFN_VALID then
      (u.put H.FRM_RX_MFN (slice word 12 24)).set F.FRM_ALIGN_STAT_MFN_VALID
    else u := by
  subst hu
  rfl

theorem fnTaken_last : (fnTaken word s).get H.FRM_FN_LAST = Frm.wordFn word := get_put_lt (by decide) (Nat.mod_lt _ (by decide))

theorem fnTaken_valid : (fnTaken word (fnJudged word s)).on F.FRM_ALIGN_STAT_MFN_VALID = s.on F.FRM_ALIGN_STAT_MFN_VALID := by
  rw [fnTaken, on_put_ne (by decide), on_put_ne (by decide), fnJudged]
  split_ifs
  · exact on_clr_ne (by decide)
  · exact on_put_ne (by decide)
  · rfl

theorem countWord_fn : (Frm.countWord word s).get H.FRM_FN_LAST = Frm.wordFn word := by
  rw [countWord_eq rfl]
  split
  · rw [get_set_ne (by decide), get_put_ne (by decide), fnTaken_last]
  · exact fnTaken_last

/-- The first MFN that is read is taken. -/
theorem countWord_mfn (hfn : Frm.wordFn word % 4 = 0) (hnone : s.on F.FRM_ALIGN_STAT_MFN_VALID = false) :
    (Frm.countWord word s).get H.FRM_RX_MFN = slice word 12 24 ∧ (Frm.countWord word s).on F.FRM_ALIGN_STAT_MFN_VALID = true := by
  rw [countWord_eq rfl, if_pos ⟨hfn, by rw [fnTaken_valid, hnone]; rfl⟩]
  exact ⟨(get_set_ne (by decide)).trans (get_put_lt (by decide) (Nat.mod_lt _ (by decide))), on_set (by decide) (by decide)⟩

theorem countWord_get (h : clearOf [F.FRM_ALIGN_STAT_MFN_VALID, H.FRM_FN_LAST, H.FRM_FN_MISS, H.FRM_FN_RUN, H.FRM_RX_MFN] g = true) :
    (Frm.countWord word s).get g x y z = s.get g x y z := by
  refine Moves.get_misses ?_
  apply Frm_countWord_moves (h := .refl) <;> exact misses_of_clearOf h (by decide)

theorem overheadWord_searched_runs (htree : Frm.onTree s = false) (hin : Frm.inFrame s = true) (hframed : Frm.framed s k = true)
    (hsearched : k = Frm.searched s) (hk : k < 512) (hok : Frm.wordOk word = true) :
    runs (.overheadWord k l word covered mfn fn) s (fun t => t.get H.FRM_BDI_SC k = b01 (word.testBit 47) ∧
      t.get H.FRM_BDI_LINE = b01 (word.testBit 47) ∧ t.get H.FRM_FN_LAST = Frm.wordFn word ∧
      (Frm.wordFn word % 4 = 0 ∧ s.on F.FRM_ALIGN_STAT_MFN_VALID = false →
        t.get H.FRM_RX_MFN = slice word 12 24 ∧ t.on F.FRM_ALIGN_STAT_MFN_VALID = true)) := by
  have hmine : mine s k l := by rw [mine, if_neg (by simp [htree])]; exact ⟨hin, hframed⟩
  obtain ⟨u, hu⟩ : ∃ u, wordTaken k l word covered (Frm.frameNumber s mfn fn) s = u := ⟨_, rfl⟩
  have hsearchedWord : k = Frm.searched u :=
    hsearched.trans (hu ▸ searched_congr (wordTaken_get (by decide)) (wordTaken_get (by decide)) (wordTaken_get (by decide))).symm
  have hvalid : (scWord k l word u).on F.FRM_ALIGN_STAT_MFN_VALID = s.on F.FRM_ALIGN_STAT_MFN_VALID :=
    (on_congr (scWord_get (by decide))).trans (hu ▸ on_congr (wordTaken_get (by decide)))
  refine runs_shows_mirrored (congrArg (Access.doneMirrored s)
    ((overheadWord_good hmine hok hu).trans (congrArg Frm.note (if_neg (by simp [htree]))))) fun t h => ?_
  have hshows {g : Machine.Field} {x : Nat} (hg : g ∈ wordFields) : t.get g x = (lineWord word (scWord k l word u)).get g x := by
    obtain ⟨hfree, hnoted⟩ := (by decide : ∀ g ∈ wordFields, uncounted g = true ∧ clearOf noteFields g = true) g hg
    rw [h.get g hfree, note_get hnoted, searchedWord_get hsearchedWord hg]
  refine ⟨?_, ?_, (hshows (by decide)).trans countWord_fn, fun ⟨hfn, hnone⟩ => ?_⟩
  · rw [hshows (by decide), lineWord, countWord_get (by decide), get_put_ne (by decide), scWord_bdi hk]
  · rw [hshows (by decide), lineWord, countWord_get (by decide)]
    exact get_put_lt (by decide) (by unfold b01; split <;> decide)
  · obtain ⟨hmfn, hset⟩ := countWord_mfn (word := word) (s := (scWord k l word u).put H.FRM_BDI_LINE (b01 (word.testBit 47))) hfn
      (by rw [on_put_ne (by decide), hvalid, hnone])
    exact ⟨(hshows (by decide)).trans hmfn, (on_congr (hshows (by decide))).trans hset⟩

/-! ### A valid word of a leaf's stream on a tree (R157, R158, R83) -/

theorem missRun_get (h : apart f g = true) : (Frm.missRun f bad k l s).get g x y z = s.get g x y z := by
  unfold Frm.missRun
  split
  · exact get_put_ne h
  · exact get_clr_ne h

theorem missRun_run (hf : f.shape.has k l 0 = true) (hw : 8 ≤ 2 ^ f.width) :
    (Frm.missRun f bad k l s).get f k l = if bad then min 7 (s.get f k l + 1) else 0 := by
  unfold Frm.missRun
  split
  · exact get_put_lt hf (by omega)
  · exact get_clr

/-- The runs of wrong multiframe numbers and of right words, the phase of the FEC stream and the judgement of the leaf that sends. -/
def upCounted (k l idx word mfn fn : Nat) (s : State) : State :=
  let badMfn := idx % 4 == 0 && slice word 12 24 != mfn
  let s := if idx % 4 = 0 then Frm.missRun H.FRM_UP_MFN_MISS badMfn k l s else s
  let s := if Frm.wordFn word = fn ∧ !badMfn then s.put H.FRM_UP_FN_RUN (min 3 (s.get H.FRM_UP_FN_RUN k l + 1)) k l
    else s.clr H.FRM_UP_FN_RUN k l
  let s := if idx % 4 = 1 then Fec.readPhase k l (slice word 12 22) idx s else s
  if idx % 4 = 3 then s.put H.FRM_LEAF_BAD (b01 (slice word 12 24 % 512 != Frm.expectedLeaf s k fn)) k else s

theorem upstreamWord_eq (hfirst : s.put H.FRM_BDI_SC (b01 (word.testBit 47)) k = t)
    (hu : upCounted k l (Frm.frameIndex t k l fn) word mfn fn (Frm.missRun H.FRM_UP_FN_MISS (Frm.wordFn word != fn) k l t) = u) :
    Frm.upstreamWord k l word mfn fn s =
      if Frm.wordVer word 1 = Scm.activeVer u 1 then u else (u.put F.SCM_CHG_STAT_MIS_LEAF l).set F.SCM_INT_CAUSE_VER_MISMATCH := by
  subst hfirst hu
  rfl

theorem upCounted_get (h : clearOf (fecStreams ++ [H.FRM_UP_MFN_MISS, H.FRM_UP_FN_RUN, H.FRM_LEAF_BAD]) g = true) :
    (upCounted k l j word mfn fn s).get g x y z = s.get g x y z := by
  have hm {f : Machine.Field} (hf : f ∈ fecStreams ++ [H.FRM_UP_MFN_MISS, H.FRM_UP_FN_RUN, H.FRM_LEAF_BAD]) : Misses g (.fld f) :=
    misses_of_clearOf h hf
  refine Moves.get_misses (s₀ := s) ?_
  unfold upCounted
  extract_lets _ s₁ s₂ s₃
  have h₁ : Moves (Misses g) s s₁ := moves_ite (Frm_missRun_moves _ _ _ _ (hm (by decide)) .refl) .refl
  have h₂ : Moves (Misses g) s s₂ := moves_ite (h₁.put _ _ _ _ _ (hm (by decide))) (h₁.clr _ _ _ (hm (by decide)))
  have h₃ : Moves (Misses g) s s₃ := moves_ite (by apply Fec_readPhase_moves (h := h₂) <;> exact hm (by decide)) h₂
  exact moves_ite (h₃.put _ _ _ _ _ (hm (by decide))) h₃

theorem overheadWord_tree_runs (htree : Frm.onTree s = true) (hchecked : Frm.checked s k l = true) (hk : k < 512) (hl : l < 512)
    (hok : Frm.wordOk word = true) :
    runs (.overheadWord k l word covered mfn fn) s (fun t =>
      t.get H.FRM_UP_FN_MISS k l = (if Frm.wordFn word = fn then 0 else min 7 (s.get H.FRM_UP_FN_MISS k l + 1)) ∧
      (Frm.wordVer word 1 ≠ Scm.activeVer s 1 → t.get F.SCM_CHG_STAT_MIS_LEAF = l ∧ t.on F.SCM_INT_CAUSE_VER_MISMATCH = true)) := by
  have hmine : mine s k l := by rw [mine, if_pos htree]; exact hchecked
  obtain ⟨u, hu⟩ : ∃ u, wordTaken k l word covered (Frm.frameNumber s mfn fn) s = u := ⟨_, rfl⟩
  obtain ⟨w, hw⟩ : ∃ w, u.put H.FRM_BDI_SC (b01 (word.testBit 47)) k = w := ⟨_, rfl⟩
  obtain ⟨v, hv⟩ : ∃ v, upCounted k l (Frm.frameIndex w k l fn) word mfn fn
    (Frm.missRun H.FRM_UP_FN_MISS (Frm.wordFn word != fn) k l w) = v := ⟨_, rfl⟩
  have hmiss : v.get H.FRM_UP_FN_MISS k l = if Frm.wordFn word = fn then 0 else min 7 (s.get H.FRM_UP_FN_MISS k l + 1) := by
    rw [← hv, upCounted_get (by decide), missRun_run (has_cell rfl hk hl) (by decide), ← hw, get_put_ne (by decide), ← hu,
      wordTaken_get (by decide)]
    simp only [bne_iff_ne, ne_eq, ite_not]
  have hver : Scm.activeVer v 1 = Scm.activeVer s 1 := by
    refine activeVer_congr fun g hg => ?_
    obtain ⟨hcounted, hfn, hbdi, htaken⟩ := (by decide : ∀ g ∈ verFields,
      clearOf (fecStreams ++ [H.FRM_UP_MFN_MISS, H.FRM_UP_FN_RUN, H.FRM_LEAF_BAD]) g = true ∧ apart H.FRM_UP_FN_MISS g = true ∧
        apart H.FRM_BDI_SC g = true ∧ clearOf takenFields g = true) g hg
    rw [← hv, upCounted_get hcounted, missRun_get hfn, ← hw, get_put_ne hbdi, ← hu, wordTaken_get htaken]
  refine runs_shows_mirrored (congrArg (Access.doneMirrored s) ((overheadWord_good hmine hok hu).trans
    (congrArg Frm.note ((if_pos htree).trans (upstreamWord_eq hw hv))))) fun t h => ?_
  rw [h.get _ (by decide), h.get _ (by decide), h.on _ (by decide), note_get (by decide), note_get (by decide), note_on (by decide)]
  split
  next hsame => exact ⟨hmiss, fun hne => absurd (hsame.trans hver) hne⟩
  next =>
    rw [get_set_ne (by decide), get_put_ne (by decide), get_set_ne (by decide), get_put_lt (by decide) hl, on_set (by decide) (by decide)]
    exact ⟨hmiss, fun _ => ⟨rfl, rfl⟩⟩

end Sys2Proof.Proofs

/-! SUPPORT. The multiframes, the upstream streams, the trail trace and the SSM where their conditions hold (R157, R158, R165, R166), and O37. -/
namespace Sys2Proof.Proofs
open Sys2Proof Sys2Proof.Machine Sys2Proof.Laws

variable {s t u : State} {f g : Machine.Field} {errs i id j k l n x y z : Nat}

/-! ### Out-of-multiframe and in-multiframe (R157, R158) -/

theorem oom_line_runs (htree : Frm.onTree s = false) (hin : s.on F.FRM_ALIGN_STAT_IN_MF = true) (hmiss : 5 ≤ s.get H.FRM_FN_MISS) :
    runs (.oom k l) s (fun t => t.on F.FRM_ALIGN_STAT_IN_MF = false ∧ t.on F.FRM_INT_CAUSE_OOM = true) := by
  have hoom : Frm.oom k l s = Frm.note (((s.clr F.FRM_ALIGN_STAT_IN_MF).clr H.FRM_FN_RUN).set F.FRM_INT_CAUSE_OOM) := by
    rw [Frm.oom, if_neg (by simp [htree]), if_pos (by simp [hin, hmiss])]
  refine runs_shows (congrArg (done s) hoom) fun t h => ?_
  rw [h.on _ (by decide), h.on _ (by decide), note_on (by decide), note_on (by decide), on_set_ne (by decide), on_clr_ne (by decide), on_clr,
    on_set (by decide) (by decide)]
  exact ⟨rfl, rfl⟩

theorem oom_tree_runs (htree : Frm.onTree s = true) (hk : k < 512) (hl : l < 512) (hin : s.on H.FRM_UP_OOM k l = false)
    (hmiss : 5 ≤ s.get H.FRM_UP_FN_MISS k l ∨ 5 ≤ s.get H.FRM_UP_MFN_MISS k l) :
    runs (.oom k l) s (fun t => t.on H.FRM_UP_OOM k l = true ∧ t.on F.FRM_INT_CAUSE_OOM = true) := by
  have hoom : Frm.oom k l s = Frm.note (((s.set H.FRM_UP_OOM k l).clr H.FRM_UP_FN_RUN k l).set F.FRM_INT_CAUSE_OOM) := by
    rw [Frm.oom, if_pos htree, if_pos (by simpa [hin] using hmiss)]
  refine runs_shows (congrArg (done s) hoom) fun t h => ?_
  rw [h.on _ (by decide), h.on _ (by decide), note_on (by decide), note_on (by decide), on_set_ne (by decide), on_clr_ne (by decide),
    on_set (has_cell rfl hk hl) (by decide), on_set (by decide) (by decide)]
  exact ⟨rfl, rfl⟩

theorem mfRestore_line_runs (htree : Frm.onTree s = false) (hin : Frm.inFrame s = true) (hout : s.on F.FRM_ALIGN_STAT_IN_MF = false)
    (hrun : s.get H.FRM_FN_RUN = 3) :
    runs (.mfRestore k l) s (fun t => t.on F.FRM_ALIGN_STAT_IN_MF = true ∧ t.get H.FRM_RX_FN = s.get H.FRM_FN_LAST) := by
  have hrestore : Frm.mfRestore k l s = ((s.set F.FRM_ALIGN_STAT_IN_MF).put H.FRM_RX_FN (s.get H.FRM_FN_LAST)).clr H.FRM_FN_MISS := by
    rw [Frm.mfRestore, if_neg (by simp [htree]), if_pos (by simp [hin, hout, hrun])]
  refine runs_shows (congrArg (done s) hrestore) fun t h => ?_
  rw [h.on _ (by decide), h.get _ (by decide), on_clr_ne (by decide), get_clr_ne (by decide), on_put_ne (by decide),
    on_set (by decide) (by decide), get_put_get (by decide) (by decide)]
  exact ⟨rfl, rfl⟩

theorem mfRestore_tree_runs (htree : Frm.onTree s = true) (hout : s.on H.FRM_UP_OOM k l = true) (hrun : s.get H.FRM_UP_FN_RUN k l = 3) :
    runs (.mfRestore k l) s (fun t => t.on H.FRM_UP_OOM k l = false) := by
  have hrestore : Frm.mfRestore k l s = ((s.clr H.FRM_UP_OOM k l).clr H.FRM_UP_FN_MISS k l).clr H.FRM_UP_MFN_MISS k l := by
    rw [Frm.mfRestore, if_pos htree, if_pos (by simp [hout, hrun])]
  refine runs_shows (congrArg (done s) hrestore) fun t h => ?_
  rw [h.on _ (by decide), on_clr_ne (by decide), on_clr_ne (by decide), on_clr]

/-! ### The streams of a tree's leaves (R158) -/

/-- The frames held on probation, and the count of a stream's FAW errors, before the judgement. -/
theorem cleared_get : (Frm.cleared id s).get g x y z = s.get g x y z :=
  (Frm_cleared_moves (W := Misses g) trivial id .refl).get_misses

/-- The run of hits and of misses of a stream after a FAW with `errs` wrong bits. -/
theorem upstreamFawCheck_get (hchecked : Frm.checked s k l = true) (hk : k < 512) (hl : l < 512) :
    (Frm.upstreamFawCheck k l errs s).get H.FRM_UP_HIT k l =
      (if errs ≤ s.get F.FRM_ALIGN_CFG_FAW_TOL then min 3 (s.get H.FRM_UP_HIT k l + 1) else 0) ∧
    (Frm.upstreamFawCheck k l errs s).get H.FRM_UP_MISS k l =
      (if errs ≤ s.get F.FRM_ALIGN_CFG_FAW_TOL then 0 else min 7 (s.get H.FRM_UP_MISS k l + 1)) := by
  have hput {f : Machine.Field} {s : State} {n m : Nat} (hf : f.shape.has k l 0 = true) (hn : n < 2 ^ f.width) :
      (s.put f (min n m) k l).get f k l = min n m := get_put_lt hf (by omega)
  unfold Frm.upstreamFawCheck
  rw [if_neg (by simp [hchecked])]
  extract_lets u v
  have hu (g : Machine.Field) (hg : apart H.FRM_LIVE_SC g = true) (x y : Nat) : u.get g x y = s.get g x y := by
    simp only [u]
    split
    · rfl
    · exact get_count_ne hg
  have hv (g : Machine.Field) (x y : Nat) : v.get g x y = u.get g x y := by
    simp only [v]
    split
    · exact cleared_get
    · rfl
  rw [hu _ (by decide)]
  split
  · rw [get_clr_ne (by decide), hput (has_cell rfl hk hl) (by decide), get_clr, hv, hu _ (by decide)]
    exact ⟨rfl, rfl⟩
  · rw [get_clr, get_clr_ne (by decide), hput (has_cell rfl hk hl) (by decide), hu _ (by decide)]
    exact ⟨rfl, rfl⟩

theorem upstreamFawCheck_runs (hchecked : Frm.checked s k l = true) (hk : k < 512) (hl : l < 512) :
    runs (.upstreamFawCheck k l errs) s (fun t =>
      t.get H.FRM_UP_HIT k l = (if errs ≤ s.get F.FRM_ALIGN_CFG_FAW_TOL then min 3 (s.get H.FRM_UP_HIT k l + 1) else 0) ∧
      t.get H.FRM_UP_MISS k l = (if errs ≤ s.get F.FRM_ALIGN_CFG_FAW_TOL then 0 else min 7 (s.get H.FRM_UP_MISS k l + 1))) := by
  refine runs_shows rfl fun t h => ?_
  rw [h.get _ (by decide), h.get _ (by decide)]
  exact upstreamFawCheck_get hchecked hk hl

theorem upstreamOof_runs (hchecked : Frm.checked s k l = true) (hk : k < 512) (hl : l < 512) (hin : s.on H.FRM_UP_OOF k l = false)
    (hmiss : 5 ≤ s.get H.FRM_UP_MISS k l) :
    runs (.upstreamOof k l) s (fun t => t.on H.FRM_UP_OOF k l = true ∧ t.on F.FRM_INT_CAUSE_OOF = true) := by
  have hoof : Frm.upstreamOof k l s =
      Frm.note (Frm.invalidate (Frm.streamId s k l) ((s.set H.FRM_UP_OOF k l).set F.FRM_INT_CAUSE_OOF)) :=
    if_pos (by simp [hchecked, hin, hmiss])
  refine runs_shows (congrArg (done s) hoof) fun t h => ?_
  rw [h.on _ (by decide), h.on _ (by decide), note_on (by decide), note_on (by decide), on_congr (invalidate_get (by decide)),
    on_congr (f := F.FRM_INT_CAUSE_OOF) (invalidate_get (by decide)), on_set_ne (by decide), on_set (has_cell rfl hk hl) (by decide),
    on_set (by decide) (by decide)]
  exact ⟨rfl, rfl⟩

theorem upstreamInFrame_runs (hchecked : Frm.checked s k l = true) (hout : s.on H.FRM_UP_OOF k l = true) (hhit : s.get H.FRM_UP_HIT k l = 3) :
    runs (.upstreamInFrame k l) s (fun t => t.on H.FRM_UP_OOF k l = false ∧ t.on F.FRM_INT_CAUSE_IN_FRAME = true ∧
      t.on H.FRM_UP_OOM k l = false) := by
  have hframe : Frm.upstreamInFrame k l s =
      ((((s.clr H.FRM_UP_OOM k l).clr H.FRM_UP_FN_MISS k l).clr H.FRM_UP_MFN_MISS k l).clr H.FRM_UP_OOF k l).set F.FRM_INT_CAUSE_IN_FRAME :=
    if_pos (by simp [hchecked, hout, hhit])
  refine runs_shows (congrArg (done s) hframe) fun t h => ?_
  rw [h.on _ (by decide), h.on _ (by decide), h.on _ (by decide), on_set_ne (by decide), on_clr, on_set (by decide) (by decide),
    on_set_ne (by decide), on_clr_ne (by decide), on_clr_ne (by decide), on_clr_ne (by decide), on_clr]
  exact ⟨rfl, rfl, rfl⟩

/-! ### The trail trace and the SSM (R165, R166) -/

/-- Word j of the last 64 bytes of the trace. -/
def traceWord (s : State) (j : Nat) : Nat := (List.range 4).foldl (fun a i => a + s.get H.FRM_TTI_LAST (4 * j + i) * 256 ^ i) 0

theorem foldl_range_four (f p : Nat → Nat) :
    (List.range 4).foldl (fun a i => a + f i * p i) 0 = f 0 * p 0 + f 1 * p 1 + f 2 * p 2 + f 3 * p 3 := by
  simp [List.range_succ]

theorem traceWord_eq : traceWord s j = s.get H.FRM_TTI_LAST (4 * j) + 256 * s.get H.FRM_TTI_LAST (4 * j + 1) +
    65536 * s.get H.FRM_TTI_LAST (4 * j + 2) + 16777216 * s.get H.FRM_TTI_LAST (4 * j + 3) := by
  rw [traceWord, foldl_range_four (fun i => s.get H.FRM_TTI_LAST (4 * j + i)) fun i => 256 ^ i]
  simp only [Nat.add_zero]
  ring

theorem traceWord_lt : traceWord s j < 2 ^ 32 := by
  have hbyte (i : Nat) : s.get H.FRM_TTI_LAST i < 256 := State_get_lt ..
  have h0 := hbyte (4 * j)
  have h1 := hbyte (4 * j + 1)
  have h2 := hbyte (4 * j + 2)
  have h3 := hbyte (4 * j + 3)
  rw [traceWord_eq]
  omega

theorem ttiAccept_runs (hrun : s.get H.FRM_TTI_RUN = 3) (hj : j < 16) :
    runs .ttiAccept s (fun t => t.on H.FRM_TTI_ACC = true ∧ t.get F.FRM_TTI_RX_DATA j = s.get H.FRM_TTI_LAST (4 * j) +
      256 * s.get H.FRM_TTI_LAST (4 * j + 1) + 65536 * s.get H.FRM_TTI_LAST (4 * j + 2) + 16777216 * s.get H.FRM_TTI_LAST (4 * j + 3)) := by
  have haccept : Frm.ttiAccept s = Frm.note ((s.each 16 fun i t => t.put F.FRM_TTI_RX_DATA (traceWord t i) i).set H.FRM_TTI_ACC) := if_pos hrun
  have hword {t : State} (i : Nat) (n : Nat) (h : traceWord t j = traceWord s j) : traceWord (t.put F.FRM_TTI_RX_DATA n i) j = traceWord s j := by
    rw [← h]
    unfold traceWord
    simp only [get_put_ne (f := F.FRM_TTI_RX_DATA) (g := H.FRM_TTI_LAST) (by decide)]
  have hdata : (s.each 16 fun i t => t.put F.FRM_TTI_RX_DATA (traceWord t i) i).get F.FRM_TTI_RX_DATA j = traceWord s j :=
    each_reaches (p := fun t => traceWord t j = traceWord s j) (q := fun t => t.get F.FRM_TTI_RX_DATA j = traceWord s j) hj rfl
      (fun i t _ h => hword i _ h) (fun t h => (get_put_lt (has_row rfl hj) traceWord_lt).trans h)
      (fun i t hi h => (get_put_row (by decide) hi).trans h)
  refine runs_shows (congrArg (done s) haccept) fun t h => ?_
  rw [h.on _ (by decide), h.get _ (by decide), note_on (by decide), note_get (by decide), on_set (by decide) (by decide),
    get_set_ne (by decide), hdata, traceWord_eq]
  exact ⟨rfl, rfl⟩

theorem ssmAccept_runs (hin : Frm.inFrame s = true) (hrun : s.get H.FRM_SSM_RUN = 3) (hnew : s.get H.FRM_SSM_LAST ≠ s.get F.FRM_SSM_RX_SSM) :
    runs .ssmAccept s (fun t => t.get F.FRM_SSM_RX_SSM = s.get H.FRM_SSM_LAST ∧ t.on F.FRM_INT_CAUSE_SSM_CHG = true) := by
  have haccept : Frm.ssmAccept s = (s.put F.FRM_SSM_RX_SSM (s.get H.FRM_SSM_LAST)).set F.FRM_INT_CAUSE_SSM_CHG :=
    if_pos (by simp [hin, hrun, hnew])
  refine runs_shows (congrArg (done s) haccept) fun t h => ?_
  rw [h.get _ (by decide), h.on _ (by decide), get_set_ne (by decide), get_put_get (by decide) (by decide), on_set (by decide) (by decide)]
  exact ⟨rfl, rfl⟩

/-- Settles O37, with one lemma for each command and case. Which frame a word's BIP covers and how the runs of wrong MFN are kept are the
model's choices (logs 90 and 55). -/
theorem overheadResults : Obligations.OverheadResults := by
  unfold Obligations.OverheadResults
  exact ⟨fun s k l word covered mfn fn => overheadWord_bad_runs, fun s k l word covered mfn fn => overheadWord_bip_runs,
    fun s k l word covered mfn fn hmine _ => overheadWord_skipped_runs hmine, fun s k l word covered mfn fn => overheadWord_searched_runs,
    fun s k l word covered mfn fn => overheadWord_tree_runs, fun s k l => oom_line_runs, fun s k l => oom_tree_runs,
    fun s k l => mfRestore_line_runs, fun s k l htree _ _ => mfRestore_tree_runs htree, fun s k l errs => upstreamFawCheck_runs,
    fun s k l => upstreamOof_runs, fun s k l hchecked _ _ => upstreamInFrame_runs hchecked, fun s j => ttiAccept_runs, fun s => ssmAccept_runs⟩

end Sys2Proof.Proofs

/-! SUPPORT. The commands of the flow table where their conditions hold (O40; R195 to R197). -/
namespace Sys2Proof.Proofs
open Sys2Proof Sys2Proof.Machine Sys2Proof.Laws

variable {s t u : State} {g : Machine.Field} {e : Flw.Entry} {f i j k now op v w x y z : Nat}

/-! ### The enabled flows -/

theorem filterMap_insert {α β : Type} {p : Nat × α → Option β} {k : Nat} {v : α} (h : ∀ x, p (k, x) = none) :
    ∀ m : Store α, (Store.insert k v m).filterMap p = m.filterMap p
  | [] => by simp [Store.insert, h]
  | (k', v') :: rest => by
    unfold Store.insert
    split_ifs with hlt heq
    · simp [h]
    · subst heq
      simp [h]
    · simp only [List.filterMap_cons, filterMap_insert h rest]

theorem filterMap_erase {α β : Type} {p : Nat × α → Option β} {k : Nat} (h : ∀ x, p (k, x) = none) :
    ∀ m : Store α, (Store.erase k m).filterMap p = m.filterMap p
  | [] => rfl
  | (k', v') :: rest => by
    unfold Store.erase
    split_ifs with heq
    · subst heq
      simp [h, filterMap_erase h rest]
    · simp only [List.filterMap_cons, filterMap_erase h rest]

/-- What the list of enabled flows reads of one listed key. -/
def enabledFlow (x : Nat × Nat) : Option Nat :=
  let off := x.1 - F.FLW_FT_DATA.key 0 0 0
  if decide (F.FLW_FT_DATA.key 0 0 0 ≤ x.1) && off % 256 == 0 && decide (off / 256 < 3072) && x.2 % 2 == 1 then some (off / 256) else none

theorem enabled_eq : Flw.enabled s = s.csr.filterMap enabledFlow := rfl

/-- Only word 0 of an entry enables a flow. -/
theorem enabledFlow_some (h : enabledFlow (x, v) = some f) : x = F.FLW_FT_DATA.key f 0 0 ∧ f < 3072 := by
  have hkey : F.FLW_FT_DATA.key f 0 0 = F.FLW_FT_DATA.key 0 0 0 + 256 * f := by
    simp only [Field.key, Shape.at, F.FLW_FT_DATA, fld, S.FLW_FT, shape2]
    omega
  unfold enabledFlow at h
  simp only [Option.ite_none_right_eq_some, Bool.and_eq_true, decide_eq_true_eq, beq_iff_eq, Option.some.injEq] at h
  obtain ⟨⟨⟨⟨hle, hmod⟩, hlt⟩, -⟩, rfl⟩ := h
  omega

theorem enabled_lt (h : f ∈ Flw.enabled s) : f < 3072 := by
  rw [enabled_eq, List.mem_filterMap] at h
  obtain ⟨x, -, hx⟩ := h
  exact (enabledFlow_some hx).2

theorem enabledFlow_apart (h : apart F.FLW_FT_DATA g = true) (hg : g.shape.has i j k = true) : enabledFlow (g.key i j k, v) = none := by
  rw [Option.eq_none_iff_forall_ne_some]
  intro f hf
  obtain ⟨hkey, hlt⟩ := enabledFlow_some hf
  exact key_ne h (has_cell rfl hlt (by decide)) hg hkey.symm

/-- A field apart from the flow table is written: the same flows are enabled. -/
theorem enabled_put (h : apart F.FLW_FT_DATA g = true) : Flw.enabled (s.put g v i j k) = Flw.enabled s := by
  rw [enabled_eq, enabled_eq, State.put]
  split
  next hg =>
    unfold Store.put
    split
    · exact filterMap_erase (fun _ => enabledFlow_apart h hg) _
    · exact filterMap_insert (fun _ => enabledFlow_apart h hg) _
  next => rfl

/-! ### The commands (R195) -/

/-- The dword that FLW.CMD takes for flow f and operation op. -/
theorem cmdWord_parts (hv : v = f % 4096 + op * 2 ^ 12 + 2 ^ 31) (hop : op < 4) :
    slice v 0 12 = f % 4096 ∧ slice v 12 2 = op ∧ v.testBit 31 = true := by
  subst hv
  simp only [slice, Nat.shiftRight_eq_div_pow, Nat.testBit_eq_decide_div_mod_eq, decide_eq_true_eq]
  omega

theorem writeFlow_passive (hp : s.passive = true) : Bus.writeFlow v s = s.clr F.FLW_CMD_STAT_ERR_CODE := if_pos hp

theorem writeFlow_busy (hp : s.passive = false) (hb : Flw.busy s = true) : Bus.writeFlow v s = s.put F.FLW_CMD_STAT_ERR_CODE 10 := by
  rw [Bus.writeFlow, if_neg (by simp [hp]), Flw.writeCmd, Flw.unlessBusy, if_pos hb]

/-- The machine with the command's flow and operation in FLW.CMD. -/
def named (f op : Nat) (s : State) : State := (s.put F.FLW_CMD_FLOW (f % 4096)).put F.FLW_CMD_OP op

theorem named_get (h : clearOf [F.FLW_CMD_FLOW, F.FLW_CMD_OP] g = true) : (named f op s).get g x y z = s.get g x y z := by
  have hm {f : Machine.Field} (hf : f ∈ [F.FLW_CMD_FLOW, F.FLW_CMD_OP]) : apart f g = true := List.all_eq_true.mp h f hf
  rw [named, get_put_ne (hm (by decide)), get_put_ne (hm (by decide))]

theorem named_enabled : Flw.enabled (named f op s) = Flw.enabled s := by rw [named, enabled_put (by decide), enabled_put (by decide)]

theorem named_busy : Flw.busy (named f op s) = Flw.busy s := on_congr (named_get (by decide))

theorem writeFlow_free (hp : s.passive = false) (hb : Flw.busy s = false) (hv : v = f % 4096 + op * 2 ^ 12 + 2 ^ 31) (hop : op < 4) :
    Bus.writeFlow v s = Flw.command (f % 4096) op (named f op s) := by
  obtain ⟨hflow, hopc, hgo⟩ := cmdWord_parts hv hop
  rw [Bus.writeFlow, if_neg (by simp [hp]), Flw.writeCmd, Flw.unlessBusy, if_neg (by simp [hb])]
  dsimp only
  rw [hflow, hopc, if_pos hgo, ← named]

theorem command_read (hb : Flw.busy s = false) (hf : f ≤ 3071) :
    Flw.command f 0 s = Flw.complete (s.each 5 fun j t => t.put F.FLW_STAGE_DATA (t.get F.FLW_FT_DATA f j) j) := by
  rw [Flw.command, Flw.unlessBusy, if_neg (by simp [hb])]
  exact if_neg (by omega)

theorem command_write (hb : Flw.busy s = false) (hf : f ≤ 3071) : Flw.command f 1 s =
    if Flw.check s f (Flw.staged s) = 0 then Flw.accept f 1 s
    else if Flw.check s f (Flw.staged s) = 1 then (Flw.refuse 1 s).set F.SYS_INT_CAUSE_ROLE_LIMIT
    else Flw.refuse (Flw.check s f (Flw.staged s)) s := by
  rw [Flw.command, Flw.unlessBusy, if_neg (by simp [hb])]
  exact if_neg (by omega)

theorem command_remove (hb : Flw.busy s = false) (hf : f ≤ 3071) : Flw.command f 2 s = Flw.accept f 2 s := by
  rw [Flw.command, Flw.unlessBusy, if_neg (by simp [hb])]
  exact if_neg (by omega)

/-- A command that meets one under way. -/
theorem writeFlow_busy_shows (hp : s.passive = false) (hb : Flw.busy s = true) (h : Shows (Bus.writeFlow v s) t) :
    t.get F.FLW_CMD_STAT_ERR_CODE = 10 ∧ t.get H.FLW_OP = s.get H.FLW_OP ∧ t.get H.FLW_OP_FLOW = s.get H.FLW_OP_FLOW ∧
      Flw.busy t = true := by
  rw [writeFlow_busy hp hb] at h
  rw [Flw.busy, h.get _ (by decide), h.get _ (by decide), h.get _ (by decide), h.on _ (by decide), get_put_lt (by decide) (by decide),
    get_put_ne (by decide), get_put_ne (by decide), on_put_ne (by decide)]
  exact ⟨rfl, rfl, rfl, hb⟩

/-- A command on the standby of a pair. -/
theorem writeFlow_passive_shows (hp : s.passive = true) (h : Shows (Bus.writeFlow v s) t) :
    t.get F.FLW_CMD_STAT_ERR_CODE = 0 ∧ t.get H.FLW_OP = s.get H.FLW_OP ∧ Flw.busy t = Flw.busy s ∧ t.flw = s.flw ∧
      t.get F.FLW_STAGE_DATA 0 = s.get F.FLW_STAGE_DATA 0 := by
  rw [writeFlow_passive hp] at h
  rw [Flw.busy, h.get _ (by decide), h.get _ (by decide), h.get _ (by decide), h.on _ (by decide), h.flw, get_clr, get_clr_ne (by decide),
    get_clr_ne (by decide), on_clr_ne (by decide)]
  exact ⟨rfl, rfl, rfl, State_put_flw .., rfl⟩

theorem flowRead_busy_runs (ht : takes .FLW_CMD s = true) (hb : Flw.busy s = true) (hp : s.passive = false) :
    runs (.flowRead f) s (fun t => t.get F.FLW_CMD_STAT_ERR_CODE = 10 ∧ t.get H.FLW_OP = s.get H.FLW_OP ∧
      t.get H.FLW_OP_FLOW = s.get H.FLW_OP_FLOW ∧ Flw.busy t = true) :=
  runs_showsRow rfl ht rfl (by decide) fun _ => writeFlow_busy_shows hp hb

theorem flowWrite_busy_runs (ht : takes .FLW_CMD s = true) (hb : Flw.busy s = true) (hp : s.passive = false) :
    runs (.flowWrite f) s (fun t => t.get F.FLW_CMD_STAT_ERR_CODE = 10 ∧ t.get H.FLW_OP = s.get H.FLW_OP ∧
      t.get H.FLW_OP_FLOW = s.get H.FLW_OP_FLOW ∧ Flw.busy t = true) :=
  runs_showsRow_mirrored rfl ht rfl (by decide) fun _ => writeFlow_busy_shows hp hb

theorem flowRemove_busy_runs (ht : takes .FLW_CMD s = true) (hb : Flw.busy s = true) (hp : s.passive = false) :
    runs (.flowRemove f) s (fun t => t.get F.FLW_CMD_STAT_ERR_CODE = 10 ∧ t.get H.FLW_OP = s.get H.FLW_OP ∧
      t.get H.FLW_OP_FLOW = s.get H.FLW_OP_FLOW ∧ Flw.busy t = true) :=
  runs_showsRow_mirrored rfl ht rfl (by decide) fun _ => writeFlow_busy_shows hp hb

theorem flowRead_passive_runs (ht : takes .FLW_CMD s = true) (hp : s.passive = true) :
    runs (.flowRead f) s (fun t => t.get F.FLW_CMD_STAT_ERR_CODE = 0 ∧ t.get H.FLW_OP = s.get H.FLW_OP ∧ Flw.busy t = Flw.busy s ∧
      t.flw = s.flw ∧ t.get F.FLW_STAGE_DATA 0 = s.get F.FLW_STAGE_DATA 0) :=
  runs_showsRow rfl ht rfl (by decide) fun _ => writeFlow_passive_shows hp

theorem flowWrite_passive_runs (ht : takes .FLW_CMD s = true) (hp : s.passive = true) :
    runs (.flowWrite f) s (fun t => t.get F.FLW_CMD_STAT_ERR_CODE = 0 ∧ t.get H.FLW_OP = s.get H.FLW_OP ∧ Flw.busy t = Flw.busy s ∧
      t.flw = s.flw ∧ t.get F.FLW_STAGE_DATA 0 = s.get F.FLW_STAGE_DATA 0) :=
  runs_showsRow_mirrored rfl ht rfl (by decide) fun _ => writeFlow_passive_shows hp

theorem flowRemove_passive_runs (ht : takes .FLW_CMD s = true) (hp : s.passive = true) :
    runs (.flowRemove f) s (fun t => t.get F.FLW_CMD_STAT_ERR_CODE = 0 ∧ t.get H.FLW_OP = s.get H.FLW_OP ∧ Flw.busy t = Flw.busy s ∧
      t.flw = s.flw ∧ t.get F.FLW_STAGE_DATA 0 = s.get F.FLW_STAGE_DATA 0) :=
  runs_showsRow_mirrored rfl ht rfl (by decide) fun _ => writeFlow_passive_shows hp

/-! ### READ and REMOVE (R195) -/

theorem complete_get (h : clearOf [F.FLW_CMD_STAT_BUSY, F.FLW_CMD_STAT_ERR_CODE, F.FLW_INT_CAUSE_CMD_DONE] g = true) :
    (Flw.complete s).get g x y z = s.get g x y z := by
  have hm {f : Machine.Field} (hf : f ∈ [F.FLW_CMD_STAT_BUSY, F.FLW_CMD_STAT_ERR_CODE, F.FLW_INT_CAUSE_CMD_DONE]) : apart f g = true :=
    List.all_eq_true.mp h f hf
  rw [Flw.complete, get_set_ne (hm (by decide)), get_clr_ne (hm (by decide)), get_clr_ne (hm (by decide))]

theorem complete_shows : Flw.busy (Flw.complete s) = false ∧ (Flw.complete s).on F.FLW_INT_CAUSE_CMD_DONE = true ∧
    (Flw.complete s).get F.FLW_CMD_STAT_ERR_CODE = 0 := by
  rw [Flw.busy, Flw.complete, on_set_ne (by decide), on_clr_ne (by decide), on_clr, on_set (by decide) (by decide), get_set_ne (by decide),
    get_clr]
  exact ⟨rfl, rfl, rfl⟩

/-- The staged words are those of the entry that is read. -/
theorem staged_entry (hw : w < 5) : (s.each 5 fun j t => t.put F.FLW_STAGE_DATA (t.get F.FLW_FT_DATA f j) j).get F.FLW_STAGE_DATA w =
    s.get F.FLW_FT_DATA f w :=
  each_reaches (p := fun t => t.get F.FLW_FT_DATA f w = s.get F.FLW_FT_DATA f w)
    (q := fun t => t.get F.FLW_STAGE_DATA w = s.get F.FLW_FT_DATA f w) hw rfl
    (fun _ _ _ h => (get_put_ne (by decide)).trans h) (fun _ h => (get_put_get (has_row rfl hw) (by decide)).trans h)
    (fun _ _ hj h => (get_put_row (by decide) hj).trans h)

theorem flowRead_runs (ht : takes .FLW_CMD s = true) (hb : Flw.busy s = false) (hf : f % 4096 ≤ 3071) (hw : w < 5) (hp : s.passive = false) :
    runs (.flowRead f) s (fun t => t.get F.FLW_STAGE_DATA w = s.get F.FLW_FT_DATA (f % 4096) w ∧ t.on F.FLW_INT_CAUSE_CMD_DONE = true ∧
      t.get F.FLW_CMD_STAT_ERR_CODE = 0) := by
  refine runs_showsRow rfl ht rfl (by decide) fun t h => ?_
  rw [writeFlow_free (f := f) (op := 0) hp hb (by omega) (by decide), command_read (named_busy.trans hb) hf] at h
  obtain ⟨-, hdone, hcode⟩ := complete_shows (s := (named f 0 s).each 5 fun j t => t.put F.FLW_STAGE_DATA (t.get F.FLW_FT_DATA (f % 4096) j) j)
  rw [h.get _ (by decide), h.on _ (by decide), h.get _ (by decide), hdone, hcode, complete_get (by decide), staged_entry hw,
    named_get (by decide)]
  exact ⟨rfl, rfl, rfl⟩

theorem accept_shows (hf : f < 4096) (hop : op < 4) : Flw.busy (Flw.accept f op s) = true ∧ (Flw.accept f op s).get H.FLW_OP = op ∧
    (Flw.accept f op s).get H.FLW_OP_FLOW = f := by
  rw [Flw.busy, Flw.accept, on_put_ne (by decide), on_put_ne (by decide), on_set (by decide) (by decide), get_put_ne (by decide),
    get_put_lt (by decide) hop, get_put_lt (by decide) hf]
  exact ⟨rfl, rfl, rfl⟩

theorem flowRemove_runs (ht : takes .FLW_CMD s = true) (hb : Flw.busy s = false) (hf : f % 4096 ≤ 3071) (hp : s.passive = false) :
    runs (.flowRemove f) s (fun t => Flw.busy t = true ∧ t.get H.FLW_OP = 2 ∧ t.get H.FLW_OP_FLOW = f % 4096) := by
  refine runs_showsRow_mirrored rfl ht rfl (by decide) fun t h => ?_
  rw [writeFlow_free (f := f) (op := 2) hp hb (by omega) (by decide), command_remove (named_busy.trans hb) hf] at h
  rw [Flw.busy, h.on _ (by decide), h.get _ (by decide), h.get _ (by decide)]
  exact accept_shows (by omega) (by decide)

/-! ### WRITE and its checks (R195, Table FLW-2) -/

/-- What the checks of a staged entry read besides the list of enabled flows. -/
def checkFields : List Machine.Field :=
  [F.SYS_ROLE_ROLE, F.FLW_FT_DATA, F.HSL_CLI_CFG_TYPE, F.LTX_LINE_CFG_NSC_M1, H.LTX_ACTIVE, F.VLK_CTRL_EN, F.VLK_LEAF_STATE,
   F.VLK_LEAF_BEACON, H.QDM_COMMITTED, H.QDM_RESERVED, H.QDM_EXTRA, F.QDM_STAT_IN_USE, F.QDM_REGION_SIZE, F.QDM_CTRL_FREQ_MHZ,
   F.QDM_POOL_STAT_DIE_FREE]

theorem entry_congr (h : ∀ f w, t.get F.FLW_FT_DATA f w = s.get F.FLW_FT_DATA f w) : Flw.entry t f = Flw.entry s f :=
  List.map_congr_left fun _ _ => h ..

theorem setOk_congr (h : ∀ g ∈ checkFields, ∀ x y, t.get g x y = s.get g x y) : Flw.setOk t e = Flw.setOk s e := by
  simp only [Flw.setOk, State.leaf, State.on, Ltx.subcarriers, h F.SYS_ROLE_ROLE (by decide), h F.LTX_LINE_CFG_NSC_M1 (by decide),
    h F.VLK_CTRL_EN (by decide), h H.LTX_ACTIVE (by decide), h F.VLK_LEAF_STATE (by decide), h F.VLK_LEAF_BEACON (by decide)]
  rfl

theorem storeOk_congr {old : Flw.Entry} (h : ∀ g ∈ checkFields, ∀ x y, t.get g x y = s.get g x y) :
    Flw.storeOk t e old = Flw.storeOk s e old := by
  simp only [Flw.storeOk, Qdm.canReserve, Qdm.limit, Qdm.ports, Qdm.pool, Qdm.slots, Qdm.inUse, State.bit, h H.QDM_COMMITTED (by decide),
    h H.QDM_RESERVED (by decide), h H.QDM_EXTRA (by decide), h F.QDM_STAT_IN_USE (by decide), h F.QDM_REGION_SIZE (by decide),
    h F.QDM_CTRL_FREQ_MHZ (by decide), h F.QDM_POOL_STAT_DIE_FREE (by decide)]
  rfl

theorem check_congr (h : ∀ g ∈ checkFields, ∀ x y, t.get g x y = s.get g x y) (hen : Flw.enabled t = Flw.enabled s) :
    Flw.check t f e = Flw.check s f e := by
  have hentry (f : Nat) : Flw.entry t f = Flw.entry s f := entry_congr fun f w => h F.FLW_FT_DATA (by decide) f w
  simp only [Flw.check, State.leaf, Hsl.typeOf, hen, hentry, h F.SYS_ROLE_ROLE (by decide), h F.HSL_CLI_CFG_TYPE (by decide), setOk_congr h,
    storeOk_congr h]
  rfl

theorem named_check : Flw.check (named f op s) k (Flw.staged (named f op s)) = Flw.check s k (Flw.staged s) := by
  have hstaged : Flw.staged (named f op s) = Flw.staged s :=
    List.map_congr_left fun x _ => congrArg (· &&& x.1) (named_get (by decide))
  rw [hstaged]
  exact check_congr (fun g hg x y => named_get ((by decide : ∀ g ∈ checkFields, clearOf [F.FLW_CMD_FLOW, F.FLW_CMD_OP] g = true) g hg))
    named_enabled

theorem flowWrite_runs (ht : takes .FLW_CMD s = true) (hb : Flw.busy s = false) (hf : f % 4096 ≤ 3071)
    (hc : Flw.check s (f % 4096) (Flw.staged s) = 0) (hp : s.passive = false) :
    runs (.flowWrite f) s (fun t => Flw.busy t = true ∧ t.get H.FLW_OP = 1 ∧ t.get H.FLW_OP_FLOW = f % 4096) := by
  refine runs_showsRow_mirrored rfl ht rfl (by decide) fun t h => ?_
  rw [writeFlow_free (f := f) (op := 1) hp hb (by omega) (by decide), command_write (named_busy.trans hb) hf, named_check, if_pos hc] at h
  rw [Flw.busy, h.on _ (by decide), h.get _ (by decide), h.get _ (by decide)]
  exact accept_shows (by omega) (by decide)

/-- A refusal's code; `check` names none above 9. -/
theorem flowCheck_lt : Flw.check s f e < 10 := by
  unfold Flw.check
  dsimp only
  split_ifs <;> decide

theorem refuse_shows (hc : k < 16) : Flw.busy (Flw.refuse k s) = Flw.busy s ∧ (Flw.refuse k s).get F.FLW_CMD_STAT_ERR_CODE = k ∧
    (Flw.refuse k s).on F.FLW_INT_CAUSE_CMD_ERR = true := by
  rw [Flw.busy, Flw.refuse, on_set_ne (by decide), on_put_ne (by decide), get_set_ne (by decide), get_put_lt (by decide) hc,
    on_set (by decide) (by decide)]
  exact ⟨rfl, rfl, rfl⟩

theorem flowWrite_refused_runs (ht : takes .FLW_CMD s = true) (hb : Flw.busy s = false) (hf : f % 4096 ≤ 3071)
    (hc : Flw.check s (f % 4096) (Flw.staged s) ≠ 0) (hp : s.passive = false) :
    runs (.flowWrite f) s (fun t => Flw.busy t = false ∧ t.get F.FLW_CMD_STAT_ERR_CODE = Flw.check s (f % 4096) (Flw.staged s) ∧
      t.on F.FLW_INT_CAUSE_CMD_ERR = true ∧
      (Flw.check s (f % 4096) (Flw.staged s) = 1 → t.on F.SYS_INT_CAUSE_ROLE_LIMIT = true)) := by
  refine runs_showsRow_mirrored rfl ht rfl (by decide) fun t h => ?_
  rw [writeFlow_free (f := f) (op := 1) hp hb (by omega) (by decide), command_write (named_busy.trans hb) hf, named_check, if_neg hc] at h
  obtain ⟨hbusy, hcode, herr⟩ := refuse_shows (s := named f 1 s) (k := Flw.check s (f % 4096) (Flw.staged s)) (flowCheck_lt.trans (by decide))
  rw [Flw.busy, h.on _ (by decide), h.get _ (by decide), h.on _ (by decide), h.on _ (by decide)]
  have hfree := hbusy.trans (named_busy.trans hb)
  split
  next hone =>
    rw [hone] at hfree hcode herr ⊢
    rw [on_set_ne (by decide), get_set_ne (by decide), on_set_ne (by decide), on_set (by decide) (by decide)]
    exact ⟨hfree, hcode, herr, fun _ => rfl⟩
  next hone => exact ⟨hfree, hcode, herr, fun h => absurd h hone⟩

/-! ### FLOW_CMD_APPLY (R195 to R197) -/

theorem store_get (hf : f < 3072) (hw : w < 8) (hlen : w < e.length) : (Flw.store f e s).get F.FLW_FT_DATA f w = e.getD w 0 % 2 ^ 32 := by
  have hmem := getD_mem_zipIdx hlen
  refine eachOf_leaves (p := fun t => t.get F.FLW_FT_DATA f w = e.getD w 0 % 2 ^ 32) hmem
    (fun t => State_get_put_same _ _ _ _ _ _ (has_cell rfl hf hw)) (fun y hy t h => ?_) s
  by_cases hyw : y.2 = w
  · rw [hyw, State_get_put_same _ _ _ _ _ _ (has_cell rfl hf hw), eq_of_mem_zipIdx hmem hy hyw]
    rfl
  · rw [get_put_column (by decide) hyw, h]

theorem staged_lt (hx : x ∈ Flw.staged s) : x < 2 ^ 32 := by
  obtain ⟨y, -, rfl⟩ := List.mem_map.mp hx
  exact Nat.lt_of_le_of_lt Nat.and_le_left (State_get_lt ..)

theorem staged_getD (hw : w < 5) : (Flw.staged s).getD w 0 % 2 ^ 32 = (Flw.staged s).getD w 0 := by
  refine Nat.mod_eq_of_lt (staged_lt (s := s) ?_)
  rw [List.getD_eq_getElem _ _ hw]
  exact List.getElem_mem _

/-- Whatever happens to the flow, its entry is stored last. -/
theorem replace_stores : ∃ u, Flw.replace f e now s = Flw.store f e u := by
  unfold Flw.replace
  dsimp only
  split
  · exact ⟨_, rfl⟩
  · exact ⟨_, rfl⟩

theorem flowCmdApply_write_runs (hb : Flw.busy s = true) (hop : s.get H.FLW_OP = 1) (hf : s.get H.FLW_OP_FLOW < 3072) (hw : w < 5) :
    runs (.flowCmdApply now) s (fun t => t.get F.FLW_FT_DATA (s.get H.FLW_OP_FLOW) w = (Flw.staged s).getD w 0 ∧ Flw.busy t = false ∧
      t.on F.FLW_INT_CAUSE_CMD_DONE = true) := by
  obtain ⟨u, hu⟩ := replace_stores (f := s.get H.FLW_OP_FLOW) (e := Flw.staged s) (now := now) (s := s)
  have happly : Flw.apply now s = Flw.complete (Flw.store (s.get H.FLW_OP_FLOW) (Flw.staged s) u) := by
    rw [Flw.apply, if_neg (by simp [hb])]
    dsimp only
    rw [if_pos hop, hu]
  obtain ⟨hfree, hdone, -⟩ := complete_shows (s := Flw.store (s.get H.FLW_OP_FLOW) (Flw.staged s) u)
  refine runs_shows_mirrored (congrArg (Access.doneMirrored s) happly) fun t h => ?_
  rw [Flw.busy, h.get _ (by decide), h.on _ (by decide), h.on _ (by decide), complete_get (by decide),
    store_get hf (by omega) (by exact hw), staged_getD hw]
  exact ⟨rfl, hfree, hdone⟩

/-- An entry beyond the table reads 0 and is not enabled. -/
theorem lt_of_en (h : Flw.en (Flw.entry s f) = true) : f < 3072 := by
  by_contra hf
  have hzero : s.get F.FLW_FT_DATA f 0 = 0 := if_neg fun hhas => by
    simp only [Shape.has, Bool.and_eq_true, decide_eq_true_eq] at hhas
    obtain ⟨⟨hlt, -⟩, -⟩ := hhas
    exact hf hlt
  simp [Flw.en, Flw.part, Flw.entry, List.range_succ, hzero, slice] at h

theorem flowCmdApply_remove_runs (hb : Flw.busy s = true) (hop : s.get H.FLW_OP = 2)
    (hen : Flw.en (Flw.entry s (s.get H.FLW_OP_FLOW)) = true) (hw : w < 5) :
    runs (.flowCmdApply now) s (fun t => t.get F.FLW_FT_DATA (s.get H.FLW_OP_FLOW) w = 0 ∧ Flw.busy t = false ∧
      t.on F.FLW_INT_CAUSE_CMD_DONE = true) := by
  have happly : Flw.apply now s =
      Flw.complete (Flw.store (s.get H.FLW_OP_FLOW) (List.replicate 5 0) (Flw.stop (s.get H.FLW_OP_FLOW) s)) := by
    rw [Flw.apply, if_neg (by simp [hb])]
    dsimp only
    rw [if_neg (by omega), if_pos hen]
    rfl
  obtain ⟨hfree, hdone, -⟩ :=
    complete_shows (s := Flw.store (s.get H.FLW_OP_FLOW) (List.replicate 5 0) (Flw.stop (s.get H.FLW_OP_FLOW) s))
  refine runs_shows_mirrored (congrArg (Access.doneMirrored s) happly) fun t h => ?_
  rw [Flw.busy, h.get _ (by decide), h.on _ (by decide), h.on _ (by decide), complete_get (by decide),
    store_get (lt_of_en hen) (by omega) (by simpa using hw), List.getD_eq_getElem _ _ (by simpa using hw), List.getElem_replicate]
  exact ⟨rfl, hfree, hdone⟩

end Sys2Proof.Proofs

/-! SUPPORT. Tokens, client ingress and the QDR-IV ports where their conditions hold (O40; R192, R193, R200, R203, R204). -/
namespace Sys2Proof.Proofs
open Sys2Proof Sys2Proof.Machine Sys2Proof.Laws

variable {s t u : State} {g : Machine.Field} {e : Flw.Entry} {addr b c f i j k m n now p slot bad step vlan w x y z : Nat} {data moves : List Nat}

/-! ### Tokens (R192, R193) -/

/-- The tokens of flow f at time `now`, before the cap. -/
def grown (s : State) (f now : Nat) : Nat := s.get H.FLW_TOK f + Flw.rate (Flw.entry s f) * (now - s.get H.FLW_TOK_T f)

/-- The tokens are at their cap: those above it are counted as lost. -/
def capped (lost f : Nat) (s : State) : State :=
  ((((s.put H.FLW_TOK Flw.tokenCap f).put H.FLW_LOST (lost % Flw.token) f).count F.FLW_FSTAT_SHORT_CNT (lost / Flw.token) f).set
    F.FLW_FSTAT_RATE_SHORT f).set F.FLW_INT_CAUSE_RATE_SHORT

theorem accrue_eq (hu : s.put H.FLW_TOK_T (max now (s.get H.FLW_TOK_T f)) f = u) : Flw.accrue now f s =
    if grown s f now < Flw.tokenCap then u.put H.FLW_TOK (grown s f now) f
    else capped (u.get H.FLW_LOST f + (grown s f now - Flw.tokenCap)) f u := by
  subst hu
  rfl

theorem capped_shows (hf : f < 3072) : (capped n f s).get H.FLW_TOK f = Flw.tokenCap ∧ (capped n f s).on F.FLW_FSTAT_RATE_SHORT f = true ∧
    (capped n f s).on F.FLW_INT_CAUSE_RATE_SHORT = true := by
  rw [capped, get_set_ne (by decide), get_set_ne (by decide), get_count_ne (by decide), get_put_ne (by decide),
    get_put_lt (has_row rfl hf) (by decide), on_set_ne (by decide), on_set (has_row rfl hf) (by decide), on_set (by decide) (by decide)]
  exact ⟨rfl, rfl, rfl⟩

theorem accrue_shows (hf : f < 3072) : (Flw.accrue now f s).get H.FLW_TOK f = min Flw.tokenCap (grown s f now) ∧
    (Flw.tokenCap ≤ grown s f now →
      (Flw.accrue now f s).on F.FLW_FSTAT_RATE_SHORT f = true ∧ (Flw.accrue now f s).on F.FLW_INT_CAUSE_RATE_SHORT = true) := by
  rw [accrue_eq rfl]
  split
  next hlt =>
    have hfits : grown s f now < 2 ^ H.FLW_TOK.width := hlt.trans (by decide)
    exact ⟨by rw [get_put_lt (has_row rfl hf) hfits, Nat.min_eq_right (Nat.le_of_lt hlt)], fun hle => absurd hle (Nat.not_le.mpr hlt)⟩
  next hge =>
    obtain ⟨htok, hshort, hcause⟩ := capped_shows (s := s.put H.FLW_TOK_T (max now (s.get H.FLW_TOK_T f)) f)
      (n := (s.put H.FLW_TOK_T (max now (s.get H.FLW_TOK_T f)) f).get H.FLW_LOST f + (grown s f now - Flw.tokenCap)) hf
    exact ⟨by rw [htok, Nat.min_eq_left (Nat.not_lt.mp hge)], fun _ => ⟨hshort, hcause⟩⟩

theorem tokenCap_runs (hf : f < 3072) (hen : Flw.en (Flw.entry s f) = true) (htx : Flw.txEn (Flw.entry s f) = true) :
    runs (.tokenCap f now) s (fun t =>
      t.get H.FLW_TOK f = min Flw.tokenCap (s.get H.FLW_TOK f + Flw.rate (Flw.entry s f) * (now - s.get H.FLW_TOK_T f)) ∧
      (Flw.tokenCap ≤ s.get H.FLW_TOK f + Flw.rate (Flw.entry s f) * (now - s.get H.FLW_TOK_T f) →
        t.on F.FLW_FSTAT_RATE_SHORT f = true ∧ t.on F.FLW_INT_CAUSE_RATE_SHORT = true)) := by
  refine runs_shows (congrArg (done s) (if_pos ⟨hf, hen, htx⟩)) fun t h => ?_
  rw [h.get _ (by decide), h.on _ (by decide), h.on _ (by decide)]
  exact accrue_shows hf

/-! ### Client ingress (R190, R192) -/

/-- Traffic for a leaf is told to the link. -/
def trafficked (e : Flw.Entry) (s : State) : State := if !s.leaf && s.on H.VLK_TREE then Vlk.traffic (Flw.leafOf e) s else s

theorem ingress_congr (h : t.flw = u.flw) : Flw.ingress t f = Flw.ingress u f := by rw [Flw.ingress, h, Flw.ingress]

theorem ingress_set : Flw.ingress (s.set g i j k) f = Flw.ingress s f := ingress_congr (State_put_flw ..)

theorem trafficked_flw : (trafficked e s).flw = s.flw := by
  have hm : Moves (· ≠ .flw) s (trafficked e s) := moves_ite (by apply Vlk_traffic_moves (h := .refl) <;> exact nofun) .refl
  exact hm.untouched_flw (not_not.mpr rfl)

theorem trafficked_get (h : clearOf [H.VLK_REST_SET, H.VLK_SEQ, H.VLK_WAKE_BIT] g = true) : (trafficked e s).get g x y z = s.get g x y z := by
  refine Moves.get_misses (s₀ := s) (moves_ite ?_ .refl)
  apply Vlk_traffic_moves trivial (h := .refl) <;> exact misses_of_clearOf h (by decide)

/-- The stretch of the ingress that errored data will take is noted. -/
def stretched (f bad held n cap : Nat) (s : State) : State :=
  if bad = 0 ∨ 2 * cap < held + n then s else Flw.setErrored f (Flw.errored s f ++ [(held, held + n)]) s

theorem stretched_ingress : Flw.ingress (stretched f bad i n m s) k = Flw.ingress s k := by
  unfold stretched
  split <;> rfl

theorem stretched_get : (stretched f bad i n m s).get g x y z = s.get g x y z := by
  unfold stretched
  split <;> rfl

theorem taker_lt (h : Flw.taker s c vlan slot = some f) : f < 3072 := enabled_lt (List.mem_of_find?_eq_some h)

/-- Data of a client in UP, for a flow that takes it. -/
theorem clientIngress_eq (hc : c < 32) (hup : Hsl.state s c = 6) (hp : s.passive = false) (htake : Flw.taker s c vlan slot = some f)
    (htx : Flw.txEn (Flw.entry s f) = true) (hin : Flw.inputFailed s (Flw.entry s f) = false)
    (hu : stretched f bad (Flw.ingress s f).length data.length (Flw.capacity (Flw.entry s f)) (trafficked (Flw.entry s f) s) = u) :
    Flw.clientIngress c vlan slot bad data s =
      if (Flw.ingress s f).length + data.length ≤ 2 * Flw.capacity (Flw.entry s f) then Flw.setIngress f (Flw.ingress s f ++ data) u
      else
        let v := (u.set F.FLW_FSTAT_ING_OVF f).set F.FLW_INT_CAUSE_ING_OVF
        if Hsl.isFlexo (Hsl.typeOf v c) then
          (Flw.setIngress f (Flw.ingress s f ++ data.take (2 * Flw.capacity (Flw.entry s f) - (Flw.ingress s f).length)) v).set H.FLW_ERR_NEXT f
        else v := by
  have hheld : Flw.ingress (trafficked (Flw.entry s f) s) f = Flw.ingress s f := ingress_congr trafficked_flw
  rw [Flw.clientIngress, if_neg (by simp [hc, hup, hp]), htake]
  dsimp only
  rw [if_neg (by simp [htx, hin]), ← trafficked, hheld, ← stretched, hu]

theorem clientIngress_fits_runs (hc : c < 32) (hup : Hsl.state s c = 6) (hp : s.passive = false) (htake : Flw.taker s c vlan slot = some f)
    (htx : Flw.txEn (Flw.entry s f) = true) (hin : Flw.inputFailed s (Flw.entry s f) = false)
    (hfits : (Flw.ingress s f).length + data.length ≤ 2 * Flw.capacity (Flw.entry s f)) :
    runs (.clientIngress c vlan slot bad data) s (fun t => Flw.ingress t f = Flw.ingress s f ++ data) := by
  refine runs_shows (congrArg (done s) ((clientIngress_eq hc hup hp htake htx hin rfl).trans (if_pos hfits))) fun t h => ?_
  rw [ingress_congr h.flw]
  exact Store_get_put_same ..

theorem clientIngress_over_runs (hc : c < 32) (hup : Hsl.state s c = 6) (hp : s.passive = false) (htake : Flw.taker s c vlan slot = some f)
    (htx : Flw.txEn (Flw.entry s f) = true) (hin : Flw.inputFailed s (Flw.entry s f) = false)
    (hover : 2 * Flw.capacity (Flw.entry s f) < (Flw.ingress s f).length + data.length) :
    runs (.clientIngress c vlan slot bad data) s (fun t => t.on F.FLW_FSTAT_ING_OVF f = true ∧ t.on F.FLW_INT_CAUSE_ING_OVF = true ∧
      Flw.ingress t f = (if Hsl.isFlexo (Hsl.typeOf s c) then
        Flw.ingress s f ++ data.take (2 * Flw.capacity (Flw.entry s f) - (Flw.ingress s f).length) else Flw.ingress s f)) := by
  obtain ⟨u, hu⟩ : ∃ u, stretched f bad (Flw.ingress s f).length data.length (Flw.capacity (Flw.entry s f)) (trafficked (Flw.entry s f) s) = u :=
    ⟨_, rfl⟩
  obtain ⟨v, hv⟩ : ∃ v, (u.set F.FLW_FSTAT_ING_OVF f).set F.FLW_INT_CAUSE_ING_OVF = v := ⟨_, rfl⟩
  have htype : Hsl.typeOf v c = Hsl.typeOf s c := by
    rw [Hsl.typeOf, ← hv, get_set_ne (by decide), get_set_ne (by decide), ← hu, stretched_get, trafficked_get (by decide), Hsl.typeOf]
  have hheld : Flw.ingress v f = Flw.ingress s f := by
    rw [← hv, ingress_set, ingress_set, ← hu, stretched_ingress, ingress_congr trafficked_flw]
  have hset : v.on F.FLW_FSTAT_ING_OVF f = true ∧ v.on F.FLW_INT_CAUSE_ING_OVF = true := by
    rw [← hv, on_set_ne (by decide), on_set (has_row rfl (taker_lt htake)) (by decide), on_set (by decide) (by decide)]
    exact ⟨rfl, rfl⟩
  obtain ⟨hovf, hcause⟩ := hset
  have heq := (clientIngress_eq hc hup hp htake htx hin hu).trans (if_neg (Nat.not_le.mpr hover))
  rw [hv] at heq
  dsimp only at heq
  rw [htype] at heq
  refine runs_shows (congrArg (done s) heq) fun t h => ?_
  rw [h.on _ (by decide), h.on _ (by decide), ingress_congr h.flw]
  split
  · rw [on_set_ne (by decide), on_set_ne (by decide), ingress_set]
    exact ⟨hovf, hcause, Store_get_put_same ..⟩
  · exact ⟨hovf, hcause, hheld⟩

/-! ### QDR-IV: enable, training, retrain (R200, R203) -/

theorem twoBits_testBit (a b : Bool) (hp : p < 2) : (b01 a + 2 * b01 b).testBit p = if p = 0 then a else b := by
  revert a b
  interval_cases p <;> decide

/-- A mask of the two ports. -/
theorem portMask_testBit (q : Nat → Bool) (hp : p < 2) :
    ((List.range 2).foldl (fun a n => if q n then a + 2 ^ n else a) 0).testBit p = q p := by
  have hmask : (List.range 2).foldl (fun a n => if q n then a + 2 ^ n else a) 0 = b01 (q 0) + 2 * b01 (q 1) := by
    cases h0 : q 0 <;> cases h1 : q 1 <;> simp [List.range_succ, h0, h1, b01]
  rw [hmask, twoBits_testBit _ _ hp]
  interval_cases p <;> rfl

theorem fitted_testBit (hp : p < 2) : (Qdm.fitted s).testBit p = s.on F.QDM_PORT_CFG_EN p := by
  rw [Qdm.fitted, get_of_on (i := 0) rfl, get_of_on (i := 1) rfl, twoBits_testBit _ _ hp]
  interval_cases p <;> rfl

/-- Port p has begun to train. -/
def Begun (p : Nat) (t : State) : Prop :=
  t.bit H.QDM_TRAINING p = true ∧ t.on F.QDM_TRAIN_STAT_OK p = false ∧ t.on F.QDM_TRAIN_STAT_FAIL p = false

/-- Port b begins to train, its read centres from the middle. -/
def begin (b : Nat) (t : State) : State :=
  ((((t.each 36 fun i u => u.clr H.QDM_CENTRE b i).setBit H.QDM_TRAINING b).clr F.QDM_TRAIN_STAT_OK b).clr F.QDM_TRAIN_STAT_FAIL b).clr
    F.QDM_TRAIN_STAT_STEP b

theorem train_eq : Qdm.train m s = s.each 2 fun b t => if m.testBit b then begin b t else t := rfl

theorem centred_get (h : apart H.QDM_CENTRE g = true) : (s.each 36 fun i u => u.clr H.QDM_CENTRE b i).get g x y z = s.get g x y z :=
  each_keeps (obs := fun t => t.get g x y z) 36 fun _ _ _ => get_clr_ne h

theorem begin_bit_own (hb : b < 2) : (begin b s).bit H.QDM_TRAINING b = true := by
  rw [begin, bit_congr (get_clr_ne (by decide)), bit_congr (get_clr_ne (by decide)), bit_congr (get_clr_ne (by decide)),
    bit_setBit (by decide) hb, beq_self_eq_true, Bool.or_true]

theorem begin_bit_kept (h : s.bit H.QDM_TRAINING p = true) : (begin b s).bit H.QDM_TRAINING p = true := by
  rw [begin, bit_congr (get_clr_ne (by decide)), bit_congr (get_clr_ne (by decide)), bit_congr (get_clr_ne (by decide)),
    bit_setBit_of_bit ((bit_congr (centred_get (by decide))).trans h)]

theorem begin_status : (begin b s).on F.QDM_TRAIN_STAT_OK b = false ∧ (begin b s).on F.QDM_TRAIN_STAT_FAIL b = false := by
  rw [begin, on_clr_ne (by decide), on_clr_ne (by decide), on_clr, on_clr_ne (by decide), on_clr]
  exact ⟨rfl, rfl⟩

theorem begin_status_other (h : b ≠ p) : (begin b s).on F.QDM_TRAIN_STAT_OK p = s.on F.QDM_TRAIN_STAT_OK p ∧
    (begin b s).on F.QDM_TRAIN_STAT_FAIL p = s.on F.QDM_TRAIN_STAT_FAIL p := by
  rw [begin, on_clr_ne (by decide), on_clr_ne (by decide), on_congr (get_clr_row (by decide) h), on_clr_ne (by decide),
    on_congr (f := F.QDM_TRAIN_STAT_FAIL) (get_clr_row (by decide) h), on_clr_ne (by decide), State.setBit, on_put_ne (by decide),
    on_put_ne (by decide), on_congr (centred_get (by decide)), on_congr (f := F.QDM_TRAIN_STAT_FAIL) (centred_get (by decide))]
  exact ⟨rfl, rfl⟩

theorem begin_begun (hp : p < 2) : Begun p (begin p s) := ⟨begin_bit_own hp, begin_status⟩

theorem begin_keeps (h : Begun p s) : Begun p (begin b s) := by
  obtain ⟨htrains, hok, hfail⟩ := h
  refine ⟨begin_bit_kept htrains, ?_⟩
  by_cases hbp : b = p
  · exact hbp ▸ begin_status
  · obtain ⟨hok', hfail'⟩ := begin_status_other (s := s) hbp
    exact ⟨hok'.trans hok, hfail'.trans hfail⟩

theorem train_begun (hp : p < 2) (hm : m.testBit p = true) : Begun p (Qdm.train m s) := by
  rw [train_eq]
  exact each_makes (p := Begun p) (round := begin) hp hm (fun _ => begin_begun hp) (fun _ _ => begin_keeps) s

theorem train_get (h : clearOf [H.QDM_CENTRE, H.QDM_TRAINING, F.QDM_TRAIN_STAT_OK, F.QDM_TRAIN_STAT_FAIL, F.QDM_TRAIN_STAT_STEP] g = true) :
    (Qdm.train m s).get g x y z = s.get g x y z := by
  refine Moves.get_misses ?_
  apply Qdm_train_moves (h := .refl) <;> exact misses_of_clearOf h (by decide)

theorem qdmEnable_runs (ht : takes .QDM_CTRL s = true) (hen : s.on F.QDM_CTRL_EN = false) (hlo : 400 ≤ s.get F.QDM_CTRL_FREQ_MHZ)
    (hhi : s.get F.QDM_CTRL_FREQ_MHZ ≤ 1066)
    (hok : (List.range 2).all (fun q => Qdm.regionsOk s q && (!Qdm.needed s q || s.on F.QDM_PORT_CFG_EN q)) = true) (hp : p < 2) :
    runs .qdmEnable s (fun t => t.on F.QDM_CTRL_EN = true ∧
      (s.on F.QDM_PORT_CFG_EN p = true → t.bit H.QDM_TRAINING p = true ∧ t.get F.QDM_TRAIN_STAT_OK p = 0)) := by
  have hlegal : (List.range 2).any (fun q => !Qdm.regionsOk s q || (Qdm.needed s q && !s.on F.QDM_PORT_CFG_EN q)) = false := by
    rw [List.any_eq_not_all_not, Bool.not_eq_false', ← hok]
    exact List.all_congr rfl fun q => by simp
  have henable : Qdm.enable s = Qdm.train (Qdm.fitted s) (s.set F.QDM_CTRL_EN) := by
    rw [Qdm.enable, if_neg (by simp [hen])]
    dsimp only
    rw [if_neg (by omega), if_neg (by simp [hlegal])]
  refine runs_showsRow rfl ht rfl (by decide) fun t h => ?_
  rw [henable] at h
  rw [h.on _ (by decide), h.bit _ (by decide), h.get _ (by decide), on_congr (train_get (by decide)), on_set (by decide) (by decide)]
  refine ⟨rfl, fun hfit => ?_⟩
  obtain ⟨htrains, hwaits, -⟩ := train_begun (s := s.set F.QDM_CTRL_EN) hp ((fitted_testBit hp).trans hfit)
  exact ⟨htrains, by rw [get_of_on rfl, hwaits]; rfl⟩

theorem qdmEnable_clock_runs (ht : takes .QDM_CTRL s = true) (hen : s.on F.QDM_CTRL_EN = false)
    (hfreq : s.get F.QDM_CTRL_FREQ_MHZ < 400 ∨ 1066 < s.get F.QDM_CTRL_FREQ_MHZ) :
    runs .qdmEnable s (fun t => t.on F.QDM_CTRL_EN = false ∧ t.on F.QDM_INT_CAUSE_CFG_ERR = true) := by
  have hrefused : Qdm.enable s = s.set F.QDM_INT_CAUSE_CFG_ERR := by
    rw [Qdm.enable, if_neg (by simp [hen])]
    exact if_pos hfreq
  refine runs_showsRow rfl ht rfl (by decide) fun t h => ?_
  rw [hrefused] at h
  rw [h.on _ (by decide), h.on _ (by decide), on_set_ne (by decide), on_set (by decide) (by decide)]
  exact ⟨hen, rfl⟩

theorem qdmEnable_regions_runs (ht : takes .QDM_CTRL s = true) (hen : s.on F.QDM_CTRL_EN = false)
    (hlo : 400 ≤ s.get F.QDM_CTRL_FREQ_MHZ) (hhi : s.get F.QDM_CTRL_FREQ_MHZ ≤ 1066)
    (hbad : (List.range 2).any (fun q => !Qdm.regionsOk s q || (Qdm.needed s q && !s.on F.QDM_PORT_CFG_EN q)) = true) :
    runs .qdmEnable s (fun t => t.on F.QDM_CTRL_EN = false ∧ t.on F.QDM_INT_CAUSE_REGION_ERR = true) := by
  have hrefused : Qdm.enable s = s.set F.QDM_INT_CAUSE_REGION_ERR := by
    rw [Qdm.enable, if_neg (by simp [hen])]
    dsimp only
    rw [if_neg (by omega), if_pos hbad]
  refine runs_showsRow rfl ht rfl (by decide) fun t h => ?_
  rw [hrefused] at h
  rw [h.on _ (by decide), h.on _ (by decide), on_set_ne (by decide), on_set (by decide) (by decide)]
  exact ⟨hen, rfl⟩

theorem qdrRetrain_runs (ht : takes .QDM_CTRL s = true) (hen : s.on F.QDM_CTRL_EN = true) (hp : p < 2)
    (hfit : s.on F.QDM_PORT_CFG_EN p = true) (huse : Qdm.inUse s p = false) (hidle : s.bit H.QDM_TRAINING p = false) :
    runs .qdrRetrain s (fun t => t.bit H.QDM_TRAINING p = true ∧ t.on F.QDM_TRAIN_STAT_OK p = false ∧
      t.on F.QDM_TRAIN_STAT_FAIL p = false) := by
  refine runs_showsRow rfl ht rfl (by decide) fun t h => ?_
  rw [Qdm.retrain, if_pos hen] at h
  rw [h.bit _ (by decide), h.on _ (by decide), h.on _ (by decide)]
  refine train_begun hp ?_
  rw [portMask_testBit (fun q => (Qdm.fitted s).testBit q && !Qdm.inUse s q && !s.bit H.QDM_TRAINING q) hp, fitted_testBit hp, hfit, huse,
    hidle]
  rfl

/-! ### The result of training (R200) -/

theorem refresh_get (h : clearOf [F.QDM_BW_LIMIT, F.QDM_BW_USED, F.QDM_POOL_STAT_QDR_FREE] g = true) :
    (Qdm.refresh s).get g x y z = s.get g x y z := by
  refine Moves.get_misses ?_
  apply Qdm_refresh_moves (h := .refl) <;> exact misses_of_clearOf h (by decide)

/-- The ports that train no longer are judged: a needed one that has not trained refuses the enable. -/
def judgedPorts (s : State) : State :=
  if s.get H.QDM_TRAINING = 0 ∧ (List.range 2).any (fun q => Qdm.needed s q && !s.on F.QDM_TRAIN_STAT_OK q) then
    (Qdm.disable s).set F.QDM_INT_CAUSE_REGION_ERR
  else Qdm.refresh s

theorem judgedPorts_get (h : clearOf [F.QDM_BW_LIMIT, F.QDM_BW_USED, F.QDM_POOL_STAT_QDR_FREE, F.QDM_CTRL_EN, F.QDM_STAT_IN_USE,
    H.QDM_TRAINING, F.QDM_INT_CAUSE_REGION_ERR] g = true) : (judgedPorts s).get g x y z = s.get g x y z := by
  refine Moves.get_misses (moves_ite (.set _ _ _ (misses_of_clearOf h (by decide)) ?_) ?_)
  · apply Qdm_disable_moves (h := .refl) <;> exact misses_of_clearOf h (by decide)
  · apply Qdm_refresh_moves (h := .refl) <;> exact misses_of_clearOf h (by decide)

/-- No port begins to train at the judgement. -/
theorem judgedPorts_bit (h : s.bit H.QDM_TRAINING p = false) : (judgedPorts s).bit H.QDM_TRAINING p = false := by
  unfold judgedPorts Qdm.disable
  split_ifs
  · rw [bit_congr (get_set_ne (by decide)), bit_congr (refresh_get (by decide)), State.bit, get_clr, Nat.zero_testBit]
  · rw [bit_congr (get_set_ne (by decide)), h]
  · rw [bit_congr (refresh_get (by decide)), h]

theorem trained_ok (htrains : s.bit H.QDM_TRAINING p = true) : Qdm.trained p 0 s =
    judgedPorts ((((s.clrBit H.QDM_TRAINING p).set F.QDM_TRAIN_STAT_OK p).setBit F.QDM_STAT_IN_USE p).clrBit F.QDM_STAT_PORT_FAIL p) :=
  if_neg (by simp [htrains])

theorem trained_failed (htrains : s.bit H.QDM_TRAINING p = true) (hstep : step ≠ 0) : Qdm.trained p step s =
    judgedPorts ((((s.clrBit H.QDM_TRAINING p).set F.QDM_TRAIN_STAT_FAIL p).put F.QDM_TRAIN_STAT_STEP step p).set
      F.QDM_INT_CAUSE_TRAIN_FAIL) := by
  rw [Qdm.trained, if_neg (by simp [htrains])]
  dsimp only
  rw [if_neg hstep]
  rfl

theorem qdrTrainDone_ok_runs (hp : p < 2) (htrains : s.bit H.QDM_TRAINING p = true) (hstep : step = 0) :
    runs (.qdrTrainDone p step) s (fun t => t.on F.QDM_TRAIN_STAT_OK p = true ∧ t.bit H.QDM_TRAINING p = false) := by
  subst hstep
  refine runs_shows (congrArg (done s) (trained_ok htrains)) fun t h => ?_
  rw [h.on _ (by decide), h.bit _ (by decide), on_congr (judgedPorts_get (by decide)), State.clrBit, on_put_ne (by decide), State.setBit,
    on_put_ne (by decide), on_set (has_row rfl hp) (by decide)]
  refine ⟨rfl, judgedPorts_bit ?_⟩
  rw [bit_congr (get_put_ne (by decide)), bit_congr (get_put_ne (by decide)), bit_congr (get_set_ne (by decide)), bit_clrBit]
  simp

theorem qdrTrainDone_failed_runs (hp : p < 2) (htrains : s.bit H.QDM_TRAINING p = true) (hstep : step ≠ 0) :
    runs (.qdrTrainDone p step) s (fun t => t.on F.QDM_TRAIN_STAT_FAIL p = true ∧ t.get F.QDM_TRAIN_STAT_STEP p = step % 8 ∧
      t.on F.QDM_INT_CAUSE_TRAIN_FAIL = true) := by
  refine runs_shows (congrArg (done s) (trained_failed htrains hstep)) fun t h => ?_
  rw [h.on _ (by decide), h.get _ (by decide), h.on _ (by decide), on_congr (judgedPorts_get (by decide)), judgedPorts_get (by decide),
    on_congr (f := F.QDM_INT_CAUSE_TRAIN_FAIL) (judgedPorts_get (by decide)), on_set_ne (by decide), on_put_ne (by decide),
    on_set (has_row rfl hp) (by decide), get_set_ne (by decide), State_get_put_same _ _ _ _ _ _ (has_row rfl hp),
    on_set (by decide) (by decide)]
  exact ⟨rfl, rfl, rfl⟩

/-! ### Re-centring (R200) -/

/-- A loop over the words of a list with their positions, of which one position alone matters. -/
theorem eachOf_zipIdx_reaches {l : List Nat} {p q : State → Prop} {round : Nat × Nat → State → State} (hj : j < l.length) (hp : p s)
    (hbefore : ∀ y t, y.2 ≠ j → p t → p (round y t)) (hown : ∀ t, p t → q (round (l.getD j 0, j) t))
    (hafter : ∀ y t, y.2 ≠ j → q t → q (round y t)) : q (s.eachOf l.zipIdx round) := by
  have hzip : l.zipIdx = (List.range l.length).map fun i => (l.getD i 0, i) := by
    refine List.ext_getElem (by simp) fun i hi _ => ?_
    rw [List.length_zipIdx] at hi
    simp [hi]
  rw [State.eachOf, hzip, List.foldl_map]
  exact each_reaches (round := fun i t => round (l.getD i 0, i) t) hj hp (fun b t hb => hbefore _ t hb) hown fun b t hb => hafter _ t hb

/-- A bit's step: 1 up, 2 down, else none. -/
def stepOf (n : Nat) : Int := if n = 1 then 1 else if n = 2 then -1 else 0

/-- Bit x.2 of port p moves. -/
def recentred (p : Nat) (x : Nat × Nat) (t : State) : State :=
  if x.1 = 1 then t.sput H.QDM_CENTRE (t.sget H.QDM_CENTRE p x.2 + 1) p x.2
  else if x.1 = 2 then t.sput H.QDM_CENTRE (t.sget H.QDM_CENTRE p x.2 - 1) p x.2
  else t

theorem recentre_eq (hp : p < 2) (huse : Qdm.inUse s p = true) : Qdm.recentre p moves s = s.eachOf (moves.take 36).zipIdx (recentred p) :=
  if_pos ⟨hp, huse⟩

theorem recentred_other {x : Nat × Nat} (h : x.2 ≠ j) : (recentred p x s).get H.QDM_CENTRE p j = s.get H.QDM_CENTRE p j := by
  unfold recentred
  split_ifs
  · exact get_put_column (by decide) h
  · exact get_put_column (by decide) h
  · rfl

theorem recentred_own (hp : p < 2) (hj : j < 36) :
    (recentred p (n, j) s).get H.QDM_CENTRE p j = unsigned 8 (s.sget H.QDM_CENTRE p j + stepOf n) := by
  unfold recentred stepOf
  split_ifs
  · exact get_sput (has_cell rfl hp hj)
  · exact get_sput (has_cell rfl hp hj)
  · rw [Int.add_zero]
    exact (unsigned_signed (State_get_lt ..)).symm

theorem qdrRecentre_runs (hp : p < 2) (huse : Qdm.inUse s p = true) (hj : j < 36) (hlen : j < moves.length) :
    runs (.qdrRecentre p moves) s (fun t => t.get H.QDM_CENTRE p j = unsigned 8
      (s.sget H.QDM_CENTRE p j + (if moves.getD j 0 = 1 then 1 else if moves.getD j 0 = 2 then -1 else 0))) := by
  have htake : (moves.take 36).getD j 0 = moves.getD j 0 := by simp [List.getD_eq_getElem?_getD, hj]
  refine runs_shows (congrArg (done s) (recentre_eq hp huse)) fun t h => ?_
  rw [h.get _ (by decide)]
  refine eachOf_zipIdx_reaches (p := fun t => t.get H.QDM_CENTRE p j = s.get H.QDM_CENTRE p j)
    (q := fun t => t.get H.QDM_CENTRE p j = unsigned 8 (s.sget H.QDM_CENTRE p j + stepOf (moves.getD j 0)))
    (by rw [List.length_take]; omega) rfl (fun y t hy h => (recentred_other hy).trans h) (fun t h => ?_)
    (fun y t hy h => (recentred_other hy).trans h)
  rw [htake, recentred_own hp hj, sget_congr h]

/-! ### Errors (R204) -/

theorem Store_find_map {α β : Type} (mark : α → β) (n : Nat) : ∀ l : Store α,
    Store.find n (l.map fun x => (x.1, mark x.2)) = (Store.find n l).map mark
  | [] => rfl
  | (m, x) :: rest => by
    simp only [List.map_cons, Store.find]
    split
    · rfl
    · exact Store_find_map mark n rest

theorem slip_congr (h : t.frm = u.frm) : Frm.slip t f = Frm.slip u f := by rw [Frm.slip, h, Frm.slip]

theorem dataError_frm : (Qdm.dataError p addr s).frm = s.frm := by
  have hm : Moves (· ≠ .frm) s (Qdm.dataError p addr s) := by apply Qdm_dataError_moves (h := .refl) <;> exact nofun
  exact hm.untouched_frm (not_not.mpr rfl)

theorem dataError_shows (hp : p < 2) : (Qdm.dataError p addr s).get F.QDM_ERR_CNT_DATA p = min 65535 (s.get F.QDM_ERR_CNT_DATA p + 1) ∧
    (Qdm.dataError p addr s).get F.QDM_ERR_ADDR_ADDR p = addr % 2 ^ 23 ∧ (Qdm.dataError p addr s).on F.QDM_INT_CAUSE_DATA_PERR = true := by
  rw [Qdm.dataError, if_pos hp, get_count_ne (by decide), get_set_ne (by decide), get_put_ne (by decide), get_count (has_row rfl hp),
    get_count_ne (by decide), get_set_ne (by decide), State_get_put_same _ _ _ _ _ _ (has_row rfl hp),
    on_congr (get_count_ne (by decide)), on_set (by decide) (by decide)]
  exact ⟨rfl, rfl, rfl⟩

/-- The head frame of a slip buffer is marked errored. -/
def headMarked (l : List Stored) : List Stored :=
  match l with
  | x :: rest => { x with frame := { x.frame with err := true } } :: rest
  | [] => []

theorem headMarked_head (l : List Stored) : ((headMarked l).headD ⟨0, 0, { err := true }⟩).frame.err = true := by
  cases l <;> rfl

theorem qdrParityError_runs (hp : p < 2) :
    runs (.qdrParityError p addr f) s (fun t => t.get F.QDM_ERR_CNT_DATA p = min 65535 (s.get F.QDM_ERR_CNT_DATA p + 1) ∧
      t.get F.QDM_ERR_ADDR_ADDR p = addr % 2 ^ 23 ∧ t.on F.QDM_INT_CAUSE_DATA_PERR = true ∧
      ((Frm.slip t f).headD ⟨0, 0, { err := true }⟩).frame.err = true) := by
  obtain ⟨u, hu⟩ : ∃ u, { s with frm := { s.frm with slip := Store.put [] s.frm.slip f (headMarked (Store.get [] s.frm.slip f)) } } = u :=
    ⟨_, rfl⟩
  have heq : Flw.parityError p addr f s = Qdm.dataError p addr u := by rw [← hu]; rfl
  have hcount : u.get F.QDM_ERR_CNT_DATA p = s.get F.QDM_ERR_CNT_DATA p := by rw [← hu]; rfl
  have hslip : Frm.slip u f = headMarked (Store.get [] s.frm.slip f) := by rw [← hu]; exact Store_get_put_same ..
  obtain ⟨herrs, haddr, hcause⟩ := dataError_shows (s := u) (addr := addr) hp
  refine runs_shows (congrArg (done s) heq) fun t h => ?_
  rw [h.get _ (by decide), h.get _ (by decide), h.on _ (by decide), slip_congr (h.frm.trans dataError_frm), hslip, herrs, hcount]
  exact ⟨rfl, haddr, hcause, headMarked_head _⟩

theorem addrParityError_runs (hp : p < 2) :
    runs (.addrParityError p) s (fun t => t.get F.QDM_ERR_CNT_ADDR p = min 65535 (s.get F.QDM_ERR_CNT_ADDR p + 1) ∧
      t.on F.QDM_INT_CAUSE_ADDR_PERR = true) := by
  refine runs_shows (congrArg (done s) (if_pos hp)) fun t h => ?_
  rw [h.get _ (by decide), h.on _ (by decide), get_count_ne (by decide), get_set_ne (by decide), get_count (has_row rfl hp),
    on_congr (get_count_ne (by decide)), on_set (by decide) (by decide)]
  exact ⟨rfl, rfl⟩

/-- A stored frame of port p is marked errored. -/
def portMarked (p : Nat) (y : Stored) : Stored := if y.port = p then { y with frame := { y.frame with err := true } } else y

theorem portMarked_err {y : Stored} (h : (portMarked p y).port = p) : (portMarked p y).frame.err = true := by
  unfold portMarked at h ⊢
  split at h
  next hport => rw [if_pos hport]
  next hne => exact absurd h hne

/-- The held frames of leaf l in port p are dropped. -/
def heldDropped (p l : Nat) (t : State) : State :=
  Flw.setSleep l ((Flw.sleepQueue t l).filter (fun x => x.port != p))
    (t.eachOf ((Flw.sleepQueue t l).filter (fun x => x.port == p)) (fun (x : Stored) u => Flw.sleepDrop l (Flw.sleepFree x.port u)))

theorem heldDropped_frm : (heldDropped p i s).frm = s.frm := by
  refine eachOf_keeps (obs := State.frm) (fun x _ t => ?_) s
  rw [Flw.sleepDrop, Flw.sleepFree]
  split <;> simp [State.set, State.count]

/-- The machine with the frames of port p marked and the held ones dropped. -/
def portLost (p : Nat) (s : State) : State :=
  State.each { s with frm := { s.frm with slip := s.frm.slip.map fun x => (x.1, x.2.map (portMarked p)) } } 512 (heldDropped p)

theorem portFail_eq (h : Qdm.failing s p = true) : Flw.portFail p s =
    Qdm.refresh ((((portLost p s).clrBit F.QDM_STAT_IN_USE p).setBit F.QDM_STAT_PORT_FAIL p).set F.QDM_INT_CAUSE_PORT_FAIL) :=
  if_neg (by simp [h])

theorem portLost_slip (g : Nat) : Frm.slip (portLost p s) g = (Frm.slip s g).map (portMarked p) := by
  rw [portLost, slip_congr (each_keeps (obs := State.frm) 512 fun _ _ _ => heldDropped_frm)]
  simp only [Frm.slip, Store.get, Store_find_map]
  cases Store.find g s.frm.slip <;> rfl

theorem qdrPortFail_runs (hfail : Qdm.failing s p = true) :
    runs (.qdrPortFail p) s (fun t => t.bit F.QDM_STAT_IN_USE p = false ∧ t.bit F.QDM_STAT_PORT_FAIL p = true ∧
      t.on F.QDM_INT_CAUSE_PORT_FAIL = true ∧ (∀ g, ∀ y ∈ Frm.slip t g, y.port = p → y.frame.err = true)) := by
  have hp : p < 2 := by
    simp only [Qdm.failing, Bool.and_eq_true, decide_eq_true_eq] at hfail
    obtain ⟨⟨⟨hp, -⟩, -⟩, -⟩ := hfail
    exact hp
  have hfrm {u : State} : (Qdm.refresh (((u.clrBit F.QDM_STAT_IN_USE p).setBit F.QDM_STAT_PORT_FAIL p).set F.QDM_INT_CAUSE_PORT_FAIL)).frm =
      u.frm := by simp [Qdm.refresh, State.set, State.setBit, State.clrBit]
  refine runs_shows (congrArg (done s) (portFail_eq hfail)) fun t h => ?_
  rw [h.bit _ (by decide), h.bit _ (by decide), h.on _ (by decide), bit_congr (refresh_get (by decide)),
    bit_congr (f := F.QDM_STAT_PORT_FAIL) (refresh_get (by decide)), on_congr (refresh_get (by decide)), bit_congr (get_set_ne (by decide)),
    bit_congr (f := F.QDM_STAT_PORT_FAIL) (get_set_ne (by decide)), on_set (by decide) (by decide), bit_setBit (by decide) hp,
    State.setBit, bit_congr (get_put_ne (by decide)), bit_clrBit]
  refine ⟨by simp, by simp, rfl, fun g y hy hport => ?_⟩
  rw [slip_congr (h.frm.trans hfrm), portLost_slip] at hy
  obtain ⟨x, -, rfl⟩ := List.mem_map.mp hy
  exact portMarked_err hport

end Sys2Proof.Proofs

/-! SUPPORT. The scheduler of container frames where its conditions hold (R150, R151, R192, R193), and O40. -/
namespace Sys2Proof.Proofs
open Sys2Proof Sys2Proof.Machine Sys2Proof.Laws

variable {s t u v : State} {g : Machine.Field} {e : Flw.Entry} {f k n now room x y z : Nat} {c : Cf} {r : Option (Nat × Bool)} {spend : Bool}

/-! ### A management container's bytes (R103, R151) -/

/-- The bytes that messages take on the wire. -/
def wireBytes (l : List VMsg) : Nat := (l.map Vlk.wireLen).sum

theorem length_bytesOf (l : List Nat) : (bytesOf l).length = 4 * l.length := by
  simp [bytesOf, List.length_flatMap, Nat.mul_comm]

theorem length_messageBytes (m : VMsg) : (Vlk.messageBytes m).length = Vlk.wireLen m := by
  have hfits : 8 + 4 * m.body.length ≤ Vlk.wireLen m := by
    rw [Vlk.wireLen, ceilDiv, if_neg (by decide)]
    omega
  have hlen : (bytesOf (Vlk.words m)).length = 8 + 4 * m.body.length := by
    rw [length_bytesOf, Vlk.words, Vlk.headerWords, List.length_append, List.length_cons, List.length_cons, List.length_nil]
    omega
  rw [Vlk.messageBytes, padTo, List.length_append, List.length_replicate, hlen]
  omega

theorem pack_fits : ∀ (l : List VMsg) (room : Nat), wireBytes (Vlk.pack room l).1 ≤ room
  | [], _ => Nat.zero_le _
  | m :: rest, room => by
    unfold Vlk.pack
    split
    next hm =>
      have hrest := pack_fits rest (room - Vlk.wireLen m)
      simp only [wireBytes, List.map_cons, List.sum_cons] at hrest ⊢
      omega
    next => exact Nat.zero_le _

/-- The messages that a container takes fit in it. -/
theorem fetch_fits {mine : VMsg → Bool} : wireBytes (Vlk.fetch mine n room s).1 ≤ room := by
  have hown := pack_fits (s.vlk.own.filter mine) room
  have hused : ((Vlk.pack room (s.vlk.own.filter mine)).1.map Vlk.wireLen).foldl (· + ·) 0 =
      wireBytes (Vlk.pack room (s.vlk.own.filter mine)).1 := List.sum_eq_foldl.symm
  unfold Vlk.fetch
  dsimp only
  rw [hused]
  split
  · have hpost := pack_fits ((Vlk.roundRobin (s.get H.VLK_RR n) (s.vlk.posted.filter fun x => mine x.2)).map Prod.snd)
      (room - wireBytes (Vlk.pack room (s.vlk.own.filter mine)).1)
    simp only [wireBytes, List.map_append, List.sum_append] at hown hpost ⊢
    omega
  · rw [List.append_nil]
    exact hown

theorem length_containerBytes {l : List VMsg} (h : wireBytes l ≤ 4092) : (Vlk.containerBytes l).length = 4096 := by
  have hlen : (l.flatMap Vlk.messageBytes).length = wireBytes l := by
    rw [List.length_flatMap, wireBytes]
    simp only [length_messageBytes]
  rw [Vlk.containerBytes, checked, padTo, List.length_append, List.length_append, List.length_replicate, length_bytesOf, hlen,
    List.length_singleton]
  omega

theorem length_sendContainer : (Vlk.sendContainer s).1.length = 4096 := length_containerBytes fetch_fits

/-! ### The start of a container frame (R192) -/

/-- What an accrual of tokens writes. -/
def accrueFields : List Machine.Field :=
  [F.FLW_FSTAT_RATE_SHORT, F.FLW_FSTAT_SHORT_CNT, F.FLW_INT_CAUSE_RATE_SHORT, H.FLW_LOST, H.FLW_TOK, H.FLW_TOK_T]

/-- What the frames held for a resting leaf write. -/
def holdFields : List Machine.Field :=
  [F.FLW_INT_CAUSE_SLEEP_DROP, F.FLW_SLEEP_DROP_COUNT, F.PMC_INT_CAUSE_OVF, F.PMC_INT_CAUSE_SMP_AVAIL, F.PMC_INT_CAUSE_SMP_DROP,
   F.PMC_OVF_STAT_OVF, F.PMC_SMP_DROP_RING, F.PMC_SMP_STAT_COUNT, H.FLW_ERR_NEXT, H.PMC_CNT, H.PMC_OVF_DUE, H.PMC_OVF_T, H.PMC_RING,
   H.PMC_TRACE_POS, H.QDM_SLEEP_USED, H.VLK_WAKE_BIT]

/-- The start of a frame takes it from those due. -/
def cfTaken (k : Nat) (s : State) : State := s.put H.FRM_CF_DUE (s.get H.FRM_CF_DUE k - 1) k

theorem due_get (h : clearOf (accrueFields ++ holdFields) g = true) : (due s k now).get g x y z = (cfTaken k s).get g x y z := by
  have hm {f : Machine.Field} (hf : f ∈ accrueFields ++ holdFields) : Misses g (.fld f) := misses_of_clearOf h hf
  refine Moves.get_misses (s₀ := cfTaken k s) ?_
  unfold due
  refine .eachOf _ (.eachOf _ .refl fun f t ht => ?_) fun f t ht => moves_ite ?_ ht
  · apply Flw_accrue_moves (h := ht) <;> exact hm (by decide)
  · apply Flw_hold_moves trivial trivial (h := ht) <;> exact hm (by decide)

theorem cfTaken_get (h : apart H.FRM_CF_DUE g = true) : (cfTaken k s).get g x y z = s.get g x y z := get_put_ne h

theorem cfTaken_due (hk : k < 512) : (cfTaken k s).get H.FRM_CF_DUE k = s.get H.FRM_CF_DUE k - 1 :=
  get_put_lt (has_row rfl hk) (Nat.lt_of_le_of_lt (Nat.sub_le ..) (State_get_lt ..))

theorem lt_of_carries (h : Flw.carries s k = true) : k < 512 := by
  have hlt : s.get F.LTX_LINE_CFG_NSC_M1 < 512 := State_get_lt ..
  rw [Flw.carries, Bool.and_eq_true] at h
  obtain ⟨hk, -⟩ := h
  have hk' : k < s.get F.LTX_LINE_CFG_NSC_M1 + 1 := of_decide_eq_true hk
  omega

/-- A container frame starts on subcarrier k. -/
def cfStarts (s : State) (k : Nat) : Prop :=
  s.on F.LTX_STAT_ACTIVE = true ∧ Rest.awake s = true ∧ s.passive = false ∧ Flw.carries s k = true ∧ Flw.startsNone s k = false ∧
    s.get H.FRM_CF_DUE k ≠ 0

/-- The leaf's management container goes on subcarrier k. -/
def mgmtGoes (s : State) (k : Nat) : Bool := s.leaf && s.on H.FRM_MGMT_DUE && Flw.mgmtSubcarrier s == some k

/-- The flow picked sends, else an idle frame goes. -/
def cfServed (k : Nat) (r : Option (Nat × Bool)) (t : State) : State :=
  match r with
  | some (f, spend) => Flw.sendCf f k spend t
  | none => Flw.putCf k { type := 3, flow := 0xFFF, payload := Cry.zeros 5984 } t

theorem schedule_eq (h : cfStarts s k) : Flw.schedule k now s =
    if mgmtGoes (cfTaken k s) k = true then
      Flw.putCf k { type := 2, flow := 0xFFF, payload := padTo 5984 (Vlk.sendContainer ((cfTaken k s).clr H.FRM_MGMT_DUE)).1 }
        (Vlk.sendContainer ((cfTaken k s).clr H.FRM_MGMT_DUE)).2
    else
      let l := senders (cfTaken k s) k
      let t := (cfTaken k s).eachOf l (Flw.accrue now)
      let u := t.eachOf (l.filter (fun f => Flw.resting t (Flw.entry t f))) (fun f v =>
        if decide (Flw.capacity (Flw.entry v f) ≤ (Flw.ingress v f).length) && !Flw.lock (Flw.entry v f) && !Flw.inputFailed v (Flw.entry v f)
        then Flw.hold f v else v)
      cfServed k (Flw.pick u (l.filter (fun f => !Flw.resting u (Flw.entry u f)))) u := by
  obtain ⟨hon, hawake, hp, hcarries, hnone, hdue⟩ := h
  rw [Flw.schedule, if_neg (by simp [hon, hawake, hp, hcarries, hnone, hdue])]
  rfl

theorem cfTaken_entry : Flw.entry (cfTaken k s) f = Flw.entry s f := entry_congr fun _ _ => cfTaken_get (by decide)

theorem cfTaken_senders : senders (cfTaken k s) k = senders s k := by
  have hset (e : Flw.Entry) : Flw.inSet (cfTaken k s) e k = Flw.inSet s e k := by
    rw [Flw.inSet, State.leaf, cfTaken_get (by decide), cfTaken_get (by decide), cfTaken_get (by decide), Flw.inSet, State.leaf]
  unfold senders
  rw [cfTaken, enabled_put (by decide), ← cfTaken]
  exact List.filter_congr fun f _ => by rw [cfTaken_entry, hset]

/-- What the choice of the management container's subcarrier reads. -/
def mgmtFields : List Machine.Field :=
  [F.SYS_ROLE_ROLE, H.FRM_MGMT_DUE, F.LTX_LINE_CFG_NSC_M1, H.LTX_ACTIVE, F.VLK_SELF_STATE, F.VLK_SELF_LEAF, H.VLK_UP_ON, H.VLK_LISTENING,
   H.VLK_HEARD, H.VLK_G_SC_ACT]

theorem mgmtGoes_congr (h : ∀ g ∈ mgmtFields, ∀ x, t.get g x = s.get g x) : mgmtGoes t k = mgmtGoes s k := by
  simp only [mgmtGoes, Flw.mgmtSubcarrier, Vlk.owns, Vlk.allocated, Vlk.called, Ltx.subcarriers, State.leaf, State.on,
    h F.SYS_ROLE_ROLE (by decide), h H.FRM_MGMT_DUE (by decide), h F.LTX_LINE_CFG_NSC_M1 (by decide), h H.LTX_ACTIVE (by decide),
    h F.VLK_SELF_STATE (by decide), h F.VLK_SELF_LEAF (by decide), h H.VLK_UP_ON (by decide), h H.VLK_LISTENING (by decide),
    h H.VLK_HEARD (by decide), h H.VLK_G_SC_ACT (by decide)]

theorem cfTaken_mgmt : mgmtGoes (cfTaken k s) k = mgmtGoes s k :=
  mgmtGoes_congr fun g hg _ => cfTaken_get ((by decide : ∀ g ∈ mgmtFields, apart H.FRM_CF_DUE g = true) g hg)

theorem schedule_mgmt (h : cfStarts s k) (hm : mgmtGoes s k = true) : Flw.schedule k now s =
    Flw.putCf k { type := 2, flow := 0xFFF, payload := padTo 5984 (Vlk.sendContainer ((cfTaken k s).clr H.FRM_MGMT_DUE)).1 }
      (Vlk.sendContainer ((cfTaken k s).clr H.FRM_MGMT_DUE)).2 := by
  rw [schedule_eq h, cfTaken_mgmt, if_pos hm]

theorem schedule_flows (h : cfStarts s k) (hm : mgmtGoes s k = false) :
    Flw.schedule k now s = cfServed k (picked s k now) (due s k now) := by
  rw [schedule_eq h, cfTaken_mgmt, if_neg (by simp [hm]), cfTaken_senders]
  rfl

theorem execCfSchedule_awake (h : cfStarts s k) : exec (.cfSchedule k now) s = done s (Flw.schedule k now s) := by
  obtain ⟨-, hawake, -⟩ := h
  exact congrArg (done s) (if_pos hawake)

theorem Shows.mem (h : Shows u t) {o : Emit} (ho : o ∈ u.out) : o ∈ t.out := h.out.subset ho

/-! ### The management container and the idle frame (R150, R151, R192) -/

theorem putCf_get : (Flw.putCf k c s).get g x y z = s.get g x y z := rfl

theorem putCf_mem : Emit.cf k (Cry.headerBytes c) c ∈ (Flw.putCf k c s).out := List.mem_cons_self ..

theorem cfSchedule_mgmt_runs (hon : s.on F.LTX_STAT_ACTIVE = true) (hawake : Rest.awake s = true) (hp : s.passive = false)
    (hcarries : Flw.carries s k = true) (hnone : Flw.startsNone s k = false) (hdue : s.get H.FRM_CF_DUE k ≠ 0) (hleaf : s.leaf = true)
    (hmgmt : s.on H.FRM_MGMT_DUE = true) (hsc : Flw.mgmtSubcarrier s = some k) :
    runs (.cfSchedule k now) s (fun t => t.on H.FRM_MGMT_DUE = false ∧ t.out.any (fun o => match o with
      | .cf i h x => i == k && h == Cry.headerBytes x && x.type == 2 && x.flow == 0xFFF && x.payload.length == 5984
      | _ => false) = true) := by
  have hstarts : cfStarts s k := ⟨hon, hawake, hp, hcarries, hnone, hdue⟩
  have hlen (r : List Nat) (h : r.length = 4096) : (padTo 5984 r).length = 5984 := by
    rw [padTo, List.length_append, List.length_replicate, h]
  have hcleared (u : State) : (Vlk.sendContainer (u.clr H.FRM_MGMT_DUE)).2.on H.FRM_MGMT_DUE = false := by
    have hm : Moves (Misses H.FRM_MGMT_DUE) (u.clr H.FRM_MGMT_DUE) (Vlk.sendContainer (u.clr H.FRM_MGMT_DUE)).2 :=
      Vlk_sendContainer_moves trivial (by decide : apart H.VLK_RR H.FRM_MGMT_DUE = true) (by decide : apart H.VLK_SEQ H.FRM_MGMT_DUE = true)
        .refl
    rw [on_congr hm.get_misses, on_clr]
  refine runs_shows ((execCfSchedule_awake hstarts).trans (congrArg (done s) (schedule_mgmt hstarts (by simp [mgmtGoes, hleaf, hmgmt, hsc]))))
    fun t h => ⟨?_, List.any_eq_true.mpr ⟨_, h.mem putCf_mem, ?_⟩⟩
  · rw [h.on _ (by decide), on_congr putCf_get, hcleared]
  · simp [hlen _ length_sendContainer]

theorem cfSchedule_idle_runs (hon : s.on F.LTX_STAT_ACTIVE = true) (hawake : Rest.awake s = true) (hp : s.passive = false)
    (hcarries : Flw.carries s k = true) (hnone : Flw.startsNone s k = false) (hdue : s.get H.FRM_CF_DUE k ≠ 0)
    (hmgmt : (s.leaf && s.on H.FRM_MGMT_DUE && Flw.mgmtSubcarrier s == some k) = false) (hpicked : picked s k now = none) :
    runs (.cfSchedule k now) s (fun t =>
      Emit.cf k (Cry.headerBytes ({ type := 3, flow := 0xFFF, payload := Cry.zeros 5984 } : Cf))
        ({ type := 3, flow := 0xFFF, payload := Cry.zeros 5984 } : Cf) ∈ t.out ∧ t.get H.FRM_CF_DUE k = s.get H.FRM_CF_DUE k - 1) := by
  have hstarts : cfStarts s k := ⟨hon, hawake, hp, hcarries, hnone, hdue⟩
  have hidle := (schedule_flows hstarts hmgmt (now := now)).trans (congrArg (cfServed k · _) hpicked)
  refine runs_shows ((execCfSchedule_awake hstarts).trans (congrArg (done s) hidle)) fun t h => ⟨h.mem putCf_mem, ?_⟩
  rw [h.get _ (by decide), cfServed, putCf_get, due_get (by decide), cfTaken_due (lt_of_carries hcarries)]

/-! ### A flow sends its next frame (R150, R192, R206) -/

/-- A frame lost in the standby of a pair is counted before the flow sends. -/
def lostCounted (f : Nat) (s : State) : State :=
  if s.on H.FLW_LOST_HELD f then Flw.sleepDrop (Flw.leafOf (Flw.entry s f)) (s.clr H.FLW_LOST_HELD f) else s

theorem lostCounted_get (h : clearOf [F.FLW_INT_CAUSE_SLEEP_DROP, F.FLW_SLEEP_DROP_COUNT, H.FLW_LOST_HELD] g = true) :
    (lostCounted f s).get g x y z = s.get g x y z := by
  refine Moves.get_misses (s₀ := s) (moves_ite (Flw_sleepDrop_moves ?_ ?_ _ (.clr _ _ _ ?_ .refl)) .refl) <;>
    exact misses_of_clearOf h (by decide)

theorem lostCounted_flw : (lostCounted f s).flw = s.flw := by
  have hm : Moves (· ≠ .flw) s (lostCounted f s) := moves_ite (Flw_sleepDrop_moves nofun nofun _ (.clr _ _ _ nofun .refl)) .refl
  exact hm.untouched_flw (not_not.mpr rfl)

/-- What decides the type of a flow's frame, besides what is held and its ingress. -/
def typeFields : List Machine.Field := [F.FLW_FT_DATA, F.HSL_CLI_STAT_STATE, F.HSL_CLI_CFG_TYPE, H.FRM_CLI_RAW, F.FRM_RA_STAT_JUST]

theorem cfType_congr (h : ∀ g ∈ typeFields, ∀ x y, t.get g x y = s.get g x y) (hflw : t.flw = s.flw) :
    Flw.cfType t f spend = Flw.cfType s f spend := by
  have hentry : Flw.entry t f = Flw.entry s f := entry_congr fun f w => h F.FLW_FT_DATA (by decide) f w
  have hready : Flw.ready t f = Flw.ready s f := by
    rw [Flw.ready, Flw.isHeld, Flw.heldOf, Flw.sleepQueue, hentry, ingress_congr hflw, hflw, Flw.ready, Flw.isHeld, Flw.heldOf, Flw.sleepQueue]
  have hfailed : Flw.inputFailed t (Flw.entry s f) = Flw.inputFailed s (Flw.entry s f) := by
    rw [Flw.inputFailed, Hsl.state, Hsl.typeOf, h F.HSL_CLI_STAT_STATE (by decide), h F.HSL_CLI_CFG_TYPE (by decide),
      h H.FRM_CLI_RAW (by decide), Flw.inputFailed, Hsl.state, Hsl.typeOf]
  rw [Flw.cfType, hentry, hready, hfailed, State.on, h F.FRM_RA_STAT_JUST (by decide), Flw.cfType, State.on]

/-- The justification of the flow's frame (R169). -/
def cfShift (f : Nat) (spend : Bool) (s : State) : Int :=
  if s.on F.FRM_RA_STAT_JUST f && Flw.cfType s f spend == 0 then Flw.justification s f else 0

/-- The payload of the frame of a flow with entry e and its ERR, and the machine that they have left. -/
def cfData (e : Flw.Entry) (f : Nat) (spend : Bool) (s : State) : List Nat × Bool × State :=
  if Flw.cfType s f spend = 0 then Flw.takeData f (cfShift f spend s) (s.on F.FRM_RA_STAT_JUST f) s
  else (Cry.zeros (Flw.capacity e), false, s)

/-- The frame with the data d, in the machine t in which its flow has been served. -/
def cfFrame (e : Flw.Entry) (f : Nat) (spend : Bool) (s : State) (d : List Nat × Bool × State) (t : State) : Cf :=
  { type := Flw.cfType s f spend, flow := Flw.lflow e, seq := t.get H.FLW_TX_SEQ f, just := s.on F.FRM_RA_STAT_JUST f, err := d.2.1,
    jc := if s.on F.FRM_RA_STAT_JUST f && Flw.cfType s f spend == 0 then Flw.jcCopies (cfShift f spend s) else 0, payload := d.1 }

/-- The frame as it is sent: that of an encrypted flow is encrypted. -/
def cfSealed (e : Flw.Entry) (c : Cf) (s : State) : Cf × State := if Flw.ciphEn e then Cry.encrypt (Flw.ctx e) c s else (c, s)

theorem sendCf_eq {d : List Nat × Bool × State} (he : Flw.entry s f = e) (hu : lostCounted f s = u) (hd : cfData e f spend u = d)
    (ht : Flw.served f spend d.2.2 = t) (hc : cfFrame e f spend u d t = c) (hv : t.put H.FLW_TX_SEQ (c.seq + 1) f = v) :
    Flw.sendCf f k spend s =
      Flw.watchIdle f (Flw.cfType u f spend) (Flw.putCf k (cfSealed e c v).1 (cfSealed e c v).2) := by
  subst he hu hd ht hc hv
  rfl

theorem cfSealed_kept : (cfSealed e c s).1.type = c.type ∧ (cfSealed e c s).1.flow = c.flow ∧ (cfSealed e c s).1.seq = c.seq := by
  unfold cfSealed Cry.encrypt
  dsimp only
  split_ifs <;> exact ⟨rfl, rfl, rfl⟩

theorem cfSealed_get (h : clearOf [F.CRY_CNT_COUNT, F.CRY_INT_CAUSE_TX_NOKEY, H.CRY_CUR, H.CRY_NEXT] g = true) :
    (cfSealed e c s).2.get g x y z = s.get g x y z := by
  have hm : Moves (Misses g) s (Cry.encrypt (Flw.ctx e) c s).2 := by
    apply Cry_encrypt_moves (h := .refl) <;> exact misses_of_clearOf h (by decide)
  unfold cfSealed
  split
  · exact hm.get_misses
  · rfl

theorem watchIdle_get (h : clearOf [F.FRM_INT_CAUSE_RA_JUST, F.FRM_RA_STAT_JUST, H.FRM_RA_RUN] g = true) :
    (Flw.watchIdle f n s).get g x y z = s.get g x y z := by
  refine Moves.get_misses ?_
  apply Flw_watchIdle_moves (h := .refl) <;> exact misses_of_clearOf h (by decide)

theorem watchIdle_out : s.out <:+ (Flw.watchIdle f n s).out :=
  (Flw_watchIdle_moves (W := fun _ => True) trivial trivial trivial f n .refl).out

theorem cfData_get (h : clearOf [H.FLW_ERR_NEXT, H.QDM_SLEEP_USED] g = true) : (cfData e f spend s).2.2.get g x y z = s.get g x y z := by
  have hm : Moves (Misses g) s (Flw.takeData f (cfShift f spend s) (s.on F.FRM_RA_STAT_JUST f) s).2.2 := by
    apply Flw_takeData_moves trivial (h := .refl) <;> exact misses_of_clearOf h (by decide)
  unfold cfData
  split
  · exact hm.get_misses
  · rfl

/-- What a flow that is served writes. -/
def servedFields : List Machine.Field := [H.FLW_DRR, H.FLW_DRR_LEFT, H.FLW_RR_PLAIN, H.FLW_RR_STRICT, H.FLW_TOK]

theorem served_get (h : clearOf servedFields g = true) : (Flw.served f spend s).get g x y z = s.get g x y z := by
  refine Moves.get_misses ?_
  apply Flw_served_moves (h := .refl) <;> exact misses_of_clearOf h (by decide)

/-- A token that is spent. -/
theorem served_token (hf : f < 3072) : (Flw.served f true s).get H.FLW_TOK f = s.get H.FLW_TOK f - Flw.token := by
  have hput : (s.put H.FLW_TOK (s.get H.FLW_TOK f - Flw.token) f).get H.FLW_TOK f = s.get H.FLW_TOK f - Flw.token :=
    get_put_lt (has_row rfl hf) (Nat.lt_of_le_of_lt (Nat.sub_le ..) (State_get_lt ..))
  rw [Flw.served, if_pos rfl]
  dsimp only
  split
  · rw [get_put_ne (by decide), hput]
  · rw [get_put_ne (by decide), hput]

/-- A flow sends its next frame: its SEQ advances, a token is spent, and the frame goes out. -/
theorem sendCf_shows (hf : f < 3072) : ∃ x : Cf, Emit.cf k (Cry.headerBytes x) x ∈ (Flw.sendCf f k spend s).out ∧
    x.type = Flw.cfType s f spend ∧ x.flow = Flw.lflow (Flw.entry s f) ∧ x.seq = s.get H.FLW_TX_SEQ f ∧
    (Flw.sendCf f k spend s).get H.FLW_TX_SEQ f = (s.get H.FLW_TX_SEQ f + 1) % 65536 ∧
    (spend = true → (Flw.sendCf f k spend s).get H.FLW_TOK f = s.get H.FLW_TOK f - Flw.token) := by
  obtain ⟨e, he⟩ : ∃ e, Flw.entry s f = e := ⟨_, rfl⟩
  obtain ⟨u, hu⟩ : ∃ u, lostCounted f s = u := ⟨_, rfl⟩
  obtain ⟨d, hd⟩ : ∃ d, cfData e f spend u = d := ⟨_, rfl⟩
  obtain ⟨t, ht⟩ : ∃ t, Flw.served f spend d.2.2 = t := ⟨_, rfl⟩
  obtain ⟨c, hc⟩ : ∃ c, cfFrame e f spend u d t = c := ⟨_, rfl⟩
  obtain ⟨v, hv⟩ : ∃ v, t.put H.FLW_TX_SEQ (c.seq + 1) f = v := ⟨_, rfl⟩
  have htype : Flw.cfType u f spend = Flw.cfType s f spend := hu ▸ cfType_congr (fun g hg _ _ => lostCounted_get
    ((by decide : ∀ g ∈ typeFields, clearOf [F.FLW_INT_CAUSE_SLEEP_DROP, F.FLW_SLEEP_DROP_COUNT, H.FLW_LOST_HELD] g = true) g hg))
    lostCounted_flw
  have hseq : t.get H.FLW_TX_SEQ f = s.get H.FLW_TX_SEQ f := by
    rw [← ht, served_get (by decide), ← hd, cfData_get (by decide), ← hu, lostCounted_get (by decide)]
  have hcseq : c.seq = s.get H.FLW_TX_SEQ f := by rw [← hseq, ← hc]; rfl
  obtain ⟨hktype, hkflow, hkseq⟩ := cfSealed_kept (e := e) (c := c) (s := v)
  rw [sendCf_eq he hu hd ht hc hv]
  refine ⟨(cfSealed e c v).1, watchIdle_out.subset putCf_mem, ?_, ?_, hkseq.trans hcseq, ?_, fun hspend => ?_⟩
  · rw [hktype, ← htype, ← hc]
    rfl
  · rw [hkflow, he, ← hc]
    rfl
  · rw [watchIdle_get (by decide), putCf_get, cfSealed_get (by decide), ← hv, State_get_put_same _ _ _ _ _ _ (has_row rfl hf), hcseq]
    rfl
  · subst hspend
    rw [watchIdle_get (by decide), putCf_get, cfSealed_get (by decide), ← hv, get_put_ne (by decide), ← ht, served_token hf, ← hd,
      cfData_get (by decide), ← hu, lostCounted_get (by decide)]

theorem sendCf_due : (Flw.sendCf f k spend s).get H.FRM_CF_DUE x = s.get H.FRM_CF_DUE x := by
  rw [sendCf_eq rfl rfl rfl rfl rfl rfl, watchIdle_get (by decide), putCf_get, cfSealed_get (by decide), get_put_ne (by decide),
    served_get (by decide), cfData_get (by decide), lostCounted_get (by decide)]

theorem cfSchedule_flow_runs (hon : s.on F.LTX_STAT_ACTIVE = true) (hawake : Rest.awake s = true) (hp : s.passive = false)
    (hcarries : Flw.carries s k = true) (hnone : Flw.startsNone s k = false) (hdue : s.get H.FRM_CF_DUE k ≠ 0)
    (hmgmt : (s.leaf && s.on H.FRM_MGMT_DUE && Flw.mgmtSubcarrier s == some k) = false) (hpicked : picked s k now = some (f, spend))
    (hf : f < 3072) :
    runs (.cfSchedule k now) s (fun t => t.get H.FRM_CF_DUE k = s.get H.FRM_CF_DUE k - 1 ∧
      t.get H.FLW_TX_SEQ f = (s.get H.FLW_TX_SEQ f + 1) % 65536 ∧
      (spend = true → t.get H.FLW_TOK f = (due s k now).get H.FLW_TOK f - Flw.token) ∧
      t.out.any (fun o => match o with
        | .cf i h x => i == k && h == Cry.headerBytes x && x.seq == s.get H.FLW_TX_SEQ f && x.flow == Flw.lflow (Flw.entry s f) &&
          x.type == Flw.cfType (due s k now) f spend
        | _ => false) = true) := by
  have hstarts : cfStarts s k := ⟨hon, hawake, hp, hcarries, hnone, hdue⟩
  have hsends := (schedule_flows hstarts hmgmt (now := now)).trans (congrArg (cfServed k · _) hpicked)
  have hentry : Flw.entry (due s k now) f = Flw.entry s f :=
    entry_congr fun _ _ => (due_get (by decide)).trans (cfTaken_get (by decide))
  have hseq : (due s k now).get H.FLW_TX_SEQ f = s.get H.FLW_TX_SEQ f := (due_get (by decide)).trans (cfTaken_get (by decide))
  obtain ⟨x, hmem, htype, hflow, hxseq, hnext, htok⟩ := sendCf_shows (s := due s k now) (k := k) (spend := spend) hf
  refine runs_shows ((execCfSchedule_awake hstarts).trans (congrArg (done s) hsends)) fun t h => ⟨?_, ?_, fun hspend => ?_,
    List.any_eq_true.mpr ⟨_, h.mem hmem, ?_⟩⟩
  · rw [h.get _ (by decide), cfServed, sendCf_due, due_get (by decide), cfTaken_due (lt_of_carries hcarries)]
  · rw [h.get _ (by decide), cfServed, hnext, hseq]
  · rw [h.get _ (by decide), cfServed, htok hspend]
  · simp [htype, hflow, hxseq, hentry, hseq]

/-- Settles O40, with one lemma for each command and case. The standby's commands (log 76), the row that ends training and names the failing
step (log 52) and the turn by pointer (log 53) are the model's choices. -/
theorem flowAndMemoryResults : Obligations.FlowAndMemoryResults := by
  unfold Obligations.FlowAndMemoryResults
  exact ⟨fun s f w => flowRead_runs, fun s f => flowWrite_runs, fun s f => flowWrite_refused_runs, fun s f => flowWrite_busy_runs,
    fun s f => flowRemove_busy_runs, fun s f => flowRead_busy_runs, fun s f => flowRemove_runs, fun s f => flowRemove_passive_runs,
    fun s f => flowWrite_passive_runs, fun s f => flowRead_passive_runs, fun s now w => flowCmdApply_write_runs,
    fun s now w => flowCmdApply_remove_runs, fun s k now => cfSchedule_idle_runs, fun s k now f spend => cfSchedule_flow_runs,
    fun s k now => cfSchedule_mgmt_runs, fun s f now => tokenCap_runs, fun s c vlan slot bad data f => clientIngress_fits_runs,
    fun s c vlan slot bad data f => clientIngress_over_runs, fun s p => qdmEnable_runs, fun s => qdmEnable_clock_runs,
    fun s => qdmEnable_regions_runs, fun s p step => qdrTrainDone_ok_runs, fun s p step => qdrTrainDone_failed_runs,
    fun s p => qdrRetrain_runs, fun s p moves j => qdrRecentre_runs, fun s p addr f => qdrParityError_runs,
    fun s p => addrParityError_runs, fun s p => qdrPortFail_runs⟩

end Sys2Proof.Proofs

/-! SUPPORT. The commands of the host serial lanes where their conditions hold (O39; R179 to R185). -/
namespace Sys2Proof.Proofs
open Sys2Proof Sys2Proof.Machine Sys2Proof.Laws

variable {s t u : State} {cmd : Instr} {p : State → Prop} {f g : Machine.Field} {c comp flexo hold i id j k m meas ms n : Nat}
  {dword : Nat → Nat} {event : Nat → State → State}

/-! ### Completions -/

def squelchFields : List Machine.Field := [F.HSL_INT_CAUSE_RCLK_SQ, F.HSL_RCLK_SEL_SQUELCHED]

theorem squelch_get (h : clearOf squelchFields g = true) : (Hsl.squelch s).get g i j k = s.get g i j k :=
  (Hsl_squelch_moves (misses_of_clearOf h (by decide)) (misses_of_clearOf h (by decide)) .refl).get_misses

theorem squelch_out (s : State) : s.out <:+ (Hsl.squelch s).out :=
  (Hsl_squelch_moves (W := fun _ => True) trivial trivial .refl).out

theorem noted_out (s : State) : s.out <:+ (Tick.noted s).out := by
  refine Moves.out (W := fun _ => True) ?_
  apply Tick_noted_moves (h := .refl) <;> trivial

/-- What follows a change of the lanes and clients: the count of the access, the note of FRM (R160), the squelch of the recovered clocks
(R187). -/
def linkFollows : List Machine.Field := counters ++ notedFields ++ squelchFields

/-- `t` shows what `u` shows of the lanes and clients; what `u` has put out is still put out. -/
structure LinkShows (u t : State) : Prop where
  get : ∀ g : Machine.Field, clearOf linkFollows g = true → ∀ i, t.get g i = u.get g i
  out : u.out <:+ t.out

theorem LinkShows.on (h : LinkShows u t) (g : Machine.Field) (hg : clearOf linkFollows g = true) : t.on g i = u.on g i :=
  on_congr (h.get g hg i)

theorem LinkShows.state (h : LinkShows u t) : Hsl.state t c = Hsl.state u c := h.get _ (by decide) c

theorem clearOf_linkFollows (h : clearOf linkFollows g = true) :
    uncounted g = true ∧ clearOf notedFields g = true ∧ clearOf squelchFields g = true := by
  simpa [clearOf, linkFollows, uncounted, and_assoc] using h

theorem linkShows_of_shows (h : Shows u t) : LinkShows u t := ⟨fun g hg i => h.get g (clearOf_linkFollows hg).1 i 0 0, h.out⟩

theorem LinkShows.of_noted (h : LinkShows (Tick.noted u) t) : LinkShows u t :=
  ⟨fun g hg i => (h.get g hg i).trans (noted_get (clearOf_linkFollows hg).2.1), (noted_out u).trans h.out⟩

theorem LinkShows.of_squelch (h : LinkShows (Hsl.squelch u) t) : LinkShows u t :=
  ⟨fun g hg i => (h.get g hg i).trans (squelch_get (clearOf_linkFollows hg).2.2), (squelch_out u).trans h.out⟩

/-- An event of a client completes with what its operation leaves. -/
theorem runs_link (e : exec cmd s = done s (Tick.noted u)) (hp : ∀ t, LinkShows u t → p t) : runs cmd s p :=
  runs_shows e fun t h => hp t (linkShows_of_shows h).of_noted

/-- So does an event of a lane, with what its client makes of it. -/
theorem runs_onLane (e : exec cmd s = done s (Tick.noted (Hsl.onLane n event s))) (hcl : Hsl.clientOf s n = some c)
    (hp : ∀ t, LinkShows (event c s) t → p t) : runs cmd s p := by
  have hlane : Hsl.onLane n event s = Hsl.squelch (event c s) := by rw [Hsl.onLane, hcl]
  exact runs_link e fun t h => hp t (hlane ▸ h).of_squelch

/-- So does a write of CLI_CFG. -/
theorem runs_cliCfg {op : State → State}
    (e : exec cmd s = done s (Bus.row Bus.host .HSL_CLI_CFG c 0 dword (fun t => Tick.noted (op t)) s)) (ht : takes .HSL_CLI_CFG s = true)
    (hc : c < 32) (hp : ∀ t, LinkShows (op s) t → p t) : runs cmd s p := by
  have hrow : RegId.HSL_CLI_CFG.shape.has c 0 0 = true := has_row (f := F.HSL_CLI_CFG_EN) rfl hc
  have hshows := shows_row (dword := dword) (eff := fun t => Tick.noted (op t)) ht hrow (by decide)
  exact runs_done e (hp _ (linkShows_of_shows (shows_settle hshows)).of_noted)

theorem lt_of_clientOf (h : Hsl.clientOf s n = some c) : c < 32 := List.mem_range.mp (List.mem_of_find?_eq_some h)

/-! ### Link states (R179, Table HSL-3) -/

def moveFields : List Machine.Field := [F.HSL_CLI_STAT_STATE, F.HSL_INT_CAUSE_CLI_DOWN, F.HSL_INT_CAUSE_CLI_UP]

theorem move_get (h : clearOf moveFields g = true) : (Hsl.move c n s).get g i j k = s.get g i j k :=
  (Hsl_move_moves (misses_of_clearOf h (by decide)) (misses_of_clearOf h (by decide)) (misses_of_clearOf h (by decide)) c n
    .refl).get_misses

theorem move_on (h : clearOf moveFields g = true) : (Hsl.move c n s).on g i j k = s.on g i j k := on_congr (move_get h)

theorem move_state (hc : c < 32) (hn : n < 8) : Hsl.state (Hsl.move c n s) c = n := by
  have hput : (s.put F.HSL_CLI_STAT_STATE n c).get F.HSL_CLI_STAT_STATE c = n := get_put_lt (has_row rfl hc) hn
  unfold Hsl.move Hsl.state
  dsimp only
  split_ifs
  · rw [get_set_ne (by decide), hput]
  · rw [get_set_ne (by decide), hput]
  · exact hput

/-- Entering UP sets CLI_UP. -/
theorem move_enters_up (h : Hsl.state s c ≠ 6) : (Hsl.move c 6 s).on F.HSL_INT_CAUSE_CLI_UP = true := by
  rw [Hsl.move, if_pos ⟨h, rfl⟩, on_set (by decide) (by decide)]

/-- Leaving UP sets CLI_DOWN. -/
theorem move_leaves_up (h : Hsl.state s c = 6) (hn : n ≠ 6) : (Hsl.move c n s).on F.HSL_INT_CAUSE_CLI_DOWN = true := by
  rw [Hsl.move, if_neg fun hup => hup.1 h, if_pos ⟨h, hn⟩, on_set (by decide) (by decide)]

theorem fall_get (h : clearOf moveFields g = true) : (Hsl.fall c n s).get g i j k = s.get g i j k := by
  unfold Hsl.fall
  split
  · exact move_get h
  · rfl

theorem fall_on (h : clearOf moveFields g = true) : (Hsl.fall c n s).on g i j k = s.on g i j k := on_congr (fall_get h)

theorem fall_state (hc : c < 32) (hn : n < 8) (h : n < Hsl.state s c) : Hsl.state (Hsl.fall c n s) c = n := by
  rw [Hsl.fall, if_pos h, move_state hc hn]

def climbFields : List Machine.Field :=
  moveFields ++ [F.HSL_CLI_STAT_ORDER, F.HSL_CLI_STAT_TX_REV, H.HSL_HOLD_USED, H.HSL_REV_USED]

theorem climb_get (h : clearOf climbFields g = true) : (Hsl.climb c s).get g i j k = s.get g i j k := by
  refine Moves.get_misses ?_
  apply Hsl_climb_moves (h := .refl) <;> exact misses_of_clearOf h (by decide)

theorem climb_on (h : clearOf climbFields g = true) : (Hsl.climb c s).on g i j k = s.on g i j k := on_congr (climb_get h)

/-- One step of the climb: the client leaves state n by `up` where all its lanes have what the flag shows. -/
def climbStep (c n : Nat) (f : Machine.Field) (up : State → State) (s : State) : State :=
  if Hsl.state s c = n ∧ (Hsl.lanes s c).all (fun m => s.on f m) then up s else s

theorem climb_eq : Hsl.climb c s = climbStep c 3 F.HSL_LANE_STAT_AM_LOCK (Hsl.order c)
    (climbStep c 2 F.HSL_LANE_STAT_CDR_LOCK (Hsl.move c 3) (climbStep c 1 F.HSL_LANE_STAT_SIG (Hsl.move c 2) s)) := rfl

/-- A step of the climb does not lead below a state that both its origin and its goal have reached. -/
theorem climbStep_state_ge {up : State → State} (hup : m ≤ Hsl.state (up s) c) (h : m ≤ Hsl.state s c) :
    m ≤ Hsl.state (climbStep c n f up s) c := by
  unfold climbStep
  split
  · exact hup
  · exact h

/-- A client whose lanes all have a signal leaves SIGNAL. -/
theorem climb_leaves_signal (hc : c < 32) (hstate : Hsl.state s c = 1)
    (hsig : (Hsl.lanes s c).all (fun m => s.on F.HSL_LANE_STAT_SIG m) = true) : 2 ≤ Hsl.state (Hsl.climb c s) c := by
  have hcdr : Hsl.state (climbStep c 1 F.HSL_LANE_STAT_SIG (Hsl.move c 2) s) c = 2 := by
    rw [climbStep, if_pos ⟨hstate, hsig⟩, move_state hc (by decide)]
  have horder (u : State) : Hsl.state (Hsl.order c u) c = 5 := move_state hc (by decide)
  rw [climb_eq]
  refine climbStep_state_ge (by rw [horder]; decide) (climbStep_state_ge ?_ hcdr.ge)
  rw [move_state hc (by decide)]
  decide

/-! ### What a lane gains (R179, R180) -/

theorem on_set_of_on (h : s.on f m = true) (hf : Field.plain f = true) (hn : f.shape.has n 0 0 = true) (hw : 0 < f.width) :
    (s.set f n).on f m = true := by
  rcases eq_or_ne n m with rfl | hne
  · exact on_set hn hw
  · exact (on_congr (get_put_other hf hne.symm)).trans h

theorem lanes_congr (h : ∀ g ∈ [F.HSL_CLI_CFG_TYPE, F.HSL_CLI_CFG_FIRST_LANE, F.HSL_CLI_CFG_M_M1], t.get g c = s.get g c) :
    Hsl.lanes t c = Hsl.lanes s c := by
  unfold Hsl.lanes Hsl.width Hsl.typeOf
  rw [h F.HSL_CLI_CFG_TYPE (by decide), h F.HSL_CLI_CFG_FIRST_LANE (by decide), h F.HSL_CLI_CFG_M_M1 (by decide)]

/-- Once lane n has a signal, all lanes of a client have one of which only lane n had none. -/
theorem signal_completes (hn : n < 32) (h : (Hsl.lanes s c).all (fun m => m == n || s.on F.HSL_LANE_STAT_SIG m) = true) :
    (Hsl.lanes (s.set F.HSL_LANE_STAT_SIG n) c).all (fun m => (s.set F.HSL_LANE_STAT_SIG n).on F.HSL_LANE_STAT_SIG m) = true := by
  have hlanes : Hsl.lanes (s.set F.HSL_LANE_STAT_SIG n) c = Hsl.lanes s c := lanes_congr fun g hg =>
    get_set_ne ((by decide : ∀ g ∈ [F.HSL_CLI_CFG_TYPE, F.HSL_CLI_CFG_FIRST_LANE, F.HSL_CLI_CFG_M_M1],
      apart F.HSL_LANE_STAT_SIG g = true) g hg)
  rw [hlanes, List.all_eq_true]
  intro m hm
  rcases (Bool.or_eq_true _ _).mp (List.all_eq_true.mp h m hm) with hmn | hon
  · rw [eq_of_beq hmn, on_set (has_row rfl hn) (by decide)]
  · exact on_set_of_on hon (by decide) (has_row rfl hn) (by decide)

theorem signalDetect_runs (hn : n < 32) (hcl : Hsl.clientOf s n = some c) :
    runs (.signalDetect n) s (fun t => t.on F.HSL_LANE_STAT_SIG n = true ∧ (Hsl.state s c = 1 ∧
      (Hsl.lanes s c).all (fun m => m == n || s.on F.HSL_LANE_STAT_SIG m) = true → 2 ≤ Hsl.state t c)) := by
  refine runs_onLane rfl hcl fun t h => ⟨?_, fun ⟨hstate, hsig⟩ => ?_⟩
  · rw [h.on _ (by decide), climb_on (by decide), on_set (has_row rfl hn) (by decide)]
  · rw [h.state]
    exact climb_leaves_signal (lt_of_clientOf hcl) ((get_set_ne (by decide)).trans hstate) (signal_completes hn hsig)

theorem cdrLock_runs (hn : n < 32) (hcl : Hsl.clientOf s n = some c) (hsig : s.on F.HSL_LANE_STAT_SIG n = true)
    (hstate : 2 ≤ Hsl.state s c) : runs (.cdrLock n) s (fun t => t.on F.HSL_LANE_STAT_CDR_LOCK n = true) := by
  refine runs_onLane rfl hcl fun t h => ?_
  rw [h.on _ (by decide), if_pos (by simp [hsig, hstate]), climb_on (by decide), on_set (has_row rfl hn) (by decide)]

theorem laneLock_runs (hn : n < 32) (hcl : Hsl.clientOf s n = some c) (hcdr : s.on F.HSL_LANE_STAT_CDR_LOCK n = true)
    (hstate : 3 ≤ Hsl.state s c)
    (hpol : s.on F.HSL_LANE_CFG_POL_AUTO n = true ∨ min 1 comp = s.get F.HSL_LANE_CFG_RX_INV_FORCE n) :
    runs (.laneLock n comp id) s (fun t => t.on F.HSL_LANE_STAT_AM_LOCK n = true ∧ t.get F.HSL_LANE_STAT_RX_INV n = min 1 comp ∧
      t.get F.HSL_LANE_STAT_LANE_ID n = id % 256) := by
  have hinv : (if s.on F.HSL_LANE_CFG_POL_AUTO n = true then min 1 comp else s.get F.HSL_LANE_CFG_RX_INV_FORCE n) = min 1 comp := by
    split
    · rfl
    · exact (hpol.resolve_left ‹_›).symm
  refine runs_onLane rfl hcl fun t h => ?_
  rw [h.on _ (by decide), h.get _ (by decide), h.get _ (by decide)]
  dsimp only
  rw [hinv, if_pos (by simp [hcdr, hstate]), climb_on (by decide), climb_get (by decide), climb_get (by decide)]
  refine ⟨?_, ?_, State_get_put_same _ _ _ _ _ _ (has_row rfl hn)⟩
  · rw [on_put_ne (by decide), on_put_ne (by decide), on_set (has_row rfl hn) (by decide)]
  · rw [get_put_ne (by decide), get_put_lt (has_row rfl hn) (Nat.lt_succ_of_le (Nat.min_le_left 1 comp))]

/-! ### What a lane loses (R179) -/

theorem loseCdr_get (h : clearOf [F.HSL_LANE_STAT_AM_LOCK, F.HSL_LANE_STAT_CDR_LOCK] g = true) :
    (Hsl.loseCdr n s).get g i j k = s.get g i j k :=
  (Hsl_loseCdr_moves (misses_of_clearOf h (by decide)) (misses_of_clearOf h (by decide)) n .refl).get_misses

theorem loseCdr_locks :
    (Hsl.loseCdr n s).on F.HSL_LANE_STAT_CDR_LOCK n = false ∧ (Hsl.loseCdr n s).on F.HSL_LANE_STAT_AM_LOCK n = false :=
  ⟨(on_clr_ne (by decide)).trans on_clr, on_clr⟩

theorem lockLost_counted (hn : n < 32) :
    (s.count F.HSL_LANE_STAT_LOCK_LOST 1 n).get F.HSL_LANE_STAT_LOCK_LOST n = min 255 (s.get F.HSL_LANE_STAT_LOCK_LOST n + 1) :=
  get_count (has_row rfl hn)

/-- The lane's lost lock on the clock is counted, where it had one. -/
def cdrLossCounted (n : Nat) (s : State) : State :=
  if s.on F.HSL_LANE_STAT_CDR_LOCK n then s.count F.HSL_LANE_STAT_LOCK_LOST 1 n else s

theorem cdrLossCounted_get (h : apart F.HSL_LANE_STAT_LOCK_LOST g = true) : (cdrLossCounted n s).get g i j k = s.get g i j k := by
  unfold cdrLossCounted
  split
  · exact get_count_ne h
  · rfl

theorem signalLoss_runs (hn : n < 32) (hcl : Hsl.clientOf s n = some c) :
    runs (.signalLoss n) s (fun t => t.on F.HSL_LANE_STAT_SIG n = false ∧ t.on F.HSL_LANE_STAT_CDR_LOCK n = false ∧
      t.on F.HSL_LANE_STAT_AM_LOCK n = false ∧
      (s.on F.HSL_LANE_STAT_CDR_LOCK n = true → t.get F.HSL_LANE_STAT_LOCK_LOST n = min 255 (s.get F.HSL_LANE_STAT_LOCK_LOST n + 1)) ∧
      (1 < Hsl.state s c → Hsl.state t c = 1)) := by
  obtain ⟨hcdr, ham⟩ := loseCdr_locks (n := n) (s := (cdrLossCounted n s).clr F.HSL_LANE_STAT_SIG n)
  refine runs_onLane rfl hcl fun t h => ?_
  change LinkShows (Hsl.fall c 1 (Hsl.loseCdr n ((cdrLossCounted n s).clr F.HSL_LANE_STAT_SIG n))) t at h
  refine ⟨?_, ?_, ?_, fun hlock => ?_, fun hstate => ?_⟩
  · rw [h.on _ (by decide), fall_on (by decide), on_congr (loseCdr_get (by decide)), on_clr]
  · rw [h.on _ (by decide), fall_on (by decide), hcdr]
  · rw [h.on _ (by decide), fall_on (by decide), ham]
  · rw [h.get _ (by decide), fall_get (by decide), loseCdr_get (by decide), get_clr_ne (by decide), cdrLossCounted, if_pos hlock,
      lockLost_counted hn]
  · rw [h.state, fall_state (lt_of_clientOf hcl) (by decide)]
    rwa [Hsl.state, loseCdr_get (by decide), get_clr_ne (by decide), cdrLossCounted_get (by decide)]

theorem cdrLoss_runs (hn : n < 32) (hcl : Hsl.clientOf s n = some c) (hlock : s.on F.HSL_LANE_STAT_CDR_LOCK n = true) :
    runs (.cdrLoss n) s (fun t => t.on F.HSL_LANE_STAT_CDR_LOCK n = false ∧ t.on F.HSL_LANE_STAT_AM_LOCK n = false ∧
      t.get F.HSL_LANE_STAT_LOCK_LOST n = min 255 (s.get F.HSL_LANE_STAT_LOCK_LOST n + 1) ∧
      (2 < Hsl.state s c → Hsl.state t c = 2)) := by
  obtain ⟨hcdr, ham⟩ := loseCdr_locks (n := n) (s := s.count F.HSL_LANE_STAT_LOCK_LOST 1 n)
  refine runs_onLane rfl hcl fun t h => ?_
  rw [if_pos hlock] at h
  refine ⟨?_, ?_, ?_, fun hstate => ?_⟩
  · rw [h.on _ (by decide), fall_on (by decide), hcdr]
  · rw [h.on _ (by decide), fall_on (by decide), ham]
  · rw [h.get _ (by decide), fall_get (by decide), loseCdr_get (by decide), lockLost_counted hn]
  · rw [h.state, fall_state (lt_of_clientOf hcl) (by decide)]
    rwa [Hsl.state, loseCdr_get (by decide), get_count_ne (by decide)]

theorem markerLockLoss_runs (hn : n < 32) (hcl : Hsl.clientOf s n = some c) (hlock : s.on F.HSL_LANE_STAT_AM_LOCK n = true) :
    runs (.markerLockLoss n) s (fun t => t.on F.HSL_LANE_STAT_AM_LOCK n = false ∧
      t.get F.HSL_LANE_STAT_LOCK_LOST n = min 255 (s.get F.HSL_LANE_STAT_LOCK_LOST n + 1) ∧
      (3 < Hsl.state s c → Hsl.state t c = 3)) := by
  refine runs_onLane rfl hcl fun t h => ?_
  rw [if_pos hlock, Hsl.loseMarkers] at h
  refine ⟨?_, ?_, fun hstate => ?_⟩
  · rw [h.on _ (by decide), fall_on (by decide), on_clr]
  · rw [h.get _ (by decide), fall_get (by decide), get_clr_ne (by decide), lockLost_counted hn]
  · rw [h.state, fall_state (lt_of_clientOf hcl) (by decide)]
    rwa [Hsl.state, get_clr_ne (by decide), get_count_ne (by decide)]

/-! ### Lane order and deskew (R181, R182) -/

theorem egressOrderChange_runs (hc : c < 32) :
    runs (.egressOrderChange c) s (fun t => t.get H.HSL_EGRESS_REV c = s.get F.HSL_CLI_STAT_TX_REV c ∧
      (s.get H.HSL_EGRESS_REV c ≠ s.get F.HSL_CLI_STAT_TX_REV c → t.on F.HSL_INT_CAUSE_ORDER_CHG = true)) := by
  refine runs_shows (u := Hsl.egressOrder c s) rfl fun t h => ?_
  rw [h.get _ (by decide), h.on _ (by decide), Hsl.egressOrder]
  split
  · exact ⟨‹_›, fun hne => absurd ‹_› hne⟩
  · refine ⟨?_, fun _ => on_set (by decide) (by decide)⟩
    rw [get_set_ne (by decide), get_put_get (has_row rfl hc) (by decide)]

/-- The client's skew is shown, and compared with the hold in use. -/
def skewShown (c meas hold : Nat) (s : State) : State :=
  let exceeds := hold != 0 && decide (hold < meas)
  let t := (s.put F.HSL_CLI_DSK_MEAS (min meas 2047) c).put F.HSL_CLI_STAT_DSK_OVER (b01 exceeds) c
  if exceeds then t.set F.HSL_INT_CAUSE_DSK_OVER else t

theorem skewShown_get (h : clearOf [F.HSL_CLI_STAT_DSK_OVER, F.HSL_INT_CAUSE_DSK_OVER] g = true) :
    (skewShown c meas hold s).get g i = (s.put F.HSL_CLI_DSK_MEAS (min meas 2047) c).get g i := by
  unfold skewShown
  dsimp only
  split
  · rw [get_set_ne (misses_of_clearOf h (by decide)), get_put_ne (misses_of_clearOf h (by decide))]
  · rw [get_put_ne (misses_of_clearOf h (by decide))]

theorem skewShown_meas (hc : c < 32) : (skewShown c meas hold s).get F.HSL_CLI_DSK_MEAS c = min meas 2047 := by
  rw [skewShown_get (by decide), get_put_lt (has_row rfl hc) (Nat.lt_succ_of_le (Nat.min_le_right meas 2047))]

theorem skewShown_state : Hsl.state (skewShown c meas hold s) i = Hsl.state s i := by
  rw [Hsl.state, skewShown_get (by decide), get_put_ne (by decide), Hsl.state]

theorem deskew_eq (h : Hsl.state s c = 5) : Hsl.deskew c meas s =
    if 1800 < meas then ((skewShown c meas (s.get H.HSL_HOLD_USED c) s).set F.HSL_CLI_STAT_DSK_RANGE c).set F.HSL_INT_CAUSE_DSK_RANGE
    else Hsl.move c 6 (((skewShown c meas (s.get H.HSL_HOLD_USED c) s).clr F.HSL_CLI_STAT_DSK_RANGE c).put F.HSL_CLI_DSK_APPLIED
      (max meas (s.get H.HSL_HOLD_USED c)) c) := by
  rw [Hsl.deskew, if_neg (not_not.mpr h)]
  dsimp only
  rw [get_put_ne (by decide)]
  rfl

theorem deskew_within (hc : c < 32) (h : Hsl.state s c = 5) (hm : meas ≤ 1800) :
    Hsl.state (Hsl.deskew c meas s) c = 6 ∧ (Hsl.deskew c meas s).get F.HSL_CLI_DSK_APPLIED c = max meas (s.get H.HSL_HOLD_USED c) ∧
      (Hsl.deskew c meas s).on F.HSL_INT_CAUSE_CLI_UP = true ∧ (Hsl.deskew c meas s).get F.HSL_CLI_DSK_MEAS c = min meas 2047 := by
  have hhold : s.get H.HSL_HOLD_USED c < 2 ^ 11 := State_get_lt ..
  rw [deskew_eq h, if_neg (Nat.not_lt.mpr hm)]
  refine ⟨move_state hc (by decide), ?_, move_enters_up ?_, ?_⟩
  · rw [move_get (by decide), get_put_lt (has_row rfl hc) (max_lt (Nat.lt_of_le_of_lt hm (by decide)) hhold)]
  · rw [Hsl.state, get_put_ne (by decide), get_clr_ne (by decide), ← Hsl.state, skewShown_state, h]
    decide
  · rw [move_get (by decide), get_put_ne (by decide), get_clr_ne (by decide), skewShown_meas hc]

theorem deskew_beyond (hc : c < 32) (h : Hsl.state s c = 5) (hm : 1800 < meas) :
    Hsl.state (Hsl.deskew c meas s) c = 5 ∧ (Hsl.deskew c meas s).on F.HSL_CLI_STAT_DSK_RANGE c = true ∧
      (Hsl.deskew c meas s).on F.HSL_INT_CAUSE_DSK_RANGE = true ∧ (Hsl.deskew c meas s).get F.HSL_CLI_DSK_MEAS c = min meas 2047 := by
  rw [deskew_eq h, if_pos hm]
  refine ⟨?_, ?_, on_set (by decide) (by decide), ?_⟩
  · rw [Hsl.state, get_set_ne (by decide), get_set_ne (by decide), ← Hsl.state, skewShown_state, h]
  · rw [on_set_ne (by decide), on_set (has_row rfl hc) (by decide)]
  · rw [get_set_ne (by decide), get_set_ne (by decide), skewShown_meas hc]

/-- The identifier that a FlexO client shows is all that the measurement adds to the deskew. -/
theorem tickDeskew_eq : ∃ u, Tick.deskew c meas flexo s = Tick.noted (Hsl.deskew c meas u) ∧
    ∀ g : Machine.Field, apart F.HSL_CLI_STAT_FLEXO_ID g = true → ∀ i, u.get g i = s.get g i := by
  refine ⟨_, rfl, fun g hg i => ?_⟩
  split
  · exact get_put_ne hg
  · rfl

theorem deskewMeasure_runs (hc : c < 32) (hstate : Hsl.state s c = 5) :
    runs (.deskewMeasure c meas flexo) s (fun t => t.get F.HSL_CLI_DSK_MEAS c = min meas 2047 ∧
      (meas ≤ 1800 → Hsl.state t c = 6 ∧ t.get F.HSL_CLI_DSK_APPLIED c = max meas (s.get H.HSL_HOLD_USED c) ∧
        t.on F.HSL_INT_CAUSE_CLI_UP = true) ∧
      (1800 < meas → Hsl.state t c = 5 ∧ t.on F.HSL_CLI_STAT_DSK_RANGE c = true ∧ t.on F.HSL_INT_CAUSE_DSK_RANGE = true)) := by
  obtain ⟨u, heq, hget⟩ := tickDeskew_eq (c := c) (meas := meas) (flexo := flexo) (s := s)
  have hu : Hsl.state u c = 5 := (hget _ (by decide) c).trans hstate
  refine runs_link (u := Hsl.deskew c meas u) (congrArg (done s) heq) fun t h => ?_
  rw [h.state, h.get F.HSL_CLI_DSK_MEAS (by decide), h.get F.HSL_CLI_DSK_APPLIED (by decide), h.on F.HSL_INT_CAUSE_CLI_UP (by decide),
    h.on F.HSL_CLI_STAT_DSK_RANGE (by decide), h.on F.HSL_INT_CAUSE_DSK_RANGE (by decide), ← hget H.HSL_HOLD_USED (by decide)]
  rcases Nat.lt_or_ge 1800 meas with hm | hm
  · obtain ⟨hst, hrange, hcause, hmeas⟩ := deskew_beyond hc hu hm
    exact ⟨hmeas, fun hle => absurd hm (Nat.not_lt.mpr hle), fun _ => ⟨hst, hrange, hcause⟩⟩
  · obtain ⟨hst, happlied, hup, hmeas⟩ := deskew_within hc hu hm
    exact ⟨hmeas, fun _ => ⟨hst, happlied, hup⟩, fun hlt => absurd hlt (Nat.not_lt.mpr hm)⟩

/-! ### LINK_TMO (R183) -/

theorem eachOf_loseCdr_get {l : List Nat} (h : clearOf [F.HSL_LANE_STAT_AM_LOCK, F.HSL_LANE_STAT_CDR_LOCK] g = true) :
    (s.eachOf l Hsl.loseCdr).get g i = s.get g i :=
  eachOf_keeps (obs := fun t => t.get g i) (fun _ _ _ => loseCdr_get h) s

/-- A timeout in SIGNAL is counted alone; past SIGNAL the client returns to CDR and its lanes lose their locks. -/
theorem linkTimeout_eq (hoff : Hsl.state s c ≠ 0) (hup : Hsl.state s c ≠ 6) (hms : max 1 (s.get F.HSL_LINK_CFG_LINK_TMO) ≤ ms)
    (hu : s.count F.HSL_CLI_STAT_RETRY 1 c = u) :
    Hsl.linkTimeout c ms s =
      if Hsl.state s c = 1 then u else Hsl.squelch (Hsl.move c 2 (u.eachOf (Hsl.lanes u c) Hsl.loseCdr)) := by
  have hstate : Hsl.state u c = Hsl.state s c := hu ▸ get_count_ne (by decide)
  rw [← hstate, ← hu]
  exact if_neg (by simp [hoff, hup, Nat.not_lt.mpr hms])

theorem linkTmo_runs (hc : c < 32) (hoff : Hsl.state s c ≠ 0) (hup : Hsl.state s c ≠ 6)
    (hms : max 1 (s.get F.HSL_LINK_CFG_LINK_TMO) ≤ ms) :
    runs (.linkTmo c ms) s (fun t => t.get F.HSL_CLI_STAT_RETRY c = min 255 (s.get F.HSL_CLI_STAT_RETRY c + 1) ∧
      (2 ≤ Hsl.state s c → Hsl.state t c = 2)) := by
  have hretry : (s.count F.HSL_CLI_STAT_RETRY 1 c).get F.HSL_CLI_STAT_RETRY c = min 255 (s.get F.HSL_CLI_STAT_RETRY c + 1) :=
    get_count (has_row rfl hc)
  refine runs_link (congrArg (fun u => done s (Tick.noted u)) (linkTimeout_eq hoff hup hms rfl)) fun t h => ?_
  split at h
  · exact ⟨(h.get _ (by decide) c).trans hretry, fun hpast => by omega⟩
  · have hcdr := h.of_squelch
    refine ⟨?_, fun _ => hcdr.state.trans (move_state hc (by decide))⟩
    rw [hcdr.get _ (by decide), move_get (by decide), eachOf_loseCdr_get (by decide), hretry]

/-! ### Enabling and disabling (R184, R185) -/

theorem hslCheck_lt (s : State) (c : Nat) : Hsl.check s c < 8 := by
  unfold Hsl.check
  dsimp only
  split_ifs <;> decide

def startFields : List Machine.Field := [F.HSL_CLI_STAT_TX_REV, H.HSL_EGRESS_REV, H.HSL_REV_USED]

theorem startOrder_get (h : clearOf startFields g = true) : (Hsl.startOrder c s).get g i j k = s.get g i j k :=
  (Hsl_startOrder_moves (misses_of_clearOf h (by decide)) (misses_of_clearOf h (by decide)) (misses_of_clearOf h (by decide)) c
    .refl).get_misses

/-- The machine as a client begins to be enabled, before its egress sends. -/
def cliStarted (c : Nat) (s : State) : State := Hsl.startOrder c ((s.set F.HSL_CLI_CFG_EN c).clr F.HSL_CLI_STAT_CFG_STEP c)

theorem cliStarted_replacement : Hsl.replacement (cliStarted c s) c = Hsl.replacement s c := by
  unfold Hsl.replacement Hsl.typeOf cliStarted
  rw [startOrder_get (by decide), get_clr_ne (by decide), get_set_ne (by decide)]

theorem replace_get (h : apart H.HSL_OUT g = true) : (Hsl.replace c s).get g i j k = s.get g i j k := get_put_ne h

theorem replace_sends : Emit.egress c (Hsl.replacement s c) ∈ (Hsl.replace c s).out := List.mem_cons_self ..

/-- A disabled client that may stand where it does is judged by its checks. -/
theorem hslEnable_eq (hen : Hsl.enabled s c = false) (hgrp : s.leaf = false ∨ s.get F.HSL_CLI_CFG_FIRST_LANE c < 8) :
    Hsl.enable c s = if Hsl.check s c = 0 then Hsl.squelch (Hsl.move c 1 (Hsl.replace c (cliStarted c s)))
      else (s.set F.HSL_INT_CAUSE_CFG_ERR).put F.HSL_CLI_STAT_CFG_STEP (Hsl.check s c) c := by
  have hmay : ¬(s.leaf && decide (8 ≤ s.get F.HSL_CLI_CFG_FIRST_LANE c)) = true := by
    simpa [or_iff_not_imp_left] using hgrp
  rw [Hsl.enable, if_neg (by simp [hen]), if_neg hmay]
  rfl

theorem cliEnable_runs (ht : takes .HSL_CLI_CFG s = true) (hc : c < 32) (hen : Hsl.enabled s c = false)
    (hgrp : s.leaf = false ∨ s.get F.HSL_CLI_CFG_FIRST_LANE c < 8) (hchk : Hsl.check s c = 0) :
    runs (.cliEnable c) s (fun t => t.on F.HSL_CLI_CFG_EN c = true ∧ t.get F.HSL_CLI_STAT_STATE c = 1 ∧
      t.get F.HSL_CLI_STAT_CFG_STEP c = 0 ∧ t.get H.HSL_OUT c = 1 ∧ Emit.egress c (Hsl.replacement s c) ∈ t.out) := by
  refine runs_cliCfg rfl ht hc fun t h => ?_
  rw [hslEnable_eq hen hgrp, if_pos hchk] at h
  have hmoved := h.of_squelch
  have hsent : (Hsl.replace c (cliStarted c s)).out <:+ t.out :=
    ((Hsl_move_moves (W := fun _ => True) trivial trivial trivial c 1 .refl).out).trans hmoved.out
  refine ⟨?_, hmoved.state.trans (move_state hc (by decide)), ?_, ?_, hsent.subset (cliStarted_replacement ▸ replace_sends)⟩
  · rw [hmoved.on _ (by decide), move_on (by decide), on_congr (replace_get (by decide)), cliStarted,
      on_congr (startOrder_get (by decide)), on_clr_ne (by decide), on_set (has_row rfl hc) (by decide)]
  · rw [hmoved.get _ (by decide), move_get (by decide), replace_get (by decide), cliStarted, startOrder_get (by decide), get_clr]
  · rw [hmoved.get _ (by decide), move_get (by decide)]
    exact get_put_lt (has_row rfl hc) (by decide)

theorem cliEnable_checked_runs (ht : takes .HSL_CLI_CFG s = true) (hc : c < 32) (hen : Hsl.enabled s c = false)
    (hgrp : s.leaf = false ∨ s.get F.HSL_CLI_CFG_FIRST_LANE c < 8) (hchk : Hsl.check s c ≠ 0) :
    runs (.cliEnable c) s (fun t => t.on F.HSL_CLI_CFG_EN c = false ∧ t.get F.HSL_CLI_STAT_CFG_STEP c = Hsl.check s c ∧
      t.on F.HSL_INT_CAUSE_CFG_ERR = true) := by
  refine runs_cliCfg rfl ht hc fun t h => ?_
  rw [hslEnable_eq hen hgrp, if_neg hchk] at h
  refine ⟨?_, ?_, ?_⟩
  · rw [h.on _ (by decide), on_put_ne (by decide), on_set_ne (by decide)]
    exact hen
  · rw [h.get _ (by decide), get_put_lt (has_row rfl hc) (hslCheck_lt s c)]
  · rw [h.on _ (by decide), on_put_ne (by decide), on_set (by decide) (by decide)]

theorem cliEnable_outside_runs (ht : takes .HSL_CLI_CFG s = true) (hc : c < 32) (hen : Hsl.enabled s c = false) (hleaf : s.leaf = true)
    (hlane : 8 ≤ s.get F.HSL_CLI_CFG_FIRST_LANE c) :
    runs (.cliEnable c) s (fun t => t.on F.HSL_CLI_CFG_EN c = false ∧ t.on F.SYS_INT_CAUSE_ROLE_LIMIT = true) := by
  have hrefuse : Hsl.enable c s = s.set F.SYS_INT_CAUSE_ROLE_LIMIT := by
    rw [Hsl.enable, if_neg (by simp [hen]), if_pos (by simp [hleaf, hlane])]
  refine runs_cliCfg rfl ht hc fun t h => ?_
  rw [hrefuse] at h
  rw [h.on _ (by decide), h.on _ (by decide), on_set_ne (by decide)]
  exact ⟨hen, on_set (by decide) (by decide)⟩

theorem powerDown_get
    (h : clearOf [F.HSL_LANE_STAT_AM_LOCK, F.HSL_LANE_STAT_CDR_LOCK, F.HSL_LANE_STAT_RX_INV, F.HSL_LANE_STAT_SIG] g = true) :
    (Hsl.powerDown n s).get g i j k = s.get g i j k := by
  refine Moves.get_misses ?_
  apply Hsl_powerDown_moves (h := .refl) <;> exact misses_of_clearOf h (by decide)

/-- The machine as a client is disabled, before its link state follows. -/
def cliStopped (c : Nat) (s : State) : State :=
  ((s.eachOf (Hsl.lanes s c) Hsl.powerDown).clr F.HSL_CLI_CFG_EN c).clr H.HSL_OUT c

theorem cliStopped_state : Hsl.state (cliStopped c s) i = Hsl.state s i := by
  rw [Hsl.state, cliStopped, get_clr_ne (by decide), get_clr_ne (by decide)]
  exact eachOf_keeps (obs := fun t => t.get F.HSL_CLI_STAT_STATE i) (fun _ _ _ => powerDown_get (by decide)) s

theorem cliDisable_runs (ht : takes .HSL_CLI_CFG s = true) (hc : c < 32) (hen : Hsl.enabled s c = true) :
    runs (.cliDisable c) s (fun t => t.on F.HSL_CLI_CFG_EN c = false ∧ t.get F.HSL_CLI_STAT_STATE c = 0 ∧
      (s.get F.HSL_CLI_STAT_STATE c = 6 → t.on F.HSL_INT_CAUSE_CLI_DOWN = true)) := by
  have hdisable : Hsl.disable c s = Hsl.squelch (Hsl.move c 0 (cliStopped c s)) := if_pos hen
  refine runs_cliCfg rfl ht hc fun t h => ?_
  have hmoved : LinkShows (Hsl.move c 0 (cliStopped c s)) t := (hdisable ▸ h).of_squelch
  refine ⟨?_, hmoved.state.trans (move_state hc (by decide)), fun hup => ?_⟩
  · rw [hmoved.on _ (by decide), move_on (by decide), cliStopped, on_clr_ne (by decide), on_clr]
  · rw [hmoved.on _ (by decide), move_leaves_up (cliStopped_state.trans hup) (by decide)]

/-- Settles O39, with one lemma for each command and case. -/
theorem hostLaneResults : Obligations.HostLaneResults := by
  unfold Obligations.HostLaneResults
  exact ⟨fun s c => cliEnable_runs, fun s c => cliEnable_checked_runs, fun s c => cliEnable_outside_runs, fun s c => cliDisable_runs,
    fun s n c => signalDetect_runs, fun s n c => signalLoss_runs, fun s n c => cdrLock_runs, fun s n c => cdrLoss_runs,
    fun s n comp id c => laneLock_runs, fun s n c => markerLockLoss_runs, fun s c => egressOrderChange_runs,
    fun s c meas flexo => deskewMeasure_runs, fun s c ms => linkTmo_runs⟩

end Sys2Proof.Proofs

/-! SUPPORT. The transmit counters of Oryx (O21; R208, R209): the counter that a frame takes, and what an added flow leaves. -/
namespace Sys2Proof.Proofs
open Sys2Proof Sys2Proof.Machine Sys2Proof.Laws

variable {s : State} {f : Cf} {g : Machine.Field} {c i j k n q x : Nat}

theorem counterFor_ge (n q : Nat) : n ≤ Cry.counterFor n q := by
  unfold Cry.counterFor
  dsimp only
  split <;> omega

theorem counterFor_mod (n q : Nat) : Cry.counterFor n q % 2 ^ 16 = q % 2 ^ 16 := by
  unfold Cry.counterFor
  dsimp only
  split <;> omega

/-- No value at or above NEXT with the frame's low bits is smaller: below it lies the last block's, which is below NEXT. -/
theorem counterFor_least (hn : n ≤ x) (hx : x % 2 ^ 16 = q % 2 ^ 16) : Cry.counterFor n q ≤ x := by
  unfold Cry.counterFor
  dsimp only
  split <;> omega

/-- Encryption counts and marks a frame that finds no key; NEXT and CUR are what it leaves besides. -/
theorem encrypt_get (h : clearOf [F.CRY_CNT_COUNT, F.CRY_INT_CAUSE_TX_NOKEY] g = true) :
    (Cry.encrypt c f s).2.get g i j k =
      ((s.put H.CRY_NEXT (Cry.counterFor (s.get H.CRY_NEXT c) f.seq + 1) c).put H.CRY_CUR
        (Cry.counterFor (s.get H.CRY_NEXT c) f.seq) c).get g i j k := by
  unfold Cry.encrypt
  dsimp only
  split_ifs
  · rfl
  · rfl
  · rw [get_set_ne (misses_of_clearOf h (by decide)), get_count_ne (misses_of_clearOf h (by decide))]

theorem encrypt_counters (hc : c < 3072) (hlt : Cry.counterFor (s.get H.CRY_NEXT c) f.seq + 1 < 2 ^ 64) :
    (Cry.encrypt c f s).2.get H.CRY_NEXT c = Cry.counterFor (s.get H.CRY_NEXT c) f.seq + 1 ∧
      (Cry.encrypt c f s).2.get H.CRY_CUR c = Cry.counterFor (s.get H.CRY_NEXT c) f.seq := by
  constructor
  · rw [encrypt_get (by decide), get_put_ne (by decide), get_put_lt (has_row rfl hc) hlt]
  · rw [encrypt_get (by decide), get_put_lt (has_row rfl hc) (Nat.lt_of_succ_lt hlt)]

theorem addFlow_next (hc : c < 3072) (hlt : s.get H.CRY_NEXT c + 2 ^ 16 ≤ 2 ^ 64) :
    (Cry.addFlow c s).get H.CRY_NEXT c = ceilDiv (s.get H.CRY_NEXT c) 65536 * 65536 := by
  have hfit : ceilDiv (s.get H.CRY_NEXT c) 65536 * 65536 < 2 ^ 64 := by
    rw [ceilDiv, if_neg (by decide)]
    omega
  rw [Cry.addFlow, get_clr_ne (by decide), get_clr_ne (by decide), get_clr_ne (by decide), get_put_lt (has_row rfl hc) hfit]

/-- Settles O21: the arithmetic of the counter, and NEXT after a frame and after an added flow. -/
theorem cipherCountersNeverRepeat : Obligations.CipherCountersNeverRepeat := by
  unfold Obligations.CipherCountersNeverRepeat
  refine ⟨fun n q => ⟨counterFor_ge n q, counterFor_mod n q, fun x => counterFor_least⟩, fun s c f => encrypt_counters, fun s c hc hlt => ?_⟩
  rw [addFlow_next hc hlt, ceilDiv, if_neg (by decide)]
  omega

end Sys2Proof.Proofs

/-! SUPPORT. The lock of CRY (O12, O41; R217 to R219): what a reset of its owner leaves of the lock and of a key command under way. -/
namespace Sys2Proof.Proofs
open Sys2Proof Sys2Proof.Machine Sys2Proof.Laws

variable {s t u v : State} {e f g : Machine.Field} {i j k m n : Nat} {present : Bool}

theorem clearKeyData_get (h : clearOf [F.CRY_KEY_DATA_KEY, F.CRY_KEY_SALT_SALT] g = true) :
    (Mbx.clearKeyData s).get g i j k = s.get g i j k := by
  refine Moves.get_misses ?_
  apply Mbx_clearKeyData_moves (h := .refl) <;> exact misses_of_clearOf h (by decide)

/-- The machine as CRY.LOCK is taken from its owner, before the key data is cleared and the release counted. -/
def cryFreed (s : State) : State := (s.clr F.CRY_LOCK_STAT_OWNER).set F.CRY_LOCK_STAT_LOCK_BROKEN

theorem cryBreak_get (ho : s.on F.CRY_LOCK_STAT_OWNER = true) (hc : uncounted g = true)
    (h : clearOf [F.CRY_KEY_DATA_KEY, F.CRY_KEY_SALT_SALT] g = true) : (Mbx.cryBreak s).get g i j k = (cryFreed s).get g i j k := by
  rw [Mbx.cryBreak, if_pos ho, Mbx.lockEvent, event_get _ _ _ _ _ g i j k hc, clearKeyData_get h, cryFreed]

/-- Whoever holds the lock, or nobody: it is free afterwards. -/
theorem cryBreak_owner : (Mbx.cryBreak s).get F.CRY_LOCK_STAT_OWNER = 0 := by
  cases ho : s.on F.CRY_LOCK_STAT_OWNER with
  | true => rw [cryBreak_get ho (by decide) (by decide), cryFreed, get_set_ne (by decide), get_clr]
  | false =>
    rw [Mbx.cryBreak, if_neg (by simp [ho])]
    simpa [State.on] using ho

/-- What R219 speaks of: the owner of CRY.LOCK, LOCK_BROKEN, and a key command under way with its result. -/
def cryLockFields : List Machine.Field :=
  [F.CRY_LOCK_STAT_OWNER, F.CRY_LOCK_STAT_LOCK_BROKEN, F.CRY_KEY_STAT_BUSY, H.CRY_RESULT]

theorem cryLockBroken_congr (h : cryLockBroken u v) (hs : ∀ g ∈ cryLockFields, u.get g = s.get g) (ht : ∀ g ∈ cryLockFields, t.get g = v.get g) :
    cryLockBroken s t := by
  obtain ⟨hfree, hbroken, hbusy, hresult⟩ := h
  exact ⟨(ht _ (by decide)).trans hfree, (on_congr (ht _ (by decide))).trans hbroken,
    (ht _ (by decide)).trans (hbusy.trans (hs _ (by decide))), (ht _ (by decide)).trans (hresult.trans (hs _ (by decide)))⟩

theorem cryBreak_breaks (ho : s.on F.CRY_LOCK_STAT_OWNER = true) : cryLockBroken s (Mbx.cryBreak s) := by
  refine ⟨cryBreak_owner, (on_congr (cryBreak_get ho (by decide) (by decide))).trans (on_set (by decide) (by decide)), ?_, ?_⟩
  · rw [cryBreak_get ho (by decide) (by decide), cryFreed, get_set_ne (by decide), get_clr_ne (by decide)]
  · rw [cryBreak_get ho (by decide) (by decide), cryFreed, get_set_ne (by decide), get_clr_ne (by decide)]

/-! ### Resets of the owner (R219, R263, R278) -/

/-- A reset of a master comes to the lock of CRY after the channels and locks of MBX, none of which is of CRY. -/
theorem masterReset_reaches_cry (m : Nat) (s : State) : ∃ u, Moves (Sparing cryLockFields) s u ∧
    Mbx.masterReset m s = if u.get F.CRY_LOCK_STAT_OWNER = m then Mbx.cryBreak u else u := by
  unfold Mbx.masterReset
  refine ⟨_, Moves.each _ .refl fun n t h => ?_, rfl⟩
  have hseen {t : State} (h : Moves (Sparing cryLockFields) s t) (b : Bool) (f : Machine.Field) (hf : Sparing cryLockFields (.fld f)) :
      Moves (Sparing cryLockFields) s (if b = true then (t.set f n).set F.MBX_INT_CAUSE_RESET_SEEN else t) :=
    moves_ite (.set _ _ _ rfl (.set _ _ _ hf h)) h
  extract_lets received sent
  have hsent : Moves (Sparing cryLockFields) s sent := hseen (hseen h _ _ rfl) _ _ rfl
  refine moves_ite ?_ hsent
  apply Mbx_lockEvent_moves
  case h => exact .set (W := Sparing _) _ _ _ rfl (.clr _ _ _ rfl hsent)
  all_goals rfl

theorem ownerReset_get (h : g ∈ cryLockFields) : (Syn.ownerReset m s).get g i j k = s.get g i j k := by
  refine get_of_sparing ?_ h
  apply Syn_ownerReset_moves (h := .refl) <;> rfl

theorem masterReset_breaks (ho : s.get F.CRY_LOCK_STAT_OWNER = m) (hm : m ≠ 0) : cryLockBroken s (Sys.masterReset m s) := by
  obtain ⟨u, hu, hreset⟩ := masterReset_reaches_cry m s
  have howner : u.get F.CRY_LOCK_STAT_OWNER = m := (get_of_sparing hu (by decide)).trans ho
  rw [Sys.masterReset, hreset, if_pos howner]
  refine cryLockBroken_congr (cryBreak_breaks ?_) (fun g hg => get_of_sparing hu hg) fun g hg => ownerReset_get hg
  simpa [State.on, howner] using hm

/-- A list of fields takes its reset values in one element. -/
theorem resetAll_moves {W : Part → Prop} {l : List Machine.Field} (hl : ∀ f ∈ l, W (.fld f)) (h : Moves W s t) :
    Moves W s (l.foldl (fun t f => t.put f f.reset n) t) := by
  induction l generalizing t with
  | nil => exact h
  | cons f l ih => exact ih (fun e he => hl e (.tail _ he)) (h.put _ _ _ _ _ (hl f (.head _)))

/-- The registers, the threads and the operations of an engine are reset before the master that it is. -/
theorem engineReset_reaches_master (hn : n < 65) (s : State) : ∃ u, Moves (Sparing cryLockFields) s u ∧
    Sys.engineReset n s = Sys.masterReset (Eng.master n) u := by
  refine ⟨_, ?_, if_neg (by omega)⟩
  refine .each _ (.eachOf _ (.each _ (.each _ (resetAll_moves (by decide) .refl) fun w t h => ?windows) fun q t h => ?threads)
    fun o t h => ?operations) fun k t h => ?tags
  case windows => exact .clr _ _ _ rfl (.clr _ _ _ rfl (.clr _ _ _ rfl h))
  case threads =>
    refine .each _ ?_ fun r u hu => Eng_setReg_moves (W := Sparing _) rfl _ _ _ _ hu
    apply Eng_enter_moves
    case h => exact .clr (W := Sparing _) _ _ _ rfl (.clr _ _ _ rfl (.clr _ _ _ rfl h))
    all_goals rfl
  case operations => apply Sys_resetOp_moves (h := h) <;> rfl
  case tags => exact moves_ite (Eng_releaseTag_moves (W := Sparing _) rfl rfl _ _ h) h

theorem functionLevelReset_runs (hf : n < 8) (ho : s.get F.CRY_LOCK_STAT_OWNER = n + 1) :
    runs (.functionLevelReset n) s (cryLockBroken s) := by
  have hreset : ∀ g ∈ cryLockFields, (Reset.function n s).get g = (Sys.masterReset (n + 1) s).get g := fun g _ => by
    rw [Reset.function, if_neg (by omega)]
    rfl
  exact runs_done rfl (cryLockBroken_congr (masterReset_breaks ho n.succ_ne_zero) (fun _ _ => rfl)
    fun g hg => (settle_get ..).trans (hreset g hg))

theorem engReset_runs (hn : n < 65) (ht : takes .ENG_CTRL s = true) (ho : s.get F.CRY_LOCK_STAT_OWNER = Eng.master n) :
    runs (.engReset n) s (cryLockBroken s) := by
  obtain ⟨u, hu, hreset⟩ := engineReset_reaches_master hn s
  have hmaster : Eng.master n ≠ 0 := by
    unfold Eng.master
    split <;> omega
  have hbreaks : cryLockBroken u (Sys.masterReset (Eng.master n) u) :=
    masterReset_breaks ((get_of_sparing hu (by decide)).trans ho) hmaster
  refine runs_done rfl (cryLockBroken_congr hbreaks (fun g hg => get_of_sparing hu hg) fun g hg => ?_)
  have hunc : uncounted g = true := (by decide : ∀ g ∈ cryLockFields, uncounted g = true) g hg
  rw [settle_get, quietRow_get ht (has_row (f := F.ENG_CTRL_RESET) rfl hn) (by decide) hunc, hreset]

/-! ### Erasure (R220) -/

theorem Store_find_filter_none {p : Nat × Nat → Bool} (h : ∀ v, p (n, v) = false) : ∀ m : Store Nat, Store.find n (m.filter p) = none
  | [] => rfl
  | (k, v) :: rest => by
    rw [List.filter_cons]
    split
    next hp =>
      have hk : k ≠ n := fun hk => absurd (hk ▸ hp) (by simp [h])
      rw [Store.find, if_neg hk, Store_find_filter_none h rest]
    next => exact Store_find_filter_none h rest

theorem get_wipe_outside (h : f.key i j k < e.range.1 ∨ e.range.2 ≤ f.key i j k) : (s.wipe e).get f i j k = s.get f i j k := by
  have hfind : Store.find (f.key i j k) (s.wipe e).csr = Store.find (f.key i j k) s.csr :=
    (Moves.wipe (W := (· = .arr e)) e rfl .refl).find (fun hall => nomatch hall .vlk) (fun _ he => nomatch he)
      fun a ha => by cases ha; exact h
  unfold State.get Store.get
  rw [hfind]

/-- A field whose key lies in the range of an array that is cleared reads its reset value. -/
theorem get_wipe_inside (hr : f.resetAt i j k = 0) (hlo : e.range.1 ≤ f.key i j k) (hhi : f.key i j k < e.range.2) :
    (s.wipe e).get f i j k = 0 := by
  have hnone : Store.find (f.key i j k) (s.wipe e).csr = none := Store_find_filter_none (fun v => by simp [hlo, hhi]) s.csr
  simp [State.get, Store.get, hnone, hr]

/-- What reads 0 and resets to 0 reads 0 whatever array is cleared. -/
theorem get_wipe_zero (hr : f.resetAt i j k = 0) (hs : s.get f i j k = 0) : (s.wipe e).get f i j k = 0 := by
  rcases Nat.lt_or_ge (f.key i j k) e.range.1 with hlt | hlo
  · rw [get_wipe_outside (.inl hlt), hs]
  rcases Nat.lt_or_ge (f.key i j k) e.range.2 with hhi | hge
  · exact get_wipe_inside hr hlo hhi
  · rw [get_wipe_outside (.inr hge), hs]

theorem get_wipes_zero {l : List Machine.Field} (hr : f.resetAt i j k = 0) (hs : s.get f i j k = 0) : (l.foldl State.wipe s).get f i j k = 0 := by
  induction l generalizing s with
  | nil => exact hs
  | cons e l ih => exact ih (get_wipe_zero hr hs)

/-- Each array of a list that is cleared reads 0. -/
theorem get_wipes {l : List Machine.Field} (hf : f ∈ l) (hr : f.resetAt i j k = 0) (hlo : f.range.1 ≤ f.key i j k)
    (hhi : f.key i j k < f.range.2) : (l.foldl State.wipe s).get f i j k = 0 := by
  obtain ⟨before, after, rfl⟩ := List.append_of_mem hf
  rw [List.foldl_append, List.foldl_cons]
  exact get_wipes_zero hr (get_wipe_inside hr hlo hhi)

/-- What an alarm leaves of what ERASE_STAT and the causes show. -/
def erasedFields : List Machine.Field :=
  [F.CRY_LOCK_STAT_OWNER, F.CRY_ERASE_STAT_CAUSE, F.CRY_ERASE_STAT_COUNT]

theorem eraseVault_get (hg : g ∈ erasedFields) : (Cry.eraseVault s).get g i j k = s.get g i j k := by
  refine get_of_sparing ?_ hg
  apply Cry_eraseVault_moves (h := .refl) <;> rfl

/-- An alarm as it shows in ERASE_STAT, in the causes and in the result of a key command under way. -/
def alarmShown (cause : Nat) (present : Bool) (s : State) : State :=
  let u := ((s.setBit F.CRY_ERASE_STAT_CAUSE cause).count F.CRY_ERASE_STAT_COUNT).set F.CRY_INT_CAUSE_ERASED
  (if u.on F.CRY_KEY_STAT_BUSY then u.put H.CRY_RESULT 6 else u).put F.CRY_ERASE_STAT_ALARM_NOW (b01 present)

theorem erasure_acts (ha : Cry.alarmActs s n = true) : Cry.erasure n present s = Mbx.cryBreak (alarmShown n present (Cry.eraseVault s)) :=
  if_pos ha

/-- Of what it shows, the result and ALARM_NOW come last. -/
theorem alarmShown_get (h : clearOf [H.CRY_RESULT, F.CRY_ERASE_STAT_ALARM_NOW] g = true) : (alarmShown n present s).get g i j k =
    (((s.setBit F.CRY_ERASE_STAT_CAUSE n).count F.CRY_ERASE_STAT_COUNT).set F.CRY_INT_CAUSE_ERASED).get g i j k := by
  rw [alarmShown, get_put_ne (misses_of_clearOf h (by decide))]
  split
  · exact get_put_ne (misses_of_clearOf h (by decide))
  · rfl

theorem alarmShown_get_other
    (h : clearOf [F.CRY_ERASE_STAT_CAUSE, F.CRY_ERASE_STAT_COUNT, F.CRY_INT_CAUSE_ERASED, H.CRY_RESULT, F.CRY_ERASE_STAT_ALARM_NOW] g = true) :
    (alarmShown n present s).get g i j k = s.get g i j k := by
  have hm {f : Machine.Field} (hf : f ∈ _) : apart f g = true := List.all_eq_true.mp h f hf
  rw [alarmShown_get (by simp [clearOf, hm]), get_set_ne (hm (by decide)), get_count_ne (hm (by decide)), get_setBit_ne (hm (by decide))]

theorem erasure_owner (present : Bool) : (alarmShown n present (Cry.eraseVault s)).get F.CRY_LOCK_STAT_OWNER = s.get F.CRY_LOCK_STAT_OWNER :=
  (alarmShown_get_other (by decide)).trans (eraseVault_get (by decide))

theorem erasure_breaks (ha : Cry.alarmActs s n = true) (ho : s.get F.CRY_LOCK_STAT_OWNER ≠ 0) :
    runs (.erasure n present) s (fun t => t.get F.CRY_LOCK_STAT_OWNER = 0 ∧ t.on F.CRY_LOCK_STAT_LOCK_BROKEN = true) := by
  obtain ⟨hfree, hbroken, -, -⟩ : cryLockBroken _ (Mbx.cryBreak (alarmShown n present (Cry.eraseVault s))) :=
    cryBreak_breaks (by simpa [State.on, erasure_owner] using ho)
  refine runs_done (congrArg (done s) (erasure_acts ha)) ⟨?_, ?_⟩
  · rw [settle_get, hfree]
  · rw [on_settle, hbroken]

/-! ### The end of a key command (R218) -/

/-- The command is no longer under way and shows its code. -/
def keyEnded (s : State) : State :=
  ((s.clr F.CRY_KEY_STAT_BUSY).clr F.CRY_KEY_CMD_GO).put F.CRY_KEY_STAT_ERR_CODE (s.get H.CRY_RESULT)

/-- The key data, the result and the ROLL that waited are forgotten. -/
def keyForgotten (s : State) : State := Mbx.clearKeyData ((s.clr H.CRY_RESULT).clr H.CRY_ROLL)

theorem complete_done (hb : s.on F.CRY_KEY_STAT_BUSY = true) (hr : s.get H.CRY_RESULT = 0) :
    Cry.complete s = (keyForgotten (Cry.rolled (keyEnded s))).set F.CRY_INT_CAUSE_CMD_DONE := by
  rw [Cry.complete, if_pos hb]
  dsimp only
  rw [if_pos hr, if_pos hr]
  rfl

theorem complete_err (hb : s.on F.CRY_KEY_STAT_BUSY = true) (hr : s.get H.CRY_RESULT ≠ 0) :
    Cry.complete s = (keyForgotten (keyEnded s)).set F.CRY_INT_CAUSE_CMD_ERR := by
  rw [Cry.complete, if_pos hb]
  dsimp only
  rw [if_neg hr, if_neg hr]
  rfl

theorem keyForgotten_get (h : clearOf [F.CRY_KEY_DATA_KEY, F.CRY_KEY_SALT_SALT, H.CRY_RESULT, H.CRY_ROLL] g = true) :
    (keyForgotten s).get g i j k = s.get g i j k := by
  have hm {f : Machine.Field} (hf : f ∈ _) : apart f g = true := List.all_eq_true.mp h f hf
  rw [keyForgotten, clearKeyData_get (by simp [clearOf, hm]), get_clr_ne (hm (by decide)), get_clr_ne (hm (by decide))]

theorem rolled_get (h : apart H.CRY_TX_PH g = true) : (Cry.rolled s).get g i j k = s.get g i j k :=
  (Cry_rolled_moves (W := Misses g) h .refl).get_misses

theorem keyEnded_shows : (keyEnded s).on F.CRY_KEY_STAT_BUSY = false ∧ (keyEnded s).get F.CRY_KEY_STAT_ERR_CODE = s.get H.CRY_RESULT := by
  refine ⟨?_, get_put_get (by decide) (by decide)⟩
  rw [keyEnded, on_put_ne (by decide), on_clr_ne (by decide), on_clr]

/-- Whatever the result, BUSY is over and ERR_CODE shows it. -/
theorem complete_shows_code (hb : s.on F.CRY_KEY_STAT_BUSY = true) : (Cry.complete s).on F.CRY_KEY_STAT_BUSY = false ∧
    (Cry.complete s).get F.CRY_KEY_STAT_ERR_CODE = s.get H.CRY_RESULT := by
  obtain ⟨hbusy, hcode⟩ := keyEnded_shows (s := s)
  by_cases hr : s.get H.CRY_RESULT = 0
  · rw [complete_done hb hr, on_set_ne (by decide), on_congr (keyForgotten_get (by decide)), on_congr (rolled_get (by decide)),
      get_set_ne (by decide), keyForgotten_get (by decide), rolled_get (by decide)]
    exact ⟨hbusy, hcode⟩
  · rw [complete_err hb hr, on_set_ne (by decide), on_congr (keyForgotten_get (by decide)), get_set_ne (by decide),
      keyForgotten_get (by decide)]
    exact ⟨hbusy, hcode⟩

theorem keyCmdComplete_shows_code (hb : s.on F.CRY_KEY_STAT_BUSY = true) : runs .keyCmdComplete s (fun t =>
    t.on F.CRY_KEY_STAT_BUSY = false ∧ t.get F.CRY_KEY_STAT_ERR_CODE = s.get H.CRY_RESULT) := by
  refine runs_done rfl ?_
  rw [on_settle, settle_get]
  exact complete_shows_code hb

/-- Settles O12: the lock of an owner that is reset, of an alarm that acts, and a command that ends whoever owns the lock. -/
theorem cryLockOfAResetOwner : Obligations.CryLockOfAResetOwner := by
  unfold Obligations.CryLockOfAResetOwner
  exact ⟨fun s f => functionLevelReset_runs, fun s n => engReset_runs, fun s cause present => erasure_breaks,
    fun s => keyCmdComplete_shows_code⟩

end Sys2Proof.Proofs

/-! SUPPORT. The key vault (O41; R209, R216 to R218): a write of KEY_CMD by the master that owns the lock, and what each operation makes of
the vault. -/
namespace Sys2Proof.Proofs
open Sys2Proof Sys2Proof.Machine Sys2Proof.Laws

variable {s t u : State} {p : State → Prop} {cmd : Instr} {f g : Machine.Field} {r : RegId} {dword : Nat → Nat} {eff : State → State}
  {act : State → Nat × State} {who : Pmc.Who} {a b c ctx code i j k master n op ph x y z : Nat} {user : Bool}

/-! ### Elements and loops -/

theorem get_put_last (hf : Field.plain f = true) (h : k ≠ z) : (s.put f a i j k).get f x y z = s.get f x y z := by
  rw [State_get_put_index _ _ _ _ _ _ _ _ _ hf, if_neg fun hc => h hc.2.2.2]

/-! ### A register write by any master -/

/-- A write of a quiet block that takes effect for function 0 does so for every master. -/
theorem quietRowBy_eq (who : Pmc.Who) (ht : takes r s = true) (hi : r.shape.has i j 0 = true)
    (hb : quiet (Sys.blockOf (r.barAddr 0 0 0)) = true) : Bus.row who r i j dword eff s =
      Pmc.access (521 + 2 * Sys.blockOf (r.barAddr 0 0 0)) who (r.barAddr i j 0) s (eff s) := by
  simp only [takes, Bool.and_eq_true, Bool.not_eq_true'] at ht
  obtain ⟨⟨hreset, hstopped⟩, hmirrored⟩ := ht
  simp only [quiet, Bool.and_eq_true, bne_iff_ne] at hb
  obtain ⟨⟨hsyn, htx⟩, hrx⟩ := hb
  have htaken : (s.passive && who.master != 96 && Peer.isMirrored r) = false := by
    rw [Bool.and_right_comm, hmirrored, Bool.false_and]
  unfold Bus.row
  dsimp only
  rw [if_neg (by simp [hi]), if_neg (by simp [hreset, hstopped]), if_neg (by simp [htaken]), Bus.follow, if_neg hsyn,
    if_neg fun h => h.elim htx hrx]

theorem runs_showsRowBy (e : exec cmd s = done s (Bus.row who r 0 0 dword eff s)) (ht : takes r s = true)
    (hi : r.shape.has 0 0 0 = true) (hb : quiet (Sys.blockOf (r.barAddr 0 0 0)) = true) (hp : ∀ t, Shows (eff s) t → p t) : runs cmd s p := by
  refine runs_done e (hp _ (shows_settle ?_))
  rw [quietRowBy_eq who ht hi hb]
  exact ⟨fun g hg i j k => access_get _ _ _ _ _ g i j k hg, access_frm .., access_flw .., (access_moved ..).out⟩

/-! ### KEY_CMD with GO (R218) -/

/-- The dword of a key command names its context, its phase and its operation. -/
theorem writeKeyCmd_keyDword : Cry.writeKeyCmd who (Tick.keyDword ctx ph op) s = Cry.keyCmd who (ctx % 4096) (ph % 2) (op % 8) s := by
  have hgo : (Tick.keyDword ctx ph op).testBit 31 = true := by
    rw [Nat.testBit_eq_decide_div_mod_eq, decide_eq_true_eq, Tick.keyDword]
    omega
  have hctx : slice (Tick.keyDword ctx ph op) 0 12 = ctx % 4096 := by
    rw [slice, Nat.shiftRight_eq_div_pow, Tick.keyDword]
    omega
  have hph : slice (Tick.keyDword ctx ph op) 12 1 = ph % 2 := by
    rw [slice, Nat.shiftRight_eq_div_pow, Tick.keyDword]
    omega
  have hop : slice (Tick.keyDword ctx ph op) 13 3 = op % 8 := by
    rw [slice, Nat.shiftRight_eq_div_pow, Tick.keyDword]
    omega
  rw [Cry.writeKeyCmd, if_pos hgo, hctx, hph, hop]

/-- A key command of a master that is not the owner, or that meets one under way. -/
theorem command_stranger (ho : s.get F.CRY_LOCK_STAT_OWNER ≠ who.master) : Cry.command who ctx ph op act s = s.set F.CRY_INT_CAUSE_NOT_OWNER :=
  if_pos ho

theorem command_busy (ho : s.get F.CRY_LOCK_STAT_OWNER = who.master) (hb : s.on F.CRY_KEY_STAT_BUSY = true) :
    Cry.command who ctx ph op act s = Mbx.clearKeyData ((s.put F.CRY_KEY_STAT_ERR_CODE 7).set F.CRY_INT_CAUSE_CMD_ERR) := by
  rw [Cry.command, if_neg (not_not.mpr ho), if_pos hb]

/-- The machine with a key command in KEY_CMD and under way. -/
def keyTaken (ctx ph op : Nat) (s : State) : State :=
  ((((s.put F.CRY_KEY_CMD_CTX ctx).put F.CRY_KEY_CMD_PHASE ph).put F.CRY_KEY_CMD_OP op).set F.CRY_KEY_STAT_BUSY).set F.CRY_KEY_CMD_GO

theorem keyTaken_get
    (h : clearOf [F.CRY_KEY_CMD_CTX, F.CRY_KEY_CMD_PHASE, F.CRY_KEY_CMD_OP, F.CRY_KEY_STAT_BUSY, F.CRY_KEY_CMD_GO] g = true) :
    (keyTaken ctx ph op s).get g i j k = s.get g i j k := by
  have hm {f : Machine.Field} (hf : f ∈ _) : apart f g = true := List.all_eq_true.mp h f hf
  rw [keyTaken, get_set_ne (hm (by decide)), get_set_ne (hm (by decide)), get_put_ne (hm (by decide)), get_put_ne (hm (by decide)),
    get_put_ne (hm (by decide))]

theorem keyTaken_busy : (keyTaken ctx ph op s).on F.CRY_KEY_STAT_BUSY = true := by
  rw [keyTaken, on_set_ne (by decide), on_set (by decide) (by decide)]

theorem command_accepts (ho : s.get F.CRY_LOCK_STAT_OWNER = who.master) (hb : s.on F.CRY_KEY_STAT_BUSY = false)
    (ha : s.on F.CRY_ERASE_STAT_ALARM_NOW = false) : Cry.command who ctx ph op act s =
      (act (keyTaken ctx ph op s)).2.put H.CRY_RESULT (act (keyTaken ctx ph op s)).1 := by
  have hnow : (keyTaken ctx ph op s).on F.CRY_ERASE_STAT_ALARM_NOW = false := (on_congr (keyTaken_get (by decide))).trans ha
  rw [Cry.command, if_neg (not_not.mpr ho), if_neg (by simp [hb])]
  dsimp only
  rw [← keyTaken, if_neg (by simp [hnow])]

theorem command_alarmed (ho : s.get F.CRY_LOCK_STAT_OWNER = who.master) (hb : s.on F.CRY_KEY_STAT_BUSY = false)
    (ha : s.on F.CRY_ERASE_STAT_ALARM_NOW = true) : Cry.command who ctx ph op act s = (keyTaken ctx ph op s).put H.CRY_RESULT 6 := by
  have hnow : (keyTaken ctx ph op s).on F.CRY_ERASE_STAT_ALARM_NOW = true := (on_congr (keyTaken_get (by decide))).trans ha
  rw [Cry.command, if_neg (not_not.mpr ho), if_neg (by simp [hb])]
  dsimp only
  rw [← keyTaken, if_pos hnow]

/-- `cmd` is the command whose row writes operation `op` of a context and a phase to KEY_CMD with GO. -/
abbrev writesKeyCmd (cmd : Instr) (master : Nat) (user : Bool) (ctx ph op : Nat) (s : State) : Prop :=
  exec cmd s = done s (Bus.row ⟨master, user⟩ .CRY_KEY_CMD 0 0 (fun _ => Tick.keyDword ctx ph op)
    (Cry.writeKeyCmd ⟨master, user⟩ (Tick.keyDword ctx ph op)) s)

theorem runs_keyCmd (e : writesKeyCmd cmd master user ctx ph op s) (ht : takes .CRY_KEY_CMD s = true)
    (hp : ∀ t, Shows (Cry.keyCmd ⟨master, user⟩ (ctx % 4096) (ph % 2) (op % 8) s) t → p t) : runs cmd s p :=
  runs_showsRowBy e ht rfl (by decide) fun t h => hp t (writeKeyCmd_keyDword ▸ h)

/-- The state that a command with result `code` leaves: it is under way, and completion will show the code. -/
theorem keyResult_shows (hlt : code < 8) (hb : u.on F.CRY_KEY_STAT_BUSY = true) (h : Shows (u.put H.CRY_RESULT code) t) :
    t.on F.CRY_KEY_STAT_BUSY = true ∧ t.get H.CRY_RESULT = code := by
  rw [h.on _ (by decide), h.get _ (by decide), on_put_ne (by decide), get_put_lt (by decide) hlt]
  exact ⟨hb, rfl⟩

/-- What a command of the owner asks for beside its own conditions: no alarm is present and none is under way. -/
structure Accepted (s : State) (master : Nat) : Prop where
  takes : takes .CRY_KEY_CMD s = true
  owner : s.get F.CRY_LOCK_STAT_OWNER = master
  free : s.on F.CRY_KEY_STAT_BUSY = false
  calm : s.on F.CRY_ERASE_STAT_ALARM_NOW = false

/-- An accepted command by what its operation answers of the machine with the command in KEY_CMD. -/
theorem runs_accepted (e : writesKeyCmd cmd master user ctx ph op s) (h : Accepted s master) (hc : ctx % 4096 = a) (hq : ph % 2 = b)
    (hact : Cry.keyCmd ⟨master, user⟩ a b (op % 8) s = Cry.command ⟨master, user⟩ a b (op % 8) act s)
    (hcode : (act (keyTaken a b (op % 8) s)).1 = code) (hlt : code < 8)
    (hb : (act (keyTaken a b (op % 8) s)).2.on F.CRY_KEY_STAT_BUSY = true)
    (hp : ∀ t, t.on F.CRY_KEY_STAT_BUSY = true → t.get H.CRY_RESULT = code →
      (∀ g, uncounted g = true → apart H.CRY_RESULT g = true → ∀ i j k, t.get g i j k = (act (keyTaken a b (op % 8) s)).2.get g i j k) →
      p t) : runs cmd s p := by
  subst hc hq
  refine runs_keyCmd e h.takes fun t ht => ?_
  rw [hact, command_accepts h.owner h.free h.calm, hcode] at ht
  obtain ⟨hbusy, hresult⟩ := keyResult_shows hlt hb ht
  exact hp t hbusy hresult fun g hg hr i j k => (ht.get g hg i j k).trans (get_put_ne hr)

/-- An accepted command that the vault refuses, and so leaves as it was. -/
theorem runs_refused (e : writesKeyCmd cmd master user ctx ph op s) (h : Accepted s master) (hc : ctx % 4096 = a) (hq : ph % 2 = b)
    (hact : Cry.keyCmd ⟨master, user⟩ a b (op % 8) s = Cry.command ⟨master, user⟩ a b (op % 8) act s)
    (hcode : act (keyTaken a b (op % 8) s) = (code, keyTaken a b (op % 8) s)) (hlt : code < 8) :
    runs cmd s (fun t => t.on F.CRY_KEY_STAT_BUSY = true ∧ t.get H.CRY_RESULT = code) :=
  runs_accepted e h hc hq hact (congrArg Prod.fst hcode) hlt ((congrArg (fun r => r.2.on F.CRY_KEY_STAT_BUSY) hcode).trans keyTaken_busy)
    fun _ hbusy hresult _ => ⟨hbusy, hresult⟩

/-! ### The operations of the vault (R209, R216) -/

/-- An enabled flow transmits with the slot. -/
def transmits (s : State) (ctx ph : Nat) : Bool := Cry.used s ctx && s.get H.CRY_TX_PH ctx == ph

theorem used_keyTaken : Cry.used (keyTaken a b op s) ctx = Cry.used s ctx := on_congr (keyTaken_get (by decide))

theorem transmits_keyTaken : transmits (keyTaken a b op s) ctx ph = transmits s ctx ph := by
  rw [transmits, used_keyTaken, keyTaken_get (by decide), transmits]

theorem transmits_of (hu : Cry.used s ctx = true) (hp : s.get H.CRY_TX_PH ctx = ph) : transmits s ctx ph = true := by
  simp [transmits, hu, hp]

theorem load_beyond (h : 3071 < ctx) : Cry.load ctx ph s = (2, s) := if_pos h

theorem load_held (hc : ctx ≤ 3071) (h : transmits s ctx ph = true) : Cry.load ctx ph s = (3, s) := by
  rw [Cry.load, if_neg (by omega)]
  exact if_pos h

theorem has_keyWord (hc : ctx ≤ 3071) (hp : ph < 2) (hi : i < 8) : H.CRY_KEY.shape.has ctx ph i = true := by
  simp [Shape.has, H.CRY_KEY, fld, shape3, Nat.lt_succ_of_le hc, hp, hi]

/-- Each word of KEY_DATA goes to its word of the slot's key. -/
theorem keyWords_loaded (hk : H.CRY_KEY.shape.has ctx ph i = true) (hi : i < 8) :
    (s.each 8 fun i t => t.put H.CRY_KEY (t.get F.CRY_KEY_DATA_KEY i) ctx ph i).get H.CRY_KEY ctx ph i = s.get F.CRY_KEY_DATA_KEY i :=
  each_reaches (p := fun t => t.get F.CRY_KEY_DATA_KEY i = s.get F.CRY_KEY_DATA_KEY i)
    (q := fun t => t.get H.CRY_KEY ctx ph i = s.get F.CRY_KEY_DATA_KEY i) hi rfl
    (fun _ _ _ h => (get_put_ne (by decide)).trans h) (fun _ h => (get_put_get hk (by decide)).trans h)
    (fun _ _ hb h => (get_put_last (by decide) hb).trans h)

theorem keyWords_loaded_salt : (s.each 8 fun i t => t.put H.CRY_KEY (t.get F.CRY_KEY_DATA_KEY i) ctx ph i).get F.CRY_KEY_SALT_SALT =
    s.get F.CRY_KEY_SALT_SALT :=
  each_keeps (obs := fun t => t.get F.CRY_KEY_SALT_SALT) 8 fun _ _ _ => get_put_ne (by decide)

theorem load_free (hc : ctx ≤ 3071) (hp : ph < 2) (h : transmits s ctx ph = false) (hi : i < 8) :
    (Cry.load ctx ph s).1 = 0 ∧ (Cry.load ctx ph s).2.get H.CRY_KEY ctx ph i = s.get F.CRY_KEY_DATA_KEY i ∧
      (Cry.load ctx ph s).2.get H.CRY_SALT ctx ph = s.get F.CRY_KEY_SALT_SALT ∧ (Cry.load ctx ph s).2.on H.CRY_VALID ctx ph = true := by
  have hrow : ctx < 3072 := Nat.lt_succ_of_le hc
  have hfree : ¬(Cry.used s ctx && s.get H.CRY_TX_PH ctx == ph) = true := Bool.eq_false_iff.mp h
  rw [Cry.load, if_neg (by omega), if_neg hfree]
  refine ⟨rfl, ?_, ?_, on_set (has_cell rfl hrow hp) (by decide)⟩
  · rw [get_set_ne (by decide), get_put_ne (by decide), keyWords_loaded (has_keyWord hc hp hi) hi]
  · rw [get_set_ne (by decide), get_put_get (has_cell rfl hrow hp) (by decide), keyWords_loaded_salt]

theorem load_busy : (Cry.load ctx ph s).2.on F.CRY_KEY_STAT_BUSY = s.on F.CRY_KEY_STAT_BUSY :=
  on_congr (get_of_sparing (Cry_load_moves (W := Sparing [F.CRY_KEY_STAT_BUSY]) rfl rfl rfl _ _ .refl) (by decide))

theorem roll_beyond (h : 3071 < ctx) : Cry.roll ctx ph s = (2, s) := if_pos h

theorem roll_empty (hc : ctx ≤ 3071) (hv : s.on H.CRY_VALID ctx ph = false) : Cry.roll ctx ph s = (4, s) := by
  rw [Cry.roll, if_neg (by omega), if_pos (by simp [hv])]

theorem roll_valid (hc : ctx ≤ 3071) (hv : s.on H.CRY_VALID ctx ph = true) :
    Cry.roll ctx ph s = (0, s.put H.CRY_ROLL (1 + 2 * ctx + ph % 2)) := by
  rw [Cry.roll, if_neg (by omega), if_neg (by simp [hv])]

/-- Clearing the elements of an array's row changes no other field. -/
theorem each_clr_get (h : apart f g = true) : (s.each n fun q t => t.clr f a q).get g i j k = s.get g i j k :=
  each_keeps (obs := fun t => t.get g i j k) n fun _ _ _ => get_clr_ne h

theorem empty_valid : (Cry.empty ctx ph s).on H.CRY_VALID ctx ph = false := on_clr

theorem empty_key (hi : i < 8) : (Cry.empty ctx ph s).get H.CRY_KEY ctx ph i = 0 := by
  rw [Cry.empty, get_clr_ne (by decide), get_clr_ne (by decide)]
  exact each_reaches (p := fun _ => True) (q := fun t => t.get H.CRY_KEY ctx ph i = 0) hi trivial (fun _ _ _ _ => trivial)
    (fun _ _ => get_clr) (fun _ _ hb h => (get_put_last (by decide) hb).trans h)

theorem empty_get (h : clearOf [H.CRY_KEY, H.CRY_SALT, H.CRY_VALID] g = true) : (Cry.empty ctx ph s).get g i j k = s.get g i j k := by
  refine Moves.get_misses ?_
  apply Cry_empty_moves (h := .refl) <;> exact misses_of_clearOf h (by decide)

/-- To empty one slot of a context leaves the other as empty as it was. -/
theorem empty_other (h : ph ≠ x) : (Cry.empty ctx ph s).on H.CRY_VALID ctx x = s.on H.CRY_VALID ctx x := by
  refine on_congr ?_
  rw [Cry.empty, get_clr_column (by decide) h, get_clr_ne (by decide)]
  exact each_keeps (obs := fun t => t.get H.CRY_VALID ctx x) 8 fun _ _ _ => get_clr_ne (by decide)

theorem clear_held (hc : ctx ≤ 3071) (h : transmits s ctx ph = true) : Cry.clear ctx ph s = (3, s) := by
  rw [Cry.clear, if_neg (by omega)]
  exact if_pos h

theorem clear_free (hc : ctx ≤ 3071) (h : transmits s ctx ph = false) : Cry.clear ctx ph s = (0, Cry.empty ctx ph s) := by
  rw [Cry.clear, if_neg (by omega)]
  exact if_neg (Bool.eq_false_iff.mp h)

theorem clearCtx_used (hc : ctx ≤ 3071) (h : Cry.used s ctx = true) : Cry.clearCtx ctx s = (5, s) := by
  rw [Cry.clearCtx, if_neg (by omega), if_pos h]

/-- Both slots are empty, and the counters of either direction are as after reset. -/
theorem clearCtx_unused (hc : ctx ≤ 3071) (h : Cry.used s ctx = false) : (Cry.clearCtx ctx s).1 = 0 ∧
    (Cry.clearCtx ctx s).2.on H.CRY_VALID ctx 0 = false ∧ (Cry.clearCtx ctx s).2.on H.CRY_VALID ctx 1 = false ∧
    (Cry.clearCtx ctx s).2.get H.CRY_NEXT ctx = 0 ∧ (Cry.clearCtx ctx s).2.get H.CRY_LAST ctx = 0 ∧
    (Cry.clearCtx ctx s).2.on H.CRY_SYNC ctx = false := by
  rw [Cry.clearCtx, if_neg (by omega), if_neg (by simp [h])]
  have hslot (t : State) (x : Nat) (ht : t.on H.CRY_VALID ctx x = false) : ∀ u : State,
      u.get H.CRY_VALID ctx x = t.get H.CRY_VALID ctx x → u.on H.CRY_VALID ctx x = false := fun u hu => (on_congr hu).trans ht
  refine ⟨rfl, hslot (Cry.empty ctx 1 (Cry.empty ctx 0 s)) 0 ?_ _ ?_, hslot (Cry.empty ctx 1 (Cry.empty ctx 0 s)) 1 empty_valid _ ?_, ?_, ?_, ?_⟩
  · exact (empty_other (by decide)).trans empty_valid
  all_goals simp (disch := decide) only [State.on, get_clr_ne, get_put_ne, each_clr_get, get_clr, bne_self_eq_false]

theorem clearCtx_busy : (Cry.clearCtx ctx s).2.on F.CRY_KEY_STAT_BUSY = s.on F.CRY_KEY_STAT_BUSY := by
  refine on_congr (get_of_sparing (l := [F.CRY_KEY_STAT_BUSY]) ?_ (by decide))
  apply Cry_clearCtx_moves (h := .refl) <;> rfl

end Sys2Proof.Proofs

/-! SUPPORT. The commands of the CRY lock and the key vault where their conditions hold (R216 to R220, R223), and O41. -/
namespace Sys2Proof.Proofs
open Sys2Proof Sys2Proof.Machine Sys2Proof.Laws

variable {s t : State} {cmd : Instr} {g : Machine.Field} {c ctx i j k m master n op ph : Nat} {user present : Bool} {rivals : List Nat}
  {who : Pmc.Who}

/-! ### The lock (R217) -/

/-- A master that may manage keys takes the free lock. -/
theorem cryRead_free (hm : Mbx.mayManage who = true) (ho : s.get F.CRY_LOCK_STAT_OWNER = 0) :
    Mbx.cryRead who s = (0, Mbx.lockEvent 0 who 0x300004 (s.put F.CRY_LOCK_STAT_OWNER who.master)) := by
  rw [Mbx.cryRead, if_neg (by simp [hm]), if_pos ho]

/-- A read of a lock that is held leaves the machine as it was. -/
theorem cryRead_held (ho : s.get F.CRY_LOCK_STAT_OWNER ≠ 0) : (Mbx.cryRead who s).2 = s := by
  unfold Mbx.cryRead
  dsimp only
  split_ifs <;> rfl

theorem master_ne_zero (hm : Mbx.mayManage who = true) : who.master ≠ 0 := fun h => by simp [Mbx.mayManage, Mbx.isHost, h] at hm

theorem cryRead_taken (hm : Mbx.mayManage who = true) (hlt : who.master < 256) (ho : s.get F.CRY_LOCK_STAT_OWNER = 0) :
    (Mbx.cryRead who s).1 = 0 ∧ (Mbx.cryRead who s).2.get F.CRY_LOCK_STAT_OWNER = who.master := by
  rw [cryRead_free hm ho, Mbx.lockEvent, event_get _ _ _ _ _ _ _ _ _ (by decide), get_put_lt (by decide) hlt]
  exact ⟨rfl, rfl⟩

/-- The reader is the owner, its 0 has left for it, and where others read at the same time CONTENDED is set. -/
def LockTaken (master : Nat) (contended : Bool) (t : State) : Prop :=
  t.get F.CRY_LOCK_STAT_OWNER = master ∧ (.readData master 0x300004 0 : Emit) ∈ t.out ∧
    (contended = true → t.on F.CRY_LOCK_STAT_CONTENDED = true)

theorem LockTaken.moved {contended : Bool} (h : LockTaken master contended s)
    (hm : Moves (Sparing [F.CRY_LOCK_STAT_OWNER, F.CRY_LOCK_STAT_CONTENDED]) s t) : LockTaken master contended t := by
  obtain ⟨howner, hout, hcontended⟩ := h
  exact ⟨(get_of_sparing hm (by decide)).trans howner, hm.out.subset hout,
    fun hc => (on_congr (get_of_sparing hm (by decide))).trans (hcontended hc)⟩

theorem counted_sparing (h : Moves CountedPart s t) : Moves (Sparing [F.CRY_LOCK_STAT_OWNER, F.CRY_LOCK_STAT_CONTENDED]) s t := by
  refine h.mono fun x hx => ?_
  cases x with
  | fld f => exact (by decide : ∀ f ∈ counters, Sparing [F.CRY_LOCK_STAT_OWNER, F.CRY_LOCK_STAT_CONTENDED] (.fld f)) f hx
  | qdr => rfl
  | _ => exact hx.elim

/-- The read of a reader without rivals. -/
theorem fetch_takes (hr : Bus.inReset s (RegId.barAddr .CRY_LOCK 0 0 0) = false) (hm : Mbx.mayManage who = true)
    (ho : s.get F.CRY_LOCK_STAT_OWNER = 0) (hlt : who.master < 256) :
    LockTaken who.master false (Bus.fetch who (RegId.barAddr .CRY_LOCK 0 0 0) s) := by
  obtain ⟨hzero, hown⟩ := cryRead_taken hm hlt ho
  have hread : Bus.read who (RegId.barAddr .CRY_LOCK 0 0 0) s = ((Mbx.cryRead who s).1,
      Pmc.access (520 + 2 * Sys.blockOf (RegId.barAddr .CRY_LOCK 0 0 0)) who (RegId.barAddr .CRY_LOCK 0 0 0) s (Mbx.cryRead who s).2) := by
    rw [Bus.read, locate_barAddr rfl]
    rfl
  rw [Bus.fetch, if_neg (by simp [hr]), hread, hzero]
  exact ⟨(access_get _ _ _ _ _ _ _ _ _ (by decide)).trans hown, List.mem_cons_self, nofun⟩

/-- Readers that come together with the first one find the lock held. -/
theorem cryContend_takes (hm : Mbx.mayManage who = true) (ho : s.get F.CRY_LOCK_STAT_OWNER = 0) (hlt : who.master < 256)
    (hrivals : rivals ≠ []) : LockTaken who.master true (Mbx.cryContend who rivals s) := by
  obtain ⟨hzero, hown⟩ := cryRead_taken hm hlt ho
  have hfree : (s.get F.CRY_LOCK_STAT_OWNER == 0 && Mbx.mayManage who && !rivals.isEmpty) = true := by simp [ho, hm, hrivals]
  unfold Mbx.cryContend
  dsimp only
  rw [if_pos hfree, hzero]
  refine eachOf_preserves (p := LockTaken who.master true) ?_ fun x _ t ht => ?_
  · have hfirst : LockTaken who.master true
        (((Mbx.cryRead who s).2.emit (.readData who.master 0x300004 0)).set F.CRY_LOCK_STAT_CONTENDED) :=
      ⟨(get_set_ne (by decide)).trans hown, by simp [State.set], fun _ => on_set (by decide) (by decide)⟩
    exact hfirst.moved (counted_sparing (event_moved ..))
  · have hheld : t.get F.CRY_LOCK_STAT_OWNER ≠ 0 := ht.1 ▸ master_ne_zero hm
    rw [cryRead_held hheld]
    exact ht.moved (.emit _ .refl)

theorem cryLockAcquire_runs (hr : Bus.inReset s (RegId.barAddr .CRY_LOCK 0 0 0) = false) (hm : Mbx.mayManage ⟨master, user⟩ = true)
    (ho : s.get F.CRY_LOCK_STAT_OWNER = 0) (hlt : master < 256) : runs (.cryLockAcquire master user rivals) s (fun t =>
      t.get F.CRY_LOCK_STAT_OWNER = master ∧ (.readData master 0x300004 0 : Emit) ∈ t.out ∧
        (rivals ≠ [] → t.on F.CRY_LOCK_STAT_CONTENDED = true)) := by
  obtain ⟨howner, hout, hcontended⟩ : LockTaken master (!rivals.isEmpty)
      (Tick.race (RegId.barAddr .CRY_LOCK 0 0 0) ⟨master, user⟩ rivals (Mbx.cryContend ⟨master, user⟩ rivals) s) := by
    cases rivals with
    | nil => exact fetch_takes (who := ⟨master, user⟩) hr hm ho hlt
    | cons x rest =>
      rw [Tick.race, if_neg (by simp [hr])]
      refine cryContend_takes (who := ⟨master, user⟩) hm ?_ hlt (List.cons_ne_nil _ _)
      refine (eachOf_keeps (obs := fun t => t.get F.CRY_LOCK_STAT_OWNER) (fun _ _ _ => ?_) _).trans ((event_get _ _ _ _ _ _ _ _ _ (by decide)).trans ho)
      exact event_get _ _ _ _ _ _ _ _ _ (by decide)
  refine runs_done rfl ⟨(settle_get ..).trans howner, settle_mem _ _ hout, fun h => on_settle.trans (hcontended ?_)⟩
  simpa using h

/-- The words of KEY_DATA read 0 as they are stored. -/
theorem keyData_zero (h : ∀ i < 8, t.get F.CRY_KEY_DATA_KEY i = 0) : (List.range 8).all (fun i => t.get F.CRY_KEY_DATA_KEY i == 0) = true := by
  simpa using h

theorem clearKeyData_salt : (Mbx.clearKeyData s).get F.CRY_KEY_SALT_SALT = 0 := get_clr

theorem clearKeyData_key (hi : i < 8) : (Mbx.clearKeyData s).get F.CRY_KEY_DATA_KEY i = 0 := by
  rw [Mbx.clearKeyData, get_clr_ne (by decide)]
  exact each_reaches (p := fun _ => True) (q := fun t => t.get F.CRY_KEY_DATA_KEY i = 0) hi trivial (fun _ _ _ _ => trivial)
    (fun _ _ => get_clr) (fun _ _ hb h => (get_clr_row (by decide) hb).trans h)

theorem cryLockRelease_runs (ht : takes .CRY_LOCK s = true) (ho : s.get F.CRY_LOCK_STAT_OWNER = master) :
    runs (.cryLockRelease master user) s (fun t => t.get F.CRY_LOCK_STAT_OWNER = 0 ∧
      (List.range 8).all (fun i => t.get F.CRY_KEY_DATA_KEY i == 0) = true ∧ t.get F.CRY_KEY_SALT_SALT = 0) := by
  have hwrite : Mbx.cryWrite ⟨master, user⟩ s = Mbx.clearKeyData (s.clr F.CRY_LOCK_STAT_OWNER) := if_pos ho
  refine runs_showsRowBy rfl ht rfl (by decide) fun t h => ?_
  rw [hwrite] at h
  refine ⟨?_, keyData_zero fun i hi => (h.get _ (by decide) ..).trans (clearKeyData_key hi), (h.get _ (by decide) ..).trans clearKeyData_salt⟩
  rw [h.get _ (by decide), clearKeyData_get (by decide), get_clr]

/-! ### LOAD -/

theorem keyLoad_runs (h : Accepted s master) (hc : ctx ≤ 3071) (hp : ph < 2) (hf : transmits s ctx ph = false) (hi : i < 8) :
    runs (.keyLoad master user ctx ph) s (fun t => t.on F.CRY_KEY_STAT_BUSY = true ∧ t.get H.CRY_RESULT = 0 ∧
      t.get H.CRY_KEY ctx ph i = s.get F.CRY_KEY_DATA_KEY i ∧ t.get H.CRY_SALT ctx ph = s.get F.CRY_KEY_SALT_SALT ∧
      t.on H.CRY_VALID ctx ph = true) := by
  obtain ⟨hcode, hkey, hsalt, hvalid⟩ := load_free hc hp (transmits_keyTaken.trans hf) hi (s := keyTaken ctx ph 1 s)
  refine runs_accepted (act := Cry.load ctx ph) rfl h (a := ctx) (b := ph) (by omega) (by omega) rfl hcode (by decide)
    (load_busy.trans keyTaken_busy) fun t hbusy hresult hget => ⟨hbusy, hresult, ?_, ?_, ?_⟩
  · rw [hget _ (by decide) (by decide), hkey, keyTaken_get (by decide)]
  · rw [hget _ (by decide) (by decide), hsalt, keyTaken_get (by decide)]
  · exact (on_congr (hget _ (by decide) (by decide) ..)).trans hvalid

theorem keyLoad_held_runs (h : Accepted s master) (hc : ctx ≤ 3071) (hp : ph < 2) (hf : transmits s ctx ph = true) :
    runs (.keyLoad master user ctx ph) s (fun t => t.on F.CRY_KEY_STAT_BUSY = true ∧ t.get H.CRY_RESULT = 3) :=
  runs_refused (act := Cry.load ctx ph) rfl h (by omega) (by omega) rfl (load_held hc (transmits_keyTaken.trans hf)) (by decide)

theorem keyLoad_beyond_runs (h : Accepted s master) (hc : 3071 < ctx % 4096) :
    runs (.keyLoad master user ctx ph) s (fun t => t.on F.CRY_KEY_STAT_BUSY = true ∧ t.get H.CRY_RESULT = 2) :=
  runs_refused (act := Cry.load (ctx % 4096) (ph % 2)) rfl h rfl rfl rfl (load_beyond hc) (by decide)

theorem keyLoad_alarmed_runs (ht : takes .CRY_KEY_CMD s = true) (ho : s.get F.CRY_LOCK_STAT_OWNER = master)
    (hb : s.on F.CRY_KEY_STAT_BUSY = false) (ha : s.on F.CRY_ERASE_STAT_ALARM_NOW = true) :
    runs (.keyLoad master user ctx ph) s (fun t => t.on F.CRY_KEY_STAT_BUSY = true ∧ t.get H.CRY_RESULT = 6) := by
  refine runs_keyCmd rfl ht fun t h => ?_
  rw [Cry.keyCmd, command_alarmed ho hb ha] at h
  exact keyResult_shows (by decide) keyTaken_busy h

theorem keyLoad_busy_runs (ht : takes .CRY_KEY_CMD s = true) (ho : s.get F.CRY_LOCK_STAT_OWNER = master)
    (hb : s.on F.CRY_KEY_STAT_BUSY = true) : runs (.keyLoad master user ctx ph) s (fun t => t.get F.CRY_KEY_STAT_ERR_CODE = 7 ∧
      t.on F.CRY_INT_CAUSE_CMD_ERR = true ∧ t.get H.CRY_RESULT = s.get H.CRY_RESULT ∧ t.on F.CRY_KEY_STAT_BUSY = true ∧
      (List.range 8).all (fun i => t.get F.CRY_KEY_DATA_KEY i == 0) = true) := by
  refine runs_keyCmd rfl ht fun t h => ?_
  rw [Cry.keyCmd, command_busy ho hb] at h
  have hget (g : Machine.Field) (hg : uncounted g = true) (hk : clearOf [F.CRY_KEY_DATA_KEY, F.CRY_KEY_SALT_SALT] g = true) :
      t.get g = ((s.put F.CRY_KEY_STAT_ERR_CODE 7).set F.CRY_INT_CAUSE_CMD_ERR).get g := by
    rw [h.get g hg, clearKeyData_get hk]
  refine ⟨?_, ?_, ?_, ?_, keyData_zero fun i hi => (h.get _ (by decide) ..).trans (clearKeyData_key hi)⟩
  · rw [hget _ (by decide) (by decide), get_set_ne (by decide), get_put_lt (by decide) (by decide)]
  · rw [State.on, hget _ (by decide) (by decide)]
    exact on_set (by decide) (by decide)
  · rw [hget _ (by decide) (by decide), get_set_ne (by decide), get_put_ne (by decide)]
  · rw [State.on, hget _ (by decide) (by decide), get_set_ne (by decide), get_put_ne (by decide)]
    exact hb

theorem keyLoad_stranger_runs (ht : takes .CRY_KEY_CMD s = true) (ho : s.get F.CRY_LOCK_STAT_OWNER ≠ master) :
    runs (.keyLoad master user ctx ph) s (fun t => t.on F.CRY_INT_CAUSE_NOT_OWNER = true ∧
      t.get F.CRY_KEY_STAT_BUSY = s.get F.CRY_KEY_STAT_BUSY ∧ t.get H.CRY_RESULT = s.get H.CRY_RESULT) := by
  refine runs_keyCmd rfl ht fun t h => ?_
  rw [Cry.keyCmd, command_stranger ho] at h
  rw [h.on _ (by decide), h.get _ (by decide), h.get _ (by decide), get_set_ne (by decide), get_set_ne (by decide)]
  exact ⟨on_set (by decide) (by decide), rfl, rfl⟩

/-! ### ROLL, CLEAR, CLEAR_CTX and an undefined operation -/

theorem keyRoll_runs (h : Accepted s master) (hc : ctx ≤ 3071) (hp : ph < 2) (hv : s.on H.CRY_VALID ctx ph = true) :
    runs (.keyRoll master user ctx ph) s (fun t => t.on F.CRY_KEY_STAT_BUSY = true ∧ t.get H.CRY_RESULT = 0 ∧
      t.get H.CRY_ROLL = 1 + 2 * ctx + ph ∧ t.get H.CRY_TX_PH ctx = s.get H.CRY_TX_PH ctx) := by
  have hvalid : (keyTaken ctx ph 2 s).on H.CRY_VALID ctx ph = true := (on_congr (keyTaken_get (by decide))).trans hv
  have hroll := roll_valid hc hvalid
  have hlt : 1 + 2 * ctx + ph % 2 < 2 ^ 14 := by omega
  refine runs_accepted (act := Cry.roll ctx ph) rfl h (a := ctx) (b := ph) (by omega) (by omega) rfl (congrArg Prod.fst hroll) (Nat.zero_lt_succ 7)
    ?_ fun t hbusy hresult hget => ⟨hbusy, hresult, ?_, ?_⟩
  · rw [hroll, on_put_ne (by decide), keyTaken_busy]
  · rw [hget _ (by decide) (by decide), hroll, get_put_lt (by decide) hlt, Nat.mod_eq_of_lt hp]
  · rw [hget _ (by decide) (by decide), hroll, get_put_ne (by decide), keyTaken_get (by decide)]

theorem keyRoll_empty_runs (h : Accepted s master) (hc : ctx ≤ 3071) (hp : ph < 2) (hv : s.on H.CRY_VALID ctx ph = false) :
    runs (.keyRoll master user ctx ph) s (fun t => t.on F.CRY_KEY_STAT_BUSY = true ∧ t.get H.CRY_RESULT = 4) :=
  runs_refused (act := Cry.roll ctx ph) rfl h (by omega) (by omega) rfl
    (roll_empty hc ((on_congr (keyTaken_get (by decide))).trans hv)) (by decide)

theorem keyRoll_beyond_runs (h : Accepted s master) (hc : 3071 < ctx % 4096) :
    runs (.keyRoll master user ctx ph) s (fun t => t.on F.CRY_KEY_STAT_BUSY = true ∧ t.get H.CRY_RESULT = 2) :=
  runs_refused (act := Cry.roll (ctx % 4096) (ph % 2)) rfl h rfl rfl rfl (roll_beyond hc) (by decide)

theorem keyClear_runs (h : Accepted s master) (hc : ctx ≤ 3071) (hp : ph < 2) (hf : transmits s ctx ph = false) (hi : i < 8) :
    runs (.keyClear master user ctx ph) s (fun t => t.on F.CRY_KEY_STAT_BUSY = true ∧ t.get H.CRY_RESULT = 0 ∧
      t.on H.CRY_VALID ctx ph = false ∧ t.get H.CRY_KEY ctx ph i = 0) := by
  have hclear := clear_free hc (transmits_keyTaken.trans hf) (s := keyTaken ctx ph 3 s)
  refine runs_accepted (act := Cry.clear ctx ph) rfl h (a := ctx) (b := ph) (by omega) (by omega) rfl (congrArg Prod.fst hclear) (Nat.zero_lt_succ 7)
    ?_ fun t hbusy hresult hget => ⟨hbusy, hresult, ?_, ?_⟩
  · rw [hclear, State.on, empty_get (by decide)]
    exact keyTaken_busy
  · rw [State.on, hget _ (by decide) (by decide), hclear]
    exact empty_valid
  · rw [hget _ (by decide) (by decide), hclear, empty_key hi]

theorem keyClear_held_runs (h : Accepted s master) (hc : ctx ≤ 3071) (hp : ph < 2) (hf : transmits s ctx ph = true) :
    runs (.keyClear master user ctx ph) s (fun t => t.on F.CRY_KEY_STAT_BUSY = true ∧ t.get H.CRY_RESULT = 3) :=
  runs_refused (act := Cry.clear ctx ph) rfl h (by omega) (by omega) rfl (clear_held hc (transmits_keyTaken.trans hf)) (by decide)

theorem keyClearCtx_runs (h : Accepted s master) (hc : ctx ≤ 3071) (hu : Cry.used s ctx = false) :
    runs (.keyClearCtx master user ctx) s (fun t => t.on F.CRY_KEY_STAT_BUSY = true ∧ t.get H.CRY_RESULT = 0 ∧
      t.on H.CRY_VALID ctx 0 = false ∧ t.on H.CRY_VALID ctx 1 = false ∧ t.get H.CRY_NEXT ctx = 0 ∧ t.get H.CRY_LAST ctx = 0 ∧
      t.on H.CRY_SYNC ctx = false) := by
  obtain ⟨hcode, hzero, hone, hnext, hlast, hsync⟩ := clearCtx_unused hc (used_keyTaken.trans hu) (s := keyTaken ctx 0 4 s)
  refine runs_accepted (act := Cry.clearCtx ctx) rfl h (a := ctx) (b := 0) (by omega) rfl rfl hcode (by decide)
    (clearCtx_busy.trans keyTaken_busy) fun t hbusy hresult hget => ⟨hbusy, hresult, ?_, ?_, ?_, ?_, ?_⟩
  · exact (on_congr (hget _ (by decide) (by decide) ..)).trans hzero
  · exact (on_congr (hget _ (by decide) (by decide) ..)).trans hone
  · exact (hget _ (by decide) (by decide) ..).trans hnext
  · exact (hget _ (by decide) (by decide) ..).trans hlast
  · exact (on_congr (hget _ (by decide) (by decide) ..)).trans hsync

theorem keyClearCtx_used_runs (h : Accepted s master) (hc : ctx ≤ 3071) (hu : Cry.used s ctx = true) :
    runs (.keyClearCtx master user ctx) s (fun t => t.on F.CRY_KEY_STAT_BUSY = true ∧ t.get H.CRY_RESULT = 5) :=
  runs_refused (act := Cry.clearCtx ctx) rfl h (by omega) rfl rfl (clearCtx_used hc (used_keyTaken.trans hu)) (by decide)

theorem keyCmdUndefined_runs (h : Accepted s master) (hop : op = 0 ∨ op = 5 ∨ op = 6 ∨ op = 7) :
    runs (.keyCmdUndefined master user ctx ph op) s (fun t => t.on F.CRY_KEY_STAT_BUSY = true ∧ t.get H.CRY_RESULT = 1) := by
  have hrow : writesKeyCmd (.keyCmdUndefined master user ctx ph op) master user ctx ph op s := congrArg (done s) (if_neg (by omega))
  refine runs_refused (act := fun t => (1, t)) hrow h rfl rfl ?_ rfl (by decide)
  rcases hop with rfl | rfl | rfl | rfl <;> rfl

/-! ### KEY_CMD_COMPLETE (R216, R218) -/

theorem keyForgotten_key (hi : i < 8) : (keyForgotten s).get F.CRY_KEY_DATA_KEY i = 0 := clearKeyData_key hi

theorem complete_key (hb : s.on F.CRY_KEY_STAT_BUSY = true) (hi : i < 8) : (Cry.complete s).get F.CRY_KEY_DATA_KEY i = 0 := by
  by_cases hr : s.get H.CRY_RESULT = 0
  · rw [complete_done hb hr, get_set_ne (by decide), keyForgotten_key hi]
  · rw [complete_err hb hr, get_set_ne (by decide), keyForgotten_key hi]

theorem keyCmdComplete_runs (hb : s.on F.CRY_KEY_STAT_BUSY = true) : runs .keyCmdComplete s (fun t => t.on F.CRY_KEY_STAT_BUSY = false ∧
    t.get F.CRY_KEY_STAT_ERR_CODE = s.get H.CRY_RESULT ∧ (List.range 8).all (fun i => t.get F.CRY_KEY_DATA_KEY i == 0) = true ∧
    (s.get H.CRY_RESULT = 0 → t.on F.CRY_INT_CAUSE_CMD_DONE = true) ∧ (s.get H.CRY_RESULT ≠ 0 → t.on F.CRY_INT_CAUSE_CMD_ERR = true)) := by
  obtain ⟨hbusy, hcode⟩ := complete_shows_code hb
  refine runs_done rfl ⟨on_settle.trans hbusy, (settle_get ..).trans hcode, keyData_zero fun i hi => ?_, fun hr => ?_, fun hr => ?_⟩
  · exact (settle_get ..).trans (complete_key hb hi)
  · rw [on_settle, complete_done hb hr, on_set (by decide) (by decide)]
  · rw [on_settle, complete_err hb hr, on_set (by decide) (by decide)]

/-- The ROLL that waits names its context and its phase. -/
theorem rolled_phase (hr : s.get H.CRY_ROLL = 1 + 2 * ctx + ph) (hc : ctx ≤ 3071) (hp : ph < 2) : (Cry.rolled s).get H.CRY_TX_PH ctx = ph := by
  have hctx : (1 + 2 * ctx + ph - 1) / 2 = ctx := by omega
  have hph : (1 + 2 * ctx + ph - 1) % 2 = ph := by omega
  have hput : (s.put H.CRY_TX_PH ph ctx).get H.CRY_TX_PH ctx = ph := get_put_lt (has_row rfl (Nat.lt_succ_of_le hc)) hp
  rw [Cry.rolled, hr]
  dsimp only
  rw [hctx, hph, if_neg (by omega)]
  split
  · exact hput
  · exact hput

theorem keyCmdComplete_roll_runs (hb : s.on F.CRY_KEY_STAT_BUSY = true) (hr : s.get H.CRY_RESULT = 0)
    (hroll : s.get H.CRY_ROLL = 1 + 2 * ctx + ph) (hc : ctx ≤ 3071) (hp : ph < 2) :
    runs .keyCmdComplete s (fun t => t.on F.CRY_KEY_STAT_BUSY = false ∧ t.get H.CRY_TX_PH ctx = ph ∧ t.get H.CRY_ROLL = 0) := by
  have hwaits : (keyEnded s).get H.CRY_ROLL = 1 + 2 * ctx + ph := by
    rw [keyEnded, get_put_ne (by decide), get_clr_ne (by decide), get_clr_ne (by decide), hroll]
  refine runs_done rfl ⟨on_settle.trans (complete_shows_code hb).1, ?_, ?_⟩
  · rw [settle_get, complete_done hb hr, get_set_ne (by decide), keyForgotten_get (by decide), rolled_phase hwaits hc hp]
  · rw [settle_get, complete_done hb hr, get_set_ne (by decide), keyForgotten, clearKeyData_get (by decide), get_clr]

/-! ### ERASURE and the mirror of the counters (R220, R223) -/

/-- The vault's arrays whose loss the statement shows. -/
theorem eraseVault_zero (hc : c ≤ 3071) (hp : ph < 2) (hi : i < 8) : (Cry.eraseVault s).get H.CRY_VALID c ph = 0 ∧
    (Cry.eraseVault s).get H.CRY_KEY c ph i = 0 ∧ (Cry.eraseVault s).get H.CRY_NEXT c = 0 := by
  refine ⟨get_wipes (by decide) rfl ?_ ?_, get_wipes (by decide) rfl ?_ ?_, get_wipes (by decide) rfl ?_ ?_⟩
  all_goals
    simp only [Field.range, Field.key, Shape.at, H.CRY_VALID, H.CRY_KEY, H.CRY_NEXT, fld, shape1, shape2, shape3, OfNat.ofNat_ne_zero, if_false]
    omega

theorem alarm_lt (ha : Cry.alarmActs s n = true) : n < 6 := by
  unfold Cry.alarmActs at ha
  split at ha
  · decide
  · decide
  · exact Nat.lt_succ_of_le (of_decide_eq_true ha)

/-- A field that is neither counted nor of the lock and the staged key reads as before, whether or not the lock was held. -/
theorem cryBreak_keeps (hc : uncounted g = true)
    (h : clearOf [F.CRY_KEY_DATA_KEY, F.CRY_KEY_SALT_SALT, F.CRY_LOCK_STAT_OWNER, F.CRY_LOCK_STAT_LOCK_BROKEN] g = true) :
    (Mbx.cryBreak s).get g i j k = s.get g i j k := by
  have hm {f : Machine.Field} (hf : f ∈ _) : apart f g = true := List.all_eq_true.mp h f hf
  cases ho : s.on F.CRY_LOCK_STAT_OWNER with
  | true => rw [cryBreak_get ho hc (by simp [clearOf, hm]), cryFreed, get_set_ne (hm (by decide)), get_clr_ne (hm (by decide))]
  | false => rw [Mbx.cryBreak, if_neg (by simp [ho])]

theorem alarmShown_bit (hn : n < 6) : (alarmShown n present s).bit F.CRY_ERASE_STAT_CAUSE n = true := by
  rw [State.bit, alarmShown_get (by decide), get_set_ne (by decide), get_count_ne (by decide)]
  exact (bit_setBit (by decide) hn).trans (by simp)

theorem alarmShown_count : (alarmShown n present s).get F.CRY_ERASE_STAT_COUNT =
    min (2 ^ F.CRY_ERASE_STAT_COUNT.width - 1) (s.get F.CRY_ERASE_STAT_COUNT + 1) := by
  rw [alarmShown_get (by decide), get_set_ne (by decide), get_count (by decide), get_setBit_ne (by decide)]

theorem alarmShown_erased : (alarmShown n present s).on F.CRY_INT_CAUSE_ERASED = true :=
  (on_congr (alarmShown_get (by decide))).trans (on_set (by decide) (by decide))

theorem alarmShown_now : (alarmShown n present s).on F.CRY_ERASE_STAT_ALARM_NOW = present := by
  have hlt : b01 present < 2 ^ 1 := by cases present <;> decide
  rw [State.on, alarmShown, get_put_lt (by decide) hlt]
  cases present <;> rfl

theorem erasure_runs (ha : Cry.alarmActs s n = true) (hc : c ≤ 3071) (hp : ph < 2) (hi : i < 8) :
    runs (.erasure n present) s (fun t => t.on H.CRY_VALID c ph = false ∧ t.get H.CRY_KEY c ph i = 0 ∧ t.get H.CRY_NEXT c = 0 ∧
      t.bit F.CRY_ERASE_STAT_CAUSE n = true ∧
      t.get F.CRY_ERASE_STAT_COUNT = min (2 ^ F.CRY_ERASE_STAT_COUNT.width - 1) (s.get F.CRY_ERASE_STAT_COUNT + 1) ∧
      t.on F.CRY_INT_CAUSE_ERASED = true ∧ t.on F.CRY_ERASE_STAT_ALARM_NOW = present ∧ t.get F.CRY_LOCK_STAT_OWNER = 0) := by
  obtain ⟨hvalid, hkey, hnext⟩ := eraseVault_zero (s := s) hc hp hi
  refine runs_done (congrArg (done s) (erasure_acts ha)) ⟨?_, ?_, ?_, ?_, ?_, ?_, ?_, (settle_get ..).trans cryBreak_owner⟩
  · rw [State.on, settle_get, cryBreak_keeps (by decide) (by decide), alarmShown_get_other (by decide), hvalid]
    rfl
  · rw [settle_get, cryBreak_keeps (by decide) (by decide), alarmShown_get_other (by decide), hkey]
  · rw [settle_get, cryBreak_keeps (by decide) (by decide), alarmShown_get_other (by decide), hnext]
  · rw [State.bit, settle_get, cryBreak_keeps (by decide) (by decide)]
    exact alarmShown_bit (alarm_lt ha)
  · rw [settle_get, cryBreak_keeps (by decide) (by decide), alarmShown_count, eraseVault_get (by decide)]
  · rw [State.on, settle_get, cryBreak_keeps (by decide) (by decide)]
    exact alarmShown_erased
  · rw [State.on, settle_get, cryBreak_keeps (by decide) (by decide)]
    exact alarmShown_now

/-- The rounds of the mirror change no field, so that each context is sent as it stood. -/
theorem cryCounterMirror_runs (hactive : s.get F.PEER_STAT_STATE = 4) (hc : c < 3072) :
    runs .cryCounterMirror s (fun t => (.peer 7 (Cry.mirrorWords s c) : Emit) ∈ t.out) := by
  refine runs_done (congrArg (done s) (if_pos hactive)) (settle_mem _ _ ?_)
  exact each_reaches (p := fun t => Cry.mirrorWords t c = Cry.mirrorWords s c)
    (q := fun t => (.peer 7 (Cry.mirrorWords s c) : Emit) ∈ t.out) hc rfl (fun _ _ _ h => h)
    (fun t h => by rw [← h]; exact List.mem_cons_self) (fun _ _ _ h => List.mem_cons_of_mem _ h)

/-- Settles O41, with one lemma for each command and case. -/
theorem keyVaultCommandResults : Obligations.KeyVaultCommandResults := by
  unfold Obligations.KeyVaultCommandResults
  exact ⟨fun s master user rivals => cryLockAcquire_runs,
    fun s master user ht ho _ => cryLockRelease_runs ht ho,
    fun s master user ctx ph i ht ho hb ha => keyLoad_runs ⟨ht, ho, hb, ha⟩,
    fun s master user ctx ph ht ho hb ha => keyRoll_runs ⟨ht, ho, hb, ha⟩,
    fun s master user ctx ph i ht ho hb ha => keyClear_runs ⟨ht, ho, hb, ha⟩,
    fun s master user ctx ht ho hb ha => keyClearCtx_runs ⟨ht, ho, hb, ha⟩,
    fun s master user ctx ph op ht ho hb ha => keyCmdUndefined_runs ⟨ht, ho, hb, ha⟩,
    fun s master user ctx ph ht ho hb ha hc hp hu hx => keyLoad_held_runs ⟨ht, ho, hb, ha⟩ hc hp (transmits_of hu hx),
    fun s master user ctx ph ht ho hb ha => keyLoad_beyond_runs ⟨ht, ho, hb, ha⟩,
    fun s master user ctx ph ht ho hb ha => keyRoll_beyond_runs ⟨ht, ho, hb, ha⟩,
    fun s master user ctx ph ht ho hb ha => keyRoll_empty_runs ⟨ht, ho, hb, ha⟩,
    fun s master user ctx ph ht ho hb ha hc hp hu hx => keyClear_held_runs ⟨ht, ho, hb, ha⟩ hc hp (transmits_of hu hx),
    fun s master user ctx ht ho hb ha => keyClearCtx_used_runs ⟨ht, ho, hb, ha⟩,
    fun s master user ctx ph => keyLoad_alarmed_runs,
    fun s master user ctx ph => keyLoad_busy_runs,
    fun s master user ctx ph => keyLoad_stranger_runs,
    fun s => keyCmdComplete_runs,
    fun s ctx ph => keyCmdComplete_roll_runs,
    fun s cause present c ph i => erasure_runs,
    fun s c => cryCounterMirror_runs⟩

end Sys2Proof.Proofs

/-! SUPPORT. What the registers show of two machines that differ in key material alone (O20; R218, R223). -/
namespace Sys2Proof.Proofs
open Sys2Proof Sys2Proof.Machine Sys2Proof.Laws

variable {s t : State} {e f g : Machine.Field} {a b i j k l m n v w x y z : Nat} {r : RegId} {who : Pmc.Who}

/-- The words of the keys that slots hold, and those staged for a LOAD. -/
def keyFields : List Machine.Field := [H.CRY_KEY, F.CRY_KEY_DATA_KEY, F.CRY_KEY_SALT_SALT]

/-- `t` reads as `s` does in every field apart from the keys, and in what reads show beside the register table. -/
structure SameButKeys (s t : State) : Prop where
  get : ∀ g, clearOf keyFields g = true → ∀ i j k, t.get g i j k = s.get g i j k
  vlk : t.vlk = s.vlk
  brx : t.brx = s.brx
  flw : t.flw = s.flw
  qdr : t.qdr = s.qdr
  held : t.held = s.held
  drawn : t.drawn = s.drawn

theorem sameButKeys_put (hf : f ∈ keyFields) : SameButKeys s (s.put f v i j k) :=
  ⟨fun _ hg _ _ _ => get_put_ne (List.all_eq_true.mp hg f hf), State_put_vlk .., State_put_brx .., State_put_flw .., State_put_qdr ..,
    State_put_held .., State_put_drawn ..⟩

namespace SameButKeys

/-- The same write to both. -/
theorem put (h : SameButKeys s t) (f : Machine.Field) (v i j k : Nat) : SameButKeys (s.put f v i j k) (t.put f v i j k) :=
  ⟨fun g hg _ _ _ => get_put_congr (h.get g hg ..), by simp [h.vlk], by simp [h.brx], by simp [h.flw], by simp [h.qdr], by simp [h.held],
    by simp [h.drawn]⟩

theorem drew (h : SameButKeys s t) : SameButKeys s.drew t.drew :=
  ⟨h.get, h.vlk, h.brx, h.flw, h.qdr, h.held, congrArg (· + 1) h.drawn⟩

theorem each {round : Nat → State → State} (h : SameButKeys s t)
    (hround : ∀ i s t, SameButKeys s t → SameButKeys (round i s) (round i t)) (n : Nat) : SameButKeys (s.each n round) (t.each n round) := by
  induction n with
  | zero => exact h
  | succ n ih =>
    rw [each_succ, each_succ]
    exact hround _ _ _ ih

variable (h : SameButKeys s t)
include h

theorem on (g : Machine.Field) (hg : clearOf keyFields g = true) (i j k : Nat) : t.on g i j k = s.on g i j k := on_congr (h.get g hg i j k)
theorem bit (g : Machine.Field) (hg : clearOf keyFields g = true) (b i j k : Nat) : t.bit g b i j k = s.bit g b i j k :=
  bit_congr (h.get g hg i j k)

theorem free (w : Nat) : t.free w = s.free w := by rw [State.free, h.drawn, State.free]

/-! ### The fields of a register, and the interrupt summary -/

omit h in
/-- Of the fields that registers have, those of key material alone are no common ones, and they are write-only. -/
theorem all_fields_keyless (r : RegId) : r.fields.all (fun f => f.access == .wo || clearOf keyFields f) = true := by
  cases r
  all_goals decide +kernel

theorem shownField (hf : f ∈ r.fields) (stored : Option Nat) : Bus.shownField t stored f i j k = Bus.shownField s stored f i j k := by
  have hfield := List.all_eq_true.mp (all_fields_keyless r) f hf
  rw [Bool.or_eq_true, beq_iff_eq] at hfield
  rcases hfield with hwo | hclear
  · simp only [Bus.shownField, hwo]
  · simp only [Bus.shownField, h.get f hclear]

theorem fieldsWord (stored : Option Nat) : Bus.fieldsWord t stored r i j k = Bus.fieldsWord s stored r i j k :=
  List.foldl_ext _ _ _ fun _ f hf => by rw [h.shownField hf]

theorem storedWrite (a : Nat) : Bus.storedWrite t a = Bus.storedWrite s a := by rw [Bus.storedWrite, h.held, Bus.storedWrite]

theorem word (hr : r.fields.all (clearOf keyFields) = true) : t.word r i j k = s.word r i j k :=
  List.foldl_ext _ _ _ fun _ f hf => by rw [h.get f (List.all_eq_true.mp hr f hf)]

theorem summary : t.summary = s.summary := by
  have hengine : t.engineInterrupt = s.engineInterrupt := by
    simp (disch := decide) only [State.engineInterrupt, h.get, h.word]
  have hblocks : ∀ x ∈ interruptBlocks, clearOf keyFields x.2.2 = true ∧ x.2.1.fields.all (clearOf keyFields) = true := by decide
  rw [State.summary, State.summary, hengine]
  refine List.foldl_ext _ _ _ fun _ x hx => ?_
  obtain ⟨hmask, hcause⟩ := hblocks x hx
  simp only [h.get _ hmask, h.word hcause]

/-! ### What the blocks form as they are read -/

theorem journalWord (m n w : Nat) : Eng.journalWord t m n w = Eng.journalWord s m n w := by
  simp (disch := decide) only [Eng.journalWord, h.on, h.get]

theorem spillParts : Eng.spillParts t = Eng.spillParts s := by simp (disch := decide) only [Eng.spillParts, h.get, h.bit]

theorem spillMap : Eng.spillMap t = Eng.spillMap s := by simp (disch := decide) only [Eng.spillMap, h.get, h.bit]

theorem spillSize : Eng.spillSize t = Eng.spillSize s := by rw [Eng.spillSize, h.spillParts, Eng.spillSize]

theorem spilled : Eng.spilled t = Eng.spilled s := by
  rw [Eng.spilled, h.spillSize, h.spillMap, h.get _ (by decide), h.get _ (by decide), Eng.spilled]

theorem spillRead (w : Nat) : Eng.spillRead t w = Eng.spillRead s w := by
  simp (disch := decide) only [Eng.spillRead, h.spillSize, h.spilled, h.spillParts, h.get, h.qdr]

theorem activeEngines : Pmc.activeEngines t = Pmc.activeEngines s := by simp (disch := decide) only [Pmc.activeEngines, h.get]

theorem sampleWord (w : Nat) : Pmc.ringWord t w = Pmc.ringWord s w := by simp (disch := decide) only [Pmc.ringWord, h.get]

theorem readHi (m i : Nat) : Pmc.readHi m i t = Pmc.readHi m i s := by simp (disch := decide) only [Pmc.readHi, h.on, h.get]

theorem counterWords : Cry.counterWords t = Cry.counterWords s := by simp (disch := decide) only [Cry.counterWords, Cry.ctx, h.get]

theorem counterWord (m i : Nat) : Cry.counterWord t m i = Cry.counterWord s m i := by
  simp (disch := decide) only [Cry.counterWord, h.counterWords, h.on, h.get]

theorem ctxStat : Cry.ctxStat t = Cry.ctxStat s := by simp (disch := decide) only [Cry.ctxStat, Cry.ctx, Cry.used, h.on, h.get]

theorem leaf : t.leaf = s.leaf := by simp (disch := decide) only [State.leaf, h.get]

theorem activeEntry (d : Nat) : t.get (Scm.active t d) i = s.get (Scm.active s d) i := by
  rw [Scm.active, h.leaf, Scm.active]
  split
  · exact h.get _ (by decide) ..
  · exact h.get _ (by decide) ..

theorem entry (f : Nat) : Flw.entry t f = Flw.entry s f := by simp (disch := decide) only [Flw.entry, h.get]

theorem slotGranted (k mfn fn : Nat) : Vlk.slotGranted t k mfn fn = Vlk.slotGranted s k mfn fn := by
  simp (disch := decide) only [Vlk.slotGranted, Vlk.allocated, Vlk.called, Vlk.gverAt, h.on, h.get, h.vlk]

theorem blocked (f : Nat) : Flw.blocked t f = Flw.blocked s f := by
  simp (disch := decide) only [Flw.blocked, Flw.inSet, Ltx.subcarriers, h.entry, h.slotGranted, h.leaf, h.get]

theorem isHeld (f : Nat) : Flw.isHeld t f = Flw.isHeld s f := by simp only [Flw.isHeld, Flw.heldOf, Flw.sleepQueue, h.entry, h.flw]

/-! ### Raw conditions (R159 to R172) -/

theorem awake : Rest.awake t = Rest.awake s := by simp (disch := decide) only [Rest.awake, Rest.state, h.get]

theorem raw (v : Nat) : Bus.raw t v = Bus.raw s v := by rw [Bus.raw, h.awake, Bus.raw]

theorem onTree : Frm.onTree t = Frm.onTree s := by simp (disch := decide) only [Frm.onTree, h.leaf, h.on]

theorem rawLine : Frm.rawLine t = Frm.rawLine s := by
  simp (disch := decide) only [Frm.rawLine, Frm.inFrame, Frm.rawTim, h.onTree, h.on, h.get]

theorem upLeaves (k : Nat) : Frm.upLeaves t k = Frm.upLeaves s k := by
  simp (disch := decide) only [Frm.upLeaves, Scm.grantHolders, h.on, h.get]

theorem subcarriers : Lrx.subcarriers t = Lrx.subcarriers s := congrArg (· + 1) (h.get _ (by decide) ..)

theorem judged (k : Nat) : Brx.judged t k = Brx.judged s k := by
  simp (disch := decide) only [Brx.judged, Brx.usMode, h.subcarriers, h.leaf, h.get]

theorem rawStream (k l : Nat) : Frm.rawStream t k l = Frm.rawStream s k l := by
  simp (disch := decide) only [Frm.rawStream, Brx.isGone, h.judged, h.on, h.bit, h.get]

theorem rawSc (k : Nat) : Frm.rawSc t k = Frm.rawSc s k := by
  simp (disch := decide) only [Frm.rawSc, h.onTree, h.upLeaves, h.rawStream, h.on, h.get]

theorem carrier (e : Flw.Entry) : Machine.Frm.carrier t e = Machine.Frm.carrier s e := by
  simp (disch := decide) only [Machine.Frm.carrier, h.subcarriers, h.onTree, h.upLeaves, h.rawStream, h.rawLine, h.on]

theorem rawFlow (f : Nat) : Frm.rawFlow t f = Frm.rawFlow s f := by
  simp (disch := decide) only [Frm.rawFlow, h.entry, h.carrier, h.get]

theorem clientOf (n : Nat) : Hsl.clientOf t n = Hsl.clientOf s n := by
  simp (disch := decide) only [Hsl.clientOf, Hsl.enabled, Hsl.lanes, Hsl.width, Hsl.typeOf, h.on, h.get]

theorem rawLane (n : Nat) : Frm.rawLane t n = Frm.rawLane s n := by
  simp (disch := decide) only [Frm.rawLane, Hsl.rawLol, Hsl.rawLofLane, Hsl.typeOf, h.clientOf, h.on, h.get]

theorem enabled (c : Nat) : Hsl.enabled t c = Hsl.enabled s c := h.on _ (by decide) ..
theorem typeOf (c : Nat) : Hsl.typeOf t c = Hsl.typeOf s c := h.get _ (by decide) ..

theorem rawLoa (c : Nat) : Hsl.rawLoa t c = Hsl.rawLoa s c := by
  have hstate : Hsl.state t c = Hsl.state s c := h.get _ (by decide) ..
  rw [Hsl.rawLoa, h.enabled, hstate, Hsl.rawLoa]

theorem rawCli (c : Nat) : Frm.rawCli t c = Frm.rawCli s c := by
  rw [Frm.rawCli, h.enabled, h.typeOf, h.rawLoa, h.get _ (by decide), h.on _ (by decide), Frm.rawCli]

/-! ### The register that is read -/

omit h in
/-- The dword of a message is its receiver's and its sender's alone (R273). -/
theorem readData_fst (who : Pmc.Who) (n i : Nat) (s : State) :
    (Mbx.readData who n i s).1 =
      if Mbx.isReceiver s n who.master ∨ Mbx.isSender s n who.master then s.get F.MBX_DATA_DATA n i else 0 := by
  rw [Mbx.readData]
  dsimp only
  split_ifs <;> simp_all

theorem shown (m a : Nat) (r : RegId) (i j k : Nat) : Bus.shown m a r i j k t = Bus.shown m a r i j k s := by
  simp (disch := decide) only [Bus.shown, h.fieldsWord, h.storedWrite, h.summary, h.journalWord, h.spilled, h.spillRead, h.activeEngines,
    h.sampleWord, h.readHi, h.ctxStat, h.counterWord, Cry.ctx, h.blocked, h.isHeld, h.raw, h.rawLine, h.rawSc, h.rawFlow, h.rawLane, h.rawCli,
    h.activeEntry, Brx.recWord, Brx.colWord, h.brx, h.leaf, Vlk.ringLen, Vlk.ringWord, h.vlk, h.on, h.get]

theorem lockRead (who : Pmc.Who) (n : Nat) : (Mbx.lockRead who n t).1 = (Mbx.lockRead who n s).1 := by
  simp (disch := decide) only [Mbx.lockRead, h.get]
  split_ifs <;> rfl

theorem cryRead (who : Pmc.Who) : (Mbx.cryRead who t).1 = (Mbx.cryRead who s).1 := by
  simp (disch := decide) only [Mbx.cryRead, h.get]
  split_ifs <;> rfl

theorem readData (who : Pmc.Who) (n i : Nat) : (Mbx.readData who n i t).1 = (Mbx.readData who n i s).1 := by
  have hreceiver : Mbx.isReceiver t n who.master = Mbx.isReceiver s n who.master := by
    simp (disch := decide) only [Mbx.isReceiver, Mbx.bound, h.on, h.get]
  have hsender : Mbx.isSender t n who.master = Mbx.isSender s n who.master := by
    simp (disch := decide) only [Mbx.isSender, Mbx.bound, h.on, h.get]
  rw [readData_fst, readData_fst, hreceiver, hsender, h.get _ (by decide)]

theorem renew : SameButKeys (Lcm.renew s) (Lcm.renew t) := by
  rw [Lcm.renew, Lcm.renew, State.clr, State.clr]
  refine (h.each (fun i s t hst => ?_) 4).put ..
  rw [hst.free]
  exact (hst.put ..).drew

theorem readChallenge : (Lcm.readChallenge t).1 = (Lcm.readChallenge s).1 := by
  rw [Lcm.readChallenge, Lcm.readChallenge, h.get _ (by decide)]
  dsimp only
  split
  · exact h.renew.get _ (by decide) ..
  · exact h.get _ (by decide) ..

theorem readGreg (n x r : Nat) : (Bus.readGreg n x r t).1 = (Bus.readGreg n x r s).1 := by
  have hthread : Eng.thread t n x = Eng.thread s n x := h.get _ (by decide) ..
  have hreg : Eng.reg t n x r = Eng.reg s n x r := by simp (disch := decide) only [Eng.reg, h.get]
  rw [Bus.readGreg, Bus.readGreg, hthread, apply_ite Prod.fst, apply_ite Prod.fst, h.free, hreg]

theorem timeLo : Pmc.timeLo t = Pmc.timeLo s := by rw [Pmc.timeLo, h.get _ (by decide), h.free, Pmc.timeLo]

theorem memRead (n : Nat) : (Eng.memRead n t).1 = (Eng.memRead n s).1 := by simp (disch := decide) only [Eng.memRead, h.on, h.get]

theorem journalRead (who : Pmc.Who) (i j : Nat) :
    (if j = 0 then Eng.journalFirst who.master i t else (Eng.journalWord t who.master i j, t)).1 =
      (if j = 0 then Eng.journalFirst who.master i s else (Eng.journalWord s who.master i j, s)).1 := by
  split
  · simp (disch := decide) only [Eng.journalFirst, h.get]
  · exact h.journalWord ..

theorem readReg (who : Pmc.Who) (a : Nat) (r : RegId) (i j k : Nat) : (Bus.readReg who a r i j k t).1 = (Bus.readReg who a r i j k s).1 := by
  unfold Bus.readReg
  split
  · exact h.readData ..
  · exact h.lockRead ..
  · exact h.cryRead ..
  · exact congrArg (·.getD 0 0) h.counterWords
  · exact congrArg (· % 2 ^ 32) (h.get _ (by decide) ..)
  · exact h.timeLo
  · exact h.journalRead ..
  · exact h.memRead ..
  · exact h.readGreg ..
  · split
    · exact h.readChallenge
    · exact h.shown who.master a .LCM_CHALLENGE i j k
  · exact h.shown who.master a _ i j k

theorem read (who : Pmc.Who) (a : Nat) : (Bus.read who a t).1 = (Bus.read who a s).1 := by
  rw [Bus.read, Bus.read]
  split
  · rfl
  · exact h.readReg ..

end SameButKeys

/-- Settles O20: it holds. Keys stand in write-only fields and in fields that no register has, and nothing that a read forms looks at
  them, so two states that read alike in every other field answer alike. -/
theorem keysAreNeverRead : Obligations.KeysAreNeverRead := by
  unfold Obligations.KeysAreNeverRead
  intro s who a v c ph i
  exact ⟨(sameButKeys_put (by decide)).read who a, (sameButKeys_put (by decide)).read who a, (sameButKeys_put (by decide)).read who a⟩

end Sys2Proof.Proofs
